-- ==== Sys2Proof/Word.lean ====
section
/-!
DEFINITION. The words of the model: a control-window register word, and the sparse map in canonical form
(keys strictly rising) in which every table of the device is kept.
-/

namespace Sys2Proof

/-- A 32-bit register word (R8). -/
abbrev Word := BitVec 32

/-- A sparse table: pairs of a key and a value, keys strictly rising. -/
abbrev NMap (V : Type) := List (Nat × V)

end Sys2Proof
end

