-- ==== Sys2Proof/Syntax.lean ====
section
/-!
DEFINITION. The commands of the block, one constructor of `Instr` for each row of the opcode table, with
what comes from outside the package as operands: what a host writes, what a fetched queue entry holds, what
a die, a sensor, the pack or a peer answers (R1).
Assumption log: DEDUCED (7, 72); DESIGN CHOICE (60).
-/

namespace Sys2Proof

/-- A submission queue entry as the host wrote it (R39, R53): opcode, command identifier, namespace and
command dwords 10 to 15. -/
structure SqEntry where
  opc : Nat
  cid : Nat
  nsid : Nat
  dw10 : Nat
  dw11 : Nat
  dw12 : Nat
  dw13 : Nat
  dw14 : Nat
  dw15 : Nat
  deriving DecidableEq, Repr

/-- The data structure of Namespace Management Create (R56). -/
structure NsData where
  nsze : Nat
  ncap : Nat
  flbas : Nat
  csi : Nat
  deriving DecidableEq, Repr

/-- One pass of the training sequence as a die sends it (R197): its bursts in dual-mark and in single-mark framing, each as the bytes from the
first data-out byte of the burst on. -/
structure TrainTry where
  dual : List (List Nat)
  single : List (List Nat)
  deriving DecidableEq, Repr

/-- The passes a die of a channel sends while it is trained. -/
structure DieTraining where
  die : Nat
  tries : List TrainTry
  deriving DecidableEq, Repr

/-- What the check of R157 reads of one wordline: by plane, how many of its 9 bursts are erased (R207); and whether it decodes. -/
structure WlLook where
  wl : Nat
  planes : List Nat
  decodes : Bool
  deriving DecidableEq, Repr

/-- What the check of R157 reads of the wordlines of an open block. -/
structure BlockLook where
  ch : Nat
  die : Nat
  block : Nat
  wls : List WlLook
  deriving DecidableEq, Repr

/-- What a pack's EEPROM holds as it is read (R281): the 256 bytes of the identity, the 64 bytes of each life-record copy, the
1,536 bytes of the history ring; and the pack voltage in counts of 100 µV. -/
structure PackFound where
  ident : List Nat
  lifeA : List Nat
  lifeB : List Nat
  history : List Nat
  volts : Nat
  deriving DecidableEq, Repr

/-- What BOOT finds outside the package (chapters 06, 12 and 15): present dies of each channel as a bit mask, failed channels, rate
code reached, sample training, DRAM channels lost and populations, rows that can be repaired hard, SRAM spares in use, parameter
pages, bad-column tables, what the NPP check reads, the firmware slots that pass their check, failed cores, the pack. -/
structure BootEnv where
  dies : List Nat
  rates : List Nat
  failed : List Nat
  /-- by channel: what its dies send in the training sequence (R197) -/
  training : List (Nat × DieTraining)
  dramLost : List Nat
  /-- population code of each channel, rate code trained, RAAIMT and RAAMMT of the components -/
  dramPop : List Nat
  dramRate : List Nat
  raaimt : Nat
  raammt : Nat
  /-- hard-repair resources: rows that could be repaired hard -/
  dramHard : List (Nat × Nat)
  /-- SRAM spares the fuses use, as soft-repair entry numbers -/
  fusedSpares : List Nat
  /-- vendor-specific block of the parameter pages: the sample-readout descriptor (32 bytes) by channel and die, and by channel the opcodes
  of entries 0 to 7 -/
  descr : List (Nat × Nat × List Nat)
  opcodes : List (Nat × List Nat)
  /-- factory bad-column tables: channel, die, plane, ranges of first cell and length (R207) -/
  badCols : List (Nat × Nat × Nat × List (Nat × Nat))
  /-- the wordlines of open blocks as the NPP check reads them (R157) -/
  looks : List BlockLook
  /-- slots whose image reads without uncorrectable line -/
  goodSlots : List Nat
  coresFailed : List Nat
  pack : Option PackFound
  deriving DecidableEq, Repr

/-- Whose DRAM access it is, as the reactions of R330 need it: copy A or B of a pair, a partial-parity slot, a map
segment of a namespace, a link word of a free list, or a data mover by its master identifier. -/
inductive DramUser where
  | pair (p : Nat) (copyB : Bool)
  | slot (acc : Nat)
  | segment (nsid seg : Nat)
  | link (list : Nat)
  | dma (master : Nat) (ctx : Option Nat)
  deriving DecidableEq, Repr

/-- A register of configuration space that a port's host writes (Table 02.1, PCIe): PASID Control, MSI-X Message Control, Device Control
and Device Control 2, Link Control, L1 PM Substates Control 1, and the AER status. -/
inductive CfgReg where
  | pasid | msix | device | device2 | link | l1ss | aer
  deriving DecidableEq, Repr

/-- Where a register write of a port's host goes: the privileged control window (R33), the first memory BAR (R35), or a register of
configuration space. -/
inductive RegSpace where
  | window
  | bar0
  | config (r : CfgReg)
  deriving DecidableEq, Repr

/-- A DRAM request (R332): admission class, source, user, whether a write, channel address and length in bytes. -/
structure DramReq where
  cls : Nat
  source : Nat
  user : DramUser
  write : Bool
  addr : Nat
  len : Nat
  deriving DecidableEq, Repr

/-- What a DRAM read found: the address of its worst burst, and how many symbols of it were wrong (R328). -/
structure DramOutcome where
  addr : Nat
  symbols : Nat
  deriving DecidableEq, Repr

/-- Which hardware table an uncorrectable SRAM word belongs to, for the tables that have a rule of their own (R351);
`data` for buffers and firmware memory, `other` for a table without a rule of its own. -/
inductive SramTable where
  | data
  | other
  | accumulator (acc : Nat)
  | shadow (index : Nat)
  | link (index : Nat)
  deriving DecidableEq, Repr

/-- What a unit writes to a word of an SRAM macro (R349): bit b of the mask is set for byte b of the data. -/
structure SramWrite where
  mac : Nat
  word : Nat
  mask : Nat
  data : Nat
  deriving DecidableEq, Repr

/-- A soft error in a row of the waypoint table that a lookup meets (R111): the row matches a key it should not, or fails to match. -/
inductive Upset where
  | falseMatch (row : Nat)
  | hidden (row : Nat)
  deriving DecidableEq, Repr

/-- The payload of a HELLO frame (Table 13.2). -/
structure Hello where
  serial : Nat
  node : Nat
  domain : Nat
  port : Nat
  portState : Nat
  deriving DecidableEq, Repr

/-- A link of a link-state advertisement: neighbour, local port, neighbour port. -/
structure Link where
  nbr : Nat
  lport : Nat
  nport : Nat
  deriving DecidableEq, Repr

/-- The payload of an LSA frame (Table 13.2), with the link sequence number it came under. -/
structure Lsa where
  linkSeq : Nat
  node : Nat
  seq : Nat
  serial : Nat
  links : List Link
  deriving DecidableEq, Repr

/-- A causeway frame whose header passed HCRC (Table 13.1).  `trailerOk` is false when the trailer is found wrong while
a transit frame is already being sent on (R368). -/
structure Frame where
  type : Nat
  flags : Nat
  dst : Nat
  src : Nat
  hops : Nat
  vc : Nat
  tag : Nat
  seq : Nat
  offset : Nat
  domain : Nat
  payload : List Nat
  trailerOk : Bool
  deriving DecidableEq, Repr

/-- One housekeeping round (R403): 12 on-die readings and 8 external readings in 1/4 °C, 12 rail voltages in mV, the
ASIC power in mW. -/
structure Round where
  die : List Int
  ext : List Int
  railMv : List Nat
  powerMw : Nat
  deriving DecidableEq, Repr

/-- The header of a boot block (R416), whose layout the manual does not give: part number, whether both CRCs and every line are good, the
highest configuration record version the image knows, the slot it names (R441), and the image's revision (8 bytes). -/
structure ImageHeader where
  part : Nat
  good : Bool
  cfgVerMax : Nat
  slot : Nat
  rev : Nat
  deriving DecidableEq, Repr

/-- A management packet as it arrived (R430): its carrier (0 Admin, 1 sideband, 2 fabric), where it came from (a
command context, 0, or a node), its bytes, and the length of the reply buffer. -/
structure Packet where
  carrier : Nat
  origin : Nat
  bytes : List Nat
  replyMax : Nat
  deriving DecidableEq, Repr

/-- The commands of the block, in the order of the opcode table. -/
inductive Instr where
  /-- REGISTER_WRITE (R9) -/
  | registerWrite (port : Nat) (space : RegSpace) (size addr value : Nat)
  /-- UPTIME_LO_READ (R27) -/
  | uptimeLoRead (port size off : Nat)
  /-- REC_TOTAL_LO_READ (R80) -/
  | recTotalLoRead (port size off : Nat)
  /-- CKPT_NUM_LO_READ (R249) -/
  | ckptNumLoRead (port size off : Nat)
  /-- FIRST_TS_LO_READ (R384) -/
  | firstTsLoRead (port size off : Nat)
  /-- CFG_SEQ_LO_READ (R424) -/
  | cfgSeqLoRead (port size off : Nat)
  /-- LINK_UP (R32) -/
  | linkUp (port rate width : Nat) (flit : Bool)
  /-- LINK_DOWN (R34) -/
  | linkDown (port : Nat)
  /-- FUNCTION_LEVEL_RESET (R34) -/
  | functionLevelReset (port : Nat)
  /-- PERST_ASSERT (R34) -/
  | perstAssert (port : Nat)
  /-- PERST_DEASSERT (R290) -/
  | perstDeassert (port : Nat)
  /-- CC_EN_SET (R36) -/
  | ccEnSet (port iosqes iocqes ams asqs acqs : Nat)
  /-- CC_EN_CLEAR (R34) -/
  | ccEnClear (port : Nat)
  /-- NORMAL_SHUTDOWN (R37) -/
  | normalShutdown (port : Nat)
  /-- ABRUPT_SHUTDOWN (R37) -/
  | abruptShutdown (port : Nat)
  /-- SHUTDOWN_TIMEOUT (R37) -/
  | shutdownTimeout (port : Nat)
  /-- SHUTDOWN_DONE (R37) -/
  | shutdownDone (port : Nat)
  /-- SQ_TAIL_DOORBELL (R43) -/
  | sqTailDoorbell (port qid value : Nat) (pasid : Option Nat)
  /-- CQ_HEAD_DOORBELL (R47) -/
  | cqHeadDoorbell (port qid value : Nat) (pasid : Option Nat)
  /-- COMMAND_FETCH (R44) -/
  | commandFetch (port : Nat) (entry : SqEntry)
  /-- COMPLETION_POST (R46) -/
  | completionPost (port qid : Nat)
  /-- CQ_STALL_TIMEOUT (R47) -/
  | cqStallTimeout (port qid : Nat)
  /-- CREATE_IO_SQ (R39) -/
  | createIoSq (ctx : Nat)
  /-- CREATE_IO_CQ (R39) -/
  | createIoCq (ctx : Nat)
  /-- DELETE_IO_SQ (R53) -/
  | deleteIoSq (ctx : Nat)
  /-- DELETE_IO_CQ (R53) -/
  | deleteIoCq (ctx : Nat)
  /-- GET_LOG_PAGE (R53) -/
  | getLogPage (ctx : Nat)
  /-- IDENTIFY (R53) -/
  | identify (ctx : Nat)
  /-- ABORT (R53) -/
  | abort (ctx : Nat)
  /-- SET_FEATURES (R53) -/
  | setFeatures (ctx : Nat)
  /-- GET_FEATURES (R53) -/
  | getFeatures (ctx : Nat)
  /-- ASYNC_EVENT_REQUEST (R55) -/
  | asyncEventRequest (ctx : Nat)
  /-- NS_CREATE (R56) -/
  | nsCreate (ctx : Nat) (data : NsData)
  /-- NS_DELETE (R57) -/
  | nsDelete (ctx : Nat)
  /-- NAMESPACE_ATTACHMENT (R57) -/
  | namespaceAttachment (ctx : Nat) (controllers : List Nat)
  /-- FIRMWARE_IMAGE_DOWNLOAD (R416) -/
  | firmwareImageDownload (ctx : Nat) (data : List Nat)
  /-- FIRMWARE_COMMIT (R416) -/
  | firmwareCommit (ctx : Nat) (hdr : ImageHeader)
  /-- FIRMWARE_ACTIVATE_IMMEDIATE (R418) -/
  | firmwareActivateImmediate (ctx : Nat)
  /-- DIRECTIVE_SEND (R53) -/
  | directiveSend (ctx : Nat)
  /-- DIRECTIVE_RECEIVE (R53) -/
  | directiveReceive (ctx : Nat)
  /-- MGMT_PACKET_CARRIER (R436) -/
  | mgmtPacketCarrier (ctx : Nat) (fetched : Option (List Nat)) (replyOk : Bool)
  /-- IO_READ (R127) -/
  | ioRead (ctx : Nat)
  /-- IO_WRITE (R95) -/
  | ioWrite (ctx : Nat) (data : List Nat) (upsets : List Upset)
  /-- WRITE_ZEROES (R95) -/
  | writeZeroes (ctx : Nat) (upsets : List Upset)
  /-- ZONE_APPEND (R97) -/
  | zoneAppend (ctx : Nat) (data : List Nat) (upsets : List Upset)
  /-- FLUSH (R49) -/
  | flush (ctx : Nat)
  /-- DATASET_MANAGEMENT (R232) -/
  | datasetManagement (ctx : Nat) (ranges : List (Nat × Nat))
  /-- ZONE_OPEN (R98) -/
  | zoneOpen (ctx : Nat) (upsets : List Upset)
  /-- ZONE_CLOSE (R98) -/
  | zoneClose (ctx : Nat)
  /-- ZONE_FINISH (R98) -/
  | zoneFinish (ctx : Nat)
  /-- ZONE_RESET (R98) -/
  | zoneReset (ctx : Nat)
  /-- ZONE_OFFLINE (R98) -/
  | zoneOffline (ctx : Nat)
  /-- ZONE_MANAGEMENT_RECEIVE (R53) -/
  | zoneManagementReceive (ctx : Nat)
  /-- MIRROR_WRITE_HELD (R335) -/
  | mirrorWriteHeld (pair : Nat)
  /-- SLICE_RESET_REQUEST (R73) -/
  | sliceResetRequest (slice go : Nat)
  /-- SLICE_RESET_COMPLETE (R73) -/
  | sliceResetComplete (slice : Nat)
  /-- TOKEN_REFILL (R68) -/
  | tokenRefill
  /-- READ_AROUND_BUDGET_EXPIRY (R81) -/
  | readAroundBudgetExpiry (ctx : Nat)
  /-- BUSY_READ_AROUND (R170) -/
  | busyReadAround (cw : Nat)
  /-- RECONSTRUCTION_COMPLETE (R169) -/
  | reconstructionComplete (cw : Nat)
  /-- WPT_READ (R112) -/
  | wptRead (index : Nat)
  /-- WPT_WRITE (R112) -/
  | wptWrite (index : Nat)
  /-- WPT_INSERT (R112) -/
  | wptInsert (index : Nat)
  /-- WPT_DELETE (R112) -/
  | wptDelete (index : Nat)
  /-- WPT_MOVE_COMPLETE (R113) -/
  | wptMoveComplete
  /-- WPT_SCRUB_TICK (R111) -/
  | wptScrubTick (upset : Bool)
  /-- ACCUMULATOR_IDLE_SPILL (R103) -/
  | accumulatorIdleSpill (acc : Nat)
  /-- FLUSH_ISSUE (R128) -/
  | flushIssue
  /-- FLUSH_TO_EMPTY_END (R484) -/
  | flushToEmptyEnd
  /-- DIRTY_LIMIT_RECOMPUTE (R132) -/
  | dirtyLimitRecompute
  /-- DIRTY_LIMIT_RAISE (R132) -/
  | dirtyLimitRaise
  /-- WRITE_THROUGH_EXIT (R135) -/
  | writeThroughExit
  /-- WRITE_THROUGH_FORCE (R135) -/
  | writeThroughForce (value : Bool)
  /-- BUFFER_ALLOCATE (R139) -/
  | bufferAllocate (pool owner slice : Nat) (internal : Bool)
  /-- FREE_LIST_REBUILD_END (R143) -/
  | freeListRebuildEnd (list : Nat)
  /-- BUFFER_RELEASE (R142) -/
  | bufferRelease (pool index owner : Nat)
  /-- BUFFER_TRANSFER (R140) -/
  | bufferTransfer (pool index owner newOwner : Nat)
  /-- BUFFER_SHARE (R141) -/
  | bufferShare (pool index owner n : Nat)
  /-- BUFFER_DROP (R141) -/
  | bufferDrop (pool index owner : Nat)
  /-- DIE_OPERATION_START (R163) -/
  | dieOperationStart (ch die : Nat)
  /-- PROGRAM_COMPLETE (R156) -/
  | programComplete (ch die : Nat) (pass : Bool)
  /-- ERASE_COMPLETE (R156) -/
  | eraseComplete (ch die : Nat) (pass : Bool)
  /-- HARD_READ_COMPLETE (R148) -/
  | hardReadComplete (ch die page : Nat)
  /-- SAMPLE_READ_COMPLETE (R185) -/
  | sampleReadComplete (ch die : Nat)
  /-- BURST_RECEIVED (R191) -/
  | burstReceived (ch : Nat) (bytes : List Nat)
  /-- SAMPLE_OUT_END (R193) -/
  | sampleOutEnd (ch : Nat)
  /-- CODEWORD_DECODED (R215) -/
  | codewordDecoded (cw iters word : Nat) (check : Bool)
  /-- CODEWORD_DECODE_FAIL (R219) -/
  | codewordDecodeFail (cw : Nat)
  /-- LADDER_STEP_BUDGET_EXPIRY (R219) -/
  | ladderStepBudgetExpiry (cw : Nat)
  /-- PROGRAM_SUSPEND (R159) -/
  | programSuspend (ch die : Nat)
  /-- ERASE_SUSPEND (R159) -/
  | eraseSuspend (ch die : Nat)
  /-- SUSPEND_COMPLETE (R161) -/
  | suspendComplete (ch die : Nat)
  /-- PROGRAM_RESUME (R161) -/
  | programResume (ch die : Nat)
  /-- ERASE_RESUME (R161) -/
  | eraseResume (ch die : Nat)
  /-- DIE_READY_TIMEOUT (R174) -/
  | dieReadyTimeout (ch die : Nat) (idOk : Bool)
  /-- REBUILD_WORDLINE (R176) -/
  | rebuildWordline (ch die : Nat)
  /-- RETRAIN_PERIOD_EXPIRY (R180) -/
  | retrainPeriodExpiry (ch : Nat)
  /-- RETRAINING_SLOT_START (R179) -/
  | retrainingSlotStart
  /-- RETRAINING_SLOT_END (R179) -/
  | retrainingSlotEnd (eye : Nat) (burst : List Nat)
  /-- SLOT_DEFER_TIMEOUT (R180) -/
  | slotDeferTimeout
  /-- FULL_RETRAINING_START (R181) -/
  | fullRetrainingStart (ch : Nat)
  /-- FULL_RETRAINING_END (R181) -/
  | fullRetrainingEnd (ch : Nat) (ok : Bool) (training : List DieTraining)
  /-- SDF_CLASS_CLR (R202) -/
  | sdfClassClr (ch : Nat)
  /-- SDF_BADCOL_WRITE (R207) -/
  | sdfBadcolWrite (ch value : Nat)
  /-- LDC_ST_NOW (R217) -/
  | ldcStNow
  /-- LDC_SELFTEST_PERIOD (R217) -/
  | ldcSelftestPeriod
  /-- LDC_SELFTEST_END (R217) -/
  | ldcSelftestEnd (pass : Bool)
  /-- REALLOCATION_ACCEPT (R244) -/
  | reallocationAccept (ch die block : Nat)
  /-- RELOCATION_STEP (R239) -/
  | relocationStep
  /-- XLT_RELOC_OLDEST (R241) -/
  | xltRelocOldest (n : Nat)
  /-- XLT_CKPT_NOW (R233) -/
  | xltCkptNow
  /-- CHECKPOINT_TIMER (R233) -/
  | checkpointTimer
  /-- CHECKPOINT_COMMIT (R233) -/
  | checkpointCommit
  /-- CHECKPOINT_LATE_TIMEOUT (R234) -/
  | checkpointLateTimeout
  /-- MAP_RESTART_END (R235) -/
  | mapRestartEnd (ms : Nat) (badRecords : List Nat) (badFooters : List (Nat × Nat × Nat))
  /-- MAP_REBUILD_END (R238) -/
  | mapRebuildEnd
  /-- INPUT_LOSS (R252) -/
  | inputLoss
  /-- DUMP_PACE_TICK (R260) -/
  | dumpPaceTick
  /-- DUMP_PROGRAM_COMPLETE (R261) -/
  | dumpProgramComplete (ch die : Nat) (outcome : Nat)
  /-- DUMP_COMMIT (R258) -/
  | dumpCommit
  /-- DUMP_ABANDON (R262) -/
  | dumpAbandon
  /-- DUMP_SUPERSEDE (R264) -/
  | dumpSupersede
  /-- INPUT_VALID (R251) -/
  | inputValid (mv : Nat)
  /-- INPUT_INVALID (R251) -/
  | inputInvalid (mv : Nat)
  /-- RETURN_COMPLETE (R265) -/
  | returnComplete (lostUnits : List Nat)
  /-- RETURN_WAIT_TIMEOUT (R265) -/
  | returnWaitTimeout
  /-- GAUGE_SAMPLE (R250) -/
  | gaugeSample (volts : Nat) (amps temp : Int)
  /-- GAUGE_RECOMPUTE (R268) -/
  | gaugeRecompute
  /-- REST_WINDOW_END (R270) -/
  | restWindowEnd (ocv : Nat)
  /-- FORCED_REST_DUE (R271) -/
  | forcedRestDue
  /-- UNCERTAINTY_HOURLY (R271) -/
  | uncertaintyHourly
  /-- ESTIMATE_DISAGREE (R272) -/
  | estimateDisagree
  /-- HUC_Z_NOW (R275) -/
  | hucZNow
  /-- IMPEDANCE_STEP_START (R275) -/
  | impedanceStepStart
  /-- IMPEDANCE_MEASURE (R275) -/
  | impedanceMeasure (dv di : Nat)
  /-- IMPEDANCE_STEP_END (R275) -/
  | impedanceStepEnd
  /-- PACK_HOT_TIMEOUT (R276) -/
  | packHotTimeout
  /-- CHARGE_TIMEOUT (R276) -/
  | chargeTimeout
  /-- PACK_INSERT (R277) -/
  | packInsert (found : PackFound)
  /-- PACK_REMOVE (R269) -/
  | packRemove
  /-- HUC_LEARN_NOW (R279) -/
  | hucLearnNow
  /-- LEARN_START (R279) -/
  | learnStart
  /-- LEARN_REST_END (R279) -/
  | learnRestEnd (ocv : Nat)
  /-- HUC_REST_NOW (R271) -/
  | hucRestNow
  /-- LIFE_RECORD_PERIOD (R281) -/
  | lifeRecordPeriod
  /-- RAIL_OUT_OF_WINDOW (R287) -/
  | railOutOfWindow (rail dir mv ns : Nat)
  /-- AO_POWER_ON_RESET (R290) -/
  | aoPowerOnReset
  /-- POWER_UP_START (R290) -/
  | powerUpStart (split recover test : Bool)
  /-- RAIL_POWER_GOOD (R291) -/
  | railPowerGood (rail : Nat)
  /-- RAIL_SETTLE_DONE (R291) -/
  | railSettleDone (rail : Nat) (env : BootEnv)
  /-- BOOT_END (R419) -/
  | bootEnd
  /-- PARTIAL_PARITY_REBUILD_END (R105) -/
  | partialParityRebuildEnd (found : List (Nat × Nat × NMap Nat))
  /-- POWER_GOOD_TIMEOUT (R292) -/
  | powerGoodTimeout (rail : Nat)
  /-- OFF_FLUSH_TIMEOUT (R307) -/
  | offFlushTimeout
  /-- FLASH_READY_WAIT_END (R293) -/
  | flashReadyWaitEnd
  /-- RAIL_DISCHARGED (R293) -/
  | railDischarged (rail : Nat)
  /-- DISCHARGE_TIMEOUT (R293) -/
  | dischargeTimeout (rail : Nat)
  /-- PSQ_OFF (R293) -/
  | psqOff
  /-- PSQ_RSTO_PULSE (R300) -/
  | psqRstoPulse (bits : Nat)
  /-- RSTO_STRETCH_EXPIRY (R300) -/
  | rstoStretchExpiry (output : Nat)
  /-- DROOP_ENGAGE (R301) -/
  | droopEngage (sensor mv : Nat)
  /-- DROOP_RELEASE (R301) -/
  | droopRelease
  /-- DROOP_LONG (R301) -/
  | droopLong
  /-- MODE_TARGET_RUN (R305) -/
  | modeTargetRun
  /-- MODE_TARGET_SERVICE (R305) -/
  | modeTargetService
  /-- HOLD_REQUEST (R310) -/
  | holdRequest
  /-- HOLD_RELEASE (R309) -/
  | holdRelease
  /-- THERM_ACK (R410) -/
  | thermAck
  /-- REST_IDLE_EXPIRY (R311) -/
  | restIdleExpiry (l12 idleMs noSref : Nat)
  /-- REST_ENTRY_COMPLETE (R312) -/
  | restEntryComplete
  /-- CLKREQ_ASSERT (R314) -/
  | clkreqAssert (port : Nat)
  /-- CAUSEWAY_SIGNAL_DETECT (R314) -/
  | causewaySignalDetect (port : Nat)
  /-- SMBUS_ADDRESS_MATCH (R314) -/
  | smbusAddressMatch
  /-- WAKE_STEP_DONE (R315) -/
  | wakeStepDone (us : Nat) (powerGood : Bool)
  /-- PAD_RELEASE (R316) -/
  | padRelease (groups : Nat)
  /-- PAD_RELEASE_TIMEOUT (R316) -/
  | padReleaseTimeout
  /-- WATCH_ENTRY (R305) -/
  | watchEntry
  /-- WATCH_ROUND (R318) -/
  | watchRound (inputMv packMv : Nat) (temp : Int) (present : Bool)
  /-- WATCH_INPUT_SAMPLE (R318) -/
  | watchInputSample (mv : List Nat)
  /-- WATCH_GAUGE_WAKE (R320) -/
  | watchGaugeWake (byCurrent : Bool)
  /-- WATCH_GAUGE_SLEEP (R320) -/
  | watchGaugeSleep
  /-- DRAM_REQUEST (R332) -/
  | dramRequest (ch : Nat) (req : DramReq)
  /-- DRAM_READ_COMPLETE (R330) -/
  | dramReadComplete (ch : Nat) (outcome : DramOutcome)
  /-- DRAM_FENCE (R334) -/
  | dramFence (ch source : Nat)
  /-- DRAM_REFRESH (R336) -/
  | dramRefresh (ch bank : Nat)
  /-- MR4_POLL (R336) -/
  | mr4Poll (ch value : Nat)
  /-- DRAM_ALERT (R339) -/
  | dramAlert (ch : Nat)
  /-- DRAM_RETRAIN_END (R340) -/
  | dramRetrainEnd (ch : Nat) (alerts : Bool)
  /-- DRAM_STROBE_TIMEOUT (R341) -/
  | dramStrobeTimeout (ch : Nat)
  /-- DRAM_SOFT_REPAIR (R344) -/
  | dramSoftRepair (ch index : Nat) (resource : Bool)
  /-- DRAM_REPAIR_END (R344) -/
  | dramRepairEnd (ch : Nat) (bad : List Nat)
  /-- DRAM_PATROL_SCRUB (R347) -/
  | dramPatrolScrub (ch : Nat) (outcome : DramOutcome)
  /-- DMC_SCRUB_GO (R347) -/
  | dmcScrubGo (value : Nat)
  /-- DRAM_SCRUB_RANGE_END (R348) -/
  | dramScrubRangeEnd (ch : Nat) (corrected uncorrectable : List Nat)
  /-- SRAM_CORRECTED_WORD (R350) -/
  | sramCorrectedWord (mac word : Nat) (scrub : Bool) (writes : List SramWrite)
  /-- SRAM_UNCORRECTABLE_WORD (R351) -/
  | sramUncorrectableWord (mac word kind master : Nat) (inHandler : Bool) (table : SramTable) (ctx : Option Nat) (writes : List SramWrite)
  /-- MPU_DMA_REARM (R352) -/
  | mpuDmaRearm (value : Nat)
  /-- MPU_SCRUB_GO (R354) -/
  | mpuScrubGo (value : Nat)
  /-- SRAM_SCRUB_END (R354) -/
  | sramScrubEnd (writes : List SramWrite)
  /-- CAUSEWAY_TRAINED (R356) -/
  | causewayTrained (port rate : Nat)
  /-- HELLO_TIMER (R363) -/
  | helloTimer (port : Nat)
  /-- HELLO_RECEIVED (R363) -/
  | helloReceived (port : Nat) (hello : Hello)
  /-- HELLO_DEAD_TIMEOUT (R363) -/
  | helloDeadTimeout (port : Nat)
  /-- BLOCK_LOCK_LOSS (R363) -/
  | blockLockLoss (port : Nat)
  /-- LSA_RECEIVED (R365) -/
  | lsaReceived (port : Nat) (lsa : Lsa)
  /-- LSA_REFRESH_TIMER (R365) -/
  | lsaRefreshTimer
  /-- LSA_AGE_OUT (R365) -/
  | lsaAgeOut (node : Nat)
  /-- PATH_RECOMPUTE_DONE (R367) -/
  | pathRecomputeDone
  /-- ACK_TIMER (R360) -/
  | ackTimer (port : Nat)
  /-- ACK_RECEIVED (R360) -/
  | ackReceived (port seq : Nat)
  /-- NAK_RECEIVED (R360) -/
  | nakReceived (port seq : Nat)
  /-- CREDIT_RECEIVED (R361) -/
  | creditReceived (port vc credits : Nat)
  /-- CREDIT_RETURN_TIMER (R361) -/
  | creditReturnTimer (port : Nat)
  /-- TRANSIT_FRAME (R368) -/
  | transitFrame (port : Nat) (frame : Frame)
  /-- REQ_RECEIVED (R373) -/
  | reqReceived (port : Nat) (frame : Frame)
  /-- REPL_RECEIVED (R376) -/
  | replReceived (port : Nat) (frame : Frame)
  /-- COPY_RECEIVED (R379) -/
  | copyReceived (port : Nat) (frame : Frame)
  /-- DATA_RECEIVED (R373) -/
  | dataReceived (port : Nat) (frame : Frame)
  /-- RSP_RECEIVED (R371) -/
  | rspReceived (port : Nat) (frame : Frame)
  /-- RDATA_RECEIVED (R375) -/
  | rdataReceived (port : Nat) (frame : Frame)
  /-- MGMT_RECEIVED (R438) -/
  | mgmtReceived (port : Nat) (frame : Frame)
  /-- MGMT_RSP_RECEIVED (R438) -/
  | mgmtRspReceived (port : Nat) (frame : Frame)
  /-- E2E_TIMEOUT (R371) -/
  | e2eTimeout (tag : Nat)
  /-- DUP_ENTRY_EXPIRY (R372) -/
  | dupEntryExpiry (entry : Nat)
  /-- COPY_PIECE_SEND (R379) -/
  | copyPieceSend (copy : Nat) (data : List Nat)
  /-- JNR_WAKE_TX (R380) -/
  | jnrWakeTx (ports : Nat)
  /-- BINDING_WAKE_TIMER (R380) -/
  | bindingWakeTimer (binding : Nat)
  /-- JNR_CFG_WRITE (R364) -/
  | jnrCfgWrite (value : Nat)
  /-- JNR_BIND_WRITE (R377) -/
  | jnrBindWrite (binding word value : Nat)
  /-- ERROR_REPORT (R383) -/
  | errorReport (addr master type cls space : Nat)
  /-- FAULT_DUMP_TIMEOUT (R386) -/
  | faultDumpTimeout
  /-- RESTART_COUNT_RESET (R386) -/
  | restartCountReset
  /-- FCL_CAPTURE_CLEAR (R384) -/
  | fclCaptureClear
  /-- EVENT_DISPATCH (R389) -/
  | eventDispatch
  /-- LOG_RECORD_WRITE (R397) -/
  | logRecordWrite
  /-- LOG_REPEAT_FLUSH (R398) -/
  | logRepeatFlush
  /-- MILESTONE_LINE_WRITE (R393) -/
  | milestoneLineWrite (line pulses : Nat) (ok : Bool)
  /-- EPOCH_HEADER_WRITE (R401) -/
  | epochHeaderWrite
  /-- COUNTER_LINE_WRITE (R395) -/
  | counterLineWrite
  /-- OPERATING_HOURS_STEP (R395) -/
  | operatingHoursStep
  /-- MSM_LOG_DATA_READ (R399) -/
  | msmLogDataRead (port size off : Nat)
  /-- MSM_WIN_DATA_READ (R392) -/
  | msmWinDataRead (port size off : Nat)
  /-- MSM_REPORT_CLR (R402) -/
  | msmReportClr
  /-- EVR_QCLR (R390) -/
  | evrQclr
  /-- HOUSEKEEPING_ROUND (R403) -/
  | housekeepingRound (r : Round)
  /-- THERMAL_TRIP (R409) -/
  | thermalTrip (sensor : Nat)
  /-- FIRMWARE_STORE_READ (R413) -/
  | firmwareStoreRead (line bits : Nat) (core branch : Option Nat)
  /-- FIRMWARE_SLOT_PROGRAMMED (R416) -/
  | firmwareSlotProgrammed (ok : Bool)
  /-- TRIAL_CONFIRM (R417) -/
  | trialConfirm
  /-- ACTIVATION_COMPLETE (R418) -/
  | activationComplete
  /-- ACTIVATION_TIMEOUT (R418) -/
  | activationTimeout
  /-- CORE_HALT (R422) -/
  | coreHalt (core cause : Nat)
  /-- CONFIG_COMMIT_TIMER (R425) -/
  | configCommitTimer
  /-- CONFIG_COMMIT_END (R425) -/
  | configCommitEnd
  /-- GET_IDENTITY (R439) -/
  | getIdentity (p : Packet)
  /-- GET_CONFIGURATION_REPORT (R443) -/
  | getConfigurationReport (p : Packet)
  /-- GET_NAMESPACE_IDENTIFY (R439) -/
  | getNamespaceIdentify (p : Packet)
  /-- READ_REGISTERS (R439) -/
  | readRegisters (p : Packet)
  /-- WRITE_REGISTER (R439) -/
  | writeRegister (p : Packet)
  /-- COMMIT_CONFIGURATION (R439) -/
  | commitConfiguration (p : Packet)
  /-- GET_RECORD_STATUS (R439) -/
  | getRecordStatus (p : Packet)
  /-- SET_SLICE_COUNT (R60) -/
  | setSliceCount (p : Packet)
  /-- BIND_PASID (R61) -/
  | bindPasid (p : Packet)
  /-- SET_ACCESS_BITMAP (R64) -/
  | setAccessBitmap (p : Packet)
  /-- RESET_SLICE (R73) -/
  | resetSlice (p : Packet)
  /-- SET_SLICE_BUDGETS (R69) -/
  | setSliceBudgets (p : Packet)
  /-- GET_SLICE_STATUS (R439) -/
  | getSliceStatus (p : Packet)
  /-- WAYPOINT_COMMAND (R112) -/
  | waypointCommand (p : Packet)
  /-- SET_ROUTE (R114) -/
  | setRoute (p : Packet)
  /-- SET_PROFILE (R108) -/
  | setProfile (p : Packet)
  /-- SET_NAMESPACE_PROFILE (R108) -/
  | setNamespaceProfile (p : Packet)
  /-- GET_PACK_STATUS (R439) -/
  | getPackStatus (p : Packet)
  /-- READ_PACK_HISTORY (R282) -/
  | readPackHistory (p : Packet)
  /-- SET_CHARGING (R278) -/
  | setCharging (p : Packet)
  /-- REQUEST_SELF_TEST (R444) -/
  | requestSelfTest (p : Packet)
  /-- QUERY_TICKET (R445) -/
  | queryTicket (p : Packet)
  /-- CANCEL_TICKET (R445) -/
  | cancelTicket (p : Packet)
  /-- TICKET_EXPIRY (R445) -/
  | ticketExpiry (ticket : Nat)
  /-- MGI_TCLR (R445) -/
  | mgiTclr
  /-- READ_LOG (R439) -/
  | readLog (p : Packet)
  /-- WRITE_ANNOTATION (R439) -/
  | writeAnnotation (p : Packet)
  /-- READ_EVENT_QUEUE (R390) -/
  | readEventQueue (p : Packet)
  /-- READ_DIRTY_EPOCH_REPORT (R402) -/
  | readDirtyEpochReport (p : Packet)
  /-- CLEAR_DIRTY_EPOCH_REPORT (R402) -/
  | clearDirtyEpochReport (p : Packet)
  /-- READ_LATE_FAULT_RECORDS (R80) -/
  | readLateFaultRecords (p : Packet)
  /-- SET_NODE (R364) -/
  | setNode (p : Packet)
  /-- SET_NODE_SLICE (R373) -/
  | setNodeSlice (p : Packet)
  /-- BIND_NAMESPACE (R375) -/
  | bindNamespace (p : Packet)
  /-- UNBIND_NAMESPACE (R378) -/
  | unbindNamespace (p : Packet)
  /-- PEER_ZONE_COPY (R379) -/
  | peerZoneCopy (p : Packet)
  /-- GET_FABRIC_STATUS (R439) -/
  | getFabricStatus (p : Packet)
  /-- DOWNLOAD_FIRMWARE (R441) -/
  | downloadFirmware (p : Packet) (hdr : ImageHeader)
  /-- COMMIT_FIRMWARE (R416) -/
  | commitFirmware (p : Packet) (hdr : ImageHeader)
  /-- GET_SLOT_INFO (R439) -/
  | getSlotInfo (p : Packet)
  /-- ACKNOWLEDGE_THERMAL_SHUTDOWN (R410) -/
  | acknowledgeThermalShutdown (p : Packet)
  /-- POWER_OFF (R307) -/
  | powerOff (p : Packet)
  /-- SET_MODE (R439) -/
  | setMode (p : Packet)
  /-- GET_THERMAL_AND_POWER (R439) -/
  | getThermalAndPower (p : Packet)
  /-- RAW_READ (R442) -/
  | rawRead (p : Packet) (data : List Nat)
  /-- RAW_PROGRAM (R442) -/
  | rawProgram (p : Packet)
  /-- RAW_ERASE (R442) -/
  | rawErase (p : Packet)
  /-- SET_BAD_COLUMN_RANGE (R439) -/
  | setBadColumnRange (p : Packet)
  /-- DECLARE_DIE_FAILED (R174) -/
  | declareDieFailed (p : Packet)
  /-- READ_NVME_MI_DATA_STRUCTURE (R437) -/
  | readNvmeMiDataStructure (type id : Nat)
  /-- SUBSYSTEM_HEALTH_STATUS_POLL (R437) -/
  | subsystemHealthStatusPoll (clear : Bool)
  /-- CONTROLLER_HEALTH_STATUS_POLL (R437) -/
  | controllerHealthStatusPoll (controller : Nat)
  /-- NVME_MI_VENDOR_C1 (R437) -/
  | nvmeMiVendorC1 (p : Packet)
  /-- BYPASS (R461) -/
  | bypass (tdi : List Bool)
  /-- IDCODE (R461) -/
  | idcode (tdi : List Bool)
  /-- SAMPLE_PRELOAD (R461) -/
  | samplePreload (pins tdi : List Bool)
  /-- EXTEST (R461) -/
  | extest (pins tdi : List Bool)
  /-- CLAMP (R461) -/
  | clamp (tdi : List Bool)
  /-- HIGHZ (R461) -/
  | highz (tdi : List Bool)
  /-- QEN_CLR_CNT (R59) -/
  | qenClrCnt
  /-- QEN_CLR_PEAK (R59) -/
  | qenClrPeak
  /-- SLM_CLR_CNT (R83) -/
  | slmClrCnt
  /-- TLG_CLR_CNT (R83) -/
  | tlgClrCnt
  /-- WPT_CLR_CNT (R118) -/
  | wptClrCnt
  /-- ZNE_CLR_CNT (R118) -/
  | zneClrCnt
  /-- WCU_CLR_CNT (R145) -/
  | wcuClrCnt
  /-- BPL_CLR_CNT (R145) -/
  | bplClrCnt
  /-- FSQ_CLR_CNT (R182) -/
  | fsqClrCnt (ch : Nat)
  /-- DSC_CLR_CNT (R182) -/
  | dscClrCnt
  /-- SDF_CLR_CNT (R224) -/
  | sdfClrCnt (ch : Nat)
  /-- LDC_CLR_CNT (R224) -/
  | ldcClrCnt
  /-- XLT_CLR_CNT (R249) -/
  | xltClrCnt
  /-- HUC_CLR_CNT (R283) -/
  | hucClrCnt
  /-- PSQ_CLR_CNT (R304) -/
  | psqClrCnt
  /-- DRG_CLR_CNT (R304) -/
  | drgClrCnt
  /-- PSC_CLR_CNT (R324) -/
  | pscClrCnt
  /-- DMC_CLR_CNT (R355) -/
  | dmcClrCnt
  /-- MPU_CLR_CNT (R355) -/
  | mpuClrCnt
  /-- JNR_CLR_CNT (R381) -/
  | jnrClrCnt
  /-- FCL_CLR_CNT (R391) -/
  | fclClrCnt
  /-- MSM_CLR_CNT (R391) -/
  | msmClrCnt
  /-- THM_CLR_CNT (R391) -/
  | thmClrCnt
  /-- FWS_CLR_CNT (R429) -/
  | fwsClrCnt
  /-- FWC_CLR_CNT (R429) -/
  | fwcClrCnt
  /-- HOLD_UP_BUS_ARMED (R286) -/
  | holdUpBusArmed
  /-- AER_ERROR_LOGGED (R58) -/
  | aerErrorLogged (port severity : Nat) (header : List Nat)
  /-- FRAME_DISCARDED (R360) -/
  | frameDiscarded (port reason seq vc units : Nat)
  /-- PASID_ENABLE_CLEAR (R31) -/
  | pasidEnableClear (port : Nat)
  deriving DecidableEq, Repr

end Sys2Proof
end

