-- ==== Sys2Proof/Decode.lean ====
section
/-!
DEFINITION. Reading a command from a word.  The opcode table of this block gives no row an encoding: its commands are
events and messages, not words.
Assumption log: DEDUCED (74).
-/

namespace Sys2Proof

/-- The command a word spells by the table's bits.  No row has bits, so no word spells a command. -/
def decodeTableWord (_nbits _w : Nat) : Option Instr := none

end Sys2Proof
end

