-- ==== Sys2Proof/Config.lean ====
section
/-!
DEFINITION. What one device fixes and the spec leaves open: constants with no body, so that no proof sees
their value.
Assumption log: DEDUCED (14); DESIGN CHOICE (2, 60, 94, 95).
-/

namespace Sys2Proof.Config

/-- The 64-bit device serial from fuses (chapter 01, GLB.SERIAL_LO and _HI). -/
opaque serial : Nat

/-- A value the spec leaves open; the argument is the step's own counter, which says which one.  Assumption 2. -/
opaque freeValue : Nat → Nat

/-- The bits of the CRU status registers: register 0 to 2, wake-delay step that has ended. -/
opaque cruBits : Nat → Nat → Nat

/-- The revision of the image a firmware slot left the factory with. -/
opaque slotRevision : Nat → Nat

/-- The base matrix of the LDPC code (R213): the shift of the circulant in block row 0 to 15 and block column 0 to 143, none where it is zero;
the spec gives the sizes only. -/
opaque baseShift : Nat → Nat → Option Nat

/-- The 4,096 parity bits the encoder adds to 32,768 scrambled bits (R213), which the base matrix decides. -/
opaque ldpcParity : Nat → Nat

/-- The check bits of a 64-bit SRAM word (R349); the spec names a SECDED code and not which one. -/
opaque secded : Nat → Nat

/-- The user data of the codewords of a dump's metadata units, whose form the spec does not give: dump sequence number, unit, codeword (R257). -/
opaque dumpMeta : Nat → Nat → Nat → Nat

/-- The header codeword of a journal record by its sequence number; the spec says what it holds and not where (chapter 09). -/
opaque journalHeader : Nat → Nat

/-- The CRC of the body of a configuration record, whose sections lie where the spec does not say: by its sequence number (R423). -/
opaque cfgBodyCrc : Nat → Nat

/-- What a doorbell of the first memory BAR reads as, by its offset. -/
opaque doorbellRead : Nat → Nat

end Sys2Proof.Config
end

