-- ==== Sys2Proof/Machine/Operands.lean ====
section
/-!
DEFINITION. Operand forms: bit ranges of dwords, little-endian byte strings, the CRCs and pseudo-random sequences
that the formats of the spec use.
Assumption log: DESIGN CHOICE (87).
-/

namespace Sys2Proof.Machine

/-- Bits `hi` to `lo` of a number. -/
def bits (v hi lo : Nat) : Nat := v / 2 ^ lo % 2 ^ (hi + 1 - lo)

/-- Bit `b` of a number. -/
def bit (v b : Nat) : Bool := bits v b b == 1

/-- 1 for true, 0 for false. -/
def bNat (b : Bool) : Nat := if b then 1 else 0

/-- A number with bit `b` set. -/
def setBit (v b : Nat) : Nat := if bit v b then v else v + 2 ^ b

/-- A number with bit `b` clear. -/
def clrBit (v b : Nat) : Nat := if bit v b then v - 2 ^ b else v

/-- A number with bit `b` at a value. -/
def putBit (v b : Nat) (x : Bool) : Nat := if x then setBit v b else clrBit v b

/-- The bytes of a number, lowest first (every multi-byte field is little-endian). -/
def le : Nat → Nat → List Nat
  | 0, _ => []
  | n + 1, v => v % 256 :: le n (v / 256)

/-- The number in a list of bytes, lowest first. -/
def unle : List Nat → Nat
  | [] => 0
  | b :: t => b % 256 + 256 * unle t

/-- `n` bytes from offset `o` as a number. -/
def field (l : List Nat) (o n : Nat) : Nat := unle ((l.drop o).take n)

/-- `n` zero bytes. -/
def zeros (n : Nat) : List Nat := List.replicate n 0

/-- A list cut or filled with zeros to `n` bytes. -/
def padTo (l : List Nat) (n : Nat) : List Nat := (l ++ zeros n).take n

/-- Two's complement of an integer in `w` bits. -/
def toTwos (w : Nat) (i : Int) : Nat := (i % (2 ^ w : Int)).toNat

/-- The integer a `w`-bit two's-complement field holds. -/
def ofTwos (w v : Nat) : Int := if v % 2 ^ w < 2 ^ (w - 1) then (v % 2 ^ w : Nat) else (v % 2 ^ w : Nat) - (2 ^ w : Int)

/-- An integer held within limits. -/
def clampI (lo hi i : Int) : Int := if i < lo then lo else if hi < i then hi else i

/-- A number saturating at all ones of `w` bits. -/
def satW (w v : Nat) : Nat := if 2 ^ w ≤ v then 2 ^ w - 1 else v

/-- One bit step of a reflected CRC-32 with polynomial 0x04C1_1DB7 (R430). -/
def crc32Step : Nat → Nat → Nat
  | 0, c => c
  | n + 1, c => crc32Step n (if c % 2 = 1 then (c / 2) ^^^ 0xEDB88320 else c / 2)

/-- The CRC-32 register after some bytes. -/
def crc32Run : List Nat → Nat → Nat
  | [], c => c
  | b :: t, c => crc32Run t (crc32Step 8 (c ^^^ (b % 256)))

/-- The CRC-32 of some bytes: initial value all ones, final inversion (R430). -/
def crc32 (l : List Nat) : Nat := crc32Run l 0xFFFFFFFF ^^^ 0xFFFFFFFF

/-- One bit step of the burst header CRC-8 (R190). -/
def crc8Step : Nat → Nat → Nat
  | 0, c => c
  | n + 1, c => crc8Step n (if bit c 7 then ((c * 2) ^^^ 0x07) % 256 else c * 2 % 256)

/-- The CRC-8 register after some bytes (R190). -/
def crc8Run : List Nat → Nat → Nat
  | [], c => c
  | b :: t, c => crc8Run t (crc8Step 8 (c ^^^ (b % 256)))

/-- The burst header CRC of R190, register starting at 0xFF. -/
def crc8 (l : List Nat) : Nat := crc8Run l 0xFF

/-- `n` bits of a shift register of `w` bits with taps at its two highest powers `a` and `b`, the output bit first
(R198: x¹⁵ + x¹⁴ + 1; R213: x³¹ + x²⁸ + 1).  The spec does not say which bit of the register is the output.  DESIGN CHOICE (log 87): the
feedback bit. -/
def lfsr (w a b : Nat) : Nat → Nat → List Nat
  | 0, _ => []
  | n + 1, r =>
    let o := (bits r (a - 1) (a - 1) + bits r (b - 1) (b - 1)) % 2
    o :: lfsr w a b n ((r * 2 + o) % 2 ^ w)

/-- The training payload of R198: `n` bits of x¹⁵ + x¹⁴ + 1 from all ones. -/
def trainingBits (n : Nat) : List Nat := lfsr 15 15 14 n (2 ^ 15 - 1)

/-- The number whose bits a list gives, bit 0 first. -/
def ofBits : List Nat → Nat
  | [] => 0
  | b :: t => b + 2 * ofBits t

/-- The bits of a byte string in payload order: bit i is bit i mod 8 of byte i / 8 (chapter 07, Burst format). -/
def payloadBits (l : List Nat) : List Nat := (l.map fun b => (List.range 8).map fun i => bits b i i).flatten

/-- The samples of `b` bits that a payload holds, least significant bit first (chapter 07, Burst format). -/
def unpack (b n : Nat) (bs : List Nat) : List Nat :=
  match n with
  | 0 => []
  | n + 1 => if bs.length < b ∨ b = 0 then [] else ofBits (bs.take b) :: unpack b n (bs.drop b)

/-- The scrambler seed of a codeword (R213). -/
def scramblerSeed (block wl plane page cw : Nat) : Nat :=
  2 ^ 30 + block * 2 ^ 16 + wl * 2 ^ 6 + plane * 2 ^ 4 + page * 2 ^ 2 + cw

/-- The scrambling sequence of a codeword's user data (R213), bit 0 first. -/
def scrambler (seed : Nat) : Nat := ofBits (lfsr 31 31 28 32768 seed)

/-- The codeword of 36,864 bits of 4,096 bytes of user data: scrambled, with its parity after it (R213). -/
def encodeWord (data seed : Nat) : Nat :=
  let u := (data % 2 ^ 32768) ^^^ scrambler seed
  u + 2 ^ 32768 * (Config.ldpcParity u % 2 ^ 4096)

/-- The user data of a codeword (R213). -/
def userData (word seed : Nat) : Nat := (word % 2 ^ 32768) ^^^ scrambler seed

/-- A circulant of size 256 on one block of a word: its bits turned by the shift. -/
def turn256 (v k : Nat) : Nat := v / 2 ^ (k % 256) + v % 2 ^ (k % 256) * 2 ^ (256 - k % 256)

/-- The syndrome of a word in one block row of the base matrix of 16 × 144 circulants (R213). -/
def syndromeRow (word i : Nat) : Nat :=
  (List.range 144).foldl (fun x j => match Config.baseShift i j with
    | some k => x ^^^ turn256 (word / 2 ^ (256 * j) % 2 ^ 256) k
    | none => x) 0

/-- The syndrome of a word is zero (R215). -/
def syndromeZero (word : Nat) : Bool := (List.range 16).all fun i => syndromeRow word i == 0

/-- How many of the `n` lowest bits of a number are 1. -/
def popCount : Nat → Nat → Nat
  | 0, _ => 0
  | n + 1, v => v % 2 + popCount n (v / 2)

/-- Number of differing bits of two bytes. -/
def bitDiff : Nat → Nat → Nat → Nat
  | 0, _, _ => 0
  | n + 1, a, b => (if a % 2 = b % 2 then 0 else 1) + bitDiff n (a / 2) (b / 2)

/-- Bits in which two byte strings of the same length differ. -/
def hamming : List Nat → List Nat → Nat
  | a :: t, b :: u => bitDiff 8 a b + hamming t u
  | _, _ => 0

/-- Insert into an ascending list of numbers, once. -/
def insSorted (x : Nat) : List Nat → List Nat
  | [] => [x]
  | y :: t => if x < y then x :: y :: t else if x = y then y :: t else y :: insSorted x t

/-- The first element that is least under a measure. -/
def leastBy {α : Type} (key : α → Nat) : List α → Option α
  | [] => none
  | a :: t =>
    match leastBy key t with
    | none => some a
    | some b => if key a ≤ key b then some a else some b

/-- Sort ascending by a measure, keeping the order of equals. -/
def insBy {α : Type} (key : α → Nat) (a : α) : List α → List α
  | [] => [a]
  | b :: t => if key a ≤ key b then a :: b :: t else b :: insBy key a t

/-- Sort ascending by a measure, keeping the order of equals. -/
def sortBy {α : Type} (key : α → Nat) : List α → List α
  | [] => []
  | a :: t => insBy key a (sortBy key t)

end Sys2Proof.Machine
end

