-- ==== Sys2Proof/Machine/Map.lean ====
section
/-!
DEFINITION. Operations of the sparse table `NMap`: look up, put, delete, and put with a default that is
not stored.  Each keeps the canonical form `NMap.Sorted`.
-/

namespace Sys2Proof

/-- The canonical form: keys strictly rising. -/
def NMap.Sorted {V : Type} : NMap V → Prop
  | [] => True
  | [_] => True
  | (k, _) :: (k', v') :: t => k < k' ∧ NMap.Sorted ((k', v') :: t)

/-- The value held at key `k`. -/
def NMap.look {V : Type} : NMap V → Nat → Option V
  | [], _ => none
  | (k', v) :: t, k => if k' = k then some v else NMap.look t k

/-- The table with `v` at key `k`. -/
def NMap.put {V : Type} : NMap V → Nat → V → NMap V
  | [], k, v => [(k, v)]
  | (k', v') :: t, k, v =>
    if k < k' then (k, v) :: (k', v') :: t
    else if k = k' then (k, v) :: t
    else (k', v') :: NMap.put t k v

/-- The table with nothing at key `k`. -/
def NMap.del {V : Type} (m : NMap V) (k : Nat) : NMap V := m.filter (fun kv => kv.1 != k)

/-- The value at `k`, or the default of unlisted keys. -/
def NMap.lookD {V : Type} (m : NMap V) (k : Nat) (d : V) : V := (m.look k).getD d

/-- The table with `v` at key `k`, where an entry equal to the default `d` is not listed. -/
def NMap.putD {V : Type} [DecidableEq V] (m : NMap V) (k : Nat) (v d : V) : NMap V :=
  if v = d then m.del k else m.put k v

/-- Change the entry at `k`, if there is one. -/
def NMap.modify {V : Type} (m : NMap V) (k : Nat) (f : V → V) : NMap V :=
  match m.look k with
  | some v => m.put k (f v)
  | none => m

/-- Whether a key is listed. -/
def NMap.has {V : Type} (m : NMap V) (k : Nat) : Bool := (m.look k).isSome

/-- The smallest number below `n` that is no key of the table. -/
def NMap.freeKey {V : Type} (m : NMap V) (n : Nat) : Option Nat :=
  (List.range n).find? (fun k => !m.has k)

/-- Apply a function to every value. -/
def NMap.mapVals {V : Type} (m : NMap V) (f : Nat → V → V) : NMap V := m.map (fun kv => (kv.1, f kv.1 kv.2))

/-- Keep the entries a test accepts. -/
def NMap.keep {V : Type} (m : NMap V) (p : Nat → V → Bool) : NMap V := m.filter (fun kv => p kv.1 kv.2)

end Sys2Proof
end

