-- ==== Sys2Proof/Machine/Reg.lean ====
section
/-!
DEFINITION. Registers and fields of the control window (R8 to R12): where a register's instances lie,
which bits a field has, its access code, reset class and Reset value.
Assumption log: DEDUCED (12).
-/

namespace Sys2Proof.Machine

/-- Access codes of Table 00.3 as the field tables use them.  `cnt` is an RO counter under R391;
`rwx` is RW but RO in instance 0; `rwv` is RW through a selecting register (SDF bad columns). -/
inductive Acc where
  | ro | rw | rw1c | rw1s | wo | cnt | rwx | rwv
  deriving DecidableEq, Repr

/-- Reset classes of R11; `alwaysOn` fields are reset by the AO power-on reset only. -/
inductive Cls where
  | cold | warm | slice | retained | alwaysOn
  deriving DecidableEq, Repr

/-- The Reset value of a field, by instance. -/
inductive Rst where
  | const (v : Nat)
  | byIndex (l : List Nat)
  | head (first rest : Nat)
  | below (n lo hi : Nat)
  | free
  deriving DecidableEq, Repr

/-- Where a register's instances lie: the byte address of the first instance in the window, the index of
the first instance, how many there are and their distance; and the same of a second index from 0. -/
structure Reg where
  addr : Nat
  first : Nat
  count : Nat
  stride : Nat
  count2 : Nat
  stride2 : Nat
  deriving DecidableEq, Repr

/-- A field of a register: its lowest bit, width, access code, reset class and Reset value. -/
structure Field where
  reg : Reg
  lsb : Nat
  width : Nat
  acc : Acc
  cls : Cls
  rst : Rst
  deriving DecidableEq, Repr

/-- Whether the register has instance `i`, `j`. -/
def Reg.has (r : Reg) (i j : Nat) : Bool :=
  decide (r.first ≤ i) && decide (i < r.first + r.count) && decide (j < r.count2)

/-- The byte address of instance `i`, `j`. -/
def Reg.at (r : Reg) (i j : Nat) : Nat := r.addr + (i - r.first) * r.stride + j * r.stride2

/-- The bit address of a field's lowest bit, the key under which its value is kept. -/
def Field.key (f : Field) (i j : Nat) : Nat := 8 * f.reg.at i j + f.lsb

/-- The Reset value of instance `i` of a field.  `free` fields are held elsewhere (see `Config`). -/
def Field.reset (f : Field) (i : Nat) : Nat :=
  match f.rst with
  | .const v => v
  | .byIndex l => (l[i - f.reg.first]?).getD 0
  | .head a b => if i = f.reg.first then a else b
  | .below n lo hi => if i < n then lo else hi
  | .free => 0

/-- The instance of a register that lies at byte address `a`, if one does.  Where the first index has the
longer stride the second index is the remainder, and the other way round. -/
def Reg.locate (r : Reg) (a : Nat) : Option (Nat × Nat) :=
  if a < r.addr then none
  else
    let d := a - r.addr
    let i := if r.stride = 0 then 0 else d / r.stride
    let e := if r.stride = 0 then d else d % r.stride
    let j := if r.stride2 = 0 then 0 else e / r.stride2
    let rest := if r.stride2 = 0 then e else e % r.stride2
    if rest = 0 ∧ i < r.count ∧ j < r.count2 then some (i + r.first, j) else none

/-- What R391 and R481 give a block's counters: the saturation flag (with the instance it is read in), the
source raised once at the first saturation, the counters a CLR_CNT sets to 0, and the sources it re-arms. -/
structure CntBlock where
  sat : Field
  src : Nat
  counters : List Field
  rearm : List Nat
  deriving DecidableEq, Repr

end Sys2Proof.Machine
end

