-- ==== Sys2Proof/Machine/Regs.lean ====
section
/-!
DEFINITION. The registers of the privileged control window: one `Reg` for each register of the block
tables (chapters 01 to 16) and one `Field` for each field of its field table, with the bits, the access
code, the reset class and the Reset value the table states.  A register whose text gives one unnamed
value has one field that carries the register's own name.
Assumption log: DESIGN CHOICE (78).
-/

namespace Sys2Proof.Machine

/-! ### GLB at 0x00000000 (chapter 01) -/
def rGLB_IDENT : Reg := ⟨0x00000000, 0, 1, 0, 1, 0⟩
def GLB_IDENT_PART : Field := ⟨rGLB_IDENT, 0, 16, .ro, .cold, .const 0x6400⟩
def GLB_IDENT_STEPPING : Field := ⟨rGLB_IDENT, 16, 8, .ro, .cold, .const 0xB0⟩
def GLB_IDENT_CHANNELS : Field := ⟨rGLB_IDENT, 24, 8, .ro, .cold, .const 0x40⟩
def rGLB_CONFIG_INFO : Reg := ⟨0x00000004, 0, 1, 0, 1, 0⟩
def GLB_CONFIG_INFO_DRAM_GIB : Field := ⟨rGLB_CONFIG_INFO, 0, 8, .ro, .cold, .const 0⟩
def GLB_CONFIG_INFO_DIES_PER_CH : Field := ⟨rGLB_CONFIG_INFO, 8, 6, .ro, .cold, .const 0⟩
def GLB_CONFIG_INFO_SPARE_DIES : Field := ⟨rGLB_CONFIG_INFO, 14, 2, .ro, .retained, .const 1⟩
def GLB_CONFIG_INFO_PORTS : Field := ⟨rGLB_CONFIG_INFO, 16, 2, .ro, .cold, .const 1⟩
def GLB_CONFIG_INFO_CW_PORTS_UP : Field := ⟨rGLB_CONFIG_INFO, 18, 4, .ro, .warm, .const 0⟩
def rGLB_SERIAL_LO : Reg := ⟨0x00000008, 0, 1, 0, 1, 0⟩
def GLB_SERIAL_LO : Field := ⟨rGLB_SERIAL_LO, 0, 32, .ro, .cold, .free⟩
def rGLB_SERIAL_HI : Reg := ⟨0x0000000C, 0, 1, 0, 1, 0⟩
def GLB_SERIAL_HI : Field := ⟨rGLB_SERIAL_HI, 0, 32, .ro, .cold, .free⟩
def rGLB_MODE_STATUS : Reg := ⟨0x00000010, 0, 1, 0, 1, 0⟩
def GLB_MODE_STATUS_MODE : Field := ⟨rGLB_MODE_STATUS, 0, 4, .ro, .cold, .const 2⟩
def GLB_MODE_STATUS_PREV_MODE : Field := ⟨rGLB_MODE_STATUS, 4, 4, .ro, .cold, .const 0⟩
def GLB_MODE_STATUS_HOLD_CAUSE : Field := ⟨rGLB_MODE_STATUS, 8, 3, .ro, .cold, .const 0⟩
def GLB_MODE_STATUS_RETURNED : Field := ⟨rGLB_MODE_STATUS, 11, 1, .rw1c, .cold, .const 0⟩
def GLB_MODE_STATUS_SUPERSEDED : Field := ⟨rGLB_MODE_STATUS, 12, 1, .rw1c, .cold, .const 0⟩
def GLB_MODE_STATUS_WRITE_THROUGH : Field := ⟨rGLB_MODE_STATUS, 13, 1, .ro, .warm, .const 0⟩
def GLB_MODE_STATUS_THROTTLE : Field := ⟨rGLB_MODE_STATUS, 14, 2, .ro, .warm, .const 0⟩
def GLB_MODE_STATUS_DROOP : Field := ⟨rGLB_MODE_STATUS, 16, 1, .ro, .warm, .const 0⟩
def rGLB_SCRATCH : Reg := ⟨0x00000020, 0, 1, 0, 1, 0⟩
def GLB_SCRATCH : Field := ⟨rGLB_SCRATCH, 0, 32, .rw, .warm, .const 0⟩
def rGLB_UPTIME_LO : Reg := ⟨0x00000030, 0, 1, 0, 1, 0⟩
def GLB_UPTIME_LO : Field := ⟨rGLB_UPTIME_LO, 0, 32, .ro, .alwaysOn, .const 0⟩
def rGLB_UPTIME_HI : Reg := ⟨0x00000034, 0, 1, 0, 1, 0⟩
def GLB_UPTIME_HI : Field := ⟨rGLB_UPTIME_HI, 0, 32, .ro, .alwaysOn, .const 0⟩

/-! ### QEN at 0x00100000 (chapter 02) -/
def rQEN_PORT_CFG : Reg := ⟨0x00100000, 0, 1, 0, 1, 0⟩
def QEN_PORT_CFG_PRIV_PORT : Field := ⟨rQEN_PORT_CFG, 0, 1, .rw, .retained, .const 0⟩
def QEN_PORT_CFG_DB_PASID_CHECK : Field := ⟨rQEN_PORT_CFG, 1, 1, .rw, .retained, .const 1⟩
def QEN_PORT_CFG_PREFETCH : Field := ⟨rQEN_PORT_CFG, 2, 4, .rw, .retained, .const 8⟩
def rQEN_STATUS : Reg := ⟨0x00100004, 0, 1, 0, 1, 0⟩
def QEN_STATUS_P0_RDY : Field := ⟨rQEN_STATUS, 0, 1, .ro, .warm, .const 0⟩
def QEN_STATUS_P1_RDY : Field := ⟨rQEN_STATUS, 1, 1, .ro, .warm, .const 0⟩
def QEN_STATUS_CQ_STALL : Field := ⟨rQEN_STATUS, 2, 1, .ro, .warm, .const 0⟩
def QEN_STATUS_SAT : Field := ⟨rQEN_STATUS, 3, 1, .rw1c, .warm, .const 0⟩
def rQEN_CTRL : Reg := ⟨0x00100008, 0, 1, 0, 1, 0⟩
def QEN_CTRL_CLR_CNT : Field := ⟨rQEN_CTRL, 0, 1, .wo, .warm, .const 0⟩
def QEN_CTRL_CLR_PEAK : Field := ⟨rQEN_CTRL, 1, 1, .wo, .warm, .const 0⟩
def rQEN_CTX_USED : Reg := ⟨0x0010000C, 0, 1, 0, 1, 0⟩
def QEN_CTX_USED : Field := ⟨rQEN_CTX_USED, 0, 18, .ro, .warm, .const 0⟩
def rQEN_CTX_PEAK : Reg := ⟨0x00100010, 0, 1, 0, 1, 0⟩
def QEN_CTX_PEAK : Field := ⟨rQEN_CTX_PEAK, 0, 18, .ro, .warm, .const 0⟩
def rQEN_UNBOUND_DROP : Reg := ⟨0x00100014, 0, 1, 0, 1, 0⟩
def QEN_UNBOUND_DROP : Field := ⟨rQEN_UNBOUND_DROP, 0, 32, .cnt, .warm, .const 0⟩
def rQEN_DB_DROP : Reg := ⟨0x00100018, 0, 1, 0, 1, 0⟩
def QEN_DB_DROP : Field := ⟨rQEN_DB_DROP, 0, 32, .cnt, .warm, .const 0⟩
def rQEN_CQ_STALL_CNT : Reg := ⟨0x0010001C, 0, 1, 0, 1, 0⟩
def QEN_CQ_STALL_CNT : Field := ⟨rQEN_CQ_STALL_CNT, 0, 32, .cnt, .warm, .const 0⟩
def rQEN_LINK : Reg := ⟨0x00100020, 0, 2, 4, 1, 0⟩
def QEN_LINK_RATE : Field := ⟨rQEN_LINK, 0, 2, .ro, .warm, .const 0⟩
def QEN_LINK_WIDTH : Field := ⟨rQEN_LINK, 2, 5, .ro, .warm, .const 0⟩
def QEN_LINK_FLIT : Field := ⟨rQEN_LINK, 7, 1, .ro, .warm, .const 0⟩
def QEN_LINK_UP : Field := ⟨rQEN_LINK, 8, 1, .ro, .warm, .const 0⟩
def rQEN_QINFO : Reg := ⟨0x00110000, 1, 4096, 4, 1, 0⟩
def QEN_QINFO_VALID : Field := ⟨rQEN_QINFO, 0, 1, .ro, .warm, .const 0⟩
def QEN_QINFO_PORT : Field := ⟨rQEN_QINFO, 1, 1, .ro, .warm, .const 0⟩
def QEN_QINFO_QID : Field := ⟨rQEN_QINFO, 2, 13, .ro, .warm, .const 0⟩
def QEN_QINFO_CLASS : Field := ⟨rQEN_QINFO, 15, 2, .ro, .warm, .const 0⟩
def QEN_QINFO_SLICE : Field := ⟨rQEN_QINFO, 17, 8, .ro, .warm, .const 0⟩
def QEN_QINFO_CQ_FULL : Field := ⟨rQEN_QINFO, 25, 1, .ro, .warm, .const 0⟩
def QEN_QINFO_FETCH_STOP : Field := ⟨rQEN_QINFO, 26, 1, .ro, .warm, .const 0⟩
def rQEN_QPASID : Reg := ⟨0x00114000, 1, 4096, 4, 1, 0⟩
def QEN_QPASID_PASID : Field := ⟨rQEN_QPASID, 0, 20, .ro, .warm, .const 0⟩
def QEN_QPASID_PV : Field := ⟨rQEN_QPASID, 20, 1, .ro, .warm, .const 0⟩

/-! ### SLM at 0x00200000 (chapter 03) -/
def rSLM_CFG : Reg := ⟨0x00200000, 0, 1, 0, 1, 0⟩
def SLM_CFG_SLICE_LOG2 : Field := ⟨rSLM_CFG, 0, 4, .rw, .retained, .const 0⟩
def SLM_CFG_ACTIVE_LOG2 : Field := ⟨rSLM_CFG, 4, 4, .ro, .cold, .const 0⟩
def rSLM_STATUS : Reg := ⟨0x00200004, 0, 1, 0, 1, 0⟩
def SLM_STATUS_SAT : Field := ⟨rSLM_STATUS, 0, 1, .rw1c, .warm, .const 0⟩
def rSLM_CTRL : Reg := ⟨0x00200008, 0, 1, 0, 1, 0⟩
def SLM_CTRL_CLR_CNT : Field := ⟨rSLM_CTRL, 0, 1, .wo, .warm, .const 0⟩
def rSLM_RESET : Reg := ⟨0x0020000C, 0, 1, 0, 1, 0⟩
def SLM_RESET_SLICE : Field := ⟨rSLM_RESET, 0, 8, .wo, .warm, .const 0⟩
def SLM_RESET_GO : Field := ⟨rSLM_RESET, 8, 1, .wo, .warm, .const 0⟩
def rSLM_PORT_DEF : Reg := ⟨0x00200014, 0, 1, 0, 1, 0⟩
def SLM_PORT_DEF_DEF0 : Field := ⟨rSLM_PORT_DEF, 0, 8, .rw, .retained, .const 0⟩
def SLM_PORT_DEF_DEF1 : Field := ⟨rSLM_PORT_DEF, 8, 8, .rw, .retained, .const 0⟩
def rSLM_PMAP : Reg := ⟨0x00210000, 0, 4096, 4, 1, 0⟩
def SLM_PMAP_PASID : Field := ⟨rSLM_PMAP, 0, 20, .rw, .retained, .const 0⟩
def SLM_PMAP_SLICE : Field := ⟨rSLM_PMAP, 20, 8, .rw, .retained, .const 0⟩
def SLM_PMAP_V : Field := ⟨rSLM_PMAP, 31, 1, .rw, .retained, .const 0⟩
def rSLM_GEN : Reg := ⟨0x00214000, 0, 256, 4, 1, 0⟩
def SLM_GEN : Field := ⟨rSLM_GEN, 0, 16, .ro, .retained, .const 1⟩
def rSLM_ABORT : Reg := ⟨0x00214400, 0, 256, 4, 1, 0⟩
def SLM_ABORT : Field := ⟨rSLM_ABORT, 0, 32, .cnt, .warm, .const 0⟩
def rSLM_RSTAT : Reg := ⟨0x00214800, 0, 256, 4, 1, 0⟩
def SLM_RSTAT_BUSY : Field := ⟨rSLM_RSTAT, 0, 1, .ro, .warm, .const 0⟩
def SLM_RSTAT_DONE : Field := ⟨rSLM_RSTAT, 1, 1, .rw1c, .warm, .const 0⟩
def SLM_RSTAT_HELD : Field := ⟨rSLM_RSTAT, 2, 1, .ro, .warm, .const 0⟩
def SLM_RSTAT_REJ : Field := ⟨rSLM_RSTAT, 3, 1, .rw1c, .warm, .const 0⟩
def SLM_RSTAT_ELAPSED : Field := ⟨rSLM_RSTAT, 8, 8, .ro, .warm, .const 0⟩
def rSLM_DIRTY : Reg := ⟨0x00214C00, 0, 256, 4, 1, 0⟩
def SLM_DIRTY : Field := ⟨rSLM_DIRTY, 0, 20, .ro, .warm, .const 0⟩
def rSLM_BUDGET : Reg := ⟨0x00215000, 0, 256, 64, 9, 4⟩
def SLM_BUDGET : Field := ⟨rSLM_BUDGET, 0, 20, .rw, .cold, .const 0⟩
def rSLM_NSACC : Reg := ⟨0x00220000, 0, 256, 128, 32, 4⟩
def SLM_NSACC : Field := ⟨rSLM_NSACC, 0, 32, .rw, .retained, .const 0xFFFFFFFF⟩

/-! ### TLG at 0x00280000 (chapter 03) -/
def rTLG_CTRL : Reg := ⟨0x00280000, 0, 1, 0, 1, 0⟩
def TLG_CTRL_CLR_CNT : Field := ⟨rTLG_CTRL, 0, 1, .wo, .warm, .const 0⟩
def TLG_CTRL_RA_EN : Field := ⟨rTLG_CTRL, 1, 1, .rw, .retained, .const 1⟩
def rTLG_STATUS : Reg := ⟨0x00280004, 0, 1, 0, 1, 0⟩
def TLG_STATUS_SAT : Field := ⟨rTLG_STATUS, 0, 1, .rw1c, .warm, .const 0⟩
def TLG_STATUS_OVERWRITTEN : Field := ⟨rTLG_STATUS, 1, 1, .ro, .cold, .const 0⟩
def rTLG_DEADLINE : Reg := ⟨0x00280010, 0, 4, 4, 1, 0⟩
def TLG_DEADLINE : Field := ⟨rTLG_DEADLINE, 0, 24, .ro, .warm, .byIndex [0x0000FA, 0x0003E8, 0x002710, 0x000000]⟩
def rTLG_RA_BUDGET : Reg := ⟨0x00280020, 0, 4, 4, 1, 0⟩
def TLG_RA_BUDGET_BUDGET_US : Field := ⟨rTLG_RA_BUDGET, 0, 16, .rw, .retained, .byIndex [0x78, 0x258, 0x1770, 0]⟩
def TLG_RA_BUDGET_RACE : Field := ⟨rTLG_RA_BUDGET, 16, 1, .rw, .retained, .byIndex [1, 0, 0, 0]⟩
def rTLG_LATE_CLASS : Reg := ⟨0x00280030, 0, 4, 4, 1, 0⟩
def TLG_LATE_CLASS : Field := ⟨rTLG_LATE_CLASS, 0, 32, .cnt, .warm, .const 0⟩
def rTLG_RA_START : Reg := ⟨0x00280040, 0, 4, 4, 1, 0⟩
def TLG_RA_START : Field := ⟨rTLG_RA_START, 0, 32, .cnt, .warm, .const 0⟩
def rTLG_RA_PEER_WON : Reg := ⟨0x00280050, 0, 4, 4, 1, 0⟩
def TLG_RA_PEER_WON : Field := ⟨rTLG_RA_PEER_WON, 0, 32, .cnt, .warm, .const 0⟩
def rTLG_REC_TOTAL_LO : Reg := ⟨0x00280060, 0, 1, 0, 1, 0⟩
def TLG_REC_TOTAL_LO : Field := ⟨rTLG_REC_TOTAL_LO, 0, 32, .ro, .cold, .const 0⟩
def rTLG_REC_TOTAL_HI : Reg := ⟨0x00280064, 0, 1, 0, 1, 0⟩
def TLG_REC_TOTAL_HI : Field := ⟨rTLG_REC_TOTAL_HI, 0, 32, .ro, .cold, .const 0⟩
def rTLG_LATE_SLICE : Reg := ⟨0x00281000, 0, 256, 4, 1, 0⟩
def TLG_LATE_SLICE : Field := ⟨rTLG_LATE_SLICE, 0, 32, .cnt, .warm, .const 0⟩

/-! ### WPT at 0x00300000 (chapter 04) -/
def rWPT_CMD : Reg := ⟨0x00300000, 0, 1, 0, 1, 0⟩
def WPT_CMD_INDEX : Field := ⟨rWPT_CMD, 0, 12, .wo, .warm, .const 0⟩
def WPT_CMD_OP : Field := ⟨rWPT_CMD, 12, 4, .wo, .warm, .const 0⟩
def rWPT_STATUS : Reg := ⟨0x00300004, 0, 1, 0, 1, 0⟩
def WPT_STATUS_BUSY : Field := ⟨rWPT_STATUS, 0, 1, .ro, .warm, .const 0⟩
def WPT_STATUS_REJ : Field := ⟨rWPT_STATUS, 1, 1, .rw1c, .warm, .const 0⟩
def WPT_STATUS_LOST : Field := ⟨rWPT_STATUS, 2, 1, .rw1c, .warm, .const 0⟩
def WPT_STATUS_SAT : Field := ⟨rWPT_STATUS, 3, 1, .rw1c, .warm, .const 0⟩
def WPT_STATUS_USED : Field := ⟨rWPT_STATUS, 16, 13, .ro, .retained, .const 0⟩
def rWPT_CTRL : Reg := ⟨0x00300008, 0, 1, 0, 1, 0⟩
def WPT_CTRL_CLR_CNT : Field := ⟨rWPT_CTRL, 0, 1, .wo, .warm, .const 0⟩
def WPT_CTRL_SCRUB_EN : Field := ⟨rWPT_CTRL, 1, 1, .rw, .retained, .const 1⟩
def rWPT_STAGE_KEY_LO : Reg := ⟨0x00300010, 0, 1, 0, 1, 0⟩
def WPT_STAGE_KEY_LO : Field := ⟨rWPT_STAGE_KEY_LO, 0, 32, .rw, .warm, .const 0⟩
def rWPT_STAGE_KEY_HI : Reg := ⟨0x00300014, 0, 1, 0, 1, 0⟩
def WPT_STAGE_KEY_HI : Field := ⟨rWPT_STAGE_KEY_HI, 0, 32, .rw, .warm, .const 0⟩
def rWPT_STAGE_KEY_2 : Reg := ⟨0x00300018, 0, 1, 0, 1, 0⟩
def WPT_STAGE_KEY_2_OPC : Field := ⟨rWPT_STAGE_KEY_2, 0, 4, .rw, .warm, .const 0⟩
def WPT_STAGE_KEY_2_HINT : Field := ⟨rWPT_STAGE_KEY_2, 4, 16, .rw, .warm, .const 0⟩
def WPT_STAGE_KEY_2_NS : Field := ⟨rWPT_STAGE_KEY_2, 20, 10, .rw, .warm, .const 0⟩
def rWPT_STAGE_KEY_3 : Reg := ⟨0x0030001C, 0, 1, 0, 1, 0⟩
def WPT_STAGE_KEY_3_SLICE : Field := ⟨rWPT_STAGE_KEY_3, 0, 8, .rw, .warm, .const 0⟩
def rWPT_STAGE_MASK_LO : Reg := ⟨0x00300020, 0, 1, 0, 1, 0⟩
def WPT_STAGE_MASK_LO : Field := ⟨rWPT_STAGE_MASK_LO, 0, 32, .rw, .warm, .const 0⟩
def rWPT_STAGE_MASK_HI : Reg := ⟨0x00300024, 0, 1, 0, 1, 0⟩
def WPT_STAGE_MASK_HI : Field := ⟨rWPT_STAGE_MASK_HI, 0, 32, .rw, .warm, .const 0⟩
def rWPT_STAGE_MASK_2 : Reg := ⟨0x00300028, 0, 1, 0, 1, 0⟩
def WPT_STAGE_MASK_2_OPC : Field := ⟨rWPT_STAGE_MASK_2, 0, 4, .rw, .warm, .const 0⟩
def WPT_STAGE_MASK_2_HINT : Field := ⟨rWPT_STAGE_MASK_2, 4, 16, .rw, .warm, .const 0⟩
def WPT_STAGE_MASK_2_NS : Field := ⟨rWPT_STAGE_MASK_2, 20, 10, .rw, .warm, .const 0⟩
def rWPT_STAGE_MASK_3 : Reg := ⟨0x0030002C, 0, 1, 0, 1, 0⟩
def WPT_STAGE_MASK_3_SLICE : Field := ⟨rWPT_STAGE_MASK_3, 0, 8, .rw, .warm, .const 0⟩
def rWPT_STAGE_RES : Reg := ⟨0x00300030, 0, 1, 0, 1, 0⟩
def WPT_STAGE_RES_ROUTE : Field := ⟨rWPT_STAGE_RES, 0, 6, .rw, .warm, .const 0⟩
def WPT_STAGE_RES_ROW_FLUSH : Field := ⟨rWPT_STAGE_RES, 6, 1, .rw, .warm, .const 0⟩
def WPT_STAGE_RES_REFUSE : Field := ⟨rWPT_STAGE_RES, 7, 1, .rw, .warm, .const 0⟩
def WPT_STAGE_RES_V : Field := ⟨rWPT_STAGE_RES, 31, 1, .rw, .warm, .const 0⟩
def rWPT_FALSE_HIT : Reg := ⟨0x00300040, 0, 1, 0, 1, 0⟩
def WPT_FALSE_HIT : Field := ⟨rWPT_FALSE_HIT, 0, 32, .cnt, .warm, .const 0⟩
def rWPT_SCRUB_FIX : Reg := ⟨0x00300044, 0, 1, 0, 1, 0⟩
def WPT_SCRUB_FIX : Field := ⟨rWPT_SCRUB_FIX, 0, 32, .cnt, .warm, .const 0⟩
def rWPT_HIT : Reg := ⟨0x00300100, 0, 8, 8, 1, 0⟩
def WPT_HIT : Field := ⟨rWPT_HIT, 0, 32, .cnt, .warm, .const 0⟩
def rWPT_MISS : Reg := ⟨0x00300104, 0, 8, 8, 1, 0⟩
def WPT_MISS : Field := ⟨rWPT_MISS, 0, 32, .cnt, .warm, .const 0⟩
def rWPT_PMASK_LO : Reg := ⟨0x00300200, 0, 8, 16, 1, 0⟩
def WPT_PMASK_LO : Field := ⟨rWPT_PMASK_LO, 0, 32, .rw, .retained, .const 0xFFFFFFFF⟩
def rWPT_PMASK_HI : Reg := ⟨0x00300204, 0, 8, 16, 1, 0⟩
def WPT_PMASK_HI : Field := ⟨rWPT_PMASK_HI, 0, 32, .rw, .retained, .const 0xFFFFFFFF⟩
def rWPT_PMASK_2 : Reg := ⟨0x00300208, 0, 8, 16, 1, 0⟩
def WPT_PMASK_2_OPC : Field := ⟨rWPT_PMASK_2, 0, 4, .rw, .retained, .const 0xF⟩
def WPT_PMASK_2_HINT : Field := ⟨rWPT_PMASK_2, 4, 16, .rw, .retained, .const 0xFFFF⟩
def WPT_PMASK_2_NS : Field := ⟨rWPT_PMASK_2, 20, 10, .rw, .retained, .const 0x3FF⟩
def rWPT_PMASK_3 : Reg := ⟨0x0030020C, 0, 8, 16, 1, 0⟩
def WPT_PMASK_3_SLICE : Field := ⟨rWPT_PMASK_3, 0, 8, .rw, .retained, .const 0xFF⟩
def rWPT_PDEF : Reg := ⟨0x00300300, 0, 8, 4, 1, 0⟩
def WPT_PDEF_ROUTE : Field := ⟨rWPT_PDEF, 0, 6, .rw, .retained, .const 0⟩
def rWPT_NSPROF : Reg := ⟨0x00300400, 0, 128, 4, 1, 0⟩
def WPT_NSPROF_P0 : Field := ⟨rWPT_NSPROF, 0, 3, .rw, .retained, .const 0⟩
def WPT_NSPROF_P1 : Field := ⟨rWPT_NSPROF, 4, 3, .rw, .retained, .const 0⟩
def WPT_NSPROF_P2 : Field := ⟨rWPT_NSPROF, 8, 3, .rw, .retained, .const 0⟩
def WPT_NSPROF_P3 : Field := ⟨rWPT_NSPROF, 12, 3, .rw, .retained, .const 0⟩
def WPT_NSPROF_P4 : Field := ⟨rWPT_NSPROF, 16, 3, .rw, .retained, .const 0⟩
def WPT_NSPROF_P5 : Field := ⟨rWPT_NSPROF, 20, 3, .rw, .retained, .const 0⟩
def WPT_NSPROF_P6 : Field := ⟨rWPT_NSPROF, 24, 3, .rw, .retained, .const 0⟩
def WPT_NSPROF_P7 : Field := ⟨rWPT_NSPROF, 28, 3, .rw, .retained, .const 0⟩
def rWPT_ROUTE_CHLO : Reg := ⟨0x00310000, 0, 64, 16, 1, 0⟩
def WPT_ROUTE_CHLO : Field := ⟨rWPT_ROUTE_CHLO, 0, 32, .rw, .retained, .head 0xFFFFFFFF 0⟩
def rWPT_ROUTE_CHHI : Reg := ⟨0x00310004, 0, 64, 16, 1, 0⟩
def WPT_ROUTE_CHHI : Field := ⟨rWPT_ROUTE_CHHI, 0, 32, .rw, .retained, .head 0xFFFFFFFF 0⟩
def rWPT_ROUTE_CFG : Reg := ⟨0x00310008, 0, 64, 16, 1, 0⟩
def WPT_ROUTE_CFG_MODE : Field := ⟨rWPT_ROUTE_CFG, 0, 2, .rw, .retained, .const 0⟩
def WPT_ROUTE_CFG_FORM : Field := ⟨rWPT_ROUTE_CFG, 2, 1, .rw, .retained, .const 0⟩
def WPT_ROUTE_CFG_PRIO : Field := ⟨rWPT_ROUTE_CFG, 3, 2, .rw, .retained, .head 1 0⟩
def WPT_ROUTE_CFG_V : Field := ⟨rWPT_ROUTE_CFG, 31, 1, .rwx, .retained, .head 1 0⟩

/-! ### ZNE at 0x00400000 (chapter 04) -/
def rZNE_STATUS : Reg := ⟨0x00400000, 0, 1, 0, 1, 0⟩
def ZNE_STATUS_RECOMP : Field := ⟨rZNE_STATUS, 0, 1, .ro, .warm, .const 0⟩
def ZNE_STATUS_SAT : Field := ⟨rZNE_STATUS, 1, 1, .rw1c, .warm, .const 0⟩
def rZNE_CTRL : Reg := ⟨0x00400004, 0, 1, 0, 1, 0⟩
def ZNE_CTRL_CLR_CNT : Field := ⟨rZNE_CTRL, 0, 1, .wo, .warm, .const 0⟩
def rZNE_ACTIVE : Reg := ⟨0x00400008, 0, 1, 0, 1, 0⟩
def ZNE_ACTIVE : Field := ⟨rZNE_ACTIVE, 0, 12, .ro, .warm, .const 0⟩
def rZNE_CTX_USED : Reg := ⟨0x0040000C, 0, 1, 0, 1, 0⟩
def ZNE_CTX_USED : Field := ⟨rZNE_CTX_USED, 0, 12, .ro, .warm, .const 0⟩
def rZNE_ACC_USED : Reg := ⟨0x00400010, 0, 1, 0, 1, 0⟩
def ZNE_ACC_USED : Field := ⟨rZNE_ACC_USED, 0, 7, .ro, .warm, .const 0⟩
def rZNE_SPILL_CNT : Reg := ⟨0x00400014, 0, 1, 0, 1, 0⟩
def ZNE_SPILL_CNT : Field := ⟨rZNE_SPILL_CNT, 0, 32, .cnt, .warm, .const 0⟩
def rZNE_RELOAD_CNT : Reg := ⟨0x00400018, 0, 1, 0, 1, 0⟩
def ZNE_RELOAD_CNT : Field := ⟨rZNE_RELOAD_CNT, 0, 32, .cnt, .warm, .const 0⟩
def rZNE_NOSTRIPE_CNT : Reg := ⟨0x0040001C, 0, 1, 0, 1, 0⟩
def ZNE_NOSTRIPE_CNT : Field := ⟨rZNE_NOSTRIPE_CNT, 0, 32, .cnt, .warm, .const 0⟩
def rZNE_FN : Reg := ⟨0x00400020, 0, 1, 0, 1, 0⟩
def ZNE_FN : Field := ⟨rZNE_FN, 0, 32, .ro, .retained, .const 0⟩
def rZNE_RFREE : Reg := ⟨0x00400100, 0, 64, 4, 1, 0⟩
def ZNE_RFREE : Field := ⟨rZNE_RFREE, 0, 20, .ro, .warm, .const 0⟩

/-! ### WCU at 0x00500000 (chapter 05) -/
def rWCU_CTRL : Reg := ⟨0x00500000, 0, 1, 0, 1, 0⟩
def WCU_CTRL_CLR_CNT : Field := ⟨rWCU_CTRL, 0, 1, .wo, .warm, .const 0⟩
def WCU_CTRL_FORCE_WT : Field := ⟨rWCU_CTRL, 1, 1, .rw, .retained, .const 0⟩
def rWCU_STATUS : Reg := ⟨0x00500004, 0, 1, 0, 1, 0⟩
def WCU_STATUS_WT : Field := ⟨rWCU_STATUS, 0, 1, .ro, .warm, .const 0⟩
def WCU_STATUS_WT_CAUSE : Field := ⟨rWCU_STATUS, 1, 4, .ro, .warm, .const 0⟩
def WCU_STATUS_PRESSURE : Field := ⟨rWCU_STATUS, 5, 1, .ro, .warm, .const 0⟩
def WCU_STATUS_SINGLE : Field := ⟨rWCU_STATUS, 6, 1, .ro, .warm, .const 0⟩
def WCU_STATUS_FLASH_BLOCKED : Field := ⟨rWCU_STATUS, 7, 1, .ro, .warm, .const 0⟩
def WCU_STATUS_SAT : Field := ⟨rWCU_STATUS, 8, 1, .rw1c, .warm, .const 0⟩
def rWCU_DIRTY_CFG : Reg := ⟨0x00500008, 0, 1, 0, 1, 0⟩
def WCU_DIRTY_CFG_CEIL : Field := ⟨rWCU_DIRTY_CFG, 0, 12, .rw, .retained, .const 0x100⟩
def WCU_DIRTY_CFG_CEIL_MAX : Field := ⟨rWCU_DIRTY_CFG, 16, 12, .ro, .cold, .const 0⟩
def rWCU_LIMIT_CFG : Reg := ⟨0x0050000C, 0, 1, 0, 1, 0⟩
def WCU_LIMIT_CFG_PWR : Field := ⟨rWCU_LIMIT_CFG, 0, 10, .rw, .retained, .const 0x0AF⟩
def WCU_LIMIT_CFG_T_OH : Field := ⟨rWCU_LIMIT_CFG, 10, 8, .rw, .retained, .const 0x1E⟩
def rWCU_LIMIT : Reg := ⟨0x00500010, 0, 1, 0, 1, 0⟩
def WCU_LIMIT_L : Field := ⟨rWCU_LIMIT, 0, 12, .ro, .cold, .const 0⟩
def WCU_LIMIT_L_ENERGY : Field := ⟨rWCU_LIMIT, 12, 12, .ro, .cold, .const 0⟩
def rWCU_LIMIT_IN : Reg := ⟨0x00500014, 0, 1, 0, 1, 0⟩
def WCU_LIMIT_IN_EU : Field := ⟨rWCU_LIMIT_IN, 0, 16, .ro, .cold, .const 0⟩
def WCU_LIMIT_IN_N_H : Field := ⟨rWCU_LIMIT_IN, 16, 10, .ro, .cold, .const 0⟩
def rWCU_DIRTY_NOW : Reg := ⟨0x00500018, 0, 1, 0, 1, 0⟩
def WCU_DIRTY_NOW : Field := ⟨rWCU_DIRTY_NOW, 0, 20, .ro, .warm, .const 0⟩
def rWCU_SINGLE_NOW : Reg := ⟨0x0050001C, 0, 1, 0, 1, 0⟩
def WCU_SINGLE_NOW : Field := ⟨rWCU_SINGLE_NOW, 0, 20, .ro, .warm, .const 0⟩
def rWCU_READ_HIT : Reg := ⟨0x00500020, 0, 1, 0, 1, 0⟩
def WCU_READ_HIT : Field := ⟨rWCU_READ_HIT, 0, 32, .cnt, .warm, .const 0⟩
def rWCU_WT_ENTRY : Reg := ⟨0x00500024, 0, 1, 0, 1, 0⟩
def WCU_WT_ENTRY : Field := ⟨rWCU_WT_ENTRY, 0, 32, .cnt, .warm, .const 0⟩
def rWCU_MIRROR_FIX : Reg := ⟨0x00500028, 0, 1, 0, 1, 0⟩
def WCU_MIRROR_FIX : Field := ⟨rWCU_MIRROR_FIX, 0, 32, .cnt, .warm, .const 0⟩
def rWCU_LOST_CNT : Reg := ⟨0x0050002C, 0, 1, 0, 1, 0⟩
def WCU_LOST_CNT : Field := ⟨rWCU_LOST_CNT, 0, 32, .cnt, .warm, .const 0⟩
def rWCU_JOURNAL_PG : Reg := ⟨0x00500030, 0, 1, 0, 1, 0⟩
def WCU_JOURNAL_PG : Field := ⟨rWCU_JOURNAL_PG, 0, 32, .cnt, .warm, .const 0⟩

/-! ### BPL at 0x00600000 (chapter 05) -/
def rBPL_CTRL : Reg := ⟨0x00600000, 0, 1, 0, 1, 0⟩
def BPL_CTRL_CLR_CNT : Field := ⟨rBPL_CTRL, 0, 1, .wo, .warm, .const 0⟩
def rBPL_STATUS : Reg := ⟨0x00600004, 0, 1, 0, 1, 0⟩
def BPL_STATUS_REBUILDING : Field := ⟨rBPL_STATUS, 0, 1, .ro, .warm, .const 0⟩
def BPL_STATUS_BROKEN : Field := ⟨rBPL_STATUS, 1, 1, .rw1c, .warm, .const 0⟩
def BPL_STATUS_DFREE : Field := ⟨rBPL_STATUS, 2, 1, .rw1c, .warm, .const 0⟩
def BPL_STATUS_OWNER : Field := ⟨rBPL_STATUS, 3, 1, .rw1c, .warm, .const 0⟩
def BPL_STATUS_SAT : Field := ⟨rBPL_STATUS, 4, 1, .rw1c, .warm, .const 0⟩
def rBPL_SIZE : Reg := ⟨0x00600010, 0, 2, 4, 1, 0⟩
def BPL_SIZE : Field := ⟨rBPL_SIZE, 0, 20, .ro, .cold, .const 0⟩
def rBPL_FREE : Reg := ⟨0x00600020, 0, 5, 4, 1, 0⟩
def BPL_FREE : Field := ⟨rBPL_FREE, 0, 20, .ro, .warm, .const 0⟩
def rBPL_IRES : Reg := ⟨0x00600040, 0, 2, 4, 1, 0⟩
def BPL_IRES : Field := ⟨rBPL_IRES, 0, 20, .ro, .cold, .const 0⟩
def rBPL_SRES : Reg := ⟨0x00600048, 0, 2, 4, 1, 0⟩
def BPL_SRES : Field := ⟨rBPL_SRES, 0, 20, .ro, .cold, .const 0⟩
def rBPL_DFREE_CNT : Reg := ⟨0x00600050, 0, 1, 0, 1, 0⟩
def BPL_DFREE_CNT : Field := ⟨rBPL_DFREE_CNT, 0, 32, .cnt, .warm, .const 0⟩
def rBPL_OWNER_CNT : Reg := ⟨0x00600054, 0, 1, 0, 1, 0⟩
def BPL_OWNER_CNT : Field := ⟨rBPL_OWNER_CNT, 0, 32, .cnt, .warm, .const 0⟩
def rBPL_BROKEN_CNT : Reg := ⟨0x00600058, 0, 1, 0, 1, 0⟩
def BPL_BROKEN_CNT : Field := ⟨rBPL_BROKEN_CNT, 0, 32, .cnt, .warm, .const 0⟩
def rBPL_ERR_IDX : Reg := ⟨0x00600060, 0, 1, 0, 1, 0⟩
def BPL_ERR_IDX : Field := ⟨rBPL_ERR_IDX, 0, 20, .ro, .warm, .const 0⟩
def rBPL_ERR_INFO : Reg := ⟨0x00600064, 0, 1, 0, 1, 0⟩
def BPL_ERR_INFO_MASTER : Field := ⟨rBPL_ERR_INFO, 0, 8, .ro, .warm, .const 0⟩
def BPL_ERR_INFO_POOL : Field := ⟨rBPL_ERR_INFO, 8, 1, .ro, .warm, .const 0⟩
def BPL_ERR_INFO_KIND : Field := ⟨rBPL_ERR_INFO, 9, 2, .ro, .warm, .const 0⟩
def rBPL_DESC_SEL : Reg := ⟨0x00600070, 0, 1, 0, 1, 0⟩
def BPL_DESC_SEL_INDEX : Field := ⟨rBPL_DESC_SEL, 0, 20, .rw, .warm, .const 0⟩
def BPL_DESC_SEL_POOL : Field := ⟨rBPL_DESC_SEL, 31, 1, .rw, .warm, .const 0⟩
def rBPL_DESC_DATA : Reg := ⟨0x00600074, 0, 1, 0, 1, 0⟩
def BPL_DESC_DATA : Field := ⟨rBPL_DESC_DATA, 0, 23, .ro, .warm, .const 0⟩

/-! ### FSQ at 0x00800000 (chapter 06) -/
def rFSQ_CTRL : Reg := ⟨0x00800000, 0, 64, 8192, 1, 0⟩
def FSQ_CTRL_CLR_CNT : Field := ⟨rFSQ_CTRL, 0, 1, .wo, .cold, .const 0⟩
def rFSQ_STATUS : Reg := ⟨0x00800004, 0, 64, 8192, 1, 0⟩
def FSQ_STATUS_STATE : Field := ⟨rFSQ_STATUS, 0, 2, .ro, .cold, .const 0⟩
def FSQ_STATUS_DIES : Field := ⟨rFSQ_STATUS, 2, 6, .ro, .cold, .const 0⟩
def FSQ_STATUS_SPARES_LEFT : Field := ⟨rFSQ_STATUS, 8, 2, .ro, .cold, .const 0⟩
def FSQ_STATUS_RATE : Field := ⟨rFSQ_STATUS, 10, 3, .ro, .cold, .const 0⟩
def FSQ_STATUS_SAT : Field := ⟨rFSQ_STATUS, 13, 1, .rw1c, .cold, .const 0⟩
def rFSQ_EVT : Reg := ⟨0x00800008, 0, 64, 8192, 1, 0⟩
def FSQ_EVT_DIE_FAIL : Field := ⟨rFSQ_EVT, 0, 1, .rw1c, .cold, .const 0⟩
def FSQ_EVT_CH_FAIL : Field := ⟨rFSQ_EVT, 1, 1, .rw1c, .cold, .const 0⟩
def FSQ_EVT_RATE_LOW : Field := ⟨rFSQ_EVT, 2, 1, .rw1c, .cold, .const 0⟩
def FSQ_EVT_FULL_TRAIN : Field := ⟨rFSQ_EVT, 3, 1, .rw1c, .cold, .const 0⟩
def FSQ_EVT_REFUSED : Field := ⟨rFSQ_EVT, 4, 1, .rw1c, .cold, .const 0⟩
def FSQ_EVT_PROG_FAIL : Field := ⟨rFSQ_EVT, 5, 1, .rw1c, .cold, .const 0⟩
def FSQ_EVT_ERASE_FAIL : Field := ⟨rFSQ_EVT, 6, 1, .rw1c, .cold, .const 0⟩
def FSQ_EVT_REBUILD_START : Field := ⟨rFSQ_EVT, 7, 1, .rw1c, .cold, .const 0⟩
def FSQ_EVT_REBUILD_DONE : Field := ⟨rFSQ_EVT, 8, 1, .rw1c, .cold, .const 0⟩
def FSQ_EVT_SPARE_OUT : Field := ⟨rFSQ_EVT, 9, 1, .rw1c, .cold, .const 0⟩
def FSQ_EVT_SAT : Field := ⟨rFSQ_EVT, 10, 1, .rw1c, .cold, .const 0⟩
def rFSQ_TIMING : Reg := ⟨0x0080000C, 0, 64, 8192, 1, 0⟩
def FSQ_TIMING_RATE_MAX : Field := ⟨rFSQ_TIMING, 0, 3, .rw, .retained, .const 4⟩
def FSQ_TIMING_TIMEOUT_MS : Field := ⟨rFSQ_TIMING, 8, 8, .rw, .retained, .const 0x32⟩
def rFSQ_LAST_REFUSE : Reg := ⟨0x00800010, 0, 64, 8192, 1, 0⟩
def FSQ_LAST_REFUSE_CODE : Field := ⟨rFSQ_LAST_REFUSE, 0, 3, .ro, .cold, .const 0⟩
def FSQ_LAST_REFUSE_DIE : Field := ⟨rFSQ_LAST_REFUSE, 3, 5, .ro, .cold, .const 0⟩
def FSQ_LAST_REFUSE_BLOCK : Field := ⟨rFSQ_LAST_REFUSE, 8, 11, .ro, .cold, .const 0⟩
def FSQ_LAST_REFUSE_WL : Field := ⟨rFSQ_LAST_REFUSE, 19, 10, .ro, .cold, .const 0⟩
def rFSQ_REFUSE_CNT : Reg := ⟨0x00800020, 0, 64, 8192, 1, 0⟩
def FSQ_REFUSE_CNT : Field := ⟨rFSQ_REFUSE_CNT, 0, 32, .cnt, .cold, .const 0⟩
def rFSQ_PFAIL_CNT : Reg := ⟨0x00800024, 0, 64, 8192, 1, 0⟩
def FSQ_PFAIL_CNT : Field := ⟨rFSQ_PFAIL_CNT, 0, 32, .cnt, .cold, .const 0⟩
def rFSQ_EFAIL_CNT : Reg := ⟨0x00800028, 0, 64, 8192, 1, 0⟩
def FSQ_EFAIL_CNT : Field := ⟨rFSQ_EFAIL_CNT, 0, 32, .cnt, .cold, .const 0⟩
def rFSQ_SUSP_CNT : Reg := ⟨0x0080002C, 0, 64, 8192, 1, 0⟩
def FSQ_SUSP_CNT : Field := ⟨rFSQ_SUSP_CNT, 0, 32, .cnt, .cold, .const 0⟩
def rFSQ_RETRAIN_CNT : Reg := ⟨0x00800030, 0, 64, 8192, 1, 0⟩
def FSQ_RETRAIN_CNT : Field := ⟨rFSQ_RETRAIN_CNT, 0, 32, .cnt, .cold, .const 0⟩
def rFSQ_SLOT_DEFER_CNT : Reg := ⟨0x00800034, 0, 64, 8192, 1, 0⟩
def FSQ_SLOT_DEFER_CNT : Field := ⟨rFSQ_SLOT_DEFER_CNT, 0, 32, .cnt, .cold, .const 0⟩
def rFSQ_DIE : Reg := ⟨0x00800100, 0, 64, 8192, 32, 4⟩
def FSQ_DIE_STATE : Field := ⟨rFSQ_DIE, 0, 3, .ro, .cold, .const 0⟩
def FSQ_DIE_DUMP : Field := ⟨rFSQ_DIE, 3, 1, .ro, .cold, .const 0⟩
def FSQ_DIE_OP : Field := ⟨rFSQ_DIE, 4, 3, .ro, .cold, .const 0⟩
def FSQ_DIE_OPEN_BLKS : Field := ⟨rFSQ_DIE, 7, 8, .ro, .cold, .const 0⟩
def FSQ_DIE_RETIRED : Field := ⟨rFSQ_DIE, 15, 11, .ro, .cold, .const 0⟩
def rFSQ_NPP_SEL : Reg := ⟨0x00800200, 0, 64, 8192, 1, 0⟩
def FSQ_NPP_SEL_DIE : Field := ⟨rFSQ_NPP_SEL, 0, 5, .rw, .cold, .const 0⟩
def FSQ_NPP_SEL_BLOCK : Field := ⟨rFSQ_NPP_SEL, 5, 11, .rw, .cold, .const 0⟩
def rFSQ_NPP_DATA : Reg := ⟨0x00800204, 0, 64, 8192, 1, 0⟩
def FSQ_NPP_DATA_STATE : Field := ⟨rFSQ_NPP_DATA, 0, 2, .ro, .cold, .const 0⟩
def FSQ_NPP_DATA_NPP : Field := ⟨rFSQ_NPP_DATA, 2, 11, .ro, .cold, .const 0⟩

/-! ### FSQ at 0x01600000 (chapter 06) -/
def rFSQ_DQDLY : Reg := ⟨0x01600000, 0, 64, 8192, 512, 4⟩
def FSQ_DQDLY : Field := ⟨rFSQ_DQDLY, 0, 32, .ro, .cold, .free⟩
def rFSQ_OPC : Reg := ⟨0x01600800, 0, 64, 8192, 16, 4⟩
def FSQ_OPC : Field := ⟨rFSQ_OPC, 0, 32, .rw, .retained, .const 0⟩
def rFSQ_TRAIN_LOG : Reg := ⟨0x01600C00, 0, 64, 8192, 64, 4⟩
def FSQ_TRAIN_LOG : Field := ⟨rFSQ_TRAIN_LOG, 0, 32, .ro, .cold, .free⟩

/-! ### DSC at 0x00880000 (chapter 06) -/
def rDSC_CTRL : Reg := ⟨0x00880000, 0, 1, 0, 1, 0⟩
def DSC_CTRL_CLR_CNT : Field := ⟨rDSC_CTRL, 0, 1, .wo, .warm, .const 0⟩
def rDSC_CFG : Reg := ⟨0x00880004, 0, 1, 0, 1, 0⟩
def DSC_CFG_IRES : Field := ⟨rDSC_CFG, 0, 6, .rw, .retained, .const 0x0A⟩
def DSC_CFG_REBUILD_PCT : Field := ⟨rDSC_CFG, 8, 7, .rw, .retained, .const 0x32⟩
def DSC_CFG_DIE_FAIL_BLK : Field := ⟨rDSC_CFG, 16, 8, .rw, .retained, .const 0x20⟩
def DSC_CFG_BUSY_RA : Field := ⟨rDSC_CFG, 24, 1, .rw, .retained, .const 1⟩
def DSC_CFG_SPARE_DIES : Field := ⟨rDSC_CFG, 25, 2, .rw, .retained, .const 1⟩
def rDSC_SUSP_CFG : Reg := ⟨0x00880008, 0, 1, 0, 1, 0⟩
def DSC_SUSP_CFG_CLASS_MASK : Field := ⟨rDSC_SUSP_CFG, 0, 4, .rw, .retained, .const 3⟩
def DSC_SUSP_CFG_MAX_P : Field := ⟨rDSC_SUSP_CFG, 4, 4, .rw, .retained, .const 8⟩
def DSC_SUSP_CFG_MAX_E : Field := ⟨rDSC_SUSP_CFG, 8, 6, .rw, .retained, .const 0x20⟩
def DSC_SUSP_CFG_READS : Field := ⟨rDSC_SUSP_CFG, 14, 4, .rw, .retained, .const 4⟩
def DSC_SUSP_CFG_MIN_RUN_P : Field := ⟨rDSC_SUSP_CFG, 18, 6, .rw, .retained, .const 4⟩
def DSC_SUSP_CFG_MIN_RUN_E : Field := ⟨rDSC_SUSP_CFG, 24, 6, .rw, .retained, .const 0xA⟩
def rDSC_TRAIN_CFG : Reg := ⟨0x0088000C, 0, 1, 0, 1, 0⟩
def DSC_TRAIN_CFG_PERIOD : Field := ⟨rDSC_TRAIN_CFG, 0, 12, .rw, .retained, .const 0x64⟩
def DSC_TRAIN_CFG_DTEMP : Field := ⟨rDSC_TRAIN_CFG, 12, 4, .rw, .retained, .const 0xA⟩
def DSC_TRAIN_CFG_SLACK : Field := ⟨rDSC_TRAIN_CFG, 16, 8, .rw, .retained, .const 0xA⟩
def DSC_TRAIN_CFG_MAX_DEFER : Field := ⟨rDSC_TRAIN_CFG, 24, 8, .rw, .retained, .const 0xA⟩
def rDSC_STATUS : Reg := ⟨0x00880010, 0, 1, 0, 1, 0⟩
def DSC_STATUS_DETOUR : Field := ⟨rDSC_STATUS, 0, 1, .ro, .cold, .const 0⟩
def DSC_STATUS_WR_BLOCKED : Field := ⟨rDSC_STATUS, 1, 1, .ro, .cold, .const 0⟩
def DSC_STATUS_REBUILD : Field := ⟨rDSC_STATUS, 2, 1, .ro, .cold, .const 0⟩
def DSC_STATUS_SLOT_CH : Field := ⟨rDSC_STATUS, 3, 7, .ro, .cold, .const 0x40⟩
def DSC_STATUS_SAT : Field := ⟨rDSC_STATUS, 10, 1, .rw1c, .cold, .const 0⟩
def DSC_STATUS_SPARE_PEND : Field := ⟨rDSC_STATUS, 11, 1, .ro, .cold, .const 0⟩
def rDSC_REBUILD : Reg := ⟨0x00880014, 0, 1, 0, 1, 0⟩
def DSC_REBUILD_CH : Field := ⟨rDSC_REBUILD, 0, 6, .ro, .cold, .const 0⟩
def DSC_REBUILD_DIE : Field := ⟨rDSC_REBUILD, 6, 5, .ro, .cold, .const 0⟩
def DSC_REBUILD_TARGET : Field := ⟨rDSC_REBUILD, 11, 5, .ro, .cold, .const 0⟩
def DSC_REBUILD_PCT : Field := ⟨rDSC_REBUILD, 16, 7, .ro, .cold, .const 0⟩
def rDSC_DEGRADED_CNT : Reg := ⟨0x00880020, 0, 1, 0, 1, 0⟩
def DSC_DEGRADED_CNT : Field := ⟨rDSC_DEGRADED_CNT, 0, 32, .cnt, .warm, .const 0⟩
def rDSC_BUSY_RA_CNT : Reg := ⟨0x00880024, 0, 1, 0, 1, 0⟩
def DSC_BUSY_RA_CNT : Field := ⟨rDSC_BUSY_RA_CNT, 0, 32, .cnt, .warm, .const 0⟩
def rDSC_SUSP_DENY_CNT : Reg := ⟨0x00880028, 0, 1, 0, 1, 0⟩
def DSC_SUSP_DENY_CNT : Field := ⟨rDSC_SUSP_DENY_CNT, 0, 32, .cnt, .warm, .const 0⟩
def rDSC_TOK_SEL : Reg := ⟨0x00880040, 0, 1, 0, 1, 0⟩
def DSC_TOK_SEL_CH : Field := ⟨rDSC_TOK_SEL, 0, 6, .rw, .warm, .const 0⟩
def DSC_TOK_SEL_DIE : Field := ⟨rDSC_TOK_SEL, 6, 5, .rw, .warm, .const 0⟩
def DSC_TOK_SEL_SLICE : Field := ⟨rDSC_TOK_SEL, 11, 9, .rw, .warm, .const 0⟩
def rDSC_TOK_DATA : Reg := ⟨0x00880044, 0, 1, 0, 1, 0⟩
def DSC_TOK_DATA : Field := ⟨rDSC_TOK_DATA, 0, 22, .ro, .warm, .const 0⟩

/-! ### SDF at 0x00900000 (chapter 07) -/
def rSDF_CTRL : Reg := ⟨0x00900000, 0, 64, 8192, 1, 0⟩
def SDF_CTRL_CLR_CNT : Field := ⟨rSDF_CTRL, 0, 1, .wo, .warm, .const 0⟩
def SDF_CTRL_CLASS_CLR : Field := ⟨rSDF_CTRL, 1, 1, .wo, .warm, .const 0⟩
def rSDF_STATUS : Reg := ⟨0x00900004, 0, 64, 8192, 1, 0⟩
def SDF_STATUS_DUAL : Field := ⟨rSDF_STATUS, 0, 1, .ro, .cold, .const 1⟩
def SDF_STATUS_SAT : Field := ⟨rSDF_STATUS, 1, 1, .rw1c, .cold, .const 0⟩
def rSDF_EVT : Reg := ⟨0x00900008, 0, 64, 8192, 1, 0⟩
def SDF_EVT_MARK_MISS : Field := ⟨rSDF_EVT, 0, 1, .rw1c, .cold, .const 0⟩
def SDF_EVT_FALLBACK : Field := ⟨rSDF_EVT, 1, 1, .rw1c, .cold, .const 0⟩
def SDF_EVT_BURST_LOST : Field := ⟨rSDF_EVT, 2, 1, .rw1c, .cold, .const 0⟩
def SDF_EVT_SAMPLE_OFF : Field := ⟨rSDF_EVT, 3, 1, .rw1c, .cold, .const 0⟩
def SDF_EVT_CLAMP : Field := ⟨rSDF_EVT, 4, 1, .rw1c, .cold, .const 0⟩
def SDF_EVT_SAT : Field := ⟨rSDF_EVT, 5, 1, .rw1c, .cold, .const 0⟩
def rSDF_FRAME_CFG : Reg := ⟨0x0090000C, 0, 64, 8192, 1, 0⟩
def SDF_FRAME_CFG_MARK_TOL : Field := ⟨rSDF_FRAME_CFG, 0, 3, .rw, .retained, .const 2⟩
def SDF_FRAME_CFG_FORCE_DUAL : Field := ⟨rSDF_FRAME_CFG, 3, 1, .rw, .retained, .const 0⟩
def rSDF_LOOP_CFG : Reg := ⟨0x00900010, 0, 64, 8192, 1, 0⟩
def SDF_LOOP_CFG_KEPS : Field := ⟨rSDF_LOOP_CFG, 0, 8, .rw, .retained, .const 0x14⟩
def SDF_LOOP_CFG_KO : Field := ⟨rSDF_LOOP_CFG, 8, 4, .rw, .retained, .const 2⟩
def SDF_LOOP_CFG_KG : Field := ⟨rSDF_LOOP_CFG, 12, 4, .rw, .retained, .const 3⟩
def SDF_LOOP_CFG_KA : Field := ⟨rSDF_LOOP_CFG, 16, 4, .rw, .retained, .const 4⟩
def SDF_LOOP_CFG_ACQ : Field := ⟨rSDF_LOOP_CFG, 20, 4, .rw, .retained, .const 4⟩
def SDF_LOOP_CFG_FREEZE_RUN : Field := ⟨rSDF_LOOP_CFG, 24, 8, .rw, .retained, .const 0x40⟩
def rSDF_DET_CFG : Reg := ⟨0x00900014, 0, 64, 8192, 1, 0⟩
def SDF_DET_CFG_ALPHA : Field := ⟨rSDF_DET_CFG, 0, 6, .rw, .retained, .const 0x10⟩
def SDF_DET_CFG_EQ_SHIFT : Field := ⟨rSDF_DET_CFG, 6, 4, .rw, .retained, .const 0xC⟩
def SDF_DET_CFG_LLR_SCALE : Field := ⟨rSDF_DET_CFG, 10, 4, .rw, .retained, .const 8⟩
def SDF_DET_CFG_BETA : Field := ⟨rSDF_DET_CFG, 14, 8, .rw, .retained, .const 0x10⟩
def SDF_DET_CFG_W : Field := ⟨rSDF_DET_CFG, 22, 4, .rw, .retained, .const 8⟩
def SDF_DET_CFG_RES_Q : Field := ⟨rSDF_DET_CFG, 26, 2, .rw, .retained, .const 1⟩
def SDF_DET_CFG_RES_T : Field := ⟨rSDF_DET_CFG, 28, 2, .rw, .retained, .const 1⟩
def SDF_DET_CFG_RES_S : Field := ⟨rSDF_DET_CFG, 30, 2, .rw, .retained, .const 0⟩
def rSDF_SAMPLE_OFF : Reg := ⟨0x0090001C, 0, 64, 8192, 1, 0⟩
def SDF_SAMPLE_OFF : Field := ⟨rSDF_SAMPLE_OFF, 0, 32, .ro, .cold, .const 0⟩
def rSDF_BURST_CNT : Reg := ⟨0x00900020, 0, 64, 8192, 1, 0⟩
def SDF_BURST_CNT : Field := ⟨rSDF_BURST_CNT, 0, 32, .cnt, .warm, .const 0⟩
def rSDF_FALSE_MARK : Reg := ⟨0x00900024, 0, 64, 8192, 1, 0⟩
def SDF_FALSE_MARK : Field := ⟨rSDF_FALSE_MARK, 0, 32, .cnt, .warm, .const 0⟩
def rSDF_MARK_MISS : Reg := ⟨0x00900028, 0, 64, 8192, 1, 0⟩
def SDF_MARK_MISS : Field := ⟨rSDF_MARK_MISS, 0, 32, .cnt, .warm, .const 0⟩
def rSDF_FALLBACK : Reg := ⟨0x0090002C, 0, 64, 8192, 1, 0⟩
def SDF_FALLBACK : Field := ⟨rSDF_FALLBACK, 0, 32, .cnt, .warm, .const 0⟩
def rSDF_BURST_LOST : Reg := ⟨0x00900030, 0, 64, 8192, 1, 0⟩
def SDF_BURST_LOST : Field := ⟨rSDF_BURST_LOST, 0, 32, .cnt, .warm, .const 0⟩
def rSDF_FROZEN : Reg := ⟨0x00900034, 0, 64, 8192, 1, 0⟩
def SDF_FROZEN : Field := ⟨rSDF_FROZEN, 0, 32, .cnt, .warm, .const 0⟩
def rSDF_CLAMP_CNT : Reg := ⟨0x00900038, 0, 64, 8192, 1, 0⟩
def SDF_CLAMP_CNT : Field := ⟨rSDF_CLAMP_CNT, 0, 32, .cnt, .warm, .const 0⟩
def rSDF_CLASS_SEL : Reg := ⟨0x00900080, 0, 64, 8192, 1, 0⟩
def SDF_CLASS_SEL_DIE : Field := ⟨rSDF_CLASS_SEL, 0, 5, .rw, .warm, .const 0⟩
def SDF_CLASS_SEL_MODE : Field := ⟨rSDF_CLASS_SEL, 5, 2, .rw, .warm, .const 0⟩
def SDF_CLASS_SEL_WLG : Field := ⟨rSDF_CLASS_SEL, 7, 4, .rw, .warm, .const 0⟩
def SDF_CLASS_SEL_AGE : Field := ⟨rSDF_CLASS_SEL, 11, 2, .rw, .warm, .const 0⟩
def rSDF_CLASS_D0 : Reg := ⟨0x00900084, 0, 64, 8192, 1, 0⟩
def SDF_CLASS_D0_O : Field := ⟨rSDF_CLASS_D0, 0, 16, .ro, .cold, .const 0⟩
def SDF_CLASS_D0_N : Field := ⟨rSDF_CLASS_D0, 16, 8, .ro, .cold, .const 0⟩
def rSDF_CLASS_D1 : Reg := ⟨0x00900088, 0, 64, 8192, 1, 0⟩
def SDF_CLASS_D1_G : Field := ⟨rSDF_CLASS_D1, 0, 8, .ro, .cold, .const 0⟩
def SDF_CLASS_D1_A : Field := ⟨rSDF_CLASS_D1, 8, 8, .ro, .cold, .const 0⟩
def SDF_CLASS_D1_G_REF : Field := ⟨rSDF_CLASS_D1, 16, 8, .ro, .cold, .const 0⟩
def rSDF_BADCOL_SEL : Reg := ⟨0x00900090, 0, 64, 8192, 1, 0⟩
def SDF_BADCOL_SEL_DIE : Field := ⟨rSDF_BADCOL_SEL, 0, 5, .rw, .warm, .const 0⟩
def SDF_BADCOL_SEL_PLANE : Field := ⟨rSDF_BADCOL_SEL, 5, 2, .rw, .warm, .const 0⟩
def SDF_BADCOL_SEL_INDEX : Field := ⟨rSDF_BADCOL_SEL, 7, 8, .rw, .warm, .const 0⟩
def rSDF_BADCOL_DATA : Reg := ⟨0x00900094, 0, 64, 8192, 1, 0⟩
def SDF_BADCOL_DATA_FIRST : Field := ⟨rSDF_BADCOL_DATA, 0, 18, .rwv, .warm, .const 0⟩
def SDF_BADCOL_DATA_LEN1 : Field := ⟨rSDF_BADCOL_DATA, 18, 6, .rwv, .warm, .const 0⟩
def SDF_BADCOL_DATA_V : Field := ⟨rSDF_BADCOL_DATA, 31, 1, .rwv, .warm, .const 0⟩

/-! ### LDC at 0x00980000 (chapter 07) -/
def rLDC_CTRL : Reg := ⟨0x00980000, 0, 1, 0, 1, 0⟩
def LDC_CTRL_CLR_CNT : Field := ⟨rLDC_CTRL, 0, 1, .wo, .warm, .const 0⟩
def LDC_CTRL_ST_NOW : Field := ⟨rLDC_CTRL, 1, 1, .wo, .warm, .const 0⟩
def rLDC_STATUS : Reg := ⟨0x00980004, 0, 1, 0, 1, 0⟩
def LDC_STATUS_ACTIVE : Field := ⟨rLDC_STATUS, 0, 7, .ro, .cold, .const 0x40⟩
def LDC_STATUS_SPARES : Field := ⟨rLDC_STATUS, 7, 3, .ro, .cold, .const 4⟩
def LDC_STATUS_ST_BUSY : Field := ⟨rLDC_STATUS, 10, 1, .ro, .warm, .const 0⟩
def LDC_STATUS_ST_PEND : Field := ⟨rLDC_STATUS, 11, 1, .ro, .warm, .const 0⟩
def LDC_STATUS_SAT : Field := ⟨rLDC_STATUS, 12, 1, .rw1c, .warm, .const 0⟩
def rLDC_CFG : Reg := ⟨0x00980008, 0, 1, 0, 1, 0⟩
def LDC_CFG_HARD_LLR : Field := ⟨rLDC_CFG, 0, 5, .rw, .retained, .const 0xC⟩
def LDC_CFG_HARD_ITER : Field := ⟨rLDC_CFG, 5, 5, .rw, .retained, .const 0xC⟩
def LDC_CFG_SOFT_ITER : Field := ⟨rLDC_CFG, 10, 6, .rw, .retained, .const 0x18⟩
def LDC_CFG_ST_PERIOD : Field := ⟨rLDC_CFG, 16, 12, .rw, .retained, .const 0x3C⟩
def rLDC_LADDER_CFG : Reg := ⟨0x0098000C, 0, 1, 0, 1, 0⟩
def LDC_LADDER_CFG_B0 : Field := ⟨rLDC_LADDER_CFG, 0, 8, .rw, .retained, .const 0xF⟩
def LDC_LADDER_CFG_B1 : Field := ⟨rLDC_LADDER_CFG, 8, 8, .rw, .retained, .const 0x1E⟩
def LDC_LADDER_CFG_B2 : Field := ⟨rLDC_LADDER_CFG, 16, 8, .rw, .retained, .const 0x3C⟩
def LDC_LADDER_CFG_SEQ_MIN : Field := ⟨rLDC_LADDER_CFG, 24, 5, .rw, .retained, .const 8⟩
def LDC_LADDER_CFG_SEQ_START : Field := ⟨rLDC_LADDER_CFG, 29, 1, .rw, .retained, .const 1⟩
def rLDC_LADDER_CFG2 : Reg := ⟨0x00980010, 0, 1, 0, 1, 0⟩
def LDC_LADDER_CFG2_B3 : Field := ⟨rLDC_LADDER_CFG2, 0, 8, .rw, .retained, .const 0xC⟩
def LDC_LADDER_CFG2_B4 : Field := ⟨rLDC_LADDER_CFG2, 8, 8, .rw, .retained, .const 0x28⟩
def rLDC_STEP_CNT : Reg := ⟨0x00980020, 0, 5, 4, 1, 0⟩
def LDC_STEP_CNT : Field := ⟨rLDC_STEP_CNT, 0, 32, .cnt, .warm, .const 0⟩
def rLDC_UNREC_CNT : Reg := ⟨0x00980034, 0, 1, 0, 1, 0⟩
def LDC_UNREC_CNT : Field := ⟨rLDC_UNREC_CNT, 0, 32, .cnt, .warm, .const 0⟩
def rLDC_BUDGET_EXP_CNT : Reg := ⟨0x00980038, 0, 1, 0, 1, 0⟩
def LDC_BUDGET_EXP_CNT : Field := ⟨rLDC_BUDGET_EXP_CNT, 0, 32, .cnt, .warm, .const 0⟩
def rLDC_REALLOC_CNT : Reg := ⟨0x0098003C, 0, 1, 0, 1, 0⟩
def LDC_REALLOC_CNT : Field := ⟨rLDC_REALLOC_CNT, 0, 32, .cnt, .warm, .const 0⟩
def rLDC_REALLOC_DROP : Reg := ⟨0x00980040, 0, 1, 0, 1, 0⟩
def LDC_REALLOC_DROP : Field := ⟨rLDC_REALLOC_DROP, 0, 32, .cnt, .warm, .const 0⟩
def rLDC_ST_RUNS : Reg := ⟨0x00980044, 0, 1, 0, 1, 0⟩
def LDC_ST_RUNS : Field := ⟨rLDC_ST_RUNS, 0, 32, .cnt, .warm, .const 0⟩
def rLDC_ST_FAIL : Reg := ⟨0x00980048, 0, 1, 0, 1, 0⟩
def LDC_ST_FAIL : Field := ⟨rLDC_ST_FAIL, 0, 32, .cnt, .warm, .const 0⟩
def rLDC_CHECK_FAIL : Reg := ⟨0x0098004C, 0, 1, 0, 1, 0⟩
def LDC_CHECK_FAIL : Field := ⟨rLDC_CHECK_FAIL, 0, 32, .cnt, .warm, .const 0⟩
def rLDC_REALLOC_LAST : Reg := ⟨0x00980050, 0, 1, 0, 1, 0⟩
def LDC_REALLOC_LAST_CH : Field := ⟨rLDC_REALLOC_LAST, 0, 6, .ro, .warm, .const 0⟩
def LDC_REALLOC_LAST_DIE : Field := ⟨rLDC_REALLOC_LAST, 6, 5, .ro, .warm, .const 0⟩
def LDC_REALLOC_LAST_BLOCK : Field := ⟨rLDC_REALLOC_LAST, 11, 11, .ro, .warm, .const 0⟩
def rLDC_INST : Reg := ⟨0x00980100, 0, 68, 4, 1, 0⟩
def LDC_INST_STATE : Field := ⟨rLDC_INST, 0, 2, .ro, .cold, .below 64 0 1⟩
def LDC_INST_CAUSE : Field := ⟨rLDC_INST, 2, 2, .ro, .cold, .const 0⟩

/-! ### XLT at 0x00480000 (chapter 08) -/
def rXLT_CTRL : Reg := ⟨0x00480000, 0, 1, 0, 1, 0⟩
def XLT_CTRL_CLR_CNT : Field := ⟨rXLT_CTRL, 0, 1, .wo, .warm, .const 0⟩
def XLT_CTRL_CKPT_NOW : Field := ⟨rXLT_CTRL, 1, 1, .wo, .warm, .const 0⟩
def XLT_CTRL_RELOC_OLDEST : Field := ⟨rXLT_CTRL, 8, 8, .wo, .warm, .const 0⟩
def rXLT_CFG : Reg := ⟨0x00480004, 0, 1, 0, 1, 0⟩
def XLT_CFG_MAP_GIB : Field := ⟨rXLT_CFG, 0, 4, .rw, .retained, .const 8⟩
def XLT_CFG_FREE_LOW : Field := ⟨rXLT_CFG, 4, 8, .rw, .retained, .const 0x18⟩
def XLT_CFG_FREE_HIGH : Field := ⟨rXLT_CFG, 12, 8, .rw, .retained, .const 0x28⟩
def rXLT_STATUS : Reg := ⟨0x00480008, 0, 1, 0, 1, 0⟩
def XLT_STATUS_RO_CONV : Field := ⟨rXLT_STATUS, 0, 1, .ro, .retained, .const 0⟩
def XLT_STATUS_CKPT_BUSY : Field := ⟨rXLT_STATUS, 1, 1, .ro, .warm, .const 0⟩
def XLT_STATUS_RESTART : Field := ⟨rXLT_STATUS, 2, 1, .ro, .cold, .const 0⟩
def XLT_STATUS_REBUILD : Field := ⟨rXLT_STATUS, 3, 1, .ro, .cold, .const 0⟩
def XLT_STATUS_STALL : Field := ⟨rXLT_STATUS, 4, 1, .ro, .warm, .const 0⟩
def XLT_STATUS_RELOC : Field := ⟨rXLT_STATUS, 5, 1, .ro, .warm, .const 0⟩
def XLT_STATUS_SAT : Field := ⟨rXLT_STATUS, 6, 1, .rw1c, .warm, .const 0⟩
def rXLT_EVT : Reg := ⟨0x0048000C, 0, 1, 0, 1, 0⟩
def XLT_EVT_CKPT_LATE : Field := ⟨rXLT_EVT, 0, 1, .rw1c, .cold, .const 0⟩
def XLT_EVT_LOST : Field := ⟨rXLT_EVT, 1, 1, .rw1c, .cold, .const 0⟩
def XLT_EVT_MAP_REBUILD : Field := ⟨rXLT_EVT, 2, 1, .rw1c, .cold, .const 0⟩
def XLT_EVT_ZONE_RO : Field := ⟨rXLT_EVT, 3, 1, .rw1c, .cold, .const 0⟩
def XLT_EVT_CONV_RO : Field := ⟨rXLT_EVT, 4, 1, .rw1c, .cold, .const 0⟩
def XLT_EVT_PINNED : Field := ⟨rXLT_EVT, 5, 1, .rw1c, .cold, .const 0⟩
def XLT_EVT_WEAR : Field := ⟨rXLT_EVT, 6, 1, .rw1c, .cold, .const 0⟩
def XLT_EVT_SAT : Field := ⟨rXLT_EVT, 7, 1, .rw1c, .cold, .const 0⟩
def rXLT_WARN : Reg := ⟨0x00480010, 0, 1, 0, 1, 0⟩
def XLT_WARN_CBITS : Field := ⟨rXLT_WARN, 0, 12, .rw, .retained, .const 0x0C8⟩
def XLT_WARN_DRIFT : Field := ⟨rXLT_WARN, 16, 8, .rw, .retained, .const 0x30⟩
def rXLT_CKPT_NUM_LO : Reg := ⟨0x00480018, 0, 1, 0, 1, 0⟩
def XLT_CKPT_NUM_LO : Field := ⟨rXLT_CKPT_NUM_LO, 0, 32, .ro, .warm, .const 0⟩
def rXLT_CKPT_NUM_HI : Reg := ⟨0x0048001C, 0, 1, 0, 1, 0⟩
def XLT_CKPT_NUM_HI : Field := ⟨rXLT_CKPT_NUM_HI, 0, 32, .ro, .warm, .const 0⟩
def rXLT_SINCE_CKPT : Reg := ⟨0x00480020, 0, 1, 0, 1, 0⟩
def XLT_SINCE_CKPT : Field := ⟨rXLT_SINCE_CKPT, 0, 12, .ro, .warm, .const 0⟩
def rXLT_SETS_FREE : Reg := ⟨0x00480024, 0, 1, 0, 1, 0⟩
def XLT_SETS_FREE : Field := ⟨rXLT_SETS_FREE, 0, 12, .ro, .warm, .const 0⟩
def rXLT_POOL : Reg := ⟨0x00480028, 0, 1, 0, 1, 0⟩
def XLT_POOL : Field := ⟨rXLT_POOL, 0, 20, .ro, .warm, .const 0⟩
def rXLT_HEADROOM : Reg := ⟨0x0048002C, 0, 1, 0, 1, 0⟩
def XLT_HEADROOM : Field := ⟨rXLT_HEADROOM, 0, 20, .ro, .warm, .const 0⟩
def rXLT_RESTART_MS : Reg := ⟨0x00480030, 0, 1, 0, 1, 0⟩
def XLT_RESTART_MS : Field := ⟨rXLT_RESTART_MS, 0, 13, .ro, .cold, .const 0⟩
def rXLT_RELOC_LBA_CNT : Reg := ⟨0x00480040, 0, 1, 0, 1, 0⟩
def XLT_RELOC_LBA_CNT : Field := ⟨rXLT_RELOC_LBA_CNT, 0, 32, .cnt, .warm, .const 0⟩
def rXLT_CKPT_CNT : Reg := ⟨0x00480044, 0, 1, 0, 1, 0⟩
def XLT_CKPT_CNT : Field := ⟨rXLT_CKPT_CNT, 0, 32, .cnt, .warm, .const 0⟩
def rXLT_RETIRE_CNT : Reg := ⟨0x00480048, 0, 1, 0, 1, 0⟩
def XLT_RETIRE_CNT : Field := ⟨rXLT_RETIRE_CNT, 0, 32, .cnt, .warm, .const 0⟩
def rXLT_MOVE_CNT : Reg := ⟨0x0048004C, 0, 1, 0, 1, 0⟩
def XLT_MOVE_CNT : Field := ⟨rXLT_MOVE_CNT, 0, 32, .cnt, .warm, .const 0⟩
def rXLT_LOST_LBA_CNT : Reg := ⟨0x00480050, 0, 1, 0, 1, 0⟩
def XLT_LOST_LBA_CNT : Field := ⟨rXLT_LOST_LBA_CNT, 0, 32, .cnt, .warm, .const 0⟩
def rXLT_SPARE : Reg := ⟨0x00480100, 0, 64, 4, 1, 0⟩
def XLT_SPARE_LEFT : Field := ⟨rXLT_SPARE, 0, 11, .ro, .retained, .const 0⟩
def XLT_SPARE_FIRST : Field := ⟨rXLT_SPARE, 11, 11, .ro, .retained, .const 0⟩

/-! ### HUC at 0x01000000 (chapter 09) -/
def rHUC_CTRL : Reg := ⟨0x01000000, 0, 1, 0, 1, 0⟩
def HUC_CTRL_CLR_CNT : Field := ⟨rHUC_CTRL, 0, 1, .wo, .warm, .const 0⟩
def HUC_CTRL_LEARN_NOW : Field := ⟨rHUC_CTRL, 1, 1, .wo, .warm, .const 0⟩
def HUC_CTRL_Z_NOW : Field := ⟨rHUC_CTRL, 2, 1, .wo, .warm, .const 0⟩
def HUC_CTRL_REST_NOW : Field := ⟨rHUC_CTRL, 3, 1, .wo, .warm, .const 0⟩
def HUC_CTRL_CHG_DIS : Field := ⟨rHUC_CTRL, 4, 1, .rw, .retained, .const 0⟩
def rHUC_STATUS : Reg := ⟨0x01000004, 0, 1, 0, 1, 0⟩
def HUC_STATUS_GSTATE : Field := ⟨rHUC_STATUS, 0, 4, .ro, .cold, .const 0⟩
def HUC_STATUS_READY : Field := ⟨rHUC_STATUS, 4, 1, .ro, .cold, .const 0⟩
def HUC_STATUS_PRESENT : Field := ⟨rHUC_STATUS, 5, 1, .ro, .cold, .const 0⟩
def HUC_STATUS_CHARGE : Field := ⟨rHUC_STATUS, 6, 2, .ro, .cold, .const 0⟩
def HUC_STATUS_CHG_BLOCK : Field := ⟨rHUC_STATUS, 8, 1, .ro, .cold, .const 0⟩
def HUC_STATUS_DISAGREE : Field := ⟨rHUC_STATUS, 9, 1, .ro, .cold, .const 0⟩
def HUC_STATUS_NO_REST : Field := ⟨rHUC_STATUS, 10, 1, .ro, .cold, .const 0⟩
def HUC_STATUS_INPUT_VALID : Field := ⟨rHUC_STATUS, 11, 1, .ro, .cold, .const 0⟩
def HUC_STATUS_DUMP_PEND : Field := ⟨rHUC_STATUS, 12, 1, .ro, .cold, .const 0⟩
def HUC_STATUS_ARMED : Field := ⟨rHUC_STATUS, 13, 2, .ro, .cold, .const 0⟩
def HUC_STATUS_SAT : Field := ⟨rHUC_STATUS, 15, 1, .rw1c, .cold, .const 0⟩
def rHUC_SUPPLY_CFG : Reg := ⟨0x01000008, 0, 1, 0, 1, 0⟩
def HUC_SUPPLY_CFG_VALID_DV : Field := ⟨rHUC_SUPPLY_CFG, 0, 8, .rw, .retained, .const 0x6E⟩
def HUC_SUPPLY_CFG_VALID_MS : Field := ⟨rHUC_SUPPLY_CFG, 8, 8, .rw, .retained, .const 0x32⟩
def HUC_SUPPLY_CFG_RET_WAIT_S : Field := ⟨rHUC_SUPPLY_CFG, 16, 8, .rw, .retained, .const 0x1E⟩
def rHUC_CHG_CFG : Reg := ⟨0x0100000C, 0, 1, 0, 1, 0⟩
def HUC_CHG_CFG_I_MA : Field := ⟨rHUC_CHG_CFG, 0, 12, .rw, .retained, .const 0x3E8⟩
def HUC_CHG_CFG_LEARN_DAYS : Field := ⟨rHUC_CHG_CFG, 16, 8, .rw, .retained, .const 0x1E⟩
def HUC_CHG_CFG_LEARN_W : Field := ⟨rHUC_CHG_CFG, 24, 4, .rw, .retained, .const 4⟩
def rHUC_GAUGE_CFG : Reg := ⟨0x01000010, 0, 1, 0, 1, 0⟩
def HUC_GAUGE_CFG_U0_PCT : Field := ⟨rHUC_GAUGE_CFG, 0, 4, .rw, .retained, .const 2⟩
def HUC_GAUGE_CFG_U_STEP : Field := ⟨rHUC_GAUGE_CFG, 4, 8, .rw, .retained, .const 8⟩
def HUC_GAUGE_CFG_U_RATE : Field := ⟨rHUC_GAUGE_CFG, 12, 8, .rw, .retained, .const 0x10⟩
def HUC_GAUGE_CFG_REST_MAX_H : Field := ⟨rHUC_GAUGE_CFG, 20, 8, .rw, .retained, .const 0x48⟩
def rHUC_DUMP : Reg := ⟨0x01000014, 0, 1, 0, 1, 0⟩
def HUC_DUMP_N_H : Field := ⟨rHUC_DUMP, 0, 10, .ro, .cold, .const 0⟩
def HUC_DUMP_RECORD_SLOT : Field := ⟨rHUC_DUMP, 10, 1, .ro, .cold, .const 0⟩
def HUC_DUMP_LAST_FLAGS : Field := ⟨rHUC_DUMP, 11, 4, .ro, .cold, .const 0⟩
def HUC_DUMP_LAST_MS : Field := ⟨rHUC_DUMP, 16, 16, .ro, .cold, .const 0⟩
def rHUC_ENERGY : Reg := ⟨0x01000020, 0, 1, 0, 1, 0⟩
def HUC_ENERGY_E_U : Field := ⟨rHUC_ENERGY, 0, 16, .ro, .cold, .const 0⟩
def HUC_ENERGY_E_PESS : Field := ⟨rHUC_ENERGY, 16, 16, .ro, .cold, .const 0⟩
def rHUC_EST : Reg := ⟨0x01000024, 0, 1, 0, 1, 0⟩
def HUC_EST_E_CTR : Field := ⟨rHUC_EST, 0, 16, .ro, .cold, .const 0⟩
def HUC_EST_E_V : Field := ⟨rHUC_EST, 16, 16, .ro, .cold, .const 0⟩
def rHUC_CAP : Reg := ⟨0x01000028, 0, 1, 0, 1, 0⟩
def HUC_CAP_C : Field := ⟨rHUC_CAP, 0, 16, .ro, .cold, .const 0⟩
def HUC_CAP_E_RES : Field := ⟨rHUC_CAP, 16, 16, .ro, .cold, .const 0⟩
def rHUC_UNC : Reg := ⟨0x0100002C, 0, 1, 0, 1, 0⟩
def HUC_UNC_U : Field := ⟨rHUC_UNC, 0, 16, .ro, .cold, .const 0⟩
def HUC_UNC_HOURS : Field := ⟨rHUC_UNC, 16, 16, .ro, .cold, .const 0⟩
def rHUC_PACK_V : Reg := ⟨0x01000030, 0, 1, 0, 1, 0⟩
def HUC_PACK_V_MV : Field := ⟨rHUC_PACK_V, 0, 16, .ro, .warm, .const 0⟩
def HUC_PACK_V_TEMP : Field := ⟨rHUC_PACK_V, 16, 8, .ro, .warm, .const 0⟩
def rHUC_PACK_I : Reg := ⟨0x01000034, 0, 1, 0, 1, 0⟩
def HUC_PACK_I_MA : Field := ⟨rHUC_PACK_I, 0, 24, .ro, .warm, .const 0⟩
def rHUC_PACK_Z : Reg := ⟨0x01000038, 0, 1, 0, 1, 0⟩
def HUC_PACK_Z : Field := ⟨rHUC_PACK_Z, 0, 16, .ro, .warm, .const 0⟩
def rHUC_RET_PROG : Reg := ⟨0x0100003C, 0, 1, 0, 1, 0⟩
def HUC_RET_PROG : Field := ⟨rHUC_RET_PROG, 0, 24, .ro, .cold, .const 0⟩
def rHUC_DETOUR_CNT : Reg := ⟨0x01000080, 0, 1, 0, 1, 0⟩
def HUC_DETOUR_CNT : Field := ⟨rHUC_DETOUR_CNT, 0, 32, .cnt, .retained, .const 0⟩
def rHUC_SUPERSEDE_CNT : Reg := ⟨0x01000084, 0, 1, 0, 1, 0⟩
def HUC_SUPERSEDE_CNT : Field := ⟨rHUC_SUPERSEDE_CNT, 0, 32, .cnt, .retained, .const 0⟩
def rHUC_ABANDON_CNT : Reg := ⟨0x01000088, 0, 1, 0, 1, 0⟩
def HUC_ABANDON_CNT : Field := ⟨rHUC_ABANDON_CNT, 0, 32, .cnt, .retained, .const 0⟩
def rHUC_RETURN_CNT : Reg := ⟨0x0100008C, 0, 1, 0, 1, 0⟩
def HUC_RETURN_CNT : Field := ⟨rHUC_RETURN_CNT, 0, 32, .cnt, .retained, .const 0⟩
def rHUC_UNIT_LOST_CNT : Reg := ⟨0x01000090, 0, 1, 0, 1, 0⟩
def HUC_UNIT_LOST_CNT : Field := ⟨rHUC_UNIT_LOST_CNT, 0, 32, .cnt, .retained, .const 0⟩
def rHUC_DISAGREE_CNT : Reg := ⟨0x01000094, 0, 1, 0, 1, 0⟩
def HUC_DISAGREE_CNT : Field := ⟨rHUC_DISAGREE_CNT, 0, 32, .cnt, .retained, .const 0⟩
def rHUC_FORCED_REST_CNT : Reg := ⟨0x01000098, 0, 1, 0, 1, 0⟩
def HUC_FORCED_REST_CNT : Field := ⟨rHUC_FORCED_REST_CNT, 0, 32, .cnt, .retained, .const 0⟩
def rHUC_LEARN_OK_CNT : Reg := ⟨0x0100009C, 0, 1, 0, 1, 0⟩
def HUC_LEARN_OK_CNT : Field := ⟨rHUC_LEARN_OK_CNT, 0, 32, .cnt, .retained, .const 0⟩
def rHUC_LEARN_DQ_CNT : Reg := ⟨0x010000A0, 0, 1, 0, 1, 0⟩
def HUC_LEARN_DQ_CNT : Field := ⟨rHUC_LEARN_DQ_CNT, 0, 32, .cnt, .retained, .const 0⟩
def rHUC_DDIE : Reg := ⟨0x01000100, 0, 64, 4, 1, 0⟩
def HUC_DDIE : Field := ⟨rHUC_DDIE, 0, 8, .ro, .cold, .const 0⟩

/-! ### PSQ at 0x00F00000 (chapter 10) -/
def rPSQ_CTRL : Reg := ⟨0x00F00000, 0, 1, 0, 1, 0⟩
def PSQ_CTRL_CLR_CNT : Field := ⟨rPSQ_CTRL, 0, 1, .wo, .warm, .const 0⟩
def PSQ_CTRL_OFF : Field := ⟨rPSQ_CTRL, 1, 1, .wo, .warm, .const 0⟩
def PSQ_CTRL_RSTO_PULSE : Field := ⟨rPSQ_CTRL, 2, 2, .wo, .warm, .const 0⟩
def rPSQ_STATUS : Reg := ⟨0x00F00004, 0, 1, 0, 1, 0⟩
def PSQ_STATUS_STEP : Field := ⟨rPSQ_STATUS, 0, 4, .ro, .cold, .const 0⟩
def PSQ_STATUS_OFF_PEND : Field := ⟨rPSQ_STATUS, 4, 1, .ro, .cold, .const 0⟩
def PSQ_STATUS_HUB_ARMED : Field := ⟨rPSQ_STATUS, 5, 1, .ro, .cold, .const 0⟩
def PSQ_STATUS_RETRIES : Field := ⟨rPSQ_STATUS, 6, 3, .ro, .cold, .const 0⟩
def PSQ_STATUS_SAT : Field := ⟨rPSQ_STATUS, 9, 1, .rw1c, .warm, .const 0⟩
def rPSQ_SEQ_CFG : Reg := ⟨0x00F00008, 0, 1, 0, 1, 0⟩
def PSQ_SEQ_CFG_PG_MS : Field := ⟨rPSQ_SEQ_CFG, 0, 8, .rw, .retained, .const 0xA⟩
def PSQ_SEQ_CFG_SETTLE : Field := ⟨rPSQ_SEQ_CFG, 8, 4, .rw, .retained, .const 5⟩
def PSQ_SEQ_CFG_DISCH_MS : Field := ⟨rPSQ_SEQ_CFG, 12, 4, .rw, .retained, .const 5⟩
def PSQ_SEQ_CFG_RETRY : Field := ⟨rPSQ_SEQ_CFG, 16, 3, .rw, .retained, .const 2⟩
def rPSQ_RSTO_CFG : Reg := ⟨0x00F0000C, 0, 1, 0, 1, 0⟩
def PSQ_RSTO_CFG_STRETCH0 : Field := ⟨rPSQ_RSTO_CFG, 0, 8, .rw, .retained, .const 0x14⟩
def PSQ_RSTO_CFG_STRETCH1 : Field := ⟨rPSQ_RSTO_CFG, 8, 8, .rw, .retained, .const 0x64⟩
def rPSQ_LAST_OFF : Reg := ⟨0x00F00010, 0, 1, 0, 1, 0⟩
def PSQ_LAST_OFF_CAUSE : Field := ⟨rPSQ_LAST_OFF, 0, 4, .ro, .cold, .const 0⟩
def PSQ_LAST_OFF_RAIL : Field := ⟨rPSQ_LAST_OFF, 4, 4, .ro, .cold, .const 0⟩
def PSQ_LAST_OFF_DIR : Field := ⟨rPSQ_LAST_OFF, 8, 2, .ro, .cold, .const 0⟩
def PSQ_LAST_OFF_STEP : Field := ⟨rPSQ_LAST_OFF, 10, 4, .ro, .cold, .const 0⟩
def rPSQ_RAIL_STAT : Reg := ⟨0x00F00014, 0, 1, 0, 1, 0⟩
def PSQ_RAIL_STAT_ARMED : Field := ⟨rPSQ_RAIL_STAT, 0, 12, .ro, .warm, .const 0⟩
def PSQ_RAIL_STAT_INWIN : Field := ⟨rPSQ_RAIL_STAT, 16, 12, .ro, .warm, .const 0⟩
def rPSQ_FAULT_CNT : Reg := ⟨0x00F00020, 0, 1, 0, 1, 0⟩
def PSQ_FAULT_CNT : Field := ⟨rPSQ_FAULT_CNT, 0, 32, .cnt, .retained, .const 0⟩
def rPSQ_SEQFAIL_CNT : Reg := ⟨0x00F00024, 0, 1, 0, 1, 0⟩
def PSQ_SEQFAIL_CNT : Field := ⟨rPSQ_SEQFAIL_CNT, 0, 32, .cnt, .retained, .const 0⟩
def rPSQ_WIN : Reg := ⟨0x00F00100, 0, 12, 4, 1, 0⟩
def PSQ_WIN_UV : Field := ⟨rPSQ_WIN, 0, 8, .rwx, .retained, .byIndex [0x28, 0x28, 0x28, 0x20, 0x20, 0x18, 0x20, 0x20, 0x30, 0x28, 0x3C, 0x3C]⟩
def PSQ_WIN_OV : Field := ⟨rPSQ_WIN, 8, 8, .rwx, .retained, .byIndex [0x28, 0x28, 0x28, 0x20, 0x20, 0x18, 0x20, 0x20, 0x20, 0x28, 0x28, 0x28]⟩
def PSQ_WIN_FILT : Field := ⟨rPSQ_WIN, 16, 4, .rwx, .retained, .byIndex [5, 2, 2, 5, 5, 5, 5, 5, 10, 5, 2, 10]⟩
def rPSQ_VMON : Reg := ⟨0x00F00140, 0, 12, 4, 1, 0⟩
def PSQ_VMON : Field := ⟨rPSQ_VMON, 0, 16, .ro, .warm, .const 0⟩
def rPSQ_OOW_CNT : Reg := ⟨0x00F00180, 0, 12, 4, 1, 0⟩
def PSQ_OOW_CNT : Field := ⟨rPSQ_OOW_CNT, 0, 32, .cnt, .warm, .const 0⟩

/-! ### DRG at 0x00F80000 (chapter 10) -/
def rDRG_CFG : Reg := ⟨0x00F80000, 0, 1, 0, 1, 0⟩
def DRG_CFG_EN : Field := ⟨rDRG_CFG, 0, 1, .rw, .retained, .const 1⟩
def DRG_CFG_THRESH : Field := ⟨rDRG_CFG, 1, 8, .rw, .retained, .const 0x10⟩
def DRG_CFG_LONG_US : Field := ⟨rDRG_CFG, 16, 8, .rw, .retained, .const 0x64⟩
def rDRG_STATUS : Reg := ⟨0x00F80004, 0, 1, 0, 1, 0⟩
def DRG_STATUS_ACTIVE : Field := ⟨rDRG_STATUS, 0, 1, .ro, .warm, .const 0⟩
def DRG_STATUS_SENSOR : Field := ⟨rDRG_STATUS, 1, 5, .ro, .warm, .const 0⟩
def DRG_STATUS_SAT : Field := ⟨rDRG_STATUS, 6, 1, .rw1c, .warm, .const 0⟩
def rDRG_CTRL : Reg := ⟨0x00F80008, 0, 1, 0, 1, 0⟩
def DRG_CTRL_CLR_CNT : Field := ⟨rDRG_CTRL, 0, 1, .wo, .warm, .const 0⟩
def rDRG_ENGAGE_CNT : Reg := ⟨0x00F80010, 0, 1, 0, 1, 0⟩
def DRG_ENGAGE_CNT : Field := ⟨rDRG_ENGAGE_CNT, 0, 32, .cnt, .warm, .const 0⟩
def rDRG_SKIP_US : Reg := ⟨0x00F80014, 0, 1, 0, 1, 0⟩
def DRG_SKIP_US : Field := ⟨rDRG_SKIP_US, 0, 32, .cnt, .warm, .const 0⟩
def rDRG_LONG_CNT : Reg := ⟨0x00F80018, 0, 1, 0, 1, 0⟩
def DRG_LONG_CNT : Field := ⟨rDRG_LONG_CNT, 0, 32, .cnt, .warm, .const 0⟩
def rDRG_MIN_MV : Reg := ⟨0x00F8001C, 0, 1, 0, 1, 0⟩
def DRG_MIN_MV : Field := ⟨rDRG_MIN_MV, 0, 16, .ro, .warm, .const 0⟩
def rDRG_SENSE : Reg := ⟨0x00F80100, 0, 24, 4, 1, 0⟩
def DRG_SENSE : Field := ⟨rDRG_SENSE, 0, 16, .ro, .warm, .const 0⟩

/-! ### PSC at 0x01200000 (chapter 11) -/
def rPSC_CTRL : Reg := ⟨0x01200000, 0, 1, 0, 1, 0⟩
def PSC_CTRL_HOLD_REQ : Field := ⟨rPSC_CTRL, 0, 1, .rw, .retained, .const 0⟩
def PSC_CTRL_REST_EN : Field := ⟨rPSC_CTRL, 1, 1, .rw, .retained, .const 1⟩
def PSC_CTRL_WATCH_EN : Field := ⟨rPSC_CTRL, 2, 1, .rw, .retained, .const 1⟩
def PSC_CTRL_THERM_ACK : Field := ⟨rPSC_CTRL, 3, 1, .wo, .warm, .const 0⟩
def PSC_CTRL_CLR_CNT : Field := ⟨rPSC_CTRL, 4, 1, .wo, .warm, .const 0⟩
def PSC_CTRL_MODE_TARGET : Field := ⟨rPSC_CTRL, 8, 4, .wo, .warm, .const 0⟩
def rPSC_STATUS : Reg := ⟨0x01200004, 0, 1, 0, 1, 0⟩
def PSC_STATUS_TRANS : Field := ⟨rPSC_STATUS, 0, 1, .ro, .cold, .const 0⟩
def PSC_STATUS_HOLD_NOCFG : Field := ⟨rPSC_STATUS, 1, 1, .ro, .cold, .const 0⟩
def PSC_STATUS_HOLD_THERM : Field := ⟨rPSC_STATUS, 2, 1, .ro, .cold, .const 0⟩
def PSC_STATUS_HOLD_HOST : Field := ⟨rPSC_STATUS, 3, 1, .ro, .cold, .const 0⟩
def PSC_STATUS_PS : Field := ⟨rPSC_STATUS, 4, 2, .ro, .warm, .const 0⟩
def PSC_STATUS_SKIP : Field := ⟨rPSC_STATUS, 6, 4, .ro, .warm, .const 0⟩
def PSC_STATUS_SAT : Field := ⟨rPSC_STATUS, 10, 1, .rw1c, .warm, .const 0⟩
def rPSC_REST_CFG : Reg := ⟨0x01200008, 0, 1, 0, 1, 0⟩
def PSC_REST_CFG_IDLE_MS : Field := ⟨rPSC_REST_CFG, 0, 8, .rw, .retained, .const 5⟩
def PSC_REST_CFG_CW_DROP : Field := ⟨rPSC_REST_CFG, 8, 4, .rw, .retained, .const 0⟩
def PSC_REST_CFG_REL_MS : Field := ⟨rPSC_REST_CFG, 12, 8, .rw, .retained, .const 0xA⟩
def rPSC_WATCH_CFG : Reg := ⟨0x0120000C, 0, 1, 0, 1, 0⟩
def PSC_WATCH_CFG_PERIOD : Field := ⟨rPSC_WATCH_CFG, 0, 10, .rw, .retained, .const 0xA⟩
def PSC_WATCH_CFG_VLOW : Field := ⟨rPSC_WATCH_CFG, 10, 10, .rw, .retained, .const 0x190⟩
def PSC_WATCH_CFG_THI : Field := ⟨rPSC_WATCH_CFG, 20, 8, .rw, .retained, .const 0x32⟩
def rPSC_WAKE_CAUSE : Reg := ⟨0x01200010, 0, 1, 0, 1, 0⟩
def PSC_WAKE_CAUSE_CAUSE : Field := ⟨rPSC_WAKE_CAUSE, 0, 10, .rw1c, .cold, .const 0⟩
def rPSC_PAD : Reg := ⟨0x01200014, 0, 1, 0, 1, 0⟩
def PSC_PAD_HELD : Field := ⟨rPSC_PAD, 0, 3, .ro, .cold, .const 0⟩
def PSC_PAD_REL : Field := ⟨rPSC_PAD, 4, 3, .wo, .warm, .const 0⟩
def rPSC_EVT : Reg := ⟨0x01200018, 0, 1, 0, 1, 0⟩
def PSC_EVT_REQ_REJ : Field := ⟨rPSC_EVT, 0, 1, .rw1c, .cold, .const 0⟩
def PSC_EVT_WAKE_LATE : Field := ⟨rPSC_EVT, 1, 1, .rw1c, .cold, .const 0⟩
def PSC_EVT_HOLD_ENTER : Field := ⟨rPSC_EVT, 2, 1, .rw1c, .cold, .const 0⟩
def PSC_EVT_WATCH_FLAG : Field := ⟨rPSC_EVT, 3, 1, .rw1c, .cold, .const 0⟩
def PSC_EVT_CAP_SKIP : Field := ⟨rPSC_EVT, 4, 1, .rw1c, .cold, .const 0⟩
def PSC_EVT_SAT : Field := ⟨rPSC_EVT, 5, 1, .rw1c, .cold, .const 0⟩
def rPSC_PWR_NOW : Reg := ⟨0x0120001C, 0, 1, 0, 1, 0⟩
def PSC_PWR_NOW : Field := ⟨rPSC_PWR_NOW, 0, 16, .ro, .warm, .const 0⟩
def rPSC_REST_CNT : Reg := ⟨0x01200020, 0, 1, 0, 1, 0⟩
def PSC_REST_CNT : Field := ⟨rPSC_REST_CNT, 0, 32, .cnt, .warm, .const 0⟩
def rPSC_WAKE_CNT : Reg := ⟨0x01200024, 0, 1, 0, 1, 0⟩
def PSC_WAKE_CNT : Field := ⟨rPSC_WAKE_CNT, 0, 32, .cnt, .warm, .const 0⟩
def rPSC_REST_MS : Reg := ⟨0x01200028, 0, 1, 0, 1, 0⟩
def PSC_REST_MS : Field := ⟨rPSC_REST_MS, 0, 32, .cnt, .warm, .const 0⟩
def rPSC_WATCH_ROUNDS : Reg := ⟨0x0120002C, 0, 1, 0, 1, 0⟩
def PSC_WATCH_ROUNDS : Field := ⟨rPSC_WATCH_ROUNDS, 0, 32, .cnt, .warm, .const 0⟩
def rPSC_CAP_SKIP_US : Reg := ⟨0x01200030, 0, 1, 0, 1, 0⟩
def PSC_CAP_SKIP_US : Field := ⟨rPSC_CAP_SKIP_US, 0, 32, .cnt, .warm, .const 0⟩
def rPSC_WATCH_REC_0 : Reg := ⟨0x01200040, 0, 1, 0, 1, 0⟩
def PSC_WATCH_REC_0_TMIN : Field := ⟨rPSC_WATCH_REC_0, 0, 8, .ro, .cold, .const 0⟩
def PSC_WATCH_REC_0_TMAX : Field := ⟨rPSC_WATCH_REC_0, 8, 8, .ro, .cold, .const 0⟩
def PSC_WATCH_REC_0_LASTV : Field := ⟨rPSC_WATCH_REC_0, 16, 10, .ro, .cold, .const 0⟩
def rPSC_WATCH_REC_1 : Reg := ⟨0x01200044, 0, 1, 0, 1, 0⟩
def PSC_WATCH_REC_1_HOT_ROUNDS : Field := ⟨rPSC_WATCH_REC_1, 0, 32, .ro, .cold, .const 0⟩

/-! ### CRU at 0x01280000 (chapter 11) -/
def rCRU_PLL_STAT : Reg := ⟨0x01280000, 0, 1, 0, 1, 0⟩
def CRU_PLL_STAT : Field := ⟨rCRU_PLL_STAT, 0, 32, .ro, .warm, .const 0⟩
def rCRU_CLK_STAT : Reg := ⟨0x01280004, 0, 1, 0, 1, 0⟩
def CRU_CLK_STAT : Field := ⟨rCRU_CLK_STAT, 0, 32, .ro, .warm, .const 0⟩
def rCRU_RST_STAT : Reg := ⟨0x01280008, 0, 1, 0, 1, 0⟩
def CRU_RST_STAT : Field := ⟨rCRU_RST_STAT, 0, 32, .ro, .warm, .const 0⟩
def rCRU_WAKE_US : Reg := ⟨0x01280100, 1, 8, 4, 1, 0⟩
def CRU_WAKE_US : Field := ⟨rCRU_WAKE_US, 0, 16, .ro, .cold, .const 0⟩

/-! ### DMC at 0x00A00000 (chapter 12) -/
def rDMC_CTRL : Reg := ⟨0x00A00000, 0, 1, 0, 1, 0⟩
def DMC_CTRL_CLR_CNT : Field := ⟨rDMC_CTRL, 0, 1, .wo, .warm, .const 0⟩
def DMC_CTRL_RATE_MAX : Field := ⟨rDMC_CTRL, 4, 3, .rw, .retained, .const 5⟩
def DMC_CTRL_ECC_T : Field := ⟨rDMC_CTRL, 8, 4, .rw, .retained, .const 4⟩
def DMC_CTRL_REPLAY_WIN : Field := ⟨rDMC_CTRL, 12, 8, .rw, .retained, .const 0x80⟩
def DMC_CTRL_UE_LOSS : Field := ⟨rDMC_CTRL, 20, 8, .rw, .retained, .const 0x10⟩
def rDMC_STATUS : Reg := ⟨0x00A00004, 0, 1, 0, 1, 0⟩
def DMC_STATUS_SCRUB_BUSY : Field := ⟨rDMC_STATUS, 0, 4, .ro, .cold, .const 0⟩
def DMC_STATUS_SCRUB_DONE : Field := ⟨rDMC_STATUS, 4, 4, .rw1c, .cold, .const 0⟩
def DMC_STATUS_SAT : Field := ⟨rDMC_STATUS, 8, 1, .rw1c, .cold, .const 0⟩
def rDMC_SCHED_CFG : Reg := ⟨0x00A00008, 0, 1, 0, 1, 0⟩
def DMC_SCHED_CFG_WR_HIGH : Field := ⟨rDMC_SCHED_CFG, 0, 8, .rw, .retained, .const 0xC0⟩
def DMC_SCHED_CFG_WR_LOW : Field := ⟨rDMC_SCHED_CFG, 8, 8, .rw, .retained, .const 0x40⟩
def DMC_SCHED_CFG_WR_AGE : Field := ⟨rDMC_SCHED_CFG, 16, 8, .rw, .retained, .const 0x14⟩
def rDMC_RH_CFG : Reg := ⟨0x00A0000C, 0, 1, 0, 1, 0⟩
def DMC_RH_CFG_TH : Field := ⟨rDMC_RH_CFG, 0, 16, .rw, .retained, .const 0x400⟩
def rDMC_SCRUB_CFG : Reg := ⟨0x00A00010, 0, 1, 0, 1, 0⟩
def DMC_SCRUB_CFG_CAP : Field := ⟨rDMC_SCRUB_CFG, 0, 4, .rw, .retained, .const 1⟩
def DMC_SCRUB_CFG_PATROL_H : Field := ⟨rDMC_SCRUB_CFG, 4, 8, .rw, .retained, .const 0x18⟩
def rDMC_SCRUB_CMD : Reg := ⟨0x00A00014, 0, 1, 0, 1, 0⟩
def DMC_SCRUB_CMD_CH : Field := ⟨rDMC_SCRUB_CMD, 0, 2, .wo, .warm, .const 0⟩
def DMC_SCRUB_CMD_GO : Field := ⟨rDMC_SCRUB_CMD, 2, 1, .wo, .warm, .const 0⟩
def rDMC_SCRUB_START_LO : Reg := ⟨0x00A00018, 0, 1, 0, 1, 0⟩
def DMC_SCRUB_START_LO : Field := ⟨rDMC_SCRUB_START_LO, 0, 32, .rw, .warm, .const 0⟩
def rDMC_SCRUB_START_HI : Reg := ⟨0x00A0001C, 0, 1, 0, 1, 0⟩
def DMC_SCRUB_START_HI : Field := ⟨rDMC_SCRUB_START_HI, 0, 32, .rw, .warm, .const 0⟩
def rDMC_SCRUB_LEN : Reg := ⟨0x00A00020, 0, 1, 0, 1, 0⟩
def DMC_SCRUB_LEN : Field := ⟨rDMC_SCRUB_LEN, 0, 20, .rw, .warm, .const 0⟩
def rDMC_SCRUB_SUM : Reg := ⟨0x00A00030, 0, 4, 4, 1, 0⟩
def DMC_SCRUB_SUM : Field := ⟨rDMC_SCRUB_SUM, 0, 32, .ro, .warm, .const 0⟩
def rDMC_CH_STAT : Reg := ⟨0x00A10000, 0, 4, 65536, 1, 0⟩
def DMC_CH_STAT_RATE : Field := ⟨rDMC_CH_STAT, 0, 3, .ro, .cold, .const 0⟩
def DMC_CH_STAT_POP : Field := ⟨rDMC_CH_STAT, 3, 2, .ro, .cold, .const 0⟩
def DMC_CH_STAT_LOST : Field := ⟨rDMC_CH_STAT, 5, 1, .ro, .cold, .const 0⟩
def DMC_CH_STAT_SREF : Field := ⟨rDMC_CH_STAT, 6, 1, .ro, .cold, .const 0⟩
def DMC_CH_STAT_REPAIR : Field := ⟨rDMC_CH_STAT, 7, 1, .ro, .cold, .const 0⟩
def DMC_CH_STAT_MR4 : Field := ⟨rDMC_CH_STAT, 8, 3, .ro, .cold, .const 0⟩
def DMC_CH_STAT_FENCED : Field := ⟨rDMC_CH_STAT, 11, 7, .ro, .retained, .const 0⟩
def rDMC_EVT : Reg := ⟨0x00A10004, 0, 4, 65536, 1, 0⟩
def DMC_EVT_UE : Field := ⟨rDMC_EVT, 0, 1, .rw1c, .cold, .const 0⟩
def DMC_EVT_REPLAY : Field := ⟨rDMC_EVT, 1, 1, .rw1c, .cold, .const 0⟩
def DMC_EVT_RETRAIN : Field := ⟨rDMC_EVT, 2, 1, .rw1c, .cold, .const 0⟩
def DMC_EVT_REPAIRED : Field := ⟨rDMC_EVT, 3, 1, .rw1c, .cold, .const 0⟩
def DMC_EVT_FENCE : Field := ⟨rDMC_EVT, 4, 1, .rw1c, .cold, .const 0⟩
def DMC_EVT_LOST : Field := ⟨rDMC_EVT, 5, 1, .rw1c, .cold, .const 0⟩
def DMC_EVT_SAT : Field := ⟨rDMC_EVT, 6, 1, .rw1c, .cold, .const 0⟩
def rDMC_CE_CNT : Reg := ⟨0x00A10010, 0, 4, 65536, 1, 0⟩
def DMC_CE_CNT : Field := ⟨rDMC_CE_CNT, 0, 32, .cnt, .warm, .const 0⟩
def rDMC_UE_CNT : Reg := ⟨0x00A10014, 0, 4, 65536, 1, 0⟩
def DMC_UE_CNT : Field := ⟨rDMC_UE_CNT, 0, 32, .cnt, .warm, .const 0⟩
def rDMC_REPLAY_CNT : Reg := ⟨0x00A10018, 0, 4, 65536, 1, 0⟩
def DMC_REPLAY_CNT : Field := ⟨rDMC_REPLAY_CNT, 0, 32, .cnt, .warm, .const 0⟩
def rDMC_RFM_CNT : Reg := ⟨0x00A1001C, 0, 4, 65536, 1, 0⟩
def DMC_RFM_CNT : Field := ⟨rDMC_RFM_CNT, 0, 32, .cnt, .warm, .const 0⟩
def rDMC_PPR_CNT : Reg := ⟨0x00A10020, 0, 4, 65536, 1, 0⟩
def DMC_PPR_CNT : Field := ⟨rDMC_PPR_CNT, 0, 32, .cnt, .warm, .const 0⟩
def rDMC_LAST_ERR : Reg := ⟨0x00A10030, 0, 4, 65536, 1, 0⟩
def DMC_LAST_ERR : Field := ⟨rDMC_LAST_ERR, 0, 29, .ro, .warm, .const 0⟩
def rDMC_CAND : Reg := ⟨0x00A10100, 0, 4, 65536, 32, 4⟩
def DMC_CAND_ROW : Field := ⟨rDMC_CAND, 0, 17, .ro, .retained, .const 0⟩
def DMC_CAND_SUB : Field := ⟨rDMC_CAND, 25, 1, .ro, .retained, .const 0⟩
def DMC_CAND_BANK : Field := ⟨rDMC_CAND, 26, 2, .ro, .retained, .const 0⟩
def DMC_CAND_BG : Field := ⟨rDMC_CAND, 28, 3, .ro, .retained, .const 0⟩
def DMC_CAND_RANK : Field := ⟨rDMC_CAND, 31, 1, .ro, .retained, .const 0⟩
def rDMC_FENCE : Reg := ⟨0x00A10200, 0, 4, 65536, 64, 4⟩
def DMC_FENCE_ROW : Field := ⟨rDMC_FENCE, 0, 17, .ro, .retained, .const 0⟩
def DMC_FENCE_SUB : Field := ⟨rDMC_FENCE, 25, 1, .ro, .retained, .const 0⟩
def DMC_FENCE_BANK : Field := ⟨rDMC_FENCE, 26, 2, .ro, .retained, .const 0⟩
def DMC_FENCE_BG : Field := ⟨rDMC_FENCE, 28, 3, .ro, .retained, .const 0⟩
def DMC_FENCE_RANK : Field := ⟨rDMC_FENCE, 31, 1, .ro, .retained, .const 0⟩

/-! ### MPU at 0x00B00000 (chapter 12) -/
def rMPU_CTRL : Reg := ⟨0x00B00000, 0, 1, 0, 1, 0⟩
def MPU_CTRL_CLR_CNT : Field := ⟨rMPU_CTRL, 0, 1, .wo, .warm, .const 0⟩
def rMPU_STATUS : Reg := ⟨0x00B00004, 0, 1, 0, 1, 0⟩
def MPU_STATUS_SCRUB_BUSY : Field := ⟨rMPU_STATUS, 0, 1, .ro, .warm, .const 0⟩
def MPU_STATUS_SCRUB_Q : Field := ⟨rMPU_STATUS, 1, 1, .ro, .warm, .const 0⟩
def MPU_STATUS_SCRUB_DONE : Field := ⟨rMPU_STATUS, 2, 1, .rw1c, .warm, .const 0⟩
def MPU_STATUS_REJ : Field := ⟨rMPU_STATUS, 3, 1, .rw1c, .warm, .const 0⟩
def MPU_STATUS_SREP_BAD : Field := ⟨rMPU_STATUS, 4, 1, .rw1c, .cold, .const 0⟩
def MPU_STATUS_SAT : Field := ⟨rMPU_STATUS, 5, 1, .rw1c, .warm, .const 0⟩
def rMPU_CFG : Reg := ⟨0x00B00008, 0, 1, 0, 1, 0⟩
def MPU_CFG_CE_TH : Field := ⟨rMPU_CFG, 0, 8, .rw, .retained, .const 0x10⟩
def rMPU_MACROS : Reg := ⟨0x00B0000C, 0, 1, 0, 1, 0⟩
def MPU_MACROS : Field := ⟨rMPU_MACROS, 0, 10, .ro, .warm, .const 0x160⟩
def rMPU_SCRUB_CMD : Reg := ⟨0x00B00010, 0, 1, 0, 1, 0⟩
def MPU_SCRUB_CMD_FIRST : Field := ⟨rMPU_SCRUB_CMD, 0, 10, .wo, .warm, .const 0⟩
def MPU_SCRUB_CMD_LAST : Field := ⟨rMPU_SCRUB_CMD, 10, 10, .wo, .warm, .const 0⟩
def MPU_SCRUB_CMD_GO : Field := ⟨rMPU_SCRUB_CMD, 20, 1, .wo, .warm, .const 0⟩
def rMPU_SCRUB_SUM : Reg := ⟨0x00B00020, 0, 4, 4, 1, 0⟩
def MPU_SCRUB_SUM : Field := ⟨rMPU_SCRUB_SUM, 0, 32, .ro, .warm, .const 0⟩
def rMPU_CE_CNT : Reg := ⟨0x00B00040, 0, 1, 0, 1, 0⟩
def MPU_CE_CNT : Field := ⟨rMPU_CE_CNT, 0, 32, .cnt, .warm, .const 0⟩
def rMPU_UE_CNT : Reg := ⟨0x00B00044, 0, 1, 0, 1, 0⟩
def MPU_UE_CNT : Field := ⟨rMPU_UE_CNT, 0, 32, .cnt, .warm, .const 0⟩
def rMPU_TRAP_CNT : Reg := ⟨0x00B00048, 0, 1, 0, 1, 0⟩
def MPU_TRAP_CNT : Field := ⟨rMPU_TRAP_CNT, 0, 32, .cnt, .warm, .const 0⟩
def rMPU_HALT_CNT : Reg := ⟨0x00B0004C, 0, 1, 0, 1, 0⟩
def MPU_HALT_CNT : Field := ⟨rMPU_HALT_CNT, 0, 32, .cnt, .warm, .const 0⟩
def rMPU_ERR_ADDR : Reg := ⟨0x00B00050, 0, 1, 0, 1, 0⟩
def MPU_ERR_ADDR_WORD : Field := ⟨rMPU_ERR_ADDR, 0, 15, .ro, .warm, .const 0⟩
def MPU_ERR_ADDR_MACRO : Field := ⟨rMPU_ERR_ADDR, 15, 10, .ro, .warm, .const 0⟩
def rMPU_ERR_INFO : Reg := ⟨0x00B00054, 0, 1, 0, 1, 0⟩
def MPU_ERR_INFO_MASTER : Field := ⟨rMPU_ERR_INFO, 0, 8, .ro, .warm, .const 0⟩
def MPU_ERR_INFO_TYPE : Field := ⟨rMPU_ERR_INFO, 8, 3, .ro, .warm, .const 0⟩
def MPU_ERR_INFO_VALID : Field := ⟨rMPU_ERR_INFO, 11, 1, .rw1c, .warm, .const 0⟩
def rMPU_PROPOSE : Reg := ⟨0x00B00058, 0, 1, 0, 1, 0⟩
def MPU_PROPOSE_ROW : Field := ⟨rMPU_PROPOSE, 0, 11, .ro, .warm, .const 0⟩
def MPU_PROPOSE_MACRO : Field := ⟨rMPU_PROPOSE, 15, 10, .ro, .warm, .const 0⟩
def rMPU_DMA_HALTED : Reg := ⟨0x00B00060, 0, 8, 4, 1, 0⟩
def MPU_DMA_HALTED : Field := ⟨rMPU_DMA_HALTED, 0, 32, .ro, .warm, .const 0⟩
def rMPU_DMA_REARM : Reg := ⟨0x00B00080, 0, 1, 0, 1, 0⟩
def MPU_DMA_REARM_MASTER : Field := ⟨rMPU_DMA_REARM, 0, 8, .wo, .warm, .const 0⟩
def rMPU_SREP : Reg := ⟨0x00B01000, 0, 704, 4, 1, 0⟩
def MPU_SREP_ROW : Field := ⟨rMPU_SREP, 0, 11, .rw, .retained, .const 0⟩
def MPU_SREP_V : Field := ⟨rMPU_SREP, 31, 1, .rw, .retained, .const 0⟩

/-! ### CWP at 0x00C00000 (chapter 13) -/
def rCWP_PCFG : Reg := ⟨0x00C00000, 0, 4, 256, 1, 0⟩
def CWP_PCFG_EN : Field := ⟨rCWP_PCFG, 0, 1, .rw, .retained, .const 1⟩
def CWP_PCFG_RATE : Field := ⟨rCWP_PCFG, 1, 1, .rw, .retained, .const 0⟩
def CWP_PCFG_WAKE_EN : Field := ⟨rCWP_PCFG, 2, 1, .rw, .retained, .const 1⟩
def CWP_PCFG_ERR_TH : Field := ⟨rCWP_PCFG, 8, 8, .rw, .retained, .const 0x10⟩
def rCWP_PSTAT : Reg := ⟨0x00C00004, 0, 4, 256, 1, 0⟩
def CWP_PSTAT_STATE : Field := ⟨rCWP_PSTAT, 0, 3, .ro, .warm, .const 1⟩
def CWP_PSTAT_RATE_IN : Field := ⟨rCWP_PSTAT, 3, 1, .ro, .warm, .const 0⟩
def CWP_PSTAT_NBR_ID : Field := ⟨rCWP_PSTAT, 4, 12, .ro, .warm, .const 0⟩
def CWP_PSTAT_NBR_PORT : Field := ⟨rCWP_PSTAT, 16, 2, .ro, .warm, .const 0⟩
def CWP_PSTAT_SAT : Field := ⟨rCWP_PSTAT, 18, 1, .rw1c, .warm, .const 0⟩
def rCWP_NAK_CNT : Reg := ⟨0x00C00010, 0, 4, 256, 1, 0⟩
def CWP_NAK_CNT : Field := ⟨rCWP_NAK_CNT, 0, 32, .cnt, .warm, .const 0⟩
def rCWP_STOMP_CNT : Reg := ⟨0x00C00014, 0, 4, 256, 1, 0⟩
def CWP_STOMP_CNT : Field := ⟨rCWP_STOMP_CNT, 0, 32, .cnt, .warm, .const 0⟩
def rCWP_DROP_CNT : Reg := ⟨0x00C00018, 0, 4, 256, 1, 0⟩
def CWP_DROP_CNT : Field := ⟨rCWP_DROP_CNT, 0, 32, .cnt, .warm, .const 0⟩
def rCWP_TX_FRAMES : Reg := ⟨0x00C0001C, 0, 4, 256, 1, 0⟩
def CWP_TX_FRAMES : Field := ⟨rCWP_TX_FRAMES, 0, 32, .cnt, .warm, .const 0⟩
def rCWP_RX_FRAMES : Reg := ⟨0x00C00020, 0, 4, 256, 1, 0⟩
def CWP_RX_FRAMES : Field := ⟨rCWP_RX_FRAMES, 0, 32, .cnt, .warm, .const 0⟩

/-! ### JNR at 0x00C80000 (chapter 13) -/
def rJNR_CFG : Reg := ⟨0x00C80000, 0, 1, 0, 1, 0⟩
def JNR_CFG_NODE_ID : Field := ⟨rJNR_CFG, 0, 12, .rw, .retained, .const 0⟩
def JNR_CFG_DOMAIN : Field := ⟨rJNR_CFG, 12, 16, .rw, .retained, .const 0⟩
def JNR_CFG_MGMT_EN : Field := ⟨rJNR_CFG, 28, 1, .rw, .retained, .const 0⟩
def rJNR_CTRL : Reg := ⟨0x00C80004, 0, 1, 0, 1, 0⟩
def JNR_CTRL_CLR_CNT : Field := ⟨rJNR_CTRL, 0, 1, .wo, .warm, .const 0⟩
def JNR_CTRL_WAKE_TX : Field := ⟨rJNR_CTRL, 4, 4, .wo, .warm, .const 0⟩
def rJNR_STATUS : Reg := ⟨0x00C80008, 0, 1, 0, 1, 0⟩
def JNR_STATUS_JOINED : Field := ⟨rJNR_STATUS, 0, 1, .ro, .warm, .const 0⟩
def JNR_STATUS_NODES : Field := ⟨rJNR_STATUS, 1, 9, .ro, .warm, .const 0⟩
def JNR_STATUS_RECOMP : Field := ⟨rJNR_STATUS, 10, 1, .ro, .warm, .const 0⟩
def JNR_STATUS_DUP_ID : Field := ⟨rJNR_STATUS, 11, 1, .rw1c, .warm, .const 0⟩
def JNR_STATUS_FULL : Field := ⟨rJNR_STATUS, 12, 1, .rw1c, .warm, .const 0⟩
def JNR_STATUS_SAT : Field := ⟨rJNR_STATUS, 13, 1, .rw1c, .warm, .const 0⟩
def rJNR_TIMING : Reg := ⟨0x00C8000C, 0, 1, 0, 1, 0⟩
def JNR_TIMING_HELLO : Field := ⟨rJNR_TIMING, 0, 8, .rw, .retained, .const 0xA⟩
def JNR_TIMING_DEAD : Field := ⟨rJNR_TIMING, 8, 8, .rw, .retained, .const 0xA⟩
def JNR_TIMING_E2E : Field := ⟨rJNR_TIMING, 16, 8, .rw, .retained, .const 0x32⟩
def JNR_TIMING_HOP_MAX : Field := ⟨rJNR_TIMING, 24, 5, .rw, .retained, .const 0x10⟩
def rJNR_FWD_FRAMES : Reg := ⟨0x00C80040, 0, 1, 0, 1, 0⟩
def JNR_FWD_FRAMES : Field := ⟨rJNR_FWD_FRAMES, 0, 32, .cnt, .warm, .const 0⟩
def rJNR_NOPATH : Reg := ⟨0x00C80044, 0, 1, 0, 1, 0⟩
def JNR_NOPATH : Field := ⟨rJNR_NOPATH, 0, 32, .cnt, .warm, .const 0⟩
def rJNR_HOP_DROP : Reg := ⟨0x00C80048, 0, 1, 0, 1, 0⟩
def JNR_HOP_DROP : Field := ⟨rJNR_HOP_DROP, 0, 32, .cnt, .warm, .const 0⟩
def rJNR_E2E_TMO : Reg := ⟨0x00C8004C, 0, 1, 0, 1, 0⟩
def JNR_E2E_TMO : Field := ⟨rJNR_E2E_TMO, 0, 32, .cnt, .warm, .const 0⟩
def rJNR_DUP_HIT : Reg := ⟨0x00C80050, 0, 1, 0, 1, 0⟩
def JNR_DUP_HIT : Field := ⟨rJNR_DUP_HIT, 0, 32, .cnt, .warm, .const 0⟩
def rJNR_DUP_EVICT : Reg := ⟨0x00C80054, 0, 1, 0, 1, 0⟩
def JNR_DUP_EVICT : Field := ⟨rJNR_DUP_EVICT, 0, 32, .cnt, .warm, .const 0⟩
def rJNR_TAGS_USED : Reg := ⟨0x00C80060, 0, 1, 0, 1, 0⟩
def JNR_TAGS_USED : Field := ⟨rJNR_TAGS_USED, 0, 14, .ro, .warm, .const 0⟩
def rJNR_NSLICE : Reg := ⟨0x00C81000, 0, 256, 4, 1, 0⟩
def JNR_NSLICE_NODE : Field := ⟨rJNR_NSLICE, 0, 12, .rw, .retained, .const 0⟩
def JNR_NSLICE_SLICE : Field := ⟨rJNR_NSLICE, 12, 8, .rw, .retained, .const 0⟩
def JNR_NSLICE_V : Field := ⟨rJNR_NSLICE, 31, 1, .rw, .retained, .const 0⟩
def rJNR_PATH : Reg := ⟨0x00C82000, 0, 256, 4, 1, 0⟩
def JNR_PATH_NODE : Field := ⟨rJNR_PATH, 0, 12, .ro, .warm, .const 0⟩
def JNR_PATH_PORT : Field := ⟨rJNR_PATH, 12, 2, .ro, .warm, .const 0⟩
def JNR_PATH_HOPS : Field := ⟨rJNR_PATH, 14, 8, .ro, .warm, .const 0⟩
def JNR_PATH_V : Field := ⟨rJNR_PATH, 31, 1, .ro, .warm, .const 0⟩
def rJNR_BIND_0 : Reg := ⟨0x00C83000, 0, 64, 8, 1, 0⟩
def JNR_BIND_0_LNSID : Field := ⟨rJNR_BIND_0, 0, 10, .rw, .retained, .const 0⟩
def JNR_BIND_0_KIND : Field := ⟨rJNR_BIND_0, 10, 2, .rw, .retained, .const 0⟩
def JNR_BIND_0_OOS : Field := ⟨rJNR_BIND_0, 12, 1, .ro, .cold, .const 0⟩
def JNR_BIND_0_V : Field := ⟨rJNR_BIND_0, 31, 1, .rw, .retained, .const 0⟩
def rJNR_BIND_1 : Reg := ⟨0x00C83004, 0, 64, 8, 1, 0⟩
def JNR_BIND_1_NODE : Field := ⟨rJNR_BIND_1, 0, 12, .rw, .retained, .const 0⟩
def JNR_BIND_1_RNSID : Field := ⟨rJNR_BIND_1, 12, 10, .rw, .retained, .const 0⟩

/-! ### FCL at 0x00D00000 (chapter 14) -/
def rFCL_STATUS : Reg := ⟨0x00D00000, 0, 1, 0, 1, 0⟩
def FCL_STATUS_VALID : Field := ⟨rFCL_STATUS, 0, 1, .rw1c, .cold, .const 0⟩
def FCL_STATUS_OVF : Field := ⟨rFCL_STATUS, 1, 1, .ro, .cold, .const 0⟩
def FCL_STATUS_MERGED : Field := ⟨rFCL_STATUS, 2, 8, .ro, .cold, .const 0⟩
def FCL_STATUS_SAFE : Field := ⟨rFCL_STATUS, 10, 3, .ro, .cold, .const 0⟩
def FCL_STATUS_FAULT_DUMP : Field := ⟨rFCL_STATUS, 13, 1, .ro, .cold, .const 0⟩
def FCL_STATUS_SAT : Field := ⟨rFCL_STATUS, 14, 1, .rw1c, .cold, .const 0⟩
def rFCL_FIRST_ADDR_LO : Reg := ⟨0x00D00004, 0, 1, 0, 1, 0⟩
def FCL_FIRST_ADDR_LO : Field := ⟨rFCL_FIRST_ADDR_LO, 0, 32, .ro, .cold, .const 0⟩
def rFCL_FIRST_ADDR_HI : Reg := ⟨0x00D00008, 0, 1, 0, 1, 0⟩
def FCL_FIRST_ADDR_HI : Field := ⟨rFCL_FIRST_ADDR_HI, 0, 16, .ro, .cold, .const 0⟩
def rFCL_FIRST_INFO : Reg := ⟨0x00D0000C, 0, 1, 0, 1, 0⟩
def FCL_FIRST_INFO_MASTER : Field := ⟨rFCL_FIRST_INFO, 0, 8, .ro, .cold, .const 0⟩
def FCL_FIRST_INFO_TYPE : Field := ⟨rFCL_FIRST_INFO, 8, 4, .ro, .cold, .const 0⟩
def FCL_FIRST_INFO_CLASS : Field := ⟨rFCL_FIRST_INFO, 12, 2, .ro, .cold, .const 0⟩
def FCL_FIRST_INFO_WORST : Field := ⟨rFCL_FIRST_INFO, 14, 2, .ro, .cold, .const 0⟩
def FCL_FIRST_INFO_SPACE : Field := ⟨rFCL_FIRST_INFO, 16, 4, .ro, .cold, .const 0⟩
def FCL_FIRST_INFO_LOADED : Field := ⟨rFCL_FIRST_INFO, 20, 1, .ro, .cold, .const 0⟩
def rFCL_FIRST_TS_LO : Reg := ⟨0x00D00010, 0, 1, 0, 1, 0⟩
def FCL_FIRST_TS_LO : Field := ⟨rFCL_FIRST_TS_LO, 0, 32, .ro, .cold, .const 0⟩
def rFCL_FIRST_TS_HI : Reg := ⟨0x00D00014, 0, 1, 0, 1, 0⟩
def FCL_FIRST_TS_HI : Field := ⟨rFCL_FIRST_TS_HI, 0, 32, .ro, .cold, .const 0⟩
def rFCL_CTRL : Reg := ⟨0x00D00018, 0, 1, 0, 1, 0⟩
def FCL_CTRL_CLR_CNT : Field := ⟨rFCL_CTRL, 0, 1, .wo, .warm, .const 0⟩
def FCL_CTRL_RESTART_EN : Field := ⟨rFCL_CTRL, 1, 1, .rw, .retained, .const 1⟩
def rFCL_CE_CNT : Reg := ⟨0x00D00020, 0, 1, 0, 1, 0⟩
def FCL_CE_CNT : Field := ⟨rFCL_CE_CNT, 0, 32, .cnt, .warm, .const 0⟩
def rFCL_UE_CNT : Reg := ⟨0x00D00024, 0, 1, 0, 1, 0⟩
def FCL_UE_CNT : Field := ⟨rFCL_UE_CNT, 0, 32, .cnt, .warm, .const 0⟩
def rFCL_FATAL_CNT : Reg := ⟨0x00D00028, 0, 1, 0, 1, 0⟩
def FCL_FATAL_CNT : Field := ⟨rFCL_FATAL_CNT, 0, 32, .cnt, .retained, .const 0⟩
def rFCL_RESTART_CNT : Reg := ⟨0x00D0002C, 0, 1, 0, 1, 0⟩
def FCL_RESTART_CNT : Field := ⟨rFCL_RESTART_CNT, 0, 32, .cnt, .retained, .const 0⟩

/-! ### MSM at 0x00E00000 (chapter 14) -/
def rMSM_CTRL : Reg := ⟨0x00E00000, 0, 1, 0, 1, 0⟩
def MSM_CTRL_CLR_CNT : Field := ⟨rMSM_CTRL, 0, 1, .wo, .warm, .const 0⟩
def MSM_CTRL_REPORT_CLR : Field := ⟨rMSM_CTRL, 1, 1, .wo, .warm, .const 0⟩
def rMSM_STATUS : Reg := ⟨0x00E00004, 0, 1, 0, 1, 0⟩
def MSM_STATUS_SAT : Field := ⟨rMSM_STATUS, 0, 1, .rw1c, .cold, .const 0⟩
def MSM_STATUS_REPORT : Field := ⟨rMSM_STATUS, 1, 1, .ro, .retained, .const 0⟩
def MSM_STATUS_NOSPARE : Field := ⟨rMSM_STATUS, 2, 1, .ro, .retained, .const 0⟩
def MSM_STATUS_WFAIL : Field := ⟨rMSM_STATUS, 3, 1, .rw1c, .cold, .const 0⟩
def rMSM_LOG_HEAD : Reg := ⟨0x00E00008, 0, 1, 0, 1, 0⟩
def MSM_LOG_HEAD_INDEX : Field := ⟨rMSM_LOG_HEAD, 0, 15, .ro, .retained, .const 0⟩
def MSM_LOG_HEAD_PASS : Field := ⟨rMSM_LOG_HEAD, 15, 1, .ro, .retained, .const 0⟩
def rMSM_LOG_CUR : Reg := ⟨0x00E0000C, 0, 1, 0, 1, 0⟩
def MSM_LOG_CUR_WORD : Field := ⟨rMSM_LOG_CUR, 0, 18, .rw, .cold, .const 0⟩
def rMSM_LOG_DATA : Reg := ⟨0x00E00010, 0, 1, 0, 1, 0⟩
def MSM_LOG_DATA : Field := ⟨rMSM_LOG_DATA, 0, 32, .ro, .warm, .const 0⟩
def rMSM_WIN_ADDR : Reg := ⟨0x00E00014, 0, 1, 0, 1, 0⟩
def MSM_WIN_ADDR_LINE : Field := ⟨rMSM_WIN_ADDR, 6, 15, .rw, .warm, .const 0⟩
def rMSM_WIN_DATA : Reg := ⟨0x00E00018, 0, 1, 0, 1, 0⟩
def MSM_WIN_DATA : Field := ⟨rMSM_WIN_DATA, 0, 32, .ro, .warm, .const 0⟩
def rMSM_SPARES : Reg := ⟨0x00E00020, 0, 1, 0, 1, 0⟩
def MSM_SPARES : Field := ⟨rMSM_SPARES, 0, 12, .ro, .cold, .const 0⟩
def rMSM_OP_HOURS : Reg := ⟨0x00E00024, 0, 1, 0, 1, 0⟩
def MSM_OP_HOURS : Field := ⟨rMSM_OP_HOURS, 0, 32, .cnt, .retained, .const 0⟩
def rMSM_PWR_CYCLES : Reg := ⟨0x00E00028, 0, 1, 0, 1, 0⟩
def MSM_PWR_CYCLES : Field := ⟨rMSM_PWR_CYCLES, 0, 32, .cnt, .retained, .const 0⟩
def rMSM_RETIRE_CNT : Reg := ⟨0x00E00030, 0, 1, 0, 1, 0⟩
def MSM_RETIRE_CNT : Field := ⟨rMSM_RETIRE_CNT, 0, 32, .cnt, .retained, .const 0⟩
def rMSM_PULSE2_CNT : Reg := ⟨0x00E00034, 0, 1, 0, 1, 0⟩
def MSM_PULSE2_CNT : Field := ⟨rMSM_PULSE2_CNT, 0, 32, .cnt, .warm, .const 0⟩
def rMSM_LOG_DROP : Reg := ⟨0x00E00038, 0, 1, 0, 1, 0⟩
def MSM_LOG_DROP : Field := ⟨rMSM_LOG_DROP, 0, 32, .cnt, .warm, .const 0⟩

/-! ### THM at 0x01100000 (chapter 14) -/
def rTHM_CTRL : Reg := ⟨0x01100000, 0, 1, 0, 1, 0⟩
def THM_CTRL_CLR_CNT : Field := ⟨rTHM_CTRL, 0, 1, .wo, .warm, .const 0⟩
def rTHM_STATUS : Reg := ⟨0x01100004, 0, 1, 0, 1, 0⟩
def THM_STATUS_STEP : Field := ⟨rTHM_STATUS, 0, 2, .ro, .warm, .const 0⟩
def THM_STATUS_WR_FORBID : Field := ⟨rTHM_STATUS, 2, 1, .ro, .warm, .const 0⟩
def THM_STATUS_CHG_FORBID : Field := ⟨rTHM_STATUS, 3, 1, .ro, .warm, .const 0⟩
def THM_STATUS_NVALID : Field := ⟨rTHM_STATUS, 4, 4, .ro, .cold, .const 0⟩
def THM_STATUS_EXT_FAIL : Field := ⟨rTHM_STATUS, 8, 8, .ro, .cold, .const 0⟩
def THM_STATUS_ACK_REF : Field := ⟨rTHM_STATUS, 16, 1, .rw1c, .warm, .const 0⟩
def THM_STATUS_SAT : Field := ⟨rTHM_STATUS, 17, 1, .rw1c, .warm, .const 0⟩
def rTHM_CFG : Reg := ⟨0x01100008, 0, 1, 0, 1, 0⟩
def THM_CFG_STEP1_C : Field := ⟨rTHM_CFG, 0, 8, .rw, .retained, .const 0x64⟩
def THM_CFG_STEP2_C : Field := ⟨rTHM_CFG, 8, 8, .rw, .retained, .const 0x6E⟩
def THM_CFG_COOL_S : Field := ⟨rTHM_CFG, 16, 8, .rw, .retained, .const 0x3C⟩
def rTHM_JMAX : Reg := ⟨0x0110000C, 0, 1, 0, 1, 0⟩
def THM_JMAX_READING : Field := ⟨rTHM_JMAX, 0, 16, .ro, .warm, .const 0⟩
def THM_JMAX_SENSOR : Field := ⟨rTHM_JMAX, 16, 4, .ro, .warm, .const 0⟩
def rTHM_FLASH : Reg := ⟨0x01100010, 0, 1, 0, 1, 0⟩
def THM_FLASH_HI : Field := ⟨rTHM_FLASH, 0, 16, .ro, .warm, .const 0⟩
def THM_FLASH_LO : Field := ⟨rTHM_FLASH, 16, 16, .ro, .warm, .const 0⟩
def rTHM_STEP1_CNT : Reg := ⟨0x01100040, 0, 1, 0, 1, 0⟩
def THM_STEP1_CNT : Field := ⟨rTHM_STEP1_CNT, 0, 32, .cnt, .warm, .const 0⟩
def rTHM_STEP2_CNT : Reg := ⟨0x01100044, 0, 1, 0, 1, 0⟩
def THM_STEP2_CNT : Field := ⟨rTHM_STEP2_CNT, 0, 32, .cnt, .warm, .const 0⟩
def rTHM_WR_BLOCK_CNT : Reg := ⟨0x01100048, 0, 1, 0, 1, 0⟩
def THM_WR_BLOCK_CNT : Field := ⟨rTHM_WR_BLOCK_CNT, 0, 32, .cnt, .warm, .const 0⟩
def rTHM_SHUT_CNT : Reg := ⟨0x0110004C, 0, 1, 0, 1, 0⟩
def THM_SHUT_CNT : Field := ⟨rTHM_SHUT_CNT, 0, 32, .cnt, .retained, .const 0⟩
def rTHM_SENSE : Reg := ⟨0x01100100, 0, 12, 4, 1, 0⟩
def THM_SENSE_READING : Field := ⟨rTHM_SENSE, 0, 16, .ro, .warm, .const 0⟩
def THM_SENSE_VALID : Field := ⟨rTHM_SENSE, 16, 1, .ro, .warm, .const 0⟩
def rTHM_EXT : Reg := ⟨0x01100140, 0, 8, 4, 1, 0⟩
def THM_EXT_READING : Field := ⟨rTHM_EXT, 0, 16, .ro, .warm, .const 0⟩
def THM_EXT_VALID : Field := ⟨rTHM_EXT, 16, 1, .ro, .warm, .const 0⟩
def rTHM_EXT_CFG : Reg := ⟨0x01100180, 0, 8, 4, 1, 0⟩
def THM_EXT_CFG_ROLE : Field := ⟨rTHM_EXT_CFG, 0, 3, .rw, .retained, .below 4 1 0⟩

/-! ### EVR at 0x01400000 (chapter 14) -/
def rEVR_CTRL : Reg := ⟨0x01400000, 0, 1, 0, 1, 0⟩
def EVR_CTRL_IRQ : Field := ⟨rEVR_CTRL, 0, 1, .rw, .retained, .const 0⟩
def EVR_CTRL_QCLR : Field := ⟨rEVR_CTRL, 1, 1, .wo, .warm, .const 0⟩
def rEVR_QCOUNT : Reg := ⟨0x01400004, 0, 1, 0, 1, 0⟩
def EVR_QCOUNT : Field := ⟨rEVR_QCOUNT, 0, 9, .ro, .warm, .const 0⟩
def rEVR_PEND : Reg := ⟨0x01400100, 0, 9, 4, 1, 0⟩
def EVR_PEND : Field := ⟨rEVR_PEND, 0, 32, .rw1c, .warm, .const 0⟩
def rEVR_LOG_EN : Reg := ⟨0x01400140, 0, 9, 4, 1, 0⟩
def EVR_LOG_EN : Field := ⟨rEVR_LOG_EN, 0, 32, .rw, .retained, .const 0xFFFFFFFF⟩
def rEVR_HOST_EN : Reg := ⟨0x01400180, 0, 9, 4, 1, 0⟩
def EVR_HOST_EN : Field := ⟨rEVR_HOST_EN, 0, 32, .rw, .retained, .const 0xFFFFFFFF⟩
def rEVR_IRQ_EN : Reg := ⟨0x014001C0, 0, 9, 4, 1, 0⟩
def EVR_IRQ_EN : Field := ⟨rEVR_IRQ_EN, 0, 32, .rw, .retained, .const 0⟩

/-! ### FWS at 0x01300000 (chapter 15) -/
def rFWS_CTRL : Reg := ⟨0x01300000, 0, 1, 0, 1, 0⟩
def FWS_CTRL_CLR_CNT : Field := ⟨rFWS_CTRL, 0, 1, .wo, .warm, .const 0⟩
def rFWS_STATUS : Reg := ⟨0x01300004, 0, 1, 0, 1, 0⟩
def FWS_STATUS_SLOT_RUN : Field := ⟨rFWS_STATUS, 0, 2, .ro, .cold, .const 0⟩
def FWS_STATUS_TRIAL : Field := ⟨rFWS_STATUS, 2, 1, .ro, .cold, .const 0⟩
def FWS_STATUS_FALLBACK : Field := ⟨rFWS_STATUS, 3, 1, .rw1c, .cold, .const 0⟩
def FWS_STATUS_PROG_BUSY : Field := ⟨rFWS_STATUS, 4, 1, .ro, .cold, .const 0⟩
def FWS_STATUS_SAT : Field := ⟨rFWS_STATUS, 5, 1, .rw1c, .warm, .const 0⟩
def rFWS_CFG : Reg := ⟨0x01300008, 0, 1, 0, 1, 0⟩
def FWS_CFG_CBIT_TH : Field := ⟨rFWS_CFG, 0, 4, .rw, .retained, .const 3⟩
def FWS_CFG_PF_EN : Field := ⟨rFWS_CFG, 4, 1, .rw, .retained, .const 1⟩
def FWS_CFG_BC_EN : Field := ⟨rFWS_CFG, 5, 1, .rw, .retained, .const 1⟩
def rFWS_WEAK_LINE : Reg := ⟨0x0130000C, 0, 1, 0, 1, 0⟩
def FWS_WEAK_LINE_LINE : Field := ⟨rFWS_WEAK_LINE, 0, 19, .ro, .warm, .const 0⟩
def FWS_WEAK_LINE_CBITS : Field := ⟨rFWS_WEAK_LINE, 20, 4, .ro, .warm, .const 0⟩
def rFWS_CB_CNT : Reg := ⟨0x01300010, 0, 1, 0, 1, 0⟩
def FWS_CB_CNT : Field := ⟨rFWS_CB_CNT, 0, 32, .cnt, .warm, .const 0⟩
def rFWS_UE_CNT : Reg := ⟨0x01300014, 0, 1, 0, 1, 0⟩
def FWS_UE_CNT : Field := ⟨rFWS_UE_CNT, 0, 32, .cnt, .warm, .const 0⟩
def rFWS_PF_HIT : Reg := ⟨0x01300018, 0, 1, 0, 1, 0⟩
def FWS_PF_HIT : Field := ⟨rFWS_PF_HIT, 0, 32, .cnt, .warm, .const 0⟩
def rFWS_BC_HIT : Reg := ⟨0x0130001C, 0, 1, 0, 1, 0⟩
def FWS_BC_HIT : Field := ⟨rFWS_BC_HIT, 0, 32, .cnt, .warm, .const 0⟩
def rFWS_SEL_SEQ : Reg := ⟨0x01300020, 0, 1, 0, 1, 0⟩
def FWS_SEL_SEQ : Field := ⟨rFWS_SEL_SEQ, 0, 32, .ro, .warm, .const 0⟩

/-! ### FWC at 0x01380000 (chapter 15) -/
def rFWC_CTRL : Reg := ⟨0x01380000, 0, 1, 0, 1, 0⟩
def FWC_CTRL_CLR_CNT : Field := ⟨rFWC_CTRL, 0, 1, .wo, .warm, .const 0⟩
def rFWC_STATUS : Reg := ⟨0x01380004, 0, 1, 0, 1, 0⟩
def FWC_STATUS_ACTIVE : Field := ⟨rFWC_STATUS, 0, 5, .ro, .cold, .const 0⟩
def FWC_STATUS_SPARE : Field := ⟨rFWC_STATUS, 5, 1, .ro, .cold, .const 0⟩
def FWC_STATUS_SUPV_RUN : Field := ⟨rFWC_STATUS, 6, 1, .ro, .cold, .const 0⟩
def FWC_STATUS_SAT : Field := ⟨rFWC_STATUS, 7, 1, .rw1c, .warm, .const 0⟩
def rFWC_CFGREC : Reg := ⟨0x01380008, 0, 1, 0, 1, 0⟩
def FWC_CFGREC_COPY : Field := ⟨rFWC_CFGREC, 0, 1, .ro, .cold, .const 0⟩
def FWC_CFGREC_SRC : Field := ⟨rFWC_CFGREC, 1, 2, .ro, .cold, .const 0⟩
def FWC_CFGREC_PEND : Field := ⟨rFWC_CFGREC, 3, 1, .ro, .cold, .const 0⟩
def FWC_CFGREC_OVER : Field := ⟨rFWC_CFGREC, 4, 1, .rw1c, .cold, .const 0⟩
def FWC_CFGREC_VER : Field := ⟨rFWC_CFGREC, 8, 8, .ro, .cold, .const 0⟩
def FWC_CFGREC_LINES : Field := ⟨rFWC_CFGREC, 16, 11, .ro, .cold, .const 0⟩
def rFWC_CFG_SEQ_LO : Reg := ⟨0x01380010, 0, 1, 0, 1, 0⟩
def FWC_CFG_SEQ_LO : Field := ⟨rFWC_CFG_SEQ_LO, 0, 32, .ro, .warm, .const 0⟩
def rFWC_CFG_SEQ_HI : Reg := ⟨0x01380014, 0, 1, 0, 1, 0⟩
def FWC_CFG_SEQ_HI : Field := ⟨rFWC_CFG_SEQ_HI, 0, 32, .ro, .warm, .const 0⟩
def rFWC_TAKEOVER_CNT : Reg := ⟨0x01380020, 0, 1, 0, 1, 0⟩
def FWC_TAKEOVER_CNT : Field := ⟨rFWC_TAKEOVER_CNT, 0, 32, .cnt, .warm, .const 0⟩
def rFWC_CORE : Reg := ⟨0x01380100, 0, 17, 4, 1, 0⟩
def FWC_CORE_STATE : Field := ⟨rFWC_CORE, 0, 2, .ro, .cold, .const 0⟩
def FWC_CORE_SERVED : Field := ⟨rFWC_CORE, 2, 5, .ro, .cold, .const 0⟩

/-! ### MGI at 0x01500000 (chapter 16) -/
def rMGI_CTRL : Reg := ⟨0x01500000, 0, 1, 0, 1, 0⟩
def MGI_CTRL_TCLR : Field := ⟨rMGI_CTRL, 0, 1, .wo, .warm, .const 0⟩
def rMGI_STATUS : Reg := ⟨0x01500004, 0, 1, 0, 1, 0⟩
def MGI_STATUS_RUNNING : Field := ⟨rMGI_STATUS, 0, 4, .ro, .warm, .const 0⟩
def MGI_STATUS_TICKETS : Field := ⟨rMGI_STATUS, 4, 7, .ro, .cold, .const 0⟩
def MGI_STATUS_CHANGE : Field := ⟨rMGI_STATUS, 11, 1, .ro, .warm, .const 0⟩
def MGI_STATUS_BOOTROM : Field := ⟨rMGI_STATUS, 12, 1, .ro, .cold, .const 0⟩
def rMGI_CFG : Reg := ⟨0x01500008, 0, 1, 0, 1, 0⟩
def MGI_CFG_SMB_EN : Field := ⟨rMGI_CFG, 0, 1, .rw, .retained, .const 1⟩
def MGI_CFG_I3C_EN : Field := ⟨rMGI_CFG, 1, 1, .rw, .retained, .const 1⟩
def MGI_CFG_SMB_ADDR : Field := ⟨rMGI_CFG, 2, 7, .rw, .retained, .const 0x3A⟩
def rMGI_TICKET_SEL : Reg := ⟨0x01500010, 0, 1, 0, 1, 0⟩
def MGI_TICKET_SEL : Field := ⟨rMGI_TICKET_SEL, 0, 16, .rw, .warm, .const 0⟩
def rMGI_TICKET_DATA : Reg := ⟨0x01500014, 0, 5, 4, 1, 0⟩
def MGI_TICKET_DATA : Field := ⟨rMGI_TICKET_DATA, 0, 32, .ro, .warm, .const 0⟩

/-- Fields of the GLB block, part 0. -/
def fieldsGLB0 : List Field :=
  [GLB_IDENT_PART,
   GLB_IDENT_STEPPING,
   GLB_IDENT_CHANNELS,
   GLB_CONFIG_INFO_DRAM_GIB,
   GLB_CONFIG_INFO_DIES_PER_CH,
   GLB_CONFIG_INFO_SPARE_DIES,
   GLB_CONFIG_INFO_PORTS,
   GLB_CONFIG_INFO_CW_PORTS_UP,
   GLB_SERIAL_LO,
   GLB_SERIAL_HI,
   GLB_MODE_STATUS_MODE,
   GLB_MODE_STATUS_PREV_MODE,
   GLB_MODE_STATUS_HOLD_CAUSE,
   GLB_MODE_STATUS_RETURNED,
   GLB_MODE_STATUS_SUPERSEDED,
   GLB_MODE_STATUS_WRITE_THROUGH,
   GLB_MODE_STATUS_THROTTLE,
   GLB_MODE_STATUS_DROOP,
   GLB_SCRATCH,
   GLB_UPTIME_LO,
   GLB_UPTIME_HI]

/-- Every field of the GLB block. -/
def fieldsGLB : List Field :=
  fieldsGLB0

/-- Fields of the QEN block, part 0. -/
def fieldsQEN0 : List Field :=
  [QEN_PORT_CFG_PRIV_PORT,
   QEN_PORT_CFG_DB_PASID_CHECK,
   QEN_PORT_CFG_PREFETCH,
   QEN_STATUS_P0_RDY,
   QEN_STATUS_P1_RDY,
   QEN_STATUS_CQ_STALL,
   QEN_STATUS_SAT,
   QEN_CTRL_CLR_CNT,
   QEN_CTRL_CLR_PEAK,
   QEN_CTX_USED,
   QEN_CTX_PEAK,
   QEN_UNBOUND_DROP,
   QEN_DB_DROP,
   QEN_CQ_STALL_CNT,
   QEN_LINK_RATE,
   QEN_LINK_WIDTH,
   QEN_LINK_FLIT,
   QEN_LINK_UP,
   QEN_QINFO_VALID,
   QEN_QINFO_PORT,
   QEN_QINFO_QID,
   QEN_QINFO_CLASS,
   QEN_QINFO_SLICE,
   QEN_QINFO_CQ_FULL,
   QEN_QINFO_FETCH_STOP,
   QEN_QPASID_PASID,
   QEN_QPASID_PV]

/-- Every field of the QEN block. -/
def fieldsQEN : List Field :=
  fieldsQEN0

/-- Fields of the SLM block, part 0. -/
def fieldsSLM0 : List Field :=
  [SLM_CFG_SLICE_LOG2,
   SLM_CFG_ACTIVE_LOG2,
   SLM_STATUS_SAT,
   SLM_CTRL_CLR_CNT,
   SLM_RESET_SLICE,
   SLM_RESET_GO,
   SLM_PORT_DEF_DEF0,
   SLM_PORT_DEF_DEF1,
   SLM_PMAP_PASID,
   SLM_PMAP_SLICE,
   SLM_PMAP_V,
   SLM_GEN,
   SLM_ABORT,
   SLM_RSTAT_BUSY,
   SLM_RSTAT_DONE,
   SLM_RSTAT_HELD,
   SLM_RSTAT_REJ,
   SLM_RSTAT_ELAPSED,
   SLM_DIRTY,
   SLM_BUDGET,
   SLM_NSACC]

/-- Every field of the SLM block. -/
def fieldsSLM : List Field :=
  fieldsSLM0

/-- Fields of the TLG block, part 0. -/
def fieldsTLG0 : List Field :=
  [TLG_CTRL_CLR_CNT,
   TLG_CTRL_RA_EN,
   TLG_STATUS_SAT,
   TLG_STATUS_OVERWRITTEN,
   TLG_DEADLINE,
   TLG_RA_BUDGET_BUDGET_US,
   TLG_RA_BUDGET_RACE,
   TLG_LATE_CLASS,
   TLG_RA_START,
   TLG_RA_PEER_WON,
   TLG_REC_TOTAL_LO,
   TLG_REC_TOTAL_HI,
   TLG_LATE_SLICE]

/-- Every field of the TLG block. -/
def fieldsTLG : List Field :=
  fieldsTLG0

/-- Fields of the WPT block, part 0. -/
def fieldsWPT0 : List Field :=
  [WPT_CMD_INDEX,
   WPT_CMD_OP,
   WPT_STATUS_BUSY,
   WPT_STATUS_REJ,
   WPT_STATUS_LOST,
   WPT_STATUS_SAT,
   WPT_STATUS_USED,
   WPT_CTRL_CLR_CNT,
   WPT_CTRL_SCRUB_EN,
   WPT_STAGE_KEY_LO,
   WPT_STAGE_KEY_HI,
   WPT_STAGE_KEY_2_OPC,
   WPT_STAGE_KEY_2_HINT,
   WPT_STAGE_KEY_2_NS,
   WPT_STAGE_KEY_3_SLICE,
   WPT_STAGE_MASK_LO,
   WPT_STAGE_MASK_HI,
   WPT_STAGE_MASK_2_OPC,
   WPT_STAGE_MASK_2_HINT,
   WPT_STAGE_MASK_2_NS,
   WPT_STAGE_MASK_3_SLICE,
   WPT_STAGE_RES_ROUTE,
   WPT_STAGE_RES_ROW_FLUSH,
   WPT_STAGE_RES_REFUSE,
   WPT_STAGE_RES_V,
   WPT_FALSE_HIT,
   WPT_SCRUB_FIX,
   WPT_HIT,
   WPT_MISS,
   WPT_PMASK_LO,
   WPT_PMASK_HI,
   WPT_PMASK_2_OPC,
   WPT_PMASK_2_HINT,
   WPT_PMASK_2_NS,
   WPT_PMASK_3_SLICE,
   WPT_PDEF_ROUTE,
   WPT_NSPROF_P0,
   WPT_NSPROF_P1,
   WPT_NSPROF_P2,
   WPT_NSPROF_P3]

/-- Fields of the WPT block, part 1. -/
def fieldsWPT1 : List Field :=
  [WPT_NSPROF_P4,
   WPT_NSPROF_P5,
   WPT_NSPROF_P6,
   WPT_NSPROF_P7,
   WPT_ROUTE_CHLO,
   WPT_ROUTE_CHHI,
   WPT_ROUTE_CFG_MODE,
   WPT_ROUTE_CFG_FORM,
   WPT_ROUTE_CFG_PRIO,
   WPT_ROUTE_CFG_V]

/-- Every field of the WPT block. -/
def fieldsWPT : List Field :=
  fieldsWPT0 ++ fieldsWPT1

/-- Fields of the ZNE block, part 0. -/
def fieldsZNE0 : List Field :=
  [ZNE_STATUS_RECOMP,
   ZNE_STATUS_SAT,
   ZNE_CTRL_CLR_CNT,
   ZNE_ACTIVE,
   ZNE_CTX_USED,
   ZNE_ACC_USED,
   ZNE_SPILL_CNT,
   ZNE_RELOAD_CNT,
   ZNE_NOSTRIPE_CNT,
   ZNE_FN,
   ZNE_RFREE]

/-- Every field of the ZNE block. -/
def fieldsZNE : List Field :=
  fieldsZNE0

/-- Fields of the WCU block, part 0. -/
def fieldsWCU0 : List Field :=
  [WCU_CTRL_CLR_CNT,
   WCU_CTRL_FORCE_WT,
   WCU_STATUS_WT,
   WCU_STATUS_WT_CAUSE,
   WCU_STATUS_PRESSURE,
   WCU_STATUS_SINGLE,
   WCU_STATUS_FLASH_BLOCKED,
   WCU_STATUS_SAT,
   WCU_DIRTY_CFG_CEIL,
   WCU_DIRTY_CFG_CEIL_MAX,
   WCU_LIMIT_CFG_PWR,
   WCU_LIMIT_CFG_T_OH,
   WCU_LIMIT_L,
   WCU_LIMIT_L_ENERGY,
   WCU_LIMIT_IN_EU,
   WCU_LIMIT_IN_N_H,
   WCU_DIRTY_NOW,
   WCU_SINGLE_NOW,
   WCU_READ_HIT,
   WCU_WT_ENTRY,
   WCU_MIRROR_FIX,
   WCU_LOST_CNT,
   WCU_JOURNAL_PG]

/-- Every field of the WCU block. -/
def fieldsWCU : List Field :=
  fieldsWCU0

/-- Fields of the BPL block, part 0. -/
def fieldsBPL0 : List Field :=
  [BPL_CTRL_CLR_CNT,
   BPL_STATUS_REBUILDING,
   BPL_STATUS_BROKEN,
   BPL_STATUS_DFREE,
   BPL_STATUS_OWNER,
   BPL_STATUS_SAT,
   BPL_SIZE,
   BPL_FREE,
   BPL_IRES,
   BPL_SRES,
   BPL_DFREE_CNT,
   BPL_OWNER_CNT,
   BPL_BROKEN_CNT,
   BPL_ERR_IDX,
   BPL_ERR_INFO_MASTER,
   BPL_ERR_INFO_POOL,
   BPL_ERR_INFO_KIND,
   BPL_DESC_SEL_INDEX,
   BPL_DESC_SEL_POOL,
   BPL_DESC_DATA]

/-- Every field of the BPL block. -/
def fieldsBPL : List Field :=
  fieldsBPL0

/-- Fields of the FSQ block, part 0. -/
def fieldsFSQ0 : List Field :=
  [FSQ_CTRL_CLR_CNT,
   FSQ_STATUS_STATE,
   FSQ_STATUS_DIES,
   FSQ_STATUS_SPARES_LEFT,
   FSQ_STATUS_RATE,
   FSQ_STATUS_SAT,
   FSQ_EVT_DIE_FAIL,
   FSQ_EVT_CH_FAIL,
   FSQ_EVT_RATE_LOW,
   FSQ_EVT_FULL_TRAIN,
   FSQ_EVT_REFUSED,
   FSQ_EVT_PROG_FAIL,
   FSQ_EVT_ERASE_FAIL,
   FSQ_EVT_REBUILD_START,
   FSQ_EVT_REBUILD_DONE,
   FSQ_EVT_SPARE_OUT,
   FSQ_EVT_SAT,
   FSQ_TIMING_RATE_MAX,
   FSQ_TIMING_TIMEOUT_MS,
   FSQ_LAST_REFUSE_CODE,
   FSQ_LAST_REFUSE_DIE,
   FSQ_LAST_REFUSE_BLOCK,
   FSQ_LAST_REFUSE_WL,
   FSQ_REFUSE_CNT,
   FSQ_PFAIL_CNT,
   FSQ_EFAIL_CNT,
   FSQ_SUSP_CNT,
   FSQ_RETRAIN_CNT,
   FSQ_SLOT_DEFER_CNT,
   FSQ_DIE_STATE,
   FSQ_DIE_DUMP,
   FSQ_DIE_OP,
   FSQ_DIE_OPEN_BLKS,
   FSQ_DIE_RETIRED,
   FSQ_NPP_SEL_DIE,
   FSQ_NPP_SEL_BLOCK,
   FSQ_NPP_DATA_STATE,
   FSQ_NPP_DATA_NPP]

/-- Every field of the FSQ block. -/
def fieldsFSQ : List Field :=
  fieldsFSQ0

/-- Fields of the FSQB block, part 0. -/
def fieldsFSQB0 : List Field :=
  [FSQ_DQDLY,
   FSQ_OPC,
   FSQ_TRAIN_LOG]

/-- Every field of the FSQB block. -/
def fieldsFSQB : List Field :=
  fieldsFSQB0

/-- Fields of the DSC block, part 0. -/
def fieldsDSC0 : List Field :=
  [DSC_CTRL_CLR_CNT,
   DSC_CFG_IRES,
   DSC_CFG_REBUILD_PCT,
   DSC_CFG_DIE_FAIL_BLK,
   DSC_CFG_BUSY_RA,
   DSC_CFG_SPARE_DIES,
   DSC_SUSP_CFG_CLASS_MASK,
   DSC_SUSP_CFG_MAX_P,
   DSC_SUSP_CFG_MAX_E,
   DSC_SUSP_CFG_READS,
   DSC_SUSP_CFG_MIN_RUN_P,
   DSC_SUSP_CFG_MIN_RUN_E,
   DSC_TRAIN_CFG_PERIOD,
   DSC_TRAIN_CFG_DTEMP,
   DSC_TRAIN_CFG_SLACK,
   DSC_TRAIN_CFG_MAX_DEFER,
   DSC_STATUS_DETOUR,
   DSC_STATUS_WR_BLOCKED,
   DSC_STATUS_REBUILD,
   DSC_STATUS_SLOT_CH,
   DSC_STATUS_SAT,
   DSC_STATUS_SPARE_PEND,
   DSC_REBUILD_CH,
   DSC_REBUILD_DIE,
   DSC_REBUILD_TARGET,
   DSC_REBUILD_PCT,
   DSC_DEGRADED_CNT,
   DSC_BUSY_RA_CNT,
   DSC_SUSP_DENY_CNT,
   DSC_TOK_SEL_CH,
   DSC_TOK_SEL_DIE,
   DSC_TOK_SEL_SLICE,
   DSC_TOK_DATA]

/-- Every field of the DSC block. -/
def fieldsDSC : List Field :=
  fieldsDSC0

/-- Fields of the SDF block, part 0. -/
def fieldsSDF0 : List Field :=
  [SDF_CTRL_CLR_CNT,
   SDF_CTRL_CLASS_CLR,
   SDF_STATUS_DUAL,
   SDF_STATUS_SAT,
   SDF_EVT_MARK_MISS,
   SDF_EVT_FALLBACK,
   SDF_EVT_BURST_LOST,
   SDF_EVT_SAMPLE_OFF,
   SDF_EVT_CLAMP,
   SDF_EVT_SAT,
   SDF_FRAME_CFG_MARK_TOL,
   SDF_FRAME_CFG_FORCE_DUAL,
   SDF_LOOP_CFG_KEPS,
   SDF_LOOP_CFG_KO,
   SDF_LOOP_CFG_KG,
   SDF_LOOP_CFG_KA,
   SDF_LOOP_CFG_ACQ,
   SDF_LOOP_CFG_FREEZE_RUN,
   SDF_DET_CFG_ALPHA,
   SDF_DET_CFG_EQ_SHIFT,
   SDF_DET_CFG_LLR_SCALE,
   SDF_DET_CFG_BETA,
   SDF_DET_CFG_W,
   SDF_DET_CFG_RES_Q,
   SDF_DET_CFG_RES_T,
   SDF_DET_CFG_RES_S,
   SDF_SAMPLE_OFF,
   SDF_BURST_CNT,
   SDF_FALSE_MARK,
   SDF_MARK_MISS,
   SDF_FALLBACK,
   SDF_BURST_LOST,
   SDF_FROZEN,
   SDF_CLAMP_CNT,
   SDF_CLASS_SEL_DIE,
   SDF_CLASS_SEL_MODE,
   SDF_CLASS_SEL_WLG,
   SDF_CLASS_SEL_AGE,
   SDF_CLASS_D0_O,
   SDF_CLASS_D0_N]

/-- Fields of the SDF block, part 1. -/
def fieldsSDF1 : List Field :=
  [SDF_CLASS_D1_G,
   SDF_CLASS_D1_A,
   SDF_CLASS_D1_G_REF,
   SDF_BADCOL_SEL_DIE,
   SDF_BADCOL_SEL_PLANE,
   SDF_BADCOL_SEL_INDEX,
   SDF_BADCOL_DATA_FIRST,
   SDF_BADCOL_DATA_LEN1,
   SDF_BADCOL_DATA_V]

/-- Every field of the SDF block. -/
def fieldsSDF : List Field :=
  fieldsSDF0 ++ fieldsSDF1

/-- Fields of the LDC block, part 0. -/
def fieldsLDC0 : List Field :=
  [LDC_CTRL_CLR_CNT,
   LDC_CTRL_ST_NOW,
   LDC_STATUS_ACTIVE,
   LDC_STATUS_SPARES,
   LDC_STATUS_ST_BUSY,
   LDC_STATUS_ST_PEND,
   LDC_STATUS_SAT,
   LDC_CFG_HARD_LLR,
   LDC_CFG_HARD_ITER,
   LDC_CFG_SOFT_ITER,
   LDC_CFG_ST_PERIOD,
   LDC_LADDER_CFG_B0,
   LDC_LADDER_CFG_B1,
   LDC_LADDER_CFG_B2,
   LDC_LADDER_CFG_SEQ_MIN,
   LDC_LADDER_CFG_SEQ_START,
   LDC_LADDER_CFG2_B3,
   LDC_LADDER_CFG2_B4,
   LDC_STEP_CNT,
   LDC_UNREC_CNT,
   LDC_BUDGET_EXP_CNT,
   LDC_REALLOC_CNT,
   LDC_REALLOC_DROP,
   LDC_ST_RUNS,
   LDC_ST_FAIL,
   LDC_CHECK_FAIL,
   LDC_REALLOC_LAST_CH,
   LDC_REALLOC_LAST_DIE,
   LDC_REALLOC_LAST_BLOCK,
   LDC_INST_STATE,
   LDC_INST_CAUSE]

/-- Every field of the LDC block. -/
def fieldsLDC : List Field :=
  fieldsLDC0

/-- Fields of the XLT block, part 0. -/
def fieldsXLT0 : List Field :=
  [XLT_CTRL_CLR_CNT,
   XLT_CTRL_CKPT_NOW,
   XLT_CTRL_RELOC_OLDEST,
   XLT_CFG_MAP_GIB,
   XLT_CFG_FREE_LOW,
   XLT_CFG_FREE_HIGH,
   XLT_STATUS_RO_CONV,
   XLT_STATUS_CKPT_BUSY,
   XLT_STATUS_RESTART,
   XLT_STATUS_REBUILD,
   XLT_STATUS_STALL,
   XLT_STATUS_RELOC,
   XLT_STATUS_SAT,
   XLT_EVT_CKPT_LATE,
   XLT_EVT_LOST,
   XLT_EVT_MAP_REBUILD,
   XLT_EVT_ZONE_RO,
   XLT_EVT_CONV_RO,
   XLT_EVT_PINNED,
   XLT_EVT_WEAR,
   XLT_EVT_SAT,
   XLT_WARN_CBITS,
   XLT_WARN_DRIFT,
   XLT_CKPT_NUM_LO,
   XLT_CKPT_NUM_HI,
   XLT_SINCE_CKPT,
   XLT_SETS_FREE,
   XLT_POOL,
   XLT_HEADROOM,
   XLT_RESTART_MS,
   XLT_RELOC_LBA_CNT,
   XLT_CKPT_CNT,
   XLT_RETIRE_CNT,
   XLT_MOVE_CNT,
   XLT_LOST_LBA_CNT,
   XLT_SPARE_LEFT,
   XLT_SPARE_FIRST]

/-- Every field of the XLT block. -/
def fieldsXLT : List Field :=
  fieldsXLT0

/-- Fields of the HUC block, part 0. -/
def fieldsHUC0 : List Field :=
  [HUC_CTRL_CLR_CNT,
   HUC_CTRL_LEARN_NOW,
   HUC_CTRL_Z_NOW,
   HUC_CTRL_REST_NOW,
   HUC_CTRL_CHG_DIS,
   HUC_STATUS_GSTATE,
   HUC_STATUS_READY,
   HUC_STATUS_PRESENT,
   HUC_STATUS_CHARGE,
   HUC_STATUS_CHG_BLOCK,
   HUC_STATUS_DISAGREE,
   HUC_STATUS_NO_REST,
   HUC_STATUS_INPUT_VALID,
   HUC_STATUS_DUMP_PEND,
   HUC_STATUS_ARMED,
   HUC_STATUS_SAT,
   HUC_SUPPLY_CFG_VALID_DV,
   HUC_SUPPLY_CFG_VALID_MS,
   HUC_SUPPLY_CFG_RET_WAIT_S,
   HUC_CHG_CFG_I_MA,
   HUC_CHG_CFG_LEARN_DAYS,
   HUC_CHG_CFG_LEARN_W,
   HUC_GAUGE_CFG_U0_PCT,
   HUC_GAUGE_CFG_U_STEP,
   HUC_GAUGE_CFG_U_RATE,
   HUC_GAUGE_CFG_REST_MAX_H,
   HUC_DUMP_N_H,
   HUC_DUMP_RECORD_SLOT,
   HUC_DUMP_LAST_FLAGS,
   HUC_DUMP_LAST_MS,
   HUC_ENERGY_E_U,
   HUC_ENERGY_E_PESS,
   HUC_EST_E_CTR,
   HUC_EST_E_V,
   HUC_CAP_C,
   HUC_CAP_E_RES,
   HUC_UNC_U,
   HUC_UNC_HOURS,
   HUC_PACK_V_MV,
   HUC_PACK_V_TEMP]

/-- Fields of the HUC block, part 1. -/
def fieldsHUC1 : List Field :=
  [HUC_PACK_I_MA,
   HUC_PACK_Z,
   HUC_RET_PROG,
   HUC_DETOUR_CNT,
   HUC_SUPERSEDE_CNT,
   HUC_ABANDON_CNT,
   HUC_RETURN_CNT,
   HUC_UNIT_LOST_CNT,
   HUC_DISAGREE_CNT,
   HUC_FORCED_REST_CNT,
   HUC_LEARN_OK_CNT,
   HUC_LEARN_DQ_CNT,
   HUC_DDIE]

/-- Every field of the HUC block. -/
def fieldsHUC : List Field :=
  fieldsHUC0 ++ fieldsHUC1

/-- Fields of the PSQ block, part 0. -/
def fieldsPSQ0 : List Field :=
  [PSQ_CTRL_CLR_CNT,
   PSQ_CTRL_OFF,
   PSQ_CTRL_RSTO_PULSE,
   PSQ_STATUS_STEP,
   PSQ_STATUS_OFF_PEND,
   PSQ_STATUS_HUB_ARMED,
   PSQ_STATUS_RETRIES,
   PSQ_STATUS_SAT,
   PSQ_SEQ_CFG_PG_MS,
   PSQ_SEQ_CFG_SETTLE,
   PSQ_SEQ_CFG_DISCH_MS,
   PSQ_SEQ_CFG_RETRY,
   PSQ_RSTO_CFG_STRETCH0,
   PSQ_RSTO_CFG_STRETCH1,
   PSQ_LAST_OFF_CAUSE,
   PSQ_LAST_OFF_RAIL,
   PSQ_LAST_OFF_DIR,
   PSQ_LAST_OFF_STEP,
   PSQ_RAIL_STAT_ARMED,
   PSQ_RAIL_STAT_INWIN,
   PSQ_FAULT_CNT,
   PSQ_SEQFAIL_CNT,
   PSQ_WIN_UV,
   PSQ_WIN_OV,
   PSQ_WIN_FILT,
   PSQ_VMON,
   PSQ_OOW_CNT]

/-- Every field of the PSQ block. -/
def fieldsPSQ : List Field :=
  fieldsPSQ0

/-- Fields of the DRG block, part 0. -/
def fieldsDRG0 : List Field :=
  [DRG_CFG_EN,
   DRG_CFG_THRESH,
   DRG_CFG_LONG_US,
   DRG_STATUS_ACTIVE,
   DRG_STATUS_SENSOR,
   DRG_STATUS_SAT,
   DRG_CTRL_CLR_CNT,
   DRG_ENGAGE_CNT,
   DRG_SKIP_US,
   DRG_LONG_CNT,
   DRG_MIN_MV,
   DRG_SENSE]

/-- Every field of the DRG block. -/
def fieldsDRG : List Field :=
  fieldsDRG0

/-- Fields of the PSC block, part 0. -/
def fieldsPSC0 : List Field :=
  [PSC_CTRL_HOLD_REQ,
   PSC_CTRL_REST_EN,
   PSC_CTRL_WATCH_EN,
   PSC_CTRL_THERM_ACK,
   PSC_CTRL_CLR_CNT,
   PSC_CTRL_MODE_TARGET,
   PSC_STATUS_TRANS,
   PSC_STATUS_HOLD_NOCFG,
   PSC_STATUS_HOLD_THERM,
   PSC_STATUS_HOLD_HOST,
   PSC_STATUS_PS,
   PSC_STATUS_SKIP,
   PSC_STATUS_SAT,
   PSC_REST_CFG_IDLE_MS,
   PSC_REST_CFG_CW_DROP,
   PSC_REST_CFG_REL_MS,
   PSC_WATCH_CFG_PERIOD,
   PSC_WATCH_CFG_VLOW,
   PSC_WATCH_CFG_THI,
   PSC_WAKE_CAUSE_CAUSE,
   PSC_PAD_HELD,
   PSC_PAD_REL,
   PSC_EVT_REQ_REJ,
   PSC_EVT_WAKE_LATE,
   PSC_EVT_HOLD_ENTER,
   PSC_EVT_WATCH_FLAG,
   PSC_EVT_CAP_SKIP,
   PSC_EVT_SAT,
   PSC_PWR_NOW,
   PSC_REST_CNT,
   PSC_WAKE_CNT,
   PSC_REST_MS,
   PSC_WATCH_ROUNDS,
   PSC_CAP_SKIP_US,
   PSC_WATCH_REC_0_TMIN,
   PSC_WATCH_REC_0_TMAX,
   PSC_WATCH_REC_0_LASTV,
   PSC_WATCH_REC_1_HOT_ROUNDS]

/-- Every field of the PSC block. -/
def fieldsPSC : List Field :=
  fieldsPSC0

/-- Fields of the CRU block, part 0. -/
def fieldsCRU0 : List Field :=
  [CRU_PLL_STAT,
   CRU_CLK_STAT,
   CRU_RST_STAT,
   CRU_WAKE_US]

/-- Every field of the CRU block. -/
def fieldsCRU : List Field :=
  fieldsCRU0

/-- Fields of the DMC block, part 0. -/
def fieldsDMC0 : List Field :=
  [DMC_CTRL_CLR_CNT,
   DMC_CTRL_RATE_MAX,
   DMC_CTRL_ECC_T,
   DMC_CTRL_REPLAY_WIN,
   DMC_CTRL_UE_LOSS,
   DMC_STATUS_SCRUB_BUSY,
   DMC_STATUS_SCRUB_DONE,
   DMC_STATUS_SAT,
   DMC_SCHED_CFG_WR_HIGH,
   DMC_SCHED_CFG_WR_LOW,
   DMC_SCHED_CFG_WR_AGE,
   DMC_RH_CFG_TH,
   DMC_SCRUB_CFG_CAP,
   DMC_SCRUB_CFG_PATROL_H,
   DMC_SCRUB_CMD_CH,
   DMC_SCRUB_CMD_GO,
   DMC_SCRUB_START_LO,
   DMC_SCRUB_START_HI,
   DMC_SCRUB_LEN,
   DMC_SCRUB_SUM,
   DMC_CH_STAT_RATE,
   DMC_CH_STAT_POP,
   DMC_CH_STAT_LOST,
   DMC_CH_STAT_SREF,
   DMC_CH_STAT_REPAIR,
   DMC_CH_STAT_MR4,
   DMC_CH_STAT_FENCED,
   DMC_EVT_UE,
   DMC_EVT_REPLAY,
   DMC_EVT_RETRAIN,
   DMC_EVT_REPAIRED,
   DMC_EVT_FENCE,
   DMC_EVT_LOST,
   DMC_EVT_SAT,
   DMC_CE_CNT,
   DMC_UE_CNT,
   DMC_REPLAY_CNT,
   DMC_RFM_CNT,
   DMC_PPR_CNT,
   DMC_LAST_ERR]

/-- Fields of the DMC block, part 1. -/
def fieldsDMC1 : List Field :=
  [DMC_CAND_ROW,
   DMC_CAND_SUB,
   DMC_CAND_BANK,
   DMC_CAND_BG,
   DMC_CAND_RANK,
   DMC_FENCE_ROW,
   DMC_FENCE_SUB,
   DMC_FENCE_BANK,
   DMC_FENCE_BG,
   DMC_FENCE_RANK]

/-- Every field of the DMC block. -/
def fieldsDMC : List Field :=
  fieldsDMC0 ++ fieldsDMC1

/-- Fields of the MPU block, part 0. -/
def fieldsMPU0 : List Field :=
  [MPU_CTRL_CLR_CNT,
   MPU_STATUS_SCRUB_BUSY,
   MPU_STATUS_SCRUB_Q,
   MPU_STATUS_SCRUB_DONE,
   MPU_STATUS_REJ,
   MPU_STATUS_SREP_BAD,
   MPU_STATUS_SAT,
   MPU_CFG_CE_TH,
   MPU_MACROS,
   MPU_SCRUB_CMD_FIRST,
   MPU_SCRUB_CMD_LAST,
   MPU_SCRUB_CMD_GO,
   MPU_SCRUB_SUM,
   MPU_CE_CNT,
   MPU_UE_CNT,
   MPU_TRAP_CNT,
   MPU_HALT_CNT,
   MPU_ERR_ADDR_WORD,
   MPU_ERR_ADDR_MACRO,
   MPU_ERR_INFO_MASTER,
   MPU_ERR_INFO_TYPE,
   MPU_ERR_INFO_VALID,
   MPU_PROPOSE_ROW,
   MPU_PROPOSE_MACRO,
   MPU_DMA_HALTED,
   MPU_DMA_REARM_MASTER,
   MPU_SREP_ROW,
   MPU_SREP_V]

/-- Every field of the MPU block. -/
def fieldsMPU : List Field :=
  fieldsMPU0

/-- Fields of the CWP block, part 0. -/
def fieldsCWP0 : List Field :=
  [CWP_PCFG_EN,
   CWP_PCFG_RATE,
   CWP_PCFG_WAKE_EN,
   CWP_PCFG_ERR_TH,
   CWP_PSTAT_STATE,
   CWP_PSTAT_RATE_IN,
   CWP_PSTAT_NBR_ID,
   CWP_PSTAT_NBR_PORT,
   CWP_PSTAT_SAT,
   CWP_NAK_CNT,
   CWP_STOMP_CNT,
   CWP_DROP_CNT,
   CWP_TX_FRAMES,
   CWP_RX_FRAMES]

/-- Every field of the CWP block. -/
def fieldsCWP : List Field :=
  fieldsCWP0

/-- Fields of the JNR block, part 0. -/
def fieldsJNR0 : List Field :=
  [JNR_CFG_NODE_ID,
   JNR_CFG_DOMAIN,
   JNR_CFG_MGMT_EN,
   JNR_CTRL_CLR_CNT,
   JNR_CTRL_WAKE_TX,
   JNR_STATUS_JOINED,
   JNR_STATUS_NODES,
   JNR_STATUS_RECOMP,
   JNR_STATUS_DUP_ID,
   JNR_STATUS_FULL,
   JNR_STATUS_SAT,
   JNR_TIMING_HELLO,
   JNR_TIMING_DEAD,
   JNR_TIMING_E2E,
   JNR_TIMING_HOP_MAX,
   JNR_FWD_FRAMES,
   JNR_NOPATH,
   JNR_HOP_DROP,
   JNR_E2E_TMO,
   JNR_DUP_HIT,
   JNR_DUP_EVICT,
   JNR_TAGS_USED,
   JNR_NSLICE_NODE,
   JNR_NSLICE_SLICE,
   JNR_NSLICE_V,
   JNR_PATH_NODE,
   JNR_PATH_PORT,
   JNR_PATH_HOPS,
   JNR_PATH_V,
   JNR_BIND_0_LNSID,
   JNR_BIND_0_KIND,
   JNR_BIND_0_OOS,
   JNR_BIND_0_V,
   JNR_BIND_1_NODE,
   JNR_BIND_1_RNSID]

/-- Every field of the JNR block. -/
def fieldsJNR : List Field :=
  fieldsJNR0

/-- Fields of the FCL block, part 0. -/
def fieldsFCL0 : List Field :=
  [FCL_STATUS_VALID,
   FCL_STATUS_OVF,
   FCL_STATUS_MERGED,
   FCL_STATUS_SAFE,
   FCL_STATUS_FAULT_DUMP,
   FCL_STATUS_SAT,
   FCL_FIRST_ADDR_LO,
   FCL_FIRST_ADDR_HI,
   FCL_FIRST_INFO_MASTER,
   FCL_FIRST_INFO_TYPE,
   FCL_FIRST_INFO_CLASS,
   FCL_FIRST_INFO_WORST,
   FCL_FIRST_INFO_SPACE,
   FCL_FIRST_INFO_LOADED,
   FCL_FIRST_TS_LO,
   FCL_FIRST_TS_HI,
   FCL_CTRL_CLR_CNT,
   FCL_CTRL_RESTART_EN,
   FCL_CE_CNT,
   FCL_UE_CNT,
   FCL_FATAL_CNT,
   FCL_RESTART_CNT]

/-- Every field of the FCL block. -/
def fieldsFCL : List Field :=
  fieldsFCL0

/-- Fields of the MSM block, part 0. -/
def fieldsMSM0 : List Field :=
  [MSM_CTRL_CLR_CNT,
   MSM_CTRL_REPORT_CLR,
   MSM_STATUS_SAT,
   MSM_STATUS_REPORT,
   MSM_STATUS_NOSPARE,
   MSM_STATUS_WFAIL,
   MSM_LOG_HEAD_INDEX,
   MSM_LOG_HEAD_PASS,
   MSM_LOG_CUR_WORD,
   MSM_LOG_DATA,
   MSM_WIN_ADDR_LINE,
   MSM_WIN_DATA,
   MSM_SPARES,
   MSM_OP_HOURS,
   MSM_PWR_CYCLES,
   MSM_RETIRE_CNT,
   MSM_PULSE2_CNT,
   MSM_LOG_DROP]

/-- Every field of the MSM block. -/
def fieldsMSM : List Field :=
  fieldsMSM0

/-- Fields of the THM block, part 0. -/
def fieldsTHM0 : List Field :=
  [THM_CTRL_CLR_CNT,
   THM_STATUS_STEP,
   THM_STATUS_WR_FORBID,
   THM_STATUS_CHG_FORBID,
   THM_STATUS_NVALID,
   THM_STATUS_EXT_FAIL,
   THM_STATUS_ACK_REF,
   THM_STATUS_SAT,
   THM_CFG_STEP1_C,
   THM_CFG_STEP2_C,
   THM_CFG_COOL_S,
   THM_JMAX_READING,
   THM_JMAX_SENSOR,
   THM_FLASH_HI,
   THM_FLASH_LO,
   THM_STEP1_CNT,
   THM_STEP2_CNT,
   THM_WR_BLOCK_CNT,
   THM_SHUT_CNT,
   THM_SENSE_READING,
   THM_SENSE_VALID,
   THM_EXT_READING,
   THM_EXT_VALID,
   THM_EXT_CFG_ROLE]

/-- Every field of the THM block. -/
def fieldsTHM : List Field :=
  fieldsTHM0

/-- Fields of the EVR block, part 0. -/
def fieldsEVR0 : List Field :=
  [EVR_CTRL_IRQ,
   EVR_CTRL_QCLR,
   EVR_QCOUNT,
   EVR_PEND,
   EVR_LOG_EN,
   EVR_HOST_EN,
   EVR_IRQ_EN]

/-- Every field of the EVR block. -/
def fieldsEVR : List Field :=
  fieldsEVR0

/-- Fields of the FWS block, part 0. -/
def fieldsFWS0 : List Field :=
  [FWS_CTRL_CLR_CNT,
   FWS_STATUS_SLOT_RUN,
   FWS_STATUS_TRIAL,
   FWS_STATUS_FALLBACK,
   FWS_STATUS_PROG_BUSY,
   FWS_STATUS_SAT,
   FWS_CFG_CBIT_TH,
   FWS_CFG_PF_EN,
   FWS_CFG_BC_EN,
   FWS_WEAK_LINE_LINE,
   FWS_WEAK_LINE_CBITS,
   FWS_CB_CNT,
   FWS_UE_CNT,
   FWS_PF_HIT,
   FWS_BC_HIT,
   FWS_SEL_SEQ]

/-- Every field of the FWS block. -/
def fieldsFWS : List Field :=
  fieldsFWS0

/-- Fields of the FWC block, part 0. -/
def fieldsFWC0 : List Field :=
  [FWC_CTRL_CLR_CNT,
   FWC_STATUS_ACTIVE,
   FWC_STATUS_SPARE,
   FWC_STATUS_SUPV_RUN,
   FWC_STATUS_SAT,
   FWC_CFGREC_COPY,
   FWC_CFGREC_SRC,
   FWC_CFGREC_PEND,
   FWC_CFGREC_OVER,
   FWC_CFGREC_VER,
   FWC_CFGREC_LINES,
   FWC_CFG_SEQ_LO,
   FWC_CFG_SEQ_HI,
   FWC_TAKEOVER_CNT,
   FWC_CORE_STATE,
   FWC_CORE_SERVED]

/-- Every field of the FWC block. -/
def fieldsFWC : List Field :=
  fieldsFWC0

/-- Fields of the MGI block, part 0. -/
def fieldsMGI0 : List Field :=
  [MGI_CTRL_TCLR,
   MGI_STATUS_RUNNING,
   MGI_STATUS_TICKETS,
   MGI_STATUS_CHANGE,
   MGI_STATUS_BOOTROM,
   MGI_CFG_SMB_EN,
   MGI_CFG_I3C_EN,
   MGI_CFG_SMB_ADDR,
   MGI_TICKET_SEL,
   MGI_TICKET_DATA]

/-- Every field of the MGI block. -/
def fieldsMGI : List Field :=
  fieldsMGI0

/-- The block map (R27): every field of the control window, block by block. -/
def fieldBlocks : List (List Field) :=
  [fieldsGLB,
   fieldsQEN,
   fieldsSLM,
   fieldsTLG,
   fieldsWPT,
   fieldsZNE,
   fieldsWCU,
   fieldsBPL,
   fieldsFSQ,
   fieldsFSQB,
   fieldsDSC,
   fieldsSDF,
   fieldsLDC,
   fieldsXLT,
   fieldsHUC,
   fieldsPSQ,
   fieldsDRG,
   fieldsPSC,
   fieldsCRU,
   fieldsDMC,
   fieldsMPU,
   fieldsCWP,
   fieldsJNR,
   fieldsFCL,
   fieldsMSM,
   fieldsTHM,
   fieldsEVR,
   fieldsFWS,
   fieldsFWC,
   fieldsMGI]

end Sys2Proof.Machine
end

