-- ==== Sys2Proof/Machine/TypesHost.lean ====
section
/-!
DEFINITION. State of the host link, the queue engine, the namespaces, the slices and the tollgate
(chapters 02 and 03).
Assumption log: DEDUCED (73); DESIGN CHOICE (86).
-/

namespace Sys2Proof.Machine

/-- NVMe status names the chapters use in completions. -/
inductive NvmeStatus where
  | success | invalidOpcode | invalidField | commandSequenceError | invalidQueueIdentifier
  | invalidQueueSize | completionQueueInvalid | invalidQueueDeletion | invalidInterruptVector
  | invalidNamespaceOrFormat | invalidLogPage | abortLimitExceeded | asyncEventLimitExceeded
  | nsInsufficientCapacity | nsIdUnavailable | nsAlreadyAttached | nsNotAttached | dataTransferError
  | internalError | commandInterrupted | abortRequested | abortedSqDeletion | capacityExceeded
  | zoneBoundaryError | zoneIsFull | zoneIsReadOnly | zoneIsOffline | zoneInvalidWrite
  | tooManyActiveZones | tooManyOpenZones | invalidZoneStateTransition | lbaOutOfRange
  | unrecoveredReadError | nsWriteProtected | invalidFirmwareImage | invalidFirmwareSlot
  | internalPathError | namespaceNotReady
  | featureNotChangeable | overlappingRange | firmwareActivationProhibited | writeFault
  | firmwareActivationRequiresReset | accessDenied | invalidController | identifierInUse
  /-- a status a remote node returned that has no name here -/
  | other (code : Nat)
  deriving DecidableEq, Repr

/-- How far a fetched command has come (R41, R53 Abort). -/
inductive Stage where
  /-- fetched, and not yet passed to the write cache, zone engine or die scheduler -/
  | fetched
  /-- passed on -/
  | issued
  /-- complete internally; its completion entry is not yet written -/
  | done
  deriving DecidableEq, Repr

/-- How a memory request of the device carries a PASID (R30): in OHC-A in FLIT mode, in front of a TLP otherwise, or not at all. -/
inductive PasidTag where
  | none
  | ohcA (pasid : Nat)
  | tlp (pasid : Nat)
  deriving DecidableEq, Repr

/-- A command context (R41): the command, the tag of R70, the stamp of R77, and what its completion will
say (R46, R52). -/
structure Ctx where
  id : Nat
  port : Nat
  /-- 0 for the admin queue, else the slot 1 to 4,096 of R38 -/
  slot : Nat
  /-- slot of the completion queue its entry goes to; 0 for the admin queue -/
  cqSlot : Nat
  e : SqEntry
  slice : Nat
  gen : Nat
  cls : Nat
  fetchNs : Nat
  /-- none for Bulk and for admin commands -/
  deadline : Option Nat
  /-- read-around budget in force at fetch in µs, 0 for off; and RACE (R81, R82) -/
  raBudget : Nat
  raRace : Bool
  pasid : Option Nat
  stage : Stage
  status : NvmeStatus
  dw0 : Nat
  dw1 : Nat
  /-- codewords, chunks or packets of the command not yet finished -/
  remaining : Nat
  maxCbits : Nat
  warnCw : Nat
  step : Nat
  fromFlash : Bool
  fromCache : Bool
  raStarted : Bool
  peersWon : Bool
  heldForCq : Bool
  /-- a failed DMA transfer of it was run once more (R352) -/
  dmaRetried : Bool
  /-- a command of another node (R373): node, tag, opcode class of its waypoint key; its port is then 2 -/
  remote : Option (Nat × Nat × Nat)
  /-- the partner's response is awaited (R376); it failed (R377) -/
  replWait : Bool
  replFailed : Bool
  /-- its local data has committed while the partner's response is awaited -/
  localDone : Bool
  deriving DecidableEq, Repr

/-- A submission queue. -/
structure Sq where
  port : Nat
  qid : Nat
  cqSlot : Nat
  size : Nat
  head : Nat
  tail : Nat
  prio : Nat
  cls : Nat
  pasid : Option Nat
  slice : Nat
  /-- entries that the last queue read brought and that no turn has taken yet (R45) -/
  ahead : Nat
  deriving DecidableEq, Repr

/-- A completion queue. `fullSince`: since when it is full with completions waiting (R47). -/
structure Cq where
  port : Nat
  qid : Nat
  size : Nat
  head : Nat
  tail : Nat
  phase : Nat
  vector : Nat
  ien : Bool
  pasid : Option Nat
  fullSince : Option Nat
  stalled : Bool
  deriving DecidableEq, Repr

/-- An asynchronous event waiting for a request (R55): type, information and log page. -/
structure Aen where
  type : Nat
  info : Nat
  page : Nat
  deriving DecidableEq, Repr

/-- An entry of the Error Information log page. -/
structure ErrEntry where
  count : Nat
  slot : Nat
  cid : Nat
  status : NvmeStatus
  deriving DecidableEq, Repr

/-- A shutdown in progress on a port (R37). -/
inductive Shut where
  | none
  | normal (since : Nat)
  | abrupt
  deriving DecidableEq, Repr

/-- The register values of a port's features (Table 02.10). -/
structure Features where
  /-- Arbitration: burst, low, medium and high weights -/
  ab : Nat
  lpw : Nat
  mpw : Nat
  hpw : Nat
  /-- Power Management: power state and workload hint -/
  ps : Nat
  wh : Nat
  /-- Temperature Threshold: composite and sensors 1 to 8, over and under (R407) -/
  hiC : List Nat
  loC : List Nat
  /-- Interrupt Coalescing: threshold and time -/
  thr : Nat
  time : Nat
  /-- vectors with coalescing disabled (Interrupt Vector Configuration) -/
  cd : List Nat
  /-- Asynchronous Event Configuration word -/
  aec : Nat
  /-- C0h: EN and THRESH (R52) -/
  marginEn : Bool
  marginThresh : Nat
  /-- C1h: hint tags -/
  hintEn : Bool
  deriving DecidableEq, Repr

/-- What a port's configuration space holds that its host sets (Table 02.1), and what AER logs there. -/
structure CfgSpace where
  /-- PASID capability: PASID Enable (R31) -/
  pasidEnable : Bool
  /-- MSI-X capability: MSI-X Enable and Function Mask (R48) -/
  msixEnable : Bool
  msixFMask : Bool
  /-- Max payload size and Max read request size, as exponents over 128 bytes -/
  mps : Nat
  mrrs : Nat
  /-- ASPM L1; ASPM L1.1 and L1.2 of the L1 PM Substates capability -/
  aspmL1 : Bool
  l11 : Bool
  l12 : Bool
  /-- LTR mechanism enabled; 10-bit requester tags enabled -/
  ltr : Bool
  tag10 : Bool
  /-- AER: severities logged and not cleared, as a mask (0 correctable, 1 non-fatal, 2 fatal); the header of the first uncorrectable error -/
  aerStatus : Nat
  aerHeader : Option (List Nat)
  deriving DecidableEq, Repr

/-- One host port: its NVMe controller and its link (R29 to R37). Rate, width and link up stand in
`QEN.LINK_p`, CSTS.RDY in `QEN.STATUS`. -/
structure Port where
  perst : Bool
  cfg : CfgSpace
  /-- CC.EN, CC.AMS, and CC as last written -/
  ccEn : Bool
  ams : Nat
  cc : Nat
  /-- AQA, ASQ and ACQ: sizes of the admin queues less 1, and their host addresses -/
  aqa : Nat
  asqBase : Nat
  acqBase : Nat
  /-- CC.EN is set and the admin queue is usable; RDY waits for the mode -/
  adminOk : Bool
  cfs : Bool
  shst : Nat
  shut : Shut
  asq : Sq
  acq : Cq
  feat : Features
  /-- contexts of outstanding Asynchronous Event Requests, oldest first -/
  aers : List Nat
  aens : List Aen
  /-- event types masked until their log page is read -/
  aenMasked : List Nat
  errLog : List ErrEntry
  errCount : Nat
  changedNs : List Nat
  /-- Changed Zone List: namespace and zone -/
  changedZones : List (Nat × Nat)
  /-- Streams directive: namespaces it is enabled for, and open streams (NSID, stream) -/
  streamsEn : List Nat
  streams : List (Nat × Nat)
  /-- stream resources allocated to a namespace -/
  streamAlloc : NMap Nat
  /-- vectors with an aggregated interrupt not yet sent: vector, (entries, time of the first, PASID of its queue) -/
  coalesced : NMap (Nat × Nat × Option Nat)
  /-- MSI-X table (R48): message address and data by vector, the vectors whose mask bit is 0, and the pending bit array -/
  msixAddr : NMap Nat
  msixData : NMap Nat
  msixOpen : List Nat
  msixPba : List Nat
  /-- fetch: slice of the last turn; the queue of the turn in progress and what is left of it -/
  lastSlice : Nat
  turn : Option (Nat × Nat)
  /-- fetch: slot last served, by slice and priority class (4 times the slice plus QPRIO); and the weighted credits left (high, medium, low), by slice -/
  lastSlot : NMap Nat
  credits : NMap (Nat × Nat × Nat)
  deriving DecidableEq, Repr

/-- A namespace (R56). Attachment is one bit a port. -/
structure Namespace where
  zoned : Bool
  nsze : Nat
  attach0 : Bool
  attach1 : Bool
  /-- conventional namespaces turned read-only (R246) -/
  writeProtect : Bool
  /-- New commands are refused: a deletion runs, by this context (R57) -/
  deleting : Option Nat
  deriving DecidableEq, Repr

/-- A late-fault record (Table 03.5). -/
structure LateRec where
  slot : Nat
  cid : Nat
  slice : Nat
  opcode : Nat
  flags : Nat
  step : Nat
  gen : Nat
  nsid : Nat
  slba : Nat
  fetchNs : Nat
  lateNs : Nat
  deriving DecidableEq, Repr

/-- A slice reset in progress (Table 03.2): the generation it withdraws and the one it gives, the time spent in RUN before the device last
left it and since when RUN counts now (Table 01.8), and the budget words in force till step 5 where they were written meanwhile (R75). -/
structure SliceReset where
  oldGen : Nat
  newGen : Nat
  ranNs : Nat
  since : Option Nat
  budget : NMap Nat
  deriving DecidableEq, Repr

end Sys2Proof.Machine
end

