-- ==== Sys2Proof/Machine/TypesZone.lean ====
section
/-!
DEFINITION. State of the zone engine, the waypoint table, the write cache and the buffer pool
(chapters 04 and 05).
Assumption log: DEDUCED (7, 26, 29); DESIGN CHOICE (75).
-/

namespace Sys2Proof.Machine

/-- Zone states of the zoned command set (R94). -/
inductive ZState where
  | empty | implicitOpen | explicitOpen | closed | full | readOnly | offline
  deriving DecidableEq, Repr

/-- Media modes of a route (Table 04.6). -/
inductive Media where
  | qlc | tlc | slc
  deriving DecidableEq, Repr

/-- One of the 16 member slots of a stripe (R88): channel, die, the multi-plane block (the same number in
each plane), the wordlines issued and verified so far, whether the member was moved (R243), and, while it is
rebuilt into another block (R176, R177), how many of its wordlines are. -/
structure Member where
  ch : Nat
  die : Nat
  block : Nat
  issued : Nat
  verified : Nat
  moved : Bool
  rebuilt : Option Nat
  /-- place its uncopied wordlines are read from while it is moved (R243) -/
  old : Option (Nat × Nat × Nat)
  deriving DecidableEq, Repr

/-- A zone that is not Empty, or that holds a lost mark (Table 04.4). -/
structure Zone where
  nsid : Nat
  z : Nat
  state : ZState
  /-- write and admission pointers as LBA offsets in the zone -/
  wp : Nat
  ap : Nat
  zcap : Nat
  /-- write context held, 0 to 3,071 -/
  ctx : Option Nat
  slice : Nat
  gen : Nat
  route : Nat
  prio : Nat
  fn : Nat
  media : Media
  /-- stripe form: two parity groups (7+1) -/
  split : Bool
  rowFlush : Bool
  members : List Member
  /-- finished early: programs up to the end of the row of this LBA offset are filler (R98) -/
  fillFrom : Option Nat
  lastProg : Nat
  /-- lost LBAs, as first and last (R123, R483) -/
  lost : List (Nat × Nat)
  deriving DecidableEq, Repr

/-- Partial parity of one group of one row (R102, R103): the row, the members XORed so far, the XOR at each
LBA position of the member wordline. -/
structure Parity where
  zkey : Nat
  group : Nat
  row : Nat
  count : Nat
  data : NMap Nat
  lastProg : Nat
  /-- LBAs of each owner of the data, by slice, 256 for the internal reserve: they share the charge of the parity program (R68) -/
  parts : NMap Nat
  deriving DecidableEq, Repr

/-- What a command or internal request does at the zone engine. -/
inductive AdmKind where
  | write | append | zeroes | open | close | finish | reset | offline | copy | repl
  deriving DecidableEq, Repr

/-- Where an admitted or waiting command stands. -/
inductive AdmStage where
  /-- not yet admitted: an earlier zone command, a context or erased blocks are awaited -/
  | waiting
  /-- admitted; buffers or dirty share awaited (R66, R139) -/
  | buffers
  /-- its data is on the way to the mirror copies -/
  | moving
  /-- all its data is in both copies -/
  | held
  /-- committed under write-through; program verify awaited (R136) -/
  | verify
  deriving DecidableEq, Repr

/-- What an admitted write that has no buffers yet waits for: its slice's dirty share (R66), DRAM buffers (R139), or leave to go on
(R130, R234). -/
inductive AdmWait where
  | nothing | share | buffers | leave
  deriving DecidableEq, Repr

/-- A command at the zone engine or the write cache, in order of arrival (R95 to R98).  `ctx` is the command
context, or none for a peer copy or replicated write, which `token` names. -/
structure Adm where
  id : Nat
  ctx : Option Nat
  nsid : Nat
  kind : AdmKind
  lba : Nat
  len : Nat
  slice : Nat
  gen : Nat
  hint : Nat
  /-- opcode class of its waypoint key (Table 04.5) -/
  opc : Nat
  data : List Nat
  /-- the search made for it: route and ROW_FLUSH -/
  found : Option (Nat × Bool)
  stage : AdmStage
  why : AdmWait
  pairs : List Nat
  deriving DecidableEq, Repr

/-- A waypoint entry or its shadow copy (R108, R110): key, care mask, result word, valid. -/
structure WptEntry where
  key : Nat
  mask : Nat
  res : Nat
  valid : Bool
  deriving DecidableEq, Repr

/-- The zone engine. Zones that are Empty are not listed. -/
structure ZoneState where
  zones : NMap Zone
  adm : List Adm
  nextAdm : Nat
  /-- write contexts in use: index to zone -/
  ctxs : NMap Nat
  accs : NMap Parity
  slots : NMap Parity
  /-- groups of zones whose partial parity is being rebuilt: zone key and group (R105) -/
  recompPending : List (Nat × Nat)
  /-- zones that go Read Only once their admitted commands have settled (R245) -/
  roPending : List Nat
  deriving DecidableEq, Repr

/-- The waypoint table: rows, shadow copies, entries whose shadow holds an uncorrectable error, the scrub
position, and the command running (operation, index). -/
structure WptState where
  rows : NMap WptEntry
  shadows : NMap WptEntry
  shadowBad : List Nat
  /-- rows that a soft error keeps from matching until the scrub rewrites them (R111) -/
  hidden : List Nat
  scrubAt : Nat
  busy : Option (Nat × Nat)
  /-- the entry an INSERT writes at its end -/
  staged : Option WptEntry
  /-- when BUSY ends -/
  busyUntil : Nat
  deriving DecidableEq, Repr

/-- A buffer pair of the write cache (R121): where its copies are, whose data it holds and how far it is.
A copy that is lost has no buffer. -/
structure Pair where
  nsid : Nat
  conv : Bool
  /-- the number a map entry names it by (Table 08.1) -/
  num : Nat
  slice : Nat
  gen : Nat
  adm : Nat
  /-- DRAM channel and buffer index of copy A and of copy B -/
  a : Option (Nat × Nat)
  b : Option (Nat × Nat)
  /-- LBA to data -/
  data : NMap Nat
  held : Bool
  committed : Bool
  /-- dirty: acknowledged, neither programmed in place nor journaled; else journaled when committed -/
  dirty : Bool
  seq : Nat
  pins : Nat
  /-- released when the pins are gone (R144) -/
  releaseHeld : Bool
  /-- LBAs of it verified in place -/
  done : List Nat
  /-- LBAs of it issued to a die -/
  issued : List Nat
  /-- LBAs found uncorrectable in both copies -/
  lost : List Nat
  /-- LBAs of it held by a verified journal record -/
  journaled : List Nat
  /-- a copy found uncorrectable while the other is read (R122): true for copy B -/
  badCopy : Option Bool
  /-- commit time of the write it belongs to, which orders its flush -/
  time : Nat
  internal : Bool
  /-- frontier of conventional data (R116) -/
  route : Nat
  deriving DecidableEq, Repr

/-- A journal record on its way to flash or on it (R136, R259): journal sequence, dump die, block and wordline, the LBAs it
holds, the pairs they are in, their commit sequence. -/
structure JRec where
  jseq : Nat
  dkey : Nat
  block : Nat
  nsid : Nat
  conv : Bool
  slice : Nat
  lbas : List Nat
  pairs : List Nat
  seq : Nat
  data : NMap Nat
  verified : Bool
  deriving DecidableEq, Repr

/-- The write cache (chapter 05). -/
structure CacheState where
  pairs : NMap Pair
  nextPair : Nat
  nextCh : Nat
  /-- commit order, for flush age and pair sequence -/
  commitSeq : Nat
  /-- L has been computed at the end of BOOT (R132) -/
  started : Bool
  /-- a higher L that waits for 1 s: value and since when (R132) -/
  raise : Option (Nat × Nat)
  /-- since when L is at least 2 GiB, for leaving LOW_LIMIT -/
  okSince : Option Nat
  packReady : Bool
  journal : List JRec
  /-- a flush to empty runs: by a shutdown of port 0, of port 1, an off request, HOLD entry (R484) -/
  flushBy : List Nat
  /-- data acknowledged before write-through entry goes first (R137) -/
  firstBefore : Nat
  deriving DecidableEq, Repr

/-- A buffer descriptor (Table 05.3). -/
structure BufDesc where
  shared : Bool
  refcnt : Nat
  owner : Nat
  slice : Nat
  internal : Bool
  unit : Nat
  /-- generation of the command that holds it; 0 for internal work and committed data (R70) -/
  gen : Nat
  deriving DecidableEq, Repr

/-- A waiting allocation (R139); writes that reached the zone engine under a lower number than `seq` came before it. -/
structure BufWait where
  pool : Nat
  owner : Nat
  unit : Nat
  slice : Nat
  internal : Bool
  gen : Nat
  seq : Nat
  deriving DecidableEq, Repr

/-- The buffer pool (R138 to R143): descriptors of allocated buffers (pool in the low bit of the key), the heads of the free lists
(0 SRAM, 1 to 4 DRAM channels), the link words in free buffers, lists stopped for a rebuild, waiters oldest first. -/
structure PoolState where
  desc : NMap BufDesc
  /-- index at the head of a list, 0xF_FFFF for none; a list not here has its first index at the head -/
  heads : NMap Nat
  /-- link words by descriptor key; a buffer not here links the next index of its list -/
  links : NMap Nat
  broken : List Nat
  waiters : List BufWait
  /-- DRAM channels live at BOOT, in whose order the pool's indices run, and the buffers of each (R119, R341) -/
  chans : List Nat
  per : Nat
  /-- buffers XLT has taken for the map segments of channels lost since (R238), and those channels -/
  taken : NMap Nat
  deriving DecidableEq, Repr

end Sys2Proof.Machine
end

