-- ==== Sys2Proof/Machine/TypesFlash.lean ====
section
/-!
DEFINITION. State of the flash sequencers, the die scheduler, the sample front ends, the LDPC cluster and
the translation layer (chapters 06, 07 and 08).
Assumption log: DEDUCED (35, 36, 37); DESIGN CHOICE (21, 75, 92).
-/

namespace Sys2Proof.Machine

/-- What a die operation does to the array (Table 06.2, Table 07.2). -/
inductive OpKind where
  | hardRead | sampleRead | program | erase | setting
  deriving DecidableEq, Repr

/-- Whose operation it is, and what its end means to its owner. -/
inductive OpFor where
  /-- reads for codewords of a ladder step -/
  | codewords
  /-- the data member `i` of row `row` of a zone: LBA offset of the member wordline -/
  | member (zkey row i : Nat)
  | parity (zkey row group : Nat)
  | filler (zkey row slot : Nat)
  | journal (record : Nat)
  | conv (tag row i : Nat)
  | convParity (tag row group : Nat)
  | rebuild (set : Bool) (key slot wl : Nat)
  | move (set : Bool) (key slot wl : Nat)
  /-- read of WL + 1 for the compensation of R212 -/
  | upper
  /-- a wordline of the checkpoint ring (R233): checkpoint number and ring unit; parity from 2 ^ 40 on -/
  | checkpoint (num unit : Nat)
  | eraseStripe
  | eraseSet (tag : Nat)
  | eraseDump (slot : Nat)
  | dump (idx : Nat)
  | raw
  | other
  deriving DecidableEq, Repr

/-- A die operation queue entry (R152). -/
structure DieOp where
  id : Nat
  kind : OpKind
  block : Nat
  wl : Nat
  plane : Nat
  page : Nat
  media : Media
  slice : Nat
  gen : Nat
  internal : Bool
  /-- where several own the data: LBAs of each, by slice, 256 for the internal reserve, among whom its busy time is shared (R68) -/
  parts : NMap Nat
  /-- ordering deadline of a read; commit or request time of a program or erase -/
  time : Nat
  cls : Nat
  prio : Nat
  /-- journal and single-copy flushes go first among programs (R163) -/
  first : Bool
  needsTokens : Bool
  rebuildRead : Bool
  peer : Bool
  cws : List Nat
  /-- the ladder step it belongs to (R219) -/
  step : Nat
  owner : OpFor
  /-- what a program writes, where no queue of another unit holds it: LBAs of a copied wordline by position -/
  data : NMap Nat
  /-- dual-mark framing is wanted for it (R193, R199) -/
  dual : Bool
  res : Nat
  /-- read-reference offsets of the block's class when it was queued (R208) -/
  refs : List Int
  deriving DecidableEq, Repr

/-- The operation a die runs: its start or last resume, its busy time so far without the suspended intervals,
how often it was suspended, and the read window while it is suspended. -/
structure Running where
  op : DieOp
  since : Nat
  busy : Nat
  suspends : Nat
  /-- none: array busy; some: suspended, with the reads the window has run -/
  window : Option Nat
  suspending : Bool
  deriving DecidableEq, Repr

/-- The state the FSQ keeps of a multi-plane block (R154). -/
inductive BlockSt where
  | erased | opened | full | retired
  deriving DecidableEq, Repr

/-- A multi-plane block whose state is not that of a block never used: its state, NPP, media mode, erase
count, whether it belongs to a stripe, set or system area, and a pending reallocation move. -/
structure Block where
  st : BlockSt
  npp : Nat
  media : Media
  pe : Nat
  owned : Bool
  /-- operating time of its first program since the last erase, in ms (the age bands of chapter 07) -/
  firstMs : Nat
  deriving DecidableEq, Repr

/-- One die: its queues (R152), operations held by units that found a queue full (R153), what it runs, its
blocks, spare blocks taken, operating hours of recent retirements (R174), and the features the FSQ has set: sample resolution and framing
(FA_SR, Table 07.2) and read references (R208). -/
structure Die where
  reads : List DieOp
  progs : List DieOp
  erases : List DieOp
  ints : List DieOp
  held : List DieOp
  run : Option Running
  winRead : Option (DieOp × Nat)
  blocks : NMap Block
  sparesUsed : Nat
  retiredAt : List Nat
  /-- FA_SR: RES, and FRAME dual-mark -/
  res : Nat
  dual : Bool
  /-- Sample Read commands accepted, modulo 32 (Table 07.4 SEQ) -/
  seq : Nat
  /-- the die whose registers are valid for Sample Out: the operation that filled them -/
  samples : Option DieOp
  /-- read-reference offsets last written: byte `i` of feature address `a` under 4 × a + i (R208) -/
  refs : NMap Nat
  deriving DecidableEq, Repr

/-- A request of the retraining slot arbiter (R179): channel, die named by a ladder step, the codeword that
waits, the ticket that waits, and since when it is deferred. -/
structure SlotReq where
  ch : Nat
  die : Option Nat
  cw : Option Nat
  ticket : Option Nat
  since : Nat
  deferredSince : Option Nat
  deriving DecidableEq, Repr

/-- A channel's training state. -/
structure Chan where
  lastSlot : Nat
  lastDie : Nat
  trainTemp : Option Int
  fullRunning : Bool
  /-- when the full retraining that runs was started -/
  fullSince : Nat
  /-- when it last had an operation queued -/
  queuedAt : Nat
  deriving DecidableEq, Repr

/-- A wordline being copied to a replacement block (R176, R243): zone (false) or set (true), its key, slot and wordline,
codewords not yet there, and whether peers give it. -/
structure WlCopy where
  set : Bool
  key : Nat
  slot : Nat
  wl : Nat
  left : Nat
  /-- codewords that are there, by position -/
  data : NMap Nat
  peers : Bool
  deriving DecidableEq, Repr

/-- Rebuild of a failed die or of one moved slot (R176, R177). -/
structure Rebuild where
  ch : Nat
  die : Nat
  target : Nat
  /-- zone key and slot, or set tag and slot; wordlines done of how many -/
  work : List (Bool × Nat × Nat)
  total : Nat
  deriving DecidableEq, Repr

/-- Flash sequencers and die scheduler. Die c, d has key 32 × c + d; a die's bucket of slice n has key
512 × (32 × c + d) + n, with 256 for the internal reserve and 257 for rebuild. -/
structure FlashState where
  dies : NMap Die
  tokens : NMap Int
  chans : NMap Chan
  nextOp : Nat
  slots : List SlotReq
  slotRun : Option SlotReq
  slotEnd : Nat
  rebuilds : List Rebuild
  /-- wordlines being copied -/
  copies : List WlCopy
  /-- LUN parameter data found at BOOT: dies present by channel -/
  present : NMap Nat
  /-- words of the delay tables and training results written or read since training, by byte address (chapter 06, part B) -/
  partB : NMap Nat
  /-- dies active at first BOOT (R91) -/
  firstActive : Nat
  /-- `DSC.CFG.IRES` as read at power-on (R162) -/
  ires : Nat
  /-- operations of internal units withdrawn when DETOUR began, by die key: issued again if it is superseded (R167) -/
  aside : List (Nat × DieOp)
  deriving DecidableEq, Repr

/-- Where a codeword's ladder stands. -/
inductive CwStage where
  /-- its die operation is queued -/
  | queued
  /-- its die operation runs or its samples are on the way -/
  | reading
  /-- at a decoder -/
  | decoding
  /-- waits for a retraining slot (step 3) -/
  | slot
  /-- only its reconstruction runs -/
  | peersOnly
  deriving DecidableEq, Repr

/-- What a codeword is read for. -/
inductive CwFor where
  | host (ctx lba : Nat)
  /-- peer `slot` of codeword `cw` (R169) -/
  | peer (cw slot : Nat)
  | rebuild (set : Bool) (key slot wl pos : Nat)
  | move (set : Bool) (key slot wl pos : Nat)
  | reloc (tag slot : Nat)
  | raw (token : Nat)
  | check
  deriving DecidableEq, Repr

/-- What a decoder gets of a codeword (R214): hard bits with the magnitude they enter with, or one ratio a bit from the detector. -/
inductive DecInput where
  | hard (word mag : Nat)
  | soft (llr : List Int)
  deriving DecidableEq, Repr

/-- A codeword on its recovery ladder (R219) with the reconstruction of it, if one runs. -/
structure Cw where
  id : Nat
  owner : CwFor
  slice : Nat
  gen : Nat
  cls : Nat
  internal : Bool
  dl : Nat
  ch : Nat
  die : Nat
  block : Nat
  wl : Nat
  plane : Nat
  page : Nat
  pos : Nat
  media : Media
  /-- zone key or set tag whose stripe it lies in; none for data without stripe parity -/
  stripe : Option (Bool × Nat)
  slot : Nat
  row : Nat
  step : Nat
  /-- the step its ladder began at -/
  began : Nat
  /-- when its step started (R219) -/
  stepAt : Nat
  stage : CwStage
  /-- at a decoder: what it gets, and the instance once one is free (R214) -/
  input : Option DecInput
  inst : Option Nat
  recon : Bool
  /-- the reconstruction races the direct read (R82) -/
  raced : Bool
  /-- the peers have won, and the die operation issued runs to its end unused -/
  raceLost : Bool
  withdrawn : Bool
  peersLeft : Nat
  peersXor : Nat
  peerFailed : Bool
  deriving DecidableEq, Repr

/-- A class record (R202). -/
structure ClassRec where
  o : Int
  g : Int
  a : Int
  gRef : Int
  n : Nat
  taps : List Rat
  deriving DecidableEq, Repr

/-- A Sample Out in progress on a channel (R191 to R195): the burst expected and its expected start in bytes from the first
data-out byte, the loop state carried from burst to burst and the learn count its record had, bursts that were not frozen,
bursts not framed, erased bursts, the samples of each framed burst, the burst that waits for its neighbour's cells, the last level decided
in each burst, the run of bad or end-bin cells and whether it has frozen the loops, for a wordline read to compensate the one below it
(R212) the differences of its decided means by burst, and the ratios by 9 × page + burst. -/
structure Readout where
  die : Nat
  op : DieOp
  dual : Bool
  /-- this is the dual-mark copy of R193 -/
  second : Bool
  /-- when its Sample Out was issued -/
  since : Nat
  burst : Nat
  start : Int
  loops : ClassRec
  learned : Nat
  acquired : Nat
  unfrozen : Nat
  unframed : List Nat
  erased : Nat
  cells : NMap (List Nat)
  /-- framed, not yet detected: the burst, and how many cells at its head are erased -/
  todo : Option (Nat × Nat)
  lastLevel : NMap Nat
  run : Nat
  good : Nat
  frozenRun : Bool
  levels : NMap (List Rat)
  llrs : NMap (List Int)
  deriving DecidableEq, Repr

/-- Sample front ends: class records by channel and class number, readouts by channel, readouts whose wordline is sensed again by die key
(R193), bad-column ranges by (channel, die, plane, index). -/
structure SampleState where
  classes : NMap (NMap ClassRec)
  readouts : NMap Readout
  again : NMap Readout
  badCols : NMap (Nat × Nat × Bool)
  /-- valid sample-readout descriptors (Table 07.1) by die key -/
  desc : NMap (List Nat)
  /-- squared equalizer errors of the last counted cells, by channel (R210) -/
  errs : NMap (List Rat)
  /-- decided means of WL + 1, kept for steps 2 and 3: plane wordline key to burst to cell differences (R212) -/
  upper : NMap (NMap (List Rat))
  deriving DecidableEq, Repr

/-- LDPC cluster: codewords on their ladders, those that wait for a decoder instance, oldest first, pending reallocation requests (channel, die, block), how many are
carried out, self-test in progress, tests waiting, order in which instances became active. -/
structure CodecState where
  cws : NMap Cw
  nextCw : Nat
  decodeQ : List Nat
  realloc : List (Nat × Nat × Nat)
  moving : List (Nat × Nat × Nat)
  selfTest : Option (Nat × Option Nat)
  testsWaiting : List (Option Nat)
  activeOrder : List Nat
  deriving DecidableEq, Repr

/-- A map entry (Table 08.1); Unmapped is not listed. -/
inductive MapEntry where
  | flash (tag slot : Nat)
  | cache (pair idx : Nat)
  | pending (seq : Nat)
  | lost
  deriving DecidableEq, Repr

/-- A key of a wordline footer (Table 08.2): slot, NSID, LBA, commit sequence; and, of relocated data, the set and slot
it came from. -/
structure FootKey where
  slot : Nat
  nsid : Nat
  lba : Nat
  seq : Nat
  reloc : Option (Nat × Nat)
  deriving DecidableEq, Repr

/-- A block set of conventional data (R227 to R231). -/
structure BlockSet where
  fn : Nat
  split : Bool
  route : Nat
  /-- the route's priority when the set was formed (R116) -/
  prio : Nat
  members : List Member
  nextRow : Nat
  closed : Bool
  unprotected : Bool
  valid : Nat
  firstProg : Nat
  keys : List FootKey
  /-- parity rows programmed -/
  parityRows : Nat
  /-- a reallocation retires this block when the set is empty (R244) -/
  retire : Option (Nat × Nat × Nat)
  deriving DecidableEq, Repr

/-- A deallocation or lost record (R232). -/
structure HeldRec where
  nsid : Nat
  lba : Nat
  len : Nat
  lost : Bool
  slice : Nat
  /-- the running checkpoint started after it (R232) -/
  covered : Bool
  deriving DecidableEq, Repr

/-- A wear record (Table 08.4) of a zone or set. -/
structure Wear where
  firstHour : Option Nat
  cbitsMax : Nat
  /-- corrected bits of the last 1,024 codewords, newest first -/
  cbits : List Nat
  stepMax : Nat
  driftMax : Nat
  reads : Nat
  recov : Nat
  warned : Bool
  deriving DecidableEq, Repr

/-- A map segment as a checkpoint holds it (R233, Table 08.1): the commit sequence when it was copied, its entries that are not Unmapped by their
place in the segment, and the unit of the ring it lies in. -/
structure SegCopy where
  sseg : Nat
  words : NMap Nat
  unit : Nat
  deriving DecidableEq, Repr

/-- What a committed checkpoint holds on flash (R233): the segments it copied, start positions by set tag, wear records (R248), and whether it
copied every segment. -/
structure Ckpt where
  num : Nat
  s0 : Nat
  full : Bool
  segs : NMap SegCopy
  starts : NMap Nat
  wearZones : NMap Wear
  wearSets : NMap Wear
  deriving DecidableEq, Repr

/-- A checkpoint that runs (R233): segments still to copy, those copied, the buffers that hold copies by ring unit, programs on their way,
and whether the directory is being written. -/
structure CkptRun where
  num : Nat
  s0 : Nat
  since : Nat
  full : Bool
  starts : NMap Nat
  todo : List Nat
  segs : NMap SegCopy
  bufs : NMap Nat
  writing : Nat
  directory : Bool
  first : Nat
  deriving DecidableEq, Repr

/-- The translation layer. -/
structure MapState where
  /-- NSID to LBA to entry -/
  map : NMap (NMap MapEntry)
  sets : NMap BlockSet
  /-- open set of each frontier -/
  open_ : NMap Nat
  seq : Nat
  recs : List HeldRec
  /-- granules of each conventional namespace, in order (R225) -/
  granules : NMap (List Nat)
  /-- segments changed since they were last copied (R233) -/
  changed : List Nat
  /-- segments lost with a DRAM channel and not yet rebuilt (R238) -/
  lostSegs : List Nat
  run : Option CkptRun
  /-- the last committed checkpoint, and those before it back to one that copied every segment, newest first -/
  last : Ckpt
  older : List Ckpt
  /-- the ring of 32 SLC block sets: the members of each (R233) -/
  ring : List (List Member)
  /-- next unit of the ring to be written, and units held by what is not freed -/
  ringNext : Nat
  ringUsed : Nat
  /-- LBAs committed since the start of the last and of the last committed checkpoint -/
  sinceStart : Nat
  sinceCommit : Nat
  /-- a late event was set since the last commit -/
  late : Bool
  victims : List Nat
  /-- relocated data that waits for a row, by frontier, and data of rows being programmed, by tag × 2^20 + slot -/
  reloc : NMap (List (FootKey × Nat))
  rowData : NMap Nat
  /-- XLT buffers of LBAs being relocated, by tag × 2^20 + slot (R239) -/
  relocBufs : NMap Nat
  /-- blocks retired without replacement from the pool -/
  retiredNoSpare : Nat
  wearZones : NMap Wear
  wearSets : NMap Wear
  restartSince : Option Nat
  /-- when the last checkpoint started, and since when none has committed (R233, R234) -/
  ckptAt : Nat
  commitAt : Nat
  /-- `XLT.CFG.MAP_GIB` as read at power-on, at most 8 (R225) -/
  gib : Nat
  /-- ticket of the running checkpoint, and of a request that waits for its end (Table 16.6) -/
  ticket : Option Nat
  ticketNext : Option Nat
  deriving DecidableEq, Repr

end Sys2Proof.Machine
end

