-- ==== Sys2Proof/Machine/TypesFault.lean ====
section
/-!
DEFINITION. State of the fault collector, the event routing block, the milestone memory and its log, and
the thermal monitor (chapter 14).
Assumption log: DEDUCED (32, 58, 63, 73).
-/

namespace Sys2Proof.Machine

/-- A log record, also the format of a host event queue entry (Table 14.7). MARK is kept as the pass parity of
the ring position it was written in. -/
structure LogRec where
  code : Nat
  rep : Nat
  hours : Nat
  cycles : Nat
  ms : Nat
  p0 : Nat
  p1 : Nat
  p2 : Nat
  p3 : Nat
  flags : Nat
  mark : Nat
  deriving DecidableEq, Repr

/-- A raised source the EVR has not handled yet (R389): the source, whether its pending bit was 0, and the event
register whose change raised it. -/
structure EvReq where
  src : Nat
  fresh : Bool
  param : Nat
  deriving DecidableEq, Repr

/-- Event routing: raised sources to handle, sources raised once since their block's counters were cleared (R481;
source and block), the host event queue, entries lost, whether the vendor event is reported and not re-armed. -/
structure EventState where
  todo : List EvReq
  fired : List (Nat × Nat)
  queue : List LogRec
  lost : Nat
  anyLost : Bool
  reported : Bool
  deriving DecidableEq, Repr

/-- An error capture (R383) as milestone memory keeps it at a transition to OFF (R384). -/
structure Capture where
  addr : Nat
  info : Nat
  ts : Nat
  merged : Nat
  ovf : Bool
  deriving DecidableEq, Repr

/-- The fault collector: errors of this run, the fault dump, safe states forced, and what it left for the next
start. The capture itself stands in the FCL registers. -/
structure FaultState where
  /-- a fatal error occurred in this run, other than a rail fault or the 130 °C trip -/
  fatal : Bool
  anyFatal : Bool
  /-- since when a fault dump runs -/
  dumpSince : Option Nat
  /-- safe states forced: flash, host DMA, DRAM -/
  safe : Bool × Bool × Bool
  /-- kept across OFF: last run was fatal, its safe states, that it ended in a fault dump, its capture -/
  nvFatal : Bool
  nvSafe : Nat
  nvDump : Bool
  nvCapture : Option Capture
  restartsSpent : Bool
  /-- operating time in RUN since power-on, in ms (R386) -/
  runMs : Nat
  deriving DecidableEq, Repr

/-- A dirty-epoch slot table entry (Table 14.9), and since when its zone or namespace holds no dirty data. -/
structure SlotEntry where
  nsid : Nat
  kind : Nat
  slice : Nat
  zone : Nat
  epochIn : Nat
  cleanSince : Option Nat
  deriving DecidableEq, Repr

/-- An epoch header (R401). -/
structure EpochHdr where
  epoch : Nat
  hours : Nat
  ms : Nat
  cycles : Nat
  dirty : Nat
  count : Nat
  deriving DecidableEq, Repr

/-- A dirty-epoch report (R402). -/
structure DirtyReport where
  entries : List SlotEntry
  overwritten : Bool
  cause : Nat
  hdr : Option EpochHdr
  deriving DecidableEq, Repr

/-- A line-map entry (Table 14.6): second-pulse count, retired, spare index. -/
structure LineEntry where
  pulse2 : Nat
  retired : Bool
  spare : Nat
  deriving DecidableEq, Repr

/-- The thermal-shutdown record (Table 14.10). -/
structure ThermRec where
  immediate : Bool
  saved : Bool
  noSave : Bool
  acked : Bool
  mode : Nat
  jmax : Int
  sensor : Nat
  hours : Nat
  ms : Nat
  cycles : Nat
  ext : List Int
  deriving DecidableEq, Repr

/-- Milestone memory and its log. -/
structure MilestoneState where
  /-- records waiting for the ring (R397), and whether one was dropped before the next -/
  logQ : List LogRec
  dropped : Bool
  /-- the ring: index to record; and the newest record's index, with the fold count not yet written and since when -/
  ring : NMap LogRec
  newest : Option Nat
  foldRep : Nat
  foldSince : Option Nat
  /-- the record latched by LOG_DATA (R399) -/
  latch : Option LogRec
  /-- read window position in bytes within the line -/
  winPos : Nat
  /-- operating time in ms (R395) -/
  opMs : Nat
  lines : NMap LineEntry
  /-- sequence numbers of the map lines written (Table 14.6); both copies are written in turn -/
  mapSeq : NMap Nat
  /-- when a record, the counters and an epoch header were last written (R395, R397, R401) -/
  recAt : Nat
  countersAt : Nat
  epochAt : Nat
  /-- the counters region: fields by key, as last written; lines (blocks) changed since; time of last write -/
  counters : NMap Nat
  slots : NMap SlotEntry
  epoch : Nat
  epochRing : NMap EpochHdr
  report : Option DirtyReport
  therm : Option ThermRec
  /-- line whose write failed for its writer: a configuration copy or counters line to write again -/
  failedLines : List Nat
  /-- zones of the report wait for the recovery of R483 at the next entry to RUN -/
  recoverDue : Bool
  deriving DecidableEq, Repr

/-- The thermal monitor: rounds over and under the thresholds, sensors, latched conditions. -/
structure ThermalState where
  over1 : Nat
  over2 : Nat
  below : Nat
  cold : Nat
  hot : Nat
  good : Nat
  /-- rounds each on-die sensor has differed, and which are excluded -/
  diff : NMap Nat
  excluded : List Nat
  /-- crossings in force: port, sensor (0 composite), over -/
  crossed : List (Nat × Nat × Bool)
  /-- shutdown declared in this run -/
  declared : Option ThermRec
  chgForbid : Bool
  lowSensors : Bool
  /-- flash case temperature at the end of the last round, for retraining (R180) -/
  flashNow : Int
  /-- when the last housekeeping round ended (R403) -/
  roundAt : Nat
  deriving DecidableEq, Repr

end Sys2Proof.Machine
end

