-- ==== Sys2Proof/Machine/TypesHold.lean ====
section
/-!
DEFINITION. State of the hold-up controller: input watch, pack, gauge, charger, learning, dump area, Detour
and Return (chapter 09). Energies are counted in quanta of one voltage count times one current count times
one 1 kHz sample: 100 µV × 0.125 mA × 1 ms = 12.5 pJ, so 1 J is 80,000,000,000 quanta (R250).
Assumption log: DEDUCED (7, 73).
-/

namespace Sys2Proof.Machine

/-- A dumped pair as its unit and the metadata keep it: what is needed to make the pair again. -/
structure DumpPair where
  nsid : Nat
  conv : Bool
  slice : Nat
  route : Nat
  seq : Nat
  data : NMap Nat
  lost : List Nat
  /-- held in one mirror copy only -/
  single : Bool
  deriving DecidableEq, Repr

/-- A dump record (Table 09.2). -/
structure DumpRec where
  dseq : Nat
  slot : Nat
  superseded : Bool
  thermal : Bool
  interrupted : Bool
  released : Bool
  isPartial : Bool
  nDies : Nat
  units : Nat
  lossNs : Nat
  durUs : Nat
  eStart : Nat
  eEnd : Nat
  dies : List Nat
  committed : Bool
  deriving DecidableEq, Repr

/-- What a committed dump holds on flash: its pairs in unit order, those left undumped, the commit sequence and the held records. -/
structure DumpImage where
  pairs : List DumpPair
  missing : List DumpPair
  seq : Nat
  recs : List HeldRec
  deriving DecidableEq, Repr

/-- A Detour in progress: its record so far, the mode it goes back to, the units each die has still to program, programs and has
programmed, the dies used, failed and become unhealthy, the dies whose directory is programmed and is verified. -/
structure Dump where
  record : DumpRec
  left : Nat
  queue : NMap (List Nat)
  busy : NMap Nat
  written : NMap (List Nat)
  used : List Nat
  failed : List Nat
  suspect : List Nat
  dirBusy : List Nat
  dirs : List Nat
  /-- nothing is programmed: input loss or thermal shutdown in RETURN -/
  empty : Bool
  /-- the dump of a fatal error (R386), which is never superseded -/
  fault : Bool
  thermal : Bool
  image : DumpImage
  committedAt : Option Nat
  deriving DecidableEq, Repr

/-- The pack's identity (Table 09.8). -/
structure PackId where
  serial : Nat
  cRated : Nat
  cycles : Nat
  vFloat : Nat
  vMin : Nat
  zRated : Nat
  zMax : Nat
  iChgMax : Nat
  mfgWeek : Nat
  ocv : List Nat
  deriving DecidableEq, Repr

/-- A life record (Table 09.9). -/
structure LifeRec where
  seq : Nat
  c : Nat
  z : Nat
  efc : Nat
  detours : Nat
  learnOk : Nat
  learnDq : Nat
  hours : Nat
  hotHours : Nat
  tMax : Int
  tMin : Int
  eol : Bool
  failed : Bool
  firstDev : Nat
  lastDev : Nat
  eIn : Nat
  eOut : Nat
  deriving DecidableEq, Repr

/-- A history entry of the pack EEPROM. -/
structure HistEntry where
  hours : Nat
  type : Nat
  temp : Int
  p0 : Nat
  p1 : Nat
  p2 : Nat
  seq : Nat
  deriving DecidableEq, Repr

/-- A learning cycle (R279): its step, f(OCV1) as a fraction, energy discharged, the energy of each sample of the last 10 s. -/
structure Learn where
  step : Nat
  f1 : Nat × Nat
  out : Int
  since : Nat
  avg : List Int
  ticket : Option Nat
  deriving DecidableEq, Repr

/-- Hold-up controller. -/
structure HoldState where
  /-- input level in mV, loss in force, since when valid -/
  lost : Bool
  validSince : Option Nat
  pack : Option PackId
  /-- the current life record; the next is written to copy B -/
  life : Option LifeRec
  nextB : Bool
  /-- energy out of and into the pack not yet in the life record, that counted towards full cycles, ms in service and above 45 °C
  not yet in it, Detours not yet in it, extreme temperatures -/
  outAcc : Int
  inAcc : Int
  efcAcc : Int
  svcMs : Nat
  hotMs : Nat
  detours : Nat
  tMax : Int
  tMin : Int
  history : List HistEntry
  histSeq : Nat
  /-- entry of the history ring that is written next -/
  histSlot : Nat
  identOk : Bool
  volts : Nat
  amps : Int
  temp : Int
  c : Int
  ectr : Int
  ev : Int
  u : Int
  epess : Int
  z : Nat
  zMade : Bool
  /-- operating time in ms of the last impedance measurement, of the last hourly growth of U, and of the last periodic life record -/
  zAt : Nat
  hourAt : Nat
  lifeAt : Nat
  zStep : Option Nat
  zHeld : Bool
  zTicket : Option Nat
  /-- energy through the pack since the last rest reset, for U; time of it; whether one was made since the identity -/
  through : Int
  lastRest : Nat
  restMade : Bool
  restSince : Option Nat
  forceHeld : Bool
  restTicket : Option Nat
  disagreeSince : Option Nat
  empty : Bool
  hot : Bool
  hotSince : Option Nat
  chgSince : Option Nat
  learn : Option Learn
  learnHeld : Bool
  /-- operating time in ms of the start of the last learning cycle, and of the next try after a disqualified one (R279) -/
  learnAt : Nat
  learnRetry : Option Nat
  learnTicket : Option Nat
  /-- WATCH began then; pack current has woken the gauge since (R270) -/
  hibWake : Bool
  hibSince : Nat
  /-- A of each channel (R253); dump dies by channel; each die's system blocks: two slots, four journal blocks, two area spares -/
  active0 : NMap Nat
  dumpDies : NMap (List Nat)
  dumpBlocks : NMap (List Nat)
  armed : NMap (Bool × Bool)
  /-- arming sequence numbers: the last one, and that of the header of each slot by 2 × die + slot (R255) -/
  armSeq : Nat
  headers : NMap Nat
  unhealthy : List Nat
  dseq : Nat
  records : NMap DumpRec
  images : NMap DumpImage
  dump : Option Dump
  jseq : Nat
  /-- next wordline of a dump die's journal ring: journal block × 1,024 + wordline -/
  jpos : NMap Nat
  live : NMap Nat
  jrecs : NMap DumpPair
  /-- die and block of a journal record -/
  jplace : NMap (Nat × Nat)
  /-- RETURN: since when, whether the wait of step 6 is over, next unit to restore -/
  ret : Option Nat
  retWaited : Bool
  /-- volts below V_MIN since -/
  lowSince : Option Nat
  lossNs : Nat
  deriving DecidableEq, Repr

end Sys2Proof.Machine
end

