-- ==== Sys2Proof/Machine/TypesPower.lean ====
section
/-!
DEFINITION. State of the power sequencer and supervisor, the droop guard, the power state controller and the
clock and reset unit (chapters 10 and 11).
Assumption log: DEDUCED (48, 73, 93, 97); PRESUMED (27); DESIGN CHOICE (71).
-/

namespace Sys2Proof.Machine

/-- The nine modes (Table 01.7). -/
inductive Mode where
  | off | watch | boot | hold | run | rest | detour | ret | service
  deriving DecidableEq, Repr

/-- A supervised rail (R284 to R286): its enable, whether it waits for power-good, whether it is armed and inside its
window, and the time of its enable or power-good. -/
structure Rail where
  enabled : Bool
  waiting : Bool
  armed : Bool
  inWindow : Bool
  since : Nat
  deriving DecidableEq, Repr

/-- What the sequencer does: nothing, power-up at a step waiting for power-good (false) or settling (true),
power-down at a step (10 for step 0), or the end step. -/
inductive Seq where
  | idle
  | up (step : Nat) (settling : Bool)
  | down (step : Nat)
  deriving DecidableEq, Repr

/-- The shut-off record of milestone memory (R293, R297, R298): cause, rail, direction, step; an off request taken
during power-up, an on request latched during power-down, retries spent. -/
structure OffRec where
  cause : Nat
  rail : Nat
  dir : Nat
  step : Nat
  offInUp : Bool
  onInDown : Bool
  spent : Bool
  deriving DecidableEq, Repr

/-- Power sequencer and droop guard. -/
structure PowerState where
  ao : Bool
  rails : NMap Rail
  seq : Seq
  /-- when the step of power-down that runs began -/
  stepSince : Nat
  /-- off request being handled: its cause -/
  offPend : Option Nat
  onLatched : Bool
  /-- only an AO power-on reset or PERST_N may start the device (R292, R299) -/
  needPerst : Bool
  /-- the last power-down was caused by input loss: input valid is an on request (R290) -/
  inputOn : Bool
  offSince : Option Nat
  /-- off time to wait in ns (100 ms, or COOL_S after a thermal shutdown) -/
  offWait : Nat
  retries : Nat
  /-- the record being made for the end step, and the one in milestone memory; the running mark -/
  making : OffRec
  stored : OffRec
  runningMark : Bool
  rsto : Bool × Bool
  rstoUntil : Option Nat × Option Nat
  hubOn : Bool
  droopSince : Option Nat
  droopLong : Bool
  /-- PHYA or PHYB failed its re-enable: links stay down (R289) -/
  phyFailed : Bool
  /-- straps sampled at the last step 0 of power-up (R462, R463) -/
  split : Bool
  recover : Bool
  testMode : Bool
  /-- the SMBus address in force, taken at power-on (Table 16.10) -/
  smbAddr : Nat
  /-- privileged port in force on a split link (R33) -/
  priv : Nat
  deriving DecidableEq, Repr

/-- What the pins of a group do (Table 17.7): their supply is off; the levels of the Reset column; held under R313; released or idle; driven
by the unit that owns them; the levels of the safe state. -/
inductive Pads where
  | unpowered | reset | held | idle | driven | safe
  deriving DecidableEq, Repr

/-- The output pins (chapter 17) whose level no other field is: LED0, LED1 (flashing), LED2, SB_ALERT_N asserted (R460); HUB_EN, CHG_EN, the
duty cycle of CHG_ISET in 1/4,095, LEARN_EN (Table 17.4); CLKREQ0_N and CLKREQ1_N asserted; and what the pins of the flash, DRAM, host, causeway
and sideband bus groups do (Table 17.7).  EN_name is `Rail.enabled` and RSTOn_N `PowerState.rsto`; MGPIO stays inputs, for no packet sets them. -/
structure PinState where
  led0 : Bool
  led1 : Bool
  led2 : Bool
  alert : Bool
  hubEn : Bool
  chgEn : Bool
  chgIset : Nat
  learnEn : Bool
  clkreq : Bool × Bool
  flash : Pads
  dram : Pads
  host : Pads
  causeway : Pads
  bus : Pads
  deriving DecidableEq, Repr

/-- Instructions of the test port (R461). -/
inductive Tap where
  | bypass | idcode | sample | extest | clamp | highz
  deriving DecidableEq, Repr

/-- The test port: its instruction and the levels its boundary-scan cells hold. -/
structure TestState where
  instr : Tap
  cells : List Bool
  deriving DecidableEq, Repr

/-- The WATCH record (R319). -/
structure WatchRec where
  tMin : Int
  tMax : Int
  hot : Nat
  lastV : Nat
  /-- always-on time of the last voltage -/
  lastT : Nat
  flags : Nat
  deriving DecidableEq, Repr

/-- Power state controller. -/
structure ModeState where
  mode : Mode
  /-- a HOLD_REQ write that waits for the transition's end (R306) -/
  holdWrite : Bool
  /-- HOLD entry under way (R310), from this mode; it waits for 16 dump dies -/
  holdEntry : Option Mode
  holdWait : Bool
  /-- an off request of the host in progress (R307): since when it flushes; held in RETURN or DETOUR; its cause -/
  offSince : Option Nat
  offHeld : Bool
  /-- this Detour was entered for an off request -/
  offDetour : Bool
  /-- REST entry under way: step reached -/
  restStep : Option Nat
  /-- wake under way: wake-delay step in progress, when it began, from DETOUR -/
  wake : Option Nat
  wakeNext : Bool
  padPend : List Nat
  perstInRest : List Nat
  l12 : List Nat
  watch : Option WatchRec
  hkc : Bool
  capRounds : Nat
  restSince : Nat
  /-- when the last step of the wake-delay table ended -/
  wakeEnd : Nat
  /-- the last WATCH round sampled a valid input, and its step 4 goes on (R318) -/
  roundValid : Bool
  stopped : Bool
  /-- fetch is stopped on both ports: an off request or HOLD entry -/
  fetchStop : Bool
  /-- partial parity and map restart owed at the next entry to RUN -/
  fresh : Bool
  /-- wordlines the check of R157 found neither erased nor decodable: channel, die, block, wordline -/
  undecoded : List (Nat × Nat × Nat × Nat)
  deriving DecidableEq, Repr

end Sys2Proof.Machine
end

