-- ==== Sys2Proof/Machine/TypesMem.lean ====
section
/-!
DEFINITION. State of the DRAM controller and of the memory protection unit (chapter 12).
Assumption log: DEDUCED (51).
-/

namespace Sys2Proof.Machine

/-- What the write cache waits for in a request of its own: a mirrored write held in a copy of a pair (R16, R335), a read hit of an
LBA of a command (R127). -/
inductive CacheUse where
  | mirror (pair : Nat)
  | hit (ctx lba pair : Nat)
  deriving DecidableEq, Repr

/-- A request in a DRAM channel, with its arrival. -/
structure DReq where
  id : Nat
  req : DramReq
  at_ : Nat
  use : Option CacheUse
  deriving DecidableEq, Repr

/-- A range scrub (R347): first byte, length in 64 KiB units, and the ticket of the packet that asked for it. -/
structure DScrub where
  start : Nat
  len : Nat
  since : Nat
  ticket : Option Nat
  deriving DecidableEq, Repr

/-- A DRAM channel: queues of R332 to R334, activation counts of R337 and R338, the replay buffer and replays of R339 and
R340, repair candidates and repaired rows (R343 to R346), scrubs (R347). -/
structure DChan where
  nextId : Nat
  /-- not yet admitted -/
  waiting : List DReq
  reads : List DReq
  writes : List DReq
  /-- reads, and read-modify-writes, on the bus -/
  issued : List DReq
  /-- read hits that a queued write has answered (R334), not yet handed on -/
  answered : List DReq
  /-- open row and consecutive hits of a bank -/
  rowOpen : NMap (Nat × Nat)
  /-- refreshes postponed by a bank (R336) -/
  postponed : NMap Nat
  raa : NMap Nat
  /-- rows of a bank: row, activations, when its refresh window began -/
  rowTable : NMap (List (Nat × Nat × Nat))
  raaimt : Nat
  raammt : Nat
  /-- commands issued lately, with their time: the replay buffer -/
  recent : List (Nat × DReq)
  alerts : List Nat
  alertRun : Nat
  retraining : Bool
  /-- fences not yet complete: source, requests still awaited -/
  fences : List (Nat × List Nat)
  /-- burst addresses written poisoned (R329) -/
  poison : List Nat
  ueTimes : List Nat
  /-- corrected bursts of a row: operating times in ms -/
  ceRows : NMap (List Nat)
  /-- candidate number to row and errors -/
  cands : NMap (Nat × Nat)
  /-- rows soft-repaired in this run -/
  soft : List Nat
  repairing : Option Nat
  /-- more than 64 rows are to be fenced: the channel is lost at BOOT -/
  fenceOver : Bool
  scrub : Option DScrub
  scrubQ : List DScrub
  /-- the burst the patrol reads next -/
  patrol : Nat
  /-- until when the scrub class has used up its share of the data rate (R332) -/
  scrubUntil : Nat
  deriving DecidableEq, Repr

/-- A word of an SRAM macro whose valid bit is 1 (R349): 64 data bits and 8 check bits. -/
structure SramWord where
  data : Nat
  check : Nat
  deriving DecidableEq, Repr

/-- An SRAM scrub: first and last macro, words corrected and uncorrectable so far, and the ticket. -/
structure SScrub where
  first : Nat
  last : Nat
  corrected : Nat
  bad : Nat
  since : Nat
  ticket : Option Nat
  deriving DecidableEq, Repr

/-- DRAM channels and SRAM protection. -/
structure MemState where
  chans : NMap DChan
  /-- the valid words of the macros (R349); key 32,768 × macro + word -/
  sram : NMap SramWord
  /-- the rows that spares replace by soft repair since power-on (R353), by entry -/
  spares : NMap Nat
  /-- corrected errors of a row of a macro: operating times in ms; key 2,048 × macro + row -/
  sramRows : NMap (List Nat)
  scrub : Option SScrub
  scrubQ : Option SScrub
  /-- last precise trap of a core: cause and address -/
  traps : NMap (Nat × Nat)
  deriving DecidableEq, Repr

end Sys2Proof.Machine
end

