-- ==== Sys2Proof/Machine/TypesMgmt.lean ====
section
/-!
DEFINITION. State of the management packet interface (chapter 16).
Assumption log: DEDUCED (73); DESIGN CHOICE (75).
-/

namespace Sys2Proof.Machine

/-- A ticket (R445): state 1 queued, 2 running, 3 passed, 4 failed, 5 cancelled, 6 aborted; kind; channel; start and
length of a range; result words; the time of its end. -/
structure Ticket where
  state : Nat
  kind : Nat
  ch : Nat
  start : Nat
  len : Nat
  r0 : Nat
  r1 : Nat
  r2 : Nat
  r3 : Nat
  ended : Option Nat
  deriving DecidableEq, Repr

/-- A packet with what its carrier brings besides (R432, R436, R437): whether the reply can be written to the reply buffer; the data a raw
read returns (R442), and the header of the image a commit finds (R416); what a carrier does not bring is free. -/
structure MgIn where
  p : Packet
  replyOk : Bool
  raw : Option (List Nat)
  hdr : Option ImageHeader
  deriving DecidableEq, Repr

/-- What the reply of a running packet waits for. -/
inductive MgWait where
  /-- a configuration commit (R435), which has begun or not -/
  | commit (begun : Bool)
  /-- the end of the reset of a slice -/
  | slice (n : Nat)
  /-- the end of a change to a mode (Table 01.7) -/
  | mode (code : Nat)
  /-- the programming, or the activation, of a firmware slot (R416, R418) -/
  | firmware
  /-- the remote Identify of R375 for a binding -/
  | remote (k : Nat)
  /-- nothing: status and reply parameters -/
  | done (status : Nat) (body : List Nat)
  deriving DecidableEq, Repr

/-- A packet that runs (R434): whether it is a changing one, what its reply waits for, whether COMMIT asks for a commit once the action is
complete (R435), and the reply a commit holds back. -/
structure MgRun where
  inp : MgIn
  change : Bool
  wait : MgWait
  commitDue : Bool
  held : Option (Nat × List Nat)
  deriving DecidableEq, Repr

/-- The management packet interface: tickets by number, the next number, packets running by number and the next number, packets that
wait for a free place in order of arrival, packets arriving in frames by node and tag (R438), and raw pages staged (R442). -/
structure MgmtState where
  tickets : NMap Ticket
  nextTicket : Nat
  running : NMap MgRun
  nextRun : Nat
  waiting : List MgIn
  arriving : List (Nat × Nat × List Nat)
  staged : NMap (List Nat)
  deriving DecidableEq, Repr

end Sys2Proof.Machine
end

