-- ==== Sys2Proof/Machine/TypesFabric.lean ====
section
/-!
DEFINITION. State of the causeway ports and the junction (chapter 13).
Assumption log: DEDUCED (52); DESIGN CHOICE (75).
-/

namespace Sys2Proof.Machine

/-- A causeway port (R360, R361, R363, R369): next SEQ to send, frames sent and not acknowledged, NAKs in a row and for which
SEQ, SEQ expected, whether a NAK awaits it, frames accepted since the last ACK, credits held and units freed by VC,
HELLOs in a row, frames that wait to be sent with the input they came from (0 to 3 a port, 4 local), the input last
served by VC, and the times of link errors of the last second. -/
structure CwPort where
  txSeq : Nat
  sent : List Frame
  naks : Nat
  nakSeq : Nat
  rxSeq : Nat
  resync : Bool
  sinceAck : Nat
  credits : List Nat
  freed : List Nat
  helloOk : Nat
  outQ : List (Nat × Frame)
  lastIn : List Nat
  errors : List Nat
  /-- when the last HELLO was sent, and when one was received (R363) -/
  helloAt : Nat
  heardAt : Nat
  deriving DecidableEq, Repr

/-- What a remote request serves: a command of a pooled namespace, a replicated command, a piece of a copy, the Identify that a binding
begins with (R375). -/
inductive RemoteFor where
  | pooled (ctx : Nat)
  | replicated (ctx binding : Nat)
  | piece (copy : Nat)
  | identify (binding : Nat)
  deriving DecidableEq, Repr

/-- A remote request of this node (R371): destination, frame type, entry, data by LBA (for an Identify the bytes of the packet), attempts
made. -/
structure Remote where
  for_ : RemoteFor
  dst : Nat
  type : Nat
  entry : SqEntry
  data : List Nat
  attempts : Nat
  /-- when the first frame of this attempt was sent -/
  since : Nat
  deriving DecidableEq, Repr

/-- A request arriving from a node (R372, R373) whose write data is awaited, or is discarded because the request is a
duplicate. -/
structure Inbound where
  src : Nat
  tag : Nat
  type : Nat
  entry : SqEntry
  slice : Nat
  want : Nat
  data : NMap Nat
  discard : Bool
  deriving DecidableEq, Repr

/-- An entry of the duplicate table (R372); for a management packet the bytes of its reply (R438). -/
structure DupEntry where
  src : Nat
  tag : Nat
  status : NvmeStatus
  dw0 : Nat
  dw1 : Nat
  reply : Option (List Nat)
  since : Nat
  deriving DecidableEq, Repr

/-- A peer zone copy (R379): ticket, slice and generation it is charged to, source zone, target node, namespace and
first LBA, next LBA to send and end, pieces in flight, LBAs committed. -/
structure Copy where
  ticket : Nat
  slice : Nat
  nsid : Nat
  zone : Nat
  node : Nat
  rnsid : Nat
  rslba : Nat
  first : Nat
  next : Nat
  stop : Nat
  inflight : Nat
  committed : Nat
  running : Bool
  deriving DecidableEq, Repr

/-- The junction: ports, node table (origin to LSA), own LSA sequence, paths, local frames that wait for new paths,
remote requests by tag, requests arriving, the duplicate table (oldest first), copies, wake patterns sent for a
binding, frames of management requests sent, and remote Identify data by binding. -/
structure FabricState where
  ports : NMap CwPort
  nodes : NMap Lsa
  ownSeq : Nat
  /-- when the node last originated an LSA, and when the LSA held for a node was accepted (R365) -/
  ownAt : Nat
  heard : NMap Nat
  /-- withdrawn for a duplicate ID (R364) -/
  dupId : Bool
  /-- node to port and hops -/
  paths : NMap (Nat × Nat)
  localQ : List Frame
  reqs : NMap Remote
  inbound : List Inbound
  dups : List DupEntry
  copies : NMap Copy
  nextCopy : Nat
  /-- wake patterns sent for a binding and the time of the last (R380) -/
  wakes : NMap (Nat × Nat)
  remoteId : NMap (List Nat)
  deriving DecidableEq, Repr

end Sys2Proof.Machine
end

