-- ==== Sys2Proof/Machine/TypesFw.lean ====
section
/-!
DEFINITION. State of the firmware store, the firmware cores and the configuration record (chapter 15).
Assumption log: DEDUCED (62).
-/

namespace Sys2Proof.Machine

/-- A boot selector record (Table 15.2); a sector without a valid one holds none. -/
structure SelRec where
  seq : Nat
  active : Nat
  prev : Nat
  trial : Bool
  tries : Nat
  deriving DecidableEq, Repr

/-- The image in a firmware slot: the highest configuration version it knows, and whether its boot block and area pass
their checks. -/
structure SlotImage where
  cfgVerMax : Nat
  /-- revision, as the 8 bytes of log page 03h -/
  rev : Nat
  good : Bool
  deriving DecidableEq, Repr

/-- A copy of the configuration record (R423 to R427): sequence, whether its commit line is whole, version, body lines; the
retained fields by key, the waypoint table, the FN ceiling, the dump blocks and the channels' A. -/
structure CfgCopy where
  seq : Nat
  whole : Bool
  ver : Nat
  lines : Nat
  regs : NMap Nat
  wpt : NMap WptEntry
  fnCeiling : Nat
  dumpBlocks : NMap (List Nat)
  dumpDies : NMap (List Nat)
  active0 : NMap Nat
  deriving DecidableEq, Repr

/-- A commit of an image to a slot (R416): slot, action, the command's context or none for a packet, and what the image's header says. -/
structure SlotWrite where
  slot : Nat
  action : Nat
  ctx : Option Nat
  hdr : ImageHeader
  deriving DecidableEq, Repr

/-- Firmware store, cores and configuration record. -/
structure FwState where
  sec0 : Option SelRec
  sec1 : Option SelRec
  slot1 : Option SlotImage
  slot2 : Option SlotImage
  /-- image being downloaded into DRAM: offset in 4 KiB units to bytes -/
  download : NMap (List Nat)
  prog : Option SlotWrite
  /-- immediate activation to begin (R418 step 1), and in progress: slot, command context -/
  activateDue : Option (Nat × Option Nat)
  activating : Option (Nat × Option Nat)
  /-- lines of the prefetch buffer (4) and targets of the branch cache (64), newest first (R412) -/
  prefetch : List Nat
  branches : List Nat
  /-- the boot ROM serves (R420); the slot it fills (R441) -/
  bootRom : Bool
  romSlot : Nat
  cfgA : Option CfgCopy
  cfgB : Option CfgCopy
  /-- commit in progress -/
  commit : Option CfgCopy
  /-- the change after the commit in progress began -/
  again : Bool
  fnCeiling : Nat
  fnWanted : Option Nat
  lastCommitAt : Nat
  /-- the first change not committed, and whether a commit is asked for without delay (R425) -/
  pendAt : Option Nat
  commitNow : Bool
  /-- time of the running trial image in RUN or HOLD since power-on, in ms (R417) -/
  trialMs : Nat
  /-- when the cores began to restart from the new image (R418 step 3) -/
  restartAt : Option Nat
  /-- the line a core's trap handler is to read once more (R413) -/
  retry : NMap Nat
  /-- what this BOOT found, kept for a start over after a recovery of the firmware store (R420) -/
  boot : Option BootEnv
  deriving DecidableEq, Repr

end Sys2Proof.Machine
end

