-- ==== Sys2Proof/Machine/TypesReset.lean ====
section
/-!
DEFINITION. The state of each unit with nothing volatile in it: what a unit holds when its power comes on.
Assumption log: PRESUMED (16, 27).
-/

namespace Sys2Proof.Machine

/-- The features of a port after a controller reset (Table 02.10, R407). -/
def Features.reset : Features :=
  { ab := 0, lpw := 0, mpw := 0, hpw := 0, ps := 0, wh := 0,
    hiC := [373, 0xFFFF, 0xFFFF, 0xFFFF, 0xFFFF, 0xFFFF, 0xFFFF, 0xFFFF, 0xFFFF],
    loC := [0, 0, 0, 0, 0, 0, 0, 0, 0], thr := 0, time := 0, cd := [], aec := 0,
    marginEn := false, marginThresh := 0x0C8, hintEn := false }

/-- A submission queue of size `n` that holds nothing. -/
def Sq.empty (p qid n : Nat) : Sq :=
  { port := p, qid := qid, cqSlot := 0, size := n, head := 0, tail := 0, prio := 0, cls := 0, pasid := none, slice := 0, ahead := 0 }

/-- A completion queue of size `n` that holds nothing; its first pass has phase 1. -/
def Cq.empty (p qid n : Nat) : Cq :=
  { port := p, qid := qid, size := n, head := 0, tail := 0, phase := 1, vector := 0, ien := true, pasid := none, fullSince := none,
    stalled := false }

/-- Configuration space after a reset (PCIe): nothing is enabled; payloads of 128 bytes, read requests of 512. -/
def CfgSpace.reset : CfgSpace :=
  { pasidEnable := false, msixEnable := false, msixFMask := false, mps := 0, mrrs := 2, aspmL1 := false, l11 := false, l12 := false,
    ltr := false, tag10 := false, aerStatus := 0, aerHeader := none }

/-- A port after power-on, with PERST_N asserted or not. -/
def Port.reset (p : Nat) (perst : Bool) : Port :=
  { perst := perst, cfg := CfgSpace.reset, ccEn := false, ams := 0, cc := 0, aqa := 0, asqBase := 0, acqBase := 0, adminOk := false, cfs := false, shst := 0, shut := .none,
    asq := Sq.empty p 0 0, acq := Cq.empty p 0 0, feat := Features.reset, aers := [], aens := [], aenMasked := [], errLog := [], errCount := 0,
    changedNs := [], changedZones := [], streamsEn := [], streams := [], streamAlloc := [], coalesced := [],
    msixAddr := [], msixData := [], msixOpen := [], msixPba := [],
    lastSlice := 0, turn := none, lastSlot := [], credits := [] }

def ZoneState.reset : ZoneState :=
  { zones := [], adm := [], nextAdm := 0, ctxs := [], accs := [], slots := [], recompPending := [], roPending := [] }

def WptState.reset : WptState :=
  { rows := [], shadows := [], shadowBad := [], hidden := [], scrubAt := 0, busy := none, staged := none, busyUntil := 0 }

def CacheState.reset : CacheState :=
  { pairs := [], nextPair := 0, nextCh := 0, commitSeq := 0, started := false, raise := none, okSince := none, packReady := false,
    journal := [], flushBy := [], firstBefore := 0 }

def PoolState.reset : PoolState := { desc := [], heads := [], links := [], broken := [], waiters := [], chans := [], per := 0, taken := [] }

def FlashState.reset : FlashState :=
  { dies := [], tokens := [], chans := [], nextOp := 0, slots := [], slotRun := none, slotEnd := 0, rebuilds := [], copies := [],
    present := [], partB := [], firstActive := 0, ires := 0, aside := [] }

def SampleState.reset : SampleState := { classes := [], readouts := [], again := [], badCols := [], desc := [], errs := [], upper := [] }

def CodecState.reset : CodecState :=
  { cws := [], nextCw := 0, decodeQ := [], realloc := [], moving := [], selfTest := none, testsWaiting := [], activeOrder := List.range 64 }

def MapState.reset : MapState :=
  { map := [], sets := [], open_ := [], seq := 0, recs := [], granules := [], changed := [], lostSegs := [], run := none,
    last := { num := 0, s0 := 0, full := true, segs := [], starts := [], wearZones := [], wearSets := [] }, older := [], ring := [],
    ringNext := 0, ringUsed := 0, sinceStart := 0, sinceCommit := 0,
    late := false, victims := [], reloc := [], rowData := [], relocBufs := [], retiredNoSpare := 0, wearZones := [],
    wearSets := [], restartSince := none, ckptAt := 0, commitAt := 0, gib := 0, ticket := none, ticketNext := none }

def EventState.reset : EventState := { todo := [], fired := [], queue := [], lost := 0, anyLost := false, reported := false }

def FaultState.reset : FaultState :=
  { fatal := false, anyFatal := false, dumpSince := none, safe := (false, false, false), nvFatal := false, nvSafe := 0, nvDump := false,
    nvCapture := none, restartsSpent := false, runMs := 0 }

def MilestoneState.reset : MilestoneState :=
  { logQ := [], dropped := false, ring := [], newest := none, foldRep := 0, foldSince := none, latch := none, winPos := 0,
    opMs := 0, lines := [], mapSeq := [], recAt := 0, countersAt := 0, epochAt := 0, counters := [], slots := [], epoch := 0, epochRing := [], report := none, therm := none,
    failedLines := [], recoverDue := false }

def ThermalState.reset : ThermalState :=
  { over1 := 0, over2 := 0, below := 0, cold := 0, hot := 0, good := 0, diff := [], excluded := [], crossed := [], declared := none,
    chgForbid := false, lowSensors := false, flashNow := 0, roundAt := 0 }

def HoldState.reset : HoldState :=
  { lost := false, validSince := none, pack := none, life := none, nextB := false, outAcc := 0, inAcc := 0, efcAcc := 0, svcMs := 0,
    hotMs := 0, detours := 0, tMax := -128, tMin := 127, history := [], histSeq := 0, histSlot := 0, identOk := false, volts := 0, amps := 0,
    temp := 0, c := 0, ectr := 0, ev := 0, u := 0, epess := 0, z := 0, zMade := false, zAt := 0, hourAt := 0, lifeAt := 0, zStep := none, zHeld := false,
    zTicket := none, through := 0, lastRest := 0, restMade := false, restSince := none, 
    forceHeld := false, restTicket := none, disagreeSince := none, empty := false, hot := false, hotSince := none, chgSince := none,
    learn := none, learnHeld := false, learnAt := 0, learnRetry := none, learnTicket := none, hibWake := false,
    hibSince := 0, active0 := [], dumpDies := [], dumpBlocks := [], armed := [], armSeq := 0, headers := [], unhealthy := [], dseq := 0,
    records := [], images := [], dump := none, jseq := 0, jpos := [], live := [], jrecs := [], jplace := [], ret := none,
    retWaited := false, lowSince := none, lossNs := 0 }

def OffRec.none : OffRec := { cause := 0, rail := 0, dir := 0, step := 0, offInUp := false, onInDown := false, spent := false }

/-- The power sequencer with AO not yet released: both reset outputs asserted. -/
def PowerState.reset : PowerState :=
  { ao := false, rails := [], seq := .idle, stepSince := 0, offPend := none, onLatched := false, needPerst := false, inputOn := false, offSince := none,
    offWait := 0, retries := 0, making := OffRec.none, stored := OffRec.none, runningMark := false, rsto := (true, true),
    rstoUntil := (none, none), hubOn := false, droopSince := none, droopLong := false, phyFailed := false,
    split := false, recover := false, testMode := false, smbAddr := 0x3A, priv := 0 }

def PinState.reset : PinState :=
  { led0 := false, led1 := false, led2 := false, alert := false, hubEn := false, chgEn := false, chgIset := 0, learnEn := false,
    clkreq := (false, false), flash := .unpowered, dram := .unpowered, host := .unpowered, causeway := .unpowered, bus := .unpowered }

/-- The test port after TRST_N: IDCODE is its instruction (IEEE 1149.1). -/
def TestState.reset : TestState := { instr := .idcode, cells := [] }

def ModeState.reset : ModeState :=
  { mode := .off, holdWrite := false, holdEntry := none, holdWait := false, offSince := none, offHeld := false, offDetour := false,
    restStep := none, wake := none, wakeNext := false, padPend := [], perstInRest := [], l12 := [], watch := none,
    hkc := false, capRounds := 0, restSince := 0, wakeEnd := 0, roundValid := false, stopped := false, fetchStop := false, fresh := false,
    undecoded := [] }

def MemState.reset : MemState := { chans := [], sram := [], spares := [], sramRows := [], scrub := none, scrubQ := none, traps := [] }

def MgmtState.reset : MgmtState :=
  { tickets := [], nextTicket := 0, running := [], nextRun := 0, waiting := [], arriving := [], staged := [] }

def FabricState.reset : FabricState :=
  { ports := [], nodes := [], ownSeq := 0, ownAt := 0, heard := [], dupId := false, paths := [], localQ := [], reqs := [], inbound := [], dups := [],
    copies := [], nextCopy := 0, wakes := [], remoteId := [] }

def FwState.reset : FwState :=
  { sec0 := none, sec1 := none, slot1 := none, slot2 := none, download := [], prog := none, activateDue := none, activating := none, prefetch := [], branches := [],
    pendAt := none, commitNow := false, trialMs := 0, restartAt := none, retry := [],
    bootRom := false, romSlot := 0, cfgA := none, cfgB := none, commit := none, again := false, fnCeiling := 0, fnWanted := none, lastCommitAt := 0,
    boot := none }

end Sys2Proof.Machine
end

