-- ==== Sys2Proof/Machine/State.lean ====
section
/-!
DEFINITION. The state of the ML-6400 as plain data: the registers of the control window, the state of every unit,
what the device has put out, and the queue of commands that wait; the faults and refusals; and reset.
Assumption log: DEDUCED (45, 72, 99); DESIGN CHOICE (1, 2, 3, 4, 5, 75).
-/

namespace Sys2Proof.Machine

/-- Why a step stops with a fault. -/
inductive Fault where
  /-- Raised by every command while an unchecked host error whose result is unpredictable is present (R10, R448): nothing
  the device does is bound until the case is removed.  Safe: the model stops where the device may do anything. -/
  | unpredictable
  deriving DecidableEq, Repr

/-- Why a command has no meaning. -/
inductive Refusal where
  /-- Raised by the dispatcher for a command that is not modelled yet.  Safe. -/
  | notModelled (mnemonic : String)
  deriving DecidableEq, Repr

/-- An unchecked host error of Table 16.7 whose result is unpredictable and which has not been removed. -/
inductive Unbound where
  /-- a 1 in an RSV bit of the register at this address (R10) -/
  | rsv (addr : Nat)
  /-- the same of a register that holds only WO fields: what the write set in motion is not ended by another write (R10) -/
  | wo (addr : Nat)
  /-- two valid PASID map entries hold this PASID -/
  | pasid (p : Nat)
  /-- slice budgets overlap or exceed the totals -/
  | budget
  /-- route with media mode 0b11 -/
  | route (r : Nat)
  /-- overlapping bad-column ranges, or one past the end of the plane: channel, die, plane -/
  | badCol (ch die plane : Nat)
  /-- a binding of Table 16.7 -/
  | binding
  /-- node-slice entries of Table 16.7 -/
  | nodeSlice
  /-- a write to FSQ part B outside SERVICE: channel -/
  | fsqPartB (ch : Nat)
  /-- raw program or erase of a block: channel, die, block (R158) -/
  | rawBlock (ch die block : Nat)
  /-- a sag while the droop guard is off (R303) -/
  | droop
  deriving DecidableEq, Repr

/-- What the device puts out at its boundary. -/
inductive Out where
  /-- a completion entry: port, queue, command, submission queue head, phase, status, dwords 0 and 1, PASID -/
  | completion (port qid cid sqHead phase : Nat) (status : NvmeStatus) (dw0 dw1 : Nat) (tag : PasidTag)
  /-- an MSI-X write: port, vector, the address and data of its table entry, PASID -/
  | msix (port vector addr data : Nat) (tag : PasidTag)
  /-- what a read of an SRAM word gives its unit (R349): macro, word, data -/
  | sramWord (mac word data : Nat)
  /-- a register read over the control window: byte address, size in bytes, value -/
  | readData (addr size value : Nat)
  /-- data of a read command, written to host memory: port, cid, LBA, the LBA's 4,096 bytes as a number, PASID -/
  | hostData (port cid lba data : Nat) (tag : PasidTag)
  /-- data an admin or zone management command returns: port, cid, bytes, PASID -/
  | page (port cid : Nat) (bytes : List Nat) (tag : PasidTag)
  /-- a read of submission queue entries (R45): port, queue, index of the first, how many, PASID -/
  | entryRead (port qid first n : Nat) (tag : PasidTag)
  /-- the reads of a command's PRP or SGL lists and data in host memory (R30): port, cid, bytes of data, bytes of one request, the most
  requests outstanding at once (Table 02.1), PASID -/
  | hostRead (port cid bytes request most : Nat) (tag : PasidTag)
  /-- a management reply: carrier (0 Admin, 1 sideband, 2 fabric), origin, tag, opcode, status, parameters -/
  | reply (carrier origin tag opcode status : Nat) (bytes : List Nat)
  /-- an NVMe-MI response on the sideband: status, bytes -/
  | miReply (status : Nat) (bytes : List Nat)
  /-- a causeway frame: port, its bytes (Table 13.1) -/
  | frame (port : Nat) (bytes : List Nat)
  /-- the causeway wake pattern (R380) -/
  | wakePattern (port : Nat)
  /-- a PCIe error message logged by AER: port, severity -/
  | aer (port severity : Nat)
  /-- a fence of a DRAM source is complete: channel, source -/
  | fence (ch source : Nat)
  /-- a program's wordline as the encoder gives it (R213): channel, die, block, wordline, its codewords in position order -/
  | program (ch die block wl : Nat) (codewords : List Nat)
  /-- a write to the pack EEPROM (R281): address, bytes -/
  | eeprom (addr : Nat) (bytes : List Nat)
  /-- detector output of a burst: channel, burst, log-likelihood ratios -/
  | llr (ch burst : Nat) (values : List Int)
  /-- a pin driven by the device: name as in the pin list, level -/
  | pin (name : Nat) (level : Nat)
  /-- test port data -/
  | tdo (bits : List Nat)
  deriving DecidableEq, Repr

/-- The device. -/
structure State where
  /-- the 64-bit always-on nanosecond counter -/
  now : Nat
  /-- register fields that do not hold their Reset value, by bit address -/
  regs : NMap Nat
  unbound : List Unbound
  /-- counts the free values taken (a field of the model's own) -/
  freeCtr : Nat
  /-- what has been put out, newest first (a field of the model's own) -/
  out : List Out
  port0 : Port
  port1 : Port
  sqs : NMap Sq
  cqs : NMap Cq
  ctxs : List Ctx
  nextCtx : Nat
  /-- contexts complete internally, in the order in which they completed (R46) -/
  doneQ : List Nat
  ns : NMap Namespace
  late : List LateRec
  lateTotal : Nat
  resets : NMap SliceReset
  zn : ZoneState
  wpt : WptState
  wc : CacheState
  pool : PoolState
  fl : FlashState
  sd : SampleState
  cd : CodecState
  xl : MapState
  ev : EventState
  fc : FaultState
  ms : MilestoneState
  th : ThermalState
  hu : HoldState
  pw : PowerState
  md : ModeState
  mm : MemState
  mg : MgmtState
  fb : FabricState
  fw : FwState
  pins : PinState
  tp : TestState
  /-- commands that wait, first in, first out -/
  pending : List Instr
  deriving DecidableEq, Repr

/-- The device before the release of its AO power-on reset (R11, R290): mode OFF, every register at its Reset value, nothing ever
written to flash, milestone memory or the firmware store, no pack seen, PERST_N asserted on both ports.  Values the spec gives
none for are those of log entry 3. -/
def State.reset : State :=
  { now := 0, regs := [], unbound := [], freeCtr := 0, out := [], port0 := Port.reset 0 true, port1 := Port.reset 1 true, sqs := [], cqs := [],
    ctxs := [], nextCtx := 0, doneQ := [], ns := [], late := [], lateTotal := 0, resets := [], zn := ZoneState.reset, wpt := WptState.reset,
    wc := CacheState.reset, pool := PoolState.reset, fl := FlashState.reset, sd := SampleState.reset, cd := CodecState.reset,
    xl := MapState.reset, ev := EventState.reset, fc := FaultState.reset, ms := MilestoneState.reset, th := ThermalState.reset,
    hu := HoldState.reset, pw := PowerState.reset, md := ModeState.reset, mm := MemState.reset, mg := MgmtState.reset,
    fb := FabricState.reset, fw := FwState.reset, pins := PinState.reset, tp := TestState.reset,
    pending := [] }

end Sys2Proof.Machine
end

