-- ==== Sys2Proof/Machine/Ops.lean ====
section
/-!
DEFINITION. The named operations over the state: reading and writing register fields, conditional and repeated
change, output, free values, and `act`, the one way in which a command changes the state.
Assumption log: DEDUCED (6, 12, 57, 93); DESIGN CHOICE (1, 2, 4, 5, 71).
-/

namespace Sys2Proof.Machine

open Host (Outcome)

/-- The value of a register field (R9). -/
def State.get (s : State) (f : Field) (i : Nat := 0) (j : Nat := 0) : Nat :=
  if f.reg.has i j then s.regs.lookD (f.key i j) (f.reset i) % 2 ^ f.width else 0

/-- The state with a register field at a value, cut to the field's width. -/
def State.set (s : State) (f : Field) (v : Nat) (i : Nat := 0) (j : Nat := 0) : State :=
  if f.reg.has i j then { s with regs := s.regs.putD (f.key i j) (v % 2 ^ f.width) (f.reset i) } else s

/-- Whether a one-bit field is set. -/
def State.flag (s : State) (f : Field) (i : Nat := 0) (j : Nat := 0) : Bool := s.get f i j != 0

/-- The state with a one-bit field at a truth value. -/
def State.setB (s : State) (f : Field) (b : Bool) (i : Nat := 0) (j : Nat := 0) : State := s.set f (bNat b) i j

/-- A time noted lies at least `ns` back. -/
def State.past (s : State) (t : Option Nat) (ns : Nat) : Bool := match t with | some t => decide (t + ns ≤ s.now) | none => false

/-- Change the state if a condition holds. -/
def State.when (s : State) (c : Bool) (f : State → State) : State := if c then f s else s

/-- Change the state once for each element of a list, in order. -/
def State.each {α : Type} (s : State) : List α → (α → State → State) → State
  | [], _ => s
  | a :: t, f => State.each (f a s) t f

/-- What goes to a host as a TLP. -/
def Out.isTlp : Out → Bool
  | .completion .. | .msix .. | .hostData .. | .page .. | .entryRead .. | .hostRead .. | .aer .. => true
  | _ => false

/-- Put something out; no TLP is issued once the safe state of host DMA is forced (R385). -/
def State.put (s : State) (o : Out) : State := if s.fc.safe.2.1 && o.isTlp then s else { s with out := o :: s.out }

/-- A value the spec leaves open, and the state that has taken it. -/
def State.free (s : State) : Nat × State :=
  (Config.freeValue s.freeCtr, { s with freeCtr := s.freeCtr + 1 })

/-- The code of a mode (Table 01.7). -/
def Mode.code : Mode → Nat
  | .off => 0 | .watch => 1 | .boot => 2 | .hold => 3 | .run => 4
  | .rest => 5 | .detour => 6 | .ret => 7 | .service => 8

/-- The current mode. -/
def State.mode (s : State) : Mode := s.md.mode

/-- The device works in one of some modes: power-down has not begun. -/
def State.inModes (s : State) (l : List Mode) : Bool := l.contains s.md.mode && !s.md.stopped

/-- Core is powered: any mode but OFF and WATCH. -/
def State.coreOn (s : State) : Bool := s.md.mode != .off && s.md.mode != .watch

/-- The subsystems run: any mode but OFF and WATCH, power-down not begun. -/
def State.powered (s : State) : Bool := s.coreOn && !s.md.stopped

/-- The slice count S in force (R60). -/
def State.sliceCount (s : State) : Nat := 2 ^ (min (s.get SLM_CFG_ACTIVE_LOG2) 8)

/-- The port numbered 0 or 1. -/
def State.port (s : State) (p : Nat) : Port := if p = 0 then s.port0 else s.port1

/-- Change a port. -/
def State.modPort (s : State) (p : Nat) (f : Port → Port) : State :=
  if p = 0 then { s with port0 := f s.port0 } else { s with port1 := f s.port1 }

/-- The ports in use (R32). -/
def State.portList (s : State) : List Nat := if s.get GLB_CONFIG_INFO_PORTS = 2 then [0, 1] else [0]

/-- The privileged port (R33). -/
def State.privPort (s : State) : Nat := if s.get GLB_CONFIG_INFO_PORTS = 2 then s.pw.priv else 0

/-- A word of a slice's budget in force (Table 03.1): a word written during a reset of the slice acts after its step 5 only (R75). -/
def State.budget (s : State) (n w : Nat) : Nat :=
  match s.resets.look n with
  | some r => (r.budget.look w).getD (s.get SLM_BUDGET n w)
  | none => s.get SLM_BUDGET n w

/-- How the device's requests on a port carry a PASID (R30). -/
def State.tag (s : State) (p : Nat) (pasid : Option Nat) : PasidTag :=
  match pasid with
  | none => .none
  | some x => if s.flag QEN_LINK_FLIT p then .ohcA x else .tlp x

/-- Contexts in use (R41). -/
def State.ctxUsed (s : State) : Nat := s.ctxs.length

/-- LBAs of a zone span (R84). -/
def zoneSpan : Nat := 1048576

/-- A pair holds dirty data of the zone or conventional namespace of a slot entry. -/
def SlotEntry.dirtyBy (e : SlotEntry) (p : Pair) : Bool :=
  p.dirty && p.nsid == e.nsid && (if e.kind = 1 then !p.conv && p.data.any (fun d => d.1 / zoneSpan == e.zone) else p.conv)

/-- Note since when each slot entry's zone or namespace has held no dirty data (R400). -/
def State.settleSlots (s : State) : State :=
  let f (e : SlotEntry) : SlotEntry :=
    { e with cleanSince := if s.wc.pairs.any (fun p => e.dirtyBy p.2) then none else e.cleanSince.or (some s.now) }
  { s with ms := { s.ms with slots := s.ms.slots.mapVals fun _ e => f e } }

/-- A flush, Detour or Return moves data: a program runs, an image is being dumped, or one is being restored (R460). -/
def State.movesData (s : State) : Bool :=
  s.mode == .ret || (s.mode == .detour && (match s.hu.dump with | some d => d.committedAt.isNone && !d.empty | none => false))
    || (s.mode != .detour && s.fl.dies.any fun e => match e.2.run with | some r => r.op.kind == .program | none => false)

/-- A rail is enabled. -/
def State.railOn (s : State) (r : Nat) : Bool := match s.pw.rails.look r with | some x => x.enabled | none => false

/-- The LED and alert outputs (R460, Tables 17.7 and R428): low before BOOT has ended and under HOLD cause 0x1; held while the management pad
group is held; in DETOUR all but LED1 hold their last level. -/
def State.ledPins (s : State) : PinState :=
  let p := s.pins
  if [Mode.off, .watch, .boot].contains s.md.mode then { p with led0 := false, led1 := false, led2 := false, alert := false }
  else if bit (s.get PSC_PAD_HELD) 2 then { p with led1 := false }
  else if s.mode == .detour then { p with led1 := s.movesData }
  else
    let hold := s.flag PSC_STATUS_HOLD_NOCFG || s.flag PSC_STATUS_HOLD_THERM || s.flag PSC_STATUS_HOLD_HOST
    let cfg := !s.flag PSC_STATUS_HOLD_NOCFG
    { p with led0 := cfg && s.mode == .run, led1 := cfg && s.movesData, led2 := cfg && (hold || s.flag GLB_MODE_STATUS_WRITE_THROUGH),
             alert := !s.ev.queue.isEmpty }

/-- The pack outputs (R458, Table 17.4): CHG_ISET carries the charge current, limited to the pack's own (R278); LEARN_EN draws the impedance
step and the discharge of a learning cycle. -/
def State.packPins (s : State) (p : PinState) : PinState :=
  let learns := s.hu.zStep.isSome || (match s.hu.learn with | some l => l.step == 2 | none => false)
  let chg := s.get HUC_STATUS_CHARGE != 0 && s.mode != .detour
  let ma := match s.hu.pack with | some k => min (s.get HUC_CHG_CFG_I_MA) k.iChgMax | none => s.get HUC_CHG_CFG_I_MA
  { p with hubEn := s.pw.hubOn, chgEn := chg, chgIset := if chg then ma else 0, learnEn := learns && s.mode != .detour }

/-- What the pins of the other groups do (Table 17.7).  Flash and DRAM pads are held in REST under R313, and are in their safe state once a
cause has forced it (R385); the host link is idle until the end of BOOT, and CLKREQ_N asserted but for a port in L1.2. -/
def State.groupPins (s : State) (p : PinState) : PinState :=
  let early := s.md.mode == .off || s.fw.bootRom
  let lanes := s.railOn 3 && s.railOn 4
  let refclk (q : Nat) : Bool :=
    (match s.pw.seq with | .up _ _ => true | _ => false)
      || (s.coreOn && s.mode != .rest && s.mode != .detour && !s.md.l12.contains q)
  let pads (rail group : Nat) : Pads :=
    if !s.railOn rail then .unpowered else if early then .reset else if bit (s.get PSC_PAD_HELD) group then .held else .driven
  { p with
    clkreq := (refclk 0, s.pw.split && refclk 1),
    flash := pads 7 0, dram := pads 5 1,
    host := if !lanes then .unpowered else if early || s.mode == .boot then .reset else .driven,
    causeway := if !s.railOn 3 then .unpowered else if [Mode.hold, .run, .service].contains s.mode then .driven else .idle,
    bus := if !s.railOn 9 then .unpowered else if s.md.mode == .off then .reset else .driven }

/-- The output pins follow the state (Table 17.7).  Once a safe state is forced, the pins it names are at its levels and nothing else changes
until OFF (R385, R465). -/
def State.settlePins (s : State) : State :=
  if s.fc.safe.1 || s.fc.safe.2.1 || s.fc.safe.2.2 then
    let p := if [Mode.off, .watch, .boot].contains s.md.mode then s.ledPins else s.pins
    { s with pins := { p with flash := if s.fc.safe.1 then .safe else p.flash, dram := if s.fc.safe.2.2 then .safe else p.dram } }
  else { s with pins := s.groupPins (s.packPins s.ledPins) }

/-- What follows every command at once: CTX_USED shows the contexts in use, and CTX_PEAK their highest value
(chapter 02, QEN registers). -/
def State.settle (s : State) : State :=
  let s := (s.settleSlots.settlePins).set QEN_CTX_USED s.ctxUsed
  s.set QEN_CTX_PEAK (max (s.get QEN_CTX_PEAK) (s.get QEN_CTX_USED))

/-- A command's end: what follows it at once has followed, the queue is that of before, and the always-on counter, which only its own clock
and the AO power-on reset move (R27, R290), stands at `n`. -/
def State.after (s : State) (n : Nat) (t : State) : State := { t.settle with pending := s.pending, now := n }

/-- The effect of a command on everything but the queue, with the always-on counter at `n` after it.  While an unpredictable case of R448
is present, nothing the device does is bound, and the step stops. -/
def actTo (n : Nat) (s : State) (f : State → State) : Outcome State Fault Refusal :=
  if s.unbound.isEmpty then .next (s.after n (f s)) else .fault .unpredictable

/-- The effect of a command, which takes no time. -/
def act (s : State) (f : State → State) : Outcome State Fault Refusal := actTo s.now s f

/-- A command that acts when its event can occur, and has no effect otherwise. -/
def actWhen (s : State) (c : Bool) (f : State → State) : Outcome State Fault Refusal :=
  act s fun s => if c then f s else s

/-- The effect of a command that may remove an unpredictable case (R448), with the always-on counter at `n` after it: it acts when none
is present, or when it removes one. -/
def actRemovingTo (n : Nat) (s : State) (f : State → State) : Outcome State Fault Refusal :=
  if s.unbound.isEmpty ∨ (f s).unbound.length < s.unbound.length then .next (s.after n (f s))
  else .fault .unpredictable

/-- The effect of a command that may remove an unpredictable case and takes no time. -/
def actRemoving (s : State) (f : State → State) : Outcome State Fault Refusal := actRemovingTo s.now s f

/-- A command that may remove an unpredictable case, under a condition. -/
def actRemovingWhen (s : State) (c : Bool) (f : State → State) : Outcome State Fault Refusal :=
  actRemoving s fun s => if c then f s else s

/-- Record an unpredictable case. -/
def State.unbind (s : State) (u : Unbound) : State :=
  if s.unbound.contains u then s else { s with unbound := s.unbound ++ [u] }

/-- Remove an unpredictable case. -/
def State.bind (s : State) (u : Unbound) : State := { s with unbound := s.unbound.filter (· != u) }

/-- Record or remove a case as a condition says. -/
def State.setUnbound (s : State) (u : Unbound) (c : Bool) : State := if c then s.unbind u else s.bind u

/-- The word of a register as its fields in some list hold it (RSV bits read 0). -/
def State.wordOf (s : State) (l : List Field) (addr : Nat) : Nat :=
  l.foldl (fun w f =>
    match f.reg.locate addr with
    | some (i, j) => w + s.get f i j * 2 ^ f.lsb
    | none => w) 0

end Sys2Proof.Machine
end

