-- ==== Sys2Proof/Machine/Flags.lean ====
section
/-!
DEFINITION. Event sources, saturating counters, saturation flags and event registers (R389, R391, R481), error
reports to the fault collector short of its fatal reaction (R382, R383), and asynchronous events (R55).
Assumption log: DEDUCED (8, 55).
-/

namespace Sys2Proof.Machine

/-- Raise an event source (R389): its pending bit is set and the EVR will handle it.  `param` is the event register
whose change raised it, or 0 (Table 14.8). -/
def State.raise (s : State) (src : Nat) (param : Nat := 0) : State :=
  let w := s.get EVR_PEND (src / 32)
  let fresh := !bit w (src % 32)
  let s := s.set EVR_PEND (setBit w (src % 32)) (src / 32)
  { s with ev := { s.ev with todo := s.ev.todo ++ [{ src := src, fresh := fresh, param := param }] } }

/-- Whether a once-per-clearing source of a block has been raised since the last clearing (R481). -/
def State.hasFired (s : State) (src owner : Nat) : Bool := s.ev.fired.contains (src, owner)

/-- Raise a source once per clearing of its block's counters (R481). -/
def State.raiseOnce (s : State) (src : Nat) (owner : Nat := 0) (param : Nat := 0) : State :=
  if s.hasFired src owner then s
  else { s with ev := { s.ev with fired := (src, owner) :: s.ev.fired } }.raise src param

/-- Re-arm the once-per-clearing sources of a block. -/
def State.rearm (s : State) (srcs : List Nat) (owner : Nat := 0) : State :=
  { s with ev := { s.ev with fired := s.ev.fired.filter fun p => !(srcs.contains p.1 && p.2 == owner) } }

/-- The first saturation of a counter of a block sets its flag and raises its event once (R391). -/
def State.saturated (s : State) (b : CntBlock) (owner si : Nat) : State :=
  if s.hasFired b.src (owner + 0x100) then s
  else
    let s := { s with ev := { s.ev with fired := (b.src, owner + 0x100) :: s.ev.fired } }
    (s.set b.sat 1 si).raise b.src

/-- Add to a counter under R391. -/
def State.bump (s : State) (b : CntBlock) (f : Field) (i : Nat := 0) (n : Nat := 1) (owner : Nat := 0) (si : Nat := 0) : State :=
  let v := s.get f i + n
  if 2 ^ f.width ≤ v then (s.set f (2 ^ f.width - 1) i).saturated b owner si else s.set f v i

/-- CLR_CNT of a block (R391, R481): the counters go to 0 in every instance listed, its sources are re-armed. -/
def State.clearCounters (s : State) (b : CntBlock) (idx : List Nat := [0]) (owner : Nat := 0) : State :=
  let s := s.each b.counters fun f s => s.each (idx.filter fun i => f.reg.has i 0) fun i s => s.set f 0 i
  (s.rearm b.rearm owner).rearm [b.src] (owner + 0x100)

/-- Set a bit of an event register; the change from 0 to 1 raises the source, with the register as its parameter. -/
def State.evt (s : State) (f : Field) (src : Nat) (l : List Field) (i : Nat := 0) : State :=
  if s.flag f i then s
  else
    let s := s.set f 1 i
    s.raise src (s.wordOf l (f.reg.at i 0))

/-- The counters of each block with a CLR_CNT (R59, R83, R118, R145, R182, R224, R249, R283, R304, R324, chapters 12 to 16). -/
def blkQEN : CntBlock := ⟨QEN_STATUS_SAT, 114, [QEN_UNBOUND_DROP, QEN_DB_DROP, QEN_CQ_STALL_CNT], [102, 112, 113, 114]⟩
def blkSLM : CntBlock := ⟨SLM_STATUS_SAT, 118, [SLM_ABORT], [117, 118]⟩
def blkTLG : CntBlock :=
  ⟨TLG_STATUS_SAT, 265, [TLG_LATE_CLASS, TLG_RA_START, TLG_RA_PEER_WON, TLG_LATE_SLICE],
    [256, 257, 258, 260, 261, 262, 263, 264, 265]⟩
def blkWPT : CntBlock := ⟨WPT_STATUS_SAT, 284, [WPT_FALSE_HIT, WPT_SCRUB_FIX, WPT_HIT, WPT_MISS], [280, 281, 282]⟩
def blkZNE : CntBlock := ⟨ZNE_STATUS_SAT, 284, [ZNE_SPILL_CNT, ZNE_RELOAD_CNT, ZNE_NOSTRIPE_CNT], [283]⟩
def blkWCU : CntBlock :=
  ⟨WCU_STATUS_SAT, 286, [WCU_READ_HIT, WCU_WT_ENTRY, WCU_MIRROR_FIX, WCU_LOST_CNT, WCU_JOURNAL_PG], []⟩
def blkBPL : CntBlock := ⟨BPL_STATUS_SAT, 286, [BPL_DFREE_CNT, BPL_OWNER_CNT, BPL_BROKEN_CNT], []⟩
def blkDSC : CntBlock := ⟨DSC_STATUS_SAT, 273, [DSC_DEGRADED_CNT, DSC_BUSY_RA_CNT, DSC_SUSP_DENY_CNT], [273]⟩
def blkSDF : CntBlock :=
  ⟨SDF_STATUS_SAT, 79, [SDF_BURST_CNT, SDF_FALSE_MARK, SDF_MARK_MISS, SDF_FALLBACK, SDF_BURST_LOST, SDF_FROZEN,
    SDF_CLAMP_CNT], []⟩
def blkLDC : CntBlock :=
  ⟨LDC_STATUS_SAT, 79, [LDC_STEP_CNT, LDC_UNREC_CNT, LDC_BUDGET_EXP_CNT, LDC_REALLOC_CNT, LDC_REALLOC_DROP,
    LDC_ST_RUNS, LDC_ST_FAIL, LDC_CHECK_FAIL], [75]⟩
def blkXLT : CntBlock :=
  ⟨XLT_STATUS_SAT, 272, [XLT_RELOC_LBA_CNT, XLT_CKPT_CNT, XLT_RETIRE_CNT, XLT_MOVE_CNT, XLT_LOST_LBA_CNT], [272]⟩
def blkHUC : CntBlock :=
  ⟨HUC_STATUS_SAT, 191, [HUC_DETOUR_CNT, HUC_SUPERSEDE_CNT, HUC_ABANDON_CNT, HUC_RETURN_CNT, HUC_UNIT_LOST_CNT,
    HUC_DISAGREE_CNT, HUC_FORCED_REST_CNT, HUC_LEARN_OK_CNT, HUC_LEARN_DQ_CNT], []⟩
def blkPSQ : CntBlock := ⟨PSQ_STATUS_SAT, 164, [PSQ_OOW_CNT], []⟩
def blkDRG : CntBlock := ⟨DRG_STATUS_SAT, 164, [DRG_ENGAGE_CNT, DRG_SKIP_US, DRG_LONG_CNT], [160]⟩
def blkPSC : CntBlock :=
  ⟨PSC_STATUS_SAT, 287, [PSC_REST_CNT, PSC_WAKE_CNT, PSC_REST_MS, PSC_WATCH_ROUNDS, PSC_CAP_SKIP_US], [287]⟩
def blkFCL : CntBlock := ⟨FCL_STATUS_SAT, 214, [FCL_CE_CNT, FCL_UE_CNT], [208, 209, 211]⟩
def blkMSM : CntBlock := ⟨MSM_STATUS_SAT, 230, [MSM_LOG_DROP, MSM_PULSE2_CNT], [227, 229]⟩
def blkTHM : CntBlock := ⟨THM_STATUS_SAT, 203, [THM_STEP1_CNT, THM_STEP2_CNT, THM_WR_BLOCK_CNT], []⟩

/-- Owners of the shared sources 79, 164, 284 and 286, which each block raises and re-arms on its own. -/
def ownWPT : Nat := 1
def ownZNE : Nat := 2
def ownWCU : Nat := 3
def ownBPL : Nat := 4
def ownSDF : Nat := 0x1000
def ownLDC : Nat := 5
def ownPSQ : Nat := 6
def ownDRG : Nat := 7

/-- A counter of the FSQ of a channel: saturation sets STATUS.SAT and EVT.SAT, whose change raises source c (R182). -/
def State.bumpFsq (s : State) (f : Field) (c : Nat) : State :=
  let v := s.get f c + 1
  if 2 ^ f.width ≤ v then
    let s := s.set f (2 ^ f.width - 1) c
    if s.hasFired c 0x200 then s
    else
      let s := { s with ev := { s.ev with fired := (c, 0x200) :: s.ev.fired } }
      (s.set FSQ_STATUS_SAT 1 c).evt FSQ_EVT_SAT c fieldsFSQ c
  else s.set f v c

/-- Set a bit of FSQ.EVT_c (R182). -/
def State.fsqEvt (s : State) (f : Field) (c : Nat) : State := s.evt f c fieldsFSQ c

/-- Set a bit of SDF.EVT_c; source 64 + c / 8 (Table 07.7). -/
def State.sdfEvt (s : State) (f : Field) (c : Nat) : State := s.evt f (64 + c / 8) fieldsSDF c

/-- A counter of the SDF of a channel (R224). -/
def State.bumpSdf (s : State) (f : Field) (c : Nat) : State :=
  let v := s.get f c + 1
  if 2 ^ f.width ≤ v then
    let s := s.set f (2 ^ f.width - 1) c
    if s.hasFired blkSDF.src (ownSDF + c + 0x100) then s
    else (s.saturated blkSDF (ownSDF + c) c).sdfEvt SDF_EVT_SAT c
  else s.set f v c

/-- Set a bit of XLT.EVT (R249). -/
def State.xltEvt (s : State) (f : Field) : State := s.evt f 272 fieldsXLT

/-- A counter or wear field of the XLT saturates: the flag and the event, once (R249, R391). -/
def State.xltSaturated (s : State) : State :=
  if s.hasFired 272 0x100 then s
  else
    let s := { s with ev := { s.ev with fired := (272, 0x100) :: s.ev.fired } }
    (s.set XLT_STATUS_SAT 1).xltEvt XLT_EVT_SAT

/-- A counter of the XLT; saturation also sets XLT.EVT.SAT (R249). -/
def State.bumpXlt (s : State) (f : Field) (n : Nat := 1) : State :=
  let v := s.get f + n
  if 2 ^ f.width ≤ v then (s.set f (2 ^ f.width - 1)).xltSaturated else s.set f v

/-- Set a bit of PSC.EVT (R324). -/
def State.pscEvt (s : State) (f : Field) : State := s.evt f 287 fieldsPSC

/-- A counter of the PSC; saturation also sets PSC.EVT.SAT (R324). -/
def State.bumpPsc (s : State) (f : Field) (n : Nat := 1) : State :=
  let v := s.get f + n
  if 2 ^ f.width ≤ v then
    let s := s.set f (2 ^ f.width - 1)
    if s.hasFired 287 0x100 then s
    else
      let s := { s with ev := { s.ev with fired := (287, 0x100) :: s.ev.fired } }
      (s.set PSC_STATUS_SAT 1).pscEvt PSC_EVT_SAT
  else s.set f v

/-- A change to what the configuration record holds waits for a commit, due 100 ms after the first (R425). -/
def State.askCommit (s : State) : State :=
  { s with fw := { s.fw with again := true, pendAt := s.fw.pendAt.or (some s.now) } }.set FWC_CFGREC_PEND 1

/-- A commit that waits no 100 ms: the end of a slice reset, a packet that asks for it, an FN ceiling request (R425). -/
def State.askCommitNow (s : State) : State := let s := s.askCommit; { s with fw := { s.fw with commitNow := true } }

/-- Whole operating hours and the rest in ms (R395). -/
def State.opHours (s : State) : Nat := s.ms.opMs / 3600000
def State.opRest (s : State) : Nat := s.ms.opMs % 3600000

/-- Whether two records fold (R398): equal CODE and parameters. -/
def LogRec.same (a b : LogRec) : Bool :=
  a.code == b.code && a.p0 == b.p0 && a.p1 == b.p1 && a.p2 == b.p2 && a.p3 == b.p3

/-- Fold an occurrence into a record (R398): REPEAT grows, and FLAGS bit 1 is set when it reaches 0xFFFF. -/
def LogRec.fold (r : LogRec) : LogRec :=
  { r with rep := r.rep + 1, flags := if r.rep + 1 = 0xFFFF then setBit r.flags 1 else r.flags }

/-- A record queued for the ring: folded into the newest record, queued in the 64 entries, or dropped (R397, R398). -/
def State.logRec (s : State) (code p0 p1 p2 p3 : Nat) (flags : Nat := 0) : State :=
  let r : LogRec := { code := code, rep := 1, hours := s.opHours, cycles := s.get MSM_PWR_CYCLES, ms := s.opRest,
                      p0 := p0 % 65536, p1 := p1 % 65536, p2 := p2 % 65536, p3 := p3 % 65536, flags := flags, mark := 0 }
  match s.ms.logQ.getLast? with
  | some q =>
    if q.same r && q.rep < 0xFFFF then { s with ms := { s.ms with logQ := s.ms.logQ.dropLast ++ [q.fold] } }
    else if s.ms.logQ.length < 64 then { s with ms := { s.ms with logQ := s.ms.logQ ++ [r] } }
    else ({ s with ms := { s.ms with dropped := true } }.bump blkMSM MSM_LOG_DROP).raiseOnce 227
  | none =>
    match s.ms.newest.bind s.ms.ring.look with
    | some q =>
      if q.same r && q.rep + s.ms.foldRep < 0xFFFF then
        { s with ms := { s.ms with foldRep := s.ms.foldRep + 1, foldSince := s.ms.foldSince.or (some s.now) } }
      else { s with ms := { s.ms with logQ := [r] } }
    | none => { s with ms := { s.ms with logQ := [r] } }

/-- Error classes (Table 14.1). -/
def clsCorrectable : Nat := 1
def clsContained : Nat := 2
def clsFatal : Nat := 3

/-- Capture an error, or merge it into the capture held (R383). -/
def State.capture (s : State) (addr master type cls space : Nat) : State :=
  if s.flag FCL_STATUS_VALID then
    let s := if s.get FCL_STATUS_MERGED = 0xFF then (s.set FCL_STATUS_OVF 1).raiseOnce 211
      else s.set FCL_STATUS_MERGED (s.get FCL_STATUS_MERGED + 1)
    s.set FCL_FIRST_INFO_WORST (max cls (s.get FCL_FIRST_INFO_WORST))
  else
    let s := (s.set FCL_FIRST_ADDR_LO (addr % 2 ^ 32)).set FCL_FIRST_ADDR_HI (addr / 2 ^ 32)
    let s := (s.set FCL_FIRST_TS_LO (s.now % 2 ^ 32)).set FCL_FIRST_TS_HI (s.now / 2 ^ 32)
    let s := ((s.set FCL_FIRST_INFO_MASTER master).set FCL_FIRST_INFO_TYPE type).set FCL_FIRST_INFO_CLASS cls
    let s := ((s.set FCL_FIRST_INFO_WORST cls).set FCL_FIRST_INFO_SPACE space).set FCL_FIRST_INFO_LOADED 0
    let s := s.set FCL_STATUS_VALID 1
    let w := s.wordOf fieldsFCL (rFCL_FIRST_INFO.at 0 0)
    s.logRec 0x1003 (w % 65536) (w / 65536) 0 0

/-- Report a correctable error: capture, CE_CNT, source 208 once per clearing (Table 14.1). -/
def State.reportCE (s : State) (addr master type space : Nat) : State :=
  ((s.capture addr master type clsCorrectable space).bump blkFCL FCL_CE_CNT).raiseOnce 208

/-- Report a contained error: capture, UE_CNT, source 209 once per clearing (Table 14.1). -/
def State.reportUE (s : State) (addr master type space : Nat) : State :=
  ((s.capture addr master type clsContained space).bump blkFCL FCL_UE_CNT).raiseOnce 209

end Sys2Proof.Machine
end

