-- ==== Sys2Proof/Machine/OpsFabric.lean ====
section
/-!
DEFINITION. Causeway ports and routing (R356 to R370, R380): frames as bytes, the link layer with its sequence numbers,
credits and retry buffer, port states, advertisements, up/down paths, sending.
Assumption log: DEDUCED (52, 99); PRESUMED (15, 53).
-/

namespace Sys2Proof.Machine

/-- The bytes of a frame as it is sent: header with HCRC, payload, trailer (Table 13.1); a frame whose trailer was found
wrong goes on with the complement of the correct one (R368). -/
def frameBytes (f : Frame) : List Nat :=
  let h := [f.type % 256, f.flags % 256] ++ le 2 f.dst ++ le 2 f.src ++ [f.hops % 256, f.vc % 256]
    ++ le 2 f.payload.length ++ le 2 f.tag ++ le 4 f.seq ++ le 4 f.offset ++ le 2 f.domain ++ zeros 6
  let t := crc32 f.payload
  h ++ le 4 (crc32 h) ++ f.payload ++ le 4 (if f.trailerOk then t else t ^^^ 0xFFFFFFFF)

/-- Credit units of a frame (R361). -/
def frameUnits (f : Frame) : Nat := (36 + f.payload.length + 63) / 64

/-- Virtual channel of a frame type (Table 13.2). -/
def vcOf (type : Nat) : Nat :=
  if type < 0x10 then 0 else if type = 0x30 ∨ type = 0x31 ∨ type = 0x41 then 2 else 1

/-- Frame types of Table 13.2. -/
def knownType (t : Nat) : Bool := [0x01, 0x02, 0x03, 0x04, 0x05, 0x10, 0x11, 0x12, 0x20, 0x30, 0x31, 0x40, 0x41].contains t

/-- Port states of Table 13.3. -/
def cwDisabled : Nat := 0
def cwDown : Nat := 1
def cwTrain : Nat := 2
def cwHello : Nat := 3
def cwUp : Nat := 4
def cwForeign : Nat := 5
def cwRefused : Nat := 6

/-- A port after training: sequence numbers from 0, all credits held (R361). -/
def CwPort.fresh : CwPort :=
  { txSeq := 0, sent := [], naks := 0, nakSeq := 0, rxSeq := 0, resync := false, sinceAck := 0,
    credits := [256, 4096, 4096], freed := [0, 0, 0], helloOk := 0, outQ := [], lastIn := [4, 4, 4], errors := [],
    helloAt := 0, heardAt := 0 }

def State.cwPort (s : State) (p : Nat) : CwPort := s.fb.ports.lookD p CwPort.fresh

def State.modCw (s : State) (p : Nat) (f : CwPort → CwPort) : State :=
  { s with fb := { s.fb with ports := s.fb.ports.put p (f (s.cwPort p)) } }

/-- State of a port. -/
def State.cwState (s : State) (p : Nat) : Nat := s.get CWP_PSTAT_STATE p

/-- Ports run in these modes (R362); under HOLD cause 0x1 nothing is sent on them (R428). -/
def State.portsRun (s : State) : Bool :=
  s.inModes [.run, .service, .hold] && !s.pw.phyFailed && !s.flag PSC_STATUS_HOLD_NOCFG

/-- Own node ID; 0xFFF acts as 0 (Table 13.8). -/
def State.nodeId (s : State) : Nat :=
  let n := s.get JNR_CFG_NODE_ID
  if n = 0xFFF then 0 else n

/-- The node has withdrawn for a duplicate ID (R364). -/
def State.withdrawn (s : State) : Bool := s.fb.dupId

/-- The node takes part in the domain (Table 13.10 JOINED). -/
def State.joined (s : State) : Bool := s.nodeId != 0 && !s.withdrawn

/-- HOP_MAX in force; 0 acts as 0x10 (Table 13.11). -/
def State.hopMax (s : State) : Nat :=
  let h := s.get JNR_TIMING_HOP_MAX
  if h = 0 then 0x10 else h

/-- The HELLO period and the request timeout in ns; 0 acts as 0x0A and 0x32 (Table 13.11). -/
def State.helloNs (s : State) : Nat := 10000 * (if s.get JNR_TIMING_HELLO = 0 then 0x0A else s.get JNR_TIMING_HELLO)
def State.deadNs (s : State) : Nat := s.helloNs * (if s.get JNR_TIMING_DEAD = 0 then 0x0A else s.get JNR_TIMING_DEAD)
def State.e2eNs (s : State) : Nat := 10000 * (if s.get JNR_TIMING_E2E = 0 then 0x32 else s.get JNR_TIMING_E2E)

/-- Owners of the counters of CWP port p and of the JNR, which share source 143. -/
def ownCWP (p : Nat) : Nat := 0x310 + p
def ownJNR : Nat := 0x314

/-- Counters of the junction and of a port (R381). -/
def jnrCounters : List Field := [JNR_FWD_FRAMES, JNR_NOPATH, JNR_HOP_DROP, JNR_E2E_TMO, JNR_DUP_HIT, JNR_DUP_EVICT]
def cwpCounters : List Field := [CWP_NAK_CNT, CWP_STOMP_CNT, CWP_DROP_CNT, CWP_TX_FRAMES, CWP_RX_FRAMES]
def blkJNR : CntBlock := ⟨JNR_STATUS_SAT, 143, jnrCounters, []⟩
def blkCWP : CntBlock := ⟨CWP_PSTAT_SAT, 143, cwpCounters, []⟩

def State.bumpJnr (s : State) (f : Field) : State := s.bump blkJNR f 0 1 ownJNR
def State.bumpCwp (s : State) (f : Field) (p : Nat) : State := s.bump blkCWP f p 1 (ownCWP p) p

/-- A link error of a port (NAK, stomped or discarded frame): ERR_TH of them in one second raise source 129 + 4p. -/
def State.linkError (s : State) (p : Nat) : State :=
  let l := ((s.cwPort p).errors.filter fun t => s.now < t + 1000000000) ++ [s.now]
  let s := s.modCw p fun c => { c with errors := l }
  let th := s.get CWP_PCFG_ERR_TH p
  if 0 < th ∧ l.length = th + 1 then s.raise (129 + 4 * p) else s

/-- Put a link-layer frame on the line: HELLO, ACK, NAK and CREDIT take no sequence number and no credits. -/
def State.sendLink (s : State) (p : Nat) (type seq : Nat) (payload : List Nat) : State :=
  let f : Frame := { type := type, flags := 3, dst := 0, src := s.nodeId, hops := s.hopMax, vc := 0, tag := 0, seq := seq,
                     offset := 0, domain := s.get JNR_CFG_DOMAIN, payload := payload, trailerOk := true }
  (s.put (.frame p (frameBytes f))).bumpCwp CWP_TX_FRAMES p

/-- Units freed of a receive buffer; 4 KiB of them are returned at once (R361). -/
def State.freeUnits (s : State) (p vc n : Nat) : State :=
  if p < 4 then
    let s := s.modCw p fun c => { c with freed := c.freed.set vc (c.freed.getD vc 0 + n) }
    let fr := (s.cwPort p).freed
    if 64 ≤ fr.foldl (· + ·) 0 then
      (s.modCw p fun c => { c with freed := [0, 0, 0] }).sendLink p 0x05 0 (le 2 (fr.getD 0 0) ++ le 2 (fr.getD 1 0) ++ le 2 (fr.getD 2 0))
    else s
  else s

/-- The frame of a VC that goes next: round robin over the inputs, the oldest frame of each (R369). -/
def CwPort.nextOf (c : CwPort) (vc : Nat) : Option (Nat × Frame) :=
  ((List.range 5).map fun k => (c.lastIn.getD vc 4 + 1 + k) % 5).findSome? fun i =>
    c.outQ.find? fun e => e.1 == i && e.2.vc == vc

/-- The next frame a port may send: VC 0, then 2, then 1, if credits for the whole frame are held and the retry buffer of
256 KiB has room (R360, R361, R369). -/
def CwPort.pick (c : CwPort) : Option (Nat × Frame) :=
  let used := c.sent.foldl (fun n f => n + 36 + f.payload.length) 0
  [0, 2, 1].findSome? fun vc =>
    match c.nextOf vc with
    | some (i, f) =>
      if frameUnits f ≤ c.credits.getD vc 0 ∧ used + 36 + f.payload.length ≤ 262144 then some (i, f) else none
    | none => none

/-- Send what a port may send (R360, R361, R369): each frame takes the next SEQ and its credits, and is kept for a resend;
a transit frame gives back its input credits. -/
def State.transmit (p : Nat) : Nat → State → State
  | 0, s => s
  | n + 1, s =>
    if s.cwState p != cwUp then s
    else
      match (s.cwPort p).pick with
      | none => s
      | some (i, f) =>
        let f' := { f with seq := (s.cwPort p).txSeq }
        let s := s.modCw p fun c =>
          { c with txSeq := (c.txSeq + 1) % 2 ^ 32, sent := c.sent ++ [f'], outQ := c.outQ.erase (i, f),
                   credits := c.credits.set f.vc (c.credits.getD f.vc 0 - frameUnits f), lastIn := c.lastIn.set f.vc i }
        let s := (s.put (.frame p (frameBytes f'))).bumpCwp CWP_TX_FRAMES p
        State.transmit p n (s.freeUnits i f.vc (frameUnits f))

/-- Queue a frame at an output port from an input (4 local) and send what may be sent. -/
def State.enqueueFrame (s : State) (p i : Nat) (f : Frame) : State :=
  let s := s.modCw p fun c => { c with outQ := c.outQ ++ [(i, f)] }
  State.transmit p (s.cwPort p).outQ.length s

/-- Send a local frame towards its destination on the path in force; without a path it is not sent.  While a
recomputation runs after a port left UP it waits for the new paths (R369). -/
def State.sendFrame (s : State) (f : Frame) : State :=
  match s.fb.paths.look f.dst with
  | some (p, _) =>
    if s.cwState p = cwUp then s.enqueueFrame p 4 f
    else { s with fb := { s.fb with localQ := s.fb.localQ ++ [f] } }
  | none => s

/-- A frame of this node (R358): HOPS is HOP_MAX. -/
def State.frameOf (s : State) (type dst tag flags offset : Nat) (payload : List Nat) : Frame :=
  { type := type, flags := flags, dst := dst, src := s.nodeId, hops := s.hopMax, vc := vcOf type, tag := tag, seq := 0,
    offset := offset, domain := s.get JNR_CFG_DOMAIN, payload := payload, trailerOk := true }

/-- Whether a path to a node exists. -/
def State.hasPath (s : State) (node : Nat) : Bool := s.fb.paths.has node

/-- Show JOINED and NODES (Table 13.10). -/
def State.showJnr (s : State) : State :=
  (s.setB JNR_STATUS_JOINED s.joined).set JNR_STATUS_NODES s.fb.nodes.length

/-- The node table changed: paths are to be recomputed (R367). -/
def State.askPaths (s : State) : State := s.showJnr.set JNR_STATUS_RECOMP 1

/-- The links of this node: its UP ports and the neighbours on them. -/
def State.ownLinks (s : State) : List Link :=
  ([0, 1, 2, 3].filter fun p => s.cwState p == cwUp).map fun p =>
    { nbr := s.get CWP_PSTAT_NBR_ID p, lport := p, nport := s.get CWP_PSTAT_NBR_PORT p }

/-- The payload of an LSA frame (Table 13.2). -/
def lsaBytes (l : Lsa) : List Nat :=
  le 2 l.node ++ le 4 l.seq ++ le 8 l.serial ++ le 2 l.links.length
    ++ (l.links.map fun k => le 2 k.nbr ++ [k.lport, k.nport]).flatten

/-- Flood an LSA on every UP port but one (R365).  It travels one link at a time. -/
def State.flood (s : State) (l : Lsa) (except : Nat) : State :=
  s.each ([0, 1, 2, 3].filter fun p => p != except && s.cwState p == cwUp) fun p s =>
    s.enqueueFrame p 4 (s.frameOf 0x02 (s.get CWP_PSTAT_NBR_ID p) 0 3 0 (lsaBytes l))

/-- The device's 64-bit serial (chapter 01). -/
def deviceSerial : Nat := Config.serial % 2 ^ 64

/-- Originate the node's own LSA (R365); a node that has not joined or has withdrawn originates nothing. -/
def State.originate (s : State) : State :=
  if s.joined then
    let l : Lsa := { linkSeq := 0, node := s.nodeId, seq := s.fb.ownSeq + 1, serial := deviceSerial, links := s.ownLinks }
    let s := { s with fb := { s.fb with ownSeq := l.seq, ownAt := s.now, nodes := s.fb.nodes.put l.node l } }
    (s.askPaths).flood l 9
  else s

/-- A port changes state.  Entering or leaving UP raises source 128 + 4p and originates an LSA; leaving UP discards its
transit frames and sets its local frames aside for the new paths (R363, R365, R369). -/
def State.setCw (s : State) (p st : Nat) : State :=
  let old := s.cwState p
  let s := s.set CWP_PSTAT_STATE st p
  if (old = cwUp) = (st = cwUp) then s
  else
    let s := s.raise (128 + 4 * p)
    let s := if old = cwUp then
        let q := (s.cwPort p).outQ
        let s := s.modCw p fun c => { c with outQ := [] }
        let s := s.each (q.filter fun e => e.1 < 4) fun _ s => s.bumpJnr JNR_HOP_DROP
        { s with fb := { s.fb with localQ := s.fb.localQ ++ ((q.filter fun e => e.1 = 4).map (·.2)) } }
      else s
    s.originate.askPaths

/-- A port goes DOWN: its retry buffer is discarded (R362). -/
def State.cwGoDown (s : State) (p st : Nat) : State :=
  (s.setCw p st).modCw p fun _ => CwPort.fresh

/-- Every enabled port goes DOWN when the mode stops ports (R362). -/
def State.portsDown (s : State) (l : List Nat := [0, 1, 2, 3]) : State :=
  s.each l fun p s => if s.cwState p = cwDisabled then s else s.cwGoDown p cwDown

/-- Send the wake pattern on a DOWN port that is enabled (R380), not under HOLD cause 0x1 (R428). -/
def State.wakeOut (s : State) (p : Nat) : State :=
  if s.cwState p = cwDown ∧ s.flag CWP_PCFG_EN p ∧ s.flag PSC_STATUS_HOLD_NOCFG = false then s.put (.wakePattern p) else s

/-- On entry to a mode in which ports run, every enabled DOWN port starts training, 1 ms after the wake pattern (R362,
R380); a disabled port is DISABLED. -/
def State.portsStart (s : State) : State :=
  s.each [0, 1, 2, 3] fun p s =>
    if !s.flag CWP_PCFG_EN p then s.cwGoDown p cwDisabled
    else if s.pw.phyFailed then s
    else if s.cwState p = cwDown ∨ s.cwState p = cwDisabled then ((s.set CWP_PSTAT_STATE cwDown p).wakeOut p).setCw p cwTrain
    else s

/-- Withdraw for a duplicate ID seen on port p (R364). -/
def State.withdraw (s : State) (p : Nat) : State :=
  let s := ({ s with fb := { s.fb with dupId := true } }.set JNR_STATUS_DUP_ID 1).raise (130 + 4 * p)
  let s := s.each ([0, 1, 2, 3].filter fun q => 3 ≤ s.cwState q) fun q s => s.setCw q cwRefused
  s.showJnr

/-- Discard a frame (R359, R360, R370).  Reasons: 0 HCRC wrong, 1 trailer wrong and not stomped, 2 stomped, 3 unexpected
SEQ, 4 unknown type, 5 foreign domain. -/
def State.discardFrame (s : State) (p reason : Nat) : State :=
  let s := if reason = 3 then s else s.linkError p
  if reason ≤ 1 then
    if (s.cwPort p).resync then s
    else ((s.modCw p fun c => { c with resync := true }).sendLink p 0x04 (s.cwPort p).rxSeq []).bumpCwp CWP_NAK_CNT p
  else if reason = 3 then s
  else (s.modCw p fun c => { c with rxSeq := (c.rxSeq + 1) % 2 ^ 32, resync := false }).bumpCwp (if reason = 2 then CWP_STOMP_CNT else CWP_DROP_CNT) p

/-- Discard a frame that its link has delivered: its receive buffer is freed too (R361). -/
def State.discardWhole (s : State) (p reason vc units : Nat) : State := (s.discardFrame p reason).freeUnits p vc units

/-- Take a frame that arrived whole on a port: whether it is accepted (R359, R360, R370), and the state after it.  A
port that is not UP takes no frame. -/
def State.acceptFrame (s : State) (p seq type domain vc units : Nat) : Bool × State :=
  if s.cwState p != cwUp then (false, s)
  else
    let s := s.bumpCwp CWP_RX_FRAMES p
    if seq != (s.cwPort p).rxSeq then (false, s.discardFrame p 3)
    else if !knownType type then (false, s.discardWhole p 4 vc units)
    else if domain != s.get JNR_CFG_DOMAIN then (false, s.discardWhole p 5 vc units)
    else
      let s := s.modCw p fun c =>
        { c with rxSeq := (c.rxSeq + 1) % 2 ^ 32, resync := false, sinceAck := c.sinceAck + 1 }
      if 16 ≤ (s.cwPort p).sinceAck then (true, (s.modCw p fun c => { c with sinceAck := 0 }).sendLink p 0x03 seq [])
      else (true, s)

/-- Take a frame addressed to this node: its receive buffer is freed at once.  A MGMT frame of another domain is taken too, for it is
answered (R438). -/
def State.acceptLocal (s : State) (p : Nat) (f : Frame) : Bool × State :=
  if f.dst != s.nodeId then (false, s)
  else
    match s.acceptFrame p f.seq f.type (if f.type = 0x40 then s.get JNR_CFG_DOMAIN else f.domain) f.vc (frameUnits f) with
    | (true, s) => (true, s.freeUnits p f.vc (frameUnits f))
    | r => r

/-- The links of a node as its advertisement gives them. -/
def FabricState.linksOf (fb : FabricState) (n : Nat) : List Link :=
  match fb.nodes.look n with
  | some l => l.links.filter fun k => fb.nodes.has k.nbr
  | none => []

/-- Hop distances from the root, layer by layer (R366). -/
def levelsFrom (fb : FabricState) : Nat → Nat → List Nat → NMap Nat → NMap Nat
  | 0, _, _, m => m
  | n + 1, d, front, m =>
    let m := front.foldl (fun m x => if m.has x then m else m.put x d) m
    let next := ((front.map fun x => (fb.linksOf x).map (·.nbr)).flatten).filter fun x => !m.has x
    if next.isEmpty then m else levelsFrom fb n (d + 1) next m

/-- Whether the link from `a` to `b` leads upward: `b` is its up end (R366). -/
def leadsUp (lev : NMap Nat) (a b : Nat) : Bool :=
  let la := lev.lookD a 1000
  let lb := lev.lookD b 1000
  decide (lb < la) || (la == lb && decide (b < a))

/-- One layer of legal paths: (node, still upward, first port). -/
def pathLayer (fb : FabricState) (lev : NMap Nat) (front : List (Nat × Bool × Nat)) : List (Nat × Bool × Nat) :=
  (front.map fun (x, up, port) =>
    (fb.linksOf x).filterMap fun k =>
      let u := leadsUp lev x k.nbr
      if u && !up then none else some (k.nbr, u, port)).flatten

/-- Shortest legal paths, ties to the lower local port (R366): node to port and hops. -/
def pathsFrom (fb : FabricState) (lev : NMap Nat) :
    Nat → Nat → List (Nat × Bool × Nat) → List (Nat × Bool) → NMap (Nat × Nat) → NMap (Nat × Nat)
  | 0, _, _, _, m => m
  | n + 1, hops, front, seen, m =>
    let new := front.filter fun (x, up, _) => !seen.contains (x, up)
    let m' := new.foldl (fun acc (x, _, port) =>
      match m.look x, acc.look x with
      | some _, _ => acc
      | none, some (q, _) => if port < q then acc.put x (port, hops) else acc
      | none, none => acc.put x (port, hops)) m
    let seen := seen ++ new.map fun (x, up, _) => (x, up)
    -- a node reached by several ports in one layer goes on with its lowest
    let front := new.map fun (x, up, port) =>
      (x, up, new.foldl (fun b (y, u, q) => if y = x ∧ u = up ∧ q < b then q else b) port)
    if new.isEmpty then m' else pathsFrom fb lev n (hops + 1) (pathLayer fb lev front) seen m'

/-- The path table of this node (R366): the root is the lowest node; no path longer than HOP_MAX. -/
def State.newPaths (s : State) : NMap (Nat × Nat) :=
  match s.fb.nodes with
  | [] => []
  | (root, _) :: _ =>
    let lev := levelsFrom s.fb 257 0 [root] []
    let me := s.nodeId
    let first := (s.fb.linksOf me).map fun k => (k.nbr, leadsUp lev me k.nbr, k.lport)
    (pathsFrom s.fb lev s.hopMax 1 first [(me, true)] []).del me

/-- Write the path table into JNR.PATH_n, in ascending order of nodes. -/
def State.showPaths (s : State) : State :=
  s.each (List.range 256) fun n s =>
    match s.fb.paths[n]? with
    | some (node, port, hops) =>
      (((s.set JNR_PATH_NODE node n).set JNR_PATH_PORT port n).set JNR_PATH_HOPS hops n).set JNR_PATH_V 1 n
    | none => (((s.set JNR_PATH_NODE 0 n).set JNR_PATH_PORT 0 n).set JNR_PATH_HOPS 0 n).set JNR_PATH_V 0 n

/-- Recompute and replace the path table in one step; a change raises source 131; local frames that waited are sent on
their new paths (R367, R369). -/
def State.recompute (s : State) : State :=
  let new := s.newPaths
  let s := if new = s.fb.paths then s else { s with fb := { s.fb with paths := new } }.showPaths.raise 131
  let s := s.set JNR_STATUS_RECOMP 0
  let q := s.fb.localQ
  let s := { s with fb := { s.fb with localQ := [] } }
  s.each q fun f s => s.sendFrame f

/-- A valid binding of a namespace of some kind (1 pooled, 2 replicated). -/
def State.bindingOf (s : State) (nsid kind : Nat) : Option Nat :=
  (List.range 64).find? fun k =>
    s.flag JNR_BIND_0_V k && s.get JNR_BIND_0_LNSID k + 1 == nsid && s.get JNR_BIND_0_KIND k == kind

/-- The 64-byte NVMe submission entry of a request frame; PRP and SGL fields are 0 (Table 13.2). -/
def entryBytes (e : SqEntry) (nsid : Nat) : List Nat :=
  le 4 (e.opc + e.cid * 65536) ++ le 4 nsid ++ zeros 32 ++ le 4 e.dw10 ++ le 4 e.dw11 ++ le 4 e.dw12 ++ le 4 e.dw13
    ++ le 4 e.dw14 ++ le 4 e.dw15

/-- The submission entry in a request frame. -/
def entryOf (b : List Nat) : SqEntry :=
  { opc := field b 0 1, cid := field b 2 2, nsid := field b 4 4, dw10 := field b 40 4, dw11 := field b 44 4,
    dw12 := field b 48 4, dw13 := field b 52 4, dw14 := field b 56 4, dw15 := field b 60 4 }

/-- Send a request's frames: the request, then its write data in DATA frames of one LBA (R371, R375); a management packet in one MGMT
frame (R438). -/
def State.sendRequest (s : State) (tag : Nat) (r : Remote) : State :=
  if r.type = 0x40 then s.sendFrame (s.frameOf 0x40 r.dst tag 3 0 r.data)
  else
  let n := r.data.length
  let s := s.sendFrame (s.frameOf r.type r.dst tag (if n = 0 then 3 else 1) 0 (entryBytes r.entry r.entry.nsid))
  s.each (List.range n) fun i s =>
    s.sendFrame (s.frameOf 0x20 r.dst tag (if i + 1 = n then 2 else 0) (4096 * i) (le 4096 (r.data.getD i 0)))

/-- Show TAGS_USED. -/
def State.showTags (s : State) : State := s.set JNR_TAGS_USED s.fb.reqs.length

/-- Begin a remote request under a tag of the pool of 8,192 (R371); none when no tag is free or DST has no path. -/
def State.newRequest (s : State) (r : Remote) : Option State :=
  if !s.hasPath r.dst then none
  else
    match s.fb.reqs.freeKey 8192 with
    | none => none
    | some tag => some ({ s with fb := { s.fb with reqs := s.fb.reqs.put tag { r with since := s.now } } }.sendRequest tag r).showTags

/-- NVMe status codes as a completion entry carries them (type × 256 + code, NVMe 2.0). -/
def statusCode : NvmeStatus → Nat
  | .success => 0x000 | .invalidOpcode => 0x001 | .invalidField => 0x002 | .commandSequenceError => 0x00C
  | .invalidQueueIdentifier => 0x101 | .invalidQueueSize => 0x102 | .completionQueueInvalid => 0x100
  | .invalidQueueDeletion => 0x10C | .invalidInterruptVector => 0x108 | .invalidNamespaceOrFormat => 0x00B
  | .invalidLogPage => 0x109 | .abortLimitExceeded => 0x103 | .asyncEventLimitExceeded => 0x105
  | .nsInsufficientCapacity => 0x115 | .nsIdUnavailable => 0x116 | .nsAlreadyAttached => 0x118
  | .nsNotAttached => 0x11A | .dataTransferError => 0x004 | .internalError => 0x006 | .commandInterrupted => 0x021
  | .abortRequested => 0x007 | .abortedSqDeletion => 0x008 | .capacityExceeded => 0x081 | .zoneBoundaryError => 0x1B8
  | .zoneIsFull => 0x1B9 | .zoneIsReadOnly => 0x1BA | .zoneIsOffline => 0x1BB | .zoneInvalidWrite => 0x1BC
  | .tooManyActiveZones => 0x1BD | .tooManyOpenZones => 0x1BE | .invalidZoneStateTransition => 0x1BF
  | .lbaOutOfRange => 0x080 | .unrecoveredReadError => 0x281 | .nsWriteProtected => 0x020
  | .invalidFirmwareImage => 0x107 | .invalidFirmwareSlot => 0x106 | .internalPathError => 0x300
  | .namespaceNotReady => 0x082 | .featureNotChangeable => 0x10E | .overlappingRange => 0x114
  | .firmwareActivationProhibited => 0x113 | .writeFault => 0x280 | .firmwareActivationRequiresReset => 0x10B
  | .accessDenied => 0x286 | .invalidController => 0x11F | .identifierInUse => 0x116 | .other c => c

/-- The name of a status code a remote node returned. -/
def statusOf (code : Nat) : NvmeStatus :=
  match ([.success, .invalidOpcode, .invalidField, .invalidNamespaceOrFormat, .dataTransferError, .internalError,
      .commandInterrupted, .capacityExceeded, .zoneBoundaryError, .zoneIsFull, .zoneIsReadOnly, .zoneIsOffline,
      .zoneInvalidWrite, .tooManyActiveZones, .tooManyOpenZones, .invalidZoneStateTransition, .lbaOutOfRange,
      .unrecoveredReadError, .nsWriteProtected, .namespaceNotReady, .accessDenied, .internalPathError, .writeFault,
      .abortRequested, .featureNotChangeable] : List NvmeStatus).find? fun st => statusCode st == code with
  | some st => st
  | none => .other code

/-- A completion entry of 16 bytes (RSP, Table 13.2). -/
def cqeBytes (st : NvmeStatus) (dw0 dw1 cid : Nat) : List Nat :=
  le 4 dw0 ++ le 4 dw1 ++ le 4 0 ++ le 4 (cid + statusCode st * 2 ^ 17)

/-- An answer goes into the duplicate table of 16,384 entries, whose oldest is evicted when it is full (R372). -/
def State.keepAnswer (s : State) (d : DupEntry) : State :=
  let s := if 16384 ≤ s.fb.dups.length then
      { s with fb := { s.fb with dups := s.fb.dups.drop 1 } }.bumpJnr JNR_DUP_EVICT
    else s
  { s with fb := { s.fb with dups := s.fb.dups ++ [d] } }

/-- Answer a request of another node (R372). -/
def State.respond (s : State) (node tag : Nat) (st : NvmeStatus) (dw0 dw1 cid : Nat) : State :=
  let s := s.keepAnswer { src := node, tag := tag, status := st, dw0 := dw0, dw1 := dw1, reply := none, since := s.now }
  s.sendFrame (s.frameOf 0x30 node tag 3 0 (cqeBytes st dw0 dw1 cid))

end Sys2Proof.Machine
end

