-- ==== Sys2Proof/Machine/OpsHost.lean ====
section
/-!
DEFINITION. Shared operations of the host link, the queue engine, the slices and the tollgate (chapters 02, 03).
Assumption log: DEDUCED (49).
-/

namespace Sys2Proof.Machine

/-- A namespace, if it exists. -/
def State.nspace (s : State) (nsid : Nat) : Option Namespace := s.ns.look nsid

/-- Whether a namespace is attached to a port. -/
def Namespace.attached (n : Namespace) (p : Nat) : Bool := if p = 0 then n.attach0 else n.attach1

/-- The context with an identifier. -/
def State.ctx (s : State) (id : Nat) : Option Ctx := s.ctxs.find? (·.id == id)

/-- Change a context. -/
def State.modCtx (s : State) (id : Nat) (f : Ctx → Ctx) : State :=
  { s with ctxs := s.ctxs.map fun c => if c.id = id then f c else c }

/-- Free a context (R41). -/
def State.freeCtx (s : State) (id : Nat) : State :=
  { s with ctxs := s.ctxs.filter (·.id != id), doneQ := s.doneQ.filter (· != id) }

/-- A command completes internally: its completion entry waits to be posted, after those that completed before it
(R46).  A replicated write whose local data has committed waits for its partner's response (R376, R377).  A request of
another node is answered at once (R373). -/
def State.complete (s : State) (id : Nat) (st : NvmeStatus) (dw0 : Nat := 0) (dw1 : Nat := 0) : State :=
  match s.ctx id with
  | none => s
  | some c =>
    if c.stage = .done then s
    else if st = .success ∧ c.replWait then s.modCtx id fun c => { c with localDone := true, dw0 := dw0, dw1 := dw1 }
    else
      let st := if st = .success ∧ c.replFailed then .internalPathError else st
      match c.remote with
      | some (node, tag, _) => (s.freeCtx id).respond node tag st dw0 dw1 c.e.cid
      | none =>
        let s := s.modCtx id fun c => { c with stage := .done, status := st, dw0 := dw0, dw1 := dw1 }
        { s with doneQ := s.doneQ ++ [id] }

/-- A command is passed to the write cache, zone engine or die scheduler. -/
def State.issue (s : State) (id : Nat) : State :=
  s.modCtx id fun c => if c.stage = .fetched then { c with stage := .issued } else c

/-- The slot of a port's queue (R38): with two ports, port 1's queue q is slot 2,048 + q. -/
def slotOf (p q : Nat) : Nat := if p = 0 then q else 2048 + q

/-- The greatest queue identifier of a port (R35, R38). -/
def State.maxQ (s : State) : Nat := if s.get GLB_CONFIG_INFO_PORTS = 2 then 2048 else 4096

/-- The valid PASID map entry that holds a PASID (R61). -/
def State.pmapOf (s : State) (pasid : Nat) : Option Nat :=
  (List.range 4096).find? fun n => s.flag SLM_PMAP_V n && s.get SLM_PMAP_PASID n == pasid

/-- The default slice of a port; S or more counts as 0 (R62). -/
def State.defSlice (s : State) (p : Nat) : Nat :=
  let d := if p = 0 then s.get SLM_PORT_DEF_DEF0 else s.get SLM_PORT_DEF_DEF1
  if d < s.sliceCount then d else 0

/-- The slice a queue's PASID maps to now (R62, R63): none when no valid entry holds it or it names no slice in force. -/
def State.sliceOf (s : State) (p : Nat) (pasid : Option Nat) : Option Nat :=
  match pasid with
  | none => some (s.defSlice p)
  | some x =>
    match s.pmapOf x with
    | none => none
    | some n => if s.get SLM_PMAP_SLICE n < s.sliceCount then some (s.get SLM_PMAP_SLICE n) else none

/-- Whether a slice may reach a namespace (R64). -/
def State.access (s : State) (slice nsid : Nat) : Bool :=
  0 < nsid && nsid ≤ 1024 && bit (s.get SLM_NSACC slice ((nsid - 1) / 32)) ((nsid - 1) % 32)

/-- The current generation of a slice (R70). -/
def State.gen (s : State) (slice : Nat) : Nat := s.get SLM_GEN slice

/-- A slice is under reset (Table 03.2). -/
def State.underReset (s : State) (slice : Nat) : Bool := (s.resets.look slice).isSome

/-- Deadline of a class in ns; none for Bulk (Table 03.3). -/
def classDeadline (cls : Nat) : Option Nat :=
  if cls = 0 then some 250000 else if cls = 1 then some 1000000 else if cls = 2 then some 10000000 else none

/-- The stored queue slot of a completion queue is full: its next tail would meet its head. -/
def Cq.full (q : Cq) : Bool := (q.tail + 1) % q.size == q.head

/-- The completion queue of a slot; 0 is a port's admin queue. -/
def State.cq (s : State) (p slot : Nat) : Option Cq := if slot = 0 then some (s.port p).acq else s.cqs.look slot

/-- Change a completion queue. -/
def State.modCq (s : State) (p slot : Nat) (f : Cq → Cq) : State :=
  if slot = 0 then s.modPort p fun pt => { pt with acq := f pt.acq } else { s with cqs := s.cqs.modify slot f }

/-- The submission queue of a slot; 0 is a port's admin queue. -/
def State.sq (s : State) (p slot : Nat) : Option Sq := if slot = 0 then some (s.port p).asq else s.sqs.look slot

/-- Change a submission queue. -/
def State.modSq (s : State) (p slot : Nat) (f : Sq → Sq) : State :=
  if slot = 0 then s.modPort p fun pt => { pt with asq := f pt.asq } else { s with sqs := s.sqs.modify slot f }

/-- Completions wait for a completion queue. -/
def State.cqWaiting (s : State) (p slot : Nat) : Bool :=
  s.ctxs.any fun c => c.port == p && c.remote.isNone && c.stage == .done && c.cqSlot == slot

/-- A completion queue is full with completions waiting (R47). -/
def State.cqStalled (s : State) (p slot : Nat) : Bool :=
  match s.cq p slot with | some q => q.full && s.cqWaiting p slot | none => false

/-- The slice that serves a queue now (R63); a queue whose PASID maps to none keeps its place in the rotation. -/
def State.queueSlice (s : State) (q : Sq) : Nat := (s.sliceOf q.port q.pasid).getD q.slice

/-- Show the stall of a completion queue in QEN.STATUS.CQ_STALL and the QINFO registers of its submission queues
(Tables 02.14, 02.16), and note since when it lasts. -/
def State.showStall (s : State) (p slot : Nat) : State :=
  let f := s.cqStalled p slot
  let s := s.modCq p slot fun q =>
    if f then { q with fullSince := q.fullSince.or (some s.now) } else { q with fullSince := none, stalled := false }
  let s := s.each s.sqs fun kq s =>
    if kq.2.cqSlot = slot && slot != 0 then
      let stop := f || s.underReset (s.queueSlice kq.2) || (s.port kq.2.port).shst != 0 || s.md.fetchStop
      (s.setB QEN_QINFO_CQ_FULL f kq.1).setB QEN_QINFO_FETCH_STOP stop kq.1
    else s
  let any := s.cqs.any (fun kq => s.cqStalled kq.2.port kq.1) || s.cqStalled 0 0 || s.cqStalled 1 0
  s.setB QEN_STATUS_CQ_STALL any

/-- Show why fetch is stopped for every queue (Table 02.16 FETCH_STOP). -/
def State.showFetch (s : State) : State :=
  s.each s.sqs fun kq s =>
    let stop := s.cqStalled kq.2.port kq.2.cqSlot || s.underReset (s.queueSlice kq.2) || (s.port kq.2.port).shst != 0
      || s.md.fetchStop
    s.setB QEN_QINFO_FETCH_STOP stop kq.1

/-- Write the slot registers of a created submission queue (Tables 02.16, 02.17). -/
def State.showQueue (s : State) (slot : Nat) : State :=
  match s.sqs.look slot with
  | none =>
    let s := ((s.set QEN_QINFO_VALID 0 slot).set QEN_QINFO_PORT 0 slot).set QEN_QINFO_QID 0 slot
    let s := ((s.set QEN_QINFO_CLASS 0 slot).set QEN_QINFO_SLICE 0 slot).set QEN_QINFO_CQ_FULL 0 slot
    ((s.set QEN_QINFO_FETCH_STOP 0 slot).set QEN_QPASID_PASID 0 slot).set QEN_QPASID_PV 0 slot
  | some q =>
    let s := ((s.set QEN_QINFO_VALID 1 slot).set QEN_QINFO_PORT q.port slot).set QEN_QINFO_QID q.qid slot
    let s := (s.set QEN_QINFO_CLASS q.cls slot).set QEN_QINFO_SLICE q.slice slot
    (s.set QEN_QPASID_PASID (q.pasid.getD 0) slot).setB QEN_QPASID_PV q.pasid.isSome slot

/-- The aec bit that enables an asynchronous event: SMART events by their critical warning bits 0 to 4, notices and
command-set events by bits 8 and 9 and 27, error and vendor events always (NVMe 2.0). -/
def aenEnabled (aec type info : Nat) : Bool :=
  if type = 1 then (if info = 1 then bit aec 1 else if info = 2 then bit aec 0 else bits aec 4 2 != 0)
  else if type = 2 then (if info = 0 then bit aec 8 else bit aec 9)
  else if type = 6 then bit aec 27
  else true

/-- Report an asynchronous event on a port (R55): when enabled and its type is not masked, it completes an outstanding
request, or waits for one. -/
def State.aen (s : State) (p type info page : Nat) : State :=
  let pt := s.port p
  if !pt.ccEn || !aenEnabled pt.feat.aec type info then s
  else if pt.aenMasked.contains type then s
  else
    let s := s.modPort p fun pt => { pt with aenMasked := if type = 0 then pt.aenMasked else insSorted type pt.aenMasked }
    match pt.aers with
    | [] => s.modPort p fun pt => { pt with aens := pt.aens ++ [{ type := type, info := info, page := page }] }
    | id :: rest =>
      (s.modPort p fun pt => { pt with aers := rest }).complete id .success (type + info * 256 + page * 65536)

/-- Report an asynchronous event on every port in use. -/
def State.aenAll (s : State) (type info page : Nat) : State := s.each s.portList fun p s => s.aen p type info page

/-- Spare Below Threshold, NVM Subsystem Reliability and Temperature Threshold events (Table 02.11, SMART type). -/
def State.aenSpare (s : State) : State := s.aenAll 1 2 0x02
def State.aenReliability (s : State) : State := s.aenAll 1 0 0x02
def State.aenTemperature (s : State) (p : Nat) : State := s.aen p 1 1 0x02

/-- JMAX in 1/4 °C. -/
def State.jmax (s : State) : Int := ofTwos 16 (s.get THM_JMAX_READING)

/-- One temperature threshold of Feature 04h on a port (R407): the sensor (0 composite), over or under. -/
def State.crossRound (s : State) (x : Nat × Nat × Bool) : State :=
  let (p, k, high) := x
  let valid := k == 0 || s.flag THM_EXT_VALID (k - 1)
  let q := if k = 0 then s.jmax else ofTwos 16 (s.get THM_EXT_READING (k - 1))
  let kelvin : Int := q / 4 + 273
  let f := (s.port p).feat
  let now := valid && (if high then decide ((f.hiC.getD k 0xFFFF : Int) < kelvin) else decide (kelvin < (f.loC.getD k 0 : Int)))
  let was := s.th.crossed.contains x
  if now && !was then (({ s with th := { s.th with crossed := s.th.crossed ++ [x] } }).aenTemperature p).raise 201
  else if !now && was then { s with th := { s.th with crossed := s.th.crossed.filter (· != x) } }
  else s

/-- Every threshold of the ports in use. -/
def State.crossings (s : State) : State :=
  let all := (s.portList.map fun p => ((List.range 9).map fun k => [(p, k, true), (p, k, false)]).flatten).flatten
  s.each all fun x s => s.crossRound x

/-- Add a zone to the Changed Zone List of the ports its namespace is attached to, with the Zone Descriptor Changed
event (R86, Table 02.11). -/
def State.zoneChanged (s : State) (nsid z : Nat) : State :=
  match s.nspace nsid with
  | none => s
  | some n =>
    s.each [0, 1] fun p s =>
      if n.attached p then
        (s.modPort p fun pt =>
          if pt.changedZones.contains (nsid, z) then pt else { pt with changedZones := pt.changedZones ++ [(nsid, z)] }).aen p 6 0 0xBF
      else s

/-- An entry of the Error Information log of a port, newest first, 64 at most. -/
def State.errEntry (s : State) (c : Ctx) (st : NvmeStatus) : State :=
  s.modPort c.port fun pt =>
    { pt with errCount := pt.errCount + 1,
              errLog := ({ count := pt.errCount + 1, slot := c.slot, cid := c.e.cid, status := st } :: pt.errLog).take 64 }

/-- The reply of every packet that waits for something is decided: its status and parameters (R431). -/
def State.packetsReady (s : State) (sel : MgWait → Bool) (status : Nat) (body : List Nat := []) : State :=
  let f (r : MgRun) : MgRun := if sel r.wait then { r with wait := .done status body } else r
  { s with mg := { s.mg with running := s.mg.running.mapVals fun _ r => f r } }

/-- Something a packet's reply waits for. -/
def State.packetWaits (s : State) (sel : MgWait → Bool) : Bool := s.mg.running.any fun e => sel e.2.wait

/-- The power state in force (R322): the lowest-numbered state among the ports with CC.EN set. -/
def State.psInForce (s : State) : Nat :=
  let l := (s.portList.filter fun p => (s.port p).ccEn).map fun p => (s.port p).feat.ps
  match l with
  | [] => 0
  | a :: t => t.foldl min a

/-- Put the power state in force and its decoder limit into effect (R321, R322). -/
def State.updatePs (s : State) : State := s.set PSC_STATUS_PS s.psInForce

/-- Programs and erases that may run on a channel (Table 11.8); none for no limit. -/
def psPrograms (ps : Nat) : Option Nat :=
  if ps = 1 then some 10 else if ps = 2 then some 6 else if ps = 3 then some 3 else none

/-- Active decoders of a power state (Table 11.8). -/
def psDecoders (ps : Nat) : Nat := if ps = 1 then 48 else if ps = 2 then 32 else if ps = 3 then 16 else 64

/-- The reads of a command's lists and data in host memory, in requests of at most the Max read request size (R29, R30, Table 02.1). -/
def State.readHost (s : State) (c : Ctx) (bytes : Nat) : State :=
  if c.remote.isSome ∨ 2 ≤ c.port then s
  else
    let g := (s.port c.port).cfg
    s.put (.hostRead c.port c.e.cid bytes (128 * 2 ^ g.mrrs) (if g.tag10 then 768 else 256) (s.tag c.port c.pasid))

end Sys2Proof.Machine
end

