-- ==== Sys2Proof/Machine/OpsPool.lean ====
section
/-!
DEFINITION. The buffer pool (R119, R120, R138 to R144): descriptors, free lists threaded from the head, minima,
waiters, release checks.
Assumption log: DEDUCED (29); DESIGN CHOICE (77).
-/

namespace Sys2Proof.Machine

/-- Descriptor key of buffer `i` of a pool (0 SRAM, 1 DRAM). -/
def bufKey (pool i : Nat) : Nat := 2 * i + pool

/-- The list a buffer belongs to: 0 SRAM, 1 + c DRAM channel c; the DRAM channels live at BOOT share the indices in equal ranges, in
ascending order (R119, R341). -/
def State.listOf (s : State) (pool i : Nat) : Nat :=
  if pool = 0 then 0 else 1 + s.pool.chans.getD (i / max 1 s.pool.per) 0

/-- First index and number of buffers of a list. -/
def State.listRange (s : State) (l : Nat) : Nat × Nat :=
  if l = 0 then (0, s.get BPL_SIZE 0)
  else (s.pool.chans.findIdx (· == l - 1) * s.pool.per, if s.pool.chans.contains (l - 1) then s.pool.per else 0)

/-- The index that marks the end of a free list (R138). -/
def listEnd : Nat := 0xFFFFF

/-- The pool of a list. -/
def listPool (l : Nat) : Nat := if l = 0 then 0 else 1

/-- The link word of buffer `own` (R138): the next free index, and the complement of its own. -/
def linkWord (own next : Nat) : Nat := next % 2 ^ 20 + 2 ^ 32 * (2 ^ 32 - 1 - own % 2 ^ 32)

/-- The link word a free buffer of a list holds. -/
def State.linkOf (s : State) (l i : Nat) : Nat :=
  let (b, n) := s.listRange l
  (s.pool.links.look (bufKey (listPool l) i)).getD (linkWord i (if i + 1 < b + n then i + 1 else listEnd))

/-- The next index a link word names. -/
def linkNext (w : Nat) : Nat := w % 2 ^ 20

/-- A link word is good (R143): it holds the complement of its buffer's own index, and its next index lies in the list's range. -/
def State.linkOk (s : State) (l i : Nat) : Bool :=
  let (b, n) := s.listRange l
  let w := s.linkOf l i
  w / 2 ^ 32 == 2 ^ 32 - 1 - i && (linkNext w == listEnd || (decide (b ≤ linkNext w) && decide (linkNext w < b + n)))

/-- The head of a free list. -/
def State.listHead (s : State) (l : Nat) : Option Nat :=
  let (b, n) := s.listRange l
  match s.pool.heads.look l with
  | some i => if i = listEnd then none else some i
  | none => if 0 < n then some b else none

/-- Remove the head `i` of a free list: the index its link word names is the new one. -/
def State.takeHead (s : State) (l i : Nat) : State :=
  { s with pool := { s.pool with heads := s.pool.heads.put l (linkNext (s.linkOf l i)), links := s.pool.links.del (bufKey (listPool l) i) } }

/-- Allocated buffers of a list. -/
def State.listUsed (s : State) (l : Nat) : List Nat :=
  let (b, n) := s.listRange l
  s.pool.desc.filterMap fun e =>
    if e.1 % 2 = listPool l ∧ b ≤ e.1 / 2 ∧ e.1 / 2 < b + n then some (e.1 / 2) else none

/-- Free buffers of a list, shown in BPL.FREE_l; a lost channel has none (R124). -/
def State.freeCount (s : State) (l : Nat) : Nat :=
  if l != 0 ∧ s.flag DMC_CH_STAT_LOST (l - 1) then 0 else (s.listRange l).2 - (s.listUsed l).length

/-- The first index from `i` on that is not allocated, below `top`. -/
def nextFree (used : List Nat) (top : Nat) : Nat → Nat → Option Nat
  | 0, _ => none
  | k + 1, i => if top ≤ i then none else if used.contains i then nextFree used top k (i + 1) else some i

/-- The list threaded anew through its free buffers, lowest index first, from the descriptors (R143). -/
def State.rethread (s : State) (l : Nat) : State :=
  let (b, n) := s.listRange l
  let used := s.listUsed l
  let next (i : Nat) : Nat := (nextFree used (b + n) (used.length + 1) i).getD listEnd
  let mine (k : Nat) : Bool := k % 2 == listPool l && decide (b ≤ k / 2) && decide (k / 2 < b + n)
  let links := s.pool.links.keep fun k _ => !mine k
  let links := used.foldl (fun m i =>
    if b < i ∧ !used.contains (i - 1) then m.put (bufKey (listPool l) (i - 1)) (linkWord (i - 1) (next i)) else m) links
  { s with pool := { s.pool with heads := s.pool.heads.put l (next b), links := links } }

def State.showFree (s : State) (l : Nat) : State := s.set BPL_FREE (s.freeCount l) l

/-- Buffers of a pool charged to a slice. -/
def State.bufUsed (s : State) (pool slice : Nat) : Nat :=
  (s.pool.desc.filter fun kd => kd.1 % 2 == pool && !kd.2.internal && kd.2.slice == slice).length

/-- Internal units of Table 05.1, by the row of the table: 0 SDF and LDC, 1 JNR, 2 XLT, 3 Detour and Return, 4 rebuild,
5 FWC and MGI; and their minima. -/
def unitMin (pool unit : Nat) : Nat :=
  if pool = 0 then ([192, 64, 64, 32, 0, 32][unit]?).getD 0 else ([0, 49152, 24576, 16384, 4096, 4096][unit]?).getD 0

/-- The row of Table 05.1 a master identifier (Table 14.3) belongs to. -/
def unitOf (owner : Nat) : Nat :=
  if owner = 0x2B then 1 else if owner = 0x26 then 2 else if owner = 0x2E ∨ owner = 0x2F then 3
  else if owner ≤ 0x12 ∨ owner = 0x2C then 5 else if 0x80 ≤ owner ∧ owner ≤ 0xBF ∨ owner = 0x2A then 0 else 4

def State.unitUsed (s : State) (pool unit : Nat) : Nat :=
  (s.pool.desc.filter fun kd => kd.1 % 2 == pool && kd.2.internal && kd.2.unit == unit).length

/-- Buffers taken of the internal remainder: those internal units hold beyond their minima, and those held for fenced rows, here unit 9
(R346). -/
def State.remainderUsed (s : State) (pool : Nat) : Nat :=
  (List.range 6).foldl (fun n u => n + (s.unitUsed pool u - unitMin pool u)) 0 + s.unitUsed pool 9

/-- The internal remainder of a pool (Table 05.1). -/
def State.remainder (s : State) (pool : Nat) : Nat :=
  s.get BPL_IRES pool - (List.range 6).foldl (fun n u => n + unitMin pool u) 0

/-- A slice's minimum in a pool: its budget word (R69, R120). -/
def State.sliceMin (s : State) (pool slice : Nat) : Nat := s.budget slice (if pool = 0 then 6 else 7)

/-- Whether an allocation is within the requester's minimum or the internal remainder (R139). -/
def State.mayAlloc (s : State) (w : BufWait) : Bool :=
  if s.mode = .detour then w.owner == 0x2E
  else if w.internal then
    s.unitUsed w.pool w.unit < unitMin w.pool w.unit || s.remainderUsed w.pool < s.remainder w.pool
  else s.bufUsed w.pool w.slice < s.sliceMin w.pool w.slice

/-- A DRAM channel is fitted and not lost. -/
def State.chLive (s : State) (c : Nat) : Bool := !s.flag DMC_CH_STAT_LOST c && s.get DMC_CH_STAT_POP c != 0

/-- Live DRAM channels. -/
def State.liveChans (s : State) : List Nat := (List.range 4).filter s.chLive

/-- The list an allocation takes from; a DRAM allocation takes the first channel from `ch` on with a free buffer. -/
def State.allocList (s : State) (pool ch : Nat) : Option Nat :=
  if pool = 0 then (if s.pool.broken.contains 0 then none else (s.listHead 0).map fun _ => 0)
  else
    ((List.range 4).map fun k => 1 + (ch + k) % 4).find? fun l =>
      !s.pool.broken.contains l && (s.listHead l).isSome && s.chLive (l - 1)

/-- A free list is broken (R143, R330): nothing is allocated from it until it has been rebuilt. -/
def State.breakList (s : State) (l : Nat) : State :=
  let s := ((s.set BPL_STATUS_BROKEN 1).set BPL_STATUS_REBUILDING 1).bump blkBPL BPL_BROKEN_CNT 0 1 ownBPL
  { s with pool := { s.pool with broken := insSorted l s.pool.broken } }.raise 285

/-- The descriptor of a buffer allocated for a requester. -/
def BufWait.desc (w : BufWait) : BufDesc :=
  { shared := false, refcnt := 0, owner := w.owner, slice := if w.internal then 0 else w.slice, internal := w.internal, unit := w.unit,
    gen := if w.internal then 0 else w.gen }

/-- Take the head of a list for a requester.  A bad link word breaks the list instead (R143). -/
def State.allocFrom (s : State) (l : Nat) (w : BufWait) : Option Nat × State :=
  match s.listHead l with
  | none => (none, s)
  | some i =>
    if s.linkOk l i then
      let s := s.takeHead l i
      (some i, { s with pool := { s.pool with desc := s.pool.desc.put (bufKey w.pool i) w.desc } }.showFree l)
    else (none, s.breakList l)

/-- Hold buffer `i` of a list for a requester, wherever it stands in the list (R346). -/
def State.holdBuffer (s : State) (l i : Nat) (w : BufWait) : State :=
  (({ s with pool := { s.pool with desc := s.pool.desc.put (bufKey w.pool i) w.desc } }).rethread l).showFree l

/-- One allocation (R139): the buffer, or none when it cannot be served now. -/
def State.alloc (s : State) (w : BufWait) (ch : Nat) : Option Nat × State :=
  if s.mayAlloc w then
    match s.allocList w.pool ch with
    | some l => s.allocFrom l w
    | none => (none, s)
  else (none, s)

/-- A waiter behind an earlier one of the same slice or unit waits its turn (R139). -/
def BufWait.samePlace (a b : BufWait) : Bool :=
  a.pool == b.pool && a.internal == b.internal && (if a.internal then a.unit == b.unit else a.slice == b.slice)

/-- A write of the slice that reached the zone engine before number `seq` waits for DRAM buffers (R139). -/
def State.writeWaits (s : State) (slice seq : Nat) : Bool :=
  s.zn.adm.any fun a => a.slice == slice && decide (a.id < seq) && a.stage == .buffers && a.why == .buffers

/-- A waiter has an earlier one of its slice or unit before it (R139). -/
def State.behind (s : State) (w : BufWait) (ahead : List BufWait) : Bool :=
  ahead.any (fun x => x.samePlace w) || (w.pool == 1 && !w.internal && s.writeWaits w.slice w.seq)

/-- A write waits behind an earlier write of its slice, or an earlier allocation (R139). -/
def State.writeBehind (s : State) (slice id : Nat) : Bool :=
  s.writeWaits slice id || s.pool.waiters.any fun w => w.pool == 1 && !w.internal && w.slice == slice && decide (w.seq ≤ id)

/-- Serve the waiters in arrival order, each when it can be served (R139). -/
def State.serveWaiters (s : State) : State :=
  s.pool.waiters.foldl (fun st w =>
    if !st.pool.waiters.contains w || st.behind w (st.pool.waiters.takeWhile fun x => x != w) then st
    else
      match st.alloc w 0 with
      | (some _, st') => { st' with pool := { st'.pool with waiters := st'.pool.waiters.erase w } }
      | (none, st') => st') s

/-- Return a buffer: its link word is written into it, and it becomes the head of its list (R138). -/
def State.giveBack (s : State) (pool i : Nat) : State :=
  let l := s.listOf pool i
  let word := linkWord i ((s.listHead l).getD listEnd)
  let s := { s with pool := { s.pool with desc := s.pool.desc.del (bufKey pool i), links := s.pool.links.put (bufKey pool i) word,
                                          heads := s.pool.heads.put l i } }
  s.showFree l

/-- Record a double free (kind 1) or owner error (kind 2) (R142). -/
def State.bufError (s : State) (kind pool i owner : Nat) : State :=
  let s := if kind = 1 then s.bump blkBPL BPL_DFREE_CNT 0 1 ownBPL else s.bump blkBPL BPL_OWNER_CNT 0 1 ownBPL
  if s.flag BPL_STATUS_DFREE || s.flag BPL_STATUS_OWNER then s
  else
    let s := ((s.set BPL_ERR_IDX i).set BPL_ERR_INFO_MASTER owner).set BPL_ERR_INFO_POOL pool
    let s := s.set BPL_ERR_INFO_KIND kind
    let s := (s.set (if kind = 1 then BPL_STATUS_DFREE else BPL_STATUS_OWNER) 1).raise 279
    s.reportCE (i + pool * 2 ^ 20) owner 7 6

/-- Release by the named owner (R140, R142). -/
def State.release (s : State) (pool i owner : Nat) : State :=
  match s.pool.desc.look (bufKey pool i) with
  | none => s.bufError 1 pool i owner
  | some d => if d.shared || d.owner != owner then s.bufError 2 pool i owner else (s.giveBack pool i).serveWaiters

/-- DROP of a shared buffer (R141, R142). -/
def State.dropBuf (s : State) (pool i owner : Nat) : State :=
  match s.pool.desc.look (bufKey pool i) with
  | none => s.bufError 1 pool i owner
  | some d =>
    if !d.shared then s.bufError 2 pool i owner
    else if d.refcnt ≤ 1 then (s.giveBack pool i).serveWaiters
    else { s with pool := { s.pool with desc := s.pool.desc.put (bufKey pool i) { d with refcnt := d.refcnt - 1 } } }

/-- The units that may share a buffer (R141): the Detour engine, the JNR and the SDF. -/
def mayShare (owner : Nat) : Bool := owner == 0x2E || owner == 0x2B || (0x80 ≤ owner && owner ≤ 0xBF)

/-- SHARE(n) (R141).  DESIGN CHOICE (log 77): a SHARE of a buffer whose STATE is 0 counts as an owner error. -/
def State.shareBuf (s : State) (pool i owner n : Nat) : State :=
  match s.pool.desc.look (bufKey pool i) with
  | none => s.bufError 2 pool i owner
  | some d =>
    let next := if d.shared then d.refcnt + n else n + 1
    if !mayShare owner || (!d.shared && d.owner != owner) || next > 15 || n = 0 || n > 14 then s.bufError 2 pool i owner
    else
      let d' := { d with shared := true, refcnt := next, owner := 0 }
      { s with pool := { s.pool with desc := s.pool.desc.put (bufKey pool i) d' } }

/-- TRANSFER (R140).  DESIGN CHOICE (log 77): one by another than the owner, of a shared or of a free buffer, counts as an owner error. -/
def State.transferBuf (s : State) (pool i owner new : Nat) : State :=
  match s.pool.desc.look (bufKey pool i) with
  | none => s.bufError 2 pool i owner
  | some d =>
    if d.shared || d.owner != owner then s.bufError 2 pool i owner
    else { s with pool := { s.pool with desc := s.pool.desc.put (bufKey pool i) { d with owner := new } } }

/-- The descriptor word of Table 05.3, as BPL.DESC_DATA shows it. -/
def State.descWord (s : State) (pool i : Nat) : Nat :=
  match s.pool.desc.look (bufKey pool i) with
  | none => 0
  | some d =>
    1 + bNat d.shared * 2 + d.refcnt * 4 + d.owner * 2 ^ 6 + d.slice * 2 ^ 14 + bNat d.internal * 2 ^ 22

/-- Pool sizes (R119, R124, Table 05.1): the DRAM pool of `size` buffers with `used` of them in the hands of XLT for a lost map (R238);
reserves and ceiling follow from the rest. -/
def State.sizePools (s : State) (size used : Nat) : State :=
  let b := size - used
  let ires := b / 5 / 4 * 4
  let sres := b - ires
  let s := ((s.set BPL_SIZE 3072 0).set BPL_IRES 512 0).set BPL_SRES 2560 0
  let s := ((s.set BPL_SIZE size 1).set BPL_IRES ires 1).set BPL_SRES sres 1
  s.set WCU_DIRTY_CFG_CEIL_MAX (sres * 65536 / 2 / 67108864)

/-- Take `n` buffers of a list for the XLT's map (R238), here unit 10, beside its minimum. -/
def State.takeMany (l : Nat) : Nat → State → State
  | 0, s => s
  | n + 1, s =>
    State.takeMany l n (s.allocFrom l { pool := 1, owner := 0x26, unit := 10, slice := 0, internal := true, gen := 0, seq := 0 }).2

end Sys2Proof.Machine
end

