-- ==== Sys2Proof/Machine/OpsFlash.lean ====
section
/-!
DEFINITION. Flash sequencers and die scheduler (chapter 06): dies and their blocks, tokens, queues, the decision
order, program checks, and channel transfers.
Assumption log: DEDUCED (30); DESIGN CHOICE (85, 100).
-/

namespace Sys2Proof.Machine

/-- The key of die `d` of channel `c`. -/
def dieKey (c d : Nat) : Nat := 32 * c + d

/-- A die with empty queues whose blocks were never used. -/
def Die.fresh : Die :=
  { reads := [], progs := [], erases := [], ints := [], held := [], run := none, winRead := none, blocks := [],
    sparesUsed := 0, retiredAt := [], res := 4, dual := true, seq := 0, samples := none, refs := [] }

/-- A die's state; an unlisted die is fresh. -/
def State.die (s : State) (c d : Nat) : Die := s.fl.dies.lookD (dieKey c d) Die.fresh

def State.modDie (s : State) (c d : Nat) (f : Die → Die) : State :=
  { s with fl := { s.fl with dies := s.fl.dies.put (dieKey c d) (f (s.die c d)) } }

/-- Die states of Table 06.11. -/
def dieAbsent : Nat := 0
def dieActive : Nat := 1
def dieSpare : Nat := 2
def dieFailed : Nat := 3
def dieRebuilding : Nat := 4
def dieReplaced : Nat := 5

/-- A die in service: active, or a spare that replaces a failed die. -/
def State.inService (s : State) (c d : Nat) : Bool :=
  let st := s.get FSQ_DIE_STATE c d
  st == dieActive || st == dieRebuilding || st == dieReplaced

/-- Dies of a channel in service, ascending. -/
def State.activeDies (s : State) (c : Nat) : List Nat := (List.range 32).filter (s.inService c)

/-- A channel has failed (R174). -/
def State.chFailed (s : State) (c : Nat) : Bool := s.get FSQ_STATUS_STATE c == 2

/-- A block never used: ERASED with NPP 0 and owned by nothing. -/
def Block.fresh : Block := { st := .erased, npp := 0, media := .qlc, pe := 0, owned := false, firstMs := 0 }

/-- A multi-plane block. -/
def State.block (s : State) (c d b : Nat) : Block := (s.die c d).blocks.lookD b Block.fresh

/-- Change a block. -/
def State.modBlock (s : State) (c d b : Nat) (f : Block → Block) : State :=
  s.modDie c d fun di => { di with blocks := di.blocks.put b (f (di.blocks.lookD b Block.fresh)) }

/-- Blocks of a die in use: 1,024, and the spare blocks taken (chapter 08). -/
def State.usable (s : State) (c d b : Nat) : Bool := b < 1024 + (s.die c d).sparesUsed

/-- The lowest-numbered free erased block of a die (R89). -/
def State.freeBlock (s : State) (c d : Nat) : Option Nat :=
  (List.range (1024 + (s.die c d).sparesUsed)).find? fun b =>
    let bl := s.block c d b
    bl.st == .erased && !bl.owned

/-- Free erased blocks of a die. -/
def State.freeBlocks (s : State) (c d : Nat) : Nat :=
  1024 + (s.die c d).sparesUsed
    - ((s.die c d).blocks.filter fun kb => kb.2.owned || kb.2.st != .erased).length

/-- An erase after which its block is free: not one of the dump area, whose blocks stay owned, nor a raw one, which changes no block state. -/
def DieOp.frees (o : DieOp) : Bool := o.kind == .erase && (match o.owner with | .eraseDump _ => false | .raw => false | _ => true)

/-- Erases of a die to come whose blocks will be free (R90). -/
def State.pendingErases (s : State) (c d : Nat) : Nat :=
  let di := s.die c d
  ((di.erases ++ di.held).filter DieOp.frees).length + (match di.run with | some r => bNat r.op.frees | none => 0)

/-- Show the operation a die runs and its open and retired blocks (Table 06.11). -/
def State.showDie (s : State) (c d : Nat) : State :=
  let di := s.die c d
  let op := match di.run with
    | none => if di.winRead.isSome then 1 else 0
    | some r =>
      match r.op.kind, r.window with
      | .program, some _ => 4
      | .erase, some _ => 5
      | .program, none => 2
      | .erase, none => 3
      | .setting, _ => 0
      | _, _ => 1
  let s := s.set FSQ_DIE_OP op c d
  let s := s.set FSQ_DIE_OPEN_BLKS (di.blocks.filter fun kb => kb.2.st == .opened).length c d
  s.set FSQ_DIE_RETIRED (di.blocks.filter fun kb => kb.2.st == .retired).length c d

/-- The key of a slice's token bucket on a die; slice 0x100 is the internal reserve, 0x101 the rebuild bucket. -/
def tokKey (c d n : Nat) : Nat := 512 * dieKey c d + n

/-- A bucket in 1/16 µs (R68). -/
def State.tokens (s : State) (c d n : Nat) : Int := s.fl.tokens.lookD (tokKey c d n) 0

def State.setTokens (s : State) (c d n : Nat) (v : Int) : State :=
  { s with fl := { s.fl with tokens := s.fl.tokens.putD (tokKey c d n) v 0 } }

/-- The internal reserve in percent (Table 06.12), as the last power-on read it (R162). -/
def State.ires (s : State) : Nat := min s.fl.ires 50

/-- The gain of a bucket each 1 ms in 1/16 µs: a slice's budget word 8; the internal reserve; the rebuild share. -/
def State.gain (s : State) (n : Nat) : Nat :=
  if n < 256 then s.budget n 8
  else if n = 256 then 16000 * s.ires / 100
  else 16000 * s.ires / 100 * min (s.get DSC_CFG_REBUILD_PCT) 100 / 100

/-- One refill (R68, R162): the gain, capped at 64 ms of it. -/
def State.refill (s : State) (c d n : Nat) : State :=
  let g : Int := s.gain n
  s.setTokens c d n (min (s.tokens c d n + g) (64 * g))

/-- The bucket an operation is charged to. -/
def DieOp.bucket (o : DieOp) : Nat := if o.internal then 256 else o.slice

/-- The buckets an operation is charged to: those of the owners of its data, if it programs data of several. -/
def DieOp.buckets (o : DieOp) : List Nat := if o.parts.isEmpty then [o.bucket] else o.parts.map (·.1)

/-- What each bucket pays of a busy time (R68): owners share it by their LBAs, and the first takes what the division leaves. -/
def DieOp.charges (o : DieOp) (q : Nat) : List (Nat × Nat) :=
  match o.parts with
  | [] => [(o.bucket, q)]
  | (b, _) :: t =>
    let n := o.parts.foldl (fun n e => n + e.2) 0
    let rest := t.map fun e => (e.1, q * e.2 / max 1 n)
    (b, q - rest.foldl (fun n e => n + e.2) 0) :: rest

/-- Whether an operation's buckets on the die are above 0 (R162, R163). -/
def State.hasTokens (s : State) (c d : Nat) (o : DieOp) : Bool :=
  !o.needsTokens || ((o.buckets.all fun b => decide (0 < s.tokens c d b)) && (!o.rebuildRead || decide (0 < s.tokens c d 257)))

/-- Debit an operation's measured busy time in ns (R68, R162). -/
def State.debit (s : State) (c d : Nat) (o : DieOp) (ns : Nat) : State :=
  if !o.needsTokens then s
  else
    let q := ns * 16 / 1000
    let s := s.each (o.charges q) fun e s => s.setTokens c d e.1 (s.tokens c d e.1 - e.2)
    if o.rebuildRead then s.setTokens c d 257 (s.tokens c d 257 - q) else s

/-- Whether a slice's work is ordered before another's at equal deadlines: lower slice first, internal last. -/
def DieOp.tie (o : DieOp) : Nat := if o.internal then 1000 else o.slice

/-- Read order of Table 06.5 step 3. -/
def DieOp.readKey (o : DieOp) : Nat := o.time * 2048 + o.tie

/-- Program order of Table 06.5 step 4: journal and single-copy flushes, then route priority 3 to 0, then rebuild
programs; oldest commit time within each. -/
def DieOp.progKey (o : DieOp) : Nat :=
  (if o.first then 0 else match o.owner with | .rebuild .. => 5 | _ => 4 - min o.prio 3) * 2 ^ 80 + o.time

/-- Whether an operation is a Detour dump program. -/
def DieOp.isDump (o : DieOp) : Bool := match o.owner with | .dump _ => true | _ => false

/-- Whether an operation is a read. -/
def DieOp.isRead (o : DieOp) : Bool := o.kind == .hardRead || o.kind == .sampleRead

/-- Programs that are never suspended (R160): dump programs, journal programs and programs to the dump area. -/
def DieOp.unsuspendable (o : DieOp) : Bool := match o.owner with | .dump _ => true | .journal _ => true | _ => false

/-- Depth of a queue (R152). -/
def queueDepth (k : OpKind) : Nat :=
  match k with | .hardRead => 32 | .sampleRead => 32 | .program => 8 | .erase => 4 | .setting => 8

/-- Put an operation in its queue, or hold it at the unit when the queue is full (R152, R153). -/
def Die.enqueue (di : Die) (o : DieOp) : Die :=
  match o.kind with
  | .hardRead | .sampleRead =>
    if di.reads.length < 32 then { di with reads := di.reads ++ [o] } else { di with held := di.held ++ [o] }
  | .program => if di.progs.length < 8 then { di with progs := di.progs ++ [o] } else { di with held := di.held ++ [o] }
  | .erase => if di.erases.length < 4 then { di with erases := di.erases ++ [o] } else { di with held := di.held ++ [o] }
  | .setting => if di.ints.length < 8 then { di with ints := di.ints ++ [o] } else { di with held := di.held ++ [o] }

/-- Admit one held operation to each queue that has an entry free, in the order of R153. -/
def Die.letInHeld (di : Die) : Die :=
  let take (di : Die) (sel : DieOp → Bool) (key : DieOp → Nat) (room : Bool) : Die :=
    if room then
      match leastBy key (di.held.filter sel) with
      | some o => { di with held := di.held.filter (·.id != o.id) }.enqueue o
      | none => di
    else di
  let di := take di (·.isRead) DieOp.readKey (di.reads.length < 32)
  let di := take di (·.kind == .program) DieOp.progKey (di.progs.length < 8)
  let di := take di (·.kind == .erase) (·.time) (di.erases.length < 4)
  take di (·.kind == .setting) (·.id) (di.ints.length < 8)

/-- Admit held operations until none finds an entry free. -/
def Die.letInN : Nat → Die → Die
  | 0, di => di
  | n + 1, di => Die.letInN n di.letInHeld

def Die.admitHeld (di : Die) : Die := Die.letInN di.held.length di

/-- A channel's training state. -/
def State.chan (s : State) (c : Nat) : Chan :=
  s.fl.chans.lookD c { lastSlot := 0, lastDie := 31, trainTemp := none, fullRunning := false, fullSince := 0, queuedAt := 0 }

def State.modChan (s : State) (c : Nat) (f : Chan → Chan) : State :=
  { s with fl := { s.fl with chans := s.fl.chans.put c (f (s.chan c)) } }

/-- Queued and held operations of a die. -/
def Die.queued (di : Die) : List DieOp := di.reads ++ di.progs ++ di.erases ++ di.ints ++ di.held

/-- A channel has had an operation queued until now, if one of its dies holds one (R181). -/
def State.noteQueued (s : State) (c d : Nat) : State :=
  if (s.die c d).queued.isEmpty then s else s.modChan c fun x => { x with queuedAt := s.now }

/-- Queue an operation on a die, under a new identifier. -/
def State.queueOp (s : State) (c d : Nat) (o : DieOp) : State :=
  let o := { o with id := s.fl.nextOp }
  let s := { s with fl := { s.fl with nextOp := s.fl.nextOp + 1 } }
  (s.modDie c d fun di => di.enqueue o).noteQueued c d

/-- An operation with the fields most have. -/
def DieOp.base : DieOp :=
  { id := 0, kind := .hardRead, block := 0, wl := 0, plane := 0, page := 0, media := .qlc, slice := 0, gen := 0,
    internal := true, parts := [], time := 0, cls := 3, prio := 0, first := false, needsTokens := true, rebuildRead := false,
    peer := false, cws := [], step := 0, owner := .other, data := [], dual := false, res := 4, refs := [] }

/-- Withdraw queued and held operations that a test accepts (R167, Table 03.2 step 3). -/
def Die.withdraw (di : Die) (p : DieOp → Bool) : Die :=
  { di with reads := di.reads.filter (!p ·), progs := di.progs.filter (!p ·), erases := di.erases.filter (!p ·),
            ints := di.ints.filter (!p ·), held := di.held.filter (!p ·) }

/-- Program refusal code of Table 06.3 for a program of a wordline; 0 when it may be issued (R155). -/
def State.refusal (s : State) (c d : Nat) (o : DieOp) : Nat :=
  let b := s.block c d o.block
  if o.kind = .erase then (if b.st = .retired then 4 else 0)
  else if o.kind != .program then 0
  else match b.st with
    | .retired => 4
    | .full => 3
    | .opened => if o.wl < b.npp then 1 else if b.npp < o.wl then 2 else 0
    | .erased =>
      if 0 < o.wl then 2
      else if 128 ≤ ((s.die c d).blocks.filter fun kb => kb.2.st == .opened).length then 5 else 0

/-- Raw media commands bypass the block states (R158). -/
def DieOp.checked (o : DieOp) : Bool := o.owner != .raw

/-- The die accepts a program: NPP advances, the block is OPEN or FULL (R154, R155). -/
def State.acceptProgram (s : State) (c d : Nat) (o : DieOp) : State :=
  if o.kind = .program ∧ o.checked then
    s.modBlock c d o.block fun b =>
      { b with st := if o.wl = 1023 then .full else .opened, npp := o.wl + 1, media := if o.wl = 0 then o.media else b.media,
               firstMs := if o.wl = 0 then s.ms.opMs else b.firstMs }
  else s

/-- An operation that a die runs for an owner that has given it up: it ends without effect on the owner. -/
def Running.orphan (mine : DieOp → Bool) (r : Running) : Running := if mine r.op then { r with op := { r.op with owner := .other } } else r

/-- A member program waits while its group's partial parity is rebuilt (R105). -/
def State.heldByRecomp (s : State) (o : DieOp) : Bool :=
  match o.owner with
  | .member k _ i =>
    match s.zn.zones.look k with
    | some z => s.zn.recompPending.contains (k, if z.split then i / 7 else 0)
    | none => false
  | _ => false

/-- Programs and erases that run on a channel, for the limit of the power state (Table 11.8). -/
def State.progsRunning (s : State) (c : Nat) : Nat :=
  ((List.range 32).filter fun d =>
    match (s.die c d).run with
    | some r => (r.op.kind == .program || r.op.kind == .erase) && r.window.isNone
    | none => false).length

/-- Whether the power state lets another program or erase start on a channel (R321); not in DETOUR and RETURN (R323). -/
def State.psRoom (s : State) (c : Nat) : Bool :=
  if s.mode = .detour ∨ s.mode = .ret then true
  else match psPrograms (s.get PSC_STATUS_PS) with | none => true | some n => s.progsRunning c < n

/-- Whether programs may start now: not while the thermal monitor forbids flash writes, dump programs excepted (R166), not
in HOLD (R309), and not while the flash pads are held (R316). -/
def State.progAllowed (s : State) (o : DieOp) : Bool :=
  o.isDump || (!s.flag THM_STATUS_WR_FORBID && s.mode != .hold)

/-- Reads a suspend window may run (Table 06.13). -/
def State.windowReads (s : State) : Nat := max 1 (s.get DSC_SUSP_CFG_READS)

/-- The operation the DSC starts next on a die (R163, Table 06.5, R482), with the order step it was taken from.  On an
idle die: in DETOUR dump programs; settings; reads; programs; erases.  In an open read window: reads only. -/
def State.nextOp (s : State) (c d : Nat) : Option DieOp :=
  let di := s.die c d
  let elig := fun o => s.hasTokens c d o
  let reads := leastBy DieOp.readKey (di.reads.filter elig)
  if di.winRead.isSome ∨ di.samples.isSome then none
  else match di.run with
  | some r =>
    match r.window with
    | some n => if n < s.windowReads ∧ s.mode != .detour then reads else none
    | none => none
  | none =>
    if s.mode = .detour ∨ s.flag DSC_STATUS_DETOUR then leastBy (·.id) (di.progs.filter (·.isDump))
    else
      match di.ints with
      | o :: _ => some o
      | [] =>
        match reads with
        | some o => some o
        | none =>
          match leastBy DieOp.progKey (di.progs.filter fun o => elig o && s.progAllowed o && s.psRoom c && !s.heldByRecomp o) with
          | some o => some o
          | none => if s.psRoom c ∧ s.mode != .hold then leastBy (·.time) (di.erases.filter elig) else none

/-- Remove an operation from its die's queues. -/
def State.dequeue (s : State) (c d id : Nat) : State :=
  (s.noteQueued c d).modDie c d fun di => (di.withdraw (·.id == id)).admitHeld

/-- Bits per cell of a media mode (Table 04.1). -/
def Media.bitsPer : Media → Nat
  | .qlc => 4 | .tlc => 3 | .slc => 1

/-- The code of a media mode (Table 04.6). -/
def Media.code : Media → Nat
  | .qlc => 0 | .tlc => 1 | .slc => 2

/-- The media mode of a code; 0b11 is an unchecked host error. -/
def mediaOf (n : Nat) : Media := if n = 0 then .qlc else if n = 1 then .tlc else .slc

/-- Time of a reference die operation in ns (Table 06.4), which estimates remaining busy time. -/
def DieOp.estimate (o : DieOp) : Nat :=
  match o.kind with
  | .hardRead => 50000
  | .sampleRead => 90000
  | .erase => 8000000
  | .setting => 1000
  | .program => match o.media with | .qlc => 2400000 | .tlc => 1200000 | .slc => 150000

/-- Issue a suspend; the busy time goes on until the die reports its operation suspended (R68). -/
def State.suspend (s : State) (c d : Nat) : State :=
  let s := s.modDie c d fun di => { di with run := di.run.map fun r => { r with suspending := true, suspends := r.suspends + 1 } }
  s.bumpFsq FSQ_SUSP_CNT c

/-- Spare blocks of a channel's active dies not yet used (R242), shown in XLT.SPARE_c. -/
def State.spareLeft (s : State) (c : Nat) : Nat := s.get XLT_SPARE_LEFT c

end Sys2Proof.Machine
end

