-- ==== Sys2Proof/Machine/OpsMem.lean ====
section
/-!
DEFINITION. Tickets (R445); the DRAM channels: address mapping, queues, bus, activation counts, candidates, scrubs; and
the SRAM protection state (chapter 12), short of the reactions of other units.
Assumption log: DEDUCED (50, 51); DESIGN CHOICE (94).
-/

namespace Sys2Proof.Machine

/-- Change a ticket. -/
def State.modTicket (s : State) (n : Nat) (f : Ticket → Ticket) : State :=
  { s with mg := { s.mg with tickets := s.mg.tickets.modify n f } }

/-- A ticket's work begins (R444). -/
def State.ticketRun (s : State) (n : Option Nat) : State :=
  match n with
  | some n => s.modTicket n fun t => { t with state := 2 }
  | none => s

/-- A ticket's work waits again (R446). -/
def State.ticketQueue (s : State) (n : Option Nat) : State :=
  match n with
  | some n => s.modTicket n fun t => { t with state := 1 }
  | none => s

/-- A ticket's work ends: 3 passed, 4 failed, 6 aborted, with its result words (R445). -/
def State.ticketEnd (s : State) (n : Option Nat) (st r0 : Nat) (r1 r2 r3 : Nat := 0) : State :=
  match n with
  | some n => s.modTicket n fun t => { t with state := st, r0 := r0, r1 := r1, r2 := r2, r3 := r3, ended := some s.now }
  | none => s

/-- Reset counters of the DMC and MPU (R355); owners of their saturation are the channels. -/
def blkMPU : CntBlock := ⟨MPU_STATUS_SAT, 223, [MPU_CE_CNT, MPU_UE_CNT, MPU_TRAP_CNT, MPU_HALT_CNT], [216, 223]⟩
def dmcCounters : List Field := [DMC_CE_CNT, DMC_UE_CNT, DMC_REPLAY_CNT, DMC_RFM_CNT, DMC_PPR_CNT]

/-- Owner of the once-per-clearing state of DRAM channel d. -/
def ownDMC (d : Nat) : Nat := 0x300 + d

/-- A counter of DRAM channel d: saturation sets DMC.STATUS.SAT and EVT_d.SAT and raises source 83 + 4d (R355). -/
def State.bumpDmc (s : State) (f : Field) (d : Nat) (n : Nat := 1) : State :=
  let v := s.get f d + n
  if 2 ^ f.width ≤ v then
    let s := s.set f (2 ^ f.width - 1) d
    if s.hasFired (83 + 4 * d) (ownDMC d) then s
    else ((s.raiseOnce (83 + 4 * d) (ownDMC d)).set DMC_STATUS_SAT 1).set DMC_EVT_SAT 1 d
  else s.set f v d

/-- A channel with empty queues. -/
def DChan.fresh : DChan :=
  { nextId := 0, waiting := [], reads := [], writes := [], issued := [], answered := [], rowOpen := [],
    postponed := [], raa := [], rowTable := [], raaimt := 0, raammt := 0, recent := [], alerts := [], alertRun := 0,
    retraining := false, fences := [], poison := [], ueTimes := [], ceRows := [], cands := [], soft := [],
    repairing := none, fenceOver := false, scrub := none, scrubQ := [], patrol := 0, scrubUntil := 0 }

/-- What a channel keeps when its queues and contents are lost: candidates are retained, and the rows soft-repaired or to be
fenced are known at the next BOOT (R343, R345, R346). -/
def DChan.kept (c : DChan) : DChan := { DChan.fresh with cands := c.cands, soft := c.soft, fenceOver := c.fenceOver }

/-- A DRAM channel. -/
def State.dchan (s : State) (d : Nat) : DChan := s.mm.chans.lookD d DChan.fresh

/-- Change a DRAM channel. -/
def State.modDchan (s : State) (d : Nat) (f : DChan → DChan) : State :=
  { s with mm := { s.mm with chans := s.mm.chans.put d (f (s.dchan d)) } }

/-- The row an address lies in, in the layout of DMC.CAND_d_k (Table 12.2): row, subchannel, bank, bank group, rank. -/
def dramRow (pop a : Nat) : Nat :=
  let row := if pop = 3 then bits a 34 18 else bits a 33 18
  let rank := if pop = 2 then bits a 34 34 else 0
  row + bits a 6 6 * 2 ^ 25 + (bits a 17 16 ^^^ bits a 22 21) * 2 ^ 26 + (bits a 15 13 ^^^ bits a 20 18) * 2 ^ 28
    + rank * 2 ^ 31

/-- The bank of a row: rank, bank group, bank and subchannel. -/
def bankOf (row : Nat) : Nat := row / 2 ^ 25

/-- Write a row into an instance of CAND or FENCE, which the configuration record holds (Table 15.5). -/
def State.setRow (s : State) (fence : Bool) (d k row : Nat) : State :=
  if fence then
    let s := (s.set DMC_FENCE_ROW row d k).set DMC_FENCE_SUB (bits row 25 25) d k
    (((s.set DMC_FENCE_BANK (bits row 27 26) d k).set DMC_FENCE_BG (bits row 30 28) d k).set DMC_FENCE_RANK (bits row 31 31) d k).askCommit
  else
    let s := (s.set DMC_CAND_ROW row d k).set DMC_CAND_SUB (bits row 25 25) d k
    (((s.set DMC_CAND_BANK (bits row 27 26) d k).set DMC_CAND_BG (bits row 30 28) d k).set DMC_CAND_RANK (bits row 31 31) d k).askCommit

/-- The population code of a channel. -/
def State.pop (s : State) (d : Nat) : Nat := s.get DMC_CH_STAT_POP d

/-- Queue entries of 64 bytes a request takes in subchannel `b` (chapter 12, Scheduling). -/
def dreqEntries (r : DramReq) (b : Nat) : Nat :=
  let first := r.addr / 64
  let last := (r.addr + max 1 r.len - 1) / 64
  let n := last + 1 - first
  n / 2 + (if n % 2 = 1 ∧ first % 2 = b then 1 else 0)

/-- Entries in use in a queue of a subchannel. -/
def queueUse (l : List DReq) (b : Nat) : Nat := l.foldl (fun n q => n + dreqEntries q.req b) 0

/-- Whether the queue has room for a request: 128 read and 256 write entries a subchannel. -/
def DChan.room (c : DChan) (r : DramReq) : Bool :=
  [0, 1].all fun b =>
    if r.write then queueUse c.writes b + dreqEntries r b ≤ 256 else queueUse c.reads b + dreqEntries r b ≤ 128

/-- Two requests touch a common burst (R334). -/
def dreqOverlaps (a b : DramReq) : Bool :=
  let a0 := a.addr / 64
  let a1 := (a.addr + max 1 a.len - 1) / 64
  let b0 := b.addr / 64
  let b1 := (b.addr + max 1 b.len - 1) / 64
  decide (a0 ≤ b1) && decide (b0 ≤ a1)

/-- A write that needs a read-modify-write (R329). -/
def dreqPartial (r : DramReq) : Bool := r.write && (r.addr % 64 != 0 || r.len % 64 != 0)

/-- What admission to a channel depends on beside its queues: the time, the ns the scrub class pays for a number of bytes, and the halted DMA
channels. -/
structure Gate where
  now : Nat
  scrubNs : Nat → Nat
  halted : Nat → Bool

/-- A request may be admitted: there is room, the scrub class keeps to its cap (R332), and its DMA channel is not halted (R352). -/
def DChan.mayAdmit (c : DChan) (g : Gate) (q : DReq) : Bool :=
  c.room q.req && (q.req.cls != 4 || decide (c.scrubUntil ≤ g.now))
    && (match q.req.user with | .dma m _ => q.req.write || !g.halted m | _ => true)

/-- The request admitted next (R332): one that has waited 20 µs, else the lowest class, the oldest within it, among
those that may be admitted. -/
def DChan.admitNext (c : DChan) (g : Gate) : Option DReq :=
  let l := c.waiting.filter (c.mayAdmit g)
  match l.find? fun q => q.at_ + 20000 ≤ g.now with
  | some q => some q
  | none => leastBy (fun q => q.req.cls) l

/-- Put a request among those that wait for admission to a channel. -/
def State.queueDram (s : State) (d : Nat) (r : DramReq) (use : Option CacheUse) : State :=
  s.modDchan d fun c => { c with nextId := c.nextId + 1, waiting := c.waiting ++ [{ id := c.nextId, req := r, at_ := s.now, use := use }] }

/-- A request of the channel has taken effect: its fences lose it. -/
def DChan.effect (c : DChan) (id : Nat) : DChan :=
  { c with fences := c.fences.map fun f => (f.1, f.2.filter (· != id)) }

/-- The scrub class has used its share for some bytes (R332). -/
def DChan.scrubPaid (c : DChan) (g : Gate) (bytes : Nat) : DChan := { c with scrubUntil := max c.scrubUntil g.now + g.scrubNs bytes }

/-- Admit requests while there is room (R332, R334, R335): a write is held; a read of a burst that a queued write covers
returns that write's data at once. -/
def DChan.letIn (g : Gate) : Nat → DChan → DChan
  | 0, c => c
  | n + 1, c =>
    match c.admitNext g with
    | none => c
    | some q =>
      let c := { c with waiting := c.waiting.filter (·.id != q.id) }
      let c := if q.req.cls = 4 then c.scrubPaid g q.req.len else c
      let c :=
        if q.req.write then { c with writes := c.writes ++ [q] }.effect q.id
        else if c.writes.any fun w =>
            decide (w.req.addr / 64 ≤ q.req.addr / 64)
              && decide (q.req.addr + q.req.len ≤ (w.req.addr + w.req.len + 63) / 64 * 64) then
          { c with answered := c.answered ++ [q] }.effect q.id
        else { c with reads := c.reads ++ [q] }
      DChan.letIn g n c

/-- Count an activation of a row (R337, R338): the bank's rolling count with the RAAIMT command, the row table with the counts since the
row's refresh window of 32 ms began (PRESUMED, log 50), and whether the row's neighbours are refreshed. -/
def DChan.activate (c : DChan) (row th now : Nat) : Bool × DChan :=
  let bank := bankOf row
  let n := c.raa.lookD bank 0 + 1
  let n := if 0 < c.raaimt ∧ c.raaimt ≤ n then n - c.raaimt else n
  let c := { c with raa := c.raa.putD bank n 0, rowOpen := c.rowOpen.put bank (row, 0) }
  let t := c.rowTable.lookD bank []
  let (k, since) := match t.find? (·.1 == row) with
    | some (_, k, u) => if now < u + 32000000 then (k + 1, u) else (1, now)
    | none => (1, now)
  let rest := t.filter (·.1 != row)
  if max th 256 ≤ k then (true, { c with rowTable := c.rowTable.put bank rest })
  else
    let rest := if 32 ≤ rest.length then
        match leastBy (·.2.1) rest with | some e => rest.filter (· != e) | none => rest
      else rest
    (false, { c with rowTable := c.rowTable.put bank (rest ++ [(row, k, since)]) })

/-- Whether a row lies in the bank group whose row is being repaired (R344): same rank, bank group and subchannel. -/
def DChan.blocked (c : DChan) (row : Nat) : Bool :=
  match c.repairing.bind c.cands.look with
  | some (r, _) => bits r 31 28 == bits row 31 28 && bits r 25 25 == bits row 25 25
  | none => false

/-- The request of a queue that goes next (R333): one to an open row that has had fewer than 16 hits or whose bank no other
request waits for, else the oldest.  A burst under read-modify-write is locked, and the bank group of a row under repair
waits. -/
def DChan.pick (c : DChan) (pop : Nat) (l : List DReq) : Option DReq :=
  let l := l.filter fun q =>
    !(c.issued.any fun w => w.req.write && dreqOverlaps w.req q.req) && !c.blocked (dramRow pop q.req.addr)
  let hit := l.find? fun q =>
    let row := dramRow pop q.req.addr
    match c.rowOpen.look (bankOf row) with
    | some (r, h) => r == row && (decide (h < 16) || !(l.any fun o =>
        bankOf (dramRow pop o.req.addr) == bankOf row && dramRow pop o.req.addr != row))
    | none => false
  hit.or l.head?

/-- The trained rate of a channel in MT/s (R326). -/
def State.dramMt (s : State) (d : Nat) : Nat := ([4800, 5600, 6400, 7200, 8000, 8800][s.get DMC_CH_STAT_RATE d]?).getD 8800

/-- The replay window in ns: REPLAY_WIN DRAM clocks at half the transfer rate; 0 acts as 0x80 (R339, Table 12.6). -/
def State.replayNs (s : State) (d : Nat) : Nat :=
  let w := s.get DMC_CTRL_REPLAY_WIN
  let w := if w = 0 then 0x80 else w
  w * 2000 / s.dramMt d

/-- The least time in ns in which the scrub class moves some bytes: CAP percent, 1 to 10, of 8 bytes a transfer (R332, R347). -/
def State.scrubNs (s : State) (d bytes : Nat) : Nat := bytes * 100000 / (8 * s.dramMt d * max 1 (min 10 (s.get DMC_SCRUB_CFG_CAP)))

/-- Symbols the decoder corrects: ECC_T, 8 at most (R328). -/
def State.eccT (s : State) : Nat := min 8 (s.get DMC_CTRL_ECC_T)

/-- What the decoder makes of a burst with so many wrong symbols (R328): 0 good, 1 corrected, 2 uncorrectable.  DEDUCED (log 51): more than
16 − ECC_T wrong symbols are reported too. -/
def State.eccError (s : State) (symbols : Nat) : Nat := if symbols = 0 then 0 else if symbols ≤ s.eccT then 1 else 2

/-- A DMA channel is halted (R352). -/
def State.dmaHalted (s : State) (m : Nat) : Bool := bit (s.get MPU_DMA_HALTED (m / 32)) (m % 32)

/-- What admission to a channel depends on now. -/
def State.gate (s : State) (d : Nat) : Gate := { now := s.now, scrubNs := s.scrubNs d, halted := s.dmaHalted }

/-- Issue one request on the bus: its row is opened if it is not open. -/
def State.dramIssue (s : State) (d : Nat) (q : DReq) : State :=
  let row := dramRow (s.pop d) q.req.addr
  let c := s.dchan d
  let keep := s.now - s.replayNs d
  let c := { c with recent := (c.recent.filter fun e : Nat × DReq => decide (keep ≤ e.1)) ++ [(s.now, q)] }
  let (near, c) :=
    match c.rowOpen.look (bankOf row) with
    | some (r, h) =>
      if r = row then (false, { c with rowOpen := c.rowOpen.put (bankOf row) (row, h + 1) })
      else c.activate row (s.get DMC_RH_CFG_TH) s.now
    | none => c.activate row (s.get DMC_RH_CFG_TH) s.now
  let c := { c with reads := c.reads.filter (·.id != q.id), writes := c.writes.filter (·.id != q.id) }
  let c :=
    if q.req.write then
      if dreqPartial q.req then { c with issued := c.issued ++ [q] }
      else { c with poison := c.poison.filter fun a =>
        !(decide (q.req.addr ≤ a) && decide (a < q.req.addr + q.req.len)) }
    else { c with issued := c.issued ++ [q] }
  let s := s.modDchan d fun _ => c
  if near then s.bumpDmc DMC_RFM_CNT d else s

/-- Whether the writes of a channel must be drained (R333): a queue at WR_HIGH, or a write older than WR_AGE. -/
def State.drainDue (s : State) (d : Nat) (limit : Nat) : Bool :=
  let c := s.dchan d
  decide (limit < queueUse c.writes 0) || decide (limit < queueUse c.writes 1)
    || c.writes.any fun q => q.at_ + 100 * s.get DMC_SCHED_CFG_WR_AGE ≤ s.now

/-- Drain writes until the queue is at or below WR_LOW and no write is older than WR_AGE (R333). -/
def State.drain (d : Nat) (limit : Nat) : Nat → State → State
  | 0, s => s
  | n + 1, s =>
    if s.drainDue d limit then
      match (s.dchan d).pick (s.pop d) (s.dchan d).writes with
      | some q => State.drain d limit n (s.dramIssue d q)
      | none => s
    else s

/-- Drain the writes of a channel to its components (R335). -/
def State.drainAll (s : State) (d : Nat) : State := State.drain d 0 (s.dchan d).writes.length s

/-- The bus of a channel drains its writes where they are due (R333). -/
def State.dramDrain (s : State) (d : Nat) : State :=
  if (s.dchan d).retraining then s
  else
    let high := s.get DMC_SCHED_CFG_WR_HIGH
    let low := min (s.get DMC_SCHED_CFG_WR_LOW) high
    if s.drainDue d (high - 1) then State.drain d low (s.dchan d).writes.length s else s

/-- The bus of a channel serves one read (R333). -/
def State.dramRead (s : State) (d : Nat) : State :=
  if (s.dchan d).retraining then s
  else
    match (s.dchan d).pick (s.pop d) (s.dchan d).reads with
    | some q => s.dramIssue d q
    | none => s

/-- Admit what has room and drain what is due, as long as requests wait and room comes free. -/
def State.dramFill (d : Nat) : Nat → State → State
  | 0, s => s
  | n + 1, s =>
    let w := (s.dchan d).waiting.length
    let s := (s.modDchan d fun c => DChan.letIn (s.gate d) c.waiting.length c).dramDrain d
    if (s.dchan d).waiting.length = w ∨ (s.dchan d).waiting.isEmpty then s else State.dramFill d n s

/-- Report the fences of a channel that are complete (R334). -/
def State.dramFences (s : State) (d : Nat) : State :=
  let c := s.dchan d
  let done := c.fences.filter fun f => f.2.isEmpty
  let s := s.modDchan d fun c => { c with fences := c.fences.filter fun f => !f.2.isEmpty }
  s.each done fun f s => s.put (.fence d f.1)

/-- Admit what has room, and serve the bus. -/
def State.dramService (s : State) (d : Nat) : State :=
  ((State.dramFill d ((s.dchan d).waiting.length + 1) s).dramRead d).dramFences d

/-- Serve the channels at which requests wait for admission. -/
def State.serveDram (s : State) : State :=
  s.each [0, 1, 2, 3] fun d s => if (s.dchan d).waiting.isEmpty ∨ !s.chLive d ∨ s.flag DMC_CH_STAT_SREF d then s else s.dramService d

/-- A row becomes a repair candidate, or gains errors; a full table gives up the candidate with the fewest (R343). -/
def State.addCand (s : State) (d row n : Nat) : State :=
  let c := s.dchan d
  match c.cands.find? fun e => e.2.1 == row with
  | some (k, (_, m)) => s.modDchan d fun c => { c with cands := c.cands.put k (row, m + n) }
  | none =>
    let k := match c.cands.freeKey 32 with
      | some k => k
      | none => match leastBy (fun e => e.2.2) c.cands with | some e => e.1 | none => 0
    (s.modDchan d fun c => { c with cands := c.cands.put k (row, n) }).setRow false d k row

/-- Remove a candidate. -/
def State.dropCand (s : State) (d k : Nat) : State :=
  (s.modDchan d fun c => { c with cands := c.cands.del k }).setRow false d k 0

/-- Queue a write of the burst at an address by the DMC or by the reader that restores it. -/
def State.rewriteBurst (s : State) (d addr cls source : Nat) : State :=
  s.queueDram d { cls := cls, source := source, user := .dma 0 none, write := true, addr := addr / 64 * 64, len := 64 } none

/-- A corrected burst (R330, R343): written back in the scrub class, counted; 16 of one row within 24 operating hours make
it a candidate. -/
def State.dramCorrected (s : State) (d addr : Nat) : State :=
  let s := s.bumpDmc DMC_CE_CNT d
  let s := s.rewriteBurst d addr 4 0
  let row := dramRow (s.pop d) addr
  let l := ((s.dchan d).ceRows.lookD row []).filter (fun t => s.ms.opMs < t + 86400000) ++ [s.ms.opMs]
  let s := s.modDchan d fun c => { c with ceRows := c.ceRows.put row l }
  if 16 ≤ l.length then s.addCand d row (if (s.dchan d).cands.any fun e => e.2.1 == row then 1 else l.length) else s

/-- Start the next range scrub of a channel if none runs (R347); it pauses in DETOUR, RETURN and REST by staying there. -/
def State.scrubNext (s : State) (d : Nat) : State :=
  let c := s.dchan d
  if c.scrub.isSome then s
  else
    match c.scrubQ with
    | [] => s
    | r :: t =>
      let s := s.modDchan d fun c => { c with scrub := some { r with since := s.now }, scrubQ := t }
      (s.set DMC_STATUS_SCRUB_BUSY (setBit (s.get DMC_STATUS_SCRUB_BUSY) d)).ticketRun r.ticket

/-- Ask for a range scrub: it starts, or is queued among up to 3, or is refused (R347). -/
def State.askScrub (s : State) (d : Nat) (r : DScrub) : State :=
  if (s.dchan d).scrub.isSome ∧ 3 ≤ (s.dchan d).scrubQ.length then s
  else (s.modDchan d fun c => { c with scrubQ := c.scrubQ ++ [r] }).scrubNext d

/-- What a read of an SRAM word gives: zero where its valid bit is 0 (R349). -/
def State.sramRead (s : State) (k : Nat) : Nat := match s.mm.sram.look k with | some w => w.data | none => 0

/-- A write of some bytes of an SRAM word (R349): the others keep what a read gives, and the word becomes valid. -/
def State.sramWrite (s : State) (k mask data : Nat) : State :=
  let old := s.sramRead k
  let d := (List.range 8).foldl (fun n b => n + bits (if bit mask b then data else old) (8 * b + 7) (8 * b) * 2 ^ (8 * b)) 0
  { s with mm := { s.mm with sram := s.mm.sram.put k { data := d, check := Config.secded d % 256 } } }

/-- Key of a word of a macro. -/
def sramKey (mac word : Nat) : Nat := 32768 * mac + word

/-- What units have written to the macros, in order. -/
def State.sramWrites (s : State) (l : List SramWrite) : State :=
  s.each (l.filter fun w => decide (w.mac < 352) && decide (w.word < 32768) && w.mask % 256 != 0) fun w s =>
    s.sramWrite (sramKey w.mac w.word) w.mask w.data

/-- Words of a range of macros whose valid bit is 1. -/
def State.sramValid (s : State) (first last : Nat) : Nat :=
  (s.mm.sram.filter fun e => decide (32768 * first ≤ e.1) && decide (e.1 < 32768 * (last + 1))).length

/-- Start an SRAM scrub (R354). -/
def State.sramScrubStart (s : State) (r : SScrub) : State :=
  ({ s with mm := { s.mm with scrub := some { r with since := s.now } } }.set MPU_STATUS_SCRUB_BUSY 1).ticketRun r.ticket

/-- Ask for an SRAM scrub: it starts, is queued, or is rejected (R354). -/
def State.askSramScrub (s : State) (r : SScrub) : State :=
  if s.mm.scrub.isNone then s.sramScrubStart r
  else if s.mm.scrubQ.isNone then { s with mm := { s.mm with scrubQ := some r } }.set MPU_STATUS_SCRUB_Q 1
  else s.set MPU_STATUS_REJ 1

/-- Record the first uncorrectable SRAM word since ERR_INFO was clear (Table 12.17). -/
def State.sramRecord (s : State) (mac word master type : Nat) : State :=
  let s := s.bump blkMPU MPU_UE_CNT
  if s.flag MPU_ERR_INFO_VALID then s
  else
    let s := (s.set MPU_ERR_ADDR_MACRO mac).set MPU_ERR_ADDR_WORD word
    ((s.set MPU_ERR_INFO_MASTER master).set MPU_ERR_INFO_TYPE type).set MPU_ERR_INFO_VALID 1

/-- A core takes a precise trap (Table 12.4, R413): its trap registers hold the cause and the address. -/
def State.preciseTrap (s : State) (core cause addr : Nat) : State :=
  let s := { s with mm := { s.mm with traps := s.mm.traps.put core (cause, addr) } }
  (s.bump blkMPU MPU_TRAP_CNT).raise 218

/-- Halt a DMA channel (R352). -/
def State.haltDma (s : State) (m : Nat) : State :=
  let s := s.set MPU_DMA_HALTED (setBit (s.get MPU_DMA_HALTED (m / 32)) (m % 32)) (m / 32)
  (s.bump blkMPU MPU_HALT_CNT).raise 219

end Sys2Proof.Machine
end

