-- ==== Sys2Proof/Machine/OpsFw.lean ====
section
/-!
DEFINITION. The configuration record (R423 to R428): which field a key of the register file belongs to, what a record
holds, requests for a commit; the boot selector (R415).
Assumption log: DEDUCED (59, 62).
-/

namespace Sys2Proof.Machine

/-- Every field of the control window. -/
def allFields : List Field := fieldBlocks.flatten

/-- The field whose instance lies at a key of the register file. -/
def fieldOfKey (k : Nat) : Option Field :=
  allFields.find? fun f => f.lsb == k % 32 && (f.reg.locate (k / 32 * 4)).isSome

/-- The reset class of a key. -/
def clsOfKey (k : Nat) : Option Cls := (fieldOfKey k).map (·.cls)

/-- Whether the configuration record holds a field: retained, and neither a counter of the counters region (R395) nor one that shows the
state of milestone memory's own regions (Table 15.5). -/
def inRecord (f : Field) : Bool := f.cls == .retained && f.acc != .cnt && f.reg.addr / 2 ^ 20 != 14

/-- The retained fields that differ from their Reset values, as the record holds them. -/
def State.recordRegs (s : State) : NMap Nat :=
  s.regs.filter fun e => match fieldOfKey e.1 with | some f => inRecord f | none => false

/-- Bytes of the variable sections (R426): 8 × P + 132 × A + 29 × W. -/
def State.recordBytes (s : State) : Nat :=
  let p := ((List.range 4096).filter fun n => s.flag SLM_PMAP_V n).length
  let a := ((List.range 256).filter fun n => (List.range 32).any fun w => s.get SLM_NSACC n w != 0xFFFFFFFF).length
  let w := (s.wpt.rows.filter fun e => e.2.valid).length
  8 * p + 132 * a + 29 * w

/-- The variable sections fit (R426). -/
def State.recordFits (s : State) : Bool := decide (s.recordBytes ≤ 110464)

/-- Whether the configuration copy in use is B. -/
def State.cfgIsB (s : State) : Bool := s.flag FWC_CFGREC_COPY

/-- The copy in use, if a valid one exists: the one BOOT chose or the last commit wrote, as FWC.CFGREC shows it (R424). -/
def State.cfgInUse (s : State) : Option CfgCopy :=
  if s.get FWC_CFGREC_SRC = 0 then none else if s.cfgIsB then s.fw.cfgB else s.fw.cfgA

/-- Write a record into the copy not in use (R425). -/
def State.storeCopy (s : State) (c : CfgCopy) : State :=
  if s.cfgIsB then { s with fw := { s.fw with cfgA := some c, commit := none } }
  else { s with fw := { s.fw with cfgB := some c, commit := none } }

/-- The image of a slot. -/
def State.slotImage (s : State) (n : Nat) : Option SlotImage := if n = 1 then s.fw.slot1 else if n = 2 then s.fw.slot2 else none

/-- The record a commit writes now (R423, R425 to R427). -/
def State.recordImage (s : State) : CfgCopy :=
  { seq := (match s.cfgInUse with | some c => c.seq + 1 | none => 1), whole := true,
    ver := (match s.slotImage (s.get FWS_STATUS_SLOT_RUN) with | some i => i.cfgVerMax | none => 0),
    lines := 320 + (s.recordBytes + 63) / 64, regs := s.recordRegs, wpt := s.wpt.rows.filter fun e => e.2.valid,
    fnCeiling := (match s.fw.fnWanted with | some c => c | none => s.fw.fnCeiling),
    dumpBlocks := s.hu.dumpBlocks, dumpDies := s.hu.dumpDies, active0 := s.hu.active0 }

/-- The selector record in force: the valid one with the higher SEQ (R415). -/
def State.selector (s : State) : Option SelRec :=
  match s.fw.sec0, s.fw.sec1 with
  | some a, some b => if a.seq < b.seq then some b else some a
  | some a, none => some a
  | none, b => b

/-- Write a selector record with SEQ + 1 into the sector that holds the older one (R415). -/
def State.writeSelector (s : State) (active prev : Nat) (trial : Bool) (tries : Nat) : State :=
  let seq := match s.selector with | some r => r.seq + 1 | none => 1
  let r : SelRec := { seq := seq, active := active, prev := prev, trial := trial, tries := tries }
  let old0 := match s.fw.sec0, s.fw.sec1 with
    | none, _ => true
    | some _, none => false
    | some a, some b => decide (a.seq < b.seq)
  let s := if old0 then { s with fw := { s.fw with sec0 := some r } } else { s with fw := { s.fw with sec1 := some r } }
  s.set FWS_SEL_SEQ seq

/-- Counters of the FWS and FWC (R429); they share source 252. -/
def blkFWS : CntBlock := ⟨FWS_STATUS_SAT, 252, [FWS_CB_CNT, FWS_UE_CNT, FWS_PF_HIT, FWS_BC_HIT], [242]⟩
def blkFWC : CntBlock := ⟨FWC_STATUS_SAT, 252, [FWC_TAKEOVER_CNT], []⟩
def ownFWS : Nat := 8
def ownFWC : Nat := 9

end Sys2Proof.Machine
end

