-- ==== Sys2Proof/Machine/OpsZone.lean ====
section
/-!
DEFINITION. The waypoint table, stripe formation, layout and partial parity of the zone engine (chapter 04).
Assumption log: DEDUCED (24, 25, 29).
-/

namespace Sys2Proof.Machine

/-- ZCAP an Empty zone reports (R86). -/
def zcapEmpty : Nat := 983040

/-- The key of a zone. -/
def zkeyOf (nsid z : Nat) : Nat := nsid * 2 ^ 24 + z

/-- Data members of a stripe form (R85). -/
def dataMembers (split : Bool) : Nat := if split then 14 else 15

/-- ZCAP of a layout (R85, Table 04.1). -/
def zcapOf (split : Bool) (m : Media) : Nat := 16384 * dataMembers split * m.bitsPer

/-- Stripe slot of data member `i` (R88, R92). -/
def slotOfMember (split : Bool) (fn i : Nat) : Nat :=
  if split then
    let p := fn % 8
    let j := i % 7
    8 * (i / 7) + (if j < p then j else j + 1)
  else
    let p := fn % 16
    if i < p then i else i + 1

/-- Slot of the parity of a group (R88). -/
def paritySlot (split : Bool) (fn g : Nat) : Nat := if split then 8 * g + fn % 8 else fn % 16

/-- Slots of the parity group a slot belongs to (R88, R93). -/
def groupSlots (split : Bool) (slot : Nat) : List Nat :=
  if split then (List.range 8).map (· + 8 * (slot / 8)) else List.range 16

/-- The parity group of data member `i`. -/
def groupOf (split : Bool) (i : Nat) : Nat := if split then i / 7 else 0

/-- Data members of a parity group. -/
def groupSize (split : Bool) : Nat := if split then 7 else 15

/-- The place of an LBA offset on a stripe (R92): row, data member, slot, plane, page, codeword, and the position `q` of
the LBA within the member wordline. -/
structure Place where
  row : Nat
  i : Nat
  q : Nat
  slot : Nat
  plane : Nat
  page : Nat
  cw : Nat
  deriving DecidableEq, Repr

/-- The computation of R92. -/
def placeOf (split : Bool) (m : Media) (fn o : Nat) : Place :=
  let d := dataMembers split
  let ml := 16 * m.bitsPer
  let r := o % (d * ml)
  let i := r / ml
  let q := r % ml
  let k := q / 4
  { row := o / (d * ml), i := i, q := q, slot := slotOfMember split fn i, plane := k % 4, page := k / 4, cw := q % 4 }

/-- LBAs of a member wordline. -/
def Zone.ml (z : Zone) : Nat := 16 * z.media.bitsPer

/-- Data members of a zone's stripe. -/
def Zone.d (z : Zone) : Nat := dataMembers z.split

/-- A zone's record; Empty zones have none. -/
def State.zone (s : State) (nsid z : Nat) : Option Zone := s.zn.zones.look (zkeyOf nsid z)

/-- Change a zone. -/
def State.modZone (s : State) (key : Nat) (f : Zone → Zone) : State :=
  { s with zn := { s.zn with zones := s.zn.zones.modify key f } }

/-- State, write pointer, admission pointer and ZCAP of a zone; those of an Empty zone without record. -/
def State.zstate (s : State) (nsid z : Nat) : ZState := match s.zone nsid z with | some r => r.state | none => .empty
def State.zap (s : State) (nsid z : Nat) : Nat := match s.zone nsid z with | some r => r.ap | none => 0
def State.zcap (s : State) (nsid z : Nat) : Nat := match s.zone nsid z with | some r => r.zcap | none => zcapEmpty

/-- A zone that counts as active: opened or closed. -/
def ZState.active : ZState → Bool
  | .implicitOpen => true | .explicitOpen => true | .closed => true
  | _ => false

/-- Zone state in zone descriptor encoding (zoned command set). -/
def ZState.code : ZState → Nat
  | .empty => 1 | .implicitOpen => 2 | .explicitOpen => 3 | .closed => 4 | .readOnly => 13 | .full => 14 | .offline => 15

/-- The 102-bit waypoint key (Table 04.5). -/
def waypointKey (lba opc hint ns slice : Nat) : Nat :=
  lba % 2 ^ 64 + opc % 16 * 2 ^ 64 + hint % 65536 * 2 ^ 68 + ns % 1024 * 2 ^ 84 + slice % 256 * 2 ^ 94

/-- A profile's global mask (R108). -/
def State.profileMask (s : State) (p : Nat) : Nat :=
  s.get WPT_PMASK_LO p + s.get WPT_PMASK_HI p * 2 ^ 32 + s.get WPT_PMASK_2_OPC p * 2 ^ 64
    + s.get WPT_PMASK_2_HINT p * 2 ^ 68 + s.get WPT_PMASK_2_NS p * 2 ^ 84 + s.get WPT_PMASK_3_SLICE p * 2 ^ 94

/-- The search profile of a namespace (R108). -/
def State.profileOf (s : State) (nsid : Nat) : Nat :=
  let f := [WPT_NSPROF_P0, WPT_NSPROF_P1, WPT_NSPROF_P2, WPT_NSPROF_P3, WPT_NSPROF_P4, WPT_NSPROF_P5, WPT_NSPROF_P6,
    WPT_NSPROF_P7].getD ((nsid - 1) % 8) WPT_NSPROF_P0
  s.get f ((nsid - 1) / 8)

/-- Whether an entry matches a key under a profile mask (R108). -/
def WptEntry.matches (e : WptEntry) (key mask : Nat) : Bool :=
  e.valid && (e.key &&& (e.mask &&& mask)) == (key &&& (e.mask &&& mask))

/-- Valid entries, shown in USED. -/
def State.showWpt (s : State) : State := s.set WPT_STATUS_USED (s.wpt.rows.filter fun e => e.2.valid).length

/-- A hit whose shadow copy is lost: the entry's valid bit is cleared (R110). -/
def State.loseEntry (s : State) (i : Nat) : State :=
  let s := { s with wpt := { s.wpt with rows := s.wpt.rows.modify i fun e => { e with valid := false },
                                        shadows := s.wpt.shadows.modify i fun e => { e with valid := false },
                                        shadowBad := s.wpt.shadowBad.filter (· != i) } }
  ((s.set WPT_STATUS_LOST 1).raise 281).showWpt

/-- Rewrite a row from its shadow copy. -/
def State.wptRewrite (s : State) (i : Nat) : State :=
  { s with wpt := { s.wpt with rows := (match s.wpt.shadows.look i with | some e => s.wpt.rows.put i e | none => s.wpt.rows.del i),
                               hidden := s.wpt.hidden.filter (· != i) } }

/-- A false hit: the row is rewritten from its shadow copy (R110). -/
def State.falseHit (s : State) (i : Nat) : State :=
  let s := s.wptRewrite i
  (s.bump blkWPT WPT_FALSE_HIT 0 1 ownWPT).raiseOnce 280

/-- The search (R108, R110): result word of the lowest-numbered match, after every false hit and lost entry has been dealt
with.  A hidden row gives no match (R111); `upsets` are rows that a soft error makes match. -/
def State.wptSearch (key mask : Nat) : Nat → List Nat → State → Option Nat × State
  | 0, _, s => (none, s)
  | n + 1, upsets, s =>
    match s.wpt.rows.find? fun e => (e.2.matches key mask && !s.wpt.hidden.contains e.1) || upsets.contains e.1 with
    | none => (none, s)
    | some (i, e) =>
      if s.wpt.shadowBad.contains i then State.wptSearch key mask n (upsets.filter (· != i)) (s.loseEntry i)
      else if upsets.contains i ∨ s.wpt.shadows.look i != some e ∨ !e.matches key mask then
        State.wptSearch key mask n (upsets.filter (· != i)) (s.falseHit i)
      else (some e.res, s)

/-- The route of a result or default, if valid, else the default, else route 0 (R109). -/
def State.validRoute (s : State) (r dflt : Nat) : Nat :=
  if s.flag WPT_ROUTE_CFG_V r then r else if s.flag WPT_ROUTE_CFG_V dflt then dflt else 0

/-- The row a soft error makes match a key it should not, or hides. -/
def Upset.false? : Upset → Option Nat
  | .falseMatch r => some r
  | .hidden _ => none
def Upset.hidden? : Upset → Option Nat
  | .falseMatch _ => none
  | .hidden r => some r

/-- Look up a key for a namespace (R108 to R111): route, ROW_FLUSH, REFUSE; hits and misses are counted per profile.  Rows that a soft
error hides stay so until they are rewritten. -/
def State.waypoint (s : State) (nsid key : Nat) (upsets : List Upset) : (Nat × Bool × Bool) × State :=
  let s := { s with wpt := { s.wpt with hidden := ((upsets.filterMap Upset.hidden?).filter fun r => r < 4096).foldl (fun l r => insSorted r l) s.wpt.hidden } }
  let p := s.profileOf nsid
  let dflt := s.get WPT_PDEF_ROUTE p
  match State.wptSearch key (s.profileMask p) (2 * s.wpt.rows.length + 1) (upsets.filterMap Upset.false?) s with
  | (some r, s) => ((s.validRoute (r % 64) dflt, bit r 6, bit r 7), s.bump blkWPT WPT_HIT p 1 ownWPT)
  | (none, s) => ((s.validRoute dflt dflt, false, false), s.bump blkWPT WPT_MISS p 1 ownWPT)

/-- A channel is in a route's channel set. -/
def State.inRoute (s : State) (r c : Nat) : Bool :=
  if c < 32 then bit (s.get WPT_ROUTE_CHLO r) c else bit (s.get WPT_ROUTE_CHHI r) (c - 32)

/-- Members of active stripes on a channel, and on a die of it (R89): stripes of zones that are open or closed, and of
open block sets. -/
def State.activeMembers (s : State) : List Member :=
  ((s.zn.zones.filter fun e => e.2.state.active).map fun e => e.2.members).flatten
    ++ (s.xl.open_.filterMap fun e => (s.xl.sets.look e.2).map (·.members)).flatten

/-- A channel's spare pool is empty (R245): it is excluded from stripe formation.  A channel without spares at first BOOT
has no pool. -/
def State.poolEmpty (s : State) (c : Nat) : Bool := s.get XLT_SPARE_FIRST c != 0 && s.get XLT_SPARE_LEFT c == 0

/-- Dies of a channel that can give a member: active, with a free erased block (R89). -/
def State.givingDies (s : State) (c : Nat) : List Nat := (s.activeDies c).filter fun d => (s.freeBlock c d).isSome

/-- Channels of a route that can give a member (R89, R245). -/
def State.usableChannels (s : State) (r : Nat) : List Nat :=
  (List.range 64).filter fun c => s.inRoute r c && !s.chFailed c && !s.poolEmpty c && !(s.givingDies c).isEmpty

/-- The die of a channel for a member (R89): fewest members of active stripes, then most free erased blocks, then the
lowest number. -/
def State.memberDie (s : State) (c : Nat) (act : List Member) : Option Nat :=
  leastBy (fun d => (act.filter fun m => m.ch == c && m.die == d).length * 4096 + (2048 - s.freeBlocks c d))
    (s.givingDies c)

/-- The 16 channels of a new stripe, ascending (R89): fewest members of active stripes first, ties to the lower number. -/
def State.stripeChannels (s : State) (r : Nat) (act : List Member) : Option (List Nat) :=
  let l := sortBy (fun c => (act.filter fun m => m.ch == c).length) (s.usableChannels r)
  if 16 ≤ l.length then some (sortBy id (l.take 16)) else none

/-- Take the members of a stripe: in each channel a die and its lowest free erased block. -/
def State.takeMembers (act : List Member) : List Nat → State → List Member × State
  | [], s => ([], s)
  | c :: t, s =>
    match s.memberDie c act with
    | none => ([], s)
    | some d =>
      match s.freeBlock c d with
      | none => ([], s)
      | some b =>
        let s := s.modBlock c d b fun x => { x with owned := true }
        let (l, s) := State.takeMembers act t s
        ({ ch := c, die := d, block := b, issued := 0, verified := 0, moved := false, rebuilt := none, old := none } :: l, s)

/-- Blocks that wait for erase could still give a channel of the route that cannot give a member now (R90). -/
def State.eraseCouldHelp (s : State) (r : Nat) : Bool :=
  let can := s.usableChannels r
  let more := (List.range 64).filter fun c =>
    s.inRoute r c && !s.chFailed c && !s.poolEmpty c && !can.contains c && (s.activeDies c).any fun d => s.pendingErases c d != 0
  decide (16 ≤ can.length + more.length)

/-- The FN ceiling of the last committed configuration record, and the commit it asks for (R427): within 1,024 of it a
commit is requested with the ceiling at the next formation number plus 4,096. -/
def State.askCeiling (s : State) : State :=
  let fn := s.get ZNE_FN
  let dist := (s.fw.fnCeiling + 2 ^ 32 - fn) % 2 ^ 32
  if dist ≤ 1024 then { s with fw := { s.fw with fnWanted := some ((fn + 4096) % 2 ^ 32) } }.askCommitNow else s

/-- What a stripe formation gives: the stripe, a wait (for erases or for the ceiling's commit), or a refusal. -/
inductive Formed where
  | stripe (fn : Nat) (members : List Member)
  | wait
  | refused

/-- Form a stripe on a route (R88, R89, R90, R427). -/
def State.form (s : State) (r : Nat) : Formed × State :=
  let fn := s.get ZNE_FN
  if fn = s.fw.fnCeiling then (.wait, s.askCeiling)
  else
    let act := s.activeMembers
    match s.stripeChannels r act with
    | some l =>
      let (m, s) := State.takeMembers act l s
      (.stripe fn m, (s.set ZNE_FN ((fn + 1) % 2 ^ 32)).askCeiling)
    | none => if s.eraseCouldHelp r then (.wait, s) else (.refused, s)

/-- Queue the erase of the blocks of a released stripe, charged to a slice or to the internal reserve, of generation 0 (R68, R70, R98). -/
def State.eraseMembers (s : State) (l : List Member) (slice : Nat) (internal : Bool) (owner : OpFor) : State :=
  s.each l fun m s =>
    if (s.block m.ch m.die m.block).st = .retired then s
    else s.queueOp m.ch m.die
      { DieOp.base with kind := .erase, block := m.block, slice := slice, internal := internal, time := s.now,
                        owner := owner }

/-- Add up the LBAs of owners. -/
def addParts (a b : NMap Nat) : NMap Nat := b.foldl (fun m e => m.put e.1 (m.lookD e.1 0 + e.2)) a

/-- XOR two tables of LBA positions. -/
def xorData (a b : NMap Nat) : NMap Nat := b.foldl (fun m e => m.put e.1 (m.lookD e.1 0 ^^^ e.2)) a

/-- The key of a partial-parity slot: write context and group (R102). -/
def slotKey (ctx g : Nat) : Nat := 2 * ctx + g

/-- Whether a parity belongs to a conventional row; their keys lie above every zone key. -/
def setKey (tag : Nat) : Nat := 2 ^ 48 + tag

/-- The resident accumulator of a group's row. -/
def State.accOf (s : State) (key g row : Nat) : Option Nat :=
  (s.zn.accs.find? fun e => e.2.zkey == key && e.2.group == g && e.2.row == row).map (·.1)

/-- The slot key of a parity: its zone's write context. -/
def State.slotKeyOf (s : State) (p : Parity) : Option Nat :=
  match s.zn.zones.look p.zkey with
  | some z => z.ctx.map fun c => slotKey c p.group
  | none => none

/-- Spill an accumulator to both mirror copies of its slot (R103). -/
def State.spill (s : State) (k : Nat) : State :=
  match s.zn.accs.look k with
  | none => s
  | some p =>
    match s.slotKeyOf p with
    | none => { s with zn := { s.zn with accs := s.zn.accs.del k } }
    | some sk =>
      { s with zn := { s.zn with accs := s.zn.accs.del k, slots := s.zn.slots.put sk p } }.bump blkZNE ZNE_SPILL_CNT 0 1 ownZNE

/-- An accumulator for use: a free one, or the one with the oldest last program after it is spilled; rows of block sets are
never spilled (R103, R230). -/
def State.takeAcc (s : State) : Option Nat × State :=
  match s.zn.accs.freeKey 64 with
  | some k => (some k, s)
  | none =>
    match leastBy (fun e => e.2.lastProg) (s.zn.accs.filter fun e => e.2.zkey < 2 ^ 48) with
    | some (k, _) => (some k, s.spill k)
    | none => (none, s)

/-- XOR a verified member into its group's parity (R103). -/
def State.xorMember (s : State) (key g row : Nat) (data parts : NMap Nat) : State :=
  let add (p : Parity) : Parity :=
    { p with count := p.count + 1, data := xorData p.data data, lastProg := s.now, parts := addParts p.parts parts }
  match s.accOf key g row with
  | some k => { s with zn := { s.zn with accs := s.zn.accs.modify k add } }
  | none =>
    let fresh : Parity := { zkey := key, group := g, row := row, count := 0, data := [], lastProg := s.now, parts := [] }
    let sk := s.slotKeyOf fresh
    match sk.bind s.zn.slots.look with
    | some p =>
      if p.row = row then
        match s.zn.accs.freeKey 64 with
        | some k =>
          { s with zn := { s.zn with accs := s.zn.accs.put k (add p), slots := s.zn.slots.del (sk.getD 0) } }.bump blkZNE
            ZNE_RELOAD_CNT 0 1 ownZNE
        | none => { s with zn := { s.zn with slots := s.zn.slots.put (sk.getD 0) (add p) } }
      else
        match s.takeAcc with
        | (some k, s) => { s with zn := { s.zn with accs := s.zn.accs.put k (add fresh) } }
        | (none, s) => { s with zn := { s.zn with slots := s.zn.slots.put (sk.getD 0) (add fresh) } }
    | none =>
      match s.takeAcc with
      | (some k, s) => { s with zn := { s.zn with accs := s.zn.accs.put k (add fresh) } }
      | (none, s) =>
        match sk with
        | some j => { s with zn := { s.zn with slots := s.zn.slots.put j (add fresh) } }
        | none => s

/-- The partial parity of a group's row, from its accumulator or its slot (R104). -/
def State.parityOf (s : State) (key g row : Nat) : Option Parity :=
  match s.accOf key g row with
  | some k => s.zn.accs.look k
  | none =>
    let fresh : Parity := { zkey := key, group := g, row := row, count := 0, data := [], lastProg := 0, parts := [] }
    match (s.slotKeyOf fresh).bind s.zn.slots.look with
    | some p => if p.row = row then some p else none
    | none => none

/-- Free the accumulator, or slot, of a group's row. -/
def State.freeParity (s : State) (key g row : Nat) : State :=
  match s.accOf key g row with
  | some k => { s with zn := { s.zn with accs := s.zn.accs.del k } }
  | none =>
    let fresh : Parity := { zkey := key, group := g, row := row, count := 0, data := [], lastProg := 0, parts := [] }
    match s.slotKeyOf fresh with
    | some j => { s with zn := { s.zn with slots := s.zn.slots.del j } }
    | none => s

/-- Release every accumulator and slot of a zone (R98, R101). -/
def State.dropParity (s : State) (key : Nat) : State :=
  { s with zn := { s.zn with accs := s.zn.accs.keep fun _ p => p.zkey != key,
                             slots := s.zn.slots.keep fun _ p => p.zkey != key } }

/-- Spill the accumulators of a zone (R98, R103). -/
def State.spillZone (s : State) (key : Nat) : State :=
  s.each (s.zn.accs.filter fun e => e.2.zkey == key) fun e s => s.spill e.1

/-- Add an entry to a list that holds it at most once. -/
def addOnce {α : Type} [BEq α] (a : α) (l : List α) : List α := if l.contains a then l else l ++ [a]

/-- An accumulator word was uncorrectable: the group's partial parity is rebuilt from its programmed members; until then no
member of the row is programmed (R351, R105). -/
def State.accBad (s : State) (k : Nat) : State :=
  match s.zn.accs.look k with
  | none => s
  | some p =>
    { s with zn := { s.zn with recompPending := addOnce (p.zkey, p.group) s.zn.recompPending } }.set ZNE_STATUS_RECOMP 1

/-- A shadow copy holds an uncorrectable error; the next hit or scrub of its entry acts on it (R110, R111). -/
def State.shadowLost (s : State) (i : Nat) : State :=
  { s with wpt := { s.wpt with shadowBad := insSorted i s.wpt.shadowBad } }

/-- The link word in a free SRAM buffer no longer holds what it must; the allocation that reads it breaks the list (R143, R351). -/
def State.badLinkWord (s : State) (i : Nat) : State :=
  if s.pool.desc.has (bufKey 0 i) then s else { s with pool := { s.pool with links := s.pool.links.put (bufKey 0 i) 0 } }

/-- Write contexts of a slice. -/
def State.sliceCtxs (s : State) (slice : Nat) : List Zone :=
  (s.zn.zones.filter fun e => e.2.ctx.isSome && e.2.slice == slice).map (·.2)

/-- A write context of a slice's range (budget words 3 and 4) that is free (R101); none while the slice holds its whole share (R67). -/
def State.freeZoneCtx (s : State) (slice : Nat) : Option Nat :=
  let base := s.budget slice 3
  let n := s.budget slice 4
  if n ≤ (s.sliceCtxs slice).length then none
  else ((List.range n).map (· + base)).find? fun c => decide (c < 3072) && !s.zn.ctxs.has c

/-- Free the write context of a zone (R101). -/
def State.freeZoneCtxOf (s : State) (key : Nat) : State :=
  match s.zn.zones.look key with
  | some z =>
    match z.ctx with
    | some c => ({ s with zn := { s.zn with ctxs := s.zn.ctxs.del c } }.dropParity key).modZone key fun z => { z with ctx := none }
    | none => s
  | none => s

/-- What an open of an Empty zone gives (R67, R90, R101, Table 04.3). -/
inductive Opened where
  | done
  | failed (st : NvmeStatus)
  | wait

/-- Open an Empty zone for a command of a slice: waypoint search (once), share, stripe, write context, ZCAP (R86, R101,
R107, Table 04.3).  `found` is a search made before; the search made is given back. -/
def State.openZone (s : State) (nsid z slice gen opc hint : Nat) (explicit : Bool) (found : Option (Nat × Bool))
    (upsets : List Upset) : Opened × Option (Nat × Bool) × State :=
  let key := waypointKey (z * zoneSpan) opc (if opc < 3 then hint else 0) (nsid - 1) slice
  let ((r, rf, refuse), s) :=
    match found with
    | some (r, rf) => ((r, rf, false), s)
    | none => s.waypoint nsid key upsets
  if refuse then (.failed .accessDenied, none, s)
  else
    let mine := s.sliceCtxs slice
    match s.freeZoneCtx slice with
    | none =>
      if mine.any fun x => x.state == .full then (.wait, some (r, rf), s)
      else (.failed .tooManyActiveZones, none, s.raise 120)
    | some c =>
      if 3072 ≤ (s.zn.zones.filter fun e => e.2.state.active).length then (.failed .tooManyActiveZones, none, s.raise 120)
      else
        match s.form r with
        | (.wait, s) => (.wait, some (r, rf), s)
        | (.refused, s) =>
          (.failed .capacityExceeded, none, (s.bump blkZNE ZNE_NOSTRIPE_CNT 0 1 ownZNE).raise 283)
        | (.stripe fn m, s) =>
          let split := s.get WPT_ROUTE_CFG_FORM r == 1
          let media := mediaOf (s.get WPT_ROUTE_CFG_MODE r)
          let zc := zcapOf split media
          let rec_ : Zone :=
            { nsid := nsid, z := z, state := if explicit then .explicitOpen else .implicitOpen, wp := 0, ap := 0, zcap := zc,
              ctx := some c, slice := slice, gen := gen, route := r, prio := s.get WPT_ROUTE_CFG_PRIO r, fn := fn,
              media := media, split := split, rowFlush := rf, members := m, fillFrom := none, lastProg := s.now, lost := [] }
          let s := { s with zn := { s.zn with zones := s.zn.zones.put (zkeyOf nsid z) rec_,
                                              ctxs := s.zn.ctxs.put c (zkeyOf nsid z) } }
          (.done, some (r, rf), if zc = zcapEmpty then s else s.zoneChanged nsid z)

/-- Rows of a zone's stripe that are programmed: all, or those up to the fill of a zone finished early (R98). -/
def Zone.rowsNeeded (z : Zone) : Nat :=
  match z.fillFrom with
  | none => 1024
  | some o => (o + z.d * z.ml - 1) / (z.d * z.ml)

/-- Every program of a Full zone, parity and filler included, has ended (R101). -/
def Zone.programsEnded (z : Zone) : Bool := z.members.all fun m => decide (z.rowsNeeded ≤ m.verified)

/-- Member wordlines, in LBA order, verified without a gap: LBA offset up to which a zone's data is programmed in place. -/
def Zone.inPlace (z : Zone) : Nat :=
  let n := (List.range z.d).foldl (fun n i =>
    match z.members[slotOfMember z.split z.fn i]? with
    | some m => min n (m.verified * z.d + i)
    | none => n) (1024 * z.d)
  n * z.ml

/-- The member wordline, in LBA order, that is issued next. -/
def Zone.nextIssue (z : Zone) : Nat :=
  (List.range z.d).foldl (fun n i =>
    match z.members[slotOfMember z.split z.fn i]? with
    | some m => min n (m.issued * z.d + i)
    | none => n) (1024 * z.d)

/-- LBA offset up to which a zone's member wordlines are complete: WP, or the end of the last row of a zone finished early. -/
def Zone.dataEnd (z : Zone) : Nat :=
  match z.fillFrom with
  | none => z.wp
  | some _ => z.rowsNeeded * z.d * z.ml

end Sys2Proof.Machine
end

