-- ==== Sys2Proof/Machine/OpsMap.lean ====
section
/-!
DEFINITION. The translation layer (R225 to R249): map entries, valid counts, held records, block sets and their layout,
the conventional pool, wear records, spare blocks.
Assumption log: DEDUCED (37); DESIGN CHOICE (100).
-/

namespace Sys2Proof.Machine

/-- A namespace is conventional. -/
def State.isConv (s : State) (nsid : Nat) : Bool := match s.nspace nsid with | some n => !n.zoned | none => false

/-- The map entry of an LBA; none is Unmapped (R226). -/
def State.mapGet (s : State) (nsid lba : Nat) : Option MapEntry := (s.xl.map.look nsid).bind fun m => m.look lba

/-- Entries of a granule and of a segment (R225). -/
def granuleLbas : Nat := 262144
def segLbas : Nat := 16384

/-- The segment that holds an LBA's entry (R225): 16 of each granule of its namespace, in order. -/
def State.segOf (s : State) (nsid lba : Nat) : Option Nat :=
  ((s.xl.granules.lookD nsid [])[lba / granuleLbas]?).map fun g => 16 * g + lba % granuleLbas / segLbas

/-- The DRAM channel a segment lies on (R225). -/
def segChan (seg : Nat) : Nat := seg % 4

/-- The namespace, and the first LBA, whose entries a segment holds. -/
def State.segOwner (s : State) (seg : Nat) : Option (Nat × Nat) :=
  s.xl.granules.findSome? fun e =>
    let i := e.2.findIdx (· == seg / 16)
    if i < e.2.length then some (e.1, i * granuleLbas + seg % 16 * segLbas) else none

/-- The 32-bit word of an entry (Table 08.1); `num` is the number of a pair. -/
def mapWord (num : Nat → Nat) (e : Option MapEntry) : Nat :=
  match e with
  | some (.flash tag slot) => tag % 3840 * 2 ^ 20 + slot % 2 ^ 20
  | some (.cache p idx) => 0xF0000000 + num p % 2 ^ 19 * 16 + idx % 16
  | some (.pending seq) => 0xF4000000 + seq % 2 ^ 26
  | some .lost => 0xF8000000
  | none => 0xFFFFFFFF

/-- The entry a word of a checkpoint gives (Table 08.1); no other value is produced. -/
def mapEntryOf (w : Nat) : Option MapEntry :=
  if w < 0xF0000000 then some (.flash (w / 2 ^ 20) (w % 2 ^ 20))
  else if 0xF4000000 ≤ w ∧ w < 0xF8000000 then some (.pending (w % 2 ^ 26))
  else if w = 0xF8000000 then some .lost
  else none

/-- A segment has changed since it was copied (R233). -/
def State.markSeg (s : State) (nsid lba : Nat) : State :=
  match s.segOf nsid lba with
  | some k => { s with xl := { s.xl with changed := insSorted k s.xl.changed } }
  | none => s

/-- The entry of an LBA lies in a segment that is lost (R238). -/
def State.segLost (s : State) (nsid lba : Nat) : Bool :=
  match s.segOf nsid lba with | some k => s.xl.lostSegs.contains k | none => false

/-- A command touches a segment that is lost (R238). -/
def State.touchesLost (s : State) (nsid lba len : Nat) : Bool :=
  !s.xl.lostSegs.isEmpty && (List.range (len / segLbas + 2)).any fun i => s.segLost nsid (min (lba + i * segLbas) (lba + len - 1))

/-- The lowest free granules for a new namespace (R225). -/
def State.freeGranules (s : State) (n : Nat) : List Nat :=
  let used := (s.xl.granules.map (·.2)).flatten
  ((List.range (1024 * s.xl.gib)).filter fun g => !used.contains g).take n

/-- What a checkpoint holds of the segments of some granules is of no more use. -/
def Ckpt.dropGranules (c : Ckpt) (gs : List Nat) : Ckpt := { c with segs := c.segs.keep fun k _ => !gs.contains (k / 16) }

/-- Give a new conventional namespace its granules, every entry Unmapped (R225, R226). -/
def State.takeGranules (s : State) (nsid nsze : Nat) : State :=
  { s with xl := { s.xl with granules := s.xl.granules.put nsid (s.freeGranules (nsze / granuleLbas)) } }

/-- Take the granules of a namespace that is gone. -/
def State.dropGranules (s : State) (nsid : Nat) : State :=
  let gs := s.xl.granules.lookD nsid []
  let mine (k : Nat) : Bool := gs.contains (k / 16)
  { s with xl := { s.xl with
      granules := s.xl.granules.del nsid, changed := s.xl.changed.filter (!mine ·), lostSegs := s.xl.lostSegs.filter (!mine ·),
      last := s.xl.last.dropGranules gs, older := s.xl.older.map (·.dropGranules gs),
      run := s.xl.run.map fun r => { r with todo := r.todo.filter (!mine ·), segs := r.segs.keep fun k _ => !mine k } } }

/-- Change the valid count of the set an entry names (R231). -/
def State.countEntry (s : State) (e : Option MapEntry) (up : Bool) : State :=
  match e with
  | some (.flash tag _) =>
    { s with xl := { s.xl with sets := s.xl.sets.modify tag fun b =>
        { b with valid := if up then b.valid + 1 else b.valid - 1 } } }
  | _ => s

/-- Set a map entry; none makes it Unmapped.  The valid counts of the sets it leaves and enters follow (R231). -/
def State.mapPut (s : State) (nsid lba : Nat) (e : Option MapEntry) : State :=
  let s := s.countEntry (s.mapGet nsid lba) false
  let m := (s.xl.map.look nsid).getD []
  let m := match e with | some x => m.put lba x | none => m.del lba
  ({ s with xl := { s.xl with map := s.xl.map.put nsid m } }.countEntry e true).markSeg nsid lba

/-- Codewords of data in a member wordline, and slots of a row and of a set (R227). -/
def rowSlots (split : Bool) : Nat := dataMembers split * 47
def setSlots (split : Bool) : Nat := 1024 * rowSlots split

/-- The place of a slot of a set (R227). -/
def setPlace (split : Bool) (fn slot : Nat) : Place :=
  let r := slot % rowSlots split
  let i := r / 47
  let q := r % 47
  let k := q / 4
  { row := slot / rowSlots split, i := i, q := q, slot := slotOfMember split fn i, plane := k % 4, page := k / 4, cw := q % 4 }

/-- Trim an LBA from every held record: a later commit removes it (R232). -/
def trimRecs (nsid lba : Nat) : List HeldRec → List HeldRec
  | [] => []
  | r :: t =>
    let rest := trimRecs nsid lba t
    if r.nsid = nsid ∧ r.lba ≤ lba ∧ lba < r.lba + r.len then
      let l := if r.lba < lba then [{ r with len := lba - r.lba }] else []
      let h := if lba + 1 < r.lba + r.len then [{ r with lba := lba + 1, len := r.lba + r.len - (lba + 1) }] else []
      l ++ h ++ rest
    else r :: rest

/-- Conventional LBAs of all namespaces, U of R229. -/
def State.convLbas (s : State) : Nat := s.ns.foldl (fun n e => if e.2.zoned then n else n + e.2.nsze) 0

/-- P and R_min of R229 for U conventional LBAs: ⌈1.18 U / 673,792⌉ and ⌈1.05 U / 673,792⌉. -/
def convPool (u : Nat) : Nat := if u = 0 then 0 else 16 * ((118 * u + 67379199) / 67379200 + 72)
def convMin (u : Nat) : Nat := if u = 0 then 0 else 16 * ((105 * u + 67379199) / 67379200 + 64)

/-- The headroom (R229). -/
def State.headroom (s : State) : Nat := convPool s.convLbas - convMin s.convLbas - s.xl.retiredNoSpare

/-- Free sets of the pool. -/
def State.setsFree (s : State) : Nat := convPool s.convLbas / 16 - s.xl.sets.length

/-- Show the pool figures (chapter 08 registers). -/
def State.showPool (s : State) : State :=
  ((s.set XLT_POOL (convPool s.convLbas)).set XLT_HEADROOM s.headroom).set XLT_SETS_FREE s.setsFree

/-- Active blocks (R91): 1,024 for each die active at first BOOT. -/
def State.activeBlocks (s : State) : Nat := 1024 * s.fl.firstActive

/-- The zoned pool in blocks (R91): active blocks less system blocks, float and conventional pool. -/
def State.zonedPool (s : State) : Nat :=
  let act := s.activeBlocks
  let dump := 8 * (s.hu.dumpDies.foldl (fun n e => n + e.2.length) 0)
  act - dump - 512 - act * 7 / 100 / 16 * 16 - convPool s.convLbas

/-- Blocks reserved by zoned namespaces (R91). -/
def State.zonedReserved (s : State) : Nat :=
  s.ns.foldl (fun n e => if e.2.zoned then n + 16 * (e.2.nsze / zoneSpan) else n) 0

/-- A fresh wear record. -/
def Wear.fresh : Wear :=
  { firstHour := none, cbitsMax := 0, cbits := [], stepMax := 0, driftMax := 0, reads := 0,
    recov := 0, warned := false }

/-- Count a decoded codeword in a wear record (Table 08.4): corrected bits, ladder step, read. -/
def Wear.decoded (w : Wear) (cbits step : Nat) : Wear :=
  { w with cbitsMax := max w.cbitsMax cbits, cbits := (cbits :: w.cbits).take 1024, stepMax := max w.stepMax step,
           reads := w.reads + 1, recov := if 0 < step then w.recov + 1 else w.recov }

/-- A drift passed under R223. -/
def Wear.drift (w : Wear) (d : Nat) : Wear := { w with driftMax := max w.driftMax d }

/-- CBITS_AVG, in 1/16 bit. -/
def Wear.cbitsAvg (w : Wear) : Nat := if w.cbits.isEmpty then 0 else w.cbits.foldl (· + ·) 0 * 16 / w.cbits.length

/-- A field of the record has passed what its bytes hold (R248, R391). -/
def Wear.past (w : Wear) : Bool :=
  decide (2 ^ 16 ≤ w.cbitsMax) || decide (2 ^ 16 ≤ w.cbitsAvg) || decide (2 ^ 8 ≤ w.driftMax) || decide (2 ^ 16 ≤ w.reads / 65536)
    || decide (2 ^ 32 ≤ w.recov)

/-- What a power-off leaves of the wear records: those of the last committed checkpoint; the first-program hour is kept (R248). -/
def keptWear (saved now : NMap Wear) : NMap Wear :=
  now.mapVals fun k w =>
    match saved.look k with
    | some x => if x.firstHour = w.firstHour then x else { Wear.fresh with firstHour := w.firstHour }
    | none => { Wear.fresh with firstHour := w.firstHour }

/-- The first program of a zone or set keeps its hour (R248). -/
def State.firstProgram (s : State) (set : Bool) (key : Nat) : State :=
  let put (m : NMap Wear) : NMap Wear :=
    let w := m.lookD key Wear.fresh
    if w.firstHour.isSome then m else m.put key { w with firstHour := some s.opHours }
  if set then { s with xl := { s.xl with wearSets := put s.xl.wearSets } }
  else { s with xl := { s.xl with wearZones := put s.xl.wearZones } }

/-- Update the wear record of a zone (false) or set (true); warn when a threshold is reached, and report a field that saturates
(R248). -/
def State.modWear (s : State) (set : Bool) (key : Nat) (f : Wear → Wear) : State :=
  let w0 := (if set then s.xl.wearSets else s.xl.wearZones).lookD key Wear.fresh
  let w := f w0
  let warn := decide (s.get XLT_WARN_CBITS ≤ w.cbitsMax) || decide (s.get XLT_WARN_DRIFT ≤ w.driftMax)
  let first := warn && !w.warned
  let w := { w with warned := w.warned || warn }
  let s := if set then { s with xl := { s.xl with wearSets := s.xl.wearSets.put key w } }
    else { s with xl := { s.xl with wearZones := s.xl.wearZones.put key w } }
  let s := if w.past && !w0.past then s.xltSaturated else s
  if first then s.xltEvt XLT_EVT_WEAR else s

/-- SMART Available Spare in percent (R242): the lowest over the channels with spares at first BOOT. -/
def State.availableSpare (s : State) : Nat :=
  (List.range 64).foldl (fun n c =>
    let f := s.get XLT_SPARE_FIRST c
    if f = 0 then n else min n (100 * s.get XLT_SPARE_LEFT c / f)) 100

/-- Every conventional namespace becomes read-only (R246). -/
def State.convReadOnly (s : State) : State :=
  if s.flag XLT_STATUS_RO_CONV then s
  else
    let s := ((s.set XLT_STATUS_RO_CONV 1).xltEvt XLT_EVT_CONV_RO).aenReliability
    { s with ns := s.ns.mapVals fun _ n => if n.zoned then n else { n with writeProtect := true } }.askCommit

/-- A zone goes Read Only: logged in page BFh, event, reliability event (R243, R245). -/
def State.zoneReadOnly (s : State) (key : Nat) : State :=
  match s.zn.zones.look key with
  | none => s
  | some z =>
    if z.state = .readOnly ∨ z.state = .offline then s
    else
      (((s.modZone key fun z => { z with state := .readOnly }).zoneChanged z.nsid z.z).xltEvt XLT_EVT_ZONE_RO).aenReliability

/-- A channel's pool has become empty: its active zones go Read Only once their admitted commands have committed or been
discarded (R245). -/
def State.emptyPool (s : State) (c : Nat) : State :=
  s.each (s.zn.zones.filter fun e => e.2.state.active && e.2.members.any fun m => m.ch == c) fun e s =>
    if s.zn.adm.any fun a => zkeyOf a.nsid (a.lba / zoneSpan) == e.1 && a.stage != .waiting && a.stage != .verify then
      { s with zn := { s.zn with roPending := insSorted e.1 s.zn.roPending } }
    else s.zoneReadOnly e.1

/-- The spare blocks left in a channel's pool change (R242): crossing the threshold of 10% reports Spare Below Threshold, and the last one
taken leaves the pool empty (R245). -/
def State.setSpares (s : State) (c n : Nat) : State :=
  let had := s.get XLT_SPARE_LEFT c
  let before := s.availableSpare
  let s := s.set XLT_SPARE_LEFT n c
  let s := if 10 ≤ before ∧ s.availableSpare < 10 then s.aenSpare else s
  if n = 0 ∧ had != 0 then s.emptyPool c else s

/-- Take a spare for a retired block (R242): of the same die, else of another active die of the channel. -/
def State.takeSpare (s : State) (c d : Nat) : Option Nat × State :=
  let left := s.get XLT_SPARE_LEFT c
  if left = 0 then (none, s)
  else
    let own := decide ((s.die c d).sparesUsed < 64)
    let from_ := if own then some d else (s.activeDies c).find? fun e => decide ((s.die c e).sparesUsed < 64)
    match from_ with
    | none => (none, s)
    | some e =>
      (some e, (s.modDie c e fun di => { di with sparesUsed := di.sparesUsed + 1 }).setSpares c (left - 1))

/-- A block becomes RETIRED and is counted (R242). -/
def State.markRetired (s : State) (c d b : Nat) : State :=
  let s := s.modBlock c d b fun x => { x with st := .retired, owned := false }
  (s.bumpXlt XLT_RETIRE_CNT).modDie c d fun di => { di with retiredAt := di.retiredAt ++ [s.opHours] }

/-- Retire a block and replace it in its channel's pool under R242; `pool` says it belonged to the conventional pool, whose
headroom falls when nothing replaces it (R246). -/
def State.retireBlock (s : State) (c d b : Nat) (pool : Bool) : State :=
  if (s.block c d b).st = .retired then s
  else
    let s := s.markRetired c d b
    match s.takeSpare c d with
    | (some _, s) => s.askCommit
    | (none, s) =>
      if pool then
        let s := { s with xl := { s.xl with retiredNoSpare := s.xl.retiredNoSpare + 1 } }.showPool
        if s.headroom = 0 then s.convReadOnly else s
      else s

/-- Set tags that are not in use, lowest first: the tag of a new set (R230). -/
def State.freeTag (s : State) : Option Nat := s.xl.sets.freeKey 3840

/-- Relocation runs while the free sets are below FREE_LOW, until they reach FREE_HIGH (R239). -/
def State.relocWanted (s : State) : Bool :=
  let low := s.get XLT_CFG_FREE_LOW
  let high := max low (s.get XLT_CFG_FREE_HIGH)
  decide (0 < s.convLbas) && (if s.flag XLT_STATUS_RELOC then decide (s.setsFree < high) else decide (s.setsFree < low))

def State.showReloc (s : State) : State := s.setB XLT_STATUS_RELOC s.relocWanted

/-- Erases of a set still to come. -/
def State.setErasing (s : State) (tag : Nat) : Bool :=
  s.fl.dies.any fun e => (e.2.queued.any fun o => o.owner == .eraseSet tag)
    || (match e.2.run with | some r => r.op.owner == .eraseSet tag | none => false)

/-- The next victim (R239, R241), of the sets not being erased: unprotected sets, sets asked for by RELOC_OLDEST or a reallocation, then full sets with the fewest valid
LBAs, ties to the oldest. -/
def State.victim (s : State) : Option Nat :=
  match s.xl.sets.find? fun e => e.2.unprotected && !s.setErasing e.1 with
  | some e => some e.1
  | none =>
    match s.xl.victims with
    | t :: _ => some t
    | [] =>
      (leastBy (fun e => e.2.valid * 2 ^ 80 + e.2.firstProg) (s.xl.sets.filter fun e => e.2.closed && !s.setErasing e.1)).map (·.1)

end Sys2Proof.Machine
end

