-- ==== Sys2Proof/Machine/OpsCache.lean ====
section
/-!
DEFINITION. The write cache: pairs, dirty data and its limit, write-through, journal, commit and admission, flushing
(chapter 05, R95 to R101, R231, R254 to R259).
Assumption log: DEDUCED (20, 23, 26, 28, 36, 81, 82); PRESUMED (53); DESIGN CHOICE (80, 100).
-/

namespace Sys2Proof.Machine

/-- The master identifier of the write cache. -/
def ownerWcu : Nat := 0x27

/-- Change a pair. -/
def State.modPair (s : State) (p : Nat) (f : Pair → Pair) : State :=
  { s with wc := { s.wc with pairs := s.wc.pairs.modify p f } }

/-- Dirty data of a slice in 64 KiB units: dirty pairs, and 64 KiB for each 4,096 held records (R232). -/
def State.dirtyOf (s : State) (slice : Nat) : Nat :=
  (s.wc.pairs.filter fun e => e.2.dirty && e.2.slice == slice).length + (s.xl.recs.filter fun r => r.slice == slice).length / 4096

/-- What a slice's share is held by (R65): its dirty pairs, those of writes not yet committed, and its held records. -/
def State.claimOf (s : State) (slice : Nat) : Nat :=
  (s.wc.pairs.filter fun e => (e.2.dirty || !e.2.committed) && e.2.slice == slice).length
    + (s.xl.recs.filter fun r => r.slice == slice).length / 4096

/-- Dirty data of the device in 64 KiB units. -/
def State.dirtyAll (s : State) : Nat := (s.wc.pairs.filter fun e => e.2.dirty).length + s.xl.recs.length / 4096

/-- The cache is in write-through (R135). -/
def State.inWT (s : State) : Bool := s.flag WCU_STATUS_WT

/-- A slice's dirty share in 64 KiB units (budget word 5, R66, R69). -/
def State.dirtyShare (s : State) (slice : Nat) : Nat := s.budget slice 5

/-- A slice's writes complete under the write-through rule: write-through, or a share below 2 MiB (R66). -/
def State.sliceThrough (s : State) (slice : Nat) : Bool := s.inWT || decide (s.dirtyShare slice < 32)

/-- Enter or leave write-through as its causes say (R135). -/
def State.setCause (s : State) (k : Nat) (on : Bool) : State :=
  let c := putBit (s.get WCU_STATUS_WT_CAUSE) k on
  let was := s.inWT
  let s := s.set WCU_STATUS_WT_CAUSE c
  let s := (s.setB WCU_STATUS_WT (c != 0)).setB GLB_MODE_STATUS_WRITE_THROUGH (c != 0)
  if c != 0 ∧ !was then
    { s with wc := { s.wc with firstBefore := s.wc.commitSeq } }.bump blkWCU WCU_WT_ENTRY 0 1 ownWCU |>.raise 275
  else if c = 0 ∧ was then s.raise 276
  else s

/-- The energy limit of R131 in 64 MiB units: E_u in 1/32 J, N_h dies, PWR in 0.25 W (0 acts as 1), T_OH in ms. -/
def energyLimit (eu nh pwr toh : Nat) : Nat :=
  let p := max 1 pwr
  15625 * nh * (1000 * eu - 16 * p * toh) / (2 * p * 67108864)

/-- The dirty limit that the inputs give now (R131, R133), in 64 MiB units. -/
def State.newLimit (s : State) : Nat :=
  let e := energyLimit (s.get WCU_LIMIT_IN_EU) (s.get WCU_LIMIT_IN_N_H) (s.get WCU_LIMIT_CFG_PWR) (s.get WCU_LIMIT_CFG_T_OH)
  min (min (s.get WCU_DIRTY_CFG_CEIL) (s.get WCU_DIRTY_CFG_CEIL_MAX)) e

/-- The dirty data held exceeds L (Table 05.6 PRESSURE). -/
def State.overLimit (s : State) : Bool := decide (s.get WCU_LIMIT_L * 1024 < s.dirtyAll)

/-- Channels of a new pair: copy A on the next live channel, copy B on the next live one after it (R121, R124); none while the list of
one of them has no buffer to give (R143).  DESIGN CHOICE (log 80): with one live channel a pair has copy A alone. -/
def State.pairLists (s : State) : Option (Nat × Option Nat) :=
  let gives := fun c => !s.pool.broken.contains (1 + c) && (s.listHead (1 + c)).isSome
  match ((List.range 4).map fun k => (s.wc.nextCh + k) % 4).find? s.chLive with
  | none => none
  | some a =>
    if !gives a then none
    else if s.liveChans.length < 2 then some (a, none)
    else
      match ((List.range 3).map fun k => (a + 1 + k) % 4).find? s.chLive with
      | some b => if gives b then some (a, some b) else none
      | none => none

/-- Take a pair of buffers for a slice, or for an internal unit, without asking the minimum (R121). -/
def State.takePair (s : State) (w : BufWait) : Option (Nat × Option Nat) × State :=
  match s.pairLists with
  | none => (none, s)
  | some (a, b) =>
    match s.allocFrom (1 + a) w with
    | (none, s) => (none, s)
    | (some i, s) =>
      let t := { s with wc := { s.wc with nextCh := (a + 1) % 4 } }
      match b with
      | none => (some (i, none), t)
      | some c =>
        match t.allocFrom (1 + c) w with
        | (none, t) => (none, { t with wc := { t.wc with nextCh := s.wc.nextCh } }.giveBack 1 i)
        | (some j, t) => (some (i, some j), t)

/-- Aligned runs of at most 16 LBAs of a command, one for each pair it takes. -/
def chunkLbas : Nat → Nat → Nat → List (Nat × Nat)
  | 0, _, _ => []
  | f + 1, lba, n =>
    if n = 0 then []
    else
      let k := min n (16 - lba % 16)
      (lba, k) :: chunkLbas f (lba + k) (n - k)

/-- The lowest pair number no pair has: what names the pair in a map entry (Table 08.1). -/
def State.freePairNum (s : State) : Nat :=
  ((List.range (s.wc.pairs.length + 1)).find? fun n => !s.wc.pairs.any fun e => e.2.num == n).getD 0

/-- A pair for some LBAs of a command. -/
def State.newPair (s : State) (nsid slice gen adm : Nat) (lba : Nat) (data : List Nat) (internal : Bool) :
    Option Nat × State :=
  let w : BufWait := { pool := 1, owner := ownerWcu, unit := 2, slice := slice, internal := internal, gen := gen, seq := adm }
  match s.takePair w with
  | (none, s) => (none, s)
  | (some (i, j), s) =>
    let id := s.wc.nextPair
    let p : Pair :=
      { nsid := nsid, conv := s.isConv nsid, num := s.freePairNum,
        slice := slice, gen := gen, adm := adm,
        a := some (s.listOf 1 i - 1, i), b := j.map fun j => (s.listOf 1 j - 1, j),
        data := (List.range data.length).map fun k => (lba + k, data.getD k 0),
        held := false, committed := false, dirty := false, seq := 0, pins := 0, releaseHeld := false, done := [],
        issued := [], lost := [], journaled := [], badCopy := none, time := 0, internal := internal, route := 0 }
    (some id, { s with wc := { s.wc with pairs := s.wc.pairs.put id p, nextPair := id + 1 } })

/-- The channel address of an LBA of a pair in buffer `i` (R331): a channel's buffers lie one after another from address 0 on.  DEDUCED (log 81). -/
def State.bufAddr (s : State) (i lba : Nat) : Nat := 65536 * (i % max 1 s.pool.per) + 4096 * (lba % 16)

/-- The copies a pair has: channel, buffer, copy B or not. -/
def Pair.copies (x : Pair) : List (Nat × Nat × Bool) :=
  (x.a.map fun e => (e.1, e.2, false)).toList ++ (x.b.map fun e => (e.1, e.2, true)).toList

/-- The write of an LBA's data to a copy of a pair. -/
def State.mirrorWrite (s : State) (p lba i : Nat) (copyB : Bool) : DramReq :=
  { cls := 0, source := ownerWcu, user := .pair p copyB, write := true, addr := s.bufAddr i lba, len := 4096 }

/-- The DMC takes a mirrored write of a pair once and queues it on the channel of each copy (R16, R335). -/
def State.queueMirror (s : State) (p : Nat) : State :=
  match s.wc.pairs.look p with
  | none => s
  | some x => s.each x.copies fun c s => s.each x.data fun d s => s.queueDram c.1 (s.mirrorWrite p d.1 c.2.1 c.2.2) (some (.mirror p))

/-- Every queue entry of a mirrored write has been accepted (R335). -/
def State.mirrorHeld (s : State) (p : Nat) : Bool := !(s.mm.chans.any fun e => e.2.waiting.any fun q => q.use == some (.mirror p))

/-- Forget the writes of a pair that no queue has accepted. -/
def State.dropMirror (s : State) (p : Nat) : State :=
  if s.mirrorHeld p then s
  else { s with mm := { s.mm with chans := s.mm.chans.mapVals fun _ c =>
    { c with waiting := c.waiting.filter fun q => q.use != some (.mirror p) } } }

/-- Give a pair's buffers back and forget it; while a read hit pins it the release is held (R128, R144). -/
def State.releasePair (s : State) (p : Nat) : State :=
  match s.wc.pairs.look p with
  | none => s
  | some x =>
    if x.pins != 0 then s.modPair p fun x => { x with releaseHeld := true, dirty := false }
    else
      let s := match x.a with | some (_, i) => s.giveBack 1 i | none => s
      let s := match x.b with | some (_, i) => s.giveBack 1 i | none => s
      ({ s with wc := { s.wc with pairs := s.wc.pairs.del p } }.dropMirror p).serveWaiters

/-- Pin a pair for a read hit (R127). -/
def State.pin (s : State) (p : Nat) : State := s.modPair p fun x => { x with pins := x.pins + 1 }

/-- Reads a channel has queued. -/
def State.queuedReads (s : State) (d : Nat) : Nat :=
  let c := s.dchan d
  ((c.waiting ++ c.reads).filter fun q => !q.req.write).length

/-- The copy a hit is served from: the one on the channel with fewer queued reads, copy A on a tie (R127). -/
def State.hitCopy (s : State) (x : Pair) : Option (Nat × Nat × Bool) := leastBy (fun c => s.queuedReads c.1) x.copies

/-- Queue the DRAM read of a hit; none where the pair has no copy. -/
def State.queueHit (s : State) (ctx lba p : Nat) : Option State :=
  (s.wc.pairs.look p).bind fun x => (s.hitCopy x).map fun c =>
    s.queueDram c.1 { cls := 3, source := ownerWcu, user := .pair p c.2.2, write := false, addr := s.bufAddr c.2.1 lba, len := 4096 } (some (.hit ctx lba p))

/-- Unpin a pair when a read hit's transfer has been issued (R127, R144). -/
def State.unpin (s : State) (p : Nat) : State :=
  let s := s.modPair p fun x => { x with pins := x.pins - 1 }
  match s.wc.pairs.look p with
  | some x => if x.pins = 0 ∧ x.releaseHeld then s.releasePair p else s
  | none => s

/-- The LBAs of a pair that a conventional map entry still names. -/
def State.livePairLbas (s : State) (p : Nat) (x : Pair) : List Nat :=
  (x.data.map (·.1)).filter fun l =>
    match s.mapGet x.nsid l with | some (.cache q _) => q == p | _ => false

/-- A committed conventional pair is released when its last live LBA has been programmed or overwritten (R128). -/
def State.settlePair (s : State) (p : Nat) : State :=
  match s.wc.pairs.look p with
  | some x => if x.conv ∧ x.committed ∧ (s.livePairLbas p x).isEmpty then s.releasePair p else s
  | none => s

/-- Dump dies in list order (R256): j-major, then ascending channel; as die keys. -/
def State.dumpList (s : State) : List Nat :=
  ((List.range 8).map fun j => (List.range 64).filterMap fun c =>
    ((s.hu.dumpDies.look c).bind fun l => l[j]?).map fun d => dieKey c d).flatten

/-- A dump die is healthy (R255): in service, with an armed slot, and not marked unhealthy. -/
def State.dumpHealthy (s : State) (k : Nat) : Bool :=
  s.inService (k / 32) (k % 32) && !s.hu.unhealthy.contains k
    && (match s.hu.armed.look k with | some (a, b) => a || b | none => false)

/-- The healthy-die list. -/
def State.healthyDies (s : State) : List Nat := s.dumpList.filter s.dumpHealthy

/-- The block of a dump die by its place in R254: 0 and 1 slots, 2 to 5 journal blocks, 6 and 7 area spares. -/
def State.sysBlock (s : State) (k j : Nat) : Nat := ((s.hu.dumpBlocks.lookD k []).getD j 0)

/-- Whether a slot is armed on a dump die. -/
def State.slotArmed (s : State) (d k : Nat) : Bool :=
  let a := s.hu.armed.lookD d (false, false)
  if k = 0 then a.1 else a.2

def State.setArmed (s : State) (d k : Nat) (b : Bool) : State :=
  let a := s.hu.armed.lookD d (false, false)
  { s with hu := { s.hu with armed := s.hu.armed.put d (if k = 0 then (b, a.2) else (a.1, b)) } }

/-- A slot is armed on a dump die: its block is erased, and wordline 0 holds the header with the next arming sequence number (R255). -/
def State.armSlot (s : State) (d k : Nat) : State :=
  let n := s.hu.armSeq + 1
  let s := { s with hu := { s.hu with armSeq := n, headers := s.hu.headers.put (2 * d + k) n } }
  (s.modBlock (d / 32) (d % 32) (s.sysBlock d k) fun b => { b with st := .opened, npp := 1, media := .slc }).setArmed d k true

/-- The place a dump die's journal ring writes next, if its block can take a wordline there: an erased block at wordline 0, an
open block at its next-page pointer. -/
def State.journalPlace (s : State) (k : Nat) : Option (Nat × Nat) :=
  let n := s.hu.jpos.lookD k 0 % 4096
  let b := s.sysBlock k (2 + n / 1024)
  let bl := s.block (k / 32) (k % 32) b
  let busy := ((s.die (k / 32) (k % 32)).queued.filter fun o => o.kind == .program && o.block == b).length
  if (n % 1024 = 0 ∧ bl.st = .erased ∧ busy = 0) ∨ (bl.st = .opened ∧ bl.npp ≤ n % 1024) ∨ (0 < n % 1024 ∧ bl.st = .erased) then
    some (b, n % 1024) else none

/-- The LBAs of a list by the bucket of their owner. -/
def countParts (l : List Nat) : NMap Nat := l.foldl (fun m b => m.put b (m.lookD b 0 + 1)) []

/-- Put one journal record of up to 15 LBAs on the next healthy dump die (R136, R259).  Nothing is journaled with fewer than
16 healthy dump dies; a full live table makes it wait. -/
def State.journalRecord (s : State) (nsid slice seq : Nat) (conv : Bool) (items : List (Nat × Nat × Nat)) : State :=
  let l := s.healthyDies
  if l.length < 16 ∨ 4096 ≤ s.hu.live.length + (s.wc.journal.filter fun r => !r.verified).length ∨ items.isEmpty then s
  else
    let j := s.hu.jseq + 1
    match ((List.range l.length).map fun i => l.getD ((j + i) % l.length) 0).find? fun k => (s.journalPlace k).isSome with
    | none => s
    | some k =>
      match s.journalPlace k with
      | none => s
      | some (b, wl) =>
        let r : JRec := { jseq := j, dkey := k, block := b, nsid := nsid, conv := conv, slice := slice,
                          lbas := items.map (·.1), pairs := (items.map (·.2.1)).eraseDups, seq := seq,
                          data := items.foldl (fun m e => m.put e.1 e.2.2) [], verified := false }
        let s := { s with hu := { s.hu with jseq := j, jpos := s.hu.jpos.put k ((s.hu.jpos.lookD k 0 + 1) % 4096) },
                          wc := { s.wc with journal := s.wc.journal ++ [r] } }
        s.queueOp (k / 32) (k % 32)
          { DieOp.base with kind := .program, block := b, wl := wl, media := .slc, slice := slice,
                            internal := false, time := s.now, first := true, owner := .journal j }

/-- Cut a list into pieces of 15. -/
def chunks15 {α : Type} : Nat → List α → List (List α)
  | 0, _ => []
  | n + 1, l => if l.isEmpty then [] else l.take 15 :: chunks15 n (l.drop 15)

/-- LBAs of a pair that are in no verified page and not on their way to the journal. -/
def State.unsafeLbas (s : State) (p : Nat) (x : Pair) : List Nat :=
  (x.data.map (·.1)).filter fun l =>
    !x.done.contains l && !x.journaled.contains l
      && !(s.wc.journal.any fun r => !r.verified && r.pairs.contains p && r.lbas.contains l)

/-- LBA offset at which a zone's incomplete member wordline begins; beyond it nothing is complete. -/
def Zone.wholeEnd (z : Zone) : Nat := z.dataEnd / z.ml * z.ml

/-- Conventional LBAs of a frontier that wait to be programmed: pair and LBA, single-copy ones first, then oldest commit first (R124, R128). -/
def State.frontierLbas (s : State) (r : Nat) : List (Nat × Nat) :=
  let key (e : Nat × Pair) : Nat := (if e.2.a.isNone ∨ e.2.b.isNone then 0 else 2 ^ 64) + e.2.seq
  (sortBy key (s.wc.pairs.filter fun e => e.2.conv && e.2.committed && e.2.route == r)).map (fun e =>
    ((s.livePairLbas e.1 e.2).filter fun l => !e.2.issued.contains l).map fun l => (e.1, l)) |>.flatten

/-- Whether an LBA of a pair lies in a wordline that cannot be programmed in place yet: an incomplete member wordline of a
zone, or the conventional frontier wordline not yet full (R136). -/
def State.incomplete (s : State) (p : Nat) (x : Pair) (l : Nat) : Bool :=
  if x.conv then
    let w := s.frontierLbas x.route
    (w.drop (w.length / 47 * 47)).contains (p, l)
  else
    match s.zone x.nsid (l / zoneSpan) with
    | some z => decide (z.wholeEnd ≤ l % zoneSpan)
    | none => false

/-- Journal the committed data of some pairs that lies in incomplete wordlines (R136), unless flash writes are forbidden (R130). -/
def State.journalPairs (s : State) (ps : List Nat) : State :=
  if s.flag THM_STATUS_WR_FORBID then s else
  let xs := ps.filterMap fun p => (s.wc.pairs.look p).map fun x => (p, x)
  let items := (xs.map fun (p, x) =>
    if x.committed then
      ((s.unsafeLbas p x).filter (s.incomplete p x)).map fun l => (x, (l, p, x.data.lookD l 0))
    else []).flatten
  match items with
  | [] => s
  | (x, _) :: _ =>
    s.each (chunks15 items.length (items.filterMap fun e => if e.1.nsid = x.nsid then some e.2 else none)) fun c s =>
      s.journalRecord x.nsid x.slice x.seq x.conv c

/-- Journal what some zone pairs hold in incomplete member wordlines; conventional data is journaled in write-through only (R134, R484). -/
def State.journalZones (s : State) (keep : Pair → Bool) : State :=
  s.each (s.wc.pairs.filter fun e => e.2.dirty && !e.2.conv && keep e.2) fun e s => s.journalPairs [e.1]

/-- The journal no longer needs an LBA's older values: their live bits clear; a record whose mask is empty leaves the table,
and a journal block none of whose records is left is erased (R259). -/
def State.clearLive (s : State) (nsid lba : Nat) (except : Nat) : State :=
  s.each s.hu.live fun e s =>
    if e.1 = except then s
    else
      match s.hu.jrecs.look e.1 with
      | none => s
      | some r =>
        if r.nsid != nsid ∨ !r.data.has lba then s
        else
          let i := (r.data.filter fun d => d.1 < lba).length
          let m := clrBit e.2 i
          if m != 0 then { s with hu := { s.hu with live := s.hu.live.put e.1 m } }
          else
            let place := s.hu.jplace.lookD e.1 (0, 0)
            let s := { s with hu := { s.hu with live := s.hu.live.del e.1, jrecs := s.hu.jrecs.del e.1,
                                                jplace := s.hu.jplace.del e.1 },
                              wc := { s.wc with journal := s.wc.journal.filter (·.jseq != e.1) } }
            let full := (s.block (place.1 / 32) (place.1 % 32) place.2).st == .full
            if full ∧ !(s.hu.jplace.any fun q => q.2 == place) then
              s.queueOp (place.1 / 32) (place.1 % 32)
                { DieOp.base with kind := .erase, block := place.2, time := s.now, owner := .eraseDump 2 }
            else s

/-- Data of an LBA has passed verify in place. -/
def State.doneLba (s : State) (p lba : Nat) : State :=
  s.modPair p fun x => { x with done := insSorted lba x.done }

/-- A pair whose every LBA is in place or journaled holds no dirty data (chapter 05, The dirty limit). -/
def State.cleanPair (s : State) (p : Nat) : State :=
  s.modPair p fun x =>
    if x.data.all fun e => x.done.contains e.1 || x.journaled.contains e.1 then { x with dirty := false } else x

/-- A journal record has passed verify (R136, R259). -/
def State.journalVerified (s : State) (j : Nat) : State :=
  match s.wc.journal.find? fun r => r.jseq == j with
  | none => s
  | some r =>
    let d : DumpPair := { nsid := r.nsid, conv := r.conv, slice := r.slice, route := 0, seq := r.seq, single := false, data := r.data,
                          lost := [] }
    let s := { s with wc := { s.wc with journal := s.wc.journal.map fun (x : JRec) => if x.jseq = j then { x with verified := true } else x },
                      hu := { s.hu with live := s.hu.live.put j (2 ^ r.lbas.length - 1), jrecs := s.hu.jrecs.put j d,
                                        jplace := s.hu.jplace.put j (r.dkey, r.block) } }
    let s := s.bump blkWCU WCU_JOURNAL_PG 0 1 ownWCU
    let s := s.each r.lbas fun l s => s.clearLive r.nsid l j
    let s := s.each r.pairs fun p s =>
      s.modPair p fun x => { x with journaled := (r.lbas.filter fun l => x.data.has l).foldl (fun m l => insSorted l m) x.journaled }
    s.each r.pairs fun p s => s.cleanPair p

/-- The zone a command at the zone engine is for. -/
def Adm.zkey (a : Adm) : Nat := zkeyOf a.nsid (a.lba / zoneSpan)

/-- The command works on a zone, not on a conventional namespace. -/
def State.admZoned (s : State) (a : Adm) : Bool := !s.isConv a.nsid

/-- A write, append or zeroes command. -/
def AdmKind.isWrite : AdmKind → Bool
  | .write => true | .append => true | .zeroes => true | .copy => true | .repl => true
  | _ => false

def State.adm (s : State) (id : Nat) : Option Adm := s.zn.adm.find? (·.id == id)

def State.modAdm (s : State) (id : Nat) (f : Adm → Adm) : State :=
  { s with zn := { s.zn with adm := s.zn.adm.map fun a => if a.id = id then f a else a } }

def State.dropAdm (s : State) (id : Nat) : State :=
  { s with zn := { s.zn with adm := s.zn.adm.filter (·.id != id) } }

/-- Complete the command of an admission; Zone Append returns its LBA in dwords 0 and 1 (R97). -/
def State.completeAdm (s : State) (a : Adm) (st : NvmeStatus) : State :=
  match a.ctx with
  | none => s
  | some id =>
    if a.kind = .append ∧ st = .success then s.complete id st (a.lba % 2 ^ 32) (a.lba / 2 ^ 32) else s.complete id st

/-- One of several actions of a Select All command ends; the command completes with the last. -/
def State.actionDone (s : State) (a : Adm) (st : NvmeStatus) : State :=
  match a.ctx with
  | none => s
  | some id =>
    match s.ctx id with
    | some c =>
      if 1 < c.remaining then s.modCtx id fun c => { c with remaining := c.remaining - 1, status := if st = .success then c.status else st }
      else s.complete id (if st = .success then c.status else st)
    | none => s

/-- Earlier commands of the same zone that have not committed or been discarded. -/
def State.ahead (s : State) (a : Adm) : Bool :=
  (s.zn.adm.takeWhile fun b => b.id != a.id).any fun b => b.zkey == a.zkey && b.stage != .verify

/-- Earlier commands of the same zone that have not been admitted. -/
def State.notAdmitted (s : State) (a : Adm) : Bool :=
  (s.zn.adm.takeWhile fun b => b.id != a.id).any fun b =>
    b.zkey == a.zkey && (b.stage == .waiting || !b.kind.isWrite)

/-- A replicated write failed at the partner: the binding goes out of step (R377). -/
def State.replicaFailed (s : State) (id k : Nat) : State :=
  let s := (s.set JNR_BIND_0_OOS 1 k).raise 139
  let s := s.modCtx id fun c => { c with replWait := false, replFailed := true }
  match s.ctx id with
  | some c => if c.localDone then s.complete id .internalPathError else s
  | none => s

/-- A write of a replicated binding is sent to the partner from the buffers the local mirror is written from, an append as a Write to
the LBA it was given (R376); without a path it fails at once (R371). -/
def State.replicate (s : State) (a : Adm) : State :=
  match a.ctx.bind s.ctx, s.bindingOf a.nsid 2 with
  | some c, some k =>
    if c.remote.isSome then s
    else
      let e : SqEntry := { c.e with opc := if a.kind = .zeroes then 0x08 else 0x01, nsid := s.get JNR_BIND_1_RNSID k + 1, dw10 := a.lba % 2 ^ 32,
                                    dw11 := a.lba / 2 ^ 32, dw12 := a.len - 1 }
      let r : Remote := { for_ := .replicated c.id k, dst := s.get JNR_BIND_1_NODE k, type := 0x11, entry := e,
                          data := if a.kind = .zeroes then [] else a.data, attempts := 1, since := s.now }
      match s.newRequest r with
      | some s => s.modCtx c.id fun c => { c with replWait := true }
      | none => (s.raise 135).replicaFailed c.id k
  | _, _ => s

/-- An admitted write waits (R66, R130, R139, R234); source 119 is raised as it begins to lack dirty share. -/
def State.waitFor (s : State) (a : Adm) (why : AdmWait) : State :=
  let s := s.modAdm a.id fun a => { a with stage := .buffers, why := why }
  if why = .share ∧ a.why ≠ .share then s.raise 119 else s

/-- A slice has the dirty share for `n` more pairs (R65, R66): writes not yet committed count; in write-through nothing becomes dirty, and
only what is above the share holds writes up. -/
def State.shareRoom (s : State) (slice n : Nat) : Bool :=
  if s.sliceThrough slice then decide (s.dirtyOf slice ≤ s.dirtyShare slice) else decide (s.claimOf slice + n ≤ s.dirtyShare slice)

/-- Leave to take write data: not in write-through while flash writes are forbidden (R130), not for conventional data while
checkpoints stall (R234). -/
def State.mayTake (s : State) (a : Adm) : Bool :=
  !(s.sliceThrough a.slice && s.flag THM_STATUS_WR_FORBID) && (s.admZoned a || !s.flag XLT_STATUS_STALL)

/-- Take the data of an admitted write into pairs and send it to both channels, if its slice has the dirty share and the buffers and no
earlier write of the slice waits for them (R66, R121, R139). -/
def State.takeData (s : State) (a : Adm) : State :=
  let cs := chunkLbas (a.len + 1) a.lba a.len
  let n := cs.length
  let each := if s.liveChans.length < 2 then n else 2 * n
  if !s.shareRoom a.slice n then s.waitFor a .share
  else if !s.mayTake a then s.waitFor a .leave
  else if s.sliceMin 1 a.slice < s.bufUsed 1 a.slice + each || s.writeBehind a.slice a.id then s.waitFor a .buffers
  else
    let (ids, s) := cs.foldl (fun (acc : List Nat × State) (c : Nat × Nat) =>
      match acc.2.newPair a.nsid a.slice a.gen a.id c.1 ((a.data.drop (c.1 - a.lba)).take c.2) false with
      | (some p, s) => (acc.1 ++ [p], s)
      | (none, s) => (acc.1, s)) ([], s)
    if ids.length = n then
      let s := if a.kind = .zeroes then s else match a.ctx.bind s.ctx with | some c => s.readHost c (4096 * a.len) | none => s
      let s := (s.modAdm a.id fun a => { a with stage := .moving, why := .nothing, pairs := ids }).replicate a
      (s.each ids fun p s => s.queueMirror p).serveDram
    else (s.each ids fun p s => s.releasePair p).waitFor a .buffers

/-- The status of a zone in which no write may go (R95 step 2). -/
def ZState.refuses : ZState → Option NvmeStatus
  | .full => some .zoneIsFull | .readOnly => some .zoneIsReadOnly | .offline => some .zoneIsOffline
  | _ => none

/-- A write that ends at admission with an error leaves the engine. -/
def State.rejectAdm (s : State) (a : Adm) (st : NvmeStatus) : State := (s.dropAdm a.id).completeAdm a st

/-- Check a write at admission in the order of R95; `opened` tells the repeat after an open.  It advances AP and gives an
append its LBA (R97). -/
def State.admitWrite (s : State) (a : Adm) (upsets : List Upset) : State :=
  let z := a.lba / zoneSpan
  let append := a.kind == .append
  let place (s : State) : Nat := if append then s.zap a.nsid z else a.lba % zoneSpan
  let past (s : State) : Bool := decide (s.zcap a.nsid z < place s + a.len)
  let finish (s : State) : State :=
    let o := place s
    let s := s.modZone (zkeyOf a.nsid z) fun r => { r with ap := r.ap + a.len }
    let a' := { a with lba := z * zoneSpan + o }
    (s.modAdm a.id fun _ => a').takeData a'
  if past s then s.rejectAdm a .zoneBoundaryError
  else
    match (s.zstate a.nsid z).refuses with
    | some st => s.rejectAdm a st
    | none =>
      if !append ∧ a.lba % zoneSpan != s.zap a.nsid z then s.rejectAdm a .zoneInvalidWrite
      else if s.zstate a.nsid z = .empty then
        match s.openZone a.nsid z a.slice a.gen a.opc a.hint false a.found upsets with
        | (.failed st, _, s) => s.rejectAdm a st
        | (.wait, f, s) => s.modAdm a.id fun a => { a with found := f }
        | (.done, _, s) => if past s then s.rejectAdm a .zoneBoundaryError else finish s
      else if s.zstate a.nsid z = .closed then
        finish (s.modZone (zkeyOf a.nsid z) fun r => { r with state := .implicitOpen })
      else finish s

/-- Release the stripe of a zone for erase (R98). -/
def State.releaseStripe (s : State) (z : Zone) (slice : Nat) (internal : Bool) : State :=
  s.eraseMembers z.members slice internal .eraseStripe

/-- Discard the cached data of a zone: write-through writes that had committed complete with Success (R98, R136). -/
def State.discardZoneData (s : State) (key : Nat) : State :=
  let s := s.each (s.zn.adm.filter fun a => a.zkey == key && a.stage == .verify) fun a s =>
    (s.dropAdm a.id).completeAdm a .success
  let ps := (s.wc.pairs.filter fun e => !e.2.conv && e.2.committed
    && e.2.data.any fun d => zkeyOf e.2.nsid (d.1 / zoneSpan) == key)
  let s := s.each ps fun e s =>
    let s := s.each (e.2.data.map (·.1)) fun l s => s.clearLive e.2.nsid l 0
    s.releasePair e.1
  { s with wc := { s.wc with journal := s.wc.journal.filter fun r =>
      r.verified || r.conv || !(r.lbas.any fun l => zkeyOf r.nsid (l / zoneSpan) == key) } }

/-- Withdraw the queued programs of a zone; those that dies run end without effect on it. -/
def State.withdrawZone (s : State) (key : Nat) : State :=
  let mine (o : DieOp) : Bool :=
    match o.owner with
    | .member k _ _ => k == key
    | .parity k _ _ => k == key
    | .filler k _ _ => k == key
    | _ => false
  { s with fl := { s.fl with dies := s.fl.dies.mapVals fun _ di => { (di.withdraw mine).admitHeld with run := di.run.map (·.orphan mine) } } }

/-- Reset a zone (R98, R101). -/
def State.resetZone (s : State) (key slice : Nat) (internal : Bool) : State :=
  match s.zn.zones.look key with
  | none => s
  | some z =>
    let s := (s.discardZoneData key).withdrawZone key
    let s := (s.freeZoneCtxOf key).dropParity key
    let s := { s with zn := { s.zn with zones := s.zn.zones.del key, recompPending := s.zn.recompPending.filter fun e => e.1 != key,
                                        roPending := s.zn.roPending.filter (· != key) },
                      xl := { s.xl with wearZones := s.xl.wearZones.del key } }
    let s := s.releaseStripe z slice internal
    if z.zcap = zcapEmpty then s else s.zoneChanged z.nsid z.z

/-- A zone goes Offline: dirty data, parity and context are released, and writes that were admitted and have not committed end with Zone Is
Offline (R101). -/
def State.zoneOffline (s : State) (key : Nat) : State :=
  match s.zn.zones.look key with
  | none => s
  | some z =>
    if z.state = .offline then s
    else
      let s := (s.discardZoneData key).withdrawZone key
      let s := s.each (s.zn.adm.filter fun a => a.zkey == key && a.kind.isWrite && a.stage != .waiting) fun a s =>
        ((s.each a.pairs fun p s => s.releasePair p).dropAdm a.id).completeAdm a .zoneIsOffline
      let s := (s.freeZoneCtxOf key).dropParity key
      (s.modZone key fun z => { z with state := .offline, ctx := none, ap := z.wp }).zoneChanged z.nsid z.z

/-- A Full zone whose last program has ended frees its context (R101). -/
def State.fullEnded (s : State) (key : Nat) : State :=
  match s.zn.zones.look key with
  | some z => if z.state = .full ∧ z.programsEnded ∧ z.ctx.isSome then s.freeZoneCtxOf key else s
  | none => s

/-- A Zone Management Send acts (R98): the state change, or an invalid transition. -/
def State.zoneAction (s : State) (a : Adm) (upsets : List Upset) : State :=
  let z := a.lba / zoneSpan
  let key := a.zkey
  let st := s.zstate a.nsid z
  let ends (s : State) (r : NvmeStatus) : State := (s.dropAdm a.id).actionDone a r
  match a.kind with
  | .open =>
    match st with
    | .empty =>
      match s.openZone a.nsid z a.slice a.gen 3 0 true a.found upsets with
      | (.failed r, _, s) => ends s r
      | (.wait, f, s) => s.modAdm a.id fun a => { a with found := f }
      | (.done, _, s) => ends s .success
    | .closed | .implicitOpen => ends (s.modZone key fun z => { z with state := .explicitOpen }) .success
    | .explicitOpen => ends s .success
    | _ => ends s .invalidZoneStateTransition
  | .close =>
    match st with
    | .implicitOpen | .explicitOpen => ends ((s.modZone key fun z => { z with state := .closed }).spillZone key) .success
    | .closed => ends s .success
    | _ => ends s .invalidZoneStateTransition
  | .finish =>
    match st with
    | .empty =>
      let z' : Zone :=
        { nsid := a.nsid, z := z, state := .full, wp := zcapEmpty, ap := zcapEmpty, zcap := zcapEmpty, ctx := none,
          slice := a.slice, gen := a.gen, route := 0, prio := 0, fn := 0, media := .qlc, split := false, rowFlush := false,
          members := [], fillFrom := some 0, lastProg := s.now, lost := [] }
      ends { s with zn := { s.zn with zones := s.zn.zones.put key z' } } .success
    | .implicitOpen | .explicitOpen | .closed =>
      let s := s.modZone key fun z => { z with state := .full, fillFrom := some z.wp, wp := z.zcap, ap := z.zcap }
      ends (s.fullEnded key) .success
    | .full => ends s .success
    | _ => ends s .invalidZoneStateTransition
  | .reset =>
    match st with
    | .empty => ends s .success
    | .readOnly | .offline => ends s .invalidZoneStateTransition
    | _ => ends (s.resetZone key a.slice false) .success
  | .offline =>
    match st with
    | .readOnly => ends (s.zoneOffline key) .success
    | .offline => ends s .success
    | _ => ends s .invalidZoneStateTransition
  | _ => s

/-- Conventional namespaces admit I/O (R235). -/
def State.convOpen (s : State) : Bool := !s.flag XLT_STATUS_RESTART

/-- Try to take in one waiting command (R95, R98): a write when its predecessors have been admitted, a zone action when they
have settled; a conventional write when its namespace admits I/O. -/
def State.tryAdmit (s : State) (a : Adm) (upsets : List Upset) : State :=
  match a.stage with
  | .waiting =>
    if !s.admZoned a then
      if s.convOpen && !s.touchesLost a.nsid a.lba a.len then
        let hint := a.hint
        let ((r, _, refuse), s) :=
          match a.found with
          | some (r, b) => ((r, b, false), s)
          | none => s.waypoint a.nsid (waypointKey a.lba a.opc (if a.opc < 3 then hint else 0) (a.nsid - 1) a.slice) upsets
        if refuse then s.rejectAdm a .accessDenied
        else
          let a := { a with found := some (r, false) }
          (s.modAdm a.id fun _ => a).takeData a
      else s
    else if a.kind.isWrite then (if s.notAdmitted a then s else s.admitWrite a upsets)
    else if s.ahead a then s else s.zoneAction a upsets
  | .buffers => s.takeData a
  | _ => s

/-- Make the dirty-epoch slot entry of a zone or conventional namespace before its first dirty write is acknowledged
(R400). -/
def State.slotEntry (s : State) (a : Adm) : State :=
  let (n, kind, zone) :=
    if s.admZoned a then
      (match s.zn.zones.look a.zkey with | some z => z.ctx.getD 0 | none => 0, 1, a.lba / zoneSpan)
    else (3072 + (a.nsid - 1), 2, 0)
  let new (e : Nat) : SlotEntry := { nsid := a.nsid, kind := kind, slice := a.slice, zone := zone, epochIn := e, cleanSince := none }
  match s.ms.slots.look n with
  | some e =>
    if e.nsid = a.nsid ∧ e.kind = kind ∧ e.zone = zone then
      { s with ms := { s.ms with slots := s.ms.slots.put n { e with cleanSince := none } } }
    else { s with ms := { s.ms with slots := s.ms.slots.put n (new s.ms.epoch) } }
  | none => { s with ms := { s.ms with slots := s.ms.slots.put n (new s.ms.epoch) } }

/-- A zone whose WP reaches its capacity becomes Full (R96). -/
def State.zoneFull (s : State) (key : Nat) : State :=
  s.modZone key fun z => if z.zcap ≤ z.wp ∧ z.state.active then { z with state := .full } else z

/-- The buffers of a committed pair belong to the cache, in generation 0 (R70). -/
def State.ownBuffers (s : State) (p : Nat) : State :=
  match s.wc.pairs.look p with
  | none => s
  | some x => x.copies.foldl (fun s c =>
      { s with pool := { s.pool with desc := s.pool.desc.modify (bufKey 1 c.2.1) fun d => { d with gen := 0 } } }) s

/-- Commit a held write (R96, R125, R231): WP advances, or the map takes the command's LBAs; its data becomes dirty, or under
write-through waits for verify, with its incomplete part journaled (R136). -/
def State.commit (s : State) (a : Adm) : State :=
  let seq := if s.admZoned a then s.wc.commitSeq + 1 else s.xl.seq + 1
  let through := s.sliceThrough a.slice
  let s := { s with wc := { s.wc with commitSeq := s.wc.commitSeq + 1 } }
  let s := if s.admZoned a then s else { s with xl := { s.xl with seq := seq, sinceStart := s.xl.sinceStart + a.len,
                                                                    sinceCommit := s.xl.sinceCommit + a.len } }
  let s := s.each a.pairs fun p s =>
    let s := s.ownBuffers p
    s.modPair p fun x => { x with gen := 0, committed := true, dirty := !through, seq := seq, time := s.wc.commitSeq,
                                  route := (a.found.getD (0, false)).1 }
  let s :=
    if s.admZoned a then
      (s.modZone a.zkey fun z => { z with wp := z.wp + a.len }).zoneFull a.zkey
    else
      s.each a.pairs fun p s =>
        match s.wc.pairs.look p with
        | none => s
        | some x =>
          s.each (List.range x.data.length) fun i s =>
            match x.data[i]? with
            | none => s
            | some (l, _) =>
              let old := s.mapGet a.nsid l
              let s := s.mapPut a.nsid l (some (.cache p i))
              let s := { s with xl := { s.xl with recs := trimRecs a.nsid l s.xl.recs } }
              match old with
              | some (.cache q _) => s.settlePair q
              | _ => s
  let s := s.slotEntry a
  if through then (s.modAdm a.id fun a => { a with stage := .verify }).journalPairs a.pairs
  else
    let s := (s.dropAdm a.id).completeAdm a .success
    if s.wc.flushBy.isEmpty ∨ !s.admZoned a then s else s.journalPairs a.pairs

/-- The next write that may commit: held, with every command of its zone ahead of it settled (R96). -/
def State.nextCommit (s : State) : Option Adm :=
  s.zn.adm.find? fun a => a.kind.isWrite && a.stage == .held && (!s.admZoned a || !s.ahead a)

/-- All data of a write under write-through is in verified pages or records (R136). -/
def State.admSafe (s : State) (a : Adm) : Bool :=
  a.pairs.all fun p =>
    match s.wc.pairs.look p with
    | none => true
    | some x => x.data.all fun d => x.done.contains d.1 || x.journaled.contains d.1

/-- A zone waiting to go Read Only does so once its admitted commands have settled (R245). -/
def State.roSettle (s : State) : State :=
  s.each s.zn.roPending fun key s =>
    if s.zn.adm.any fun a => a.zkey == key && a.stage != .waiting && a.stage != .verify then s
    else { s with zn := { s.zn with roPending := s.zn.roPending.filter (· != key) } }.zoneReadOnly key

/-- Move the engine on as far as it can go: commits, verified write-through commands, admissions in order of arrival. -/
def State.pumpLoop : Nat → State → State
  | 0, s => s
  | n + 1, s =>
    match s.nextCommit with
    | some a => State.pumpLoop n (s.commit a)
    | none =>
      match s.zn.adm.find? fun a => a.stage == .verify && s.admSafe a with
      | some a => State.pumpLoop n ((s.dropAdm a.id).completeAdm a .success)
      | none => s

/-- One pass of admission over the commands that wait. -/
def State.admitPass (s : State) : State :=
  s.each (s.zn.adm.map (·.id)) fun id s =>
    match s.adm id with
    | some a => s.tryAdmit a []
    | none => s

/-- Journal again what found no room or no leave (R130, R136, R484): data of writes that wait for verify, and while a flush to empty runs
the incomplete wordlines of zones. -/
def State.journalAgain (s : State) : State :=
  if !s.inModes [.run, .service] then s
  else
    let s := s.each (s.zn.adm.filter fun a => a.stage == .verify) fun a s => s.journalPairs a.pairs
    if s.wc.flushBy.isEmpty then s else s.journalZones fun _ => true

/-- The parity member of a group's row in progress is queued once its data members stand (R103), after what had been queued was given
back too. -/
def State.issueParity (s : State) (key g : Nat) : State :=
  match s.zn.zones.look key with
  | none => s
  | some z =>
    let slot := paritySlot z.split z.fn g
    match z.members[slot]? with
    | none => s
    | some m =>
      match s.parityOf key g m.issued with
      | some p =>
        if p.count = groupSize z.split ∧ m.rebuilt.isNone ∧ s.inService m.ch m.die ∧ !s.zn.recompPending.contains (key, g) then
          (s.modZone key fun z => { z with members := z.members.set slot { m with issued := m.issued + 1 } }).queueOp m.ch m.die
            { DieOp.base with kind := .program, block := m.block, wl := m.issued, media := z.media, slice := z.slice, parts := p.parts,
                              internal := false, time := s.now, prio := z.prio, owner := .parity key m.issued g }
        else s
      | none => s

/-- Queue the parity members of zones that may be queued. -/
def State.issueParities (s : State) : State :=
  s.each ((s.zn.accs ++ s.zn.slots).filter fun e => e.2.zkey < 2 ^ 48) fun e s => s.issueParity e.2.zkey e.2.group

/-- Mirror a single-copy region again when a buffer on a live channel other than its survivor's is free (R124): its data goes to the
write queue of that channel. -/
def State.remirror (s : State) (p : Nat) : State :=
  match s.wc.pairs.look p with
  | none => s
  | some x =>
    match x.copies with
    | [c] =>
      let gives (d : Nat) : Bool := d != c.1 && s.chLive d && !s.pool.broken.contains (1 + d) && (s.listHead (1 + d)).isSome
      match (List.range 4).find? gives with
      | none => s
      | some d =>
        match s.allocFrom (1 + d) { pool := 1, owner := ownerWcu, unit := 2, slice := x.slice, internal := x.internal, gen := x.gen, seq := x.adm } with
        | (some i, s) =>
          let s := s.modPair p fun x => if c.2.2 then { x with a := some (d, i) } else { x with b := some (d, i) }
          s.each x.data fun e s => s.queueDram d (s.mirrorWrite p e.1 i (!c.2.2)) none
        | (none, s) => s
    | _ => s

/-- Mirror again what can be: only where two channels are live. -/
def State.remirrorAll (s : State) : State :=
  if s.liveChans.length < 2 then s
  else (s.each (s.wc.pairs.filter fun e => e.2.a.isNone != e.2.b.isNone) fun e s => s.remirror e.1).serveDram

def State.pump (s : State) : State :=
  let n := 2 * s.zn.adm.length + 2
  let s := State.pumpLoop n s
  let s := s.admitPass
  ((State.pumpLoop n s).roSettle.journalAgain.issueParities).remirrorAll

/-- A command arrives at the zone engine, or at the cache for a conventional namespace (R95). -/
def State.arriveAdm (s : State) (a : Adm) (upsets : List Upset) : State :=
  let a := { a with id := s.zn.nextAdm }
  let s := { s with zn := { s.zn with adm := s.zn.adm ++ [a], nextAdm := s.zn.nextAdm + 1 } }
  (s.tryAdmit a upsets).pump

/-- Discard an admitted, uncommitted write and every later uncommitted one of its zone; those whose queue and generation
stand complete with Command Interrupted (R96). -/
def State.discardAdm (s : State) (a : Adm) : State :=
  let late := if s.admZoned a then
      s.zn.adm.filter fun b => b.zkey == a.zkey && a.id ≤ b.id && b.kind.isWrite && b.stage != .waiting && b.stage != .verify
    else [a]
  let s := s.each late fun b s =>
    let s := s.each b.pairs fun p s => s.releasePair p
    (s.dropAdm b.id).completeAdm b .commandInterrupted
  if s.admZoned a then
    s.modZone a.zkey fun z => { z with ap := z.wp + ((s.zn.adm.filter fun b =>
      b.zkey == a.zkey && b.kind.isWrite && b.stage != .waiting && b.stage != .verify).foldl (fun n b => n + b.len) 0) }
  else s

/-- Both copies of a pair's region are uncorrectable: its LBAs are lost (R123). -/
def State.losePair (s : State) (p : Nat) : State :=
  match s.wc.pairs.look p with
  | none => s
  | some x =>
    let ls := x.data.map (·.1)
    let s := s.modPair p fun x => { x with lost := ls, badCopy := none }
    let s := (s.bump blkWCU WCU_LOST_CNT 0 ls.length ownWCU).raise 278
    if x.conv then
      s.each (s.livePairLbas p x) fun l s =>
        let r : HeldRec := { nsid := x.nsid, lba := l, len := 1, lost := true, slice := x.slice, covered := false }
        let s := s.mapPut x.nsid l (some .lost)
        { s with xl := { s.xl with recs := s.xl.recs ++ [r] } }.settlePair p
    else
      s.each ls fun l s => s.modZone (zkeyOf x.nsid (l / zoneSpan)) fun z => { z with lost := z.lost ++ [(l, l)] }

/-- A read of one copy of a pair is uncorrectable (R122, R123): the other copy is read for the same use, or both are lost. -/
def State.copyBad (s : State) (p : Nat) (copyB : Bool) (r : DramReq) (use : Option CacheUse) : State :=
  match s.wc.pairs.look p with
  | none => s
  | some x =>
    match if copyB then x.a else x.b with
    | none => s.losePair p
    | some (d, i) =>
      if x.badCopy = some !copyB then s.losePair p
      else
        (s.modPair p fun x => { x with badCopy := some copyB }).queueDram d
          { r with user := .pair p !copyB, write := false, addr := s.bufAddr i 0 + r.addr % 65536 } use

/-- A read of the other copy is good: the bad copy is rewritten from it (R122). -/
def State.copyGood (s : State) (p : Nat) (copyB : Bool) (r : DramReq) : State :=
  match s.wc.pairs.look p with
  | some x =>
    if x.badCopy = some !copyB then
      let s := (s.modPair p fun x => { x with badCopy := none }).bump blkWCU WCU_MIRROR_FIX 0 1 ownWCU
      match if copyB then x.a else x.b with
      | some (d, i) => s.queueDram d { r with cls := 0, user := .pair p !copyB, write := true, addr := s.bufAddr i 0 + r.addr % 65536 } none
      | none => s
    else s
  | none => s

/-- Recompute the slice shares of the dirty limit (R66, R69): word 5 of every slice. -/
def State.shareDirty (s : State) : State :=
  let v := s.get WCU_LIMIT_L * 1024 / s.sliceCount
  s.each (List.range s.sliceCount) fun n s =>
    { s.set SLM_BUDGET v n 5 with resets := s.resets.modify n fun r => { r with budget := r.budget.del 5 } }

/-- A slice holds more dirty data than its share. -/
def State.aboveShare (s : State) (slice : Nat) : Bool := decide (s.dirtyShare slice < s.dirtyOf slice)

/-- Journal what slices above their share hold in incomplete member wordlines of zones (R134). -/
def State.relieve (s : State) : State := s.journalZones fun x => s.aboveShare x.slice

/-- L takes a value (R132): shares, pressure with source 274, and cause LOW_LIMIT (Table 05.2). -/
def State.applyLimit (s : State) (l : Nat) : State :=
  let was := s.overLimit
  let s := (s.set WCU_LIMIT_L l).shareDirty
  let s := if s.overLimit then (if was then s else s.raise 274).relieve else s
  let s := if l < 16 then s.setCause 0 true else s
  { s with wc := { s.wc with okSince := if 32 ≤ l then s.wc.okSince.or (some s.now) else none } }

/-- Recompute L (R131, R132): a lower value at once, a higher one after it has held for 1 s: what takes effect is the least value
computed since then. -/
def State.recomputeLimit (s : State) : State :=
  let e := energyLimit (s.get WCU_LIMIT_IN_EU) (s.get WCU_LIMIT_IN_N_H) (s.get WCU_LIMIT_CFG_PWR) (s.get WCU_LIMIT_CFG_T_OH)
  let s := s.set WCU_LIMIT_L_ENERGY (satW 12 e)
  let l := s.newLimit
  let cur := s.get WCU_LIMIT_L
  if !s.wc.started then
    let s := { s with wc := { s.wc with started := true, raise := none } }.applyLimit l
    if l < 16 then s else s.setCause 0 false
  else if l < cur then ({ s with wc := { s.wc with raise := none } }.applyLimit l).pump
  else if l = cur then { s with wc := { s.wc with raise := none } }
  else
    match s.wc.raise with
    | some (v, t) => { s with wc := { s.wc with raise := some (min v l, t) } }
    | none => { s with wc := { s.wc with raise := some (l, s.now) } }

/-- The hold-up controller supplies E_u and N_h (R131, R268); the limit is computed from them from the end of BOOT on (R132). -/
def State.supply (s : State) (eu nh : Nat) : State :=
  let s := (s.set WCU_LIMIT_IN_EU eu).set WCU_LIMIT_IN_N_H nh
  if s.wc.started then s.recomputeLimit else s

/-- Since a deferral of ROW_FLUSH is lifted (R129, R484). -/
def State.rowLifted (s : State) (z : Zone) : Bool :=
  decide (9 * s.dirtyShare z.slice ≤ 10 * s.dirtyOf z.slice) || z.state == .closed || z.state == .full || s.inWT
    || s.overLimit || !s.wc.flushBy.isEmpty

/-- Data of a member wordline of a zone as the cache holds it: position to data (R128); filler reads zero. -/
def State.wordlineData (s : State) (z : Zone) (n : Nat) : NMap Nat :=
  (List.range z.ml).foldl (fun m q =>
    let l := z.z * zoneSpan + n * z.ml + q
    match s.wc.pairs.find? fun e => !e.2.conv && e.2.nsid == z.nsid && e.2.committed && e.2.data.has l with
    | some e => m.put q (e.2.data.lookD l 0)
    | none => m) []

/-- Commit time of a zone's next wordline, and whether it is a single-copy region. -/
def State.flushAge (s : State) (z : Zone) (n : Nat) : Nat × Bool :=
  let lo := z.z * zoneSpan + n * z.ml
  let ps := s.wc.pairs.filter fun e => !e.2.conv && e.2.nsid == z.nsid && e.2.committed
    && e.2.data.any fun d => decide (lo ≤ d.1) && decide (d.1 < lo + z.ml)
  (ps.foldl (fun t e => if t = 0 then e.2.time else min t e.2.time) 0, ps.any fun e => e.2.a.isNone || e.2.b.isNone)

/-- The member wordline a zone can flush now (R117, R128, R129): complete, its member not being moved or rebuilt, the rows of
its group before it finished and its partial parity at hand, and its row not deferred. -/
def State.zoneFlush (s : State) (z : Zone) : Option Nat :=
  let n := z.nextIssue
  let row := n / z.d
  let ready := decide ((n + 1) * z.ml ≤ z.dataEnd) && z.ctx.isSome && z.state != .offline
  let rowDone := decide ((row + 1) * z.d * z.ml ≤ z.dataEnd)
  let m := z.members[slotOfMember z.split z.fn (n % z.d)]?
  let free := match m with | some m => m.rebuilt.isNone && s.inService m.ch m.die | none => false
  let g := groupOf z.split (n % z.d)
  let turn := (match z.members[paritySlot z.split z.fn g]? with | some m => decide (row ≤ m.verified) | none => false)
    && !s.zn.recompPending.contains (zkeyOf z.nsid z.z, g)
  if ready && free && turn && (!z.rowFlush || rowDone || s.rowLifted z) then some n else none

/-- The slices whose data a member wordline of a zone holds, with their LBAs (R68); filler is the opener's. -/
def State.wordlineParts (s : State) (z : Zone) (n : Nat) : NMap Nat :=
  countParts ((List.range z.ml).map fun q =>
    let l := z.z * zoneSpan + n * z.ml + q
    match s.wc.pairs.find? fun e => !e.2.conv && e.2.nsid == z.nsid && e.2.committed && e.2.data.has l with
    | some e => if e.2.internal then 256 else e.2.slice
    | none => z.slice)

/-- Order of flushes (R128, R134, R137): single-copy regions, data from before write-through entry, data of slices above their share while
the limit is exceeded, route priority, age. -/
def flushRank (single before above : Bool) (prio time : Nat) : Nat :=
  (if single then 0 else 2 ^ 100) + (if before then 0 else 2 ^ 90) + (if above then 0 else 2 ^ 88) + (3 - min prio 3) * 2 ^ 80 + time

/-- Issue the next member wordline of a zone to its die, charged to the slices that own its data (R68, R128).  One row of a group is in
progress at a time, which the one partial-parity slot of the group needs (R102).  DEDUCED (log 82). -/
def State.flushZone (s : State) (key n : Nat) : State :=
  match s.zn.zones.look key with
  | none => s
  | some z =>
    let i := n % z.d
    let slot := slotOfMember z.split z.fn i
    match z.members[slot]? with
    | none => s
    | some m =>
      let (t, single) := s.flushAge z n
      let s := s.modZone key fun z =>
        { z with members := z.members.set slot { m with issued := m.issued + 1 }, lastProg := s.now }
      s.queueOp m.ch m.die
        { DieOp.base with kind := .program, block := m.block, wl := n / z.d, media := z.media, slice := z.slice, gen := 0,
                          parts := s.wordlineParts z n, internal := false, time := t, prio := z.prio, first := single, owner := .member key (n / z.d) i }

/-- The open set of a frontier, or a new one formed on the route's channels under R89 with the lowest free tag (R230). -/
def State.frontierSet (s : State) (r : Nat) : Option Nat × State :=
  match s.xl.open_.look r with
  -- a set whose last row is issued but not yet programmed takes no more
  | some t => (if ((s.xl.sets.look t).map (·.nextRow)) = some 1024 then none else some t, s)
  | none =>
    if s.setsFree = 0 then (none, s)
    else
      match s.freeTag with
      | none => (none, s)
      | some tag =>
        match s.form r with
        | (.stripe fn m, s) =>
          let b : BlockSet := { fn := fn, split := s.get WPT_ROUTE_CFG_FORM r == 1, route := r, prio := s.get WPT_ROUTE_CFG_PRIO r, members := m, nextRow := 0,
                                closed := false, unprotected := false, valid := 0, firstProg := s.ms.opMs, keys := [],
                                parityRows := 0, retire := none }
          (some tag, { s with xl := { s.xl with sets := s.xl.sets.put tag b, open_ := s.xl.open_.put r tag } }.showPool)
        | (_, s) => (none, s)

/-- A wordline footer (Table 08.2) as the number of its 4,096 bytes. -/
def footerOf (tag i row ckpt : Nat) (relocated : Bool) (keys : List (Option FootKey)) : Nat :=
  let head := [0x58, 0x46, 0x54, 0x01] ++ le 2 tag ++ [i, bNat relocated] ++ le 2 row ++ zeros 6 ++ le 8 ckpt
    ++ le 4 (keys.filter Option.isSome).length
  let body := (keys.map fun k => match k with
    | some k => le 8 (k.nsid - 1 + k.lba * 1024) ++ le 8 k.seq
    | none => List.replicate 16 0xFF).flatten
  unle (head ++ le 4 (crc32 (head ++ body)) ++ body)

/-- Key of the data of codeword `q` of data member `i` in a row being programmed. -/
def rowKey (tag row i q : Nat) : Nat := (tag * 1024 + row) * 1024 + i * 48 + q

/-- The keys a row takes: fresh LBAs of the cache in front, relocated ones after them (R227, R239); with their data. -/
def State.rowKeys (s : State) (row n : Nat) (items : List (Nat × Nat)) (moved : List (FootKey × Nat)) :
    List (FootKey × Nat) :=
  let fresh := items.filterMap fun (p, l) =>
    (s.wc.pairs.look p).map fun x =>
      (({ slot := 0, nsid := x.nsid, lba := l, seq := x.seq, reloc := none } : FootKey), x.data.lookD l 0)
  let l := (fresh ++ moved).take n
  (List.range l.length).filterMap fun i => (l[i]?).map fun k => ({ k.1 with slot := row * n + i }, k.2)

/-- The data of a row by member and codeword, with the footers (R228). -/
def State.rowImage (s : State) (tag row : Nat) (split : Bool) (keys : List (FootKey × Nat)) : NMap Nat :=
  let n := rowSlots split
  let m := keys.foldl (fun m k => m.put (rowKey tag row (k.1.slot % n / 47) (k.1.slot % n % 47)) k.2) s.xl.rowData
  (List.range (dataMembers split)).foldl (fun m i =>
    let ks := (List.range 47).map fun q => (keys.find? fun k => k.1.slot == row * n + i * 47 + q).map (·.1)
    m.put (rowKey tag row i 47)
      (footerOf tag i row s.xl.last.num (ks.any fun k => match k with | some k => k.reloc.isSome | none => false) ks)) m

/-- Program one row of a frontier (R227, R228, R230): keys, members together, accumulators for its groups; free slots are
filler. -/
def State.flushRow (s : State) (r : Nat) (items : List (Nat × Nat)) : State :=
  match s.frontierSet r with
  | (none, s) => s
  | (some tag, s) =>
    match s.xl.sets.look tag with
    | none => s
    | some b =>
      let row := b.nextRow
      let items := items.take (rowSlots b.split)
      let moved := (s.xl.reloc.lookD r []).take (rowSlots b.split - items.length)
      let s := { s with xl := { s.xl with reloc := s.xl.reloc.put r ((s.xl.reloc.lookD r []).drop moved.length) } }
      let keys := s.rowKeys row (rowSlots b.split) items moved
      let groups := if b.split then [0, 1] else [0]
      let s := s.each groups fun g s =>
        match s.takeAcc with
        | (some k, s) =>
          let p : Parity := { zkey := setKey tag, group := g, row := row, count := 0, data := [], lastProg := s.now, parts := [] }
          { s with zn := { s.zn with accs := s.zn.accs.put k p } }
        | (none, s) => s
      let image := s.rowImage tag row b.split keys
      let s := s.each items fun e s => s.modPair e.1 fun x => { x with issued := insSorted e.2 x.issued }
      let b' := { b with nextRow := row + 1, keys := b.keys ++ keys.map (·.1),
                         members := b.members.map fun m => { m with issued := row + 1 } }
      let s := { s with xl := { s.xl with sets := s.xl.sets.put tag b', rowData := image } }
      let pairs := items.filterMap fun e => s.wc.pairs.look e.1
      let age := (leastBy id (pairs.map (·.time))).getD s.now
      s.each (List.range (dataMembers b.split)) fun i s =>
        match b.members[slotOfMember b.split b.fn i]? with
        | none => s
        | some m =>
          let mine := (pairs.drop (47 * i)).take 47
          let parts := countParts (mine.map (fun x => if x.internal then 256 else x.slice)
            ++ List.replicate (min 47 (keys.length - 47 * i) - mine.length) 256)
          let first := match parts with | (p, _) :: _ => p | [] => 256
          s.queueOp m.ch m.die
            { DieOp.base with kind := .program, block := m.block, wl := row, media := .tlc, slice := first % 256, parts := parts,
                              internal := first == 256, time := age, first := mine.any fun x => x.a.isNone || x.b.isNone, prio := b.prio,
                              owner := .conv tag row i }

/-- Accumulators for a row of a set are at hand (R230): a row waits for free ones. -/
def State.accsReady (s : State) (split : Bool) : Bool :=
  let own := (s.zn.accs.filter fun e => 2 ^ 48 ≤ e.2.zkey).length
  decide (own + (if split then 2 else 1) ≤ 64)

/-- Form and priority of a frontier: those of its open set, else of its route (R116). -/
def State.frontierForm (s : State) (r : Nat) : Bool × Nat :=
  match (s.xl.open_.look r).bind s.xl.sets.look with
  | some b => (b.split, b.prio)
  | none => (s.get WPT_ROUTE_CFG_FORM r == 1, s.get WPT_ROUTE_CFG_PRIO r)

/-- Routes with conventional data that fills a row, or any while a flush to empty runs (R230, R484). -/
def State.flushRoutes (s : State) : List Nat :=
  (List.range 64).filter fun r =>
    let n := (s.frontierLbas r).length + (s.xl.reloc.lookD r []).length
    let split := (s.frontierForm r).1
    (match (s.xl.open_.look r).bind s.xl.sets.look with | some b => decide (b.nextRow < 1024) | none => true)
      && s.accsReady split && (decide (rowSlots split ≤ n) || (decide (0 < n) && !s.wc.flushBy.isEmpty))

/-- The next flush (R128): a zone's wordline (true, key, wordline) or a frontier's row (false, route, 0). -/
def State.nextFlush (s : State) : Option (Bool × Nat × Nat) :=
  let zs := s.zn.zones.filterMap fun e =>
    (s.zoneFlush e.2).map fun n =>
      let (t, single) := s.flushAge e.2 n
      (flushRank single (s.inWT && decide (t ≤ s.wc.firstBefore)) (s.overLimit && s.aboveShare e.2.slice) e.2.prio t, true, e.1, n)
  let fs := s.flushRoutes.map fun r =>
    let l := s.frontierLbas r
    let ps := l.filterMap fun e => s.wc.pairs.look e.1
    let t := (leastBy id (ps.map (·.time))).getD 0
    let single := ps.any fun x => x.a.isNone || x.b.isNone
    let above := s.overLimit && ps.any fun x => s.aboveShare x.slice
    (flushRank single (s.inWT && decide (t ≤ s.wc.firstBefore)) above (s.frontierForm r).2 t, false, r, 0)
  (leastBy (·.1) (zs ++ fs)).map (·.2)

/-- A flush may be issued now: not while the thermal monitor forbids flash writes, and only where data moves (R130, R309). -/
def State.mayFlush (s : State) : Bool := !s.flag THM_STATUS_WR_FORBID && s.inModes [.run, .service]

/-- Begin a flush to empty (R484): incomplete member wordlines are journaled. -/
def State.flushToEmpty (s : State) (who : Nat) : State :=
  let s := { s with wc := { s.wc with flushBy := insSorted who s.wc.flushBy } }
  s.journalZones fun _ => true

/-- A DRAM channel is lost (R124): pairs with a copy there become single-copy regions, pool and reserves are recomputed, and
with fewer than two live channels the cache enters write-through. -/
def State.loseChannelPairs (s : State) (d : Nat) : State :=
  let hit := s.wc.pairs.filter fun e =>
    (match e.2.a with | some (c, _) => c == d | none => false) || (match e.2.b with | some (c, _) => c == d | none => false)
  let s := s.each hit fun e s =>
    let s := s.modPair e.1 fun x =>
      { x with a := if (x.a.map (·.1)) = some d then none else x.a, b := if (x.b.map (·.1)) = some d then none else x.b }
    match s.wc.pairs.look e.1 with
    | some x => if x.a.isNone ∧ x.b.isNone then s.losePair e.1 else s
    | none => s
  let s := s.each hit fun e s =>
    let drop (c : Option (Nat × Nat)) (s : State) : State :=
      match c with
      | some (c, i) => if c = d then { s with pool := { s.pool with desc := s.pool.desc.del (bufKey 1 i) } } else s
      | none => s
    drop e.2.b (drop e.2.a s)
  let s := if hit.isEmpty then s else s.raise 277
  let live := s.liveChans.length
  if live < 2 then s.setCause 3 true else s

end Sys2Proof.Machine
end

