-- ==== Sys2Proof/Machine/OpsTicket.lean ====
section
/-!
DEFINITION. Tickets of the management interface (R445).
Assumption log: DEDUCED (67).
-/

namespace Sys2Proof.Machine

/-- A state a ticket ends in. -/
def Ticket.over (t : Ticket) : Bool := decide (3 ≤ t.state)

/-- A ticket's work is withdrawn from the queue it waits in (R444, R445): the kinds of Table 16.6 and the peer zone copy. -/
def State.withdrawTicket (s : State) (n : Nat) : State :=
  let is (t : Option Nat) : Bool := t == some n
  let s := { s with
    hu := { s.hu with zHeld := s.hu.zHeld && !is s.hu.zTicket, zTicket := if is s.hu.zTicket then none else s.hu.zTicket,
                      learnHeld := s.hu.learnHeld && !is s.hu.learnTicket,
                      learnTicket := if is s.hu.learnTicket then none else s.hu.learnTicket,
                      forceHeld := s.hu.forceHeld && !is s.hu.restTicket,
                      restTicket := if is s.hu.restTicket then none else s.hu.restTicket },
    fl := { s.fl with slots := s.fl.slots.filter fun r => !is r.ticket },
    cd := { s.cd with testsWaiting := s.cd.testsWaiting.filter fun t => !is t },
    xl := { s.xl with ticketNext := if is s.xl.ticketNext then none else s.xl.ticketNext },
    fb := { s.fb with copies := s.fb.copies.keep fun _ c => c.ticket != n || c.running } }
  let f (c : DChan) : DChan := { c with scrubQ := c.scrubQ.filter fun r => !is r.ticket }
  let sq := match s.mm.scrubQ with | some r => if is r.ticket then none else some r | none => none
  let s := { s with mm := { s.mm with chans := s.mm.chans.mapVals (fun _ c => f c), scrubQ := sq } }
  (s.setB MPU_STATUS_SCRUB_Q sq.isSome).setB LDC_STATUS_ST_PEND (!s.cd.testsWaiting.isEmpty)

/-- Cancel a queued ticket (R445). -/
def State.cancelTicket (s : State) (n : Nat) : State :=
  let now := s.now
  (s.withdrawTicket n).modTicket n fun t => { t with state := 5, ended := some now }

/-- Every queued ticket is cancelled and every ended one freed (Table 16.8). -/
def State.clearTickets (s : State) : State :=
  let ended := (s.mg.tickets.filter fun e => e.2.over).map (·.1)
  let queued := (s.mg.tickets.filter fun e => e.2.state == 1).map (·.1)
  let s := s.each queued fun n s => s.cancelTicket n
  { s with mg := { s.mg with tickets := s.mg.tickets.keep fun n _ => !ended.contains n } }

/-- The next ticket number after another (R445). -/
def nextTicketNo (n : Nat) : Nat := if n = 0xFFFF then 1 else n + 1

/-- The first number from `n` on that no ticket has. -/
def State.freeTicketNo (s : State) : Nat → Nat → Nat
  | 0, n => n
  | f + 1, n => if s.mg.tickets.has n then s.freeTicketNo f (nextTicketNo n) else n

/-- A new ticket for work that is queued, if one of the 64 is free. -/
def State.newTicket (s : State) (kind ch start len : Nat) : Option (Nat × State) :=
  if 64 ≤ s.mg.tickets.length then none
  else
    let n := s.freeTicketNo 64 (if s.mg.nextTicket = 0 then 1 else s.mg.nextTicket)
    let t : Ticket := { state := 1, kind := kind, ch := ch, start := start, len := len, r0 := 0, r1 := 0, r2 := 0, r3 := 0, ended := none }
    some (n, { s with mg := { s.mg with tickets := s.mg.tickets.put n t, nextTicket := nextTicketNo n } })

end Sys2Proof.Machine
end

