-- ==== Sys2Proof/Machine/OpsCkpt.lean ====
section
/-!
DEFINITION. Checkpoints of the map (R232 to R234, R248): segments and their copies, the ring of 32 SLC block sets, directory and commit; the
buffers of relocated data (R239).
Assumption log: DEDUCED (36, 91); DESIGN CHOICE (92).
-/

namespace Sys2Proof.Machine

-- buffers of relocated data

/-- Slots of a set on their way: being read, or waiting for a row, or in a row being programmed. -/
def State.inReloc (s : State) (tag slot : Nat) : Bool :=
  (s.cd.cws.any fun e => match e.2.owner with | .reloc t sl => t == tag && sl == slot | _ => false)
    || (s.xl.reloc.any fun e => e.2.any fun x => x.1.reloc == some (tag, slot))
    || (s.xl.sets.any fun e => e.2.keys.any fun k => k.reloc == some (tag, slot) && s.mapGet k.nsid k.lba == some (.flash tag slot)
          && !(match e.2.members[(setPlace e.2.split e.2.fn k.slot).slot]? with
                | some m => decide ((setPlace e.2.split e.2.fn k.slot).row < m.verified) | none => false))

/-- Release the XLT buffers none of whose LBAs is on its way any more (R239). -/
def State.trimRelocBufs (s : State) : State :=
  let keep := s.xl.relocBufs.keep fun k _ => s.inReloc (k / 2 ^ 20) (k % 2 ^ 20)
  let gone := ((s.xl.relocBufs.map (·.2)).eraseDups).filter fun b => !keep.any fun e => e.2 == b
  let s := { s with xl := { s.xl with relocBufs := keep } }
  if gone.isEmpty then s else (s.each gone fun b s => s.giveBack 1 b).serveWaiters

/-- The request of the XLT for a buffer of its minimum (Table 05.1). -/
def xltWait : BufWait := { pool := 1, owner := 0x26, unit := 2, slice := 0, internal := true, gen := 0, seq := 0 }

/-- Up to `n` XLT buffers, as many as are to be had. -/
def State.takeXlt : Nat → State → List Nat × State
  | 0, s => ([], s)
  | n + 1, s =>
    match s.alloc xltWait 0 with
    | (some b, s) => let (l, s) := State.takeXlt n s; (b :: l, s)
    | (none, s) => ([], s)

-- the ring

/-- Units of the ring (R233): one 64 KiB member wordline each; 15 data members of 1,024 wordlines in 32 sets, 30 GiB. -/
def ringUnits : Nat := 32 * 15 * 1024

/-- The set of a unit, its wordline and its data member. -/
def ringSet (u : Nat) : Nat := u / 15360
def ringRow (u : Nat) : Nat := u % 15360 / 15
def ringMember (u : Nat) : Nat := u % 15

/-- Less than 10 GiB of the ring is free (R233). -/
def State.ringShort (s : State) : Bool := decide (ringUnits < s.xl.ringUsed + 163840)

/-- Queue the program of a wordline of the ring on the internal reserve; the parity of a row follows its last member.  A member on a die that is
out of service is left to the parity. -/
def State.programRing (s : State) (num u slot : Nat) (mark : Nat) : State :=
  match (s.xl.ring[ringSet u]?).bind fun l => l[slot]? with
  | some m =>
    if s.inService m.ch m.die then
      s.queueOp m.ch m.die
        { DieOp.base with kind := .program, block := m.block, wl := ringRow u, media := .slc, time := s.now, owner := .checkpoint num (u + mark) }
    else s
  | none => s

/-- Whether a unit's member can be programmed. -/
def State.ringLive (s : State) (u : Nat) : Bool :=
  match (s.xl.ring[ringSet u]?).bind fun l => l[slotOfMember false (ringSet u) (ringMember u)]? with
  | some m => s.inService m.ch m.die
  | none => false

/-- Write the next unit of the ring: the unit, and whether a program of it is on its way. -/
def State.writeRing (s : State) (num : Nat) : Nat × Bool × State :=
  let u := s.xl.ringNext
  let live := s.ringLive u
  let s := { s with xl := { s.xl with ringNext := (u + 1) % ringUnits, ringUsed := s.xl.ringUsed + 1 } }
  let s := s.programRing num u (slotOfMember false (ringSet u) (ringMember u)) 0
  let s := if ringMember u = 14 then s.programRing num u (paritySlot false (ringSet u) 0) (2 ^ 40) else s
  (u, live, s)

/-- Erase the ring sets that hold nothing but what a full checkpoint's commit has freed (R233). -/
def State.eraseRing (s : State) (first : Nat) : State :=
  let n := (s.xl.ringNext + ringUnits - first) % ringUnits
  let used := (List.range 32).filter fun k => (List.range (n / 15360 + 2)).any fun j =>
    k == ringSet ((first + min n (15360 * j)) % ringUnits)
  s.each ((List.range 32).filter fun k => !used.contains k) fun k s =>
    s.each (s.xl.ring.getD k []) fun m s =>
      let b := s.block m.ch m.die m.block
      if b.st = .opened ∨ b.st = .full then
        s.queueOp m.ch m.die { DieOp.base with kind := .erase, block := m.block, media := .slc, time := s.now, owner := .other }
      else s

-- a checkpoint

/-- Start positions (R233): the first row of each set that is not wholly programmed; the end of each full one. -/
def State.startPositions (s : State) : NMap Nat :=
  s.xl.sets.map fun e => (e.1, if e.2.closed then 1024 else e.2.members.foldl (fun n m => min n m.verified) 1024)

/-- The words of a segment as a checkpoint writes them: a Cache entry is Pending with its own commit sequence (R233, Table 08.1). -/
def State.segWords (s : State) (seg : Nat) : NMap Nat :=
  match s.segOwner seg with
  | none => []
  | some (nsid, lba) =>
    let mine := (s.xl.map.lookD nsid []).filter fun e => decide (lba ≤ e.1) && decide (e.1 < lba + segLbas)
    mine.map fun e =>
      let e' := match e.2 with
        | .cache p _ => MapEntry.pending (match s.wc.pairs.look p with | some x => x.seq | none => 0)
        | x => x
      (e.1 - lba, mapWord (fun p => match s.wc.pairs.look p with | some x => x.num | none => 0) (some e'))

/-- Copy segments while XLT buffers are to be had (R233 step 2). -/
def State.copySegs : Nat → State → State
  | 0, s => s
  | n + 1, s =>
    match s.xl.run with
    | none => s
    | some r =>
      match r.todo with
      | [] => s
      | k :: rest =>
        match s.alloc xltWait 0 with
        | (none, s) => s
        | (some b, s) =>
          let words := s.segWords k
          let (u, live, s) := s.writeRing r.num
          let c : SegCopy := { sseg := s.xl.seq, words := words, unit := u }
          let r := { r with todo := rest, segs := r.segs.put k c, bufs := if live then r.bufs.put u b else r.bufs,
                            writing := r.writing + bNat live }
          let s := { s with xl := { s.xl with run := some r, changed := s.xl.changed.filter (· != k) } }
          State.copySegs n (if live then s else s.giveBack 1 b)

/-- Wordlines of the directory (R233 step 3): 2 MiB. -/
def directoryUnits : Nat := 32

/-- Write the directory. -/
def State.writeDirectory : Nat → State → State
  | 0, s => s
  | n + 1, s =>
    match s.xl.run with
    | none => s
    | some r =>
      let (_, live, s) := s.writeRing r.num
      State.writeDirectory n { s with xl := { s.xl with run := some { r with writing := r.writing + bNat live } } }

/-- Move the running checkpoint on (R233): segments while there are buffers, then the directory. -/
def State.stepCkpt (s : State) : State :=
  match s.xl.run with
  | none => s
  | some r =>
    let s := State.copySegs r.todo.length s
    match s.xl.run with
    | some r =>
      if r.todo.isEmpty && r.writing == 0 && !r.directory then
        State.writeDirectory directoryUnits { s with xl := { s.xl with run := some { r with directory := true } } }
      else s
    | none => s

/-- Everything of the running checkpoint but its commit record is on flash. -/
def CkptRun.ready (r : CkptRun) : Bool := r.todo.isEmpty && r.directory && r.writing == 0

/-- A wordline of the ring has passed verify: its buffer is free, and the next is written. -/
def State.ckptWritten (s : State) (num u : Nat) : State :=
  match s.xl.run with
  | some r =>
    if r.num != num ∨ 2 ^ 40 ≤ u then s
    else
      let s' := { s with xl := { s.xl with run := some { r with bufs := r.bufs.del u, writing := r.writing - 1 } } }
      let s := match r.bufs.look u with | some b => (s'.giveBack 1 b).serveWaiters | none => s'
      s.stepCkpt
  | none => s

/-- A wordline of the ring has failed: its block is replaced, and what it held is written to the next unit (R156, R242). -/
def State.ckptFailed (s : State) (c d b num u : Nat) : State :=
  let s := s.retireBlock c d b false
  let s := match s.freeBlock c d with
    | some b' =>
      let swap (m : Member) : Member := if m.ch = c ∧ m.die = d ∧ m.block = b then { m with block := b' } else m
      { s.modBlock c d b' fun x => { x with owned := true } with xl := { s.xl with ring := s.xl.ring.map fun (l : List Member) => l.map swap } }
    | none => s
  match s.xl.run with
  | some r =>
    if r.num != num ∨ 2 ^ 40 ≤ u then s
    else
      let (u', live, s) := s.writeRing num
      let buf := r.bufs.look u
      let r := { r with bufs := match buf with | some x => (if live then (r.bufs.del u).put u' x else r.bufs.del u) | none => r.bufs,
                        segs := r.segs.mapVals fun _ (x : SegCopy) => if x.unit = u then { x with unit := u' } else x,
                        writing := if live then r.writing else r.writing - 1 }
      let s := { s with xl := { s.xl with run := some r } }
      match buf with
      | some x => if live then s else ((s.giveBack 1 x).serveWaiters).stepCkpt
      | none => s.stepCkpt
  | none => s

/-- Every segment in use (R225). -/
def State.allSegs (s : State) : List Nat :=
  sortBy id ((s.xl.granules.map fun e => (e.2.map fun g => (List.range 16).map fun i => 16 * g + i).flatten).flatten)

/-- No segment is lost and the map stands, so that it may be copied. -/
def State.ckptOpen (s : State) : Bool := s.convOpen && s.xl.lostSegs.isEmpty

/-- Start a checkpoint, unless one is running (R233): every segment where the ring is short, else those changed.  It serves the request that
waits, if there is one (Table 16.6). -/
def State.startCheckpoint (s : State) (ticket : Option Nat) : State :=
  if s.xl.run.isSome then s
  else
    let full := s.ringShort || s.xl.last.num == 0
    let r : CkptRun :=
      { num := s.xl.last.num + 1, s0 := s.xl.seq, since := s.now, full := full, starts := s.startPositions,
        todo := if full then s.allSegs else s.xl.changed, segs := [], bufs := [], writing := 0, directory := false, first := s.xl.ringNext }
    let s := { s with xl := { s.xl with run := some r, sinceStart := 0, ckptAt := s.now,
                                        recs := s.xl.recs.map (fun (r : HeldRec) => { r with covered := true }),
                                        ticket := ticket.or s.xl.ticketNext,
                                        ticketNext := if ticket.isSome then s.xl.ticketNext else none } }
    ((s.set XLT_STATUS_CKPT_BUSY 1).ticketRun s.xl.ticket).stepCkpt

/-- A checkpoint that a packet asked for starts once the mode and the map allow it (Table 16.6). -/
def State.queuedCheckpoint (s : State) : State :=
  if s.xl.ticketNext.isSome && s.inModes [.run, .service] && s.ckptOpen then s.startCheckpoint none else s

/-- 4 GiB of conventional data since the start of the last checkpoint starts one; 8 GiB since the start of the last committed
one stops conventional writes (R233, R234). -/
def State.checkpointDue (s : State) : State :=
  let s := if 1048576 ≤ s.xl.sinceStart && s.inModes [.run, .service] && s.ckptOpen then s.startCheckpoint none else s
  if 2097152 ≤ s.xl.sinceCommit then s.set XLT_STATUS_STALL 1 else s

/-- The commit record has passed verify (R232 to R234): held records that stood at the checkpoint's start are released, what a full copy makes
needless is freed, stalled writes go on, a checkpoint asked for meanwhile starts. -/
def State.commitCheckpoint (s : State) : State :=
  match s.xl.run with
  | none => s
  | some r =>
    let c : Ckpt := { num := r.num, s0 := r.s0, full := r.full, segs := r.segs, starts := r.starts, wearZones := s.xl.wearZones,
                      wearSets := s.xl.wearSets }
    -- the commit record takes a unit of its own
    let next := (s.xl.ringNext + 1) % ringUnits
    let s := { s with xl := { s.xl with
      run := none, late := false, commitAt := s.now, last := c, older := if r.full then [] else s.xl.last :: s.xl.older, ringNext := next,
      ringUsed := if r.full then (next + ringUnits - r.first) % ringUnits else s.xl.ringUsed + 1,
      recs := s.xl.recs.filter (fun r => !r.covered), sinceCommit := s.xl.sinceStart } }
    let s := if r.full then s.eraseRing r.first else s
    let s := ((s.set XLT_STATUS_CKPT_BUSY 0).set XLT_STATUS_STALL 0).bumpXlt XLT_CKPT_CNT
    let s := s.ticketEnd s.xl.ticket 3 (r.num % 2 ^ 32)
    let next := s.xl.ticketNext
    let s := { s with xl := { s.xl with ticket := none, ticketNext := none } }
    let s := if next.isSome then s.startCheckpoint next else s
    s.checkpointDue.pump

/-- A checkpoint running when DETOUR begins is abandoned (R234): what it has copied counts as changed. -/
def State.abandonCheckpoint (s : State) : State :=
  match s.xl.run with
  | none => s
  | some r =>
    let s := s.ticketQueue s.xl.ticket
    let s := { s with xl := { s.xl with run := none, ticket := none, ticketNext := s.xl.ticketNext.or s.xl.ticket,
                                        changed := r.segs.foldl (fun l (e : Nat × SegCopy) => insSorted e.1 l) s.xl.changed } }
    let bufs := r.bufs.map (·.2)
    (if bufs.isEmpty then s else (s.each bufs fun b s => s.giveBack 1 b).serveWaiters).set XLT_STATUS_CKPT_BUSY 0

end Sys2Proof.Machine
end

