-- ==== Sys2Proof/Machine/OpsSample.lean ====
section
/-!
DEFINITION. Sample readout (R187 to R212): classes and their seeds, the framer, tracking loops, freezing, read references,
equalizer and sequence detector, the class record.
Assumption log: DEDUCED (33); DESIGN CHOICE (34, 88, 89).
-/

namespace Sys2Proof.Machine

/-- Age band of a block in operating ms since its first program (chapter 07, Block classes). -/
def ageBand (ms : Nat) : Nat :=
  if ms < 3600000 then 0 else if ms < 7 * 86400000 then 1 else if ms ≤ 90 * 86400000 then 2 else 3

/-- The number of a block class on its channel: die, mode, wordline group, age band. -/
def classNum (die mode grp age : Nat) : Nat := ((die * 3 + mode) * 16 + grp) * 4 + age

/-- The class of a wordline (R202). -/
def State.classOf (s : State) (c d block wl : Nat) (m : Media) : Nat :=
  classNum d m.code (wl / 64) (ageBand (s.ms.opMs - (s.block c d block).firstMs))

/-- A record of a class not yet learned: all values 0, the taps at the target response 1 + α·D (R203, R209). -/
def State.freshClass (s : State) (c : Nat) : ClassRec :=
  { o := 0, g := 0, a := 0, gRef := 0, n := 0,
    taps := [0, ((s.get SDF_DET_CFG_ALPHA c : Nat) : Rat) / 64, 1, 0, 0] }

/-- The record of a class of a channel. -/
def State.classRec (s : State) (c k : Nat) : ClassRec := (s.sd.classes.lookD c []).lookD k (s.freshClass c)

/-- The mean of the integers in a list, rounded down. -/
def meanInt (l : List Int) : Int := if l.isEmpty then 0 else l.foldl (· + ·) 0 / (l.length : Int)

/-- The mean of some records. -/
def meanClass (l : List ClassRec) : ClassRec :=
  { o := meanInt (l.map (·.o)), g := meanInt (l.map (·.g)), a := meanInt (l.map (·.a)), gRef := meanInt (l.map (·.gRef)), n := 0,
    taps := (List.range 5).map fun i => (l.foldl (fun t r => t + r.taps.getD i 0) 0) / (l.length : Rat) }

/-- The values a readout of a class starts from (R203): its record, or a seed: the nearest learned age band of the same die,
mode and group (the lower band of two equally near), else the mean of the learned records of other dies, else the fresh one. -/
def State.classSeed (s : State) (c k : Nat) : ClassRec :=
  let r := s.classRec c k
  if r.n != 0 then r
  else
    let age := k % 4
    let rest := k / 4
    let near := (sortBy (fun b => 2 * (if b < age then age - b else b - age) + (if age < b then 1 else 0)) [0, 1, 2, 3]).find?
      fun b => b != age && (s.classRec c (rest * 4 + b)).n != 0
    match near with
    | some b => { s.classRec c (rest * 4 + b) with n := 0 }
    | none =>
      let die := rest / 48
      let l := ((List.range 32).filter (· != die)).map fun d => s.classRec c (classNum d (rest / 16 % 3) (rest % 16) age)
      let l := l.filter fun r => r.n != 0
      if l.isEmpty then r else meanClass l

/-- Sample resolution of a media mode (R188, Table 07.12): bits a cell. -/
def State.defaultRes (s : State) (c : Nat) (m : Media) : Nat :=
  match m with
  | .qlc => max 4 (3 + min 2 (s.get SDF_DET_CFG_RES_Q c))
  | .tlc => 3 + min 2 (s.get SDF_DET_CFG_RES_T c)
  | .slc => 3 + min 2 (s.get SDF_DET_CFG_RES_S c)

/-- Payload bytes of a burst at a resolution, and its length (R189). -/
def payloadBytes (res : Nat) : Nat := 2048 * res
def burstBytes (res : Nat) (dual : Bool) : Nat := payloadBytes res + (if dual then 36 else 32)

/-- The sync marks (Table 07.3). -/
def primaryMark : List Nat := [0xF3, 0x8E, 0x2B, 0x6D]
def fallbackMark : List Nat := [0x4C, 0xB1, 0xD6, 0x93]

/-- What the header of a burst must hold (R191): kind 1 for a sample burst, 2 for a training burst. -/
structure HeaderWant where
  kind : Nat
  res : Nat
  plane : Nat
  burst : Nat
  wl : Nat
  dual : Bool
  seq : Nat
  vol : Nat
  block : Nat
  deriving DecidableEq, Repr

/-- The header check (Table 07.4, R190, R191): correct CRC and every field as expected. -/
def headerOk (w : HeaderWant) (h : List Nat) : Bool :=
  let b := fun i => h.getD i 0
  let w16 := b 2 + 256 * b 3
  let b16 := b 5 + 256 * b 6
  decide (h.length = 8) && crc8 (h.take 7) == b 7 && b 0 % 16 == w.kind && b 0 / 16 == 1
    && b 1 % 4 + 3 == w.res && b 1 / 4 % 4 == w.plane && b 1 / 16 == w.burst
    && w16 % 1024 == w.wl && bit w16 10 == w.dual && w16 / 2048 == w.seq
    && b 4 % 8 == w.vol && b16 % 2048 == w.block

/-- The bytes of a burst header (Table 07.4). -/
def headerBytes (w : HeaderWant) : List Nat :=
  let w16 := w.wl + bNat w.dual * 1024 + w.seq * 2048
  let h := [0x10 + w.kind, (w.res - 3) + w.plane * 4 + w.burst * 16, w16 % 256, w16 / 256, w.vol, w.block % 256, w.block / 256]
  h ++ [crc8 h]

/-- What the framer finds: the position in the window of 17 that frames the burst, if one does, and the false marks met
before it (R191). -/
def searchPrimary (tol : Nat) (w : HeaderWant) (head : List Nat) : Nat → Nat → Nat → Option Nat × Nat
  | 0, _, miss => (none, miss)
  | n + 1, t, miss =>
    if hamming ((head.drop t).take 4) primaryMark ≤ tol then
      if headerOk w ((head.drop (t + 4)).take 8) then (some t, miss) else searchPrimary tol w head n (t + 1) (miss + 1)
    else searchPrimary tol w head n (t + 1) miss

/-- The search for the fallback mark (R194). -/
def searchFallback (tol : Nat) (mid : List Nat) : Option Nat :=
  (List.range 17).find? fun t => decide (hamming ((mid.drop t).take 4) fallbackMark ≤ tol)

/-- How a burst was framed: by its primary mark at position `t` of the window, by its fallback mark with or without part 1, or not at all. -/
inductive Framed where
  | primary (t : Nat)
  | fallback (t : Nat) (part1 : Bool)
  | missed
  deriving DecidableEq, Repr

/-- The framer on the bytes from the expected start on (R191, R194), with the false marks it met: its windows begin at 8 and at 4,116. -/
def frame (tol : Nat) (w : HeaderWant) (bytes : List Nat) : Framed × Nat :=
  match searchPrimary tol w (bytes.drop 8) 17 0 0 with
  | (some t, m) => (.primary t, m)
  | (none, m) =>
    if w.dual then
      match searchFallback tol (bytes.drop 4116) with
      | some t => (.fallback t (headerOk w ((bytes.drop (t + 12)).take 8)), m)
      | none => (.missed, m)
    else (.missed, m)

/-- The payload of a burst framed at position `t` of a window (Table 07.3, R194, R196): part 1, the fallback mark in dual-mark framing, part 2. -/
def payloadOf (res : Nat) (dual : Bool) (bytes : List Nat) (t : Nat) : List Nat :=
  (bytes.drop (t + 20)).take 4096 ++ (bytes.drop (t + 4116 + if dual then 4 else 0)).take (payloadBytes res - 4096)

/-- A training burst passes (R197): marks exactly where they belong, its header, and the training pattern without error.  DESIGN CHOICE
(log 89): its header gives plane and wordline 0, as it gives SEQ and BLOCK 0. -/
def trainBurstOk (vol burst : Nat) (dual : Bool) (l : List Nat) : Bool :=
  (l.drop 16).take 4 == primaryMark && (!dual || (l.drop 4124).take 4 == fallbackMark)
    && headerOk { kind := 2, res := 4, plane := 0, burst := burst, wl := 0, dual := dual, seq := 0, vol := vol, block := 0 } ((l.drop 20).take 8)
    && payloadBits (payloadOf 4 dual l 8) == trainingBits 65536

/-- Nine training bursts pass (R197). -/
def trainRunOk (vol : Nat) (dual : Bool) (l : List (List Nat)) : Bool :=
  l.length == 9 && (List.range 9).all fun i => trainBurstOk vol i dual (l.getD i [])

/-- A die passes its training (R197): one of three passes in a row meets both steps. -/
def trainingPasses (t : DieTraining) : Bool :=
  (t.tries.take 3).any fun p => trainRunOk (t.die % 8) true p.dual && trainRunOk (t.die % 8) false p.single

/-- Levels of a media mode. -/
def Media.levels (m : Media) : Nat := 2 ^ m.bitsPer

/-- q of R204: the mean of m² over the level boundaries. -/
def qOf (nl : Nat) : Rat :=
  ((List.range (nl - 1)).foldl (fun (t : Rat) (k : Nat) => let m : Rat := (k : Rat) + 1 - (nl : Rat) / 2; t + m * m) 0)
    / ((nl - 1 : Nat) : Rat)

/-- Round to the nearest integer, halves away from zero. -/
def roundRat (x : Rat) : Int := if x < 0 then -((-x + 1 / 2).floor) else (x + 1 / 2).floor

/-- Expected value of level `k` in sample units (R205). -/
def levelMean (r : ClassRec) (bitsPer res wSteps : Nat) (k : Nat) : Rat :=
  let nl : Nat := 2 ^ bitsPer
  let m : Rat := (k : Rat) - (nl : Rat) / 2 + 1 / 2
  let bins : Rat := (2 ^ (res - bitsPer) : Nat)
  bins * ((k : Rat) + 1 / 2) + ((r.o : Rat) + r.g * m + r.a * (m * m - qOf nl) / 4) * bins / (16 * (wSteps : Rat))

/-- Shift an exact value right by a number of bits, or left when it is negative, rounding down (R204). -/
def shiftDown (x : Rat) (k : Int) : Int := if 0 ≤ k then (x / ((2 ^ k.toNat : Nat) : Rat)).floor else (x * ((2 ^ (-k).toNat : Nat) : Rat)).floor

/-- The boundary errors of R204 in percent of the counted cells, by boundary. -/
def boundaryErrors (nl n : Nat) (levels : List Nat) : List (Rat × Rat) :=
  (List.range (nl - 1)).map fun i =>
    let k := i + 1
    let below := (levels.filter (· < k)).length
    ((k : Rat) - (nl : Rat) / 2, 100 * (below : Rat) / (n : Rat) - 100 * (k : Rat) / (nl : Rat))

/-- The three loop errors e_o, e_g, e_a of R204; two levels give no tilt and no curvature. -/
def loopErrors (nl n : Nat) (levels : List Nat) : Rat × Rat × Rat :=
  let l := boundaryErrors nl n levels
  let q := qOf nl
  let sum (f : Rat × Rat → Rat) : Rat := l.foldl (fun t e => t + f e) 0
  let gg := sum fun e => e.1 * e.1
  let aa := sum fun e => (e.1 * e.1 - q) * (e.1 * e.1 - q)
  (sum (·.2) / ((nl - 1 : Nat) : Rat),
   if gg = 0 then 0 else sum (fun e => e.2 * e.1) / gg,
   if aa = 0 then 0 else sum (fun e => e.2 * (e.1 * e.1 - q)) / aa)

/-- One update of the loops (R204) before the clamp. -/
def loopStep (r : ClassRec) (nl n keps ko kg ka : Nat) (acquiring : Bool) (levels : List Nat) : Int × Int × Int :=
  let (eo, eg, ea) := loopErrors nl n levels
  let sh : Int := if acquiring then 2 else 0
  (r.o - shiftDown (keps * eo) ((ko : Int) - sh), r.g - shiftDown (keps * eg) ((kg : Int) - sh),
   r.a - shiftDown (4 * keps * ea) ((ka : Int) - sh))

/-- Bad cells of a die's plane (R206). -/
def State.badCell (s : State) (c d plane : Nat) (cell : Nat) : Bool :=
  (List.range 256).any fun i =>
    match s.sd.badCols.look (((c * 32 + d) * 4 + plane) * 256 + i) with
    | some (first, len, v) => v && decide (first ≤ cell) && decide (cell < first + len)
    | none => false

/-- The level whose mean is nearest to a sample. -/
def nearestLevel (mus : List Rat) (x : Rat) : Nat :=
  (mus.foldl (fun (acc : Nat × Nat × Rat) m =>
    let d := (x - m) * (x - m)
    let (i, best, bd) := acc
    if i = 0 ∨ d < bd then (i + 1, i, d) else (i + 1, best, bd)) (0, 0, 0)).2.1

/-- Branch metric of R210, not yet divided by 2σ². -/
def branch (mus : List Rat) (alpha z : Rat) (i j : Nat) : Rat :=
  let d := z - mus.getD j 0 - alpha * mus.getD i 0
  d * d

/-- The least value of a list. -/
def leastRat : List Rat → Rat
  | [] => 0
  | a :: t => t.foldl (fun m x => if x < m then x else m) a

/-- Forward metrics of a window, one list of level metrics a cell. -/
def forwardPass (mus : List Rat) (alpha : Rat) : List Rat → List Rat → List (List Rat)
  | _, [] => []
  | prev, z :: t =>
    let now := (List.range mus.length).map fun j =>
      leastRat ((List.range mus.length).map fun i => prev.getD i 0 + branch mus alpha z i j)
    now :: forwardPass mus alpha now t

/-- Backward metrics of a window: what the cells after each cell add. -/
def backwardPass (mus : List Rat) (alpha : Rat) : List Rat → List (List Rat)
  | [] => []
  | _ :: t =>
    match t, backwardPass mus alpha t with
    | z :: _, nxt :: more =>
      ((List.range mus.length).map fun i =>
        leastRat ((List.range mus.length).map fun j => nxt.getD j 0 + branch mus alpha z i j)) :: nxt :: more
    | _, _ => [List.replicate mus.length 0]

/-- Level metrics of one window of cells. -/
def windowMetrics (mus : List Rat) (alpha : Rat) (zs : List Rat) : List (List Rat) :=
  (forwardPass mus alpha (List.replicate mus.length 0) zs).zipWith (fun a b => a.zipWith (· + ·) b) (backwardPass mus alpha zs)

/-- The detector over a burst in windows of 64 cells (R210). -/
def detect (mus : List Rat) (alpha : Rat) : Nat → List Rat → List (List Rat)
  | 0, _ => []
  | n + 1, zs => if zs.isEmpty then [] else windowMetrics mus alpha (zs.take 64) ++ detect mus alpha n (zs.drop 64)

/-- The level with the best metric. -/
def bestLevel (ms : List Rat) : Nat :=
  (ms.foldl (fun (acc : Nat × Nat × Rat) m =>
    let (i, b, v) := acc
    if i = 0 ∨ m < v then (i + 1, i, m) else (i + 1, b, v)) (0, 0, 0)).2.1

/-- The ratio of one page bit of a cell (R211): `gray k` holds the page bits of level k. -/
def llrOf (gray : Nat → Nat) (ms : List Rat) (two_sigma2 scale : Rat) (page : Nat) : Int :=
  let pick (v : Bool) := ((List.range ms.length).filter fun k => bit (gray k) page == v).map fun k => ms.getD k 0
  clampI (-31) 31 (roundRat ((leastRat (pick true) - leastRat (pick false)) / two_sigma2 * scale / 4))

/-- Page bits of level `k` from a channel's descriptor (Table 07.1); one page in SLC, where level 1 is bit 0. -/
def grayOf (g : Nat × Nat) (m : Media) (k : Nat) : Nat :=
  match m with
  | .qlc => g.1 / 16 ^ k % 16
  | .tlc => g.2 / 8 ^ k % 8
  | .slc => if k = 0 then 1 else 0

/-- A run of bad or end-bin cells (R206): for each cell whether it lies in a frozen stretch; and the run, the good cells since,
and whether the freeze is still in force. -/
def freezeRun (limit : Nat) : List Bool → Nat → Nat → Bool → List Bool × Nat × Nat × Bool
  | [], run, good, fr => ([], run, good, fr)
  | b :: t, run, good, fr =>
    let run' := if b then run + 1 else 0
    let good' := if b then 0 else good + 1
    let fr' := if limit ≤ run' then true else if 256 ≤ good' then false else fr
    let (l, r) := freezeRun limit t run' good' fr'
    (fr' :: l, r)

/-- Read references of a class (R208): one offset a boundary; for SLC the offset O alone. -/
def readRefs (r : ClassRec) (m : Media) : List Int :=
  match m with
  -- SLC: the offset O alone, as the first
  | .slc => [clampI (-128) 127 (roundRat ((r.o : Rat) / 16))]
  | _ =>
    let nl := m.levels
    (List.range (nl - 1)).map fun (i : Nat) =>
      let x : Rat := (i : Rat) + 1 - (nl : Rat) / 2
      clampI (-128) 127 (roundRat (((r.o : Rat) + r.g * x + r.a * (x * x - qOf nl) / 4) / 16))

/-- The features that hold read references once some offsets are written (R208): offset k in byte (k − 1) mod 4 of address FA_REF + (k − 1) / 4. -/
def writeRefs (fa : Nat) (offs : List Int) (f : NMap Nat) : NMap Nat :=
  (List.range offs.length).foldl (fun m i => m.put (4 * (fa + i / 4) + i % 4) (toTwos 8 (offs.getD i 0))) f

/-- The features of a die after its read references are written; a die without a descriptor gives no address for them (R183, R208). -/
def State.setRefs (s : State) (c d : Nat) (offs : List Int) (f : NMap Nat) : NMap Nat :=
  match s.sd.desc.look (dieKey c d) with
  | some b => writeRefs (b.getD 11 0) offs f
  | none => f

/-- Bits a cell of an operation's wordline. -/
def DieOp.nb (o : DieOp) : Nat := o.media.bitsPer

/-- A plane wordline as one number. -/
def planeKey (c d block wl plane : Nat) : Nat := (((c * 32 + d) * 2048 + block) * 1024 + wl) * 4 + plane

/-- The differences of the decided means of WL + 1 for a burst, for the readouts of steps 2 and 3 (R212, Table 07.6). -/
def State.compensation (s : State) (c : Nat) (r : Readout) (burst : Nat) : List Rat :=
  if r.op.step = 2 ∨ r.op.step = 3 then
    (((s.sd.upper.look (planeKey c r.die r.op.block (r.op.wl + 1) r.op.plane)).bind fun m => m.look burst)).getD []
  else []

/-- The sample of a cell of the plane wordline, if its burst was framed. -/
def Readout.cell (r : Readout) (n : Nat) : Option Nat := (r.cells.look (n / 16384)).bind fun l => l[n % 16384]?

/-- The sample the equalizer takes for a cell: in place of a bad cell, the mean of its neighbour's decided level (R206). -/
def State.sampleOf (s : State) (c : Nat) (r : Readout) (mus : List Rat) (n : Nat) : Option Rat :=
  (r.cell n).map fun x =>
    if s.badCell c r.die r.op.plane n then
      let nb : Nat := (((if n = 0 then none else r.cell (n - 1)).or (r.cell (n + 1)))).getD x
      mus.getD (nearestLevel mus ((nb : Nat) : Rat)) 0
    else ((x : Nat) : Rat)

/-- The ratios of a codeword: page `page`, cells 36,864 × pos on (R184, R211). -/
def Readout.llrOfCw (r : Readout) (page pos : Nat) : List Int :=
  let all := ((List.range 9).map fun k =>
    let l := r.llrs.lookD (9 * page + k) []
    l ++ List.replicate (16384 - l.length) 0).flatten
  (all.drop (36864 * pos)).take 36864

/-- Gray maps of a die's descriptor (Table 07.1): QLC, TLC. -/
def State.grayMaps (s : State) (c d : Nat) : Nat × Nat :=
  let b := s.sd.desc.lookD (dieKey c d) []
  (field b 16 8, field b 24 3)

/-- Change a channel's class record. -/
def State.putClass (s : State) (c k : Nat) (r : ClassRec) : State :=
  { s with sd := { s.sd with classes := s.sd.classes.put c ((s.sd.classes.lookD c []).put k r) } }

/-- The running mean square of the equalizer error, twice (R210); before any cell has been counted it is open. -/
def State.twoSigma2 (s : State) (c : Nat) : Rat × State :=
  match s.sd.errs.lookD c [] with
  | [] => let (v, s) := s.free; ((v : Rat) + 1, s)
  | l => let m := (l.foldl (· + ·) 0) / (l.length : Rat); (if m = 0 then 1 else 2 * m, s)

/-- Detection of a framed burst with the loop state left by the one before (R204, R206, R209 to R212).  The first `erasedTo` cells reach the
decoder as erasures. -/
def State.detectBurst (s : State) (c burst erasedTo : Nat) (r : Readout) : Readout × State :=
  let nb := r.op.nb
  let res := r.op.res
  let nl := 2 ^ nb
  let alpha : Rat := (s.get SDF_DET_CFG_ALPHA c : Nat) / 64
  -- DESIGN CHOICE (log 88): W = 0 acts as 1
  let mus := (List.range nl).map (levelMean r.loops nb res (max 1 (s.get SDF_DET_CFG_W c)))
  let base := 16384 * burst
  let cells := r.cells.lookD burst []
  let n := cells.length
  let bad := (List.range n).map fun i => s.badCell c r.die r.op.plane (base + i)
  -- neighbouring bursts give their cells; at the ends of the wordline, and where a neighbour was not framed, the decided-level mean
  let smp := fun k => s.sampleOf c r mus k
  let edge (x : Option Rat) : Rat := mus.getD (nearestLevel mus (x.getD 0)) 0
  let ext := (List.range (n + 4)).map fun k =>
    if base + k < 2 then edge (smp base)
    else (smp (base + k - 2)).getD (edge (if k < 2 then smp base else smp (base + n - 1)))
  let comp := s.compensation c r burst
  let zs := (List.range n).map fun n =>
    ((List.range 5).foldl (fun (t : Rat) i => t + r.loops.taps.getD i 0 * ext.getD (n + i) 0) 0)
      - (s.get SDF_DET_CFG_BETA c : Nat) / 256 * comp.getD n 0
  let mets := detect mus alpha (zs.length + 1) zs
  let xs := mets.map bestLevel
  let endBin := fun v => v = 0 ∨ v + 1 = 2 ^ res
  let lim := s.get SDF_LOOP_CFG_FREEZE_RUN c
  let runs := (List.range n).map fun i => bad.getD i false || decide (endBin (cells.getD i 0))
  let (froz, run, good, fr) := freezeRun (if lim = 0 then 0x40 else lim) runs r.run r.good r.frozenRun
  let counted := (List.range n).filter fun i => !bad.getD i false && !froz.getD i false && decide (erasedTo ≤ i)
  let notBad := (List.range n).filter fun i => !bad.getD i false
  let blank := decide (60 * notBad.length < 100 * (notBad.filter fun i => cells.getD i 0 == 0).length)
  let frozen := blank || fr || decide (0 < erasedTo) || decide (counted.length < 1024)
  let before : Nat := if burst = 0 then xs.getD 0 0 else r.lastLevel.lookD (burst - 1) (xs.getD 0 0)
  let err := fun n => zs.getD n 0 - (mus.getD (xs.getD n 0) 0 + alpha * mus.getD (if n = 0 then before else xs.getD (n - 1) 0) 0)
  let (ts, s) := s.twoSigma2 c
  let gray := grayOf (s.grayMaps c r.die) r.op.media
  let llr := fun (page : Nat) => (List.range n).map fun i =>
    if bad.getD i false || blank || decide (i < erasedTo) then (0 : Int)
    else llrOf gray (mets.getD i []) ts ((s.get SDF_DET_CFG_LLR_SCALE c : Nat) : Rat) page
  let s := s.put (.llr c burst ((List.range nb).map llr).flatten)
  let r := { r with run := run, good := good, frozenRun := fr, erased := r.erased + bNat blank,
                    levels := r.levels.put burst (xs.map fun x => mus.getD x 0 - mus.getD (nl / 2) 0),
                    lastLevel := r.lastLevel.put burst (xs.getD (n - 1) 0),
                    llrs := (List.range nb).foldl (fun m page => m.put (9 * page + burst) (llr page)) r.llrs }
  if frozen then (r, s.bumpSdf SDF_FROZEN c)
  else
    let sq := counted.map fun n => err n * err n
    let hist := ((s.sd.errs.lookD c [] ++ sq).reverse.take 4096).reverse
    let s := { s with sd := { s.sd with errs := s.sd.errs.put c hist } }
    let acquiring := decide (r.learned = 0) && decide (r.acquired < s.get SDF_LOOP_CFG_ACQ c)
    let (o, g, a) := loopStep r.loops nl counted.length (s.get SDF_LOOP_CFG_KEPS c) (s.get SDF_LOOP_CFG_KO c)
      (s.get SDF_LOOP_CFG_KG c) (s.get SDF_LOOP_CFG_KA c) acquiring (counted.map fun n => xs.getD n 0)
    let o' := clampI (-2048) 2047 o
    let g' := clampI (-128) 127 g
    let a' := clampI (-128) 127 a
    let shift : Rat := ((2 ^ s.get SDF_DET_CFG_EQ_SHIFT c : Nat) : Rat)
    let taps := (List.range 5).map fun i =>
      counted.foldl (fun (t : Rat) n => t - err n * ext.getD (n + i) 0 / shift) (r.loops.taps.getD i 0)
    let hits := bNat (o' == 2047 || o' == -2048) + bNat (g' == 127 || g' == -128) + bNat (a' == 127 || a' == -128)
    let s := if hits = 0 then s
      else ((s.each (List.range hits) fun _ s => s.bumpSdf SDF_CLAMP_CNT c).sdfEvt SDF_EVT_CLAMP c).raise 77
    let acq := r.acquired + 1
    let loops := { r.loops with o := o', g := g', a := a', taps := taps,
                                gRef := if r.learned = 0 ∧ acq = max 1 (s.get SDF_LOOP_CFG_ACQ c) then g' else r.loops.gRef }
    ({ r with loops := loops, acquired := acq, unfrozen := r.unfrozen + 1 }, s)

/-- Detect the burst that has waited for its neighbour's cells. -/
def State.detectTodo (s : State) (c : Nat) (r : Readout) : Readout × State :=
  match r.todo with
  | some (b, e) => s.detectBurst c b e { r with todo := none }
  | none => (r, s)

/-- Show whether any die of a channel is in dual-mark framing (Table 07.8). -/
def State.showDual (s : State) (c : Nat) : State :=
  s.setB SDF_STATUS_DUAL ((List.range 32).any fun d => s.get FSQ_DIE_STATE c d != dieAbsent && (s.die c d).dual) c

/-- Sample Out is issued with the resolution and the framing FA_SR then holds (R186, R193): of a wordline sensed again, the bursts from the
first unframed one on, in dual-mark framing; else all, with loops that begin with the record or seed of the class (R203, R204). -/
def State.startReadout (s : State) (c d : Nat) (o : DieOp) (dual : Bool) : State :=
  let k := s.classOf c d o.block o.wl o.media
  let new : Readout :=
    { die := d, op := o, dual := dual, second := false, since := s.now, burst := 0, start := 0, loops := s.classSeed c k,
      learned := (s.classRec c k).n, acquired := 0, unfrozen := 0, unframed := [], erased := 0, cells := [], todo := none, lastLevel := [],
      run := 0, good := 0, frozenRun := false, levels := [], llrs := [] }
  let r := match s.sd.again.look (dieKey c d) with
    | some r => if r.op.id = o.id then { r with dual := true, second := true, since := s.now, burst := r.unframed.headD 0, start := 0 } else new
    | none => new
  let s := s.modDie c d fun di => { di with res := o.res, dual := r.dual }
  { s with sd := { s.sd with readouts := s.sd.readouts.put c r, again := s.sd.again.del (dieKey c d) } }.showDual c

/-- The header a burst of a readout must carry (R191). -/
def State.wantHeader (s : State) (c : Nat) (r : Readout) : HeaderWant :=
  { kind := 1, res := r.op.res, plane := r.op.plane, burst := r.burst, wl := r.op.wl, dual := r.dual, seq := (s.die c r.die).seq % 32,
    vol := r.die % 8, block := r.op.block }

/-- Mark tolerance; larger values act as 4 (Table 07.10). -/
def State.markTol (s : State) (c : Nat) : Nat := min 4 (s.get SDF_FRAME_CFG_MARK_TOL c)

/-- A lost burst: every cell of it reaches the decoder with ratio 0 (R194, R195). -/
def State.loseBurst (s : State) (c : Nat) (r : Readout) (b : Nat) : Readout × State :=
  let s := ((s.bumpSdf SDF_BURST_LOST c).sdfEvt SDF_EVT_BURST_LOST c).bumpSdf SDF_FROZEN c
  let zero : List Int := List.replicate 16384 0
  ({ r with unframed := r.unframed.filter (· != b), llrs := (List.range r.op.nb).foldl (fun m page => m.put (9 * page + b) zero) r.llrs },
   s.put (.llr c b ((List.range r.op.nb).map fun _ => zero).flatten))

/-- A burst that neither mark frames: missed in single-mark framing (R193), lost in dual-mark framing (R194, R195). -/
def State.missBurst (s : State) (c : Nat) (r : Readout) : Readout × State :=
  if r.dual then s.loseBurst c r r.burst
  else ({ r with unframed := insSorted r.burst r.unframed }, (s.bumpSdf SDF_MARK_MISS c).sdfEvt SDF_EVT_MARK_MISS c)

/-- A framed burst of a readout: its samples are kept and wait for the next burst's; what a dual-mark copy brings of a burst framed before is
not used (R193). -/
def Readout.takeCells (r : Readout) (cells : List Nat) (erasedTo : Nat) : Readout :=
  if r.cells.has r.burst then r
  else { r with unframed := r.unframed.filter (· != r.burst), cells := r.cells.put r.burst cells, todo := some (r.burst, erasedTo) }

/-- A burst arrives (R191 to R196): it is framed, the burst before it is detected, and the next one is expected where it ends. -/
def State.takeBurst (s : State) (c : Nat) (bytes : List Nat) : State :=
  match s.sd.readouts.look c with
  | none => s
  | some r =>
    let s := s.bumpSdf SDF_BURST_CNT c
    let (f, falses) := frame (s.markTol c) (s.wantHeader c r) bytes
    let s := s.each (List.range falses) fun _ s => s.bumpSdf SDF_FALSE_MARK c
    let len : Int := burstBytes r.op.res r.dual
    let cells := fun (t : Nat) => unpack r.op.res 16384 (payloadBits (payloadOf r.op.res r.dual bytes t))
    let (now, s, slip) : Readout × State × Int :=
      match f with
      | .primary t => (r.takeCells (cells t) 0, s, (t : Int) - 8)
      | .fallback t part1 =>
        (r.takeCells (cells t) (if part1 then 0 else (32768 + r.op.res - 1) / r.op.res),
         (s.bumpSdf SDF_FALLBACK c).sdfEvt SDF_EVT_FALLBACK c, (t : Int) - 8)
      | .missed =>
        let (r, s) := if r.cells.has r.burst then (r, s) else s.missBurst c r
        (r, s, 0)
    -- the burst before is detected with the cells that have now come
    let (r', s) := s.detectTodo c { now with todo := r.todo }
    let r' := { r' with todo := now.todo.filter fun x => r.todo != some x, burst := r'.burst + 1, start := r'.start + slip + len }
    { s with sd := { s.sd with readouts := s.sd.readouts.put c r' } }

/-- Write a readout's loop state to its class record and count it, when at least 4 of its bursts were not frozen (R207). -/
def State.learn (s : State) (c : Nat) (r : Readout) : State :=
  if 4 ≤ r.unfrozen then
    let k := s.classOf c r.die r.op.block r.op.wl r.op.media
    let n := min 255 ((s.classRec c k).n + 1)
    let acq := max 1 (s.get SDF_LOOP_CFG_ACQ c)
    let gRef := if r.learned = 0 ∧ r.acquired < acq then r.loops.g else r.loops.gRef
    s.putClass c k { r.loops with n := n, gRef := gRef }
  else s

/-- Gain drift of a class: |G − G_REF| (R223). -/
def ClassRec.driftOf (r : ClassRec) : Nat := (r.g - r.gRef).natAbs

/-- A die is sample-off (R197). -/
def State.sampleOff (s : State) (c d : Nat) : Bool := bit (s.get SDF_SAMPLE_OFF c) d

/-- Whether an operation is read in dual-mark framing (R193, R199): in BOOT and RETURN, in ladder step 3, and in RUN where FORCE_DUAL asks for
it. -/
def State.dualNow (s : State) (c : Nat) (o : DieOp) : Bool :=
  o.dual || s.inModes [.boot, .ret] || (s.mode == .run && s.flag SDF_FRAME_CFG_FORCE_DUAL c)

/-- The class record shown for CLASS_SEL (Table 07.13). -/
def State.selectedClass (s : State) (c : Nat) : ClassRec :=
  s.classRec c (classNum (s.get SDF_CLASS_SEL_DIE c) (s.get SDF_CLASS_SEL_MODE c) (s.get SDF_CLASS_SEL_WLG c)
    (s.get SDF_CLASS_SEL_AGE c))

end Sys2Proof.Machine
end

