-- ==== Sys2Proof/Machine/OpsRead.lean ====
section
/-!
DEFINITION. Reads: codewords on their recovery ladder, reconstruction from stripe peers, read-around, reallocation requests,
margin reporting (R81, R82, R93, R104, R169 to R173, R219 to R223).
Assumption log: DEDUCED (26, 30, 32, 35); DESIGN CHOICE (83, 100).
-/

namespace Sys2Proof.Machine

/-- The stripe a codeword lies in: its form, formation number, members, and the key of its partial parity. -/
structure Stripe where
  split : Bool
  fn : Nat
  members : List Member
  key : Nat
  deriving DecidableEq, Repr

/-- The stripe of a zone (false) or set (true). -/
def State.stripeOf (s : State) (set : Bool) (key : Nat) : Option Stripe :=
  if set then (s.xl.sets.look key).map fun b => { split := b.split, fn := b.fn, members := b.members, key := setKey key }
  else (s.zn.zones.look key).map fun z => { split := z.split, fn := z.fn, members := z.members, key := key }

/-- Where a wordline of a member is read: its block, or the place it is moved from; none while only peers can give it. -/
def Member.place (m : Member) (wl : Nat) : Option (Nat × Nat × Nat) :=
  match m.rebuilt with
  | none => some (m.ch, m.die, m.block)
  | some n => if wl < n then some (m.ch, m.die, m.block) else m.old

/-- Where a wordline of a member can be read now: not on a failed die or channel (R171). -/
def State.memberAt (s : State) (m : Member) (wl : Nat) : Option (Nat × Nat × Nat) :=
  match m.place wl with
  | some (c, d, b) => if s.inService c d && !s.chFailed c then some (c, d, b) else none
  | none => none

/-- Position of a codeword within its member wordline (R92). -/
def Cw.q (c : Cw) : Nat := 16 * c.page + 4 * c.plane + c.pos

/-- A codeword with the fields most have. -/
def Cw.base : Cw :=
  { id := 0, owner := .check, slice := 0, gen := 0, cls := 3, internal := true, dl := 0, ch := 0, die := 0, block := 0, wl := 0,
    plane := 0, page := 0, pos := 0, media := .qlc, stripe := none, slot := 0, row := 0, step := 0, began := 0, stepAt := 0,
    stage := .queued, input := none, inst := none, recon := false, raced := false, raceLost := false, withdrawn := false, peersLeft := 0, peersXor := 0,
    peerFailed := false }

def State.cw (s : State) (id : Nat) : Option Cw := s.cd.cws.look id

def State.modCw' (s : State) (id : Nat) (f : Cw → Cw) : State :=
  { s with cd := { s.cd with cws := s.cd.cws.modify id f } }

/-- Put a codeword on its ladder. -/
def State.addCw (s : State) (c : Cw) : Nat × State :=
  let id := s.cd.nextCw
  (id, { s with cd := { s.cd with cws := s.cd.cws.put id { c with id := id, stepAt := s.now }, nextCw := id + 1 } })

/-- Place a codeword of a member wordline by its position (R92). -/
def Cw.at' (c : Cw) (p : Nat × Nat × Nat) (wl q : Nat) : Cw :=
  { c with ch := p.1, die := p.2.1, block := p.2.2, wl := wl, row := wl, plane := q / 4 % 4, page := q / 16, pos := q % 4 }

/-- Step budgets in ns (Table 07.16); 0 acts as the reset value. -/
def State.stepBudget (s : State) (step : Nat) : Nat :=
  let or (v d : Nat) : Nat := if v = 0 then d else v
  match step with
  | 0 => 10000 * or (s.get LDC_LADDER_CFG_B0) 0x0F
  | 1 => 10000 * or (s.get LDC_LADDER_CFG_B1) 0x1E
  | 2 => 10000 * or (s.get LDC_LADDER_CFG_B2) 0x3C
  | 3 => 1000000 * or (s.get LDC_LADDER_CFG2_B3) 0x0C
  | _ => 1000000 * or (s.get LDC_LADDER_CFG2_B4) 0x28

/-- A queued operation of the same wordline, step and owner that a codeword can share (R219). -/
def DieOp.shares (o : DieOp) (c : Cw) (kind : OpKind) (res : Nat) (dual : Bool) : Bool :=
  o.owner == .codewords && o.kind == kind && o.step == c.step && o.block == c.block && o.wl == c.wl && o.plane == c.plane
    && (kind == .sampleRead || o.page == c.page) && o.res == res && o.dual == dual
    && o.slice == c.slice && o.gen == c.gen && o.internal == c.internal

/-- A running operation can be suspended for a read (R159, R160). -/
def State.canSuspend (s : State) (r : Running) (rd : DieOp) : Bool :=
  bit (s.get DSC_SUSP_CFG_CLASS_MASK) rd.cls && !rd.internal && !r.op.unsuspendable
    && (if r.op.kind = .program then decide (r.suspends < s.get DSC_SUSP_CFG_MAX_P)
          && decide (r.since + 50000 * s.get DSC_SUSP_CFG_MIN_RUN_P ≤ s.now)
        else decide (r.suspends < s.get DSC_SUSP_CFG_MAX_E)
          && decide (r.since + 50000 * s.get DSC_SUSP_CFG_MIN_RUN_E ≤ s.now))

/-- A read can never suspend the operation its die runs (R170): class not enabled, suspends used up, or named in R160. -/
def State.neverSuspend (s : State) (r : Running) (rd : DieOp) : Bool :=
  !bit (s.get DSC_SUSP_CFG_CLASS_MASK) rd.cls || rd.internal || r.op.unsuspendable
    || (if r.op.kind = .program then decide (s.get DSC_SUSP_CFG_MAX_P ≤ r.suspends)
        else decide (s.get DSC_SUSP_CFG_MAX_E ≤ r.suspends))

/-- Queue a read; one that arrives while its die's program or erase cannot be suspended is counted (R161). -/
def State.queueRead (s : State) (c d : Nat) (o : DieOp) : State :=
  let deny : Bool := match (s.die c d).run with
    | some r => (r.op.kind == .program || r.op.kind == .erase) && r.window.isNone && !r.suspending && !s.canSuspend r o
    | none => false
  let s := s.queueOp c d o
  if deny then s.bump blkDSC DSC_SUSP_DENY_CNT else s

/-- Read references of a wordline's class as its record stands (R208). -/
def State.refsOf (s : State) (c d block wl : Nat) (m : Media) : List Int :=
  readRefs (s.classSeed c (s.classOf c d block wl m)) m

/-- Queue the die operation of a codeword's step, or join one that is queued (R219). -/
def State.readOp (s : State) (c : Cw) (kind : OpKind) (res : Nat) (dual rebuild : Bool) : State :=
  let di := s.die c.ch c.die
  match (di.reads ++ di.held).find? fun o => o.shares c kind res dual with
  | some o =>
    let join (x : DieOp) : DieOp :=
      if x.id = o.id then { x with cws := x.cws ++ [c.id], time := min x.time c.dl, cls := min x.cls c.cls } else x
    s.modDie c.ch c.die fun di => { di with reads := di.reads.map join, held := di.held.map join }
  | none =>
    s.queueRead c.ch c.die
      { DieOp.base with kind := kind, block := c.block, wl := c.wl, plane := c.plane, page := c.page, media := c.media,
                        slice := c.slice, gen := c.gen, internal := c.internal, time := c.dl, cls := c.cls,
                        rebuildRead := rebuild, peer := (match c.owner with | .peer _ _ => true | _ => false),
                        cws := [c.id], step := c.step, owner := .codewords, dual := dual, res := res,
                        refs := s.refsOf c.ch c.die c.block c.wl c.media }

/-- Whether WL + 1 of a block counts as programmed (R212). -/
def State.nextWlProgrammed (s : State) (c d b wl : Nat) : Bool :=
  let bl := s.block c d b
  wl != 1023 && (bl.st == .full || (bl.st == .opened && decide (wl + 1 < bl.npp)))

/-- Codewords of a plane wordline (R219). -/
def wlCodewords (m : Media) : Nat := 4 * m.bitsPer

/-- A peer read that serves a rebuild is charged to the rebuild bucket too (R162). -/
def State.servesRebuild (s : State) (c : Cw) : Bool :=
  match c.owner with
  | .rebuild .. => true
  | .peer x _ => match s.cw x with | some y => (match y.owner with | .rebuild .. => true | _ => false) | none => false
  | _ => false

/-- Ask for a retraining slot (R180). -/
def State.askSlot (s : State) (r : SlotReq) : State := { s with fl := { s.fl with slots := s.fl.slots ++ [r] } }

/-- Start the sampling of step 2 or 3 (R188, R212, Table 07.6): WL + 1 first where it is programmed and not yet kept. -/
def State.startDeep (s : State) (c : Cw) (dual : Bool) : State :=
  let key := planeKey c.ch c.die c.block (c.wl + 1) c.plane
  let s :=
    if s.nextWlProgrammed c.ch c.die c.block c.wl && !s.sd.upper.has key then
      s.queueRead c.ch c.die
        { DieOp.base with kind := .sampleRead, block := c.block, wl := c.wl + 1, plane := c.plane, media := c.media,
                          slice := c.slice, gen := c.gen, internal := c.internal, time := c.dl, cls := c.cls, cws := [], step := c.step,
                          owner := .upper, dual := dual, res := 4,
                          refs := s.refsOf c.ch c.die c.block (c.wl + 1) c.media }
    else s
  s.readOp c .sampleRead 5 dual (s.servesRebuild c)

/-- Start a step of a codeword's ladder that reads its own die (Table 07.6). -/
def State.startStep (s : State) (id step : Nat) : State :=
  match s.cw id with
  | none => s
  | some c =>
    let c := { c with step := step, stepAt := s.now, stage := if step = 3 then .slot else .queued, input := none, inst := none }
    let s := s.modCw' id fun _ => c
    match step with
    | 0 => s.readOp c .hardRead 0 false (s.servesRebuild c)
    | 1 => s.readOp c .sampleRead (s.defaultRes c.ch c.media) false (s.servesRebuild c)
    | 2 => s.startDeep c false
    | _ => s.askSlot { ch := c.ch, die := some c.die, cw := some id, ticket := none, since := s.now, deferredSince := none }

/-- Drop an operation's interest in a codeword; a queued operation that serves none is withdrawn. -/
def Die.dropCw (di : Die) (id : Nat) : Die :=
  let f (o : DieOp) : DieOp := { o with cws := o.cws.filter (· != id) }
  let keep (l : List DieOp) : List DieOp := (l.map f).filter fun o => !(o.owner == .codewords && o.cws.isEmpty)
  { di with reads := keep di.reads, held := keep di.held }

/-- Take a codeword off the ladder; a queued read of WL + 1 that no codeword of its wordline waits for is withdrawn. -/
def State.dropCw (s : State) (id : Nat) : State :=
  match s.cw id with
  | none => s
  | some c =>
    let s := { s with cd := { s.cd with cws := s.cd.cws.del id, decodeQ := s.cd.decodeQ.filter (· != id) },
                      fl := { s.fl with slots := s.fl.slots.filter fun r => r.cw != some id } }
    let s := (s.noteQueued c.ch c.die).modDie c.ch c.die fun di => (di.dropCw id).admitHeld
    let same := s.cd.cws.any fun e => e.2.ch == c.ch && e.2.die == c.die && e.2.block == c.block && e.2.wl == c.wl
      && e.2.plane == c.plane
    if same then s
    else
      let mine (o : DieOp) : Bool := o.owner == .upper && o.block == c.block && o.wl == c.wl + 1 && o.plane == c.plane
      let s := s.modDie c.ch c.die fun di => (di.withdraw mine).admitHeld
      { s with sd := { s.sd with upper := s.sd.upper.del (planeKey c.ch c.die c.block (c.wl + 1) c.plane) } }

/-- Codewords may start on the decoders: fewer decode than the power state allows, which binds outside DETOUR and RETURN (R321, R323). -/
def State.decoderAllowed (s : State) : Bool :=
  s.inModes [.detour, .ret] || decide ((s.cd.cws.filter fun e => e.2.inst.isSome).length < psDecoders (s.get PSC_STATUS_PS))

/-- The free active decoder instance with the lowest number (R214), while the power state allows one more (R321). -/
def State.freeInst (s : State) : Option Nat :=
  if !s.decoderAllowed then none
  else (List.range 68).find? fun k => s.get LDC_INST_STATE k == 0 && !s.cd.cws.any fun e => e.2.inst == some k

/-- Give the codeword that has waited longest the free active instance with the lowest number (R214). -/
def State.feedOne (s : State) : State :=
  match s.cd.decodeQ, s.freeInst with
  | id :: rest, some k =>
    ({ s with cd := { s.cd with decodeQ := rest } }).modCw' id fun c => { c with inst := some k }
  | _, _ => s

/-- Give waiting codewords free instances. -/
def State.feedN : Nat → State → State
  | 0, s => s
  | n + 1, s => State.feedN n s.feedOne

def State.feed (s : State) : State := State.feedN s.cd.decodeQ.length s

/-- A codeword reaches the decoders with its input (R214). -/
def State.toDecoder (s : State) (id : Nat) (i : DecInput) : State :=
  let s := s.modCw' id fun c => { c with stage := .decoding, input := some i, inst := none }
  { s with cd := { s.cd with decodeQ := s.cd.decodeQ ++ [id] } }

/-- The iteration limit of a codeword's decoding (R214). -/
def State.iterLimit (s : State) (c : Cw) : Nat :=
  match c.input with
  | some (.hard _ _) => s.get LDC_CFG_HARD_ITER
  | _ => s.get LDC_CFG_SOFT_ITER

/-- Bits a decoder has corrected: those whose decoded value differs from the sign of their input, and those whose input is 0 (R216). -/
def DecInput.corrected (i : DecInput) (word : Nat) : Nat :=
  match i with
  | .hard w mag => if mag = 0 then 36864 else popCount 36864 ((w ^^^ word) % 2 ^ 36864)
  | .soft l => ((List.range l.length).filter fun k =>
      let x := l.getD k 0
      x == 0 || (bit word k && decide (0 < x)) || (!bit word k && decide (x < 0))).length

/-- The scrambler seed of a codeword (R213). -/
def Cw.seed (c : Cw) : Nat := scramblerSeed c.block c.wl c.plane c.page c.pos

/-- Request reallocation of a block (R222). -/
def State.askRealloc (s : State) (ch die block : Nat) : State :=
  if s.cd.realloc.contains (ch, die, block) then s
  else if 256 ≤ s.cd.realloc.length then s.bump blkLDC LDC_REALLOC_DROP 0 1 ownLDC
  else
    let s := { s with cd := { s.cd with realloc := s.cd.realloc ++ [(ch, die, block)] } }
    let s := s.bump blkLDC LDC_REALLOC_CNT 0 1 ownLDC
    (((s.set LDC_REALLOC_LAST_CH ch).set LDC_REALLOC_LAST_DIE die).set LDC_REALLOC_LAST_BLOCK block).raise 74

/-- Dword 0 of a Read completion (R52, Table 02.6). -/
def State.marginDw0 (s : State) (c : Ctx) : Nat :=
  if c.port < 2 ∧ (s.port c.port).feat.marginEn then
    let th := (s.port c.port).feat.marginThresh
    let src := if c.fromCache then (if c.fromFlash then 2 else 1) else 0
    satW 12 c.maxCbits + bNat (th ≤ satW 12 c.maxCbits) * 2 ^ 12 + c.step * 2 ^ 13 + satW 8 c.warnCw * 2 ^ 16 + src * 2 ^ 24
  else 0

/-- Send the data of one LBA of a read where it belongs: host memory, or the node that asked (R373). -/
def State.deliver (s : State) (c : Ctx) (lba data : Nat) : State :=
  let slba := c.e.dw10 + c.e.dw11 * 2 ^ 32
  match c.remote with
  | some (node, tag, _) =>
    s.sendFrame (s.frameOf 0x31 node tag (bNat (lba == slba) + 2 * bNat (c.remaining == 1)) (4096 * (lba - slba)) (le 4096 data))
  | none => s.put (.hostData c.port c.e.cid lba data (s.tag c.port c.pasid))

/-- A read whose last LBA is there completes: with its first error, or with its margin report. -/
def State.finishRead (s : State) (id : Nat) : State :=
  match s.ctx id with
  | some c => if c.remaining = 0 then s.complete id c.status (s.marginDw0 c) else s
  | none => s

/-- One LBA of a read has its data (R52, R223). -/
def State.lbaDone (s : State) (id lba data cbits step : Nat) (cached : Bool) : State :=
  match s.ctx id with
  | none => s
  | some c =>
    if c.stage = .done then s
    else
      let th := if c.port < 2 then (s.port c.port).feat.marginThresh else 0xFFFF
      let s := s.deliver c lba data
      let s := s.modCtx id fun c =>
        { c with remaining := c.remaining - 1, maxCbits := max c.maxCbits cbits, step := max c.step step,
                 warnCw := if !cached ∧ th ≤ satW 12 cbits then c.warnCw + 1 else c.warnCw,
                 fromFlash := c.fromFlash || !cached, fromCache := c.fromCache || cached }
      s.finishRead id

/-- One LBA of a read has failed. -/
def State.lbaFailed (s : State) (id : Nat) (st : NvmeStatus) (step : Nat) : State :=
  let s := s.modCtx id fun c =>
    { c with remaining := c.remaining - 1, status := if c.status = .success then st else c.status, step := max c.step step }
  s.finishRead id

/-- A read hit's data is there: it goes to the host, and the pin is gone (R127, R144). -/
def State.hitDone (s : State) (id lba p : Nat) : State :=
  match s.wc.pairs.look p with
  | some x => (s.lbaDone id lba (x.data.lookD lba 0) 0 0 true).unpin p
  | none => s

/-- A read hit finds its data lost (R123). -/
def State.hitFailed (s : State) (id p : Nat) : State := (s.lbaFailed id .unrecoveredReadError 0).unpin p

/-- A read hit that lost its DRAM read is read from a copy that is left (R122, R124). -/
def State.rehit (s : State) (use : Option CacheUse) : State :=
  match use with
  | some (.hit id lba p) =>
    if ((s.wc.pairs.look p).map fun x => x.lost.contains lba).getD true then s.hitFailed id p
    else (s.queueHit id lba p).getD (s.hitFailed id p)
  | _ => s

/-- A DRAM read for the cache has good data. -/
def State.useDone (s : State) (use : Option CacheUse) : State :=
  match use with
  | some (.hit id lba p) => s.hitDone id lba p
  | _ => s

/-- Hand on the read hits of a channel that queued writes have answered (R334). -/
def State.takeAnswered (s : State) (d : Nat) : State :=
  let l := (s.dchan d).answered
  if l.isEmpty then s
  else (s.modDchan d fun c => { c with answered := [] }).each l fun q s => s.useDone q.use

/-- Serve the channels and hand on what queued writes have answered. -/
def State.serveHits (s : State) : State := s.serveDram.each [0, 1, 2, 3] fun d s => s.takeAnswered d

/-- A request serves a read hit of a command. -/
def DReq.hitOf (q : DReq) (id : Nat) : Bool := match q.use with | some (.hit i _ _) => i == id | _ => false

/-- Requests of a channel that have not been handed on. -/
def DChan.all (c : DChan) : List DReq := c.waiting ++ c.reads ++ c.issued ++ c.answered

/-- Forget the read hits of a command: those on the bus end unused (R352). -/
def State.dropHits (s : State) (id : Nat) : State :=
  let pins := (s.mm.chans.map fun e => (e.2.all.filter (·.hitOf id)).filterMap fun q => match q.use with | some (.hit _ _ p) => some p | _ => none).flatten
  let keep (l : List DReq) : List DReq := l.filter fun q => !q.hitOf id
  let unused (q : DReq) : DReq := if q.hitOf id then { q with use := none } else q
  if pins.isEmpty then s
  else
    let s := { s with mm := { s.mm with chans := s.mm.chans.mapVals fun _ c =>
      { c with waiting := keep c.waiting, reads := keep c.reads, answered := keep c.answered,
               issued := c.issued.map unused } } }
    s.each pins fun p s => s.unpin p

/-- A codeword belongs to a read that a slice reset has overtaken (Table 03.2 step 4). -/
def State.stale (s : State) (c : Cw) : Bool := !c.internal && c.gen != 0 && c.gen != s.gen c.slice

/-- Withdraw the peer reads of a reconstruction that have not been issued; those issued run to their end unused. -/
def State.dropPeers (s : State) (id : Nat) : State :=
  let ps := (s.cd.cws.filter fun e => match e.2.owner with | .peer x _ => x == id | _ => false).map (·.1)
  let s := s.each ps fun p s => s.dropCw p
  s.modCw' id fun c => { c with recon := false, raced := false, peersLeft := 0, peersXor := 0 }

/-- The codeword's data is of no further use: it and its peers leave the ladder. -/
def State.endCw (s : State) (id : Nat) : State := (s.dropPeers id).dropCw id

/-- The LBA of a codeword of a zone, or of the slot of a set it lies in. -/
def State.lbaOf (s : State) (set : Bool) (key slot wl q : Nat) : Option (Nat × Nat) :=
  if set then
    (s.xl.sets.look key).bind fun b =>
      (b.keys.find? fun k =>
        let p := setPlace b.split b.fn k.slot
        p.slot == slot && p.row == wl && p.q == q).map fun k => (k.nsid, k.lba)
  else
    (s.zn.zones.look key).bind fun z =>
      ((List.range z.d).find? fun i => slotOfMember z.split z.fn i == slot).map fun i =>
        (z.nsid, z.z * zoneSpan + wl * z.d * z.ml + i * z.ml + q)

/-- Mark an LBA lost that could not be copied or rebuilt: reads of it complete with Unrecovered Read Error (R178). -/
def State.loseLba (s : State) (set : Bool) (key slot wl q : Nat) : State :=
  match s.lbaOf set key slot wl q with
  | none => s
  | some (nsid, lba) =>
    if set then
      match s.mapGet nsid lba with
      | some (.flash t _) => if t = key then s.mapPut nsid lba (some .lost) else s
      | _ => s
    else s.modZone key fun z => { z with lost := z.lost ++ [(lba, lba)] }

/-- Queue the program of a wordline that has been copied (R176, R243): rebuild programs need no tokens. -/
def State.programCopy (s : State) (w : WlCopy) : State :=
  match (s.stripeOf w.set w.key).bind fun st => st.members[w.slot]? with
  | none => s
  | some m =>
    let media := if w.set then Media.tlc else match s.zn.zones.look w.key with | some z => z.media | none => .qlc
    s.queueOp m.ch m.die
      { DieOp.base with kind := .program, block := m.block, wl := w.wl, media := media, time := s.now, data := w.data, needsTokens := !w.peers,
                        owner := if w.peers then .rebuild w.set w.key w.slot w.wl else .move w.set w.key w.slot w.wl }

/-- One codeword of a wordline being copied is there, or is lost. -/
def State.copyDone (s : State) (set : Bool) (key slot wl pos : Nat) (data : Option Nat) : State :=
  let hit (w : WlCopy) : Bool := w.set == set && w.key == key && w.slot == slot && w.wl == wl
  match s.fl.copies.find? hit with
  | none => s
  | some w =>
    let w := { w with data := match data with | some v => w.data.put pos v | none => w.data }
    if w.left ≤ 1 then { s with fl := { s.fl with copies := s.fl.copies.filter (!hit ·) } }.programCopy w
    else
      { s with fl := { s.fl with copies := s.fl.copies.map fun x => if hit x then { w with left := w.left - 1 } else x } }

/-- Keep a relocated LBA whose entry still names its slot (R239). -/
def State.relocated (s : State) (tag slot data : Nat) : State :=
  match s.xl.sets.look tag with
  | none => s
  | some b =>
    match b.keys.find? fun k => k.slot == slot with
    | none => s
    | some k =>
      if s.mapGet k.nsid k.lba = some (.flash tag slot) then
        let e : FootKey × Nat := ({ k with slot := 0, reloc := some (tag, slot) }, data)
        { s with xl := { s.xl with reloc := s.xl.reloc.put b.route ((s.xl.reloc.lookD b.route []) ++ [e]) } }
      else s

/-- A reconstruction takes in a peer's data (R93, R169). -/
def State.peerDone (s : State) (x data : Nat) : State :=
  s.modCw' x fun c => { c with peersLeft := c.peersLeft - 1, peersXor := c.peersXor ^^^ data }

/-- Codewords that end without data: Unrecovered Read Error of host data (R220), lost data of a copy. -/
def State.unrecovered (s : State) (c : Cw) : State :=
  let s := (s.bump blkLDC LDC_UNREC_CNT 0 1 ownLDC).raiseOnce 75 ownLDC
  let s := s.endCw c.id
  match c.owner with
  | .host id _ => s.lbaFailed id .unrecoveredReadError c.step
  | .rebuild set key slot wl pos => (s.loseLba set key slot wl pos).copyDone set key slot wl pos none
  | .move set key slot wl pos => (s.loseLba set key slot wl pos).copyDone set key slot wl pos none
  | .reloc tag slot =>
    match s.xl.sets.look tag with
    | some b =>
      match b.keys.find? fun k => k.slot == slot with
      | some k => if s.mapGet k.nsid k.lba = some (.flash tag slot) then s.mapPut k.nsid k.lba (some .lost) else s
      | none => s
    | none => s
  | _ => s

/-- A reconstruction fails because a peer has failed step 3 or cannot be read (R172): with the direct read at its last step
the read fails, and its block is to be reallocated (R222); a withdrawn direct read is queued again; a direct read that runs goes on. -/
def State.reconFailed (s : State) (x : Nat) : State :=
  let s := (s.dropPeers x).modCw' x fun c => { c with peerFailed := true }
  match s.cw x with
  | none => s
  | some c =>
    if c.stage = .peersOnly ∧ !c.withdrawn then
      (s.askRealloc c.ch c.die c.block).unrecovered c
    else if c.withdrawn then
      (s.modCw' x fun c => { c with withdrawn := false }).startStep x c.step
    else s

/-- The peers a reconstruction needs (R93, R104): the slots of the group whose member is programmed at the row, the row's partial
parity where the parity member is not; none when it cannot be made. -/
def State.peersOf (s : State) (st : Stripe) (slot row q : Nat) : Option (List (Nat × (Nat × Nat × Nat)) × Nat) :=
  let g := if st.split then slot / 8 else 0
  let ps := paritySlot st.split st.fn g
  let others := (groupSlots st.split slot).filter fun j => j != slot
  let done := fun j => match st.members[j]? with | some m => decide (row < m.verified) | none => false
  let whole := done ps || slot == ps
  let part : Option Nat :=
    if whole then some 0
    else if s.zn.recompPending.contains (st.key, g) then none
    else (s.parityOf st.key g row).map fun p => p.data.lookD q 0
  match part with
  | none => none
  | some x =>
    let need := others.filter fun j => done j
    let at_ := need.filterMap fun j => (st.members[j]?).bind fun m => (s.memberAt m row).map fun p => (j, p)
    if at_.length = need.length then some (at_, x) else none

/-- Start the reconstruction of a codeword from its stripe peers, unless one runs already (R169, R221). -/
def State.startRecon (s : State) (id : Nat) : State :=
  match s.cw id with
  | none => s
  | some c =>
    if c.recon then s
    else
      match c.stripe.bind fun k => s.stripeOf k.1 k.2 with
      | none => s.reconFailed id
      | some st =>
        match s.peersOf st c.slot c.row c.q with
        | none => s.reconFailed id
        | some (ps, x) =>
          let s := s.modCw' id fun c =>
            { c with recon := true, peersLeft := ps.length, peersXor := x, peerFailed := false }
          let sampled := s.servesRebuild c
          s.each ps fun (j, p) s =>
            let y : Cw := { Cw.base with owner := .peer id j, slice := c.slice, gen := c.gen, cls := c.cls, internal := c.internal,
                                         dl := c.dl, media := c.media, stripe := c.stripe, slot := j }
            let (pid, s) := s.addCw (y.at' p c.row c.q)
            let first := if sampled && !s.sampleOff p.1 p.2.1 then 1 else 0
            (s.modCw' pid fun y => { y with began := first }).startStep pid first

/-- A read of a member that cannot be read on its own die is served by reconstruction (R171). -/
def State.degraded (s : State) (id : Nat) : State :=
  let s := s.bump blkDSC DSC_DEGRADED_CNT
  let s := s.modCw' id fun c => { c with step := 4, stepAt := s.now, stage := .peersOnly }
  s.startRecon id

/-- The next step of a codeword whose step has failed (R219, R220, R172, R173, Table 03.2); one whose die has failed meanwhile is read as
R171 says; one whose die has become sample-off goes to step 4, or back to step 0 where it began at step 1 (R201).  DESIGN CHOICE (log 83): a direct read whose read-around has failed on a peer starts a reconstruction again at its own step 4. -/
def State.stepFailed (s : State) (id : Nat) : State :=
  match s.cw id with
  | none => s
  | some c =>
    if s.stale c ∨ c.raceLost then s.endCw id
    else if !s.inService c.ch c.die ∨ s.chFailed c.ch then
      match c.owner with
      | .peer x _ => (s.dropCw id).reconFailed x
      | _ => s.degraded id
    else
      let next := if !s.sampleOff c.ch c.die then c.step + 1 else if c.step = 1 ∧ c.began = 1 then 0 else 4
      if next < 4 then s.startStep id next
      else
        match c.owner with
        | .peer x _ => (s.dropCw id).reconFailed x
        | _ =>
          if c.stripe.isNone then s.unrecovered c
          else
            let s := s.askRealloc c.ch c.die c.block
            let s := s.modCw' id fun c =>
              { c with step := 4, stepAt := s.now, stage := .peersOnly, withdrawn := false }
            s.startRecon id

/-- How many codewords of the same plane wordline queued reads want (R219). -/
def State.alongside (s : State) (c : Cw) : Nat :=
  ((s.cd.cws.filter fun e => e.2.stage == .queued && e.2.ch == c.ch && e.2.die == c.die && e.2.block == c.block
    && e.2.wl == c.wl && e.2.plane == c.plane).map fun e => (e.2.page, e.2.pos)).eraseDups.length

/-- Begin the ladder of a set of codewords of one read, all on the ladder already (R219): at step 1 where they cover enough of
their plane wordline, else at step 0; a codeword whose die cannot give it is reconstructed. -/
def State.beginReads (s : State) (ids : List Nat) : State :=
  s.each ids fun id s =>
    match s.cw id with
    | none => s
    | some c =>
      if !s.inService c.ch c.die || s.chFailed c.ch || c.stage == .peersOnly then s.degraded id
      else
        let need := min (s.get LDC_LADDER_CFG_SEQ_MIN) (wlCodewords c.media)
        let seq := s.flag LDC_LADDER_CFG_SEQ_START && !s.sampleOff c.ch c.die && decide (need ≤ s.alongside c)
        (s.modCw' id fun c => { c with began := bNat seq }).startStep id (bNat seq)

/-- The wear record a codeword counts in. -/
def State.countWear (s : State) (c : Cw) (cbits step : Nat) : State :=
  match c.stripe with
  | some (set, key) => s.modWear set key fun w => w.decoded cbits step
  | none => s

/-- Hand a codeword's data to what it was read for. -/
def State.give (s : State) (c : Cw) (data cbits step : Nat) : State :=
  match c.owner with
  | .host id lba => s.lbaDone id lba data cbits step false
  | .peer x _ => s.peerDone x data
  | .rebuild set key slot wl pos => s.copyDone set key slot wl pos (some data)
  | .move set key slot wl pos => s.copyDone set key slot wl pos (some data)
  | .reloc tag slot => s.relocated tag slot data
  | .raw _ => s
  | .check => s

/-- A codeword has decoded and passed the check unit (R215, R216, R222, R223). -/
def State.decoded (s : State) (id cbits data : Nat) : State :=
  match s.cw id with
  | none => s
  | some c =>
    let s := s.bump blkLDC LDC_STEP_CNT c.step 1 ownLDC
    let s := s.countWear c (satW 12 cbits) c.step
    let s := if 2 ≤ c.step then s.askRealloc c.ch c.die c.block else s
    let s := s.endCw id
    if s.stale c ∨ c.raceLost then s else s.give c data (satW 12 cbits) c.step

/-- The last peer has decoded (R169, R82, R173): the rebuilt data is the result unless the direct read was first; in a race the
direct read is withdrawn, or runs to its end unused. -/
def State.reconDone (s : State) (id : Nat) : State :=
  match s.cw id with
  | none => s
  | some c =>
    let s := s.bump blkLDC LDC_STEP_CNT 4 1 ownLDC
    let s := s.countWear c 0xFFF 4
    let data := c.peersXor
    let s :=
      if c.raced then
        let s := s.bump blkTLG TLG_RA_PEER_WON c.cls
        match c.owner with | .host i _ => s.modCtx i fun x => { x with peersWon := true } | _ => s
      else s
    if c.stage = .peersOnly then
      let s := s.endCw id
      if s.stale c then s else s.give c data 0xFFF 4
    else
      let s :=
        if c.stage = .queued ∨ c.stage = .slot then s.endCw id
        else s.modCw' id fun c => { c with raceLost := true, recon := false }
      if s.stale c then s else s.give c data 0xFFF 4

/-- A codeword lies in a set flagged unprotected: no read-around until it is relocated (R237). -/
def State.unprotectedCw (s : State) (c : Cw) : Bool :=
  match c.stripe with
  | some (true, tag) => ((s.xl.sets.look tag).map (·.unprotected)).getD false
  | _ => false

/-- A read-around of one codeword (R82): a race, or the replacement of a direct read not yet issued. -/
def State.readAround (s : State) (id : Nat) (race : Bool) : State :=
  match s.cw id with
  | none => s
  | some c =>
    if c.stripe.isNone ∨ s.unprotectedCw c ∨ c.recon ∨ c.raceLost ∨ c.stage = .peersOnly then s
    else if race then (s.modCw' id fun c => { c with raced := true }).startRecon id
    else if c.stage = .queued ∨ c.stage = .slot then
      let s := { s with fl := { s.fl with slots := s.fl.slots.filter fun r => r.cw != some id } }
      let s := (s.noteQueued c.ch c.die).modDie c.ch c.die fun di => (di.dropCw id).admitHeld
      let s := s.modCw' id fun c => { c with withdrawn := true, stage := .peersOnly }
      s.startRecon id
    else s

/-- Codewords of a host read that have not decoded. -/
def State.cwsOf (s : State) (ctx : Nat) : List Nat :=
  (s.cd.cws.filter fun e => match e.2.owner with | .host i _ => i == ctx | _ => false).map (·.1)

/-- Start copying a wordline of a member (R176, R243): its codewords from the old place, or from the stripe peers. -/
def State.startCopy (s : State) (set : Bool) (key slot wl : Nat) (peers : Bool) : State :=
  match s.stripeOf set key with
  | none => s
  | some st =>
    match st.members[slot]? with
    | none => s
    | some m =>
      let media := if set then Media.tlc else match s.zn.zones.look key with | some z => z.media | none => .qlc
      let n := 16 * media.bitsPer
      let w : WlCopy := { set := set, key := key, slot := slot, wl := wl, left := n, data := [], peers := peers }
      let s := { s with fl := { s.fl with copies := s.fl.copies ++ [w] } }
      let p := (m.place wl).getD (m.ch, m.die, m.block)
      let (ids, s) := (List.range n).foldl (fun (acc : List Nat × State) q =>
        let y : Cw := { Cw.base with owner := if peers then .rebuild set key slot wl q else .move set key slot wl q,
                                     dl := s.now + 10000000, media := media, stripe := some (set, key), slot := slot,
                                     stage := if peers then .peersOnly else .queued }
        let (id, s) := acc.2.addCw (y.at' p wl q)
        (acc.1 ++ [id], s)) ([], s)
      if peers then s.each ids fun id s => (s.modCw' id fun c => { c with step := 4 }).startRecon id
      else s.beginReads ids

end Sys2Proof.Machine
end

