-- ==== Sys2Proof/Machine/OpsDie.lean ====
section
/-!
DEFINITION. What the end of a program or erase means to its owner, replacement of blocks, failed dies and channels, rebuild,
retraining (R156, R158, R174 to R181, R228 to R231, R240 to R245).
Assumption log: DEDUCED (31, 32, 36, 38).
-/

namespace Sys2Proof.Machine

/-- Show the dump dies (chapter 09, HUC registers): N_h, the healthy dies by channel, slots armed on every healthy die. -/
def State.showDump (s : State) : State :=
  let l := s.healthyDies
  let all (f : Bool × Bool → Bool) : Bool := !l.isEmpty && l.all fun k => f (s.hu.armed.lookD k (false, false))
  let s := s.set HUC_DUMP_N_H l.length
  let s := s.each (List.range 64) fun c s =>
    let ds := s.hu.dumpDies.lookD c []
    s.set HUC_DDIE ((List.range 8).foldl (fun n j =>
      match ds[j]? with | some d => putBit n j (l.contains (dieKey c d)) | none => n) 0) c
  s.set HUC_STATUS_ARMED (bNat (all (·.1)) + 2 * bNat (all (·.2)))

/-- N_h may have changed: a fall is an event, and the write cache is supplied with it (R255, R131, Table 09.10). -/
def State.refreshNh (s : State) : State :=
  let old := s.get HUC_DUMP_N_H
  let s := s.showDump
  let s := if s.get HUC_DUMP_N_H < old then s.raise 182 else s
  s.supply (s.get WCU_LIMIT_IN_EU) (s.get HUC_DUMP_N_H)

/-- A block for a member in place of one that failed (R242, R243): a spare of the channel's pool, else a free erased block on a
channel of the route's set that the stripe does not use. -/
def State.replacement (s : State) (c d route : Nat) (used : List Nat) : Option (Nat × Nat × Nat) × State :=
  match s.takeSpare c d with
  | (some e, s) => ((s.freeBlock c e).map fun b => (c, e, b), s)
  | (none, s) =>
    let l := (s.usableChannels route).filter fun x => !used.contains x
    match l with
    | [] => (none, s)
    | x :: _ =>
      match s.memberDie x s.activeMembers with
      | some e => ((s.freeBlock x e).map fun b => (x, e, b), s)
      | none => (none, s)

/-- Change a member of a zone or set. -/
def State.modMember (s : State) (set : Bool) (key slot : Nat) (f : Member → Member) : State :=
  let upd (l : List Member) : List Member := match l[slot]? with | some m => l.set slot (f m) | none => l
  if set then { s with xl := { s.xl with sets := s.xl.sets.modify key fun b => { b with members := upd b.members } } }
  else s.modZone key fun z => { z with members := upd z.members }

/-- The zone member an operation programs, if it is one. -/
def DieOp.zoneOf (o : DieOp) : Option Nat :=
  match o.owner with | .member k _ _ => some k | .parity k _ _ => some k | .filler k _ _ => some k | _ => none

/-- A reallocation under way ends: the next may be accepted (R244). -/
def State.moveEnded (s : State) (p : Nat × Nat × Nat) : State :=
  { s with cd := { s.cd with moving := s.cd.moving.filter (· != p) } }

/-- Move a member of a zone to another block (R243, R244): its programmed wordlines are copied, later ones are programmed from
the cache once the copy is made; without a block the zone goes Read Only with its data pinned. -/
def State.moveMember (s : State) (key slot : Nat) : State :=
  match s.zn.zones.look key with
  | none => s
  | some z =>
    match z.members[slot]? with
    | none => s
    | some m =>
      if m.rebuilt.isSome then s
      else
        let mine (o : DieOp) : Bool := o.zoneOf == some key && o.block == m.block
        let s := s.modDie m.ch m.die fun di => { (di.withdraw mine).admitHeld with run := di.run.map (·.orphan mine) }
        match s.replacement m.ch m.die z.route (z.members.map (·.ch)) with
        | (some (c, d, b), s) =>
          let s := s.modBlock c d b fun x => { x with owned := true }
          let s := s.modMember false key slot fun m =>
            { m with ch := c, die := d, block := b, issued := m.verified, moved := true,
                     rebuilt := if m.verified = 0 then none else some 0,
                     old := if m.verified = 0 then none else some (m.ch, m.die, m.block) }
          if m.verified = 0 then
            ((s.markRetired m.ch m.die m.block).bumpXlt XLT_MOVE_CNT).moveEnded (m.ch, m.die, m.block)
          else s.startCopy false key slot 0 false
        | (none, s) =>
          let s := s.modMember false key slot fun m =>
            { m with issued := m.verified, rebuilt := some 0, old := some (m.ch, m.die, m.block) }
          ((s.zoneReadOnly key).xltEvt XLT_EVT_PINNED).moveEnded (m.ch, m.die, m.block)

/-- A member's copy is complete: the old block is retired (R243), or the slot is rebuilt (R176). -/
def State.copyEnded (s : State) (set : Bool) (key slot : Nat) (m : Member) : State :=
  let s := s.modMember set key slot fun m => { m with rebuilt := none, old := none }
  match m.old with
  | some (c, d, b) => ((s.markRetired c d b).bumpXlt XLT_MOVE_CNT).moveEnded (c, d, b)
  | none => s

/-- Progress of a rebuild in percent of its slots (Table 06.16). -/
def rebuildPct (r : Rebuild) : Nat := if r.total = 0 then 100 else 100 * (r.total - r.work.length) / r.total

/-- Show the rebuild that started first (Tables 06.15, 06.16). -/
def State.showRebuild (s : State) : State :=
  let s := s.setB DSC_STATUS_REBUILD (!s.fl.rebuilds.isEmpty)
  match s.fl.rebuilds with
  | r :: _ =>
    (((s.set DSC_REBUILD_CH r.ch).set DSC_REBUILD_DIE r.die).set DSC_REBUILD_TARGET r.target).set DSC_REBUILD_PCT (rebuildPct r)
  | [] => s

/-- Drop finished work from a rebuild; at its end the spare has replaced the die (R176). -/
def State.settleRebuild (s : State) : State :=
  s.each s.fl.rebuilds fun r s =>
    let open_ := r.work.filter fun (set, key, slot) =>
      match (s.stripeOf set key).bind fun st => st.members[slot]? with
      | some m => m.rebuilt.isSome && m.old.isNone
      | none => false
    let r' := { r with work := open_ }
    if open_.isEmpty then
      let s := { s with fl := { s.fl with rebuilds := s.fl.rebuilds.filter fun (x : Rebuild) => !(x.ch == r.ch && x.die == r.die) } }
      let s := (s.set DSC_REBUILD_PCT 100).fsqEvt FSQ_EVT_REBUILD_DONE r.ch
      (if s.get FSQ_DIE_STATE r.ch r.target = dieRebuilding then s.set FSQ_DIE_STATE dieReplaced r.ch r.target else s).showRebuild
    else
      { s with fl := { s.fl with rebuilds := s.fl.rebuilds.map fun (x : Rebuild) => if x.ch = r.ch ∧ x.die = r.die then r' else x } }.showRebuild

/-- A copied wordline has passed verify; the next follows, or the copy ends. -/
def State.copyProgrammed (s : State) (set : Bool) (key slot wl : Nat) (peers : Bool) : State :=
  match (s.stripeOf set key).bind fun st => st.members[slot]? with
  | none => s
  | some m =>
    if m.rebuilt != some wl then s
    else if m.verified ≤ wl + 1 then (s.copyEnded set key slot { m with rebuilt := none }).settleRebuild
    else
      let s := s.modMember set key slot fun m => { m with rebuilt := some (wl + 1) }
      if peers then s else s.startCopy set key slot (wl + 1) false

/-- A slot of a parity group that no longer gives any wordline on its own. -/
def State.slotGone (s : State) (m : Member) : Bool :=
  decide (0 < m.verified) && (match m.place (m.verified - 1) with
    | some (c, d, _) => !s.inService c d || s.chFailed c
    | none => true)

/-- Two unrebuilt slots of one parity group take a zone Offline (R178). -/
def State.offlineCheck (s : State) (key : Nat) : State :=
  match s.zn.zones.look key with
  | none => s
  | some z =>
    let bad := fun g => ((groupSlots z.split (8 * g)).filter fun j =>
      match z.members[j]? with | some m => s.slotGone m | none => false).length
    if 2 ≤ bad 0 ∨ (z.split ∧ 2 ≤ bad 1) then s.zoneOffline key else s

/-- A conventional row has failed in one member: its LBAs go to another row, the set is closed for relocation, and the block is
retired when it is empty (R156, R244). -/
def State.failRow (s : State) (tag row i : Nat) (retire : Option (Nat × Nat × Nat)) : State :=
  match s.xl.sets.look tag with
  | none => s
  | some b =>
    let n := rowSlots b.split
    let mine (k : FootKey) : Bool := k.slot / n == row && k.slot % n / 47 == i
    let gone := b.keys.filter mine
    let s := { s with xl := { s.xl with
      sets := s.xl.sets.put tag { b with keys := b.keys.filter (!mine ·), closed := true, unprotected := true,
                                         retire := retire.or b.retire },
      open_ := if s.xl.open_.look b.route = some tag then s.xl.open_.del b.route else s.xl.open_ } }
    s.each gone fun k s =>
      match k.reloc with
      | some (t, sl) =>
        let d := s.xl.rowData.lookD (rowKey tag row i (k.slot % n % 47)) 0
        s.relocated t sl d
      | none =>
        match s.mapGet k.nsid k.lba with
        | some (.cache p _) => s.modPair p fun x => { x with issued := x.issued.filter (· != k.lba) }
        | _ => s

/-- The parity of a conventional row cannot be programmed: its set is closed, and relocation takes it first (R156, R237, R244). -/
def State.failConvParity (s : State) (tag row g : Nat) (retire : Option (Nat × Nat × Nat)) : State :=
  match s.xl.sets.look tag with
  | none => s
  | some b =>
    let s := s.freeParity (setKey tag) g row
    { s with xl := { s.xl with
        sets := s.xl.sets.put tag { b with closed := true, unprotected := true, retire := retire.or b.retire },
        open_ := if s.xl.open_.look b.route = some tag then s.xl.open_.del b.route else s.xl.open_ } }

/-- Replace a system block of a dump die by an area spare; with none left the die is unhealthy for dumping (R254). -/
def State.replaceSys (s : State) (k j : Nat) : State :=
  let l := s.hu.dumpBlocks.lookD k []
  let old := l.getD j 0
  let s := s.markRetired (k / 32) (k % 32) old
  match l.drop 6 with
  | b :: t => { s with hu := { s.hu with dumpBlocks := s.hu.dumpBlocks.put k ((l.take 6).set j b ++ t) } }.askCommit
  | [] => { s with hu := { s.hu with unhealthy := insSorted k s.hu.unhealthy } }.refreshNh

/-- A journal record that did not reach flash is written again to another dump die (R136). -/
def State.rejournal (s : State) (j : Nat) : State :=
  match s.wc.journal.find? fun r => r.jseq == j && !r.verified with
  | none => s
  | some r =>
    let s := { s with wc := { s.wc with journal := s.wc.journal.filter fun x => x.jseq != j } }
    s.journalPairs r.pairs

/-- A verified member wordline of a zone (R101, R103, R128, R136, R259): progress, parity, pair release. -/
def State.memberVerified (s : State) (key row i : Nat) (parts : NMap Nat) : State :=
  match s.zn.zones.look key with
  | none => s
  | some z =>
    let slot := slotOfMember z.split z.fn i
    let n := row * z.d + i
    let g := groupOf z.split i
    let data := s.wordlineData z n
    let s := (s.modMember false key slot fun m => { m with verified := m.verified + 1 }).firstProgram false key
    let s := s.xorMember key g row data parts
    let lo := z.z * zoneSpan + n * z.ml
    let hit := s.wc.pairs.filter fun e => !e.2.conv && e.2.nsid == z.nsid && e.2.committed
      && e.2.data.any fun d => decide (lo ≤ d.1) && decide (d.1 < lo + z.ml)
    let s := s.each hit fun (e : Nat × Pair) s =>
      let ls := (e.2.data.map (·.1)).filter fun l => decide (lo ≤ l) && decide (l < lo + z.ml)
      let s := s.each ls fun l s => (s.doneLba e.1 l).clearLive z.nsid l 0
      s.cleanPair e.1
    let s := match s.zn.zones.look key with
      | some z' =>
        let whole := z'.z * zoneSpan + z'.inPlace
        let full := s.wc.pairs.filter fun (e : Nat × Pair) => !e.2.conv && e.2.nsid == z'.nsid && e.2.committed
            && e.2.data.all fun d => decide (z'.z * zoneSpan ≤ d.1) && decide (d.1 < whole)
        s.each full fun e s => s.releasePair e.1
      | none => s
    s.issueParity key g

/-- A verified parity member of a zone: its accumulator is freed (R103). -/
def State.parityVerified (s : State) (key row g : Nat) : State :=
  match s.zn.zones.look key with
  | none => s
  | some z =>
    let slot := paritySlot z.split z.fn g
    ((s.modMember false key slot fun m => { m with verified := m.verified + 1 }).freeParity key g row).fullEnded key

/-- The parity member of a conventional row is queued once its data members stand (R103, R230). -/
def State.issueConvParity (s : State) (tag row g : Nat) : State :=
  match s.xl.sets.look tag, s.parityOf (setKey tag) g row with
  | some b, some p =>
    if p.count = groupSize b.split ∧ !s.zn.recompPending.contains (setKey tag, g) then
      match b.members[paritySlot b.split b.fn g]? with
      | some m =>
        let first := match p.parts with | (x, _) :: _ => x | [] => 256
        s.queueOp m.ch m.die
          { DieOp.base with kind := .program, block := m.block, wl := row, media := .tlc, slice := first % 256, internal := first == 256,
                            parts := p.parts, time := s.now, prio := b.prio, owner := .convParity tag row g }
      | none => s
    else s
  | _, _ => s

/-- A set all of whose rows are programmed is full, and its frontier takes another (R230). -/
def State.setFull (s : State) (tag : Nat) : State :=
  match s.xl.sets.look tag with
  | none => s
  | some b =>
    if b.members.all fun m => decide (1024 ≤ m.verified) then
      { s with xl := { s.xl with sets := s.xl.sets.put tag { b with closed := true },
                                 open_ := if s.xl.open_.look b.route = some tag then s.xl.open_.del b.route else s.xl.open_ } }
    else s

/-- A verified member of a conventional row (R230, R231, R240): its entries become Flash where they still name the value. -/
def State.convVerified (s : State) (tag row i : Nat) (parts : NMap Nat) : State :=
  match s.xl.sets.look tag with
  | none => s
  | some b =>
    let n := rowSlots b.split
    let g := groupOf b.split i
    let slot := slotOfMember b.split b.fn i
    let data := (List.range 48).foldl (fun (m : NMap Nat) q =>
      match s.xl.rowData.look (rowKey tag row i q) with | some v => m.put q v | none => m) []
    let s := (s.modMember true tag slot fun m => { m with verified := m.verified + 1 }).firstProgram true tag
    let s := s.xorMember (setKey tag) g row data parts
    let s := s.each (b.keys.filter fun k => k.slot / n == row && k.slot % n / 47 == i) fun k s =>
      let lost := s.segLost k.nsid k.lba
      -- while the segment of an LBA is lost, its pair is found by its sequence; the rebuild replays the footer (R238)
      let entry := if lost ∧ k.reloc.isNone then (s.wc.pairs.find? fun e => e.2.conv && e.2.nsid == k.nsid && e.2.seq == k.seq && e.2.data.has k.lba).map
          fun e => MapEntry.cache e.1 0
        else s.mapGet k.nsid k.lba
      match entry, k.reloc with
      | some (.cache p _), none =>
        if ((s.wc.pairs.look p).map fun (x : Pair) => x.seq) = some k.seq then
          let s := (if lost then s else s.mapPut k.nsid k.lba (some (.flash tag k.slot))).doneLba p k.lba
          let s := s.clearLive k.nsid k.lba 0
          (s.cleanPair p).settlePair p
        else s
      | some (.flash t sl), some (t0, sl0) =>
        if t = t0 ∧ sl = sl0 then (s.mapPut k.nsid k.lba (some (.flash tag k.slot))).bumpXlt XLT_RELOC_LBA_CNT else s
      | _, _ => s
    let s := { s with xl := { s.xl with rowData := s.xl.rowData.keep fun x _ => x / 48 != rowKey tag row i 0 / 48 } }
    (s.issueConvParity tag row g).trimRelocBufs.setFull tag

/-- A verified parity member of a conventional row. -/
def State.convParityVerified (s : State) (tag row g : Nat) : State :=
  match s.xl.sets.look tag with
  | none => s
  | some b =>
    let slot := paritySlot b.split b.fn g
    let s := (s.modMember true tag slot fun m => { m with verified := m.verified + 1 }).freeParity (setKey tag) g row
    ({ s with xl := { s.xl with sets := s.xl.sets.modify tag fun b => { b with parityRows := b.parityRows + 1 } } }).setFull tag

/-- The owner's part when its program has passed verify. -/
def State.programPassed (s : State) (o : DieOp) : State :=
  match o.owner with
  | .member k row i => (s.memberVerified k row i o.parts).fullEnded k
  | .parity k row g => s.parityVerified k row g
  | .conv tag row i => s.convVerified tag row i o.parts
  | .convParity tag row g => s.convParityVerified tag row g
  | .journal j => s.journalVerified j
  | .rebuild set key slot wl => s.copyProgrammed set key slot wl true
  | .move set key slot wl => s.copyProgrammed set key slot wl false
  | .checkpoint n u => s.ckptWritten n u
  | _ => s

/-- The owner's part when its program has failed (R156, R243, R244, R254). -/
def State.programFailed (s : State) (c d : Nat) (o : DieOp) : State :=
  match o.owner with
  | .member k _ i =>
    match s.zn.zones.look k with
    | some z => s.moveMember k (slotOfMember z.split z.fn i)
    | none => s
  | .parity k _ g =>
    match s.zn.zones.look k with
    | some z => s.moveMember k (paritySlot z.split z.fn g)
    | none => s
  | .conv tag row i => s.failRow tag row i (some (c, d, o.block))
  | .convParity tag row g => s.failConvParity tag row g (some (c, d, o.block))
  | .journal j =>
    let k := dieKey c d
    let j' := ((List.range 8).find? fun i => s.sysBlock k i == o.block).getD 2
    (s.replaceSys k j').rejournal j
  | .checkpoint n u => s.ckptFailed c d o.block n u
  | .rebuild set key slot _ | .move set key slot _ =>
    -- the new block fails too: another takes its place and the copy starts again (R176)
    match (s.stripeOf set key).bind fun st => st.members[slot]? with
    | none => s
    | some m =>
      let s := s.markRetired m.ch m.die m.block
      let (route, used) :=
        if set then match s.xl.sets.look key with | some b => (b.route, b.members.map (·.ch)) | none => (0, [])
        else match s.zn.zones.look key with | some z => (z.route, z.members.map (·.ch)) | none => (0, [])
      match s.replacement m.ch m.die route used with
      | (some (c', d', b'), s) =>
        let s := s.modBlock c' d' b' fun x => { x with owned := true }
        let s := s.modMember set key slot fun m => { m with ch := c', die := d', block := b', rebuilt := some 0 }
        match o.owner with
        | .move .. => s.startCopy set key slot 0 false
        | _ => s
      | (none, s) => if set then s else (s.zoneReadOnly key).xltEvt XLT_EVT_PINNED
  | _ => s

/-- Erase the blocks of a set, whose tag is freed once all have been erased (R239); a block that a reallocation condemned is
retired instead (R244). -/
def State.eraseSet (s : State) (tag : Nat) : State :=
  match s.xl.sets.look tag with
  | none => s
  | some b =>
    let s := match b.retire with
      | some (c, d, k) => (s.retireBlock c d k true).moveEnded (c, d, k)
      | none => s
    s.eraseMembers b.members 0 true (.eraseSet tag)

/-- A set's last erase has ended: its tag and place in the pool are free (R230, R239). -/
def State.setFreed (s : State) (tag : Nat) : State :=
  if s.setErasing tag then s
  else
    let cut (c : Ckpt) : Ckpt := { c with starts := c.starts.del tag }
    (({ s with xl := { s.xl with sets := s.xl.sets.del tag, wearSets := s.xl.wearSets.del tag,
                                 last := cut s.xl.last, older := s.xl.older.map cut,
                                 run := s.xl.run.map fun (r : CkptRun) => { r with starts := r.starts.del tag } } }).showPool).showReloc

/-- The slot (0, 1) or journal block of a dump die, if the block is one. -/
def State.sysIndex (s : State) (k b : Nat) : Option Nat := (List.range 8).find? fun i => (s.hu.dumpBlocks.lookD k [])[i]? == some b

/-- An erase has passed (R154): the block is ERASED; a dump slot is armed again (R255); waiting opens and writes are looked at
once more (R90).  A checked erase ends what a raw command left unpredictable (R448); a raw one updates no block state (R158). -/
def State.erasePassed (s : State) (c d : Nat) (o : DieOp) : State :=
  if o.owner = .raw then s.pump else
  let sys := s.sysIndex (dieKey c d) o.block
  let s := s.modBlock c d o.block fun b =>
    { b with st := .erased, npp := 0, pe := b.pe + 1, owned := sys.isSome, firstMs := 0 }
  let s := s.bind (.rawBlock c d o.block)
  let s := match o.owner with
    | .eraseSet tag => s.setFreed tag
    | .eraseDump _ =>
      match sys with
      | some 0 => (s.armSlot (dieKey c d) 0).refreshNh
      | some 1 => (s.armSlot (dieKey c d) 1).refreshNh
      | _ => s
    | _ => s
  s.pump

/-- An erase has failed (R156): the block is retired and replaced (R242, R254), unless the erase is a raw one (R158). -/
def State.eraseFailed (s : State) (c d : Nat) (o : DieOp) : State :=
  if o.owner = .raw then s else
  match s.sysIndex (dieKey c d) o.block with
  | some j => s.replaceSys (dieKey c d) j
  | none =>
    match o.owner with
    | .eraseSet tag => (s.retireBlock c d o.block true).setFreed tag
    | _ => s.retireBlock c d o.block false

/-- The dies of the channel that are neither absent nor spare. -/
def State.nonSpare (s : State) (c : Nat) : List Nat :=
  (List.range 32).filter fun d => let st := s.get FSQ_DIE_STATE c d; st != dieAbsent && st != dieSpare

/-- Spare blocks left on a channel's active dies (R242), after a die has left or entered service. -/
def State.recountSpares (s : State) (c : Nat) : State :=
  s.setSpares c ((s.activeDies c).foldl (fun n d => n + (64 - (s.die c d).sparesUsed)) 0)

/-- Members of zones and sets on a die: set or zone, key, slot, whether the stripe is active, its formation number. -/
def State.membersOn (s : State) (c d : Nat) : List (Bool × Nat × Nat × Bool × Nat) :=
  let of (set : Bool) (key : Nat) (l : List Member) (act : Bool) (fn : Nat) : List (Bool × Nat × Nat × Bool × Nat) :=
    (List.range l.length).filterMap fun i =>
      match l[i]? with
      | some m => if m.ch = c ∧ m.die = d then some (set, key, i, act, fn) else none
      | none => none
  (s.zn.zones.map fun e => of false e.1 e.2.members (e.2.state.active || (e.2.state == .full && e.2.ctx.isSome)) e.2.fn).flatten
    ++ (s.xl.sets.map fun e => of true e.1 e.2.members (!e.2.closed) e.2.fn).flatten

/-- The owner of a block: the zone member or the set it belongs to. -/
def State.ownerOf (s : State) (c d b : Nat) : Option (Bool × Nat × Nat) :=
  (s.membersOn c d).findSome? fun (set, key, slot, _, _) =>
    match (s.stripeOf set key).bind fun st => st.members[slot]? with
    | some m => if m.block = b then some (set, key, slot) else none
    | none => none

/-- Put a member on a block where it is rebuilt from its peers (R176, R177). -/
def State.rebuildAt (s : State) (set : Bool) (key slot c d b : Nat) : State :=
  let s := s.modBlock c d b fun x => { x with owned := true }
  s.modMember set key slot fun m =>
    { m with ch := c, die := d, block := b, issued := m.verified, rebuilt := if m.verified = 0 then none else some 0, old := none }

/-- Work of a rebuild in its order (R176): active stripes first, ascending formation number. -/
def rebuildOrder (l : List (Bool × Nat × Nat × Bool × Nat)) : List (Bool × Nat × Nat) :=
  (sortBy (fun e => (if e.2.2.2.1 then 0 else 2 ^ 40) + e.2.2.2.2) l).map fun e => (e.1, e.2.1, e.2.2.1)

/-- A spare takes a failed die's place (R176). -/
def State.spareReplaces (s : State) (c d sp : Nat) : State :=
  let l := s.membersOn c d
  let s := (s.set FSQ_DIE_STATE dieRebuilding c sp).set FSQ_STATUS_SPARES_LEFT (s.get FSQ_STATUS_SPARES_LEFT c - 1) c
  let s := s.each l fun (set, key, slot, _, _) s =>
    match (s.stripeOf set key).bind fun st => st.members[slot]? with
    | none => s
    | some m =>
      let same := s.block c sp m.block
      let b := if same.st = .retired ∨ same.owned then s.freeBlock c sp else some m.block
      match b with | some b => s.rebuildAt set key slot c sp b | none => s
  let r : Rebuild := { ch := c, die := d, target := sp, work := rebuildOrder l, total := l.length }
  -- the dump role goes over to the spare once its dump-area blocks are armed (R253)
  let mine := s.hu.dumpDies.lookD c []
  let s :=
    if mine.contains d then
      let k := dieKey c d
      let s := { s with hu := { s.hu with
        dumpDies := s.hu.dumpDies.put c (mine.map fun x => if x = d then sp else x),
        dumpBlocks := (s.hu.dumpBlocks.put (dieKey c sp) (s.hu.dumpBlocks.lookD k [])).del k,
        armed := (s.hu.armed.put (dieKey c sp) (false, false)).del k } }
      let bs := s.hu.dumpBlocks.lookD (dieKey c sp) []
      let s := (s.set FSQ_DIE_DUMP 0 c d).set FSQ_DIE_DUMP 1 c sp
      (s.each (bs.take 2) fun b s =>
        (s.modBlock c sp b fun x => { x with owned := true }).queueOp c sp
          { DieOp.base with kind := .erase, block := b, time := s.now, owner := .eraseDump 0 }).askCommit
    else s
  let s := { s with fl := { s.fl with rebuilds := s.fl.rebuilds ++ [r] } }
  (((s.fsqEvt FSQ_EVT_REBUILD_START c).recountSpares c).aenSpare).showRebuild.settleRebuild

/-- Without a spare each active zone's slot moves, or the zone goes Read Only; open block sets are closed for relocation
(R177). -/
def State.moveSlots (s : State) (c d : Nat) : State :=
  let l := s.membersOn c d
  let s := (s.fsqEvt FSQ_EVT_SPARE_OUT c).recountSpares c
  let s := s.each l fun (set, key, slot, act, _) s =>
    if !act then s
    else if set then
      match s.xl.sets.look key with
      | some b =>
        { s with xl := { s.xl with sets := s.xl.sets.put key { b with closed := true, unprotected := true },
                                   open_ := if s.xl.open_.look b.route = some key then s.xl.open_.del b.route else s.xl.open_ } }
      | none => s
    else
      match s.zn.zones.look key with
      | none => s
      | some z =>
        let used := z.members.map (·.ch)
        let ch := if s.chFailed c then ((s.usableChannels z.route).filter fun x => !used.contains x).head? else some c
        match ch.bind fun x => (s.memberDie x s.activeMembers).bind fun e => (s.freeBlock x e).map fun b => (x, e, b) with
        | some (x, e, b) => s.rebuildAt false key slot x e b
        | none => s.zoneReadOnly key
  let r : Rebuild :=
    { ch := c, die := d, target := d,
      work := rebuildOrder (l.filter fun e => e.2.2.2.1 && !e.1), total := (l.filter fun e => e.2.2.2.1 && !e.1).length }
  if r.work.isEmpty then s
  else ({ s with fl := { s.fl with rebuilds := s.fl.rebuilds ++ [r] } }.fsqEvt FSQ_EVT_REBUILD_START c).showRebuild.settleRebuild

/-- The program of a copied wordline. -/
def DieOp.isMove (o : DieOp) : Bool := match o.owner with | .move .. => true | _ => false

/-- Give the operations of a die back to their owners (R175). -/
def State.returnOps (s : State) (l : List DieOp) : State :=
  s.each l fun o s =>
    match o.owner with
    | .member k _ i =>
      match s.zn.zones.look k with
      | some z => s.modMember false k (slotOfMember z.split z.fn i) fun m => { m with issued := m.verified }
      | none => s
    | .parity k _ g =>
      match s.zn.zones.look k with
      | some z => s.modMember false k (paritySlot z.split z.fn g) fun m => { m with issued := m.verified }
      | none => s
    | .conv tag row i => s.failRow tag row i none
    | .convParity tag row g => s.failConvParity tag row g none
    | .journal j => s.rejournal j
    | .move set key slot wl => s.startCopy set key slot wl false
    | _ => s

/-- Start the Sample Out of the die of a channel whose samples wait with the earliest ordering deadline (R165). -/
def State.nextSampleOut (s : State) (c : Nat) : State :=
  if s.sd.readouts.has c then s
  else
    match leastBy (fun (e : Nat × DieOp) => e.2.readKey) ((List.range 32).filterMap fun d => (s.die c d).samples.map fun o => (d, o)) with
    | some (d, o) => s.startReadout c d o (s.dualNow c o)
    | none => s

/-- The bursts a readout has not framed are read again from a new Sample Read, in dual-mark framing, because the die's registers are no longer
valid (R193); the read belongs to the same step and tokens. -/
def State.resample (s : State) (c : Nat) (r : Readout) : State :=
  let left := (List.range 9).filter fun b => !r.cells.has b
  let o := { r.op with dual := true }
  let r := { r with unframed := left, op := o }
  let s := { s with sd := { s.sd with readouts := s.sd.readouts.del c, again := s.sd.again.put (dieKey c r.die) r } }
  let s := s.modDie c r.die fun di => ({ di with samples := none } : Die).enqueue o
  s.each o.cws fun i s => s.modCw' i fun x => { x with stage := .queued }

/-- Samples that no Sample Out has read yet are sensed again. -/
def State.requeueSamples (s : State) (c d : Nat) : State :=
  match (s.die c d).samples with
  | some o =>
    let s := s.modDie c d fun di => ({ di with samples := none } : Die).enqueue o
    s.each o.cws fun i s => s.modCw' i fun x => { x with stage := .queued }
  | none => s

/-- A die's sample registers are no longer valid (R186): what was to be read out of them is sensed again. -/
def State.loseSamples (s : State) (c d : Nat) : State :=
  match s.sd.readouts.look c with
  | some r =>
    if r.die = d then
      let (r, s) := s.detectTodo c r
      (s.resample c r).nextSampleOut c
    else s.requeueSamples c d
  | none => s.requeueSamples c d

-- a dump under way

/-- All units of a dump are verified. -/
def Dump.unitsDone (d : Dump) : Bool := d.busy.isEmpty && d.queue.all fun e => e.2.isEmpty

/-- Dies that write a directory: those that hold units, and have not failed. -/
def Dump.dirDies (d : Dump) : List Nat := d.used.filter fun k => !d.failed.contains k && !(d.written.lookD k []).isEmpty

/-- Start the directories once every unit is verified (Table 09.3 step 6). -/
def Dump.startDirs (d : Dump) : Dump :=
  if d.unitsDone ∧ d.dirBusy.isEmpty ∧ d.dirs.isEmpty then { d with dirBusy := d.dirDies } else d

/-- Change the dump under way. -/
def State.modDump (s : State) (f : Dump → Dump) : State := { s with hu := { s.hu with dump := s.hu.dump.map f } }

/-- Metadata units of a dump, the lists of conventional pairs and the held records apart (chapters 09, 11 and 14, examples). -/
def metaUnits : Nat := 13

/-- Metadata units with the lists of conventional pairs (R257). -/
def DumpImage.lists (i : DumpImage) : Nat := metaUnits + (((i.pairs ++ i.missing).filter (·.conv)).length + 255) / 256

/-- The number of heads before the pairs of a dump. -/
def DumpImage.heads (i : DumpImage) : Nat := i.lists + (i.recs.length + 4095) / 4096

/-- The 16 codewords of user data of a unit: a pair's LBAs by their place in it; of a metadata unit, whose form the manual leaves open, free. -/
def Dump.unitData (d : Dump) (u : Nat) : List Nat :=
  (List.range 16).map fun i =>
    if u < d.image.heads then Config.dumpMeta d.record.dseq u i % 2 ^ 32768
    else match d.image.pairs[u - d.image.heads]? with
      | some p => match p.data.find? fun e => e.1 % 16 == i with | some e => e.2 % 2 ^ 32768 | none => 0
      | none => 0

/-- The directory entry of a unit (Table 09.1); what the manual does not say of a metadata unit is 0 but for its number and its CRC. -/
def Dump.entry (d : Dump) (u : Nat) : List Nat :=
  let crc := le 4 (crc32 ((d.unitData u).map (le 4096)).flatten)
  let h := d.image.heads
  match if u < h then none else d.image.pairs[u - h]? with
  | some p =>
    let nth := ((d.image.pairs.take (u - h)).filter (·.conv)).length
    let ref := if p.conv then nth else match p.data with | e :: _ => e.1 | [] => 0
    [if p.conv then 2 else 1, bNat p.single] ++ le 2 p.nsid ++ le 4 u ++ le 8 ref ++ le 2 p.data.length ++ [p.slice % 256, 0] ++ le 8 p.seq ++ crc
  | none => [if d.image.lists ≤ u then 3 else 0, 0, 0, 0] ++ le 4 u ++ le 8 u ++ zeros 12 ++ crc

/-- The directory wordline of a die (R256): the entries of its units. -/
def Dump.directory (d : Dump) (k : Nat) : List Nat :=
  let b := ((d.written.lookD k []).map d.entry).flatten
  (List.range 16).map fun i => unle (padTo (b.drop (4096 * i)) 4096)

/-- A wordline of a dump die's slot is programmed: the codewords of its user data, LDPC-encoded like all data (R257). -/
def State.programDump (s : State) (d : Dump) (k wl : Nat) (data : List Nat) : State :=
  let b := s.sysBlock k d.record.slot
  s.put (.program (k / 32) (k % 32) b wl ((List.range 16).map fun q => encodeWord (data.getD q 0) (scramblerSeed b wl (q / 4) 0 (q % 4))))

/-- The dump goes on: the units and directories that dies begin to program go out (R256, R260). -/
def State.stepDump (s : State) (f : Dump → Dump) : State :=
  match s.hu.dump with
  | none => s
  | some d =>
    let d' := f d
    let s := { s with hu := { s.hu with dump := some d' } }
    let s := s.each (d'.busy.filter fun e => d.busy.look e.1 != some e.2) fun e s =>
      s.programDump d' e.1 (s.block (e.1 / 32) (e.1 % 32) (s.sysBlock e.1 d'.record.slot)).npp (d'.unitData e.2)
    s.each (d'.dirBusy.filter fun k => !d.dirBusy.contains k) fun k s => s.programDump d' k 1009 (d'.directory k)

/-- Share units out among some dies, in turn. -/
def shareUnits (dies : List Nat) (units : List Nat) (q : NMap (List Nat)) : NMap (List Nat) :=
  (List.range units.length).foldl (fun m i =>
    match dies[i % max 1 dies.length]? with
    | some k => m.put k (m.lookD k [] ++ [units.getD i 0])
    | none => m) q

/-- A dump die fails during the dump (R261): its remaining units, then those it had written, go to the other dies. -/
def Dump.dieFails (d : Dump) (k : Nat) : Dump :=
  let failed := insSorted k d.failed
  let others := d.used.filter fun x => !failed.contains x
  let left := (match d.busy.look k with | some u => [u] | none => []) ++ d.queue.lookD k [] ++ (d.written.lookD k [])
  { d with failed := failed, busy := d.busy.del k, queue := shareUnits others left (d.queue.del k), written := d.written.del k,
           dirBusy := [], dirs := [] }

/-- A die that fails leaves the dump under way (R261). -/
def State.dumpDieFails (s : State) (k : Nat) : State :=
  s.stepDump fun x => if x.committedAt.isNone ∧ x.used.contains k ∧ !x.failed.contains k then (x.dieFails k).startDirs else x

/-- A die fails (R174 to R178, R261). -/
def State.failDie (s : State) (c d : Nat) : State :=
  let st := s.get FSQ_DIE_STATE c d
  if st = dieFailed ∨ st = dieAbsent then s
  else
    let di := s.die c d
    let ops := di.queued ++ (match di.run with | some r => [r.op] | none => [])
    let s := s.modDie c d fun di =>
      { di with reads := [], progs := [], erases := [], ints := [], held := [], run := none, winRead := none, samples := none }
    let s := match s.sd.readouts.look c with
      | some r => if r.die = d then ({ s with sd := { s.sd with readouts := s.sd.readouts.del c } }).nextSampleOut c else s
      | none => s
    let s := { s with sd := { s.sd with again := s.sd.again.del (dieKey c d) } }
    let s := ((s.dumpDieFails (dieKey c d)).set FSQ_DIE_STATE dieFailed c d).fsqEvt FSQ_EVT_DIE_FAIL c
    let s := s.returnOps (ops.filter fun o => o.kind == .program && !o.isMove)
    -- partial parity held only in an accumulator is spilled so that rebuild can use it (R105)
    let zs := (s.membersOn c d).filterMap fun e => if e.1 then none else some e.2.1
    let s := s.each zs fun k s => s.spillZone k
    let dead := (s.nonSpare c).all fun e => s.get FSQ_DIE_STATE c e == dieFailed
    let s := if dead then (s.set FSQ_STATUS_STATE 2 c).fsqEvt FSQ_EVT_CH_FAIL c else s
    let spare := if s.chFailed c then none else (List.range 32).find? fun e => s.get FSQ_DIE_STATE c e == dieSpare
    let left := (List.range 32).filter fun e => s.get FSQ_DIE_STATE c e == dieSpare
    let s :=
      if st = dieSpare then s.set FSQ_STATUS_SPARES_LEFT left.length c
      else match spare with
        | some sp => s.spareReplaces c d sp
        | none => s.moveSlots c d
    let s := s.each zs.eraseDups fun k s => s.offlineCheck k
    -- reads on the die are served by reconstruction (R171, R175)
    let s := s.each (s.cd.cws.filter fun e => e.2.ch == c && e.2.die == d && e.2.stage != .peersOnly && e.2.stage != .decoding)
      fun e s =>
        match e.2.owner with
        | .peer x _ => (s.dropCw e.1).reconFailed x
        | _ => s.degraded e.1
    (s.showDie c d).refreshNh

/-- A channel fails (R147, R174). -/
def State.failChannel (s : State) (c : Nat) : State :=
  if s.chFailed c then s
  else
    let s := (s.set FSQ_STATUS_STATE 2 c).fsqEvt FSQ_EVT_CH_FAIL c
    s.each ((List.range 32).filter fun d => s.inService c d || s.get FSQ_DIE_STATE c d == dieSpare) fun d s => s.failDie c d

/-- A die with as many blocks retired within 24 operating hours as DIE_FAIL_BLK fails (R174). -/
def State.checkRetired (s : State) (c d : Nat) : State :=
  let lim := s.get DSC_CFG_DIE_FAIL_BLK
  let n := ((s.die c d).retiredAt.filter fun h => s.opHours < h + 24).length
  if 0 < lim ∧ lim ≤ n then s.failDie c d else s

/-- The dies with blocks retired of late are looked at (R174). -/
def State.checkDies (s : State) : State :=
  s.each ((s.fl.dies.filter fun e => !e.2.retiredAt.isEmpty).map (·.1)) fun k s => s.checkRetired (k / 32) (k % 32)

/-- The FSQ's bus of a channel is free for transfers: no retraining slot and no full retraining runs on it (R165, R179). -/
def State.busFree (s : State) (c : Nat) : Bool :=
  (match s.fl.slotRun with | some r => r.ch != c | none => true)
    && !(match s.fl.chans.look c with | some x => x.fullRunning | none => false)

/-- The highest rate code a channel may train at (Table 06.9). -/
def State.topRate (s : State) (c : Nat) : Nat := min 4 (s.get FSQ_TIMING_RATE_MAX c)

/-- Full retraining becomes pending (R181, R200). -/
def State.pendFull (s : State) (c : Nat) : State := (s.set FSQ_STATUS_STATE 3 c).fsqEvt FSQ_EVT_FULL_TRAIN c

/-- A read queued on a channel has less than SLACK to its deadline (R180). -/
def State.slackShort (s : State) (c : Nat) : Bool :=
  (List.range 32).any fun d => ((s.die c d).reads ++ (s.die c d).held.filter (·.isRead)).any fun o =>
    decide (o.time < s.now + 10000 * s.get DSC_TRAIN_CFG_SLACK)

/-- The last slot ended at least 100 µs ago (R179). -/
def State.slotGap (s : State) : Bool := s.fl.slotEnd == 0 || decide (s.fl.slotEnd + 100000 ≤ s.now)

/-- The die a slot trains (R179): the ladder's, or the channel's next die in turn. -/
def State.slotDie (s : State) (r : SlotReq) : Nat :=
  match r.die with
  | some d => d
  | none =>
    let last := (s.chan r.ch).lastDie
    ((((List.range 32).map fun k => (last + 1 + k) % 32).find? fun d => s.inService r.ch d)).getD 0

/-- Start a slot (R179). -/
def State.startSlot (s : State) (r : SlotReq) : State :=
  let d := s.slotDie r
  let rest := s.fl.slots.erase r
  let s := { s with fl := { s.fl with slots := rest, slotRun := some { r with die := some d, since := s.now } } }
  let s := (s.modChan r.ch fun x => { x with lastDie := d }).ticketRun r.ticket
  ((s.bumpFsq FSQ_RETRAIN_CNT r.ch).set DSC_STATUS_SLOT_CH r.ch).set FSQ_DIE_OP 6 r.ch d

/-- Full retraining starts on a channel, at no more than its highest rate (R181). -/
def State.startFull (s : State) (c : Nat) (t : Option Nat) : State :=
  let s := s.set FSQ_STATUS_RATE (min (s.get FSQ_STATUS_RATE c) (s.topRate c)) c
  (s.modChan c fun x => { x with fullRunning := true, fullSince := s.now }).ticketRun t

/-- A channel has had no queued operation for 2 ms, and none runs (R181). -/
def State.chIdle (s : State) (c : Nat) : Bool :=
  decide ((s.chan c).queuedAt + 2000000 ≤ s.now) && (List.range 32).all fun d => (s.die c d).queued.isEmpty && (s.die c d).run.isNone && (s.die c d).samples.isNone

/-- The LBAs a program writes, by position in its wordline: from the cache, a row, a partial parity, or a copy; none for the formats of other
units. -/
def State.opData (s : State) (o : DieOp) : Option (NMap Nat) :=
  match o.owner with
  | .member k row i => (s.zn.zones.look k).map fun z => s.wordlineData z (row * z.d + i)
  | .parity k row g => (s.parityOf k g row).map (·.data)
  | .filler .. => some []
  | .conv tag row i => some ((List.range 48).foldl (fun m q => match s.xl.rowData.look (rowKey tag row i q) with | some v => m.put q v | none => m) [])
  | .convParity tag row g => (s.parityOf (setKey tag) g row).map (·.data)
  | .rebuild .. => some o.data
  | .move .. => some o.data
  | .journal j => (s.wc.journal.find? fun r => r.jseq == j).map fun r =>
    (0, Config.journalHeader j) :: (List.range r.lbas.length).map fun i => (i + 1, r.data.lookD (r.lbas.getD i 0) 0)
  | .checkpoint _ u => (s.xl.run.bind fun r => r.segs.find? fun e => e.2.unit == u).map fun e =>
    (List.range 16).map fun q => (q, unle ((List.range 1024).map fun i => le 4 (e.2.words.lookD (1024 * q + i) 0xFFFFFFFF)).flatten)
  | _ => none

/-- The codewords of a program as the channel's encoder gives them (R92, R213). -/
def State.encodeOp (s : State) (o : DieOp) : Option (List Nat) :=
  (s.opData o).map fun m => (List.range (16 * o.media.bitsPer)).map fun q =>
    encodeWord (m.lookD q 0) (scramblerSeed o.block o.wl (q / 4 % 4) (q / 16) (q % 4))

/-- Show the decoder instances (Table 07.14). -/
def State.showLdc (s : State) : State :=
  let n (st : Nat) : Nat := ((List.range 68).filter fun k => s.get LDC_INST_STATE k == st).length
  (s.set LDC_STATUS_ACTIVE (n 0)).set LDC_STATUS_SPARES (n 1)

/-- An active instance is fenced and a spare takes its place, or the active count falls below 64 (R215, R218). -/
def State.fenceInst (s : State) (k cause : Nat) : State :=
  let wasActive := decide (s.get LDC_INST_STATE k = 0)
  let s := ((s.set LDC_INST_STATE 3 k).set LDC_INST_CAUSE cause k).raise 72
  let s := { s with cd := { s.cd with activeOrder := s.cd.activeOrder.filter (· != k) } }
  let s :=
    if wasActive then
      match (List.range 68).find? fun j => s.get LDC_INST_STATE j == 1 with
      | some j =>
        { s with cd := { s.cd with activeOrder := s.cd.activeOrder ++ [j] } }.set LDC_INST_STATE 0 j
      | none => s
    else s
  let s := s.showLdc
  if s.get LDC_STATUS_ACTIVE + s.get LDC_STATUS_SPARES + (if s.cd.selfTest.isSome then 1 else 0) < 64 then s.raise 73 else s

/-- Start the self-test of a spare instance (R217), or note that it waits for one. -/
def State.selfTest (s : State) (ticket : Option Nat) : State :=
  if s.cd.selfTest.isSome then
    ({ s with cd := { s.cd with testsWaiting := s.cd.testsWaiting ++ [ticket] } }).set LDC_STATUS_ST_PEND 1
  else
    match (List.range 68).find? fun k => s.get LDC_INST_STATE k == 1 with
    | some k =>
      let s := ({ s with cd := { s.cd with selfTest := some (k, ticket) } }.set LDC_INST_STATE 2 k).set LDC_STATUS_ST_BUSY 1
      ((s.bump blkLDC LDC_ST_RUNS 0 1 ownLDC).ticketRun ticket).showLdc
    | none => ({ s with cd := { s.cd with testsWaiting := s.cd.testsWaiting ++ [ticket] } }).set LDC_STATUS_ST_PEND 1

/-- A self-test that waits starts once a spare exists; none in DETOUR (R217). -/
def State.waitingTest (s : State) : State :=
  match s.cd.testsWaiting with
  | w :: rest =>
    if s.mode != .detour && s.cd.selfTest.isNone && (List.range 68).any fun j => s.get LDC_INST_STATE j == 1 then
      (({ s with cd := { s.cd with testsWaiting := rest } }).setB LDC_STATUS_ST_PEND (!rest.isEmpty)).selfTest w
    else s
  | [] => s

/-- A die with a valid descriptor (R183). -/
def State.described (s : State) (c d : Nat) : Bool := s.sd.desc.has (dieKey c d)

/-- The dies of a channel that are sample-off after a training sequence (R183, R197): those present without a valid descriptor, and those that
do not pass. -/
def State.offAfter (s : State) (c : Nat) (l : List DieTraining) : List Nat :=
  (List.range 32).filter fun d => s.get FSQ_DIE_STATE c d != dieAbsent
    && !(s.described c d && l.any fun t => t.die == d && trainingPasses t)

/-- Ladders that wait to sample a die go on without it (R201). -/
def State.leaveSampling (s : State) (c d : Nat) : State :=
  s.each ((s.cd.cws.filter fun e => e.2.ch == c && e.2.die == d && 1 ≤ e.2.step && (e.2.stage == .queued || e.2.stage == .slot)).map (·.1))
    fun id s =>
      let s := { s with fl := { s.fl with slots := s.fl.slots.filter fun r => r.cw != some id } }
      (s.modDie c d fun di => (di.dropCw id).admitHeld).stepFailed id

/-- What the training sequence on a channel leaves (R147, R183, R197, R199, R201): sample-off dies, framing. -/
def State.trained (s : State) (c : Nat) (l : List DieTraining) : State :=
  let was := s.get SDF_SAMPLE_OFF c
  let off := s.offAfter c l
  let s := s.set SDF_SAMPLE_OFF (off.foldl setBit 0) c
  let s := s.each (List.range 32) fun d s =>
    if s.get FSQ_DIE_STATE c d = dieAbsent then s else s.modDie c d fun di => { di with res := 4, dual := off.contains d }
  let s := s.showDual c
  let s := { s with fl := { s.fl with partB := s.fl.partB.keep fun a _ => (a - 0x01600000) / 0x2000 != c } }
  s.each (off.filter fun d => !bit was d) fun d s => ((s.sdfEvt SDF_EVT_SAMPLE_OFF c).raise 76).leaveSampling c d

end Sys2Proof.Machine
end

