-- ==== Sys2Proof/Machine/OpsXlate.lean ====
section
/-!
DEFINITION. Checkpoints, the map restart and the rebuild of lost map segments, relocation and accepted reallocations
(R233 to R241, R244); the waypoint table commands (R111 to R113); the rebuild of partial parity (R105).
Assumption log: DEDUCED (25, 36, 91).
-/

namespace Sys2Proof.Machine

/-- The merged copies of some checkpoints, newest first: the newest copy of each segment (R233). -/
def segsOf (l : List Ckpt) : NMap SegCopy := l.foldr (fun c m => c.segs.foldl (fun m e => m.put e.1 e.2) m) []

/-- Footer entries a restart replays (R235): those of rows programmed after their set's start position, ascending SEQ; a footer whose CRC is wrong
gives none (R236). -/
def State.replayed (s : State) (bad : List (Nat × Nat × Nat)) : List (Nat × FootKey) :=
  let l := (s.xl.sets.map fun e =>
    (e.2.keys.filter fun k =>
      let p := setPlace e.2.split e.2.fn k.slot
      decide (s.xl.last.starts.lookD e.1 0 ≤ p.row) && !bad.contains (e.1, p.row, p.i)
        && (match e.2.members[p.slot]? with | some m => decide (p.row < m.verified) | none => false)).map fun k => (e.1, k)).flatten
  sortBy (fun e => e.2.seq) l

/-- One footer entry under the rule of R236; Sseg is the copy sequence of the LBA's segment. -/
def State.replayEntry (s : State) (segs : NMap SegCopy) (tag : Nat) (k : FootKey) : State :=
  let sseg : Nat := ((s.segOf k.nsid k.lba).bind fun g => (segs.look g).map (·.sseg)).getD 0
  let apply : Bool :=
    match s.mapGet k.nsid k.lba with
    | some (.pending q) => decide ((k.seq + 2 ^ 26 - q % 2 ^ 26) % 2 ^ 26 < 2 ^ 25)
    | _ => decide (sseg < k.seq)
  if apply ∧ s.isConv k.nsid then s.mapPut k.nsid k.lba (some (.flash tag k.slot)) else s

/-- The entries of some segments as the copies give them (Table 08.3 step 2). -/
def State.loadSegs (s : State) (segs : NMap SegCopy) : State :=
  s.each segs fun e s =>
    match s.segOwner e.1 with
    | none => s
    | some (nsid, lba) =>
      let old := s.xl.map.lookD nsid []
      let m := e.2.words.foldl (fun m w => match mapEntryOf w.2 with | some x => m.put (lba + w.1) x | none => m) old
      { s with xl := { s.xl with map := s.xl.map.put nsid m } }

/-- Restored data and records are applied unconditionally (R235 step 4, R236). -/
def State.applyRestored (s : State) : State :=
  let ps := sortBy (fun (e : Nat × Pair) => e.2.seq) (s.wc.pairs.filter fun e => e.2.conv && e.2.committed)
  let s := s.each ps fun e s => s.each (List.range e.2.data.length) fun i s =>
    match e.2.data[i]? with
    | some (l, _) => if e.2.lost.contains l then s.mapPut e.2.nsid l (some .lost) else s.mapPut e.2.nsid l (some (.cache e.1 i))
    | none => s
  s.each s.xl.recs fun r s => s.each (List.range r.len) fun i s =>
    s.mapPut r.nsid (r.lba + i) (if r.lost then some .lost else none)

/-- Scan of the map (R235 step 5): each Pending entry becomes Lost, is counted, and sets the LOST event (R237). -/
def State.losePending (s : State) : State :=
  s.each s.xl.map fun e s => s.each e.2 fun x s =>
    match x.2 with
    | .pending _ => ((s.mapPut e.1 x.1 (some .lost)).bumpXlt XLT_LOST_LBA_CNT).xltEvt XLT_EVT_LOST
    | _ => s

/-- Valid counts from the map. -/
def State.recountValid (s : State) : State :=
  let count (tag : Nat) : Nat :=
    (s.xl.map.map fun e => (e.2.filter fun x => match x.2 with | .flash t _ => t == tag | _ => false).length).foldl (· + ·) 0
  { s with xl := { s.xl with sets := s.xl.sets.mapVals fun t b => { b with valid := count t } } }

/-- A row whose members stand without their parity leaves its set unprotected, and relocation takes it first (R237). -/
def BlockSet.unparitied (b : BlockSet) : Bool :=
  (if b.split then [0, 1] else [0]).any fun g =>
    let done := (groupSlots b.split (8 * g)).foldl (fun n j => match b.members[j]? with | some m => max n m.verified | none => n) 0
    match b.members[paritySlot b.split b.fn g]? with | some m => decide (m.verified < done) | none => false

/-- Sets found with such a row after a power-off are closed. -/
def State.flagUnparitied (s : State) : State :=
  let bad := (s.xl.sets.filter fun e => e.2.unparitied).map (·.1)
  { s with xl := { s.xl with sets := s.xl.sets.mapVals fun t b => if bad.contains t then { b with closed := true, unprotected := true } else b,
                             open_ := s.xl.open_.keep fun _ t => !bad.contains t } }

/-- The newest checkpoint whose commit record reads with a correct CRC, and those before it (Table 08.3 step 1). -/
def State.chooseCkpt (s : State) (bad : List Nat) : List Ckpt :=
  (s.xl.last :: s.xl.older).dropWhile fun c => bad.contains c.num

/-- The map restart (Table 08.3): the newest good checkpoint, footers, restored data, scan.  `badRecords` are checkpoints whose commit record,
`badFooters` set tag, row and data member of the wordlines whose footer, has no correct CRC. -/
def State.restartMap (s : State) (badRecords : List Nat) (badFooters : List (Nat × Nat × Nat)) : State :=
  let l := s.chooseCkpt badRecords
  let none_ : Ckpt := { num := 0, s0 := 0, full := true, segs := [], starts := [], wearZones := [], wearSets := [] }
  let s := { s with xl := { s.xl with last := l.headD none_, older := l.drop 1, map := [] } }
  let segs := segsOf l
  let s := (s.loadSegs segs).flagUnparitied
  let s := s.each (s.replayed badFooters) fun e s => s.replayEntry segs e.1 e.2
  s.applyRestored.losePending.recountValid

/-- Segments are lost with a DRAM channel or by an uncorrectable read (R238, R330): their entries are gone, and commands that touch them wait
for the rebuild. -/
def State.loseSegs (s : State) (l : List Nat) : State :=
  if l.isEmpty then s
  else
    let s := { s with xl := { s.xl with lostSegs := l.foldl (fun m k => insSorted k m) s.xl.lostSegs } }
    { s with xl := { s.xl with map := s.xl.map.mapVals fun n m => m.keep fun lba _ => !s.segLost n lba } }.set XLT_STATUS_REBUILD 1

/-- A checkpoint that would have to copy a lost segment is abandoned, and starts again when the map stands.  DEDUCED (log 91). -/
def State.beginMapRebuild (s : State) (l : List Nat) : State := if l.isEmpty then s else (s.abandonCheckpoint).loseSegs l

/-- The rebuild of the lost segments (R238): steps 2, 3 and 5 of Table 08.3 for them, then every dirty LBA the write cache holds as Cache, then
the surviving records.  A Pending entry whose data the cache holds is not lost. -/
def State.rebuildSegs (s : State) : State :=
  let lost := s.xl.lostSegs
  let segs := (segsOf (s.xl.last :: s.xl.older)).keep fun k _ => lost.contains k
  let s := s.loadSegs segs
  let s := s.each ((s.replayed []).filter fun e => s.segLost e.2.nsid e.2.lba) fun e s => s.replayEntry segs e.1 e.2
  let mine (nsid lba : Nat) : Bool := s.segLost nsid lba
  let ps := sortBy (fun (e : Nat × Pair) => e.2.seq) (s.wc.pairs.filter fun e => e.2.conv && e.2.committed)
  let s := s.each ps fun e s => s.each (List.range e.2.data.length) fun i s =>
    match e.2.data[i]? with
    | some (l, _) =>
      if !mine e.2.nsid l || e.2.done.contains l then s
      else s.mapPut e.2.nsid l (some (if e.2.lost.contains l then .lost else .cache e.1 i))
    | none => s
  let s := s.each s.xl.recs fun r s => s.each (List.range r.len) fun i s =>
    if mine r.nsid (r.lba + i) then s.mapPut r.nsid (r.lba + i) (if r.lost then some .lost else none) else s
  { s.losePending.recountValid with xl := { s.losePending.recountValid.xl with lostSegs := [] } }

/-- The live slots of a set, ascending. -/
def State.liveSlots (s : State) (tag : Nat) : List FootKey :=
  match s.xl.sets.look tag with
  | some b => b.keys.filter fun k => s.mapGet k.nsid k.lba == some (.flash tag k.slot)
  | none => []

/-- Relocation runs: sets wait to be relocated (R239, R241), and flash may be written (R240). -/
def State.mayRelocate (s : State) : Bool :=
  s.inModes [.run, .service] && !s.flag THM_STATUS_WR_FORBID && s.xl.lostSegs.isEmpty
    && (s.relocWanted || !s.xl.victims.isEmpty || s.xl.sets.any fun e => e.2.unprotected)

/-- Relocate a member wordline's worth of a victim's live slots, or erase the victim when it holds none (R239). -/
def State.relocate (s : State) : State :=
  match s.victim with
  | none => s
  | some tag =>
    match s.xl.sets.look tag with
    | none => { s with xl := { s.xl with victims := s.xl.victims.filter (· != tag) } }
    | some b =>
      if b.valid = 0 then
        if s.setErasing tag then s
        else ({ s with xl := { s.xl with victims := s.xl.victims.filter (· != tag),
                                         open_ := s.xl.open_.keep fun _ t => t != tag } }).eraseSet tag
      else
        -- XLT buffers hold what is read: 16 LBAs each (Table 05.1)
        let ks := ((s.liveSlots tag).filter fun k => !s.inReloc tag k.slot).take 47
        let (bufs, s) := State.takeXlt ((ks.length + 15) / 16) s.trimRelocBufs
        let ks := ks.take (16 * bufs.length)
        let s := { s with xl := { s.xl with relocBufs := (List.range ks.length).foldl (fun m i =>
          match ks[i]? with | some k => m.put (tag * 2 ^ 20 + k.slot) (bufs.getD (i / 16) 0) | none => m) s.xl.relocBufs } }
        let (ids, s) := ks.foldl (fun (acc : List Nat × State) k =>
          let p := setPlace b.split b.fn k.slot
          match b.members[p.slot]? with
          | none => acc
          | some m =>
            let y : Cw := { Cw.base with owner := .reloc tag k.slot, dl := s.now + 10000000, media := .tlc,
                                         stripe := some (true, tag), slot := p.slot,
                                         stage := if (s.memberAt m p.row).isSome then .queued else .peersOnly }
            let (id, s) := acc.2.addCw (y.at' ((m.place p.row).getD (m.ch, m.die, m.block)) p.row p.q)
            (acc.1 ++ [id], s)) ([], s)
        s.beginReads ids

/-- A set is to be relocated whatever its valid count: no more is written to it. -/
def State.condemn (s : State) (tag : Nat) (f : BlockSet → BlockSet) : State :=
  { s with xl := { s.xl with victims := addOnce tag s.xl.victims, sets := s.xl.sets.modify tag fun b => { f b with closed := true },
                             open_ := s.xl.open_.keep fun _ t => t != tag } }

/-- Accept a reallocation request (R244); one for a member that is being copied already stays. -/
def State.acceptRealloc (s : State) (p : Nat × Nat × Nat) : State :=
  let t := s
  let s := { s with cd := { s.cd with realloc := s.cd.realloc.filter (· != p) } }
  match s.ownerOf p.1 p.2.1 p.2.2 with
  | none => s
  | some (false, key, slot) =>
    if ((s.zn.zones.look key).bind fun z => z.members[slot]?.bind (·.rebuilt)).isSome then t
    else ({ s with cd := { s.cd with moving := s.cd.moving ++ [p] } }).moveMember key slot
  | some (true, tag, _) =>
    { s with cd := { s.cd with moving := s.cd.moving ++ [p] } }.condemn tag fun b => { b with retire := some p }

/-- Relocate the n sets with the oldest first program (R241). -/
def State.relocOldest (s : State) (n : Nat) : State :=
  s.each ((sortBy (fun (e : Nat × BlockSet) => e.2.firstProg) s.xl.sets).take n) fun e s => s.condemn e.1 id

-- waypoint table

/-- BUSY (R113). -/
def State.wptBusy (s : State) : Bool := s.wpt.busy.isSome || decide (s.now < s.wpt.busyUntil)

/-- Reject a waypoint command (R112). -/
def State.wptReject (s : State) : State := (s.set WPT_STATUS_REJ 1).raise 282

/-- A key or mask in the staging layout. -/
def State.stageWord (s : State) (mask : Bool) : Nat :=
  let f (k m : Field) : Nat := s.get (if mask then m else k)
  waypointKey (f WPT_STAGE_KEY_LO WPT_STAGE_MASK_LO + f WPT_STAGE_KEY_HI WPT_STAGE_MASK_HI * 2 ^ 32)
    (f WPT_STAGE_KEY_2_OPC WPT_STAGE_MASK_2_OPC) (f WPT_STAGE_KEY_2_HINT WPT_STAGE_MASK_2_HINT)
    (f WPT_STAGE_KEY_2_NS WPT_STAGE_MASK_2_NS) (f WPT_STAGE_KEY_3_SLICE WPT_STAGE_MASK_3_SLICE)

/-- Put a key or mask in the staging registers. -/
def State.setStage (s : State) (mask : Bool) (v : Nat) : State :=
  let p (s : State) (k m : Field) (x : Nat) : State := s.set (if mask then m else k) x
  let s := p s WPT_STAGE_KEY_LO WPT_STAGE_MASK_LO (bits v 31 0)
  let s := p s WPT_STAGE_KEY_HI WPT_STAGE_MASK_HI (bits v 63 32)
  let s := p s WPT_STAGE_KEY_2_OPC WPT_STAGE_MASK_2_OPC (bits v 67 64)
  let s := p s WPT_STAGE_KEY_2_HINT WPT_STAGE_MASK_2_HINT (bits v 83 68)
  let s := p s WPT_STAGE_KEY_2_NS WPT_STAGE_MASK_2_NS (bits v 93 84)
  p s WPT_STAGE_KEY_3_SLICE WPT_STAGE_MASK_3_SLICE (bits v 101 94)

/-- The staged entry. -/
def State.stagedEntry (s : State) : WptEntry :=
  { key := s.stageWord false, mask := s.stageWord true,
    res := s.get WPT_STAGE_RES_ROUTE + s.get WPT_STAGE_RES_ROW_FLUSH * 2 ^ 6 + s.get WPT_STAGE_RES_REFUSE * 2 ^ 7,
    valid := s.flag WPT_STAGE_RES_V }

/-- An entry never written. -/
def WptEntry.none : WptEntry := { key := 0, mask := 0, res := 0, valid := false }

/-- A READ (R112). -/
def State.wptStage (s : State) (e : WptEntry) : State :=
  let s := (s.setStage false e.key).setStage true e.mask
  let s := ((s.set WPT_STAGE_RES_ROUTE (e.res % 64)).setB WPT_STAGE_RES_ROW_FLUSH (bit e.res 6)).setB WPT_STAGE_RES_REFUSE (bit e.res 7)
  s.setB WPT_STAGE_RES_V e.valid

/-- Replace rows and shadow copies together; rows from `first` to `last` are written anew. -/
def State.wptPut (s : State) (f : NMap WptEntry → NMap WptEntry) (bad : List Nat) (first last : Nat) : State :=
  ({ s with wpt := { s.wpt with rows := f s.wpt.rows, shadows := f s.wpt.shadows, shadowBad := bad,
                                hidden := s.wpt.hidden.filter fun r => r < first || last < r } }.showWpt).askCommit

/-- The table with entries INDEX to 4,094 moved down one place and a new entry at INDEX (R112). -/
def wptInsertAt (i : Nat) (e : WptEntry) (m : NMap WptEntry) : NMap WptEntry :=
  NMap.put (m.map fun x => if x.1 < i then x else (x.1 + 1, x.2)) i e

/-- The table with entries INDEX + 1 to 4,095 moved up one place (R112). -/
def wptDeleteAt (i : Nat) (m : NMap WptEntry) : NMap WptEntry :=
  (m.filter fun x => x.1 != i).map fun x => if x.1 < i then x else (x.1 - 1, x.2)

/-- READ. -/
def State.wptDoRead (s : State) (i : Nat) : State :=
  if s.wptBusy then s.wptReject
  else
    let s := s.wptStage (s.wpt.rows.lookD i WptEntry.none)
    { s with wpt := { s.wpt with busyUntil := s.now + 20 } }.set WPT_STATUS_BUSY 1

/-- WRITE: the row changes in one step. -/
def State.wptDoWrite (s : State) (i : Nat) : State :=
  if s.wptBusy then s.wptReject
  else
    let e := s.stagedEntry
    let s := s.wptPut (fun m => m.put i e) (s.wpt.shadowBad.filter (· != i)) i i
    { s with wpt := { s.wpt with busyUntil := s.now + 20 } }.set WPT_STATUS_BUSY 1

/-- INSERT: searches see the old table until the moves have ended (R113). -/
def State.wptDoInsert (s : State) (i : Nat) : State :=
  if s.wptBusy || (match s.wpt.rows.look 4095 with | some e => e.valid | none => false) then s.wptReject
  else { s with wpt := { s.wpt with busy := some (3, i), staged := some s.stagedEntry } }.set WPT_STATUS_BUSY 1

/-- DELETE: searches see the new table from its first copy on (R113). -/
def State.wptDoDelete (s : State) (i : Nat) : State :=
  if s.wptBusy then s.wptReject
  else
    let bad := (s.wpt.shadowBad.filter (· != i)).map fun x => if x < i then x else x - 1
    let s := s.wptPut (wptDeleteAt i) bad i 4095
    { s with wpt := { s.wpt with busy := some (4, i) } }.set WPT_STATUS_BUSY 1

/-- The moves of an INSERT or DELETE end. -/
def State.wptMoved (s : State) : State :=
  let s :=
    match s.wpt.busy, s.wpt.staged with
    | some (3, i), some e =>
      s.wptPut (fun m => wptInsertAt i e (m.del 4095)) (s.wpt.shadowBad.map fun x => if x < i then x else x + 1) i 4095
    | _, _ => s
  { s with wpt := { s.wpt with busy := none, staged := none, busyUntil := s.now } }.set WPT_STATUS_BUSY 0

/-- One scrub comparison (R111): `upset` says that a soft error has changed the row. -/
def State.wptScrub (s : State) (upset : Bool) : State :=
  let i := s.wpt.scrubAt
  let s := { s with wpt := { s.wpt with scrubAt := (i + 1) % 4096 } }
  if s.wpt.shadowBad.contains i then s.loseEntry i
  else if upset || s.wpt.hidden.contains i || s.wpt.rows.look i != s.wpt.shadows.look i then
    let s := s.wptRewrite i
    (s.bump blkWPT WPT_SCRUB_FIX 0 1 ownWPT).showWpt
  else s

-- partial parity

/-- A group of a zone has a row that is partly programmed: a data member stands beyond the parity member. -/
def Zone.partRow (z : Zone) (g : Nat) : Bool :=
  match z.members[paritySlot z.split z.fn g]? with
  | none => false
  | some pm => (List.range z.d).any fun i => groupOf z.split i == g && (match z.members[slotOfMember z.split z.fn i]? with
      | some m => decide (pm.verified < m.verified) | none => false)

/-- Groups of active zones with a partly programmed row, at each entry to RUN (R105). -/
def State.beginRecomp (s : State) : State :=
  let l := ((s.zn.zones.filter fun e => e.2.ctx.isSome).map fun e =>
    ((if e.2.split then [0, 1] else [0]).filter e.2.partRow).map fun g => (e.1, g)).flatten
  let s := { s with zn := { s.zn with recompPending := l.foldl (fun m e => addOnce e m) s.zn.recompPending } }
  s.setB ZNE_STATUS_RECOMP (!s.zn.recompPending.isEmpty)

/-- The partial parity of a zone's group as its verified members give it: row of its parity member, count of data members beyond
it, and the XOR read; charged to the zone's opener when its parity is programmed.  Of a conventional row the accumulator is filled anew. -/
def State.recompGroup (s : State) (key g : Nat) (xor : NMap Nat) : State :=
  if 2 ^ 48 ≤ key then
    let fill (p : Parity) : Parity := if p.zkey = key ∧ p.group = g then { p with data := xor } else p
    { s with zn := { s.zn with accs := s.zn.accs.mapVals fun _ p => fill p } }
  else
  match s.zn.zones.look key with
  | none => s
  | some z =>
    match z.members[paritySlot z.split z.fn g]? with
    | none => s
    | some pm =>
      let row := pm.verified
      let n := ((List.range z.d).filter fun i => groupOf z.split i == g && (match z.members[slotOfMember z.split z.fn i]? with
        | some m => decide (row < m.verified) | none => false)).length
      let s := (s.freeParity key g row)
      if n = 0 then s
      else
        let p : Parity := { zkey := key, group := g, row := row, count := n, data := xor, lastProg := s.now, parts := [] }
        match s.takeAcc with
        | (some k, s) => { s with zn := { s.zn with accs := s.zn.accs.put k p } }
        | (none, s) => match s.slotKeyOf p with | some j => { s with zn := { s.zn with slots := s.zn.slots.put j p } } | none => s

/-- The rebuild of partial parity ends (R105): a group all of whose data members stand gets its parity member (R103). -/
def State.recompEnd (s : State) (found : List (Nat × Nat × NMap Nat)) : State :=
  let l := s.zn.recompPending
  let s := s.each l fun e s =>
    s.recompGroup e.1 e.2 (match found.find? fun f => f.1 == e.1 && f.2.1 == e.2 with | some f => f.2.2 | none => [])
  let s := { s with zn := { s.zn with recompPending := [] } }.set ZNE_STATUS_RECOMP 0
  let rows := (s.zn.accs.filter fun a => 2 ^ 48 ≤ a.2.zkey && l.contains (a.2.zkey, a.2.group)).map fun a => (a.2.zkey - 2 ^ 48, a.2.row, a.2.group)
  (s.each rows fun r s => s.issueConvParity r.1 r.2.1 r.2.2).pump

end Sys2Proof.Machine
end

