-- ==== Sys2Proof/Machine/OpsNs.lean ====
section
/-!
DEFINITION. Namespace deletion (R57, R229, R246): the discard of a namespace's data and the return of its blocks.
Assumption log: DESIGN CHOICE (17).
-/

namespace Sys2Proof.Machine

/-- A namespace was created, deleted or attached: it enters the Changed Namespace List of the ports in use, with the Namespace Attribute
Changed event (Table 02.11). -/
def State.nsNotice (s : State) (nsid : Nat) : State :=
  s.each s.portList fun p s => (s.modPort p fun x => { x with changedNs := insSorted nsid x.changedNs }).aen p 2 0 0x04

/-- Complete, as their commit has taken effect, the writes of a namespace that wait for verify, and forget every other command of it at
the zone engine (R57, R136). -/
def State.dropNsAdms (s : State) (nsid : Nat) : State :=
  s.each (s.zn.adm.filter fun a => a.nsid == nsid) fun a s =>
    if a.stage = .verify then (s.dropAdm a.id).completeAdm a .success else s.dropAdm a.id

/-- Discard the cached data, journal entries and map entries of a conventional namespace. -/
def State.dropConvData (s : State) (nsid : Nat) : State :=
  let s := s.each (s.wc.pairs.filter fun e => e.2.nsid == nsid) fun e s =>
    let s := s.each (e.2.data.map (·.1)) fun l s => s.clearLive nsid l 0
    s.releasePair e.1
  let s := s.each (s.xl.map.lookD nsid []) fun e s => s.mapPut nsid e.1 none
  let keep (l : List (FootKey × Nat)) : List (FootKey × Nat) := l.filter fun k => k.1.nsid != nsid
  { s with xl := { s.xl with map := s.xl.map.del nsid, recs := s.xl.recs.filter (·.nsid != nsid),
                             reloc := s.xl.reloc.mapVals fun _ l => keep l },
           wc := { s.wc with journal := s.wc.journal.filter fun r => r.nsid != nsid } }

/-- With headroom again after a deletion, conventional namespaces take writes again (R246). -/
def State.convReopen (s : State) : State :=
  let clear (n : Namespace) : Namespace := { n with writeProtect := false }
  if s.headroom = 0 then s
  else { s with ns := s.ns.mapVals fun _ n => clear n }.set XLT_STATUS_RO_CONV 0

/-- A namespace is gone: its data is discarded, never written, and its stripes and blocks go back to the free store, erased for the
internal reserve (R57 step 3, R68). -/
def State.dropNamespace (s : State) (nsid : Nat) : State :=
  match s.ns.look nsid with
  | none => s
  | some n =>
    let s := s.dropNsAdms nsid
    let s := { s with ns := s.ns.del nsid }
    let s := if n.zoned then s.each (s.zn.zones.filter fun e => e.2.nsid == nsid) fun e s => s.resetZone e.1 0 true
      else ((s.dropConvData nsid).dropGranules nsid).convReopen
    (s.nsNotice nsid).showPool.pump

/-- Commands fetched for a namespace that are still to be completed (R57 step 2): those that only wait for verify are not. -/
def State.nsBusy (s : State) (nsid : Nat) : Bool :=
  s.ctxs.any fun c => c.slot != 0 && c.e.nsid == nsid && c.stage != .done
    && !(s.zn.adm.any fun a => a.ctx == some c.id && a.stage == .verify)

/-- Deletions whose last command has been completed are carried out, and their commands complete (R57). -/
def State.settleDeletes (s : State) : State :=
  s.each (s.ns.filter fun e => e.2.deleting.isSome && !s.nsBusy e.1) fun e s =>
    let s := s.dropNamespace e.1
    match e.2.deleting with
    | some id => if s.ns.any fun x => x.2.deleting == some id then s else s.complete id .success
    | none => s

/-- A Detour that begins during a deletion finds its discard completed (R57). -/
def State.finishDeletes (s : State) : State :=
  s.each (s.ns.filter fun e => e.2.deleting.isSome) fun e s => s.dropNamespace e.1

end Sys2Proof.Machine
end

