-- ==== Sys2Proof/Machine/OpsGauge.lean ====
section
/-!
DEFINITION. The gauge and charger of the hold-up pack: energies, estimates, readiness, rest windows, impedance steps, learning,
identity and life record (R250, R268 to R282).  Energies are in quanta of 12.5 pJ; open-circuit voltages in 12.5 nV.
Assumption log: DEDUCED (28, 37, 41, 43, 96); DESIGN CHOICE (34, 42).
-/

namespace Sys2Proof.Machine

/-- Quanta in 1 J, and in 1/32 J. -/
def qJ : Int := 80000000000
def q32 : Int := 2500000000

/-- Gauge states (Table 09.7). -/
def gsAbsent : Nat := 0
def gsIdentify : Nat := 1
def gsFirst : Nat := 2
def gsTrack : Nat := 3
def gsRest : Nat := 4
def gsForced : Nat := 5
def gsLearn : Nat := 6
def gsHibernate : Nat := 7
def gsFailed : Nat := 8
def gsEol : Nat := 9

def State.gauge (s : State) : Nat := s.get HUC_STATUS_GSTATE

/-- The fraction of C above V_MIN at an open-circuit voltage, from the OCV table (Table 09.8): numerator and denominator.  Between
entries the curve is straight. -/
def ocvGo (v : Int) : Nat → List Nat → Int × Int
  | _, [] => (1, 1)
  | _, [_] => (1, 1)
  | k, a :: b :: t =>
    let a' : Int := a * 80000
    let b' : Int := b * 80000
    if v ≤ a' then (k, 15)
    else if v ≤ b' then ((k : Int) * (b' - a') + (v - a'), 15 * (b' - a'))
    else ocvGo v (k + 1) (b :: t)

/-- C × f(V). -/
def energyAt (c : Int) (ocv : List Nat) (v : Int) : Int :=
  let (n, d) := ocvGo v 0 ocv
  c * n / d

/-- Counts of 100 µV as an open-circuit voltage. -/
def ocvOf (counts : Nat) : Int := (counts : Int) * 8000

/-- The pack's identity, or one of zeros. -/
def State.packId (s : State) : PackId :=
  s.hu.pack.getD { serial := 0, cRated := 0, cycles := 0, vFloat := 0, vMin := 0, zRated := 0, zMax := 0, iChgMax := 0, mfgWeek := 0,
                   ocv := [] }

/-- Pack current below 2 mA in magnitude. -/
def State.packQuiet (s : State) : Bool := decide (s.hu.amps.natAbs < 16)

/-- The open-circuit voltage now: V at rest, else V + I × Z (chapter 09, Gauge). -/
def State.openV (s : State) : Int :=
  if s.packQuiet then ocvOf s.hu.volts else ocvOf s.hu.volts + s.hu.amps * s.hu.z

/-- PWR; 0 acts as 1. -/
def State.pwr (s : State) : Nat := max 1 (s.get WCU_LIMIT_CFG_PWR)

/-- The reserve (R268). -/
def State.eRes (s : State) : Int := max (60 * qJ) (s.hu.c / 4)

/-- E_cut: the energy above V_MIN that the effective cut-off leaves (R268). -/
def State.eCut (s : State) : Int :=
  let vMin := s.packId.vMin
  energyAt s.hu.c s.packId.ocv ((vMin : Int) * 80000 + 2000000 * s.pwr * s.hu.z / max 1 vMin)

/-- k_t in percent (Table 09.6). -/
def ktOf (t : Int) : Int :=
  if t < -20 then 50 else if t < -10 then 65 else if t < 0 then 80 else if t < 10 then 90 else if t ≤ 50 then 100
  else if t ≤ 60 then 95 else 0

/-- Windows of Table 09.6: charging, impedance step and rest reset; learning. -/
def tempOk (t : Int) : Bool := decide (-10 ≤ t) && decide (t ≤ 50)
def learnTemp (t : Int) : Bool := decide (10 ≤ t) && decide (t ≤ 40)

/-- U with its growth of 0.5% of the energy counted through the pack; it never exceeds C (R271). -/
def State.uNow (s : State) : Int := min s.hu.c (s.hu.u + s.hu.through / 200)

/-- E_av (R268). -/
def State.eAv (s : State) : Int := ktOf s.hu.temp * (s.hu.epess - s.uNow) / 100

/-- E_cap (R268): twice the need of a full dump area; 0 without a healthy dump die. -/
def State.eCap (s : State) : Int :=
  if s.get HUC_DUMP_N_H = 0 then 0 else s.pwr * (40000000 * (s.get WCU_LIMIT_CFG_T_OH : Int) + 20803747840)

/-- E_u (R268). -/
def State.eU (s : State) : Int := clampI 0 (min s.eRes s.eCap) s.eAv

/-- Twice the end-of-life requirement of R280: the need of R131 at the configured ceiling with 512 dump dies. -/
def State.eolNeed (s : State) : Int :=
  s.pwr * (40000000 * (s.get WCU_LIMIT_CFG_T_OH : Int) + 41943040 * (s.get WCU_DIRTY_CFG_CEIL : Int))

/-- An energy in 1/32 J, unsigned, saturating in 16 bits. -/
def to32 (e : Int) : Nat := satW 16 (e / q32).toNat

/-- Show the gauge's figures (chapter 09, HUC registers). -/
def State.showGauge (s : State) : State :=
  let s := (s.set HUC_ENERGY_E_U (to32 s.eU)).set HUC_ENERGY_E_PESS (toTwos 16 (clampI (-32768) 32767 (s.hu.epess / q32)))
  let s := (s.set HUC_EST_E_CTR (to32 s.hu.ectr)).set HUC_EST_E_V (to32 s.hu.ev)
  let s := (s.set HUC_CAP_C (to32 s.hu.c)).set HUC_CAP_E_RES (to32 s.eRes)
  let s := (s.set HUC_UNC_U (to32 s.uNow)).set HUC_UNC_HOURS (satW 16 ((s.ms.opMs - s.hu.lastRest) / 3600000))
  let s := (s.set HUC_PACK_V_MV (s.hu.volts / 10)).set HUC_PACK_V_TEMP (toTwos 8 s.hu.temp)
  (s.set HUC_PACK_I_MA (toTwos 24 (s.hu.amps / 8))).set HUC_PACK_Z s.hu.z

/-- The estimates are recomputed from the newest sample: E_v, e_pess, the empty rule of R273, and since when they disagree (R268, R272). -/
def State.estimate (s : State) : State :=
  let ev := energyAt s.hu.c s.packId.ocv s.openV
  let e := min s.hu.ectr ev - s.eCut
  let far := max (10 * qJ) (s.hu.c / 20)
  let d := (s.hu.ectr - ev).natAbs
  { s with hu := { s.hu with ev := ev, epess := e, empty := if e ≤ 0 then true else if 10 * qJ ≤ e then false else s.hu.empty,
                             disagreeSince := if far < (d : Int) then s.hu.disagreeSince.or (some s.now) else none } }

/-- The pack is present, identified, and neither failed nor at end of life. -/
def State.packSound (s : State) : Bool :=
  s.hu.pack.isSome && s.hu.identOk && s.gauge != gsFailed && s.gauge != gsEol && s.gauge != gsAbsent

/-- Readiness (R274). -/
def State.packReady (s : State) : Bool := s.packSound && s.hu.zMade && !s.hu.empty && !s.hu.hot

/-- A change of readiness: write-through cause PACK, sources 183 and 184 (R274). -/
def State.readyEval (s : State) : State :=
  let r := s.packReady
  let was := s.flag HUC_STATUS_READY
  let s := (s.setB HUC_STATUS_READY r)
  let s := { s with wc := { s.wc with packReady := r } }
  if r = was then s else ((s.setCause 1 (!r)).raise (if r then 184 else 183))

/-- Charging may run (R278). -/
def State.chargeAllowed (s : State) : Bool :=
  let g := s.gauge
  s.hu.pack.isSome && s.hu.identOk && !s.flag HUC_STATUS_CHG_BLOCK && !s.flag HUC_CTRL_CHG_DIS
    && s.inModes [.boot, .hold, .run, .rest, .ret, .service]
    && g != gsRest && g != gsForced && g != gsLearn && g != gsHibernate && g != gsFailed && s.hu.zStep.isNone

/-- Start or stop the charger as R278 says. -/
def State.chargeEval (s : State) : State :=
  if !s.chargeAllowed then ({ s with hu := { s.hu with chgSince := none } }).set HUC_STATUS_CHARGE 0
  else if s.get HUC_STATUS_CHARGE = 0 then
    ({ s with hu := { s.hu with chgSince := if 10 * s.hu.ectr < 9 * s.hu.c then some s.now else none } }).set HUC_STATUS_CHARGE 1
  else s

/-- The next phase of a running charge (R278). -/
def State.chargeStep (s : State) : State :=
  let i := -s.hu.amps
  match s.get HUC_STATUS_CHARGE with
  | 1 => if s.packId.vFloat * 10 ≤ s.hu.volts then s.set HUC_STATUS_CHARGE 2 else s
  | 2 => if i < 400 then ({ s with hu := { s.hu with chgSince := none } }).set HUC_STATUS_CHARGE 3 else s
  | _ => s

/-- Charging forbidden by pack temperature: the thermal monitor's signal (R268, R406). -/
def State.chgBlock (s : State) (b : Bool) : State :=
  if b = s.flag HUC_STATUS_CHG_BLOCK then s
  else
    let s := s.setB HUC_STATUS_CHG_BLOCK b
    (if b then s.raise 190 else s).chargeEval

/-- Show the hold-up converter enable: high from BOOT on while the pack is present and not failed, and throughout DETOUR
(Table 17.4). -/
def State.hubEval (s : State) : State :=
  let on := s.mode == .detour || (s.coreOn && s.hu.pack.isSome && s.gauge != gsFailed)
  let s := { s with pw := { s.pw with hubOn := on } }
  if on then s else s.set PSQ_STATUS_HUB_ARMED 0

/-- The bytes of a history entry, in the order R281 names its fields. -/
def histBytes (h : HistEntry) : List Nat :=
  le 4 h.hours ++ [h.type % 256, toTwos 8 h.temp] ++ le 2 h.p0 ++ le 2 h.p1 ++ le 2 h.p2 ++ le 2 h.seq ++ [0xA5, 0]

/-- The bytes of a life record (Table 09.9). -/
def lifeBytes (r : LifeRec) : List Nat :=
  let b := le 4 r.seq ++ le 2 r.c ++ le 2 r.z ++ le 4 r.efc ++ le 4 r.detours ++ le 2 r.learnOk ++ le 2 r.learnDq ++ le 4 r.hours
    ++ le 4 r.hotHours ++ [toTwos 8 r.tMax, toTwos 8 r.tMin, bNat r.eol + 2 * bNat r.failed, 0] ++ le 8 r.firstDev ++ le 8 r.lastDev
    ++ le 4 r.eIn ++ le 4 r.eOut ++ zeros 4
  b ++ le 4 (crc32 b)

/-- A history entry is written to the ring, its valid mark last (R281); the manual gives its three parameters no content, so they are free. -/
def State.history (s : State) (type : Nat) : State :=
  if s.flag PSC_STATUS_HOLD_NOCFG then s else
  let (a, s) := s.free
  let (b, s) := s.free
  let (c, s) := s.free
  let e : HistEntry :=
    { hours := s.opHours, type := type, temp := s.hu.temp, p0 := a % 65536, p1 := b % 65536, p2 := c % 65536, seq := s.hu.histSeq % 65536 }
  let b := histBytes e
  let a := 0x200 + 16 * s.hu.histSlot
  let s := { s with hu := { s.hu with history := (e :: s.hu.history).take 96, histSeq := s.hu.histSeq + 1, histSlot := (s.hu.histSlot + 1) % 96 } }
  (s.put (.eeprom a (b.take 14))).put (.eeprom (a + 14) (b.drop 14))

/-- A life record never written. -/
def LifeRec.fresh : LifeRec :=
  { seq := 0, c := 0, z := 0, efc := 0, detours := 0, learnOk := 0, learnDq := 0, hours := 0, hotHours := 0, tMax := -128, tMin := 127,
    eol := false, failed := false, firstDev := Config.serial % 2 ^ 64, lastDev := 0, eIn := 0, eOut := 0 }

/-- Write the life record, to the two copies in turn (R281, Table 09.9). -/
def State.writeLife (s : State) : State :=
  if s.hu.pack.isNone ∨ !s.hu.identOk ∨ s.flag PSC_STATUS_HOLD_NOCFG then s
  else
    let l := s.hu.life.getD LifeRec.fresh
    let kJ : Int := 1000 * qJ
    let cyc : Int := if s.hu.c ≤ 0 then 0 else 100 * s.hu.efcAcc / s.hu.c
    let r : LifeRec :=
      { seq := l.seq + 1, c := to32 s.hu.c, z := satW 16 s.hu.z, efc := satW 32 (l.efc + cyc.toNat), detours := satW 32 (l.detours + s.hu.detours),
        learnOk := l.learnOk, learnDq := l.learnDq, hours := satW 32 (l.hours + s.hu.svcMs / 3600000),
        hotHours := satW 32 (l.hotHours + s.hu.hotMs / 3600000), tMax := max l.tMax s.hu.tMax, tMin := min l.tMin s.hu.tMin,
        eol := l.eol || s.gauge == gsEol, failed := l.failed || s.gauge == gsFailed, firstDev := l.firstDev,
        lastDev := Config.serial % 2 ^ 64, eIn := satW 32 (l.eIn + (s.hu.inAcc / kJ).toNat), eOut := satW 32 (l.eOut + (s.hu.outAcc / kJ).toNat) }
    let s := s.put (.eeprom (if s.hu.nextB then 0x140 else 0x100) (lifeBytes r))
    { s with hu := { s.hu with life := some r, nextB := !s.hu.nextB, outAcc := s.hu.outAcc % kJ, inAcc := s.hu.inAcc % kJ,
                               efcAcc := s.hu.efcAcc - cyc * s.hu.c / 100, svcMs := s.hu.svcMs % 3600000, hotMs := s.hu.hotMs % 3600000,
                               detours := 0 } }

/-- The gauge state changes. -/
def State.setGauge (s : State) (g : Nat) : State := (s.set HUC_STATUS_GSTATE g).chargeEval

/-- The state the gauge goes back to from a rest that is broken (Table 09.7). -/
def State.gaugeBase (s : State) : Nat := if s.hu.restMade then gsTrack else gsFirst

/-- A learning cycle ends without result (R279); the manual gives the cause reported to a ticket no code, so it is free. -/
def State.learnDq (s : State) : State :=
  match s.hu.learn with
  | none => s
  | some l =>
    let (c, s) := s.free
    let bad (r : LifeRec) : LifeRec := { r with learnDq := satW 16 (r.learnDq + 1) }
    let s := { s with hu := { s.hu with learn := none, learnRetry := some (s.ms.opMs + 86400000), life := s.hu.life.map bad } }
    let s := ((s.bump blkHUC HUC_LEARN_DQ_CNT).raise 187).ticketEnd l.ticket 4 (c % 2 ^ 32)
    let s := (s.history 4).writeLife
    if s.gauge = gsLearn then s.setGauge s.gaugeBase else s.chargeEval

/-- The pack fails (R276). -/
def State.packFail (s : State) : State :=
  if s.gauge = gsFailed then s
  else
    let s := s.learnDq
    let s := { s with hu := { s.hu with zStep := none, restSince := none } }
    ((((s.setGauge gsFailed).raise 188).history 6).writeLife.hubEval).readyEval

/-- End of life (R280). -/
def State.eolCheck (s : State) : State :=
  if s.hu.c < s.eolNeed ∧ s.packSound then ((((s.setGauge gsEol).raise 188).history 5).writeLife).readyEval else s

/-- A forced rest window may be made (R271); one that a packet asked for, not in RETURN or REST (R444). -/
def State.forcedOk (s : State) : Bool :=
  s.packSound && decide (s.eRes + 10 * qJ ≤ s.eAv) && s.hu.learn.isNone && s.hu.zStep.isNone
    && (s.inModes [.hold, .run, .service] || s.hu.restTicket.isNone && s.inModes [.rest, .ret])

/-- Pause float for a forced rest window (R271). -/
def State.forceRest (s : State) : State :=
  let s := { s with hu := { s.hu with forceHeld := false, restSince := some s.now } }
  let s := (s.ticketRun s.hu.restTicket).bump blkHUC HUC_FORCED_REST_CNT
  (s.setGauge gsForced).history 8

/-- Ask for a forced rest window: now if it may be made, else each hour (R271, R272). -/
def State.askForced (s : State) : State :=
  if s.forcedOk ∧ s.gauge != gsForced then s.forceRest
  else if s.gauge = gsForced then s else { s with hu := { s.hu with forceHeld := true } }

/-- A rest reset from an open-circuit voltage (R270): both estimates, the uncertainty, NO_REST and the disagreement. -/
def State.restReset (s : State) (v : Int) : State :=
  let e := energyAt s.hu.c s.packId.ocv v
  let s := { s with hu := { s.hu with ectr := e, ev := e, u := s.hu.c * s.get HUC_GAUGE_CFG_U0_PCT / 100, through := 0,
                                      lastRest := s.ms.opMs, restMade := true, forceHeld := false,
                                      disagreeSince := none } }
  ((s.set HUC_STATUS_NO_REST 0).set HUC_STATUS_DISAGREE 0)

/-- A rest window ends with a reading in 100 µV (R270, R269): the rest reset, unless the temperature forbids it; the gauge tracks,
or a learning cycle goes on to its discharge. -/
def State.restEnds (s : State) (counts : Nat) : State :=
  let ok := tempOk s.hu.temp
  let s := if ok then s.restReset (ocvOf counts) else s
  let s := { s with hu := { s.hu with restSince := none } }
  match s.hu.learn with
  | some l =>
    if l.step = 1 then
      let (n, d) := ocvGo (ocvOf counts) 0 s.packId.ocv
      { s with hu := { s.hu with learn := some { l with step := 2, f1 := (n.toNat, d.toNat), since := s.now, out := 0, avg := [] } } }
    else s
  | none =>
    let t := s.hu.restTicket
    let s := if ok then { s with hu := { s.hu with restTicket := none } }.ticketEnd t 3 (counts / 10) else s
    s.setGauge s.gaugeBase

/-- A rest is broken by pack current (Table 09.7). -/
def State.restBroken (s : State) : State :=
  let s := { s with hu := { s.hu with restSince := none } }
  let s := if s.gauge = gsForced then ({ s with hu := { s.hu with forceHeld := true } }).ticketQueue s.hu.restTicket else s
  s.setGauge s.gaugeBase

/-- What a sample means to a learning cycle (R279). -/
def State.learnSample (s : State) (e : Int) : State :=
  match s.hu.learn with
  | none => s
  | some l =>
    if !learnTemp s.hu.temp then s.learnDq
    else if l.step = 2 then
      let avg := (e :: l.avg).take 10000
      let w := s.get HUC_CHG_CFG_LEARN_W
      let w : Int := if 3 ≤ w ∧ w ≤ 5 then w else 4
      let total := avg.foldl (· + ·) 0
      if avg.length = 10000 ∧ (total < 10 * (w - 1) * qJ ∨ 10 * (w + 1) * qJ < total) then s.learnDq
      else
        let l := { l with out := l.out + e, avg := avg }
        let l := if s.eAv ≤ s.eRes + 10 * qJ then { l with step := 3, since := s.now } else l
        { s with hu := { s.hu with learn := some l } }
    else if l.step = 3 ∧ 16 < s.hu.amps.natAbs then s.learnDq
    else s

/-- One 1 kHz sample (R250); the estimates follow when they are recomputed: energy counted, E_ctr capped at C (R268), rest, charge and learning moved on, failures of R276 and
the heat rule of R274. -/
def State.sample (s : State) (volts : Nat) (amps temp : Int) : State :=
  let e : Int := (volts : Int) * amps
  let wasQuiet := s.packQuiet
  let hot := if 60 < temp then true else if temp ≤ 55 then false else s.hu.hot
  let s := { s with hu := { s.hu with
    volts := volts, amps := amps, temp := temp, ectr := min s.hu.c (s.hu.ectr - e), through := s.hu.through + e.natAbs,
    outAcc := if 0 < e then s.hu.outAcc + e else s.hu.outAcc, inAcc := if e < 0 then s.hu.inAcc - e else s.hu.inAcc,
    efcAcc := if 0 < e then s.hu.efcAcc + e else s.hu.efcAcc, svcMs := s.hu.svcMs + 1,
    hotMs := if 45 < temp then s.hu.hotMs + 1 else s.hu.hotMs, tMax := max s.hu.tMax temp, tMin := min s.hu.tMin temp,
    hot := hot, hotSince := if 60 < temp then s.hu.hotSince.or (some s.now) else none,
    lowSince := if volts < s.packId.vMin * 10 then s.hu.lowSince.or (some s.now) else none } }
  let g := s.gauge
  let s :=
    if s.packQuiet ∧ (g = gsFirst ∨ g = gsTrack) then
      ({ s with hu := { s.hu with restSince := some s.now } }).setGauge gsRest
    else if !s.packQuiet ∧ (g = gsRest ∨ g = gsForced ∧ wasQuiet) then s.restBroken
    else s
  let s := if s.hu.identOk ∧ s.packId.vFloat * 10 + 1000 < volts then s.packFail else s
  (s.chargeStep.learnSample e).readyEval.showGauge

/-- An impedance step may start (R275); one that a packet asked for, only in HOLD, RUN and SERVICE (R444). -/
def State.zStepOk (s : State) : Bool :=
  s.packSound && decide (s.eRes + qJ ≤ s.eAv) && tempOk s.hu.temp && s.hu.zStep.isNone && s.hu.learn.isNone
    && (s.inModes [.hold, .run, .service] || s.hu.zTicket.isNone && s.inModes [.boot, .rest, .ret])

/-- An impedance step is due (R275): none since insertion, asked for, or 24 operating hours after the last. -/
def State.zDue (s : State) : Bool := !s.hu.zMade || s.hu.zHeld || s.hu.zTicket.isSome || decide (s.hu.zAt + 86400000 ≤ s.ms.opMs)

/-- Start an impedance step with charging paused (R275). -/
def State.startZStep (s : State) : State :=
  let s := { s with hu := { s.hu with zStep := some s.now, zHeld := false } }
  (s.ticketRun s.hu.zTicket).chargeEval

/-- Z is ΔV / ΔI (R275): counts of 100 µV and of 0.125 mA; without a current change the manual gives no result. -/
def State.measureZ (s : State) (dv di : Nat) : State :=
  let (f, s) := if di = 0 then s.free else (dv * 8000 / di, s)
  let z := if di = 0 then f % 65536 else satW 16 f
  let s := { s with hu := { s.hu with z := z, zMade := true, zAt := s.ms.opMs } }
  let s := if s.gauge = gsIdentify then s.setGauge gsFirst else s
  let ran := match s.hu.zTicket.bind s.mg.tickets.look with | some t => t.state == 2 | none => false
  let t := s.hu.zTicket
  let s := if ran then { s with hu := { s.hu with zTicket := none } }.ticketEnd t 3 z else s
  let s := if s.packId.zMax < z then s.packFail else s
  s.estimate.readyEval.showGauge

/-- A learning cycle may start (R279). -/
def State.learnOk (s : State) : Bool :=
  s.packReady && s.hu.learn.isNone && s.forcedOk

/-- A learning cycle is due (R279): asked for, LEARN_DAYS of operation after the last one, or 24 h after a disqualified one. -/
def State.learnDue (s : State) : Bool :=
  let days := s.get HUC_CHG_CFG_LEARN_DAYS
  s.hu.learnHeld || s.hu.learnTicket.isSome || (days != 0 && decide (s.hu.learnAt + 86400000 * days ≤ s.ms.opMs))
    || (match s.hu.learnRetry with | some t => decide (t ≤ s.ms.opMs) | none => false)

/-- A learning cycle begins with a forced rest window at float (R279). -/
def State.startLearn (s : State) : State :=
  let t := s.hu.learnTicket
  let s := { s with hu := { s.hu with
    learn := some { step := 1, f1 := (0, 1), out := 0, since := s.now, avg := [], ticket := t }, learnTicket := none,
    learnHeld := false, learnAt := s.ms.opMs, learnRetry := none, restSince := some s.now } }
  ((s.ticketRun t).bump blkHUC HUC_FORCED_REST_CNT).setGauge gsLearn

/-- The rest of step 3 gives OCV2 and C (R279). -/
def State.endLearn (s : State) (counts : Nat) : State :=
  match s.hu.learn with
  | none => s
  | some l =>
    let (n2, d2) := ocvGo (ocvOf counts) 0 s.packId.ocv
    let n : Int := (l.f1.1 : Int) * d2 - n2 * l.f1.2
    let d : Int := (l.f1.2 : Int) * d2
    if 5 * n < 2 * d then s.learnDq
    else
      let c := l.out * d / n
      if 2 * c < s.hu.c ∨ 11 * s.hu.c < 10 * c then s.learnDq
      else
        let ok (r : LifeRec) : LifeRec := { r with learnOk := satW 16 (r.learnOk + 1) }
        let s := { s with hu := { s.hu with c := c, learn := none, ectr := min c s.hu.ectr,
                                            life := s.hu.life.map ok } }
        let s := (((s.bump blkHUC HUC_LEARN_OK_CNT).raise 187).ticketEnd l.ticket 3 (to32 c)).history 3
        ((s.setGauge s.gaugeBase).writeLife.estimate.eolCheck).readyEval.showGauge

/-- The pack's identity, if it stands with a correct CRC (R281, Table 09.8). -/
def parseIdent (b : List Nat) : Option PackId :=
  if b.length = 256 ∧ b.take 4 = [0x48, 0x50, 0x4B, 0x31] ∧ field b 4 1 = 1 ∧ field b 0xFC 4 = crc32 (b.take 0xFC) then
    some { serial := field b 8 8, cRated := field b 0x10 2, cycles := field b 0x12 2, vFloat := field b 0x14 2,
           vMin := field b 0x16 2, zRated := field b 0x18 2, zMax := field b 0x1A 2, iChgMax := field b 0x1C 2,
           mfgWeek := field b 0x1E 2, ocv := (List.range 16).map fun k => field b (0x20 + 2 * k) 2 }
  else none

/-- A life-record copy with a correct CRC (Table 09.9). -/
def parseLife (b : List Nat) : Option LifeRec :=
  if b.length = 64 ∧ field b 60 4 = crc32 (b.take 60) then
    some { seq := field b 0 4, c := field b 4 2, z := field b 6 2, efc := field b 8 4, detours := field b 12 4,
           learnOk := field b 16 2, learnDq := field b 18 2, hours := field b 20 4, hotHours := field b 24 4,
           tMax := ofTwos 8 (field b 28 1), tMin := ofTwos 8 (field b 29 1), eol := bit (field b 30 1) 0,
           failed := bit (field b 30 1) 1, firstDev := field b 32 8, lastDev := field b 40 8, eIn := field b 48 4, eOut := field b 52 4 }
  else none

/-- The bytes of an identity. -/
def identBytes (p : PackId) : List Nat :=
  let b := [0x48, 0x50, 0x4B, 0x31, 1, 1, 2, 0] ++ le 8 p.serial ++ le 2 p.cRated ++ le 2 p.cycles ++ le 2 p.vFloat ++ le 2 p.vMin
    ++ le 2 p.zRated ++ le 2 p.zMax ++ le 2 p.iChgMax ++ le 2 p.mfgWeek ++ (p.ocv.map (le 2)).flatten
  let b := padTo b 0xFC
  b ++ le 4 (crc32 b)

/-- The valid entries of a history ring, newest first. -/
def parseHistory (b : List Nat) : List HistEntry :=
  let l := (List.range 96).filterMap fun k =>
    let e := (b.drop (16 * k)).take 16
    if field e 14 1 = 0xA5 then
      some ({ hours := field e 0 4, type := field e 4 1, temp := ofTwos 8 (field e 5 1), p0 := field e 6 2, p1 := field e 8 2,
              p2 := field e 10 2, seq := field e 12 2 } : HistEntry)
    else none
  (sortBy (·.seq) l).reverse

/-- The entry of a history ring after the newest valid one. -/
def nextHistory (b : List Nat) : Nat :=
  let l := (List.range 96).filter fun k => field b (16 * k + 14) 1 == 0xA5
  match (sortBy (fun k => field b (16 * k + 12) 2) l).reverse with | k :: _ => (k + 1) % 96 | [] => 0

/-- A life-record copy never written: all its bytes alike at 0x00 or 0xFF. -/
def blankCopy (b : List Nat) : Bool := b.all (· == 0xFF) || b.all (· == 0)

/-- Log page C3h and the reply of packet 0x0501 (R282). -/
def State.packPage (s : State) : List Nat :=
  match s.hu.pack with
  | none => zeros 16
  | some p =>
    let h := s.hu.history.map histBytes
    le 2 h.length ++ [s.gauge, 1] ++ zeros 12 ++ identBytes p
      ++ (match s.hu.life with | some r => lifeBytes r | none => zeros 64) ++ h.flatten

/-- A pack is inserted, or found at power-on (R277, R269): identity and life record are read, C, Z, U and the first estimate set. -/
def State.insertPack (s : State) (f : PackFound) (inserted : Bool) : State :=
  let id := parseIdent f.ident
  let lifes := (([f.lifeA, f.lifeB].filterMap parseLife))
  let life := match lifes with | [a, b] => some (if a.seq < b.seq then b else a) | a :: _ => some a | [] => none
  let inA := life.isSome && parseLife f.lifeA == life
  let bad := id.isNone || (life.isNone && !(blankCopy f.lifeA && blankCopy f.lifeB))
  let p : PackId := id.getD { serial := 0, cRated := 0, cycles := 0, vFloat := 0, vMin := 0, zRated := 0, zMax := 0, iChgMax := 0,
                              mfgWeek := 0, ocv := [] }
  let c : Int := match life with | some r => r.c * q32 | none => p.cRated * qJ * 4 / 5
  let z := match life with | some r => r.z | none => p.zMax
  let e := energyAt c p.ocv (ocvOf f.volts)
  let hist := parseHistory f.history
  let s := { s with hu := { s.hu with
    pack := some p, identOk := id.isSome, life := life, nextB := inA, history := hist, histSlot := nextHistory f.history,
    histSeq := (match hist with | h :: _ => h.seq + 1 | [] => 0), volts := f.volts, amps := 0,
    c := c, z := z, ectr := e, ev := e, u := c / 10, through := 0, zMade := false, zStep := none, hourAt := s.ms.opMs, lifeAt := s.ms.opMs, restMade := false, restSince := none,
    lastRest := s.ms.opMs, hot := false, hotSince := none, chgSince := none, learn := none, disagreeSince := none, empty := false,
    outAcc := 0, inAcc := 0, efcAcc := 0, svcMs := 0, hotMs := 0, tMax := -128, tMin := 127 } }
  let s := (s.set HUC_STATUS_PRESENT 1).set HUC_STATUS_GSTATE gsIdentify
  let s := if inserted then (s.raise 189).history 1 else s
  let s := s.estimate
  let s := if bad then s.packFail else s.eolCheck
  s.chargeEval.hubEval.readyEval.showGauge

/-- The pack is removed (R269, R277, R279). -/
def State.removePack (s : State) (seen : Bool) : State :=
  let s := s.learnDq
  let s := { s with hu := { s.hu with pack := none, identOk := false, life := none, history := [], zMade := false, zStep := none,
                                      restSince := none, restMade := false, volts := 0, amps := 0, c := 0, ectr := 0, ev := 0, u := 0,
                                      through := 0, epess := 0, hot := false, hotSince := none, lowSince := none, disagreeSince := none } }
  let s := (s.set HUC_STATUS_PRESENT 0).set HUC_STATUS_GSTATE gsAbsent
  let s := if seen then s.raise 189 else s
  s.chargeEval.hubEval.readyEval.showGauge

/-- Charging, learning and an impedance step stop (Table 09.3 step 1). -/
def State.stopPackWork (s : State) : State :=
  let s := s.learnDq
  let s := ({ s with hu := { s.hu with zStep := none, zHeld := s.hu.zHeld || s.hu.zStep.isSome } }).ticketQueue s.hu.zTicket
  s.set HUC_STATUS_CHARGE 0

end Sys2Proof.Machine
end

