-- ==== Sys2Proof/Machine/OpsLog.lean ====
section
/-!
DEFINITION. Milestone memory, the event log, event routing and the dirty-epoch record (R388 to R402): dispatch of a source, ring
writes and folds, line retirement, counters and epoch headers, the report, and the bytes of each record.
Assumption log: DEDUCED (56, 57); PRESUMED (19).
-/

namespace Sys2Proof.Machine

/-- Send an MSI-X vector of a port, for a queue bound to a PASID or for none (R30, R48, PCIe): a masked one sets its pending bit; without
MSI-X Enable there is no message. -/
def State.sendMsix (s : State) (p v : Nat) (pasid : Option Nat := none) : State :=
  let pt := s.port p
  if !pt.cfg.msixEnable then s
  else if pt.cfg.msixFMask || !pt.msixOpen.contains v then s.modPort p fun pt => { pt with msixPba := insSorted v pt.msixPba }
  else s.put (.msix p v (pt.msixAddr.lookD v 0) (pt.msixData.lookD v 0) (s.tag p pasid))

/-- The vectors with a pending bit that are not masked any more are sent (R48, PCIe). -/
def State.sendPending (s : State) (p : Nat) : State :=
  let pt := s.port p
  if !pt.cfg.msixEnable || pt.cfg.msixFMask then s
  else s.each (pt.msixPba.filter pt.msixOpen.contains) fun v s =>
    (s.modPort p fun pt => { pt with msixPba := pt.msixPba.filter (· != v) }).sendMsix p v

/-- The bytes of a log record or host event queue entry (Table 14.7). -/
def recBytes (r : LogRec) : List Nat :=
  le 2 r.code ++ le 2 r.rep ++ le 4 r.hours ++ le 4 r.cycles ++ le 4 r.ms ++ le 2 r.p0 ++ le 2 r.p1 ++ le 2 r.p2 ++ le 2 r.p3
    ++ [r.flags % 256] ++ zeros 6 ++ [r.mark % 256]

/-- Show QCOUNT (chapter 14, EVR registers). -/
def State.showQueueCount (s : State) : State := s.set EVR_QCOUNT s.ev.queue.length

/-- Add an entry to the host event queue of 256, replacing the oldest when it is full, and report the vendor event (R389, R390).
The mark of a queue entry, which has no ring position, is given no value and is free. -/
def State.hostEvent (s : State) (src param : Nat) : State :=
  let (m, s) := s.free
  let r : LogRec := { code := src, rep := 1, hours := s.opHours, cycles := s.get MSM_PWR_CYCLES, ms := s.opRest, p0 := param % 65536,
                      p1 := param / 65536, p2 := 0, p3 := 0, flags := 0, mark := m % 256 }
  let full := decide (256 ≤ s.ev.queue.length)
  let s := { s with ev := { s.ev with queue := (if full then s.ev.queue.drop 1 else s.ev.queue) ++ [r],
                                      lost := if full then satW 32 (s.ev.lost + 1) else s.ev.lost, anyLost := s.ev.anyLost || full } }
  let s := s.showQueueCount
  let s := if full then s.raiseOnce 229 else s
  if s.ev.reported then s else { s with ev := { s.ev with reported := true } }.aen s.privPort 7 0 0xC0

/-- The EVR handles one raised source, the lowest of those that wait (R389). -/
def State.dispatch (s : State) : State :=
  match leastBy (·.src) s.ev.todo with
  | none => s
  | some r =>
    let on (f : Field) : Bool := bit (s.get f (r.src / 32)) (r.src % 32)
    let t := { s with ev := { s.ev with todo := s.ev.todo.erase r } }
    let t := if on EVR_LOG_EN then t.logRec r.src (r.param % 65536) (r.param / 65536 % 65536) 0 0 else t
    let t := if on EVR_HOST_EN then t.hostEvent r.src (r.param % 2 ^ 32) else t
    if on EVR_IRQ_EN ∧ s.flag EVR_CTRL_IRQ ∧ r.fresh then t.sendMsix t.privPort 0 else t

/-- Log page C0h and the reply of packet 0x0702 (R390). -/
def State.eventPage (s : State) : List Nat :=
  le 2 s.ev.queue.length ++ zeros 2 ++ le 4 s.ev.lost ++ [bNat s.ev.anyLost] ++ zeros 7 ++ (s.ev.queue.map recBytes).flatten

/-- Take the first `n` entries off the host event queue and re-arm the vendor event (R390). -/
def State.takeEvents (s : State) (n : Nat) : State :=
  ({ s with ev := { s.ev with queue := s.ev.queue.drop n, reported := false } }).showQueueCount

/-- The newest record's line takes its latest repeat count (R398). -/
def State.writeFold (s : State) : State :=
  if s.ms.foldRep = 0 then s
  else
    let f (r : LogRec) : LogRec :=
      { r with rep := r.rep + s.ms.foldRep, flags := if 0xFFFF ≤ r.rep + s.ms.foldRep then setBit r.flags 1 else r.flags }
    let ring := match s.ms.newest with | some n => s.ms.ring.modify n f | none => s.ms.ring
    { s with ms := { s.ms with ring := ring, foldRep := 0, foldSince := none } }

/-- Write the first queued record at the ring's head (R397). -/
def State.writeRecord (s : State) : State :=
  match s.ms.logQ with
  | [] => s
  | r :: rest =>
    let s := s.writeFold
    let h := s.get MSM_LOG_HEAD_INDEX
    let odd := s.flag MSM_LOG_HEAD_PASS
    let r := { r with mark := if odd then 0xC3 else 0xA5, flags := if s.ms.dropped then setBit r.flags 0 else r.flags }
    let s := { s with ms := { s.ms with logQ := rest, dropped := false, ring := s.ms.ring.put h r, newest := some h, foldRep := 0,
                                        foldSince := none } }
    let s := s.set MSM_LOG_HEAD_INDEX ((h + 1) % 32768)
    if h = 32767 then s.setB MSM_LOG_HEAD_PASS (!odd) else s

/-- Write every queued record. -/
def State.drainLog : Nat → State → State
  | 0, s => s
  | n + 1, s => if s.ms.logQ.isEmpty then s else State.drainLog n s.writeRecord

/-- A record is dropped: counted, and told by the next one (R397). -/
def State.dropRecord (s : State) : State :=
  ({ s with ms := { s.ms with dropped := true } }.bump blkMSM MSM_LOG_DROP).raiseOnce 227

/-- The state of the retained counters (R395). -/
def State.counterRegs (s : State) : NMap Nat :=
  s.regs.filter fun e => match fieldOfKey e.1 with | some f => f.cls == .retained && f.acc == .cnt | none => false

/-- Write the counters lines that have changed (R395). -/
def State.writeCounters (s : State) : State :=
  { s with ms := { s.ms with counters := s.counterRegs } }

/-- Write one retained counter's line at once (R395: operating hours, power cycles). -/
def State.writeCounter (s : State) (f : Field) : State :=
  { s with ms := { s.ms with counters := s.ms.counters.putD (f.key 0 0) (s.get f) (f.reset 0) } }

/-- The line map's entry of a line; a line never retired holds none. -/
def LineEntry.fresh : LineEntry := { pulse2 := 0, retired := false, spare := 0 }

/-- The line map takes an entry, in copy A and then copy B (R394): the map line's sequence number rises.  DEDUCED (log 58). -/
def State.putLine (s : State) (line : Nat) (e : LineEntry) : State :=
  { s with ms := { s.ms with lines := s.ms.lines.put line e, mapSeq := s.ms.mapSeq.put (line / 28) (s.ms.mapSeq.lookD (line / 28) 0 + 1) } }

/-- What a failed line write means to its writer (R394). -/
def State.lineFailed (s : State) (line : Nat) : State :=
  let s := (s.set MSM_STATUS_WFAIL 1).raise 228
  let s := { s with ms := { s.ms with failedLines := insSorted line s.ms.failedLines } }
  if line < 2048 then { s with fw := { s.fw with cfgA := s.fw.cfgA.map fun c => { c with whole := false } } }
  else if line < 4096 then { s with fw := { s.fw with cfgB := s.fw.cfgB.map fun c => { c with whole := false } } }
  else if line < 4096 + 16384 then
    let i := 2 * (line - 4096)
    let s := { s with ms := { s.ms with ring := s.ms.ring.keep fun k _ => !(k == i || k == i + 1) } }
    s.dropRecord
  else s

/-- Retire a line to the lowest free spare (R394). -/
def State.retireLine (s : State) (line : Nat) (e : LineEntry) (failed : Bool) : State :=
  let left := s.get MSM_SPARES
  if left = 0 then
    let s := s.putLine line e
    let s := (s.set MSM_STATUS_NOSPARE 1).raise 225
    if failed then s.lineFailed line else s
  else
    let e := { e with retired := true, spare := 3072 - left }
    let s := s.putLine line e
    ((s.set MSM_SPARES (left - 1)).bump blkMSM MSM_RETIRE_CNT).raise 224

/-- A line write ends after some pulses (R393, R394); `ok` is false when the third pulse failed too.  The spare that a retired line has is
not itself replaced. -/
def State.lineWritten (s : State) (line pulses : Nat) (ok : Bool) : State :=
  if ok ∧ pulses ≤ 1 then { s with ms := { s.ms with failedLines := s.ms.failedLines.filter (· != line) } }
  else
    let e := s.ms.lines.lookD line LineEntry.fresh
    if ok then
      let e := { e with pulse2 := min 7 (e.pulse2 + 1) }
      let s := { s with ms := { s.ms with failedLines := s.ms.failedLines.filter (· != line) } }
      let s := (s.bump blkMSM MSM_PULSE2_CNT).reportCE (line * 64) 0x2D 8 3
      if e.pulse2 = 4 ∧ !e.retired then s.retireLine line e false else s.putLine line e
    else if e.retired then s.lineFailed line
    else s.retireLine line e true

/-- The operating-hours counter and the power-cycle count saturate with source 230 (R395). -/
def State.countMsm (s : State) (f : Field) : State := (s.bump blkMSM f).writeCounter f

/-- An epoch header is written, and entries whose zone or namespace has been clean for 1 s are freed (R400, R401). -/
def State.epochWrite (s : State) : State :=
  let n := s.ms.epoch + 1
  let free (e : SlotEntry) : Bool := match e.cleanSince with | some t => decide (t + 1000000000 ≤ s.now) | none => false
  let slots := s.ms.slots.keep fun _ e => !free e
  let h : EpochHdr := { epoch := n, hours := s.opHours, ms := s.opRest, cycles := s.get MSM_PWR_CYCLES, dirty := s.dirtyAll,
                        count := slots.length }
  { s with ms := { s.ms with epoch := n, slots := slots, epochRing := s.ms.epochRing.put (n % 1024) h } }

/-- The dirty-epoch report is made from the slot table (R402). -/
def State.makeReport (s : State) : State :=
  let hdr := (sortBy (·.epoch) (s.ms.epochRing.map (·.2))).getLast?
  let r : DirtyReport := { entries := s.ms.slots.map (·.2), overwritten := s.ms.report.isSome, cause := s.get PSQ_LAST_OFF_CAUSE, hdr := hdr }
  (({ s with ms := { s.ms with report := some r, slots := [] } }).set MSM_STATUS_REPORT 1).raise 226

/-- Clear the dirty-epoch report (R402). -/
def State.clearReport (s : State) : State := ({ s with ms := { s.ms with report := none } }).set MSM_STATUS_REPORT 0

/-- A slot table entry (Table 14.9). -/
def slotBytes (e : SlotEntry) : List Nat := le 2 e.nsid ++ [e.kind % 256, e.slice % 256] ++ le 4 e.zone ++ le 8 e.epochIn

/-- Log page C4h and the reply of packet 0x0703 (R402). -/
def State.reportPage (s : State) : List Nat :=
  match s.ms.report with
  | none => zeros 64
  | some r =>
    let h := match r.hdr with
      | some h => le 8 h.epoch ++ le 4 h.hours ++ le 4 h.ms ++ le 4 h.cycles ++ le 4 h.dirty
      | none => zeros 24
    padTo (le 4 r.entries.length ++ [1 + 2 * bNat r.overwritten, r.cause, 0, 0] ++ h) 64 ++ (r.entries.map slotBytes).flatten

/-- A line of the line map (Table 14.6): the entries of 28 lines, a sequence number and a CRC-32. -/
def State.mapLine (s : State) (k : Nat) : List Nat :=
  let entry (e : LineEntry) : Nat := e.pulse2 % 8 + 8 * bNat e.retired + 16 * (e.spare % 4096)
  let b := ((List.range 28).map fun i => le 2 (match s.ms.lines.look (28 * k + i) with | some e => entry e | none => 0)).flatten
    ++ le 4 (s.ms.mapSeq.lookD k 0)
  b ++ le 4 (crc32 b)

/-- Line `k` of a copy of the configuration record where Table 15.4 gives it whole: line 0 and the commit line.  The CRC of the body, whose
sections lie where the manual does not say, is a free value of its sequence number. -/
def cfgLine (c : CfgCopy) (k : Nat) : Option (List Nat) :=
  if k = 0 then
    let b := padTo ([0x43, 0x46, 0x47, 0x01] ++ le 2 c.ver ++ le 2 c.lines ++ le 8 c.seq ++ le 4 (Config.cfgBodyCrc c.seq)) 60
    some (b ++ le 4 (crc32 b))
  else if k = 2047 ∧ c.whole then
    let b := padTo (le 8 c.seq ++ [0x5A]) 60
    some (b ++ le 4 (crc32 b))
  else none

/-- The bytes of one milestone line where the chapter gives them: the log, the slot table, the report and the line map; none where
it gives a region's contents but not where they lie (R392). -/
def State.milestoneLine (s : State) (line : Nat) : Option (List Nat) :=
  let logRow (i : Nat) : List Nat := match s.ms.ring.look i with | some r => recBytes r | none => zeros 32
  let slotRow (i : Nat) : List Nat := match s.ms.slots.look i with | some e => slotBytes e | none => zeros 16
  let region := line / 1024
  let k := line % 1024
  if region < 4 then
    (if line < 2048 then s.fw.cfgA else s.fw.cfgB).bind fun c => cfgLine c (line % 2048)
  else if region < 20 then some (logRow (2 * (line - 4096)) ++ logRow (2 * (line - 4096) + 1))
  else if region = 21 then some (slotRow (4 * k) ++ slotRow (4 * k + 1) ++ slotRow (4 * k + 2) ++ slotRow (4 * k + 3))
  else if region = 24 then some (padTo (s.reportPage.drop (64 * k)) 64)
  else if (region = 27 ∨ region = 28) ∧ k < 988 then some (s.mapLine k)
  else none

/-- A line as the read window shows it: a spare line holds what its retired line does. -/
def State.shownLine (s : State) (line : Nat) : Option (List Nat) :=
  if line < 29 * 1024 then s.milestoneLine line
  else match s.ms.lines.find? fun e => e.2.retired && e.2.spare == line - 29 * 1024 with
    | some e => s.milestoneLine e.1
    | none => none

/-- Four bytes of a line of milestone memory; where the chapter does not place them they are free. -/
def State.windowWord (s : State) : Nat × State :=
  let line := s.get MSM_WIN_ADDR_LINE
  match s.shownLine line with
  | some b => (field b s.ms.winPos 4, s)
  | none => let (v, s) := s.free; (v % 2 ^ 32, s)

/-- A read of `MSM.WIN_DATA`: the window advances by 4 bytes within the line (chapter 14, MSM registers). -/
def State.winDataRead (s : State) : Nat × State :=
  let (v, s) := s.windowWord
  (v, { s with ms := { s.ms with winPos := (s.ms.winPos + 4) % 64 } })

/-- A read of `MSM.LOG_DATA` (R399): the word at the cursor, which advances; word 0 of a record latches it.  A ring position never
written reads as zeros. -/
def State.logDataRead (s : State) : Nat × State :=
  let cur := s.get MSM_LOG_CUR_WORD
  let s := if cur % 8 = 0 then { s with ms := { s.ms with latch := s.ms.ring.look (cur / 8) } } else s
  let b := match s.ms.latch with | some r => recBytes r | none => zeros 32
  (field b (4 * (cur % 8)) 4, s.set MSM_LOG_CUR_WORD ((cur + 1) % 2 ^ 18))

/-- The thermal-shutdown record (Table 14.10). -/
def thermBytes (r : ThermRec) : List Nat :=
  let b := [0x54, 0x48, 0x52, 0x01, bNat r.immediate + 2 * bNat r.saved + 4 * bNat r.noSave + 8 * bNat r.acked, r.mode] ++ le 2 (toTwos 16 r.jmax)
    ++ [r.sensor, 0, 0, 0] ++ le 4 r.hours ++ le 4 r.ms ++ le 4 r.cycles ++ (r.ext.map fun e => le 2 (toTwos 16 e)).flatten
  let b := padTo b 60
  b ++ le 4 (crc32 b)

end Sys2Proof.Machine
end

