-- ==== Sys2Proof/Machine/OpsPower.lean ====
section
/-!
DEFINITION. The power sequencer and supervisor (R284 to R300): rails, power-up steps, power-down, OFF and what is lost there, the
immediate shut-off, on requests, and the reset outputs.
Assumption log: DEDUCED (10, 11, 39, 44, 45, 55, 98); DESIGN CHOICE (85).
-/

namespace Sys2Proof.Machine

/-- Rails in the order of power-up steps 1 to 9 (Table 10.4). -/
def stepRail (k : Nat) : Nat := ([1, 2, 9, 3, 4, 6, 5, 8, 7][k - 1]?).getD 0

/-- A rail that is not enabled. -/
def Rail.off : Rail := { enabled := false, waiting := false, armed := false, inWindow := false, since := 0 }

def State.rail (s : State) (r : Nat) : Rail := s.pw.rails.lookD r Rail.off

/-- `PSQ.RAIL_STAT`: the armed rails and those inside their windows; the hold-up bus is armed, and watched, as HUB_ARMED says. -/
def State.railStat (s : State) : Nat :=
  let word (f : Rail → Bool) : Nat := (List.range 11).foldl (fun n r => putBit n r (f (s.rail r))) 0 + 2 ^ 11 * s.get PSQ_STATUS_HUB_ARMED
  word (·.armed) + 2 ^ 16 * word (·.inWindow)

def State.setRail (s : State) (r : Nat) (x : Rail) : State := { s with pw := { s.pw with rails := s.pw.rails.putD r x Rail.off } }

/-- The input is inside its window, or has left it. -/
def State.inputInside (s : State) (b : Bool) : State := s.setRail 10 { s.rail 10 with inWindow := b }

/-- Nominal level of a rail in mV (Table 10.1). -/
def nominalMv (r : Nat) : Nat := ([800, 750, 850, 900, 1200, 1100, 1800, 1200, 2500, 1800, 12000, 11400][r]?).getD 0

/-- A reading that has stayed beyond a limit of the rail's window for its filter time is declared (R285); each limit is accurate to 0.5% of
nominal.  Of a PG input (direction 3) only the filter counts (R286). -/
def State.declares (s : State) (r dir mv ns : Nat) : Bool :=
  decide (1000 * s.get PSQ_WIN_FILT r ≤ ns)
    && (if dir = 1 then decide (400 * mv < nominalMv r * (402 - s.get PSQ_WIN_UV r))
        else if dir = 2 then decide (nominalMv r * (398 + s.get PSQ_WIN_OV r) < 400 * mv)
        else dir == 3)

/-- Waits of the sequencer in ns (Table 10.10). -/
def State.pgWait (s : State) : Nat := 1000000 * (if s.get PSQ_SEQ_CFG_PG_MS = 0 then 10 else s.get PSQ_SEQ_CFG_PG_MS)
def State.settleWait (s : State) : Nat := 100000 * max 1 (s.get PSQ_SEQ_CFG_SETTLE)
def State.dischWait (s : State) : Nat := 1000000 * max 1 (s.get PSQ_SEQ_CFG_DISCH_MS)

/-- Assert a rail's enable and wait for power-good (R291). -/
def State.enableRail (s : State) (r : Nat) : State :=
  s.setRail r { enabled := true, waiting := true, armed := false, inWindow := false, since := s.now }

/-- Arm a rail that has settled (R286). -/
def State.armRail (s : State) (r : Nat) : State :=
  s.setRail r { enabled := true, waiting := false, armed := true, inWindow := true, since := s.now }

def State.dropRail (s : State) (r : Nat) : State := s.setRail r Rail.off

/-- Assert reset output `n`; a release that was to come is cancelled (R300). -/
def State.assertRsto (s : State) (n : Nat) : State :=
  if n = 0 then { s with pw := { s.pw with rsto := (true, s.pw.rsto.2), rstoUntil := (none, s.pw.rstoUntil.2) } }
  else { s with pw := { s.pw with rsto := (s.pw.rsto.1, true), rstoUntil := (s.pw.rstoUntil.1, none) } }

/-- Release reset output `n` after its stretch (R300). -/
def State.stretchRsto (s : State) (n : Nat) : State :=
  let f := if n = 0 then PSQ_RSTO_CFG_STRETCH0 else PSQ_RSTO_CFG_STRETCH1
  let t := some (s.now + max 1 (s.get f) * 1000000)
  if n = 0 then { s with pw := { s.pw with rstoUntil := (t, s.pw.rstoUntil.2) } }
  else { s with pw := { s.pw with rstoUntil := (s.pw.rstoUntil.1, t) } }

/-- A slice reset counts the time in RUN (Table 01.8). -/
def SliceReset.onMode (r : SliceReset) (old new : Mode) (now : Nat) : SliceReset :=
  let r := match r.since with
    | some t => if old = .run then { r with ranNs := r.ranNs + (now - t), since := none } else r
    | none => r
  if new = .run then { r with since := some now } else r

/-- The mode changes (R28); pages staged for raw programs are discarded on leaving SERVICE (Table 16.4); every transition but RUN to REST and back is logged (Table 14.8). -/
def State.setMode (s : State) (m : Mode) : State :=
  let old := s.md.mode
  if old = m then s
  else
    let s := { s with resets := s.resets.mapVals fun _ r => r.onMode old m s.now, md := { s.md with mode := m }, mg := { s.mg with staged := if old = Mode.service then [] else s.mg.staged } }
    let s := (s.set GLB_MODE_STATUS_PREV_MODE old.code).set GLB_MODE_STATUS_MODE m.code
    let cold (x : Mode) : Bool := x == .off || x == .watch
    let quiet := (old == .run && m == .rest) || (old == .rest && m == .run) || (cold old && cold m)
    if quiet then s else s.logRec 0x1001 old.code m.code 0 0

/-- An on request (R290, R295, R296, R299): `fresh` for the AO power-on reset and a PERST_N deassertion, which also start a new
count of retries; the sequencer's own `retry` goes on with the count.  During power-up it has no effect; during power-down it is
noted. -/
def State.latchOn (s : State) (fresh : Bool) (retry : Bool := false) : State :=
  match s.pw.seq with
  | .up _ _ => s
  | .down _ => { s with pw := { s.pw with onLatched := true, making := { s.pw.making with onInDown := true } } }
  | .idle =>
    if s.coreOn || !s.pw.ao || (s.pw.needPerst && !fresh) then s
    else
      let s := { s with pw := { s.pw with onLatched := true, needPerst := s.pw.needPerst && !fresh,
                                          retries := if retry then s.pw.retries else 0 } }
      s.set PSQ_STATUS_RETRIES s.pw.retries

/-- Power-up begins (Table 10.4 step 0): resets asserted, straps sampled (R463), the first enable asserted. -/
def State.startUp (s : State) (split recover test : Bool) : State :=
  let s := (s.assertRsto 0).assertRsto 1
  let s := { s with pw := { s.pw with seq := .up 1 false, onLatched := false, making := OffRec.none, offPend := none,
                                      split := split, recover := recover, testMode := test } }
  (s.set PSQ_STATUS_STEP 0).enableRail 1

/-- What a power-on finds of a unit that keeps nothing volatile (R11): cold, warm and slice fields at their Reset values; retained
counters as milestone memory holds them (R395). -/
def State.dropRegs (s : State) : State :=
  let keep (e : Nat × Nat) : Bool :=
    match fieldOfKey e.1 with
    | some f => (f.cls == .retained && f.acc != .cnt) || f.cls == .alwaysOn || f.reg == rFSQ_DIE
    | none => false
  let kept := s.regs.filter keep
  { s with regs := s.ms.counters.foldl (fun m e => m.put e.1 e.2) kept }

/-- A die with nothing queued or running. -/
def Die.idle (d : Die) : Die :=
  { d with reads := [], progs := [], erases := [], ints := [], held := [], run := none, winRead := none, dual := false, seq := 0,
           samples := none, refs := [] }

/-- A member after a power-off: what was issued and not verified is found by the check of R157. -/
def Member.settled (m : Member) : Member := { m with issued := m.verified }

/-- Everything volatile is lost at OFF (R11, R25).  Flash, milestone memory, the firmware store, the pack and what they hold stay.
DESIGN CHOICE (log 85): the die-time buckets hold 0 from power-on to their first gain. -/
def State.loseVolatile (s : State) : State :=
  let zone (z : Zone) : Zone := { z with ap := z.wp, members := z.members.map Member.settled }
  let set (b : BlockSet) : BlockSet := { b with members := b.members.map Member.settled }
  let nspc (n : Namespace) : Namespace := { n with deleting := none }
  let jr := s.wc.commitSeq
  { s.dropRegs with
    port0 := Port.reset 0 s.port0.perst, port1 := Port.reset 1 s.port1.perst, sqs := [], cqs := [], ctxs := [], doneQ := [],
    ns := s.ns.mapVals fun _ n => nspc n, late := [], lateTotal := 0,
    zn := { ZoneState.reset with zones := s.zn.zones.mapVals (fun _ z => zone z), ctxs := s.zn.ctxs },
    wpt := { WptState.reset with rows := s.wpt.rows, shadows := s.wpt.shadows },
    wc := { CacheState.reset with commitSeq := jr }, pool := PoolState.reset,
    fl := { s.fl with dies := s.fl.dies.mapVals (fun _ d => d.idle), tokens := [], chans := [], slots := [], slotRun := none, slotEnd := 0,
                      copies := [], partB := [], aside := [] },
    sd := SampleState.reset, cd := CodecState.reset,
    xl := { s.xl with recs := [], run := none, lostSegs := [], relocBufs := [], sinceStart := 0, sinceCommit := 0, late := false,
                      victims := [], reloc := [], rowData := [], restartSince := none, ticket := none,
                      ticketNext := none, wearZones := keptWear s.xl.last.wearZones s.xl.wearZones,
                      wearSets := keptWear s.xl.last.wearSets s.xl.wearSets, sets := s.xl.sets.mapVals fun _ b => set b },
    ev := EventState.reset,
    fc := { s.fc with fatal := false, anyFatal := false, dumpSince := none, safe := (false, false, false) },
    ms := { s.ms with logQ := [], dropped := false, foldRep := 0, foldSince := none, latch := none, winPos := 0 },
    th := ThermalState.reset,
    hu := { s.hu with learn := none, zStep := none, restSince := none, dump := none, ret := none, retWaited := false, lowSince := none,
                      disagreeSince := none, chgSince := none, learnHeld := false, zHeld := false, forceHeld := false, restTicket := none,
                      zTicket := none, learnTicket := none, hotSince := none },
    md := { ModeState.reset with mode := s.md.mode, watch := s.md.watch },
    mm := { MemState.reset with chans := s.mm.chans.mapVals fun _ c => c.kept }, mg := MgmtState.reset, fb := FabricState.reset,
    fw := { s.fw with download := [], prog := none, activateDue := none, activating := none, prefetch := [],
                      branches := [], pendAt := none, commitNow := false, trialMs := 0, restartAt := none, retry := [], bootRom := false, commit := none, again := false,
                      fnWanted := none, lastCommitAt := 0, boot := none },
    pins := PinState.reset, tp := TestState.reset }

/-- What milestone memory takes at a transition to OFF: the capture (R384), the fatal marks for the next start (R386). -/
def State.keepFaults (s : State) : State :=
  let cap : Option Capture :=
    if s.flag FCL_STATUS_VALID then
      some { addr := s.get FCL_FIRST_ADDR_LO + 2 ^ 32 * s.get FCL_FIRST_ADDR_HI, info := s.wordOf fieldsFCL (rFCL_FIRST_INFO.at 0 0),
             ts := s.get FCL_FIRST_TS_LO + 2 ^ 32 * s.get FCL_FIRST_TS_HI, merged := s.get FCL_STATUS_MERGED, ovf := s.flag FCL_STATUS_OVF }
    else none
  { s with fc := { s.fc with nvCapture := cap, nvFatal := s.fc.anyFatal,
                             nvSafe := bNat s.fc.safe.1 + 2 * bNat s.fc.safe.2.1 + 4 * bNat s.fc.safe.2.2, nvDump := s.fc.dumpSince.isSome } }

/-- A slice reset outlives OFF only where a Detour has held it and its dump has committed: it resumes at RUN after RETURN (R24, R75).  Thermal
shutdown and a rail fault abandon it. -/
def State.keepsResets (s : State) : Bool := match s.hu.dump with | some d => d.committedAt.isSome && !d.thermal | none => false

/-- OFF is reached with a record (R293, R297): what follows in every case. -/
def State.enterOff (s : State) (rc : OffRec) (wait : Nat) (perst : Bool) : State :=
  let s := s.keepFaults
  let s := { s with pw := { s.pw with stored := rc, runningMark := false, seq := .idle, hubOn := false, offPend := none, offSince := some s.now,
                                      offWait := wait, needPerst := perst, inputOn := rc.cause == 2 || rc.cause == 3, phyFailed := false,
                                      droopSince := none, droopLong := false, testMode := false } }
  let s := s.each [1, 2, 3, 4, 5, 6, 7, 8, 9] fun r s => s.dropRail r
  let latched := s.pw.onLatched
  let s := if s.keepsResets then s else { s with resets := [] }
  let s := { (s.setMode .off).loseVolatile with pw := s.pw }
  let s := { s with md := { s.md with mode := .off }, pw := { s.pw with onLatched := latched && !perst } }
  s.set PSQ_STATUS_RETRIES s.pw.retries

/-- Minimum off time in ns (R290, R410). -/
def State.offTime (s : State) (thermal : Bool) : Nat :=
  if thermal then max 0x0A (s.get THM_CFG_COOL_S) * 1000000000 else 100000000

/-- The end step of power-down (Table 10.5): counters lines, log records and folds, the thermal record and the shut-off record are
written; the off timer starts.  A sequencing fault is tried again (R292), a fatal error restarts the device (R386). -/
def State.reachOff (s : State) : State :=
  let rc := s.pw.making
  let cause := rc.cause
  let thermal := cause == 6
  let s := if s.coreOn then s.logRec 0x1001 s.md.mode.code 0 0 0 else s
  let s := match s.th.declared with | some t => { s with ms := { s.ms with therm := some t } } | none => s
  let seqFault := cause == 5
  let left := decide (s.pw.retries < s.get PSQ_SEQ_CFG_RETRY) && s.pw.offPend.isNone
  let restart := s.fc.fatal && s.flag FCL_CTRL_RESTART_EN
  let again := decide (s.get FCL_RESTART_CNT < 3)
  let s := if restart && again then s.bump blkFCL FCL_RESTART_CNT else s
  let s := { s with fc := { s.fc with restartsSpent := restart && !again } }
  let s := s.each s.ev.todo fun _ s => s.dispatch
  let s := (s.drainLog (s.ms.logQ.length + 1)).writeFold.writeCounters
  let s := match s.fw.commit with | some c => s.storeCopy c | none => s
  let spent := (seqFault && !left && s.pw.offPend.isNone)
  let was := s.md.mode
  let s := { s with md := { s.md with mode := .off } }
  let s := (s.set GLB_MODE_STATUS_PREV_MODE was.code).set GLB_MODE_STATUS_MODE 0
  let s := s.enterOff { rc with spent := spent } (s.offTime thermal) (spent || (restart && !again))
  if seqFault && left then
    let s := { s with pw := { s.pw with retries := s.pw.retries + 1 } }
    (s.set PSQ_STATUS_RETRIES s.pw.retries).latchOn false true
  else if restart && again then s.latchOn false
  else s

/-- Drop the enable of the highest step up to `k` that is on, or reach OFF (R293). -/
def State.nextDown (s : State) : Nat → State
  | 0 => s.reachOff
  | k + 1 =>
    let r := stepRail (k + 1)
    if (s.rail r).enabled then { s.dropRail r with pw := { (s.dropRail r).pw with seq := .down (k + 1), stepSince := s.now } } else s.nextDown k

/-- The power-up step in force: the one that runs, else the highest completed. -/
def State.stepNow (s : State) : Nat := match s.pw.seq with | .up k _ => k | _ => s.get PSQ_STATUS_STEP

/-- Power-down begins (Table 10.5 step 0): reset outputs asserted, and a wait for the flash dies when flash is powered. -/
def State.beginDown (s : State) (cause : Nat) : State :=
  match s.pw.seq with
  | .down _ => s
  | _ =>
    let s := (s.assertRsto 0).assertRsto 1
    let s := if s.coreOn then s.each (s.liveChans.filter fun d => !s.flag DMC_CH_STAT_SREF d) fun d s => s.drainAll d else s
    let m := s.pw.making
    let rc : OffRec := { cause := cause, rail := m.rail, dir := m.dir, step := s.stepNow, offInUp := m.offInUp, onInDown := false,
                          spent := false }
    let s := { s with pw := { s.pw with seq := .down 10, stepSince := s.now, making := rc }, md := { s.md with stopped := true, fetchStop := true } }
    let s := s.set PSQ_STATUS_OFF_PEND 1
    let s := s.set HUC_STATUS_CHARGE (if s.coreOn then s.get HUC_STATUS_CHARGE else 0)
    if (s.rail 8).enabled && (s.rail 7).enabled then s else s.nextDown 9

/-- An off request for the sequencer (R293, R294, R296): during power-up the step in progress is finished first. -/
def State.askOff (s : State) (cause : Nat) : State :=
  match s.pw.seq with
  | .down _ => s
  | .up k _ =>
    let s := { s with pw := { s.pw with offPend := s.pw.offPend.or (some cause), making := { s.pw.making with offInUp := true } } }
    let s := s.set PSQ_STATUS_OFF_PEND 1
    if 10 ≤ k then s.beginDown cause else s
  | .idle => if s.coreOn then s.beginDown cause else s

/-- A sequencing fault (R292): counted, recorded, and powered down from the step that failed. -/
def State.seqFault (s : State) (rail : Nat) : State :=
  let s := (s.bump blkPSQ PSQ_SEQFAIL_CNT 0 1 ownPSQ).writeCounter PSQ_SEQFAIL_CNT
  let s := s.raise 156
  let s := { s with pw := { s.pw with making := { s.pw.making with rail := rail, dir := 3 } } }
  s.beginDown 5

/-- A fatal error is captured and counted (Table 14.1). -/
def State.fatalReport (s : State) (addr master type space : Nat) : State :=
  let s := (s.capture addr master type clsFatal space).bump blkFCL FCL_FATAL_CNT
  { s with fc := { s.fc with anyFatal := true, safe := (s.fc.safe.1, true, s.fc.safe.2.2) } }

/-- Force every safe state (R385). -/
def State.forceSafe (s : State) : State := { s with fc := { s.fc with safe := (true, true, true) } }

/-- The immediate shut-off (Table 10.6): safe states, resets, every enable dropped, the record written from AO.  Queued records, folds
and counters not yet written are lost (R395, R397). -/
def State.shutOff (s : State) (cause rail dir : Nat) (therm : Option ThermRec) : State :=
  let s := ((s.forceSafe.assertRsto 0).assertRsto 1)
  let s := if cause = 4 then (s.bump blkPSQ PSQ_FAULT_CNT 0 1 ownPSQ).writeCounter PSQ_FAULT_CNT else s
  let s := { s with ms := { s.ms with logQ := [], foldRep := 0, therm := therm.or s.ms.therm } }
  let rc : OffRec := { cause := cause, rail := rail, dir := dir, step := s.stepNow, offInUp := s.pw.making.offInUp,
                        onInDown := false, spent := false }
  let s := { s with resets := [], hu := { s.hu with dump := none } }
  let s := match s.fw.commit with | some c => s.storeCopy { c with whole := false } | none => s
  s.enterOff rc (s.offTime (cause == 6)) true

/-- A rail fault (Table 10.2, R297). -/
def State.railFault (s : State) (rail dir : Nat) : State :=
  let s := s.fatalReport rail 0x33 9 4
  s.shutOff 4 rail dir none

/-- AO leaves its window: everything is off at once, and nothing is recorded (Table 10.2). -/
def State.aoLost (s : State) : State :=
  let t := { s with ms := { s.ms with logQ := [], foldRep := 0 }, fc := { s.fc with nvFatal := s.fc.nvFatal } }
  let t := { (t.setMode .off).loseVolatile with pw := { PowerState.reset with stored := s.pw.stored, runningMark := s.pw.runningMark } }
  { t with md := { ModeState.reset with mode := .off }, regs := s.ms.counters, ms := { t.ms with logQ := [] }, resets := [] }

/-- The release of the AO power-on reset (R290): the always-on counter starts from 0 and an on request is latched; nothing that a write of a
WO register set in motion goes on (R10). -/
def State.aoReset (s : State) : State :=
  let s := s.aoLost
  let s := { s with unbound := s.unbound.filter fun u => match u with | .wo _ => false | _ => true }
  let armed : Rail := { enabled := false, waiting := false, armed := true, inWindow := true, since := 0 }
  let s := { s with now := 0, hu := { s.hu with validSince := s.hu.validSince.map fun _ => 0 },
                    pw := { s.pw with ao := true, rails := [(0, armed), (10, armed)] } }
  s.latchOn true

/-- An on request, an input valid for 10 ms and the off time passed allow power-up (R290). -/
def State.mayStart (s : State) : Bool :=
  s.pw.ao && s.pw.onLatched && (match s.hu.validSince with | some t => decide (t + 10000000 ≤ s.now) | none => false)
    && (match s.pw.offSince with | some t => decide (t + s.pw.offWait ≤ s.now) | none => true) && (match s.pw.seq with | .idle => true | _ => false) && !s.coreOn

/-- Show an input level and the valid state (R251). -/
def State.validDv (s : State) : Nat := max 0x69 (s.get HUC_SUPPLY_CFG_VALID_DV)

/-- Sag threshold of the droop guard in 0.25% of CORE nominal (Table 10.14). -/
def State.droopThresh (s : State) : Nat := max 8 (min 0x20 (s.get DRG_CFG_THRESH))

/-- A CORE reading lies below the droop threshold of 0.75 V nominal (R301). -/
def State.sags (s : State) (mv : Nat) : Bool := decide (mv * 400 < 750 * (400 - s.droopThresh))

/-- A droop guard reading (chapter 10, DRG registers). -/
def State.senseCore (s : State) (sensor mv : Nat) : State :=
  let low := s.get DRG_MIN_MV
  (s.set DRG_SENSE mv sensor).set DRG_MIN_MV (if low = 0 then mv else min low mv)

end Sys2Proof.Machine
end

