-- ==== Sys2Proof/Machine/OpsPort.lean ====
section
/-!
DEFINITION. Resets of a host port (R11, R34, R36, R51): the controller reset, link-down, CSTS.RDY.
Assumption log: DEDUCED (9); PRESUMED (16).
-/

namespace Sys2Proof.Machine

/-- CSTS.RDY of a port. -/
def State.rdy (s : State) (p : Nat) : Bool := s.flag (if p = 0 then QEN_STATUS_P0_RDY else QEN_STATUS_P1_RDY)

def State.setRdy (s : State) (p : Nat) (b : Bool) : State := s.setB (if p = 0 then QEN_STATUS_P0_RDY else QEN_STATUS_P1_RDY) b

/-- CSTS.RDY becomes 1 once the device is in RUN, HOLD or SERVICE and the admin queue is usable (R36). -/
def State.showRdy (s : State) : State :=
  s.each s.portList fun p s =>
    if (s.port p).adminOk && s.inModes [.run, .hold, .service] then s.setRdy p true else s

/-- Slots that hold queues of a port. -/
def State.slotsOf (s : State) (p : Nat) : List Nat :=
  (((s.sqs.filter fun e => e.2.port == p).map (·.1)) ++ ((s.cqs.filter fun e => e.2.port == p).map (·.1))).eraseDups

/-- Every I/O queue of a port is deleted with its binding (R34, R310). -/
def State.deleteQueues (s : State) (p : Nat) : State :=
  let l := s.slotsOf p
  let s := { s with sqs := s.sqs.keep fun _ q => q.port != p, cqs := s.cqs.keep fun _ q => q.port != p }
  s.each l fun n s => s.showQueue n

/-- The context owns a codeword's read, directly or through the codeword a peer serves. -/
def State.cwOf (s : State) (ids : List Nat) (c : Cw) : Bool :=
  match c.owner with
  | .host x _ => ids.contains x
  | .peer w _ => (match s.cw w with | some v => (match v.owner with | .host x _ => ids.contains x | _ => false) | none => false)
  | _ => false

/-- Abandon commands without completion (R34, R51): a write all of whose data is in both copies is kept, every other is discarded in
full; reads are withdrawn. -/
def State.abandon (s : State) (ids : List Nat) : State :=
  let s := s.each (s.cd.cws.filter fun e => s.cwOf ids e.2) fun e s => s.endCw e.1
  let s := s.each ids fun i s => s.freeCtx i
  let mine (a : Adm) : Bool := match a.ctx with | some c => ids.contains c | none => false
  s.each (s.zn.adm.filter mine) fun a s =>
    match s.adm a.id with
    | none => s
    | some a =>
      if a.stage = .held ∨ a.stage = .verify then s
      else if a.stage = .waiting ∨ !a.kind.isWrite then s.dropAdm a.id
      else s.discardAdm a

/-- Read-only fields of the warm class that keep what was last latched, captured or counted; every other one shows a state of the device,
and shows it again at once after a reset. -/
def lastValues : List Field :=
  [QEN_CTX_PEAK, SLM_RSTAT_ELAPSED, BPL_ERR_IDX, BPL_ERR_INFO_MASTER, BPL_ERR_INFO_POOL, BPL_ERR_INFO_KIND, LDC_REALLOC_LAST_CH,
   LDC_REALLOC_LAST_DIE, LDC_REALLOC_LAST_BLOCK, XLT_CKPT_NUM_HI, DRG_MIN_MV, DMC_SCRUB_SUM, DMC_LAST_ERR, MPU_SCRUB_SUM, MPU_ERR_ADDR_WORD,
   MPU_ERR_ADDR_MACRO, MPU_ERR_INFO_MASTER, MPU_ERR_INFO_TYPE, MPU_PROPOSE_ROW, MPU_PROPOSE_MACRO, FWS_WEAK_LINE_LINE,
   FWS_WEAK_LINE_CBITS, FWC_CFG_SEQ_HI]

/-- Fields of the warm and slice classes go to their Reset values (R11); those that show a state show it as it is. -/
def State.warmRegs (s : State) : State :=
  { s with regs := s.regs.filter fun e =>
      match fieldOfKey e.1 with
      | some f =>
        !((f.cls == .warm || f.cls == .slice)
          && (f.acc == .rw || f.acc == .rw1c || f.acc == .rw1s || f.acc == .cnt || lastValues.contains f))
      | none => true }

/-- A controller reset of a port (R34).  `full` for a link-down, a Conventional Reset or a function-level reset, which reset its
configuration space too.  The privileged port owns the fields of the control window (R11). -/
def State.controllerReset (s : State) (p : Nat) (full : Bool) : State :=
  let old := s.port p
  let ids := (s.ctxs.filter fun c => c.port == p && c.remote.isNone).map (·.id)
  let s := (s.abandon ids).deleteQueues p
  let s := s.modPort p fun _ =>
    { Port.reset p old.perst with
      cfg := if full then CfgSpace.reset else old.cfg, msixAddr := if full then [] else old.msixAddr,
      msixData := if full then [] else old.msixData, msixOpen := if full then [] else old.msixOpen,
      aqa := if full then 0 else old.aqa, asqBase := if full then 0 else old.asqBase, acqBase := if full then 0 else old.acqBase, errLog := old.errLog, errCount := old.errCount,
      changedNs := old.changedNs, changedZones := old.changedZones }
  let s := { s with wc := { s.wc with flushBy := s.wc.flushBy.filter (· != p) } }
  let s := s.setRdy p false
  let s := (if p = s.privPort then s.warmRegs else s).raise 103
  (s.updatePs.showFetch.showStall p 0).pump

/-- A link-down of a port (R34). -/
def State.linkDown (s : State) (p : Nat) : State :=
  if !s.flag QEN_LINK_UP p then s
  else
    let s := (((s.set QEN_LINK_UP 0 p).set QEN_LINK_RATE 0 p).set QEN_LINK_WIDTH 0 p).set QEN_LINK_FLIT 0 p
    (s.controllerReset p true).raise 96

/-- PHYA or PHYB has failed its re-enable (R289): its enable is dropped, and the host link and the causeway ports stay down until the
next power-on. -/
def State.phyFails (s : State) (rails : List Nat) : State :=
  let s := s.each rails fun r s => s.dropRail r
  let s := ({ s with pw := { s.pw with phyFailed := true } }).portsDown
  (s.each s.portList fun p s => s.linkDown p).raise 156

end Sys2Proof.Machine
end

