-- ==== Sys2Proof/Machine/OpsDetour.lean ====
section
/-!
DEFINITION. Detour, Return and entry to RUN (R126, R167, R253 to R267, R386, R408, R483): building a dump, its units and directories,
its commit and what follows, the restoration, the release of the dump of record and the recovery of zones.
Assumption log: DEDUCED (11, 23, 30, 38, 39, 40, 47); DESIGN CHOICE (79).
-/

namespace Sys2Proof.Machine

/-- Units a slot holds on a die (R256). -/
def slotUnits : Nat := 1008

/-- FLAGS of a dump record (Table 09.2). -/
def DumpRec.flags (r : DumpRec) : Nat :=
  bNat r.superseded + 2 * bNat r.thermal + 4 * bNat r.interrupted + 8 * bNat r.released + 16 * bNat r.isPartial

/-- The slot of the dump of record, if one exists (R258). -/
def State.recordSlot (s : State) : Option Nat :=
  [0, 1].find? fun n => match s.hu.records.look n with | some r => r.committed && !r.released && !r.superseded | none => false

/-- The dirty pairs in the order of R257: single-copy regions first, then the oldest commit. -/
def State.dumpPairs (s : State) : List (Nat × Pair) :=
  let l := sortBy (fun (e : Nat × Pair) => e.2.time * 2 ^ 64 + e.2.seq) (s.wc.pairs.filter fun e => e.2.dirty && e.2.committed)
  let single (e : Nat × Pair) : Bool := e.2.a.isNone || e.2.b.isNone
  l.filter single ++ l.filter fun e => !single e

/-- What the dump keeps of a pair: its valid LBAs, those that neither stand in place nor have been written again (Table 09.1). -/
def State.dumped (s : State) (e : Nat × Pair) : DumpPair :=
  let p := e.2
  let live := if p.conv then s.livePairLbas e.1 p else (p.data.map (·.1)).filter fun l => !p.done.contains l
  { nsid := p.nsid, conv := p.conv, slice := p.slice, route := p.route, seq := p.seq,
    data := p.data.filter (fun (d : Nat × Nat) => live.contains d.1), lost := p.lost.filter live.contains,
    single := p.a.isNone || p.b.isNone }

/-- The slot a Detour dumps into: not that of the dump of record, armed on more of the healthy dies, ties to slot 0. -/
def State.dumpSlot (s : State) : Nat :=
  let n (k : Nat) : Nat :=
    if s.recordSlot = some k then 0
    else 1 + (s.healthyDies.filter fun d => let a := s.hu.armed.lookD d (false, false); if k = 0 then a.1 else a.2).length
  if n 0 < n 1 then 1 else 0

/-- With no slot armed on any die, slot 0 is erased on every dump die that is in service and not unhealthy (Table 09.4). -/
def State.eraseSlots (s : State) : State :=
  if s.healthyDies.isEmpty then
    s.each (s.dumpList.filter fun k => s.inService (k / 32) (k % 32) && !s.hu.unhealthy.contains k) fun k s =>
      (s.modBlock (k / 32) (k % 32) (s.sysBlock k 0) fun b => { b with pe := b.pe + 1 }).armSlot k 0
  else s

/-- Build the dump (R256, R257): the healthy dies with the slot armed, the units shared out among them in turn, and what the slots
cannot hold left undumped. -/
def State.buildDump (s : State) (left : Nat) (fault thermal : Bool) : State :=
  let s := s.eraseSlots
  let slot := s.dumpSlot
  let dies := s.healthyDies.filter fun k => s.slotArmed k slot
  let ps := s.dumpPairs
  let conv := (ps.filter (·.2.conv)).length
  let heads := metaUnits + (conv + 255) / 256 + (s.xl.recs.length + 4095) / 4096
  let cap := slotUnits * dies.length
  let units := min cap (heads + ps.length)
  let kept := ps.take (units - heads)
  let rest := ps.drop (units - heads)
  let n := dies.length
  let q := (List.range n).map fun i =>
    (dies.getD i 0, ((List.range ((units + n - 1 - i) / max 1 n)).map fun j => i + j * n))
  let rc : DumpRec :=
    { dseq := s.hu.dseq + 1, slot := slot, superseded := false, thermal := thermal, interrupted := false, released := false,
      isPartial := decide (units < heads + ps.length), nDies := n, units := units, lossNs := s.now, durUs := 0,
      eStart := s.get HUC_ENERGY_E_U, eEnd := 0, dies := dies, committed := false }
  let d : Dump :=
    { record := rc, left := left, queue := sortBy (·.1) q, busy := [], written := [], used := dies, failed := [], suspect := [], dirBusy := [],
      dirs := [], empty := false, fault := fault, thermal := thermal,
      image := { pairs := kept.map s.dumped, missing := rest.map s.dumped, seq := s.xl.seq, recs := s.xl.recs }, committedAt := none }
  { s with hu := { s.hu with dump := some d, dseq := s.hu.dseq + 1, lossNs := s.now } }

/-- A Detour with nothing to program: it starts in RETURN (Table 09.4, R408). -/
def State.emptyDump (s : State) (thermal : Bool) : State :=
  let rc : DumpRec :=
    { dseq := 0, slot := 0, superseded := false, thermal := thermal, interrupted := true, released := false, isPartial := false, nDies := 0,
      units := 0, lossNs := s.now, durUs := 0, eStart := s.get HUC_ENERGY_E_U, eEnd := 0, dies := [], committed := false }
  let d : Dump :=
    { record := rc, left := Mode.ret.code, queue := [], busy := [], written := [], used := [], failed := [], suspect := [], dirBusy := [],
      dirs := [], empty := true, fault := false, thermal := thermal, image := { pairs := [], missing := [], seq := 0, recs := [] },
      committedAt := none }
  { s with hu := { s.hu with dump := some d, lossNs := s.now } }

/-- DETOUR fixes the commit set (R126): every write whose data is in both copies and whose predecessors settle commits, every other
one is discarded; no command completes. -/
def State.commitSet (s : State) : State :=
  let s := State.pumpLoop (2 * s.zn.adm.length + 2) s
  let s := s.each s.portList fun p s =>
    let down := s.flag QEN_LINK_UP p
    if down then s.linkDown p else s.controllerReset p true
  s.each s.zn.adm fun a s =>
    match s.adm a.id with
    | none => s
    | some a =>
      if a.stage = .verify then s
      else if a.stage = .waiting ∨ !a.kind.isWrite then s.dropAdm a.id
      else s.discardAdm a

/-- The DSC order of Detour (R167): every queued operation but dump programs is withdrawn, every ladder ends, and programs and erases on
dump dies are suspended.  Programs and erases of internal units are put aside, to be issued again if the Detour is superseded. -/
def State.detourFlash (s : State) : State :=
  let s := s.set DSC_STATUS_DETOUR 1
  let s := (s.each s.cd.cws fun e s => s.endCw e.1).trimRelocBufs
  let gone (o : DieOp) : Bool := !o.isDump
  let own (o : DieOp) : Bool := gone o && !o.isRead && (match o.owner with | .move .. => false | .rebuild .. => false | .raw => false | _ => true)
  let aside := (s.fl.dies.map fun e => (e.2.queued.filter own).map fun o => (e.1, o)).flatten
  let s := { s with fl := { s.fl with dies := s.fl.dies.mapVals (fun _ di => di.withdraw gone), copies := [], aside := s.fl.aside ++ aside } }
  s.each s.dumpList fun k s =>
    match (s.die (k / 32) (k % 32)).run with
    | some r => if r.op.isRead || r.op.unsuspendable || r.window.isSome || r.suspending then s else s.suspend (k / 32) (k % 32)
    | none => s

/-- Internal units issue their operations again (R167, R178): what was put aside, and copies of wordlines to other blocks. -/
def State.reissue (s : State) : State :=
  let l := s.fl.aside
  let s := { s with fl := { s.fl with aside := [] } }.each l fun e s => s.queueOp (e.1 / 32) (e.1 % 32) e.2
  let due (set : Bool) (key : Nat) (ms : List Member) : List (Bool × Nat × Nat × Nat) :=
    (List.range ms.length).filterMap fun i => (ms[i]?).bind fun m =>
      if m.old.isSome && !(s.fl.copies.any fun w => w.set == set && w.key == key && w.slot == i) then m.rebuilt.map fun w => (set, key, i, w) else none
  let copies := (s.zn.zones.map fun e => due false e.1 e.2.members).flatten ++ (s.xl.sets.map fun e => due true e.1 e.2.members).flatten
  s.each (copies.filter fun e => match (s.stripeOf e.1 e.2.1).bind fun st => st.members[e.2.2.1]? with
      | some m => decide (e.2.2.2 < m.verified) | none => false) fun e s => s.startCopy e.1 e.2.1 e.2.2.1 e.2.2.2 false

/-- The slice resets that are running are abandoned (R75, Table 01.8 with a thermal shutdown). -/
def State.abandonResets (s : State) : State :=
  { s with resets := [] }.each (s.resets.map fun e : Nat × SliceReset => e.1) fun n s => (s.set SLM_RSTAT_BUSY 0 n).set SLM_RSTAT_HELD 0 n

/-- Enter DETOUR (Table 09.3 steps 1 and 2) on input loss, for an off request that leaves dirty data, a fatal error or a thermal
shutdown. -/
def State.enterDetour (s : State) (off fault thermal : Bool) : State :=
  let m := s.md.mode
  if m != .run && m != .rest && m != .service && m != .ret then s
  else
    let s := s.stopPackWork.finishDeletes
    let s := if m = .ret then s else s.commitSet
    let s := s.abandonCheckpoint
    let s := s.detourFlash
    let left := if m = .service then Mode.service.code else Mode.run.code
    let s := if m = .ret then s.emptyDump thermal else s.buildDump left fault thermal
    let s := ((s.dropRail 3).dropRail 4).portsDown
    let s := { s with md := { s.md with offDetour := off, offSince := none, restStep := none, fetchStop := true,
                                        holdWrite := s.md.holdWrite || s.md.holdEntry.isSome, holdEntry := none } }
    let s := { s with wc := { s.wc with flushBy := [] } }
    let s := if thermal then s.abandonResets
      else s.each (s.resets.map (·.1)) fun n s => s.set SLM_RSTAT_HELD 1 n
    ((s.setMode .detour).hubEval).chargeEval

/-- A dump die may start a program: it runs nothing, or its operation is suspended (Table 09.3 step 3). -/
def State.dumpDieFree (s : State) (k : Nat) : Bool :=
  match (s.die (k / 32) (k % 32)).run with
  | none => true
  | some r => r.window.isSome

/-- The flash pads are not held and the flash runs (R317). -/
def State.dumpPads (s : State) : Bool :=
  !bit (s.get PSC_PAD_HELD) 0 && (match s.md.wake with | none => true | some k => decide (7 < k))

/-- The dump may commit (Table 09.3 step 7). -/
def Dump.mayCommit (d : Dump) : Bool :=
  d.committedAt.isNone && (d.empty || (d.unitsDone && d.dirDies.all d.dirs.contains))

/-- Each dump die starts its next wordline (R260). -/
def State.pace (s : State) : State :=
  s.stepDump fun d =>
    let ready (e : Nat × List Nat) : Bool := !e.2.isEmpty && !d.busy.has e.1 && s.dumpDieFree e.1
    let go := d.queue.filter ready
    { d with busy := go.foldl (fun m (e : Nat × List Nat) => m.put e.1 (e.2.headD 0)) d.busy,
             queue := go.foldl (fun m (e : Nat × List Nat) => m.put e.1 (e.2.drop 1)) d.queue }.startDirs

/-- A dump program ends (R260, R261): 0 verified, 1 failed, 2 its die failed. -/
def Dump.programEnds (d : Dump) (k outcome : Nat) : Dump :=
  if outcome = 2 then (d.dieFails k).startDirs
  else if outcome = 1 then
    let d := { d with suspect := insSorted k d.suspect }
    match d.busy.look k with
    | some u => { d with busy := d.busy.del k, queue := d.queue.put k (u :: d.queue.lookD k []) }
    | none => d
  else
    match d.busy.look k with
    | some u => { d with busy := d.busy.del k, written := d.written.put k (d.written.lookD k [] ++ [u]) }.startDirs
    | none =>
      if d.dirBusy.contains k then { d with dirBusy := d.dirBusy.filter (· != k), dirs := insSorted k d.dirs } else d

/-- A wordline of a dump die's slot is programmed (R256). -/
def State.dumpWordline (s : State) (k : Nat) : State :=
  match s.hu.dump with
  | none => s
  | some d => s.modBlock (k / 32) (k % 32) (s.sysBlock k d.record.slot) fun b =>
      { b with st := if 1023 ≤ b.npp then .full else .opened, npp := min 1024 (b.npp + 1) }

/-- Show the newest dump record (Table 09.16). -/
def State.showRecord (s : State) (r : DumpRec) : State :=
  let s := (s.set HUC_DUMP_LAST_FLAGS (r.flags % 16)).set HUC_DUMP_LAST_MS (satW 16 (r.durUs / 1000))
  match s.recordSlot with
  | some n => (s.set HUC_DUMP_RECORD_SLOT n).set HUC_STATUS_DUMP_PEND 1
  | none => s.set HUC_STATUS_DUMP_PEND 0

/-- Change the record of a slot and show it. -/
def State.modRecord (s : State) (slot : Nat) (f : DumpRec → DumpRec) : State :=
  match s.hu.records.look slot with
  | none => s
  | some r => { s with hu := { s.hu with records := s.hu.records.put slot (f r) } }.showRecord (f r)

/-- Erase a slot wherever it is not armed, to arm it again; that of the dump of record stays (R255, R267).  An erase that a power-off
has lost starts afresh at the next entry to RUN. -/
def State.rearmSlot (s : State) (slot : Nat) : State :=
  let due (k : Nat) : Bool :=
    let di := s.die (k / 32) (k % 32)
    let ops := di.queued ++ (match di.run with | some r => [r.op] | none => [])
    s.inService (k / 32) (k % 32) && !s.hu.unhealthy.contains k && !s.slotArmed k slot
      && !ops.any fun o => o.kind == .erase && o.block == s.sysBlock k slot
  if s.recordSlot = some slot then s
  else s.each (s.dumpList.filter due) fun k s =>
    s.queueOp (k / 32) (k % 32)
      { DieOp.base with kind := .erase, block := s.sysBlock k slot, media := .slc, internal := true, time := s.now, owner := .eraseDump slot }

/-- What follows the commit (Table 09.3 step 8, Table 09.4, R307, R386, R408): OFF, or a wait on a valid input. -/
def State.afterCommit (s : State) (d : Dump) : State :=
  if d.thermal then s.beginDown 6
  else if d.fault ∨ s.md.offDetour then s.beginDown 1
  else if s.hu.validSince.isNone then s.beginDown 3
  else s

/-- The dump commits (R258): record and image stand, or, for a Detour from RETURN, the record of the dump under restoration is marked
as interrupted. -/
def State.commitDump (s : State) : State :=
  match s.hu.dump with
  | none => s
  | some d =>
    if d.empty then
      let s := match s.recordSlot with
        | some n => s.modRecord n fun r => { r with interrupted := true, thermal := r.thermal || d.thermal }
        | none => s
      (s.modDump fun x => { x with committedAt := some s.now }).afterCommit d
    else
      -- no die is left: nothing of the dump stands (R261)
      let none_ := d.dirDies.isEmpty && decide (0 < d.record.units)
      let image := if none_ then { d.image with pairs := [], missing := d.image.pairs ++ d.image.missing } else d.image
      let d := { d with image := image,
                        record := if none_ then { d.record with units := 0, isPartial := true } else d.record }
      let r := { d.record with nDies := d.dirDies.length, dies := d.dirDies, durUs := (s.now - d.record.lossNs) / 1000,
                               eEnd := to32 s.hu.epess, thermal := d.thermal, committed := true }
      let s := { s with hu := { s.hu with
        records := s.hu.records.put r.slot r, images := s.hu.images.put r.slot d.image, detours := s.hu.detours + 1,
        unhealthy := d.suspect.foldl (fun l k => insSorted k l) s.hu.unhealthy } }
      let s := s.each (d.used.filter fun k => d.dirDies.contains k || d.failed.contains k || d.suspect.contains k) fun k s =>
        s.setArmed k r.slot false
      let s := (s.modDump fun x => { x with record := r, committedAt := some s.now }).showRecord r
      let s := ((s.bump blkHUC HUC_DETOUR_CNT).raise 177).history 2
      let saved (t : ThermRec) : ThermRec := { t with saved := true }
      let s := if d.thermal then { s with th := { s.th with declared := s.th.declared.map saved } } else s
      (s.refreshNh).afterCommit d

/-- The dump is abandoned (R262): programs stop, and power is lost with the outcome of a rail fault of the hold-up bus. -/
def State.abandonDump (s : State) : State :=
  let s := ((s.bump blkHUC HUC_ABANDON_CNT).raise 178).modDump fun d => { d with queue := [], busy := [], dirBusy := [] }
  s.shutOff 4 11 1 none

/-- Release the dump of record (R267): FLAGS bit 3, and slots that are not armed are armed again. -/
def State.releaseDump (s : State) : State :=
  let s := match s.recordSlot with
    | none => s
    | some n => s.modRecord n fun r => { r with released := true }
  (s.rearmSlot 0).rearmSlot 1

/-- Data wordlines of a zone that are programmed, in LBA order. -/
def Zone.programmed (z : Zone) (n : Nat) : Bool :=
  match z.members[slotOfMember z.split z.fn (n % z.d)]? with
  | some m => decide (n / z.d < m.verified)
  | none => false

/-- Set a reported zone as R483 says.  A zone that is Offline holds no data and is only reported, and one that is Read Only stays so unless it
becomes Empty.  DESIGN CHOICE (log 79): a Full zone that becomes Closed after its write context was freed takes a free one of its
opener's slice, and has none where there is none. -/
def State.recoverZone (s : State) (key : Nat) : State :=
  match s.zn.zones.look key with
  | none => s
  | some z =>
    if z.state = .offline then s.zoneChanged z.nsid z.z else
    let all := z.zcap / max 1 z.ml
    let top := (List.range all).foldl (fun t n => if z.programmed n then n + 1 else t) 0
    let wp := min z.zcap (top * z.ml)
    let base := z.z * zoneSpan
    let gone := (List.range top).filter fun n => !z.programmed n
    let lost := (gone.map fun n => (List.range z.ml).map fun j => base + n * z.ml + j).flatten
    if wp = 0 then (s.resetZone key z.slice true).zoneChanged z.nsid z.z
    else
      let s := s.modZone key fun z => { z with wp := wp, ap := wp, lost := z.lost ++ lost.map (fun l => (l, l)),
                                               state := if z.state = .readOnly then .readOnly else if wp = z.zcap then .full else .closed,
                                               fillFrom := none }
      let s := s.each (s.wc.pairs.filter fun e => !e.2.conv && e.2.nsid == z.nsid && e.2.data.all fun d => decide (base + wp ≤ d.1)
        && decide (d.1 < base + zoneSpan)) fun e s => s.releasePair e.1
      let s :=
        if z.ctx.isSome || wp = z.zcap then s
        else match s.freeZoneCtx z.slice with
          | some c => { (s.modZone key fun z => { z with ctx := some c }) with zn := { (s.modZone key fun z => { z with ctx := some c }).zn with
              ctxs := s.zn.ctxs.put c key } }
          | none => s
      s.zoneChanged z.nsid z.z

/-- Zones named in the dirty-epoch report are recovered (R483). -/
def State.recoverZones (s : State) : State :=
  if !s.ms.recoverDue then s
  else
    let es := match s.ms.report with | some r => r.entries.filter (·.kind == 1) | none => []
    let s := { s with ms := { s.ms with recoverDue := false } }
    s.each es fun e s => s.recoverZone (zkeyOf e.nsid e.zone)

/-- HOLD causes as `PSC.STATUS` shows them, lowest code first (Table 11.2). -/
def State.holdCause (s : State) : Nat :=
  if s.flag PSC_STATUS_HOLD_NOCFG then 1 else if s.flag PSC_STATUS_HOLD_THERM then 2 else if s.flag PSC_STATUS_HOLD_HOST then 3 else 0

def State.showHold (s : State) : State :=
  let s := s.setB PSC_STATUS_HOLD_HOST (s.flag PSC_CTRL_HOLD_REQ)
  s.set GLB_MODE_STATUS_HOLD_CAUSE (if s.md.mode = .hold then s.holdCause else 0)

/-- Work held over a Detour or an off time goes on at an entry to RUN or SERVICE (R105); a held slice reset at an entry to RUN (R24, R75). -/
def State.resumeWork (s : State) : State :=
  let s := if s.mode = .run then s.each (s.resets.map (·.1)) fun n s => s.set SLM_RSTAT_HELD 0 n else s
  let s := { s with md := { s.md with fetchStop := false } }
  (((s.set DSC_STATUS_DETOUR 0).reissue.beginRecomp).queuedCheckpoint.showFetch.showRebuild).pump

/-- Ports train and controllers become ready on entry to RUN, SERVICE or HOLD (R36, R362). -/
def State.openPorts (s : State) : State := if s.md.mode = .hold ∧ s.flag PSC_STATUS_HOLD_NOCFG then s.showRdy else s.portsStart.showRdy

/-- Enter RUN or SERVICE from BOOT, RETURN or HOLD (R105, R235, R267, R308, R483). -/
def State.enterRun (s : State) (m : Mode) : State :=
  let first := s.md.fresh
  let s := (s.setMode m).showHold
  let s := s.releaseDump.recoverZones
  let s := if first then { s with xl := { s.xl with restartSince := some s.now }, md := { s.md with fresh := false } }.set XLT_STATUS_RESTART 1
    else s
  s.resumeWork.openPorts.hubEval.chargeEval

/-- Enter HOLD (R309). -/
def State.enterHold (s : State) : State :=
  let s := (s.setMode .hold).showHold
  ({ s with md := { s.md with fetchStop := false } }).openPorts.hubEval.chargeEval

/-- HOLD ends when its last cause clears (R309). -/
def State.evalHold (s : State) : State :=
  let s := s.showHold
  if s.md.mode = .hold ∧ !s.md.stopped ∧ s.holdCause = 0 then s.enterRun .run else s

/-- The superseded path (Table 09.4): the record is marked, the slot released and armed again, and the device goes back to the mode it
left with its cache whole. -/
def State.supersede (s : State) : State :=
  match s.hu.dump with
  | none => s
  | some d =>
    let s := (s.bump blkHUC HUC_SUPERSEDE_CNT).raise 179
    let s := if d.empty then s else (s.modRecord d.record.slot fun r => { r with superseded := true, released := true }).rearmSlot d.record.slot
    let s := { s with hu := { s.hu with dump := none } }
    let s := (s.enableRail 3).enableRail 4
    if d.left = Mode.ret.code then (((s.setMode .ret).set DSC_STATUS_DETOUR 0).hubEval).chargeEval
    else
      let s := s.set GLB_MODE_STATUS_SUPERSEDED 1
      let s := (s.setMode (if d.left = Mode.service.code then .service else .run)).resumeWork
      s.openPorts.hubEval.chargeEval

/-- Make a pair again from what a dump or a journal record holds (Table 09.5 steps 4 and 5): it comes after what was restored before it, and
before what is committed from now on; in write-through it was acknowledged before the entry (R137). -/
def State.restorePair (s : State) (d : DumpPair) (dirty : Bool) (lbas : List Nat) : State :=
  match s.takePair { pool := 1, owner := ownerWcu, unit := 2, slice := d.slice, internal := false, gen := 0, seq := 0 } with
  | (none, s) => s
  | (some (i, j), s) =>
    let id := s.wc.nextPair
    let p : Pair :=
      { nsid := d.nsid, conv := d.conv, num := s.freePairNum, slice := d.slice, gen := 0, adm := 0,
        a := some (s.listOf 1 i - 1, i), b := j.map fun j => (s.listOf 1 j - 1, j), data := d.data.filter (fun (e : Nat × Nat) => lbas.contains e.1),
        held := true, committed := true, dirty := dirty, seq := d.seq, pins := 0, releaseHeld := false, done := [], issued := [],
        lost := d.lost, journaled := if dirty then [] else lbas, badCopy := none, time := s.wc.commitSeq + 1, internal := false, route := d.route }
    let s := { s with wc := { s.wc with pairs := s.wc.pairs.put id p, nextPair := id + 1, commitSeq := s.wc.commitSeq + 1,
                                        firstBefore := if s.inWT then s.wc.commitSeq + 1 else s.wc.firstBefore } }
    (s.queueMirror id).serveDram

/-- A dumped pair is lost (R266): its LBAs are marked, the pair counted. -/
def State.losePairOf (s : State) (d : DumpPair) : State :=
  let s := (s.bump blkHUC HUC_UNIT_LOST_CNT).raise 181
  let ls := d.data.map fun (e : Nat × Nat) => e.1
  if d.conv then
    { s with xl := { s.xl with recs := s.xl.recs ++ ls.map fun l =>
        ({ nsid := d.nsid, lba := l, len := 1, lost := true, slice := d.slice, covered := false } : HeldRec) } }
  else s.each ls fun l s => s.modZone (zkeyOf d.nsid (l / zoneSpan)) fun z => { z with lost := z.lost ++ [(l, l)] }

/-- LBAs of restored pairs that the check of R157 found in place are done. -/
def State.settleRestored (s : State) : State :=
  s.each (s.wc.pairs.filter fun e => !e.2.conv) fun e s =>
    let s := s.each (e.2.data.map (·.1)) fun l s =>
      match s.zone e.2.nsid (l / zoneSpan) with
      | none => s
      | some z => if z.programmed (l % zoneSpan / max 1 z.ml) then s.doneLba e.1 l else s
    let s := s.cleanPair e.1
    match s.wc.pairs.look e.1 with
    | some x => if x.data.all fun d => x.done.contains d.1 then s.releasePair e.1 else s
    | none => s

/-- RETURN restores the dump of record and the live journal (Table 09.5 steps 1 to 5); `lost` are units that fail their CRC or the
ladder. -/
def State.restore (s : State) (lost : List Nat) : State :=
  let s :=
    match s.recordSlot.bind s.hu.images.look with
    | none => s
    | some im =>
      let h := im.heads
      let s := { s with xl := { s.xl with seq := max s.xl.seq im.seq, recs := im.recs } }
      let s := s.each (List.range im.pairs.length) fun k s =>
        match im.pairs[k]? with
        | some d => if lost.contains (h + k) then s.losePairOf d else s.restorePair d true (d.data.map fun (e : Nat × Nat) => e.1)
        | none => s
      let s := s.each im.missing fun d s => s.losePairOf d
      s.set HUC_RET_PROG (h + im.pairs.length)
  let s := s.each s.hu.live fun e s =>
    match s.hu.jrecs.look e.1 with
    | none => s
    | some d =>
      let ls := ((List.range d.data.length).filter (bit e.2)).filterMap fun i => (d.data[i]?).map fun (e : Nat × Nat) => e.1
      s.restorePair d false ls
  s.settleRestored

/-- The dirty data RETURN restores, in 64 KiB units: the pairs, and the held records (R232). -/
def State.restoredDirty (s : State) : Nat :=
  match s.recordSlot.bind s.hu.images.look with | some i => i.pairs.length + i.recs.length / 4096 | none => 0

/-- A wordline of a block set cannot be decoded (R157): its footer is not replayed, its set goes to relocation first, and those of its LBAs
that no later row and no restored data holds are lost. -/
def State.loseWordline (s : State) (tag slot wl : Nat) : State :=
  match s.xl.sets.look tag with
  | none => s
  | some b =>
    let mine (k : FootKey) : Bool := let p := setPlace b.split b.fn k.slot; p.slot == slot && p.row == wl
    let gone := b.keys.filter mine
    let s := { s with xl := { s.xl with sets := s.xl.sets.put tag { b with keys := b.keys.filter (!mine ·), closed := true, unprotected := true },
                                        open_ := s.xl.open_.keep fun _ t => t != tag } }
    let newer (k : FootKey) : Bool :=
      (s.xl.sets.any fun e => e.2.keys.any fun x => x.nsid == k.nsid && x.lba == k.lba && decide (k.seq < x.seq))
        || s.wc.pairs.any fun e => e.2.conv && e.2.nsid == k.nsid && e.2.data.has k.lba && decide (k.seq ≤ e.2.seq)
    let recs := (gone.filter (!newer ·)).map fun k =>
      ({ nsid := k.nsid, lba := k.lba, len := 1, lost := true, slice := 0, covered := false } : HeldRec)
    { s with xl := { s.xl with recs := s.xl.recs ++ recs } }

/-- Wordlines found undecodable: their zone member moves to another block, written again from the restored data, or their LBAs are
lost (R157, R243). -/
def State.moveUndecoded (s : State) : State :=
  let l := s.md.undecoded
  let s := { s with md := { s.md with undecoded := [] } }
  s.each l fun w s =>
    match s.ownerOf w.1 w.2.1 w.2.2.1 with
    | some (false, key, slot) =>
      match s.zn.zones.look key with
      | none => s
      | some z =>
        match (List.range z.d).find? fun i => slotOfMember z.split z.fn i == slot with
        | none => s
        | some i =>
          let first := z.z * zoneSpan + (w.2.2.2 * z.d + i) * z.ml
          let ls := (List.range z.ml).map fun j => first + j
          let inCache := ls.all fun l => s.wc.pairs.any fun e => !e.2.conv && e.2.nsid == z.nsid && e.2.data.has l
          if inCache then s.moveMember key slot
          else s.modZone key fun z => { z with lost := z.lost ++ ls.map fun l => (l, l) }
    | some (true, tag, slot) => s.loseWordline tag slot w.2.2.2
    | none => s

/-- RETURN may end (Table 09.5 step 6). -/
def State.mayEndReturn (s : State) : Bool :=
  decide (s.restoredDirty ≤ s.get WCU_LIMIT_L * 1024) || !s.wc.packReady || s.hu.retWaited

/-- RETURN ends (Table 09.5 step 6). -/
def State.endReturn (s : State) (lost : List Nat) : State :=
  let s := (s.restore lost).moveUndecoded
  let s := { s with hu := { s.hu with ret := none, retWaited := false } }
  let s := (s.bump blkHUC HUC_RETURN_CNT).raise 180
  let s := (s.set GLB_MODE_STATUS_RETURNED 1).shareDirty
  let s := if s.holdCause = 0 then s.enterRun .run else s.enterHold
  if s.overLimit then (s.raise 274).relieve else s

end Sys2Proof.Machine
end

