-- ==== Sys2Proof/Machine/OpsIO.lean ====
section
/-!
DEFINITION. I/O commands, whether they come from a queue or from another node: the checks before a command is passed on, where each LBA
of a read lies, reads, writes, zone management, deallocation, and pooled and remote requests (R49 to R54, R64, R95 to R99, R127,
R232, R373 to R377).
Assumption log: DEDUCED (26, 36, 70); PRESUMED (15, 22, 53); DESIGN CHOICE (5).
-/

namespace Sys2Proof.Machine

/-- Starting LBA and length of an I/O command. -/
def Ctx.slba (c : Ctx) : Nat := c.e.dw10 + c.e.dw11 * 2 ^ 32
def Ctx.nlb (c : Ctx) : Nat := c.e.dw12 % 65536 + 1

/-- A context with the fields most have. -/
def Ctx.base : Ctx :=
  { id := 0, port := 0, slot := 0, cqSlot := 0, e := { opc := 0, cid := 0, nsid := 0, dw10 := 0, dw11 := 0, dw12 := 0, dw13 := 0, dw14 := 0, dw15 := 0 },
    slice := 0, gen := 0, cls := 3, fetchNs := 0, deadline := none, raBudget := 0, raRace := false, pasid := none, stage := .fetched,
    status := .success, dw0 := 0, dw1 := 0, remaining := 0, maxCbits := 0, warnCw := 0, step := 0, fromFlash := false, fromCache := false,
    raStarted := false, peersWon := false, heldForCq := false, dmaRetried := false, remote := none, replWait := false, replFailed := false,
    localDone := false }

/-- The ordering deadline of a read (R152): fetch time plus 100 ms without a class deadline. -/
def Ctx.orderBy (c : Ctx) : Nat := c.deadline.getD (c.fetchNs + 100000000)

/-- A context whose generation is no longer its slice's (R72). -/
def State.oldGen (s : State) (c : Ctx) : Bool := c.slot != 0 && s.gen c.slice != c.gen

/-- Opcodes of Table 02.8 that transfer or name LBAs by SLBA and NLB. -/
def rangeOpc (o : Nat) : Bool := o == 0x01 || o == 0x02 || o == 0x08 || o == 0x7D

/-- Opcodes that change a namespace. -/
def writeOpc (o : Nat) : Bool := o == 0x01 || o == 0x08 || o == 0x09 || o == 0x7D

/-- Opcodes of one command set only (Table 02.8). -/
def zonedOpc (o : Nat) : Bool := o == 0x79 || o == 0x7A || o == 0x7D

/-- The replicated binding of a namespace is out of step (R377). -/
def State.outOfStep (s : State) (nsid : Nat) : Bool := match s.bindingOf nsid 2 with | some k => s.flag JNR_BIND_0_OOS k | none => false

/-- Whether an opcode writes data, with a directive in dword 12 (R54). -/
def directiveOpc (o : Nat) : Bool := o == 0x01 || o == 0x08 || o == 0x7D

/-- A write names a directive the namespace does not have enabled (NVMe 2.0). -/
def State.badDirective (s : State) (c : Ctx) : Bool :=
  let d := bits c.e.dw12 23 20
  directiveOpc c.e.opc && decide (c.port < 2) && (decide (1 < d) || (d == 1 && !(s.port c.port).streamsEn.contains c.e.nsid))

/-- Why an I/O command ends before it is passed on: access (R64), existence, attachment and deletion of the namespace (R57), its command
set (R53), a read-only namespace (R246), the partner out of step (R377), transfer size (R50) and range. -/
def State.ioRefusal (s : State) (c : Ctx) : Option NvmeStatus :=
  let o := c.e.opc
  if !s.access c.slice c.e.nsid then some .invalidNamespaceOrFormat
  else
    match s.nspace c.e.nsid with
    | none => some .invalidNamespaceOrFormat
    | some n =>
      if c.remote.isNone ∧ !n.attached c.port then some .invalidNamespaceOrFormat
      else if (match n.deleting with | some d => decide (d < c.id) | none => false) then some .invalidNamespaceOrFormat
      else if (zonedOpc o ∧ !n.zoned) ∨ (o = 0x09 ∧ n.zoned) then some .invalidOpcode
      else if n.writeProtect ∧ writeOpc o then some .nsWriteProtected
      else if (o = 0x01 ∨ o = 0x08 ∨ o = 0x7D) ∧ s.outOfStep c.e.nsid
      then some .internalPathError
      else if rangeOpc o ∧ o != 0x08 ∧ 512 < c.nlb then some .invalidField
      else if s.badDirective c then some .invalidField
      else if rangeOpc o ∧ n.nsze < c.slba + c.nlb then some .lbaOutOfRange
      else if (o = 0x7D ∨ (o = 0x79 ∧ !bit c.e.dw13 8)) ∧ c.slba % zoneSpan != 0 then some .invalidField
      else if o = 0x79 ∧ !bit c.e.dw13 8 ∧ n.nsze ≤ c.slba then some .lbaOutOfRange
      else if o = 0x7A ∧ n.nsze ≤ c.slba then some .lbaOutOfRange
      else none

/-- Where an LBA of a namespace is read from. -/
inductive LbaPlace where
  | zeros
  | lost
  | offline
  | cached (pair : Nat)
  | flash (set : Bool) (key slot row q : Nat) (media : Media)
  deriving DecidableEq, Repr

/-- The committed pair of a zone that holds an LBA. -/
def State.zonePair (s : State) (nsid lba : Nat) : Option (Nat × Pair) :=
  s.wc.pairs.find? fun e => !e.2.conv && e.2.nsid == nsid && e.2.committed && e.2.data.has lba

/-- An LBA offset in the filler of a zone finished early (R98). -/
def Zone.filled (z : Zone) (o : Nat) : Bool := match z.fillFrom with | some f => decide (f ≤ o) | none => false

/-- The place of an LBA of a zoned namespace (R99, R123, R127). -/
def State.zonePlace (s : State) (nsid lba : Nat) : LbaPlace :=
  match s.zone nsid (lba / zoneSpan) with
  | none => .zeros
  | some z =>
    let o := lba % zoneSpan
    if z.state = .offline then .offline
    else if z.wp ≤ o ∨ z.filled o then .zeros
    else if z.lost.any fun r => decide (r.1 ≤ lba) && decide (lba ≤ r.2) then .lost
    else
      match s.zonePair nsid lba with
      | some (p, x) => if x.lost.contains lba then .lost else .cached p
      | none =>
        let p := placeOf z.split z.media z.fn o
        .flash false (zkeyOf nsid (lba / zoneSpan)) p.slot p.row p.q z.media

/-- The place of an LBA of a conventional namespace (R127, R226). -/
def State.convPlace (s : State) (nsid lba : Nat) : LbaPlace :=
  match s.mapGet nsid lba with
  | none => .zeros
  | some .lost => .lost
  | some (.pending _) => .lost
  | some (.cache p _) =>
    match s.wc.pairs.look p with
    | some x => if x.lost.contains lba then .lost else .cached p
    | none => .lost
  | some (.flash tag slot) =>
    match s.xl.sets.look tag with
    | some b =>
      let p := setPlace b.split b.fn slot
      .flash true tag p.slot p.row p.q .tlc
    | none => .lost

def State.lbaPlace (s : State) (nsid lba : Nat) : LbaPlace := if s.isConv nsid then s.convPlace nsid lba else s.zonePlace nsid lba

/-- The codeword of an LBA of a read; on a slot that cannot be read itself it waits for its peers alone (R171). -/
def State.readCw (s : State) (c : Ctx) (lba : Nat) (set : Bool) (key slot row q : Nat) (media : Media) : Option Cw :=
  match (s.stripeOf set key).bind fun st => st.members[slot]? with
  | none => none
  | some m =>
    let y : Cw := { Cw.base with owner := .host c.id lba, slice := c.slice, gen := c.gen, cls := c.cls, internal := false, dl := c.orderBy,
                                 media := media, stripe := some (set, key), slot := slot }
    match s.memberAt m row with
    | some p => some (y.at' p row q)
    | none => some { y.at' (m.ch, m.die, m.block) row q with stage := .peersOnly }

/-- One LBA of a read: served at once, failed, read from the cache, whose pair it pins (R127), or a codeword to be read. -/
def State.readLba (s : State) (c : Ctx) (lba : Nat) : List Nat × State :=
  match s.lbaPlace c.e.nsid lba with
  | .zeros => ([], s.lbaDone c.id lba 0 0 0 false)
  | .lost => ([], s.lbaFailed c.id .unrecoveredReadError 0)
  | .offline => ([], s.lbaFailed c.id .zoneIsOffline 0)
  | .cached p => ([], ((s.pin p).queueHit c.id lba p).getD ((s.pin p).hitFailed c.id p))
  | .flash set key slot row q media =>
    match s.readCw c lba set key slot row q media with
    | some w => let (id, s) := s.addCw w; ([id], s)
    | none => ([], s.lbaFailed c.id .unrecoveredReadError 0)

/-- Whether a read hits the cache. -/
def LbaPlace.hit : LbaPlace → Bool
  | .cached _ => true
  | _ => false

/-- Carry out a Read (R127): zeros and lost LBAs at once, LBAs in the cache by DRAM reads, the others by codewords on their ladder. -/
def State.runRead (s : State) (c : Ctx) : State :=
  let s := (s.issue c.id).modCtx c.id fun x => { x with remaining := c.nlb }
  let ls := (List.range c.nlb).map (c.slba + ·)
  let s := if ls.any fun l => (s.lbaPlace c.e.nsid l).hit then s.bump blkWCU WCU_READ_HIT 0 1 ownWCU else s
  let (ids, s) := ls.foldl (fun (acc : List Nat × State) l => let (i, t) := acc.2.readLba c l; (acc.1 ++ i, t)) ([], s)
  (s.beginReads ids).serveHits

/-- A host read whose transfer failed is run once more from the media: LBAs in the cache come from there again (R352). -/
def State.rereadMedia (s : State) (id : Nat) : State :=
  match s.ctx id with
  | some c => if c.e.opc = 0x02 ∧ c.stage != .done then ((s.each (s.cwsOf id) fun w s => s.endCw w).dropHits id).runRead c else s
  | none => s

/-- The hint tag of a write (R54). -/
def State.hintOf (s : State) (c : Ctx) : Nat :=
  let dtype := bits c.e.dw12 23 20
  let on := decide (c.port < 2) && (s.port c.port).feat.hintEn
  if dtype = 1 ∨ (dtype = 0 ∧ on) then bits c.e.dw13 31 16 else 0

/-- Opcode class of the waypoint key (Table 04.5). -/
def Ctx.opcClass (c : Ctx) : Nat :=
  match c.remote with
  | some (_, _, k) => if 4 ≤ k then k else (if c.e.opc = 0x7D then 1 else if c.e.opc = 0x08 then 2 else 0)
  | none => if c.e.opc = 0x7D then 1 else if c.e.opc = 0x08 then 2 else 0

/-- A write with a stream identifier opens its stream: at most 16 of a namespace and 256 of a port are open, the oldest of which gives
way (R54). -/
def State.openStream (s : State) (c : Ctx) : State :=
  let id := bits c.e.dw13 31 16
  if bits c.e.dw12 23 20 != 1 ∨ id = 0 ∨ 2 ≤ c.port then s
  else
    let l := (s.port c.port).streams
    let mine := l.filter fun e => e.1 == c.e.nsid
    if mine.contains (c.e.nsid, id) then s
    else
      let l := if 16 ≤ mine.length then (match mine with | e :: _ => l.erase e | [] => l) else l
      let l := if 256 ≤ l.length then l.drop 1 else l
      s.modPort c.port fun pt => { pt with streams := l ++ [(c.e.nsid, id)] }

/-- Carry out a Write, Zone Append or Write Zeroes (R95 to R97): it reaches the zone engine, or the cache of a conventional namespace. -/
def State.runWrite (s : State) (c : Ctx) (data : List Nat) (upsets : List Upset) : State :=
  let kind : AdmKind := if c.e.opc = 0x7D then .append else if c.e.opc = 0x08 then .zeroes else .write
  let bytes := if kind = .zeroes then List.replicate c.nlb 0 else (List.range c.nlb).map fun i => data.getD i 0
  let a : Adm := { id := 0, ctx := some c.id, nsid := c.e.nsid, kind := kind, lba := c.slba, len := c.nlb, slice := c.slice,
                   gen := c.gen, hint := s.hintOf c, opc := c.opcClass, data := bytes, found := none, stage := .waiting, why := .nothing, pairs := [] }
  ((s.openStream c).issue c.id).arriveAdm a upsets

/-- The action a Zone Management Send names (zoned command set). -/
def sendAction (zsa : Nat) : Option AdmKind :=
  if zsa = 1 then some .close else if zsa = 2 then some .finish else if zsa = 3 then some .open else if zsa = 4 then some .reset
  else if zsa = 5 then some .offline else none

/-- Zones a Select All action applies to: those in the states the zoned command set names for it (R94, R98). -/
def selectAll (k : AdmKind) (st : ZState) : Bool :=
  match k with
  | .open => st == .closed
  | .close => st == .implicitOpen || st == .explicitOpen
  | .finish => st == .implicitOpen || st == .explicitOpen || st == .closed
  | .reset => st == .implicitOpen || st == .explicitOpen || st == .closed || st == .full
  | .offline => st == .readOnly
  | _ => false

/-- Carry out a Zone Management Send (R98). -/
def State.runSend (s : State) (c : Ctx) (upsets : List Upset) : State :=
  match sendAction (bits c.e.dw13 7 0) with
  | none => s.complete c.id .invalidField
  | some k =>
    let adm (lba : Nat) : Adm :=
      { id := 0, ctx := some c.id, nsid := c.e.nsid, kind := k, lba := lba, len := 0, slice := c.slice, gen := c.gen, hint := 0,
        opc := 3, data := [], found := none, stage := .waiting, why := .nothing, pairs := [] }
    let s := s.issue c.id
    if bit c.e.dw13 8 then
      let zs := (s.zn.zones.filter fun e => e.2.nsid == c.e.nsid && selectAll k e.2.state).map fun e => e.2.z
      if zs.isEmpty then s.complete c.id .success
      else (s.modCtx c.id fun x => { x with remaining := zs.length }).each zs fun z s => s.arriveAdm (adm (z * zoneSpan)) upsets
    else (s.modCtx c.id fun x => { x with remaining := 1 }).arriveAdm (adm c.slba) upsets

/-- Data an admin or zone management command returns: to host memory, or to the node that asked in RDATA frames of one LBA (R375). -/
def State.sendPage (s : State) (c : Ctx) (bytes : List Nat) : State :=
  match c.remote with
  | none => s.put (.page c.port c.e.cid bytes (s.tag c.port c.pasid))
  | some (node, tag, _) =>
    let n := (bytes.length + 4095) / 4096
    s.each (List.range n) fun i s =>
      s.sendFrame (s.frameOf 0x31 node tag (bNat (i == 0) + 2 * bNat (i + 1 == n)) (4096 * i) (padTo (bytes.drop (4096 * i)) 4096))

/-- A zone descriptor (zoned command set); a zone that takes no write has its write pointer at all ones. -/
def State.zoneDescriptor (s : State) (nsid z : Nat) : List Nat :=
  let st := s.zstate nsid z
  let wp := match s.zone nsid z with
    | some r => if st = .full ∨ st = .readOnly ∨ st = .offline then 2 ^ 64 - 1 else z * zoneSpan + r.wp
    | none => z * zoneSpan
  [2, 16 * st.code] ++ zeros 6 ++ le 8 (s.zcap nsid z) ++ le 8 (z * zoneSpan) ++ le 8 wp ++ zeros 32

/-- Zone states a report asks for by its specific field. -/
def reported (zrasf code : Nat) : Bool :=
  zrasf == 0 || (([1, 2, 3, 4, 14, 13, 15][zrasf - 1]?).getD 0) == code

/-- Zone Management Receive: a report of zone descriptors from the zone of SLBA on (zoned command set). -/
def State.zoneReport (s : State) (c : Ctx) (zones : Nat) : List Nat :=
  let len := 4 * (c.e.dw12 + 1)
  let first := c.slba / zoneSpan
  let want (z : Nat) : Bool := reported (bits c.e.dw13 15 8) (s.zstate c.e.nsid z).code
  let all := ((List.range (zones - first)).map (first + ·)).filter want
  let fit := all.take ((len - 64) / 64)
  let n := if bit c.e.dw13 16 then fit.length else all.length
  (le 8 n ++ zeros 56 ++ (fit.map (s.zoneDescriptor c.e.nsid)).flatten).take len

def State.runReceive (s : State) (c : Ctx) : State :=
  let zra := bits c.e.dw13 7 0
  let n := match s.nspace c.e.nsid with | some n => n.nsze / zoneSpan | none => 0
  if zra = 0 ∧ bits c.e.dw13 15 8 ≤ 7 then ((s.issue c.id).sendPage c (s.zoneReport c n)).complete c.id .success else s.complete c.id .invalidField

/-- Held records at which deallocations wait (R232). -/
def maxRecs : Nat := 4194304

/-- The entry of a deallocated LBA becomes Unmapped (R232). -/
def State.unmap (s : State) (nsid lba : Nat) : State :=
  let old := s.mapGet nsid lba
  let s := s.mapPut nsid lba none
  match old with
  | some (.cache q _) => s.settlePair q
  | _ => s

/-- A range is deallocated: its entries become Unmapped, and one record of it is held (R232). -/
def State.deallocate (s : State) (nsid slice lba len : Nat) : State :=
  if len = 0 then s
  else
    let r : HeldRec := { nsid := nsid, lba := lba, len := len, lost := false, slice := slice, covered := false }
    let s := (List.range len).foldl (fun s i => s.unmap nsid (lba + i)) s
    { s with xl := { s.xl with recs := s.xl.recs ++ [r] } }

/-- Dataset Management, deallocate only (R49, R232): with the records full it waits. -/
def State.runDealloc (s : State) (c : Ctx) (ranges : List (Nat × Nat)) : State :=
  let size := match s.nspace c.e.nsid with | some n => n.nsze | none => 0
  let rs := ranges.take (c.e.dw10 % 256 + 1)
  let s := s.readHost c (16 * (c.e.dw10 % 256 + 1))
  if !bit c.e.dw11 2 then (s.issue c.id).complete c.id .success
  else if rs.any fun r => decide (size < r.1 + r.2) then s.complete c.id .lbaOutOfRange
  else if maxRecs ≤ s.xl.recs.length then s
  else
    ((s.issue c.id).each rs fun r s => s.deallocate c.e.nsid c.slice r.1 r.2).complete c.id .success

/-- The ranges in the data of a Dataset Management command: attributes, length and SLBA of each. -/
def parseRanges (data n : Nat) : List (Nat × Nat) :=
  (List.range n).map fun i => (data / 2 ^ (128 * i + 64) % 2 ^ 64, data / 2 ^ (128 * i + 32) % 2 ^ 32)

/-- A command to a pooled namespace goes to the node that holds it (R375). -/
def State.runPooled (s : State) (c : Ctx) (k : Nat) (data : List Nat) : State :=
  let s := s.issue c.id
  let e := { c.e with nsid := s.get JNR_BIND_1_RNSID k + 1 }
  match s.newRequest { for_ := .pooled c.id, dst := s.get JNR_BIND_1_NODE k, type := 0x10, entry := e, data := data, attempts := 1, since := s.now } with
  | some s => s
  | none => (s.raise 135).complete c.id .internalPathError

/-- Carry out an I/O command of a local namespace by its opcode. -/
def State.runLocal (s : State) (c : Ctx) (data : List Nat) (upsets : List Upset) (ranges : List (Nat × Nat)) : State :=
  match s.ioRefusal c with
  | some st => s.complete c.id st
  | none =>
    let o := c.e.opc
    let conv := s.isConv c.e.nsid
    if o = 0x00 then (s.issue c.id).complete c.id .success
    else if conv ∧ o = 0x02 ∧ (!s.convOpen || s.touchesLost c.e.nsid c.slba c.nlb) then s
    else if conv ∧ o = 0x09 ∧ (!s.convOpen || ranges.any fun r => s.touchesLost c.e.nsid r.1 r.2) then s
    else if o = 0x02 then s.runRead c
    else if o = 0x01 ∨ o = 0x08 ∨ o = 0x7D then s.runWrite c data upsets
    else if o = 0x09 then s.runDealloc c ranges
    else if o = 0x79 then s.runSend c upsets
    else if o = 0x7A then s.runReceive c
    else s.complete c.id .invalidOpcode

/-- Carry out an I/O command: on a pooled binding at the node that holds the namespace (R375), else here. -/
def State.runIo (s : State) (c : Ctx) (data : List Nat) (upsets : List Upset) (ranges : List (Nat × Nat)) : State :=
  match s.bindingOf c.e.nsid 1 with
  | some k =>
    if c.remote.isSome then s.runLocal c data upsets ranges
    else if !s.access c.slice c.e.nsid then s.complete c.id .invalidNamespaceOrFormat
    else s.runPooled c k data
  | none => s.runLocal c data upsets ranges

/-- Contexts a slice holds (R41). -/
def State.sliceCtxCount (s : State) (slice : Nat) : Nat := (s.ctxs.filter fun c => c.slot != 0 && c.slice == slice).length

/-- A slice may take another context: budget word 2 (R41, R69). -/
def State.ctxRoom (s : State) (slice : Nat) : Bool := decide (s.sliceCtxCount slice < s.budget slice 2)

/-- A command that writes more than its slice's whole DRAM minimum holds (R139). -/
def State.oversize (s : State) (slice : Nat) (e : SqEntry) : Bool :=
  (e.opc == 0x01 || e.opc == 0x08 || e.opc == 0x7D)
    && decide (s.sliceMin 1 slice < 2 * (chunkLbas (e.dw12 % 65536 + 2) (e.dw10 + e.dw11 * 2 ^ 32) (e.dw12 % 65536 + 1)).length)

/-- Serve an admitted request of another node in its slice (R373): no deadline; a slice with no context to give drops it, and the origin
sends it again. -/
def State.serveRemote (s : State) (src tag type : Nat) (e : SqEntry) (slice : Nat) (data : List Nat) : State :=
  if !s.ctxRoom slice then s
  else
    let cls := if type = 0x11 then 5 else if type = 0x12 then 4 else 0
    let c : Ctx := { Ctx.base with id := s.nextCtx, port := 2, slot := 4097, e := e, slice := slice, gen := s.gen slice, fetchNs := s.now,
                                   remote := some (src, tag, cls) }
    let s := { s with ctxs := s.ctxs ++ [c], nextCtx := s.nextCtx + 1 }
    if s.oversize slice e then s.complete c.id .internalError
    else s.runLocal c data [] (parseRanges (data.headD 0) (e.dw10 % 256 + 1))

/-- Bindings of Table 16.7 whose result is unpredictable, as far as this node can tell: a pooled binding over a local namespace, two
valid bindings of one LNSID, a replicated binding to the node itself. -/
def State.checkBindings (s : State) : State :=
  let l := (List.range 64).filter fun k => s.flag JNR_BIND_0_V k
  let bad (k : Nat) : Bool :=
    (s.get JNR_BIND_0_KIND k == 1 && (s.nspace (s.get JNR_BIND_0_LNSID k + 1)).isSome)
      || (s.get JNR_BIND_0_KIND k == 2 && s.joined && s.get JNR_BIND_1_NODE k == s.nodeId)
      || l.any fun j => j != k && s.get JNR_BIND_0_LNSID j == s.get JNR_BIND_0_LNSID k
  s.setUnbound .binding (l.any bad)

end Sys2Proof.Machine
end

