-- ==== Sys2Proof/Machine/OpsMode.lean ====
section
/-!
DEFINITION. The power state controller (chapter 11): transitions, off requests and HOLD entry, REST with its wake, the reactions to
input loss, a fatal error, a core halt and thermal shutdown, and the loss of a DRAM channel.
Assumption log: DEDUCED (11, 14, 46, 47, 50, 51, 58, 61).
-/

namespace Sys2Proof.Machine

/-- Show the PLLs locked, clocks running and resets released once a wake-delay step has ended.  The manual gives the bits no places, so
they are free. -/
def State.showClocks (s : State) (step : Nat) : State :=
  s.each [(CRU_PLL_STAT, 0), (CRU_CLK_STAT, 1), (CRU_RST_STAT, 2)] fun e s => s.set e.1 (Config.cruBits e.2 step)

/-- A host command is in flight on a port: it holds a context and is not an event request that waits (R37, R307, R310). -/
def State.busyOn (s : State) (p : Nat) : Bool :=
  s.ctxs.any fun c => c.port == p && !(s.port p).aers.contains c.id

/-- Commands are in flight. -/
def State.inFlight (s : State) : Bool := s.busyOn 0 || s.busyOn 1 || s.ctxs.any fun c => c.remote.isSome

/-- A transition is in progress (R306). -/
def State.inTransition (s : State) : Bool :=
  s.md.holdEntry.isSome || s.md.offSince.isSome || s.md.restStep.isSome || s.md.wake.isSome || s.md.stopped || s.pw.seq != .idle

/-- A mode request is refused (R305, R306). -/
def State.rejectMode (s : State) : State := s.pscEvt PSC_EVT_REQ_REJ

-- REST and its wake

/-- The device rests: REST has been reached and no wake has started (R314). -/
def State.restIdle (s : State) : Bool := s.mode == .rest && s.md.wake.isNone && !(s.rail 1).enabled

/-- A wake starts (R314, R315): it is counted, steps 1 and 2 take no time, and EN_CORE is asserted. -/
def State.startWake (s : State) : State :=
  let s := s.bumpPsc PSC_WAKE_CNT
  let s := { s with md := { s.md with wake := some 3, wakeNext := false } }
  (((s.set CRU_WAKE_US 0 1).set CRU_WAKE_US 0 2).showClocks 2).enableRail 1

def State.wakeBit (s : State) (b : Nat) : State := s.set PSC_WAKE_CAUSE_CAUSE (setBit (s.get PSC_WAKE_CAUSE_CAUSE) b)

/-- A wake source (R312, R314): in REST it sets its bit and the wake starts; during entry the wake follows the entry; a wake under way
goes on. -/
def State.wakeSource (s : State) (b : Nat) : State :=
  if s.md.stopped then s
  else if s.restIdle then (s.wakeBit b).startWake
  else if s.md.restStep.isSome then { s.wakeBit b with md := { (s.wakeBit b).md with wakeNext := true } }
  else s

/-- The time in REST is counted when the mode is left. -/
def State.countRest (s : State) : State := s.bumpPsc PSC_REST_MS ((s.now - s.md.restSince) / 1000000)

/-- REST entry completes (Table 11.3 step 5). -/
def State.restEntered (s : State) : State :=
  let s := s.setMode .rest
  let s := { s with md := { s.md with restStep := none, restSince := s.now } }
  (s.bumpPsc PSC_REST_CNT).dropRail 1

/-- REST entry (Table 11.3 steps 1 to 4): causeway ports stop, DRAM enters self-refresh, the pads are latched, PLLs stop and the rails
drop.  Write queues are drained first (R335). -/
def State.enterRest (s : State) : State :=
  let s := s.portsDown ((List.range 4).filter fun p => bit (s.get PSC_REST_CFG_CW_DROP) p)
  let s := s.set PSC_WAKE_CAUSE_CAUSE 0
  let s := s.each s.liveChans fun d s => (s.drainAll d).set DMC_CH_STAT_SREF 1 d
  let s := (s.set PSC_PAD_HELD 7).showClocks 2
  let s := ((s.dropRail 1).dropRail 3).dropRail 4
  { s with md := { s.md with restStep := some 5, padPend := [] } }

/-- What keeps the device out of REST (R311), the idle time apart. -/
def State.restOk (s : State) : Bool :=
  s.inModes [.run] && !s.inTransition && s.flag PSC_CTRL_REST_EN && !s.inFlight && s.wc.flushBy.isEmpty && s.md.holdWait == false
    && (s.sqs.all fun e => e.2.head == e.2.tail) && (s.portList.all fun p => (s.port p).asq.head == (s.port p).asq.tail)
    && (s.fl.dies.all fun e => e.2.run.isNone && e.2.queued.isEmpty) && s.nextFlush.isNone && s.xl.run.isNone
    && s.xl.restartSince.isNone && s.zn.recompPending.isEmpty && !s.mayRelocate && s.fl.rebuilds.isEmpty && s.fl.copies.isEmpty
    && s.fl.slots.isEmpty && s.fl.slotRun.isNone && (s.fl.chans.all fun e => !e.2.fullRunning) && s.cd.selfTest.isNone && s.cd.cws.isEmpty
    && s.resets.isEmpty && s.zn.adm.isEmpty && decide (s.get THM_STATUS_STEP = 0)
    && ((List.range 4).all fun p => s.cwState p == cwDown || s.cwState p == cwDisabled || bit (s.get PSC_REST_CFG_CW_DROP) p)

/-- The device leaves REST for RUN once step 8 has ended and every pad group is released (R316); a PERST_N assertion in REST takes effect
now (Table 11.5). -/
def State.leaveRest (s : State) : State :=
  if s.mode == .rest && s.md.wake.isNone && (s.rail 1).enabled && s.get PSC_PAD_HELD = 0 && !s.md.stopped then
    let s := s.countRest.setMode .run
    let l := s.md.perstInRest
    let s := s.each l fun p s => s.controllerReset p true
    let s := { s with md := { s.md with perstInRest := [] } }
    s.openPorts.showFetch.hubEval.chargeEval
  else s

/-- A pad group is released: 0 flash, 1 DRAM, 2 management (R316). -/
def State.releasePad (s : State) (g : Nat) : State :=
  let s := s.set PSC_PAD_HELD (clrBit (s.get PSC_PAD_HELD) g)
  if g = 1 then s.each (List.range 4) fun d s => s.set DMC_CH_STAT_SREF 0 d else s

/-- A write of PAD.REL (R316): the group is released once its step of Table 11.6 has ended. -/
def State.askPad (s : State) (g : Nat) : State :=
  if !bit (s.get PSC_PAD_HELD) g then s
  else
    let step := if g = 0 then 7 else if g = 1 then 6 else 3
    match s.md.wake with
    | some k => if k ≤ step ∧ g != 2 then { s with md := { s.md with padPend := insSorted g s.md.padPend } } else s.releasePad g
    | none => s.releasePad g

/-- In DETOUR the Detour engine releases the flash and DRAM groups at the end of step 7; step 8 is not run (R315, R317). -/
def State.detourAwake (s : State) : State :=
  let s := (s.releasePad 1).releasePad 0
  { s with md := { s.md with wake := none, padPend := s.md.padPend.filter (· == 2) } }

/-- Enter DETOUR from any mode that may (R252, R312, R317): REST entry under way is taken to REST, and a wake runs. -/
def State.goDetour (s : State) (off fault thermal : Bool) : State :=
  let s := if s.md.restStep.isSome then s.restEntered else s
  let rest := s.mode == .rest
  let s := if rest then s.countRest else s
  let s := if s.restIdle then s.startWake else s
  let s := s.enterDetour off fault thermal
  if !rest then s
  else match s.md.wake with
    | some k => if 8 ≤ k then s.detourAwake else s
    | none => s.detourAwake

/-- A step of the wake-delay table ends (R315, R316, R289). -/
def State.wakeStep (s : State) (us : Nat) (good : Bool) : State :=
  match s.md.wake with
  | none => s
  | some k =>
    let s := (s.set CRU_WAKE_US us k).showClocks k
    let s := { s with md := { s.md with wakeEnd := s.now } }
    let next (s : State) : State := { s with md := { s.md with wake := some (k + 1) } }
    let pads (g : Nat) (s : State) : State :=
      if s.md.padPend.contains g then { s.releasePad g with md := { (s.releasePad g).md with padPend := s.md.padPend.filter (· != g) } } else s
    if k = 3 then (if good then next (s.armRail 1) else s.railFault 1 3)
    else if k = 4 then (if good then next s else s.railFault 2 3)
    else if k = 6 then next (pads 1 s)
    else if k = 7 then
      if s.mode == .rest then (next (pads 0 s)).enableRail 3 |>.enableRail 4
      else s.detourAwake
    else if k = 8 then
      let s := if good then (s.armRail 3).armRail 4
        else s.phyFails [3, 4]
      ({ s with md := { s.md with wake := none } }).leaveRest
    else next s

-- immediate activation

/-- Every I/O command in flight is complete (R418 step 1). -/
def State.ioIdle (s : State) : Bool := s.ctxs.all fun c => c.slot == 0

/-- Steps 2 and 3 of an immediate activation begin once no command is in flight (R418). -/
def State.activationReady (s : State) : State :=
  if s.fw.activating.isSome ∧ s.fw.restartAt.isNone ∧ s.ioIdle then
    { s with fw := { s.fw with restartAt := some s.now } }.aenAll 2 1 3
  else s

-- off requests and HOLD entry

/-- An off request of the host (R307). -/
def State.offRequest (s : State) : State :=
  match s.pw.seq with
  | .down _ => s
  | .up _ _ => s.askOff 1
  | .idle =>
    if s.md.stopped then s
    else
      let hold (s : State) : State := { s with md := { s.md with offHeld := true } }
      match s.md.mode with
      | .run | .service =>
        if s.md.restStep.isSome then hold { s with md := { s.md with wakeNext := true } }
        else if s.md.offSince.isSome then s
        else
          let s := { s with md := { s.md with offSince := some s.now, fetchStop := true, holdEntry := none, holdWait := false } }
          let s := (s.set PSQ_STATUS_OFF_PEND 1).showFetch
          if s.flag THM_STATUS_WR_FORBID then s.goDetour true false false else s.flushToEmpty 2
      | .rest => if s.restIdle then (hold s).startWake else hold s
      | .boot | .hold => s.beginDown 1
      | .ret | .detour => hold s
      | .off | .watch => s

/-- HOLD entry stops at step 3: fewer than 16 dump dies are healthy (R310, R484). -/
def State.stopHoldEntry (s : State) : State :=
  let s := { s with md := { s.md with holdEntry := none, holdWait := true, fetchStop := false },
                    wc := { s.wc with flushBy := s.wc.flushBy.filter (· != 3) } }
  s.rejectMode.showFetch

/-- HOLD entry starts (R310 steps 1 to 3). -/
def State.startHoldEntry (s : State) : State :=
  let s := { s with md := { s.md with holdEntry := some s.md.mode, holdWait := false, holdWrite := false, fetchStop := true } }
  s.showFetch.flushToEmpty 3

/-- HOLD entry ends (R310 steps 4 and 5). -/
def State.endHoldEntry (s : State) : State :=
  let s := s.each s.portList fun p s => (s.deleteQueues p).raise 103
  let s := { s with md := { s.md with holdEntry := none }, wc := { s.wc with flushBy := s.wc.flushBy.filter (· != 3) } }
  (s.pscEvt PSC_EVT_HOLD_ENTER).enterHold

/-- What a mode's end sets free: an off request that was held (R307), a HOLD_REQ write (R306, R310), the last HOLD cause (R309). -/
def State.afterTransition (s : State) : State :=
  if s.md.stopped then s
  else
    let s := if s.md.offHeld && s.inModes [.run, .service, .hold] then { s with md := { s.md with offHeld := false } }.offRequest else s
    if s.inTransition then s
    else if s.md.holdWrite && s.inModes [.run, .service] && s.flag PSC_CTRL_HOLD_REQ then s.startHoldEntry
    else s.evalHold

/-- A flush to empty has ended (R484): the shutdown, off request or HOLD entry it ran for goes on once its commands have completed. -/
def State.flushedEmpty (s : State) : State :=
  let shut (s : State) (p : Nat) : State :=
    if s.wc.flushBy.contains p ∧ !s.busyOn p then
      let s := { s with wc := { s.wc with flushBy := s.wc.flushBy.filter (· != p) } }
      s.modPort p fun x => { x with shut := .none, shst := 2 }
    else s
  let s := shut (shut s 0) 1
  if s.wc.flushBy.contains 2 ∧ !s.inFlight then
    ({ s with wc := { s.wc with flushBy := s.wc.flushBy.filter (· != 2) }, md := { s.md with offSince := none } }).beginDown 1
  else if s.wc.flushBy.contains 3 ∧ !s.inFlight ∧ s.resets.isEmpty then s.endHoldEntry.afterTransition
  else s

-- input loss, fatal errors, core halts, thermal shutdown

/-- Input loss (R252, R287, R296, R306). -/
def State.inputFails (s : State) : State :=
  let s := ({ s with hu := { s.hu with lost := true, validSince := none } }.set HUC_STATUS_INPUT_VALID 0).inputInside false
  let s := (((s.bump blkPSQ PSQ_OOW_CNT 10 1 ownPSQ).raise 154).raise 176).learnDq
  match s.pw.seq with
  | .down _ => s
  | .up _ _ => s.askOff 2
  | .idle =>
    if s.md.stopped then s
    else match s.md.mode with
      | .off | .watch => s
      | .boot | .hold => s.beginDown 2
      | .run | .service | .ret => if s.md.restStep.isSome then (s.wakeBit 9).goDetour false false false else s.goDetour false false false
      | .rest => (s.wakeBit 9).goDetour false false false
      | .detour =>
        match s.hu.dump with
        | some d => if d.committedAt.isSome ∧ !d.thermal ∧ !d.fault ∧ !s.md.offDetour then s.beginDown 3 else s
        | none => s

/-- A fatal error other than a rail fault and the trip (R386). -/
def State.fatal (s : State) (addr master type space : Nat) : State :=
  let s := s.fatalReport addr master type space
  let s := { s with fc := { s.fc with fatal := true } }
  if s.md.stopped then s
  else match s.md.mode with
    | .run | .service | .rest => { s with fc := { s.fc with dumpSince := some s.now } }.goDetour false true false
    | .boot | .hold => s.beginDown 1
    | .detour | .ret | .off | .watch => s

/-- A firmware core halts (R422): the spare takes over an active core's queue; with no spare, or for the supervisor core (17), the
error is fatal. -/
def State.coreHalt (s : State) (core _cause : Nat) : State :=
  if core = 17 then (s.set FWC_STATUS_SUPV_RUN 0).fatal 0 (core + 1) 0xB 0
  else
    let spare := (List.range 17).find? fun k => s.get FWC_CORE_STATE k == 1
    let st := s.get FWC_CORE_STATE core
    let s := s.set FWC_CORE_STATE 3 core
    if st = 1 then s.set FWC_STATUS_SPARE 0
    else if st != 0 then s
    else match spare with
      | some k =>
        let s := ((s.set FWC_CORE_STATE 0 k).set FWC_CORE_SERVED (s.get FWC_CORE_SERVED core) k).set FWC_STATUS_SPARE 0
        ((s.bump blkFWC FWC_TAKEOVER_CNT 0 1 ownFWC).raise 244).reportUE 0 (core + 1) 0xB 0
      | none => (s.set FWC_STATUS_ACTIVE (s.get FWC_STATUS_ACTIVE - 1)).fatal 0 (core + 1) 0xB 0

/-- Thermal shutdown is declared (R408): the record is made, and the device acts as its mode says. -/
def State.thermalShutdown (s : State) (jmax : Int) (sensor : Nat) (ext : List Int) : State :=
  let quiet := s.mode == .boot || s.mode == .hold || s.mode == .ret
  let t : ThermRec :=
    { immediate := false, saved := false, noSave := quiet, acked := false, mode := s.md.mode.code, jmax := jmax, sensor := sensor,
      hours := s.opHours, ms := s.opRest, cycles := s.get MSM_PWR_CYCLES, ext := ext }
  let s := { s with th := { s.th with declared := some t } }.bump blkTHM THM_SHUT_CNT
  if s.md.stopped then s
  else match s.md.mode with
    | .run | .service | .rest | .ret => s.goDetour false false true
    | .detour =>
      match s.hu.dump with
      | none => s
      | some d =>
        let s := s.modDump fun d => { d with thermal := true, record := { d.record with thermal := true } }
        let s := s.abandonResets
        if d.committedAt.isNone then s
        else
          let s := if d.empty then s
            else { s.modRecord d.record.slot (fun r => { r with thermal := true }) with th := { s.th with declared := some { t with saved := true } } }
          s.beginDown 6
    | .boot | .hold => s.beginDown 6
    | .off | .watch => s

/-- Throttle thresholds in °C: STEP1_C within 80 to 100, STEP2_C within STEP1_C to 110 (Table 14.18). -/
def State.step1C (s : State) : Nat := max 80 (min 100 (s.get THM_CFG_STEP1_C))
def State.step2C (s : State) : Nat := max s.step1C (min 110 (s.get THM_CFG_STEP2_C))

/-- Junction temperature is below STEP1_C (R410). -/
def State.coolEnough (s : State) : Bool := decide (ofTwos 16 (s.get THM_JMAX_READING) < 4 * (s.step1C : Int))

/-- An acknowledgement of the thermal-shutdown record (R410): whether it is accepted, and the state after it. -/
def State.thermAck (s : State) : Bool × State :=
  match s.ms.therm with
  | none => (true, s)
  | some t =>
    if t.acked then (true, s)
    else if s.coolEnough then
      let s := ({ s with ms := { s.ms with therm := some { t with acked := true } } }.set PSC_STATUS_HOLD_THERM 0).showHold
      (true, if s.inTransition then s else s.evalHold)
    else (false, (s.set THM_STATUS_ACK_REF 1).raise 202)

/-- MODE_TARGET 0x4 (R305, R306): RUN, or, with a HOLD cause, HOLD by the steps of R310, since HOLD has no I/O queues and no dirty
data (R309, R310). -/
def State.targetRun (s : State) : State :=
  if s.inTransition then s.rejectMode
  else if s.mode != .service then s.rejectMode
  else if s.showHold.holdCause = 0 then s.enterRun .run
  else s.showHold.startHoldEntry

/-- MODE_TARGET 0x8 (R305, R306, R308). -/
def State.targetService (s : State) : State :=
  if s.inTransition then s.rejectMode
  else match s.mode with
    | .hold => s.enterRun .service
    | .run => s.setMode .service
    | _ => s.rejectMode

/-- `HOLD_REQ` written 1 (R306, R309, R310). -/
def State.holdOn (s : State) : State :=
  let s := ((s.set PSC_CTRL_HOLD_REQ 1).askCommit).showHold
  if s.inModes [.run, .service] then
    if s.inTransition then { s with md := { s.md with holdWrite := true } } else s.startHoldEntry
  else if s.inModes [.rest, .detour] then { s with md := { s.md with holdWrite := true } }
  else s

/-- `HOLD_REQ` written 0 (R306, R309). -/
def State.holdOff (s : State) : State :=
  let s := ((s.set PSC_CTRL_HOLD_REQ 0).askCommit).showHold
  let s := { s with md := { s.md with holdWait := false, holdWrite := false } }
  if s.inTransition then s else s.evalHold

/-- The 130 °C trip (R409): an immediate shut-off with cause 0x6. -/
def State.thermalTrip (s : State) (sensor : Nat) : State :=
  let t : ThermRec :=
    { immediate := true, saved := false, noSave := false, acked := false, mode := s.md.mode.code, jmax := 520, sensor := sensor,
      hours := s.opHours, ms := s.opRest, cycles := s.get MSM_PWR_CYCLES,
      ext := (List.range 8).map fun k => ofTwos 16 (s.get THM_EXT_READING k) }
  (s.fatalReport sensor 0x32 0xA 5).shutOff 6 0 0 (some t)

-- loss of DRAM

/-- DRAM of the live channels in GiB (Table 12.1). -/
def State.dramGib (s : State) : Nat := s.liveChans.foldl (fun n d => n + [0, 16, 32, 32].getD (s.pop d) 0) 0

/-- A DRAM channel is lost in operation (R341, R124, R238): XLT takes pool buffers for the lost map segments, the pool loses the channel's
buffers, reserves are computed anew. -/
def State.loseDram (s : State) (d : Nat) : State :=
  if s.flag DMC_CH_STAT_LOST d then s
  else
    let s := s.set DMC_CH_STAT_LOST 1 d
    let s := (s.set DMC_EVT_LOST 1 d).raise (83 + 4 * d)
    let s := s.each ((s.dchan d).scrub.toList ++ (s.dchan d).scrubQ) fun r s => s.ticketEnd r.ticket 4 0
    let s := s.set DMC_STATUS_SCRUB_BUSY (clrBit (s.get DMC_STATUS_SCRUB_BUSY) d)
    let hits := ((s.dchan d).all.filter fun q => q.use.isSome).map (·.use)
    let s := (s.set DMC_CH_STAT_REPAIR 0 d).modDchan d DChan.kept
    let live := s.liveChans
    let n := s.xl.gib * 4096
    let s := s.each (List.range live.length) fun i s =>
      State.takeMany (1 + live.getD i 0) ((n + live.length - 1 - i) / live.length) s
    let s := { s with pool := { s.pool with taken := s.pool.taken.put d n } }
    let s := s.sizePools (s.pool.per * (s.pool.chans.filter live.contains).length) (s.pool.taken.foldl (fun (n : Nat) (e : Nat × Nat) => n + e.2) 0)
    let s := (s.loseChannelPairs d).beginMapRebuild (s.allSegs.filter fun k => segChan k == d)
    let s := if s.wc.started then s.recomputeLimit else s
    (s.each hits fun u s => s.rehit u).serveHits

/-- A map segment is lost (R330): it is rebuilt as after the loss of a channel (R238). -/
def State.segmentBad (s : State) (nsid seg : Nat) : State :=
  match s.segOf nsid (seg * segLbas) with
  | some k => s.beginMapRebuild [k]
  | none => s

end Sys2Proof.Machine
end

