-- ==== Sys2Proof/Machine/OpsPage.lean ====
section
/-!
DEFINITION. Log pages and Identify data (Tables 02.9, 02.3, 04.2).  Where a field of a page stands is that of NVMe 2.0; a byte that
neither this spec nor a value of the model gives is free.
Assumption log: DEDUCED (37); PRESUMED (15); DESIGN CHOICE (60).
-/

namespace Sys2Proof.Machine

/-- `n` bytes with some parts given, and the bytes of a free number elsewhere. -/
def overlay (f n : Nat) (parts : List (Nat × List Nat)) : List Nat :=
  (List.range n).map fun i =>
    match parts.find? fun p => decide (p.1 ≤ i) && decide (i < p.1 + p.2.length) with
    | some p => p.2.getD (i - p.1) 0
    | none => f / 256 ^ i % 256

/-- A page of `n` bytes whose other bytes are free. -/
def State.openPage (s : State) (n : Nat) (parts : List (Nat × List Nat)) : List Nat × State :=
  let (f, s) := s.free
  (overlay f n parts, s)

/-- The queue identifier of a slot on its port (R38). -/
def qidOf (p slot : Nat) : Nat := if p = 1 ∧ slot != 0 then slot - 2048 else slot

/-- Log page 01h: 64 entries, newest first; those of no error are zeros (NVMe 2.0). -/
def State.errorPage (s : State) (p : Nat) : List Nat × State :=
  let (l, s) := (s.port p).errLog.foldl (fun (acc : List Nat × State) e =>
    let (b, t) := acc.2.openPage 64 [(0, le 8 e.count), (8, le 2 (qidOf p e.slot)), (10, le 2 e.cid), (12, le 2 (2 * statusCode e.status))]
    (acc.1 ++ b, t)) ([], s)
  (padTo l 4096, s)

/-- A temperature of SMART in kelvin from a reading in 1/4 °C (R407). -/
def kelvinOf (q : Int) : Nat := (q / 4 + 273).toNat

/-- Log page 02h: critical warnings (R242, R246, R407), temperatures, spare, hours and cycles (R395). -/
def State.smartPage (s : State) (p : Nat) : List Nat × State :=
  let (w, s) := s.free
  let warn := bNat (decide (s.availableSpare < 10)) + 2 * bNat (s.th.crossed.any fun x => x.1 == p) + 4 * (w % 2)
    + 8 * bNat (s.flag XLT_STATUS_RO_CONV) + 16 * (w / 2 % 2)
  let ext := (List.range 8).map fun k => le 2 (if s.flag THM_EXT_VALID k then kelvinOf (ofTwos 16 (s.get THM_EXT_READING k)) else 0)
  s.openPage 512 [(0, [warn]), (1, le 2 (kelvinOf (ofTwos 16 (s.get THM_JMAX_READING)))), (3, [s.availableSpare]), (4, [10]),
    (112, le 16 (s.get MSM_PWR_CYCLES)), (128, le 16 s.opHours), (176, le 16 (s.port p).errCount), (200, ext.flatten)]

/-- The revision held in a slot. -/
def State.slotRev (s : State) (n : Nat) : Nat := match s.slotImage n with | some i => i.rev | none => Config.slotRevision n

/-- Log page 03h (R414): active slot, the slot of the selector where it is another, and the revisions. -/
def State.firmwarePage (s : State) : List Nat :=
  let run := s.get FWS_STATUS_SLOT_RUN
  let next := match s.selector with | some r => if r.active = run then 0 else r.active | none => 0
  padTo ([run + 16 * next] ++ zeros 7 ++ le 8 (s.slotRev 1) ++ le 8 (s.slotRev 2)) 512

/-- Log page 04h. -/
def State.changedNsPage (s : State) (p : Nat) : List Nat := padTo (((s.port p).changedNs.map (le 4)).flatten) 4096

/-- Log page 05h: each opcode of Tables 02.7 and 02.8 is supported; what it affects is given by no table and free. -/
def State.effectsPage (s : State) (admin io : Nat → Bool) : List Nat × State :=
  let (f, s) := s.free
  let row (k : Nat) (b : Bool) : List Nat := le 4 (if b then 1 + 2 * (f / 2 ^ (31 * k) % 2 ^ 31) else 0)
  (padTo (((List.range 256).map fun o => row o (admin o)).flatten ++ ((List.range 256).map fun o => row (256 + o) (io o)).flatten) 4096, s)

/-- Log page BFh of a namespace: the number of zones, or all ones beyond 511, and their first LBAs. -/
def State.changedZonesPage (s : State) (p nsid : Nat) : List Nat :=
  let l := ((s.port p).changedZones.filter fun e => e.1 == nsid).map (·.2)
  padTo (le 2 (if 511 < l.length then 0xFFFF else l.length) ++ zeros 6 ++ ((l.take 511).map fun z => le 8 (z * zoneSpan)).flatten) 4096

/-- A late-fault record (Table 03.5). -/
def lateBytes (r : LateRec) : List Nat :=
  le 2 r.slot ++ le 2 r.cid ++ [r.slice % 256, r.opcode % 256, r.flags % 256, r.step % 8] ++ le 2 r.gen ++ le 2 r.nsid ++ le 8 r.slba ++ le 8 r.fetchNs
    ++ le 4 r.lateNs

/-- The header of log page C1h (Table 03.4). -/
def State.lateHeader (s : State) : List Nat :=
  le 8 s.lateTotal ++ le 2 s.late.length ++ [bNat (s.flag TLG_STATUS_OVERWRITTEN)] ++ zeros 5

/-- Log page C1h (R80). -/
def State.latePage (s : State) : List Nat := s.lateHeader ++ (s.late.map lateBytes).flatten

/-- The highest erase count of the blocks of a stripe (Table 08.4). -/
def State.peMax (s : State) (members : List Member) : Nat :=
  members.foldl (fun n m => max n (s.block m.ch m.die m.block).pe) 0

/-- A wear record (Table 08.4). -/
def State.wearBytes (s : State) (nsid zone state : Nat) (media : Media) (split awaits moved unprot : Bool) (members : List Member) (w : Wear) : List Nat :=
  let flags := media.code + 4 * bNat split + 8 * bNat awaits + 16 * bNat moved + 32 * bNat w.warned + 64 * bNat unprot
  let age := match w.firstHour with | some h => s.opHours - h | none => 0
  padTo (le 4 nsid ++ le 4 zone ++ [state, flags] ++ le 2 (satW 16 (s.peMax members)) ++ le 4 (satW 32 age) ++ le 2 (satW 16 w.cbitsMax)
    ++ le 2 (satW 16 w.cbitsAvg) ++ [satW 8 w.stepMax, satW 8 w.driftMax]
    ++ le 2 (satW 16 (w.reads / 65536)) ++ le 4 (satW 32 w.recov)) 32

/-- A slot awaits rebuild: its die failed, and not all its wordlines are copied (R176). -/
def Member.awaits (m : Member) : Bool := m.rebuilt.isSome && m.old.isNone

/-- The wear record of a zone. -/
def State.zoneWear (s : State) (nsid z : Nat) : List Nat :=
  let w := s.xl.wearZones.lookD (zkeyOf nsid z) Wear.fresh
  match s.zone nsid z with
  | some r => s.wearBytes nsid z r.state.code r.media r.split (r.members.any (·.awaits)) (r.members.any (·.moved)) false r.members w
  | none => s.wearBytes nsid z 1 .qlc false false false false [] w

/-- The wear record of a block set. -/
def State.setWear (s : State) (tag : Nat) (b : BlockSet) : List Nat :=
  s.wearBytes 0 tag 0 .tlc b.split (b.members.any (·.awaits)) (b.members.any (·.moved)) b.unprotected b.members
    (s.xl.wearSets.lookD tag Wear.fresh)

/-- Log page C2h (R247); none where the NSID has none. -/
def State.wearPage (s : State) (p nsid : Nat) : Option (List Nat) :=
  let zonesOf (k : Nat) (n : Namespace) : List (List Nat) := (List.range (n.nsze / zoneSpan)).map (s.zoneWear k)
  let recs : Option (List (List Nat)) :=
    if nsid = 0xFFFFFFFF then
      some (((s.ns.filter fun e => e.2.zoned && e.2.attached p).map fun e => zonesOf e.1 e.2).flatten
        ++ (if p = s.privPort then s.xl.sets.map fun e => s.setWear e.1 e.2 else []))
    else match s.nspace nsid with
      | some n => if n.zoned then some (zonesOf nsid n) else none
      | none => none
  recs.map fun l => le 8 l.length ++ le 4 s.opHours ++ zeros 4 ++ l.flatten

-- Identify

/-- The remote Identify data of a pooled binding, presented under its LNSID (R375). -/
def State.remoteIdent (s : State) (nsid : Nat) : Option (List Nat) := (s.bindingOf nsid 1).bind fun k => s.fb.remoteId.look k

/-- NSIDs of a port in ascending order: those attached, and those of pooled bindings; of every namespace where `all`. -/
def State.nsList (s : State) (p : Nat) (all : Bool) : List Nat :=
  let loc := (s.ns.filter fun e => all || e.2.attached p).map (·.1)
  let bound := (List.range 64).filterMap fun k =>
    if s.flag JNR_BIND_0_V k && s.get JNR_BIND_0_KIND k == 1 then some (s.get JNR_BIND_0_LNSID k + 1) else none
  bound.foldl (fun l n => insSorted n l) loc

/-- Identify Namespace of the NVM command set (R50, R56, R57). -/
def State.identNs (s : State) (nsid : Nat) (n : Namespace) : List Nat × State :=
  let used := if n.zoned then s.zn.zones.foldl (fun (k : Nat) (e : Nat × Zone) => if e.2.nsid = nsid then k + e.2.wp else k) 0
    else (s.xl.map.lookD nsid []).length
  s.openPage 4096 [(0, le 8 n.nsze ++ le 8 n.nsze ++ le 8 used), (25, [0, 0]), (30, [1]), (33, [1]), (34, le 2 0x1FF ++ le 2 0x1FF), (40, le 2 0), (44, le 2 0),
    (99, [bNat n.writeProtect]), (128, [0, 0, 12])]

/-- Identify Namespace of the zoned command set (Table 04.2); ZCAP is told by each zone's descriptor. -/
def State.identZns (s : State) : List Nat × State :=
  s.openPage 4096 [(0, le 2 1), (2, le 2 1), (4, le 4 0xBFF), (8, le 4 0xBFF), (12, le 4 0), (16, le 4 0), (2816, le 8 zoneSpan ++ [0])]

/-- Identify Controller (R36, R37, R38, R49, R50, R53, R407, R414, Table 02.10). -/
def State.identCtrl (s : State) (p : Nat) : List Nat × State :=
  let ps (k mw : Nat) : Nat × List Nat := (2048 + 32 * k, le 2 mw ++ [0, 0])
  s.openPage 4096 [(77, [9]), (78, le 2 p), (80, le 4 0x20000), (84, le 4 10000000 ++ le 4 1000000), (258, [3, 15, 0x14]), (262, [63, 3]),
    (266, le 2 373 ++ le 2 398), (270, le 2 0x14), (319, [1]), (512, [0x66, 0x44]), (516, le 4 1024), (525, [0]), (526, le 2 0x1FF ++ le 2 0x1FF),
    ps 0 3400, ps 1 2800, ps 2 2200, ps 3 1600]

/-- A list of identifiers of 4 bytes. -/
def idList (l : List Nat) : List Nat := padTo (((l.take 1024).map (le 4)).flatten) 4096

/-- A controller list: its length and 2 bytes an entry. -/
def ctrlList (l : List Nat) : List Nat := padTo (le 2 l.length ++ (l.map (le 2)).flatten) 4096

/-- What Identify answers: a page, zeros for an NSID that is not active, or a status. -/
inductive Ident where
  | page (b : List Nat)
  | error (st : NvmeStatus)
  deriving DecidableEq, Repr

/-- Identify of a namespace by a builder: an inactive NSID reads as zeros, one that cannot exist is invalid. -/
def State.identOf (s : State) (p nsid : Nat) (all : Bool) (f : State → Namespace → List Nat × State) : Ident × State :=
  if nsid = 0 ∨ 1024 < nsid then (.error .invalidNamespaceOrFormat, s)
  else match s.remoteIdent nsid with
    | some b => (.page (padTo b 4096), s)
    | none =>
      match s.nspace nsid with
      | some n => if all || n.attached p then (let (b, s) := f s n; (.page b, s)) else (.page (zeros 4096), s)
      | none => (.page (zeros 4096), s)

/-- Identify (Table 02.7): CNS, command set and NSID. -/
def State.identify (s : State) (p cns csi nsid : Nat) : Ident × State :=
  let open_ (r : List Nat × State) : Ident × State := (.page r.1, r.2)
  let zonedNs (s : State) (n : Namespace) : List Nat × State := if n.zoned then s.identZns else (zeros 4096, s)
  let common (s : State) (n : Namespace) : List Nat × State := s.openPage 4096 [(1, [1]), (8, [bNat n.writeProtect]), (14, [1])]
  if cns = 0x00 ∨ cns = 0x11 then
    if nsid = 0xFFFFFFFF then open_ (s.openPage 4096 [(25, [0]), (30, [1]), (128, [0, 0, 12])])
    else s.identOf p nsid (cns == 0x11) fun s n => s.identNs nsid n
  else if cns = 0x01 then open_ (s.identCtrl p)
  else if cns = 0x02 then (.page (idList ((s.nsList p false).filter fun n => decide (nsid < n))), s)
  else if cns = 0x10 then (.page (idList ((s.nsList p true).filter fun n => decide (nsid < n))), s)
  else if cns = 0x03 then
    s.identOf p nsid true fun s n =>
      let (b, s) := s.openPage 20 [(0, [2, 16, 0, 0])]
      (padTo (b ++ [4, 1, 0, 0, if n.zoned then 2 else 0]) 4096, s)
  else if cns = 0x05 then
    if csi = 2 then s.identOf p nsid false zonedNs
    else if csi = 0 then s.identOf p nsid false fun s _ => s.openPage 4096 []
    else (.error .invalidField, s)
  else if cns = 0x06 then
    if csi = 2 then open_ (s.openPage 4096 [(0, [9])])
    else if csi = 0 then open_ (s.openPage 4096 [])
    else (.error .invalidField, s)
  else if cns = 0x08 then s.identOf p nsid false common
  else if cns = 0x12 then
    match s.nspace nsid with
    | some n => (.page (ctrlList (s.portList.filter n.attached)), s)
    | none => (.error .invalidNamespaceOrFormat, s)
  else if cns = 0x13 then (.page (ctrlList s.portList), s)
  else if cns = 0x1C then (.page (padTo (le 8 5) 4096), s)
  else (.error .invalidField, s)

end Sys2Proof.Machine
end

