-- ==== Sys2Proof/Machine/OpsQueue.lean ====
section
/-!
DEFINITION. Fetch and completion: arbitration among queues (R44), the context and the tollgate's stamp (R41, R77), the completion entry with
its generation, deadline and interrupt (R46, R48, R72, R79).
Assumption log: DEDUCED (20, 47); PRESUMED (19); DESIGN CHOICE (86).
-/

namespace Sys2Proof.Machine

/-- A port exchanges commands: it is ready, in a mode with the host link open, and host DMA is not stopped (R36, R385). -/
def State.hostOpen (s : State) (p : Nat) : Bool :=
  s.rdy p && s.inModes [.run, .hold, .service] && !s.fc.safe.2.1

/-- Fetch runs on a port (R37, R307, R310). -/
def State.fetchOpen (s : State) (p : Nat) : Bool := s.hostOpen p && (s.port p).shst == 0 && !s.md.fetchStop

/-- A submission queue holds unfetched entries. -/
def Sq.waiting (q : Sq) : Bool := q.head != q.tail

/-- An I/O queue may be fetched from: it holds a command, its completion queue is not stalled, its slice is not under reset and has a
context to give (R41, R44, R47). -/
def State.sqReady (s : State) (q : Sq) : Bool :=
  q.waiting && !s.cqStalled q.port q.cqSlot && !s.underReset (s.queueSlice q) && s.ctxRoom (s.queueSlice q)

/-- The admin queue may be fetched from: 64 contexts of its own (R41). -/
def State.adminReady (s : State) (p : Nat) : Bool :=
  (s.port p).asq.waiting && !s.cqStalled p 0 && decide ((s.ctxs.filter fun c => c.port == p && c.slot == 0).length < 64)

/-- The first element after `k` in round-robin order of an ascending list. -/
def nextAfter (k : Nat) (l : List Nat) : Option Nat := match l.find? (fun x => decide (k < x)) with | some x => some x | none => l.head?

/-- Commands of one turn of a queue: the Arbitration Burst (R44). -/
def State.burst (s : State) (p : Nat) : Nat := let ab := (s.port p).feat.ab % 8; if ab = 7 then 64 else 2 ^ ab

/-- The weights of the high, medium and low classes, zero-based as the Arbitration feature gives them (NVMe). -/
def Features.weights (f : Features) : Nat × Nat × Nat := (f.hpw + 1, f.mpw + 1, f.lpw + 1)

/-- NVMe arbitration within a slice (R44 item 3): round robin, or the urgent class first and then the weighted classes by the credits
they have left, each class in a round robin of its own.  Answers the class, the slot and the credits after it. -/
def State.pickQueue (s : State) (p n : Nat) (l : List (Nat × Sq)) : Option (Nat × Nat × (Nat × Nat × Nat)) :=
  let pt := s.port p
  let last (prio : Nat) : Nat := pt.lastSlot.lookD (4 * n + prio) 0
  let (h, m, w) := pt.credits.lookD n pt.feat.weights
  let of (prio : Nat) : List Nat := (l.filter fun e => e.2.prio == prio).map (·.1)
  let next (prio : Nat) (cr : Nat × Nat × Nat) : Option (Nat × Nat × (Nat × Nat × Nat)) :=
    (nextAfter (last prio) (of prio)).map fun k => (prio, k, cr)
  if pt.ams != 1 then (nextAfter (last 0) (l.map (·.1))).map fun k => (0, k, (h, m, w))
  else match next 0 (h, m, w) with
    | some x => some x
    | none =>
      let pick (h m w : Nat) : Option (Nat × Nat × (Nat × Nat × Nat)) :=
        if 0 < h ∧ !(of 1).isEmpty then next 1 (h - 1, m, w)
        else if 0 < m ∧ !(of 2).isEmpty then next 2 (h, m - 1, w)
        else if 0 < w ∧ !(of 3).isEmpty then next 3 (h, m, w - 1)
        else none
      match pick h m w with
      | some x => some x
      | none => let (h, m, w) := pt.feat.weights; pick h m w

/-- Ready I/O queues of a port. -/
def State.readyQueues (s : State) (p : Nat) : List (Nat × Sq) := s.sqs.filter fun e => e.2.port == p && s.sqReady e.2

/-- The I/O queue a port fetches from next (R44): the turn in progress goes on, else the next slice in turn and the queue that its
arbitration gives.  Answers the slot, and the port's place in the rotation after it. -/
def State.fetchTurn (s : State) (p : Nat) : Option (Nat × Port) :=
  let pt := s.port p
  let l := s.readyQueues p
  let goesOn : Option Nat := match pt.turn with
    | some (k, left) => if 0 < left ∧ l.any (fun e => e.1 == k) then some k else none
    | none => none
  match goesOn, pt.turn with
  | some k, some (_, left) => some (k, { pt with turn := some (k, left - 1) })
  | _, _ =>
    let slices := l.foldl (fun acc e => insSorted (s.queueSlice e.2) acc) []
    match nextAfter pt.lastSlice slices with
    | none => none
    | some n =>
      match s.pickQueue p n (l.filter fun e => s.queueSlice e.2 == n) with
      | none => none
      | some (prio, k, cr) =>
        some (k, { pt with lastSlice := n, lastSlot := pt.lastSlot.put (4 * n + prio) k, credits := pt.credits.put n cr, turn := some (k, s.burst p - 1) })

/-- Admin opcodes of Table 02.7, and those of them that only the privileged port takes (R33). -/
def adminOpc (o : Nat) : Bool :=
  [0x00, 0x01, 0x02, 0x04, 0x05, 0x06, 0x08, 0x09, 0x0A, 0x0C, 0x0D, 0x10, 0x11, 0x15, 0x19, 0x1A, 0xC1].contains o
def privOpc (o : Nat) : Bool := [0x0D, 0x10, 0x11, 0x15, 0xC1].contains o

/-- I/O opcodes of Table 02.8. -/
def ioOpc (o : Nat) : Bool := [0x00, 0x01, 0x02, 0x08, 0x09, 0x79, 0x7A, 0x7D].contains o

/-- Take a context for a fetched command. -/
def State.takeCtx (s : State) (c : Ctx) : State := { s with ctxs := s.ctxs ++ [{ c with id := s.nextCtx }], nextCtx := s.nextCtx + 1 }

/-- Entries that one read of a submission queue may bring (Table 02.13): 1 to 8; every other value acts as 8. -/
def State.prefetch (s : State) : Nat := let n := s.get QEN_PORT_CFG_PREFETCH; if 1 ≤ n ∧ n ≤ 8 then n else 8

/-- A turn takes one entry of a submission queue; where the last queue read brought no more, another reads as many as it may and never
beyond the tail (R45). -/
def State.takeEntry (s : State) (p slot : Nat) (q : Sq) : State :=
  let n := if 0 < q.ahead then q.ahead else min s.prefetch ((q.tail + q.size - q.head) % q.size)
  let s := if 0 < q.ahead then s else s.put (.entryRead p q.qid q.head n (s.tag p q.pasid))
  s.modSq p slot fun q => { q with head := (q.head + 1) % q.size, ahead := n - 1 }

/-- Fetch an admin command (R33, R53): another opcode, or a privileged one on the other port, is an invalid opcode. -/
def State.fetchAdmin (s : State) (p : Nat) (e : SqEntry) : State :=
  let id := s.nextCtx
  let s := s.takeEntry p 0 (s.port p).asq
  let s := s.takeCtx { Ctx.base with port := p, e := e, fetchNs := s.now }
  if !adminOpc e.opc || (privOpc e.opc && p != s.privPort) then s.complete id .invalidOpcode else s

/-- Fetch a command from an I/O queue (R42, R63, R70, R77, R81, R139).  DESIGN CHOICE (log 86): `TLG.CTRL.RA_EN` too is taken at fetch, so that a
0 written later leaves the read-around of reads in flight as it is. -/
def State.fetchIo (s : State) (p slot : Nat) (e : SqEntry) : State :=
  match s.sqs.look slot with
  | none => s
  | some q =>
    let id := s.nextCtx
    let s := s.takeEntry p slot q
    match s.sliceOf p q.pasid with
    | none => (s.bump blkQEN QEN_UNBOUND_DROP).raiseOnce 112
    | some n =>
      let ra := if s.flag TLG_CTRL_RA_EN then s.get TLG_RA_BUDGET_BUDGET_US q.cls else 0
      let s := s.takeCtx { Ctx.base with
        port := p, slot := slot, cqSlot := q.cqSlot, e := e, slice := n, gen := s.gen n, cls := q.cls, fetchNs := s.now,
        deadline := (classDeadline q.cls).map fun d => s.now + d, raBudget := ra, raRace := s.flag TLG_RA_BUDGET_RACE q.cls, pasid := q.pasid }
      if !ioOpc e.opc then s.complete id .invalidOpcode
      else if s.oversize n e then s.complete id .internalError
      else s

/-- A late-fault record (R79, Table 03.5). -/
def Ctx.lateRec (c : Ctx) (over_ now : Nat) (throttled : Bool) : LateRec :=
  { slot := c.slot, cid := c.e.cid, slice := c.slice, opcode := c.e.opc,
    flags := c.cls + 4 * bNat c.raStarted + 8 * bNat c.peersWon + 16 * bNat c.heldForCq + 32 * bNat throttled
      + 64 * bNat (c.status != .success),
    step := c.step, gen := c.gen, nsid := c.e.nsid, slba := c.e.dw10 + c.e.dw11 * 2 ^ 32, fetchNs := c.fetchNs,
    lateNs := satW 32 (now - over_) }

/-- The tollgate checks a completion (R77, R79, R80). -/
def State.tollgate (s : State) (c : Ctx) : State :=
  match c.deadline with
  | none => s
  | some d =>
    if s.now ≤ d then s
    else
      let s := (s.bump blkTLG TLG_LATE_CLASS c.cls).bump blkTLG TLG_LATE_SLICE c.slice
      let r := c.lateRec d s.now (s.get THM_STATUS_STEP != 0)
      let full := decide (4096 ≤ s.late.length)
      let s := { s with late := (if full then s.late.drop 1 else s.late) ++ [r], lateTotal := satW 64 (s.lateTotal + 1) }
      let s := if full then (s.set TLG_STATUS_OVERWRITTEN 1).raiseOnce 264 else s
      s.raiseOnce (256 + c.cls)

/-- Interrupt a vector of a completion queue: aggregated under Interrupt Coalescing where that applies, else at once (R48). -/
def State.interrupt (s : State) (p : Nat) (q : Cq) : State :=
  let f := (s.port p).feat
  if !q.ien then s
  else if (q.qid = 0 ∧ q.vector = 0) ∨ f.thr = 0 ∨ f.time = 0 ∨ f.cd.contains q.vector then s.sendMsix p q.vector q.pasid
  else
    let (n, t, _) := (s.port p).coalesced.lookD q.vector (0, s.now, none)
    if f.thr ≤ n then (s.modPort p fun pt => { pt with coalesced := pt.coalesced.del q.vector }).sendMsix p q.vector q.pasid
    else s.modPort p fun pt => { pt with coalesced := pt.coalesced.put q.vector (n + 1, t, q.pasid) }

/-- Aggregated interrupts whose time has run out are sent (R48): the aggregation time counts in 100 µs. -/
def State.sendAggregated (s : State) : State :=
  s.each [0, 1] fun p s =>
    let f := (s.port p).feat
    s.each ((s.port p).coalesced.filter fun e => e.2.2.1 + f.time * 100000 ≤ s.now) fun e s =>
      (s.modPort p fun pt => { pt with coalesced := pt.coalesced.del e.1 }).sendMsix p e.1 e.2.2.2

/-- Discard a completion by generation (R72). -/
def State.discardStale (s : State) (c : Ctx) : State :=
  ((s.freeCtx c.id).bump blkSLM SLM_ABORT c.slice).raiseOnce 117

/-- Write the completion entry of a context (R46, R48, R79); an error is noted in the Error Information log. -/
def State.writeEntry (s : State) (c : Ctx) (q : Cq) : State :=
  let head := match s.sq c.port c.slot with | some x => x.head | none => 0
  let s := s.put (.completion c.port q.qid c.e.cid head q.phase c.status c.dw0 c.dw1 (s.tag c.port q.pasid))
  let wrap := decide ((q.tail + 1) % q.size = 0)
  let s := s.modCq c.port c.cqSlot fun q => { q with tail := (q.tail + 1) % q.size, phase := if wrap then 1 - q.phase else q.phase }
  let s := if c.status = .success then s else s.errEntry c c.status
  ((s.interrupt c.port q).tollgate c).freeCtx c.id

/-- Contexts complete internally whose entries go to a completion queue, in the order in which they completed (R46). -/
def State.doneFor (s : State) (p slot : Nat) : List Ctx :=
  (s.doneQ.filterMap s.ctx).filter fun c => c.port == p && c.cqSlot == slot && c.remote.isNone

/-- Post the next completion of a queue (R46, R47, R72). -/
def State.postNext (s : State) (p slot : Nat) : State :=
  match s.cq p slot, s.doneFor p slot with
  | some q, c :: _ =>
    if s.oldGen c then s.discardStale c
    else if q.full then s.each (s.doneFor p slot) fun c s => s.modCtx c.id fun c => { c with heldForCq := true }
    else s.writeEntry c q
  | _, _ => s

/-- The bound PASID of a doorbell's queue refuses the PASID its write carries (R43). -/
def State.badPasid (s : State) (bound pasid : Option Nat) : Bool := s.flag QEN_PORT_CFG_DB_PASID_CHECK && pasid.isSome && bound != pasid

/-- A doorbell write discarded by the PASID check (R43). -/
def State.dropDoorbell (s : State) : State := (s.bump blkQEN QEN_DB_DROP).raiseOnce 102

/-- The events of Table 02.11 for a doorbell of no queue, and for a wrong value. -/
def State.badDoorbell (s : State) (p : Nat) : State := s.aen p 0 0 0x01
def State.badDoorbellValue (s : State) (p : Nat) : State := s.aen p 0 1 0x01

/-- Every command of a port has been finished, and what its shutdown waits for has happened (R37). -/
def State.shutdownEnds (s : State) (p : Nat) : State :=
  { s with wc := { s.wc with flushBy := s.wc.flushBy.filter (· != p) } }.modPort p fun x => { x with shut := .none, shst := 2 }

end Sys2Proof.Machine
end

