-- ==== Sys2Proof/Machine/OpsAdmin.lean ====
section
/-!
DEFINITION. The admin commands (R39, R40, R53 to R57, R62): queues, log pages, Identify, Abort, features, event requests, namespaces,
directives.
Assumption log: DEDUCED (70); PRESUMED (15, 18, 19); DESIGN CHOICE (17, 76).
-/

namespace Sys2Proof.Machine

/-- A fetched admin command of an opcode that has not been carried out, in a mode that serves the admin queue. -/
def State.adminCtx (s : State) (id opc : Nat) (p : Ctx → Bool) : Option Ctx :=
  if !s.inModes [.run, .hold, .service] then none
  else match s.ctx id with
    | none => none
    | some c =>
      if c.slot == 0 && c.port < 2 && c.stage == .fetched && c.e.opc == opc && !(s.port c.port).aers.contains id && p c then some c else none

-- queues

/-- Whether the mode lets queues be created (R40). -/
def State.queueMode (s : State) : Bool := s.inModes [.run, .service]

/-- The PASID of a queue creation, command dword 13 (Table 02.4). -/
def pasidOf (e : SqEntry) : Option Nat := if bit e.dw13 31 then some (bits e.dw13 19 0) else none

/-- I/O queues of a slice: submission and completion queues (R38, R65). -/
def State.sqCount (s : State) (n : Nat) : Nat := (s.sqs.filter fun e => s.sliceOf e.2.port e.2.pasid == some n).length
def State.cqCount (s : State) (n : Nat) : Nat := (s.cqs.filter fun e => s.sliceOf e.2.port e.2.pasid == some n).length

/-- What dword 13 of a queue creation may not name (R31, Table 02.4): bits that must be 0, and a PASID while PASID Enable is 0.  The
manual gives the two refusals no status; Invalid Field in Command is DESIGN CHOICE 76. -/
def State.badDword13 (s : State) (p : Nat) (e : SqEntry) : Bool :=
  bits e.dw13 30 22 != 0 || ((pasidOf e).isSome && !(s.port p).cfg.pasidEnable)

/-- The slice a new submission queue is served in, or why it has none (R31, R62). -/
def State.newQueueSlice (s : State) (p : Nat) (e : SqEntry) : Except NvmeStatus Nat :=
  if s.badDword13 p e then .error .invalidField
  else match s.sliceOf p (pasidOf e) with
    | some n => .ok n
    | none => .error .invalidField

/-- The queue-pair share of a slice is used up by completion queues (R38, R65); a PASID that maps to no slice has none to use up. -/
def State.cqShareFull (s : State) (p : Nat) (e : SqEntry) : Bool :=
  match s.sliceOf p (pasidOf e) with
  | some n => decide (s.budget n 0 ≤ s.cqCount n)
  | none => false

/-- Checks both queue creations share: mode, identifier and size (R38, R40). -/
def State.newQueue (s : State) (p : Nat) (e : SqEntry) (taken : Nat → Bool) : Option NvmeStatus :=
  let q := bits e.dw10 15 0
  let n := bits e.dw10 31 16
  if !s.queueMode then some .commandSequenceError
  else if q = 0 ∨ s.maxQ < q ∨ taken (slotOf p q) then some .invalidQueueIdentifier
  else if n = 0 ∨ 0xFFF < n then some .invalidQueueSize
  else if !bit e.dw11 0 then some .invalidField
  else none

/-- Create I/O Completion Queue (R39, R40). -/
def State.createCq (s : State) (c : Ctx) : State :=
  let e := c.e
  match s.newQueue c.port e s.cqs.has with
  | some st => s.complete c.id st
  | none =>
    if s.badDword13 c.port e then s.complete c.id .invalidField
    else if s.cqShareFull c.port e then s.complete c.id .invalidQueueIdentifier
    else if 2047 < bits e.dw11 31 16 then s.complete c.id .invalidInterruptVector
    else
      let qid := bits e.dw10 15 0
      let q : Cq := { Cq.empty c.port qid (bits e.dw10 31 16 + 1) with vector := bits e.dw11 31 16, ien := bit e.dw11 1, pasid := pasidOf e }
      { s with cqs := s.cqs.put (slotOf c.port qid) q }.complete c.id .success

/-- Create I/O Submission Queue (R39, R40, R62). -/
def State.createSq (s : State) (c : Ctx) : State :=
  let e := c.e
  match s.newQueue c.port e s.sqs.has with
  | some st => s.complete c.id st
  | none =>
    match s.newQueueSlice c.port e with
    | .error st => s.complete c.id st
    | .ok n =>
      let cqid := bits e.dw11 31 16
      if s.budget n 0 ≤ s.sqCount n ∨ cqid = 0 then s.complete c.id .invalidQueueIdentifier
      else match if cqid ≤ s.maxQ then s.cqs.look (slotOf c.port cqid) else none with
        | none => s.complete c.id .completionQueueInvalid
        | some cq =>
          if cq.pasid != pasidOf e then s.complete c.id .completionQueueInvalid
          else
            let qid := bits e.dw10 15 0
            let slot := slotOf c.port qid
            let q : Sq := { Sq.empty c.port qid (bits e.dw10 31 16 + 1) with
              cqSlot := slotOf c.port cqid, prio := bits e.dw11 2 1, cls := bits e.dw13 21 20, pasid := pasidOf e, slice := n }
            (({ s with sqs := s.sqs.put slot q }.showQueue slot).showFetch).complete c.id .success

/-- Delete I/O Submission Queue: commands of it not yet passed on are aborted, the others go on. -/
def State.deleteSq (s : State) (c : Ctx) : State :=
  let q := bits c.e.dw10 15 0
  let slot := slotOf c.port q
  if q = 0 ∨ s.maxQ < q ∨ !s.sqs.has slot then s.complete c.id .invalidQueueIdentifier
  else
    let s := s.each (s.ctxs.filter fun x => x.port == c.port && x.slot == slot && x.stage == .fetched) fun x s => s.complete x.id .abortedSqDeletion
    ({ s with sqs := s.sqs.del slot }.showQueue slot).complete c.id .success

/-- Delete I/O Completion Queue: refused while a submission queue names it. -/
def State.deleteCq (s : State) (c : Ctx) : State :=
  let q := bits c.e.dw10 15 0
  let slot := slotOf c.port q
  if q = 0 ∨ s.maxQ < q ∨ !s.cqs.has slot then s.complete c.id .invalidQueueIdentifier
  else if s.sqs.any fun e => e.2.port == c.port && e.2.cqSlot == slot then s.complete c.id .invalidQueueDeletion
  else
    let s := s.abandon ((s.ctxs.filter fun x => x.port == c.port && x.cqSlot == slot && x.slot != 0).map (·.id))
    { s with cqs := s.cqs.del slot }.complete c.id .success

-- log pages

/-- Log pages only the privileged port may read. -/
def privPage (lid : Nat) : Bool := lid == 0xC0 || lid == 0xC1 || lid == 0xC3 || lid == 0xC4

/-- The bytes of a log page, or why there are none. -/
def State.logPage (s : State) (p lid nsid : Nat) : Except NvmeStatus (List Nat) × State :=
  let ok (r : List Nat × State) : Except NvmeStatus (List Nat) × State := (.ok r.1, r.2)
  if privPage lid ∧ p != s.privPort then (.error .invalidLogPage, s)
  else if lid = 0x01 then ok (s.errorPage p)
  else if lid = 0x02 then ok (s.smartPage p)
  else if lid = 0x03 then (.ok s.firmwarePage, s)
  else if lid = 0x04 then (.ok (s.changedNsPage p), s)
  else if lid = 0x05 then ok (s.effectsPage (fun o => adminOpc o && (!privOpc o || p == s.privPort)) ioOpc)
  else if lid = 0xBF then (.ok (s.changedZonesPage p nsid), s)
  else if lid = 0xC0 then (.ok s.eventPage, s)
  else if lid = 0xC1 then (.ok s.latePage, s)
  else if lid = 0xC2 then ((match s.wearPage p nsid with | some b => .ok b | none => .error .invalidField), s)
  else if lid = 0xC3 then (.ok s.packPage, s)
  else if lid = 0xC4 then (.ok s.reportPage, s)
  else (.error .invalidLogPage, s)

/-- The event type that reading a page re-arms (Table 02.11). -/
def pageType (lid : Nat) : Option Nat :=
  if lid = 0x01 then some 0 else if lid = 0x02 then some 1 else if lid = 0x03 ∨ lid = 0x04 then some 2 else if lid = 0xBF then some 6
  else if lid = 0xC0 then some 7 else none

/-- Take the queue entries that a read of page C0h returned (R390): those whole within its bytes. -/
def State.takeReturned (s : State) (first len : Nat) : State :=
  let skip := (first + 31 - 16) / 32
  let stop := min s.ev.queue.length ((first + len - 16) / 32)
  let s := { s with ev := { s.ev with queue := s.ev.queue.take skip ++ s.ev.queue.drop (max skip stop) } }
  s.takeEvents 0

/-- What a read of a page with Retain Asynchronous Event clear does (R53, R390): events of its type are told again, and what a change list
told is removed. -/
def State.pageRead (s : State) (p lid nsid first len : Nat) : State :=
  let s := match pageType lid with
    | some t => s.modPort p fun x => { x with aenMasked := x.aenMasked.filter (· != t) }
    | none => s
  if lid = 0x04 then s.modPort p fun x => { x with changedNs := [] }
  else if lid = 0xBF then s.modPort p fun x => { x with changedZones := x.changedZones.filter fun e => e.1 != nsid }
  else if lid = 0xC0 then s.takeReturned first len
  else s

/-- Get Log Page (R53). -/
def State.getLog (s : State) (c : Ctx) : State :=
  let e := c.e
  let lid := bits e.dw10 7 0
  let len := 4 * (bits e.dw10 31 16 + bits e.dw11 15 0 * 65536 + 1)
  let off := e.dw12 + e.dw13 * 2 ^ 32
  match s.logPage c.port lid e.nsid with
  | (.error st, s) => s.complete c.id st
  | (.ok b, s) =>
    if b.length < off then s.complete c.id .invalidField
    else
      let s := s.put (.page c.port e.cid ((b.drop off).take len) .none)
      (if bit e.dw10 15 then s else s.pageRead c.port lid e.nsid off len).complete c.id .success

/-- Identify (R53). -/
def State.runIdentify (s : State) (c : Ctx) : State :=
  match s.identify c.port (bits c.e.dw10 7 0) (bits c.e.dw11 31 24) c.e.nsid with
  | (.error st, s) => s.complete c.id st
  | (.page b, s) => (s.put (.page c.port c.e.cid b .none)).complete c.id .success

/-- Abort (Table 02.7): a command fetched and not yet passed on ends with Abort Requested. -/
def State.runAbort (s : State) (c : Ctx) : State :=
  let q := bits c.e.dw10 15 0
  let slot := if q = 0 then 0 else slotOf c.port q
  match s.ctxs.find? fun x => x.port == c.port && x.slot == slot && x.e.cid == bits c.e.dw10 31 16 && x.id != c.id && x.stage == .fetched with
  | some x =>
    let s := s.modPort c.port fun pt => { pt with aers := pt.aers.filter (· != x.id) }
    (s.complete x.id .abortRequested).complete c.id .success
  | none => s.complete c.id .success 1

-- features

/-- The value of a feature as Get Features answers it (Table 02.10). -/
def Features.word (f : Features) (queues fid dw11 : Nat) : Option Nat :=
  if fid = 0x01 then some (f.ab + f.lpw * 2 ^ 8 + f.mpw * 2 ^ 16 + f.hpw * 2 ^ 24)
  else if fid = 0x02 then some (f.ps + f.wh * 2 ^ 5)
  else if fid = 0x04 then
    let k := bits dw11 19 16
    if 8 < k then none else if bits dw11 21 20 = 0 then some (f.hiC.getD k 0) else if bits dw11 21 20 = 1 then some (f.loC.getD k 0) else none
  else if fid = 0x07 then some (queues - 1 + (queues - 1) * 2 ^ 16)
  else if fid = 0x08 then some (f.thr + f.time * 2 ^ 8)
  else if fid = 0x09 then
    let v := bits dw11 15 0
    if 2047 < v then none else some (v + bNat (f.cd.contains v) * 2 ^ 16)
  else if fid = 0x0B then some f.aec
  else if fid = 0xC0 then some (bNat f.marginEn + f.marginThresh * 2 ^ 16)
  else if fid = 0xC1 then some (bNat f.hintEn)
  else none

/-- Set a temperature threshold: composite, one sensor, or all. -/
def Features.setTemp (f : Features) (v : Nat) : Option Features :=
  let k := bits v 19 16
  let t := bits v 15 0
  let put (l : List Nat) : List Nat := if k = 15 then l.map (fun _ => t) else l.set k t
  if 8 < k ∧ k != 15 then none
  else if bits v 21 20 = 0 then some { f with hiC := put f.hiC }
  else if bits v 21 20 = 1 then some { f with loC := put f.loC }
  else none

/-- Set a feature of a port (Table 02.10); none where the feature or its value is not one. -/
def Features.setWord (f : Features) (fid v : Nat) : Option Features :=
  if fid = 0x01 then some { f with ab := bits v 2 0, lpw := bits v 15 8, mpw := bits v 23 16, hpw := bits v 31 24 }
  else if fid = 0x02 then (if 3 < bits v 4 0 then none else some { f with ps := bits v 4 0, wh := bits v 7 5 })
  else if fid = 0x04 then f.setTemp v
  else if fid = 0x08 then some { f with thr := bits v 7 0, time := bits v 15 8 }
  else if fid = 0x09 then
    let k := bits v 15 0
    if 2047 < k then none else some { f with cd := if bit v 16 then insSorted k f.cd else f.cd.filter (· != k) }
  else if fid = 0x0B then some { f with aec := v % 2 ^ 32 }
  else if fid = 0xC0 then some { f with marginEn := bit v 0, marginThresh := bits v 27 16 }
  else if fid = 0xC1 then some { f with hintEn := bit v 0 }
  else none

/-- Set Features (R53, R38): Number of Queues is answered, whatever is asked, before a queue exists. -/
def State.runSetFeatures (s : State) (c : Ctx) : State :=
  let fid := bits c.e.dw10 7 0
  let v := c.e.dw11
  if bit c.e.dw10 31 then s.complete c.id (.other 0x10D)
  else if fid = 0x07 then
    if !(s.slotsOf c.port).isEmpty then s.complete c.id .commandSequenceError
    else if bits v 15 0 = 0xFFFF ∨ bits v 31 16 = 0xFFFF then s.complete c.id .invalidField
    else s.complete c.id .success (s.maxQ - 1 + (s.maxQ - 1) * 2 ^ 16)
  else match (s.port c.port).feat.setWord fid v with
    | none => s.complete c.id .invalidField
    | some f =>
      let s := (s.modPort c.port fun x => { x with feat := f }).updatePs
      (if fid = 0x04 then s.crossings else s).complete c.id .success

/-- Get Features (R53): the current value; the default, which is also the saved one; or what may be done with the feature. -/
def State.runGetFeatures (s : State) (c : Ctx) : State :=
  let fid := bits c.e.dw10 7 0
  let sel := bits c.e.dw10 10 8
  let f := if sel = 0 then (s.port c.port).feat else Features.reset
  if 3 < sel then s.complete c.id .invalidField
  else match f.word s.maxQ fid c.e.dw11 with
    | none => s.complete c.id .invalidField
    | some v => s.complete c.id .success (if sel = 3 then 4 else v)

/-- Asynchronous Event Request (R55, Table 02.7): up to 16 wait on a port; an event that waits is told at once. -/
def State.runEventRequest (s : State) (c : Ctx) : State :=
  let pt := s.port c.port
  match pt.aens with
  | a :: rest =>
    (s.modPort c.port fun x => { x with aens := rest }).complete c.id .success (a.type + a.info * 256 + a.page * 65536)
  | [] =>
    if 16 ≤ pt.aers.length then s.complete c.id .asyncEventLimitExceeded
    else s.modPort c.port fun x => { x with aers := x.aers ++ [c.id] }

-- namespaces

/-- Why a namespace cannot be created (R56, R91, R225, R229). -/
def State.nsRefusal (s : State) (d : NsData) : Option NvmeStatus :=
  if d.csi != 0 ∧ d.csi != 2 then some .invalidField
  else if d.nsze = 0 ∨ d.ncap != d.nsze ∨ d.flbas != 0 then some .invalidField
  else if d.csi = 0 then
    let u := s.convLbas + d.nsze
    if d.nsze % 262144 != 0 then some .invalidField
    else if 2 ^ 31 < u ∨ s.xl.gib * 2 ^ 28 < u then some .nsInsufficientCapacity
    else if s.zonedPool + convPool s.convLbas < s.zonedReserved + convPool u then some .nsInsufficientCapacity
    else none
  else if d.nsze % zoneSpan != 0 then some .invalidField
  else if s.zonedPool < s.zonedReserved + 16 * (d.nsze / zoneSpan) then some .nsInsufficientCapacity
  else none

/-- The lowest NSID that names no namespace, 1 to 1,024. -/
def State.freeNsid (s : State) : Option Nat := (((List.range 1024).map (· + 1)).find? fun n => !s.ns.has n)

/-- Namespace Management Create (R56, R309). -/
def State.createNs (s : State) (c : Ctx) (d : NsData) : State :=
  if s.mode == .hold then s.complete c.id .commandSequenceError
  else if bits c.e.dw10 3 0 != 0 then s.complete c.id .invalidField
  else match s.nsRefusal d, s.freeNsid with
    | some st, _ => s.complete c.id st
    | none, none => s.complete c.id .nsIdUnavailable
    | none, some k =>
      let n : Namespace := { zoned := d.csi == 2, nsze := d.nsze, attach0 := false, attach1 := false,
                             writeProtect := d.csi == 0 && s.flag XLT_STATUS_RO_CONV, deleting := none }
      let s := { s with ns := s.ns.put k n }
      (((if n.zoned then s else s.takeGranules k n.nsze).nsNotice k).showPool).complete c.id .success k

/-- Namespace Management Delete (R57, R309), of one namespace or of all. -/
def State.deleteNs (s : State) (c : Ctx) : State :=
  let k := c.e.nsid
  let all := k == 0xFFFFFFFF
  let hit (n : Nat) (x : Namespace) : Bool := (all || n == k) && x.deleting.isNone
  if s.mode == .hold then s.complete c.id .commandSequenceError
  else if !all && !(s.ns.any fun e => hit e.1 e.2) then s.complete c.id .invalidNamespaceOrFormat
  else if all && !(s.ns.any fun e => hit e.1 e.2) then s.complete c.id .success
  else
    let mark (n : Nat) (x : Namespace) : Namespace := if hit n x then { x with deleting := some c.id } else x
    ({ s.issue c.id with ns := s.ns.mapVals mark }).settleDeletes

/-- Namespace Attachment (R57, R309): attach to, or detach from, the controllers of a list. -/
def State.attachNs (s : State) (c : Ctx) (l : List Nat) : State :=
  let sel := bits c.e.dw10 3 0
  if s.mode == .hold then s.complete c.id .commandSequenceError
  else if 1 < sel then s.complete c.id .invalidField
  else match s.nspace c.e.nsid with
    | none => s.complete c.id .invalidNamespaceOrFormat
    | some n =>
      if n.deleting.isSome then s.complete c.id .invalidNamespaceOrFormat
      else if l.isEmpty ∨ l.any (fun p => !s.portList.contains p) then s.complete c.id .invalidController
      else if sel = 0 ∧ l.any n.attached then s.complete c.id .nsAlreadyAttached
      else if sel = 1 ∧ l.any (fun p => !n.attached p) then s.complete c.id .nsNotAttached
      else
        let on := sel == 0
        let f (n : Namespace) : Namespace :=
          { n with attach0 := if l.contains 0 then on else n.attach0, attach1 := if l.contains 1 then on else n.attach1 }
        (({ s with ns := s.ns.modify c.e.nsid f }).nsNotice c.e.nsid).complete c.id .success

-- directives

/-- A namespace that a port's commands may name: attached there, and not being deleted (R57). -/
def State.reachable (s : State) (p k : Nat) : Bool :=
  match s.nspace k with | some n => n.attached p && n.deleting.isNone | none => false

/-- Open streams of a namespace on a port. -/
def Port.streamsOf (p : Port) (nsid : Nat) : List Nat := (p.streams.filter fun e => e.1 == nsid).map (·.2)

/-- Directive Send (R53, R54): enable or disable Streams for a namespace, release a stream or its resources. -/
def State.runDirectiveSend (s : State) (c : Ctx) : State :=
  let op := bits c.e.dw11 7 0
  let ty := bits c.e.dw11 15 8
  let k := c.e.nsid
  let known := s.reachable c.port k
  let ok (f : Port → Port) : State := (s.modPort c.port f).complete c.id .success
  if !known then s.complete c.id .invalidNamespaceOrFormat
  else if ty = 0 ∧ op = 1 then
    if bits c.e.dw12 15 8 != 1 then s.complete c.id .invalidField
    else if bit c.e.dw12 0 then ok fun x => { x with streamsEn := insSorted k x.streamsEn }
    else ok fun x => { x with streamsEn := x.streamsEn.filter (· != k), streams := x.streams.filter fun e => e.1 != k, streamAlloc := x.streamAlloc.del k }
  else if ty = 1 ∧ (op = 1 ∨ op = 2) then
    if !(s.port c.port).streamsEn.contains k then s.complete c.id .invalidField
    else if op = 1 then ok fun x => { x with streams := x.streams.filter fun e => e != (k, bits c.e.dw11 31 16) }
    else ok fun x => { x with streamAlloc := x.streamAlloc.del k }
  else s.complete c.id .invalidField

/-- Directive Receive (R53, R54): parameters, stream status, allocation of stream resources; the bytes no chapter gives are free. -/
def State.runDirectiveReceive (s : State) (c : Ctx) : State :=
  let op := bits c.e.dw11 7 0
  let ty := bits c.e.dw11 15 8
  let k := c.e.nsid
  let pt := s.port c.port
  let known := s.reachable c.port k
  let len := 4 * (c.e.dw10 + 1)
  let ok (r : List Nat × State) : State := (r.2.put (.page c.port c.e.cid (r.1.take len) .none)).complete c.id .success
  let left := 256 - pt.streamAlloc.foldl (fun (n : Nat) (e : Nat × Nat) => n + e.2) 0
  if !known then s.complete c.id .invalidNamespaceOrFormat
  else if ty = 0 ∧ op = 1 then ok (padTo (padTo [3] 32 ++ [1 + 2 * bNat (pt.streamsEn.contains k)]) 4096, s)
  else if ty = 1 ∧ !pt.streamsEn.contains k then s.complete c.id .invalidField
  else if ty = 1 ∧ op = 1 then
    ok (s.openPage 32 [(0, le 2 256 ++ le 2 left ++ le 2 pt.streams.length), (22, le 2 (pt.streamAlloc.lookD k 0) ++ le 2 (pt.streamsOf k).length)])
  else if ty = 1 ∧ op = 2 then ok (le 2 (pt.streamsOf k).length ++ ((pt.streamsOf k).map (le 2)).flatten, s)
  else if ty = 1 ∧ op = 3 then
    let n := min (bits c.e.dw12 15 0) (min 16 left)
    (s.modPort c.port fun x => { x with streamAlloc := x.streamAlloc.put k n }).complete c.id .success n
  else s.complete c.id .invalidField

end Sys2Proof.Machine
end

