-- ==== Sys2Proof/Machine/Admin.lean ====
section
/-!
DEFINITION. Admin commands (Table 02.7), as the table's rows name them; `ctx` names the context of the fetched command.
-/

namespace Sys2Proof.Machine

open Host (Outcome)

/-- Carry out an admin command of a context, where it is one of the row's. -/
def adminRow (s : State) (id opc : Nat) (p : Ctx → Bool) (f : State → Ctx → State) : Outcome State Fault Refusal :=
  act s fun s => match s.adminCtx id opc p with
    | some c => f s c
    | none => s

/-- CREATE_IO_SQ (R39). -/
def execCreateIoSq (ctx : Nat) (s : State) : Outcome State Fault Refusal := adminRow s ctx 0x01 (fun _ => true) State.createSq

/-- CREATE_IO_CQ (R39). -/
def execCreateIoCq (ctx : Nat) (s : State) : Outcome State Fault Refusal := adminRow s ctx 0x05 (fun _ => true) State.createCq

/-- DELETE_IO_SQ (R53). -/
def execDeleteIoSq (ctx : Nat) (s : State) : Outcome State Fault Refusal := adminRow s ctx 0x00 (fun _ => true) State.deleteSq

/-- DELETE_IO_CQ (R53). -/
def execDeleteIoCq (ctx : Nat) (s : State) : Outcome State Fault Refusal := adminRow s ctx 0x04 (fun _ => true) State.deleteCq

/-- GET_LOG_PAGE (R53). -/
def execGetLogPage (ctx : Nat) (s : State) : Outcome State Fault Refusal := adminRow s ctx 0x02 (fun _ => true) State.getLog

/-- IDENTIFY (R53). -/
def execIdentify (ctx : Nat) (s : State) : Outcome State Fault Refusal := adminRow s ctx 0x06 (fun _ => true) State.runIdentify

/-- ABORT (R53). -/
def execAbort (ctx : Nat) (s : State) : Outcome State Fault Refusal := adminRow s ctx 0x08 (fun _ => true) State.runAbort

/-- SET_FEATURES (R53). -/
def execSetFeatures (ctx : Nat) (s : State) : Outcome State Fault Refusal := adminRow s ctx 0x09 (fun _ => true) State.runSetFeatures

/-- GET_FEATURES (R53). -/
def execGetFeatures (ctx : Nat) (s : State) : Outcome State Fault Refusal := adminRow s ctx 0x0A (fun _ => true) State.runGetFeatures

/-- ASYNC_EVENT_REQUEST (R55). -/
def execAsyncEventRequest (ctx : Nat) (s : State) : Outcome State Fault Refusal := adminRow s ctx 0x0C (fun _ => true) State.runEventRequest

/-- NS_CREATE: Namespace Management with any selection but Delete; `data` is the structure the host gives (R56). -/
def execNsCreate (ctx : Nat) (data : NsData) (s : State) : Outcome State Fault Refusal :=
  adminRow s ctx 0x0D (fun c => bits c.e.dw10 3 0 != 1) fun s c => s.createNs c data

/-- NS_DELETE (R57). -/
def execNsDelete (ctx : Nat) (s : State) : Outcome State Fault Refusal :=
  adminRow s ctx 0x0D (fun c => bits c.e.dw10 3 0 == 1) State.deleteNs

/-- NAMESPACE_ATTACHMENT (R57): `controllers` is the list the host gives. -/
def execNamespaceAttachment (ctx : Nat) (controllers : List Nat) (s : State) : Outcome State Fault Refusal :=
  adminRow s ctx 0x15 (fun _ => true) fun s c => s.attachNs c controllers

/-- DIRECTIVE_SEND (R53). -/
def execDirectiveSend (ctx : Nat) (s : State) : Outcome State Fault Refusal := adminRow s ctx 0x19 (fun _ => true) State.runDirectiveSend

/-- DIRECTIVE_RECEIVE (R53). -/
def execDirectiveReceive (ctx : Nat) (s : State) : Outcome State Fault Refusal :=
  adminRow s ctx 0x1A (fun _ => true) State.runDirectiveReceive

end Sys2Proof.Machine
end

