-- ==== Sys2Proof/Machine/Cache.lean ====
section
/-!
DEFINITION. The commands of the mirrored write cache and the buffer pool (chapter 05).
-/

namespace Sys2Proof.Machine

open Host (Outcome)

/-- MIRROR_WRITE_HELD: a pair's data is in its copies, no write of it waiting for a queue (R335); when every pair of the command is, it may commit (R96, R125), and the
checkpoint rules of R233 and R234 look at what was committed. -/
def execMirrorWriteHeld (pair : Nat) (s : State) : Outcome State Fault Refusal :=
  actWhen s (match s.wc.pairs.look pair with | some x => !x.held && s.mirrorHeld pair && s.powered | none => false) fun s =>
    match s.wc.pairs.look pair with
    | none => s
    | some x =>
      let s := s.modPair pair fun x => { x with held := true }
      match s.adm x.adm with
      | none => s
      | some a =>
        let all := a.pairs.all fun p => match s.wc.pairs.look p with | some y => y.held | none => true
        if a.stage = .moving ∧ all then ((s.modAdm a.id fun a => { a with stage := .held }).pump).checkpointDue else s

/-- FLUSH_ISSUE: the next member wordline, or conventional row, in the order of R128 goes to its die. -/
def execFlushIssue (s : State) : Outcome State Fault Refusal :=
  actWhen s s.mayFlush fun s =>
    match s.nextFlush with
    | some (true, key, n) => s.flushZone key n
    | some (false, r, _) => s.flushRow r (s.frontierLbas r)
    | none => s

/-- DIRTY_LIMIT_RECOMPUTE (R131, R132). -/
def execDirtyLimitRecompute (s : State) : Outcome State Fault Refusal :=
  actWhen s (s.powered && s.wc.started) fun s => s.recomputeLimit

/-- DIRTY_LIMIT_RAISE: a higher limit has held for 1 s and takes effect (R132). -/
def execDirtyLimitRaise (s : State) : Outcome State Fault Refusal :=
  actWhen s (s.powered && s.past (s.wc.raise.map (·.2)) 1000000000) fun s =>
    match s.wc.raise with
    | some (l, _) => (({ s with wc := { s.wc with raise := none } }).applyLimit l).pump
    | none => s

/-- WRITE_THROUGH_EXIT: the limit has been at least 2 GiB for 1 s, so cause LOW_LIMIT clears (Table 05.2). -/
def execWriteThroughExit (s : State) : Outcome State Fault Refusal :=
  actWhen s (s.powered && s.past s.wc.okSince 1000000000) fun s => (s.setCause 0 false).pump

/-- WRITE_THROUGH_FORCE: cause HOST follows FORCE_WT (Table 05.2). -/
def execWriteThroughForce (value : Bool) (s : State) : Outcome State Fault Refusal :=
  actWhen s s.powered fun s => ((s.setB WCU_CTRL_FORCE_WT value).setCause 2 value).pump

/-- BUFFER_ALLOCATE: one allocation, or a place among the waiters (R139). -/
def execBufferAllocate (pool owner slice : Nat) (internal : Bool) (s : State) : Outcome State Fault Refusal :=
  actWhen s (s.powered && decide (pool < 2) && decide (owner < 256) && decide (slice < s.sliceCount)) fun s =>
    let w : BufWait := { pool := pool, owner := owner, unit := unitOf owner, slice := slice, internal := internal, gen := s.gen slice,
                         seq := s.zn.nextAdm }
    if s.behind w s.pool.waiters then { s with pool := { s.pool with waiters := s.pool.waiters ++ [w] } }
    else
      match s.alloc w 0 with
      | (some _, s) => s
      | (none, s) => { s with pool := { s.pool with waiters := s.pool.waiters ++ [w] } }

/-- FREE_LIST_REBUILD_END: the list is rebuilt from the descriptors and serves its waiters (R143). -/
def execFreeListRebuildEnd (list : Nat) (s : State) : Outcome State Fault Refusal :=
  actWhen s (s.powered && s.pool.broken.contains list) fun s =>
    let s := s.rethread list
    let s := { s with pool := { s.pool with broken := s.pool.broken.filter (· != list) } }
    let s := if s.pool.broken.isEmpty then s.set BPL_STATUS_REBUILDING 0 else s
    s.serveWaiters.pump

/-- BUFFER_RELEASE (R140, R142). -/
def execBufferRelease (pool index owner : Nat) (s : State) : Outcome State Fault Refusal :=
  actWhen s (s.powered && decide (pool < 2)) fun s => s.release pool index owner

/-- BUFFER_TRANSFER (R140). -/
def execBufferTransfer (pool index owner newOwner : Nat) (s : State) : Outcome State Fault Refusal :=
  actWhen s (s.powered && decide (pool < 2)) fun s => s.transferBuf pool index owner (newOwner % 256)

/-- BUFFER_SHARE (R141). -/
def execBufferShare (pool index owner n : Nat) (s : State) : Outcome State Fault Refusal :=
  actWhen s (s.powered && decide (pool < 2)) fun s => s.shareBuf pool index owner n

/-- BUFFER_DROP (R141, R142). -/
def execBufferDrop (pool index owner : Nat) (s : State) : Outcome State Fault Refusal :=
  actWhen s (s.powered && decide (pool < 2)) fun s => s.dropBuf pool index owner

/-- WCU_CLR_CNT (R145). -/
def execWcuClrCnt (s : State) : Outcome State Fault Refusal :=
  actWhen s s.powered fun s => s.clearCounters blkWCU [0] ownWCU

/-- BPL_CLR_CNT (R145). -/
def execBplClrCnt (s : State) : Outcome State Fault Refusal :=
  actWhen s s.powered fun s => s.clearCounters blkBPL [0] ownBPL

end Sys2Proof.Machine
end

