-- ==== Sys2Proof/Machine/Fabric.lean ====
section
/-!
DEFINITION. The commands of the causeway ports and the junction (chapter 13).
-/

namespace Sys2Proof.Machine

open Host (Outcome)

/-- A port whose link is locked: HELLO, UP, FOREIGN or REFUSED. -/
def State.cwLocked (s : State) (p : Nat) : Bool := decide (p < 4) && decide (3 ≤ s.cwState p) && s.portsRun

/-- Move a locked port to FOREIGN or REFUSED; entering it raises source 130 + 4p. -/
def State.holdPort (s : State) (p st : Nat) : State :=
  let s := s.modCw p fun c => { c with helloOk := 0 }
  if s.cwState p = st then s else (s.setCw p st).raise (130 + 4 * p)

/-- CAUSEWAY_TRAINED: training and block lock done; the port enters HELLO at the rate set, which is that of the other end, else training
fails and the port stays in TRAIN (R356, R362).  On a DOWN port the wake pattern goes before training (R380). -/
def execCausewayTrained (p rate : Nat) (s : State) : Outcome State Fault Refusal :=
  actWhen s (decide (p < 4) && s.portsRun && s.flag CWP_PCFG_EN p && (s.cwState p == cwDown || s.cwState p == cwTrain)) fun s =>
    let s := if s.cwState p = cwDown then (s.wakeOut p).setCw p cwTrain else s
    if rate != s.get CWP_PCFG_RATE p then s else
    ((s.modCw p fun _ => { CwPort.fresh with helloAt := s.now, heardAt := s.now }).setCw p cwHello).set CWP_PSTAT_RATE_IN (s.get CWP_PCFG_RATE p) p

/-- HELLO_TIMER: a locked port sends a HELLO, a period after the last (R363, Table 13.2). -/
def execHelloTimer (p : Nat) (s : State) : Outcome State Fault Refusal :=
  actWhen s (s.cwLocked p && decide ((s.cwPort p).helloAt + s.helloNs ≤ s.now)) fun s =>
    (s.modCw p fun c => { c with helloAt := s.now }).sendLink p 0x01 0
      (le 8 deviceSerial ++ le 2 s.nodeId ++ le 2 (s.get JNR_CFG_DOMAIN) ++ [p, s.cwState p] ++ zeros 18)

/-- HELLO_RECEIVED: the neighbour is noted; the port goes to UP after 2 good HELLOs in a row, to FOREIGN or REFUSED for
another domain, an ID that has not joined, or a duplicate ID (R363, R364). -/
def execHelloReceived (p : Nat) (h : Hello) (s : State) : Outcome State Fault Refusal :=
  actWhen s (s.cwLocked p) fun s =>
    let s := ((s.bumpCwp CWP_RX_FRAMES p).set CWP_PSTAT_NBR_ID h.node p).set CWP_PSTAT_NBR_PORT h.port p
    let s := s.modCw p fun c => { c with heardAt := s.now }
    if s.withdrawn then s.holdPort p cwRefused
    else if h.domain != s.get JNR_CFG_DOMAIN then s.holdPort p cwForeign
    else if h.node = 0 ∨ h.node = 0xFFF then s.holdPort p cwRefused
    else if h.node = s.nodeId ∧ h.serial != deviceSerial then
      if h.serial < deviceSerial then s.withdraw p else s.holdPort p cwRefused
    else if h.portState = cwDisabled then s.modCw p fun c => { c with helloOk := 0 }
    else
      let s := s.modCw p fun c => { c with helloOk := c.helloOk + 1 }
      let s := if s.cwState p = cwForeign ∨ s.cwState p = cwRefused then s.setCw p cwHello else s
      if s.cwState p = cwHello ∧ 2 ≤ (s.cwPort p).helloOk then s.setCw p cwUp else s

/-- HELLO_DEAD_TIMEOUT: DEAD HELLO periods without a HELLO take the port DOWN (R363). -/
def execHelloDeadTimeout (p : Nat) (s : State) : Outcome State Fault Refusal :=
  actWhen s (s.cwLocked p && decide ((s.cwPort p).heardAt + s.deadNs ≤ s.now)) fun s => s.cwGoDown p cwDown

/-- BLOCK_LOCK_LOSS: loss of block lock for 10 µs takes the port DOWN (R363). -/
def execBlockLockLoss (p : Nat) (s : State) : Outcome State Fault Refusal :=
  actWhen s (s.cwLocked p) fun s => s.cwGoDown p cwDown

/-- Store an LSA (R365). -/
def State.storeLsa (s : State) (l : Lsa) : State :=
  { s with fb := { s.fb with nodes := s.fb.nodes.put l.node l, heard := s.fb.heard.put l.node s.now } }.askPaths

/-- LSA_RECEIVED: a newer LSA is stored and flooded on every other UP port; a duplicate ID makes the higher serial
withdraw; a new node that finds the table full is ignored (R364, R365). -/
def execLsaReceived (p : Nat) (l : Lsa) (s : State) : Outcome State Fault Refusal :=
  actWhen s (decide (p < 4) && s.portsRun && s.cwState p == cwUp) fun s =>
    let units := (36 + 16 + 4 * l.links.length + 63) / 64
    match s.acceptFrame p l.linkSeq 0x02 (s.get JNR_CFG_DOMAIN) 0 units with
    | (false, s) => s
    | (true, s) =>
      let s := s.freeUnits p 0 units
      if s.withdrawn then s
      else if l.node = s.nodeId ∧ l.serial != deviceSerial then
        if l.serial < deviceSerial then s.withdraw p else s.raise (130 + 4 * p)
      else
        match s.fb.nodes.look l.node with
        | some old =>
          if old.seq < l.seq then
            (s.storeLsa l).flood l p
          else s
        | none =>
          if 256 ≤ s.fb.nodes.length then (s.set JNR_STATUS_FULL 1).raise (130 + 4 * p)
          else (s.storeLsa l).flood l p

/-- LSA_REFRESH_TIMER: the node originates its LSA, 10 s after its last (R365). -/
def execLsaRefreshTimer (s : State) : Outcome State Fault Refusal :=
  actWhen s (s.portsRun && s.joined && decide (s.fb.ownAt + 10000000000 ≤ s.now)) fun s => s.originate

/-- LSA_AGE_OUT: a node whose LSA was not refreshed for 40 s is removed (R365). -/
def execLsaAgeOut (node : Nat) (s : State) : Outcome State Fault Refusal :=
  actWhen s (s.portsRun && s.fb.nodes.has node && node != s.nodeId && decide (s.fb.heard.lookD node 0 + 40000000000 ≤ s.now)) fun s =>
    { s with fb := { s.fb with nodes := s.fb.nodes.del node, heard := s.fb.heard.del node } }.askPaths

/-- PATH_RECOMPUTE_DONE: the path table is replaced in one step (R367). -/
def execPathRecomputeDone (s : State) : Outcome State Fault Refusal :=
  actWhen s (s.flag JNR_STATUS_RECOMP) fun s => s.recompute

/-- ACK_TIMER: frames accepted since the last ACK are acknowledged (R360). -/
def execAckTimer (p : Nat) (s : State) : Outcome State Fault Refusal :=
  actWhen s (decide (p < 4) && s.cwState p == cwUp && (s.cwPort p).sinceAck != 0) fun s =>
    (s.modCw p fun c => { c with sinceAck := 0 }).sendLink p 0x03 (((s.cwPort p).rxSeq + 2 ^ 32 - 1) % 2 ^ 32) []

/-- A sequence number that comes after another. -/
def seqAfter (a b : Nat) : Bool := decide ((a + 2 ^ 32 - b - 1) % 2 ^ 32 < 2 ^ 31)

/-- ACK_RECEIVED: acknowledged frames leave the retry buffer (R360). -/
def execAckReceived (p seq : Nat) (s : State) : Outcome State Fault Refusal :=
  actWhen s (decide (p < 4) && s.cwState p == cwUp) fun s =>
    let s := (s.bumpCwp CWP_RX_FRAMES p).modCw p fun c => { c with sent := c.sent.filter (seqAfter ·.seq seq), naks := 0 }
    State.transmit p (s.cwPort p).outQ.length s

/-- NAK_RECEIVED: frames are resent from the named SEQ in order; eight NAKs in a row for one SEQ take the link down and
start a new training (R360). -/
def execNakReceived (p seq : Nat) (s : State) : Outcome State Fault Refusal :=
  actWhen s (decide (p < 4) && s.cwState p == cwUp) fun s =>
    let s := s.bumpCwp CWP_RX_FRAMES p
    let n := if (s.cwPort p).naks != 0 ∧ (s.cwPort p).nakSeq = seq then (s.cwPort p).naks + 1 else 1
    let s := s.modCw p fun c =>
      { c with naks := n, nakSeq := seq, sent := c.sent.filter fun f => f.seq == seq || seqAfter f.seq seq }
    if 8 ≤ n then ((s.cwGoDown p cwDown).wakeOut p).setCw p cwTrain
    else s.each (s.cwPort p).sent fun f s => (s.put (.frame p (frameBytes f))).bumpCwp CWP_TX_FRAMES p

/-- CREDIT_RECEIVED: credits of a virtual channel come back (R361). -/
def execCreditReceived (p vc credits : Nat) (s : State) : Outcome State Fault Refusal :=
  actWhen s (decide (p < 4) && s.cwState p == cwUp && decide (vc < 3)) fun s =>
    let s := (s.bumpCwp CWP_RX_FRAMES p).modCw p fun c => { c with credits := c.credits.set vc (c.credits.getD vc 0 + credits) }
    State.transmit p (s.cwPort p).outQ.length s

/-- CREDIT_RETURN_TIMER: the units freed since the last CREDIT frame are returned (R361). -/
def execCreditReturnTimer (p : Nat) (s : State) : Outcome State Fault Refusal :=
  actWhen s (decide (p < 4) && s.cwState p == cwUp && (s.cwPort p).freed.any (· != 0)) fun s =>
    let fr := (s.cwPort p).freed
    (s.modCw p fun c => { c with freed := [0, 0, 0] }).sendLink p 0x05 0
      (le 2 (fr.getD 0 0) ++ le 2 (fr.getD 1 0) ++ le 2 (fr.getD 2 0))

/-- Send a transit frame on, or drop it: hops used up, no path, or its port not UP (R368, R369). -/
def State.forward (s : State) (p : Nat) (f : Frame) : State :=
  if !s.joined then s.freeUnits p f.vc (frameUnits f)
  else if f.hops = 0 then (s.bumpJnr JNR_HOP_DROP).freeUnits p f.vc (frameUnits f)
  else
    match s.fb.paths.look f.dst with
    | none => (s.bumpJnr JNR_NOPATH).freeUnits p f.vc (frameUnits f)
    | some (q, _) =>
      if s.cwState q != cwUp then (s.bumpJnr JNR_HOP_DROP).freeUnits p f.vc (frameUnits f)
      else (s.bumpJnr JNR_FWD_FRAMES).enqueueFrame q p { f with hops := f.hops - 1 }

/-- TRANSIT_FRAME: a frame for another node is forwarded cut-through, or dropped; one whose trailer is found wrong goes on
stomped and is refused with a NAK (R360, R368).  Frames of one link and LSAs are never forwarded (R359). -/
def execTransitFrame (p : Nat) (f : Frame) (s : State) : Outcome State Fault Refusal :=
  actWhen s (decide (p < 4) && s.portsRun && s.cwState p == cwUp && f.dst != s.nodeId
      && (decide (0x10 ≤ f.type) || !knownType f.type)) fun s =>
    if f.trailerOk then
      match s.acceptFrame p f.seq f.type f.domain f.vc (frameUnits f) with
      | (false, s) => s
      | (true, s) => s.forward p f
    else if f.seq = (s.cwPort p).rxSeq ∧ knownType f.type ∧ f.domain = s.get JNR_CFG_DOMAIN then
      ((s.bumpCwp CWP_RX_FRAMES p).forward p f).discardFrame p 1
    else (s.bumpCwp CWP_RX_FRAMES p).discardFrame p 3

/-- The node-slice entry of a node (R373). -/
def State.nodeSlice (s : State) (node : Nat) : Option Nat :=
  match (List.range 256).find? fun k => s.flag JNR_NSLICE_V k && s.get JNR_NSLICE_NODE k == node with
  | some k => if s.get JNR_NSLICE_SLICE k < s.sliceCount then some (s.get JNR_NSLICE_SLICE k) else none
  | none => none

/-- LBAs of data a request brings. -/
def requestWant (e : SqEntry) : Nat :=
  if e.opc = 0x01 ∨ e.opc = 0x7D then e.dw12 % 65536 + 1 else if e.opc = 0x09 then 1 else 0

/-- A request of another node (R372, R373): a duplicate gets its stored completion; one that is not admitted gets Namespace
Not Ready in HOLD and Access Denied otherwise; an admitted one is executed once its data is there. -/
def State.arrive (s : State) (f : Frame) : State :=
  let e := entryOf f.payload
  let more := !bit f.flags 1
  let wait (discard : Bool) (slice : Nat) (s : State) : State :=
    let b : Inbound := { src := f.src, tag := f.tag, type := f.type, entry := e, slice := slice, want := requestWant e,
                         data := [], discard := discard }
    { s with fb := { s.fb with inbound := (s.fb.inbound.filter fun x => !(x.src == f.src && x.tag == f.tag)) ++ [b] } }
  let refuse (st : NvmeStatus) (s : State) : State :=
    let s := s.sendFrame (s.frameOf 0x30 f.src f.tag 3 0 (cqeBytes st 0 0 e.cid))
    if more then wait true 0 s else s
  match s.fb.dups.find? fun d => d.src == f.src && d.tag == f.tag && d.reply.isNone with
  | some d =>
    let s := (s.bumpJnr JNR_DUP_HIT).sendFrame (s.frameOf 0x30 f.src f.tag 3 0 (cqeBytes d.status d.dw0 d.dw1 e.cid))
    if more then wait true 0 s else s
  | none =>
    if s.mode = .hold then refuse .namespaceNotReady s
    else if !s.inModes [.run, .service] then refuse .accessDenied s
    else
      match s.nodeSlice f.src with
      | none => refuse .accessDenied s
      | some slice =>
        if !s.access slice e.nsid then refuse .accessDenied s
        else if more ∧ 0 < requestWant e then wait false slice s
        else s.serveRemote f.src f.tag f.type e slice []

/-- REQ_RECEIVED: a request for a pooled namespace (R373). -/
def execReqReceived (p : Nat) (f : Frame) (s : State) : Outcome State Fault Refusal :=
  actWhen s (decide (p < 4) && s.portsRun && f.type == 0x10) fun s =>
    match s.acceptLocal p f with
    | (true, s) => s.arrive f
    | (false, s) => s

/-- REPL_RECEIVED: a replicated write (R373, R376). -/
def execReplReceived (p : Nat) (f : Frame) (s : State) : Outcome State Fault Refusal :=
  actWhen s (decide (p < 4) && s.portsRun && f.type == 0x11) fun s =>
    match s.acceptLocal p f with
    | (true, s) => s.arrive f
    | (false, s) => s

/-- COPY_RECEIVED: a write of a peer zone copy (R373, R379). -/
def execCopyReceived (p : Nat) (f : Frame) (s : State) : Outcome State Fault Refusal :=
  actWhen s (decide (p < 4) && s.portsRun && f.type == 0x12) fun s =>
    match s.acceptLocal p f with
    | (true, s) => s.arrive f
    | (false, s) => s

/-- DATA_RECEIVED: write data for a request; the request is executed when its last data is there (R372, R373). -/
def execDataReceived (p : Nat) (f : Frame) (s : State) : Outcome State Fault Refusal :=
  actWhen s (decide (p < 4) && s.portsRun && f.type == 0x20) fun s =>
    match s.acceptLocal p f with
    | (false, s) => s
    | (true, s) =>
      match s.fb.inbound.find? fun b => b.src == f.src && b.tag == f.tag with
      | none => s
      | some b =>
        let rest := s.fb.inbound.filter fun x => !(x.src == f.src && x.tag == f.tag)
        if b.discard then
          if bit f.flags 1 then { s with fb := { s.fb with inbound := rest } } else s
        else
          let b := { b with data := b.data.put (f.offset / 4096) (unle f.payload) }
          if b.want ≤ b.data.length then
            { s with fb := { s.fb with inbound := rest } }.serveRemote b.src b.tag b.type b.entry b.slice (b.data.map fun (e : Nat × Nat) => e.2)
          else { s with fb := { s.fb with inbound := rest ++ [b] } }

/-- A copy starts when fewer than 16 run; others wait (R379).  It ends at the write pointer its zone has at the start; without data it has
passed. -/
def State.startCopies (s : State) : State :=
  let running := (s.fb.copies.filter fun e => e.2.running).length
  if running < 16 then
    match s.fb.copies.find? fun e => !e.2.running with
    | some (k, c) =>
      let n := match s.zone c.nsid c.zone with | some z => z.wp | none => 0
      let s := s.ticketRun (some c.ticket)
      if n = 0 then { s with fb := { s.fb with copies := s.fb.copies.del k } }.ticketEnd (some c.ticket) 3 0
      else { s with fb := { s.fb with copies := s.fb.copies.put k { c with running := true, stop := c.first + n } } }
    | none => s
  else s

/-- A copy ends: passed with all of its LBAs committed, or aborted with the count committed (R379, R445). -/
def State.endCopy (s : State) (k st : Nat) : State :=
  match s.fb.copies.look k with
  | some c =>
    ({ s with fb := { s.fb with copies := s.fb.copies.del k } }.ticketEnd (some c.ticket) st c.committed).startCopies
  | none => s

/-- A remote request fails under R371: each kind acts as its own rule states. -/
def State.failRemote (s : State) (r : Remote) : State :=
  let s := s.raise 135
  match r.for_ with
  | .pooled id => s.complete id .internalPathError
  | .replicated id k => s.replicaFailed id k
  | .piece k => s.endCopy k 6
  | .identify k => s.packetsReady (fun w => w == .remote k) 0x23

/-- Remove a remote request. -/
def State.dropRemote (s : State) (tag : Nat) : State :=
  { s with fb := { s.fb with reqs := s.fb.reqs.del tag } }.showTags

/-- RSP_RECEIVED: a completion entry ends a remote request (R371, R375 to R377, R379). -/
def execRspReceived (p : Nat) (f : Frame) (s : State) : Outcome State Fault Refusal :=
  actWhen s (decide (p < 4) && s.portsRun && f.type == 0x30) fun s =>
    match s.acceptLocal p f with
    | (false, s) => s
    | (true, s) =>
      match s.fb.reqs.look f.tag with
      | none => s
      | some r =>
        let s := s.dropRemote f.tag
        let st := statusOf (field f.payload 14 2 / 2)
        match r.for_ with
        | .pooled id => s.complete id st (field f.payload 0 4) (field f.payload 4 4)
        | .replicated id k =>
          if st = .success then
            let s := s.modCtx id fun c => { c with replWait := false }
            match s.ctx id with
            | some c => if c.localDone then s.complete id .success c.dw0 c.dw1 else s
            | none => s
          else s.replicaFailed id k
        | .piece k =>
          match s.fb.copies.look k with
          | none => s
          | some c =>
            if st = .success then
              let c := { c with committed := c.committed + r.data.length, inflight := c.inflight - 1 }
              let s := { s with fb := { s.fb with copies := s.fb.copies.put k c } }
              if c.stop ≤ c.next ∧ c.inflight = 0 then s.endCopy k 3 else s
            else s.endCopy k 6
        | .identify _ => s

/-- RDATA_RECEIVED: read data of a pooled read goes to host memory (R375). -/
def execRdataReceived (p : Nat) (f : Frame) (s : State) : Outcome State Fault Refusal :=
  actWhen s (decide (p < 4) && s.portsRun && f.type == 0x31) fun s =>
    match s.acceptLocal p f with
    | (false, s) => s
    | (true, s) =>
      match s.fb.reqs.look f.tag with
      | some { for_ := .pooled id, .. } =>
        match s.ctx id with
        | some c => s.put (.hostData c.port c.e.cid (c.e.dw10 + c.e.dw11 * 2 ^ 32 + f.offset / 4096) (unle f.payload) (s.tag c.port c.pasid))
        | none => s
      | _ => s

/-- E2E_TIMEOUT: no response for E2E after the first frame: the whole request is sent once more on the path then in force; a second timeout, or no path, fails it
(R371). -/
def execE2eTimeout (tag : Nat) (s : State) : Outcome State Fault Refusal :=
  actWhen s (match s.fb.reqs.look tag with | some r => decide (r.since + s.e2eNs ≤ s.now) | none => false) fun s =>
    match s.fb.reqs.look tag with
    | none => s
    | some r =>
      if r.attempts < 2 ∧ s.hasPath r.dst then
        let s := s.bumpJnr JNR_E2E_TMO
        { s with fb := { s.fb with reqs := s.fb.reqs.put tag { r with attempts := r.attempts + 1, since := s.now } } }.sendRequest tag r
      else (s.dropRemote tag).failRemote r

/-- DUP_ENTRY_EXPIRY: an entry older than 2 × E2E leaves the duplicate table (R372). -/
def execDupEntryExpiry (entry : Nat) (s : State) : Outcome State Fault Refusal :=
  actWhen s (match s.fb.dups[entry]? with | some d => decide (d.since + 2 * s.e2eNs ≤ s.now) | none => false) fun s =>
    { s with fb := { s.fb with dups := s.fb.dups.eraseIdx entry } }

/-- COPY_PIECE_SEND: the next 2 MiB piece of a copy, as read from the zone, is sent; up to 8 are in flight (R379). -/
def execCopyPieceSend (k : Nat) (data : List Nat) (s : State) : Outcome State Fault Refusal :=
  actWhen s (s.inModes [.run, .service] && (match s.fb.copies.look k with
      | some c => c.running && decide (c.inflight < 8) && decide (c.next < c.stop)
          && data.length == min 512 (c.stop - c.next)
      | none => false)) fun s =>
    match s.fb.copies.look k with
    | none => s
    | some c =>
      let lba := c.rslba + (c.next - c.first)
      let e : SqEntry := { opc := 0x01, cid := 0, nsid := c.rnsid, dw10 := lba % 2 ^ 32, dw11 := lba / 2 ^ 32,
                           dw12 := data.length - 1, dw13 := 0, dw14 := 0, dw15 := 0 }
      let r : Remote := { for_ := .piece k, dst := c.node, type := 0x12, entry := e, data := data, attempts := 1, since := s.now }
      match s.newRequest r with
      | some s =>
        { s with fb := { s.fb with copies := s.fb.copies.put k { c with next := c.next + data.length, inflight := c.inflight + 1 } } }
      | none => if s.hasPath c.node then s else s.failRemote r

/-- JNR_WAKE_TX: the wake pattern is sent on each port named that is DOWN and enabled (R380). -/
def execJnrWakeTx (ports : Nat) (s : State) : Outcome State Fault Refusal :=
  actWhen s s.powered fun s =>
    s.each [0, 1, 2, 3] fun p s => if bit ports p then s.wakeOut p else s

/-- BINDING_WAKE_TIMER: for a binding whose node has no path the wake pattern is sent, once every 10 ms for 1 s (R380). -/
def execBindingWakeTimer (k : Nat) (s : State) : Outcome State Fault Refusal :=
  actWhen s (decide (k < 64) && s.portsRun && s.flag JNR_BIND_0_V k) fun s =>
    if s.hasPath (s.get JNR_BIND_1_NODE k) then { s with fb := { s.fb with wakes := s.fb.wakes.del k } }
    else
      let n := match s.fb.wakes.look k with | some (n, _) => n | none => 0
      let wait := match s.fb.wakes.look k with | some (_, t) => decide (s.now < t + 10000000) | none => false
      if wait || decide (100 ≤ n) then s else
      let s := { s with fb := { s.fb with wakes := s.fb.wakes.put k (n + 1, s.now) } }
      s.each [0, 1, 2, 3] fun p s => s.wakeOut p

/-- Set node ID, domain and MGMT_EN; a withdrawal ends (R364). -/
def State.writeJnrCfg (s : State) (value : Nat) : State :=
  let old := s.nodeId
  let s := ((s.set JNR_CFG_NODE_ID (bits value 11 0)).set JNR_CFG_DOMAIN (bits value 27 12)).set JNR_CFG_MGMT_EN (bits value 28 28)
  let nodes := if s.nodeId = old then s.fb.nodes else s.fb.nodes.del old
  let s := { s with fb := { s.fb with dupId := false, nodes := nodes } }
  s.originate.askPaths

/-- JNR_CFG_WRITE (R364, Table 13.8). -/
def execJnrCfgWrite (value : Nat) (s : State) : Outcome State Fault Refusal :=
  actRemovingWhen s s.powered fun s =>
    (s.setUnbound (.rsv (rJNR_CFG.at 0 0)) (decide (2 ^ 29 ≤ value % 2 ^ 32))).writeJnrCfg value

/-- JNR_BIND_WRITE: a binding word is set and the binding's OOS bit cleared (R377, Table 13.12). -/
def execJnrBindWrite (k word value : Nat) (s : State) : Outcome State Fault Refusal :=
  actRemovingWhen s (s.powered && decide (k < 64) && decide (word < 2)) fun s =>
    let s := if word = 0 then
        let s := s.setUnbound (.rsv (rJNR_BIND_0.at k 0)) (bits value 30 13 != 0)
        ((s.set JNR_BIND_0_LNSID (bits value 9 0) k).set JNR_BIND_0_KIND (bits value 11 10) k).set JNR_BIND_0_V (bits value 31 31) k
      else
        let s := s.setUnbound (.rsv (rJNR_BIND_1.at k 0)) (bits value 31 22 != 0)
        (s.set JNR_BIND_1_NODE (bits value 11 0) k).set JNR_BIND_1_RNSID (bits value 21 12) k
    let s := { s with fb := { s.fb with wakes := s.fb.wakes.del k } }
    (s.set JNR_BIND_0_OOS 0 k).checkBindings

/-- JNR_CLR_CNT: the counters of both blocks go to 0 and their events are re-armed (R381). -/
def execJnrClrCnt (s : State) : Outcome State Fault Refusal :=
  actWhen s s.powered fun s =>
    let s := s.clearCounters blkJNR [0] ownJNR
    s.each [0, 1, 2, 3] fun p s => (s.each cwpCounters fun f s => s.set f 0 p).rearm [143] (ownCWP p + 0x100)

/-- FRAME_DISCARDED: a frame that cannot be accepted is discarded with a NAK, a stomp count or a drop count (R359, R360,
R370); one that its link has delivered, of `units` credits of `vc`, frees its receive buffer (R361). -/
def execFrameDiscarded (p reason seq vc units : Nat) (s : State) : Outcome State Fault Refusal :=
  actWhen s (decide (p < 4) && s.cwState p == cwUp && decide (reason ≤ 5)) fun s =>
    let s := s.bumpCwp CWP_RX_FRAMES p
    if 2 ≤ reason ∧ seq != (s.cwPort p).rxSeq then s.discardFrame p 3
    else if reason = 2 ∨ 4 ≤ reason then s.discardWhole p reason vc units
    else s.discardFrame p reason

end Sys2Proof.Machine
end

