-- ==== Sys2Proof/Machine/OpsBoot.lean ====
section
/-!
DEFINITION. BOOT (R298, R419 to R428, R147 to R157, R253 to R255, R326, R327, R345, R346, R69, R119, R402): what each step of the boot
sequence does with what it finds, and the end of BOOT.
Assumption log: DEDUCED (31, 38, 40, 44, 48, 50, 55, 61, 62, 63, 90); DESIGN CHOICE (78, 84, 92).
-/

namespace Sys2Proof.Machine

/-- Step 10 of power-up (Table 10.4, R298, R395): what the last run left is read, the running mark written, BOOT entered and counted. -/
def State.bootEnter (s : State) : State :=
  let o := s.pw.stored
  let lost := s.pw.runningMark
  let s := { s with pw := { s.pw with seq := .idle, runningMark := true }, md := { s.md with stopped := false, fetchStop := false } }
  let s := (s.set PSQ_STATUS_STEP 10).set PSQ_STATUS_OFF_PEND 0
  let s := (s.set PSQ_LAST_OFF_CAUSE (if lost then 7 else o.cause)).set PSQ_LAST_OFF_RAIL (if !lost && (o.cause == 4 || o.cause == 5) then o.rail else 0)
  let s := (s.set PSQ_LAST_OFF_DIR (if lost then 0 else o.dir)).set PSQ_LAST_OFF_STEP (if lost then 0 else o.step)
  let s := { s with ms := { s.ms with opMs := s.get MSM_OP_HOURS * 360000 } }
  let s := (s.setMode .boot).logRec 0x1000 (s.wordOf fieldsPSQ (rPSQ_LAST_OFF.at 0 0)) 0 0 0
  let s := (s.countMsm MSM_PWR_CYCLES).each [1, 2, 3, 4, 5, 6, 7] fun k s => s.showClocks k
  (s.stretchRsto 0).stretchRsto 1

/-- The slot to boot (R414 to R417, R420): the selector's, under the trial rule; the other one when it fails its check.  Without a
selector record slot 1 is tried first.  None: both slots fail. -/
def State.chooseSlot (s : State) (e : BootEnv) : Option Nat × State :=
  let r := s.selector
  let pass (n : Nat) : Bool :=
    !s.pw.recover && e.goodSlots.contains n && (match s.slotImage n with | some i => i.good | none => true)
  let back (s : State) : State := (s.set FWS_STATUS_FALLBACK 1).raise 240
  let (n, trial, s) := match r with
    | none => (1, false, s)
    | some r =>
      if !r.trial then (r.active, false, s)
      else if r.tries < 2 then (r.active, true, s.writeSelector r.active r.prev true (r.tries + 1))
      else (r.prev, false, back (s.writeSelector r.prev r.active false 0))
  let other := if n = 1 then 2 else 1
  let run (m : Nat) (trial : Bool) (s : State) : State :=
    ((s.set FWS_STATUS_SLOT_RUN m).setB FWS_STATUS_TRIAL trial).set FWS_SEL_SEQ (match s.selector with | some r => r.seq | none => 0)
  if pass n then (some n, run n trial s)
  else if pass other then (some other, run other false (back (s.writeSelector other n false 0)))
  else (none, s)

/-- Whether a copy of the configuration record is valid for the running image (R424). -/
def CfgCopy.valid (c : CfgCopy) (verMax : Nat) : Bool := c.whole && decide (c.ver ≤ verMax)

/-- The copy to use (R424), whether it is B, and `FWC.CFGREC.SRC`. -/
def State.chooseCfg (s : State) : Option (CfgCopy × Bool × Nat) :=
  let m := match s.slotImage (s.get FWS_STATUS_SLOT_RUN) with | some i => i.cfgVerMax | none => 0
  let why (newer : CfgCopy) : Nat := if newer.whole then 3 else 2
  let one (c : CfgCopy) (b : Bool) (src : Nat) : Option (CfgCopy × Bool × Nat) := if c.valid m then some (c, b, src) else none
  match s.fw.cfgA, s.fw.cfgB with
  | some a, some c =>
    if a.seq < c.seq then (one c true 1).or (one a false (why c)) else (one a false 1).or (one c true (why a))
  | some a, none => one a false 1
  | none, some c => one c true 1
  | none, none => none

/-- Load the configuration record (R11, R424, R427, R428). -/
def State.loadCfg (s : State) : State :=
  let own (e : Nat × Nat) : Bool := match fieldOfKey e.1 with | some f => !inRecord f | none => true
  let base := s.regs.filter own
  match s.chooseCfg with
  | none =>
    let s := { s with regs := base, wpt := WptState.reset }
    ((s.set PSC_STATUS_HOLD_NOCFG 1).raise 250).askCeiling
  | some (c, isB, src) =>
    let s := { s with
      regs := c.regs.foldl (fun m (e : Nat × Nat) => m.put e.1 e.2) base,
      wpt := { WptState.reset with rows := c.wpt, shadows := c.wpt },
      fw := { s.fw with fnCeiling := c.fnCeiling },
      hu := { s.hu with dumpBlocks := c.dumpBlocks, dumpDies := c.dumpDies, active0 := c.active0 } }
    let s := (((s.setB FWC_CFGREC_COPY isB).set FWC_CFGREC_SRC src).set FWC_CFGREC_VER c.ver).set FWC_CFGREC_LINES c.lines
    let s := (s.set FWC_CFG_SEQ_LO c.seq).set FWC_CFG_SEQ_HI (c.seq / 2 ^ 32)
    let s := if src = 1 then s else s.raise 249
    ((s.set ZNE_FN c.fnCeiling).showWpt).askCeiling

/-- The error capture and fatal marks of the last run (R384, R386). -/
def State.loadFaults (s : State) : State :=
  let s := match s.fc.nvCapture with
    | none => s
    | some c =>
      let s := (s.set FCL_FIRST_ADDR_LO c.addr).set FCL_FIRST_ADDR_HI (c.addr / 2 ^ 32)
      let s := (s.set FCL_FIRST_TS_LO c.ts).set FCL_FIRST_TS_HI (c.ts / 2 ^ 32)
      let s := ((s.set FCL_FIRST_INFO_MASTER c.info).set FCL_FIRST_INFO_TYPE (c.info / 2 ^ 8)).set FCL_FIRST_INFO_CLASS (c.info / 2 ^ 12)
      let s := ((s.set FCL_FIRST_INFO_WORST (c.info / 2 ^ 14)).set FCL_FIRST_INFO_SPACE (c.info / 2 ^ 16)).set FCL_FIRST_INFO_LOADED 1
      ((s.set FCL_STATUS_VALID 1).set FCL_STATUS_MERGED c.merged).setB FCL_STATUS_OVF c.ovf
  (s.set FCL_STATUS_SAFE s.fc.nvSafe).setB FCL_STATUS_FAULT_DUMP s.fc.nvDump

/-- Event sources due from the shutdown records (R304, R299, R386, R409, R410). -/
def State.bootEvents (s : State) : State :=
  let o := s.pw.stored
  let cause := s.get PSQ_LAST_OFF_CAUSE
  let known := decide (cause != 7)
  let s := s.when (known && o.offInUp) fun s => s.raise 158
  let s := s.when (known && o.onInDown) fun s => s.raise 159
  let s := s.when (known && o.spent) fun s => s.raise 162
  let trip := cause == 6 && s.ms.therm.any (·.immediate)
  let s := s.when (cause == 4 || cause == 7 || trip) fun s => s.raise 163
  let s := s.when s.fc.nvFatal fun s => (s.raise 210).aenAll 0 3 0x01
  let s := s.when (s.fc.nvFatal && s.fc.nvSafe != 0) fun s => s.raise 212
  let s := s.when s.fc.restartsSpent fun s => s.raise 213
  let s := match s.ms.therm with
    | some t => if t.acked then s else (s.raise 195).set PSC_STATUS_HOLD_THERM 1
    | none => s
  { s with fc := { s.fc with nvFatal := false, nvSafe := 0, nvDump := false, nvCapture := none, restartsSpent := false } }

/-- Core self-test (R421): the first 16 good cores are active, a seventeenth is the spare; with fewer than 15 the error is fatal. -/
def State.startCores (s : State) (failed : List Nat) : State :=
  let good := (List.range 17).filter fun k => !failed.contains k
  let act := good.take 16
  let s := s.each (List.range 17) fun k s =>
    let st := if !good.contains k then 2 else if act.contains k then 0 else 1
    (s.set FWC_CORE_STATE st k).set FWC_CORE_SERVED (if st = 0 then k else 0) k
  let s := ((s.set FWC_STATUS_ACTIVE act.length).setB FWC_STATUS_SPARE (decide (17 ≤ good.length))).set FWC_STATUS_SUPV_RUN 1
  if good.length = 15 then s.raise 245
  else if good.length < 15 then s.fatal 0 ((failed.head?.getD 0) + 1) 0xB 0
  else s

/-- Rows soft-repaired in the last run are repaired hard while resources and the 8 repairs of a BOOT last, else soft again (R345). -/
def State.repairRows (s : State) (hard : List (Nat × Nat)) : State :=
  let rows := ((List.range 4).map fun d => (s.dchan d).soft.map fun r => (d, r)).flatten
  let now := (rows.filter hard.contains).take 8
  s.each rows fun p s =>
    let s := s.bumpDmc DMC_PPR_CNT p.1
    if now.contains p then s.modDchan p.1 fun c => { c with soft := c.soft.filter (· != p.2) } else s

/-- DRAM training and initialization (R325 to R327, R341, R345, R346). -/
def State.bootDram (s : State) (e : BootEnv) : State :=
  let ok := (List.range 4).filter fun d => !e.dramLost.contains d && e.dramPop.getD d 0 != 0
  let want := match ok.head? with | some d => e.dramPop.getD d 0 | none => 0
  let s := s.repairRows e.dramHard
  s.each (List.range 4) fun d s =>
    let c := s.dchan d
    let s := s.modDchan d fun c => { c with raaimt := e.raaimt, raammt := e.raammt }
    let pop := e.dramPop.getD d 0
    let s := (s.set DMC_CH_STAT_POP pop d).set DMC_CH_STAT_RATE (min (min 5 (s.get DMC_CTRL_RATE_MAX)) (e.dramRate.getD d 0)) d
    if pop = 0 then s
    else if !ok.contains d ∨ pop != want ∨ c.fenceOver then ((s.set DMC_CH_STAT_LOST 1 d).set DMC_EVT_LOST 1 d).raise (83 + 4 * d)
    else s

/-- Dies of a channel that are present, ascending. -/
def presentDies (mask : Nat) : List Nat := (List.range 32).filter (bit mask)

/-- Choose the dump dies and their system blocks on a channel afresh, as at first BOOT (R253, R254): every slot is armed. -/
def State.chooseDump (s : State) (c : Nat) : State :=
  let act := s.activeDies c
  let a := act.length
  let nums := if a < 8 then act else (List.range 8).map fun j => j * a / 8
  let s := { s with hu := { s.hu with dumpDies := s.hu.dumpDies.put c nums, active0 := s.hu.active0.put c a } }
  s.each nums fun d s =>
    let free := ((List.range 1024).filter fun b => let x := s.block c d b; x.st == .erased && !x.owned).take 8
    let s := s.each free fun b s => s.modBlock c d b fun x => { x with owned := true, media := .slc }
    let k := dieKey c d
    let s := { s with hu := { s.hu with dumpBlocks := s.hu.dumpBlocks.put k free, unhealthy := s.hu.unhealthy.filter (· != k) } }
    (s.armSlot k 0).armSlot k 1

/-- Choose the blocks of the checkpoint ring at first BOOT (R233): 32 SLC block sets of 16 channels.  DESIGN CHOICE (log 92): set k lies on the
k-th quarter, in turn, of the channels, on the first active die with a free block. -/
def State.chooseRing (s : State) : State :=
  (List.range 32).foldl (fun s k =>
    let (l, s) := (List.range 16).foldl (fun (acc : List Member × State) i =>
      let c := 16 * (k % 4) + i
      match (acc.2.activeDies c).findSome? fun d => (acc.2.freeBlock c d).map fun b => (d, b) with
      | some (d, b) =>
        let m : Member := { ch := c, die := d, block := b, issued := 0, verified := 0, moved := false, rebuilt := none, old := none }
        (acc.1 ++ [m], acc.2.modBlock c d b fun x => { x with owned := true, media := .slc })
      | none => (acc.1 ++ [{ ch := c, die := 32, block := 0, issued := 0, verified := 0, moved := false, rebuilt := none, old := none }], acc.2)) ([], s)
    { s with xl := { s.xl with ring := s.xl.ring ++ [l] } }) s

/-- The blocks of a dump area that is given up go back to their dies, erased where they were written (R151). -/
def State.freeDumpArea (s : State) : State :=
  s.each s.hu.dumpBlocks fun e s => s.each e.2 fun b s =>
    let (c, d) := (e.1 / 32, e.1 % 32)
    let st := (s.block c d b).st
    let s := s.modBlock c d b fun x => { x with owned := false }
    if st = .opened ∨ st = .full then s.queueOp c d { DieOp.base with kind := .erase, block := b, time := s.now, owner := .other } else s

/-- Assign the die roles of a channel: the highest-numbered present dies are spares (R150, R151). -/
def State.assignRoles (s : State) (c mask spares : Nat) : State :=
  let l := presentDies mask
  let act := l.take (l.length - spares)
  s.each (List.range 32) fun d s =>
    s.set FSQ_DIE_STATE (if !l.contains d then dieAbsent else if act.contains d then dieActive else dieSpare) c d

/-- Roles at a later BOOT (R149): a die that does not answer is absent; one that answers again is active, or, above every active die while
the channel has fewer spares than its count, a spare.  DESIGN CHOICE (log 84). -/
def State.keepRoles (s : State) (c mask : Nat) : State :=
  s.each (List.range 32) fun d s =>
    if !bit mask d then s.set FSQ_DIE_STATE dieAbsent c d
    else if s.get FSQ_DIE_STATE c d != dieAbsent then s
    else
      let spares := ((List.range 32).filter fun e => s.get FSQ_DIE_STATE c e == dieSpare).length
      let top := (s.activeDies c).all fun e => decide (e < d)
      s.set FSQ_DIE_STATE (if top && decide (spares < s.get GLB_CONFIG_INFO_SPARE_DIES) then dieSpare else dieActive) c d

/-- Opcodes of Table 06.2 that the parameter page need not give: program suspend and resume, erase suspend and resume, in entries 0 to 3 of
the opcode table; the spec gives the entries no numbers.  DESIGN CHOICE (log 78). -/
def suspendOpcodes : List Nat := [0x84, 0x13, 0x61, 0xD2]

/-- The opcodes of a channel's parameter pages (R148, Table 06.2). -/
def State.loadOpcodes (s : State) (c : Nat) (page : List Nat) : State :=
  s.each (List.range 8) fun k s =>
    match page[k]? with
    | some v => s.set FSQ_OPC v c k
    | none => if k < 4 then s.set FSQ_OPC (suspendOpcodes.getD k 0) c k else s

/-- A valid sample-readout descriptor: signature and RESMASK (R183, Table 07.1). -/
def descriptorOk (b : List Nat) : Bool := b.take 2 == [0x53, 0x52] && b.getD 3 0 % 8 == 7

/-- The sample-readout descriptors of a channel's dies (R183): each valid one is kept, and its opcodes are loaded.  DEDUCED (log 90): the entries
are one set a channel, so those of the lowest-numbered die stand. -/
def State.loadDescriptors (s : State) (c : Nat) (l : List (Nat × List Nat)) : State :=
  let good := l.filter fun e => descriptorOk e.2
  let s := s.each (List.range 32) fun d s => { s with sd := { s.sd with desc := s.sd.desc.del (dieKey c d) } }
  let s := s.each good fun e s => { s with sd := { s.sd with desc := s.sd.desc.put (dieKey c e.1) e.2 } }
  match leastBy (·.1) good with
  | some e => s.each (List.range 5) fun k s => s.set FSQ_OPC (e.2.getD (6 + k) 0) c (8 + k)
  | none => s

/-- The factory bad-column tables of a channel's dies (R207): up to 256 ranges a plane. -/
def State.loadBadCols (s : State) (l : List (Nat × Nat × Nat × List (Nat × Nat))) : State :=
  s.each l fun (c, d, p, ranges) s =>
    let k := ((c * 32 + d) * 4 + p) * 256
    let m := s.sd.badCols.keep fun x _ => x / 256 != k / 256
    { s with sd := { s.sd with
      badCols := (List.range (min 256 ranges.length)).foldl (fun m i =>
        match ranges[i]? with | some (f, n) => m.put (k + i) (f, n, true) | none => m) m } }

/-- One flash channel at BOOT (R147 to R151, R183, R197, R200, R242). -/
def State.bootChannel (s : State) (e : BootEnv) (fresh : Bool) (c : Nat) : State :=
  let mask := e.dies.getD c 0
  let first := !s.fl.present.has c
  let s := if first || fresh then s.assignRoles c mask (s.get GLB_CONFIG_INFO_SPARE_DIES) else s.keepRoles c mask
  let s := { s with fl := { s.fl with present := s.fl.present.put c mask } }
  let top := s.topRate c
  let rate := min top (e.rates.getD c 0)
  let l := presentDies mask
  let spares := (l.filter fun d => s.get FSQ_DIE_STATE c d == dieSpare).length
  let s := ((s.set FSQ_STATUS_DIES l.length c).set FSQ_STATUS_SPARES_LEFT spares c).set FSQ_STATUS_RATE rate c
  let s := (s.set FSQ_STATUS_STATE 1 c).modChan c fun x => { x with trainTemp := none, fullRunning := false }
  let s := if rate < top then s.fsqEvt FSQ_EVT_RATE_LOW c else s
  let s := s.loadOpcodes c (((e.opcodes.find? fun x => x.1 == c).map (·.2)).getD [])
  let s := s.loadDescriptors c ((e.descr.filter fun x => x.1 == c && l.contains x.2.1).map (·.2))
  let s := s.loadBadCols (e.badCols.filter fun x => x.1 == c)
  let s := s.trained c ((e.training.filter fun x => x.1 == c).map (·.2))
  let s := if first then
      let n := 64 * (s.activeDies c).length
      (s.set XLT_SPARE_FIRST n c).set XLT_SPARE_LEFT n c
    else if fresh then s.recountSpares c
    else s
  if e.failed.contains c then s.failChannel c else s

/-- Flash at BOOT: channels, the spare count of R151, the dump area of R253 and R254. -/
def State.bootFlash (s : State) (e : BootEnv) : State :=
  let want := min 2 (s.get DSC_CFG_SPARE_DIES)
  let differs := want != s.get GLB_CONFIG_INFO_SPARE_DIES
  let free := s.ns.isEmpty && s.recordSlot.isNone
  let fresh := differs && free
  let s := if fresh then s.set GLB_CONFIG_INFO_SPARE_DIES want else s
  let s := s.each (List.range 64) fun c s => s.bootChannel e fresh c
  let choose := s.hu.dumpDies.isEmpty || fresh
  let s := if choose then (s.freeDumpArea.each (List.range 64) fun c s => s.chooseDump c).askCommit else s
  let s := if s.xl.ring.isEmpty then s.chooseRing else s
  let s := s.each s.hu.dumpDies fun e s => s.each (List.range 32) fun d s => s.setB FSQ_DIE_DUMP (e.2.contains d) e.1 d
  let live := (List.range 64).filter fun c => !s.chFailed c
  let per := (live.map fun c => (presentDies (e.dies.getD c 0)).length)
  let s := s.set GLB_CONFIG_INFO_DIES_PER_CH ((leastBy id per).getD 0)
  if s.fl.firstActive = 0 ∨ fresh then
    { s with fl := { s.fl with firstActive := (List.range 64).foldl (fun n c => n + (s.activeDies c).length) 0 } }
  else s

/-- A wordline that reads as erased: all 9 bursts of each of its planes are (R207). -/
def wlErased (w : WlLook) : Bool := w.planes.length == 4 && w.planes.all (· == 9)

/-- Whether a wordline of a block reads as erased; one that was not read counts as programmed. -/
def lookErased (b : BlockLook) (wl : Nat) : Bool := ((b.wls.find? fun w => w.wl == wl).map wlErased).getD false

/-- The first erased wordline by binary search (R157). -/
def lookSearch (b : BlockLook) : Nat → Nat → Nat → Nat
  | 0, lo, _ => lo
  | n + 1, lo, hi =>
    if hi ≤ lo then lo
    else if lookErased b ((lo + hi) / 2) then lookSearch b n lo ((lo + hi) / 2) else lookSearch b n ((lo + hi) / 2 + 1) hi

/-- The NPP that the check leaves (R157): wordlines NPP − 1 and NPP are read, and the search is made where one reads wrong. -/
def lookNpp (b : BlockLook) (npp : Nat) : Nat :=
  if (decide (0 < npp) && lookErased b (npp - 1)) || (decide (npp < 1024) && !lookErased b npp) then lookSearch b 11 0 1024 else npp

/-- The NPP check of the open blocks (R157): the member on a block whose pointer moves has the wordlines below it. -/
def State.checkNpp (s : State) (l : List BlockLook) : State :=
  s.each l fun w s =>
    let b := s.block w.ch w.die w.block
    let npp := lookNpp w b.npp
    if b.st != .opened ∨ npp = b.npp then s
    else
      let s := s.modBlock w.ch w.die w.block fun x => { x with npp := npp, st := if 1024 ≤ npp then .full else x.st }
      match s.ownerOf w.ch w.die w.block with
      | some (set, key, slot) => s.modMember set key slot fun m => { m with issued := npp, verified := npp }
      | none => s

/-- Wordlines that read neither as erased nor as decodable (R157). -/
def undecodable (l : List BlockLook) : List (Nat × Nat × Nat × Nat) :=
  (l.map fun b => (b.wls.filter fun w => !wlErased w && !w.decodes).map fun w => (b.ch, b.die, b.block, w.wl)).flatten

/-- The buffer of a channel in which fenced row `n` lies (R331, R346). -/
def State.fencedBuffer (s : State) (d n : Nat) : Nat :=
  let row := s.get DMC_FENCE_ROW d n
  row * 4 + (s.get DMC_FENCE_BANK d n ^^^ bits row 4 3) + s.get DMC_FENCE_RANK d n * 2 ^ 18

/-- Pools and budgets (R119, R341, R346, R65, R69); the map region and the internal reserve are those of this power-on (R162, R225). -/
def State.bootPools (s : State) : State :=
  let live := s.liveChans
  let s := { s with xl := { s.xl with gib := min 8 (s.get XLT_CFG_MAP_GIB) }, fl := { s.fl with ires := min (s.get DSC_CFG_IRES) 50 } }
  let b := min 655360 ((s.dramGib - s.xl.gib - 4) * 16384) / 4 * 4
  let per := b / max 1 live.length
  let s := { s with pool := { PoolState.reset with chans := live, per := per } }
  let s := s.sizePools (per * live.length) 0
  let s := s.each live fun d s =>
    s.each (List.range (s.get DMC_CH_STAT_FENCED d)) fun n s =>
      let k := s.fencedBuffer d n
      if k < per then s.holdBuffer (1 + d) ((s.listRange (1 + d)).1 + k)
        { pool := 1, owner := 0xC0 + d, unit := 9, slice := 0, internal := true, gen := 0, seq := 0 } else s
  let s := s.each [0, 1, 2, 3, 4] fun l s => s.showFree l
  let n := s.sliceCount
  s.each (List.range n) fun i s =>
    let s := (((s.set SLM_BUDGET (4096 / n) i 0).set SLM_BUDGET (131072 / n * i) i 1).set SLM_BUDGET (131072 / n) i 2)
    let s := ((s.set SLM_BUDGET (3072 / n * i) i 3).set SLM_BUDGET (3072 / n) i 4)
    let s := ((s.set SLM_BUDGET (s.get BPL_SRES 0 / n) i 6).set SLM_BUDGET (s.get BPL_SRES 1 / n) i 7)
    s.set SLM_BUDGET ((1000 - 10 * s.ires) * 16 / n) i 8

/-- The dirty-epoch report (R402): entries held, and no dump of record or a partial one. -/
def State.bootReport (s : State) : State :=
  let part := match s.recordSlot.bind s.hu.records.look with | some r => r.isPartial | none => true
  if s.ms.slots.isEmpty ∨ !part then s
  else
    let none_ := s.recordSlot.isNone
    let s := s.makeReport
    if none_ then { s with ms := { s.ms with recoverDue := true } } else s

/-- The WATCH record goes to the life record and the registers (R319). -/
def State.bootWatch (s : State) : State :=
  match s.md.watch with
  | none => s
  | some w =>
    let s := ((s.set PSC_WATCH_REC_0_TMIN (toTwos 8 w.tMin)).set PSC_WATCH_REC_0_TMAX (toTwos 8 w.tMax)).set PSC_WATCH_REC_0_LASTV (w.lastV / 10)
    let s := s.set PSC_WATCH_REC_1_HOT_ROUNDS w.hot
    let s := if w.flags = 0 then s else s.pscEvt PSC_EVT_WATCH_FLAG
    let period := max 1 (min 600 (s.get PSC_WATCH_CFG_PERIOD))
    let s := { s with hu := { s.hu with tMin := min s.hu.tMin w.tMin, tMax := max s.hu.tMax w.tMax, hotMs := s.hu.hotMs + w.hot * period * 100 } }
    let rested := s.packSound && tempOk s.hu.temp && !s.hu.hibWake && decide (s.hu.hibSince + 1800000000000 ≤ s.now)
    let s := if rested then s.restReset (ocvOf (w.lastV * 10)) else s
    { s with md := { s.md with watch := none }, hu := { s.hu with hibWake := true } }

/-- The pack at BOOT (R269, R277): read anew, or absent. -/
def State.bootPack (s : State) (found : Option PackFound) : State :=
  let s := match found with
    | some f => s.insertPack f false
    | none => s.removePack false
  let s := s.bootWatch
  if s.hu.identOk && decide (0 < s.hu.detours) then s.writeLife else s

/-- SRAM spare rows (R353): soft-repair entries take effect; one that names a spare the fuses use is ignored. -/
def State.bootSrep (s : State) (fused : List Nat) : State :=
  let l := (List.range 704).filter fun k => s.flag MPU_SREP_V k && !fused.contains k
  let s := { s with mm := { s.mm with spares := l.map fun k => (k, s.get MPU_SREP_ROW k) } }
  if fused.any fun k => s.flag MPU_SREP_V k then s.set MPU_STATUS_SREP_BAD 1 else s

/-- Boot steps 1, 2 and 4 (Table 15.3): the configuration record, milestone memory, what takes effect at power-on, the cores. -/
def State.bootStart (s : State) (e : BootEnv) : State :=
  let s := (s.loadCfg.bootSrep e.fusedSpares).loadFaults
  let s := s.set MSM_SPARES (3072 - (s.ms.lines.filter fun x => x.2.retired).length)
  let s := s.set SLM_CFG_ACTIVE_LOG2 (min 8 (s.get SLM_CFG_SLICE_LOG2))
  let s := { s with pw := { s.pw with priv := s.get QEN_PORT_CFG_PRIV_PORT, smbAddr := s.get MGI_CFG_SMB_ADDR } }
  let s := s.set GLB_CONFIG_INFO_PORTS (if s.pw.split then 2 else 1)
  let s := s.each s.resets fun e s => ((s.set SLM_GEN e.2.newGen e.1).set SLM_RSTAT_BUSY 1 e.1).set SLM_RSTAT_HELD 1 e.1
  s.startCores e.coresFailed

/-- Boot step 5 and the sizes of step 6 (Table 15.3): DRAM, flash, pools, block states. -/
def State.bootMedia (s : State) (e : BootEnv) : State :=
  let s := (s.bootDram e).bootFlash e
  let s := s.set GLB_CONFIG_INFO_DRAM_GIB s.dramGib
  let s := s.bootPools.checkNpp e.looks
  { s with md := { s.md with undecoded := undecodable e.looks } }

/-- The rest of step 6: write-through causes, the pack, the dump of record, events and report. -/
def State.bootReports (s : State) (e : BootEnv) : State :=
  let s := if s.liveChans.length < 2 then s.setCause 3 true else s
  let s := s.setCause 1 (!s.packReady)
  let s := if s.flag WCU_CTRL_FORCE_WT then s.setCause 2 true else s
  let s := (s.bootPack e.pack).showDump
  let s := match s.recordSlot.bind s.hu.records.look with | some r => s.showRecord r | none => s
  (s.bootEvents.bootReport.showHold).updatePs

/-- Go on unless power-down has begun. -/
def State.goOn (s : State) (f : State → State) : State := if s.md.stopped then s else f s

/-- Neither slot holds a good image (R420): the boot ROM serves. -/
def State.serveRom (s : State) : State := { s with fw := { s.fw with bootRom := true } }.set MGI_STATUS_BOOTROM 1

/-- The boot sequence (Table 15.3): all steps up to the end of BOOT, which is an event of its own.  With both slots bad the boot ROM
serves the firmware packets only (R420). -/
def State.bootSteps (s : State) (e : BootEnv) : State :=
  let s := { s with fw := { s.fw with bootRom := false, boot := some e } }.set MGI_STATUS_BOOTROM 0
  match s.chooseSlot e with
  | (none, s) => s.serveRom
  | (some _, s) => (s.bootStart e).goOn fun s => (s.bootMedia e).bootReports e

/-- The first supply of the write cache and the first dirty limit (R132). -/
def State.firstLimit (s : State) : State :=
  let s := (s.set WCU_LIMIT_IN_EU (to32 s.eU)).set WCU_LIMIT_IN_N_H (s.get HUC_DUMP_N_H)
  { s with wc := { s.wc with started := false } }.recomputeLimit

/-- RETURN begins (R265). -/
def State.enterReturn (s : State) : State :=
  let s := { s with hu := { s.hu with ret := some s.now, retWaited := false } }
  (s.setMode .ret).hubEval.chargeEval

/-- The mode after BOOT (Table 11.1). -/
def State.afterBoot (s : State) : State :=
  if s.recordSlot.isSome || !s.hu.live.isEmpty then s.enterReturn
  else if s.holdCause != 0 then s.moveUndecoded.enterHold
  else s.moveUndecoded.enterRun .run

/-- The end of BOOT (R132, Tables 11.1 and 11.6): the host link's domain is released last, the first dirty limit, and the next mode. -/
def State.bootEnd (s : State) : State :=
  let s := s.firstLimit.showClocks 8
  let s := { s with md := { s.md with fresh := true }, fw := { s.fw with boot := none } }
  s.showHold.afterBoot.afterTransition

end Sys2Proof.Machine
end

