-- ==== Sys2Proof/Machine/Faults.lean ====
section
/-!
DEFINITION. The commands of the fault collector, the event routing block, milestone memory and the thermal monitor (chapter 14).
Assumption log: DEDUCED (49, 55, 58).
-/

namespace Sys2Proof.Machine

open Host (Outcome)

-- fault collector

/-- ERROR_REPORT: a unit reports an error of a class (R382, R383, R386). -/
def execErrorReport (addr master type cls space : Nat) (s : State) : Outcome State Fault Refusal :=
  actWhen s s.coreOn fun s =>
    if cls = clsCorrectable then s.reportCE addr master type space
    else if cls = clsContained then s.reportUE addr master type space
    else if cls = clsFatal then s.fatal addr master type space
    else s

/-- FAULT_DUMP_TIMEOUT: a fault dump has not committed 1 s after the error; every safe state is forced and the device goes to OFF (R385,
R386). -/
def execFaultDumpTimeout (s : State) : Outcome State Fault Refusal :=
  let late := match s.hu.dump with | some d => d.committedAt.isNone | none => true
  let due := match s.fc.dumpSince with | some t => decide (t + 1000000000 ≤ s.now) | none => false
  actWhen s (s.inModes [.detour] && due && late) fun s => s.forceSafe.beginDown 1

/-- RESTART_COUNT_RESET: one operating hour in RUN without a fatal error (R386). -/
def execRestartCountReset (s : State) : Outcome State Fault Refusal :=
  actWhen s (s.inModes [.run] && !s.fc.fatal && decide (3600000 ≤ s.fc.runMs)) fun s => s.set FCL_RESTART_CNT 0

/-- FCL_CAPTURE_CLEAR: a write of 1 to `FCL.STATUS.VALID` clears the capture with MERGED and OVF (R384). -/
def execFclCaptureClear (s : State) : Outcome State Fault Refusal :=
  actWhen s s.powered fun s =>
    s.each [FCL_STATUS_VALID, FCL_STATUS_OVF, FCL_STATUS_MERGED, FCL_FIRST_ADDR_LO, FCL_FIRST_ADDR_HI, FCL_FIRST_INFO_MASTER,
      FCL_FIRST_INFO_TYPE, FCL_FIRST_INFO_CLASS, FCL_FIRST_INFO_WORST, FCL_FIRST_INFO_SPACE, FCL_FIRST_INFO_LOADED, FCL_FIRST_TS_LO,
      FCL_FIRST_TS_HI] fun f s => s.set f 0

/-- FCL_CLR_CNT (R391). -/
def execFclClrCnt (s : State) : Outcome State Fault Refusal := actWhen s s.powered fun s => s.clearCounters blkFCL

-- events

/-- EVENT_DISPATCH: the EVR handles one raised source (R389). -/
def execEventDispatch (s : State) : Outcome State Fault Refusal := actWhen s s.coreOn fun s => s.dispatch

/-- EVR_QCLR: the host event queue is emptied (Table 14.20). -/
def execEvrQclr (s : State) : Outcome State Fault Refusal :=
  actWhen s s.powered fun s => ({ s with ev := { s.ev with queue := [] } }).showQueueCount

-- milestone memory

/-- LOG_RECORD_WRITE: one queued record goes to the ring, 1 ms after the last (R397). -/
def execLogRecordWrite (s : State) : Outcome State Fault Refusal :=
  actWhen s (s.coreOn && decide (s.ms.recAt + 1000000 ≤ s.now)) fun s =>
    let s := { s with ms := { s.ms with recAt := s.now } }
    s.writeRecord

/-- LOG_REPEAT_FLUSH: the newest record's line takes its latest repeat count, 1 s after the first fold not yet written (R398). -/
def execLogRepeatFlush (s : State) : Outcome State Fault Refusal :=
  actWhen s (s.coreOn && (match s.ms.foldSince with | some t => decide (t + 1000000000 ≤ s.now) | none => false)) fun s => s.writeFold

/-- MILESTONE_LINE_WRITE: a line write ends after some pulses (R393, R394); lines of the map and spares are not themselves mapped. -/
def execMilestoneLineWrite (line pulses : Nat) (ok : Bool) (s : State) : Outcome State Fault Refusal :=
  actWhen s (s.coreOn && decide (line < 27648) && decide (1 ≤ pulses ∧ pulses ≤ 3)) fun s => s.lineWritten line pulses ok

/-- EPOCH_HEADER_WRITE: every 10 ms while CORE is powered, except in REST (R400, R401). -/
def execEpochHeaderWrite (s : State) : Outcome State Fault Refusal :=
  actWhen s (s.coreOn && s.mode != .rest && decide (s.ms.epochAt + 10000000 ≤ s.now)) fun s =>
    { s with ms := { s.ms with epochAt := s.now } }.epochWrite

/-- COUNTER_LINE_WRITE: at most once every 10 s (R395). -/
def execCounterLineWrite (s : State) : Outcome State Fault Refusal :=
  actWhen s (s.coreOn && decide (s.ms.countersAt + 10000000000 ≤ s.now)) fun s =>
    { s with ms := { s.ms with countersAt := s.now } }.writeCounters

/-- OPERATING_HOURS_STEP: 0.1 h more of operation has run (R395). -/
def execOperatingHoursStep (s : State) : Outcome State Fault Refusal :=
  actWhen s (s.coreOn && decide ((s.get MSM_OP_HOURS + 1) * 360000 ≤ s.ms.opMs)) fun s => s.countMsm MSM_OP_HOURS

/-- MSM_REPORT_CLR (R402). -/
def execMsmReportClr (s : State) : Outcome State Fault Refusal := actWhen s s.powered fun s => s.clearReport

/-- MSM_CLR_CNT (R391). -/
def execMsmClrCnt (s : State) : Outcome State Fault Refusal :=
  actWhen s s.powered fun s => (s.clearCounters blkMSM).rearm blkMSM.rearm

-- thermal monitor

/-- Insert into an ascending list of integers. -/
def insInt (a : Int) : List Int → List Int
  | [] => [a]
  | b :: t => if a ≤ b then a :: b :: t else b :: insInt a t

/-- Twice the median of a list of readings (R404). -/
def median2 (l : List Int) : Int :=
  let l := l.foldr insInt []
  let n := l.length
  l.getD ((n - 1) / 2) 0 + l.getD (n / 2) 0

/-- On-die sensors that are not excluded. -/
def State.goodDie (s : State) : List Nat := (List.range 12).filter fun k => !s.th.excluded.contains k

/-- Validate one on-die sensor (R404): it is excluded when it has differed from the median of the others by more than 15 °C for
3 rounds. -/
def State.checkDie (s : State) (good : List Nat) (r : List Int) (k : Nat) : State :=
  let others := (good.filter (· != k)).map fun j => r.getD j 0
  let far := !others.isEmpty && decide (120 < (2 * r.getD k 0 - median2 others).natAbs)
  let n := if far then s.th.diff.lookD k 0 + 1 else 0
  let s := { s with th := { s.th with diff := s.th.diff.putD k n 0 } }
  if n < 3 then s else { s with th := { s.th with excluded := insSorted k s.th.excluded } }.raise 198

/-- The on-die readings of a round (R403, R404): JMAX is the highest valid one, or 110 °C with fewer than 4 valid sensors. -/
def State.dieRound (s : State) (r : List Int) : State :=
  let good := s.goodDie
  let s := s.each good fun k s => s.checkDie good r k
  let good := s.goodDie
  let s := s.each (List.range 12) fun k s =>
    (s.set THM_SENSE_READING (toTwos 16 (r.getD k 0)) k).setB THM_SENSE_VALID (good.contains k) k
  let s := s.set THM_STATUS_NVALID good.length
  let top := good.foldl (fun (b : Option (Nat × Int)) k =>
    match b with | none => some (k, r.getD k 0) | some (j, v) => if v < r.getD k 0 then some (k, r.getD k 0) else some (j, v)) none
  let few := decide (good.length < 4)
  let s := if few && !s.th.lowSensors then s.raise 200 else s
  let s := { s with th := { s.th with lowSensors := few } }
  let j : Int := if few then 440 else (match top with | some (_, v) => v | none => 440)
  (s.set THM_JMAX_READING (toTwos 16 j)).set THM_JMAX_SENSOR (match top with | some (k, _) => k | none => 0)

/-- The external readings of a round (R404): one outside −55 to 150 °C fails its sensor until power-on.  An input with ROLE 0x0, or a
ROLE that acts as 0x0, is neither read nor validated (R459). -/
def State.extRound (s : State) (r : List Int) : State :=
  s.each (List.range 8) fun k s =>
    let role := s.get THM_EXT_CFG_ROLE k
    if role = 0 ∨ 4 < role then s.set THM_EXT_VALID 0 k
    else
    let v := r.getD k 0
    let failed := bit (s.get THM_STATUS_EXT_FAIL) k
    let bad := !failed && decide (v < -220 ∨ 600 < v)
    let s := if bad then (s.set THM_STATUS_EXT_FAIL (setBit (s.get THM_STATUS_EXT_FAIL) k)).raise 199 else s
    (s.set THM_EXT_READING (toTwos 16 v) k).setB THM_EXT_VALID (!failed && !bad) k

/-- Valid readings of the flash-case sensors. -/
def State.flashReadings (s : State) : List Int :=
  ((List.range 8).filter fun k => s.get THM_EXT_CFG_ROLE k == 1 && s.flag THM_EXT_VALID k).map fun k => ofTwos 16 (s.get THM_EXT_READING k)

/-- A channel whose flash case temperature has moved by DTEMP since its last training asks for a slot (R180); the first round after BOOT gives
the temperature its training there had. -/
def State.tempSlots (s : State) : State :=
  if !s.inModes [.boot, .hold, .run, .detour, .ret, .service] then s
  else s.each (List.range 64) fun c s =>
    match (s.chan c).trainTemp with
    | none => s.modChan c fun x => { x with trainTemp := some s.th.flashNow }
    | some t =>
      let moved := (s.th.flashNow - t).natAbs
      let asked := s.fl.slots.any fun r => r.ch == c && r.cw.isNone && r.ticket.isNone
      if s.chFailed c || asked || moved = 0 || decide (moved < 4 * s.get DSC_TRAIN_CFG_DTEMP) then s
      else s.askSlot { ch := c, die := none, cw := none, ticket := none, since := s.now, deferredSince := none }

/-- The flash case temperature, for which JMAX stands in without a valid sensor (R403, R404). -/
def State.flashRound (s : State) : State :=
  let l := s.flashReadings
  let hi := match l with | [] => s.jmax | a :: t => t.foldl max a
  let lo := match l with | [] => s.jmax | a :: t => t.foldl min a
  let s := (s.set THM_FLASH_HI (toTwos 16 hi)).set THM_FLASH_LO (toTwos 16 lo)
  { s with th := { s.th with flashNow := hi } }.tempSlots

/-- The throttle step changes. -/
def State.setStep (s : State) (n : Nat) : State :=
  let old := s.get THM_STATUS_STEP
  let s := (s.set THM_STATUS_STEP n).set GLB_MODE_STATUS_THROTTLE n
  if n = 2 then (s.bump blkTHM THM_STEP2_CNT).raise 193
  else if n = 1 ∧ old = 0 then (s.bump blkTHM THM_STEP1_CNT).raise 192
  else if n = 0 then s.raise 194
  else s

/-- Throttling (R405): entered after two rounds at or above a threshold, left one level down after ten rounds 5 °C below it. -/
def State.throttleRound (s : State) : State :=
  let j := s.jmax
  let step := s.get THM_STATUS_STEP
  let run (c : Bool) (n : Nat) : Nat := if c then n + 1 else 0
  let o1 := run (decide (4 * (s.step1C : Int) ≤ j)) s.th.over1
  let o2 := run (decide (4 * (s.step2C : Int) ≤ j)) s.th.over2
  let edge : Int := if step = 2 then s.step2C else s.step1C
  let low := run (decide (step ≠ 0 ∧ j < 4 * (edge - 5))) s.th.below
  let s := { s with th := { s.th with over1 := o1, over2 := o2, below := low } }
  let clear (s : State) : State := { s with th := { s.th with below := 0 } }
  if 2 ≤ o2 ∧ step < 2 then clear (s.setStep 2)
  else if 2 ≤ o1 ∧ step < 1 then clear (s.setStep 1)
  else if 10 ≤ low then clear (s.setStep (step - 1))
  else s

/-- Flash writes are forbidden: a normal shutdown that waits for its flush ends as an abrupt one (R37). -/
def State.endFlushes (s : State) : State :=
  s.each s.portList fun p s =>
    match (s.port p).shut with
    | .normal _ => { s with wc := { s.wc with flushBy := s.wc.flushBy.filter (· != p) } }.modPort p fun pt => { pt with shut := .abrupt }
    | _ => s

/-- The flash-case window (R406): writes are forbidden after two rounds outside it, allowed again after ten well inside. -/
def State.writeRound (s : State) : State :=
  let standIn := s.flashReadings.isEmpty
  let hi := ofTwos 16 (s.get THM_FLASH_HI)
  let lo := ofTwos 16 (s.get THM_FLASH_LO)
  let run (c : Bool) (n : Nat) : Nat := if c then n + 1 else 0
  let top : Int := if standIn then 340 else 280
  let back : Int := if standIn then 328 else 268
  let cold := run (decide (lo < 0)) s.th.cold
  let hot := run (decide (top < hi)) s.th.hot
  let good := run (decide (12 ≤ lo ∧ hi ≤ back)) s.th.good
  let s := { s with th := { s.th with cold := cold, hot := hot, good := good } }
  if s.flag THM_STATUS_WR_FORBID then
    if 10 ≤ good then
      let s := ((s.set THM_STATUS_WR_FORBID 0).set WCU_STATUS_FLASH_BLOCKED 0).raise 197
      if s.inModes [.run, .service] then s.journalAgain.pump else s
    else s
  else if 2 ≤ cold ∨ 2 ≤ hot then
    let s := ((s.set THM_STATUS_WR_FORBID 1).set WCU_STATUS_FLASH_BLOCKED 1).raise 196
    let s := (s.bump blkTHM THM_WR_BLOCK_CNT).endFlushes
    if s.md.offSince.isSome ∧ s.inModes [.run, .service] then s.goDetour true false false else s
  else s

/-- The pack-charging window (R406). -/
def State.packRound (s : State) : State :=
  let t := ofTwos 8 (s.get HUC_PACK_V_TEMP)
  let b := if s.th.chgForbid then !decide (-8 ≤ t ∧ t ≤ 48) else decide (t < -10 ∨ 50 < t)
  let s := { s with th := { s.th with chgForbid := b } }.setB THM_STATUS_CHG_FORBID b
  s.chgBlock b

/-- ASIC cap of the power state in force in mW (Table 11.8). -/
def State.capMw (s : State) : Nat := [34000, 28000, 22000, 16000].getD (s.get PSC_STATUS_PS) 34000

/-- The power cap (R323); not in DETOUR and RETURN. -/
def State.capRound (s : State) (mw : Nat) : State :=
  let s := s.set PSC_PWR_NOW (satW 16 mw)
  let k := s.get PSC_STATUS_SKIP
  if s.mode == .detour || s.mode == .ret then { s.set PSC_STATUS_SKIP 0 with md := { s.md with capRounds := 0 } }
  else
    let s := if k = 0 then s else s.bumpPsc PSC_CAP_SKIP_US 10000
    let n := if s.capMw < mw then s.md.capRounds + 1 else 0
    let s := { s with md := { s.md with capRounds := n } }
    if 2 ≤ n then
      let s := if k = 0 then s.pscEvt PSC_EVT_CAP_SKIP else s
      s.set PSC_STATUS_SKIP (min 8 (k + 1))
    else if 10 * mw ≤ 9 * s.capMw then s.set PSC_STATUS_SKIP (k - 1)
    else s

/-- Dirty data that only a journal record could make safe. -/
def State.heldIncomplete (s : State) : Bool :=
  s.wc.pairs.any fun e => e.2.dirty && !e.2.conv && e.2.data.any fun d => s.incomplete e.1 e.2 d.1

/-- HOLD entry stops at its step 3 with fewer than 16 healthy dump dies, and starts again with 16 (R310, R484). -/
def State.holdRound (s : State) : State :=
  let few := decide (s.healthyDies.length < 16)
  if s.md.holdEntry.isSome ∧ few ∧ !s.inFlight ∧ s.heldIncomplete then s.stopHoldEntry
  else if s.md.holdWait ∧ !few ∧ s.flag PSC_CTRL_HOLD_REQ ∧ s.inModes [.run, .service] ∧ !s.inTransition then s.startHoldEntry
  else s

/-- What a housekeeping round reads, and its end (R403 to R408, R323). -/
def State.houseRound (s : State) (r : Round) : State :=
  let s := ((s.dieRound r.die).extRound r.ext).flashRound
  let s := s.each (List.range 12) fun k s => s.set PSQ_VMON (r.railMv.getD k 0) k
  let s := (s.capRound r.powerMw).throttleRound
  let s := s.writeRound.packRound.crossings.holdRound
  if 500 ≤ s.jmax ∧ s.th.declared.isNone then s.thermalShutdown s.jmax (s.get THM_JMAX_SENSOR) ((List.range 8).map fun k => ofTwos 16 (s.get THM_EXT_READING k))
  else s

/-- HOUSEKEEPING_ROUND: every 10 ms (R403). -/
def execHousekeepingRound (r : Round) (s : State) : Outcome State Fault Refusal :=
  actWhen s (s.coreOn && decide (s.th.roundAt + 10000000 ≤ s.now)) fun s =>
    State.houseRound { s with th := { s.th with roundAt := s.now } } r

/-- THERMAL_TRIP: a 130 °C comparator while CORE is powered (R409). -/
def execThermalTrip (sensor : Nat) (s : State) : Outcome State Fault Refusal :=
  actWhen s ((s.rail 1).armed && decide (sensor < 12)) fun s => s.thermalTrip sensor

/-- THM_CLR_CNT (R391). -/
def execThmClrCnt (s : State) : Outcome State Fault Refusal := actWhen s s.powered fun s => s.clearCounters blkTHM

end Sys2Proof.Machine
end

