-- ==== Sys2Proof/Machine/Flash.lean ====
section
/-!
DEFINITION. The commands of the flash sequencers and the die scheduler (chapter 06).
-/

namespace Sys2Proof.Machine

open Host (Outcome)

/-- Channel and die numbers that exist. -/
def dieOk (c d : Nat) : Bool := decide (c < 64) && decide (d < 32)

/-- The flash channels work in this mode: not while the package is off, at rest or held (Table 01.7). -/
def State.flashOn (s : State) : Bool := s.powered && s.mode != .rest

/-- Refuse a program or erase: counted, recorded, flagged, and given back (R155). -/
def State.refuseOp (s : State) (c d code : Nat) (o : DieOp) : State :=
  let s := s.dequeue c d o.id
  let s := s.bumpFsq FSQ_REFUSE_CNT c
  let s := ((s.set FSQ_LAST_REFUSE_CODE code c).set FSQ_LAST_REFUSE_DIE d c).set FSQ_LAST_REFUSE_BLOCK o.block c
  ((s.set FSQ_LAST_REFUSE_WL o.wl c).fsqEvt FSQ_EVT_REFUSED c).returnOps [o]

/-- Start an operation on a die: a read in an open window, else the operation the die runs.  A read takes its feature
settings with it (R482): read references and, for a Sample Read, the framing; a program its encoded wordline (R213). -/
def State.startOp (s : State) (c d : Nat) (o : DieOp) : State :=
  let s := match (if o.kind = .program then s.encodeOp o else none) with
    | some l => s.put (.program c d o.block o.wl l)
    | none => s
  let s := (s.dequeue c d o.id).acceptProgram c d o
  let s := s.each o.cws fun i s => s.modCw' i fun x => { x with stage := .reading }
  let s := s.modDie c d fun di =>
    let di := if o.isRead then { di with refs := s.setRefs c d o.refs di.refs } else di
    let di := if o.kind = .sampleRead then { di with seq := (di.seq + 1) % 32 } else di
    match di.run with
    | some r => { di with winRead := some (o, s.now), run := some { r with window := r.window.map (· + 1) } }
    | none =>
      { di with run := some { op := o, since := s.now, busy := 0, suspends := 0, window := none, suspending := false } }
  s.showDie c d

/-- DIE_OPERATION_START: the first eligible operation of the decision order starts, or is refused by the check of block states
(R155, R163, R482). -/
def execDieOperationStart (c d : Nat) (s : State) : Outcome State Fault Refusal :=
  actWhen s (dieOk c d && s.flashOn && s.inService c d && !s.chFailed c && s.busFree c) fun s =>
    match s.nextOp c d with
    | none => s
    | some o =>
      let code := if o.checked then s.refusal c d o else 0
      if code = 0 then s.startOp c d o else s.refuseOp c d code o

/-- The program or erase a die ends: none while it is suspended or being suspended. -/
def State.arrayEnds (s : State) (c d : Nat) (k : OpKind) : Option Running :=
  match (s.die c d).run with
  | some r => if r.op.kind = k ∧ r.window.isNone ∧ !r.suspending ∧ !r.op.isDump then some r else none
  | none => none

/-- A die's array falls idle: its busy time without the suspended intervals is debited (R68). -/
def State.arrayIdle (s : State) (c d : Nat) (r : Running) : State :=
  let s := s.debit c d r.op (r.busy + (s.now - r.since))
  (s.modDie c d fun di => { di with run := none }).showDie c d

/-- PROGRAM_COMPLETE: a program ends with its status (R156). -/
def execProgramComplete (c d : Nat) (pass : Bool) (s : State) : Outcome State Fault Refusal :=
  actWhen s (dieOk c d && s.flashOn && s.busFree c && (s.arrayEnds c d .program).isSome) fun s =>
    match s.arrayEnds c d .program with
    | none => s
    | some r =>
      let s := s.arrayIdle c d r
      if pass then (s.programPassed r.op).checkDies.pump
      else
        let s := (s.bumpFsq FSQ_PFAIL_CNT c).fsqEvt FSQ_EVT_PROG_FAIL c
        (s.programFailed c d r.op).checkDies.pump

/-- ERASE_COMPLETE: an erase ends with its status (R154, R156). -/
def execEraseComplete (c d : Nat) (pass : Bool) (s : State) : Outcome State Fault Refusal :=
  actRemovingWhen s (dieOk c d && s.flashOn && s.busFree c && (s.arrayEnds c d .erase).isSome) fun s =>
    match s.arrayEnds c d .erase with
    | none => s
    | some r =>
      let s := s.arrayIdle c d r
      if pass then (s.erasePassed c d r.op).checkDies.showDie c d
      else
        let s := (s.bumpFsq FSQ_EFAIL_CNT c).fsqEvt FSQ_EVT_ERASE_FAIL c
        ((s.eraseFailed c d r.op).checkDies.showDie c d).pump

/-- The read a die ends: of an open window, or the operation it runs; with its start. -/
def State.readEnds (s : State) (c d : Nat) (k : OpKind) : Option (DieOp × Nat) :=
  match (s.die c d).winRead with
  | some (o, t) => if o.kind = k then some (o, t) else none
  | none =>
    match (s.die c d).run with
    | some r => if r.op.kind = k then some (r.op, r.since) else none
    | none => none

/-- A read's array time ends. -/
def State.readIdle (s : State) (c d : Nat) (o : DieOp) (t : Nat) : State :=
  let s := s.debit c d o (s.now - t)
  (s.modDie c d fun di => if di.winRead.isSome then { di with winRead := none } else { di with run := none }).showDie c d

/-- HARD_READ_COMPLETE: a hard read ends and its codewords are transferred to the decoders (R148, R214): of the page, codeword j is bits
36,864 × j on, in cell order (R184). -/
def execHardReadComplete (c d page : Nat) (s : State) : Outcome State Fault Refusal :=
  actWhen s (dieOk c d && s.flashOn && s.busFree c && (s.readEnds c d .hardRead).isSome) fun s =>
    match s.readEnds c d .hardRead with
    | none => s
    | some (o, t) =>
      let s := (s.readIdle c d o t).each o.cws fun i s =>
        match s.cw i with
        | some x => s.toDecoder i (.hard (page / 2 ^ (36864 * x.pos) % 2 ^ 36864) (s.get LDC_CFG_HARD_LLR))
        | none => s
      s.feed

/-- The head of a die's read queue, and its first eligible read (R159, R163). -/
def State.headRead (s : State) (c d : Nat) : Option DieOp := leastBy DieOp.readKey (s.die c d).reads
def State.eligibleRead (s : State) (c d : Nat) : Option DieOp :=
  leastBy DieOp.readKey ((s.die c d).reads.filter fun o => s.hasTokens c d o)

/-- A program or erase may be suspended now for the read at the head, whose bucket is above 0 (R159, R160). -/
def State.maySuspend (s : State) (c d : Nat) (k : OpKind) : Bool :=
  match s.arrayEnds c d k, s.headRead c d with
  | some r, some o => s.hasTokens c d o && s.canSuspend r o
  | _, _ => false

/-- PROGRAM_SUSPEND (R159). -/
def execProgramSuspend (c d : Nat) (s : State) : Outcome State Fault Refusal :=
  actWhen s (dieOk c d && s.flashOn && s.busFree c && s.maySuspend c d .program) fun s => s.suspend c d

/-- ERASE_SUSPEND (R159). -/
def execEraseSuspend (c d : Nat) (s : State) : Outcome State Fault Refusal :=
  actWhen s (dieOk c d && s.flashOn && s.busFree c && s.maySuspend c d .erase) fun s => s.suspend c d

/-- SUSPEND_COMPLETE: the die reports its operation suspended and the read window opens (R161). -/
def execSuspendComplete (c d : Nat) (s : State) : Outcome State Fault Refusal :=
  actWhen s (dieOk c d && s.flashOn && (match (s.die c d).run with | some r => r.suspending | none => false)) fun s =>
    (s.modDie c d fun di =>
      { di with run := di.run.map fun r => { r with suspending := false, window := some 0, busy := r.busy + (s.now - r.since) } }).showDie c d

/-- A suspended operation may be resumed (R161): its window's reads have run or none is eligible, and no data of the die is
still to be transferred. -/
def State.mayResume (s : State) (c d : Nat) (k : OpKind) : Bool :=
  let di := s.die c d
  match di.run with
  | some r =>
    match r.window with
    | some n =>
      r.op.kind == k && di.winRead.isNone && di.samples.isNone
        && (decide (s.windowReads ≤ n) || (s.eligibleRead c d).isNone)
    | none => false
  | none => false

/-- Issue a resume: the array is busy again, and the sample registers are no longer valid (R186). -/
def State.resume (s : State) (c d : Nat) : State :=
  (s.modDie c d fun di => { di with run := di.run.map fun r => { r with window := none, since := s.now } }).showDie c d

/-- PROGRAM_RESUME (R161). -/
def execProgramResume (c d : Nat) (s : State) : Outcome State Fault Refusal :=
  actWhen s (dieOk c d && s.flashOn && s.busFree c && s.mode != .detour && s.mayResume c d .program) fun s => s.resume c d

/-- ERASE_RESUME (R161). -/
def execEraseResume (c d : Nat) (s : State) : Outcome State Fault Refusal :=
  actWhen s (dieOk c d && s.flashOn && s.busFree c && s.mode != .detour && s.mayResume c d .erase) fun s => s.resume c d

/-- The operation that runs on a die was started TIMEOUT_MS ago or longer (R174, Table 06.9). -/
def State.dieOverdue (s : State) (c d : Nat) : Bool :=
  let ns := 1000000 * (if s.get FSQ_TIMING_TIMEOUT_MS c = 0 then 0x32 else s.get FSQ_TIMING_TIMEOUT_MS c)
  match (s.die c d).winRead, (s.die c d).run with
  | some (_, t), _ => s.past (some t) ns
  | none, some r => s.past (some r.since) ns
  | none, none => false

/-- DIE_READY_TIMEOUT: a die that is not ready in time is reset and asked for its ID; a wrong answer or none fails it (R174).  An
operation lost in a reset that the die answers goes back to its owner. -/
def execDieReadyTimeout (c d : Nat) (idOk : Bool) (s : State) : Outcome State Fault Refusal :=
  actWhen s (dieOk c d && s.flashOn && s.dieOverdue c d) fun s =>
    if idOk then
      let di := s.die c d
      let lost := (match di.run with | some r => [r.op] | none => []) ++ (match di.winRead with | some (o, _) => [o] | none => [])
      let s := s.modDie c d fun di => { di with run := none, winRead := none, res := 4, dual := true }
      let s := ((s.loseSamples c d).returnOps lost).showDual c
      let s := s.each (lost.filter (·.isRead)) fun o s => s.modDie c d fun di => di.enqueue o
      let s := s.each ((lost.filter (·.isRead)).map (·.cws)).flatten fun i s => s.modCw' i fun x => { x with stage := .queued }
      let s := s.each (lost.filter fun o => o.kind == .erase) fun o s => s.modDie c d fun di => di.enqueue o
      s.showDie c d
    else s.failDie c d

/-- The rebuild of a die, and the next slot of it that is not copied. -/
def State.rebuildNext (s : State) (c d : Nat) : Option (Bool × Nat × Nat) :=
  match s.fl.rebuilds.find? fun r => r.ch == c && r.die == d with
  | none => none
  | some r =>
    r.work.find? fun (set, key, slot) =>
      match (s.stripeOf set key).bind fun st => st.members[slot]? with
      | some m => m.rebuilt.isSome && m.old.isNone
      | none => false

/-- REBUILD_WORDLINE: the next wordline of a rebuild is read from its peers (R176); rebuild runs in RUN and SERVICE only. -/
def execRebuildWordline (c d : Nat) (s : State) : Outcome State Fault Refusal :=
  actWhen s (dieOk c d && s.inModes [.run, .service] && (s.rebuildNext c d).isSome) fun s =>
    match s.rebuildNext c d with
    | none => s
    | some (set, key, slot) =>
      match (s.stripeOf set key).bind fun st => st.members[slot]? with
      | none => s
      | some m =>
        let wl := m.rebuilt.getD 0
        if s.fl.copies.any fun w => w.set == set && w.key == key && w.slot == slot then s
        else s.startCopy set key slot wl true

/-- RETRAIN_PERIOD_EXPIRY: the channel requests a slot (R180); PERIOD 0 disables periodic slots. -/
def execRetrainPeriodExpiry (c : Nat) (s : State) : Outcome State Fault Refusal :=
  actWhen s (decide (c < 64) && s.flashOn && !s.chFailed c && s.get DSC_TRAIN_CFG_PERIOD != 0
      && decide ((s.chan c).lastSlot + 10000000 * s.get DSC_TRAIN_CFG_PERIOD ≤ s.now)
      && !(s.fl.slots.any fun r => r.ch == c && r.cw.isNone && r.ticket.isNone)) fun s =>
    s.askSlot { ch := c, die := none, cw := none, ticket := none, since := s.now, deferredSince := none }

/-- Defer the requests ahead whose channel has a read short of slack; the first that is not deferred starts (R179, R180). -/
def State.arbitrate : Nat → List SlotReq → State → State
  | 0, _, s => s
  | _, [], s => s
  | n + 1, r :: t, s =>
    if s.slackShort r.ch then
      let s := if r.deferredSince.isSome then s
        else
          let mark (x : SlotReq) : SlotReq := if x = r then { x with deferredSince := some s.now } else x
          { s with fl := { s.fl with slots := s.fl.slots.map mark } }.bumpFsq FSQ_SLOT_DEFER_CNT r.ch
      State.arbitrate n t s
    else s.startSlot r

/-- RETRAINING_SLOT_START: the slot arbiter serves the oldest request; no slot starts in DETOUR (R179, R180). -/
def execRetrainingSlotStart (s : State) : Outcome State Fault Refusal :=
  actWhen s (s.flashOn && s.mode != .detour && s.fl.slotRun.isNone && s.slotGap) fun s =>
    State.arbitrate s.fl.slots.length s.fl.slots s

/-- SLOT_DEFER_TIMEOUT: after MAX_DEFER of deferral the slot starts regardless, except in DETOUR (R180). -/
def execSlotDeferTimeout (s : State) : Outcome State Fault Refusal :=
  actWhen s (s.flashOn && s.mode != .detour && s.fl.slotRun.isNone && s.slotGap) fun s =>
    match s.fl.slots.find? fun r => s.past r.deferredSince (1000000 * s.get DSC_TRAIN_CFG_MAX_DEFER) with
    | some r => s.startSlot r
    | none => s

/-- RETRAINING_SLOT_END: the read eye in 1/64 of a unit interval and the training burst decide whether full retraining becomes
pending; the bus is free and the codeword that asked goes on (R179, R181, R200). -/
def execRetrainingSlotEnd (eye : Nat) (burst : List Nat) (s : State) : Outcome State Fault Refusal :=
  actWhen s s.fl.slotRun.isSome fun s =>
    match s.fl.slotRun with
    | none => s
    | some r =>
      let d := r.die.getD 0
      let s := { s with fl := { s.fl with slotRun := none, slotEnd := s.now } }.set DSC_STATUS_SLOT_CH 0x40
      let s := s.setTokens r.ch d 256 (s.tokens r.ch d 256 - ((s.now - r.since) * 16 / 1000 : Nat))
      let s := s.modChan r.ch fun x => { x with lastSlot := s.now, trainTemp := some s.th.flashNow }
      let sampled := !s.sampleOff r.ch d
      let bad := decide (eye < 16) || (sampled && !trainBurstOk (d % 8) 0 false burst)
      let s := (if bad then s.pendFull r.ch else s).showDie r.ch d
      let s := s.ticketEnd r.ticket (if bad then 4 else 3) eye
      match r.cw with
      | none => s
      | some id =>
        match s.cw id with
        | some c =>
          if c.stage != .slot then s
          else if s.sampleOff c.ch c.die then s.stepFailed id
          else (s.modCw' id fun c => { c with stage := .queued }).startDeep c true
        | none => s

/-- The ticket of a queued full retraining of a channel (Table 16.6). -/
def State.fullTicket (s : State) (c : Nat) : Option Nat :=
  (s.mg.tickets.find? fun e => e.2.kind == 5 && e.2.ch == c && e.2.state == 1).map (·.1)

/-- FULL_RETRAINING_START: a channel whose full retraining is pending or asked for starts it once it is idle, or in SERVICE (R181). -/
def execFullRetrainingStart (c : Nat) (s : State) : Outcome State Fault Refusal :=
  actWhen s (decide (c < 64) && s.flashOn && (s.get FSQ_STATUS_STATE c == 3 || (s.fullTicket c).isSome) && !(s.chan c).fullRunning
      && s.busFree c && (s.chIdle c || s.mode == .service)) fun s =>
    s.startFull c (s.fullTicket c)

/-- The time of a full retraining is charged to the internal reserve of every die of the channel (R482). -/
def State.chargeFull (s : State) (c : Nat) : State :=
  let q := (s.now - (s.chan c).fullSince) * 16 / 1000
  (s.each (s.activeDies c) fun d s => s.setTokens c d 256 (s.tokens c d 256 - q)).modChan c fun x => { x with fullSince := s.now }

/-- A timing-mode setting for each die of a channel that runs at another rate (R482): started ahead of every other operation. -/
def State.setTiming (s : State) (c : Nat) : State :=
  s.each (s.activeDies c) fun d s => s.queueOp c d { DieOp.base with kind := .setting, time := s.now, needsTokens := false }

/-- FULL_RETRAINING_END: the channel runs again, with its dies' sample training (R197); or drops to the next lower rate and
trains again; failure at the lowest rate fails the channel (R147, R181). -/
def execFullRetrainingEnd (c : Nat) (ok : Bool) (training : List DieTraining) (s : State) : Outcome State Fault Refusal :=
  actRemovingWhen s (decide (c < 64) && (s.chan c).fullRunning) fun s =>
    let s := s.chargeFull c
    if ok then
      let s := (s.modChan c fun x => { x with fullRunning := false, trainTemp := some s.th.flashNow }).set FSQ_STATUS_STATE 1 c
      let s := ((s.trained c training).bind (.fsqPartB c)).setTiming c
      let s := if s.get FSQ_STATUS_RATE c < s.topRate c then s.fsqEvt FSQ_EVT_RATE_LOW c else s
      let t := (s.mg.tickets.find? fun e => e.2.kind == 5 && e.2.ch == c && decide (e.2.state ≤ 2)).map (·.1)
      s.ticketEnd t 3 (s.get FSQ_STATUS_RATE c)
    else if s.get FSQ_STATUS_RATE c = 0 then
      let t := (s.mg.tickets.find? fun e => e.2.kind == 5 && e.2.ch == c && decide (e.2.state ≤ 2)).map (·.1)
      ((s.modChan c fun x => { x with fullRunning := false }).failChannel c).ticketEnd t 4 0
    else s.set FSQ_STATUS_RATE (s.get FSQ_STATUS_RATE c - 1) c

/-- BUSY_READ_AROUND: a read at the head of its die's queue starts a read-around because the die is busy with an operation it
can never suspend, for longer than the read's budget lasts (R170). -/
def execBusyReadAround (id : Nat) (s : State) : Outcome State Fault Refusal :=
  actWhen s (s.inModes [.run, .service] && s.flag DSC_CFG_BUSY_RA && s.flag TLG_CTRL_RA_EN && (match s.cw id with
      | none => false
      | some c =>
        match c.owner, (s.die c.ch c.die).run, s.headRead c.ch c.die with
        | .host i _, some r, some o =>
          match s.ctx i with
          | none => false
          | some x =>
            (r.op.kind == .program || r.op.kind == .erase) && r.window.isNone && !r.suspending
              && o.cws.contains id && s.neverSuspend r o && x.raBudget != 0 && c.stripe.isSome && !s.unprotectedCw c && !c.recon
              && decide (s.now < x.fetchNs + 1000 * x.raBudget)
              && decide (x.fetchNs + 1000 * x.raBudget < s.now + (r.op.estimate - (r.busy + (s.now - r.since))))
        | _, _, _ => false)) fun s =>
    match s.cw id with
    | none => s
    | some c =>
      let race := match c.owner with | .host i _ => (match s.ctx i with | some x => x.raRace | none => false) | _ => false
      let s := match c.owner with | .host i _ => s.modCtx i fun x => { x with raStarted := true } | _ => s
      (s.bump blkDSC DSC_BUSY_RA_CNT).readAround id race

/-- RECONSTRUCTION_COMPLETE: the last peer has decoded and the XOR rebuilds the codeword (R169). -/
def execReconstructionComplete (id : Nat) (s : State) : Outcome State Fault Refusal :=
  actWhen s (s.flashOn && (match s.cw id with
      | some c => c.recon && c.peersLeft == 0 && !c.peerFailed
      | none => false)) fun s => s.reconDone id

/-- FSQ_CLR_CNT: the channel's counters go to 0 and its events are re-armed (R182). -/
def execFsqClrCnt (c : Nat) (s : State) : Outcome State Fault Refusal :=
  actWhen s (s.powered && decide (c < 64)) fun s =>
    let l := [FSQ_REFUSE_CNT, FSQ_PFAIL_CNT, FSQ_EFAIL_CNT, FSQ_SUSP_CNT, FSQ_RETRAIN_CNT, FSQ_SLOT_DEFER_CNT]
    (s.each l fun f s => s.set f 0 c).rearm [c] 0x200

/-- DSC_CLR_CNT (R182). -/
def execDscClrCnt (s : State) : Outcome State Fault Refusal := actWhen s s.powered fun s => s.clearCounters blkDSC

end Sys2Proof.Machine
end

