-- ==== Sys2Proof/Machine/Hold.lean ====
section
/-!
DEFINITION. The commands of the hold-up controller: input watch, Detour, Return, gauge, charger, learning and pack (chapter 09).
Assumption log: DEDUCED (44).
-/

namespace Sys2Proof.Machine

open Host (Outcome)

/-- A change of the gauge; in REST a pack that has become not ready is the gauge alarm (Table 11.5). -/
def State.gauged (s : State) (f : State → State) : State :=
  let t := f s
  if s.mode == .rest && s.packReady && !t.packReady then t.wakeSource 7 else t

/-- The hold-up controller samples the pack: core is powered, or HKC runs for it in WATCH (R320). -/
def State.gaugeOn (s : State) : Bool := s.hu.pack.isSome && (s.coreOn || (s.mode == .watch && s.md.hkc))

-- input

/-- INPUT_LOSS (R252, R296): declared once until the input has been valid again. -/
def execInputLoss (s : State) : Outcome State Fault Refusal :=
  actWhen s (s.pw.ao && !s.hu.lost) fun s => s.inputFails

/-- INPUT_VALID: the input has risen to the valid threshold; the valid time counts from now, and after a power-down for input loss it is
an on request (R251, R290). -/
def execInputValid (mv : Nat) (s : State) : Outcome State Fault Refusal :=
  actWhen s (s.pw.ao && s.hu.validSince.isNone && decide (s.validDv * 100 ≤ mv)) fun s =>
    let s := ({ s with hu := { s.hu with lost := false, validSince := some s.now } }.set HUC_STATUS_INPUT_VALID 1).inputInside true
    let byLoss := match s.pw.seq with | .down _ => s.pw.making.cause == 2 || s.pw.making.cause == 3 | _ => s.pw.inputOn
    let s := if byLoss then s.latchOn false else s
    s.wakeSource 8

/-- INPUT_INVALID: the input has dipped below the valid threshold without loss; the valid time starts afresh (R251). -/
def execInputInvalid (mv : Nat) (s : State) : Outcome State Fault Refusal :=
  actWhen s (s.pw.ao && s.hu.validSince.isSome && decide (mv < s.validDv * 100)) fun s =>
    let s := { s with hu := { s.hu with validSince := none } }.set HUC_STATUS_INPUT_VALID 0
    s.wakeSource 8

-- Detour and Return

/-- DUMP_PACE_TICK: each dump die starts its next wordline (R260). -/
def execDumpPaceTick (s : State) : Outcome State Fault Refusal :=
  actWhen s (s.inModes [.detour] && s.dumpPads) fun s => s.pace

/-- DUMP_PROGRAM_COMPLETE: a unit or directory is verified, or fails and is written again; a failed die's units go to the others
(R260, R261). -/
def execDumpProgramComplete (c d : Nat) (outcome : Nat) (s : State) : Outcome State Fault Refusal :=
  let k := dieKey c d
  let runs := match s.hu.dump with | some x => x.busy.has k || x.dirBusy.contains k | none => false
  actWhen s (s.inModes [.detour] && runs) fun s =>
    let s := s.stepDump fun x => x.programEnds k outcome
    let s := if outcome = 1 then (s.bumpFsq FSQ_PFAIL_CNT c).fsqEvt FSQ_EVT_PROG_FAIL c else s
    if outcome = 2 then s.failDie c d else s.dumpWordline k

/-- DUMP_COMMIT: every directory is verified; the record and its commit mark are written (R258, Table 09.3 steps 7 and 8). -/
def execDumpCommit (s : State) : Outcome State Fault Refusal :=
  let may := match s.hu.dump with | some d => d.mayCommit && d.committedAt.isNone | none => false
  actWhen s (s.inModes [.detour] && may) fun s => s.commitDump

/-- DUMP_ABANDON: the pack has fallen below V_MIN before the commit (R262). -/
def execDumpAbandon (s : State) : Outcome State Fault Refusal :=
  let may := match s.hu.dump with | some d => d.committedAt.isNone | none => false
  actWhen s (s.inModes [.detour] && may && s.hu.pack.isSome) fun s => s.abandonDump

/-- The input has been valid for VALID_MS (Table 09.13). -/
def State.inputStood (s : State) : Bool :=
  match s.hu.validSince with | some t => decide (t + 1000000 * max 0x32 (s.get HUC_SUPPLY_CFG_VALID_MS) ≤ s.now) | none => false

/-- DUMP_SUPERSEDE: after the commit the input has been valid for VALID_MS; the device returns to the mode it left (R264), and a self-test that
waited may start (R217). -/
def execDumpSupersede (s : State) : Outcome State Fault Refusal :=
  let may := match s.hu.dump with | some d => d.committedAt.isSome && !d.thermal && !d.fault | none => false
  actWhen s (s.inModes [.detour] && may && !s.md.offDetour && s.inputStood) fun s => s.supersede.afterTransition.waitingTest

/-- RETURN_COMPLETE: RETURN ends with the check of R157 done and a condition of step 6 met (R265, R266). -/
def execReturnComplete (lost : List Nat) (s : State) : Outcome State Fault Refusal :=
  actWhen s (s.inModes [.ret] && s.mayEndReturn) fun s => (s.endReturn lost).afterTransition

/-- RETURN_WAIT_TIMEOUT: RET_WAIT_S has elapsed; step 6 waits no longer (R265). -/
def execReturnWaitTimeout (s : State) : Outcome State Fault Refusal :=
  let waited := match s.hu.ret with | some t => decide (t + 1000000000 * s.get HUC_SUPPLY_CFG_RET_WAIT_S ≤ s.now) | none => false
  actWhen s (s.inModes [.ret] && waited) fun s => { s with hu := { s.hu with retWaited := true } }

-- gauge and charger

/-- GAUGE_SAMPLE (R250). -/
def execGaugeSample (volts : Nat) (amps temp : Int) (s : State) : Outcome State Fault Refusal :=
  actWhen s s.gaugeOn fun s => s.gauged fun s => s.sample volts amps temp

/-- GAUGE_RECOMPUTE: E_u and N_h go to the write cache (R268); in REST a limit that would fall, or a pack no longer ready, wakes the
device instead (Table 11.5). -/
def execGaugeRecompute (s : State) : Outcome State Fault Refusal :=
  actWhen s s.powered fun s => s.gauged fun s =>
    let s := s.estimate.readyEval.showGauge
    let t := s.supply (to32 s.eU) (s.get HUC_DUMP_N_H)
    if s.mode == .rest then (if t.newLimit < s.get WCU_LIMIT_L then s.wakeSource 7 else s) else t

/-- REST_WINDOW_END: 30 min of rest give a reading of the open-circuit voltage in 100 µV (R270). -/
def execRestWindowEnd (ocv : Nat) (s : State) : Outcome State Fault Refusal :=
  let learn := match s.hu.learn with | some l => l.step == 1 | none => false
  actWhen s (s.gaugeOn && s.past s.hu.restSince 1800000000000 && (s.gauge == gsRest || s.gauge == gsForced || learn)) fun s =>
    s.gauged fun s => (s.restEnds ocv).estimate.readyEval.showGauge

/-- FORCED_REST_DUE: REST_MAX_H without a rest reset: a forced rest window, or growth of U and source 186 (R271). -/
def execForcedRestDue (s : State) : Outcome State Fault Refusal :=
  let h := if s.get HUC_GAUGE_CFG_REST_MAX_H = 0 then 0x48 else s.get HUC_GAUGE_CFG_REST_MAX_H
  actWhen s (s.packSound && s.powered && s.gauge != gsForced && !s.flag HUC_STATUS_NO_REST
      && decide (s.hu.lastRest + 3600000 * h ≤ s.ms.opMs)) fun s => s.gauged fun s =>
    if s.forcedOk then s.forceRest
    else
      let step : Int := (s.get HUC_GAUGE_CFG_U_STEP : Int) * qJ
      let s := { s with hu := { s.hu with u := min s.hu.c (s.hu.u + step), forceHeld := true } }
      ((s.set HUC_STATUS_NO_REST 1).raise 186).estimate.readyEval.showGauge

/-- UNCERTAINTY_HOURLY: U grows by 0.1 J, and by U_RATE while no rest window can be made; a forced one is tried again (R271, R272). -/
def execUncertaintyHourly (s : State) : Outcome State Fault Refusal :=
  actWhen s (s.packSound && s.powered && decide (s.hu.hourAt + 3600000 ≤ s.ms.opMs)) fun s => s.gauged fun s =>
    let s := { s with hu := { s.hu with hourAt := s.ms.opMs } }
    let rate : Int := if s.flag HUC_STATUS_NO_REST then (s.get HUC_GAUGE_CFG_U_RATE : Int) * qJ / 8 else 0
    let s := { s with hu := { s.hu with u := min s.hu.c (s.hu.u + qJ / 10 + rate) } }
    let s := if s.hu.forceHeld then s.askForced else s
    s.estimate.readyEval.showGauge

/-- ESTIMATE_DISAGREE: the estimates have been apart for 60 s (R272). -/
def execEstimateDisagree (s : State) : Outcome State Fault Refusal :=
  actWhen s (s.gaugeOn && s.past s.hu.disagreeSince 60000000000 && !s.flag HUC_STATUS_DISAGREE) fun s =>
    let s := (((s.set HUC_STATUS_DISAGREE 1).bump blkHUC HUC_DISAGREE_CNT).raise 185).history 7
    { s with hu := { s.hu with forceHeld := true } }

/-- HUC_REST_NOW: a forced rest window is asked for (R271). -/
def execHucRestNow (s : State) : Outcome State Fault Refusal :=
  actWhen s (s.powered && s.packSound) fun s => s.askForced

/-- HUC_Z_NOW: an impedance step is asked for; one that cannot run now is held (R275). -/
def execHucZNow (s : State) : Outcome State Fault Refusal :=
  actWhen s (s.powered && s.packSound) fun s =>
    if s.zStepOk then s.startZStep else { s with hu := { s.hu with zHeld := true } }

/-- IMPEDANCE_STEP_START (R275). -/
def execImpedanceStepStart (s : State) : Outcome State Fault Refusal :=
  actWhen s (s.powered && s.zStepOk && s.zDue) fun s => s.startZStep

/-- IMPEDANCE_MEASURE: Z is ΔV / ΔI 10 ms into the step (R275, R276). -/
def execImpedanceMeasure (dv di : Nat) (s : State) : Outcome State Fault Refusal :=
  actWhen s (s.powered && s.past s.hu.zStep 10000000) fun s => s.gauged fun s => s.measureZ dv di

/-- IMPEDANCE_STEP_END: charging resumes (R275). -/
def execImpedanceStepEnd (s : State) : Outcome State Fault Refusal :=
  actWhen s (s.powered && s.past s.hu.zStep 20000000) fun s => { s with hu := { s.hu with zStep := none } }.chargeEval

/-- PACK_HOT_TIMEOUT: the pack has been above 60 °C for 1 h (R276). -/
def execPackHotTimeout (s : State) : Outcome State Fault Refusal :=
  actWhen s (s.gaugeOn && s.past s.hu.hotSince 3600000000000) fun s => s.gauged fun s => s.packFail

/-- CHARGE_TIMEOUT: charging from below 90% of C has not reached float in 4 h (R276). -/
def execChargeTimeout (s : State) : Outcome State Fault Refusal :=
  actWhen s (s.powered && s.past s.hu.chgSince 14400000000000) fun s => s.gauged fun s => s.packFail

/-- PACK_INSERT (R277). -/
def execPackInsert (found : PackFound) (s : State) : Outcome State Fault Refusal :=
  actWhen s (s.powered && s.hu.pack.isNone) fun s => s.insertPack found true

/-- PACK_REMOVE (R269). -/
def execPackRemove (s : State) : Outcome State Fault Refusal :=
  actWhen s (s.powered && s.hu.pack.isSome) fun s => s.gauged fun s => s.removePack true

/-- HUC_LEARN_NOW: a learning cycle is asked for; one that cannot start now is held (R279). -/
def execHucLearnNow (s : State) : Outcome State Fault Refusal :=
  actWhen s (s.powered && s.packSound && s.hu.learn.isNone) fun s =>
    if s.learnOk then s.startLearn else { s with hu := { s.hu with learnHeld := true } }

/-- LEARN_START (R279). -/
def execLearnStart (s : State) : Outcome State Fault Refusal :=
  actWhen s (s.powered && s.learnOk && s.learnDue) fun s => s.startLearn

/-- LEARN_REST_END: OCV2 in 100 µV gives C, or the cycle is disqualified (R279, R280). -/
def execLearnRestEnd (ocv : Nat) (s : State) : Outcome State Fault Refusal :=
  let last := match s.hu.learn with | some l => l.step == 3 && decide (l.since + 1800000000000 ≤ s.now) | none => false
  actWhen s (s.powered && last) fun s => s.gauged fun s => s.endLearn ocv

/-- LIFE_RECORD_PERIOD: the life record is written every 24 operating hours (R281). -/
def execLifeRecordPeriod (s : State) : Outcome State Fault Refusal :=
  actWhen s (s.powered && s.hu.pack.isSome && decide (s.hu.lifeAt + 86400000 ≤ s.ms.opMs)) fun s =>
    { s with hu := { s.hu with lifeAt := s.ms.opMs } }.writeLife

/-- HUC_CLR_CNT (R283). -/
def execHucClrCnt (s : State) : Outcome State Fault Refusal := actWhen s s.powered fun s => s.clearCounters blkHUC

end Sys2Proof.Machine
end

