-- ==== Sys2Proof/Machine/Host.lean ====
section
/-!
DEFINITION. The commands of the host link and its queues (chapter 02): links, resets, shutdown, doorbells, fetch and completion.
Assumption log: PRESUMED (16).
-/

namespace Sys2Proof.Machine

open Host (Outcome)

/-- A port in use. -/
def State.isPort (s : State) (p : Nat) : Bool := s.portList.contains p

/-- Modes in which a host link may train: not in DETOUR and REST, and not in RETURN before its end (R260, R265). -/
def State.linkMode (s : State) : Bool := s.inModes [.boot, .hold, .run, .service]

/-- Lanes of a port (Table 02.1): 16, or 8 of each half of a split link. -/
def State.maxWidth (s : State) : Nat := if s.get GLB_CONFIG_INFO_PORTS = 2 then 8 else 16

/-- What a link may train to (Table 02.1): 16, 32 or 64 GT/s, x16 (of an unsplit link), x8 or x4; at 64 GT/s in FLIT mode. -/
def State.linkFits (s : State) (rate width : Nat) (flit : Bool) : Bool :=
  decide (rate ≤ 2) && [4, 8, 16].contains width && decide (width ≤ s.maxWidth) && (rate != 2 || flit)

/-- LINK_UP (R29, R32): rate 0 to 2 for 16, 32 and 64 GT/s. -/
def execLinkUp (port rate width : Nat) (flit : Bool) (s : State) : Outcome State Fault Refusal :=
  actWhen s (s.isPort port && s.linkMode && !(s.port port).perst && !s.pw.phyFailed && !s.flag QEN_LINK_UP port
      && s.linkFits rate width flit) fun s =>
    let s := ((s.set QEN_LINK_RATE rate port).set QEN_LINK_WIDTH width port).setB QEN_LINK_FLIT flit port
    let s := (s.modPort port fun pt => { pt with cfg := { pt.cfg with pasidEnable := true } }).set QEN_LINK_UP 1 port
    let most := s.maxWidth
    let s := s.raise 97
    if rate < 2 ∨ width < most then s.raise 98 else s

/-- LINK_DOWN (R34). -/
def execLinkDown (port : Nat) (s : State) : Outcome State Fault Refusal :=
  actWhen s (s.isPort port && s.powered && s.flag QEN_LINK_UP port) fun s => s.linkDown port

/-- FUNCTION_LEVEL_RESET (R34). -/
def execFunctionLevelReset (port : Nat) (s : State) : Outcome State Fault Refusal :=
  actWhen s (s.isPort port && s.powered && s.flag QEN_LINK_UP port) fun s =>
    let keep := (s.port port).cfg.pasidEnable
    (s.controllerReset port true).modPort port fun pt => { pt with cfg := { pt.cfg with pasidEnable := keep } }

/-- PERST_ASSERT: a Conventional Reset of the port; in REST it is applied at the wake (R34, Table 11.5). -/
def execPerstAssert (port : Nat) (s : State) : Outcome State Fault Refusal :=
  actWhen s (decide (port < 2) && !(s.port port).perst) fun s =>
    let s := s.modPort port fun pt => { pt with perst := true }
    if !(s.powered && s.isPort port) then s
    else if s.mode == .rest then { s with md := { s.md with perstInRest := insSorted port s.md.perstInRest } }
    else if s.flag QEN_LINK_UP port then s.linkDown port
    else s.controllerReset port true

/-- PERST_DEASSERT: an on request in OFF and WATCH, a wake source in REST (R290, Table 11.5). -/
def execPerstDeassert (port : Nat) (s : State) : Outcome State Fault Refusal :=
  actWhen s (decide (port < 2) && (s.port port).perst) fun s =>
    let s := s.modPort port fun pt => { pt with perst := false }
    let s := if s.pw.seq = .idle ∧ !s.coreOn then s.latchOn true else s
    s.wakeSource 1

/-- CC_EN_SET: entry sizes are checked, then the admin queue is usable and CSTS.RDY follows the mode (R36); the power state in force is
looked at again (R322). -/
def execCcEnSet (port iosqes iocqes ams asqs acqs : Nat) (s : State) : Outcome State Fault Refusal :=
  actWhen s (s.isPort port && s.powered && s.flag QEN_LINK_UP port && !(s.port port).ccEn) fun s =>
    let ok := iosqes == 6 && iocqes == 4
    let s := s.modPort port fun pt =>
      { pt with ccEn := true, cfs := !ok, ams := ams, cc := 1 + ams * 2 ^ 11 + iosqes * 2 ^ 16 + iocqes * 2 ^ 20,
                aqa := asqs % 4096 + acqs % 4096 * 2 ^ 16, adminOk := ok, asq := Sq.empty port 0 (asqs % 4096 + 1), acq := Cq.empty port 0 (acqs % 4096 + 1) }
    s.showRdy.updatePs

/-- CC_EN_CLEAR (R34). -/
def execCcEnClear (port : Nat) (s : State) : Outcome State Fault Refusal :=
  actWhen s (s.isPort port && s.powered && (s.port port).ccEn) fun s => s.controllerReset port false

/-- NORMAL_SHUTDOWN: fetch stops and a flush to empty starts, unless flash writes are forbidden (R37, R484).  In HOLD nothing is dirty
(R309); in BOOT and RETURN the flush goes on in the mode that follows. -/
def execNormalShutdown (port : Nat) (s : State) : Outcome State Fault Refusal :=
  actWhen s (s.isPort port && s.inModes [.boot, .run, .hold, .ret, .service] && (s.port port).ccEn && (s.port port).shst == 0) fun s =>
    let quick := s.flag THM_STATUS_WR_FORBID || s.mode == .hold
    let s := s.modPort port fun pt => { pt with shst := 1, shut := if quick then .abrupt else .normal s.now }
    let s := if quick then s else s.flushToEmpty port
    s.showFetch

/-- ABRUPT_SHUTDOWN: fetch stops; nothing is flushed (R37). -/
def execAbruptShutdown (port : Nat) (s : State) : Outcome State Fault Refusal :=
  actWhen s (s.isPort port && s.powered && (s.port port).ccEn && (s.port port).shst == 0) fun s =>
    (s.modPort port fun pt => { pt with shst := 1, shut := .abrupt }).showFetch

/-- SHUTDOWN_TIMEOUT: 1 s after a normal shutdown request (R37). -/
def execShutdownTimeout (port : Nat) (s : State) : Outcome State Fault Refusal :=
  let normal := match (s.port port).shut with | .normal t => decide (t + 1000000000 ≤ s.now) | _ => false
  actWhen s (s.isPort port && s.powered && normal) fun s => s.shutdownEnds port

/-- SHUTDOWN_DONE: the commands in flight are finished and, for a normal shutdown, no dirty data is held (R37, R484). -/
def execShutdownDone (port : Nat) (s : State) : Outcome State Fault Refusal :=
  let ends := match (s.port port).shut with
    | .abrupt => true
    | .normal _ => s.dirtyAll == 0 && s.xl.recs.isEmpty
    | .none => false
  actWhen s (s.isPort port && s.powered && ends && !s.busyOn port) fun s => s.shutdownEnds port

/-- SQ_TAIL_DOORBELL (R43, Table 02.11): writes to queues of a slice under reset are discarded (Table 03.2). -/
def execSqTailDoorbell (port qid value : Nat) (pasid : Option Nat) (s : State) : Outcome State Fault Refusal :=
  actWhen s (s.isPort port && s.hostOpen port) fun s =>
    let slot := if qid = 0 then 0 else slotOf port qid
    match if qid ≤ s.maxQ then s.sq port slot else none with
    | none => if s.badPasid none pasid then s.dropDoorbell else s.badDoorbell port
    | some q =>
      if s.badPasid q.pasid pasid then s.dropDoorbell
      else if slot != 0 && s.underReset (s.queueSlice q) then s
      else if q.size ≤ value then s.badDoorbellValue port
      else s.modSq port slot fun q => { q with tail := value }

/-- CQ_HEAD_DOORBELL (R43, R47, Table 02.11). -/
def execCqHeadDoorbell (port qid value : Nat) (pasid : Option Nat) (s : State) : Outcome State Fault Refusal :=
  actWhen s (s.isPort port && s.hostOpen port) fun s =>
    let slot := if qid = 0 then 0 else slotOf port qid
    match if qid ≤ s.maxQ then s.cq port slot else none with
    | none => if s.badPasid none pasid then s.dropDoorbell else s.badDoorbell port
    | some q =>
      if s.badPasid q.pasid pasid then s.dropDoorbell
      else if slot != 0 && (match s.sliceOf port q.pasid with | some n => s.underReset n | none => false) then s
      else if q.size ≤ value ∨ (q.tail + q.size - q.head) % q.size < (value + q.size - q.head) % q.size then s.badDoorbellValue port
      else (s.modCq port slot fun q => { q with head := value }).showStall port slot

/-- COMMAND_FETCH: the port takes the next command in the order of R44; `entry` is what it reads. -/
def execCommandFetch (port : Nat) (entry : SqEntry) (s : State) : Outcome State Fault Refusal :=
  actWhen s (s.isPort port && s.fetchOpen port) fun s =>
    if s.adminReady port then s.fetchAdmin port entry
    else match s.fetchTurn port with
      | some (slot, pt) => (s.modPort port fun _ => pt).fetchIo port slot entry
      | none => s

/-- COMPLETION_POST (R46, R47, R72, R79); deletions waiting for their last command go on (R57). -/
def execCompletionPost (port qid : Nat) (s : State) : Outcome State Fault Refusal :=
  actWhen s (s.isPort port && s.hostOpen port && decide (qid ≤ s.maxQ)) fun s =>
    let slot := if qid = 0 then 0 else slotOf port qid
    ((s.postNext port slot).showStall port slot).settleDeletes

/-- CQ_STALL_TIMEOUT (R47). -/
def execCqStallTimeout (port qid : Nat) (s : State) : Outcome State Fault Refusal :=
  let slot := if qid = 0 then 0 else slotOf port qid
  actWhen s (s.isPort port && s.powered && decide (qid ≤ s.maxQ) && s.cqStalled port slot
      && !(match s.cq port slot with | some q => q.stalled || !s.past q.fullSince 1000000 | none => true)) fun s =>
    let s := s.modCq port slot fun q => { q with stalled := true }
    (s.bump blkQEN QEN_CQ_STALL_CNT).raise 113

/-- AER_ERROR_LOGGED: severity 0 correctable, 1 non-fatal, 2 fatal (R29, Table 02.12).  The header of the TLP of an uncorrectable error is
logged where none is held yet. -/
def execAerErrorLogged (port severity : Nat) (header : List Nat) (s : State) : Outcome State Fault Refusal :=
  actWhen s (s.isPort port && s.powered && s.flag QEN_LINK_UP port && decide (severity ≤ 2)) fun s =>
    let s := s.modPort port fun pt =>
      { pt with cfg := { pt.cfg with aerStatus := setBit pt.cfg.aerStatus severity,
                                     aerHeader := if severity = 0 then pt.cfg.aerHeader else pt.cfg.aerHeader.or (some header) } }
    (s.put (.aer port severity)).raise (99 + severity)

/-- PASID_ENABLE_CLEAR: every queue of the port becomes unbound (R31). -/
def execPasidEnableClear (port : Nat) (s : State) : Outcome State Fault Refusal :=
  actWhen s (s.isPort port && s.powered && (s.port port).cfg.pasidEnable) fun s =>
    let s := s.modPort port fun pt => { pt with cfg := { pt.cfg with pasidEnable := false } }
    let slice := s.defSlice port
    let freeSq (q : Sq) : Sq := if q.port = port then { q with pasid := none, slice := slice } else q
    let freeCq (q : Cq) : Cq := if q.port = port then { q with pasid := none } else q
    let s := { s with sqs := s.sqs.mapVals fun _ q => freeSq q, cqs := s.cqs.mapVals fun _ q => freeCq q }
    s.each (s.slotsOf port) fun n s => s.showQueue n

/-- QEN_CLR_CNT (R59). -/
def execQenClrCnt (s : State) : Outcome State Fault Refusal :=
  actWhen s s.powered fun s => (s.clearCounters blkQEN).rearm blkQEN.rearm

/-- QEN_CLR_PEAK (Table 02.15). -/
def execQenClrPeak (s : State) : Outcome State Fault Refusal := actWhen s s.powered fun s => s.set QEN_CTX_PEAK s.ctxUsed

end Sys2Proof.Machine
end

