-- ==== Sys2Proof/Machine/Io.lean ====
section
/-!
DEFINITION. I/O commands (Table 02.8): what a fetched command of each opcode does.  `ctx` names the context the command holds; `data`
is what the host's buffers hold, `upsets` the entries of the waypoint table in which a lookup meets an uncorrectable word.
-/

namespace Sys2Proof.Machine

open Host (Outcome)

/-- A fetched I/O command of its slice's present generation that has not been passed on yet, of an opcode, in a mode that runs I/O; with its zone send action where it is
one. -/
def State.ioCtx (s : State) (id opc : Nat) (zsa : Option Nat) : Option Ctx :=
  if !s.inModes [.run, .service] then none
  else match s.ctx id with
    | none => none
    | some c =>
      let act := match zsa with | some a => bits c.e.dw13 7 0 == a | none => true
      if c.slot != 0 && c.stage == .fetched && c.e.opc == opc && act && !s.oldGen c then some c else none

/-- Carry out an I/O command of a context, where it is one of the row's. -/
def runRow (s : State) (id opc : Nat) (zsa : Option Nat) (data : List Nat) (upsets : List Upset) (ranges : List (Nat × Nat)) :
    Outcome State Fault Refusal :=
  act s fun s => match s.ioCtx id opc zsa with
    | some c => s.runIo c data upsets ranges
    | none => s

/-- IO_READ (R127). -/
def execIoRead (ctx : Nat) (s : State) : Outcome State Fault Refusal := runRow s ctx 0x02 none [] [] []

/-- IO_WRITE (R95). -/
def execIoWrite (ctx : Nat) (data : List Nat) (upsets : List Upset) (s : State) : Outcome State Fault Refusal := runRow s ctx 0x01 none data upsets []

/-- WRITE_ZEROES (R95). -/
def execWriteZeroes (ctx : Nat) (upsets : List Upset) (s : State) : Outcome State Fault Refusal := runRow s ctx 0x08 none [] upsets []

/-- ZONE_APPEND (R97). -/
def execZoneAppend (ctx : Nat) (data : List Nat) (upsets : List Upset) (s : State) : Outcome State Fault Refusal := runRow s ctx 0x7D none data upsets []

/-- FLUSH (R49). -/
def execFlush (ctx : Nat) (s : State) : Outcome State Fault Refusal := runRow s ctx 0x00 none [] [] []

/-- DATASET_MANAGEMENT (R232). -/
def execDatasetManagement (ctx : Nat) (ranges : List (Nat × Nat)) (s : State) : Outcome State Fault Refusal :=
  runRow s ctx 0x09 none [] [] ranges

/-- ZONE_OPEN (R98). -/
def execZoneOpen (ctx : Nat) (upsets : List Upset) (s : State) : Outcome State Fault Refusal := runRow s ctx 0x79 (some 3) [] upsets []

/-- ZONE_CLOSE (R98). -/
def execZoneClose (ctx : Nat) (s : State) : Outcome State Fault Refusal := runRow s ctx 0x79 (some 1) [] [] []

/-- ZONE_FINISH (R98). -/
def execZoneFinish (ctx : Nat) (s : State) : Outcome State Fault Refusal := runRow s ctx 0x79 (some 2) [] [] []

/-- ZONE_RESET (R98). -/
def execZoneReset (ctx : Nat) (s : State) : Outcome State Fault Refusal := runRow s ctx 0x79 (some 4) [] [] []

/-- ZONE_OFFLINE (R98). -/
def execZoneOffline (ctx : Nat) (s : State) : Outcome State Fault Refusal := runRow s ctx 0x79 (some 5) [] [] []

/-- ZONE_MANAGEMENT_RECEIVE (R53). -/
def execZoneManagementReceive (ctx : Nat) (s : State) : Outcome State Fault Refusal := runRow s ctx 0x7A none [] [] []

/-- FLUSH_TO_EMPTY_END (R484): no pair is dirty and no record is held. -/
def execFlushToEmptyEnd (s : State) : Outcome State Fault Refusal :=
  actWhen s (!s.wc.flushBy.isEmpty && s.dirtyAll == 0 && s.xl.recs.isEmpty) fun s => s.flushedEmpty

end Sys2Proof.Machine
end

