-- ==== Sys2Proof/Machine/Memory.lean ====
section
/-!
DEFINITION. The commands of the DRAM controller and of on-chip memory protection (chapter 12).
-/

namespace Sys2Proof.Machine

open Host (Outcome)

/-- An uncorrectable burst (R330, R341): counted, recorded, reported as a contained error; its row becomes a candidate;
more than UE_LOSS of them within 1 s lose the channel. -/
def State.dramUncorrectable (s : State) (d addr type : Nat) (master : Nat) : State :=
  let s := (s.bumpDmc DMC_UE_CNT d).set DMC_LAST_ERR (addr / 64) d
  let s := (s.set DMC_EVT_UE 1 d).raise (80 + 4 * d)
  let s := s.reportUE (addr + d * 2 ^ 46) master type 2
  let s := s.addCand d (dramRow (s.pop d) addr) 1
  let l := ((s.dchan d).ueTimes.filter fun t => s.now < t + 1000000000) ++ [s.now]
  let s := s.modDchan d fun c => { c with ueTimes := l }
  let lim := s.get DMC_CTRL_UE_LOSS
  if 0 < lim ∧ lim < l.length then s.loseDram d else s

/-- A DMA channel that reads an uncorrectable word halts; its transfer fails, and a host read is run once more from the
media before it completes with Data Transfer Error (R352). -/
def State.dmaFailed (s : State) (master : Nat) (ctx : Option Nat) : State :=
  let s := s.haltDma master
  match ctx with
  | none => s
  | some id =>
    match s.ctx id with
    | none => s
    | some c =>
      if c.dmaRetried then s.complete id .dataTransferError
      else (s.modCtx id fun c => { c with dmaRetried := true }).rereadMedia id

/-- The reaction of the consumer of a poisoned DRAM read (R330): a partial-parity slot is rewritten from its other copy.  The
copies of a channel that has just been lost are gone with it. -/
def State.poisoned (s : State) (d : Nat) (r : DramReq) (use : Option CacheUse) : State :=
  match r.user with
  | .pair p copyB =>
    if s.chLive d then
      let s := s.copyBad p copyB r use
      if ((s.wc.pairs.look p).bind fun x => x.badCopy) = some copyB then s else s.rehit use
    else s.rehit use
  | .slot _ => if s.chLive d then s.rewriteBurst d r.addr 2 r.source else s
  | .segment nsid seg => s.segmentBad nsid seg
  | .link list => s.breakList list
  | .dma m ctx => s.dmaFailed m ctx

/-- DRAM_REQUEST: a request enters a queue by class and the bus serves the channel (R332, R333). -/
def execDramRequest (d : Nat) (r : DramReq) (s : State) : Outcome State Fault Refusal :=
  actWhen s (s.powered && d < 4 && s.chLive d && !s.flag DMC_CH_STAT_SREF d) fun s =>
    ((s.queueDram d r none).dramService d).takeAnswered d

/-- DRAM_READ_COMPLETE: the oldest access on the bus in which that burst lies ends; good data, corrected data with write-back, or
poisoned data with its consumer's rule, by the wrong symbols of the burst (R328, R329, R330). -/
def execDramReadComplete (d : Nat) (o : DramOutcome) (s : State) : Outcome State Fault Refusal :=
  actWhen s (s.powered && d < 4 && s.chLive d) fun s =>
    match (s.dchan d).issued.find? fun q => decide (q.req.addr ≤ o.addr) && decide (o.addr < q.req.addr + max 1 q.req.len) with
    | none => s
    | some q =>
      let err := if (s.dchan d).poison.contains (o.addr / 64 * 64) then 2 else s.eccError o.symbols
      let s := s.modDchan d fun c => { c with issued := c.issued.filter (·.id != q.id) }.effect q.id
      let s :=
        if err = 1 then (s.dramCorrected d o.addr).useDone q.use
        else if err = 2 then
          let s := s.dramUncorrectable d o.addr 6 q.req.source
          if q.req.write then
            if s.chLive d then s.modDchan d fun c => { c with poison := insSorted (o.addr / 64 * 64) c.poison } else s
          else s.poisoned d q.req q.use
        else s.useDone q.use
      let s := match q.req.user with
        | .pair p b => if err = 2 ∨ q.req.write then s else s.copyGood p b q.req
        | _ => s
      (if s.chLive d then s.dramService d else s).serveHits

/-- DRAM_FENCE: a source's fence completes when its earlier requests on the channel have taken effect (R334). -/
def execDramFence (d source : Nat) (s : State) : Outcome State Fault Refusal :=
  actWhen s (s.powered && d < 4 && s.chLive d) fun s =>
    let c := s.dchan d
    let ids := ((c.waiting ++ c.reads ++ c.issued).filter fun q => q.req.source == source).map (·.id)
    (s.modDchan d fun c => { c with fences := c.fences ++ [(source, ids)] }).dramFences d

/-- DRAM_REFRESH: a same-bank refresh falls due; at most 4 are postponed while the write queue drains (R336). -/
def execDramRefresh (d bank : Nat) (s : State) : Outcome State Fault Refusal :=
  actWhen s (s.powered && d < 4 && s.chLive d && !s.flag DMC_CH_STAT_SREF d) fun s =>
    let c := s.dchan d
    let n := c.postponed.lookD bank 0
    if s.drainDue d (min (s.get DMC_SCHED_CFG_WR_LOW) (s.get DMC_SCHED_CFG_WR_HIGH)) && n < 4 then
      s.modDchan d fun c => { c with postponed := c.postponed.putD bank (n + 1) 0 }
    else s.modDchan d fun c => { c with postponed := c.postponed.del bank, rowOpen := c.rowOpen.del bank }

/-- MR4_POLL: the refresh rate code read from MR4 (R336). -/
def execMr4Poll (d value : Nat) (s : State) : Outcome State Fault Refusal :=
  actWhen s (s.powered && d < 4 && s.chLive d && !s.flag DMC_CH_STAT_SREF d) fun s => s.set DMC_CH_STAT_MR4 value d

/-- DRAM_ALERT: commands stop, all banks are precharged and the commands of the replay window are reissued in their first
order (R339); alerts during their own replay three times in a row, or more than 16 replays in 1 ms, retrain the channel
(R340), which drains the write queues first. -/
def execDramAlert (d : Nat) (s : State) : Outcome State Fault Refusal :=
  actWhen s (s.powered && d < 4 && s.chLive d && !(s.dchan d).retraining) fun s =>
    let s := ((s.bumpDmc DMC_REPLAY_CNT d).set DMC_EVT_REPLAY 1 d).raise (81 + 4 * d)
    let c := s.dchan d
    let own := match c.alerts.getLast? with | some t => decide (s.now ≤ t + 500) | none => false
    let run := if own then c.alertRun + 1 else 0
    let times := (c.alerts.filter fun t => s.now < t + 1000000) ++ [s.now]
    let keep := s.now - s.replayNs d
    let again := (c.recent.filter fun e : Nat × DReq => decide (keep ≤ e.1)).map fun e => (s.now, e.2)
    let s := s.modDchan d fun c => { c with alerts := times, alertRun := run, recent := again, rowOpen := [] }
    if 3 ≤ run ∨ 16 < times.length then
      let s := s.drainAll d
      ((s.modDchan d fun c => { c with retraining := true }).set DMC_EVT_RETRAIN 1 d).raise (81 + 4 * d)
    else s

/-- DRAM_RETRAIN_END: traffic resumes, or the channel is lost if alerts continue (R340). -/
def execDramRetrainEnd (d : Nat) (alerts : Bool) (s : State) : Outcome State Fault Refusal :=
  actWhen s (d < 4 && (s.dchan d).retraining && s.chLive d) fun s =>
    let s := s.modDchan d fun c => { c with retraining := false, alerts := [], alertRun := 0 }
    if alerts then s.loseDram d else s.dramService d

/-- DRAM_STROBE_TIMEOUT: a read with no data strobe within 1 µs loses the channel (R341). -/
def execDramStrobeTimeout (d : Nat) (s : State) : Outcome State Fault Refusal :=
  actWhen s (s.powered && d < 4 && s.chLive d && !(s.dchan d).issued.isEmpty) fun s => s.loseDram d

/-- DRAM_SOFT_REPAIR: a candidate's bank group is blocked, its row copied out and the repair issued; a candidate without
repair resource is fenced (R344, R346). -/
def execDramSoftRepair (d k : Nat) (resource : Bool) (s : State) : Outcome State Fault Refusal :=
  actWhen s (s.inModes [.run, .service] && d < 4 && s.chLive d && (s.dchan d).repairing.isNone
      && (s.dchan d).cands.has k) fun s =>
    if resource then (s.modDchan d fun c => { c with repairing := some k }).set DMC_CH_STAT_REPAIR 1 d
    else
      let row := match (s.dchan d).cands.look k with | some e => e.1 | none => 0
      let n := s.get DMC_CH_STAT_FENCED d
      let s := s.dropCand d k
      if n < 64 then
        (((s.setRow true d n row).set DMC_CH_STAT_FENCED (n + 1) d).set DMC_EVT_FENCE 1 d).raise (82 + 4 * d)
      else s.modDchan d fun c => { c with fenceOver := true }

/-- A burst the scrub has read (R348). -/
def State.scrubbed (s : State) (d addr err : Nat) : State :=
  if err = 1 then s.dramCorrected d addr else if err = 2 then s.dramUncorrectable d addr 5 0x31 else s

/-- The row copied out for a repair holds uncorrectable bursts, which are written back poisoned (R344, R329). -/
def State.repairPoison (s : State) (d row : Nat) (bad : List Nat) : State :=
  s.each (bad.filter fun a => dramRow (s.pop d) a == row) fun a s =>
    (s.scrubbed d a 2).modDchan d fun c => { c with poison := insSorted (a / 64 * 64) c.poison }

/-- DRAM_REPAIR_END: the row is written back, what was uncorrectable in it poisoned, and the bank group unblocked (R344). -/
def execDramRepairEnd (d : Nat) (bad : List Nat) (s : State) : Outcome State Fault Refusal :=
  actWhen s (s.powered && d < 4 && s.chLive d && (s.dchan d).repairing.isSome) fun s =>
    let k := (s.dchan d).repairing.getD 0
    let row := match (s.dchan d).cands.look k with | some e => e.1 | none => 0
    let s := s.repairPoison d row bad
    if !s.chLive d then s else
    let s := (s.modDchan d fun c => { c with repairing := none, soft := insSorted row c.soft }).dropCand d k
    let s := (s.set DMC_CH_STAT_REPAIR 0 d).bumpDmc DMC_PPR_CNT d
    ((s.set DMC_EVT_REPAIRED 1 d).raise (82 + 4 * d)).dramService d

/-- DRAM_PATROL_SCRUB: the patrol reads the next burst of a channel, unless it is disabled, a range scrub runs or the scrub class is at its
cap (R347, R332). -/
def execDramPatrolScrub (d : Nat) (o : DramOutcome) (s : State) : Outcome State Fault Refusal :=
  actWhen s (s.inModes [.boot, .hold, .run, .service] && d < 4 && s.chLive d && (s.dchan d).scrub.isNone
      && s.get DMC_SCRUB_CFG_PATROL_H != 0 && decide ((s.dchan d).scrubUntil ≤ s.now)
      && decide (o.addr / 64 = (s.dchan d).patrol)) fun s =>
    let bursts := [16, 16, 32, 32].getD (s.pop d) 16 * 2 ^ 24
    let s := s.modDchan d fun c => { c.scrubPaid (s.gate d) 64 with patrol := (c.patrol + 1) % bursts }
    s.scrubbed d o.addr (s.eccError o.symbols)

/-- DMC_SCRUB_GO: a write of DMC.SCRUB_CMD with GO starts or queues a range scrub of one channel (R347, Table 12.10). -/
def execDmcScrubGo (value : Nat) (s : State) : Outcome State Fault Refusal :=
  actWhen s (s.powered && bit value 2) fun s =>
    let s := s.when (decide (8 ≤ value % 2 ^ 32)) fun s => s.unbind (.wo (rDMC_SCRUB_CMD.at 0 0))
    s.askScrub (bits value 1 0)
      { start := s.get DMC_SCRUB_START_LO + s.get DMC_SCRUB_START_HI * 2 ^ 32, len := s.get DMC_SCRUB_LEN, since := 0, ticket := none }

/-- DRAM_SCRUB_RANGE_END: every burst of the range has been read, which takes the cap's time or more; summaries, SCRUB_DONE, source 82 + 4d; the next range of
the channel starts (R347, R348). -/
def execDramScrubRangeEnd (d : Nat) (corrected uncorrectable : List Nat) (s : State) : Outcome State Fault Refusal :=
  let due := match (s.dchan d).scrub with
    | some r => decide (r.since + s.scrubNs d (65536 * r.len) ≤ s.now)
    | none => false
  actWhen s (s.inModes [.boot, .hold, .run, .service] && d < 4 && due && s.chLive d) fun s =>
    match (s.dchan d).scrub with
    | none => s
    | some r =>
      let inside (a : Nat) : Bool := decide (r.start ≤ a) && decide (a < r.start + 65536 * r.len)
      let (corrected, uncorrectable) := (corrected.filter inside, uncorrectable.filter inside)
      let s := s.each corrected fun a s => s.scrubbed d a 1
      let s := s.each uncorrectable fun a s => s.scrubbed d a 2
      let first := match uncorrectable with | [] => 0 | a :: _ => a / 64 % 2 ^ 29
      let s := (s.set DMC_SCRUB_SUM (r.len * 1024) 0).set DMC_SCRUB_SUM corrected.length 1
      let s := (s.set DMC_SCRUB_SUM uncorrectable.length 2).set DMC_SCRUB_SUM first 3
      let s := s.set DMC_STATUS_SCRUB_DONE (setBit (s.get DMC_STATUS_SCRUB_DONE) d)
      let s := s.set DMC_STATUS_SCRUB_BUSY (clrBit (s.get DMC_STATUS_SCRUB_BUSY) d)
      let s := s.ticketEnd r.ticket 3 (r.len * 1024) corrected.length uncorrectable.length first
      ((s.raise (82 + 4 * d)).modDchan d fun c => { c with scrub := none }).scrubNext d

/-- SRAM_CORRECTED_WORD: a word is read after what units wrote; one whose valid bit is 0 reads as zero, unchecked (R349).  A single-bit error is
corrected, written back and counted; CE_TH of one row within 24 operating hours propose it (R350). -/
def execSramCorrectedWord (mac word : Nat) (scrub : Bool) (writes : List SramWrite) (s : State) : Outcome State Fault Refusal :=
  actWhen s (s.powered && mac < 352 && word < 32768) fun s =>
    let k := sramKey mac word
    let s := s.sramWrites writes
    let s := s.put (.sramWord mac word (s.sramRead k))
    if (s.mm.sram.look k).isNone then s else
    let s := s.sramWrite k 255 (s.sramRead k)
    let s := s.bump blkMPU MPU_CE_CNT
    let s := s.raiseOnce 216
    let s := s.reportCE (word + mac * 2 ^ 15) (if scrub then 0x30 else 0) (if scrub then 5 else 4) 1
    let s := if scrub then
        { s with mm := { s.mm with scrub := s.mm.scrub.map fun r => { r with corrected := r.corrected + 1 } } }
      else s
    let key := 2048 * mac + word / 16
    let l := ((s.mm.sramRows.lookD key []).filter fun t => s.ms.opMs < t + 86400000) ++ [s.ms.opMs]
    let th := s.get MPU_CFG_CE_TH
    if 0 < th ∧ th ≤ l.length then
      let s := { s with mm := { s.mm with sramRows := s.mm.sramRows.del key } }
      ((s.set MPU_PROPOSE_ROW (word / 16)).set MPU_PROPOSE_MACRO mac).raise 221
    else { s with mm := { s.mm with sramRows := s.mm.sramRows.put key l } }

/-- SRAM_UNCORRECTABLE_WORD: a word is read after what units wrote, and if it is valid (R349) reported, and the access handled by Table 12.4: a
precise trap of a core (or its halt while its handler runs), a DMA channel halt, the rule of a table's own chapter, or the fatal reaction. -/
def execSramUncorrectableWord (mac word kind master : Nat) (inHandler : Bool) (table : SramTable) (ctx : Option Nat)
    (writes : List SramWrite) (s : State) : Outcome State Fault Refusal :=
  actWhen s (s.powered && mac < 352 && word < 32768 && 1 ≤ kind && kind ≤ 5 && !(kind == 3 && s.dmaHalted master)) fun s =>
    let s := s.sramWrites writes
    if (s.mm.sram.look (sramKey mac word)).isNone then s.put (.sramWord mac word 0) else
    let addr := word + mac * 2 ^ 15
    let s := (s.sramRecord mac word master kind).raise 217
    if kind = 1 ∨ kind = 2 then
      let s := s.reportUE addr master kind 1
      if inHandler then s.coreHalt (master - 1) (0x20 + kind)
      else
        s.preciseTrap (master - 1) (0x20 + kind) addr
    else if kind = 3 then (s.reportUE addr master kind 1).dmaFailed master ctx
    else
      let s := if kind = 5 then
          { s with mm := { s.mm with scrub := s.mm.scrub.map fun r => { r with bad := r.bad + 1 } } }
        else s
      match table with
      | .accumulator k => (s.reportUE addr master kind 1).accBad k
      | .shadow i => (s.reportUE addr master kind 1).shadowLost i
      | .link i => (s.reportUE addr master kind 1).badLinkWord i
      | .data => s.reportUE addr master kind 1
      | .other => s.fatal addr master kind 1

/-- MPU_DMA_REARM: the named DMA channel resumes (R352). -/
def execMpuDmaRearm (value : Nat) (s : State) : Outcome State Fault Refusal :=
  actWhen s s.powered fun s =>
    let s := s.when (decide (256 ≤ value % 2 ^ 32)) fun s => s.unbind (.wo (rMPU_DMA_REARM.at 0 0))
    let m := value % 256
    (s.set MPU_DMA_HALTED (clrBit (s.get MPU_DMA_HALTED (m / 32)) (m % 32)) (m / 32)).serveDram

/-- The macros a scrub command names (Table 12.16). -/
def scrubMacros (value : Nat) : Nat × Nat :=
  let a := bits value 9 0
  let b := bits value 19 10
  (a, if b < a ∨ 351 < b then 351 else b)

/-- MPU_SCRUB_GO: a write of MPU.SCRUB_CMD with GO starts a scrub, queues it, or is rejected (R354). -/
def execMpuScrubGo (value : Nat) (s : State) : Outcome State Fault Refusal :=
  actWhen s (s.powered && bit value 20) fun s =>
    let s := s.when (decide (2 ^ 21 ≤ value % 2 ^ 32)) fun s => s.unbind (.wo (rMPU_SCRUB_CMD.at 0 0))
    let r := scrubMacros value
    s.askSramScrub { first := r.1, last := r.2, corrected := 0, bad := 0, since := 0, ticket := none }

/-- SRAM_SCRUB_END: a word every 4 DPC cycles or slower (R354); after what units wrote, summaries with the words skipped for their valid bit (R349), SCRUB_DONE and source 220; the queued scrub starts (R354). -/
def execSramScrubEnd (writes : List SramWrite) (s : State) : Outcome State Fault Refusal :=
  let due := match s.mm.scrub with
    | some r => decide (r.since + (r.last + 1 - r.first) * 104857 ≤ s.now)
    | none => false
  actWhen s (s.inModes [.boot, .hold, .run, .ret, .service] && due) fun s =>
    match s.mm.scrub with
    | none => s
    | some r =>
      let s := s.sramWrites writes
      let words := s.sramValid r.first r.last
      let skipped := (r.last + 1 - r.first) * 32768 - words
      let s := (s.set MPU_SCRUB_SUM words 0).set MPU_SCRUB_SUM skipped 1
      let s := (s.set MPU_SCRUB_SUM r.corrected 2).set MPU_SCRUB_SUM r.bad 3
      let s := ((s.set MPU_STATUS_SCRUB_DONE 1).set MPU_STATUS_SCRUB_BUSY 0).raise 220
      let s := s.ticketEnd r.ticket 3 words skipped r.corrected r.bad
      let q := s.mm.scrubQ
      let s := { s with mm := { s.mm with scrub := none, scrubQ := none } }.set MPU_STATUS_SCRUB_Q 0
      match q with
      | some r => s.sramScrubStart r
      | none => s

/-- DMC_CLR_CNT: the DMC counters go to 0 and its once-per-clearing sources are re-armed (R355). -/
def execDmcClrCnt (s : State) : Outcome State Fault Refusal :=
  actWhen s s.powered fun s =>
    let s := s.each dmcCounters fun f s => s.each [0, 1, 2, 3] fun d s => s.set f 0 d
    s.each [0, 1, 2, 3] fun d s => s.rearm [83 + 4 * d] (ownDMC d)

/-- MPU_CLR_CNT: the MPU counters go to 0 and its once-per-clearing sources are re-armed (R355). -/
def execMpuClrCnt (s : State) : Outcome State Fault Refusal :=
  actWhen s s.powered fun s => s.clearCounters blkMPU

end Sys2Proof.Machine
end

