-- ==== Sys2Proof/Machine/Modes.lean ====
section
/-!
DEFINITION. The commands of the power state controller and of WATCH (chapter 11).
Assumption log: DEDUCED (46, 48, 97).
-/

namespace Sys2Proof.Machine

open Host (Outcome)

/-- MODE_TARGET_RUN (R305). -/
def execModeTargetRun (s : State) : Outcome State Fault Refusal := actWhen s s.powered fun s => s.targetRun

/-- MODE_TARGET_SERVICE (R305, R308). -/
def execModeTargetService (s : State) : Outcome State Fault Refusal := actWhen s s.powered fun s => s.targetService

/-- HOLD_REQUEST (R310). -/
def execHoldRequest (s : State) : Outcome State Fault Refusal := actWhen s s.powered fun s => s.holdOn

/-- HOLD_RELEASE (R309). -/
def execHoldRelease (s : State) : Outcome State Fault Refusal := actWhen s s.powered fun s => s.holdOff

/-- THERM_ACK (R410). -/
def execThermAck (s : State) : Outcome State Fault Refusal := actWhen s s.powered fun s => s.thermAck.2

/-- REST_IDLE_EXPIRY: the conditions of R311 have held for `idleMs` ms, IDLE_MS or more; `l12` holds the ports in L1.2, every trained one
among them; a checkpoint is committed first if conventional data asks for one.  The channels of `noSref` fail to enter self-refresh and are
lost (R342). -/
def execRestIdleExpiry (l12 idleMs noSref : Nat) (s : State) : Outcome State Fault Refusal :=
  let up := s.portList.filter fun p => s.flag QEN_LINK_UP p
  actWhen s (s.restOk && up.all (bit l12) && decide (max 1 (s.get PSC_REST_CFG_IDLE_MS) ≤ idleMs)) fun s =>
    if 0 < s.xl.sinceCommit then s.startCheckpoint none
    else
      let s := { s with md := { s.md with l12 := up } }.enterRest
      s.each (s.liveChans.filter (bit noSref)) fun d s => (s.set DMC_CH_STAT_SREF 0 d).loseDram d

/-- REST_ENTRY_COMPLETE: CORE is below 10% of nominal; a wake source that came during entry wakes the device at once (R312). -/
def execRestEntryComplete (s : State) : Outcome State Fault Refusal :=
  actWhen s (s.md.restStep.isSome && !s.md.stopped) fun s =>
    let wake := s.md.wakeNext
    let s := s.restEntered
    if wake then s.startWake else s

/-- CLKREQ_ASSERT: a port in L1.2 asks for its clock (Table 11.5). -/
def execClkreqAssert (port : Nat) (s : State) : Outcome State Fault Refusal :=
  actWhen s (s.md.l12.contains port && (s.mode == .rest || s.md.restStep.isSome)) fun s =>
    { s with md := { s.md with l12 := s.md.l12.filter (· != port) } }.wakeSource 0

/-- CAUSEWAY_SIGNAL_DETECT: signal on a port that is down wakes the device when its WAKE_EN is set (Table 11.5, R380). -/
def execCausewaySignalDetect (port : Nat) (s : State) : Outcome State Fault Refusal :=
  actWhen s (decide (port < 4) && s.cwState port == cwDown && s.flag CWP_PCFG_WAKE_EN port) fun s => s.wakeSource (2 + port)

/-- SMBUS_ADDRESS_MATCH (Table 11.5). -/
def execSmbusAddressMatch (s : State) : Outcome State Fault Refusal :=
  actWhen s (s.flag MGI_CFG_SMB_EN) fun s => s.wakeSource 6

/-- What waits for the end of a transition goes on once the device has left REST. -/
def State.afterRest (s : State) : State := if s.mode == .run && s.md.wake.isNone then s.afterTransition else s

/-- The fixed delay of a step from REST, in µs (Table 11.6). -/
def wakeDelay (k : Nat) : Nat := [0, 0, 0, 600, 50, 100, 150, 200, 1200].getD k 0

/-- WAKE_STEP_DONE: a step of Table 11.6 ends after `us` µs, its fixed delay or more; without power-good of its rail, after PG_MS more (R315,
R289). -/
def execWakeStepDone (us : Nat) (powerGood : Bool) (s : State) : Outcome State Fault Refusal :=
  actWhen s (s.inModes [.rest, .detour] && (match s.md.wake with
      | some k => decide (wakeDelay k ≤ us) && (powerGood || decide (s.pgWait ≤ 1000 * (us - wakeDelay k)))
      | none => false)) fun s => (s.wakeStep us powerGood).afterRest

/-- PAD_RELEASE: a write of `PAD.REL` (R316). -/
def execPadRelease (groups : Nat) (s : State) : Outcome State Fault Refusal :=
  actWhen s (s.powered && s.get PSC_PAD_HELD != 0) fun s =>
    let rest := s.mode == .rest
    let s := (s.each ((List.range 3).filter fun g => bit groups g) fun g s => s.askPad g).leaveRest
    if rest then s.afterRest else s

/-- PAD_RELEASE_TIMEOUT: pad groups are still held REL_MS after step 8 (R316). -/
def execPadReleaseTimeout (s : State) : Outcome State Fault Refusal :=
  let ms := if s.get PSC_REST_CFG_REL_MS = 0 then 10 else s.get PSC_REST_CFG_REL_MS
  actWhen s (s.inModes [.rest] && s.md.wake.isNone && (s.rail 1).enabled && s.get PSC_PAD_HELD != 0
    && decide (s.md.wakeEnd + 1000000 * ms ≤ s.now)) fun s => s.pscEvt PSC_EVT_WAKE_LATE

/-- WATCH_ENTRY: 100 ms after OFF (Table 11.1); the gauge hibernates (R320). -/
def execWatchEntry (s : State) : Outcome State Fault Refusal :=
  actWhen s (s.pw.ao && s.mode == .off && s.pw.seq = .idle && s.flag PSC_CTRL_WATCH_EN && s.hu.pack.isSome && !s.pw.onLatched
      && (match s.pw.offSince with | some t => decide (t + 100000000 ≤ s.now) | none => true)) fun s =>
    let s := (s.setMode .watch).set HUC_STATUS_GSTATE gsHibernate
    { s with hu := { s.hu with hibSince := s.now, hibWake := false } }

/-- Take a WATCH round into the record (R319): the flags are 1 for a voltage below VLOW, 2 for a temperature above THI. -/
def State.watchNote (s : State) (packMv : Nat) (temp : Int) : State :=
  let w := s.md.watch.getD { tMin := temp, tMax := temp, hot := 0, lastV := 0, lastT := 0, flags := 0 }
  let low := decide (packMv < s.get PSC_WATCH_CFG_VLOW * 10)
  let hot := decide ((s.get PSC_WATCH_CFG_THI : Int) < temp)
  let w : WatchRec :=
    { tMin := min w.tMin temp, tMax := max w.tMax temp, hot := satW 32 (w.hot + bNat (decide (45 < temp))), lastV := packMv, lastT := s.now,
      flags := w.flags ||| (bNat low + 2 * bNat hot) }
  { s with md := { s.md with watch := some w }, hu := { s.hu with temp := temp } }

/-- The round timer has expired (R318): PERIOD after the last round, or 60 s while the pack voltage is below VLOW. -/
def State.roundDue (s : State) : Bool :=
  let period := 100000000 * max 1 (min 600 (s.get PSC_WATCH_CFG_PERIOD))
  match s.md.watch with
  | none => decide (s.hu.hibSince + period ≤ s.now)
  | some w => decide (w.lastT + (if w.lastV < 10 * s.get PSC_WATCH_CFG_VLOW then 60000000000 else period) ≤ s.now)

/-- WATCH_ROUND (R318, R319): with the pack absent WATCH is left for OFF; with the input valid its step 4 goes on. -/
def execWatchRound (inputMv packMv : Nat) (temp : Int) (present : Bool) (s : State) : Outcome State Fault Refusal :=
  actWhen s (s.pw.ao && s.mode == .watch && s.roundDue) fun s =>
    let s := s.bumpPsc PSC_WATCH_ROUNDS
    let s := { s with md := { s.md with roundValid := decide (s.validDv * 100 ≤ inputMv) } }
    if present then s.watchNote packMv temp
    else
      let s := { s with hu := { s.hu with pack := none, hibWake := true }, md := { s.md with hkc := false } }
      (s.setMode .off).set HUC_STATUS_GSTATE gsAbsent

/-- WATCH_INPUT_SAMPLE: in step 4 of a round the input is sampled ten times, 1 ms apart; all valid latch an on request, else the round ends
(R318, R290). -/
def execWatchInputSample (mv : List Nat) (s : State) : Outcome State Fault Refusal :=
  actWhen s (s.pw.ao && s.mode == .watch && s.md.roundValid && decide (mv.length = 10)) fun s =>
    let s := { s with md := { s.md with roundValid := false } }
    if !(mv.all fun v => decide (s.validDv * 100 ≤ v)) then s else
    let s := { s with hu := { s.hu with lost := false, validSince := s.hu.validSince.or (some s.now) } }.set HUC_STATUS_INPUT_VALID 1
    let s := s.inputInside true
    s.latchOn false

/-- WATCH_GAUGE_WAKE: pack current above 10 mA, or pack SMBus activity, starts HKC for the hold-up controller (R320); the gauge leaves
HIBERNATE (Table 09.7), and a wake by current ends its rest (R270). -/
def execWatchGaugeWake (byCurrent : Bool) (s : State) : Outcome State Fault Refusal :=
  actWhen s (s.pw.ao && s.mode == .watch) fun s =>
    { s with md := { s.md with hkc := true }, hu := { s.hu with hibWake := s.hu.hibWake || byCurrent } }.set HUC_STATUS_GSTATE s.gaugeBase

/-- WATCH_GAUGE_SLEEP: HKC stops again, and the gauge hibernates (R320). -/
def execWatchGaugeSleep (s : State) : Outcome State Fault Refusal :=
  actWhen s (s.mode == .watch && s.md.hkc) fun s => { s with md := { s.md with hkc := false } }.set HUC_STATUS_GSTATE gsHibernate

/-- PSC_CLR_CNT (R324). -/
def execPscClrCnt (s : State) : Outcome State Fault Refusal :=
  actWhen s s.powered fun s => (s.clearCounters blkPSC).rearm blkPSC.rearm

end Sys2Proof.Machine
end

