-- ==== Sys2Proof/Machine/OpsBar.lean ====
section
/-!
DEFINITION. What a port's host sees of the device through configuration space and the first memory BAR (R29, R31, R33, R35, R36, R48): the
capabilities, the BAR sizes, the controller registers, the doorbells by their offsets, the MSI-X table and pending bits.
Assumption log: PRESUMED (16); DESIGN CHOICE (95).
-/

namespace Sys2Proof.Machine

open Host (Outcome)

/-- The effect a command of its own would have, where a write of a register stands for that command. -/
def State.via (s : State) (f : State → Outcome State Fault Refusal) : State :=
  match f s with
  | .next t => t
  | .fault _ => s
  | .refused _ => s

/-- Optional capabilities of PCIe that Table 02.1 speaks of. -/
inductive Capability where
  | sriov | pasid | pasidExecute | pasidPrivileged | aer | ecrc | l0s | l0p | aspmL1 | l1ss | ltr | msix | msi | ats | pri | ptm
  deriving DecidableEq, Repr

/-- The capabilities whose structures, or whose bits, configuration space has (R29, Table 02.1). -/
def hasCapability : Capability → Bool
  | .pasid | .aer | .aspmL1 | .l1ss | .ltr | .msix => true
  | .sriov | .pasidExecute | .pasidPrivileged | .ecrc | .l0s | .l0p | .msi | .ats | .pri | .ptm => false

/-- Bits of a PASID, and MSI-X vectors of a port (Table 02.1). -/
def pasidBits : Nat := 20
def msixVectors : Nat := 2048

/-- The L1 PM Substates capability (Table 02.1, R315; PCIe): ASPM L1.1 and L1.2, T_POWER_ON of 24 times 100 µs. -/
def l1ssCapability : Nat := 2 ^ 2 + 2 ^ 3 + 2 ^ 4 + 2 * 2 ^ 16 + 24 * 2 ^ 19

/-- Size in bytes of a port's first or second memory BAR (R33, R35): the second is the control window, and only the privileged port has it. -/
def State.barSize (s : State) (p n : Nat) : Nat :=
  if n = 0 then 0x20000 else if n = 1 ∧ p = s.privPort then 0x4000000 else 0

/-- The first BAR is 64-bit and not prefetchable (R35): its type bits (PCIe). -/
def barType : Nat := 4

/-- A register of configuration space as it reads (Table 02.1, PCIe). -/
def State.cfgRead (s : State) (p : Nat) (r : CfgReg) : Nat :=
  let c := (s.port p).cfg
  match r with
  | .pasid => bNat c.pasidEnable
  | .msix => msixVectors - 1 + 2 ^ 14 * bNat c.msixFMask + 2 ^ 15 * bNat c.msixEnable
  | .device => c.mps * 2 ^ 5 + c.mrrs * 2 ^ 12
  | .device2 => 2 ^ 10 * bNat c.ltr + 2 ^ 12 * bNat c.tag10
  | .link => 2 * bNat c.aspmL1
  | .l1ss => 2 ^ 2 * bNat c.l12 + 2 ^ 3 * bNat c.l11
  | .aer => c.aerStatus

/-- Change a port's configuration space. -/
def State.modCfg (s : State) (p : Nat) (f : CfgSpace → CfgSpace) : State := s.modPort p fun pt => { pt with cfg := f pt.cfg }

/-- A write of a register of configuration space (Table 02.1, PCIe): a payload size beyond 512 bytes or a request size beyond 4,096 acts
as the largest; AER status is cleared by writing 1. -/
def State.cfgWrite (s : State) (p : Nat) (r : CfgReg) (v : Nat) : State :=
  match r with
  | .pasid => if bit v 0 then s.modCfg p fun c => { c with pasidEnable := true } else s.via (execPasidEnableClear p)
  | .msix => (s.modCfg p fun c => { c with msixFMask := bit v 14, msixEnable := bit v 15 }).sendPending p
  | .device => s.modCfg p fun c => { c with mps := min 2 (bits v 7 5), mrrs := min 5 (bits v 14 12) }
  | .device2 => s.modCfg p fun c => { c with ltr := bit v 10, tag10 := bit v 12 }
  | .link => s.modCfg p fun c => { c with aspmL1 := bit v 1 }
  | .l1ss => s.modCfg p fun c => { c with l12 := bit v 2, l11 := bit v 3 }
  | .aer => s.modCfg p fun c =>
      let st := c.aerStatus - (c.aerStatus &&& v)
      { c with aerStatus := st, aerHeader := if bit st 1 || bit st 2 then c.aerHeader else none }

/-- CAP (Table 02.3): MQES 0x0FFF, CQR 1, AMS 0b01, TO 0x14; DSTRD 0, NSSRS 0, CSS bits 0 and 6, MPSMIN 0, MPSMAX 4. -/
def capWord : Nat := 0x0FFF + 2 ^ 16 + 2 ^ 17 + 0x14 * 2 ^ 24 + 2 ^ 37 + 2 ^ 43 + 4 * 2 ^ 52

/-- VS (Table 02.3): NVMe 2.0. -/
def vsWord : Nat := 0x00020000

/-- CSTS of a port (R36, R37): RDY, CFS and SHST. -/
def State.cstsWord (s : State) (p : Nat) : Nat := bNat (s.rdy p) + 2 * bNat (s.port p).cfs + 4 * (s.port p).shst

/-- An NVMe controller register by its standard offset (Table 02.3); those not listed are 0. -/
def State.controllerWord (s : State) (p off : Nat) : Nat :=
  let pt := s.port p
  if off = 0x00 then capWord % 2 ^ 32 else if off = 0x04 then capWord / 2 ^ 32
  else if off = 0x08 then vsWord
  else if off = 0x14 then pt.cc
  else if off = 0x1C then s.cstsWord p
  else if off = 0x24 then pt.aqa
  else if off = 0x28 then pt.asqBase % 2 ^ 32 else if off = 0x2C then pt.asqBase / 2 ^ 32
  else if off = 0x30 then pt.acqBase % 2 ^ 32 else if off = 0x34 then pt.acqBase / 2 ^ 32
  else 0

/-- A dword of an MSI-X table entry (R48, PCIe): message address, upper address, data, and the mask bit. -/
def Port.msixWord (pt : Port) (v k : Nat) : Nat :=
  if k = 0 then pt.msixAddr.lookD v 0 % 2 ^ 32 else if k = 1 then pt.msixAddr.lookD v 0 / 2 ^ 32 else if k = 2 then pt.msixData.lookD v 0
  else bNat (!pt.msixOpen.contains v)

/-- 32 bits of the MSI-X pending bit array. -/
def Port.pbaWord (pt : Port) (w : Nat) : Nat := (List.range 32).foldl (fun n b => putBit n b (pt.msixPba.contains (32 * w + b))) 0

/-- An aligned word of the first memory BAR (Table 02.2): reads have no side effect, and an unused offset reads 0.  What a doorbell reads as
the manual leaves open. -/
def State.bar0Word (s : State) (p off : Nat) : Nat :=
  if off < 0x1000 then s.controllerWord p off
  else if off < 0x9008 then Config.doorbellRead off % 2 ^ 32
  else if off < 0x10000 then 0
  else if off < 0x18000 then (s.port p).msixWord ((off - 0x10000) / 16) (off % 16 / 4)
  else if off < 0x18100 then (s.port p).pbaWord ((off - 0x18000) / 4)
  else 0

/-- A read of the first memory BAR (R8, R35): its bytes where it is aligned to its size, else 0. -/
def State.bar0Read (s : State) (p size off : Nat) : Nat :=
  if off % size = 0 then s.bar0Word p (off / 4 * 4) / 2 ^ (8 * (off % 4)) % 2 ^ (8 * size) else 0

/-- A write of CC (R34, R36, R37): EN set or cleared, or a shutdown asked for. -/
def State.ccWrite (s : State) (p v : Nat) : State :=
  let pt := s.port p
  let en := bit v 0
  let t :=
    if en && !pt.ccEn then
      s.via (execCcEnSet p (bits v 19 16) (bits v 23 20) (bits v 13 11) (bits pt.aqa 11 0) (bits pt.aqa 27 16))
    else if !en && pt.ccEn then s.via (execCcEnClear p)
    else if en && bits v 15 14 = 1 && bits pt.cc 15 14 = 0 then s.via (execNormalShutdown p)
    else if en && bits v 15 14 = 2 && bits pt.cc 15 14 = 0 then s.via (execAbruptShutdown p)
    else s
  if (t.port p).ccEn = en then t.modPort p fun pt => { pt with cc := v } else t

/-- Half of a 64-bit register, written. -/
def putHalf (old v : Nat) (high : Bool) : Nat := if high then old % 2 ^ 32 + v * 2 ^ 32 else old / 2 ^ 32 * 2 ^ 32 + v

/-- A write of an MSI-X table entry (R48, PCIe): a vector unmasked with its pending bit set is sent. -/
def State.msixWrite (s : State) (p v k w : Nat) : State :=
  if k = 0 ∨ k = 1 then s.modPort p fun pt => { pt with msixAddr := pt.msixAddr.putD v (putHalf (pt.msixAddr.lookD v 0) w (k == 1)) 0 }
  else if k = 2 then s.modPort p fun pt => { pt with msixData := pt.msixData.putD v w 0 }
  else if bit w 0 then s.modPort p fun pt => { pt with msixOpen := pt.msixOpen.filter (· != v) }
  else (s.modPort p fun pt => { pt with msixOpen := insSorted v pt.msixOpen }).sendPending p

/-- An aligned 32-bit write of the first memory BAR (Table 02.2): the controller registers a host writes, the doorbells by their offsets, the
MSI-X table; writes elsewhere are discarded.  A doorbell write with a PASID is a row of its own. -/
def State.bar0Write (s : State) (p off v : Nat) : State :=
  if off = 0x14 then s.ccWrite p v
  else if off = 0x24 then s.modPort p fun pt => { pt with aqa := v }
  else if off = 0x28 ∨ off = 0x2C then s.modPort p fun pt => { pt with asqBase := putHalf pt.asqBase v (off == 0x2C) }
  else if off = 0x30 ∨ off = 0x34 then s.modPort p fun pt => { pt with acqBase := putHalf pt.acqBase v (off == 0x34) }
  else if 0x1000 ≤ off ∧ off < 0x9008 then
    let q := (off - 0x1000) / 8
    s.via (if off % 8 = 0 then execSqTailDoorbell p q (v % 65536) none else execCqHeadDoorbell p q (v % 65536) none)
  else if 0x10000 ≤ off ∧ off < 0x18000 then s.msixWrite p ((off - 0x10000) / 16) (off % 16 / 4) v
  else s

end Sys2Proof.Machine
end

