-- ==== Sys2Proof/Machine/Power.lean ====
section
/-!
DEFINITION. The commands of the power sequencer, the supervisor and the droop guard (chapter 10).
Assumption log: DEDUCED (44, 45, 98).
-/

namespace Sys2Proof.Machine

open Host (Outcome)

/-- A declaration on an enabled rail (Table 10.2): armed, or overvoltage during the power-good wait. -/
def State.enabledRailOut (s : State) (rail dir : Nat) : State :=
  let r := s.rail rail
  if r.armed || (r.waiting && decide (dir = 2)) then (s.bump blkPSQ PSQ_OOW_CNT rail 1 ownPSQ).railFault rail dir else s

/-- RAIL_OUT_OF_WINDOW (R285, R287, Table 10.2): direction 1 under, 2 over, 3 PG low; the level, and for how long it has stood. -/
def execRailOutOfWindow (rail dir mv ns : Nat) (s : State) : Outcome State Fault Refusal :=
  actWhen s (s.pw.ao && s.declares rail dir mv ns) fun s =>
    if rail = 0 then s.aoLost
    else if rail = 10 then
      if dir = 1 then (if s.hu.lost then s else s.inputFails)
      else if dir = 2 then (s.bump blkPSQ PSQ_OOW_CNT 10 1 ownPSQ).railFault 10 2
      else s
    else if rail = 11 then
      if s.flag PSQ_STATUS_HUB_ARMED && decide (dir < 3) then (s.bump blkPSQ PSQ_OOW_CNT 11 1 ownPSQ).railFault 11 dir else s
    else if rail < 10 then s.enabledRailOut rail dir
    else s

/-- HOLD_UP_BUS_ARMED: 200 µs after the converter is enabled its output is supervised (R286). -/
def execHoldUpBusArmed (s : State) : Outcome State Fault Refusal :=
  actWhen s (s.pw.ao && s.pw.hubOn && !s.flag PSQ_STATUS_HUB_ARMED) fun s => s.set PSQ_STATUS_HUB_ARMED 1

/-- AO_POWER_ON_RESET (R290): the always-on counter starts from 0. -/
def execAoPowerOnReset (s : State) : Outcome State Fault Refusal := actRemovingTo 0 s fun s => s.aoReset

/-- POWER_UP_START (R290, R463). -/
def execPowerUpStart (split recover test : Bool) (s : State) : Outcome State Fault Refusal :=
  actWhen s s.mayStart fun s => s.startUp split recover test

/-- RAIL_POWER_GOOD: a rail being enabled reaches power-good, and its settle time starts (R291). -/
def execRailPowerGood (rail : Nat) (s : State) : Outcome State Fault Refusal :=
  actWhen s (s.pw.ao && (s.rail rail).waiting) fun s =>
    let s := s.setRail rail { enabled := true, waiting := false, armed := false, inWindow := true, since := s.now }
    match s.pw.seq with
    | .up k false => if stepRail k = rail then { s with pw := { s.pw with seq := .up k true } } else s
    | _ => s

/-- A step of power-up has settled (R291, R294): the next follows; after step 9 comes BOOT, or, with TEST_MODE high, nothing (R463). -/
def State.stepSettled (s : State) (k : Nat) (env : BootEnv) : State :=
  let s := s.set PSQ_STATUS_STEP k
  match s.pw.offPend with
  | some cause => s.beginDown cause
  | none =>
    if k < 9 then ({ s with pw := { s.pw with seq := .up (k + 1) false } }).enableRail (stepRail (k + 1))
    else if s.pw.testMode then { s with pw := { s.pw with seq := .up 10 true } }.set PSQ_STATUS_STEP 10
    else s.bootEnter.bootSteps env

/-- RAIL_SETTLE_DONE: a settled rail is armed (R286, R291); what BOOT will find is `env`. -/
def execRailSettleDone (rail : Nat) (env : BootEnv) (s : State) : Outcome State Fault Refusal :=
  actWhen s (s.pw.ao && (s.rail rail).enabled && !(s.rail rail).waiting && !(s.rail rail).armed
      && decide ((s.rail rail).since + s.settleWait ≤ s.now)) fun s =>
    let s := s.armRail rail
    match s.pw.seq with
    | .up k true => if stepRail k = rail then s.stepSettled k env else s
    | .idle => if (rail = 3 ∨ rail = 4) ∧ (s.rail 3).armed ∧ (s.rail 4).armed then s.showClocks 8 else s
    | _ => s

/-- BOOT_END: the boot sequence has ended (Table 15.3, R132). -/
def execBootEnd (s : State) : Outcome State Fault Refusal :=
  actWhen s (s.inModes [.boot] && !s.fw.bootRom && s.fw.boot.isSome) fun s => s.bootEnd

/-- POWER_GOOD_TIMEOUT: a sequencing fault in power-up (R292); PHYA or PHYB stays off; CORE and SRAM on leaving REST are a rail fault
(R289). -/
def execPowerGoodTimeout (rail : Nat) (s : State) : Outcome State Fault Refusal :=
  actWhen s (s.pw.ao && (s.rail rail).waiting && decide ((s.rail rail).since + s.pgWait ≤ s.now)) fun s =>
    match s.pw.seq with
    | .up _ _ => s.seqFault rail
    | .down _ => s
    | .idle =>
      if rail = 3 ∨ rail = 4 then s.phyFails [rail]
      else s.railFault rail 3

/-- OFF_FLUSH_TIMEOUT: the store is not empty 1 s after an off request; a Detour on input power follows (R307). -/
def execOffFlushTimeout (s : State) : Outcome State Fault Refusal :=
  actWhen s (s.inModes [.run, .service] && (match s.md.offSince with | some t => decide (t + 1000000000 ≤ s.now) | none => false))
    fun s => s.goDetour true false false

/-- FLASH_READY_WAIT_END: the flash dies are ready or 12 ms have passed; the first enable is dropped (R293). -/
def execFlashReadyWaitEnd (s : State) : Outcome State Fault Refusal :=
  actWhen s (s.pw.seq = .down 10 && (s.fl.dies.all (fun e => e.2.run.isNone) || decide (s.pw.stepSince + 12000000 ≤ s.now))) fun s => s.nextDown 9

/-- The rail of the power-down step that runs. -/
def State.fallingRail (s : State) (rail : Nat) : Option Nat :=
  match s.pw.seq with | .down k => if 1 ≤ k ∧ k ≤ 9 ∧ stepRail k = rail then some k else none | _ => none

/-- RAIL_DISCHARGED: a rail is below 10% of nominal; the next enable is dropped (R293). -/
def execRailDischarged (rail : Nat) (s : State) : Outcome State Fault Refusal :=
  act s fun s => match s.fallingRail rail with | some k => s.nextDown (k - 1) | none => s

/-- DISCHARGE_TIMEOUT: a rail has not discharged within DISCH_MS: source 157, and power-down goes on (R293). -/
def execDischargeTimeout (rail : Nat) (s : State) : Outcome State Fault Refusal :=
  actWhen s (decide (s.pw.stepSince + s.dischWait ≤ s.now)) fun s =>
    match s.fallingRail rail with | some k => (s.raise 157).nextDown (k - 1) | none => s

/-- PSQ_OFF: an off request through the power state controller (R293, R307). -/
def execPsqOff (s : State) : Outcome State Fault Refusal := actWhen s s.powered fun s => s.offRequest

/-- PSQ_RSTO_PULSE: the outputs named are asserted for their stretch (R300). -/
def execPsqRstoPulse (bits : Nat) (s : State) : Outcome State Fault Refusal :=
  actWhen s (s.inModes [.run, .service]) fun s =>
    s.each ([0, 1].filter fun n => bit bits n) fun n s => (s.assertRsto n).stretchRsto n

/-- RSTO_STRETCH_EXPIRY: the stretch of an output ends, and it is released (R300). -/
def execRstoStretchExpiry (output : Nat) (s : State) : Outcome State Fault Refusal :=
  act s fun s =>
    let ended (t : Option Nat) : Bool := match t with | some u => decide (u ≤ s.now) | none => false
    if output = 0 ∧ ended s.pw.rstoUntil.1 then
      { s with pw := { s.pw with rsto := (false, s.pw.rsto.2), rstoUntil := (none, s.pw.rstoUntil.2) } }
    else if output = 1 ∧ ended s.pw.rstoUntil.2 then
      { s with pw := { s.pw with rsto := (s.pw.rsto.1, false), rstoUntil := (s.pw.rstoUntil.1, none) } }
    else s

/-- DROOP_ENGAGE: a CORE sensor reads below the threshold (R301); with the guard off nothing is bound until the sag ends (R303). -/
def execDroopEngage (sensor mv : Nat) (s : State) : Outcome State Fault Refusal :=
  actWhen s ((s.rail 1).armed && decide (sensor < 24) && s.sags mv) fun s =>
    let s := s.senseCore sensor mv
    if !s.flag DRG_CFG_EN then s.unbind .droop
    else if s.pw.droopSince.isSome then s
    else
      let s := ((s.set DRG_STATUS_ACTIVE 1).set DRG_STATUS_SENSOR sensor).set GLB_MODE_STATUS_DROOP 1
      let s := (s.bump blkDRG DRG_ENGAGE_CNT 0 1 ownDRG).raiseOnce 160
      { s with pw := { s.pw with droopSince := some s.now, droopLong := false } }

/-- DROOP_RELEASE: every sensor has been at or above the threshold for 1 µs (R301). -/
def execDroopRelease (s : State) : Outcome State Fault Refusal :=
  actRemoving s fun s =>
    let s := s.bind .droop
    match s.pw.droopSince with
    | none => s
    | some t =>
      let s := (s.set DRG_STATUS_ACTIVE 0).set GLB_MODE_STATUS_DROOP 0
      let s := s.bump blkDRG DRG_SKIP_US 0 ((s.now - t) / 1000) ownDRG
      { s with pw := { s.pw with droopSince := none, droopLong := false } }

/-- DROOP_LONG: one engagement has lasted longer than LONG_US (R301). -/
def execDroopLong (s : State) : Outcome State Fault Refusal :=
  let us := if s.get DRG_CFG_LONG_US = 0 then 0x64 else s.get DRG_CFG_LONG_US
  let long := match s.pw.droopSince with | some t => decide (t + 1000 * us < s.now) | none => false
  actWhen s (long && !s.pw.droopLong) fun s =>
    let s := (s.bump blkDRG DRG_LONG_CNT 0 1 ownDRG).raise 161
    { s with pw := { s.pw with droopLong := true } }

/-- PSQ_CLR_CNT (R304). -/
def execPsqClrCnt (s : State) : Outcome State Fault Refusal :=
  actWhen s s.powered fun s => s.clearCounters blkPSQ (List.range 12) ownPSQ

/-- DRG_CLR_CNT (R304): MIN_MV starts afresh. -/
def execDrgClrCnt (s : State) : Outcome State Fault Refusal :=
  actWhen s s.powered fun s => (((s.clearCounters blkDRG [0] ownDRG).rearm blkDRG.rearm).set DRG_MIN_MV 0)

end Sys2Proof.Machine
end

