-- ==== Sys2Proof/Machine/Sample.lean ====
section
/-!
DEFINITION. The commands of the sample detection front ends and the LDPC codec cluster (chapter 07).
Assumption log: DEDUCED (35); DESIGN CHOICE (100).
-/

namespace Sys2Proof.Machine

open Host (Outcome)

/-- SAMPLE_READ_COMPLETE: the wordline stands in the die's sample registers; its Sample Out begins when the channel has none in
progress (R185, R193). -/
def execSampleReadComplete (c d : Nat) (s : State) : Outcome State Fault Refusal :=
  actWhen s (dieOk c d && s.flashOn && s.busFree c && (s.readEnds c d .sampleRead).isSome) fun s =>
    match s.readEnds c d .sampleRead with
    | none => s
    | some (o, t) =>
      let s := (s.readIdle c d o t).modDie c d fun di => { di with samples := some o }
      s.nextSampleOut c

/-- BURST_RECEIVED: a sample burst arrives, is framed and detected (R191 to R196, R204). -/
def execBurstReceived (c : Nat) (b : List Nat) (s : State) : Outcome State Fault Refusal :=
  actWhen s (decide (c < 64) && s.flashOn && (match s.sd.readouts.look c with
      | some r => decide (r.burst < 9)
      | none => false)) fun s => s.takeBurst c b

/-- A readout is complete: the class record, the wear record's drift, and its codewords go to the decoders (R207, R211, R223). -/
def State.readoutDone (s : State) (c : Nat) (r : Readout) : State :=
  let s := if r.second then s.debit c r.die r.op (s.now - r.since) else s
  let s := s.learn c r
  let s := { s with sd := { s.sd with readouts := s.sd.readouts.del c } }
  let s := s.modDie c r.die fun di => { di with samples := none }
  let s :=
    if r.op.owner = .upper then
      { s with sd := { s.sd with upper := s.sd.upper.put (planeKey c r.die r.op.block r.op.wl r.op.plane) r.levels } }
    else s
  let drift := (s.classRec c (s.classOf c r.die r.op.block r.op.wl r.op.media)).driftOf
  let s := match s.ownerOf c r.die r.op.block with
    | some (set, key, _) => s.modWear set key fun w => w.drift drift
    | none => s
  let s := s.each r.op.cws fun i s =>
    match s.cw i with
    | some x => s.toDecoder i (.soft (r.llrOfCw x.page x.pos))
    | none => s
  s.feed.nextSampleOut c

/-- SAMPLE_OUT_END: unframed bursts of a single-mark Sample Out are fetched again in dual-mark framing, from the first of them
on: by a second Sample Out while the sample registers are valid, else after a new Sample Read (R186, R193); otherwise the readout is complete. -/
def execSampleOutEnd (c : Nat) (s : State) : Outcome State Fault Refusal :=
  actWhen s (decide (c < 64) && s.flashOn && (match s.sd.readouts.look c with
      | some r => decide (9 ≤ r.burst)
      | none => false)) fun s =>
    match s.sd.readouts.look c with
    | none => s
    | some r =>
      let (r, s) := s.detectTodo c r
      match r.unframed with
      | b :: _ =>
        if ((s.die c r.die).samples.map (·.id)) = some r.op.id then
          let r' := { r with dual := true, second := true, since := s.now, burst := b, start := 0 }
          let s := s.modDie c r.die fun di => { di with dual := true }
          { s with sd := { s.sd with readouts := s.sd.readouts.put c r' } }.showDual c
        else (s.resample c r).nextSampleOut c
      | [] => s.readoutDone c r

/-- A codeword is at a decoder instance. -/
def State.decoding (s : State) (id : Nat) : Bool :=
  s.flashOn && s.mode != .detour && (match s.cw id with | some c => c.stage == .decoding && c.inst.isSome | none => false)

/-- CODEWORD_DECODED: a decoder ends with a word within its iteration limit (R214).  The check unit recomputes the syndrome: a word it
confirms is descrambled, with the bits corrected in it; else the instance is fenced and the codeword decoded again on another (R213, R215,
R216).  `check` is false where the check unit's own logic finds an error. -/
def execCodewordDecoded (id iters word : Nat) (check : Bool) (s : State) : Outcome State Fault Refusal :=
  actWhen s (s.decoding id && (match s.cw id with | some c => decide (iters ≤ s.iterLimit c) | none => false)) fun s =>
    match s.cw id with
    | none => s
    | some c =>
      if check && syndromeZero word then
        (s.decoded id ((c.input.map (·.corrected word)).getD 36864) (userData word c.seed)).feed
      else
        let s := s.modCw' id fun c => { c with inst := none }
        let s := { s with cd := { s.cd with decodeQ := id :: s.cd.decodeQ } }
        ((s.bump blkLDC LDC_CHECK_FAIL 0 1 ownLDC).fenceInst (c.inst.getD 0) 2).feed

/-- CODEWORD_DECODE_FAIL: the iteration limit is reached and the codeword's step fails (R214, R219). -/
def execCodewordDecodeFail (id : Nat) (s : State) : Outcome State Fault Refusal :=
  actWhen s (s.decoding id) fun s => (s.stepFailed id).feed

/-- LADDER_STEP_BUDGET_EXPIRY: a step's budget runs out; a reconstruction at step 4 fails with it (R219, Table 07.6).  A direct read
withdrawn under R82 runs no step. -/
def execLadderStepBudgetExpiry (id : Nat) (s : State) : Outcome State Fault Refusal :=
  actWhen s (s.flashOn && s.mode != .detour && (match s.cw id with
      | some c => !(c.stage == .peersOnly && c.withdrawn) && decide (c.stepAt + s.stepBudget c.step ≤ s.now)
      | none => false)) fun s =>
    match s.cw id with
    | none => s
    | some c =>
      let s := s.bump blkLDC LDC_BUDGET_EXP_CNT 0 1 ownLDC
      if c.stage = .peersOnly then s.reconFailed id
      else
        -- the step's die operation no longer serves the codeword
        let s := s.modDie c.ch c.die fun di => (di.dropCw id).admitHeld
        let s := { s with fl := { s.fl with slots := s.fl.slots.filter fun r => r.cw != some id },
                          cd := { s.cd with decodeQ := s.cd.decodeQ.filter (· != id) } }
        (s.stepFailed id).feed

/-- SDF_CLASS_CLR: the channel's class records are cleared (R202). -/
def execSdfClassClr (c : Nat) (s : State) : Outcome State Fault Refusal :=
  actWhen s (s.powered && decide (c < 64)) fun s =>
    { s with sd := { s.sd with classes := s.sd.classes.del c } }

/-- Whether two valid ranges of a plane overlap, or one runs past the plane's end (Table 16.7). -/
def State.badColClash (s : State) (c d p : Nat) : Bool :=
  let l := (List.range 256).filterMap fun i =>
    (s.sd.badCols.look (((c * 32 + d) * 4 + p) * 256 + i)).bind fun (f, n, v) => if v then some (i, f, n) else none
  (l.any fun (_, f, n) => decide (147456 < f + n))
    || l.any fun (i, f, n) => l.any fun (j, g, m) => i != j && decide (f < g + m) && decide (g < f + n)

/-- Write one bad-column range (R207). -/
def State.putBadCol (s : State) (c d p i first len : Nat) (valid : Bool) : State :=
  let m := s.sd.badCols.put (((c * 32 + d) * 4 + p) * 256 + i) (first, len, valid)
  let s := { s with sd := { s.sd with badCols := m } }
  s.setUnbound (.badCol c d p) (s.badColClash c d p)

/-- SDF_BADCOL_WRITE: a write of BADCOL_DATA takes effect in SERVICE only (R207). -/
def execSdfBadcolWrite (c value : Nat) (s : State) : Outcome State Fault Refusal :=
  actRemovingWhen s (decide (c < 64) && s.mode == .service) fun s =>
    let s := s.setUnbound (.rsv (rSDF_BADCOL_DATA.at c 0)) (bits value 30 24 != 0)
    s.putBadCol c (s.get SDF_BADCOL_SEL_DIE c) (s.get SDF_BADCOL_SEL_PLANE c) (s.get SDF_BADCOL_SEL_INDEX c)
      (bits value 17 0) (bits value 23 18 + 1) (bit value 31)

/-- LDC_ST_NOW: a self-test is requested; none starts in DETOUR (R217). -/
def execLdcStNow (s : State) : Outcome State Fault Refusal :=
  actWhen s (s.powered && s.mode != .detour) fun s => s.selfTest none

/-- LDC_SELFTEST_PERIOD: the period elapses; ST_PERIOD 0 disables periodic tests (R217). -/
def execLdcSelftestPeriod (s : State) : Outcome State Fault Refusal :=
  actWhen s (s.flashOn && s.mode != .detour && s.get LDC_CFG_ST_PERIOD != 0) fun s => s.selfTest none

/-- LDC_SELFTEST_END: a pass makes the instance active and the longest active one spare; a failure fences it (R217, R218).  A
test that waited starts. -/
def execLdcSelftestEnd (pass : Bool) (s : State) : Outcome State Fault Refusal :=
  actWhen s s.cd.selfTest.isSome fun s =>
    match s.cd.selfTest with
    | none => s
    | some (k, t) =>
      let s := ({ s with cd := { s.cd with selfTest := none } }).set LDC_STATUS_ST_BUSY 0
      let s :=
        if pass then
          let s := s.set LDC_INST_STATE 0 k
          match s.cd.activeOrder with
          | old :: rest =>
            if 64 < rest.length + 2 then
              ({ s with cd := { s.cd with activeOrder := rest ++ [k] } }).set LDC_INST_STATE 1 old
            else { s with cd := { s.cd with activeOrder := (old :: rest) ++ [k] } }
          | [] => { s with cd := { s.cd with activeOrder := [k] } }
        else (s.bump blkLDC LDC_ST_FAIL 0 1 ownLDC).fenceInst k 1
      let s := s.showLdc.ticketEnd t (if pass then 3 else 4) k (bNat pass)
      s.waitingTest.feed

/-- SDF_CLR_CNT (R224). -/
def execSdfClrCnt (c : Nat) (s : State) : Outcome State Fault Refusal :=
  actWhen s (s.powered && decide (c < 64)) fun s => s.clearCounters blkSDF [c] (ownSDF + c)

/-- LDC_CLR_CNT (R224). -/
def execLdcClrCnt (s : State) : Outcome State Fault Refusal :=
  actWhen s s.powered fun s => s.clearCounters blkLDC [0, 1, 2, 3, 4] ownLDC

end Sys2Proof.Machine
end

