-- ==== Sys2Proof/Machine/OpsSlice.lean ====
section
/-!
DEFINITION. Slice reset (R73 to R75, Table 03.2), refilling of the die-time buckets (R68) and read-around at the end of its budget (R81).
Assumption log: DEDUCED (69).
-/

namespace Sys2Proof.Machine

/-- The generation after another (R71): 0 is never given to a slice. -/
def nextGen (g : Nat) : Nat := if g = 0xFFFF then 1 else g + 1

/-- Step 3 of Table 03.2 for codewords: reads of the old generation that no die has been given are withdrawn; the others run to the end
of their step. -/
def State.withdrawReads (s : State) (slice : Nat) : State :=
  let l := s.cd.cws.filter fun e =>
    s.stale e.2 && e.2.slice == slice && (e.2.stage == .queued || e.2.stage == .slot || e.2.stage == .peersOnly)
  s.each l fun e s => s.endCw e.1

/-- Step 3 of Table 03.2 for commands at the zone engine and the cache: writes whose data is in both copies are kept, every other
command of the old generation is discarded with its buffers. -/
def State.withdrawAdms (s : State) (slice old : Nat) : State :=
  s.each (s.zn.adm.filter fun a => a.slice == slice && a.gen == old) fun a s =>
    match s.adm a.id with
    | none => s
    | some a =>
      if a.stage = .held ∨ a.stage = .verify then s
      else if a.stage = .waiting ∨ !a.kind.isWrite then s.dropAdm a.id
      else s.discardAdm a

/-- A slice reset is requested (R73): ignored for a slice that does not exist or is under reset, rejected in HOLD, begun in RUN and
SERVICE with steps 1 to 3 of Table 03.2. -/
def State.sliceReset (s : State) (n : Nat) : State :=
  if s.sliceCount ≤ n then s
  else if s.mode = .hold then (s.set SLM_RSTAT_REJ 1 n).raise 121
  else if s.underReset n then s
  else if s.inModes [.run, .service] then
    let old := s.gen n
    let s := (s.set SLM_RSTAT_BUSY 1 n).raise 115
    let s := { s with resets := s.resets.put n { oldGen := old, newGen := nextGen old, ranNs := 0, since := if s.mode = Mode.run then some s.now else none, budget := [] } }
    let s := (s.set SLM_GEN (nextGen old) n).askCommit.showFetch
    let stale (w : BufWait) : Bool := !w.internal && w.slice == n && w.gen != 0 && w.gen != s.gen n
    let s := { s with pool := { s.pool with waiters := s.pool.waiters.filter fun w => !stale w } }
    ((s.withdrawReads n).withdrawAdms n old).pump
  else s

/-- A die operation of an old generation of a slice. -/
def State.staleOp (s : State) (n : Nat) (o : DieOp) : Bool := !o.internal && o.gen != 0 && o.slice == n && o.gen != s.gen n

/-- A generation of a slice that is no longer its own. -/
def State.pastGen (s : State) (n slice gen : Nat) : Bool := slice == n && gen != 0 && gen != s.gen n

/-- A read hit of a command of the old generation of a slice (R72). -/
def State.staleHit (s : State) (n : Nat) (q : DReq) : Bool :=
  match q.use with
  | some (.hit id _ _) => match s.ctx id with | some c => c.slice == n && s.oldGen c | none => false
  | _ => false

/-- No operation of the old generation of a slice runs any more (step 4 of Table 03.2): no codeword's, none that a die runs to its
end for a reconstruction already withdrawn, no read hit; and every buffer of it has been released (R144). -/
def State.resetDrained (s : State) (n : Nat) : Bool :=
  !(s.wc.pairs.any fun e => s.pastGen n e.2.slice e.2.gen)
    && !(s.pool.desc.any fun e => !e.2.internal && s.pastGen n e.2.slice e.2.gen)
    && !(s.mm.chans.any fun e => e.2.all.any (s.staleHit n))
    && !(s.cd.cws.any fun e => s.stale e.2 && e.2.slice == n)
    && !(s.fl.dies.any fun e =>
        (match e.2.run with | some r => s.staleOp n r.op | none => false)
          || (match e.2.winRead with | some w => s.staleOp n w.1 | none => false))

/-- The submission queue belongs to the slice, by the slice that serves it now (R63). -/
def State.sqOfSlice (s : State) (n : Nat) (q : Sq) : Bool := s.queueSlice q == n

/-- The completion queue belongs to the slice: a submission queue of the slice posts to it, or none does and its PASID maps to it. -/
def State.cqOfSlice (s : State) (n slot : Nat) (q : Cq) : Bool :=
  let l := s.sqs.filter fun e => e.2.cqSlot == slot
  if l.isEmpty then s.sliceOf q.port q.pasid == some n else l.any fun e => s.sqOfSlice n e.2

/-- Every queue of a slice is reset to empty (step 5 of Table 03.2). -/
def State.emptyQueues (s : State) (n : Nat) : State :=
  let cs := s.cqs.filter fun e => s.cqOfSlice n e.1 e.2
  let isMine (k : Nat) : Bool := cs.any fun e => e.1 == k
  let f (q : Sq) : Sq := if s.sqOfSlice n q then { q with head := 0, tail := 0 } else q
  let g (k : Nat) (q : Cq) : Cq :=
    if isMine k then { q with head := 0, tail := 0, phase := 1, fullSince := none, stalled := false } else q
  let s := { s with sqs := s.sqs.mapVals (fun _ q => f q), cqs := s.cqs.mapVals (fun k q => g k q) }
  s.each cs fun e s => s.showStall e.2.port e.1

/-- The contexts of the old generation are counted and freed, each once (step 5 of Table 03.2, R72); a request of another node is answered
Command Interrupted. -/
def State.countOld (s : State) (n : Nat) : State :=
  s.each (s.ctxs.filter fun c => c.slot != 0 && c.slice == n && c.gen != s.gen n) fun c s =>
    if c.remote.isSome then s.complete c.id .commandInterrupted else s.discardStale c

/-- Step 5 of Table 03.2 (R71, R73, R425): queues empty, commands counted, DONE and ELAPSED shown, fetch resumed, a commit requested, and
the packets that asked for the reset answered. -/
def State.sliceResetEnds (s : State) (n : Nat) (r : SliceReset) : State :=
  let ms := satW 8 ((r.ranNs + (match r.since with | some t => s.now - t | none => 0)) / 1000000)
  let s := (s.countOld n).emptyQueues n
  let s := ((s.set SLM_RSTAT_BUSY 0 n).set SLM_RSTAT_DONE 1 n).set SLM_RSTAT_ELAPSED ms n
  let s := ({ s with resets := s.resets.del n }.showFetch).raise 116
  let s := s.packetsReady (fun w => w == .slice n) 0 [ms, 0, 0, 0]
  s.askCommitNow.settleDeletes

/-- Dies that are present and have not failed. -/
def State.workingDies (s : State) : List (Nat × Nat) :=
  (List.range 64).flatMap fun c => ((List.range 32).filter fun d => s.inService c d).map fun d => (c, d)

/-- Every bucket of every die gains its share (R68, R162). -/
def State.refillAll (s : State) : State :=
  let l := List.range s.sliceCount ++ [256, 257]
  s.each s.workingDies fun p s => s.each l fun n s => s.refill p.1 p.2 n

/-- The read-around budget of a read expires (R81, R82): every codeword not decoded is signalled. -/
def State.budgetExpires (s : State) (c : Ctx) : State :=
  let s := (s.bump blkTLG TLG_RA_START c.cls).raiseOnce (260 + c.cls)
  let s := s.modCtx c.id fun c => { c with raStarted := true }
  s.each (s.cwsOf c.id) fun w s => s.readAround w c.raRace

end Sys2Proof.Machine
end

