-- ==== Sys2Proof/Machine/Slices.lean ====
section
/-!
DEFINITION. The commands of the slices and the tollgate (chapter 03).
-/

namespace Sys2Proof.Machine

open Host (Outcome)

/-- SLICE_RESET_REQUEST: a write of SLM.RESET (R73); GO 0 has no effect. -/
def execSliceResetRequest (slice go : Nat) (s : State) : Outcome State Fault Refusal :=
  actWhen s (s.powered && go % 2 == 1) fun s => s.sliceReset slice

/-- SLICE_RESET_COMPLETE: steps 4 and 5 of Table 03.2, unless a Detour holds the reset. -/
def execSliceResetComplete (slice : Nat) (s : State) : Outcome State Fault Refusal :=
  act s fun s =>
    match s.resets.look slice with
    | none => s
    | some r =>
      if s.inModes [.run, .service] ∧ !s.flag SLM_RSTAT_HELD slice ∧ s.resetDrained slice then s.sliceResetEnds slice r else s

/-- TOKEN_REFILL: the 1 ms gain of every die-time bucket (R68), which flash operations wait for. -/
def execTokenRefill (s : State) : Outcome State Fault Refusal := actWhen s s.powered fun s => s.refillAll

/-- READ_AROUND_BUDGET_EXPIRY: the budget of a read in flight is over (R81); a budget of 0 is off. -/
def execReadAroundBudgetExpiry (ctx : Nat) (s : State) : Outcome State Fault Refusal :=
  act s fun s =>
    match s.ctx ctx with
    | none => s
    | some c =>
      if s.powered ∧ 0 < c.raBudget ∧ !c.raStarted ∧ c.stage ≠ .done ∧ !s.oldGen c ∧ c.fetchNs + 1000 * c.raBudget ≤ s.now then s.budgetExpires c else s

/-- SLM_CLR_CNT (R83). -/
def execSlmClrCnt (s : State) : Outcome State Fault Refusal := actWhen s s.powered fun s => s.clearCounters blkSLM (List.range 256)

/-- TLG_CLR_CNT (R83). -/
def execTlgClrCnt (s : State) : Outcome State Fault Refusal := actWhen s s.powered fun s => s.clearCounters blkTLG (List.range 256)

end Sys2Proof.Machine
end

