-- ==== Sys2Proof/Machine/OpsStore.lean ====
section
/-!
DEFINITION. The firmware store: line reads, download and commit of images, activation (R411 to R418, R441); commits of the configuration
record (R425 to R427).
Assumption log: DEDUCED (59, 62).
-/

namespace Sys2Proof.Machine

-- line reads

/-- Lines that the prefetch buffer, and targets that the branch cache can hold (R412). -/
def prefetchLines : Nat := 4
def branchTargets : Nat := 64

/-- A line is fetched (R412), by a taken branch to `branch` if it is one: from the branch cache where it holds the target, from the prefetch
buffer where it holds the line, else from the array; a fetch of line n fetches lines n + 1 and n + 2 where they are not held.  Whether the
line came from the array, and the state after it. -/
def State.fetchLine (s : State) (n : Nat) (branch : Option Nat) : Bool × State :=
  let pf := s.flag FWS_CFG_PF_EN
  let held := pf && s.fw.prefetch.contains n
  let target := if s.flag FWS_CFG_BC_EN then branch else none
  let cached := match target with | some a => s.fw.branches.contains a | none => false
  let s := if cached then s.bump blkFWS FWS_BC_HIT 0 1 ownFWS else if held then s.bump blkFWS FWS_PF_HIT 0 1 ownFWS else s
  let branches := match target with
    | some a => (a :: s.fw.branches.filter (· != a)).take branchTargets
    | none => s.fw.branches
  let add (l : List Nat) (k : Nat) : List Nat := if l.contains k then l else (k :: l).take prefetchLines
  let prefetch := if pf then add (add s.fw.prefetch (n + 1)) (n + 2) else s.fw.prefetch
  (!cached && !held, { s with fw := { s.fw with prefetch := prefetch, branches := branches } })

/-- The threshold of corrected bits (Table 15.8). -/
def State.cbitTh (s : State) : Nat := max 1 (min 8 (s.get FWS_CFG_CBIT_TH))

/-- A core's instruction fetch gets a line that cannot be corrected (R413): a precise trap, cause 0x23, whose handler reads the line once more;
a second failure halts the core. -/
def State.fetchFails (s : State) (k n : Nat) : State :=
  if s.fw.retry.look k = some n then { s with fw := { s.fw with retry := s.fw.retry.del k } }.coreHalt k 0x23
  else { s with fw := { s.fw with retry := s.fw.retry.put k n } }.preciseTrap k 0x23 (256 * n)

/-- What the corrected-bit count of a line read reports (R413); more than 8 bits cannot be corrected. -/
def State.lineBits (s : State) (n bits : Nat) (core : Option Nat) : State :=
  if 8 < bits then
    let s := (s.bump blkFWS FWS_UE_CNT 0 1 ownFWS).raise 243
    match core with
    | some k => s.fetchFails k n
    | none => s
  else
    let s := match core with
      | some k => if s.fw.retry.look k = some n then { s with fw := { s.fw with retry := s.fw.retry.del k } } else s
      | none => s
    if s.cbitTh ≤ bits then
      let s := s.bump blkFWS FWS_CB_CNT 0 1 ownFWS
      ((s.set FWS_WEAK_LINE_LINE n).set FWS_WEAK_LINE_CBITS bits).raiseOnce 242 ownFWS
    else s

/-- A core or another unit reads a line; only a read of the array has a bit count to report (R412, R413). -/
def State.lineRead (s : State) (n bits : Nat) (core branch : Option Nat) : State :=
  match s.fetchLine n branch with
  | (true, s) => s.lineBits n bits core
  | (false, s) => s

-- images

/-- Bytes an image may have: 62 MiB (R416). -/
def imageMax : Nat := 62 * 2 ^ 20

/-- 4,096-byte pieces of some data. -/
def pieces4k : Nat → List Nat → List (List Nat)
  | 0, _ => []
  | n + 1, l => l.take 4096 :: pieces4k n (l.drop 4096)

/-- Place data in the firmware data region at a multiple of 4 KiB (R416). -/
def State.placeImage (s : State) (offset : Nat) (data : List Nat) : State :=
  let l := pieces4k (data.length / 4096) data
  let m := (l.foldl (fun (acc : Nat × NMap (List Nat)) x => (acc.1 + 1, acc.2.put acc.1 x)) (offset / 4096, s.fw.download)).2
  { s with fw := { s.fw with download := m } }

/-- Data for the image buffer has a place in it (R416). -/
def imageFits (offset len : Nat) : Bool := offset % 4096 == 0 && len % 4096 == 0 && 0 < len && decide (offset + len ≤ imageMax)

/-- The slot of the running image (Table 15.7). -/
def State.slotRun (s : State) : Nat := s.get FWS_STATUS_SLOT_RUN

/-- The slot a commit names: 0 leaves the choice, and the slot not running is taken. -/
def State.slotNamed (s : State) (n : Nat) : Nat := if n = 0 then (if s.slotRun = 1 then 2 else 1) else n

/-- A downloaded image passes its check (R416). -/
def State.imageOk (s : State) (h : ImageHeader) : Bool := h.part == 0x6400 && h.good && !s.fw.download.isEmpty

/-- Why a Firmware Commit cannot be made (R416). -/
def State.commitRefusal (s : State) (slot action : Nat) (h : ImageHeader) : Option NvmeStatus :=
  if 3 < action then some .invalidField
  else if 2 < slot ∨ s.slotNamed slot = s.slotRun then some .invalidFirmwareSlot
  else if !s.imageOk h then some .invalidFirmwareImage
  else none

/-- The FWS begins to erase and program a slot (R416). -/
def State.beginSlot (s : State) (slot action : Nat) (ctx : Option Nat) (h : ImageHeader) : State :=
  { s with fw := { s.fw with prog := some { slot := s.slotNamed slot, action := action, ctx := ctx, hdr := h } } }

/-- The image of a slot is replaced. -/
def State.putSlot (s : State) (n : Nat) (i : SlotImage) : State :=
  if n = 1 then { s with fw := { s.fw with slot1 := some i } } else { s with fw := { s.fw with slot2 := some i } }

/-- The command or packet that asked for a commit of an image is answered. -/
def State.imageAnswer (s : State) (ctx : Option Nat) (st : NvmeStatus) (pk : Nat) : State :=
  match ctx with
  | some id => s.complete id st
  | none => s.packetsReady (fun w => w == .firmware) pk

/-- A slot has been erased, programmed and verified (R416, R418): the selector record is written as the action says. -/
def State.slotDone (s : State) (w : SlotWrite) (ok : Bool) : State :=
  let s := { s with fw := { s.fw with prog := none } }
  let s := s.putSlot w.slot { cfgVerMax := w.hdr.cfgVerMax, rev := w.hdr.rev, good := ok }
  if !ok then s.imageAnswer w.ctx .invalidFirmwareImage 0x22
  else
    let s := { s with fw := { s.fw with download := [] } }.raise 246
    let s := if w.action = 0 then s else s.writeSelector w.slot s.slotRun true 0
    if w.action = 3 then
      if s.mode = .run then { s with fw := { s.fw with activateDue := some (w.slot, w.ctx) } }
      else s.imageAnswer w.ctx .firmwareActivationRequiresReset 0x05
    else s.imageAnswer w.ctx .success 0

/-- Step 1 of an immediate activation (R418); with no command in flight step 2 follows at once. -/
def State.beginActivation (s : State) (slot : Nat) (ctx : Option Nat) : State :=
  let s := { s with md := { s.md with fetchStop := true }, fw := { s.fw with activateDue := none, activating := some (slot, ctx) } }
  s.showFetch.activationReady

/-- Fetch resumes after an activation (R418). -/
def State.endActivation (s : State) : State :=
  { s with md := { s.md with fetchStop := false }, fw := { s.fw with activating := none, restartAt := none, trialMs := 0, prefetch := [], branches := [], retry := [] } }.showFetch

-- the configuration record

/-- A commit may start: a change waits, for 100 ms or with a request that waits no longer, none runs, the mode allows it, and 1 s has passed since
the last one started (R425). -/
def State.commitAllowed (s : State) : Bool :=
  s.flag FWC_CFGREC_PEND && s.fw.commit.isNone && s.inModes [.boot, .hold, .run, .service]
    && (s.fw.lastCommitAt == 0 || decide (s.fw.lastCommitAt + 1000000000 ≤ s.now))
    && (s.fw.commitNow || (match s.fw.pendAt with | some t => decide (t + 100000000 ≤ s.now) | none => false))

/-- A commit starts, or is refused because the content does not fit (R425, R426). -/
def State.startCommit (s : State) : State :=
  if !s.recordFits then
    let s := if s.flag FWC_CFGREC_OVER then s else (s.set FWC_CFGREC_OVER 1).raise 251
    s.packetsReady (fun w => match w with | .commit _ => true | _ => false) 0x20
  else
    let f (r : MgRun) : MgRun := match r.wait with | .commit _ => { r with wait := .commit true } | _ => r
    let s := { s with mg := { s.mg with running := s.mg.running.mapVals fun _ r => f r } }
    { s with fw := { s.fw with commit := some s.recordImage, again := false, lastCommitAt := s.now, pendAt := none, commitNow := false } }

/-- The commit line is written (R424 to R427, Table 11.2): the copy written is the one in use, its ceiling stands, waiting stripe formations
go on, and HOLD cause 0x1 clears when a configuration packet asked for it. -/
def State.endCommit (s : State) (c : CfgCopy) : State :=
  let toB := !s.cfgIsB
  let asked := s.packetWaits fun w => w == .commit true
  let s := (s.storeCopy c).setB FWC_CFGREC_COPY toB
  let s := ((s.set FWC_CFGREC_SRC 1).set FWC_CFGREC_VER (c.ver % 256)).set FWC_CFGREC_LINES c.lines
  let s := { s with fw := { s.fw with fnCeiling := c.fnCeiling, fnWanted := if s.fw.fnWanted = some c.fnCeiling then none else s.fw.fnWanted } }
  let s := (s.setB FWC_CFGREC_PEND s.fw.again).logRec 0x1002 (bNat toB) 0 0 0
  let s := (s.raise 248).packetsReady (fun w => w == .commit true) 0 (le 8 c.seq)
  let s := if asked ∧ s.flag PSC_STATUS_HOLD_NOCFG then
      let s := (s.set PSC_STATUS_HOLD_NOCFG 0).showHold
      let s := if s.mode = .hold then s.portsStart else s
      if s.inTransition then s else s.evalHold
    else s
  s.pump

end Sys2Proof.Machine
end

