-- ==== Sys2Proof/Machine/Store.lean ====
section
/-!
DEFINITION. The commands of the firmware store, the firmware cores and the configuration record (chapter 15).
-/

namespace Sys2Proof.Machine

open Host (Outcome)

/-- FIRMWARE_IMAGE_DOWNLOAD (R416): NUMD and OFST count dwords.  While the store programs a slot from the region, the command waits. -/
def execFirmwareImageDownload (ctx : Nat) (data : List Nat) (s : State) : Outcome State Fault Refusal :=
  act s fun s =>
    match s.adminCtx ctx 0x11 fun _ => s.fw.prog.isNone with
    | none => s
    | some c =>
      let len := 4 * (c.e.dw10 + 1)
      let offset := 4 * c.e.dw11
      if imageFits offset len then ((s.placeImage offset (padTo data len)).complete c.id .success) else s.complete c.id .invalidField

/-- FIRMWARE_COMMIT (R416): the command stays in flight while the store erases, programs and verifies the slot. -/
def execFirmwareCommit (ctx : Nat) (hdr : ImageHeader) (s : State) : Outcome State Fault Refusal :=
  act s fun s =>
    match s.adminCtx ctx 0x10 fun _ => s.fw.prog.isNone && s.fw.activateDue.isNone && s.fw.activating.isNone with
    | none => s
    | some c =>
      let slot := bits c.e.dw10 2 0
      let action := bits c.e.dw10 5 3
      match s.commitRefusal slot action hdr with
      | some st => s.complete c.id st
      | none => (s.issue c.id).beginSlot slot action (some c.id) hdr

/-- FIRMWARE_ACTIVATE_IMMEDIATE: commit action 011b goes on to the activation (R418). -/
def execFirmwareActivateImmediate (ctx : Nat) (s : State) : Outcome State Fault Refusal :=
  actWhen s (s.inModes [.run]) fun s =>
    match s.fw.activateDue with
    | some (slot, some id) => if id = ctx then s.beginActivation slot (some id) else s
    | some (slot, none) => s.beginActivation slot none
    | none => s

/-- FIRMWARE_STORE_READ (R412, R413): the number of bits found wrong in a line; more than 8 cannot be corrected.  The core (17 is the
supervisor core) whose instruction fetch it is, if it is one, and the target of the taken branch that leads to it, if one does. -/
def execFirmwareStoreRead (line bits : Nat) (core branch : Option Nat) (s : State) : Outcome State Fault Refusal :=
  actWhen s (s.coreOn && decide (line < 2 ^ 19) && (core.all fun k => decide (k ≤ 17)) && branch.all fun a => a / 256 == line) fun s =>
    s.lineRead line bits core branch

/-- FIRMWARE_SLOT_PROGRAMMED (R416). -/
def execFirmwareSlotProgrammed (ok : Bool) (s : State) : Outcome State Fault Refusal :=
  act s fun s => match s.fw.prog with | some w => if s.coreOn then s.slotDone w ok else s | none => s

/-- TRIAL_CONFIRM: a trial image has been in RUN or HOLD for 60 s in total (R417). -/
def execTrialConfirm (s : State) : Outcome State Fault Refusal :=
  actWhen s (s.inModes [.run, .hold] && s.flag FWS_STATUS_TRIAL && decide (60000 ≤ s.fw.trialMs)) fun s =>
    let prev := match s.selector with | some r => r.prev | none => 0
    ((s.writeSelector s.slotRun prev false 0).set FWS_STATUS_TRIAL 0).raise 241

/-- ACTIVATION_COMPLETE: the cores run from the new image (R418). -/
def execActivationComplete (s : State) : Outcome State Fault Refusal :=
  act s fun s =>
    match s.fw.activating with
    | some (slot, ctx) =>
      if s.coreOn ∧ s.fw.restartAt.isSome then
        let s := ((s.set FWS_STATUS_SLOT_RUN slot).set FWS_STATUS_TRIAL 1).raise 247
        s.endActivation.imageAnswer ctx .success 0
      else s
    | none => s

/-- ACTIVATION_TIMEOUT: 2 s after the cores began to restart from the new image they have not; they restart from the previous image, and the selector returns to it (R417, R418). -/
def execActivationTimeout (s : State) : Outcome State Fault Refusal :=
  act s fun s =>
    match s.fw.activating with
    | some (slot, ctx) =>
      if s.coreOn && (match s.fw.restartAt with | some t => decide (t + 2000000000 ≤ s.now) | none => false) then
        let s := s.writeSelector s.slotRun slot false 0
        let s := (s.set FWS_STATUS_FALLBACK 1).raise 240
        s.endActivation.imageAnswer ctx .internalError 0x04
      else s
    | none => s

/-- CORE_HALT (R422): cores 0 to 16, and 17 for the supervisor core, which alone runs in DETOUR; none runs in REST (Table 01.7). -/
def execCoreHalt (core cause : Nat) (s : State) : Outcome State Fault Refusal :=
  actWhen s (s.coreOn && decide (core ≤ 17) && !s.inModes [.rest] && (core == 17 || !s.inModes [.detour])) fun s => s.coreHalt core cause

/-- CONFIG_COMMIT_TIMER: a pending change is committed (R425, R426). -/
def execConfigCommitTimer (s : State) : Outcome State Fault Refusal := actWhen s s.commitAllowed fun s => s.startCommit

/-- CONFIG_COMMIT_END: the commit line is written (R425); a commit in progress when DETOUR begins is completed. -/
def execConfigCommitEnd (s : State) : Outcome State Fault Refusal :=
  act s fun s => match s.fw.commit with | some c => if s.coreOn then s.endCommit c else s | none => s

/-- FWS_CLR_CNT (R429). -/
def execFwsClrCnt (s : State) : Outcome State Fault Refusal :=
  actWhen s s.powered fun s => (s.clearCounters blkFWS [0] ownFWS).rearm blkFWS.rearm

/-- FWC_CLR_CNT (R429). -/
def execFwcClrCnt (s : State) : Outcome State Fault Refusal :=
  actWhen s s.powered fun s => s.clearCounters blkFWC [0] ownFWC

end Sys2Proof.Machine
end

