-- ==== Sys2Proof/Machine/Tickets.lean ====
section
/-!
DEFINITION. The commands of the ticket table (R445, Table 16.8).
-/

namespace Sys2Proof.Machine

open Host (Outcome)

/-- TICKET_EXPIRY: a ticket is freed 1 hour after its end (R445). -/
def execTicketExpiry (ticket : Nat) (s : State) : Outcome State Fault Refusal :=
  actWhen s (s.powered && (match s.mg.tickets.look ticket with | some t => t.over && s.past t.ended 3600000000000 | none => false)) fun s =>
    { s with mg := { s.mg with tickets := s.mg.tickets.del ticket } }

/-- MGI_TCLR (Table 16.8). -/
def execMgiTclr (s : State) : Outcome State Fault Refusal := actWhen s s.powered fun s => s.clearTickets

end Sys2Proof.Machine
end

