-- ==== Sys2Proof/Machine/Xlate.lean ====
section
/-!
DEFINITION. The commands of the waypoint table and zone engine (chapter 04) and of the translation layer (chapter 08).
-/

namespace Sys2Proof.Machine

open Host (Outcome)

/-- WPT_READ (R112). -/
def execWptRead (index : Nat) (s : State) : Outcome State Fault Refusal :=
  actWhen s s.powered fun s => s.wptDoRead (index % 4096)

/-- WPT_WRITE (R112, R113). -/
def execWptWrite (index : Nat) (s : State) : Outcome State Fault Refusal :=
  actWhen s s.powered fun s => s.wptDoWrite (index % 4096)

/-- WPT_INSERT (R112, R113). -/
def execWptInsert (index : Nat) (s : State) : Outcome State Fault Refusal :=
  actWhen s s.powered fun s => s.wptDoInsert (index % 4096)

/-- WPT_DELETE (R112, R113). -/
def execWptDelete (index : Nat) (s : State) : Outcome State Fault Refusal :=
  actWhen s s.powered fun s => s.wptDoDelete (index % 4096)

/-- WPT_MOVE_COMPLETE: the moves of a waypoint command end and BUSY clears (R113). -/
def execWptMoveComplete (s : State) : Outcome State Fault Refusal :=
  actWhen s s.powered fun s => s.wptMoved

/-- WPT_SCRUB_TICK: one row is compared with its shadow copy (R111). -/
def execWptScrubTick (upset : Bool) (s : State) : Outcome State Fault Refusal :=
  actWhen s (s.powered && s.mode != .rest && s.flag WPT_CTRL_SCRUB_EN) fun s => s.wptScrub upset

/-- ACCUMULATOR_IDLE_SPILL: the accumulator of a context without a program for 1 ms goes to its slot (R103). -/
def execAccumulatorIdleSpill (acc : Nat) (s : State) : Outcome State Fault Refusal :=
  actWhen s (match s.zn.accs.look acc with | some p => decide (p.zkey < 2 ^ 48) && decide (p.lastProg + 1000000 ≤ s.now) | none => false) fun s => s.spill acc

/-- PARTIAL_PARITY_REBUILD_END: the rebuild of R105 ends with the XOR read for each zone's group. -/
def execPartialParityRebuildEnd (found : List (Nat × Nat × NMap Nat)) (s : State) : Outcome State Fault Refusal :=
  actWhen s (s.flag ZNE_STATUS_RECOMP && s.inModes [.run, .service]) fun s => s.recompEnd found

/-- REALLOCATION_ACCEPT: the owner of a block accepts a request, at most 4 of which are carried out at once (R244). -/
def execReallocationAccept (ch die block : Nat) (s : State) : Outcome State Fault Refusal :=
  actWhen s (s.cd.realloc.contains (ch, die, block) && decide (s.cd.moving.length < 4) && s.inModes [.run, .service]) fun s =>
    s.acceptRealloc (ch, die, block)

/-- RELOCATION_STEP (R239, R240). -/
def execRelocationStep (s : State) : Outcome State Fault Refusal :=
  actWhen s s.mayRelocate fun s => s.relocate.showReloc.pump

/-- XLT_RELOC_OLDEST (R241); 0 has no effect (Table 08.5). -/
def execXltRelocOldest (n : Nat) (s : State) : Outcome State Fault Refusal :=
  actWhen s (s.powered && decide (0 < n % 256)) fun s => s.relocOldest (n % 256)

/-- A checkpoint may start: data moves, and the map stands. -/
def State.checkpointAllowed (s : State) : Bool := s.inModes [.run, .service] && s.ckptOpen

/-- XLT_CKPT_NOW: a checkpoint starts unless one is running (R233). -/
def execXltCkptNow (s : State) : Outcome State Fault Refusal :=
  actWhen s s.checkpointAllowed fun s => s.startCheckpoint none

/-- CHECKPOINT_TIMER: 60 s after the start of the last checkpoint the next one starts (R233). -/
def execCheckpointTimer (s : State) : Outcome State Fault Refusal :=
  actWhen s (s.checkpointAllowed && decide (s.xl.ckptAt + 60000000000 ≤ s.now)) fun s => s.startCheckpoint none

/-- CHECKPOINT_COMMIT: segments and directory are written, and the commit record passes verify; it waits while flash writes are forbidden (R233,
R234). -/
def execCheckpointCommit (s : State) : Outcome State Fault Refusal :=
  actWhen s (s.inModes [.run, .service] && !s.flag THM_STATUS_WR_FORBID
      && (match s.xl.run with | some r => r.ready | none => false)) fun s => s.commitCheckpoint

/-- CHECKPOINT_LATE_TIMEOUT: 120 s without a commit (R234). -/
def execCheckpointLateTimeout (s : State) : Outcome State Fault Refusal :=
  actWhen s (s.inModes [.run, .service] && !s.xl.late && decide (s.xl.commitAt + 120000000000 ≤ s.now)) fun s =>
    ({ s with xl := { s.xl with late := true } }).xltEvt XLT_EVT_CKPT_LATE

/-- MAP_RESTART_END: the map restart's last step ends after `ms` and conventional namespaces accept I/O (R235 to R237). -/
def execMapRestartEnd (ms : Nat) (badRecords : List Nat) (badFooters : List (Nat × Nat × Nat)) (s : State) : Outcome State Fault Refusal :=
  actWhen s (s.flag XLT_STATUS_RESTART && s.inModes [.run, .service]) fun s =>
    let s := ((s.restartMap badRecords badFooters).set XLT_STATUS_RESTART 0).set XLT_RESTART_MS (satW 13 ms)
    ({ s with xl := { s.xl with restartSince := none, commitAt := s.now } }).queuedCheckpoint.showPool.showReloc.pump

/-- MAP_REBUILD_END: the lost segments are rebuilt, and commands that touch them go on (R238). -/
def execMapRebuildEnd (s : State) : Outcome State Fault Refusal :=
  actWhen s (s.flag XLT_STATUS_REBUILD && s.powered) fun s =>
    (((s.rebuildSegs.set XLT_STATUS_REBUILD 0).xltEvt XLT_EVT_MAP_REBUILD).queuedCheckpoint).pump

/-- WPT_CLR_CNT (R118). -/
def execWptClrCnt (s : State) : Outcome State Fault Refusal :=
  actWhen s s.powered fun s => (s.clearCounters blkWPT (List.range 8) ownWPT).rearm blkWPT.rearm

/-- ZNE_CLR_CNT (R118). -/
def execZneClrCnt (s : State) : Outcome State Fault Refusal :=
  actWhen s s.powered fun s => (s.clearCounters blkZNE [0] ownZNE).rearm blkZNE.rearm

/-- XLT_CLR_CNT (R249). -/
def execXltClrCnt (s : State) : Outcome State Fault Refusal :=
  actWhen s s.powered fun s => s.clearCounters blkXLT

end Sys2Proof.Machine
end

