-- ==== Sys2Proof/Machine/OpsReg.lean ====
section
/-!
DEFINITION. Reads and writes of the privileged control window (R8 to R10): what a read of a register returns and does, what a write sets by
the access codes of its fields, and what it sets in motion.
Assumption log: DEDUCED (12, 13, 36, 52, 69); DESIGN CHOICE (21).
-/

namespace Sys2Proof.Machine

open Host (Outcome)

/-- The fields of the register at a byte address, with the instance. -/
def fieldsAt (addr : Nat) : List (Field × Nat × Nat) :=
  allFields.filterMap fun f => (f.reg.locate addr).map fun x => (f, x.1, x.2)

/-- A bit of a written word stands for a command. -/
def State.viaBit (s : State) (w b : Nat) (f : State → Outcome State Fault Refusal) : State := if bit w b then s.via f else s

-- live values

/-- A block's state and pointer (chapter 06, FSQ.NPP_DATA). -/
def State.nppWord (s : State) (c d b : Nat) : Nat :=
  let bl := s.block c d b
  (match bl.st with | .erased => 0 | .opened => 1 | .full => 2 | .retired => 3) + 4 * (bl.npp % 2 ^ 11)

/-- Stripes a route could form now, one after another (chapter 04, ZNE.RFREE). -/
def State.formable (r : Nat) : Nat → State → Nat
  | 0, _ => 0
  | n + 1, s =>
    let act := s.activeMembers
    match s.stripeChannels r act with
    | some l => 1 + State.formable r n (State.takeMembers act l s).2
    | none => 0

/-- Regions held in one copy (R124). -/
def State.singles (s : State) : Nat := (s.wc.pairs.filter fun e => e.2.a.isNone || e.2.b.isNone).length

/-- The record of a ticket (R445): TICKET, STATE, KIND and four result words. -/
def ticketBytes (n : Nat) (t : Ticket) : List Nat :=
  le 2 n ++ [t.state, t.kind] ++ le 4 t.r0 ++ le 4 t.r1 ++ le 4 t.r2 ++ le 4 t.r3

/-- Packets that run, and whether a changing one does (R434, Table 16.9). -/
def State.packetsRunning (s : State) : Nat := s.mg.running.length
def State.changeRunning (s : State) : Bool := s.mg.running.any fun e => e.2.change

/-- The bad-column range selected by SDF.BADCOL_SEL. -/
def State.badColWord (s : State) (c : Nat) : Nat :=
  let k := ((c * 32 + s.get SDF_BADCOL_SEL_DIE c) * 4 + s.get SDF_BADCOL_SEL_PLANE c) * 256 + s.get SDF_BADCOL_SEL_INDEX c
  match s.sd.badCols.look k with
  | some (f, n, v) => f % 2 ^ 18 + 2 ^ 18 * ((n - 1) % 64) + 2 ^ 31 * bNat v
  | none => 0

/-- Registers whose value is that of other state now: the register and its word by instance. -/
def State.liveWords (s : State) : List (Reg × (Nat → Nat → Nat)) :=
  [ (rGLB_SERIAL_LO, fun _ _ => Config.serial % 2 ^ 32), (rGLB_SERIAL_HI, fun _ _ => Config.serial / 2 ^ 32 % 2 ^ 32),
    (rGLB_UPTIME_LO, fun _ _ => s.now % 2 ^ 32),
    (rGLB_CONFIG_INFO, fun _ _ =>
      s.wordOf fieldsGLB (rGLB_CONFIG_INFO.at 0 0)
        + ((List.range 4).filter fun p => s.cwState p == cwUp).foldl (fun n p => n + 2 ^ (18 + p)) 0),
    (rSLM_DIRTY, fun n _ => s.dirtyOf n), (rTLG_REC_TOTAL_LO, fun _ _ => s.lateTotal % 2 ^ 32),
    (rZNE_ACTIVE, fun _ _ => (s.zn.zones.filter fun e => e.2.state.active).length), (rZNE_CTX_USED, fun _ _ => s.zn.ctxs.length),
    (rZNE_ACC_USED, fun _ _ => s.zn.accs.length), (rZNE_RFREE, fun r _ => State.formable r 0xFFFFF s),
    (rWCU_STATUS, fun _ _ => s.wordOf fieldsWCU (rWCU_STATUS.at 0 0) + 32 * bNat s.overLimit + 64 * bNat (0 < s.singles)),
    (rWCU_DIRTY_NOW, fun _ _ => s.dirtyAll), (rWCU_SINGLE_NOW, fun _ _ => s.singles),
    (rBPL_DESC_DATA, fun _ _ => s.descWord (s.get BPL_DESC_SEL_POOL) (s.get BPL_DESC_SEL_INDEX)),
    (rFSQ_NPP_DATA, fun c _ => s.nppWord c (s.get FSQ_NPP_SEL_DIE c) (s.get FSQ_NPP_SEL_BLOCK c)),
    (rDSC_STATUS, fun _ _ => s.wordOf fieldsDSC (rDSC_STATUS.at 0 0) + 2 * bNat (s.flag THM_STATUS_WR_FORBID)
      + 2 ^ 11 * bNat (min 2 (s.get DSC_CFG_SPARE_DIES) != s.get GLB_CONFIG_INFO_SPARE_DIES)),
    (rDSC_TOK_DATA, fun _ _ => toTwos 22 (s.tokens (s.get DSC_TOK_SEL_CH) (s.get DSC_TOK_SEL_DIE) (s.get DSC_TOK_SEL_SLICE))),
    (rSDF_CLASS_D0, fun c _ => toTwos 16 (s.selectedClass c).o + 2 ^ 16 * ((s.selectedClass c).n % 256)),
    (rSDF_CLASS_D1, fun c _ =>
      toTwos 8 (s.selectedClass c).g + 2 ^ 8 * toTwos 8 (s.selectedClass c).a + 2 ^ 16 * toTwos 8 (s.selectedClass c).gRef),
    (rSDF_BADCOL_DATA, fun c _ => s.badColWord c), (rXLT_CKPT_NUM_LO, fun _ _ => s.xl.last.num % 2 ^ 32),
    (rXLT_SINCE_CKPT, fun _ _ => s.xl.sinceCommit / 16384 % 2 ^ 12),
    (rXLT_STATUS, fun _ _ =>
      s.wordOf fieldsXLT (rXLT_STATUS.at 0 0) - 32 * bNat (s.flag XLT_STATUS_RELOC) + 32 * bNat s.mayRelocate),
    (rPSQ_RAIL_STAT, fun _ _ => s.railStat),
    (rPSC_STATUS, fun _ _ => s.wordOf fieldsPSC (rPSC_STATUS.at 0 0) + bNat s.inTransition),
    (rFWS_STATUS, fun _ _ => s.wordOf fieldsFWS (rFWS_STATUS.at 0 0) + 16 * bNat s.fw.prog.isSome),
    (rFWC_CFG_SEQ_LO, fun _ _ => (match s.cfgInUse with | some c => c.seq % 2 ^ 32 | none => 0)),
    (rMGI_STATUS, fun _ _ =>
      s.wordOf fieldsMGI (rMGI_STATUS.at 0 0) + s.packetsRunning % 16 + 16 * (s.mg.tickets.length % 128) + 2 ^ 11 * bNat s.changeRunning),
    (rMGI_TICKET_DATA, fun k _ =>
      match s.mg.tickets.look (s.get MGI_TICKET_SEL) with
      | some t => field (ticketBytes (s.get MGI_TICKET_SEL) t) (4 * k) 4
      | none => 0) ]

/-- The value of a register by its address (R9): RSV bits and WO fields read 0. -/
def State.viewWord (s : State) (addr : Nat) : Nat :=
  match s.liveWords.findSome? fun e => (e.1.locate addr).map fun x => e.2 x.1 x.2 with
  | some v => v
  | none => s.wordOf ((fieldsAt addr).map (·.1)) addr

/-- A word of the delay tables or the training results: as written or read before, else a value the manual leaves open (chapter 06). -/
def State.partBWord (s : State) (addr : Nat) : Nat × State :=
  match s.fl.partB.look addr with
  | some v => (v, s)
  | none =>
    let (v, s) := s.free
    (v % 2 ^ 32, { s with fl := { s.fl with partB := s.fl.partB.put addr (v % 2 ^ 32) } })

/-- Registers whose lower word latches the upper one when it is read: the lower register, the upper field, and the upper value now. -/
def State.latches (s : State) : List (Reg × Field × Nat) :=
  [ (rGLB_UPTIME_LO, GLB_UPTIME_HI, s.now / 2 ^ 32 % 2 ^ 32), (rTLG_REC_TOTAL_LO, TLG_REC_TOTAL_HI, s.lateTotal / 2 ^ 32 % 2 ^ 32),
    (rXLT_CKPT_NUM_LO, XLT_CKPT_NUM_HI, s.xl.last.num / 2 ^ 32 % 2 ^ 32),
    (rFWC_CFG_SEQ_LO, FWC_CFG_SEQ_HI, (match s.cfgInUse with | some c => c.seq / 2 ^ 32 % 2 ^ 32 | none => 0)) ]

/-- An aligned 32-bit read of the window: its value and its side effects (R392, R399). -/
def State.readWord (s : State) (addr : Nat) : Nat × State :=
  if addr = rMSM_LOG_DATA.at 0 0 then s.logDataRead
  else if addr = rMSM_WIN_DATA.at 0 0 then s.winDataRead
  else if (rFSQ_DQDLY.locate addr).isSome ∨ (rFSQ_TRAIN_LOG.locate addr).isSome then s.partBWord addr
  else
    let v := s.viewWord addr
    match s.latches.find? fun e => e.1.at 0 0 == addr with
    | some (_, f, hi) => (v, s.set f hi)
    | none => (v, s)

/-- A read of the window of 1, 2 or 4 bytes (R8): aligned to its size, the bytes it addresses of the register, with the side effects of a
read of the whole; otherwise 0, without any. -/
def State.readAt (s : State) (size addr : Nat) : Nat × State :=
  if (size = 1 ∨ size = 2 ∨ size = 4) ∧ addr % size = 0 then
    let (v, s) := s.readWord (addr / 4 * 4)
    (v / 2 ^ (8 * (addr % 4)) % 2 ^ (8 * size), s)
  else (0, s)

-- writes

/-- Whether a written word has a 1 in an RSV bit of a register (R10). -/
def rsvHit (fs : List (Field × Nat × Nat)) (w : Nat) : Bool :=
  (List.range 32).any fun b => bit w b && !(fs.any fun x => x.1.lsb ≤ b && b < x.1.lsb + x.1.width)

/-- A register that holds only WO fields, so that its write acts once (R10). -/
def woOnly (fs : List (Field × Nat × Nat)) : Bool := fs.all fun x => x.1.acc == .wo

/-- The case of R10 that a write of a register leaves: present while an RSV bit was last written 1; of a WO register, from the first such
write on, since what it set in motion is not ended by another write. -/
def State.judgeRsv (s : State) (addr : Nat) (fs : List (Field × Nat × Nat)) (w : Nat) : State :=
  if woOnly fs then (if rsvHit fs w then s.unbind (.wo addr) else s) else s.setUnbound (.rsv addr) (rsvHit fs w)

/-- The part of a written word that goes to a field. -/
def Field.part (f : Field) (w : Nat) : Nat := w / 2 ^ f.lsb % 2 ^ f.width

/-- A write of a field by its access code (R9). -/
def State.writeField (s : State) (f : Field) (i j w : Nat) : State :=
  match f.acc with
  | .rw => s.set f (f.part w) i j
  | .rwx => if i = 0 then s else s.set f (f.part w) i j
  | .rw1c => s.set f (s.get f i j - (s.get f i j &&& f.part w)) i j
  | .rw1s => s.set f (s.get f i j ||| f.part w) i j
  | .ro | .wo | .cnt | .rwv => s

/-- Budgets of the slices in force overlap or exceed the device totals (Table 16.7). -/
def State.badBudgets (s : State) : Bool :=
  let l := List.range s.sliceCount
  let sum (w : Nat) : Nat := l.foldl (fun n k => n + s.get SLM_BUDGET k w) 0
  let clash (b c total : Nat) : Bool :=
    l.any fun k =>
      let x := s.get SLM_BUDGET k b
      let n := s.get SLM_BUDGET k c
      decide (total < x + n) || l.any fun m => decide (m < k) && 0 < n && 0 < s.get SLM_BUDGET m c
        && decide (x < s.get SLM_BUDGET m b + s.get SLM_BUDGET m c) && decide (s.get SLM_BUDGET m b < x + n)
  decide (4096 < sum 0) || clash 1 2 131072 || clash 3 4 3072 || decide (1024 * s.get WCU_LIMIT_L < sum 5)
    || decide (s.get BPL_SRES 0 < sum 6) || decide (s.get BPL_SRES 1 < sum 7) || decide (16000 - s.gain 256 < sum 8)

/-- Two valid PASID map entries hold the PASID of one of them (Table 16.7): the case is kept by the PASID. -/
def State.checkPmap (s : State) : State :=
  let l := (List.range 4096).filter fun n => s.flag SLM_PMAP_V n
  let twice (p : Nat) : Bool := decide (1 < (l.filter fun n => s.get SLM_PMAP_PASID n == p).length)
  let old := s.unbound.filter fun u => match u with | .pasid p => !twice p | _ => false
  let s := s.each old fun u s => s.bind u
  s.each (((l.map fun n => s.get SLM_PMAP_PASID n).filter twice).eraseDups) fun p s => s.unbind (.pasid p)

/-- A node-slice entry names a slice that is not in force, or two valid entries name one node (Table 16.7). -/
def State.badNodeSlices (s : State) : Bool :=
  let l := (List.range 256).filter fun k => s.flag JNR_NSLICE_V k
  (l.any fun k => decide (s.sliceCount ≤ s.get JNR_NSLICE_SLICE k))
    || l.any fun k => l.any fun m => decide (m < k) && s.get JNR_NSLICE_NODE k == s.get JNR_NSLICE_NODE m

/-- The slice that serves each queue is shown anew (Table 02.16, R63). -/
def State.showSlices (s : State) : State :=
  s.each s.sqs fun kq s => s.set QEN_QINFO_SLICE (s.queueSlice kq.2) kq.1

/-- A port of the causeway after its configuration was written (R356, R362): disabled, or trained at the rate set. -/
def State.cwConfigured (s : State) (p : Nat) (oldRate : Nat) : State :=
  if !s.flag CWP_PCFG_EN p then (if s.cwState p = cwDisabled then s else s.cwGoDown p cwDisabled)
  else
    let s := if s.cwState p = cwDisabled ∨ s.get CWP_PCFG_RATE p != oldRate then s.cwGoDown p cwDown else s
    if s.cwState p = cwDown ∧ s.portsRun then s.portsStart else s

/-- The dirty limit follows its configuration (R131, R132). -/
def State.limitChanged (s : State) : State := if s.wc.started then s.recomputeLimit else s

/-- A budget word of a slice under reset was written: until step 5 the word of before is in force (R75). -/
def State.holdBudget (s : State) (n : Nat) (old : State) : State :=
  let keep (r : SliceReset) : SliceReset :=
    { r with budget := (List.range 9).foldl (fun m w =>
        if old.get SLM_BUDGET n w = s.get SLM_BUDGET n w ∨ m.has w then m else m.put w (old.get SLM_BUDGET n w)) r.budget }
  { s with resets := s.resets.modify n keep }

/-- What a write of a register sets in motion, after its fields have been set: the register, and the action by instance, written word and
the state before the write. -/
def writeActs : List (Reg × (Nat → Nat → State → State → State)) :=
  [ (rQEN_CTRL, fun _ w _ s => (s.viaBit w 0 execQenClrCnt).viaBit w 1 execQenClrPeak),
    (rSLM_CTRL, fun _ w _ s => s.viaBit w 0 execSlmClrCnt), (rSLM_RESET, fun _ w _ s => s.via (execSliceResetRequest (w % 256) (bits w 8 8))),
    (rSLM_PMAP, fun _ _ _ s => s.checkPmap.showSlices), (rSLM_PORT_DEF, fun _ _ _ s => s.showSlices),
    (rSLM_BUDGET, fun n _ o s => ((s.holdBudget n o).setUnbound .budget s.badBudgets).pump), (rTLG_CTRL, fun _ w _ s => s.viaBit w 0 execTlgClrCnt),
    (rWPT_CTRL, fun _ w _ s => s.viaBit w 0 execWptClrCnt),
    (rWPT_CMD, fun _ w _ s =>
      let i := w % 4096
      match bits w 15 12 with
      | 1 => s.via (execWptRead i) | 2 => s.via (execWptWrite i) | 3 => s.via (execWptInsert i) | 4 => s.via (execWptDelete i) | _ => s),
    (rWPT_ROUTE_CFG, fun r _ _ s => s.setUnbound (.route r) (s.get WPT_ROUTE_CFG_MODE r == 3)),
    (rZNE_CTRL, fun _ w _ s => s.viaBit w 0 execZneClrCnt),
    (rWCU_CTRL, fun _ w o s =>
      let s := s.viaBit w 0 execWcuClrCnt
      if o.flag WCU_CTRL_FORCE_WT = bit w 1 then s else s.via (execWriteThroughForce (bit w 1))),
    (rWCU_DIRTY_CFG, fun _ _ _ s => s.limitChanged), (rWCU_LIMIT_CFG, fun _ _ _ s => s.limitChanged),
    (rBPL_CTRL, fun _ w _ s => s.viaBit w 0 execBplClrCnt), (rFSQ_CTRL, fun c w _ s => s.viaBit w 0 (execFsqClrCnt c)),
    (rFSQ_OPC, fun c _ _ s => s.setUnbound (.fsqPartB c) (s.mode != Mode.service)), (rDSC_CTRL, fun _ w _ s => s.viaBit w 0 execDscClrCnt),
    (rSDF_CTRL, fun c w _ s => (s.viaBit w 0 (execSdfClrCnt c)).viaBit w 1 (execSdfClassClr c)),
    (rSDF_BADCOL_DATA, fun c w _ s => s.via (execSdfBadcolWrite c w)),
    (rLDC_CTRL, fun _ w _ s => (s.viaBit w 0 execLdcClrCnt).viaBit w 1 execLdcStNow),
    (rXLT_CTRL, fun _ w _ s => ((s.viaBit w 0 execXltClrCnt).viaBit w 1 execXltCkptNow).via (execXltRelocOldest (bits w 15 8))),
    (rHUC_CTRL, fun _ w _ s =>
      (((s.viaBit w 0 execHucClrCnt).viaBit w 1 execHucLearnNow).viaBit w 2 execHucZNow).viaBit w 3 execHucRestNow |>.chargeEval),
    (rPSQ_CTRL, fun _ w _ s => ((s.viaBit w 0 execPsqClrCnt).via (execPsqRstoPulse (bits w 3 2))).viaBit w 1 execPsqOff),
    (rDRG_CTRL, fun _ w _ s => s.viaBit w 0 execDrgClrCnt),
    (rPSC_CTRL, fun _ w o s =>
      let s := s.viaBit w 4 execPscClrCnt
      let s := if o.flag PSC_CTRL_HOLD_REQ = bit w 0 then s else s.via (if bit w 0 then execHoldRequest else execHoldRelease)
      let s := s.viaBit w 3 execThermAck
      match bits w 11 8 with
      | 4 => s.via execModeTargetRun
      | 8 => s.via execModeTargetService
      | 0 => s
      | _ => s.rejectMode),
    (rPSC_PAD, fun _ w _ s => s.via (execPadRelease (bits w 6 4))), (rDMC_CTRL, fun _ w _ s => s.viaBit w 0 execDmcClrCnt),
    (rDMC_SCRUB_CMD, fun _ w _ s => s.via (execDmcScrubGo w)), (rMPU_CTRL, fun _ w _ s => s.viaBit w 0 execMpuClrCnt),
    (rMPU_SCRUB_CMD, fun _ w _ s => s.via (execMpuScrubGo w)), (rMPU_DMA_REARM, fun _ w _ s => s.via (execMpuDmaRearm w)),
    (rCWP_PCFG, fun p _ o s => s.cwConfigured p (o.get CWP_PCFG_RATE p)),
    (rJNR_CTRL, fun _ w _ s => (s.viaBit w 0 execJnrClrCnt).via (execJnrWakeTx (bits w 7 4))),
    (rJNR_NSLICE, fun _ _ _ s => s.setUnbound .nodeSlice s.badNodeSlices), (rJNR_CFG, fun _ w _ s => s.via (execJnrCfgWrite w)),
    (rJNR_BIND_0, fun k w _ s => s.via (execJnrBindWrite k 0 w)), (rJNR_BIND_1, fun k w _ s => s.via (execJnrBindWrite k 1 w)),
    (rFCL_STATUS, fun _ w _ s => s.viaBit w 0 execFclCaptureClear), (rFCL_CTRL, fun _ w _ s => s.viaBit w 0 execFclClrCnt),
    (rMSM_CTRL, fun _ w _ s => (s.viaBit w 0 execMsmClrCnt).viaBit w 1 execMsmReportClr),
    (rMSM_WIN_ADDR, fun _ _ _ s => { s with ms := { s.ms with winPos := 0 } }), (rTHM_CTRL, fun _ w _ s => s.viaBit w 0 execThmClrCnt),
    (rEVR_CTRL, fun _ w _ s => s.viaBit w 1 execEvrQclr), (rFWS_CTRL, fun _ w _ s => s.viaBit w 0 execFwsClrCnt),
    (rFWC_CTRL, fun _ w _ s => s.viaBit w 0 execFwcClrCnt), (rMGI_CTRL, fun _ w _ s => s.viaBit w 0 execMgiTclr) ]

/-- The values of the retained fields of a register that the configuration record holds (R425). -/
def State.heldIn (s : State) (fs : List (Field × Nat × Nat)) : List Nat :=
  (fs.filter fun x => inRecord x.1).map fun x => s.get x.1 x.2.1 x.2.2

/-- An aligned 32-bit write of the window (R8 to R10): RSV bits are judged, fields set, actions taken, and a change of what the
configuration record holds asks for a commit (R425). -/
def State.writeWord (s : State) (addr w : Nat) : State :=
  let w := w % 2 ^ 32
  if (rFSQ_DQDLY.locate addr).isSome then
    let c := (addr - 0x01600000) / 0x2000
    { s with fl := { s.fl with partB := s.fl.partB.put addr w } }.setUnbound (.fsqPartB c) (s.mode != Mode.service)
  else
    let fs := fieldsAt addr
    if fs.isEmpty then s
    else
      let t : State := s.judgeRsv addr fs w
      let t : State := t.each fs fun x t => t.writeField x.1 x.2.1 x.2.2 w
      let t : State := match writeActs.findSome? fun e => (e.1.locate addr).map fun x => (e.2, x.1) with
        | some (f, i) => f i w s t
        | none => t
      if t.heldIn fs = s.heldIn fs then t else t.askCommit

end Sys2Proof.Machine
end

