-- ==== Sys2Proof/Machine/OpsMgmt.lean ====
section
/-!
DEFINITION. Management packets (chapter 16): packet and reply formats, what each opcode of Table 16.4 does.
Assumption log: DEDUCED (25, 54, 66, 67, 68); DESIGN CHOICE (60).
-/

namespace Sys2Proof.Machine

-- the packet (Table 16.1)

/-- Fields of the packet header. -/
def pkVer (b : List Nat) : Nat := field b 0 1
def pkFlags (b : List Nat) : Nat := field b 1 1
def pkOpcode (b : List Nat) : Nat := field b 2 2
def pkTag (b : List Nat) : Nat := field b 4 2
def pkLen (b : List Nat) : Nat := field b 6 2
def pkSlice (b : List Nat) : Nat := field b 8 1

/-- The parameters of a packet. -/
def pkParams (b : List Nat) : List Nat := (b.drop 16).take (pkLen b)

/-- The 12 bytes of a header with its HCRC. -/
def withHcrc (h : List Nat) : List Nat := h ++ le 4 (crc32 h)

/-- A packet of this node (R430) that acts for no slice. -/
def packetOf (opc tag : Nat) (params : List Nat) : List Nat :=
  let b := withHcrc ([1, 4] ++ le 2 opc ++ le 2 tag ++ le 2 params.length ++ zeros 4) ++ params
  b ++ le 4 (crc32 b)

/-- The bytes of a reply (R431, Table 16.2): opcode and tag are 0 after Header CRC Error; only Success, Queued and the Aborted answer of a
ticket query carry parameters. -/
def replyBytes (p : List Nat) (st : Nat) (body : List Nat) : List Nat :=
  let echo := if st = 0x10 then zeros 4 else le 2 (pkOpcode p) ++ le 2 (pkTag p)
  let b := withHcrc ([1, 1 + pkFlags p / 4 % 2 * 4] ++ echo ++ le 2 st ++ le 2 body.length ++ [pkSlice p, 0]) ++ body
  b ++ le 4 (crc32 b)

-- replies

/-- Frames of a management reply: pieces of 4,096 bytes with FIRST and LAST, OFFSET counting bytes (R438). -/
def State.sendReplyFrames (s : State) (node tag : Nat) (bytes : List Nat) : State :=
  let n := (bytes.length + 4095) / 4096
  s.each (List.range n) fun i s =>
    s.sendFrame (s.frameOf 0x41 node tag (bNat (i == 0) + 2 * bNat (i + 1 == n)) (4096 * i) ((bytes.drop (4096 * i)).take 4096))

/-- A packet is answered over its carrier (R436 to R438). -/
def State.answer (s : State) (i : MgIn) (st : Nat) (body : List Nat) : State :=
  let p := i.p
  let show_ (s : State) : State :=
    s.put (.reply p.carrier p.origin (if st = 0x10 then 0 else pkTag p.bytes) (if st = 0x10 then 0 else pkOpcode p.bytes) st body)
  if p.carrier = 0 then
    if (s.ctx p.origin).isNone then s
    else if !i.replyOk then s.complete p.origin .dataTransferError
    else (show_ s).complete p.origin .success st (20 + body.length)
  else if p.carrier = 1 then show_ s
  else
    let b := replyBytes p.bytes st body
    let node := p.origin % 4096
    let tag := p.origin / 4096
    ((show_ s).keepAnswer { src := node, tag := tag, status := .success, dw0 := 0, dw1 := 0, reply := some b, since := s.now }).sendReplyFrames node tag b

-- register access by packets

/-- The bits of a register that a masked write writes as 0 where its mask is 0: WO and RW1C bits (Table 16.4). -/
def oneShotBits (addr : Nat) : Nat :=
  (fieldsAt addr).foldl (fun (n : Nat) (x : Field × Nat × Nat) =>
    if x.1.acc = .wo ∨ x.1.acc = .rw1c then n ||| (2 ^ x.1.width - 1) * 2 ^ x.1.lsb else n) 0

/-- Write Register: bits with mask 1 take the value; the others keep the value read, but for WO and RW1C bits. -/
def State.maskWrite (s : State) (addr value mask : Nat) : State :=
  let keep := (2 ^ 32 - 1 - mask) &&& (2 ^ 32 - 1 - oneShotBits addr)
  s.writeWord addr ((value &&& mask) ||| (s.viewWord addr &&& keep))

/-- A field is written as a packet writes it, and nothing else of its register. -/
def State.fieldWrite (s : State) (f : Field) (v : Nat) (i : Nat := 0) (j : Nat := 0) : State :=
  s.maskWrite (f.reg.at i j) (v % 2 ^ f.width * 2 ^ f.lsb) ((2 ^ f.width - 1) * 2 ^ f.lsb)

/-- Registers written whole, in order, from the words of a parameter list. -/
def State.writeWords (s : State) (l : List Nat) (p : List Nat) (o : Nat) : State :=
  (l.foldl (fun (a : Nat × State) r => (a.1 + 4, a.2.writeWord r (field p a.1 4))) (o, s)).2

/-- The words of registers as a reply carries them. -/
def State.words (s : State) (l : List Nat) : List Nat := (l.map fun a => le 4 (s.viewWord a)).flatten

/-- A register of one instance. -/
def Reg.one (r : Reg) : Nat := r.at 0 0

/-- Registers read one after another (R8, R434): an address not aligned to 4 bytes reads 0. -/
def State.readMany (s : State) (a : Nat) : Nat → List Nat × State
  | 0 => ([], s)
  | n + 1 =>
    let (v, s) := s.readAt 4 a
    let (l, s) := s.readMany (a + 4) n
    (le 4 v ++ l, s)

-- the opcodes

/-- An opcode of Table 16.4: its code; whether the fabric may carry it; whether it changes device state; whether it charges the slice of its
header; the check of its parameters; the largest reply; and what it does with packet, parameters and slice. -/
structure MgOp where
  code : Nat
  fabric : Bool := false
  change : List Nat → Bool := fun _ => true
  charge : Bool := false
  ok : State → List Nat → Bool
  size : List Nat → Nat := fun _ => 0
  run : MgIn → List Nat → Nat → State → MgWait × State

/-- An opcode that only reads, with no parameters and a reply of fixed length. -/
def readOp (code : Nat) (fabric : Bool) (n : Nat) (f : State → List Nat) : MgOp :=
  { code := code, fabric := fabric, change := fun _ => false, ok := fun _ p => p.isEmpty, size := fun _ => n,
    run := fun _ _ _ s => (.done 0 (f s), s) }

/-- A change that succeeds at once with nothing to tell. -/
def changeOp (code : Nat) (ok : State → List Nat → Bool) (f : List Nat → State → State) : MgOp :=
  { code := code, ok := ok, run := fun _ p _ s => (.done 0 [], f p s) }

/-- Bytes from `o` to the end of `n` are 0. -/
def rsv (p : List Nat) (o n : Nat) : Bool := field p o n == 0

-- identity and registers

/-- 0x0100. -/
def State.identityBody (s : State) : List Nat :=
  le 4 (s.viewWord rGLB_IDENT.one) ++ le 8 Config.serial ++ [s.slotRun, 0, 0, 0] ++ le 8 (s.slotRev 1) ++ le 8 (s.slotRev 2)

/-- 0x0101 (R443, Table 16.5). -/
def State.configReport (s : State) : List Nat :=
  let failed := (List.range 64).foldl (fun n c => n + 2 ^ c * bNat (s.chFailed c)) 0
  let live := (List.range 4).foldl (fun n d => n + 2 ^ d * bNat (s.chLive d)) 0
  padTo (le 4 (s.viewWord rGLB_IDENT.one) ++ le 4 (s.viewWord rGLB_CONFIG_INFO.one) ++ le 4 (s.zonedPool / 16) ++ le 4 (s.zonedReserved / 16)
    ++ le 4 (s.xl.gib * 2 ^ 10) ++ le 4 (s.convLbas / 2 ^ 18) ++ le 4 (s.get BPL_SIZE 1) ++ le 2 (s.get HUC_DUMP_N_H)
    ++ [s.get SLM_CFG_ACTIVE_LOG2, live] ++ le 8 failed ++ le 8 Config.serial) 64

def opGetIdentity : MgOp := readOp 0x0100 true 32 State.identityBody
def opGetConfigurationReport : MgOp := readOp 0x0101 true 64 State.configReport

/-- The Identify data a packet asks for (Table 16.4), as the privileged port's controller gives it. -/
def State.packetIdentify (s : State) (p : List Nat) : Ident × State := s.identify s.privPort (field p 4 1) (field p 5 1) (field p 0 4)

def opGetNamespaceIdentify : MgOp :=
  { code := 0x0102, fabric := true, change := fun _ => false, size := fun _ => 4096,
    ok := fun s p => p.length == 8 && rsv p 6 2 && (match s.packetIdentify p with | (.page _, _) => true | (.error _, _) => false),
    run := fun _ p _ s =>
      match s.packetIdentify p with
      | (.page b, s) => (.done 0 b, s)
      | (.error _, s) => (.done 0x15 [], s) }

def opReadRegisters : MgOp :=
  { code := 0x0103, change := fun _ => false, size := fun p => 4 * field p 4 2,
    ok := fun _ p => p.length == 8 && rsv p 6 2 && decide (1 ≤ field p 4 2) && decide (field p 4 2 ≤ 256),
    run := fun _ p _ s => let (b, s) := s.readMany (field p 0 4) (field p 4 2); (.done 0 b, s) }

def opWriteRegister : MgOp :=
  changeOp 0x0104 (fun _ p => p.length == 12) fun p s =>
    if field p 0 4 % 4 = 0 then s.maskWrite (field p 0 4) (field p 4 4) (field p 8 4) else s

def opCommitConfiguration : MgOp :=
  { code := 0x0200, ok := fun _ p => p.isEmpty, size := fun _ => 8, run := fun _ _ _ s => (.commit false, s.askCommitNow) }

def opGetRecordStatus : MgOp :=
  readOp 0x0201 true 16 fun s =>
    le 4 (s.viewWord rFWC_CFGREC.one) ++ le 8 (match s.cfgInUse with | some c => c.seq | none => 0) ++ le 4 s.recordBytes

-- slices

def opSetSliceCount : MgOp :=
  changeOp 0x0300 (fun _ p => p.length == 4 && rsv p 1 3 && decide (field p 0 1 ≤ 8)) fun p s => s.fieldWrite SLM_CFG_SLICE_LOG2 (field p 0 1)

def opBindPasid : MgOp :=
  changeOp 0x0301 (fun _ p => p.length == 8 && decide (field p 0 2 < 4096) && decide (field p 3 1 ≤ 1) && decide (field p 4 4 < 2 ^ 20)) fun p s =>
    s.writeWord (rSLM_PMAP.at (field p 0 2) 0) (field p 4 4 + field p 2 1 * 2 ^ 20 + field p 3 1 * 2 ^ 31)

def opSetAccessBitmap : MgOp :=
  changeOp 0x0302 (fun _ p => p.length == 132 && rsv p 1 3) fun p s =>
    s.writeWords ((List.range 32).map fun w => rSLM_NSACC.at (field p 0 1) w) p 4

/-- 0x0303: the reply of a request for a slice under reset waits for the end of that reset. -/
def opResetSlice : MgOp :=
  { code := 0x0303, size := fun _ => 4, ok := fun s p => p.length == 4 && rsv p 1 3 && decide (field p 0 1 < s.sliceCount),
    run := fun _ p _ s => (.slice (field p 0 1), s.sliceReset (field p 0 1)) }

def opSetSliceBudgets : MgOp :=
  changeOp 0x0304 (fun _ p => p.length == 40 && rsv p 1 3) fun p s =>
    s.writeWords ((List.range 9).map fun w => rSLM_BUDGET.at (field p 0 1) w) p 4

def opGetSliceStatus : MgOp :=
  { code := 0x0305, change := fun _ => false, size := fun _ => 20, ok := fun _ p => p.length == 4 && rsv p 1 3,
    run := fun _ p _ s =>
      (.done 0 (s.words ([rSLM_GEN, rSLM_RSTAT, rSLM_DIRTY, rSLM_ABORT, rTLG_LATE_SLICE].map fun r => r.at (field p 0 1) 0)), s) }

-- waypoints and routes

/-- The staging registers in the order of packet 0x0400. -/
def stageRegs : List Nat :=
  [rWPT_STAGE_KEY_LO.one, rWPT_STAGE_KEY_HI.one, rWPT_STAGE_KEY_2.one, rWPT_STAGE_KEY_3.one, rWPT_STAGE_MASK_LO.one, rWPT_STAGE_MASK_HI.one,
   rWPT_STAGE_MASK_2.one, rWPT_STAGE_MASK_3.one, rWPT_STAGE_RES.one]

/-- 0x0400: a command that R112 rejects gets Condition Not Met; WRITE and INSERT stage the packet's entry first. -/
def opWaypointCommand : MgOp :=
  { code := 0x0400, size := fun p => if field p 0 1 = 1 then 36 else 0,
    ok := fun _ p => p.length == 40 && rsv p 1 1 && decide (1 ≤ field p 0 1) && decide (field p 0 1 ≤ 4) && decide (field p 2 2 < 4096),
    run := fun _ p _ s =>
      let op := field p 0 1
      let i := field p 2 2
      let full := match s.wpt.rows.look 4095 with | some e => e.valid | none => false
      if s.wptBusy || (op == 3 && full) then (.done 5 [], s.wptReject)
      else if op = 1 then
        let s := s.wptDoRead i
        (.done 0 (s.words stageRegs), s)
      else if op = 4 then (.done 0 [], s.wptDoDelete i)
      else
        let s := s.writeWords stageRegs p 4
        (.done 0 [], if op = 2 then s.wptDoWrite i else s.wptDoInsert i) }

def opSetRoute : MgOp :=
  changeOp 0x0401 (fun _ p => p.length == 16 && rsv p 1 3 && decide (field p 0 1 < 64)) fun p s =>
    s.writeWords ([rWPT_ROUTE_CHLO, rWPT_ROUTE_CHHI, rWPT_ROUTE_CFG].map fun r => r.at (field p 0 1) 0) p 4

def opSetProfile : MgOp :=
  changeOp 0x0402 (fun _ p => p.length == 24 && rsv p 1 3 && decide (field p 0 1 < 8)) fun p s =>
    s.writeWords ([rWPT_PMASK_LO, rWPT_PMASK_HI, rWPT_PMASK_2, rWPT_PMASK_3, rWPT_PDEF].map fun r => r.at (field p 0 1) 0) p 4

/-- The profile field of an NSID: eight to a register (R108). -/
def nsProfField (n : Nat) : Field :=
  [WPT_NSPROF_P0, WPT_NSPROF_P1, WPT_NSPROF_P2, WPT_NSPROF_P3, WPT_NSPROF_P4, WPT_NSPROF_P5, WPT_NSPROF_P6, WPT_NSPROF_P7].getD (n % 8) WPT_NSPROF_P0

def opSetNamespaceProfile : MgOp :=
  changeOp 0x0403 (fun _ p => p.length == 4 && rsv p 3 1 && decide (1 ≤ field p 0 2) && decide (field p 0 2 ≤ 1024) && decide (field p 2 1 < 8)) fun p s =>
    s.fieldWrite (nsProfField (field p 0 2 - 1)) (field p 2 1) ((field p 0 2 - 1) / 8)

-- the pack

def opGetPackStatus : MgOp :=
  readOp 0x0500 true 36 fun s =>
    s.words [rHUC_STATUS.one, rHUC_ENERGY.one, rHUC_EST.one, rHUC_CAP.one, rHUC_UNC.one, rHUC_PACK_V.one, rHUC_PACK_I.one, rHUC_PACK_Z.one, rHUC_DUMP.one]

def opReadPackHistory : MgOp :=
  { code := 0x0501, change := fun _ => false, ok := fun _ p => p.isEmpty, size := fun _ => 65535,
    run := fun _ _ _ s => (if s.flag HUC_STATUS_PRESENT then .done 0 s.packPage else .done 0x21 [], s) }

def opSetCharging : MgOp :=
  changeOp 0x0502 (fun _ p => p.length == 4 && rsv p 1 3 && decide (field p 0 1 ≤ 1)) fun p s => s.fieldWrite HUC_CTRL_CHG_DIS (field p 0 1)

-- tickets

/-- The work of a ticket is asked for (R444, Table 16.6): it starts at once or is queued; none when its kind's queue is full.  With the state
comes the number of requests of the kind that wait. -/
def State.askWork (s : State) (n kind ch start len : Nat) : Option (State × Nat) :=
  let t := some n
  if kind = 1 then
    if s.hu.zTicket.isSome then none
    else
      let s := { s with hu := { s.hu with zTicket := t } }
      some (if s.zStepOk then s.startZStep else { s with hu := { s.hu with zHeld := true } }, 1)
  else if kind = 2 then
    if s.hu.learnTicket.isSome then none
    else
      let s := { s with hu := { s.hu with learnTicket := t } }
      some (if s.learnOk then s.startLearn else { s with hu := { s.hu with learnHeld := true } }, 1)
  else if kind = 3 then
    if s.hu.restTicket.isSome then none
    else
      let s := { s with hu := { s.hu with restTicket := t } }
      some (if s.forcedOk && s.gauge != gsForced then s.forceRest else { s with hu := { s.hu with forceHeld := true } }, 1)
  else if kind = 4 then
    let r : SlotReq := { ch := ch, die := none, cw := none, ticket := t, since := s.now, deferredSince := none }
    let now := s.fl.slots.isEmpty && s.fl.slotRun.isNone && s.slotGap
    let s := s.askSlot r
    let s := if now then State.arbitrate 1 [r] s else s
    some (s, s.fl.slots.length)
  else if kind = 5 then
    if (s.mg.tickets.filter fun e => e.1 != n && e.2.kind == 5 && e.2.ch == ch && decide (e.2.state ≤ 2)).isEmpty then
      if (s.mode == .service || s.chIdle ch) && s.inModes [.run, .hold, .service] && s.busFree ch && !(s.chan ch).fullRunning then
        some (s.startFull ch t, 1)
      else some (s, 1)
    else none
  else if kind = 6 then
    let s := s.selfTest t
    some (s, s.cd.testsWaiting.length)
  else if kind = 7 then
    if (s.dchan ch).scrub.isSome && decide (3 ≤ (s.dchan ch).scrubQ.length) then none
    else
      let s := s.askScrub ch { start := start, len := len, since := 0, ticket := t }
      some (s, (s.dchan ch).scrubQ.length)
  else if kind = 8 then
    if s.mm.scrub.isSome && s.mm.scrubQ.isSome then none
    else some (s.askSramScrub { first := 0, last := 351, corrected := 0, bad := 0, since := 0, ticket := t }, 1)
  else
    if s.xl.ticketNext.isSome then none
    else
      let go := s.xl.run.isNone && s.inModes [.run, .service] && s.ckptOpen
      some (if go then s.startCheckpoint t else { s with xl := { s.xl with ticketNext := t } }, 1)

/-- The reply of a request that has got a ticket: Success when its work runs, Queued while it waits; the queue position of work that runs is 0. -/
def State.ticketReply (s : State) (n place : Nat) : MgWait :=
  let st := match s.mg.tickets.look n with | some t => t.state | none => 1
  .done (bNat (st == 1)) (le 2 n ++ [st, if st = 1 then place else 0])

/-- 0x0600 (R444): Refused when no ticket is free or the kind's queue is full, and then nothing is recorded. -/
def opRequestSelfTest : MgOp :=
  { code := 0x0600, size := fun _ => 4,
    ok := fun _ p =>
      let k := field p 0 1
      let ch := field p 1 1
      rsv p 2 2 && decide (1 ≤ k) && decide (k ≤ 9) && p.length == (if k = 7 then 16 else 4)
        && (if k = 4 ∨ k = 5 then decide (ch < 64) else if k = 7 then decide (ch < 4) else true),
    run := fun _ p _ s =>
      let k := field p 0 1
      let ch := field p 1 1
      if (k = 7 ∧ !s.chLive ch) ∨ ((k = 4 ∨ k = 5) ∧ s.chFailed ch) then (.done 5 [], s)
      else match s.newTicket k ch (field p 4 8) (field p 12 4) with
        | none => (.done 3 [], s)
        | some (n, t) =>
          match t.askWork n k ch (field p 4 8) (field p 12 4) with
          | none => (.done 3 [], s)
          | some (t, place) => (t.ticketReply n place, t) }

/-- 0x0601 (R445): an ended ticket is freed by its query; one that was aborted answers Aborted with its record. -/
def opQueryTicket : MgOp :=
  { code := 0x0601, fabric := true, change := fun _ => false, size := fun _ => 20,
    ok := fun s p => p.length == 4 && rsv p 2 2 && s.mg.tickets.has (field p 0 2),
    run := fun _ p _ s =>
      let n := field p 0 2
      match s.mg.tickets.look n with
      | none => (.done 0x15 [], s)
      | some t =>
        let u := if t.over then { s with mg := { s.mg with tickets := s.mg.tickets.del n } } else s
        (.done (if t.state = 6 then 4 else 0) (ticketBytes n t), u) }

def opCancelTicket : MgOp :=
  { code := 0x0602, ok := fun s p => p.length == 4 && rsv p 2 2 && s.mg.tickets.has (field p 0 2),
    run := fun _ p _ s =>
      match s.mg.tickets.look (field p 0 2) with
      | some t => if t.state = 1 then (.done 0 [], s.cancelTicket (field p 0 2)) else (.done 5 [], s)
      | none => (.done 0x15 [], s) }

-- log, events, reports

/-- Records of the log ring from one position on, as held (Table 16.4); a position never written reads as zeros. -/
def State.ringBytes (s : State) (first n : Nat) : List Nat :=
  ((List.range n).map fun i => match s.ms.ring.look ((first + i) % 32768) with | some r => recBytes r | none => zeros 32).flatten

def opReadLog : MgOp :=
  { code := 0x0700, fabric := true, change := fun _ => false, size := fun p => 4 + 32 * field p 2 2,
    ok := fun _ p => p.length == 4 && decide (field p 0 2 < 32768) && decide (1 ≤ field p 2 2) && decide (field p 2 2 ≤ 2047),
    run := fun _ p _ s => (.done 0 (s.words [rMSM_LOG_HEAD.one] ++ s.ringBytes (field p 0 2) (field p 2 2)), s) }

def opWriteAnnotation : MgOp :=
  changeOp 0x0701 (fun _ p => p.length == 12 && decide (0xF000 ≤ field p 0 2) && rsv p 10 2) fun p s =>
    s.logRec (field p 0 2) (field p 2 2) (field p 4 2) (field p 6 2) (field p 8 2) 4

/-- 0x0702: RETAIN 0 acts as Retain Asynchronous Event clear (R390). -/
def opReadEventQueue : MgOp :=
  { code := 0x0702, change := fun p => field p 0 1 == 0, size := fun _ => 16 + 32 * 256,
    ok := fun _ p => p.length == 4 && rsv p 1 3 && decide (field p 0 1 ≤ 1),
    run := fun _ p _ s =>
      let b := s.eventPage
      (.done 0 b, if field p 0 1 = 1 then s else s.pageRead s.privPort 0xC0 0 0 b.length) }

def opReadDirtyEpochReport : MgOp :=
  { code := 0x0703, change := fun _ => false, size := fun p => 64 + 16 * field p 2 2,
    ok := fun _ p => p.length == 4 && decide (1 ≤ field p 2 2) && decide (field p 2 2 ≤ 4000),
    run := fun _ p _ s =>
      let b := s.reportPage
      (.done 0 (b.take 64 ++ (b.drop (64 + 16 * field p 0 2)).take (16 * field p 2 2)), s) }

def opClearDirtyEpochReport : MgOp := changeOp 0x0704 (fun _ p => p.isEmpty) fun _ s => s.clearReport

def opReadLateFaultRecords : MgOp :=
  { code := 0x0705, change := fun _ => false, size := fun p => 16 + 32 * field p 2 2,
    ok := fun _ p => p.length == 4 && decide (1 ≤ field p 2 2) && decide (field p 2 2 ≤ 2047),
    run := fun _ p _ s => (.done 0 (s.lateHeader ++ (((s.late.drop (field p 0 2)).take (field p 2 2)).map lateBytes).flatten), s) }

-- the fabric

def opSetNode : MgOp :=
  changeOp 0x0800 (fun _ p => p.length == 8 && rsv p 5 3 && decide (field p 0 2 < 4096) && decide (field p 4 1 ≤ 1)) fun p s =>
    s.writeWord rJNR_CFG.one (field p 0 2 + field p 2 2 * 2 ^ 12 + field p 4 1 * 2 ^ 28)

def opSetNodeSlice : MgOp :=
  changeOp 0x0801 (fun _ p => p.length == 8 && rsv p 5 3 && decide (field p 1 1 ≤ 1) && decide (field p 2 2 < 4096)) fun p s =>
    s.writeWord (rJNR_NSLICE.at (field p 0 1) 0) (field p 2 2 + field p 4 1 * 2 ^ 12 + field p 1 1 * 2 ^ 31)

/-- A binding is made by the writes of its two words, the second word first. -/
def State.bindNow (s : State) (p : List Nat) : State :=
  let k := field p 0 1
  let s := s.writeWord (rJNR_BIND_1.at k 0) (field p 4 2 + (field p 6 2 - 1) * 2 ^ 12)
  s.writeWord (rJNR_BIND_0.at k 0) (field p 2 2 - 1 + field p 1 1 * 2 ^ 10 + 2 ^ 31)

/-- 0x0802 (R375): the remote namespace's Identify data is read first; without a path or a free tag the packet fails. -/
def opBindNamespace : MgOp :=
  { code := 0x0802,
    ok := fun _ p => p.length == 8 && decide (field p 0 1 < 64) && (field p 1 1 == 1 || field p 1 1 == 2) && decide (1 ≤ field p 2 2)
      && decide (field p 2 2 ≤ 1024) && decide (field p 4 2 < 4096) && decide (1 ≤ field p 6 2) && decide (field p 6 2 ≤ 1024),
    run := fun _ p _ s =>
      let k := field p 0 1
      let e : SqEntry := { opc := 0, cid := 0, nsid := 0, dw10 := 0, dw11 := 0, dw12 := 0, dw13 := 0, dw14 := 0, dw15 := 0 }
      let r : Remote := { for_ := .identify k, dst := field p 4 2, type := 0x40, entry := e,
                          data := packetOf 0x0102 k (le 4 (field p 6 2) ++ [0x11, 0, 0, 0]), attempts := 1, since := s.now }
      match s.newRequest r with
      | some s => (.remote k, s)
      | none => (.done 0x23 [], s.raise 135) }

def opUnbindNamespace : MgOp :=
  changeOp 0x0803 (fun _ p => p.length == 4 && rsv p 1 3 && decide (field p 0 1 < 64)) fun p s =>
    let k := field p 0 1
    let s := s.fieldWrite JNR_BIND_0_V 0 k
    { s with fb := { s.fb with remoteId := s.fb.remoteId.del k } }

/-- 0x0804 (R379): a copy starts, or waits while 16 run. -/
def opPeerZoneCopy : MgOp :=
  { code := 0x0804, charge := true, size := fun _ => 4,
    ok := fun s p => p.length == 20 && rsv p 10 2 && decide (field p 8 2 < 4096) && decide (1 ≤ field p 12 4) && decide (field p 12 4 ≤ 1024)
      && (match s.nspace (field p 0 4) with | some n => n.zoned && decide (field p 4 4 < n.nsze / zoneSpan) | none => false),
    run := fun _ p slice s =>
      match s.newTicket 0x80 0 0 0 with
      | none => (.done 3 [], s)
      | some (n, s) =>
        let first := field p 4 4 * zoneSpan
        let c : Copy := { ticket := n, slice := slice, nsid := field p 0 4, zone := field p 4 4, node := field p 8 2, rnsid := field p 12 4,
                          rslba := field p 16 4 * zoneSpan, first := first, next := first, stop := first, inflight := 0, committed := 0,
                          running := false }
        let s := { s with fb := { s.fb with copies := s.fb.copies.put s.fb.nextCopy c, nextCopy := s.fb.nextCopy + 1 } }
        let s := s.startCopies
        (s.ticketReply n (s.fb.copies.filter fun e => !e.2.running).length, s) }

def opGetFabricStatus : MgOp :=
  readOp 0x0805 true 1028 fun s => s.words (rJNR_STATUS.one :: (List.range 256).map fun n => rJNR_PATH.at n 0)

-- firmware

/-- The header of the image a packet's data or a slot holds; a carrier does not tell it, for the manual gives it no layout: it is free. -/
def State.headerOf (s : State) (i : MgIn) : ImageHeader × State :=
  match i.hdr with
  | some h => (h, s)
  | none =>
    let (v, s) := s.free
    ({ part := v % 2 ^ 16, good := bit v 16, cfgVerMax := bits v 24 17, slot := bits v 26 25, rev := bits v 90 27 }, s)

/-- 0x0900 (R416, R441): data goes to the image buffer; the boot ROM takes the slot from the chunk at offset 0, erases it, and programs each
chunk as it arrives. -/
def opDownloadFirmware : MgOp :=
  { code := 0x0900, ok := fun _ p => decide (4 < p.length) && imageFits (field p 0 4) (p.length - 4),
    run := fun i p _ s =>
      if s.fw.bootRom then
        if field p 0 4 != 0 then (.done (if s.fw.romSlot = 0 then 5 else 0) [], s)
        else
          let (h, s) := s.headerOf i
          if h.slot = 0 ∨ 2 < h.slot then (.done 0x22 [], s)
          else
            let s := s.putSlot h.slot { cfgVerMax := h.cfgVerMax, rev := h.rev, good := false }
            (.done 0 [], { s with fw := { s.fw with romSlot := h.slot } })
      else if s.fw.prog.isSome then (.done 5 [], s)
      else (.done 0 [], s.placeImage (field p 0 4) (p.drop 4)) }

/-- Commit in boot ROM mode (R441, R420): the slot is checked, the selector names it, and BOOT starts again at step 1. -/
def State.romCommit (s : State) (slot : Nat) (h : ImageHeader) : MgWait × State :=
  if h.part != 0x6400 || !h.good then (.done 0x22 [], s)
  else
    let s := s.putSlot slot { cfgVerMax := h.cfgVerMax, rev := h.rev, good := true }
    let s := s.writeSelector slot (if slot = 1 then 2 else 1) false 0
    let s := { s with fw := { s.fw with romSlot := 0 }, pw := { s.pw with recover := false } }
    match s.fw.boot with
    | some e => (.done 0 [], s.bootSteps { e with goodSlots := slot :: e.goodSlots.filter (· != slot) })
    | none => (.done 0 [], s)

/-- 0x0901 (R416, R418, R441). -/
def opCommitFirmware : MgOp :=
  { code := 0x0901, ok := fun _ p => p.length == 4 && rsv p 2 2 && decide (field p 0 1 ≤ 2) && decide (field p 1 1 ≤ 3),
    run := fun i p _ s =>
      let slot := field p 0 1
      let action := field p 1 1
      let (h, s) := s.headerOf i
      if s.fw.bootRom then
        if s.fw.romSlot = 0 then (.done 5 [], s) else if slot = 0 then s.romCommit s.fw.romSlot h else s.romCommit slot h
      else if s.fw.prog.isSome || s.fw.activateDue.isSome || s.fw.activating.isSome then (.done 5 [], s)
      else match s.commitRefusal slot action h with
        | some .invalidFirmwareImage => (.done 0x22 [], s)
        | some _ => (.done 0x15 [], s)
        | none => (.firmware, s.beginSlot slot action none h) }

def opGetSlotInfo : MgOp :=
  readOp 0x0902 true 24 fun s => s.words [rFWS_STATUS.one, rFWS_SEL_SEQ.one] ++ le 8 (s.slotRev 1) ++ le 8 (s.slotRev 2)

-- power and modes

def opAcknowledgeThermalShutdown : MgOp :=
  { code := 0x0A00, ok := fun _ p => p.isEmpty,
    run := fun _ _ _ s => match s.thermAck with | (true, s) => (.done 0 [], s) | (false, s) => (.done 5 [], s) }

/-- 0x0A01: the reply is sent when the request is taken (R307). -/
def opPowerOff : MgOp := changeOp 0x0A01 (fun _ p => p.isEmpty) fun _ s => s.offRequest

/-- 0x0A02: the reply waits for the end of the transition; a request that is ignored gets Condition Not Met (R305, R306). -/
def opSetMode : MgOp :=
  { code := 0x0A02,
    ok := fun _ p => p.length == 4 && rsv p 1 3 && (field p 0 1 == 3 || field p 0 1 == 4 || field p 0 1 == 8),
    run := fun _ p _ s =>
      let m := field p 0 1
      if m = 3 then (.mode 3, s.holdOn)
      else if m = 4 then
        let s := s.holdOff
        if s.mode == .service then
          let t := s.targetRun
          (if t.mode == .service then .done 5 [] else .mode 4, t)
        else (.mode 4, s)
      else
        let t := s.targetService
        (if t.mode == .service && s.mode != .service then .mode 8 else .done 5 [], t) }

def opGetThermalAndPower : MgOp :=
  readOp 0x0A03 true 24 fun s =>
    s.words [rTHM_STATUS.one, rTHM_JMAX.one, rTHM_FLASH.one, rPSC_STATUS.one, rPSC_PWR_NOW.one, rGLB_MODE_STATUS.one]

-- raw media

/-- Channel, die and block of the raw opcodes: the die is present. -/
def State.rawPlace (s : State) (p : List Nat) : Bool :=
  decide (field p 0 1 < 64) && decide (field p 1 1 < 32) && s.get FSQ_DIE_STATE (field p 0 1) (field p 1 1) != dieAbsent && decide (field p 2 2 < 1088)

/-- Wordline, plane, page and media mode of a raw page. -/
def rawPage (p : List Nat) : Bool :=
  decide (field p 4 2 < 1024) && decide (field p 6 1 < 4) && decide (field p 8 1 < 3) && decide (field p 7 1 < (mediaOf (field p 8 1)).bitsPer)

/-- Bytes a raw read returns: a page, or bursts of 2,048 × bits + 36 bytes (R189). -/
def rawSize (p : List Nat) : Nat := if field p 9 1 = 0 then 18432 else field p 11 1 * (2048 * field p 9 1 + 36)

/-- 0x0F00 (R442). -/
def opRawRead : MgOp :=
  { code := 0x0F00, change := fun _ => false, size := rawSize,
    ok := fun s p =>
      let r := field p 9 1
      p.length == 12 && s.rawPlace p && rawPage p && (r == 0 || (decide ((mediaOf (field p 8 1)).bitsPer ≤ r) && (r == 3 || r == 4 || r == 5)))
        && (r == 0 || decide (1 ≤ field p 11 1) && decide (field p 10 1 + field p 11 1 ≤ 9) && decide (rawSize p ≤ 65535)),
    run := fun i p _ s =>
      match i.raw with
      | some b => (.done 0 (padTo b (rawSize p)), s)
      | none => let (b, s) := s.openPage (rawSize p) []; (.done 0 b, s) }

/-- The key of a staged page: plane wordline, then page. -/
def rawKey (p : List Nat) : Nat := ((((field p 0 1 * 32 + field p 1 1) * 2048 + field p 2 2) * 1024 + field p 4 2) * 4 + field p 6 1) * 4 + field p 7 1

/-- 0x0F01 (R442): a page is staged; with the last missing page of its plane wordline the program is issued, unchecked. -/
def opRawProgram : MgOp :=
  changeOp 0x0F01 (fun s p => p.length == 18444 && rsv p 9 3 && s.rawPlace p && rawPage p) fun p s =>
    let k := rawKey p
    let n := (mediaOf (field p 8 1)).bitsPer
    let staged := s.mg.staged.put k (p.drop 12)
    if (List.range n).all fun g => staged.has (k / 4 * 4 + g) then
      let s := { s with mg := { s.mg with staged := staged.keep fun x _ => x / 4 != k / 4 } }
      let o : DieOp := { DieOp.base with kind := .program, block := field p 2 2, wl := field p 4 2, plane := field p 6 1,
                                         media := mediaOf (field p 8 1), time := s.now, needsTokens := false, owner := .raw }
      (s.queueOp (field p 0 1) (field p 1 1) o).unbind (.rawBlock (field p 0 1) (field p 1 1) (field p 2 2))
    else { s with mg := { s.mg with staged := staged } }

/-- 0x0F02 (R442). -/
def opRawErase : MgOp :=
  changeOp 0x0F02 (fun s p => p.length == 4 && s.rawPlace p) fun p s =>
    let o : DieOp := { DieOp.base with kind := .erase, block := field p 2 2, time := s.now, needsTokens := false, owner := .raw }
    (s.queueOp (field p 0 1) (field p 1 1) o).unbind (.rawBlock (field p 0 1) (field p 1 1) (field p 2 2))

/-- 0x0F03 (R207). -/
def opSetBadColumnRange : MgOp :=
  changeOp 0x0F03 (fun _ p => p.length == 8 && decide (field p 0 1 < 64) && decide (field p 1 1 < 32) && decide (field p 2 1 < 4)) fun p s =>
    let v := field p 4 4
    let s := s.setUnbound (.rsv (rSDF_BADCOL_DATA.at (field p 0 1) 0)) (bits v 30 24 != 0)
    s.putBadCol (field p 0 1) (field p 1 1) (field p 2 1) (field p 3 1) (bits v 17 0) (bits v 23 18 + 1) (bit v 31)

/-- 0x0F04 (R174). -/
def opDeclareDieFailed : MgOp :=
  changeOp 0x0F04 (fun s p => p.length == 4 && rsv p 2 2 && s.rawPlace (p.take 2)) fun p s => s.failDie (field p 0 1) (field p 1 1)

/-- Table 16.4. -/
def mgOps : List MgOp :=
  [opGetIdentity, opGetConfigurationReport, opGetNamespaceIdentify, opReadRegisters, opWriteRegister, opCommitConfiguration, opGetRecordStatus,
   opSetSliceCount, opBindPasid, opSetAccessBitmap, opResetSlice, opSetSliceBudgets, opGetSliceStatus, opWaypointCommand, opSetRoute, opSetProfile,
   opSetNamespaceProfile, opGetPackStatus, opReadPackHistory, opSetCharging, opRequestSelfTest, opQueryTicket, opCancelTicket, opReadLog,
   opWriteAnnotation, opReadEventQueue, opReadDirtyEpochReport, opClearDirtyEpochReport, opReadLateFaultRecords, opSetNode, opSetNodeSlice,
   opBindNamespace, opUnbindNamespace, opPeerZoneCopy, opGetFabricStatus, opDownloadFirmware, opCommitFirmware, opGetSlotInfo,
   opAcknowledgeThermalShutdown, opPowerOff, opSetMode, opGetThermalAndPower, opRawRead, opRawProgram, opRawErase, opSetBadColumnRange,
   opDeclareDieFailed]

/-- The entry of an opcode. -/
def mgOp (opc : Nat) : Option MgOp := mgOps.find? fun o => o.code == opc

end Sys2Proof.Machine
end

