-- ==== Sys2Proof/Machine/OpsMgi.lean ====
section
/-!
DEFINITION. The management interface: the checks of R432, admission by mode (R447), running packets and their replies (R434, R435), arrival
over the three carriers (R436 to R438), NVMe-MI.
Assumption log: DEDUCED (64, 66); PRESUMED (65).
-/

namespace Sys2Proof.Machine

-- admission

/-- How a mode admits an opcode (R447). -/
inductive Admit where
  | yes
  | busy
  | never
  deriving DecidableEq, Repr

/-- The raw opcodes that only SERVICE admits (R442). -/
def rawOpc (opc : Nat) : Bool := decide (0x0F00 ≤ opc) && decide (opc < 0x0F04)

/-- Admission of an opcode by mode and carrier (R447, R437); in REST a packet is judged as in RUN, where it is served after the wake. -/
def State.admits (s : State) (carrier opc : Nat) : Admit :=
  if s.md.stopped then .busy
  else match s.mode with
    | .run | .rest => if rawOpc opc then .never else .yes
    | .service => .yes
    | .hold => if rawOpc opc || [0x0303, 0x0802, 0x0804, 0x0F04].contains opc then .never else .yes
    | .boot => if s.fw.bootRom && carrier == 1 && opc / 256 == 9 then .yes else .busy
    | .detour | .ret => if carrier == 1 && [0x0100, 0x0500, 0x0A03].contains opc then .yes else .busy
    | .off | .watch => .busy

/-- Whether the interface takes packets of a carrier at all: not without core power or while the device is stopped for a test (R462); the
sideband with one of its bindings enabled, in REST with SMBus (R437). -/
def State.hears (s : State) (carrier : Nat) : Bool :=
  s.coreOn && s.pw.seq == .idle && !s.pw.testMode
    && (if carrier = 1 then s.flag MGI_CFG_SMB_EN || (s.flag MGI_CFG_I3C_EN && s.mode != .rest) else s.mode != .rest)

-- the checks of R432

/-- Packets of one carrier, and on the fabric of one origin node, share their tags. -/
def sameSender (a b : Packet) : Bool := a.carrier == b.carrier && (a.carrier != 2 || a.origin % 4096 == b.origin % 4096)

/-- A packet of the same sender with the same tag has not been answered. -/
def State.tagInUse (s : State) (p : Packet) : Bool :=
  let hit (q : Packet) : Bool := sameSender p q && pkTag p.bytes == pkTag q.bytes
  (s.mg.running.any fun e => hit e.2.inp.p) || s.mg.waiting.any fun i => hit i.p

/-- Checks 1 to 6: format and tag. -/
def State.formatFault (s : State) (p : Packet) : Option Nat :=
  let b := p.bytes
  let n := b.length
  if n < 20 ∨ n != 20 + pkLen b ∨ (p.carrier = 1 ∧ 4160 < pkLen b) then some 0x13
  else if field b 12 4 != crc32 (b.take 12) then some 0x10
  else if field b (n - 4) 4 != crc32 (b.take (n - 4)) then some 0x11
  else if pkVer b != 1 then some 0x12
  else if pkFlags b % 2 != 0 ∨ 8 ≤ pkFlags b then some 0x15
  else if s.tagInUse p then some 0x16
  else none

/-- Checks 8 to 12 for an opcode. -/
def State.opFault (s : State) (o : MgOp) (p : Packet) : Option Nat :=
  let b := p.bytes
  let noSlice := bit (pkFlags b) 2
  if p.carrier = 2 ∧ !o.fabric then some 0x18
  else match s.admits p.carrier o.code with
    | .busy => some 0x02
    | .never => some 0x19
    | .yes =>
      if (if noSlice then pkSlice b != 0 || o.charge else decide (s.sliceCount ≤ pkSlice b)) then some 0x1A
      else if !o.ok s (pkParams b) then some 0x15
      else if p.carrier = 0 ∧ p.replyMax < 20 + o.size (pkParams b) then some 0x17
      else none

/-- The status of the first check that fails (R432). -/
def State.packetFault (s : State) (p : Packet) : Option Nat :=
  match s.formatFault p with
  | some st => some st
  | none =>
    match mgOp (pkOpcode p.bytes) with
    | none => some 0x14
    | some o => s.opFault o p

-- running packets

/-- The opcode of a packet changes device state (R434). -/
def isChange (p : Packet) : Bool := match mgOp (pkOpcode p.bytes) with | some o => o.change (pkParams p.bytes) | none => false

/-- The action of a running packet is complete: a commit it asks for comes first (R435), then its reply; a refused commit gives Record Full. -/
def State.finish (s : State) (k : Nat) (r : MgRun) (st : Nat) (body : List Nat) : State :=
  if r.commitDue ∧ st ≤ 1 then
    let r := { r with commitDue := false, wait := .commit false, held := some (st, body) }
    { s with mg := { s.mg with running := s.mg.running.put k r } }.askCommitNow
  else
    let s := { s with mg := { s.mg with running := s.mg.running.del k } }
    match r.held with
    | none => s.answer r.inp st body
    | some (st', body') => if st = 0 then s.answer r.inp st' body' else s.answer r.inp st []

/-- The status of a mode change that has ended (R305, R306); none while it runs. -/
def State.modeOutcome (s : State) (m : Nat) : Option Nat :=
  if s.md.mode.code = m ∧ !s.inTransition then some 0
  else if s.mode == .detour then some 4
  else if s.inTransition ∨ s.md.holdWrite ∨ s.md.holdWait then none
  else some 5

/-- A running packet goes on: what its reply waited for has come.  A Detour ends one that has made no change with Busy (R447). -/
def State.goOnRun (s : State) (k : Nat) : State :=
  match s.mg.running.look k with
  | none => s
  | some r =>
    match r.wait with
    | .done st body => s.finish k r st body
    | .mode m => match s.modeOutcome m with | some st => s.finish k r st [] | none => s
    | .remote b =>
      if s.mode == .detour then
        let reqs := s.fb.reqs.keep fun _ x => x.for_ != .identify b
        { s with fb := { s.fb with reqs := reqs } }.showTags.finish k r 2 []
      else s
    | .commit _ | .slice _ | .firmware => s

/-- Start a packet that waits: the mode is asked once more (R447). -/
def State.startPacket (s : State) (i : MgIn) : State :=
  match mgOp (pkOpcode i.p.bytes) with
  | none => s
  | some o =>
    match s.admits i.p.carrier o.code with
    | .busy => s.answer i 0x02 []
    | .never => s.answer i 0x19 []
    | .yes =>
      let (w, s) := o.run i (pkParams i.p.bytes) (pkSlice i.p.bytes) s
      let k := s.mg.nextRun
      let r : MgRun := { inp := i, change := o.change (pkParams i.p.bytes), wait := w, commitDue := bit (pkFlags i.p.bytes) 1, held := none }
      { s with mg := { s.mg with running := s.mg.running.put k r, nextRun := k + 1 } }.goOnRun k

/-- The packet that starts next (R434): up to 8 run; a changing one waits for the one that runs, and keeps its place among its kind. -/
def State.nextPacket (s : State) : Option MgIn :=
  if 8 ≤ s.mg.running.length ∨ s.mode = .rest then none
  else s.mg.waiting.find? fun i => !(isChange i.p && s.changeRunning)

/-- Start packets while one can start. -/
def State.startPackets : Nat → State → State
  | 0, s => s
  | n + 1, s =>
    match s.nextPacket with
    | none => s
    | some i => State.startPackets n ({ s with mg := { s.mg with waiting := s.mg.waiting.erase i } }.startPacket i)

/-- The interface goes on: replies that have been decided are sent, and packets that wait are started. -/
def State.mgi (s : State) : State :=
  let s := s.each (s.mg.running.map (·.1)) fun k s => s.goOnRun k
  State.startPackets s.mg.waiting.length s

/-- A packet has arrived whole: it is checked, answered, or run in its turn; over SMBus it wakes the device (R432, R434, R437). -/
def State.packetArrives (s : State) (i : MgIn) : State :=
  if !s.hears i.p.carrier then s
  else
    let s := if i.p.carrier = 1 then s.wakeSource 6 else s
    match s.packetFault i.p with
    | some st => s.answer i st []
    | none => { s with mg := { s.mg with waiting := s.mg.waiting ++ [i] } }.mgi

-- carriers

/-- A packet given as a command of its own, of one opcode: on the Admin carrier its context is a fetched 0xC1 command of the privileged
port; on the fabric MGMT_EN lets it in. -/
def State.packetRow (s : State) (opc : Nat) (p : Packet) (raw : Option (List Nat)) (hdr : Option ImageHeader) : State :=
  let i : MgIn := { p := p, replyOk := true, raw := raw, hdr := hdr }
  if pkOpcode p.bytes != opc then s
  else if p.carrier = 0 then
    match s.adminCtx p.origin 0xC1 fun c => c.port == s.privPort with
    | some c => (s.issue c.id).packetArrives i
    | none => s
  else if p.carrier = 1 then s.packetArrives i
  else if p.carrier = 2 && s.portsRun && s.flag JNR_CFG_MGMT_EN then s.packetArrives i
  else s

/-- The admin command 0xC1 (R436): its dwords are checked, and the packet it describes arrives. -/
def State.carrierCommand (s : State) (c : Ctx) (fetched : Option (List Nat)) (replyOk : Bool) : State :=
  let e := c.e
  if e.dw10 < 20 ∨ 65555 < e.dw10 ∨ e.dw11 < 20 ∨ 65555 < e.dw11 ∨ e.dw12 % 4096 != 0 then s.complete c.id .invalidField
  else match fetched with
    | none => s.complete c.id .dataTransferError
    | some b =>
      let p : Packet := { carrier := 0, origin := c.id, bytes := padTo b e.dw10, replyMax := e.dw11 }
      (s.issue c.id).packetArrives { p := p, replyOk := replyOk, raw := none, hdr := none }

/-- Put a frame's payload into a message that arrives in frames: FIRST begins it, and a later frame fits where the message ends.  The message,
once LAST has come, and the messages still arriving. -/
def gather (l : List (Nat × Nat × List Nat)) (src key : Nat) (f : Frame) : Option (List Nat) × List (Nat × Nat × List Nat) :=
  let rest := l.filter fun x => !(x.1 == src && x.2.1 == key)
  let old := match l.find? fun x => x.1 == src && x.2.1 == key with | some x => some x.2.2 | none => none
  let now := if bit f.flags 0 then some f.payload
    else match old with
      | some b => if b.length = f.offset then some (b ++ f.payload) else none
      | none => none
  match now with
  | none => (none, l)
  | some b => if bit f.flags 1 then (some b, rest) else (none, rest ++ [(src, key, b)])

/-- A MGMT frame for this node (R438): refused where the fabric may not manage it, answered again when its packet was answered before,
ignored while its packet runs, else gathered. -/
def State.mgmtFrame (s : State) (f : Frame) : State :=
  let origin := f.src + 4096 * f.tag
  let mine (i : MgIn) : Bool := i.p.carrier == 2 && i.p.origin == origin
  if !s.flag JNR_CFG_MGMT_EN || f.domain != s.get JNR_CFG_DOMAIN then
    if bit f.flags 0 then s.sendReplyFrames f.src f.tag (replyBytes f.payload 0x18 []) else s
  else match s.fb.dups.find? fun d => d.src == f.src && d.tag == f.tag && d.reply.isSome with
    | some d => if bit f.flags 0 then (s.bumpJnr JNR_DUP_HIT).sendReplyFrames f.src f.tag (d.reply.getD []) else s
    | none =>
      if (s.mg.running.any fun e => mine e.2.inp) || s.mg.waiting.any mine then s
      else
        let (m, l) := gather s.mg.arriving f.src f.tag f
        let s := { s with mg := { s.mg with arriving := l } }
        match m with
        | none => s
        | some b =>
          let p : Packet := { carrier := 2, origin := origin, bytes := b, replyMax := 65555 }
          s.packetArrives { p := p, replyOk := true, raw := none, hdr := none }

/-- A MGMT_RSP frame for this node: the reply to the Identify request of a binding (R375); with Success the binding is made. -/
def State.mgmtResponse (s : State) (f : Frame) : State :=
  match s.fb.reqs.look f.tag with
  | some { for_ := .identify k, dst, .. } =>
    if dst != f.src then s
    else
      let (m, l) := gather s.mg.arriving f.src (f.tag + 0x10000) f
      let s := { s with mg := { s.mg with arriving := l } }
      match m with
      | none => s
      | some b =>
        let s := s.dropRemote f.tag
        let s := if field b 6 2 = 0 ∧ field b 8 2 = 4096 then
            let s := { s with fb := { s.fb with remoteId := s.fb.remoteId.put k ((b.drop 16).take 4096) } }
            let s := match s.mg.running.find? fun e => e.2.wait == .remote k with
              | some (_, r) => s.bindNow (pkParams r.inp.p.bytes)
              | none => s
            s.packetsReady (fun w => w == .remote k) 0
          else s.packetsReady (fun w => w == .remote k) 0x23
        s.mgi
  | _ => s

-- NVMe-MI

/-- A NVMe-MI command is answered (R437): its response status and bytes; in REST it wakes the device.  The boot ROM serves none. -/
def State.miServe (s : State) (f : State → Nat × List Nat × State) : State :=
  if !s.hears 1 || s.fw.bootRom then s
  else
    let (st, b, s) := f (s.wakeSource 6)
    s.put (.miReply st b)

/-- Invalid Parameter of NVMe-MI. -/
def miInvalid : Nat := 0x04

/-- Read NVMe-MI Data Structure: subsystem information, port information, the controller list, controller information and the optional
commands, in the layouts of NVMe-MI 1.2; bytes no chapter gives are free. -/
def State.miStructure (s : State) (type id : Nat) : Nat × List Nat × State :=
  let open_ (n : Nat) (l : List (Nat × List Nat)) : Nat × List Nat × State := let (b, s) := s.openPage n l; (0, b, s)
  let ports := s.portList.length
  if type = 0 then open_ 32 [(0, [ports, 1, 2])]
  else if type = 1 then
    if id < ports then open_ 32 [(0, [1])] else if id = ports then open_ 32 [(0, [2]), (8, [s.pw.smbAddr * 2])] else (miInvalid, [], s)
  else if type = 2 then (0, le 2 ports ++ (s.portList.map (le 2)).flatten, s)
  else if type = 3 then (if s.portList.contains id then open_ 32 [(0, [id])] else (miInvalid, [], s))
  else if type = 4 then (0, le 2 0, s)
  else (miInvalid, [], s)

/-- NVM Subsystem Health Status Poll: SMART warnings inverted and the composite temperature in °C; other bytes are free. -/
def State.miSubsystem (s : State) : Nat × List Nat × State :=
  let (page, s) := s.smartPage s.privPort
  let (b, s) := s.openPage 8 [(1, [255 - field page 0 1 % 256]), (2, [(field page 1 2 - 273) % 256])]
  (0, b, s)

/-- Controller Health Status Poll of one controller: its identifier, ready bit, temperature and spare; other bytes are free. -/
def State.miController (s : State) (c : Nat) : Nat × List Nat × State :=
  if s.portList.contains c then
    let (page, s) := s.smartPage c
    let (b, s) := s.openPage 16 [(0, le 2 c), (2, [bNat (s.rdy c)]), (4, le 2 (field page 1 2)), (7, [s.availableSpare])]
    (0, b, s)
  else (miInvalid, [], s)

end Sys2Proof.Machine
end

