-- ==== Sys2Proof/Machine/Mgmt.lean ====
section
/-!
DEFINITION. The commands of the management interface: its carriers, NVMe-MI, and one command for each opcode of Table 16.4, whose packet
arrives whole over the carrier it names (R430 to R447).
-/

namespace Sys2Proof.Machine

open Host (Outcome)

/-- MGMT_PACKET_CARRIER: the admin command 0xC1 (R436). -/
def execMgmtPacketCarrier (ctx : Nat) (fetched : Option (List Nat)) (replyOk : Bool) (s : State) : Outcome State Fault Refusal :=
  actRemoving s fun s =>
    match s.adminCtx ctx 0xC1 fun c => c.port == s.privPort with
    | some c => s.carrierCommand c fetched replyOk
    | none => s

/-- MGMT_RECEIVED (R438). -/
def execMgmtReceived (p : Nat) (f : Frame) (s : State) : Outcome State Fault Refusal :=
  actRemovingWhen s (decide (p < 4) && s.portsRun && f.type == 0x40) fun s =>
    match s.acceptLocal p f with
    | (true, s) => s.mgmtFrame f
    | (false, s) => s

/-- MGMT_RSP_RECEIVED (R438, R375). -/
def execMgmtRspReceived (p : Nat) (f : Frame) (s : State) : Outcome State Fault Refusal :=
  actRemovingWhen s (decide (p < 4) && s.portsRun && f.type == 0x41) fun s =>
    match s.acceptLocal p f with
    | (true, s) => s.mgmtResponse f
    | (false, s) => s

/-- READ_NVME_MI_DATA_STRUCTURE (R437). -/
def execReadNvmeMiDataStructure (type id : Nat) (s : State) : Outcome State Fault Refusal :=
  act s fun s => s.miServe fun s => s.miStructure type id

/-- SUBSYSTEM_HEALTH_STATUS_POLL (R437); what Clear Status clears is not part of what the device gives here. -/
def execSubsystemHealthStatusPoll (_clear : Bool) (s : State) : Outcome State Fault Refusal :=
  act s fun s => s.miServe fun s => s.miSubsystem

/-- CONTROLLER_HEALTH_STATUS_POLL (R437). -/
def execControllerHealthStatusPoll (controller : Nat) (s : State) : Outcome State Fault Refusal :=
  act s fun s => s.miServe fun s => s.miController controller

/-- NVME_MI_VENDOR_C1: the request data is a packet (R437). -/
def execNvmeMiVendorC1 (p : Packet) (s : State) : Outcome State Fault Refusal :=
  actRemovingWhen s (p.carrier == 1) fun s => s.packetArrives { p := p, replyOk := true, raw := none, hdr := none }

/-- GET_IDENTITY. -/
def execGetIdentity (p : Packet) (s : State) : Outcome State Fault Refusal :=
  actRemoving s fun s => s.packetRow 0x0100 p none none

/-- GET_CONFIGURATION_REPORT (R443). -/
def execGetConfigurationReport (p : Packet) (s : State) : Outcome State Fault Refusal :=
  actRemoving s fun s => s.packetRow 0x0101 p none none

/-- GET_NAMESPACE_IDENTIFY. -/
def execGetNamespaceIdentify (p : Packet) (s : State) : Outcome State Fault Refusal :=
  actRemoving s fun s => s.packetRow 0x0102 p none none

/-- READ_REGISTERS. -/
def execReadRegisters (p : Packet) (s : State) : Outcome State Fault Refusal :=
  actRemoving s fun s => s.packetRow 0x0103 p none none

/-- WRITE_REGISTER. -/
def execWriteRegister (p : Packet) (s : State) : Outcome State Fault Refusal :=
  actRemoving s fun s => s.packetRow 0x0104 p none none

/-- COMMIT_CONFIGURATION (R425). -/
def execCommitConfiguration (p : Packet) (s : State) : Outcome State Fault Refusal :=
  actRemoving s fun s => s.packetRow 0x0200 p none none

/-- GET_RECORD_STATUS. -/
def execGetRecordStatus (p : Packet) (s : State) : Outcome State Fault Refusal :=
  actRemoving s fun s => s.packetRow 0x0201 p none none

/-- SET_SLICE_COUNT (R60). -/
def execSetSliceCount (p : Packet) (s : State) : Outcome State Fault Refusal :=
  actRemoving s fun s => s.packetRow 0x0300 p none none

/-- BIND_PASID (R61). -/
def execBindPasid (p : Packet) (s : State) : Outcome State Fault Refusal :=
  actRemoving s fun s => s.packetRow 0x0301 p none none

/-- SET_ACCESS_BITMAP (R64). -/
def execSetAccessBitmap (p : Packet) (s : State) : Outcome State Fault Refusal :=
  actRemoving s fun s => s.packetRow 0x0302 p none none

/-- RESET_SLICE (R73). -/
def execResetSlice (p : Packet) (s : State) : Outcome State Fault Refusal :=
  actRemoving s fun s => s.packetRow 0x0303 p none none

/-- SET_SLICE_BUDGETS (R69). -/
def execSetSliceBudgets (p : Packet) (s : State) : Outcome State Fault Refusal :=
  actRemoving s fun s => s.packetRow 0x0304 p none none

/-- GET_SLICE_STATUS. -/
def execGetSliceStatus (p : Packet) (s : State) : Outcome State Fault Refusal :=
  actRemoving s fun s => s.packetRow 0x0305 p none none

/-- WAYPOINT_COMMAND (R112). -/
def execWaypointCommand (p : Packet) (s : State) : Outcome State Fault Refusal :=
  actRemoving s fun s => s.packetRow 0x0400 p none none

/-- SET_ROUTE. -/
def execSetRoute (p : Packet) (s : State) : Outcome State Fault Refusal :=
  actRemoving s fun s => s.packetRow 0x0401 p none none

/-- SET_PROFILE. -/
def execSetProfile (p : Packet) (s : State) : Outcome State Fault Refusal :=
  actRemoving s fun s => s.packetRow 0x0402 p none none

/-- SET_NAMESPACE_PROFILE. -/
def execSetNamespaceProfile (p : Packet) (s : State) : Outcome State Fault Refusal :=
  actRemoving s fun s => s.packetRow 0x0403 p none none

/-- GET_PACK_STATUS. -/
def execGetPackStatus (p : Packet) (s : State) : Outcome State Fault Refusal :=
  actRemoving s fun s => s.packetRow 0x0500 p none none

/-- READ_PACK_HISTORY (R282). -/
def execReadPackHistory (p : Packet) (s : State) : Outcome State Fault Refusal :=
  actRemoving s fun s => s.packetRow 0x0501 p none none

/-- SET_CHARGING (R278). -/
def execSetCharging (p : Packet) (s : State) : Outcome State Fault Refusal :=
  actRemoving s fun s => s.packetRow 0x0502 p none none

/-- REQUEST_SELF_TEST (R444). -/
def execRequestSelfTest (p : Packet) (s : State) : Outcome State Fault Refusal :=
  actRemoving s fun s => s.packetRow 0x0600 p none none

/-- QUERY_TICKET (R445). -/
def execQueryTicket (p : Packet) (s : State) : Outcome State Fault Refusal :=
  actRemoving s fun s => s.packetRow 0x0601 p none none

/-- CANCEL_TICKET (R445). -/
def execCancelTicket (p : Packet) (s : State) : Outcome State Fault Refusal :=
  actRemoving s fun s => s.packetRow 0x0602 p none none

/-- READ_LOG. -/
def execReadLog (p : Packet) (s : State) : Outcome State Fault Refusal :=
  actRemoving s fun s => s.packetRow 0x0700 p none none

/-- WRITE_ANNOTATION. -/
def execWriteAnnotation (p : Packet) (s : State) : Outcome State Fault Refusal :=
  actRemoving s fun s => s.packetRow 0x0701 p none none

/-- READ_EVENT_QUEUE (R390). -/
def execReadEventQueue (p : Packet) (s : State) : Outcome State Fault Refusal :=
  actRemoving s fun s => s.packetRow 0x0702 p none none

/-- READ_DIRTY_EPOCH_REPORT (R402). -/
def execReadDirtyEpochReport (p : Packet) (s : State) : Outcome State Fault Refusal :=
  actRemoving s fun s => s.packetRow 0x0703 p none none

/-- CLEAR_DIRTY_EPOCH_REPORT (R402). -/
def execClearDirtyEpochReport (p : Packet) (s : State) : Outcome State Fault Refusal :=
  actRemoving s fun s => s.packetRow 0x0704 p none none

/-- READ_LATE_FAULT_RECORDS (R80). -/
def execReadLateFaultRecords (p : Packet) (s : State) : Outcome State Fault Refusal :=
  actRemoving s fun s => s.packetRow 0x0705 p none none

/-- SET_NODE (R364). -/
def execSetNode (p : Packet) (s : State) : Outcome State Fault Refusal :=
  actRemoving s fun s => s.packetRow 0x0800 p none none

/-- SET_NODE_SLICE (R373). -/
def execSetNodeSlice (p : Packet) (s : State) : Outcome State Fault Refusal :=
  actRemoving s fun s => s.packetRow 0x0801 p none none

/-- BIND_NAMESPACE (R375). -/
def execBindNamespace (p : Packet) (s : State) : Outcome State Fault Refusal :=
  actRemoving s fun s => s.packetRow 0x0802 p none none

/-- UNBIND_NAMESPACE (R378). -/
def execUnbindNamespace (p : Packet) (s : State) : Outcome State Fault Refusal :=
  actRemoving s fun s => s.packetRow 0x0803 p none none

/-- PEER_ZONE_COPY (R379). -/
def execPeerZoneCopy (p : Packet) (s : State) : Outcome State Fault Refusal :=
  actRemoving s fun s => s.packetRow 0x0804 p none none

/-- GET_FABRIC_STATUS. -/
def execGetFabricStatus (p : Packet) (s : State) : Outcome State Fault Refusal :=
  actRemoving s fun s => s.packetRow 0x0805 p none none

/-- DOWNLOAD_FIRMWARE (R441). -/
def execDownloadFirmware (p : Packet) (hdr : ImageHeader) (s : State) : Outcome State Fault Refusal :=
  actRemoving s fun s => s.packetRow 0x0900 p none (some hdr)

/-- COMMIT_FIRMWARE (R416, R441). -/
def execCommitFirmware (p : Packet) (hdr : ImageHeader) (s : State) : Outcome State Fault Refusal :=
  actRemoving s fun s => s.packetRow 0x0901 p none (some hdr)

/-- GET_SLOT_INFO. -/
def execGetSlotInfo (p : Packet) (s : State) : Outcome State Fault Refusal :=
  actRemoving s fun s => s.packetRow 0x0902 p none none

/-- ACKNOWLEDGE_THERMAL_SHUTDOWN (R410). -/
def execAcknowledgeThermalShutdown (p : Packet) (s : State) : Outcome State Fault Refusal :=
  actRemoving s fun s => s.packetRow 0x0A00 p none none

/-- POWER_OFF (R307). -/
def execPowerOff (p : Packet) (s : State) : Outcome State Fault Refusal :=
  actRemoving s fun s => s.packetRow 0x0A01 p none none

/-- SET_MODE (R305, R306). -/
def execSetMode (p : Packet) (s : State) : Outcome State Fault Refusal :=
  actRemoving s fun s => s.packetRow 0x0A02 p none none

/-- GET_THERMAL_AND_POWER. -/
def execGetThermalAndPower (p : Packet) (s : State) : Outcome State Fault Refusal :=
  actRemoving s fun s => s.packetRow 0x0A03 p none none

/-- RAW_READ (R442). -/
def execRawRead (p : Packet) (data : List Nat) (s : State) : Outcome State Fault Refusal :=
  actRemoving s fun s => s.packetRow 0x0F00 p (some data) none

/-- RAW_PROGRAM (R442). -/
def execRawProgram (p : Packet) (s : State) : Outcome State Fault Refusal :=
  actRemoving s fun s => s.packetRow 0x0F01 p none none

/-- RAW_ERASE (R442). -/
def execRawErase (p : Packet) (s : State) : Outcome State Fault Refusal :=
  actRemoving s fun s => s.packetRow 0x0F02 p none none

/-- SET_BAD_COLUMN_RANGE (R207). -/
def execSetBadColumnRange (p : Packet) (s : State) : Outcome State Fault Refusal :=
  actRemoving s fun s => s.packetRow 0x0F03 p none none

/-- DECLARE_DIE_FAILED (R174). -/
def execDeclareDieFailed (p : Packet) (s : State) : Outcome State Fault Refusal :=
  actRemoving s fun s => s.packetRow 0x0F04 p none none

end Sys2Proof.Machine
end

