-- ==== Sys2Proof/Machine/Registers.lean ====
section
/-!
DEFINITION. The commands of the control window that have no block of their own: a register write (R8 to R10), and the reads that latch an
upper word (R27, R80, R249, R384, R424).
Assumption log: DEDUCED (13).
-/

namespace Sys2Proof.Machine

open Host (Outcome)

/-- The control window can be reached (R73). -/
def State.windowOpen (s : State) : Bool := s.inModes [.run, .hold, .service]

/-- A write of a port's host can reach a space (R33, R73): the window on the privileged port while the device serves it; the first BAR
and configuration space while the port's link is up. -/
def State.reaches (s : State) (port : Nat) (space : RegSpace) : Bool :=
  match space with
  | .window => s.windowOpen && port == s.privPort
  | .bar0 | .config _ => s.isPort port && s.powered && s.flag QEN_LINK_UP port

/-- REGISTER_WRITE: a write narrower than 32 bits, one not aligned to 4 bytes, and one to an offset without a register are discarded (R8);
one of configuration space sets the register it names. -/
def execRegisterWrite (port : Nat) (space : RegSpace) (size addr value : Nat) (s : State) : Outcome State Fault Refusal :=
  actRemovingWhen s (s.reaches port space) fun s =>
    match space with
    | .window => if size = 4 ∧ addr % 4 = 0 then s.writeWord addr value else s
    | .bar0 => if size = 4 ∧ addr % 4 = 0 then s.bar0Write port addr (value % 2 ^ 32) else s
    | .config r => s.cfgWrite port r value

/-- A read of the window by a port's host, of `size` bytes at `off` of a register, whose value the host receives (R8); only the privileged
port reaches the window (R33). -/
def hostRead (port size off : Nat) (r : Reg) (s : State) : Outcome State Fault Refusal :=
  actWhen s (s.powered && port == s.privPort) fun s =>
    let (v, s) := s.readAt size (r.at 0 0 + off)
    s.put (.readData (r.at 0 0 + off) size v)

/-- UPTIME_LO_READ (chapter 01, GLB registers). -/
def execUptimeLoRead (port size off : Nat) (s : State) : Outcome State Fault Refusal := hostRead port size off rGLB_UPTIME_LO s

/-- REC_TOTAL_LO_READ (chapter 03, TLG registers). -/
def execRecTotalLoRead (port size off : Nat) (s : State) : Outcome State Fault Refusal := hostRead port size off rTLG_REC_TOTAL_LO s

/-- CKPT_NUM_LO_READ (chapter 08, XLT registers). -/
def execCkptNumLoRead (port size off : Nat) (s : State) : Outcome State Fault Refusal := hostRead port size off rXLT_CKPT_NUM_LO s

/-- FIRST_TS_LO_READ (chapter 14, FCL registers): the upper word is that of the same capture. -/
def execFirstTsLoRead (port size off : Nat) (s : State) : Outcome State Fault Refusal := hostRead port size off rFCL_FIRST_TS_LO s

/-- CFG_SEQ_LO_READ (chapter 15, FWC registers). -/
def execCfgSeqLoRead (port size off : Nat) (s : State) : Outcome State Fault Refusal := hostRead port size off rFWC_CFG_SEQ_LO s

/-- MSM_LOG_DATA_READ (R399). -/
def execMsmLogDataRead (port size off : Nat) (s : State) : Outcome State Fault Refusal := hostRead port size off rMSM_LOG_DATA s

/-- MSM_WIN_DATA_READ (R392). -/
def execMsmWinDataRead (port size off : Nat) (s : State) : Outcome State Fault Refusal := hostRead port size off rMSM_WIN_DATA s

end Sys2Proof.Machine
end

