-- ==== Sys2Proof/Machine/TestPort.lean ====
section
/-!
DEFINITION. The test port (R461): its instructions, each with the bits shifted in through TDI in the shift that follows, and the bits that
come out of TDO.
-/

namespace Sys2Proof.Machine

open Host (Outcome)

/-- The test port runs from the IO pads (R461). -/
def State.tapOn (s : State) : Bool := (s.rail 9).armed

/-- A shift of a register, its first bit next to TDO: what comes out, and what the register holds then. -/
def shifted (reg tdi : List Bool) : List Bool × List Bool := ((reg ++ tdi).take tdi.length, (reg ++ tdi).drop tdi.length)

/-- An instruction is entered and bits are shifted through the register it selects. -/
def State.tapShift (s : State) (i : Tap) (reg tdi : List Bool) : State :=
  { s with tp := { s.tp with instr := i } }.put (.tdo ((shifted reg tdi).1.map bNat))

/-- BYPASS: a register of one bit, which captures 0 (IEEE 1149.1). -/
def State.tapBypass (s : State) (tdi : List Bool) : State := s.tapShift .bypass [false] tdi

/-- The bits of IDCODE, the lowest first. -/
def idcodeBits : List Bool := (List.range 32).map fun k => bit 0x2640033B k

/-- An instruction over the boundary-scan cells: they capture the pins, and after the shift hold what was shifted in. -/
def State.tapBoundary (s : State) (i : Tap) (pins tdi : List Bool) : State :=
  let s := s.tapShift i pins tdi
  { s with tp := { s.tp with cells := (shifted pins tdi).2 } }

/-- BYPASS (R461). -/
def execBypass (tdi : List Bool) (s : State) : Outcome State Fault Refusal := actWhen s s.tapOn fun s => s.tapBypass tdi

/-- IDCODE (R461). -/
def execIdcode (tdi : List Bool) (s : State) : Outcome State Fault Refusal := actWhen s s.tapOn fun s => s.tapShift .idcode idcodeBits tdi

/-- SAMPLE/PRELOAD (R461): the pins go on working. -/
def execSamplePreload (pins tdi : List Bool) (s : State) : Outcome State Fault Refusal :=
  actWhen s s.tapOn fun s => s.tapBoundary .sample pins tdi

/-- EXTEST (R461): the cells drive the pins while TEST_MODE is high; otherwise it acts as BYPASS. -/
def execExtest (pins tdi : List Bool) (s : State) : Outcome State Fault Refusal :=
  actWhen s s.tapOn fun s => if s.pw.testMode then s.tapBoundary .extest pins tdi else s.tapBypass tdi

/-- CLAMP (R461): the cells hold the pins while the bypass register is shifted; with TEST_MODE low it acts as BYPASS. -/
def execClamp (tdi : List Bool) (s : State) : Outcome State Fault Refusal :=
  actWhen s s.tapOn fun s => if s.pw.testMode then s.tapShift .clamp [false] tdi else s.tapBypass tdi

/-- HIGHZ (R461): the outputs float while the bypass register is shifted; with TEST_MODE low it acts as BYPASS. -/
def execHighz (tdi : List Bool) (s : State) : Outcome State Fault Refusal :=
  actWhen s s.tapOn fun s => if s.pw.testMode then s.tapShift .highz [false] tdi else s.tapBypass tdi

end Sys2Proof.Machine
end

