-- ==== Sys2Proof/Machine/Dispatch.lean ====
section
/-!
DEFINITION. One arm for each command of the opcode table: a direct call of its meaning.
-/

namespace Sys2Proof.Machine

def exec (i : Instr) (s : State) : Host.Outcome State Fault Refusal :=
  match i with
  | .registerWrite port space size addr value => Sys2Proof.Machine.execRegisterWrite port space size addr value s
  | .uptimeLoRead port size off => Sys2Proof.Machine.execUptimeLoRead port size off s
  | .recTotalLoRead port size off => Sys2Proof.Machine.execRecTotalLoRead port size off s
  | .ckptNumLoRead port size off => Sys2Proof.Machine.execCkptNumLoRead port size off s
  | .firstTsLoRead port size off => Sys2Proof.Machine.execFirstTsLoRead port size off s
  | .cfgSeqLoRead port size off => Sys2Proof.Machine.execCfgSeqLoRead port size off s
  | .linkUp port rate width flit => Sys2Proof.Machine.execLinkUp port rate width flit s
  | .linkDown port => Sys2Proof.Machine.execLinkDown port s
  | .functionLevelReset port => Sys2Proof.Machine.execFunctionLevelReset port s
  | .perstAssert port => Sys2Proof.Machine.execPerstAssert port s
  | .perstDeassert port => Sys2Proof.Machine.execPerstDeassert port s
  | .ccEnSet port iosqes iocqes ams asqs acqs => Sys2Proof.Machine.execCcEnSet port iosqes iocqes ams asqs acqs s
  | .ccEnClear port => Sys2Proof.Machine.execCcEnClear port s
  | .normalShutdown port => Sys2Proof.Machine.execNormalShutdown port s
  | .abruptShutdown port => Sys2Proof.Machine.execAbruptShutdown port s
  | .shutdownTimeout port => Sys2Proof.Machine.execShutdownTimeout port s
  | .shutdownDone port => Sys2Proof.Machine.execShutdownDone port s
  | .sqTailDoorbell port qid value pasid => Sys2Proof.Machine.execSqTailDoorbell port qid value pasid s
  | .cqHeadDoorbell port qid value pasid => Sys2Proof.Machine.execCqHeadDoorbell port qid value pasid s
  | .commandFetch port entry => Sys2Proof.Machine.execCommandFetch port entry s
  | .completionPost port qid => Sys2Proof.Machine.execCompletionPost port qid s
  | .cqStallTimeout port qid => Sys2Proof.Machine.execCqStallTimeout port qid s
  | .createIoSq ctx => Sys2Proof.Machine.execCreateIoSq ctx s
  | .createIoCq ctx => Sys2Proof.Machine.execCreateIoCq ctx s
  | .deleteIoSq ctx => Sys2Proof.Machine.execDeleteIoSq ctx s
  | .deleteIoCq ctx => Sys2Proof.Machine.execDeleteIoCq ctx s
  | .getLogPage ctx => Sys2Proof.Machine.execGetLogPage ctx s
  | .identify ctx => Sys2Proof.Machine.execIdentify ctx s
  | .abort ctx => Sys2Proof.Machine.execAbort ctx s
  | .setFeatures ctx => Sys2Proof.Machine.execSetFeatures ctx s
  | .getFeatures ctx => Sys2Proof.Machine.execGetFeatures ctx s
  | .asyncEventRequest ctx => Sys2Proof.Machine.execAsyncEventRequest ctx s
  | .nsCreate ctx data => Sys2Proof.Machine.execNsCreate ctx data s
  | .nsDelete ctx => Sys2Proof.Machine.execNsDelete ctx s
  | .namespaceAttachment ctx controllers => Sys2Proof.Machine.execNamespaceAttachment ctx controllers s
  | .firmwareImageDownload ctx data => Sys2Proof.Machine.execFirmwareImageDownload ctx data s
  | .firmwareCommit ctx hdr => Sys2Proof.Machine.execFirmwareCommit ctx hdr s
  | .firmwareActivateImmediate ctx => Sys2Proof.Machine.execFirmwareActivateImmediate ctx s
  | .directiveSend ctx => Sys2Proof.Machine.execDirectiveSend ctx s
  | .directiveReceive ctx => Sys2Proof.Machine.execDirectiveReceive ctx s
  | .mgmtPacketCarrier ctx fetched replyOk => Sys2Proof.Machine.execMgmtPacketCarrier ctx fetched replyOk s
  | .ioRead ctx => Sys2Proof.Machine.execIoRead ctx s
  | .ioWrite ctx data upsets => Sys2Proof.Machine.execIoWrite ctx data upsets s
  | .writeZeroes ctx upsets => Sys2Proof.Machine.execWriteZeroes ctx upsets s
  | .zoneAppend ctx data upsets => Sys2Proof.Machine.execZoneAppend ctx data upsets s
  | .flush ctx => Sys2Proof.Machine.execFlush ctx s
  | .datasetManagement ctx ranges => Sys2Proof.Machine.execDatasetManagement ctx ranges s
  | .zoneOpen ctx upsets => Sys2Proof.Machine.execZoneOpen ctx upsets s
  | .zoneClose ctx => Sys2Proof.Machine.execZoneClose ctx s
  | .zoneFinish ctx => Sys2Proof.Machine.execZoneFinish ctx s
  | .zoneReset ctx => Sys2Proof.Machine.execZoneReset ctx s
  | .zoneOffline ctx => Sys2Proof.Machine.execZoneOffline ctx s
  | .zoneManagementReceive ctx => Sys2Proof.Machine.execZoneManagementReceive ctx s
  | .mirrorWriteHeld pair => Sys2Proof.Machine.execMirrorWriteHeld pair s
  | .sliceResetRequest slice go => Sys2Proof.Machine.execSliceResetRequest slice go s
  | .sliceResetComplete slice => Sys2Proof.Machine.execSliceResetComplete slice s
  | .tokenRefill => Sys2Proof.Machine.execTokenRefill s
  | .readAroundBudgetExpiry ctx => Sys2Proof.Machine.execReadAroundBudgetExpiry ctx s
  | .busyReadAround cw => Sys2Proof.Machine.execBusyReadAround cw s
  | .reconstructionComplete cw => Sys2Proof.Machine.execReconstructionComplete cw s
  | .wptRead index => Sys2Proof.Machine.execWptRead index s
  | .wptWrite index => Sys2Proof.Machine.execWptWrite index s
  | .wptInsert index => Sys2Proof.Machine.execWptInsert index s
  | .wptDelete index => Sys2Proof.Machine.execWptDelete index s
  | .wptMoveComplete => Sys2Proof.Machine.execWptMoveComplete s
  | .wptScrubTick upset => Sys2Proof.Machine.execWptScrubTick upset s
  | .accumulatorIdleSpill acc => Sys2Proof.Machine.execAccumulatorIdleSpill acc s
  | .flushIssue => Sys2Proof.Machine.execFlushIssue s
  | .flushToEmptyEnd => Sys2Proof.Machine.execFlushToEmptyEnd s
  | .dirtyLimitRecompute => Sys2Proof.Machine.execDirtyLimitRecompute s
  | .dirtyLimitRaise => Sys2Proof.Machine.execDirtyLimitRaise s
  | .writeThroughExit => Sys2Proof.Machine.execWriteThroughExit s
  | .writeThroughForce value => Sys2Proof.Machine.execWriteThroughForce value s
  | .bufferAllocate pool owner slice internal => Sys2Proof.Machine.execBufferAllocate pool owner slice internal s
  | .freeListRebuildEnd list => Sys2Proof.Machine.execFreeListRebuildEnd list s
  | .bufferRelease pool index owner => Sys2Proof.Machine.execBufferRelease pool index owner s
  | .bufferTransfer pool index owner newOwner => Sys2Proof.Machine.execBufferTransfer pool index owner newOwner s
  | .bufferShare pool index owner n => Sys2Proof.Machine.execBufferShare pool index owner n s
  | .bufferDrop pool index owner => Sys2Proof.Machine.execBufferDrop pool index owner s
  | .dieOperationStart ch die => Sys2Proof.Machine.execDieOperationStart ch die s
  | .programComplete ch die pass => Sys2Proof.Machine.execProgramComplete ch die pass s
  | .eraseComplete ch die pass => Sys2Proof.Machine.execEraseComplete ch die pass s
  | .hardReadComplete ch die page => Sys2Proof.Machine.execHardReadComplete ch die page s
  | .sampleReadComplete ch die => Sys2Proof.Machine.execSampleReadComplete ch die s
  | .burstReceived ch bytes => Sys2Proof.Machine.execBurstReceived ch bytes s
  | .sampleOutEnd ch => Sys2Proof.Machine.execSampleOutEnd ch s
  | .codewordDecoded cw iters word check => Sys2Proof.Machine.execCodewordDecoded cw iters word check s
  | .codewordDecodeFail cw => Sys2Proof.Machine.execCodewordDecodeFail cw s
  | .ladderStepBudgetExpiry cw => Sys2Proof.Machine.execLadderStepBudgetExpiry cw s
  | .programSuspend ch die => Sys2Proof.Machine.execProgramSuspend ch die s
  | .eraseSuspend ch die => Sys2Proof.Machine.execEraseSuspend ch die s
  | .suspendComplete ch die => Sys2Proof.Machine.execSuspendComplete ch die s
  | .programResume ch die => Sys2Proof.Machine.execProgramResume ch die s
  | .eraseResume ch die => Sys2Proof.Machine.execEraseResume ch die s
  | .dieReadyTimeout ch die idOk => Sys2Proof.Machine.execDieReadyTimeout ch die idOk s
  | .rebuildWordline ch die => Sys2Proof.Machine.execRebuildWordline ch die s
  | .retrainPeriodExpiry ch => Sys2Proof.Machine.execRetrainPeriodExpiry ch s
  | .retrainingSlotStart => Sys2Proof.Machine.execRetrainingSlotStart s
  | .retrainingSlotEnd eye burst => Sys2Proof.Machine.execRetrainingSlotEnd eye burst s
  | .slotDeferTimeout => Sys2Proof.Machine.execSlotDeferTimeout s
  | .fullRetrainingStart ch => Sys2Proof.Machine.execFullRetrainingStart ch s
  | .fullRetrainingEnd ch ok training => Sys2Proof.Machine.execFullRetrainingEnd ch ok training s
  | .sdfClassClr ch => Sys2Proof.Machine.execSdfClassClr ch s
  | .sdfBadcolWrite ch value => Sys2Proof.Machine.execSdfBadcolWrite ch value s
  | .ldcStNow => Sys2Proof.Machine.execLdcStNow s
  | .ldcSelftestPeriod => Sys2Proof.Machine.execLdcSelftestPeriod s
  | .ldcSelftestEnd pass => Sys2Proof.Machine.execLdcSelftestEnd pass s
  | .reallocationAccept ch die block => Sys2Proof.Machine.execReallocationAccept ch die block s
  | .relocationStep => Sys2Proof.Machine.execRelocationStep s
  | .xltRelocOldest n => Sys2Proof.Machine.execXltRelocOldest n s
  | .xltCkptNow => Sys2Proof.Machine.execXltCkptNow s
  | .checkpointTimer => Sys2Proof.Machine.execCheckpointTimer s
  | .checkpointCommit => Sys2Proof.Machine.execCheckpointCommit s
  | .checkpointLateTimeout => Sys2Proof.Machine.execCheckpointLateTimeout s
  | .mapRestartEnd ms badRecords badFooters => Sys2Proof.Machine.execMapRestartEnd ms badRecords badFooters s
  | .mapRebuildEnd => Sys2Proof.Machine.execMapRebuildEnd s
  | .inputLoss => Sys2Proof.Machine.execInputLoss s
  | .dumpPaceTick => Sys2Proof.Machine.execDumpPaceTick s
  | .dumpProgramComplete ch die outcome => Sys2Proof.Machine.execDumpProgramComplete ch die outcome s
  | .dumpCommit => Sys2Proof.Machine.execDumpCommit s
  | .dumpAbandon => Sys2Proof.Machine.execDumpAbandon s
  | .dumpSupersede => Sys2Proof.Machine.execDumpSupersede s
  | .inputValid mv => Sys2Proof.Machine.execInputValid mv s
  | .inputInvalid mv => Sys2Proof.Machine.execInputInvalid mv s
  | .returnComplete lostUnits => Sys2Proof.Machine.execReturnComplete lostUnits s
  | .returnWaitTimeout => Sys2Proof.Machine.execReturnWaitTimeout s
  | .gaugeSample volts amps temp => Sys2Proof.Machine.execGaugeSample volts amps temp s
  | .gaugeRecompute => Sys2Proof.Machine.execGaugeRecompute s
  | .restWindowEnd ocv => Sys2Proof.Machine.execRestWindowEnd ocv s
  | .forcedRestDue => Sys2Proof.Machine.execForcedRestDue s
  | .uncertaintyHourly => Sys2Proof.Machine.execUncertaintyHourly s
  | .estimateDisagree => Sys2Proof.Machine.execEstimateDisagree s
  | .hucZNow => Sys2Proof.Machine.execHucZNow s
  | .impedanceStepStart => Sys2Proof.Machine.execImpedanceStepStart s
  | .impedanceMeasure dv di => Sys2Proof.Machine.execImpedanceMeasure dv di s
  | .impedanceStepEnd => Sys2Proof.Machine.execImpedanceStepEnd s
  | .packHotTimeout => Sys2Proof.Machine.execPackHotTimeout s
  | .chargeTimeout => Sys2Proof.Machine.execChargeTimeout s
  | .packInsert found => Sys2Proof.Machine.execPackInsert found s
  | .packRemove => Sys2Proof.Machine.execPackRemove s
  | .hucLearnNow => Sys2Proof.Machine.execHucLearnNow s
  | .learnStart => Sys2Proof.Machine.execLearnStart s
  | .learnRestEnd ocv => Sys2Proof.Machine.execLearnRestEnd ocv s
  | .hucRestNow => Sys2Proof.Machine.execHucRestNow s
  | .lifeRecordPeriod => Sys2Proof.Machine.execLifeRecordPeriod s
  | .railOutOfWindow rail dir mv ns => Sys2Proof.Machine.execRailOutOfWindow rail dir mv ns s
  | .aoPowerOnReset => Sys2Proof.Machine.execAoPowerOnReset s
  | .powerUpStart split recover test => Sys2Proof.Machine.execPowerUpStart split recover test s
  | .railPowerGood rail => Sys2Proof.Machine.execRailPowerGood rail s
  | .railSettleDone rail env => Sys2Proof.Machine.execRailSettleDone rail env s
  | .bootEnd => Sys2Proof.Machine.execBootEnd s
  | .partialParityRebuildEnd found => Sys2Proof.Machine.execPartialParityRebuildEnd found s
  | .powerGoodTimeout rail => Sys2Proof.Machine.execPowerGoodTimeout rail s
  | .offFlushTimeout => Sys2Proof.Machine.execOffFlushTimeout s
  | .flashReadyWaitEnd => Sys2Proof.Machine.execFlashReadyWaitEnd s
  | .railDischarged rail => Sys2Proof.Machine.execRailDischarged rail s
  | .dischargeTimeout rail => Sys2Proof.Machine.execDischargeTimeout rail s
  | .psqOff => Sys2Proof.Machine.execPsqOff s
  | .psqRstoPulse bits => Sys2Proof.Machine.execPsqRstoPulse bits s
  | .rstoStretchExpiry output => Sys2Proof.Machine.execRstoStretchExpiry output s
  | .droopEngage sensor mv => Sys2Proof.Machine.execDroopEngage sensor mv s
  | .droopRelease => Sys2Proof.Machine.execDroopRelease s
  | .droopLong => Sys2Proof.Machine.execDroopLong s
  | .modeTargetRun => Sys2Proof.Machine.execModeTargetRun s
  | .modeTargetService => Sys2Proof.Machine.execModeTargetService s
  | .holdRequest => Sys2Proof.Machine.execHoldRequest s
  | .holdRelease => Sys2Proof.Machine.execHoldRelease s
  | .thermAck => Sys2Proof.Machine.execThermAck s
  | .restIdleExpiry l12 idleMs noSref => Sys2Proof.Machine.execRestIdleExpiry l12 idleMs noSref s
  | .restEntryComplete => Sys2Proof.Machine.execRestEntryComplete s
  | .clkreqAssert port => Sys2Proof.Machine.execClkreqAssert port s
  | .causewaySignalDetect port => Sys2Proof.Machine.execCausewaySignalDetect port s
  | .smbusAddressMatch => Sys2Proof.Machine.execSmbusAddressMatch s
  | .wakeStepDone us powerGood => Sys2Proof.Machine.execWakeStepDone us powerGood s
  | .padRelease groups => Sys2Proof.Machine.execPadRelease groups s
  | .padReleaseTimeout => Sys2Proof.Machine.execPadReleaseTimeout s
  | .watchEntry => Sys2Proof.Machine.execWatchEntry s
  | .watchRound inputMv packMv temp present => Sys2Proof.Machine.execWatchRound inputMv packMv temp present s
  | .watchInputSample mv => Sys2Proof.Machine.execWatchInputSample mv s
  | .watchGaugeWake byCurrent => Sys2Proof.Machine.execWatchGaugeWake byCurrent s
  | .watchGaugeSleep => Sys2Proof.Machine.execWatchGaugeSleep s
  | .dramRequest ch req => Sys2Proof.Machine.execDramRequest ch req s
  | .dramReadComplete ch outcome => Sys2Proof.Machine.execDramReadComplete ch outcome s
  | .dramFence ch source => Sys2Proof.Machine.execDramFence ch source s
  | .dramRefresh ch bank => Sys2Proof.Machine.execDramRefresh ch bank s
  | .mr4Poll ch value => Sys2Proof.Machine.execMr4Poll ch value s
  | .dramAlert ch => Sys2Proof.Machine.execDramAlert ch s
  | .dramRetrainEnd ch alerts => Sys2Proof.Machine.execDramRetrainEnd ch alerts s
  | .dramStrobeTimeout ch => Sys2Proof.Machine.execDramStrobeTimeout ch s
  | .dramSoftRepair ch index resource => Sys2Proof.Machine.execDramSoftRepair ch index resource s
  | .dramRepairEnd ch bad => Sys2Proof.Machine.execDramRepairEnd ch bad s
  | .dramPatrolScrub ch outcome => Sys2Proof.Machine.execDramPatrolScrub ch outcome s
  | .dmcScrubGo value => Sys2Proof.Machine.execDmcScrubGo value s
  | .dramScrubRangeEnd ch corrected uncorrectable => Sys2Proof.Machine.execDramScrubRangeEnd ch corrected uncorrectable s
  | .sramCorrectedWord mac word scrub writes => Sys2Proof.Machine.execSramCorrectedWord mac word scrub writes s
  | .sramUncorrectableWord mac word kind master inHandler table ctx writes => Sys2Proof.Machine.execSramUncorrectableWord mac word kind master inHandler table ctx writes s
  | .mpuDmaRearm value => Sys2Proof.Machine.execMpuDmaRearm value s
  | .mpuScrubGo value => Sys2Proof.Machine.execMpuScrubGo value s
  | .sramScrubEnd writes => Sys2Proof.Machine.execSramScrubEnd writes s
  | .causewayTrained port rate => Sys2Proof.Machine.execCausewayTrained port rate s
  | .helloTimer port => Sys2Proof.Machine.execHelloTimer port s
  | .helloReceived port hello => Sys2Proof.Machine.execHelloReceived port hello s
  | .helloDeadTimeout port => Sys2Proof.Machine.execHelloDeadTimeout port s
  | .blockLockLoss port => Sys2Proof.Machine.execBlockLockLoss port s
  | .lsaReceived port lsa => Sys2Proof.Machine.execLsaReceived port lsa s
  | .lsaRefreshTimer => Sys2Proof.Machine.execLsaRefreshTimer s
  | .lsaAgeOut node => Sys2Proof.Machine.execLsaAgeOut node s
  | .pathRecomputeDone => Sys2Proof.Machine.execPathRecomputeDone s
  | .ackTimer port => Sys2Proof.Machine.execAckTimer port s
  | .ackReceived port seq => Sys2Proof.Machine.execAckReceived port seq s
  | .nakReceived port seq => Sys2Proof.Machine.execNakReceived port seq s
  | .creditReceived port vc credits => Sys2Proof.Machine.execCreditReceived port vc credits s
  | .creditReturnTimer port => Sys2Proof.Machine.execCreditReturnTimer port s
  | .transitFrame port frame => Sys2Proof.Machine.execTransitFrame port frame s
  | .reqReceived port frame => Sys2Proof.Machine.execReqReceived port frame s
  | .replReceived port frame => Sys2Proof.Machine.execReplReceived port frame s
  | .copyReceived port frame => Sys2Proof.Machine.execCopyReceived port frame s
  | .dataReceived port frame => Sys2Proof.Machine.execDataReceived port frame s
  | .rspReceived port frame => Sys2Proof.Machine.execRspReceived port frame s
  | .rdataReceived port frame => Sys2Proof.Machine.execRdataReceived port frame s
  | .mgmtReceived port frame => Sys2Proof.Machine.execMgmtReceived port frame s
  | .mgmtRspReceived port frame => Sys2Proof.Machine.execMgmtRspReceived port frame s
  | .e2eTimeout tag => Sys2Proof.Machine.execE2eTimeout tag s
  | .dupEntryExpiry entry => Sys2Proof.Machine.execDupEntryExpiry entry s
  | .copyPieceSend copy data => Sys2Proof.Machine.execCopyPieceSend copy data s
  | .jnrWakeTx ports => Sys2Proof.Machine.execJnrWakeTx ports s
  | .bindingWakeTimer binding => Sys2Proof.Machine.execBindingWakeTimer binding s
  | .jnrCfgWrite value => Sys2Proof.Machine.execJnrCfgWrite value s
  | .jnrBindWrite binding word value => Sys2Proof.Machine.execJnrBindWrite binding word value s
  | .errorReport addr master type cls space => Sys2Proof.Machine.execErrorReport addr master type cls space s
  | .faultDumpTimeout => Sys2Proof.Machine.execFaultDumpTimeout s
  | .restartCountReset => Sys2Proof.Machine.execRestartCountReset s
  | .fclCaptureClear => Sys2Proof.Machine.execFclCaptureClear s
  | .eventDispatch => Sys2Proof.Machine.execEventDispatch s
  | .logRecordWrite => Sys2Proof.Machine.execLogRecordWrite s
  | .logRepeatFlush => Sys2Proof.Machine.execLogRepeatFlush s
  | .milestoneLineWrite line pulses ok => Sys2Proof.Machine.execMilestoneLineWrite line pulses ok s
  | .epochHeaderWrite => Sys2Proof.Machine.execEpochHeaderWrite s
  | .counterLineWrite => Sys2Proof.Machine.execCounterLineWrite s
  | .operatingHoursStep => Sys2Proof.Machine.execOperatingHoursStep s
  | .msmLogDataRead port size off => Sys2Proof.Machine.execMsmLogDataRead port size off s
  | .msmWinDataRead port size off => Sys2Proof.Machine.execMsmWinDataRead port size off s
  | .msmReportClr => Sys2Proof.Machine.execMsmReportClr s
  | .evrQclr => Sys2Proof.Machine.execEvrQclr s
  | .housekeepingRound r => Sys2Proof.Machine.execHousekeepingRound r s
  | .thermalTrip sensor => Sys2Proof.Machine.execThermalTrip sensor s
  | .firmwareStoreRead line bits core branch => Sys2Proof.Machine.execFirmwareStoreRead line bits core branch s
  | .firmwareSlotProgrammed ok => Sys2Proof.Machine.execFirmwareSlotProgrammed ok s
  | .trialConfirm => Sys2Proof.Machine.execTrialConfirm s
  | .activationComplete => Sys2Proof.Machine.execActivationComplete s
  | .activationTimeout => Sys2Proof.Machine.execActivationTimeout s
  | .coreHalt core cause => Sys2Proof.Machine.execCoreHalt core cause s
  | .configCommitTimer => Sys2Proof.Machine.execConfigCommitTimer s
  | .configCommitEnd => Sys2Proof.Machine.execConfigCommitEnd s
  | .getIdentity p => Sys2Proof.Machine.execGetIdentity p s
  | .getConfigurationReport p => Sys2Proof.Machine.execGetConfigurationReport p s
  | .getNamespaceIdentify p => Sys2Proof.Machine.execGetNamespaceIdentify p s
  | .readRegisters p => Sys2Proof.Machine.execReadRegisters p s
  | .writeRegister p => Sys2Proof.Machine.execWriteRegister p s
  | .commitConfiguration p => Sys2Proof.Machine.execCommitConfiguration p s
  | .getRecordStatus p => Sys2Proof.Machine.execGetRecordStatus p s
  | .setSliceCount p => Sys2Proof.Machine.execSetSliceCount p s
  | .bindPasid p => Sys2Proof.Machine.execBindPasid p s
  | .setAccessBitmap p => Sys2Proof.Machine.execSetAccessBitmap p s
  | .resetSlice p => Sys2Proof.Machine.execResetSlice p s
  | .setSliceBudgets p => Sys2Proof.Machine.execSetSliceBudgets p s
  | .getSliceStatus p => Sys2Proof.Machine.execGetSliceStatus p s
  | .waypointCommand p => Sys2Proof.Machine.execWaypointCommand p s
  | .setRoute p => Sys2Proof.Machine.execSetRoute p s
  | .setProfile p => Sys2Proof.Machine.execSetProfile p s
  | .setNamespaceProfile p => Sys2Proof.Machine.execSetNamespaceProfile p s
  | .getPackStatus p => Sys2Proof.Machine.execGetPackStatus p s
  | .readPackHistory p => Sys2Proof.Machine.execReadPackHistory p s
  | .setCharging p => Sys2Proof.Machine.execSetCharging p s
  | .requestSelfTest p => Sys2Proof.Machine.execRequestSelfTest p s
  | .queryTicket p => Sys2Proof.Machine.execQueryTicket p s
  | .cancelTicket p => Sys2Proof.Machine.execCancelTicket p s
  | .ticketExpiry ticket => Sys2Proof.Machine.execTicketExpiry ticket s
  | .mgiTclr => Sys2Proof.Machine.execMgiTclr s
  | .readLog p => Sys2Proof.Machine.execReadLog p s
  | .writeAnnotation p => Sys2Proof.Machine.execWriteAnnotation p s
  | .readEventQueue p => Sys2Proof.Machine.execReadEventQueue p s
  | .readDirtyEpochReport p => Sys2Proof.Machine.execReadDirtyEpochReport p s
  | .clearDirtyEpochReport p => Sys2Proof.Machine.execClearDirtyEpochReport p s
  | .readLateFaultRecords p => Sys2Proof.Machine.execReadLateFaultRecords p s
  | .setNode p => Sys2Proof.Machine.execSetNode p s
  | .setNodeSlice p => Sys2Proof.Machine.execSetNodeSlice p s
  | .bindNamespace p => Sys2Proof.Machine.execBindNamespace p s
  | .unbindNamespace p => Sys2Proof.Machine.execUnbindNamespace p s
  | .peerZoneCopy p => Sys2Proof.Machine.execPeerZoneCopy p s
  | .getFabricStatus p => Sys2Proof.Machine.execGetFabricStatus p s
  | .downloadFirmware p hdr => Sys2Proof.Machine.execDownloadFirmware p hdr s
  | .commitFirmware p hdr => Sys2Proof.Machine.execCommitFirmware p hdr s
  | .getSlotInfo p => Sys2Proof.Machine.execGetSlotInfo p s
  | .acknowledgeThermalShutdown p => Sys2Proof.Machine.execAcknowledgeThermalShutdown p s
  | .powerOff p => Sys2Proof.Machine.execPowerOff p s
  | .setMode p => Sys2Proof.Machine.execSetMode p s
  | .getThermalAndPower p => Sys2Proof.Machine.execGetThermalAndPower p s
  | .rawRead p data => Sys2Proof.Machine.execRawRead p data s
  | .rawProgram p => Sys2Proof.Machine.execRawProgram p s
  | .rawErase p => Sys2Proof.Machine.execRawErase p s
  | .setBadColumnRange p => Sys2Proof.Machine.execSetBadColumnRange p s
  | .declareDieFailed p => Sys2Proof.Machine.execDeclareDieFailed p s
  | .readNvmeMiDataStructure type id => Sys2Proof.Machine.execReadNvmeMiDataStructure type id s
  | .subsystemHealthStatusPoll clear => Sys2Proof.Machine.execSubsystemHealthStatusPoll clear s
  | .controllerHealthStatusPoll controller => Sys2Proof.Machine.execControllerHealthStatusPoll controller s
  | .nvmeMiVendorC1 p => Sys2Proof.Machine.execNvmeMiVendorC1 p s
  | .bypass tdi => Sys2Proof.Machine.execBypass tdi s
  | .idcode tdi => Sys2Proof.Machine.execIdcode tdi s
  | .samplePreload pins tdi => Sys2Proof.Machine.execSamplePreload pins tdi s
  | .extest pins tdi => Sys2Proof.Machine.execExtest pins tdi s
  | .clamp tdi => Sys2Proof.Machine.execClamp tdi s
  | .highz tdi => Sys2Proof.Machine.execHighz tdi s
  | .qenClrCnt => Sys2Proof.Machine.execQenClrCnt s
  | .qenClrPeak => Sys2Proof.Machine.execQenClrPeak s
  | .slmClrCnt => Sys2Proof.Machine.execSlmClrCnt s
  | .tlgClrCnt => Sys2Proof.Machine.execTlgClrCnt s
  | .wptClrCnt => Sys2Proof.Machine.execWptClrCnt s
  | .zneClrCnt => Sys2Proof.Machine.execZneClrCnt s
  | .wcuClrCnt => Sys2Proof.Machine.execWcuClrCnt s
  | .bplClrCnt => Sys2Proof.Machine.execBplClrCnt s
  | .fsqClrCnt ch => Sys2Proof.Machine.execFsqClrCnt ch s
  | .dscClrCnt => Sys2Proof.Machine.execDscClrCnt s
  | .sdfClrCnt ch => Sys2Proof.Machine.execSdfClrCnt ch s
  | .ldcClrCnt => Sys2Proof.Machine.execLdcClrCnt s
  | .xltClrCnt => Sys2Proof.Machine.execXltClrCnt s
  | .hucClrCnt => Sys2Proof.Machine.execHucClrCnt s
  | .psqClrCnt => Sys2Proof.Machine.execPsqClrCnt s
  | .drgClrCnt => Sys2Proof.Machine.execDrgClrCnt s
  | .pscClrCnt => Sys2Proof.Machine.execPscClrCnt s
  | .dmcClrCnt => Sys2Proof.Machine.execDmcClrCnt s
  | .mpuClrCnt => Sys2Proof.Machine.execMpuClrCnt s
  | .jnrClrCnt => Sys2Proof.Machine.execJnrClrCnt s
  | .fclClrCnt => Sys2Proof.Machine.execFclClrCnt s
  | .msmClrCnt => Sys2Proof.Machine.execMsmClrCnt s
  | .thmClrCnt => Sys2Proof.Machine.execThmClrCnt s
  | .fwsClrCnt => Sys2Proof.Machine.execFwsClrCnt s
  | .fwcClrCnt => Sys2Proof.Machine.execFwcClrCnt s
  | .holdUpBusArmed => Sys2Proof.Machine.execHoldUpBusArmed s
  | .aerErrorLogged port severity header => Sys2Proof.Machine.execAerErrorLogged port severity header s
  | .frameDiscarded port reason seq vc units => Sys2Proof.Machine.execFrameDiscarded port reason seq vc units s
  | .pasidEnableClear port => Sys2Proof.Machine.execPasidEnableClear port s

end Sys2Proof.Machine
end

