-- ==== Sys2Proof/Machine/Tick.lean ====
section
/-!
DEFINITION. What the block does with no command: the always-on counter counts a nanosecond, operating time goes on, aggregated
interrupts whose time has run out are sent, and the management interface sends the replies that have been decided.
Assumption log: DESIGN CHOICE (1).
-/

namespace Sys2Proof.Machine

/-- Feature settings that dies run end a microsecond after their start (R482, Table 06.4). -/
def State.endSettings (s : State) : State :=
  let due (di : Die) : Option Running := match di.run with
    | some r => if r.op.kind = .setting ∧ r.since + r.op.estimate ≤ s.now then some r else none
    | none => none
  s.each (s.fl.dies.filterMap fun e => (due e.2).map fun r => (e.1, r)) fun e s => s.arrayIdle (e.1 / 32) (e.1 % 32) e.2

/-- What the clock alone brings about on chip: BUSY of a waypoint READ or WRITE ends (R113), DRAM writes age (R333), settings end, an immediate
activation whose commands have completed goes on (R418). -/
def State.tick (s : State) : State :=
  let s := if s.flag WPT_STATUS_BUSY && s.wpt.busy.isNone && decide (s.wpt.busyUntil ≤ s.now) then s.set WPT_STATUS_BUSY 0 else s
  let work (c : DChan) : Bool := !(c.waiting.isEmpty && c.writes.isEmpty && c.reads.isEmpty && c.answered.isEmpty)
  let s := s.each ((s.mm.chans.filter fun e => work e.2).map (·.1)) fun d s =>
    if s.chLive d && !s.flag DMC_CH_STAT_SREF d then (s.dramService d).takeAnswered d else s
  s.endSettings.activationReady

/-- One count of the always-on counter, which stops only while AO is unpowered (R27, R395, R48, R434). -/
def idle (s : State) : State :=
  if !s.pw.ao then s
  else
    let n := s.now + 1
    let s := if s.coreOn ∧ n % 1000000 = 0 then
        { s with ms := { s.ms with opMs := s.ms.opMs + 1 }, fw := { s.fw with trialMs := s.fw.trialMs + bNat (s.flag FWS_STATUS_TRIAL && s.inModes [.run, .hold]) }, fc := { s.fc with runMs := s.fc.runMs + bNat (s.mode == .run) } } else s
    s.after n (({ s with now := n }).when s.coreOn State.tick).sendAggregated.mgi

end Sys2Proof.Machine
end

