-- ==== Sys2Proof/Machine/Step.lean ====
section
/-!
DEFINITION. One step of the block: the command at the front of the queue is taken and has its effect; with an empty
queue the block idles for one count of the always-on counter.
Assumption log: DEDUCED (74); DESIGN CHOICE (1).
-/

namespace Sys2Proof.Machine

/-- One step: the command at the front of the queue, run on the state with the queue's rest; an empty queue idles. -/
def step (s : State) : Host.Outcome State Fault Refusal :=
  match s.pending with
  | [] => .next (idle s)
  | c :: rest => exec c { s with pending := rest }

/-- The table gives no row any bits, so no word spells a command and nothing is placed. -/
def State.withFetchWord (s : State) (nbits w : Nat) : State :=
  match Sys2Proof.decodeTableWord nbits w with
  | none => s
  | some c => { s with pending := c :: s.pending }

end Sys2Proof.Machine
end

