-- ==== Sys2Proof/WellFormed.lean ====
section
/-!
DEFINITION. Well-formed commands: operands within the ranges the spec's fields and counts give them (two host ports, four
causeway ports, 64 flash channels of up to 32 dies, four DRAM channels, 256 slices and so on).  The meanings do not ask for it: an
operand outside its range names nothing, and the command then has no effect.
Assumption log: DEDUCED (6).
-/

namespace Sys2Proof

/-- A list of bytes. -/
abbrev isBytes (l : List Nat) : Prop := ∀ b ∈ l, b < 256

/-- The fields of a submission queue entry (R39). -/
abbrev SqEntry.wf (e : SqEntry) : Prop :=
  e.opc < 256 ∧ e.cid < 65536 ∧ e.nsid < 2 ^ 32 ∧ e.dw10 < 2 ^ 32 ∧ e.dw11 < 2 ^ 32 ∧ e.dw12 < 2 ^ 32 ∧ e.dw13 < 2 ^ 32
    ∧ e.dw14 < 2 ^ 32 ∧ e.dw15 < 2 ^ 32

/-- The data of Namespace Management Create (R56). -/
abbrev NsData.wf (d : NsData) : Prop := d.nsze < 2 ^ 64 ∧ d.ncap < 2 ^ 64 ∧ d.flbas < 256 ∧ d.csi < 256

/-- What a die of a channel sends in its training. -/
abbrev DieTraining.wf (t : DieTraining) : Prop :=
  t.die < 32 ∧ ∀ p ∈ t.tries, (∀ l ∈ p.dual, isBytes l) ∧ ∀ l ∈ p.single, isBytes l

/-- The areas of a pack's EEPROM (R281). -/
abbrev PackFound.wf (p : PackFound) : Prop :=
  isBytes p.ident ∧ p.ident.length = 256 ∧ isBytes p.lifeA ∧ p.lifeA.length = 64 ∧ isBytes p.lifeB ∧ p.lifeB.length = 64
    ∧ isBytes p.history ∧ p.history.length = 1536

/-- What BOOT finds: present dies as 32-bit masks of 64 channels, lost channels by number. -/
abbrev BootEnv.wf (e : BootEnv) : Prop :=
  e.dies.length = 64 ∧ (∀ m ∈ e.dies, m < 2 ^ 32) ∧ (∀ c ∈ e.failed, c < 64) ∧ (∀ d ∈ e.dramLost, d < 4)
    ∧ (∀ k ∈ e.goodSlots, k = 1 ∨ k = 2) ∧ (∀ c ∈ e.coresFailed, c < 17) ∧ (∀ p ∈ e.pack, p.wf)

/-- A DRAM request (R332): five admission classes. -/
abbrev DramReq.wf (r : DramReq) : Prop := r.cls < 5

/-- What a DRAM read found. -/
abbrev DramOutcome.wf (o : DramOutcome) : Prop := o.symbols ≤ 80

/-- The fields of a HELLO payload (Table 13.2). -/
abbrev Hello.wf (h : Hello) : Prop :=
  h.serial < 2 ^ 64 ∧ h.node < 65536 ∧ h.domain < 65536 ∧ h.port < 256 ∧ h.portState < 256

/-- The fields of an LSA payload (Table 13.2). -/
abbrev Lsa.wf (l : Lsa) : Prop :=
  l.linkSeq < 2 ^ 32 ∧ l.node < 65536 ∧ l.seq < 2 ^ 32 ∧ l.serial < 2 ^ 64
    ∧ ∀ k ∈ l.links, k.nbr < 65536 ∧ k.lport < 256 ∧ k.nport < 256

/-- The fields of a frame header and its payload (Table 13.1). -/
abbrev Frame.wf (f : Frame) : Prop :=
  f.type < 256 ∧ f.flags < 4 ∧ f.dst < 4096 ∧ f.src < 4096 ∧ f.hops < 256 ∧ f.vc < 3 ∧ f.tag < 65536 ∧ f.seq < 2 ^ 32
    ∧ f.offset < 2 ^ 32 ∧ f.domain < 65536 ∧ f.payload.length ≤ 4096 ∧ isBytes f.payload

/-- The readings of a housekeeping round (R403). -/
abbrev Round.wf (r : Round) : Prop := r.die.length = 12 ∧ r.ext.length = 8 ∧ r.railMv.length = 12

/-- The fields of an image header (R416). -/
abbrev ImageHeader.wf (h : ImageHeader) : Prop := h.slot < 256 ∧ h.rev < 2 ^ 64

/-- A packet's carrier and bytes (R430). -/
abbrev Packet.wf (p : Packet) : Prop := p.carrier < 3 ∧ isBytes p.bytes

/-- An operand set is well formed: every operand lies in the range its field, or the number of its kind that the device has, gives it. -/
def Instr.wf : Instr → Prop
  | .registerWrite port _ size addr value => (port < 2) ∧ (1 ≤ size ∧ size ≤ 4) ∧ (addr < 2 ^ 26) ∧ (value < 2 ^ 32)
  | .uptimeLoRead port size off => (port < 2) ∧ (1 ≤ size ∧ size ≤ 4) ∧ (off < 4)
  | .recTotalLoRead port size off => (port < 2) ∧ (1 ≤ size ∧ size ≤ 4) ∧ (off < 4)
  | .ckptNumLoRead port size off => (port < 2) ∧ (1 ≤ size ∧ size ≤ 4) ∧ (off < 4)
  | .firstTsLoRead port size off => (port < 2) ∧ (1 ≤ size ∧ size ≤ 4) ∧ (off < 4)
  | .cfgSeqLoRead port size off => (port < 2) ∧ (1 ≤ size ∧ size ≤ 4) ∧ (off < 4)
  | .linkUp port rate width _ => (port < 2) ∧ (rate ≤ 2) ∧ (width ≤ 16)
  | .linkDown port => port < 2
  | .functionLevelReset port => port < 2
  | .perstAssert port => port < 2
  | .perstDeassert port => port < 2
  | .ccEnSet port iosqes iocqes ams asqs acqs => (port < 2) ∧ (iosqes < 16) ∧ (iocqes < 16) ∧ (ams < 8) ∧ (asqs < 4096) ∧ (acqs < 4096)
  | .ccEnClear port => port < 2
  | .normalShutdown port => port < 2
  | .abruptShutdown port => port < 2
  | .shutdownTimeout port => port < 2
  | .shutdownDone port => port < 2
  | .sqTailDoorbell port qid value pasid => (port < 2) ∧ (qid < 65536) ∧ (value < 2 ^ 32) ∧ (∀ p ∈ pasid, p < 2 ^ 20)
  | .cqHeadDoorbell port qid value pasid => (port < 2) ∧ (qid < 65536) ∧ (value < 2 ^ 32) ∧ (∀ p ∈ pasid, p < 2 ^ 20)
  | .commandFetch port entry => (port < 2) ∧ entry.wf
  | .completionPost port qid => (port < 2) ∧ (qid < 65536)
  | .cqStallTimeout port qid => (port < 2) ∧ (qid < 65536)
  | .createIoSq _ => True
  | .createIoCq _ => True
  | .deleteIoSq _ => True
  | .deleteIoCq _ => True
  | .getLogPage _ => True
  | .identify _ => True
  | .abort _ => True
  | .setFeatures _ => True
  | .getFeatures _ => True
  | .asyncEventRequest _ => True
  | .nsCreate _ data => data.wf
  | .nsDelete _ => True
  | .namespaceAttachment _ controllers => ∀ c ∈ controllers, c < 65536
  | .firmwareImageDownload _ data => isBytes data
  | .firmwareCommit _ hdr => hdr.wf
  | .firmwareActivateImmediate _ => True
  | .directiveSend _ => True
  | .directiveReceive _ => True
  | .mgmtPacketCarrier _ fetched _ => ∀ l ∈ fetched, isBytes l
  | .ioRead _ => True
  | .ioWrite _ _ _ => True
  | .writeZeroes _ _ => True
  | .zoneAppend _ _ _ => True
  | .flush _ => True
  | .datasetManagement _ ranges => ∀ r ∈ ranges, r.1 < 2 ^ 64 ∧ r.2 < 2 ^ 32
  | .zoneOpen _ _ => True
  | .zoneClose _ => True
  | .zoneFinish _ => True
  | .zoneReset _ => True
  | .zoneOffline _ => True
  | .zoneManagementReceive _ => True
  | .mirrorWriteHeld _ => True
  | .sliceResetRequest slice go => (slice < 256) ∧ (go < 2 ^ 32)
  | .sliceResetComplete slice => slice < 256
  | .tokenRefill => True
  | .readAroundBudgetExpiry _ => True
  | .busyReadAround _ => True
  | .reconstructionComplete _ => True
  | .wptRead index => index < 65536
  | .wptWrite index => index < 65536
  | .wptInsert index => index < 65536
  | .wptDelete index => index < 65536
  | .wptMoveComplete => True
  | .wptScrubTick _ => True
  | .accumulatorIdleSpill acc => acc < 3072
  | .flushIssue => True
  | .flushToEmptyEnd => True
  | .dirtyLimitRecompute => True
  | .dirtyLimitRaise => True
  | .writeThroughExit => True
  | .writeThroughForce _ => True
  | .bufferAllocate pool owner slice _ => (pool < 2) ∧ (owner < 256) ∧ (slice < 256)
  | .freeListRebuildEnd list => list < 5
  | .bufferRelease pool index owner => (pool < 2) ∧ (index < 2 ^ 20) ∧ (owner < 256)
  | .bufferTransfer pool index owner newOwner => (pool < 2) ∧ (index < 2 ^ 20) ∧ (owner < 256) ∧ (newOwner < 256)
  | .bufferShare pool index owner _ => (pool < 2) ∧ (index < 2 ^ 20) ∧ (owner < 256)
  | .bufferDrop pool index owner => (pool < 2) ∧ (index < 2 ^ 20) ∧ (owner < 256)
  | .dieOperationStart ch die => (ch < 64) ∧ (die < 32)
  | .programComplete ch die _ => (ch < 64) ∧ (die < 32)
  | .eraseComplete ch die _ => (ch < 64) ∧ (die < 32)
  | .hardReadComplete ch die page => (ch < 64) ∧ (die < 32) ∧ (page < 2 ^ 147456)
  | .sampleReadComplete ch die => (ch < 64) ∧ (die < 32)
  | .burstReceived ch bytes => (ch < 64) ∧ (isBytes bytes)
  | .sampleOutEnd ch => ch < 64
  | .codewordDecoded _ _ word _ => word < 2 ^ 36864
  | .codewordDecodeFail _ => True
  | .ladderStepBudgetExpiry _ => True
  | .programSuspend ch die => (ch < 64) ∧ (die < 32)
  | .eraseSuspend ch die => (ch < 64) ∧ (die < 32)
  | .suspendComplete ch die => (ch < 64) ∧ (die < 32)
  | .programResume ch die => (ch < 64) ∧ (die < 32)
  | .eraseResume ch die => (ch < 64) ∧ (die < 32)
  | .dieReadyTimeout ch die _ => (ch < 64) ∧ (die < 32)
  | .rebuildWordline ch die => (ch < 64) ∧ (die < 32)
  | .retrainPeriodExpiry ch => ch < 64
  | .retrainingSlotStart => True
  | .retrainingSlotEnd eye burst => (eye ≤ 64) ∧ (isBytes burst)
  | .slotDeferTimeout => True
  | .fullRetrainingStart ch => ch < 64
  | .fullRetrainingEnd ch _ training => (ch < 64) ∧ (∀ t ∈ training, t.wf)
  | .sdfClassClr ch => ch < 64
  | .sdfBadcolWrite ch value => (ch < 64) ∧ (value < 2 ^ 32)
  | .ldcStNow => True
  | .ldcSelftestPeriod => True
  | .ldcSelftestEnd _ => True
  | .reallocationAccept ch die block => (ch < 64) ∧ (die < 32) ∧ (block < 8192)
  | .relocationStep => True
  | .xltRelocOldest _ => True
  | .xltCkptNow => True
  | .checkpointTimer => True
  | .checkpointCommit => True
  | .checkpointLateTimeout => True
  | .mapRestartEnd _ _ _ => True
  | .mapRebuildEnd => True
  | .inputLoss => True
  | .dumpPaceTick => True
  | .dumpProgramComplete ch die outcome => (ch < 64) ∧ (die < 32) ∧ (outcome ≤ 2)
  | .dumpCommit => True
  | .dumpAbandon => True
  | .dumpSupersede => True
  | .inputValid _ => True
  | .inputInvalid _ => True
  | .returnComplete _ => True
  | .returnWaitTimeout => True
  | .gaugeSample _ _ _ => True
  | .gaugeRecompute => True
  | .restWindowEnd _ => True
  | .forcedRestDue => True
  | .uncertaintyHourly => True
  | .estimateDisagree => True
  | .hucZNow => True
  | .impedanceStepStart => True
  | .impedanceMeasure _ _ => True
  | .impedanceStepEnd => True
  | .packHotTimeout => True
  | .chargeTimeout => True
  | .packInsert found => found.wf
  | .packRemove => True
  | .hucLearnNow => True
  | .learnStart => True
  | .learnRestEnd _ => True
  | .hucRestNow => True
  | .lifeRecordPeriod => True
  | .railOutOfWindow rail dir _ _ => (rail < 12) ∧ (1 ≤ dir ∧ dir ≤ 3)
  | .aoPowerOnReset => True
  | .powerUpStart _ _ _ => True
  | .railPowerGood rail => rail < 12
  | .railSettleDone rail env => (rail < 12) ∧ env.wf
  | .bootEnd => True
  | .partialParityRebuildEnd _ => True
  | .powerGoodTimeout rail => rail < 12
  | .offFlushTimeout => True
  | .flashReadyWaitEnd => True
  | .railDischarged rail => rail < 12
  | .dischargeTimeout rail => rail < 12
  | .psqOff => True
  | .psqRstoPulse bits => bits < 4
  | .rstoStretchExpiry output => output < 2
  | .droopEngage sensor _ => sensor < 24
  | .droopRelease => True
  | .droopLong => True
  | .modeTargetRun => True
  | .modeTargetService => True
  | .holdRequest => True
  | .holdRelease => True
  | .thermAck => True
  | .restIdleExpiry _ _ _ => True
  | .restEntryComplete => True
  | .clkreqAssert port => port < 2
  | .causewaySignalDetect port => port < 4
  | .smbusAddressMatch => True
  | .wakeStepDone _ _ => True
  | .padRelease groups => groups < 8
  | .padReleaseTimeout => True
  | .watchEntry => True
  | .watchRound _ _ _ _ => True
  | .watchInputSample mv => mv.length = 10
  | .watchGaugeWake _ => True
  | .watchGaugeSleep => True
  | .dramRequest ch req => (ch < 4) ∧ req.wf
  | .dramReadComplete ch outcome => (ch < 4) ∧ outcome.wf
  | .dramFence ch _ => ch < 4
  | .dramRefresh ch bank => (ch < 4) ∧ (bank < 64)
  | .mr4Poll ch value => (ch < 4) ∧ (value < 8)
  | .dramAlert ch => ch < 4
  | .dramRetrainEnd ch _ => ch < 4
  | .dramStrobeTimeout ch => ch < 4
  | .dramSoftRepair ch index _ => (ch < 4) ∧ (index < 64)
  | .dramRepairEnd ch _ => ch < 4
  | .dramPatrolScrub ch outcome => (ch < 4) ∧ outcome.wf
  | .dmcScrubGo value => value < 2 ^ 32
  | .dramScrubRangeEnd ch _ _ => ch < 4
  | .sramCorrectedWord mac word _ _ => (mac < 352) ∧ (word < 2 ^ 15)
  | .sramUncorrectableWord mac word kind master _ _ _ _ => (mac < 352) ∧ (word < 2 ^ 15) ∧ (1 ≤ kind ∧ kind ≤ 5) ∧ (master < 256)
  | .mpuDmaRearm value => value < 2 ^ 32
  | .mpuScrubGo value => value < 2 ^ 32
  | .sramScrubEnd _ => True
  | .causewayTrained port _ => port < 4
  | .helloTimer port => port < 4
  | .helloReceived port hello => (port < 4) ∧ hello.wf
  | .helloDeadTimeout port => port < 4
  | .blockLockLoss port => port < 4
  | .lsaReceived port lsa => (port < 4) ∧ lsa.wf
  | .lsaRefreshTimer => True
  | .lsaAgeOut node => node < 4096
  | .pathRecomputeDone => True
  | .ackTimer port => port < 4
  | .ackReceived port seq => (port < 4) ∧ (seq < 2 ^ 32)
  | .nakReceived port seq => (port < 4) ∧ (seq < 2 ^ 32)
  | .creditReceived port vc credits => (port < 4) ∧ (vc < 3) ∧ (credits < 65536)
  | .creditReturnTimer port => port < 4
  | .transitFrame port frame => (port < 4) ∧ frame.wf
  | .reqReceived port frame => (port < 4) ∧ frame.wf
  | .replReceived port frame => (port < 4) ∧ frame.wf
  | .copyReceived port frame => (port < 4) ∧ frame.wf
  | .dataReceived port frame => (port < 4) ∧ frame.wf
  | .rspReceived port frame => (port < 4) ∧ frame.wf
  | .rdataReceived port frame => (port < 4) ∧ frame.wf
  | .mgmtReceived port frame => (port < 4) ∧ frame.wf
  | .mgmtRspReceived port frame => (port < 4) ∧ frame.wf
  | .e2eTimeout tag => tag < 65536
  | .dupEntryExpiry _ => True
  | .copyPieceSend _ data => data.length ≤ 512
  | .jnrWakeTx ports => ports < 16
  | .bindingWakeTimer binding => binding < 64
  | .jnrCfgWrite value => value < 2 ^ 32
  | .jnrBindWrite binding word value => (binding < 64) ∧ (word < 2) ∧ (value < 2 ^ 32)
  | .errorReport addr master type cls space => (addr < 2 ^ 64) ∧ (master < 256) ∧ (type < 16) ∧ (cls < 4) ∧ (space < 16)
  | .faultDumpTimeout => True
  | .restartCountReset => True
  | .fclCaptureClear => True
  | .eventDispatch => True
  | .logRecordWrite => True
  | .logRepeatFlush => True
  | .milestoneLineWrite line pulses _ => (line < 27648) ∧ (1 ≤ pulses ∧ pulses ≤ 3)
  | .epochHeaderWrite => True
  | .counterLineWrite => True
  | .operatingHoursStep => True
  | .msmLogDataRead port size off => (port < 2) ∧ (1 ≤ size ∧ size ≤ 4) ∧ (off < 4)
  | .msmWinDataRead port size off => (port < 2) ∧ (1 ≤ size ∧ size ≤ 4) ∧ (off < 4)
  | .msmReportClr => True
  | .evrQclr => True
  | .housekeepingRound r => r.wf
  | .thermalTrip sensor => sensor < 12
  | .firmwareStoreRead line _ core _ => (line < 2 ^ 19) ∧ ((core.all fun k => decide (k ≤ 17)) = true)
  | .firmwareSlotProgrammed _ => True
  | .trialConfirm => True
  | .activationComplete => True
  | .activationTimeout => True
  | .coreHalt core _ => core ≤ 17
  | .configCommitTimer => True
  | .configCommitEnd => True
  | .getIdentity p => p.wf
  | .getConfigurationReport p => p.wf
  | .getNamespaceIdentify p => p.wf
  | .readRegisters p => p.wf
  | .writeRegister p => p.wf
  | .commitConfiguration p => p.wf
  | .getRecordStatus p => p.wf
  | .setSliceCount p => p.wf
  | .bindPasid p => p.wf
  | .setAccessBitmap p => p.wf
  | .resetSlice p => p.wf
  | .setSliceBudgets p => p.wf
  | .getSliceStatus p => p.wf
  | .waypointCommand p => p.wf
  | .setRoute p => p.wf
  | .setProfile p => p.wf
  | .setNamespaceProfile p => p.wf
  | .getPackStatus p => p.wf
  | .readPackHistory p => p.wf
  | .setCharging p => p.wf
  | .requestSelfTest p => p.wf
  | .queryTicket p => p.wf
  | .cancelTicket p => p.wf
  | .ticketExpiry ticket => 1 ≤ ticket ∧ ticket < 65536
  | .mgiTclr => True
  | .readLog p => p.wf
  | .writeAnnotation p => p.wf
  | .readEventQueue p => p.wf
  | .readDirtyEpochReport p => p.wf
  | .clearDirtyEpochReport p => p.wf
  | .readLateFaultRecords p => p.wf
  | .setNode p => p.wf
  | .setNodeSlice p => p.wf
  | .bindNamespace p => p.wf
  | .unbindNamespace p => p.wf
  | .peerZoneCopy p => p.wf
  | .getFabricStatus p => p.wf
  | .downloadFirmware p hdr => p.wf ∧ hdr.wf
  | .commitFirmware p hdr => p.wf ∧ hdr.wf
  | .getSlotInfo p => p.wf
  | .acknowledgeThermalShutdown p => p.wf
  | .powerOff p => p.wf
  | .setMode p => p.wf
  | .getThermalAndPower p => p.wf
  | .rawRead p data => p.wf ∧ (isBytes data)
  | .rawProgram p => p.wf
  | .rawErase p => p.wf
  | .setBadColumnRange p => p.wf
  | .declareDieFailed p => p.wf
  | .readNvmeMiDataStructure type id => (type < 256) ∧ (id < 65536)
  | .subsystemHealthStatusPoll _ => True
  | .controllerHealthStatusPoll controller => controller < 65536
  | .nvmeMiVendorC1 p => p.wf
  | .bypass _ => True
  | .idcode _ => True
  | .samplePreload _ _ => True
  | .extest _ _ => True
  | .clamp _ => True
  | .highz _ => True
  | .qenClrCnt => True
  | .qenClrPeak => True
  | .slmClrCnt => True
  | .tlgClrCnt => True
  | .wptClrCnt => True
  | .zneClrCnt => True
  | .wcuClrCnt => True
  | .bplClrCnt => True
  | .fsqClrCnt ch => ch < 64
  | .dscClrCnt => True
  | .sdfClrCnt ch => ch < 64
  | .ldcClrCnt => True
  | .xltClrCnt => True
  | .hucClrCnt => True
  | .psqClrCnt => True
  | .drgClrCnt => True
  | .pscClrCnt => True
  | .dmcClrCnt => True
  | .mpuClrCnt => True
  | .jnrClrCnt => True
  | .fclClrCnt => True
  | .msmClrCnt => True
  | .thmClrCnt => True
  | .fwsClrCnt => True
  | .fwcClrCnt => True
  | .holdUpBusArmed => True
  | .aerErrorLogged port severity header => (port < 2) ∧ (severity ≤ 2) ∧ (header.length = 4)
  | .frameDiscarded port reason seq vc _ => (port < 4) ∧ (reason ≤ 5) ∧ (seq < 2 ^ 32) ∧ (vc < 3)
  | .pasidEnableClear port => port < 2

end Sys2Proof
end

