-- ==== Sys2Proof/Safety.lean ====
section
/-!
DEFINITION. The terms in which claims about the block are made: a state that binds the device, what a command's end leaves standing, what a
command that cannot occur does, the registers a change may reach, and the invariant of every step.
Assumption log: DESIGN CHOICE (5).
-/

namespace Sys2Proof.Machine

/-- The device is bound by the manual: no unchecked host error whose result is unpredictable is present (R10, R448). -/
abbrev Bound (s : State) : Prop := s.unbound = []

/-- The command completes, in a next state of which `P` holds. -/
def Completes (c : Instr) (s : State) (P : State → Prop) : Prop := ∃ t, exec c s = .next t ∧ P t

/-- The command's event cannot occur in `s`: `t` is what comes of no effect at all (only what is shown of the state is shown anew). -/
def NoEffect (s t : State) : Prop := t = s.after s.now s

/-- The bit addresses at which the numbers of contexts are shown (chapter 02, QEN registers). -/
def shownKeys : List Nat := [QEN_CTX_USED.key 0 0, QEN_CTX_PEAK.key 0 0]

/-- No register field other than those at the bit addresses `keys`, and the two that show the contexts in use, has changed. -/
def OnlyRegs (keys : List Nat) (s t : State) : Prop :=
  ∀ k, k ∉ keys → k ∉ shownKeys → t.regs.look k = s.regs.look k

/-- No register field in any block that does not lie in one of the ranges of byte addresses `blocks` has changed, the two that show the
contexts in use apart. -/
def OnlyBlocks (blocks : List (Nat × Nat)) (s t : State) : Prop :=
  ∀ k, (∀ b ∈ blocks, ¬(8 * b.1 ≤ k ∧ k < 8 * b.2)) → k ∉ shownKeys → t.regs.look k = s.regs.look k

/-- What the host side holds is unchanged: controllers, queues, contexts, namespaces, lateness records, slice resets. -/
def KeepsHost (s t : State) : Prop :=
  t.port0 = s.port0 ∧ t.port1 = s.port1 ∧ t.sqs = s.sqs ∧ t.cqs = s.cqs ∧ t.ctxs = s.ctxs ∧ t.nextCtx = s.nextCtx ∧ t.doneQ = s.doneQ
    ∧ t.ns = s.ns ∧ t.late = s.late ∧ t.lateTotal = s.lateTotal ∧ t.resets = s.resets

/-- What holds and places data is unchanged: zones, waypoints, write cache, buffers, flash, readout, decoding, map. -/
def KeepsMedia (s t : State) : Prop :=
  t.zn = s.zn ∧ t.wpt = s.wpt ∧ t.wc = s.wc ∧ t.pool = s.pool ∧ t.fl = s.fl ∧ t.sd = s.sd ∧ t.cd = s.cd ∧ t.xl = s.xl

/-- Supply and modes are unchanged: hold-up pack, rails, mode. -/
def KeepsPower (s t : State) : Prop := t.hu = s.hu ∧ t.pw = s.pw ∧ t.md = s.md

/-- Memories, management, fabric, firmware and the test port are unchanged. -/
def KeepsService (s t : State) : Prop := t.mm = s.mm ∧ t.mg = s.mg ∧ t.fb = s.fb ∧ t.fw = s.fw ∧ t.tp = s.tp

/-- Fault, event, milestone and thermal state is unchanged, but for what an event raised leaves with the event router, and the note of
when a slot became clean. -/
def KeepsFaults (s t : State) : Prop :=
  t.fc = s.fc ∧ t.th = s.th ∧ { t.ms with slots := s.ms.slots } = s.ms ∧ { t.ev with todo := s.ev.todo, fired := s.ev.fired } = s.ev

/-- Everything outside the registers, the event router and what is put out is unchanged. -/
def KeepsAll (s t : State) : Prop := KeepsHost s t ∧ KeepsMedia s t ∧ KeepsPower s t ∧ KeepsService s t ∧ KeepsFaults s t

/-- An event source is raised: its pending bit is set, and it stands among the sources that have come to those the event router has still
to handle (R389). -/
def Raises (src : Nat) (s t : State) : Prop :=
  bit (t.get EVR_PEND (src / 32)) (src % 32) = true ∧ ∃ l, t.ev.todo = s.ev.todo ++ l ∧ ∃ r ∈ l, r.src = src

/-- With the device bound, the command completes: where its event can occur, with the effect `P`, and with no effect where it cannot. -/
def Effect (c : Instr) (s : State) (occurs : Prop) (P : State → Prop) : Prop :=
  Bound s → Completes c s fun t => (occurs → P t) ∧ (¬occurs → NoEffect s t)

/-- The command of a context is complete internally, with this status and dword 0, and its completion entry waits to be posted (R46). -/
def Ended (id : Nat) (st : NvmeStatus) (dw0 : Nat) (t : State) : Prop :=
  (t.ctx id).map (fun c => (c.stage, c.status, c.dw0)) = some (.done, st, dw0) ∧ id ∈ t.doneQ

/-- Outside the contexts and the order in which they completed, nothing has changed and nothing was put out. -/
def Calm (s t : State) : Prop :=
  t.out = s.out ∧ t.port0 = s.port0 ∧ t.port1 = s.port1 ∧ t.sqs = s.sqs ∧ t.cqs = s.cqs ∧ t.nextCtx = s.nextCtx ∧ t.ns = s.ns ∧ t.late = s.late
    ∧ t.resets = s.resets ∧ OnlyRegs [] s t ∧ KeepsMedia s t ∧ KeepsPower s t ∧ KeepsService s t ∧ KeepsFaults s t

/-- The command of a context ends with a status, and nothing else changes. -/
def Answers (id : Nat) (st : NvmeStatus) (s t : State) : Prop := Ended id st 0 t ∧ Calm s t

/-- A fetched admin command of this node, of opcode `opc`, waits in context `id`, and its issuer's event requests do not hold it. -/
abbrev AdminWaits (s : State) (id opc : Nat) (c : Ctx) : Prop :=
  s.adminCtx id opc (fun _ => true) = some c ∧ c.remote = none ∧ c.replWait = false ∧ c.replFailed = false
    ∧ id ∉ s.port0.aers ∧ id ∉ s.port1.aers

/-- A fetched I/O command of this node, of opcode `opc` (and zone send action), waits in context `id`, passes the checks before it is passed
on, and its namespace is bound to no other node. -/
abbrev IoWaits (s : State) (id opc : Nat) (zsa : Option Nat) (c : Ctx) : Prop :=
  s.ioCtx id opc zsa = some c ∧ c.remote = none ∧ c.replWait = false ∧ c.replFailed = false ∧ c.status = .success
    ∧ s.bindingOf c.e.nsid 1 = none ∧ s.bindingOf c.e.nsid 2 = none ∧ s.ioRefusal c = none

/-- A fetched I/O command of this node, of opcode `opc` (and zone send action), waits in context `id`, and fails a check before it is passed on
(R49 to R54, R64, R246). -/
abbrev IoRefused (s : State) (id opc : Nat) (zsa : Option Nat) (c : Ctx) (st : NvmeStatus) : Prop :=
  s.ioCtx id opc zsa = some c ∧ c.remote = none ∧ c.replWait = false ∧ c.replFailed = false ∧ c.status = .success
    ∧ s.bindingOf c.e.nsid 1 = none ∧ s.ioRefusal c = some st

/-- Nothing waits at the zone engine or at the cache. -/
abbrev Quiet (s : State) : Prop := s.zn.adm = [] ∧ s.zn.roPending = []

/-- Nothing waits at the zone engine, no zone is held, the cache holds nothing, and no request waits at a DRAM channel. -/
abbrev Resting (s : State) : Prop := Quiet s ∧ s.zn.zones = [] ∧ s.wc.pairs = [] ∧ ∀ d < 4, (s.dchan d).waiting = []

/-- A counter has counted `n` more, and stops at its greatest value (R391). -/
def Counts (f : Field) (i n : Nat) (s t : State) : Prop := t.get f i = min (s.get f i + n) (2 ^ f.width - 1)

/-- No command is in flight: no context is in use, nothing is admitted, no codeword is being read, no zone waits to go Read Only. -/
abbrev Still (s : State) : Prop := s.ctxs = [] ∧ s.zn.adm = [] ∧ s.zn.roPending = [] ∧ s.cd.cws = []

/-- The rails of the power-up steps between `lo` and `hi` are not enabled. -/
abbrev RailsOff (lo hi : Nat) (s : State) : Prop := ∀ j < hi, lo < j → (s.rail (stepRail j)).enabled = false

/-- Every DRAM channel but `ch` is as it was. -/
def OtherChans (ch : Nat) (s t : State) : Prop := ∀ k, k ≠ ch → t.dchan k = s.dchan k

/-- Of the memories, management, fabric, firmware and the test port only DRAM channel `d` has changed. -/
def OnlyChan (d : Nat) (s t : State) : Prop :=
  (∀ k, k ≠ d → t.dchan k = s.dchan k) ∧ { t.mm with chans := s.mm.chans } = s.mm ∧ t.mg = s.mg ∧ t.fb = s.fb ∧ t.fw = s.fw ∧ t.tp = s.tp

/-- A frame for this node, of its domain, comes in sequence on a port that is UP. -/
abbrev Accepts (p : Nat) (f : Frame) (s : State) : Prop :=
  s.cwState p = cwUp ∧ f.dst = s.nodeId ∧ f.seq = (s.cwPort p).rxSeq ∧ f.domain = s.get JNR_CFG_DOMAIN ∧ f.vc < 3

/-- The frame accepted on port `p` has been counted and the next sequence number is expected. -/
def Accepted (p : Nat) (s t : State) : Prop :=
  (t.cwPort p).rxSeq = ((s.cwPort p).rxSeq + 1) % 2 ^ 32 ∧ t.get CWP_RX_FRAMES p = min (s.get CWP_RX_FRAMES p + 1) (2 ^ CWP_RX_FRAMES.width - 1)

/-- A packet of opcode `opc` arrives over its carrier, passes every check of R432, finds no other packet running or waiting, and starts at
once; its COMMIT flag is clear. -/
abbrev PacketRuns (p : Packet) (opc : Nat) (s : State) : Prop :=
  (p.carrier = 1 ∨ (p.carrier = 0 ∧ (s.adminCtx p.origin 0xC1 fun c => c.port == s.privPort).isSome = true)
      ∨ (p.carrier = 2 ∧ s.portsRun = true ∧ s.flag JNR_CFG_MGMT_EN = true))
    ∧ pkOpcode p.bytes = opc ∧ s.hears p.carrier = true ∧ s.packetFault p = none ∧ s.mg.running = [] ∧ s.mg.waiting = []
    ∧ s.md.mode ≠ .rest ∧ s.md.restStep = none ∧ bit (pkFlags p.bytes) 1 = false

/-- The reply to the packet has been put out, with this status and these parameters (R431). -/
def Replied (p : Packet) (opc st : Nat) (body : List Nat) (s t : State) : Prop :=
  ∃ l m, t.out = l ++ Out.reply p.carrier p.origin (pkTag p.bytes) opc st body :: (m ++ s.out)

/-- The packet has changed neither data, power, memories nor firmware; and, but for what its carrier does to bring the reply, nothing at all
outside the register fields at `keys`. -/
def PacketCalm (keys : List Nat) (p : Packet) (s t : State) : Prop :=
  KeepsMedia s t ∧ KeepsPower s t ∧ t.mm = s.mm ∧ t.fw = s.fw ∧ t.tp = s.tp
    ∧ (p.carrier = 1 → OnlyRegs keys s t ∧ KeepsHost s t ∧ KeepsFaults s t ∧ t.fb = s.fb ∧ { t.mg with nextRun := s.mg.nextRun } = s.mg)

/-- The bytes of an Identify answer; none where it is an error. -/
def identPage : Ident → List Nat
  | .page b => b
  | .error _ => []

/-- The sideband has answered a NVMe-MI command with this status and with bytes of which `P` holds. -/
def MiAnswered (st : Nat) (P : List Nat → Prop) (s t : State) : Prop := ∃ b, t.out = .miReply st b :: s.out ∧ P b

/-- The sideband hears, the device is not on its way into REST, and its firmware runs. -/
abbrev MiServed (s : State) : Prop := s.hears 1 = true ∧ s.fw.bootRom = false ∧ s.md.mode ≠ .rest ∧ s.md.restStep = none

/-- A field whose register has no action of its own on a write, and is no delay-table word. -/
abbrev PlainField (f : Field) (i j : Nat) : Prop :=
  f ∈ allFields ∧ f.reg.has i j = true ∧ (∀ e ∈ writeActs, e.1.locate (f.reg.at i j) = none) ∧ rFSQ_DQDLY.locate (f.reg.at i j) = none

/-- The store of register values is in its canonical form: ascending bit addresses, and no entry for a field at its Reset value. -/
def RegsCanonical (s : State) : Prop :=
  s.regs.Sorted ∧ ∀ f ∈ allFields, ∀ i j, f.reg.has i j = true → s.regs.look (f.key i j) ≠ some (f.reset i)

/-- CTX_USED shows the contexts in use, and CTX_PEAK is at least that (chapter 02, QEN registers). -/
def ShowsContexts (s : State) : Prop :=
  s.get QEN_CTX_USED = s.ctxUsed % 2 ^ QEN_CTX_USED.width ∧ s.get QEN_CTX_USED ≤ s.get QEN_CTX_PEAK

/-- The outputs of the sideband group are low before BOOT has ended (R460). -/
def PinsLow (s : State) : Prop :=
  (s.md.mode = .off ∨ s.md.mode = .watch ∨ s.md.mode = .boot) →
    s.pins.led0 = false ∧ s.pins.led1 = false ∧ s.pins.led2 = false ∧ s.pins.alert = false

/-- A slot entry is noted as clean exactly while its zone or namespace has no dirty pair (R400). -/
def SlotsNoted (s : State) : Prop :=
  ∀ e ∈ s.ms.slots, (e.2.cleanSince = none ↔ ∃ p ∈ s.wc.pairs, e.2.dirtyBy p.2 = true)

/-- The commands that may remove an unchecked host error (R448): a register write, a packet, and the commands that write or erase
what Table 16.7 names. -/
def mayRemove : Instr → Bool
  | .registerWrite ..
  | .mgmtPacketCarrier ..
  | .eraseComplete ..
  | .fullRetrainingEnd ..
  | .sdfBadcolWrite ..
  | .droopRelease ..
  | .aoPowerOnReset
  | .mgmtReceived ..
  | .mgmtRspReceived ..
  | .jnrCfgWrite ..
  | .jnrBindWrite ..
  | .getIdentity ..
  | .getConfigurationReport ..
  | .getNamespaceIdentify ..
  | .readRegisters ..
  | .writeRegister ..
  | .commitConfiguration ..
  | .getRecordStatus ..
  | .setSliceCount ..
  | .bindPasid ..
  | .setAccessBitmap ..
  | .resetSlice ..
  | .setSliceBudgets ..
  | .getSliceStatus ..
  | .waypointCommand ..
  | .setRoute ..
  | .setProfile ..
  | .setNamespaceProfile ..
  | .getPackStatus ..
  | .readPackHistory ..
  | .setCharging ..
  | .requestSelfTest ..
  | .queryTicket ..
  | .cancelTicket ..
  | .readLog ..
  | .writeAnnotation ..
  | .readEventQueue ..
  | .readDirtyEpochReport ..
  | .clearDirtyEpochReport ..
  | .readLateFaultRecords ..
  | .setNode ..
  | .setNodeSlice ..
  | .bindNamespace ..
  | .unbindNamespace ..
  | .peerZoneCopy ..
  | .getFabricStatus ..
  | .downloadFirmware ..
  | .commitFirmware ..
  | .getSlotInfo ..
  | .acknowledgeThermalShutdown ..
  | .powerOff ..
  | .setMode ..
  | .getThermalAndPower ..
  | .rawRead ..
  | .rawProgram ..
  | .rawErase ..
  | .setBadColumnRange ..
  | .declareDieFailed ..
  | .nvmeMiVendorC1 .. => true
  | _ => false

/-- The invariant of every step. -/
def Inv (s : State) : Prop := ShowsContexts s ∧ PinsLow s ∧ SlotsNoted s

/-- `k` steps from `s` meet no fault and no refusal. -/
def SafeRun (k : Nat) (s : State) : Prop := ∃ t, Sys2Proof.core.run k s = .next t

end Sys2Proof.Machine
end

