-- ==== Sys2Proof/Certificates/Slice0/Obligations.lean ====
section
/-!
DEFINITION. The obligations: what the commands of the table do, family by family, and what holds of every command.  `Rows` says of each
row of the table what its command does: under hypotheses on state and operands the command completes in a next state of which the facts
named hold, and where its event cannot occur it has no effect.
-/

namespace Sys2Proof.Rows

open Sys2Proof.Machine

/-- UPTIME_LO_READ (R27). -/
abbrev uptimeLoRead (port size off : Nat) (s : State) : Prop :=
  (((size = 1 ∨ size = 2 ∨ size = 4) ∧ off < 4 ∧ off % size = 0)) → Effect (.uptimeLoRead port size off) s (s.powered = true ∧ port = s.privPort) fun t =>
    t.out = .readData (rGLB_UPTIME_LO.at 0 0 + off) size (s.now % 2 ^ 32 / 2 ^ (8 * off) % 2 ^ (8 * size)) :: s.out ∧ t.get GLB_UPTIME_HI = s.now / 2 ^ 32 % 2 ^ 32
      ∧ OnlyRegs [GLB_UPTIME_HI.key 0 0] s t ∧ KeepsAll s t

/-- UPTIME_LO_READ (R27). -/
abbrev uptimeLoRead_unaligned (port size off : Nat) (s : State) : Prop :=
  (1 ≤ size ∧ size ≤ 4 ∧ off < 4 ∧ (size = 3 ∨ off % size ≠ 0)) → Effect (.uptimeLoRead port size off) s (s.powered = true ∧ port = s.privPort) fun t =>
    t.out = .readData (rGLB_UPTIME_LO.at 0 0 + off) size 0 :: s.out ∧ OnlyRegs [] s t ∧ KeepsAll s t

/-- REC_TOTAL_LO_READ (R80). -/
abbrev recTotalLoRead (port size off : Nat) (s : State) : Prop :=
  (((size = 1 ∨ size = 2 ∨ size = 4) ∧ off < 4 ∧ off % size = 0)) → Effect (.recTotalLoRead port size off) s (s.powered = true ∧ port = s.privPort) fun t =>
    t.out = .readData (rTLG_REC_TOTAL_LO.at 0 0 + off) size (s.lateTotal % 2 ^ 32 / 2 ^ (8 * off) % 2 ^ (8 * size)) :: s.out ∧ t.get TLG_REC_TOTAL_HI = s.lateTotal / 2 ^ 32 % 2 ^ 32
      ∧ OnlyRegs [TLG_REC_TOTAL_HI.key 0 0] s t ∧ KeepsAll s t

/-- CKPT_NUM_LO_READ (R249). -/
abbrev ckptNumLoRead (port size off : Nat) (s : State) : Prop :=
  (((size = 1 ∨ size = 2 ∨ size = 4) ∧ off < 4 ∧ off % size = 0)) → Effect (.ckptNumLoRead port size off) s (s.powered = true ∧ port = s.privPort) fun t =>
    t.out = .readData (rXLT_CKPT_NUM_LO.at 0 0 + off) size (s.xl.last.num % 2 ^ 32 / 2 ^ (8 * off) % 2 ^ (8 * size)) :: s.out ∧ t.get XLT_CKPT_NUM_HI = s.xl.last.num / 2 ^ 32 % 2 ^ 32
      ∧ OnlyRegs [XLT_CKPT_NUM_HI.key 0 0] s t ∧ KeepsAll s t

/-- FIRST_TS_LO_READ (R384). -/
abbrev firstTsLoRead (port size off : Nat) (s : State) : Prop :=
  (((size = 1 ∨ size = 2 ∨ size = 4) ∧ off < 4 ∧ off % size = 0)) → Effect (.firstTsLoRead port size off) s (s.powered = true ∧ port = s.privPort) fun t =>
    t.out = .readData (rFCL_FIRST_TS_LO.at 0 0 + off) size (s.get FCL_FIRST_TS_LO % 2 ^ 32 / 2 ^ (8 * off) % 2 ^ (8 * size)) :: s.out
      ∧ OnlyRegs [] s t ∧ KeepsAll s t

/-- CFG_SEQ_LO_READ (R424). -/
abbrev cfgSeqLoRead (port size off : Nat) (c : CfgCopy) (s : State) : Prop :=
  (((size = 1 ∨ size = 2 ∨ size = 4) ∧ off < 4 ∧ off % size = 0) ∧ s.cfgInUse = some c) → Effect (.cfgSeqLoRead port size off) s (s.powered = true ∧ port = s.privPort) fun t =>
    t.out = .readData (rFWC_CFG_SEQ_LO.at 0 0 + off) size (c.seq % 2 ^ 32 / 2 ^ (8 * off) % 2 ^ (8 * size)) :: s.out ∧ t.get FWC_CFG_SEQ_HI = c.seq / 2 ^ 32 % 2 ^ 32
      ∧ OnlyRegs [FWC_CFG_SEQ_HI.key 0 0] s t ∧ KeepsAll s t

/-- REGISTER_WRITE (R9). -/
abbrev registerWrite_discarded (port size addr value : Nat) (s : State) : Prop :=
  Bound s → (s.reaches port .window = false ∨ size ≠ 4 ∨ addr % 4 ≠ 0 ∨ (fieldsAt addr = [] ∧ rFSQ_DQDLY.locate addr = none)) → Completes (.registerWrite port .window size addr value) s fun t =>
    NoEffect s t

/-- REGISTER_WRITE (R9). -/
abbrev registerWrite_taken (port value : Nat) (s : State) : Prop :=
  Bound s → (s.reaches port .window = true ∧ value < 2 ^ 9) → Completes (.registerWrite port .window 4 (rMGI_CFG.at 0 0) value) s fun t =>
    t.get MGI_CFG_SMB_EN = value % 2 ∧ t.get MGI_CFG_I3C_EN = value / 2 % 2 ∧ t.get MGI_CFG_SMB_ADDR = value / 4 % 2 ^ 7
      ∧ Bound t ∧ KeepsHost s t ∧ KeepsMedia s t ∧ KeepsPower s t

/-- REGISTER_WRITE (R9). -/
abbrev registerWrite_reserved (port value : Nat) (s : State) : Prop :=
  Bound s → (s.reaches port .window = true ∧ 2 ^ 9 ≤ value ∧ value < 2 ^ 32) → Completes (.registerWrite port .window 4 (rMGI_CFG.at 0 0) value) s fun t =>
    t.unbound = [.rsv (rMGI_CFG.at 0 0)] ∧ ¬Bound t

/-- REGISTER_WRITE (R9). -/
abbrev registerWrite_aqa (port value : Nat) (s : State) : Prop :=
  Bound s → (s.reaches port .bar0 = true ∧ value < 2 ^ 32) → Completes (.registerWrite port .bar0 4 0x24 value) s fun t =>
    (t.port port) = { s.port port with aqa := value } ∧ OnlyRegs [] s t ∧ t.sqs = s.sqs ∧ t.cqs = s.cqs ∧ t.ctxs = s.ctxs ∧ t.ns = s.ns ∧ KeepsMedia s t ∧ KeepsPower s t ∧ KeepsService s t ∧ KeepsFaults s t

/-- A write of a whole word sets each field by its access code (R9). -/
abbrev registerWrite_field (f : Field) (port i j value : Nat) (s : State) : Prop :=
  Bound s → (s.reaches port .window = true ∧ PlainField f i j ∧ value < 2 ^ 32) → Completes (.registerWrite port .window 4 (f.reg.at i j) value) s fun t =>
    (f.acc = .rw → t.get f i j = value / 2 ^ f.lsb % 2 ^ f.width) ∧ (f.acc = .rw1c → t.get f i j = s.get f i j - (s.get f i j &&& value / 2 ^ f.lsb % 2 ^ f.width)) ∧ (f.acc = .rw1s → t.get f i j = s.get f i j ||| value / 2 ^ f.lsb % 2 ^ f.width)
      ∧ (f.acc = .ro → f.key i j ∉ shownKeys → f.key i j ≠ FWC_CFGREC_PEND.key 0 0 → t.get f i j = s.get f i j) ∧ (f.acc = .rw → f.cls = .retained → inRecord f = true → t.get f i j ≠ s.get f i j → t.fw.again = true) ∧ KeepsHost s t ∧ KeepsMedia s t ∧ KeepsPower s t ∧ KeepsFaults s t ∧ t.mm = s.mm ∧ t.mg = s.mg ∧ t.fb = s.fb ∧ t.tp = s.tp

/-- LINK_UP (R32). -/
abbrev linkUp (port rate width : Nat) (flit : Bool) (s : State) : Prop :=
  Effect (.linkUp port rate width flit) s (s.isPort port = true ∧ s.linkMode = true ∧ (s.port port).perst = false ∧ s.pw.phyFailed = false ∧ s.flag QEN_LINK_UP port = false ∧ s.linkFits rate width flit = true) fun t =>
    t.get QEN_LINK_UP port = 1 ∧ t.get QEN_LINK_RATE port = rate ∧ t.get QEN_LINK_WIDTH port = width ∧ t.get QEN_LINK_FLIT port = bNat flit
      ∧ (t.port port).cfg.pasidEnable = true ∧ Raises 97 s t ∧ (rate < 2 ∨ width < s.maxWidth → Raises 98 s t) ∧ KeepsMedia s t ∧ KeepsPower s t ∧ KeepsService s t
      ∧ t.sqs = s.sqs ∧ t.cqs = s.cqs ∧ t.ctxs = s.ctxs ∧ t.ns = s.ns

/-- LINK_DOWN (R34). -/
abbrev linkDown (port : Nat) (s : State) : Prop :=
  (Still s) → Effect (.linkDown port) s (s.isPort port = true ∧ s.powered = true ∧ s.flag QEN_LINK_UP port = true) fun t =>
    t.get QEN_LINK_UP port = 0 ∧ t.get QEN_LINK_RATE port = 0 ∧ t.get QEN_LINK_WIDTH port = 0 ∧ t.rdy port = false ∧ (t.port port).ccEn = false
      ∧ (t.port port).cfg.pasidEnable = false ∧ t.sqs = s.sqs.keep (fun _ q => q.port != port) ∧ bit (t.get EVR_PEND 3) 0 = true ∧ bit (t.get EVR_PEND 3) 7 = true
      ∧ t.ns = s.ns ∧ t.zn = s.zn ∧ t.xl = s.xl ∧ t.fl = s.fl ∧ KeepsPower s t ∧ KeepsService s t

/-- FUNCTION_LEVEL_RESET (R34). -/
abbrev functionLevelReset (port : Nat) (s : State) : Prop :=
  (Still s) → Effect (.functionLevelReset port) s (s.isPort port = true ∧ s.powered = true ∧ s.flag QEN_LINK_UP port = true) fun t =>
    t.rdy port = false ∧ (t.port port).ccEn = false ∧ (t.port port).cfg.pasidEnable = (s.port port).cfg.pasidEnable
      ∧ t.sqs = s.sqs.keep (fun _ q => q.port != port) ∧ Raises 103 s t ∧ t.flag QEN_LINK_UP port = true
      ∧ t.ns = s.ns ∧ t.zn = s.zn ∧ t.xl = s.xl ∧ t.fl = s.fl ∧ KeepsPower s t ∧ KeepsService s t

/-- PERST_ASSERT (R34). -/
abbrev perstAssert (port : Nat) (s : State) : Prop :=
  (Still s ∧ s.powered = true ∧ s.isPort port = true ∧ s.mode ≠ .rest) → Effect (.perstAssert port) s (port < 2 ∧ (s.port port).perst = false) fun t =>
    (t.port port).perst = true ∧ (t.port port).ccEn = false ∧ t.rdy port = false ∧ t.flag QEN_LINK_UP port = false ∧ Raises 103 s t
      ∧ t.sqs = s.sqs.keep (fun _ q => q.port != port) ∧ t.ns = s.ns ∧ KeepsPower s t ∧ KeepsService s t

/-- PERST_ASSERT (R34). -/
abbrev perstAssert_rest (port : Nat) (s : State) : Prop :=
  (s.powered = true ∧ s.isPort port = true ∧ s.mode = .rest) → Effect (.perstAssert port) s (port < 2 ∧ (s.port port).perst = false) fun t =>
    (t.port port).perst = true ∧ port ∈ t.md.perstInRest ∧ t.md.mode = .rest ∧ t.sqs = s.sqs ∧ KeepsMedia s t ∧ OnlyRegs [] s t

/-- PERST_DEASSERT (R290). -/
abbrev perstDeassert_off (port : Nat) (s : State) : Prop :=
  (s.coreOn = false ∧ s.pw.seq = .idle ∧ s.pw.ao = true ∧ s.md.restStep = none) → Effect (.perstDeassert port) s (port < 2 ∧ (s.port port).perst = true) fun t =>
    (t.port port).perst = false ∧ t.pw.onLatched = true ∧ t.pw.retries = 0 ∧ t.pw.needPerst = false ∧ t.md = s.md ∧ KeepsMedia s t ∧ KeepsService s t

/-- PERST_DEASSERT (R290). -/
abbrev perstDeassert_on (port : Nat) (s : State) : Prop :=
  (s.coreOn = true ∧ s.mode ≠ .rest ∧ s.md.restStep = none) → Effect (.perstDeassert port) s (port < 2 ∧ (s.port port).perst = true) fun t =>
    (t.port port).perst = false ∧ KeepsPower s t ∧ KeepsMedia s t ∧ KeepsService s t ∧ OnlyRegs [] s t

/-- CC_EN_SET (R36). -/
abbrev ccEnSet (port iosqes iocqes ams asqs acqs : Nat) (s : State) : Prop :=
  Effect (.ccEnSet port iosqes iocqes ams asqs acqs) s (s.isPort port = true ∧ s.powered = true ∧ s.flag QEN_LINK_UP port = true ∧ (s.port port).ccEn = false) fun t =>
    (t.port port).ccEn = true ∧ (t.port port).adminOk = (iosqes == 6 && iocqes == 4) ∧ (t.port port).ams = ams ∧ (t.port port).asq.size = asqs % 4096 + 1
      ∧ (t.port port).acq.size = acqs % 4096 + 1 ∧ (iosqes = 6 → iocqes = 4 → s.inModes [.run, .hold, .service] = true → t.rdy port = true)
      ∧ OnlyRegs [QEN_STATUS_P0_RDY.key 0 0, QEN_STATUS_P1_RDY.key 0 0, PSC_STATUS_PS.key 0 0] s t ∧ t.sqs = s.sqs ∧ t.ctxs = s.ctxs ∧ t.ns = s.ns ∧ KeepsMedia s t ∧ KeepsPower s t ∧ KeepsService s t ∧ KeepsFaults s t

/-- CC_EN_CLEAR (R34). -/
abbrev ccEnClear (port : Nat) (s : State) : Prop :=
  (Still s) → Effect (.ccEnClear port) s (s.isPort port = true ∧ s.powered = true ∧ (s.port port).ccEn = true) fun t =>
    (t.port port).ccEn = false ∧ t.rdy port = false ∧ (t.port port).cfg.pasidEnable = (s.port port).cfg.pasidEnable ∧ (t.port port).errLog = (s.port port).errLog
      ∧ t.sqs = s.sqs.keep (fun _ q => q.port != port) ∧ Raises 103 s t ∧ t.ns = s.ns ∧ t.zn = s.zn ∧ KeepsPower s t ∧ KeepsService s t

/-- AER_ERROR_LOGGED (R58). -/
abbrev aerErrorLogged (port severity : Nat) (header : List Nat) (s : State) : Prop :=
  Effect (.aerErrorLogged port severity header) s (s.isPort port = true ∧ s.powered = true ∧ s.flag QEN_LINK_UP port = true ∧ severity ≤ 2) fun t =>
    t.out = .aer port severity :: s.out ∧ Raises (99 + severity) s t ∧ (t.port port).cfg.aerStatus = setBit (s.port port).cfg.aerStatus severity
      ∧ (severity ≠ 0 → (s.port port).cfg.aerHeader = none → (t.port port).cfg.aerHeader = some header) ∧ (severity = 0 → (t.port port).cfg.aerHeader = (s.port port).cfg.aerHeader)
      ∧ OnlyRegs [EVR_PEND.key 3 0] s t ∧ t.sqs = s.sqs ∧ t.cqs = s.cqs ∧ t.ctxs = s.ctxs ∧ t.ns = s.ns ∧ KeepsMedia s t ∧ KeepsPower s t ∧ KeepsService s t ∧ KeepsFaults s t

/-- PASID_ENABLE_CLEAR (R31). -/
abbrev pasidEnableClear (port : Nat) (s : State) : Prop :=
  Effect (.pasidEnableClear port) s (s.isPort port = true ∧ s.powered = true ∧ (s.port port).cfg.pasidEnable = true) fun t =>
    (t.port port).cfg.pasidEnable = false ∧ (∀ e ∈ t.sqs, e.2.port = port → e.2.pasid = none ∧ e.2.slice = s.defSlice port)
      ∧ (∀ e ∈ t.cqs, e.2.port = port → e.2.pasid = none) ∧ t.ctxs = s.ctxs ∧ t.ns = s.ns ∧ KeepsMedia s t ∧ KeepsPower s t ∧ KeepsService s t ∧ KeepsFaults s t

/-- QEN_CLR_CNT (R59). -/
abbrev qenClrCnt (s : State) : Prop :=
  Effect .qenClrCnt s (s.powered = true) fun t =>
    t.get QEN_UNBOUND_DROP = 0 ∧ t.get QEN_DB_DROP = 0 ∧ t.get QEN_CQ_STALL_CNT = 0
      ∧ OnlyRegs [QEN_UNBOUND_DROP.key 0 0, QEN_DB_DROP.key 0 0, QEN_CQ_STALL_CNT.key 0 0] s t ∧ KeepsAll s t
      ∧ t.hasFired 112 0 = false ∧ t.hasFired 102 0 = false

/-- QEN_CLR_PEAK (R59). -/
abbrev qenClrPeak (s : State) : Prop :=
  Effect .qenClrPeak s (s.powered = true) fun t =>
    t.get QEN_CTX_PEAK = s.ctxUsed % 2 ^ 18 ∧ OnlyRegs [] s t ∧ KeepsAll s t

/-- NORMAL_SHUTDOWN (R37). -/
abbrev normalShutdown (port : Nat) (s : State) : Prop :=
  (s.wc.pairs = []) → Effect (.normalShutdown port) s (s.isPort port = true ∧ s.inModes [.boot, .run, .hold, .ret, .service] = true ∧ (s.port port).ccEn = true ∧ (s.port port).shst = 0) fun t =>
    (t.port port).shst = 1 ∧ (t.port port).shut = (if s.flag THM_STATUS_WR_FORBID || s.mode == .hold then .abrupt else .normal s.now)
      ∧ ((s.flag THM_STATUS_WR_FORBID || s.mode == .hold) = false → port ∈ t.wc.flushBy) ∧ t.ctxs = s.ctxs ∧ KeepsPower s t ∧ KeepsService s t

/-- ABRUPT_SHUTDOWN (R37). -/
abbrev abruptShutdown (port : Nat) (s : State) : Prop :=
  Effect (.abruptShutdown port) s (s.isPort port = true ∧ s.powered = true ∧ (s.port port).ccEn = true ∧ (s.port port).shst = 0) fun t =>
    (t.port port).shst = 1 ∧ (t.port port).shut = .abrupt ∧ t.sqs = s.sqs ∧ t.ctxs = s.ctxs ∧ KeepsMedia s t ∧ KeepsPower s t ∧ KeepsService s t ∧ KeepsFaults s t

/-- SHUTDOWN_TIMEOUT (R37). -/
abbrev shutdownTimeout (port : Nat) (s : State) : Prop :=
  Effect (.shutdownTimeout port) s (s.isPort port = true ∧ s.powered = true ∧ (match (s.port port).shut with | .normal u => decide (u + 1000000000 ≤ s.now) | _ => false) = true) fun t =>
    (t.port port).shst = 2 ∧ (t.port port).shut = .none ∧ port ∉ t.wc.flushBy ∧ t.sqs = s.sqs ∧ t.ctxs = s.ctxs ∧ KeepsPower s t ∧ KeepsService s t ∧ OnlyRegs [] s t

/-- SHUTDOWN_DONE (R37). -/
abbrev shutdownDone (port : Nat) (s : State) : Prop :=
  Effect (.shutdownDone port) s (s.isPort port = true ∧ s.powered = true ∧ s.busyOn port = false ∧ ((s.port port).shut = .abrupt ∨ ((s.port port).shut ≠ .none ∧ s.dirtyAll = 0 ∧ s.xl.recs = []))) fun t =>
    (t.port port).shst = 2 ∧ (t.port port).shut = .none ∧ port ∉ t.wc.flushBy ∧ t.sqs = s.sqs ∧ t.ctxs = s.ctxs ∧ KeepsPower s t ∧ KeepsService s t ∧ OnlyRegs [] s t

/-- SQ_TAIL_DOORBELL (R43). -/
abbrev sqTailDoorbell (port qid value : Nat) (pasid : Option Nat) (s : State) : Prop :=
  (1 ≤ qid ∧ qid ≤ s.maxQ ∧ port < 2) → Effect (.sqTailDoorbell port qid value pasid) s (s.isPort port = true ∧ s.hostOpen port = true) fun t =>
    ∀ q, s.sqs.look (slotOf port qid) = some q → s.badPasid q.pasid pasid = false → s.underReset (s.queueSlice q) = false → value < q.size →
      t.sqs.look (slotOf port qid) = some { q with tail := value } ∧ t.cqs = s.cqs ∧ t.ctxs = s.ctxs ∧ OnlyRegs [] s t ∧ KeepsMedia s t ∧ KeepsPower s t

/-- SQ_TAIL_DOORBELL (R43). -/
abbrev sqTailDoorbell_admin (port value : Nat) (s : State) : Prop :=
  (port < 2) → Effect (.sqTailDoorbell port 0 value none) s (s.isPort port = true ∧ s.hostOpen port = true) fun t =>
    value < (s.port port).asq.size → (t.port port).asq = { (s.port port).asq with tail := value } ∧ t.sqs = s.sqs ∧ t.ctxs = s.ctxs ∧ OnlyRegs [] s t

/-- CQ_HEAD_DOORBELL (R47). -/
abbrev cqHeadDoorbell (port qid value : Nat) (pasid : Option Nat) (s : State) : Prop :=
  (1 ≤ qid ∧ qid ≤ s.maxQ ∧ port < 2) → Effect (.cqHeadDoorbell port qid value pasid) s (s.isPort port = true ∧ s.hostOpen port = true) fun t =>
    ∀ q, s.cqs.look (slotOf port qid) = some q → s.badPasid q.pasid pasid = false → q.pasid = none → s.underReset (s.defSlice port) = false → value < q.size →
      (value + q.size - q.head) % q.size ≤ (q.tail + q.size - q.head) % q.size →
      (t.cqs.look (slotOf port qid)).map (fun x => (x.head, x.tail, x.size, x.phase)) = some (value, q.tail, q.size, q.phase)
      ∧ t.sqs = s.sqs ∧ t.ctxs = s.ctxs ∧ KeepsMedia s t ∧ KeepsPower s t

/-- COMMAND_FETCH (R44). -/
abbrev commandFetch (port : Nat) (entry : SqEntry) (s : State) : Prop :=
  (s.adminReady port = true ∧ adminOpc entry.opc = true ∧ (privOpc entry.opc = true → port = s.privPort)) → Effect (.commandFetch port entry) s (s.isPort port = true ∧ s.fetchOpen port = true) fun t =>
    (t.port port).asq.head = ((s.port port).asq.head + 1) % (s.port port).asq.size ∧ t.nextCtx = s.nextCtx + 1
      ∧ t.ctxs = s.ctxs ++ [{ Ctx.base with id := s.nextCtx, port := port, e := entry, fetchNs := s.now }]
      ∧ t.get QEN_CTX_USED = (s.ctxs.length + 1) % 2 ^ 18 ∧ t.sqs = s.sqs ∧ KeepsMedia s t ∧ KeepsPower s t ∧ KeepsService s t

/-- COMMAND_FETCH (R44). -/
abbrev commandFetch_io (port : Nat) (entry : SqEntry) (slot : Nat) (q : Sq) (n : Nat) (s : State) : Prop :=
  (s.adminReady port = false ∧ (s.fetchTurn port).map (fun e => e.1) = some slot ∧ s.sqs.look slot = some q ∧ q.port = port ∧ port < 2 ∧ s.sliceOf port q.pasid = some n ∧ ioOpc entry.opc = true ∧ s.oversize n entry = false) → Effect (.commandFetch port entry) s (s.isPort port = true ∧ s.fetchOpen port = true) fun t =>
    t.sqs.look slot = some { q with head := (q.head + 1) % q.size, ahead := (if 0 < q.ahead then q.ahead else min s.prefetch ((q.tail + q.size - q.head) % q.size)) - 1 } ∧ (s.fetchTurn port).map (fun e => e.2) = some (t.port port) ∧ t.nextCtx = s.nextCtx + 1 ∧ (t.ctxs.map fun x => x.id) = s.ctxs.map (fun x => x.id) ++ [s.nextCtx]
      ∧ (t.ctxs.getLast?.map fun x => (x.port, x.slot, x.cqSlot, x.e, x.slice, x.gen, x.cls)) = some (port, slot, q.cqSlot, entry, n, s.get SLM_GEN n, q.cls) ∧ (t.ctxs.getLast?.map fun x => (x.deadline, x.pasid, x.fetchNs)) = some ((classDeadline q.cls).map (fun d => s.now + d), q.pasid, s.now)
      ∧ t.cqs = s.cqs ∧ t.ns = s.ns ∧ KeepsMedia s t ∧ KeepsPower s t ∧ KeepsService s t

/-- COMPLETION_POST (R46). -/
abbrev completionPost (port : Nat) (c : Ctx) (s : State) : Prop :=
  (s.ctxs = [c] ∧ s.doneQ = [c.id] ∧ c.port = port ∧ c.cqSlot = 0 ∧ c.slot = 0 ∧ c.remote = none ∧ c.stage = .done ∧ (s.port port).acq.full = false ∧ c.deadline = none ∧ s.ns = []) → Effect (.completionPost port 0) s (s.isPort port = true ∧ s.hostOpen port = true) fun t =>
    .completion port (s.port port).acq.qid c.e.cid (s.port port).asq.head (s.port port).acq.phase c.status c.dw0 c.dw1 (s.tag port (s.port port).acq.pasid) ∈ t.out
      ∧ (t.port port).acq.tail = ((s.port port).acq.tail + 1) % (s.port port).acq.size ∧ t.ctxs = [] ∧ t.doneQ = [] ∧ KeepsMedia s t ∧ KeepsPower s t ∧ KeepsService s t

/-- CQ_STALL_TIMEOUT (R47). -/
abbrev cqStallTimeout (port qid : Nat) (s : State) : Prop :=
  (qid = 0 ∧ s.get QEN_CQ_STALL_CNT + 1 < 2 ^ QEN_CQ_STALL_CNT.width) → Effect (.cqStallTimeout port qid) s (s.isPort port = true ∧ s.powered = true ∧ s.cqStalled port 0 = true ∧ (s.port port).acq.stalled = false ∧ s.past (s.port port).acq.fullSince 1000000 = true) fun t =>
    (t.port port).acq.stalled = true ∧ t.get QEN_CQ_STALL_CNT = s.get QEN_CQ_STALL_CNT + 1 ∧ Raises 113 s t
      ∧ OnlyRegs [QEN_CQ_STALL_CNT.key 0 0, EVR_PEND.key 3 0] s t ∧ t.ctxs = s.ctxs ∧ KeepsMedia s t ∧ KeepsPower s t ∧ KeepsService s t

/-- CQ_STALL_TIMEOUT (R47). -/
abbrev cqStallTimeout_io (port qid : Nat) (q : Cq) (s : State) : Prop :=
  (0 < qid ∧ s.cqs.look (slotOf port qid) = some q ∧ s.get QEN_CQ_STALL_CNT + 1 < 2 ^ QEN_CQ_STALL_CNT.width) → Effect (.cqStallTimeout port qid) s (s.isPort port = true ∧ s.powered = true ∧ qid ≤ s.maxQ ∧ s.cqStalled port (slotOf port qid) = true ∧ q.stalled = false ∧ s.past q.fullSince 1000000 = true) fun t =>
    (t.cqs.look (slotOf port qid)).map (·.stalled) = some true ∧ t.get QEN_CQ_STALL_CNT = s.get QEN_CQ_STALL_CNT + 1 ∧ Raises 113 s t
      ∧ t.ctxs = s.ctxs ∧ KeepsMedia s t ∧ KeepsPower s t ∧ KeepsService s t

/-- CREATE_IO_CQ (R39). -/
abbrev createIoCq (ctx : Nat) (c : Ctx) (s : State) : Prop :=
  Bound s → (AdminWaits s ctx 0x05 c ∧ s.newQueue c.port c.e s.cqs.has = none ∧ s.badDword13 c.port c.e = false ∧ s.cqShareFull c.port c.e = false ∧ bits c.e.dw11 31 16 ≤ 2047) → Completes (.createIoCq ctx) s fun t =>
    Ended ctx .success 0 t ∧ t.cqs = s.cqs.put (slotOf c.port (bits c.e.dw10 15 0)) { Cq.empty c.port (bits c.e.dw10 15 0) (bits c.e.dw10 31 16 + 1) with vector := bits c.e.dw11 31 16, ien := bit c.e.dw11 1, pasid := pasidOf c.e } ∧ t.sqs = s.sqs ∧ t.ns = s.ns ∧ t.port0 = s.port0 ∧ t.port1 = s.port1 ∧ t.out = s.out
      ∧ OnlyRegs [] s t ∧ KeepsMedia s t ∧ KeepsPower s t ∧ KeepsService s t ∧ KeepsFaults s t

/-- CREATE_IO_CQ (R39). -/
abbrev createIoCq_refused (ctx : Nat) (c : Ctx) (st : NvmeStatus) (s : State) : Prop :=
  Bound s → (AdminWaits s ctx 0x05 c ∧ s.newQueue c.port c.e s.cqs.has = some st) → Completes (.createIoCq ctx) s fun t =>
    Answers ctx st s t

/-- CREATE_IO_CQ (R39). -/
abbrev createIoCq_checks (ctx : Nat) (c : Ctx) (s : State) : Prop :=
  Bound s → (AdminWaits s ctx 0x05 c ∧ s.newQueue c.port c.e s.cqs.has = none ∧ (s.badDword13 c.port c.e = true ∨ s.cqShareFull c.port c.e = true ∨ 2047 < bits c.e.dw11 31 16)) → Completes (.createIoCq ctx) s fun t =>
    Answers ctx (if s.badDword13 c.port c.e then .invalidField else if s.cqShareFull c.port c.e then .invalidQueueIdentifier else .invalidInterruptVector) s t

/-- CREATE_IO_SQ (R39). -/
abbrev createIoSq (ctx : Nat) (c : Ctx) (n : Nat) (q : Cq) (s : State) : Prop :=
  Bound s → (AdminWaits s ctx 0x01 c ∧ s.newQueue c.port c.e s.sqs.has = none ∧ (s.newQueueSlice c.port c.e).toOption = some n ∧ s.sqCount n < s.budget n 0 ∧ bits c.e.dw11 31 16 ≠ 0 ∧ bits c.e.dw11 31 16 ≤ s.maxQ ∧ s.cqs.look (slotOf c.port (bits c.e.dw11 31 16)) = some q ∧ q.pasid = pasidOf c.e) → Completes (.createIoSq ctx) s fun t =>
    Ended ctx .success 0 t ∧ t.sqs = s.sqs.put (slotOf c.port (bits c.e.dw10 15 0)) { Sq.empty c.port (bits c.e.dw10 15 0) (bits c.e.dw10 31 16 + 1) with cqSlot := slotOf c.port (bits c.e.dw11 31 16), prio := bits c.e.dw11 2 1, cls := bits c.e.dw13 21 20, pasid := pasidOf c.e, slice := n }
      ∧ t.cqs = s.cqs ∧ t.ns = s.ns ∧ t.out = s.out ∧ KeepsMedia s t ∧ KeepsPower s t ∧ KeepsService s t ∧ KeepsFaults s t

/-- CREATE_IO_SQ (R39). -/
abbrev createIoSq_refused (ctx : Nat) (c : Ctx) (st : NvmeStatus) (s : State) : Prop :=
  Bound s → (AdminWaits s ctx 0x01 c ∧ s.newQueue c.port c.e s.sqs.has = some st) → Completes (.createIoSq ctx) s fun t =>
    Answers ctx st s t

/-- CREATE_IO_SQ (R39). -/
abbrev createIoSq_slice (ctx : Nat) (c : Ctx) (s : State) : Prop :=
  Bound s → (AdminWaits s ctx 0x01 c ∧ s.newQueue c.port c.e s.sqs.has = none ∧ (s.badDword13 c.port c.e = true ∨ s.sliceOf c.port (pasidOf c.e) = none)) → Completes (.createIoSq ctx) s fun t =>
    Answers ctx .invalidField s t

/-- CREATE_IO_SQ (R39). -/
abbrev createIoSq_share (ctx : Nat) (c : Ctx) (n : Nat) (s : State) : Prop :=
  Bound s → (AdminWaits s ctx 0x01 c ∧ s.newQueue c.port c.e s.sqs.has = none ∧ (s.newQueueSlice c.port c.e).toOption = some n ∧ (s.budget n 0 ≤ s.sqCount n ∨ bits c.e.dw11 31 16 = 0)) → Completes (.createIoSq ctx) s fun t =>
    Answers ctx .invalidQueueIdentifier s t

/-- CREATE_IO_SQ (R39). -/
abbrev createIoSq_completion (ctx : Nat) (c : Ctx) (n : Nat) (s : State) : Prop :=
  Bound s → (AdminWaits s ctx 0x01 c ∧ s.newQueue c.port c.e s.sqs.has = none ∧ (s.newQueueSlice c.port c.e).toOption = some n ∧ s.sqCount n < s.budget n 0 ∧ bits c.e.dw11 31 16 ≠ 0 ∧ (s.maxQ < bits c.e.dw11 31 16 ∨ ((s.cqs.look (slotOf c.port (bits c.e.dw11 31 16))).all fun q => q.pasid != pasidOf c.e) = true)) → Completes (.createIoSq ctx) s fun t =>
    Answers ctx .completionQueueInvalid s t

/-- DELETE_IO_SQ (R53). -/
abbrev deleteIoSq (ctx : Nat) (c : Ctx) (s : State) : Prop :=
  Bound s → (AdminWaits s ctx 0x00 c ∧ bits c.e.dw10 15 0 ≠ 0 ∧ bits c.e.dw10 15 0 ≤ s.maxQ ∧ s.sqs.has (slotOf c.port (bits c.e.dw10 15 0)) = true ∧ (s.ctxs.filter fun x => x.port == c.port && x.slot == slotOf c.port (bits c.e.dw10 15 0) && x.stage == .fetched) = []) → Completes (.deleteIoSq ctx) s fun t =>
    Ended ctx .success 0 t ∧ t.sqs = s.sqs.del (slotOf c.port (bits c.e.dw10 15 0)) ∧ t.cqs = s.cqs ∧ t.ns = s.ns ∧ t.out = s.out
      ∧ KeepsMedia s t ∧ KeepsPower s t ∧ KeepsService s t ∧ KeepsFaults s t

/-- DELETE_IO_SQ (R53). -/
abbrev deleteIoSq_aborts (ctx : Nat) (c x : Ctx) (s : State) : Prop :=
  Bound s → (AdminWaits s ctx 0x00 c ∧ bits c.e.dw10 15 0 ≠ 0 ∧ bits c.e.dw10 15 0 ≤ s.maxQ ∧ s.sqs.has (slotOf c.port (bits c.e.dw10 15 0)) = true ∧ s.ctxs = [x, c] ∧ x.id ≠ c.id ∧ x.port = c.port ∧ x.slot = slotOf c.port (bits c.e.dw10 15 0) ∧ x.stage = .fetched ∧ x.remote = none) → Completes (.deleteIoSq ctx) s fun t =>
    Ended ctx .success 0 t ∧ Ended x.id .abortedSqDeletion 0 t ∧ t.sqs = s.sqs.del (slotOf c.port (bits c.e.dw10 15 0)) ∧ t.cqs = s.cqs ∧ t.ns = s.ns ∧ KeepsMedia s t ∧ KeepsPower s t

/-- DELETE_IO_SQ (R53). -/
abbrev deleteIoSq_refused (ctx : Nat) (c : Ctx) (s : State) : Prop :=
  Bound s → (AdminWaits s ctx 0x00 c ∧ (bits c.e.dw10 15 0 = 0 ∨ s.maxQ < bits c.e.dw10 15 0 ∨ s.sqs.has (slotOf c.port (bits c.e.dw10 15 0)) = false)) → Completes (.deleteIoSq ctx) s fun t =>
    Answers ctx .invalidQueueIdentifier s t

/-- DELETE_IO_CQ (R53). -/
abbrev deleteIoCq (ctx : Nat) (c : Ctx) (s : State) : Prop :=
  Bound s → (AdminWaits s ctx 0x04 c ∧ bits c.e.dw10 15 0 ≠ 0 ∧ bits c.e.dw10 15 0 ≤ s.maxQ ∧ s.cqs.has (slotOf c.port (bits c.e.dw10 15 0)) = true ∧ (s.sqs.any fun e => e.2.port == c.port && e.2.cqSlot == slotOf c.port (bits c.e.dw10 15 0)) = false ∧ (s.ctxs.filter fun x => x.port == c.port && x.cqSlot == slotOf c.port (bits c.e.dw10 15 0) && x.slot != 0) = [] ∧ s.cd.cws = [] ∧ s.zn.adm = []) → Completes (.deleteIoCq ctx) s fun t =>
    Ended ctx .success 0 t ∧ t.cqs = s.cqs.del (slotOf c.port (bits c.e.dw10 15 0)) ∧ t.sqs = s.sqs ∧ t.ns = s.ns ∧ t.out = s.out
      ∧ OnlyRegs [] s t ∧ KeepsMedia s t ∧ KeepsPower s t ∧ KeepsService s t ∧ KeepsFaults s t

/-- DELETE_IO_CQ (R53). -/
abbrev deleteIoCq_refused (ctx : Nat) (c : Ctx) (s : State) : Prop :=
  Bound s → (AdminWaits s ctx 0x04 c ∧ (bits c.e.dw10 15 0 = 0 ∨ s.maxQ < bits c.e.dw10 15 0 ∨ s.cqs.has (slotOf c.port (bits c.e.dw10 15 0)) = false)) → Completes (.deleteIoCq ctx) s fun t =>
    Answers ctx .invalidQueueIdentifier s t

/-- DELETE_IO_CQ (R53). -/
abbrev deleteIoCq_named (ctx : Nat) (c : Ctx) (s : State) : Prop :=
  Bound s → (AdminWaits s ctx 0x04 c ∧ bits c.e.dw10 15 0 ≠ 0 ∧ bits c.e.dw10 15 0 ≤ s.maxQ ∧ s.cqs.has (slotOf c.port (bits c.e.dw10 15 0)) = true ∧ (s.sqs.any fun e => e.2.port == c.port && e.2.cqSlot == slotOf c.port (bits c.e.dw10 15 0)) = true) → Completes (.deleteIoCq ctx) s fun t =>
    Answers ctx .invalidQueueDeletion s t

/-- GET_LOG_PAGE (R53). -/
abbrev getLogPage (ctx : Nat) (c : Ctx) (b : List Nat) (s : State) : Prop :=
  Bound s → (AdminWaits s ctx 0x02 c ∧ (s.logPage c.port (bits c.e.dw10 7 0) c.e.nsid).1.toOption = some b ∧ c.e.dw12 + c.e.dw13 * 2 ^ 32 ≤ b.length ∧ bit c.e.dw10 15 = true) → Completes (.getLogPage ctx) s fun t =>
    Ended ctx .success 0 t ∧ t.out = .page c.port c.e.cid ((b.drop (c.e.dw12 + c.e.dw13 * 2 ^ 32)).take
      (4 * (bits c.e.dw10 31 16 + bits c.e.dw11 15 0 * 65536 + 1))) .none :: s.out ∧ t.ev = s.ev ∧ OnlyRegs [] s t
      ∧ t.port0 = s.port0 ∧ t.port1 = s.port1 ∧ t.sqs = s.sqs ∧ t.cqs = s.cqs ∧ t.ns = s.ns ∧ KeepsMedia s t ∧ KeepsPower s t ∧ KeepsService s t ∧ KeepsFaults s t

/-- GET_LOG_PAGE (R53). -/
abbrev getLogPage_take (ctx : Nat) (c : Ctx) (s : State) : Prop :=
  Bound s → (AdminWaits s ctx 0x02 c ∧ bits c.e.dw10 7 0 = 0xC0 ∧ c.port = s.privPort ∧ c.e.dw12 = 0 ∧ c.e.dw13 = 0 ∧ bit c.e.dw10 15 = false ∧ s.eventPage.length ≤ 4 * (bits c.e.dw10 31 16 + bits c.e.dw11 15 0 * 65536 + 1) ∧ s.ev.queue.length ≤ 256) → Completes (.getLogPage ctx) s fun t =>
    Ended ctx .success 0 t ∧ .page c.port c.e.cid s.eventPage .none ∈ t.out ∧ t.ev.queue = [] ∧ t.ev.reported = false ∧ t.get EVR_QCOUNT = 0

/-- GET_LOG_PAGE (R53). -/
abbrev getLogPage_refused (ctx : Nat) (c : Ctx) (st : NvmeStatus) (s : State) : Prop :=
  Bound s → (AdminWaits s ctx 0x02 c ∧ ((s.logPage c.port (bits c.e.dw10 7 0) c.e.nsid).1 matches .error _) = true ∧ st = (match (s.logPage c.port (bits c.e.dw10 7 0) c.e.nsid).1 with | .error x => x | .ok _ => .success)) → Completes (.getLogPage ctx) s fun t =>
    Answers ctx st s t

/-- GET_LOG_PAGE (R53). -/
abbrev getLogPage_private (ctx : Nat) (c : Ctx) (s : State) : Prop :=
  Bound s → (AdminWaits s ctx 0x02 c ∧ (bits c.e.dw10 7 0 ∉ [0x01, 0x02, 0x03, 0x04, 0x05, 0xBF, 0xC0, 0xC1, 0xC2, 0xC3, 0xC4] ∨ (bits c.e.dw10 7 0 ∈ [0xC0, 0xC1, 0xC3, 0xC4] ∧ c.port ≠ s.privPort))) → Completes (.getLogPage ctx) s fun t =>
    Answers ctx .invalidLogPage s t

/-- GET_LOG_PAGE (R53). -/
abbrev getLogPage_beyond (ctx : Nat) (c : Ctx) (b : List Nat) (s : State) : Prop :=
  Bound s → (AdminWaits s ctx 0x02 c ∧ (s.logPage c.port (bits c.e.dw10 7 0) c.e.nsid).1.toOption = some b ∧ b.length < c.e.dw12 + c.e.dw13 * 2 ^ 32) → Completes (.getLogPage ctx) s fun t =>
    Ended ctx .invalidField 0 t ∧ t.out = s.out ∧ OnlyRegs [] s t ∧ t.sqs = s.sqs ∧ t.cqs = s.cqs ∧ t.ns = s.ns ∧ t.ev = s.ev ∧ KeepsMedia s t ∧ KeepsPower s t ∧ KeepsService s t

/-- IDENTIFY (R53). -/
abbrev identify (ctx : Nat) (c : Ctx) (b : List Nat) (s : State) : Prop :=
  Bound s → (AdminWaits s ctx 0x06 c ∧ (s.identify c.port (bits c.e.dw10 7 0) (bits c.e.dw11 31 24) c.e.nsid).1 = .page b) → Completes (.identify ctx) s fun t =>
    Ended ctx .success 0 t ∧ t.out = .page c.port c.e.cid b .none :: s.out ∧ t.port0 = s.port0 ∧ t.port1 = s.port1
      ∧ t.sqs = s.sqs ∧ t.cqs = s.cqs ∧ t.ns = s.ns ∧ OnlyRegs [] s t ∧ KeepsMedia s t ∧ KeepsPower s t ∧ KeepsService s t ∧ KeepsFaults s t

/-- IDENTIFY (R53). -/
abbrev identify_lists (ctx : Nat) (c : Ctx) (s : State) : Prop :=
  Bound s → (AdminWaits s ctx 0x06 c ∧ (bits c.e.dw10 7 0 = 0x02 ∨ bits c.e.dw10 7 0 = 0x13)) → Completes (.identify ctx) s fun t =>
    Ended ctx .success 0 t ∧ t.out = .page c.port c.e.cid (if bits c.e.dw10 7 0 = 0x13 then ctrlList s.portList
      else idList ((s.nsList c.port false).filter fun n => decide (c.e.nsid < n))) .none :: s.out

/-- IDENTIFY (R53). -/
abbrev identify_refused (ctx : Nat) (c : Ctx) (st : NvmeStatus) (s : State) : Prop :=
  Bound s → (AdminWaits s ctx 0x06 c ∧ (s.identify c.port (bits c.e.dw10 7 0) (bits c.e.dw11 31 24) c.e.nsid).1 = .error st) → Completes (.identify ctx) s fun t =>
    Answers ctx st s t

/-- ABORT (R53). -/
abbrev abort (ctx : Nat) (c : Ctx) (s : State) : Prop :=
  Bound s → (AdminWaits s ctx 0x08 c ∧ (s.ctxs.find? fun x => x.port == c.port && x.slot == (if bits c.e.dw10 15 0 = 0 then 0 else slotOf c.port (bits c.e.dw10 15 0)) && x.e.cid == bits c.e.dw10 31 16 && x.id != c.id && x.stage == .fetched) = none) → Completes (.abort ctx) s fun t =>
    Ended ctx .success 1 t ∧ Calm s t

/-- ABORT (R53). -/
abbrev abort_found (ctx : Nat) (c x : Ctx) (s : State) : Prop :=
  Bound s → (AdminWaits s ctx 0x08 c ∧ (s.ctxs.find? fun x => x.port == c.port && x.slot == (if bits c.e.dw10 15 0 = 0 then 0 else slotOf c.port (bits c.e.dw10 15 0)) && x.e.cid == bits c.e.dw10 31 16 && x.id != c.id && x.stage == .fetched) = some x ∧ s.ctx x.id = some x ∧ x.remote = none) → Completes (.abort ctx) s fun t =>
    Ended ctx .success 0 t ∧ Ended x.id .abortRequested 0 t ∧ (c.port < 2 → x.id ∉ (t.port c.port).aers) ∧ t.out = s.out ∧ t.sqs = s.sqs ∧ t.cqs = s.cqs ∧ t.ns = s.ns ∧ OnlyRegs [] s t ∧ KeepsMedia s t ∧ KeepsPower s t ∧ KeepsService s t

/-- SET_FEATURES (R53). -/
abbrev setFeatures (ctx : Nat) (c : Ctx) (f : Features) (s : State) : Prop :=
  Bound s → (AdminWaits s ctx 0x09 c ∧ bit c.e.dw10 31 = false ∧ bits c.e.dw10 7 0 ≠ 0x07 ∧ bits c.e.dw10 7 0 ≠ 0x04 ∧ (s.port c.port).feat.setWord (bits c.e.dw10 7 0) c.e.dw11 = some f) → Completes (.setFeatures ctx) s fun t =>
    Ended ctx .success 0 t ∧ (t.port c.port).feat = f ∧ OnlyRegs [PSC_STATUS_PS.key 0 0] s t ∧ t.out = s.out ∧ t.sqs = s.sqs ∧ t.cqs = s.cqs ∧ t.ns = s.ns
      ∧ KeepsMedia s t ∧ KeepsPower s t ∧ KeepsService s t ∧ KeepsFaults s t

/-- SET_FEATURES (R53). -/
abbrev setFeatures_temperature (ctx : Nat) (c : Ctx) (f : Features) (s : State) : Prop :=
  Bound s → (AdminWaits s ctx 0x09 c ∧ bit c.e.dw10 31 = false ∧ bits c.e.dw10 7 0 = 0x04 ∧ (s.port c.port).feat.setWord 0x04 c.e.dw11 = some f) → Completes (.setFeatures ctx) s fun t =>
    Ended ctx .success 0 t ∧ (t.port c.port).feat = f ∧ t.sqs = s.sqs ∧ t.cqs = s.cqs ∧ t.ns = s.ns ∧ KeepsMedia s t ∧ KeepsPower s t ∧ KeepsService s t

/-- SET_FEATURES (R53). -/
abbrev setFeatures_refused (ctx : Nat) (c : Ctx) (s : State) : Prop :=
  Bound s → (AdminWaits s ctx 0x09 c ∧ (bit c.e.dw10 31 = true ∨ (bits c.e.dw10 7 0 ≠ 0x07 ∧ (s.port c.port).feat.setWord (bits c.e.dw10 7 0) c.e.dw11 = none))) → Completes (.setFeatures ctx) s fun t =>
    Answers ctx (if bit c.e.dw10 31 then .other 0x10D else .invalidField) s t

/-- SET_FEATURES (R53). -/
abbrev setFeatures_queues (ctx : Nat) (c : Ctx) (s : State) : Prop :=
  Bound s → (AdminWaits s ctx 0x09 c ∧ bit c.e.dw10 31 = false ∧ bits c.e.dw10 7 0 = 0x07 ∧ s.slotsOf c.port = [] ∧ bits c.e.dw11 15 0 ≠ 0xFFFF ∧ bits c.e.dw11 31 16 ≠ 0xFFFF) → Completes (.setFeatures ctx) s fun t =>
    Ended ctx .success (s.maxQ - 1 + (s.maxQ - 1) * 2 ^ 16) t ∧ Calm s t

/-- SET_FEATURES (R53). -/
abbrev setFeatures_sequence (ctx : Nat) (c : Ctx) (s : State) : Prop :=
  Bound s → (AdminWaits s ctx 0x09 c ∧ bit c.e.dw10 31 = false ∧ bits c.e.dw10 7 0 = 0x07 ∧ (s.slotsOf c.port ≠ [] ∨ bits c.e.dw11 15 0 = 0xFFFF ∨ bits c.e.dw11 31 16 = 0xFFFF)) → Completes (.setFeatures ctx) s fun t =>
    Answers ctx (if s.slotsOf c.port = [] then .invalidField else .commandSequenceError) s t

/-- GET_FEATURES (R53). -/
abbrev getFeatures (ctx : Nat) (c : Ctx) (v : Nat) (s : State) : Prop :=
  Bound s → (AdminWaits s ctx 0x0A c ∧ bits c.e.dw10 10 8 ≤ 3 ∧ ((if bits c.e.dw10 10 8 = 0 then (s.port c.port).feat else Features.reset).word s.maxQ (bits c.e.dw10 7 0) c.e.dw11) = some v) → Completes (.getFeatures ctx) s fun t =>
    Ended ctx .success (if bits c.e.dw10 10 8 = 3 then 4 else v) t ∧ Calm s t

/-- GET_FEATURES (R53). -/
abbrev getFeatures_refused (ctx : Nat) (c : Ctx) (s : State) : Prop :=
  Bound s → (AdminWaits s ctx 0x0A c ∧ (3 < bits c.e.dw10 10 8 ∨ ((if bits c.e.dw10 10 8 = 0 then (s.port c.port).feat else Features.reset).word s.maxQ (bits c.e.dw10 7 0) c.e.dw11) = none)) → Completes (.getFeatures ctx) s fun t =>
    Answers ctx .invalidField s t

/-- ASYNC_EVENT_REQUEST (R55). -/
abbrev asyncEventRequest (ctx : Nat) (c : Ctx) (s : State) : Prop :=
  Bound s → (AdminWaits s ctx 0x0C c ∧ (s.port c.port).aens = [] ∧ (s.port c.port).aers.length < 16) → Completes (.asyncEventRequest ctx) s fun t =>
    (t.port c.port).aers = (s.port c.port).aers ++ [ctx] ∧ t.ctxs = s.ctxs ∧ t.doneQ = s.doneQ ∧ t.out = s.out ∧ OnlyRegs [] s t ∧ t.sqs = s.sqs ∧ t.ns = s.ns
      ∧ KeepsMedia s t ∧ KeepsPower s t ∧ KeepsService s t ∧ KeepsFaults s t

/-- ASYNC_EVENT_REQUEST (R55). -/
abbrev asyncEventRequest_waiting (ctx : Nat) (c : Ctx) (a : Aen) (l : List Aen) (s : State) : Prop :=
  Bound s → (AdminWaits s ctx 0x0C c ∧ (s.port c.port).aens = a :: l) → Completes (.asyncEventRequest ctx) s fun t =>
    Ended ctx .success (a.type + a.info * 256 + a.page * 65536) t ∧ (t.port c.port).aens = l ∧ OnlyRegs [] s t ∧ KeepsMedia s t ∧ KeepsPower s t

/-- ASYNC_EVENT_REQUEST (R55). -/
abbrev asyncEventRequest_limit (ctx : Nat) (c : Ctx) (s : State) : Prop :=
  Bound s → (AdminWaits s ctx 0x0C c ∧ (s.port c.port).aens = [] ∧ 16 ≤ (s.port c.port).aers.length) → Completes (.asyncEventRequest ctx) s fun t =>
    Answers ctx .asyncEventLimitExceeded s t

/-- NS_CREATE (R56). -/
abbrev nsCreate (ctx : Nat) (data : NsData) (c : Ctx) (k : Nat) (s : State) : Prop :=
  Bound s → (AdminWaits s ctx 0x0D c ∧ bits c.e.dw10 3 0 = 0 ∧ s.mode ≠ .hold ∧ s.nsRefusal data = none ∧ s.freeNsid = some k) → Completes (.nsCreate ctx data) s fun t =>
    Ended ctx .success k t ∧ t.ns = s.ns.put k { zoned := data.csi == 2, nsze := data.nsze, attach0 := false, attach1 := false, writeProtect := data.csi == 0 && s.flag XLT_STATUS_RO_CONV, deleting := none }
      ∧ t.sqs = s.sqs ∧ t.cqs = s.cqs ∧ t.out = s.out ∧ t.zn = s.zn ∧ (data.csi = 2 → t.xl = s.xl) ∧ t.fl = s.fl ∧ t.wc = s.wc ∧ KeepsPower s t ∧ KeepsService s t

/-- NS_CREATE (R56). -/
abbrev nsCreate_refused (ctx : Nat) (data : NsData) (c : Ctx) (st : NvmeStatus) (s : State) : Prop :=
  Bound s → (AdminWaits s ctx 0x0D c ∧ bits c.e.dw10 3 0 = 0 ∧ s.mode ≠ .hold ∧ (s.nsRefusal data = some st ∨ (s.nsRefusal data = none ∧ s.freeNsid = none ∧ st = .nsIdUnavailable))) → Completes (.nsCreate ctx data) s fun t =>
    Answers ctx st s t

/-- NS_CREATE (R56). -/
abbrev nsCreate_hold (ctx : Nat) (data : NsData) (c : Ctx) (s : State) : Prop :=
  Bound s → (AdminWaits s ctx 0x0D c ∧ bits c.e.dw10 3 0 ≠ 1 ∧ (s.mode = .hold ∨ bits c.e.dw10 3 0 ≠ 0)) → Completes (.nsCreate ctx data) s fun t =>
    Answers ctx (if s.mode = .hold then .commandSequenceError else .invalidField) s t

/-- NS_DELETE (R57). -/
abbrev nsDelete (ctx : Nat) (c : Ctx) (n : Namespace) (s : State) : Prop :=
  Bound s → (AdminWaits s ctx 0x0D c ∧ bits c.e.dw10 3 0 = 1 ∧ s.mode ≠ .hold ∧ s.ctxs = [c] ∧ c.slot = 0 ∧ s.ns = [(c.e.nsid, n)] ∧ c.e.nsid ≠ 0xFFFFFFFF ∧ n.deleting = none ∧ n.zoned = true ∧ Quiet s ∧ s.zn.zones = []) → Completes (.nsDelete ctx) s fun t =>
    Ended ctx .success 0 t ∧ t.ns = [] ∧ t.sqs = s.sqs ∧ t.cqs = s.cqs ∧ KeepsPower s t ∧ KeepsService s t

/-- NS_DELETE (R57). -/
abbrev nsDelete_refused (ctx : Nat) (c : Ctx) (s : State) : Prop :=
  Bound s → (AdminWaits s ctx 0x0D c ∧ bits c.e.dw10 3 0 = 1 ∧ (s.mode = .hold ∨ (s.ns.any fun e => (c.e.nsid == 0xFFFFFFFF || e.1 == c.e.nsid) && e.2.deleting.isNone) = false)) → Completes (.nsDelete ctx) s fun t =>
    Answers ctx (if s.mode = .hold then .commandSequenceError else if c.e.nsid = 0xFFFFFFFF then .success else .invalidNamespaceOrFormat) s t

/-- NAMESPACE_ATTACHMENT (R57). -/
abbrev namespaceAttachment (ctx : Nat) (l : List Nat) (c : Ctx) (n : Namespace) (s : State) : Prop :=
  Bound s → (AdminWaits s ctx 0x15 c ∧ bits c.e.dw10 3 0 ≤ 1 ∧ s.mode ≠ .hold ∧ s.nspace c.e.nsid = some n ∧ n.deleting = none ∧ l ≠ [] ∧ (∀ p ∈ l, p ∈ s.portList ∧ (n.attached p ↔ bits c.e.dw10 3 0 = 1))) → Completes (.namespaceAttachment ctx l) s fun t =>
    Ended ctx .success 0 t ∧ t.ns = s.ns.modify c.e.nsid (fun n => { n with attach0 := if 0 ∈ l then bits c.e.dw10 3 0 == 0 else n.attach0, attach1 := if 1 ∈ l then bits c.e.dw10 3 0 == 0 else n.attach1 })
      ∧ OnlyRegs [] s t ∧ t.sqs = s.sqs ∧ t.cqs = s.cqs ∧ t.out = s.out ∧ KeepsMedia s t ∧ KeepsPower s t ∧ KeepsService s t ∧ KeepsFaults s t

/-- DIRECTIVE_SEND (R53). -/
abbrev directiveSend (ctx : Nat) (c : Ctx) (s : State) : Prop :=
  Bound s → (AdminWaits s ctx 0x19 c ∧ s.reachable c.port c.e.nsid = true ∧ bits c.e.dw11 15 8 = 0 ∧ bits c.e.dw11 7 0 = 1 ∧ bits c.e.dw12 15 8 = 1) → Completes (.directiveSend ctx) s fun t =>
    Ended ctx .success 0 t ∧ (c.e.nsid ∈ (t.port c.port).streamsEn ↔ bit c.e.dw12 0 = true) ∧ OnlyRegs [] s t ∧ t.out = s.out ∧ t.sqs = s.sqs ∧ t.cqs = s.cqs ∧ t.ns = s.ns ∧ KeepsMedia s t ∧ KeepsPower s t ∧ KeepsService s t ∧ KeepsFaults s t

/-- DIRECTIVE_SEND (R53). -/
abbrev directiveSend_release (ctx : Nat) (c : Ctx) (s : State) : Prop :=
  Bound s → (AdminWaits s ctx 0x19 c ∧ s.reachable c.port c.e.nsid = true ∧ bits c.e.dw11 15 8 = 1 ∧ (bits c.e.dw11 7 0 = 1 ∨ bits c.e.dw11 7 0 = 2) ∧ c.e.nsid ∈ (s.port c.port).streamsEn) → Completes (.directiveSend ctx) s fun t =>
    Ended ctx .success 0 t ∧ (bits c.e.dw11 7 0 = 1 → (c.e.nsid, bits c.e.dw11 31 16) ∉ (t.port c.port).streams) ∧ (bits c.e.dw11 7 0 = 2 → (t.port c.port).streamAlloc = (s.port c.port).streamAlloc.del c.e.nsid) ∧ OnlyRegs [] s t ∧ t.sqs = s.sqs ∧ t.ns = s.ns ∧ KeepsMedia s t ∧ KeepsPower s t

/-- DIRECTIVE_SEND (R53). -/
abbrev directiveSend_refused (ctx : Nat) (c : Ctx) (s : State) : Prop :=
  Bound s → (AdminWaits s ctx 0x19 c ∧ (s.reachable c.port c.e.nsid = false ∨ 1 < bits c.e.dw11 15 8)) → Completes (.directiveSend ctx) s fun t =>
    Answers ctx (if s.reachable c.port c.e.nsid then .invalidField else .invalidNamespaceOrFormat) s t

/-- DIRECTIVE_RECEIVE (R53). -/
abbrev directiveReceive (ctx : Nat) (c : Ctx) (s : State) : Prop :=
  Bound s → (AdminWaits s ctx 0x1A c ∧ s.reachable c.port c.e.nsid = true ∧ bits c.e.dw11 15 8 = 1 ∧ bits c.e.dw11 7 0 = 3 ∧ c.e.nsid ∈ (s.port c.port).streamsEn) → Completes (.directiveReceive ctx) s fun t =>
    Ended ctx .success (min (bits c.e.dw12 15 0) (min 16 (256 - (s.port c.port).streamAlloc.foldl (fun (n : Nat) (e : Nat × Nat) => n + e.2) 0))) t ∧ (t.port c.port).streamAlloc = (s.port c.port).streamAlloc.put c.e.nsid (min (bits c.e.dw12 15 0) (min 16 (256 - (s.port c.port).streamAlloc.foldl (fun (n : Nat) (e : Nat × Nat) => n + e.2) 0)))
      ∧ OnlyRegs [] s t ∧ t.out = s.out ∧ t.sqs = s.sqs ∧ t.cqs = s.cqs ∧ t.ns = s.ns ∧ KeepsMedia s t ∧ KeepsPower s t ∧ KeepsService s t ∧ KeepsFaults s t

/-- DIRECTIVE_RECEIVE (R53). -/
abbrev directiveReceive_status (ctx : Nat) (c : Ctx) (s : State) : Prop :=
  Bound s → (AdminWaits s ctx 0x1A c ∧ s.reachable c.port c.e.nsid = true ∧ bits c.e.dw11 15 8 = 1 ∧ bits c.e.dw11 7 0 = 2 ∧ c.e.nsid ∈ (s.port c.port).streamsEn) → Completes (.directiveReceive ctx) s fun t =>
    Ended ctx .success 0 t ∧ t.out = .page c.port c.e.cid ((le 2 ((s.port c.port).streamsOf c.e.nsid).length ++ (((s.port c.port).streamsOf c.e.nsid).map (le 2)).flatten).take (4 * (c.e.dw10 + 1))) .none :: s.out
      ∧ OnlyRegs [] s t ∧ t.port0 = s.port0 ∧ t.port1 = s.port1 ∧ t.sqs = s.sqs ∧ t.cqs = s.cqs ∧ t.ns = s.ns ∧ KeepsMedia s t ∧ KeepsPower s t ∧ KeepsService s t ∧ KeepsFaults s t

/-- IO_READ (R127). -/
abbrev ioRead (ctx : Nat) (c : Ctx) (s : State) : Prop :=
  Bound s → (IoWaits s ctx 0x02 none c ∧ c.port < 2 ∧ (s.port c.port).feat.marginEn = false ∧ (s.isConv c.e.nsid = false ∨ (s.convOpen = true ∧ s.touchesLost c.e.nsid c.slba c.nlb = false)) ∧ (∀ i < c.nlb, s.lbaPlace c.e.nsid (c.slba + i) = .zeros) ∧ (∀ k < 4, (s.dchan k).waiting = [] ∧ (s.dchan k).answered = [])) → Completes (.ioRead ctx) s fun t =>
    Ended ctx .success 0 t ∧ t.out = ((List.range c.nlb).map fun i => Out.hostData c.port c.e.cid (c.slba + i) 0 (s.tag c.port c.pasid)).reverse ++ s.out ∧ OnlyRegs [] s t
      ∧ t.ns = s.ns ∧ t.sqs = s.sqs ∧ t.cqs = s.cqs ∧ KeepsMedia s t ∧ KeepsPower s t ∧ KeepsService s t ∧ KeepsFaults s t

/-- IO_READ (R127). -/
abbrev ioRead_refused (ctx : Nat) (c : Ctx) (st : NvmeStatus) (s : State) : Prop :=
  Bound s → (IoRefused s ctx 0x02 none c st) → Completes (.ioRead ctx) s fun t =>
    Answers ctx st s t

/-- IO_READ (R127). -/
abbrev ioRead_lost (ctx : Nat) (c : Ctx) (st : NvmeStatus) (s : State) : Prop :=
  Bound s → (IoWaits s ctx 0x02 none c ∧ c.nlb = 1 ∧ c.port < 2 ∧ (s.port c.port).feat.marginEn = false ∧ (s.isConv c.e.nsid = false ∨ (s.convOpen = true ∧ s.touchesLost c.e.nsid c.slba 1 = false)) ∧ ((s.lbaPlace c.e.nsid c.slba = .lost ∧ st = .unrecoveredReadError) ∨ (s.lbaPlace c.e.nsid c.slba = .offline ∧ st = .zoneIsOffline)) ∧ (∀ k < 4, (s.dchan k).waiting = [] ∧ (s.dchan k).answered = [])) → Completes (.ioRead ctx) s fun t =>
    Ended ctx st 0 t ∧ t.out = s.out ∧ t.ns = s.ns ∧ t.sqs = s.sqs ∧ t.cqs = s.cqs ∧ KeepsMedia s t ∧ KeepsPower s t ∧ KeepsService s t

/-- IO_READ (R127). -/
abbrev ioRead_cached (ctx : Nat) (c : Ctx) (p d i : Nat) (copyB : Bool) (x : Pair) (s : State) : Prop :=
  Bound s → (IoWaits s ctx 0x02 none c ∧ c.nlb = 1 ∧ (s.isConv c.e.nsid = false ∨ (s.convOpen = true ∧ s.touchesLost c.e.nsid c.slba 1 = false)) ∧ s.lbaPlace c.e.nsid c.slba = .cached p ∧ s.wc.pairs.look p = some x ∧ s.hitCopy x = some (d, i, copyB) ∧ d < 4 ∧ s.chLive d = true ∧ s.flag DMC_CH_STAT_SREF d = false ∧ (s.dchan d).reads = [] ∧ (s.dchan d).writes = [] ∧ (∀ k < 4, (s.dchan k).waiting = [] ∧ (s.dchan k).answered = [])) → Completes (.ioRead ctx) s fun t =>
    (((t.dchan d).reads ++ (t.dchan d).issued).any fun q => q.use == some (.hit c.id c.slba p) && q.req.addr == s.bufAddr i c.slba && !q.req.write) = true
      ∧ (t.wc.pairs.look p).map (·.pins) = some (x.pins + 1) ∧ (t.ctx ctx).map (fun x => (x.stage, x.remaining)) = some (.issued, 1) ∧ Counts WCU_READ_HIT 0 1 s t
      ∧ t.out = s.out ∧ t.doneQ = s.doneQ ∧ t.ns = s.ns ∧ t.sqs = s.sqs ∧ t.cqs = s.cqs ∧ t.zn = s.zn ∧ t.fl = s.fl ∧ t.cd = s.cd ∧ t.xl = s.xl ∧ KeepsPower s t

/-- IO_READ (R127). -/
abbrev ioRead_flash (ctx : Nat) (c : Ctx) (set : Bool) (key slot row q : Nat) (m : Media) (w : Cw) (s : State) : Prop :=
  Bound s → (IoWaits s ctx 0x02 none c ∧ c.nlb = 1 ∧ (s.isConv c.e.nsid = false ∨ (s.convOpen = true ∧ s.touchesLost c.e.nsid c.slba 1 = false)) ∧ s.lbaPlace c.e.nsid c.slba = .flash set key slot row q m ∧ s.readCw c c.slba set key slot row q m = some w ∧ w.stage = .queued ∧ s.inService w.ch w.die = true ∧ s.chFailed w.ch = false) → Completes (.ioRead ctx) s fun t =>
    (t.cw s.cd.nextCw).map (fun x => (x.owner, x.ch, x.die, x.block, x.wl, x.stage)) = some (.host c.id c.slba, w.ch, w.die, w.block, w.wl, .queued)
      ∧ t.cd.nextCw = s.cd.nextCw + 1 ∧ (t.ctx ctx).map (fun x => (x.stage, x.remaining)) = some (.issued, 1) ∧ t.out = s.out ∧ t.doneQ = s.doneQ
      ∧ t.ns = s.ns ∧ t.sqs = s.sqs ∧ t.zn = s.zn ∧ t.wc = s.wc ∧ t.xl = s.xl ∧ KeepsPower s t

/-- IO_WRITE (R95). -/
abbrev ioWrite (ctx : Nat) (data : List Nat) (upsets : List Upset) (c : Ctx) (r : Zone) (s : State) : Prop :=
  Bound s → (IoWaits s ctx 0x01 none c ∧ Quiet s ∧ s.isConv c.e.nsid = false ∧ s.zone c.e.nsid (c.slba / zoneSpan) = some r ∧ (r.state = .implicitOpen ∨ r.state = .explicitOpen) ∧ r.ap = c.slba % zoneSpan ∧ r.ap + c.nlb ≤ r.zcap) → Completes (.ioWrite ctx data upsets) s fun t =>
    t.zn.zones = s.zn.zones.modify (zkeyOf c.e.nsid (c.slba / zoneSpan)) (fun x => { x with ap := x.ap + c.nlb })
      ∧ t.zn.adm.map (fun a => (a.ctx, a.nsid, a.kind, a.lba, a.len, a.data)) = [(some c.id, c.e.nsid, .write, c.slba, c.nlb, (List.range c.nlb).map fun i => data.getD i 0)]
      ∧ (t.ctx ctx).map (·.stage) = some .issued ∧ t.doneQ = s.doneQ ∧ t.ns = s.ns ∧ t.sqs = s.sqs ∧ t.xl = s.xl ∧ KeepsPower s t

/-- IO_WRITE (R95). -/
abbrev ioWrite_refused (ctx : Nat) (data : List Nat) (upsets : List Upset) (c : Ctx) (st : NvmeStatus) (s : State) : Prop :=
  Bound s → (IoRefused s ctx 0x01 none c st) → Completes (.ioWrite ctx data upsets) s fun t =>
    Answers ctx st s t

/-- IO_WRITE (R95). -/
abbrev ioWrite_invalid (ctx : Nat) (data : List Nat) (upsets : List Upset) (c : Ctx) (r : Zone) (st : NvmeStatus) (s : State) : Prop :=
  Bound s → (IoWaits s ctx 0x01 none c ∧ Quiet s ∧ s.isConv c.e.nsid = false ∧ s.zone c.e.nsid (c.slba / zoneSpan) = some r ∧ (if r.zcap < c.slba % zoneSpan + c.nlb then some .zoneBoundaryError else match r.state with | .full => some .zoneIsFull | .readOnly => some .zoneIsReadOnly | .offline => some .zoneIsOffline | _ => if c.slba % zoneSpan ≠ r.ap then some .zoneInvalidWrite else none) = some st) → Completes (.ioWrite ctx data upsets) s fun t =>
    Ended ctx st 0 t ∧ t.zn.zones = s.zn.zones ∧ t.zn.adm = [] ∧ t.xl = s.xl ∧ t.ns = s.ns ∧ t.out = s.out ∧ KeepsPower s t

/-- WRITE_ZEROES (R95). -/
abbrev writeZeroes (ctx : Nat) (upsets : List Upset) (c : Ctx) (r : Zone) (s : State) : Prop :=
  Bound s → (IoWaits s ctx 0x08 none c ∧ Quiet s ∧ s.isConv c.e.nsid = false ∧ s.zone c.e.nsid (c.slba / zoneSpan) = some r ∧ (r.state = .implicitOpen ∨ r.state = .explicitOpen) ∧ r.ap = c.slba % zoneSpan ∧ r.ap + c.nlb ≤ r.zcap) → Completes (.writeZeroes ctx upsets) s fun t =>
    t.zn.zones = s.zn.zones.modify (zkeyOf c.e.nsid (c.slba / zoneSpan)) (fun x => { x with ap := x.ap + c.nlb })
      ∧ t.zn.adm.map (fun a => (a.ctx, a.nsid, a.kind, a.lba, a.len, a.data)) = [(some c.id, c.e.nsid, .zeroes, c.slba, c.nlb, List.replicate c.nlb 0)]
      ∧ (t.ctx ctx).map (·.stage) = some .issued ∧ t.doneQ = s.doneQ ∧ t.ns = s.ns ∧ t.sqs = s.sqs ∧ t.xl = s.xl ∧ KeepsPower s t

/-- WRITE_ZEROES (R95). -/
abbrev writeZeroes_refused (ctx : Nat) (upsets : List Upset) (c : Ctx) (st : NvmeStatus) (s : State) : Prop :=
  Bound s → (IoRefused s ctx 0x08 none c st) → Completes (.writeZeroes ctx upsets) s fun t =>
    Answers ctx st s t

/-- ZONE_APPEND (R97). -/
abbrev zoneAppend (ctx : Nat) (data : List Nat) (upsets : List Upset) (c : Ctx) (r : Zone) (s : State) : Prop :=
  Bound s → (IoWaits s ctx 0x7D none c ∧ Quiet s ∧ s.isConv c.e.nsid = false ∧ s.zone c.e.nsid (c.slba / zoneSpan) = some r ∧ (r.state = .implicitOpen ∨ r.state = .explicitOpen) ∧ r.ap + c.nlb ≤ r.zcap) → Completes (.zoneAppend ctx data upsets) s fun t =>
    t.zn.zones = s.zn.zones.modify (zkeyOf c.e.nsid (c.slba / zoneSpan)) (fun x => { x with ap := x.ap + c.nlb })
      ∧ t.zn.adm.map (fun a => (a.ctx, a.kind, a.lba, a.len)) = [(some c.id, .append, c.slba / zoneSpan * zoneSpan + r.ap, c.nlb)]
      ∧ (t.ctx ctx).map (·.stage) = some .issued ∧ t.doneQ = s.doneQ ∧ t.ns = s.ns ∧ t.sqs = s.sqs ∧ t.xl = s.xl ∧ KeepsPower s t

/-- ZONE_APPEND (R97). -/
abbrev zoneAppend_refused (ctx : Nat) (data : List Nat) (upsets : List Upset) (c : Ctx) (st : NvmeStatus) (s : State) : Prop :=
  Bound s → (IoRefused s ctx 0x7D none c st) → Completes (.zoneAppend ctx data upsets) s fun t =>
    Answers ctx st s t

/-- FLUSH (R49). -/
abbrev flush (ctx : Nat) (c : Ctx) (s : State) : Prop :=
  Bound s → (IoWaits s ctx 0x00 none c) → Completes (.flush ctx) s fun t =>
    Answers ctx .success s t

/-- FLUSH (R49). -/
abbrev flush_refused (ctx : Nat) (c : Ctx) (st : NvmeStatus) (s : State) : Prop :=
  Bound s → (IoRefused s ctx 0x00 none c st) → Completes (.flush ctx) s fun t =>
    Answers ctx st s t

/-- MIRROR_WRITE_HELD (R335). -/
abbrev mirrorWriteHeld (pair : Nat) (x : Pair) (s : State) : Prop :=
  (s.wc.pairs.look pair = some x ∧ s.adm x.adm = none) → Effect (.mirrorWriteHeld pair) s (x.held = false ∧ s.mirrorHeld pair = true ∧ s.powered = true) fun t =>
    t.wc = { s.wc with pairs := s.wc.pairs.modify pair (fun y => { y with held := true }) } ∧ t.zn = s.zn ∧ t.pool = s.pool ∧ t.fl = s.fl ∧ t.xl = s.xl ∧ OnlyRegs [] s t
      ∧ KeepsHost s t ∧ KeepsPower s t ∧ KeepsService s t

/-- MIRROR_WRITE_HELD (R335). -/
abbrev mirrorWriteHeld_commits (pair : Nat) (x : Pair) (a : Adm) (r : Zone) (s : State) : Prop :=
  (s.wc.pairs = [(pair, x)] ∧ s.zn.adm = [a] ∧ s.zn.roPending = [] ∧ x.adm = a.id ∧ a.stage = .moving ∧ a.kind = .write ∧ a.pairs = [pair] ∧ a.ctx = none ∧ s.isConv a.nsid = false ∧ s.zone a.nsid (a.lba / zoneSpan) = some r ∧ r.state = .implicitOpen ∧ r.wp + a.len < r.zcap ∧ s.sliceThrough a.slice = false ∧ s.wc.flushBy = []) → Effect (.mirrorWriteHeld pair) s (x.held = false ∧ s.mirrorHeld pair = true ∧ s.powered = true) fun t =>
    (t.zone a.nsid (a.lba / zoneSpan)).map (·.wp) = some (r.wp + a.len) ∧ (t.wc.pairs.look pair).map (fun y => (y.held, y.committed, y.dirty)) = some (true, true, true)
      ∧ t.zn.adm = [] ∧ t.ns = s.ns ∧ KeepsPower s t

/-- ZONE_OPEN (R98). -/
abbrev zoneOpen (ctx : Nat) (upsets : List Upset) (c : Ctx) (r : Zone) (s : State) : Prop :=
  Bound s → (IoWaits s ctx 0x79 (some 3) c ∧ Quiet s ∧ s.isConv c.e.nsid = false ∧ bit c.e.dw13 8 = false ∧ s.zone c.e.nsid (c.slba / zoneSpan) = some r ∧ (r.state = .closed ∨ r.state = .implicitOpen)) → Completes (.zoneOpen ctx upsets) s fun t =>
    Ended ctx .success 0 t ∧ t.zn.zones = s.zn.zones.modify (zkeyOf c.e.nsid (c.slba / zoneSpan)) (fun x => { x with state := .explicitOpen }) ∧ t.zn.adm = []
      ∧ t.ns = s.ns ∧ t.xl = s.xl ∧ KeepsPower s t

/-- ZONE_OPEN (R98). -/
abbrev zoneOpen_invalid (ctx : Nat) (upsets : List Upset) (c : Ctx) (r : Zone) (s : State) : Prop :=
  Bound s → (IoWaits s ctx 0x79 (some 3) c ∧ Quiet s ∧ s.isConv c.e.nsid = false ∧ bit c.e.dw13 8 = false ∧ s.zone c.e.nsid (c.slba / zoneSpan) = some r ∧ (r.state = .full ∨ r.state = .readOnly ∨ r.state = .offline)) → Completes (.zoneOpen ctx upsets) s fun t =>
    Ended ctx .invalidZoneStateTransition 0 t ∧ t.zn.zones = s.zn.zones ∧ t.zn.adm = [] ∧ t.ns = s.ns ∧ t.xl = s.xl ∧ KeepsPower s t

/-- ZONE_OPEN (R98). -/
abbrev zoneOpen_refused (ctx : Nat) (upsets : List Upset) (c : Ctx) (st : NvmeStatus) (s : State) : Prop :=
  Bound s → (IoRefused s ctx 0x79 (some 3) c st) → Completes (.zoneOpen ctx upsets) s fun t =>
    Answers ctx st s t

/-- ZONE_CLOSE (R98). -/
abbrev zoneClose (ctx : Nat) (c : Ctx) (r : Zone) (s : State) : Prop :=
  Bound s → (IoWaits s ctx 0x79 (some 1) c ∧ Quiet s ∧ s.isConv c.e.nsid = false ∧ bit c.e.dw13 8 = false ∧ s.zone c.e.nsid (c.slba / zoneSpan) = some r ∧ (r.state = .explicitOpen ∨ r.state = .implicitOpen)) → Completes (.zoneClose ctx) s fun t =>
    Ended ctx .success 0 t ∧ (t.zone c.e.nsid (c.slba / zoneSpan)) = some { r with state := .closed } ∧ t.zn.adm = []
      ∧ t.ns = s.ns ∧ t.xl = s.xl ∧ KeepsPower s t

/-- ZONE_CLOSE (R98). -/
abbrev zoneClose_invalid (ctx : Nat) (c : Ctx) (r : Zone) (s : State) : Prop :=
  Bound s → (IoWaits s ctx 0x79 (some 1) c ∧ Quiet s ∧ s.isConv c.e.nsid = false ∧ bit c.e.dw13 8 = false ∧ s.zone c.e.nsid (c.slba / zoneSpan) = some r ∧ (r.state = .full ∨ r.state = .readOnly ∨ r.state = .offline)) → Completes (.zoneClose ctx) s fun t =>
    Ended ctx .invalidZoneStateTransition 0 t ∧ t.zn.zones = s.zn.zones ∧ t.zn.adm = [] ∧ t.ns = s.ns ∧ t.xl = s.xl ∧ KeepsPower s t

/-- ZONE_CLOSE (R98). -/
abbrev zoneClose_refused (ctx : Nat) (c : Ctx) (st : NvmeStatus) (s : State) : Prop :=
  Bound s → (IoRefused s ctx 0x79 (some 1) c st) → Completes (.zoneClose ctx) s fun t =>
    Answers ctx st s t

/-- ZONE_FINISH (R98). -/
abbrev zoneFinish (ctx : Nat) (c : Ctx) (r : Zone) (s : State) : Prop :=
  Bound s → (IoWaits s ctx 0x79 (some 2) c ∧ Quiet s ∧ s.isConv c.e.nsid = false ∧ bit c.e.dw13 8 = false ∧ s.zone c.e.nsid (c.slba / zoneSpan) = some r ∧ r.state.active = true) → Completes (.zoneFinish ctx) s fun t =>
    Ended ctx .success 0 t ∧ (t.zone c.e.nsid (c.slba / zoneSpan)).map (fun x => (x.state, x.wp, x.ap, x.fillFrom)) = some (.full, r.zcap, r.zcap, some r.wp) ∧ t.zn.adm = []
      ∧ t.ns = s.ns ∧ t.xl = s.xl ∧ KeepsPower s t

/-- ZONE_FINISH (R98). -/
abbrev zoneFinish_invalid (ctx : Nat) (c : Ctx) (r : Zone) (s : State) : Prop :=
  Bound s → (IoWaits s ctx 0x79 (some 2) c ∧ Quiet s ∧ s.isConv c.e.nsid = false ∧ bit c.e.dw13 8 = false ∧ s.zone c.e.nsid (c.slba / zoneSpan) = some r ∧ (r.state = .readOnly ∨ r.state = .offline)) → Completes (.zoneFinish ctx) s fun t =>
    Ended ctx .invalidZoneStateTransition 0 t ∧ t.zn.zones = s.zn.zones ∧ t.zn.adm = [] ∧ t.ns = s.ns ∧ t.xl = s.xl ∧ KeepsPower s t

/-- ZONE_FINISH (R98). -/
abbrev zoneFinish_refused (ctx : Nat) (c : Ctx) (st : NvmeStatus) (s : State) : Prop :=
  Bound s → (IoRefused s ctx 0x79 (some 2) c st) → Completes (.zoneFinish ctx) s fun t =>
    Answers ctx st s t

/-- ZONE_RESET (R98). -/
abbrev zoneReset (ctx : Nat) (c : Ctx) (r : Zone) (s : State) : Prop :=
  Bound s → (IoWaits s ctx 0x79 (some 4) c ∧ Quiet s ∧ s.isConv c.e.nsid = false ∧ bit c.e.dw13 8 = false ∧ s.zone c.e.nsid (c.slba / zoneSpan) = some r ∧ (r.state.active = true ∨ r.state = .full)) → Completes (.zoneReset ctx) s fun t =>
    Ended ctx .success 0 t ∧ t.zone c.e.nsid (c.slba / zoneSpan) = none ∧ t.zn.adm = [] ∧ t.ns = s.ns ∧ t.sqs = s.sqs ∧ t.cqs = s.cqs ∧ KeepsPower s t

/-- ZONE_RESET (R98). -/
abbrev zoneReset_invalid (ctx : Nat) (c : Ctx) (r : Zone) (s : State) : Prop :=
  Bound s → (IoWaits s ctx 0x79 (some 4) c ∧ Quiet s ∧ s.isConv c.e.nsid = false ∧ bit c.e.dw13 8 = false ∧ s.zone c.e.nsid (c.slba / zoneSpan) = some r ∧ (r.state = .readOnly ∨ r.state = .offline)) → Completes (.zoneReset ctx) s fun t =>
    Ended ctx .invalidZoneStateTransition 0 t ∧ t.zn.zones = s.zn.zones ∧ t.zn.adm = [] ∧ t.ns = s.ns ∧ t.xl = s.xl ∧ KeepsPower s t

/-- ZONE_RESET (R98). -/
abbrev zoneReset_refused (ctx : Nat) (c : Ctx) (st : NvmeStatus) (s : State) : Prop :=
  Bound s → (IoRefused s ctx 0x79 (some 4) c st) → Completes (.zoneReset ctx) s fun t =>
    Answers ctx st s t

/-- ZONE_OFFLINE (R98). -/
abbrev zoneOffline (ctx : Nat) (c : Ctx) (r : Zone) (s : State) : Prop :=
  Bound s → (IoWaits s ctx 0x79 (some 5) c ∧ Quiet s ∧ s.isConv c.e.nsid = false ∧ bit c.e.dw13 8 = false ∧ s.zone c.e.nsid (c.slba / zoneSpan) = some r ∧ r.state = .readOnly) → Completes (.zoneOffline ctx) s fun t =>
    Ended ctx .success 0 t ∧ (t.zone c.e.nsid (c.slba / zoneSpan)).map (fun x => (x.state, x.ctx)) = some (.offline, none) ∧ t.zn.adm = []
      ∧ t.ns = s.ns ∧ t.sqs = s.sqs ∧ t.cqs = s.cqs ∧ KeepsPower s t

/-- ZONE_OFFLINE (R98). -/
abbrev zoneOffline_invalid (ctx : Nat) (c : Ctx) (r : Zone) (s : State) : Prop :=
  Bound s → (IoWaits s ctx 0x79 (some 5) c ∧ Quiet s ∧ s.isConv c.e.nsid = false ∧ bit c.e.dw13 8 = false ∧ s.zone c.e.nsid (c.slba / zoneSpan) = some r ∧ (r.state.active = true ∨ r.state = .full)) → Completes (.zoneOffline ctx) s fun t =>
    Ended ctx .invalidZoneStateTransition 0 t ∧ t.zn.zones = s.zn.zones ∧ t.zn.adm = [] ∧ t.ns = s.ns ∧ t.xl = s.xl ∧ KeepsPower s t

/-- ZONE_OFFLINE (R98). -/
abbrev zoneOffline_refused (ctx : Nat) (c : Ctx) (st : NvmeStatus) (s : State) : Prop :=
  Bound s → (IoRefused s ctx 0x79 (some 5) c st) → Completes (.zoneOffline ctx) s fun t =>
    Answers ctx st s t

/-- ZONE_MANAGEMENT_RECEIVE (R53). -/
abbrev zoneManagementReceive (ctx : Nat) (c : Ctx) (n : Namespace) (s : State) : Prop :=
  Bound s → (IoWaits s ctx 0x7A none c ∧ s.isConv c.e.nsid = false ∧ bits c.e.dw13 7 0 = 0 ∧ bits c.e.dw13 15 8 ≤ 7 ∧ s.nspace c.e.nsid = some n) → Completes (.zoneManagementReceive ctx) s fun t =>
    Ended ctx .success 0 t ∧ t.out = .page c.port c.e.cid (s.zoneReport c (n.nsze / zoneSpan)) (s.tag c.port c.pasid) :: s.out ∧ OnlyRegs [] s t
      ∧ t.ns = s.ns ∧ t.sqs = s.sqs ∧ t.cqs = s.cqs ∧ KeepsMedia s t ∧ KeepsPower s t ∧ KeepsService s t ∧ KeepsFaults s t

/-- ZONE_MANAGEMENT_RECEIVE (R53). -/
abbrev zoneManagementReceive_field (ctx : Nat) (c : Ctx) (s : State) : Prop :=
  Bound s → (IoWaits s ctx 0x7A none c ∧ s.isConv c.e.nsid = false ∧ (bits c.e.dw13 7 0 ≠ 0 ∨ 7 < bits c.e.dw13 15 8)) → Completes (.zoneManagementReceive ctx) s fun t =>
    Answers ctx .invalidField s t

/-- ZONE_MANAGEMENT_RECEIVE (R53). -/
abbrev zoneManagementReceive_refused (ctx : Nat) (c : Ctx) (st : NvmeStatus) (s : State) : Prop :=
  Bound s → (IoRefused s ctx 0x7A none c st) → Completes (.zoneManagementReceive ctx) s fun t =>
    Answers ctx st s t

/-- DATASET_MANAGEMENT (R232). -/
abbrev datasetManagement (ctx lba : Nat) (c : Ctx) (n : Namespace) (s : State) : Prop :=
  Bound s → (IoWaits s ctx 0x09 none c ∧ s.nspace c.e.nsid = some n ∧ s.convOpen = true ∧ s.touchesLost c.e.nsid lba 1 = false ∧ bit c.e.dw11 2 = true ∧ lba < n.nsze ∧ s.xl.recs.length < maxRecs ∧ s.wc.pairs = []) → Completes (.datasetManagement ctx [(lba, 1)]) s fun t =>
    Ended ctx .success 0 t ∧ t.mapGet c.e.nsid lba = none
      ∧ t.xl.recs = s.xl.recs ++ [{ nsid := c.e.nsid, lba := lba, len := 1, lost := false, slice := c.slice, covered := false }]
      ∧ t.ns = s.ns ∧ t.zn = s.zn ∧ t.wc = s.wc ∧ t.fl = s.fl ∧ KeepsPower s t ∧ KeepsService s t

/-- DATASET_MANAGEMENT (R232). -/
abbrev datasetManagement_other (ctx : Nat) (ranges : List (Nat × Nat)) (c : Ctx) (s : State) : Prop :=
  Bound s → (IoWaits s ctx 0x09 none c ∧ s.convOpen = true ∧ (∀ r ∈ ranges, s.touchesLost c.e.nsid r.1 r.2 = false) ∧ bit c.e.dw11 2 = false) → Completes (.datasetManagement ctx ranges) s fun t =>
    Ended ctx .success 0 t ∧ t.xl = s.xl ∧ t.ns = s.ns ∧ KeepsMedia s t ∧ KeepsPower s t ∧ KeepsService s t

/-- DATASET_MANAGEMENT (R232). -/
abbrev datasetManagement_refused (ctx : Nat) (ranges : List (Nat × Nat)) (c : Ctx) (st : NvmeStatus) (s : State) : Prop :=
  Bound s → (IoRefused s ctx 0x09 none c st) → Completes (.datasetManagement ctx ranges) s fun t =>
    Answers ctx st s t

/-- SLM_CLR_CNT (R83). -/
abbrev slmClrCnt (i : Nat) (s : State) : Prop :=
  Effect .slmClrCnt s (s.powered = true) fun t =>
    (∀ f ∈ blkSLM.counters, i < 256 → t.get f i 0 = 0) ∧ (∀ x ∈ blkSLM.rearm, t.hasFired x 0 = false) ∧ t.hasFired blkSLM.src (0 + 0x100) = false
      ∧ OnlyRegs ((blkSLM.counters.flatMap fun f => (List.range 256).map fun k => f.key k 0)) s t ∧ t.ev.todo = s.ev.todo ∧ KeepsAll s t

/-- TLG_CLR_CNT (R83). -/
abbrev tlgClrCnt (i : Nat) (s : State) : Prop :=
  Effect .tlgClrCnt s (s.powered = true) fun t =>
    (∀ f ∈ blkTLG.counters, i < 256 → t.get f i 0 = 0) ∧ (∀ x ∈ blkTLG.rearm, t.hasFired x 0 = false) ∧ t.hasFired blkTLG.src (0 + 0x100) = false
      ∧ OnlyRegs ((blkTLG.counters.flatMap fun f => (List.range 256).map fun k => f.key k 0)) s t ∧ t.ev.todo = s.ev.todo ∧ KeepsAll s t

/-- WPT_CLR_CNT (R118). -/
abbrev wptClrCnt (i : Nat) (s : State) : Prop :=
  Effect .wptClrCnt s (s.powered = true) fun t =>
    (∀ f ∈ blkWPT.counters, i < 8 → t.get f i 0 = 0) ∧ (∀ x ∈ blkWPT.rearm, t.hasFired x ownWPT = false) ∧ t.hasFired blkWPT.src (ownWPT + 0x100) = false
      ∧ OnlyRegs ((blkWPT.counters.flatMap fun f => (List.range 8).map fun k => f.key k 0)) s t ∧ t.ev.todo = s.ev.todo ∧ KeepsAll s t

/-- ZNE_CLR_CNT (R118). -/
abbrev zneClrCnt (s : State) : Prop :=
  Effect .zneClrCnt s (s.powered = true) fun t =>
    (∀ f ∈ blkZNE.counters, t.get f 0 0 = 0) ∧ (∀ x ∈ blkZNE.rearm, t.hasFired x ownZNE = false) ∧ t.hasFired blkZNE.src (ownZNE + 0x100) = false
      ∧ OnlyRegs ((blkZNE.counters.map fun f => f.key 0 0)) s t ∧ t.ev.todo = s.ev.todo ∧ KeepsAll s t

/-- WCU_CLR_CNT (R145). -/
abbrev wcuClrCnt (s : State) : Prop :=
  Effect .wcuClrCnt s (s.powered = true) fun t =>
    (∀ f ∈ blkWCU.counters, t.get f 0 0 = 0) ∧ (∀ x ∈ blkWCU.rearm, t.hasFired x ownWCU = false) ∧ t.hasFired blkWCU.src (ownWCU + 0x100) = false
      ∧ OnlyRegs ((blkWCU.counters.map fun f => f.key 0 0)) s t ∧ t.ev.todo = s.ev.todo ∧ KeepsAll s t

/-- BPL_CLR_CNT (R145). -/
abbrev bplClrCnt (s : State) : Prop :=
  Effect .bplClrCnt s (s.powered = true) fun t =>
    (∀ f ∈ blkBPL.counters, t.get f 0 0 = 0) ∧ (∀ x ∈ blkBPL.rearm, t.hasFired x ownBPL = false) ∧ t.hasFired blkBPL.src (ownBPL + 0x100) = false
      ∧ OnlyRegs ((blkBPL.counters.map fun f => f.key 0 0)) s t ∧ t.ev.todo = s.ev.todo ∧ KeepsAll s t

/-- DSC_CLR_CNT (R182). -/
abbrev dscClrCnt (s : State) : Prop :=
  Effect .dscClrCnt s (s.powered = true) fun t =>
    (∀ f ∈ blkDSC.counters, t.get f 0 0 = 0) ∧ (∀ x ∈ blkDSC.rearm, t.hasFired x 0 = false) ∧ t.hasFired blkDSC.src (0 + 0x100) = false
      ∧ OnlyRegs ((blkDSC.counters.map fun f => f.key 0 0)) s t ∧ t.ev.todo = s.ev.todo ∧ KeepsAll s t

/-- LDC_CLR_CNT (R224). -/
abbrev ldcClrCnt (i : Nat) (s : State) : Prop :=
  Effect .ldcClrCnt s (s.powered = true) fun t =>
    (∀ f ∈ blkLDC.counters, i < 5 → t.get f i 0 = 0) ∧ (∀ x ∈ blkLDC.rearm, t.hasFired x ownLDC = false) ∧ t.hasFired blkLDC.src (ownLDC + 0x100) = false
      ∧ OnlyRegs ((blkLDC.counters.flatMap fun f => (List.range 5).map fun k => f.key k 0)) s t ∧ t.ev.todo = s.ev.todo ∧ KeepsAll s t

/-- XLT_CLR_CNT (R249). -/
abbrev xltClrCnt (s : State) : Prop :=
  Effect .xltClrCnt s (s.powered = true) fun t =>
    (∀ f ∈ blkXLT.counters, t.get f 0 0 = 0) ∧ (∀ x ∈ blkXLT.rearm, t.hasFired x 0 = false) ∧ t.hasFired blkXLT.src (0 + 0x100) = false
      ∧ OnlyRegs ((blkXLT.counters.map fun f => f.key 0 0)) s t ∧ t.ev.todo = s.ev.todo ∧ KeepsAll s t

/-- HUC_CLR_CNT (R283). -/
abbrev hucClrCnt (s : State) : Prop :=
  Effect .hucClrCnt s (s.powered = true) fun t =>
    (∀ f ∈ blkHUC.counters, t.get f 0 0 = 0) ∧ (∀ x ∈ blkHUC.rearm, t.hasFired x 0 = false) ∧ t.hasFired blkHUC.src (0 + 0x100) = false
      ∧ OnlyRegs ((blkHUC.counters.map fun f => f.key 0 0)) s t ∧ t.ev.todo = s.ev.todo ∧ KeepsAll s t

/-- PSQ_CLR_CNT (R304). -/
abbrev psqClrCnt (i : Nat) (s : State) : Prop :=
  Effect .psqClrCnt s (s.powered = true) fun t =>
    (∀ f ∈ blkPSQ.counters, i < 12 → t.get f i 0 = 0) ∧ (∀ x ∈ blkPSQ.rearm, t.hasFired x ownPSQ = false) ∧ t.hasFired blkPSQ.src (ownPSQ + 0x100) = false
      ∧ OnlyRegs ((blkPSQ.counters.flatMap fun f => (List.range 12).map fun k => f.key k 0)) s t ∧ t.ev.todo = s.ev.todo ∧ KeepsAll s t

/-- DRG_CLR_CNT (R304). -/
abbrev drgClrCnt (s : State) : Prop :=
  Effect .drgClrCnt s (s.powered = true) fun t =>
    (∀ f ∈ blkDRG.counters, t.get f 0 0 = 0) ∧ (∀ x ∈ blkDRG.rearm, t.hasFired x ownDRG = false) ∧ t.hasFired blkDRG.src (ownDRG + 0x100) = false
      ∧ t.get DRG_MIN_MV = 0
      ∧ OnlyRegs ((blkDRG.counters.map fun f => f.key 0 0) ++ [DRG_MIN_MV.key 0 0]) s t ∧ t.ev.todo = s.ev.todo ∧ KeepsAll s t

/-- PSC_CLR_CNT (R324). -/
abbrev pscClrCnt (s : State) : Prop :=
  Effect .pscClrCnt s (s.powered = true) fun t =>
    (∀ f ∈ blkPSC.counters, t.get f 0 0 = 0) ∧ (∀ x ∈ blkPSC.rearm, t.hasFired x 0 = false) ∧ t.hasFired blkPSC.src (0 + 0x100) = false
      ∧ OnlyRegs ((blkPSC.counters.map fun f => f.key 0 0)) s t ∧ t.ev.todo = s.ev.todo ∧ KeepsAll s t

/-- MPU_CLR_CNT (R355). -/
abbrev mpuClrCnt (s : State) : Prop :=
  Effect .mpuClrCnt s (s.powered = true) fun t =>
    (∀ f ∈ blkMPU.counters, t.get f 0 0 = 0) ∧ (∀ x ∈ blkMPU.rearm, t.hasFired x 0 = false) ∧ t.hasFired blkMPU.src (0 + 0x100) = false
      ∧ OnlyRegs ((blkMPU.counters.map fun f => f.key 0 0)) s t ∧ t.ev.todo = s.ev.todo ∧ KeepsAll s t

/-- FCL_CLR_CNT (R391). -/
abbrev fclClrCnt (s : State) : Prop :=
  Effect .fclClrCnt s (s.powered = true) fun t =>
    (∀ f ∈ blkFCL.counters, t.get f 0 0 = 0) ∧ (∀ x ∈ blkFCL.rearm, t.hasFired x 0 = false) ∧ t.hasFired blkFCL.src (0 + 0x100) = false
      ∧ OnlyRegs ((blkFCL.counters.map fun f => f.key 0 0)) s t ∧ t.ev.todo = s.ev.todo ∧ KeepsAll s t

/-- MSM_CLR_CNT (R391). -/
abbrev msmClrCnt (s : State) : Prop :=
  Effect .msmClrCnt s (s.powered = true) fun t =>
    (∀ f ∈ blkMSM.counters, t.get f 0 0 = 0) ∧ (∀ x ∈ blkMSM.rearm, t.hasFired x 0 = false) ∧ t.hasFired blkMSM.src (0 + 0x100) = false
      ∧ OnlyRegs ((blkMSM.counters.map fun f => f.key 0 0)) s t ∧ t.ev.todo = s.ev.todo ∧ KeepsAll s t

/-- THM_CLR_CNT (R391). -/
abbrev thmClrCnt (s : State) : Prop :=
  Effect .thmClrCnt s (s.powered = true) fun t =>
    (∀ f ∈ blkTHM.counters, t.get f 0 0 = 0) ∧ (∀ x ∈ blkTHM.rearm, t.hasFired x 0 = false) ∧ t.hasFired blkTHM.src (0 + 0x100) = false
      ∧ OnlyRegs ((blkTHM.counters.map fun f => f.key 0 0)) s t ∧ t.ev.todo = s.ev.todo ∧ KeepsAll s t

/-- FWS_CLR_CNT (R429). -/
abbrev fwsClrCnt (s : State) : Prop :=
  Effect .fwsClrCnt s (s.powered = true) fun t =>
    (∀ f ∈ blkFWS.counters, t.get f 0 0 = 0) ∧ (∀ x ∈ blkFWS.rearm, t.hasFired x ownFWS = false) ∧ t.hasFired blkFWS.src (ownFWS + 0x100) = false
      ∧ OnlyRegs ((blkFWS.counters.map fun f => f.key 0 0)) s t ∧ t.ev.todo = s.ev.todo ∧ KeepsAll s t

/-- FWC_CLR_CNT (R429). -/
abbrev fwcClrCnt (s : State) : Prop :=
  Effect .fwcClrCnt s (s.powered = true) fun t =>
    (∀ f ∈ blkFWC.counters, t.get f 0 0 = 0) ∧ (∀ x ∈ blkFWC.rearm, t.hasFired x ownFWC = false) ∧ t.hasFired blkFWC.src (ownFWC + 0x100) = false
      ∧ OnlyRegs ((blkFWC.counters.map fun f => f.key 0 0)) s t ∧ t.ev.todo = s.ev.todo ∧ KeepsAll s t

/-- FSQ_CLR_CNT (R182). -/
abbrev fsqClrCnt (ch : Nat) (s : State) : Prop :=
  Effect (.fsqClrCnt ch) s (s.powered = true ∧ ch < 64) fun t =>
    (∀ f ∈ [FSQ_REFUSE_CNT, FSQ_PFAIL_CNT, FSQ_EFAIL_CNT, FSQ_SUSP_CNT, FSQ_RETRAIN_CNT, FSQ_SLOT_DEFER_CNT], t.get f ch 0 = 0) ∧ t.hasFired ch 0x200 = false
      ∧ OnlyRegs ([FSQ_REFUSE_CNT, FSQ_PFAIL_CNT, FSQ_EFAIL_CNT, FSQ_SUSP_CNT, FSQ_RETRAIN_CNT, FSQ_SLOT_DEFER_CNT].map fun f => f.key ch 0) s t ∧ t.ev.todo = s.ev.todo ∧ KeepsAll s t

/-- SDF_CLR_CNT (R224). -/
abbrev sdfClrCnt (ch : Nat) (s : State) : Prop :=
  Effect (.sdfClrCnt ch) s (s.powered = true ∧ ch < 64) fun t =>
    (∀ f ∈ blkSDF.counters, t.get f ch 0 = 0) ∧ (∀ x ∈ blkSDF.rearm, t.hasFired x (ownSDF + ch) = false) ∧ t.hasFired blkSDF.src (ownSDF + ch + 0x100) = false
      ∧ OnlyRegs (blkSDF.counters.map fun f => f.key ch 0) s t ∧ t.ev.todo = s.ev.todo ∧ KeepsAll s t

/-- DMC_CLR_CNT (R355). -/
abbrev dmcClrCnt (d : Nat) (s : State) : Prop :=
  Effect .dmcClrCnt s (s.powered = true) fun t =>
    (∀ f ∈ dmcCounters, d < 4 → t.get f d 0 = 0) ∧ (d < 4 → t.hasFired (83 + 4 * d) (ownDMC d) = false)
      ∧ OnlyRegs (dmcCounters.flatMap fun f => (List.range 4).map fun k => f.key k 0) s t ∧ t.ev.todo = s.ev.todo ∧ KeepsAll s t

/-- JNR_CLR_CNT (R381). -/
abbrev jnrClrCnt (p : Nat) (s : State) : Prop :=
  Effect .jnrClrCnt s (s.powered = true) fun t =>
    (∀ f ∈ jnrCounters, t.get f 0 0 = 0) ∧ (∀ f ∈ cwpCounters, p < 4 → t.get f p 0 = 0)
      ∧ (∀ x ∈ blkJNR.rearm, t.hasFired x ownJNR = false) ∧ t.hasFired blkJNR.src (ownJNR + 0x100) = false ∧ (p < 4 → t.hasFired 143 (ownCWP p + 0x100) = false)
      ∧ OnlyRegs ((jnrCounters.map fun f => f.key 0 0) ++ cwpCounters.flatMap fun f => (List.range 4).map fun k => f.key k 0) s t ∧ t.ev.todo = s.ev.todo ∧ KeepsAll s t

/-- SLICE_RESET_REQUEST (R73). -/
abbrev sliceResetRequest (slice go : Nat) (s : State) : Prop :=
  (Quiet s ∧ s.cd.cws = [] ∧ slice < s.sliceCount ∧ s.underReset slice = false) → Effect (.sliceResetRequest slice go) s (s.powered = true ∧ go % 2 = 1) fun t =>
    (s.mode = .hold → t.get SLM_RSTAT_REJ slice = 1 ∧ Raises 121 s t ∧ t.resets = s.resets ∧ t.get SLM_GEN slice = s.get SLM_GEN slice)
      ∧ (s.inModes [.run, .service] = true → t.get SLM_RSTAT_BUSY slice = 1 ∧ Raises 115 s t ∧ t.get SLM_GEN slice = nextGen (s.get SLM_GEN slice)
      ∧ t.resets = s.resets.put slice { oldGen := s.get SLM_GEN slice, newGen := nextGen (s.get SLM_GEN slice), ranNs := 0, since := if s.mode = Mode.run then some s.now else none, budget := [] })
      ∧ t.ctxs = s.ctxs ∧ t.sqs = s.sqs ∧ t.ns = s.ns ∧ KeepsPower s t

/-- SLICE_RESET_REQUEST (R73). -/
abbrev sliceResetRequest_ignored (slice go : Nat) (s : State) : Prop :=
  Bound s → (s.sliceCount ≤ slice ∨ (s.underReset slice = true ∧ s.mode ≠ .hold)) → Completes (.sliceResetRequest slice go) s fun t =>
    KeepsAll s t ∧ OnlyRegs [] s t ∧ t.out = s.out ∧ t.ev.todo = s.ev.todo

/-- SLICE_RESET_COMPLETE (R73). -/
abbrev sliceResetComplete (slice : Nat) (r : SliceReset) (s : State) : Prop :=
  (s.resets.look slice = some r ∧ slice < 256 ∧ s.ctxs = [] ∧ s.cqs = [] ∧ s.mg.waiting = [] ∧ (s.ns.all fun e => e.2.deleting.isNone) = true) → Effect (.sliceResetComplete slice) s (s.inModes [.run, .service] = true ∧ s.flag SLM_RSTAT_HELD slice = false ∧ s.resetDrained slice = true) fun t =>
    t.get SLM_RSTAT_BUSY slice = 0 ∧ t.get SLM_RSTAT_DONE slice = 1
      ∧ t.get SLM_RSTAT_ELAPSED slice = min ((r.ranNs + (match r.since with | some u => s.now - u | none => 0)) / 1000000) 255
      ∧ t.resets = s.resets.del slice ∧ Raises 116 s t ∧ (∀ e ∈ t.sqs, t.queueSlice e.2 = slice → e.2.head = 0 ∧ e.2.tail = 0) ∧ t.ns = s.ns ∧ KeepsMedia s t ∧ KeepsPower s t

/-- TOKEN_REFILL (R68). -/
abbrev tokenRefill (ch die n : Nat) (s : State) : Prop :=
  (ch < 64 ∧ die < 32 ∧ s.inService ch die = true ∧ (n < s.sliceCount ∨ n = 256 ∨ n = 257)) → Effect .tokenRefill s (s.powered = true) fun t =>
    t.tokens ch die n = min (s.tokens ch die n + s.gain n) (64 * s.gain n) ∧ { t.fl with tokens := s.fl.tokens } = s.fl ∧ t.zn = s.zn ∧ t.wc = s.wc ∧ t.xl = s.xl
      ∧ OnlyRegs [] s t ∧ KeepsHost s t ∧ KeepsPower s t ∧ KeepsService s t ∧ KeepsFaults s t

/-- READ_AROUND_BUDGET_EXPIRY (R81). -/
abbrev readAroundBudgetExpiry (ctx : Nat) (c : Ctx) (s : State) : Prop :=
  (s.ctx ctx = some c ∧ c.remote = none ∧ c.cls < 4) → Effect (.readAroundBudgetExpiry ctx) s (s.powered = true ∧ 0 < c.raBudget ∧ c.raStarted = false ∧ c.stage ≠ .done ∧ s.oldGen c = false ∧ c.fetchNs + 1000 * c.raBudget ≤ s.now) fun t =>
    (t.ctx ctx).map (·.raStarted) = some true ∧ Counts TLG_RA_START c.cls 1 s t ∧ (s.hasFired (260 + c.cls) 0 = false → Raises (260 + c.cls) s t)
      ∧ t.ns = s.ns ∧ t.sqs = s.sqs ∧ t.cqs = s.cqs ∧ KeepsPower s t

/-- BUSY_READ_AROUND (R170). -/
abbrev busyReadAround (cw : Nat) (c : Cw) (x : Ctx) (r : Running) (o : DieOp) (s : State) : Prop :=
  (s.cw cw = some c ∧ c.owner = .host x.id 3 ∧ s.ctx x.id = some x ∧ x.remote = none ∧ (s.die c.ch c.die).run = some r ∧ s.headRead c.ch c.die = some o) → Effect (.busyReadAround cw) s (s.inModes [.run, .service] = true ∧ s.flag DSC_CFG_BUSY_RA = true ∧ s.flag TLG_CTRL_RA_EN = true ∧ (r.op.kind = .program ∨ r.op.kind = .erase) ∧ r.window = none ∧ r.suspending = false ∧ cw ∈ o.cws ∧ s.neverSuspend r o = true ∧ x.raBudget ≠ 0 ∧ c.stripe ≠ none ∧ s.unprotectedCw c = false ∧ c.recon = false ∧ s.now < x.fetchNs + 1000 * x.raBudget ∧ x.fetchNs + 1000 * x.raBudget < s.now + (r.op.estimate - (r.busy + (s.now - r.since)))) fun t =>
    Counts DSC_BUSY_RA_CNT 0 1 s t ∧ (t.ctx x.id).map (·.raStarted) = some true ∧ t.ns = s.ns ∧ t.sqs = s.sqs ∧ t.cqs = s.cqs ∧ KeepsPower s t

/-- RECONSTRUCTION_COMPLETE (R169). -/
abbrev reconstructionComplete (cw : Nat) (c : Cw) (x : Ctx) (lba : Nat) (s : State) : Prop :=
  (s.cw cw = some c ∧ c.owner = .host x.id lba ∧ s.ctx x.id = some x ∧ x.stage = .issued ∧ x.remaining = 1 ∧ x.remote = none ∧ x.replWait = false ∧ c.stage = .peersOnly ∧ s.stale c = false) → Effect (.reconstructionComplete cw) s (s.flashOn = true ∧ c.recon = true ∧ c.peersLeft = 0 ∧ c.peerFailed = false) fun t =>
    t.out = .hostData x.port x.e.cid lba c.peersXor (s.tag x.port x.pasid) :: s.out ∧ x.id ∈ t.doneQ ∧ t.cw cw = none ∧ Counts LDC_STEP_CNT 4 1 s t
      ∧ t.ns = s.ns ∧ t.sqs = s.sqs ∧ t.zn = s.zn ∧ t.wc = s.wc ∧ KeepsPower s t ∧ KeepsService s t

/-- DIE_OPERATION_START (R163). -/
abbrev dieOperationStart (ch die k : Nat) (o : DieOp) (s : State) : Prop :=
  (s.nextOp ch die = some o ∧ (s.die ch die).run = none ∧ o.cws = [] ∧ (o.owner = .raw ∨ s.refusal ch die o = 0)) → Effect (.dieOperationStart ch die) s (ch < 64 ∧ die < 32 ∧ s.flashOn = true ∧ s.inService ch die = true ∧ s.chFailed ch = false ∧ s.busFree ch = true) fun t =>
    (t.die ch die).run = some { op := o, since := s.now, busy := 0, suspends := 0, window := none, suspending := false }
      ∧ (o.kind = .program → o.owner ≠ .raw → (t.block ch die o.block).npp = o.wl + 1 ∧ (t.block ch die o.block).st = (if o.wl = 1023 then .full else .opened))
      ∧ (k ≠ dieKey ch die → t.fl.dies.look k = s.fl.dies.look k) ∧ OnlyRegs [FSQ_DIE_OP.key ch die, FSQ_DIE_OPEN_BLKS.key ch die, FSQ_DIE_RETIRED.key ch die] s t
      ∧ t.zn = s.zn ∧ t.wc = s.wc ∧ t.xl = s.xl ∧ KeepsHost s t ∧ KeepsPower s t ∧ KeepsService s t ∧ KeepsFaults s t

/-- DIE_OPERATION_START (R163). -/
abbrev dieOperationStart_read (ch die id : Nat) (o : DieOp) (s : State) : Prop :=
  (s.nextOp ch die = some o ∧ (s.die ch die).run = none ∧ o.cws = [id] ∧ o.kind = .hardRead) → Effect (.dieOperationStart ch die) s (ch < 64 ∧ die < 32 ∧ s.flashOn = true ∧ s.inService ch die = true ∧ s.chFailed ch = false ∧ s.busFree ch = true) fun t =>
    (t.die ch die).run = some { op := o, since := s.now, busy := 0, suspends := 0, window := none, suspending := false } ∧ (t.cw id).map (·.stage) = (s.cw id).map (fun _ => .reading)
      ∧ OnlyRegs [FSQ_DIE_OP.key ch die, FSQ_DIE_OPEN_BLKS.key ch die, FSQ_DIE_RETIRED.key ch die] s t ∧ t.zn = s.zn ∧ t.wc = s.wc ∧ t.xl = s.xl ∧ KeepsHost s t ∧ KeepsPower s t ∧ KeepsService s t ∧ KeepsFaults s t

/-- DIE_OPERATION_START (R163). -/
abbrev dieOperationStart_window (ch die n : Nat) (o : DieOp) (r : Running) (s : State) : Prop :=
  (s.nextOp ch die = some o ∧ (s.die ch die).run = some r ∧ r.window = some n ∧ o.isRead = true ∧ o.cws = []) → Effect (.dieOperationStart ch die) s (ch < 64 ∧ die < 32 ∧ s.flashOn = true ∧ s.inService ch die = true ∧ s.chFailed ch = false ∧ s.busFree ch = true) fun t =>
    (t.die ch die).winRead = some (o, s.now) ∧ (t.die ch die).run = some { r with window := some (n + 1) }
      ∧ OnlyRegs [FSQ_DIE_OP.key ch die, FSQ_DIE_OPEN_BLKS.key ch die, FSQ_DIE_RETIRED.key ch die] s t ∧ t.zn = s.zn ∧ t.wc = s.wc ∧ t.xl = s.xl ∧ KeepsHost s t ∧ KeepsPower s t ∧ KeepsService s t ∧ KeepsFaults s t

/-- DIE_OPERATION_START (R163). -/
abbrev dieOperationStart_refused (ch die : Nat) (o : DieOp) (s : State) : Prop :=
  (s.nextOp ch die = some o ∧ o.owner = .other ∧ s.refusal ch die o ≠ 0 ∧ o.block < 4096 ∧ o.wl < 1024) → Effect (.dieOperationStart ch die) s (ch < 64 ∧ die < 32 ∧ s.flashOn = true ∧ s.inService ch die = true ∧ s.chFailed ch = false ∧ s.busFree ch = true) fun t =>
    t.get FSQ_LAST_REFUSE_CODE ch = s.refusal ch die o ∧ t.get FSQ_LAST_REFUSE_DIE ch = die ∧ t.get FSQ_LAST_REFUSE_BLOCK ch = o.block % 2 ^ FSQ_LAST_REFUSE_BLOCK.width
      ∧ t.get FSQ_LAST_REFUSE_WL ch = o.wl % 2 ^ FSQ_LAST_REFUSE_WL.width ∧ Counts FSQ_REFUSE_CNT ch 1 s t ∧ t.flag FSQ_EVT_REFUSED ch = true ∧ (t.die ch die).run = (s.die ch die).run
      ∧ t.zn = s.zn ∧ t.wc = s.wc ∧ t.xl = s.xl ∧ KeepsHost s t ∧ KeepsPower s t ∧ KeepsService s t

/-- PROGRAM_COMPLETE (R156). -/
abbrev programComplete (ch die : Nat) (k row i : Nat) (r : Running) (z : Zone) (m : Member) (s : State) : Prop :=
  (Quiet s ∧ s.wc.pairs = [] ∧ s.arrayEnds ch die .program = some r ∧ r.op.owner = .member k row i ∧ s.zn.zones.look k = some z ∧ z.members[slotOfMember z.split z.fn i]? = some m ∧ slotOfMember z.split z.fn i ≠ paritySlot z.split z.fn (groupOf z.split i)) → Effect (.programComplete ch die true) s (ch < 64 ∧ die < 32 ∧ s.flashOn = true ∧ s.busFree ch = true) fun t =>
    (t.die ch die).run = none ∧ ((t.zn.zones.look k).bind fun y => y.members[slotOfMember z.split z.fn i]?) = some { m with verified := m.verified + 1 }
      ∧ t.ctxs = s.ctxs ∧ t.sqs = s.sqs ∧ t.ns = s.ns ∧ ((t.xl.wearZones.lookD k Wear.fresh).firstHour = (s.xl.wearZones.lookD k Wear.fresh).firstHour.or (some s.opHours)) ∧ { t.xl with wearZones := s.xl.wearZones } = s.xl ∧ t.wc = s.wc ∧ KeepsPower s t ∧ KeepsService s t

/-- PROGRAM_COMPLETE (R156). -/
abbrev programComplete_failed (ch die : Nat) (r : Running) (s : State) : Prop :=
  (s.arrayEnds ch die .program = some r) → Effect (.programComplete ch die false) s (ch < 64 ∧ die < 32 ∧ s.flashOn = true ∧ s.busFree ch = true) fun t =>
    (t.die ch die).run = none ∧ Counts FSQ_PFAIL_CNT ch 1 s t ∧ t.flag FSQ_EVT_PROG_FAIL ch = true ∧ t.sqs = s.sqs ∧ t.ns.map (·.1) = s.ns.map (·.1) ∧ KeepsPower s t

/-- ERASE_COMPLETE (R156). -/
abbrev eraseComplete (ch die : Nat) (r : Running) (s : State) : Prop :=
  (Quiet s ∧ s.arrayEnds ch die .erase = some r ∧ r.op.owner = .other) → Effect (.eraseComplete ch die true) s (ch < 64 ∧ die < 32 ∧ s.flashOn = true ∧ s.busFree ch = true) fun t =>
    (t.die ch die).run = none ∧ t.block ch die r.op.block = { s.block ch die r.op.block with st := .erased, npp := 0, pe := (s.block ch die r.op.block).pe + 1, owned := (s.sysIndex (dieKey ch die) r.op.block).isSome, firstMs := 0 }
      ∧ t.zn = s.zn ∧ t.wc = s.wc ∧ t.xl = s.xl ∧ KeepsHost s t ∧ KeepsPower s t ∧ KeepsService s t ∧ KeepsFaults s t

/-- ERASE_COMPLETE (R156). -/
abbrev eraseComplete_failed (ch die : Nat) (r : Running) (s : State) : Prop :=
  (s.arrayEnds ch die .erase = some r) → Effect (.eraseComplete ch die false) s (ch < 64 ∧ die < 32 ∧ s.flashOn = true ∧ s.busFree ch = true) fun t =>
    (t.die ch die).run = none ∧ Counts FSQ_EFAIL_CNT ch 1 s t ∧ t.flag FSQ_EVT_ERASE_FAIL ch = true ∧ t.sqs = s.sqs ∧ KeepsPower s t

/-- HARD_READ_COMPLETE (R148). -/
abbrev hardReadComplete (ch die page k : Nat) (o : DieOp) (since id : Nat) (s : State) : Prop :=
  (s.readEnds ch die .hardRead = some (o, since) ∧ o.cws = [id]) → Effect (.hardReadComplete ch die page) s (ch < 64 ∧ die < 32 ∧ s.flashOn = true ∧ s.busFree ch = true) fun t =>
    (t.die ch die).winRead = none ∧ ((s.die ch die).winRead = none → (t.die ch die).run = none) ∧ (t.cw id).map (fun x => (x.stage, x.ch, x.die, x.block, x.wl, x.step)) = (s.cw id).map (fun x => (.decoding, x.ch, x.die, x.block, x.wl, x.step))
      ∧ (k ≠ id → (t.cw k).map (·.stage) = (s.cw k).map (·.stage))
      ∧ OnlyRegs [FSQ_DIE_OP.key ch die, FSQ_DIE_OPEN_BLKS.key ch die, FSQ_DIE_RETIRED.key ch die] s t ∧ t.zn = s.zn ∧ t.wc = s.wc ∧ t.xl = s.xl ∧ KeepsHost s t ∧ KeepsPower s t ∧ KeepsService s t ∧ KeepsFaults s t

/-- PROGRAM_SUSPEND (R159). -/
abbrev programSuspend (ch die : Nat) (r : Running) (s : State) : Prop :=
  ((s.die ch die).run = some r) → Effect (.programSuspend ch die) s (ch < 64 ∧ die < 32 ∧ s.flashOn = true ∧ s.busFree ch = true ∧ s.maySuspend ch die .program = true) fun t =>
    (t.die ch die).run = some { r with suspending := true, suspends := r.suspends + 1 } ∧ Counts FSQ_SUSP_CNT ch 1 s t
      ∧ t.zn = s.zn ∧ t.wc = s.wc ∧ t.xl = s.xl ∧ t.cd = s.cd ∧ KeepsHost s t ∧ KeepsPower s t ∧ KeepsService s t

/-- ERASE_SUSPEND (R159). -/
abbrev eraseSuspend (ch die : Nat) (r : Running) (s : State) : Prop :=
  ((s.die ch die).run = some r) → Effect (.eraseSuspend ch die) s (ch < 64 ∧ die < 32 ∧ s.flashOn = true ∧ s.busFree ch = true ∧ s.maySuspend ch die .erase = true) fun t =>
    (t.die ch die).run = some { r with suspending := true, suspends := r.suspends + 1 } ∧ Counts FSQ_SUSP_CNT ch 1 s t
      ∧ t.zn = s.zn ∧ t.wc = s.wc ∧ t.xl = s.xl ∧ t.cd = s.cd ∧ KeepsHost s t ∧ KeepsPower s t ∧ KeepsService s t

/-- SUSPEND_COMPLETE (R161). -/
abbrev suspendComplete (ch die : Nat) (r : Running) (s : State) : Prop :=
  ((s.die ch die).run = some r) → Effect (.suspendComplete ch die) s (ch < 64 ∧ die < 32 ∧ s.flashOn = true ∧ r.suspending = true) fun t =>
    (t.die ch die).run = some { r with suspending := false, window := some 0, busy := r.busy + (s.now - r.since) } ∧ OnlyRegs [FSQ_DIE_OP.key ch die, FSQ_DIE_OPEN_BLKS.key ch die, FSQ_DIE_RETIRED.key ch die] s t
      ∧ t.zn = s.zn ∧ t.wc = s.wc ∧ t.xl = s.xl ∧ t.cd = s.cd ∧ KeepsHost s t ∧ KeepsPower s t ∧ KeepsService s t ∧ KeepsFaults s t

/-- PROGRAM_RESUME (R161). -/
abbrev programResume (ch die : Nat) (r : Running) (s : State) : Prop :=
  ((s.die ch die).run = some r) → Effect (.programResume ch die) s (ch < 64 ∧ die < 32 ∧ s.flashOn = true ∧ s.busFree ch = true ∧ s.mode ≠ .detour ∧ s.mayResume ch die .program = true) fun t =>
    (t.die ch die).run = some { r with window := none, since := s.now } ∧ OnlyRegs [FSQ_DIE_OP.key ch die, FSQ_DIE_OPEN_BLKS.key ch die, FSQ_DIE_RETIRED.key ch die] s t
      ∧ t.zn = s.zn ∧ t.wc = s.wc ∧ t.xl = s.xl ∧ t.cd = s.cd ∧ KeepsHost s t ∧ KeepsPower s t ∧ KeepsService s t ∧ KeepsFaults s t

/-- ERASE_RESUME (R161). -/
abbrev eraseResume (ch die : Nat) (r : Running) (s : State) : Prop :=
  ((s.die ch die).run = some r) → Effect (.eraseResume ch die) s (ch < 64 ∧ die < 32 ∧ s.flashOn = true ∧ s.busFree ch = true ∧ s.mode ≠ .detour ∧ s.mayResume ch die .erase = true) fun t =>
    (t.die ch die).run = some { r with window := none, since := s.now } ∧ OnlyRegs [FSQ_DIE_OP.key ch die, FSQ_DIE_OPEN_BLKS.key ch die, FSQ_DIE_RETIRED.key ch die] s t
      ∧ t.zn = s.zn ∧ t.wc = s.wc ∧ t.xl = s.xl ∧ t.cd = s.cd ∧ KeepsHost s t ∧ KeepsPower s t ∧ KeepsService s t ∧ KeepsFaults s t

/-- DIE_READY_TIMEOUT (R174). -/
abbrev dieReadyTimeout (ch die : Nat) (idOk : Bool) (s : State) : Prop :=
  Effect (.dieReadyTimeout ch die idOk) s (ch < 64 ∧ die < 32 ∧ s.flashOn = true ∧ s.dieOverdue ch die = true) fun t =>
    (s.inService ch die = true → idOk = true → (t.die ch die).run = none ∧ (t.die ch die).winRead = none ∧ (t.die ch die).dual = true ∧ t.get FSQ_DIE_STATE ch die = s.get FSQ_DIE_STATE ch die)
      ∧ (s.inService ch die = true → idOk = false → t.get FSQ_DIE_STATE ch die = dieFailed ∧ t.flag FSQ_EVT_DIE_FAIL ch = true ∧ (t.die ch die).run = none ∧ (t.die ch die).progs = [])
      ∧ t.sqs = s.sqs ∧ t.cqs = s.cqs ∧ KeepsPower s t

/-- REBUILD_WORDLINE (R176). -/
abbrev rebuildWordline (ch die : Nat) (set : Bool) (key slot : Nat) (st : Stripe) (m : Member) (s : State) : Prop :=
  (s.rebuildNext ch die = some (set, key, slot) ∧ s.stripeOf set key = some st ∧ st.members[slot]? = some m ∧ (s.fl.copies.any fun w => w.set == set && w.key == key && w.slot == slot && w.wl == m.rebuilt.getD 0) = false ∧ (s.fl.copies.any fun w => w.set == set && w.key == key && w.slot == slot) = false) → Effect (.rebuildWordline ch die) s (ch < 64 ∧ die < 32 ∧ s.inModes [.run, .service] = true) fun t =>
    s.cd.nextCw + 16 ≤ t.cd.nextCw ∧ t.sqs = s.sqs ∧ t.cqs = s.cqs ∧ t.ctxs = s.ctxs ∧ t.ns = s.ns ∧ KeepsPower s t ∧ KeepsService s t

/-- RETRAIN_PERIOD_EXPIRY (R180). -/
abbrev retrainPeriodExpiry (ch : Nat) (s : State) : Prop :=
  Effect (.retrainPeriodExpiry ch) s (ch < 64 ∧ s.flashOn = true ∧ s.chFailed ch = false ∧ s.get DSC_TRAIN_CFG_PERIOD ≠ 0 ∧ (s.chan ch).lastSlot + 10000000 * s.get DSC_TRAIN_CFG_PERIOD ≤ s.now ∧ (s.fl.slots.any fun r => r.ch == ch && r.cw.isNone && r.ticket.isNone) = false) fun t =>
    t.fl = { s.fl with slots := s.fl.slots ++ [{ ch := ch, die := none, cw := none, ticket := none, since := s.now, deferredSince := none }] }
      ∧ OnlyRegs [] s t ∧ t.zn = s.zn ∧ t.wc = s.wc ∧ t.xl = s.xl ∧ t.cd = s.cd ∧ KeepsHost s t ∧ KeepsPower s t ∧ KeepsService s t ∧ KeepsFaults s t

/-- RETRAINING_SLOT_START (R179). -/
abbrev retrainingSlotStart (r : SlotReq) (l : List SlotReq) (s : State) : Prop :=
  (s.fl.slots = r :: l ∧ s.slackShort r.ch = false ∧ r.ch < 64 ∧ s.slotDie r < 32) → Effect .retrainingSlotStart s (s.flashOn = true ∧ s.mode ≠ .detour ∧ s.fl.slotRun = none ∧ (s.fl.slotEnd = 0 ∨ s.fl.slotEnd + 100000 ≤ s.now)) fun t =>
    t.fl.slotRun = some { r with die := some (s.slotDie r), since := s.now } ∧ t.fl.slots = l ∧ Counts FSQ_RETRAIN_CNT r.ch 1 s t ∧ t.get DSC_STATUS_SLOT_CH = r.ch
      ∧ t.fl.dies = s.fl.dies ∧ t.zn = s.zn ∧ t.wc = s.wc ∧ t.xl = s.xl ∧ t.cd = s.cd ∧ KeepsHost s t ∧ KeepsPower s t

/-- SLOT_DEFER_TIMEOUT (R180). -/
abbrev slotDeferTimeout (r : SlotReq) (l : List SlotReq) (s : State) : Prop :=
  (s.fl.slots = r :: l ∧ s.past r.deferredSince (1000000 * s.get DSC_TRAIN_CFG_MAX_DEFER) = true ∧ r.ch < 64 ∧ s.slotDie r < 32) → Effect .slotDeferTimeout s (s.flashOn = true ∧ s.mode ≠ .detour ∧ s.fl.slotRun = none ∧ (s.fl.slotEnd = 0 ∨ s.fl.slotEnd + 100000 ≤ s.now)) fun t =>
    t.fl.slotRun = some { r with die := some (s.slotDie r), since := s.now } ∧ t.fl.slots = l ∧ Counts FSQ_RETRAIN_CNT r.ch 1 s t ∧ t.get DSC_STATUS_SLOT_CH = r.ch
      ∧ t.fl.dies = s.fl.dies ∧ t.zn = s.zn ∧ t.wc = s.wc ∧ t.xl = s.xl ∧ t.cd = s.cd ∧ KeepsHost s t ∧ KeepsPower s t

/-- RETRAINING_SLOT_END (R179). -/
abbrev retrainingSlotEnd (eye : Nat) (burst : List Nat) (r : SlotReq) (s : State) : Prop :=
  (s.fl.slotRun = some r ∧ r.ch < 64 ∧ r.cw = none) → Effect (.retrainingSlotEnd eye burst) s (s.fl.slotRun ≠ none) fun t =>
    t.fl.slotRun = none ∧ t.fl.slotEnd = s.now ∧ t.get DSC_STATUS_SLOT_CH = 0x40 ∧ (t.chan r.ch).lastSlot = s.now
      ∧ (eye < 16 → t.get FSQ_STATUS_STATE r.ch = 3 ∧ t.flag FSQ_EVT_FULL_TRAIN r.ch = true) ∧ (16 ≤ eye → (s.sampleOff r.ch (r.die.getD 0) = true ∨ trainBurstOk (r.die.getD 0 % 8) 0 false burst = true) → t.get FSQ_STATUS_STATE r.ch = s.get FSQ_STATUS_STATE r.ch)
      ∧ t.fl.dies = s.fl.dies ∧ t.zn = s.zn ∧ t.wc = s.wc ∧ t.xl = s.xl ∧ t.cd = s.cd ∧ KeepsHost s t ∧ KeepsPower s t

/-- FULL_RETRAINING_START (R181). -/
abbrev fullRetrainingStart (ch : Nat) (s : State) : Prop :=
  Effect (.fullRetrainingStart ch) s (ch < 64 ∧ s.flashOn = true ∧ (s.get FSQ_STATUS_STATE ch = 3 ∨ s.fullTicket ch ≠ none) ∧ (s.chan ch).fullRunning = false ∧ s.busFree ch = true ∧ (s.chIdle ch = true ∨ s.mode = .service)) fun t =>
    (t.chan ch).fullRunning = true ∧ t.get FSQ_STATUS_RATE ch = min (s.get FSQ_STATUS_RATE ch) (min 4 (s.get FSQ_TIMING_RATE_MAX ch)) ∧ t.busFree ch = false ∧ t.fl.dies = s.fl.dies ∧ t.zn = s.zn ∧ t.wc = s.wc ∧ t.xl = s.xl ∧ t.cd = s.cd ∧ KeepsHost s t ∧ KeepsPower s t ∧ KeepsFaults s t

/-- FULL_RETRAINING_END (R181). -/
abbrev fullRetrainingEnd (ch : Nat) (ok : Bool) (training : List DieTraining) (s : State) : Prop :=
  Effect (.fullRetrainingEnd ch ok training) s (ch < 64 ∧ (s.chan ch).fullRunning = true) fun t =>
    (ok = true → (t.chan ch).fullRunning = false ∧ t.get FSQ_STATUS_STATE ch = 1 ∧ t.get SDF_SAMPLE_OFF ch = (s.offAfter ch training).foldl setBit 0 ∧ t.get FSQ_STATUS_RATE ch = s.get FSQ_STATUS_RATE ch ∧ (s.get FSQ_STATUS_RATE ch < min 4 (s.get FSQ_TIMING_RATE_MAX ch) → t.flag FSQ_EVT_RATE_LOW ch = true))
      ∧ (ok = false → s.get FSQ_STATUS_RATE ch = 0 → (t.chan ch).fullRunning = false ∧ t.get FSQ_STATUS_STATE ch = 2)
      ∧ (ok = false → s.get FSQ_STATUS_RATE ch ≠ 0 → (t.chan ch).fullRunning = true ∧ t.get FSQ_STATUS_RATE ch = s.get FSQ_STATUS_RATE ch - 1)
      ∧ t.sqs = s.sqs ∧ t.cqs = s.cqs ∧ KeepsPower s t

/-- SAMPLE_READ_COMPLETE (R185). -/
abbrev sampleReadComplete (ch die : Nat) (o : DieOp) (since : Nat) (s : State) : Prop :=
  (s.readEnds ch die .sampleRead = some (o, since)) → Effect (.sampleReadComplete ch die) s (ch < 64 ∧ die < 32 ∧ s.flashOn = true ∧ s.busFree ch = true) fun t =>
    (t.die ch die).samples = some o ∧ (t.die ch die).winRead = none ∧ ((s.die ch die).winRead = none → (t.die ch die).run = none) ∧ t.sd.readouts.has ch = true
      ∧ (s.sd.readouts.has ch = true → t.sd = s.sd) ∧ t.cd = s.cd ∧ t.zn = s.zn ∧ t.wc = s.wc ∧ t.xl = s.xl ∧ KeepsHost s t ∧ KeepsPower s t ∧ KeepsService s t ∧ KeepsFaults s t

/-- BURST_RECEIVED (R191). -/
abbrev burstReceived (ch : Nat) (bytes : List Nat) (r : Readout) (s : State) : Prop :=
  (s.sd.readouts.look ch = some r) → Effect (.burstReceived ch bytes) s (ch < 64 ∧ s.flashOn = true ∧ r.burst < 9) fun t =>
    (t.sd.readouts.look ch).map (fun x => (x.die, x.op, x.burst)) = some (r.die, r.op, r.burst + 1) ∧ Counts SDF_BURST_CNT ch 1 s t
      ∧ t.cd = s.cd ∧ t.zn = s.zn ∧ t.wc = s.wc ∧ t.xl = s.xl ∧ t.fl = s.fl ∧ KeepsHost s t ∧ KeepsPower s t ∧ KeepsService s t

/-- SAMPLE_OUT_END (R193). -/
abbrev sampleOutEnd (ch : Nat) (r : Readout) (id : Nat) (s : State) : Prop :=
  (s.sd.readouts.look ch = some r ∧ r.unframed = [] ∧ r.todo = none ∧ r.op.cws = [id] ∧ r.die < 32 ∧ s.cd.decodeQ = []) → Effect (.sampleOutEnd ch) s (ch < 64 ∧ s.flashOn = true ∧ 9 ≤ r.burst) fun t =>
    (t.cw id).map (fun x => (x.stage, x.step, x.owner)) = (s.cw id).map (fun x => (.decoding, x.step, x.owner)) ∧ (t.die ch r.die).samples = none ∧ t.sd.badCols = s.sd.badCols
      ∧ t.zn = s.zn ∧ t.wc = s.wc ∧ KeepsHost s t ∧ KeepsPower s t ∧ KeepsService s t

/-- SAMPLE_OUT_END (R193). -/
abbrev sampleOutEnd_again (ch : Nat) (r : Readout) (b : Nat) (l : List Nat) (s : State) : Prop :=
  (s.sd.readouts.look ch = some r ∧ r.unframed = b :: l ∧ r.todo = none ∧ (s.die ch r.die).samples.map (·.id) = some r.op.id ∧ r.die < 32 ∧ s.get FSQ_DIE_STATE ch r.die ≠ dieAbsent) → Effect (.sampleOutEnd ch) s (ch < 64 ∧ s.flashOn = true ∧ 9 ≤ r.burst) fun t =>
    t.sd = { s.sd with readouts := s.sd.readouts.put ch { r with dual := true, second := true, since := s.now, burst := b, start := 0 } } ∧ t.cd = s.cd ∧ t.zn = s.zn ∧ t.wc = s.wc ∧ t.xl = s.xl
      ∧ (t.die ch r.die).dual = true ∧ (t.die ch r.die).samples = (s.die ch r.die).samples
      ∧ t.get SDF_STATUS_DUAL ch = 1 ∧ OnlyRegs [SDF_STATUS_DUAL.key ch 0] s t ∧ KeepsHost s t ∧ KeepsPower s t ∧ KeepsService s t ∧ KeepsFaults s t

/-- SAMPLE_OUT_END (R193). -/
abbrev sampleOutEnd_resample (ch : Nat) (r : Readout) (b id : Nat) (l : List Nat) (s : State) : Prop :=
  (s.sd.readouts.look ch = some r ∧ r.unframed = b :: l ∧ r.todo = none ∧ (s.die ch r.die).samples = none ∧ r.die < 32 ∧ r.op.cws = [id]) → Effect (.sampleOutEnd ch) s (ch < 64 ∧ s.flashOn = true ∧ 9 ≤ r.burst) fun t =>
    (t.cw id).map (fun x => (x.stage, x.step, x.owner)) = (s.cw id).map (fun x => (.queued, x.step, x.owner)) ∧ (t.die ch r.die).queued.any (fun o => o == { r.op with dual := true }) = true
      ∧ t.zn = s.zn ∧ t.wc = s.wc ∧ t.xl = s.xl ∧ KeepsHost s t ∧ KeepsPower s t ∧ KeepsService s t

/-- SDF_CLASS_CLR (R202). -/
abbrev sdfClassClr (ch : Nat) (s : State) : Prop :=
  Effect (.sdfClassClr ch) s (s.powered = true ∧ ch < 64) fun t =>
    t.sd = { s.sd with classes := s.sd.classes.del ch } ∧ t.cd = s.cd ∧ t.zn = s.zn ∧ t.wc = s.wc ∧ t.xl = s.xl ∧ t.fl = s.fl
      ∧ OnlyRegs [] s t ∧ KeepsHost s t ∧ KeepsPower s t ∧ KeepsService s t ∧ KeepsFaults s t

/-- SDF_BADCOL_WRITE (R207). -/
abbrev sdfBadcolWrite (ch value : Nat) (s : State) : Prop :=
  (bits value 30 24 = 0) → Effect (.sdfBadcolWrite ch value) s (ch < 64 ∧ s.mode = .service) fun t =>
    t.sd = { s.sd with badCols := s.sd.badCols.put (((ch * 32 + s.get SDF_BADCOL_SEL_DIE ch) * 4 + s.get SDF_BADCOL_SEL_PLANE ch) * 256 + s.get SDF_BADCOL_SEL_INDEX ch) (bits value 17 0, bits value 23 18 + 1, bit value 31) }
      ∧ OnlyRegs [] s t ∧ KeepsHost s t ∧ KeepsPower s t ∧ KeepsService s t ∧ KeepsFaults s t

/-- CODEWORD_DECODED (R215). -/
abbrev codewordDecoded (cw iters word : Nat) (c : Cw) (x : Ctx) (lba : Nat) (s : State) : Prop :=
  (s.cw cw = some c ∧ c.owner = .host x.id lba ∧ s.ctx x.id = some x ∧ x.stage = .issued ∧ x.remaining = 1 ∧ x.remote = none ∧ x.replWait = false ∧ s.stale c = false ∧ c.raceLost = false ∧ c.step < 2 ∧ syndromeZero word = true) → Effect (.codewordDecoded cw iters word true) s (s.decoding cw = true ∧ iters ≤ s.iterLimit c) fun t =>
    t.out = .hostData x.port x.e.cid lba (userData word c.seed) (s.tag x.port x.pasid) :: s.out ∧ x.id ∈ t.doneQ ∧ t.cw cw = none ∧ Counts LDC_STEP_CNT c.step 1 s t
      ∧ t.ns = s.ns ∧ t.sqs = s.sqs ∧ t.cqs = s.cqs ∧ t.zn = s.zn ∧ t.wc = s.wc ∧ KeepsPower s t ∧ KeepsService s t

/-- CODEWORD_DECODED (R215). -/
abbrev codewordDecoded_check (cw iters word k : Nat) (check : Bool) (c : Cw) (s : State) : Prop :=
  ((check && syndromeZero word) = false ∧ s.cw cw = some c ∧ c.inst = some k ∧ k < 68) → Effect (.codewordDecoded cw iters word check) s (s.decoding cw = true ∧ iters ≤ s.iterLimit c) fun t =>
    t.get LDC_INST_STATE k = 3 ∧ t.get LDC_INST_CAUSE k = 2 ∧ Counts LDC_CHECK_FAIL 0 1 s t ∧ Raises 72 s t
      ∧ (t.cw cw).map (fun y => (y.stage, y.step, y.input)) = some (.decoding, c.step, c.input)
      ∧ KeepsHost s t ∧ t.zn = s.zn ∧ t.wc = s.wc ∧ t.xl = s.xl ∧ t.fl = s.fl ∧ KeepsPower s t ∧ KeepsService s t

/-- CODEWORD_DECODE_FAIL (R219). -/
abbrev codewordDecodeFail (cw : Nat) (c : Cw) (s : State) : Prop :=
  (s.cw cw = some c ∧ c.step < 3 ∧ s.sampleOff c.ch c.die = false ∧ s.inService c.ch c.die = true ∧ s.chFailed c.ch = false ∧ s.stale c = false ∧ c.raceLost = false ∧ cw ∉ s.cd.decodeQ) → Effect (.codewordDecodeFail cw) s (s.decoding cw = true) fun t =>
    t.cw cw = some { c with step := c.step + 1, stepAt := s.now, stage := if c.step + 1 = 3 then .slot else .queued, input := none, inst := none } ∧ t.cd.nextCw = s.cd.nextCw
      ∧ KeepsHost s t ∧ t.zn = s.zn ∧ t.wc = s.wc ∧ t.xl = s.xl ∧ t.sd = s.sd ∧ KeepsPower s t ∧ KeepsService s t

/-- LADDER_STEP_BUDGET_EXPIRY (R219). -/
abbrev ladderStepBudgetExpiry (cw : Nat) (c : Cw) (s : State) : Prop :=
  (s.cw cw = some c ∧ c.step < 3 ∧ s.sampleOff c.ch c.die = false ∧ s.inService c.ch c.die = true ∧ s.chFailed c.ch = false ∧ s.stale c = false ∧ c.raceLost = false ∧ c.stage ≠ .peersOnly) → Effect (.ladderStepBudgetExpiry cw) s (s.flashOn = true ∧ s.mode ≠ .detour ∧ c.stepAt + s.stepBudget c.step ≤ s.now) fun t =>
    t.cw cw = some { c with step := c.step + 1, stepAt := s.now, stage := if c.step + 1 = 3 then .slot else .queued, input := none, inst := none } ∧ t.cd.nextCw = s.cd.nextCw ∧ Counts LDC_BUDGET_EXP_CNT 0 1 s t
      ∧ KeepsHost s t ∧ t.zn = s.zn ∧ t.wc = s.wc ∧ t.xl = s.xl ∧ t.sd = s.sd ∧ KeepsPower s t ∧ KeepsService s t

/-- LDC_ST_NOW (R217). -/
abbrev ldcStNow (k : Nat) (s : State) : Prop :=
  (s.cd.selfTest = none ∧ ((List.range 68).find? fun k => s.get LDC_INST_STATE k == 1) = some k) → Effect .ldcStNow s (s.powered = true ∧ s.mode ≠ .detour) fun t =>
    t.cd = { s.cd with selfTest := some (k, none) } ∧ t.get LDC_INST_STATE k = 2 ∧ t.get LDC_STATUS_ST_BUSY = 1 ∧ Counts LDC_ST_RUNS 0 1 s t
      ∧ KeepsHost s t ∧ t.zn = s.zn ∧ t.wc = s.wc ∧ t.xl = s.xl ∧ t.sd = s.sd ∧ t.fl = s.fl ∧ KeepsPower s t ∧ KeepsService s t

/-- LDC_ST_NOW (R217). -/
abbrev ldcStNow_waits (s : State) : Prop :=
  (s.cd.selfTest ≠ none) → Effect .ldcStNow s (s.powered = true ∧ s.mode ≠ .detour) fun t =>
    t.cd = { s.cd with testsWaiting := s.cd.testsWaiting ++ [none] } ∧ t.get LDC_STATUS_ST_PEND = 1 ∧ OnlyRegs [LDC_STATUS_ST_PEND.key 0 0] s t ∧ KeepsHost s t ∧ KeepsPower s t ∧ KeepsService s t

/-- LDC_SELFTEST_PERIOD (R217). -/
abbrev ldcSelftestPeriod (k : Nat) (s : State) : Prop :=
  (s.cd.selfTest = none ∧ ((List.range 68).find? fun k => s.get LDC_INST_STATE k == 1) = some k) → Effect .ldcSelftestPeriod s (s.flashOn = true ∧ s.mode ≠ .detour ∧ s.get LDC_CFG_ST_PERIOD ≠ 0) fun t =>
    t.cd = { s.cd with selfTest := some (k, none) } ∧ t.get LDC_INST_STATE k = 2 ∧ t.get LDC_STATUS_ST_BUSY = 1 ∧ Counts LDC_ST_RUNS 0 1 s t
      ∧ KeepsHost s t ∧ t.zn = s.zn ∧ t.wc = s.wc ∧ t.xl = s.xl ∧ t.sd = s.sd ∧ t.fl = s.fl ∧ KeepsPower s t ∧ KeepsService s t

/-- LDC_SELFTEST_PERIOD (R217). -/
abbrev ldcSelftestPeriod_waits (s : State) : Prop :=
  (s.cd.selfTest ≠ none) → Effect .ldcSelftestPeriod s (s.flashOn = true ∧ s.mode ≠ .detour ∧ s.get LDC_CFG_ST_PERIOD ≠ 0) fun t =>
    t.cd = { s.cd with testsWaiting := s.cd.testsWaiting ++ [none] } ∧ t.get LDC_STATUS_ST_PEND = 1 ∧ OnlyRegs [LDC_STATUS_ST_PEND.key 0 0] s t ∧ KeepsHost s t ∧ KeepsPower s t ∧ KeepsService s t

/-- LDC_SELFTEST_END (R217). -/
abbrev ldcSelftestEnd (pass : Bool) (k : Nat) (tk : Option Nat) (s : State) : Prop :=
  (s.cd.selfTest = some (k, tk) ∧ s.cd.testsWaiting = [] ∧ k < 68 ∧ k ∉ s.cd.activeOrder) → Effect (.ldcSelftestEnd pass) s (s.cd.selfTest ≠ none) fun t =>
    t.cd.selfTest = none ∧ t.get LDC_STATUS_ST_BUSY = 0 ∧ (pass = true → t.get LDC_INST_STATE k = 0 ∧ k ∈ t.cd.activeOrder)
      ∧ (pass = false → t.get LDC_INST_STATE k = 3 ∧ t.get LDC_INST_CAUSE k = 1 ∧ Raises 72 s t ∧ Counts LDC_ST_FAIL 0 1 s t)
      ∧ KeepsHost s t ∧ t.zn = s.zn ∧ t.wc = s.wc ∧ t.xl = s.xl ∧ t.sd = s.sd ∧ t.fl = s.fl ∧ KeepsPower s t

/-- WPT_READ (R112). -/
abbrev wptRead (index : Nat) (s : State) : Prop :=
  Effect (.wptRead index) s (s.powered = true) fun t =>
    (s.wptBusy = true → t.get WPT_STATUS_REJ = 1 ∧ Raises 282 s t ∧ t.wpt = s.wpt)
      ∧ (s.wptBusy = false → t.get WPT_STAGE_KEY_LO = bits (s.wpt.rows.lookD (index % 4096) WptEntry.none).key 31 0 ∧ t.get WPT_STAGE_MASK_LO = bits (s.wpt.rows.lookD (index % 4096) WptEntry.none).mask 31 0
      ∧ t.get WPT_STAGE_RES_ROUTE = (s.wpt.rows.lookD (index % 4096) WptEntry.none).res % 64 ∧ t.get WPT_STAGE_RES_V = bNat (s.wpt.rows.lookD (index % 4096) WptEntry.none).valid
      ∧ t.get WPT_STATUS_BUSY = 1 ∧ t.wpt = { s.wpt with busyUntil := s.now + 20 })
      ∧ KeepsHost s t ∧ t.zn = s.zn ∧ t.wc = s.wc ∧ t.xl = s.xl ∧ t.fl = s.fl ∧ KeepsPower s t ∧ KeepsService s t

/-- WPT_WRITE (R112). -/
abbrev wptWrite (index : Nat) (s : State) : Prop :=
  Effect (.wptWrite index) s (s.powered = true) fun t =>
    (s.wptBusy = true → t.get WPT_STATUS_REJ = 1 ∧ Raises 282 s t ∧ t.wpt = s.wpt)
      ∧ (s.wptBusy = false → t.wpt.rows = s.wpt.rows.put (index % 4096) s.stagedEntry ∧ t.wpt.shadows = s.wpt.shadows.put (index % 4096) s.stagedEntry ∧ index % 4096 ∉ t.wpt.shadowBad
      ∧ t.get WPT_STATUS_BUSY = 1 ∧ t.get WPT_STATUS_USED = (t.wpt.rows.filter fun e => e.2.valid).length % 2 ^ WPT_STATUS_USED.width)
      ∧ KeepsHost s t ∧ t.zn = s.zn ∧ t.wc = s.wc ∧ t.xl = s.xl ∧ t.fl = s.fl ∧ KeepsPower s t

/-- WPT_INSERT (R112). -/
abbrev wptInsert (index : Nat) (s : State) : Prop :=
  Effect (.wptInsert index) s (s.powered = true) fun t =>
    ((s.wptBusy = true ∨ (s.wpt.rows.look 4095).map (·.valid) = some true) → t.get WPT_STATUS_REJ = 1 ∧ Raises 282 s t ∧ t.wpt = s.wpt)
      ∧ (s.wptBusy = false → (s.wpt.rows.look 4095).map (·.valid) ≠ some true → t.wpt = { s.wpt with busy := some (3, index % 4096), staged := some s.stagedEntry } ∧ t.get WPT_STATUS_BUSY = 1)
      ∧ KeepsHost s t ∧ t.zn = s.zn ∧ t.wc = s.wc ∧ t.xl = s.xl ∧ t.fl = s.fl ∧ KeepsPower s t ∧ KeepsService s t

/-- WPT_DELETE (R112). -/
abbrev wptDelete (index : Nat) (s : State) : Prop :=
  Effect (.wptDelete index) s (s.powered = true) fun t =>
    (s.wptBusy = true → t.get WPT_STATUS_REJ = 1 ∧ Raises 282 s t ∧ t.wpt = s.wpt)
      ∧ (s.wptBusy = false → t.wpt.rows = wptDeleteAt (index % 4096) s.wpt.rows ∧ t.wpt.shadows = wptDeleteAt (index % 4096) s.wpt.shadows ∧ t.wpt.busy = some (4, index % 4096) ∧ t.get WPT_STATUS_BUSY = 1)
      ∧ KeepsHost s t ∧ t.zn = s.zn ∧ t.wc = s.wc ∧ t.xl = s.xl ∧ t.fl = s.fl ∧ KeepsPower s t

/-- WPT_MOVE_COMPLETE (R113). -/
abbrev wptMoveComplete (s : State) : Prop :=
  Effect .wptMoveComplete s (s.powered = true) fun t =>
    t.wpt.busy = none ∧ t.wpt.staged = none ∧ t.wpt.busyUntil = s.now ∧ t.get WPT_STATUS_BUSY = 0
      ∧ (∀ i ∈ (s.wpt.busy.map (·.2)).toList, ∀ e ∈ s.wpt.staged.toList, s.wpt.busy = some (3, i) → t.wpt.rows = wptInsertAt i e (s.wpt.rows.del 4095) ∧ t.wpt.shadows = wptInsertAt i e (s.wpt.shadows.del 4095))
      ∧ (s.wpt.staged = none → t.wpt.rows = s.wpt.rows ∧ t.wpt.shadows = s.wpt.shadows) ∧ KeepsHost s t ∧ t.zn = s.zn ∧ t.wc = s.wc ∧ t.xl = s.xl ∧ t.fl = s.fl ∧ KeepsPower s t

/-- WPT_SCRUB_TICK (R111). -/
abbrev wptScrubTick (upset : Bool) (s : State) : Prop :=
  (s.wpt.shadowBad = []) → Effect (.wptScrubTick upset) s (s.powered = true ∧ s.mode ≠ .rest ∧ s.flag WPT_CTRL_SCRUB_EN = true) fun t =>
    t.wpt.scrubAt = (s.wpt.scrubAt + 1) % 4096 ∧ t.wpt.rows.look s.wpt.scrubAt = s.wpt.shadows.look s.wpt.scrubAt ∧ t.wpt.shadows = s.wpt.shadows
      ∧ (upset = true → Counts WPT_SCRUB_FIX 0 1 s t) ∧ (upset = false → s.wpt.rows.look s.wpt.scrubAt = s.wpt.shadows.look s.wpt.scrubAt → t.get WPT_SCRUB_FIX = s.get WPT_SCRUB_FIX)
      ∧ KeepsHost s t ∧ t.zn = s.zn ∧ t.wc = s.wc ∧ t.xl = s.xl ∧ t.fl = s.fl ∧ KeepsPower s t ∧ KeepsService s t

/-- ACCUMULATOR_IDLE_SPILL (R103). -/
abbrev accumulatorIdleSpill (acc : Nat) (p : Parity) (z : Zone) (x : Nat) (s : State) : Prop :=
  (s.zn.accs.look acc = some p ∧ s.zn.zones.look p.zkey = some z ∧ z.ctx = some x) → Effect (.accumulatorIdleSpill acc) s (p.zkey < 2 ^ 48 ∧ p.lastProg + 1000000 ≤ s.now) fun t =>
    t.zn = { s.zn with accs := s.zn.accs.del acc, slots := s.zn.slots.put (slotKey x p.group) p } ∧ Counts ZNE_SPILL_CNT 0 1 s t
      ∧ KeepsHost s t ∧ t.wc = s.wc ∧ t.xl = s.xl ∧ t.fl = s.fl ∧ KeepsPower s t ∧ KeepsService s t

/-- PARTIAL_PARITY_REBUILD_END (R105). -/
abbrev partialParityRebuildEnd (found : List (Nat × Nat × NMap Nat)) (s : State) : Prop :=
  (s.zn.adm = [] ∧ s.zn.roPending = []) → Effect (.partialParityRebuildEnd found) s (s.flag ZNE_STATUS_RECOMP = true ∧ s.inModes [.run, .service] = true) fun t =>
    t.zn.recompPending = [] ∧ t.get ZNE_STATUS_RECOMP = 0 ∧ t.zn.zones.map (·.1) = s.zn.zones.map (·.1) ∧ t.ctxs = s.ctxs ∧ t.sqs = s.sqs ∧ t.ns = s.ns ∧ KeepsPower s t

/-- FLUSH_ISSUE (R128). -/
abbrev flushIssue (key n : Nat) (z : Zone) (m : Member) (s : State) : Prop :=
  (s.nextFlush = some (true, key, n) ∧ s.zn.zones.look key = some z ∧ z.members[slotOfMember z.split z.fn (n % z.d)]? = some m) → Effect .flushIssue s (s.mayFlush = true) fun t =>
    ((t.zn.zones.look key).bind fun y => y.members[slotOfMember z.split z.fn (n % z.d)]?) = some { m with issued := m.issued + 1 } ∧ (t.zn.zones.look key).map (·.lastProg) = some s.now
      ∧ ((t.die m.ch m.die).queued.any fun o => o.kind == .program && o.block == m.block && o.wl == n / z.d && o.owner == .member key (n / z.d) (n % z.d)) = true
      ∧ OnlyRegs [] s t ∧ t.wc = s.wc ∧ t.xl = s.xl ∧ KeepsHost s t ∧ KeepsPower s t ∧ KeepsService s t ∧ KeepsFaults s t

/-- FLUSH_ISSUE (R128). -/
abbrev flushIssue_conv (r n tag : Nat) (b : BlockSet) (s : State) : Prop :=
  (s.nextFlush = some (false, r, n) ∧ s.xl.open_.look r = some tag ∧ s.xl.sets.look tag = some b ∧ b.nextRow < 1024) → Effect .flushIssue s (s.mayFlush = true) fun t =>
    (t.xl.sets.look tag).map (fun x => (x.nextRow, x.fn, x.split)) = some (b.nextRow + 1, b.fn, b.split) ∧ (t.zn.zones = s.zn.zones)
      ∧ KeepsHost s t ∧ KeepsPower s t ∧ KeepsService s t

/-- FLUSH_ISSUE (R128). -/
abbrev flushIssue_none (s : State) : Prop :=
  (s.nextFlush = none) → Effect .flushIssue s (s.mayFlush = true) fun t =>
    KeepsAll s t ∧ OnlyRegs [] s t ∧ t.out = s.out

/-- FLUSH_TO_EMPTY_END (R484). -/
abbrev flushToEmptyEnd (s : State) : Prop :=
  (s.ctxs = [] ∧ 2 ∉ s.wc.flushBy ∧ 3 ∉ s.wc.flushBy) → Effect .flushToEmptyEnd s (s.wc.flushBy ≠ [] ∧ s.dirtyAll = 0 ∧ s.xl.recs = []) fun t =>
    (∀ p ∈ [0, 1], p ∈ s.wc.flushBy → s.busyOn p = false → (t.port p).shst = 2 ∧ (t.port p).shut = .none ∧ p ∉ t.wc.flushBy)
      ∧ t.zn = s.zn ∧ t.xl = s.xl ∧ t.fl = s.fl ∧ t.sqs = s.sqs ∧ t.ns = s.ns ∧ OnlyRegs [] s t ∧ KeepsPower s t ∧ KeepsService s t ∧ KeepsFaults s t

/-- DIRTY_LIMIT_RECOMPUTE (R132). -/
abbrev dirtyLimitRecompute (s : State) : Prop :=
  (Quiet s) → Effect .dirtyLimitRecompute s (s.powered = true ∧ s.wc.started = true) fun t =>
    t.get WCU_LIMIT_L_ENERGY = min (energyLimit (s.get WCU_LIMIT_IN_EU) (s.get WCU_LIMIT_IN_N_H) (s.get WCU_LIMIT_CFG_PWR) (s.get WCU_LIMIT_CFG_T_OH)) (2 ^ 12 - 1)
      ∧ (s.newLimit < s.get WCU_LIMIT_L → t.get WCU_LIMIT_L = s.newLimit ∧ t.wc.raise = none ∧ (∀ n < s.sliceCount, t.get SLM_BUDGET n 5 = s.newLimit * 1024 / s.sliceCount % 2 ^ SLM_BUDGET.width) ∧ (s.newLimit < 16 → t.inWT = true))
      ∧ (s.get WCU_LIMIT_L < s.newLimit → t.get WCU_LIMIT_L = s.get WCU_LIMIT_L ∧ t.wc.raise = some (s.wc.raise.elim s.newLimit (fun e => min e.1 s.newLimit), s.wc.raise.elim s.now (fun e => e.2))) ∧ (s.newLimit = s.get WCU_LIMIT_L → t.get WCU_LIMIT_L = s.newLimit ∧ t.wc.raise = none)
      ∧ (Resting s → KeepsHost s t ∧ t.zn = s.zn ∧ t.xl = s.xl ∧ KeepsPower s t ∧ KeepsService s t)

/-- DIRTY_LIMIT_RAISE (R132). -/
abbrev dirtyLimitRaise (l k : Nat) (s : State) : Prop :=
  (s.wc.raise = some (l, k) ∧ l < 4096 ∧ Quiet s) → Effect .dirtyLimitRaise s (s.powered = true ∧ s.past (s.wc.raise.map (·.2)) 1000000000 = true) fun t =>
    t.get WCU_LIMIT_L = l ∧ t.wc.raise = none ∧ (∀ n < s.sliceCount, t.get SLM_BUDGET n 5 = l * 1024 / s.sliceCount % 2 ^ SLM_BUDGET.width) ∧ (Resting s → KeepsHost s t ∧ t.zn = s.zn ∧ t.xl = s.xl ∧ KeepsPower s t ∧ KeepsService s t)

/-- WRITE_THROUGH_EXIT (R135). -/
abbrev writeThroughExit (s : State) : Prop :=
  (Quiet s) → Effect .writeThroughExit s (s.powered = true ∧ s.past s.wc.okSince 1000000000 = true) fun t =>
    bit (t.get WCU_STATUS_WT_CAUSE) 0 = false ∧ (s.get WCU_STATUS_WT_CAUSE / 2 = 0 → t.inWT = false ∧ (s.inWT = true → Raises 276 s t)) ∧ (s.get WCU_STATUS_WT_CAUSE / 2 ≠ 0 → t.inWT = true)
      ∧ (Resting s → KeepsHost s t ∧ t.zn = s.zn ∧ t.xl = s.xl ∧ t.fl = s.fl ∧ KeepsPower s t ∧ KeepsService s t)

/-- WRITE_THROUGH_FORCE (R135). -/
abbrev writeThroughForce (value : Bool) (s : State) : Prop :=
  (Quiet s) → Effect (.writeThroughForce value) s (s.powered = true) fun t =>
    t.get WCU_CTRL_FORCE_WT = bNat value ∧ bit (t.get WCU_STATUS_WT_CAUSE) 2 = value ∧ (value = true → t.inWT = true ∧ t.get GLB_MODE_STATUS_WRITE_THROUGH = 1)
      ∧ (value = true → s.inWT = false → Raises 275 s t ∧ Counts WCU_WT_ENTRY 0 1 s t) ∧ (Resting s → KeepsHost s t ∧ t.zn = s.zn ∧ t.xl = s.xl ∧ t.fl = s.fl ∧ KeepsPower s t ∧ KeepsService s t)

/-- BUFFER_ALLOCATE (R139). -/
abbrev bufferAllocate (pool owner slice i l : Nat) (internal : Bool) (s : State) : Prop :=
  (s.behind { pool := pool, owner := owner, unit := unitOf owner, slice := slice, internal := internal, gen := s.gen slice, seq := s.zn.nextAdm } s.pool.waiters = false ∧ s.mayAlloc { pool := pool, owner := owner, unit := unitOf owner, slice := slice, internal := internal, gen := s.gen slice, seq := s.zn.nextAdm } = true ∧ s.allocList pool 0 = some l ∧ s.listHead l = some i ∧ s.linkOk l i = true) → Effect (.bufferAllocate pool owner slice internal) s (s.powered = true ∧ pool < 2 ∧ owner < 256 ∧ slice < s.sliceCount) fun t =>
    t.pool.waiters = s.pool.waiters ∧ t.pool.desc = s.pool.desc.put (bufKey pool i) { shared := false, refcnt := 0, owner := owner, slice := if internal = true then 0 else slice, internal := internal, unit := unitOf owner, gen := if internal = true then 0 else s.gen slice }
      ∧ t.pool.heads = s.pool.heads.put l (linkNext (s.linkOf l i)) ∧ t.pool.broken = s.pool.broken
      ∧ OnlyRegs [BPL_FREE.key l 0] s t ∧ t.zn = s.zn ∧ t.wc = s.wc ∧ t.xl = s.xl ∧ t.fl = s.fl ∧ KeepsHost s t ∧ KeepsPower s t ∧ KeepsService s t ∧ KeepsFaults s t

/-- BUFFER_ALLOCATE (R139). -/
abbrev bufferAllocate_broken (pool owner slice i l : Nat) (internal : Bool) (s : State) : Prop :=
  (s.behind { pool := pool, owner := owner, unit := unitOf owner, slice := slice, internal := internal, gen := s.gen slice, seq := s.zn.nextAdm } s.pool.waiters = false ∧ s.mayAlloc { pool := pool, owner := owner, unit := unitOf owner, slice := slice, internal := internal, gen := s.gen slice, seq := s.zn.nextAdm } = true ∧ s.allocList pool 0 = some l ∧ s.listHead l = some i ∧ s.linkOk l i = false) → Effect (.bufferAllocate pool owner slice internal) s (s.powered = true ∧ pool < 2 ∧ owner < 256 ∧ slice < s.sliceCount) fun t =>
    t.pool = { s.pool with broken := insSorted l s.pool.broken, waiters := s.pool.waiters ++ [{ pool := pool, owner := owner, unit := unitOf owner, slice := slice, internal := internal, gen := s.gen slice, seq := s.zn.nextAdm }] }
      ∧ t.get BPL_STATUS_BROKEN = 1 ∧ t.get BPL_STATUS_REBUILDING = 1 ∧ Counts BPL_BROKEN_CNT 0 1 s t ∧ Raises 285 s t ∧ t.zn = s.zn ∧ t.wc = s.wc ∧ t.xl = s.xl ∧ t.fl = s.fl ∧ KeepsHost s t ∧ KeepsPower s t ∧ KeepsService s t

/-- BUFFER_ALLOCATE (R139). -/
abbrev bufferAllocate_waits (pool owner slice : Nat) (internal : Bool) (s : State) : Prop :=
  (s.behind { pool := pool, owner := owner, unit := unitOf owner, slice := slice, internal := internal, gen := s.gen slice, seq := s.zn.nextAdm } s.pool.waiters = true ∨ s.mayAlloc { pool := pool, owner := owner, unit := unitOf owner, slice := slice, internal := internal, gen := s.gen slice, seq := s.zn.nextAdm } = false ∨ s.allocList pool 0 = none) → Effect (.bufferAllocate pool owner slice internal) s (s.powered = true ∧ pool < 2 ∧ owner < 256 ∧ slice < s.sliceCount) fun t =>
    t.pool = { s.pool with waiters := s.pool.waiters ++ [{ pool := pool, owner := owner, unit := unitOf owner, slice := slice, internal := internal, gen := s.gen slice, seq := s.zn.nextAdm }] }
      ∧ OnlyRegs [] s t ∧ t.zn = s.zn ∧ t.wc = s.wc ∧ t.xl = s.xl ∧ t.fl = s.fl ∧ KeepsHost s t ∧ KeepsPower s t ∧ KeepsService s t ∧ KeepsFaults s t

/-- FREE_LIST_REBUILD_END (R143). -/
abbrev freeListRebuildEnd (list : Nat) (s : State) : Prop :=
  (s.pool.waiters = [] ∧ Resting s) → Effect (.freeListRebuildEnd list) s (s.powered = true ∧ list ∈ s.pool.broken) fun t =>
    t.pool.broken = s.pool.broken.filter (· != list) ∧ (t.pool.broken = [] → t.get BPL_STATUS_REBUILDING = 0) ∧ t.pool.desc = s.pool.desc
      ∧ t.pool.heads.look list = some ((nextFree (s.listUsed list) ((s.listRange list).1 + (s.listRange list).2) ((s.listUsed list).length + 1) (s.listRange list).1).getD listEnd)
      ∧ OnlyRegs [BPL_STATUS_REBUILDING.key 0 0] s t ∧ t.zn = s.zn ∧ t.wc = s.wc ∧ t.xl = s.xl ∧ t.fl = s.fl ∧ KeepsHost s t ∧ KeepsPower s t ∧ KeepsService s t ∧ KeepsFaults s t

/-- BUFFER_RELEASE (R142). -/
abbrev bufferRelease (pool index owner : Nat) (d : BufDesc) (s : State) : Prop :=
  (s.pool.desc.look (bufKey pool index) = some d ∧ d.shared = false ∧ d.owner = owner ∧ s.pool.waiters = []) → Effect (.bufferRelease pool index owner) s (s.powered = true ∧ pool < 2) fun t =>
    t.pool.desc.look (bufKey pool index) = none ∧ t.pool.heads.look (s.listOf pool index) = some index ∧ t.pool.links.look (bufKey pool index) = some (linkWord index ((s.listHead (s.listOf pool index)).getD listEnd))
      ∧ OnlyRegs [BPL_FREE.key (s.listOf pool index) 0] s t ∧ t.zn = s.zn ∧ t.wc = s.wc ∧ t.xl = s.xl ∧ t.fl = s.fl ∧ KeepsHost s t ∧ KeepsPower s t ∧ KeepsService s t ∧ KeepsFaults s t

/-- BUFFER_RELEASE (R142). -/
abbrev bufferRelease_error (pool index owner : Nat) (s : State) : Prop :=
  ((∀ d ∈ (s.pool.desc.look (bufKey pool index)).toList, d.shared = true ∨ d.owner ≠ owner)) → Effect (.bufferRelease pool index owner) s (s.powered = true ∧ pool < 2) fun t =>
    t.pool = s.pool ∧ (if s.pool.desc.look (bufKey pool index) = none then Counts BPL_DFREE_CNT 0 1 s t else Counts BPL_OWNER_CNT 0 1 s t)
      ∧ (s.flag BPL_STATUS_DFREE = false → s.flag BPL_STATUS_OWNER = false → t.get BPL_ERR_IDX = index % 2 ^ 20 ∧ t.get BPL_ERR_INFO_MASTER = owner % 2 ^ BPL_ERR_INFO_MASTER.width ∧ Raises 279 s t
      ∧ t.get BPL_ERR_INFO_KIND = (if s.pool.desc.look (bufKey pool index) = none then 1 else 2) ∧ t.get BPL_ERR_INFO_POOL = pool)
      ∧ t.zn = s.zn ∧ t.wc = s.wc ∧ t.xl = s.xl ∧ t.fl = s.fl ∧ KeepsHost s t ∧ KeepsPower s t ∧ KeepsService s t

/-- BUFFER_TRANSFER (R140). -/
abbrev bufferTransfer (pool index owner newOwner : Nat) (d : BufDesc) (s : State) : Prop :=
  (s.pool.desc.look (bufKey pool index) = some d ∧ d.shared = false ∧ d.owner = owner) → Effect (.bufferTransfer pool index owner newOwner) s (s.powered = true ∧ pool < 2) fun t =>
    t.pool = { s.pool with desc := s.pool.desc.put (bufKey pool index) { d with owner := newOwner % 256 } } ∧ OnlyRegs [] s t ∧ t.zn = s.zn ∧ t.wc = s.wc ∧ t.xl = s.xl ∧ t.fl = s.fl ∧ KeepsHost s t ∧ KeepsPower s t ∧ KeepsService s t ∧ KeepsFaults s t

/-- BUFFER_TRANSFER (R140). -/
abbrev bufferTransfer_error (pool index owner newOwner : Nat) (s : State) : Prop :=
  ((∀ d ∈ (s.pool.desc.look (bufKey pool index)).toList, d.shared = true ∨ d.owner ≠ owner)) → Effect (.bufferTransfer pool index owner newOwner) s (s.powered = true ∧ pool < 2) fun t =>
    t.pool = s.pool ∧ Counts BPL_OWNER_CNT 0 1 s t ∧ t.zn = s.zn ∧ t.wc = s.wc ∧ t.xl = s.xl ∧ t.fl = s.fl ∧ KeepsHost s t ∧ KeepsPower s t ∧ KeepsService s t

/-- BUFFER_SHARE (R141). -/
abbrev bufferShare (pool index owner n : Nat) (d : BufDesc) (s : State) : Prop :=
  (s.pool.desc.look (bufKey pool index) = some d ∧ (d.shared = false → d.owner = owner) ∧ mayShare owner = true ∧ 1 ≤ n ∧ n ≤ 14 ∧ (if d.shared = true then d.refcnt + n else n + 1) ≤ 15) → Effect (.bufferShare pool index owner n) s (s.powered = true ∧ pool < 2) fun t =>
    t.pool = { s.pool with desc := s.pool.desc.put (bufKey pool index) { d with shared := true, refcnt := if d.shared = true then d.refcnt + n else n + 1, owner := 0 } } ∧ OnlyRegs [] s t ∧ t.zn = s.zn ∧ t.wc = s.wc ∧ t.xl = s.xl ∧ t.fl = s.fl ∧ KeepsHost s t ∧ KeepsPower s t ∧ KeepsService s t ∧ KeepsFaults s t

/-- BUFFER_SHARE (R141). -/
abbrev bufferShare_error (pool index owner n : Nat) (d : BufDesc) (s : State) : Prop :=
  (s.pool.desc.look (bufKey pool index) = some d ∧ (d.shared = false ∧ d.owner ≠ owner ∨ mayShare owner = false ∨ 15 < (if d.shared = true then d.refcnt + n else n + 1))) → Effect (.bufferShare pool index owner n) s (s.powered = true ∧ pool < 2) fun t =>
    t.pool = s.pool ∧ Counts BPL_OWNER_CNT 0 1 s t ∧ t.zn = s.zn ∧ t.wc = s.wc ∧ t.xl = s.xl ∧ t.fl = s.fl ∧ KeepsHost s t ∧ KeepsPower s t ∧ KeepsService s t

/-- BUFFER_DROP (R141). -/
abbrev bufferDrop (pool index owner : Nat) (d : BufDesc) (s : State) : Prop :=
  (s.pool.desc.look (bufKey pool index) = some d ∧ d.shared = true ∧ s.pool.waiters = []) → Effect (.bufferDrop pool index owner) s (s.powered = true ∧ pool < 2) fun t =>
    (if d.refcnt ≤ 1 then t.pool.desc.look (bufKey pool index) = none ∧ t.pool.heads.look (s.listOf pool index) = some index ∧ t.pool.links.look (bufKey pool index) = some (linkWord index ((s.listHead (s.listOf pool index)).getD listEnd))
      else t.pool = { s.pool with desc := s.pool.desc.put (bufKey pool index) { d with refcnt := d.refcnt - 1 } })
      ∧ OnlyRegs [BPL_FREE.key (s.listOf pool index) 0] s t ∧ t.zn = s.zn ∧ t.wc = s.wc ∧ t.xl = s.xl ∧ t.fl = s.fl ∧ KeepsHost s t ∧ KeepsPower s t ∧ KeepsService s t ∧ KeepsFaults s t

/-- BUFFER_DROP (R141). -/
abbrev bufferDrop_error (pool index owner : Nat) (s : State) : Prop :=
  ((∀ d ∈ (s.pool.desc.look (bufKey pool index)).toList, d.shared = false)) → Effect (.bufferDrop pool index owner) s (s.powered = true ∧ pool < 2) fun t =>
    t.pool = s.pool ∧ (if s.pool.desc.look (bufKey pool index) = none then Counts BPL_DFREE_CNT 0 1 s t else Counts BPL_OWNER_CNT 0 1 s t) ∧ t.zn = s.zn ∧ t.wc = s.wc ∧ t.xl = s.xl ∧ t.fl = s.fl ∧ KeepsHost s t ∧ KeepsPower s t ∧ KeepsService s t

/-- XLT_CKPT_NOW (R233). -/
abbrev xltCkptNow (s : State) : Prop :=
  Effect .xltCkptNow s (s.checkpointAllowed = true) fun t =>
    (s.xl.run = none → t.xl.recs = s.xl.recs.map (fun (r : HeldRec) => { r with covered := true }) ∧ t.xl.sinceStart = 0 ∧ t.xl.ckptAt = s.now ∧ t.get XLT_STATUS_CKPT_BUSY = 1
      ∧ ∃ r ∈ t.xl.run.toList, r.num = s.xl.last.num + 1 ∧ r.s0 = s.xl.seq ∧ r.since = s.now ∧ r.starts = s.startPositions ∧ r.full = (s.ringShort || s.xl.last.num == 0)
      ∧ ∀ e ∈ r.segs, e.2.sseg = s.xl.seq ∧ e.2.words = s.segWords e.1)
      ∧ (s.xl.run ≠ none → t.xl = s.xl ∧ OnlyRegs [] s t) ∧ t.xl.last = s.xl.last ∧ t.xl.map = s.xl.map
      ∧ KeepsHost s t ∧ t.zn = s.zn ∧ t.wc = s.wc ∧ KeepsPower s t ∧ KeepsFaults s t

/-- CHECKPOINT_TIMER (R233). -/
abbrev checkpointTimer (s : State) : Prop :=
  Effect .checkpointTimer s (s.checkpointAllowed = true ∧ s.xl.ckptAt + 60000000000 ≤ s.now) fun t =>
    (s.xl.run = none → t.xl.recs = s.xl.recs.map (fun (r : HeldRec) => { r with covered := true }) ∧ t.xl.sinceStart = 0 ∧ t.xl.ckptAt = s.now ∧ t.get XLT_STATUS_CKPT_BUSY = 1
      ∧ ∃ r ∈ t.xl.run.toList, r.num = s.xl.last.num + 1 ∧ r.s0 = s.xl.seq ∧ r.since = s.now ∧ r.starts = s.startPositions ∧ r.full = (s.ringShort || s.xl.last.num == 0)
      ∧ ∀ e ∈ r.segs, e.2.sseg = s.xl.seq ∧ e.2.words = s.segWords e.1)
      ∧ (s.xl.run ≠ none → t.xl = s.xl ∧ OnlyRegs [] s t) ∧ t.xl.last = s.xl.last ∧ t.xl.map = s.xl.map
      ∧ KeepsHost s t ∧ t.zn = s.zn ∧ t.wc = s.wc ∧ KeepsPower s t ∧ KeepsFaults s t

/-- CHECKPOINT_COMMIT (R233). -/
abbrev checkpointCommit (r : CkptRun) (s : State) : Prop :=
  (s.xl.run = some r ∧ s.xl.ticketNext = none ∧ s.xl.sinceStart < 1048576 ∧ Quiet s) → Effect .checkpointCommit s (s.inModes [.run, .service] = true ∧ s.flag THM_STATUS_WR_FORBID = false ∧ r.ready = true) fun t =>
    t.xl.run = none ∧ t.xl.last = { num := r.num, s0 := r.s0, full := r.full, segs := r.segs, starts := r.starts, wearZones := s.xl.wearZones, wearSets := s.xl.wearSets }
      ∧ t.xl.older = (if r.full = true then [] else s.xl.last :: s.xl.older) ∧ t.xl.late = false ∧ t.xl.commitAt = s.now ∧ t.xl.sinceCommit = s.xl.sinceStart
      ∧ t.get XLT_STATUS_CKPT_BUSY = 0 ∧ t.get XLT_STATUS_STALL = 0 ∧ Counts XLT_CKPT_CNT 0 1 s t
      ∧ (Resting s → t.xl.recs = s.xl.recs.filter (fun r => !r.covered) ∧ t.xl.map = s.xl.map ∧ t.xl.sets = s.xl.sets ∧ KeepsHost s t ∧ t.zn = s.zn ∧ t.wc = s.wc ∧ KeepsPower s t)

/-- CHECKPOINT_LATE_TIMEOUT (R234). -/
abbrev checkpointLateTimeout (s : State) : Prop :=
  Effect .checkpointLateTimeout s (s.inModes [.run, .service] = true ∧ s.xl.late = false ∧ s.xl.commitAt + 120000000000 ≤ s.now) fun t =>
    t.xl = { s.xl with late := true } ∧ t.flag XLT_EVT_CKPT_LATE = true ∧ (s.flag XLT_EVT_CKPT_LATE = false → Raises 272 s t) ∧ KeepsHost s t ∧ t.zn = s.zn ∧ t.wc = s.wc ∧ t.fl = s.fl ∧ KeepsPower s t ∧ KeepsService s t ∧ KeepsFaults s t

/-- MAP_RESTART_END (R235). -/
abbrev mapRestartEnd (ms : Nat) (badRecords : List Nat) (badFooters : List (Nat × Nat × Nat)) (s : State) : Prop :=
  (Quiet s) → Effect (.mapRestartEnd ms badRecords badFooters) s (s.flag XLT_STATUS_RESTART = true ∧ s.inModes [.run, .service] = true) fun t =>
    t.get XLT_STATUS_RESTART = 0 ∧ t.get XLT_RESTART_MS = min ms 8191 ∧ t.xl.restartSince = none
      ∧ t.xl.last = (s.chooseCkpt badRecords).headD { num := 0, s0 := 0, full := true, segs := [], starts := [], wearZones := [], wearSets := [] }
      ∧ (Resting s → (∀ e ∈ t.xl.map, ∀ x ∈ e.2, (match x.2 with | .pending _ => true | _ => false) = false) ∧ t.xl.recs.length = s.xl.recs.length ∧ KeepsHost s t ∧ t.zn = s.zn ∧ t.wc = s.wc ∧ KeepsPower s t)

/-- MAP_REBUILD_END (R238). -/
abbrev mapRebuildEnd (s : State) : Prop :=
  (Quiet s) → Effect .mapRebuildEnd s (s.flag XLT_STATUS_REBUILD = true ∧ s.powered = true) fun t =>
    t.get XLT_STATUS_REBUILD = 0 ∧ t.flag XLT_EVT_MAP_REBUILD = true ∧ t.xl.lostSegs = [] ∧ (s.flag XLT_EVT_MAP_REBUILD = false → Raises 272 s t) ∧ t.xl.last = s.xl.last
      ∧ (Resting s → KeepsHost s t ∧ t.zn = s.zn ∧ t.wc = s.wc ∧ KeepsPower s t)

/-- RELOCATION_STEP (R239). -/
abbrev relocationStep (tag : Nat) (b : BlockSet) (s : State) : Prop :=
  (Quiet s ∧ s.victim = some tag ∧ s.xl.sets.look tag = some b ∧ b.valid = 0 ∧ s.setErasing tag = false ∧ b.retire = none) → Effect .relocationStep s (s.mayRelocate = true) fun t =>
    tag ∉ t.xl.victims ∧ (∀ e ∈ t.xl.open_, e.2 ≠ tag)
      ∧ (∀ m ∈ b.members, (s.block m.ch m.die m.block).st ≠ .retired → s.inService m.ch m.die = true → ∃ o ∈ (t.die m.ch m.die).queued, o.kind = .erase ∧ o.owner = .eraseSet tag ∧ o.block = m.block)
      ∧ (Resting s → t.xl.map = s.xl.map ∧ t.wc = s.wc ∧ t.zn = s.zn ∧ t.cd = s.cd ∧ KeepsHost s t ∧ KeepsPower s t ∧ KeepsService s t)

/-- RELOCATION_STEP (R239). -/
abbrev relocationStep_retires (tag c d k : Nat) (b : BlockSet) (s : State) : Prop :=
  (Quiet s ∧ s.victim = some tag ∧ s.xl.sets.look tag = some b ∧ b.valid = 0 ∧ s.setErasing tag = false ∧ b.retire = some (c, d, k)) → Effect .relocationStep s (s.mayRelocate = true) fun t =>
    tag ∉ t.xl.victims ∧ (c, d, k) ∉ t.cd.moving ∧ (t.block c d k).st = .retired

/-- RELOCATION_STEP (R239). -/
abbrev relocationStep_reads (tag : Nat) (b : BlockSet) (s : State) : Prop :=
  (Quiet s ∧ s.victim = some tag ∧ s.xl.sets.look tag = some b ∧ b.valid ≠ 0) → Effect .relocationStep s (s.mayRelocate = true) fun t =>
    t.xl.victims = s.xl.victims ∧ s.cd.nextCw ≤ t.cd.nextCw ∧ (∀ c ∈ t.cd.cws, s.cd.nextCw ≤ c.1 → ∃ k ∈ s.liveSlots tag, c.2.owner = .reloc tag k.slot) ∧ (Resting s → KeepsHost s t ∧ t.zn = s.zn ∧ t.wc = s.wc ∧ KeepsPower s t)

/-- XLT_RELOC_OLDEST (R241). -/
abbrev xltRelocOldest (n : Nat) (s : State) : Prop :=
  Effect (.xltRelocOldest n) s (s.powered = true ∧ 0 < n % 256) fun t =>
    t.xl.victims = ((sortBy (fun (e : Nat × BlockSet) => e.2.firstProg) s.xl.sets).take (n % 256)).foldl (fun l e => addOnce e.1 l) s.xl.victims
      ∧ (∀ e ∈ (sortBy (fun (e : Nat × BlockSet) => e.2.firstProg) s.xl.sets).take (n % 256), (t.xl.sets.look e.1).map (·.closed) = some true ∧ ∀ o ∈ t.xl.open_, o.2 ≠ e.1)
      ∧ t.xl.map = s.xl.map ∧ t.xl.run = s.xl.run ∧ t.xl.last = s.xl.last
      ∧ OnlyRegs [] s t ∧ t.wc = s.wc ∧ t.zn = s.zn ∧ t.fl = s.fl ∧ KeepsHost s t ∧ KeepsPower s t ∧ KeepsService s t ∧ KeepsFaults s t

/-- REALLOCATION_ACCEPT (R244). -/
abbrev reallocationAccept (ch die block tag i : Nat) (s : State) : Prop :=
  (s.ownerOf ch die block = some (true, tag, i)) → Effect (.reallocationAccept ch die block) s ((ch, die, block) ∈ s.cd.realloc ∧ s.cd.moving.length < 4 ∧ s.inModes [.run, .service] = true) fun t =>
    t.cd = { s.cd with realloc := s.cd.realloc.filter (· != (ch, die, block)), moving := s.cd.moving ++ [(ch, die, block)] } ∧ tag ∈ t.xl.victims ∧ (t.xl.sets.look tag).map (fun b => (b.closed, b.retire)) = (s.xl.sets.look tag).map (fun _ => (true, some (ch, die, block)))
      ∧ (∀ e ∈ t.xl.open_, e.2 ≠ tag) ∧ t.xl.map = s.xl.map
      ∧ OnlyRegs [] s t ∧ t.wc = s.wc ∧ t.zn = s.zn ∧ t.fl = s.fl ∧ KeepsHost s t ∧ KeepsPower s t ∧ KeepsService s t ∧ KeepsFaults s t

/-- REALLOCATION_ACCEPT (R244). -/
abbrev reallocationAccept_zone (ch die block key i : Nat) (z : Zone) (m : Member) (s : State) : Prop :=
  (s.ownerOf ch die block = some (false, key, i) ∧ s.zn.zones.look key = some z ∧ z.members[i]? = some m) → Effect (.reallocationAccept ch die block) s ((ch, die, block) ∈ s.cd.realloc ∧ s.cd.moving.length < 4 ∧ s.inModes [.run, .service] = true) fun t =>
    (m.rebuilt ≠ none → t.cd = s.cd ∧ t.zn = s.zn) ∧ (m.rebuilt = none → (ch, die, block) ∉ t.cd.realloc ∧ (t.zn.zones.look key).map (·.wp) = some z.wp)
      ∧ t.xl.map = s.xl.map ∧ t.zn.zones.map (·.1) = s.zn.zones.map (·.1) ∧ t.wc = s.wc ∧ t.sqs = s.sqs ∧ t.cqs = s.cqs ∧ t.ns = s.ns ∧ t.nextCtx = s.nextCtx ∧ t.resets = s.resets ∧ t.late = s.late ∧ t.lateTotal = s.lateTotal ∧ KeepsPower s t

/-- REALLOCATION_ACCEPT (R244). -/
abbrev reallocationAccept_none (ch die block : Nat) (s : State) : Prop :=
  (s.ownerOf ch die block = none) → Effect (.reallocationAccept ch die block) s ((ch, die, block) ∈ s.cd.realloc ∧ s.cd.moving.length < 4 ∧ s.inModes [.run, .service] = true) fun t =>
    t.cd = { s.cd with realloc := s.cd.realloc.filter (· != (ch, die, block)) } ∧ t.xl = s.xl ∧ OnlyRegs [] s t ∧ t.wc = s.wc ∧ t.zn = s.zn ∧ t.fl = s.fl ∧ KeepsHost s t ∧ KeepsPower s t ∧ KeepsService s t ∧ KeepsFaults s t

/-- INPUT_LOSS (R252). -/
abbrev inputLoss (s : State) : Prop :=
  Effect .inputLoss s (s.pw.ao = true ∧ s.hu.lost = false) fun t =>
    t.hu.lost = true ∧ t.hu.validSince = none ∧ t.get HUC_STATUS_INPUT_VALID = 0 ∧ ((s.md.mode = .off ∨ s.md.mode = .watch) → s.pw.seq = .idle → t.md = s.md ∧ KeepsHost s t ∧ KeepsMedia s t)

/-- INPUT_LOSS (R252). -/
abbrev inputLoss_detours (s : State) : Prop :=
  (s.pw.seq = .idle ∧ s.md.stopped = false ∧ s.md.restStep = none ∧ (s.md.mode = .run ∨ s.md.mode = .service ∨ s.md.mode = .ret ∨ s.md.mode = .rest)) → Effect .inputLoss s (s.pw.ao = true ∧ s.hu.lost = false) fun t =>
    t.md.mode = .detour ∧ t.hu.dump.map (·.empty) = some (decide (s.md.mode = .ret)) ∧ t.hu.dump.bind (·.committedAt) = none ∧ t.get DSC_STATUS_DETOUR = 1 ∧ t.md.fetchStop = true
      ∧ t.md.holdEntry = none ∧ t.hu.learn = none ∧ t.hu.zStep = none ∧ t.get HUC_STATUS_CHARGE = 0 ∧ t.xl.run = none ∧ (∃ r ∈ t.ev.todo, r.src = 176)

/-- INPUT_VALID (R251). -/
abbrev inputValid (mv : Nat) (s : State) : Prop :=
  Effect (.inputValid mv) s (s.pw.ao = true ∧ s.hu.validSince = none ∧ s.validDv * 100 ≤ mv) fun t =>
    t.hu.validSince = some s.now ∧ t.hu.lost = false ∧ t.get HUC_STATUS_INPUT_VALID = 1 ∧ (s.md.stopped = false → (s.md.mode = .off ∨ s.md.mode = .watch) → s.pw.seq = .idle → s.pw.needPerst = false → s.pw.inputOn = true → t.pw.onLatched = true)
      ∧ t.hu.dump = s.hu.dump ∧ t.hu.records = s.hu.records ∧ KeepsHost s t ∧ KeepsMedia s t ∧ KeepsService s t ∧ KeepsFaults s t

/-- INPUT_INVALID (R251). -/
abbrev inputInvalid (mv : Nat) (s : State) : Prop :=
  Effect (.inputInvalid mv) s (s.pw.ao = true ∧ s.hu.validSince ≠ none ∧ mv < s.validDv * 100) fun t =>
    t.hu.validSince = none ∧ t.get HUC_STATUS_INPUT_VALID = 0 ∧ t.hu.lost = s.hu.lost ∧ t.hu.dump = s.hu.dump ∧ t.hu.records = s.hu.records ∧ KeepsHost s t ∧ KeepsMedia s t ∧ KeepsService s t ∧ KeepsFaults s t

/-- DUMP_PACE_TICK (R260). -/
abbrev dumpPaceTick (d : Dump) (e : Nat × List Nat) (s : State) : Prop :=
  (s.hu.dump = some d ∧ e ∈ d.queue ∧ e.2 ≠ [] ∧ d.busy.has e.1 = false ∧ s.dumpDieFree e.1 = true) → Effect .dumpPaceTick s (s.inModes [.detour] = true ∧ s.dumpPads = true) fun t =>
    t.hu.dump.map (fun x => (x.busy.has e.1, x.written, x.failed, x.image, x.record)) = some (true, d.written, d.failed, d.image, d.record)
      ∧ OnlyRegs [] s t ∧ KeepsHost s t ∧ KeepsMedia s t ∧ KeepsService s t ∧ KeepsFaults s t ∧ t.md = s.md ∧ t.pw = s.pw

/-- DUMP_PROGRAM_COMPLETE (R261). -/
abbrev dumpProgramComplete (c d : Nat) (x : Dump) (u : Nat) (s : State) : Prop :=
  (s.hu.dump = some x ∧ x.busy.look (dieKey c d) = some u) → Effect (.dumpProgramComplete c d 0) s (s.inModes [.detour] = true) fun t =>
    t.hu.dump.map (fun y => (y.busy.look (dieKey c d), y.written.lookD (dieKey c d) [], y.queue, y.failed, y.image, y.record)) = some (none, x.written.lookD (dieKey c d) [] ++ [u], x.queue, x.failed, x.image, x.record)
      ∧ OnlyRegs [] s t ∧ KeepsHost s t ∧ t.zn = s.zn ∧ t.wc = s.wc ∧ t.pool = s.pool ∧ t.sd = s.sd ∧ t.cd = s.cd ∧ t.xl = s.xl ∧ { t.fl with dies := s.fl.dies } = s.fl ∧ (t.block (dieKey c d / 32) (dieKey c d % 32) (s.sysBlock (dieKey c d) x.record.slot)).npp = min 1024 ((s.block (dieKey c d / 32) (dieKey c d % 32) (s.sysBlock (dieKey c d) x.record.slot)).npp + 1) ∧ KeepsService s t ∧ KeepsFaults s t ∧ t.md = s.md ∧ t.pw = s.pw

/-- DUMP_PROGRAM_COMPLETE (R261). -/
abbrev dumpProgramComplete_failed (c d : Nat) (x : Dump) (u : Nat) (s : State) : Prop :=
  (s.hu.dump = some x ∧ x.busy.look (dieKey c d) = some u) → Effect (.dumpProgramComplete c d 1) s (s.inModes [.detour] = true) fun t =>
    t.hu.dump.map (fun y => (y.busy.look (dieKey c d), y.queue.lookD (dieKey c d) [], y.written, y.image, y.record)) = some (none, u :: x.queue.lookD (dieKey c d) [], x.written, x.image, x.record)
      ∧ t.hu.dump.map (·.suspect) = some (insSorted (dieKey c d) x.suspect) ∧ Counts FSQ_PFAIL_CNT c 1 s t ∧ t.flag FSQ_EVT_PROG_FAIL c = true
      ∧ KeepsHost s t ∧ t.zn = s.zn ∧ t.wc = s.wc ∧ t.pool = s.pool ∧ t.sd = s.sd ∧ t.cd = s.cd ∧ t.xl = s.xl ∧ { t.fl with dies := s.fl.dies } = s.fl ∧ (t.block (dieKey c d / 32) (dieKey c d % 32) (s.sysBlock (dieKey c d) x.record.slot)).npp = min 1024 ((s.block (dieKey c d / 32) (dieKey c d % 32) (s.sysBlock (dieKey c d) x.record.slot)).npp + 1) ∧ KeepsService s t ∧ KeepsFaults s t ∧ t.md = s.md ∧ t.pw = s.pw

/-- DUMP_PROGRAM_COMPLETE (R261). -/
abbrev dumpProgramComplete_directory (c d outcome : Nat) (x : Dump) (s : State) : Prop :=
  (s.hu.dump = some x ∧ x.busy.look (dieKey c d) = none ∧ dieKey c d ∈ x.dirBusy ∧ outcome < 2) → Effect (.dumpProgramComplete c d outcome) s (s.inModes [.detour] = true) fun t =>
    (outcome = 0 → t.hu.dump.map (fun y => (y.dirs, y.dirBusy, y.suspect)) = some (insSorted (dieKey c d) x.dirs, x.dirBusy.filter (· != dieKey c d), x.suspect))
      ∧ (outcome = 1 → t.hu.dump.map (fun y => (y.dirs, y.dirBusy, y.suspect)) = some (x.dirs, x.dirBusy, insSorted (dieKey c d) x.suspect) ∧ Counts FSQ_PFAIL_CNT c 1 s t)
      ∧ t.hu.dump.map (fun y => (y.written, y.queue, y.busy, y.image)) = some (x.written, x.queue, x.busy, x.image) ∧ KeepsHost s t ∧ t.zn = s.zn ∧ t.wc = s.wc ∧ t.xl = s.xl ∧ t.md = s.md ∧ t.pw = s.pw

/-- DUMP_PROGRAM_COMPLETE (R261). -/
abbrev dumpProgramComplete_none (c d outcome : Nat) (s : State) : Prop :=
  Bound s → (∀ x ∈ s.hu.dump.toList, x.busy.has (dieKey c d) = false ∧ dieKey c d ∉ x.dirBusy) → Completes (.dumpProgramComplete c d outcome) s fun t =>
    NoEffect s t

/-- DUMP_PROGRAM_COMPLETE (R261). -/
abbrev dumpProgramComplete_dieFails (c d : Nat) (x : Dump) (u : Nat) (s : State) : Prop :=
  (s.hu.dump = some x ∧ x.busy.look (dieKey c d) = some u ∧ s.inService c d = true ∧ Quiet s ∧ s.zn.zones = [] ∧ s.xl.sets = [] ∧ s.cd.cws = []) → Effect (.dumpProgramComplete c d 2) s (s.inModes [.detour] = true) fun t =>
    t.hu.dump.map (fun y => (y.busy.look (dieKey c d), y.written.look (dieKey c d), y.failed, y.dirs, y.image, y.record)) = some (none, none, insSorted (dieKey c d) x.failed, [], x.image, x.record)
      ∧ t.get FSQ_DIE_STATE c d = dieFailed ∧ t.flag FSQ_EVT_DIE_FAIL c = true ∧ KeepsHost s t ∧ t.zn.zones = [] ∧ t.xl.map = s.xl.map ∧ t.md = s.md ∧ t.pw = s.pw

/-- DUMP_COMMIT (R258). -/
abbrev dumpCommit (d : Dump) (s : State) : Prop :=
  (s.hu.dump = some d ∧ d.dirDies ≠ [] ∧ d.empty = false ∧ d.thermal = false ∧ d.fault = false ∧ s.md.offDetour = false ∧ s.hu.validSince ≠ none) → Effect .dumpCommit s (s.inModes [.detour] = true ∧ d.mayCommit = true) fun t =>
    (t.hu.records.look d.record.slot).map (fun r => (r.committed, r.dies, r.nDies, r.dseq)) = some (true, d.dirDies, d.dirDies.length, d.record.dseq) ∧ t.hu.images.look d.record.slot = some d.image
      ∧ t.hu.dump.bind (·.committedAt) = some s.now ∧ Counts HUC_DETOUR_CNT 0 1 s t ∧ Raises 177 s t ∧ t.md = s.md ∧ t.pw = s.pw ∧ t.zn = s.zn ∧ t.xl = s.xl ∧ t.fl = s.fl ∧ KeepsHost s t ∧ KeepsService s t

/-- DUMP_COMMIT (R258). -/
abbrev dumpCommit_powersDown (d : Dump) (s : State) : Prop :=
  (s.hu.dump = some d ∧ d.dirDies ≠ [] ∧ d.empty = false ∧ d.thermal = false ∧ d.fault = false ∧ s.md.offDetour = false ∧ s.hu.validSince = none ∧ s.pw.seq = .idle ∧ (s.rail 8).enabled = true ∧ (s.rail 7).enabled = true) → Effect .dumpCommit s (s.inModes [.detour] = true ∧ d.mayCommit = true) fun t =>
    t.pw.seq = .down 10 ∧ t.pw.making.cause = 3 ∧ t.pw.rsto = (true, true) ∧ t.md.stopped = true ∧ (t.hu.records.look d.record.slot).map (·.committed) = some true ∧ t.hu.images.look d.record.slot = some d.image

/-- DUMP_ABANDON (R262). -/
abbrev dumpAbandon (d : Dump) (s : State) : Prop :=
  (s.hu.dump = some d) → Effect .dumpAbandon s (s.inModes [.detour] = true ∧ d.committedAt = none ∧ s.hu.pack ≠ none) fun t =>
    t.md.mode = .off ∧ (t.pw.stored.cause, t.pw.stored.rail, t.pw.stored.dir) = (4, 11, 1) ∧ t.pw.needPerst = true ∧ t.pw.rsto = (true, true) ∧ t.hu.dump = none ∧ t.hu.records = s.hu.records ∧ t.hu.images = s.hu.images
      ∧ t.pw.seq = .idle ∧ t.pw.hubOn = false ∧ t.ctxs = [] ∧ t.sqs = []

/-- DUMP_SUPERSEDE (R264). -/
abbrev dumpSupersede (d : Dump) (s : State) : Prop :=
  (s.hu.dump = some d ∧ s.md.offHeld = false ∧ s.md.holdWrite = false) → Effect .dumpSupersede s (s.inModes [.detour] = true ∧ d.committedAt ≠ none ∧ d.thermal = false ∧ d.fault = false ∧ s.md.offDetour = false ∧ s.inputStood = true) fun t =>
    t.md.mode = (if d.left = Mode.ret.code then .ret else if d.left = Mode.service.code then .service else .run) ∧ t.hu.dump = none ∧ Counts HUC_SUPERSEDE_CNT 0 1 s t ∧ Raises 179 s t ∧ t.ns = s.ns ∧ t.fb.dups = s.fb.dups
      ∧ (d.empty = false → (t.hu.records.look d.record.slot).map (fun r => (r.superseded, r.released)) = (s.hu.records.look d.record.slot).map (fun _ => (true, true)))
      ∧ t.get DSC_STATUS_DETOUR = 0 ∧ (d.left ≠ Mode.ret.code → t.get GLB_MODE_STATUS_SUPERSEDED = 1 ∧ t.md.fetchStop = false)

/-- RETURN_COMPLETE (R265). -/
abbrev returnComplete (lostUnits : List Nat) (s : State) : Prop :=
  (s.recordSlot = none ∧ s.hu.live = [] ∧ s.md.undecoded = [] ∧ s.wc.pairs = [] ∧ s.md.offHeld = false ∧ s.md.holdWrite = false ∧ s.get PSC_STATUS_HOLD_HOST = s.get PSC_CTRL_HOLD_REQ) → Effect (.returnComplete lostUnits) s (s.inModes [.ret] = true ∧ s.mayEndReturn = true) fun t =>
    t.md.mode = (if s.flag PSC_STATUS_HOLD_NOCFG || s.flag PSC_STATUS_HOLD_THERM || s.flag PSC_CTRL_HOLD_REQ then .hold else .run) ∧ t.get GLB_MODE_STATUS_RETURNED = 1 ∧ Counts HUC_RETURN_CNT 0 1 s t ∧ Raises 180 s t
      ∧ t.hu.retWaited = false ∧ t.md.fetchStop = false

/-- RETURN_WAIT_TIMEOUT (R265). -/
abbrev returnWaitTimeout (s : State) : Prop :=
  Effect .returnWaitTimeout s (s.inModes [.ret] = true ∧ s.past s.hu.ret (1000000000 * s.get HUC_SUPPLY_CFG_RET_WAIT_S) = true) fun t =>
    t.hu = { s.hu with retWaited := true } ∧ OnlyRegs [] s t ∧ KeepsHost s t ∧ KeepsMedia s t ∧ KeepsService s t ∧ KeepsFaults s t ∧ t.md = s.md ∧ t.pw = s.pw

/-- GAUGE_SAMPLE (R250). -/
abbrev gaugeSample (volts : Nat) (amps temp : Int) (s : State) : Prop :=
  Effect (.gaugeSample volts amps temp) s (s.gaugeOn = true) fun t =>
    t.hu.volts = volts ∧ t.hu.amps = amps ∧ t.hu.temp = temp ∧ t.hu.ectr = min s.hu.c (s.hu.ectr - volts * amps) ∧ t.hu.c = s.hu.c ∧ t.hu.through = s.hu.through + ((volts : Int) * amps).natAbs ∧ t.get HUC_PACK_V_MV = (volts / 10) % 2 ^ HUC_PACK_V_MV.width
      ∧ KeepsHost s t ∧ t.zn = s.zn ∧ t.fl = s.fl ∧ t.xl = s.xl ∧ (s.md.mode ≠ .rest → t.md = s.md)

/-- GAUGE_RECOMPUTE (R268). -/
abbrev gaugeRecompute (s : State) : Prop :=
  (s.md.mode ≠ .rest) → Effect .gaugeRecompute s (s.powered = true) fun t =>
    t.get HUC_ENERGY_E_U = to32 s.estimate.eU ∧ t.get WCU_LIMIT_IN_EU = to32 s.estimate.eU ∧ t.get WCU_LIMIT_IN_N_H = s.get HUC_DUMP_N_H ∧ t.hu.epess = min s.hu.ectr s.estimate.hu.ev - s.eCut ∧ t.get HUC_STATUS_READY = bNat s.estimate.packReady
      ∧ t.md = s.md ∧ (Resting s → KeepsHost s t ∧ t.zn = s.zn ∧ t.fl = s.fl ∧ t.xl = s.xl ∧ t.pw = s.pw ∧ KeepsService s t)

/-- GAUGE_RECOMPUTE (R268). -/
abbrev gaugeRecompute_rest (s : State) : Prop :=
  (s.md.mode = .rest) → Effect .gaugeRecompute s (s.powered = true) fun t =>
    t.get HUC_ENERGY_E_U = to32 s.estimate.eU ∧ t.hu.epess = min s.hu.ectr s.estimate.hu.ev - s.eCut ∧ t.get HUC_STATUS_READY = bNat s.estimate.packReady ∧ t.get WCU_LIMIT_L = s.get WCU_LIMIT_L ∧ t.get WCU_LIMIT_IN_EU = s.get WCU_LIMIT_IN_EU
      ∧ KeepsHost s t ∧ t.zn = s.zn ∧ t.fl = s.fl ∧ t.xl = s.xl

/-- REST_WINDOW_END (R270). -/
abbrev restWindowEnd (ocv : Nat) (s : State) : Prop :=
  (s.hu.learn = none ∧ tempOk s.hu.temp = true) → Effect (.restWindowEnd ocv) s (s.gaugeOn = true ∧ s.past s.hu.restSince 1800000000000 = true ∧ (s.gauge = gsRest ∨ s.gauge = gsForced)) fun t =>
    t.hu.ectr = energyAt s.hu.c s.packId.ocv (ocvOf ocv) ∧ t.hu.u = s.hu.c * s.get HUC_GAUGE_CFG_U0_PCT / 100 ∧ t.hu.through = 0 ∧ t.hu.lastRest = s.ms.opMs ∧ t.hu.restMade = true ∧ t.hu.restSince = none ∧ t.get HUC_STATUS_NO_REST = 0
      ∧ t.get HUC_STATUS_DISAGREE = 0 ∧ t.gauge = gsTrack ∧ KeepsHost s t ∧ t.zn = s.zn ∧ t.fl = s.fl ∧ t.xl = s.xl ∧ (s.md.mode ≠ .rest → t.md = s.md)

/-- REST_WINDOW_END (R270). -/
abbrev restWindowEnd_cold (ocv : Nat) (s : State) : Prop :=
  (s.hu.learn = none ∧ tempOk s.hu.temp = false) → Effect (.restWindowEnd ocv) s (s.gaugeOn = true ∧ s.past s.hu.restSince 1800000000000 = true ∧ (s.gauge = gsRest ∨ s.gauge = gsForced)) fun t =>
    t.hu.ectr = s.hu.ectr ∧ t.hu.u = s.hu.u ∧ t.hu.restMade = s.hu.restMade ∧ t.hu.lastRest = s.hu.lastRest ∧ t.hu.restSince = none ∧ t.gauge = (if s.hu.restMade = true then gsTrack else gsFirst) ∧ KeepsHost s t ∧ t.zn = s.zn ∧ t.fl = s.fl ∧ t.xl = s.xl

/-- REST_WINDOW_END (R270). -/
abbrev restWindowEnd_learning (ocv : Nat) (l : Learn) (s : State) : Prop :=
  (s.hu.learn = some l ∧ l.step = 1) → Effect (.restWindowEnd ocv) s (s.gaugeOn = true ∧ s.past s.hu.restSince 1800000000000 = true) fun t =>
    t.hu.learn.map (fun x => (x.step, x.since, x.out)) = some (2, s.now, 0) ∧ t.hu.restSince = none ∧ t.gauge = s.gauge ∧ (tempOk s.hu.temp = true → t.hu.ectr = energyAt s.hu.c s.packId.ocv (ocvOf ocv)) ∧ KeepsHost s t ∧ t.zn = s.zn ∧ t.fl = s.fl ∧ t.xl = s.xl

/-- FORCED_REST_DUE (R271). -/
abbrev forcedRestDue (s : State) : Prop :=
  (s.forcedOk = false) → Effect .forcedRestDue s (s.packSound = true ∧ s.powered = true ∧ s.gauge ≠ gsForced ∧ s.flag HUC_STATUS_NO_REST = false ∧ s.hu.lastRest + 3600000 * (if s.get HUC_GAUGE_CFG_REST_MAX_H = 0 then 72 else s.get HUC_GAUGE_CFG_REST_MAX_H) ≤ s.ms.opMs) fun t =>
    t.hu.u = min s.hu.c (s.hu.u + (s.get HUC_GAUGE_CFG_U_STEP : Int) * qJ) ∧ t.hu.forceHeld = true ∧ t.get HUC_STATUS_NO_REST = 1 ∧ Raises 186 s t ∧ t.gauge = s.gauge ∧ KeepsHost s t ∧ t.zn = s.zn ∧ t.fl = s.fl ∧ t.xl = s.xl ∧ (s.md.mode ≠ .rest → t.md = s.md ∧ t.pw = s.pw ∧ KeepsService s t)

/-- FORCED_REST_DUE (R271). -/
abbrev forcedRestDue_rests (s : State) : Prop :=
  (s.forcedOk = true) → Effect .forcedRestDue s (s.packSound = true ∧ s.powered = true ∧ s.gauge ≠ gsForced ∧ s.flag HUC_STATUS_NO_REST = false ∧ s.hu.lastRest + 3600000 * (if s.get HUC_GAUGE_CFG_REST_MAX_H = 0 then 72 else s.get HUC_GAUGE_CFG_REST_MAX_H) ≤ s.ms.opMs) fun t =>
    t.gauge = gsForced ∧ t.hu.restSince = some s.now ∧ t.hu.forceHeld = false ∧ t.get HUC_STATUS_CHARGE = 0 ∧ Counts HUC_FORCED_REST_CNT 0 1 s t ∧ t.hu.u = s.hu.u ∧ KeepsHost s t ∧ KeepsMedia s t ∧ (s.md.mode ≠ .rest → t.md = s.md)

/-- HUC_REST_NOW (R271). -/
abbrev hucRestNow (s : State) : Prop :=
  Effect .hucRestNow s (s.powered = true ∧ s.packSound = true) fun t =>
    (s.forcedOk = true → s.gauge ≠ gsForced → t.gauge = gsForced ∧ t.hu.restSince = some s.now ∧ t.get HUC_STATUS_CHARGE = 0 ∧ Counts HUC_FORCED_REST_CNT 0 1 s t) ∧ (s.gauge = gsForced → t.hu = s.hu)
      ∧ (s.forcedOk = false → s.gauge ≠ gsForced → t.hu = { s.hu with forceHeld := true }) ∧ KeepsHost s t ∧ KeepsMedia s t ∧ t.md = s.md ∧ t.pw = s.pw

/-- UNCERTAINTY_HOURLY (R271). -/
abbrev uncertaintyHourly (s : State) : Prop :=
  Effect .uncertaintyHourly s (s.packSound = true ∧ s.powered = true ∧ s.hu.hourAt + 3600000 ≤ s.ms.opMs) fun t =>
    t.hu.u = min s.hu.c (s.hu.u + qJ / 10 + (if s.flag HUC_STATUS_NO_REST then (s.get HUC_GAUGE_CFG_U_RATE : Int) * qJ / 8 else 0)) ∧ t.hu.hourAt = s.ms.opMs ∧ t.hu.ectr = s.hu.ectr ∧ (s.hu.forceHeld = false → t.gauge = s.gauge) ∧ KeepsHost s t ∧ t.zn = s.zn ∧ t.fl = s.fl ∧ t.xl = s.xl ∧ (s.md.mode ≠ .rest → t.md = s.md)

/-- ESTIMATE_DISAGREE (R272). -/
abbrev estimateDisagree (s : State) : Prop :=
  Effect .estimateDisagree s (s.gaugeOn = true ∧ s.past s.hu.disagreeSince 60000000000 = true ∧ s.flag HUC_STATUS_DISAGREE = false) fun t =>
    t.get HUC_STATUS_DISAGREE = 1 ∧ Counts HUC_DISAGREE_CNT 0 1 s t ∧ Raises 185 s t ∧ t.hu.forceHeld = true ∧ (s.flag PSC_STATUS_HOLD_NOCFG = false → (t.hu.history.head?).map (·.type) = some 7) ∧ t.hu.ectr = s.hu.ectr ∧ t.hu.u = s.hu.u ∧ KeepsHost s t ∧ KeepsMedia s t ∧ t.md = s.md ∧ t.pw = s.pw

/-- HUC_Z_NOW (R275). -/
abbrev hucZNow (s : State) : Prop :=
  Effect .hucZNow s (s.powered = true ∧ s.packSound = true) fun t =>
    (s.zStepOk = true → t.hu.zStep = some s.now ∧ t.hu.zHeld = false ∧ t.get HUC_STATUS_CHARGE = 0) ∧ (s.zStepOk = false → t.hu = { s.hu with zHeld := true }) ∧ t.hu.z = s.hu.z ∧ KeepsHost s t ∧ KeepsMedia s t ∧ KeepsFaults s t ∧ t.md = s.md ∧ t.pw = s.pw

/-- IMPEDANCE_STEP_START (R275). -/
abbrev impedanceStepStart (s : State) : Prop :=
  Effect .impedanceStepStart s (s.powered = true ∧ s.zStepOk = true ∧ s.zDue = true) fun t =>
    t.hu.zStep = some s.now ∧ t.hu.zHeld = false ∧ t.get HUC_STATUS_CHARGE = 0 ∧ t.hu.z = s.hu.z ∧ KeepsHost s t ∧ KeepsMedia s t ∧ KeepsFaults s t ∧ t.md = s.md ∧ t.pw = s.pw

/-- IMPEDANCE_MEASURE (R275). -/
abbrev impedanceMeasure (dv di : Nat) (s : State) : Prop :=
  (0 < di ∧ dv * 8000 / di ≤ s.packId.zMax ∧ s.hu.zTicket = none) → Effect (.impedanceMeasure dv di) s (s.powered = true ∧ s.past s.hu.zStep 10000000 = true) fun t =>
    t.hu.z = min (dv * 8000 / di) 65535 ∧ t.hu.zMade = true ∧ t.hu.zAt = s.ms.opMs ∧ t.get HUC_PACK_Z = min (dv * 8000 / di) 65535 ∧ t.gauge = (if s.gauge = gsIdentify then gsFirst else s.gauge) ∧ KeepsHost s t ∧ t.zn = s.zn ∧ t.fl = s.fl ∧ t.xl = s.xl ∧ (s.md.mode ≠ .rest → t.md = s.md ∧ t.pw = s.pw ∧ KeepsService s t)

/-- IMPEDANCE_MEASURE (R275). -/
abbrev impedanceMeasure_fails (dv di : Nat) (s : State) : Prop :=
  (0 < di ∧ s.packId.zMax < min (dv * 8000 / di) 65535) → Effect (.impedanceMeasure dv di) s (s.powered = true ∧ s.past s.hu.zStep 10000000 = true) fun t =>
    t.hu.z = min (dv * 8000 / di) 65535 ∧ t.gauge = gsFailed ∧ t.get HUC_STATUS_READY = 0 ∧ t.get HUC_STATUS_CHARGE = 0 ∧ (s.gauge ≠ gsFailed → Raises 188 s t) ∧ KeepsHost s t ∧ t.zn = s.zn ∧ t.fl = s.fl ∧ t.xl = s.xl

/-- IMPEDANCE_MEASURE (R275). -/
abbrev impedanceMeasure_open (dv di : Nat) (s : State) : Prop :=
  (di = 0) → Effect (.impedanceMeasure dv di) s (s.powered = true ∧ s.past s.hu.zStep 10000000 = true) fun t =>
    t.hu.z = Config.freeValue s.freeCtr % 65536 ∧ t.hu.zMade = true ∧ KeepsHost s t ∧ t.zn = s.zn ∧ t.fl = s.fl ∧ t.xl = s.xl

/-- IMPEDANCE_STEP_END (R275). -/
abbrev impedanceStepEnd (s : State) : Prop :=
  Effect .impedanceStepEnd s (s.powered = true ∧ s.past s.hu.zStep 20000000 = true) fun t =>
    t.hu.zStep = none ∧ t.hu.z = s.hu.z ∧ t.get HUC_STATUS_CHARGE ≤ 3 ∧ OnlyRegs [HUC_STATUS_CHARGE.key 0 0] s t ∧ KeepsHost s t ∧ KeepsMedia s t ∧ KeepsService s t ∧ KeepsFaults s t ∧ t.md = s.md ∧ t.pw = s.pw

/-- PACK_HOT_TIMEOUT (R276). -/
abbrev packHotTimeout (s : State) : Prop :=
  (s.gauge ≠ gsFailed) → Effect .packHotTimeout s (s.gaugeOn = true ∧ s.past s.hu.hotSince 3600000000000 = true) fun t =>
    t.gauge = gsFailed ∧ Raises 188 s t ∧ t.get HUC_STATUS_READY = 0 ∧ t.get HUC_STATUS_CHARGE = 0 ∧ t.hu.learn = none ∧ t.hu.zStep = none ∧ (s.flag PSC_STATUS_HOLD_NOCFG = false → (t.hu.history.head?).map (·.type) = some 6) ∧ KeepsHost s t ∧ t.zn = s.zn ∧ t.fl = s.fl ∧ t.xl = s.xl ∧ (s.md.mode ≠ .rest → t.md = s.md)

/-- PACK_HOT_TIMEOUT (R276). -/
abbrev packHotTimeout_failed (s : State) : Prop :=
  (s.gauge = gsFailed) → Effect .packHotTimeout s (s.gaugeOn = true ∧ s.past s.hu.hotSince 3600000000000 = true) fun t =>
    t.hu = s.hu ∧ t.gauge = gsFailed ∧ OnlyRegs [] s t ∧ KeepsHost s t ∧ KeepsMedia s t ∧ KeepsFaults s t

/-- CHARGE_TIMEOUT (R276). -/
abbrev chargeTimeout (s : State) : Prop :=
  (s.gauge ≠ gsFailed) → Effect .chargeTimeout s (s.powered = true ∧ s.past s.hu.chgSince 14400000000000 = true) fun t =>
    t.gauge = gsFailed ∧ Raises 188 s t ∧ t.get HUC_STATUS_READY = 0 ∧ t.get HUC_STATUS_CHARGE = 0 ∧ t.hu.learn = none ∧ t.hu.zStep = none ∧ (s.flag PSC_STATUS_HOLD_NOCFG = false → (t.hu.history.head?).map (·.type) = some 6) ∧ KeepsHost s t ∧ t.zn = s.zn ∧ t.fl = s.fl ∧ t.xl = s.xl ∧ (s.md.mode ≠ .rest → t.md = s.md)

/-- CHARGE_TIMEOUT (R276). -/
abbrev chargeTimeout_failed (s : State) : Prop :=
  (s.gauge = gsFailed) → Effect .chargeTimeout s (s.powered = true ∧ s.past s.hu.chgSince 14400000000000 = true) fun t =>
    t.hu = s.hu ∧ t.gauge = gsFailed ∧ OnlyRegs [] s t ∧ KeepsHost s t ∧ KeepsMedia s t ∧ KeepsFaults s t

/-- PACK_INSERT (R277). -/
abbrev packInsert (found : PackFound) (p : PackId) (s : State) : Prop :=
  (parseIdent found.ident = some p ∧ found.lifeA = [] ∧ found.lifeB = []) → Effect (.packInsert found) s (s.powered = true ∧ s.hu.pack = none) fun t =>
    t.hu.pack = some p ∧ t.hu.identOk = true ∧ t.hu.c = p.cRated * qJ * 4 / 5 ∧ t.hu.z = p.zMax ∧ t.hu.zMade = false ∧ t.hu.ectr = energyAt t.hu.c p.ocv (ocvOf found.volts) ∧ t.hu.u = t.hu.c / 10 ∧ t.get HUC_STATUS_PRESENT = 1
      ∧ (t.gauge = gsIdentify ∨ t.gauge = gsEol) ∧ t.get HUC_STATUS_READY = 0 ∧ Raises 189 s t ∧ KeepsHost s t ∧ t.zn = s.zn ∧ t.fl = s.fl ∧ t.xl = s.xl ∧ t.md = s.md

/-- PACK_INSERT (R277). -/
abbrev packInsert_unidentified (found : PackFound) (s : State) : Prop :=
  (parseIdent found.ident = none) → Effect (.packInsert found) s (s.powered = true ∧ s.hu.pack = none) fun t =>
    t.hu.identOk = false ∧ t.get HUC_STATUS_PRESENT = 1 ∧ t.gauge = gsFailed ∧ Raises 188 s t ∧ Raises 189 s t ∧ t.get HUC_STATUS_READY = 0 ∧ KeepsHost s t ∧ t.zn = s.zn ∧ t.fl = s.fl ∧ t.xl = s.xl ∧ t.md = s.md

/-- PACK_REMOVE (R269). -/
abbrev packRemove (s : State) : Prop :=
  Effect .packRemove s (s.powered = true ∧ s.hu.pack ≠ none) fun t =>
    t.hu.pack = none ∧ t.hu.learn = none ∧ t.get HUC_STATUS_PRESENT = 0 ∧ t.gauge = gsAbsent ∧ t.get HUC_STATUS_READY = 0 ∧ t.get HUC_STATUS_CHARGE = 0 ∧ Raises 189 s t ∧ t.pw.hubOn = decide (s.md.mode = .detour) ∧ KeepsHost s t ∧ t.zn = s.zn ∧ t.fl = s.fl ∧ t.xl = s.xl ∧ (s.md.mode ≠ .rest → t.md = s.md)

/-- HUC_LEARN_NOW (R279). -/
abbrev hucLearnNow (s : State) : Prop :=
  Effect .hucLearnNow s (s.powered = true ∧ s.packSound = true ∧ s.hu.learn = none) fun t =>
    (s.learnOk = true → t.hu.learn.map (·.step) = some 1 ∧ t.gauge = gsLearn ∧ t.hu.learnHeld = false ∧ t.hu.restSince = some s.now ∧ t.get HUC_STATUS_CHARGE = 0) ∧ (s.learnOk = false → t.hu = { s.hu with learnHeld := true })
      ∧ KeepsHost s t ∧ KeepsMedia s t ∧ KeepsFaults s t ∧ t.md = s.md ∧ t.pw = s.pw

/-- LEARN_START (R279). -/
abbrev learnStart (s : State) : Prop :=
  Effect .learnStart s (s.powered = true ∧ s.learnOk = true ∧ s.learnDue = true) fun t =>
    t.hu.learn.map (·.step) = some 1 ∧ t.gauge = gsLearn ∧ t.hu.learnHeld = false ∧ t.hu.restSince = some s.now ∧ t.get HUC_STATUS_CHARGE = 0 ∧ Counts HUC_FORCED_REST_CNT 0 1 s t ∧ KeepsHost s t ∧ KeepsMedia s t ∧ KeepsFaults s t ∧ t.md = s.md ∧ t.pw = s.pw

/-- LEARN_REST_END (R279). -/
abbrev learnRestEnd (ocv : Nat) (l : Learn) (s : State) : Prop :=
  (s.hu.learn = some l) → Effect (.learnRestEnd ocv) s (s.powered = true ∧ l.step = 3 ∧ l.since + 1800000000000 ≤ s.now) fun t =>
    t.hu.learn = none ∧ Raises 187 s t ∧ (Counts HUC_LEARN_OK_CNT 0 1 s t ∨ Counts HUC_LEARN_DQ_CNT 0 1 s t ∧ t.hu.c = s.hu.c) ∧ KeepsHost s t ∧ t.zn = s.zn ∧ t.fl = s.fl ∧ t.xl = s.xl ∧ (s.md.mode ≠ .rest → t.md = s.md)

/-- LIFE_RECORD_PERIOD (R281). -/
abbrev lifeRecordPeriod (s : State) : Prop :=
  (s.hu.identOk = true ∧ s.flag PSC_STATUS_HOLD_NOCFG = false) → Effect .lifeRecordPeriod s (s.powered = true ∧ s.hu.pack ≠ none ∧ s.hu.lifeAt + 86400000 ≤ s.ms.opMs) fun t =>
    t.hu.life.map (fun r => (r.seq, r.c, r.lastDev)) = some ((s.hu.life.getD LifeRec.fresh).seq + 1, to32 s.hu.c, Config.serial % 2 ^ 64) ∧ t.hu.detours = 0 ∧ t.hu.lifeAt = s.ms.opMs ∧ t.hu.nextB = !s.hu.nextB ∧ (∃ r ∈ t.hu.life.toList, t.out = .eeprom (if s.hu.nextB = true then 0x140 else 0x100) (lifeBytes r) :: s.out) ∧ OnlyRegs [] s t ∧ KeepsHost s t ∧ KeepsMedia s t ∧ KeepsService s t ∧ KeepsFaults s t ∧ t.md = s.md ∧ t.pw = s.pw

/-- RAIL_OUT_OF_WINDOW (R287). -/
abbrev railOutOfWindow (rail dir mv ns : Nat) (s : State) : Prop :=
  (1 ≤ rail ∧ rail < 10 ∧ ((s.rail rail).armed = true ∨ (s.rail rail).waiting = true ∧ dir = 2) ∨ rail = 10 ∧ dir = 2 ∨ rail = 11 ∧ dir < 3 ∧ s.flag PSQ_STATUS_HUB_ARMED = true) → Effect (.railOutOfWindow rail dir mv ns) s (s.pw.ao = true ∧ s.declares rail dir mv ns = true) fun t =>
    t.md.mode = .off ∧ (t.pw.stored.cause, t.pw.stored.rail, t.pw.stored.dir) = (4, rail, dir) ∧ t.pw.rsto = (true, true) ∧ t.pw.seq = .idle ∧ t.pw.needPerst = true ∧ t.pw.hubOn = false
      ∧ (∀ r ∈ [1, 2, 3, 4, 5, 6, 7, 8, 9], (t.rail r).enabled = false) ∧ t.fc.nvFatal = true ∧ t.hu.records = s.hu.records ∧ t.hu.pack = s.hu.pack ∧ t.ms.opMs = s.ms.opMs ∧ t.ctxs = [] ∧ t.sqs = [] ∧ t.cqs = []

/-- RAIL_OUT_OF_WINDOW (R287). -/
abbrev railOutOfWindow_input (rail dir mv ns : Nat) (s : State) : Prop :=
  (rail = 10 ∧ dir = 1) → Effect (.railOutOfWindow rail dir mv ns) s (s.pw.ao = true ∧ s.declares rail dir mv ns = true) fun t =>
    (s.hu.lost = true → NoEffect s t) ∧ (s.hu.lost = false → t.hu.lost = true ∧ t.hu.validSince = none ∧ t.get HUC_STATUS_INPUT_VALID = 0)

/-- RAIL_OUT_OF_WINDOW (R287). -/
abbrev railOutOfWindow_notArmed (rail dir mv ns : Nat) (s : State) : Prop :=
  (1 ≤ rail ∧ rail < 10 ∧ (s.rail rail).armed = false ∧ ((s.rail rail).waiting = false ∨ dir ≠ 2) ∨ rail = 10 ∧ dir = 3 ∨ rail = 11 ∧ (3 ≤ dir ∨ s.flag PSQ_STATUS_HUB_ARMED = false) ∨ 12 ≤ rail) → Effect (.railOutOfWindow rail dir mv ns) s (s.pw.ao = true ∧ s.declares rail dir mv ns = true) fun t =>
    NoEffect s t

/-- RAIL_OUT_OF_WINDOW (R287). -/
abbrev railOutOfWindow_ao (rail dir mv ns : Nat) (s : State) : Prop :=
  (rail = 0) → Effect (.railOutOfWindow rail dir mv ns) s (s.pw.ao = true ∧ s.declares rail dir mv ns = true) fun t =>
    t.pw.ao = false ∧ t.md.mode = .off ∧ t.pw.rsto = (true, true) ∧ t.pw.stored = s.pw.stored ∧ t.pw.runningMark = s.pw.runningMark ∧ t.ctxs = [] ∧ t.sqs = [] ∧ t.ev.todo = []

/-- AO_POWER_ON_RESET (R290). -/
abbrev aoPowerOnReset (s : State) : Prop :=
  Bound s → Completes .aoPowerOnReset s fun t =>
    t.now = 0 ∧ t.pw.ao = true ∧ t.md.mode = .off ∧ t.pw.onLatched = true ∧ t.pw.rsto = (true, true) ∧ (t.rail 0).armed = true ∧ (t.rail 1).enabled = false ∧ t.pw.stored = s.pw.stored ∧ t.pw.runningMark = s.pw.runningMark
      ∧ t.hu.pack = s.hu.pack ∧ t.hu.records = s.hu.records ∧ t.ms.opMs = s.ms.opMs ∧ t.ms.ring = s.ms.ring ∧ t.fw.slot1 = s.fw.slot1 ∧ t.fw.cfgA = s.fw.cfgA ∧ t.ctxs = [] ∧ t.sqs = []

/-- POWER_UP_START (R290). -/
abbrev powerUpStart (split recover test : Bool) (s : State) : Prop :=
  Effect (.powerUpStart split recover test) s (s.mayStart = true) fun t =>
    t.pw.seq = .up 1 false ∧ t.rail 1 = { enabled := true, waiting := true, armed := false, inWindow := false, since := s.now } ∧ t.pw.onLatched = false ∧ t.pw.rsto = (true, true) ∧ t.pw.making = OffRec.none ∧ (t.pw.split, t.pw.recover, t.pw.testMode) = (split, recover, test)
      ∧ t.get PSQ_STATUS_STEP = 0 ∧ t.md = s.md ∧ t.hu = s.hu ∧ KeepsHost s t ∧ KeepsMedia s t ∧ KeepsService s t ∧ KeepsFaults s t

/-- RAIL_POWER_GOOD (R291). -/
abbrev railPowerGood (rail k : Nat) (s : State) : Prop :=
  Effect (.railPowerGood rail) s (s.pw.ao = true ∧ (s.rail rail).waiting = true) fun t =>
    t.rail rail = { enabled := true, waiting := false, armed := false, inWindow := true, since := s.now } ∧ (s.pw.seq = .up k false → stepRail k = rail → t.pw.seq = .up k true) ∧ (s.pw.seq = .idle → t.pw.seq = .idle)
      ∧ t.md = s.md ∧ t.hu = s.hu ∧ KeepsHost s t ∧ KeepsMedia s t ∧ KeepsService s t ∧ KeepsFaults s t

/-- RAIL_SETTLE_DONE (R291). -/
abbrev railSettleDone (rail : Nat) (env : BootEnv) (k : Nat) (s : State) : Prop :=
  (s.pw.seq = .up k true ∧ 1 ≤ k ∧ k < 9 ∧ stepRail k = rail ∧ s.pw.offPend = none) → Effect (.railSettleDone rail env) s (s.pw.ao = true ∧ (s.rail rail).enabled = true ∧ (s.rail rail).waiting = false ∧ (s.rail rail).armed = false ∧ (s.rail rail).since + s.settleWait ≤ s.now) fun t =>
    t.rail rail = { enabled := true, waiting := false, armed := true, inWindow := true, since := s.now } ∧ t.pw.seq = .up (k + 1) false ∧ (t.rail (stepRail (k + 1))).waiting = true ∧ (t.rail (stepRail (k + 1))).enabled = true ∧ t.get PSQ_STATUS_STEP = k
      ∧ t.md = s.md ∧ t.hu = s.hu ∧ KeepsHost s t ∧ KeepsMedia s t ∧ KeepsService s t ∧ KeepsFaults s t

/-- RAIL_SETTLE_DONE (R291). -/
abbrev railSettleDone_off (rail : Nat) (env : BootEnv) (k c : Nat) (s : State) : Prop :=
  (s.pw.seq = .up k true ∧ 1 ≤ k ∧ k ≤ 9 ∧ stepRail k = rail ∧ s.pw.offPend = some c) → Effect (.railSettleDone rail env) s (s.pw.ao = true ∧ (s.rail rail).enabled = true ∧ (s.rail rail).waiting = false ∧ (s.rail rail).armed = false ∧ (s.rail rail).since + s.settleWait ≤ s.now) fun t =>
    t.pw.making.cause = c ∧ t.md.stopped = true ∧ t.pw.rsto = (true, true) ∧ t.get PSQ_STATUS_OFF_PEND = 1 ∧ t.md.mode = s.md.mode

/-- RAIL_SETTLE_DONE (R291). -/
abbrev railSettleDone_boot (rail : Nat) (env : BootEnv) (s : State) : Prop :=
  (s.pw.seq = .up 9 true ∧ rail = 7 ∧ s.pw.offPend = none ∧ s.pw.testMode = false ∧ s.pw.recover = true) → Effect (.railSettleDone rail env) s (s.pw.ao = true ∧ (s.rail rail).enabled = true ∧ (s.rail rail).waiting = false ∧ (s.rail rail).armed = false ∧ (s.rail rail).since + s.settleWait ≤ s.now) fun t =>
    t.md.mode = .boot ∧ t.pw.seq = .idle ∧ t.get PSQ_STATUS_STEP = 10 ∧ t.fw.bootRom = true ∧ t.pw.runningMark = true ∧ (t.rail 7).armed = true ∧ t.get PSQ_LAST_OFF_CAUSE = (if s.pw.runningMark then 7 else s.pw.stored.cause % 2 ^ PSQ_LAST_OFF_CAUSE.width)

/-- RAIL_SETTLE_DONE (R291). -/
abbrev railSettleDone_test (rail : Nat) (env : BootEnv) (s : State) : Prop :=
  (s.pw.seq = .up 9 true ∧ rail = 7 ∧ s.pw.offPend = none ∧ s.pw.testMode = true) → Effect (.railSettleDone rail env) s (s.pw.ao = true ∧ (s.rail rail).enabled = true ∧ (s.rail rail).waiting = false ∧ (s.rail rail).armed = false ∧ (s.rail rail).since + s.settleWait ≤ s.now) fun t =>
    t.pw.seq = .up 10 true ∧ t.get PSQ_STATUS_STEP = 10 ∧ (t.rail 7).armed = true ∧ t.md = s.md ∧ t.hu = s.hu ∧ KeepsHost s t ∧ KeepsMedia s t ∧ KeepsService s t ∧ KeepsFaults s t

/-- RAIL_SETTLE_DONE (R291). -/
abbrev railSettleDone_running (rail : Nat) (env : BootEnv) (s : State) : Prop :=
  (s.pw.seq = .idle) → Effect (.railSettleDone rail env) s (s.pw.ao = true ∧ (s.rail rail).enabled = true ∧ (s.rail rail).waiting = false ∧ (s.rail rail).armed = false ∧ (s.rail rail).since + s.settleWait ≤ s.now) fun t =>
    (t.rail rail).armed = true ∧ t.pw.seq = .idle ∧ t.md = s.md ∧ t.hu = s.hu ∧ KeepsHost s t ∧ KeepsMedia s t ∧ KeepsService s t ∧ KeepsFaults s t

/-- POWER_GOOD_TIMEOUT (R292). -/
abbrev powerGoodTimeout (rail : Nat) (s : State) : Prop :=
  (s.md.mode = .off ∧ 1 ≤ rail ∧ rail < 10 ∧ (s.rail rail).enabled = true ∧ (match s.pw.seq with | .up _ _ => true | _ => false) = true) → Effect (.powerGoodTimeout rail) s (s.pw.ao = true ∧ (s.rail rail).waiting = true ∧ (s.rail rail).since + s.pgWait ≤ s.now) fun t =>
    t.pw.making.cause = 5 ∧ t.pw.making.rail = rail ∧ t.pw.making.dir = 3 ∧ t.md.stopped = true ∧ t.pw.rsto = (true, true) ∧ t.get PSQ_STATUS_OFF_PEND = 1 ∧ Raises 156 s t ∧ t.md.mode = .off ∧ Counts PSQ_SEQFAIL_CNT 0 1 s t

/-- POWER_GOOD_TIMEOUT (R292). -/
abbrev powerGoodTimeout_phy (rail : Nat) (s : State) : Prop :=
  (s.pw.seq = .idle ∧ (rail = 3 ∨ rail = 4) ∧ s.get QEN_LINK_UP 0 = 0 ∧ s.get QEN_LINK_UP 1 = 0 ∧ Resting s) → Effect (.powerGoodTimeout rail) s (s.pw.ao = true ∧ (s.rail rail).waiting = true ∧ (s.rail rail).since + s.pgWait ≤ s.now) fun t =>
    t.rail rail = Rail.off ∧ t.pw.phyFailed = true ∧ Raises 156 s t ∧ (∀ p, p < 4 → t.cwState p = cwDown ∨ t.cwState p = cwDisabled) ∧ t.portsRun = false ∧ t.md = s.md ∧ t.hu = s.hu ∧ KeepsHost s t ∧ KeepsMedia s t

/-- POWER_GOOD_TIMEOUT (R292). -/
abbrev powerGoodTimeout_wake (rail : Nat) (s : State) : Prop :=
  (s.pw.seq = .idle ∧ rail ≠ 3 ∧ rail ≠ 4) → Effect (.powerGoodTimeout rail) s (s.pw.ao = true ∧ (s.rail rail).waiting = true ∧ (s.rail rail).since + s.pgWait ≤ s.now) fun t =>
    t.md.mode = .off ∧ (t.pw.stored.cause, t.pw.stored.rail, t.pw.stored.dir) = (4, rail, 3) ∧ t.pw.rsto = (true, true) ∧ t.pw.needPerst = true

/-- POWER_GOOD_TIMEOUT (R292). -/
abbrev powerGoodTimeout_down (rail k : Nat) (s : State) : Prop :=
  Bound s → (s.pw.seq = .down k) → Completes (.powerGoodTimeout rail) s fun t =>
    NoEffect s t

/-- HOLD_UP_BUS_ARMED (R286). -/
abbrev holdUpBusArmed (s : State) : Prop :=
  Effect .holdUpBusArmed s (s.pw.ao = true ∧ s.pw.hubOn = true ∧ s.flag PSQ_STATUS_HUB_ARMED = false) fun t =>
    t.flag PSQ_STATUS_HUB_ARMED = true ∧ bit t.railStat 11 = true ∧ OnlyRegs [PSQ_STATUS_HUB_ARMED.key 0 0] s t ∧ KeepsAll s t

/-- PSQ_RSTO_PULSE (R300). -/
abbrev psqRstoPulse (bits : Nat) (s : State) : Prop :=
  Effect (.psqRstoPulse bits) s (s.inModes [.run, .service] = true) fun t =>
    (bit bits 0 = true → t.pw.rsto.1 = true ∧ t.pw.rstoUntil.1 = some (s.now + max 1 (s.get PSQ_RSTO_CFG_STRETCH0) * 1000000)) ∧ (bit bits 1 = true → t.pw.rsto.2 = true ∧ t.pw.rstoUntil.2 = some (s.now + max 1 (s.get PSQ_RSTO_CFG_STRETCH1) * 1000000))
      ∧ (bit bits 0 = false → t.pw.rsto.1 = s.pw.rsto.1 ∧ t.pw.rstoUntil.1 = s.pw.rstoUntil.1) ∧ (bit bits 1 = false → t.pw.rsto.2 = s.pw.rsto.2 ∧ t.pw.rstoUntil.2 = s.pw.rstoUntil.2)
      ∧ { t.pw with rsto := s.pw.rsto, rstoUntil := s.pw.rstoUntil } = s.pw ∧ OnlyRegs [] s t ∧ t.md = s.md ∧ t.hu = s.hu ∧ KeepsHost s t ∧ KeepsMedia s t ∧ KeepsService s t ∧ KeepsFaults s t

/-- RSTO_STRETCH_EXPIRY (R300). -/
abbrev rstoStretchExpiry (output : Nat) (s : State) : Prop :=
  Bound s → Completes (.rstoStretchExpiry output) s fun t =>
    (output = 0 → (∃ u ∈ s.pw.rstoUntil.1.toList, u ≤ s.now) → t.pw.rsto = (false, s.pw.rsto.2) ∧ t.pw.rstoUntil = (none, s.pw.rstoUntil.2)) ∧ (output = 1 → (∃ u ∈ s.pw.rstoUntil.2.toList, u ≤ s.now) → t.pw.rsto = (s.pw.rsto.1, false) ∧ t.pw.rstoUntil = (s.pw.rstoUntil.1, none))
      ∧ (output = 0 → (∀ u ∈ s.pw.rstoUntil.1.toList, s.now < u) → NoEffect s t) ∧ (output = 1 → (∀ u ∈ s.pw.rstoUntil.2.toList, s.now < u) → NoEffect s t) ∧ OnlyRegs [] s t ∧ t.md = s.md ∧ t.hu = s.hu ∧ KeepsHost s t ∧ KeepsMedia s t ∧ KeepsService s t ∧ KeepsFaults s t

/-- DROOP_ENGAGE (R301). -/
abbrev droopEngage (sensor mv : Nat) (s : State) : Prop :=
  (s.flag DRG_CFG_EN = true ∧ s.pw.droopSince = none) → Effect (.droopEngage sensor mv) s ((s.rail 1).armed = true ∧ sensor < 24 ∧ s.sags mv = true) fun t =>
    t.get DRG_STATUS_ACTIVE = 1 ∧ t.get DRG_STATUS_SENSOR = sensor ∧ t.get DRG_SENSE sensor = mv % 65536 ∧ t.get GLB_MODE_STATUS_DROOP = 1 ∧ Counts DRG_ENGAGE_CNT 0 1 s t ∧ t.pw.droopSince = some s.now ∧ t.pw.droopLong = false
      ∧ t.unbound = [] ∧ t.md = s.md ∧ t.hu = s.hu ∧ KeepsHost s t ∧ KeepsMedia s t ∧ KeepsService s t

/-- DROOP_ENGAGE (R301). -/
abbrev droopEngage_guardOff (sensor mv : Nat) (s : State) : Prop :=
  (s.flag DRG_CFG_EN = false) → Effect (.droopEngage sensor mv) s ((s.rail 1).armed = true ∧ sensor < 24 ∧ s.sags mv = true) fun t =>
    t.unbound = [Unbound.droop] ∧ t.get DRG_SENSE sensor = mv % 65536 ∧ OnlyRegs [DRG_SENSE.key sensor 0, DRG_MIN_MV.key 0 0] s t ∧ KeepsAll s t

/-- DROOP_RELEASE (R301). -/
abbrev droopRelease (k : Nat) (s : State) : Prop :=
  Bound s → (s.pw.droopSince = some k) → Completes .droopRelease s fun t =>
    t.get DRG_STATUS_ACTIVE = 0 ∧ t.get GLB_MODE_STATUS_DROOP = 0 ∧ Counts DRG_SKIP_US 0 ((s.now - k) / 1000) s t ∧ t.pw = { s.pw with droopSince := none, droopLong := false } ∧ t.md = s.md ∧ t.hu = s.hu ∧ KeepsHost s t ∧ KeepsMedia s t ∧ KeepsService s t

/-- DROOP_LONG (R301). -/
abbrev droopLong (s : State) : Prop :=
  Effect .droopLong s ((∃ u ∈ s.pw.droopSince.toList, u + 1000 * (if s.get DRG_CFG_LONG_US = 0 then 100 else s.get DRG_CFG_LONG_US) < s.now) ∧ s.pw.droopLong = false) fun t =>
    Counts DRG_LONG_CNT 0 1 s t ∧ Raises 161 s t ∧ t.pw = { s.pw with droopLong := true } ∧ t.md = s.md ∧ t.hu = s.hu ∧ KeepsHost s t ∧ KeepsMedia s t ∧ KeepsService s t

/-- BOOT_END (R419). -/
abbrev bootEnd (s : State) : Prop :=
  (s.recordSlot = none ∧ s.hu.live = [] ∧ s.md.undecoded = [] ∧ s.wc.pairs = [] ∧ s.md.offHeld = false ∧ s.md.holdWrite = false ∧ s.md.holdWait = false ∧ s.md.stopped = false ∧ s.pw.seq = .idle) → Effect .bootEnd s (s.inModes [.boot] = true ∧ s.fw.bootRom = false ∧ s.fw.boot ≠ none) fun t =>
    t.fw.boot = none ∧ t.get PSC_STATUS_HOLD_HOST = bNat (s.flag PSC_CTRL_HOLD_REQ) ∧ t.md.mode = (if s.flag PSC_STATUS_HOLD_NOCFG || s.flag PSC_STATUS_HOLD_THERM || s.flag PSC_CTRL_HOLD_REQ then .hold else .run) ∧ t.get GLB_MODE_STATUS_MODE = t.md.mode.code ∧ t.get GLB_MODE_STATUS_PREV_MODE = 2 ∧ t.mm = s.mm ∧ t.tp = s.tp ∧ t.ns = s.ns

/-- BOOT_END (R419). -/
abbrev bootEnd_return (n : Nat) (s : State) : Prop :=
  (s.recordSlot = some n ∧ s.md.offHeld = false ∧ s.md.holdWrite = false ∧ s.md.stopped = false ∧ s.pw.seq = .idle) → Effect .bootEnd s (s.inModes [.boot] = true ∧ s.fw.bootRom = false ∧ s.fw.boot ≠ none) fun t =>
    t.fw.boot = none ∧ t.md.mode = .ret ∧ t.hu.ret = some s.now ∧ t.get GLB_MODE_STATUS_MODE = Mode.ret.code ∧ t.get GLB_MODE_STATUS_PREV_MODE = 2 ∧ t.hu.records = s.hu.records ∧ t.mm = s.mm ∧ t.tp = s.tp ∧ t.ns = s.ns

/-- PSQ_OFF (R293). -/
abbrev psqOff (s : State) : Prop :=
  ((s.md.mode = .run ∨ s.md.mode = .service) ∧ s.pw.seq = .idle ∧ s.md.restStep = none ∧ s.md.offSince = none ∧ s.flag THM_STATUS_WR_FORBID = false ∧ s.wc.pairs = []) → Effect .psqOff s (s.powered = true) fun t =>
    t.md.offSince = some s.now ∧ t.md.fetchStop = true ∧ t.md.holdEntry = none ∧ t.get PSQ_STATUS_OFF_PEND = 1 ∧ 2 ∈ t.wc.flushBy ∧ t.md.mode = s.md.mode ∧ t.pw = s.pw ∧ t.hu = s.hu ∧ KeepsHost s t ∧ t.zn = s.zn ∧ t.fl = s.fl ∧ t.xl = s.xl ∧ KeepsService s t ∧ KeepsFaults s t

/-- PSQ_OFF (R293). -/
abbrev psqOff_hold (s : State) : Prop :=
  ((s.md.mode = .boot ∨ s.md.mode = .hold) ∧ s.pw.seq = .idle ∧ (s.rail 8).enabled = true ∧ (s.rail 7).enabled = true) → Effect .psqOff s (s.powered = true) fun t =>
    t.pw.seq = .down 10 ∧ t.pw.making.cause = 1 ∧ t.pw.rsto = (true, true) ∧ t.md.stopped = true ∧ t.md.fetchStop = true ∧ t.get PSQ_STATUS_OFF_PEND = 1 ∧ t.md.mode = s.md.mode ∧ KeepsHost s t ∧ KeepsMedia s t ∧ KeepsService s t ∧ KeepsFaults s t

/-- PSQ_OFF (R293). -/
abbrev psqOff_rest (s : State) : Prop :=
  (s.restIdle = true ∧ s.pw.seq = .idle) → Effect .psqOff s (s.powered = true) fun t =>
    t.md.offHeld = true ∧ t.md.wake = some 3 ∧ t.md.mode = .rest ∧ (t.rail 1).enabled = true ∧ (t.rail 1).waiting = true ∧ Counts PSC_WAKE_CNT 0 1 s t ∧ KeepsHost s t ∧ KeepsMedia s t ∧ KeepsService s t

/-- OFF_FLUSH_TIMEOUT (R307). -/
abbrev offFlushTimeout (s : State) : Prop :=
  (s.md.restStep = none) → Effect .offFlushTimeout s (s.inModes [.run, .service] = true ∧ s.past s.md.offSince 1000000000 = true) fun t =>
    t.md.mode = .detour ∧ t.md.offDetour = true ∧ t.md.offSince = none ∧ t.md.fetchStop = true ∧ t.hu.dump.map (fun d => (d.empty, d.fault, d.thermal)) = some (false, false, false) ∧ t.get DSC_STATUS_DETOUR = 1

/-- FLASH_READY_WAIT_END (R293). -/
abbrev flashReadyWaitEnd (k : Nat) (s : State) : Prop :=
  (1 ≤ k ∧ k ≤ 9 ∧ (s.rail (stepRail k)).enabled = true ∧ RailsOff k 10 s) → Effect .flashReadyWaitEnd s (s.pw.seq = .down 10 ∧ ((∀ e ∈ s.fl.dies, e.2.run = none) ∨ s.pw.stepSince + 12000000 ≤ s.now)) fun t =>
    t.pw.seq = .down k ∧ t.pw.stepSince = s.now ∧ t.rail (stepRail k) = Rail.off ∧ (∀ j ∈ [1, 2, 3, 4, 5, 6, 7, 8, 9], j ≠ k → t.rail (stepRail j) = s.rail (stepRail j)) ∧ t.pw.making = s.pw.making ∧ OnlyRegs [] s t
      ∧ t.md = s.md ∧ t.hu = s.hu ∧ KeepsHost s t ∧ KeepsMedia s t ∧ KeepsService s t ∧ KeepsFaults s t

/-- RAIL_DISCHARGED (R293). -/
abbrev railDischarged (rail k j : Nat) (s : State) : Prop :=
  Bound s → (s.pw.seq = .down k ∧ 1 ≤ j ∧ j < k ∧ k ≤ 9 ∧ stepRail k = rail ∧ (s.rail (stepRail j)).enabled = true ∧ RailsOff j k s) → Completes (.railDischarged rail) s fun t =>
    t.pw.seq = .down j ∧ t.pw.stepSince = s.now ∧ t.rail (stepRail j) = Rail.off ∧ t.pw.making = s.pw.making ∧ OnlyRegs [] s t ∧ t.md = s.md ∧ t.hu = s.hu ∧ KeepsHost s t ∧ KeepsMedia s t ∧ KeepsService s t ∧ KeepsFaults s t

/-- RAIL_DISCHARGED (R293). -/
abbrev railDischarged_off (rail k : Nat) (s : State) : Prop :=
  Bound s → (s.pw.seq = .down k ∧ 1 ≤ k ∧ k ≤ 9 ∧ stepRail k = rail ∧ s.pw.making.cause = 1 ∧ s.fc.fatal = false ∧ RailsOff 0 k s) → Completes (.railDischarged rail) s fun t =>
    t.md.mode = .off ∧ t.pw.seq = .idle ∧ (t.pw.stored.cause, t.pw.stored.rail, t.pw.stored.dir, t.pw.stored.step) = (1, s.pw.making.rail, s.pw.making.dir, s.pw.making.step) ∧ t.pw.runningMark = false ∧ t.pw.needPerst = false ∧ t.pw.offSince = some s.now
      ∧ t.pw.offWait = 100000000 ∧ t.ctxs = [] ∧ t.sqs = [] ∧ t.cqs = [] ∧ t.wc.pairs = [] ∧ t.hu.pack = s.hu.pack ∧ t.hu.records = s.hu.records

/-- RAIL_DISCHARGED (R293). -/
abbrev railDischarged_other (rail : Nat) (s : State) : Prop :=
  Bound s → (s.fallingRail rail = none) → Completes (.railDischarged rail) s fun t =>
    NoEffect s t

/-- DISCHARGE_TIMEOUT (R293). -/
abbrev dischargeTimeout (rail k j : Nat) (s : State) : Prop :=
  (s.pw.seq = .down k ∧ 1 ≤ j ∧ j < k ∧ k ≤ 9 ∧ stepRail k = rail ∧ (s.rail (stepRail j)).enabled = true ∧ RailsOff j k s) → Effect (.dischargeTimeout rail) s (s.pw.stepSince + s.dischWait ≤ s.now) fun t =>
    t.pw.seq = .down j ∧ t.pw.stepSince = s.now ∧ t.rail (stepRail j) = Rail.off ∧ Raises 157 s t ∧ t.pw.making = s.pw.making ∧ t.md = s.md ∧ t.hu = s.hu ∧ KeepsHost s t ∧ KeepsMedia s t ∧ KeepsService s t ∧ KeepsFaults s t

/-- DISCHARGE_TIMEOUT (R293). -/
abbrev dischargeTimeout_off (rail k : Nat) (s : State) : Prop :=
  (s.pw.seq = .down k ∧ 1 ≤ k ∧ k ≤ 9 ∧ stepRail k = rail ∧ s.pw.making.cause = 1 ∧ s.fc.fatal = false ∧ RailsOff 0 k s) → Effect (.dischargeTimeout rail) s (s.pw.stepSince + s.dischWait ≤ s.now) fun t =>
    t.md.mode = .off ∧ t.pw.seq = .idle ∧ t.pw.stored.cause = 1 ∧ t.pw.runningMark = false ∧ t.pw.offSince = some s.now ∧ t.ctxs = [] ∧ t.sqs = [] ∧ t.hu.pack = s.hu.pack ∧ t.hu.records = s.hu.records

/-- DISCHARGE_TIMEOUT (R293). -/
abbrev dischargeTimeout_other (rail : Nat) (s : State) : Prop :=
  Bound s → (s.fallingRail rail = none) → Completes (.dischargeTimeout rail) s fun t =>
    NoEffect s t

/-- MODE_TARGET_RUN (R305). -/
abbrev modeTargetRun (s : State) : Prop :=
  (s.md.mode = .service ∧ s.inTransition = false ∧ s.wc.pairs = [] ∧ s.flag PSC_STATUS_HOLD_NOCFG = false ∧ s.flag PSC_STATUS_HOLD_THERM = false ∧ s.flag PSC_CTRL_HOLD_REQ = false) → Effect .modeTargetRun s (s.powered = true) fun t =>
    t.md.mode = .run ∧ t.get GLB_MODE_STATUS_PREV_MODE = 8 ∧ t.get GLB_MODE_STATUS_MODE = 4 ∧ t.md.fetchStop = false
      ∧ t.mg.staged = [] ∧ t.xl.map = s.xl.map ∧ t.get PSC_EVT_REQ_REJ = s.get PSC_EVT_REQ_REJ

/-- MODE_TARGET_RUN (R305). -/
abbrev modeTargetRun_hold (s : State) : Prop :=
  (s.md.mode = .service ∧ s.inTransition = false ∧ s.wc.pairs = [] ∧ (s.flag PSC_STATUS_HOLD_NOCFG || s.flag PSC_STATUS_HOLD_THERM || s.flag PSC_CTRL_HOLD_REQ) = true) → Effect .modeTargetRun s (s.powered = true) fun t =>
    t.md.mode = .service ∧ t.md.holdEntry = some .service ∧ t.md.fetchStop = true ∧ 3 ∈ t.wc.flushBy ∧ t.get PSC_EVT_REQ_REJ = s.get PSC_EVT_REQ_REJ ∧ t.wc.pairs = s.wc.pairs ∧ t.xl.map = s.xl.map

/-- MODE_TARGET_RUN (R305). -/
abbrev modeTargetRun_rejected (s : State) : Prop :=
  (s.md.mode ≠ .service ∨ s.inTransition = true) → Effect .modeTargetRun s (s.powered = true) fun t =>
    t.flag PSC_EVT_REQ_REJ = true ∧ (s.flag PSC_EVT_REQ_REJ = false → Raises 287 s t) ∧ KeepsAll s t

/-- MODE_TARGET_SERVICE (R305). -/
abbrev modeTargetService (s : State) : Prop :=
  (s.md.mode = .run ∧ s.inTransition = false) → Effect .modeTargetService s (s.powered = true) fun t =>
    t.md = { s.md with mode := .service } ∧ t.get GLB_MODE_STATUS_PREV_MODE = 4 ∧ t.get GLB_MODE_STATUS_MODE = 8 ∧ (s.ms.logQ.length < 64 → OnlyRegs [GLB_MODE_STATUS_PREV_MODE.key 0 0, GLB_MODE_STATUS_MODE.key 0 0] s t)
      ∧ t.hu = s.hu ∧ t.pw = s.pw ∧ KeepsHost s t ∧ KeepsMedia s t ∧ KeepsService s t

/-- MODE_TARGET_SERVICE (R305). -/
abbrev modeTargetService_rejected (s : State) : Prop :=
  ((s.md.mode ≠ .run ∧ s.md.mode ≠ .hold) ∨ s.inTransition = true) → Effect .modeTargetService s (s.powered = true) fun t =>
    t.flag PSC_EVT_REQ_REJ = true ∧ (s.flag PSC_EVT_REQ_REJ = false → Raises 287 s t) ∧ KeepsAll s t

/-- MODE_TARGET_SERVICE (R305). -/
abbrev modeTargetService_hold (s : State) : Prop :=
  (s.md.mode = .hold ∧ s.inTransition = false ∧ s.wc.pairs = []) → Effect .modeTargetService s (s.powered = true) fun t =>
    t.md.mode = .service ∧ t.md.fetchStop = false ∧ t.get GLB_MODE_STATUS_PREV_MODE = 3 ∧ t.get GLB_MODE_STATUS_MODE = 8 ∧ t.xl.map = s.xl.map

/-- HOLD_REQUEST (R310). -/
abbrev holdRequest (s : State) : Prop :=
  ((s.md.mode = .run ∨ s.md.mode = .service) ∧ s.inTransition = false ∧ s.wc.pairs = []) → Effect .holdRequest s (s.powered = true) fun t =>
    t.get PSC_CTRL_HOLD_REQ = 1 ∧ t.get PSC_STATUS_HOLD_HOST = 1 ∧ t.md.holdEntry = some s.md.mode ∧ t.md.fetchStop = true ∧ t.md.holdWait = false ∧ t.md.holdWrite = false ∧ 3 ∈ t.wc.flushBy ∧ t.fw.again = true ∧ t.md.mode = s.md.mode
      ∧ t.hu = s.hu ∧ t.pw = s.pw ∧ KeepsHost s t ∧ t.zn = s.zn ∧ t.fl = s.fl ∧ t.xl = s.xl ∧ KeepsFaults s t

/-- HOLD_REQUEST (R310). -/
abbrev holdRequest_waits (s : State) : Prop :=
  ((s.md.mode = .rest ∨ s.md.mode = .detour) ∨ ((s.md.mode = .run ∨ s.md.mode = .service) ∧ s.inTransition = true)) → Effect .holdRequest s (s.powered = true) fun t =>
    t.get PSC_CTRL_HOLD_REQ = 1 ∧ t.get PSC_STATUS_HOLD_HOST = 1 ∧ t.md = { s.md with holdWrite := true } ∧ t.fw.again = true ∧ t.hu = s.hu ∧ t.pw = s.pw ∧ KeepsHost s t ∧ KeepsMedia s t ∧ KeepsFaults s t

/-- HOLD_RELEASE (R309). -/
abbrev holdRelease (s : State) : Prop :=
  Effect .holdRelease s (s.powered = true) fun t =>
    t.get PSC_CTRL_HOLD_REQ = 0 ∧ t.get PSC_STATUS_HOLD_HOST = 0 ∧ t.md.holdWait = false ∧ t.md.holdWrite = false ∧ t.fw.again = true
      ∧ (s.md.mode = .hold → s.inTransition = false → s.wc.pairs = [] → s.flag PSC_STATUS_HOLD_NOCFG = false → s.flag PSC_STATUS_HOLD_THERM = false → t.md.mode = .run)
      ∧ (s.md.mode ≠ .hold → t.md.mode = s.md.mode ∧ t.hu = s.hu ∧ t.pw = s.pw ∧ KeepsHost s t ∧ KeepsMedia s t ∧ KeepsFaults s t)

/-- THERM_ACK (R410). -/
abbrev thermAck (r : ThermRec) (s : State) : Prop :=
  (s.ms.therm = some r ∧ r.acked = false ∧ s.md.mode ≠ .hold) → Effect .thermAck s (s.powered = true) fun t =>
    (s.coolEnough = true → t.ms.therm = some { r with acked := true } ∧ t.get PSC_STATUS_HOLD_THERM = 0) ∧ (s.coolEnough = false → t.ms.therm = some r ∧ t.get THM_STATUS_ACK_REF = 1 ∧ Raises 202 s t)
      ∧ t.md = s.md ∧ t.hu = s.hu ∧ t.pw = s.pw ∧ KeepsHost s t ∧ KeepsMedia s t ∧ KeepsService s t ∧ t.th = s.th

/-- THERM_ACK (R410). -/
abbrev thermAck_none (s : State) : Prop :=
  (∀ r ∈ s.ms.therm.toList, r.acked = true) → Effect .thermAck s (s.powered = true) fun t =>
    NoEffect s t

/-- THERM_ACK (R410). -/
abbrev thermAck_hold (r : ThermRec) (s : State) : Prop :=
  (s.ms.therm = some r ∧ r.acked = false ∧ s.coolEnough = true ∧ s.md.mode = .hold ∧ s.inTransition = false ∧ s.wc.pairs = [] ∧ s.flag PSC_STATUS_HOLD_NOCFG = false ∧ s.flag PSC_CTRL_HOLD_REQ = false) → Effect .thermAck s (s.powered = true) fun t =>
    t.ms.therm = some { r with acked := true } ∧ t.get PSC_STATUS_HOLD_THERM = 0 ∧ t.md.mode = .run ∧ t.md.fetchStop = false ∧ t.get GLB_MODE_STATUS_PREV_MODE = 3

/-- REST_IDLE_EXPIRY (R311). -/
abbrev restIdleExpiry (l12 idleMs noSref : Nat) (s : State) : Prop :=
  (s.xl.sinceCommit = 0 ∧ ∀ d ∈ s.liveChans, bit noSref d = false) → Effect (.restIdleExpiry l12 idleMs noSref) s (s.restOk = true ∧ (∀ p ∈ s.portList, s.flag QEN_LINK_UP p = true → bit l12 p = true) ∧ max 1 (s.get PSC_REST_CFG_IDLE_MS) ≤ idleMs) fun t =>
    t.md.restStep = some 5 ∧ t.get PSC_PAD_HELD = 7 ∧ t.get PSC_WAKE_CAUSE_CAUSE = 0 ∧ t.rail 1 = Rail.off ∧ t.rail 3 = Rail.off ∧ t.rail 4 = Rail.off ∧ t.md.l12 = s.portList.filter (fun p => s.flag QEN_LINK_UP p) ∧ t.md.mode = .run ∧ (∀ d ∈ s.liveChans, t.get DMC_CH_STAT_SREF d = 1) ∧ t.md.padPend = []
      ∧ t.hu = s.hu ∧ KeepsHost s t ∧ KeepsMedia s t

/-- REST_IDLE_EXPIRY (R311). -/
abbrev restIdleExpiry_commits (l12 idleMs noSref : Nat) (s : State) : Prop :=
  (0 < s.xl.sinceCommit) → Effect (.restIdleExpiry l12 idleMs noSref) s (s.restOk = true ∧ (∀ p ∈ s.portList, s.flag QEN_LINK_UP p = true → bit l12 p = true) ∧ max 1 (s.get PSC_REST_CFG_IDLE_MS) ≤ idleMs) fun t =>
    (s.xl.run = none → t.xl.run.map (·.num) = some (s.xl.last.num + 1) ∧ t.get XLT_STATUS_CKPT_BUSY = 1) ∧ (s.xl.run ≠ none → t.xl = s.xl) ∧ t.md = s.md ∧ t.pw = s.pw ∧ t.hu = s.hu ∧ KeepsHost s t ∧ t.zn = s.zn ∧ t.wc = s.wc ∧ KeepsFaults s t

/-- REST_IDLE_EXPIRY (R311). -/
abbrev restIdleExpiry_noSref (l12 idleMs noSref d : Nat) (s : State) : Prop :=
  (s.xl.sinceCommit = 0 ∧ d ∈ s.liveChans ∧ bit noSref d = true) → Effect (.restIdleExpiry l12 idleMs noSref) s (s.restOk = true ∧ (∀ p ∈ s.portList, s.flag QEN_LINK_UP p = true → bit l12 p = true) ∧ max 1 (s.get PSC_REST_CFG_IDLE_MS) ≤ idleMs) fun t =>
    t.md.restStep = some 5 ∧ t.get DMC_CH_STAT_SREF d = 0 ∧ t.flag DMC_CH_STAT_LOST d = true ∧ t.get PSC_PAD_HELD = 7 ∧ t.md.mode = .run

/-- REST_ENTRY_COMPLETE (R312). -/
abbrev restEntryComplete (s : State) : Prop :=
  Effect .restEntryComplete s (s.md.restStep ≠ none ∧ s.md.stopped = false) fun t =>
    t.md.mode = .rest ∧ t.md.restStep = none ∧ t.md.restSince = s.now ∧ Counts PSC_REST_CNT 0 1 s t ∧ (s.md.wakeNext = false → t.rail 1 = Rail.off ∧ t.md.wake = s.md.wake) ∧ (s.md.wakeNext = true → (t.rail 1).enabled = true ∧ t.md.wake = some 3 ∧ t.md.wakeNext = false)
      ∧ t.hu = s.hu ∧ KeepsHost s t ∧ KeepsMedia s t

/-- CLKREQ_ASSERT (R314). -/
abbrev clkreqAssert (port : Nat) (s : State) : Prop :=
  (s.restIdle = true ∧ s.md.stopped = false) → Effect (.clkreqAssert port) s (port ∈ s.md.l12 ∧ (s.md.mode = .rest ∨ s.md.restStep ≠ none)) fun t =>
    port ∉ t.md.l12 ∧ t.md.wake = some 3 ∧ bit (t.get PSC_WAKE_CAUSE_CAUSE) 0 = true ∧ (t.rail 1).waiting = true ∧ Counts PSC_WAKE_CNT 0 1 s t ∧ t.md.mode = .rest ∧ t.hu = s.hu ∧ KeepsHost s t ∧ KeepsMedia s t

/-- CAUSEWAY_SIGNAL_DETECT (R314). -/
abbrev causewaySignalDetect (port : Nat) (s : State) : Prop :=
  (s.restIdle = true ∧ s.md.stopped = false) → Effect (.causewaySignalDetect port) s (port < 4 ∧ s.cwState port = cwDown ∧ s.flag CWP_PCFG_WAKE_EN port = true) fun t =>
    t.md.wake = some 3 ∧ bit (t.get PSC_WAKE_CAUSE_CAUSE) (2 + port) = true ∧ (t.rail 1).waiting = true ∧ Counts PSC_WAKE_CNT 0 1 s t ∧ t.md.mode = .rest ∧ t.hu = s.hu ∧ KeepsHost s t ∧ KeepsMedia s t

/-- SMBUS_ADDRESS_MATCH (R314). -/
abbrev smbusAddressMatch (s : State) : Prop :=
  (s.restIdle = true ∧ s.md.stopped = false) → Effect .smbusAddressMatch s (s.flag MGI_CFG_SMB_EN = true) fun t =>
    t.md.wake = some 3 ∧ bit (t.get PSC_WAKE_CAUSE_CAUSE) 6 = true ∧ (t.rail 1).waiting = true ∧ Counts PSC_WAKE_CNT 0 1 s t ∧ t.md.mode = .rest ∧ t.hu = s.hu ∧ KeepsHost s t ∧ KeepsMedia s t

/-- WAKE_STEP_DONE (R315). -/
abbrev wakeStepDone (us : Nat) (powerGood : Bool) (k : Nat) (s : State) : Prop :=
  (s.md.wake = some k ∧ s.md.mode = .rest ∧ 3 ≤ k ∧ k ≤ 7 ∧ (k ≤ 4 → powerGood = true) ∧ s.md.padPend = []) → Effect (.wakeStepDone us powerGood) s (s.inModes [.rest, .detour] = true ∧ wakeDelay k ≤ us ∧ (powerGood = true ∨ s.pgWait ≤ 1000 * (us - wakeDelay k))) fun t =>
    t.md.wake = some (k + 1) ∧ t.get CRU_WAKE_US k = us % 65536 ∧ t.md.mode = .rest ∧ (k = 3 → (t.rail 1).armed = true) ∧ (k = 7 → (t.rail 3).waiting = true ∧ (t.rail 4).waiting = true) ∧ t.get PSC_PAD_HELD = s.get PSC_PAD_HELD
      ∧ t.hu = s.hu ∧ KeepsHost s t ∧ KeepsMedia s t ∧ KeepsFaults s t

/-- WAKE_STEP_DONE (R315). -/
abbrev wakeStepDone_noPower (us k : Nat) (s : State) : Prop :=
  (s.md.wake = some k ∧ s.md.mode = .rest ∧ (k = 3 ∨ k = 4)) → Effect (.wakeStepDone us false) s (s.inModes [.rest, .detour] = true ∧ wakeDelay k ≤ us ∧ s.pgWait ≤ 1000 * (us - wakeDelay k)) fun t =>
    t.md.mode = .off ∧ (t.pw.stored.cause, t.pw.stored.rail, t.pw.stored.dir) = (4, k - 2, 3) ∧ t.pw.rsto = (true, true)

/-- WAKE_STEP_DONE (R315). -/
abbrev wakeStepDone_noPhy (us : Nat) (s : State) : Prop :=
  (s.md.wake = some 8 ∧ s.md.mode = .rest ∧ s.get PSC_PAD_HELD ≠ 0 ∧ Resting s) → Effect (.wakeStepDone us false) s (s.inModes [.rest, .detour] = true ∧ wakeDelay 8 ≤ us ∧ s.pgWait ≤ 1000 * (us - wakeDelay 8)) fun t =>
    t.md.mode = .rest ∧ t.md.wake = none ∧ t.pw.phyFailed = true ∧ t.rail 3 = Rail.off ∧ t.rail 4 = Rail.off ∧ Raises 156 s t

/-- WAKE_STEP_DONE (R315). -/
abbrev wakeStepDone_detour (us : Nat) (powerGood : Bool) (s : State) : Prop :=
  (s.md.wake = some 7 ∧ s.md.mode = .detour) → Effect (.wakeStepDone us powerGood) s (s.inModes [.rest, .detour] = true ∧ wakeDelay 7 ≤ us ∧ (powerGood = true ∨ s.pgWait ≤ 1000 * (us - wakeDelay 7))) fun t =>
    t.md.mode = .detour ∧ t.md.wake = none ∧ bit (t.get PSC_PAD_HELD) 0 = false ∧ bit (t.get PSC_PAD_HELD) 1 = false ∧ (∀ d < 4, t.get DMC_CH_STAT_SREF d = 0) ∧ t.hu = s.hu ∧ KeepsHost s t ∧ KeepsMedia s t

/-- WAKE_STEP_DONE (R315). -/
abbrev wakeStepDone_last (us : Nat) (s : State) : Prop :=
  (s.md.wake = some 8 ∧ s.md.mode = .rest ∧ s.get PSC_PAD_HELD = 0 ∧ (s.rail 1).enabled = true ∧ s.md.offHeld = false ∧ s.md.holdWrite = false ∧ s.md.perstInRest = [] ∧ s.wc.pairs = []) → Effect (.wakeStepDone us true) s (s.inModes [.rest, .detour] = true ∧ wakeDelay 8 ≤ us) fun t =>
    t.md.mode = .run ∧ t.md.wake = none ∧ (t.rail 3).armed = true ∧ (t.rail 4).armed = true ∧ t.get CRU_WAKE_US 8 = us % 65536 ∧ Counts PSC_REST_MS 0 ((s.now - s.md.restSince) / 1000000) s t ∧ t.zn.zones = s.zn.zones ∧ t.xl.map = s.xl.map

/-- PAD_RELEASE (R316). -/
abbrev padRelease (groups g : Nat) (s : State) : Prop :=
  (s.md.wake = none ∧ s.md.mode ≠ .rest ∧ g < 3) → Effect (.padRelease groups) s (s.powered = true ∧ s.get PSC_PAD_HELD ≠ 0) fun t =>
    (bit groups g = true → bit (t.get PSC_PAD_HELD) g = false) ∧ (bit groups g = false → bit (t.get PSC_PAD_HELD) g = bit (s.get PSC_PAD_HELD) g) ∧ t.md = s.md ∧ t.hu = s.hu ∧ t.pw = s.pw ∧ KeepsHost s t ∧ KeepsMedia s t ∧ KeepsService s t ∧ KeepsFaults s t

/-- PAD_RELEASE (R316). -/
abbrev padRelease_wait (groups k : Nat) (s : State) : Prop :=
  (s.md.wake = some k ∧ k ≤ 6 ∧ s.get PSC_PAD_HELD = 7) → Effect (.padRelease groups) s (s.powered = true ∧ s.get PSC_PAD_HELD ≠ 0) fun t =>
    (bit groups 0 = true → 0 ∈ t.md.padPend ∧ bit (t.get PSC_PAD_HELD) 0 = true) ∧ (bit groups 1 = true → 1 ∈ t.md.padPend ∧ bit (t.get PSC_PAD_HELD) 1 = true) ∧ (bit groups 2 = true → bit (t.get PSC_PAD_HELD) 2 = false) ∧ t.md.mode = s.md.mode ∧ t.md.wake = some k
      ∧ t.hu = s.hu ∧ t.pw = s.pw ∧ KeepsHost s t ∧ KeepsMedia s t ∧ KeepsService s t ∧ KeepsFaults s t

/-- PAD_RELEASE_TIMEOUT (R316). -/
abbrev padReleaseTimeout (s : State) : Prop :=
  Effect .padReleaseTimeout s (s.inModes [.rest] = true ∧ s.md.wake = none ∧ (s.rail 1).enabled = true ∧ s.get PSC_PAD_HELD ≠ 0 ∧ s.md.wakeEnd + 1000000 * (if s.get PSC_REST_CFG_REL_MS = 0 then 10 else s.get PSC_REST_CFG_REL_MS) ≤ s.now) fun t =>
    t.flag PSC_EVT_WAKE_LATE = true ∧ (s.flag PSC_EVT_WAKE_LATE = false → Raises 287 s t) ∧ t.get PSC_PAD_HELD = s.get PSC_PAD_HELD ∧ KeepsAll s t

/-- WATCH_ENTRY (R305). -/
abbrev watchEntry (s : State) : Prop :=
  Effect .watchEntry s (s.pw.ao = true ∧ s.md.mode = .off ∧ s.pw.seq = .idle ∧ s.flag PSC_CTRL_WATCH_EN = true ∧ s.hu.pack ≠ none ∧ s.pw.onLatched = false ∧ (∀ k ∈ s.pw.offSince.toList, k + 100000000 ≤ s.now)) fun t =>
    t.md = { s.md with mode := .watch } ∧ t.get HUC_STATUS_GSTATE = gsHibernate ∧ t.hu = { s.hu with hibSince := s.now, hibWake := false } ∧ t.get GLB_MODE_STATUS_MODE = 1 ∧ t.get GLB_MODE_STATUS_PREV_MODE = 0
      ∧ OnlyRegs [GLB_MODE_STATUS_MODE.key 0 0, GLB_MODE_STATUS_PREV_MODE.key 0 0, HUC_STATUS_GSTATE.key 0 0] s t ∧ t.pw = s.pw ∧ KeepsHost s t ∧ KeepsMedia s t ∧ KeepsService s t ∧ KeepsFaults s t

/-- WATCH_ROUND (R318). -/
abbrev watchRound (inputMv packMv : Nat) (temp : Int) (present : Bool) (s : State) : Prop :=
  (present = true) → Effect (.watchRound inputMv packMv temp present) s (s.pw.ao = true ∧ s.md.mode = .watch ∧ s.roundDue = true) fun t =>
    Counts PSC_WATCH_ROUNDS 0 1 s t ∧ t.md.watch.map (fun w => (w.lastV, w.tMin, w.tMax)) = some (packMv, (match s.md.watch with | some w => min w.tMin temp | none => temp), (match s.md.watch with | some w => max w.tMax temp | none => temp))
      ∧ t.md.mode = .watch ∧ t.md.roundValid = decide (s.validDv * 100 ≤ inputMv) ∧ t.md.watch.map (·.flags) = some ((match s.md.watch with | some w => w.flags | none => 0) ||| (bNat (decide (packMv < s.get PSC_WATCH_CFG_VLOW * 10)) + 2 * bNat (decide ((s.get PSC_WATCH_CFG_THI : Int) < temp)))) ∧ t.md.watch.map (·.lastT) = some s.now ∧ t.hu = { s.hu with temp := temp } ∧ t.pw = s.pw ∧ KeepsHost s t ∧ KeepsMedia s t ∧ KeepsService s t

/-- WATCH_ROUND (R318). -/
abbrev watchRound_absent (inputMv packMv : Nat) (temp : Int) (present : Bool) (s : State) : Prop :=
  (present = false) → Effect (.watchRound inputMv packMv temp present) s (s.pw.ao = true ∧ s.md.mode = .watch ∧ s.roundDue = true) fun t =>
    Counts PSC_WATCH_ROUNDS 0 1 s t ∧ t.md.mode = .off ∧ t.hu.pack = none ∧ t.get HUC_STATUS_GSTATE = gsAbsent ∧ t.md.hkc = false ∧ t.md.watch = s.md.watch ∧ t.pw = s.pw ∧ KeepsHost s t ∧ KeepsMedia s t ∧ KeepsService s t

/-- WATCH_INPUT_SAMPLE (R318). -/
abbrev watchInputSample (mv : List Nat) (s : State) : Prop :=
  Effect (.watchInputSample mv) s (s.pw.ao = true ∧ s.md.mode = .watch ∧ s.md.roundValid = true ∧ mv.length = 10) fun t =>
    (mv.all (fun v => decide (s.validDv * 100 ≤ v)) = true → t.hu.lost = false ∧ t.hu.validSince = s.hu.validSince.or (some s.now) ∧ t.get HUC_STATUS_INPUT_VALID = 1 ∧ (s.pw.seq = .idle → s.pw.needPerst = false → t.pw.onLatched = true))
      ∧ (mv.all (fun v => decide (s.validDv * 100 ≤ v)) = false → t.hu = s.hu ∧ t.pw = s.pw ∧ OnlyRegs [] s t) ∧ t.md = { s.md with roundValid := false } ∧ KeepsHost s t ∧ KeepsMedia s t ∧ KeepsService s t ∧ KeepsFaults s t

/-- WATCH_GAUGE_WAKE (R320). -/
abbrev watchGaugeWake (byCurrent : Bool) (s : State) : Prop :=
  Effect (.watchGaugeWake byCurrent) s (s.pw.ao = true ∧ s.md.mode = .watch) fun t =>
    t.md = { s.md with hkc := true } ∧ t.hu = { s.hu with hibWake := s.hu.hibWake || byCurrent } ∧ t.get HUC_STATUS_GSTATE = (if s.hu.restMade = true then gsTrack else gsFirst) ∧ t.pw = s.pw ∧ OnlyRegs [HUC_STATUS_GSTATE.key 0 0] s t ∧ KeepsHost s t ∧ KeepsMedia s t ∧ KeepsService s t ∧ KeepsFaults s t

/-- WATCH_GAUGE_SLEEP (R320). -/
abbrev watchGaugeSleep (s : State) : Prop :=
  Effect .watchGaugeSleep s (s.md.mode = .watch ∧ s.md.hkc = true) fun t =>
    t.md = { s.md with hkc := false } ∧ t.hu = s.hu ∧ t.get HUC_STATUS_GSTATE = gsHibernate ∧ t.pw = s.pw ∧ OnlyRegs [HUC_STATUS_GSTATE.key 0 0] s t ∧ KeepsHost s t ∧ KeepsMedia s t ∧ KeepsService s t ∧ KeepsFaults s t

/-- DRAM_REQUEST (R332). -/
abbrev dramRequest (ch : Nat) (req : DramReq) (s : State) : Prop :=
  ((s.dchan ch).waiting = [] ∧ (s.dchan ch).reads = [] ∧ (s.dchan ch).writes = [] ∧ (s.dchan ch).issued = [] ∧ (s.dchan ch).fences = [] ∧ (s.dchan ch).answered = [] ∧ (s.dchan ch).retraining = false ∧ req.write = false ∧ req.len = 64) → Effect (.dramRequest ch req) s (s.powered = true ∧ ch < 4 ∧ s.chLive ch = true ∧ s.flag DMC_CH_STAT_SREF ch = false) fun t =>
    (t.dchan ch).nextId = (s.dchan ch).nextId + 1 ∧ (t.dchan ch).issued = [{ id := (s.dchan ch).nextId, req := req, at_ := s.now, use := none }] ∧ (t.dchan ch).waiting = [] ∧ (t.dchan ch).reads = [] ∧ (t.dchan ch).rowOpen.has (bankOf (dramRow (s.pop ch) req.addr)) = true
      ∧ OnlyChan ch s t ∧ KeepsHost s t ∧ KeepsMedia s t ∧ KeepsPower s t

/-- DRAM_REQUEST (R332). -/
abbrev dramRequest_write (ch : Nat) (req : DramReq) (s : State) : Prop :=
  ((s.dchan ch).waiting = [] ∧ (s.dchan ch).reads = [] ∧ (s.dchan ch).writes = [] ∧ (s.dchan ch).issued = [] ∧ (s.dchan ch).fences = [] ∧ (s.dchan ch).answered = [] ∧ (s.dchan ch).retraining = false ∧ req.write = true ∧ req.len = 64 ∧ 3 ≤ s.get DMC_SCHED_CFG_WR_HIGH ∧ 0 < s.get DMC_SCHED_CFG_WR_AGE) → Effect (.dramRequest ch req) s (s.powered = true ∧ ch < 4 ∧ s.chLive ch = true ∧ s.flag DMC_CH_STAT_SREF ch = false) fun t =>
    (t.dchan ch).nextId = (s.dchan ch).nextId + 1 ∧ (t.dchan ch).writes = [{ id := (s.dchan ch).nextId, req := req, at_ := s.now, use := none }] ∧ (t.dchan ch).issued = [] ∧ (t.dchan ch).waiting = [] ∧ OnlyRegs [] s t
      ∧ OnlyChan ch s t ∧ KeepsHost s t ∧ KeepsMedia s t ∧ KeepsPower s t ∧ KeepsFaults s t

/-- DRAM_REQUEST (R332). -/
abbrev dramRequest_any (ch : Nat) (req : DramReq) (s : State) : Prop :=
  Effect (.dramRequest ch req) s (s.powered = true ∧ ch < 4 ∧ s.chLive ch = true ∧ s.flag DMC_CH_STAT_SREF ch = false) fun t =>
    (t.dchan ch).nextId = (s.dchan ch).nextId + 1 ∧ (t.dchan ch).fences.length ≤ (s.dchan ch).fences.length ∧ OtherChans ch s t ∧ t.xl = s.xl ∧ KeepsPower s t

/-- DRAM_READ_COMPLETE (R330). -/
abbrev dramReadComplete (ch : Nat) (outcome : DramOutcome) (q : DReq) (s : State) : Prop :=
  ((s.dchan ch).issued.find? (fun x => decide (x.req.addr ≤ outcome.addr) && decide (outcome.addr < x.req.addr + max 1 x.req.len)) = some q ∧ outcome.symbols = 0 ∧ outcome.addr / 64 * 64 ∉ (s.dchan ch).poison ∧ (s.dchan ch).reads = [] ∧ (s.dchan ch).writes = [] ∧ q.use = none ∧ q.req.write = false ∧ (match q.req.user with | .pair _ _ => false | _ => true) = true ∧ (∀ d < 4, (s.dchan d).waiting = [] ∧ (s.dchan d).answered = [])) → Effect (.dramReadComplete ch outcome) s (s.powered = true ∧ ch < 4 ∧ s.chLive ch = true) fun t =>
    (t.dchan ch).issued = (s.dchan ch).issued.filter (fun x => x.id != q.id) ∧ (t.dchan ch).fences.length ≤ (s.dchan ch).fences.length ∧ OnlyRegs [] s t ∧ OnlyChan ch s t ∧ KeepsHost s t ∧ KeepsMedia s t ∧ KeepsPower s t ∧ KeepsFaults s t

/-- DRAM_READ_COMPLETE (R330). -/
abbrev dramReadComplete_corrected (ch : Nat) (outcome : DramOutcome) (q : DReq) (s : State) : Prop :=
  ((s.dchan ch).issued.find? (fun x => decide (x.req.addr ≤ outcome.addr) && decide (outcome.addr < x.req.addr + max 1 x.req.len)) = some q ∧ 1 ≤ outcome.symbols ∧ outcome.symbols ≤ s.eccT ∧ outcome.addr / 64 * 64 ∉ (s.dchan ch).poison ∧ (s.dchan ch).reads = [] ∧ (s.dchan ch).writes = [] ∧ q.use = none ∧ q.req.write = false ∧ (match q.req.user with | .pair _ _ => false | _ => true) = true ∧ (∀ d < 4, (s.dchan d).waiting = [] ∧ (s.dchan d).answered = []) ∧ (s.dchan ch).ceRows = []) → Effect (.dramReadComplete ch outcome) s (s.powered = true ∧ ch < 4 ∧ s.chLive ch = true) fun t =>
    Counts DMC_CE_CNT ch 1 s t ∧ (∀ x ∈ (t.dchan ch).issued, x.id ≠ q.id ∨ x.req.write = true) ∧ (t.dchan ch).nextId = (s.dchan ch).nextId + 1 ∧ OnlyChan ch s t ∧ KeepsHost s t ∧ KeepsMedia s t ∧ KeepsPower s t

/-- DRAM_READ_COMPLETE (R330). -/
abbrev dramReadComplete_uncorrectable (ch : Nat) (outcome : DramOutcome) (q : DReq) (s : State) : Prop :=
  ((s.dchan ch).issued.find? (fun x => decide (x.req.addr ≤ outcome.addr) && decide (outcome.addr < x.req.addr + max 1 x.req.len)) = some q ∧ (s.eccT < outcome.symbols ∨ outcome.addr / 64 * 64 ∈ (s.dchan ch).poison) ∧ (s.dchan ch).ueTimes = [] ∧ s.get DMC_CTRL_UE_LOSS ≠ 0) → Effect (.dramReadComplete ch outcome) s (s.powered = true ∧ ch < 4 ∧ s.chLive ch = true) fun t =>
    Counts DMC_UE_CNT ch 1 s t ∧ t.flag DMC_EVT_UE ch = true ∧ Raises (80 + 4 * ch) s t ∧ t.get DMC_LAST_ERR ch = outcome.addr / 64 % 2 ^ DMC_LAST_ERR.width ∧ (t.dchan ch).ueTimes = [s.now]
      ∧ (q.req.write = true → outcome.addr / 64 * 64 ∈ (t.dchan ch).poison) ∧ (q.req.write = false → (match q.req.user with | .dma m none => decide (m < 256 → t.dmaHalted m = true) | .link l => t.pool.broken.contains l | _ => true) = true)
      ∧ t.md = s.md ∧ t.pw = s.pw ∧ t.hu = s.hu

/-- DRAM_READ_COMPLETE (R330). -/
abbrev dramReadComplete_loses (ch : Nat) (outcome : DramOutcome) (q : DReq) (s : State) : Prop :=
  ((s.dchan ch).issued.find? (fun x => decide (x.req.addr ≤ outcome.addr) && decide (outcome.addr < x.req.addr + max 1 x.req.len)) = some q ∧ (s.eccT < outcome.symbols ∨ outcome.addr / 64 * 64 ∈ (s.dchan ch).poison) ∧ (s.dchan ch).ueTimes = [s.now] ∧ s.get DMC_CTRL_UE_LOSS = 1) → Effect (.dramReadComplete ch outcome) s (s.powered = true ∧ ch < 4 ∧ s.chLive ch = true) fun t =>
    t.flag DMC_CH_STAT_LOST ch = true ∧ t.flag DMC_EVT_LOST ch = true ∧ Raises (83 + 4 * ch) s t ∧ t.md = s.md ∧ t.pw = s.pw

/-- DRAM_READ_COMPLETE (R330). -/
abbrev dramReadComplete_none (ch : Nat) (outcome : DramOutcome) (s : State) : Prop :=
  Bound s → ((s.dchan ch).issued.find? (fun x => decide (x.req.addr ≤ outcome.addr) && decide (outcome.addr < x.req.addr + max 1 x.req.len)) = none) → Completes (.dramReadComplete ch outcome) s fun t =>
    NoEffect s t

/-- DRAM_FENCE (R334). -/
abbrev dramFence (ch source : Nat) (s : State) : Prop :=
  ((s.dchan ch).fences = []) → Effect (.dramFence ch source) s (s.powered = true ∧ ch < 4 ∧ s.chLive ch = true) fun t =>
    (((s.dchan ch).waiting ++ (s.dchan ch).reads ++ (s.dchan ch).issued).filter (fun q => q.req.source == source) = [] → t.out = .fence ch source :: s.out ∧ (t.dchan ch).fences = [])
      ∧ (((s.dchan ch).waiting ++ (s.dchan ch).reads ++ (s.dchan ch).issued).filter (fun q => q.req.source == source) ≠ [] → t.out = s.out ∧ (t.dchan ch).fences = [(source, (((s.dchan ch).waiting ++ (s.dchan ch).reads ++ (s.dchan ch).issued).filter (fun q => q.req.source == source)).map (·.id))])
      ∧ OnlyRegs [] s t ∧ OnlyChan ch s t ∧ KeepsHost s t ∧ KeepsMedia s t ∧ KeepsPower s t ∧ KeepsFaults s t

/-- DRAM_REFRESH (R336). -/
abbrev dramRefresh (ch bank : Nat) (s : State) : Prop :=
  ((s.dchan ch).writes = []) → Effect (.dramRefresh ch bank) s (s.powered = true ∧ ch < 4 ∧ s.chLive ch = true ∧ s.flag DMC_CH_STAT_SREF ch = false) fun t =>
    (t.dchan ch).postponed.look bank = none ∧ (t.dchan ch).rowOpen.look bank = none ∧ OnlyRegs [] s t ∧ OnlyChan ch s t ∧ KeepsHost s t ∧ KeepsMedia s t ∧ KeepsPower s t ∧ KeepsFaults s t

/-- DRAM_REFRESH (R336). -/
abbrev dramRefresh_postponed (ch bank : Nat) (s : State) : Prop :=
  (s.drainDue ch (min (s.get DMC_SCHED_CFG_WR_LOW) (s.get DMC_SCHED_CFG_WR_HIGH)) = true ∧ (s.dchan ch).postponed.lookD bank 0 < 4) → Effect (.dramRefresh ch bank) s (s.powered = true ∧ ch < 4 ∧ s.chLive ch = true ∧ s.flag DMC_CH_STAT_SREF ch = false) fun t =>
    (t.dchan ch).postponed.lookD bank 0 = (s.dchan ch).postponed.lookD bank 0 + 1 ∧ (t.dchan ch).rowOpen = (s.dchan ch).rowOpen ∧ OnlyRegs [] s t ∧ OnlyChan ch s t ∧ KeepsHost s t ∧ KeepsMedia s t ∧ KeepsPower s t ∧ KeepsFaults s t

/-- MR4_POLL (R336). -/
abbrev mr4Poll (ch value : Nat) (s : State) : Prop :=
  Effect (.mr4Poll ch value) s (s.powered = true ∧ ch < 4 ∧ s.chLive ch = true ∧ s.flag DMC_CH_STAT_SREF ch = false) fun t =>
    t.get DMC_CH_STAT_MR4 ch = value % 2 ^ DMC_CH_STAT_MR4.width ∧ OnlyRegs [DMC_CH_STAT_MR4.key ch 0] s t ∧ KeepsAll s t

/-- DRAM_ALERT (R339). -/
abbrev dramAlert (ch : Nat) (s : State) : Prop :=
  ((s.dchan ch).alerts = []) → Effect (.dramAlert ch) s (s.powered = true ∧ ch < 4 ∧ s.chLive ch = true ∧ (s.dchan ch).retraining = false) fun t =>
    Counts DMC_REPLAY_CNT ch 1 s t ∧ t.flag DMC_EVT_REPLAY ch = true ∧ Raises (81 + 4 * ch) s t ∧ (t.dchan ch).alerts = [s.now] ∧ (t.dchan ch).alertRun = 0 ∧ (t.dchan ch).rowOpen = [] ∧ (t.dchan ch).retraining = false ∧ (t.dchan ch).writes = (s.dchan ch).writes
      ∧ (t.dchan ch).issued = (s.dchan ch).issued ∧ OnlyChan ch s t ∧ KeepsHost s t ∧ KeepsMedia s t ∧ KeepsPower s t

/-- DRAM_ALERT (R339). -/
abbrev dramAlert_retrains (ch : Nat) (s : State) : Prop :=
  (2 ≤ (s.dchan ch).alertRun ∧ (∃ k ∈ (s.dchan ch).alerts.getLast?.toList, s.now ≤ k + 500) ∧ (s.dchan ch).writes = []) → Effect (.dramAlert ch) s (s.powered = true ∧ ch < 4 ∧ s.chLive ch = true ∧ (s.dchan ch).retraining = false) fun t =>
    (t.dchan ch).retraining = true ∧ (t.dchan ch).writes = [] ∧ t.flag DMC_EVT_RETRAIN ch = true ∧ Counts DMC_REPLAY_CNT ch 1 s t ∧ Raises (81 + 4 * ch) s t ∧ OnlyChan ch s t ∧ KeepsHost s t ∧ KeepsMedia s t ∧ KeepsPower s t

/-- DRAM_RETRAIN_END (R340). -/
abbrev dramRetrainEnd (ch : Nat) (alerts : Bool) (s : State) : Prop :=
  (alerts = false ∧ (s.dchan ch).waiting = [] ∧ (s.dchan ch).reads = [] ∧ (s.dchan ch).writes = [] ∧ (s.dchan ch).fences = []) → Effect (.dramRetrainEnd ch alerts) s (ch < 4 ∧ (s.dchan ch).retraining = true ∧ s.chLive ch = true) fun t =>
    t.dchan ch = { s.dchan ch with retraining := false, alerts := [], alertRun := 0 } ∧ OnlyRegs [] s t ∧ OnlyChan ch s t ∧ KeepsHost s t ∧ KeepsMedia s t ∧ KeepsPower s t ∧ KeepsFaults s t

/-- DRAM_RETRAIN_END (R340). -/
abbrev dramRetrainEnd_lost (ch : Nat) (alerts : Bool) (s : State) : Prop :=
  (alerts = true) → Effect (.dramRetrainEnd ch alerts) s (ch < 4 ∧ (s.dchan ch).retraining = true ∧ s.chLive ch = true) fun t =>
    t.flag DMC_CH_STAT_LOST ch = true ∧ t.flag DMC_EVT_LOST ch = true ∧ Raises (83 + 4 * ch) s t ∧ t.dchan ch = (s.dchan ch).kept ∧ t.pool.taken.has ch = true ∧ t.md = s.md ∧ t.pw = s.pw

/-- DRAM_STROBE_TIMEOUT (R341). -/
abbrev dramStrobeTimeout (ch : Nat) (s : State) : Prop :=
  Effect (.dramStrobeTimeout ch) s (s.powered = true ∧ ch < 4 ∧ s.chLive ch = true ∧ (s.dchan ch).issued ≠ []) fun t =>
    t.flag DMC_CH_STAT_LOST ch = true ∧ t.flag DMC_EVT_LOST ch = true ∧ Raises (83 + 4 * ch) s t ∧ t.dchan ch = (s.dchan ch).kept ∧ t.pool.taken.has ch = true ∧ t.md = s.md ∧ t.pw = s.pw

/-- DRAM_SOFT_REPAIR (R344). -/
abbrev dramSoftRepair (ch index : Nat) (resource : Bool) (s : State) : Prop :=
  (resource = true) → Effect (.dramSoftRepair ch index resource) s (s.inModes [.run, .service] = true ∧ ch < 4 ∧ s.chLive ch = true ∧ (s.dchan ch).repairing = none ∧ (s.dchan ch).cands.has index = true) fun t =>
    t.dchan ch = { s.dchan ch with repairing := some index } ∧ t.get DMC_CH_STAT_REPAIR ch = 1 ∧ OnlyRegs [DMC_CH_STAT_REPAIR.key ch 0] s t ∧ OnlyChan ch s t ∧ KeepsHost s t ∧ KeepsMedia s t ∧ KeepsPower s t ∧ KeepsFaults s t

/-- DRAM_SOFT_REPAIR (R344). -/
abbrev dramSoftRepair_fences (ch index : Nat) (resource : Bool) (s : State) : Prop :=
  (resource = false ∧ s.get DMC_CH_STAT_FENCED ch < 64) → Effect (.dramSoftRepair ch index resource) s (s.inModes [.run, .service] = true ∧ ch < 4 ∧ s.chLive ch = true ∧ (s.dchan ch).repairing = none ∧ (s.dchan ch).cands.has index = true) fun t =>
    (t.dchan ch).cands.look index = none ∧ t.get DMC_CH_STAT_FENCED ch = s.get DMC_CH_STAT_FENCED ch + 1 ∧ t.flag DMC_EVT_FENCE ch = true ∧ Raises (82 + 4 * ch) s t ∧ (t.dchan ch).repairing = none ∧ OtherChans ch s t ∧ { t.mm with chans := s.mm.chans } = s.mm ∧ t.mg = s.mg ∧ t.fb = s.fb ∧ t.tp = s.tp ∧ t.fw.again = true ∧ KeepsHost s t ∧ KeepsMedia s t ∧ KeepsPower s t

/-- DRAM_SOFT_REPAIR (R344). -/
abbrev dramSoftRepair_noFence (ch index : Nat) (resource : Bool) (s : State) : Prop :=
  (resource = false ∧ 64 ≤ s.get DMC_CH_STAT_FENCED ch) → Effect (.dramSoftRepair ch index resource) s (s.inModes [.run, .service] = true ∧ ch < 4 ∧ s.chLive ch = true ∧ (s.dchan ch).repairing = none ∧ (s.dchan ch).cands.has index = true) fun t =>
    (t.dchan ch).cands.look index = none ∧ (t.dchan ch).fenceOver = true ∧ t.get DMC_CH_STAT_FENCED ch = s.get DMC_CH_STAT_FENCED ch ∧ OtherChans ch s t ∧ { t.mm with chans := s.mm.chans } = s.mm ∧ t.mg = s.mg ∧ t.fb = s.fb ∧ t.tp = s.tp ∧ KeepsHost s t ∧ KeepsMedia s t ∧ KeepsPower s t

/-- DRAM_REPAIR_END (R344). -/
abbrev dramRepairEnd (ch k row n : Nat) (bad : List Nat) (s : State) : Prop :=
  ((s.dchan ch).repairing = some k ∧ (s.dchan ch).cands.look k = some (row, n) ∧ (∀ a ∈ bad, dramRow (s.pop ch) a ≠ row) ∧ (∀ d < 4, (s.dchan d).waiting = [] ∧ (s.dchan d).answered = []) ∧ (s.dchan ch).reads = []) → Effect (.dramRepairEnd ch bad) s (s.powered = true ∧ ch < 4 ∧ s.chLive ch = true) fun t =>
    (t.dchan ch).repairing = none ∧ row ∈ (t.dchan ch).soft ∧ (t.dchan ch).cands.look k = none ∧ t.get DMC_CH_STAT_REPAIR ch = 0 ∧ Counts DMC_PPR_CNT ch 1 s t ∧ t.flag DMC_EVT_REPAIRED ch = true ∧ Raises (82 + 4 * ch) s t
      ∧ t.fw.again = true ∧ OtherChans ch s t ∧ { t.mm with chans := s.mm.chans } = s.mm ∧ t.mg = s.mg ∧ t.fb = s.fb ∧ t.tp = s.tp ∧ KeepsHost s t ∧ KeepsMedia s t ∧ KeepsPower s t

/-- DRAM_REPAIR_END (R344). -/
abbrev dramRepairEnd_poison (ch k n a : Nat) (s : State) : Prop :=
  ((s.dchan ch).repairing = some k ∧ (s.dchan ch).cands.look k = some (dramRow (s.pop ch) a, n) ∧ (s.dchan ch).ueTimes = [] ∧ s.get DMC_CTRL_UE_LOSS ≠ 0 ∧ (∀ d < 4, (s.dchan d).waiting = [] ∧ (s.dchan d).answered = []) ∧ (s.dchan ch).reads = [] ∧ (s.dchan ch).writes = []) → Effect (.dramRepairEnd ch [a]) s (s.powered = true ∧ ch < 4 ∧ s.chLive ch = true) fun t =>
    (t.dchan ch).repairing = none ∧ a / 64 * 64 ∈ (t.dchan ch).poison ∧ Counts DMC_UE_CNT ch 1 s t ∧ Counts DMC_PPR_CNT ch 1 s t ∧ dramRow (s.pop ch) a ∈ (t.dchan ch).soft ∧ KeepsPower s t

/-- DRAM_PATROL_SCRUB (R347). -/
abbrev dramPatrolScrub (ch : Nat) (outcome : DramOutcome) (s : State) : Prop :=
  (outcome.symbols ≤ s.eccT ∧ (s.dchan ch).ceRows = []) → Effect (.dramPatrolScrub ch outcome) s (s.inModes [.boot, .hold, .run, .service] = true ∧ ch < 4 ∧ s.chLive ch = true ∧ (s.dchan ch).scrub = none ∧ s.get DMC_SCRUB_CFG_PATROL_H ≠ 0 ∧ (s.dchan ch).scrubUntil ≤ s.now ∧ outcome.addr / 64 = (s.dchan ch).patrol) fun t =>
    (t.dchan ch).patrol = ((s.dchan ch).patrol + 1) % ([16, 16, 32, 32].getD (s.pop ch) 16 * 2 ^ 24) ∧ (t.dchan ch).scrubUntil = s.now + s.scrubNs ch 64 ∧ (outcome.symbols = 0 → OnlyRegs [] s t ∧ KeepsFaults s t ∧ (t.dchan ch).nextId = (s.dchan ch).nextId)
      ∧ (outcome.symbols ≠ 0 → Counts DMC_CE_CNT ch 1 s t ∧ (t.dchan ch).nextId = (s.dchan ch).nextId + 1) ∧ OnlyChan ch s t ∧ KeepsHost s t ∧ KeepsMedia s t ∧ KeepsPower s t

/-- DRAM_PATROL_SCRUB (R347). -/
abbrev dramPatrolScrub_uncorrectable (ch : Nat) (outcome : DramOutcome) (s : State) : Prop :=
  (s.eccT < outcome.symbols ∧ (s.dchan ch).ueTimes = [] ∧ s.get DMC_CTRL_UE_LOSS ≠ 0) → Effect (.dramPatrolScrub ch outcome) s (s.inModes [.boot, .hold, .run, .service] = true ∧ ch < 4 ∧ s.chLive ch = true ∧ (s.dchan ch).scrub = none ∧ s.get DMC_SCRUB_CFG_PATROL_H ≠ 0 ∧ (s.dchan ch).scrubUntil ≤ s.now ∧ outcome.addr / 64 = (s.dchan ch).patrol) fun t =>
    Counts DMC_UE_CNT ch 1 s t ∧ t.flag DMC_EVT_UE ch = true ∧ Raises (80 + 4 * ch) s t ∧ (t.dchan ch).ueTimes = [s.now] ∧ t.get DMC_LAST_ERR ch = outcome.addr / 64 % 2 ^ DMC_LAST_ERR.width ∧ KeepsHost s t ∧ KeepsMedia s t ∧ KeepsPower s t

/-- DMC_SCRUB_GO (R347). -/
abbrev dmcScrubGo (value d : Nat) (s : State) : Prop :=
  (bits value 1 0 = d ∧ (s.dchan d).scrub = none ∧ (s.dchan d).scrubQ = []) → Effect (.dmcScrubGo value) s (s.powered = true ∧ bit value 2 = true) fun t =>
    (t.dchan d).scrub = some { start := s.get DMC_SCRUB_START_LO + s.get DMC_SCRUB_START_HI * 2 ^ 32, len := s.get DMC_SCRUB_LEN, since := s.now, ticket := none } ∧ (t.dchan d).scrubQ = [] ∧ bit (t.get DMC_STATUS_SCRUB_BUSY) d = true ∧ OnlyRegs [DMC_STATUS_SCRUB_BUSY.key 0 0] s t
      ∧ t.unbound = (if 8 ≤ value % 2 ^ 32 then [.wo (rDMC_SCRUB_CMD.at 0 0)] else []) ∧ OnlyChan d s t ∧ KeepsHost s t ∧ KeepsMedia s t ∧ KeepsPower s t ∧ KeepsFaults s t

/-- DMC_SCRUB_GO (R347). -/
abbrev dmcScrubGo_queued (value d : Nat) (r : DScrub) (s : State) : Prop :=
  (bits value 1 0 = d ∧ (s.dchan d).scrub = some r) → Effect (.dmcScrubGo value) s (s.powered = true ∧ bit value 2 = true) fun t =>
    (t.dchan d).scrub = some r ∧ (t.dchan d).scrubQ = (if (s.dchan d).scrubQ.length < 3 then (s.dchan d).scrubQ ++ [{ start := s.get DMC_SCRUB_START_LO + s.get DMC_SCRUB_START_HI * 2 ^ 32, len := s.get DMC_SCRUB_LEN, since := 0, ticket := none }] else (s.dchan d).scrubQ)
      ∧ OnlyRegs [] s t ∧ t.unbound = (if 8 ≤ value % 2 ^ 32 then [.wo (rDMC_SCRUB_CMD.at 0 0)] else []) ∧ OnlyChan d s t ∧ KeepsHost s t ∧ KeepsMedia s t ∧ KeepsPower s t ∧ KeepsFaults s t

/-- DRAM_SCRUB_RANGE_END (R348). -/
abbrev dramScrubRangeEnd (ch : Nat) (r : DScrub) (s : State) : Prop :=
  ((s.dchan ch).scrub = some r ∧ r.ticket = none ∧ (s.dchan ch).scrubQ = []) → Effect (.dramScrubRangeEnd ch [] []) s (s.inModes [.boot, .hold, .run, .service] = true ∧ ch < 4 ∧ s.chLive ch = true ∧ r.since + s.scrubNs ch (65536 * r.len) ≤ s.now) fun t =>
    (t.dchan ch).scrub = none ∧ t.get DMC_SCRUB_SUM 0 = r.len * 1024 % 2 ^ 32 ∧ t.get DMC_SCRUB_SUM 1 = 0 ∧ t.get DMC_SCRUB_SUM 2 = 0 ∧ t.get DMC_SCRUB_SUM 3 = 0 ∧ bit (t.get DMC_STATUS_SCRUB_DONE) ch = true ∧ bit (t.get DMC_STATUS_SCRUB_BUSY) ch = false ∧ Raises (82 + 4 * ch) s t
      ∧ OnlyChan ch s t ∧ KeepsHost s t ∧ KeepsMedia s t ∧ KeepsPower s t

/-- DRAM_SCRUB_RANGE_END (R348). -/
abbrev dramScrubRangeEnd_found (ch : Nat) (corrected uncorrectable : List Nat) (r : DScrub) (s : State) : Prop :=
  ((s.dchan ch).scrub = some r ∧ r.ticket = none ∧ (s.dchan ch).scrubQ = [] ∧ (∀ a ∈ corrected ++ uncorrectable, r.start ≤ a ∧ a < r.start + 65536 * r.len) ∧ uncorrectable.length ≤ 1 ∧ (s.dchan ch).ueTimes = [] ∧ s.get DMC_CTRL_UE_LOSS ≠ 0) → Effect (.dramScrubRangeEnd ch corrected uncorrectable) s (s.inModes [.boot, .hold, .run, .service] = true ∧ ch < 4 ∧ s.chLive ch = true ∧ r.since + s.scrubNs ch (65536 * r.len) ≤ s.now) fun t =>
    (t.dchan ch).scrub = none ∧ t.get DMC_SCRUB_SUM 1 = corrected.length % 2 ^ 32 ∧ t.get DMC_SCRUB_SUM 2 = uncorrectable.length ∧ t.get DMC_SCRUB_SUM 3 = (match uncorrectable with | [] => 0 | a :: _ => a / 64 % 2 ^ 29) ∧ Counts DMC_CE_CNT ch corrected.length s t ∧ Counts DMC_UE_CNT ch uncorrectable.length s t
      ∧ bit (t.get DMC_STATUS_SCRUB_DONE) ch = true ∧ bit (t.get DMC_STATUS_SCRUB_BUSY) ch = false ∧ KeepsHost s t ∧ KeepsMedia s t ∧ KeepsPower s t

/-- SRAM_CORRECTED_WORD (R350). -/
abbrev sramCorrectedWord (mac word : Nat) (scrub : Bool) (writes : List SramWrite) (s : State) : Prop :=
  (scrub = false ∧ ((s.sramWrites writes).mm.sram.look (sramKey mac word)).isSome = true ∧ (s.mm.sramRows.lookD (2048 * mac + word / 16) []) = [] ∧ 1 ≠ s.get MPU_CFG_CE_TH) → Effect (.sramCorrectedWord mac word scrub writes) s (s.powered = true ∧ mac < 352 ∧ word < 32768) fun t =>
    Counts MPU_CE_CNT 0 1 s t ∧ Counts FCL_CE_CNT 0 1 s t ∧ t.mm.sramRows = s.mm.sramRows.put (2048 * mac + word / 16) [s.ms.opMs] ∧ t.out = .sramWord mac word ((s.sramWrites writes).sramRead (sramKey mac word)) :: s.out
      ∧ (t.mm.sram.look (sramKey mac word)).map (·.data) = some (((s.sramWrites writes).sramWrite (sramKey mac word) 255 ((s.sramWrites writes).sramRead (sramKey mac word))).sramRead (sramKey mac word)) ∧ t.mm.chans = s.mm.chans ∧ t.mm.traps = s.mm.traps ∧ KeepsHost s t ∧ KeepsMedia s t ∧ KeepsPower s t ∧ t.fc = s.fc

/-- SRAM_CORRECTED_WORD (R350). -/
abbrev sramCorrectedWord_proposes (mac word : Nat) (scrub : Bool) (writes : List SramWrite) (s : State) : Prop :=
  (scrub = false ∧ ((s.sramWrites writes).mm.sram.look (sramKey mac word)).isSome = true ∧ 1 = s.get MPU_CFG_CE_TH) → Effect (.sramCorrectedWord mac word scrub writes) s (s.powered = true ∧ mac < 352 ∧ word < 32768) fun t =>
    Counts MPU_CE_CNT 0 1 s t ∧ t.get MPU_PROPOSE_ROW = word / 16 ∧ t.get MPU_PROPOSE_MACRO = mac ∧ Raises 221 s t ∧ t.mm.sramRows.look (2048 * mac + word / 16) = none ∧ KeepsHost s t ∧ KeepsMedia s t ∧ KeepsPower s t

/-- SRAM_CORRECTED_WORD (R350). -/
abbrev sramCorrectedWord_invalid (mac word : Nat) (scrub : Bool) (writes : List SramWrite) (s : State) : Prop :=
  ((s.sramWrites writes).mm.sram.look (sramKey mac word) = none) → Effect (.sramCorrectedWord mac word scrub writes) s (s.powered = true ∧ mac < 352 ∧ word < 32768) fun t =>
    t.out = .sramWord mac word 0 :: s.out ∧ t.mm = (s.sramWrites writes).mm ∧ OnlyRegs [] s t ∧ KeepsHost s t ∧ KeepsMedia s t ∧ KeepsPower s t ∧ KeepsFaults s t

/-- SRAM_CORRECTED_WORD (R350). -/
abbrev sramCorrectedWord_scrub (mac word : Nat) (writes : List SramWrite) (r : SScrub) (s : State) : Prop :=
  (s.mm.scrub = some r ∧ ((s.sramWrites writes).mm.sram.look (sramKey mac word)).isSome = true) → Effect (.sramCorrectedWord mac word true writes) s (s.powered = true ∧ mac < 352 ∧ word < 32768) fun t =>
    t.mm.scrub = some { r with corrected := r.corrected + 1 } ∧ Counts MPU_CE_CNT 0 1 s t ∧ KeepsHost s t ∧ KeepsMedia s t ∧ KeepsPower s t

/-- SRAM_UNCORRECTABLE_WORD (R351). -/
abbrev sramUncorrectableWord (mac word kind master : Nat) (table : SramTable) (ctx : Option Nat) (writes : List SramWrite) (s : State) : Prop :=
  ((kind = 1 ∨ kind = 2) ∧ ((s.sramWrites writes).mm.sram.look (sramKey mac word)).isSome = true) → Effect (.sramUncorrectableWord mac word kind master false table ctx writes) s (s.powered = true ∧ mac < 352 ∧ word < 32768) fun t =>
    t.mm.traps = s.mm.traps.put (master - 1) (0x20 + kind, word + mac * 2 ^ 15) ∧ t.mm.chans = s.mm.chans ∧ Counts MPU_UE_CNT 0 1 s t ∧ Counts MPU_TRAP_CNT 0 1 s t ∧ Raises 217 s t ∧ Raises 218 s t ∧ Counts FCL_UE_CNT 0 1 s t
      ∧ (s.flag MPU_ERR_INFO_VALID = false → t.get MPU_ERR_ADDR_MACRO = mac ∧ t.get MPU_ERR_ADDR_WORD = word ∧ t.get MPU_ERR_INFO_TYPE = kind ∧ t.get MPU_ERR_INFO_VALID = 1) ∧ KeepsHost s t ∧ KeepsMedia s t ∧ KeepsPower s t ∧ t.fw = s.fw

/-- SRAM_UNCORRECTABLE_WORD (R351). -/
abbrev sramUncorrectableWord_dma (mac word master : Nat) (inHandler : Bool) (table : SramTable) (writes : List SramWrite) (s : State) : Prop :=
  (master < 256 ∧ ((s.sramWrites writes).mm.sram.look (sramKey mac word)).isSome = true) → Effect (.sramUncorrectableWord mac word 3 master inHandler table none writes) s (s.powered = true ∧ mac < 352 ∧ word < 32768 ∧ s.dmaHalted master = false) fun t =>
    t.dmaHalted master = true ∧ Counts MPU_UE_CNT 0 1 s t ∧ Counts MPU_HALT_CNT 0 1 s t ∧ Raises 217 s t ∧ Raises 219 s t ∧ t.mm = (s.sramWrites writes).mm ∧ KeepsHost s t ∧ KeepsMedia s t ∧ KeepsPower s t ∧ t.fw = s.fw

/-- SRAM_UNCORRECTABLE_WORD (R351). -/
abbrev sramUncorrectableWord_table (mac word kind master i : Nat) (inHandler : Bool) (table : SramTable) (ctx : Option Nat) (writes : List SramWrite) (s : State) : Prop :=
  ((kind = 4 ∨ kind = 5) ∧ (table = .data ∨ table = .shadow i ∨ table = .link i) ∧ ((s.sramWrites writes).mm.sram.look (sramKey mac word)).isSome = true) → Effect (.sramUncorrectableWord mac word kind master inHandler table ctx writes) s (s.powered = true ∧ mac < 352 ∧ word < 32768) fun t =>
    Counts MPU_UE_CNT 0 1 s t ∧ Raises 217 s t ∧ (table = .shadow i → i ∈ t.wpt.shadowBad) ∧ (table = .link i → s.pool.desc.has (bufKey 0 i) = false → t.pool.links.look (bufKey 0 i) = some 0)
      ∧ (table ≠ .shadow i → t.wpt = s.wpt) ∧ (table ≠ .link i → t.pool = s.pool) ∧ t.mm.scrub = s.mm.scrub.map (fun r => if kind = 5 then { r with bad := r.bad + 1 } else r) ∧ t.mm.traps = s.mm.traps ∧ KeepsHost s t ∧ t.zn = s.zn ∧ t.wc = s.wc ∧ t.fl = s.fl ∧ t.xl = s.xl ∧ KeepsPower s t ∧ t.fw = s.fw

/-- SRAM_UNCORRECTABLE_WORD (R351). -/
abbrev sramUncorrectableWord_invalid (mac word kind master : Nat) (inHandler : Bool) (table : SramTable) (ctx : Option Nat) (writes : List SramWrite) (s : State) : Prop :=
  ((s.sramWrites writes).mm.sram.look (sramKey mac word) = none) → Effect (.sramUncorrectableWord mac word kind master inHandler table ctx writes) s (s.powered = true ∧ mac < 352 ∧ word < 32768 ∧ 1 ≤ kind ∧ kind ≤ 5 ∧ (kind = 3 → s.dmaHalted master = false)) fun t =>
    t.out = .sramWord mac word 0 :: s.out ∧ t.mm = (s.sramWrites writes).mm ∧ OnlyRegs [] s t ∧ KeepsHost s t ∧ KeepsMedia s t ∧ KeepsPower s t ∧ KeepsFaults s t

/-- MPU_DMA_REARM (R352). -/
abbrev mpuDmaRearm (value : Nat) (s : State) : Prop :=
  Effect (.mpuDmaRearm value) s (s.powered = true) fun t =>
    t.dmaHalted (value % 256) = false ∧ t.unbound = (if 256 ≤ value % 2 ^ 32 then [.wo (rMPU_DMA_REARM.at 0 0)] else []) ∧ ((∀ d < 4, (s.dchan d).waiting = []) → OnlyRegs [MPU_DMA_HALTED.key (value % 256 / 32) 0] s t ∧ KeepsAll s t)

/-- MPU_SCRUB_GO (R354). -/
abbrev mpuScrubGo (value : Nat) (s : State) : Prop :=
  Effect (.mpuScrubGo value) s (s.powered = true ∧ bit value 20 = true) fun t =>
    (s.mm.scrub = none → t.mm.scrub = some { first := (scrubMacros value).1, last := (scrubMacros value).2, corrected := 0, bad := 0, since := s.now, ticket := none } ∧ t.get MPU_STATUS_SCRUB_BUSY = 1)
      ∧ (s.mm.scrub ≠ none → s.mm.scrubQ = none → t.mm.scrubQ = some { first := (scrubMacros value).1, last := (scrubMacros value).2, corrected := 0, bad := 0, since := 0, ticket := none } ∧ t.get MPU_STATUS_SCRUB_Q = 1 ∧ t.mm.scrub = s.mm.scrub) ∧ (s.mm.scrub ≠ none → s.mm.scrubQ ≠ none → t.get MPU_STATUS_REJ = 1 ∧ t.mm = s.mm)
      ∧ t.unbound = (if 2 ^ 21 ≤ value % 2 ^ 32 then [.wo (rMPU_SCRUB_CMD.at 0 0)] else []) ∧ t.mm.chans = s.mm.chans ∧ t.mm.sram = s.mm.sram ∧ KeepsHost s t ∧ KeepsMedia s t ∧ KeepsPower s t ∧ KeepsFaults s t

/-- SRAM_SCRUB_END (R354). -/
abbrev sramScrubEnd (writes : List SramWrite) (r : SScrub) (s : State) : Prop :=
  (s.mm.scrub = some r ∧ s.mm.scrubQ = none ∧ r.ticket = none) → Effect (.sramScrubEnd writes) s (s.inModes [.boot, .hold, .run, .ret, .service] = true ∧ r.since + (r.last + 1 - r.first) * 104857 ≤ s.now) fun t =>
    t.mm = { (s.sramWrites writes).mm with scrub := none } ∧ t.get MPU_SCRUB_SUM 0 = (s.sramWrites writes).sramValid r.first r.last % 2 ^ 32 ∧ t.get MPU_SCRUB_SUM 1 = ((r.last + 1 - r.first) * 32768 - (s.sramWrites writes).sramValid r.first r.last) % 2 ^ 32 ∧ t.get MPU_SCRUB_SUM 2 = r.corrected % 2 ^ 32 ∧ t.get MPU_SCRUB_SUM 3 = r.bad % 2 ^ 32
      ∧ t.get MPU_STATUS_SCRUB_DONE = 1 ∧ t.get MPU_STATUS_SCRUB_BUSY = 0 ∧ t.get MPU_STATUS_SCRUB_Q = 0 ∧ Raises 220 s t ∧ t.mg = s.mg ∧ t.fw = s.fw ∧ KeepsHost s t ∧ KeepsMedia s t ∧ KeepsPower s t

/-- CAUSEWAY_TRAINED (R356). -/
abbrev causewayTrained (port rate : Nat) (s : State) : Prop :=
  (rate = s.get CWP_PCFG_RATE port) → Effect (.causewayTrained port rate) s (port < 4 ∧ s.portsRun = true ∧ s.flag CWP_PCFG_EN port = true ∧ (s.cwState port = cwDown ∨ s.cwState port = cwTrain)) fun t =>
    t.cwState port = cwHello ∧ t.cwPort port = { CwPort.fresh with helloAt := s.now, heardAt := s.now } ∧ t.get CWP_PSTAT_RATE_IN port = s.get CWP_PCFG_RATE port ∧ OnlyRegs [CWP_PSTAT_STATE.key port 0, CWP_PSTAT_RATE_IN.key port 0] s t ∧ { t.fb with ports := s.fb.ports } = s.fb
      ∧ KeepsHost s t ∧ KeepsMedia s t ∧ KeepsPower s t ∧ KeepsFaults s t

/-- CAUSEWAY_TRAINED (R356). -/
abbrev causewayTrained_rate (port rate : Nat) (s : State) : Prop :=
  (rate ≠ s.get CWP_PCFG_RATE port) → Effect (.causewayTrained port rate) s (port < 4 ∧ s.portsRun = true ∧ s.flag CWP_PCFG_EN port = true ∧ (s.cwState port = cwDown ∨ s.cwState port = cwTrain)) fun t =>
    t.cwState port = cwTrain ∧ t.get CWP_PSTAT_RATE_IN port = s.get CWP_PSTAT_RATE_IN port ∧ t.fb.ports = s.fb.ports ∧ OnlyRegs [CWP_PSTAT_STATE.key port 0] s t ∧ KeepsHost s t ∧ KeepsMedia s t ∧ KeepsPower s t ∧ KeepsFaults s t

/-- HELLO_TIMER (R363). -/
abbrev helloTimer (port : Nat) (s : State) : Prop :=
  Effect (.helloTimer port) s (s.cwLocked port = true ∧ (s.cwPort port).helloAt + s.helloNs ≤ s.now) fun t =>
    t.out.length = s.out.length + 1 ∧ t.fb = { s.fb with ports := s.fb.ports.put port { s.cwPort port with helloAt := s.now } } ∧ Counts CWP_TX_FRAMES port 1 s t ∧ (∀ b ∈ t.out.head?, b = .frame port (frameBytes { type := 1, flags := 3, dst := 0, src := s.nodeId, hops := s.hopMax, vc := 0, tag := 0, seq := 0, offset := 0, domain := s.get JNR_CFG_DOMAIN, payload := le 8 deviceSerial ++ le 2 s.nodeId ++ le 2 (s.get JNR_CFG_DOMAIN) ++ [port, s.cwState port] ++ zeros 18, trailerOk := true }))
      ∧ KeepsHost s t ∧ KeepsMedia s t ∧ KeepsPower s t

/-- HELLO_RECEIVED (R363). -/
abbrev helloReceived (port : Nat) (hello : Hello) (s : State) : Prop :=
  (s.withdrawn = false ∧ hello.domain = s.get JNR_CFG_DOMAIN ∧ 0 < hello.node ∧ hello.node < 0xFFF ∧ hello.node ≠ s.nodeId ∧ hello.portState ≠ cwDisabled ∧ s.cwState port = cwHello ∧ 0 < (s.cwPort port).helloOk) → Effect (.helloReceived port hello) s (s.cwLocked port = true) fun t =>
    t.cwState port = cwUp ∧ t.get CWP_PSTAT_NBR_ID port = hello.node ∧ t.get CWP_PSTAT_NBR_PORT port = hello.port % 2 ^ CWP_PSTAT_NBR_PORT.width ∧ Counts CWP_RX_FRAMES port 1 s t ∧ Raises (128 + 4 * port) s t ∧ t.get JNR_STATUS_RECOMP = 1
      ∧ KeepsHost s t ∧ KeepsMedia s t ∧ KeepsPower s t

/-- HELLO_RECEIVED (R363). -/
abbrev helloReceived_first (port : Nat) (hello : Hello) (s : State) : Prop :=
  (s.withdrawn = false ∧ hello.domain = s.get JNR_CFG_DOMAIN ∧ 0 < hello.node ∧ hello.node < 0xFFF ∧ hello.node ≠ s.nodeId ∧ hello.portState ≠ cwDisabled ∧ s.cwState port = cwHello ∧ (s.cwPort port).helloOk = 0) → Effect (.helloReceived port hello) s (s.cwLocked port = true) fun t =>
    t.cwState port = cwHello ∧ t.cwPort port = { s.cwPort port with helloOk := 1, heardAt := s.now } ∧ Counts CWP_RX_FRAMES port 1 s t ∧ t.get CWP_PSTAT_NBR_ID port = hello.node ∧ KeepsHost s t ∧ KeepsMedia s t ∧ KeepsPower s t

/-- HELLO_RECEIVED (R363). -/
abbrev helloReceived_foreign (port : Nat) (hello : Hello) (s : State) : Prop :=
  (s.withdrawn = false ∧ hello.domain ≠ s.get JNR_CFG_DOMAIN) → Effect (.helloReceived port hello) s (s.cwLocked port = true) fun t =>
    t.cwState port = cwForeign ∧ (t.cwPort port).helloOk = 0 ∧ Counts CWP_RX_FRAMES port 1 s t ∧ (s.cwState port ≠ cwForeign → Raises (130 + 4 * port) s t) ∧ KeepsHost s t ∧ KeepsMedia s t ∧ KeepsPower s t

/-- HELLO_RECEIVED (R363). -/
abbrev helloReceived_refused (port : Nat) (hello : Hello) (s : State) : Prop :=
  (s.withdrawn = true ∨ (hello.domain = s.get JNR_CFG_DOMAIN ∧ (hello.node = 0 ∨ hello.node = 0xFFF))) → Effect (.helloReceived port hello) s (s.cwLocked port = true) fun t =>
    t.cwState port = cwRefused ∧ (t.cwPort port).helloOk = 0 ∧ Counts CWP_RX_FRAMES port 1 s t ∧ (s.cwState port ≠ cwRefused → Raises (130 + 4 * port) s t) ∧ KeepsHost s t ∧ KeepsMedia s t ∧ KeepsPower s t

/-- HELLO_RECEIVED (R363). -/
abbrev helloReceived_duplicate (port : Nat) (hello : Hello) (s : State) : Prop :=
  (s.withdrawn = false ∧ hello.domain = s.get JNR_CFG_DOMAIN ∧ 0 < hello.node ∧ hello.node < 0xFFF ∧ hello.node = s.nodeId) → Effect (.helloReceived port hello) s (s.cwLocked port = true) fun t =>
    (hello.serial < deviceSerial → t.fb.dupId = true ∧ t.get JNR_STATUS_DUP_ID = 1 ∧ t.get JNR_STATUS_JOINED = 0 ∧ t.cwState port = cwRefused ∧ Raises (130 + 4 * port) s t) ∧ (deviceSerial < hello.serial → t.cwState port = cwRefused ∧ (t.cwPort port).helloOk = 0 ∧ t.fb.dupId = s.fb.dupId) ∧ Counts CWP_RX_FRAMES port 1 s t ∧ KeepsHost s t ∧ KeepsMedia s t ∧ KeepsPower s t

/-- HELLO_RECEIVED (R363). -/
abbrev helloReceived_disabled (port : Nat) (hello : Hello) (s : State) : Prop :=
  (s.withdrawn = false ∧ hello.domain = s.get JNR_CFG_DOMAIN ∧ 0 < hello.node ∧ hello.node < 0xFFF ∧ hello.node ≠ s.nodeId ∧ hello.portState = cwDisabled) → Effect (.helloReceived port hello) s (s.cwLocked port = true) fun t =>
    t.cwState port = s.cwState port ∧ t.cwPort port = { s.cwPort port with helloOk := 0, heardAt := s.now } ∧ Counts CWP_RX_FRAMES port 1 s t ∧ KeepsHost s t ∧ KeepsMedia s t ∧ KeepsPower s t

/-- HELLO_DEAD_TIMEOUT (R363). -/
abbrev helloDeadTimeout (port : Nat) (s : State) : Prop :=
  Effect (.helloDeadTimeout port) s (s.cwLocked port = true ∧ (s.cwPort port).heardAt + s.deadNs ≤ s.now) fun t =>
    t.cwState port = cwDown ∧ t.cwPort port = CwPort.fresh ∧ (s.cwState port = cwUp → Raises (128 + 4 * port) s t) ∧ t.fb.reqs = s.fb.reqs ∧ t.fb.dups = s.fb.dups ∧ KeepsHost s t ∧ KeepsMedia s t ∧ KeepsPower s t

/-- BLOCK_LOCK_LOSS (R363). -/
abbrev blockLockLoss (port : Nat) (s : State) : Prop :=
  Effect (.blockLockLoss port) s (s.cwLocked port = true) fun t =>
    t.cwState port = cwDown ∧ t.cwPort port = CwPort.fresh ∧ (s.cwState port = cwUp → Raises (128 + 4 * port) s t) ∧ t.fb.reqs = s.fb.reqs ∧ t.fb.dups = s.fb.dups ∧ KeepsHost s t ∧ KeepsMedia s t ∧ KeepsPower s t

/-- LSA_RECEIVED (R365). -/
abbrev lsaReceived (port : Nat) (lsa : Lsa) (s : State) : Prop :=
  (lsa.linkSeq = (s.cwPort port).rxSeq ∧ s.withdrawn = false ∧ lsa.node ≠ s.nodeId ∧ s.fb.nodes.look lsa.node = none ∧ s.fb.nodes.length < 256) → Effect (.lsaReceived port lsa) s (port < 4 ∧ s.portsRun = true ∧ s.cwState port = cwUp) fun t =>
    t.fb.nodes = s.fb.nodes.put lsa.node lsa ∧ t.fb.heard = s.fb.heard.put lsa.node s.now ∧ t.get JNR_STATUS_RECOMP = 1 ∧ Accepted port s t ∧ t.fb.paths = s.fb.paths ∧ t.fb.reqs = s.fb.reqs ∧ KeepsHost s t ∧ KeepsMedia s t ∧ KeepsPower s t

/-- LSA_RECEIVED (R365). -/
abbrev lsaReceived_known (port : Nat) (lsa old : Lsa) (s : State) : Prop :=
  (lsa.linkSeq = (s.cwPort port).rxSeq ∧ s.withdrawn = false ∧ lsa.node ≠ s.nodeId ∧ s.fb.nodes.look lsa.node = some old) → Effect (.lsaReceived port lsa) s (port < 4 ∧ s.portsRun = true ∧ s.cwState port = cwUp) fun t =>
    t.fb.nodes = (if old.seq < lsa.seq then s.fb.nodes.put lsa.node lsa else s.fb.nodes) ∧ (old.seq < lsa.seq → t.get JNR_STATUS_RECOMP = 1) ∧ Accepted port s t ∧ t.fb.paths = s.fb.paths ∧ KeepsHost s t ∧ KeepsMedia s t ∧ KeepsPower s t

/-- LSA_RECEIVED (R365). -/
abbrev lsaReceived_full (port : Nat) (lsa : Lsa) (s : State) : Prop :=
  (lsa.linkSeq = (s.cwPort port).rxSeq ∧ s.withdrawn = false ∧ lsa.node ≠ s.nodeId ∧ s.fb.nodes.look lsa.node = none ∧ 256 ≤ s.fb.nodes.length) → Effect (.lsaReceived port lsa) s (port < 4 ∧ s.portsRun = true ∧ s.cwState port = cwUp) fun t =>
    t.fb.nodes = s.fb.nodes ∧ t.get JNR_STATUS_FULL = 1 ∧ Raises (130 + 4 * port) s t ∧ Accepted port s t ∧ t.fb.paths = s.fb.paths ∧ KeepsHost s t ∧ KeepsMedia s t ∧ KeepsPower s t

/-- LSA_RECEIVED (R365). -/
abbrev lsaReceived_duplicate (port : Nat) (lsa : Lsa) (s : State) : Prop :=
  (lsa.linkSeq = (s.cwPort port).rxSeq ∧ s.withdrawn = false ∧ lsa.node = s.nodeId) → Effect (.lsaReceived port lsa) s (port < 4 ∧ s.portsRun = true ∧ s.cwState port = cwUp) fun t =>
    (lsa.serial < deviceSerial → t.fb.dupId = true ∧ t.get JNR_STATUS_DUP_ID = 1 ∧ t.cwState port = cwRefused ∧ Raises (130 + 4 * port) s t) ∧ (deviceSerial < lsa.serial → Raises (130 + 4 * port) s t ∧ t.fb.nodes = s.fb.nodes ∧ t.fb.dupId = false) ∧ KeepsHost s t ∧ KeepsMedia s t ∧ KeepsPower s t

/-- LSA_RECEIVED (R365). -/
abbrev lsaReceived_unexpected (port : Nat) (lsa : Lsa) (s : State) : Prop :=
  (lsa.linkSeq ≠ (s.cwPort port).rxSeq) → Effect (.lsaReceived port lsa) s (port < 4 ∧ s.portsRun = true ∧ s.cwState port = cwUp) fun t =>
    t.fb = s.fb ∧ t.out = s.out ∧ Counts CWP_RX_FRAMES port 1 s t ∧ KeepsHost s t ∧ KeepsMedia s t ∧ KeepsPower s t

/-- LSA_REFRESH_TIMER (R365). -/
abbrev lsaRefreshTimer (s : State) : Prop :=
  Effect .lsaRefreshTimer s (s.portsRun = true ∧ s.joined = true ∧ s.fb.ownAt + 10000000000 ≤ s.now) fun t =>
    t.fb.ownSeq = s.fb.ownSeq + 1 ∧ t.fb.ownAt = s.now ∧ (t.fb.nodes.look s.nodeId).map (fun l => (l.seq, l.links)) = some (s.fb.ownSeq + 1, s.ownLinks) ∧ t.get JNR_STATUS_RECOMP = 1 ∧ t.fb.paths = s.fb.paths ∧ t.fb.reqs = s.fb.reqs ∧ KeepsHost s t ∧ KeepsMedia s t ∧ KeepsPower s t

/-- LSA_AGE_OUT (R365). -/
abbrev lsaAgeOut (node : Nat) (s : State) : Prop :=
  Effect (.lsaAgeOut node) s (s.portsRun = true ∧ s.fb.nodes.has node = true ∧ node ≠ s.nodeId ∧ s.fb.heard.lookD node 0 + 40000000000 ≤ s.now) fun t =>
    t.fb = { s.fb with nodes := s.fb.nodes.del node, heard := s.fb.heard.del node } ∧ t.get JNR_STATUS_RECOMP = 1 ∧ OnlyRegs [JNR_STATUS_RECOMP.key 0 0, JNR_STATUS_JOINED.key 0 0, JNR_STATUS_NODES.key 0 0] s t ∧ KeepsHost s t ∧ KeepsMedia s t ∧ KeepsPower s t ∧ KeepsFaults s t

/-- PATH_RECOMPUTE_DONE (R367). -/
abbrev pathRecomputeDone (s : State) : Prop :=
  Effect .pathRecomputeDone s (s.flag JNR_STATUS_RECOMP = true) fun t =>
    t.fb.paths = s.newPaths ∧ (s.fb.localQ = [] → t.fb = { s.fb with paths := s.newPaths }) ∧ t.get JNR_STATUS_RECOMP = 0 ∧ (s.newPaths ≠ s.fb.paths → Raises 131 s t) ∧ KeepsHost s t ∧ KeepsMedia s t ∧ KeepsPower s t

/-- ACK_TIMER (R360). -/
abbrev ackTimer (port : Nat) (s : State) : Prop :=
  Effect (.ackTimer port) s (port < 4 ∧ s.cwState port = cwUp ∧ (s.cwPort port).sinceAck ≠ 0) fun t =>
    t.cwPort port = { s.cwPort port with sinceAck := 0 } ∧ t.out.length = s.out.length + 1 ∧ Counts CWP_TX_FRAMES port 1 s t ∧ { t.fb with ports := s.fb.ports } = s.fb ∧ KeepsHost s t ∧ KeepsMedia s t ∧ KeepsPower s t

/-- ACK_RECEIVED (R360). -/
abbrev ackReceived (port seq : Nat) (s : State) : Prop :=
  Effect (.ackReceived port seq) s (port < 4 ∧ s.cwState port = cwUp) fun t =>
    (t.cwPort port).naks = 0 ∧ (s.cwPort port).sent.filter (fun f => seqAfter f.seq seq) <+: (t.cwPort port).sent ∧ ((s.cwPort port).outQ = [] → t.cwPort port = { s.cwPort port with sent := (s.cwPort port).sent.filter (fun f => seqAfter f.seq seq), naks := 0 } ∧ t.out = s.out) ∧ Counts CWP_RX_FRAMES port 1 s t ∧ { t.fb with ports := s.fb.ports } = s.fb ∧ KeepsHost s t ∧ KeepsMedia s t ∧ KeepsPower s t

/-- NAK_RECEIVED (R360). -/
abbrev nakReceived (port seq : Nat) (s : State) : Prop :=
  ((s.cwPort port).naks = 0 ∨ (s.cwPort port).nakSeq ≠ seq ∨ (s.cwPort port).naks < 7) → Effect (.nakReceived port seq) s (port < 4 ∧ s.cwState port = cwUp) fun t =>
    t.cwPort port = { s.cwPort port with naks := (if (s.cwPort port).naks ≠ 0 ∧ (s.cwPort port).nakSeq = seq then (s.cwPort port).naks + 1 else 1), nakSeq := seq, sent := (s.cwPort port).sent.filter (fun f => f.seq == seq || seqAfter f.seq seq) } ∧ t.cwState port = cwUp
      ∧ t.out.length = s.out.length + ((s.cwPort port).sent.filter (fun f => f.seq == seq || seqAfter f.seq seq)).length ∧ Counts CWP_RX_FRAMES port 1 s t ∧ { t.fb with ports := s.fb.ports } = s.fb ∧ KeepsHost s t ∧ KeepsMedia s t ∧ KeepsPower s t

/-- NAK_RECEIVED (R360). -/
abbrev nakReceived_eighth (port seq : Nat) (s : State) : Prop :=
  ((s.cwPort port).nakSeq = seq ∧ (s.cwPort port).naks = 7) → Effect (.nakReceived port seq) s (port < 4 ∧ s.cwState port = cwUp) fun t =>
    t.cwState port = cwTrain ∧ t.cwPort port = CwPort.fresh ∧ Raises (128 + 4 * port) s t ∧ Counts CWP_RX_FRAMES port 1 s t ∧ KeepsHost s t ∧ KeepsMedia s t ∧ KeepsPower s t

/-- CREDIT_RECEIVED (R361). -/
abbrev creditReceived (port vc credits : Nat) (s : State) : Prop :=
  Effect (.creditReceived port vc credits) s (port < 4 ∧ s.cwState port = cwUp ∧ vc < 3) fun t =>
    ((s.cwPort port).outQ = [] → t.cwPort port = { s.cwPort port with credits := (s.cwPort port).credits.set vc ((s.cwPort port).credits.getD vc 0 + credits) } ∧ t.out = s.out) ∧ (s.cwPort port).sent <+: (t.cwPort port).sent ∧ Counts CWP_RX_FRAMES port 1 s t ∧ { t.fb with ports := s.fb.ports } = s.fb ∧ KeepsHost s t ∧ KeepsMedia s t ∧ KeepsPower s t

/-- CREDIT_RETURN_TIMER (R361). -/
abbrev creditReturnTimer (port : Nat) (s : State) : Prop :=
  Effect (.creditReturnTimer port) s (port < 4 ∧ s.cwState port = cwUp ∧ ((s.cwPort port).freed.any fun n => n != 0) = true) fun t =>
    t.cwPort port = { s.cwPort port with freed := [0, 0, 0] } ∧ t.out.length = s.out.length + 1 ∧ Counts CWP_TX_FRAMES port 1 s t ∧ { t.fb with ports := s.fb.ports } = s.fb ∧ KeepsHost s t ∧ KeepsMedia s t ∧ KeepsPower s t

/-- FRAME_DISCARDED (R360). -/
abbrev frameDiscarded (port reason seq vc units : Nat) (s : State) : Prop :=
  (reason ≤ 1 ∧ (s.cwPort port).resync = false) → Effect (.frameDiscarded port reason seq vc units) s (port < 4 ∧ s.cwState port = cwUp ∧ reason ≤ 5) fun t =>
    (t.cwPort port).resync = true ∧ (t.cwPort port).rxSeq = (s.cwPort port).rxSeq ∧ Counts CWP_NAK_CNT port 1 s t ∧ Counts CWP_RX_FRAMES port 1 s t ∧ t.out.length = s.out.length + 1 ∧ { t.fb with ports := s.fb.ports } = s.fb ∧ KeepsHost s t ∧ KeepsMedia s t ∧ KeepsPower s t

/-- FRAME_DISCARDED (R360). -/
abbrev frameDiscarded_counted (port reason seq vc units : Nat) (s : State) : Prop :=
  (2 ≤ reason ∧ reason ≠ 3 ∧ seq = (s.cwPort port).rxSeq) → Effect (.frameDiscarded port reason seq vc units) s (port < 4 ∧ s.cwState port = cwUp ∧ reason ≤ 5) fun t =>
    (t.cwPort port).rxSeq = ((s.cwPort port).rxSeq + 1) % 2 ^ 32 ∧ (reason = 2 → Counts CWP_STOMP_CNT port 1 s t) ∧ (4 ≤ reason → Counts CWP_DROP_CNT port 1 s t) ∧ Counts CWP_RX_FRAMES port 1 s t ∧ (let fr := (s.cwPort port).freed.set vc ((s.cwPort port).freed.getD vc 0 + units); (t.cwPort port).freed = if 64 ≤ fr.foldl (· + ·) 0 then [0, 0, 0] else fr) ∧ (((s.cwPort port).freed.set vc ((s.cwPort port).freed.getD vc 0 + units)).foldl (· + ·) 0 < 64 → t.out = s.out) ∧ { t.fb with ports := s.fb.ports } = s.fb ∧ KeepsHost s t ∧ KeepsMedia s t ∧ KeepsPower s t

/-- FRAME_DISCARDED (R360). -/
abbrev frameDiscarded_again (port reason seq vc units : Nat) (s : State) : Prop :=
  (reason ≤ 1 ∧ (s.cwPort port).resync = true) → Effect (.frameDiscarded port reason seq vc units) s (port < 4 ∧ s.cwState port = cwUp ∧ reason ≤ 5) fun t =>
    (t.cwPort port).resync = true ∧ (t.cwPort port).rxSeq = (s.cwPort port).rxSeq ∧ t.get CWP_NAK_CNT port = s.get CWP_NAK_CNT port ∧ Counts CWP_RX_FRAMES port 1 s t ∧ t.out = s.out ∧ { t.fb with ports := s.fb.ports } = s.fb ∧ KeepsHost s t ∧ KeepsMedia s t ∧ KeepsPower s t

/-- FRAME_DISCARDED (R360). -/
abbrev frameDiscarded_unexpected (port reason seq vc units : Nat) (s : State) : Prop :=
  (2 ≤ reason ∧ (reason = 3 ∨ seq ≠ (s.cwPort port).rxSeq)) → Effect (.frameDiscarded port reason seq vc units) s (port < 4 ∧ s.cwState port = cwUp ∧ reason ≤ 5) fun t =>
    t.fb = s.fb ∧ t.out = s.out ∧ Counts CWP_RX_FRAMES port 1 s t ∧ KeepsHost s t ∧ KeepsMedia s t ∧ KeepsPower s t

/-- TRANSIT_FRAME (R368). -/
abbrev transitFrame (port : Nat) (f : Frame) (q d : Nat) (s : State) : Prop :=
  (f.trailerOk = true ∧ f.seq = (s.cwPort port).rxSeq ∧ knownType f.type = true ∧ f.domain = s.get JNR_CFG_DOMAIN ∧ s.joined = true ∧ 0 < f.hops ∧ f.vc < 3 ∧ f.payload.length ≤ 8192 ∧ s.fb.paths.look f.dst = some (q, d) ∧ q < 4 ∧ q ≠ port ∧ s.cwState q = cwUp ∧ s.cwPort q = CwPort.fresh) → Effect (.transitFrame port f) s (port < 4 ∧ s.portsRun = true ∧ s.cwState port = cwUp ∧ f.dst ≠ s.nodeId ∧ (16 ≤ f.type ∨ knownType f.type = false)) fun t =>
    .frame q (frameBytes { f with hops := f.hops - 1, seq := 0 }) ∈ t.out ∧ Counts JNR_FWD_FRAMES 0 1 s t ∧ Counts CWP_TX_FRAMES q 1 s t ∧ (t.cwPort q).outQ = [] ∧ (t.cwPort q).sent = [{ f with hops := f.hops - 1, seq := 0 }] ∧ Accepted port s t ∧ KeepsHost s t ∧ KeepsMedia s t ∧ KeepsPower s t

/-- TRANSIT_FRAME (R368). -/
abbrev transitFrame_dropped (port : Nat) (f : Frame) (s : State) : Prop :=
  (f.trailerOk = true ∧ f.seq = (s.cwPort port).rxSeq ∧ knownType f.type = true ∧ f.domain = s.get JNR_CFG_DOMAIN ∧ s.joined = true ∧ f.vc < 3) → Effect (.transitFrame port f) s (port < 4 ∧ s.portsRun = true ∧ s.cwState port = cwUp ∧ f.dst ≠ s.nodeId ∧ (16 ≤ f.type ∨ knownType f.type = false)) fun t =>
    (f.hops = 0 → Counts JNR_HOP_DROP 0 1 s t) ∧ (0 < f.hops → s.fb.paths.look f.dst = none → Counts JNR_NOPATH 0 1 s t) ∧ (0 < f.hops → ((s.fb.paths.look f.dst).any fun e => decide (e.1 < 4) && s.cwState e.1 != cwUp) = true → Counts JNR_HOP_DROP 0 1 s t) ∧ Accepted port s t ∧ t.fb.reqs = s.fb.reqs ∧ t.fb.inbound = s.fb.inbound ∧ KeepsHost s t ∧ KeepsMedia s t ∧ KeepsPower s t

/-- TRANSIT_FRAME (R368). -/
abbrev transitFrame_damaged (port : Nat) (f : Frame) (q d : Nat) (s : State) : Prop :=
  (f.trailerOk = false ∧ f.seq = (s.cwPort port).rxSeq ∧ knownType f.type = true ∧ f.domain = s.get JNR_CFG_DOMAIN ∧ s.joined = true ∧ 0 < f.hops ∧ f.vc < 3 ∧ f.payload.length ≤ 8192 ∧ s.fb.paths.look f.dst = some (q, d) ∧ q < 4 ∧ q ≠ port ∧ s.cwState q = cwUp ∧ s.cwPort q = CwPort.fresh ∧ (s.cwPort port).resync = false) → Effect (.transitFrame port f) s (port < 4 ∧ s.portsRun = true ∧ s.cwState port = cwUp ∧ f.dst ≠ s.nodeId ∧ (16 ≤ f.type ∨ knownType f.type = false)) fun t =>
    .frame q (frameBytes { f with hops := f.hops - 1, seq := 0 }) ∈ t.out ∧ Counts JNR_FWD_FRAMES 0 1 s t ∧ Counts CWP_NAK_CNT port 1 s t ∧ (t.cwPort port).resync = true ∧ (t.cwPort port).rxSeq = (s.cwPort port).rxSeq ∧ KeepsHost s t ∧ KeepsMedia s t ∧ KeepsPower s t

/-- TRANSIT_FRAME (R368). -/
abbrev transitFrame_unexpected (port : Nat) (f : Frame) (s : State) : Prop :=
  (f.seq ≠ (s.cwPort port).rxSeq) → Effect (.transitFrame port f) s (port < 4 ∧ s.portsRun = true ∧ s.cwState port = cwUp ∧ f.dst ≠ s.nodeId ∧ (16 ≤ f.type ∨ knownType f.type = false)) fun t =>
    t.fb = s.fb ∧ t.out = s.out ∧ Counts CWP_RX_FRAMES port 1 s t ∧ KeepsHost s t ∧ KeepsMedia s t ∧ KeepsPower s t

/-- REQ_RECEIVED (R373). -/
abbrev reqReceived (port : Nat) (f : Frame) (slice : Nat) (s : State) : Prop :=
  (Accepts port f s ∧ (s.fb.dups.find? fun d => d.src == f.src && d.tag == f.tag && d.reply.isNone) = none ∧ s.inModes [.run, .service] = true ∧ s.nodeSlice f.src = some slice ∧ s.access slice (entryOf f.payload).nsid = true ∧ bit f.flags 1 = false ∧ 0 < requestWant (entryOf f.payload)) → Effect (.reqReceived port f) s (port < 4 ∧ s.portsRun = true ∧ f.type = 0x10) fun t =>
    t.fb.inbound = (s.fb.inbound.filter fun x => !(x.src == f.src && x.tag == f.tag)) ++ [{ src := f.src, tag := f.tag, type := 0x10, entry := entryOf f.payload, slice := slice, want := requestWant (entryOf f.payload), data := [], discard := false }]
      ∧ Accepted port s t ∧ t.fb.dups = s.fb.dups ∧ t.fb.reqs = s.fb.reqs ∧ KeepsHost s t ∧ KeepsMedia s t ∧ KeepsPower s t

/-- REQ_RECEIVED (R373). -/
abbrev reqReceived_served (port : Nat) (f : Frame) (slice : Nat) (s : State) : Prop :=
  (Accepts port f s ∧ (s.fb.dups.find? fun d => d.src == f.src && d.tag == f.tag && d.reply.isNone) = none ∧ s.inModes [.run, .service] = true ∧ s.nodeSlice f.src = some slice ∧ s.access slice (entryOf f.payload).nsid = true ∧ bit f.flags 1 = true ∧ s.ctxRoom slice = true) → Effect (.reqReceived port f) s (port < 4 ∧ s.portsRun = true ∧ f.type = 0x10) fun t =>
    t.nextCtx = s.nextCtx + 1 ∧ (t.cwPort port).rxSeq = ((s.cwPort port).rxSeq + 1) % 2 ^ 32 ∧ t.sqs = s.sqs ∧ t.cqs = s.cqs ∧ t.md = s.md ∧ t.pw = s.pw

/-- REQ_RECEIVED (R373). -/
abbrev reqReceived_duplicate (port : Nat) (f : Frame) (d : DupEntry) (s : State) : Prop :=
  (Accepts port f s ∧ (s.fb.dups.find? fun d => d.src == f.src && d.tag == f.tag && d.reply.isNone) = some d ∧ bit f.flags 1 = true) → Effect (.reqReceived port f) s (port < 4 ∧ s.portsRun = true ∧ f.type = 0x10) fun t =>
    Counts JNR_DUP_HIT 0 1 s t ∧ t.fb.dups = s.fb.dups ∧ t.fb.inbound = s.fb.inbound ∧ (t.cwPort port).rxSeq = ((s.cwPort port).rxSeq + 1) % 2 ^ 32 ∧ KeepsHost s t ∧ KeepsMedia s t ∧ KeepsPower s t

/-- REQ_RECEIVED (R373). -/
abbrev reqReceived_refused (port : Nat) (f : Frame) (q d : Nat) (s : State) : Prop :=
  (Accepts port f s ∧ (s.fb.dups.find? fun d => d.src == f.src && d.tag == f.tag && d.reply.isNone) = none ∧ (s.mode = .hold ∨ s.inModes [.run, .service] = false ∨ s.nodeSlice f.src = none ∨ ((s.nodeSlice f.src).all fun k => !s.access k (entryOf f.payload).nsid) = true) ∧ s.fb.paths.look f.src = some (q, d) ∧ q < 4 ∧ q ≠ port ∧ s.cwState q = cwUp ∧ s.cwPort q = CwPort.fresh) → Effect (.reqReceived port f) s (port < 4 ∧ s.portsRun = true ∧ f.type = 0x10) fun t =>
    .frame q (frameBytes { s.frameOf 0x30 f.src f.tag 3 0 (cqeBytes (if s.mode = .hold then .namespaceNotReady else .accessDenied) 0 0 (entryOf f.payload).cid) with seq := 0 }) ∈ t.out ∧ t.fb.dups = s.fb.dups ∧ (bit f.flags 1 = true → t.fb.inbound = s.fb.inbound)
      ∧ (bit f.flags 1 = false → t.fb.inbound.map (fun x => (x.src, x.tag, x.discard)) = ((s.fb.inbound.filter fun x => !(x.src == f.src && x.tag == f.tag)).map (fun x => (x.src, x.tag, x.discard))) ++ [(f.src, f.tag, true)]) ∧ Accepted port s t ∧ KeepsHost s t ∧ KeepsMedia s t ∧ KeepsPower s t

/-- REQ_RECEIVED (R373). -/
abbrev reqReceived_unexpected (port : Nat) (f : Frame) (s : State) : Prop :=
  (s.cwState port = cwUp ∧ f.dst = s.nodeId ∧ f.seq ≠ (s.cwPort port).rxSeq) → Effect (.reqReceived port f) s (port < 4 ∧ s.portsRun = true ∧ f.type = 0x10) fun t =>
    t.fb = s.fb ∧ t.out = s.out ∧ Counts CWP_RX_FRAMES port 1 s t ∧ KeepsHost s t ∧ KeepsMedia s t ∧ KeepsPower s t

/-- REPL_RECEIVED (R376). -/
abbrev replReceived (port : Nat) (f : Frame) (slice : Nat) (s : State) : Prop :=
  (Accepts port f s ∧ (s.fb.dups.find? fun d => d.src == f.src && d.tag == f.tag && d.reply.isNone) = none ∧ s.inModes [.run, .service] = true ∧ s.nodeSlice f.src = some slice ∧ s.access slice (entryOf f.payload).nsid = true ∧ bit f.flags 1 = false ∧ 0 < requestWant (entryOf f.payload)) → Effect (.replReceived port f) s (port < 4 ∧ s.portsRun = true ∧ f.type = 0x11) fun t =>
    t.fb.inbound = (s.fb.inbound.filter fun x => !(x.src == f.src && x.tag == f.tag)) ++ [{ src := f.src, tag := f.tag, type := 0x11, entry := entryOf f.payload, slice := slice, want := requestWant (entryOf f.payload), data := [], discard := false }]
      ∧ Accepted port s t ∧ t.fb.dups = s.fb.dups ∧ t.fb.reqs = s.fb.reqs ∧ KeepsHost s t ∧ KeepsMedia s t ∧ KeepsPower s t

/-- REPL_RECEIVED (R376). -/
abbrev replReceived_refused (port : Nat) (f : Frame) (q d : Nat) (s : State) : Prop :=
  (Accepts port f s ∧ (s.fb.dups.find? fun d => d.src == f.src && d.tag == f.tag && d.reply.isNone) = none ∧ (s.mode = .hold ∨ s.inModes [.run, .service] = false ∨ s.nodeSlice f.src = none ∨ ((s.nodeSlice f.src).all fun k => !s.access k (entryOf f.payload).nsid) = true) ∧ s.fb.paths.look f.src = some (q, d) ∧ q < 4 ∧ q ≠ port ∧ s.cwState q = cwUp ∧ s.cwPort q = CwPort.fresh) → Effect (.replReceived port f) s (port < 4 ∧ s.portsRun = true ∧ f.type = 0x11) fun t =>
    .frame q (frameBytes { s.frameOf 0x30 f.src f.tag 3 0 (cqeBytes (if s.mode = .hold then .namespaceNotReady else .accessDenied) 0 0 (entryOf f.payload).cid) with seq := 0 }) ∈ t.out ∧ t.fb.dups = s.fb.dups ∧ (bit f.flags 1 = true → t.fb.inbound = s.fb.inbound)
      ∧ (bit f.flags 1 = false → t.fb.inbound.map (fun x => (x.src, x.tag, x.discard)) = ((s.fb.inbound.filter fun x => !(x.src == f.src && x.tag == f.tag)).map (fun x => (x.src, x.tag, x.discard))) ++ [(f.src, f.tag, true)]) ∧ Accepted port s t ∧ KeepsHost s t ∧ KeepsMedia s t ∧ KeepsPower s t

/-- REPL_RECEIVED (R376). -/
abbrev replReceived_unexpected (port : Nat) (f : Frame) (s : State) : Prop :=
  (s.cwState port = cwUp ∧ f.dst = s.nodeId ∧ f.seq ≠ (s.cwPort port).rxSeq) → Effect (.replReceived port f) s (port < 4 ∧ s.portsRun = true ∧ f.type = 0x11) fun t =>
    t.fb = s.fb ∧ t.out = s.out ∧ Counts CWP_RX_FRAMES port 1 s t ∧ KeepsHost s t ∧ KeepsMedia s t ∧ KeepsPower s t

/-- COPY_RECEIVED (R379). -/
abbrev copyReceived (port : Nat) (f : Frame) (slice : Nat) (s : State) : Prop :=
  (Accepts port f s ∧ (s.fb.dups.find? fun d => d.src == f.src && d.tag == f.tag && d.reply.isNone) = none ∧ s.inModes [.run, .service] = true ∧ s.nodeSlice f.src = some slice ∧ s.access slice (entryOf f.payload).nsid = true ∧ bit f.flags 1 = false ∧ 0 < requestWant (entryOf f.payload)) → Effect (.copyReceived port f) s (port < 4 ∧ s.portsRun = true ∧ f.type = 0x12) fun t =>
    t.fb.inbound = (s.fb.inbound.filter fun x => !(x.src == f.src && x.tag == f.tag)) ++ [{ src := f.src, tag := f.tag, type := 0x12, entry := entryOf f.payload, slice := slice, want := requestWant (entryOf f.payload), data := [], discard := false }]
      ∧ Accepted port s t ∧ t.fb.dups = s.fb.dups ∧ t.fb.reqs = s.fb.reqs ∧ KeepsHost s t ∧ KeepsMedia s t ∧ KeepsPower s t

/-- COPY_RECEIVED (R379). -/
abbrev copyReceived_refused (port : Nat) (f : Frame) (q d : Nat) (s : State) : Prop :=
  (Accepts port f s ∧ (s.fb.dups.find? fun d => d.src == f.src && d.tag == f.tag && d.reply.isNone) = none ∧ (s.mode = .hold ∨ s.inModes [.run, .service] = false ∨ s.nodeSlice f.src = none ∨ ((s.nodeSlice f.src).all fun k => !s.access k (entryOf f.payload).nsid) = true) ∧ s.fb.paths.look f.src = some (q, d) ∧ q < 4 ∧ q ≠ port ∧ s.cwState q = cwUp ∧ s.cwPort q = CwPort.fresh) → Effect (.copyReceived port f) s (port < 4 ∧ s.portsRun = true ∧ f.type = 0x12) fun t =>
    .frame q (frameBytes { s.frameOf 0x30 f.src f.tag 3 0 (cqeBytes (if s.mode = .hold then .namespaceNotReady else .accessDenied) 0 0 (entryOf f.payload).cid) with seq := 0 }) ∈ t.out ∧ t.fb.dups = s.fb.dups ∧ (bit f.flags 1 = true → t.fb.inbound = s.fb.inbound)
      ∧ (bit f.flags 1 = false → t.fb.inbound.map (fun x => (x.src, x.tag, x.discard)) = ((s.fb.inbound.filter fun x => !(x.src == f.src && x.tag == f.tag)).map (fun x => (x.src, x.tag, x.discard))) ++ [(f.src, f.tag, true)]) ∧ Accepted port s t ∧ KeepsHost s t ∧ KeepsMedia s t ∧ KeepsPower s t

/-- COPY_RECEIVED (R379). -/
abbrev copyReceived_unexpected (port : Nat) (f : Frame) (s : State) : Prop :=
  (s.cwState port = cwUp ∧ f.dst = s.nodeId ∧ f.seq ≠ (s.cwPort port).rxSeq) → Effect (.copyReceived port f) s (port < 4 ∧ s.portsRun = true ∧ f.type = 0x12) fun t =>
    t.fb = s.fb ∧ t.out = s.out ∧ Counts CWP_RX_FRAMES port 1 s t ∧ KeepsHost s t ∧ KeepsMedia s t ∧ KeepsPower s t

/-- DATA_RECEIVED (R373). -/
abbrev dataReceived (port : Nat) (f : Frame) (b : Inbound) (s : State) : Prop :=
  (Accepts port f s ∧ (s.fb.inbound.find? fun b => b.src == f.src && b.tag == f.tag) = some b ∧ b.discard = false ∧ (b.data.put (f.offset / 4096) (unle f.payload)).length < b.want) → Effect (.dataReceived port f) s (port < 4 ∧ s.portsRun = true ∧ f.type = 0x20) fun t =>
    t.fb.inbound = (s.fb.inbound.filter fun x => !(x.src == f.src && x.tag == f.tag)) ++ [{ b with data := b.data.put (f.offset / 4096) (unle f.payload) }] ∧ Accepted port s t ∧ t.fb.dups = s.fb.dups ∧ KeepsHost s t ∧ KeepsMedia s t ∧ KeepsPower s t

/-- DATA_RECEIVED (R373). -/
abbrev dataReceived_last (port : Nat) (f : Frame) (b : Inbound) (s : State) : Prop :=
  (Accepts port f s ∧ (s.fb.inbound.find? fun b => b.src == f.src && b.tag == f.tag) = some b ∧ b.discard = false ∧ b.want ≤ (b.data.put (f.offset / 4096) (unle f.payload)).length ∧ s.ctxRoom b.slice = true) → Effect (.dataReceived port f) s (port < 4 ∧ s.portsRun = true ∧ f.type = 0x20) fun t =>
    t.fb.inbound = (s.fb.inbound.filter fun x => !(x.src == f.src && x.tag == f.tag)) ∧ t.nextCtx = s.nextCtx + 1 ∧ (t.cwPort port).rxSeq = ((s.cwPort port).rxSeq + 1) % 2 ^ 32 ∧ t.md = s.md ∧ t.pw = s.pw

/-- DATA_RECEIVED (R373). -/
abbrev dataReceived_discard (port : Nat) (f : Frame) (b : Inbound) (s : State) : Prop :=
  (Accepts port f s ∧ (s.fb.inbound.find? fun b => b.src == f.src && b.tag == f.tag) = some b ∧ b.discard = true) → Effect (.dataReceived port f) s (port < 4 ∧ s.portsRun = true ∧ f.type = 0x20) fun t =>
    t.fb.inbound = (if bit f.flags 1 then s.fb.inbound.filter (fun x => !(x.src == f.src && x.tag == f.tag)) else s.fb.inbound) ∧ Accepted port s t ∧ t.fb.dups = s.fb.dups ∧ KeepsHost s t ∧ KeepsMedia s t ∧ KeepsPower s t

/-- DATA_RECEIVED (R373). -/
abbrev dataReceived_none (port : Nat) (f : Frame) (s : State) : Prop :=
  (Accepts port f s ∧ (s.fb.inbound.find? fun b => b.src == f.src && b.tag == f.tag) = none) → Effect (.dataReceived port f) s (port < 4 ∧ s.portsRun = true ∧ f.type = 0x20) fun t =>
    t.fb.inbound = s.fb.inbound ∧ Accepted port s t ∧ t.fb.dups = s.fb.dups ∧ KeepsHost s t ∧ KeepsMedia s t ∧ KeepsPower s t

/-- RSP_RECEIVED (R371). -/
abbrev rspReceived (port : Nat) (f : Frame) (r : Remote) (id : Nat) (x : Ctx) (s : State) : Prop :=
  (Accepts port f s ∧ s.fb.reqs.look f.tag = some r ∧ r.for_ = .pooled id ∧ s.ctx id = some x ∧ x.stage ≠ .done ∧ x.remote = none ∧ x.replWait = false ∧ x.replFailed = false) → Effect (.rspReceived port f) s (port < 4 ∧ s.portsRun = true ∧ f.type = 0x30) fun t =>
    Ended id (statusOf (field f.payload 14 2 / 2)) (field f.payload 0 4) t ∧ t.fb.reqs = s.fb.reqs.del f.tag ∧ t.get JNR_TAGS_USED = t.fb.reqs.length % 2 ^ JNR_TAGS_USED.width ∧ Accepted port s t ∧ t.sqs = s.sqs ∧ t.ns = s.ns ∧ KeepsMedia s t ∧ KeepsPower s t

/-- RSP_RECEIVED (R371). -/
abbrev rspReceived_replica (port : Nat) (f : Frame) (r : Remote) (id k : Nat) (x : Ctx) (s : State) : Prop :=
  (Accepts port f s ∧ s.fb.reqs.look f.tag = some r ∧ r.for_ = .replicated id k ∧ k < 64 ∧ s.ctx id = some x ∧ x.stage ≠ .done ∧ x.remote = none ∧ x.replFailed = false ∧ x.localDone = true) → Effect (.rspReceived port f) s (port < 4 ∧ s.portsRun = true ∧ f.type = 0x30) fun t =>
    (statusOf (field f.payload 14 2 / 2) = .success → Ended id .success x.dw0 t) ∧ (statusOf (field f.payload 14 2 / 2) ≠ .success → Ended id .internalPathError 0 t ∧ t.flag JNR_BIND_0_OOS k = true ∧ Raises 139 s t) ∧ t.fb.reqs = s.fb.reqs.del f.tag ∧ Accepted port s t ∧ KeepsMedia s t ∧ KeepsPower s t

/-- RSP_RECEIVED (R371). -/
abbrev rspReceived_piece (port : Nat) (f : Frame) (r : Remote) (k : Nat) (x : Copy) (s : State) : Prop :=
  (Accepts port f s ∧ s.fb.reqs.look f.tag = some r ∧ r.for_ = .piece k ∧ s.fb.copies.look k = some x ∧ statusOf (field f.payload 14 2 / 2) = .success ∧ (x.next < x.stop ∨ 1 < x.inflight)) → Effect (.rspReceived port f) s (port < 4 ∧ s.portsRun = true ∧ f.type = 0x30) fun t =>
    t.fb.copies = s.fb.copies.put k { x with committed := x.committed + r.data.length, inflight := x.inflight - 1 } ∧ t.fb.reqs = s.fb.reqs.del f.tag ∧ Accepted port s t ∧ KeepsHost s t ∧ KeepsMedia s t ∧ KeepsPower s t

/-- RSP_RECEIVED (R371). -/
abbrev rspReceived_none (port : Nat) (f : Frame) (s : State) : Prop :=
  (Accepts port f s ∧ s.fb.reqs.look f.tag = none) → Effect (.rspReceived port f) s (port < 4 ∧ s.portsRun = true ∧ f.type = 0x30) fun t =>
    t.fb.reqs = s.fb.reqs ∧ Accepted port s t ∧ KeepsHost s t ∧ KeepsMedia s t ∧ KeepsPower s t

/-- RDATA_RECEIVED (R375). -/
abbrev rdataReceived (port : Nat) (f : Frame) (r : Remote) (id : Nat) (x : Ctx) (s : State) : Prop :=
  (Accepts port f s ∧ s.fb.reqs.look f.tag = some r ∧ r.for_ = .pooled id ∧ s.ctx id = some x) → Effect (.rdataReceived port f) s (port < 4 ∧ s.portsRun = true ∧ f.type = 0x31) fun t =>
    t.out.head? = some (.hostData x.port x.e.cid (x.e.dw10 + x.e.dw11 * 2 ^ 32 + f.offset / 4096) (unle f.payload) (s.tag x.port x.pasid)) ∧ t.fb.reqs = s.fb.reqs ∧ Accepted port s t ∧ KeepsHost s t ∧ KeepsMedia s t ∧ KeepsPower s t

/-- RDATA_RECEIVED (R375). -/
abbrev rdataReceived_none (port : Nat) (f : Frame) (s : State) : Prop :=
  (Accepts port f s ∧ s.fb.reqs.look f.tag = none) → Effect (.rdataReceived port f) s (port < 4 ∧ s.portsRun = true ∧ f.type = 0x31) fun t =>
    t.fb.reqs = s.fb.reqs ∧ Accepted port s t ∧ KeepsHost s t ∧ KeepsMedia s t ∧ KeepsPower s t

/-- E2E_TIMEOUT (R371). -/
abbrev e2eTimeout (tag : Nat) (r : Remote) (s : State) : Prop :=
  (s.fb.reqs.look tag = some r ∧ r.attempts < 2 ∧ s.hasPath r.dst = true) → Effect (.e2eTimeout tag) s (r.since + s.e2eNs ≤ s.now) fun t =>
    t.fb.reqs = s.fb.reqs.put tag { r with attempts := r.attempts + 1, since := s.now } ∧ Counts JNR_E2E_TMO 0 1 s t ∧ KeepsHost s t ∧ KeepsMedia s t ∧ KeepsPower s t

/-- E2E_TIMEOUT (R371). -/
abbrev e2eTimeout_fails (tag : Nat) (r : Remote) (id : Nat) (x : Ctx) (s : State) : Prop :=
  (s.fb.reqs.look tag = some r ∧ (2 ≤ r.attempts ∨ s.hasPath r.dst = false) ∧ r.for_ = .pooled id ∧ s.ctx id = some x ∧ x.stage ≠ .done ∧ x.remote = none ∧ x.replWait = false ∧ x.replFailed = false) → Effect (.e2eTimeout tag) s (r.since + s.e2eNs ≤ s.now) fun t =>
    t.fb.reqs = s.fb.reqs.del tag ∧ Raises 135 s t ∧ Ended id .internalPathError 0 t ∧ t.sqs = s.sqs ∧ t.ns = s.ns ∧ KeepsMedia s t ∧ KeepsPower s t

/-- E2E_TIMEOUT (R371). -/
abbrev e2eTimeout_none (tag : Nat) (s : State) : Prop :=
  Bound s → (s.fb.reqs.look tag = none) → Completes (.e2eTimeout tag) s fun t =>
    NoEffect s t

/-- DUP_ENTRY_EXPIRY (R372). -/
abbrev dupEntryExpiry (entry : Nat) (d : DupEntry) (s : State) : Prop :=
  (s.fb.dups[entry]? = some d) → Effect (.dupEntryExpiry entry) s (d.since + 2 * s.e2eNs ≤ s.now) fun t =>
    t.fb = { s.fb with dups := s.fb.dups.eraseIdx entry } ∧ OnlyRegs [] s t ∧ KeepsHost s t ∧ KeepsMedia s t ∧ KeepsPower s t ∧ KeepsFaults s t

/-- DUP_ENTRY_EXPIRY (R372). -/
abbrev dupEntryExpiry_none (entry : Nat) (s : State) : Prop :=
  Bound s → (s.fb.dups.length ≤ entry) → Completes (.dupEntryExpiry entry) s fun t =>
    NoEffect s t

/-- COPY_PIECE_SEND (R379). -/
abbrev copyPieceSend (copy tag : Nat) (data : List Nat) (x : Copy) (s : State) : Prop :=
  (s.fb.copies.look copy = some x ∧ s.hasPath x.node = true ∧ s.fb.reqs.freeKey 8192 = some tag) → Effect (.copyPieceSend copy data) s (s.inModes [.run, .service] = true ∧ x.running = true ∧ x.inflight < 8 ∧ x.next < x.stop ∧ data.length = min 512 (x.stop - x.next)) fun t =>
    t.fb.copies = s.fb.copies.put copy { x with next := x.next + data.length, inflight := x.inflight + 1 } ∧ (t.fb.reqs.look tag).map (fun r => (r.dst, r.type, r.data, r.attempts, r.entry.nsid, r.entry.dw10 + r.entry.dw11 * 2 ^ 32, r.entry.dw12, r.since)) = some (x.node, 0x12, data, 1, x.rnsid, x.rslba + (x.next - x.first), data.length - 1, s.now)
      ∧ KeepsHost s t ∧ KeepsMedia s t ∧ KeepsPower s t

/-- COPY_PIECE_SEND (R379). -/
abbrev copyPieceSend_none (copy : Nat) (data : List Nat) (s : State) : Prop :=
  Bound s → (s.fb.copies.look copy = none) → Completes (.copyPieceSend copy data) s fun t =>
    NoEffect s t

/-- JNR_WAKE_TX (R380). -/
abbrev jnrWakeTx (ports p : Nat) (s : State) : Prop :=
  (s.flag PSC_STATUS_HOLD_NOCFG = false ∧ p < 4 ∧ bit ports p = true ∧ s.cwState p = cwDown ∧ s.flag CWP_PCFG_EN p = true) → Effect (.jnrWakeTx ports) s (s.powered = true) fun t =>
    .wakePattern p ∈ t.out ∧ OnlyRegs [] s t ∧ KeepsAll s t

/-- BINDING_WAKE_TIMER (R380). -/
abbrev bindingWakeTimer (binding : Nat) (s : State) : Prop :=
  (s.hasPath (s.get JNR_BIND_1_NODE binding) = true) → Effect (.bindingWakeTimer binding) s (binding < 64 ∧ s.portsRun = true ∧ s.flag JNR_BIND_0_V binding = true) fun t =>
    t.fb = { s.fb with wakes := s.fb.wakes.del binding } ∧ t.out = s.out ∧ OnlyRegs [] s t ∧ KeepsHost s t ∧ KeepsMedia s t ∧ KeepsPower s t ∧ KeepsFaults s t

/-- BINDING_WAKE_TIMER (R380). -/
abbrev bindingWakeTimer_first (binding : Nat) (s : State) : Prop :=
  (s.hasPath (s.get JNR_BIND_1_NODE binding) = false ∧ s.fb.wakes.look binding = none) → Effect (.bindingWakeTimer binding) s (binding < 64 ∧ s.portsRun = true ∧ s.flag JNR_BIND_0_V binding = true) fun t =>
    t.fb = { s.fb with wakes := s.fb.wakes.put binding (1, s.now) } ∧ (∀ p ∈ [0, 1, 2, 3], s.cwState p = cwDown → s.flag CWP_PCFG_EN p = true → .wakePattern p ∈ t.out) ∧ OnlyRegs [] s t ∧ KeepsHost s t ∧ KeepsMedia s t ∧ KeepsPower s t ∧ KeepsFaults s t

/-- BINDING_WAKE_TIMER (R380). -/
abbrev bindingWakeTimer_next (binding n at_ : Nat) (s : State) : Prop :=
  (s.hasPath (s.get JNR_BIND_1_NODE binding) = false ∧ s.fb.wakes.look binding = some (n, at_) ∧ n < 100) → Effect (.bindingWakeTimer binding) s (binding < 64 ∧ s.portsRun = true ∧ s.flag JNR_BIND_0_V binding = true ∧ at_ + 10000000 ≤ s.now) fun t =>
    t.fb = { s.fb with wakes := s.fb.wakes.put binding (n + 1, s.now) } ∧ (∀ p ∈ [0, 1, 2, 3], s.cwState p = cwDown → s.flag CWP_PCFG_EN p = true → .wakePattern p ∈ t.out) ∧ OnlyRegs [] s t ∧ KeepsHost s t ∧ KeepsMedia s t ∧ KeepsPower s t ∧ KeepsFaults s t

/-- BINDING_WAKE_TIMER (R380). -/
abbrev bindingWakeTimer_over (binding n at_ : Nat) (s : State) : Prop :=
  Bound s → (s.hasPath (s.get JNR_BIND_1_NODE binding) = false ∧ s.fb.wakes.look binding = some (n, at_) ∧ 100 ≤ n) → Completes (.bindingWakeTimer binding) s fun t =>
    NoEffect s t

/-- JNR_CFG_WRITE (R364). -/
abbrev jnrCfgWrite (value : Nat) (s : State) : Prop :=
  Effect (.jnrCfgWrite value) s (s.powered = true) fun t =>
    t.get JNR_CFG_NODE_ID = bits value 11 0 ∧ t.get JNR_CFG_DOMAIN = bits value 27 12 ∧ t.get JNR_CFG_MGMT_EN = bits value 28 28 ∧ t.fb.dupId = false ∧ t.get JNR_STATUS_RECOMP = 1 ∧ t.unbound = (if 2 ^ 29 ≤ value % 2 ^ 32 then [.rsv (rJNR_CFG.at 0 0)] else []) ∧ t.fb.reqs = s.fb.reqs ∧ KeepsHost s t ∧ KeepsMedia s t ∧ KeepsPower s t

/-- JNR_BIND_WRITE (R377). -/
abbrev jnrBindWrite (binding word value : Nat) (s : State) : Prop :=
  ((word = 0 → bits value 30 13 = 0) ∧ (word = 1 → bits value 31 22 = 0) ∧ word < 2) → Effect (.jnrBindWrite binding word value) s (s.powered = true ∧ binding < 64 ∧ word < 2) fun t =>
    (word = 0 → t.get JNR_BIND_0_LNSID binding = bits value 9 0 ∧ t.get JNR_BIND_0_KIND binding = bits value 11 10 ∧ t.get JNR_BIND_0_V binding = bits value 31 31) ∧ (word = 1 → t.get JNR_BIND_1_NODE binding = bits value 11 0 ∧ t.get JNR_BIND_1_RNSID binding = bits value 21 12)
      ∧ t.get JNR_BIND_0_OOS binding = 0 ∧ t.fb = { s.fb with wakes := s.fb.wakes.del binding } ∧ KeepsHost s t ∧ KeepsMedia s t ∧ KeepsPower s t ∧ KeepsFaults s t

/-- ERROR_REPORT (R383). -/
abbrev errorReport (addr master type cls space : Nat) (s : State) : Prop :=
  (cls = 1) → Effect (.errorReport addr master type cls space) s (s.coreOn = true) fun t =>
    Counts FCL_CE_CNT 0 1 s t ∧ t.flag FCL_STATUS_VALID = true ∧ (s.flag FCL_STATUS_VALID = false → t.get FCL_FIRST_INFO_CLASS = 1 ∧ t.get FCL_FIRST_INFO_MASTER = master % 2 ^ FCL_FIRST_INFO_MASTER.width ∧ t.get FCL_FIRST_INFO_TYPE = type % 2 ^ FCL_FIRST_INFO_TYPE.width ∧ t.get FCL_FIRST_ADDR_LO = addr % 2 ^ 32)
      ∧ (s.flag FCL_STATUS_VALID = true → t.get FCL_FIRST_ADDR_LO = s.get FCL_FIRST_ADDR_LO ∧ (s.get FCL_STATUS_MERGED < 255 → t.get FCL_STATUS_MERGED = s.get FCL_STATUS_MERGED + 1)) ∧ t.fc = s.fc ∧ t.th = s.th ∧ KeepsHost s t ∧ KeepsMedia s t ∧ KeepsPower s t ∧ KeepsService s t

/-- ERROR_REPORT (R383). -/
abbrev errorReport_contained (addr master type cls space : Nat) (s : State) : Prop :=
  (cls = 2) → Effect (.errorReport addr master type cls space) s (s.coreOn = true) fun t =>
    Counts FCL_UE_CNT 0 1 s t ∧ t.flag FCL_STATUS_VALID = true ∧ (s.flag FCL_STATUS_VALID = false → t.get FCL_FIRST_INFO_CLASS = 2) ∧ (s.flag FCL_STATUS_VALID = true → t.get FCL_FIRST_INFO_WORST = max 2 (s.get FCL_FIRST_INFO_WORST))
      ∧ t.fc = s.fc ∧ t.th = s.th ∧ KeepsHost s t ∧ KeepsMedia s t ∧ KeepsPower s t ∧ KeepsService s t

/-- ERROR_REPORT (R383). -/
abbrev errorReport_fatal (addr master type cls space : Nat) (s : State) : Prop :=
  (cls = 3 ∧ s.md.stopped = false ∧ s.md.restStep = none ∧ (s.md.mode = .run ∨ s.md.mode = .service)) → Effect (.errorReport addr master type cls space) s (s.coreOn = true) fun t =>
    t.md.mode = .detour ∧ t.hu.dump.map (fun d => (d.empty, d.fault)) = some (false, true) ∧ t.fc.fatal = true ∧ t.fc.anyFatal = true ∧ t.fc.dumpSince = some s.now ∧ t.fc.safe.2.1 = true ∧ t.md.fetchStop = true

/-- ERROR_REPORT (R383). -/
abbrev errorReport_fatal_down (addr master type cls space : Nat) (s : State) : Prop :=
  (cls = 3 ∧ s.md.stopped = false ∧ (s.md.mode = .boot ∨ s.md.mode = .hold) ∧ s.pw.seq = .idle ∧ (s.rail 8).enabled = true ∧ (s.rail 7).enabled = true) → Effect (.errorReport addr master type cls space) s (s.coreOn = true) fun t =>
    t.pw.seq = .down 10 ∧ t.pw.making.cause = 1 ∧ t.fc.fatal = true ∧ t.fc.anyFatal = true ∧ t.fc.safe.2.1 = true ∧ t.fc.dumpSince = s.fc.dumpSince ∧ Counts FCL_FATAL_CNT 0 1 s t ∧ t.hu.dump = s.hu.dump

/-- ERROR_REPORT (R383). -/
abbrev errorReport_fatal_again (addr master type cls space : Nat) (s : State) : Prop :=
  (cls = 3 ∧ (s.md.stopped = true ∨ s.md.mode = .detour ∨ s.md.mode = .ret)) → Effect (.errorReport addr master type cls space) s (s.coreOn = true) fun t =>
    t.fc.fatal = true ∧ t.fc.anyFatal = true ∧ t.fc.dumpSince = s.fc.dumpSince ∧ Counts FCL_FATAL_CNT 0 1 s t ∧ t.md = s.md ∧ t.pw = s.pw ∧ t.hu = s.hu ∧ KeepsHost s t ∧ KeepsMedia s t ∧ KeepsService s t

/-- FAULT_DUMP_TIMEOUT (R386). -/
abbrev faultDumpTimeout (q : Nat) (s : State) : Prop :=
  (s.fc.dumpSince = some q ∧ s.pw.seq = .idle ∧ (s.rail 8).enabled = true ∧ (s.rail 7).enabled = true) → Effect .faultDumpTimeout s (s.inModes [.detour] = true ∧ q + 1000000000 ≤ s.now ∧ s.hu.dump.bind (·.committedAt) = none) fun t =>
    t.fc.safe = (true, true, true) ∧ t.pw.seq = .down 10 ∧ t.pw.making.cause = 1 ∧ t.pw.rsto = (true, true) ∧ t.md.stopped = true ∧ t.hu.dump = s.hu.dump ∧ KeepsHost s t ∧ KeepsMedia s t ∧ KeepsService s t

/-- FAULT_DUMP_TIMEOUT (R386). -/
abbrev faultDumpTimeout_none (s : State) : Prop :=
  Bound s → (s.fc.dumpSince = none) → Completes .faultDumpTimeout s fun t =>
    NoEffect s t

/-- RESTART_COUNT_RESET (R386). -/
abbrev restartCountReset (s : State) : Prop :=
  Effect .restartCountReset s (s.inModes [.run] = true ∧ s.fc.fatal = false ∧ 3600000 ≤ s.fc.runMs) fun t =>
    t.get FCL_RESTART_CNT = 0 ∧ OnlyRegs [FCL_RESTART_CNT.key 0 0] s t ∧ KeepsAll s t

/-- FCL_CAPTURE_CLEAR (R384). -/
abbrev fclCaptureClear (s : State) : Prop :=
  Effect .fclCaptureClear s (s.powered = true) fun t =>
    t.get FCL_STATUS_VALID = 0 ∧ t.get FCL_STATUS_OVF = 0 ∧ t.get FCL_STATUS_MERGED = 0 ∧ t.get FCL_FIRST_ADDR_LO = 0 ∧ t.get FCL_FIRST_INFO_CLASS = 0 ∧ t.get FCL_FIRST_TS_LO = 0 ∧ t.get FCL_CE_CNT = s.get FCL_CE_CNT ∧ t.get FCL_UE_CNT = s.get FCL_UE_CNT ∧ KeepsAll s t

/-- EVENT_DISPATCH (R389). -/
abbrev eventDispatch (r : EvReq) (s : State) : Prop :=
  (leastBy (·.src) s.ev.todo = some r ∧ bit (s.get EVR_HOST_EN (r.src / 32)) (r.src % 32) = false ∧ s.ms.logQ = [] ∧ s.ms.newest = none) → Effect .eventDispatch s (s.coreOn = true) fun t =>
    t.ev = { s.ev with todo := s.ev.todo.erase r } ∧ (bit (s.get EVR_LOG_EN (r.src / 32)) (r.src % 32) = true → t.ms.logQ.map (fun q => (q.code, q.p0, q.rep)) = [(r.src, r.param % 65536, 1)]) ∧ (bit (s.get EVR_LOG_EN (r.src / 32)) (r.src % 32) = false → t.ms.logQ = [])
      ∧ OnlyRegs [] s t ∧ t.sqs = s.sqs ∧ t.cqs = s.cqs ∧ t.ctxs = s.ctxs ∧ KeepsMedia s t ∧ KeepsPower s t ∧ KeepsService s t

/-- EVENT_DISPATCH (R389). -/
abbrev eventDispatch_folds (r : EvReq) (n : Nat) (q : LogRec) (s : State) : Prop :=
  (leastBy (·.src) s.ev.todo = some r ∧ bit (s.get EVR_HOST_EN (r.src / 32)) (r.src % 32) = false ∧ bit (s.get EVR_LOG_EN (r.src / 32)) (r.src % 32) = true ∧ s.ms.logQ = [] ∧ s.ms.newest = some n ∧ s.ms.ring.look n = some q ∧ q.code = r.src ∧ q.p0 = r.param % 65536 ∧ q.p1 = r.param / 65536 % 65536 ∧ q.p2 = 0 ∧ q.p3 = 0 ∧ q.rep + s.ms.foldRep < 0xFFFF) → Effect .eventDispatch s (s.coreOn = true) fun t =>
    t.ms.foldRep = s.ms.foldRep + 1 ∧ t.ms.logQ = [] ∧ t.ms.ring = s.ms.ring ∧ t.ev = { s.ev with todo := s.ev.todo.erase r } ∧ OnlyRegs [] s t ∧ KeepsMedia s t ∧ KeepsPower s t ∧ KeepsService s t

/-- EVENT_DISPATCH (R389). -/
abbrev eventDispatch_queued (r : EvReq) (s : State) : Prop :=
  (leastBy (·.src) s.ev.todo = some r ∧ bit (s.get EVR_HOST_EN (r.src / 32)) (r.src % 32) = true ∧ bit (s.get EVR_LOG_EN (r.src / 32)) (r.src % 32) = false ∧ s.ev.queue.length < 256) → Effect .eventDispatch s (s.coreOn = true) fun t =>
    t.ev.queue.map (·.code) = s.ev.queue.map (·.code) ++ [r.src] ∧ t.get EVR_QCOUNT = s.ev.queue.length + 1 ∧ t.ev.lost = s.ev.lost ∧ t.ev.reported = true ∧ t.sqs = s.sqs ∧ t.cqs = s.cqs ∧ KeepsMedia s t ∧ KeepsPower s t ∧ KeepsService s t

/-- EVENT_DISPATCH (R389). -/
abbrev eventDispatch_full (r : EvReq) (s : State) : Prop :=
  (leastBy (·.src) s.ev.todo = some r ∧ bit (s.get EVR_HOST_EN (r.src / 32)) (r.src % 32) = true ∧ bit (s.get EVR_LOG_EN (r.src / 32)) (r.src % 32) = false ∧ 256 ≤ s.ev.queue.length) → Effect .eventDispatch s (s.coreOn = true) fun t =>
    t.ev.queue.map (·.code) = (s.ev.queue.drop 1).map (·.code) ++ [r.src] ∧ t.ev.lost = min (s.ev.lost + 1) (2 ^ 32 - 1) ∧ t.ev.anyLost = true ∧ t.ev.reported = true ∧ t.sqs = s.sqs ∧ KeepsMedia s t ∧ KeepsPower s t ∧ KeepsService s t

/-- EVENT_DISPATCH (R389). -/
abbrev eventDispatch_interrupt (r : EvReq) (s : State) : Prop :=
  (leastBy (·.src) s.ev.todo = some r ∧ r.fresh = true ∧ bit (s.get EVR_HOST_EN (r.src / 32)) (r.src % 32) = false ∧ bit (s.get EVR_IRQ_EN (r.src / 32)) (r.src % 32) = true ∧ s.flag EVR_CTRL_IRQ = true ∧ (s.port s.privPort).cfg.msixEnable = true) → Effect .eventDispatch s (s.coreOn = true) fun t =>
    ((s.port s.privPort).cfg.msixFMask = false → 0 ∈ (s.port s.privPort).msixOpen → t.out.head? = some (.msix s.privPort 0 ((s.port s.privPort).msixAddr.lookD 0 0) ((s.port s.privPort).msixData.lookD 0 0) (s.tag s.privPort none)))
      ∧ ((s.port s.privPort).cfg.msixFMask = true ∨ 0 ∉ (s.port s.privPort).msixOpen → 0 ∈ (t.port t.privPort).msixPba ∧ t.out = s.out) ∧ t.ev = { s.ev with todo := s.ev.todo.erase r } ∧ t.sqs = s.sqs ∧ t.cqs = s.cqs ∧ KeepsMedia s t ∧ KeepsPower s t ∧ KeepsService s t

/-- EVENT_DISPATCH (R389). -/
abbrev eventDispatch_none (s : State) : Prop :=
  Bound s → (s.ev.todo = []) → Completes .eventDispatch s fun t =>
    NoEffect s t

/-- EVR_QCLR (R390). -/
abbrev evrQclr (s : State) : Prop :=
  Effect .evrQclr s (s.powered = true) fun t =>
    t.ev = { s.ev with queue := [] } ∧ t.get EVR_QCOUNT = 0 ∧ OnlyRegs [EVR_QCOUNT.key 0 0] s t ∧ KeepsHost s t ∧ KeepsMedia s t ∧ KeepsPower s t ∧ KeepsService s t ∧ t.fc = s.fc ∧ t.th = s.th

/-- LOG_RECORD_WRITE (R397). -/
abbrev logRecordWrite (r : LogRec) (rest : List LogRec) (s : State) : Prop :=
  (s.ms.logQ = r :: rest) → Effect .logRecordWrite s (s.coreOn = true ∧ s.ms.recAt + 1000000 ≤ s.now) fun t =>
    t.ms.logQ = rest ∧ (t.ms.ring.look (s.get MSM_LOG_HEAD_INDEX)).map (fun q => (q.code, q.rep, q.p0, q.mark)) = some (r.code, r.rep, r.p0, if s.flag MSM_LOG_HEAD_PASS then 0xC3 else 0xA5) ∧ t.ms.newest = some (s.get MSM_LOG_HEAD_INDEX) ∧ t.ms.foldRep = 0 ∧ t.ms.dropped = false ∧ t.ms.recAt = s.now
      ∧ t.get MSM_LOG_HEAD_INDEX = (s.get MSM_LOG_HEAD_INDEX + 1) % 32768 ∧ OnlyRegs [MSM_LOG_HEAD_INDEX.key 0 0, MSM_LOG_HEAD_PASS.key 0 0] s t ∧ KeepsHost s t ∧ KeepsMedia s t ∧ KeepsPower s t ∧ KeepsService s t ∧ t.ev = s.ev ∧ t.fc = s.fc ∧ t.th = s.th

/-- LOG_RECORD_WRITE (R397). -/
abbrev logRecordWrite_empty (s : State) : Prop :=
  (s.ms.logQ = []) → Effect .logRecordWrite s (s.coreOn = true ∧ s.ms.recAt + 1000000 ≤ s.now) fun t =>
    t.ms = { s.ms with recAt := s.now } ∧ OnlyRegs [] s t ∧ KeepsHost s t ∧ KeepsMedia s t ∧ KeepsPower s t ∧ KeepsService s t

/-- LOG_REPEAT_FLUSH (R398). -/
abbrev logRepeatFlush (n q : Nat) (r : LogRec) (s : State) : Prop :=
  (s.ms.foldSince = some q ∧ 0 < s.ms.foldRep ∧ s.ms.newest = some n ∧ s.ms.ring.look n = some r) → Effect .logRepeatFlush s (s.coreOn = true ∧ q + 1000000000 ≤ s.now) fun t =>
    (t.ms.ring.look n).map (fun q => (q.code, q.rep, q.p0)) = some (r.code, r.rep + s.ms.foldRep, r.p0) ∧ t.ms.foldRep = 0 ∧ t.ms.foldSince = none ∧ t.ms.logQ = s.ms.logQ ∧ OnlyRegs [] s t ∧ KeepsHost s t ∧ KeepsMedia s t ∧ KeepsPower s t ∧ KeepsService s t ∧ t.ev = s.ev ∧ t.fc = s.fc ∧ t.th = s.th

/-- LOG_REPEAT_FLUSH (R398). -/
abbrev logRepeatFlush_none (s : State) : Prop :=
  Bound s → (s.ms.foldSince = none) → Completes .logRepeatFlush s fun t =>
    NoEffect s t

/-- MILESTONE_LINE_WRITE (R393). -/
abbrev milestoneLineWrite (line pulses : Nat) (ok : Bool) (s : State) : Prop :=
  (ok = true ∧ pulses = 1) → Effect (.milestoneLineWrite line pulses ok) s (s.coreOn = true ∧ line < 27648 ∧ 1 ≤ pulses ∧ pulses ≤ 3) fun t =>
    t.ms.failedLines = s.ms.failedLines.filter (· != line) ∧ t.ms.lines = s.ms.lines ∧ OnlyRegs [] s t ∧ KeepsHost s t ∧ KeepsMedia s t ∧ KeepsPower s t ∧ KeepsService s t ∧ t.ev = s.ev ∧ t.fc = s.fc ∧ t.th = s.th

/-- MILESTONE_LINE_WRITE (R393). -/
abbrev milestoneLineWrite_again (line pulses : Nat) (ok : Bool) (s : State) : Prop :=
  (ok = true ∧ 1 < pulses ∧ ((s.ms.lines.lookD line LineEntry.fresh).pulse2 ≠ 3 ∨ (s.ms.lines.lookD line LineEntry.fresh).retired = true)) → Effect (.milestoneLineWrite line pulses ok) s (s.coreOn = true ∧ line < 27648 ∧ 1 ≤ pulses ∧ pulses ≤ 3) fun t =>
    t.ms.lines = s.ms.lines.put line { s.ms.lines.lookD line LineEntry.fresh with pulse2 := min 7 ((s.ms.lines.lookD line LineEntry.fresh).pulse2 + 1) } ∧ t.ms.mapSeq = s.ms.mapSeq.put (line / 28) (s.ms.mapSeq.lookD (line / 28) 0 + 1) ∧ Counts MSM_PULSE2_CNT 0 1 s t ∧ Counts FCL_CE_CNT 0 1 s t ∧ t.get MSM_SPARES = s.get MSM_SPARES ∧ KeepsHost s t ∧ KeepsMedia s t ∧ KeepsPower s t ∧ KeepsService s t

/-- MILESTONE_LINE_WRITE (R393). -/
abbrev milestoneLineWrite_fourth (line pulses : Nat) (ok : Bool) (s : State) : Prop :=
  (ok = true ∧ 1 < pulses ∧ (s.ms.lines.lookD line LineEntry.fresh).pulse2 = 3 ∧ (s.ms.lines.lookD line LineEntry.fresh).retired = false ∧ 0 < s.get MSM_SPARES) → Effect (.milestoneLineWrite line pulses ok) s (s.coreOn = true ∧ line < 27648 ∧ 1 ≤ pulses ∧ pulses ≤ 3) fun t =>
    t.ms.lines.look line = some { pulse2 := 4, retired := true, spare := 3072 - s.get MSM_SPARES } ∧ t.get MSM_SPARES = s.get MSM_SPARES - 1 ∧ Counts MSM_PULSE2_CNT 0 1 s t ∧ Counts MSM_RETIRE_CNT 0 1 s t ∧ Raises 224 s t ∧ KeepsHost s t ∧ KeepsMedia s t ∧ KeepsPower s t ∧ KeepsService s t

/-- MILESTONE_LINE_WRITE (R393). -/
abbrev milestoneLineWrite_retires (line pulses : Nat) (ok : Bool) (s : State) : Prop :=
  (ok = false ∧ (s.ms.lines.lookD line LineEntry.fresh).retired = false ∧ 0 < s.get MSM_SPARES) → Effect (.milestoneLineWrite line pulses ok) s (s.coreOn = true ∧ line < 27648 ∧ 1 ≤ pulses ∧ pulses ≤ 3) fun t =>
    t.ms.lines.look line = some { s.ms.lines.lookD line LineEntry.fresh with retired := true, spare := 3072 - s.get MSM_SPARES } ∧ t.get MSM_SPARES = s.get MSM_SPARES - 1 ∧ Counts MSM_RETIRE_CNT 0 1 s t ∧ Raises 224 s t ∧ KeepsHost s t ∧ KeepsMedia s t ∧ KeepsPower s t ∧ KeepsService s t ∧ t.fc = s.fc ∧ t.th = s.th

/-- MILESTONE_LINE_WRITE (R393). -/
abbrev milestoneLineWrite_fails (line pulses : Nat) (ok : Bool) (s : State) : Prop :=
  (ok = false ∧ ((s.ms.lines.lookD line LineEntry.fresh).retired = true ∨ s.get MSM_SPARES = 0)) → Effect (.milestoneLineWrite line pulses ok) s (s.coreOn = true ∧ line < 27648 ∧ 1 ≤ pulses ∧ pulses ≤ 3) fun t =>
    t.get MSM_STATUS_WFAIL = 1 ∧ Raises 228 s t ∧ line ∈ t.ms.failedLines ∧ ((s.ms.lines.lookD line LineEntry.fresh).retired = false → t.get MSM_STATUS_NOSPARE = 1 ∧ Raises 225 s t) ∧ t.get MSM_SPARES = s.get MSM_SPARES
      ∧ (4096 ≤ line → line < 20480 → Counts MSM_LOG_DROP 0 1 s t ∧ t.ms.dropped = true) ∧ KeepsHost s t ∧ KeepsMedia s t ∧ KeepsPower s t ∧ t.fc = s.fc ∧ t.th = s.th

/-- EPOCH_HEADER_WRITE (R401). -/
abbrev epochHeaderWrite (s : State) : Prop :=
  Effect .epochHeaderWrite s (s.coreOn = true ∧ s.md.mode ≠ .rest ∧ s.ms.epochAt + 10000000 ≤ s.now) fun t =>
    t.ms.epoch = s.ms.epoch + 1 ∧ (t.ms.epochRing.look (t.ms.epoch % 1024)).map (fun h => (h.epoch, h.cycles, h.dirty, h.count)) = some (s.ms.epoch + 1, s.get MSM_PWR_CYCLES, s.dirtyAll, t.ms.slots.length) ∧ t.ms.epochAt = s.now ∧ t.ms.ring = s.ms.ring ∧ OnlyRegs [] s t ∧ KeepsHost s t ∧ KeepsMedia s t ∧ KeepsPower s t ∧ KeepsService s t
      ∧ t.ev = s.ev ∧ t.fc = s.fc ∧ t.th = s.th

/-- COUNTER_LINE_WRITE (R395). -/
abbrev counterLineWrite (s : State) : Prop :=
  Effect .counterLineWrite s (s.coreOn = true ∧ s.ms.countersAt + 10000000000 ≤ s.now) fun t =>
    t.ms.counters = s.counterRegs ∧ t.ms.countersAt = s.now ∧ { t.ms with counters := s.ms.counters, countersAt := s.ms.countersAt } = s.ms ∧ OnlyRegs [] s t ∧ KeepsHost s t ∧ KeepsMedia s t ∧ KeepsPower s t ∧ KeepsService s t ∧ t.ev = s.ev ∧ t.fc = s.fc ∧ t.th = s.th

/-- OPERATING_HOURS_STEP (R395). -/
abbrev operatingHoursStep (s : State) : Prop :=
  Effect .operatingHoursStep s (s.coreOn = true ∧ (s.get MSM_OP_HOURS + 1) * 360000 ≤ s.ms.opMs) fun t =>
    Counts MSM_OP_HOURS 0 1 s t ∧ t.ms.opMs = s.ms.opMs ∧ t.ms.counters.lookD (MSM_OP_HOURS.key 0 0) 0 = t.get MSM_OP_HOURS ∧ t.ms.ring = s.ms.ring ∧ KeepsHost s t ∧ KeepsMedia s t ∧ KeepsPower s t ∧ KeepsService s t ∧ t.fc = s.fc ∧ t.th = s.th

/-- MSM_LOG_DATA_READ (R399). -/
abbrev msmLogDataRead (port size off : Nat) (s : State) : Prop :=
  (((size = 1 ∨ size = 2 ∨ size = 4) ∧ off < 4 ∧ off % size = 0) ∧ s.get MSM_LOG_CUR_WORD % 8 = 0) → Effect (.msmLogDataRead port size off) s (s.powered = true ∧ port = s.privPort) fun t =>
    t.out = .readData (rMSM_LOG_DATA.at 0 0 + off) size ((field (match s.ms.ring.look (s.get MSM_LOG_CUR_WORD / 8) with | some r => recBytes r | none => zeros 32) 0 4) / 2 ^ (8 * off) % 2 ^ (8 * size)) :: s.out ∧ t.ms.latch = s.ms.ring.look (s.get MSM_LOG_CUR_WORD / 8) ∧ t.get MSM_LOG_CUR_WORD = (s.get MSM_LOG_CUR_WORD + 1) % 2 ^ 18
      ∧ OnlyRegs [MSM_LOG_CUR_WORD.key 0 0] s t ∧ t.ms.ring = s.ms.ring ∧ KeepsHost s t ∧ KeepsMedia s t ∧ KeepsPower s t ∧ KeepsService s t

/-- MSM_LOG_DATA_READ (R399). -/
abbrev msmLogDataRead_next (port size off : Nat) (s : State) : Prop :=
  (((size = 1 ∨ size = 2 ∨ size = 4) ∧ off < 4 ∧ off % size = 0) ∧ s.get MSM_LOG_CUR_WORD % 8 ≠ 0) → Effect (.msmLogDataRead port size off) s (s.powered = true ∧ port = s.privPort) fun t =>
    t.out = .readData (rMSM_LOG_DATA.at 0 0 + off) size ((field (match s.ms.latch with | some r => recBytes r | none => zeros 32) (4 * (s.get MSM_LOG_CUR_WORD % 8)) 4) / 2 ^ (8 * off) % 2 ^ (8 * size)) :: s.out ∧ t.ms.latch = s.ms.latch ∧ t.get MSM_LOG_CUR_WORD = (s.get MSM_LOG_CUR_WORD + 1) % 2 ^ 18
      ∧ OnlyRegs [MSM_LOG_CUR_WORD.key 0 0] s t ∧ t.ms.ring = s.ms.ring ∧ KeepsHost s t ∧ KeepsMedia s t ∧ KeepsPower s t ∧ KeepsService s t

/-- MSM_WIN_DATA_READ (R392). -/
abbrev msmWinDataRead (port size off : Nat) (b : List Nat) (s : State) : Prop :=
  (((size = 1 ∨ size = 2 ∨ size = 4) ∧ off < 4 ∧ off % size = 0) ∧ s.shownLine (s.get MSM_WIN_ADDR_LINE) = some b) → Effect (.msmWinDataRead port size off) s (s.powered = true ∧ port = s.privPort) fun t =>
    t.out = .readData (rMSM_WIN_DATA.at 0 0 + off) size (field b s.ms.winPos 4 / 2 ^ (8 * off) % 2 ^ (8 * size)) :: s.out ∧ t.ms = { s.ms with winPos := (s.ms.winPos + 4) % 64 } ∧ t.freeCtr = s.freeCtr ∧ OnlyRegs [] s t ∧ KeepsHost s t ∧ KeepsMedia s t ∧ KeepsPower s t ∧ KeepsService s t

/-- MSM_WIN_DATA_READ (R392). -/
abbrev msmWinDataRead_free (port size off : Nat) (s : State) : Prop :=
  (((size = 1 ∨ size = 2 ∨ size = 4) ∧ off < 4 ∧ off % size = 0) ∧ s.shownLine (s.get MSM_WIN_ADDR_LINE) = none) → Effect (.msmWinDataRead port size off) s (s.powered = true ∧ port = s.privPort) fun t =>
    t.out.length = s.out.length + 1 ∧ t.ms = { s.ms with winPos := (s.ms.winPos + 4) % 64 } ∧ OnlyRegs [] s t ∧ KeepsHost s t ∧ KeepsMedia s t ∧ KeepsPower s t ∧ KeepsService s t

/-- MSM_REPORT_CLR (R402). -/
abbrev msmReportClr (s : State) : Prop :=
  Effect .msmReportClr s (s.powered = true) fun t =>
    t.ms.report = none ∧ t.get MSM_STATUS_REPORT = 0 ∧ OnlyRegs [MSM_STATUS_REPORT.key 0 0] s t ∧ t.ms.ring = s.ms.ring ∧ KeepsHost s t ∧ KeepsMedia s t ∧ KeepsPower s t ∧ KeepsService s t

/-- HOUSEKEEPING_ROUND (R403). -/
abbrev housekeepingRound (r : Round) (s : State) : Prop :=
  (s.md.offSince = none ∧ s.md.holdEntry = none ∧ s.md.holdWait = false ∧ s.flag THM_STATUS_WR_FORBID = false ∧ (r.die.all fun x => decide (x < 500)) = true ∧ r.powerMw < 65536) → Effect (.housekeepingRound r) s (s.coreOn = true ∧ s.th.roundAt + 10000000 ≤ s.now) fun t =>
    (∀ k ∈ List.range 12, t.get THM_SENSE_READING k = toTwos 16 (r.die.getD k 0) ∧ t.get PSQ_VMON k = r.railMv.getD k 0 % 65536) ∧ (∀ k ∈ List.range 8, 1 ≤ s.get THM_EXT_CFG_ROLE k → s.get THM_EXT_CFG_ROLE k ≤ 4 → t.get THM_EXT_READING k = toTwos 16 (r.ext.getD k 0)) ∧ t.get PSC_PWR_NOW = r.powerMw ∧ t.th.roundAt = s.now
      ∧ t.md.mode = s.md.mode ∧ t.pw = s.pw ∧ t.fc = s.fc ∧ t.sqs = s.sqs ∧ t.ns = s.ns

/-- HOUSEKEEPING_ROUND (R403). -/
abbrev housekeepingRound_throttles (r : Round) (s : State) : Prop :=
  (s.md.offSince = none ∧ s.md.holdEntry = none ∧ s.md.holdWait = false ∧ s.flag THM_STATUS_WR_FORBID = false ∧ s.th.excluded = [] ∧ r.die = List.replicate 12 (4 * (s.step1C : Int)) ∧ s.step1C < s.step2C ∧ 1 ≤ s.th.over1 ∧ s.get THM_STATUS_STEP = 0) → Effect (.housekeepingRound r) s (s.coreOn = true ∧ s.th.roundAt + 10000000 ≤ s.now) fun t =>
    t.get THM_STATUS_STEP = 1 ∧ t.get GLB_MODE_STATUS_THROTTLE = 1 ∧ Counts THM_STEP1_CNT 0 1 s t ∧ Raises 192 s t ∧ t.get THM_JMAX_READING = 4 * s.step1C ∧ t.get THM_STATUS_NVALID = 12 ∧ t.md.mode = s.md.mode ∧ t.pw = s.pw

/-- HOUSEKEEPING_ROUND (R403). -/
abbrev housekeepingRound_shutdown (r : Round) (s : State) : Prop :=
  (s.md.offSince = none ∧ s.md.holdEntry = none ∧ s.md.holdWait = false ∧ s.th.excluded = [] ∧ r.die = List.replicate 12 500 ∧ s.th.declared = none ∧ s.md.stopped = false ∧ s.md.restStep = none ∧ (s.md.mode = .run ∨ s.md.mode = .service)) → Effect (.housekeepingRound r) s (s.coreOn = true ∧ s.th.roundAt + 10000000 ≤ s.now) fun t =>
    t.md.mode = .detour ∧ t.hu.dump.map (fun d => (d.empty, d.thermal)) = some (false, true) ∧ t.th.declared.map (fun x => (x.immediate, x.jmax, x.mode)) = some (false, 500, s.md.mode.code) ∧ t.md.fetchStop = true

/-- THERMAL_TRIP (R409). -/
abbrev thermalTrip (sensor : Nat) (s : State) : Prop :=
  Effect (.thermalTrip sensor) s ((s.rail 1).armed = true ∧ sensor < 12) fun t =>
    t.md.mode = .off ∧ (t.pw.stored.cause, t.pw.stored.rail, t.pw.stored.dir) = (6, 0, 0) ∧ t.pw.needPerst = true ∧ t.pw.rsto = (true, true) ∧ t.ms.therm.map (fun x => (x.immediate, x.jmax, x.sensor)) = some (true, 520, sensor) ∧ t.ctxs = [] ∧ t.sqs = [] ∧ t.hu.records = s.hu.records

/-- FIRMWARE_STORE_READ (R413). -/
abbrev firmwareStoreRead (line bits : Nat) (core branch : Option Nat) (s : State) : Prop :=
  ((s.flag FWS_CFG_PF_EN = false ∨ line ∉ s.fw.prefetch) ∧ (s.flag FWS_CFG_BC_EN = false ∨ ∀ a ∈ branch, a ∉ s.fw.branches) ∧ bits < s.cbitTh) → Effect (.firmwareStoreRead line bits core branch) s (s.coreOn = true ∧ line < 2 ^ 19 ∧ (∀ k ∈ core, k ≤ 17) ∧ (∀ a ∈ branch, a / 256 = line)) fun t =>
    OnlyRegs [] s t ∧ t.out = s.out ∧ t.fw.branches = (if s.flag FWS_CFG_BC_EN then (match branch with | some a => (a :: s.fw.branches.filter (· != a)).take 64 | none => s.fw.branches) else s.fw.branches) ∧ (s.flag FWS_CFG_PF_EN = true → (line + 1) ∈ t.fw.prefetch ∧ (line + 2) ∈ t.fw.prefetch) ∧ (s.flag FWS_CFG_PF_EN = false → t.fw.prefetch = s.fw.prefetch)
      ∧ KeepsHost s t ∧ KeepsMedia s t ∧ KeepsPower s t ∧ t.mm = s.mm ∧ t.mg = s.mg ∧ t.fb = s.fb

/-- FIRMWARE_STORE_READ (R413). -/
abbrev firmwareStoreRead_held (line bits : Nat) (core branch : Option Nat) (s : State) : Prop :=
  (s.flag FWS_CFG_PF_EN = true ∧ line ∈ s.fw.prefetch ∧ branch = none) → Effect (.firmwareStoreRead line bits core branch) s (s.coreOn = true ∧ line < 2 ^ 19 ∧ (∀ k ∈ core, k ≤ 17) ∧ (∀ a ∈ branch, a / 256 = line)) fun t =>
    Counts FWS_PF_HIT 0 1 s t ∧ t.get FWS_BC_HIT = s.get FWS_BC_HIT ∧ t.get FWS_UE_CNT = s.get FWS_UE_CNT ∧ t.get FWS_CB_CNT = s.get FWS_CB_CNT ∧ t.fw.branches = s.fw.branches ∧ t.fw.retry = s.fw.retry ∧ KeepsHost s t ∧ KeepsMedia s t ∧ KeepsPower s t ∧ t.mm = s.mm ∧ t.mg = s.mg ∧ t.fb = s.fb

/-- FIRMWARE_STORE_READ (R413). -/
abbrev firmwareStoreRead_cached (line bits a : Nat) (core : Option Nat) (s : State) : Prop :=
  (s.flag FWS_CFG_BC_EN = true ∧ a ∈ s.fw.branches) → Effect (.firmwareStoreRead line bits core (some a)) s (s.coreOn = true ∧ line < 2 ^ 19 ∧ (∀ k ∈ core, k ≤ 17) ∧ a / 256 = line) fun t =>
    Counts FWS_BC_HIT 0 1 s t ∧ t.get FWS_PF_HIT = s.get FWS_PF_HIT ∧ t.get FWS_UE_CNT = s.get FWS_UE_CNT ∧ t.get FWS_CB_CNT = s.get FWS_CB_CNT ∧ t.fw.branches = (a :: s.fw.branches.filter (· != a)).take 64 ∧ KeepsHost s t ∧ KeepsMedia s t ∧ KeepsPower s t ∧ t.mm = s.mm ∧ t.mg = s.mg ∧ t.fb = s.fb

/-- FIRMWARE_STORE_READ (R413). -/
abbrev firmwareStoreRead_weak (line bits : Nat) (core branch : Option Nat) (s : State) : Prop :=
  ((s.flag FWS_CFG_PF_EN = false ∨ line ∉ s.fw.prefetch) ∧ (s.flag FWS_CFG_BC_EN = false ∨ ∀ a ∈ branch, a ∉ s.fw.branches) ∧ bits ≤ 8 ∧ s.cbitTh ≤ bits) → Effect (.firmwareStoreRead line bits core branch) s (s.coreOn = true ∧ line < 2 ^ 19 ∧ (∀ k ∈ core, k ≤ 17) ∧ (∀ a ∈ branch, a / 256 = line)) fun t =>
    Counts FWS_CB_CNT 0 1 s t ∧ t.get FWS_WEAK_LINE_LINE = line ∧ t.get FWS_WEAK_LINE_CBITS = bits ∧ t.get FWS_UE_CNT = s.get FWS_UE_CNT ∧ (s.ev.fired.contains (242, ownFWS) = false → Raises 242 s t) ∧ KeepsHost s t ∧ KeepsMedia s t ∧ KeepsPower s t ∧ t.mm = s.mm ∧ t.mg = s.mg ∧ t.fb = s.fb

/-- FIRMWARE_STORE_READ (R413). -/
abbrev firmwareStoreRead_uncorrectable (line bits : Nat) (branch : Option Nat) (s : State) : Prop :=
  ((s.flag FWS_CFG_PF_EN = false ∨ line ∉ s.fw.prefetch) ∧ (s.flag FWS_CFG_BC_EN = false ∨ ∀ a ∈ branch, a ∉ s.fw.branches) ∧ 8 < bits) → Effect (.firmwareStoreRead line bits none branch) s (s.coreOn = true ∧ line < 2 ^ 19 ∧ (∀ a ∈ branch, a / 256 = line)) fun t =>
    Counts FWS_UE_CNT 0 1 s t ∧ Raises 243 s t ∧ t.get FWS_CB_CNT = s.get FWS_CB_CNT ∧ KeepsHost s t ∧ KeepsMedia s t ∧ KeepsPower s t ∧ t.mm = s.mm ∧ t.mg = s.mg ∧ t.fb = s.fb

/-- FIRMWARE_STORE_READ (R413). -/
abbrev firmwareStoreRead_traps (line bits k : Nat) (branch : Option Nat) (s : State) : Prop :=
  ((s.flag FWS_CFG_PF_EN = false ∨ line ∉ s.fw.prefetch) ∧ (s.flag FWS_CFG_BC_EN = false ∨ ∀ a ∈ branch, a ∉ s.fw.branches) ∧ 8 < bits ∧ s.fw.retry.look k ≠ some line) → Effect (.firmwareStoreRead line bits (some k) branch) s (s.coreOn = true ∧ line < 2 ^ 19 ∧ k ≤ 17 ∧ (∀ a ∈ branch, a / 256 = line)) fun t =>
    t.mm = { s.mm with traps := s.mm.traps.put k (0x23, 256 * line) } ∧ t.fw.retry = s.fw.retry.put k line ∧ Counts FWS_UE_CNT 0 1 s t ∧ Raises 243 s t ∧ Counts MPU_TRAP_CNT 0 1 s t ∧ Raises 218 s t ∧ KeepsHost s t ∧ KeepsMedia s t ∧ KeepsPower s t ∧ t.mg = s.mg ∧ t.fb = s.fb

/-- FIRMWARE_STORE_READ (R413). -/
abbrev firmwareStoreRead_halts (line bits k : Nat) (branch : Option Nat) (s : State) : Prop :=
  ((s.flag FWS_CFG_PF_EN = false ∨ line ∉ s.fw.prefetch) ∧ (s.flag FWS_CFG_BC_EN = false ∨ ∀ a ∈ branch, a ∉ s.fw.branches) ∧ 8 < bits ∧ s.fw.retry.look k = some line ∧ k < 17 ∧ s.get FWC_CORE_STATE k = 1) → Effect (.firmwareStoreRead line bits (some k) branch) s (s.coreOn = true ∧ line < 2 ^ 19 ∧ k ≤ 17 ∧ (∀ a ∈ branch, a / 256 = line)) fun t =>
    t.get FWC_CORE_STATE k = 3 ∧ t.fw.retry.look k = none ∧ Counts FWS_UE_CNT 0 1 s t ∧ Raises 243 s t ∧ t.mm = s.mm ∧ KeepsHost s t ∧ KeepsMedia s t ∧ KeepsPower s t ∧ t.mg = s.mg ∧ t.fb = s.fb

/-- FIRMWARE_IMAGE_DOWNLOAD (R416). -/
abbrev firmwareImageDownload (ctx : Nat) (data : List Nat) (x : Ctx) (s : State) : Prop :=
  Bound s → (AdminWaits s ctx 0x11 x ∧ s.fw.prog = none) → Completes (.firmwareImageDownload ctx data) s fun t =>
    (imageFits (4 * x.e.dw11) (4 * (x.e.dw10 + 1)) = true → Ended ctx .success 0 t ∧ t.fw = (s.placeImage (4 * x.e.dw11) (padTo data (4 * (x.e.dw10 + 1)))).fw) ∧ (imageFits (4 * x.e.dw11) (4 * (x.e.dw10 + 1)) = false → Ended ctx .invalidField 0 t ∧ t.fw = s.fw)
      ∧ OnlyRegs [] s t ∧ t.ns = s.ns ∧ KeepsMedia s t ∧ KeepsPower s t ∧ KeepsFaults s t ∧ t.mm = s.mm ∧ t.mg = s.mg ∧ t.fb = s.fb

/-- FIRMWARE_IMAGE_DOWNLOAD (R416). -/
abbrev firmwareImageDownload_none (ctx : Nat) (data : List Nat) (s : State) : Prop :=
  Bound s → (s.adminCtx ctx 0x11 (fun _ => s.fw.prog.isNone) = none) → Completes (.firmwareImageDownload ctx data) s fun t =>
    NoEffect s t

/-- FIRMWARE_COMMIT (R416). -/
abbrev firmwareCommit (ctx : Nat) (header : ImageHeader) (x : Ctx) (s : State) : Prop :=
  Bound s → (AdminWaits s ctx 0x10 x ∧ s.fw.prog = none ∧ s.fw.activateDue = none ∧ s.fw.activating = none ∧ s.commitRefusal (bits x.e.dw10 2 0) (bits x.e.dw10 5 3) header = none ∧ x.stage = .fetched) → Completes (.firmwareCommit ctx header) s fun t =>
    t.fw = { s.fw with prog := some { slot := s.slotNamed (bits x.e.dw10 2 0), action := bits x.e.dw10 5 3, ctx := some ctx, hdr := header } } ∧ (t.ctx ctx).map (·.stage) = some .issued ∧ OnlyRegs [] s t ∧ t.sqs = s.sqs ∧ t.ns = s.ns ∧ KeepsMedia s t ∧ KeepsPower s t ∧ KeepsFaults s t

/-- FIRMWARE_COMMIT (R416). -/
abbrev firmwareCommit_refused (ctx : Nat) (header : ImageHeader) (x : Ctx) (s : State) : Prop :=
  Bound s → (AdminWaits s ctx 0x10 x ∧ s.fw.prog = none ∧ s.fw.activateDue = none ∧ s.fw.activating = none) → Completes (.firmwareCommit ctx header) s fun t =>
    (3 < bits x.e.dw10 5 3 → Ended ctx .invalidField 0 t) ∧ (bits x.e.dw10 5 3 ≤ 3 → 2 < bits x.e.dw10 2 0 → Ended ctx .invalidFirmwareSlot 0 t) ∧ (bits x.e.dw10 5 3 ≤ 3 → 0 < bits x.e.dw10 2 0 → bits x.e.dw10 2 0 = s.slotRun → Ended ctx .invalidFirmwareSlot 0 t)
      ∧ (bits x.e.dw10 5 3 ≤ 3 → bits x.e.dw10 2 0 ≤ 2 → s.slotNamed (bits x.e.dw10 2 0) ≠ s.slotRun → s.imageOk header = false → Ended ctx .invalidFirmwareImage 0 t)
      ∧ (s.commitRefusal (bits x.e.dw10 2 0) (bits x.e.dw10 5 3) header ≠ none → t.fw = s.fw ∧ OnlyRegs [] s t) ∧ t.sqs = s.sqs ∧ t.ns = s.ns ∧ KeepsMedia s t ∧ KeepsPower s t ∧ KeepsFaults s t

/-- FIRMWARE_COMMIT (R416). -/
abbrev firmwareCommit_none (ctx : Nat) (hdr : ImageHeader) (s : State) : Prop :=
  Bound s → (s.adminCtx ctx 0x10 (fun _ => s.fw.prog.isNone && s.fw.activateDue.isNone && s.fw.activating.isNone) = none) → Completes (.firmwareCommit ctx hdr) s fun t =>
    NoEffect s t

/-- FIRMWARE_SLOT_PROGRAMMED (R416). -/
abbrev firmwareSlotProgrammed (w : SlotWrite) (id : Nat) (x : Ctx) (s : State) : Prop :=
  Bound s → (s.coreOn = true ∧ s.fw.prog = some w ∧ w.ctx = some id ∧ s.ctx id = some x ∧ x.stage ≠ .done ∧ x.remote = none ∧ x.replWait = false ∧ x.replFailed = false ∧ w.action = 1) → Completes (.firmwareSlotProgrammed true) s fun t =>
    t.fw.prog = none ∧ t.fw.download = [] ∧ Raises 246 s t ∧ Ended id .success 0 t ∧ t.slotImage w.slot = (if w.slot = 1 ∨ w.slot = 2 then some { cfgVerMax := w.hdr.cfgVerMax, rev := w.hdr.rev, good := true } else t.slotImage w.slot)
      ∧ t.get FWS_SEL_SEQ = (match s.selector with | some r => r.seq + 1 | none => 1) % 2 ^ FWS_SEL_SEQ.width ∧ t.sqs = s.sqs ∧ t.ns = s.ns ∧ KeepsMedia s t ∧ KeepsPower s t

/-- FIRMWARE_SLOT_PROGRAMMED (R416). -/
abbrev firmwareSlotProgrammed_failed (w : SlotWrite) (id : Nat) (x : Ctx) (s : State) : Prop :=
  Bound s → (s.coreOn = true ∧ s.fw.prog = some w ∧ w.ctx = some id ∧ s.ctx id = some x ∧ x.stage ≠ .done ∧ x.remote = none ∧ x.replWait = false ∧ x.replFailed = false) → Completes (.firmwareSlotProgrammed false) s fun t =>
    t.fw.prog = none ∧ t.fw.download = s.fw.download ∧ Ended id .invalidFirmwareImage 0 t ∧ t.fw.sec0 = s.fw.sec0 ∧ t.fw.sec1 = s.fw.sec1 ∧ OnlyRegs [] s t ∧ t.sqs = s.sqs ∧ t.ns = s.ns ∧ KeepsMedia s t ∧ KeepsPower s t

/-- FIRMWARE_SLOT_PROGRAMMED (R416). -/
abbrev firmwareSlotProgrammed_kept (w : SlotWrite) (id : Nat) (s : State) : Prop :=
  Bound s → (s.coreOn = true ∧ s.fw.prog = some w ∧ w.ctx = some id ∧ w.action = 3 ∧ s.mode = .run) → Completes (.firmwareSlotProgrammed true) s fun t =>
    t.fw.prog = none ∧ t.fw.download = [] ∧ t.fw.activateDue = some (w.slot, some id) ∧ Raises 246 s t ∧ KeepsHost s t ∧ KeepsMedia s t ∧ KeepsPower s t

/-- FIRMWARE_SLOT_PROGRAMMED (R416). -/
abbrev firmwareSlotProgrammed_none (ok : Bool) (s : State) : Prop :=
  Bound s → (s.fw.prog = none) → Completes (.firmwareSlotProgrammed ok) s fun t =>
    NoEffect s t

/-- FIRMWARE_ACTIVATE_IMMEDIATE (R418). -/
abbrev firmwareActivateImmediate (ctx slot : Nat) (s : State) : Prop :=
  (s.fw.activateDue = some (slot, some ctx)) → Effect (.firmwareActivateImmediate ctx) s (s.inModes [.run] = true) fun t =>
    t.fw = { s.fw with activateDue := none, activating := some (slot, some ctx), restartAt := (if s.fw.restartAt.isNone ∧ s.ioIdle = true then some s.now else s.fw.restartAt) } ∧ t.md = { s.md with fetchStop := true } ∧ t.sqs = s.sqs ∧ t.cqs = s.cqs ∧ t.ns = s.ns ∧ KeepsMedia s t ∧ t.pw = s.pw ∧ t.hu = s.hu

/-- FIRMWARE_ACTIVATE_IMMEDIATE (R418). -/
abbrev firmwareActivateImmediate_none (ctx : Nat) (s : State) : Prop :=
  Bound s → (s.fw.activateDue = none) → Completes (.firmwareActivateImmediate ctx) s fun t =>
    NoEffect s t

/-- TRIAL_CONFIRM (R417). -/
abbrev trialConfirm (s : State) : Prop :=
  Effect .trialConfirm s (s.inModes [.run, .hold] = true ∧ s.flag FWS_STATUS_TRIAL = true ∧ 60000 ≤ s.fw.trialMs) fun t =>
    t.get FWS_STATUS_TRIAL = 0 ∧ Raises 241 s t ∧ t.get FWS_SEL_SEQ = (match s.selector with | some r => r.seq + 1 | none => 1) % 2 ^ FWS_SEL_SEQ.width ∧ (t.fw.sec0.map (fun r => (r.active, r.trial, r.tries)) = some (s.slotRun, false, 0) ∨ t.fw.sec1.map (fun r => (r.active, r.trial, r.tries)) = some (s.slotRun, false, 0))
      ∧ KeepsHost s t ∧ KeepsMedia s t ∧ KeepsPower s t ∧ t.mm = s.mm ∧ t.mg = s.mg ∧ t.fb = s.fb

/-- ACTIVATION_COMPLETE (R418). -/
abbrev activationComplete (slot id : Nat) (x : Ctx) (s : State) : Prop :=
  Bound s → (s.fw.activating = some (slot, some id) ∧ s.coreOn = true ∧ s.fw.restartAt.isSome = true ∧ slot < 4 ∧ s.ctx id = some x ∧ x.stage ≠ .done ∧ x.remote = none ∧ x.replWait = false ∧ x.replFailed = false) → Completes .activationComplete s fun t =>
    t.get FWS_STATUS_SLOT_RUN = slot ∧ t.get FWS_STATUS_TRIAL = 1 ∧ Raises 247 s t ∧ t.fw.activating = none ∧ t.fw.restartAt = none ∧ t.fw.trialMs = 0 ∧ t.fw.prefetch = [] ∧ t.fw.branches = [] ∧ t.md = { s.md with fetchStop := false } ∧ Ended id .success 0 t ∧ t.sqs = s.sqs ∧ t.ns = s.ns ∧ KeepsMedia s t ∧ t.pw = s.pw ∧ t.hu = s.hu

/-- ACTIVATION_COMPLETE (R418). -/
abbrev activationComplete_none (s : State) : Prop :=
  Bound s → (s.fw.activating = none ∨ s.fw.restartAt = none) → Completes .activationComplete s fun t =>
    NoEffect s t

/-- ACTIVATION_TIMEOUT (R418). -/
abbrev activationTimeout (slot id q : Nat) (x : Ctx) (s : State) : Prop :=
  Bound s → (s.fw.activating = some (slot, some id) ∧ s.coreOn = true ∧ s.fw.restartAt = some q ∧ q + 2000000000 ≤ s.now ∧ s.ctx id = some x ∧ x.stage ≠ .done ∧ x.remote = none ∧ x.replWait = false ∧ x.replFailed = false) → Completes .activationTimeout s fun t =>
    t.get FWS_STATUS_FALLBACK = 1 ∧ t.get FWS_STATUS_SLOT_RUN = s.get FWS_STATUS_SLOT_RUN ∧ Raises 240 s t ∧ t.fw.activating = none ∧ t.fw.restartAt = none ∧ t.get FWS_SEL_SEQ = (match s.selector with | some r => r.seq + 1 | none => 1) % 2 ^ FWS_SEL_SEQ.width ∧ t.md = { s.md with fetchStop := false } ∧ Ended id .internalError 0 t ∧ t.sqs = s.sqs ∧ t.ns = s.ns ∧ KeepsMedia s t ∧ t.pw = s.pw ∧ t.hu = s.hu

/-- ACTIVATION_TIMEOUT (R418). -/
abbrev activationTimeout_none (s : State) : Prop :=
  Bound s → (s.fw.activating = none ∨ s.fw.restartAt = none) → Completes .activationTimeout s fun t =>
    NoEffect s t

/-- CORE_HALT (R422). -/
abbrev coreHalt (core cause k : Nat) (s : State) : Prop :=
  (core < 17 ∧ s.get FWC_CORE_STATE core = 0 ∧ (List.range 17).find? (fun k => s.get FWC_CORE_STATE k == 1) = some k) → Effect (.coreHalt core cause) s (s.coreOn = true ∧ core ≤ 17 ∧ s.inModes [.rest] = false ∧ (core = 17 ∨ s.inModes [.detour] = false)) fun t =>
    t.get FWC_CORE_STATE core = 3 ∧ t.get FWC_CORE_STATE k = 0 ∧ t.get FWC_CORE_SERVED k = s.get FWC_CORE_SERVED core ∧ t.get FWC_STATUS_SPARE = 0 ∧ Counts FWC_TAKEOVER_CNT 0 1 s t ∧ Raises 244 s t ∧ KeepsHost s t ∧ KeepsMedia s t ∧ KeepsPower s t ∧ t.fc = s.fc

/-- CORE_HALT (R422). -/
abbrev coreHalt_fatal (core cause : Nat) (s : State) : Prop :=
  (core < 17 ∧ s.get FWC_CORE_STATE core = 0 ∧ (List.range 17).find? (fun k => s.get FWC_CORE_STATE k == 1) = none ∧ s.md.stopped = false ∧ s.md.restStep = none ∧ (s.md.mode = .run ∨ s.md.mode = .service)) → Effect (.coreHalt core cause) s (s.coreOn = true ∧ core ≤ 17 ∧ s.inModes [.rest] = false ∧ (core = 17 ∨ s.inModes [.detour] = false)) fun t =>
    t.get FWC_CORE_STATE core = 3 ∧ t.fc.fatal = true ∧ t.md.mode = .detour ∧ t.hu.dump.map (·.fault) = some true

/-- CORE_HALT (R422). -/
abbrev coreHalt_spare (core cause : Nat) (s : State) : Prop :=
  (core < 17 ∧ s.get FWC_CORE_STATE core ≠ 0) → Effect (.coreHalt core cause) s (s.coreOn = true ∧ core ≤ 17 ∧ s.inModes [.rest] = false ∧ (core = 17 ∨ s.inModes [.detour] = false)) fun t =>
    t.get FWC_CORE_STATE core = 3 ∧ (s.get FWC_CORE_STATE core = 1 → t.get FWC_STATUS_SPARE = 0) ∧ OnlyRegs [FWC_CORE_STATE.key core 0, FWC_STATUS_SPARE.key 0 0] s t ∧ KeepsHost s t ∧ KeepsMedia s t ∧ KeepsPower s t ∧ KeepsFaults s t

/-- CORE_HALT (R422). -/
abbrev coreHalt_supervisor (cause : Nat) (s : State) : Prop :=
  (s.md.stopped = false ∧ s.md.restStep = none ∧ (s.md.mode = .run ∨ s.md.mode = .service)) → Effect (.coreHalt 17 cause) s (s.coreOn = true ∧ s.inModes [.rest] = false) fun t =>
    t.get FWC_STATUS_SUPV_RUN = 0 ∧ t.fc.fatal = true ∧ t.md.mode = .detour ∧ t.hu.dump.map (·.fault) = some true

/-- CONFIG_COMMIT_TIMER (R425). -/
abbrev configCommitTimer (s : State) : Prop :=
  (s.recordFits = true) → Effect .configCommitTimer s (s.commitAllowed = true) fun t =>
    t.fw.commit.map (fun c => (c.seq, c.whole, c.regs)) = some ((match s.cfgInUse with | some c => c.seq + 1 | none => 1), true, s.recordRegs) ∧ t.fw.lastCommitAt = s.now ∧ t.fw.pendAt = none ∧ t.fw.commitNow = false ∧ t.fw.again = false ∧ t.fw.cfgA = s.fw.cfgA ∧ t.fw.cfgB = s.fw.cfgB ∧ KeepsHost s t ∧ KeepsMedia s t ∧ KeepsPower s t

/-- CONFIG_COMMIT_TIMER (R425). -/
abbrev configCommitTimer_over (s : State) : Prop :=
  (s.recordFits = false ∧ s.mg.running = []) → Effect .configCommitTimer s (s.commitAllowed = true) fun t =>
    t.get FWC_CFGREC_OVER = 1 ∧ (s.flag FWC_CFGREC_OVER = false → Raises 251 s t) ∧ t.fw = s.fw ∧ t.get FWC_CFGREC_PEND = s.get FWC_CFGREC_PEND ∧ KeepsHost s t ∧ KeepsMedia s t ∧ KeepsPower s t ∧ t.mg = s.mg

/-- CONFIG_COMMIT_END (R425). -/
abbrev configCommitEnd (r : CfgCopy) (s : State) : Prop :=
  Bound s → (s.fw.commit = some r ∧ s.coreOn = true ∧ Resting s) → Completes .configCommitEnd s fun t =>
    (s.cfgIsB = false → t.fw.cfgB = some r ∧ t.fw.cfgA = s.fw.cfgA) ∧ (s.cfgIsB = true → t.fw.cfgA = some r ∧ t.fw.cfgB = s.fw.cfgB) ∧ t.fw.commit = none ∧ t.flag FWC_CFGREC_COPY = !s.flag FWC_CFGREC_COPY ∧ Raises 248 s t ∧ t.ns = s.ns ∧ t.fw.fnCeiling = r.fnCeiling ∧ t.get FWC_CFGREC_SRC = 1 ∧ (s.flag PSC_STATUS_HOLD_NOCFG = false → t.md = s.md) ∧ t.pw = s.pw

/-- CONFIG_COMMIT_END (R425). -/
abbrev configCommitEnd_none (s : State) : Prop :=
  Bound s → (s.fw.commit = none) → Completes .configCommitEnd s fun t =>
    NoEffect s t

/-- GET_IDENTITY (R439). -/
abbrev getIdentity (p : Packet) (s : State) : Prop :=
  Bound s → (PacketRuns p 0x0100 s) → Completes (.getIdentity p) s fun t =>
    Replied p 0x0100 0 (le 4 (s.viewWord (rGLB_IDENT.at 0 0)) ++ le 8 Config.serial ++ [s.slotRun, 0, 0, 0] ++ le 8 (s.slotRev 1) ++ le 8 (s.slotRev 2)) s t ∧ PacketCalm [] p s t

/-- GET_CONFIGURATION_REPORT (R443). -/
abbrev getConfigurationReport (p : Packet) (s : State) : Prop :=
  Bound s → (PacketRuns p 0x0101 s) → Completes (.getConfigurationReport p) s fun t =>
    Replied p 0x0101 0 s.configReport s t ∧ PacketCalm [] p s t

/-- GET_NAMESPACE_IDENTIFY (R439). -/
abbrev getNamespaceIdentify (p : Packet) (s : State) : Prop :=
  Bound s → (PacketRuns p 0x0102 s) → Completes (.getNamespaceIdentify p) s fun t =>
    Replied p 0x0102 0 (identPage (s.identify s.privPort (field (pkParams p.bytes) 4 1) (field (pkParams p.bytes) 5 1) (field (pkParams p.bytes) 0 4)).1) s t ∧ PacketCalm [] p s t

/-- READ_REGISTERS (R439). -/
abbrev readRegisters (p : Packet) (s : State) : Prop :=
  Bound s → (PacketRuns p 0x0103 s) → Completes (.readRegisters p) s fun t =>
    Replied p 0x0103 0 (s.readMany (field (pkParams p.bytes) 0 4) (field (pkParams p.bytes) 4 2)).1 s t ∧ KeepsPower s t ∧ t.zn = s.zn ∧ t.wpt = s.wpt ∧ t.wc = s.wc ∧ t.pool = s.pool ∧ t.sd = s.sd ∧ t.cd = s.cd ∧ t.xl = s.xl ∧ t.mm = s.mm ∧ t.fw = s.fw ∧ t.tp = s.tp ∧ (p.carrier = 1 → KeepsHost s t ∧ t.fb = s.fb)

/-- GET_RECORD_STATUS (R439). -/
abbrev getRecordStatus (p : Packet) (c : CfgCopy) (s : State) : Prop :=
  Bound s → (PacketRuns p 0x0201 s ∧ s.cfgInUse = some c) → Completes (.getRecordStatus p) s fun t =>
    Replied p 0x0201 0 (le 4 (s.viewWord (rFWC_CFGREC.at 0 0)) ++ le 8 c.seq ++ le 4 s.recordBytes) s t ∧ PacketCalm [] p s t

/-- GET_RECORD_STATUS (R439). -/
abbrev getRecordStatus_none (p : Packet) (s : State) : Prop :=
  Bound s → (PacketRuns p 0x0201 s ∧ s.cfgInUse = none) → Completes (.getRecordStatus p) s fun t =>
    Replied p 0x0201 0 (le 4 (s.viewWord (rFWC_CFGREC.at 0 0)) ++ le 8 0 ++ le 4 s.recordBytes) s t ∧ PacketCalm [] p s t

/-- GET_SLICE_STATUS (R439). -/
abbrev getSliceStatus (p : Packet) (s : State) : Prop :=
  Bound s → (PacketRuns p 0x0305 s) → Completes (.getSliceStatus p) s fun t =>
    Replied p 0x0305 0 (([rSLM_GEN, rSLM_RSTAT, rSLM_DIRTY, rSLM_ABORT, rTLG_LATE_SLICE].map fun r => le 4 (s.viewWord (r.at (field (pkParams p.bytes) 0 1) 0))).flatten) s t ∧ PacketCalm [] p s t

/-- GET_PACK_STATUS (R439). -/
abbrev getPackStatus (p : Packet) (s : State) : Prop :=
  Bound s → (PacketRuns p 0x0500 s) → Completes (.getPackStatus p) s fun t =>
    Replied p 0x0500 0 (([rHUC_STATUS, rHUC_ENERGY, rHUC_EST, rHUC_CAP, rHUC_UNC, rHUC_PACK_V, rHUC_PACK_I, rHUC_PACK_Z, rHUC_DUMP].map fun r => le 4 (s.viewWord (r.at 0 0))).flatten) s t ∧ PacketCalm [] p s t

/-- READ_PACK_HISTORY (R282). -/
abbrev readPackHistory (p : Packet) (s : State) : Prop :=
  Bound s → (PacketRuns p 0x0501 s) → Completes (.readPackHistory p) s fun t =>
    (s.flag HUC_STATUS_PRESENT = true → Replied p 0x0501 0 s.packPage s t) ∧ (s.flag HUC_STATUS_PRESENT = false → Replied p 0x0501 0x21 [] s t) ∧ PacketCalm [] p s t

/-- QUERY_TICKET (R445). -/
abbrev queryTicket (p : Packet) (k : Ticket) (s : State) : Prop :=
  Bound s → (PacketRuns p 0x0601 s ∧ s.mg.tickets.look (field (pkParams p.bytes) 0 2) = some k) → Completes (.queryTicket p) s fun t =>
    Replied p 0x0601 (if k.state = 6 then 4 else 0) (le 2 (field (pkParams p.bytes) 0 2) ++ [k.state, k.kind] ++ le 4 k.r0 ++ le 4 k.r1 ++ le 4 k.r2 ++ le 4 k.r3) s t
      ∧ t.mg.tickets = (if k.state ≤ 2 then s.mg.tickets else s.mg.tickets.del (field (pkParams p.bytes) 0 2)) ∧ KeepsMedia s t ∧ KeepsPower s t ∧ t.mm = s.mm ∧ t.fw = s.fw ∧ t.tp = s.tp ∧ (p.carrier = 1 → OnlyRegs [] s t ∧ KeepsHost s t ∧ KeepsFaults s t ∧ t.fb = s.fb)

/-- READ_LOG (R439). -/
abbrev readLog (p : Packet) (s : State) : Prop :=
  Bound s → (PacketRuns p 0x0700 s) → Completes (.readLog p) s fun t =>
    Replied p 0x0700 0 (le 4 (s.viewWord (rMSM_LOG_HEAD.at 0 0)) ++ s.ringBytes (field (pkParams p.bytes) 0 2) (field (pkParams p.bytes) 2 2)) s t ∧ PacketCalm [] p s t

/-- READ_EVENT_QUEUE (R390). -/
abbrev readEventQueue (p : Packet) (s : State) : Prop :=
  Bound s → (PacketRuns p 0x0702 s) → Completes (.readEventQueue p) s fun t =>
    Replied p 0x0702 0 s.eventPage s t ∧ (field (pkParams p.bytes) 0 1 = 1 → PacketCalm [] p s t) ∧ (field (pkParams p.bytes) 0 1 = 0 → p.carrier = 1 → t.ev.queue = [] ∧ t.ev.reported = false) ∧ KeepsMedia s t ∧ KeepsPower s t

/-- READ_DIRTY_EPOCH_REPORT (R402). -/
abbrev readDirtyEpochReport (p : Packet) (s : State) : Prop :=
  Bound s → (PacketRuns p 0x0703 s) → Completes (.readDirtyEpochReport p) s fun t =>
    Replied p 0x0703 0 (s.reportPage.take 64 ++ (s.reportPage.drop (64 + 16 * field (pkParams p.bytes) 0 2)).take (16 * field (pkParams p.bytes) 2 2)) s t ∧ PacketCalm [] p s t

/-- READ_LATE_FAULT_RECORDS (R80). -/
abbrev readLateFaultRecords (p : Packet) (s : State) : Prop :=
  Bound s → (PacketRuns p 0x0705 s) → Completes (.readLateFaultRecords p) s fun t =>
    Replied p 0x0705 0 (s.lateHeader ++ (((s.late.drop (field (pkParams p.bytes) 0 2)).take (field (pkParams p.bytes) 2 2)).map lateBytes).flatten) s t ∧ PacketCalm [] p s t

/-- GET_FABRIC_STATUS (R439). -/
abbrev getFabricStatus (p : Packet) (s : State) : Prop :=
  Bound s → (PacketRuns p 0x0805 s) → Completes (.getFabricStatus p) s fun t =>
    Replied p 0x0805 0 (le 4 (s.viewWord (rJNR_STATUS.at 0 0)) ++ ((List.range 256).map fun n => le 4 (s.viewWord (rJNR_PATH.at n 0))).flatten) s t ∧ PacketCalm [] p s t

/-- GET_SLOT_INFO (R439). -/
abbrev getSlotInfo (p : Packet) (s : State) : Prop :=
  Bound s → (PacketRuns p 0x0902 s) → Completes (.getSlotInfo p) s fun t =>
    Replied p 0x0902 0 (le 4 (s.viewWord (rFWS_STATUS.at 0 0)) ++ le 4 (s.viewWord (rFWS_SEL_SEQ.at 0 0)) ++ le 8 (s.slotRev 1) ++ le 8 (s.slotRev 2)) s t ∧ PacketCalm [] p s t

/-- GET_THERMAL_AND_POWER (R439). -/
abbrev getThermalAndPower (p : Packet) (s : State) : Prop :=
  Bound s → (PacketRuns p 0x0A03 s) → Completes (.getThermalAndPower p) s fun t =>
    Replied p 0x0A03 0 (([rTHM_STATUS, rTHM_JMAX, rTHM_FLASH, rPSC_STATUS, rPSC_PWR_NOW, rGLB_MODE_STATUS].map fun r => le 4 (s.viewWord (r.at 0 0))).flatten) s t ∧ PacketCalm [] p s t

/-- RAW_READ (R442). -/
abbrev rawRead (p : Packet) (data : List Nat) (s : State) : Prop :=
  Bound s → (PacketRuns p 0x0F00 s) → Completes (.rawRead p data) s fun t =>
    Replied p 0x0F00 0 (padTo data (if field (pkParams p.bytes) 9 1 = 0 then 18432 else field (pkParams p.bytes) 11 1 * (2048 * field (pkParams p.bytes) 9 1 + 36))) s t ∧ PacketCalm [] p s t

/-- A packet that fails a check is answered with the status of the first check that fails, and nothing is done (R432). -/
abbrev readRegisters_refused (p : Packet) (st : Nat) (s : State) : Prop :=
  Bound s → (p.carrier = 1 ∧ pkOpcode p.bytes = 0x0103 ∧ s.hears 1 = true ∧ s.packetFault p = some st ∧ s.md.mode ≠ .rest ∧ s.md.restStep = none) → Completes (.readRegisters p) s fun t =>
    t.out = Out.reply 1 p.origin (if st = 0x10 then 0 else pkTag p.bytes) (if st = 0x10 then 0 else 0x0103) st [] :: s.out ∧ OnlyRegs [] s t ∧ KeepsAll s t

/-- A packet over a carrier that is not heard has no effect (R437). -/
abbrev readRegisters_unheard (p : Packet) (s : State) : Prop :=
  Bound s → (p.carrier = 1 ∧ s.hears 1 = false) → Completes (.readRegisters p) s fun t =>
    NoEffect s t

/-- WRITE_REGISTER (R439). -/
abbrev writeRegister (p : Packet) (f : Field) (i j : Nat) (s : State) : Prop :=
  Bound s → (PacketRuns p 0x0104 s ∧ PlainField f i j ∧ f.acc = .rw ∧ field (pkParams p.bytes) 0 4 = f.reg.at i j) → Completes (.writeRegister p) s fun t =>
    Replied p 0x0104 0 [] s t ∧ (∀ b ∈ List.range f.width, bit (t.get f i j) b = (if bit (field (pkParams p.bytes) 8 4) (f.lsb + b) then bit (field (pkParams p.bytes) 4 4) (f.lsb + b) else bit (s.get f i j) b))
      ∧ (f.cls = .retained → t.get f i j ≠ s.get f i j → inRecord f = true → t.fw.again = true ∧ t.get FWC_CFGREC_PEND = 1) ∧ KeepsMedia s t ∧ KeepsPower s t ∧ t.mm = s.mm ∧ t.tp = s.tp ∧ t.ns = s.ns

/-- SET_SLICE_COUNT (R60). -/
abbrev setSliceCount (p : Packet) (s : State) : Prop :=
  Bound s → (PacketRuns p 0x0300 s) → Completes (.setSliceCount p) s fun t =>
    Replied p 0x0300 0 [] s t ∧ t.get SLM_CFG_SLICE_LOG2 = field (pkParams p.bytes) 0 1 ∧ t.get SLM_CFG_ACTIVE_LOG2 = s.get SLM_CFG_ACTIVE_LOG2 ∧ (s.get SLM_CFG_SLICE_LOG2 ≠ field (pkParams p.bytes) 0 1 → t.fw.again = true ∧ t.get FWC_CFGREC_PEND = 1)
      ∧ KeepsMedia s t ∧ KeepsPower s t ∧ t.mm = s.mm ∧ t.tp = s.tp ∧ (p.carrier = 1 → OnlyRegs [SLM_CFG_SLICE_LOG2.key 0 0, FWC_CFGREC_PEND.key 0 0] s t ∧ KeepsHost s t ∧ KeepsFaults s t ∧ t.fb = s.fb)

/-- BIND_PASID (R61). -/
abbrev bindPasid (p : Packet) (s : State) : Prop :=
  Bound s → (PacketRuns p 0x0301 s) → Completes (.bindPasid p) s fun t =>
    Replied p 0x0301 0 [] s t ∧ t.get SLM_PMAP_PASID (field (pkParams p.bytes) 0 2) = field (pkParams p.bytes) 4 4 ∧ t.get SLM_PMAP_SLICE (field (pkParams p.bytes) 0 2) = field (pkParams p.bytes) 2 1 ∧ t.get SLM_PMAP_V (field (pkParams p.bytes) 0 2) = field (pkParams p.bytes) 3 1
      ∧ KeepsMedia s t ∧ KeepsPower s t ∧ t.mm = s.mm ∧ t.tp = s.tp ∧ (p.carrier = 1 → KeepsHost s t ∧ KeepsFaults s t ∧ t.fb = s.fb)

/-- SET_ACCESS_BITMAP (R64). -/
abbrev setAccessBitmap (p : Packet) (s : State) : Prop :=
  Bound s → (PacketRuns p 0x0302 s) → Completes (.setAccessBitmap p) s fun t =>
    Replied p 0x0302 0 [] s t ∧ (∀ w ∈ List.range 32, t.get SLM_NSACC (field (pkParams p.bytes) 0 1) w = field (pkParams p.bytes) (4 + 4 * w) 4)
      ∧ KeepsMedia s t ∧ KeepsPower s t ∧ t.mm = s.mm ∧ t.tp = s.tp ∧ (p.carrier = 1 → KeepsHost s t ∧ KeepsFaults s t ∧ t.fb = s.fb)

/-- SET_SLICE_BUDGETS (R69). -/
abbrev setSliceBudgets (p : Packet) (s : State) : Prop :=
  Bound s → (PacketRuns p 0x0304 s) → Completes (.setSliceBudgets p) s fun t =>
    Replied p 0x0304 0 [] s t ∧ (∀ w ∈ List.range 9, t.get SLM_BUDGET (field (pkParams p.bytes) 0 1) w = field (pkParams p.bytes) (4 + 4 * w) 4 % 2 ^ 20) ∧ KeepsPower s t ∧ t.ns = s.ns ∧ t.mm = s.mm ∧ t.tp = s.tp

/-- SET_ROUTE (R114). -/
abbrev setRoute (p : Packet) (s : State) : Prop :=
  Bound s → (PacketRuns p 0x0401 s) → Completes (.setRoute p) s fun t =>
    Replied p 0x0401 0 [] s t ∧ t.get WPT_ROUTE_CHLO (field (pkParams p.bytes) 0 1) = field (pkParams p.bytes) 4 4 ∧ t.get WPT_ROUTE_CHHI (field (pkParams p.bytes) 0 1) = field (pkParams p.bytes) 8 4 ∧ t.get WPT_ROUTE_CFG_MODE (field (pkParams p.bytes) 0 1) = field (pkParams p.bytes) 12 4 % 4
      ∧ t.get WPT_ROUTE_CFG_FORM (field (pkParams p.bytes) 0 1) = field (pkParams p.bytes) 12 4 / 4 % 2 ∧ t.get WPT_ROUTE_CFG_PRIO (field (pkParams p.bytes) 0 1) = field (pkParams p.bytes) 12 4 / 8 % 4
      ∧ t.get WPT_ROUTE_CFG_V (field (pkParams p.bytes) 0 1) = (if field (pkParams p.bytes) 0 1 = 0 then s.get WPT_ROUTE_CFG_V 0 else field (pkParams p.bytes) 12 4 / 2 ^ 31 % 2)
      ∧ KeepsMedia s t ∧ KeepsPower s t ∧ t.mm = s.mm ∧ t.tp = s.tp ∧ (p.carrier = 1 → KeepsHost s t ∧ KeepsFaults s t ∧ t.fb = s.fb)

/-- SET_PROFILE (R108). -/
abbrev setProfile (p : Packet) (s : State) : Prop :=
  Bound s → (PacketRuns p 0x0402 s) → Completes (.setProfile p) s fun t =>
    Replied p 0x0402 0 [] s t ∧ t.get WPT_PMASK_LO (field (pkParams p.bytes) 0 1) = field (pkParams p.bytes) 4 4 ∧ t.get WPT_PMASK_HI (field (pkParams p.bytes) 0 1) = field (pkParams p.bytes) 8 4 ∧ t.get WPT_PMASK_2_OPC (field (pkParams p.bytes) 0 1) = field (pkParams p.bytes) 12 4 % 2 ^ 4
      ∧ t.get WPT_PMASK_2_HINT (field (pkParams p.bytes) 0 1) = field (pkParams p.bytes) 12 4 / 2 ^ 4 % 2 ^ 16 ∧ t.get WPT_PMASK_2_NS (field (pkParams p.bytes) 0 1) = field (pkParams p.bytes) 12 4 / 2 ^ 20 % 2 ^ 10 ∧ t.get WPT_PMASK_3_SLICE (field (pkParams p.bytes) 0 1) = field (pkParams p.bytes) 16 4 % 2 ^ 8 ∧ t.get WPT_PDEF_ROUTE (field (pkParams p.bytes) 0 1) = field (pkParams p.bytes) 20 4 % 2 ^ 6
      ∧ KeepsMedia s t ∧ KeepsPower s t ∧ t.mm = s.mm ∧ t.tp = s.tp ∧ (p.carrier = 1 → KeepsHost s t ∧ KeepsFaults s t ∧ t.fb = s.fb)

/-- SET_NAMESPACE_PROFILE (R108). -/
abbrev setNamespaceProfile (p : Packet) (s : State) : Prop :=
  Bound s → (PacketRuns p 0x0403 s) → Completes (.setNamespaceProfile p) s fun t =>
    Replied p 0x0403 0 [] s t ∧ t.get (nsProfField (field (pkParams p.bytes) 0 2 - 1)) ((field (pkParams p.bytes) 0 2 - 1) / 8) = field (pkParams p.bytes) 2 1
      ∧ KeepsMedia s t ∧ KeepsPower s t ∧ t.mm = s.mm ∧ t.tp = s.tp ∧ (p.carrier = 1 → OnlyRegs [(nsProfField (field (pkParams p.bytes) 0 2 - 1)).key ((field (pkParams p.bytes) 0 2 - 1) / 8) 0, FWC_CFGREC_PEND.key 0 0] s t ∧ KeepsHost s t ∧ KeepsFaults s t ∧ t.fb = s.fb)

/-- SET_CHARGING (R278). -/
abbrev setCharging (p : Packet) (s : State) : Prop :=
  Bound s → (PacketRuns p 0x0502 s) → Completes (.setCharging p) s fun t =>
    Replied p 0x0502 0 [] s t ∧ t.get HUC_CTRL_CHG_DIS = field (pkParams p.bytes) 0 1 ∧ (field (pkParams p.bytes) 0 1 = 1 → t.get HUC_STATUS_CHARGE = 0 ∧ t.hu.chgSince = none) ∧ KeepsMedia s t ∧ t.md = s.md ∧ t.pw = s.pw ∧ t.mm = s.mm ∧ t.tp = s.tp
      ∧ (p.carrier = 1 → OnlyRegs [HUC_CTRL_CHG_DIS.key 0 0, HUC_STATUS_CHARGE.key 0 0, FWC_CFGREC_PEND.key 0 0] s t ∧ KeepsHost s t ∧ KeepsFaults s t ∧ t.fb = s.fb)

/-- SET_NODE (R364). -/
abbrev setNode (p : Packet) (s : State) : Prop :=
  Bound s → (PacketRuns p 0x0800 s) → Completes (.setNode p) s fun t =>
    Replied p 0x0800 0 [] s t ∧ t.get JNR_CFG_NODE_ID = field (pkParams p.bytes) 0 2 ∧ t.get JNR_CFG_DOMAIN = field (pkParams p.bytes) 2 2 ∧ t.get JNR_CFG_MGMT_EN = field (pkParams p.bytes) 4 1 ∧ KeepsMedia s t ∧ KeepsPower s t ∧ t.ns = s.ns ∧ t.mm = s.mm ∧ t.tp = s.tp

/-- SET_NODE_SLICE (R373). -/
abbrev setNodeSlice (p : Packet) (s : State) : Prop :=
  Bound s → (PacketRuns p 0x0801 s) → Completes (.setNodeSlice p) s fun t =>
    Replied p 0x0801 0 [] s t ∧ t.get JNR_NSLICE_NODE (field (pkParams p.bytes) 0 1) = field (pkParams p.bytes) 2 2 ∧ t.get JNR_NSLICE_SLICE (field (pkParams p.bytes) 0 1) = field (pkParams p.bytes) 4 1 ∧ t.get JNR_NSLICE_V (field (pkParams p.bytes) 0 1) = field (pkParams p.bytes) 1 1
      ∧ KeepsMedia s t ∧ KeepsPower s t ∧ t.mm = s.mm ∧ t.tp = s.tp ∧ (p.carrier = 1 → KeepsHost s t ∧ KeepsFaults s t ∧ t.fb = s.fb)

/-- UNBIND_NAMESPACE (R378). -/
abbrev unbindNamespace (p : Packet) (s : State) : Prop :=
  Bound s → (PacketRuns p 0x0803 s) → Completes (.unbindNamespace p) s fun t =>
    Replied p 0x0803 0 [] s t ∧ t.get JNR_BIND_0_V (field (pkParams p.bytes) 0 1) = 0 ∧ t.fb.remoteId.look (field (pkParams p.bytes) 0 1) = none ∧ t.get JNR_BIND_0_LNSID (field (pkParams p.bytes) 0 1) = s.get JNR_BIND_0_LNSID (field (pkParams p.bytes) 0 1) % 2 ^ 10
      ∧ KeepsMedia s t ∧ KeepsPower s t ∧ t.ns = s.ns ∧ t.mm = s.mm ∧ t.tp = s.tp

/-- SET_BAD_COLUMN_RANGE (R439). -/
abbrev setBadColumnRange (p : Packet) (s : State) : Prop :=
  Bound s → (PacketRuns p 0x0F03 s) → Completes (.setBadColumnRange p) s fun t =>
    Replied p 0x0F03 0 [] s t ∧ t.sd = { s.sd with badCols := s.sd.badCols.put (((field (pkParams p.bytes) 0 1 * 32 + field (pkParams p.bytes) 1 1) * 4 + field (pkParams p.bytes) 2 1) * 256 + field (pkParams p.bytes) 3 1) (bits (field (pkParams p.bytes) 4 4) 17 0, bits (field (pkParams p.bytes) 4 4) 23 18 + 1, bit (field (pkParams p.bytes) 4 4) 31) }
      ∧ KeepsPower s t ∧ t.ns = s.ns ∧ t.fl = s.fl ∧ t.mm = s.mm ∧ t.tp = s.tp ∧ (p.carrier = 1 → OnlyRegs [] s t ∧ KeepsHost s t ∧ KeepsFaults s t ∧ t.fb = s.fb)

/-- COMMIT_CONFIGURATION (R439). -/
abbrev commitConfiguration (p : Packet) (s : State) : Prop :=
  Bound s → (PacketRuns p 0x0200 s) → Completes (.commitConfiguration p) s fun t =>
    (t.mg.running.map fun e => (e.2.inp.p, e.2.wait, e.2.held)) = [(p, .commit false, none)] ∧ t.fw = { s.fw with again := true, pendAt := s.fw.pendAt.or (some s.now), commitNow := true } ∧ t.get FWC_CFGREC_PEND = 1 ∧ t.out = s.out ∧ KeepsMedia s t ∧ KeepsPower s t ∧ KeepsFaults s t ∧ t.mm = s.mm ∧ t.fb = s.fb ∧ t.tp = s.tp ∧ OnlyRegs [FWC_CFGREC_PEND.key 0 0] s t

/-- RESET_SLICE (R73). -/
abbrev resetSlice (p : Packet) (s : State) : Prop :=
  Bound s → (PacketRuns p 0x0303 s ∧ s.underReset (field (pkParams p.bytes) 0 1) = false ∧ s.inModes [.run, .service] = true ∧ Quiet s ∧ s.cd.cws = []) → Completes (.resetSlice p) s fun t =>
    (t.mg.running.map fun e => (e.2.inp.p, e.2.wait)) = [(p, .slice (field (pkParams p.bytes) 0 1))] ∧ t.get SLM_RSTAT_BUSY (field (pkParams p.bytes) 0 1) = 1 ∧ Raises 115 s t ∧ t.get SLM_GEN (field (pkParams p.bytes) 0 1) = nextGen (s.get SLM_GEN (field (pkParams p.bytes) 0 1)) ∧ t.out = s.out ∧ KeepsMedia s t ∧ KeepsPower s t

/-- BIND_NAMESPACE (R375). -/
abbrev bindNamespace (p : Packet) (r : Nat) (s : State) : Prop :=
  Bound s → (PacketRuns p 0x0802 s ∧ s.hasPath (field (pkParams p.bytes) 4 2) = true ∧ s.fb.reqs.freeKey 8192 = some r) → Completes (.bindNamespace p) s fun t =>
    (t.mg.running.map fun e => (e.2.inp.p, e.2.wait)) = [(p, .remote (field (pkParams p.bytes) 0 1))] ∧ (t.fb.reqs.look r).map (fun q => (q.for_, q.dst, q.type)) = some (.identify (field (pkParams p.bytes) 0 1), field (pkParams p.bytes) 4 2, 0x40)
      ∧ t.get JNR_BIND_0_V (field (pkParams p.bytes) 0 1) = s.get JNR_BIND_0_V (field (pkParams p.bytes) 0 1) ∧ KeepsMedia s t ∧ KeepsPower s t ∧ t.mm = s.mm ∧ t.tp = s.tp

/-- BIND_NAMESPACE (R375). -/
abbrev bindNamespace_unreachable (p : Packet) (s : State) : Prop :=
  Bound s → (PacketRuns p 0x0802 s ∧ s.hasPath (field (pkParams p.bytes) 4 2) = false) → Completes (.bindNamespace p) s fun t =>
    Replied p 0x0802 0x23 [] s t ∧ Raises 135 s t ∧ t.fb.reqs = s.fb.reqs ∧ KeepsMedia s t ∧ KeepsPower s t ∧ t.mm = s.mm ∧ t.tp = s.tp

/-- COMMIT_FIRMWARE (R416). -/
abbrev commitFirmware (p : Packet) (hdr : ImageHeader) (s : State) : Prop :=
  Bound s → (PacketRuns p 0x0901 s ∧ s.fw.bootRom = false ∧ s.fw.prog = none ∧ s.fw.activateDue = none ∧ s.fw.activating = none ∧ s.commitRefusal (field (pkParams p.bytes) 0 1) (field (pkParams p.bytes) 1 1) hdr = none) → Completes (.commitFirmware p hdr) s fun t =>
    (t.mg.running.map fun e => (e.2.inp.p, e.2.wait)) = [(p, .firmware)] ∧ t.fw = { s.fw with prog := some { slot := s.slotNamed (field (pkParams p.bytes) 0 1), action := field (pkParams p.bytes) 1 1, ctx := none, hdr := hdr } } ∧ t.out = s.out ∧ KeepsMedia s t ∧ KeepsPower s t ∧ t.mm = s.mm ∧ t.tp = s.tp ∧ OnlyRegs [] s t

/-- COMMIT_FIRMWARE (R416). -/
abbrev commitFirmware_refused (p : Packet) (hdr : ImageHeader) (s : State) : Prop :=
  Bound s → (PacketRuns p 0x0901 s ∧ s.fw.bootRom = false) → Completes (.commitFirmware p hdr) s fun t =>
    (s.fw.prog.isSome = true → Replied p 0x0901 5 [] s t) ∧ (s.fw.prog = none → s.fw.activateDue = none → s.fw.activating = none → 0 < field (pkParams p.bytes) 0 1 → field (pkParams p.bytes) 0 1 = s.slotRun → Replied p 0x0901 0x15 [] s t ∧ t.fw = s.fw) ∧ (s.fw.prog.isSome = true → t.fw = s.fw) ∧ KeepsMedia s t ∧ KeepsPower s t

/-- COMMIT_FIRMWARE (R416). -/
abbrev commitFirmware_rom (p : Packet) (hdr : ImageHeader) (s : State) : Prop :=
  Bound s → (PacketRuns p 0x0901 s ∧ s.fw.bootRom = true ∧ (s.fw.romSlot = 0 ∨ hdr.part ≠ 0x6400 ∨ hdr.good = false)) → Completes (.commitFirmware p hdr) s fun t =>
    Replied p 0x0901 (if s.fw.romSlot = 0 then 5 else 0x22) [] s t ∧ t.fw = s.fw ∧ KeepsMedia s t ∧ KeepsPower s t

/-- DOWNLOAD_FIRMWARE (R441). -/
abbrev downloadFirmware (p : Packet) (hdr : ImageHeader) (s : State) : Prop :=
  Bound s → (PacketRuns p 0x0900 s ∧ s.fw.bootRom = false ∧ s.fw.prog = none) → Completes (.downloadFirmware p hdr) s fun t =>
    Replied p 0x0900 0 [] s t ∧ t.fw = (s.placeImage (field (pkParams p.bytes) 0 4) ((pkParams p.bytes).drop 4)).fw ∧ KeepsMedia s t ∧ KeepsPower s t ∧ t.mm = s.mm ∧ t.tp = s.tp ∧ (p.carrier = 1 → OnlyRegs [] s t ∧ KeepsHost s t ∧ KeepsFaults s t ∧ t.fb = s.fb)

/-- DOWNLOAD_FIRMWARE (R441). -/
abbrev downloadFirmware_rom (p : Packet) (hdr : ImageHeader) (s : State) : Prop :=
  Bound s → (PacketRuns p 0x0900 s ∧ s.fw.bootRom = true ∧ field (pkParams p.bytes) 0 4 = 0 ∧ (hdr.slot = 1 ∨ hdr.slot = 2)) → Completes (.downloadFirmware p hdr) s fun t =>
    Replied p 0x0900 0 [] s t ∧ t.fw.romSlot = hdr.slot ∧ s.slotImage 0 = none ∧ t.slotImage hdr.slot = some { cfgVerMax := hdr.cfgVerMax, rev := hdr.rev, good := false } ∧ KeepsMedia s t ∧ KeepsPower s t ∧ t.mm = s.mm ∧ t.tp = s.tp

/-- SET_MODE (R439). -/
abbrev setMode (p : Packet) (s : State) : Prop :=
  Bound s → (PacketRuns p 0x0A02 s ∧ field (pkParams p.bytes) 0 1 = 3 ∧ (s.md.mode = .run ∨ s.md.mode = .service) ∧ s.inTransition = false ∧ s.wc.pairs = []) → Completes (.setMode p) s fun t =>
    (t.mg.running.map fun e => (e.2.inp.p, e.2.wait)) = [(p, .mode 3)] ∧ t.get PSC_CTRL_HOLD_REQ = 1 ∧ t.md.holdEntry = some s.md.mode ∧ t.md.fetchStop = true ∧ t.md.mode = s.md.mode ∧ 3 ∈ t.wc.flushBy ∧ t.fw.again = true ∧ t.hu = s.hu ∧ t.pw = s.pw ∧ t.zn = s.zn ∧ t.fl = s.fl ∧ t.xl = s.xl

/-- SET_MODE (R439). -/
abbrev setMode_service (p : Packet) (s : State) : Prop :=
  Bound s → (PacketRuns p 0x0A02 s ∧ field (pkParams p.bytes) 0 1 = 8 ∧ s.md.mode = .run ∧ s.inTransition = false) → Completes (.setMode p) s fun t =>
    Replied p 0x0A02 0 [] s t ∧ t.md = { s.md with mode := .service } ∧ t.get GLB_MODE_STATUS_PREV_MODE = 4 ∧ t.get GLB_MODE_STATUS_MODE = 8 ∧ t.hu = s.hu ∧ t.pw = s.pw ∧ KeepsMedia s t

/-- SET_MODE (R439). -/
abbrev setMode_ignored (p : Packet) (s : State) : Prop :=
  Bound s → (PacketRuns p 0x0A02 s ∧ field (pkParams p.bytes) 0 1 = 8 ∧ s.md.mode = .service) → Completes (.setMode p) s fun t =>
    Replied p 0x0A02 5 [] s t ∧ t.flag PSC_EVT_REQ_REJ = true ∧ t.md = s.md ∧ t.hu = s.hu ∧ t.pw = s.pw ∧ KeepsMedia s t

/-- PEER_ZONE_COPY (R379). -/
abbrev peerZoneCopy (p : Packet) (n : Nat) (u : State) (z : Zone) (s : State) : Prop :=
  Bound s → (PacketRuns p 0x0804 s ∧ s.newTicket 0x80 0 0 0 = some (n, u) ∧ s.fb.copies = [] ∧ s.zone (field (pkParams p.bytes) 0 4) (field (pkParams p.bytes) 4 4) = some z ∧ 0 < z.wp) → Completes (.peerZoneCopy p) s fun t =>
    Replied p 0x0804 0 (le 2 n ++ [2, 0]) s t ∧ (t.mg.tickets.look n).map (fun k => (k.state, k.kind)) = some (2, 0x80)
      ∧ (t.fb.copies.map fun e => (e.2.ticket, e.2.nsid, e.2.zone, e.2.node, e.2.rnsid, e.2.rslba)) = [(n, field (pkParams p.bytes) 0 4, field (pkParams p.bytes) 4 4, field (pkParams p.bytes) 8 2, field (pkParams p.bytes) 12 4, field (pkParams p.bytes) 16 4 * zoneSpan)]
      ∧ (t.fb.copies.map fun e => (e.2.running, e.2.next, e.2.stop)) = [(true, field (pkParams p.bytes) 4 4 * zoneSpan, field (pkParams p.bytes) 4 4 * zoneSpan + z.wp)] ∧ KeepsMedia s t ∧ KeepsPower s t ∧ t.mm = s.mm ∧ t.tp = s.tp

/-- PEER_ZONE_COPY (R379). -/
abbrev peerZoneCopy_refused (p : Packet) (s : State) : Prop :=
  Bound s → (PacketRuns p 0x0804 s ∧ 64 ≤ s.mg.tickets.length) → Completes (.peerZoneCopy p) s fun t =>
    Replied p 0x0804 3 [] s t ∧ t.mg.tickets = s.mg.tickets ∧ (p.carrier = 1 → t.fb = s.fb) ∧ KeepsMedia s t ∧ KeepsPower s t ∧ t.mm = s.mm ∧ t.tp = s.tp

/-- REQUEST_SELF_TEST (R444). -/
abbrev requestSelfTest (p : Packet) (n : Nat) (u : State) (s : State) : Prop :=
  Bound s → (PacketRuns p 0x0600 s ∧ field (pkParams p.bytes) 0 1 = 8 ∧ s.newTicket 8 (field (pkParams p.bytes) 1 1) 0 0 = some (n, u)) → Completes (.requestSelfTest p) s fun t =>
    (s.mm.scrub = none → Replied p 0x0600 0 (le 2 n ++ [2, 0]) s t ∧ t.mm.scrub = some { first := 0, last := 351, corrected := 0, bad := 0, since := s.now, ticket := some n } ∧ t.get MPU_STATUS_SCRUB_BUSY = 1 ∧ (t.mg.tickets.look n).map (fun k => (k.state, k.kind)) = some (2, 8))
      ∧ (s.mm.scrub.isSome = true → s.mm.scrubQ = none → Replied p 0x0600 1 (le 2 n ++ [1, 1]) s t ∧ t.mm.scrubQ = some { first := 0, last := 351, corrected := 0, bad := 0, since := 0, ticket := some n } ∧ (t.mg.tickets.look n).map (fun k => (k.state, k.kind)) = some (1, 8))
      ∧ (s.mm.scrub.isSome = true → s.mm.scrubQ.isSome = true → Replied p 0x0600 3 [] s t ∧ t.mm = s.mm ∧ t.mg.tickets = s.mg.tickets) ∧ KeepsMedia s t ∧ KeepsPower s t ∧ t.fw = s.fw ∧ t.tp = s.tp

/-- REQUEST_SELF_TEST (R444). -/
abbrev requestSelfTest_checkpoint (p : Packet) (n : Nat) (u : State) (s : State) : Prop :=
  Bound s → (PacketRuns p 0x0600 s ∧ field (pkParams p.bytes) 0 1 = 9 ∧ s.newTicket 9 (field (pkParams p.bytes) 1 1) 0 0 = some (n, u) ∧ s.xl.ticketNext = none) → Completes (.requestSelfTest p) s fun t =>
    (s.xl.run = none → s.inModes [.run, .service] = true → s.ckptOpen = true → Replied p 0x0600 0 (le 2 n ++ [2, 0]) s t ∧ t.xl.run.map (fun r => (r.num, r.s0, r.since)) = some (s.xl.last.num + 1, s.xl.seq, s.now) ∧ t.xl.ticket = some n ∧ t.get XLT_STATUS_CKPT_BUSY = 1)
      ∧ ((s.xl.run.isSome = true ∨ s.md.mode = .hold) → Replied p 0x0600 1 (le 2 n ++ [1, 1]) s t ∧ t.xl.ticketNext = some n ∧ t.xl = { s.xl with ticketNext := some n } ∧ t.fl = s.fl)
      ∧ t.zn = s.zn ∧ t.wc = s.wc ∧ KeepsPower s t ∧ t.mm = s.mm ∧ t.fw = s.fw ∧ t.tp = s.tp

/-- REQUEST_SELF_TEST (R444). -/
abbrev requestSelfTest_conditionNotMet (p : Packet) (s : State) : Prop :=
  Bound s → (PacketRuns p 0x0600 s ∧ ((field (pkParams p.bytes) 0 1 = 7 ∧ s.chLive (field (pkParams p.bytes) 1 1) = false) ∨ ((field (pkParams p.bytes) 0 1 = 4 ∨ field (pkParams p.bytes) 0 1 = 5) ∧ s.chFailed (field (pkParams p.bytes) 1 1) = true))) → Completes (.requestSelfTest p) s fun t =>
    Replied p 0x0600 5 [] s t ∧ t.mg.tickets = s.mg.tickets ∧ PacketCalm [] p s t

/-- REQUEST_SELF_TEST (R444). -/
abbrev requestSelfTest_held (p : Packet) (n : Nat) (u : State) (s : State) : Prop :=
  Bound s → (PacketRuns p 0x0600 s ∧ s.newTicket (field (pkParams p.bytes) 0 1) (field (pkParams p.bytes) 1 1) 0 0 = some (n, u) ∧ s.packSound = false ∧ ((field (pkParams p.bytes) 0 1 = 1 ∧ s.hu.zTicket = none) ∨ (field (pkParams p.bytes) 0 1 = 2 ∧ s.hu.learnTicket = none) ∨ (field (pkParams p.bytes) 0 1 = 3 ∧ s.hu.restTicket = none))) → Completes (.requestSelfTest p) s fun t =>
    Replied p 0x0600 1 (le 2 n ++ [1, 1]) s t ∧ (t.mg.tickets.look n).map (fun k => (k.state, k.kind)) = some (1, field (pkParams p.bytes) 0 1) ∧ (field (pkParams p.bytes) 0 1 = 1 → t.hu = { s.hu with zTicket := some n, zHeld := true }) ∧ (field (pkParams p.bytes) 0 1 = 2 → t.hu = { s.hu with learnTicket := some n, learnHeld := true })
      ∧ (field (pkParams p.bytes) 0 1 = 3 → t.hu = { s.hu with restTicket := some n, forceHeld := true }) ∧ KeepsMedia s t ∧ t.pw = s.pw ∧ t.md = s.md ∧ t.mm = s.mm ∧ t.fw = s.fw ∧ t.tp = s.tp

/-- REQUEST_SELF_TEST (R444). -/
abbrev requestSelfTest_queueFull (p : Packet) (s : State) : Prop :=
  Bound s → (PacketRuns p 0x0600 s ∧ ((field (pkParams p.bytes) 0 1 = 1 ∧ s.hu.zTicket.isSome = true) ∨ (field (pkParams p.bytes) 0 1 = 2 ∧ s.hu.learnTicket.isSome = true) ∨ (field (pkParams p.bytes) 0 1 = 3 ∧ s.hu.restTicket.isSome = true) ∨ (field (pkParams p.bytes) 0 1 = 9 ∧ s.xl.ticketNext.isSome = true))) → Completes (.requestSelfTest p) s fun t =>
    Replied p 0x0600 3 [] s t ∧ t.mg.tickets = s.mg.tickets ∧ PacketCalm [] p s t

/-- REQUEST_SELF_TEST (R444). -/
abbrev requestSelfTest_refused (p : Packet) (s : State) : Prop :=
  Bound s → (PacketRuns p 0x0600 s ∧ 64 ≤ s.mg.tickets.length ∧ 4 ≠ field (pkParams p.bytes) 0 1 ∧ 5 ≠ field (pkParams p.bytes) 0 1 ∧ 7 ≠ field (pkParams p.bytes) 0 1) → Completes (.requestSelfTest p) s fun t =>
    Replied p 0x0600 3 [] s t ∧ t.mg.tickets = s.mg.tickets ∧ PacketCalm [] p s t

/-- WAYPOINT_COMMAND (R112). -/
abbrev waypointCommand (p : Packet) (s : State) : Prop :=
  Bound s → (PacketRuns p 0x0400 s ∧ s.wptBusy = false ∧ (s.wpt.rows.look 4095).map (·.valid) ≠ some true) → Completes (.waypointCommand p) s fun t =>
    (field (pkParams p.bytes) 0 1 = 2 → t.wpt.rows = s.wpt.rows.put (field (pkParams p.bytes) 2 2) t.stagedEntry ∧ t.get WPT_STAGE_KEY_LO = field (pkParams p.bytes) 4 4 ∧ t.get WPT_STAGE_MASK_LO = field (pkParams p.bytes) 20 4 ∧ t.get WPT_STAGE_RES_ROUTE = field (pkParams p.bytes) 36 4 % 64 ∧ Replied p 0x0400 0 [] s t)
      ∧ (field (pkParams p.bytes) 0 1 = 3 → t.wpt = { s.wpt with busy := some (3, field (pkParams p.bytes) 2 2), staged := some t.stagedEntry } ∧ t.get WPT_STAGE_KEY_LO = field (pkParams p.bytes) 4 4 ∧ Replied p 0x0400 0 [] s t)
      ∧ (field (pkParams p.bytes) 0 1 = 4 → t.wpt.rows = wptDeleteAt (field (pkParams p.bytes) 2 2) s.wpt.rows ∧ t.wpt.busy = some (4, field (pkParams p.bytes) 2 2) ∧ Replied p 0x0400 0 [] s t)
      ∧ (field (pkParams p.bytes) 0 1 = 1 → t.wpt.rows = s.wpt.rows ∧ Replied p 0x0400 0 ((stageRegs.map fun a => le 4 (t.viewWord a)).flatten) s t ∧ t.get WPT_STAGE_RES_V = bNat (s.wpt.rows.lookD (field (pkParams p.bytes) 2 2) WptEntry.none).valid)
      ∧ t.zn = s.zn ∧ t.wc = s.wc ∧ t.xl = s.xl ∧ t.fl = s.fl ∧ KeepsPower s t ∧ t.mm = s.mm ∧ t.tp = s.tp

/-- WAYPOINT_COMMAND (R112). -/
abbrev waypointCommand_rejected (p : Packet) (s : State) : Prop :=
  Bound s → (PacketRuns p 0x0400 s ∧ s.wptBusy = true) → Completes (.waypointCommand p) s fun t =>
    Replied p 0x0400 5 [] s t ∧ t.get WPT_STATUS_REJ = 1 ∧ Raises 282 s t ∧ KeepsMedia s t ∧ KeepsPower s t ∧ t.mm = s.mm ∧ t.fw = s.fw ∧ t.tp = s.tp

/-- CANCEL_TICKET (R445). -/
abbrev cancelTicket (p : Packet) (k : Ticket) (s : State) : Prop :=
  Bound s → (PacketRuns p 0x0602 s ∧ s.mg.tickets.look (field (pkParams p.bytes) 0 2) = some k) → Completes (.cancelTicket p) s fun t =>
    (k.state = 1 → Replied p 0x0602 0 [] s t ∧ t.mg.tickets.look (field (pkParams p.bytes) 0 2) = some { k with state := 5, ended := some s.now }) ∧ (k.state ≠ 1 → Replied p 0x0602 5 [] s t ∧ t.mg.tickets = s.mg.tickets ∧ PacketCalm [] p s t) ∧ t.zn = s.zn ∧ t.wc = s.wc ∧ t.pw = s.pw ∧ t.md = s.md ∧ t.tp = s.tp ∧ t.fw = s.fw

/-- MGI_TCLR (R445). -/
abbrev mgiTclr (s : State) : Prop :=
  Effect .mgiTclr s (s.powered = true) fun t =>
    (∀ e ∈ t.mg.tickets, e.2.state = 2 ∨ (e.2.state = 5 ∧ e.2.ended = some s.now)) ∧ (∀ e ∈ s.mg.tickets, e.2.state = 2 → e ∈ t.mg.tickets) ∧ t.zn = s.zn ∧ t.wc = s.wc ∧ KeepsHost s t ∧ t.pw = s.pw ∧ t.md = s.md ∧ t.fw = s.fw ∧ t.tp = s.tp ∧ KeepsFaults s t

/-- TICKET_EXPIRY (R445). -/
abbrev ticketExpiry (ticket : Nat) (k : Ticket) (q : Nat) (s : State) : Prop :=
  (s.mg.tickets.look ticket = some k ∧ k.ended = some q) → Effect (.ticketExpiry ticket) s (s.powered = true ∧ 3 ≤ k.state ∧ q + 3600000000000 ≤ s.now) fun t =>
    t.mg = { s.mg with tickets := s.mg.tickets.del ticket } ∧ OnlyRegs [] s t ∧ KeepsHost s t ∧ KeepsMedia s t ∧ KeepsPower s t ∧ KeepsFaults s t ∧ t.mm = s.mm ∧ t.fb = s.fb ∧ t.fw = s.fw ∧ t.tp = s.tp

/-- TICKET_EXPIRY (R445). -/
abbrev ticketExpiry_none (ticket : Nat) (s : State) : Prop :=
  Bound s → (s.mg.tickets.look ticket = none) → Completes (.ticketExpiry ticket) s fun t =>
    NoEffect s t

/-- WRITE_ANNOTATION (R439). -/
abbrev writeAnnotation (p : Packet) (s : State) : Prop :=
  Bound s → (PacketRuns p 0x0701 s) → Completes (.writeAnnotation p) s fun t =>
    Replied p 0x0701 0 [] s t ∧ t.ms.logQ.length ≤ s.ms.logQ.length + 1 ∧ KeepsMedia s t ∧ KeepsPower s t ∧ t.mm = s.mm ∧ t.fw = s.fw ∧ t.tp = s.tp

/-- CLEAR_DIRTY_EPOCH_REPORT (R402). -/
abbrev clearDirtyEpochReport (p : Packet) (s : State) : Prop :=
  Bound s → (PacketRuns p 0x0704 s) → Completes (.clearDirtyEpochReport p) s fun t =>
    Replied p 0x0704 0 [] s t ∧ t.ms.report = none ∧ t.get MSM_STATUS_REPORT = 0 ∧ PacketCalm [MSM_STATUS_REPORT.key 0 0] p { s with ms := t.ms } t

/-- ACKNOWLEDGE_THERMAL_SHUTDOWN (R410). -/
abbrev acknowledgeThermalShutdown (p : Packet) (s : State) : Prop :=
  Bound s → (PacketRuns p 0x0A00 s ∧ s.md.mode ≠ .hold) → Completes (.acknowledgeThermalShutdown p) s fun t =>
    (s.ms.therm.map (·.acked) ≠ some false → Replied p 0x0A00 0 [] s t ∧ PacketCalm [] p s t) ∧ (s.ms.therm.map (·.acked) = some false → s.coolEnough = true → Replied p 0x0A00 0 [] s t ∧ t.ms.therm.map (·.acked) = some true ∧ t.get PSC_STATUS_HOLD_THERM = 0)
      ∧ (s.ms.therm.map (·.acked) = some false → s.coolEnough = false → Replied p 0x0A00 5 [] s t ∧ t.ms.therm = s.ms.therm ∧ t.get THM_STATUS_ACK_REF = 1 ∧ Raises 202 s t) ∧ KeepsMedia s t ∧ KeepsPower s t ∧ t.mm = s.mm ∧ t.fw = s.fw ∧ t.tp = s.tp

/-- POWER_OFF (R307). -/
abbrev powerOff (p : Packet) (s : State) : Prop :=
  Bound s → (PacketRuns p 0x0A01 s ∧ (s.md.mode = .run ∨ s.md.mode = .service) ∧ s.md.offSince = none ∧ s.flag THM_STATUS_WR_FORBID = false ∧ s.wc.pairs = []) → Completes (.powerOff p) s fun t =>
    Replied p 0x0A01 0 [] s t ∧ t.md.offSince = some s.now ∧ t.md.fetchStop = true ∧ t.get PSQ_STATUS_OFF_PEND = 1 ∧ 2 ∈ t.wc.flushBy ∧ t.md.mode = s.md.mode ∧ t.pw = s.pw ∧ t.hu = s.hu ∧ t.zn = s.zn ∧ t.fl = s.fl ∧ t.xl = s.xl ∧ t.mm = s.mm ∧ t.tp = s.tp

/-- RAW_PROGRAM (R442). -/
abbrev rawProgram (p : Packet) (s : State) : Prop :=
  Bound s → (PacketRuns p 0x0F01 s) → Completes (.rawProgram p) s fun t =>
    Replied p 0x0F01 0 [] s t ∧ ((List.range (mediaOf (field (pkParams p.bytes) 8 1)).bitsPer).all (fun g => (s.mg.staged.put (rawKey (pkParams p.bytes)) ((pkParams p.bytes).drop 12)).has (rawKey (pkParams p.bytes) / 4 * 4 + g)) = false → t.mg.staged = s.mg.staged.put (rawKey (pkParams p.bytes)) ((pkParams p.bytes).drop 12) ∧ t.fl = s.fl)
      ∧ t.zn = s.zn ∧ t.wc = s.wc ∧ t.xl = s.xl ∧ KeepsPower s t ∧ t.ns = s.ns ∧ t.mm = s.mm ∧ t.fw = s.fw ∧ t.tp = s.tp

/-- RAW_PROGRAM (R442). -/
abbrev rawProgram_last (p : Packet) (s : State) : Prop :=
  Bound s → (PacketRuns p 0x0F01 s ∧ (List.range (mediaOf (field (pkParams p.bytes) 8 1)).bitsPer).all (fun g => (s.mg.staged.put (rawKey (pkParams p.bytes)) ((pkParams p.bytes).drop 12)).has (rawKey (pkParams p.bytes) / 4 * 4 + g)) = true) → Completes (.rawProgram p) s fun t =>
    Replied p 0x0F01 0 [] s t ∧ ((t.die (field (pkParams p.bytes) 0 1) (field (pkParams p.bytes) 1 1)).queued.any fun o => o.kind == .program && o.block == field (pkParams p.bytes) 2 2 && o.wl == field (pkParams p.bytes) 4 2 && o.plane == field (pkParams p.bytes) 6 1 && o.owner == .raw) = true
      ∧ t.unbound = [.rawBlock (field (pkParams p.bytes) 0 1) (field (pkParams p.bytes) 1 1) (field (pkParams p.bytes) 2 2)] ∧ t.zn = s.zn ∧ t.wc = s.wc ∧ t.xl = s.xl ∧ KeepsPower s t ∧ t.ns = s.ns ∧ t.mm = s.mm ∧ t.fw = s.fw ∧ t.tp = s.tp

/-- RAW_ERASE (R442). -/
abbrev rawErase (p : Packet) (s : State) : Prop :=
  Bound s → (PacketRuns p 0x0F02 s) → Completes (.rawErase p) s fun t =>
    Replied p 0x0F02 0 [] s t ∧ ((t.die (field (pkParams p.bytes) 0 1) (field (pkParams p.bytes) 1 1)).queued.any fun o => o.kind == .erase && o.block == field (pkParams p.bytes) 2 2 && o.owner == .raw) = true
      ∧ t.unbound = [.rawBlock (field (pkParams p.bytes) 0 1) (field (pkParams p.bytes) 1 1) (field (pkParams p.bytes) 2 2)] ∧ t.zn = s.zn ∧ t.wc = s.wc ∧ t.xl = s.xl ∧ KeepsPower s t ∧ t.ns = s.ns ∧ t.mm = s.mm ∧ t.fw = s.fw ∧ t.tp = s.tp

/-- DECLARE_DIE_FAILED (R174). -/
abbrev declareDieFailed (p : Packet) (s : State) : Prop :=
  Bound s → (PacketRuns p 0x0F04 s ∧ s.get FSQ_DIE_STATE (field (pkParams p.bytes) 0 1) (field (pkParams p.bytes) 1 1) ≠ dieFailed) → Completes (.declareDieFailed p) s fun t =>
    t.get FSQ_DIE_STATE (field (pkParams p.bytes) 0 1) (field (pkParams p.bytes) 1 1) = dieFailed ∧ (t.die (field (pkParams p.bytes) 0 1) (field (pkParams p.bytes) 1 1)).queued = [] ∧ t.flag FSQ_EVT_DIE_FAIL (field (pkParams p.bytes) 0 1) = true ∧ (p.carrier = 1 → Replied p 0x0F04 0 [] s t) ∧ t.hu = s.hu ∧ t.pw = s.pw ∧ t.mm = s.mm ∧ t.tp = s.tp

/-- MGMT_PACKET_CARRIER (R436). -/
abbrev mgmtPacketCarrier (ctx : Nat) (bytes : List Nat) (replyOk : Bool) (x : Ctx) (s : State) : Prop :=
  Bound s → (s.adminCtx ctx 0xC1 (fun c => c.port == s.privPort) = some x ∧ 20 ≤ x.e.dw10 ∧ x.e.dw10 ≤ 65555 ∧ 20 ≤ x.e.dw11 ∧ x.e.dw11 ≤ 65555 ∧ x.e.dw12 % 4096 = 0 ∧ PacketRuns { carrier := 0, origin := ctx, bytes := padTo bytes x.e.dw10, replyMax := x.e.dw11 } 0x0100 s) → Completes (.mgmtPacketCarrier ctx (some bytes) replyOk) s fun t =>
    (replyOk = true → Replied { carrier := 0, origin := ctx, bytes := padTo bytes x.e.dw10, replyMax := x.e.dw11 } 0x0100 0 s.identityBody s t ∧ Ended ctx .success 0 t ∧ (t.ctx ctx).map (·.dw1) = some 52) ∧ (replyOk = false → Ended ctx .dataTransferError 0 t ∧ t.out = s.out)
      ∧ t.sqs = s.sqs ∧ t.ns = s.ns ∧ KeepsMedia s t ∧ KeepsPower s t ∧ KeepsFaults s t ∧ t.mm = s.mm ∧ t.fb = s.fb ∧ t.fw = s.fw ∧ t.tp = s.tp

/-- MGMT_PACKET_CARRIER (R436). -/
abbrev mgmtPacketCarrier_refused (ctx : Nat) (fetched : Option (List Nat)) (replyOk : Bool) (x : Ctx) (s : State) : Prop :=
  Bound s → (AdminWaits s ctx 0xC1 x ∧ x.port = s.privPort ∧ (fetched = none ∨ x.e.dw10 < 20 ∨ 65555 < x.e.dw10 ∨ x.e.dw11 < 20 ∨ 65555 < x.e.dw11 ∨ x.e.dw12 % 4096 ≠ 0)) → Completes (.mgmtPacketCarrier ctx fetched replyOk) s fun t =>
    ((x.e.dw10 < 20 ∨ 65555 < x.e.dw10 ∨ x.e.dw11 < 20 ∨ 65555 < x.e.dw11 ∨ x.e.dw12 % 4096 ≠ 0) → Ended ctx .invalidField 0 t) ∧ (¬(x.e.dw10 < 20 ∨ 65555 < x.e.dw10 ∨ x.e.dw11 < 20 ∨ 65555 < x.e.dw11 ∨ x.e.dw12 % 4096 ≠ 0) → Ended ctx .dataTransferError 0 t)
      ∧ t.out = s.out ∧ t.sqs = s.sqs ∧ t.ns = s.ns ∧ KeepsMedia s t ∧ KeepsPower s t ∧ KeepsFaults s t ∧ KeepsService s t

/-- MGMT_RECEIVED (R438). -/
abbrev mgmtReceived (port : Nat) (f : Frame) (s : State) : Prop :=
  (Accepts port f s ∧ f.flags % 4 = 3 ∧ s.flag JNR_CFG_MGMT_EN = true ∧ s.fb.dups = [] ∧ s.mg.arriving = [] ∧ s.hears 2 = true ∧ PacketRuns { carrier := 2, origin := f.src + 4096 * f.tag, bytes := f.payload, replyMax := 65555 } 0x0100 s) → Effect (.mgmtReceived port f) s (port < 4 ∧ s.portsRun = true ∧ f.type = 0x40) fun t =>
    Replied { carrier := 2, origin := f.src + 4096 * f.tag, bytes := f.payload, replyMax := 65555 } 0x0100 0 s.identityBody s t ∧ (t.cwPort port).rxSeq = ((s.cwPort port).rxSeq + 1) % 2 ^ 32 ∧ t.mg.running = [] ∧ (f.src < 4096 → (t.fb.dups.map fun d => (d.src, d.tag, d.reply.isSome)) = [(f.src, f.tag, true)])
      ∧ KeepsHost s t ∧ KeepsMedia s t ∧ KeepsPower s t ∧ t.mm = s.mm ∧ t.fw = s.fw ∧ t.tp = s.tp

/-- A first frame that is not the last is kept (R438). -/
abbrev mgmtReceived_part (port : Nat) (f : Frame) (s : State) : Prop :=
  (Accepts port f s ∧ f.flags % 4 = 1 ∧ s.flag JNR_CFG_MGMT_EN = true ∧ s.fb.dups = [] ∧ s.mg.arriving = [] ∧ s.mg.running = [] ∧ s.mg.waiting = []) → Effect (.mgmtReceived port f) s (port < 4 ∧ s.portsRun = true ∧ f.type = 0x40) fun t =>
    t.mg = { s.mg with arriving := [(f.src, f.tag, f.payload)] } ∧ (t.cwPort port).rxSeq = ((s.cwPort port).rxSeq + 1) % 2 ^ 32 ∧ KeepsHost s t ∧ KeepsMedia s t ∧ KeepsPower s t ∧ t.mm = s.mm ∧ t.fw = s.fw ∧ t.tp = s.tp

/-- MGMT_RSP_RECEIVED (R438). -/
abbrev mgmtRspReceived (port : Nat) (f : Frame) (r : Remote) (n k : Nat) (m : MgRun) (s : State) : Prop :=
  (Accepts port f s ∧ f.flags % 4 = 3 ∧ s.fb.reqs.look f.tag = some r ∧ r.for_ = .identify k ∧ r.dst = f.src ∧ s.mg.arriving = [] ∧ s.mg.waiting = [] ∧ s.mg.running = [(n, m)] ∧ m.wait = .remote k ∧ m.commitDue = false ∧ m.held = none ∧ m.inp.p.carrier = 1 ∧ field (pkParams m.inp.p.bytes) 0 1 = k ∧ k < 64 ∧ field f.payload 6 2 = 0 ∧ field f.payload 8 2 = 4096) → Effect (.mgmtRspReceived port f) s (port < 4 ∧ s.portsRun = true ∧ f.type = 0x41) fun t =>
    t.mg.running = [] ∧ t.fb.reqs.look f.tag = none ∧ t.fb.remoteId.look k = some ((f.payload.drop 16).take 4096) ∧ t.get JNR_BIND_0_V k = 1 ∧ t.get JNR_BIND_0_LNSID k = (field (pkParams m.inp.p.bytes) 2 2 - 1) % 2 ^ 10 ∧ t.get JNR_BIND_1_NODE k = field (pkParams m.inp.p.bytes) 4 2 % 2 ^ 12
      ∧ (field (pkParams m.inp.p.bytes) 1 1 < 4 → field (pkParams m.inp.p.bytes) 2 2 ≤ 1024 → t.get JNR_BIND_0_KIND k = field (pkParams m.inp.p.bytes) 1 1) ∧ Replied m.inp.p (pkOpcode m.inp.p.bytes) 0 [] s t ∧ KeepsMedia s t ∧ KeepsPower s t ∧ t.mm = s.mm ∧ t.tp = s.tp

/-- MGMT_RSP_RECEIVED (R438). -/
abbrev mgmtRspReceived_failed (port : Nat) (f : Frame) (r : Remote) (n k : Nat) (m : MgRun) (s : State) : Prop :=
  (Accepts port f s ∧ f.flags % 4 = 3 ∧ s.fb.reqs.look f.tag = some r ∧ r.for_ = .identify k ∧ r.dst = f.src ∧ s.mg.arriving = [] ∧ s.mg.waiting = [] ∧ s.mg.running = [(n, m)] ∧ m.wait = .remote k ∧ m.commitDue = false ∧ m.held = none ∧ m.inp.p.carrier = 1 ∧ field f.payload 6 2 ≠ 0) → Effect (.mgmtRspReceived port f) s (port < 4 ∧ s.portsRun = true ∧ f.type = 0x41) fun t =>
    t.mg.running = [] ∧ t.fb.reqs.look f.tag = none ∧ t.fb.remoteId = s.fb.remoteId ∧ t.get JNR_BIND_0_V k = s.get JNR_BIND_0_V k ∧ Replied m.inp.p (pkOpcode m.inp.p.bytes) 0x23 [] s t ∧ KeepsMedia s t ∧ KeepsPower s t ∧ t.mm = s.mm ∧ t.tp = s.tp

/-- READ_NVME_MI_DATA_STRUCTURE (R437). -/
abbrev readNvmeMiDataStructure (type id : Nat) (s : State) : Prop :=
  Bound s → (MiServed s) → Completes (.readNvmeMiDataStructure type id) s fun t =>
    (type = 0 → MiAnswered 0 (fun b => b.length = 32 ∧ b.take 3 = [s.portList.length, 1, 2]) s t) ∧ (type = 2 → MiAnswered 0 (fun b => b = le 2 s.portList.length ++ (s.portList.map (le 2)).flatten) s t) ∧ (type = 4 → MiAnswered 0 (fun b => b = [0, 0]) s t)
      ∧ (type = 3 → MiAnswered (if s.portList.contains id then 0 else 4) (fun b => s.portList.contains id = true → b.take 1 = [id]) s t) ∧ (type = 1 → MiAnswered (if id ≤ s.portList.length then 0 else 4) (fun b => id ≤ s.portList.length → b.take 1 = [if id < s.portList.length then 1 else 2]) s t) ∧ (4 < type → MiAnswered 4 (fun b => b = []) s t)
      ∧ OnlyRegs [] s t ∧ KeepsAll s t

/-- SUBSYSTEM_HEALTH_STATUS_POLL (R437). -/
abbrev subsystemHealthStatusPoll (clear : Bool) (s : State) : Prop :=
  Bound s → (MiServed s) → Completes (.subsystemHealthStatusPoll clear) s fun t =>
    MiAnswered 0 (fun b => b.length = 8 ∧ field b 1 1 = 255 - field (s.smartPage s.privPort).1 0 1 % 256 ∧ field b 2 1 = (field (s.smartPage s.privPort).1 1 2 - 273) % 256) s t ∧ OnlyRegs [] s t ∧ KeepsAll s t

/-- CONTROLLER_HEALTH_STATUS_POLL (R437). -/
abbrev controllerHealthStatusPoll (controller : Nat) (s : State) : Prop :=
  Bound s → (MiServed s) → Completes (.controllerHealthStatusPoll controller) s fun t =>
    (s.portList.contains controller = true → MiAnswered 0 (fun b => b.length = 16 ∧ field b 0 2 = controller % 65536 ∧ field b 2 1 = bNat (s.rdy controller) ∧ field b 7 1 = s.availableSpare % 256) s t) ∧ (s.portList.contains controller = false → MiAnswered 4 (fun b => b = []) s t) ∧ OnlyRegs [] s t ∧ KeepsAll s t

/-- NVME_MI_VENDOR_C1 (R437). -/
abbrev nvmeMiVendorC1 (p : Packet) (s : State) : Prop :=
  Bound s → (PacketRuns p 0x0100 s ∧ p.carrier = 1) → Completes (.nvmeMiVendorC1 p) s fun t =>
    t.out = .reply 1 p.origin (pkTag p.bytes) 0x0100 0 s.identityBody :: s.out ∧ PacketCalm [] p s t

/-- NVME_MI_VENDOR_C1 (R437). -/
abbrev nvmeMiVendorC1_carrier (p : Packet) (s : State) : Prop :=
  Bound s → (p.carrier ≠ 1) → Completes (.nvmeMiVendorC1 p) s fun t =>
    NoEffect s t

/-- BYPASS (R461). -/
abbrev bypass (tdi : List Bool) (s : State) : Prop :=
  Effect (.bypass tdi) s ((s.rail 9).armed = true) fun t =>
    t.out = .tdo ((([false] ++ tdi).take tdi.length).map bNat) :: s.out ∧ t.tp.instr = .bypass ∧ t.tp.cells = s.tp.cells ∧ OnlyRegs [] s t ∧ KeepsAll { s with tp := t.tp } t

/-- IDCODE (R461). -/
abbrev idcode (tdi : List Bool) (s : State) : Prop :=
  Effect (.idcode tdi) s ((s.rail 9).armed = true) fun t =>
    t.out = .tdo ((((List.range 32).map (fun k => 0x2640033B / 2 ^ k % 2) ++ tdi.map bNat)).take tdi.length) :: s.out ∧ t.tp.instr = .idcode ∧ t.tp.cells = s.tp.cells ∧ OnlyRegs [] s t ∧ KeepsAll { s with tp := t.tp } t

/-- SAMPLE_PRELOAD (R461). -/
abbrev samplePreload (pins tdi : List Bool) (s : State) : Prop :=
  Effect (.samplePreload pins tdi) s ((s.rail 9).armed = true) fun t =>
    t.out = .tdo (((pins ++ tdi).take tdi.length).map bNat) :: s.out ∧ t.tp = { instr := .sample, cells := (pins ++ tdi).drop tdi.length } ∧ OnlyRegs [] s t ∧ KeepsAll { s with tp := t.tp } t

/-- EXTEST (R461). -/
abbrev extest (pins tdi : List Bool) (s : State) : Prop :=
  Effect (.extest pins tdi) s ((s.rail 9).armed = true) fun t =>
    (s.pw.testMode = true → t.out = .tdo (((pins ++ tdi).take tdi.length).map bNat) :: s.out ∧ t.tp = { instr := .extest, cells := (pins ++ tdi).drop tdi.length }) ∧ (s.pw.testMode = false → t.out = .tdo ((([false] ++ tdi).take tdi.length).map bNat) :: s.out ∧ t.tp = { instr := .bypass, cells := s.tp.cells }) ∧ OnlyRegs [] s t ∧ KeepsAll { s with tp := t.tp } t

/-- CLAMP (R461). -/
abbrev clamp (tdi : List Bool) (s : State) : Prop :=
  Effect (.clamp tdi) s ((s.rail 9).armed = true) fun t =>
    t.out = .tdo ((([false] ++ tdi).take tdi.length).map bNat) :: s.out ∧ t.tp = { instr := (if s.pw.testMode then .clamp else .bypass), cells := s.tp.cells } ∧ OnlyRegs [] s t ∧ KeepsAll { s with tp := t.tp } t

/-- HIGHZ (R461). -/
abbrev highz (tdi : List Bool) (s : State) : Prop :=
  Effect (.highz tdi) s ((s.rail 9).armed = true) fun t =>
    t.out = .tdo ((([false] ++ tdi).take tdi.length).map bNat) :: s.out ∧ t.tp = { instr := (if s.pw.testMode then .highz else .bypass), cells := s.tp.cells } ∧ OnlyRegs [] s t ∧ KeepsAll { s with tp := t.tp } t

/-- Whatever its opcode, a packet that fails a check is answered with the status of the first check that fails, and has no effect (R432). -/
abbrev nvmeMiVendorC1_refused (p : Packet) (st : Nat) (s : State) : Prop :=
  Bound s → (p.carrier = 1 ∧ s.hears 1 = true ∧ s.packetFault p = some st ∧ s.md.mode ≠ .rest ∧ s.md.restStep = none) → Completes (.nvmeMiVendorC1 p) s fun t =>
    t.out = Out.reply 1 p.origin (if st = 0x10 then 0 else pkTag p.bytes) (if st = 0x10 then 0 else pkOpcode p.bytes) st [] :: s.out ∧ OnlyRegs [] s t ∧ KeepsAll s t

/-- CREATE_IO_CQ (R39). -/
abbrev createIoCq_mode (ctx : Nat) (x : Ctx) (s : State) : Prop :=
  Bound s → (AdminWaits s ctx 0x05 x ∧ s.get GLB_MODE_STATUS_MODE = s.md.mode.code ∧ s.get GLB_MODE_STATUS_MODE ≠ 4 ∧ s.get GLB_MODE_STATUS_MODE ≠ 8) → Completes (.createIoCq ctx) s fun t =>
    Ended ctx .commandSequenceError 0 t ∧ t.cqs = s.cqs ∧ t.sqs = s.sqs ∧ t.ns = s.ns ∧ OnlyRegs [] s t ∧ KeepsMedia s t ∧ KeepsPower s t ∧ KeepsService s t ∧ KeepsFaults s t

/-- CREATE_IO_SQ (R39). -/
abbrev createIoSq_mode (ctx : Nat) (x : Ctx) (s : State) : Prop :=
  Bound s → (AdminWaits s ctx 0x01 x ∧ s.get GLB_MODE_STATUS_MODE = s.md.mode.code ∧ s.get GLB_MODE_STATUS_MODE ≠ 4 ∧ s.get GLB_MODE_STATUS_MODE ≠ 8) → Completes (.createIoSq ctx) s fun t =>
    Ended ctx .commandSequenceError 0 t ∧ t.cqs = s.cqs ∧ t.sqs = s.sqs ∧ t.ns = s.ns ∧ OnlyRegs [] s t ∧ KeepsMedia s t ∧ KeepsPower s t ∧ KeepsService s t ∧ KeepsFaults s t

/-- COMMAND_FETCH (R44). -/
abbrev commandFetch_unmapped (port : Nat) (entry : SqEntry) (slot : Nat) (q : Sq) (x : Nat) (s : State) : Prop :=
  (s.adminReady port = false ∧ (s.fetchTurn port).map (fun e => e.1) = some slot ∧ s.sqs.look slot = some q ∧ q.port = port ∧ port < 2 ∧ q.pasid = some x ∧ s.sliceOf port (some x) = none) → Effect (.commandFetch port entry) s (s.isPort port = true ∧ s.fetchOpen port = true) fun t =>
    t.sqs.look slot = some { q with head := (q.head + 1) % q.size, ahead := (if 0 < q.ahead then q.ahead else min s.prefetch ((q.tail + q.size - q.head) % q.size)) - 1 } ∧ (s.fetchTurn port).map (fun e => e.2) = some (t.port port) ∧ t.ctxs = s.ctxs ∧ t.nextCtx = s.nextCtx ∧ t.doneQ = s.doneQ ∧ t.cqs = s.cqs ∧ (0 < q.ahead → t.out = s.out) ∧ (q.ahead = 0 → t.out = .entryRead port q.qid q.head (min s.prefetch ((q.tail + q.size - q.head) % q.size)) (s.tag port q.pasid) :: s.out) ∧ Counts QEN_UNBOUND_DROP 0 1 s t
      ∧ ((112, 0) ∉ s.ev.fired → Raises 112 s t) ∧ ((112, 0) ∈ s.ev.fired → (t.ev.todo.filter fun r => r.src == 112) = s.ev.todo.filter fun r => r.src == 112) ∧ (112, 0) ∈ t.ev.fired ∧ KeepsMedia s t ∧ KeepsPower s t ∧ KeepsService s t

/-- QEN_CLR_CNT (R59). -/
abbrev qenClrCnt_rearm (s : State) : Prop :=
  Effect .qenClrCnt s (s.powered = true) fun t =>
    t.get QEN_UNBOUND_DROP = 0 ∧ (112, 0) ∉ t.ev.fired

/-- SLICE_RESET_REQUEST (R73). -/
abbrev sliceResetRequest_gen (slice go : Nat) (s : State) : Prop :=
  (Quiet s ∧ s.cd.cws = [] ∧ slice < s.sliceCount ∧ s.underReset slice = false ∧ s.inModes [.run, .service] = true) → Effect (.sliceResetRequest slice go) s (s.powered = true ∧ go % 2 = 1) fun t =>
    (s.get SLM_GEN slice ≠ 0xFFFF → t.get SLM_GEN slice = s.get SLM_GEN slice + 1) ∧ (s.get SLM_GEN slice = 0xFFFF → t.get SLM_GEN slice = 1)

/-- SLICE_RESET_COMPLETE (R73). -/
abbrev sliceResetComplete_gen (slice : Nat) (r : SliceReset) (s : State) : Prop :=
  (s.resets.look slice = some r ∧ slice < 256 ∧ s.ctxs = [] ∧ s.cqs = [] ∧ s.mg.waiting = [] ∧ (s.ns.all fun e => e.2.deleting.isNone) = true) → Effect (.sliceResetComplete slice) s (s.inModes [.run, .service] = true ∧ s.resetDrained slice = true) fun t =>
    t.get SLM_GEN slice = s.get SLM_GEN slice ∧ inRecord SLM_GEN = true ∧ t.fw.again = true ∧ t.get FWC_CFGREC_PEND = 1

/-- RAW_ERASE (R442). -/
abbrev rawErase_block (p : Packet) (s : State) : Prop :=
  Bound s → (PacketRuns p 0x0F02 s ∧ s.md.mode = .service) → Completes (.rawErase p) s fun t =>
    (∀ d ∈ t.fl.dies, ∀ e ∈ s.fl.dies, d.1 = e.1 → d.2.blocks = e.2.blocks) ∧ Unbound.rawBlock (field (pkParams p.bytes) 0 1) (field (pkParams p.bytes) 1 1) (field (pkParams p.bytes) 2 2) ∈ t.unbound

/-- RAW_PROGRAM (R442). -/
abbrev rawProgram_block (p : Packet) (s : State) : Prop :=
  Bound s → (PacketRuns p 0x0F01 s ∧ s.md.mode = .service ∧ (List.range (mediaOf (field (pkParams p.bytes) 8 1)).bitsPer).all (fun g => (s.mg.staged.put (rawKey (pkParams p.bytes)) ((pkParams p.bytes).drop 12)).has (rawKey (pkParams p.bytes) / 4 * 4 + g)) = true) → Completes (.rawProgram p) s fun t =>
    (∀ d ∈ t.fl.dies, ∀ e ∈ s.fl.dies, d.1 = e.1 → d.2.blocks = e.2.blocks) ∧ Unbound.rawBlock (field (pkParams p.bytes) 0 1) (field (pkParams p.bytes) 1 1) (field (pkParams p.bytes) 2 2) ∈ t.unbound

end Sys2Proof.Rows

section

open Sys2Proof Sys2Proof.Machine

/-- Reads of the five registers that latch an upper word, and writes of the control window and of AQA. -/
def Obligations.ControlWindowReadsAndWrites : Prop :=
  (∀ port size off s, Sys2Proof.Rows.uptimeLoRead port size off s) ∧
  (∀ port size off s, Sys2Proof.Rows.uptimeLoRead_unaligned port size off s) ∧
  (∀ port size off s, Sys2Proof.Rows.recTotalLoRead port size off s) ∧
  (∀ port size off s, Sys2Proof.Rows.ckptNumLoRead port size off s) ∧
  (∀ port size off s, Sys2Proof.Rows.firstTsLoRead port size off s) ∧
  (∀ port size off c s, Sys2Proof.Rows.cfgSeqLoRead port size off c s) ∧
  (∀ port size addr value s, Sys2Proof.Rows.registerWrite_discarded port size addr value s) ∧
  (∀ port value s, Sys2Proof.Rows.registerWrite_taken port value s) ∧
  (∀ port value s, Sys2Proof.Rows.registerWrite_reserved port value s) ∧
  (∀ port value s, Sys2Proof.Rows.registerWrite_aqa port value s) ∧
  (∀ f port i j value s, Sys2Proof.Rows.registerWrite_field f port i j value s)

/-- Host links and controllers: link up and down, resets, PERST_N, enabling, AER errors, PASID Enable, counters cleared. -/
def Obligations.HostLinkAndControllerEvents : Prop :=
  (∀ port rate width flit s, Sys2Proof.Rows.linkUp port rate width flit s) ∧
  (∀ port s, Sys2Proof.Rows.linkDown port s) ∧
  (∀ port s, Sys2Proof.Rows.functionLevelReset port s) ∧
  (∀ port s, Sys2Proof.Rows.perstAssert port s) ∧
  (∀ port s, Sys2Proof.Rows.perstAssert_rest port s) ∧
  (∀ port s, Sys2Proof.Rows.perstDeassert_off port s) ∧
  (∀ port s, Sys2Proof.Rows.perstDeassert_on port s) ∧
  (∀ port iosqes iocqes ams asqs acqs s, Sys2Proof.Rows.ccEnSet port iosqes iocqes ams asqs acqs s) ∧
  (∀ port s, Sys2Proof.Rows.ccEnClear port s) ∧
  (∀ port severity header s, Sys2Proof.Rows.aerErrorLogged port severity header s) ∧
  (∀ port s, Sys2Proof.Rows.pasidEnableClear port s) ∧
  (∀ s, Sys2Proof.Rows.qenClrCnt s) ∧
  (∀ s, Sys2Proof.Rows.qenClrPeak s)

/-- Normal and abrupt shutdown: what a request starts, its time limit, and its end. -/
def Obligations.HostShutdown : Prop :=
  (∀ port s, Sys2Proof.Rows.normalShutdown port s) ∧
  (∀ port s, Sys2Proof.Rows.abruptShutdown port s) ∧
  (∀ port s, Sys2Proof.Rows.shutdownTimeout port s) ∧
  (∀ port s, Sys2Proof.Rows.shutdownDone port s)

/-- Doorbells, command fetch, completion posting and a stalled completion queue. -/
def Obligations.DoorbellsFetchAndCompletion : Prop :=
  (∀ port qid value pasid s, Sys2Proof.Rows.sqTailDoorbell port qid value pasid s) ∧
  (∀ port value s, Sys2Proof.Rows.sqTailDoorbell_admin port value s) ∧
  (∀ port qid value pasid s, Sys2Proof.Rows.cqHeadDoorbell port qid value pasid s) ∧
  (∀ port entry s, Sys2Proof.Rows.commandFetch port entry s) ∧
  (∀ port entry slot q n s, Sys2Proof.Rows.commandFetch_io port entry slot q n s) ∧
  (∀ port c s, Sys2Proof.Rows.completionPost port c s) ∧
  (∀ port qid s, Sys2Proof.Rows.cqStallTimeout port qid s) ∧
  (∀ port qid q s, Sys2Proof.Rows.cqStallTimeout_io port qid q s)

/-- Queue creation and deletion: what each makes or removes, and the status of each check that fails. -/
def Obligations.AdminQueueCommands : Prop :=
  (∀ ctx c s, Sys2Proof.Rows.createIoCq ctx c s) ∧
  (∀ ctx c st s, Sys2Proof.Rows.createIoCq_refused ctx c st s) ∧
  (∀ ctx c s, Sys2Proof.Rows.createIoCq_checks ctx c s) ∧
  (∀ ctx c n q s, Sys2Proof.Rows.createIoSq ctx c n q s) ∧
  (∀ ctx c st s, Sys2Proof.Rows.createIoSq_refused ctx c st s) ∧
  (∀ ctx c s, Sys2Proof.Rows.createIoSq_slice ctx c s) ∧
  (∀ ctx c n s, Sys2Proof.Rows.createIoSq_share ctx c n s) ∧
  (∀ ctx c n s, Sys2Proof.Rows.createIoSq_completion ctx c n s) ∧
  (∀ ctx c s, Sys2Proof.Rows.deleteIoSq ctx c s) ∧
  (∀ ctx c x s, Sys2Proof.Rows.deleteIoSq_aborts ctx c x s) ∧
  (∀ ctx c s, Sys2Proof.Rows.deleteIoSq_refused ctx c s) ∧
  (∀ ctx c s, Sys2Proof.Rows.deleteIoCq ctx c s) ∧
  (∀ ctx c s, Sys2Proof.Rows.deleteIoCq_refused ctx c s) ∧
  (∀ ctx c s, Sys2Proof.Rows.deleteIoCq_named ctx c s)

/-- Get Log Page, Identify and Abort: what each returns or ends, and when each is refused. -/
def Obligations.AdminLogsAndIdentify : Prop :=
  (∀ ctx c b s, Sys2Proof.Rows.getLogPage ctx c b s) ∧
  (∀ ctx c s, Sys2Proof.Rows.getLogPage_take ctx c s) ∧
  (∀ ctx c st s, Sys2Proof.Rows.getLogPage_refused ctx c st s) ∧
  (∀ ctx c s, Sys2Proof.Rows.getLogPage_private ctx c s) ∧
  (∀ ctx c b s, Sys2Proof.Rows.getLogPage_beyond ctx c b s) ∧
  (∀ ctx c b s, Sys2Proof.Rows.identify ctx c b s) ∧
  (∀ ctx c s, Sys2Proof.Rows.identify_lists ctx c s) ∧
  (∀ ctx c st s, Sys2Proof.Rows.identify_refused ctx c st s) ∧
  (∀ ctx c s, Sys2Proof.Rows.abort ctx c s) ∧
  (∀ ctx c x s, Sys2Proof.Rows.abort_found ctx c x s)

/-- Features, event requests, namespaces and Streams directives: what each sets, answers or makes, and statuses of refusals named. -/
def Obligations.AdminFeaturesAndEvents : Prop :=
  (∀ ctx c f s, Sys2Proof.Rows.setFeatures ctx c f s) ∧
  (∀ ctx c f s, Sys2Proof.Rows.setFeatures_temperature ctx c f s) ∧
  (∀ ctx c s, Sys2Proof.Rows.setFeatures_refused ctx c s) ∧
  (∀ ctx c s, Sys2Proof.Rows.setFeatures_queues ctx c s) ∧
  (∀ ctx c s, Sys2Proof.Rows.setFeatures_sequence ctx c s) ∧
  (∀ ctx c v s, Sys2Proof.Rows.getFeatures ctx c v s) ∧
  (∀ ctx c s, Sys2Proof.Rows.getFeatures_refused ctx c s) ∧
  (∀ ctx c s, Sys2Proof.Rows.asyncEventRequest ctx c s) ∧
  (∀ ctx c a l s, Sys2Proof.Rows.asyncEventRequest_waiting ctx c a l s) ∧
  (∀ ctx c s, Sys2Proof.Rows.asyncEventRequest_limit ctx c s) ∧
  (∀ ctx data c k s, Sys2Proof.Rows.nsCreate ctx data c k s) ∧
  (∀ ctx data c st s, Sys2Proof.Rows.nsCreate_refused ctx data c st s) ∧
  (∀ ctx data c s, Sys2Proof.Rows.nsCreate_hold ctx data c s) ∧
  (∀ ctx c n s, Sys2Proof.Rows.nsDelete ctx c n s) ∧
  (∀ ctx c s, Sys2Proof.Rows.nsDelete_refused ctx c s) ∧
  (∀ ctx l c n s, Sys2Proof.Rows.namespaceAttachment ctx l c n s) ∧
  (∀ ctx c s, Sys2Proof.Rows.directiveSend ctx c s) ∧
  (∀ ctx c s, Sys2Proof.Rows.directiveSend_release ctx c s) ∧
  (∀ ctx c s, Sys2Proof.Rows.directiveSend_refused ctx c s) ∧
  (∀ ctx c s, Sys2Proof.Rows.directiveReceive ctx c s) ∧
  (∀ ctx c s, Sys2Proof.Rows.directiveReceive_status ctx c s)

/-- Read, Write, Write Zeroes, Zone Append and Flush of a fetched I/O command, and a cached pair whose mirrored write is held. -/
def Obligations.ReadsAndWrites : Prop :=
  (∀ ctx c s, Sys2Proof.Rows.ioRead ctx c s) ∧
  (∀ ctx c st s, Sys2Proof.Rows.ioRead_refused ctx c st s) ∧
  (∀ ctx c st s, Sys2Proof.Rows.ioRead_lost ctx c st s) ∧
  (∀ ctx c p d i copyB x s, Sys2Proof.Rows.ioRead_cached ctx c p d i copyB x s) ∧
  (∀ ctx c set key slot row q m w s, Sys2Proof.Rows.ioRead_flash ctx c set key slot row q m w s) ∧
  (∀ ctx data upsets c r s, Sys2Proof.Rows.ioWrite ctx data upsets c r s) ∧
  (∀ ctx data upsets c st s, Sys2Proof.Rows.ioWrite_refused ctx data upsets c st s) ∧
  (∀ ctx data upsets c r st s, Sys2Proof.Rows.ioWrite_invalid ctx data upsets c r st s) ∧
  (∀ ctx upsets c r s, Sys2Proof.Rows.writeZeroes ctx upsets c r s) ∧
  (∀ ctx upsets c st s, Sys2Proof.Rows.writeZeroes_refused ctx upsets c st s) ∧
  (∀ ctx data upsets c r s, Sys2Proof.Rows.zoneAppend ctx data upsets c r s) ∧
  (∀ ctx data upsets c st s, Sys2Proof.Rows.zoneAppend_refused ctx data upsets c st s) ∧
  (∀ ctx c s, Sys2Proof.Rows.flush ctx c s) ∧
  (∀ ctx c st s, Sys2Proof.Rows.flush_refused ctx c st s) ∧
  (∀ pair x s, Sys2Proof.Rows.mirrorWriteHeld pair x s) ∧
  (∀ pair x a r s, Sys2Proof.Rows.mirrorWriteHeld_commits pair x a r s)

/-- Zone Management Send and Receive, Dataset Management: what each does to a zone, a report or the map, and when each is refused. -/
def Obligations.ZoneActions : Prop :=
  (∀ ctx upsets c r s, Sys2Proof.Rows.zoneOpen ctx upsets c r s) ∧
  (∀ ctx upsets c r s, Sys2Proof.Rows.zoneOpen_invalid ctx upsets c r s) ∧
  (∀ ctx upsets c st s, Sys2Proof.Rows.zoneOpen_refused ctx upsets c st s) ∧
  (∀ ctx c r s, Sys2Proof.Rows.zoneClose ctx c r s) ∧
  (∀ ctx c r s, Sys2Proof.Rows.zoneClose_invalid ctx c r s) ∧
  (∀ ctx c st s, Sys2Proof.Rows.zoneClose_refused ctx c st s) ∧
  (∀ ctx c r s, Sys2Proof.Rows.zoneFinish ctx c r s) ∧
  (∀ ctx c r s, Sys2Proof.Rows.zoneFinish_invalid ctx c r s) ∧
  (∀ ctx c st s, Sys2Proof.Rows.zoneFinish_refused ctx c st s) ∧
  (∀ ctx c r s, Sys2Proof.Rows.zoneReset ctx c r s) ∧
  (∀ ctx c r s, Sys2Proof.Rows.zoneReset_invalid ctx c r s) ∧
  (∀ ctx c st s, Sys2Proof.Rows.zoneReset_refused ctx c st s) ∧
  (∀ ctx c r s, Sys2Proof.Rows.zoneOffline ctx c r s) ∧
  (∀ ctx c r s, Sys2Proof.Rows.zoneOffline_invalid ctx c r s) ∧
  (∀ ctx c st s, Sys2Proof.Rows.zoneOffline_refused ctx c st s) ∧
  (∀ ctx c n s, Sys2Proof.Rows.zoneManagementReceive ctx c n s) ∧
  (∀ ctx c s, Sys2Proof.Rows.zoneManagementReceive_field ctx c s) ∧
  (∀ ctx c st s, Sys2Proof.Rows.zoneManagementReceive_refused ctx c st s) ∧
  (∀ ctx lba c n s, Sys2Proof.Rows.datasetManagement ctx lba c n s) ∧
  (∀ ctx ranges c s, Sys2Proof.Rows.datasetManagement_other ctx ranges c s) ∧
  (∀ ctx ranges c st s, Sys2Proof.Rows.datasetManagement_refused ctx ranges c st s)

/-- CLR_CNT of each block: its counters go to 0, its sources are armed again, and no other register or unit changes. -/
def Obligations.CountersCleared : Prop :=
  (∀ i s, Sys2Proof.Rows.slmClrCnt i s) ∧
  (∀ i s, Sys2Proof.Rows.tlgClrCnt i s) ∧
  (∀ i s, Sys2Proof.Rows.wptClrCnt i s) ∧
  (∀ s, Sys2Proof.Rows.zneClrCnt s) ∧
  (∀ s, Sys2Proof.Rows.wcuClrCnt s) ∧
  (∀ s, Sys2Proof.Rows.bplClrCnt s) ∧
  (∀ s, Sys2Proof.Rows.dscClrCnt s) ∧
  (∀ i s, Sys2Proof.Rows.ldcClrCnt i s) ∧
  (∀ s, Sys2Proof.Rows.xltClrCnt s) ∧
  (∀ s, Sys2Proof.Rows.hucClrCnt s) ∧
  (∀ i s, Sys2Proof.Rows.psqClrCnt i s) ∧
  (∀ s, Sys2Proof.Rows.drgClrCnt s) ∧
  (∀ s, Sys2Proof.Rows.pscClrCnt s) ∧
  (∀ s, Sys2Proof.Rows.mpuClrCnt s) ∧
  (∀ s, Sys2Proof.Rows.fclClrCnt s) ∧
  (∀ s, Sys2Proof.Rows.msmClrCnt s) ∧
  (∀ s, Sys2Proof.Rows.thmClrCnt s) ∧
  (∀ s, Sys2Proof.Rows.fwsClrCnt s) ∧
  (∀ s, Sys2Proof.Rows.fwcClrCnt s) ∧
  (∀ ch s, Sys2Proof.Rows.fsqClrCnt ch s) ∧
  (∀ ch s, Sys2Proof.Rows.sdfClrCnt ch s) ∧
  (∀ d s, Sys2Proof.Rows.dmcClrCnt d s) ∧
  (∀ p s, Sys2Proof.Rows.jnrClrCnt p s)

/-- Slice reset, die-time tokens, read-around and reconstruction. -/
def Obligations.SlicesAndTollgate : Prop :=
  (∀ slice go s, Sys2Proof.Rows.sliceResetRequest slice go s) ∧
  (∀ slice go s, Sys2Proof.Rows.sliceResetRequest_ignored slice go s) ∧
  (∀ slice r s, Sys2Proof.Rows.sliceResetComplete slice r s) ∧
  (∀ ch die n s, Sys2Proof.Rows.tokenRefill ch die n s) ∧
  (∀ ctx c s, Sys2Proof.Rows.readAroundBudgetExpiry ctx c s) ∧
  (∀ cw c x r o s, Sys2Proof.Rows.busyReadAround cw c x r o s) ∧
  (∀ cw c x lba s, Sys2Proof.Rows.reconstructionComplete cw c x lba s)

/-- Die operations: start, refusal, completion, suspend and resume. -/
def Obligations.DieOperations : Prop :=
  (∀ ch die k o s, Sys2Proof.Rows.dieOperationStart ch die k o s) ∧
  (∀ ch die id o s, Sys2Proof.Rows.dieOperationStart_read ch die id o s) ∧
  (∀ ch die n o r s, Sys2Proof.Rows.dieOperationStart_window ch die n o r s) ∧
  (∀ ch die o s, Sys2Proof.Rows.dieOperationStart_refused ch die o s) ∧
  (∀ ch die k row i r z m s, Sys2Proof.Rows.programComplete ch die k row i r z m s) ∧
  (∀ ch die r s, Sys2Proof.Rows.programComplete_failed ch die r s) ∧
  (∀ ch die r s, Sys2Proof.Rows.eraseComplete ch die r s) ∧
  (∀ ch die r s, Sys2Proof.Rows.eraseComplete_failed ch die r s) ∧
  (∀ ch die page k o since id s, Sys2Proof.Rows.hardReadComplete ch die page k o since id s) ∧
  (∀ ch die r s, Sys2Proof.Rows.programSuspend ch die r s) ∧
  (∀ ch die r s, Sys2Proof.Rows.eraseSuspend ch die r s) ∧
  (∀ ch die r s, Sys2Proof.Rows.suspendComplete ch die r s) ∧
  (∀ ch die r s, Sys2Proof.Rows.programResume ch die r s) ∧
  (∀ ch die r s, Sys2Proof.Rows.eraseResume ch die r s)

/-- Dies that do not answer, the next wordline of a rebuild, and retraining of channels. -/
def Obligations.DieFailureAndRetraining : Prop :=
  (∀ ch die idOk s, Sys2Proof.Rows.dieReadyTimeout ch die idOk s) ∧
  (∀ ch die set key slot st m s, Sys2Proof.Rows.rebuildWordline ch die set key slot st m s) ∧
  (∀ ch s, Sys2Proof.Rows.retrainPeriodExpiry ch s) ∧
  (∀ r l s, Sys2Proof.Rows.retrainingSlotStart r l s) ∧
  (∀ r l s, Sys2Proof.Rows.slotDeferTimeout r l s) ∧
  (∀ eye burst r s, Sys2Proof.Rows.retrainingSlotEnd eye burst r s) ∧
  (∀ ch s, Sys2Proof.Rows.fullRetrainingStart ch s) ∧
  (∀ ch ok training s, Sys2Proof.Rows.fullRetrainingEnd ch ok training s)

/-- Sample readouts: samples ready, bursts, end of a Sample Out, class records cleared and bad columns. -/
def Obligations.SampleDetection : Prop :=
  (∀ ch die o since s, Sys2Proof.Rows.sampleReadComplete ch die o since s) ∧
  (∀ ch bytes r s, Sys2Proof.Rows.burstReceived ch bytes r s) ∧
  (∀ ch r id s, Sys2Proof.Rows.sampleOutEnd ch r id s) ∧
  (∀ ch r b l s, Sys2Proof.Rows.sampleOutEnd_again ch r b l s) ∧
  (∀ ch r b id l s, Sys2Proof.Rows.sampleOutEnd_resample ch r b id l s) ∧
  (∀ ch s, Sys2Proof.Rows.sdfClassClr ch s) ∧
  (∀ ch value s, Sys2Proof.Rows.sdfBadcolWrite ch value s)

/-- Codewords at the decoders, their ladder, and self-tests of the instances. -/
def Obligations.DecoderCluster : Prop :=
  (∀ cw iters word c x lba s, Sys2Proof.Rows.codewordDecoded cw iters word c x lba s) ∧
  (∀ cw iters word k check c s, Sys2Proof.Rows.codewordDecoded_check cw iters word k check c s) ∧
  (∀ cw c s, Sys2Proof.Rows.codewordDecodeFail cw c s) ∧
  (∀ cw c s, Sys2Proof.Rows.ladderStepBudgetExpiry cw c s) ∧
  (∀ k s, Sys2Proof.Rows.ldcStNow k s) ∧
  (∀ s, Sys2Proof.Rows.ldcStNow_waits s) ∧
  (∀ k s, Sys2Proof.Rows.ldcSelftestPeriod k s) ∧
  (∀ s, Sys2Proof.Rows.ldcSelftestPeriod_waits s) ∧
  (∀ pass k tk s, Sys2Proof.Rows.ldcSelftestEnd pass k tk s)

/-- Waypoint table commands, the end of their moves, and scrub. -/
def Obligations.WaypointTable : Prop :=
  (∀ index s, Sys2Proof.Rows.wptRead index s) ∧
  (∀ index s, Sys2Proof.Rows.wptWrite index s) ∧
  (∀ index s, Sys2Proof.Rows.wptInsert index s) ∧
  (∀ index s, Sys2Proof.Rows.wptDelete index s) ∧
  (∀ s, Sys2Proof.Rows.wptMoveComplete s) ∧
  (∀ upset s, Sys2Proof.Rows.wptScrubTick upset s)

/-- Partial parity, flush issue, flush to empty. -/
def Obligations.PartialParityAndFlush : Prop :=
  (∀ acc p z x s, Sys2Proof.Rows.accumulatorIdleSpill acc p z x s) ∧
  (∀ found s, Sys2Proof.Rows.partialParityRebuildEnd found s) ∧
  (∀ key n z m s, Sys2Proof.Rows.flushIssue key n z m s) ∧
  (∀ r n tag b s, Sys2Proof.Rows.flushIssue_conv r n tag b s) ∧
  (∀ s, Sys2Proof.Rows.flushIssue_none s) ∧
  (∀ s, Sys2Proof.Rows.flushToEmptyEnd s)

/-- The dirty limit and write-through. -/
def Obligations.DirtyLimitAndWriteThrough : Prop :=
  (∀ s, Sys2Proof.Rows.dirtyLimitRecompute s) ∧
  (∀ l k s, Sys2Proof.Rows.dirtyLimitRaise l k s) ∧
  (∀ s, Sys2Proof.Rows.writeThroughExit s) ∧
  (∀ value s, Sys2Proof.Rows.writeThroughForce value s)

/-- The buffer pool: allocation, release, transfer, sharing, free lists broken and rebuilt. -/
def Obligations.BufferPool : Prop :=
  (∀ pool owner slice i l internal s, Sys2Proof.Rows.bufferAllocate pool owner slice i l internal s) ∧
  (∀ pool owner slice i l internal s, Sys2Proof.Rows.bufferAllocate_broken pool owner slice i l internal s) ∧
  (∀ pool owner slice internal s, Sys2Proof.Rows.bufferAllocate_waits pool owner slice internal s) ∧
  (∀ list s, Sys2Proof.Rows.freeListRebuildEnd list s) ∧
  (∀ pool index owner d s, Sys2Proof.Rows.bufferRelease pool index owner d s) ∧
  (∀ pool index owner s, Sys2Proof.Rows.bufferRelease_error pool index owner s) ∧
  (∀ pool index owner newOwner d s, Sys2Proof.Rows.bufferTransfer pool index owner newOwner d s) ∧
  (∀ pool index owner newOwner s, Sys2Proof.Rows.bufferTransfer_error pool index owner newOwner s) ∧
  (∀ pool index owner n d s, Sys2Proof.Rows.bufferShare pool index owner n d s) ∧
  (∀ pool index owner n d s, Sys2Proof.Rows.bufferShare_error pool index owner n d s) ∧
  (∀ pool index owner d s, Sys2Proof.Rows.bufferDrop pool index owner d s) ∧
  (∀ pool index owner s, Sys2Proof.Rows.bufferDrop_error pool index owner s)

/-- Checkpoints, map restart and rebuild, relocation and reallocation. -/
def Obligations.CheckpointsAndRelocation : Prop :=
  (∀ s, Sys2Proof.Rows.xltCkptNow s) ∧
  (∀ s, Sys2Proof.Rows.checkpointTimer s) ∧
  (∀ r s, Sys2Proof.Rows.checkpointCommit r s) ∧
  (∀ s, Sys2Proof.Rows.checkpointLateTimeout s) ∧
  (∀ ms badRecords badFooters s, Sys2Proof.Rows.mapRestartEnd ms badRecords badFooters s) ∧
  (∀ s, Sys2Proof.Rows.mapRebuildEnd s) ∧
  (∀ tag b s, Sys2Proof.Rows.relocationStep tag b s) ∧
  (∀ tag c d k b s, Sys2Proof.Rows.relocationStep_retires tag c d k b s) ∧
  (∀ tag b s, Sys2Proof.Rows.relocationStep_reads tag b s) ∧
  (∀ n s, Sys2Proof.Rows.xltRelocOldest n s) ∧
  (∀ ch die block tag i s, Sys2Proof.Rows.reallocationAccept ch die block tag i s) ∧
  (∀ ch die block key i z m s, Sys2Proof.Rows.reallocationAccept_zone ch die block key i z m s) ∧
  (∀ ch die block s, Sys2Proof.Rows.reallocationAccept_none ch die block s)

/-- Input loss, the dump of a Detour, its commit, abandonment and superseding, and Return. -/
def Obligations.HoldUpDetourAndReturn : Prop :=
  (∀ s, Sys2Proof.Rows.inputLoss s) ∧
  (∀ s, Sys2Proof.Rows.inputLoss_detours s) ∧
  (∀ mv s, Sys2Proof.Rows.inputValid mv s) ∧
  (∀ mv s, Sys2Proof.Rows.inputInvalid mv s) ∧
  (∀ d e s, Sys2Proof.Rows.dumpPaceTick d e s) ∧
  (∀ c d x u s, Sys2Proof.Rows.dumpProgramComplete c d x u s) ∧
  (∀ c d x u s, Sys2Proof.Rows.dumpProgramComplete_failed c d x u s) ∧
  (∀ c d outcome x s, Sys2Proof.Rows.dumpProgramComplete_directory c d outcome x s) ∧
  (∀ c d outcome s, Sys2Proof.Rows.dumpProgramComplete_none c d outcome s) ∧
  (∀ c d x u s, Sys2Proof.Rows.dumpProgramComplete_dieFails c d x u s) ∧
  (∀ d s, Sys2Proof.Rows.dumpCommit d s) ∧
  (∀ d s, Sys2Proof.Rows.dumpCommit_powersDown d s) ∧
  (∀ d s, Sys2Proof.Rows.dumpAbandon d s) ∧
  (∀ d s, Sys2Proof.Rows.dumpSupersede d s) ∧
  (∀ lostUnits s, Sys2Proof.Rows.returnComplete lostUnits s) ∧
  (∀ s, Sys2Proof.Rows.returnWaitTimeout s)

/-- Pack gauge: samples, estimates, rest windows, uncertainty, impedance. -/
def Obligations.PackGaugeAndCharger : Prop :=
  (∀ volts amps temp s, Sys2Proof.Rows.gaugeSample volts amps temp s) ∧
  (∀ s, Sys2Proof.Rows.gaugeRecompute s) ∧
  (∀ s, Sys2Proof.Rows.gaugeRecompute_rest s) ∧
  (∀ ocv s, Sys2Proof.Rows.restWindowEnd ocv s) ∧
  (∀ ocv s, Sys2Proof.Rows.restWindowEnd_cold ocv s) ∧
  (∀ ocv l s, Sys2Proof.Rows.restWindowEnd_learning ocv l s) ∧
  (∀ s, Sys2Proof.Rows.forcedRestDue s) ∧
  (∀ s, Sys2Proof.Rows.forcedRestDue_rests s) ∧
  (∀ s, Sys2Proof.Rows.hucRestNow s) ∧
  (∀ s, Sys2Proof.Rows.uncertaintyHourly s) ∧
  (∀ s, Sys2Proof.Rows.estimateDisagree s) ∧
  (∀ s, Sys2Proof.Rows.hucZNow s) ∧
  (∀ s, Sys2Proof.Rows.impedanceStepStart s) ∧
  (∀ dv di s, Sys2Proof.Rows.impedanceMeasure dv di s) ∧
  (∀ dv di s, Sys2Proof.Rows.impedanceMeasure_fails dv di s) ∧
  (∀ dv di s, Sys2Proof.Rows.impedanceMeasure_open dv di s) ∧
  (∀ s, Sys2Proof.Rows.impedanceStepEnd s)

/-- Pack: insertion, removal, failure, life record and learning cycle. -/
def Obligations.PackFailureLifeAndLearning : Prop :=
  (∀ s, Sys2Proof.Rows.packHotTimeout s) ∧
  (∀ s, Sys2Proof.Rows.packHotTimeout_failed s) ∧
  (∀ s, Sys2Proof.Rows.chargeTimeout s) ∧
  (∀ s, Sys2Proof.Rows.chargeTimeout_failed s) ∧
  (∀ found p s, Sys2Proof.Rows.packInsert found p s) ∧
  (∀ found s, Sys2Proof.Rows.packInsert_unidentified found s) ∧
  (∀ s, Sys2Proof.Rows.packRemove s) ∧
  (∀ s, Sys2Proof.Rows.hucLearnNow s) ∧
  (∀ s, Sys2Proof.Rows.learnStart s) ∧
  (∀ ocv l s, Sys2Proof.Rows.learnRestEnd ocv l s) ∧
  (∀ s, Sys2Proof.Rows.lifeRecordPeriod s)

/-- Rails: faults, power-up steps, reset outputs, the droop guard and the end of BOOT. -/
def Obligations.RailsAndPowerUp : Prop :=
  (∀ rail dir mv ns s, Sys2Proof.Rows.railOutOfWindow rail dir mv ns s) ∧
  (∀ rail dir mv ns s, Sys2Proof.Rows.railOutOfWindow_input rail dir mv ns s) ∧
  (∀ rail dir mv ns s, Sys2Proof.Rows.railOutOfWindow_notArmed rail dir mv ns s) ∧
  (∀ rail dir mv ns s, Sys2Proof.Rows.railOutOfWindow_ao rail dir mv ns s) ∧
  (∀ s, Sys2Proof.Rows.aoPowerOnReset s) ∧
  (∀ split recover test s, Sys2Proof.Rows.powerUpStart split recover test s) ∧
  (∀ rail k s, Sys2Proof.Rows.railPowerGood rail k s) ∧
  (∀ rail env k s, Sys2Proof.Rows.railSettleDone rail env k s) ∧
  (∀ rail env k c s, Sys2Proof.Rows.railSettleDone_off rail env k c s) ∧
  (∀ rail env s, Sys2Proof.Rows.railSettleDone_boot rail env s) ∧
  (∀ rail env s, Sys2Proof.Rows.railSettleDone_test rail env s) ∧
  (∀ rail env s, Sys2Proof.Rows.railSettleDone_running rail env s) ∧
  (∀ rail s, Sys2Proof.Rows.powerGoodTimeout rail s) ∧
  (∀ rail s, Sys2Proof.Rows.powerGoodTimeout_phy rail s) ∧
  (∀ rail s, Sys2Proof.Rows.powerGoodTimeout_wake rail s) ∧
  (∀ rail k s, Sys2Proof.Rows.powerGoodTimeout_down rail k s) ∧
  (∀ s, Sys2Proof.Rows.holdUpBusArmed s) ∧
  (∀ bits s, Sys2Proof.Rows.psqRstoPulse bits s) ∧
  (∀ output s, Sys2Proof.Rows.rstoStretchExpiry output s) ∧
  (∀ sensor mv s, Sys2Proof.Rows.droopEngage sensor mv s) ∧
  (∀ sensor mv s, Sys2Proof.Rows.droopEngage_guardOff sensor mv s) ∧
  (∀ k s, Sys2Proof.Rows.droopRelease k s) ∧
  (∀ s, Sys2Proof.Rows.droopLong s) ∧
  (∀ s, Sys2Proof.Rows.bootEnd s) ∧
  (∀ n s, Sys2Proof.Rows.bootEnd_return n s)

/-- Off requests, the wait for flash, discharge step by step, and OFF. -/
def Obligations.PowerDown : Prop :=
  (∀ s, Sys2Proof.Rows.psqOff s) ∧
  (∀ s, Sys2Proof.Rows.psqOff_hold s) ∧
  (∀ s, Sys2Proof.Rows.psqOff_rest s) ∧
  (∀ s, Sys2Proof.Rows.offFlushTimeout s) ∧
  (∀ k s, Sys2Proof.Rows.flashReadyWaitEnd k s) ∧
  (∀ rail k j s, Sys2Proof.Rows.railDischarged rail k j s) ∧
  (∀ rail k s, Sys2Proof.Rows.railDischarged_off rail k s) ∧
  (∀ rail s, Sys2Proof.Rows.railDischarged_other rail s) ∧
  (∀ rail k j s, Sys2Proof.Rows.dischargeTimeout rail k j s) ∧
  (∀ rail k s, Sys2Proof.Rows.dischargeTimeout_off rail k s) ∧
  (∀ rail s, Sys2Proof.Rows.dischargeTimeout_other rail s)

/-- Mode requests, HOLD entry and release, acknowledgement of a thermal shutdown. -/
def Obligations.ModesHoldAndThermalAck : Prop :=
  (∀ s, Sys2Proof.Rows.modeTargetRun s) ∧
  (∀ s, Sys2Proof.Rows.modeTargetRun_hold s) ∧
  (∀ s, Sys2Proof.Rows.modeTargetRun_rejected s) ∧
  (∀ s, Sys2Proof.Rows.modeTargetService s) ∧
  (∀ s, Sys2Proof.Rows.modeTargetService_rejected s) ∧
  (∀ s, Sys2Proof.Rows.modeTargetService_hold s) ∧
  (∀ s, Sys2Proof.Rows.holdRequest s) ∧
  (∀ s, Sys2Proof.Rows.holdRequest_waits s) ∧
  (∀ s, Sys2Proof.Rows.holdRelease s) ∧
  (∀ r s, Sys2Proof.Rows.thermAck r s) ∧
  (∀ s, Sys2Proof.Rows.thermAck_none s) ∧
  (∀ r s, Sys2Proof.Rows.thermAck_hold r s)

/-- REST entry, wake and pad release, and the rounds of WATCH. -/
def Obligations.RestWakeAndWatch : Prop :=
  (∀ l12 idleMs noSref s, Sys2Proof.Rows.restIdleExpiry l12 idleMs noSref s) ∧
  (∀ l12 idleMs noSref s, Sys2Proof.Rows.restIdleExpiry_commits l12 idleMs noSref s) ∧
  (∀ l12 idleMs noSref d s, Sys2Proof.Rows.restIdleExpiry_noSref l12 idleMs noSref d s) ∧
  (∀ s, Sys2Proof.Rows.restEntryComplete s) ∧
  (∀ port s, Sys2Proof.Rows.clkreqAssert port s) ∧
  (∀ port s, Sys2Proof.Rows.causewaySignalDetect port s) ∧
  (∀ s, Sys2Proof.Rows.smbusAddressMatch s) ∧
  (∀ us powerGood k s, Sys2Proof.Rows.wakeStepDone us powerGood k s) ∧
  (∀ us k s, Sys2Proof.Rows.wakeStepDone_noPower us k s) ∧
  (∀ us s, Sys2Proof.Rows.wakeStepDone_noPhy us s) ∧
  (∀ us powerGood s, Sys2Proof.Rows.wakeStepDone_detour us powerGood s) ∧
  (∀ us s, Sys2Proof.Rows.wakeStepDone_last us s) ∧
  (∀ groups g s, Sys2Proof.Rows.padRelease groups g s) ∧
  (∀ groups k s, Sys2Proof.Rows.padRelease_wait groups k s) ∧
  (∀ s, Sys2Proof.Rows.padReleaseTimeout s) ∧
  (∀ s, Sys2Proof.Rows.watchEntry s) ∧
  (∀ inputMv packMv temp present s, Sys2Proof.Rows.watchRound inputMv packMv temp present s) ∧
  (∀ inputMv packMv temp present s, Sys2Proof.Rows.watchRound_absent inputMv packMv temp present s) ∧
  (∀ mv s, Sys2Proof.Rows.watchInputSample mv s) ∧
  (∀ byCurrent s, Sys2Proof.Rows.watchGaugeWake byCurrent s) ∧
  (∀ s, Sys2Proof.Rows.watchGaugeSleep s)

/-- DRAM channel: requests, reads, fences, refresh, alerts, retraining and loss. -/
def Obligations.DramRequestsRefreshAndReplay : Prop :=
  (∀ ch req s, Sys2Proof.Rows.dramRequest ch req s) ∧
  (∀ ch req s, Sys2Proof.Rows.dramRequest_write ch req s) ∧
  (∀ ch req s, Sys2Proof.Rows.dramRequest_any ch req s) ∧
  (∀ ch outcome q s, Sys2Proof.Rows.dramReadComplete ch outcome q s) ∧
  (∀ ch outcome q s, Sys2Proof.Rows.dramReadComplete_corrected ch outcome q s) ∧
  (∀ ch outcome q s, Sys2Proof.Rows.dramReadComplete_uncorrectable ch outcome q s) ∧
  (∀ ch outcome q s, Sys2Proof.Rows.dramReadComplete_loses ch outcome q s) ∧
  (∀ ch outcome s, Sys2Proof.Rows.dramReadComplete_none ch outcome s) ∧
  (∀ ch source s, Sys2Proof.Rows.dramFence ch source s) ∧
  (∀ ch bank s, Sys2Proof.Rows.dramRefresh ch bank s) ∧
  (∀ ch bank s, Sys2Proof.Rows.dramRefresh_postponed ch bank s) ∧
  (∀ ch value s, Sys2Proof.Rows.mr4Poll ch value s) ∧
  (∀ ch s, Sys2Proof.Rows.dramAlert ch s) ∧
  (∀ ch s, Sys2Proof.Rows.dramAlert_retrains ch s) ∧
  (∀ ch alerts s, Sys2Proof.Rows.dramRetrainEnd ch alerts s) ∧
  (∀ ch alerts s, Sys2Proof.Rows.dramRetrainEnd_lost ch alerts s) ∧
  (∀ ch s, Sys2Proof.Rows.dramStrobeTimeout ch s)

/-- DRAM repair and scrubs, SRAM words, DMA channels and SRAM scrubs. -/
def Obligations.MemoryRepairAndScrub : Prop :=
  (∀ ch index resource s, Sys2Proof.Rows.dramSoftRepair ch index resource s) ∧
  (∀ ch index resource s, Sys2Proof.Rows.dramSoftRepair_fences ch index resource s) ∧
  (∀ ch index resource s, Sys2Proof.Rows.dramSoftRepair_noFence ch index resource s) ∧
  (∀ ch k row n bad s, Sys2Proof.Rows.dramRepairEnd ch k row n bad s) ∧
  (∀ ch k n a s, Sys2Proof.Rows.dramRepairEnd_poison ch k n a s) ∧
  (∀ ch outcome s, Sys2Proof.Rows.dramPatrolScrub ch outcome s) ∧
  (∀ ch outcome s, Sys2Proof.Rows.dramPatrolScrub_uncorrectable ch outcome s) ∧
  (∀ value d s, Sys2Proof.Rows.dmcScrubGo value d s) ∧
  (∀ value d r s, Sys2Proof.Rows.dmcScrubGo_queued value d r s) ∧
  (∀ ch r s, Sys2Proof.Rows.dramScrubRangeEnd ch r s) ∧
  (∀ ch corrected uncorrectable r s, Sys2Proof.Rows.dramScrubRangeEnd_found ch corrected uncorrectable r s) ∧
  (∀ mac word scrub writes s, Sys2Proof.Rows.sramCorrectedWord mac word scrub writes s) ∧
  (∀ mac word scrub writes s, Sys2Proof.Rows.sramCorrectedWord_proposes mac word scrub writes s) ∧
  (∀ mac word scrub writes s, Sys2Proof.Rows.sramCorrectedWord_invalid mac word scrub writes s) ∧
  (∀ mac word writes r s, Sys2Proof.Rows.sramCorrectedWord_scrub mac word writes r s) ∧
  (∀ mac word kind master table ctx writes s, Sys2Proof.Rows.sramUncorrectableWord mac word kind master table ctx writes s) ∧
  (∀ mac word master inHandler table writes s, Sys2Proof.Rows.sramUncorrectableWord_dma mac word master inHandler table writes s) ∧
  (∀ mac word kind master i inHandler table ctx writes s, Sys2Proof.Rows.sramUncorrectableWord_table mac word kind master i inHandler table ctx writes s) ∧
  (∀ mac word kind master inHandler table ctx writes s, Sys2Proof.Rows.sramUncorrectableWord_invalid mac word kind master inHandler table ctx writes s) ∧
  (∀ value s, Sys2Proof.Rows.mpuDmaRearm value s) ∧
  (∀ value s, Sys2Proof.Rows.mpuScrubGo value s) ∧
  (∀ writes r s, Sys2Proof.Rows.sramScrubEnd writes r s)

/-- Causeway ports, HELLO, advertisements, paths, acknowledgements and credits. -/
def Obligations.CausewayLinkAndPaths : Prop :=
  (∀ port rate s, Sys2Proof.Rows.causewayTrained port rate s) ∧
  (∀ port rate s, Sys2Proof.Rows.causewayTrained_rate port rate s) ∧
  (∀ port s, Sys2Proof.Rows.helloTimer port s) ∧
  (∀ port hello s, Sys2Proof.Rows.helloReceived port hello s) ∧
  (∀ port hello s, Sys2Proof.Rows.helloReceived_first port hello s) ∧
  (∀ port hello s, Sys2Proof.Rows.helloReceived_foreign port hello s) ∧
  (∀ port hello s, Sys2Proof.Rows.helloReceived_refused port hello s) ∧
  (∀ port hello s, Sys2Proof.Rows.helloReceived_duplicate port hello s) ∧
  (∀ port hello s, Sys2Proof.Rows.helloReceived_disabled port hello s) ∧
  (∀ port s, Sys2Proof.Rows.helloDeadTimeout port s) ∧
  (∀ port s, Sys2Proof.Rows.blockLockLoss port s) ∧
  (∀ port lsa s, Sys2Proof.Rows.lsaReceived port lsa s) ∧
  (∀ port lsa old s, Sys2Proof.Rows.lsaReceived_known port lsa old s) ∧
  (∀ port lsa s, Sys2Proof.Rows.lsaReceived_full port lsa s) ∧
  (∀ port lsa s, Sys2Proof.Rows.lsaReceived_duplicate port lsa s) ∧
  (∀ port lsa s, Sys2Proof.Rows.lsaReceived_unexpected port lsa s) ∧
  (∀ s, Sys2Proof.Rows.lsaRefreshTimer s) ∧
  (∀ node s, Sys2Proof.Rows.lsaAgeOut node s) ∧
  (∀ s, Sys2Proof.Rows.pathRecomputeDone s) ∧
  (∀ port s, Sys2Proof.Rows.ackTimer port s) ∧
  (∀ port seq s, Sys2Proof.Rows.ackReceived port seq s) ∧
  (∀ port seq s, Sys2Proof.Rows.nakReceived port seq s) ∧
  (∀ port seq s, Sys2Proof.Rows.nakReceived_eighth port seq s) ∧
  (∀ port vc credits s, Sys2Proof.Rows.creditReceived port vc credits s) ∧
  (∀ port s, Sys2Proof.Rows.creditReturnTimer port s) ∧
  (∀ port reason seq vc units s, Sys2Proof.Rows.frameDiscarded port reason seq vc units s) ∧
  (∀ port reason seq vc units s, Sys2Proof.Rows.frameDiscarded_counted port reason seq vc units s) ∧
  (∀ port reason seq vc units s, Sys2Proof.Rows.frameDiscarded_again port reason seq vc units s) ∧
  (∀ port reason seq vc units s, Sys2Proof.Rows.frameDiscarded_unexpected port reason seq vc units s)

/-- Transit frames, requests of other nodes and their answers, remote requests. -/
def Obligations.FabricFramesAndRemoteRequests : Prop :=
  (∀ port f q d s, Sys2Proof.Rows.transitFrame port f q d s) ∧
  (∀ port f s, Sys2Proof.Rows.transitFrame_dropped port f s) ∧
  (∀ port f q d s, Sys2Proof.Rows.transitFrame_damaged port f q d s) ∧
  (∀ port f s, Sys2Proof.Rows.transitFrame_unexpected port f s) ∧
  (∀ port f slice s, Sys2Proof.Rows.reqReceived port f slice s) ∧
  (∀ port f slice s, Sys2Proof.Rows.reqReceived_served port f slice s) ∧
  (∀ port f d s, Sys2Proof.Rows.reqReceived_duplicate port f d s) ∧
  (∀ port f q d s, Sys2Proof.Rows.reqReceived_refused port f q d s) ∧
  (∀ port f s, Sys2Proof.Rows.reqReceived_unexpected port f s) ∧
  (∀ port f slice s, Sys2Proof.Rows.replReceived port f slice s) ∧
  (∀ port f q d s, Sys2Proof.Rows.replReceived_refused port f q d s) ∧
  (∀ port f s, Sys2Proof.Rows.replReceived_unexpected port f s) ∧
  (∀ port f slice s, Sys2Proof.Rows.copyReceived port f slice s) ∧
  (∀ port f q d s, Sys2Proof.Rows.copyReceived_refused port f q d s) ∧
  (∀ port f s, Sys2Proof.Rows.copyReceived_unexpected port f s) ∧
  (∀ port f b s, Sys2Proof.Rows.dataReceived port f b s) ∧
  (∀ port f b s, Sys2Proof.Rows.dataReceived_last port f b s) ∧
  (∀ port f b s, Sys2Proof.Rows.dataReceived_discard port f b s) ∧
  (∀ port f s, Sys2Proof.Rows.dataReceived_none port f s) ∧
  (∀ port f r id x s, Sys2Proof.Rows.rspReceived port f r id x s) ∧
  (∀ port f r id k x s, Sys2Proof.Rows.rspReceived_replica port f r id k x s) ∧
  (∀ port f r k x s, Sys2Proof.Rows.rspReceived_piece port f r k x s) ∧
  (∀ port f s, Sys2Proof.Rows.rspReceived_none port f s) ∧
  (∀ port f r id x s, Sys2Proof.Rows.rdataReceived port f r id x s) ∧
  (∀ port f s, Sys2Proof.Rows.rdataReceived_none port f s) ∧
  (∀ tag r s, Sys2Proof.Rows.e2eTimeout tag r s) ∧
  (∀ tag r id x s, Sys2Proof.Rows.e2eTimeout_fails tag r id x s) ∧
  (∀ tag s, Sys2Proof.Rows.e2eTimeout_none tag s) ∧
  (∀ entry d s, Sys2Proof.Rows.dupEntryExpiry entry d s) ∧
  (∀ entry s, Sys2Proof.Rows.dupEntryExpiry_none entry s) ∧
  (∀ copy tag data x s, Sys2Proof.Rows.copyPieceSend copy tag data x s) ∧
  (∀ copy data s, Sys2Proof.Rows.copyPieceSend_none copy data s) ∧
  (∀ ports p s, Sys2Proof.Rows.jnrWakeTx ports p s) ∧
  (∀ binding s, Sys2Proof.Rows.bindingWakeTimer binding s) ∧
  (∀ binding s, Sys2Proof.Rows.bindingWakeTimer_first binding s) ∧
  (∀ binding n at_ s, Sys2Proof.Rows.bindingWakeTimer_next binding n at_ s) ∧
  (∀ binding n at_ s, Sys2Proof.Rows.bindingWakeTimer_over binding n at_ s) ∧
  (∀ value s, Sys2Proof.Rows.jnrCfgWrite value s) ∧
  (∀ binding word value s, Sys2Proof.Rows.jnrBindWrite binding word value s)

/-- Error reports, captures, fault dump, event routing and the host event queue. -/
def Obligations.FaultsAndEvents : Prop :=
  (∀ addr master type cls space s, Sys2Proof.Rows.errorReport addr master type cls space s) ∧
  (∀ addr master type cls space s, Sys2Proof.Rows.errorReport_contained addr master type cls space s) ∧
  (∀ addr master type cls space s, Sys2Proof.Rows.errorReport_fatal addr master type cls space s) ∧
  (∀ addr master type cls space s, Sys2Proof.Rows.errorReport_fatal_down addr master type cls space s) ∧
  (∀ addr master type cls space s, Sys2Proof.Rows.errorReport_fatal_again addr master type cls space s) ∧
  (∀ q s, Sys2Proof.Rows.faultDumpTimeout q s) ∧
  (∀ s, Sys2Proof.Rows.faultDumpTimeout_none s) ∧
  (∀ s, Sys2Proof.Rows.restartCountReset s) ∧
  (∀ s, Sys2Proof.Rows.fclCaptureClear s) ∧
  (∀ r s, Sys2Proof.Rows.eventDispatch r s) ∧
  (∀ r n q s, Sys2Proof.Rows.eventDispatch_folds r n q s) ∧
  (∀ r s, Sys2Proof.Rows.eventDispatch_queued r s) ∧
  (∀ r s, Sys2Proof.Rows.eventDispatch_full r s) ∧
  (∀ r s, Sys2Proof.Rows.eventDispatch_interrupt r s) ∧
  (∀ s, Sys2Proof.Rows.eventDispatch_none s) ∧
  (∀ s, Sys2Proof.Rows.evrQclr s)

/-- Log ring, lines, epochs, counters, housekeeping rounds and the thermal trip. -/
def Obligations.MilestoneMemoryAndHousekeeping : Prop :=
  (∀ r rest s, Sys2Proof.Rows.logRecordWrite r rest s) ∧
  (∀ s, Sys2Proof.Rows.logRecordWrite_empty s) ∧
  (∀ n q r s, Sys2Proof.Rows.logRepeatFlush n q r s) ∧
  (∀ s, Sys2Proof.Rows.logRepeatFlush_none s) ∧
  (∀ line pulses ok s, Sys2Proof.Rows.milestoneLineWrite line pulses ok s) ∧
  (∀ line pulses ok s, Sys2Proof.Rows.milestoneLineWrite_again line pulses ok s) ∧
  (∀ line pulses ok s, Sys2Proof.Rows.milestoneLineWrite_fourth line pulses ok s) ∧
  (∀ line pulses ok s, Sys2Proof.Rows.milestoneLineWrite_retires line pulses ok s) ∧
  (∀ line pulses ok s, Sys2Proof.Rows.milestoneLineWrite_fails line pulses ok s) ∧
  (∀ s, Sys2Proof.Rows.epochHeaderWrite s) ∧
  (∀ s, Sys2Proof.Rows.counterLineWrite s) ∧
  (∀ s, Sys2Proof.Rows.operatingHoursStep s) ∧
  (∀ port size off s, Sys2Proof.Rows.msmLogDataRead port size off s) ∧
  (∀ port size off s, Sys2Proof.Rows.msmLogDataRead_next port size off s) ∧
  (∀ port size off b s, Sys2Proof.Rows.msmWinDataRead port size off b s) ∧
  (∀ port size off s, Sys2Proof.Rows.msmWinDataRead_free port size off s) ∧
  (∀ s, Sys2Proof.Rows.msmReportClr s) ∧
  (∀ r s, Sys2Proof.Rows.housekeepingRound r s) ∧
  (∀ r s, Sys2Proof.Rows.housekeepingRound_throttles r s) ∧
  (∀ r s, Sys2Proof.Rows.housekeepingRound_shutdown r s) ∧
  (∀ sensor s, Sys2Proof.Rows.thermalTrip sensor s)

/-- Firmware store reads, download, commit, trial, activation and core halts. -/
def Obligations.FirmwareStoreAndActivation : Prop :=
  (∀ line bits core branch s, Sys2Proof.Rows.firmwareStoreRead line bits core branch s) ∧
  (∀ line bits core branch s, Sys2Proof.Rows.firmwareStoreRead_held line bits core branch s) ∧
  (∀ line bits a core s, Sys2Proof.Rows.firmwareStoreRead_cached line bits a core s) ∧
  (∀ line bits core branch s, Sys2Proof.Rows.firmwareStoreRead_weak line bits core branch s) ∧
  (∀ line bits branch s, Sys2Proof.Rows.firmwareStoreRead_uncorrectable line bits branch s) ∧
  (∀ line bits k branch s, Sys2Proof.Rows.firmwareStoreRead_traps line bits k branch s) ∧
  (∀ line bits k branch s, Sys2Proof.Rows.firmwareStoreRead_halts line bits k branch s) ∧
  (∀ ctx data x s, Sys2Proof.Rows.firmwareImageDownload ctx data x s) ∧
  (∀ ctx data s, Sys2Proof.Rows.firmwareImageDownload_none ctx data s) ∧
  (∀ ctx header x s, Sys2Proof.Rows.firmwareCommit ctx header x s) ∧
  (∀ ctx header x s, Sys2Proof.Rows.firmwareCommit_refused ctx header x s) ∧
  (∀ ctx hdr s, Sys2Proof.Rows.firmwareCommit_none ctx hdr s) ∧
  (∀ w id x s, Sys2Proof.Rows.firmwareSlotProgrammed w id x s) ∧
  (∀ w id x s, Sys2Proof.Rows.firmwareSlotProgrammed_failed w id x s) ∧
  (∀ w id s, Sys2Proof.Rows.firmwareSlotProgrammed_kept w id s) ∧
  (∀ ok s, Sys2Proof.Rows.firmwareSlotProgrammed_none ok s) ∧
  (∀ ctx slot s, Sys2Proof.Rows.firmwareActivateImmediate ctx slot s) ∧
  (∀ ctx s, Sys2Proof.Rows.firmwareActivateImmediate_none ctx s) ∧
  (∀ s, Sys2Proof.Rows.trialConfirm s) ∧
  (∀ slot id x s, Sys2Proof.Rows.activationComplete slot id x s) ∧
  (∀ s, Sys2Proof.Rows.activationComplete_none s) ∧
  (∀ slot id q x s, Sys2Proof.Rows.activationTimeout slot id q x s) ∧
  (∀ s, Sys2Proof.Rows.activationTimeout_none s) ∧
  (∀ core cause k s, Sys2Proof.Rows.coreHalt core cause k s) ∧
  (∀ core cause s, Sys2Proof.Rows.coreHalt_fatal core cause s) ∧
  (∀ core cause s, Sys2Proof.Rows.coreHalt_spare core cause s) ∧
  (∀ cause s, Sys2Proof.Rows.coreHalt_supervisor cause s) ∧
  (∀ s, Sys2Proof.Rows.configCommitTimer s) ∧
  (∀ s, Sys2Proof.Rows.configCommitTimer_over s) ∧
  (∀ r s, Sys2Proof.Rows.configCommitEnd r s) ∧
  (∀ s, Sys2Proof.Rows.configCommitEnd_none s)

/-- Packets that read: each is answered with Success and the data Table 16.4 names, over the carrier that brought it. -/
def Obligations.PacketsThatOnlyRead : Prop :=
  (∀ p s, Sys2Proof.Rows.getIdentity p s) ∧
  (∀ p s, Sys2Proof.Rows.getConfigurationReport p s) ∧
  (∀ p s, Sys2Proof.Rows.getNamespaceIdentify p s) ∧
  (∀ p s, Sys2Proof.Rows.readRegisters p s) ∧
  (∀ p c s, Sys2Proof.Rows.getRecordStatus p c s) ∧
  (∀ p s, Sys2Proof.Rows.getRecordStatus_none p s) ∧
  (∀ p s, Sys2Proof.Rows.getSliceStatus p s) ∧
  (∀ p s, Sys2Proof.Rows.getPackStatus p s) ∧
  (∀ p s, Sys2Proof.Rows.readPackHistory p s) ∧
  (∀ p k s, Sys2Proof.Rows.queryTicket p k s) ∧
  (∀ p s, Sys2Proof.Rows.readLog p s) ∧
  (∀ p s, Sys2Proof.Rows.readEventQueue p s) ∧
  (∀ p s, Sys2Proof.Rows.readDirtyEpochReport p s) ∧
  (∀ p s, Sys2Proof.Rows.readLateFaultRecords p s) ∧
  (∀ p s, Sys2Proof.Rows.getFabricStatus p s) ∧
  (∀ p s, Sys2Proof.Rows.getSlotInfo p s) ∧
  (∀ p s, Sys2Proof.Rows.getThermalAndPower p s) ∧
  (∀ p data s, Sys2Proof.Rows.rawRead p data s) ∧
  (∀ p st s, Sys2Proof.Rows.readRegisters_refused p st s) ∧
  (∀ p s, Sys2Proof.Rows.readRegisters_unheard p s)

/-- Packets that write registers: the fields take the parameters' values, and the reply is Success. -/
def Obligations.PacketsThatWriteRegisters : Prop :=
  (∀ p f i j s, Sys2Proof.Rows.writeRegister p f i j s) ∧
  (∀ p s, Sys2Proof.Rows.setSliceCount p s) ∧
  (∀ p s, Sys2Proof.Rows.bindPasid p s) ∧
  (∀ p s, Sys2Proof.Rows.setAccessBitmap p s) ∧
  (∀ p s, Sys2Proof.Rows.setSliceBudgets p s) ∧
  (∀ p s, Sys2Proof.Rows.setRoute p s) ∧
  (∀ p s, Sys2Proof.Rows.setProfile p s) ∧
  (∀ p s, Sys2Proof.Rows.setNamespaceProfile p s) ∧
  (∀ p s, Sys2Proof.Rows.setCharging p s) ∧
  (∀ p s, Sys2Proof.Rows.setNode p s) ∧
  (∀ p s, Sys2Proof.Rows.setNodeSlice p s) ∧
  (∀ p s, Sys2Proof.Rows.unbindNamespace p s) ∧
  (∀ p s, Sys2Proof.Rows.setBadColumnRange p s)

/-- Packets whose reply waits: for a commit, a slice reset, a mode change, a firmware slot, a remote namespace's data. -/
def Obligations.PacketsThatWait : Prop :=
  (∀ p s, Sys2Proof.Rows.commitConfiguration p s) ∧
  (∀ p s, Sys2Proof.Rows.resetSlice p s) ∧
  (∀ p r s, Sys2Proof.Rows.bindNamespace p r s) ∧
  (∀ p s, Sys2Proof.Rows.bindNamespace_unreachable p s) ∧
  (∀ p hdr s, Sys2Proof.Rows.commitFirmware p hdr s) ∧
  (∀ p hdr s, Sys2Proof.Rows.commitFirmware_refused p hdr s) ∧
  (∀ p hdr s, Sys2Proof.Rows.commitFirmware_rom p hdr s) ∧
  (∀ p hdr s, Sys2Proof.Rows.downloadFirmware p hdr s) ∧
  (∀ p hdr s, Sys2Proof.Rows.downloadFirmware_rom p hdr s) ∧
  (∀ p s, Sys2Proof.Rows.setMode p s) ∧
  (∀ p s, Sys2Proof.Rows.setMode_service p s) ∧
  (∀ p s, Sys2Proof.Rows.setMode_ignored p s) ∧
  (∀ p n u z s, Sys2Proof.Rows.peerZoneCopy p n u z s) ∧
  (∀ p s, Sys2Proof.Rows.peerZoneCopy_refused p s) ∧
  (∀ p n u s, Sys2Proof.Rows.requestSelfTest p n u s) ∧
  (∀ p n u s, Sys2Proof.Rows.requestSelfTest_checkpoint p n u s) ∧
  (∀ p s, Sys2Proof.Rows.requestSelfTest_conditionNotMet p s) ∧
  (∀ p n u s, Sys2Proof.Rows.requestSelfTest_held p n u s) ∧
  (∀ p s, Sys2Proof.Rows.requestSelfTest_queueFull p s) ∧
  (∀ p s, Sys2Proof.Rows.requestSelfTest_refused p s)

/-- Packets that act at once: waypoints, tickets, log, reports, thermal acknowledgement, off, raw media, die failure. -/
def Obligations.PacketsThatAct : Prop :=
  (∀ p s, Sys2Proof.Rows.waypointCommand p s) ∧
  (∀ p s, Sys2Proof.Rows.waypointCommand_rejected p s) ∧
  (∀ p k s, Sys2Proof.Rows.cancelTicket p k s) ∧
  (∀ s, Sys2Proof.Rows.mgiTclr s) ∧
  (∀ ticket k q s, Sys2Proof.Rows.ticketExpiry ticket k q s) ∧
  (∀ ticket s, Sys2Proof.Rows.ticketExpiry_none ticket s) ∧
  (∀ p s, Sys2Proof.Rows.writeAnnotation p s) ∧
  (∀ p s, Sys2Proof.Rows.clearDirtyEpochReport p s) ∧
  (∀ p s, Sys2Proof.Rows.acknowledgeThermalShutdown p s) ∧
  (∀ p s, Sys2Proof.Rows.powerOff p s) ∧
  (∀ p s, Sys2Proof.Rows.rawProgram p s) ∧
  (∀ p s, Sys2Proof.Rows.rawProgram_last p s) ∧
  (∀ p s, Sys2Proof.Rows.rawErase p s) ∧
  (∀ p s, Sys2Proof.Rows.declareDieFailed p s)

/-- The carriers of packets, the NVMe-MI commands of the sideband, and the instructions of the test port. -/
def Obligations.CarriersNvmeMiAndTestPort : Prop :=
  (∀ ctx bytes replyOk x s, Sys2Proof.Rows.mgmtPacketCarrier ctx bytes replyOk x s) ∧
  (∀ ctx fetched replyOk x s, Sys2Proof.Rows.mgmtPacketCarrier_refused ctx fetched replyOk x s) ∧
  (∀ port f s, Sys2Proof.Rows.mgmtReceived port f s) ∧
  (∀ port f s, Sys2Proof.Rows.mgmtReceived_part port f s) ∧
  (∀ port f r n k m s, Sys2Proof.Rows.mgmtRspReceived port f r n k m s) ∧
  (∀ port f r n k m s, Sys2Proof.Rows.mgmtRspReceived_failed port f r n k m s) ∧
  (∀ type id s, Sys2Proof.Rows.readNvmeMiDataStructure type id s) ∧
  (∀ clear s, Sys2Proof.Rows.subsystemHealthStatusPoll clear s) ∧
  (∀ controller s, Sys2Proof.Rows.controllerHealthStatusPoll controller s) ∧
  (∀ p s, Sys2Proof.Rows.nvmeMiVendorC1 p s) ∧
  (∀ p s, Sys2Proof.Rows.nvmeMiVendorC1_carrier p s) ∧
  (∀ tdi s, Sys2Proof.Rows.bypass tdi s) ∧
  (∀ tdi s, Sys2Proof.Rows.idcode tdi s) ∧
  (∀ pins tdi s, Sys2Proof.Rows.samplePreload pins tdi s) ∧
  (∀ pins tdi s, Sys2Proof.Rows.extest pins tdi s) ∧
  (∀ tdi s, Sys2Proof.Rows.clamp tdi s) ∧
  (∀ tdi s, Sys2Proof.Rows.highz tdi s) ∧
  (∀ p st s, Sys2Proof.Rows.nvmeMiVendorC1_refused p st s)

/-- Outside RUN and SERVICE a queue creation completes with Command Sequence Error. -/
def Obligations.QueueCreationOutsideRunAndService : Prop :=
  (∀ ctx x s, Sys2Proof.Rows.createIoCq_mode ctx x s) ∧
  (∀ ctx x s, Sys2Proof.Rows.createIoSq_mode ctx x s)

/-- A command fetched from a queue whose PASID maps to no slice is dropped and counted. -/
def Obligations.CommandsOfUnmappedQueuesDropped : Prop :=
  (∀ port entry slot q x s, Sys2Proof.Rows.commandFetch_unmapped port entry slot q x s) ∧
  (∀ s, Sys2Proof.Rows.qenClrCnt_rearm s)

/-- A slice reset increments the generation, which wraps to 1, and its end has it written to the configuration record. -/
def Obligations.SliceGenerationsAdvance : Prop :=
  (∀ slice go s, Sys2Proof.Rows.sliceResetRequest_gen slice go s) ∧
  (∀ slice r s, Sys2Proof.Rows.sliceResetComplete_gen slice r s)

/-- Raw programs and erases leave block states alone, and nothing is bound until a checked erase of the block. -/
def Obligations.RawMediaCommandsUnbind : Prop :=
  (∀ p s, Sys2Proof.Rows.rawErase_block p s) ∧ (∀ p s, Sys2Proof.Rows.rawProgram_block p s) ∧
  (∀ c s ch die b, Unbound.rawBlock ch die b ∈ s.unbound → mayRemove c = false → exec c s = .fault .unpredictable) ∧
  (∀ s ch die r, s.unbound = [.rawBlock ch die r.op.block] → Quiet s → s.arrayEnds ch die .erase = some r → r.op.owner = .other → ch < 64 → die < 32 →
    s.flashOn = true → s.busFree ch = true → ∃ t, exec (.eraseComplete ch die true) s = .next t ∧ Bound t ∧ (t.block ch die r.op.block).st = .erased)

/-- A step runs the command at the front of the queue, on the state with the queue's rest. -/
def Obligations.StepRunsFrontCommand : Prop :=
  ∀ (c : Instr) (s : State) (rest : List Instr), Sys2Proof.Machine.step { s with pending := c :: rest } = exec c { s with pending := rest }

/-- With an empty queue the block idles for one count of the always-on counter (the model's choice). -/
def Obligations.EmptyQueueIdles : Prop :=
  ∀ s : State, s.pending = [] → ∃ t, Sys2Proof.Machine.step s = .next t ∧ t.pending = [] ∧ (s.pw.ao = true → t.now = s.now + 1) ∧ (s.pw.ao = false → t = s)

/-- Every command completes in every bound state, and leaves the queue alone. -/
def Obligations.EveryBoundCommandCompletes : Prop :=
  ∀ (c : Instr) (s : State), Bound s → ∃ t, exec c s = .next t ∧ t.pending = s.pending

/-- While an unpredictable case is present, only a command that removes one goes on. -/
def Obligations.UnboundStateStops : Prop :=
  ∀ (c : Instr) (s : State), ¬Bound s →
    exec c s = .fault .unpredictable ∨ (mayRemove c = true ∧ ∃ t, exec c s = .next t ∧ t.unbound.length < s.unbound.length)

/-- No command is refused, in any state. -/
def Obligations.NoCommandIsRefused : Prop :=
  ∀ (c : Instr) (s : State) (r : Refusal), exec c s ≠ .refused r

/-- Commands take no time: only idling and the AO power-on reset move the always-on counter. -/
def Obligations.OnlyIdlingMovesTime : Prop :=
  ∀ (c : Instr) (s t : State), exec c s = .next t → t.now = if c = .aoPowerOnReset then 0 else s.now

/-- The state after reset meets the invariant of every step. -/
def Obligations.ResetMeetsTheInvariant : Prop :=
  Inv State.reset

/-- Every step keeps: context counts shown, sideband pins low before BOOT has ended, clean slots noted. -/
def Obligations.StepKeepsTheInvariant : Prop :=
  ∀ s t : State, Inv s → Sys2Proof.Machine.step s = .next t → Inv t

/-- Right after reset the device is off, nothing waits, and every register field holds its Reset value. -/
def Obligations.ResetState : Prop :=
  (∀ f ∈ allFields, ∀ i j, f.reg.has i j = true → State.reset.get f i j = f.reset i % 2 ^ f.width)
  ∧ State.reset.md.mode = .off ∧ State.reset.pending = [] ∧ State.reset.now = 0 ∧ State.reset.ctxs = [] ∧ State.reset.ns = [] ∧ State.reset.unbound = []
  ∧ State.reset.get GLB_IDENT_PART = 0x6400 ∧ State.reset.get GLB_IDENT_STEPPING = 0xB0 ∧ State.reset.get GLB_IDENT_CHANNELS = 64
  ∧ (∀ n < 256, ∀ w < 32, State.reset.get SLM_NSACC n w = 0xFFFFFFFF) ∧ State.reset.get WCU_DIRTY_CFG_CEIL = 0x100 ∧ State.reset.get HUC_SUPPLY_CFG_VALID_DV = 110
  ∧ State.reset.get HUC_CHG_CFG_LEARN_DAYS = 30 ∧ State.reset.get PSC_REST_CFG_IDLE_MS = 5 ∧ State.reset.get PSC_WATCH_CFG_PERIOD = 10 ∧ State.reset.get MPU_CFG_CE_TH = 16
  ∧ State.reset.get THM_CFG_STEP1_C = 100 ∧ (∀ c < 64, State.reset.get WPT_ROUTE_CFG_V c = if c = 0 then 1 else 0)

/-- No two fields of the register tables share a bit. -/
def Obligations.FieldsDoNotOverlap : Prop :=
  ∀ f ∈ allFields, ∀ g ∈ allFields, ∀ i j k l, f.reg.has i j = true → g.reg.has k l = true → (f, i, j) ≠ (g, k, l) →
    f.key i j + f.width ≤ g.key k l ∨ g.key k l + g.width ≤ f.key i j

/-- A field set to a value reads back that value cut to its width, and every other field is as before. -/
def Obligations.FieldWritesReadBack : Prop :=
  (∀ (s : State) (f : Field) (v i j : Nat), f ∈ allFields → f.reg.has i j = true → (s.set f v i j).get f i j = v % 2 ^ f.width) ∧
  (∀ (s : State) (f g : Field) (v i j k l : Nat), f ∈ allFields → g ∈ allFields → f.reg.has i j = true → g.reg.has k l = true → (f, i, j) ≠ (g, k, l) →
    (s.set f v i j).get g k l = s.get g k l) ∧
  (∀ (s : State) (f : Field) (v i j : Nat), f ∈ allFields → RegsCanonical s → RegsCanonical (s.set f v i j))

/-- A counter stops at its largest value; the first saturation sets its block's flag and raises its event once. -/
def Obligations.CountersSaturate : Prop :=
  ∀ (s : State) (b : CntBlock) (f : Field) (i n owner si : Nat), f.reg.has i 0 = true → b.sat.reg.has si 0 = true → b.sat.width = 1 → b.src < 288 →
    f.key i 0 ≠ b.sat.key si 0 → (∀ k, f.key i 0 ≠ EVR_PEND.key k 0) → (∀ k, b.sat.key si 0 ≠ EVR_PEND.key k 0) →
    Counts f i n s (s.bump b f i n owner si) ∧
    (s.get f i + n < 2 ^ f.width → (s.bump b f i n owner si).ev = s.ev ∧ OnlyRegs [f.key i 0] s (s.bump b f i n owner si)) ∧
    (2 ^ f.width ≤ s.get f i + n → (b.src, owner + 0x100) ∉ s.ev.fired →
      (s.bump b f i n owner si).get b.sat si = 1 ∧ Raises b.src s (s.bump b f i n owner si) ∧ (b.src, owner + 0x100) ∈ (s.bump b f i n owner si).ev.fired) ∧
    ((b.src, owner + 0x100) ∈ s.ev.fired → (s.bump b f i n owner si).ev = s.ev ∧ OnlyRegs [f.key i 0] s (s.bump b f i n owner si))

/-- A raised source sets its bit in EVR.PEND_w, w the source divided by 32, and changes no other pending bit. -/
def Obligations.RaisedSourcesPend : Prop :=
  ∀ (s : State) (n q : Nat), n < 288 →
    Raises n s (s.raise n q) ∧ OnlyRegs [EVR_PEND.key (n / 32) 0] s (s.raise n q) ∧ KeepsAll s { s.raise n q with ev := s.ev } ∧
    ∀ w < 9, ∀ b < 32, bit ((s.raise n q).get EVR_PEND w) b = (decide (w = n / 32 ∧ b = n % 32) || bit (s.get EVR_PEND w) b)

/-- A reply's header, parameters and CRCs stand where the reply layout puts them. -/
def Obligations.ReplyLayout : Prop :=
  ∀ (p body : List Nat) (st : Nat), st < 65536 → st ≠ 0x10 → body.length < 65536 →
    (replyBytes p st body).length = 20 + body.length ∧ field (replyBytes p st body) 0 1 = 1 ∧ bit (field (replyBytes p st body) 1 1) 0 = true ∧
    field (replyBytes p st body) 2 2 = pkOpcode p % 65536 ∧ field (replyBytes p st body) 4 2 = pkTag p % 65536 ∧ field (replyBytes p st body) 6 2 = st ∧
    field (replyBytes p st body) 8 2 = body.length ∧ ((replyBytes p st body).drop 16).take body.length = body ∧
    field (replyBytes p st body) 12 4 = crc32 ((replyBytes p st body).take 12) ∧
    field (replyBytes p st body) (16 + body.length) 4 = crc32 ((replyBytes p st body).take (16 + body.length))

/-- A packet built by the packet layout passes the format checks, and its fields read back. -/
def Obligations.PacketsBuiltPassTheFormatChecks : Prop :=
  ∀ (opc tag : Nat) (params : List Nat) (s : State) (origin m : Nat), opc < 65536 → tag < 65536 → params.length ≤ 4160 →
    pkOpcode (packetOf opc tag params) = opc ∧ pkTag (packetOf opc tag params) = tag ∧ pkParams (packetOf opc tag params) = params ∧
    (s.tagInUse { carrier := 1, origin := origin, bytes := packetOf opc tag params, replyMax := m } = false →
      s.formatFault { carrier := 1, origin := origin, bytes := packetOf opc tag params, replyMax := m } = none)

end
end

