-- ==== Sys2Proof/Laws/Map.lean ====
section
/-!
SUPPORT. Laws of the sparse table: what a lookup finds after a put, a deletion, a change, and that every operation keeps the
canonical form.
-/

namespace Sys2Proof

variable {V : Type}

@[simp] theorem NMap.look_nil (k : Nat) : NMap.look ([] : NMap V) k = none := rfl

theorem NMap.look_put (m : NMap V) (k k' : Nat) (v : V) :
    (m.put k v).look k' = if k = k' then some v else m.look k' := by
  induction m with
  | nil => simp [NMap.put, NMap.look]
  | cons h t ih =>
    obtain ⟨a, b⟩ := h
    simp only [NMap.put]
    split
    · simp [NMap.look]
    · split
      · subst_vars; simp only [NMap.look]; split <;> simp_all
      · simp only [NMap.look, ih]; split <;> split <;> first | rfl | omega

@[simp] theorem NMap.look_put_same (m : NMap V) (k : Nat) (v : V) : (m.put k v).look k = some v := by
  simp [NMap.look_put]

theorem NMap.look_put_ne (m : NMap V) (k k' : Nat) (v : V) (h : k ≠ k') : (m.put k v).look k' = m.look k' := by
  simp [NMap.look_put, h]

theorem NMap.look_del (m : NMap V) (k k' : Nat) : (m.del k).look k' = if k = k' then none else m.look k' := by
  induction m with
  | nil => simp [NMap.del]
  | cons h t ih =>
    obtain ⟨a, b⟩ := h
    simp only [NMap.del] at ih
    by_cases ha : a = k
    · subst ha
      simp only [NMap.del, List.filter, NMap.look, bne_self_eq_false, ih]
      split <;> simp
    · have : (a != k) = true := by simpa using ha
      simp only [NMap.del, List.filter, this, NMap.look, ih]
      split <;> split <;> first | rfl | omega

theorem NMap.lookD_putD [DecidableEq V] (m : NMap V) (k k' : Nat) (v d d' : V) :
    (m.putD k v d).lookD k' d' = if k = k' then (if v = d then d' else v) else m.lookD k' d' := by
  unfold NMap.putD NMap.lookD
  split <;> simp only [NMap.look_del, NMap.look_put] <;> split <;> simp

theorem NMap.look_putD_ne [DecidableEq V] (m : NMap V) (k k' : Nat) (v d : V) (h : k ≠ k') :
    (m.putD k v d).look k' = m.look k' := by
  unfold NMap.putD
  split <;> simp [NMap.look_del, NMap.look_put, h]

theorem NMap.look_mapVals (m : NMap V) (f : Nat → V → V) (k : Nat) : (m.mapVals f).look k = (m.look k).map (f k) := by
  induction m with
  | nil => rfl
  | cons a t ih =>
    obtain ⟨x, y⟩ := a
    simp only [NMap.mapVals] at ih
    simp only [NMap.mapVals, List.map, NMap.look, ih]
    split
    · subst_vars; rfl
    · rfl

/-- Every key of a table is at least some bound. -/
def NMap.From (n : Nat) (m : NMap V) : Prop := ∀ e ∈ m, n ≤ e.1

theorem NMap.sorted_cons (k : Nat) (v : V) (m : NMap V) :
    NMap.Sorted ((k, v) :: m) ↔ NMap.From (k + 1) m ∧ NMap.Sorted m := by
  induction m generalizing k v with
  | nil => simp [NMap.Sorted, NMap.From]
  | cons h t ih =>
    obtain ⟨a, b⟩ := h
    rw [NMap.Sorted]
    constructor
    · rintro ⟨h1, h2⟩
      refine ⟨?_, h2⟩
      have := (ih a b).1 h2
      intro e he
      rcases List.mem_cons.1 he with rfl | he
      · exact h1
      · have := this.1 e he; omega
    · rintro ⟨h1, h2⟩
      exact ⟨h1 (a, b) (List.mem_cons_self ..), h2⟩

theorem NMap.from_put (n : Nat) (m : NMap V) (k : Nat) (v : V) (hk : n ≤ k) (h : m.From n) : (m.put k v).From n := by
  induction m with
  | nil => intro e he; simp [NMap.put] at he; subst he; exact hk
  | cons a t ih =>
    obtain ⟨x, y⟩ := a
    have ht : NMap.From n t := fun e he => h e (List.mem_cons_of_mem _ he)
    simp only [NMap.put]
    split
    · intro e he
      rcases List.mem_cons.1 he with rfl | he
      · exact hk
      · exact h e he
    · split
      · intro e he
        rcases List.mem_cons.1 he with rfl | he
        · exact hk
        · exact ht e he
      · intro e he
        rcases List.mem_cons.1 he with rfl | he
        · exact h (x, y) (List.mem_cons_self ..)
        · exact ih ht e he

theorem NMap.sorted_put (m : NMap V) (k : Nat) (v : V) (h : m.Sorted) : (m.put k v).Sorted := by
  induction m with
  | nil => simp [NMap.put, NMap.Sorted]
  | cons a t ih =>
    obtain ⟨x, y⟩ := a
    have hc := (NMap.sorted_cons x y t).1 h
    simp only [NMap.put]
    split
    · rename_i hk
      refine (NMap.sorted_cons k v _).2 ⟨?_, h⟩
      intro e he
      rcases List.mem_cons.1 he with rfl | he
      · exact hk
      · have := hc.1 e he; omega
    · split
      · subst_vars; exact (NMap.sorted_cons x v t).2 hc
      · exact (NMap.sorted_cons x y _).2 ⟨NMap.from_put _ _ _ _ (by omega) hc.1, ih hc.2⟩

theorem NMap.sorted_filter (m : NMap V) (p : Nat × V → Bool) (h : m.Sorted) : NMap.Sorted (m.filter p) := by
  induction m with
  | nil => simp [NMap.Sorted]
  | cons a t ih =>
    obtain ⟨x, y⟩ := a
    have hc := (NMap.sorted_cons x y t).1 h
    rw [List.filter_cons]
    split
    · exact (NMap.sorted_cons x y _).2 ⟨fun e he => hc.1 e (List.mem_filter.1 he).1, ih hc.2⟩
    · exact ih hc.2

theorem NMap.sorted_del (m : NMap V) (k : Nat) (h : m.Sorted) : (m.del k).Sorted := NMap.sorted_filter m _ h

theorem NMap.sorted_keep (m : NMap V) (p : Nat → V → Bool) (h : m.Sorted) : (m.keep p).Sorted := NMap.sorted_filter m _ h

theorem NMap.sorted_putD [DecidableEq V] (m : NMap V) (k : Nat) (v d : V) (h : m.Sorted) : (m.putD k v d).Sorted := by
  unfold NMap.putD
  split
  · exact NMap.sorted_del m k h
  · exact NMap.sorted_put m k v h

theorem NMap.sorted_modify (m : NMap V) (k : Nat) (f : V → V) (h : m.Sorted) : (m.modify k f).Sorted := by
  unfold NMap.modify
  split
  · exact NMap.sorted_put m k _ h
  · exact h

theorem NMap.sorted_mapVals (m : NMap V) (f : Nat → V → V) (h : m.Sorted) : (m.mapVals f).Sorted := by
  induction m with
  | nil => simp [NMap.mapVals, NMap.Sorted]
  | cons a t ih =>
    obtain ⟨x, y⟩ := a
    have hc := (NMap.sorted_cons x y t).1 h
    refine (NMap.sorted_cons x _ _).2 ⟨?_, ih hc.2⟩
    intro e he
    obtain ⟨b, hb, rfl⟩ := List.mem_map.1 he
    exact hc.1 b hb

end Sys2Proof
end

