-- ==== Sys2Proof/Laws/State.lean ====
section
/-!
SUPPORT. What each named update of the state leaves alone: one lemma for each field of the state and each update.
-/

namespace Sys2Proof.Machine

/-- What every change of a repeated change keeps, the whole keeps. -/
theorem State.each_keeps {α β : Type} (g : State → β) (f : α → State → State) (h : ∀ a s, g (f a s) = g s) (l : List α) (s : State) :
    g (s.each l f) = g s := by
  induction l generalizing s with
  | nil => rfl
  | cons a t ih => rw [State.each, ih, h]

@[simp] theorem State.set_now (s : State) (f : Field) (v i j : Nat) : (s.set f v i j).now = s.now := by unfold State.set; split <;> rfl
@[simp] theorem State.set_unbound (s : State) (f : Field) (v i j : Nat) : (s.set f v i j).unbound = s.unbound := by unfold State.set; split <;> rfl
@[simp] theorem State.set_freeCtr (s : State) (f : Field) (v i j : Nat) : (s.set f v i j).freeCtr = s.freeCtr := by unfold State.set; split <;> rfl
@[simp] theorem State.set_out (s : State) (f : Field) (v i j : Nat) : (s.set f v i j).out = s.out := by unfold State.set; split <;> rfl
@[simp] theorem State.set_port0 (s : State) (f : Field) (v i j : Nat) : (s.set f v i j).port0 = s.port0 := by unfold State.set; split <;> rfl
@[simp] theorem State.set_port1 (s : State) (f : Field) (v i j : Nat) : (s.set f v i j).port1 = s.port1 := by unfold State.set; split <;> rfl
@[simp] theorem State.set_sqs (s : State) (f : Field) (v i j : Nat) : (s.set f v i j).sqs = s.sqs := by unfold State.set; split <;> rfl
@[simp] theorem State.set_cqs (s : State) (f : Field) (v i j : Nat) : (s.set f v i j).cqs = s.cqs := by unfold State.set; split <;> rfl
@[simp] theorem State.set_ctxs (s : State) (f : Field) (v i j : Nat) : (s.set f v i j).ctxs = s.ctxs := by unfold State.set; split <;> rfl
@[simp] theorem State.set_nextCtx (s : State) (f : Field) (v i j : Nat) : (s.set f v i j).nextCtx = s.nextCtx := by unfold State.set; split <;> rfl
@[simp] theorem State.set_doneQ (s : State) (f : Field) (v i j : Nat) : (s.set f v i j).doneQ = s.doneQ := by unfold State.set; split <;> rfl
@[simp] theorem State.set_ns (s : State) (f : Field) (v i j : Nat) : (s.set f v i j).ns = s.ns := by unfold State.set; split <;> rfl
@[simp] theorem State.set_late (s : State) (f : Field) (v i j : Nat) : (s.set f v i j).late = s.late := by unfold State.set; split <;> rfl
@[simp] theorem State.set_lateTotal (s : State) (f : Field) (v i j : Nat) : (s.set f v i j).lateTotal = s.lateTotal := by unfold State.set; split <;> rfl
@[simp] theorem State.set_resets (s : State) (f : Field) (v i j : Nat) : (s.set f v i j).resets = s.resets := by unfold State.set; split <;> rfl
@[simp] theorem State.set_zn (s : State) (f : Field) (v i j : Nat) : (s.set f v i j).zn = s.zn := by unfold State.set; split <;> rfl
@[simp] theorem State.set_wpt (s : State) (f : Field) (v i j : Nat) : (s.set f v i j).wpt = s.wpt := by unfold State.set; split <;> rfl
@[simp] theorem State.set_wc (s : State) (f : Field) (v i j : Nat) : (s.set f v i j).wc = s.wc := by unfold State.set; split <;> rfl
@[simp] theorem State.set_pool (s : State) (f : Field) (v i j : Nat) : (s.set f v i j).pool = s.pool := by unfold State.set; split <;> rfl
@[simp] theorem State.set_fl (s : State) (f : Field) (v i j : Nat) : (s.set f v i j).fl = s.fl := by unfold State.set; split <;> rfl
@[simp] theorem State.set_sd (s : State) (f : Field) (v i j : Nat) : (s.set f v i j).sd = s.sd := by unfold State.set; split <;> rfl
@[simp] theorem State.set_cd (s : State) (f : Field) (v i j : Nat) : (s.set f v i j).cd = s.cd := by unfold State.set; split <;> rfl
@[simp] theorem State.set_xl (s : State) (f : Field) (v i j : Nat) : (s.set f v i j).xl = s.xl := by unfold State.set; split <;> rfl
@[simp] theorem State.set_ev (s : State) (f : Field) (v i j : Nat) : (s.set f v i j).ev = s.ev := by unfold State.set; split <;> rfl
@[simp] theorem State.set_fc (s : State) (f : Field) (v i j : Nat) : (s.set f v i j).fc = s.fc := by unfold State.set; split <;> rfl
@[simp] theorem State.set_ms (s : State) (f : Field) (v i j : Nat) : (s.set f v i j).ms = s.ms := by unfold State.set; split <;> rfl
@[simp] theorem State.set_th (s : State) (f : Field) (v i j : Nat) : (s.set f v i j).th = s.th := by unfold State.set; split <;> rfl
@[simp] theorem State.set_hu (s : State) (f : Field) (v i j : Nat) : (s.set f v i j).hu = s.hu := by unfold State.set; split <;> rfl
@[simp] theorem State.set_pw (s : State) (f : Field) (v i j : Nat) : (s.set f v i j).pw = s.pw := by unfold State.set; split <;> rfl
@[simp] theorem State.set_md (s : State) (f : Field) (v i j : Nat) : (s.set f v i j).md = s.md := by unfold State.set; split <;> rfl
@[simp] theorem State.set_mm (s : State) (f : Field) (v i j : Nat) : (s.set f v i j).mm = s.mm := by unfold State.set; split <;> rfl
@[simp] theorem State.set_mg (s : State) (f : Field) (v i j : Nat) : (s.set f v i j).mg = s.mg := by unfold State.set; split <;> rfl
@[simp] theorem State.set_fb (s : State) (f : Field) (v i j : Nat) : (s.set f v i j).fb = s.fb := by unfold State.set; split <;> rfl
@[simp] theorem State.set_fw (s : State) (f : Field) (v i j : Nat) : (s.set f v i j).fw = s.fw := by unfold State.set; split <;> rfl
@[simp] theorem State.set_pins (s : State) (f : Field) (v i j : Nat) : (s.set f v i j).pins = s.pins := by unfold State.set; split <;> rfl
@[simp] theorem State.set_tp (s : State) (f : Field) (v i j : Nat) : (s.set f v i j).tp = s.tp := by unfold State.set; split <;> rfl
@[simp] theorem State.set_pending (s : State) (f : Field) (v i j : Nat) : (s.set f v i j).pending = s.pending := by unfold State.set; split <;> rfl

@[simp] theorem State.setB_now (s : State) (f : Field) (b : Bool) (i j : Nat) : (s.setB f b i j).now = s.now := by simp [State.setB]
@[simp] theorem State.setB_unbound (s : State) (f : Field) (b : Bool) (i j : Nat) : (s.setB f b i j).unbound = s.unbound := by simp [State.setB]
@[simp] theorem State.setB_freeCtr (s : State) (f : Field) (b : Bool) (i j : Nat) : (s.setB f b i j).freeCtr = s.freeCtr := by simp [State.setB]
@[simp] theorem State.setB_out (s : State) (f : Field) (b : Bool) (i j : Nat) : (s.setB f b i j).out = s.out := by simp [State.setB]
@[simp] theorem State.setB_port0 (s : State) (f : Field) (b : Bool) (i j : Nat) : (s.setB f b i j).port0 = s.port0 := by simp [State.setB]
@[simp] theorem State.setB_port1 (s : State) (f : Field) (b : Bool) (i j : Nat) : (s.setB f b i j).port1 = s.port1 := by simp [State.setB]
@[simp] theorem State.setB_sqs (s : State) (f : Field) (b : Bool) (i j : Nat) : (s.setB f b i j).sqs = s.sqs := by simp [State.setB]
@[simp] theorem State.setB_cqs (s : State) (f : Field) (b : Bool) (i j : Nat) : (s.setB f b i j).cqs = s.cqs := by simp [State.setB]
@[simp] theorem State.setB_ctxs (s : State) (f : Field) (b : Bool) (i j : Nat) : (s.setB f b i j).ctxs = s.ctxs := by simp [State.setB]
@[simp] theorem State.setB_nextCtx (s : State) (f : Field) (b : Bool) (i j : Nat) : (s.setB f b i j).nextCtx = s.nextCtx := by simp [State.setB]
@[simp] theorem State.setB_doneQ (s : State) (f : Field) (b : Bool) (i j : Nat) : (s.setB f b i j).doneQ = s.doneQ := by simp [State.setB]
@[simp] theorem State.setB_ns (s : State) (f : Field) (b : Bool) (i j : Nat) : (s.setB f b i j).ns = s.ns := by simp [State.setB]
@[simp] theorem State.setB_late (s : State) (f : Field) (b : Bool) (i j : Nat) : (s.setB f b i j).late = s.late := by simp [State.setB]
@[simp] theorem State.setB_lateTotal (s : State) (f : Field) (b : Bool) (i j : Nat) : (s.setB f b i j).lateTotal = s.lateTotal := by simp [State.setB]
@[simp] theorem State.setB_resets (s : State) (f : Field) (b : Bool) (i j : Nat) : (s.setB f b i j).resets = s.resets := by simp [State.setB]
@[simp] theorem State.setB_zn (s : State) (f : Field) (b : Bool) (i j : Nat) : (s.setB f b i j).zn = s.zn := by simp [State.setB]
@[simp] theorem State.setB_wpt (s : State) (f : Field) (b : Bool) (i j : Nat) : (s.setB f b i j).wpt = s.wpt := by simp [State.setB]
@[simp] theorem State.setB_wc (s : State) (f : Field) (b : Bool) (i j : Nat) : (s.setB f b i j).wc = s.wc := by simp [State.setB]
@[simp] theorem State.setB_pool (s : State) (f : Field) (b : Bool) (i j : Nat) : (s.setB f b i j).pool = s.pool := by simp [State.setB]
@[simp] theorem State.setB_fl (s : State) (f : Field) (b : Bool) (i j : Nat) : (s.setB f b i j).fl = s.fl := by simp [State.setB]
@[simp] theorem State.setB_sd (s : State) (f : Field) (b : Bool) (i j : Nat) : (s.setB f b i j).sd = s.sd := by simp [State.setB]
@[simp] theorem State.setB_cd (s : State) (f : Field) (b : Bool) (i j : Nat) : (s.setB f b i j).cd = s.cd := by simp [State.setB]
@[simp] theorem State.setB_xl (s : State) (f : Field) (b : Bool) (i j : Nat) : (s.setB f b i j).xl = s.xl := by simp [State.setB]
@[simp] theorem State.setB_ev (s : State) (f : Field) (b : Bool) (i j : Nat) : (s.setB f b i j).ev = s.ev := by simp [State.setB]
@[simp] theorem State.setB_fc (s : State) (f : Field) (b : Bool) (i j : Nat) : (s.setB f b i j).fc = s.fc := by simp [State.setB]
@[simp] theorem State.setB_ms (s : State) (f : Field) (b : Bool) (i j : Nat) : (s.setB f b i j).ms = s.ms := by simp [State.setB]
@[simp] theorem State.setB_th (s : State) (f : Field) (b : Bool) (i j : Nat) : (s.setB f b i j).th = s.th := by simp [State.setB]
@[simp] theorem State.setB_hu (s : State) (f : Field) (b : Bool) (i j : Nat) : (s.setB f b i j).hu = s.hu := by simp [State.setB]
@[simp] theorem State.setB_pw (s : State) (f : Field) (b : Bool) (i j : Nat) : (s.setB f b i j).pw = s.pw := by simp [State.setB]
@[simp] theorem State.setB_md (s : State) (f : Field) (b : Bool) (i j : Nat) : (s.setB f b i j).md = s.md := by simp [State.setB]
@[simp] theorem State.setB_mm (s : State) (f : Field) (b : Bool) (i j : Nat) : (s.setB f b i j).mm = s.mm := by simp [State.setB]
@[simp] theorem State.setB_mg (s : State) (f : Field) (b : Bool) (i j : Nat) : (s.setB f b i j).mg = s.mg := by simp [State.setB]
@[simp] theorem State.setB_fb (s : State) (f : Field) (b : Bool) (i j : Nat) : (s.setB f b i j).fb = s.fb := by simp [State.setB]
@[simp] theorem State.setB_fw (s : State) (f : Field) (b : Bool) (i j : Nat) : (s.setB f b i j).fw = s.fw := by simp [State.setB]
@[simp] theorem State.setB_pins (s : State) (f : Field) (b : Bool) (i j : Nat) : (s.setB f b i j).pins = s.pins := by simp [State.setB]
@[simp] theorem State.setB_tp (s : State) (f : Field) (b : Bool) (i j : Nat) : (s.setB f b i j).tp = s.tp := by simp [State.setB]
@[simp] theorem State.setB_pending (s : State) (f : Field) (b : Bool) (i j : Nat) : (s.setB f b i j).pending = s.pending := by simp [State.setB]

@[simp] theorem State.put_now (s : State) (o : Out) : (s.put o).now = s.now := by unfold State.put; split <;> rfl
@[simp] theorem State.put_regs (s : State) (o : Out) : (s.put o).regs = s.regs := by unfold State.put; split <;> rfl
@[simp] theorem State.put_unbound (s : State) (o : Out) : (s.put o).unbound = s.unbound := by unfold State.put; split <;> rfl
@[simp] theorem State.put_freeCtr (s : State) (o : Out) : (s.put o).freeCtr = s.freeCtr := by unfold State.put; split <;> rfl
@[simp] theorem State.put_port0 (s : State) (o : Out) : (s.put o).port0 = s.port0 := by unfold State.put; split <;> rfl
@[simp] theorem State.put_port1 (s : State) (o : Out) : (s.put o).port1 = s.port1 := by unfold State.put; split <;> rfl
@[simp] theorem State.put_sqs (s : State) (o : Out) : (s.put o).sqs = s.sqs := by unfold State.put; split <;> rfl
@[simp] theorem State.put_cqs (s : State) (o : Out) : (s.put o).cqs = s.cqs := by unfold State.put; split <;> rfl
@[simp] theorem State.put_ctxs (s : State) (o : Out) : (s.put o).ctxs = s.ctxs := by unfold State.put; split <;> rfl
@[simp] theorem State.put_nextCtx (s : State) (o : Out) : (s.put o).nextCtx = s.nextCtx := by unfold State.put; split <;> rfl
@[simp] theorem State.put_doneQ (s : State) (o : Out) : (s.put o).doneQ = s.doneQ := by unfold State.put; split <;> rfl
@[simp] theorem State.put_ns (s : State) (o : Out) : (s.put o).ns = s.ns := by unfold State.put; split <;> rfl
@[simp] theorem State.put_late (s : State) (o : Out) : (s.put o).late = s.late := by unfold State.put; split <;> rfl
@[simp] theorem State.put_lateTotal (s : State) (o : Out) : (s.put o).lateTotal = s.lateTotal := by unfold State.put; split <;> rfl
@[simp] theorem State.put_resets (s : State) (o : Out) : (s.put o).resets = s.resets := by unfold State.put; split <;> rfl
@[simp] theorem State.put_zn (s : State) (o : Out) : (s.put o).zn = s.zn := by unfold State.put; split <;> rfl
@[simp] theorem State.put_wpt (s : State) (o : Out) : (s.put o).wpt = s.wpt := by unfold State.put; split <;> rfl
@[simp] theorem State.put_wc (s : State) (o : Out) : (s.put o).wc = s.wc := by unfold State.put; split <;> rfl
@[simp] theorem State.put_pool (s : State) (o : Out) : (s.put o).pool = s.pool := by unfold State.put; split <;> rfl
@[simp] theorem State.put_fl (s : State) (o : Out) : (s.put o).fl = s.fl := by unfold State.put; split <;> rfl
@[simp] theorem State.put_sd (s : State) (o : Out) : (s.put o).sd = s.sd := by unfold State.put; split <;> rfl
@[simp] theorem State.put_cd (s : State) (o : Out) : (s.put o).cd = s.cd := by unfold State.put; split <;> rfl
@[simp] theorem State.put_xl (s : State) (o : Out) : (s.put o).xl = s.xl := by unfold State.put; split <;> rfl
@[simp] theorem State.put_ev (s : State) (o : Out) : (s.put o).ev = s.ev := by unfold State.put; split <;> rfl
@[simp] theorem State.put_fc (s : State) (o : Out) : (s.put o).fc = s.fc := by unfold State.put; split <;> rfl
@[simp] theorem State.put_ms (s : State) (o : Out) : (s.put o).ms = s.ms := by unfold State.put; split <;> rfl
@[simp] theorem State.put_th (s : State) (o : Out) : (s.put o).th = s.th := by unfold State.put; split <;> rfl
@[simp] theorem State.put_hu (s : State) (o : Out) : (s.put o).hu = s.hu := by unfold State.put; split <;> rfl
@[simp] theorem State.put_pw (s : State) (o : Out) : (s.put o).pw = s.pw := by unfold State.put; split <;> rfl
@[simp] theorem State.put_md (s : State) (o : Out) : (s.put o).md = s.md := by unfold State.put; split <;> rfl
@[simp] theorem State.put_mm (s : State) (o : Out) : (s.put o).mm = s.mm := by unfold State.put; split <;> rfl
@[simp] theorem State.put_mg (s : State) (o : Out) : (s.put o).mg = s.mg := by unfold State.put; split <;> rfl
@[simp] theorem State.put_fb (s : State) (o : Out) : (s.put o).fb = s.fb := by unfold State.put; split <;> rfl
@[simp] theorem State.put_fw (s : State) (o : Out) : (s.put o).fw = s.fw := by unfold State.put; split <;> rfl
@[simp] theorem State.put_pins (s : State) (o : Out) : (s.put o).pins = s.pins := by unfold State.put; split <;> rfl
@[simp] theorem State.put_tp (s : State) (o : Out) : (s.put o).tp = s.tp := by unfold State.put; split <;> rfl
@[simp] theorem State.put_pending (s : State) (o : Out) : (s.put o).pending = s.pending := by unfold State.put; split <;> rfl

@[simp] theorem State.free_now (s : State) : (s.free.2).now = s.now := rfl
@[simp] theorem State.free_regs (s : State) : (s.free.2).regs = s.regs := rfl
@[simp] theorem State.free_unbound (s : State) : (s.free.2).unbound = s.unbound := rfl
@[simp] theorem State.free_out (s : State) : (s.free.2).out = s.out := rfl
@[simp] theorem State.free_port0 (s : State) : (s.free.2).port0 = s.port0 := rfl
@[simp] theorem State.free_port1 (s : State) : (s.free.2).port1 = s.port1 := rfl
@[simp] theorem State.free_sqs (s : State) : (s.free.2).sqs = s.sqs := rfl
@[simp] theorem State.free_cqs (s : State) : (s.free.2).cqs = s.cqs := rfl
@[simp] theorem State.free_ctxs (s : State) : (s.free.2).ctxs = s.ctxs := rfl
@[simp] theorem State.free_nextCtx (s : State) : (s.free.2).nextCtx = s.nextCtx := rfl
@[simp] theorem State.free_doneQ (s : State) : (s.free.2).doneQ = s.doneQ := rfl
@[simp] theorem State.free_ns (s : State) : (s.free.2).ns = s.ns := rfl
@[simp] theorem State.free_late (s : State) : (s.free.2).late = s.late := rfl
@[simp] theorem State.free_lateTotal (s : State) : (s.free.2).lateTotal = s.lateTotal := rfl
@[simp] theorem State.free_resets (s : State) : (s.free.2).resets = s.resets := rfl
@[simp] theorem State.free_zn (s : State) : (s.free.2).zn = s.zn := rfl
@[simp] theorem State.free_wpt (s : State) : (s.free.2).wpt = s.wpt := rfl
@[simp] theorem State.free_wc (s : State) : (s.free.2).wc = s.wc := rfl
@[simp] theorem State.free_pool (s : State) : (s.free.2).pool = s.pool := rfl
@[simp] theorem State.free_fl (s : State) : (s.free.2).fl = s.fl := rfl
@[simp] theorem State.free_sd (s : State) : (s.free.2).sd = s.sd := rfl
@[simp] theorem State.free_cd (s : State) : (s.free.2).cd = s.cd := rfl
@[simp] theorem State.free_xl (s : State) : (s.free.2).xl = s.xl := rfl
@[simp] theorem State.free_ev (s : State) : (s.free.2).ev = s.ev := rfl
@[simp] theorem State.free_fc (s : State) : (s.free.2).fc = s.fc := rfl
@[simp] theorem State.free_ms (s : State) : (s.free.2).ms = s.ms := rfl
@[simp] theorem State.free_th (s : State) : (s.free.2).th = s.th := rfl
@[simp] theorem State.free_hu (s : State) : (s.free.2).hu = s.hu := rfl
@[simp] theorem State.free_pw (s : State) : (s.free.2).pw = s.pw := rfl
@[simp] theorem State.free_md (s : State) : (s.free.2).md = s.md := rfl
@[simp] theorem State.free_mm (s : State) : (s.free.2).mm = s.mm := rfl
@[simp] theorem State.free_mg (s : State) : (s.free.2).mg = s.mg := rfl
@[simp] theorem State.free_fb (s : State) : (s.free.2).fb = s.fb := rfl
@[simp] theorem State.free_fw (s : State) : (s.free.2).fw = s.fw := rfl
@[simp] theorem State.free_pins (s : State) : (s.free.2).pins = s.pins := rfl
@[simp] theorem State.free_tp (s : State) : (s.free.2).tp = s.tp := rfl
@[simp] theorem State.free_pending (s : State) : (s.free.2).pending = s.pending := rfl

@[simp] theorem State.modPort_now (s : State) (p : Nat) (g : Port → Port) : (s.modPort p g).now = s.now := by unfold State.modPort; split <;> rfl
@[simp] theorem State.modPort_regs (s : State) (p : Nat) (g : Port → Port) : (s.modPort p g).regs = s.regs := by unfold State.modPort; split <;> rfl
@[simp] theorem State.modPort_unbound (s : State) (p : Nat) (g : Port → Port) : (s.modPort p g).unbound = s.unbound := by unfold State.modPort; split <;> rfl
@[simp] theorem State.modPort_freeCtr (s : State) (p : Nat) (g : Port → Port) : (s.modPort p g).freeCtr = s.freeCtr := by unfold State.modPort; split <;> rfl
@[simp] theorem State.modPort_out (s : State) (p : Nat) (g : Port → Port) : (s.modPort p g).out = s.out := by unfold State.modPort; split <;> rfl
@[simp] theorem State.modPort_sqs (s : State) (p : Nat) (g : Port → Port) : (s.modPort p g).sqs = s.sqs := by unfold State.modPort; split <;> rfl
@[simp] theorem State.modPort_cqs (s : State) (p : Nat) (g : Port → Port) : (s.modPort p g).cqs = s.cqs := by unfold State.modPort; split <;> rfl
@[simp] theorem State.modPort_ctxs (s : State) (p : Nat) (g : Port → Port) : (s.modPort p g).ctxs = s.ctxs := by unfold State.modPort; split <;> rfl
@[simp] theorem State.modPort_nextCtx (s : State) (p : Nat) (g : Port → Port) : (s.modPort p g).nextCtx = s.nextCtx := by unfold State.modPort; split <;> rfl
@[simp] theorem State.modPort_doneQ (s : State) (p : Nat) (g : Port → Port) : (s.modPort p g).doneQ = s.doneQ := by unfold State.modPort; split <;> rfl
@[simp] theorem State.modPort_ns (s : State) (p : Nat) (g : Port → Port) : (s.modPort p g).ns = s.ns := by unfold State.modPort; split <;> rfl
@[simp] theorem State.modPort_late (s : State) (p : Nat) (g : Port → Port) : (s.modPort p g).late = s.late := by unfold State.modPort; split <;> rfl
@[simp] theorem State.modPort_lateTotal (s : State) (p : Nat) (g : Port → Port) : (s.modPort p g).lateTotal = s.lateTotal := by unfold State.modPort; split <;> rfl
@[simp] theorem State.modPort_resets (s : State) (p : Nat) (g : Port → Port) : (s.modPort p g).resets = s.resets := by unfold State.modPort; split <;> rfl
@[simp] theorem State.modPort_zn (s : State) (p : Nat) (g : Port → Port) : (s.modPort p g).zn = s.zn := by unfold State.modPort; split <;> rfl
@[simp] theorem State.modPort_wpt (s : State) (p : Nat) (g : Port → Port) : (s.modPort p g).wpt = s.wpt := by unfold State.modPort; split <;> rfl
@[simp] theorem State.modPort_wc (s : State) (p : Nat) (g : Port → Port) : (s.modPort p g).wc = s.wc := by unfold State.modPort; split <;> rfl
@[simp] theorem State.modPort_pool (s : State) (p : Nat) (g : Port → Port) : (s.modPort p g).pool = s.pool := by unfold State.modPort; split <;> rfl
@[simp] theorem State.modPort_fl (s : State) (p : Nat) (g : Port → Port) : (s.modPort p g).fl = s.fl := by unfold State.modPort; split <;> rfl
@[simp] theorem State.modPort_sd (s : State) (p : Nat) (g : Port → Port) : (s.modPort p g).sd = s.sd := by unfold State.modPort; split <;> rfl
@[simp] theorem State.modPort_cd (s : State) (p : Nat) (g : Port → Port) : (s.modPort p g).cd = s.cd := by unfold State.modPort; split <;> rfl
@[simp] theorem State.modPort_xl (s : State) (p : Nat) (g : Port → Port) : (s.modPort p g).xl = s.xl := by unfold State.modPort; split <;> rfl
@[simp] theorem State.modPort_ev (s : State) (p : Nat) (g : Port → Port) : (s.modPort p g).ev = s.ev := by unfold State.modPort; split <;> rfl
@[simp] theorem State.modPort_fc (s : State) (p : Nat) (g : Port → Port) : (s.modPort p g).fc = s.fc := by unfold State.modPort; split <;> rfl
@[simp] theorem State.modPort_ms (s : State) (p : Nat) (g : Port → Port) : (s.modPort p g).ms = s.ms := by unfold State.modPort; split <;> rfl
@[simp] theorem State.modPort_th (s : State) (p : Nat) (g : Port → Port) : (s.modPort p g).th = s.th := by unfold State.modPort; split <;> rfl
@[simp] theorem State.modPort_hu (s : State) (p : Nat) (g : Port → Port) : (s.modPort p g).hu = s.hu := by unfold State.modPort; split <;> rfl
@[simp] theorem State.modPort_pw (s : State) (p : Nat) (g : Port → Port) : (s.modPort p g).pw = s.pw := by unfold State.modPort; split <;> rfl
@[simp] theorem State.modPort_md (s : State) (p : Nat) (g : Port → Port) : (s.modPort p g).md = s.md := by unfold State.modPort; split <;> rfl
@[simp] theorem State.modPort_mm (s : State) (p : Nat) (g : Port → Port) : (s.modPort p g).mm = s.mm := by unfold State.modPort; split <;> rfl
@[simp] theorem State.modPort_mg (s : State) (p : Nat) (g : Port → Port) : (s.modPort p g).mg = s.mg := by unfold State.modPort; split <;> rfl
@[simp] theorem State.modPort_fb (s : State) (p : Nat) (g : Port → Port) : (s.modPort p g).fb = s.fb := by unfold State.modPort; split <;> rfl
@[simp] theorem State.modPort_fw (s : State) (p : Nat) (g : Port → Port) : (s.modPort p g).fw = s.fw := by unfold State.modPort; split <;> rfl
@[simp] theorem State.modPort_pins (s : State) (p : Nat) (g : Port → Port) : (s.modPort p g).pins = s.pins := by unfold State.modPort; split <;> rfl
@[simp] theorem State.modPort_tp (s : State) (p : Nat) (g : Port → Port) : (s.modPort p g).tp = s.tp := by unfold State.modPort; split <;> rfl
@[simp] theorem State.modPort_pending (s : State) (p : Nat) (g : Port → Port) : (s.modPort p g).pending = s.pending := by unfold State.modPort; split <;> rfl

@[simp] theorem State.unbind_now (s : State) (u : Unbound) : (s.unbind u).now = s.now := by unfold State.unbind; split <;> rfl
@[simp] theorem State.unbind_regs (s : State) (u : Unbound) : (s.unbind u).regs = s.regs := by unfold State.unbind; split <;> rfl
@[simp] theorem State.unbind_freeCtr (s : State) (u : Unbound) : (s.unbind u).freeCtr = s.freeCtr := by unfold State.unbind; split <;> rfl
@[simp] theorem State.unbind_out (s : State) (u : Unbound) : (s.unbind u).out = s.out := by unfold State.unbind; split <;> rfl
@[simp] theorem State.unbind_port0 (s : State) (u : Unbound) : (s.unbind u).port0 = s.port0 := by unfold State.unbind; split <;> rfl
@[simp] theorem State.unbind_port1 (s : State) (u : Unbound) : (s.unbind u).port1 = s.port1 := by unfold State.unbind; split <;> rfl
@[simp] theorem State.unbind_sqs (s : State) (u : Unbound) : (s.unbind u).sqs = s.sqs := by unfold State.unbind; split <;> rfl
@[simp] theorem State.unbind_cqs (s : State) (u : Unbound) : (s.unbind u).cqs = s.cqs := by unfold State.unbind; split <;> rfl
@[simp] theorem State.unbind_ctxs (s : State) (u : Unbound) : (s.unbind u).ctxs = s.ctxs := by unfold State.unbind; split <;> rfl
@[simp] theorem State.unbind_nextCtx (s : State) (u : Unbound) : (s.unbind u).nextCtx = s.nextCtx := by unfold State.unbind; split <;> rfl
@[simp] theorem State.unbind_doneQ (s : State) (u : Unbound) : (s.unbind u).doneQ = s.doneQ := by unfold State.unbind; split <;> rfl
@[simp] theorem State.unbind_ns (s : State) (u : Unbound) : (s.unbind u).ns = s.ns := by unfold State.unbind; split <;> rfl
@[simp] theorem State.unbind_late (s : State) (u : Unbound) : (s.unbind u).late = s.late := by unfold State.unbind; split <;> rfl
@[simp] theorem State.unbind_lateTotal (s : State) (u : Unbound) : (s.unbind u).lateTotal = s.lateTotal := by unfold State.unbind; split <;> rfl
@[simp] theorem State.unbind_resets (s : State) (u : Unbound) : (s.unbind u).resets = s.resets := by unfold State.unbind; split <;> rfl
@[simp] theorem State.unbind_zn (s : State) (u : Unbound) : (s.unbind u).zn = s.zn := by unfold State.unbind; split <;> rfl
@[simp] theorem State.unbind_wpt (s : State) (u : Unbound) : (s.unbind u).wpt = s.wpt := by unfold State.unbind; split <;> rfl
@[simp] theorem State.unbind_wc (s : State) (u : Unbound) : (s.unbind u).wc = s.wc := by unfold State.unbind; split <;> rfl
@[simp] theorem State.unbind_pool (s : State) (u : Unbound) : (s.unbind u).pool = s.pool := by unfold State.unbind; split <;> rfl
@[simp] theorem State.unbind_fl (s : State) (u : Unbound) : (s.unbind u).fl = s.fl := by unfold State.unbind; split <;> rfl
@[simp] theorem State.unbind_sd (s : State) (u : Unbound) : (s.unbind u).sd = s.sd := by unfold State.unbind; split <;> rfl
@[simp] theorem State.unbind_cd (s : State) (u : Unbound) : (s.unbind u).cd = s.cd := by unfold State.unbind; split <;> rfl
@[simp] theorem State.unbind_xl (s : State) (u : Unbound) : (s.unbind u).xl = s.xl := by unfold State.unbind; split <;> rfl
@[simp] theorem State.unbind_ev (s : State) (u : Unbound) : (s.unbind u).ev = s.ev := by unfold State.unbind; split <;> rfl
@[simp] theorem State.unbind_fc (s : State) (u : Unbound) : (s.unbind u).fc = s.fc := by unfold State.unbind; split <;> rfl
@[simp] theorem State.unbind_ms (s : State) (u : Unbound) : (s.unbind u).ms = s.ms := by unfold State.unbind; split <;> rfl
@[simp] theorem State.unbind_th (s : State) (u : Unbound) : (s.unbind u).th = s.th := by unfold State.unbind; split <;> rfl
@[simp] theorem State.unbind_hu (s : State) (u : Unbound) : (s.unbind u).hu = s.hu := by unfold State.unbind; split <;> rfl
@[simp] theorem State.unbind_pw (s : State) (u : Unbound) : (s.unbind u).pw = s.pw := by unfold State.unbind; split <;> rfl
@[simp] theorem State.unbind_md (s : State) (u : Unbound) : (s.unbind u).md = s.md := by unfold State.unbind; split <;> rfl
@[simp] theorem State.unbind_mm (s : State) (u : Unbound) : (s.unbind u).mm = s.mm := by unfold State.unbind; split <;> rfl
@[simp] theorem State.unbind_mg (s : State) (u : Unbound) : (s.unbind u).mg = s.mg := by unfold State.unbind; split <;> rfl
@[simp] theorem State.unbind_fb (s : State) (u : Unbound) : (s.unbind u).fb = s.fb := by unfold State.unbind; split <;> rfl
@[simp] theorem State.unbind_fw (s : State) (u : Unbound) : (s.unbind u).fw = s.fw := by unfold State.unbind; split <;> rfl
@[simp] theorem State.unbind_pins (s : State) (u : Unbound) : (s.unbind u).pins = s.pins := by unfold State.unbind; split <;> rfl
@[simp] theorem State.unbind_tp (s : State) (u : Unbound) : (s.unbind u).tp = s.tp := by unfold State.unbind; split <;> rfl
@[simp] theorem State.unbind_pending (s : State) (u : Unbound) : (s.unbind u).pending = s.pending := by unfold State.unbind; split <;> rfl

@[simp] theorem State.bind_now (s : State) (u : Unbound) : (s.bind u).now = s.now := rfl
@[simp] theorem State.bind_regs (s : State) (u : Unbound) : (s.bind u).regs = s.regs := rfl
@[simp] theorem State.bind_freeCtr (s : State) (u : Unbound) : (s.bind u).freeCtr = s.freeCtr := rfl
@[simp] theorem State.bind_out (s : State) (u : Unbound) : (s.bind u).out = s.out := rfl
@[simp] theorem State.bind_port0 (s : State) (u : Unbound) : (s.bind u).port0 = s.port0 := rfl
@[simp] theorem State.bind_port1 (s : State) (u : Unbound) : (s.bind u).port1 = s.port1 := rfl
@[simp] theorem State.bind_sqs (s : State) (u : Unbound) : (s.bind u).sqs = s.sqs := rfl
@[simp] theorem State.bind_cqs (s : State) (u : Unbound) : (s.bind u).cqs = s.cqs := rfl
@[simp] theorem State.bind_ctxs (s : State) (u : Unbound) : (s.bind u).ctxs = s.ctxs := rfl
@[simp] theorem State.bind_nextCtx (s : State) (u : Unbound) : (s.bind u).nextCtx = s.nextCtx := rfl
@[simp] theorem State.bind_doneQ (s : State) (u : Unbound) : (s.bind u).doneQ = s.doneQ := rfl
@[simp] theorem State.bind_ns (s : State) (u : Unbound) : (s.bind u).ns = s.ns := rfl
@[simp] theorem State.bind_late (s : State) (u : Unbound) : (s.bind u).late = s.late := rfl
@[simp] theorem State.bind_lateTotal (s : State) (u : Unbound) : (s.bind u).lateTotal = s.lateTotal := rfl
@[simp] theorem State.bind_resets (s : State) (u : Unbound) : (s.bind u).resets = s.resets := rfl
@[simp] theorem State.bind_zn (s : State) (u : Unbound) : (s.bind u).zn = s.zn := rfl
@[simp] theorem State.bind_wpt (s : State) (u : Unbound) : (s.bind u).wpt = s.wpt := rfl
@[simp] theorem State.bind_wc (s : State) (u : Unbound) : (s.bind u).wc = s.wc := rfl
@[simp] theorem State.bind_pool (s : State) (u : Unbound) : (s.bind u).pool = s.pool := rfl
@[simp] theorem State.bind_fl (s : State) (u : Unbound) : (s.bind u).fl = s.fl := rfl
@[simp] theorem State.bind_sd (s : State) (u : Unbound) : (s.bind u).sd = s.sd := rfl
@[simp] theorem State.bind_cd (s : State) (u : Unbound) : (s.bind u).cd = s.cd := rfl
@[simp] theorem State.bind_xl (s : State) (u : Unbound) : (s.bind u).xl = s.xl := rfl
@[simp] theorem State.bind_ev (s : State) (u : Unbound) : (s.bind u).ev = s.ev := rfl
@[simp] theorem State.bind_fc (s : State) (u : Unbound) : (s.bind u).fc = s.fc := rfl
@[simp] theorem State.bind_ms (s : State) (u : Unbound) : (s.bind u).ms = s.ms := rfl
@[simp] theorem State.bind_th (s : State) (u : Unbound) : (s.bind u).th = s.th := rfl
@[simp] theorem State.bind_hu (s : State) (u : Unbound) : (s.bind u).hu = s.hu := rfl
@[simp] theorem State.bind_pw (s : State) (u : Unbound) : (s.bind u).pw = s.pw := rfl
@[simp] theorem State.bind_md (s : State) (u : Unbound) : (s.bind u).md = s.md := rfl
@[simp] theorem State.bind_mm (s : State) (u : Unbound) : (s.bind u).mm = s.mm := rfl
@[simp] theorem State.bind_mg (s : State) (u : Unbound) : (s.bind u).mg = s.mg := rfl
@[simp] theorem State.bind_fb (s : State) (u : Unbound) : (s.bind u).fb = s.fb := rfl
@[simp] theorem State.bind_fw (s : State) (u : Unbound) : (s.bind u).fw = s.fw := rfl
@[simp] theorem State.bind_pins (s : State) (u : Unbound) : (s.bind u).pins = s.pins := rfl
@[simp] theorem State.bind_tp (s : State) (u : Unbound) : (s.bind u).tp = s.tp := rfl
@[simp] theorem State.bind_pending (s : State) (u : Unbound) : (s.bind u).pending = s.pending := rfl

@[simp] theorem State.setUnbound_now (s : State) (u : Unbound) (c : Bool) : (s.setUnbound u c).now = s.now := by unfold State.setUnbound; split <;> simp
@[simp] theorem State.setUnbound_regs (s : State) (u : Unbound) (c : Bool) : (s.setUnbound u c).regs = s.regs := by unfold State.setUnbound; split <;> simp
@[simp] theorem State.setUnbound_freeCtr (s : State) (u : Unbound) (c : Bool) : (s.setUnbound u c).freeCtr = s.freeCtr := by unfold State.setUnbound; split <;> simp
@[simp] theorem State.setUnbound_out (s : State) (u : Unbound) (c : Bool) : (s.setUnbound u c).out = s.out := by unfold State.setUnbound; split <;> simp
@[simp] theorem State.setUnbound_port0 (s : State) (u : Unbound) (c : Bool) : (s.setUnbound u c).port0 = s.port0 := by unfold State.setUnbound; split <;> simp
@[simp] theorem State.setUnbound_port1 (s : State) (u : Unbound) (c : Bool) : (s.setUnbound u c).port1 = s.port1 := by unfold State.setUnbound; split <;> simp
@[simp] theorem State.setUnbound_sqs (s : State) (u : Unbound) (c : Bool) : (s.setUnbound u c).sqs = s.sqs := by unfold State.setUnbound; split <;> simp
@[simp] theorem State.setUnbound_cqs (s : State) (u : Unbound) (c : Bool) : (s.setUnbound u c).cqs = s.cqs := by unfold State.setUnbound; split <;> simp
@[simp] theorem State.setUnbound_ctxs (s : State) (u : Unbound) (c : Bool) : (s.setUnbound u c).ctxs = s.ctxs := by unfold State.setUnbound; split <;> simp
@[simp] theorem State.setUnbound_nextCtx (s : State) (u : Unbound) (c : Bool) : (s.setUnbound u c).nextCtx = s.nextCtx := by unfold State.setUnbound; split <;> simp
@[simp] theorem State.setUnbound_doneQ (s : State) (u : Unbound) (c : Bool) : (s.setUnbound u c).doneQ = s.doneQ := by unfold State.setUnbound; split <;> simp
@[simp] theorem State.setUnbound_ns (s : State) (u : Unbound) (c : Bool) : (s.setUnbound u c).ns = s.ns := by unfold State.setUnbound; split <;> simp
@[simp] theorem State.setUnbound_late (s : State) (u : Unbound) (c : Bool) : (s.setUnbound u c).late = s.late := by unfold State.setUnbound; split <;> simp
@[simp] theorem State.setUnbound_lateTotal (s : State) (u : Unbound) (c : Bool) : (s.setUnbound u c).lateTotal = s.lateTotal := by unfold State.setUnbound; split <;> simp
@[simp] theorem State.setUnbound_resets (s : State) (u : Unbound) (c : Bool) : (s.setUnbound u c).resets = s.resets := by unfold State.setUnbound; split <;> simp
@[simp] theorem State.setUnbound_zn (s : State) (u : Unbound) (c : Bool) : (s.setUnbound u c).zn = s.zn := by unfold State.setUnbound; split <;> simp
@[simp] theorem State.setUnbound_wpt (s : State) (u : Unbound) (c : Bool) : (s.setUnbound u c).wpt = s.wpt := by unfold State.setUnbound; split <;> simp
@[simp] theorem State.setUnbound_wc (s : State) (u : Unbound) (c : Bool) : (s.setUnbound u c).wc = s.wc := by unfold State.setUnbound; split <;> simp
@[simp] theorem State.setUnbound_pool (s : State) (u : Unbound) (c : Bool) : (s.setUnbound u c).pool = s.pool := by unfold State.setUnbound; split <;> simp
@[simp] theorem State.setUnbound_fl (s : State) (u : Unbound) (c : Bool) : (s.setUnbound u c).fl = s.fl := by unfold State.setUnbound; split <;> simp
@[simp] theorem State.setUnbound_sd (s : State) (u : Unbound) (c : Bool) : (s.setUnbound u c).sd = s.sd := by unfold State.setUnbound; split <;> simp
@[simp] theorem State.setUnbound_cd (s : State) (u : Unbound) (c : Bool) : (s.setUnbound u c).cd = s.cd := by unfold State.setUnbound; split <;> simp
@[simp] theorem State.setUnbound_xl (s : State) (u : Unbound) (c : Bool) : (s.setUnbound u c).xl = s.xl := by unfold State.setUnbound; split <;> simp
@[simp] theorem State.setUnbound_ev (s : State) (u : Unbound) (c : Bool) : (s.setUnbound u c).ev = s.ev := by unfold State.setUnbound; split <;> simp
@[simp] theorem State.setUnbound_fc (s : State) (u : Unbound) (c : Bool) : (s.setUnbound u c).fc = s.fc := by unfold State.setUnbound; split <;> simp
@[simp] theorem State.setUnbound_ms (s : State) (u : Unbound) (c : Bool) : (s.setUnbound u c).ms = s.ms := by unfold State.setUnbound; split <;> simp
@[simp] theorem State.setUnbound_th (s : State) (u : Unbound) (c : Bool) : (s.setUnbound u c).th = s.th := by unfold State.setUnbound; split <;> simp
@[simp] theorem State.setUnbound_hu (s : State) (u : Unbound) (c : Bool) : (s.setUnbound u c).hu = s.hu := by unfold State.setUnbound; split <;> simp
@[simp] theorem State.setUnbound_pw (s : State) (u : Unbound) (c : Bool) : (s.setUnbound u c).pw = s.pw := by unfold State.setUnbound; split <;> simp
@[simp] theorem State.setUnbound_md (s : State) (u : Unbound) (c : Bool) : (s.setUnbound u c).md = s.md := by unfold State.setUnbound; split <;> simp
@[simp] theorem State.setUnbound_mm (s : State) (u : Unbound) (c : Bool) : (s.setUnbound u c).mm = s.mm := by unfold State.setUnbound; split <;> simp
@[simp] theorem State.setUnbound_mg (s : State) (u : Unbound) (c : Bool) : (s.setUnbound u c).mg = s.mg := by unfold State.setUnbound; split <;> simp
@[simp] theorem State.setUnbound_fb (s : State) (u : Unbound) (c : Bool) : (s.setUnbound u c).fb = s.fb := by unfold State.setUnbound; split <;> simp
@[simp] theorem State.setUnbound_fw (s : State) (u : Unbound) (c : Bool) : (s.setUnbound u c).fw = s.fw := by unfold State.setUnbound; split <;> simp
@[simp] theorem State.setUnbound_pins (s : State) (u : Unbound) (c : Bool) : (s.setUnbound u c).pins = s.pins := by unfold State.setUnbound; split <;> simp
@[simp] theorem State.setUnbound_tp (s : State) (u : Unbound) (c : Bool) : (s.setUnbound u c).tp = s.tp := by unfold State.setUnbound; split <;> simp
@[simp] theorem State.setUnbound_pending (s : State) (u : Unbound) (c : Bool) : (s.setUnbound u c).pending = s.pending := by unfold State.setUnbound; split <;> simp

@[simp] theorem State.raise_now (s : State) (n q : Nat) : (s.raise n q).now = s.now := by simp [State.raise]
@[simp] theorem State.raise_unbound (s : State) (n q : Nat) : (s.raise n q).unbound = s.unbound := by simp [State.raise]
@[simp] theorem State.raise_freeCtr (s : State) (n q : Nat) : (s.raise n q).freeCtr = s.freeCtr := by simp [State.raise]
@[simp] theorem State.raise_out (s : State) (n q : Nat) : (s.raise n q).out = s.out := by simp [State.raise]
@[simp] theorem State.raise_port0 (s : State) (n q : Nat) : (s.raise n q).port0 = s.port0 := by simp [State.raise]
@[simp] theorem State.raise_port1 (s : State) (n q : Nat) : (s.raise n q).port1 = s.port1 := by simp [State.raise]
@[simp] theorem State.raise_sqs (s : State) (n q : Nat) : (s.raise n q).sqs = s.sqs := by simp [State.raise]
@[simp] theorem State.raise_cqs (s : State) (n q : Nat) : (s.raise n q).cqs = s.cqs := by simp [State.raise]
@[simp] theorem State.raise_ctxs (s : State) (n q : Nat) : (s.raise n q).ctxs = s.ctxs := by simp [State.raise]
@[simp] theorem State.raise_nextCtx (s : State) (n q : Nat) : (s.raise n q).nextCtx = s.nextCtx := by simp [State.raise]
@[simp] theorem State.raise_doneQ (s : State) (n q : Nat) : (s.raise n q).doneQ = s.doneQ := by simp [State.raise]
@[simp] theorem State.raise_ns (s : State) (n q : Nat) : (s.raise n q).ns = s.ns := by simp [State.raise]
@[simp] theorem State.raise_late (s : State) (n q : Nat) : (s.raise n q).late = s.late := by simp [State.raise]
@[simp] theorem State.raise_lateTotal (s : State) (n q : Nat) : (s.raise n q).lateTotal = s.lateTotal := by simp [State.raise]
@[simp] theorem State.raise_resets (s : State) (n q : Nat) : (s.raise n q).resets = s.resets := by simp [State.raise]
@[simp] theorem State.raise_zn (s : State) (n q : Nat) : (s.raise n q).zn = s.zn := by simp [State.raise]
@[simp] theorem State.raise_wpt (s : State) (n q : Nat) : (s.raise n q).wpt = s.wpt := by simp [State.raise]
@[simp] theorem State.raise_wc (s : State) (n q : Nat) : (s.raise n q).wc = s.wc := by simp [State.raise]
@[simp] theorem State.raise_pool (s : State) (n q : Nat) : (s.raise n q).pool = s.pool := by simp [State.raise]
@[simp] theorem State.raise_fl (s : State) (n q : Nat) : (s.raise n q).fl = s.fl := by simp [State.raise]
@[simp] theorem State.raise_sd (s : State) (n q : Nat) : (s.raise n q).sd = s.sd := by simp [State.raise]
@[simp] theorem State.raise_cd (s : State) (n q : Nat) : (s.raise n q).cd = s.cd := by simp [State.raise]
@[simp] theorem State.raise_xl (s : State) (n q : Nat) : (s.raise n q).xl = s.xl := by simp [State.raise]
@[simp] theorem State.raise_fc (s : State) (n q : Nat) : (s.raise n q).fc = s.fc := by simp [State.raise]
@[simp] theorem State.raise_ms (s : State) (n q : Nat) : (s.raise n q).ms = s.ms := by simp [State.raise]
@[simp] theorem State.raise_th (s : State) (n q : Nat) : (s.raise n q).th = s.th := by simp [State.raise]
@[simp] theorem State.raise_hu (s : State) (n q : Nat) : (s.raise n q).hu = s.hu := by simp [State.raise]
@[simp] theorem State.raise_pw (s : State) (n q : Nat) : (s.raise n q).pw = s.pw := by simp [State.raise]
@[simp] theorem State.raise_md (s : State) (n q : Nat) : (s.raise n q).md = s.md := by simp [State.raise]
@[simp] theorem State.raise_mm (s : State) (n q : Nat) : (s.raise n q).mm = s.mm := by simp [State.raise]
@[simp] theorem State.raise_mg (s : State) (n q : Nat) : (s.raise n q).mg = s.mg := by simp [State.raise]
@[simp] theorem State.raise_fb (s : State) (n q : Nat) : (s.raise n q).fb = s.fb := by simp [State.raise]
@[simp] theorem State.raise_fw (s : State) (n q : Nat) : (s.raise n q).fw = s.fw := by simp [State.raise]
@[simp] theorem State.raise_pins (s : State) (n q : Nat) : (s.raise n q).pins = s.pins := by simp [State.raise]
@[simp] theorem State.raise_tp (s : State) (n q : Nat) : (s.raise n q).tp = s.tp := by simp [State.raise]
@[simp] theorem State.raise_pending (s : State) (n q : Nat) : (s.raise n q).pending = s.pending := by simp [State.raise]

@[simp] theorem State.raiseOnce_now (s : State) (n o q : Nat) : (s.raiseOnce n o q).now = s.now := by unfold State.raiseOnce; split <;> simp
@[simp] theorem State.raiseOnce_unbound (s : State) (n o q : Nat) : (s.raiseOnce n o q).unbound = s.unbound := by unfold State.raiseOnce; split <;> simp
@[simp] theorem State.raiseOnce_freeCtr (s : State) (n o q : Nat) : (s.raiseOnce n o q).freeCtr = s.freeCtr := by unfold State.raiseOnce; split <;> simp
@[simp] theorem State.raiseOnce_out (s : State) (n o q : Nat) : (s.raiseOnce n o q).out = s.out := by unfold State.raiseOnce; split <;> simp
@[simp] theorem State.raiseOnce_port0 (s : State) (n o q : Nat) : (s.raiseOnce n o q).port0 = s.port0 := by unfold State.raiseOnce; split <;> simp
@[simp] theorem State.raiseOnce_port1 (s : State) (n o q : Nat) : (s.raiseOnce n o q).port1 = s.port1 := by unfold State.raiseOnce; split <;> simp
@[simp] theorem State.raiseOnce_sqs (s : State) (n o q : Nat) : (s.raiseOnce n o q).sqs = s.sqs := by unfold State.raiseOnce; split <;> simp
@[simp] theorem State.raiseOnce_cqs (s : State) (n o q : Nat) : (s.raiseOnce n o q).cqs = s.cqs := by unfold State.raiseOnce; split <;> simp
@[simp] theorem State.raiseOnce_ctxs (s : State) (n o q : Nat) : (s.raiseOnce n o q).ctxs = s.ctxs := by unfold State.raiseOnce; split <;> simp
@[simp] theorem State.raiseOnce_nextCtx (s : State) (n o q : Nat) : (s.raiseOnce n o q).nextCtx = s.nextCtx := by unfold State.raiseOnce; split <;> simp
@[simp] theorem State.raiseOnce_doneQ (s : State) (n o q : Nat) : (s.raiseOnce n o q).doneQ = s.doneQ := by unfold State.raiseOnce; split <;> simp
@[simp] theorem State.raiseOnce_ns (s : State) (n o q : Nat) : (s.raiseOnce n o q).ns = s.ns := by unfold State.raiseOnce; split <;> simp
@[simp] theorem State.raiseOnce_late (s : State) (n o q : Nat) : (s.raiseOnce n o q).late = s.late := by unfold State.raiseOnce; split <;> simp
@[simp] theorem State.raiseOnce_lateTotal (s : State) (n o q : Nat) : (s.raiseOnce n o q).lateTotal = s.lateTotal := by unfold State.raiseOnce; split <;> simp
@[simp] theorem State.raiseOnce_resets (s : State) (n o q : Nat) : (s.raiseOnce n o q).resets = s.resets := by unfold State.raiseOnce; split <;> simp
@[simp] theorem State.raiseOnce_zn (s : State) (n o q : Nat) : (s.raiseOnce n o q).zn = s.zn := by unfold State.raiseOnce; split <;> simp
@[simp] theorem State.raiseOnce_wpt (s : State) (n o q : Nat) : (s.raiseOnce n o q).wpt = s.wpt := by unfold State.raiseOnce; split <;> simp
@[simp] theorem State.raiseOnce_wc (s : State) (n o q : Nat) : (s.raiseOnce n o q).wc = s.wc := by unfold State.raiseOnce; split <;> simp
@[simp] theorem State.raiseOnce_pool (s : State) (n o q : Nat) : (s.raiseOnce n o q).pool = s.pool := by unfold State.raiseOnce; split <;> simp
@[simp] theorem State.raiseOnce_fl (s : State) (n o q : Nat) : (s.raiseOnce n o q).fl = s.fl := by unfold State.raiseOnce; split <;> simp
@[simp] theorem State.raiseOnce_sd (s : State) (n o q : Nat) : (s.raiseOnce n o q).sd = s.sd := by unfold State.raiseOnce; split <;> simp
@[simp] theorem State.raiseOnce_cd (s : State) (n o q : Nat) : (s.raiseOnce n o q).cd = s.cd := by unfold State.raiseOnce; split <;> simp
@[simp] theorem State.raiseOnce_xl (s : State) (n o q : Nat) : (s.raiseOnce n o q).xl = s.xl := by unfold State.raiseOnce; split <;> simp
@[simp] theorem State.raiseOnce_fc (s : State) (n o q : Nat) : (s.raiseOnce n o q).fc = s.fc := by unfold State.raiseOnce; split <;> simp
@[simp] theorem State.raiseOnce_ms (s : State) (n o q : Nat) : (s.raiseOnce n o q).ms = s.ms := by unfold State.raiseOnce; split <;> simp
@[simp] theorem State.raiseOnce_th (s : State) (n o q : Nat) : (s.raiseOnce n o q).th = s.th := by unfold State.raiseOnce; split <;> simp
@[simp] theorem State.raiseOnce_hu (s : State) (n o q : Nat) : (s.raiseOnce n o q).hu = s.hu := by unfold State.raiseOnce; split <;> simp
@[simp] theorem State.raiseOnce_pw (s : State) (n o q : Nat) : (s.raiseOnce n o q).pw = s.pw := by unfold State.raiseOnce; split <;> simp
@[simp] theorem State.raiseOnce_md (s : State) (n o q : Nat) : (s.raiseOnce n o q).md = s.md := by unfold State.raiseOnce; split <;> simp
@[simp] theorem State.raiseOnce_mm (s : State) (n o q : Nat) : (s.raiseOnce n o q).mm = s.mm := by unfold State.raiseOnce; split <;> simp
@[simp] theorem State.raiseOnce_mg (s : State) (n o q : Nat) : (s.raiseOnce n o q).mg = s.mg := by unfold State.raiseOnce; split <;> simp
@[simp] theorem State.raiseOnce_fb (s : State) (n o q : Nat) : (s.raiseOnce n o q).fb = s.fb := by unfold State.raiseOnce; split <;> simp
@[simp] theorem State.raiseOnce_fw (s : State) (n o q : Nat) : (s.raiseOnce n o q).fw = s.fw := by unfold State.raiseOnce; split <;> simp
@[simp] theorem State.raiseOnce_pins (s : State) (n o q : Nat) : (s.raiseOnce n o q).pins = s.pins := by unfold State.raiseOnce; split <;> simp
@[simp] theorem State.raiseOnce_tp (s : State) (n o q : Nat) : (s.raiseOnce n o q).tp = s.tp := by unfold State.raiseOnce; split <;> simp
@[simp] theorem State.raiseOnce_pending (s : State) (n o q : Nat) : (s.raiseOnce n o q).pending = s.pending := by unfold State.raiseOnce; split <;> simp

@[simp] theorem State.rearm_now (s : State) (l : List Nat) (o : Nat) : (s.rearm l o).now = s.now := rfl
@[simp] theorem State.rearm_regs (s : State) (l : List Nat) (o : Nat) : (s.rearm l o).regs = s.regs := rfl
@[simp] theorem State.rearm_unbound (s : State) (l : List Nat) (o : Nat) : (s.rearm l o).unbound = s.unbound := rfl
@[simp] theorem State.rearm_freeCtr (s : State) (l : List Nat) (o : Nat) : (s.rearm l o).freeCtr = s.freeCtr := rfl
@[simp] theorem State.rearm_out (s : State) (l : List Nat) (o : Nat) : (s.rearm l o).out = s.out := rfl
@[simp] theorem State.rearm_port0 (s : State) (l : List Nat) (o : Nat) : (s.rearm l o).port0 = s.port0 := rfl
@[simp] theorem State.rearm_port1 (s : State) (l : List Nat) (o : Nat) : (s.rearm l o).port1 = s.port1 := rfl
@[simp] theorem State.rearm_sqs (s : State) (l : List Nat) (o : Nat) : (s.rearm l o).sqs = s.sqs := rfl
@[simp] theorem State.rearm_cqs (s : State) (l : List Nat) (o : Nat) : (s.rearm l o).cqs = s.cqs := rfl
@[simp] theorem State.rearm_ctxs (s : State) (l : List Nat) (o : Nat) : (s.rearm l o).ctxs = s.ctxs := rfl
@[simp] theorem State.rearm_nextCtx (s : State) (l : List Nat) (o : Nat) : (s.rearm l o).nextCtx = s.nextCtx := rfl
@[simp] theorem State.rearm_doneQ (s : State) (l : List Nat) (o : Nat) : (s.rearm l o).doneQ = s.doneQ := rfl
@[simp] theorem State.rearm_ns (s : State) (l : List Nat) (o : Nat) : (s.rearm l o).ns = s.ns := rfl
@[simp] theorem State.rearm_late (s : State) (l : List Nat) (o : Nat) : (s.rearm l o).late = s.late := rfl
@[simp] theorem State.rearm_lateTotal (s : State) (l : List Nat) (o : Nat) : (s.rearm l o).lateTotal = s.lateTotal := rfl
@[simp] theorem State.rearm_resets (s : State) (l : List Nat) (o : Nat) : (s.rearm l o).resets = s.resets := rfl
@[simp] theorem State.rearm_zn (s : State) (l : List Nat) (o : Nat) : (s.rearm l o).zn = s.zn := rfl
@[simp] theorem State.rearm_wpt (s : State) (l : List Nat) (o : Nat) : (s.rearm l o).wpt = s.wpt := rfl
@[simp] theorem State.rearm_wc (s : State) (l : List Nat) (o : Nat) : (s.rearm l o).wc = s.wc := rfl
@[simp] theorem State.rearm_pool (s : State) (l : List Nat) (o : Nat) : (s.rearm l o).pool = s.pool := rfl
@[simp] theorem State.rearm_fl (s : State) (l : List Nat) (o : Nat) : (s.rearm l o).fl = s.fl := rfl
@[simp] theorem State.rearm_sd (s : State) (l : List Nat) (o : Nat) : (s.rearm l o).sd = s.sd := rfl
@[simp] theorem State.rearm_cd (s : State) (l : List Nat) (o : Nat) : (s.rearm l o).cd = s.cd := rfl
@[simp] theorem State.rearm_xl (s : State) (l : List Nat) (o : Nat) : (s.rearm l o).xl = s.xl := rfl
@[simp] theorem State.rearm_fc (s : State) (l : List Nat) (o : Nat) : (s.rearm l o).fc = s.fc := rfl
@[simp] theorem State.rearm_ms (s : State) (l : List Nat) (o : Nat) : (s.rearm l o).ms = s.ms := rfl
@[simp] theorem State.rearm_th (s : State) (l : List Nat) (o : Nat) : (s.rearm l o).th = s.th := rfl
@[simp] theorem State.rearm_hu (s : State) (l : List Nat) (o : Nat) : (s.rearm l o).hu = s.hu := rfl
@[simp] theorem State.rearm_pw (s : State) (l : List Nat) (o : Nat) : (s.rearm l o).pw = s.pw := rfl
@[simp] theorem State.rearm_md (s : State) (l : List Nat) (o : Nat) : (s.rearm l o).md = s.md := rfl
@[simp] theorem State.rearm_mm (s : State) (l : List Nat) (o : Nat) : (s.rearm l o).mm = s.mm := rfl
@[simp] theorem State.rearm_mg (s : State) (l : List Nat) (o : Nat) : (s.rearm l o).mg = s.mg := rfl
@[simp] theorem State.rearm_fb (s : State) (l : List Nat) (o : Nat) : (s.rearm l o).fb = s.fb := rfl
@[simp] theorem State.rearm_fw (s : State) (l : List Nat) (o : Nat) : (s.rearm l o).fw = s.fw := rfl
@[simp] theorem State.rearm_pins (s : State) (l : List Nat) (o : Nat) : (s.rearm l o).pins = s.pins := rfl
@[simp] theorem State.rearm_tp (s : State) (l : List Nat) (o : Nat) : (s.rearm l o).tp = s.tp := rfl
@[simp] theorem State.rearm_pending (s : State) (l : List Nat) (o : Nat) : (s.rearm l o).pending = s.pending := rfl

@[simp] theorem State.saturated_now (s : State) (b : CntBlock) (o i : Nat) : (s.saturated b o i).now = s.now := by unfold State.saturated; split <;> simp
@[simp] theorem State.saturated_unbound (s : State) (b : CntBlock) (o i : Nat) : (s.saturated b o i).unbound = s.unbound := by unfold State.saturated; split <;> simp
@[simp] theorem State.saturated_freeCtr (s : State) (b : CntBlock) (o i : Nat) : (s.saturated b o i).freeCtr = s.freeCtr := by unfold State.saturated; split <;> simp
@[simp] theorem State.saturated_out (s : State) (b : CntBlock) (o i : Nat) : (s.saturated b o i).out = s.out := by unfold State.saturated; split <;> simp
@[simp] theorem State.saturated_port0 (s : State) (b : CntBlock) (o i : Nat) : (s.saturated b o i).port0 = s.port0 := by unfold State.saturated; split <;> simp
@[simp] theorem State.saturated_port1 (s : State) (b : CntBlock) (o i : Nat) : (s.saturated b o i).port1 = s.port1 := by unfold State.saturated; split <;> simp
@[simp] theorem State.saturated_sqs (s : State) (b : CntBlock) (o i : Nat) : (s.saturated b o i).sqs = s.sqs := by unfold State.saturated; split <;> simp
@[simp] theorem State.saturated_cqs (s : State) (b : CntBlock) (o i : Nat) : (s.saturated b o i).cqs = s.cqs := by unfold State.saturated; split <;> simp
@[simp] theorem State.saturated_ctxs (s : State) (b : CntBlock) (o i : Nat) : (s.saturated b o i).ctxs = s.ctxs := by unfold State.saturated; split <;> simp
@[simp] theorem State.saturated_nextCtx (s : State) (b : CntBlock) (o i : Nat) : (s.saturated b o i).nextCtx = s.nextCtx := by unfold State.saturated; split <;> simp
@[simp] theorem State.saturated_doneQ (s : State) (b : CntBlock) (o i : Nat) : (s.saturated b o i).doneQ = s.doneQ := by unfold State.saturated; split <;> simp
@[simp] theorem State.saturated_ns (s : State) (b : CntBlock) (o i : Nat) : (s.saturated b o i).ns = s.ns := by unfold State.saturated; split <;> simp
@[simp] theorem State.saturated_late (s : State) (b : CntBlock) (o i : Nat) : (s.saturated b o i).late = s.late := by unfold State.saturated; split <;> simp
@[simp] theorem State.saturated_lateTotal (s : State) (b : CntBlock) (o i : Nat) : (s.saturated b o i).lateTotal = s.lateTotal := by unfold State.saturated; split <;> simp
@[simp] theorem State.saturated_resets (s : State) (b : CntBlock) (o i : Nat) : (s.saturated b o i).resets = s.resets := by unfold State.saturated; split <;> simp
@[simp] theorem State.saturated_zn (s : State) (b : CntBlock) (o i : Nat) : (s.saturated b o i).zn = s.zn := by unfold State.saturated; split <;> simp
@[simp] theorem State.saturated_wpt (s : State) (b : CntBlock) (o i : Nat) : (s.saturated b o i).wpt = s.wpt := by unfold State.saturated; split <;> simp
@[simp] theorem State.saturated_wc (s : State) (b : CntBlock) (o i : Nat) : (s.saturated b o i).wc = s.wc := by unfold State.saturated; split <;> simp
@[simp] theorem State.saturated_pool (s : State) (b : CntBlock) (o i : Nat) : (s.saturated b o i).pool = s.pool := by unfold State.saturated; split <;> simp
@[simp] theorem State.saturated_fl (s : State) (b : CntBlock) (o i : Nat) : (s.saturated b o i).fl = s.fl := by unfold State.saturated; split <;> simp
@[simp] theorem State.saturated_sd (s : State) (b : CntBlock) (o i : Nat) : (s.saturated b o i).sd = s.sd := by unfold State.saturated; split <;> simp
@[simp] theorem State.saturated_cd (s : State) (b : CntBlock) (o i : Nat) : (s.saturated b o i).cd = s.cd := by unfold State.saturated; split <;> simp
@[simp] theorem State.saturated_xl (s : State) (b : CntBlock) (o i : Nat) : (s.saturated b o i).xl = s.xl := by unfold State.saturated; split <;> simp
@[simp] theorem State.saturated_fc (s : State) (b : CntBlock) (o i : Nat) : (s.saturated b o i).fc = s.fc := by unfold State.saturated; split <;> simp
@[simp] theorem State.saturated_ms (s : State) (b : CntBlock) (o i : Nat) : (s.saturated b o i).ms = s.ms := by unfold State.saturated; split <;> simp
@[simp] theorem State.saturated_th (s : State) (b : CntBlock) (o i : Nat) : (s.saturated b o i).th = s.th := by unfold State.saturated; split <;> simp
@[simp] theorem State.saturated_hu (s : State) (b : CntBlock) (o i : Nat) : (s.saturated b o i).hu = s.hu := by unfold State.saturated; split <;> simp
@[simp] theorem State.saturated_pw (s : State) (b : CntBlock) (o i : Nat) : (s.saturated b o i).pw = s.pw := by unfold State.saturated; split <;> simp
@[simp] theorem State.saturated_md (s : State) (b : CntBlock) (o i : Nat) : (s.saturated b o i).md = s.md := by unfold State.saturated; split <;> simp
@[simp] theorem State.saturated_mm (s : State) (b : CntBlock) (o i : Nat) : (s.saturated b o i).mm = s.mm := by unfold State.saturated; split <;> simp
@[simp] theorem State.saturated_mg (s : State) (b : CntBlock) (o i : Nat) : (s.saturated b o i).mg = s.mg := by unfold State.saturated; split <;> simp
@[simp] theorem State.saturated_fb (s : State) (b : CntBlock) (o i : Nat) : (s.saturated b o i).fb = s.fb := by unfold State.saturated; split <;> simp
@[simp] theorem State.saturated_fw (s : State) (b : CntBlock) (o i : Nat) : (s.saturated b o i).fw = s.fw := by unfold State.saturated; split <;> simp
@[simp] theorem State.saturated_pins (s : State) (b : CntBlock) (o i : Nat) : (s.saturated b o i).pins = s.pins := by unfold State.saturated; split <;> simp
@[simp] theorem State.saturated_tp (s : State) (b : CntBlock) (o i : Nat) : (s.saturated b o i).tp = s.tp := by unfold State.saturated; split <;> simp
@[simp] theorem State.saturated_pending (s : State) (b : CntBlock) (o i : Nat) : (s.saturated b o i).pending = s.pending := by unfold State.saturated; split <;> simp

@[simp] theorem State.bump_now (s : State) (b : CntBlock) (f : Field) (i n o k : Nat) : (s.bump b f i n o k).now = s.now := by unfold State.bump; simp only; split <;> simp
@[simp] theorem State.bump_unbound (s : State) (b : CntBlock) (f : Field) (i n o k : Nat) : (s.bump b f i n o k).unbound = s.unbound := by unfold State.bump; simp only; split <;> simp
@[simp] theorem State.bump_freeCtr (s : State) (b : CntBlock) (f : Field) (i n o k : Nat) : (s.bump b f i n o k).freeCtr = s.freeCtr := by unfold State.bump; simp only; split <;> simp
@[simp] theorem State.bump_out (s : State) (b : CntBlock) (f : Field) (i n o k : Nat) : (s.bump b f i n o k).out = s.out := by unfold State.bump; simp only; split <;> simp
@[simp] theorem State.bump_port0 (s : State) (b : CntBlock) (f : Field) (i n o k : Nat) : (s.bump b f i n o k).port0 = s.port0 := by unfold State.bump; simp only; split <;> simp
@[simp] theorem State.bump_port1 (s : State) (b : CntBlock) (f : Field) (i n o k : Nat) : (s.bump b f i n o k).port1 = s.port1 := by unfold State.bump; simp only; split <;> simp
@[simp] theorem State.bump_sqs (s : State) (b : CntBlock) (f : Field) (i n o k : Nat) : (s.bump b f i n o k).sqs = s.sqs := by unfold State.bump; simp only; split <;> simp
@[simp] theorem State.bump_cqs (s : State) (b : CntBlock) (f : Field) (i n o k : Nat) : (s.bump b f i n o k).cqs = s.cqs := by unfold State.bump; simp only; split <;> simp
@[simp] theorem State.bump_ctxs (s : State) (b : CntBlock) (f : Field) (i n o k : Nat) : (s.bump b f i n o k).ctxs = s.ctxs := by unfold State.bump; simp only; split <;> simp
@[simp] theorem State.bump_nextCtx (s : State) (b : CntBlock) (f : Field) (i n o k : Nat) : (s.bump b f i n o k).nextCtx = s.nextCtx := by unfold State.bump; simp only; split <;> simp
@[simp] theorem State.bump_doneQ (s : State) (b : CntBlock) (f : Field) (i n o k : Nat) : (s.bump b f i n o k).doneQ = s.doneQ := by unfold State.bump; simp only; split <;> simp
@[simp] theorem State.bump_ns (s : State) (b : CntBlock) (f : Field) (i n o k : Nat) : (s.bump b f i n o k).ns = s.ns := by unfold State.bump; simp only; split <;> simp
@[simp] theorem State.bump_late (s : State) (b : CntBlock) (f : Field) (i n o k : Nat) : (s.bump b f i n o k).late = s.late := by unfold State.bump; simp only; split <;> simp
@[simp] theorem State.bump_lateTotal (s : State) (b : CntBlock) (f : Field) (i n o k : Nat) : (s.bump b f i n o k).lateTotal = s.lateTotal := by unfold State.bump; simp only; split <;> simp
@[simp] theorem State.bump_resets (s : State) (b : CntBlock) (f : Field) (i n o k : Nat) : (s.bump b f i n o k).resets = s.resets := by unfold State.bump; simp only; split <;> simp
@[simp] theorem State.bump_zn (s : State) (b : CntBlock) (f : Field) (i n o k : Nat) : (s.bump b f i n o k).zn = s.zn := by unfold State.bump; simp only; split <;> simp
@[simp] theorem State.bump_wpt (s : State) (b : CntBlock) (f : Field) (i n o k : Nat) : (s.bump b f i n o k).wpt = s.wpt := by unfold State.bump; simp only; split <;> simp
@[simp] theorem State.bump_wc (s : State) (b : CntBlock) (f : Field) (i n o k : Nat) : (s.bump b f i n o k).wc = s.wc := by unfold State.bump; simp only; split <;> simp
@[simp] theorem State.bump_pool (s : State) (b : CntBlock) (f : Field) (i n o k : Nat) : (s.bump b f i n o k).pool = s.pool := by unfold State.bump; simp only; split <;> simp
@[simp] theorem State.bump_fl (s : State) (b : CntBlock) (f : Field) (i n o k : Nat) : (s.bump b f i n o k).fl = s.fl := by unfold State.bump; simp only; split <;> simp
@[simp] theorem State.bump_sd (s : State) (b : CntBlock) (f : Field) (i n o k : Nat) : (s.bump b f i n o k).sd = s.sd := by unfold State.bump; simp only; split <;> simp
@[simp] theorem State.bump_cd (s : State) (b : CntBlock) (f : Field) (i n o k : Nat) : (s.bump b f i n o k).cd = s.cd := by unfold State.bump; simp only; split <;> simp
@[simp] theorem State.bump_xl (s : State) (b : CntBlock) (f : Field) (i n o k : Nat) : (s.bump b f i n o k).xl = s.xl := by unfold State.bump; simp only; split <;> simp
@[simp] theorem State.bump_fc (s : State) (b : CntBlock) (f : Field) (i n o k : Nat) : (s.bump b f i n o k).fc = s.fc := by unfold State.bump; simp only; split <;> simp
@[simp] theorem State.bump_ms (s : State) (b : CntBlock) (f : Field) (i n o k : Nat) : (s.bump b f i n o k).ms = s.ms := by unfold State.bump; simp only; split <;> simp
@[simp] theorem State.bump_th (s : State) (b : CntBlock) (f : Field) (i n o k : Nat) : (s.bump b f i n o k).th = s.th := by unfold State.bump; simp only; split <;> simp
@[simp] theorem State.bump_hu (s : State) (b : CntBlock) (f : Field) (i n o k : Nat) : (s.bump b f i n o k).hu = s.hu := by unfold State.bump; simp only; split <;> simp
@[simp] theorem State.bump_pw (s : State) (b : CntBlock) (f : Field) (i n o k : Nat) : (s.bump b f i n o k).pw = s.pw := by unfold State.bump; simp only; split <;> simp
@[simp] theorem State.bump_md (s : State) (b : CntBlock) (f : Field) (i n o k : Nat) : (s.bump b f i n o k).md = s.md := by unfold State.bump; simp only; split <;> simp
@[simp] theorem State.bump_mm (s : State) (b : CntBlock) (f : Field) (i n o k : Nat) : (s.bump b f i n o k).mm = s.mm := by unfold State.bump; simp only; split <;> simp
@[simp] theorem State.bump_mg (s : State) (b : CntBlock) (f : Field) (i n o k : Nat) : (s.bump b f i n o k).mg = s.mg := by unfold State.bump; simp only; split <;> simp
@[simp] theorem State.bump_fb (s : State) (b : CntBlock) (f : Field) (i n o k : Nat) : (s.bump b f i n o k).fb = s.fb := by unfold State.bump; simp only; split <;> simp
@[simp] theorem State.bump_fw (s : State) (b : CntBlock) (f : Field) (i n o k : Nat) : (s.bump b f i n o k).fw = s.fw := by unfold State.bump; simp only; split <;> simp
@[simp] theorem State.bump_pins (s : State) (b : CntBlock) (f : Field) (i n o k : Nat) : (s.bump b f i n o k).pins = s.pins := by unfold State.bump; simp only; split <;> simp
@[simp] theorem State.bump_tp (s : State) (b : CntBlock) (f : Field) (i n o k : Nat) : (s.bump b f i n o k).tp = s.tp := by unfold State.bump; simp only; split <;> simp
@[simp] theorem State.bump_pending (s : State) (b : CntBlock) (f : Field) (i n o k : Nat) : (s.bump b f i n o k).pending = s.pending := by unfold State.bump; simp only; split <;> simp

@[simp] theorem State.evt_now (s : State) (f : Field) (n : Nat) (l : List Field) (i : Nat) : (s.evt f n l i).now = s.now := by unfold State.evt; split <;> simp
@[simp] theorem State.evt_unbound (s : State) (f : Field) (n : Nat) (l : List Field) (i : Nat) : (s.evt f n l i).unbound = s.unbound := by unfold State.evt; split <;> simp
@[simp] theorem State.evt_freeCtr (s : State) (f : Field) (n : Nat) (l : List Field) (i : Nat) : (s.evt f n l i).freeCtr = s.freeCtr := by unfold State.evt; split <;> simp
@[simp] theorem State.evt_out (s : State) (f : Field) (n : Nat) (l : List Field) (i : Nat) : (s.evt f n l i).out = s.out := by unfold State.evt; split <;> simp
@[simp] theorem State.evt_port0 (s : State) (f : Field) (n : Nat) (l : List Field) (i : Nat) : (s.evt f n l i).port0 = s.port0 := by unfold State.evt; split <;> simp
@[simp] theorem State.evt_port1 (s : State) (f : Field) (n : Nat) (l : List Field) (i : Nat) : (s.evt f n l i).port1 = s.port1 := by unfold State.evt; split <;> simp
@[simp] theorem State.evt_sqs (s : State) (f : Field) (n : Nat) (l : List Field) (i : Nat) : (s.evt f n l i).sqs = s.sqs := by unfold State.evt; split <;> simp
@[simp] theorem State.evt_cqs (s : State) (f : Field) (n : Nat) (l : List Field) (i : Nat) : (s.evt f n l i).cqs = s.cqs := by unfold State.evt; split <;> simp
@[simp] theorem State.evt_ctxs (s : State) (f : Field) (n : Nat) (l : List Field) (i : Nat) : (s.evt f n l i).ctxs = s.ctxs := by unfold State.evt; split <;> simp
@[simp] theorem State.evt_nextCtx (s : State) (f : Field) (n : Nat) (l : List Field) (i : Nat) : (s.evt f n l i).nextCtx = s.nextCtx := by unfold State.evt; split <;> simp
@[simp] theorem State.evt_doneQ (s : State) (f : Field) (n : Nat) (l : List Field) (i : Nat) : (s.evt f n l i).doneQ = s.doneQ := by unfold State.evt; split <;> simp
@[simp] theorem State.evt_ns (s : State) (f : Field) (n : Nat) (l : List Field) (i : Nat) : (s.evt f n l i).ns = s.ns := by unfold State.evt; split <;> simp
@[simp] theorem State.evt_late (s : State) (f : Field) (n : Nat) (l : List Field) (i : Nat) : (s.evt f n l i).late = s.late := by unfold State.evt; split <;> simp
@[simp] theorem State.evt_lateTotal (s : State) (f : Field) (n : Nat) (l : List Field) (i : Nat) : (s.evt f n l i).lateTotal = s.lateTotal := by unfold State.evt; split <;> simp
@[simp] theorem State.evt_resets (s : State) (f : Field) (n : Nat) (l : List Field) (i : Nat) : (s.evt f n l i).resets = s.resets := by unfold State.evt; split <;> simp
@[simp] theorem State.evt_zn (s : State) (f : Field) (n : Nat) (l : List Field) (i : Nat) : (s.evt f n l i).zn = s.zn := by unfold State.evt; split <;> simp
@[simp] theorem State.evt_wpt (s : State) (f : Field) (n : Nat) (l : List Field) (i : Nat) : (s.evt f n l i).wpt = s.wpt := by unfold State.evt; split <;> simp
@[simp] theorem State.evt_wc (s : State) (f : Field) (n : Nat) (l : List Field) (i : Nat) : (s.evt f n l i).wc = s.wc := by unfold State.evt; split <;> simp
@[simp] theorem State.evt_pool (s : State) (f : Field) (n : Nat) (l : List Field) (i : Nat) : (s.evt f n l i).pool = s.pool := by unfold State.evt; split <;> simp
@[simp] theorem State.evt_fl (s : State) (f : Field) (n : Nat) (l : List Field) (i : Nat) : (s.evt f n l i).fl = s.fl := by unfold State.evt; split <;> simp
@[simp] theorem State.evt_sd (s : State) (f : Field) (n : Nat) (l : List Field) (i : Nat) : (s.evt f n l i).sd = s.sd := by unfold State.evt; split <;> simp
@[simp] theorem State.evt_cd (s : State) (f : Field) (n : Nat) (l : List Field) (i : Nat) : (s.evt f n l i).cd = s.cd := by unfold State.evt; split <;> simp
@[simp] theorem State.evt_xl (s : State) (f : Field) (n : Nat) (l : List Field) (i : Nat) : (s.evt f n l i).xl = s.xl := by unfold State.evt; split <;> simp
@[simp] theorem State.evt_fc (s : State) (f : Field) (n : Nat) (l : List Field) (i : Nat) : (s.evt f n l i).fc = s.fc := by unfold State.evt; split <;> simp
@[simp] theorem State.evt_ms (s : State) (f : Field) (n : Nat) (l : List Field) (i : Nat) : (s.evt f n l i).ms = s.ms := by unfold State.evt; split <;> simp
@[simp] theorem State.evt_th (s : State) (f : Field) (n : Nat) (l : List Field) (i : Nat) : (s.evt f n l i).th = s.th := by unfold State.evt; split <;> simp
@[simp] theorem State.evt_hu (s : State) (f : Field) (n : Nat) (l : List Field) (i : Nat) : (s.evt f n l i).hu = s.hu := by unfold State.evt; split <;> simp
@[simp] theorem State.evt_pw (s : State) (f : Field) (n : Nat) (l : List Field) (i : Nat) : (s.evt f n l i).pw = s.pw := by unfold State.evt; split <;> simp
@[simp] theorem State.evt_md (s : State) (f : Field) (n : Nat) (l : List Field) (i : Nat) : (s.evt f n l i).md = s.md := by unfold State.evt; split <;> simp
@[simp] theorem State.evt_mm (s : State) (f : Field) (n : Nat) (l : List Field) (i : Nat) : (s.evt f n l i).mm = s.mm := by unfold State.evt; split <;> simp
@[simp] theorem State.evt_mg (s : State) (f : Field) (n : Nat) (l : List Field) (i : Nat) : (s.evt f n l i).mg = s.mg := by unfold State.evt; split <;> simp
@[simp] theorem State.evt_fb (s : State) (f : Field) (n : Nat) (l : List Field) (i : Nat) : (s.evt f n l i).fb = s.fb := by unfold State.evt; split <;> simp
@[simp] theorem State.evt_fw (s : State) (f : Field) (n : Nat) (l : List Field) (i : Nat) : (s.evt f n l i).fw = s.fw := by unfold State.evt; split <;> simp
@[simp] theorem State.evt_pins (s : State) (f : Field) (n : Nat) (l : List Field) (i : Nat) : (s.evt f n l i).pins = s.pins := by unfold State.evt; split <;> simp
@[simp] theorem State.evt_tp (s : State) (f : Field) (n : Nat) (l : List Field) (i : Nat) : (s.evt f n l i).tp = s.tp := by unfold State.evt; split <;> simp
@[simp] theorem State.evt_pending (s : State) (f : Field) (n : Nat) (l : List Field) (i : Nat) : (s.evt f n l i).pending = s.pending := by unfold State.evt; split <;> simp

@[simp] theorem State.fsqEvt_now (s : State) (f : Field) (c : Nat) : (s.fsqEvt f c).now = s.now := by simp [State.fsqEvt]
@[simp] theorem State.fsqEvt_unbound (s : State) (f : Field) (c : Nat) : (s.fsqEvt f c).unbound = s.unbound := by simp [State.fsqEvt]
@[simp] theorem State.fsqEvt_freeCtr (s : State) (f : Field) (c : Nat) : (s.fsqEvt f c).freeCtr = s.freeCtr := by simp [State.fsqEvt]
@[simp] theorem State.fsqEvt_out (s : State) (f : Field) (c : Nat) : (s.fsqEvt f c).out = s.out := by simp [State.fsqEvt]
@[simp] theorem State.fsqEvt_port0 (s : State) (f : Field) (c : Nat) : (s.fsqEvt f c).port0 = s.port0 := by simp [State.fsqEvt]
@[simp] theorem State.fsqEvt_port1 (s : State) (f : Field) (c : Nat) : (s.fsqEvt f c).port1 = s.port1 := by simp [State.fsqEvt]
@[simp] theorem State.fsqEvt_sqs (s : State) (f : Field) (c : Nat) : (s.fsqEvt f c).sqs = s.sqs := by simp [State.fsqEvt]
@[simp] theorem State.fsqEvt_cqs (s : State) (f : Field) (c : Nat) : (s.fsqEvt f c).cqs = s.cqs := by simp [State.fsqEvt]
@[simp] theorem State.fsqEvt_ctxs (s : State) (f : Field) (c : Nat) : (s.fsqEvt f c).ctxs = s.ctxs := by simp [State.fsqEvt]
@[simp] theorem State.fsqEvt_nextCtx (s : State) (f : Field) (c : Nat) : (s.fsqEvt f c).nextCtx = s.nextCtx := by simp [State.fsqEvt]
@[simp] theorem State.fsqEvt_doneQ (s : State) (f : Field) (c : Nat) : (s.fsqEvt f c).doneQ = s.doneQ := by simp [State.fsqEvt]
@[simp] theorem State.fsqEvt_ns (s : State) (f : Field) (c : Nat) : (s.fsqEvt f c).ns = s.ns := by simp [State.fsqEvt]
@[simp] theorem State.fsqEvt_late (s : State) (f : Field) (c : Nat) : (s.fsqEvt f c).late = s.late := by simp [State.fsqEvt]
@[simp] theorem State.fsqEvt_lateTotal (s : State) (f : Field) (c : Nat) : (s.fsqEvt f c).lateTotal = s.lateTotal := by simp [State.fsqEvt]
@[simp] theorem State.fsqEvt_resets (s : State) (f : Field) (c : Nat) : (s.fsqEvt f c).resets = s.resets := by simp [State.fsqEvt]
@[simp] theorem State.fsqEvt_zn (s : State) (f : Field) (c : Nat) : (s.fsqEvt f c).zn = s.zn := by simp [State.fsqEvt]
@[simp] theorem State.fsqEvt_wpt (s : State) (f : Field) (c : Nat) : (s.fsqEvt f c).wpt = s.wpt := by simp [State.fsqEvt]
@[simp] theorem State.fsqEvt_wc (s : State) (f : Field) (c : Nat) : (s.fsqEvt f c).wc = s.wc := by simp [State.fsqEvt]
@[simp] theorem State.fsqEvt_pool (s : State) (f : Field) (c : Nat) : (s.fsqEvt f c).pool = s.pool := by simp [State.fsqEvt]
@[simp] theorem State.fsqEvt_fl (s : State) (f : Field) (c : Nat) : (s.fsqEvt f c).fl = s.fl := by simp [State.fsqEvt]
@[simp] theorem State.fsqEvt_sd (s : State) (f : Field) (c : Nat) : (s.fsqEvt f c).sd = s.sd := by simp [State.fsqEvt]
@[simp] theorem State.fsqEvt_cd (s : State) (f : Field) (c : Nat) : (s.fsqEvt f c).cd = s.cd := by simp [State.fsqEvt]
@[simp] theorem State.fsqEvt_xl (s : State) (f : Field) (c : Nat) : (s.fsqEvt f c).xl = s.xl := by simp [State.fsqEvt]
@[simp] theorem State.fsqEvt_fc (s : State) (f : Field) (c : Nat) : (s.fsqEvt f c).fc = s.fc := by simp [State.fsqEvt]
@[simp] theorem State.fsqEvt_ms (s : State) (f : Field) (c : Nat) : (s.fsqEvt f c).ms = s.ms := by simp [State.fsqEvt]
@[simp] theorem State.fsqEvt_th (s : State) (f : Field) (c : Nat) : (s.fsqEvt f c).th = s.th := by simp [State.fsqEvt]
@[simp] theorem State.fsqEvt_hu (s : State) (f : Field) (c : Nat) : (s.fsqEvt f c).hu = s.hu := by simp [State.fsqEvt]
@[simp] theorem State.fsqEvt_pw (s : State) (f : Field) (c : Nat) : (s.fsqEvt f c).pw = s.pw := by simp [State.fsqEvt]
@[simp] theorem State.fsqEvt_md (s : State) (f : Field) (c : Nat) : (s.fsqEvt f c).md = s.md := by simp [State.fsqEvt]
@[simp] theorem State.fsqEvt_mm (s : State) (f : Field) (c : Nat) : (s.fsqEvt f c).mm = s.mm := by simp [State.fsqEvt]
@[simp] theorem State.fsqEvt_mg (s : State) (f : Field) (c : Nat) : (s.fsqEvt f c).mg = s.mg := by simp [State.fsqEvt]
@[simp] theorem State.fsqEvt_fb (s : State) (f : Field) (c : Nat) : (s.fsqEvt f c).fb = s.fb := by simp [State.fsqEvt]
@[simp] theorem State.fsqEvt_fw (s : State) (f : Field) (c : Nat) : (s.fsqEvt f c).fw = s.fw := by simp [State.fsqEvt]
@[simp] theorem State.fsqEvt_pins (s : State) (f : Field) (c : Nat) : (s.fsqEvt f c).pins = s.pins := by simp [State.fsqEvt]
@[simp] theorem State.fsqEvt_tp (s : State) (f : Field) (c : Nat) : (s.fsqEvt f c).tp = s.tp := by simp [State.fsqEvt]
@[simp] theorem State.fsqEvt_pending (s : State) (f : Field) (c : Nat) : (s.fsqEvt f c).pending = s.pending := by simp [State.fsqEvt]

@[simp] theorem State.sdfEvt_now (s : State) (f : Field) (c : Nat) : (s.sdfEvt f c).now = s.now := by simp [State.sdfEvt]
@[simp] theorem State.sdfEvt_unbound (s : State) (f : Field) (c : Nat) : (s.sdfEvt f c).unbound = s.unbound := by simp [State.sdfEvt]
@[simp] theorem State.sdfEvt_freeCtr (s : State) (f : Field) (c : Nat) : (s.sdfEvt f c).freeCtr = s.freeCtr := by simp [State.sdfEvt]
@[simp] theorem State.sdfEvt_out (s : State) (f : Field) (c : Nat) : (s.sdfEvt f c).out = s.out := by simp [State.sdfEvt]
@[simp] theorem State.sdfEvt_port0 (s : State) (f : Field) (c : Nat) : (s.sdfEvt f c).port0 = s.port0 := by simp [State.sdfEvt]
@[simp] theorem State.sdfEvt_port1 (s : State) (f : Field) (c : Nat) : (s.sdfEvt f c).port1 = s.port1 := by simp [State.sdfEvt]
@[simp] theorem State.sdfEvt_sqs (s : State) (f : Field) (c : Nat) : (s.sdfEvt f c).sqs = s.sqs := by simp [State.sdfEvt]
@[simp] theorem State.sdfEvt_cqs (s : State) (f : Field) (c : Nat) : (s.sdfEvt f c).cqs = s.cqs := by simp [State.sdfEvt]
@[simp] theorem State.sdfEvt_ctxs (s : State) (f : Field) (c : Nat) : (s.sdfEvt f c).ctxs = s.ctxs := by simp [State.sdfEvt]
@[simp] theorem State.sdfEvt_nextCtx (s : State) (f : Field) (c : Nat) : (s.sdfEvt f c).nextCtx = s.nextCtx := by simp [State.sdfEvt]
@[simp] theorem State.sdfEvt_doneQ (s : State) (f : Field) (c : Nat) : (s.sdfEvt f c).doneQ = s.doneQ := by simp [State.sdfEvt]
@[simp] theorem State.sdfEvt_ns (s : State) (f : Field) (c : Nat) : (s.sdfEvt f c).ns = s.ns := by simp [State.sdfEvt]
@[simp] theorem State.sdfEvt_late (s : State) (f : Field) (c : Nat) : (s.sdfEvt f c).late = s.late := by simp [State.sdfEvt]
@[simp] theorem State.sdfEvt_lateTotal (s : State) (f : Field) (c : Nat) : (s.sdfEvt f c).lateTotal = s.lateTotal := by simp [State.sdfEvt]
@[simp] theorem State.sdfEvt_resets (s : State) (f : Field) (c : Nat) : (s.sdfEvt f c).resets = s.resets := by simp [State.sdfEvt]
@[simp] theorem State.sdfEvt_zn (s : State) (f : Field) (c : Nat) : (s.sdfEvt f c).zn = s.zn := by simp [State.sdfEvt]
@[simp] theorem State.sdfEvt_wpt (s : State) (f : Field) (c : Nat) : (s.sdfEvt f c).wpt = s.wpt := by simp [State.sdfEvt]
@[simp] theorem State.sdfEvt_wc (s : State) (f : Field) (c : Nat) : (s.sdfEvt f c).wc = s.wc := by simp [State.sdfEvt]
@[simp] theorem State.sdfEvt_pool (s : State) (f : Field) (c : Nat) : (s.sdfEvt f c).pool = s.pool := by simp [State.sdfEvt]
@[simp] theorem State.sdfEvt_fl (s : State) (f : Field) (c : Nat) : (s.sdfEvt f c).fl = s.fl := by simp [State.sdfEvt]
@[simp] theorem State.sdfEvt_sd (s : State) (f : Field) (c : Nat) : (s.sdfEvt f c).sd = s.sd := by simp [State.sdfEvt]
@[simp] theorem State.sdfEvt_cd (s : State) (f : Field) (c : Nat) : (s.sdfEvt f c).cd = s.cd := by simp [State.sdfEvt]
@[simp] theorem State.sdfEvt_xl (s : State) (f : Field) (c : Nat) : (s.sdfEvt f c).xl = s.xl := by simp [State.sdfEvt]
@[simp] theorem State.sdfEvt_fc (s : State) (f : Field) (c : Nat) : (s.sdfEvt f c).fc = s.fc := by simp [State.sdfEvt]
@[simp] theorem State.sdfEvt_ms (s : State) (f : Field) (c : Nat) : (s.sdfEvt f c).ms = s.ms := by simp [State.sdfEvt]
@[simp] theorem State.sdfEvt_th (s : State) (f : Field) (c : Nat) : (s.sdfEvt f c).th = s.th := by simp [State.sdfEvt]
@[simp] theorem State.sdfEvt_hu (s : State) (f : Field) (c : Nat) : (s.sdfEvt f c).hu = s.hu := by simp [State.sdfEvt]
@[simp] theorem State.sdfEvt_pw (s : State) (f : Field) (c : Nat) : (s.sdfEvt f c).pw = s.pw := by simp [State.sdfEvt]
@[simp] theorem State.sdfEvt_md (s : State) (f : Field) (c : Nat) : (s.sdfEvt f c).md = s.md := by simp [State.sdfEvt]
@[simp] theorem State.sdfEvt_mm (s : State) (f : Field) (c : Nat) : (s.sdfEvt f c).mm = s.mm := by simp [State.sdfEvt]
@[simp] theorem State.sdfEvt_mg (s : State) (f : Field) (c : Nat) : (s.sdfEvt f c).mg = s.mg := by simp [State.sdfEvt]
@[simp] theorem State.sdfEvt_fb (s : State) (f : Field) (c : Nat) : (s.sdfEvt f c).fb = s.fb := by simp [State.sdfEvt]
@[simp] theorem State.sdfEvt_fw (s : State) (f : Field) (c : Nat) : (s.sdfEvt f c).fw = s.fw := by simp [State.sdfEvt]
@[simp] theorem State.sdfEvt_pins (s : State) (f : Field) (c : Nat) : (s.sdfEvt f c).pins = s.pins := by simp [State.sdfEvt]
@[simp] theorem State.sdfEvt_tp (s : State) (f : Field) (c : Nat) : (s.sdfEvt f c).tp = s.tp := by simp [State.sdfEvt]
@[simp] theorem State.sdfEvt_pending (s : State) (f : Field) (c : Nat) : (s.sdfEvt f c).pending = s.pending := by simp [State.sdfEvt]

@[simp] theorem State.xltEvt_now (s : State) (f : Field) : (s.xltEvt f).now = s.now := by simp [State.xltEvt]
@[simp] theorem State.xltEvt_unbound (s : State) (f : Field) : (s.xltEvt f).unbound = s.unbound := by simp [State.xltEvt]
@[simp] theorem State.xltEvt_freeCtr (s : State) (f : Field) : (s.xltEvt f).freeCtr = s.freeCtr := by simp [State.xltEvt]
@[simp] theorem State.xltEvt_out (s : State) (f : Field) : (s.xltEvt f).out = s.out := by simp [State.xltEvt]
@[simp] theorem State.xltEvt_port0 (s : State) (f : Field) : (s.xltEvt f).port0 = s.port0 := by simp [State.xltEvt]
@[simp] theorem State.xltEvt_port1 (s : State) (f : Field) : (s.xltEvt f).port1 = s.port1 := by simp [State.xltEvt]
@[simp] theorem State.xltEvt_sqs (s : State) (f : Field) : (s.xltEvt f).sqs = s.sqs := by simp [State.xltEvt]
@[simp] theorem State.xltEvt_cqs (s : State) (f : Field) : (s.xltEvt f).cqs = s.cqs := by simp [State.xltEvt]
@[simp] theorem State.xltEvt_ctxs (s : State) (f : Field) : (s.xltEvt f).ctxs = s.ctxs := by simp [State.xltEvt]
@[simp] theorem State.xltEvt_nextCtx (s : State) (f : Field) : (s.xltEvt f).nextCtx = s.nextCtx := by simp [State.xltEvt]
@[simp] theorem State.xltEvt_doneQ (s : State) (f : Field) : (s.xltEvt f).doneQ = s.doneQ := by simp [State.xltEvt]
@[simp] theorem State.xltEvt_ns (s : State) (f : Field) : (s.xltEvt f).ns = s.ns := by simp [State.xltEvt]
@[simp] theorem State.xltEvt_late (s : State) (f : Field) : (s.xltEvt f).late = s.late := by simp [State.xltEvt]
@[simp] theorem State.xltEvt_lateTotal (s : State) (f : Field) : (s.xltEvt f).lateTotal = s.lateTotal := by simp [State.xltEvt]
@[simp] theorem State.xltEvt_resets (s : State) (f : Field) : (s.xltEvt f).resets = s.resets := by simp [State.xltEvt]
@[simp] theorem State.xltEvt_zn (s : State) (f : Field) : (s.xltEvt f).zn = s.zn := by simp [State.xltEvt]
@[simp] theorem State.xltEvt_wpt (s : State) (f : Field) : (s.xltEvt f).wpt = s.wpt := by simp [State.xltEvt]
@[simp] theorem State.xltEvt_wc (s : State) (f : Field) : (s.xltEvt f).wc = s.wc := by simp [State.xltEvt]
@[simp] theorem State.xltEvt_pool (s : State) (f : Field) : (s.xltEvt f).pool = s.pool := by simp [State.xltEvt]
@[simp] theorem State.xltEvt_fl (s : State) (f : Field) : (s.xltEvt f).fl = s.fl := by simp [State.xltEvt]
@[simp] theorem State.xltEvt_sd (s : State) (f : Field) : (s.xltEvt f).sd = s.sd := by simp [State.xltEvt]
@[simp] theorem State.xltEvt_cd (s : State) (f : Field) : (s.xltEvt f).cd = s.cd := by simp [State.xltEvt]
@[simp] theorem State.xltEvt_xl (s : State) (f : Field) : (s.xltEvt f).xl = s.xl := by simp [State.xltEvt]
@[simp] theorem State.xltEvt_fc (s : State) (f : Field) : (s.xltEvt f).fc = s.fc := by simp [State.xltEvt]
@[simp] theorem State.xltEvt_ms (s : State) (f : Field) : (s.xltEvt f).ms = s.ms := by simp [State.xltEvt]
@[simp] theorem State.xltEvt_th (s : State) (f : Field) : (s.xltEvt f).th = s.th := by simp [State.xltEvt]
@[simp] theorem State.xltEvt_hu (s : State) (f : Field) : (s.xltEvt f).hu = s.hu := by simp [State.xltEvt]
@[simp] theorem State.xltEvt_pw (s : State) (f : Field) : (s.xltEvt f).pw = s.pw := by simp [State.xltEvt]
@[simp] theorem State.xltEvt_md (s : State) (f : Field) : (s.xltEvt f).md = s.md := by simp [State.xltEvt]
@[simp] theorem State.xltEvt_mm (s : State) (f : Field) : (s.xltEvt f).mm = s.mm := by simp [State.xltEvt]
@[simp] theorem State.xltEvt_mg (s : State) (f : Field) : (s.xltEvt f).mg = s.mg := by simp [State.xltEvt]
@[simp] theorem State.xltEvt_fb (s : State) (f : Field) : (s.xltEvt f).fb = s.fb := by simp [State.xltEvt]
@[simp] theorem State.xltEvt_fw (s : State) (f : Field) : (s.xltEvt f).fw = s.fw := by simp [State.xltEvt]
@[simp] theorem State.xltEvt_pins (s : State) (f : Field) : (s.xltEvt f).pins = s.pins := by simp [State.xltEvt]
@[simp] theorem State.xltEvt_tp (s : State) (f : Field) : (s.xltEvt f).tp = s.tp := by simp [State.xltEvt]
@[simp] theorem State.xltEvt_pending (s : State) (f : Field) : (s.xltEvt f).pending = s.pending := by simp [State.xltEvt]

@[simp] theorem State.pscEvt_now (s : State) (f : Field) : (s.pscEvt f).now = s.now := by simp [State.pscEvt]
@[simp] theorem State.pscEvt_unbound (s : State) (f : Field) : (s.pscEvt f).unbound = s.unbound := by simp [State.pscEvt]
@[simp] theorem State.pscEvt_freeCtr (s : State) (f : Field) : (s.pscEvt f).freeCtr = s.freeCtr := by simp [State.pscEvt]
@[simp] theorem State.pscEvt_out (s : State) (f : Field) : (s.pscEvt f).out = s.out := by simp [State.pscEvt]
@[simp] theorem State.pscEvt_port0 (s : State) (f : Field) : (s.pscEvt f).port0 = s.port0 := by simp [State.pscEvt]
@[simp] theorem State.pscEvt_port1 (s : State) (f : Field) : (s.pscEvt f).port1 = s.port1 := by simp [State.pscEvt]
@[simp] theorem State.pscEvt_sqs (s : State) (f : Field) : (s.pscEvt f).sqs = s.sqs := by simp [State.pscEvt]
@[simp] theorem State.pscEvt_cqs (s : State) (f : Field) : (s.pscEvt f).cqs = s.cqs := by simp [State.pscEvt]
@[simp] theorem State.pscEvt_ctxs (s : State) (f : Field) : (s.pscEvt f).ctxs = s.ctxs := by simp [State.pscEvt]
@[simp] theorem State.pscEvt_nextCtx (s : State) (f : Field) : (s.pscEvt f).nextCtx = s.nextCtx := by simp [State.pscEvt]
@[simp] theorem State.pscEvt_doneQ (s : State) (f : Field) : (s.pscEvt f).doneQ = s.doneQ := by simp [State.pscEvt]
@[simp] theorem State.pscEvt_ns (s : State) (f : Field) : (s.pscEvt f).ns = s.ns := by simp [State.pscEvt]
@[simp] theorem State.pscEvt_late (s : State) (f : Field) : (s.pscEvt f).late = s.late := by simp [State.pscEvt]
@[simp] theorem State.pscEvt_lateTotal (s : State) (f : Field) : (s.pscEvt f).lateTotal = s.lateTotal := by simp [State.pscEvt]
@[simp] theorem State.pscEvt_resets (s : State) (f : Field) : (s.pscEvt f).resets = s.resets := by simp [State.pscEvt]
@[simp] theorem State.pscEvt_zn (s : State) (f : Field) : (s.pscEvt f).zn = s.zn := by simp [State.pscEvt]
@[simp] theorem State.pscEvt_wpt (s : State) (f : Field) : (s.pscEvt f).wpt = s.wpt := by simp [State.pscEvt]
@[simp] theorem State.pscEvt_wc (s : State) (f : Field) : (s.pscEvt f).wc = s.wc := by simp [State.pscEvt]
@[simp] theorem State.pscEvt_pool (s : State) (f : Field) : (s.pscEvt f).pool = s.pool := by simp [State.pscEvt]
@[simp] theorem State.pscEvt_fl (s : State) (f : Field) : (s.pscEvt f).fl = s.fl := by simp [State.pscEvt]
@[simp] theorem State.pscEvt_sd (s : State) (f : Field) : (s.pscEvt f).sd = s.sd := by simp [State.pscEvt]
@[simp] theorem State.pscEvt_cd (s : State) (f : Field) : (s.pscEvt f).cd = s.cd := by simp [State.pscEvt]
@[simp] theorem State.pscEvt_xl (s : State) (f : Field) : (s.pscEvt f).xl = s.xl := by simp [State.pscEvt]
@[simp] theorem State.pscEvt_fc (s : State) (f : Field) : (s.pscEvt f).fc = s.fc := by simp [State.pscEvt]
@[simp] theorem State.pscEvt_ms (s : State) (f : Field) : (s.pscEvt f).ms = s.ms := by simp [State.pscEvt]
@[simp] theorem State.pscEvt_th (s : State) (f : Field) : (s.pscEvt f).th = s.th := by simp [State.pscEvt]
@[simp] theorem State.pscEvt_hu (s : State) (f : Field) : (s.pscEvt f).hu = s.hu := by simp [State.pscEvt]
@[simp] theorem State.pscEvt_pw (s : State) (f : Field) : (s.pscEvt f).pw = s.pw := by simp [State.pscEvt]
@[simp] theorem State.pscEvt_md (s : State) (f : Field) : (s.pscEvt f).md = s.md := by simp [State.pscEvt]
@[simp] theorem State.pscEvt_mm (s : State) (f : Field) : (s.pscEvt f).mm = s.mm := by simp [State.pscEvt]
@[simp] theorem State.pscEvt_mg (s : State) (f : Field) : (s.pscEvt f).mg = s.mg := by simp [State.pscEvt]
@[simp] theorem State.pscEvt_fb (s : State) (f : Field) : (s.pscEvt f).fb = s.fb := by simp [State.pscEvt]
@[simp] theorem State.pscEvt_fw (s : State) (f : Field) : (s.pscEvt f).fw = s.fw := by simp [State.pscEvt]
@[simp] theorem State.pscEvt_pins (s : State) (f : Field) : (s.pscEvt f).pins = s.pins := by simp [State.pscEvt]
@[simp] theorem State.pscEvt_tp (s : State) (f : Field) : (s.pscEvt f).tp = s.tp := by simp [State.pscEvt]
@[simp] theorem State.pscEvt_pending (s : State) (f : Field) : (s.pscEvt f).pending = s.pending := by simp [State.pscEvt]

@[simp] theorem State.bumpFsq_now (s : State) (f : Field) (c : Nat) : (s.bumpFsq f c).now = s.now := by unfold State.bumpFsq; simp only; (repeat' split) <;> simp
@[simp] theorem State.bumpFsq_unbound (s : State) (f : Field) (c : Nat) : (s.bumpFsq f c).unbound = s.unbound := by unfold State.bumpFsq; simp only; (repeat' split) <;> simp
@[simp] theorem State.bumpFsq_freeCtr (s : State) (f : Field) (c : Nat) : (s.bumpFsq f c).freeCtr = s.freeCtr := by unfold State.bumpFsq; simp only; (repeat' split) <;> simp
@[simp] theorem State.bumpFsq_out (s : State) (f : Field) (c : Nat) : (s.bumpFsq f c).out = s.out := by unfold State.bumpFsq; simp only; (repeat' split) <;> simp
@[simp] theorem State.bumpFsq_port0 (s : State) (f : Field) (c : Nat) : (s.bumpFsq f c).port0 = s.port0 := by unfold State.bumpFsq; simp only; (repeat' split) <;> simp
@[simp] theorem State.bumpFsq_port1 (s : State) (f : Field) (c : Nat) : (s.bumpFsq f c).port1 = s.port1 := by unfold State.bumpFsq; simp only; (repeat' split) <;> simp
@[simp] theorem State.bumpFsq_sqs (s : State) (f : Field) (c : Nat) : (s.bumpFsq f c).sqs = s.sqs := by unfold State.bumpFsq; simp only; (repeat' split) <;> simp
@[simp] theorem State.bumpFsq_cqs (s : State) (f : Field) (c : Nat) : (s.bumpFsq f c).cqs = s.cqs := by unfold State.bumpFsq; simp only; (repeat' split) <;> simp
@[simp] theorem State.bumpFsq_ctxs (s : State) (f : Field) (c : Nat) : (s.bumpFsq f c).ctxs = s.ctxs := by unfold State.bumpFsq; simp only; (repeat' split) <;> simp
@[simp] theorem State.bumpFsq_nextCtx (s : State) (f : Field) (c : Nat) : (s.bumpFsq f c).nextCtx = s.nextCtx := by unfold State.bumpFsq; simp only; (repeat' split) <;> simp
@[simp] theorem State.bumpFsq_doneQ (s : State) (f : Field) (c : Nat) : (s.bumpFsq f c).doneQ = s.doneQ := by unfold State.bumpFsq; simp only; (repeat' split) <;> simp
@[simp] theorem State.bumpFsq_ns (s : State) (f : Field) (c : Nat) : (s.bumpFsq f c).ns = s.ns := by unfold State.bumpFsq; simp only; (repeat' split) <;> simp
@[simp] theorem State.bumpFsq_late (s : State) (f : Field) (c : Nat) : (s.bumpFsq f c).late = s.late := by unfold State.bumpFsq; simp only; (repeat' split) <;> simp
@[simp] theorem State.bumpFsq_lateTotal (s : State) (f : Field) (c : Nat) : (s.bumpFsq f c).lateTotal = s.lateTotal := by unfold State.bumpFsq; simp only; (repeat' split) <;> simp
@[simp] theorem State.bumpFsq_resets (s : State) (f : Field) (c : Nat) : (s.bumpFsq f c).resets = s.resets := by unfold State.bumpFsq; simp only; (repeat' split) <;> simp
@[simp] theorem State.bumpFsq_zn (s : State) (f : Field) (c : Nat) : (s.bumpFsq f c).zn = s.zn := by unfold State.bumpFsq; simp only; (repeat' split) <;> simp
@[simp] theorem State.bumpFsq_wpt (s : State) (f : Field) (c : Nat) : (s.bumpFsq f c).wpt = s.wpt := by unfold State.bumpFsq; simp only; (repeat' split) <;> simp
@[simp] theorem State.bumpFsq_wc (s : State) (f : Field) (c : Nat) : (s.bumpFsq f c).wc = s.wc := by unfold State.bumpFsq; simp only; (repeat' split) <;> simp
@[simp] theorem State.bumpFsq_pool (s : State) (f : Field) (c : Nat) : (s.bumpFsq f c).pool = s.pool := by unfold State.bumpFsq; simp only; (repeat' split) <;> simp
@[simp] theorem State.bumpFsq_fl (s : State) (f : Field) (c : Nat) : (s.bumpFsq f c).fl = s.fl := by unfold State.bumpFsq; simp only; (repeat' split) <;> simp
@[simp] theorem State.bumpFsq_sd (s : State) (f : Field) (c : Nat) : (s.bumpFsq f c).sd = s.sd := by unfold State.bumpFsq; simp only; (repeat' split) <;> simp
@[simp] theorem State.bumpFsq_cd (s : State) (f : Field) (c : Nat) : (s.bumpFsq f c).cd = s.cd := by unfold State.bumpFsq; simp only; (repeat' split) <;> simp
@[simp] theorem State.bumpFsq_xl (s : State) (f : Field) (c : Nat) : (s.bumpFsq f c).xl = s.xl := by unfold State.bumpFsq; simp only; (repeat' split) <;> simp
@[simp] theorem State.bumpFsq_fc (s : State) (f : Field) (c : Nat) : (s.bumpFsq f c).fc = s.fc := by unfold State.bumpFsq; simp only; (repeat' split) <;> simp
@[simp] theorem State.bumpFsq_ms (s : State) (f : Field) (c : Nat) : (s.bumpFsq f c).ms = s.ms := by unfold State.bumpFsq; simp only; (repeat' split) <;> simp
@[simp] theorem State.bumpFsq_th (s : State) (f : Field) (c : Nat) : (s.bumpFsq f c).th = s.th := by unfold State.bumpFsq; simp only; (repeat' split) <;> simp
@[simp] theorem State.bumpFsq_hu (s : State) (f : Field) (c : Nat) : (s.bumpFsq f c).hu = s.hu := by unfold State.bumpFsq; simp only; (repeat' split) <;> simp
@[simp] theorem State.bumpFsq_pw (s : State) (f : Field) (c : Nat) : (s.bumpFsq f c).pw = s.pw := by unfold State.bumpFsq; simp only; (repeat' split) <;> simp
@[simp] theorem State.bumpFsq_md (s : State) (f : Field) (c : Nat) : (s.bumpFsq f c).md = s.md := by unfold State.bumpFsq; simp only; (repeat' split) <;> simp
@[simp] theorem State.bumpFsq_mm (s : State) (f : Field) (c : Nat) : (s.bumpFsq f c).mm = s.mm := by unfold State.bumpFsq; simp only; (repeat' split) <;> simp
@[simp] theorem State.bumpFsq_mg (s : State) (f : Field) (c : Nat) : (s.bumpFsq f c).mg = s.mg := by unfold State.bumpFsq; simp only; (repeat' split) <;> simp
@[simp] theorem State.bumpFsq_fb (s : State) (f : Field) (c : Nat) : (s.bumpFsq f c).fb = s.fb := by unfold State.bumpFsq; simp only; (repeat' split) <;> simp
@[simp] theorem State.bumpFsq_fw (s : State) (f : Field) (c : Nat) : (s.bumpFsq f c).fw = s.fw := by unfold State.bumpFsq; simp only; (repeat' split) <;> simp
@[simp] theorem State.bumpFsq_pins (s : State) (f : Field) (c : Nat) : (s.bumpFsq f c).pins = s.pins := by unfold State.bumpFsq; simp only; (repeat' split) <;> simp
@[simp] theorem State.bumpFsq_tp (s : State) (f : Field) (c : Nat) : (s.bumpFsq f c).tp = s.tp := by unfold State.bumpFsq; simp only; (repeat' split) <;> simp
@[simp] theorem State.bumpFsq_pending (s : State) (f : Field) (c : Nat) : (s.bumpFsq f c).pending = s.pending := by unfold State.bumpFsq; simp only; (repeat' split) <;> simp

@[simp] theorem State.bumpSdf_now (s : State) (f : Field) (c : Nat) : (s.bumpSdf f c).now = s.now := by unfold State.bumpSdf; simp only; (repeat' split) <;> simp
@[simp] theorem State.bumpSdf_unbound (s : State) (f : Field) (c : Nat) : (s.bumpSdf f c).unbound = s.unbound := by unfold State.bumpSdf; simp only; (repeat' split) <;> simp
@[simp] theorem State.bumpSdf_freeCtr (s : State) (f : Field) (c : Nat) : (s.bumpSdf f c).freeCtr = s.freeCtr := by unfold State.bumpSdf; simp only; (repeat' split) <;> simp
@[simp] theorem State.bumpSdf_out (s : State) (f : Field) (c : Nat) : (s.bumpSdf f c).out = s.out := by unfold State.bumpSdf; simp only; (repeat' split) <;> simp
@[simp] theorem State.bumpSdf_port0 (s : State) (f : Field) (c : Nat) : (s.bumpSdf f c).port0 = s.port0 := by unfold State.bumpSdf; simp only; (repeat' split) <;> simp
@[simp] theorem State.bumpSdf_port1 (s : State) (f : Field) (c : Nat) : (s.bumpSdf f c).port1 = s.port1 := by unfold State.bumpSdf; simp only; (repeat' split) <;> simp
@[simp] theorem State.bumpSdf_sqs (s : State) (f : Field) (c : Nat) : (s.bumpSdf f c).sqs = s.sqs := by unfold State.bumpSdf; simp only; (repeat' split) <;> simp
@[simp] theorem State.bumpSdf_cqs (s : State) (f : Field) (c : Nat) : (s.bumpSdf f c).cqs = s.cqs := by unfold State.bumpSdf; simp only; (repeat' split) <;> simp
@[simp] theorem State.bumpSdf_ctxs (s : State) (f : Field) (c : Nat) : (s.bumpSdf f c).ctxs = s.ctxs := by unfold State.bumpSdf; simp only; (repeat' split) <;> simp
@[simp] theorem State.bumpSdf_nextCtx (s : State) (f : Field) (c : Nat) : (s.bumpSdf f c).nextCtx = s.nextCtx := by unfold State.bumpSdf; simp only; (repeat' split) <;> simp
@[simp] theorem State.bumpSdf_doneQ (s : State) (f : Field) (c : Nat) : (s.bumpSdf f c).doneQ = s.doneQ := by unfold State.bumpSdf; simp only; (repeat' split) <;> simp
@[simp] theorem State.bumpSdf_ns (s : State) (f : Field) (c : Nat) : (s.bumpSdf f c).ns = s.ns := by unfold State.bumpSdf; simp only; (repeat' split) <;> simp
@[simp] theorem State.bumpSdf_late (s : State) (f : Field) (c : Nat) : (s.bumpSdf f c).late = s.late := by unfold State.bumpSdf; simp only; (repeat' split) <;> simp
@[simp] theorem State.bumpSdf_lateTotal (s : State) (f : Field) (c : Nat) : (s.bumpSdf f c).lateTotal = s.lateTotal := by unfold State.bumpSdf; simp only; (repeat' split) <;> simp
@[simp] theorem State.bumpSdf_resets (s : State) (f : Field) (c : Nat) : (s.bumpSdf f c).resets = s.resets := by unfold State.bumpSdf; simp only; (repeat' split) <;> simp
@[simp] theorem State.bumpSdf_zn (s : State) (f : Field) (c : Nat) : (s.bumpSdf f c).zn = s.zn := by unfold State.bumpSdf; simp only; (repeat' split) <;> simp
@[simp] theorem State.bumpSdf_wpt (s : State) (f : Field) (c : Nat) : (s.bumpSdf f c).wpt = s.wpt := by unfold State.bumpSdf; simp only; (repeat' split) <;> simp
@[simp] theorem State.bumpSdf_wc (s : State) (f : Field) (c : Nat) : (s.bumpSdf f c).wc = s.wc := by unfold State.bumpSdf; simp only; (repeat' split) <;> simp
@[simp] theorem State.bumpSdf_pool (s : State) (f : Field) (c : Nat) : (s.bumpSdf f c).pool = s.pool := by unfold State.bumpSdf; simp only; (repeat' split) <;> simp
@[simp] theorem State.bumpSdf_fl (s : State) (f : Field) (c : Nat) : (s.bumpSdf f c).fl = s.fl := by unfold State.bumpSdf; simp only; (repeat' split) <;> simp
@[simp] theorem State.bumpSdf_sd (s : State) (f : Field) (c : Nat) : (s.bumpSdf f c).sd = s.sd := by unfold State.bumpSdf; simp only; (repeat' split) <;> simp
@[simp] theorem State.bumpSdf_cd (s : State) (f : Field) (c : Nat) : (s.bumpSdf f c).cd = s.cd := by unfold State.bumpSdf; simp only; (repeat' split) <;> simp
@[simp] theorem State.bumpSdf_xl (s : State) (f : Field) (c : Nat) : (s.bumpSdf f c).xl = s.xl := by unfold State.bumpSdf; simp only; (repeat' split) <;> simp
@[simp] theorem State.bumpSdf_fc (s : State) (f : Field) (c : Nat) : (s.bumpSdf f c).fc = s.fc := by unfold State.bumpSdf; simp only; (repeat' split) <;> simp
@[simp] theorem State.bumpSdf_ms (s : State) (f : Field) (c : Nat) : (s.bumpSdf f c).ms = s.ms := by unfold State.bumpSdf; simp only; (repeat' split) <;> simp
@[simp] theorem State.bumpSdf_th (s : State) (f : Field) (c : Nat) : (s.bumpSdf f c).th = s.th := by unfold State.bumpSdf; simp only; (repeat' split) <;> simp
@[simp] theorem State.bumpSdf_hu (s : State) (f : Field) (c : Nat) : (s.bumpSdf f c).hu = s.hu := by unfold State.bumpSdf; simp only; (repeat' split) <;> simp
@[simp] theorem State.bumpSdf_pw (s : State) (f : Field) (c : Nat) : (s.bumpSdf f c).pw = s.pw := by unfold State.bumpSdf; simp only; (repeat' split) <;> simp
@[simp] theorem State.bumpSdf_md (s : State) (f : Field) (c : Nat) : (s.bumpSdf f c).md = s.md := by unfold State.bumpSdf; simp only; (repeat' split) <;> simp
@[simp] theorem State.bumpSdf_mm (s : State) (f : Field) (c : Nat) : (s.bumpSdf f c).mm = s.mm := by unfold State.bumpSdf; simp only; (repeat' split) <;> simp
@[simp] theorem State.bumpSdf_mg (s : State) (f : Field) (c : Nat) : (s.bumpSdf f c).mg = s.mg := by unfold State.bumpSdf; simp only; (repeat' split) <;> simp
@[simp] theorem State.bumpSdf_fb (s : State) (f : Field) (c : Nat) : (s.bumpSdf f c).fb = s.fb := by unfold State.bumpSdf; simp only; (repeat' split) <;> simp
@[simp] theorem State.bumpSdf_fw (s : State) (f : Field) (c : Nat) : (s.bumpSdf f c).fw = s.fw := by unfold State.bumpSdf; simp only; (repeat' split) <;> simp
@[simp] theorem State.bumpSdf_pins (s : State) (f : Field) (c : Nat) : (s.bumpSdf f c).pins = s.pins := by unfold State.bumpSdf; simp only; (repeat' split) <;> simp
@[simp] theorem State.bumpSdf_tp (s : State) (f : Field) (c : Nat) : (s.bumpSdf f c).tp = s.tp := by unfold State.bumpSdf; simp only; (repeat' split) <;> simp
@[simp] theorem State.bumpSdf_pending (s : State) (f : Field) (c : Nat) : (s.bumpSdf f c).pending = s.pending := by unfold State.bumpSdf; simp only; (repeat' split) <;> simp

@[simp] theorem State.xltSaturated_now (s : State) : (s.xltSaturated).now = s.now := by unfold State.xltSaturated; split <;> simp
@[simp] theorem State.xltSaturated_unbound (s : State) : (s.xltSaturated).unbound = s.unbound := by unfold State.xltSaturated; split <;> simp
@[simp] theorem State.xltSaturated_freeCtr (s : State) : (s.xltSaturated).freeCtr = s.freeCtr := by unfold State.xltSaturated; split <;> simp
@[simp] theorem State.xltSaturated_out (s : State) : (s.xltSaturated).out = s.out := by unfold State.xltSaturated; split <;> simp
@[simp] theorem State.xltSaturated_port0 (s : State) : (s.xltSaturated).port0 = s.port0 := by unfold State.xltSaturated; split <;> simp
@[simp] theorem State.xltSaturated_port1 (s : State) : (s.xltSaturated).port1 = s.port1 := by unfold State.xltSaturated; split <;> simp
@[simp] theorem State.xltSaturated_sqs (s : State) : (s.xltSaturated).sqs = s.sqs := by unfold State.xltSaturated; split <;> simp
@[simp] theorem State.xltSaturated_cqs (s : State) : (s.xltSaturated).cqs = s.cqs := by unfold State.xltSaturated; split <;> simp
@[simp] theorem State.xltSaturated_ctxs (s : State) : (s.xltSaturated).ctxs = s.ctxs := by unfold State.xltSaturated; split <;> simp
@[simp] theorem State.xltSaturated_nextCtx (s : State) : (s.xltSaturated).nextCtx = s.nextCtx := by unfold State.xltSaturated; split <;> simp
@[simp] theorem State.xltSaturated_doneQ (s : State) : (s.xltSaturated).doneQ = s.doneQ := by unfold State.xltSaturated; split <;> simp
@[simp] theorem State.xltSaturated_ns (s : State) : (s.xltSaturated).ns = s.ns := by unfold State.xltSaturated; split <;> simp
@[simp] theorem State.xltSaturated_late (s : State) : (s.xltSaturated).late = s.late := by unfold State.xltSaturated; split <;> simp
@[simp] theorem State.xltSaturated_lateTotal (s : State) : (s.xltSaturated).lateTotal = s.lateTotal := by unfold State.xltSaturated; split <;> simp
@[simp] theorem State.xltSaturated_resets (s : State) : (s.xltSaturated).resets = s.resets := by unfold State.xltSaturated; split <;> simp
@[simp] theorem State.xltSaturated_zn (s : State) : (s.xltSaturated).zn = s.zn := by unfold State.xltSaturated; split <;> simp
@[simp] theorem State.xltSaturated_wpt (s : State) : (s.xltSaturated).wpt = s.wpt := by unfold State.xltSaturated; split <;> simp
@[simp] theorem State.xltSaturated_wc (s : State) : (s.xltSaturated).wc = s.wc := by unfold State.xltSaturated; split <;> simp
@[simp] theorem State.xltSaturated_pool (s : State) : (s.xltSaturated).pool = s.pool := by unfold State.xltSaturated; split <;> simp
@[simp] theorem State.xltSaturated_fl (s : State) : (s.xltSaturated).fl = s.fl := by unfold State.xltSaturated; split <;> simp
@[simp] theorem State.xltSaturated_sd (s : State) : (s.xltSaturated).sd = s.sd := by unfold State.xltSaturated; split <;> simp
@[simp] theorem State.xltSaturated_cd (s : State) : (s.xltSaturated).cd = s.cd := by unfold State.xltSaturated; split <;> simp
@[simp] theorem State.xltSaturated_xl (s : State) : (s.xltSaturated).xl = s.xl := by unfold State.xltSaturated; split <;> simp
@[simp] theorem State.xltSaturated_fc (s : State) : (s.xltSaturated).fc = s.fc := by unfold State.xltSaturated; split <;> simp
@[simp] theorem State.xltSaturated_ms (s : State) : (s.xltSaturated).ms = s.ms := by unfold State.xltSaturated; split <;> simp
@[simp] theorem State.xltSaturated_th (s : State) : (s.xltSaturated).th = s.th := by unfold State.xltSaturated; split <;> simp
@[simp] theorem State.xltSaturated_hu (s : State) : (s.xltSaturated).hu = s.hu := by unfold State.xltSaturated; split <;> simp
@[simp] theorem State.xltSaturated_pw (s : State) : (s.xltSaturated).pw = s.pw := by unfold State.xltSaturated; split <;> simp
@[simp] theorem State.xltSaturated_md (s : State) : (s.xltSaturated).md = s.md := by unfold State.xltSaturated; split <;> simp
@[simp] theorem State.xltSaturated_mm (s : State) : (s.xltSaturated).mm = s.mm := by unfold State.xltSaturated; split <;> simp
@[simp] theorem State.xltSaturated_mg (s : State) : (s.xltSaturated).mg = s.mg := by unfold State.xltSaturated; split <;> simp
@[simp] theorem State.xltSaturated_fb (s : State) : (s.xltSaturated).fb = s.fb := by unfold State.xltSaturated; split <;> simp
@[simp] theorem State.xltSaturated_fw (s : State) : (s.xltSaturated).fw = s.fw := by unfold State.xltSaturated; split <;> simp
@[simp] theorem State.xltSaturated_pins (s : State) : (s.xltSaturated).pins = s.pins := by unfold State.xltSaturated; split <;> simp
@[simp] theorem State.xltSaturated_tp (s : State) : (s.xltSaturated).tp = s.tp := by unfold State.xltSaturated; split <;> simp
@[simp] theorem State.xltSaturated_pending (s : State) : (s.xltSaturated).pending = s.pending := by unfold State.xltSaturated; split <;> simp

@[simp] theorem State.bumpXlt_now (s : State) (f : Field) (n : Nat) : (s.bumpXlt f n).now = s.now := by unfold State.bumpXlt; simp only; split <;> simp
@[simp] theorem State.bumpXlt_unbound (s : State) (f : Field) (n : Nat) : (s.bumpXlt f n).unbound = s.unbound := by unfold State.bumpXlt; simp only; split <;> simp
@[simp] theorem State.bumpXlt_freeCtr (s : State) (f : Field) (n : Nat) : (s.bumpXlt f n).freeCtr = s.freeCtr := by unfold State.bumpXlt; simp only; split <;> simp
@[simp] theorem State.bumpXlt_out (s : State) (f : Field) (n : Nat) : (s.bumpXlt f n).out = s.out := by unfold State.bumpXlt; simp only; split <;> simp
@[simp] theorem State.bumpXlt_port0 (s : State) (f : Field) (n : Nat) : (s.bumpXlt f n).port0 = s.port0 := by unfold State.bumpXlt; simp only; split <;> simp
@[simp] theorem State.bumpXlt_port1 (s : State) (f : Field) (n : Nat) : (s.bumpXlt f n).port1 = s.port1 := by unfold State.bumpXlt; simp only; split <;> simp
@[simp] theorem State.bumpXlt_sqs (s : State) (f : Field) (n : Nat) : (s.bumpXlt f n).sqs = s.sqs := by unfold State.bumpXlt; simp only; split <;> simp
@[simp] theorem State.bumpXlt_cqs (s : State) (f : Field) (n : Nat) : (s.bumpXlt f n).cqs = s.cqs := by unfold State.bumpXlt; simp only; split <;> simp
@[simp] theorem State.bumpXlt_ctxs (s : State) (f : Field) (n : Nat) : (s.bumpXlt f n).ctxs = s.ctxs := by unfold State.bumpXlt; simp only; split <;> simp
@[simp] theorem State.bumpXlt_nextCtx (s : State) (f : Field) (n : Nat) : (s.bumpXlt f n).nextCtx = s.nextCtx := by unfold State.bumpXlt; simp only; split <;> simp
@[simp] theorem State.bumpXlt_doneQ (s : State) (f : Field) (n : Nat) : (s.bumpXlt f n).doneQ = s.doneQ := by unfold State.bumpXlt; simp only; split <;> simp
@[simp] theorem State.bumpXlt_ns (s : State) (f : Field) (n : Nat) : (s.bumpXlt f n).ns = s.ns := by unfold State.bumpXlt; simp only; split <;> simp
@[simp] theorem State.bumpXlt_late (s : State) (f : Field) (n : Nat) : (s.bumpXlt f n).late = s.late := by unfold State.bumpXlt; simp only; split <;> simp
@[simp] theorem State.bumpXlt_lateTotal (s : State) (f : Field) (n : Nat) : (s.bumpXlt f n).lateTotal = s.lateTotal := by unfold State.bumpXlt; simp only; split <;> simp
@[simp] theorem State.bumpXlt_resets (s : State) (f : Field) (n : Nat) : (s.bumpXlt f n).resets = s.resets := by unfold State.bumpXlt; simp only; split <;> simp
@[simp] theorem State.bumpXlt_zn (s : State) (f : Field) (n : Nat) : (s.bumpXlt f n).zn = s.zn := by unfold State.bumpXlt; simp only; split <;> simp
@[simp] theorem State.bumpXlt_wpt (s : State) (f : Field) (n : Nat) : (s.bumpXlt f n).wpt = s.wpt := by unfold State.bumpXlt; simp only; split <;> simp
@[simp] theorem State.bumpXlt_wc (s : State) (f : Field) (n : Nat) : (s.bumpXlt f n).wc = s.wc := by unfold State.bumpXlt; simp only; split <;> simp
@[simp] theorem State.bumpXlt_pool (s : State) (f : Field) (n : Nat) : (s.bumpXlt f n).pool = s.pool := by unfold State.bumpXlt; simp only; split <;> simp
@[simp] theorem State.bumpXlt_fl (s : State) (f : Field) (n : Nat) : (s.bumpXlt f n).fl = s.fl := by unfold State.bumpXlt; simp only; split <;> simp
@[simp] theorem State.bumpXlt_sd (s : State) (f : Field) (n : Nat) : (s.bumpXlt f n).sd = s.sd := by unfold State.bumpXlt; simp only; split <;> simp
@[simp] theorem State.bumpXlt_cd (s : State) (f : Field) (n : Nat) : (s.bumpXlt f n).cd = s.cd := by unfold State.bumpXlt; simp only; split <;> simp
@[simp] theorem State.bumpXlt_xl (s : State) (f : Field) (n : Nat) : (s.bumpXlt f n).xl = s.xl := by unfold State.bumpXlt; simp only; split <;> simp
@[simp] theorem State.bumpXlt_fc (s : State) (f : Field) (n : Nat) : (s.bumpXlt f n).fc = s.fc := by unfold State.bumpXlt; simp only; split <;> simp
@[simp] theorem State.bumpXlt_ms (s : State) (f : Field) (n : Nat) : (s.bumpXlt f n).ms = s.ms := by unfold State.bumpXlt; simp only; split <;> simp
@[simp] theorem State.bumpXlt_th (s : State) (f : Field) (n : Nat) : (s.bumpXlt f n).th = s.th := by unfold State.bumpXlt; simp only; split <;> simp
@[simp] theorem State.bumpXlt_hu (s : State) (f : Field) (n : Nat) : (s.bumpXlt f n).hu = s.hu := by unfold State.bumpXlt; simp only; split <;> simp
@[simp] theorem State.bumpXlt_pw (s : State) (f : Field) (n : Nat) : (s.bumpXlt f n).pw = s.pw := by unfold State.bumpXlt; simp only; split <;> simp
@[simp] theorem State.bumpXlt_md (s : State) (f : Field) (n : Nat) : (s.bumpXlt f n).md = s.md := by unfold State.bumpXlt; simp only; split <;> simp
@[simp] theorem State.bumpXlt_mm (s : State) (f : Field) (n : Nat) : (s.bumpXlt f n).mm = s.mm := by unfold State.bumpXlt; simp only; split <;> simp
@[simp] theorem State.bumpXlt_mg (s : State) (f : Field) (n : Nat) : (s.bumpXlt f n).mg = s.mg := by unfold State.bumpXlt; simp only; split <;> simp
@[simp] theorem State.bumpXlt_fb (s : State) (f : Field) (n : Nat) : (s.bumpXlt f n).fb = s.fb := by unfold State.bumpXlt; simp only; split <;> simp
@[simp] theorem State.bumpXlt_fw (s : State) (f : Field) (n : Nat) : (s.bumpXlt f n).fw = s.fw := by unfold State.bumpXlt; simp only; split <;> simp
@[simp] theorem State.bumpXlt_pins (s : State) (f : Field) (n : Nat) : (s.bumpXlt f n).pins = s.pins := by unfold State.bumpXlt; simp only; split <;> simp
@[simp] theorem State.bumpXlt_tp (s : State) (f : Field) (n : Nat) : (s.bumpXlt f n).tp = s.tp := by unfold State.bumpXlt; simp only; split <;> simp
@[simp] theorem State.bumpXlt_pending (s : State) (f : Field) (n : Nat) : (s.bumpXlt f n).pending = s.pending := by unfold State.bumpXlt; simp only; split <;> simp

@[simp] theorem State.bumpPsc_now (s : State) (f : Field) (n : Nat) : (s.bumpPsc f n).now = s.now := by unfold State.bumpPsc; simp only; (repeat' split) <;> simp
@[simp] theorem State.bumpPsc_unbound (s : State) (f : Field) (n : Nat) : (s.bumpPsc f n).unbound = s.unbound := by unfold State.bumpPsc; simp only; (repeat' split) <;> simp
@[simp] theorem State.bumpPsc_freeCtr (s : State) (f : Field) (n : Nat) : (s.bumpPsc f n).freeCtr = s.freeCtr := by unfold State.bumpPsc; simp only; (repeat' split) <;> simp
@[simp] theorem State.bumpPsc_out (s : State) (f : Field) (n : Nat) : (s.bumpPsc f n).out = s.out := by unfold State.bumpPsc; simp only; (repeat' split) <;> simp
@[simp] theorem State.bumpPsc_port0 (s : State) (f : Field) (n : Nat) : (s.bumpPsc f n).port0 = s.port0 := by unfold State.bumpPsc; simp only; (repeat' split) <;> simp
@[simp] theorem State.bumpPsc_port1 (s : State) (f : Field) (n : Nat) : (s.bumpPsc f n).port1 = s.port1 := by unfold State.bumpPsc; simp only; (repeat' split) <;> simp
@[simp] theorem State.bumpPsc_sqs (s : State) (f : Field) (n : Nat) : (s.bumpPsc f n).sqs = s.sqs := by unfold State.bumpPsc; simp only; (repeat' split) <;> simp
@[simp] theorem State.bumpPsc_cqs (s : State) (f : Field) (n : Nat) : (s.bumpPsc f n).cqs = s.cqs := by unfold State.bumpPsc; simp only; (repeat' split) <;> simp
@[simp] theorem State.bumpPsc_ctxs (s : State) (f : Field) (n : Nat) : (s.bumpPsc f n).ctxs = s.ctxs := by unfold State.bumpPsc; simp only; (repeat' split) <;> simp
@[simp] theorem State.bumpPsc_nextCtx (s : State) (f : Field) (n : Nat) : (s.bumpPsc f n).nextCtx = s.nextCtx := by unfold State.bumpPsc; simp only; (repeat' split) <;> simp
@[simp] theorem State.bumpPsc_doneQ (s : State) (f : Field) (n : Nat) : (s.bumpPsc f n).doneQ = s.doneQ := by unfold State.bumpPsc; simp only; (repeat' split) <;> simp
@[simp] theorem State.bumpPsc_ns (s : State) (f : Field) (n : Nat) : (s.bumpPsc f n).ns = s.ns := by unfold State.bumpPsc; simp only; (repeat' split) <;> simp
@[simp] theorem State.bumpPsc_late (s : State) (f : Field) (n : Nat) : (s.bumpPsc f n).late = s.late := by unfold State.bumpPsc; simp only; (repeat' split) <;> simp
@[simp] theorem State.bumpPsc_lateTotal (s : State) (f : Field) (n : Nat) : (s.bumpPsc f n).lateTotal = s.lateTotal := by unfold State.bumpPsc; simp only; (repeat' split) <;> simp
@[simp] theorem State.bumpPsc_resets (s : State) (f : Field) (n : Nat) : (s.bumpPsc f n).resets = s.resets := by unfold State.bumpPsc; simp only; (repeat' split) <;> simp
@[simp] theorem State.bumpPsc_zn (s : State) (f : Field) (n : Nat) : (s.bumpPsc f n).zn = s.zn := by unfold State.bumpPsc; simp only; (repeat' split) <;> simp
@[simp] theorem State.bumpPsc_wpt (s : State) (f : Field) (n : Nat) : (s.bumpPsc f n).wpt = s.wpt := by unfold State.bumpPsc; simp only; (repeat' split) <;> simp
@[simp] theorem State.bumpPsc_wc (s : State) (f : Field) (n : Nat) : (s.bumpPsc f n).wc = s.wc := by unfold State.bumpPsc; simp only; (repeat' split) <;> simp
@[simp] theorem State.bumpPsc_pool (s : State) (f : Field) (n : Nat) : (s.bumpPsc f n).pool = s.pool := by unfold State.bumpPsc; simp only; (repeat' split) <;> simp
@[simp] theorem State.bumpPsc_fl (s : State) (f : Field) (n : Nat) : (s.bumpPsc f n).fl = s.fl := by unfold State.bumpPsc; simp only; (repeat' split) <;> simp
@[simp] theorem State.bumpPsc_sd (s : State) (f : Field) (n : Nat) : (s.bumpPsc f n).sd = s.sd := by unfold State.bumpPsc; simp only; (repeat' split) <;> simp
@[simp] theorem State.bumpPsc_cd (s : State) (f : Field) (n : Nat) : (s.bumpPsc f n).cd = s.cd := by unfold State.bumpPsc; simp only; (repeat' split) <;> simp
@[simp] theorem State.bumpPsc_xl (s : State) (f : Field) (n : Nat) : (s.bumpPsc f n).xl = s.xl := by unfold State.bumpPsc; simp only; (repeat' split) <;> simp
@[simp] theorem State.bumpPsc_fc (s : State) (f : Field) (n : Nat) : (s.bumpPsc f n).fc = s.fc := by unfold State.bumpPsc; simp only; (repeat' split) <;> simp
@[simp] theorem State.bumpPsc_ms (s : State) (f : Field) (n : Nat) : (s.bumpPsc f n).ms = s.ms := by unfold State.bumpPsc; simp only; (repeat' split) <;> simp
@[simp] theorem State.bumpPsc_th (s : State) (f : Field) (n : Nat) : (s.bumpPsc f n).th = s.th := by unfold State.bumpPsc; simp only; (repeat' split) <;> simp
@[simp] theorem State.bumpPsc_hu (s : State) (f : Field) (n : Nat) : (s.bumpPsc f n).hu = s.hu := by unfold State.bumpPsc; simp only; (repeat' split) <;> simp
@[simp] theorem State.bumpPsc_pw (s : State) (f : Field) (n : Nat) : (s.bumpPsc f n).pw = s.pw := by unfold State.bumpPsc; simp only; (repeat' split) <;> simp
@[simp] theorem State.bumpPsc_md (s : State) (f : Field) (n : Nat) : (s.bumpPsc f n).md = s.md := by unfold State.bumpPsc; simp only; (repeat' split) <;> simp
@[simp] theorem State.bumpPsc_mm (s : State) (f : Field) (n : Nat) : (s.bumpPsc f n).mm = s.mm := by unfold State.bumpPsc; simp only; (repeat' split) <;> simp
@[simp] theorem State.bumpPsc_mg (s : State) (f : Field) (n : Nat) : (s.bumpPsc f n).mg = s.mg := by unfold State.bumpPsc; simp only; (repeat' split) <;> simp
@[simp] theorem State.bumpPsc_fb (s : State) (f : Field) (n : Nat) : (s.bumpPsc f n).fb = s.fb := by unfold State.bumpPsc; simp only; (repeat' split) <;> simp
@[simp] theorem State.bumpPsc_fw (s : State) (f : Field) (n : Nat) : (s.bumpPsc f n).fw = s.fw := by unfold State.bumpPsc; simp only; (repeat' split) <;> simp
@[simp] theorem State.bumpPsc_pins (s : State) (f : Field) (n : Nat) : (s.bumpPsc f n).pins = s.pins := by unfold State.bumpPsc; simp only; (repeat' split) <;> simp
@[simp] theorem State.bumpPsc_tp (s : State) (f : Field) (n : Nat) : (s.bumpPsc f n).tp = s.tp := by unfold State.bumpPsc; simp only; (repeat' split) <;> simp
@[simp] theorem State.bumpPsc_pending (s : State) (f : Field) (n : Nat) : (s.bumpPsc f n).pending = s.pending := by unfold State.bumpPsc; simp only; (repeat' split) <;> simp

@[simp] theorem State.clearCounters_now (s : State) (b : CntBlock) (l : List Nat) (o : Nat) : (s.clearCounters b l o).now = s.now := by
  unfold State.clearCounters
  simp only [State.rearm_now]
  exact State.each_keeps (·.now) _ (fun _ s => State.each_keeps (·.now) _ (fun _ s => by simp) _ s) _ s
@[simp] theorem State.clearCounters_unbound (s : State) (b : CntBlock) (l : List Nat) (o : Nat) : (s.clearCounters b l o).unbound = s.unbound := by
  unfold State.clearCounters
  simp only [State.rearm_unbound]
  exact State.each_keeps (·.unbound) _ (fun _ s => State.each_keeps (·.unbound) _ (fun _ s => by simp) _ s) _ s
@[simp] theorem State.clearCounters_freeCtr (s : State) (b : CntBlock) (l : List Nat) (o : Nat) : (s.clearCounters b l o).freeCtr = s.freeCtr := by
  unfold State.clearCounters
  simp only [State.rearm_freeCtr]
  exact State.each_keeps (·.freeCtr) _ (fun _ s => State.each_keeps (·.freeCtr) _ (fun _ s => by simp) _ s) _ s
@[simp] theorem State.clearCounters_out (s : State) (b : CntBlock) (l : List Nat) (o : Nat) : (s.clearCounters b l o).out = s.out := by
  unfold State.clearCounters
  simp only [State.rearm_out]
  exact State.each_keeps (·.out) _ (fun _ s => State.each_keeps (·.out) _ (fun _ s => by simp) _ s) _ s
@[simp] theorem State.clearCounters_port0 (s : State) (b : CntBlock) (l : List Nat) (o : Nat) : (s.clearCounters b l o).port0 = s.port0 := by
  unfold State.clearCounters
  simp only [State.rearm_port0]
  exact State.each_keeps (·.port0) _ (fun _ s => State.each_keeps (·.port0) _ (fun _ s => by simp) _ s) _ s
@[simp] theorem State.clearCounters_port1 (s : State) (b : CntBlock) (l : List Nat) (o : Nat) : (s.clearCounters b l o).port1 = s.port1 := by
  unfold State.clearCounters
  simp only [State.rearm_port1]
  exact State.each_keeps (·.port1) _ (fun _ s => State.each_keeps (·.port1) _ (fun _ s => by simp) _ s) _ s
@[simp] theorem State.clearCounters_sqs (s : State) (b : CntBlock) (l : List Nat) (o : Nat) : (s.clearCounters b l o).sqs = s.sqs := by
  unfold State.clearCounters
  simp only [State.rearm_sqs]
  exact State.each_keeps (·.sqs) _ (fun _ s => State.each_keeps (·.sqs) _ (fun _ s => by simp) _ s) _ s
@[simp] theorem State.clearCounters_cqs (s : State) (b : CntBlock) (l : List Nat) (o : Nat) : (s.clearCounters b l o).cqs = s.cqs := by
  unfold State.clearCounters
  simp only [State.rearm_cqs]
  exact State.each_keeps (·.cqs) _ (fun _ s => State.each_keeps (·.cqs) _ (fun _ s => by simp) _ s) _ s
@[simp] theorem State.clearCounters_ctxs (s : State) (b : CntBlock) (l : List Nat) (o : Nat) : (s.clearCounters b l o).ctxs = s.ctxs := by
  unfold State.clearCounters
  simp only [State.rearm_ctxs]
  exact State.each_keeps (·.ctxs) _ (fun _ s => State.each_keeps (·.ctxs) _ (fun _ s => by simp) _ s) _ s
@[simp] theorem State.clearCounters_nextCtx (s : State) (b : CntBlock) (l : List Nat) (o : Nat) : (s.clearCounters b l o).nextCtx = s.nextCtx := by
  unfold State.clearCounters
  simp only [State.rearm_nextCtx]
  exact State.each_keeps (·.nextCtx) _ (fun _ s => State.each_keeps (·.nextCtx) _ (fun _ s => by simp) _ s) _ s
@[simp] theorem State.clearCounters_doneQ (s : State) (b : CntBlock) (l : List Nat) (o : Nat) : (s.clearCounters b l o).doneQ = s.doneQ := by
  unfold State.clearCounters
  simp only [State.rearm_doneQ]
  exact State.each_keeps (·.doneQ) _ (fun _ s => State.each_keeps (·.doneQ) _ (fun _ s => by simp) _ s) _ s
@[simp] theorem State.clearCounters_ns (s : State) (b : CntBlock) (l : List Nat) (o : Nat) : (s.clearCounters b l o).ns = s.ns := by
  unfold State.clearCounters
  simp only [State.rearm_ns]
  exact State.each_keeps (·.ns) _ (fun _ s => State.each_keeps (·.ns) _ (fun _ s => by simp) _ s) _ s
@[simp] theorem State.clearCounters_late (s : State) (b : CntBlock) (l : List Nat) (o : Nat) : (s.clearCounters b l o).late = s.late := by
  unfold State.clearCounters
  simp only [State.rearm_late]
  exact State.each_keeps (·.late) _ (fun _ s => State.each_keeps (·.late) _ (fun _ s => by simp) _ s) _ s
@[simp] theorem State.clearCounters_lateTotal (s : State) (b : CntBlock) (l : List Nat) (o : Nat) : (s.clearCounters b l o).lateTotal = s.lateTotal := by
  unfold State.clearCounters
  simp only [State.rearm_lateTotal]
  exact State.each_keeps (·.lateTotal) _ (fun _ s => State.each_keeps (·.lateTotal) _ (fun _ s => by simp) _ s) _ s
@[simp] theorem State.clearCounters_resets (s : State) (b : CntBlock) (l : List Nat) (o : Nat) : (s.clearCounters b l o).resets = s.resets := by
  unfold State.clearCounters
  simp only [State.rearm_resets]
  exact State.each_keeps (·.resets) _ (fun _ s => State.each_keeps (·.resets) _ (fun _ s => by simp) _ s) _ s
@[simp] theorem State.clearCounters_zn (s : State) (b : CntBlock) (l : List Nat) (o : Nat) : (s.clearCounters b l o).zn = s.zn := by
  unfold State.clearCounters
  simp only [State.rearm_zn]
  exact State.each_keeps (·.zn) _ (fun _ s => State.each_keeps (·.zn) _ (fun _ s => by simp) _ s) _ s
@[simp] theorem State.clearCounters_wpt (s : State) (b : CntBlock) (l : List Nat) (o : Nat) : (s.clearCounters b l o).wpt = s.wpt := by
  unfold State.clearCounters
  simp only [State.rearm_wpt]
  exact State.each_keeps (·.wpt) _ (fun _ s => State.each_keeps (·.wpt) _ (fun _ s => by simp) _ s) _ s
@[simp] theorem State.clearCounters_wc (s : State) (b : CntBlock) (l : List Nat) (o : Nat) : (s.clearCounters b l o).wc = s.wc := by
  unfold State.clearCounters
  simp only [State.rearm_wc]
  exact State.each_keeps (·.wc) _ (fun _ s => State.each_keeps (·.wc) _ (fun _ s => by simp) _ s) _ s
@[simp] theorem State.clearCounters_pool (s : State) (b : CntBlock) (l : List Nat) (o : Nat) : (s.clearCounters b l o).pool = s.pool := by
  unfold State.clearCounters
  simp only [State.rearm_pool]
  exact State.each_keeps (·.pool) _ (fun _ s => State.each_keeps (·.pool) _ (fun _ s => by simp) _ s) _ s
@[simp] theorem State.clearCounters_fl (s : State) (b : CntBlock) (l : List Nat) (o : Nat) : (s.clearCounters b l o).fl = s.fl := by
  unfold State.clearCounters
  simp only [State.rearm_fl]
  exact State.each_keeps (·.fl) _ (fun _ s => State.each_keeps (·.fl) _ (fun _ s => by simp) _ s) _ s
@[simp] theorem State.clearCounters_sd (s : State) (b : CntBlock) (l : List Nat) (o : Nat) : (s.clearCounters b l o).sd = s.sd := by
  unfold State.clearCounters
  simp only [State.rearm_sd]
  exact State.each_keeps (·.sd) _ (fun _ s => State.each_keeps (·.sd) _ (fun _ s => by simp) _ s) _ s
@[simp] theorem State.clearCounters_cd (s : State) (b : CntBlock) (l : List Nat) (o : Nat) : (s.clearCounters b l o).cd = s.cd := by
  unfold State.clearCounters
  simp only [State.rearm_cd]
  exact State.each_keeps (·.cd) _ (fun _ s => State.each_keeps (·.cd) _ (fun _ s => by simp) _ s) _ s
@[simp] theorem State.clearCounters_xl (s : State) (b : CntBlock) (l : List Nat) (o : Nat) : (s.clearCounters b l o).xl = s.xl := by
  unfold State.clearCounters
  simp only [State.rearm_xl]
  exact State.each_keeps (·.xl) _ (fun _ s => State.each_keeps (·.xl) _ (fun _ s => by simp) _ s) _ s
@[simp] theorem State.clearCounters_fc (s : State) (b : CntBlock) (l : List Nat) (o : Nat) : (s.clearCounters b l o).fc = s.fc := by
  unfold State.clearCounters
  simp only [State.rearm_fc]
  exact State.each_keeps (·.fc) _ (fun _ s => State.each_keeps (·.fc) _ (fun _ s => by simp) _ s) _ s
@[simp] theorem State.clearCounters_ms (s : State) (b : CntBlock) (l : List Nat) (o : Nat) : (s.clearCounters b l o).ms = s.ms := by
  unfold State.clearCounters
  simp only [State.rearm_ms]
  exact State.each_keeps (·.ms) _ (fun _ s => State.each_keeps (·.ms) _ (fun _ s => by simp) _ s) _ s
@[simp] theorem State.clearCounters_th (s : State) (b : CntBlock) (l : List Nat) (o : Nat) : (s.clearCounters b l o).th = s.th := by
  unfold State.clearCounters
  simp only [State.rearm_th]
  exact State.each_keeps (·.th) _ (fun _ s => State.each_keeps (·.th) _ (fun _ s => by simp) _ s) _ s
@[simp] theorem State.clearCounters_hu (s : State) (b : CntBlock) (l : List Nat) (o : Nat) : (s.clearCounters b l o).hu = s.hu := by
  unfold State.clearCounters
  simp only [State.rearm_hu]
  exact State.each_keeps (·.hu) _ (fun _ s => State.each_keeps (·.hu) _ (fun _ s => by simp) _ s) _ s
@[simp] theorem State.clearCounters_pw (s : State) (b : CntBlock) (l : List Nat) (o : Nat) : (s.clearCounters b l o).pw = s.pw := by
  unfold State.clearCounters
  simp only [State.rearm_pw]
  exact State.each_keeps (·.pw) _ (fun _ s => State.each_keeps (·.pw) _ (fun _ s => by simp) _ s) _ s
@[simp] theorem State.clearCounters_md (s : State) (b : CntBlock) (l : List Nat) (o : Nat) : (s.clearCounters b l o).md = s.md := by
  unfold State.clearCounters
  simp only [State.rearm_md]
  exact State.each_keeps (·.md) _ (fun _ s => State.each_keeps (·.md) _ (fun _ s => by simp) _ s) _ s
@[simp] theorem State.clearCounters_mm (s : State) (b : CntBlock) (l : List Nat) (o : Nat) : (s.clearCounters b l o).mm = s.mm := by
  unfold State.clearCounters
  simp only [State.rearm_mm]
  exact State.each_keeps (·.mm) _ (fun _ s => State.each_keeps (·.mm) _ (fun _ s => by simp) _ s) _ s
@[simp] theorem State.clearCounters_mg (s : State) (b : CntBlock) (l : List Nat) (o : Nat) : (s.clearCounters b l o).mg = s.mg := by
  unfold State.clearCounters
  simp only [State.rearm_mg]
  exact State.each_keeps (·.mg) _ (fun _ s => State.each_keeps (·.mg) _ (fun _ s => by simp) _ s) _ s
@[simp] theorem State.clearCounters_fb (s : State) (b : CntBlock) (l : List Nat) (o : Nat) : (s.clearCounters b l o).fb = s.fb := by
  unfold State.clearCounters
  simp only [State.rearm_fb]
  exact State.each_keeps (·.fb) _ (fun _ s => State.each_keeps (·.fb) _ (fun _ s => by simp) _ s) _ s
@[simp] theorem State.clearCounters_fw (s : State) (b : CntBlock) (l : List Nat) (o : Nat) : (s.clearCounters b l o).fw = s.fw := by
  unfold State.clearCounters
  simp only [State.rearm_fw]
  exact State.each_keeps (·.fw) _ (fun _ s => State.each_keeps (·.fw) _ (fun _ s => by simp) _ s) _ s
@[simp] theorem State.clearCounters_pins (s : State) (b : CntBlock) (l : List Nat) (o : Nat) : (s.clearCounters b l o).pins = s.pins := by
  unfold State.clearCounters
  simp only [State.rearm_pins]
  exact State.each_keeps (·.pins) _ (fun _ s => State.each_keeps (·.pins) _ (fun _ s => by simp) _ s) _ s
@[simp] theorem State.clearCounters_tp (s : State) (b : CntBlock) (l : List Nat) (o : Nat) : (s.clearCounters b l o).tp = s.tp := by
  unfold State.clearCounters
  simp only [State.rearm_tp]
  exact State.each_keeps (·.tp) _ (fun _ s => State.each_keeps (·.tp) _ (fun _ s => by simp) _ s) _ s
@[simp] theorem State.clearCounters_pending (s : State) (b : CntBlock) (l : List Nat) (o : Nat) : (s.clearCounters b l o).pending = s.pending := by
  unfold State.clearCounters
  simp only [State.rearm_pending]
  exact State.each_keeps (·.pending) _ (fun _ s => State.each_keeps (·.pending) _ (fun _ s => by simp) _ s) _ s

@[simp] theorem State.logRec_now (s : State) (a b c d e f : Nat) : (s.logRec a b c d e f).now = s.now := by unfold State.logRec; simp only; (repeat' split) <;> simp
@[simp] theorem State.logRec_unbound (s : State) (a b c d e f : Nat) : (s.logRec a b c d e f).unbound = s.unbound := by unfold State.logRec; simp only; (repeat' split) <;> simp
@[simp] theorem State.logRec_freeCtr (s : State) (a b c d e f : Nat) : (s.logRec a b c d e f).freeCtr = s.freeCtr := by unfold State.logRec; simp only; (repeat' split) <;> simp
@[simp] theorem State.logRec_out (s : State) (a b c d e f : Nat) : (s.logRec a b c d e f).out = s.out := by unfold State.logRec; simp only; (repeat' split) <;> simp
@[simp] theorem State.logRec_port0 (s : State) (a b c d e f : Nat) : (s.logRec a b c d e f).port0 = s.port0 := by unfold State.logRec; simp only; (repeat' split) <;> simp
@[simp] theorem State.logRec_port1 (s : State) (a b c d e f : Nat) : (s.logRec a b c d e f).port1 = s.port1 := by unfold State.logRec; simp only; (repeat' split) <;> simp
@[simp] theorem State.logRec_sqs (s : State) (a b c d e f : Nat) : (s.logRec a b c d e f).sqs = s.sqs := by unfold State.logRec; simp only; (repeat' split) <;> simp
@[simp] theorem State.logRec_cqs (s : State) (a b c d e f : Nat) : (s.logRec a b c d e f).cqs = s.cqs := by unfold State.logRec; simp only; (repeat' split) <;> simp
@[simp] theorem State.logRec_ctxs (s : State) (a b c d e f : Nat) : (s.logRec a b c d e f).ctxs = s.ctxs := by unfold State.logRec; simp only; (repeat' split) <;> simp
@[simp] theorem State.logRec_nextCtx (s : State) (a b c d e f : Nat) : (s.logRec a b c d e f).nextCtx = s.nextCtx := by unfold State.logRec; simp only; (repeat' split) <;> simp
@[simp] theorem State.logRec_doneQ (s : State) (a b c d e f : Nat) : (s.logRec a b c d e f).doneQ = s.doneQ := by unfold State.logRec; simp only; (repeat' split) <;> simp
@[simp] theorem State.logRec_ns (s : State) (a b c d e f : Nat) : (s.logRec a b c d e f).ns = s.ns := by unfold State.logRec; simp only; (repeat' split) <;> simp
@[simp] theorem State.logRec_late (s : State) (a b c d e f : Nat) : (s.logRec a b c d e f).late = s.late := by unfold State.logRec; simp only; (repeat' split) <;> simp
@[simp] theorem State.logRec_lateTotal (s : State) (a b c d e f : Nat) : (s.logRec a b c d e f).lateTotal = s.lateTotal := by unfold State.logRec; simp only; (repeat' split) <;> simp
@[simp] theorem State.logRec_resets (s : State) (a b c d e f : Nat) : (s.logRec a b c d e f).resets = s.resets := by unfold State.logRec; simp only; (repeat' split) <;> simp
@[simp] theorem State.logRec_zn (s : State) (a b c d e f : Nat) : (s.logRec a b c d e f).zn = s.zn := by unfold State.logRec; simp only; (repeat' split) <;> simp
@[simp] theorem State.logRec_wpt (s : State) (a b c d e f : Nat) : (s.logRec a b c d e f).wpt = s.wpt := by unfold State.logRec; simp only; (repeat' split) <;> simp
@[simp] theorem State.logRec_wc (s : State) (a b c d e f : Nat) : (s.logRec a b c d e f).wc = s.wc := by unfold State.logRec; simp only; (repeat' split) <;> simp
@[simp] theorem State.logRec_pool (s : State) (a b c d e f : Nat) : (s.logRec a b c d e f).pool = s.pool := by unfold State.logRec; simp only; (repeat' split) <;> simp
@[simp] theorem State.logRec_fl (s : State) (a b c d e f : Nat) : (s.logRec a b c d e f).fl = s.fl := by unfold State.logRec; simp only; (repeat' split) <;> simp
@[simp] theorem State.logRec_sd (s : State) (a b c d e f : Nat) : (s.logRec a b c d e f).sd = s.sd := by unfold State.logRec; simp only; (repeat' split) <;> simp
@[simp] theorem State.logRec_cd (s : State) (a b c d e f : Nat) : (s.logRec a b c d e f).cd = s.cd := by unfold State.logRec; simp only; (repeat' split) <;> simp
@[simp] theorem State.logRec_xl (s : State) (a b c d e f : Nat) : (s.logRec a b c d e f).xl = s.xl := by unfold State.logRec; simp only; (repeat' split) <;> simp
@[simp] theorem State.logRec_fc (s : State) (a b c d e f : Nat) : (s.logRec a b c d e f).fc = s.fc := by unfold State.logRec; simp only; (repeat' split) <;> simp
@[simp] theorem State.logRec_th (s : State) (a b c d e f : Nat) : (s.logRec a b c d e f).th = s.th := by unfold State.logRec; simp only; (repeat' split) <;> simp
@[simp] theorem State.logRec_hu (s : State) (a b c d e f : Nat) : (s.logRec a b c d e f).hu = s.hu := by unfold State.logRec; simp only; (repeat' split) <;> simp
@[simp] theorem State.logRec_pw (s : State) (a b c d e f : Nat) : (s.logRec a b c d e f).pw = s.pw := by unfold State.logRec; simp only; (repeat' split) <;> simp
@[simp] theorem State.logRec_md (s : State) (a b c d e f : Nat) : (s.logRec a b c d e f).md = s.md := by unfold State.logRec; simp only; (repeat' split) <;> simp
@[simp] theorem State.logRec_mm (s : State) (a b c d e f : Nat) : (s.logRec a b c d e f).mm = s.mm := by unfold State.logRec; simp only; (repeat' split) <;> simp
@[simp] theorem State.logRec_mg (s : State) (a b c d e f : Nat) : (s.logRec a b c d e f).mg = s.mg := by unfold State.logRec; simp only; (repeat' split) <;> simp
@[simp] theorem State.logRec_fb (s : State) (a b c d e f : Nat) : (s.logRec a b c d e f).fb = s.fb := by unfold State.logRec; simp only; (repeat' split) <;> simp
@[simp] theorem State.logRec_fw (s : State) (a b c d e f : Nat) : (s.logRec a b c d e f).fw = s.fw := by unfold State.logRec; simp only; (repeat' split) <;> simp
@[simp] theorem State.logRec_pins (s : State) (a b c d e f : Nat) : (s.logRec a b c d e f).pins = s.pins := by unfold State.logRec; simp only; (repeat' split) <;> simp
@[simp] theorem State.logRec_tp (s : State) (a b c d e f : Nat) : (s.logRec a b c d e f).tp = s.tp := by unfold State.logRec; simp only; (repeat' split) <;> simp
@[simp] theorem State.logRec_pending (s : State) (a b c d e f : Nat) : (s.logRec a b c d e f).pending = s.pending := by unfold State.logRec; simp only; (repeat' split) <;> simp

@[simp] theorem State.capture_now (s : State) (a b c d e : Nat) : (s.capture a b c d e).now = s.now := by unfold State.capture; simp only; (repeat' split) <;> simp
@[simp] theorem State.capture_unbound (s : State) (a b c d e : Nat) : (s.capture a b c d e).unbound = s.unbound := by unfold State.capture; simp only; (repeat' split) <;> simp
@[simp] theorem State.capture_freeCtr (s : State) (a b c d e : Nat) : (s.capture a b c d e).freeCtr = s.freeCtr := by unfold State.capture; simp only; (repeat' split) <;> simp
@[simp] theorem State.capture_out (s : State) (a b c d e : Nat) : (s.capture a b c d e).out = s.out := by unfold State.capture; simp only; (repeat' split) <;> simp
@[simp] theorem State.capture_port0 (s : State) (a b c d e : Nat) : (s.capture a b c d e).port0 = s.port0 := by unfold State.capture; simp only; (repeat' split) <;> simp
@[simp] theorem State.capture_port1 (s : State) (a b c d e : Nat) : (s.capture a b c d e).port1 = s.port1 := by unfold State.capture; simp only; (repeat' split) <;> simp
@[simp] theorem State.capture_sqs (s : State) (a b c d e : Nat) : (s.capture a b c d e).sqs = s.sqs := by unfold State.capture; simp only; (repeat' split) <;> simp
@[simp] theorem State.capture_cqs (s : State) (a b c d e : Nat) : (s.capture a b c d e).cqs = s.cqs := by unfold State.capture; simp only; (repeat' split) <;> simp
@[simp] theorem State.capture_ctxs (s : State) (a b c d e : Nat) : (s.capture a b c d e).ctxs = s.ctxs := by unfold State.capture; simp only; (repeat' split) <;> simp
@[simp] theorem State.capture_nextCtx (s : State) (a b c d e : Nat) : (s.capture a b c d e).nextCtx = s.nextCtx := by unfold State.capture; simp only; (repeat' split) <;> simp
@[simp] theorem State.capture_doneQ (s : State) (a b c d e : Nat) : (s.capture a b c d e).doneQ = s.doneQ := by unfold State.capture; simp only; (repeat' split) <;> simp
@[simp] theorem State.capture_ns (s : State) (a b c d e : Nat) : (s.capture a b c d e).ns = s.ns := by unfold State.capture; simp only; (repeat' split) <;> simp
@[simp] theorem State.capture_late (s : State) (a b c d e : Nat) : (s.capture a b c d e).late = s.late := by unfold State.capture; simp only; (repeat' split) <;> simp
@[simp] theorem State.capture_lateTotal (s : State) (a b c d e : Nat) : (s.capture a b c d e).lateTotal = s.lateTotal := by unfold State.capture; simp only; (repeat' split) <;> simp
@[simp] theorem State.capture_resets (s : State) (a b c d e : Nat) : (s.capture a b c d e).resets = s.resets := by unfold State.capture; simp only; (repeat' split) <;> simp
@[simp] theorem State.capture_zn (s : State) (a b c d e : Nat) : (s.capture a b c d e).zn = s.zn := by unfold State.capture; simp only; (repeat' split) <;> simp
@[simp] theorem State.capture_wpt (s : State) (a b c d e : Nat) : (s.capture a b c d e).wpt = s.wpt := by unfold State.capture; simp only; (repeat' split) <;> simp
@[simp] theorem State.capture_wc (s : State) (a b c d e : Nat) : (s.capture a b c d e).wc = s.wc := by unfold State.capture; simp only; (repeat' split) <;> simp
@[simp] theorem State.capture_pool (s : State) (a b c d e : Nat) : (s.capture a b c d e).pool = s.pool := by unfold State.capture; simp only; (repeat' split) <;> simp
@[simp] theorem State.capture_fl (s : State) (a b c d e : Nat) : (s.capture a b c d e).fl = s.fl := by unfold State.capture; simp only; (repeat' split) <;> simp
@[simp] theorem State.capture_sd (s : State) (a b c d e : Nat) : (s.capture a b c d e).sd = s.sd := by unfold State.capture; simp only; (repeat' split) <;> simp
@[simp] theorem State.capture_cd (s : State) (a b c d e : Nat) : (s.capture a b c d e).cd = s.cd := by unfold State.capture; simp only; (repeat' split) <;> simp
@[simp] theorem State.capture_xl (s : State) (a b c d e : Nat) : (s.capture a b c d e).xl = s.xl := by unfold State.capture; simp only; (repeat' split) <;> simp
@[simp] theorem State.capture_fc (s : State) (a b c d e : Nat) : (s.capture a b c d e).fc = s.fc := by unfold State.capture; simp only; (repeat' split) <;> simp
@[simp] theorem State.capture_th (s : State) (a b c d e : Nat) : (s.capture a b c d e).th = s.th := by unfold State.capture; simp only; (repeat' split) <;> simp
@[simp] theorem State.capture_hu (s : State) (a b c d e : Nat) : (s.capture a b c d e).hu = s.hu := by unfold State.capture; simp only; (repeat' split) <;> simp
@[simp] theorem State.capture_pw (s : State) (a b c d e : Nat) : (s.capture a b c d e).pw = s.pw := by unfold State.capture; simp only; (repeat' split) <;> simp
@[simp] theorem State.capture_md (s : State) (a b c d e : Nat) : (s.capture a b c d e).md = s.md := by unfold State.capture; simp only; (repeat' split) <;> simp
@[simp] theorem State.capture_mm (s : State) (a b c d e : Nat) : (s.capture a b c d e).mm = s.mm := by unfold State.capture; simp only; (repeat' split) <;> simp
@[simp] theorem State.capture_mg (s : State) (a b c d e : Nat) : (s.capture a b c d e).mg = s.mg := by unfold State.capture; simp only; (repeat' split) <;> simp
@[simp] theorem State.capture_fb (s : State) (a b c d e : Nat) : (s.capture a b c d e).fb = s.fb := by unfold State.capture; simp only; (repeat' split) <;> simp
@[simp] theorem State.capture_fw (s : State) (a b c d e : Nat) : (s.capture a b c d e).fw = s.fw := by unfold State.capture; simp only; (repeat' split) <;> simp
@[simp] theorem State.capture_pins (s : State) (a b c d e : Nat) : (s.capture a b c d e).pins = s.pins := by unfold State.capture; simp only; (repeat' split) <;> simp
@[simp] theorem State.capture_tp (s : State) (a b c d e : Nat) : (s.capture a b c d e).tp = s.tp := by unfold State.capture; simp only; (repeat' split) <;> simp
@[simp] theorem State.capture_pending (s : State) (a b c d e : Nat) : (s.capture a b c d e).pending = s.pending := by unfold State.capture; simp only; (repeat' split) <;> simp

@[simp] theorem State.reportCE_now (s : State) (a b c d : Nat) : (s.reportCE a b c d).now = s.now := by simp [State.reportCE]
@[simp] theorem State.reportCE_unbound (s : State) (a b c d : Nat) : (s.reportCE a b c d).unbound = s.unbound := by simp [State.reportCE]
@[simp] theorem State.reportCE_freeCtr (s : State) (a b c d : Nat) : (s.reportCE a b c d).freeCtr = s.freeCtr := by simp [State.reportCE]
@[simp] theorem State.reportCE_out (s : State) (a b c d : Nat) : (s.reportCE a b c d).out = s.out := by simp [State.reportCE]
@[simp] theorem State.reportCE_port0 (s : State) (a b c d : Nat) : (s.reportCE a b c d).port0 = s.port0 := by simp [State.reportCE]
@[simp] theorem State.reportCE_port1 (s : State) (a b c d : Nat) : (s.reportCE a b c d).port1 = s.port1 := by simp [State.reportCE]
@[simp] theorem State.reportCE_sqs (s : State) (a b c d : Nat) : (s.reportCE a b c d).sqs = s.sqs := by simp [State.reportCE]
@[simp] theorem State.reportCE_cqs (s : State) (a b c d : Nat) : (s.reportCE a b c d).cqs = s.cqs := by simp [State.reportCE]
@[simp] theorem State.reportCE_ctxs (s : State) (a b c d : Nat) : (s.reportCE a b c d).ctxs = s.ctxs := by simp [State.reportCE]
@[simp] theorem State.reportCE_nextCtx (s : State) (a b c d : Nat) : (s.reportCE a b c d).nextCtx = s.nextCtx := by simp [State.reportCE]
@[simp] theorem State.reportCE_doneQ (s : State) (a b c d : Nat) : (s.reportCE a b c d).doneQ = s.doneQ := by simp [State.reportCE]
@[simp] theorem State.reportCE_ns (s : State) (a b c d : Nat) : (s.reportCE a b c d).ns = s.ns := by simp [State.reportCE]
@[simp] theorem State.reportCE_late (s : State) (a b c d : Nat) : (s.reportCE a b c d).late = s.late := by simp [State.reportCE]
@[simp] theorem State.reportCE_lateTotal (s : State) (a b c d : Nat) : (s.reportCE a b c d).lateTotal = s.lateTotal := by simp [State.reportCE]
@[simp] theorem State.reportCE_resets (s : State) (a b c d : Nat) : (s.reportCE a b c d).resets = s.resets := by simp [State.reportCE]
@[simp] theorem State.reportCE_zn (s : State) (a b c d : Nat) : (s.reportCE a b c d).zn = s.zn := by simp [State.reportCE]
@[simp] theorem State.reportCE_wpt (s : State) (a b c d : Nat) : (s.reportCE a b c d).wpt = s.wpt := by simp [State.reportCE]
@[simp] theorem State.reportCE_wc (s : State) (a b c d : Nat) : (s.reportCE a b c d).wc = s.wc := by simp [State.reportCE]
@[simp] theorem State.reportCE_pool (s : State) (a b c d : Nat) : (s.reportCE a b c d).pool = s.pool := by simp [State.reportCE]
@[simp] theorem State.reportCE_fl (s : State) (a b c d : Nat) : (s.reportCE a b c d).fl = s.fl := by simp [State.reportCE]
@[simp] theorem State.reportCE_sd (s : State) (a b c d : Nat) : (s.reportCE a b c d).sd = s.sd := by simp [State.reportCE]
@[simp] theorem State.reportCE_cd (s : State) (a b c d : Nat) : (s.reportCE a b c d).cd = s.cd := by simp [State.reportCE]
@[simp] theorem State.reportCE_xl (s : State) (a b c d : Nat) : (s.reportCE a b c d).xl = s.xl := by simp [State.reportCE]
@[simp] theorem State.reportCE_fc (s : State) (a b c d : Nat) : (s.reportCE a b c d).fc = s.fc := by simp [State.reportCE]
@[simp] theorem State.reportCE_th (s : State) (a b c d : Nat) : (s.reportCE a b c d).th = s.th := by simp [State.reportCE]
@[simp] theorem State.reportCE_hu (s : State) (a b c d : Nat) : (s.reportCE a b c d).hu = s.hu := by simp [State.reportCE]
@[simp] theorem State.reportCE_pw (s : State) (a b c d : Nat) : (s.reportCE a b c d).pw = s.pw := by simp [State.reportCE]
@[simp] theorem State.reportCE_md (s : State) (a b c d : Nat) : (s.reportCE a b c d).md = s.md := by simp [State.reportCE]
@[simp] theorem State.reportCE_mm (s : State) (a b c d : Nat) : (s.reportCE a b c d).mm = s.mm := by simp [State.reportCE]
@[simp] theorem State.reportCE_mg (s : State) (a b c d : Nat) : (s.reportCE a b c d).mg = s.mg := by simp [State.reportCE]
@[simp] theorem State.reportCE_fb (s : State) (a b c d : Nat) : (s.reportCE a b c d).fb = s.fb := by simp [State.reportCE]
@[simp] theorem State.reportCE_fw (s : State) (a b c d : Nat) : (s.reportCE a b c d).fw = s.fw := by simp [State.reportCE]
@[simp] theorem State.reportCE_pins (s : State) (a b c d : Nat) : (s.reportCE a b c d).pins = s.pins := by simp [State.reportCE]
@[simp] theorem State.reportCE_tp (s : State) (a b c d : Nat) : (s.reportCE a b c d).tp = s.tp := by simp [State.reportCE]
@[simp] theorem State.reportCE_pending (s : State) (a b c d : Nat) : (s.reportCE a b c d).pending = s.pending := by simp [State.reportCE]

@[simp] theorem State.reportUE_now (s : State) (a b c d : Nat) : (s.reportUE a b c d).now = s.now := by simp [State.reportUE]
@[simp] theorem State.reportUE_unbound (s : State) (a b c d : Nat) : (s.reportUE a b c d).unbound = s.unbound := by simp [State.reportUE]
@[simp] theorem State.reportUE_freeCtr (s : State) (a b c d : Nat) : (s.reportUE a b c d).freeCtr = s.freeCtr := by simp [State.reportUE]
@[simp] theorem State.reportUE_out (s : State) (a b c d : Nat) : (s.reportUE a b c d).out = s.out := by simp [State.reportUE]
@[simp] theorem State.reportUE_port0 (s : State) (a b c d : Nat) : (s.reportUE a b c d).port0 = s.port0 := by simp [State.reportUE]
@[simp] theorem State.reportUE_port1 (s : State) (a b c d : Nat) : (s.reportUE a b c d).port1 = s.port1 := by simp [State.reportUE]
@[simp] theorem State.reportUE_sqs (s : State) (a b c d : Nat) : (s.reportUE a b c d).sqs = s.sqs := by simp [State.reportUE]
@[simp] theorem State.reportUE_cqs (s : State) (a b c d : Nat) : (s.reportUE a b c d).cqs = s.cqs := by simp [State.reportUE]
@[simp] theorem State.reportUE_ctxs (s : State) (a b c d : Nat) : (s.reportUE a b c d).ctxs = s.ctxs := by simp [State.reportUE]
@[simp] theorem State.reportUE_nextCtx (s : State) (a b c d : Nat) : (s.reportUE a b c d).nextCtx = s.nextCtx := by simp [State.reportUE]
@[simp] theorem State.reportUE_doneQ (s : State) (a b c d : Nat) : (s.reportUE a b c d).doneQ = s.doneQ := by simp [State.reportUE]
@[simp] theorem State.reportUE_ns (s : State) (a b c d : Nat) : (s.reportUE a b c d).ns = s.ns := by simp [State.reportUE]
@[simp] theorem State.reportUE_late (s : State) (a b c d : Nat) : (s.reportUE a b c d).late = s.late := by simp [State.reportUE]
@[simp] theorem State.reportUE_lateTotal (s : State) (a b c d : Nat) : (s.reportUE a b c d).lateTotal = s.lateTotal := by simp [State.reportUE]
@[simp] theorem State.reportUE_resets (s : State) (a b c d : Nat) : (s.reportUE a b c d).resets = s.resets := by simp [State.reportUE]
@[simp] theorem State.reportUE_zn (s : State) (a b c d : Nat) : (s.reportUE a b c d).zn = s.zn := by simp [State.reportUE]
@[simp] theorem State.reportUE_wpt (s : State) (a b c d : Nat) : (s.reportUE a b c d).wpt = s.wpt := by simp [State.reportUE]
@[simp] theorem State.reportUE_wc (s : State) (a b c d : Nat) : (s.reportUE a b c d).wc = s.wc := by simp [State.reportUE]
@[simp] theorem State.reportUE_pool (s : State) (a b c d : Nat) : (s.reportUE a b c d).pool = s.pool := by simp [State.reportUE]
@[simp] theorem State.reportUE_fl (s : State) (a b c d : Nat) : (s.reportUE a b c d).fl = s.fl := by simp [State.reportUE]
@[simp] theorem State.reportUE_sd (s : State) (a b c d : Nat) : (s.reportUE a b c d).sd = s.sd := by simp [State.reportUE]
@[simp] theorem State.reportUE_cd (s : State) (a b c d : Nat) : (s.reportUE a b c d).cd = s.cd := by simp [State.reportUE]
@[simp] theorem State.reportUE_xl (s : State) (a b c d : Nat) : (s.reportUE a b c d).xl = s.xl := by simp [State.reportUE]
@[simp] theorem State.reportUE_fc (s : State) (a b c d : Nat) : (s.reportUE a b c d).fc = s.fc := by simp [State.reportUE]
@[simp] theorem State.reportUE_th (s : State) (a b c d : Nat) : (s.reportUE a b c d).th = s.th := by simp [State.reportUE]
@[simp] theorem State.reportUE_hu (s : State) (a b c d : Nat) : (s.reportUE a b c d).hu = s.hu := by simp [State.reportUE]
@[simp] theorem State.reportUE_pw (s : State) (a b c d : Nat) : (s.reportUE a b c d).pw = s.pw := by simp [State.reportUE]
@[simp] theorem State.reportUE_md (s : State) (a b c d : Nat) : (s.reportUE a b c d).md = s.md := by simp [State.reportUE]
@[simp] theorem State.reportUE_mm (s : State) (a b c d : Nat) : (s.reportUE a b c d).mm = s.mm := by simp [State.reportUE]
@[simp] theorem State.reportUE_mg (s : State) (a b c d : Nat) : (s.reportUE a b c d).mg = s.mg := by simp [State.reportUE]
@[simp] theorem State.reportUE_fb (s : State) (a b c d : Nat) : (s.reportUE a b c d).fb = s.fb := by simp [State.reportUE]
@[simp] theorem State.reportUE_fw (s : State) (a b c d : Nat) : (s.reportUE a b c d).fw = s.fw := by simp [State.reportUE]
@[simp] theorem State.reportUE_pins (s : State) (a b c d : Nat) : (s.reportUE a b c d).pins = s.pins := by simp [State.reportUE]
@[simp] theorem State.reportUE_tp (s : State) (a b c d : Nat) : (s.reportUE a b c d).tp = s.tp := by simp [State.reportUE]
@[simp] theorem State.reportUE_pending (s : State) (a b c d : Nat) : (s.reportUE a b c d).pending = s.pending := by simp [State.reportUE]

@[simp] theorem State.settleSlots_now (s : State) : (s.settleSlots).now = s.now := rfl
@[simp] theorem State.settleSlots_regs (s : State) : (s.settleSlots).regs = s.regs := rfl
@[simp] theorem State.settleSlots_unbound (s : State) : (s.settleSlots).unbound = s.unbound := rfl
@[simp] theorem State.settleSlots_freeCtr (s : State) : (s.settleSlots).freeCtr = s.freeCtr := rfl
@[simp] theorem State.settleSlots_out (s : State) : (s.settleSlots).out = s.out := rfl
@[simp] theorem State.settleSlots_port0 (s : State) : (s.settleSlots).port0 = s.port0 := rfl
@[simp] theorem State.settleSlots_port1 (s : State) : (s.settleSlots).port1 = s.port1 := rfl
@[simp] theorem State.settleSlots_sqs (s : State) : (s.settleSlots).sqs = s.sqs := rfl
@[simp] theorem State.settleSlots_cqs (s : State) : (s.settleSlots).cqs = s.cqs := rfl
@[simp] theorem State.settleSlots_ctxs (s : State) : (s.settleSlots).ctxs = s.ctxs := rfl
@[simp] theorem State.settleSlots_nextCtx (s : State) : (s.settleSlots).nextCtx = s.nextCtx := rfl
@[simp] theorem State.settleSlots_doneQ (s : State) : (s.settleSlots).doneQ = s.doneQ := rfl
@[simp] theorem State.settleSlots_ns (s : State) : (s.settleSlots).ns = s.ns := rfl
@[simp] theorem State.settleSlots_late (s : State) : (s.settleSlots).late = s.late := rfl
@[simp] theorem State.settleSlots_lateTotal (s : State) : (s.settleSlots).lateTotal = s.lateTotal := rfl
@[simp] theorem State.settleSlots_resets (s : State) : (s.settleSlots).resets = s.resets := rfl
@[simp] theorem State.settleSlots_zn (s : State) : (s.settleSlots).zn = s.zn := rfl
@[simp] theorem State.settleSlots_wpt (s : State) : (s.settleSlots).wpt = s.wpt := rfl
@[simp] theorem State.settleSlots_wc (s : State) : (s.settleSlots).wc = s.wc := rfl
@[simp] theorem State.settleSlots_pool (s : State) : (s.settleSlots).pool = s.pool := rfl
@[simp] theorem State.settleSlots_fl (s : State) : (s.settleSlots).fl = s.fl := rfl
@[simp] theorem State.settleSlots_sd (s : State) : (s.settleSlots).sd = s.sd := rfl
@[simp] theorem State.settleSlots_cd (s : State) : (s.settleSlots).cd = s.cd := rfl
@[simp] theorem State.settleSlots_xl (s : State) : (s.settleSlots).xl = s.xl := rfl
@[simp] theorem State.settleSlots_ev (s : State) : (s.settleSlots).ev = s.ev := rfl
@[simp] theorem State.settleSlots_fc (s : State) : (s.settleSlots).fc = s.fc := rfl
@[simp] theorem State.settleSlots_th (s : State) : (s.settleSlots).th = s.th := rfl
@[simp] theorem State.settleSlots_hu (s : State) : (s.settleSlots).hu = s.hu := rfl
@[simp] theorem State.settleSlots_pw (s : State) : (s.settleSlots).pw = s.pw := rfl
@[simp] theorem State.settleSlots_md (s : State) : (s.settleSlots).md = s.md := rfl
@[simp] theorem State.settleSlots_mm (s : State) : (s.settleSlots).mm = s.mm := rfl
@[simp] theorem State.settleSlots_mg (s : State) : (s.settleSlots).mg = s.mg := rfl
@[simp] theorem State.settleSlots_fb (s : State) : (s.settleSlots).fb = s.fb := rfl
@[simp] theorem State.settleSlots_fw (s : State) : (s.settleSlots).fw = s.fw := rfl
@[simp] theorem State.settleSlots_pins (s : State) : (s.settleSlots).pins = s.pins := rfl
@[simp] theorem State.settleSlots_tp (s : State) : (s.settleSlots).tp = s.tp := rfl
@[simp] theorem State.settleSlots_pending (s : State) : (s.settleSlots).pending = s.pending := rfl

@[simp] theorem State.settlePins_now (s : State) : (s.settlePins).now = s.now := by unfold State.settlePins; simp only; repeat (first | rfl | split)
@[simp] theorem State.settlePins_regs (s : State) : (s.settlePins).regs = s.regs := by unfold State.settlePins; simp only; repeat (first | rfl | split)
@[simp] theorem State.settlePins_unbound (s : State) : (s.settlePins).unbound = s.unbound := by unfold State.settlePins; simp only; repeat (first | rfl | split)
@[simp] theorem State.settlePins_freeCtr (s : State) : (s.settlePins).freeCtr = s.freeCtr := by unfold State.settlePins; simp only; repeat (first | rfl | split)
@[simp] theorem State.settlePins_out (s : State) : (s.settlePins).out = s.out := by unfold State.settlePins; simp only; repeat (first | rfl | split)
@[simp] theorem State.settlePins_port0 (s : State) : (s.settlePins).port0 = s.port0 := by unfold State.settlePins; simp only; repeat (first | rfl | split)
@[simp] theorem State.settlePins_port1 (s : State) : (s.settlePins).port1 = s.port1 := by unfold State.settlePins; simp only; repeat (first | rfl | split)
@[simp] theorem State.settlePins_sqs (s : State) : (s.settlePins).sqs = s.sqs := by unfold State.settlePins; simp only; repeat (first | rfl | split)
@[simp] theorem State.settlePins_cqs (s : State) : (s.settlePins).cqs = s.cqs := by unfold State.settlePins; simp only; repeat (first | rfl | split)
@[simp] theorem State.settlePins_ctxs (s : State) : (s.settlePins).ctxs = s.ctxs := by unfold State.settlePins; simp only; repeat (first | rfl | split)
@[simp] theorem State.settlePins_nextCtx (s : State) : (s.settlePins).nextCtx = s.nextCtx := by unfold State.settlePins; simp only; repeat (first | rfl | split)
@[simp] theorem State.settlePins_doneQ (s : State) : (s.settlePins).doneQ = s.doneQ := by unfold State.settlePins; simp only; repeat (first | rfl | split)
@[simp] theorem State.settlePins_ns (s : State) : (s.settlePins).ns = s.ns := by unfold State.settlePins; simp only; repeat (first | rfl | split)
@[simp] theorem State.settlePins_late (s : State) : (s.settlePins).late = s.late := by unfold State.settlePins; simp only; repeat (first | rfl | split)
@[simp] theorem State.settlePins_lateTotal (s : State) : (s.settlePins).lateTotal = s.lateTotal := by unfold State.settlePins; simp only; repeat (first | rfl | split)
@[simp] theorem State.settlePins_resets (s : State) : (s.settlePins).resets = s.resets := by unfold State.settlePins; simp only; repeat (first | rfl | split)
@[simp] theorem State.settlePins_zn (s : State) : (s.settlePins).zn = s.zn := by unfold State.settlePins; simp only; repeat (first | rfl | split)
@[simp] theorem State.settlePins_wpt (s : State) : (s.settlePins).wpt = s.wpt := by unfold State.settlePins; simp only; repeat (first | rfl | split)
@[simp] theorem State.settlePins_wc (s : State) : (s.settlePins).wc = s.wc := by unfold State.settlePins; simp only; repeat (first | rfl | split)
@[simp] theorem State.settlePins_pool (s : State) : (s.settlePins).pool = s.pool := by unfold State.settlePins; simp only; repeat (first | rfl | split)
@[simp] theorem State.settlePins_fl (s : State) : (s.settlePins).fl = s.fl := by unfold State.settlePins; simp only; repeat (first | rfl | split)
@[simp] theorem State.settlePins_sd (s : State) : (s.settlePins).sd = s.sd := by unfold State.settlePins; simp only; repeat (first | rfl | split)
@[simp] theorem State.settlePins_cd (s : State) : (s.settlePins).cd = s.cd := by unfold State.settlePins; simp only; repeat (first | rfl | split)
@[simp] theorem State.settlePins_xl (s : State) : (s.settlePins).xl = s.xl := by unfold State.settlePins; simp only; repeat (first | rfl | split)
@[simp] theorem State.settlePins_ev (s : State) : (s.settlePins).ev = s.ev := by unfold State.settlePins; simp only; repeat (first | rfl | split)
@[simp] theorem State.settlePins_fc (s : State) : (s.settlePins).fc = s.fc := by unfold State.settlePins; simp only; repeat (first | rfl | split)
@[simp] theorem State.settlePins_ms (s : State) : (s.settlePins).ms = s.ms := by unfold State.settlePins; simp only; repeat (first | rfl | split)
@[simp] theorem State.settlePins_th (s : State) : (s.settlePins).th = s.th := by unfold State.settlePins; simp only; repeat (first | rfl | split)
@[simp] theorem State.settlePins_hu (s : State) : (s.settlePins).hu = s.hu := by unfold State.settlePins; simp only; repeat (first | rfl | split)
@[simp] theorem State.settlePins_pw (s : State) : (s.settlePins).pw = s.pw := by unfold State.settlePins; simp only; repeat (first | rfl | split)
@[simp] theorem State.settlePins_md (s : State) : (s.settlePins).md = s.md := by unfold State.settlePins; simp only; repeat (first | rfl | split)
@[simp] theorem State.settlePins_mm (s : State) : (s.settlePins).mm = s.mm := by unfold State.settlePins; simp only; repeat (first | rfl | split)
@[simp] theorem State.settlePins_mg (s : State) : (s.settlePins).mg = s.mg := by unfold State.settlePins; simp only; repeat (first | rfl | split)
@[simp] theorem State.settlePins_fb (s : State) : (s.settlePins).fb = s.fb := by unfold State.settlePins; simp only; repeat (first | rfl | split)
@[simp] theorem State.settlePins_fw (s : State) : (s.settlePins).fw = s.fw := by unfold State.settlePins; simp only; repeat (first | rfl | split)
@[simp] theorem State.settlePins_tp (s : State) : (s.settlePins).tp = s.tp := by unfold State.settlePins; simp only; repeat (first | rfl | split)
@[simp] theorem State.settlePins_pending (s : State) : (s.settlePins).pending = s.pending := by unfold State.settlePins; simp only; repeat (first | rfl | split)

@[simp] theorem State.settle_now (s : State) : (s.settle).now = s.now := by simp [State.settle]
@[simp] theorem State.settle_unbound (s : State) : (s.settle).unbound = s.unbound := by simp [State.settle]
@[simp] theorem State.settle_freeCtr (s : State) : (s.settle).freeCtr = s.freeCtr := by simp [State.settle]
@[simp] theorem State.settle_out (s : State) : (s.settle).out = s.out := by simp [State.settle]
@[simp] theorem State.settle_port0 (s : State) : (s.settle).port0 = s.port0 := by simp [State.settle]
@[simp] theorem State.settle_port1 (s : State) : (s.settle).port1 = s.port1 := by simp [State.settle]
@[simp] theorem State.settle_sqs (s : State) : (s.settle).sqs = s.sqs := by simp [State.settle]
@[simp] theorem State.settle_cqs (s : State) : (s.settle).cqs = s.cqs := by simp [State.settle]
@[simp] theorem State.settle_ctxs (s : State) : (s.settle).ctxs = s.ctxs := by simp [State.settle]
@[simp] theorem State.settle_nextCtx (s : State) : (s.settle).nextCtx = s.nextCtx := by simp [State.settle]
@[simp] theorem State.settle_doneQ (s : State) : (s.settle).doneQ = s.doneQ := by simp [State.settle]
@[simp] theorem State.settle_ns (s : State) : (s.settle).ns = s.ns := by simp [State.settle]
@[simp] theorem State.settle_late (s : State) : (s.settle).late = s.late := by simp [State.settle]
@[simp] theorem State.settle_lateTotal (s : State) : (s.settle).lateTotal = s.lateTotal := by simp [State.settle]
@[simp] theorem State.settle_resets (s : State) : (s.settle).resets = s.resets := by simp [State.settle]
@[simp] theorem State.settle_zn (s : State) : (s.settle).zn = s.zn := by simp [State.settle]
@[simp] theorem State.settle_wpt (s : State) : (s.settle).wpt = s.wpt := by simp [State.settle]
@[simp] theorem State.settle_wc (s : State) : (s.settle).wc = s.wc := by simp [State.settle]
@[simp] theorem State.settle_pool (s : State) : (s.settle).pool = s.pool := by simp [State.settle]
@[simp] theorem State.settle_fl (s : State) : (s.settle).fl = s.fl := by simp [State.settle]
@[simp] theorem State.settle_sd (s : State) : (s.settle).sd = s.sd := by simp [State.settle]
@[simp] theorem State.settle_cd (s : State) : (s.settle).cd = s.cd := by simp [State.settle]
@[simp] theorem State.settle_xl (s : State) : (s.settle).xl = s.xl := by simp [State.settle]
@[simp] theorem State.settle_ev (s : State) : (s.settle).ev = s.ev := by simp [State.settle]
@[simp] theorem State.settle_fc (s : State) : (s.settle).fc = s.fc := by simp [State.settle]
@[simp] theorem State.settle_th (s : State) : (s.settle).th = s.th := by simp [State.settle]
@[simp] theorem State.settle_hu (s : State) : (s.settle).hu = s.hu := by simp [State.settle]
@[simp] theorem State.settle_pw (s : State) : (s.settle).pw = s.pw := by simp [State.settle]
@[simp] theorem State.settle_md (s : State) : (s.settle).md = s.md := by simp [State.settle]
@[simp] theorem State.settle_mm (s : State) : (s.settle).mm = s.mm := by simp [State.settle]
@[simp] theorem State.settle_mg (s : State) : (s.settle).mg = s.mg := by simp [State.settle]
@[simp] theorem State.settle_fb (s : State) : (s.settle).fb = s.fb := by simp [State.settle]
@[simp] theorem State.settle_fw (s : State) : (s.settle).fw = s.fw := by simp [State.settle]
@[simp] theorem State.settle_tp (s : State) : (s.settle).tp = s.tp := by simp [State.settle]
@[simp] theorem State.settle_pending (s : State) : (s.settle).pending = s.pending := by simp [State.settle]

@[simp] theorem State.after_unbound (s : State) (n : Nat) (t : State) : (s.after n t).unbound = t.unbound := by simp [State.after]
@[simp] theorem State.after_freeCtr (s : State) (n : Nat) (t : State) : (s.after n t).freeCtr = t.freeCtr := by simp [State.after]
@[simp] theorem State.after_out (s : State) (n : Nat) (t : State) : (s.after n t).out = t.out := by simp [State.after]
@[simp] theorem State.after_port0 (s : State) (n : Nat) (t : State) : (s.after n t).port0 = t.port0 := by simp [State.after]
@[simp] theorem State.after_port1 (s : State) (n : Nat) (t : State) : (s.after n t).port1 = t.port1 := by simp [State.after]
@[simp] theorem State.after_sqs (s : State) (n : Nat) (t : State) : (s.after n t).sqs = t.sqs := by simp [State.after]
@[simp] theorem State.after_cqs (s : State) (n : Nat) (t : State) : (s.after n t).cqs = t.cqs := by simp [State.after]
@[simp] theorem State.after_ctxs (s : State) (n : Nat) (t : State) : (s.after n t).ctxs = t.ctxs := by simp [State.after]
@[simp] theorem State.after_nextCtx (s : State) (n : Nat) (t : State) : (s.after n t).nextCtx = t.nextCtx := by simp [State.after]
@[simp] theorem State.after_doneQ (s : State) (n : Nat) (t : State) : (s.after n t).doneQ = t.doneQ := by simp [State.after]
@[simp] theorem State.after_ns (s : State) (n : Nat) (t : State) : (s.after n t).ns = t.ns := by simp [State.after]
@[simp] theorem State.after_late (s : State) (n : Nat) (t : State) : (s.after n t).late = t.late := by simp [State.after]
@[simp] theorem State.after_lateTotal (s : State) (n : Nat) (t : State) : (s.after n t).lateTotal = t.lateTotal := by simp [State.after]
@[simp] theorem State.after_resets (s : State) (n : Nat) (t : State) : (s.after n t).resets = t.resets := by simp [State.after]
@[simp] theorem State.after_zn (s : State) (n : Nat) (t : State) : (s.after n t).zn = t.zn := by simp [State.after]
@[simp] theorem State.after_wpt (s : State) (n : Nat) (t : State) : (s.after n t).wpt = t.wpt := by simp [State.after]
@[simp] theorem State.after_wc (s : State) (n : Nat) (t : State) : (s.after n t).wc = t.wc := by simp [State.after]
@[simp] theorem State.after_pool (s : State) (n : Nat) (t : State) : (s.after n t).pool = t.pool := by simp [State.after]
@[simp] theorem State.after_fl (s : State) (n : Nat) (t : State) : (s.after n t).fl = t.fl := by simp [State.after]
@[simp] theorem State.after_sd (s : State) (n : Nat) (t : State) : (s.after n t).sd = t.sd := by simp [State.after]
@[simp] theorem State.after_cd (s : State) (n : Nat) (t : State) : (s.after n t).cd = t.cd := by simp [State.after]
@[simp] theorem State.after_xl (s : State) (n : Nat) (t : State) : (s.after n t).xl = t.xl := by simp [State.after]
@[simp] theorem State.after_ev (s : State) (n : Nat) (t : State) : (s.after n t).ev = t.ev := by simp [State.after]
@[simp] theorem State.after_fc (s : State) (n : Nat) (t : State) : (s.after n t).fc = t.fc := by simp [State.after]
@[simp] theorem State.after_th (s : State) (n : Nat) (t : State) : (s.after n t).th = t.th := by simp [State.after]
@[simp] theorem State.after_hu (s : State) (n : Nat) (t : State) : (s.after n t).hu = t.hu := by simp [State.after]
@[simp] theorem State.after_pw (s : State) (n : Nat) (t : State) : (s.after n t).pw = t.pw := by simp [State.after]
@[simp] theorem State.after_md (s : State) (n : Nat) (t : State) : (s.after n t).md = t.md := by simp [State.after]
@[simp] theorem State.after_mm (s : State) (n : Nat) (t : State) : (s.after n t).mm = t.mm := by simp [State.after]
@[simp] theorem State.after_mg (s : State) (n : Nat) (t : State) : (s.after n t).mg = t.mg := by simp [State.after]
@[simp] theorem State.after_fb (s : State) (n : Nat) (t : State) : (s.after n t).fb = t.fb := by simp [State.after]
@[simp] theorem State.after_fw (s : State) (n : Nat) (t : State) : (s.after n t).fw = t.fw := by simp [State.after]
@[simp] theorem State.after_tp (s : State) (n : Nat) (t : State) : (s.after n t).tp = t.tp := by simp [State.after]
@[simp] theorem State.after_pending (s : State) (n : Nat) (t : State) : (s.after n t).pending = s.pending := rfl
@[simp] theorem State.after_now (s : State) (n : Nat) (t : State) : (s.after n t).now = n := rfl

end Sys2Proof.Machine
end

