-- ==== Sys2Proof/Laws/Regs.lean ====
section
/-!
SUPPORT. Reading a register field after a change, and which registers the named updates reach.
-/

namespace Sys2Proof.Machine

theorem State.get_lt (s : State) (f : Field) (i j : Nat) : s.get f i j < 2 ^ f.width := by
  unfold State.get
  split
  · exact Nat.mod_lt _ (Nat.two_pow_pos _)
  · exact Nat.two_pow_pos _

/-- A field reads the same in two states that hold the same at its bit address. -/
theorem State.get_congr (s t : State) (f : Field) (i j : Nat) (h : t.regs.look (f.key i j) = s.regs.look (f.key i j)) :
    t.get f i j = s.get f i j := by
  unfold State.get NMap.lookD
  rw [h]

theorem State.get_of_regs {s t : State} (h : t.regs = s.regs) (f : Field) (i j : Nat) : t.get f i j = s.get f i j :=
  State.get_congr s t f i j (by rw [h])

/-- A field that the register has reads as written, cut to its width. -/
theorem State.get_set (s : State) (f : Field) (v i j : Nat) (h : f.reg.has i j = true) : (s.set f v i j).get f i j = v % 2 ^ f.width := by
  unfold State.get State.set
  simp only [h, if_true]
  rw [NMap.lookD_putD, if_pos rfl]
  split
  · rename_i e; rw [← e, Nat.mod_mod]
  · rw [Nat.mod_mod]

/-- A write of one field leaves every other bit address alone. -/
theorem State.look_set (s : State) (f : Field) (v i j k : Nat) (h : f.key i j ≠ k) : (s.set f v i j).regs.look k = s.regs.look k := by
  unfold State.set
  split
  · exact NMap.look_putD_ne _ _ _ _ _ h
  · rfl

theorem State.get_set_ne (s : State) (f g : Field) (v i j k l : Nat) (h : f.key i j ≠ g.key k l) :
    (s.set f v i j).get g k l = s.get g k l := State.get_congr _ _ _ _ _ (State.look_set s f v i j _ h)

theorem State.regs_sorted_set (s : State) (f : Field) (v i j : Nat) (h : s.regs.Sorted) : (s.set f v i j).regs.Sorted := by
  unfold State.set
  split
  · exact NMap.sorted_putD _ _ _ _ h
  · exact h

/-- What follows a command at once reaches no register but the two that show the contexts. -/
theorem State.look_settle (s : State) (k : Nat) (h : k ∉ shownKeys) : s.settle.regs.look k = s.regs.look k := by
  have h1 : QEN_CTX_USED.key 0 0 ≠ k := fun e => h (by simp [shownKeys, e])
  have h2 : QEN_CTX_PEAK.key 0 0 ≠ k := fun e => h (by simp [shownKeys, e])
  unfold State.settle
  simp only
  rw [State.look_set _ _ _ _ _ _ h2, State.look_set _ _ _ _ _ _ h1]
  simp

theorem State.look_after (s t : State) (n k : Nat) (h : k ∉ shownKeys) : (s.after n t).regs.look k = t.regs.look k :=
  State.look_settle t k h

theorem State.get_after (s t : State) (n : Nat) (f : Field) (i j : Nat) (h : f.key i j ∉ shownKeys) :
    (s.after n t).get f i j = t.get f i j := State.get_congr _ _ _ _ _ (State.look_after s t n _ h)

-- which registers a change reaches

theorem onlyRegs_refl (s : State) (l : List Nat) : OnlyRegs l s s := fun _ _ _ => rfl

theorem onlyRegs_of_eq {s t : State} (l : List Nat) (h : t.regs = s.regs) : OnlyRegs l s t := fun k _ _ => by rw [h]

theorem OnlyRegs.trans {l m : List Nat} {s t u : State} (h : OnlyRegs l s t) (g : OnlyRegs m t u) : OnlyRegs (l ++ m) s u := by
  intro k hk hs
  simp only [List.mem_append, not_or] at hk
  rw [g k hk.2 hs, h k hk.1 hs]

theorem OnlyRegs.mono {l m : List Nat} {s t : State} (h : OnlyRegs l s t) (hm : ∀ k ∈ l, k ∈ m) : OnlyRegs m s t :=
  fun k hk hs => h k (fun x => hk (hm k x)) hs

theorem onlyRegs_set (s : State) (f : Field) (v i j : Nat) : OnlyRegs [f.key i j] s (s.set f v i j) := by
  intro k hk _
  exact State.look_set s f v i j k (fun e => hk (by simp [e]))

theorem onlyRegs_after (s t : State) (n : Nat) : OnlyRegs [] t (s.after n t) := fun k _ hs => State.look_after s t n k hs

theorem OnlyRegs.after {l : List Nat} {s t u : State} {n : Nat} (h : OnlyRegs l s t) : OnlyRegs l s (u.after n t) :=
  fun k hk hs => by rw [State.look_after u t n k hs, h k hk hs]

/-- A register field outside the keys reached reads as before. -/
theorem OnlyRegs.get {l : List Nat} {s t : State} (h : OnlyRegs l s t) (f : Field) (i j : Nat) (hk : f.key i j ∉ l)
    (hs : f.key i j ∉ shownKeys) : t.get f i j = s.get f i j := State.get_congr s t f i j (h _ hk hs)

end Sys2Proof.Machine
end

