-- ==== Sys2Proof/Laws/Act.lean ====
section
/-!
SUPPORT. How a command ends: it completes while nothing unbound is present, or removes an unbound case, and faults otherwise; the
forms the meanings have.
-/

namespace Sys2Proof.Machine

theorem actTo_bound {s : State} (h : Bound s) (n : Nat) (f : State → State) : actTo n s f = .next (s.after n (f s)) := by
  have : s.unbound.isEmpty = true := by rw [h]; rfl
  simp [actTo, this]

theorem act_bound {s : State} (h : Bound s) (f : State → State) : act s f = .next (s.after s.now (f s)) := actTo_bound h _ f

theorem actWhen_bound {s : State} (h : Bound s) (c : Bool) (f : State → State) :
    actWhen s c f = .next (s.after s.now (if c then f s else s)) := act_bound h _

theorem actRemovingTo_bound {s : State} (h : Bound s) (n : Nat) (f : State → State) :
    actRemovingTo n s f = .next (s.after n (f s)) := by
  have : s.unbound.isEmpty = true := by rw [h]; rfl
  simp [actRemovingTo, this]

theorem actRemoving_bound {s : State} (h : Bound s) (f : State → State) : actRemoving s f = .next (s.after s.now (f s)) :=
  actRemovingTo_bound h _ f

theorem actRemovingWhen_bound {s : State} (h : Bound s) (c : Bool) (f : State → State) :
    actRemovingWhen s c f = .next (s.after s.now (if c then f s else s)) := actRemoving_bound h _

/-- A command that ends while an unbound case is present has removed one. -/
theorem actTo_unbound {s : State} (h : ¬Bound s) (n : Nat) (f : State → State) : actTo n s f = .fault .unpredictable := by
  have : s.unbound.isEmpty = false := by
    unfold Bound at h
    cases hu : s.unbound with
    | nil => exact absurd hu h
    | cons => rfl
  simp [actTo, this]

theorem completes_of_next {c : Instr} {s t : State} {P : State → Prop} (h : exec c s = .next t) (p : P t) : Completes c s P := ⟨t, h, p⟩

end Sys2Proof.Machine
end

