-- ==== Sys2Proof/Laws/Flags.lean ====
section
/-!
SUPPORT. Bits of a number, and what raising an event source, a counter and an event register do to the registers and the event router.
-/

namespace Sys2Proof.Machine

theorem bit_eq_testBit (v b : Nat) : bit v b = v.testBit b := by
  rw [Nat.testBit_eq_decide_div_mod_eq]
  simp only [bit, bits, Nat.add_sub_cancel_left, Nat.pow_one]
  rw [Bool.eq_iff_iff]
  simp

theorem testBit_add_two_pow (v b j : Nat) (h : v.testBit b = false) : (v + 2 ^ b).testBit j = (decide (j = b) || v.testBit j) := by
  have hr : v % 2 ^ (b + 1) < 2 ^ b := by
    rw [Nat.testBit_eq_decide_div_mod_eq] at h
    have h0 : v / 2 ^ b % 2 = 0 := by
      have := of_decide_eq_false h
      omega
    have e := Nat.div_add_mod v (2 ^ b)
    have m := Nat.mod_lt v (Nat.two_pow_pos b)
    obtain ⟨q, hq⟩ : ∃ q, v / 2 ^ b = 2 * q := ⟨v / 2 ^ b / 2, by omega⟩
    have : v = 2 ^ (b + 1) * q + v % 2 ^ b := by
      rw [Nat.pow_succ, Nat.mul_assoc, ← hq]; exact e.symm
    rw [this, Nat.mul_add_mod]
    have : v % 2 ^ b % 2 ^ (b + 1) = v % 2 ^ b := Nat.mod_eq_of_lt (by rw [Nat.pow_succ]; omega)
    rw [this]; exact m
  have e := Nat.div_add_mod v (2 ^ (b + 1))
  generalize v / 2 ^ (b + 1) = q at e
  generalize v % 2 ^ (b + 1) = r at e hr
  subst e
  have hp : 2 ^ b + r < 2 ^ (b + 1) := by rw [Nat.pow_succ]; omega
  have hr' : r < 2 ^ (b + 1) := by omega
  rw [show 2 ^ (b + 1) * q + r + 2 ^ b = 2 ^ (b + 1) * q + (2 ^ b + r) by omega]
  rw [Nat.testBit_two_pow_mul_add q hp, Nat.testBit_two_pow_mul_add q hr']
  by_cases hj : j < b + 1
  · simp only [hj, if_true]
    rcases Nat.lt_succ_iff_lt_or_eq.1 hj with hj' | rfl
    · rw [Nat.testBit_two_pow_add_gt hj']
      have : ¬(j = b) := by omega
      simp [this]
    · rw [Nat.testBit_two_pow_add_eq]
      simp [Nat.testBit_lt_two_pow hr]
  · have : ¬(j = b) := by omega
    simp [hj, this]

/-- Bit `j` of a number with bit `b` set. -/
theorem bit_setBit (v b j : Nat) : bit (setBit v b) j = (decide (j = b) || bit v j) := by
  unfold setBit
  simp only [bit_eq_testBit]
  split
  · rename_i h
    by_cases hj : j = b
    · subst hj; simp [h]
    · simp [hj]
  · rename_i h
    exact testBit_add_two_pow v b j (by simpa using h)

theorem setBit_lt (v b w : Nat) (hv : v < 2 ^ w) (hb : b < w) : setBit v b < 2 ^ w := by
  apply Nat.lt_pow_two_of_testBit
  intro i hi
  have h := bit_setBit v b i
  simp only [bit_eq_testBit] at h
  rw [h]
  have : ¬(i = b) := by omega
  have hv' : v.testBit i = false := Nat.testBit_lt_two_pow (Nat.lt_of_lt_of_le hv (Nat.pow_le_pow_right (by omega) hi))
  simp [this, hv']

/-- The pending word of a source. -/
theorem pend_has (n : Nat) (h : n < 288) : EVR_PEND.reg.has (n / 32) 0 = true := by
  have : n / 32 < 9 := by omega
  simp [Reg.has, EVR_PEND, rEVR_PEND]
  omega

theorem pend_key_ne (i j : Nat) (h : i ≠ j) : EVR_PEND.key i 0 ≠ EVR_PEND.key j 0 := by
  simp [Field.key, Reg.at, EVR_PEND, rEVR_PEND]
  omega

/-- The event router's sources only grow in number: those of `s`, and more behind them. -/
def Grows (s t : State) : Prop := ∃ l, t.ev.todo = s.ev.todo ++ l

theorem State.raise_todo (s : State) (n q : Nat) :
    (s.raise n q).ev.todo = s.ev.todo ++ [{ src := n, fresh := !bit (s.get EVR_PEND (n / 32)) (n % 32), param := q }] := by
  simp [State.raise]

theorem State.raise_pend (s : State) (n q : Nat) (h : n < 288) :
    (s.raise n q).get EVR_PEND (n / 32) = setBit (s.get EVR_PEND (n / 32)) (n % 32) := by
  show (s.set EVR_PEND _ _).get EVR_PEND _ = _
  rw [State.get_set _ _ _ _ _ (pend_has n h)]
  exact Nat.mod_eq_of_lt (setBit_lt _ _ 32 (State.get_lt s EVR_PEND _ _) (by omega))

/-- Raising a source sets its pending bit and hands it to the event router (R389). -/
theorem raises_raise (s : State) (n q : Nat) (h : n < 288) : Raises n s (s.raise n q) := by
  refine ⟨?_, [{ src := n, fresh := !bit (s.get EVR_PEND (n / 32)) (n % 32), param := q }], State.raise_todo s n q, _, List.mem_singleton.2 rfl, rfl⟩
  rw [State.raise_pend s n q h, bit_setBit]
  simp

/-- Raising a source keeps every pending bit. -/
theorem raise_keeps_pend (s : State) (n q i b : Nat) (h : bit (s.get EVR_PEND i) b = true) : bit ((s.raise n q).get EVR_PEND i) b = true := by
  by_cases hn : i = n / 32
  · subst hn
    by_cases hh : EVR_PEND.reg.has (n / 32) 0 = true
    · have : n < 288 := by
        simp [Reg.has, EVR_PEND, rEVR_PEND] at hh
        omega
      rw [State.raise_pend s n q this, bit_setBit, h]
      simp
    · have : s.get EVR_PEND (n / 32) = 0 := by simp [State.get, hh]
      rw [this] at h
      simp [bit, bits] at h
  · have : (s.raise n q).get EVR_PEND i = s.get EVR_PEND i := by
      show (s.set EVR_PEND _ _).get EVR_PEND _ = _
      exact State.get_set_ne _ _ _ _ _ _ _ _ (pend_key_ne _ _ (fun e => hn e.symm))
    rw [this]; exact h

theorem Raises.after {n : Nat} {s t u : State} {k : Nat} (h : Raises n s t) : Raises n s (u.after k t) := by
  obtain ⟨h1, l, h2, h3⟩ := h
  refine ⟨?_, l, by simpa using h2, h3⟩
  rw [State.get_after _ _ _ _ _ _ (by simp [shownKeys, Field.key, Reg.at, EVR_PEND, rEVR_PEND, QEN_CTX_USED, rQEN_CTX_USED, QEN_CTX_PEAK, rQEN_CTX_PEAK]; omega)]
  exact h1

end Sys2Proof.Machine
end

