-- ==== Sys2Proof/Laws/Forms.lean ====
section
/-!
SUPPORT. The form of every meaning: `actTo` the time before, or `actRemovingTo` for the commands that may remove an unchecked host error:
the time before, or 0 for the AO power-on reset.
-/

namespace Sys2Proof.Machine

theorem form_registerWrite (port : Nat) (space : RegSpace) (size addr value : Nat) (s : State) : ∃ f, exec (.registerWrite port space size addr value) s = actRemoving s f := by
  show ∃ f, execRegisterWrite port space size addr value s = _
  unfold execRegisterWrite actRemovingWhen
  exact ⟨_, rfl⟩
theorem form_uptimeLoRead (port size off : Nat) (s : State) : ∃ f, exec (.uptimeLoRead port size off) s = actTo s.now s f := by
  show ∃ f, execUptimeLoRead port size off s = _
  unfold execUptimeLoRead
  exact ⟨_, rfl⟩
theorem form_recTotalLoRead (port size off : Nat) (s : State) : ∃ f, exec (.recTotalLoRead port size off) s = actTo s.now s f := by
  show ∃ f, execRecTotalLoRead port size off s = _
  unfold execRecTotalLoRead
  exact ⟨_, rfl⟩
theorem form_ckptNumLoRead (port size off : Nat) (s : State) : ∃ f, exec (.ckptNumLoRead port size off) s = actTo s.now s f := by
  show ∃ f, execCkptNumLoRead port size off s = _
  unfold execCkptNumLoRead
  exact ⟨_, rfl⟩
theorem form_firstTsLoRead (port size off : Nat) (s : State) : ∃ f, exec (.firstTsLoRead port size off) s = actTo s.now s f := by
  show ∃ f, execFirstTsLoRead port size off s = _
  unfold execFirstTsLoRead
  exact ⟨_, rfl⟩
theorem form_cfgSeqLoRead (port size off : Nat) (s : State) : ∃ f, exec (.cfgSeqLoRead port size off) s = actTo s.now s f := by
  show ∃ f, execCfgSeqLoRead port size off s = _
  unfold execCfgSeqLoRead
  exact ⟨_, rfl⟩
theorem form_linkUp (port rate width : Nat) (flit : Bool) (s : State) : ∃ f, exec (.linkUp port rate width flit) s = actTo s.now s f := by
  show ∃ f, execLinkUp port rate width flit s = _
  unfold execLinkUp actWhen act
  exact ⟨_, rfl⟩
theorem form_linkDown (port : Nat) (s : State) : ∃ f, exec (.linkDown port) s = actTo s.now s f := by
  show ∃ f, execLinkDown port s = _
  unfold execLinkDown actWhen act
  exact ⟨_, rfl⟩
theorem form_functionLevelReset (port : Nat) (s : State) : ∃ f, exec (.functionLevelReset port) s = actTo s.now s f := by
  show ∃ f, execFunctionLevelReset port s = _
  unfold execFunctionLevelReset actWhen act
  exact ⟨_, rfl⟩
theorem form_perstAssert (port : Nat) (s : State) : ∃ f, exec (.perstAssert port) s = actTo s.now s f := by
  show ∃ f, execPerstAssert port s = _
  unfold execPerstAssert actWhen act
  exact ⟨_, rfl⟩
theorem form_perstDeassert (port : Nat) (s : State) : ∃ f, exec (.perstDeassert port) s = actTo s.now s f := by
  show ∃ f, execPerstDeassert port s = _
  unfold execPerstDeassert actWhen act
  exact ⟨_, rfl⟩
theorem form_ccEnSet (port iosqes iocqes ams asqs acqs : Nat) (s : State) : ∃ f, exec (.ccEnSet port iosqes iocqes ams asqs acqs) s = actTo s.now s f := by
  show ∃ f, execCcEnSet port iosqes iocqes ams asqs acqs s = _
  unfold execCcEnSet actWhen act
  exact ⟨_, rfl⟩
theorem form_ccEnClear (port : Nat) (s : State) : ∃ f, exec (.ccEnClear port) s = actTo s.now s f := by
  show ∃ f, execCcEnClear port s = _
  unfold execCcEnClear actWhen act
  exact ⟨_, rfl⟩
theorem form_normalShutdown (port : Nat) (s : State) : ∃ f, exec (.normalShutdown port) s = actTo s.now s f := by
  show ∃ f, execNormalShutdown port s = _
  unfold execNormalShutdown actWhen act
  exact ⟨_, rfl⟩
theorem form_abruptShutdown (port : Nat) (s : State) : ∃ f, exec (.abruptShutdown port) s = actTo s.now s f := by
  show ∃ f, execAbruptShutdown port s = _
  unfold execAbruptShutdown actWhen act
  exact ⟨_, rfl⟩
theorem form_shutdownTimeout (port : Nat) (s : State) : ∃ f, exec (.shutdownTimeout port) s = actTo s.now s f := by
  show ∃ f, execShutdownTimeout port s = _
  unfold execShutdownTimeout actWhen act
  exact ⟨_, rfl⟩
theorem form_shutdownDone (port : Nat) (s : State) : ∃ f, exec (.shutdownDone port) s = actTo s.now s f := by
  show ∃ f, execShutdownDone port s = _
  unfold execShutdownDone actWhen act
  exact ⟨_, rfl⟩
theorem form_sqTailDoorbell (port qid value : Nat) (pasid : Option Nat) (s : State) : ∃ f, exec (.sqTailDoorbell port qid value pasid) s = actTo s.now s f := by
  show ∃ f, execSqTailDoorbell port qid value pasid s = _
  unfold execSqTailDoorbell actWhen act
  exact ⟨_, rfl⟩
theorem form_cqHeadDoorbell (port qid value : Nat) (pasid : Option Nat) (s : State) : ∃ f, exec (.cqHeadDoorbell port qid value pasid) s = actTo s.now s f := by
  show ∃ f, execCqHeadDoorbell port qid value pasid s = _
  unfold execCqHeadDoorbell actWhen act
  exact ⟨_, rfl⟩
theorem form_commandFetch (port : Nat) (entry : SqEntry) (s : State) : ∃ f, exec (.commandFetch port entry) s = actTo s.now s f := by
  show ∃ f, execCommandFetch port entry s = _
  unfold execCommandFetch actWhen act
  exact ⟨_, rfl⟩
theorem form_completionPost (port qid : Nat) (s : State) : ∃ f, exec (.completionPost port qid) s = actTo s.now s f := by
  show ∃ f, execCompletionPost port qid s = _
  unfold execCompletionPost actWhen act
  exact ⟨_, rfl⟩
theorem form_cqStallTimeout (port qid : Nat) (s : State) : ∃ f, exec (.cqStallTimeout port qid) s = actTo s.now s f := by
  show ∃ f, execCqStallTimeout port qid s = _
  unfold execCqStallTimeout actWhen act
  exact ⟨_, rfl⟩
theorem form_createIoSq (ctx : Nat) (s : State) : ∃ f, exec (.createIoSq ctx) s = actTo s.now s f := by
  show ∃ f, execCreateIoSq ctx s = _
  unfold execCreateIoSq adminRow act
  exact ⟨_, rfl⟩
theorem form_createIoCq (ctx : Nat) (s : State) : ∃ f, exec (.createIoCq ctx) s = actTo s.now s f := by
  show ∃ f, execCreateIoCq ctx s = _
  unfold execCreateIoCq adminRow act
  exact ⟨_, rfl⟩
theorem form_deleteIoSq (ctx : Nat) (s : State) : ∃ f, exec (.deleteIoSq ctx) s = actTo s.now s f := by
  show ∃ f, execDeleteIoSq ctx s = _
  unfold execDeleteIoSq adminRow act
  exact ⟨_, rfl⟩
theorem form_deleteIoCq (ctx : Nat) (s : State) : ∃ f, exec (.deleteIoCq ctx) s = actTo s.now s f := by
  show ∃ f, execDeleteIoCq ctx s = _
  unfold execDeleteIoCq adminRow act
  exact ⟨_, rfl⟩
theorem form_getLogPage (ctx : Nat) (s : State) : ∃ f, exec (.getLogPage ctx) s = actTo s.now s f := by
  show ∃ f, execGetLogPage ctx s = _
  unfold execGetLogPage adminRow act
  exact ⟨_, rfl⟩
theorem form_identify (ctx : Nat) (s : State) : ∃ f, exec (.identify ctx) s = actTo s.now s f := by
  show ∃ f, execIdentify ctx s = _
  unfold execIdentify adminRow act
  exact ⟨_, rfl⟩
theorem form_abort (ctx : Nat) (s : State) : ∃ f, exec (.abort ctx) s = actTo s.now s f := by
  show ∃ f, execAbort ctx s = _
  unfold execAbort adminRow act
  exact ⟨_, rfl⟩
theorem form_setFeatures (ctx : Nat) (s : State) : ∃ f, exec (.setFeatures ctx) s = actTo s.now s f := by
  show ∃ f, execSetFeatures ctx s = _
  unfold execSetFeatures adminRow act
  exact ⟨_, rfl⟩
theorem form_getFeatures (ctx : Nat) (s : State) : ∃ f, exec (.getFeatures ctx) s = actTo s.now s f := by
  show ∃ f, execGetFeatures ctx s = _
  unfold execGetFeatures adminRow act
  exact ⟨_, rfl⟩
theorem form_asyncEventRequest (ctx : Nat) (s : State) : ∃ f, exec (.asyncEventRequest ctx) s = actTo s.now s f := by
  show ∃ f, execAsyncEventRequest ctx s = _
  unfold execAsyncEventRequest adminRow act
  exact ⟨_, rfl⟩
theorem form_nsCreate (ctx : Nat) (data : NsData) (s : State) : ∃ f, exec (.nsCreate ctx data) s = actTo s.now s f := by
  show ∃ f, execNsCreate ctx data s = _
  unfold execNsCreate adminRow act
  exact ⟨_, rfl⟩
theorem form_nsDelete (ctx : Nat) (s : State) : ∃ f, exec (.nsDelete ctx) s = actTo s.now s f := by
  show ∃ f, execNsDelete ctx s = _
  unfold execNsDelete adminRow act
  exact ⟨_, rfl⟩
theorem form_namespaceAttachment (ctx : Nat) (controllers : List Nat) (s : State) : ∃ f, exec (.namespaceAttachment ctx controllers) s = actTo s.now s f := by
  show ∃ f, execNamespaceAttachment ctx controllers s = _
  unfold execNamespaceAttachment adminRow act
  exact ⟨_, rfl⟩
theorem form_firmwareImageDownload (ctx : Nat) (data : List Nat) (s : State) : ∃ f, exec (.firmwareImageDownload ctx data) s = actTo s.now s f := by
  show ∃ f, execFirmwareImageDownload ctx data s = _
  unfold execFirmwareImageDownload act
  exact ⟨_, rfl⟩
theorem form_firmwareCommit (ctx : Nat) (hdr : ImageHeader) (s : State) : ∃ f, exec (.firmwareCommit ctx hdr) s = actTo s.now s f := by
  show ∃ f, execFirmwareCommit ctx hdr s = _
  unfold execFirmwareCommit act
  exact ⟨_, rfl⟩
theorem form_firmwareActivateImmediate (ctx : Nat) (s : State) : ∃ f, exec (.firmwareActivateImmediate ctx) s = actTo s.now s f := by
  show ∃ f, execFirmwareActivateImmediate ctx s = _
  unfold execFirmwareActivateImmediate actWhen act
  exact ⟨_, rfl⟩
theorem form_directiveSend (ctx : Nat) (s : State) : ∃ f, exec (.directiveSend ctx) s = actTo s.now s f := by
  show ∃ f, execDirectiveSend ctx s = _
  unfold execDirectiveSend adminRow act
  exact ⟨_, rfl⟩
theorem form_directiveReceive (ctx : Nat) (s : State) : ∃ f, exec (.directiveReceive ctx) s = actTo s.now s f := by
  show ∃ f, execDirectiveReceive ctx s = _
  unfold execDirectiveReceive adminRow act
  exact ⟨_, rfl⟩
theorem form_mgmtPacketCarrier (ctx : Nat) (fetched : Option (List Nat)) (replyOk : Bool) (s : State) : ∃ f, exec (.mgmtPacketCarrier ctx fetched replyOk) s = actRemoving s f := by
  show ∃ f, execMgmtPacketCarrier ctx fetched replyOk s = _
  unfold execMgmtPacketCarrier
  exact ⟨_, rfl⟩
theorem form_ioRead (ctx : Nat) (s : State) : ∃ f, exec (.ioRead ctx) s = actTo s.now s f := by
  show ∃ f, execIoRead ctx s = _
  unfold execIoRead runRow act
  exact ⟨_, rfl⟩
theorem form_ioWrite (ctx : Nat) (data : List Nat) (upsets : List Upset) (s : State) : ∃ f, exec (.ioWrite ctx data upsets) s = actTo s.now s f := by
  show ∃ f, execIoWrite ctx data upsets s = _
  unfold execIoWrite runRow act
  exact ⟨_, rfl⟩
theorem form_writeZeroes (ctx : Nat) (upsets : List Upset) (s : State) : ∃ f, exec (.writeZeroes ctx upsets) s = actTo s.now s f := by
  show ∃ f, execWriteZeroes ctx upsets s = _
  unfold execWriteZeroes runRow act
  exact ⟨_, rfl⟩
theorem form_zoneAppend (ctx : Nat) (data : List Nat) (upsets : List Upset) (s : State) : ∃ f, exec (.zoneAppend ctx data upsets) s = actTo s.now s f := by
  show ∃ f, execZoneAppend ctx data upsets s = _
  unfold execZoneAppend runRow act
  exact ⟨_, rfl⟩
theorem form_flush (ctx : Nat) (s : State) : ∃ f, exec (.flush ctx) s = actTo s.now s f := by
  show ∃ f, execFlush ctx s = _
  unfold execFlush runRow act
  exact ⟨_, rfl⟩
theorem form_datasetManagement (ctx : Nat) (ranges : List (Nat × Nat)) (s : State) : ∃ f, exec (.datasetManagement ctx ranges) s = actTo s.now s f := by
  show ∃ f, execDatasetManagement ctx ranges s = _
  unfold execDatasetManagement runRow act
  exact ⟨_, rfl⟩
theorem form_zoneOpen (ctx : Nat) (upsets : List Upset) (s : State) : ∃ f, exec (.zoneOpen ctx upsets) s = actTo s.now s f := by
  show ∃ f, execZoneOpen ctx upsets s = _
  unfold execZoneOpen runRow act
  exact ⟨_, rfl⟩
theorem form_zoneClose (ctx : Nat) (s : State) : ∃ f, exec (.zoneClose ctx) s = actTo s.now s f := by
  show ∃ f, execZoneClose ctx s = _
  unfold execZoneClose runRow act
  exact ⟨_, rfl⟩
theorem form_zoneFinish (ctx : Nat) (s : State) : ∃ f, exec (.zoneFinish ctx) s = actTo s.now s f := by
  show ∃ f, execZoneFinish ctx s = _
  unfold execZoneFinish runRow act
  exact ⟨_, rfl⟩
theorem form_zoneReset (ctx : Nat) (s : State) : ∃ f, exec (.zoneReset ctx) s = actTo s.now s f := by
  show ∃ f, execZoneReset ctx s = _
  unfold execZoneReset runRow act
  exact ⟨_, rfl⟩
theorem form_zoneOffline (ctx : Nat) (s : State) : ∃ f, exec (.zoneOffline ctx) s = actTo s.now s f := by
  show ∃ f, execZoneOffline ctx s = _
  unfold execZoneOffline runRow act
  exact ⟨_, rfl⟩
theorem form_zoneManagementReceive (ctx : Nat) (s : State) : ∃ f, exec (.zoneManagementReceive ctx) s = actTo s.now s f := by
  show ∃ f, execZoneManagementReceive ctx s = _
  unfold execZoneManagementReceive runRow act
  exact ⟨_, rfl⟩
theorem form_mirrorWriteHeld (pair : Nat) (s : State) : ∃ f, exec (.mirrorWriteHeld pair) s = actTo s.now s f := by
  show ∃ f, execMirrorWriteHeld pair s = _
  unfold execMirrorWriteHeld actWhen act
  exact ⟨_, rfl⟩
theorem form_sliceResetRequest (slice go : Nat) (s : State) : ∃ f, exec (.sliceResetRequest slice go) s = actTo s.now s f := by
  show ∃ f, execSliceResetRequest slice go s = _
  unfold execSliceResetRequest actWhen act
  exact ⟨_, rfl⟩
theorem form_sliceResetComplete (slice : Nat) (s : State) : ∃ f, exec (.sliceResetComplete slice) s = actTo s.now s f := by
  show ∃ f, execSliceResetComplete slice s = _
  unfold execSliceResetComplete act
  exact ⟨_, rfl⟩
theorem form_tokenRefill (s : State) : ∃ f, exec .tokenRefill s = actTo s.now s f := by
  show ∃ f, execTokenRefill s = _
  unfold execTokenRefill actWhen act
  exact ⟨_, rfl⟩
theorem form_readAroundBudgetExpiry (ctx : Nat) (s : State) : ∃ f, exec (.readAroundBudgetExpiry ctx) s = actTo s.now s f := by
  show ∃ f, execReadAroundBudgetExpiry ctx s = _
  unfold execReadAroundBudgetExpiry act
  exact ⟨_, rfl⟩
theorem form_busyReadAround (cw : Nat) (s : State) : ∃ f, exec (.busyReadAround cw) s = actTo s.now s f := by
  show ∃ f, execBusyReadAround cw s = _
  unfold execBusyReadAround actWhen act
  exact ⟨_, rfl⟩
theorem form_reconstructionComplete (cw : Nat) (s : State) : ∃ f, exec (.reconstructionComplete cw) s = actTo s.now s f := by
  show ∃ f, execReconstructionComplete cw s = _
  unfold execReconstructionComplete actWhen act
  exact ⟨_, rfl⟩
theorem form_wptRead (index : Nat) (s : State) : ∃ f, exec (.wptRead index) s = actTo s.now s f := by
  show ∃ f, execWptRead index s = _
  unfold execWptRead actWhen act
  exact ⟨_, rfl⟩
theorem form_wptWrite (index : Nat) (s : State) : ∃ f, exec (.wptWrite index) s = actTo s.now s f := by
  show ∃ f, execWptWrite index s = _
  unfold execWptWrite actWhen act
  exact ⟨_, rfl⟩
theorem form_wptInsert (index : Nat) (s : State) : ∃ f, exec (.wptInsert index) s = actTo s.now s f := by
  show ∃ f, execWptInsert index s = _
  unfold execWptInsert actWhen act
  exact ⟨_, rfl⟩
theorem form_wptDelete (index : Nat) (s : State) : ∃ f, exec (.wptDelete index) s = actTo s.now s f := by
  show ∃ f, execWptDelete index s = _
  unfold execWptDelete actWhen act
  exact ⟨_, rfl⟩
theorem form_wptMoveComplete (s : State) : ∃ f, exec .wptMoveComplete s = actTo s.now s f := by
  show ∃ f, execWptMoveComplete s = _
  unfold execWptMoveComplete actWhen act
  exact ⟨_, rfl⟩
theorem form_wptScrubTick (upset : Bool) (s : State) : ∃ f, exec (.wptScrubTick upset) s = actTo s.now s f := by
  show ∃ f, execWptScrubTick upset s = _
  unfold execWptScrubTick actWhen act
  exact ⟨_, rfl⟩
theorem form_accumulatorIdleSpill (acc : Nat) (s : State) : ∃ f, exec (.accumulatorIdleSpill acc) s = actTo s.now s f := by
  show ∃ f, execAccumulatorIdleSpill acc s = _
  unfold execAccumulatorIdleSpill actWhen act
  exact ⟨_, rfl⟩
theorem form_flushIssue (s : State) : ∃ f, exec .flushIssue s = actTo s.now s f := by
  show ∃ f, execFlushIssue s = _
  unfold execFlushIssue actWhen act
  exact ⟨_, rfl⟩
theorem form_flushToEmptyEnd (s : State) : ∃ f, exec .flushToEmptyEnd s = actTo s.now s f := by
  show ∃ f, execFlushToEmptyEnd s = _
  unfold execFlushToEmptyEnd actWhen act
  exact ⟨_, rfl⟩
theorem form_dirtyLimitRecompute (s : State) : ∃ f, exec .dirtyLimitRecompute s = actTo s.now s f := by
  show ∃ f, execDirtyLimitRecompute s = _
  unfold execDirtyLimitRecompute actWhen act
  exact ⟨_, rfl⟩
theorem form_dirtyLimitRaise (s : State) : ∃ f, exec .dirtyLimitRaise s = actTo s.now s f := by
  show ∃ f, execDirtyLimitRaise s = _
  unfold execDirtyLimitRaise actWhen act
  exact ⟨_, rfl⟩
theorem form_writeThroughExit (s : State) : ∃ f, exec .writeThroughExit s = actTo s.now s f := by
  show ∃ f, execWriteThroughExit s = _
  unfold execWriteThroughExit actWhen act
  exact ⟨_, rfl⟩
theorem form_writeThroughForce (value : Bool) (s : State) : ∃ f, exec (.writeThroughForce value) s = actTo s.now s f := by
  show ∃ f, execWriteThroughForce value s = _
  unfold execWriteThroughForce actWhen act
  exact ⟨_, rfl⟩
theorem form_bufferAllocate (pool owner slice : Nat) (internal : Bool) (s : State) : ∃ f, exec (.bufferAllocate pool owner slice internal) s = actTo s.now s f := by
  show ∃ f, execBufferAllocate pool owner slice internal s = _
  unfold execBufferAllocate actWhen act
  exact ⟨_, rfl⟩
theorem form_freeListRebuildEnd (list : Nat) (s : State) : ∃ f, exec (.freeListRebuildEnd list) s = actTo s.now s f := by
  show ∃ f, execFreeListRebuildEnd list s = _
  unfold execFreeListRebuildEnd actWhen act
  exact ⟨_, rfl⟩
theorem form_bufferRelease (pool index owner : Nat) (s : State) : ∃ f, exec (.bufferRelease pool index owner) s = actTo s.now s f := by
  show ∃ f, execBufferRelease pool index owner s = _
  unfold execBufferRelease actWhen act
  exact ⟨_, rfl⟩
theorem form_bufferTransfer (pool index owner newOwner : Nat) (s : State) : ∃ f, exec (.bufferTransfer pool index owner newOwner) s = actTo s.now s f := by
  show ∃ f, execBufferTransfer pool index owner newOwner s = _
  unfold execBufferTransfer actWhen act
  exact ⟨_, rfl⟩
theorem form_bufferShare (pool index owner n : Nat) (s : State) : ∃ f, exec (.bufferShare pool index owner n) s = actTo s.now s f := by
  show ∃ f, execBufferShare pool index owner n s = _
  unfold execBufferShare actWhen act
  exact ⟨_, rfl⟩
theorem form_bufferDrop (pool index owner : Nat) (s : State) : ∃ f, exec (.bufferDrop pool index owner) s = actTo s.now s f := by
  show ∃ f, execBufferDrop pool index owner s = _
  unfold execBufferDrop actWhen act
  exact ⟨_, rfl⟩
theorem form_dieOperationStart (ch die : Nat) (s : State) : ∃ f, exec (.dieOperationStart ch die) s = actTo s.now s f := by
  show ∃ f, execDieOperationStart ch die s = _
  unfold execDieOperationStart actWhen act
  exact ⟨_, rfl⟩
theorem form_programComplete (ch die : Nat) (pass : Bool) (s : State) : ∃ f, exec (.programComplete ch die pass) s = actTo s.now s f := by
  show ∃ f, execProgramComplete ch die pass s = _
  unfold execProgramComplete actWhen act
  exact ⟨_, rfl⟩
theorem form_eraseComplete (ch die : Nat) (pass : Bool) (s : State) : ∃ f, exec (.eraseComplete ch die pass) s = actRemoving s f := by
  show ∃ f, execEraseComplete ch die pass s = _
  unfold execEraseComplete actRemovingWhen
  exact ⟨_, rfl⟩
theorem form_hardReadComplete (ch die page : Nat) (s : State) : ∃ f, exec (.hardReadComplete ch die page) s = actTo s.now s f := by
  show ∃ f, execHardReadComplete ch die page s = _
  unfold execHardReadComplete actWhen act
  exact ⟨_, rfl⟩
theorem form_sampleReadComplete (ch die : Nat) (s : State) : ∃ f, exec (.sampleReadComplete ch die) s = actTo s.now s f := by
  show ∃ f, execSampleReadComplete ch die s = _
  unfold execSampleReadComplete actWhen act
  exact ⟨_, rfl⟩
theorem form_burstReceived (ch : Nat) (bytes : List Nat) (s : State) : ∃ f, exec (.burstReceived ch bytes) s = actTo s.now s f := by
  show ∃ f, execBurstReceived ch bytes s = _
  unfold execBurstReceived actWhen act
  exact ⟨_, rfl⟩
theorem form_sampleOutEnd (ch : Nat) (s : State) : ∃ f, exec (.sampleOutEnd ch) s = actTo s.now s f := by
  show ∃ f, execSampleOutEnd ch s = _
  unfold execSampleOutEnd actWhen act
  exact ⟨_, rfl⟩
theorem form_codewordDecoded (cw iters word : Nat) (check : Bool) (s : State) : ∃ f, exec (.codewordDecoded cw iters word check) s = actTo s.now s f := by
  show ∃ f, execCodewordDecoded cw iters word check s = _
  unfold execCodewordDecoded actWhen act
  exact ⟨_, rfl⟩
theorem form_codewordDecodeFail (cw : Nat) (s : State) : ∃ f, exec (.codewordDecodeFail cw) s = actTo s.now s f := by
  show ∃ f, execCodewordDecodeFail cw s = _
  unfold execCodewordDecodeFail actWhen act
  exact ⟨_, rfl⟩
theorem form_ladderStepBudgetExpiry (cw : Nat) (s : State) : ∃ f, exec (.ladderStepBudgetExpiry cw) s = actTo s.now s f := by
  show ∃ f, execLadderStepBudgetExpiry cw s = _
  unfold execLadderStepBudgetExpiry actWhen act
  exact ⟨_, rfl⟩
theorem form_programSuspend (ch die : Nat) (s : State) : ∃ f, exec (.programSuspend ch die) s = actTo s.now s f := by
  show ∃ f, execProgramSuspend ch die s = _
  unfold execProgramSuspend actWhen act
  exact ⟨_, rfl⟩
theorem form_eraseSuspend (ch die : Nat) (s : State) : ∃ f, exec (.eraseSuspend ch die) s = actTo s.now s f := by
  show ∃ f, execEraseSuspend ch die s = _
  unfold execEraseSuspend actWhen act
  exact ⟨_, rfl⟩
theorem form_suspendComplete (ch die : Nat) (s : State) : ∃ f, exec (.suspendComplete ch die) s = actTo s.now s f := by
  show ∃ f, execSuspendComplete ch die s = _
  unfold execSuspendComplete actWhen act
  exact ⟨_, rfl⟩
theorem form_programResume (ch die : Nat) (s : State) : ∃ f, exec (.programResume ch die) s = actTo s.now s f := by
  show ∃ f, execProgramResume ch die s = _
  unfold execProgramResume actWhen act
  exact ⟨_, rfl⟩
theorem form_eraseResume (ch die : Nat) (s : State) : ∃ f, exec (.eraseResume ch die) s = actTo s.now s f := by
  show ∃ f, execEraseResume ch die s = _
  unfold execEraseResume actWhen act
  exact ⟨_, rfl⟩
theorem form_dieReadyTimeout (ch die : Nat) (idOk : Bool) (s : State) : ∃ f, exec (.dieReadyTimeout ch die idOk) s = actTo s.now s f := by
  show ∃ f, execDieReadyTimeout ch die idOk s = _
  unfold execDieReadyTimeout actWhen act
  exact ⟨_, rfl⟩
theorem form_rebuildWordline (ch die : Nat) (s : State) : ∃ f, exec (.rebuildWordline ch die) s = actTo s.now s f := by
  show ∃ f, execRebuildWordline ch die s = _
  unfold execRebuildWordline actWhen act
  exact ⟨_, rfl⟩
theorem form_retrainPeriodExpiry (ch : Nat) (s : State) : ∃ f, exec (.retrainPeriodExpiry ch) s = actTo s.now s f := by
  show ∃ f, execRetrainPeriodExpiry ch s = _
  unfold execRetrainPeriodExpiry actWhen act
  exact ⟨_, rfl⟩
theorem form_retrainingSlotStart (s : State) : ∃ f, exec .retrainingSlotStart s = actTo s.now s f := by
  show ∃ f, execRetrainingSlotStart s = _
  unfold execRetrainingSlotStart actWhen act
  exact ⟨_, rfl⟩
theorem form_retrainingSlotEnd (eye : Nat) (burst : List Nat) (s : State) : ∃ f, exec (.retrainingSlotEnd eye burst) s = actTo s.now s f := by
  show ∃ f, execRetrainingSlotEnd eye burst s = _
  unfold execRetrainingSlotEnd actWhen act
  exact ⟨_, rfl⟩
theorem form_slotDeferTimeout (s : State) : ∃ f, exec .slotDeferTimeout s = actTo s.now s f := by
  show ∃ f, execSlotDeferTimeout s = _
  unfold execSlotDeferTimeout actWhen act
  exact ⟨_, rfl⟩
theorem form_fullRetrainingStart (ch : Nat) (s : State) : ∃ f, exec (.fullRetrainingStart ch) s = actTo s.now s f := by
  show ∃ f, execFullRetrainingStart ch s = _
  unfold execFullRetrainingStart actWhen act
  exact ⟨_, rfl⟩
theorem form_fullRetrainingEnd (ch : Nat) (ok : Bool) (training : List DieTraining) (s : State) : ∃ f, exec (.fullRetrainingEnd ch ok training) s = actRemoving s f := by
  show ∃ f, execFullRetrainingEnd ch ok training s = _
  unfold execFullRetrainingEnd actRemovingWhen
  exact ⟨_, rfl⟩
theorem form_sdfClassClr (ch : Nat) (s : State) : ∃ f, exec (.sdfClassClr ch) s = actTo s.now s f := by
  show ∃ f, execSdfClassClr ch s = _
  unfold execSdfClassClr actWhen act
  exact ⟨_, rfl⟩
theorem form_sdfBadcolWrite (ch value : Nat) (s : State) : ∃ f, exec (.sdfBadcolWrite ch value) s = actRemoving s f := by
  show ∃ f, execSdfBadcolWrite ch value s = _
  unfold execSdfBadcolWrite actRemovingWhen
  exact ⟨_, rfl⟩
theorem form_ldcStNow (s : State) : ∃ f, exec .ldcStNow s = actTo s.now s f := by
  show ∃ f, execLdcStNow s = _
  unfold execLdcStNow actWhen act
  exact ⟨_, rfl⟩
theorem form_ldcSelftestPeriod (s : State) : ∃ f, exec .ldcSelftestPeriod s = actTo s.now s f := by
  show ∃ f, execLdcSelftestPeriod s = _
  unfold execLdcSelftestPeriod actWhen act
  exact ⟨_, rfl⟩
theorem form_ldcSelftestEnd (pass : Bool) (s : State) : ∃ f, exec (.ldcSelftestEnd pass) s = actTo s.now s f := by
  show ∃ f, execLdcSelftestEnd pass s = _
  unfold execLdcSelftestEnd actWhen act
  exact ⟨_, rfl⟩
theorem form_reallocationAccept (ch die block : Nat) (s : State) : ∃ f, exec (.reallocationAccept ch die block) s = actTo s.now s f := by
  show ∃ f, execReallocationAccept ch die block s = _
  unfold execReallocationAccept actWhen act
  exact ⟨_, rfl⟩
theorem form_relocationStep (s : State) : ∃ f, exec .relocationStep s = actTo s.now s f := by
  show ∃ f, execRelocationStep s = _
  unfold execRelocationStep actWhen act
  exact ⟨_, rfl⟩
theorem form_xltRelocOldest (n : Nat) (s : State) : ∃ f, exec (.xltRelocOldest n) s = actTo s.now s f := by
  show ∃ f, execXltRelocOldest n s = _
  unfold execXltRelocOldest actWhen act
  exact ⟨_, rfl⟩
theorem form_xltCkptNow (s : State) : ∃ f, exec .xltCkptNow s = actTo s.now s f := by
  show ∃ f, execXltCkptNow s = _
  unfold execXltCkptNow actWhen act
  exact ⟨_, rfl⟩
theorem form_checkpointTimer (s : State) : ∃ f, exec .checkpointTimer s = actTo s.now s f := by
  show ∃ f, execCheckpointTimer s = _
  unfold execCheckpointTimer actWhen act
  exact ⟨_, rfl⟩
theorem form_checkpointCommit (s : State) : ∃ f, exec .checkpointCommit s = actTo s.now s f := by
  show ∃ f, execCheckpointCommit s = _
  unfold execCheckpointCommit actWhen act
  exact ⟨_, rfl⟩
theorem form_checkpointLateTimeout (s : State) : ∃ f, exec .checkpointLateTimeout s = actTo s.now s f := by
  show ∃ f, execCheckpointLateTimeout s = _
  unfold execCheckpointLateTimeout actWhen act
  exact ⟨_, rfl⟩
theorem form_mapRestartEnd (ms : Nat) (badRecords : List Nat) (badFooters : List (Nat × Nat × Nat)) (s : State) : ∃ f, exec (.mapRestartEnd ms badRecords badFooters) s = actTo s.now s f := by
  show ∃ f, execMapRestartEnd ms badRecords badFooters s = _
  unfold execMapRestartEnd actWhen act
  exact ⟨_, rfl⟩
theorem form_mapRebuildEnd (s : State) : ∃ f, exec .mapRebuildEnd s = actTo s.now s f := by
  show ∃ f, execMapRebuildEnd s = _
  unfold execMapRebuildEnd actWhen act
  exact ⟨_, rfl⟩
theorem form_inputLoss (s : State) : ∃ f, exec .inputLoss s = actTo s.now s f := by
  show ∃ f, execInputLoss s = _
  unfold execInputLoss actWhen act
  exact ⟨_, rfl⟩
theorem form_dumpPaceTick (s : State) : ∃ f, exec .dumpPaceTick s = actTo s.now s f := by
  show ∃ f, execDumpPaceTick s = _
  unfold execDumpPaceTick actWhen act
  exact ⟨_, rfl⟩
theorem form_dumpProgramComplete (ch die : Nat) (outcome : Nat) (s : State) : ∃ f, exec (.dumpProgramComplete ch die outcome) s = actTo s.now s f := by
  show ∃ f, execDumpProgramComplete ch die outcome s = _
  unfold execDumpProgramComplete actWhen act
  exact ⟨_, rfl⟩
theorem form_dumpCommit (s : State) : ∃ f, exec .dumpCommit s = actTo s.now s f := by
  show ∃ f, execDumpCommit s = _
  unfold execDumpCommit actWhen act
  exact ⟨_, rfl⟩
theorem form_dumpAbandon (s : State) : ∃ f, exec .dumpAbandon s = actTo s.now s f := by
  show ∃ f, execDumpAbandon s = _
  unfold execDumpAbandon actWhen act
  exact ⟨_, rfl⟩
theorem form_dumpSupersede (s : State) : ∃ f, exec .dumpSupersede s = actTo s.now s f := by
  show ∃ f, execDumpSupersede s = _
  unfold execDumpSupersede actWhen act
  exact ⟨_, rfl⟩
theorem form_inputValid (mv : Nat) (s : State) : ∃ f, exec (.inputValid mv) s = actTo s.now s f := by
  show ∃ f, execInputValid mv s = _
  unfold execInputValid actWhen act
  exact ⟨_, rfl⟩
theorem form_inputInvalid (mv : Nat) (s : State) : ∃ f, exec (.inputInvalid mv) s = actTo s.now s f := by
  show ∃ f, execInputInvalid mv s = _
  unfold execInputInvalid actWhen act
  exact ⟨_, rfl⟩
theorem form_returnComplete (lostUnits : List Nat) (s : State) : ∃ f, exec (.returnComplete lostUnits) s = actTo s.now s f := by
  show ∃ f, execReturnComplete lostUnits s = _
  unfold execReturnComplete actWhen act
  exact ⟨_, rfl⟩
theorem form_returnWaitTimeout (s : State) : ∃ f, exec .returnWaitTimeout s = actTo s.now s f := by
  show ∃ f, execReturnWaitTimeout s = _
  unfold execReturnWaitTimeout actWhen act
  exact ⟨_, rfl⟩
theorem form_gaugeSample (volts : Nat) (amps temp : Int) (s : State) : ∃ f, exec (.gaugeSample volts amps temp) s = actTo s.now s f := by
  show ∃ f, execGaugeSample volts amps temp s = _
  unfold execGaugeSample actWhen act
  exact ⟨_, rfl⟩
theorem form_gaugeRecompute (s : State) : ∃ f, exec .gaugeRecompute s = actTo s.now s f := by
  show ∃ f, execGaugeRecompute s = _
  unfold execGaugeRecompute actWhen act
  exact ⟨_, rfl⟩
theorem form_restWindowEnd (ocv : Nat) (s : State) : ∃ f, exec (.restWindowEnd ocv) s = actTo s.now s f := by
  show ∃ f, execRestWindowEnd ocv s = _
  unfold execRestWindowEnd actWhen act
  exact ⟨_, rfl⟩
theorem form_forcedRestDue (s : State) : ∃ f, exec .forcedRestDue s = actTo s.now s f := by
  show ∃ f, execForcedRestDue s = _
  unfold execForcedRestDue actWhen act
  exact ⟨_, rfl⟩
theorem form_uncertaintyHourly (s : State) : ∃ f, exec .uncertaintyHourly s = actTo s.now s f := by
  show ∃ f, execUncertaintyHourly s = _
  unfold execUncertaintyHourly actWhen act
  exact ⟨_, rfl⟩
theorem form_estimateDisagree (s : State) : ∃ f, exec .estimateDisagree s = actTo s.now s f := by
  show ∃ f, execEstimateDisagree s = _
  unfold execEstimateDisagree actWhen act
  exact ⟨_, rfl⟩
theorem form_hucZNow (s : State) : ∃ f, exec .hucZNow s = actTo s.now s f := by
  show ∃ f, execHucZNow s = _
  unfold execHucZNow actWhen act
  exact ⟨_, rfl⟩
theorem form_impedanceStepStart (s : State) : ∃ f, exec .impedanceStepStart s = actTo s.now s f := by
  show ∃ f, execImpedanceStepStart s = _
  unfold execImpedanceStepStart actWhen act
  exact ⟨_, rfl⟩
theorem form_impedanceMeasure (dv di : Nat) (s : State) : ∃ f, exec (.impedanceMeasure dv di) s = actTo s.now s f := by
  show ∃ f, execImpedanceMeasure dv di s = _
  unfold execImpedanceMeasure actWhen act
  exact ⟨_, rfl⟩
theorem form_impedanceStepEnd (s : State) : ∃ f, exec .impedanceStepEnd s = actTo s.now s f := by
  show ∃ f, execImpedanceStepEnd s = _
  unfold execImpedanceStepEnd actWhen act
  exact ⟨_, rfl⟩
theorem form_packHotTimeout (s : State) : ∃ f, exec .packHotTimeout s = actTo s.now s f := by
  show ∃ f, execPackHotTimeout s = _
  unfold execPackHotTimeout actWhen act
  exact ⟨_, rfl⟩
theorem form_chargeTimeout (s : State) : ∃ f, exec .chargeTimeout s = actTo s.now s f := by
  show ∃ f, execChargeTimeout s = _
  unfold execChargeTimeout actWhen act
  exact ⟨_, rfl⟩
theorem form_packInsert (found : PackFound) (s : State) : ∃ f, exec (.packInsert found) s = actTo s.now s f := by
  show ∃ f, execPackInsert found s = _
  unfold execPackInsert actWhen act
  exact ⟨_, rfl⟩
theorem form_packRemove (s : State) : ∃ f, exec .packRemove s = actTo s.now s f := by
  show ∃ f, execPackRemove s = _
  unfold execPackRemove actWhen act
  exact ⟨_, rfl⟩
theorem form_hucLearnNow (s : State) : ∃ f, exec .hucLearnNow s = actTo s.now s f := by
  show ∃ f, execHucLearnNow s = _
  unfold execHucLearnNow actWhen act
  exact ⟨_, rfl⟩
theorem form_learnStart (s : State) : ∃ f, exec .learnStart s = actTo s.now s f := by
  show ∃ f, execLearnStart s = _
  unfold execLearnStart actWhen act
  exact ⟨_, rfl⟩
theorem form_learnRestEnd (ocv : Nat) (s : State) : ∃ f, exec (.learnRestEnd ocv) s = actTo s.now s f := by
  show ∃ f, execLearnRestEnd ocv s = _
  unfold execLearnRestEnd actWhen act
  exact ⟨_, rfl⟩
theorem form_hucRestNow (s : State) : ∃ f, exec .hucRestNow s = actTo s.now s f := by
  show ∃ f, execHucRestNow s = _
  unfold execHucRestNow actWhen act
  exact ⟨_, rfl⟩
theorem form_lifeRecordPeriod (s : State) : ∃ f, exec .lifeRecordPeriod s = actTo s.now s f := by
  show ∃ f, execLifeRecordPeriod s = _
  unfold execLifeRecordPeriod actWhen act
  exact ⟨_, rfl⟩
theorem form_railOutOfWindow (rail dir mv ns : Nat) (s : State) : ∃ f, exec (.railOutOfWindow rail dir mv ns) s = actTo s.now s f := by
  show ∃ f, execRailOutOfWindow rail dir mv ns s = _
  unfold execRailOutOfWindow actWhen act
  exact ⟨_, rfl⟩
theorem form_aoPowerOnReset (s : State) : ∃ f, exec .aoPowerOnReset s = actRemovingTo 0 s f := by
  show ∃ f, execAoPowerOnReset s = _
  unfold execAoPowerOnReset
  exact ⟨_, rfl⟩
theorem form_powerUpStart (split recover test : Bool) (s : State) : ∃ f, exec (.powerUpStart split recover test) s = actTo s.now s f := by
  show ∃ f, execPowerUpStart split recover test s = _
  unfold execPowerUpStart actWhen act
  exact ⟨_, rfl⟩
theorem form_railPowerGood (rail : Nat) (s : State) : ∃ f, exec (.railPowerGood rail) s = actTo s.now s f := by
  show ∃ f, execRailPowerGood rail s = _
  unfold execRailPowerGood actWhen act
  exact ⟨_, rfl⟩
theorem form_railSettleDone (rail : Nat) (env : BootEnv) (s : State) : ∃ f, exec (.railSettleDone rail env) s = actTo s.now s f := by
  show ∃ f, execRailSettleDone rail env s = _
  unfold execRailSettleDone actWhen act
  exact ⟨_, rfl⟩
theorem form_bootEnd (s : State) : ∃ f, exec .bootEnd s = actTo s.now s f := by
  show ∃ f, execBootEnd s = _
  unfold execBootEnd actWhen act
  exact ⟨_, rfl⟩
theorem form_partialParityRebuildEnd (found : List (Nat × Nat × NMap Nat)) (s : State) : ∃ f, exec (.partialParityRebuildEnd found) s = actTo s.now s f := by
  show ∃ f, execPartialParityRebuildEnd found s = _
  unfold execPartialParityRebuildEnd actWhen act
  exact ⟨_, rfl⟩
theorem form_powerGoodTimeout (rail : Nat) (s : State) : ∃ f, exec (.powerGoodTimeout rail) s = actTo s.now s f := by
  show ∃ f, execPowerGoodTimeout rail s = _
  unfold execPowerGoodTimeout actWhen act
  exact ⟨_, rfl⟩
theorem form_offFlushTimeout (s : State) : ∃ f, exec .offFlushTimeout s = actTo s.now s f := by
  show ∃ f, execOffFlushTimeout s = _
  unfold execOffFlushTimeout actWhen act
  exact ⟨_, rfl⟩
theorem form_flashReadyWaitEnd (s : State) : ∃ f, exec .flashReadyWaitEnd s = actTo s.now s f := by
  show ∃ f, execFlashReadyWaitEnd s = _
  unfold execFlashReadyWaitEnd actWhen act
  exact ⟨_, rfl⟩
theorem form_railDischarged (rail : Nat) (s : State) : ∃ f, exec (.railDischarged rail) s = actTo s.now s f := by
  show ∃ f, execRailDischarged rail s = _
  unfold execRailDischarged act
  exact ⟨_, rfl⟩
theorem form_dischargeTimeout (rail : Nat) (s : State) : ∃ f, exec (.dischargeTimeout rail) s = actTo s.now s f := by
  show ∃ f, execDischargeTimeout rail s = _
  unfold execDischargeTimeout actWhen act
  exact ⟨_, rfl⟩
theorem form_psqOff (s : State) : ∃ f, exec .psqOff s = actTo s.now s f := by
  show ∃ f, execPsqOff s = _
  unfold execPsqOff actWhen act
  exact ⟨_, rfl⟩
theorem form_psqRstoPulse (bits : Nat) (s : State) : ∃ f, exec (.psqRstoPulse bits) s = actTo s.now s f := by
  show ∃ f, execPsqRstoPulse bits s = _
  unfold execPsqRstoPulse actWhen act
  exact ⟨_, rfl⟩
theorem form_rstoStretchExpiry (output : Nat) (s : State) : ∃ f, exec (.rstoStretchExpiry output) s = actTo s.now s f := by
  show ∃ f, execRstoStretchExpiry output s = _
  unfold execRstoStretchExpiry act
  exact ⟨_, rfl⟩
theorem form_droopEngage (sensor mv : Nat) (s : State) : ∃ f, exec (.droopEngage sensor mv) s = actTo s.now s f := by
  show ∃ f, execDroopEngage sensor mv s = _
  unfold execDroopEngage actWhen act
  exact ⟨_, rfl⟩
theorem form_droopRelease (s : State) : ∃ f, exec .droopRelease s = actRemoving s f := by
  show ∃ f, execDroopRelease s = _
  unfold execDroopRelease
  exact ⟨_, rfl⟩
theorem form_droopLong (s : State) : ∃ f, exec .droopLong s = actTo s.now s f := by
  show ∃ f, execDroopLong s = _
  unfold execDroopLong actWhen act
  exact ⟨_, rfl⟩
theorem form_modeTargetRun (s : State) : ∃ f, exec .modeTargetRun s = actTo s.now s f := by
  show ∃ f, execModeTargetRun s = _
  unfold execModeTargetRun actWhen act
  exact ⟨_, rfl⟩
theorem form_modeTargetService (s : State) : ∃ f, exec .modeTargetService s = actTo s.now s f := by
  show ∃ f, execModeTargetService s = _
  unfold execModeTargetService actWhen act
  exact ⟨_, rfl⟩
theorem form_holdRequest (s : State) : ∃ f, exec .holdRequest s = actTo s.now s f := by
  show ∃ f, execHoldRequest s = _
  unfold execHoldRequest actWhen act
  exact ⟨_, rfl⟩
theorem form_holdRelease (s : State) : ∃ f, exec .holdRelease s = actTo s.now s f := by
  show ∃ f, execHoldRelease s = _
  unfold execHoldRelease actWhen act
  exact ⟨_, rfl⟩
theorem form_thermAck (s : State) : ∃ f, exec .thermAck s = actTo s.now s f := by
  show ∃ f, execThermAck s = _
  unfold execThermAck actWhen act
  exact ⟨_, rfl⟩
theorem form_restIdleExpiry (l12 idleMs noSref : Nat) (s : State) : ∃ f, exec (.restIdleExpiry l12 idleMs noSref) s = actTo s.now s f := by
  show ∃ f, execRestIdleExpiry l12 idleMs noSref s = _
  unfold execRestIdleExpiry actWhen act
  exact ⟨_, rfl⟩
theorem form_restEntryComplete (s : State) : ∃ f, exec .restEntryComplete s = actTo s.now s f := by
  show ∃ f, execRestEntryComplete s = _
  unfold execRestEntryComplete actWhen act
  exact ⟨_, rfl⟩
theorem form_clkreqAssert (port : Nat) (s : State) : ∃ f, exec (.clkreqAssert port) s = actTo s.now s f := by
  show ∃ f, execClkreqAssert port s = _
  unfold execClkreqAssert actWhen act
  exact ⟨_, rfl⟩
theorem form_causewaySignalDetect (port : Nat) (s : State) : ∃ f, exec (.causewaySignalDetect port) s = actTo s.now s f := by
  show ∃ f, execCausewaySignalDetect port s = _
  unfold execCausewaySignalDetect actWhen act
  exact ⟨_, rfl⟩
theorem form_smbusAddressMatch (s : State) : ∃ f, exec .smbusAddressMatch s = actTo s.now s f := by
  show ∃ f, execSmbusAddressMatch s = _
  unfold execSmbusAddressMatch actWhen act
  exact ⟨_, rfl⟩
theorem form_wakeStepDone (us : Nat) (powerGood : Bool) (s : State) : ∃ f, exec (.wakeStepDone us powerGood) s = actTo s.now s f := by
  show ∃ f, execWakeStepDone us powerGood s = _
  unfold execWakeStepDone actWhen act
  exact ⟨_, rfl⟩
theorem form_padRelease (groups : Nat) (s : State) : ∃ f, exec (.padRelease groups) s = actTo s.now s f := by
  show ∃ f, execPadRelease groups s = _
  unfold execPadRelease actWhen act
  exact ⟨_, rfl⟩
theorem form_padReleaseTimeout (s : State) : ∃ f, exec .padReleaseTimeout s = actTo s.now s f := by
  show ∃ f, execPadReleaseTimeout s = _
  unfold execPadReleaseTimeout actWhen act
  exact ⟨_, rfl⟩
theorem form_watchEntry (s : State) : ∃ f, exec .watchEntry s = actTo s.now s f := by
  show ∃ f, execWatchEntry s = _
  unfold execWatchEntry actWhen act
  exact ⟨_, rfl⟩
theorem form_watchRound (inputMv packMv : Nat) (temp : Int) (present : Bool) (s : State) : ∃ f, exec (.watchRound inputMv packMv temp present) s = actTo s.now s f := by
  show ∃ f, execWatchRound inputMv packMv temp present s = _
  unfold execWatchRound actWhen act
  exact ⟨_, rfl⟩
theorem form_watchInputSample (mv : List Nat) (s : State) : ∃ f, exec (.watchInputSample mv) s = actTo s.now s f := by
  show ∃ f, execWatchInputSample mv s = _
  unfold execWatchInputSample actWhen act
  exact ⟨_, rfl⟩
theorem form_watchGaugeWake (byCurrent : Bool) (s : State) : ∃ f, exec (.watchGaugeWake byCurrent) s = actTo s.now s f := by
  show ∃ f, execWatchGaugeWake byCurrent s = _
  unfold execWatchGaugeWake actWhen act
  exact ⟨_, rfl⟩
theorem form_watchGaugeSleep (s : State) : ∃ f, exec .watchGaugeSleep s = actTo s.now s f := by
  show ∃ f, execWatchGaugeSleep s = _
  unfold execWatchGaugeSleep actWhen act
  exact ⟨_, rfl⟩
theorem form_dramRequest (ch : Nat) (req : DramReq) (s : State) : ∃ f, exec (.dramRequest ch req) s = actTo s.now s f := by
  show ∃ f, execDramRequest ch req s = _
  unfold execDramRequest actWhen act
  exact ⟨_, rfl⟩
theorem form_dramReadComplete (ch : Nat) (outcome : DramOutcome) (s : State) : ∃ f, exec (.dramReadComplete ch outcome) s = actTo s.now s f := by
  show ∃ f, execDramReadComplete ch outcome s = _
  unfold execDramReadComplete actWhen act
  exact ⟨_, rfl⟩
theorem form_dramFence (ch source : Nat) (s : State) : ∃ f, exec (.dramFence ch source) s = actTo s.now s f := by
  show ∃ f, execDramFence ch source s = _
  unfold execDramFence actWhen act
  exact ⟨_, rfl⟩
theorem form_dramRefresh (ch bank : Nat) (s : State) : ∃ f, exec (.dramRefresh ch bank) s = actTo s.now s f := by
  show ∃ f, execDramRefresh ch bank s = _
  unfold execDramRefresh actWhen act
  exact ⟨_, rfl⟩
theorem form_mr4Poll (ch value : Nat) (s : State) : ∃ f, exec (.mr4Poll ch value) s = actTo s.now s f := by
  show ∃ f, execMr4Poll ch value s = _
  unfold execMr4Poll actWhen act
  exact ⟨_, rfl⟩
theorem form_dramAlert (ch : Nat) (s : State) : ∃ f, exec (.dramAlert ch) s = actTo s.now s f := by
  show ∃ f, execDramAlert ch s = _
  unfold execDramAlert actWhen act
  exact ⟨_, rfl⟩
theorem form_dramRetrainEnd (ch : Nat) (alerts : Bool) (s : State) : ∃ f, exec (.dramRetrainEnd ch alerts) s = actTo s.now s f := by
  show ∃ f, execDramRetrainEnd ch alerts s = _
  unfold execDramRetrainEnd actWhen act
  exact ⟨_, rfl⟩
theorem form_dramStrobeTimeout (ch : Nat) (s : State) : ∃ f, exec (.dramStrobeTimeout ch) s = actTo s.now s f := by
  show ∃ f, execDramStrobeTimeout ch s = _
  unfold execDramStrobeTimeout actWhen act
  exact ⟨_, rfl⟩
theorem form_dramSoftRepair (ch index : Nat) (resource : Bool) (s : State) : ∃ f, exec (.dramSoftRepair ch index resource) s = actTo s.now s f := by
  show ∃ f, execDramSoftRepair ch index resource s = _
  unfold execDramSoftRepair actWhen act
  exact ⟨_, rfl⟩
theorem form_dramRepairEnd (ch : Nat) (bad : List Nat) (s : State) : ∃ f, exec (.dramRepairEnd ch bad) s = actTo s.now s f := by
  show ∃ f, execDramRepairEnd ch bad s = _
  unfold execDramRepairEnd actWhen act
  exact ⟨_, rfl⟩
theorem form_dramPatrolScrub (ch : Nat) (outcome : DramOutcome) (s : State) : ∃ f, exec (.dramPatrolScrub ch outcome) s = actTo s.now s f := by
  show ∃ f, execDramPatrolScrub ch outcome s = _
  unfold execDramPatrolScrub actWhen act
  exact ⟨_, rfl⟩
theorem form_dmcScrubGo (value : Nat) (s : State) : ∃ f, exec (.dmcScrubGo value) s = actTo s.now s f := by
  show ∃ f, execDmcScrubGo value s = _
  unfold execDmcScrubGo actWhen act
  exact ⟨_, rfl⟩
theorem form_dramScrubRangeEnd (ch : Nat) (corrected uncorrectable : List Nat) (s : State) : ∃ f, exec (.dramScrubRangeEnd ch corrected uncorrectable) s = actTo s.now s f := by
  show ∃ f, execDramScrubRangeEnd ch corrected uncorrectable s = _
  unfold execDramScrubRangeEnd actWhen act
  exact ⟨_, rfl⟩
theorem form_sramCorrectedWord (mac word : Nat) (scrub : Bool) (writes : List SramWrite) (s : State) : ∃ f, exec (.sramCorrectedWord mac word scrub writes) s = actTo s.now s f := by
  show ∃ f, execSramCorrectedWord mac word scrub writes s = _
  unfold execSramCorrectedWord actWhen act
  exact ⟨_, rfl⟩
theorem form_sramUncorrectableWord (mac word kind master : Nat) (inHandler : Bool) (table : SramTable) (ctx : Option Nat) (writes : List SramWrite) (s : State) : ∃ f, exec (.sramUncorrectableWord mac word kind master inHandler table ctx writes) s = actTo s.now s f := by
  show ∃ f, execSramUncorrectableWord mac word kind master inHandler table ctx writes s = _
  unfold execSramUncorrectableWord actWhen act
  exact ⟨_, rfl⟩
theorem form_mpuDmaRearm (value : Nat) (s : State) : ∃ f, exec (.mpuDmaRearm value) s = actTo s.now s f := by
  show ∃ f, execMpuDmaRearm value s = _
  unfold execMpuDmaRearm actWhen act
  exact ⟨_, rfl⟩
theorem form_mpuScrubGo (value : Nat) (s : State) : ∃ f, exec (.mpuScrubGo value) s = actTo s.now s f := by
  show ∃ f, execMpuScrubGo value s = _
  unfold execMpuScrubGo actWhen act
  exact ⟨_, rfl⟩
theorem form_sramScrubEnd (writes : List SramWrite) (s : State) : ∃ f, exec (.sramScrubEnd writes) s = actTo s.now s f := by
  show ∃ f, execSramScrubEnd writes s = _
  unfold execSramScrubEnd actWhen act
  exact ⟨_, rfl⟩
theorem form_causewayTrained (port rate : Nat) (s : State) : ∃ f, exec (.causewayTrained port rate) s = actTo s.now s f := by
  show ∃ f, execCausewayTrained port rate s = _
  unfold execCausewayTrained actWhen act
  exact ⟨_, rfl⟩
theorem form_helloTimer (port : Nat) (s : State) : ∃ f, exec (.helloTimer port) s = actTo s.now s f := by
  show ∃ f, execHelloTimer port s = _
  unfold execHelloTimer actWhen act
  exact ⟨_, rfl⟩
theorem form_helloReceived (port : Nat) (hello : Hello) (s : State) : ∃ f, exec (.helloReceived port hello) s = actTo s.now s f := by
  show ∃ f, execHelloReceived port hello s = _
  unfold execHelloReceived actWhen act
  exact ⟨_, rfl⟩
theorem form_helloDeadTimeout (port : Nat) (s : State) : ∃ f, exec (.helloDeadTimeout port) s = actTo s.now s f := by
  show ∃ f, execHelloDeadTimeout port s = _
  unfold execHelloDeadTimeout actWhen act
  exact ⟨_, rfl⟩
theorem form_blockLockLoss (port : Nat) (s : State) : ∃ f, exec (.blockLockLoss port) s = actTo s.now s f := by
  show ∃ f, execBlockLockLoss port s = _
  unfold execBlockLockLoss actWhen act
  exact ⟨_, rfl⟩
theorem form_lsaReceived (port : Nat) (lsa : Lsa) (s : State) : ∃ f, exec (.lsaReceived port lsa) s = actTo s.now s f := by
  show ∃ f, execLsaReceived port lsa s = _
  unfold execLsaReceived actWhen act
  exact ⟨_, rfl⟩
theorem form_lsaRefreshTimer (s : State) : ∃ f, exec .lsaRefreshTimer s = actTo s.now s f := by
  show ∃ f, execLsaRefreshTimer s = _
  unfold execLsaRefreshTimer actWhen act
  exact ⟨_, rfl⟩
theorem form_lsaAgeOut (node : Nat) (s : State) : ∃ f, exec (.lsaAgeOut node) s = actTo s.now s f := by
  show ∃ f, execLsaAgeOut node s = _
  unfold execLsaAgeOut actWhen act
  exact ⟨_, rfl⟩
theorem form_pathRecomputeDone (s : State) : ∃ f, exec .pathRecomputeDone s = actTo s.now s f := by
  show ∃ f, execPathRecomputeDone s = _
  unfold execPathRecomputeDone actWhen act
  exact ⟨_, rfl⟩
theorem form_ackTimer (port : Nat) (s : State) : ∃ f, exec (.ackTimer port) s = actTo s.now s f := by
  show ∃ f, execAckTimer port s = _
  unfold execAckTimer actWhen act
  exact ⟨_, rfl⟩
theorem form_ackReceived (port seq : Nat) (s : State) : ∃ f, exec (.ackReceived port seq) s = actTo s.now s f := by
  show ∃ f, execAckReceived port seq s = _
  unfold execAckReceived actWhen act
  exact ⟨_, rfl⟩
theorem form_nakReceived (port seq : Nat) (s : State) : ∃ f, exec (.nakReceived port seq) s = actTo s.now s f := by
  show ∃ f, execNakReceived port seq s = _
  unfold execNakReceived actWhen act
  exact ⟨_, rfl⟩
theorem form_creditReceived (port vc credits : Nat) (s : State) : ∃ f, exec (.creditReceived port vc credits) s = actTo s.now s f := by
  show ∃ f, execCreditReceived port vc credits s = _
  unfold execCreditReceived actWhen act
  exact ⟨_, rfl⟩
theorem form_creditReturnTimer (port : Nat) (s : State) : ∃ f, exec (.creditReturnTimer port) s = actTo s.now s f := by
  show ∃ f, execCreditReturnTimer port s = _
  unfold execCreditReturnTimer actWhen act
  exact ⟨_, rfl⟩
theorem form_transitFrame (port : Nat) (frame : Frame) (s : State) : ∃ f, exec (.transitFrame port frame) s = actTo s.now s f := by
  show ∃ f, execTransitFrame port frame s = _
  unfold execTransitFrame actWhen act
  exact ⟨_, rfl⟩
theorem form_reqReceived (port : Nat) (frame : Frame) (s : State) : ∃ f, exec (.reqReceived port frame) s = actTo s.now s f := by
  show ∃ f, execReqReceived port frame s = _
  unfold execReqReceived actWhen act
  exact ⟨_, rfl⟩
theorem form_replReceived (port : Nat) (frame : Frame) (s : State) : ∃ f, exec (.replReceived port frame) s = actTo s.now s f := by
  show ∃ f, execReplReceived port frame s = _
  unfold execReplReceived actWhen act
  exact ⟨_, rfl⟩
theorem form_copyReceived (port : Nat) (frame : Frame) (s : State) : ∃ f, exec (.copyReceived port frame) s = actTo s.now s f := by
  show ∃ f, execCopyReceived port frame s = _
  unfold execCopyReceived actWhen act
  exact ⟨_, rfl⟩
theorem form_dataReceived (port : Nat) (frame : Frame) (s : State) : ∃ f, exec (.dataReceived port frame) s = actTo s.now s f := by
  show ∃ f, execDataReceived port frame s = _
  unfold execDataReceived actWhen act
  exact ⟨_, rfl⟩
theorem form_rspReceived (port : Nat) (frame : Frame) (s : State) : ∃ f, exec (.rspReceived port frame) s = actTo s.now s f := by
  show ∃ f, execRspReceived port frame s = _
  unfold execRspReceived actWhen act
  exact ⟨_, rfl⟩
theorem form_rdataReceived (port : Nat) (frame : Frame) (s : State) : ∃ f, exec (.rdataReceived port frame) s = actTo s.now s f := by
  show ∃ f, execRdataReceived port frame s = _
  unfold execRdataReceived actWhen act
  exact ⟨_, rfl⟩
theorem form_mgmtReceived (port : Nat) (frame : Frame) (s : State) : ∃ f, exec (.mgmtReceived port frame) s = actRemoving s f := by
  show ∃ f, execMgmtReceived port frame s = _
  unfold execMgmtReceived actRemovingWhen
  exact ⟨_, rfl⟩
theorem form_mgmtRspReceived (port : Nat) (frame : Frame) (s : State) : ∃ f, exec (.mgmtRspReceived port frame) s = actRemoving s f := by
  show ∃ f, execMgmtRspReceived port frame s = _
  unfold execMgmtRspReceived actRemovingWhen
  exact ⟨_, rfl⟩
theorem form_e2eTimeout (tag : Nat) (s : State) : ∃ f, exec (.e2eTimeout tag) s = actTo s.now s f := by
  show ∃ f, execE2eTimeout tag s = _
  unfold execE2eTimeout actWhen act
  exact ⟨_, rfl⟩
theorem form_dupEntryExpiry (entry : Nat) (s : State) : ∃ f, exec (.dupEntryExpiry entry) s = actTo s.now s f := by
  show ∃ f, execDupEntryExpiry entry s = _
  unfold execDupEntryExpiry actWhen act
  exact ⟨_, rfl⟩
theorem form_copyPieceSend (copy : Nat) (data : List Nat) (s : State) : ∃ f, exec (.copyPieceSend copy data) s = actTo s.now s f := by
  show ∃ f, execCopyPieceSend copy data s = _
  unfold execCopyPieceSend actWhen act
  exact ⟨_, rfl⟩
theorem form_jnrWakeTx (ports : Nat) (s : State) : ∃ f, exec (.jnrWakeTx ports) s = actTo s.now s f := by
  show ∃ f, execJnrWakeTx ports s = _
  unfold execJnrWakeTx actWhen act
  exact ⟨_, rfl⟩
theorem form_bindingWakeTimer (binding : Nat) (s : State) : ∃ f, exec (.bindingWakeTimer binding) s = actTo s.now s f := by
  show ∃ f, execBindingWakeTimer binding s = _
  unfold execBindingWakeTimer actWhen act
  exact ⟨_, rfl⟩
theorem form_jnrCfgWrite (value : Nat) (s : State) : ∃ f, exec (.jnrCfgWrite value) s = actRemoving s f := by
  show ∃ f, execJnrCfgWrite value s = _
  unfold execJnrCfgWrite actRemovingWhen
  exact ⟨_, rfl⟩
theorem form_jnrBindWrite (binding word value : Nat) (s : State) : ∃ f, exec (.jnrBindWrite binding word value) s = actRemoving s f := by
  show ∃ f, execJnrBindWrite binding word value s = _
  unfold execJnrBindWrite actRemovingWhen
  exact ⟨_, rfl⟩
theorem form_errorReport (addr master type cls space : Nat) (s : State) : ∃ f, exec (.errorReport addr master type cls space) s = actTo s.now s f := by
  show ∃ f, execErrorReport addr master type cls space s = _
  unfold execErrorReport actWhen act
  exact ⟨_, rfl⟩
theorem form_faultDumpTimeout (s : State) : ∃ f, exec .faultDumpTimeout s = actTo s.now s f := by
  show ∃ f, execFaultDumpTimeout s = _
  unfold execFaultDumpTimeout actWhen act
  exact ⟨_, rfl⟩
theorem form_restartCountReset (s : State) : ∃ f, exec .restartCountReset s = actTo s.now s f := by
  show ∃ f, execRestartCountReset s = _
  unfold execRestartCountReset actWhen act
  exact ⟨_, rfl⟩
theorem form_fclCaptureClear (s : State) : ∃ f, exec .fclCaptureClear s = actTo s.now s f := by
  show ∃ f, execFclCaptureClear s = _
  unfold execFclCaptureClear actWhen act
  exact ⟨_, rfl⟩
theorem form_eventDispatch (s : State) : ∃ f, exec .eventDispatch s = actTo s.now s f := by
  show ∃ f, execEventDispatch s = _
  unfold execEventDispatch actWhen act
  exact ⟨_, rfl⟩
theorem form_logRecordWrite (s : State) : ∃ f, exec .logRecordWrite s = actTo s.now s f := by
  show ∃ f, execLogRecordWrite s = _
  unfold execLogRecordWrite actWhen act
  exact ⟨_, rfl⟩
theorem form_logRepeatFlush (s : State) : ∃ f, exec .logRepeatFlush s = actTo s.now s f := by
  show ∃ f, execLogRepeatFlush s = _
  unfold execLogRepeatFlush actWhen act
  exact ⟨_, rfl⟩
theorem form_milestoneLineWrite (line pulses : Nat) (ok : Bool) (s : State) : ∃ f, exec (.milestoneLineWrite line pulses ok) s = actTo s.now s f := by
  show ∃ f, execMilestoneLineWrite line pulses ok s = _
  unfold execMilestoneLineWrite actWhen act
  exact ⟨_, rfl⟩
theorem form_epochHeaderWrite (s : State) : ∃ f, exec .epochHeaderWrite s = actTo s.now s f := by
  show ∃ f, execEpochHeaderWrite s = _
  unfold execEpochHeaderWrite actWhen act
  exact ⟨_, rfl⟩
theorem form_counterLineWrite (s : State) : ∃ f, exec .counterLineWrite s = actTo s.now s f := by
  show ∃ f, execCounterLineWrite s = _
  unfold execCounterLineWrite actWhen act
  exact ⟨_, rfl⟩
theorem form_operatingHoursStep (s : State) : ∃ f, exec .operatingHoursStep s = actTo s.now s f := by
  show ∃ f, execOperatingHoursStep s = _
  unfold execOperatingHoursStep actWhen act
  exact ⟨_, rfl⟩
theorem form_msmLogDataRead (port size off : Nat) (s : State) : ∃ f, exec (.msmLogDataRead port size off) s = actTo s.now s f := by
  show ∃ f, execMsmLogDataRead port size off s = _
  unfold execMsmLogDataRead
  exact ⟨_, rfl⟩
theorem form_msmWinDataRead (port size off : Nat) (s : State) : ∃ f, exec (.msmWinDataRead port size off) s = actTo s.now s f := by
  show ∃ f, execMsmWinDataRead port size off s = _
  unfold execMsmWinDataRead
  exact ⟨_, rfl⟩
theorem form_msmReportClr (s : State) : ∃ f, exec .msmReportClr s = actTo s.now s f := by
  show ∃ f, execMsmReportClr s = _
  unfold execMsmReportClr actWhen act
  exact ⟨_, rfl⟩
theorem form_evrQclr (s : State) : ∃ f, exec .evrQclr s = actTo s.now s f := by
  show ∃ f, execEvrQclr s = _
  unfold execEvrQclr actWhen act
  exact ⟨_, rfl⟩
theorem form_housekeepingRound (r : Round) (s : State) : ∃ f, exec (.housekeepingRound r) s = actTo s.now s f := by
  show ∃ f, execHousekeepingRound r s = _
  unfold execHousekeepingRound actWhen act
  exact ⟨_, rfl⟩
theorem form_thermalTrip (sensor : Nat) (s : State) : ∃ f, exec (.thermalTrip sensor) s = actTo s.now s f := by
  show ∃ f, execThermalTrip sensor s = _
  unfold execThermalTrip actWhen act
  exact ⟨_, rfl⟩
theorem form_firmwareStoreRead (line bits : Nat) (core branch : Option Nat) (s : State) : ∃ f, exec (.firmwareStoreRead line bits core branch) s = actTo s.now s f := by
  show ∃ f, execFirmwareStoreRead line bits core branch s = _
  unfold execFirmwareStoreRead actWhen act
  exact ⟨_, rfl⟩
theorem form_firmwareSlotProgrammed (ok : Bool) (s : State) : ∃ f, exec (.firmwareSlotProgrammed ok) s = actTo s.now s f := by
  show ∃ f, execFirmwareSlotProgrammed ok s = _
  unfold execFirmwareSlotProgrammed act
  exact ⟨_, rfl⟩
theorem form_trialConfirm (s : State) : ∃ f, exec .trialConfirm s = actTo s.now s f := by
  show ∃ f, execTrialConfirm s = _
  unfold execTrialConfirm actWhen act
  exact ⟨_, rfl⟩
theorem form_activationComplete (s : State) : ∃ f, exec .activationComplete s = actTo s.now s f := by
  show ∃ f, execActivationComplete s = _
  unfold execActivationComplete act
  exact ⟨_, rfl⟩
theorem form_activationTimeout (s : State) : ∃ f, exec .activationTimeout s = actTo s.now s f := by
  show ∃ f, execActivationTimeout s = _
  unfold execActivationTimeout act
  exact ⟨_, rfl⟩
theorem form_coreHalt (core cause : Nat) (s : State) : ∃ f, exec (.coreHalt core cause) s = actTo s.now s f := by
  show ∃ f, execCoreHalt core cause s = _
  unfold execCoreHalt actWhen act
  exact ⟨_, rfl⟩
theorem form_configCommitTimer (s : State) : ∃ f, exec .configCommitTimer s = actTo s.now s f := by
  show ∃ f, execConfigCommitTimer s = _
  unfold execConfigCommitTimer actWhen act
  exact ⟨_, rfl⟩
theorem form_configCommitEnd (s : State) : ∃ f, exec .configCommitEnd s = actTo s.now s f := by
  show ∃ f, execConfigCommitEnd s = _
  unfold execConfigCommitEnd act
  exact ⟨_, rfl⟩
theorem form_getIdentity (p : Packet) (s : State) : ∃ f, exec (.getIdentity p) s = actRemoving s f := by
  show ∃ f, execGetIdentity p s = _
  unfold execGetIdentity
  exact ⟨_, rfl⟩
theorem form_getConfigurationReport (p : Packet) (s : State) : ∃ f, exec (.getConfigurationReport p) s = actRemoving s f := by
  show ∃ f, execGetConfigurationReport p s = _
  unfold execGetConfigurationReport
  exact ⟨_, rfl⟩
theorem form_getNamespaceIdentify (p : Packet) (s : State) : ∃ f, exec (.getNamespaceIdentify p) s = actRemoving s f := by
  show ∃ f, execGetNamespaceIdentify p s = _
  unfold execGetNamespaceIdentify
  exact ⟨_, rfl⟩
theorem form_readRegisters (p : Packet) (s : State) : ∃ f, exec (.readRegisters p) s = actRemoving s f := by
  show ∃ f, execReadRegisters p s = _
  unfold execReadRegisters
  exact ⟨_, rfl⟩
theorem form_writeRegister (p : Packet) (s : State) : ∃ f, exec (.writeRegister p) s = actRemoving s f := by
  show ∃ f, execWriteRegister p s = _
  unfold execWriteRegister
  exact ⟨_, rfl⟩
theorem form_commitConfiguration (p : Packet) (s : State) : ∃ f, exec (.commitConfiguration p) s = actRemoving s f := by
  show ∃ f, execCommitConfiguration p s = _
  unfold execCommitConfiguration
  exact ⟨_, rfl⟩
theorem form_getRecordStatus (p : Packet) (s : State) : ∃ f, exec (.getRecordStatus p) s = actRemoving s f := by
  show ∃ f, execGetRecordStatus p s = _
  unfold execGetRecordStatus
  exact ⟨_, rfl⟩
theorem form_setSliceCount (p : Packet) (s : State) : ∃ f, exec (.setSliceCount p) s = actRemoving s f := by
  show ∃ f, execSetSliceCount p s = _
  unfold execSetSliceCount
  exact ⟨_, rfl⟩
theorem form_bindPasid (p : Packet) (s : State) : ∃ f, exec (.bindPasid p) s = actRemoving s f := by
  show ∃ f, execBindPasid p s = _
  unfold execBindPasid
  exact ⟨_, rfl⟩
theorem form_setAccessBitmap (p : Packet) (s : State) : ∃ f, exec (.setAccessBitmap p) s = actRemoving s f := by
  show ∃ f, execSetAccessBitmap p s = _
  unfold execSetAccessBitmap
  exact ⟨_, rfl⟩
theorem form_resetSlice (p : Packet) (s : State) : ∃ f, exec (.resetSlice p) s = actRemoving s f := by
  show ∃ f, execResetSlice p s = _
  unfold execResetSlice
  exact ⟨_, rfl⟩
theorem form_setSliceBudgets (p : Packet) (s : State) : ∃ f, exec (.setSliceBudgets p) s = actRemoving s f := by
  show ∃ f, execSetSliceBudgets p s = _
  unfold execSetSliceBudgets
  exact ⟨_, rfl⟩
theorem form_getSliceStatus (p : Packet) (s : State) : ∃ f, exec (.getSliceStatus p) s = actRemoving s f := by
  show ∃ f, execGetSliceStatus p s = _
  unfold execGetSliceStatus
  exact ⟨_, rfl⟩
theorem form_waypointCommand (p : Packet) (s : State) : ∃ f, exec (.waypointCommand p) s = actRemoving s f := by
  show ∃ f, execWaypointCommand p s = _
  unfold execWaypointCommand
  exact ⟨_, rfl⟩
theorem form_setRoute (p : Packet) (s : State) : ∃ f, exec (.setRoute p) s = actRemoving s f := by
  show ∃ f, execSetRoute p s = _
  unfold execSetRoute
  exact ⟨_, rfl⟩
theorem form_setProfile (p : Packet) (s : State) : ∃ f, exec (.setProfile p) s = actRemoving s f := by
  show ∃ f, execSetProfile p s = _
  unfold execSetProfile
  exact ⟨_, rfl⟩
theorem form_setNamespaceProfile (p : Packet) (s : State) : ∃ f, exec (.setNamespaceProfile p) s = actRemoving s f := by
  show ∃ f, execSetNamespaceProfile p s = _
  unfold execSetNamespaceProfile
  exact ⟨_, rfl⟩
theorem form_getPackStatus (p : Packet) (s : State) : ∃ f, exec (.getPackStatus p) s = actRemoving s f := by
  show ∃ f, execGetPackStatus p s = _
  unfold execGetPackStatus
  exact ⟨_, rfl⟩
theorem form_readPackHistory (p : Packet) (s : State) : ∃ f, exec (.readPackHistory p) s = actRemoving s f := by
  show ∃ f, execReadPackHistory p s = _
  unfold execReadPackHistory
  exact ⟨_, rfl⟩
theorem form_setCharging (p : Packet) (s : State) : ∃ f, exec (.setCharging p) s = actRemoving s f := by
  show ∃ f, execSetCharging p s = _
  unfold execSetCharging
  exact ⟨_, rfl⟩
theorem form_requestSelfTest (p : Packet) (s : State) : ∃ f, exec (.requestSelfTest p) s = actRemoving s f := by
  show ∃ f, execRequestSelfTest p s = _
  unfold execRequestSelfTest
  exact ⟨_, rfl⟩
theorem form_queryTicket (p : Packet) (s : State) : ∃ f, exec (.queryTicket p) s = actRemoving s f := by
  show ∃ f, execQueryTicket p s = _
  unfold execQueryTicket
  exact ⟨_, rfl⟩
theorem form_cancelTicket (p : Packet) (s : State) : ∃ f, exec (.cancelTicket p) s = actRemoving s f := by
  show ∃ f, execCancelTicket p s = _
  unfold execCancelTicket
  exact ⟨_, rfl⟩
theorem form_ticketExpiry (ticket : Nat) (s : State) : ∃ f, exec (.ticketExpiry ticket) s = actTo s.now s f := by
  show ∃ f, execTicketExpiry ticket s = _
  unfold execTicketExpiry actWhen act
  exact ⟨_, rfl⟩
theorem form_mgiTclr (s : State) : ∃ f, exec .mgiTclr s = actTo s.now s f := by
  show ∃ f, execMgiTclr s = _
  unfold execMgiTclr actWhen act
  exact ⟨_, rfl⟩
theorem form_readLog (p : Packet) (s : State) : ∃ f, exec (.readLog p) s = actRemoving s f := by
  show ∃ f, execReadLog p s = _
  unfold execReadLog
  exact ⟨_, rfl⟩
theorem form_writeAnnotation (p : Packet) (s : State) : ∃ f, exec (.writeAnnotation p) s = actRemoving s f := by
  show ∃ f, execWriteAnnotation p s = _
  unfold execWriteAnnotation
  exact ⟨_, rfl⟩
theorem form_readEventQueue (p : Packet) (s : State) : ∃ f, exec (.readEventQueue p) s = actRemoving s f := by
  show ∃ f, execReadEventQueue p s = _
  unfold execReadEventQueue
  exact ⟨_, rfl⟩
theorem form_readDirtyEpochReport (p : Packet) (s : State) : ∃ f, exec (.readDirtyEpochReport p) s = actRemoving s f := by
  show ∃ f, execReadDirtyEpochReport p s = _
  unfold execReadDirtyEpochReport
  exact ⟨_, rfl⟩
theorem form_clearDirtyEpochReport (p : Packet) (s : State) : ∃ f, exec (.clearDirtyEpochReport p) s = actRemoving s f := by
  show ∃ f, execClearDirtyEpochReport p s = _
  unfold execClearDirtyEpochReport
  exact ⟨_, rfl⟩
theorem form_readLateFaultRecords (p : Packet) (s : State) : ∃ f, exec (.readLateFaultRecords p) s = actRemoving s f := by
  show ∃ f, execReadLateFaultRecords p s = _
  unfold execReadLateFaultRecords
  exact ⟨_, rfl⟩
theorem form_setNode (p : Packet) (s : State) : ∃ f, exec (.setNode p) s = actRemoving s f := by
  show ∃ f, execSetNode p s = _
  unfold execSetNode
  exact ⟨_, rfl⟩
theorem form_setNodeSlice (p : Packet) (s : State) : ∃ f, exec (.setNodeSlice p) s = actRemoving s f := by
  show ∃ f, execSetNodeSlice p s = _
  unfold execSetNodeSlice
  exact ⟨_, rfl⟩
theorem form_bindNamespace (p : Packet) (s : State) : ∃ f, exec (.bindNamespace p) s = actRemoving s f := by
  show ∃ f, execBindNamespace p s = _
  unfold execBindNamespace
  exact ⟨_, rfl⟩
theorem form_unbindNamespace (p : Packet) (s : State) : ∃ f, exec (.unbindNamespace p) s = actRemoving s f := by
  show ∃ f, execUnbindNamespace p s = _
  unfold execUnbindNamespace
  exact ⟨_, rfl⟩
theorem form_peerZoneCopy (p : Packet) (s : State) : ∃ f, exec (.peerZoneCopy p) s = actRemoving s f := by
  show ∃ f, execPeerZoneCopy p s = _
  unfold execPeerZoneCopy
  exact ⟨_, rfl⟩
theorem form_getFabricStatus (p : Packet) (s : State) : ∃ f, exec (.getFabricStatus p) s = actRemoving s f := by
  show ∃ f, execGetFabricStatus p s = _
  unfold execGetFabricStatus
  exact ⟨_, rfl⟩
theorem form_downloadFirmware (p : Packet) (hdr : ImageHeader) (s : State) : ∃ f, exec (.downloadFirmware p hdr) s = actRemoving s f := by
  show ∃ f, execDownloadFirmware p hdr s = _
  unfold execDownloadFirmware
  exact ⟨_, rfl⟩
theorem form_commitFirmware (p : Packet) (hdr : ImageHeader) (s : State) : ∃ f, exec (.commitFirmware p hdr) s = actRemoving s f := by
  show ∃ f, execCommitFirmware p hdr s = _
  unfold execCommitFirmware
  exact ⟨_, rfl⟩
theorem form_getSlotInfo (p : Packet) (s : State) : ∃ f, exec (.getSlotInfo p) s = actRemoving s f := by
  show ∃ f, execGetSlotInfo p s = _
  unfold execGetSlotInfo
  exact ⟨_, rfl⟩
theorem form_acknowledgeThermalShutdown (p : Packet) (s : State) : ∃ f, exec (.acknowledgeThermalShutdown p) s = actRemoving s f := by
  show ∃ f, execAcknowledgeThermalShutdown p s = _
  unfold execAcknowledgeThermalShutdown
  exact ⟨_, rfl⟩
theorem form_powerOff (p : Packet) (s : State) : ∃ f, exec (.powerOff p) s = actRemoving s f := by
  show ∃ f, execPowerOff p s = _
  unfold execPowerOff
  exact ⟨_, rfl⟩
theorem form_setMode (p : Packet) (s : State) : ∃ f, exec (.setMode p) s = actRemoving s f := by
  show ∃ f, execSetMode p s = _
  unfold execSetMode
  exact ⟨_, rfl⟩
theorem form_getThermalAndPower (p : Packet) (s : State) : ∃ f, exec (.getThermalAndPower p) s = actRemoving s f := by
  show ∃ f, execGetThermalAndPower p s = _
  unfold execGetThermalAndPower
  exact ⟨_, rfl⟩
theorem form_rawRead (p : Packet) (data : List Nat) (s : State) : ∃ f, exec (.rawRead p data) s = actRemoving s f := by
  show ∃ f, execRawRead p data s = _
  unfold execRawRead
  exact ⟨_, rfl⟩
theorem form_rawProgram (p : Packet) (s : State) : ∃ f, exec (.rawProgram p) s = actRemoving s f := by
  show ∃ f, execRawProgram p s = _
  unfold execRawProgram
  exact ⟨_, rfl⟩
theorem form_rawErase (p : Packet) (s : State) : ∃ f, exec (.rawErase p) s = actRemoving s f := by
  show ∃ f, execRawErase p s = _
  unfold execRawErase
  exact ⟨_, rfl⟩
theorem form_setBadColumnRange (p : Packet) (s : State) : ∃ f, exec (.setBadColumnRange p) s = actRemoving s f := by
  show ∃ f, execSetBadColumnRange p s = _
  unfold execSetBadColumnRange
  exact ⟨_, rfl⟩
theorem form_declareDieFailed (p : Packet) (s : State) : ∃ f, exec (.declareDieFailed p) s = actRemoving s f := by
  show ∃ f, execDeclareDieFailed p s = _
  unfold execDeclareDieFailed
  exact ⟨_, rfl⟩
theorem form_readNvmeMiDataStructure (type id : Nat) (s : State) : ∃ f, exec (.readNvmeMiDataStructure type id) s = actTo s.now s f := by
  show ∃ f, execReadNvmeMiDataStructure type id s = _
  unfold execReadNvmeMiDataStructure act
  exact ⟨_, rfl⟩
theorem form_subsystemHealthStatusPoll (clear : Bool) (s : State) : ∃ f, exec (.subsystemHealthStatusPoll clear) s = actTo s.now s f := by
  show ∃ f, execSubsystemHealthStatusPoll clear s = _
  unfold execSubsystemHealthStatusPoll act
  exact ⟨_, rfl⟩
theorem form_controllerHealthStatusPoll (controller : Nat) (s : State) : ∃ f, exec (.controllerHealthStatusPoll controller) s = actTo s.now s f := by
  show ∃ f, execControllerHealthStatusPoll controller s = _
  unfold execControllerHealthStatusPoll act
  exact ⟨_, rfl⟩
theorem form_nvmeMiVendorC1 (p : Packet) (s : State) : ∃ f, exec (.nvmeMiVendorC1 p) s = actRemoving s f := by
  show ∃ f, execNvmeMiVendorC1 p s = _
  unfold execNvmeMiVendorC1 actRemovingWhen
  exact ⟨_, rfl⟩
theorem form_bypass (tdi : List Bool) (s : State) : ∃ f, exec (.bypass tdi) s = actTo s.now s f := by
  show ∃ f, execBypass tdi s = _
  unfold execBypass actWhen act
  exact ⟨_, rfl⟩
theorem form_idcode (tdi : List Bool) (s : State) : ∃ f, exec (.idcode tdi) s = actTo s.now s f := by
  show ∃ f, execIdcode tdi s = _
  unfold execIdcode actWhen act
  exact ⟨_, rfl⟩
theorem form_samplePreload (pins tdi : List Bool) (s : State) : ∃ f, exec (.samplePreload pins tdi) s = actTo s.now s f := by
  show ∃ f, execSamplePreload pins tdi s = _
  unfold execSamplePreload actWhen act
  exact ⟨_, rfl⟩
theorem form_extest (pins tdi : List Bool) (s : State) : ∃ f, exec (.extest pins tdi) s = actTo s.now s f := by
  show ∃ f, execExtest pins tdi s = _
  unfold execExtest actWhen act
  exact ⟨_, rfl⟩
theorem form_clamp (tdi : List Bool) (s : State) : ∃ f, exec (.clamp tdi) s = actTo s.now s f := by
  show ∃ f, execClamp tdi s = _
  unfold execClamp actWhen act
  exact ⟨_, rfl⟩
theorem form_highz (tdi : List Bool) (s : State) : ∃ f, exec (.highz tdi) s = actTo s.now s f := by
  show ∃ f, execHighz tdi s = _
  unfold execHighz actWhen act
  exact ⟨_, rfl⟩
theorem form_qenClrCnt (s : State) : ∃ f, exec .qenClrCnt s = actTo s.now s f := by
  show ∃ f, execQenClrCnt s = _
  unfold execQenClrCnt actWhen act
  exact ⟨_, rfl⟩
theorem form_qenClrPeak (s : State) : ∃ f, exec .qenClrPeak s = actTo s.now s f := by
  show ∃ f, execQenClrPeak s = _
  unfold execQenClrPeak actWhen act
  exact ⟨_, rfl⟩
theorem form_slmClrCnt (s : State) : ∃ f, exec .slmClrCnt s = actTo s.now s f := by
  show ∃ f, execSlmClrCnt s = _
  unfold execSlmClrCnt actWhen act
  exact ⟨_, rfl⟩
theorem form_tlgClrCnt (s : State) : ∃ f, exec .tlgClrCnt s = actTo s.now s f := by
  show ∃ f, execTlgClrCnt s = _
  unfold execTlgClrCnt actWhen act
  exact ⟨_, rfl⟩
theorem form_wptClrCnt (s : State) : ∃ f, exec .wptClrCnt s = actTo s.now s f := by
  show ∃ f, execWptClrCnt s = _
  unfold execWptClrCnt actWhen act
  exact ⟨_, rfl⟩
theorem form_zneClrCnt (s : State) : ∃ f, exec .zneClrCnt s = actTo s.now s f := by
  show ∃ f, execZneClrCnt s = _
  unfold execZneClrCnt actWhen act
  exact ⟨_, rfl⟩
theorem form_wcuClrCnt (s : State) : ∃ f, exec .wcuClrCnt s = actTo s.now s f := by
  show ∃ f, execWcuClrCnt s = _
  unfold execWcuClrCnt actWhen act
  exact ⟨_, rfl⟩
theorem form_bplClrCnt (s : State) : ∃ f, exec .bplClrCnt s = actTo s.now s f := by
  show ∃ f, execBplClrCnt s = _
  unfold execBplClrCnt actWhen act
  exact ⟨_, rfl⟩
theorem form_fsqClrCnt (ch : Nat) (s : State) : ∃ f, exec (.fsqClrCnt ch) s = actTo s.now s f := by
  show ∃ f, execFsqClrCnt ch s = _
  unfold execFsqClrCnt actWhen act
  exact ⟨_, rfl⟩
theorem form_dscClrCnt (s : State) : ∃ f, exec .dscClrCnt s = actTo s.now s f := by
  show ∃ f, execDscClrCnt s = _
  unfold execDscClrCnt actWhen act
  exact ⟨_, rfl⟩
theorem form_sdfClrCnt (ch : Nat) (s : State) : ∃ f, exec (.sdfClrCnt ch) s = actTo s.now s f := by
  show ∃ f, execSdfClrCnt ch s = _
  unfold execSdfClrCnt actWhen act
  exact ⟨_, rfl⟩
theorem form_ldcClrCnt (s : State) : ∃ f, exec .ldcClrCnt s = actTo s.now s f := by
  show ∃ f, execLdcClrCnt s = _
  unfold execLdcClrCnt actWhen act
  exact ⟨_, rfl⟩
theorem form_xltClrCnt (s : State) : ∃ f, exec .xltClrCnt s = actTo s.now s f := by
  show ∃ f, execXltClrCnt s = _
  unfold execXltClrCnt actWhen act
  exact ⟨_, rfl⟩
theorem form_hucClrCnt (s : State) : ∃ f, exec .hucClrCnt s = actTo s.now s f := by
  show ∃ f, execHucClrCnt s = _
  unfold execHucClrCnt actWhen act
  exact ⟨_, rfl⟩
theorem form_psqClrCnt (s : State) : ∃ f, exec .psqClrCnt s = actTo s.now s f := by
  show ∃ f, execPsqClrCnt s = _
  unfold execPsqClrCnt actWhen act
  exact ⟨_, rfl⟩
theorem form_drgClrCnt (s : State) : ∃ f, exec .drgClrCnt s = actTo s.now s f := by
  show ∃ f, execDrgClrCnt s = _
  unfold execDrgClrCnt actWhen act
  exact ⟨_, rfl⟩
theorem form_pscClrCnt (s : State) : ∃ f, exec .pscClrCnt s = actTo s.now s f := by
  show ∃ f, execPscClrCnt s = _
  unfold execPscClrCnt actWhen act
  exact ⟨_, rfl⟩
theorem form_dmcClrCnt (s : State) : ∃ f, exec .dmcClrCnt s = actTo s.now s f := by
  show ∃ f, execDmcClrCnt s = _
  unfold execDmcClrCnt actWhen act
  exact ⟨_, rfl⟩
theorem form_mpuClrCnt (s : State) : ∃ f, exec .mpuClrCnt s = actTo s.now s f := by
  show ∃ f, execMpuClrCnt s = _
  unfold execMpuClrCnt actWhen act
  exact ⟨_, rfl⟩
theorem form_jnrClrCnt (s : State) : ∃ f, exec .jnrClrCnt s = actTo s.now s f := by
  show ∃ f, execJnrClrCnt s = _
  unfold execJnrClrCnt actWhen act
  exact ⟨_, rfl⟩
theorem form_fclClrCnt (s : State) : ∃ f, exec .fclClrCnt s = actTo s.now s f := by
  show ∃ f, execFclClrCnt s = _
  unfold execFclClrCnt actWhen act
  exact ⟨_, rfl⟩
theorem form_msmClrCnt (s : State) : ∃ f, exec .msmClrCnt s = actTo s.now s f := by
  show ∃ f, execMsmClrCnt s = _
  unfold execMsmClrCnt actWhen act
  exact ⟨_, rfl⟩
theorem form_thmClrCnt (s : State) : ∃ f, exec .thmClrCnt s = actTo s.now s f := by
  show ∃ f, execThmClrCnt s = _
  unfold execThmClrCnt actWhen act
  exact ⟨_, rfl⟩
theorem form_fwsClrCnt (s : State) : ∃ f, exec .fwsClrCnt s = actTo s.now s f := by
  show ∃ f, execFwsClrCnt s = _
  unfold execFwsClrCnt actWhen act
  exact ⟨_, rfl⟩
theorem form_fwcClrCnt (s : State) : ∃ f, exec .fwcClrCnt s = actTo s.now s f := by
  show ∃ f, execFwcClrCnt s = _
  unfold execFwcClrCnt actWhen act
  exact ⟨_, rfl⟩
theorem form_holdUpBusArmed (s : State) : ∃ f, exec .holdUpBusArmed s = actTo s.now s f := by
  show ∃ f, execHoldUpBusArmed s = _
  unfold execHoldUpBusArmed actWhen act
  exact ⟨_, rfl⟩
theorem form_aerErrorLogged (port severity : Nat) (header : List Nat) (s : State) : ∃ f, exec (.aerErrorLogged port severity header) s = actTo s.now s f := by
  show ∃ f, execAerErrorLogged port severity header s = _
  unfold execAerErrorLogged actWhen act
  exact ⟨_, rfl⟩
theorem form_frameDiscarded (port reason seq vc units : Nat) (s : State) : ∃ f, exec (.frameDiscarded port reason seq vc units) s = actTo s.now s f := by
  show ∃ f, execFrameDiscarded port reason seq vc units s = _
  unfold execFrameDiscarded actWhen act
  exact ⟨_, rfl⟩
theorem form_pasidEnableClear (port : Nat) (s : State) : ∃ f, exec (.pasidEnableClear port) s = actTo s.now s f := by
  show ∃ f, execPasidEnableClear port s = _
  unfold execPasidEnableClear actWhen act
  exact ⟨_, rfl⟩

theorem exec_plain (c : Instr) (s : State) (h : mayRemove c = false) : ∃ f, exec c s = actTo s.now s f := by
  cases c
  case registerWrite => exact absurd h (by simp [mayRemove])
  case uptimeLoRead => exact form_uptimeLoRead _ _ _ s
  case recTotalLoRead => exact form_recTotalLoRead _ _ _ s
  case ckptNumLoRead => exact form_ckptNumLoRead _ _ _ s
  case firstTsLoRead => exact form_firstTsLoRead _ _ _ s
  case cfgSeqLoRead => exact form_cfgSeqLoRead _ _ _ s
  case linkUp => exact form_linkUp _ _ _ _ s
  case linkDown => exact form_linkDown _ s
  case functionLevelReset => exact form_functionLevelReset _ s
  case perstAssert => exact form_perstAssert _ s
  case perstDeassert => exact form_perstDeassert _ s
  case ccEnSet => exact form_ccEnSet _ _ _ _ _ _ s
  case ccEnClear => exact form_ccEnClear _ s
  case normalShutdown => exact form_normalShutdown _ s
  case abruptShutdown => exact form_abruptShutdown _ s
  case shutdownTimeout => exact form_shutdownTimeout _ s
  case shutdownDone => exact form_shutdownDone _ s
  case sqTailDoorbell => exact form_sqTailDoorbell _ _ _ _ s
  case cqHeadDoorbell => exact form_cqHeadDoorbell _ _ _ _ s
  case commandFetch => exact form_commandFetch _ _ s
  case completionPost => exact form_completionPost _ _ s
  case cqStallTimeout => exact form_cqStallTimeout _ _ s
  case createIoSq => exact form_createIoSq _ s
  case createIoCq => exact form_createIoCq _ s
  case deleteIoSq => exact form_deleteIoSq _ s
  case deleteIoCq => exact form_deleteIoCq _ s
  case getLogPage => exact form_getLogPage _ s
  case identify => exact form_identify _ s
  case abort => exact form_abort _ s
  case setFeatures => exact form_setFeatures _ s
  case getFeatures => exact form_getFeatures _ s
  case asyncEventRequest => exact form_asyncEventRequest _ s
  case nsCreate => exact form_nsCreate _ _ s
  case nsDelete => exact form_nsDelete _ s
  case namespaceAttachment => exact form_namespaceAttachment _ _ s
  case firmwareImageDownload => exact form_firmwareImageDownload _ _ s
  case firmwareCommit => exact form_firmwareCommit _ _ s
  case firmwareActivateImmediate => exact form_firmwareActivateImmediate _ s
  case directiveSend => exact form_directiveSend _ s
  case directiveReceive => exact form_directiveReceive _ s
  case mgmtPacketCarrier => exact absurd h (by simp [mayRemove])
  case ioRead => exact form_ioRead _ s
  case ioWrite => exact form_ioWrite _ _ _ s
  case writeZeroes => exact form_writeZeroes _ _ s
  case zoneAppend => exact form_zoneAppend _ _ _ s
  case flush => exact form_flush _ s
  case datasetManagement => exact form_datasetManagement _ _ s
  case zoneOpen => exact form_zoneOpen _ _ s
  case zoneClose => exact form_zoneClose _ s
  case zoneFinish => exact form_zoneFinish _ s
  case zoneReset => exact form_zoneReset _ s
  case zoneOffline => exact form_zoneOffline _ s
  case zoneManagementReceive => exact form_zoneManagementReceive _ s
  case mirrorWriteHeld => exact form_mirrorWriteHeld _ s
  case sliceResetRequest => exact form_sliceResetRequest _ _ s
  case sliceResetComplete => exact form_sliceResetComplete _ s
  case tokenRefill => exact form_tokenRefill s
  case readAroundBudgetExpiry => exact form_readAroundBudgetExpiry _ s
  case busyReadAround => exact form_busyReadAround _ s
  case reconstructionComplete => exact form_reconstructionComplete _ s
  case wptRead => exact form_wptRead _ s
  case wptWrite => exact form_wptWrite _ s
  case wptInsert => exact form_wptInsert _ s
  case wptDelete => exact form_wptDelete _ s
  case wptMoveComplete => exact form_wptMoveComplete s
  case wptScrubTick => exact form_wptScrubTick _ s
  case accumulatorIdleSpill => exact form_accumulatorIdleSpill _ s
  case flushIssue => exact form_flushIssue s
  case flushToEmptyEnd => exact form_flushToEmptyEnd s
  case dirtyLimitRecompute => exact form_dirtyLimitRecompute s
  case dirtyLimitRaise => exact form_dirtyLimitRaise s
  case writeThroughExit => exact form_writeThroughExit s
  case writeThroughForce => exact form_writeThroughForce _ s
  case bufferAllocate => exact form_bufferAllocate _ _ _ _ s
  case freeListRebuildEnd => exact form_freeListRebuildEnd _ s
  case bufferRelease => exact form_bufferRelease _ _ _ s
  case bufferTransfer => exact form_bufferTransfer _ _ _ _ s
  case bufferShare => exact form_bufferShare _ _ _ _ s
  case bufferDrop => exact form_bufferDrop _ _ _ s
  case dieOperationStart => exact form_dieOperationStart _ _ s
  case programComplete => exact form_programComplete _ _ _ s
  case eraseComplete => exact absurd h (by simp [mayRemove])
  case hardReadComplete => exact form_hardReadComplete _ _ _ s
  case sampleReadComplete => exact form_sampleReadComplete _ _ s
  case burstReceived => exact form_burstReceived _ _ s
  case sampleOutEnd => exact form_sampleOutEnd _ s
  case codewordDecoded => exact form_codewordDecoded _ _ _ _ s
  case codewordDecodeFail => exact form_codewordDecodeFail _ s
  case ladderStepBudgetExpiry => exact form_ladderStepBudgetExpiry _ s
  case programSuspend => exact form_programSuspend _ _ s
  case eraseSuspend => exact form_eraseSuspend _ _ s
  case suspendComplete => exact form_suspendComplete _ _ s
  case programResume => exact form_programResume _ _ s
  case eraseResume => exact form_eraseResume _ _ s
  case dieReadyTimeout => exact form_dieReadyTimeout _ _ _ s
  case rebuildWordline => exact form_rebuildWordline _ _ s
  case retrainPeriodExpiry => exact form_retrainPeriodExpiry _ s
  case retrainingSlotStart => exact form_retrainingSlotStart s
  case retrainingSlotEnd => exact form_retrainingSlotEnd _ _ s
  case slotDeferTimeout => exact form_slotDeferTimeout s
  case fullRetrainingStart => exact form_fullRetrainingStart _ s
  case fullRetrainingEnd => exact absurd h (by simp [mayRemove])
  case sdfClassClr => exact form_sdfClassClr _ s
  case sdfBadcolWrite => exact absurd h (by simp [mayRemove])
  case ldcStNow => exact form_ldcStNow s
  case ldcSelftestPeriod => exact form_ldcSelftestPeriod s
  case ldcSelftestEnd => exact form_ldcSelftestEnd _ s
  case reallocationAccept => exact form_reallocationAccept _ _ _ s
  case relocationStep => exact form_relocationStep s
  case xltRelocOldest => exact form_xltRelocOldest _ s
  case xltCkptNow => exact form_xltCkptNow s
  case checkpointTimer => exact form_checkpointTimer s
  case checkpointCommit => exact form_checkpointCommit s
  case checkpointLateTimeout => exact form_checkpointLateTimeout s
  case mapRestartEnd => exact form_mapRestartEnd _ _ _ s
  case mapRebuildEnd => exact form_mapRebuildEnd s
  case inputLoss => exact form_inputLoss s
  case dumpPaceTick => exact form_dumpPaceTick s
  case dumpProgramComplete => exact form_dumpProgramComplete _ _ _ s
  case dumpCommit => exact form_dumpCommit s
  case dumpAbandon => exact form_dumpAbandon s
  case dumpSupersede => exact form_dumpSupersede s
  case inputValid => exact form_inputValid _ s
  case inputInvalid => exact form_inputInvalid _ s
  case returnComplete => exact form_returnComplete _ s
  case returnWaitTimeout => exact form_returnWaitTimeout s
  case gaugeSample => exact form_gaugeSample _ _ _ s
  case gaugeRecompute => exact form_gaugeRecompute s
  case restWindowEnd => exact form_restWindowEnd _ s
  case forcedRestDue => exact form_forcedRestDue s
  case uncertaintyHourly => exact form_uncertaintyHourly s
  case estimateDisagree => exact form_estimateDisagree s
  case hucZNow => exact form_hucZNow s
  case impedanceStepStart => exact form_impedanceStepStart s
  case impedanceMeasure => exact form_impedanceMeasure _ _ s
  case impedanceStepEnd => exact form_impedanceStepEnd s
  case packHotTimeout => exact form_packHotTimeout s
  case chargeTimeout => exact form_chargeTimeout s
  case packInsert => exact form_packInsert _ s
  case packRemove => exact form_packRemove s
  case hucLearnNow => exact form_hucLearnNow s
  case learnStart => exact form_learnStart s
  case learnRestEnd => exact form_learnRestEnd _ s
  case hucRestNow => exact form_hucRestNow s
  case lifeRecordPeriod => exact form_lifeRecordPeriod s
  case railOutOfWindow => exact form_railOutOfWindow _ _ _ _ s
  case aoPowerOnReset => exact absurd h (by simp [mayRemove])
  case powerUpStart => exact form_powerUpStart _ _ _ s
  case railPowerGood => exact form_railPowerGood _ s
  case railSettleDone => exact form_railSettleDone _ _ s
  case bootEnd => exact form_bootEnd s
  case partialParityRebuildEnd => exact form_partialParityRebuildEnd _ s
  case powerGoodTimeout => exact form_powerGoodTimeout _ s
  case offFlushTimeout => exact form_offFlushTimeout s
  case flashReadyWaitEnd => exact form_flashReadyWaitEnd s
  case railDischarged => exact form_railDischarged _ s
  case dischargeTimeout => exact form_dischargeTimeout _ s
  case psqOff => exact form_psqOff s
  case psqRstoPulse => exact form_psqRstoPulse _ s
  case rstoStretchExpiry => exact form_rstoStretchExpiry _ s
  case droopEngage => exact form_droopEngage _ _ s
  case droopRelease => exact absurd h (by simp [mayRemove])
  case droopLong => exact form_droopLong s
  case modeTargetRun => exact form_modeTargetRun s
  case modeTargetService => exact form_modeTargetService s
  case holdRequest => exact form_holdRequest s
  case holdRelease => exact form_holdRelease s
  case thermAck => exact form_thermAck s
  case restIdleExpiry => exact form_restIdleExpiry _ _ _ s
  case restEntryComplete => exact form_restEntryComplete s
  case clkreqAssert => exact form_clkreqAssert _ s
  case causewaySignalDetect => exact form_causewaySignalDetect _ s
  case smbusAddressMatch => exact form_smbusAddressMatch s
  case wakeStepDone => exact form_wakeStepDone _ _ s
  case padRelease => exact form_padRelease _ s
  case padReleaseTimeout => exact form_padReleaseTimeout s
  case watchEntry => exact form_watchEntry s
  case watchRound => exact form_watchRound _ _ _ _ s
  case watchInputSample => exact form_watchInputSample _ s
  case watchGaugeWake => exact form_watchGaugeWake _ s
  case watchGaugeSleep => exact form_watchGaugeSleep s
  case dramRequest => exact form_dramRequest _ _ s
  case dramReadComplete => exact form_dramReadComplete _ _ s
  case dramFence => exact form_dramFence _ _ s
  case dramRefresh => exact form_dramRefresh _ _ s
  case mr4Poll => exact form_mr4Poll _ _ s
  case dramAlert => exact form_dramAlert _ s
  case dramRetrainEnd => exact form_dramRetrainEnd _ _ s
  case dramStrobeTimeout => exact form_dramStrobeTimeout _ s
  case dramSoftRepair => exact form_dramSoftRepair _ _ _ s
  case dramRepairEnd => exact form_dramRepairEnd _ _ s
  case dramPatrolScrub => exact form_dramPatrolScrub _ _ s
  case dmcScrubGo => exact form_dmcScrubGo _ s
  case dramScrubRangeEnd => exact form_dramScrubRangeEnd _ _ _ s
  case sramCorrectedWord => exact form_sramCorrectedWord _ _ _ _ s
  case sramUncorrectableWord => exact form_sramUncorrectableWord _ _ _ _ _ _ _ _ s
  case mpuDmaRearm => exact form_mpuDmaRearm _ s
  case mpuScrubGo => exact form_mpuScrubGo _ s
  case sramScrubEnd => exact form_sramScrubEnd _ s
  case causewayTrained => exact form_causewayTrained _ _ s
  case helloTimer => exact form_helloTimer _ s
  case helloReceived => exact form_helloReceived _ _ s
  case helloDeadTimeout => exact form_helloDeadTimeout _ s
  case blockLockLoss => exact form_blockLockLoss _ s
  case lsaReceived => exact form_lsaReceived _ _ s
  case lsaRefreshTimer => exact form_lsaRefreshTimer s
  case lsaAgeOut => exact form_lsaAgeOut _ s
  case pathRecomputeDone => exact form_pathRecomputeDone s
  case ackTimer => exact form_ackTimer _ s
  case ackReceived => exact form_ackReceived _ _ s
  case nakReceived => exact form_nakReceived _ _ s
  case creditReceived => exact form_creditReceived _ _ _ s
  case creditReturnTimer => exact form_creditReturnTimer _ s
  case transitFrame => exact form_transitFrame _ _ s
  case reqReceived => exact form_reqReceived _ _ s
  case replReceived => exact form_replReceived _ _ s
  case copyReceived => exact form_copyReceived _ _ s
  case dataReceived => exact form_dataReceived _ _ s
  case rspReceived => exact form_rspReceived _ _ s
  case rdataReceived => exact form_rdataReceived _ _ s
  case mgmtReceived => exact absurd h (by simp [mayRemove])
  case mgmtRspReceived => exact absurd h (by simp [mayRemove])
  case e2eTimeout => exact form_e2eTimeout _ s
  case dupEntryExpiry => exact form_dupEntryExpiry _ s
  case copyPieceSend => exact form_copyPieceSend _ _ s
  case jnrWakeTx => exact form_jnrWakeTx _ s
  case bindingWakeTimer => exact form_bindingWakeTimer _ s
  case jnrCfgWrite => exact absurd h (by simp [mayRemove])
  case jnrBindWrite => exact absurd h (by simp [mayRemove])
  case errorReport => exact form_errorReport _ _ _ _ _ s
  case faultDumpTimeout => exact form_faultDumpTimeout s
  case restartCountReset => exact form_restartCountReset s
  case fclCaptureClear => exact form_fclCaptureClear s
  case eventDispatch => exact form_eventDispatch s
  case logRecordWrite => exact form_logRecordWrite s
  case logRepeatFlush => exact form_logRepeatFlush s
  case milestoneLineWrite => exact form_milestoneLineWrite _ _ _ s
  case epochHeaderWrite => exact form_epochHeaderWrite s
  case counterLineWrite => exact form_counterLineWrite s
  case operatingHoursStep => exact form_operatingHoursStep s
  case msmLogDataRead => exact form_msmLogDataRead _ _ _ s
  case msmWinDataRead => exact form_msmWinDataRead _ _ _ s
  case msmReportClr => exact form_msmReportClr s
  case evrQclr => exact form_evrQclr s
  case housekeepingRound => exact form_housekeepingRound _ s
  case thermalTrip => exact form_thermalTrip _ s
  case firmwareStoreRead => exact form_firmwareStoreRead _ _ _ _ s
  case firmwareSlotProgrammed => exact form_firmwareSlotProgrammed _ s
  case trialConfirm => exact form_trialConfirm s
  case activationComplete => exact form_activationComplete s
  case activationTimeout => exact form_activationTimeout s
  case coreHalt => exact form_coreHalt _ _ s
  case configCommitTimer => exact form_configCommitTimer s
  case configCommitEnd => exact form_configCommitEnd s
  case getIdentity => exact absurd h (by simp [mayRemove])
  case getConfigurationReport => exact absurd h (by simp [mayRemove])
  case getNamespaceIdentify => exact absurd h (by simp [mayRemove])
  case readRegisters => exact absurd h (by simp [mayRemove])
  case writeRegister => exact absurd h (by simp [mayRemove])
  case commitConfiguration => exact absurd h (by simp [mayRemove])
  case getRecordStatus => exact absurd h (by simp [mayRemove])
  case setSliceCount => exact absurd h (by simp [mayRemove])
  case bindPasid => exact absurd h (by simp [mayRemove])
  case setAccessBitmap => exact absurd h (by simp [mayRemove])
  case resetSlice => exact absurd h (by simp [mayRemove])
  case setSliceBudgets => exact absurd h (by simp [mayRemove])
  case getSliceStatus => exact absurd h (by simp [mayRemove])
  case waypointCommand => exact absurd h (by simp [mayRemove])
  case setRoute => exact absurd h (by simp [mayRemove])
  case setProfile => exact absurd h (by simp [mayRemove])
  case setNamespaceProfile => exact absurd h (by simp [mayRemove])
  case getPackStatus => exact absurd h (by simp [mayRemove])
  case readPackHistory => exact absurd h (by simp [mayRemove])
  case setCharging => exact absurd h (by simp [mayRemove])
  case requestSelfTest => exact absurd h (by simp [mayRemove])
  case queryTicket => exact absurd h (by simp [mayRemove])
  case cancelTicket => exact absurd h (by simp [mayRemove])
  case ticketExpiry => exact form_ticketExpiry _ s
  case mgiTclr => exact form_mgiTclr s
  case readLog => exact absurd h (by simp [mayRemove])
  case writeAnnotation => exact absurd h (by simp [mayRemove])
  case readEventQueue => exact absurd h (by simp [mayRemove])
  case readDirtyEpochReport => exact absurd h (by simp [mayRemove])
  case clearDirtyEpochReport => exact absurd h (by simp [mayRemove])
  case readLateFaultRecords => exact absurd h (by simp [mayRemove])
  case setNode => exact absurd h (by simp [mayRemove])
  case setNodeSlice => exact absurd h (by simp [mayRemove])
  case bindNamespace => exact absurd h (by simp [mayRemove])
  case unbindNamespace => exact absurd h (by simp [mayRemove])
  case peerZoneCopy => exact absurd h (by simp [mayRemove])
  case getFabricStatus => exact absurd h (by simp [mayRemove])
  case downloadFirmware => exact absurd h (by simp [mayRemove])
  case commitFirmware => exact absurd h (by simp [mayRemove])
  case getSlotInfo => exact absurd h (by simp [mayRemove])
  case acknowledgeThermalShutdown => exact absurd h (by simp [mayRemove])
  case powerOff => exact absurd h (by simp [mayRemove])
  case setMode => exact absurd h (by simp [mayRemove])
  case getThermalAndPower => exact absurd h (by simp [mayRemove])
  case rawRead => exact absurd h (by simp [mayRemove])
  case rawProgram => exact absurd h (by simp [mayRemove])
  case rawErase => exact absurd h (by simp [mayRemove])
  case setBadColumnRange => exact absurd h (by simp [mayRemove])
  case declareDieFailed => exact absurd h (by simp [mayRemove])
  case readNvmeMiDataStructure => exact form_readNvmeMiDataStructure _ _ s
  case subsystemHealthStatusPoll => exact form_subsystemHealthStatusPoll _ s
  case controllerHealthStatusPoll => exact form_controllerHealthStatusPoll _ s
  case nvmeMiVendorC1 => exact absurd h (by simp [mayRemove])
  case bypass => exact form_bypass _ s
  case idcode => exact form_idcode _ s
  case samplePreload => exact form_samplePreload _ _ s
  case extest => exact form_extest _ _ s
  case clamp => exact form_clamp _ s
  case highz => exact form_highz _ s
  case qenClrCnt => exact form_qenClrCnt s
  case qenClrPeak => exact form_qenClrPeak s
  case slmClrCnt => exact form_slmClrCnt s
  case tlgClrCnt => exact form_tlgClrCnt s
  case wptClrCnt => exact form_wptClrCnt s
  case zneClrCnt => exact form_zneClrCnt s
  case wcuClrCnt => exact form_wcuClrCnt s
  case bplClrCnt => exact form_bplClrCnt s
  case fsqClrCnt => exact form_fsqClrCnt _ s
  case dscClrCnt => exact form_dscClrCnt s
  case sdfClrCnt => exact form_sdfClrCnt _ s
  case ldcClrCnt => exact form_ldcClrCnt s
  case xltClrCnt => exact form_xltClrCnt s
  case hucClrCnt => exact form_hucClrCnt s
  case psqClrCnt => exact form_psqClrCnt s
  case drgClrCnt => exact form_drgClrCnt s
  case pscClrCnt => exact form_pscClrCnt s
  case dmcClrCnt => exact form_dmcClrCnt s
  case mpuClrCnt => exact form_mpuClrCnt s
  case jnrClrCnt => exact form_jnrClrCnt s
  case fclClrCnt => exact form_fclClrCnt s
  case msmClrCnt => exact form_msmClrCnt s
  case thmClrCnt => exact form_thmClrCnt s
  case fwsClrCnt => exact form_fwsClrCnt s
  case fwcClrCnt => exact form_fwcClrCnt s
  case holdUpBusArmed => exact form_holdUpBusArmed s
  case aerErrorLogged => exact form_aerErrorLogged _ _ _ s
  case frameDiscarded => exact form_frameDiscarded _ _ _ _ _ s
  case pasidEnableClear => exact form_pasidEnableClear _ s

theorem exec_removing (c : Instr) (s : State) (h : mayRemove c = true) : ∃ n f, exec c s = actRemovingTo n s f ∧ (n = s.now ∨ c = .aoPowerOnReset) := by
  cases c
  case registerWrite => exact (form_registerWrite _ _ _ _ _ s).elim fun f e => ⟨s.now, f, e, .inl rfl⟩
  case uptimeLoRead => exact absurd h (by simp [mayRemove])
  case recTotalLoRead => exact absurd h (by simp [mayRemove])
  case ckptNumLoRead => exact absurd h (by simp [mayRemove])
  case firstTsLoRead => exact absurd h (by simp [mayRemove])
  case cfgSeqLoRead => exact absurd h (by simp [mayRemove])
  case linkUp => exact absurd h (by simp [mayRemove])
  case linkDown => exact absurd h (by simp [mayRemove])
  case functionLevelReset => exact absurd h (by simp [mayRemove])
  case perstAssert => exact absurd h (by simp [mayRemove])
  case perstDeassert => exact absurd h (by simp [mayRemove])
  case ccEnSet => exact absurd h (by simp [mayRemove])
  case ccEnClear => exact absurd h (by simp [mayRemove])
  case normalShutdown => exact absurd h (by simp [mayRemove])
  case abruptShutdown => exact absurd h (by simp [mayRemove])
  case shutdownTimeout => exact absurd h (by simp [mayRemove])
  case shutdownDone => exact absurd h (by simp [mayRemove])
  case sqTailDoorbell => exact absurd h (by simp [mayRemove])
  case cqHeadDoorbell => exact absurd h (by simp [mayRemove])
  case commandFetch => exact absurd h (by simp [mayRemove])
  case completionPost => exact absurd h (by simp [mayRemove])
  case cqStallTimeout => exact absurd h (by simp [mayRemove])
  case createIoSq => exact absurd h (by simp [mayRemove])
  case createIoCq => exact absurd h (by simp [mayRemove])
  case deleteIoSq => exact absurd h (by simp [mayRemove])
  case deleteIoCq => exact absurd h (by simp [mayRemove])
  case getLogPage => exact absurd h (by simp [mayRemove])
  case identify => exact absurd h (by simp [mayRemove])
  case abort => exact absurd h (by simp [mayRemove])
  case setFeatures => exact absurd h (by simp [mayRemove])
  case getFeatures => exact absurd h (by simp [mayRemove])
  case asyncEventRequest => exact absurd h (by simp [mayRemove])
  case nsCreate => exact absurd h (by simp [mayRemove])
  case nsDelete => exact absurd h (by simp [mayRemove])
  case namespaceAttachment => exact absurd h (by simp [mayRemove])
  case firmwareImageDownload => exact absurd h (by simp [mayRemove])
  case firmwareCommit => exact absurd h (by simp [mayRemove])
  case firmwareActivateImmediate => exact absurd h (by simp [mayRemove])
  case directiveSend => exact absurd h (by simp [mayRemove])
  case directiveReceive => exact absurd h (by simp [mayRemove])
  case mgmtPacketCarrier => exact (form_mgmtPacketCarrier _ _ _ s).elim fun f e => ⟨s.now, f, e, .inl rfl⟩
  case ioRead => exact absurd h (by simp [mayRemove])
  case ioWrite => exact absurd h (by simp [mayRemove])
  case writeZeroes => exact absurd h (by simp [mayRemove])
  case zoneAppend => exact absurd h (by simp [mayRemove])
  case flush => exact absurd h (by simp [mayRemove])
  case datasetManagement => exact absurd h (by simp [mayRemove])
  case zoneOpen => exact absurd h (by simp [mayRemove])
  case zoneClose => exact absurd h (by simp [mayRemove])
  case zoneFinish => exact absurd h (by simp [mayRemove])
  case zoneReset => exact absurd h (by simp [mayRemove])
  case zoneOffline => exact absurd h (by simp [mayRemove])
  case zoneManagementReceive => exact absurd h (by simp [mayRemove])
  case mirrorWriteHeld => exact absurd h (by simp [mayRemove])
  case sliceResetRequest => exact absurd h (by simp [mayRemove])
  case sliceResetComplete => exact absurd h (by simp [mayRemove])
  case tokenRefill => exact absurd h (by simp [mayRemove])
  case readAroundBudgetExpiry => exact absurd h (by simp [mayRemove])
  case busyReadAround => exact absurd h (by simp [mayRemove])
  case reconstructionComplete => exact absurd h (by simp [mayRemove])
  case wptRead => exact absurd h (by simp [mayRemove])
  case wptWrite => exact absurd h (by simp [mayRemove])
  case wptInsert => exact absurd h (by simp [mayRemove])
  case wptDelete => exact absurd h (by simp [mayRemove])
  case wptMoveComplete => exact absurd h (by simp [mayRemove])
  case wptScrubTick => exact absurd h (by simp [mayRemove])
  case accumulatorIdleSpill => exact absurd h (by simp [mayRemove])
  case flushIssue => exact absurd h (by simp [mayRemove])
  case flushToEmptyEnd => exact absurd h (by simp [mayRemove])
  case dirtyLimitRecompute => exact absurd h (by simp [mayRemove])
  case dirtyLimitRaise => exact absurd h (by simp [mayRemove])
  case writeThroughExit => exact absurd h (by simp [mayRemove])
  case writeThroughForce => exact absurd h (by simp [mayRemove])
  case bufferAllocate => exact absurd h (by simp [mayRemove])
  case freeListRebuildEnd => exact absurd h (by simp [mayRemove])
  case bufferRelease => exact absurd h (by simp [mayRemove])
  case bufferTransfer => exact absurd h (by simp [mayRemove])
  case bufferShare => exact absurd h (by simp [mayRemove])
  case bufferDrop => exact absurd h (by simp [mayRemove])
  case dieOperationStart => exact absurd h (by simp [mayRemove])
  case programComplete => exact absurd h (by simp [mayRemove])
  case eraseComplete => exact (form_eraseComplete _ _ _ s).elim fun f e => ⟨s.now, f, e, .inl rfl⟩
  case hardReadComplete => exact absurd h (by simp [mayRemove])
  case sampleReadComplete => exact absurd h (by simp [mayRemove])
  case burstReceived => exact absurd h (by simp [mayRemove])
  case sampleOutEnd => exact absurd h (by simp [mayRemove])
  case codewordDecoded => exact absurd h (by simp [mayRemove])
  case codewordDecodeFail => exact absurd h (by simp [mayRemove])
  case ladderStepBudgetExpiry => exact absurd h (by simp [mayRemove])
  case programSuspend => exact absurd h (by simp [mayRemove])
  case eraseSuspend => exact absurd h (by simp [mayRemove])
  case suspendComplete => exact absurd h (by simp [mayRemove])
  case programResume => exact absurd h (by simp [mayRemove])
  case eraseResume => exact absurd h (by simp [mayRemove])
  case dieReadyTimeout => exact absurd h (by simp [mayRemove])
  case rebuildWordline => exact absurd h (by simp [mayRemove])
  case retrainPeriodExpiry => exact absurd h (by simp [mayRemove])
  case retrainingSlotStart => exact absurd h (by simp [mayRemove])
  case retrainingSlotEnd => exact absurd h (by simp [mayRemove])
  case slotDeferTimeout => exact absurd h (by simp [mayRemove])
  case fullRetrainingStart => exact absurd h (by simp [mayRemove])
  case fullRetrainingEnd => exact (form_fullRetrainingEnd _ _ _ s).elim fun f e => ⟨s.now, f, e, .inl rfl⟩
  case sdfClassClr => exact absurd h (by simp [mayRemove])
  case sdfBadcolWrite => exact (form_sdfBadcolWrite _ _ s).elim fun f e => ⟨s.now, f, e, .inl rfl⟩
  case ldcStNow => exact absurd h (by simp [mayRemove])
  case ldcSelftestPeriod => exact absurd h (by simp [mayRemove])
  case ldcSelftestEnd => exact absurd h (by simp [mayRemove])
  case reallocationAccept => exact absurd h (by simp [mayRemove])
  case relocationStep => exact absurd h (by simp [mayRemove])
  case xltRelocOldest => exact absurd h (by simp [mayRemove])
  case xltCkptNow => exact absurd h (by simp [mayRemove])
  case checkpointTimer => exact absurd h (by simp [mayRemove])
  case checkpointCommit => exact absurd h (by simp [mayRemove])
  case checkpointLateTimeout => exact absurd h (by simp [mayRemove])
  case mapRestartEnd => exact absurd h (by simp [mayRemove])
  case mapRebuildEnd => exact absurd h (by simp [mayRemove])
  case inputLoss => exact absurd h (by simp [mayRemove])
  case dumpPaceTick => exact absurd h (by simp [mayRemove])
  case dumpProgramComplete => exact absurd h (by simp [mayRemove])
  case dumpCommit => exact absurd h (by simp [mayRemove])
  case dumpAbandon => exact absurd h (by simp [mayRemove])
  case dumpSupersede => exact absurd h (by simp [mayRemove])
  case inputValid => exact absurd h (by simp [mayRemove])
  case inputInvalid => exact absurd h (by simp [mayRemove])
  case returnComplete => exact absurd h (by simp [mayRemove])
  case returnWaitTimeout => exact absurd h (by simp [mayRemove])
  case gaugeSample => exact absurd h (by simp [mayRemove])
  case gaugeRecompute => exact absurd h (by simp [mayRemove])
  case restWindowEnd => exact absurd h (by simp [mayRemove])
  case forcedRestDue => exact absurd h (by simp [mayRemove])
  case uncertaintyHourly => exact absurd h (by simp [mayRemove])
  case estimateDisagree => exact absurd h (by simp [mayRemove])
  case hucZNow => exact absurd h (by simp [mayRemove])
  case impedanceStepStart => exact absurd h (by simp [mayRemove])
  case impedanceMeasure => exact absurd h (by simp [mayRemove])
  case impedanceStepEnd => exact absurd h (by simp [mayRemove])
  case packHotTimeout => exact absurd h (by simp [mayRemove])
  case chargeTimeout => exact absurd h (by simp [mayRemove])
  case packInsert => exact absurd h (by simp [mayRemove])
  case packRemove => exact absurd h (by simp [mayRemove])
  case hucLearnNow => exact absurd h (by simp [mayRemove])
  case learnStart => exact absurd h (by simp [mayRemove])
  case learnRestEnd => exact absurd h (by simp [mayRemove])
  case hucRestNow => exact absurd h (by simp [mayRemove])
  case lifeRecordPeriod => exact absurd h (by simp [mayRemove])
  case railOutOfWindow => exact absurd h (by simp [mayRemove])
  case aoPowerOnReset => exact (form_aoPowerOnReset s).elim fun f e => ⟨0, f, e, .inr rfl⟩
  case powerUpStart => exact absurd h (by simp [mayRemove])
  case railPowerGood => exact absurd h (by simp [mayRemove])
  case railSettleDone => exact absurd h (by simp [mayRemove])
  case bootEnd => exact absurd h (by simp [mayRemove])
  case partialParityRebuildEnd => exact absurd h (by simp [mayRemove])
  case powerGoodTimeout => exact absurd h (by simp [mayRemove])
  case offFlushTimeout => exact absurd h (by simp [mayRemove])
  case flashReadyWaitEnd => exact absurd h (by simp [mayRemove])
  case railDischarged => exact absurd h (by simp [mayRemove])
  case dischargeTimeout => exact absurd h (by simp [mayRemove])
  case psqOff => exact absurd h (by simp [mayRemove])
  case psqRstoPulse => exact absurd h (by simp [mayRemove])
  case rstoStretchExpiry => exact absurd h (by simp [mayRemove])
  case droopEngage => exact absurd h (by simp [mayRemove])
  case droopRelease => exact (form_droopRelease s).elim fun f e => ⟨s.now, f, e, .inl rfl⟩
  case droopLong => exact absurd h (by simp [mayRemove])
  case modeTargetRun => exact absurd h (by simp [mayRemove])
  case modeTargetService => exact absurd h (by simp [mayRemove])
  case holdRequest => exact absurd h (by simp [mayRemove])
  case holdRelease => exact absurd h (by simp [mayRemove])
  case thermAck => exact absurd h (by simp [mayRemove])
  case restIdleExpiry => exact absurd h (by simp [mayRemove])
  case restEntryComplete => exact absurd h (by simp [mayRemove])
  case clkreqAssert => exact absurd h (by simp [mayRemove])
  case causewaySignalDetect => exact absurd h (by simp [mayRemove])
  case smbusAddressMatch => exact absurd h (by simp [mayRemove])
  case wakeStepDone => exact absurd h (by simp [mayRemove])
  case padRelease => exact absurd h (by simp [mayRemove])
  case padReleaseTimeout => exact absurd h (by simp [mayRemove])
  case watchEntry => exact absurd h (by simp [mayRemove])
  case watchRound => exact absurd h (by simp [mayRemove])
  case watchInputSample => exact absurd h (by simp [mayRemove])
  case watchGaugeWake => exact absurd h (by simp [mayRemove])
  case watchGaugeSleep => exact absurd h (by simp [mayRemove])
  case dramRequest => exact absurd h (by simp [mayRemove])
  case dramReadComplete => exact absurd h (by simp [mayRemove])
  case dramFence => exact absurd h (by simp [mayRemove])
  case dramRefresh => exact absurd h (by simp [mayRemove])
  case mr4Poll => exact absurd h (by simp [mayRemove])
  case dramAlert => exact absurd h (by simp [mayRemove])
  case dramRetrainEnd => exact absurd h (by simp [mayRemove])
  case dramStrobeTimeout => exact absurd h (by simp [mayRemove])
  case dramSoftRepair => exact absurd h (by simp [mayRemove])
  case dramRepairEnd => exact absurd h (by simp [mayRemove])
  case dramPatrolScrub => exact absurd h (by simp [mayRemove])
  case dmcScrubGo => exact absurd h (by simp [mayRemove])
  case dramScrubRangeEnd => exact absurd h (by simp [mayRemove])
  case sramCorrectedWord => exact absurd h (by simp [mayRemove])
  case sramUncorrectableWord => exact absurd h (by simp [mayRemove])
  case mpuDmaRearm => exact absurd h (by simp [mayRemove])
  case mpuScrubGo => exact absurd h (by simp [mayRemove])
  case sramScrubEnd => exact absurd h (by simp [mayRemove])
  case causewayTrained => exact absurd h (by simp [mayRemove])
  case helloTimer => exact absurd h (by simp [mayRemove])
  case helloReceived => exact absurd h (by simp [mayRemove])
  case helloDeadTimeout => exact absurd h (by simp [mayRemove])
  case blockLockLoss => exact absurd h (by simp [mayRemove])
  case lsaReceived => exact absurd h (by simp [mayRemove])
  case lsaRefreshTimer => exact absurd h (by simp [mayRemove])
  case lsaAgeOut => exact absurd h (by simp [mayRemove])
  case pathRecomputeDone => exact absurd h (by simp [mayRemove])
  case ackTimer => exact absurd h (by simp [mayRemove])
  case ackReceived => exact absurd h (by simp [mayRemove])
  case nakReceived => exact absurd h (by simp [mayRemove])
  case creditReceived => exact absurd h (by simp [mayRemove])
  case creditReturnTimer => exact absurd h (by simp [mayRemove])
  case transitFrame => exact absurd h (by simp [mayRemove])
  case reqReceived => exact absurd h (by simp [mayRemove])
  case replReceived => exact absurd h (by simp [mayRemove])
  case copyReceived => exact absurd h (by simp [mayRemove])
  case dataReceived => exact absurd h (by simp [mayRemove])
  case rspReceived => exact absurd h (by simp [mayRemove])
  case rdataReceived => exact absurd h (by simp [mayRemove])
  case mgmtReceived => exact (form_mgmtReceived _ _ s).elim fun f e => ⟨s.now, f, e, .inl rfl⟩
  case mgmtRspReceived => exact (form_mgmtRspReceived _ _ s).elim fun f e => ⟨s.now, f, e, .inl rfl⟩
  case e2eTimeout => exact absurd h (by simp [mayRemove])
  case dupEntryExpiry => exact absurd h (by simp [mayRemove])
  case copyPieceSend => exact absurd h (by simp [mayRemove])
  case jnrWakeTx => exact absurd h (by simp [mayRemove])
  case bindingWakeTimer => exact absurd h (by simp [mayRemove])
  case jnrCfgWrite => exact (form_jnrCfgWrite _ s).elim fun f e => ⟨s.now, f, e, .inl rfl⟩
  case jnrBindWrite => exact (form_jnrBindWrite _ _ _ s).elim fun f e => ⟨s.now, f, e, .inl rfl⟩
  case errorReport => exact absurd h (by simp [mayRemove])
  case faultDumpTimeout => exact absurd h (by simp [mayRemove])
  case restartCountReset => exact absurd h (by simp [mayRemove])
  case fclCaptureClear => exact absurd h (by simp [mayRemove])
  case eventDispatch => exact absurd h (by simp [mayRemove])
  case logRecordWrite => exact absurd h (by simp [mayRemove])
  case logRepeatFlush => exact absurd h (by simp [mayRemove])
  case milestoneLineWrite => exact absurd h (by simp [mayRemove])
  case epochHeaderWrite => exact absurd h (by simp [mayRemove])
  case counterLineWrite => exact absurd h (by simp [mayRemove])
  case operatingHoursStep => exact absurd h (by simp [mayRemove])
  case msmLogDataRead => exact absurd h (by simp [mayRemove])
  case msmWinDataRead => exact absurd h (by simp [mayRemove])
  case msmReportClr => exact absurd h (by simp [mayRemove])
  case evrQclr => exact absurd h (by simp [mayRemove])
  case housekeepingRound => exact absurd h (by simp [mayRemove])
  case thermalTrip => exact absurd h (by simp [mayRemove])
  case firmwareStoreRead => exact absurd h (by simp [mayRemove])
  case firmwareSlotProgrammed => exact absurd h (by simp [mayRemove])
  case trialConfirm => exact absurd h (by simp [mayRemove])
  case activationComplete => exact absurd h (by simp [mayRemove])
  case activationTimeout => exact absurd h (by simp [mayRemove])
  case coreHalt => exact absurd h (by simp [mayRemove])
  case configCommitTimer => exact absurd h (by simp [mayRemove])
  case configCommitEnd => exact absurd h (by simp [mayRemove])
  case getIdentity => exact (form_getIdentity _ s).elim fun f e => ⟨s.now, f, e, .inl rfl⟩
  case getConfigurationReport => exact (form_getConfigurationReport _ s).elim fun f e => ⟨s.now, f, e, .inl rfl⟩
  case getNamespaceIdentify => exact (form_getNamespaceIdentify _ s).elim fun f e => ⟨s.now, f, e, .inl rfl⟩
  case readRegisters => exact (form_readRegisters _ s).elim fun f e => ⟨s.now, f, e, .inl rfl⟩
  case writeRegister => exact (form_writeRegister _ s).elim fun f e => ⟨s.now, f, e, .inl rfl⟩
  case commitConfiguration => exact (form_commitConfiguration _ s).elim fun f e => ⟨s.now, f, e, .inl rfl⟩
  case getRecordStatus => exact (form_getRecordStatus _ s).elim fun f e => ⟨s.now, f, e, .inl rfl⟩
  case setSliceCount => exact (form_setSliceCount _ s).elim fun f e => ⟨s.now, f, e, .inl rfl⟩
  case bindPasid => exact (form_bindPasid _ s).elim fun f e => ⟨s.now, f, e, .inl rfl⟩
  case setAccessBitmap => exact (form_setAccessBitmap _ s).elim fun f e => ⟨s.now, f, e, .inl rfl⟩
  case resetSlice => exact (form_resetSlice _ s).elim fun f e => ⟨s.now, f, e, .inl rfl⟩
  case setSliceBudgets => exact (form_setSliceBudgets _ s).elim fun f e => ⟨s.now, f, e, .inl rfl⟩
  case getSliceStatus => exact (form_getSliceStatus _ s).elim fun f e => ⟨s.now, f, e, .inl rfl⟩
  case waypointCommand => exact (form_waypointCommand _ s).elim fun f e => ⟨s.now, f, e, .inl rfl⟩
  case setRoute => exact (form_setRoute _ s).elim fun f e => ⟨s.now, f, e, .inl rfl⟩
  case setProfile => exact (form_setProfile _ s).elim fun f e => ⟨s.now, f, e, .inl rfl⟩
  case setNamespaceProfile => exact (form_setNamespaceProfile _ s).elim fun f e => ⟨s.now, f, e, .inl rfl⟩
  case getPackStatus => exact (form_getPackStatus _ s).elim fun f e => ⟨s.now, f, e, .inl rfl⟩
  case readPackHistory => exact (form_readPackHistory _ s).elim fun f e => ⟨s.now, f, e, .inl rfl⟩
  case setCharging => exact (form_setCharging _ s).elim fun f e => ⟨s.now, f, e, .inl rfl⟩
  case requestSelfTest => exact (form_requestSelfTest _ s).elim fun f e => ⟨s.now, f, e, .inl rfl⟩
  case queryTicket => exact (form_queryTicket _ s).elim fun f e => ⟨s.now, f, e, .inl rfl⟩
  case cancelTicket => exact (form_cancelTicket _ s).elim fun f e => ⟨s.now, f, e, .inl rfl⟩
  case ticketExpiry => exact absurd h (by simp [mayRemove])
  case mgiTclr => exact absurd h (by simp [mayRemove])
  case readLog => exact (form_readLog _ s).elim fun f e => ⟨s.now, f, e, .inl rfl⟩
  case writeAnnotation => exact (form_writeAnnotation _ s).elim fun f e => ⟨s.now, f, e, .inl rfl⟩
  case readEventQueue => exact (form_readEventQueue _ s).elim fun f e => ⟨s.now, f, e, .inl rfl⟩
  case readDirtyEpochReport => exact (form_readDirtyEpochReport _ s).elim fun f e => ⟨s.now, f, e, .inl rfl⟩
  case clearDirtyEpochReport => exact (form_clearDirtyEpochReport _ s).elim fun f e => ⟨s.now, f, e, .inl rfl⟩
  case readLateFaultRecords => exact (form_readLateFaultRecords _ s).elim fun f e => ⟨s.now, f, e, .inl rfl⟩
  case setNode => exact (form_setNode _ s).elim fun f e => ⟨s.now, f, e, .inl rfl⟩
  case setNodeSlice => exact (form_setNodeSlice _ s).elim fun f e => ⟨s.now, f, e, .inl rfl⟩
  case bindNamespace => exact (form_bindNamespace _ s).elim fun f e => ⟨s.now, f, e, .inl rfl⟩
  case unbindNamespace => exact (form_unbindNamespace _ s).elim fun f e => ⟨s.now, f, e, .inl rfl⟩
  case peerZoneCopy => exact (form_peerZoneCopy _ s).elim fun f e => ⟨s.now, f, e, .inl rfl⟩
  case getFabricStatus => exact (form_getFabricStatus _ s).elim fun f e => ⟨s.now, f, e, .inl rfl⟩
  case downloadFirmware => exact (form_downloadFirmware _ _ s).elim fun f e => ⟨s.now, f, e, .inl rfl⟩
  case commitFirmware => exact (form_commitFirmware _ _ s).elim fun f e => ⟨s.now, f, e, .inl rfl⟩
  case getSlotInfo => exact (form_getSlotInfo _ s).elim fun f e => ⟨s.now, f, e, .inl rfl⟩
  case acknowledgeThermalShutdown => exact (form_acknowledgeThermalShutdown _ s).elim fun f e => ⟨s.now, f, e, .inl rfl⟩
  case powerOff => exact (form_powerOff _ s).elim fun f e => ⟨s.now, f, e, .inl rfl⟩
  case setMode => exact (form_setMode _ s).elim fun f e => ⟨s.now, f, e, .inl rfl⟩
  case getThermalAndPower => exact (form_getThermalAndPower _ s).elim fun f e => ⟨s.now, f, e, .inl rfl⟩
  case rawRead => exact (form_rawRead _ _ s).elim fun f e => ⟨s.now, f, e, .inl rfl⟩
  case rawProgram => exact (form_rawProgram _ s).elim fun f e => ⟨s.now, f, e, .inl rfl⟩
  case rawErase => exact (form_rawErase _ s).elim fun f e => ⟨s.now, f, e, .inl rfl⟩
  case setBadColumnRange => exact (form_setBadColumnRange _ s).elim fun f e => ⟨s.now, f, e, .inl rfl⟩
  case declareDieFailed => exact (form_declareDieFailed _ s).elim fun f e => ⟨s.now, f, e, .inl rfl⟩
  case readNvmeMiDataStructure => exact absurd h (by simp [mayRemove])
  case subsystemHealthStatusPoll => exact absurd h (by simp [mayRemove])
  case controllerHealthStatusPoll => exact absurd h (by simp [mayRemove])
  case nvmeMiVendorC1 => exact (form_nvmeMiVendorC1 _ s).elim fun f e => ⟨s.now, f, e, .inl rfl⟩
  case bypass => exact absurd h (by simp [mayRemove])
  case idcode => exact absurd h (by simp [mayRemove])
  case samplePreload => exact absurd h (by simp [mayRemove])
  case extest => exact absurd h (by simp [mayRemove])
  case clamp => exact absurd h (by simp [mayRemove])
  case highz => exact absurd h (by simp [mayRemove])
  case qenClrCnt => exact absurd h (by simp [mayRemove])
  case qenClrPeak => exact absurd h (by simp [mayRemove])
  case slmClrCnt => exact absurd h (by simp [mayRemove])
  case tlgClrCnt => exact absurd h (by simp [mayRemove])
  case wptClrCnt => exact absurd h (by simp [mayRemove])
  case zneClrCnt => exact absurd h (by simp [mayRemove])
  case wcuClrCnt => exact absurd h (by simp [mayRemove])
  case bplClrCnt => exact absurd h (by simp [mayRemove])
  case fsqClrCnt => exact absurd h (by simp [mayRemove])
  case dscClrCnt => exact absurd h (by simp [mayRemove])
  case sdfClrCnt => exact absurd h (by simp [mayRemove])
  case ldcClrCnt => exact absurd h (by simp [mayRemove])
  case xltClrCnt => exact absurd h (by simp [mayRemove])
  case hucClrCnt => exact absurd h (by simp [mayRemove])
  case psqClrCnt => exact absurd h (by simp [mayRemove])
  case drgClrCnt => exact absurd h (by simp [mayRemove])
  case pscClrCnt => exact absurd h (by simp [mayRemove])
  case dmcClrCnt => exact absurd h (by simp [mayRemove])
  case mpuClrCnt => exact absurd h (by simp [mayRemove])
  case jnrClrCnt => exact absurd h (by simp [mayRemove])
  case fclClrCnt => exact absurd h (by simp [mayRemove])
  case msmClrCnt => exact absurd h (by simp [mayRemove])
  case thmClrCnt => exact absurd h (by simp [mayRemove])
  case fwsClrCnt => exact absurd h (by simp [mayRemove])
  case fwcClrCnt => exact absurd h (by simp [mayRemove])
  case holdUpBusArmed => exact absurd h (by simp [mayRemove])
  case aerErrorLogged => exact absurd h (by simp [mayRemove])
  case frameDiscarded => exact absurd h (by simp [mayRemove])
  case pasidEnableClear => exact absurd h (by simp [mayRemove])

end Sys2Proof.Machine
end

