-- ==== Sys2Proof/Laws/Operands.lean ====
section
/-!
SUPPORT. Bytes, fields of bytes and the CRC-32: what is laid out reads back.
-/

namespace Sys2Proof.Machine

@[simp] theorem length_le (n v : Nat) : (le n v).length = n := by
  induction n generalizing v with
  | zero => rfl
  | succ n ih => simp [le, ih]

theorem unle_le (n v : Nat) : unle (le n v) = v % 256 ^ n := by
  induction n generalizing v with
  | zero => simp [le, unle, Nat.mod_one]
  | succ n ih =>
    simp only [le, unle, ih]
    rw [Nat.pow_succ', Nat.mod_mul, Nat.mod_mod]

/-- A number laid out between other bytes reads back, cut to its bytes. -/
theorem field_le (a b : List Nat) (n v o : Nat) (h : o = a.length) : field (a ++ (le n v ++ b)) o n = v % 256 ^ n := by
  subst h
  unfold field
  rw [List.drop_left, ← unle_le n v]
  congr 1
  have := List.take_left (l₁ := le n v) (l₂ := b)
  rwa [length_le] at this

/-- A field that lies in the first part of some bytes does not depend on the rest. -/
theorem field_left (a b : List Nat) (o n : Nat) (h : o + n ≤ a.length) : field (a ++ b) o n = field a o n := by
  unfold field
  rw [List.drop_append_of_le_length (by omega), List.take_append_of_le_length (by simp; omega)]

theorem crc32Step_lt (n c : Nat) (h : c < 2 ^ 32) : crc32Step n c < 2 ^ 32 := by
  induction n generalizing c with
  | zero => exact h
  | succ n ih =>
    refine ih _ ?_
    split
    · exact Nat.xor_lt_two_pow (by omega) (by decide)
    · omega

theorem crc32Run_lt (l : List Nat) (c : Nat) (h : c < 2 ^ 32) : crc32Run l c < 2 ^ 32 := by
  induction l generalizing c with
  | nil => exact h
  | cons b t ih => exact ih _ (crc32Step_lt 8 _ (Nat.xor_lt_two_pow h (by omega)))

theorem crc32_lt (l : List Nat) : crc32 l < 2 ^ 32 := Nat.xor_lt_two_pow (crc32Run_lt l _ (by decide)) (by decide)

theorem turn256_zero (k : Nat) : turn256 0 k = 0 := by simp [turn256]

/-- The word of zeros has syndrome zero, whatever the base matrix (R213, R215). -/
theorem syndromeRow_zero (i : Nat) : syndromeRow 0 i = 0 := by
  unfold syndromeRow
  generalize List.range 144 = l
  induction l with
  | nil => rfl
  | cons j l ih =>
    rw [List.foldl_cons]
    cases h : Config.baseShift i j with
    | none => simpa using ih
    | some k => simpa [turn256_zero] using ih

theorem syndromeZero_zero : syndromeZero 0 = true := by simp [syndromeZero, syndromeRow_zero]

end Sys2Proof.Machine
end

