-- ==== Sys2Proof/Laws/Ops.lean ====
section
/-!
SUPPORT. What the shared operations on counters, once-per-clearing sources, event registers and contexts can do.
-/

namespace Sys2Proof.Machine

theorem State.get_raise_ne (s : State) (n q : Nat) (f : Field) (i j : Nat) (h : EVR_PEND.key (n / 32) 0 ≠ f.key i j) :
    (s.raise n q).get f i j = s.get f i j := by
  have e : (s.raise n q).regs = (s.set EVR_PEND (setBit (s.get EVR_PEND (n / 32)) (n % 32)) (n / 32)).regs := rfl
  rw [State.get_of_regs e]
  exact State.get_set_ne _ _ _ _ _ _ _ _ h

/-- A once-per-clearing source that has fired is not raised again. -/
theorem State.raiseOnce_fired (s : State) (n o q : Nat) (h : s.hasFired n o = true) : s.raiseOnce n o q = s := by
  simp [State.raiseOnce, h]

/-- A once-per-clearing source that has not fired is raised and has fired then. -/
theorem State.raiseOnce_first (s : State) (n o q : Nat) (h : s.hasFired n o = false) :
    s.raiseOnce n o q = { s with ev := { s.ev with fired := (n, o) :: s.ev.fired } }.raise n q ∧ (s.raiseOnce n o q).hasFired n o = true := by
  have : s.raiseOnce n o q = { s with ev := { s.ev with fired := (n, o) :: s.ev.fired } }.raise n q := by simp [State.raiseOnce, h]
  refine ⟨this, ?_⟩
  rw [this]
  simp [State.hasFired, State.raise]

theorem State.get_saturated_ne (s : State) (b : CntBlock) (o si : Nat) (f : Field) (i j : Nat) (hs : b.sat.key si 0 ≠ f.key i j)
    (he : EVR_PEND.key (b.src / 32) 0 ≠ f.key i j) : (s.saturated b o si).get f i j = s.get f i j := by
  unfold State.saturated
  split
  · rfl
  · rw [State.get_raise_ne _ _ _ _ _ _ he, State.get_set_ne _ _ _ _ _ _ _ _ hs]
    exact State.get_of_regs rfl f i j

/-- R391: a counter adds and holds all ones at its largest value. -/
theorem State.bump_get (s : State) (b : CntBlock) (f : Field) (i n o si : Nat) (hi : f.reg.has i 0 = true)
    (hs : b.sat.key si 0 ≠ f.key i 0) (he : EVR_PEND.key (b.src / 32) 0 ≠ f.key i 0) :
    (s.bump b f i n o si).get f i = min (s.get f i + n) (2 ^ f.width - 1) := by
  have hp : 0 < 2 ^ f.width := Nat.two_pow_pos _
  unfold State.bump
  simp only
  split
  · rw [State.get_saturated_ne _ _ _ _ _ _ _ hs he, State.get_set _ _ _ _ _ hi, Nat.mod_eq_of_lt (by omega)]
    omega
  · rw [State.get_set _ _ _ _ _ hi, Nat.mod_eq_of_lt (by omega)]
    omega

/-- A bit of an event register that is already set changes nothing. -/
theorem State.evt_set (s : State) (f : Field) (n i : Nat) (l : List Field) (h : s.flag f i = true) : s.evt f n l i = s := by
  simp [State.evt, h]

/-- A context is gone once it is freed, and no other is. -/
theorem State.freeCtx_ctxs (s : State) (id : Nat) : (s.freeCtx id).ctxs = s.ctxs.filter (·.id != id) := rfl

/-- A command of this node that completes with an error waits for its entry behind those that completed before it (R46). -/
theorem State.complete_error (s : State) (id dw0 dw1 : Nat) (st : NvmeStatus) (c : Ctx) (hc : s.ctx id = some c) (hs : c.stage ≠ .done)
    (hr : c.remote = none) (he : st ≠ .success) :
    s.complete id st dw0 dw1 =
      { s.modCtx id (fun c => { c with stage := .done, status := st, dw0 := dw0, dw1 := dw1 }) with doneQ := s.doneQ ++ [id] } := by
  simp [State.complete, hc, hs, hr, he, State.modCtx]

/-- A command that awaits no partner and completes with success waits for its entry likewise. -/
theorem State.complete_success (s : State) (id dw0 dw1 : Nat) (c : Ctx) (hc : s.ctx id = some c) (hs : c.stage ≠ .done)
    (hr : c.remote = none) (hw : c.replWait = false) (hf : c.replFailed = false) :
    s.complete id .success dw0 dw1 =
      { s.modCtx id (fun c => { c with stage := .done, status := .success, dw0 := dw0, dw1 := dw1 }) with doneQ := s.doneQ ++ [id] } := by
  simp [State.complete, hc, hs, hr, hw, hf, State.modCtx]

/-- A command that is complete stays as it is. -/
theorem State.complete_done (s : State) (id dw0 dw1 : Nat) (st : NvmeStatus) (c : Ctx) (hc : s.ctx id = some c) (hs : c.stage = .done) :
    s.complete id st dw0 dw1 = s := by
  simp [State.complete, hc, hs]

end Sys2Proof.Machine
end

