-- ==== Sys2Proof/Laws/PerInstr.lean ====
section
/-!
SUPPORT. What holds of each row of the table as syntax: it has well-formed commands, so that no range of `WellFormed` shuts a row out.
-/

namespace Sys2Proof.Laws

/-- An entry, packet, frame and so on with every number at 0, for the lemmas below. -/
def someEntry : SqEntry := ⟨0, 0, 0, 0, 0, 0, 0, 0, 0⟩

def somePacket : Packet := ⟨0, 0, [], 0⟩

def someFrame : Frame := ⟨0, 0, 0, 0, 0, 0, 0, 0, 0, 0, [], true⟩

def someHeader : ImageHeader := ⟨0, false, 0, 0, 0⟩

def somePack : PackFound := ⟨List.replicate 256 0, List.replicate 64 0, List.replicate 64 0, List.replicate 1536 0, 0⟩

def someEnv : BootEnv := ⟨List.replicate 64 0, [], [], [], [], [], [], 0, 0, [], [], [], [], [], [], [], [], none⟩

def someRound : Round := ⟨List.replicate 12 0, List.replicate 8 0, List.replicate 12 0, 0⟩

theorem someEntry_wf : someEntry.wf := by decide

theorem somePacket_wf : somePacket.wf := by decide

theorem someFrame_wf : someFrame.wf := by decide

theorem isBytes_zeros (n : Nat) : isBytes (List.replicate n 0) := by
  intro b h
  rw [List.eq_of_mem_replicate h]
  decide

theorem somePack_wf : somePack.wf :=
  ⟨isBytes_zeros _, List.length_replicate, isBytes_zeros _, List.length_replicate, isBytes_zeros _, List.length_replicate, isBytes_zeros _,
    List.length_replicate⟩

theorem someEnv_wf : someEnv.wf := by decide

/-- A command of the same row of the table as `i` is well formed. -/
def Row.Statement (i : Instr) : Prop := ∃ j : Instr, j.ctorIdx = i.ctorIdx ∧ j.wf

theorem Row.registerWrite (port : Nat) (space : RegSpace) (size addr value : Nat) : Row.Statement (.registerWrite port space size addr value) := ⟨.registerWrite 0 .window 4 0 0, rfl, by unfold Instr.wf; decide⟩
theorem Row.uptimeLoRead (port size off : Nat) : Row.Statement (.uptimeLoRead port size off) := ⟨.uptimeLoRead 0 4 0, rfl, by unfold Instr.wf; decide⟩
theorem Row.recTotalLoRead (port size off : Nat) : Row.Statement (.recTotalLoRead port size off) := ⟨.recTotalLoRead 0 4 0, rfl, by unfold Instr.wf; decide⟩
theorem Row.ckptNumLoRead (port size off : Nat) : Row.Statement (.ckptNumLoRead port size off) := ⟨.ckptNumLoRead 0 4 0, rfl, by unfold Instr.wf; decide⟩
theorem Row.firstTsLoRead (port size off : Nat) : Row.Statement (.firstTsLoRead port size off) := ⟨.firstTsLoRead 0 4 0, rfl, by unfold Instr.wf; decide⟩
theorem Row.cfgSeqLoRead (port size off : Nat) : Row.Statement (.cfgSeqLoRead port size off) := ⟨.cfgSeqLoRead 0 4 0, rfl, by unfold Instr.wf; decide⟩
theorem Row.linkUp (port rate width : Nat) (flit : Bool) : Row.Statement (.linkUp port rate width flit) := ⟨.linkUp 0 0 0 false, rfl, by unfold Instr.wf; decide⟩
theorem Row.linkDown (port : Nat) : Row.Statement (.linkDown port) := ⟨.linkDown 0, rfl, by unfold Instr.wf; decide⟩
theorem Row.functionLevelReset (port : Nat) : Row.Statement (.functionLevelReset port) := ⟨.functionLevelReset 0, rfl, by unfold Instr.wf; decide⟩
theorem Row.perstAssert (port : Nat) : Row.Statement (.perstAssert port) := ⟨.perstAssert 0, rfl, by unfold Instr.wf; decide⟩
theorem Row.perstDeassert (port : Nat) : Row.Statement (.perstDeassert port) := ⟨.perstDeassert 0, rfl, by unfold Instr.wf; decide⟩
theorem Row.ccEnSet (port iosqes iocqes ams asqs acqs : Nat) : Row.Statement (.ccEnSet port iosqes iocqes ams asqs acqs) := ⟨.ccEnSet 0 0 0 0 0 0, rfl, by unfold Instr.wf; decide⟩
theorem Row.ccEnClear (port : Nat) : Row.Statement (.ccEnClear port) := ⟨.ccEnClear 0, rfl, by unfold Instr.wf; decide⟩
theorem Row.normalShutdown (port : Nat) : Row.Statement (.normalShutdown port) := ⟨.normalShutdown 0, rfl, by unfold Instr.wf; decide⟩
theorem Row.abruptShutdown (port : Nat) : Row.Statement (.abruptShutdown port) := ⟨.abruptShutdown 0, rfl, by unfold Instr.wf; decide⟩
theorem Row.shutdownTimeout (port : Nat) : Row.Statement (.shutdownTimeout port) := ⟨.shutdownTimeout 0, rfl, by unfold Instr.wf; decide⟩
theorem Row.shutdownDone (port : Nat) : Row.Statement (.shutdownDone port) := ⟨.shutdownDone 0, rfl, by unfold Instr.wf; decide⟩
theorem Row.sqTailDoorbell (port qid value : Nat) (pasid : Option Nat) : Row.Statement (.sqTailDoorbell port qid value pasid) := ⟨.sqTailDoorbell 0 0 0 none, rfl, by unfold Instr.wf; decide⟩
theorem Row.cqHeadDoorbell (port qid value : Nat) (pasid : Option Nat) : Row.Statement (.cqHeadDoorbell port qid value pasid) := ⟨.cqHeadDoorbell 0 0 0 none, rfl, by unfold Instr.wf; decide⟩
theorem Row.commandFetch (port : Nat) (entry : SqEntry) : Row.Statement (.commandFetch port entry) := ⟨.commandFetch 0 someEntry, rfl, by unfold Instr.wf; decide⟩
theorem Row.completionPost (port qid : Nat) : Row.Statement (.completionPost port qid) := ⟨.completionPost 0 0, rfl, by unfold Instr.wf; decide⟩
theorem Row.cqStallTimeout (port qid : Nat) : Row.Statement (.cqStallTimeout port qid) := ⟨.cqStallTimeout 0 0, rfl, by unfold Instr.wf; decide⟩
theorem Row.createIoSq (ctx : Nat) : Row.Statement (.createIoSq ctx) := ⟨.createIoSq 0, rfl, by unfold Instr.wf; decide⟩
theorem Row.createIoCq (ctx : Nat) : Row.Statement (.createIoCq ctx) := ⟨.createIoCq 0, rfl, by unfold Instr.wf; decide⟩
theorem Row.deleteIoSq (ctx : Nat) : Row.Statement (.deleteIoSq ctx) := ⟨.deleteIoSq 0, rfl, by unfold Instr.wf; decide⟩
theorem Row.deleteIoCq (ctx : Nat) : Row.Statement (.deleteIoCq ctx) := ⟨.deleteIoCq 0, rfl, by unfold Instr.wf; decide⟩
theorem Row.getLogPage (ctx : Nat) : Row.Statement (.getLogPage ctx) := ⟨.getLogPage 0, rfl, by unfold Instr.wf; decide⟩
theorem Row.identify (ctx : Nat) : Row.Statement (.identify ctx) := ⟨.identify 0, rfl, by unfold Instr.wf; decide⟩
theorem Row.abort (ctx : Nat) : Row.Statement (.abort ctx) := ⟨.abort 0, rfl, by unfold Instr.wf; decide⟩
theorem Row.setFeatures (ctx : Nat) : Row.Statement (.setFeatures ctx) := ⟨.setFeatures 0, rfl, by unfold Instr.wf; decide⟩
theorem Row.getFeatures (ctx : Nat) : Row.Statement (.getFeatures ctx) := ⟨.getFeatures 0, rfl, by unfold Instr.wf; decide⟩
theorem Row.asyncEventRequest (ctx : Nat) : Row.Statement (.asyncEventRequest ctx) := ⟨.asyncEventRequest 0, rfl, by unfold Instr.wf; decide⟩
theorem Row.nsCreate (ctx : Nat) (data : NsData) : Row.Statement (.nsCreate ctx data) := ⟨.nsCreate 0 ⟨0, 0, 0, 0⟩, rfl, by unfold Instr.wf; decide⟩
theorem Row.nsDelete (ctx : Nat) : Row.Statement (.nsDelete ctx) := ⟨.nsDelete 0, rfl, by unfold Instr.wf; decide⟩
theorem Row.namespaceAttachment (ctx : Nat) (controllers : List Nat) : Row.Statement (.namespaceAttachment ctx controllers) := ⟨.namespaceAttachment 0 [], rfl, by unfold Instr.wf; decide⟩
theorem Row.firmwareImageDownload (ctx : Nat) (data : List Nat) : Row.Statement (.firmwareImageDownload ctx data) := ⟨.firmwareImageDownload 0 [], rfl, by unfold Instr.wf; decide⟩
theorem Row.firmwareCommit (ctx : Nat) (hdr : ImageHeader) : Row.Statement (.firmwareCommit ctx hdr) := ⟨.firmwareCommit 0 someHeader, rfl, by unfold Instr.wf; decide⟩
theorem Row.firmwareActivateImmediate (ctx : Nat) : Row.Statement (.firmwareActivateImmediate ctx) := ⟨.firmwareActivateImmediate 0, rfl, by unfold Instr.wf; decide⟩
theorem Row.directiveSend (ctx : Nat) : Row.Statement (.directiveSend ctx) := ⟨.directiveSend 0, rfl, by unfold Instr.wf; decide⟩
theorem Row.directiveReceive (ctx : Nat) : Row.Statement (.directiveReceive ctx) := ⟨.directiveReceive 0, rfl, by unfold Instr.wf; decide⟩
theorem Row.mgmtPacketCarrier (ctx : Nat) (fetched : Option (List Nat)) (replyOk : Bool) : Row.Statement (.mgmtPacketCarrier ctx fetched replyOk) := ⟨.mgmtPacketCarrier 0 none false, rfl, by unfold Instr.wf; decide⟩
theorem Row.ioRead (ctx : Nat) : Row.Statement (.ioRead ctx) := ⟨.ioRead 0, rfl, by unfold Instr.wf; decide⟩
theorem Row.ioWrite (ctx : Nat) (data : List Nat) (upsets : List Upset) : Row.Statement (.ioWrite ctx data upsets) := ⟨.ioWrite 0 [] [], rfl, by unfold Instr.wf; decide⟩
theorem Row.writeZeroes (ctx : Nat) (upsets : List Upset) : Row.Statement (.writeZeroes ctx upsets) := ⟨.writeZeroes 0 [], rfl, by unfold Instr.wf; decide⟩
theorem Row.zoneAppend (ctx : Nat) (data : List Nat) (upsets : List Upset) : Row.Statement (.zoneAppend ctx data upsets) := ⟨.zoneAppend 0 [] [], rfl, by unfold Instr.wf; decide⟩
theorem Row.flush (ctx : Nat) : Row.Statement (.flush ctx) := ⟨.flush 0, rfl, by unfold Instr.wf; decide⟩
theorem Row.datasetManagement (ctx : Nat) (ranges : List (Nat × Nat)) : Row.Statement (.datasetManagement ctx ranges) := ⟨.datasetManagement 0 [], rfl, by unfold Instr.wf; decide⟩
theorem Row.zoneOpen (ctx : Nat) (upsets : List Upset) : Row.Statement (.zoneOpen ctx upsets) := ⟨.zoneOpen 0 [], rfl, by unfold Instr.wf; decide⟩
theorem Row.zoneClose (ctx : Nat) : Row.Statement (.zoneClose ctx) := ⟨.zoneClose 0, rfl, by unfold Instr.wf; decide⟩
theorem Row.zoneFinish (ctx : Nat) : Row.Statement (.zoneFinish ctx) := ⟨.zoneFinish 0, rfl, by unfold Instr.wf; decide⟩
theorem Row.zoneReset (ctx : Nat) : Row.Statement (.zoneReset ctx) := ⟨.zoneReset 0, rfl, by unfold Instr.wf; decide⟩
theorem Row.zoneOffline (ctx : Nat) : Row.Statement (.zoneOffline ctx) := ⟨.zoneOffline 0, rfl, by unfold Instr.wf; decide⟩
theorem Row.zoneManagementReceive (ctx : Nat) : Row.Statement (.zoneManagementReceive ctx) := ⟨.zoneManagementReceive 0, rfl, by unfold Instr.wf; decide⟩
theorem Row.mirrorWriteHeld (pair : Nat) : Row.Statement (.mirrorWriteHeld pair) := ⟨.mirrorWriteHeld 0, rfl, by unfold Instr.wf; decide⟩
theorem Row.sliceResetRequest (slice go : Nat) : Row.Statement (.sliceResetRequest slice go) := ⟨.sliceResetRequest 0 0, rfl, by unfold Instr.wf; decide⟩
theorem Row.sliceResetComplete (slice : Nat) : Row.Statement (.sliceResetComplete slice) := ⟨.sliceResetComplete 0, rfl, by unfold Instr.wf; decide⟩
theorem Row.tokenRefill : Row.Statement (.tokenRefill) := ⟨.tokenRefill, rfl, by unfold Instr.wf; decide⟩
theorem Row.readAroundBudgetExpiry (ctx : Nat) : Row.Statement (.readAroundBudgetExpiry ctx) := ⟨.readAroundBudgetExpiry 0, rfl, by unfold Instr.wf; decide⟩
theorem Row.busyReadAround (cw : Nat) : Row.Statement (.busyReadAround cw) := ⟨.busyReadAround 0, rfl, by unfold Instr.wf; decide⟩
theorem Row.reconstructionComplete (cw : Nat) : Row.Statement (.reconstructionComplete cw) := ⟨.reconstructionComplete 0, rfl, by unfold Instr.wf; decide⟩
theorem Row.wptRead (index : Nat) : Row.Statement (.wptRead index) := ⟨.wptRead 0, rfl, by unfold Instr.wf; decide⟩
theorem Row.wptWrite (index : Nat) : Row.Statement (.wptWrite index) := ⟨.wptWrite 0, rfl, by unfold Instr.wf; decide⟩
theorem Row.wptInsert (index : Nat) : Row.Statement (.wptInsert index) := ⟨.wptInsert 0, rfl, by unfold Instr.wf; decide⟩
theorem Row.wptDelete (index : Nat) : Row.Statement (.wptDelete index) := ⟨.wptDelete 0, rfl, by unfold Instr.wf; decide⟩
theorem Row.wptMoveComplete : Row.Statement (.wptMoveComplete) := ⟨.wptMoveComplete, rfl, by unfold Instr.wf; decide⟩
theorem Row.wptScrubTick (upset : Bool) : Row.Statement (.wptScrubTick upset) := ⟨.wptScrubTick false, rfl, by unfold Instr.wf; decide⟩
theorem Row.accumulatorIdleSpill (acc : Nat) : Row.Statement (.accumulatorIdleSpill acc) := ⟨.accumulatorIdleSpill 0, rfl, by unfold Instr.wf; decide⟩
theorem Row.flushIssue : Row.Statement (.flushIssue) := ⟨.flushIssue, rfl, by unfold Instr.wf; decide⟩
theorem Row.flushToEmptyEnd : Row.Statement (.flushToEmptyEnd) := ⟨.flushToEmptyEnd, rfl, by unfold Instr.wf; decide⟩
theorem Row.dirtyLimitRecompute : Row.Statement (.dirtyLimitRecompute) := ⟨.dirtyLimitRecompute, rfl, by unfold Instr.wf; decide⟩
theorem Row.dirtyLimitRaise : Row.Statement (.dirtyLimitRaise) := ⟨.dirtyLimitRaise, rfl, by unfold Instr.wf; decide⟩
theorem Row.writeThroughExit : Row.Statement (.writeThroughExit) := ⟨.writeThroughExit, rfl, by unfold Instr.wf; decide⟩
theorem Row.writeThroughForce (value : Bool) : Row.Statement (.writeThroughForce value) := ⟨.writeThroughForce false, rfl, by unfold Instr.wf; decide⟩
theorem Row.bufferAllocate (pool owner slice : Nat) (internal : Bool) : Row.Statement (.bufferAllocate pool owner slice internal) := ⟨.bufferAllocate 0 0 0 false, rfl, by unfold Instr.wf; decide⟩
theorem Row.freeListRebuildEnd (list : Nat) : Row.Statement (.freeListRebuildEnd list) := ⟨.freeListRebuildEnd 0, rfl, by unfold Instr.wf; decide⟩
theorem Row.bufferRelease (pool index owner : Nat) : Row.Statement (.bufferRelease pool index owner) := ⟨.bufferRelease 0 0 0, rfl, by unfold Instr.wf; decide⟩
theorem Row.bufferTransfer (pool index owner newOwner : Nat) : Row.Statement (.bufferTransfer pool index owner newOwner) := ⟨.bufferTransfer 0 0 0 0, rfl, by unfold Instr.wf; decide⟩
theorem Row.bufferShare (pool index owner n : Nat) : Row.Statement (.bufferShare pool index owner n) := ⟨.bufferShare 0 0 0 0, rfl, by unfold Instr.wf; decide⟩
theorem Row.bufferDrop (pool index owner : Nat) : Row.Statement (.bufferDrop pool index owner) := ⟨.bufferDrop 0 0 0, rfl, by unfold Instr.wf; decide⟩
theorem Row.dieOperationStart (ch die : Nat) : Row.Statement (.dieOperationStart ch die) := ⟨.dieOperationStart 0 0, rfl, by unfold Instr.wf; decide⟩
theorem Row.programComplete (ch die : Nat) (pass : Bool) : Row.Statement (.programComplete ch die pass) := ⟨.programComplete 0 0 false, rfl, by unfold Instr.wf; decide⟩
theorem Row.eraseComplete (ch die : Nat) (pass : Bool) : Row.Statement (.eraseComplete ch die pass) := ⟨.eraseComplete 0 0 false, rfl, by unfold Instr.wf; decide⟩
theorem Row.hardReadComplete (ch die page : Nat) : Row.Statement (.hardReadComplete ch die page) := ⟨.hardReadComplete 0 0 0, rfl, ⟨by decide, by decide, Nat.two_pow_pos _⟩⟩
theorem Row.sampleReadComplete (ch die : Nat) : Row.Statement (.sampleReadComplete ch die) := ⟨.sampleReadComplete 0 0, rfl, by unfold Instr.wf; decide⟩
theorem Row.burstReceived (ch : Nat) (bytes : List Nat) : Row.Statement (.burstReceived ch bytes) := ⟨.burstReceived 0 [], rfl, by unfold Instr.wf; decide⟩
theorem Row.sampleOutEnd (ch : Nat) : Row.Statement (.sampleOutEnd ch) := ⟨.sampleOutEnd 0, rfl, by unfold Instr.wf; decide⟩
theorem Row.codewordDecoded (cw iters word : Nat) (check : Bool) : Row.Statement (.codewordDecoded cw iters word check) := ⟨.codewordDecoded 0 0 0 false, rfl, Nat.two_pow_pos _⟩
theorem Row.codewordDecodeFail (cw : Nat) : Row.Statement (.codewordDecodeFail cw) := ⟨.codewordDecodeFail 0, rfl, by unfold Instr.wf; decide⟩
theorem Row.ladderStepBudgetExpiry (cw : Nat) : Row.Statement (.ladderStepBudgetExpiry cw) := ⟨.ladderStepBudgetExpiry 0, rfl, by unfold Instr.wf; decide⟩
theorem Row.programSuspend (ch die : Nat) : Row.Statement (.programSuspend ch die) := ⟨.programSuspend 0 0, rfl, by unfold Instr.wf; decide⟩
theorem Row.eraseSuspend (ch die : Nat) : Row.Statement (.eraseSuspend ch die) := ⟨.eraseSuspend 0 0, rfl, by unfold Instr.wf; decide⟩
theorem Row.suspendComplete (ch die : Nat) : Row.Statement (.suspendComplete ch die) := ⟨.suspendComplete 0 0, rfl, by unfold Instr.wf; decide⟩
theorem Row.programResume (ch die : Nat) : Row.Statement (.programResume ch die) := ⟨.programResume 0 0, rfl, by unfold Instr.wf; decide⟩
theorem Row.eraseResume (ch die : Nat) : Row.Statement (.eraseResume ch die) := ⟨.eraseResume 0 0, rfl, by unfold Instr.wf; decide⟩
theorem Row.dieReadyTimeout (ch die : Nat) (idOk : Bool) : Row.Statement (.dieReadyTimeout ch die idOk) := ⟨.dieReadyTimeout 0 0 false, rfl, by unfold Instr.wf; decide⟩
theorem Row.rebuildWordline (ch die : Nat) : Row.Statement (.rebuildWordline ch die) := ⟨.rebuildWordline 0 0, rfl, by unfold Instr.wf; decide⟩
theorem Row.retrainPeriodExpiry (ch : Nat) : Row.Statement (.retrainPeriodExpiry ch) := ⟨.retrainPeriodExpiry 0, rfl, by unfold Instr.wf; decide⟩
theorem Row.retrainingSlotStart : Row.Statement (.retrainingSlotStart) := ⟨.retrainingSlotStart, rfl, by unfold Instr.wf; decide⟩
theorem Row.retrainingSlotEnd (eye : Nat) (burst : List Nat) : Row.Statement (.retrainingSlotEnd eye burst) := ⟨.retrainingSlotEnd 0 [], rfl, by unfold Instr.wf; decide⟩
theorem Row.slotDeferTimeout : Row.Statement (.slotDeferTimeout) := ⟨.slotDeferTimeout, rfl, by unfold Instr.wf; decide⟩
theorem Row.fullRetrainingStart (ch : Nat) : Row.Statement (.fullRetrainingStart ch) := ⟨.fullRetrainingStart 0, rfl, by unfold Instr.wf; decide⟩
theorem Row.fullRetrainingEnd (ch : Nat) (ok : Bool) (training : List DieTraining) : Row.Statement (.fullRetrainingEnd ch ok training) := ⟨.fullRetrainingEnd 0 false [], rfl, by unfold Instr.wf; decide⟩
theorem Row.sdfClassClr (ch : Nat) : Row.Statement (.sdfClassClr ch) := ⟨.sdfClassClr 0, rfl, by unfold Instr.wf; decide⟩
theorem Row.sdfBadcolWrite (ch value : Nat) : Row.Statement (.sdfBadcolWrite ch value) := ⟨.sdfBadcolWrite 0 0, rfl, by unfold Instr.wf; decide⟩
theorem Row.ldcStNow : Row.Statement (.ldcStNow) := ⟨.ldcStNow, rfl, by unfold Instr.wf; decide⟩
theorem Row.ldcSelftestPeriod : Row.Statement (.ldcSelftestPeriod) := ⟨.ldcSelftestPeriod, rfl, by unfold Instr.wf; decide⟩
theorem Row.ldcSelftestEnd (pass : Bool) : Row.Statement (.ldcSelftestEnd pass) := ⟨.ldcSelftestEnd false, rfl, by unfold Instr.wf; decide⟩
theorem Row.reallocationAccept (ch die block : Nat) : Row.Statement (.reallocationAccept ch die block) := ⟨.reallocationAccept 0 0 0, rfl, by unfold Instr.wf; decide⟩
theorem Row.relocationStep : Row.Statement (.relocationStep) := ⟨.relocationStep, rfl, by unfold Instr.wf; decide⟩
theorem Row.xltRelocOldest (n : Nat) : Row.Statement (.xltRelocOldest n) := ⟨.xltRelocOldest 0, rfl, by unfold Instr.wf; decide⟩
theorem Row.xltCkptNow : Row.Statement (.xltCkptNow) := ⟨.xltCkptNow, rfl, by unfold Instr.wf; decide⟩
theorem Row.checkpointTimer : Row.Statement (.checkpointTimer) := ⟨.checkpointTimer, rfl, by unfold Instr.wf; decide⟩
theorem Row.checkpointCommit : Row.Statement (.checkpointCommit) := ⟨.checkpointCommit, rfl, by unfold Instr.wf; decide⟩
theorem Row.checkpointLateTimeout : Row.Statement (.checkpointLateTimeout) := ⟨.checkpointLateTimeout, rfl, by unfold Instr.wf; decide⟩
theorem Row.mapRestartEnd (ms : Nat) (badRecords : List Nat) (badFooters : List (Nat × Nat × Nat)) : Row.Statement (.mapRestartEnd ms badRecords badFooters) := ⟨.mapRestartEnd 0 [] [], rfl, by unfold Instr.wf; decide⟩
theorem Row.mapRebuildEnd : Row.Statement (.mapRebuildEnd) := ⟨.mapRebuildEnd, rfl, by unfold Instr.wf; decide⟩
theorem Row.inputLoss : Row.Statement (.inputLoss) := ⟨.inputLoss, rfl, by unfold Instr.wf; decide⟩
theorem Row.dumpPaceTick : Row.Statement (.dumpPaceTick) := ⟨.dumpPaceTick, rfl, by unfold Instr.wf; decide⟩
theorem Row.dumpProgramComplete (ch die : Nat) (outcome : Nat) : Row.Statement (.dumpProgramComplete ch die outcome) := ⟨.dumpProgramComplete 0 0 0, rfl, by unfold Instr.wf; decide⟩
theorem Row.dumpCommit : Row.Statement (.dumpCommit) := ⟨.dumpCommit, rfl, by unfold Instr.wf; decide⟩
theorem Row.dumpAbandon : Row.Statement (.dumpAbandon) := ⟨.dumpAbandon, rfl, by unfold Instr.wf; decide⟩
theorem Row.dumpSupersede : Row.Statement (.dumpSupersede) := ⟨.dumpSupersede, rfl, by unfold Instr.wf; decide⟩
theorem Row.inputValid (mv : Nat) : Row.Statement (.inputValid mv) := ⟨.inputValid 0, rfl, by unfold Instr.wf; decide⟩
theorem Row.inputInvalid (mv : Nat) : Row.Statement (.inputInvalid mv) := ⟨.inputInvalid 0, rfl, by unfold Instr.wf; decide⟩
theorem Row.returnComplete (lostUnits : List Nat) : Row.Statement (.returnComplete lostUnits) := ⟨.returnComplete [], rfl, by unfold Instr.wf; decide⟩
theorem Row.returnWaitTimeout : Row.Statement (.returnWaitTimeout) := ⟨.returnWaitTimeout, rfl, by unfold Instr.wf; decide⟩
theorem Row.gaugeSample (volts : Nat) (amps temp : Int) : Row.Statement (.gaugeSample volts amps temp) := ⟨.gaugeSample 0 0 0, rfl, by unfold Instr.wf; decide⟩
theorem Row.gaugeRecompute : Row.Statement (.gaugeRecompute) := ⟨.gaugeRecompute, rfl, by unfold Instr.wf; decide⟩
theorem Row.restWindowEnd (ocv : Nat) : Row.Statement (.restWindowEnd ocv) := ⟨.restWindowEnd 0, rfl, by unfold Instr.wf; decide⟩
theorem Row.forcedRestDue : Row.Statement (.forcedRestDue) := ⟨.forcedRestDue, rfl, by unfold Instr.wf; decide⟩
theorem Row.uncertaintyHourly : Row.Statement (.uncertaintyHourly) := ⟨.uncertaintyHourly, rfl, by unfold Instr.wf; decide⟩
theorem Row.estimateDisagree : Row.Statement (.estimateDisagree) := ⟨.estimateDisagree, rfl, by unfold Instr.wf; decide⟩
theorem Row.hucZNow : Row.Statement (.hucZNow) := ⟨.hucZNow, rfl, by unfold Instr.wf; decide⟩
theorem Row.impedanceStepStart : Row.Statement (.impedanceStepStart) := ⟨.impedanceStepStart, rfl, by unfold Instr.wf; decide⟩
theorem Row.impedanceMeasure (dv di : Nat) : Row.Statement (.impedanceMeasure dv di) := ⟨.impedanceMeasure 0 0, rfl, by unfold Instr.wf; decide⟩
theorem Row.impedanceStepEnd : Row.Statement (.impedanceStepEnd) := ⟨.impedanceStepEnd, rfl, by unfold Instr.wf; decide⟩
theorem Row.packHotTimeout : Row.Statement (.packHotTimeout) := ⟨.packHotTimeout, rfl, by unfold Instr.wf; decide⟩
theorem Row.chargeTimeout : Row.Statement (.chargeTimeout) := ⟨.chargeTimeout, rfl, by unfold Instr.wf; decide⟩
theorem Row.packInsert (found : PackFound) : Row.Statement (.packInsert found) := ⟨.packInsert somePack, rfl, somePack_wf⟩
theorem Row.packRemove : Row.Statement (.packRemove) := ⟨.packRemove, rfl, by unfold Instr.wf; decide⟩
theorem Row.hucLearnNow : Row.Statement (.hucLearnNow) := ⟨.hucLearnNow, rfl, by unfold Instr.wf; decide⟩
theorem Row.learnStart : Row.Statement (.learnStart) := ⟨.learnStart, rfl, by unfold Instr.wf; decide⟩
theorem Row.learnRestEnd (ocv : Nat) : Row.Statement (.learnRestEnd ocv) := ⟨.learnRestEnd 0, rfl, by unfold Instr.wf; decide⟩
theorem Row.hucRestNow : Row.Statement (.hucRestNow) := ⟨.hucRestNow, rfl, by unfold Instr.wf; decide⟩
theorem Row.lifeRecordPeriod : Row.Statement (.lifeRecordPeriod) := ⟨.lifeRecordPeriod, rfl, by unfold Instr.wf; decide⟩
theorem Row.railOutOfWindow (rail dir mv ns : Nat) : Row.Statement (.railOutOfWindow rail dir mv ns) := ⟨.railOutOfWindow 0 1 0 0, rfl, by unfold Instr.wf; decide⟩
theorem Row.aoPowerOnReset : Row.Statement (.aoPowerOnReset) := ⟨.aoPowerOnReset, rfl, by unfold Instr.wf; decide⟩
theorem Row.powerUpStart (split recover test : Bool) : Row.Statement (.powerUpStart split recover test) := ⟨.powerUpStart false false false, rfl, by unfold Instr.wf; decide⟩
theorem Row.railPowerGood (rail : Nat) : Row.Statement (.railPowerGood rail) := ⟨.railPowerGood 0, rfl, by unfold Instr.wf; decide⟩
theorem Row.railSettleDone (rail : Nat) (env : BootEnv) : Row.Statement (.railSettleDone rail env) := ⟨.railSettleDone 0 someEnv, rfl, ⟨by decide, someEnv_wf⟩⟩
theorem Row.bootEnd : Row.Statement (.bootEnd) := ⟨.bootEnd, rfl, by unfold Instr.wf; decide⟩
theorem Row.partialParityRebuildEnd (found : List (Nat × Nat × NMap Nat)) : Row.Statement (.partialParityRebuildEnd found) := ⟨.partialParityRebuildEnd [], rfl, by unfold Instr.wf; decide⟩
theorem Row.powerGoodTimeout (rail : Nat) : Row.Statement (.powerGoodTimeout rail) := ⟨.powerGoodTimeout 0, rfl, by unfold Instr.wf; decide⟩
theorem Row.offFlushTimeout : Row.Statement (.offFlushTimeout) := ⟨.offFlushTimeout, rfl, by unfold Instr.wf; decide⟩
theorem Row.flashReadyWaitEnd : Row.Statement (.flashReadyWaitEnd) := ⟨.flashReadyWaitEnd, rfl, by unfold Instr.wf; decide⟩
theorem Row.railDischarged (rail : Nat) : Row.Statement (.railDischarged rail) := ⟨.railDischarged 0, rfl, by unfold Instr.wf; decide⟩
theorem Row.dischargeTimeout (rail : Nat) : Row.Statement (.dischargeTimeout rail) := ⟨.dischargeTimeout 0, rfl, by unfold Instr.wf; decide⟩
theorem Row.psqOff : Row.Statement (.psqOff) := ⟨.psqOff, rfl, by unfold Instr.wf; decide⟩
theorem Row.psqRstoPulse (bits : Nat) : Row.Statement (.psqRstoPulse bits) := ⟨.psqRstoPulse 0, rfl, by unfold Instr.wf; decide⟩
theorem Row.rstoStretchExpiry (output : Nat) : Row.Statement (.rstoStretchExpiry output) := ⟨.rstoStretchExpiry 0, rfl, by unfold Instr.wf; decide⟩
theorem Row.droopEngage (sensor mv : Nat) : Row.Statement (.droopEngage sensor mv) := ⟨.droopEngage 0 0, rfl, by unfold Instr.wf; decide⟩
theorem Row.droopRelease : Row.Statement (.droopRelease) := ⟨.droopRelease, rfl, by unfold Instr.wf; decide⟩
theorem Row.droopLong : Row.Statement (.droopLong) := ⟨.droopLong, rfl, by unfold Instr.wf; decide⟩
theorem Row.modeTargetRun : Row.Statement (.modeTargetRun) := ⟨.modeTargetRun, rfl, by unfold Instr.wf; decide⟩
theorem Row.modeTargetService : Row.Statement (.modeTargetService) := ⟨.modeTargetService, rfl, by unfold Instr.wf; decide⟩
theorem Row.holdRequest : Row.Statement (.holdRequest) := ⟨.holdRequest, rfl, by unfold Instr.wf; decide⟩
theorem Row.holdRelease : Row.Statement (.holdRelease) := ⟨.holdRelease, rfl, by unfold Instr.wf; decide⟩
theorem Row.thermAck : Row.Statement (.thermAck) := ⟨.thermAck, rfl, by unfold Instr.wf; decide⟩
theorem Row.restIdleExpiry (l12 idleMs noSref : Nat) : Row.Statement (.restIdleExpiry l12 idleMs noSref) := ⟨.restIdleExpiry 0 0 0, rfl, by unfold Instr.wf; decide⟩
theorem Row.restEntryComplete : Row.Statement (.restEntryComplete) := ⟨.restEntryComplete, rfl, by unfold Instr.wf; decide⟩
theorem Row.clkreqAssert (port : Nat) : Row.Statement (.clkreqAssert port) := ⟨.clkreqAssert 0, rfl, by unfold Instr.wf; decide⟩
theorem Row.causewaySignalDetect (port : Nat) : Row.Statement (.causewaySignalDetect port) := ⟨.causewaySignalDetect 0, rfl, by unfold Instr.wf; decide⟩
theorem Row.smbusAddressMatch : Row.Statement (.smbusAddressMatch) := ⟨.smbusAddressMatch, rfl, by unfold Instr.wf; decide⟩
theorem Row.wakeStepDone (us : Nat) (powerGood : Bool) : Row.Statement (.wakeStepDone us powerGood) := ⟨.wakeStepDone 0 false, rfl, by unfold Instr.wf; decide⟩
theorem Row.padRelease (groups : Nat) : Row.Statement (.padRelease groups) := ⟨.padRelease 0, rfl, by unfold Instr.wf; decide⟩
theorem Row.padReleaseTimeout : Row.Statement (.padReleaseTimeout) := ⟨.padReleaseTimeout, rfl, by unfold Instr.wf; decide⟩
theorem Row.watchEntry : Row.Statement (.watchEntry) := ⟨.watchEntry, rfl, by unfold Instr.wf; decide⟩
theorem Row.watchRound (inputMv packMv : Nat) (temp : Int) (present : Bool) : Row.Statement (.watchRound inputMv packMv temp present) := ⟨.watchRound 0 0 0 false, rfl, by unfold Instr.wf; decide⟩
theorem Row.watchInputSample (mv : List Nat) : Row.Statement (.watchInputSample mv) := ⟨.watchInputSample (List.replicate 10 0), rfl, by unfold Instr.wf; decide⟩
theorem Row.watchGaugeWake (byCurrent : Bool) : Row.Statement (.watchGaugeWake byCurrent) := ⟨.watchGaugeWake false, rfl, by unfold Instr.wf; decide⟩
theorem Row.watchGaugeSleep : Row.Statement (.watchGaugeSleep) := ⟨.watchGaugeSleep, rfl, by unfold Instr.wf; decide⟩
theorem Row.dramRequest (ch : Nat) (req : DramReq) : Row.Statement (.dramRequest ch req) := ⟨.dramRequest 0 ⟨0, 0, .slot 0, false, 0, 0⟩, rfl, by unfold Instr.wf; decide⟩
theorem Row.dramReadComplete (ch : Nat) (outcome : DramOutcome) : Row.Statement (.dramReadComplete ch outcome) := ⟨.dramReadComplete 0 ⟨0, 0⟩, rfl, by unfold Instr.wf; decide⟩
theorem Row.dramFence (ch source : Nat) : Row.Statement (.dramFence ch source) := ⟨.dramFence 0 0, rfl, by unfold Instr.wf; decide⟩
theorem Row.dramRefresh (ch bank : Nat) : Row.Statement (.dramRefresh ch bank) := ⟨.dramRefresh 0 0, rfl, by unfold Instr.wf; decide⟩
theorem Row.mr4Poll (ch value : Nat) : Row.Statement (.mr4Poll ch value) := ⟨.mr4Poll 0 0, rfl, by unfold Instr.wf; decide⟩
theorem Row.dramAlert (ch : Nat) : Row.Statement (.dramAlert ch) := ⟨.dramAlert 0, rfl, by unfold Instr.wf; decide⟩
theorem Row.dramRetrainEnd (ch : Nat) (alerts : Bool) : Row.Statement (.dramRetrainEnd ch alerts) := ⟨.dramRetrainEnd 0 false, rfl, by unfold Instr.wf; decide⟩
theorem Row.dramStrobeTimeout (ch : Nat) : Row.Statement (.dramStrobeTimeout ch) := ⟨.dramStrobeTimeout 0, rfl, by unfold Instr.wf; decide⟩
theorem Row.dramSoftRepair (ch index : Nat) (resource : Bool) : Row.Statement (.dramSoftRepair ch index resource) := ⟨.dramSoftRepair 0 0 false, rfl, by unfold Instr.wf; decide⟩
theorem Row.dramRepairEnd (ch : Nat) (bad : List Nat) : Row.Statement (.dramRepairEnd ch bad) := ⟨.dramRepairEnd 0 [], rfl, by unfold Instr.wf; decide⟩
theorem Row.dramPatrolScrub (ch : Nat) (outcome : DramOutcome) : Row.Statement (.dramPatrolScrub ch outcome) := ⟨.dramPatrolScrub 0 ⟨0, 0⟩, rfl, by unfold Instr.wf; decide⟩
theorem Row.dmcScrubGo (value : Nat) : Row.Statement (.dmcScrubGo value) := ⟨.dmcScrubGo 0, rfl, by unfold Instr.wf; decide⟩
theorem Row.dramScrubRangeEnd (ch : Nat) (corrected uncorrectable : List Nat) : Row.Statement (.dramScrubRangeEnd ch corrected uncorrectable) := ⟨.dramScrubRangeEnd 0 [] [], rfl, by unfold Instr.wf; decide⟩
theorem Row.sramCorrectedWord (mac word : Nat) (scrub : Bool) (writes : List SramWrite) : Row.Statement (.sramCorrectedWord mac word scrub writes) := ⟨.sramCorrectedWord 0 0 false [], rfl, by unfold Instr.wf; decide⟩
theorem Row.sramUncorrectableWord (mac word kind master : Nat) (inHandler : Bool) (table : SramTable) (ctx : Option Nat) (writes : List SramWrite) : Row.Statement (.sramUncorrectableWord mac word kind master inHandler table ctx writes) := ⟨.sramUncorrectableWord 0 0 1 0 false .data none [], rfl, by unfold Instr.wf; decide⟩
theorem Row.mpuDmaRearm (value : Nat) : Row.Statement (.mpuDmaRearm value) := ⟨.mpuDmaRearm 0, rfl, by unfold Instr.wf; decide⟩
theorem Row.mpuScrubGo (value : Nat) : Row.Statement (.mpuScrubGo value) := ⟨.mpuScrubGo 0, rfl, by unfold Instr.wf; decide⟩
theorem Row.sramScrubEnd (writes : List SramWrite) : Row.Statement (.sramScrubEnd writes) := ⟨.sramScrubEnd [], rfl, by unfold Instr.wf; decide⟩
theorem Row.causewayTrained (port rate : Nat) : Row.Statement (.causewayTrained port rate) := ⟨.causewayTrained 0 0, rfl, by unfold Instr.wf; decide⟩
theorem Row.helloTimer (port : Nat) : Row.Statement (.helloTimer port) := ⟨.helloTimer 0, rfl, by unfold Instr.wf; decide⟩
theorem Row.helloReceived (port : Nat) (hello : Hello) : Row.Statement (.helloReceived port hello) := ⟨.helloReceived 0 ⟨0, 0, 0, 0, 0⟩, rfl, by unfold Instr.wf; decide⟩
theorem Row.helloDeadTimeout (port : Nat) : Row.Statement (.helloDeadTimeout port) := ⟨.helloDeadTimeout 0, rfl, by unfold Instr.wf; decide⟩
theorem Row.blockLockLoss (port : Nat) : Row.Statement (.blockLockLoss port) := ⟨.blockLockLoss 0, rfl, by unfold Instr.wf; decide⟩
theorem Row.lsaReceived (port : Nat) (lsa : Lsa) : Row.Statement (.lsaReceived port lsa) := ⟨.lsaReceived 0 ⟨0, 0, 0, 0, []⟩, rfl, by unfold Instr.wf; decide⟩
theorem Row.lsaRefreshTimer : Row.Statement (.lsaRefreshTimer) := ⟨.lsaRefreshTimer, rfl, by unfold Instr.wf; decide⟩
theorem Row.lsaAgeOut (node : Nat) : Row.Statement (.lsaAgeOut node) := ⟨.lsaAgeOut 0, rfl, by unfold Instr.wf; decide⟩
theorem Row.pathRecomputeDone : Row.Statement (.pathRecomputeDone) := ⟨.pathRecomputeDone, rfl, by unfold Instr.wf; decide⟩
theorem Row.ackTimer (port : Nat) : Row.Statement (.ackTimer port) := ⟨.ackTimer 0, rfl, by unfold Instr.wf; decide⟩
theorem Row.ackReceived (port seq : Nat) : Row.Statement (.ackReceived port seq) := ⟨.ackReceived 0 0, rfl, by unfold Instr.wf; decide⟩
theorem Row.nakReceived (port seq : Nat) : Row.Statement (.nakReceived port seq) := ⟨.nakReceived 0 0, rfl, by unfold Instr.wf; decide⟩
theorem Row.creditReceived (port vc credits : Nat) : Row.Statement (.creditReceived port vc credits) := ⟨.creditReceived 0 0 0, rfl, by unfold Instr.wf; decide⟩
theorem Row.creditReturnTimer (port : Nat) : Row.Statement (.creditReturnTimer port) := ⟨.creditReturnTimer 0, rfl, by unfold Instr.wf; decide⟩
theorem Row.transitFrame (port : Nat) (frame : Frame) : Row.Statement (.transitFrame port frame) := ⟨.transitFrame 0 someFrame, rfl, by unfold Instr.wf; decide⟩
theorem Row.reqReceived (port : Nat) (frame : Frame) : Row.Statement (.reqReceived port frame) := ⟨.reqReceived 0 someFrame, rfl, by unfold Instr.wf; decide⟩
theorem Row.replReceived (port : Nat) (frame : Frame) : Row.Statement (.replReceived port frame) := ⟨.replReceived 0 someFrame, rfl, by unfold Instr.wf; decide⟩
theorem Row.copyReceived (port : Nat) (frame : Frame) : Row.Statement (.copyReceived port frame) := ⟨.copyReceived 0 someFrame, rfl, by unfold Instr.wf; decide⟩
theorem Row.dataReceived (port : Nat) (frame : Frame) : Row.Statement (.dataReceived port frame) := ⟨.dataReceived 0 someFrame, rfl, by unfold Instr.wf; decide⟩
theorem Row.rspReceived (port : Nat) (frame : Frame) : Row.Statement (.rspReceived port frame) := ⟨.rspReceived 0 someFrame, rfl, by unfold Instr.wf; decide⟩
theorem Row.rdataReceived (port : Nat) (frame : Frame) : Row.Statement (.rdataReceived port frame) := ⟨.rdataReceived 0 someFrame, rfl, by unfold Instr.wf; decide⟩
theorem Row.mgmtReceived (port : Nat) (frame : Frame) : Row.Statement (.mgmtReceived port frame) := ⟨.mgmtReceived 0 someFrame, rfl, by unfold Instr.wf; decide⟩
theorem Row.mgmtRspReceived (port : Nat) (frame : Frame) : Row.Statement (.mgmtRspReceived port frame) := ⟨.mgmtRspReceived 0 someFrame, rfl, by unfold Instr.wf; decide⟩
theorem Row.e2eTimeout (tag : Nat) : Row.Statement (.e2eTimeout tag) := ⟨.e2eTimeout 0, rfl, by unfold Instr.wf; decide⟩
theorem Row.dupEntryExpiry (entry : Nat) : Row.Statement (.dupEntryExpiry entry) := ⟨.dupEntryExpiry 0, rfl, by unfold Instr.wf; decide⟩
theorem Row.copyPieceSend (copy : Nat) (data : List Nat) : Row.Statement (.copyPieceSend copy data) := ⟨.copyPieceSend 0 [], rfl, by unfold Instr.wf; decide⟩
theorem Row.jnrWakeTx (ports : Nat) : Row.Statement (.jnrWakeTx ports) := ⟨.jnrWakeTx 0, rfl, by unfold Instr.wf; decide⟩
theorem Row.bindingWakeTimer (binding : Nat) : Row.Statement (.bindingWakeTimer binding) := ⟨.bindingWakeTimer 0, rfl, by unfold Instr.wf; decide⟩
theorem Row.jnrCfgWrite (value : Nat) : Row.Statement (.jnrCfgWrite value) := ⟨.jnrCfgWrite 0, rfl, by unfold Instr.wf; decide⟩
theorem Row.jnrBindWrite (binding word value : Nat) : Row.Statement (.jnrBindWrite binding word value) := ⟨.jnrBindWrite 0 0 0, rfl, by unfold Instr.wf; decide⟩
theorem Row.errorReport (addr master type cls space : Nat) : Row.Statement (.errorReport addr master type cls space) := ⟨.errorReport 0 0 0 0 0, rfl, by unfold Instr.wf; decide⟩
theorem Row.faultDumpTimeout : Row.Statement (.faultDumpTimeout) := ⟨.faultDumpTimeout, rfl, by unfold Instr.wf; decide⟩
theorem Row.restartCountReset : Row.Statement (.restartCountReset) := ⟨.restartCountReset, rfl, by unfold Instr.wf; decide⟩
theorem Row.fclCaptureClear : Row.Statement (.fclCaptureClear) := ⟨.fclCaptureClear, rfl, by unfold Instr.wf; decide⟩
theorem Row.eventDispatch : Row.Statement (.eventDispatch) := ⟨.eventDispatch, rfl, by unfold Instr.wf; decide⟩
theorem Row.logRecordWrite : Row.Statement (.logRecordWrite) := ⟨.logRecordWrite, rfl, by unfold Instr.wf; decide⟩
theorem Row.logRepeatFlush : Row.Statement (.logRepeatFlush) := ⟨.logRepeatFlush, rfl, by unfold Instr.wf; decide⟩
theorem Row.milestoneLineWrite (line pulses : Nat) (ok : Bool) : Row.Statement (.milestoneLineWrite line pulses ok) := ⟨.milestoneLineWrite 0 1 false, rfl, by unfold Instr.wf; decide⟩
theorem Row.epochHeaderWrite : Row.Statement (.epochHeaderWrite) := ⟨.epochHeaderWrite, rfl, by unfold Instr.wf; decide⟩
theorem Row.counterLineWrite : Row.Statement (.counterLineWrite) := ⟨.counterLineWrite, rfl, by unfold Instr.wf; decide⟩
theorem Row.operatingHoursStep : Row.Statement (.operatingHoursStep) := ⟨.operatingHoursStep, rfl, by unfold Instr.wf; decide⟩
theorem Row.msmLogDataRead (port size off : Nat) : Row.Statement (.msmLogDataRead port size off) := ⟨.msmLogDataRead 0 4 0, rfl, by unfold Instr.wf; decide⟩
theorem Row.msmWinDataRead (port size off : Nat) : Row.Statement (.msmWinDataRead port size off) := ⟨.msmWinDataRead 0 4 0, rfl, by unfold Instr.wf; decide⟩
theorem Row.msmReportClr : Row.Statement (.msmReportClr) := ⟨.msmReportClr, rfl, by unfold Instr.wf; decide⟩
theorem Row.evrQclr : Row.Statement (.evrQclr) := ⟨.evrQclr, rfl, by unfold Instr.wf; decide⟩
theorem Row.housekeepingRound (r : Round) : Row.Statement (.housekeepingRound r) := ⟨.housekeepingRound someRound, rfl, by unfold Instr.wf; decide⟩
theorem Row.thermalTrip (sensor : Nat) : Row.Statement (.thermalTrip sensor) := ⟨.thermalTrip 0, rfl, by unfold Instr.wf; decide⟩
theorem Row.firmwareStoreRead (line bits : Nat) (core branch : Option Nat) : Row.Statement (.firmwareStoreRead line bits core branch) := ⟨.firmwareStoreRead 0 0 none none, rfl, by unfold Instr.wf; decide⟩
theorem Row.firmwareSlotProgrammed (ok : Bool) : Row.Statement (.firmwareSlotProgrammed ok) := ⟨.firmwareSlotProgrammed false, rfl, by unfold Instr.wf; decide⟩
theorem Row.trialConfirm : Row.Statement (.trialConfirm) := ⟨.trialConfirm, rfl, by unfold Instr.wf; decide⟩
theorem Row.activationComplete : Row.Statement (.activationComplete) := ⟨.activationComplete, rfl, by unfold Instr.wf; decide⟩
theorem Row.activationTimeout : Row.Statement (.activationTimeout) := ⟨.activationTimeout, rfl, by unfold Instr.wf; decide⟩
theorem Row.coreHalt (core cause : Nat) : Row.Statement (.coreHalt core cause) := ⟨.coreHalt 0 0, rfl, by unfold Instr.wf; decide⟩
theorem Row.configCommitTimer : Row.Statement (.configCommitTimer) := ⟨.configCommitTimer, rfl, by unfold Instr.wf; decide⟩
theorem Row.configCommitEnd : Row.Statement (.configCommitEnd) := ⟨.configCommitEnd, rfl, by unfold Instr.wf; decide⟩
theorem Row.getIdentity (p : Packet) : Row.Statement (.getIdentity p) := ⟨.getIdentity somePacket, rfl, by unfold Instr.wf; decide⟩
theorem Row.getConfigurationReport (p : Packet) : Row.Statement (.getConfigurationReport p) := ⟨.getConfigurationReport somePacket, rfl, by unfold Instr.wf; decide⟩
theorem Row.getNamespaceIdentify (p : Packet) : Row.Statement (.getNamespaceIdentify p) := ⟨.getNamespaceIdentify somePacket, rfl, by unfold Instr.wf; decide⟩
theorem Row.readRegisters (p : Packet) : Row.Statement (.readRegisters p) := ⟨.readRegisters somePacket, rfl, by unfold Instr.wf; decide⟩
theorem Row.writeRegister (p : Packet) : Row.Statement (.writeRegister p) := ⟨.writeRegister somePacket, rfl, by unfold Instr.wf; decide⟩
theorem Row.commitConfiguration (p : Packet) : Row.Statement (.commitConfiguration p) := ⟨.commitConfiguration somePacket, rfl, by unfold Instr.wf; decide⟩
theorem Row.getRecordStatus (p : Packet) : Row.Statement (.getRecordStatus p) := ⟨.getRecordStatus somePacket, rfl, by unfold Instr.wf; decide⟩
theorem Row.setSliceCount (p : Packet) : Row.Statement (.setSliceCount p) := ⟨.setSliceCount somePacket, rfl, by unfold Instr.wf; decide⟩
theorem Row.bindPasid (p : Packet) : Row.Statement (.bindPasid p) := ⟨.bindPasid somePacket, rfl, by unfold Instr.wf; decide⟩
theorem Row.setAccessBitmap (p : Packet) : Row.Statement (.setAccessBitmap p) := ⟨.setAccessBitmap somePacket, rfl, by unfold Instr.wf; decide⟩
theorem Row.resetSlice (p : Packet) : Row.Statement (.resetSlice p) := ⟨.resetSlice somePacket, rfl, by unfold Instr.wf; decide⟩
theorem Row.setSliceBudgets (p : Packet) : Row.Statement (.setSliceBudgets p) := ⟨.setSliceBudgets somePacket, rfl, by unfold Instr.wf; decide⟩
theorem Row.getSliceStatus (p : Packet) : Row.Statement (.getSliceStatus p) := ⟨.getSliceStatus somePacket, rfl, by unfold Instr.wf; decide⟩
theorem Row.waypointCommand (p : Packet) : Row.Statement (.waypointCommand p) := ⟨.waypointCommand somePacket, rfl, by unfold Instr.wf; decide⟩
theorem Row.setRoute (p : Packet) : Row.Statement (.setRoute p) := ⟨.setRoute somePacket, rfl, by unfold Instr.wf; decide⟩
theorem Row.setProfile (p : Packet) : Row.Statement (.setProfile p) := ⟨.setProfile somePacket, rfl, by unfold Instr.wf; decide⟩
theorem Row.setNamespaceProfile (p : Packet) : Row.Statement (.setNamespaceProfile p) := ⟨.setNamespaceProfile somePacket, rfl, by unfold Instr.wf; decide⟩
theorem Row.getPackStatus (p : Packet) : Row.Statement (.getPackStatus p) := ⟨.getPackStatus somePacket, rfl, by unfold Instr.wf; decide⟩
theorem Row.readPackHistory (p : Packet) : Row.Statement (.readPackHistory p) := ⟨.readPackHistory somePacket, rfl, by unfold Instr.wf; decide⟩
theorem Row.setCharging (p : Packet) : Row.Statement (.setCharging p) := ⟨.setCharging somePacket, rfl, by unfold Instr.wf; decide⟩
theorem Row.requestSelfTest (p : Packet) : Row.Statement (.requestSelfTest p) := ⟨.requestSelfTest somePacket, rfl, by unfold Instr.wf; decide⟩
theorem Row.queryTicket (p : Packet) : Row.Statement (.queryTicket p) := ⟨.queryTicket somePacket, rfl, by unfold Instr.wf; decide⟩
theorem Row.cancelTicket (p : Packet) : Row.Statement (.cancelTicket p) := ⟨.cancelTicket somePacket, rfl, by unfold Instr.wf; decide⟩
theorem Row.ticketExpiry (ticket : Nat) : Row.Statement (.ticketExpiry ticket) := ⟨.ticketExpiry 1, rfl, by unfold Instr.wf; decide⟩
theorem Row.mgiTclr : Row.Statement (.mgiTclr) := ⟨.mgiTclr, rfl, by unfold Instr.wf; decide⟩
theorem Row.readLog (p : Packet) : Row.Statement (.readLog p) := ⟨.readLog somePacket, rfl, by unfold Instr.wf; decide⟩
theorem Row.writeAnnotation (p : Packet) : Row.Statement (.writeAnnotation p) := ⟨.writeAnnotation somePacket, rfl, by unfold Instr.wf; decide⟩
theorem Row.readEventQueue (p : Packet) : Row.Statement (.readEventQueue p) := ⟨.readEventQueue somePacket, rfl, by unfold Instr.wf; decide⟩
theorem Row.readDirtyEpochReport (p : Packet) : Row.Statement (.readDirtyEpochReport p) := ⟨.readDirtyEpochReport somePacket, rfl, by unfold Instr.wf; decide⟩
theorem Row.clearDirtyEpochReport (p : Packet) : Row.Statement (.clearDirtyEpochReport p) := ⟨.clearDirtyEpochReport somePacket, rfl, by unfold Instr.wf; decide⟩
theorem Row.readLateFaultRecords (p : Packet) : Row.Statement (.readLateFaultRecords p) := ⟨.readLateFaultRecords somePacket, rfl, by unfold Instr.wf; decide⟩
theorem Row.setNode (p : Packet) : Row.Statement (.setNode p) := ⟨.setNode somePacket, rfl, by unfold Instr.wf; decide⟩
theorem Row.setNodeSlice (p : Packet) : Row.Statement (.setNodeSlice p) := ⟨.setNodeSlice somePacket, rfl, by unfold Instr.wf; decide⟩
theorem Row.bindNamespace (p : Packet) : Row.Statement (.bindNamespace p) := ⟨.bindNamespace somePacket, rfl, by unfold Instr.wf; decide⟩
theorem Row.unbindNamespace (p : Packet) : Row.Statement (.unbindNamespace p) := ⟨.unbindNamespace somePacket, rfl, by unfold Instr.wf; decide⟩
theorem Row.peerZoneCopy (p : Packet) : Row.Statement (.peerZoneCopy p) := ⟨.peerZoneCopy somePacket, rfl, by unfold Instr.wf; decide⟩
theorem Row.getFabricStatus (p : Packet) : Row.Statement (.getFabricStatus p) := ⟨.getFabricStatus somePacket, rfl, by unfold Instr.wf; decide⟩
theorem Row.downloadFirmware (p : Packet) (hdr : ImageHeader) : Row.Statement (.downloadFirmware p hdr) := ⟨.downloadFirmware somePacket someHeader, rfl, by unfold Instr.wf; decide⟩
theorem Row.commitFirmware (p : Packet) (hdr : ImageHeader) : Row.Statement (.commitFirmware p hdr) := ⟨.commitFirmware somePacket someHeader, rfl, by unfold Instr.wf; decide⟩
theorem Row.getSlotInfo (p : Packet) : Row.Statement (.getSlotInfo p) := ⟨.getSlotInfo somePacket, rfl, by unfold Instr.wf; decide⟩
theorem Row.acknowledgeThermalShutdown (p : Packet) : Row.Statement (.acknowledgeThermalShutdown p) := ⟨.acknowledgeThermalShutdown somePacket, rfl, by unfold Instr.wf; decide⟩
theorem Row.powerOff (p : Packet) : Row.Statement (.powerOff p) := ⟨.powerOff somePacket, rfl, by unfold Instr.wf; decide⟩
theorem Row.setMode (p : Packet) : Row.Statement (.setMode p) := ⟨.setMode somePacket, rfl, by unfold Instr.wf; decide⟩
theorem Row.getThermalAndPower (p : Packet) : Row.Statement (.getThermalAndPower p) := ⟨.getThermalAndPower somePacket, rfl, by unfold Instr.wf; decide⟩
theorem Row.rawRead (p : Packet) (data : List Nat) : Row.Statement (.rawRead p data) := ⟨.rawRead somePacket [], rfl, by unfold Instr.wf; decide⟩
theorem Row.rawProgram (p : Packet) : Row.Statement (.rawProgram p) := ⟨.rawProgram somePacket, rfl, by unfold Instr.wf; decide⟩
theorem Row.rawErase (p : Packet) : Row.Statement (.rawErase p) := ⟨.rawErase somePacket, rfl, by unfold Instr.wf; decide⟩
theorem Row.setBadColumnRange (p : Packet) : Row.Statement (.setBadColumnRange p) := ⟨.setBadColumnRange somePacket, rfl, by unfold Instr.wf; decide⟩
theorem Row.declareDieFailed (p : Packet) : Row.Statement (.declareDieFailed p) := ⟨.declareDieFailed somePacket, rfl, by unfold Instr.wf; decide⟩
theorem Row.readNvmeMiDataStructure (type id : Nat) : Row.Statement (.readNvmeMiDataStructure type id) := ⟨.readNvmeMiDataStructure 0 0, rfl, by unfold Instr.wf; decide⟩
theorem Row.subsystemHealthStatusPoll (clear : Bool) : Row.Statement (.subsystemHealthStatusPoll clear) := ⟨.subsystemHealthStatusPoll false, rfl, by unfold Instr.wf; decide⟩
theorem Row.controllerHealthStatusPoll (controller : Nat) : Row.Statement (.controllerHealthStatusPoll controller) := ⟨.controllerHealthStatusPoll 0, rfl, by unfold Instr.wf; decide⟩
theorem Row.nvmeMiVendorC1 (p : Packet) : Row.Statement (.nvmeMiVendorC1 p) := ⟨.nvmeMiVendorC1 somePacket, rfl, by unfold Instr.wf; decide⟩
theorem Row.bypass (tdi : List Bool) : Row.Statement (.bypass tdi) := ⟨.bypass [], rfl, by unfold Instr.wf; decide⟩
theorem Row.idcode (tdi : List Bool) : Row.Statement (.idcode tdi) := ⟨.idcode [], rfl, by unfold Instr.wf; decide⟩
theorem Row.samplePreload (pins tdi : List Bool) : Row.Statement (.samplePreload pins tdi) := ⟨.samplePreload [] [], rfl, by unfold Instr.wf; decide⟩
theorem Row.extest (pins tdi : List Bool) : Row.Statement (.extest pins tdi) := ⟨.extest [] [], rfl, by unfold Instr.wf; decide⟩
theorem Row.clamp (tdi : List Bool) : Row.Statement (.clamp tdi) := ⟨.clamp [], rfl, by unfold Instr.wf; decide⟩
theorem Row.highz (tdi : List Bool) : Row.Statement (.highz tdi) := ⟨.highz [], rfl, by unfold Instr.wf; decide⟩
theorem Row.qenClrCnt : Row.Statement (.qenClrCnt) := ⟨.qenClrCnt, rfl, by unfold Instr.wf; decide⟩
theorem Row.qenClrPeak : Row.Statement (.qenClrPeak) := ⟨.qenClrPeak, rfl, by unfold Instr.wf; decide⟩
theorem Row.slmClrCnt : Row.Statement (.slmClrCnt) := ⟨.slmClrCnt, rfl, by unfold Instr.wf; decide⟩
theorem Row.tlgClrCnt : Row.Statement (.tlgClrCnt) := ⟨.tlgClrCnt, rfl, by unfold Instr.wf; decide⟩
theorem Row.wptClrCnt : Row.Statement (.wptClrCnt) := ⟨.wptClrCnt, rfl, by unfold Instr.wf; decide⟩
theorem Row.zneClrCnt : Row.Statement (.zneClrCnt) := ⟨.zneClrCnt, rfl, by unfold Instr.wf; decide⟩
theorem Row.wcuClrCnt : Row.Statement (.wcuClrCnt) := ⟨.wcuClrCnt, rfl, by unfold Instr.wf; decide⟩
theorem Row.bplClrCnt : Row.Statement (.bplClrCnt) := ⟨.bplClrCnt, rfl, by unfold Instr.wf; decide⟩
theorem Row.fsqClrCnt (ch : Nat) : Row.Statement (.fsqClrCnt ch) := ⟨.fsqClrCnt 0, rfl, by unfold Instr.wf; decide⟩
theorem Row.dscClrCnt : Row.Statement (.dscClrCnt) := ⟨.dscClrCnt, rfl, by unfold Instr.wf; decide⟩
theorem Row.sdfClrCnt (ch : Nat) : Row.Statement (.sdfClrCnt ch) := ⟨.sdfClrCnt 0, rfl, by unfold Instr.wf; decide⟩
theorem Row.ldcClrCnt : Row.Statement (.ldcClrCnt) := ⟨.ldcClrCnt, rfl, by unfold Instr.wf; decide⟩
theorem Row.xltClrCnt : Row.Statement (.xltClrCnt) := ⟨.xltClrCnt, rfl, by unfold Instr.wf; decide⟩
theorem Row.hucClrCnt : Row.Statement (.hucClrCnt) := ⟨.hucClrCnt, rfl, by unfold Instr.wf; decide⟩
theorem Row.psqClrCnt : Row.Statement (.psqClrCnt) := ⟨.psqClrCnt, rfl, by unfold Instr.wf; decide⟩
theorem Row.drgClrCnt : Row.Statement (.drgClrCnt) := ⟨.drgClrCnt, rfl, by unfold Instr.wf; decide⟩
theorem Row.pscClrCnt : Row.Statement (.pscClrCnt) := ⟨.pscClrCnt, rfl, by unfold Instr.wf; decide⟩
theorem Row.dmcClrCnt : Row.Statement (.dmcClrCnt) := ⟨.dmcClrCnt, rfl, by unfold Instr.wf; decide⟩
theorem Row.mpuClrCnt : Row.Statement (.mpuClrCnt) := ⟨.mpuClrCnt, rfl, by unfold Instr.wf; decide⟩
theorem Row.jnrClrCnt : Row.Statement (.jnrClrCnt) := ⟨.jnrClrCnt, rfl, by unfold Instr.wf; decide⟩
theorem Row.fclClrCnt : Row.Statement (.fclClrCnt) := ⟨.fclClrCnt, rfl, by unfold Instr.wf; decide⟩
theorem Row.msmClrCnt : Row.Statement (.msmClrCnt) := ⟨.msmClrCnt, rfl, by unfold Instr.wf; decide⟩
theorem Row.thmClrCnt : Row.Statement (.thmClrCnt) := ⟨.thmClrCnt, rfl, by unfold Instr.wf; decide⟩
theorem Row.fwsClrCnt : Row.Statement (.fwsClrCnt) := ⟨.fwsClrCnt, rfl, by unfold Instr.wf; decide⟩
theorem Row.fwcClrCnt : Row.Statement (.fwcClrCnt) := ⟨.fwcClrCnt, rfl, by unfold Instr.wf; decide⟩
theorem Row.holdUpBusArmed : Row.Statement (.holdUpBusArmed) := ⟨.holdUpBusArmed, rfl, by unfold Instr.wf; decide⟩
theorem Row.aerErrorLogged (port severity : Nat) (header : List Nat) : Row.Statement (.aerErrorLogged port severity header) := ⟨.aerErrorLogged 0 0 [0, 0, 0, 0], rfl, by unfold Instr.wf; decide⟩
theorem Row.frameDiscarded (port reason seq vc units : Nat) : Row.Statement (.frameDiscarded port reason seq vc units) := ⟨.frameDiscarded 0 0 0 0 0, rfl, by unfold Instr.wf; decide⟩
theorem Row.pasidEnableClear (port : Nat) : Row.Statement (.pasidEnableClear port) := ⟨.pasidEnableClear 0, rfl, by unfold Instr.wf; decide⟩

end Sys2Proof.Laws
end

