-- ==== Sys2Proof/Laws/Units.lean ====
section
/-!
SUPPORT. The named changes of one thing a unit holds: what each changes, and that it leaves every other field of the state alone.
-/

namespace Sys2Proof.Machine

@[simp] theorem State.modDie_die (s : State) (c d : Nat) (g : Die → Die) : (s.modDie c d g).die c d = g (s.die c d) := by
  simp [State.modDie, State.die, NMap.lookD]

theorem State.modDie_die_ne (s : State) (c d c' d' : Nat) (g : Die → Die) (h : dieKey c d ≠ dieKey c' d') :
    (s.modDie c d g).die c' d' = s.die c' d' := by
  simp [State.modDie, State.die, NMap.lookD, NMap.look_put_ne _ _ _ _ h]

@[simp] theorem State.modChan_chan (s : State) (c : Nat) (g : Chan → Chan) : (s.modChan c g).chan c = g (s.chan c) := by
  simp [State.modChan, State.chan, NMap.lookD]

theorem State.modChan_chan_ne (s : State) (c c' : Nat) (g : Chan → Chan) (h : c ≠ c') : (s.modChan c g).chan c' = s.chan c' := by
  simp [State.modChan, State.chan, NMap.lookD, NMap.look_put_ne _ _ _ _ h]

@[simp] theorem State.modDchan_dchan (s : State) (d : Nat) (g : DChan → DChan) : (s.modDchan d g).dchan d = g (s.dchan d) := by
  simp [State.modDchan, State.dchan, NMap.lookD]

theorem State.modDchan_dchan_ne (s : State) (d d' : Nat) (g : DChan → DChan) (h : d ≠ d') : (s.modDchan d g).dchan d' = s.dchan d' := by
  simp [State.modDchan, State.dchan, NMap.lookD, NMap.look_put_ne _ _ _ _ h]

@[simp] theorem State.modCw_cwPort (s : State) (p : Nat) (g : CwPort → CwPort) : (s.modCw p g).cwPort p = g (s.cwPort p) := by
  simp [State.modCw, State.cwPort, NMap.lookD]

theorem State.modCw_cwPort_ne (s : State) (p p' : Nat) (g : CwPort → CwPort) (h : p ≠ p') : (s.modCw p g).cwPort p' = s.cwPort p' := by
  simp [State.modCw, State.cwPort, NMap.lookD, NMap.look_put_ne _ _ _ _ h]

@[simp] theorem State.modPair_now (s : State) (p : Nat) (g : Pair → Pair) : (s.modPair p g).now = s.now := rfl
@[simp] theorem State.modPair_regs (s : State) (p : Nat) (g : Pair → Pair) : (s.modPair p g).regs = s.regs := rfl
@[simp] theorem State.modPair_unbound (s : State) (p : Nat) (g : Pair → Pair) : (s.modPair p g).unbound = s.unbound := rfl
@[simp] theorem State.modPair_freeCtr (s : State) (p : Nat) (g : Pair → Pair) : (s.modPair p g).freeCtr = s.freeCtr := rfl
@[simp] theorem State.modPair_out (s : State) (p : Nat) (g : Pair → Pair) : (s.modPair p g).out = s.out := rfl
@[simp] theorem State.modPair_port0 (s : State) (p : Nat) (g : Pair → Pair) : (s.modPair p g).port0 = s.port0 := rfl
@[simp] theorem State.modPair_port1 (s : State) (p : Nat) (g : Pair → Pair) : (s.modPair p g).port1 = s.port1 := rfl
@[simp] theorem State.modPair_sqs (s : State) (p : Nat) (g : Pair → Pair) : (s.modPair p g).sqs = s.sqs := rfl
@[simp] theorem State.modPair_cqs (s : State) (p : Nat) (g : Pair → Pair) : (s.modPair p g).cqs = s.cqs := rfl
@[simp] theorem State.modPair_ctxs (s : State) (p : Nat) (g : Pair → Pair) : (s.modPair p g).ctxs = s.ctxs := rfl
@[simp] theorem State.modPair_nextCtx (s : State) (p : Nat) (g : Pair → Pair) : (s.modPair p g).nextCtx = s.nextCtx := rfl
@[simp] theorem State.modPair_doneQ (s : State) (p : Nat) (g : Pair → Pair) : (s.modPair p g).doneQ = s.doneQ := rfl
@[simp] theorem State.modPair_ns (s : State) (p : Nat) (g : Pair → Pair) : (s.modPair p g).ns = s.ns := rfl
@[simp] theorem State.modPair_late (s : State) (p : Nat) (g : Pair → Pair) : (s.modPair p g).late = s.late := rfl
@[simp] theorem State.modPair_lateTotal (s : State) (p : Nat) (g : Pair → Pair) : (s.modPair p g).lateTotal = s.lateTotal := rfl
@[simp] theorem State.modPair_resets (s : State) (p : Nat) (g : Pair → Pair) : (s.modPair p g).resets = s.resets := rfl
@[simp] theorem State.modPair_zn (s : State) (p : Nat) (g : Pair → Pair) : (s.modPair p g).zn = s.zn := rfl
@[simp] theorem State.modPair_wpt (s : State) (p : Nat) (g : Pair → Pair) : (s.modPair p g).wpt = s.wpt := rfl
@[simp] theorem State.modPair_pool (s : State) (p : Nat) (g : Pair → Pair) : (s.modPair p g).pool = s.pool := rfl
@[simp] theorem State.modPair_fl (s : State) (p : Nat) (g : Pair → Pair) : (s.modPair p g).fl = s.fl := rfl
@[simp] theorem State.modPair_sd (s : State) (p : Nat) (g : Pair → Pair) : (s.modPair p g).sd = s.sd := rfl
@[simp] theorem State.modPair_cd (s : State) (p : Nat) (g : Pair → Pair) : (s.modPair p g).cd = s.cd := rfl
@[simp] theorem State.modPair_xl (s : State) (p : Nat) (g : Pair → Pair) : (s.modPair p g).xl = s.xl := rfl
@[simp] theorem State.modPair_ev (s : State) (p : Nat) (g : Pair → Pair) : (s.modPair p g).ev = s.ev := rfl
@[simp] theorem State.modPair_fc (s : State) (p : Nat) (g : Pair → Pair) : (s.modPair p g).fc = s.fc := rfl
@[simp] theorem State.modPair_ms (s : State) (p : Nat) (g : Pair → Pair) : (s.modPair p g).ms = s.ms := rfl
@[simp] theorem State.modPair_th (s : State) (p : Nat) (g : Pair → Pair) : (s.modPair p g).th = s.th := rfl
@[simp] theorem State.modPair_hu (s : State) (p : Nat) (g : Pair → Pair) : (s.modPair p g).hu = s.hu := rfl
@[simp] theorem State.modPair_pw (s : State) (p : Nat) (g : Pair → Pair) : (s.modPair p g).pw = s.pw := rfl
@[simp] theorem State.modPair_md (s : State) (p : Nat) (g : Pair → Pair) : (s.modPair p g).md = s.md := rfl
@[simp] theorem State.modPair_mm (s : State) (p : Nat) (g : Pair → Pair) : (s.modPair p g).mm = s.mm := rfl
@[simp] theorem State.modPair_mg (s : State) (p : Nat) (g : Pair → Pair) : (s.modPair p g).mg = s.mg := rfl
@[simp] theorem State.modPair_fb (s : State) (p : Nat) (g : Pair → Pair) : (s.modPair p g).fb = s.fb := rfl
@[simp] theorem State.modPair_fw (s : State) (p : Nat) (g : Pair → Pair) : (s.modPair p g).fw = s.fw := rfl
@[simp] theorem State.modPair_pins (s : State) (p : Nat) (g : Pair → Pair) : (s.modPair p g).pins = s.pins := rfl
@[simp] theorem State.modPair_tp (s : State) (p : Nat) (g : Pair → Pair) : (s.modPair p g).tp = s.tp := rfl
@[simp] theorem State.modPair_pending (s : State) (p : Nat) (g : Pair → Pair) : (s.modPair p g).pending = s.pending := rfl

@[simp] theorem State.modAdm_now (s : State) (i : Nat) (g : Adm → Adm) : (s.modAdm i g).now = s.now := rfl
@[simp] theorem State.modAdm_regs (s : State) (i : Nat) (g : Adm → Adm) : (s.modAdm i g).regs = s.regs := rfl
@[simp] theorem State.modAdm_unbound (s : State) (i : Nat) (g : Adm → Adm) : (s.modAdm i g).unbound = s.unbound := rfl
@[simp] theorem State.modAdm_freeCtr (s : State) (i : Nat) (g : Adm → Adm) : (s.modAdm i g).freeCtr = s.freeCtr := rfl
@[simp] theorem State.modAdm_out (s : State) (i : Nat) (g : Adm → Adm) : (s.modAdm i g).out = s.out := rfl
@[simp] theorem State.modAdm_port0 (s : State) (i : Nat) (g : Adm → Adm) : (s.modAdm i g).port0 = s.port0 := rfl
@[simp] theorem State.modAdm_port1 (s : State) (i : Nat) (g : Adm → Adm) : (s.modAdm i g).port1 = s.port1 := rfl
@[simp] theorem State.modAdm_sqs (s : State) (i : Nat) (g : Adm → Adm) : (s.modAdm i g).sqs = s.sqs := rfl
@[simp] theorem State.modAdm_cqs (s : State) (i : Nat) (g : Adm → Adm) : (s.modAdm i g).cqs = s.cqs := rfl
@[simp] theorem State.modAdm_ctxs (s : State) (i : Nat) (g : Adm → Adm) : (s.modAdm i g).ctxs = s.ctxs := rfl
@[simp] theorem State.modAdm_nextCtx (s : State) (i : Nat) (g : Adm → Adm) : (s.modAdm i g).nextCtx = s.nextCtx := rfl
@[simp] theorem State.modAdm_doneQ (s : State) (i : Nat) (g : Adm → Adm) : (s.modAdm i g).doneQ = s.doneQ := rfl
@[simp] theorem State.modAdm_ns (s : State) (i : Nat) (g : Adm → Adm) : (s.modAdm i g).ns = s.ns := rfl
@[simp] theorem State.modAdm_late (s : State) (i : Nat) (g : Adm → Adm) : (s.modAdm i g).late = s.late := rfl
@[simp] theorem State.modAdm_lateTotal (s : State) (i : Nat) (g : Adm → Adm) : (s.modAdm i g).lateTotal = s.lateTotal := rfl
@[simp] theorem State.modAdm_resets (s : State) (i : Nat) (g : Adm → Adm) : (s.modAdm i g).resets = s.resets := rfl
@[simp] theorem State.modAdm_wpt (s : State) (i : Nat) (g : Adm → Adm) : (s.modAdm i g).wpt = s.wpt := rfl
@[simp] theorem State.modAdm_wc (s : State) (i : Nat) (g : Adm → Adm) : (s.modAdm i g).wc = s.wc := rfl
@[simp] theorem State.modAdm_pool (s : State) (i : Nat) (g : Adm → Adm) : (s.modAdm i g).pool = s.pool := rfl
@[simp] theorem State.modAdm_fl (s : State) (i : Nat) (g : Adm → Adm) : (s.modAdm i g).fl = s.fl := rfl
@[simp] theorem State.modAdm_sd (s : State) (i : Nat) (g : Adm → Adm) : (s.modAdm i g).sd = s.sd := rfl
@[simp] theorem State.modAdm_cd (s : State) (i : Nat) (g : Adm → Adm) : (s.modAdm i g).cd = s.cd := rfl
@[simp] theorem State.modAdm_xl (s : State) (i : Nat) (g : Adm → Adm) : (s.modAdm i g).xl = s.xl := rfl
@[simp] theorem State.modAdm_ev (s : State) (i : Nat) (g : Adm → Adm) : (s.modAdm i g).ev = s.ev := rfl
@[simp] theorem State.modAdm_fc (s : State) (i : Nat) (g : Adm → Adm) : (s.modAdm i g).fc = s.fc := rfl
@[simp] theorem State.modAdm_ms (s : State) (i : Nat) (g : Adm → Adm) : (s.modAdm i g).ms = s.ms := rfl
@[simp] theorem State.modAdm_th (s : State) (i : Nat) (g : Adm → Adm) : (s.modAdm i g).th = s.th := rfl
@[simp] theorem State.modAdm_hu (s : State) (i : Nat) (g : Adm → Adm) : (s.modAdm i g).hu = s.hu := rfl
@[simp] theorem State.modAdm_pw (s : State) (i : Nat) (g : Adm → Adm) : (s.modAdm i g).pw = s.pw := rfl
@[simp] theorem State.modAdm_md (s : State) (i : Nat) (g : Adm → Adm) : (s.modAdm i g).md = s.md := rfl
@[simp] theorem State.modAdm_mm (s : State) (i : Nat) (g : Adm → Adm) : (s.modAdm i g).mm = s.mm := rfl
@[simp] theorem State.modAdm_mg (s : State) (i : Nat) (g : Adm → Adm) : (s.modAdm i g).mg = s.mg := rfl
@[simp] theorem State.modAdm_fb (s : State) (i : Nat) (g : Adm → Adm) : (s.modAdm i g).fb = s.fb := rfl
@[simp] theorem State.modAdm_fw (s : State) (i : Nat) (g : Adm → Adm) : (s.modAdm i g).fw = s.fw := rfl
@[simp] theorem State.modAdm_pins (s : State) (i : Nat) (g : Adm → Adm) : (s.modAdm i g).pins = s.pins := rfl
@[simp] theorem State.modAdm_tp (s : State) (i : Nat) (g : Adm → Adm) : (s.modAdm i g).tp = s.tp := rfl
@[simp] theorem State.modAdm_pending (s : State) (i : Nat) (g : Adm → Adm) : (s.modAdm i g).pending = s.pending := rfl

@[simp] theorem State.modZone_now (s : State) (k : Nat) (g : Zone → Zone) : (s.modZone k g).now = s.now := rfl
@[simp] theorem State.modZone_regs (s : State) (k : Nat) (g : Zone → Zone) : (s.modZone k g).regs = s.regs := rfl
@[simp] theorem State.modZone_unbound (s : State) (k : Nat) (g : Zone → Zone) : (s.modZone k g).unbound = s.unbound := rfl
@[simp] theorem State.modZone_freeCtr (s : State) (k : Nat) (g : Zone → Zone) : (s.modZone k g).freeCtr = s.freeCtr := rfl
@[simp] theorem State.modZone_out (s : State) (k : Nat) (g : Zone → Zone) : (s.modZone k g).out = s.out := rfl
@[simp] theorem State.modZone_port0 (s : State) (k : Nat) (g : Zone → Zone) : (s.modZone k g).port0 = s.port0 := rfl
@[simp] theorem State.modZone_port1 (s : State) (k : Nat) (g : Zone → Zone) : (s.modZone k g).port1 = s.port1 := rfl
@[simp] theorem State.modZone_sqs (s : State) (k : Nat) (g : Zone → Zone) : (s.modZone k g).sqs = s.sqs := rfl
@[simp] theorem State.modZone_cqs (s : State) (k : Nat) (g : Zone → Zone) : (s.modZone k g).cqs = s.cqs := rfl
@[simp] theorem State.modZone_ctxs (s : State) (k : Nat) (g : Zone → Zone) : (s.modZone k g).ctxs = s.ctxs := rfl
@[simp] theorem State.modZone_nextCtx (s : State) (k : Nat) (g : Zone → Zone) : (s.modZone k g).nextCtx = s.nextCtx := rfl
@[simp] theorem State.modZone_doneQ (s : State) (k : Nat) (g : Zone → Zone) : (s.modZone k g).doneQ = s.doneQ := rfl
@[simp] theorem State.modZone_ns (s : State) (k : Nat) (g : Zone → Zone) : (s.modZone k g).ns = s.ns := rfl
@[simp] theorem State.modZone_late (s : State) (k : Nat) (g : Zone → Zone) : (s.modZone k g).late = s.late := rfl
@[simp] theorem State.modZone_lateTotal (s : State) (k : Nat) (g : Zone → Zone) : (s.modZone k g).lateTotal = s.lateTotal := rfl
@[simp] theorem State.modZone_resets (s : State) (k : Nat) (g : Zone → Zone) : (s.modZone k g).resets = s.resets := rfl
@[simp] theorem State.modZone_wpt (s : State) (k : Nat) (g : Zone → Zone) : (s.modZone k g).wpt = s.wpt := rfl
@[simp] theorem State.modZone_wc (s : State) (k : Nat) (g : Zone → Zone) : (s.modZone k g).wc = s.wc := rfl
@[simp] theorem State.modZone_pool (s : State) (k : Nat) (g : Zone → Zone) : (s.modZone k g).pool = s.pool := rfl
@[simp] theorem State.modZone_fl (s : State) (k : Nat) (g : Zone → Zone) : (s.modZone k g).fl = s.fl := rfl
@[simp] theorem State.modZone_sd (s : State) (k : Nat) (g : Zone → Zone) : (s.modZone k g).sd = s.sd := rfl
@[simp] theorem State.modZone_cd (s : State) (k : Nat) (g : Zone → Zone) : (s.modZone k g).cd = s.cd := rfl
@[simp] theorem State.modZone_xl (s : State) (k : Nat) (g : Zone → Zone) : (s.modZone k g).xl = s.xl := rfl
@[simp] theorem State.modZone_ev (s : State) (k : Nat) (g : Zone → Zone) : (s.modZone k g).ev = s.ev := rfl
@[simp] theorem State.modZone_fc (s : State) (k : Nat) (g : Zone → Zone) : (s.modZone k g).fc = s.fc := rfl
@[simp] theorem State.modZone_ms (s : State) (k : Nat) (g : Zone → Zone) : (s.modZone k g).ms = s.ms := rfl
@[simp] theorem State.modZone_th (s : State) (k : Nat) (g : Zone → Zone) : (s.modZone k g).th = s.th := rfl
@[simp] theorem State.modZone_hu (s : State) (k : Nat) (g : Zone → Zone) : (s.modZone k g).hu = s.hu := rfl
@[simp] theorem State.modZone_pw (s : State) (k : Nat) (g : Zone → Zone) : (s.modZone k g).pw = s.pw := rfl
@[simp] theorem State.modZone_md (s : State) (k : Nat) (g : Zone → Zone) : (s.modZone k g).md = s.md := rfl
@[simp] theorem State.modZone_mm (s : State) (k : Nat) (g : Zone → Zone) : (s.modZone k g).mm = s.mm := rfl
@[simp] theorem State.modZone_mg (s : State) (k : Nat) (g : Zone → Zone) : (s.modZone k g).mg = s.mg := rfl
@[simp] theorem State.modZone_fb (s : State) (k : Nat) (g : Zone → Zone) : (s.modZone k g).fb = s.fb := rfl
@[simp] theorem State.modZone_fw (s : State) (k : Nat) (g : Zone → Zone) : (s.modZone k g).fw = s.fw := rfl
@[simp] theorem State.modZone_pins (s : State) (k : Nat) (g : Zone → Zone) : (s.modZone k g).pins = s.pins := rfl
@[simp] theorem State.modZone_tp (s : State) (k : Nat) (g : Zone → Zone) : (s.modZone k g).tp = s.tp := rfl
@[simp] theorem State.modZone_pending (s : State) (k : Nat) (g : Zone → Zone) : (s.modZone k g).pending = s.pending := rfl

@[simp] theorem State.modDie_now (s : State) (c d : Nat) (g : Die → Die) : (s.modDie c d g).now = s.now := rfl
@[simp] theorem State.modDie_regs (s : State) (c d : Nat) (g : Die → Die) : (s.modDie c d g).regs = s.regs := rfl
@[simp] theorem State.modDie_unbound (s : State) (c d : Nat) (g : Die → Die) : (s.modDie c d g).unbound = s.unbound := rfl
@[simp] theorem State.modDie_freeCtr (s : State) (c d : Nat) (g : Die → Die) : (s.modDie c d g).freeCtr = s.freeCtr := rfl
@[simp] theorem State.modDie_out (s : State) (c d : Nat) (g : Die → Die) : (s.modDie c d g).out = s.out := rfl
@[simp] theorem State.modDie_port0 (s : State) (c d : Nat) (g : Die → Die) : (s.modDie c d g).port0 = s.port0 := rfl
@[simp] theorem State.modDie_port1 (s : State) (c d : Nat) (g : Die → Die) : (s.modDie c d g).port1 = s.port1 := rfl
@[simp] theorem State.modDie_sqs (s : State) (c d : Nat) (g : Die → Die) : (s.modDie c d g).sqs = s.sqs := rfl
@[simp] theorem State.modDie_cqs (s : State) (c d : Nat) (g : Die → Die) : (s.modDie c d g).cqs = s.cqs := rfl
@[simp] theorem State.modDie_ctxs (s : State) (c d : Nat) (g : Die → Die) : (s.modDie c d g).ctxs = s.ctxs := rfl
@[simp] theorem State.modDie_nextCtx (s : State) (c d : Nat) (g : Die → Die) : (s.modDie c d g).nextCtx = s.nextCtx := rfl
@[simp] theorem State.modDie_doneQ (s : State) (c d : Nat) (g : Die → Die) : (s.modDie c d g).doneQ = s.doneQ := rfl
@[simp] theorem State.modDie_ns (s : State) (c d : Nat) (g : Die → Die) : (s.modDie c d g).ns = s.ns := rfl
@[simp] theorem State.modDie_late (s : State) (c d : Nat) (g : Die → Die) : (s.modDie c d g).late = s.late := rfl
@[simp] theorem State.modDie_lateTotal (s : State) (c d : Nat) (g : Die → Die) : (s.modDie c d g).lateTotal = s.lateTotal := rfl
@[simp] theorem State.modDie_resets (s : State) (c d : Nat) (g : Die → Die) : (s.modDie c d g).resets = s.resets := rfl
@[simp] theorem State.modDie_zn (s : State) (c d : Nat) (g : Die → Die) : (s.modDie c d g).zn = s.zn := rfl
@[simp] theorem State.modDie_wpt (s : State) (c d : Nat) (g : Die → Die) : (s.modDie c d g).wpt = s.wpt := rfl
@[simp] theorem State.modDie_wc (s : State) (c d : Nat) (g : Die → Die) : (s.modDie c d g).wc = s.wc := rfl
@[simp] theorem State.modDie_pool (s : State) (c d : Nat) (g : Die → Die) : (s.modDie c d g).pool = s.pool := rfl
@[simp] theorem State.modDie_sd (s : State) (c d : Nat) (g : Die → Die) : (s.modDie c d g).sd = s.sd := rfl
@[simp] theorem State.modDie_cd (s : State) (c d : Nat) (g : Die → Die) : (s.modDie c d g).cd = s.cd := rfl
@[simp] theorem State.modDie_xl (s : State) (c d : Nat) (g : Die → Die) : (s.modDie c d g).xl = s.xl := rfl
@[simp] theorem State.modDie_ev (s : State) (c d : Nat) (g : Die → Die) : (s.modDie c d g).ev = s.ev := rfl
@[simp] theorem State.modDie_fc (s : State) (c d : Nat) (g : Die → Die) : (s.modDie c d g).fc = s.fc := rfl
@[simp] theorem State.modDie_ms (s : State) (c d : Nat) (g : Die → Die) : (s.modDie c d g).ms = s.ms := rfl
@[simp] theorem State.modDie_th (s : State) (c d : Nat) (g : Die → Die) : (s.modDie c d g).th = s.th := rfl
@[simp] theorem State.modDie_hu (s : State) (c d : Nat) (g : Die → Die) : (s.modDie c d g).hu = s.hu := rfl
@[simp] theorem State.modDie_pw (s : State) (c d : Nat) (g : Die → Die) : (s.modDie c d g).pw = s.pw := rfl
@[simp] theorem State.modDie_md (s : State) (c d : Nat) (g : Die → Die) : (s.modDie c d g).md = s.md := rfl
@[simp] theorem State.modDie_mm (s : State) (c d : Nat) (g : Die → Die) : (s.modDie c d g).mm = s.mm := rfl
@[simp] theorem State.modDie_mg (s : State) (c d : Nat) (g : Die → Die) : (s.modDie c d g).mg = s.mg := rfl
@[simp] theorem State.modDie_fb (s : State) (c d : Nat) (g : Die → Die) : (s.modDie c d g).fb = s.fb := rfl
@[simp] theorem State.modDie_fw (s : State) (c d : Nat) (g : Die → Die) : (s.modDie c d g).fw = s.fw := rfl
@[simp] theorem State.modDie_pins (s : State) (c d : Nat) (g : Die → Die) : (s.modDie c d g).pins = s.pins := rfl
@[simp] theorem State.modDie_tp (s : State) (c d : Nat) (g : Die → Die) : (s.modDie c d g).tp = s.tp := rfl
@[simp] theorem State.modDie_pending (s : State) (c d : Nat) (g : Die → Die) : (s.modDie c d g).pending = s.pending := rfl

@[simp] theorem State.modBlock_now (s : State) (c d b : Nat) (g : Block → Block) : (s.modBlock c d b g).now = s.now := rfl
@[simp] theorem State.modBlock_regs (s : State) (c d b : Nat) (g : Block → Block) : (s.modBlock c d b g).regs = s.regs := rfl
@[simp] theorem State.modBlock_unbound (s : State) (c d b : Nat) (g : Block → Block) : (s.modBlock c d b g).unbound = s.unbound := rfl
@[simp] theorem State.modBlock_freeCtr (s : State) (c d b : Nat) (g : Block → Block) : (s.modBlock c d b g).freeCtr = s.freeCtr := rfl
@[simp] theorem State.modBlock_out (s : State) (c d b : Nat) (g : Block → Block) : (s.modBlock c d b g).out = s.out := rfl
@[simp] theorem State.modBlock_port0 (s : State) (c d b : Nat) (g : Block → Block) : (s.modBlock c d b g).port0 = s.port0 := rfl
@[simp] theorem State.modBlock_port1 (s : State) (c d b : Nat) (g : Block → Block) : (s.modBlock c d b g).port1 = s.port1 := rfl
@[simp] theorem State.modBlock_sqs (s : State) (c d b : Nat) (g : Block → Block) : (s.modBlock c d b g).sqs = s.sqs := rfl
@[simp] theorem State.modBlock_cqs (s : State) (c d b : Nat) (g : Block → Block) : (s.modBlock c d b g).cqs = s.cqs := rfl
@[simp] theorem State.modBlock_ctxs (s : State) (c d b : Nat) (g : Block → Block) : (s.modBlock c d b g).ctxs = s.ctxs := rfl
@[simp] theorem State.modBlock_nextCtx (s : State) (c d b : Nat) (g : Block → Block) : (s.modBlock c d b g).nextCtx = s.nextCtx := rfl
@[simp] theorem State.modBlock_doneQ (s : State) (c d b : Nat) (g : Block → Block) : (s.modBlock c d b g).doneQ = s.doneQ := rfl
@[simp] theorem State.modBlock_ns (s : State) (c d b : Nat) (g : Block → Block) : (s.modBlock c d b g).ns = s.ns := rfl
@[simp] theorem State.modBlock_late (s : State) (c d b : Nat) (g : Block → Block) : (s.modBlock c d b g).late = s.late := rfl
@[simp] theorem State.modBlock_lateTotal (s : State) (c d b : Nat) (g : Block → Block) : (s.modBlock c d b g).lateTotal = s.lateTotal := rfl
@[simp] theorem State.modBlock_resets (s : State) (c d b : Nat) (g : Block → Block) : (s.modBlock c d b g).resets = s.resets := rfl
@[simp] theorem State.modBlock_zn (s : State) (c d b : Nat) (g : Block → Block) : (s.modBlock c d b g).zn = s.zn := rfl
@[simp] theorem State.modBlock_wpt (s : State) (c d b : Nat) (g : Block → Block) : (s.modBlock c d b g).wpt = s.wpt := rfl
@[simp] theorem State.modBlock_wc (s : State) (c d b : Nat) (g : Block → Block) : (s.modBlock c d b g).wc = s.wc := rfl
@[simp] theorem State.modBlock_pool (s : State) (c d b : Nat) (g : Block → Block) : (s.modBlock c d b g).pool = s.pool := rfl
@[simp] theorem State.modBlock_sd (s : State) (c d b : Nat) (g : Block → Block) : (s.modBlock c d b g).sd = s.sd := rfl
@[simp] theorem State.modBlock_cd (s : State) (c d b : Nat) (g : Block → Block) : (s.modBlock c d b g).cd = s.cd := rfl
@[simp] theorem State.modBlock_xl (s : State) (c d b : Nat) (g : Block → Block) : (s.modBlock c d b g).xl = s.xl := rfl
@[simp] theorem State.modBlock_ev (s : State) (c d b : Nat) (g : Block → Block) : (s.modBlock c d b g).ev = s.ev := rfl
@[simp] theorem State.modBlock_fc (s : State) (c d b : Nat) (g : Block → Block) : (s.modBlock c d b g).fc = s.fc := rfl
@[simp] theorem State.modBlock_ms (s : State) (c d b : Nat) (g : Block → Block) : (s.modBlock c d b g).ms = s.ms := rfl
@[simp] theorem State.modBlock_th (s : State) (c d b : Nat) (g : Block → Block) : (s.modBlock c d b g).th = s.th := rfl
@[simp] theorem State.modBlock_hu (s : State) (c d b : Nat) (g : Block → Block) : (s.modBlock c d b g).hu = s.hu := rfl
@[simp] theorem State.modBlock_pw (s : State) (c d b : Nat) (g : Block → Block) : (s.modBlock c d b g).pw = s.pw := rfl
@[simp] theorem State.modBlock_md (s : State) (c d b : Nat) (g : Block → Block) : (s.modBlock c d b g).md = s.md := rfl
@[simp] theorem State.modBlock_mm (s : State) (c d b : Nat) (g : Block → Block) : (s.modBlock c d b g).mm = s.mm := rfl
@[simp] theorem State.modBlock_mg (s : State) (c d b : Nat) (g : Block → Block) : (s.modBlock c d b g).mg = s.mg := rfl
@[simp] theorem State.modBlock_fb (s : State) (c d b : Nat) (g : Block → Block) : (s.modBlock c d b g).fb = s.fb := rfl
@[simp] theorem State.modBlock_fw (s : State) (c d b : Nat) (g : Block → Block) : (s.modBlock c d b g).fw = s.fw := rfl
@[simp] theorem State.modBlock_pins (s : State) (c d b : Nat) (g : Block → Block) : (s.modBlock c d b g).pins = s.pins := rfl
@[simp] theorem State.modBlock_tp (s : State) (c d b : Nat) (g : Block → Block) : (s.modBlock c d b g).tp = s.tp := rfl
@[simp] theorem State.modBlock_pending (s : State) (c d b : Nat) (g : Block → Block) : (s.modBlock c d b g).pending = s.pending := rfl

@[simp] theorem State.modChan_now (s : State) (c : Nat) (g : Chan → Chan) : (s.modChan c g).now = s.now := rfl
@[simp] theorem State.modChan_regs (s : State) (c : Nat) (g : Chan → Chan) : (s.modChan c g).regs = s.regs := rfl
@[simp] theorem State.modChan_unbound (s : State) (c : Nat) (g : Chan → Chan) : (s.modChan c g).unbound = s.unbound := rfl
@[simp] theorem State.modChan_freeCtr (s : State) (c : Nat) (g : Chan → Chan) : (s.modChan c g).freeCtr = s.freeCtr := rfl
@[simp] theorem State.modChan_out (s : State) (c : Nat) (g : Chan → Chan) : (s.modChan c g).out = s.out := rfl
@[simp] theorem State.modChan_port0 (s : State) (c : Nat) (g : Chan → Chan) : (s.modChan c g).port0 = s.port0 := rfl
@[simp] theorem State.modChan_port1 (s : State) (c : Nat) (g : Chan → Chan) : (s.modChan c g).port1 = s.port1 := rfl
@[simp] theorem State.modChan_sqs (s : State) (c : Nat) (g : Chan → Chan) : (s.modChan c g).sqs = s.sqs := rfl
@[simp] theorem State.modChan_cqs (s : State) (c : Nat) (g : Chan → Chan) : (s.modChan c g).cqs = s.cqs := rfl
@[simp] theorem State.modChan_ctxs (s : State) (c : Nat) (g : Chan → Chan) : (s.modChan c g).ctxs = s.ctxs := rfl
@[simp] theorem State.modChan_nextCtx (s : State) (c : Nat) (g : Chan → Chan) : (s.modChan c g).nextCtx = s.nextCtx := rfl
@[simp] theorem State.modChan_doneQ (s : State) (c : Nat) (g : Chan → Chan) : (s.modChan c g).doneQ = s.doneQ := rfl
@[simp] theorem State.modChan_ns (s : State) (c : Nat) (g : Chan → Chan) : (s.modChan c g).ns = s.ns := rfl
@[simp] theorem State.modChan_late (s : State) (c : Nat) (g : Chan → Chan) : (s.modChan c g).late = s.late := rfl
@[simp] theorem State.modChan_lateTotal (s : State) (c : Nat) (g : Chan → Chan) : (s.modChan c g).lateTotal = s.lateTotal := rfl
@[simp] theorem State.modChan_resets (s : State) (c : Nat) (g : Chan → Chan) : (s.modChan c g).resets = s.resets := rfl
@[simp] theorem State.modChan_zn (s : State) (c : Nat) (g : Chan → Chan) : (s.modChan c g).zn = s.zn := rfl
@[simp] theorem State.modChan_wpt (s : State) (c : Nat) (g : Chan → Chan) : (s.modChan c g).wpt = s.wpt := rfl
@[simp] theorem State.modChan_wc (s : State) (c : Nat) (g : Chan → Chan) : (s.modChan c g).wc = s.wc := rfl
@[simp] theorem State.modChan_pool (s : State) (c : Nat) (g : Chan → Chan) : (s.modChan c g).pool = s.pool := rfl
@[simp] theorem State.modChan_sd (s : State) (c : Nat) (g : Chan → Chan) : (s.modChan c g).sd = s.sd := rfl
@[simp] theorem State.modChan_cd (s : State) (c : Nat) (g : Chan → Chan) : (s.modChan c g).cd = s.cd := rfl
@[simp] theorem State.modChan_xl (s : State) (c : Nat) (g : Chan → Chan) : (s.modChan c g).xl = s.xl := rfl
@[simp] theorem State.modChan_ev (s : State) (c : Nat) (g : Chan → Chan) : (s.modChan c g).ev = s.ev := rfl
@[simp] theorem State.modChan_fc (s : State) (c : Nat) (g : Chan → Chan) : (s.modChan c g).fc = s.fc := rfl
@[simp] theorem State.modChan_ms (s : State) (c : Nat) (g : Chan → Chan) : (s.modChan c g).ms = s.ms := rfl
@[simp] theorem State.modChan_th (s : State) (c : Nat) (g : Chan → Chan) : (s.modChan c g).th = s.th := rfl
@[simp] theorem State.modChan_hu (s : State) (c : Nat) (g : Chan → Chan) : (s.modChan c g).hu = s.hu := rfl
@[simp] theorem State.modChan_pw (s : State) (c : Nat) (g : Chan → Chan) : (s.modChan c g).pw = s.pw := rfl
@[simp] theorem State.modChan_md (s : State) (c : Nat) (g : Chan → Chan) : (s.modChan c g).md = s.md := rfl
@[simp] theorem State.modChan_mm (s : State) (c : Nat) (g : Chan → Chan) : (s.modChan c g).mm = s.mm := rfl
@[simp] theorem State.modChan_mg (s : State) (c : Nat) (g : Chan → Chan) : (s.modChan c g).mg = s.mg := rfl
@[simp] theorem State.modChan_fb (s : State) (c : Nat) (g : Chan → Chan) : (s.modChan c g).fb = s.fb := rfl
@[simp] theorem State.modChan_fw (s : State) (c : Nat) (g : Chan → Chan) : (s.modChan c g).fw = s.fw := rfl
@[simp] theorem State.modChan_pins (s : State) (c : Nat) (g : Chan → Chan) : (s.modChan c g).pins = s.pins := rfl
@[simp] theorem State.modChan_tp (s : State) (c : Nat) (g : Chan → Chan) : (s.modChan c g).tp = s.tp := rfl
@[simp] theorem State.modChan_pending (s : State) (c : Nat) (g : Chan → Chan) : (s.modChan c g).pending = s.pending := rfl

@[simp] theorem State.modCw'_now (s : State) (i : Nat) (g : Cw → Cw) : (s.modCw' i g).now = s.now := rfl
@[simp] theorem State.modCw'_regs (s : State) (i : Nat) (g : Cw → Cw) : (s.modCw' i g).regs = s.regs := rfl
@[simp] theorem State.modCw'_unbound (s : State) (i : Nat) (g : Cw → Cw) : (s.modCw' i g).unbound = s.unbound := rfl
@[simp] theorem State.modCw'_freeCtr (s : State) (i : Nat) (g : Cw → Cw) : (s.modCw' i g).freeCtr = s.freeCtr := rfl
@[simp] theorem State.modCw'_out (s : State) (i : Nat) (g : Cw → Cw) : (s.modCw' i g).out = s.out := rfl
@[simp] theorem State.modCw'_port0 (s : State) (i : Nat) (g : Cw → Cw) : (s.modCw' i g).port0 = s.port0 := rfl
@[simp] theorem State.modCw'_port1 (s : State) (i : Nat) (g : Cw → Cw) : (s.modCw' i g).port1 = s.port1 := rfl
@[simp] theorem State.modCw'_sqs (s : State) (i : Nat) (g : Cw → Cw) : (s.modCw' i g).sqs = s.sqs := rfl
@[simp] theorem State.modCw'_cqs (s : State) (i : Nat) (g : Cw → Cw) : (s.modCw' i g).cqs = s.cqs := rfl
@[simp] theorem State.modCw'_ctxs (s : State) (i : Nat) (g : Cw → Cw) : (s.modCw' i g).ctxs = s.ctxs := rfl
@[simp] theorem State.modCw'_nextCtx (s : State) (i : Nat) (g : Cw → Cw) : (s.modCw' i g).nextCtx = s.nextCtx := rfl
@[simp] theorem State.modCw'_doneQ (s : State) (i : Nat) (g : Cw → Cw) : (s.modCw' i g).doneQ = s.doneQ := rfl
@[simp] theorem State.modCw'_ns (s : State) (i : Nat) (g : Cw → Cw) : (s.modCw' i g).ns = s.ns := rfl
@[simp] theorem State.modCw'_late (s : State) (i : Nat) (g : Cw → Cw) : (s.modCw' i g).late = s.late := rfl
@[simp] theorem State.modCw'_lateTotal (s : State) (i : Nat) (g : Cw → Cw) : (s.modCw' i g).lateTotal = s.lateTotal := rfl
@[simp] theorem State.modCw'_resets (s : State) (i : Nat) (g : Cw → Cw) : (s.modCw' i g).resets = s.resets := rfl
@[simp] theorem State.modCw'_zn (s : State) (i : Nat) (g : Cw → Cw) : (s.modCw' i g).zn = s.zn := rfl
@[simp] theorem State.modCw'_wpt (s : State) (i : Nat) (g : Cw → Cw) : (s.modCw' i g).wpt = s.wpt := rfl
@[simp] theorem State.modCw'_wc (s : State) (i : Nat) (g : Cw → Cw) : (s.modCw' i g).wc = s.wc := rfl
@[simp] theorem State.modCw'_pool (s : State) (i : Nat) (g : Cw → Cw) : (s.modCw' i g).pool = s.pool := rfl
@[simp] theorem State.modCw'_fl (s : State) (i : Nat) (g : Cw → Cw) : (s.modCw' i g).fl = s.fl := rfl
@[simp] theorem State.modCw'_sd (s : State) (i : Nat) (g : Cw → Cw) : (s.modCw' i g).sd = s.sd := rfl
@[simp] theorem State.modCw'_xl (s : State) (i : Nat) (g : Cw → Cw) : (s.modCw' i g).xl = s.xl := rfl
@[simp] theorem State.modCw'_ev (s : State) (i : Nat) (g : Cw → Cw) : (s.modCw' i g).ev = s.ev := rfl
@[simp] theorem State.modCw'_fc (s : State) (i : Nat) (g : Cw → Cw) : (s.modCw' i g).fc = s.fc := rfl
@[simp] theorem State.modCw'_ms (s : State) (i : Nat) (g : Cw → Cw) : (s.modCw' i g).ms = s.ms := rfl
@[simp] theorem State.modCw'_th (s : State) (i : Nat) (g : Cw → Cw) : (s.modCw' i g).th = s.th := rfl
@[simp] theorem State.modCw'_hu (s : State) (i : Nat) (g : Cw → Cw) : (s.modCw' i g).hu = s.hu := rfl
@[simp] theorem State.modCw'_pw (s : State) (i : Nat) (g : Cw → Cw) : (s.modCw' i g).pw = s.pw := rfl
@[simp] theorem State.modCw'_md (s : State) (i : Nat) (g : Cw → Cw) : (s.modCw' i g).md = s.md := rfl
@[simp] theorem State.modCw'_mm (s : State) (i : Nat) (g : Cw → Cw) : (s.modCw' i g).mm = s.mm := rfl
@[simp] theorem State.modCw'_mg (s : State) (i : Nat) (g : Cw → Cw) : (s.modCw' i g).mg = s.mg := rfl
@[simp] theorem State.modCw'_fb (s : State) (i : Nat) (g : Cw → Cw) : (s.modCw' i g).fb = s.fb := rfl
@[simp] theorem State.modCw'_fw (s : State) (i : Nat) (g : Cw → Cw) : (s.modCw' i g).fw = s.fw := rfl
@[simp] theorem State.modCw'_pins (s : State) (i : Nat) (g : Cw → Cw) : (s.modCw' i g).pins = s.pins := rfl
@[simp] theorem State.modCw'_tp (s : State) (i : Nat) (g : Cw → Cw) : (s.modCw' i g).tp = s.tp := rfl
@[simp] theorem State.modCw'_pending (s : State) (i : Nat) (g : Cw → Cw) : (s.modCw' i g).pending = s.pending := rfl

@[simp] theorem State.modCtx_now (s : State) (i : Nat) (g : Ctx → Ctx) : (s.modCtx i g).now = s.now := rfl
@[simp] theorem State.modCtx_regs (s : State) (i : Nat) (g : Ctx → Ctx) : (s.modCtx i g).regs = s.regs := rfl
@[simp] theorem State.modCtx_unbound (s : State) (i : Nat) (g : Ctx → Ctx) : (s.modCtx i g).unbound = s.unbound := rfl
@[simp] theorem State.modCtx_freeCtr (s : State) (i : Nat) (g : Ctx → Ctx) : (s.modCtx i g).freeCtr = s.freeCtr := rfl
@[simp] theorem State.modCtx_out (s : State) (i : Nat) (g : Ctx → Ctx) : (s.modCtx i g).out = s.out := rfl
@[simp] theorem State.modCtx_port0 (s : State) (i : Nat) (g : Ctx → Ctx) : (s.modCtx i g).port0 = s.port0 := rfl
@[simp] theorem State.modCtx_port1 (s : State) (i : Nat) (g : Ctx → Ctx) : (s.modCtx i g).port1 = s.port1 := rfl
@[simp] theorem State.modCtx_sqs (s : State) (i : Nat) (g : Ctx → Ctx) : (s.modCtx i g).sqs = s.sqs := rfl
@[simp] theorem State.modCtx_cqs (s : State) (i : Nat) (g : Ctx → Ctx) : (s.modCtx i g).cqs = s.cqs := rfl
@[simp] theorem State.modCtx_nextCtx (s : State) (i : Nat) (g : Ctx → Ctx) : (s.modCtx i g).nextCtx = s.nextCtx := rfl
@[simp] theorem State.modCtx_doneQ (s : State) (i : Nat) (g : Ctx → Ctx) : (s.modCtx i g).doneQ = s.doneQ := rfl
@[simp] theorem State.modCtx_ns (s : State) (i : Nat) (g : Ctx → Ctx) : (s.modCtx i g).ns = s.ns := rfl
@[simp] theorem State.modCtx_late (s : State) (i : Nat) (g : Ctx → Ctx) : (s.modCtx i g).late = s.late := rfl
@[simp] theorem State.modCtx_lateTotal (s : State) (i : Nat) (g : Ctx → Ctx) : (s.modCtx i g).lateTotal = s.lateTotal := rfl
@[simp] theorem State.modCtx_resets (s : State) (i : Nat) (g : Ctx → Ctx) : (s.modCtx i g).resets = s.resets := rfl
@[simp] theorem State.modCtx_zn (s : State) (i : Nat) (g : Ctx → Ctx) : (s.modCtx i g).zn = s.zn := rfl
@[simp] theorem State.modCtx_wpt (s : State) (i : Nat) (g : Ctx → Ctx) : (s.modCtx i g).wpt = s.wpt := rfl
@[simp] theorem State.modCtx_wc (s : State) (i : Nat) (g : Ctx → Ctx) : (s.modCtx i g).wc = s.wc := rfl
@[simp] theorem State.modCtx_pool (s : State) (i : Nat) (g : Ctx → Ctx) : (s.modCtx i g).pool = s.pool := rfl
@[simp] theorem State.modCtx_fl (s : State) (i : Nat) (g : Ctx → Ctx) : (s.modCtx i g).fl = s.fl := rfl
@[simp] theorem State.modCtx_sd (s : State) (i : Nat) (g : Ctx → Ctx) : (s.modCtx i g).sd = s.sd := rfl
@[simp] theorem State.modCtx_cd (s : State) (i : Nat) (g : Ctx → Ctx) : (s.modCtx i g).cd = s.cd := rfl
@[simp] theorem State.modCtx_xl (s : State) (i : Nat) (g : Ctx → Ctx) : (s.modCtx i g).xl = s.xl := rfl
@[simp] theorem State.modCtx_ev (s : State) (i : Nat) (g : Ctx → Ctx) : (s.modCtx i g).ev = s.ev := rfl
@[simp] theorem State.modCtx_fc (s : State) (i : Nat) (g : Ctx → Ctx) : (s.modCtx i g).fc = s.fc := rfl
@[simp] theorem State.modCtx_ms (s : State) (i : Nat) (g : Ctx → Ctx) : (s.modCtx i g).ms = s.ms := rfl
@[simp] theorem State.modCtx_th (s : State) (i : Nat) (g : Ctx → Ctx) : (s.modCtx i g).th = s.th := rfl
@[simp] theorem State.modCtx_hu (s : State) (i : Nat) (g : Ctx → Ctx) : (s.modCtx i g).hu = s.hu := rfl
@[simp] theorem State.modCtx_pw (s : State) (i : Nat) (g : Ctx → Ctx) : (s.modCtx i g).pw = s.pw := rfl
@[simp] theorem State.modCtx_md (s : State) (i : Nat) (g : Ctx → Ctx) : (s.modCtx i g).md = s.md := rfl
@[simp] theorem State.modCtx_mm (s : State) (i : Nat) (g : Ctx → Ctx) : (s.modCtx i g).mm = s.mm := rfl
@[simp] theorem State.modCtx_mg (s : State) (i : Nat) (g : Ctx → Ctx) : (s.modCtx i g).mg = s.mg := rfl
@[simp] theorem State.modCtx_fb (s : State) (i : Nat) (g : Ctx → Ctx) : (s.modCtx i g).fb = s.fb := rfl
@[simp] theorem State.modCtx_fw (s : State) (i : Nat) (g : Ctx → Ctx) : (s.modCtx i g).fw = s.fw := rfl
@[simp] theorem State.modCtx_pins (s : State) (i : Nat) (g : Ctx → Ctx) : (s.modCtx i g).pins = s.pins := rfl
@[simp] theorem State.modCtx_tp (s : State) (i : Nat) (g : Ctx → Ctx) : (s.modCtx i g).tp = s.tp := rfl
@[simp] theorem State.modCtx_pending (s : State) (i : Nat) (g : Ctx → Ctx) : (s.modCtx i g).pending = s.pending := rfl

@[simp] theorem State.modDump_now (s : State) (g : Dump → Dump) : (s.modDump g).now = s.now := rfl
@[simp] theorem State.modDump_regs (s : State) (g : Dump → Dump) : (s.modDump g).regs = s.regs := rfl
@[simp] theorem State.modDump_unbound (s : State) (g : Dump → Dump) : (s.modDump g).unbound = s.unbound := rfl
@[simp] theorem State.modDump_freeCtr (s : State) (g : Dump → Dump) : (s.modDump g).freeCtr = s.freeCtr := rfl
@[simp] theorem State.modDump_out (s : State) (g : Dump → Dump) : (s.modDump g).out = s.out := rfl
@[simp] theorem State.modDump_port0 (s : State) (g : Dump → Dump) : (s.modDump g).port0 = s.port0 := rfl
@[simp] theorem State.modDump_port1 (s : State) (g : Dump → Dump) : (s.modDump g).port1 = s.port1 := rfl
@[simp] theorem State.modDump_sqs (s : State) (g : Dump → Dump) : (s.modDump g).sqs = s.sqs := rfl
@[simp] theorem State.modDump_cqs (s : State) (g : Dump → Dump) : (s.modDump g).cqs = s.cqs := rfl
@[simp] theorem State.modDump_ctxs (s : State) (g : Dump → Dump) : (s.modDump g).ctxs = s.ctxs := rfl
@[simp] theorem State.modDump_nextCtx (s : State) (g : Dump → Dump) : (s.modDump g).nextCtx = s.nextCtx := rfl
@[simp] theorem State.modDump_doneQ (s : State) (g : Dump → Dump) : (s.modDump g).doneQ = s.doneQ := rfl
@[simp] theorem State.modDump_ns (s : State) (g : Dump → Dump) : (s.modDump g).ns = s.ns := rfl
@[simp] theorem State.modDump_late (s : State) (g : Dump → Dump) : (s.modDump g).late = s.late := rfl
@[simp] theorem State.modDump_lateTotal (s : State) (g : Dump → Dump) : (s.modDump g).lateTotal = s.lateTotal := rfl
@[simp] theorem State.modDump_resets (s : State) (g : Dump → Dump) : (s.modDump g).resets = s.resets := rfl
@[simp] theorem State.modDump_zn (s : State) (g : Dump → Dump) : (s.modDump g).zn = s.zn := rfl
@[simp] theorem State.modDump_wpt (s : State) (g : Dump → Dump) : (s.modDump g).wpt = s.wpt := rfl
@[simp] theorem State.modDump_wc (s : State) (g : Dump → Dump) : (s.modDump g).wc = s.wc := rfl
@[simp] theorem State.modDump_pool (s : State) (g : Dump → Dump) : (s.modDump g).pool = s.pool := rfl
@[simp] theorem State.modDump_fl (s : State) (g : Dump → Dump) : (s.modDump g).fl = s.fl := rfl
@[simp] theorem State.modDump_sd (s : State) (g : Dump → Dump) : (s.modDump g).sd = s.sd := rfl
@[simp] theorem State.modDump_cd (s : State) (g : Dump → Dump) : (s.modDump g).cd = s.cd := rfl
@[simp] theorem State.modDump_xl (s : State) (g : Dump → Dump) : (s.modDump g).xl = s.xl := rfl
@[simp] theorem State.modDump_ev (s : State) (g : Dump → Dump) : (s.modDump g).ev = s.ev := rfl
@[simp] theorem State.modDump_fc (s : State) (g : Dump → Dump) : (s.modDump g).fc = s.fc := rfl
@[simp] theorem State.modDump_ms (s : State) (g : Dump → Dump) : (s.modDump g).ms = s.ms := rfl
@[simp] theorem State.modDump_th (s : State) (g : Dump → Dump) : (s.modDump g).th = s.th := rfl
@[simp] theorem State.modDump_pw (s : State) (g : Dump → Dump) : (s.modDump g).pw = s.pw := rfl
@[simp] theorem State.modDump_md (s : State) (g : Dump → Dump) : (s.modDump g).md = s.md := rfl
@[simp] theorem State.modDump_mm (s : State) (g : Dump → Dump) : (s.modDump g).mm = s.mm := rfl
@[simp] theorem State.modDump_mg (s : State) (g : Dump → Dump) : (s.modDump g).mg = s.mg := rfl
@[simp] theorem State.modDump_fb (s : State) (g : Dump → Dump) : (s.modDump g).fb = s.fb := rfl
@[simp] theorem State.modDump_fw (s : State) (g : Dump → Dump) : (s.modDump g).fw = s.fw := rfl
@[simp] theorem State.modDump_pins (s : State) (g : Dump → Dump) : (s.modDump g).pins = s.pins := rfl
@[simp] theorem State.modDump_tp (s : State) (g : Dump → Dump) : (s.modDump g).tp = s.tp := rfl
@[simp] theorem State.modDump_pending (s : State) (g : Dump → Dump) : (s.modDump g).pending = s.pending := rfl

@[simp] theorem State.modTicket_now (s : State) (n : Nat) (g : Ticket → Ticket) : (s.modTicket n g).now = s.now := rfl
@[simp] theorem State.modTicket_regs (s : State) (n : Nat) (g : Ticket → Ticket) : (s.modTicket n g).regs = s.regs := rfl
@[simp] theorem State.modTicket_unbound (s : State) (n : Nat) (g : Ticket → Ticket) : (s.modTicket n g).unbound = s.unbound := rfl
@[simp] theorem State.modTicket_freeCtr (s : State) (n : Nat) (g : Ticket → Ticket) : (s.modTicket n g).freeCtr = s.freeCtr := rfl
@[simp] theorem State.modTicket_out (s : State) (n : Nat) (g : Ticket → Ticket) : (s.modTicket n g).out = s.out := rfl
@[simp] theorem State.modTicket_port0 (s : State) (n : Nat) (g : Ticket → Ticket) : (s.modTicket n g).port0 = s.port0 := rfl
@[simp] theorem State.modTicket_port1 (s : State) (n : Nat) (g : Ticket → Ticket) : (s.modTicket n g).port1 = s.port1 := rfl
@[simp] theorem State.modTicket_sqs (s : State) (n : Nat) (g : Ticket → Ticket) : (s.modTicket n g).sqs = s.sqs := rfl
@[simp] theorem State.modTicket_cqs (s : State) (n : Nat) (g : Ticket → Ticket) : (s.modTicket n g).cqs = s.cqs := rfl
@[simp] theorem State.modTicket_ctxs (s : State) (n : Nat) (g : Ticket → Ticket) : (s.modTicket n g).ctxs = s.ctxs := rfl
@[simp] theorem State.modTicket_nextCtx (s : State) (n : Nat) (g : Ticket → Ticket) : (s.modTicket n g).nextCtx = s.nextCtx := rfl
@[simp] theorem State.modTicket_doneQ (s : State) (n : Nat) (g : Ticket → Ticket) : (s.modTicket n g).doneQ = s.doneQ := rfl
@[simp] theorem State.modTicket_ns (s : State) (n : Nat) (g : Ticket → Ticket) : (s.modTicket n g).ns = s.ns := rfl
@[simp] theorem State.modTicket_late (s : State) (n : Nat) (g : Ticket → Ticket) : (s.modTicket n g).late = s.late := rfl
@[simp] theorem State.modTicket_lateTotal (s : State) (n : Nat) (g : Ticket → Ticket) : (s.modTicket n g).lateTotal = s.lateTotal := rfl
@[simp] theorem State.modTicket_resets (s : State) (n : Nat) (g : Ticket → Ticket) : (s.modTicket n g).resets = s.resets := rfl
@[simp] theorem State.modTicket_zn (s : State) (n : Nat) (g : Ticket → Ticket) : (s.modTicket n g).zn = s.zn := rfl
@[simp] theorem State.modTicket_wpt (s : State) (n : Nat) (g : Ticket → Ticket) : (s.modTicket n g).wpt = s.wpt := rfl
@[simp] theorem State.modTicket_wc (s : State) (n : Nat) (g : Ticket → Ticket) : (s.modTicket n g).wc = s.wc := rfl
@[simp] theorem State.modTicket_pool (s : State) (n : Nat) (g : Ticket → Ticket) : (s.modTicket n g).pool = s.pool := rfl
@[simp] theorem State.modTicket_fl (s : State) (n : Nat) (g : Ticket → Ticket) : (s.modTicket n g).fl = s.fl := rfl
@[simp] theorem State.modTicket_sd (s : State) (n : Nat) (g : Ticket → Ticket) : (s.modTicket n g).sd = s.sd := rfl
@[simp] theorem State.modTicket_cd (s : State) (n : Nat) (g : Ticket → Ticket) : (s.modTicket n g).cd = s.cd := rfl
@[simp] theorem State.modTicket_xl (s : State) (n : Nat) (g : Ticket → Ticket) : (s.modTicket n g).xl = s.xl := rfl
@[simp] theorem State.modTicket_ev (s : State) (n : Nat) (g : Ticket → Ticket) : (s.modTicket n g).ev = s.ev := rfl
@[simp] theorem State.modTicket_fc (s : State) (n : Nat) (g : Ticket → Ticket) : (s.modTicket n g).fc = s.fc := rfl
@[simp] theorem State.modTicket_ms (s : State) (n : Nat) (g : Ticket → Ticket) : (s.modTicket n g).ms = s.ms := rfl
@[simp] theorem State.modTicket_th (s : State) (n : Nat) (g : Ticket → Ticket) : (s.modTicket n g).th = s.th := rfl
@[simp] theorem State.modTicket_hu (s : State) (n : Nat) (g : Ticket → Ticket) : (s.modTicket n g).hu = s.hu := rfl
@[simp] theorem State.modTicket_pw (s : State) (n : Nat) (g : Ticket → Ticket) : (s.modTicket n g).pw = s.pw := rfl
@[simp] theorem State.modTicket_md (s : State) (n : Nat) (g : Ticket → Ticket) : (s.modTicket n g).md = s.md := rfl
@[simp] theorem State.modTicket_mm (s : State) (n : Nat) (g : Ticket → Ticket) : (s.modTicket n g).mm = s.mm := rfl
@[simp] theorem State.modTicket_fb (s : State) (n : Nat) (g : Ticket → Ticket) : (s.modTicket n g).fb = s.fb := rfl
@[simp] theorem State.modTicket_fw (s : State) (n : Nat) (g : Ticket → Ticket) : (s.modTicket n g).fw = s.fw := rfl
@[simp] theorem State.modTicket_pins (s : State) (n : Nat) (g : Ticket → Ticket) : (s.modTicket n g).pins = s.pins := rfl
@[simp] theorem State.modTicket_tp (s : State) (n : Nat) (g : Ticket → Ticket) : (s.modTicket n g).tp = s.tp := rfl
@[simp] theorem State.modTicket_pending (s : State) (n : Nat) (g : Ticket → Ticket) : (s.modTicket n g).pending = s.pending := rfl

@[simp] theorem State.modDchan_now (s : State) (d : Nat) (g : DChan → DChan) : (s.modDchan d g).now = s.now := rfl
@[simp] theorem State.modDchan_regs (s : State) (d : Nat) (g : DChan → DChan) : (s.modDchan d g).regs = s.regs := rfl
@[simp] theorem State.modDchan_unbound (s : State) (d : Nat) (g : DChan → DChan) : (s.modDchan d g).unbound = s.unbound := rfl
@[simp] theorem State.modDchan_freeCtr (s : State) (d : Nat) (g : DChan → DChan) : (s.modDchan d g).freeCtr = s.freeCtr := rfl
@[simp] theorem State.modDchan_out (s : State) (d : Nat) (g : DChan → DChan) : (s.modDchan d g).out = s.out := rfl
@[simp] theorem State.modDchan_port0 (s : State) (d : Nat) (g : DChan → DChan) : (s.modDchan d g).port0 = s.port0 := rfl
@[simp] theorem State.modDchan_port1 (s : State) (d : Nat) (g : DChan → DChan) : (s.modDchan d g).port1 = s.port1 := rfl
@[simp] theorem State.modDchan_sqs (s : State) (d : Nat) (g : DChan → DChan) : (s.modDchan d g).sqs = s.sqs := rfl
@[simp] theorem State.modDchan_cqs (s : State) (d : Nat) (g : DChan → DChan) : (s.modDchan d g).cqs = s.cqs := rfl
@[simp] theorem State.modDchan_ctxs (s : State) (d : Nat) (g : DChan → DChan) : (s.modDchan d g).ctxs = s.ctxs := rfl
@[simp] theorem State.modDchan_nextCtx (s : State) (d : Nat) (g : DChan → DChan) : (s.modDchan d g).nextCtx = s.nextCtx := rfl
@[simp] theorem State.modDchan_doneQ (s : State) (d : Nat) (g : DChan → DChan) : (s.modDchan d g).doneQ = s.doneQ := rfl
@[simp] theorem State.modDchan_ns (s : State) (d : Nat) (g : DChan → DChan) : (s.modDchan d g).ns = s.ns := rfl
@[simp] theorem State.modDchan_late (s : State) (d : Nat) (g : DChan → DChan) : (s.modDchan d g).late = s.late := rfl
@[simp] theorem State.modDchan_lateTotal (s : State) (d : Nat) (g : DChan → DChan) : (s.modDchan d g).lateTotal = s.lateTotal := rfl
@[simp] theorem State.modDchan_resets (s : State) (d : Nat) (g : DChan → DChan) : (s.modDchan d g).resets = s.resets := rfl
@[simp] theorem State.modDchan_zn (s : State) (d : Nat) (g : DChan → DChan) : (s.modDchan d g).zn = s.zn := rfl
@[simp] theorem State.modDchan_wpt (s : State) (d : Nat) (g : DChan → DChan) : (s.modDchan d g).wpt = s.wpt := rfl
@[simp] theorem State.modDchan_wc (s : State) (d : Nat) (g : DChan → DChan) : (s.modDchan d g).wc = s.wc := rfl
@[simp] theorem State.modDchan_pool (s : State) (d : Nat) (g : DChan → DChan) : (s.modDchan d g).pool = s.pool := rfl
@[simp] theorem State.modDchan_fl (s : State) (d : Nat) (g : DChan → DChan) : (s.modDchan d g).fl = s.fl := rfl
@[simp] theorem State.modDchan_sd (s : State) (d : Nat) (g : DChan → DChan) : (s.modDchan d g).sd = s.sd := rfl
@[simp] theorem State.modDchan_cd (s : State) (d : Nat) (g : DChan → DChan) : (s.modDchan d g).cd = s.cd := rfl
@[simp] theorem State.modDchan_xl (s : State) (d : Nat) (g : DChan → DChan) : (s.modDchan d g).xl = s.xl := rfl
@[simp] theorem State.modDchan_ev (s : State) (d : Nat) (g : DChan → DChan) : (s.modDchan d g).ev = s.ev := rfl
@[simp] theorem State.modDchan_fc (s : State) (d : Nat) (g : DChan → DChan) : (s.modDchan d g).fc = s.fc := rfl
@[simp] theorem State.modDchan_ms (s : State) (d : Nat) (g : DChan → DChan) : (s.modDchan d g).ms = s.ms := rfl
@[simp] theorem State.modDchan_th (s : State) (d : Nat) (g : DChan → DChan) : (s.modDchan d g).th = s.th := rfl
@[simp] theorem State.modDchan_hu (s : State) (d : Nat) (g : DChan → DChan) : (s.modDchan d g).hu = s.hu := rfl
@[simp] theorem State.modDchan_pw (s : State) (d : Nat) (g : DChan → DChan) : (s.modDchan d g).pw = s.pw := rfl
@[simp] theorem State.modDchan_md (s : State) (d : Nat) (g : DChan → DChan) : (s.modDchan d g).md = s.md := rfl
@[simp] theorem State.modDchan_mg (s : State) (d : Nat) (g : DChan → DChan) : (s.modDchan d g).mg = s.mg := rfl
@[simp] theorem State.modDchan_fb (s : State) (d : Nat) (g : DChan → DChan) : (s.modDchan d g).fb = s.fb := rfl
@[simp] theorem State.modDchan_fw (s : State) (d : Nat) (g : DChan → DChan) : (s.modDchan d g).fw = s.fw := rfl
@[simp] theorem State.modDchan_pins (s : State) (d : Nat) (g : DChan → DChan) : (s.modDchan d g).pins = s.pins := rfl
@[simp] theorem State.modDchan_tp (s : State) (d : Nat) (g : DChan → DChan) : (s.modDchan d g).tp = s.tp := rfl
@[simp] theorem State.modDchan_pending (s : State) (d : Nat) (g : DChan → DChan) : (s.modDchan d g).pending = s.pending := rfl

@[simp] theorem State.modCw_now (s : State) (p : Nat) (g : CwPort → CwPort) : (s.modCw p g).now = s.now := rfl
@[simp] theorem State.modCw_regs (s : State) (p : Nat) (g : CwPort → CwPort) : (s.modCw p g).regs = s.regs := rfl
@[simp] theorem State.modCw_unbound (s : State) (p : Nat) (g : CwPort → CwPort) : (s.modCw p g).unbound = s.unbound := rfl
@[simp] theorem State.modCw_freeCtr (s : State) (p : Nat) (g : CwPort → CwPort) : (s.modCw p g).freeCtr = s.freeCtr := rfl
@[simp] theorem State.modCw_out (s : State) (p : Nat) (g : CwPort → CwPort) : (s.modCw p g).out = s.out := rfl
@[simp] theorem State.modCw_port0 (s : State) (p : Nat) (g : CwPort → CwPort) : (s.modCw p g).port0 = s.port0 := rfl
@[simp] theorem State.modCw_port1 (s : State) (p : Nat) (g : CwPort → CwPort) : (s.modCw p g).port1 = s.port1 := rfl
@[simp] theorem State.modCw_sqs (s : State) (p : Nat) (g : CwPort → CwPort) : (s.modCw p g).sqs = s.sqs := rfl
@[simp] theorem State.modCw_cqs (s : State) (p : Nat) (g : CwPort → CwPort) : (s.modCw p g).cqs = s.cqs := rfl
@[simp] theorem State.modCw_ctxs (s : State) (p : Nat) (g : CwPort → CwPort) : (s.modCw p g).ctxs = s.ctxs := rfl
@[simp] theorem State.modCw_nextCtx (s : State) (p : Nat) (g : CwPort → CwPort) : (s.modCw p g).nextCtx = s.nextCtx := rfl
@[simp] theorem State.modCw_doneQ (s : State) (p : Nat) (g : CwPort → CwPort) : (s.modCw p g).doneQ = s.doneQ := rfl
@[simp] theorem State.modCw_ns (s : State) (p : Nat) (g : CwPort → CwPort) : (s.modCw p g).ns = s.ns := rfl
@[simp] theorem State.modCw_late (s : State) (p : Nat) (g : CwPort → CwPort) : (s.modCw p g).late = s.late := rfl
@[simp] theorem State.modCw_lateTotal (s : State) (p : Nat) (g : CwPort → CwPort) : (s.modCw p g).lateTotal = s.lateTotal := rfl
@[simp] theorem State.modCw_resets (s : State) (p : Nat) (g : CwPort → CwPort) : (s.modCw p g).resets = s.resets := rfl
@[simp] theorem State.modCw_zn (s : State) (p : Nat) (g : CwPort → CwPort) : (s.modCw p g).zn = s.zn := rfl
@[simp] theorem State.modCw_wpt (s : State) (p : Nat) (g : CwPort → CwPort) : (s.modCw p g).wpt = s.wpt := rfl
@[simp] theorem State.modCw_wc (s : State) (p : Nat) (g : CwPort → CwPort) : (s.modCw p g).wc = s.wc := rfl
@[simp] theorem State.modCw_pool (s : State) (p : Nat) (g : CwPort → CwPort) : (s.modCw p g).pool = s.pool := rfl
@[simp] theorem State.modCw_fl (s : State) (p : Nat) (g : CwPort → CwPort) : (s.modCw p g).fl = s.fl := rfl
@[simp] theorem State.modCw_sd (s : State) (p : Nat) (g : CwPort → CwPort) : (s.modCw p g).sd = s.sd := rfl
@[simp] theorem State.modCw_cd (s : State) (p : Nat) (g : CwPort → CwPort) : (s.modCw p g).cd = s.cd := rfl
@[simp] theorem State.modCw_xl (s : State) (p : Nat) (g : CwPort → CwPort) : (s.modCw p g).xl = s.xl := rfl
@[simp] theorem State.modCw_ev (s : State) (p : Nat) (g : CwPort → CwPort) : (s.modCw p g).ev = s.ev := rfl
@[simp] theorem State.modCw_fc (s : State) (p : Nat) (g : CwPort → CwPort) : (s.modCw p g).fc = s.fc := rfl
@[simp] theorem State.modCw_ms (s : State) (p : Nat) (g : CwPort → CwPort) : (s.modCw p g).ms = s.ms := rfl
@[simp] theorem State.modCw_th (s : State) (p : Nat) (g : CwPort → CwPort) : (s.modCw p g).th = s.th := rfl
@[simp] theorem State.modCw_hu (s : State) (p : Nat) (g : CwPort → CwPort) : (s.modCw p g).hu = s.hu := rfl
@[simp] theorem State.modCw_pw (s : State) (p : Nat) (g : CwPort → CwPort) : (s.modCw p g).pw = s.pw := rfl
@[simp] theorem State.modCw_md (s : State) (p : Nat) (g : CwPort → CwPort) : (s.modCw p g).md = s.md := rfl
@[simp] theorem State.modCw_mm (s : State) (p : Nat) (g : CwPort → CwPort) : (s.modCw p g).mm = s.mm := rfl
@[simp] theorem State.modCw_mg (s : State) (p : Nat) (g : CwPort → CwPort) : (s.modCw p g).mg = s.mg := rfl
@[simp] theorem State.modCw_fw (s : State) (p : Nat) (g : CwPort → CwPort) : (s.modCw p g).fw = s.fw := rfl
@[simp] theorem State.modCw_pins (s : State) (p : Nat) (g : CwPort → CwPort) : (s.modCw p g).pins = s.pins := rfl
@[simp] theorem State.modCw_tp (s : State) (p : Nat) (g : CwPort → CwPort) : (s.modCw p g).tp = s.tp := rfl
@[simp] theorem State.modCw_pending (s : State) (p : Nat) (g : CwPort → CwPort) : (s.modCw p g).pending = s.pending := rfl

end Sys2Proof.Machine
end

