-- ==== Sys2Proof/Tests/Base.lean ====
section
/-!
SUPPORT. Small states for tests and witnesses: the reset state with a mode, armed rails and a few registers set.
-/

namespace Sys2Proof.Tests

open Sys2Proof.Machine

/-- A rail that is on and armed. -/
def onRail : Rail := { enabled := true, waiting := false, armed := true, inWindow := true, since := 0 }

/-- The reset state with AO powered and the device in a mode. -/
def inMode (m : Mode) : State :=
  { State.reset with pw := { PowerState.reset with ao := true, rails := [(0, onRail), (1, onRail), (10, onRail)] },
                     md := { ModeState.reset with mode := m } }

/-- In RUN with nothing connected. -/
def run0 : State := inMode .run

/-- A controller that is enabled and ready on port 0. -/
def readyPort : Port := { Port.reset 0 false with ccEn := true, adminOk := true, asq := Sq.empty 0 0 16, acq := Cq.empty 0 0 16 }

/-- In RUN with the link of port 0 up and its controller ready. -/
def host0 : State := (({ run0 with port0 := readyPort }).set QEN_LINK_UP 1 0).set QEN_STATUS_P0_RDY 1

/-- A context of port 0 for a fetched command. -/
def ctx0 (slot opc nsid dw10 dw11 dw12 : Nat) : Ctx :=
  { Ctx.base with id := 5, port := 0, slot := slot, e := { opc := opc, cid := 7, nsid := nsid, dw10 := dw10, dw11 := dw11, dw12 := dw12, dw13 := 0, dw14 := 0, dw15 := 0 } }

/-- `host0` with an admin command in a context. -/
def adm0 (opc nsid dw10 dw11 : Nat) : State := { host0 with ctxs := [ctx0 0 opc nsid dw10 dw11 0], nextCtx := 6 }

/-- A whole configuration copy. -/
def cfg1 (seq : Nat) : CfgCopy :=
  { seq := seq, whole := true, ver := 1, lines := 320, regs := [], wpt := [], fnCeiling := 0, dumpBlocks := [], dumpDies := [], active0 := [] }

/-- A zoned namespace of one zone, attached to port 0. -/
def ns1 : Namespace := { zoned := true, nsze := 1048576, attach0 := true, attach1 := false, writeProtect := false, deleting := none }

/-- A conventional namespace, attached to port 0. -/
def nsConv : Namespace := { ns1 with zoned := false }

/-- A context of port 0 for a fetched I/O command to namespace 1. -/
def ioCtx0 (opc slba nlb dw13 : Nat) : Ctx :=
  { Ctx.base with id := 5, port := 0, slot := 1, cqSlot := 1, gen := 1, e := { opc := opc, cid := 7, nsid := 1, dw10 := slba, dw11 := 0, dw12 := nlb - 1, dw13 := dw13, dw14 := 0, dw15 := 0 } }

/-- `host0` with namespace 1, which slice 0 reaches, and an I/O command to it in a context. -/
def io0 (n : Namespace) (opc slba nlb dw13 : Nat) : State :=
  ({ host0 with ctxs := [ioCtx0 opc slba nlb dw13], nextCtx := 6, ns := [(1, n)] }).set SLM_NSACC 1 0 0

/-- A zone of namespace 1 with its write pointer. -/
def zone1 (st : ZState) (wp : Nat) : Zone :=
  { nsid := 1, z := 0, state := st, wp := wp, ap := wp, zcap := 983040, ctx := some 0, slice := 0, gen := 0, route := 0, prio := 0, fn := 0,
    media := .qlc, split := false, rowFlush := false, members := [], fillFrom := none, lastProg := 0, lost := [] }

/-- `io0` with zone 0 of the namespace in a state. -/
def zio (st : ZState) (wp opc slba nlb dw13 : Nat) : State :=
  { io0 ns1 opc slba nlb dw13 with zn := { ZoneState.reset with zones := [(zkeyOf 1 0, zone1 st wp)], ctxs := [(0, zkeyOf 1 0)] } }

/-- A pair of slice 0 with LBAs of namespace 1 in buffers, which a command of the zone engine fills, or whole and dirty. -/
def pair1 (adm : Nat) (a b : Option (Nat × Nat)) (d : NMap Nat) (whole : Bool) : Pair :=
  { nsid := 1, conv := false, num := 0, slice := 0, gen := 0, adm := adm, a := a, b := b, data := d, held := whole, committed := whole, dirty := whole,
    seq := 1, pins := 0, releaseHeld := false, done := [], issued := [], lost := [], journaled := [], badCopy := none, time := 1, internal := false,
    route := 0 }

/-- A write of LBAs from 8 on of namespace 1 at the zone engine, whose data moves into pairs. -/
def adm1 (id : Nat) (data pairs : List Nat) : Adm :=
  { id := id, ctx := none, nsid := 1, kind := .write, lba := 8, len := data.length, slice := 0, gen := 0, hint := 0, opc := 0, data := data, found := none,
    stage := .moving, why := .nothing, pairs := pairs }

/-- `s` with one pair, number 0. -/
def withPair (x : Pair) (s : State) : State := { s with wc := { s.wc with pairs := [(0, x)], nextPair := 1 } }

/-- Two DRAM channels of 16 buffers each are live, and slice 0 has the buffers and the dirty share for one pair. -/
def bufs (s : State) : State :=
  ((({ s with pool := { PoolState.reset with chans := [0, 1], per := 16 } }.set DMC_CH_STAT_POP 1 0).set DMC_CH_STAT_POP 1 1).set SLM_BUDGET 16 0 7).set
    SLM_BUDGET 64 0 5

/-- Die 1 of channel 2, in service, in a state. -/
def onDie (di : Die) (s : State) : State := ({ s with fl := { s.fl with dies := [(dieKey 2 1, di)] } }).set FSQ_DIE_STATE 1 2 1

/-- An operation of a kind and owner on block 9. -/
def op0 (k : OpKind) (o : OpFor) : DieOp := { DieOp.base with kind := k, owner := o, block := 9, media := .tlc }

/-- A die that runs an operation, started at 0. -/
def runs (o : DieOp) : Die :=
  { Die.fresh with run := some { op := o, since := 0, busy := 0, suspends := 0, window := none, suspending := false } }

/-- A die with an operation suspended in a window. -/
def suspended (o : DieOp) : Die :=
  { Die.fresh with run := some { op := o, since := 0, busy := 40, suspends := 1, window := some 0, suspending := false } }

/-- A member on die 1 of channel 2 at block 9, with wordlines issued and verified. -/
def mem1 (n : Nat) : Member := { ch := 2, die := 1, block := 9, issued := n, verified := n, moved := false, rebuilt := none, old := none }

/-- A codeword of a host read of context 5 on die 1 of channel 2. -/
def cw1 (id : Nat) (st : CwStage) : Cw :=
  { Cw.base with id := id, owner := .host 5 3, cls := 0, internal := false, ch := 2, die := 1, block := 9, media := .tlc, stage := st }

/-- A pack of 400 J with a float voltage of 54 V and a minimum of 30 V. -/
def pack0 : PackId :=
  { serial := 1, cRated := 400, cycles := 0, vFloat := 54000, vMin := 30000, zRated := 100, zMax := 500, iChgMax := 0, mfgWeek := 0,
    ocv := [30000, 32000, 34000, 36000, 38000, 40000, 42000, 44000, 46000, 48000, 50000, 51000, 52000, 53000, 53500, 54000] }

/-- `s` with that pack identified, measured and ready, the gauge in a state. -/
def packed (g : Nat) (s : State) : State :=
  ({ s with hu := { s.hu with pack := some pack0, identOk := true, zMade := true, z := 100, c := 300 * qJ, ectr := 250 * qJ, ev := 250 * qJ,
                              epess := 240 * qJ, u := 10 * qJ, volts := 530000, amps := 0, temp := 25, life := some { LifeRec.fresh with firstDev := 0 } },
            wc := { s.wc with packReady := true }, pw := { s.pw with hubOn := true } }.set HUC_STATUS_GSTATE g).set HUC_STATUS_READY 1

/-- An open block set of route 0 whose members lie at block 9 of die 1 of channel 2, with rows issued and verified. -/
def set1 (n : Nat) : BlockSet :=
  { fn := 0, split := false, route := 0, prio := 0, members := List.replicate 16 (mem1 n), nextRow := n, closed := false, unprotected := false, valid := 0,
    firstProg := 0, keys := [], parityRows := n, retire := none }

/-- A conventional pair of namespace 1, whole and dirty. -/
def cpair1 (d : NMap Nat) : Pair := { pair1 0 (some (0, 9)) (some (1, 9)) d true with conv := true }

/-- A Sample Out of an operation on die 1, with bursts read and bursts not framed. -/
def readout1 (o : DieOp) (n : Nat) (unframed : List Nat) : Readout :=
  { die := 1, op := o, dual := false, second := false, since := 0, burst := n, start := 0, loops := { o := 0, g := 0, a := 0, gRef := 0, n := 0, taps := [] },
    learned := 0, acquired := 0, unfrozen := 0, unframed := unframed, erased := 0, cells := [], todo := none, lastLevel := [], run := 0, good := 0,
    frozenRun := false, levels := [], llrs := [] }

/-- A sample read for codeword 4. -/
def sread : DieOp := { op0 .sampleRead .codewords with cws := [4] }

/-- `host0` with a die in service, one codeword, number 4, and a Sample Out of channel 2. -/
def reading1 (c : Cw) (r : Readout) (samples : Option DieOp) : State :=
  { onDie { Die.fresh with samples := samples } host0 with cd := { CodecState.reset with cws := [(4, c)], nextCw := 5 },
                                                           sd := { SampleState.reset with readouts := [(2, r)] } }

/-- `host0` with a die in service and codewords. -/
def withCw (c : Cw) : State := { onDie Die.fresh host0 with cd := { CodecState.reset with cws := [(c.id, c)], nextCw := 5 } }

/-- A codeword at decoder instance 0 with a word of zeros. -/
def atDec (c : Cw) : Cw := { c with stage := .decoding, input := some (.hard 0 1), inst := some 0 }

/-- A dump on die 3 with a unit to program, or one being programmed. -/
def dump0 (queue : NMap (List Nat)) (busy : NMap Nat) : Dump :=
  { record := { dseq := 1, slot := 0, superseded := false, thermal := false, interrupted := false, released := false, isPartial := false, nDies := 1,
                units := 1, lossNs := 0, durUs := 0, eStart := 0, eEnd := 0, dies := [3], committed := false },
    left := 4, queue := queue, busy := busy, written := [(3, [0])], used := [3], failed := [], suspect := [], dirBusy := [], dirs := [], empty := false,
    fault := false, thermal := false, image := { pairs := [], missing := [], seq := 0, recs := [] }, committedAt := none }

/-- In DETOUR with a dump. -/
def detour0 (d : Dump) : State := packed 3 { inMode .detour with hu := { HoldState.reset with dump := some d } }

/-- A package in which BOOT finds nothing. -/
def env0 : BootEnv :=
  { dies := [], rates := [], failed := [], training := [], dramLost := [], dramPop := [], dramRate := [], raaimt := 0, raammt := 0, dramHard := [],
    fusedSpares := [], descr := [], opcodes := [], badCols := [], looks := [], goodSlots := [1], coresFailed := [], pack := none }

/-- `s` with DRAM channel `d` live, in a state. -/
def dramOn (d : Nat) (c : DChan) (s : State) : State := { s with mm := { s.mm with chans := [(d, c)] } }.set DMC_CH_STAT_POP 1 d

/-- A DRAM request of a data mover, to address 64. -/
def dreq0 (write : Bool) : DramReq := { cls := 1, source := 7, user := .dma 9 none, write := write, addr := 64, len := 64 }

/-- In RUN as node 5 of domain 0, with node 6 reached over port 1, which is UP. -/
def fab0 : State :=
  ({ run0 with fb := { FabricState.reset with paths := [(6, (1, 1))], nodes := [(5, { linkSeq := 0, node := 5, seq := 1, serial := 0, links := [] })] } }.set
    CWP_PSTAT_STATE cwUp 1).set JNR_CFG_NODE_ID 5

/-- A frame from node 6 to node 5 with the first sequence number. -/
def frame0 (type flags tag : Nat) (payload : List Nat) : Frame :=
  { type := type, flags := flags, dst := 5, src := 6, hops := 3, vc := vcOf type, tag := tag, seq := 0, offset := 0, domain := 0, payload := payload,
    trailerOk := true }

/-- `fab0` with slice 0 given to node 6 and access to namespace 1. -/
def fab1 : State := ((fab0.set JNR_NSLICE_NODE 6).set JNR_NSLICE_V 1).set SLM_NSACC 1 0 0

/-- A remote request of the pooled read in context 5. -/
def req0 (f : RemoteFor) : Remote := { for_ := f, dst := 6, type := 0x10, entry := (ioCtx0 2 0 1 0).e, data := [], attempts := 1, since := 0 }

/-- A packet over the sideband. -/
def pkt (opc : Nat) (params : List Nat) : Packet := { carrier := 1, origin := 0, bytes := packetOf opc 9 params, replyMax := 65555 }

/-- A packet brought by the admin command of context 5. -/
def apkt (opc : Nat) (params : List Nat) : Packet := { pkt opc params with carrier := 0, origin := 5 }

/-- A packet from node 6 with tag 3. -/
def fpkt (opc : Nat) (params : List Nat) : Packet := { pkt opc params with carrier := 2, origin := 6 + 4096 * 3 }

/-- The sideband and the fabric carriers are open in a mode. -/
def side (m : Mode) : State := ((inMode m).set MGI_CFG_SMB_EN 1).set JNR_CFG_MGMT_EN 1

/-- A queued ticket. -/
def tick1 (kind ch : Nat) : Ticket :=
  { state := 1, kind := kind, ch := ch, start := 0, len := 0, r0 := 0, r1 := 0, r2 := 0, r3 := 0, ended := none }

/-- A packet whose header names slice 0. -/
def spkt (opc : Nat) (params : List Nat) : Packet :=
  let b := withHcrc ([1, 0] ++ le 2 opc ++ [9, 0] ++ le 2 params.length ++ zeros 4) ++ params
  { pkt opc params with bytes := b ++ le 4 (crc32 b) }

/-- Peer Zone Copy of zone 0 of namespace 1 to namespace 2 of node 6. -/
def zcopy : Packet := spkt 0x0804 ([1, 0, 0, 0] ++ zeros 4 ++ [6, 0, 0, 0] ++ [2, 0, 0, 0] ++ zeros 4)

/-- The reply to the Identify request of binding 4 (R375): Success and 4,096 bytes. -/
def idReply : Frame := frame0 0x41 3 8 (zeros 8 ++ [0, 16] ++ zeros 6 ++ zeros 4096)

/-- A Bind Namespace packet that waits for the data of binding 4. -/
def bindRun : MgRun :=
  { inp := { p := pkt 0x0802 [4, 1, 3, 0, 6, 0, 1, 0], replyOk := true, raw := none, hdr := none }, change := true, wait := .remote 4,
    commitDue := false, held := none }

/-- A boot that is under way. -/
def boot0 : State := { inMode .boot with fw := { FwState.reset with boot := some env0 } }

end Sys2Proof.Tests
end

