-- ==== Sys2Proof/Tests/Packets.lean ====
section
/-!
SUPPORT. Packets with parameters too many to evaluate a CRC over: their header is looked at, their parameters are not.
-/

namespace Sys2Proof.Tests

open Sys2Proof.Machine

/-- The 16 bytes before the parameters of `pkt opc params`, for a number of parameter bytes. -/
def head16 (opc n : Nat) : List Nat := withHcrc ([1, 4] ++ le 2 opc ++ le 2 9 ++ le 2 n ++ zeros 4)

theorem length_head16 (opc n : Nat) : (head16 opc n).length = 16 := by simp [head16, withHcrc, zeros]

theorem pkt_bytes (opc : Nat) (l : List Nat) : (pkt opc l).bytes = head16 opc l.length ++ (l ++ le 4 (crc32 (head16 opc l.length ++ l))) := by
  simp [pkt, packetOf, head16]

theorem pkt_head (opc : Nat) (l : List Nat) (o n : Nat) (h : o + n ≤ 16) : field (pkt opc l).bytes o n = field (head16 opc l.length) o n := by
  rw [pkt_bytes, field_left _ _ _ _ (by rw [length_head16]; exact h)]

theorem pkt_params (opc : Nat) (l : List Nat) (h : field (head16 opc l.length) 6 2 = l.length) : pkParams (pkt opc l).bytes = l := by
  have e : pkLen (pkt opc l).bytes = l.length := by unfold pkLen; rw [pkt_head _ _ _ _ (by decide), h]
  unfold pkParams
  rw [e, pkt_bytes, List.drop_left' (length_head16 _ _), List.take_left]

theorem pkt_length (opc : Nat) (l : List Nat) : (pkt opc l).bytes.length = 20 + l.length := by
  rw [pkt_bytes]; simp [length_head16]; omega

/-- The format checks of a packet with many parameter bytes: its header is looked at, its parameters are not. -/
theorem pkt_format (s : State) (opc : Nat) (l : List Nat) (c o : Nat) (hc : c ≠ 1 ∨ l.length ≤ 4160)
    (h : field (head16 opc l.length) 6 2 = l.length ∧ field (head16 opc l.length) 12 4 = crc32 ((head16 opc l.length).take 12)
      ∧ field (head16 opc l.length) 0 1 = 1 ∧ field (head16 opc l.length) 1 1 = 4)
    (ht : s.tagInUse { pkt opc l with carrier := c, origin := o } = false) :
    s.formatFault { pkt opc l with carrier := c, origin := o } = none := by
  obtain ⟨h1, h2, h3, h4⟩ := h
  have e1 : pkLen (pkt opc l).bytes = l.length := by unfold pkLen; rw [pkt_head _ _ _ _ (by decide), h1]
  have e2 : field (pkt opc l).bytes 12 4 = crc32 ((pkt opc l).bytes.take 12) := by
    rw [pkt_head _ _ _ _ (by decide), h2, pkt_bytes, List.take_append_of_le_length (by rw [length_head16]; decide)]
  have e3 : field (pkt opc l).bytes (16 + l.length) 4 = crc32 ((pkt opc l).bytes.take (16 + l.length)) := by
    have hl : (head16 opc l.length ++ l).length = 16 + l.length := by simp [length_head16]
    rw [pkt_bytes, ← List.append_assoc, List.take_left' hl]
    have := field_le (head16 opc l.length ++ l) [] 4 (crc32 (head16 opc l.length ++ l)) (16 + l.length) hl.symm
    rw [List.append_nil] at this
    rw [this]
    exact Nat.mod_eq_of_lt (crc32_lt _)
  have e4 : pkVer (pkt opc l).bytes = 1 := by unfold pkVer; rw [pkt_head _ _ _ _ (by decide), h3]
  have e5 : pkFlags (pkt opc l).bytes = 4 := by unfold pkFlags; rw [pkt_head _ _ _ _ (by decide), h4]
  unfold State.formatFault
  simp only [pkt_length, e1, e4, e5, ht]
  have e6 : 20 + l.length - 4 = 16 + l.length := by omega
  rw [e6, e2, e3]
  rcases hc with hc | hc
  · simp [hc]
  · simp; omega

/-- The checks of an opcode on a packet with many parameter bytes. -/
theorem pkt_op (s : State) (op : MgOp) (opc : Nat) (l : List Nat) (c o : Nat) (hc : c ≠ 2)
    (h : field (head16 opc l.length) 6 2 = l.length ∧ field (head16 opc l.length) 1 1 = 4 ∧ field (head16 opc l.length) 8 1 = 0)
    (ha : s.admits c op.code = .yes) (hg : op.charge = false) (hk : op.ok s l = true) (hz : op.size l ≤ 65535) :
    s.opFault op { pkt opc l with carrier := c, origin := o } = none := by
  obtain ⟨h1, h2, h3⟩ := h
  have e1 : pkParams (pkt opc l).bytes = l := pkt_params opc l h1
  have e4 : pkFlags (pkt opc l).bytes = 4 := by unfold pkFlags; rw [pkt_head _ _ _ _ (by decide), h2]
  have e5 : pkSlice (pkt opc l).bytes = 0 := by unfold pkSlice; rw [pkt_head _ _ _ _ (by decide), h3]
  have e6 : bit 4 2 = true := by decide
  have e7 : (pkt opc l).replyMax = 65555 := rfl
  unfold State.opFault
  simp only [e1, e4, e5, e6, e7, ha, hg, hk, hc, false_and, if_false]
  simp; omega

theorem pkt_runs (s : State) (op : MgOp) (opc : Nat) (l : List Nat) (c o : Nat) (hm : mgOp opc = some op)
    (hf : s.formatFault { pkt opc l with carrier := c, origin := o } = none) (hp : s.opFault op { pkt opc l with carrier := c, origin := o } = none)
    (h : field (head16 opc l.length) 1 1 = 4 ∧ field (head16 opc l.length) 2 2 = opc)
    (hs : (c = 1 ∨ (c = 0 ∧ (s.adminCtx o 0xC1 fun x => x.port == s.privPort).isSome = true) ∨ (c = 2 ∧ s.portsRun = true ∧ s.flag JNR_CFG_MGMT_EN = true))
      ∧ s.hears c = true ∧ s.mg.running = [] ∧ s.mg.waiting = [] ∧ s.md.mode ≠ .rest ∧ s.md.restStep = none) :
    PacketRuns { pkt opc l with carrier := c, origin := o } opc s := by
  have e4 : pkFlags (pkt opc l).bytes = 4 := by unfold pkFlags; rw [pkt_head _ _ _ _ (by decide), h.1]
  have e2 : pkOpcode (pkt opc l).bytes = opc := by unfold pkOpcode; rw [pkt_head _ _ _ _ (by decide), h.2]
  refine ⟨hs.1, e2, hs.2.1, ?_, hs.2.2.1, hs.2.2.2.1, hs.2.2.2.2.1, hs.2.2.2.2.2, ?_⟩
  · unfold State.packetFault
    rw [hf]
    simp only [e2, hm, hp]
  · simp only [e4]; decide

theorem rawProgram_ok (s : State) (p : List Nat) : opRawProgram.ok s p = (p.length == 18444 && rsv p 9 3 && s.rawPlace p && rawPage p) := rfl

theorem download_ok (s : State) (p : List Nat) : opDownloadFirmware.ok s p = (decide (4 < p.length) && imageFits (field p 0 4) (p.length - 4)) := rfl

/-- A page of zeros to program on die 1 of channel 2, block 9, in a media mode. -/
def rawPage0 (media : Nat) : List Nat := [2, 1, 9, 0, 0, 0, 0, 0, media, 0, 0, 0] ++ zeros 18432

theorem length_rawPage0 (m : Nat) : (rawPage0 m).length = 18444 := by
  unfold rawPage0 zeros
  rw [List.length_append, List.length_replicate]
  simp only [List.length_cons, List.length_nil]

/-- A state in SERVICE with an admin command that brings a packet. -/
def rawSide : State := ({ adm0 0xC1 0 18464 65555 with md := (side .service).md }).set FSQ_DIE_STATE 1 2 1

theorem rawPage0_runs : PacketRuns (apkt 0x0F01 (rawPage0 2)) 0x0F01 rawSide := by
  have h : field (head16 0x0F01 (rawPage0 2).length) 6 2 = (rawPage0 2).length := by rw [length_rawPage0]; decide +kernel
  refine pkt_runs rawSide opRawProgram 0x0F01 (rawPage0 2) 0 5 (by rfl) (pkt_format _ _ _ _ _ (.inl (by decide)) ?_ (by rfl)) (pkt_op _ _ _ _ _ _ (by decide) ?_ (by decide +kernel) rfl ?_ ?_) ?_ (by decide +kernel)
  · refine ⟨h, ?_⟩; rw [length_rawPage0]; decide +kernel
  · refine ⟨h, ?_⟩; rw [length_rawPage0]; decide +kernel
  · rw [rawProgram_ok, length_rawPage0]; decide +kernel
  · exact Nat.zero_le _
  · rw [length_rawPage0]; decide +kernel

/-- One piece of an image. -/
def piece0 : List Nat := le 4 0 ++ zeros 4096

theorem length_piece0 : piece0.length = 4100 := by
  unfold piece0 zeros
  rw [List.length_append, List.length_replicate, length_le]

theorem piece0_runs (s : State) (ha : s.admits 1 0x0900 = .yes) (hs : s.hears 1 = true ∧ s.mg.running = [] ∧ s.mg.waiting = [] ∧ s.md.mode ≠ .rest ∧ s.md.restStep = none) :
    PacketRuns (pkt 0x0900 piece0) 0x0900 s := by
  have h : field (head16 0x0900 piece0.length) 6 2 = piece0.length := by rw [length_piece0]; decide +kernel
  refine pkt_runs s opDownloadFirmware 0x0900 piece0 1 0 (by rfl) (pkt_format _ _ _ _ _ (.inr (by rw [length_piece0]; decide)) ?_ ?_) (pkt_op _ _ _ _ _ _ (by decide) ?_ ha rfl ?_ ?_) ?_ ⟨.inl rfl, hs⟩
  · refine ⟨h, ?_⟩; rw [length_piece0]; decide +kernel
  · unfold State.tagInUse; rw [hs.2.1, hs.2.2.1]; rfl
  · refine ⟨h, ?_⟩; rw [length_piece0]; decide +kernel
  · rw [download_ok, length_piece0]; decide +kernel
  · exact Nat.zero_le _
  · rw [length_piece0]; decide +kernel

theorem piece0_params : pkParams (pkt 0x0900 piece0).bytes = piece0 := by
  refine pkt_params _ _ ?_
  rw [length_piece0]; decide +kernel

theorem rawPage0_params : pkParams (apkt 0x0F01 (rawPage0 2)).bytes = rawPage0 2 := by
  refine pkt_params _ _ ?_
  rw [length_rawPage0]; decide +kernel

end Sys2Proof.Tests
end

