-- ==== Sys2Proof/Tests/Slice0.lean ====
section
/-!
SUPPORT. Tests: an ill-formed command for each kind of check of `WellFormed`, and results that the manual's worked examples and tables
give.
-/

namespace Sys2Proof.Tests

open Sys2Proof.Machine

-- ill-formed commands, which the checks refuse

theorem test_wf_port : ¬Instr.wf (.linkDown 2) := by unfold Instr.wf; decide
theorem test_wf_write_size : ¬Instr.wf (.registerWrite 0 .window 5 0 0) := by unfold Instr.wf; decide
theorem test_wf_write_value : ¬Instr.wf (.registerWrite 0 .window 4 0 (2 ^ 32)) := by unfold Instr.wf; decide
theorem test_wf_queue : ¬Instr.wf (.sqTailDoorbell 0 65536 0 none) := by unfold Instr.wf; decide
theorem test_wf_pasid : ¬Instr.wf (.sqTailDoorbell 0 1 0 (some (2 ^ 20))) := by unfold Instr.wf; decide
theorem test_wf_entry : ¬Instr.wf (.commandFetch 0 { opc := 256, cid := 0, nsid := 0, dw10 := 0, dw11 := 0, dw12 := 0, dw13 := 0, dw14 := 0, dw15 := 0 }) := by
  unfold Instr.wf; decide
theorem test_wf_nsdata : ¬Instr.wf (.nsCreate 5 { nsze := 2 ^ 64, ncap := 0, flbas := 0, csi := 0 }) := by unfold Instr.wf; decide
theorem test_wf_bytes : ¬Instr.wf (.firmwareImageDownload 5 [256]) := by unfold Instr.wf; decide
theorem test_wf_fetched : ¬Instr.wf (.mgmtPacketCarrier 5 (some [256]) true) := by unfold Instr.wf; decide
theorem test_wf_controllers : ¬Instr.wf (.namespaceAttachment 5 [65536]) := by unfold Instr.wf; decide
theorem test_wf_ranges : ¬Instr.wf (.datasetManagement 5 [(0, 2 ^ 32)]) := by unfold Instr.wf; decide
theorem test_wf_slice : ¬Instr.wf (.sliceResetComplete 256) := by unfold Instr.wf; decide
theorem test_wf_accumulator : ¬Instr.wf (.accumulatorIdleSpill 3072) := by unfold Instr.wf; decide
theorem test_wf_pool : ¬Instr.wf (.bufferRelease 2 0 0) := by unfold Instr.wf; decide
theorem test_wf_list : ¬Instr.wf (.freeListRebuildEnd 5) := by unfold Instr.wf; decide
theorem test_wf_channel : ¬Instr.wf (.dieOperationStart 64 0) := by unfold Instr.wf; decide
theorem test_wf_die : ¬Instr.wf (.dieOperationStart 0 32) := by unfold Instr.wf; decide
theorem test_wf_burst : ¬Instr.wf (.burstReceived 0 [256]) := by unfold Instr.wf; decide
theorem test_wf_instance : ¬Instr.wf (.hardReadComplete 64 0 0) := by unfold Instr.wf; decide
theorem test_wf_outcome : ¬Instr.wf (.dumpProgramComplete 0 0 3) := by unfold Instr.wf; decide
theorem test_wf_pack : ¬Instr.wf (.packInsert { ident := [], lifeA := [], lifeB := [], history := [], volts := 0 }) := by unfold Instr.wf; decide
theorem test_wf_rail : ¬Instr.wf (.railPowerGood 12) := by unfold Instr.wf; decide
theorem test_wf_env : ¬Instr.wf (.railSettleDone 1 { env0 with dies := [1] }) := by unfold Instr.wf; decide
theorem test_wf_sensor : ¬Instr.wf (.thermalTrip 12) := by unfold Instr.wf; decide
theorem test_wf_groups : ¬Instr.wf (.padRelease 8) := by unfold Instr.wf; decide
theorem test_wf_rails_sampled : ¬Instr.wf (.watchInputSample [1]) := by unfold Instr.wf; decide
theorem test_wf_dram_channel : ¬Instr.wf (.dramAlert 4) := by unfold Instr.wf; decide
theorem test_wf_dram_class : ¬Instr.wf (.dramRequest 0 { dreq0 true with cls := 5 }) := by unfold Instr.wf; decide
theorem test_wf_dram_error : ¬Instr.wf (.dramReadComplete 0 ⟨0, 81⟩) := by unfold Instr.wf; decide
theorem test_wf_macro : ¬Instr.wf (.sramCorrectedWord 352 0 false []) := by unfold Instr.wf; decide
theorem test_wf_causeway_port : ¬Instr.wf (.ackTimer 4) := by unfold Instr.wf; decide
theorem test_wf_vc : ¬Instr.wf (.creditReceived 0 3 1) := by unfold Instr.wf; decide
theorem test_wf_hello : ¬Instr.wf (.helloReceived 0 ⟨2 ^ 64, 0, 0, 0, 0⟩) := by unfold Instr.wf; decide
theorem test_wf_lsa : ¬Instr.wf (.lsaReceived 0 ⟨2 ^ 32, 0, 0, 0, []⟩) := by unfold Instr.wf; decide
theorem test_wf_frame : ¬Instr.wf (.reqReceived 0 { frame0 0x10 3 1 [] with dst := 4096 }) := by unfold Instr.wf; decide
theorem test_wf_binding : ¬Instr.wf (.jnrBindWrite 64 0 0) := by unfold Instr.wf; decide
theorem test_wf_master : ¬Instr.wf (.errorReport 0 256 0 0 0) := by unfold Instr.wf; decide
theorem test_wf_line : ¬Instr.wf (.milestoneLineWrite 0 4 true) := by unfold Instr.wf; decide
theorem test_wf_round : ¬Instr.wf (.housekeepingRound ⟨[], [], [], 0⟩) := by unfold Instr.wf; decide
theorem test_wf_core : ¬Instr.wf (.coreHalt 18 0) := by unfold Instr.wf; decide
theorem test_wf_ticket : ¬Instr.wf (.ticketExpiry 0) := by unfold Instr.wf; decide
theorem test_wf_header : ¬Instr.wf (.firmwareCommit 5 ⟨0x6400, true, 1, 256, 0⟩) := by unfold Instr.wf; decide
theorem test_wf_packet : ¬Instr.wf (.getIdentity { pkt 0x0100 [] with carrier := 3 }) := by unfold Instr.wf; decide +kernel

-- worked examples and tables of the manual

/-- The worked example under R92: offset 500,000 of a QLC 15+1 zone with FN 40,721 lies in row 520, plane 0, upper page, codeword 0, slot 13. -/
theorem test_place : placeOf false .qlc 40721 500000 = { row := 520, i := 12, q := 32, slot := 13, plane := 0, page := 2, cw := 0 } := by decide

/-- The parity slot of that stripe. -/
theorem test_parity_slot : paritySlot false 40721 0 = 1 := by decide

/-- The worked example under R131: 20.0, 12.0 and 4.0 J with 496 dies, a power word of 0xAF (43.75 W) and 30 ms give 183, 98 and 14 units of 64 MiB. -/
theorem test_energy_limit : (energyLimit 640 496 175 30, energyLimit 384 496 175 30, energyLimit 128 496 175 30) = (183, 98, 14) := by decide

/-- The worked example under R52: dword 0 reads 0x0003_30E7. -/
theorem test_margin :
    State.marginDw0 { host0 with port0 := { readyPort with feat := { readyPort.feat with marginEn := true, marginThresh := 200 } } }
      { ioCtx0 2 0 16 0 with maxCbits := 231, step := 1, warnCw := 3 } = 0x000330E7 := by decide

/-- The worked example under R399: the words of a log record of source 182. -/
theorem test_log_record :
    (List.range 8).map (fun k => field (recBytes ⟨182, 3, 12345, 210, 1234567, 0, 0, 0, 0, 0, 0xA5⟩) (4 * k) 4)
      = [0x000300B6, 0x3039, 0xD2, 0x12D687, 0, 0, 0, 0xA5000000] := by decide

/-- The worked example under R331: row 0x9159, subchannel 1, bank 0, bank group 5 of channel address 0x2_4567_89C0. -/
theorem test_dram_row : dramRow 1 0x2456789C0 = 0x9159 + 2 ^ 25 + 0 * 2 ^ 26 + 5 * 2 ^ 28 := by decide

/-- The worked example under R191: a corrupted preamble one bit away from the mark is a false mark, and the true mark is found at position 8. -/
theorem test_false_mark :
    searchPrimary 2 { kind := 1, res := 4, plane := 0, burst := 3, wl := 5, dual := false, seq := 2, vol := 0, block := 9 }
      ([0x55, 0x55, 0x55, 0xF3, 0x8E, 0x2B, 0x4D, 0x55] ++ primaryMark
        ++ headerBytes { kind := 1, res := 4, plane := 0, burst := 3, wl := 5, dual := false, seq := 2, vol := 0, block := 9 }) 17 0 0 = (some 8, 1) := by
  decide +kernel

/-- The worked example under R73: after generation 0xFFFF comes 0x0001. -/
theorem test_generation_wraps : nextGen 0xFFFF = 1 := by decide

/-- The worked example under R236: three footers of LBA 0x3_0000 of namespace 2, against a Pending entry copied at Sseg 5,000,100. -/
theorem test_replay :
    (let s : State := { run0 with ns := [(2, { zoned := false, nsze := 262144, attach0 := true, attach1 := false, writeProtect := false, deleting := none })],
                                  xl := { MapState.reset with map := [(2, [(0x30000, .pending 5000050)])], granules := [(2, [0])], run := none } }
     let segs : NMap SegCopy := [(3, { sseg := 5000100, words := [], unit := 0 })]
     let f (tag slot seq : Nat) (s : State) : State := s.replayEntry segs tag { slot := slot, nsid := 2, lba := 0x30000, seq := seq, reloc := none }
     let s1 := f 0x0A7 11 5000020 s
     let s2 := f 0x1A2 12345 5000050 s1
     let s3 := f 0x1B0 7 5000300 s2
     (s1.mapGet 2 0x30000, s2.mapGet 2 0x30000, s3.mapGet 2 0x30000)) =
      (some (.pending 5000050), some (.flash 0x1A2 12345), some (.flash 0x1B0 7)) := by decide +kernel
/-- The packet of the worked example under R446. -/
def scrubPacket : Packet :=
  let b := withHcrc [0x01, 0x04, 0x00, 0x06, 0x2A, 0x00, 0x10, 0x00, 0, 0, 0, 0] ++ [0x07, 0x02, 0, 0, 0, 0, 0, 0, 0, 0, 0, 0, 0, 0, 0x04, 0]
  { carrier := 1, origin := 0, bytes := b ++ le 4 (crc32 b), replyMax := 0 }

/-- A range scrub of DRAM channel 2 runs, and ticket 5 is the next. -/
def scrubbing : State :=
  dramOn 2 { DChan.fresh with scrub := some { start := 0, len := 1, since := 0, ticket := none } } { side .run with mg := { MgmtState.reset with nextTicket := 5 } }

/-- The worked example under R446: 36 bytes; the reply carries TAG 0x002A, Queued, TICKET 5, STATE 1 and queue position 1. -/
theorem test_scrub_packet :
    scrubPacket.bytes.length = 36 ∧ (match execRequestSelfTest scrubPacket scrubbing with | .next t => t.out | _ => []) = [.reply 1 0 0x2A 0x0600 1 [5, 0, 1, 1]] := by
  decide +kernel

/-- The check value of the CRC-32 of R430 over the bytes of "123456789". -/
theorem test_crc32 : crc32 [0x31, 0x32, 0x33, 0x34, 0x35, 0x36, 0x37, 0x38, 0x39] = 0xCBF43926 := by decide +kernel

/-- The step of a queue of two commands runs the first and leaves the second. -/
theorem test_step_queue :
    (match Sys2Proof.Machine.step { run0 with pending := [.uptimeLoRead 0 4 0, .ckptNumLoRead 0 4 0] } with | .next t => t.pending | _ => []) = [.ckptNumLoRead 0 4 0] := by
  decide +kernel

/-- A power-on reset raises no event and leaves the queue as it was (R290). -/
theorem test_reset_queue :
    (match Sys2Proof.Machine.step { State.reset with pending := [.uptimeLoRead 0 4 0] } with | .next t => (t.pending, t.out) | _ => ([], [])) = ([], []) := by
  decide +kernel

end Sys2Proof.Tests
end

