-- ==== Sys2Proof/Tests/Witnesses.lean ====
section
/-!
SUPPORT. Witnesses: for each statement that has hypotheses, operands and a state that meet all of them together, row by row.
-/

namespace Sys2Proof.Tests

open Sys2Proof.Machine

set_option Elab.async false

/-- The rows of `ControlWindowReadsAndWrites` can be met. -/
theorem witness_ControlWindowReadsAndWrites :
  (∃ (port size off : Nat) (s : State), Bound s ∧ (((size = 1 ∨ size = 2 ∨ size = 4) ∧ off < 4 ∧ off % size = 0)) ∧ (s.powered = true ∧ port = s.privPort)) ∧
  (∃ (port size off : Nat) (s : State), Bound s ∧ (1 ≤ size ∧ size ≤ 4 ∧ off < 4 ∧ (size = 3 ∨ off % size ≠ 0)) ∧ (s.powered = true ∧ port = s.privPort)) ∧
  (∃ (port size off : Nat) (s : State), Bound s ∧ (((size = 1 ∨ size = 2 ∨ size = 4) ∧ off < 4 ∧ off % size = 0)) ∧ (s.powered = true ∧ port = s.privPort)) ∧
  (∃ (port size off : Nat) (s : State), Bound s ∧ (((size = 1 ∨ size = 2 ∨ size = 4) ∧ off < 4 ∧ off % size = 0)) ∧ (s.powered = true ∧ port = s.privPort)) ∧
  (∃ (port size off : Nat) (s : State), Bound s ∧ (((size = 1 ∨ size = 2 ∨ size = 4) ∧ off < 4 ∧ off % size = 0)) ∧ (s.powered = true ∧ port = s.privPort)) ∧
  (∃ (port size off : Nat) (c : CfgCopy) (s : State), Bound s ∧ (((size = 1 ∨ size = 2 ∨ size = 4) ∧ off < 4 ∧ off % size = 0) ∧ s.cfgInUse = some c) ∧ (s.powered = true ∧ port = s.privPort)) ∧
  (∃ (port size addr _value : Nat) (s : State), Bound s ∧ (s.reaches port .window = false ∨ size ≠ 4 ∨ addr % 4 ≠ 0 ∨ (fieldsAt addr = [] ∧ rFSQ_DQDLY.locate addr = none))) ∧
  (∃ (port value : Nat) (s : State), Bound s ∧ (s.reaches port .window = true ∧ value < 2 ^ 9)) ∧
  (∃ (port value : Nat) (s : State), Bound s ∧ (s.reaches port .window = true ∧ 2 ^ 9 ≤ value ∧ value < 2 ^ 32)) ∧
  (∃ (port value : Nat) (s : State), Bound s ∧ (s.reaches port .bar0 = true ∧ value < 2 ^ 32)) ∧
  (∃ (f : Field) (port i j value : Nat) (s : State), Bound s ∧ (s.reaches port .window = true ∧ PlainField f i j ∧ value < 2 ^ 32)) :=
  ⟨⟨0, 4, 0, { run0 with now := 2 ^ 33 + 5 }, by decide +kernel⟩,
   ⟨0, 2, 1, { run0 with now := 2 ^ 33 + 5 }, by decide +kernel⟩,
   ⟨0, 4, 0, { run0 with lateTotal := 2 ^ 33 + 5 }, by decide +kernel⟩,
   ⟨0, 4, 0, run0, by decide +kernel⟩,
   ⟨0, 4, 0, run0.set FCL_FIRST_TS_LO 77, by decide +kernel⟩,
   ⟨0, 4, 0, (cfg1 9), { run0 with fw := { run0.fw with cfgA := some (cfg1 9) } }.set FWC_CFGREC_SRC 1, by decide +kernel⟩,
   ⟨0, 2, 0x38, 1, run0, by decide +kernel⟩,
   ⟨0, 0x155, run0, by decide +kernel⟩,
   ⟨0, 0x80000155, run0, by decide +kernel⟩,
   ⟨0, 0x1F001F, host0, by decide +kernel⟩,
   ⟨MGI_CFG_SMB_ADDR, 0, 0, 0, 0x155, run0, by decide +kernel⟩⟩

/-- The rows of `HostLinkAndControllerEvents` can be met. -/
theorem witness_HostLinkAndControllerEvents :
  (∃ (port rate width : Nat) (flit : Bool) (s : State), Bound s ∧ (s.isPort port = true ∧ s.linkMode = true ∧ (s.port port).perst = false ∧ s.pw.phyFailed = false ∧ s.flag QEN_LINK_UP port = false ∧ s.linkFits rate width flit = true)) ∧
  (∃ (port : Nat) (s : State), Bound s ∧ (Still s) ∧ (s.isPort port = true ∧ s.powered = true ∧ s.flag QEN_LINK_UP port = true)) ∧
  (∃ (port : Nat) (s : State), Bound s ∧ (Still s) ∧ (s.isPort port = true ∧ s.powered = true ∧ s.flag QEN_LINK_UP port = true)) ∧
  (∃ (port : Nat) (s : State), Bound s ∧ (Still s ∧ s.powered = true ∧ s.isPort port = true ∧ s.mode ≠ .rest) ∧ (port < 2 ∧ (s.port port).perst = false)) ∧
  (∃ (port : Nat) (s : State), Bound s ∧ (s.powered = true ∧ s.isPort port = true ∧ s.mode = .rest) ∧ (port < 2 ∧ (s.port port).perst = false)) ∧
  (∃ (port : Nat) (s : State), Bound s ∧ (s.coreOn = false ∧ s.pw.seq = .idle ∧ s.pw.ao = true ∧ s.md.restStep = none) ∧ (port < 2 ∧ (s.port port).perst = true)) ∧
  (∃ (port : Nat) (s : State), Bound s ∧ (s.coreOn = true ∧ s.mode ≠ .rest ∧ s.md.restStep = none) ∧ (port < 2 ∧ (s.port port).perst = true)) ∧
  (∃ (port _iosqes _iocqes _ams _asqs _acqs : Nat) (s : State), Bound s ∧ (s.isPort port = true ∧ s.powered = true ∧ s.flag QEN_LINK_UP port = true ∧ (s.port port).ccEn = false)) ∧
  (∃ (port : Nat) (s : State), Bound s ∧ (Still s) ∧ (s.isPort port = true ∧ s.powered = true ∧ (s.port port).ccEn = true)) ∧
  (∃ (port severity : Nat) (_header : List Nat) (s : State), Bound s ∧ (s.isPort port = true ∧ s.powered = true ∧ s.flag QEN_LINK_UP port = true ∧ severity ≤ 2)) ∧
  (∃ (port : Nat) (s : State), Bound s ∧ (s.isPort port = true ∧ s.powered = true ∧ (s.port port).cfg.pasidEnable = true)) ∧
  (∃ s : State, Bound s ∧ (s.powered = true)) ∧
  (∃ s : State, Bound s ∧ (s.powered = true)) :=
  ⟨⟨0, 1, 4, true, { run0 with port0 := Port.reset 0 false }, by decide +kernel⟩,
   ⟨0, host0, by decide +kernel⟩,
   ⟨0, { host0 with port0 := { readyPort with cfg := { readyPort.cfg with pasidEnable := true } } }, by decide +kernel⟩,
   ⟨0, host0, by decide +kernel⟩,
   ⟨0, { inMode .rest with port0 := Port.reset 0 false }, by decide +kernel⟩,
   ⟨0, inMode .off, by decide +kernel⟩,
   ⟨0, run0, by decide +kernel⟩,
   ⟨0, 6, 4, 0, 31, 31, ({ run0 with port0 := Port.reset 0 false }).set QEN_LINK_UP 1, by decide +kernel⟩,
   ⟨0, host0, by decide +kernel⟩,
   ⟨0, 2, [1, 2, 3, 4], host0, by decide +kernel⟩,
   ⟨0, { host0 with port0 := { readyPort with cfg := { readyPort.cfg with pasidEnable := true } }, sqs := [(1, { Sq.empty 0 1 8 with pasid := some 5 })], cqs := [(1, { Cq.empty 0 1 8 with pasid := some 5 })] }, by decide +kernel⟩,
   ⟨(({ host0 with ev := { host0.ev with fired := [(112, 0)] } }).set QEN_DB_DROP 3).set QEN_UNBOUND_DROP 9, by decide +kernel⟩,
   ⟨host0.set QEN_CTX_PEAK 9, by decide +kernel⟩⟩

/-- The rows of `HostShutdown` can be met. -/
theorem witness_HostShutdown :
  (∃ (port : Nat) (s : State), Bound s ∧ (s.wc.pairs = []) ∧ (s.isPort port = true ∧ s.inModes [.boot, .run, .hold, .ret, .service] = true ∧ (s.port port).ccEn = true ∧ (s.port port).shst = 0)) ∧
  (∃ (port : Nat) (s : State), Bound s ∧ (s.isPort port = true ∧ s.powered = true ∧ (s.port port).ccEn = true ∧ (s.port port).shst = 0)) ∧
  (∃ (port : Nat) (s : State), Bound s ∧ (s.isPort port = true ∧ s.powered = true ∧ (match (s.port port).shut with | .normal u => decide (u + 1000000000 ≤ s.now) | _ => false) = true)) ∧
  (∃ (port : Nat) (s : State), Bound s ∧ (s.isPort port = true ∧ s.powered = true ∧ s.busyOn port = false ∧ ((s.port port).shut = .abrupt ∨ ((s.port port).shut ≠ .none ∧ s.dirtyAll = 0 ∧ s.xl.recs = [])))) :=
  ⟨⟨0, host0, by decide +kernel⟩,
   ⟨0, host0, by decide +kernel⟩,
   ⟨0, { host0 with now := 2000000000, port0 := { readyPort with shst := 1, shut := .normal 3 }, wc := { host0.wc with flushBy := [0] } }, by decide +kernel⟩,
   ⟨0, { host0 with port0 := { readyPort with shst := 1, shut := .normal 3 }, wc := { host0.wc with flushBy := [0] } }, by decide +kernel⟩⟩

/-- The rows of `DoorbellsFetchAndCompletion` can be met. -/
theorem witness_DoorbellsFetchAndCompletion :
  (∃ (port qid _value : Nat) (_pasid : Option Nat) (s : State), Bound s ∧ (1 ≤ qid ∧ qid ≤ s.maxQ ∧ port < 2) ∧ (s.isPort port = true ∧ s.hostOpen port = true)) ∧
  (∃ (port _value : Nat) (s : State), Bound s ∧ (port < 2) ∧ (s.isPort port = true ∧ s.hostOpen port = true)) ∧
  (∃ (port qid _value : Nat) (_pasid : Option Nat) (s : State), Bound s ∧ (1 ≤ qid ∧ qid ≤ s.maxQ ∧ port < 2) ∧ (s.isPort port = true ∧ s.hostOpen port = true)) ∧
  (∃ (port : Nat) (entry : SqEntry) (s : State), Bound s ∧ (s.adminReady port = true ∧ adminOpc entry.opc = true ∧ (privOpc entry.opc = true → port = s.privPort)) ∧ (s.isPort port = true ∧ s.fetchOpen port = true)) ∧
  (∃ (port : Nat) (entry : SqEntry) (slot : Nat) (q : Sq) (n : Nat) (s : State), Bound s ∧ (s.adminReady port = false ∧ (s.fetchTurn port).map (fun e => e.1) = some slot ∧ s.sqs.look slot = some q ∧ q.port = port ∧ port < 2 ∧ s.sliceOf port q.pasid = some n ∧ ioOpc entry.opc = true ∧ s.oversize n entry = false) ∧ (s.isPort port = true ∧ s.fetchOpen port = true)) ∧
  (∃ (port : Nat) (c : Ctx) (s : State), Bound s ∧ (s.ctxs = [c] ∧ s.doneQ = [c.id] ∧ c.port = port ∧ c.cqSlot = 0 ∧ c.slot = 0 ∧ c.remote = none ∧ c.stage = .done ∧ (s.port port).acq.full = false ∧ c.deadline = none ∧ s.ns = []) ∧ (s.isPort port = true ∧ s.hostOpen port = true)) ∧
  (∃ (port qid : Nat) (s : State), Bound s ∧ (qid = 0 ∧ s.get QEN_CQ_STALL_CNT + 1 < 2 ^ QEN_CQ_STALL_CNT.width) ∧ (s.isPort port = true ∧ s.powered = true ∧ s.cqStalled port 0 = true ∧ (s.port port).acq.stalled = false ∧ s.past (s.port port).acq.fullSince 1000000 = true)) ∧
  (∃ (port qid : Nat) (q : Cq) (s : State), Bound s ∧ (0 < qid ∧ s.cqs.look (slotOf port qid) = some q ∧ s.get QEN_CQ_STALL_CNT + 1 < 2 ^ QEN_CQ_STALL_CNT.width) ∧ (s.isPort port = true ∧ s.powered = true ∧ qid ≤ s.maxQ ∧ s.cqStalled port (slotOf port qid) = true ∧ q.stalled = false ∧ s.past q.fullSince 1000000 = true)) :=
  ⟨⟨0, 1, 3, none, { host0 with sqs := [(1, { Sq.empty 0 1 8 with cqSlot := 1 })], cqs := [(1, Cq.empty 0 1 8)] }, by decide +kernel⟩,
   ⟨0, 5, host0, by decide +kernel⟩,
   ⟨0, 1, 3, none, { host0 with sqs := [(1, { Sq.empty 0 1 8 with cqSlot := 1 })], cqs := [(1, { Cq.empty 0 1 8 with tail := 4 })] }, by decide +kernel⟩,
   ⟨0, { opc := 6, cid := 1, nsid := 0, dw10 := 1, dw11 := 0, dw12 := 0, dw13 := 0, dw14 := 0, dw15 := 0 }, { host0 with port0 := { readyPort with asq := { readyPort.asq with tail := 1 } } }, by decide +kernel⟩,
   ⟨0, { opc := 2, cid := 1, nsid := 1, dw10 := 1, dw11 := 0, dw12 := 0, dw13 := 0, dw14 := 0, dw15 := 0 }, 1, { Sq.empty 0 1 8 with tail := 1, cqSlot := 1 }, 0, ({ host0 with sqs := [(1, { Sq.empty 0 1 8 with tail := 1, cqSlot := 1 })], cqs := [(1, Cq.empty 0 1 8)] }).set SLM_BUDGET 8 0 2, by decide +kernel⟩,
   ⟨0, { ctx0 0 6 0 1 0 0 with stage := .done }, { host0 with ctxs := [{ ctx0 0 6 0 1 0 0 with stage := .done }], doneQ := [5], nextCtx := 6 }, by decide +kernel⟩,
   ⟨0, 0, { host0 with now := 1000000, port0 := { readyPort with acq := { readyPort.acq with tail := 15, fullSince := some 0 } }, ctxs := [{ ctx0 0 6 0 1 0 0 with stage := .done }], doneQ := [5], nextCtx := 6 }, by decide +kernel⟩,
   ⟨0, 3, { Cq.empty 0 3 8 with tail := 7, fullSince := some 0 }, { host0 with now := 1000000, cqs := [(slotOf 0 3, { Cq.empty 0 3 8 with tail := 7, fullSince := some 0 })], ctxs := [{ ctx0 1 2 1 0 0 0 with cqSlot := slotOf 0 3, stage := .done }], doneQ := [5], nextCtx := 6 }, by decide +kernel⟩⟩

/-- The rows of `AdminQueueCommands` can be met. -/
theorem witness_AdminQueueCommands :
  (∃ (ctx : Nat) (c : Ctx) (s : State), Bound s ∧ (AdminWaits s ctx 0x05 c ∧ s.newQueue c.port c.e s.cqs.has = none ∧ s.badDword13 c.port c.e = false ∧ s.cqShareFull c.port c.e = false ∧ bits c.e.dw11 31 16 ≤ 2047)) ∧
  (∃ (ctx : Nat) (c : Ctx) (st : NvmeStatus) (s : State), Bound s ∧ (AdminWaits s ctx 0x05 c ∧ s.newQueue c.port c.e s.cqs.has = some st)) ∧
  (∃ (ctx : Nat) (c : Ctx) (s : State), Bound s ∧ (AdminWaits s ctx 0x05 c ∧ s.newQueue c.port c.e s.cqs.has = none ∧ (s.badDword13 c.port c.e = true ∨ s.cqShareFull c.port c.e = true ∨ 2047 < bits c.e.dw11 31 16))) ∧
  (∃ (ctx : Nat) (c : Ctx) (n : Nat) (q : Cq) (s : State), Bound s ∧ (AdminWaits s ctx 0x01 c ∧ s.newQueue c.port c.e s.sqs.has = none ∧ (s.newQueueSlice c.port c.e).toOption = some n ∧ s.sqCount n < s.budget n 0 ∧ bits c.e.dw11 31 16 ≠ 0 ∧ bits c.e.dw11 31 16 ≤ s.maxQ ∧ s.cqs.look (slotOf c.port (bits c.e.dw11 31 16)) = some q ∧ q.pasid = pasidOf c.e)) ∧
  (∃ (ctx : Nat) (c : Ctx) (st : NvmeStatus) (s : State), Bound s ∧ (AdminWaits s ctx 0x01 c ∧ s.newQueue c.port c.e s.sqs.has = some st)) ∧
  (∃ (ctx : Nat) (c : Ctx) (s : State), Bound s ∧ (AdminWaits s ctx 0x01 c ∧ s.newQueue c.port c.e s.sqs.has = none ∧ (s.badDword13 c.port c.e = true ∨ s.sliceOf c.port (pasidOf c.e) = none))) ∧
  (∃ (ctx : Nat) (c : Ctx) (n : Nat) (s : State), Bound s ∧ (AdminWaits s ctx 0x01 c ∧ s.newQueue c.port c.e s.sqs.has = none ∧ (s.newQueueSlice c.port c.e).toOption = some n ∧ (s.budget n 0 ≤ s.sqCount n ∨ bits c.e.dw11 31 16 = 0))) ∧
  (∃ (ctx : Nat) (c : Ctx) (n : Nat) (s : State), Bound s ∧ (AdminWaits s ctx 0x01 c ∧ s.newQueue c.port c.e s.sqs.has = none ∧ (s.newQueueSlice c.port c.e).toOption = some n ∧ s.sqCount n < s.budget n 0 ∧ bits c.e.dw11 31 16 ≠ 0 ∧ (s.maxQ < bits c.e.dw11 31 16 ∨ ((s.cqs.look (slotOf c.port (bits c.e.dw11 31 16))).all fun q => q.pasid != pasidOf c.e) = true))) ∧
  (∃ (ctx : Nat) (c : Ctx) (s : State), Bound s ∧ (AdminWaits s ctx 0x00 c ∧ bits c.e.dw10 15 0 ≠ 0 ∧ bits c.e.dw10 15 0 ≤ s.maxQ ∧ s.sqs.has (slotOf c.port (bits c.e.dw10 15 0)) = true ∧ (s.ctxs.filter fun x => x.port == c.port && x.slot == slotOf c.port (bits c.e.dw10 15 0) && x.stage == .fetched) = [])) ∧
  (∃ (ctx : Nat) (c x : Ctx) (s : State), Bound s ∧ (AdminWaits s ctx 0x00 c ∧ bits c.e.dw10 15 0 ≠ 0 ∧ bits c.e.dw10 15 0 ≤ s.maxQ ∧ s.sqs.has (slotOf c.port (bits c.e.dw10 15 0)) = true ∧ s.ctxs = [x, c] ∧ x.id ≠ c.id ∧ x.port = c.port ∧ x.slot = slotOf c.port (bits c.e.dw10 15 0) ∧ x.stage = .fetched ∧ x.remote = none)) ∧
  (∃ (ctx : Nat) (c : Ctx) (s : State), Bound s ∧ (AdminWaits s ctx 0x00 c ∧ (bits c.e.dw10 15 0 = 0 ∨ s.maxQ < bits c.e.dw10 15 0 ∨ s.sqs.has (slotOf c.port (bits c.e.dw10 15 0)) = false))) ∧
  (∃ (ctx : Nat) (c : Ctx) (s : State), Bound s ∧ (AdminWaits s ctx 0x04 c ∧ bits c.e.dw10 15 0 ≠ 0 ∧ bits c.e.dw10 15 0 ≤ s.maxQ ∧ s.cqs.has (slotOf c.port (bits c.e.dw10 15 0)) = true ∧ (s.sqs.any fun e => e.2.port == c.port && e.2.cqSlot == slotOf c.port (bits c.e.dw10 15 0)) = false ∧ (s.ctxs.filter fun x => x.port == c.port && x.cqSlot == slotOf c.port (bits c.e.dw10 15 0) && x.slot != 0) = [] ∧ s.cd.cws = [] ∧ s.zn.adm = [])) ∧
  (∃ (ctx : Nat) (c : Ctx) (s : State), Bound s ∧ (AdminWaits s ctx 0x04 c ∧ (bits c.e.dw10 15 0 = 0 ∨ s.maxQ < bits c.e.dw10 15 0 ∨ s.cqs.has (slotOf c.port (bits c.e.dw10 15 0)) = false))) ∧
  (∃ (ctx : Nat) (c : Ctx) (s : State), Bound s ∧ (AdminWaits s ctx 0x04 c ∧ bits c.e.dw10 15 0 ≠ 0 ∧ bits c.e.dw10 15 0 ≤ s.maxQ ∧ s.cqs.has (slotOf c.port (bits c.e.dw10 15 0)) = true ∧ (s.sqs.any fun e => e.2.port == c.port && e.2.cqSlot == slotOf c.port (bits c.e.dw10 15 0)) = true)) :=
  ⟨⟨5, (ctx0 0 5 0 (1 + 7 * 65536) 3 0), (adm0 5 0 (1 + 7 * 65536) 3).set SLM_BUDGET 4 0 0, by decide +kernel⟩,
   ⟨5, (ctx0 0 5 0 (7 * 65536) 3 0), .invalidQueueIdentifier, adm0 5 0 (7 * 65536) 3, by decide +kernel⟩,
   ⟨5, (ctx0 0 5 0 (1 + 7 * 65536) (3 + 4000 * 65536) 0), (adm0 5 0 (1 + 7 * 65536) (3 + 4000 * 65536)).set SLM_BUDGET 4 0 0, by decide +kernel⟩,
   ⟨5, (ctx0 0 1 0 (1 + 7 * 65536) 65537 0), 0, (Cq.empty 0 1 8), ({ adm0 1 0 (1 + 7 * 65536) 65537 with cqs := [(1, Cq.empty 0 1 8)] }).set SLM_BUDGET 4 0 0, by decide +kernel⟩,
   ⟨5, (ctx0 0 1 0 (7 * 65536) 65537 0), .invalidQueueIdentifier, adm0 1 0 (7 * 65536) 65537, by decide +kernel⟩,
   ⟨5, { ctx0 0 1 0 (1 + 7 * 65536) 65537 0 with e := { (ctx0 0 1 0 (1 + 7 * 65536) 65537 0).e with dw13 := 2 ^ 31 + 5 } }, { adm0 1 0 (1 + 7 * 65536) 65537 with ctxs := [{ ctx0 0 1 0 (1 + 7 * 65536) 65537 0 with e := { (ctx0 0 1 0 (1 + 7 * 65536) 65537 0).e with dw13 := 2 ^ 31 + 5 } }] }, by decide +kernel⟩,
   ⟨5, (ctx0 0 1 0 (1 + 7 * 65536) 65537 0), 0, (adm0 1 0 (1 + 7 * 65536) 65537).set SLM_BUDGET 0 0 0, by decide +kernel⟩,
   ⟨5, (ctx0 0 1 0 (1 + 7 * 65536) 65537 0), 0, (adm0 1 0 (1 + 7 * 65536) 65537).set SLM_BUDGET 4 0 0, by decide +kernel⟩,
   ⟨5, (ctx0 0 0 0 1 0 0), { adm0 0 0 1 0 with sqs := [(1, { Sq.empty 0 1 8 with cqSlot := 1 })], cqs := [(1, Cq.empty 0 1 8)] }, by decide +kernel⟩,
   ⟨5, (ctx0 0 0 0 1 0 0), { ioCtx0 2 0 1 0 with id := 4 }, { adm0 0 0 1 0 with ctxs := [{ ioCtx0 2 0 1 0 with id := 4 }, ctx0 0 0 0 1 0 0], sqs := [(1, { Sq.empty 0 1 8 with cqSlot := 1 })], cqs := [(1, Cq.empty 0 1 8)] }, by decide +kernel⟩,
   ⟨5, (ctx0 0 0 0 3 0 0), adm0 0 0 3 0, by decide +kernel⟩,
   ⟨5, (ctx0 0 4 0 1 0 0), { adm0 4 0 1 0 with cqs := [(1, Cq.empty 0 1 8)] }, by decide +kernel⟩,
   ⟨5, (ctx0 0 4 0 3 0 0), adm0 4 0 3 0, by decide +kernel⟩,
   ⟨5, (ctx0 0 4 0 1 0 0), { adm0 4 0 1 0 with cqs := [(1, Cq.empty 0 1 8)], sqs := [(1, { Sq.empty 0 1 8 with cqSlot := 1 })] }, by decide +kernel⟩⟩

/-- The rows of `AdminLogsAndIdentify` can be met. -/
theorem witness_AdminLogsAndIdentify :
  (∃ (ctx : Nat) (c : Ctx) (b : List Nat) (s : State), Bound s ∧ (AdminWaits s ctx 0x02 c ∧ (s.logPage c.port (bits c.e.dw10 7 0) c.e.nsid).1.toOption = some b ∧ c.e.dw12 + c.e.dw13 * 2 ^ 32 ≤ b.length ∧ bit c.e.dw10 15 = true)) ∧
  (∃ (ctx : Nat) (c : Ctx) (s : State), Bound s ∧ (AdminWaits s ctx 0x02 c ∧ bits c.e.dw10 7 0 = 0xC0 ∧ c.port = s.privPort ∧ c.e.dw12 = 0 ∧ c.e.dw13 = 0 ∧ bit c.e.dw10 15 = false ∧ s.eventPage.length ≤ 4 * (bits c.e.dw10 31 16 + bits c.e.dw11 15 0 * 65536 + 1) ∧ s.ev.queue.length ≤ 256)) ∧
  (∃ (ctx : Nat) (c : Ctx) (st : NvmeStatus) (s : State), Bound s ∧ (AdminWaits s ctx 0x02 c ∧ ((s.logPage c.port (bits c.e.dw10 7 0) c.e.nsid).1 matches .error _) = true ∧ st = (match (s.logPage c.port (bits c.e.dw10 7 0) c.e.nsid).1 with | .error x => x | .ok _ => .success))) ∧
  (∃ (ctx : Nat) (c : Ctx) (s : State), Bound s ∧ (AdminWaits s ctx 0x02 c ∧ (bits c.e.dw10 7 0 ∉ [0x01, 0x02, 0x03, 0x04, 0x05, 0xBF, 0xC0, 0xC1, 0xC2, 0xC3, 0xC4] ∨ (bits c.e.dw10 7 0 ∈ [0xC0, 0xC1, 0xC3, 0xC4] ∧ c.port ≠ s.privPort)))) ∧
  (∃ (ctx : Nat) (c : Ctx) (b : List Nat) (s : State), Bound s ∧ (AdminWaits s ctx 0x02 c ∧ (s.logPage c.port (bits c.e.dw10 7 0) c.e.nsid).1.toOption = some b ∧ b.length < c.e.dw12 + c.e.dw13 * 2 ^ 32)) ∧
  (∃ (ctx : Nat) (c : Ctx) (b : List Nat) (s : State), Bound s ∧ (AdminWaits s ctx 0x06 c ∧ (s.identify c.port (bits c.e.dw10 7 0) (bits c.e.dw11 31 24) c.e.nsid).1 = .page b)) ∧
  (∃ (ctx : Nat) (c : Ctx) (s : State), Bound s ∧ (AdminWaits s ctx 0x06 c ∧ (bits c.e.dw10 7 0 = 0x02 ∨ bits c.e.dw10 7 0 = 0x13))) ∧
  (∃ (ctx : Nat) (c : Ctx) (st : NvmeStatus) (s : State), Bound s ∧ (AdminWaits s ctx 0x06 c ∧ (s.identify c.port (bits c.e.dw10 7 0) (bits c.e.dw11 31 24) c.e.nsid).1 = .error st)) ∧
  (∃ (ctx : Nat) (c : Ctx) (s : State), Bound s ∧ (AdminWaits s ctx 0x08 c ∧ (s.ctxs.find? fun x => x.port == c.port && x.slot == (if bits c.e.dw10 15 0 = 0 then 0 else slotOf c.port (bits c.e.dw10 15 0)) && x.e.cid == bits c.e.dw10 31 16 && x.id != c.id && x.stage == .fetched) = none)) ∧
  (∃ (ctx : Nat) (c x : Ctx) (s : State), Bound s ∧ (AdminWaits s ctx 0x08 c ∧ (s.ctxs.find? fun x => x.port == c.port && x.slot == (if bits c.e.dw10 15 0 = 0 then 0 else slotOf c.port (bits c.e.dw10 15 0)) && x.e.cid == bits c.e.dw10 31 16 && x.id != c.id && x.stage == .fetched) = some x ∧ s.ctx x.id = some x ∧ x.remote = none)) :=
  ⟨⟨5, (ctx0 0 2 0 (0xC0 + 32768 + 3 * 65536) 0 0), ((adm0 2 0 (0xC0 + 32768 + 3 * 65536) 0).eventPage), adm0 2 0 (0xC0 + 32768 + 3 * 65536) 0, by decide +kernel⟩,
   ⟨5, (ctx0 0 2 0 (0xC0 + 31 * 65536) 0 0), adm0 2 0 (0xC0 + 31 * 65536) 0, by decide +kernel⟩,
   ⟨5, (ctx0 0 2 0 0x55 0 0), .invalidLogPage, adm0 2 0 0x55 0, by decide +kernel⟩,
   ⟨5, (ctx0 0 2 0 0x55 0 0), adm0 2 0 0x55 0, by decide +kernel⟩,
   ⟨5, (ctx0 0 2 0 0xC0 0 4000), ((adm0 2 0 0xC0 0).eventPage), { adm0 2 0 0xC0 0 with ctxs := [ctx0 0 2 0 0xC0 0 4000] }, by decide +kernel⟩,
   ⟨5, (ctx0 0 6 0 0x13 0 0), (ctrlList [0]), adm0 6 0 0x13 0, ⟨rfl, by decide +kernel, rfl⟩⟩,
   ⟨5, (ctx0 0 6 0 0x13 0 0), adm0 6 0 0x13 0, by decide +kernel⟩,
   ⟨5, (ctx0 0 6 0 0x77 0 0), .invalidField, adm0 6 0 0x77 0, by decide +kernel⟩,
   ⟨5, (ctx0 0 8 0 1 0 0), adm0 8 0 1 0, by decide +kernel⟩,
   ⟨5, (ctx0 0 8 0 (9 * 65536) 0 0), { ctx0 0 6 0 1 0 0 with id := 4, e := { (ctx0 0 6 0 1 0 0).e with cid := 9 } }, { adm0 8 0 (9 * 65536) 0 with ctxs := [{ ctx0 0 6 0 1 0 0 with id := 4, e := { (ctx0 0 6 0 1 0 0).e with cid := 9 } }, ctx0 0 8 0 (9 * 65536) 0 0] }, by decide +kernel⟩⟩

/-- The rows of `AdminFeaturesAndEvents` can be met. -/
theorem witness_AdminFeaturesAndEvents :
  (∃ (ctx : Nat) (c : Ctx) (f : Features) (s : State), Bound s ∧ (AdminWaits s ctx 0x09 c ∧ bit c.e.dw10 31 = false ∧ bits c.e.dw10 7 0 ≠ 0x07 ∧ bits c.e.dw10 7 0 ≠ 0x04 ∧ (s.port c.port).feat.setWord (bits c.e.dw10 7 0) c.e.dw11 = some f)) ∧
  (∃ (ctx : Nat) (c : Ctx) (f : Features) (s : State), Bound s ∧ (AdminWaits s ctx 0x09 c ∧ bit c.e.dw10 31 = false ∧ bits c.e.dw10 7 0 = 0x04 ∧ (s.port c.port).feat.setWord 0x04 c.e.dw11 = some f)) ∧
  (∃ (ctx : Nat) (c : Ctx) (s : State), Bound s ∧ (AdminWaits s ctx 0x09 c ∧ (bit c.e.dw10 31 = true ∨ (bits c.e.dw10 7 0 ≠ 0x07 ∧ (s.port c.port).feat.setWord (bits c.e.dw10 7 0) c.e.dw11 = none)))) ∧
  (∃ (ctx : Nat) (c : Ctx) (s : State), Bound s ∧ (AdminWaits s ctx 0x09 c ∧ bit c.e.dw10 31 = false ∧ bits c.e.dw10 7 0 = 0x07 ∧ s.slotsOf c.port = [] ∧ bits c.e.dw11 15 0 ≠ 0xFFFF ∧ bits c.e.dw11 31 16 ≠ 0xFFFF)) ∧
  (∃ (ctx : Nat) (c : Ctx) (s : State), Bound s ∧ (AdminWaits s ctx 0x09 c ∧ bit c.e.dw10 31 = false ∧ bits c.e.dw10 7 0 = 0x07 ∧ (s.slotsOf c.port ≠ [] ∨ bits c.e.dw11 15 0 = 0xFFFF ∨ bits c.e.dw11 31 16 = 0xFFFF))) ∧
  (∃ (ctx : Nat) (c : Ctx) (v : Nat) (s : State), Bound s ∧ (AdminWaits s ctx 0x0A c ∧ bits c.e.dw10 10 8 ≤ 3 ∧ ((if bits c.e.dw10 10 8 = 0 then (s.port c.port).feat else Features.reset).word s.maxQ (bits c.e.dw10 7 0) c.e.dw11) = some v)) ∧
  (∃ (ctx : Nat) (c : Ctx) (s : State), Bound s ∧ (AdminWaits s ctx 0x0A c ∧ (3 < bits c.e.dw10 10 8 ∨ ((if bits c.e.dw10 10 8 = 0 then (s.port c.port).feat else Features.reset).word s.maxQ (bits c.e.dw10 7 0) c.e.dw11) = none))) ∧
  (∃ (ctx : Nat) (c : Ctx) (s : State), Bound s ∧ (AdminWaits s ctx 0x0C c ∧ (s.port c.port).aens = [] ∧ (s.port c.port).aers.length < 16)) ∧
  (∃ (ctx : Nat) (c : Ctx) (a : Aen) (l : List Aen) (s : State), Bound s ∧ (AdminWaits s ctx 0x0C c ∧ (s.port c.port).aens = a :: l)) ∧
  (∃ (ctx : Nat) (c : Ctx) (s : State), Bound s ∧ (AdminWaits s ctx 0x0C c ∧ (s.port c.port).aens = [] ∧ 16 ≤ (s.port c.port).aers.length)) ∧
  (∃ (ctx : Nat) (data : NsData) (c : Ctx) (k : Nat) (s : State), Bound s ∧ (AdminWaits s ctx 0x0D c ∧ bits c.e.dw10 3 0 = 0 ∧ s.mode ≠ .hold ∧ s.nsRefusal data = none ∧ s.freeNsid = some k)) ∧
  (∃ (ctx : Nat) (data : NsData) (c : Ctx) (st : NvmeStatus) (s : State), Bound s ∧ (AdminWaits s ctx 0x0D c ∧ bits c.e.dw10 3 0 = 0 ∧ s.mode ≠ .hold ∧ (s.nsRefusal data = some st ∨ (s.nsRefusal data = none ∧ s.freeNsid = none ∧ st = .nsIdUnavailable)))) ∧
  (∃ (ctx : Nat) (_data : NsData) (c : Ctx) (s : State), Bound s ∧ (AdminWaits s ctx 0x0D c ∧ bits c.e.dw10 3 0 ≠ 1 ∧ (s.mode = .hold ∨ bits c.e.dw10 3 0 ≠ 0))) ∧
  (∃ (ctx : Nat) (c : Ctx) (n : Namespace) (s : State), Bound s ∧ (AdminWaits s ctx 0x0D c ∧ bits c.e.dw10 3 0 = 1 ∧ s.mode ≠ .hold ∧ s.ctxs = [c] ∧ c.slot = 0 ∧ s.ns = [(c.e.nsid, n)] ∧ c.e.nsid ≠ 0xFFFFFFFF ∧ n.deleting = none ∧ n.zoned = true ∧ Quiet s ∧ s.zn.zones = [])) ∧
  (∃ (ctx : Nat) (c : Ctx) (s : State), Bound s ∧ (AdminWaits s ctx 0x0D c ∧ bits c.e.dw10 3 0 = 1 ∧ (s.mode = .hold ∨ (s.ns.any fun e => (c.e.nsid == 0xFFFFFFFF || e.1 == c.e.nsid) && e.2.deleting.isNone) = false))) ∧
  (∃ (ctx : Nat) (l : List Nat) (c : Ctx) (n : Namespace) (s : State), Bound s ∧ (AdminWaits s ctx 0x15 c ∧ bits c.e.dw10 3 0 ≤ 1 ∧ s.mode ≠ .hold ∧ s.nspace c.e.nsid = some n ∧ n.deleting = none ∧ l ≠ [] ∧ (∀ p ∈ l, p ∈ s.portList ∧ (n.attached p ↔ bits c.e.dw10 3 0 = 1)))) ∧
  (∃ (ctx : Nat) (c : Ctx) (s : State), Bound s ∧ (AdminWaits s ctx 0x19 c ∧ s.reachable c.port c.e.nsid = true ∧ bits c.e.dw11 15 8 = 0 ∧ bits c.e.dw11 7 0 = 1 ∧ bits c.e.dw12 15 8 = 1)) ∧
  (∃ (ctx : Nat) (c : Ctx) (s : State), Bound s ∧ (AdminWaits s ctx 0x19 c ∧ s.reachable c.port c.e.nsid = true ∧ bits c.e.dw11 15 8 = 1 ∧ (bits c.e.dw11 7 0 = 1 ∨ bits c.e.dw11 7 0 = 2) ∧ c.e.nsid ∈ (s.port c.port).streamsEn)) ∧
  (∃ (ctx : Nat) (c : Ctx) (s : State), Bound s ∧ (AdminWaits s ctx 0x19 c ∧ (s.reachable c.port c.e.nsid = false ∨ 1 < bits c.e.dw11 15 8))) ∧
  (∃ (ctx : Nat) (c : Ctx) (s : State), Bound s ∧ (AdminWaits s ctx 0x1A c ∧ s.reachable c.port c.e.nsid = true ∧ bits c.e.dw11 15 8 = 1 ∧ bits c.e.dw11 7 0 = 3 ∧ c.e.nsid ∈ (s.port c.port).streamsEn)) ∧
  (∃ (ctx : Nat) (c : Ctx) (s : State), Bound s ∧ (AdminWaits s ctx 0x1A c ∧ s.reachable c.port c.e.nsid = true ∧ bits c.e.dw11 15 8 = 1 ∧ bits c.e.dw11 7 0 = 2 ∧ c.e.nsid ∈ (s.port c.port).streamsEn)) :=
  ⟨⟨5, (ctx0 0 9 0 0x0B 0x1FF 0), { Features.reset with aec := 0x1FF }, adm0 9 0 0x0B 0x1FF, by decide +kernel⟩,
   ⟨5, (ctx0 0 9 0 4 340 0), { Features.reset with hiC := Features.reset.hiC.set 0 340 }, adm0 9 0 4 340, by decide +kernel⟩,
   ⟨5, (ctx0 0 9 0 0x33 0 0), adm0 9 0 0x33 0, by decide +kernel⟩,
   ⟨5, (ctx0 0 9 0 7 0 0), adm0 9 0 7 0, by decide +kernel⟩,
   ⟨5, (ctx0 0 9 0 7 0xFFFF 0), adm0 9 0 7 0xFFFF, by decide +kernel⟩,
   ⟨5, (ctx0 0 10 0 4 0 0), 373, adm0 10 0 4 0, by decide +kernel⟩,
   ⟨5, (ctx0 0 10 0 0x33 0 0), adm0 10 0 0x33 0, by decide +kernel⟩,
   ⟨5, (ctx0 0 12 0 0 0 0), adm0 12 0 0 0, by decide +kernel⟩,
   ⟨5, (ctx0 0 12 0 0 0 0), { type := 1, info := 2, page := 2 }, [], { adm0 12 0 0 0 with port0 := { readyPort with aens := [{ type := 1, info := 2, page := 2 }] } }, by decide +kernel⟩,
   ⟨5, (ctx0 0 12 0 0 0 0), { adm0 12 0 0 0 with port0 := { readyPort with aers := List.replicate 16 9 } }, by decide +kernel⟩,
   ⟨5, { nsze := 1048576, ncap := 1048576, flbas := 0, csi := 2 }, (ctx0 0 13 0 0 0 0), 1, { adm0 13 0 0 0 with port0 := { readyPort with ccEn := false }, fl := { FlashState.reset with firstActive := 1000 } }, by decide +kernel⟩,
   ⟨5, { nsze := 0, ncap := 1048576, flbas := 0, csi := 2 }, (ctx0 0 13 0 0 0 0), .invalidField, adm0 13 0 0 0, by decide +kernel⟩,
   ⟨5, { nsze := 0, ncap := 1048576, flbas := 0, csi := 2 }, (ctx0 0 13 0 0 0 0), { adm0 13 0 0 0 with md := { run0.md with mode := .hold } }, by decide +kernel⟩,
   ⟨5, (ctx0 0 13 1 1 0 0), ns1, { adm0 13 1 1 0 with ns := [(1, ns1)] }, by decide +kernel⟩,
   ⟨5, (ctx0 0 13 7 1 0 0), adm0 13 7 1 0, by decide +kernel⟩,
   ⟨5, [0], (ctx0 0 21 1 0 0 0), { ns1 with attach0 := false }, { adm0 21 1 0 0 with ns := [(1, { ns1 with attach0 := false })] }, by decide +kernel⟩,
   ⟨5, (ctx0 0 0x19 1 0 1 0x101), { adm0 0x19 1 0 1 with ctxs := [ctx0 0 0x19 1 0 1 0x101], ns := [(1, ns1)] }, by decide +kernel⟩,
   ⟨5, (ctx0 0 0x19 1 0 (0x101 + 9 * 65536) 0), { adm0 0x19 1 0 (0x101 + 9 * 65536) with ns := [(1, ns1)], port0 := { readyPort with streamsEn := [1], streams := [(1, 9)] } }, by decide +kernel⟩,
   ⟨5, (ctx0 0 0x19 1 0 1 0x101), { adm0 0x19 1 0 1 with ctxs := [ctx0 0 0x19 1 0 1 0x101] }, by decide +kernel⟩,
   ⟨5, (ctx0 0 0x1A 1 0 0x103 5), { adm0 0x1A 1 0 0x103 with ctxs := [ctx0 0 0x1A 1 0 0x103 5], port0 := { readyPort with streamsEn := [1] }, ns := [(1, ns1)] }, by decide +kernel⟩,
   ⟨5, (ctx0 0 0x1A 1 3 0x102 0), { adm0 0x1A 1 3 0x102 with port0 := { readyPort with streamsEn := [1], streams := [(1, 9)] }, ns := [(1, ns1)] }, by decide +kernel⟩⟩

/-- The rows of `ReadsAndWrites` can be met. -/
theorem witness_ReadsAndWrites :
  (∃ (ctx : Nat) (c : Ctx) (s : State), Bound s ∧ (IoWaits s ctx 0x02 none c ∧ c.port < 2 ∧ (s.port c.port).feat.marginEn = false ∧ (s.isConv c.e.nsid = false ∨ (s.convOpen = true ∧ s.touchesLost c.e.nsid c.slba c.nlb = false)) ∧ (∀ i < c.nlb, s.lbaPlace c.e.nsid (c.slba + i) = .zeros) ∧ (∀ k < 4, (s.dchan k).waiting = [] ∧ (s.dchan k).answered = []))) ∧
  (∃ (ctx : Nat) (c : Ctx) (st : NvmeStatus) (s : State), Bound s ∧ (IoRefused s ctx 0x02 none c st)) ∧
  (∃ (ctx : Nat) (c : Ctx) (st : NvmeStatus) (s : State), Bound s ∧ (IoWaits s ctx 0x02 none c ∧ c.nlb = 1 ∧ c.port < 2 ∧ (s.port c.port).feat.marginEn = false ∧ (s.isConv c.e.nsid = false ∨ (s.convOpen = true ∧ s.touchesLost c.e.nsid c.slba 1 = false)) ∧ ((s.lbaPlace c.e.nsid c.slba = .lost ∧ st = .unrecoveredReadError) ∨ (s.lbaPlace c.e.nsid c.slba = .offline ∧ st = .zoneIsOffline)) ∧ (∀ k < 4, (s.dchan k).waiting = [] ∧ (s.dchan k).answered = []))) ∧
  (∃ (ctx : Nat) (c : Ctx) (p d i : Nat) (copyB : Bool) (x : Pair) (s : State), Bound s ∧ (IoWaits s ctx 0x02 none c ∧ c.nlb = 1 ∧ (s.isConv c.e.nsid = false ∨ (s.convOpen = true ∧ s.touchesLost c.e.nsid c.slba 1 = false)) ∧ s.lbaPlace c.e.nsid c.slba = .cached p ∧ s.wc.pairs.look p = some x ∧ s.hitCopy x = some (d, i, copyB) ∧ d < 4 ∧ s.chLive d = true ∧ s.flag DMC_CH_STAT_SREF d = false ∧ (s.dchan d).reads = [] ∧ (s.dchan d).writes = [] ∧ (∀ k < 4, (s.dchan k).waiting = [] ∧ (s.dchan k).answered = []))) ∧
  (∃ (ctx : Nat) (c : Ctx) (set : Bool) (key slot row q : Nat) (m : Media) (w : Cw) (s : State), Bound s ∧ (IoWaits s ctx 0x02 none c ∧ c.nlb = 1 ∧ (s.isConv c.e.nsid = false ∨ (s.convOpen = true ∧ s.touchesLost c.e.nsid c.slba 1 = false)) ∧ s.lbaPlace c.e.nsid c.slba = .flash set key slot row q m ∧ s.readCw c c.slba set key slot row q m = some w ∧ w.stage = .queued ∧ s.inService w.ch w.die = true ∧ s.chFailed w.ch = false)) ∧
  (∃ (ctx : Nat) (_data : List Nat) (_upsets : List Upset) (c : Ctx) (r : Zone) (s : State), Bound s ∧ (IoWaits s ctx 0x01 none c ∧ Quiet s ∧ s.isConv c.e.nsid = false ∧ s.zone c.e.nsid (c.slba / zoneSpan) = some r ∧ (r.state = .implicitOpen ∨ r.state = .explicitOpen) ∧ r.ap = c.slba % zoneSpan ∧ r.ap + c.nlb ≤ r.zcap)) ∧
  (∃ (ctx : Nat) (_data : List Nat) (_upsets : List Upset) (c : Ctx) (st : NvmeStatus) (s : State), Bound s ∧ (IoRefused s ctx 0x01 none c st)) ∧
  (∃ (ctx : Nat) (_data : List Nat) (_upsets : List Upset) (c : Ctx) (r : Zone) (st : NvmeStatus) (s : State), Bound s ∧ (IoWaits s ctx 0x01 none c ∧ Quiet s ∧ s.isConv c.e.nsid = false ∧ s.zone c.e.nsid (c.slba / zoneSpan) = some r ∧ (if r.zcap < c.slba % zoneSpan + c.nlb then some .zoneBoundaryError else match r.state with | .full => some .zoneIsFull | .readOnly => some .zoneIsReadOnly | .offline => some .zoneIsOffline | _ => if c.slba % zoneSpan ≠ r.ap then some .zoneInvalidWrite else none) = some st)) ∧
  (∃ (ctx : Nat) (_upsets : List Upset) (c : Ctx) (r : Zone) (s : State), Bound s ∧ (IoWaits s ctx 0x08 none c ∧ Quiet s ∧ s.isConv c.e.nsid = false ∧ s.zone c.e.nsid (c.slba / zoneSpan) = some r ∧ (r.state = .implicitOpen ∨ r.state = .explicitOpen) ∧ r.ap = c.slba % zoneSpan ∧ r.ap + c.nlb ≤ r.zcap)) ∧
  (∃ (ctx : Nat) (_upsets : List Upset) (c : Ctx) (st : NvmeStatus) (s : State), Bound s ∧ (IoRefused s ctx 0x08 none c st)) ∧
  (∃ (ctx : Nat) (_data : List Nat) (_upsets : List Upset) (c : Ctx) (r : Zone) (s : State), Bound s ∧ (IoWaits s ctx 0x7D none c ∧ Quiet s ∧ s.isConv c.e.nsid = false ∧ s.zone c.e.nsid (c.slba / zoneSpan) = some r ∧ (r.state = .implicitOpen ∨ r.state = .explicitOpen) ∧ r.ap + c.nlb ≤ r.zcap)) ∧
  (∃ (ctx : Nat) (_data : List Nat) (_upsets : List Upset) (c : Ctx) (st : NvmeStatus) (s : State), Bound s ∧ (IoRefused s ctx 0x7D none c st)) ∧
  (∃ (ctx : Nat) (c : Ctx) (s : State), Bound s ∧ (IoWaits s ctx 0x00 none c)) ∧
  (∃ (ctx : Nat) (c : Ctx) (st : NvmeStatus) (s : State), Bound s ∧ (IoRefused s ctx 0x00 none c st)) ∧
  (∃ (pair : Nat) (x : Pair) (s : State), Bound s ∧ (s.wc.pairs.look pair = some x ∧ s.adm x.adm = none) ∧ (x.held = false ∧ s.mirrorHeld pair = true ∧ s.powered = true)) ∧
  (∃ (pair : Nat) (x : Pair) (a : Adm) (r : Zone) (s : State), Bound s ∧ (s.wc.pairs = [(pair, x)] ∧ s.zn.adm = [a] ∧ s.zn.roPending = [] ∧ x.adm = a.id ∧ a.stage = .moving ∧ a.kind = .write ∧ a.pairs = [pair] ∧ a.ctx = none ∧ s.isConv a.nsid = false ∧ s.zone a.nsid (a.lba / zoneSpan) = some r ∧ r.state = .implicitOpen ∧ r.wp + a.len < r.zcap ∧ s.sliceThrough a.slice = false ∧ s.wc.flushBy = []) ∧ (x.held = false ∧ s.mirrorHeld pair = true ∧ s.powered = true)) :=
  ⟨⟨5, (ioCtx0 2 3 1 0), zio .implicitOpen 2 2 3 1 0, by decide +kernel⟩,
   ⟨5, (ioCtx0 2 2000000 1 0), .lbaOutOfRange, io0 ns1 2 2000000 1 0, by decide +kernel⟩,
   ⟨5, (ioCtx0 2 3 1 0), .zoneIsOffline, zio .offline 8 2 3 1 0, by decide +kernel⟩,
   ⟨5, (ioCtx0 2 3 1 0), 0, 1, 9, false, (pair1 0 (some (1, 9)) none [(3, 77)] true), dramOn 1 DChan.fresh (withPair (pair1 0 (some (1, 9)) none [(3, 77)] true) (zio .implicitOpen 8 2 3 1 0)), by decide +kernel⟩,
   ⟨5, (ioCtx0 2 3 1 0), false, 16777216, 1, 0, 3, .qlc, ({ Cw.base with owner := .host 5 3, gen := 1, cls := 3, internal := false, dl := 100000000, ch := 2, die := 1, block := 9, pos := 3, slot := 1, stripe := some (false, 16777216) }), { zio .implicitOpen 8 2 3 1 0 with zn := { ZoneState.reset with zones := [(zkeyOf 1 0, { zone1 .implicitOpen 8 with members := (List.range 16).map fun i => { ch := 1 + i, die := 1, block := 9, issued := 1, verified := 1, moved := false, rebuilt := none, old := none } })] } }.set FSQ_DIE_STATE 1 2 1, by decide +kernel⟩,
   ⟨5, [1, 2], [], (ioCtx0 1 8 2 0), (zone1 .implicitOpen 8), bufs (zio .implicitOpen 8 1 8 2 0), by decide +kernel⟩,
   ⟨5, [1], [], (ioCtx0 1 2000000 1 0), .lbaOutOfRange, io0 ns1 1 2000000 1 0, by decide +kernel⟩,
   ⟨5, [1], [], (ioCtx0 1 9 1 0), (zone1 .implicitOpen 8), .zoneInvalidWrite, zio .implicitOpen 8 1 9 1 0, by decide +kernel⟩,
   ⟨5, [], (ioCtx0 8 8 2 0), (zone1 .implicitOpen 8), bufs (zio .implicitOpen 8 8 8 2 0), by decide +kernel⟩,
   ⟨5, [], (ioCtx0 8 2000000 1 0), .lbaOutOfRange, io0 ns1 8 2000000 1 0, by decide +kernel⟩,
   ⟨5, [3, 4], [], (ioCtx0 0x7D 0 2 0), (zone1 .implicitOpen 8), bufs (zio .implicitOpen 8 0x7D 0 2 0), by decide +kernel⟩,
   ⟨5, [1], [], (ioCtx0 0x7D 1 1 0), .invalidField, io0 ns1 0x7D 1 1 0, by decide +kernel⟩,
   ⟨5, (ioCtx0 0 0 1 0), io0 ns1 0 0 1 0, by decide +kernel⟩,
   ⟨5, (ioCtx0 0 0 1 0), .invalidNamespaceOrFormat, { io0 ns1 0 0 1 0 with ns := [] }, by decide +kernel⟩,
   ⟨0, (pair1 9 none none [(3, 77)] false), withPair (pair1 9 none none [(3, 77)] false) run0, by decide +kernel⟩,
   ⟨0, (pair1 9 none none [(8, 77)] false), (adm1 9 [77] [0]), (zone1 .implicitOpen 8), withPair (pair1 9 none none [(8, 77)] false) { bufs (zio .implicitOpen 8 1 8 1 0) with zn := { ZoneState.reset with zones := [(zkeyOf 1 0, zone1 .implicitOpen 8)], adm := [adm1 9 [77] [0]] } }, by decide +kernel⟩⟩

/-- The rows of `ZoneActions` can be met. -/
theorem witness_ZoneActions :
  (∃ (ctx : Nat) (_upsets : List Upset) (c : Ctx) (r : Zone) (s : State), Bound s ∧ (IoWaits s ctx 0x79 (some 3) c ∧ Quiet s ∧ s.isConv c.e.nsid = false ∧ bit c.e.dw13 8 = false ∧ s.zone c.e.nsid (c.slba / zoneSpan) = some r ∧ (r.state = .closed ∨ r.state = .implicitOpen))) ∧
  (∃ (ctx : Nat) (_upsets : List Upset) (c : Ctx) (r : Zone) (s : State), Bound s ∧ (IoWaits s ctx 0x79 (some 3) c ∧ Quiet s ∧ s.isConv c.e.nsid = false ∧ bit c.e.dw13 8 = false ∧ s.zone c.e.nsid (c.slba / zoneSpan) = some r ∧ (r.state = .full ∨ r.state = .readOnly ∨ r.state = .offline))) ∧
  (∃ (ctx : Nat) (_upsets : List Upset) (c : Ctx) (st : NvmeStatus) (s : State), Bound s ∧ (IoRefused s ctx 0x79 (some 3) c st)) ∧
  (∃ (ctx : Nat) (c : Ctx) (r : Zone) (s : State), Bound s ∧ (IoWaits s ctx 0x79 (some 1) c ∧ Quiet s ∧ s.isConv c.e.nsid = false ∧ bit c.e.dw13 8 = false ∧ s.zone c.e.nsid (c.slba / zoneSpan) = some r ∧ (r.state = .explicitOpen ∨ r.state = .implicitOpen))) ∧
  (∃ (ctx : Nat) (c : Ctx) (r : Zone) (s : State), Bound s ∧ (IoWaits s ctx 0x79 (some 1) c ∧ Quiet s ∧ s.isConv c.e.nsid = false ∧ bit c.e.dw13 8 = false ∧ s.zone c.e.nsid (c.slba / zoneSpan) = some r ∧ (r.state = .full ∨ r.state = .readOnly ∨ r.state = .offline))) ∧
  (∃ (ctx : Nat) (c : Ctx) (st : NvmeStatus) (s : State), Bound s ∧ (IoRefused s ctx 0x79 (some 1) c st)) ∧
  (∃ (ctx : Nat) (c : Ctx) (r : Zone) (s : State), Bound s ∧ (IoWaits s ctx 0x79 (some 2) c ∧ Quiet s ∧ s.isConv c.e.nsid = false ∧ bit c.e.dw13 8 = false ∧ s.zone c.e.nsid (c.slba / zoneSpan) = some r ∧ r.state.active = true)) ∧
  (∃ (ctx : Nat) (c : Ctx) (r : Zone) (s : State), Bound s ∧ (IoWaits s ctx 0x79 (some 2) c ∧ Quiet s ∧ s.isConv c.e.nsid = false ∧ bit c.e.dw13 8 = false ∧ s.zone c.e.nsid (c.slba / zoneSpan) = some r ∧ (r.state = .readOnly ∨ r.state = .offline))) ∧
  (∃ (ctx : Nat) (c : Ctx) (st : NvmeStatus) (s : State), Bound s ∧ (IoRefused s ctx 0x79 (some 2) c st)) ∧
  (∃ (ctx : Nat) (c : Ctx) (r : Zone) (s : State), Bound s ∧ (IoWaits s ctx 0x79 (some 4) c ∧ Quiet s ∧ s.isConv c.e.nsid = false ∧ bit c.e.dw13 8 = false ∧ s.zone c.e.nsid (c.slba / zoneSpan) = some r ∧ (r.state.active = true ∨ r.state = .full))) ∧
  (∃ (ctx : Nat) (c : Ctx) (r : Zone) (s : State), Bound s ∧ (IoWaits s ctx 0x79 (some 4) c ∧ Quiet s ∧ s.isConv c.e.nsid = false ∧ bit c.e.dw13 8 = false ∧ s.zone c.e.nsid (c.slba / zoneSpan) = some r ∧ (r.state = .readOnly ∨ r.state = .offline))) ∧
  (∃ (ctx : Nat) (c : Ctx) (st : NvmeStatus) (s : State), Bound s ∧ (IoRefused s ctx 0x79 (some 4) c st)) ∧
  (∃ (ctx : Nat) (c : Ctx) (r : Zone) (s : State), Bound s ∧ (IoWaits s ctx 0x79 (some 5) c ∧ Quiet s ∧ s.isConv c.e.nsid = false ∧ bit c.e.dw13 8 = false ∧ s.zone c.e.nsid (c.slba / zoneSpan) = some r ∧ r.state = .readOnly)) ∧
  (∃ (ctx : Nat) (c : Ctx) (r : Zone) (s : State), Bound s ∧ (IoWaits s ctx 0x79 (some 5) c ∧ Quiet s ∧ s.isConv c.e.nsid = false ∧ bit c.e.dw13 8 = false ∧ s.zone c.e.nsid (c.slba / zoneSpan) = some r ∧ (r.state.active = true ∨ r.state = .full))) ∧
  (∃ (ctx : Nat) (c : Ctx) (st : NvmeStatus) (s : State), Bound s ∧ (IoRefused s ctx 0x79 (some 5) c st)) ∧
  (∃ (ctx : Nat) (c : Ctx) (n : Namespace) (s : State), Bound s ∧ (IoWaits s ctx 0x7A none c ∧ s.isConv c.e.nsid = false ∧ bits c.e.dw13 7 0 = 0 ∧ bits c.e.dw13 15 8 ≤ 7 ∧ s.nspace c.e.nsid = some n)) ∧
  (∃ (ctx : Nat) (c : Ctx) (s : State), Bound s ∧ (IoWaits s ctx 0x7A none c ∧ s.isConv c.e.nsid = false ∧ (bits c.e.dw13 7 0 ≠ 0 ∨ 7 < bits c.e.dw13 15 8))) ∧
  (∃ (ctx : Nat) (c : Ctx) (st : NvmeStatus) (s : State), Bound s ∧ (IoRefused s ctx 0x7A none c st)) ∧
  (∃ (ctx lba : Nat) (c : Ctx) (n : Namespace) (s : State), Bound s ∧ (IoWaits s ctx 0x09 none c ∧ s.nspace c.e.nsid = some n ∧ s.convOpen = true ∧ s.touchesLost c.e.nsid lba 1 = false ∧ bit c.e.dw11 2 = true ∧ lba < n.nsze ∧ s.xl.recs.length < maxRecs ∧ s.wc.pairs = [])) ∧
  (∃ (ctx : Nat) (ranges : List (Nat × Nat)) (c : Ctx) (s : State), Bound s ∧ (IoWaits s ctx 0x09 none c ∧ s.convOpen = true ∧ (∀ r ∈ ranges, s.touchesLost c.e.nsid r.1 r.2 = false) ∧ bit c.e.dw11 2 = false)) ∧
  (∃ (ctx : Nat) (_ranges : List (Nat × Nat)) (c : Ctx) (st : NvmeStatus) (s : State), Bound s ∧ (IoRefused s ctx 0x09 none c st)) :=
  ⟨⟨5, [], (ioCtx0 0x79 0 1 3), (zone1 .closed 8), zio .closed 8 0x79 0 1 3, by decide +kernel⟩,
   ⟨5, [], (ioCtx0 0x79 0 1 3), (zone1 .full 8), zio .full 8 0x79 0 1 3, by decide +kernel⟩,
   ⟨5, [], (ioCtx0 0x79 1 1 3), .invalidField, zio .closed 8 0x79 1 1 3, by decide +kernel⟩,
   ⟨5, (ioCtx0 0x79 0 1 1), (zone1 .explicitOpen 8), zio .explicitOpen 8 0x79 0 1 1, by decide +kernel⟩,
   ⟨5, (ioCtx0 0x79 0 1 1), (zone1 .offline 8), zio .offline 8 0x79 0 1 1, by decide +kernel⟩,
   ⟨5, (ioCtx0 0x79 2097152 1 1), .lbaOutOfRange, zio .closed 8 0x79 2097152 1 1, by decide +kernel⟩,
   ⟨5, (ioCtx0 0x79 0 1 2), (zone1 .closed 8), zio .closed 8 0x79 0 1 2, by decide +kernel⟩,
   ⟨5, (ioCtx0 0x79 0 1 2), (zone1 .readOnly 8), zio .readOnly 8 0x79 0 1 2, by decide +kernel⟩,
   ⟨5, (ioCtx0 0x79 0 1 2), .invalidOpcode, io0 nsConv 0x79 0 1 2, by decide +kernel⟩,
   ⟨5, (ioCtx0 0x79 0 1 4), (zone1 .full 8), zio .full 8 0x79 0 1 4, by decide +kernel⟩,
   ⟨5, (ioCtx0 0x79 0 1 4), (zone1 .offline 8), zio .offline 8 0x79 0 1 4, by decide +kernel⟩,
   ⟨5, (ioCtx0 0x79 5 1 4), .invalidField, zio .full 8 0x79 5 1 4, by decide +kernel⟩,
   ⟨5, (ioCtx0 0x79 0 1 5), (zone1 .readOnly 8), zio .readOnly 8 0x79 0 1 5, by decide +kernel⟩,
   ⟨5, (ioCtx0 0x79 0 1 5), (zone1 .full 8), zio .full 8 0x79 0 1 5, by decide +kernel⟩,
   ⟨5, (ioCtx0 0x79 5 1 5), .invalidField, zio .readOnly 8 0x79 5 1 5, by decide +kernel⟩,
   ⟨5, (ioCtx0 0x7A 0 64 0), ns1, zio .implicitOpen 8 0x7A 0 64 0, by decide +kernel⟩,
   ⟨5, (ioCtx0 0x7A 0 64 1), zio .implicitOpen 8 0x7A 0 64 1, by decide +kernel⟩,
   ⟨5, (ioCtx0 0x7A 0 1 0), .invalidOpcode, io0 nsConv 0x7A 0 1 0, by decide +kernel⟩,
   ⟨5, 9, { ioCtx0 9 0 1 0 with e := { (ioCtx0 9 0 1 0).e with dw11 := 4 } }, nsConv, { io0 nsConv 9 0 1 0 with ctxs := [{ ioCtx0 9 0 1 0 with e := { (ioCtx0 9 0 1 0).e with dw11 := 4 } }], xl := { MapState.reset with map := [(1, [(9, .lost)])] } }, by decide +kernel⟩,
   ⟨5, [(9, 1)], (ioCtx0 9 0 1 0), io0 nsConv 9 0 1 0, by decide +kernel⟩,
   ⟨5, [(9, 1)], (ioCtx0 9 0 1 0), .invalidOpcode, io0 ns1 9 0 1 0, by decide +kernel⟩⟩

/-- The rows of `CountersCleared` can be met. -/
theorem witness_CountersCleared :
  (∃ (_i : Nat) (s : State), Bound s ∧ (s.powered = true)) ∧
  (∃ (_i : Nat) (s : State), Bound s ∧ (s.powered = true)) ∧
  (∃ (_i : Nat) (s : State), Bound s ∧ (s.powered = true)) ∧
  (∃ s : State, Bound s ∧ (s.powered = true)) ∧
  (∃ s : State, Bound s ∧ (s.powered = true)) ∧
  (∃ s : State, Bound s ∧ (s.powered = true)) ∧
  (∃ s : State, Bound s ∧ (s.powered = true)) ∧
  (∃ (_i : Nat) (s : State), Bound s ∧ (s.powered = true)) ∧
  (∃ s : State, Bound s ∧ (s.powered = true)) ∧
  (∃ s : State, Bound s ∧ (s.powered = true)) ∧
  (∃ (_i : Nat) (s : State), Bound s ∧ (s.powered = true)) ∧
  (∃ s : State, Bound s ∧ (s.powered = true)) ∧
  (∃ s : State, Bound s ∧ (s.powered = true)) ∧
  (∃ s : State, Bound s ∧ (s.powered = true)) ∧
  (∃ s : State, Bound s ∧ (s.powered = true)) ∧
  (∃ s : State, Bound s ∧ (s.powered = true)) ∧
  (∃ s : State, Bound s ∧ (s.powered = true)) ∧
  (∃ s : State, Bound s ∧ (s.powered = true)) ∧
  (∃ s : State, Bound s ∧ (s.powered = true)) ∧
  (∃ (ch : Nat) (s : State), Bound s ∧ (s.powered = true ∧ ch < 64)) ∧
  (∃ (ch : Nat) (s : State), Bound s ∧ (s.powered = true ∧ ch < 64)) ∧
  (∃ (_d : Nat) (s : State), Bound s ∧ (s.powered = true)) ∧
  (∃ (_p : Nat) (s : State), Bound s ∧ (s.powered = true)) :=
  ⟨⟨0, (blkSLM.counters.foldl (fun (s : State) f => s.set f 5 f.reg.first 0) { run0 with ev := { run0.ev with fired := blkSLM.rearm.map fun x => (x, 0) } }).set blkSLM.sat 1, by decide +kernel⟩,
   ⟨0, (blkTLG.counters.foldl (fun (s : State) f => s.set f 5 f.reg.first 0) { run0 with ev := { run0.ev with fired := blkTLG.rearm.map fun x => (x, 0) } }).set blkTLG.sat 1, by decide +kernel⟩,
   ⟨0, (blkWPT.counters.foldl (fun (s : State) f => s.set f 5 f.reg.first 0) { run0 with ev := { run0.ev with fired := blkWPT.rearm.map fun x => (x, ownWPT) } }).set blkWPT.sat 1, by decide +kernel⟩,
   ⟨(blkZNE.counters.foldl (fun (s : State) f => s.set f 5 f.reg.first 0) { run0 with ev := { run0.ev with fired := blkZNE.rearm.map fun x => (x, ownZNE) } }).set blkZNE.sat 1, by decide +kernel⟩,
   ⟨(blkWCU.counters.foldl (fun (s : State) f => s.set f 5 f.reg.first 0) { run0 with ev := { run0.ev with fired := blkWCU.rearm.map fun x => (x, ownWCU) } }).set blkWCU.sat 1, by decide +kernel⟩,
   ⟨(blkBPL.counters.foldl (fun (s : State) f => s.set f 5 f.reg.first 0) { run0 with ev := { run0.ev with fired := blkBPL.rearm.map fun x => (x, ownBPL) } }).set blkBPL.sat 1, by decide +kernel⟩,
   ⟨(blkDSC.counters.foldl (fun (s : State) f => s.set f 5 f.reg.first 0) { run0 with ev := { run0.ev with fired := blkDSC.rearm.map fun x => (x, 0) } }).set blkDSC.sat 1, by decide +kernel⟩,
   ⟨0, (blkLDC.counters.foldl (fun (s : State) f => s.set f 5 f.reg.first 0) { run0 with ev := { run0.ev with fired := blkLDC.rearm.map fun x => (x, ownLDC) } }).set blkLDC.sat 1, by decide +kernel⟩,
   ⟨(blkXLT.counters.foldl (fun (s : State) f => s.set f 5 f.reg.first 0) { run0 with ev := { run0.ev with fired := blkXLT.rearm.map fun x => (x, 0) } }).set blkXLT.sat 1, by decide +kernel⟩,
   ⟨(blkHUC.counters.foldl (fun (s : State) f => s.set f 5 f.reg.first 0) { run0 with ev := { run0.ev with fired := blkHUC.rearm.map fun x => (x, 0) } }).set blkHUC.sat 1, by decide +kernel⟩,
   ⟨0, (blkPSQ.counters.foldl (fun (s : State) f => s.set f 5 f.reg.first 0) { run0 with ev := { run0.ev with fired := blkPSQ.rearm.map fun x => (x, ownPSQ) } }).set blkPSQ.sat 1, by decide +kernel⟩,
   ⟨(blkDRG.counters.foldl (fun (s : State) f => s.set f 5 f.reg.first 0) { run0 with ev := { run0.ev with fired := blkDRG.rearm.map fun x => (x, ownDRG) } }).set blkDRG.sat 1, by decide +kernel⟩,
   ⟨(blkPSC.counters.foldl (fun (s : State) f => s.set f 5 f.reg.first 0) { run0 with ev := { run0.ev with fired := blkPSC.rearm.map fun x => (x, 0) } }).set blkPSC.sat 1, by decide +kernel⟩,
   ⟨(blkMPU.counters.foldl (fun (s : State) f => s.set f 5 f.reg.first 0) { run0 with ev := { run0.ev with fired := blkMPU.rearm.map fun x => (x, 0) } }).set blkMPU.sat 1, by decide +kernel⟩,
   ⟨(blkFCL.counters.foldl (fun (s : State) f => s.set f 5 f.reg.first 0) { run0 with ev := { run0.ev with fired := blkFCL.rearm.map fun x => (x, 0) } }).set blkFCL.sat 1, by decide +kernel⟩,
   ⟨(blkMSM.counters.foldl (fun (s : State) f => s.set f 5 f.reg.first 0) { run0 with ev := { run0.ev with fired := blkMSM.rearm.map fun x => (x, 0) } }).set blkMSM.sat 1, by decide +kernel⟩,
   ⟨(blkTHM.counters.foldl (fun (s : State) f => s.set f 5 f.reg.first 0) { run0 with ev := { run0.ev with fired := blkTHM.rearm.map fun x => (x, 0) } }).set blkTHM.sat 1, by decide +kernel⟩,
   ⟨(blkFWS.counters.foldl (fun (s : State) f => s.set f 5 f.reg.first 0) { run0 with ev := { run0.ev with fired := blkFWS.rearm.map fun x => (x, ownFWS) } }).set blkFWS.sat 1, by decide +kernel⟩,
   ⟨(blkFWC.counters.foldl (fun (s : State) f => s.set f 5 f.reg.first 0) { run0 with ev := { run0.ev with fired := blkFWC.rearm.map fun x => (x, ownFWC) } }).set blkFWC.sat 1, by decide +kernel⟩,
   ⟨3, run0.set FSQ_PFAIL_CNT 4 3, by decide +kernel⟩,
   ⟨3, run0.set SDF_BURST_CNT 4 3, by decide +kernel⟩,
   ⟨3, run0.set DMC_CE_CNT 4 3, by decide +kernel⟩,
   ⟨3, run0.set CWP_NAK_CNT 4 3, by decide +kernel⟩⟩

/-- The rows of `SlicesAndTollgate` can be met. -/
theorem witness_SlicesAndTollgate :
  (∃ (slice go : Nat) (s : State), Bound s ∧ (Quiet s ∧ s.cd.cws = [] ∧ slice < s.sliceCount ∧ s.underReset slice = false) ∧ (s.powered = true ∧ go % 2 = 1)) ∧
  (∃ (slice _go : Nat) (s : State), Bound s ∧ (s.sliceCount ≤ slice ∨ (s.underReset slice = true ∧ s.mode ≠ .hold))) ∧
  (∃ (slice : Nat) (r : SliceReset) (s : State), Bound s ∧ (s.resets.look slice = some r ∧ slice < 256 ∧ s.ctxs = [] ∧ s.cqs = [] ∧ s.mg.waiting = [] ∧ (s.ns.all fun e => e.2.deleting.isNone) = true) ∧ (s.inModes [.run, .service] = true ∧ s.flag SLM_RSTAT_HELD slice = false ∧ s.resetDrained slice = true)) ∧
  (∃ (ch die n : Nat) (s : State), Bound s ∧ (ch < 64 ∧ die < 32 ∧ s.inService ch die = true ∧ (n < s.sliceCount ∨ n = 256 ∨ n = 257)) ∧ (s.powered = true)) ∧
  (∃ (ctx : Nat) (c : Ctx) (s : State), Bound s ∧ (s.ctx ctx = some c ∧ c.remote = none ∧ c.cls < 4) ∧ (s.powered = true ∧ 0 < c.raBudget ∧ c.raStarted = false ∧ c.stage ≠ .done ∧ s.oldGen c = false ∧ c.fetchNs + 1000 * c.raBudget ≤ s.now)) ∧
  (∃ (cw : Nat) (c : Cw) (x : Ctx) (r : Running) (o : DieOp) (s : State), Bound s ∧ (s.cw cw = some c ∧ c.owner = .host x.id 3 ∧ s.ctx x.id = some x ∧ x.remote = none ∧ (s.die c.ch c.die).run = some r ∧ s.headRead c.ch c.die = some o) ∧ (s.inModes [.run, .service] = true ∧ s.flag DSC_CFG_BUSY_RA = true ∧ s.flag TLG_CTRL_RA_EN = true ∧ (r.op.kind = .program ∨ r.op.kind = .erase) ∧ r.window = none ∧ r.suspending = false ∧ cw ∈ o.cws ∧ s.neverSuspend r o = true ∧ x.raBudget ≠ 0 ∧ c.stripe ≠ none ∧ s.unprotectedCw c = false ∧ c.recon = false ∧ s.now < x.fetchNs + 1000 * x.raBudget ∧ x.fetchNs + 1000 * x.raBudget < s.now + (r.op.estimate - (r.busy + (s.now - r.since))))) ∧
  (∃ (cw : Nat) (c : Cw) (x : Ctx) (lba : Nat) (s : State), Bound s ∧ (s.cw cw = some c ∧ c.owner = .host x.id lba ∧ s.ctx x.id = some x ∧ x.stage = .issued ∧ x.remaining = 1 ∧ x.remote = none ∧ x.replWait = false ∧ c.stage = .peersOnly ∧ s.stale c = false) ∧ (s.flashOn = true ∧ c.recon = true ∧ c.peersLeft = 0 ∧ c.peerFailed = false)) :=
  ⟨⟨0, 1, host0.set SLM_GEN 0xFFFF 0, by decide +kernel⟩,
   ⟨9, 1, host0, by decide +kernel⟩,
   ⟨0, { oldGen := 1, newGen := 2, ranNs := 5000000, since := some 1000000, budget := [] }, { host0 with now := 4000000, resets := [(0, { oldGen := 1, newGen := 2, ranNs := 5000000, since := some 1000000, budget := [] })], sqs := [(1, { Sq.empty 0 1 8 with tail := 3 })] }, by decide +kernel⟩,
   ⟨2, 1, 0, (onDie Die.fresh run0).set SLM_BUDGET 900 0 8, by decide +kernel⟩,
   ⟨5, { ioCtx0 2 3 1 0 with raBudget := 200, cls := 0, gen := 1, stage := .issued, remaining := 1 }, { onDie Die.fresh host0 with now := 300000, ctxs := [{ ioCtx0 2 3 1 0 with raBudget := 200, cls := 0, gen := 1, stage := .issued, remaining := 1 }], cd := { CodecState.reset with cws := [(4, cw1 4 .queued)], nextCw := 5 } }, by decide +kernel⟩,
   ⟨4, { cw1 4 .queued with stripe := some (false, 16777216) }, { ioCtx0 2 3 1 0 with raBudget := 200, cls := 0, gen := 1, stage := .issued, remaining := 1 }, { op := op0 .program (.journal 3), since := 0, busy := 0, suspends := 0, window := none, suspending := false }, { op0 .hardRead .codewords with cws := [4], internal := false, needsTokens := false }, (({ onDie { runs (op0 .program (.journal 3)) with reads := [{ op0 .hardRead .codewords with cws := [4], internal := false, needsTokens := false }] } host0 with ctxs := [{ ioCtx0 2 3 1 0 with raBudget := 200, cls := 0, gen := 1, stage := .issued, remaining := 1 }], cd := { CodecState.reset with cws := [(4, { cw1 4 .queued with stripe := some (false, 16777216) })], nextCw := 5 } }).set DSC_CFG_BUSY_RA 1).set TLG_CTRL_RA_EN 1, by decide +kernel⟩,
   ⟨4, { cw1 4 .peersOnly with recon := true, peersXor := 99, step := 4 }, { ioCtx0 2 3 1 0 with stage := .issued, remaining := 1 }, 3, { onDie Die.fresh host0 with ctxs := [{ ioCtx0 2 3 1 0 with stage := .issued, remaining := 1 }], cd := { CodecState.reset with cws := [(4, { cw1 4 .peersOnly with recon := true, peersXor := 99, step := 4 })], nextCw := 5 } }, by decide +kernel⟩⟩

/-- The rows of `DieOperations` can be met. -/
theorem witness_DieOperations :
  (∃ (ch die _k : Nat) (o : DieOp) (s : State), Bound s ∧ (s.nextOp ch die = some o ∧ (s.die ch die).run = none ∧ o.cws = [] ∧ (o.owner = .raw ∨ s.refusal ch die o = 0)) ∧ (ch < 64 ∧ die < 32 ∧ s.flashOn = true ∧ s.inService ch die = true ∧ s.chFailed ch = false ∧ s.busFree ch = true)) ∧
  (∃ (ch die id : Nat) (o : DieOp) (s : State), Bound s ∧ (s.nextOp ch die = some o ∧ (s.die ch die).run = none ∧ o.cws = [id] ∧ o.kind = .hardRead) ∧ (ch < 64 ∧ die < 32 ∧ s.flashOn = true ∧ s.inService ch die = true ∧ s.chFailed ch = false ∧ s.busFree ch = true)) ∧
  (∃ (ch die n : Nat) (o : DieOp) (r : Running) (s : State), Bound s ∧ (s.nextOp ch die = some o ∧ (s.die ch die).run = some r ∧ r.window = some n ∧ o.isRead = true ∧ o.cws = []) ∧ (ch < 64 ∧ die < 32 ∧ s.flashOn = true ∧ s.inService ch die = true ∧ s.chFailed ch = false ∧ s.busFree ch = true)) ∧
  (∃ (ch die : Nat) (o : DieOp) (s : State), Bound s ∧ (s.nextOp ch die = some o ∧ o.owner = .other ∧ s.refusal ch die o ≠ 0 ∧ o.block < 4096 ∧ o.wl < 1024) ∧ (ch < 64 ∧ die < 32 ∧ s.flashOn = true ∧ s.inService ch die = true ∧ s.chFailed ch = false ∧ s.busFree ch = true)) ∧
  (∃ (ch die : Nat) (k row i : Nat) (r : Running) (z : Zone) (m : Member) (s : State), Bound s ∧ (Quiet s ∧ s.wc.pairs = [] ∧ s.arrayEnds ch die .program = some r ∧ r.op.owner = .member k row i ∧ s.zn.zones.look k = some z ∧ z.members[slotOfMember z.split z.fn i]? = some m ∧ slotOfMember z.split z.fn i ≠ paritySlot z.split z.fn (groupOf z.split i)) ∧ (ch < 64 ∧ die < 32 ∧ s.flashOn = true ∧ s.busFree ch = true)) ∧
  (∃ (ch die : Nat) (r : Running) (s : State), Bound s ∧ (s.arrayEnds ch die .program = some r) ∧ (ch < 64 ∧ die < 32 ∧ s.flashOn = true ∧ s.busFree ch = true)) ∧
  (∃ (ch die : Nat) (r : Running) (s : State), Bound s ∧ (Quiet s ∧ s.arrayEnds ch die .erase = some r ∧ r.op.owner = .other) ∧ (ch < 64 ∧ die < 32 ∧ s.flashOn = true ∧ s.busFree ch = true)) ∧
  (∃ (ch die : Nat) (r : Running) (s : State), Bound s ∧ (s.arrayEnds ch die .erase = some r) ∧ (ch < 64 ∧ die < 32 ∧ s.flashOn = true ∧ s.busFree ch = true)) ∧
  (∃ (ch die _page _k : Nat) (o : DieOp) (since id : Nat) (s : State), Bound s ∧ (s.readEnds ch die .hardRead = some (o, since) ∧ o.cws = [id]) ∧ (ch < 64 ∧ die < 32 ∧ s.flashOn = true ∧ s.busFree ch = true)) ∧
  (∃ (ch die : Nat) (r : Running) (s : State), Bound s ∧ ((s.die ch die).run = some r) ∧ (ch < 64 ∧ die < 32 ∧ s.flashOn = true ∧ s.busFree ch = true ∧ s.maySuspend ch die .program = true)) ∧
  (∃ (ch die : Nat) (r : Running) (s : State), Bound s ∧ ((s.die ch die).run = some r) ∧ (ch < 64 ∧ die < 32 ∧ s.flashOn = true ∧ s.busFree ch = true ∧ s.maySuspend ch die .erase = true)) ∧
  (∃ (ch die : Nat) (r : Running) (s : State), Bound s ∧ ((s.die ch die).run = some r) ∧ (ch < 64 ∧ die < 32 ∧ s.flashOn = true ∧ r.suspending = true)) ∧
  (∃ (ch die : Nat) (r : Running) (s : State), Bound s ∧ ((s.die ch die).run = some r) ∧ (ch < 64 ∧ die < 32 ∧ s.flashOn = true ∧ s.busFree ch = true ∧ s.mode ≠ .detour ∧ s.mayResume ch die .program = true)) ∧
  (∃ (ch die : Nat) (r : Running) (s : State), Bound s ∧ ((s.die ch die).run = some r) ∧ (ch < 64 ∧ die < 32 ∧ s.flashOn = true ∧ s.busFree ch = true ∧ s.mode ≠ .detour ∧ s.mayResume ch die .erase = true)) :=
  ⟨⟨2, 1, 9, { op0 .program .other with needsTokens := false }, onDie { Die.fresh with progs := [{ op0 .program .other with needsTokens := false }] } run0, by decide +kernel⟩,
   ⟨2, 1, 4, { op0 .hardRead .codewords with cws := [4], internal := false, needsTokens := false }, { onDie { Die.fresh with reads := [{ op0 .hardRead .codewords with cws := [4], internal := false, needsTokens := false }] } host0 with cd := { CodecState.reset with cws := [(4, cw1 4 .queued)], nextCw := 5 } }, by decide +kernel⟩,
   ⟨2, 1, 0, { op0 .hardRead .raw with internal := false, needsTokens := false }, { op := op0 .program .other, since := 0, busy := 40, suspends := 1, window := some 0, suspending := false }, onDie { suspended (op0 .program .other) with reads := [{ op0 .hardRead .raw with internal := false, needsTokens := false }] } run0, by decide +kernel⟩,
   ⟨2, 1, { op0 .program .other with needsTokens := false, wl := 3 }, onDie { Die.fresh with progs := [{ op0 .program .other with needsTokens := false, wl := 3 }] } run0, by decide +kernel⟩,
   ⟨2, 1, 16777216, 0, 1, { op := op0 .program (.member 16777216 0 1), since := 0, busy := 0, suspends := 0, window := none, suspending := false }, { zone1 .implicitOpen 8 with members := List.replicate 16 (mem1 0) }, (mem1 0), { onDie (runs (op0 .program (.member 16777216 0 1))) run0 with zn := { ZoneState.reset with zones := [(16777216, { zone1 .implicitOpen 8 with members := List.replicate 16 (mem1 0) })] } }, by decide +kernel⟩,
   ⟨2, 1, { op := op0 .program .other, since := 0, busy := 0, suspends := 0, window := none, suspending := false }, onDie (runs (op0 .program .other)) run0, by decide +kernel⟩,
   ⟨2, 1, { op := op0 .erase .other, since := 0, busy := 0, suspends := 0, window := none, suspending := false }, onDie { runs (op0 .erase .other) with blocks := [(9, { Block.fresh with st := .full, npp := 1024, pe := 4 })] } run0, by decide +kernel⟩,
   ⟨2, 1, { op := op0 .erase .other, since := 0, busy := 0, suspends := 0, window := none, suspending := false }, onDie (runs (op0 .erase .other)) run0, by decide +kernel⟩,
   ⟨2, 1, 0, 7, { op0 .hardRead .codewords with cws := [4] }, 0, 4, { onDie (runs { op0 .hardRead .codewords with cws := [4] }) host0 with cd := { CodecState.reset with cws := [(4, cw1 4 .reading)], nextCw := 5 } }, by decide +kernel⟩,
   ⟨2, 1, { op := op0 .program .other, since := 0, busy := 0, suspends := 0, window := none, suspending := false }, ({ onDie { runs (op0 .program .other) with reads := [{ op0 .hardRead .codewords with cws := [4], internal := false, needsTokens := false, cls := 0 }] } run0 with now := 10000000 }).set DSC_SUSP_CFG_CLASS_MASK 15, by decide +kernel⟩,
   ⟨2, 1, { op := op0 .erase .other, since := 0, busy := 0, suspends := 0, window := none, suspending := false }, ({ onDie { runs (op0 .erase .other) with reads := [{ op0 .hardRead .codewords with cws := [4], internal := false, needsTokens := false, cls := 0 }] } run0 with now := 10000000 }).set DSC_SUSP_CFG_CLASS_MASK 15, by decide +kernel⟩,
   ⟨2, 1, { op := op0 .erase .other, since := 0, busy := 0, suspends := 0, window := none, suspending := true }, onDie { Die.fresh with run := some { op := op0 .erase .other, since := 0, busy := 0, suspends := 0, window := none, suspending := true } } run0, by decide +kernel⟩,
   ⟨2, 1, { op := op0 .program .other, since := 0, busy := 40, suspends := 1, window := some 0, suspending := false }, { onDie (suspended (op0 .program .other)) run0 with now := 77 }, by decide +kernel⟩,
   ⟨2, 1, { op := op0 .erase .other, since := 0, busy := 40, suspends := 1, window := some 0, suspending := false }, { onDie (suspended (op0 .erase .other)) run0 with now := 77 }, by decide +kernel⟩⟩

/-- The rows of `DieFailureAndRetraining` can be met. -/
theorem witness_DieFailureAndRetraining :
  (∃ (ch die : Nat) (_idOk : Bool) (s : State), Bound s ∧ (ch < 64 ∧ die < 32 ∧ s.flashOn = true ∧ s.dieOverdue ch die = true)) ∧
  (∃ (ch die : Nat) (set : Bool) (key slot : Nat) (st : Stripe) (m : Member) (s : State), Bound s ∧ (s.rebuildNext ch die = some (set, key, slot) ∧ s.stripeOf set key = some st ∧ st.members[slot]? = some m ∧ (s.fl.copies.any fun w => w.set == set && w.key == key && w.slot == slot && w.wl == m.rebuilt.getD 0) = false ∧ (s.fl.copies.any fun w => w.set == set && w.key == key && w.slot == slot) = false) ∧ (ch < 64 ∧ die < 32 ∧ s.inModes [.run, .service] = true)) ∧
  (∃ (ch : Nat) (s : State), Bound s ∧ (ch < 64 ∧ s.flashOn = true ∧ s.chFailed ch = false ∧ s.get DSC_TRAIN_CFG_PERIOD ≠ 0 ∧ (s.chan ch).lastSlot + 10000000 * s.get DSC_TRAIN_CFG_PERIOD ≤ s.now ∧ (s.fl.slots.any fun r => r.ch == ch && r.cw.isNone && r.ticket.isNone) = false)) ∧
  (∃ (r : SlotReq) (l : List SlotReq) (s : State), Bound s ∧ (s.fl.slots = r :: l ∧ s.slackShort r.ch = false ∧ r.ch < 64 ∧ s.slotDie r < 32) ∧ (s.flashOn = true ∧ s.mode ≠ .detour ∧ s.fl.slotRun = none ∧ (s.fl.slotEnd = 0 ∨ s.fl.slotEnd + 100000 ≤ s.now))) ∧
  (∃ (r : SlotReq) (l : List SlotReq) (s : State), Bound s ∧ (s.fl.slots = r :: l ∧ s.past r.deferredSince (1000000 * s.get DSC_TRAIN_CFG_MAX_DEFER) = true ∧ r.ch < 64 ∧ s.slotDie r < 32) ∧ (s.flashOn = true ∧ s.mode ≠ .detour ∧ s.fl.slotRun = none ∧ (s.fl.slotEnd = 0 ∨ s.fl.slotEnd + 100000 ≤ s.now))) ∧
  (∃ (_eye : Nat) (_burst : List Nat) (r : SlotReq) (s : State), Bound s ∧ (s.fl.slotRun = some r ∧ r.ch < 64 ∧ r.cw = none) ∧ (s.fl.slotRun ≠ none)) ∧
  (∃ (ch : Nat) (s : State), Bound s ∧ (ch < 64 ∧ s.flashOn = true ∧ (s.get FSQ_STATUS_STATE ch = 3 ∨ s.fullTicket ch ≠ none) ∧ (s.chan ch).fullRunning = false ∧ s.busFree ch = true ∧ (s.chIdle ch = true ∨ s.mode = .service))) ∧
  (∃ (ch : Nat) (_ok : Bool) (_training : List DieTraining) (s : State), Bound s ∧ (ch < 64 ∧ (s.chan ch).fullRunning = true)) :=
  ⟨⟨2, 1, true, { onDie (runs (op0 .erase .other)) run0 with now := 60000000 }, by decide +kernel⟩,
   ⟨2, 1, false, 16777216, 1, { split := false, fn := 0, members := (List.range 16).map (fun i => if i = 1 then { mem1 1 with rebuilt := some 0 } else { mem1 1 with ch := i + 10 }), key := 16777216 }, { mem1 1 with rebuilt := some 0 }, { onDie Die.fresh run0 with zn := { ZoneState.reset with zones := [(16777216, { zone1 .implicitOpen 8 with media := .slc, members := (List.range 16).map (fun i => if i = 1 then { mem1 1 with rebuilt := some 0 } else { mem1 1 with ch := i + 10 }) })] }, fl := { (onDie Die.fresh run0).fl with rebuilds := [{ ch := 2, die := 1, target := 1, work := [(false, 16777216, 1)], total := 1 }] } }, by decide +kernel⟩,
   ⟨2, { onDie Die.fresh run0 with now := 200000000 }.set DSC_TRAIN_CFG_PERIOD 10, by decide +kernel⟩,
   ⟨{ ch := 2, die := none, cw := none, ticket := none, since := 0, deferredSince := none }, [], { onDie Die.fresh run0 with fl := { (onDie Die.fresh run0).fl with slots := [{ ch := 2, die := none, cw := none, ticket := none, since := 0, deferredSince := none }] } }, by decide +kernel⟩,
   ⟨{ ch := 2, die := none, cw := none, ticket := none, since := 0, deferredSince := some 3 }, [], { onDie Die.fresh run0 with now := 10000000000, fl := { (onDie Die.fresh run0).fl with slots := [{ ch := 2, die := none, cw := none, ticket := none, since := 0, deferredSince := some 3 }] } }, by decide +kernel⟩,
   ⟨15, [], { ch := 2, die := some 1, cw := none, ticket := none, since := 0, deferredSince := none }, { onDie Die.fresh run0 with fl := { (onDie Die.fresh run0).fl with slotRun := some { ch := 2, die := some 1, cw := none, ticket := none, since := 0, deferredSince := none } } }, by decide +kernel⟩,
   ⟨2, { onDie Die.fresh run0 with now := 2000000 }.set FSQ_STATUS_STATE 3 2, by decide +kernel⟩,
   ⟨2, true, [], { onDie Die.fresh run0 with fl := { (onDie Die.fresh run0).fl with chans := [(2, { State.reset.chan 2 with fullRunning := true })] } }, by decide +kernel⟩⟩

/-- The rows of `SampleDetection` can be met. -/
theorem witness_SampleDetection :
  (∃ (ch die : Nat) (o : DieOp) (since : Nat) (s : State), Bound s ∧ (s.readEnds ch die .sampleRead = some (o, since)) ∧ (ch < 64 ∧ die < 32 ∧ s.flashOn = true ∧ s.busFree ch = true)) ∧
  (∃ (ch : Nat) (_bytes : List Nat) (r : Readout) (s : State), Bound s ∧ (s.sd.readouts.look ch = some r) ∧ (ch < 64 ∧ s.flashOn = true ∧ r.burst < 9)) ∧
  (∃ (ch : Nat) (r : Readout) (id : Nat) (s : State), Bound s ∧ (s.sd.readouts.look ch = some r ∧ r.unframed = [] ∧ r.todo = none ∧ r.op.cws = [id] ∧ r.die < 32 ∧ s.cd.decodeQ = []) ∧ (ch < 64 ∧ s.flashOn = true ∧ 9 ≤ r.burst)) ∧
  (∃ (ch : Nat) (r : Readout) (b : Nat) (l : List Nat) (s : State), Bound s ∧ (s.sd.readouts.look ch = some r ∧ r.unframed = b :: l ∧ r.todo = none ∧ (s.die ch r.die).samples.map (·.id) = some r.op.id ∧ r.die < 32 ∧ s.get FSQ_DIE_STATE ch r.die ≠ dieAbsent) ∧ (ch < 64 ∧ s.flashOn = true ∧ 9 ≤ r.burst)) ∧
  (∃ (ch : Nat) (r : Readout) (b id : Nat) (l : List Nat) (s : State), Bound s ∧ (s.sd.readouts.look ch = some r ∧ r.unframed = b :: l ∧ r.todo = none ∧ (s.die ch r.die).samples = none ∧ r.die < 32 ∧ r.op.cws = [id]) ∧ (ch < 64 ∧ s.flashOn = true ∧ 9 ≤ r.burst)) ∧
  (∃ (ch : Nat) (s : State), Bound s ∧ (s.powered = true ∧ ch < 64)) ∧
  (∃ (ch value : Nat) (s : State), Bound s ∧ (bits value 30 24 = 0) ∧ (ch < 64 ∧ s.mode = .service)) :=
  ⟨⟨2, 1, sread, 0, onDie (runs sread) host0, by decide +kernel⟩,
   ⟨2, [], (readout1 sread 0 []), reading1 (cw1 4 .reading) (readout1 sread 0 []) (some sread), by decide +kernel⟩,
   ⟨2, (readout1 sread 9 []), 4, reading1 (cw1 4 .reading) (readout1 sread 9 []) (some sread), by decide +kernel⟩,
   ⟨2, (readout1 sread 9 [3]), 3, [], reading1 (cw1 4 .reading) (readout1 sread 9 [3]) (some sread), by decide +kernel⟩,
   ⟨2, (readout1 sread 9 [3]), 3, 4, [], reading1 (cw1 4 .reading) (readout1 sread 9 [3]) none, by decide +kernel⟩,
   ⟨2, { run0 with sd := { SampleState.reset with classes := [(2, [(0, { o := 0, g := 0, a := 0, gRef := 0, n := 0, taps := [] })])] } }, by decide +kernel⟩,
   ⟨2, 0x80000100, inMode .service, by decide +kernel⟩⟩

/-- The rows of `DecoderCluster` can be met. -/
theorem witness_DecoderCluster :
  (∃ (cw iters word : Nat) (c : Cw) (x : Ctx) (lba : Nat) (s : State), Bound s ∧ (s.cw cw = some c ∧ c.owner = .host x.id lba ∧ s.ctx x.id = some x ∧ x.stage = .issued ∧ x.remaining = 1 ∧ x.remote = none ∧ x.replWait = false ∧ s.stale c = false ∧ c.raceLost = false ∧ c.step < 2 ∧ syndromeZero word = true) ∧ (s.decoding cw = true ∧ iters ≤ s.iterLimit c)) ∧
  (∃ (cw iters word k : Nat) (check : Bool) (c : Cw) (s : State), Bound s ∧ ((check && syndromeZero word) = false ∧ s.cw cw = some c ∧ c.inst = some k ∧ k < 68) ∧ (s.decoding cw = true ∧ iters ≤ s.iterLimit c)) ∧
  (∃ (cw : Nat) (c : Cw) (s : State), Bound s ∧ (s.cw cw = some c ∧ c.step < 3 ∧ s.sampleOff c.ch c.die = false ∧ s.inService c.ch c.die = true ∧ s.chFailed c.ch = false ∧ s.stale c = false ∧ c.raceLost = false ∧ cw ∉ s.cd.decodeQ) ∧ (s.decoding cw = true)) ∧
  (∃ (cw : Nat) (c : Cw) (s : State), Bound s ∧ (s.cw cw = some c ∧ c.step < 3 ∧ s.sampleOff c.ch c.die = false ∧ s.inService c.ch c.die = true ∧ s.chFailed c.ch = false ∧ s.stale c = false ∧ c.raceLost = false ∧ c.stage ≠ .peersOnly) ∧ (s.flashOn = true ∧ s.mode ≠ .detour ∧ c.stepAt + s.stepBudget c.step ≤ s.now)) ∧
  (∃ (k : Nat) (s : State), Bound s ∧ (s.cd.selfTest = none ∧ ((List.range 68).find? fun k => s.get LDC_INST_STATE k == 1) = some k) ∧ (s.powered = true ∧ s.mode ≠ .detour)) ∧
  (∃ s : State, Bound s ∧ (s.cd.selfTest ≠ none) ∧ (s.powered = true ∧ s.mode ≠ .detour)) ∧
  (∃ (k : Nat) (s : State), Bound s ∧ (s.cd.selfTest = none ∧ ((List.range 68).find? fun k => s.get LDC_INST_STATE k == 1) = some k) ∧ (s.flashOn = true ∧ s.mode ≠ .detour ∧ s.get LDC_CFG_ST_PERIOD ≠ 0)) ∧
  (∃ s : State, Bound s ∧ (s.cd.selfTest ≠ none) ∧ (s.flashOn = true ∧ s.mode ≠ .detour ∧ s.get LDC_CFG_ST_PERIOD ≠ 0)) ∧
  (∃ (_pass : Bool) (k : Nat) (tk : Option Nat) (s : State), Bound s ∧ (s.cd.selfTest = some (k, tk) ∧ s.cd.testsWaiting = [] ∧ k < 68 ∧ k ∉ s.cd.activeOrder) ∧ (s.cd.selfTest ≠ none)) :=
  ⟨⟨4, 3, 0, (atDec (cw1 4 .decoding)), { ioCtx0 2 3 1 0 with stage := .issued, remaining := 1 }, 3, { withCw (atDec (cw1 4 .decoding)) with ctxs := [{ ioCtx0 2 3 1 0 with stage := .issued, remaining := 1 }] }, ⟨by decide +kernel, ⟨by decide +kernel, by decide +kernel, by decide +kernel, by decide +kernel, by decide +kernel, by decide +kernel, by decide +kernel, by decide +kernel, by decide +kernel, by decide +kernel, syndromeZero_zero⟩, by decide +kernel⟩⟩,
   ⟨4, 3, 0, 0, false, (atDec (cw1 4 .decoding)), withCw (atDec (cw1 4 .decoding)), by decide +kernel⟩,
   ⟨4, (atDec (cw1 4 .decoding)), withCw (atDec (cw1 4 .decoding)), by decide +kernel⟩,
   ⟨4, (cw1 4 .queued), { withCw (cw1 4 .queued) with now := 150000 }, by decide +kernel⟩,
   ⟨64, run0, by decide +kernel⟩,
   ⟨{ run0 with cd := { CodecState.reset with selfTest := some (64, none) } }, by decide +kernel⟩,
   ⟨64, run0.set LDC_CFG_ST_PERIOD 3, by decide +kernel⟩,
   ⟨{ run0 with cd := { CodecState.reset with selfTest := some (64, none) } }.set LDC_CFG_ST_PERIOD 3, by decide +kernel⟩,
   ⟨true, 64, none, { run0 with cd := { CodecState.reset with selfTest := some (64, none) } }.set LDC_INST_STATE 2 64, by decide +kernel⟩⟩

/-- The rows of `WaypointTable` can be met. -/
theorem witness_WaypointTable :
  (∃ (_index : Nat) (s : State), Bound s ∧ (s.powered = true)) ∧
  (∃ (_index : Nat) (s : State), Bound s ∧ (s.powered = true)) ∧
  (∃ (_index : Nat) (s : State), Bound s ∧ (s.powered = true)) ∧
  (∃ (_index : Nat) (s : State), Bound s ∧ (s.powered = true)) ∧
  (∃ s : State, Bound s ∧ (s.powered = true)) ∧
  (∃ (_upset : Bool) (s : State), Bound s ∧ (s.wpt.shadowBad = []) ∧ (s.powered = true ∧ s.mode ≠ .rest ∧ s.flag WPT_CTRL_SCRUB_EN = true)) :=
  ⟨⟨7, { run0 with wpt := { WptState.reset with rows := [(7, { key := 0x123456789, mask := 0xFF, res := 5, valid := true })], shadows := [(7, { key := 0x123456789, mask := 0xFF, res := 5, valid := true })] } }, by decide +kernel⟩,
   ⟨7, (run0.set WPT_STAGE_KEY_LO 77).set WPT_STAGE_RES_V 1, by decide +kernel⟩,
   ⟨7, run0, by decide +kernel⟩,
   ⟨7, { run0 with wpt := { WptState.reset with rows := [(7, { key := 3, mask := 0xFF, res := 5, valid := true }), (9, { key := 4, mask := 0xFF, res := 6, valid := true })] } }, by decide +kernel⟩,
   ⟨{ run0 with wpt := { WptState.reset with busy := some (3, 2), staged := some { key := 9, mask := 1, res := 1, valid := true }, rows := [(1, { key := 3, mask := 0xFF, res := 5, valid := true }), (2, { key := 4, mask := 0xFF, res := 6, valid := true })] } }, by decide +kernel⟩,
   ⟨true, run0.set WPT_CTRL_SCRUB_EN 1, by decide +kernel⟩⟩

/-- The rows of `PartialParityAndFlush` can be met. -/
theorem witness_PartialParityAndFlush :
  (∃ (acc : Nat) (p : Parity) (z : Zone) (x : Nat) (s : State), Bound s ∧ (s.zn.accs.look acc = some p ∧ s.zn.zones.look p.zkey = some z ∧ z.ctx = some x) ∧ (p.zkey < 2 ^ 48 ∧ p.lastProg + 1000000 ≤ s.now)) ∧
  (∃ (_found : List (Nat × Nat × NMap Nat)) (s : State), Bound s ∧ (s.zn.adm = [] ∧ s.zn.roPending = []) ∧ (s.flag ZNE_STATUS_RECOMP = true ∧ s.inModes [.run, .service] = true)) ∧
  (∃ (key n : Nat) (z : Zone) (m : Member) (s : State), Bound s ∧ (s.nextFlush = some (true, key, n) ∧ s.zn.zones.look key = some z ∧ z.members[slotOfMember z.split z.fn (n % z.d)]? = some m) ∧ (s.mayFlush = true)) ∧
  (∃ (r n tag : Nat) (b : BlockSet) (s : State), Bound s ∧ (s.nextFlush = some (false, r, n) ∧ s.xl.open_.look r = some tag ∧ s.xl.sets.look tag = some b ∧ b.nextRow < 1024) ∧ (s.mayFlush = true)) ∧
  (∃ s : State, Bound s ∧ (s.nextFlush = none) ∧ (s.mayFlush = true)) ∧
  (∃ s : State, Bound s ∧ (s.ctxs = [] ∧ 2 ∉ s.wc.flushBy ∧ 3 ∉ s.wc.flushBy) ∧ (s.wc.flushBy ≠ [] ∧ s.dirtyAll = 0 ∧ s.xl.recs = [])) :=
  ⟨⟨3, { zkey := 16777216, group := 0, row := 0, count := 1, data := [(0, 5)], lastProg := 0, parts := [] }, (zone1 .implicitOpen 8), 0, { run0 with now := 1000000, zn := { ZoneState.reset with zones := [(16777216, zone1 .implicitOpen 8)], accs := [(3, { zkey := 16777216, group := 0, row := 0, count := 1, data := [(0, 5)], lastProg := 0, parts := [] })] } }, by decide +kernel⟩,
   ⟨[], { run0 with zn := { ZoneState.reset with zones := [(16777216, zone1 .implicitOpen 8)], recompPending := [(16777216, 0)] } }.set ZNE_STATUS_RECOMP 1, by decide +kernel⟩,
   ⟨16777216, 0, { zone1 .implicitOpen 200 with members := List.replicate 16 (mem1 0) }, (mem1 0), { onDie Die.fresh run0 with zn := { ZoneState.reset with zones := [(16777216, { zone1 .implicitOpen 200 with members := List.replicate 16 (mem1 0) })] } }, by decide +kernel⟩,
   ⟨0, 0, 5, (set1 0), withPair (cpair1 [(8, 77)]) { onDie Die.fresh (io0 nsConv 0 0 1 0) with wc := { CacheState.reset with flushBy := [0] }, xl := { MapState.reset with map := [(1, [(8, .cache 0 0)])], sets := [(5, set1 0)], open_ := [(0, 5)] } }, by decide +kernel⟩,
   ⟨run0, by decide +kernel⟩,
   ⟨{ host0 with port0 := { readyPort with shst := 1, shut := .normal 3 }, wc := { CacheState.reset with flushBy := [0] } }, by decide +kernel⟩⟩

/-- The rows of `DirtyLimitAndWriteThrough` can be met. -/
theorem witness_DirtyLimitAndWriteThrough :
  (∃ s : State, Bound s ∧ (Quiet s) ∧ (s.powered = true ∧ s.wc.started = true)) ∧
  (∃ (l k : Nat) (s : State), Bound s ∧ (s.wc.raise = some (l, k) ∧ l < 4096 ∧ Quiet s) ∧ (s.powered = true ∧ s.past (s.wc.raise.map (·.2)) 1000000000 = true)) ∧
  (∃ s : State, Bound s ∧ (Quiet s) ∧ (s.powered = true ∧ s.past s.wc.okSince 1000000000 = true)) ∧
  (∃ (_value : Bool) (s : State), Bound s ∧ (Quiet s) ∧ (s.powered = true)) :=
  ⟨⟨{ run0 with wc := { CacheState.reset with started := true } }.set WCU_LIMIT_L 100, by decide +kernel⟩,
   ⟨70, 0, { run0 with now := 1000000000, wc := { CacheState.reset with started := true, raise := some (70, 0) } }, by decide +kernel⟩,
   ⟨(({ run0 with now := 1000000000, wc := { CacheState.reset with started := true, okSince := some 0 } }.set WCU_STATUS_WT_CAUSE 1).set WCU_STATUS_WT 1), by decide +kernel⟩,
   ⟨true, run0, by decide +kernel⟩⟩

/-- The rows of `BufferPool` can be met. -/
theorem witness_BufferPool :
  (∃ (pool owner slice i l : Nat) (internal : Bool) (s : State), Bound s ∧ (s.behind { pool := pool, owner := owner, unit := unitOf owner, slice := slice, internal := internal, gen := s.gen slice, seq := s.zn.nextAdm } s.pool.waiters = false ∧ s.mayAlloc { pool := pool, owner := owner, unit := unitOf owner, slice := slice, internal := internal, gen := s.gen slice, seq := s.zn.nextAdm } = true ∧ s.allocList pool 0 = some l ∧ s.listHead l = some i ∧ s.linkOk l i = true) ∧ (s.powered = true ∧ pool < 2 ∧ owner < 256 ∧ slice < s.sliceCount)) ∧
  (∃ (pool owner slice i l : Nat) (internal : Bool) (s : State), Bound s ∧ (s.behind { pool := pool, owner := owner, unit := unitOf owner, slice := slice, internal := internal, gen := s.gen slice, seq := s.zn.nextAdm } s.pool.waiters = false ∧ s.mayAlloc { pool := pool, owner := owner, unit := unitOf owner, slice := slice, internal := internal, gen := s.gen slice, seq := s.zn.nextAdm } = true ∧ s.allocList pool 0 = some l ∧ s.listHead l = some i ∧ s.linkOk l i = false) ∧ (s.powered = true ∧ pool < 2 ∧ owner < 256 ∧ slice < s.sliceCount)) ∧
  (∃ (pool owner slice : Nat) (internal : Bool) (s : State), Bound s ∧ (s.behind { pool := pool, owner := owner, unit := unitOf owner, slice := slice, internal := internal, gen := s.gen slice, seq := s.zn.nextAdm } s.pool.waiters = true ∨ s.mayAlloc { pool := pool, owner := owner, unit := unitOf owner, slice := slice, internal := internal, gen := s.gen slice, seq := s.zn.nextAdm } = false ∨ s.allocList pool 0 = none) ∧ (s.powered = true ∧ pool < 2 ∧ owner < 256 ∧ slice < s.sliceCount)) ∧
  (∃ (list : Nat) (s : State), Bound s ∧ (s.pool.waiters = [] ∧ Resting s) ∧ (s.powered = true ∧ list ∈ s.pool.broken)) ∧
  (∃ (pool index owner : Nat) (d : BufDesc) (s : State), Bound s ∧ (s.pool.desc.look (bufKey pool index) = some d ∧ d.shared = false ∧ d.owner = owner ∧ s.pool.waiters = []) ∧ (s.powered = true ∧ pool < 2)) ∧
  (∃ (pool index owner : Nat) (s : State), Bound s ∧ ((∀ d ∈ (s.pool.desc.look (bufKey pool index)).toList, d.shared = true ∨ d.owner ≠ owner)) ∧ (s.powered = true ∧ pool < 2)) ∧
  (∃ (pool index owner _newOwner : Nat) (d : BufDesc) (s : State), Bound s ∧ (s.pool.desc.look (bufKey pool index) = some d ∧ d.shared = false ∧ d.owner = owner) ∧ (s.powered = true ∧ pool < 2)) ∧
  (∃ (pool index owner _newOwner : Nat) (s : State), Bound s ∧ ((∀ d ∈ (s.pool.desc.look (bufKey pool index)).toList, d.shared = true ∨ d.owner ≠ owner)) ∧ (s.powered = true ∧ pool < 2)) ∧
  (∃ (pool index owner n : Nat) (d : BufDesc) (s : State), Bound s ∧ (s.pool.desc.look (bufKey pool index) = some d ∧ (d.shared = false → d.owner = owner) ∧ mayShare owner = true ∧ 1 ≤ n ∧ n ≤ 14 ∧ (if d.shared = true then d.refcnt + n else n + 1) ≤ 15) ∧ (s.powered = true ∧ pool < 2)) ∧
  (∃ (pool index owner n : Nat) (d : BufDesc) (s : State), Bound s ∧ (s.pool.desc.look (bufKey pool index) = some d ∧ (d.shared = false ∧ d.owner ≠ owner ∨ mayShare owner = false ∨ 15 < (if d.shared = true then d.refcnt + n else n + 1))) ∧ (s.powered = true ∧ pool < 2)) ∧
  (∃ (pool index _owner : Nat) (d : BufDesc) (s : State), Bound s ∧ (s.pool.desc.look (bufKey pool index) = some d ∧ d.shared = true ∧ s.pool.waiters = []) ∧ (s.powered = true ∧ pool < 2)) ∧
  (∃ (pool index _owner : Nat) (s : State), Bound s ∧ ((∀ d ∈ (s.pool.desc.look (bufKey pool index)).toList, d.shared = false)) ∧ (s.powered = true ∧ pool < 2)) :=
  ⟨⟨0, 0x2B, 0, 0, 0, false, (run0.set BPL_SIZE 3072 0).set SLM_BUDGET 8 0 6, by decide +kernel⟩,
   ⟨0, 0x2B, 0, 7, 0, true, { run0 with pool := { PoolState.reset with heads := [(0, 7)], links := [(14, linkWord 8 9)] } }.set BPL_SIZE 3072 0, by decide +kernel⟩,
   ⟨0, 0x27, 0, false, run0.set SLM_BUDGET 0 0 6, by decide +kernel⟩,
   ⟨0, ({ run0 with pool := { PoolState.reset with broken := [0], heads := [(0, 9)], links := [(18, 0)], desc := [(0, { shared := false, refcnt := 0, owner := 0x2B, slice := 0, internal := true, unit := 1, gen := 0 }), (2, { shared := false, refcnt := 0, owner := 0x2B, slice := 0, internal := true, unit := 1, gen := 0 })] } }.set BPL_SIZE 8 0).set BPL_STATUS_REBUILDING 1, by decide +kernel⟩,
   ⟨0, 3, 0x2B, { shared := false, refcnt := 0, owner := 0x2B, slice := 0, internal := true, unit := 1, gen := 0 }, ({ run0 with pool := { PoolState.reset with desc := [(6, { shared := false, refcnt := 0, owner := 0x2B, slice := 0, internal := true, unit := 1, gen := 0 })] } }.set BPL_SIZE 3072 0), by decide +kernel⟩,
   ⟨0, 3, 0x2B, run0, by decide +kernel⟩,
   ⟨0, 3, 0x2B, 0x27, { shared := false, refcnt := 0, owner := 0x2B, slice := 0, internal := true, unit := 1, gen := 0 }, { run0 with pool := { PoolState.reset with desc := [(6, { shared := false, refcnt := 0, owner := 0x2B, slice := 0, internal := true, unit := 1, gen := 0 })] } }, by decide +kernel⟩,
   ⟨0, 3, 0x2B, 0x27, run0, by decide +kernel⟩,
   ⟨0, 3, 0x2B, 14, { shared := false, refcnt := 0, owner := 0x2B, slice := 0, internal := true, unit := 1, gen := 0 }, { run0 with pool := { PoolState.reset with desc := [(6, { shared := false, refcnt := 0, owner := 0x2B, slice := 0, internal := true, unit := 1, gen := 0 })] } }, by decide +kernel⟩,
   ⟨0, 3, 0x2B, 14, { shared := true, refcnt := 2, owner := 0, slice := 0, internal := true, unit := 1, gen := 0 }, { run0 with pool := { PoolState.reset with desc := [(6, { shared := true, refcnt := 2, owner := 0, slice := 0, internal := true, unit := 1, gen := 0 })] } }, by decide +kernel⟩,
   ⟨0, 3, 0x2B, { shared := true, refcnt := 2, owner := 0, slice := 0, internal := true, unit := 1, gen := 0 }, { run0 with pool := { PoolState.reset with desc := [(6, { shared := true, refcnt := 2, owner := 0, slice := 0, internal := true, unit := 1, gen := 0 })] } }, by decide +kernel⟩,
   ⟨0, 3, 0x2B, run0, by decide +kernel⟩⟩

/-- The rows of `CheckpointsAndRelocation` can be met. -/
theorem witness_CheckpointsAndRelocation :
  (∃ s : State, Bound s ∧ (s.checkpointAllowed = true)) ∧
  (∃ s : State, Bound s ∧ (s.checkpointAllowed = true ∧ s.xl.ckptAt + 60000000000 ≤ s.now)) ∧
  (∃ (r : CkptRun) (s : State), Bound s ∧ (s.xl.run = some r ∧ s.xl.ticketNext = none ∧ s.xl.sinceStart < 1048576 ∧ Quiet s) ∧ (s.inModes [.run, .service] = true ∧ s.flag THM_STATUS_WR_FORBID = false ∧ r.ready = true)) ∧
  (∃ s : State, Bound s ∧ (s.inModes [.run, .service] = true ∧ s.xl.late = false ∧ s.xl.commitAt + 120000000000 ≤ s.now)) ∧
  (∃ (_ms : Nat) (_badRecords : List Nat) (_badFooters : List (Nat × Nat × Nat)) (s : State), Bound s ∧ (Quiet s) ∧ (s.flag XLT_STATUS_RESTART = true ∧ s.inModes [.run, .service] = true)) ∧
  (∃ s : State, Bound s ∧ (Quiet s) ∧ (s.flag XLT_STATUS_REBUILD = true ∧ s.powered = true)) ∧
  (∃ (tag : Nat) (b : BlockSet) (s : State), Bound s ∧ (Quiet s ∧ s.victim = some tag ∧ s.xl.sets.look tag = some b ∧ b.valid = 0 ∧ s.setErasing tag = false ∧ b.retire = none) ∧ (s.mayRelocate = true)) ∧
  (∃ (tag c d k : Nat) (b : BlockSet) (s : State), Bound s ∧ (Quiet s ∧ s.victim = some tag ∧ s.xl.sets.look tag = some b ∧ b.valid = 0 ∧ s.setErasing tag = false ∧ b.retire = some (c, d, k)) ∧ (s.mayRelocate = true)) ∧
  (∃ (tag : Nat) (b : BlockSet) (s : State), Bound s ∧ (Quiet s ∧ s.victim = some tag ∧ s.xl.sets.look tag = some b ∧ b.valid ≠ 0) ∧ (s.mayRelocate = true)) ∧
  (∃ (n : Nat) (s : State), Bound s ∧ (s.powered = true ∧ 0 < n % 256)) ∧
  (∃ (ch die block tag i : Nat) (s : State), Bound s ∧ (s.ownerOf ch die block = some (true, tag, i)) ∧ ((ch, die, block) ∈ s.cd.realloc ∧ s.cd.moving.length < 4 ∧ s.inModes [.run, .service] = true)) ∧
  (∃ (ch die block key i : Nat) (z : Zone) (m : Member) (s : State), Bound s ∧ (s.ownerOf ch die block = some (false, key, i) ∧ s.zn.zones.look key = some z ∧ z.members[i]? = some m) ∧ ((ch, die, block) ∈ s.cd.realloc ∧ s.cd.moving.length < 4 ∧ s.inModes [.run, .service] = true)) ∧
  (∃ (ch die block : Nat) (s : State), Bound s ∧ (s.ownerOf ch die block = none) ∧ ((ch, die, block) ∈ s.cd.realloc ∧ s.cd.moving.length < 4 ∧ s.inModes [.run, .service] = true)) :=
  ⟨⟨run0, by decide +kernel⟩,
   ⟨{ run0 with now := 60000000000 }, by decide +kernel⟩,
   ⟨{ num := 1, s0 := 7, since := 5, full := true, starts := [], todo := [], segs := [], bufs := [], writing := 0, directory := true, first := 0 }, { run0 with xl := { MapState.reset with run := some { num := 1, s0 := 7, since := 5, full := true, starts := [], todo := [], segs := [], bufs := [], writing := 0, directory := true, first := 0 }, recs := [{ nsid := 1, lba := 3, len := 1, lost := false, slice := 0, covered := true }, { nsid := 1, lba := 4, len := 1, lost := false, slice := 0, covered := false }] } }, by decide +kernel⟩,
   ⟨{ run0 with now := 120000000000 }, by decide +kernel⟩,
   ⟨12, [], [], run0.set XLT_STATUS_RESTART 1, by decide +kernel⟩,
   ⟨{ run0 with xl := { MapState.reset with lostSegs := [3] } }.set XLT_STATUS_REBUILD 1, by decide +kernel⟩,
   ⟨3, { set1 4 with closed := true, unprotected := true }, { run0 with xl := { MapState.reset with victims := [3], sets := [(3, { set1 4 with closed := true, unprotected := true })] } }, by decide +kernel⟩,
   ⟨3, 2, 1, 9, { set1 4 with closed := true, retire := some (2, 1, 9) }, { run0 with cd := { CodecState.reset with moving := [(2, 1, 9)] }, xl := { MapState.reset with victims := [3], sets := [(3, { set1 4 with closed := true, retire := some (2, 1, 9) })] } }, by decide +kernel⟩,
   ⟨3, { set1 4 with closed := true, unprotected := true, valid := 1, keys := [{ nsid := 2, lba := 4, seq := 1, slot := 0, reloc := none }] }, bufs { run0 with ns := [(2, nsConv)], xl := { MapState.reset with victims := [3], granules := [(2, [0])], map := [(2, [(4, .flash 3 0)])], sets := [(3, { set1 4 with closed := true, unprotected := true, valid := 1, keys := [{ nsid := 2, lba := 4, seq := 1, slot := 0, reloc := none }] })] } }, by decide +kernel⟩,
   ⟨1, { run0 with xl := { MapState.reset with open_ := [(0, 4)], sets := [(3, { set1 4 with firstProg := 9 }), (4, { set1 4 with firstProg := 2 })] } }, by decide +kernel⟩,
   ⟨2, 1, 9, 3, 0, { run0 with cd := { CodecState.reset with realloc := [(2, 1, 9)] }, xl := { MapState.reset with sets := [(3, set1 4)] } }, by decide +kernel⟩,
   ⟨2, 1, 9, 16777216, 0, { zone1 .full 4 with members := [mem1 4] }, (mem1 4), { run0 with cd := { CodecState.reset with realloc := [(2, 1, 9)] }, zn := { ZoneState.reset with zones := [(16777216, { zone1 .full 4 with members := [mem1 4] })] } }, by decide +kernel⟩,
   ⟨2, 1, 9, { run0 with cd := { CodecState.reset with realloc := [(2, 1, 9)] } }, by decide +kernel⟩⟩

/-- The rows of `HoldUpDetourAndReturn` can be met. -/
theorem witness_HoldUpDetourAndReturn :
  (∃ s : State, Bound s ∧ (s.pw.ao = true ∧ s.hu.lost = false)) ∧
  (∃ s : State, Bound s ∧ (s.pw.seq = .idle ∧ s.md.stopped = false ∧ s.md.restStep = none ∧ (s.md.mode = .run ∨ s.md.mode = .service ∨ s.md.mode = .ret ∨ s.md.mode = .rest)) ∧ (s.pw.ao = true ∧ s.hu.lost = false)) ∧
  (∃ (mv : Nat) (s : State), Bound s ∧ (s.pw.ao = true ∧ s.hu.validSince = none ∧ s.validDv * 100 ≤ mv)) ∧
  (∃ (mv : Nat) (s : State), Bound s ∧ (s.pw.ao = true ∧ s.hu.validSince ≠ none ∧ mv < s.validDv * 100)) ∧
  (∃ (d : Dump) (e : Nat × List Nat) (s : State), Bound s ∧ (s.hu.dump = some d ∧ e ∈ d.queue ∧ e.2 ≠ [] ∧ d.busy.has e.1 = false ∧ s.dumpDieFree e.1 = true) ∧ (s.inModes [.detour] = true ∧ s.dumpPads = true)) ∧
  (∃ (c d : Nat) (x : Dump) (u : Nat) (s : State), Bound s ∧ (s.hu.dump = some x ∧ x.busy.look (dieKey c d) = some u) ∧ (s.inModes [.detour] = true)) ∧
  (∃ (c d : Nat) (x : Dump) (u : Nat) (s : State), Bound s ∧ (s.hu.dump = some x ∧ x.busy.look (dieKey c d) = some u) ∧ (s.inModes [.detour] = true)) ∧
  (∃ (c d outcome : Nat) (x : Dump) (s : State), Bound s ∧ (s.hu.dump = some x ∧ x.busy.look (dieKey c d) = none ∧ dieKey c d ∈ x.dirBusy ∧ outcome < 2) ∧ (s.inModes [.detour] = true)) ∧
  (∃ (c d _outcome : Nat) (s : State), Bound s ∧ (∀ x ∈ s.hu.dump.toList, x.busy.has (dieKey c d) = false ∧ dieKey c d ∉ x.dirBusy)) ∧
  (∃ (c d : Nat) (x : Dump) (u : Nat) (s : State), Bound s ∧ (s.hu.dump = some x ∧ x.busy.look (dieKey c d) = some u ∧ s.inService c d = true ∧ Quiet s ∧ s.zn.zones = [] ∧ s.xl.sets = [] ∧ s.cd.cws = []) ∧ (s.inModes [.detour] = true)) ∧
  (∃ (d : Dump) (s : State), Bound s ∧ (s.hu.dump = some d ∧ d.dirDies ≠ [] ∧ d.empty = false ∧ d.thermal = false ∧ d.fault = false ∧ s.md.offDetour = false ∧ s.hu.validSince ≠ none) ∧ (s.inModes [.detour] = true ∧ d.mayCommit = true)) ∧
  (∃ (d : Dump) (s : State), Bound s ∧ (s.hu.dump = some d ∧ d.dirDies ≠ [] ∧ d.empty = false ∧ d.thermal = false ∧ d.fault = false ∧ s.md.offDetour = false ∧ s.hu.validSince = none ∧ s.pw.seq = .idle ∧ (s.rail 8).enabled = true ∧ (s.rail 7).enabled = true) ∧ (s.inModes [.detour] = true ∧ d.mayCommit = true)) ∧
  (∃ (d : Dump) (s : State), Bound s ∧ (s.hu.dump = some d) ∧ (s.inModes [.detour] = true ∧ d.committedAt = none ∧ s.hu.pack ≠ none)) ∧
  (∃ (d : Dump) (s : State), Bound s ∧ (s.hu.dump = some d ∧ s.md.offHeld = false ∧ s.md.holdWrite = false) ∧ (s.inModes [.detour] = true ∧ d.committedAt ≠ none ∧ d.thermal = false ∧ d.fault = false ∧ s.md.offDetour = false ∧ s.inputStood = true)) ∧
  (∃ (_lostUnits : List Nat) (s : State), Bound s ∧ (s.recordSlot = none ∧ s.hu.live = [] ∧ s.md.undecoded = [] ∧ s.wc.pairs = [] ∧ s.md.offHeld = false ∧ s.md.holdWrite = false ∧ s.get PSC_STATUS_HOLD_HOST = s.get PSC_CTRL_HOLD_REQ) ∧ (s.inModes [.ret] = true ∧ s.mayEndReturn = true)) ∧
  (∃ s : State, Bound s ∧ (s.inModes [.ret] = true ∧ s.past s.hu.ret (1000000000 * s.get HUC_SUPPLY_CFG_RET_WAIT_S) = true)) :=
  ⟨⟨run0, by decide +kernel⟩,
   ⟨packed 3 run0, by decide +kernel⟩,
   ⟨12000, run0, by decide +kernel⟩,
   ⟨9000, { run0 with hu := { HoldState.reset with validSince := some 0 } }, by decide +kernel⟩,
   ⟨(dump0 [(3, [0])] []), (3, [0]), detour0 (dump0 [(3, [0])] []), by decide +kernel⟩,
   ⟨0, 3, (dump0 [(3, [])] [(3, 0)]), 0, detour0 (dump0 [(3, [])] [(3, 0)]), by decide +kernel⟩,
   ⟨0, 3, (dump0 [(3, [])] [(3, 0)]), 0, detour0 (dump0 [(3, [])] [(3, 0)]), by decide +kernel⟩,
   ⟨0, 3, 0, { dump0 [(3, [])] [] with dirBusy := [3] }, detour0 { dump0 [(3, [])] [] with dirBusy := [3] }, by decide +kernel⟩,
   ⟨0, 4, 0, detour0 (dump0 [(3, [])] [(3, 0)]), by decide +kernel⟩,
   ⟨0, 3, (dump0 [(3, [])] [(3, 0)]), 0, (detour0 (dump0 [(3, [])] [(3, 0)])).set FSQ_DIE_STATE 1 0 3, by decide +kernel⟩,
   ⟨{ dump0 [(3, [])] [] with dirs := [3] }, { detour0 { dump0 [(3, [])] [] with dirs := [3] } with hu := { (detour0 { dump0 [(3, [])] [] with dirs := [3] }).hu with validSince := some 0 } }, by decide +kernel⟩,
   ⟨{ dump0 [(3, [])] [] with dirs := [3] }, { detour0 { dump0 [(3, [])] [] with dirs := [3] } with pw := { PowerState.reset with ao := true, rails := [(0, onRail), (1, onRail), (7, onRail), (8, onRail)] } }, by decide +kernel⟩,
   ⟨(dump0 [(3, [])] [(3, 0)]), detour0 (dump0 [(3, [])] [(3, 0)]), by decide +kernel⟩,
   ⟨{ dump0 [(3, [])] [] with dirs := [3], committedAt := some 5 }, { detour0 { dump0 [(3, [])] [] with dirs := [3], committedAt := some 5 } with now := 1000000000, hu := { (detour0 { dump0 [(3, [])] [] with dirs := [3], committedAt := some 5 }).hu with validSince := some 0, records := [(0, { (dump0 [] []).record with committed := true })] } }, by decide +kernel⟩,
   ⟨[], inMode .ret, by decide +kernel⟩,
   ⟨{ inMode .ret with now := 60000000000, hu := { HoldState.reset with ret := some 0 } }.set HUC_SUPPLY_CFG_RET_WAIT_S 60, by decide +kernel⟩⟩

/-- The rows of `PackGaugeAndCharger` can be met. -/
theorem witness_PackGaugeAndCharger :
  (∃ (_volts : Nat) (_amps _temp : Int) (s : State), Bound s ∧ (s.gaugeOn = true)) ∧
  (∃ s : State, Bound s ∧ (s.md.mode ≠ .rest) ∧ (s.powered = true)) ∧
  (∃ s : State, Bound s ∧ (s.md.mode = .rest) ∧ (s.powered = true)) ∧
  (∃ (_ocv : Nat) (s : State), Bound s ∧ (s.hu.learn = none ∧ tempOk s.hu.temp = true) ∧ (s.gaugeOn = true ∧ s.past s.hu.restSince 1800000000000 = true ∧ (s.gauge = gsRest ∨ s.gauge = gsForced))) ∧
  (∃ (_ocv : Nat) (s : State), Bound s ∧ (s.hu.learn = none ∧ tempOk s.hu.temp = false) ∧ (s.gaugeOn = true ∧ s.past s.hu.restSince 1800000000000 = true ∧ (s.gauge = gsRest ∨ s.gauge = gsForced))) ∧
  (∃ (_ocv : Nat) (l : Learn) (s : State), Bound s ∧ (s.hu.learn = some l ∧ l.step = 1) ∧ (s.gaugeOn = true ∧ s.past s.hu.restSince 1800000000000 = true)) ∧
  (∃ s : State, Bound s ∧ (s.forcedOk = false) ∧ (s.packSound = true ∧ s.powered = true ∧ s.gauge ≠ gsForced ∧ s.flag HUC_STATUS_NO_REST = false ∧ s.hu.lastRest + 3600000 * (if s.get HUC_GAUGE_CFG_REST_MAX_H = 0 then 72 else s.get HUC_GAUGE_CFG_REST_MAX_H) ≤ s.ms.opMs)) ∧
  (∃ s : State, Bound s ∧ (s.forcedOk = true) ∧ (s.packSound = true ∧ s.powered = true ∧ s.gauge ≠ gsForced ∧ s.flag HUC_STATUS_NO_REST = false ∧ s.hu.lastRest + 3600000 * (if s.get HUC_GAUGE_CFG_REST_MAX_H = 0 then 72 else s.get HUC_GAUGE_CFG_REST_MAX_H) ≤ s.ms.opMs)) ∧
  (∃ s : State, Bound s ∧ (s.powered = true ∧ s.packSound = true)) ∧
  (∃ s : State, Bound s ∧ (s.packSound = true ∧ s.powered = true ∧ s.hu.hourAt + 3600000 ≤ s.ms.opMs)) ∧
  (∃ s : State, Bound s ∧ (s.gaugeOn = true ∧ s.past s.hu.disagreeSince 60000000000 = true ∧ s.flag HUC_STATUS_DISAGREE = false)) ∧
  (∃ s : State, Bound s ∧ (s.powered = true ∧ s.packSound = true)) ∧
  (∃ s : State, Bound s ∧ (s.powered = true ∧ s.zStepOk = true ∧ s.zDue = true)) ∧
  (∃ (dv di : Nat) (s : State), Bound s ∧ (0 < di ∧ dv * 8000 / di ≤ s.packId.zMax ∧ s.hu.zTicket = none) ∧ (s.powered = true ∧ s.past s.hu.zStep 10000000 = true)) ∧
  (∃ (dv di : Nat) (s : State), Bound s ∧ (0 < di ∧ s.packId.zMax < min (dv * 8000 / di) 65535) ∧ (s.powered = true ∧ s.past s.hu.zStep 10000000 = true)) ∧
  (∃ (_dv di : Nat) (s : State), Bound s ∧ (di = 0) ∧ (s.powered = true ∧ s.past s.hu.zStep 10000000 = true)) ∧
  (∃ s : State, Bound s ∧ (s.powered = true ∧ s.past s.hu.zStep 20000000 = true)) :=
  ⟨⟨530000, 800, 25, packed 3 run0, by decide +kernel⟩,
   ⟨packed 3 run0, by decide +kernel⟩,
   ⟨packed 3 (inMode .rest), by decide +kernel⟩,
   ⟨500000, { packed 4 run0 with now := 1800000000000, hu := { (packed 4 run0).hu with restSince := some 0 } }, by decide +kernel⟩,
   ⟨500000, { packed 4 run0 with now := 1800000000000, hu := { (packed 4 run0).hu with restSince := some 0, temp := -15 } }, by decide +kernel⟩,
   ⟨500000, { step := 1, f1 := (0, 1), out := 0, since := 0, avg := [], ticket := none }, { packed 6 run0 with now := 1800000000000, hu := { (packed 6 run0).hu with restSince := some 0, learn := some { step := 1, f1 := (0, 1), out := 0, since := 0, avg := [], ticket := none } } }, by decide +kernel⟩,
   ⟨{ packed 3 run0 with ms := { MilestoneState.reset with opMs := 259200000 }, hu := { (packed 3 run0).hu with u := 200 * qJ } }, by decide +kernel⟩,
   ⟨{ packed 3 run0 with ms := { MilestoneState.reset with opMs := 259200000 } }, by decide +kernel⟩,
   ⟨packed 3 run0, by decide +kernel⟩,
   ⟨{ packed 3 run0 with ms := { MilestoneState.reset with opMs := 3600000 } }, by decide +kernel⟩,
   ⟨{ packed 3 run0 with now := 60000000000, hu := { (packed 3 run0).hu with disagreeSince := some 0 } }, by decide +kernel⟩,
   ⟨packed 3 run0, by decide +kernel⟩,
   ⟨{ packed 3 run0 with hu := { (packed 3 run0).hu with zMade := false } }, by decide +kernel⟩,
   ⟨10, 800, { packed 1 run0 with now := 10000000, hu := { (packed 1 run0).hu with zStep := some 0 } }, by decide +kernel⟩,
   ⟨1000, 800, { packed 3 run0 with now := 10000000, hu := { (packed 3 run0).hu with zStep := some 0 } }, by decide +kernel⟩,
   ⟨10, 0, { packed 3 run0 with now := 10000000, hu := { (packed 3 run0).hu with zStep := some 0 } }, by decide +kernel⟩,
   ⟨{ packed 3 run0 with now := 20000000, hu := { (packed 3 run0).hu with zStep := some 0 } }, by decide +kernel⟩⟩

/-- The rows of `PackFailureLifeAndLearning` can be met. -/
theorem witness_PackFailureLifeAndLearning :
  (∃ s : State, Bound s ∧ (s.gauge ≠ gsFailed) ∧ (s.gaugeOn = true ∧ s.past s.hu.hotSince 3600000000000 = true)) ∧
  (∃ s : State, Bound s ∧ (s.gauge = gsFailed) ∧ (s.gaugeOn = true ∧ s.past s.hu.hotSince 3600000000000 = true)) ∧
  (∃ s : State, Bound s ∧ (s.gauge ≠ gsFailed) ∧ (s.powered = true ∧ s.past s.hu.chgSince 14400000000000 = true)) ∧
  (∃ s : State, Bound s ∧ (s.gauge = gsFailed) ∧ (s.powered = true ∧ s.past s.hu.chgSince 14400000000000 = true)) ∧
  (∃ (found : PackFound) (p : PackId) (s : State), Bound s ∧ (parseIdent found.ident = some p ∧ found.lifeA = [] ∧ found.lifeB = []) ∧ (s.powered = true ∧ s.hu.pack = none)) ∧
  (∃ (found : PackFound) (s : State), Bound s ∧ (parseIdent found.ident = none) ∧ (s.powered = true ∧ s.hu.pack = none)) ∧
  (∃ s : State, Bound s ∧ (s.powered = true ∧ s.hu.pack ≠ none)) ∧
  (∃ s : State, Bound s ∧ (s.powered = true ∧ s.packSound = true ∧ s.hu.learn = none)) ∧
  (∃ s : State, Bound s ∧ (s.powered = true ∧ s.learnOk = true ∧ s.learnDue = true)) ∧
  (∃ (_ocv : Nat) (l : Learn) (s : State), Bound s ∧ (s.hu.learn = some l) ∧ (s.powered = true ∧ l.step = 3 ∧ l.since + 1800000000000 ≤ s.now)) ∧
  (∃ s : State, Bound s ∧ (s.hu.identOk = true ∧ s.flag PSC_STATUS_HOLD_NOCFG = false) ∧ (s.powered = true ∧ s.hu.pack ≠ none ∧ s.hu.lifeAt + 86400000 ≤ s.ms.opMs)) :=
  ⟨⟨{ packed 3 run0 with now := 3600000000000, hu := { (packed 3 run0).hu with hotSince := some 0 } }, by decide +kernel⟩,
   ⟨{ packed 8 run0 with now := 3600000000000, hu := { (packed 8 run0).hu with hotSince := some 0 } }, by decide +kernel⟩,
   ⟨{ packed 3 run0 with now := 14400000000000, hu := { (packed 3 run0).hu with chgSince := some 0 } }, by decide +kernel⟩,
   ⟨{ packed 8 run0 with now := 14400000000000, hu := { (packed 8 run0).hu with chgSince := some 0 } }, by decide +kernel⟩,
   ⟨{ ident := identBytes pack0, lifeA := [], lifeB := [], history := [], volts := 500000 }, pack0, run0, by decide +kernel⟩,
   ⟨{ ident := [], lifeA := [], lifeB := [], history := [], volts := 500000 }, run0, by decide +kernel⟩,
   ⟨packed 3 run0, by decide +kernel⟩,
   ⟨packed 3 run0, by decide +kernel⟩,
   ⟨{ packed 3 run0 with hu := { (packed 3 run0).hu with learnHeld := true } }, by decide +kernel⟩,
   ⟨400000, { step := 3, f1 := (1, 1), out := 100 * qJ, since := 0, avg := [], ticket := none }, { packed 6 run0 with now := 1800000000000, hu := { (packed 6 run0).hu with learn := some { step := 3, f1 := (1, 1), out := 100 * qJ, since := 0, avg := [], ticket := none } } }, by decide +kernel⟩,
   ⟨{ packed 3 run0 with ms := { MilestoneState.reset with opMs := 86400000 } }, by decide +kernel⟩⟩

/-- The rows of `RailsAndPowerUp` can be met. -/
theorem witness_RailsAndPowerUp :
  (∃ (rail dir mv ns : Nat) (s : State), Bound s ∧ (1 ≤ rail ∧ rail < 10 ∧ ((s.rail rail).armed = true ∨ (s.rail rail).waiting = true ∧ dir = 2) ∨ rail = 10 ∧ dir = 2 ∨ rail = 11 ∧ dir < 3 ∧ s.flag PSQ_STATUS_HUB_ARMED = true) ∧ (s.pw.ao = true ∧ s.declares rail dir mv ns = true)) ∧
  (∃ (rail dir mv ns : Nat) (s : State), Bound s ∧ (rail = 10 ∧ dir = 1) ∧ (s.pw.ao = true ∧ s.declares rail dir mv ns = true)) ∧
  (∃ (rail dir mv ns : Nat) (s : State), Bound s ∧ (1 ≤ rail ∧ rail < 10 ∧ (s.rail rail).armed = false ∧ ((s.rail rail).waiting = false ∨ dir ≠ 2) ∨ rail = 10 ∧ dir = 3 ∨ rail = 11 ∧ (3 ≤ dir ∨ s.flag PSQ_STATUS_HUB_ARMED = false) ∨ 12 ≤ rail) ∧ (s.pw.ao = true ∧ s.declares rail dir mv ns = true)) ∧
  (∃ (rail dir mv ns : Nat) (s : State), Bound s ∧ (rail = 0) ∧ (s.pw.ao = true ∧ s.declares rail dir mv ns = true)) ∧
  (∃ s : State, Bound s) ∧
  (∃ (_split _recover _test : Bool) (s : State), Bound s ∧ (s.mayStart = true)) ∧
  (∃ (rail _k : Nat) (s : State), Bound s ∧ (s.pw.ao = true ∧ (s.rail rail).waiting = true)) ∧
  (∃ (rail : Nat) (_env : BootEnv) (k : Nat) (s : State), Bound s ∧ (s.pw.seq = .up k true ∧ 1 ≤ k ∧ k < 9 ∧ stepRail k = rail ∧ s.pw.offPend = none) ∧ (s.pw.ao = true ∧ (s.rail rail).enabled = true ∧ (s.rail rail).waiting = false ∧ (s.rail rail).armed = false ∧ (s.rail rail).since + s.settleWait ≤ s.now)) ∧
  (∃ (rail : Nat) (_env : BootEnv) (k c : Nat) (s : State), Bound s ∧ (s.pw.seq = .up k true ∧ 1 ≤ k ∧ k ≤ 9 ∧ stepRail k = rail ∧ s.pw.offPend = some c) ∧ (s.pw.ao = true ∧ (s.rail rail).enabled = true ∧ (s.rail rail).waiting = false ∧ (s.rail rail).armed = false ∧ (s.rail rail).since + s.settleWait ≤ s.now)) ∧
  (∃ (rail : Nat) (_env : BootEnv) (s : State), Bound s ∧ (s.pw.seq = .up 9 true ∧ rail = 7 ∧ s.pw.offPend = none ∧ s.pw.testMode = false ∧ s.pw.recover = true) ∧ (s.pw.ao = true ∧ (s.rail rail).enabled = true ∧ (s.rail rail).waiting = false ∧ (s.rail rail).armed = false ∧ (s.rail rail).since + s.settleWait ≤ s.now)) ∧
  (∃ (rail : Nat) (_env : BootEnv) (s : State), Bound s ∧ (s.pw.seq = .up 9 true ∧ rail = 7 ∧ s.pw.offPend = none ∧ s.pw.testMode = true) ∧ (s.pw.ao = true ∧ (s.rail rail).enabled = true ∧ (s.rail rail).waiting = false ∧ (s.rail rail).armed = false ∧ (s.rail rail).since + s.settleWait ≤ s.now)) ∧
  (∃ (rail : Nat) (_env : BootEnv) (s : State), Bound s ∧ (s.pw.seq = .idle) ∧ (s.pw.ao = true ∧ (s.rail rail).enabled = true ∧ (s.rail rail).waiting = false ∧ (s.rail rail).armed = false ∧ (s.rail rail).since + s.settleWait ≤ s.now)) ∧
  (∃ (rail : Nat) (s : State), Bound s ∧ (s.md.mode = .off ∧ 1 ≤ rail ∧ rail < 10 ∧ (s.rail rail).enabled = true ∧ (match s.pw.seq with | .up _ _ => true | _ => false) = true) ∧ (s.pw.ao = true ∧ (s.rail rail).waiting = true ∧ (s.rail rail).since + s.pgWait ≤ s.now)) ∧
  (∃ (rail : Nat) (s : State), Bound s ∧ (s.pw.seq = .idle ∧ (rail = 3 ∨ rail = 4) ∧ s.get QEN_LINK_UP 0 = 0 ∧ s.get QEN_LINK_UP 1 = 0 ∧ Resting s) ∧ (s.pw.ao = true ∧ (s.rail rail).waiting = true ∧ (s.rail rail).since + s.pgWait ≤ s.now)) ∧
  (∃ (rail : Nat) (s : State), Bound s ∧ (s.pw.seq = .idle ∧ rail ≠ 3 ∧ rail ≠ 4) ∧ (s.pw.ao = true ∧ (s.rail rail).waiting = true ∧ (s.rail rail).since + s.pgWait ≤ s.now)) ∧
  (∃ (_rail k : Nat) (s : State), Bound s ∧ (s.pw.seq = .down k)) ∧
  (∃ s : State, Bound s ∧ (s.pw.ao = true ∧ s.pw.hubOn = true ∧ s.flag PSQ_STATUS_HUB_ARMED = false)) ∧
  (∃ (_bits : Nat) (s : State), Bound s ∧ (s.inModes [.run, .service] = true)) ∧
  (∃ (_output : Nat) (s : State), Bound s) ∧
  (∃ (sensor mv : Nat) (s : State), Bound s ∧ (s.flag DRG_CFG_EN = true ∧ s.pw.droopSince = none) ∧ ((s.rail 1).armed = true ∧ sensor < 24 ∧ s.sags mv = true)) ∧
  (∃ (sensor mv : Nat) (s : State), Bound s ∧ (s.flag DRG_CFG_EN = false) ∧ ((s.rail 1).armed = true ∧ sensor < 24 ∧ s.sags mv = true)) ∧
  (∃ (k : Nat) (s : State), Bound s ∧ (s.pw.droopSince = some k)) ∧
  (∃ s : State, Bound s ∧ ((∃ u ∈ s.pw.droopSince.toList, u + 1000 * (if s.get DRG_CFG_LONG_US = 0 then 100 else s.get DRG_CFG_LONG_US) < s.now) ∧ s.pw.droopLong = false)) ∧
  (∃ s : State, Bound s ∧ (s.recordSlot = none ∧ s.hu.live = [] ∧ s.md.undecoded = [] ∧ s.wc.pairs = [] ∧ s.md.offHeld = false ∧ s.md.holdWrite = false ∧ s.md.holdWait = false ∧ s.md.stopped = false ∧ s.pw.seq = .idle) ∧ (s.inModes [.boot] = true ∧ s.fw.bootRom = false ∧ s.fw.boot ≠ none)) ∧
  (∃ (n : Nat) (s : State), Bound s ∧ (s.recordSlot = some n ∧ s.md.offHeld = false ∧ s.md.holdWrite = false ∧ s.md.stopped = false ∧ s.pw.seq = .idle) ∧ (s.inModes [.boot] = true ∧ s.fw.bootRom = false ∧ s.fw.boot ≠ none)) :=
  ⟨⟨1, 2, 5000, 50000, run0, by decide +kernel⟩,
   ⟨10, 1, 5000, 50000, run0, by decide +kernel⟩,
   ⟨5, 3, 10, 50000, run0, by decide +kernel⟩,
   ⟨0, 1, 10, 50000, run0, by decide +kernel⟩,
   ⟨State.reset, by decide +kernel⟩,
   ⟨true, false, false, { inMode .off with now := 10000000, pw := { PowerState.reset with ao := true, onLatched := true }, hu := { HoldState.reset with validSince := some 0 } }, by decide +kernel⟩,
   ⟨2, 2, { inMode .off with pw := { PowerState.reset with ao := true, seq := .up 2 false, rails := [(2, { enabled := true, waiting := true, armed := false, inWindow := false, since := 0 })] } }, by decide +kernel⟩,
   ⟨2, env0, 2, { inMode .off with now := 100000000, pw := { PowerState.reset with ao := true, seq := .up 2 true, rails := [(2, { enabled := true, waiting := false, armed := false, inWindow := true, since := 0 })] } }, by decide +kernel⟩,
   ⟨2, env0, 2, 1, { inMode .off with now := 100000000, pw := { PowerState.reset with ao := true, offPend := some 1, seq := .up 2 true, rails := [(2, { enabled := true, waiting := false, armed := false, inWindow := true, since := 0 })] } }, by decide +kernel⟩,
   ⟨7, env0, { inMode .off with now := 100000000, pw := { PowerState.reset with ao := true, recover := true, seq := .up 9 true, rails := [(7, { enabled := true, waiting := false, armed := false, inWindow := true, since := 0 })] } }, by decide +kernel⟩,
   ⟨7, env0, { inMode .off with now := 100000000, pw := { PowerState.reset with ao := true, testMode := true, seq := .up 9 true, rails := [(7, { enabled := true, waiting := false, armed := false, inWindow := true, since := 0 })] } }, by decide +kernel⟩,
   ⟨3, env0, { run0 with now := 100000000, pw := { run0.pw with rails := [(3, { enabled := true, waiting := false, armed := false, inWindow := true, since := 0 }), (4, onRail)] } }, by decide +kernel⟩,
   ⟨2, { inMode .off with now := 100000000, pw := { PowerState.reset with ao := true, seq := .up 2 false, rails := [(2, { enabled := true, waiting := true, armed := false, inWindow := false, since := 0 })] } }, by decide +kernel⟩,
   ⟨3, { run0 with now := 100000000, pw := { PowerState.reset with ao := true, rails := [(3, { enabled := true, waiting := true, armed := false, inWindow := false, since := 0 })] } }, by decide +kernel⟩,
   ⟨1, { run0 with now := 100000000, pw := { PowerState.reset with ao := true, rails := [(1, { enabled := true, waiting := true, armed := false, inWindow := false, since := 0 })] } }, by decide +kernel⟩,
   ⟨3, 4, { run0 with now := 100000000, pw := { run0.pw with seq := .down 4, rails := [(3, { enabled := true, waiting := true, armed := false, inWindow := false, since := 0 })] } }, by decide +kernel⟩,
   ⟨{ run0 with pw := { run0.pw with hubOn := true } }, by decide +kernel⟩,
   ⟨3, run0, by decide +kernel⟩,
   ⟨0, { run0 with now := 5, pw := { run0.pw with rsto := (true, true), rstoUntil := (some 5, some 6) } }, by decide +kernel⟩,
   ⟨3, 600, run0.set DRG_CFG_EN 1, by decide +kernel⟩,
   ⟨3, 600, run0.set DRG_CFG_EN 0, by decide +kernel⟩,
   ⟨5, { run0 with now := 9005, pw := { run0.pw with droopSince := some 5 } }, by decide +kernel⟩,
   ⟨{ run0 with now := 10000000, pw := { run0.pw with droopSince := some 5 } }, by decide +kernel⟩,
   ⟨boot0, by decide +kernel⟩,
   ⟨0, { boot0 with hu := { HoldState.reset with records := [(0, { (dump0 [] []).record with committed := true })] } }, by decide +kernel⟩⟩

/-- The rows of `PowerDown` can be met. -/
theorem witness_PowerDown :
  (∃ s : State, Bound s ∧ ((s.md.mode = .run ∨ s.md.mode = .service) ∧ s.pw.seq = .idle ∧ s.md.restStep = none ∧ s.md.offSince = none ∧ s.flag THM_STATUS_WR_FORBID = false ∧ s.wc.pairs = []) ∧ (s.powered = true)) ∧
  (∃ s : State, Bound s ∧ ((s.md.mode = .boot ∨ s.md.mode = .hold) ∧ s.pw.seq = .idle ∧ (s.rail 8).enabled = true ∧ (s.rail 7).enabled = true) ∧ (s.powered = true)) ∧
  (∃ s : State, Bound s ∧ (s.restIdle = true ∧ s.pw.seq = .idle) ∧ (s.powered = true)) ∧
  (∃ s : State, Bound s ∧ (s.md.restStep = none) ∧ (s.inModes [.run, .service] = true ∧ s.past s.md.offSince 1000000000 = true)) ∧
  (∃ (k : Nat) (s : State), Bound s ∧ (1 ≤ k ∧ k ≤ 9 ∧ (s.rail (stepRail k)).enabled = true ∧ RailsOff k 10 s) ∧ (s.pw.seq = .down 10 ∧ ((∀ e ∈ s.fl.dies, e.2.run = none) ∨ s.pw.stepSince + 12000000 ≤ s.now))) ∧
  (∃ (rail k j : Nat) (s : State), Bound s ∧ (s.pw.seq = .down k ∧ 1 ≤ j ∧ j < k ∧ k ≤ 9 ∧ stepRail k = rail ∧ (s.rail (stepRail j)).enabled = true ∧ RailsOff j k s)) ∧
  (∃ (rail k : Nat) (s : State), Bound s ∧ (s.pw.seq = .down k ∧ 1 ≤ k ∧ k ≤ 9 ∧ stepRail k = rail ∧ s.pw.making.cause = 1 ∧ s.fc.fatal = false ∧ RailsOff 0 k s)) ∧
  (∃ (rail : Nat) (s : State), Bound s ∧ (s.fallingRail rail = none)) ∧
  (∃ (rail k j : Nat) (s : State), Bound s ∧ (s.pw.seq = .down k ∧ 1 ≤ j ∧ j < k ∧ k ≤ 9 ∧ stepRail k = rail ∧ (s.rail (stepRail j)).enabled = true ∧ RailsOff j k s) ∧ (s.pw.stepSince + s.dischWait ≤ s.now)) ∧
  (∃ (rail k : Nat) (s : State), Bound s ∧ (s.pw.seq = .down k ∧ 1 ≤ k ∧ k ≤ 9 ∧ stepRail k = rail ∧ s.pw.making.cause = 1 ∧ s.fc.fatal = false ∧ RailsOff 0 k s) ∧ (s.pw.stepSince + s.dischWait ≤ s.now)) ∧
  (∃ (rail : Nat) (s : State), Bound s ∧ (s.fallingRail rail = none)) :=
  ⟨⟨run0, by decide +kernel⟩,
   ⟨{ inMode .hold with pw := { PowerState.reset with ao := true, rails := [(0, onRail), (1, onRail), (7, onRail), (8, onRail)] } }, by decide +kernel⟩,
   ⟨{ inMode .rest with pw := { PowerState.reset with ao := true } }, by decide +kernel⟩,
   ⟨{ run0 with now := 1000000000, md := { run0.md with offSince := some 0 } }, by decide +kernel⟩,
   ⟨9, { run0 with pw := { PowerState.reset with ao := true, seq := .down 10, rails := [(0, onRail), (1, onRail), (7, onRail), (8, onRail)] } }, by decide +kernel⟩,
   ⟨7, 9, 8, { run0 with pw := { PowerState.reset with ao := true, seq := .down 9, rails := [(0, onRail), (1, onRail), (8, onRail)] } }, by decide +kernel⟩,
   ⟨1, 1, { run0 with pw := { PowerState.reset with ao := true, seq := .down 1, making := { OffRec.none with cause := 1 }, rails := [(0, onRail)] } }, by decide +kernel⟩,
   ⟨5, run0, by decide +kernel⟩,
   ⟨7, 9, 8, { run0 with now := 100000000, pw := { PowerState.reset with ao := true, seq := .down 9, rails := [(0, onRail), (1, onRail), (8, onRail)] } }, by decide +kernel⟩,
   ⟨1, 1, { run0 with now := 100000000, pw := { PowerState.reset with ao := true, seq := .down 1, making := { OffRec.none with cause := 1 }, rails := [(0, onRail)] } }, by decide +kernel⟩,
   ⟨5, run0, by decide +kernel⟩⟩

/-- The rows of `ModesHoldAndThermalAck` can be met. -/
theorem witness_ModesHoldAndThermalAck :
  (∃ s : State, Bound s ∧ (s.md.mode = .service ∧ s.inTransition = false ∧ s.wc.pairs = [] ∧ s.flag PSC_STATUS_HOLD_NOCFG = false ∧ s.flag PSC_STATUS_HOLD_THERM = false ∧ s.flag PSC_CTRL_HOLD_REQ = false) ∧ (s.powered = true)) ∧
  (∃ s : State, Bound s ∧ (s.md.mode = .service ∧ s.inTransition = false ∧ s.wc.pairs = [] ∧ (s.flag PSC_STATUS_HOLD_NOCFG || s.flag PSC_STATUS_HOLD_THERM || s.flag PSC_CTRL_HOLD_REQ) = true) ∧ (s.powered = true)) ∧
  (∃ s : State, Bound s ∧ (s.md.mode ≠ .service ∨ s.inTransition = true) ∧ (s.powered = true)) ∧
  (∃ s : State, Bound s ∧ (s.md.mode = .run ∧ s.inTransition = false) ∧ (s.powered = true)) ∧
  (∃ s : State, Bound s ∧ ((s.md.mode ≠ .run ∧ s.md.mode ≠ .hold) ∨ s.inTransition = true) ∧ (s.powered = true)) ∧
  (∃ s : State, Bound s ∧ (s.md.mode = .hold ∧ s.inTransition = false ∧ s.wc.pairs = []) ∧ (s.powered = true)) ∧
  (∃ s : State, Bound s ∧ ((s.md.mode = .run ∨ s.md.mode = .service) ∧ s.inTransition = false ∧ s.wc.pairs = []) ∧ (s.powered = true)) ∧
  (∃ s : State, Bound s ∧ ((s.md.mode = .rest ∨ s.md.mode = .detour) ∨ ((s.md.mode = .run ∨ s.md.mode = .service) ∧ s.inTransition = true)) ∧ (s.powered = true)) ∧
  (∃ s : State, Bound s ∧ (s.powered = true)) ∧
  (∃ (r : ThermRec) (s : State), Bound s ∧ (s.ms.therm = some r ∧ r.acked = false ∧ s.md.mode ≠ .hold) ∧ (s.powered = true)) ∧
  (∃ s : State, Bound s ∧ (∀ r ∈ s.ms.therm.toList, r.acked = true) ∧ (s.powered = true)) ∧
  (∃ (r : ThermRec) (s : State), Bound s ∧ (s.ms.therm = some r ∧ r.acked = false ∧ s.coolEnough = true ∧ s.md.mode = .hold ∧ s.inTransition = false ∧ s.wc.pairs = [] ∧ s.flag PSC_STATUS_HOLD_NOCFG = false ∧ s.flag PSC_CTRL_HOLD_REQ = false) ∧ (s.powered = true)) :=
  ⟨⟨inMode .service, by decide +kernel⟩,
   ⟨(inMode .service).set PSC_CTRL_HOLD_REQ 1, by decide +kernel⟩,
   ⟨run0, by decide +kernel⟩,
   ⟨run0, by decide +kernel⟩,
   ⟨inMode .service, by decide +kernel⟩,
   ⟨inMode .hold, by decide +kernel⟩,
   ⟨run0, by decide +kernel⟩,
   ⟨inMode .rest, by decide +kernel⟩,
   ⟨(inMode .hold).set PSC_CTRL_HOLD_REQ 1, by decide +kernel⟩,
   ⟨{ immediate := false, saved := true, noSave := false, acked := false, mode := 4, jmax := 480, sensor := 3, hours := 1, ms := 2, cycles := 3, ext := [] }, { run0 with ms := { MilestoneState.reset with therm := some { immediate := false, saved := true, noSave := false, acked := false, mode := 4, jmax := 480, sensor := 3, hours := 1, ms := 2, cycles := 3, ext := [] } } }, by decide +kernel⟩,
   ⟨run0, by decide +kernel⟩,
   ⟨{ immediate := false, saved := true, noSave := false, acked := false, mode := 4, jmax := 480, sensor := 3, hours := 1, ms := 2, cycles := 3, ext := [] }, { inMode .hold with ms := { MilestoneState.reset with therm := some { immediate := false, saved := true, noSave := false, acked := false, mode := 4, jmax := 480, sensor := 3, hours := 1, ms := 2, cycles := 3, ext := [] } } }.set PSC_STATUS_HOLD_THERM 1, by decide +kernel⟩⟩

/-- The rows of `RestWakeAndWatch` can be met. -/
theorem witness_RestWakeAndWatch :
  (∃ (l12 idleMs noSref : Nat) (s : State), Bound s ∧ (s.xl.sinceCommit = 0 ∧ ∀ d ∈ s.liveChans, bit noSref d = false) ∧ (s.restOk = true ∧ (∀ p ∈ s.portList, s.flag QEN_LINK_UP p = true → bit l12 p = true) ∧ max 1 (s.get PSC_REST_CFG_IDLE_MS) ≤ idleMs)) ∧
  (∃ (l12 idleMs _noSref : Nat) (s : State), Bound s ∧ (0 < s.xl.sinceCommit) ∧ (s.restOk = true ∧ (∀ p ∈ s.portList, s.flag QEN_LINK_UP p = true → bit l12 p = true) ∧ max 1 (s.get PSC_REST_CFG_IDLE_MS) ≤ idleMs)) ∧
  (∃ (l12 idleMs noSref d : Nat) (s : State), Bound s ∧ (s.xl.sinceCommit = 0 ∧ d ∈ s.liveChans ∧ bit noSref d = true) ∧ (s.restOk = true ∧ (∀ p ∈ s.portList, s.flag QEN_LINK_UP p = true → bit l12 p = true) ∧ max 1 (s.get PSC_REST_CFG_IDLE_MS) ≤ idleMs)) ∧
  (∃ s : State, Bound s ∧ (s.md.restStep ≠ none ∧ s.md.stopped = false)) ∧
  (∃ (port : Nat) (s : State), Bound s ∧ (s.restIdle = true ∧ s.md.stopped = false) ∧ (port ∈ s.md.l12 ∧ (s.md.mode = .rest ∨ s.md.restStep ≠ none))) ∧
  (∃ (port : Nat) (s : State), Bound s ∧ (s.restIdle = true ∧ s.md.stopped = false) ∧ (port < 4 ∧ s.cwState port = cwDown ∧ s.flag CWP_PCFG_WAKE_EN port = true)) ∧
  (∃ s : State, Bound s ∧ (s.restIdle = true ∧ s.md.stopped = false) ∧ (s.flag MGI_CFG_SMB_EN = true)) ∧
  (∃ (us : Nat) (powerGood : Bool) (k : Nat) (s : State), Bound s ∧ (s.md.wake = some k ∧ s.md.mode = .rest ∧ 3 ≤ k ∧ k ≤ 7 ∧ (k ≤ 4 → powerGood = true) ∧ s.md.padPend = []) ∧ (s.inModes [.rest, .detour] = true ∧ wakeDelay k ≤ us ∧ (powerGood = true ∨ s.pgWait ≤ 1000 * (us - wakeDelay k)))) ∧
  (∃ (us k : Nat) (s : State), Bound s ∧ (s.md.wake = some k ∧ s.md.mode = .rest ∧ (k = 3 ∨ k = 4)) ∧ (s.inModes [.rest, .detour] = true ∧ wakeDelay k ≤ us ∧ s.pgWait ≤ 1000 * (us - wakeDelay k))) ∧
  (∃ (us : Nat) (s : State), Bound s ∧ (s.md.wake = some 8 ∧ s.md.mode = .rest ∧ s.get PSC_PAD_HELD ≠ 0 ∧ Resting s) ∧ (s.inModes [.rest, .detour] = true ∧ wakeDelay 8 ≤ us ∧ s.pgWait ≤ 1000 * (us - wakeDelay 8))) ∧
  (∃ (us : Nat) (powerGood : Bool) (s : State), Bound s ∧ (s.md.wake = some 7 ∧ s.md.mode = .detour) ∧ (s.inModes [.rest, .detour] = true ∧ wakeDelay 7 ≤ us ∧ (powerGood = true ∨ s.pgWait ≤ 1000 * (us - wakeDelay 7)))) ∧
  (∃ (us : Nat) (s : State), Bound s ∧ (s.md.wake = some 8 ∧ s.md.mode = .rest ∧ s.get PSC_PAD_HELD = 0 ∧ (s.rail 1).enabled = true ∧ s.md.offHeld = false ∧ s.md.holdWrite = false ∧ s.md.perstInRest = [] ∧ s.wc.pairs = []) ∧ (s.inModes [.rest, .detour] = true ∧ wakeDelay 8 ≤ us)) ∧
  (∃ (_groups g : Nat) (s : State), Bound s ∧ (s.md.wake = none ∧ s.md.mode ≠ .rest ∧ g < 3) ∧ (s.powered = true ∧ s.get PSC_PAD_HELD ≠ 0)) ∧
  (∃ (_groups k : Nat) (s : State), Bound s ∧ (s.md.wake = some k ∧ k ≤ 6 ∧ s.get PSC_PAD_HELD = 7) ∧ (s.powered = true ∧ s.get PSC_PAD_HELD ≠ 0)) ∧
  (∃ s : State, Bound s ∧ (s.inModes [.rest] = true ∧ s.md.wake = none ∧ (s.rail 1).enabled = true ∧ s.get PSC_PAD_HELD ≠ 0 ∧ s.md.wakeEnd + 1000000 * (if s.get PSC_REST_CFG_REL_MS = 0 then 10 else s.get PSC_REST_CFG_REL_MS) ≤ s.now)) ∧
  (∃ s : State, Bound s ∧ (s.pw.ao = true ∧ s.md.mode = .off ∧ s.pw.seq = .idle ∧ s.flag PSC_CTRL_WATCH_EN = true ∧ s.hu.pack ≠ none ∧ s.pw.onLatched = false ∧ (∀ k ∈ s.pw.offSince.toList, k + 100000000 ≤ s.now))) ∧
  (∃ (_inputMv _packMv : Nat) (_temp : Int) (present : Bool) (s : State), Bound s ∧ (present = true) ∧ (s.pw.ao = true ∧ s.md.mode = .watch ∧ s.roundDue = true)) ∧
  (∃ (_inputMv _packMv : Nat) (_temp : Int) (present : Bool) (s : State), Bound s ∧ (present = false) ∧ (s.pw.ao = true ∧ s.md.mode = .watch ∧ s.roundDue = true)) ∧
  (∃ (mv : List Nat) (s : State), Bound s ∧ (s.pw.ao = true ∧ s.md.mode = .watch ∧ s.md.roundValid = true ∧ mv.length = 10)) ∧
  (∃ (_byCurrent : Bool) (s : State), Bound s ∧ (s.pw.ao = true ∧ s.md.mode = .watch)) ∧
  (∃ s : State, Bound s ∧ (s.md.mode = .watch ∧ s.md.hkc = true)) :=
  ⟨⟨3, 60000, 0, run0.set PSC_CTRL_REST_EN 1, by decide +kernel⟩,
   ⟨3, 60000, 0, { run0 with xl := { MapState.reset with sinceCommit := 5 } }.set PSC_CTRL_REST_EN 1, by decide +kernel⟩,
   ⟨3, 60000, 2, 1, (run0.set PSC_CTRL_REST_EN 1).set DMC_CH_STAT_POP 1 1, by decide +kernel⟩,
   ⟨{ run0 with md := { run0.md with restStep := some 5 } }, by decide +kernel⟩,
   ⟨1, { inMode .rest with pw := { PowerState.reset with ao := true }, md := { (inMode .rest).md with l12 := [1] } }, by decide +kernel⟩,
   ⟨2, ({ inMode .rest with pw := { PowerState.reset with ao := true } }.set CWP_PCFG_WAKE_EN 1 2).set CWP_PSTAT_STATE cwDown 2, by decide +kernel⟩,
   ⟨{ inMode .rest with pw := { PowerState.reset with ao := true } }.set MGI_CFG_SMB_EN 1, by decide +kernel⟩,
   ⟨700, true, 3, { inMode .rest with md := { (inMode .rest).md with wake := some 3 } }, by decide +kernel⟩,
   ⟨20000, 3, { inMode .rest with md := { (inMode .rest).md with wake := some 3 } }, by decide +kernel⟩,
   ⟨20000, { inMode .rest with md := { (inMode .rest).md with wake := some 8 } }.set PSC_PAD_HELD 7, by decide +kernel⟩,
   ⟨300, true, { inMode .detour with md := { (inMode .detour).md with wake := some 7 } }.set PSC_PAD_HELD 7, by decide +kernel⟩,
   ⟨1300, { inMode .rest with now := 5000000, md := { (inMode .rest).md with wake := some 8 } }, by decide +kernel⟩,
   ⟨5, 0, run0.set PSC_PAD_HELD 7, by decide +kernel⟩,
   ⟨7, 5, { inMode .rest with md := { (inMode .rest).md with wake := some 5 } }.set PSC_PAD_HELD 7, by decide +kernel⟩,
   ⟨{ inMode .rest with now := 900000000 }.set PSC_PAD_HELD 7, by decide +kernel⟩,
   ⟨(packed 3 (inMode .off)).set PSC_CTRL_WATCH_EN 1, by decide +kernel⟩,
   ⟨12000, 50000, 30, true, { inMode .watch with now := 100000000000 }, by decide +kernel⟩,
   ⟨12000, 0, 30, false, packed 7 { inMode .watch with now := 100000000000 }, by decide +kernel⟩,
   ⟨(List.replicate 10 12000), { inMode .watch with md := { (inMode .watch).md with roundValid := true } }, by decide +kernel⟩,
   ⟨true, inMode .watch, by decide +kernel⟩,
   ⟨{ inMode .watch with md := { (inMode .watch).md with hkc := true } }, by decide +kernel⟩⟩

/-- The rows of `DramRequestsRefreshAndReplay` can be met. -/
theorem witness_DramRequestsRefreshAndReplay :
  (∃ (ch : Nat) (req : DramReq) (s : State), Bound s ∧ ((s.dchan ch).waiting = [] ∧ (s.dchan ch).reads = [] ∧ (s.dchan ch).writes = [] ∧ (s.dchan ch).issued = [] ∧ (s.dchan ch).fences = [] ∧ (s.dchan ch).answered = [] ∧ (s.dchan ch).retraining = false ∧ req.write = false ∧ req.len = 64) ∧ (s.powered = true ∧ ch < 4 ∧ s.chLive ch = true ∧ s.flag DMC_CH_STAT_SREF ch = false)) ∧
  (∃ (ch : Nat) (req : DramReq) (s : State), Bound s ∧ ((s.dchan ch).waiting = [] ∧ (s.dchan ch).reads = [] ∧ (s.dchan ch).writes = [] ∧ (s.dchan ch).issued = [] ∧ (s.dchan ch).fences = [] ∧ (s.dchan ch).answered = [] ∧ (s.dchan ch).retraining = false ∧ req.write = true ∧ req.len = 64 ∧ 3 ≤ s.get DMC_SCHED_CFG_WR_HIGH ∧ 0 < s.get DMC_SCHED_CFG_WR_AGE) ∧ (s.powered = true ∧ ch < 4 ∧ s.chLive ch = true ∧ s.flag DMC_CH_STAT_SREF ch = false)) ∧
  (∃ (ch : Nat) (_req : DramReq) (s : State), Bound s ∧ (s.powered = true ∧ ch < 4 ∧ s.chLive ch = true ∧ s.flag DMC_CH_STAT_SREF ch = false)) ∧
  (∃ (ch : Nat) (outcome : DramOutcome) (q : DReq) (s : State), Bound s ∧ ((s.dchan ch).issued.find? (fun x => decide (x.req.addr ≤ outcome.addr) && decide (outcome.addr < x.req.addr + max 1 x.req.len)) = some q ∧ outcome.symbols = 0 ∧ outcome.addr / 64 * 64 ∉ (s.dchan ch).poison ∧ (s.dchan ch).reads = [] ∧ (s.dchan ch).writes = [] ∧ q.use = none ∧ q.req.write = false ∧ (match q.req.user with | .pair _ _ => false | _ => true) = true ∧ (∀ d < 4, (s.dchan d).waiting = [] ∧ (s.dchan d).answered = [])) ∧ (s.powered = true ∧ ch < 4 ∧ s.chLive ch = true)) ∧
  (∃ (ch : Nat) (outcome : DramOutcome) (q : DReq) (s : State), Bound s ∧ ((s.dchan ch).issued.find? (fun x => decide (x.req.addr ≤ outcome.addr) && decide (outcome.addr < x.req.addr + max 1 x.req.len)) = some q ∧ 1 ≤ outcome.symbols ∧ outcome.symbols ≤ s.eccT ∧ outcome.addr / 64 * 64 ∉ (s.dchan ch).poison ∧ (s.dchan ch).reads = [] ∧ (s.dchan ch).writes = [] ∧ q.use = none ∧ q.req.write = false ∧ (match q.req.user with | .pair _ _ => false | _ => true) = true ∧ (∀ d < 4, (s.dchan d).waiting = [] ∧ (s.dchan d).answered = []) ∧ (s.dchan ch).ceRows = []) ∧ (s.powered = true ∧ ch < 4 ∧ s.chLive ch = true)) ∧
  (∃ (ch : Nat) (outcome : DramOutcome) (q : DReq) (s : State), Bound s ∧ ((s.dchan ch).issued.find? (fun x => decide (x.req.addr ≤ outcome.addr) && decide (outcome.addr < x.req.addr + max 1 x.req.len)) = some q ∧ (s.eccT < outcome.symbols ∨ outcome.addr / 64 * 64 ∈ (s.dchan ch).poison) ∧ (s.dchan ch).ueTimes = [] ∧ s.get DMC_CTRL_UE_LOSS ≠ 0) ∧ (s.powered = true ∧ ch < 4 ∧ s.chLive ch = true)) ∧
  (∃ (ch : Nat) (outcome : DramOutcome) (q : DReq) (s : State), Bound s ∧ ((s.dchan ch).issued.find? (fun x => decide (x.req.addr ≤ outcome.addr) && decide (outcome.addr < x.req.addr + max 1 x.req.len)) = some q ∧ (s.eccT < outcome.symbols ∨ outcome.addr / 64 * 64 ∈ (s.dchan ch).poison) ∧ (s.dchan ch).ueTimes = [s.now] ∧ s.get DMC_CTRL_UE_LOSS = 1) ∧ (s.powered = true ∧ ch < 4 ∧ s.chLive ch = true)) ∧
  (∃ (ch : Nat) (outcome : DramOutcome) (s : State), Bound s ∧ ((s.dchan ch).issued.find? (fun x => decide (x.req.addr ≤ outcome.addr) && decide (outcome.addr < x.req.addr + max 1 x.req.len)) = none)) ∧
  (∃ (ch _source : Nat) (s : State), Bound s ∧ ((s.dchan ch).fences = []) ∧ (s.powered = true ∧ ch < 4 ∧ s.chLive ch = true)) ∧
  (∃ (ch _bank : Nat) (s : State), Bound s ∧ ((s.dchan ch).writes = []) ∧ (s.powered = true ∧ ch < 4 ∧ s.chLive ch = true ∧ s.flag DMC_CH_STAT_SREF ch = false)) ∧
  (∃ (ch bank : Nat) (s : State), Bound s ∧ (s.drainDue ch (min (s.get DMC_SCHED_CFG_WR_LOW) (s.get DMC_SCHED_CFG_WR_HIGH)) = true ∧ (s.dchan ch).postponed.lookD bank 0 < 4) ∧ (s.powered = true ∧ ch < 4 ∧ s.chLive ch = true ∧ s.flag DMC_CH_STAT_SREF ch = false)) ∧
  (∃ (ch _value : Nat) (s : State), Bound s ∧ (s.powered = true ∧ ch < 4 ∧ s.chLive ch = true ∧ s.flag DMC_CH_STAT_SREF ch = false)) ∧
  (∃ (ch : Nat) (s : State), Bound s ∧ ((s.dchan ch).alerts = []) ∧ (s.powered = true ∧ ch < 4 ∧ s.chLive ch = true ∧ (s.dchan ch).retraining = false)) ∧
  (∃ (ch : Nat) (s : State), Bound s ∧ (2 ≤ (s.dchan ch).alertRun ∧ (∃ k ∈ (s.dchan ch).alerts.getLast?.toList, s.now ≤ k + 500) ∧ (s.dchan ch).writes = []) ∧ (s.powered = true ∧ ch < 4 ∧ s.chLive ch = true ∧ (s.dchan ch).retraining = false)) ∧
  (∃ (ch : Nat) (alerts : Bool) (s : State), Bound s ∧ (alerts = false ∧ (s.dchan ch).waiting = [] ∧ (s.dchan ch).reads = [] ∧ (s.dchan ch).writes = [] ∧ (s.dchan ch).fences = []) ∧ (ch < 4 ∧ (s.dchan ch).retraining = true ∧ s.chLive ch = true)) ∧
  (∃ (ch : Nat) (alerts : Bool) (s : State), Bound s ∧ (alerts = true) ∧ (ch < 4 ∧ (s.dchan ch).retraining = true ∧ s.chLive ch = true)) ∧
  (∃ (ch : Nat) (s : State), Bound s ∧ (s.powered = true ∧ ch < 4 ∧ s.chLive ch = true ∧ (s.dchan ch).issued ≠ [])) :=
  ⟨⟨1, (dreq0 false), dramOn 1 DChan.fresh run0, by decide +kernel⟩,
   ⟨1, (dreq0 true), dramOn 1 DChan.fresh run0, by decide +kernel⟩,
   ⟨1, (dreq0 false), dramOn 1 { DChan.fresh with nextId := 4, reads := [{ id := 3, req := dreq0 false, at_ := 0, use := none }] } run0, by decide +kernel⟩,
   ⟨1, { addr := 64, symbols := 0 }, { id := 3, req := dreq0 false, at_ := 0, use := none }, dramOn 1 { DChan.fresh with issued := [{ id := 3, req := dreq0 false, at_ := 0, use := none }] } run0, by decide +kernel⟩,
   ⟨1, { addr := 64, symbols := 3 }, { id := 3, req := dreq0 false, at_ := 0, use := none }, dramOn 1 { DChan.fresh with nextId := 4, issued := [{ id := 3, req := dreq0 false, at_ := 0, use := none }] } run0, by decide +kernel⟩,
   ⟨1, { addr := 64, symbols := 9 }, { id := 3, req := { dreq0 false with user := .slot 0 }, at_ := 0, use := none }, dramOn 1 { DChan.fresh with issued := [{ id := 3, req := { dreq0 false with user := .slot 0 }, at_ := 0, use := none }] } run0, by decide +kernel⟩,
   ⟨1, { addr := 64, symbols := 9 }, { id := 3, req := dreq0 false, at_ := 0, use := none }, (dramOn 1 { DChan.fresh with ueTimes := [0], issued := [{ id := 3, req := dreq0 false, at_ := 0, use := none }] } run0).set DMC_CTRL_UE_LOSS 1, by decide +kernel⟩,
   ⟨1, { addr := 128, symbols := 9 }, dramOn 1 { DChan.fresh with issued := [{ id := 3, req := dreq0 false, at_ := 0, use := none }] } run0, by decide +kernel⟩,
   ⟨1, 7, dramOn 1 DChan.fresh run0, by decide +kernel⟩,
   ⟨1, 3, dramOn 1 { DChan.fresh with postponed := [(3, 2)], rowOpen := [(3, (5, 0))] } run0, by decide +kernel⟩,
   ⟨1, 3, (dramOn 1 { DChan.fresh with postponed := [(3, 2)], writes := [{ id := 3, req := dreq0 true, at_ := 0, use := none }] } run0).set DMC_SCHED_CFG_WR_LOW 0, by decide +kernel⟩,
   ⟨1, 2, dramOn 1 DChan.fresh run0, by decide +kernel⟩,
   ⟨1, dramOn 1 { DChan.fresh with rowOpen := [(3, (5, 0))] } run0, by decide +kernel⟩,
   ⟨1, dramOn 1 { DChan.fresh with alertRun := 2, alerts := [0] } run0, by decide +kernel⟩,
   ⟨1, false, dramOn 1 { DChan.fresh with retraining := true, alerts := [3] } run0, by decide +kernel⟩,
   ⟨1, true, dramOn 1 { DChan.fresh with retraining := true, alerts := [3] } run0, by decide +kernel⟩,
   ⟨1, dramOn 1 { DChan.fresh with issued := [{ id := 3, req := dreq0 false, at_ := 0, use := none }] } run0, by decide +kernel⟩⟩

/-- The rows of `MemoryRepairAndScrub` can be met. -/
theorem witness_MemoryRepairAndScrub :
  (∃ (ch index : Nat) (resource : Bool) (s : State), Bound s ∧ (resource = true) ∧ (s.inModes [.run, .service] = true ∧ ch < 4 ∧ s.chLive ch = true ∧ (s.dchan ch).repairing = none ∧ (s.dchan ch).cands.has index = true)) ∧
  (∃ (ch index : Nat) (resource : Bool) (s : State), Bound s ∧ (resource = false ∧ s.get DMC_CH_STAT_FENCED ch < 64) ∧ (s.inModes [.run, .service] = true ∧ ch < 4 ∧ s.chLive ch = true ∧ (s.dchan ch).repairing = none ∧ (s.dchan ch).cands.has index = true)) ∧
  (∃ (ch index : Nat) (resource : Bool) (s : State), Bound s ∧ (resource = false ∧ 64 ≤ s.get DMC_CH_STAT_FENCED ch) ∧ (s.inModes [.run, .service] = true ∧ ch < 4 ∧ s.chLive ch = true ∧ (s.dchan ch).repairing = none ∧ (s.dchan ch).cands.has index = true)) ∧
  (∃ (ch k row n : Nat) (bad : List Nat) (s : State), Bound s ∧ ((s.dchan ch).repairing = some k ∧ (s.dchan ch).cands.look k = some (row, n) ∧ (∀ a ∈ bad, dramRow (s.pop ch) a ≠ row) ∧ (∀ d < 4, (s.dchan d).waiting = [] ∧ (s.dchan d).answered = []) ∧ (s.dchan ch).reads = []) ∧ (s.powered = true ∧ ch < 4 ∧ s.chLive ch = true)) ∧
  (∃ (ch k n a : Nat) (s : State), Bound s ∧ ((s.dchan ch).repairing = some k ∧ (s.dchan ch).cands.look k = some (dramRow (s.pop ch) a, n) ∧ (s.dchan ch).ueTimes = [] ∧ s.get DMC_CTRL_UE_LOSS ≠ 0 ∧ (∀ d < 4, (s.dchan d).waiting = [] ∧ (s.dchan d).answered = []) ∧ (s.dchan ch).reads = [] ∧ (s.dchan ch).writes = []) ∧ (s.powered = true ∧ ch < 4 ∧ s.chLive ch = true)) ∧
  (∃ (ch : Nat) (outcome : DramOutcome) (s : State), Bound s ∧ (outcome.symbols ≤ s.eccT ∧ (s.dchan ch).ceRows = []) ∧ (s.inModes [.boot, .hold, .run, .service] = true ∧ ch < 4 ∧ s.chLive ch = true ∧ (s.dchan ch).scrub = none ∧ s.get DMC_SCRUB_CFG_PATROL_H ≠ 0 ∧ (s.dchan ch).scrubUntil ≤ s.now ∧ outcome.addr / 64 = (s.dchan ch).patrol)) ∧
  (∃ (ch : Nat) (outcome : DramOutcome) (s : State), Bound s ∧ (s.eccT < outcome.symbols ∧ (s.dchan ch).ueTimes = [] ∧ s.get DMC_CTRL_UE_LOSS ≠ 0) ∧ (s.inModes [.boot, .hold, .run, .service] = true ∧ ch < 4 ∧ s.chLive ch = true ∧ (s.dchan ch).scrub = none ∧ s.get DMC_SCRUB_CFG_PATROL_H ≠ 0 ∧ (s.dchan ch).scrubUntil ≤ s.now ∧ outcome.addr / 64 = (s.dchan ch).patrol)) ∧
  (∃ (value d : Nat) (s : State), Bound s ∧ (bits value 1 0 = d ∧ (s.dchan d).scrub = none ∧ (s.dchan d).scrubQ = []) ∧ (s.powered = true ∧ bit value 2 = true)) ∧
  (∃ (value d : Nat) (r : DScrub) (s : State), Bound s ∧ (bits value 1 0 = d ∧ (s.dchan d).scrub = some r) ∧ (s.powered = true ∧ bit value 2 = true)) ∧
  (∃ (ch : Nat) (r : DScrub) (s : State), Bound s ∧ ((s.dchan ch).scrub = some r ∧ r.ticket = none ∧ (s.dchan ch).scrubQ = []) ∧ (s.inModes [.boot, .hold, .run, .service] = true ∧ ch < 4 ∧ s.chLive ch = true ∧ r.since + s.scrubNs ch (65536 * r.len) ≤ s.now)) ∧
  (∃ (ch : Nat) (corrected uncorrectable : List Nat) (r : DScrub) (s : State), Bound s ∧ ((s.dchan ch).scrub = some r ∧ r.ticket = none ∧ (s.dchan ch).scrubQ = [] ∧ (∀ a ∈ corrected ++ uncorrectable, r.start ≤ a ∧ a < r.start + 65536 * r.len) ∧ uncorrectable.length ≤ 1 ∧ (s.dchan ch).ueTimes = [] ∧ s.get DMC_CTRL_UE_LOSS ≠ 0) ∧ (s.inModes [.boot, .hold, .run, .service] = true ∧ ch < 4 ∧ s.chLive ch = true ∧ r.since + s.scrubNs ch (65536 * r.len) ≤ s.now)) ∧
  (∃ (mac word : Nat) (scrub : Bool) (writes : List SramWrite) (s : State), Bound s ∧ (scrub = false ∧ ((s.sramWrites writes).mm.sram.look (sramKey mac word)).isSome = true ∧ (s.mm.sramRows.lookD (2048 * mac + word / 16) []) = [] ∧ 1 ≠ s.get MPU_CFG_CE_TH) ∧ (s.powered = true ∧ mac < 352 ∧ word < 32768)) ∧
  (∃ (mac word : Nat) (scrub : Bool) (writes : List SramWrite) (s : State), Bound s ∧ (scrub = false ∧ ((s.sramWrites writes).mm.sram.look (sramKey mac word)).isSome = true ∧ 1 = s.get MPU_CFG_CE_TH) ∧ (s.powered = true ∧ mac < 352 ∧ word < 32768)) ∧
  (∃ (mac word : Nat) (_scrub : Bool) (writes : List SramWrite) (s : State), Bound s ∧ ((s.sramWrites writes).mm.sram.look (sramKey mac word) = none) ∧ (s.powered = true ∧ mac < 352 ∧ word < 32768)) ∧
  (∃ (mac word : Nat) (writes : List SramWrite) (r : SScrub) (s : State), Bound s ∧ (s.mm.scrub = some r ∧ ((s.sramWrites writes).mm.sram.look (sramKey mac word)).isSome = true) ∧ (s.powered = true ∧ mac < 352 ∧ word < 32768)) ∧
  (∃ (mac word kind _master : Nat) (_table : SramTable) (_ctx : Option Nat) (writes : List SramWrite) (s : State), Bound s ∧ ((kind = 1 ∨ kind = 2) ∧ ((s.sramWrites writes).mm.sram.look (sramKey mac word)).isSome = true) ∧ (s.powered = true ∧ mac < 352 ∧ word < 32768)) ∧
  (∃ (mac word master : Nat) (_inHandler : Bool) (_table : SramTable) (writes : List SramWrite) (s : State), Bound s ∧ (master < 256 ∧ ((s.sramWrites writes).mm.sram.look (sramKey mac word)).isSome = true) ∧ (s.powered = true ∧ mac < 352 ∧ word < 32768 ∧ s.dmaHalted master = false)) ∧
  (∃ (mac word kind _master i : Nat) (_inHandler : Bool) (table : SramTable) (_ctx : Option Nat) (writes : List SramWrite) (s : State), Bound s ∧ ((kind = 4 ∨ kind = 5) ∧ (table = .data ∨ table = .shadow i ∨ table = .link i) ∧ ((s.sramWrites writes).mm.sram.look (sramKey mac word)).isSome = true) ∧ (s.powered = true ∧ mac < 352 ∧ word < 32768)) ∧
  (∃ (mac word kind master : Nat) (_inHandler : Bool) (_table : SramTable) (_ctx : Option Nat) (writes : List SramWrite) (s : State), Bound s ∧ ((s.sramWrites writes).mm.sram.look (sramKey mac word) = none) ∧ (s.powered = true ∧ mac < 352 ∧ word < 32768 ∧ 1 ≤ kind ∧ kind ≤ 5 ∧ (kind = 3 → s.dmaHalted master = false))) ∧
  (∃ (_value : Nat) (s : State), Bound s ∧ (s.powered = true)) ∧
  (∃ (value : Nat) (s : State), Bound s ∧ (s.powered = true ∧ bit value 20 = true)) ∧
  (∃ (_writes : List SramWrite) (r : SScrub) (s : State), Bound s ∧ (s.mm.scrub = some r ∧ s.mm.scrubQ = none ∧ r.ticket = none) ∧ (s.inModes [.boot, .hold, .run, .ret, .service] = true ∧ r.since + (r.last + 1 - r.first) * 104857 ≤ s.now)) :=
  ⟨⟨1, 2, true, dramOn 1 { DChan.fresh with cands := [(2, (9, 16))] } run0, by decide +kernel⟩,
   ⟨1, 2, false, dramOn 1 { DChan.fresh with cands := [(2, (9, 16))] } run0, by decide +kernel⟩,
   ⟨1, 2, false, (dramOn 1 { DChan.fresh with cands := [(2, (9, 16))] } run0).set DMC_CH_STAT_FENCED 64 1, by decide +kernel⟩,
   ⟨1, 2, 9, 16, [], dramOn 1 { DChan.fresh with repairing := some 2, cands := [(2, (9, 16))] } run0, by decide +kernel⟩,
   ⟨1, 2, 16, 64, dramOn 1 { DChan.fresh with repairing := some 2, cands := [(2, (dramRow 1 64, 16))] } run0, by decide +kernel⟩,
   ⟨1, { addr := 64, symbols := 0 }, (dramOn 1 { DChan.fresh with patrol := 1 } run0).set DMC_SCRUB_CFG_PATROL_H 24, by decide +kernel⟩,
   ⟨1, { addr := 64, symbols := 12 }, (dramOn 1 { DChan.fresh with patrol := 1 } run0).set DMC_SCRUB_CFG_PATROL_H 24, by decide +kernel⟩,
   ⟨5, 1, dramOn 1 DChan.fresh run0, by decide +kernel⟩,
   ⟨5, 1, { start := 0, len := 1, since := 0, ticket := none }, dramOn 1 { DChan.fresh with scrub := some { start := 0, len := 1, since := 0, ticket := none } } run0, by decide +kernel⟩,
   ⟨1, { start := 0, len := 1, since := 0, ticket := none }, dramOn 1 { DChan.fresh with scrub := some { start := 0, len := 1, since := 0, ticket := none } } { run0 with now := 1000000000 }, by decide +kernel⟩,
   ⟨1, [64, 128], [256], { start := 0, len := 1, since := 0, ticket := none }, dramOn 1 { DChan.fresh with scrub := some { start := 0, len := 1, since := 0, ticket := none } } { run0 with now := 1000000000 }, by decide +kernel⟩,
   ⟨5, 100, false, [{ mac := 5, word := 100, mask := 255, data := 77 }], run0.set MPU_CFG_CE_TH 4, by decide +kernel⟩,
   ⟨5, 100, false, [{ mac := 5, word := 100, mask := 255, data := 77 }], run0.set MPU_CFG_CE_TH 1, by decide +kernel⟩,
   ⟨5, 101, false, [{ mac := 5, word := 100, mask := 255, data := 77 }], run0, by decide +kernel⟩,
   ⟨5, 100, [{ mac := 5, word := 100, mask := 255, data := 77 }], { first := 0, last := 3, corrected := 0, bad := 0, since := 0, ticket := none }, { run0 with mm := { MemState.reset with scrub := some { first := 0, last := 3, corrected := 0, bad := 0, since := 0, ticket := none } } }, by decide +kernel⟩,
   ⟨5, 100, 1, 3, .data, none, [{ mac := 5, word := 100, mask := 255, data := 77 }], run0, by decide +kernel⟩,
   ⟨5, 100, 3, false, .data, [{ mac := 5, word := 100, mask := 255, data := 77 }], run0, by decide +kernel⟩,
   ⟨5, 100, 4, 3, 7, false, (.link 7), none, [{ mac := 5, word := 100, mask := 255, data := 77 }], run0, by decide +kernel⟩,
   ⟨5, 101, 1, 3, false, .data, none, [{ mac := 5, word := 100, mask := 255, data := 77 }], run0, by decide +kernel⟩,
   ⟨3, run0.set MPU_DMA_HALTED 8 0, by decide +kernel⟩,
   ⟨(2 ^ 20 + 1024 * 7 + 2), run0, by decide +kernel⟩,
   ⟨[{ mac := 1, word := 100, mask := 255, data := 77 }], { first := 0, last := 3, corrected := 2, bad := 1, since := 0, ticket := none }, { run0 with now := 1000000, mm := { MemState.reset with scrub := some { first := 0, last := 3, corrected := 2, bad := 1, since := 0, ticket := none } } }, by decide +kernel⟩⟩

/-- The rows of `CausewayLinkAndPaths` can be met. -/
theorem witness_CausewayLinkAndPaths :
  (∃ (port rate : Nat) (s : State), Bound s ∧ (rate = s.get CWP_PCFG_RATE port) ∧ (port < 4 ∧ s.portsRun = true ∧ s.flag CWP_PCFG_EN port = true ∧ (s.cwState port = cwDown ∨ s.cwState port = cwTrain))) ∧
  (∃ (port rate : Nat) (s : State), Bound s ∧ (rate ≠ s.get CWP_PCFG_RATE port) ∧ (port < 4 ∧ s.portsRun = true ∧ s.flag CWP_PCFG_EN port = true ∧ (s.cwState port = cwDown ∨ s.cwState port = cwTrain))) ∧
  (∃ (port : Nat) (s : State), Bound s ∧ (s.cwLocked port = true ∧ (s.cwPort port).helloAt + s.helloNs ≤ s.now)) ∧
  (∃ (port : Nat) (hello : Hello) (s : State), Bound s ∧ (s.withdrawn = false ∧ hello.domain = s.get JNR_CFG_DOMAIN ∧ 0 < hello.node ∧ hello.node < 0xFFF ∧ hello.node ≠ s.nodeId ∧ hello.portState ≠ cwDisabled ∧ s.cwState port = cwHello ∧ 0 < (s.cwPort port).helloOk) ∧ (s.cwLocked port = true)) ∧
  (∃ (port : Nat) (hello : Hello) (s : State), Bound s ∧ (s.withdrawn = false ∧ hello.domain = s.get JNR_CFG_DOMAIN ∧ 0 < hello.node ∧ hello.node < 0xFFF ∧ hello.node ≠ s.nodeId ∧ hello.portState ≠ cwDisabled ∧ s.cwState port = cwHello ∧ (s.cwPort port).helloOk = 0) ∧ (s.cwLocked port = true)) ∧
  (∃ (port : Nat) (hello : Hello) (s : State), Bound s ∧ (s.withdrawn = false ∧ hello.domain ≠ s.get JNR_CFG_DOMAIN) ∧ (s.cwLocked port = true)) ∧
  (∃ (port : Nat) (hello : Hello) (s : State), Bound s ∧ (s.withdrawn = true ∨ (hello.domain = s.get JNR_CFG_DOMAIN ∧ (hello.node = 0 ∨ hello.node = 0xFFF))) ∧ (s.cwLocked port = true)) ∧
  (∃ (port : Nat) (hello : Hello) (s : State), Bound s ∧ (s.withdrawn = false ∧ hello.domain = s.get JNR_CFG_DOMAIN ∧ 0 < hello.node ∧ hello.node < 0xFFF ∧ hello.node = s.nodeId) ∧ (s.cwLocked port = true)) ∧
  (∃ (port : Nat) (hello : Hello) (s : State), Bound s ∧ (s.withdrawn = false ∧ hello.domain = s.get JNR_CFG_DOMAIN ∧ 0 < hello.node ∧ hello.node < 0xFFF ∧ hello.node ≠ s.nodeId ∧ hello.portState = cwDisabled) ∧ (s.cwLocked port = true)) ∧
  (∃ (port : Nat) (s : State), Bound s ∧ (s.cwLocked port = true ∧ (s.cwPort port).heardAt + s.deadNs ≤ s.now)) ∧
  (∃ (port : Nat) (s : State), Bound s ∧ (s.cwLocked port = true)) ∧
  (∃ (port : Nat) (lsa : Lsa) (s : State), Bound s ∧ (lsa.linkSeq = (s.cwPort port).rxSeq ∧ s.withdrawn = false ∧ lsa.node ≠ s.nodeId ∧ s.fb.nodes.look lsa.node = none ∧ s.fb.nodes.length < 256) ∧ (port < 4 ∧ s.portsRun = true ∧ s.cwState port = cwUp)) ∧
  (∃ (port : Nat) (lsa old : Lsa) (s : State), Bound s ∧ (lsa.linkSeq = (s.cwPort port).rxSeq ∧ s.withdrawn = false ∧ lsa.node ≠ s.nodeId ∧ s.fb.nodes.look lsa.node = some old) ∧ (port < 4 ∧ s.portsRun = true ∧ s.cwState port = cwUp)) ∧
  (∃ (port : Nat) (lsa : Lsa) (s : State), Bound s ∧ (lsa.linkSeq = (s.cwPort port).rxSeq ∧ s.withdrawn = false ∧ lsa.node ≠ s.nodeId ∧ s.fb.nodes.look lsa.node = none ∧ 256 ≤ s.fb.nodes.length) ∧ (port < 4 ∧ s.portsRun = true ∧ s.cwState port = cwUp)) ∧
  (∃ (port : Nat) (lsa : Lsa) (s : State), Bound s ∧ (lsa.linkSeq = (s.cwPort port).rxSeq ∧ s.withdrawn = false ∧ lsa.node = s.nodeId) ∧ (port < 4 ∧ s.portsRun = true ∧ s.cwState port = cwUp)) ∧
  (∃ (port : Nat) (lsa : Lsa) (s : State), Bound s ∧ (lsa.linkSeq ≠ (s.cwPort port).rxSeq) ∧ (port < 4 ∧ s.portsRun = true ∧ s.cwState port = cwUp)) ∧
  (∃ s : State, Bound s ∧ (s.portsRun = true ∧ s.joined = true ∧ s.fb.ownAt + 10000000000 ≤ s.now)) ∧
  (∃ (node : Nat) (s : State), Bound s ∧ (s.portsRun = true ∧ s.fb.nodes.has node = true ∧ node ≠ s.nodeId ∧ s.fb.heard.lookD node 0 + 40000000000 ≤ s.now)) ∧
  (∃ s : State, Bound s ∧ (s.flag JNR_STATUS_RECOMP = true)) ∧
  (∃ (port : Nat) (s : State), Bound s ∧ (port < 4 ∧ s.cwState port = cwUp ∧ (s.cwPort port).sinceAck ≠ 0)) ∧
  (∃ (port _seq : Nat) (s : State), Bound s ∧ (port < 4 ∧ s.cwState port = cwUp)) ∧
  (∃ (port seq : Nat) (s : State), Bound s ∧ ((s.cwPort port).naks = 0 ∨ (s.cwPort port).nakSeq ≠ seq ∨ (s.cwPort port).naks < 7) ∧ (port < 4 ∧ s.cwState port = cwUp)) ∧
  (∃ (port seq : Nat) (s : State), Bound s ∧ ((s.cwPort port).nakSeq = seq ∧ (s.cwPort port).naks = 7) ∧ (port < 4 ∧ s.cwState port = cwUp)) ∧
  (∃ (port vc _credits : Nat) (s : State), Bound s ∧ (port < 4 ∧ s.cwState port = cwUp ∧ vc < 3)) ∧
  (∃ (port : Nat) (s : State), Bound s ∧ (port < 4 ∧ s.cwState port = cwUp ∧ ((s.cwPort port).freed.any fun n => n != 0) = true)) ∧
  (∃ (port reason _seq _vc _units : Nat) (s : State), Bound s ∧ (reason ≤ 1 ∧ (s.cwPort port).resync = false) ∧ (port < 4 ∧ s.cwState port = cwUp ∧ reason ≤ 5)) ∧
  (∃ (port reason seq _vc _units : Nat) (s : State), Bound s ∧ (2 ≤ reason ∧ reason ≠ 3 ∧ seq = (s.cwPort port).rxSeq) ∧ (port < 4 ∧ s.cwState port = cwUp ∧ reason ≤ 5)) ∧
  (∃ (port reason _seq _vc _units : Nat) (s : State), Bound s ∧ (reason ≤ 1 ∧ (s.cwPort port).resync = true) ∧ (port < 4 ∧ s.cwState port = cwUp ∧ reason ≤ 5)) ∧
  (∃ (port reason seq _vc _units : Nat) (s : State), Bound s ∧ (2 ≤ reason ∧ (reason = 3 ∨ seq ≠ (s.cwPort port).rxSeq)) ∧ (port < 4 ∧ s.cwState port = cwUp ∧ reason ≤ 5)) :=
  ⟨⟨2, 1, ((run0.set CWP_PCFG_EN 1 2).set CWP_PCFG_RATE 1 2).set CWP_PSTAT_STATE cwTrain 2, by decide +kernel⟩,
   ⟨2, 3, (run0.set CWP_PCFG_EN 1 2).set CWP_PSTAT_STATE cwDown 2, by decide +kernel⟩,
   ⟨1, { fab0 with now := 1000000000 }, by decide +kernel⟩,
   ⟨2, { serial := 9, node := 7, domain := 0, port := 3, portState := 3 }, { fab0 with fb := { fab0.fb with ports := [(2, { CwPort.fresh with helloOk := 1 })] } }.set CWP_PSTAT_STATE cwHello 2, by decide +kernel⟩,
   ⟨2, { serial := 9, node := 7, domain := 0, port := 3, portState := 3 }, fab0.set CWP_PSTAT_STATE cwHello 2, by decide +kernel⟩,
   ⟨2, { serial := 9, node := 7, domain := 3, port := 3, portState := 3 }, fab0.set CWP_PSTAT_STATE cwHello 2, by decide +kernel⟩,
   ⟨2, { serial := 9, node := 0, domain := 0, port := 3, portState := 3 }, fab0.set CWP_PSTAT_STATE cwHello 2, by decide +kernel⟩,
   ⟨2, { serial := 9, node := 5, domain := 0, port := 3, portState := 3 }, fab0.set CWP_PSTAT_STATE cwHello 2, by decide +kernel⟩,
   ⟨2, { serial := 9, node := 7, domain := 0, port := 3, portState := 0 }, fab0.set CWP_PSTAT_STATE cwHello 2, by decide +kernel⟩,
   ⟨1, { fab0 with now := 100000000000 }, by decide +kernel⟩,
   ⟨1, fab0, by decide +kernel⟩,
   ⟨1, { linkSeq := 0, node := 7, seq := 3, serial := 8, links := [] }, fab0, by decide +kernel⟩,
   ⟨1, { linkSeq := 0, node := 7, seq := 3, serial := 8, links := [] }, { linkSeq := 0, node := 7, seq := 2, serial := 8, links := [] }, { fab0 with fb := { fab0.fb with nodes := [(7, { linkSeq := 0, node := 7, seq := 2, serial := 8, links := [] })] } }, by decide +kernel⟩,
   ⟨1, { linkSeq := 0, node := 7, seq := 3, serial := 8, links := [] }, { fab0 with fb := { fab0.fb with nodes := (List.range 256).map fun k => (k + 1000, { linkSeq := 0, node := k + 1000, seq := 2, serial := 8, links := [] }) } }, by decide +kernel⟩,
   ⟨1, { linkSeq := 0, node := 5, seq := 3, serial := 8, links := [] }, fab0, by decide +kernel⟩,
   ⟨1, { linkSeq := 4, node := 7, seq := 3, serial := 8, links := [] }, fab0, by decide +kernel⟩,
   ⟨{ fab0 with now := 10000000000 }, by decide +kernel⟩,
   ⟨7, { fab0 with now := 50000000000, fb := { fab0.fb with nodes := [(7, { linkSeq := 0, node := 7, seq := 2, serial := 8, links := [] })] } }, by decide +kernel⟩,
   ⟨fab0.set JNR_STATUS_RECOMP 1, by decide +kernel⟩,
   ⟨1, { fab0 with fb := { fab0.fb with ports := [(1, { CwPort.fresh with rxSeq := 3, sinceAck := 2 })] } }, by decide +kernel⟩,
   ⟨1, 0, { fab0 with fb := { fab0.fb with ports := [(1, { CwPort.fresh with txSeq := 2, sent := [frame0 0x30 3 1 [], { frame0 0x30 3 1 [] with seq := 1 }] })] } }, by decide +kernel⟩,
   ⟨1, 1, { fab0 with fb := { fab0.fb with ports := [(1, { CwPort.fresh with txSeq := 2, sent := [frame0 0x30 3 1 [], { frame0 0x30 3 1 [] with seq := 1 }] })] } }, by decide +kernel⟩,
   ⟨1, 1, { fab0 with fb := { fab0.fb with ports := [(1, { CwPort.fresh with naks := 7, nakSeq := 1 })] } }, by decide +kernel⟩,
   ⟨1, 2, 5, fab0, by decide +kernel⟩,
   ⟨1, { fab0 with fb := { fab0.fb with ports := [(1, { CwPort.fresh with freed := [0, 3, 0] })] } }, by decide +kernel⟩,
   ⟨1, 1, 0, 2, 5, fab0, by decide +kernel⟩,
   ⟨1, 2, 0, 2, 5, fab0, by decide +kernel⟩,
   ⟨1, 0, 0, 1, 1, { fab0 with fb := { fab0.fb with ports := [(1, { CwPort.fresh with resync := true })] } }, by decide +kernel⟩,
   ⟨1, 2, 9, 2, 5, fab0, by decide +kernel⟩⟩

/-- The rows of `FabricFramesAndRemoteRequests` can be met. -/
theorem witness_FabricFramesAndRemoteRequests :
  (∃ (port : Nat) (f : Frame) (q d : Nat) (s : State), Bound s ∧ (f.trailerOk = true ∧ f.seq = (s.cwPort port).rxSeq ∧ knownType f.type = true ∧ f.domain = s.get JNR_CFG_DOMAIN ∧ s.joined = true ∧ 0 < f.hops ∧ f.vc < 3 ∧ f.payload.length ≤ 8192 ∧ s.fb.paths.look f.dst = some (q, d) ∧ q < 4 ∧ q ≠ port ∧ s.cwState q = cwUp ∧ s.cwPort q = CwPort.fresh) ∧ (port < 4 ∧ s.portsRun = true ∧ s.cwState port = cwUp ∧ f.dst ≠ s.nodeId ∧ (16 ≤ f.type ∨ knownType f.type = false))) ∧
  (∃ (port : Nat) (f : Frame) (s : State), Bound s ∧ (f.trailerOk = true ∧ f.seq = (s.cwPort port).rxSeq ∧ knownType f.type = true ∧ f.domain = s.get JNR_CFG_DOMAIN ∧ s.joined = true ∧ f.vc < 3) ∧ (port < 4 ∧ s.portsRun = true ∧ s.cwState port = cwUp ∧ f.dst ≠ s.nodeId ∧ (16 ≤ f.type ∨ knownType f.type = false))) ∧
  (∃ (port : Nat) (f : Frame) (q d : Nat) (s : State), Bound s ∧ (f.trailerOk = false ∧ f.seq = (s.cwPort port).rxSeq ∧ knownType f.type = true ∧ f.domain = s.get JNR_CFG_DOMAIN ∧ s.joined = true ∧ 0 < f.hops ∧ f.vc < 3 ∧ f.payload.length ≤ 8192 ∧ s.fb.paths.look f.dst = some (q, d) ∧ q < 4 ∧ q ≠ port ∧ s.cwState q = cwUp ∧ s.cwPort q = CwPort.fresh ∧ (s.cwPort port).resync = false) ∧ (port < 4 ∧ s.portsRun = true ∧ s.cwState port = cwUp ∧ f.dst ≠ s.nodeId ∧ (16 ≤ f.type ∨ knownType f.type = false))) ∧
  (∃ (port : Nat) (f : Frame) (s : State), Bound s ∧ (f.seq ≠ (s.cwPort port).rxSeq) ∧ (port < 4 ∧ s.portsRun = true ∧ s.cwState port = cwUp ∧ f.dst ≠ s.nodeId ∧ (16 ≤ f.type ∨ knownType f.type = false))) ∧
  (∃ (port : Nat) (f : Frame) (slice : Nat) (s : State), Bound s ∧ (Accepts port f s ∧ (s.fb.dups.find? fun d => d.src == f.src && d.tag == f.tag && d.reply.isNone) = none ∧ s.inModes [.run, .service] = true ∧ s.nodeSlice f.src = some slice ∧ s.access slice (entryOf f.payload).nsid = true ∧ bit f.flags 1 = false ∧ 0 < requestWant (entryOf f.payload)) ∧ (port < 4 ∧ s.portsRun = true ∧ f.type = 0x10)) ∧
  (∃ (port : Nat) (f : Frame) (slice : Nat) (s : State), Bound s ∧ (Accepts port f s ∧ (s.fb.dups.find? fun d => d.src == f.src && d.tag == f.tag && d.reply.isNone) = none ∧ s.inModes [.run, .service] = true ∧ s.nodeSlice f.src = some slice ∧ s.access slice (entryOf f.payload).nsid = true ∧ bit f.flags 1 = true ∧ s.ctxRoom slice = true) ∧ (port < 4 ∧ s.portsRun = true ∧ f.type = 0x10)) ∧
  (∃ (port : Nat) (f : Frame) (d : DupEntry) (s : State), Bound s ∧ (Accepts port f s ∧ (s.fb.dups.find? fun d => d.src == f.src && d.tag == f.tag && d.reply.isNone) = some d ∧ bit f.flags 1 = true) ∧ (port < 4 ∧ s.portsRun = true ∧ f.type = 0x10)) ∧
  (∃ (port : Nat) (f : Frame) (q d : Nat) (s : State), Bound s ∧ (Accepts port f s ∧ (s.fb.dups.find? fun d => d.src == f.src && d.tag == f.tag && d.reply.isNone) = none ∧ (s.mode = .hold ∨ s.inModes [.run, .service] = false ∨ s.nodeSlice f.src = none ∨ ((s.nodeSlice f.src).all fun k => !s.access k (entryOf f.payload).nsid) = true) ∧ s.fb.paths.look f.src = some (q, d) ∧ q < 4 ∧ q ≠ port ∧ s.cwState q = cwUp ∧ s.cwPort q = CwPort.fresh) ∧ (port < 4 ∧ s.portsRun = true ∧ f.type = 0x10)) ∧
  (∃ (port : Nat) (f : Frame) (s : State), Bound s ∧ (s.cwState port = cwUp ∧ f.dst = s.nodeId ∧ f.seq ≠ (s.cwPort port).rxSeq) ∧ (port < 4 ∧ s.portsRun = true ∧ f.type = 0x10)) ∧
  (∃ (port : Nat) (f : Frame) (slice : Nat) (s : State), Bound s ∧ (Accepts port f s ∧ (s.fb.dups.find? fun d => d.src == f.src && d.tag == f.tag && d.reply.isNone) = none ∧ s.inModes [.run, .service] = true ∧ s.nodeSlice f.src = some slice ∧ s.access slice (entryOf f.payload).nsid = true ∧ bit f.flags 1 = false ∧ 0 < requestWant (entryOf f.payload)) ∧ (port < 4 ∧ s.portsRun = true ∧ f.type = 0x11)) ∧
  (∃ (port : Nat) (f : Frame) (q d : Nat) (s : State), Bound s ∧ (Accepts port f s ∧ (s.fb.dups.find? fun d => d.src == f.src && d.tag == f.tag && d.reply.isNone) = none ∧ (s.mode = .hold ∨ s.inModes [.run, .service] = false ∨ s.nodeSlice f.src = none ∨ ((s.nodeSlice f.src).all fun k => !s.access k (entryOf f.payload).nsid) = true) ∧ s.fb.paths.look f.src = some (q, d) ∧ q < 4 ∧ q ≠ port ∧ s.cwState q = cwUp ∧ s.cwPort q = CwPort.fresh) ∧ (port < 4 ∧ s.portsRun = true ∧ f.type = 0x11)) ∧
  (∃ (port : Nat) (f : Frame) (s : State), Bound s ∧ (s.cwState port = cwUp ∧ f.dst = s.nodeId ∧ f.seq ≠ (s.cwPort port).rxSeq) ∧ (port < 4 ∧ s.portsRun = true ∧ f.type = 0x11)) ∧
  (∃ (port : Nat) (f : Frame) (slice : Nat) (s : State), Bound s ∧ (Accepts port f s ∧ (s.fb.dups.find? fun d => d.src == f.src && d.tag == f.tag && d.reply.isNone) = none ∧ s.inModes [.run, .service] = true ∧ s.nodeSlice f.src = some slice ∧ s.access slice (entryOf f.payload).nsid = true ∧ bit f.flags 1 = false ∧ 0 < requestWant (entryOf f.payload)) ∧ (port < 4 ∧ s.portsRun = true ∧ f.type = 0x12)) ∧
  (∃ (port : Nat) (f : Frame) (q d : Nat) (s : State), Bound s ∧ (Accepts port f s ∧ (s.fb.dups.find? fun d => d.src == f.src && d.tag == f.tag && d.reply.isNone) = none ∧ (s.mode = .hold ∨ s.inModes [.run, .service] = false ∨ s.nodeSlice f.src = none ∨ ((s.nodeSlice f.src).all fun k => !s.access k (entryOf f.payload).nsid) = true) ∧ s.fb.paths.look f.src = some (q, d) ∧ q < 4 ∧ q ≠ port ∧ s.cwState q = cwUp ∧ s.cwPort q = CwPort.fresh) ∧ (port < 4 ∧ s.portsRun = true ∧ f.type = 0x12)) ∧
  (∃ (port : Nat) (f : Frame) (s : State), Bound s ∧ (s.cwState port = cwUp ∧ f.dst = s.nodeId ∧ f.seq ≠ (s.cwPort port).rxSeq) ∧ (port < 4 ∧ s.portsRun = true ∧ f.type = 0x12)) ∧
  (∃ (port : Nat) (f : Frame) (b : Inbound) (s : State), Bound s ∧ (Accepts port f s ∧ (s.fb.inbound.find? fun b => b.src == f.src && b.tag == f.tag) = some b ∧ b.discard = false ∧ (b.data.put (f.offset / 4096) (unle f.payload)).length < b.want) ∧ (port < 4 ∧ s.portsRun = true ∧ f.type = 0x20)) ∧
  (∃ (port : Nat) (f : Frame) (b : Inbound) (s : State), Bound s ∧ (Accepts port f s ∧ (s.fb.inbound.find? fun b => b.src == f.src && b.tag == f.tag) = some b ∧ b.discard = false ∧ b.want ≤ (b.data.put (f.offset / 4096) (unle f.payload)).length ∧ s.ctxRoom b.slice = true) ∧ (port < 4 ∧ s.portsRun = true ∧ f.type = 0x20)) ∧
  (∃ (port : Nat) (f : Frame) (b : Inbound) (s : State), Bound s ∧ (Accepts port f s ∧ (s.fb.inbound.find? fun b => b.src == f.src && b.tag == f.tag) = some b ∧ b.discard = true) ∧ (port < 4 ∧ s.portsRun = true ∧ f.type = 0x20)) ∧
  (∃ (port : Nat) (f : Frame) (s : State), Bound s ∧ (Accepts port f s ∧ (s.fb.inbound.find? fun b => b.src == f.src && b.tag == f.tag) = none) ∧ (port < 4 ∧ s.portsRun = true ∧ f.type = 0x20)) ∧
  (∃ (port : Nat) (f : Frame) (r : Remote) (id : Nat) (x : Ctx) (s : State), Bound s ∧ (Accepts port f s ∧ s.fb.reqs.look f.tag = some r ∧ r.for_ = .pooled id ∧ s.ctx id = some x ∧ x.stage ≠ .done ∧ x.remote = none ∧ x.replWait = false ∧ x.replFailed = false) ∧ (port < 4 ∧ s.portsRun = true ∧ f.type = 0x30)) ∧
  (∃ (port : Nat) (f : Frame) (r : Remote) (id k : Nat) (x : Ctx) (s : State), Bound s ∧ (Accepts port f s ∧ s.fb.reqs.look f.tag = some r ∧ r.for_ = .replicated id k ∧ k < 64 ∧ s.ctx id = some x ∧ x.stage ≠ .done ∧ x.remote = none ∧ x.replFailed = false ∧ x.localDone = true) ∧ (port < 4 ∧ s.portsRun = true ∧ f.type = 0x30)) ∧
  (∃ (port : Nat) (f : Frame) (r : Remote) (k : Nat) (x : Copy) (s : State), Bound s ∧ (Accepts port f s ∧ s.fb.reqs.look f.tag = some r ∧ r.for_ = .piece k ∧ s.fb.copies.look k = some x ∧ statusOf (field f.payload 14 2 / 2) = .success ∧ (x.next < x.stop ∨ 1 < x.inflight)) ∧ (port < 4 ∧ s.portsRun = true ∧ f.type = 0x30)) ∧
  (∃ (port : Nat) (f : Frame) (s : State), Bound s ∧ (Accepts port f s ∧ s.fb.reqs.look f.tag = none) ∧ (port < 4 ∧ s.portsRun = true ∧ f.type = 0x30)) ∧
  (∃ (port : Nat) (f : Frame) (r : Remote) (id : Nat) (x : Ctx) (s : State), Bound s ∧ (Accepts port f s ∧ s.fb.reqs.look f.tag = some r ∧ r.for_ = .pooled id ∧ s.ctx id = some x) ∧ (port < 4 ∧ s.portsRun = true ∧ f.type = 0x31)) ∧
  (∃ (port : Nat) (f : Frame) (s : State), Bound s ∧ (Accepts port f s ∧ s.fb.reqs.look f.tag = none) ∧ (port < 4 ∧ s.portsRun = true ∧ f.type = 0x31)) ∧
  (∃ (tag : Nat) (r : Remote) (s : State), Bound s ∧ (s.fb.reqs.look tag = some r ∧ r.attempts < 2 ∧ s.hasPath r.dst = true) ∧ (r.since + s.e2eNs ≤ s.now)) ∧
  (∃ (tag : Nat) (r : Remote) (id : Nat) (x : Ctx) (s : State), Bound s ∧ (s.fb.reqs.look tag = some r ∧ (2 ≤ r.attempts ∨ s.hasPath r.dst = false) ∧ r.for_ = .pooled id ∧ s.ctx id = some x ∧ x.stage ≠ .done ∧ x.remote = none ∧ x.replWait = false ∧ x.replFailed = false) ∧ (r.since + s.e2eNs ≤ s.now)) ∧
  (∃ (tag : Nat) (s : State), Bound s ∧ (s.fb.reqs.look tag = none)) ∧
  (∃ (entry : Nat) (d : DupEntry) (s : State), Bound s ∧ (s.fb.dups[entry]? = some d) ∧ (d.since + 2 * s.e2eNs ≤ s.now)) ∧
  (∃ (entry : Nat) (s : State), Bound s ∧ (s.fb.dups.length ≤ entry)) ∧
  (∃ (copy tag : Nat) (data : List Nat) (x : Copy) (s : State), Bound s ∧ (s.fb.copies.look copy = some x ∧ s.hasPath x.node = true ∧ s.fb.reqs.freeKey 8192 = some tag) ∧ (s.inModes [.run, .service] = true ∧ x.running = true ∧ x.inflight < 8 ∧ x.next < x.stop ∧ data.length = min 512 (x.stop - x.next))) ∧
  (∃ (copy : Nat) (_data : List Nat) (s : State), Bound s ∧ (s.fb.copies.look copy = none)) ∧
  (∃ (ports p : Nat) (s : State), Bound s ∧ (s.flag PSC_STATUS_HOLD_NOCFG = false ∧ p < 4 ∧ bit ports p = true ∧ s.cwState p = cwDown ∧ s.flag CWP_PCFG_EN p = true) ∧ (s.powered = true)) ∧
  (∃ (binding : Nat) (s : State), Bound s ∧ (s.hasPath (s.get JNR_BIND_1_NODE binding) = true) ∧ (binding < 64 ∧ s.portsRun = true ∧ s.flag JNR_BIND_0_V binding = true)) ∧
  (∃ (binding : Nat) (s : State), Bound s ∧ (s.hasPath (s.get JNR_BIND_1_NODE binding) = false ∧ s.fb.wakes.look binding = none) ∧ (binding < 64 ∧ s.portsRun = true ∧ s.flag JNR_BIND_0_V binding = true)) ∧
  (∃ (binding n at_ : Nat) (s : State), Bound s ∧ (s.hasPath (s.get JNR_BIND_1_NODE binding) = false ∧ s.fb.wakes.look binding = some (n, at_) ∧ n < 100) ∧ (binding < 64 ∧ s.portsRun = true ∧ s.flag JNR_BIND_0_V binding = true ∧ at_ + 10000000 ≤ s.now)) ∧
  (∃ (binding n at_ : Nat) (s : State), Bound s ∧ (s.hasPath (s.get JNR_BIND_1_NODE binding) = false ∧ s.fb.wakes.look binding = some (n, at_) ∧ 100 ≤ n)) ∧
  (∃ (_value : Nat) (s : State), Bound s ∧ (s.powered = true)) ∧
  (∃ (binding word value : Nat) (s : State), Bound s ∧ ((word = 0 → bits value 30 13 = 0) ∧ (word = 1 → bits value 31 22 = 0) ∧ word < 2) ∧ (s.powered = true ∧ binding < 64 ∧ word < 2)) :=
  ⟨⟨1, { frame0 0x30 3 1 [7] with dst := 9 }, 2, 1, { fab0 with fb := { fab0.fb with paths := [(9, (2, 1))] } }.set CWP_PSTAT_STATE cwUp 2, by decide +kernel⟩,
   ⟨1, { frame0 0x30 3 1 [7] with dst := 9 }, fab0, by decide +kernel⟩,
   ⟨1, { frame0 0x30 3 1 [7] with dst := 9, trailerOk := false }, 2, 1, { fab0 with fb := { fab0.fb with paths := [(9, (2, 1))] } }.set CWP_PSTAT_STATE cwUp 2, by decide +kernel⟩,
   ⟨1, { frame0 0x30 3 1 [7] with dst := 9, seq := 5 }, fab0, by decide +kernel⟩,
   ⟨1, (frame0 0x10 1 9 (entryBytes (ioCtx0 1 0 1 0).e 1)), 0, fab1, by decide +kernel⟩,
   ⟨1, (frame0 0x10 3 9 (entryBytes (ioCtx0 2 0 1 0).e 1)), 0, { fab1 with ns := [(1, ns1)] }.set SLM_BUDGET 8 0 2, by decide +kernel⟩,
   ⟨1, (frame0 0x10 3 9 (entryBytes (ioCtx0 2 0 1 0).e 1)), { src := 6, tag := 9, status := .success, dw0 := 0, dw1 := 0, reply := none, since := 0 }, { fab1 with fb := { fab1.fb with dups := [{ src := 6, tag := 9, status := .success, dw0 := 0, dw1 := 0, reply := none, since := 0 }] } }, by decide +kernel⟩,
   ⟨1, (frame0 0x10 3 9 (entryBytes (ioCtx0 1 0 1 0).e 1)), 2, 1, { fab0 with fb := { fab0.fb with paths := [(6, (2, 1))] } }.set CWP_PSTAT_STATE cwUp 2, by decide +kernel⟩,
   ⟨1, { frame0 0x10 3 9 [] with seq := 5 }, fab1, by decide +kernel⟩,
   ⟨1, (frame0 0x11 1 9 (entryBytes (ioCtx0 1 0 1 0).e 1)), 0, fab1, by decide +kernel⟩,
   ⟨1, (frame0 0x11 3 9 (entryBytes (ioCtx0 1 0 1 0).e 1)), 2, 1, { fab0 with fb := { fab0.fb with paths := [(6, (2, 1))] } }.set CWP_PSTAT_STATE cwUp 2, by decide +kernel⟩,
   ⟨1, { frame0 0x11 3 9 [] with seq := 5 }, fab1, by decide +kernel⟩,
   ⟨1, (frame0 0x12 1 9 (entryBytes (ioCtx0 1 0 1 0).e 1)), 0, fab1, by decide +kernel⟩,
   ⟨1, (frame0 0x12 3 9 (entryBytes (ioCtx0 1 0 1 0).e 1)), 2, 1, { fab0 with fb := { fab0.fb with paths := [(6, (2, 1))] } }.set CWP_PSTAT_STATE cwUp 2, by decide +kernel⟩,
   ⟨1, { frame0 0x12 3 9 [] with seq := 5 }, fab1, by decide +kernel⟩,
   ⟨1, (frame0 0x20 0 9 [7]), { src := 6, tag := 9, type := 0x10, entry := (ioCtx0 1 0 2 0).e, slice := 0, want := 2, data := [], discard := false }, { fab1 with fb := { fab1.fb with inbound := [{ src := 6, tag := 9, type := 0x10, entry := (ioCtx0 1 0 2 0).e, slice := 0, want := 2, data := [], discard := false }] } }, by decide +kernel⟩,
   ⟨1, (frame0 0x20 2 9 [7]), { src := 6, tag := 9, type := 0x10, entry := (ioCtx0 1 0 1 0).e, slice := 0, want := 1, data := [], discard := false }, { fab1 with ns := [(1, ns1)], fb := { fab1.fb with inbound := [{ src := 6, tag := 9, type := 0x10, entry := (ioCtx0 1 0 1 0).e, slice := 0, want := 1, data := [], discard := false }] } }.set SLM_BUDGET 8 0 2, by decide +kernel⟩,
   ⟨1, (frame0 0x20 2 9 [7]), { src := 6, tag := 9, type := 0x10, entry := (ioCtx0 1 0 2 0).e, slice := 0, want := 2, data := [], discard := true }, { fab1 with fb := { fab1.fb with inbound := [{ src := 6, tag := 9, type := 0x10, entry := (ioCtx0 1 0 2 0).e, slice := 0, want := 2, data := [], discard := true }] } }, by decide +kernel⟩,
   ⟨1, (frame0 0x20 2 9 [7]), fab1, by decide +kernel⟩,
   ⟨1, (frame0 0x30 3 9 (cqeBytes .success 4 0 7)), (req0 (.pooled 5)), 5, (ioCtx0 2 0 1 0), { fab1 with ctxs := [ioCtx0 2 0 1 0], fb := { fab1.fb with reqs := [(9, req0 (.pooled 5))] } }, by decide +kernel⟩,
   ⟨1, (frame0 0x30 3 9 (cqeBytes .success 4 0 7)), (req0 (.replicated 5 2)), 5, 2, { ioCtx0 1 0 1 0 with replWait := true, localDone := true, stage := .issued }, { fab1 with ctxs := [{ ioCtx0 1 0 1 0 with replWait := true, localDone := true, stage := .issued }], fb := { fab1.fb with reqs := [(9, req0 (.replicated 5 2))] } }, by decide +kernel⟩,
   ⟨1, (frame0 0x30 3 9 (cqeBytes .success 0 0 0)), { req0 (.piece 3) with data := [7] }, 3, { ticket := 1, slice := 0, nsid := 1, zone := 0, node := 6, rnsid := 2, rslba := 0, first := 0, next := 1, stop := 2, inflight := 1, committed := 0, running := true }, { fab1 with fb := { fab1.fb with copies := [(3, { ticket := 1, slice := 0, nsid := 1, zone := 0, node := 6, rnsid := 2, rslba := 0, first := 0, next := 1, stop := 2, inflight := 1, committed := 0, running := true })], reqs := [(9, { req0 (.piece 3) with data := [7] })] } }, by decide +kernel⟩,
   ⟨1, (frame0 0x30 3 9 (cqeBytes .success 0 0 0)), fab1, by decide +kernel⟩,
   ⟨1, (frame0 0x31 3 9 [1, 2]), (req0 (.pooled 5)), 5, (ioCtx0 2 0 1 0), { fab1 with ctxs := [ioCtx0 2 0 1 0], fb := { fab1.fb with reqs := [(9, req0 (.pooled 5))] } }, by decide +kernel⟩,
   ⟨1, (frame0 0x31 3 9 [1, 2]), fab1, by decide +kernel⟩,
   ⟨9, (req0 (.pooled 5)), { fab1 with now := 10000000000, fb := { fab1.fb with reqs := [(9, req0 (.pooled 5))] } }, by decide +kernel⟩,
   ⟨9, { req0 (.pooled 5) with attempts := 2 }, 5, (ioCtx0 2 0 1 0), { fab1 with now := 10000000000, ctxs := [ioCtx0 2 0 1 0], fb := { fab1.fb with reqs := [(9, { req0 (.pooled 5) with attempts := 2 })] } }, by decide +kernel⟩,
   ⟨9, fab1, by decide +kernel⟩,
   ⟨0, { src := 6, tag := 9, status := .success, dw0 := 0, dw1 := 0, reply := none, since := 0 }, { fab1 with now := 10000000000, fb := { fab1.fb with dups := [{ src := 6, tag := 9, status := .success, dw0 := 0, dw1 := 0, reply := none, since := 0 }] } }, by decide +kernel⟩,
   ⟨3, fab1, by decide +kernel⟩,
   ⟨3, 0, [7], { ticket := 1, slice := 0, nsid := 1, zone := 0, node := 6, rnsid := 2, rslba := 0, first := 0, next := 0, stop := 1, inflight := 0, committed := 0, running := true }, { fab1 with fb := { fab1.fb with copies := [(3, { ticket := 1, slice := 0, nsid := 1, zone := 0, node := 6, rnsid := 2, rslba := 0, first := 0, next := 0, stop := 1, inflight := 0, committed := 0, running := true })] } }, by decide +kernel⟩,
   ⟨3, [7], fab1, by decide +kernel⟩,
   ⟨4, 2, (run0.set CWP_PCFG_EN 1 2).set CWP_PSTAT_STATE cwDown 2, by decide +kernel⟩,
   ⟨3, (fab0.set JNR_BIND_0_V 1 3).set JNR_BIND_1_NODE 6 3, by decide +kernel⟩,
   ⟨3, ((run0.set JNR_BIND_0_V 1 3).set CWP_PCFG_EN 1 2).set CWP_PSTAT_STATE cwDown 2, by decide +kernel⟩,
   ⟨3, 99, 0, (({ run0 with now := 10000000, fb := { FabricState.reset with wakes := [(3, (99, 0))] } }.set JNR_BIND_0_V 1 3).set CWP_PCFG_EN 1 2).set CWP_PSTAT_STATE cwDown 2, by decide +kernel⟩,
   ⟨3, 100, 0, ({ run0 with now := 10000000, fb := { FabricState.reset with wakes := [(3, (100, 0))] } }.set JNR_BIND_0_V 1 3), by decide +kernel⟩,
   ⟨(7 + 3 * 4096), fab0, by decide +kernel⟩,
   ⟨3, 0, (2 ^ 31 + 1024 + 5), fab0, by decide +kernel⟩⟩

/-- The rows of `FaultsAndEvents` can be met. -/
theorem witness_FaultsAndEvents :
  (∃ (_addr _master _type cls _space : Nat) (s : State), Bound s ∧ (cls = 1) ∧ (s.coreOn = true)) ∧
  (∃ (_addr _master _type cls _space : Nat) (s : State), Bound s ∧ (cls = 2) ∧ (s.coreOn = true)) ∧
  (∃ (_addr _master _type cls _space : Nat) (s : State), Bound s ∧ (cls = 3 ∧ s.md.stopped = false ∧ s.md.restStep = none ∧ (s.md.mode = .run ∨ s.md.mode = .service)) ∧ (s.coreOn = true)) ∧
  (∃ (_addr _master _type cls _space : Nat) (s : State), Bound s ∧ (cls = 3 ∧ s.md.stopped = false ∧ (s.md.mode = .boot ∨ s.md.mode = .hold) ∧ s.pw.seq = .idle ∧ (s.rail 8).enabled = true ∧ (s.rail 7).enabled = true) ∧ (s.coreOn = true)) ∧
  (∃ (_addr _master _type cls _space : Nat) (s : State), Bound s ∧ (cls = 3 ∧ (s.md.stopped = true ∨ s.md.mode = .detour ∨ s.md.mode = .ret)) ∧ (s.coreOn = true)) ∧
  (∃ (q : Nat) (s : State), Bound s ∧ (s.fc.dumpSince = some q ∧ s.pw.seq = .idle ∧ (s.rail 8).enabled = true ∧ (s.rail 7).enabled = true) ∧ (s.inModes [.detour] = true ∧ q + 1000000000 ≤ s.now ∧ s.hu.dump.bind (·.committedAt) = none)) ∧
  (∃ s : State, Bound s ∧ (s.fc.dumpSince = none)) ∧
  (∃ s : State, Bound s ∧ (s.inModes [.run] = true ∧ s.fc.fatal = false ∧ 3600000 ≤ s.fc.runMs)) ∧
  (∃ s : State, Bound s ∧ (s.powered = true)) ∧
  (∃ (r : EvReq) (s : State), Bound s ∧ (leastBy (·.src) s.ev.todo = some r ∧ bit (s.get EVR_HOST_EN (r.src / 32)) (r.src % 32) = false ∧ s.ms.logQ = [] ∧ s.ms.newest = none) ∧ (s.coreOn = true)) ∧
  (∃ (r : EvReq) (n : Nat) (q : LogRec) (s : State), Bound s ∧ (leastBy (·.src) s.ev.todo = some r ∧ bit (s.get EVR_HOST_EN (r.src / 32)) (r.src % 32) = false ∧ bit (s.get EVR_LOG_EN (r.src / 32)) (r.src % 32) = true ∧ s.ms.logQ = [] ∧ s.ms.newest = some n ∧ s.ms.ring.look n = some q ∧ q.code = r.src ∧ q.p0 = r.param % 65536 ∧ q.p1 = r.param / 65536 % 65536 ∧ q.p2 = 0 ∧ q.p3 = 0 ∧ q.rep + s.ms.foldRep < 0xFFFF) ∧ (s.coreOn = true)) ∧
  (∃ (r : EvReq) (s : State), Bound s ∧ (leastBy (·.src) s.ev.todo = some r ∧ bit (s.get EVR_HOST_EN (r.src / 32)) (r.src % 32) = true ∧ bit (s.get EVR_LOG_EN (r.src / 32)) (r.src % 32) = false ∧ s.ev.queue.length < 256) ∧ (s.coreOn = true)) ∧
  (∃ (r : EvReq) (s : State), Bound s ∧ (leastBy (·.src) s.ev.todo = some r ∧ bit (s.get EVR_HOST_EN (r.src / 32)) (r.src % 32) = true ∧ bit (s.get EVR_LOG_EN (r.src / 32)) (r.src % 32) = false ∧ 256 ≤ s.ev.queue.length) ∧ (s.coreOn = true)) ∧
  (∃ (r : EvReq) (s : State), Bound s ∧ (leastBy (·.src) s.ev.todo = some r ∧ r.fresh = true ∧ bit (s.get EVR_HOST_EN (r.src / 32)) (r.src % 32) = false ∧ bit (s.get EVR_IRQ_EN (r.src / 32)) (r.src % 32) = true ∧ s.flag EVR_CTRL_IRQ = true ∧ (s.port s.privPort).cfg.msixEnable = true) ∧ (s.coreOn = true)) ∧
  (∃ s : State, Bound s ∧ (s.ev.todo = [])) ∧
  (∃ s : State, Bound s ∧ (s.powered = true)) :=
  ⟨⟨4096, 3, 5, 1, 2, run0, by decide +kernel⟩,
   ⟨4096, 3, 5, 2, 2, run0, by decide +kernel⟩,
   ⟨4096, 3, 5, 3, 2, run0, by decide +kernel⟩,
   ⟨4096, 3, 5, 3, 2, { inMode .hold with pw := { PowerState.reset with ao := true, rails := [(0, onRail), (1, onRail), (7, onRail), (8, onRail)] } }, by decide +kernel⟩,
   ⟨4096, 3, 5, 3, 2, inMode .ret, by decide +kernel⟩,
   ⟨0, { detour0 (dump0 [] []) with now := 1000000000, fc := { FaultState.reset with dumpSince := some 0 }, pw := { PowerState.reset with ao := true, rails := [(0, onRail), (1, onRail), (7, onRail), (8, onRail)] } }, by decide +kernel⟩,
   ⟨run0, by decide +kernel⟩,
   ⟨{ run0 with fc := { FaultState.reset with runMs := 3600000 } }.set FCL_RESTART_CNT 2, by decide +kernel⟩,
   ⟨(run0.set FCL_STATUS_VALID 1).set FCL_STATUS_MERGED 3, by decide +kernel⟩,
   ⟨{ src := 176, fresh := true, param := 7 }, { run0 with ev := { EventState.reset with todo := [{ src := 176, fresh := true, param := 7 }] } }.set EVR_HOST_EN 0 5, by decide +kernel⟩,
   ⟨{ src := 176, fresh := true, param := 4 }, 2, { code := 176, rep := 1, hours := 0, cycles := 0, ms := 0, p0 := 4, p1 := 0, p2 := 0, p3 := 0, flags := 0, mark := 0 }, ({ run0 with ms := { MilestoneState.reset with newest := some 2, ring := [(2, { code := 176, rep := 1, hours := 0, cycles := 0, ms := 0, p0 := 4, p1 := 0, p2 := 0, p3 := 0, flags := 0, mark := 0 })] }, ev := { EventState.reset with todo := [{ src := 176, fresh := true, param := 4 }] } }.set EVR_HOST_EN 0 5).set EVR_LOG_EN (2 ^ 32 - 1) 5, by decide +kernel⟩,
   ⟨{ src := 176, fresh := true, param := 7 }, ({ run0 with ev := { EventState.reset with todo := [{ src := 176, fresh := true, param := 7 }] } }.set EVR_HOST_EN (2 ^ 32 - 1) 5).set EVR_LOG_EN 0 5, by decide +kernel⟩,
   ⟨{ src := 176, fresh := true, param := 7 }, ({ run0 with ev := { EventState.reset with queue := List.replicate 256 { code := 3, rep := 1, hours := 0, cycles := 0, ms := 0, p0 := 4, p1 := 0, p2 := 0, p3 := 0, flags := 0, mark := 0 }, todo := [{ src := 176, fresh := true, param := 7 }] } }.set EVR_HOST_EN (2 ^ 32 - 1) 5).set EVR_LOG_EN 0 5, by decide +kernel⟩,
   ⟨{ src := 176, fresh := true, param := 7 }, (({ run0 with port0 := { run0.port0 with cfg := { run0.port0.cfg with msixEnable := true } }, ev := { EventState.reset with todo := [{ src := 176, fresh := true, param := 7 }] } }.set EVR_HOST_EN 0 5).set EVR_IRQ_EN (2 ^ 32 - 1) 5).set EVR_CTRL_IRQ 1, by decide +kernel⟩,
   ⟨run0, by decide +kernel⟩,
   ⟨{ run0 with ev := { EventState.reset with queue := [{ code := 3, rep := 1, hours := 0, cycles := 0, ms := 0, p0 := 0, p1 := 0, p2 := 0, p3 := 0, flags := 0, mark := 0 }] } }.set EVR_QCOUNT 1, by decide +kernel⟩⟩

/-- The rows of `MilestoneMemoryAndHousekeeping` can be met. -/
theorem witness_MilestoneMemoryAndHousekeeping :
  (∃ (r : LogRec) (rest : List LogRec) (s : State), Bound s ∧ (s.ms.logQ = r :: rest) ∧ (s.coreOn = true ∧ s.ms.recAt + 1000000 ≤ s.now)) ∧
  (∃ s : State, Bound s ∧ (s.ms.logQ = []) ∧ (s.coreOn = true ∧ s.ms.recAt + 1000000 ≤ s.now)) ∧
  (∃ (n q : Nat) (r : LogRec) (s : State), Bound s ∧ (s.ms.foldSince = some q ∧ 0 < s.ms.foldRep ∧ s.ms.newest = some n ∧ s.ms.ring.look n = some r) ∧ (s.coreOn = true ∧ q + 1000000000 ≤ s.now)) ∧
  (∃ s : State, Bound s ∧ (s.ms.foldSince = none)) ∧
  (∃ (line pulses : Nat) (ok : Bool) (s : State), Bound s ∧ (ok = true ∧ pulses = 1) ∧ (s.coreOn = true ∧ line < 27648 ∧ 1 ≤ pulses ∧ pulses ≤ 3)) ∧
  (∃ (line pulses : Nat) (ok : Bool) (s : State), Bound s ∧ (ok = true ∧ 1 < pulses ∧ ((s.ms.lines.lookD line LineEntry.fresh).pulse2 ≠ 3 ∨ (s.ms.lines.lookD line LineEntry.fresh).retired = true)) ∧ (s.coreOn = true ∧ line < 27648 ∧ 1 ≤ pulses ∧ pulses ≤ 3)) ∧
  (∃ (line pulses : Nat) (ok : Bool) (s : State), Bound s ∧ (ok = true ∧ 1 < pulses ∧ (s.ms.lines.lookD line LineEntry.fresh).pulse2 = 3 ∧ (s.ms.lines.lookD line LineEntry.fresh).retired = false ∧ 0 < s.get MSM_SPARES) ∧ (s.coreOn = true ∧ line < 27648 ∧ 1 ≤ pulses ∧ pulses ≤ 3)) ∧
  (∃ (line pulses : Nat) (ok : Bool) (s : State), Bound s ∧ (ok = false ∧ (s.ms.lines.lookD line LineEntry.fresh).retired = false ∧ 0 < s.get MSM_SPARES) ∧ (s.coreOn = true ∧ line < 27648 ∧ 1 ≤ pulses ∧ pulses ≤ 3)) ∧
  (∃ (line pulses : Nat) (ok : Bool) (s : State), Bound s ∧ (ok = false ∧ ((s.ms.lines.lookD line LineEntry.fresh).retired = true ∨ s.get MSM_SPARES = 0)) ∧ (s.coreOn = true ∧ line < 27648 ∧ 1 ≤ pulses ∧ pulses ≤ 3)) ∧
  (∃ s : State, Bound s ∧ (s.coreOn = true ∧ s.md.mode ≠ .rest ∧ s.ms.epochAt + 10000000 ≤ s.now)) ∧
  (∃ s : State, Bound s ∧ (s.coreOn = true ∧ s.ms.countersAt + 10000000000 ≤ s.now)) ∧
  (∃ s : State, Bound s ∧ (s.coreOn = true ∧ (s.get MSM_OP_HOURS + 1) * 360000 ≤ s.ms.opMs)) ∧
  (∃ (port size off : Nat) (s : State), Bound s ∧ (((size = 1 ∨ size = 2 ∨ size = 4) ∧ off < 4 ∧ off % size = 0) ∧ s.get MSM_LOG_CUR_WORD % 8 = 0) ∧ (s.powered = true ∧ port = s.privPort)) ∧
  (∃ (port size off : Nat) (s : State), Bound s ∧ (((size = 1 ∨ size = 2 ∨ size = 4) ∧ off < 4 ∧ off % size = 0) ∧ s.get MSM_LOG_CUR_WORD % 8 ≠ 0) ∧ (s.powered = true ∧ port = s.privPort)) ∧
  (∃ (port size off : Nat) (b : List Nat) (s : State), Bound s ∧ (((size = 1 ∨ size = 2 ∨ size = 4) ∧ off < 4 ∧ off % size = 0) ∧ s.shownLine (s.get MSM_WIN_ADDR_LINE) = some b) ∧ (s.powered = true ∧ port = s.privPort)) ∧
  (∃ (port size off : Nat) (s : State), Bound s ∧ (((size = 1 ∨ size = 2 ∨ size = 4) ∧ off < 4 ∧ off % size = 0) ∧ s.shownLine (s.get MSM_WIN_ADDR_LINE) = none) ∧ (s.powered = true ∧ port = s.privPort)) ∧
  (∃ s : State, Bound s ∧ (s.powered = true)) ∧
  (∃ (r : Round) (s : State), Bound s ∧ (s.md.offSince = none ∧ s.md.holdEntry = none ∧ s.md.holdWait = false ∧ s.flag THM_STATUS_WR_FORBID = false ∧ (r.die.all fun x => decide (x < 500)) = true ∧ r.powerMw < 65536) ∧ (s.coreOn = true ∧ s.th.roundAt + 10000000 ≤ s.now)) ∧
  (∃ (r : Round) (s : State), Bound s ∧ (s.md.offSince = none ∧ s.md.holdEntry = none ∧ s.md.holdWait = false ∧ s.flag THM_STATUS_WR_FORBID = false ∧ s.th.excluded = [] ∧ r.die = List.replicate 12 (4 * (s.step1C : Int)) ∧ s.step1C < s.step2C ∧ 1 ≤ s.th.over1 ∧ s.get THM_STATUS_STEP = 0) ∧ (s.coreOn = true ∧ s.th.roundAt + 10000000 ≤ s.now)) ∧
  (∃ (r : Round) (s : State), Bound s ∧ (s.md.offSince = none ∧ s.md.holdEntry = none ∧ s.md.holdWait = false ∧ s.th.excluded = [] ∧ r.die = List.replicate 12 500 ∧ s.th.declared = none ∧ s.md.stopped = false ∧ s.md.restStep = none ∧ (s.md.mode = .run ∨ s.md.mode = .service)) ∧ (s.coreOn = true ∧ s.th.roundAt + 10000000 ≤ s.now)) ∧
  (∃ (sensor : Nat) (s : State), Bound s ∧ ((s.rail 1).armed = true ∧ sensor < 12)) :=
  ⟨⟨{ code := 3, rep := 1, hours := 0, cycles := 0, ms := 0, p0 := 4, p1 := 0, p2 := 0, p3 := 0, flags := 0, mark := 0 }, [], { run0 with now := 1000000, ms := { MilestoneState.reset with logQ := [{ code := 3, rep := 1, hours := 0, cycles := 0, ms := 0, p0 := 4, p1 := 0, p2 := 0, p3 := 0, flags := 0, mark := 0 }] } }, by decide +kernel⟩,
   ⟨{ run0 with now := 1000000 }, by decide +kernel⟩,
   ⟨2, 0, { code := 3, rep := 1, hours := 0, cycles := 0, ms := 0, p0 := 4, p1 := 0, p2 := 0, p3 := 0, flags := 0, mark := 0 }, { run0 with now := 1000000000, ms := { MilestoneState.reset with foldSince := some 0, foldRep := 3, newest := some 2, ring := [(2, { code := 3, rep := 1, hours := 0, cycles := 0, ms := 0, p0 := 4, p1 := 0, p2 := 0, p3 := 0, flags := 0, mark := 0 })] } }, by decide +kernel⟩,
   ⟨run0, by decide +kernel⟩,
   ⟨70, 1, true, run0, by decide +kernel⟩,
   ⟨70, 2, true, run0, by decide +kernel⟩,
   ⟨70, 2, true, { run0 with ms := { MilestoneState.reset with lines := [(70, { pulse2 := 3, retired := false, spare := 0 })] } }.set MSM_SPARES 100, by decide +kernel⟩,
   ⟨70, 3, false, run0.set MSM_SPARES 100, by decide +kernel⟩,
   ⟨70, 3, false, run0.set MSM_SPARES 0, by decide +kernel⟩,
   ⟨{ run0 with now := 10000000 }, by decide +kernel⟩,
   ⟨{ run0 with now := 10000000000 }.set HUC_DETOUR_CNT 2, by decide +kernel⟩,
   ⟨{ run0 with ms := { MilestoneState.reset with opMs := 360000 } }, by decide +kernel⟩,
   ⟨0, 4, 0, { run0 with ms := { MilestoneState.reset with ring := [(0, { code := 3, rep := 1, hours := 0, cycles := 0, ms := 0, p0 := 4, p1 := 0, p2 := 0, p3 := 0, flags := 0, mark := 0 })] } }, by decide +kernel⟩,
   ⟨0, 4, 0, run0.set MSM_LOG_CUR_WORD 3, by decide +kernel⟩,
   ⟨0, 4, 0, (zeros 64), run0.set MSM_WIN_ADDR_LINE (21 * 1024), by decide +kernel⟩,
   ⟨0, 4, 0, run0.set MSM_WIN_ADDR_LINE (22 * 1024), by decide +kernel⟩,
   ⟨{ run0 with ms := { MilestoneState.reset with report := some { entries := [], overwritten := false, cause := 3, hdr := none } } }.set MSM_STATUS_REPORT 1, by decide +kernel⟩,
   ⟨{ die := List.replicate 12 160, ext := List.replicate 8 160, railMv := List.replicate 12 1000, powerMw := 20000 }, { run0 with now := 10000000 }, by decide +kernel⟩,
   ⟨{ die := List.replicate 12 (4 * (run0.step1C : Int)), ext := List.replicate 8 160, railMv := List.replicate 12 1000, powerMw := 20000 }, { run0 with now := 10000000, th := { ThermalState.reset with over1 := 1 } }, by decide +kernel⟩,
   ⟨{ die := List.replicate 12 500, ext := List.replicate 8 160, railMv := List.replicate 12 1000, powerMw := 20000 }, { run0 with now := 10000000 }, by decide +kernel⟩,
   ⟨3, run0, by decide +kernel⟩⟩

/-- The rows of `FirmwareStoreAndActivation` can be met. -/
theorem witness_FirmwareStoreAndActivation :
  (∃ (line bits : Nat) (core branch : Option Nat) (s : State), Bound s ∧ ((s.flag FWS_CFG_PF_EN = false ∨ line ∉ s.fw.prefetch) ∧ (s.flag FWS_CFG_BC_EN = false ∨ ∀ a ∈ branch, a ∉ s.fw.branches) ∧ bits < s.cbitTh) ∧ (s.coreOn = true ∧ line < 2 ^ 19 ∧ (∀ k ∈ core, k ≤ 17) ∧ (∀ a ∈ branch, a / 256 = line))) ∧
  (∃ (line _bits : Nat) (core branch : Option Nat) (s : State), Bound s ∧ (s.flag FWS_CFG_PF_EN = true ∧ line ∈ s.fw.prefetch ∧ branch = none) ∧ (s.coreOn = true ∧ line < 2 ^ 19 ∧ (∀ k ∈ core, k ≤ 17) ∧ (∀ a ∈ branch, a / 256 = line))) ∧
  (∃ (line _bits a : Nat) (core : Option Nat) (s : State), Bound s ∧ (s.flag FWS_CFG_BC_EN = true ∧ a ∈ s.fw.branches) ∧ (s.coreOn = true ∧ line < 2 ^ 19 ∧ (∀ k ∈ core, k ≤ 17) ∧ a / 256 = line)) ∧
  (∃ (line bits : Nat) (core branch : Option Nat) (s : State), Bound s ∧ ((s.flag FWS_CFG_PF_EN = false ∨ line ∉ s.fw.prefetch) ∧ (s.flag FWS_CFG_BC_EN = false ∨ ∀ a ∈ branch, a ∉ s.fw.branches) ∧ bits ≤ 8 ∧ s.cbitTh ≤ bits) ∧ (s.coreOn = true ∧ line < 2 ^ 19 ∧ (∀ k ∈ core, k ≤ 17) ∧ (∀ a ∈ branch, a / 256 = line))) ∧
  (∃ (line bits : Nat) (branch : Option Nat) (s : State), Bound s ∧ ((s.flag FWS_CFG_PF_EN = false ∨ line ∉ s.fw.prefetch) ∧ (s.flag FWS_CFG_BC_EN = false ∨ ∀ a ∈ branch, a ∉ s.fw.branches) ∧ 8 < bits) ∧ (s.coreOn = true ∧ line < 2 ^ 19 ∧ (∀ a ∈ branch, a / 256 = line))) ∧
  (∃ (line bits k : Nat) (branch : Option Nat) (s : State), Bound s ∧ ((s.flag FWS_CFG_PF_EN = false ∨ line ∉ s.fw.prefetch) ∧ (s.flag FWS_CFG_BC_EN = false ∨ ∀ a ∈ branch, a ∉ s.fw.branches) ∧ 8 < bits ∧ s.fw.retry.look k ≠ some line) ∧ (s.coreOn = true ∧ line < 2 ^ 19 ∧ k ≤ 17 ∧ (∀ a ∈ branch, a / 256 = line))) ∧
  (∃ (line bits k : Nat) (branch : Option Nat) (s : State), Bound s ∧ ((s.flag FWS_CFG_PF_EN = false ∨ line ∉ s.fw.prefetch) ∧ (s.flag FWS_CFG_BC_EN = false ∨ ∀ a ∈ branch, a ∉ s.fw.branches) ∧ 8 < bits ∧ s.fw.retry.look k = some line ∧ k < 17 ∧ s.get FWC_CORE_STATE k = 1) ∧ (s.coreOn = true ∧ line < 2 ^ 19 ∧ k ≤ 17 ∧ (∀ a ∈ branch, a / 256 = line))) ∧
  (∃ (ctx : Nat) (_data : List Nat) (x : Ctx) (s : State), Bound s ∧ (AdminWaits s ctx 0x11 x ∧ s.fw.prog = none)) ∧
  (∃ (ctx : Nat) (_data : List Nat) (s : State), Bound s ∧ (s.adminCtx ctx 0x11 (fun _ => s.fw.prog.isNone) = none)) ∧
  (∃ (ctx : Nat) (header : ImageHeader) (x : Ctx) (s : State), Bound s ∧ (AdminWaits s ctx 0x10 x ∧ s.fw.prog = none ∧ s.fw.activateDue = none ∧ s.fw.activating = none ∧ s.commitRefusal (bits x.e.dw10 2 0) (bits x.e.dw10 5 3) header = none ∧ x.stage = .fetched)) ∧
  (∃ (ctx : Nat) (_header : ImageHeader) (x : Ctx) (s : State), Bound s ∧ (AdminWaits s ctx 0x10 x ∧ s.fw.prog = none ∧ s.fw.activateDue = none ∧ s.fw.activating = none)) ∧
  (∃ (ctx : Nat) (_hdr : ImageHeader) (s : State), Bound s ∧ (s.adminCtx ctx 0x10 (fun _ => s.fw.prog.isNone && s.fw.activateDue.isNone && s.fw.activating.isNone) = none)) ∧
  (∃ (w : SlotWrite) (id : Nat) (x : Ctx) (s : State), Bound s ∧ (s.coreOn = true ∧ s.fw.prog = some w ∧ w.ctx = some id ∧ s.ctx id = some x ∧ x.stage ≠ .done ∧ x.remote = none ∧ x.replWait = false ∧ x.replFailed = false ∧ w.action = 1)) ∧
  (∃ (w : SlotWrite) (id : Nat) (x : Ctx) (s : State), Bound s ∧ (s.coreOn = true ∧ s.fw.prog = some w ∧ w.ctx = some id ∧ s.ctx id = some x ∧ x.stage ≠ .done ∧ x.remote = none ∧ x.replWait = false ∧ x.replFailed = false)) ∧
  (∃ (w : SlotWrite) (id : Nat) (s : State), Bound s ∧ (s.coreOn = true ∧ s.fw.prog = some w ∧ w.ctx = some id ∧ w.action = 3 ∧ s.mode = .run)) ∧
  (∃ (_ok : Bool) (s : State), Bound s ∧ (s.fw.prog = none)) ∧
  (∃ (ctx slot : Nat) (s : State), Bound s ∧ (s.fw.activateDue = some (slot, some ctx)) ∧ (s.inModes [.run] = true)) ∧
  (∃ (_ctx : Nat) (s : State), Bound s ∧ (s.fw.activateDue = none)) ∧
  (∃ s : State, Bound s ∧ (s.inModes [.run, .hold] = true ∧ s.flag FWS_STATUS_TRIAL = true ∧ 60000 ≤ s.fw.trialMs)) ∧
  (∃ (slot id : Nat) (x : Ctx) (s : State), Bound s ∧ (s.fw.activating = some (slot, some id) ∧ s.coreOn = true ∧ s.fw.restartAt.isSome = true ∧ slot < 4 ∧ s.ctx id = some x ∧ x.stage ≠ .done ∧ x.remote = none ∧ x.replWait = false ∧ x.replFailed = false)) ∧
  (∃ s : State, Bound s ∧ (s.fw.activating = none ∨ s.fw.restartAt = none)) ∧
  (∃ (slot id q : Nat) (x : Ctx) (s : State), Bound s ∧ (s.fw.activating = some (slot, some id) ∧ s.coreOn = true ∧ s.fw.restartAt = some q ∧ q + 2000000000 ≤ s.now ∧ s.ctx id = some x ∧ x.stage ≠ .done ∧ x.remote = none ∧ x.replWait = false ∧ x.replFailed = false)) ∧
  (∃ s : State, Bound s ∧ (s.fw.activating = none ∨ s.fw.restartAt = none)) ∧
  (∃ (core _cause k : Nat) (s : State), Bound s ∧ (core < 17 ∧ s.get FWC_CORE_STATE core = 0 ∧ (List.range 17).find? (fun k => s.get FWC_CORE_STATE k == 1) = some k) ∧ (s.coreOn = true ∧ core ≤ 17 ∧ s.inModes [.rest] = false ∧ (core = 17 ∨ s.inModes [.detour] = false))) ∧
  (∃ (core _cause : Nat) (s : State), Bound s ∧ (core < 17 ∧ s.get FWC_CORE_STATE core = 0 ∧ (List.range 17).find? (fun k => s.get FWC_CORE_STATE k == 1) = none ∧ s.md.stopped = false ∧ s.md.restStep = none ∧ (s.md.mode = .run ∨ s.md.mode = .service)) ∧ (s.coreOn = true ∧ core ≤ 17 ∧ s.inModes [.rest] = false ∧ (core = 17 ∨ s.inModes [.detour] = false))) ∧
  (∃ (core _cause : Nat) (s : State), Bound s ∧ (core < 17 ∧ s.get FWC_CORE_STATE core ≠ 0) ∧ (s.coreOn = true ∧ core ≤ 17 ∧ s.inModes [.rest] = false ∧ (core = 17 ∨ s.inModes [.detour] = false))) ∧
  (∃ (_cause : Nat) (s : State), Bound s ∧ (s.md.stopped = false ∧ s.md.restStep = none ∧ (s.md.mode = .run ∨ s.md.mode = .service)) ∧ (s.coreOn = true ∧ s.inModes [.rest] = false)) ∧
  (∃ s : State, Bound s ∧ (s.recordFits = true) ∧ (s.commitAllowed = true)) ∧
  (∃ s : State, Bound s ∧ (s.recordFits = false ∧ s.mg.running = []) ∧ (s.commitAllowed = true)) ∧
  (∃ (r : CfgCopy) (s : State), Bound s ∧ (s.fw.commit = some r ∧ s.coreOn = true ∧ Resting s)) ∧
  (∃ s : State, Bound s ∧ (s.fw.commit = none)) :=
  ⟨⟨100, 0, none, none, run0, by decide +kernel⟩,
   ⟨100, 9, (some 3), none, { run0 with fw := { FwState.reset with prefetch := [100] } }.set FWS_CFG_PF_EN 1, by decide +kernel⟩,
   ⟨100, 9, 25601, (some 3), { run0 with fw := { FwState.reset with branches := [7, 25601] } }.set FWS_CFG_BC_EN 1, by decide +kernel⟩,
   ⟨100, 8, (some 3), none, run0, by decide +kernel⟩,
   ⟨100, 9, none, run0, by decide +kernel⟩,
   ⟨100, 9, 3, none, run0, by decide +kernel⟩,
   ⟨100, 9, 3, none, { run0 with fw := { FwState.reset with retry := [(3, 100)] } }.set FWC_CORE_STATE 1 3, by decide +kernel⟩,
   ⟨5, [1, 2], (ctx0 0 0x11 0 1023 0 0), adm0 0x11 0 1023 0, by decide +kernel⟩,
   ⟨5, [1, 2], run0, by decide +kernel⟩,
   ⟨5, { part := 0x6400, good := true, cfgVerMax := 1, slot := 0, rev := 3 }, (ctx0 0 0x10 0 (2 + 8) 0 0), { adm0 0x10 0 (2 + 8) 0 with fw := { FwState.reset with download := [(0, [1])] } }.set FWS_STATUS_SLOT_RUN 1, by decide +kernel⟩,
   ⟨5, { part := 0x6400, good := true, cfgVerMax := 1, slot := 0, rev := 3 }, (ctx0 0 0x10 0 (1 + 8) 0 0), (adm0 0x10 0 (1 + 8) 0).set FWS_STATUS_SLOT_RUN 1, by decide +kernel⟩,
   ⟨5, { part := 0x6400, good := true, cfgVerMax := 1, slot := 0, rev := 3 }, run0, by decide +kernel⟩,
   ⟨{ slot := 2, action := 1, ctx := some 5, hdr := { part := 0x6400, good := true, cfgVerMax := 1, slot := 0, rev := 3 } }, 5, { ctx0 0 0x10 0 (2 + 8) 0 0 with stage := .issued }, { adm0 0x10 0 (2 + 8) 0 with ctxs := [{ ctx0 0 0x10 0 (2 + 8) 0 0 with stage := .issued }], fw := { FwState.reset with download := [(0, [1])], prog := some { slot := 2, action := 1, ctx := some 5, hdr := { part := 0x6400, good := true, cfgVerMax := 1, slot := 0, rev := 3 } } } }.set FWS_STATUS_SLOT_RUN 1, by decide +kernel⟩,
   ⟨{ slot := 2, action := 1, ctx := some 5, hdr := { part := 0x6400, good := true, cfgVerMax := 1, slot := 0, rev := 3 } }, 5, { ctx0 0 0x10 0 (2 + 8) 0 0 with stage := .issued }, { adm0 0x10 0 (2 + 8) 0 with ctxs := [{ ctx0 0 0x10 0 (2 + 8) 0 0 with stage := .issued }], fw := { FwState.reset with download := [(0, [1])], prog := some { slot := 2, action := 1, ctx := some 5, hdr := { part := 0x6400, good := true, cfgVerMax := 1, slot := 0, rev := 3 } } } }.set FWS_STATUS_SLOT_RUN 1, by decide +kernel⟩,
   ⟨{ slot := 2, action := 3, ctx := some 5, hdr := { part := 0x6400, good := true, cfgVerMax := 1, slot := 0, rev := 3 } }, 5, { run0 with fw := { FwState.reset with download := [(0, [1])], prog := some { slot := 2, action := 3, ctx := some 5, hdr := { part := 0x6400, good := true, cfgVerMax := 1, slot := 0, rev := 3 } } } }.set FWS_STATUS_SLOT_RUN 1, by decide +kernel⟩,
   ⟨true, run0, by decide +kernel⟩,
   ⟨5, 2, { adm0 0x10 0 (2 + 24) 0 with fw := { FwState.reset with activateDue := some (2, some 5) } }, by decide +kernel⟩,
   ⟨5, run0, by decide +kernel⟩,
   ⟨{ run0 with fw := { FwState.reset with trialMs := 60000 } }.set FWS_STATUS_TRIAL 1, by decide +kernel⟩,
   ⟨2, 5, (ctx0 0 0x10 0 26 0 0), { adm0 0x10 0 26 0 with fw := { FwState.reset with activating := some (2, some 5), restartAt := some 0 } }, by decide +kernel⟩,
   ⟨run0, by decide +kernel⟩,
   ⟨2, 5, 0, (ctx0 0 0x10 0 26 0 0), { adm0 0x10 0 26 0 with now := 2000000000, fw := { FwState.reset with activating := some (2, some 5), restartAt := some 0 } }, by decide +kernel⟩,
   ⟨run0, by decide +kernel⟩,
   ⟨3, 1, 16, run0.set FWC_CORE_STATE 1 16, by decide +kernel⟩,
   ⟨3, 1, run0, by decide +kernel⟩,
   ⟨3, 1, run0.set FWC_CORE_STATE 1 3, by decide +kernel⟩,
   ⟨1, run0, by decide +kernel⟩,
   ⟨{ run0 with now := 100000000, fw := { FwState.reset with pendAt := some 0 } }.set FWC_CFGREC_PEND 1, by decide +kernel⟩,
   ⟨{ run0 with now := 100000000, fw := { FwState.reset with pendAt := some 0 }, wpt := { WptState.reset with rows := (List.range 3900).map fun k => (k, { key := k, mask := 0, res := 0, valid := true }) } }.set FWC_CFGREC_PEND 1, by decide +kernel⟩,
   ⟨(cfg1 3), { run0 with fw := { FwState.reset with commit := some (cfg1 3) } }, by decide +kernel⟩,
   ⟨run0, by decide +kernel⟩⟩

/-- The rows of `PacketsThatOnlyRead` can be met. -/
theorem witness_PacketsThatOnlyRead :
  (∃ (p : Packet) (s : State), Bound s ∧ (PacketRuns p 0x0100 s)) ∧
  (∃ (p : Packet) (s : State), Bound s ∧ (PacketRuns p 0x0101 s)) ∧
  (∃ (p : Packet) (s : State), Bound s ∧ (PacketRuns p 0x0102 s)) ∧
  (∃ (p : Packet) (s : State), Bound s ∧ (PacketRuns p 0x0103 s)) ∧
  (∃ (p : Packet) (c : CfgCopy) (s : State), Bound s ∧ (PacketRuns p 0x0201 s ∧ s.cfgInUse = some c)) ∧
  (∃ (p : Packet) (s : State), Bound s ∧ (PacketRuns p 0x0201 s ∧ s.cfgInUse = none)) ∧
  (∃ (p : Packet) (s : State), Bound s ∧ (PacketRuns p 0x0305 s)) ∧
  (∃ (p : Packet) (s : State), Bound s ∧ (PacketRuns p 0x0500 s)) ∧
  (∃ (p : Packet) (s : State), Bound s ∧ (PacketRuns p 0x0501 s)) ∧
  (∃ (p : Packet) (k : Ticket) (s : State), Bound s ∧ (PacketRuns p 0x0601 s ∧ s.mg.tickets.look (field (pkParams p.bytes) 0 2) = some k)) ∧
  (∃ (p : Packet) (s : State), Bound s ∧ (PacketRuns p 0x0700 s)) ∧
  (∃ (p : Packet) (s : State), Bound s ∧ (PacketRuns p 0x0702 s)) ∧
  (∃ (p : Packet) (s : State), Bound s ∧ (PacketRuns p 0x0703 s)) ∧
  (∃ (p : Packet) (s : State), Bound s ∧ (PacketRuns p 0x0705 s)) ∧
  (∃ (p : Packet) (s : State), Bound s ∧ (PacketRuns p 0x0805 s)) ∧
  (∃ (p : Packet) (s : State), Bound s ∧ (PacketRuns p 0x0902 s)) ∧
  (∃ (p : Packet) (s : State), Bound s ∧ (PacketRuns p 0x0A03 s)) ∧
  (∃ (p : Packet) (_data : List Nat) (s : State), Bound s ∧ (PacketRuns p 0x0F00 s)) ∧
  (∃ (p : Packet) (st : Nat) (s : State), Bound s ∧ (p.carrier = 1 ∧ pkOpcode p.bytes = 0x0103 ∧ s.hears 1 = true ∧ s.packetFault p = some st ∧ s.md.mode ≠ .rest ∧ s.md.restStep = none)) ∧
  (∃ (p : Packet) (s : State), Bound s ∧ (p.carrier = 1 ∧ s.hears 1 = false)) :=
  ⟨⟨(pkt 0x0100 []), side .run, by decide +kernel⟩,
   ⟨(pkt 0x0101 []), side .run, by decide +kernel⟩,
   ⟨(pkt 0x0102 [1, 0, 0, 0, 0, 0, 0, 0]), { side .run with ns := [(1, nsConv)] }, by decide +kernel⟩,
   ⟨(pkt 0x0103 (le 4 0x38 ++ [2, 0, 0, 0])), side .run, by decide +kernel⟩,
   ⟨(pkt 0x0201 []), (cfg1 9), { side .run with fw := { run0.fw with cfgA := some (cfg1 9) } }.set FWC_CFGREC_SRC 1, by decide +kernel⟩,
   ⟨(pkt 0x0201 []), side .run, by decide +kernel⟩,
   ⟨(pkt 0x0305 [3, 0, 0, 0]), side .run, by decide +kernel⟩,
   ⟨(pkt 0x0500 []), side .detour, by decide +kernel⟩,
   ⟨(pkt 0x0501 []), (side .run).set HUC_STATUS_PRESENT 1, by decide +kernel⟩,
   ⟨(pkt 0x0601 [7, 0, 0, 0]), { state := 3, kind := 8, ch := 0, start := 0, len := 0, r0 := 1, r1 := 2, r2 := 3, r3 := 4, ended := some 0 }, { side .run with mg := { MgmtState.reset with tickets := [(7, { state := 3, kind := 8, ch := 0, start := 0, len := 0, r0 := 1, r1 := 2, r2 := 3, r3 := 4, ended := some 0 })] } }, by decide +kernel⟩,
   ⟨(pkt 0x0700 [5, 0, 2, 0]), side .run, by decide +kernel⟩,
   ⟨(pkt 0x0702 [1, 0, 0, 0]), side .run, by decide +kernel⟩,
   ⟨(pkt 0x0703 [0, 0, 1, 0]), side .run, by decide +kernel⟩,
   ⟨(pkt 0x0705 [0, 0, 1, 0]), side .run, by decide +kernel⟩,
   ⟨(pkt 0x0805 []), side .run, by decide +kernel⟩,
   ⟨(pkt 0x0902 []), side .run, by decide +kernel⟩,
   ⟨(pkt 0x0A03 []), side .run, by decide +kernel⟩,
   ⟨(pkt 0x0F00 [2, 1, 9, 0, 0, 0, 0, 0, 0, 0, 0, 0]), [1, 2], (side .service).set FSQ_DIE_STATE 1 2 1, by decide +kernel⟩,
   ⟨(pkt 0x0103 (le 4 0x38 ++ [0, 0, 0, 0])), 0x15, side .run, by decide +kernel⟩,
   ⟨(pkt 0x0103 (le 4 0x38 ++ [1, 0, 0, 0])), inMode .off, by decide +kernel⟩⟩

/-- The rows of `PacketsThatWriteRegisters` can be met. -/
theorem witness_PacketsThatWriteRegisters :
  (∃ (p : Packet) (f : Field) (i j : Nat) (s : State), Bound s ∧ (PacketRuns p 0x0104 s ∧ PlainField f i j ∧ f.acc = .rw ∧ field (pkParams p.bytes) 0 4 = f.reg.at i j)) ∧
  (∃ (p : Packet) (s : State), Bound s ∧ (PacketRuns p 0x0300 s)) ∧
  (∃ (p : Packet) (s : State), Bound s ∧ (PacketRuns p 0x0301 s)) ∧
  (∃ (p : Packet) (s : State), Bound s ∧ (PacketRuns p 0x0302 s)) ∧
  (∃ (p : Packet) (s : State), Bound s ∧ (PacketRuns p 0x0304 s)) ∧
  (∃ (p : Packet) (s : State), Bound s ∧ (PacketRuns p 0x0401 s)) ∧
  (∃ (p : Packet) (s : State), Bound s ∧ (PacketRuns p 0x0402 s)) ∧
  (∃ (p : Packet) (s : State), Bound s ∧ (PacketRuns p 0x0403 s)) ∧
  (∃ (p : Packet) (s : State), Bound s ∧ (PacketRuns p 0x0502 s)) ∧
  (∃ (p : Packet) (s : State), Bound s ∧ (PacketRuns p 0x0800 s)) ∧
  (∃ (p : Packet) (s : State), Bound s ∧ (PacketRuns p 0x0801 s)) ∧
  (∃ (p : Packet) (s : State), Bound s ∧ (PacketRuns p 0x0803 s)) ∧
  (∃ (p : Packet) (s : State), Bound s ∧ (PacketRuns p 0x0F03 s)) :=
  ⟨⟨(pkt 0x0104 (le 4 (rMGI_CFG.at 0 0) ++ le 4 0x0A8 ++ le 4 0x1F0)), MGI_CFG_SMB_ADDR, 0, 0, side .run, by decide +kernel⟩,
   ⟨(pkt 0x0300 [3, 0, 0, 0]), side .run, by decide +kernel⟩,
   ⟨(pkt 0x0301 [7, 0, 2, 1, 9, 0, 0, 0]), side .run, by decide +kernel⟩,
   ⟨(pkt 0x0302 ([3, 0, 0, 0] ++ [1, 2, 3, 4] ++ zeros 124)), side .run, by decide +kernel⟩,
   ⟨(pkt 0x0304 ([3, 0, 0, 0] ++ [1, 2, 3, 4] ++ zeros 32)), side .run, by decide +kernel⟩,
   ⟨(pkt 0x0401 ([5, 0, 0, 0] ++ [255, 0, 0, 0] ++ zeros 4 ++ [9, 0, 0, 128])), side .run, by decide +kernel⟩,
   ⟨(pkt 0x0402 ([5, 0, 0, 0] ++ [255, 0, 0, 0, 1, 2, 3, 4, 5, 6, 7, 8, 9, 0, 0, 0, 11, 0, 0, 0])), side .run, by decide +kernel⟩,
   ⟨(pkt 0x0403 [12, 0, 5, 0]), side .run, by decide +kernel⟩,
   ⟨(pkt 0x0502 [1, 0, 0, 0]), packed 3 (side .run), by decide +kernel⟩,
   ⟨(pkt 0x0800 [5, 0, 1, 0, 1, 0, 0, 0]), side .run, by decide +kernel⟩,
   ⟨(pkt 0x0801 [7, 1, 6, 0, 0, 0, 0, 0]), side .run, by decide +kernel⟩,
   ⟨(pkt 0x0803 [4, 0, 0, 0]), ((side .run).set JNR_BIND_0_V 1 4).set JNR_BIND_0_LNSID 6 4, by decide +kernel⟩,
   ⟨(pkt 0x0F03 [2, 1, 0, 5, 0, 1, 0, 128]), side .service, by decide +kernel⟩⟩

/-- The rows of `PacketsThatWait` can be met. -/
theorem witness_PacketsThatWait :
  (∃ (p : Packet) (s : State), Bound s ∧ (PacketRuns p 0x0200 s)) ∧
  (∃ (p : Packet) (s : State), Bound s ∧ (PacketRuns p 0x0303 s ∧ s.underReset (field (pkParams p.bytes) 0 1) = false ∧ s.inModes [.run, .service] = true ∧ Quiet s ∧ s.cd.cws = [])) ∧
  (∃ (p : Packet) (r : Nat) (s : State), Bound s ∧ (PacketRuns p 0x0802 s ∧ s.hasPath (field (pkParams p.bytes) 4 2) = true ∧ s.fb.reqs.freeKey 8192 = some r)) ∧
  (∃ (p : Packet) (s : State), Bound s ∧ (PacketRuns p 0x0802 s ∧ s.hasPath (field (pkParams p.bytes) 4 2) = false)) ∧
  (∃ (p : Packet) (hdr : ImageHeader) (s : State), Bound s ∧ (PacketRuns p 0x0901 s ∧ s.fw.bootRom = false ∧ s.fw.prog = none ∧ s.fw.activateDue = none ∧ s.fw.activating = none ∧ s.commitRefusal (field (pkParams p.bytes) 0 1) (field (pkParams p.bytes) 1 1) hdr = none)) ∧
  (∃ (p : Packet) (_hdr : ImageHeader) (s : State), Bound s ∧ (PacketRuns p 0x0901 s ∧ s.fw.bootRom = false)) ∧
  (∃ (p : Packet) (hdr : ImageHeader) (s : State), Bound s ∧ (PacketRuns p 0x0901 s ∧ s.fw.bootRom = true ∧ (s.fw.romSlot = 0 ∨ hdr.part ≠ 0x6400 ∨ hdr.good = false))) ∧
  (∃ (p : Packet) (_hdr : ImageHeader) (s : State), Bound s ∧ (PacketRuns p 0x0900 s ∧ s.fw.bootRom = false ∧ s.fw.prog = none)) ∧
  (∃ (p : Packet) (hdr : ImageHeader) (s : State), Bound s ∧ (PacketRuns p 0x0900 s ∧ s.fw.bootRom = true ∧ field (pkParams p.bytes) 0 4 = 0 ∧ (hdr.slot = 1 ∨ hdr.slot = 2))) ∧
  (∃ (p : Packet) (s : State), Bound s ∧ (PacketRuns p 0x0A02 s ∧ field (pkParams p.bytes) 0 1 = 3 ∧ (s.md.mode = .run ∨ s.md.mode = .service) ∧ s.inTransition = false ∧ s.wc.pairs = [])) ∧
  (∃ (p : Packet) (s : State), Bound s ∧ (PacketRuns p 0x0A02 s ∧ field (pkParams p.bytes) 0 1 = 8 ∧ s.md.mode = .run ∧ s.inTransition = false)) ∧
  (∃ (p : Packet) (s : State), Bound s ∧ (PacketRuns p 0x0A02 s ∧ field (pkParams p.bytes) 0 1 = 8 ∧ s.md.mode = .service)) ∧
  (∃ (p : Packet) (n : Nat) (u : State) (z : Zone) (s : State), Bound s ∧ (PacketRuns p 0x0804 s ∧ s.newTicket 0x80 0 0 0 = some (n, u) ∧ s.fb.copies = [] ∧ s.zone (field (pkParams p.bytes) 0 4) (field (pkParams p.bytes) 4 4) = some z ∧ 0 < z.wp)) ∧
  (∃ (p : Packet) (s : State), Bound s ∧ (PacketRuns p 0x0804 s ∧ 64 ≤ s.mg.tickets.length)) ∧
  (∃ (p : Packet) (n : Nat) (u : State) (s : State), Bound s ∧ (PacketRuns p 0x0600 s ∧ field (pkParams p.bytes) 0 1 = 8 ∧ s.newTicket 8 (field (pkParams p.bytes) 1 1) 0 0 = some (n, u))) ∧
  (∃ (p : Packet) (n : Nat) (u : State) (s : State), Bound s ∧ (PacketRuns p 0x0600 s ∧ field (pkParams p.bytes) 0 1 = 9 ∧ s.newTicket 9 (field (pkParams p.bytes) 1 1) 0 0 = some (n, u) ∧ s.xl.ticketNext = none)) ∧
  (∃ (p : Packet) (s : State), Bound s ∧ (PacketRuns p 0x0600 s ∧ ((field (pkParams p.bytes) 0 1 = 7 ∧ s.chLive (field (pkParams p.bytes) 1 1) = false) ∨ ((field (pkParams p.bytes) 0 1 = 4 ∨ field (pkParams p.bytes) 0 1 = 5) ∧ s.chFailed (field (pkParams p.bytes) 1 1) = true)))) ∧
  (∃ (p : Packet) (n : Nat) (u : State) (s : State), Bound s ∧ (PacketRuns p 0x0600 s ∧ s.newTicket (field (pkParams p.bytes) 0 1) (field (pkParams p.bytes) 1 1) 0 0 = some (n, u) ∧ s.packSound = false ∧ ((field (pkParams p.bytes) 0 1 = 1 ∧ s.hu.zTicket = none) ∨ (field (pkParams p.bytes) 0 1 = 2 ∧ s.hu.learnTicket = none) ∨ (field (pkParams p.bytes) 0 1 = 3 ∧ s.hu.restTicket = none)))) ∧
  (∃ (p : Packet) (s : State), Bound s ∧ (PacketRuns p 0x0600 s ∧ ((field (pkParams p.bytes) 0 1 = 1 ∧ s.hu.zTicket.isSome = true) ∨ (field (pkParams p.bytes) 0 1 = 2 ∧ s.hu.learnTicket.isSome = true) ∨ (field (pkParams p.bytes) 0 1 = 3 ∧ s.hu.restTicket.isSome = true) ∨ (field (pkParams p.bytes) 0 1 = 9 ∧ s.xl.ticketNext.isSome = true)))) ∧
  (∃ (p : Packet) (s : State), Bound s ∧ (PacketRuns p 0x0600 s ∧ 64 ≤ s.mg.tickets.length ∧ 4 ≠ field (pkParams p.bytes) 0 1 ∧ 5 ≠ field (pkParams p.bytes) 0 1 ∧ 7 ≠ field (pkParams p.bytes) 0 1)) :=
  ⟨⟨(pkt 0x0200 []), side .run, by decide +kernel⟩,
   ⟨(pkt 0x0303 [0, 0, 0, 0]), side .run, by decide +kernel⟩,
   ⟨(pkt 0x0802 [4, 1, 3, 0, 6, 0, 1, 0]), 0, { side .run with fb := fab0.fb }.set CWP_PSTAT_STATE cwUp 1, by decide +kernel⟩,
   ⟨(pkt 0x0802 [4, 1, 3, 0, 6, 0, 1, 0]), side .run, by decide +kernel⟩,
   ⟨(pkt 0x0901 [2, 1, 0, 0]), { part := 0x6400, good := true, cfgVerMax := 1, slot := 0, rev := 3 }, { side .run with fw := { FwState.reset with download := [(0, [1])] } }.set FWS_STATUS_SLOT_RUN 1, by decide +kernel⟩,
   ⟨(pkt 0x0901 [1, 1, 0, 0]), { part := 0x6400, good := true, cfgVerMax := 1, slot := 0, rev := 3 }, (side .run).set FWS_STATUS_SLOT_RUN 1, by decide +kernel⟩,
   ⟨(pkt 0x0901 [0, 1, 0, 0]), { part := 0x6400, good := false, cfgVerMax := 1, slot := 0, rev := 3 }, { side .boot with fw := { FwState.reset with bootRom := true, romSlot := 1 } }, by decide +kernel⟩,
   ⟨(pkt 0x0900 piece0), { part := 0x6400, good := true, cfgVerMax := 1, slot := 2, rev := 3 }, side .run, ⟨rfl, piece0_runs _ (by decide +kernel) (by decide +kernel), by decide +kernel⟩⟩,
   ⟨(pkt 0x0900 piece0), { part := 0x6400, good := true, cfgVerMax := 1, slot := 2, rev := 3 }, { side .boot with fw := { FwState.reset with bootRom := true } }, ⟨rfl, piece0_runs _ (by decide +kernel) (by decide +kernel), rfl, by rw [piece0_params]; decide +kernel, by decide⟩⟩,
   ⟨(pkt 0x0A02 [3, 0, 0, 0]), side .run, by decide +kernel⟩,
   ⟨(pkt 0x0A02 [8, 0, 0, 0]), side .run, by decide +kernel⟩,
   ⟨(pkt 0x0A02 [8, 0, 0, 0]), side .service, by decide +kernel⟩,
   ⟨zcopy, 1, { side .run with mg := { MgmtState.reset with tickets := [(1, tick1 0x80 0)], nextTicket := 2 }, ns := [(1, ns1)], zn := (zio .closed 9 0 0 0 0).zn }, (zone1 .closed 9), { side .run with ns := [(1, ns1)], zn := (zio .closed 9 0 0 0 0).zn }, by decide +kernel⟩,
   ⟨zcopy, { side .run with mg := { MgmtState.reset with tickets := (List.range 64).map fun k => (k + 1, tick1 8 0) }, ns := [(1, ns1)], zn := (zio .closed 9 0 0 0 0).zn }, by decide +kernel⟩,
   ⟨(pkt 0x0600 [8, 0, 0, 0]), 1, { side .run with mg := { MgmtState.reset with tickets := [(1, tick1 8 0)], nextTicket := 2 } }, side .run, by decide +kernel⟩,
   ⟨(pkt 0x0600 [9, 0, 0, 0]), 1, { side .run with mg := { MgmtState.reset with tickets := [(1, tick1 9 0)], nextTicket := 2 } }, side .run, by decide +kernel⟩,
   ⟨(pkt 0x0600 [4, 3, 0, 0]), (side .run).set FSQ_STATUS_STATE 2 3, by decide +kernel⟩,
   ⟨(pkt 0x0600 [1, 0, 0, 0]), 1, { side .run with mg := { MgmtState.reset with tickets := [(1, tick1 1 0)], nextTicket := 2 } }, side .run, by decide +kernel⟩,
   ⟨(pkt 0x0600 [1, 0, 0, 0]), { side .run with hu := { run0.hu with zTicket := some 7 } }, by decide +kernel⟩,
   ⟨(pkt 0x0600 [1, 0, 0, 0]), { side .run with mg := { MgmtState.reset with tickets := (List.range 64).map fun k => (k + 1, tick1 8 0) } }, by decide +kernel⟩⟩

/-- The rows of `PacketsThatAct` can be met. -/
theorem witness_PacketsThatAct :
  (∃ (p : Packet) (s : State), Bound s ∧ (PacketRuns p 0x0400 s ∧ s.wptBusy = false ∧ (s.wpt.rows.look 4095).map (·.valid) ≠ some true)) ∧
  (∃ (p : Packet) (s : State), Bound s ∧ (PacketRuns p 0x0400 s ∧ s.wptBusy = true)) ∧
  (∃ (p : Packet) (k : Ticket) (s : State), Bound s ∧ (PacketRuns p 0x0602 s ∧ s.mg.tickets.look (field (pkParams p.bytes) 0 2) = some k)) ∧
  (∃ s : State, Bound s ∧ (s.powered = true)) ∧
  (∃ (ticket : Nat) (k : Ticket) (q : Nat) (s : State), Bound s ∧ (s.mg.tickets.look ticket = some k ∧ k.ended = some q) ∧ (s.powered = true ∧ 3 ≤ k.state ∧ q + 3600000000000 ≤ s.now)) ∧
  (∃ (ticket : Nat) (s : State), Bound s ∧ (s.mg.tickets.look ticket = none)) ∧
  (∃ (p : Packet) (s : State), Bound s ∧ (PacketRuns p 0x0701 s)) ∧
  (∃ (p : Packet) (s : State), Bound s ∧ (PacketRuns p 0x0704 s)) ∧
  (∃ (p : Packet) (s : State), Bound s ∧ (PacketRuns p 0x0A00 s ∧ s.md.mode ≠ .hold)) ∧
  (∃ (p : Packet) (s : State), Bound s ∧ (PacketRuns p 0x0A01 s ∧ (s.md.mode = .run ∨ s.md.mode = .service) ∧ s.md.offSince = none ∧ s.flag THM_STATUS_WR_FORBID = false ∧ s.wc.pairs = [])) ∧
  (∃ (p : Packet) (s : State), Bound s ∧ (PacketRuns p 0x0F01 s)) ∧
  (∃ (p : Packet) (s : State), Bound s ∧ (PacketRuns p 0x0F01 s ∧ (List.range (mediaOf (field (pkParams p.bytes) 8 1)).bitsPer).all (fun g => (s.mg.staged.put (rawKey (pkParams p.bytes)) ((pkParams p.bytes).drop 12)).has (rawKey (pkParams p.bytes) / 4 * 4 + g)) = true)) ∧
  (∃ (p : Packet) (s : State), Bound s ∧ (PacketRuns p 0x0F02 s)) ∧
  (∃ (p : Packet) (s : State), Bound s ∧ (PacketRuns p 0x0F04 s ∧ s.get FSQ_DIE_STATE (field (pkParams p.bytes) 0 1) (field (pkParams p.bytes) 1 1) ≠ dieFailed)) :=
  ⟨⟨(pkt 0x0400 ([2, 0, 7, 0, 77, 0, 0, 0] ++ zeros 32)), side .run, by decide +kernel⟩,
   ⟨(pkt 0x0400 ([2, 0, 7, 0, 77, 0, 0, 0] ++ zeros 32)), { side .run with wpt := { WptState.reset with busy := some (4, 9) } }, by decide +kernel⟩,
   ⟨(pkt 0x0602 [7, 0, 0, 0]), (tick1 8 0), { side .run with mg := { MgmtState.reset with tickets := [(7, tick1 8 0)] } }, by decide +kernel⟩,
   ⟨{ side .run with mg := { MgmtState.reset with tickets := [(3, { tick1 8 0 with state := 2 }), (5, { tick1 8 0 with state := 4 }), (7, tick1 8 0)] } }, by decide +kernel⟩,
   ⟨5, { tick1 8 0 with state := 4, ended := some 0 }, 0, { side .run with now := 3600000000000, mg := { MgmtState.reset with tickets := [(5, { tick1 8 0 with state := 4, ended := some 0 })] } }, by decide +kernel⟩,
   ⟨5, side .run, by decide +kernel⟩,
   ⟨(pkt 0x0701 [1, 240, 2, 0, 3, 0, 4, 0, 5, 0, 0, 0]), side .run, by decide +kernel⟩,
   ⟨(pkt 0x0704 []), (side .run).set MSM_STATUS_REPORT 1, by decide +kernel⟩,
   ⟨(pkt 0x0A00 []), side .run, by decide +kernel⟩,
   ⟨(pkt 0x0A01 []), side .run, by decide +kernel⟩,
   ⟨(apkt 0x0F01 (rawPage0 2)), rawSide, ⟨rfl, rawPage0_runs⟩⟩,
   ⟨(apkt 0x0F01 (rawPage0 2)), rawSide, ⟨rfl, rawPage0_runs, by rw [rawPage0_params]; decide +kernel⟩⟩,
   ⟨(pkt 0x0F02 [2, 1, 9, 0]), (side .service).set FSQ_DIE_STATE 1 2 1, by decide +kernel⟩,
   ⟨(pkt 0x0F04 [2, 1, 0, 0]), (side .run).set FSQ_DIE_STATE 1 2 1, by decide +kernel⟩⟩

/-- The rows of `CarriersNvmeMiAndTestPort` can be met. -/
theorem witness_CarriersNvmeMiAndTestPort :
  (∃ (ctx : Nat) (bytes : List Nat) (_replyOk : Bool) (x : Ctx) (s : State), Bound s ∧ (s.adminCtx ctx 0xC1 (fun c => c.port == s.privPort) = some x ∧ 20 ≤ x.e.dw10 ∧ x.e.dw10 ≤ 65555 ∧ 20 ≤ x.e.dw11 ∧ x.e.dw11 ≤ 65555 ∧ x.e.dw12 % 4096 = 0 ∧ PacketRuns { carrier := 0, origin := ctx, bytes := padTo bytes x.e.dw10, replyMax := x.e.dw11 } 0x0100 s)) ∧
  (∃ (ctx : Nat) (fetched : Option (List Nat)) (_replyOk : Bool) (x : Ctx) (s : State), Bound s ∧ (AdminWaits s ctx 0xC1 x ∧ x.port = s.privPort ∧ (fetched = none ∨ x.e.dw10 < 20 ∨ 65555 < x.e.dw10 ∨ x.e.dw11 < 20 ∨ 65555 < x.e.dw11 ∨ x.e.dw12 % 4096 ≠ 0))) ∧
  (∃ (port : Nat) (f : Frame) (s : State), Bound s ∧ (Accepts port f s ∧ f.flags % 4 = 3 ∧ s.flag JNR_CFG_MGMT_EN = true ∧ s.fb.dups = [] ∧ s.mg.arriving = [] ∧ s.hears 2 = true ∧ PacketRuns { carrier := 2, origin := f.src + 4096 * f.tag, bytes := f.payload, replyMax := 65555 } 0x0100 s) ∧ (port < 4 ∧ s.portsRun = true ∧ f.type = 0x40)) ∧
  (∃ (port : Nat) (f : Frame) (s : State), Bound s ∧ (Accepts port f s ∧ f.flags % 4 = 1 ∧ s.flag JNR_CFG_MGMT_EN = true ∧ s.fb.dups = [] ∧ s.mg.arriving = [] ∧ s.mg.running = [] ∧ s.mg.waiting = []) ∧ (port < 4 ∧ s.portsRun = true ∧ f.type = 0x40)) ∧
  (∃ (port : Nat) (f : Frame) (r : Remote) (n k : Nat) (m : MgRun) (s : State), Bound s ∧ (Accepts port f s ∧ f.flags % 4 = 3 ∧ s.fb.reqs.look f.tag = some r ∧ r.for_ = .identify k ∧ r.dst = f.src ∧ s.mg.arriving = [] ∧ s.mg.waiting = [] ∧ s.mg.running = [(n, m)] ∧ m.wait = .remote k ∧ m.commitDue = false ∧ m.held = none ∧ m.inp.p.carrier = 1 ∧ field (pkParams m.inp.p.bytes) 0 1 = k ∧ k < 64 ∧ field f.payload 6 2 = 0 ∧ field f.payload 8 2 = 4096) ∧ (port < 4 ∧ s.portsRun = true ∧ f.type = 0x41)) ∧
  (∃ (port : Nat) (f : Frame) (r : Remote) (n k : Nat) (m : MgRun) (s : State), Bound s ∧ (Accepts port f s ∧ f.flags % 4 = 3 ∧ s.fb.reqs.look f.tag = some r ∧ r.for_ = .identify k ∧ r.dst = f.src ∧ s.mg.arriving = [] ∧ s.mg.waiting = [] ∧ s.mg.running = [(n, m)] ∧ m.wait = .remote k ∧ m.commitDue = false ∧ m.held = none ∧ m.inp.p.carrier = 1 ∧ field f.payload 6 2 ≠ 0) ∧ (port < 4 ∧ s.portsRun = true ∧ f.type = 0x41)) ∧
  (∃ (_type _id : Nat) (s : State), Bound s ∧ (MiServed s)) ∧
  (∃ (_clear : Bool) (s : State), Bound s ∧ (MiServed s)) ∧
  (∃ (_controller : Nat) (s : State), Bound s ∧ (MiServed s)) ∧
  (∃ (p : Packet) (s : State), Bound s ∧ (PacketRuns p 0x0100 s ∧ p.carrier = 1)) ∧
  (∃ (p : Packet) (s : State), Bound s ∧ (p.carrier ≠ 1)) ∧
  (∃ (_tdi : List Bool) (s : State), Bound s ∧ ((s.rail 9).armed = true)) ∧
  (∃ (_tdi : List Bool) (s : State), Bound s ∧ ((s.rail 9).armed = true)) ∧
  (∃ (_pins _tdi : List Bool) (s : State), Bound s ∧ ((s.rail 9).armed = true)) ∧
  (∃ (_pins _tdi : List Bool) (s : State), Bound s ∧ ((s.rail 9).armed = true)) ∧
  (∃ (_tdi : List Bool) (s : State), Bound s ∧ ((s.rail 9).armed = true)) ∧
  (∃ (_tdi : List Bool) (s : State), Bound s ∧ ((s.rail 9).armed = true)) ∧
  (∃ (p : Packet) (st : Nat) (s : State), Bound s ∧ (p.carrier = 1 ∧ s.hears 1 = true ∧ s.packetFault p = some st ∧ s.md.mode ≠ .rest ∧ s.md.restStep = none)) :=
  ⟨⟨5, (apkt 0x0100 []).bytes, true, { ctx0 0 0xC1 0 20 65555 0 with slice := 0 }, adm0 0xC1 0 20 65555, by decide +kernel⟩,
   ⟨5, none, true, (ctx0 0 0xC1 0 36 65555 0), adm0 0xC1 0 36 65555, by decide +kernel⟩,
   ⟨1, (frame0 0x40 3 8 (packetOf 0x0100 9 [])), fab0.set JNR_CFG_MGMT_EN 1, by decide +kernel⟩,
   ⟨1, (frame0 0x40 1 8 [1, 2, 3]), fab0.set JNR_CFG_MGMT_EN 1, by decide +kernel⟩,
   ⟨1, idReply, (req0 (.identify 4)), 0, 4, bindRun, { fab0 with fb := { fab0.fb with reqs := [(8, req0 (.identify 4))] }, mg := { MgmtState.reset with running := [(0, bindRun)], nextRun := 1 } }, by decide +kernel⟩,
   ⟨1, (frame0 0x41 3 8 [1, 0, 0, 0, 0, 0, 21, 0, 0, 0]), (req0 (.identify 4)), 0, 4, bindRun, { fab0 with fb := { fab0.fb with reqs := [(8, req0 (.identify 4))] }, mg := { MgmtState.reset with running := [(0, bindRun)], nextRun := 1 } }, by decide +kernel⟩,
   ⟨0, 0, side .run, by decide +kernel⟩,
   ⟨false, side .run, by decide +kernel⟩,
   ⟨0, side .run, by decide +kernel⟩,
   ⟨(pkt 0x0100 []), side .run, by decide +kernel⟩,
   ⟨(apkt 0x0100 []), side .run, by decide +kernel⟩,
   ⟨[true, true, false], { run0 with pw := { run0.pw with rails := [(0, onRail), (1, onRail), (9, onRail)] } }, by decide +kernel⟩,
   ⟨[true, true, false], { run0 with pw := { run0.pw with rails := [(0, onRail), (1, onRail), (9, onRail)] } }, by decide +kernel⟩,
   ⟨[true, false], [true, true, false], { run0 with pw := { run0.pw with rails := [(0, onRail), (1, onRail), (9, onRail)] } }, by decide +kernel⟩,
   ⟨[true, false], [true, true, false], { run0 with pw := { run0.pw with rails := [(0, onRail), (1, onRail), (9, onRail)], testMode := true } }, by decide +kernel⟩,
   ⟨[true, true, false], { run0 with pw := { run0.pw with rails := [(0, onRail), (1, onRail), (9, onRail)], testMode := true } }, by decide +kernel⟩,
   ⟨[true, true, false], { run0 with pw := { run0.pw with rails := [(0, onRail), (1, onRail), (9, onRail)], testMode := true } }, by decide +kernel⟩,
   ⟨{ pkt 0x0103 [] with bytes := [1, 2, 3] }, 0x13, side .run, by decide +kernel⟩⟩

/-- The rows of `QueueCreationOutsideRunAndService` can be met. -/
theorem witness_QueueCreationOutsideRunAndService :
  (∃ (ctx : Nat) (x : Ctx) (s : State), Bound s ∧ (AdminWaits s ctx 0x05 x ∧ s.get GLB_MODE_STATUS_MODE = s.md.mode.code ∧ s.get GLB_MODE_STATUS_MODE ≠ 4 ∧ s.get GLB_MODE_STATUS_MODE ≠ 8)) ∧
  (∃ (ctx : Nat) (x : Ctx) (s : State), Bound s ∧ (AdminWaits s ctx 0x01 x ∧ s.get GLB_MODE_STATUS_MODE = s.md.mode.code ∧ s.get GLB_MODE_STATUS_MODE ≠ 4 ∧ s.get GLB_MODE_STATUS_MODE ≠ 8)) :=
  ⟨⟨5, (ctx0 0 5 0 (1 + 7 * 65536) 3 0), { adm0 5 0 (1 + 7 * 65536) 3 with md := (inMode .hold).md }.set GLB_MODE_STATUS_MODE 3, by decide +kernel⟩,
   ⟨5, (ctx0 0 1 0 (1 + 7 * 65536) 65537 0), { adm0 1 0 (1 + 7 * 65536) 65537 with md := (inMode .hold).md }.set GLB_MODE_STATUS_MODE 3, by decide +kernel⟩⟩

/-- The rows of `CommandsOfUnmappedQueuesDropped` can be met. -/
theorem witness_CommandsOfUnmappedQueuesDropped :
  (∃ (port : Nat) (_entry : SqEntry) (slot : Nat) (q : Sq) (x : Nat) (s : State), Bound s ∧ (s.adminReady port = false ∧ (s.fetchTurn port).map (fun e => e.1) = some slot ∧ s.sqs.look slot = some q ∧ q.port = port ∧ port < 2 ∧ q.pasid = some x ∧ s.sliceOf port (some x) = none) ∧ (s.isPort port = true ∧ s.fetchOpen port = true)) ∧
  (∃ s : State, Bound s ∧ (s.powered = true)) :=
  ⟨⟨0, { opc := 2, cid := 1, nsid := 1, dw10 := 1, dw11 := 0, dw12 := 0, dw13 := 0, dw14 := 0, dw15 := 0 }, 1, { Sq.empty 0 1 8 with tail := 1, pasid := some 9, cqSlot := 1 }, 9, ({ host0 with sqs := [(1, { Sq.empty 0 1 8 with tail := 1, pasid := some 9, cqSlot := 1 })], cqs := [(1, Cq.empty 0 1 8)] }).set SLM_BUDGET 8 0 2, by decide +kernel⟩,
   ⟨({ host0 with ev := { host0.ev with fired := [(112, 0)] } }).set QEN_UNBOUND_DROP 9, by decide +kernel⟩⟩

/-- The rows of `SliceGenerationsAdvance` can be met. -/
theorem witness_SliceGenerationsAdvance :
  (∃ (slice go : Nat) (s : State), Bound s ∧ (Quiet s ∧ s.cd.cws = [] ∧ slice < s.sliceCount ∧ s.underReset slice = false ∧ s.inModes [.run, .service] = true) ∧ (s.powered = true ∧ go % 2 = 1)) ∧
  (∃ (slice : Nat) (r : SliceReset) (s : State), Bound s ∧ (s.resets.look slice = some r ∧ slice < 256 ∧ s.ctxs = [] ∧ s.cqs = [] ∧ s.mg.waiting = [] ∧ (s.ns.all fun e => e.2.deleting.isNone) = true) ∧ (s.inModes [.run, .service] = true ∧ s.resetDrained slice = true)) :=
  ⟨⟨0, 1, host0, by decide +kernel⟩,
   ⟨0, { oldGen := 1, newGen := 2, ranNs := 5000000, since := some 1000000, budget := [] }, { host0 with now := 4000000, resets := [(0, { oldGen := 1, newGen := 2, ranNs := 5000000, since := some 1000000, budget := [] })], sqs := [(1, { Sq.empty 0 1 8 with tail := 3 })] }, by decide +kernel⟩⟩

/-- The rows of `RawMediaCommandsUnbind` can be met. -/
theorem witness_RawMediaCommandsUnbind :
  (∃ (p : Packet) (s : State), Bound s ∧ (PacketRuns p 0x0F02 s ∧ s.md.mode = .service)) ∧
  (∃ (p : Packet) (s : State), Bound s ∧ (PacketRuns p 0x0F01 s ∧ s.md.mode = .service ∧ (List.range (mediaOf (field (pkParams p.bytes) 8 1)).bitsPer).all (fun g => (s.mg.staged.put (rawKey (pkParams p.bytes)) ((pkParams p.bytes).drop 12)).has (rawKey (pkParams p.bytes) / 4 * 4 + g)) = true)) :=
  ⟨⟨(pkt 0x0F02 [2, 1, 9, 0]), onDie { Die.fresh with blocks := [(9, { Block.fresh with st := .full, npp := 1024, pe := 4 })] } (side .service), by decide +kernel⟩,
   ⟨(apkt 0x0F01 (rawPage0 2)), rawSide, ⟨rfl, rawPage0_runs, rfl, by rw [rawPage0_params]; decide +kernel⟩⟩⟩

/-- Further clauses of `ControlWindowReadsAndWrites`, each on operands and a state under which it applies. -/
theorem clauses_ControlWindowReadsAndWrites :
  (fun (port size off : Nat) (s : State) => Bound s ∧ (((size = 1 ∨ size = 2 ∨ size = 4) ∧ off < 4 ∧ off % size = 0)) ∧ (s.powered = true ∧ port = s.privPort)) 0 2 2 ({ run0 with now := 2 ^ 33 + 5 }) ∧
  (fun (port size off : Nat) (s : State) => Bound s ∧ (((size = 1 ∨ size = 2 ∨ size = 4) ∧ off < 4 ∧ off % size = 0)) ∧ (s.powered = true ∧ port = s.privPort)) 0 1 3 ({ run0 with now := 2 ^ 33 + 5 }) ∧
  (fun (port size off : Nat) (s : State) => Bound s ∧ (1 ≤ size ∧ size ≤ 4 ∧ off < 4 ∧ (size = 3 ∨ off % size ≠ 0)) ∧ (s.powered = true ∧ port = s.privPort)) 0 3 0 ({ run0 with now := 2 ^ 33 + 5 }) ∧
  (fun (port size addr _value : Nat) (s : State) => Bound s ∧ (s.reaches port .window = false ∨ size ≠ 4 ∨ addr % 4 ≠ 0 ∨ (fieldsAt addr = [] ∧ rFSQ_DQDLY.locate addr = none))) 0 4 0x39 1 (run0) ∧
  (fun (port size addr _value : Nat) (s : State) => Bound s ∧ (s.reaches port .window = false ∨ size ≠ 4 ∨ addr % 4 ≠ 0 ∨ (fieldsAt addr = [] ∧ rFSQ_DQDLY.locate addr = none))) 0 4 0x38 1 (inMode .detour) ∧
  (fun (port size addr _value : Nat) (s : State) => Bound s ∧ (s.reaches port .window = false ∨ size ≠ 4 ∨ addr % 4 ≠ 0 ∨ (fieldsAt addr = [] ∧ rFSQ_DQDLY.locate addr = none))) 1 4 0x38 1 (run0) ∧
  (fun (port size addr _value : Nat) (s : State) => Bound s ∧ (s.reaches port .window = false ∨ size ≠ 4 ∨ addr % 4 ≠ 0 ∨ (fieldsAt addr = [] ∧ rFSQ_DQDLY.locate addr = none))) 0 4 0x03FF0000 1 (run0) ∧
  (fun (f : Field) (port i j value : Nat) (s : State) => Bound s ∧ (s.reaches port .window = true ∧ PlainField f i j ∧ value < 2 ^ 32)) SLM_NSACC 0 3 4 0xFFFFFFFF (run0) ∧
  (fun (f : Field) (port i j value : Nat) (s : State) => Bound s ∧ (s.reaches port .window = true ∧ PlainField f i j ∧ value < 2 ^ 32)) FSQ_EVT_CH_FAIL 0 3 0 0xFFFFFFFF (run0.set FSQ_EVT_CH_FAIL 1 3) := by
  refine ⟨?_, ?_, ?_, ?_, ?_, ?_, ?_, ?_, ?_⟩ <;> dsimp only <;> decide +kernel

/-- Further clauses of `HostLinkAndControllerEvents`, each on operands and a state under which it applies. -/
theorem clauses_HostLinkAndControllerEvents :
  (fun (port rate width : Nat) (flit : Bool) (s : State) => Bound s ∧ (s.isPort port = true ∧ s.linkMode = true ∧ (s.port port).perst = false ∧ s.pw.phyFailed = false ∧ s.flag QEN_LINK_UP port = false ∧ s.linkFits rate width flit = true)) 0 2 16 true ({ run0 with port0 := Port.reset 0 false }) ∧
  (fun (port : Nat) (s : State) => Bound s ∧ (Still s ∧ s.powered = true ∧ s.isPort port = true ∧ s.mode ≠ .rest) ∧ (port < 2 ∧ (s.port port).perst = false)) 0 ({ run0 with port0 := Port.reset 0 false }) ∧
  (fun (port : Nat) (s : State) => Bound s ∧ (s.coreOn = false ∧ s.pw.seq = .idle ∧ s.pw.ao = true ∧ s.md.restStep = none) ∧ (port < 2 ∧ (s.port port).perst = true)) 1 ({ inMode .watch with pw := { (inMode .watch).pw with needPerst := true } }) ∧
  (fun (port _iosqes _iocqes _ams _asqs _acqs : Nat) (s : State) => Bound s ∧ (s.isPort port = true ∧ s.powered = true ∧ s.flag QEN_LINK_UP port = true ∧ (s.port port).ccEn = false)) 0 6 5 0 31 31 (({ run0 with port0 := Port.reset 0 false }).set QEN_LINK_UP 1) ∧
  (fun (port severity : Nat) (_header : List Nat) (s : State) => Bound s ∧ (s.isPort port = true ∧ s.powered = true ∧ s.flag QEN_LINK_UP port = true ∧ severity ≤ 2)) 0 0 [] (host0) := by
  refine ⟨?_, ?_, ?_, ?_, ?_⟩ <;> dsimp only <;> decide +kernel

/-- Further clauses of `HostShutdown`, each on operands and a state under which it applies. -/
theorem clauses_HostShutdown :
  (fun (port : Nat) (s : State) => Bound s ∧ (s.wc.pairs = []) ∧ (s.isPort port = true ∧ s.inModes [.boot, .run, .hold, .ret, .service] = true ∧ (s.port port).ccEn = true ∧ (s.port port).shst = 0)) 0 ({ host0 with md := { host0.md with mode := .hold } }) ∧
  (fun (port : Nat) (s : State) => Bound s ∧ (s.isPort port = true ∧ s.powered = true ∧ s.busyOn port = false ∧ ((s.port port).shut = .abrupt ∨ ((s.port port).shut ≠ .none ∧ s.dirtyAll = 0 ∧ s.xl.recs = [])))) 0 ({ host0 with port0 := { readyPort with shst := 1, shut := .abrupt } }) := by
  refine ⟨?_, ?_⟩ <;> dsimp only <;> decide +kernel

/-- Further clauses of `AdminQueueCommands`, each on operands and a state under which it applies. -/
theorem clauses_AdminQueueCommands :
  (fun (ctx : Nat) (c : Ctx) (s : State) => Bound s ∧ (AdminWaits s ctx 0x05 c ∧ s.newQueue c.port c.e s.cqs.has = none ∧ (s.badDword13 c.port c.e = true ∨ s.cqShareFull c.port c.e = true ∨ 2047 < bits c.e.dw11 31 16))) 5 (ctx0 0 5 0 (1 + 7 * 65536) 3 0) ((adm0 5 0 (1 + 7 * 65536) 3).set SLM_BUDGET 0 0 0) := by
  dsimp only <;> decide +kernel

/-- Further clauses of `AdminLogsAndIdentify`, each on operands and a state under which it applies. -/
theorem clauses_AdminLogsAndIdentify :
  (fun (ctx : Nat) (c : Ctx) (b : List Nat) (s : State) => Bound s ∧ (AdminWaits s ctx 0x06 c ∧ (s.identify c.port (bits c.e.dw10 7 0) (bits c.e.dw11 31 24) c.e.nsid).1 = .page b)) 5 (ctx0 0 6 0 0x02 0 0) (idList []) (adm0 6 0 0x02 0) ∧
  (fun (ctx : Nat) (c : Ctx) (s : State) => Bound s ∧ (AdminWaits s ctx 0x06 c ∧ (bits c.e.dw10 7 0 = 0x02 ∨ bits c.e.dw10 7 0 = 0x13))) 5 (ctx0 0 6 0 0x02 0 0) (adm0 6 0 0x02 0) := by
  refine ⟨?_, ?_⟩
  · dsimp only; exact ⟨rfl, by decide +kernel, rfl⟩
  · dsimp only; decide +kernel

/-- Further clauses of `AdminFeaturesAndEvents`, each on operands and a state under which it applies. -/
theorem clauses_AdminFeaturesAndEvents :
  (fun (ctx : Nat) (c : Ctx) (s : State) => Bound s ∧ (AdminWaits s ctx 0x09 c ∧ (bit c.e.dw10 31 = true ∨ (bits c.e.dw10 7 0 ≠ 0x07 ∧ (s.port c.port).feat.setWord (bits c.e.dw10 7 0) c.e.dw11 = none)))) 5 (ctx0 0 9 0 (2 ^ 31 + 4) 0 0) (adm0 9 0 (2 ^ 31 + 4) 0) ∧
  (fun (ctx : Nat) (c : Ctx) (s : State) => Bound s ∧ (AdminWaits s ctx 0x09 c ∧ bit c.e.dw10 31 = false ∧ bits c.e.dw10 7 0 = 0x07 ∧ (s.slotsOf c.port ≠ [] ∨ bits c.e.dw11 15 0 = 0xFFFF ∨ bits c.e.dw11 31 16 = 0xFFFF))) 5 (ctx0 0 9 0 7 0 0) ({ adm0 9 0 7 0 with sqs := [(1, { Sq.empty 0 1 8 with cqSlot := 1 })] }) ∧
  (fun (ctx : Nat) (c : Ctx) (v : Nat) (s : State) => Bound s ∧ (AdminWaits s ctx 0x0A c ∧ bits c.e.dw10 10 8 ≤ 3 ∧ ((if bits c.e.dw10 10 8 = 0 then (s.port c.port).feat else Features.reset).word s.maxQ (bits c.e.dw10 7 0) c.e.dw11) = some v)) 5 (ctx0 0 10 0 (4 + 3 * 256) 0 0) 373 (adm0 10 0 (4 + 3 * 256) 0) ∧
  (fun (ctx : Nat) (_data : NsData) (c : Ctx) (s : State) => Bound s ∧ (AdminWaits s ctx 0x0D c ∧ bits c.e.dw10 3 0 ≠ 1 ∧ (s.mode = .hold ∨ bits c.e.dw10 3 0 ≠ 0))) 5 { nsze := 0, ncap := 1048576, flbas := 0, csi := 2 } (ctx0 0 13 0 2 0 0) (adm0 13 0 2 0) ∧
  (fun (ctx : Nat) (c : Ctx) (s : State) => Bound s ∧ (AdminWaits s ctx 0x0D c ∧ bits c.e.dw10 3 0 = 1 ∧ (s.mode = .hold ∨ (s.ns.any fun e => (c.e.nsid == 0xFFFFFFFF || e.1 == c.e.nsid) && e.2.deleting.isNone) = false))) 5 (ctx0 0 13 0xFFFFFFFF 1 0 0) (adm0 13 0xFFFFFFFF 1 0) ∧
  (fun (ctx : Nat) (c : Ctx) (s : State) => Bound s ∧ (AdminWaits s ctx 0x0D c ∧ bits c.e.dw10 3 0 = 1 ∧ (s.mode = .hold ∨ (s.ns.any fun e => (c.e.nsid == 0xFFFFFFFF || e.1 == c.e.nsid) && e.2.deleting.isNone) = false))) 5 (ctx0 0 13 7 1 0 0) ({ adm0 13 7 1 0 with md := { run0.md with mode := .hold } }) ∧
  (fun (ctx : Nat) (l : List Nat) (c : Ctx) (n : Namespace) (s : State) => Bound s ∧ (AdminWaits s ctx 0x15 c ∧ bits c.e.dw10 3 0 ≤ 1 ∧ s.mode ≠ .hold ∧ s.nspace c.e.nsid = some n ∧ n.deleting = none ∧ l ≠ [] ∧ (∀ p ∈ l, p ∈ s.portList ∧ (n.attached p ↔ bits c.e.dw10 3 0 = 1)))) 5 [0] (ctx0 0 21 1 1 0 0) ns1 ({ adm0 21 1 1 0 with ns := [(1, ns1)] }) ∧
  (fun (ctx : Nat) (c : Ctx) (s : State) => Bound s ∧ (AdminWaits s ctx 0x19 c ∧ s.reachable c.port c.e.nsid = true ∧ bits c.e.dw11 15 8 = 0 ∧ bits c.e.dw11 7 0 = 1 ∧ bits c.e.dw12 15 8 = 1)) 5 (ctx0 0 0x19 1 0 1 0x100) ({ adm0 0x19 1 0 1 with ctxs := [ctx0 0 0x19 1 0 1 0x100], ns := [(1, ns1)], port0 := { readyPort with streamsEn := [1] } }) ∧
  (fun (ctx : Nat) (c : Ctx) (s : State) => Bound s ∧ (AdminWaits s ctx 0x19 c ∧ s.reachable c.port c.e.nsid = true ∧ bits c.e.dw11 15 8 = 1 ∧ (bits c.e.dw11 7 0 = 1 ∨ bits c.e.dw11 7 0 = 2) ∧ c.e.nsid ∈ (s.port c.port).streamsEn)) 5 (ctx0 0 0x19 1 0 0x102 0) ({ adm0 0x19 1 0 0x102 with ns := [(1, ns1)], port0 := { readyPort with streamsEn := [1], streamAlloc := [(1, 4)] } }) ∧
  (fun (ctx : Nat) (c : Ctx) (s : State) => Bound s ∧ (AdminWaits s ctx 0x19 c ∧ (s.reachable c.port c.e.nsid = false ∨ 1 < bits c.e.dw11 15 8))) 5 (ctx0 0 0x19 1 0 0x201 0x101) ({ adm0 0x19 1 0 1 with ctxs := [ctx0 0 0x19 1 0 0x201 0x101], ns := [(1, ns1)] }) := by
  refine ⟨?_, ?_, ?_, ?_, ?_, ?_, ?_, ?_, ?_, ?_⟩ <;> dsimp only <;> decide +kernel

/-- Further clauses of `ReadsAndWrites`, each on operands and a state under which it applies. -/
theorem clauses_ReadsAndWrites :
  (fun (ctx : Nat) (c : Ctx) (s : State) => Bound s ∧ (IoWaits s ctx 0x02 none c ∧ c.port < 2 ∧ (s.port c.port).feat.marginEn = false ∧ (s.isConv c.e.nsid = false ∨ (s.convOpen = true ∧ s.touchesLost c.e.nsid c.slba c.nlb = false)) ∧ (∀ i < c.nlb, s.lbaPlace c.e.nsid (c.slba + i) = .zeros) ∧ (∀ k < 4, (s.dchan k).waiting = [] ∧ (s.dchan k).answered = []))) 5 (ioCtx0 2 3 4 0) (io0 ns1 2 3 4 0) ∧
  (fun (ctx : Nat) (c : Ctx) (s : State) => Bound s ∧ (IoWaits s ctx 0x02 none c ∧ c.port < 2 ∧ (s.port c.port).feat.marginEn = false ∧ (s.isConv c.e.nsid = false ∨ (s.convOpen = true ∧ s.touchesLost c.e.nsid c.slba c.nlb = false)) ∧ (∀ i < c.nlb, s.lbaPlace c.e.nsid (c.slba + i) = .zeros) ∧ (∀ k < 4, (s.dchan k).waiting = [] ∧ (s.dchan k).answered = []))) 5 (ioCtx0 2 3 2 0) (io0 nsConv 2 3 2 0) ∧
  (fun (ctx : Nat) (c : Ctx) (st : NvmeStatus) (s : State) => Bound s ∧ (IoRefused s ctx 0x02 none c st)) 5 (ioCtx0 2 0 513 0) .invalidField (io0 ns1 2 0 513 0) ∧
  (fun (ctx : Nat) (c : Ctx) (st : NvmeStatus) (s : State) => Bound s ∧ (IoWaits s ctx 0x02 none c ∧ c.nlb = 1 ∧ c.port < 2 ∧ (s.port c.port).feat.marginEn = false ∧ (s.isConv c.e.nsid = false ∨ (s.convOpen = true ∧ s.touchesLost c.e.nsid c.slba 1 = false)) ∧ ((s.lbaPlace c.e.nsid c.slba = .lost ∧ st = .unrecoveredReadError) ∨ (s.lbaPlace c.e.nsid c.slba = .offline ∧ st = .zoneIsOffline)) ∧ (∀ k < 4, (s.dchan k).waiting = [] ∧ (s.dchan k).answered = []))) 5 (ioCtx0 2 3 1 0) .unrecoveredReadError ({ io0 nsConv 2 3 1 0 with xl := { MapState.reset with map := [(1, [(3, .lost)])] } }) ∧
  (fun (ctx : Nat) (_data : List Nat) (_upsets : List Upset) (c : Ctx) (r : Zone) (s : State) => Bound s ∧ (IoWaits s ctx 0x01 none c ∧ Quiet s ∧ s.isConv c.e.nsid = false ∧ s.zone c.e.nsid (c.slba / zoneSpan) = some r ∧ (r.state = .implicitOpen ∨ r.state = .explicitOpen) ∧ r.ap = c.slba % zoneSpan ∧ r.ap + c.nlb ≤ r.zcap)) 5 [1, 2] [] (ioCtx0 1 8 2 0) (zone1 .explicitOpen 8) (zio .explicitOpen 8 1 8 2 0) ∧
  (fun (ctx : Nat) (_data : List Nat) (_upsets : List Upset) (c : Ctx) (r : Zone) (st : NvmeStatus) (s : State) => Bound s ∧ (IoWaits s ctx 0x01 none c ∧ Quiet s ∧ s.isConv c.e.nsid = false ∧ s.zone c.e.nsid (c.slba / zoneSpan) = some r ∧ (if r.zcap < c.slba % zoneSpan + c.nlb then some .zoneBoundaryError else match r.state with | .full => some .zoneIsFull | .readOnly => some .zoneIsReadOnly | .offline => some .zoneIsOffline | _ => if c.slba % zoneSpan ≠ r.ap then some .zoneInvalidWrite else none) = some st)) 5 [1] [] (ioCtx0 1 983040 1 0) (zone1 .implicitOpen 8) .zoneBoundaryError (zio .implicitOpen 8 1 983040 1 0) ∧
  (fun (ctx : Nat) (_data : List Nat) (_upsets : List Upset) (c : Ctx) (r : Zone) (st : NvmeStatus) (s : State) => Bound s ∧ (IoWaits s ctx 0x01 none c ∧ Quiet s ∧ s.isConv c.e.nsid = false ∧ s.zone c.e.nsid (c.slba / zoneSpan) = some r ∧ (if r.zcap < c.slba % zoneSpan + c.nlb then some .zoneBoundaryError else match r.state with | .full => some .zoneIsFull | .readOnly => some .zoneIsReadOnly | .offline => some .zoneIsOffline | _ => if c.slba % zoneSpan ≠ r.ap then some .zoneInvalidWrite else none) = some st)) 5 [1] [] (ioCtx0 1 8 1 0) (zone1 .full 8) .zoneIsFull (zio .full 8 1 8 1 0) := by
  refine ⟨?_, ?_, ?_, ?_, ?_, ?_, ?_⟩ <;> dsimp only <;> decide +kernel

/-- Further clauses of `ZoneActions`, each on operands and a state under which it applies. -/
theorem clauses_ZoneActions :
  (fun (ctx : Nat) (_upsets : List Upset) (c : Ctx) (r : Zone) (s : State) => Bound s ∧ (IoWaits s ctx 0x79 (some 3) c ∧ Quiet s ∧ s.isConv c.e.nsid = false ∧ bit c.e.dw13 8 = false ∧ s.zone c.e.nsid (c.slba / zoneSpan) = some r ∧ (r.state = .closed ∨ r.state = .implicitOpen))) 5 [] (ioCtx0 0x79 0 1 3) (zone1 .implicitOpen 8) (zio .implicitOpen 8 0x79 0 1 3) := by
  dsimp only <;> decide +kernel

/-- Further clauses of `SlicesAndTollgate`, each on operands and a state under which it applies. -/
theorem clauses_SlicesAndTollgate :
  (fun (slice go : Nat) (s : State) => Bound s ∧ (Quiet s ∧ s.cd.cws = [] ∧ slice < s.sliceCount ∧ s.underReset slice = false) ∧ (s.powered = true ∧ go % 2 = 1)) 0 1 ({ host0 with md := { host0.md with mode := .hold } }) ∧
  (fun (ch die n : Nat) (s : State) => Bound s ∧ (ch < 64 ∧ die < 32 ∧ s.inService ch die = true ∧ (n < s.sliceCount ∨ n = 256 ∨ n = 257)) ∧ (s.powered = true)) 2 1 256 (onDie Die.fresh run0) := by
  refine ⟨?_, ?_⟩ <;> dsimp only <;> decide +kernel

/-- Further clauses of `DieOperations`, each on operands and a state under which it applies. -/
theorem clauses_DieOperations :
  (fun (ch die _k : Nat) (o : DieOp) (s : State) => Bound s ∧ (s.nextOp ch die = some o ∧ (s.die ch die).run = none ∧ o.cws = [] ∧ (o.owner = .raw ∨ s.refusal ch die o = 0)) ∧ (ch < 64 ∧ die < 32 ∧ s.flashOn = true ∧ s.inService ch die = true ∧ s.chFailed ch = false ∧ s.busFree ch = true)) 2 1 9 { op0 .erase .other with needsTokens := false } (onDie { Die.fresh with erases := [{ op0 .erase .other with needsTokens := false }] } run0) := by
  dsimp only <;> decide +kernel

/-- Further clauses of `DieFailureAndRetraining`, each on operands and a state under which it applies. -/
theorem clauses_DieFailureAndRetraining :
  (fun (ch die : Nat) (_idOk : Bool) (s : State) => Bound s ∧ (ch < 64 ∧ die < 32 ∧ s.flashOn = true ∧ s.dieOverdue ch die = true)) 2 1 false ({ onDie (runs (op0 .program .other)) run0 with now := 60000000 }) ∧
  (fun (_eye : Nat) (_burst : List Nat) (r : SlotReq) (s : State) => Bound s ∧ (s.fl.slotRun = some r ∧ r.ch < 64 ∧ r.cw = none) ∧ (s.fl.slotRun ≠ none)) 16 [] { ch := 2, die := some 1, cw := none, ticket := none, since := 0, deferredSince := none } ({ onDie Die.fresh run0 with fl := { (onDie Die.fresh run0).fl with slotRun := some { ch := 2, die := some 1, cw := none, ticket := none, since := 0, deferredSince := none } } }.set SDF_SAMPLE_OFF 2 2) ∧
  (fun (ch : Nat) (_ok : Bool) (_training : List DieTraining) (s : State) => Bound s ∧ (ch < 64 ∧ (s.chan ch).fullRunning = true)) 2 false [] ({ onDie Die.fresh run0 with fl := { (onDie Die.fresh run0).fl with chans := [(2, { State.reset.chan 2 with fullRunning := true })] } }.set FSQ_STATUS_RATE 0 2) ∧
  (fun (ch : Nat) (_ok : Bool) (_training : List DieTraining) (s : State) => Bound s ∧ (ch < 64 ∧ (s.chan ch).fullRunning = true)) 2 false [] ({ onDie Die.fresh run0 with fl := { (onDie Die.fresh run0).fl with chans := [(2, { State.reset.chan 2 with fullRunning := true })] } }.set FSQ_STATUS_RATE 2 2) := by
  refine ⟨?_, ?_, ?_, ?_⟩ <;> dsimp only <;> decide +kernel

/-- Further clauses of `DecoderCluster`, each on operands and a state under which it applies. -/
theorem clauses_DecoderCluster :
  (fun (cw : Nat) (c : Cw) (s : State) => Bound s ∧ (s.cw cw = some c ∧ c.step < 3 ∧ s.sampleOff c.ch c.die = false ∧ s.inService c.ch c.die = true ∧ s.chFailed c.ch = false ∧ s.stale c = false ∧ c.raceLost = false ∧ cw ∉ s.cd.decodeQ) ∧ (s.decoding cw = true)) 4 { atDec (cw1 4 .decoding) with step := 2 } (withCw { atDec (cw1 4 .decoding) with step := 2 }) ∧
  (fun (_pass : Bool) (k : Nat) (tk : Option Nat) (s : State) => Bound s ∧ (s.cd.selfTest = some (k, tk) ∧ s.cd.testsWaiting = [] ∧ k < 68 ∧ k ∉ s.cd.activeOrder) ∧ (s.cd.selfTest ≠ none)) false 64 none ({ run0 with cd := { CodecState.reset with selfTest := some (64, none) } }.set LDC_INST_STATE 2 64) := by
  refine ⟨?_, ?_⟩ <;> dsimp only <;> decide +kernel

/-- Further clauses of `WaypointTable`, each on operands and a state under which it applies. -/
theorem clauses_WaypointTable :
  (fun (_index : Nat) (s : State) => Bound s ∧ (s.powered = true)) 7 ({ run0 with wpt := { WptState.reset with busyUntil := 10 } }) ∧
  (fun (_index : Nat) (s : State) => Bound s ∧ (s.powered = true)) 7 ({ run0 with wpt := { WptState.reset with busyUntil := 10 } }) ∧
  (fun (_index : Nat) (s : State) => Bound s ∧ (s.powered = true)) 7 ({ run0 with wpt := { WptState.reset with rows := [(4095, { key := 1, mask := 0xFF, res := 5, valid := true })] } }) ∧
  (fun (_upset : Bool) (s : State) => Bound s ∧ (s.wpt.shadowBad = []) ∧ (s.powered = true ∧ s.mode ≠ .rest ∧ s.flag WPT_CTRL_SCRUB_EN = true)) false (run0.set WPT_CTRL_SCRUB_EN 1) := by
  refine ⟨?_, ?_, ?_, ?_⟩ <;> dsimp only <;> decide +kernel

/-- Further clauses of `DirtyLimitAndWriteThrough`, each on operands and a state under which it applies. -/
theorem clauses_DirtyLimitAndWriteThrough :
  (fun (s : State) => Bound s ∧ (Quiet s) ∧ (s.powered = true ∧ s.wc.started = true))  (((({ run0 with wc := { CacheState.reset with started := true } }.set WCU_LIMIT_IN_EU 3000).set WCU_LIMIT_IN_N_H 64).set WCU_DIRTY_CFG_CEIL 50).set WCU_DIRTY_CFG_CEIL_MAX 50) ∧
  (fun (_value : Bool) (s : State) => Bound s ∧ (Quiet s) ∧ (s.powered = true)) false ((run0.set WCU_STATUS_WT_CAUSE 4).set WCU_STATUS_WT 1) := by
  refine ⟨?_, ?_⟩ <;> dsimp only <;> decide +kernel

/-- Further clauses of `BufferPool`, each on operands and a state under which it applies. -/
theorem clauses_BufferPool :
  (fun (pool owner slice i l : Nat) (internal : Bool) (s : State) => Bound s ∧ (s.behind { pool := pool, owner := owner, unit := unitOf owner, slice := slice, internal := internal, gen := s.gen slice, seq := s.zn.nextAdm } s.pool.waiters = false ∧ s.mayAlloc { pool := pool, owner := owner, unit := unitOf owner, slice := slice, internal := internal, gen := s.gen slice, seq := s.zn.nextAdm } = true ∧ s.allocList pool 0 = some l ∧ s.listHead l = some i ∧ s.linkOk l i = true) ∧ (s.powered = true ∧ pool < 2 ∧ owner < 256 ∧ slice < s.sliceCount)) 0 0x2B 0 7 0 true ({ run0 with pool := { PoolState.reset with heads := [(0, 7)], links := [(14, linkWord 7 9)] } }.set BPL_SIZE 3072 0) ∧
  (fun (pool owner slice i l : Nat) (internal : Bool) (s : State) => Bound s ∧ (s.behind { pool := pool, owner := owner, unit := unitOf owner, slice := slice, internal := internal, gen := s.gen slice, seq := s.zn.nextAdm } s.pool.waiters = false ∧ s.mayAlloc { pool := pool, owner := owner, unit := unitOf owner, slice := slice, internal := internal, gen := s.gen slice, seq := s.zn.nextAdm } = true ∧ s.allocList pool 0 = some l ∧ s.listHead l = some i ∧ s.linkOk l i = false) ∧ (s.powered = true ∧ pool < 2 ∧ owner < 256 ∧ slice < s.sliceCount)) 0 0x2B 0 7 0 true ({ run0 with pool := { PoolState.reset with heads := [(0, 7)], links := [(14, linkWord 7 4000)] } }.set BPL_SIZE 3072 0) ∧
  (fun (pool owner slice : Nat) (internal : Bool) (s : State) => Bound s ∧ (s.behind { pool := pool, owner := owner, unit := unitOf owner, slice := slice, internal := internal, gen := s.gen slice, seq := s.zn.nextAdm } s.pool.waiters = true ∨ s.mayAlloc { pool := pool, owner := owner, unit := unitOf owner, slice := slice, internal := internal, gen := s.gen slice, seq := s.zn.nextAdm } = false ∨ s.allocList pool 0 = none) ∧ (s.powered = true ∧ pool < 2 ∧ owner < 256 ∧ slice < s.sliceCount)) 0 0x2B 0 true ({ run0 with pool := { PoolState.reset with waiters := [{ pool := 0, owner := 0x2B, unit := 1, slice := 0, internal := true, gen := 0, seq := 0 }] } }.set BPL_SIZE 3072 0) ∧
  (fun (pool owner slice : Nat) (internal : Bool) (s : State) => Bound s ∧ (s.behind { pool := pool, owner := owner, unit := unitOf owner, slice := slice, internal := internal, gen := s.gen slice, seq := s.zn.nextAdm } s.pool.waiters = true ∨ s.mayAlloc { pool := pool, owner := owner, unit := unitOf owner, slice := slice, internal := internal, gen := s.gen slice, seq := s.zn.nextAdm } = false ∨ s.allocList pool 0 = none) ∧ (s.powered = true ∧ pool < 2 ∧ owner < 256 ∧ slice < s.sliceCount)) 1 0x2B 0 true (run0) ∧
  (fun (pool index owner : Nat) (s : State) => Bound s ∧ ((∀ d ∈ (s.pool.desc.look (bufKey pool index)).toList, d.shared = true ∨ d.owner ≠ owner)) ∧ (s.powered = true ∧ pool < 2)) 0 3 0x2B ({ run0 with pool := { PoolState.reset with desc := [(6, { shared := false, refcnt := 0, owner := 0x2C, slice := 0, internal := true, unit := 1, gen := 0 })] } }) ∧
  (fun (pool index owner : Nat) (s : State) => Bound s ∧ ((∀ d ∈ (s.pool.desc.look (bufKey pool index)).toList, d.shared = true ∨ d.owner ≠ owner)) ∧ (s.powered = true ∧ pool < 2)) 0 3 0x2B ({ run0 with pool := { PoolState.reset with desc := [(6, { shared := true, refcnt := 2, owner := 0, slice := 0, internal := true, unit := 1, gen := 0 })] } }.set BPL_STATUS_OWNER 1) ∧
  (fun (pool index owner _newOwner : Nat) (s : State) => Bound s ∧ ((∀ d ∈ (s.pool.desc.look (bufKey pool index)).toList, d.shared = true ∨ d.owner ≠ owner)) ∧ (s.powered = true ∧ pool < 2)) 0 3 0x2B 0x27 ({ run0 with pool := { PoolState.reset with desc := [(6, { shared := true, refcnt := 2, owner := 0, slice := 0, internal := true, unit := 1, gen := 0 })] } }) ∧
  (fun (pool index owner n : Nat) (d : BufDesc) (s : State) => Bound s ∧ (s.pool.desc.look (bufKey pool index) = some d ∧ (d.shared = false → d.owner = owner) ∧ mayShare owner = true ∧ 1 ≤ n ∧ n ≤ 14 ∧ (if d.shared = true then d.refcnt + n else n + 1) ≤ 15) ∧ (s.powered = true ∧ pool < 2)) 0 3 0x2B 13 { shared := true, refcnt := 2, owner := 0, slice := 0, internal := true, unit := 1, gen := 0 } ({ run0 with pool := { PoolState.reset with desc := [(6, { shared := true, refcnt := 2, owner := 0, slice := 0, internal := true, unit := 1, gen := 0 })] } }) ∧
  (fun (pool index owner n : Nat) (d : BufDesc) (s : State) => Bound s ∧ (s.pool.desc.look (bufKey pool index) = some d ∧ (d.shared = false ∧ d.owner ≠ owner ∨ mayShare owner = false ∨ 15 < (if d.shared = true then d.refcnt + n else n + 1))) ∧ (s.powered = true ∧ pool < 2)) 0 3 0x27 2 { shared := false, refcnt := 0, owner := 0x27, slice := 0, internal := true, unit := 1, gen := 0 } ({ run0 with pool := { PoolState.reset with desc := [(6, { shared := false, refcnt := 0, owner := 0x27, slice := 0, internal := true, unit := 1, gen := 0 })] } }) ∧
  (fun (pool index owner n : Nat) (d : BufDesc) (s : State) => Bound s ∧ (s.pool.desc.look (bufKey pool index) = some d ∧ (d.shared = false ∧ d.owner ≠ owner ∨ mayShare owner = false ∨ 15 < (if d.shared = true then d.refcnt + n else n + 1))) ∧ (s.powered = true ∧ pool < 2)) 0 3 0x2E 2 { shared := false, refcnt := 0, owner := 0x2B, slice := 0, internal := true, unit := 1, gen := 0 } ({ run0 with pool := { PoolState.reset with desc := [(6, { shared := false, refcnt := 0, owner := 0x2B, slice := 0, internal := true, unit := 1, gen := 0 })] } }) ∧
  (fun (pool index _owner : Nat) (d : BufDesc) (s : State) => Bound s ∧ (s.pool.desc.look (bufKey pool index) = some d ∧ d.shared = true ∧ s.pool.waiters = []) ∧ (s.powered = true ∧ pool < 2)) 0 3 0x2B { shared := true, refcnt := 1, owner := 0, slice := 0, internal := true, unit := 1, gen := 0 } (({ run0 with pool := { PoolState.reset with desc := [(6, { shared := true, refcnt := 1, owner := 0, slice := 0, internal := true, unit := 1, gen := 0 })] } }.set BPL_SIZE 3072 0)) ∧
  (fun (pool index _owner : Nat) (s : State) => Bound s ∧ ((∀ d ∈ (s.pool.desc.look (bufKey pool index)).toList, d.shared = false)) ∧ (s.powered = true ∧ pool < 2)) 0 3 0x2B ({ run0 with pool := { PoolState.reset with desc := [(6, { shared := false, refcnt := 0, owner := 0x2B, slice := 0, internal := true, unit := 1, gen := 0 })] } }) := by
  refine ⟨?_, ?_, ?_, ?_, ?_, ?_, ?_, ?_, ?_, ?_, ?_, ?_⟩ <;> dsimp only <;> decide +kernel

/-- Further clauses of `CheckpointsAndRelocation`, each on operands and a state under which it applies. -/
theorem clauses_CheckpointsAndRelocation :
  (fun (s : State) => Bound s ∧ (s.checkpointAllowed = true))  ({ run0 with xl := { MapState.reset with run := some { num := 1, s0 := 7, since := 5, full := true, starts := [], todo := [], segs := [], bufs := [], writing := 0, directory := true, first := 0 } } }) ∧
  (fun (s : State) => Bound s ∧ (s.checkpointAllowed = true))  (bufs { run0 with ns := [(2, nsConv)], xl := { MapState.reset with last := { MapState.reset.last with num := 3 }, granules := [(2, [0])], changed := [0], seq := 9, map := [(2, [(4, .flash 3 8)])] } }) ∧
  (fun (r : CkptRun) (s : State) => Bound s ∧ (s.xl.run = some r ∧ s.xl.ticketNext = none ∧ s.xl.sinceStart < 1048576 ∧ Quiet s) ∧ (s.inModes [.run, .service] = true ∧ s.flag THM_STATUS_WR_FORBID = false ∧ r.ready = true)) { num := 1, s0 := 7, since := 5, full := false, starts := [], todo := [], segs := [], bufs := [], writing := 0, directory := true, first := 0 } ({ run0 with xl := { MapState.reset with run := some { num := 1, s0 := 7, since := 5, full := false, starts := [], todo := [], segs := [], bufs := [], writing := 0, directory := true, first := 0 } } }) ∧
  (fun (_ms : Nat) (_badRecords : List Nat) (_badFooters : List (Nat × Nat × Nat)) (s : State) => Bound s ∧ (Quiet s) ∧ (s.flag XLT_STATUS_RESTART = true ∧ s.inModes [.run, .service] = true)) 9000 [4] [] ({ run0 with ns := [(2, nsConv)], xl := { MapState.reset with granules := [(2, [0])], last := { MapState.reset.last with num := 4 }, older := [{ MapState.reset.last with num := 3, segs := [(0, { sseg := 9, words := [(4, 2 ^ 31 + 77)], unit := 0 })] }] } }.set XLT_STATUS_RESTART 1) ∧
  (fun (ch die block key i : Nat) (z : Zone) (m : Member) (s : State) => Bound s ∧ (s.ownerOf ch die block = some (false, key, i) ∧ s.zn.zones.look key = some z ∧ z.members[i]? = some m) ∧ ((ch, die, block) ∈ s.cd.realloc ∧ s.cd.moving.length < 4 ∧ s.inModes [.run, .service] = true)) 2 1 9 16777216 0 { zone1 .full 4 with members := [{ mem1 4 with rebuilt := some 1 }] } { mem1 4 with rebuilt := some 1 } ({ run0 with cd := { CodecState.reset with realloc := [(2, 1, 9)] }, zn := { ZoneState.reset with zones := [(16777216, { zone1 .full 4 with members := [{ mem1 4 with rebuilt := some 1 }] })] } }) := by
  refine ⟨?_, ?_, ?_, ?_, ?_⟩ <;> dsimp only <;> decide +kernel

/-- Further clauses of `HoldUpDetourAndReturn`, each on operands and a state under which it applies. -/
theorem clauses_HoldUpDetourAndReturn :
  (fun (s : State) => Bound s ∧ (s.pw.ao = true ∧ s.hu.lost = false))  (inMode .hold) ∧
  (fun (s : State) => Bound s ∧ (s.pw.ao = true ∧ s.hu.lost = false))  (inMode .watch) ∧
  (fun (s : State) => Bound s ∧ (s.pw.seq = .idle ∧ s.md.stopped = false ∧ s.md.restStep = none ∧ (s.md.mode = .run ∨ s.md.mode = .service ∨ s.md.mode = .ret ∨ s.md.mode = .rest)) ∧ (s.pw.ao = true ∧ s.hu.lost = false))  (inMode .ret) ∧
  (fun (mv : Nat) (s : State) => Bound s ∧ (s.pw.ao = true ∧ s.hu.validSince = none ∧ s.validDv * 100 ≤ mv)) 12000 ({ inMode .off with pw := { PowerState.reset with ao := true, inputOn := true } }) ∧
  (fun (c d outcome : Nat) (x : Dump) (s : State) => Bound s ∧ (s.hu.dump = some x ∧ x.busy.look (dieKey c d) = none ∧ dieKey c d ∈ x.dirBusy ∧ outcome < 2) ∧ (s.inModes [.detour] = true)) 0 3 1 { dump0 [(3, [])] [] with dirBusy := [3] } (detour0 { dump0 [(3, [])] [] with dirBusy := [3] }) ∧
  (fun (d : Dump) (s : State) => Bound s ∧ (s.hu.dump = some d ∧ s.md.offHeld = false ∧ s.md.holdWrite = false) ∧ (s.inModes [.detour] = true ∧ d.committedAt ≠ none ∧ d.thermal = false ∧ d.fault = false ∧ s.md.offDetour = false ∧ s.inputStood = true)) { dump0 [(3, [])] [] with dirs := [3], left := 8, committedAt := some 5 } ({ detour0 { dump0 [(3, [])] [] with dirs := [3], left := 8, committedAt := some 5 } with now := 1000000000, hu := { (detour0 { dump0 [(3, [])] [] with dirs := [3], left := 8, committedAt := some 5 }).hu with validSince := some 0, records := [(0, { (dump0 [] []).record with committed := true })] } }) ∧
  (fun (d : Dump) (s : State) => Bound s ∧ (s.hu.dump = some d ∧ s.md.offHeld = false ∧ s.md.holdWrite = false) ∧ (s.inModes [.detour] = true ∧ d.committedAt ≠ none ∧ d.thermal = false ∧ d.fault = false ∧ s.md.offDetour = false ∧ s.inputStood = true)) { dump0 [(3, [])] [] with dirs := [3], left := 7, empty := true, committedAt := some 5 } ({ detour0 { dump0 [(3, [])] [] with dirs := [3], left := 7, empty := true, committedAt := some 5 } with now := 1000000000, hu := { (detour0 { dump0 [(3, [])] [] with dirs := [3], left := 7, empty := true, committedAt := some 5 }).hu with validSince := some 0, records := [(0, { (dump0 [] []).record with committed := true })] } }) ∧
  (fun (_lostUnits : List Nat) (s : State) => Bound s ∧ (s.recordSlot = none ∧ s.hu.live = [] ∧ s.md.undecoded = [] ∧ s.wc.pairs = [] ∧ s.md.offHeld = false ∧ s.md.holdWrite = false ∧ s.get PSC_STATUS_HOLD_HOST = s.get PSC_CTRL_HOLD_REQ) ∧ (s.inModes [.ret] = true ∧ s.mayEndReturn = true)) [] ((inMode .ret).set PSC_STATUS_HOLD_NOCFG 1) := by
  refine ⟨?_, ?_, ?_, ?_, ?_, ?_, ?_, ?_⟩ <;> dsimp only <;> decide +kernel

/-- Further clauses of `PackGaugeAndCharger`, each on operands and a state under which it applies. -/
theorem clauses_PackGaugeAndCharger :
  (fun (_volts : Nat) (_amps _temp : Int) (s : State) => Bound s ∧ (s.gaugeOn = true)) 529000 (-90) 61 (packed 3 (inMode .rest)) ∧
  (fun (_volts : Nat) (_amps _temp : Int) (s : State) => Bound s ∧ (s.gaugeOn = true)) 530000 0 25 (packed 3 run0) ∧
  (fun (s : State) => Bound s ∧ (s.powered = true ∧ s.packSound = true))  (packed 5 run0) ∧
  (fun (s : State) => Bound s ∧ (s.powered = true ∧ s.packSound = true))  ({ packed 3 run0 with hu := { (packed 3 run0).hu with u := 200 * qJ } }) ∧
  (fun (s : State) => Bound s ∧ (s.packSound = true ∧ s.powered = true ∧ s.hu.hourAt + 3600000 ≤ s.ms.opMs))  ({ packed 3 run0 with ms := { MilestoneState.reset with opMs := 3600000 }, hu := { (packed 3 run0).hu with forceHeld := true } }.set HUC_STATUS_NO_REST 1) ∧
  (fun (s : State) => Bound s ∧ (s.powered = true ∧ s.packSound = true))  ({ packed 3 run0 with hu := { (packed 3 run0).hu with temp := 60 } }) := by
  refine ⟨?_, ?_, ?_, ?_, ?_, ?_⟩ <;> dsimp only <;> decide +kernel

/-- Further clauses of `PackFailureLifeAndLearning`, each on operands and a state under which it applies. -/
theorem clauses_PackFailureLifeAndLearning :
  (fun (s : State) => Bound s ∧ (s.powered = true ∧ s.packSound = true ∧ s.hu.learn = none))  ({ packed 3 run0 with hu := { (packed 3 run0).hu with u := 200 * qJ } }) := by
  dsimp only <;> decide +kernel

/-- Further clauses of `RailsAndPowerUp`, each on operands and a state under which it applies. -/
theorem clauses_RailsAndPowerUp :
  (fun (rail dir mv ns : Nat) (s : State) => Bound s ∧ (1 ≤ rail ∧ rail < 10 ∧ ((s.rail rail).armed = true ∨ (s.rail rail).waiting = true ∧ dir = 2) ∨ rail = 10 ∧ dir = 2 ∨ rail = 11 ∧ dir < 3 ∧ s.flag PSQ_STATUS_HUB_ARMED = true) ∧ (s.pw.ao = true ∧ s.declares rail dir mv ns = true)) 1 3 0 50000 (run0) ∧
  (fun (rail dir mv ns : Nat) (s : State) => Bound s ∧ (1 ≤ rail ∧ rail < 10 ∧ ((s.rail rail).armed = true ∨ (s.rail rail).waiting = true ∧ dir = 2) ∨ rail = 10 ∧ dir = 2 ∨ rail = 11 ∧ dir < 3 ∧ s.flag PSQ_STATUS_HUB_ARMED = true) ∧ (s.pw.ao = true ∧ s.declares rail dir mv ns = true)) 5 2 5000 50000 ({ run0 with pw := { run0.pw with rails := [(5, { enabled := true, waiting := true, armed := false, inWindow := false, since := 0 })] } }) ∧
  (fun (rail dir mv ns : Nat) (s : State) => Bound s ∧ (1 ≤ rail ∧ rail < 10 ∧ ((s.rail rail).armed = true ∨ (s.rail rail).waiting = true ∧ dir = 2) ∨ rail = 10 ∧ dir = 2 ∨ rail = 11 ∧ dir < 3 ∧ s.flag PSQ_STATUS_HUB_ARMED = true) ∧ (s.pw.ao = true ∧ s.declares rail dir mv ns = true)) 10 2 50000 50000 (run0) ∧
  (fun (rail dir mv ns : Nat) (s : State) => Bound s ∧ (1 ≤ rail ∧ rail < 10 ∧ ((s.rail rail).armed = true ∨ (s.rail rail).waiting = true ∧ dir = 2) ∨ rail = 10 ∧ dir = 2 ∨ rail = 11 ∧ dir < 3 ∧ s.flag PSQ_STATUS_HUB_ARMED = true) ∧ (s.pw.ao = true ∧ s.declares rail dir mv ns = true)) 11 1 10 50000 (run0.set PSQ_STATUS_HUB_ARMED 1) ∧
  (fun (rail dir mv ns : Nat) (s : State) => Bound s ∧ (rail = 10 ∧ dir = 1) ∧ (s.pw.ao = true ∧ s.declares rail dir mv ns = true)) 10 1 5000 50000 ({ run0 with hu := { HoldState.reset with lost := true } }) ∧
  (fun (rail dir mv ns : Nat) (s : State) => Bound s ∧ (1 ≤ rail ∧ rail < 10 ∧ (s.rail rail).armed = false ∧ ((s.rail rail).waiting = false ∨ dir ≠ 2) ∨ rail = 10 ∧ dir = 3 ∨ rail = 11 ∧ (3 ≤ dir ∨ s.flag PSQ_STATUS_HUB_ARMED = false) ∨ 12 ≤ rail) ∧ (s.pw.ao = true ∧ s.declares rail dir mv ns = true)) 11 1 10 50000 (run0) ∧
  (fun (s : State) => Bound s)  ({ run0 with now := 77 }) ∧
  (fun (_bits : Nat) (s : State) => Bound s ∧ (s.inModes [.run, .service] = true)) 1 (run0) ∧
  (fun (_output : Nat) (s : State) => Bound s) 1 ({ run0 with now := 6, pw := { run0.pw with rsto := (true, true), rstoUntil := (some 5, some 6) } }) ∧
  (fun (s : State) => Bound s ∧ (s.recordSlot = none ∧ s.hu.live = [] ∧ s.md.undecoded = [] ∧ s.wc.pairs = [] ∧ s.md.offHeld = false ∧ s.md.holdWrite = false ∧ s.md.holdWait = false ∧ s.md.stopped = false ∧ s.pw.seq = .idle) ∧ (s.inModes [.boot] = true ∧ s.fw.bootRom = false ∧ s.fw.boot ≠ none))  (boot0.set PSC_CTRL_HOLD_REQ 1) := by
  refine ⟨?_, ?_, ?_, ?_, ?_, ?_, ?_, ?_, ?_, ?_⟩ <;> dsimp only <;> decide +kernel

/-- Further clauses of `ModesHoldAndThermalAck`, each on operands and a state under which it applies. -/
theorem clauses_ModesHoldAndThermalAck :
  (fun (s : State) => Bound s ∧ (s.powered = true))  (run0) ∧
  (fun (r : ThermRec) (s : State) => Bound s ∧ (s.ms.therm = some r ∧ r.acked = false ∧ s.md.mode ≠ .hold) ∧ (s.powered = true)) { immediate := false, saved := true, noSave := false, acked := false, mode := 4, jmax := 480, sensor := 3, hours := 1, ms := 2, cycles := 3, ext := [] } (({ run0 with ms := { MilestoneState.reset with therm := some { immediate := false, saved := true, noSave := false, acked := false, mode := 4, jmax := 480, sensor := 3, hours := 1, ms := 2, cycles := 3, ext := [] } } }).set THM_JMAX_READING 500) ∧
  (fun (s : State) => Bound s ∧ (∀ r ∈ s.ms.therm.toList, r.acked = true) ∧ (s.powered = true))  ({ run0 with ms := { MilestoneState.reset with therm := some { immediate := false, saved := true, noSave := false, acked := true, mode := 4, jmax := 480, sensor := 3, hours := 1, ms := 2, cycles := 3, ext := [] } } }) := by
  refine ⟨?_, ?_, ?_⟩ <;> dsimp only <;> decide +kernel

/-- Further clauses of `RestWakeAndWatch`, each on operands and a state under which it applies. -/
theorem clauses_RestWakeAndWatch :
  (fun (s : State) => Bound s ∧ (s.md.restStep ≠ none ∧ s.md.stopped = false))  ({ run0 with md := { run0.md with restStep := some 5, wakeNext := true } }) ∧
  (fun (us : Nat) (powerGood : Bool) (k : Nat) (s : State) => Bound s ∧ (s.md.wake = some k ∧ s.md.mode = .rest ∧ 3 ≤ k ∧ k ≤ 7 ∧ (k ≤ 4 → powerGood = true) ∧ s.md.padPend = []) ∧ (s.inModes [.rest, .detour] = true ∧ wakeDelay k ≤ us ∧ (powerGood = true ∨ s.pgWait ≤ 1000 * (us - wakeDelay k)))) 20000 false 7 ({ inMode .rest with md := { (inMode .rest).md with wake := some 7 } }) ∧
  (fun (us k : Nat) (s : State) => Bound s ∧ (s.md.wake = some k ∧ s.md.mode = .rest ∧ (k = 3 ∨ k = 4)) ∧ (s.inModes [.rest, .detour] = true ∧ wakeDelay k ≤ us ∧ s.pgWait ≤ 1000 * (us - wakeDelay k))) 20000 4 ({ inMode .rest with md := { (inMode .rest).md with wake := some 4 } }) ∧
  (fun (_groups g : Nat) (s : State) => Bound s ∧ (s.md.wake = none ∧ s.md.mode ≠ .rest ∧ g < 3) ∧ (s.powered = true ∧ s.get PSC_PAD_HELD ≠ 0)) 5 1 (run0.set PSC_PAD_HELD 7) ∧
  (fun (_inputMv _packMv : Nat) (_temp : Int) (present : Bool) (s : State) => Bound s ∧ (present = true) ∧ (s.pw.ao = true ∧ s.md.mode = .watch ∧ s.roundDue = true)) 9000 50000 61 true ({ inMode .watch with now := 100000000000, md := { (inMode .watch).md with watch := some { tMin := 20, tMax := 40, hot := 0, lastV := 50000, lastT := 0, flags := 0 } } }) ∧
  (fun (mv : List Nat) (s : State) => Bound s ∧ (s.pw.ao = true ∧ s.md.mode = .watch ∧ s.md.roundValid = true ∧ mv.length = 10)) (9000 :: List.replicate 9 12000) ({ inMode .watch with md := { (inMode .watch).md with roundValid := true } }) ∧
  (fun (_byCurrent : Bool) (s : State) => Bound s ∧ (s.pw.ao = true ∧ s.md.mode = .watch)) false (inMode .watch) := by
  refine ⟨?_, ?_, ?_, ?_, ?_, ?_, ?_⟩ <;> dsimp only <;> decide +kernel

/-- Further clauses of `DramRequestsRefreshAndReplay`, each on operands and a state under which it applies. -/
theorem clauses_DramRequestsRefreshAndReplay :
  (fun (ch : Nat) (outcome : DramOutcome) (q : DReq) (s : State) => Bound s ∧ ((s.dchan ch).issued.find? (fun x => decide (x.req.addr ≤ outcome.addr) && decide (outcome.addr < x.req.addr + max 1 x.req.len)) = some q ∧ (s.eccT < outcome.symbols ∨ outcome.addr / 64 * 64 ∈ (s.dchan ch).poison) ∧ (s.dchan ch).ueTimes = [] ∧ s.get DMC_CTRL_UE_LOSS ≠ 0) ∧ (s.powered = true ∧ ch < 4 ∧ s.chLive ch = true)) 1 { addr := 64, symbols := 0 } { id := 3, req := dreq0 false, at_ := 0, use := none } (dramOn 1 { DChan.fresh with poison := [64], issued := [{ id := 3, req := dreq0 false, at_ := 0, use := none }] } run0) ∧
  (fun (ch _source : Nat) (s : State) => Bound s ∧ ((s.dchan ch).fences = []) ∧ (s.powered = true ∧ ch < 4 ∧ s.chLive ch = true)) 1 7 (dramOn 1 { DChan.fresh with issued := [{ id := 3, req := dreq0 false, at_ := 0, use := none }] } run0) := by
  refine ⟨?_, ?_⟩ <;> dsimp only <;> decide +kernel

/-- Further clauses of `MemoryRepairAndScrub`, each on operands and a state under which it applies. -/
theorem clauses_MemoryRepairAndScrub :
  (fun (ch : Nat) (outcome : DramOutcome) (s : State) => Bound s ∧ (outcome.symbols ≤ s.eccT ∧ (s.dchan ch).ceRows = []) ∧ (s.inModes [.boot, .hold, .run, .service] = true ∧ ch < 4 ∧ s.chLive ch = true ∧ (s.dchan ch).scrub = none ∧ s.get DMC_SCRUB_CFG_PATROL_H ≠ 0 ∧ (s.dchan ch).scrubUntil ≤ s.now ∧ outcome.addr / 64 = (s.dchan ch).patrol)) 1 { addr := 64, symbols := 2 } ((dramOn 1 { DChan.fresh with patrol := 1 } run0).set DMC_SCRUB_CFG_PATROL_H 24) ∧
  (fun (value d : Nat) (s : State) => Bound s ∧ (bits value 1 0 = d ∧ (s.dchan d).scrub = none ∧ (s.dchan d).scrubQ = []) ∧ (s.powered = true ∧ bit value 2 = true)) 13 1 (dramOn 1 DChan.fresh run0) ∧
  (fun (mac word kind _master i : Nat) (_inHandler : Bool) (table : SramTable) (_ctx : Option Nat) (writes : List SramWrite) (s : State) => Bound s ∧ ((kind = 4 ∨ kind = 5) ∧ (table = .data ∨ table = .shadow i ∨ table = .link i) ∧ ((s.sramWrites writes).mm.sram.look (sramKey mac word)).isSome = true) ∧ (s.powered = true ∧ mac < 352 ∧ word < 32768)) 5 100 5 3 7 false (.shadow 7) none [{ mac := 5, word := 100, mask := 255, data := 77 }] ({ run0 with mm := { MemState.reset with scrub := some { first := 0, last := 3, corrected := 0, bad := 0, since := 0, ticket := none } } }) ∧
  (fun (_value : Nat) (s : State) => Bound s ∧ (s.powered = true)) 259 (run0.set MPU_DMA_HALTED 8 0) ∧
  (fun (value : Nat) (s : State) => Bound s ∧ (s.powered = true ∧ bit value 20 = true)) (2 ^ 20 + 1024 * 7 + 2) ({ run0 with mm := { MemState.reset with scrub := some { first := 0, last := 3, corrected := 0, bad := 0, since := 0, ticket := none } } }) := by
  refine ⟨?_, ?_, ?_, ?_, ?_⟩ <;> dsimp only <;> decide +kernel

/-- Further clauses of `CausewayLinkAndPaths`, each on operands and a state under which it applies. -/
theorem clauses_CausewayLinkAndPaths :
  (fun (port reason seq _vc _units : Nat) (s : State) => Bound s ∧ (2 ≤ reason ∧ reason ≠ 3 ∧ seq = (s.cwPort port).rxSeq) ∧ (port < 4 ∧ s.cwState port = cwUp ∧ reason ≤ 5)) 1 4 0 1 70 (fab0) := by
  dsimp only <;> decide +kernel

/-- Further clauses of `FabricFramesAndRemoteRequests`, each on operands and a state under which it applies. -/
theorem clauses_FabricFramesAndRemoteRequests :
  (fun (port : Nat) (f : Frame) (s : State) => Bound s ∧ (f.trailerOk = true ∧ f.seq = (s.cwPort port).rxSeq ∧ knownType f.type = true ∧ f.domain = s.get JNR_CFG_DOMAIN ∧ s.joined = true ∧ f.vc < 3) ∧ (port < 4 ∧ s.portsRun = true ∧ s.cwState port = cwUp ∧ f.dst ≠ s.nodeId ∧ (16 ≤ f.type ∨ knownType f.type = false))) 1 { frame0 0x30 3 1 [7] with dst := 9, hops := 0 } (fab0) ∧
  (fun (port : Nat) (f : Frame) (s : State) => Bound s ∧ (f.trailerOk = true ∧ f.seq = (s.cwPort port).rxSeq ∧ knownType f.type = true ∧ f.domain = s.get JNR_CFG_DOMAIN ∧ s.joined = true ∧ f.vc < 3) ∧ (port < 4 ∧ s.portsRun = true ∧ s.cwState port = cwUp ∧ f.dst ≠ s.nodeId ∧ (16 ≤ f.type ∨ knownType f.type = false))) 1 { frame0 0x30 3 1 [7] with dst := 9 } ({ fab0 with fb := { fab0.fb with paths := [(9, (2, 1))] } }) ∧
  (fun (port : Nat) (f : Frame) (r : Remote) (id k : Nat) (x : Ctx) (s : State) => Bound s ∧ (Accepts port f s ∧ s.fb.reqs.look f.tag = some r ∧ r.for_ = .replicated id k ∧ k < 64 ∧ s.ctx id = some x ∧ x.stage ≠ .done ∧ x.remote = none ∧ x.replFailed = false ∧ x.localDone = true) ∧ (port < 4 ∧ s.portsRun = true ∧ f.type = 0x30)) 1 (frame0 0x30 3 9 (cqeBytes .internalError 4 0 7)) (req0 (.replicated 5 2)) 5 2 { ioCtx0 1 0 1 0 with replWait := true, localDone := true, stage := .issued } ({ fab1 with ctxs := [{ ioCtx0 1 0 1 0 with replWait := true, localDone := true, stage := .issued }], fb := { fab1.fb with reqs := [(9, req0 (.replicated 5 2))] } }) ∧
  (fun (binding word value : Nat) (s : State) => Bound s ∧ ((word = 0 → bits value 30 13 = 0) ∧ (word = 1 → bits value 31 22 = 0) ∧ word < 2) ∧ (s.powered = true ∧ binding < 64 ∧ word < 2)) 3 1 (6 + 4096) (fab0) := by
  refine ⟨?_, ?_, ?_, ?_⟩ <;> dsimp only <;> decide +kernel

/-- Further clauses of `FaultsAndEvents`, each on operands and a state under which it applies. -/
theorem clauses_FaultsAndEvents :
  (fun (_addr _master _type cls _space : Nat) (s : State) => Bound s ∧ (cls = 1) ∧ (s.coreOn = true)) 4096 3 5 1 2 (run0.set FCL_STATUS_VALID 1) := by
  dsimp only <;> decide +kernel

/-- Further clauses of `MilestoneMemoryAndHousekeeping`, each on operands and a state under which it applies. -/
theorem clauses_MilestoneMemoryAndHousekeeping :
  (fun (line pulses : Nat) (ok : Bool) (s : State) => Bound s ∧ (ok = false ∧ ((s.ms.lines.lookD line LineEntry.fresh).retired = true ∨ s.get MSM_SPARES = 0)) ∧ (s.coreOn = true ∧ line < 27648 ∧ 1 ≤ pulses ∧ pulses ≤ 3)) 5000 3 false ({ run0 with ms := { MilestoneState.reset with lines := [(5000, { pulse2 := 3, retired := true, spare := 4 })] } }.set MSM_SPARES 7) := by
  dsimp only <;> decide +kernel

/-- Further clauses of `FirmwareStoreAndActivation`, each on operands and a state under which it applies. -/
theorem clauses_FirmwareStoreAndActivation :
  (fun (line bits : Nat) (core branch : Option Nat) (s : State) => Bound s ∧ ((s.flag FWS_CFG_PF_EN = false ∨ line ∉ s.fw.prefetch) ∧ (s.flag FWS_CFG_BC_EN = false ∨ ∀ a ∈ branch, a ∉ s.fw.branches) ∧ bits < s.cbitTh) ∧ (s.coreOn = true ∧ line < 2 ^ 19 ∧ (∀ k ∈ core, k ≤ 17) ∧ (∀ a ∈ branch, a / 256 = line))) 100 0 (some 3) (some 25601) (run0) ∧
  (fun (ctx : Nat) (_data : List Nat) (x : Ctx) (s : State) => Bound s ∧ (AdminWaits s ctx 0x11 x ∧ s.fw.prog = none)) 5 [1, 2] (ctx0 0 0x11 0 5 0 0) (adm0 0x11 0 5 0) ∧
  (fun (ctx : Nat) (_header : ImageHeader) (x : Ctx) (s : State) => Bound s ∧ (AdminWaits s ctx 0x10 x ∧ s.fw.prog = none ∧ s.fw.activateDue = none ∧ s.fw.activating = none)) 5 { part := 0x6400, good := true, cfgVerMax := 1, slot := 0, rev := 3 } (ctx0 0 0x10 0 (5 + 8) 0 0) ((adm0 0x10 0 (5 + 8) 0).set FWS_STATUS_SLOT_RUN 1) ∧
  (fun (ctx : Nat) (_header : ImageHeader) (x : Ctx) (s : State) => Bound s ∧ (AdminWaits s ctx 0x10 x ∧ s.fw.prog = none ∧ s.fw.activateDue = none ∧ s.fw.activating = none)) 5 { part := 0x6400, good := true, cfgVerMax := 1, slot := 0, rev := 3 } (ctx0 0 0x10 0 (2 + 32) 0 0) ((adm0 0x10 0 (2 + 32) 0).set FWS_STATUS_SLOT_RUN 1) := by
  refine ⟨?_, ?_, ?_, ?_⟩ <;> dsimp only <;> decide +kernel

/-- Further clauses of `PacketsThatOnlyRead`, each on operands and a state under which it applies. -/
theorem clauses_PacketsThatOnlyRead :
  (fun (p : Packet) (s : State) => Bound s ∧ (PacketRuns p 0x0100 s)) (fpkt 0x0100 []) (({ fab0 with md := fab0.md }).set JNR_CFG_MGMT_EN 1) ∧
  (fun (p : Packet) (s : State) => Bound s ∧ (PacketRuns p 0x0100 s)) (apkt 0x0100 []) (adm0 0xC1 0 36 65555) ∧
  (fun (p : Packet) (s : State) => Bound s ∧ (PacketRuns p 0x0501 s)) (pkt 0x0501 []) (side .run) ∧
  (fun (p : Packet) (k : Ticket) (s : State) => Bound s ∧ (PacketRuns p 0x0601 s ∧ s.mg.tickets.look (field (pkParams p.bytes) 0 2) = some k)) (pkt 0x0601 [7, 0, 0, 0]) { state := 1, kind := 8, ch := 0, start := 0, len := 0, r0 := 1, r1 := 2, r2 := 3, r3 := 4, ended := none } ({ side .run with mg := { MgmtState.reset with tickets := [(7, { state := 1, kind := 8, ch := 0, start := 0, len := 0, r0 := 1, r1 := 2, r2 := 3, r3 := 4, ended := none })] } }) ∧
  (fun (p : Packet) (s : State) => Bound s ∧ (PacketRuns p 0x0702 s)) (pkt 0x0702 [0, 0, 0, 0]) (side .run) ∧
  (fun (p : Packet) (st : Nat) (s : State) => Bound s ∧ (p.carrier = 1 ∧ pkOpcode p.bytes = 0x0103 ∧ s.hears 1 = true ∧ s.packetFault p = some st ∧ s.md.mode ≠ .rest ∧ s.md.restStep = none)) (pkt 0x0103 (le 4 0x38 ++ [2, 0, 0, 0])) 0x02 (side .detour) := by
  refine ⟨?_, ?_, ?_, ?_, ?_, ?_⟩ <;> dsimp only <;> decide +kernel

/-- Further clauses of `PacketsThatWriteRegisters`, each on operands and a state under which it applies. -/
theorem clauses_PacketsThatWriteRegisters :
  (fun (p : Packet) (f : Field) (i j : Nat) (s : State) => Bound s ∧ (PacketRuns p 0x0104 s ∧ PlainField f i j ∧ f.acc = .rw ∧ field (pkParams p.bytes) 0 4 = f.reg.at i j)) (pkt 0x0104 (le 4 (rSLM_NSACC.at 3 4) ++ le 4 0x0A8 ++ le 4 0x1F0)) SLM_NSACC 3 4 (side .run) ∧
  (fun (p : Packet) (s : State) => Bound s ∧ (PacketRuns p 0x0401 s)) (pkt 0x0401 ([0, 0, 0, 0] ++ [255, 0, 0, 0] ++ zeros 4 ++ [9, 0, 0, 0])) (side .run) := by
  refine ⟨?_, ?_⟩ <;> dsimp only <;> decide +kernel

/-- Further clauses of `PacketsThatWait`, each on operands and a state under which it applies. -/
theorem clauses_PacketsThatWait :
  (fun (p : Packet) (s : State) => Bound s ∧ (PacketRuns p 0x0200 s)) (apkt 0x0200 []) (adm0 0xC1 0 36 65555) ∧
  (fun (p : Packet) (n : Nat) (u : State) (s : State) => Bound s ∧ (PacketRuns p 0x0600 s ∧ field (pkParams p.bytes) 0 1 = 9 ∧ s.newTicket 9 (field (pkParams p.bytes) 1 1) 0 0 = some (n, u) ∧ s.xl.ticketNext = none)) (pkt 0x0600 [9, 0, 0, 0]) 1 { side .hold with mg := { MgmtState.reset with tickets := [(1, tick1 9 0)], nextTicket := 2 } } (side .hold) ∧
  (fun (p : Packet) (n : Nat) (u : State) (s : State) => Bound s ∧ (PacketRuns p 0x0600 s ∧ s.newTicket (field (pkParams p.bytes) 0 1) (field (pkParams p.bytes) 1 1) 0 0 = some (n, u) ∧ s.packSound = false ∧ ((field (pkParams p.bytes) 0 1 = 1 ∧ s.hu.zTicket = none) ∨ (field (pkParams p.bytes) 0 1 = 2 ∧ s.hu.learnTicket = none) ∨ (field (pkParams p.bytes) 0 1 = 3 ∧ s.hu.restTicket = none)))) (pkt 0x0600 [2, 0, 0, 0]) 1 { side .run with mg := { MgmtState.reset with tickets := [(1, tick1 2 0)], nextTicket := 2 } } (side .run) ∧
  (fun (p : Packet) (n : Nat) (u : State) (s : State) => Bound s ∧ (PacketRuns p 0x0600 s ∧ s.newTicket (field (pkParams p.bytes) 0 1) (field (pkParams p.bytes) 1 1) 0 0 = some (n, u) ∧ s.packSound = false ∧ ((field (pkParams p.bytes) 0 1 = 1 ∧ s.hu.zTicket = none) ∨ (field (pkParams p.bytes) 0 1 = 2 ∧ s.hu.learnTicket = none) ∨ (field (pkParams p.bytes) 0 1 = 3 ∧ s.hu.restTicket = none)))) (pkt 0x0600 [3, 0, 0, 0]) 1 { side .run with mg := { MgmtState.reset with tickets := [(1, tick1 3 0)], nextTicket := 2 } } (side .run) := by
  refine ⟨?_, ?_, ?_, ?_⟩ <;> dsimp only <;> decide +kernel

/-- Further clauses of `PacketsThatAct`, each on operands and a state under which it applies. -/
theorem clauses_PacketsThatAct :
  (fun (p : Packet) (s : State) => Bound s ∧ (PacketRuns p 0x0400 s ∧ s.wptBusy = false ∧ (s.wpt.rows.look 4095).map (·.valid) ≠ some true)) (pkt 0x0400 ([1, 0, 7, 0] ++ zeros 36)) (side .run) ∧
  (fun (p : Packet) (s : State) => Bound s ∧ (PacketRuns p 0x0400 s ∧ s.wptBusy = false ∧ (s.wpt.rows.look 4095).map (·.valid) ≠ some true)) (pkt 0x0400 ([3, 0, 7, 0] ++ zeros 36)) (side .run) ∧
  (fun (p : Packet) (s : State) => Bound s ∧ (PacketRuns p 0x0400 s ∧ s.wptBusy = false ∧ (s.wpt.rows.look 4095).map (·.valid) ≠ some true)) (pkt 0x0400 ([4, 0, 7, 0] ++ zeros 36)) (side .run) ∧
  (fun (p : Packet) (k : Ticket) (s : State) => Bound s ∧ (PacketRuns p 0x0602 s ∧ s.mg.tickets.look (field (pkParams p.bytes) 0 2) = some k)) (pkt 0x0602 [7, 0, 0, 0]) { tick1 8 0 with state := 2 } ({ side .run with mg := { MgmtState.reset with tickets := [(7, { tick1 8 0 with state := 2 })] } }) ∧
  (fun (p : Packet) (s : State) => Bound s ∧ (PacketRuns p 0x0A00 s ∧ s.md.mode ≠ .hold)) (pkt 0x0A00 []) ({ side .run with ms := { MilestoneState.reset with therm := some { immediate := false, saved := true, noSave := false, acked := false, mode := 4, jmax := 480, sensor := 3, hours := 1, ms := 2, cycles := 3, ext := [] } } }) ∧
  (fun (p : Packet) (s : State) => Bound s ∧ (PacketRuns p 0x0A00 s ∧ s.md.mode ≠ .hold)) (pkt 0x0A00 []) (({ side .run with ms := { MilestoneState.reset with therm := some { immediate := false, saved := true, noSave := false, acked := false, mode := 4, jmax := 480, sensor := 3, hours := 1, ms := 2, cycles := 3, ext := [] } } }).set THM_JMAX_READING 500) := by
  refine ⟨?_, ?_, ?_, ?_, ?_, ?_⟩ <;> dsimp only <;> decide +kernel

/-- Further clauses of `CarriersNvmeMiAndTestPort`, each on operands and a state under which it applies. -/
theorem clauses_CarriersNvmeMiAndTestPort :
  (fun (ctx : Nat) (bytes : List Nat) (_replyOk : Bool) (x : Ctx) (s : State) => Bound s ∧ (s.adminCtx ctx 0xC1 (fun c => c.port == s.privPort) = some x ∧ 20 ≤ x.e.dw10 ∧ x.e.dw10 ≤ 65555 ∧ 20 ≤ x.e.dw11 ∧ x.e.dw11 ≤ 65555 ∧ x.e.dw12 % 4096 = 0 ∧ PacketRuns { carrier := 0, origin := ctx, bytes := padTo bytes x.e.dw10, replyMax := x.e.dw11 } 0x0100 s)) 5 (apkt 0x0100 []).bytes false { ctx0 0 0xC1 0 20 65555 0 with slice := 0 } (adm0 0xC1 0 20 65555) ∧
  (fun (ctx : Nat) (fetched : Option (List Nat)) (_replyOk : Bool) (x : Ctx) (s : State) => Bound s ∧ (AdminWaits s ctx 0xC1 x ∧ x.port = s.privPort ∧ (fetched = none ∨ x.e.dw10 < 20 ∨ 65555 < x.e.dw10 ∨ x.e.dw11 < 20 ∨ 65555 < x.e.dw11 ∨ x.e.dw12 % 4096 ≠ 0))) 5 none true (ctx0 0 0xC1 0 6 65555 0) (adm0 0xC1 0 6 65555) ∧
  (fun (_type _id : Nat) (s : State) => Bound s ∧ (MiServed s)) 1 1 (side .run) ∧
  (fun (_type _id : Nat) (s : State) => Bound s ∧ (MiServed s)) 2 0 (side .run) ∧
  (fun (_type _id : Nat) (s : State) => Bound s ∧ (MiServed s)) 3 0 (side .run) ∧
  (fun (_type _id : Nat) (s : State) => Bound s ∧ (MiServed s)) 4 0 (side .run) ∧
  (fun (_type _id : Nat) (s : State) => Bound s ∧ (MiServed s)) 5 0 (side .run) ∧
  (fun (_controller : Nat) (s : State) => Bound s ∧ (MiServed s)) 7 (side .run) ∧
  (fun (_pins _tdi : List Bool) (s : State) => Bound s ∧ ((s.rail 9).armed = true)) [true, false] [true, true, false] ({ run0 with pw := { run0.pw with rails := [(0, onRail), (1, onRail), (9, onRail)] } }) ∧
  (fun (p : Packet) (st : Nat) (s : State) => Bound s ∧ (p.carrier = 1 ∧ s.hears 1 = true ∧ s.packetFault p = some st ∧ s.md.mode ≠ .rest ∧ s.md.restStep = none)) (pkt 0x0777 []) 0x14 (side .run) ∧
  (fun (p : Packet) (st : Nat) (s : State) => Bound s ∧ (p.carrier = 1 ∧ s.hears 1 = true ∧ s.packetFault p = some st ∧ s.md.mode ≠ .rest ∧ s.md.restStep = none)) (pkt 0x0F02 [2, 1, 9, 0]) 0x19 (side .run) := by
  refine ⟨?_, ?_, ?_, ?_, ?_, ?_, ?_, ?_, ?_, ?_, ?_⟩ <;> dsimp only <;> decide +kernel

/-- Further clauses of `SliceGenerationsAdvance`, each on operands and a state under which it applies. -/
theorem clauses_SliceGenerationsAdvance :
  (fun (slice go : Nat) (s : State) => Bound s ∧ (Quiet s ∧ s.cd.cws = [] ∧ slice < s.sliceCount ∧ s.underReset slice = false ∧ s.inModes [.run, .service] = true) ∧ (s.powered = true ∧ go % 2 = 1)) 0 1 (host0.set SLM_GEN 0xFFFF 0) := by
  dsimp only <;> decide +kernel

/-- A state with an unpredictable case: a 1 was written to an RSV bit. -/
def unbound0 : State := { run0 with unbound := [.rsv 0x38] }

/-- An erase of block 9 that a raw command made unpredictable runs on die 1 of channel 2. -/
def rawErasing : State := { onDie (runs (op0 .erase .other)) (side .service) with unbound := [.rawBlock 2 1 9] }

theorem witness_RawMediaCommandsUnbind_stop :
    ∃ (c : Instr) (s : State), Unbound.rawBlock 2 1 9 ∈ s.unbound ∧ mayRemove c = false := ⟨.uptimeLoRead 0 4 0, rawErasing, by decide, rfl⟩

theorem witness_RawMediaCommandsUnbind_erase :
    ∃ (s : State) (r : Running), s.unbound = [.rawBlock 2 1 r.op.block] ∧ Quiet s ∧ s.arrayEnds 2 1 .erase = some r ∧ r.op.owner = .other ∧
      s.flashOn = true ∧ s.busFree 2 = true :=
  ⟨rawErasing, { op := op0 .erase .other, since := 0, busy := 0, suspends := 0, window := none, suspending := false }, by decide +kernel⟩

theorem witness_EmptyQueueIdles : ∃ s t : State, s.pending = [] ∧ s.pw.ao = true ∧ t.pending = [] ∧ t.pw.ao = false :=
  ⟨run0, State.reset, by decide⟩

theorem witness_EveryBoundCommandCompletes : ∃ (_c : Instr) (s : State), Bound s := ⟨.uptimeLoRead 0 4 0, run0, rfl⟩

theorem witness_UnboundStateStops : ∃ (_c : Instr) (s : State), ¬Bound s := ⟨.uptimeLoRead 0 4 0, unbound0, by decide⟩

theorem witness_OnlyIdlingMovesTime : ∃ (c : Instr) (s t : State), exec c s = .next t ∧ c ≠ .aoPowerOnReset :=
  ⟨.jnrClrCnt, State.reset, _, rfl, by decide +kernel⟩

theorem witness_OnlyIdlingMovesTime_reset : ∃ (s t : State), exec .aoPowerOnReset s = .next t := ⟨State.reset, _, rfl⟩

theorem witness_StepKeepsTheInvariant : ∃ s t : State, Inv s ∧ Sys2Proof.Machine.step s = .next t :=
  ⟨State.reset, _, ⟨⟨by decide +kernel, by decide +kernel⟩, fun _ => ⟨rfl, rfl, rfl, rfl⟩, fun e he => by cases he⟩, rfl⟩

theorem witness_ResetState : ∃ f ∈ allFields, f.reg.has 3 4 = true := ⟨SLM_NSACC, by decide +kernel⟩

theorem witness_FieldsDoNotOverlap :
    ∃ f ∈ allFields, ∃ g ∈ allFields, f.reg.has 3 0 = true ∧ g.reg.has 3 0 = true ∧ (f, 3, 0) ≠ (g, 3, 0) :=
  ⟨SLM_PMAP_PASID, by decide +kernel, SLM_PMAP_SLICE, by decide +kernel⟩

theorem witness_FieldWritesReadBack : ∃ (s : State) (f : Field), f ∈ allFields ∧ RegsCanonical s :=
  ⟨State.reset, SLM_NSACC, by decide +kernel, trivial, fun _ _ _ _ _ h => by cases h⟩

/-- Hypotheses of `CountersSaturate` on a counter below its largest value, at it, and with the block saturated before. -/
theorem witness_CountersSaturate :
    ∃ (b : CntBlock) (f : Field), f.reg.has 0 0 = true ∧ b.sat.reg.has 0 0 = true ∧ b.sat.width = 1 ∧ b.src < 288 ∧ f.key 0 0 ≠ b.sat.key 0 0 ∧
      (∀ k, f.key 0 0 ≠ EVR_PEND.key k 0) ∧ (∀ k, b.sat.key 0 0 ≠ EVR_PEND.key k 0) ∧ State.reset.get f + 1 < 2 ^ f.width ∧
      (2 ^ f.width ≤ (State.reset.set f 0xFFFFFFFF).get f + 1 ∧ (b.src, 0x100) ∉ (State.reset.set f 0xFFFFFFFF).ev.fired) ∧
      ∃ s : State, (b.src, 0 + 0x100) ∈ s.ev.fired :=
  ⟨blkQEN, QEN_DB_DROP, by decide, by decide, by decide, by decide, by decide, fun k h => by
    have h' : 8 * QEN_DB_DROP.reg.at 0 0 + QEN_DB_DROP.lsb = 8 * EVR_PEND.reg.at k 0 + EVR_PEND.lsb := h
    have : EVR_PEND.reg.at 0 0 ≤ EVR_PEND.reg.at k 0 := by simp [Reg.at, EVR_PEND, rEVR_PEND]
    have e : 8 * QEN_DB_DROP.reg.at 0 0 + QEN_DB_DROP.lsb < 8 * EVR_PEND.reg.at 0 0 := by decide
    omega, fun k h => by
    have h' : 8 * blkQEN.sat.reg.at 0 0 + blkQEN.sat.lsb = 8 * EVR_PEND.reg.at k 0 + EVR_PEND.lsb := h
    have : EVR_PEND.reg.at 0 0 ≤ EVR_PEND.reg.at k 0 := by simp [Reg.at, EVR_PEND, rEVR_PEND]
    have e : 8 * blkQEN.sat.reg.at 0 0 + blkQEN.sat.lsb < 8 * EVR_PEND.reg.at 0 0 := by decide
    omega, by decide, by decide, { run0 with ev := { run0.ev with fired := [(114, 0x100)] } }, by decide⟩

theorem witness_ReplyLayout : ∃ body : List Nat, body.length < 65536 ∧ (0 : Nat) < 65536 ∧ (0 : Nat) ≠ 0x10 := ⟨[1, 2], by decide⟩

theorem witness_PacketsBuiltPassTheFormatChecks :
    ∃ s : State, s.tagInUse { carrier := 1, origin := 0, bytes := packetOf 0x0100 9 [], replyMax := 65555 } = false := ⟨run0, rfl⟩

end Sys2Proof.Tests
end

section
/-!
SUPPORT. Where the fields of the register tables lie in the control window: an occurrence is found again at its address, registers do
not share a word, and fields of one register do not share a bit (R8, R9, R12).
-/

namespace Sys2Proof

/-- What is kept at a key is not the default. -/
theorem NMap.look_putD_self {V : Type} [DecidableEq V] (m : NMap V) (k : Nat) (v d : V) : (m.putD k v d).look k ≠ some d := by
  unfold NMap.putD
  split
  · simp [NMap.look_del]
  · rename_i h
    simpa using h

end Sys2Proof

namespace Sys2Proof.Machine

/-- What the layout of a register's occurrences has to meet for each to be a word of its own: word addresses, an outer distance that
holds the inner occurrences, no distance of 0 between two. -/
abbrev Reg.Tidy (r : Reg) : Prop :=
  (4 ∣ r.addr ∧ 4 ∣ r.stride ∧ 4 ∣ r.stride2) ∧ (r.stride = 0 ∧ r.count ≤ 1 ∨ (r.count2 - 1) * r.stride2 < r.stride) ∧
    (r.stride2 = 0 → r.count2 ≤ 1)

/-- A field lies within the 32 bits of its register. -/
abbrev Field.Tidy (f : Field) : Prop := f.reg.Tidy ∧ 0 < f.width ∧ f.lsb + f.width ≤ 32

theorem Reg.has_iff (r : Reg) (i j : Nat) : r.has i j = true ↔ r.first ≤ i ∧ i < r.first + r.count ∧ j < r.count2 := by
  simp [Reg.has, and_assoc]

theorem Reg.Tidy.dvd_at {r : Reg} (h : r.Tidy) (i j : Nat) : 4 ∣ r.at i j :=
  Nat.dvd_add (Nat.dvd_add h.1.1 (h.1.2.1.mul_left _)) (h.1.2.2.mul_left _)

/-- The inner occurrences lie within the outer distance. -/
theorem Reg.inner_le (r : Reg) {j : Nat} (hj : j < r.count2) : j * r.stride2 ≤ (r.count2 - 1) * r.stride2 :=
  Nat.mul_le_mul_right _ (by omega)

/-- An occurrence is found at its address. -/
theorem Reg.Tidy.locate_at {r : Reg} (h : r.Tidy) {i j : Nat} (hr : r.has i j = true) : r.locate (r.at i j) = some (i, j) := by
  obtain ⟨hi, hi', hj⟩ := (r.has_iff i j).1 hr
  obtain ⟨-, hs, hs2⟩ := h
  have hin := r.inner_le hj
  have hd : r.at i j - r.addr = (i - r.first) * r.stride + j * r.stride2 := by unfold Reg.at; omega
  have hlt : ¬ r.at i j < r.addr := by unfold Reg.at; omega
  have houter : (if r.stride = 0 then 0 else ((i - r.first) * r.stride + j * r.stride2) / r.stride) = i - r.first := by
    split
    · omega
    · have : j * r.stride2 < r.stride := by omega
      rw [Nat.add_comm, Nat.add_mul_div_right _ _ (by omega), Nat.div_eq_of_lt this, Nat.zero_add]
  have hinner : (if r.stride = 0 then (i - r.first) * r.stride + j * r.stride2 else ((i - r.first) * r.stride + j * r.stride2) % r.stride)
      = j * r.stride2 := by
    split
    · rename_i h0; simp [h0]
    · have : j * r.stride2 < r.stride := by omega
      rw [Nat.add_comm, Nat.add_mul_mod_self_right, Nat.mod_eq_of_lt this]
  unfold Reg.locate
  simp only [hlt, if_false, hd, houter, hinner]
  by_cases h2 : r.stride2 = 0
  · have : j = 0 := by have := hs2 h2; omega
    subst this
    simp only [h2, if_true, Nat.mul_zero]
    rw [if_pos ⟨trivial, by omega, hj⟩, Nat.sub_add_cancel hi]
  · simp only [h2, if_false, Nat.mul_mod_left, Nat.mul_div_left _ (Nat.pos_of_ne_zero h2)]
    rw [if_pos ⟨trivial, by omega, hj⟩, Nat.sub_add_cancel hi]

/-- What is found at an address is an occurrence that lies there. -/
theorem Reg.locate_sound {r : Reg} {a i j : Nat} (h : r.locate a = some (i, j)) : r.has i j = true ∧ r.at i j = a := by
  unfold Reg.locate at h
  simp only [Option.ite_none_left_eq_some, Option.ite_none_right_eq_some, Option.some.injEq, Prod.mk.injEq] at h
  obtain ⟨ha, ⟨hrest, hi, hj⟩, rfl, rfl⟩ := h
  refine ⟨(r.has_iff _ _).2 ⟨by omega, by omega, hj⟩, ?_⟩
  unfold Reg.at
  rw [Nat.add_sub_cancel]
  clear hi hj
  have houter := Nat.div_add_mod' (a - r.addr) r.stride
  by_cases h1 : r.stride = 0 <;> by_cases h2 : r.stride2 = 0 <;> simp only [h1, h2, if_true, if_false] at hrest ⊢
  · omega
  · have := Nat.div_add_mod' (a - r.addr) r.stride2
    omega
  · omega
  · have := Nat.div_add_mod' ((a - r.addr) % r.stride) r.stride2
    omega

/-- No two occurrences of a register lie at one address. -/
theorem Reg.Tidy.at_inj {r : Reg} (h : r.Tidy) {i j k l : Nat} (hij : r.has i j = true) (hkl : r.has k l = true)
    (e : r.at i j = r.at k l) : i = k ∧ j = l := by
  have := h.locate_at hij
  rw [e, h.locate_at hkl] at this
  simpa [eq_comm] using this

/-- One past the last byte of the span that holds all occurrences of a register. -/
def Reg.spanEnd (r : Reg) : Nat := r.addr + (r.count - 1) * r.stride + (r.count2 - 1) * r.stride2 + 4

/-- In each period of `stride` bytes, one past the last byte of a register's occurrences; they begin at `addr % stride`. -/
def Reg.laneEnd (r : Reg) : Nat := r.addr % r.stride + (r.count2 - 1) * r.stride2 + 4

/-- Two registers share no word: their spans are apart, or they repeat with one period in different lanes of it. -/
abbrev Reg.Apart (r q : Reg) : Prop :=
  r.spanEnd ≤ q.addr ∨ q.spanEnd ≤ r.addr ∨
    (r.stride = q.stride ∧ r.laneEnd ≤ r.stride ∧ q.laneEnd ≤ q.stride ∧
      (r.laneEnd ≤ q.addr % q.stride ∨ q.laneEnd ≤ r.addr % r.stride))

theorem Reg.Apart.symm {r q : Reg} (h : r.Apart q) : q.Apart r := by
  rcases h with h | h | ⟨h, hr, hq, h' | h'⟩
  · exact .inr (.inl h)
  · exact .inl h
  · exact .inr (.inr ⟨h.symm, hq, hr, .inr h'⟩)
  · exact .inr (.inr ⟨h.symm, hq, hr, .inl h'⟩)

theorem Reg.at_in_span (r : Reg) {i j : Nat} (h : r.has i j = true) : r.addr ≤ r.at i j ∧ r.at i j < r.spanEnd := by
  obtain ⟨hi, hi', hj⟩ := (r.has_iff i j).1 h
  have hin := r.inner_le hj
  have : (i - r.first) * r.stride ≤ (r.count - 1) * r.stride := Nat.mul_le_mul_right _ (by omega)
  unfold Reg.at Reg.spanEnd
  omega

theorem Reg.at_in_lane (r : Reg) {i j : Nat} (h : r.has i j = true) (hl : r.laneEnd ≤ r.stride) :
    r.addr % r.stride ≤ r.at i j % r.stride ∧ r.at i j % r.stride < r.laneEnd := by
  obtain ⟨hi, hi', hj⟩ := (r.has_iff i j).1 h
  have hin := r.inner_le hj
  have e : r.at i j % r.stride = r.addr % r.stride + j * r.stride2 := by
    unfold Reg.laneEnd at hl
    unfold Reg.at
    rw [Nat.add_right_comm, Nat.add_mul_mod_self_right, Nat.add_mod, Nat.mod_eq_of_lt (show j * r.stride2 < r.stride by omega),
      Nat.mod_eq_of_lt (by omega)]
  unfold Reg.laneEnd
  omega

theorem Reg.Apart.at_ne {r q : Reg} (h : r.Apart q) {i j k l : Nat} (hr : r.has i j = true) (hq : q.has k l = true) :
    r.at i j ≠ q.at k l := by
  intro e
  have sr := r.at_in_span hr
  have sq := q.at_in_span hq
  rcases h with h | h | ⟨hs, lr, lq, h⟩
  · omega
  · omega
  · have mr := r.at_in_lane hr lr
    have mq := q.at_in_lane hq lq
    rw [e, hs] at mr
    rw [hs] at h
    omega

/-- Two fields share no bit: their registers share no word, or they lie in different bits of one register. -/
abbrev Field.Apart (f g : Field) : Prop :=
  f.reg.Apart g.reg ∨ (f.reg = g.reg ∧ (f.lsb + f.width ≤ g.lsb ∨ g.lsb + g.width ≤ f.lsb))

theorem Field.Apart.symm {f g : Field} (h : f.Apart g) : g.Apart f := by
  rcases h with h | ⟨h, h' | h'⟩
  · exact .inl h.symm
  · exact .inr ⟨h.symm, .inr h'⟩
  · exact .inr ⟨h.symm, .inl h'⟩

/-- Fields in words that differ share no bit. -/
theorem Field.keys_apart_of_at_ne {f g : Field} (hf : f.Tidy) (hg : g.Tidy) {i j k l : Nat} (h : f.reg.at i j ≠ g.reg.at k l) :
    f.key i j + f.width ≤ g.key k l ∨ g.key k l + g.width ≤ f.key i j := by
  obtain ⟨a, ha⟩ := hf.1.dvd_at i j
  obtain ⟨b, hb⟩ := hg.1.dvd_at k l
  obtain ⟨-, -, hfw⟩ := hf
  obtain ⟨-, -, hgw⟩ := hg
  unfold Field.key
  omega

theorem Field.Apart.keys_apart {f g : Field} (h : f.Apart g) (hf : f.Tidy) (hg : g.Tidy) {i j k l : Nat}
    (hi : f.reg.has i j = true) (hk : g.reg.has k l = true) :
    f.key i j + f.width ≤ g.key k l ∨ g.key k l + g.width ≤ f.key i j := by
  by_cases e : f.reg.at i j = g.reg.at k l
  · rcases h with h | ⟨-, h⟩
    · exact absurd e (h.at_ne hi hk)
    · unfold Field.key
      omega
  · exact Field.keys_apart_of_at_ne hf hg e

/-- The 512 KiB page of the window in which a register begins; no two blocks have registers in one page. -/
def Reg.page (r : Reg) : Nat := r.addr / 2 ^ 19

/-- The pages of the registers of some fields. -/
def pagesOf (l : List Field) : List Nat := (l.map (·.reg.page)).dedup

-- the facts about the 751 rows, by evaluation

theorem allFields_tidy : ∀ f ∈ allFields, f.Tidy := by decide +kernel

theorem allFields_within_page : ∀ f ∈ allFields, f.reg.spanEnd ≤ (f.reg.page + 1) * 2 ^ 19 := by decide +kernel

theorem fieldBlocks_pages_disjoint : fieldBlocks.Pairwise fun l m => ∀ p ∈ pagesOf l, p ∉ pagesOf m := by decide +kernel

theorem fieldBlocks_apart : ∀ l ∈ fieldBlocks, l.Pairwise Field.Apart := by decide +kernel

theorem Reg.apart_of_page_ne {r q : Reg} (h : r.page ≠ q.page) (hr : r.spanEnd ≤ (r.page + 1) * 2 ^ 19)
    (hq : q.spanEnd ≤ (q.page + 1) * 2 ^ 19) : r.Apart q := by
  unfold Reg.page at *
  rcases Nat.lt_or_gt_of_ne h with h | h
  · exact .inl (by omega)
  · exact .inr (.inl (by omega))

/-- No two rows of the field tables share a bit. -/
theorem allFields_apart : allFields.Pairwise Field.Apart := by
  refine List.pairwise_flatten.2 ⟨fieldBlocks_apart, fieldBlocks_pages_disjoint.imp_of_mem fun {l m} hl hm h f hf g hg => .inl ?_⟩
  refine Reg.apart_of_page_ne (fun e => h _ (List.mem_dedup.2 (List.mem_map_of_mem hf)) ?_)
    (allFields_within_page f (List.mem_flatten_of_mem hl hf)) (allFields_within_page g (List.mem_flatten_of_mem hm hg))
  rw [e]
  exact List.mem_dedup.2 (List.mem_map_of_mem hg)

theorem allFields_apart_of_ne {f g : Field} (hf : f ∈ allFields) (hg : g ∈ allFields) (h : f ≠ g) : f.Apart g :=
  have : Std.Symm Field.Apart := ⟨fun _ _ => Field.Apart.symm⟩
  allFields_apart.forall hf hg h

/-- Settles O53: fields of two rows lie in different words or different bits of a word, occurrences of one row in different words. -/
theorem fieldsDoNotOverlap : Obligations.FieldsDoNotOverlap := by
  intro f hf g hg i j k l hi hk hne
  have tf := allFields_tidy f hf
  by_cases e : f = g
  · subst e
    refine Field.keys_apart_of_at_ne tf tf fun h => hne ?_
    obtain ⟨rfl, rfl⟩ := tf.1.at_inj hi hk h
    rfl
  · exact (allFields_apart_of_ne hf hg e).keys_apart tf (allFields_tidy g hg) hi hk

/-- Two fields of the tables, or two occurrences of one, are kept under different keys. -/
theorem Field.key_ne {f g : Field} {i j k l : Nat} (hf : f ∈ allFields) (hg : g ∈ allFields) (hi : f.reg.has i j = true)
    (hk : g.reg.has k l = true) (hne : (f, i, j) ≠ (g, k, l)) : f.key i j ≠ g.key k l := by
  have hw : 0 < f.width ∧ 0 < g.width := ⟨(allFields_tidy f hf).2.1, (allFields_tidy g hg).2.1⟩
  have := fieldsDoNotOverlap f hf g hg i j k l hi hk hne
  omega

/-- Setting a field of the tables keeps the canonical form of the store of register values. -/
theorem RegsCanonical.set {s : State} (h : RegsCanonical s) {f : Field} (hf : f ∈ allFields) (v i j : Nat) :
    RegsCanonical (s.set f v i j) := by
  obtain ⟨hsort, hnone⟩ := h
  refine ⟨State.regs_sorted_set s f v i j hsort, fun g hg k l hk => ?_⟩
  by_cases hi : f.reg.has i j = true
  · by_cases e : (f, i, j) = (g, k, l)
    · simp only [Prod.mk.injEq] at e
      obtain ⟨rfl, rfl, rfl⟩ := e
      simp only [State.set, hi, if_true]
      exact NMap.look_putD_self _ _ _ _
    · rw [State.look_set _ _ _ _ _ _ (Field.key_ne hf hg hi hk e)]
      exact hnone g hg k l hk
  · simp only [State.set, hi]
    exact hnone g hg k l hk

/-- Settles O54: by where the fields lie, and what a lookup finds after a put. -/
theorem fieldWritesReadBack : Obligations.FieldWritesReadBack :=
  ⟨fun s f v i j _ hi => State.get_set s f v i j hi,
   fun s f g v i j k l hf hg hi hk hne => State.get_set_ne s f g v i j k l (Field.key_ne hf hg hi hk hne),
   fun _ _ v i j hf h => h.set hf v i j⟩

end Sys2Proof.Machine
end

section
/-!
SUPPORT. How every command ends, from the two forms of `exec`: it completes in a bound state, and in another only where it removes a
case (R10, R448); what its end leaves standing.
-/

namespace Sys2Proof.Machine

/-- A command that may remove a case goes on in an unbound state only if fewer cases are present after it. -/
theorem actRemovingTo_unbound {s : State} (h : ¬Bound s) (n : Nat) (f : State → State) :
    actRemovingTo n s f = .fault .unpredictable ∨
      ∃ t, actRemovingTo n s f = .next t ∧ t.unbound.length < s.unbound.length := by
  have hne : ¬ s.unbound.isEmpty = true := fun e => h (List.isEmpty_iff.1 e)
  unfold actRemovingTo
  by_cases hr : (f s).unbound.length < s.unbound.length
  · rw [if_pos (.inr hr)]
    exact .inr ⟨_, rfl, by simpa using hr⟩
  · rw [if_neg (not_or.2 ⟨hne, hr⟩)]
    exact .inl rfl

/-- Every command ends in a state with the queue of before. -/
theorem exec_bound (c : Instr) {s : State} (h : Bound s) : ∃ (n : Nat) (f : State → State), exec c s = .next (s.after n (f s)) := by
  cases hc : mayRemove c with
  | false =>
    obtain ⟨f, e⟩ := exec_plain c s hc
    exact ⟨_, f, e.trans (actTo_bound h _ f)⟩
  | true =>
    obtain ⟨n, f, e, -⟩ := exec_removing c s hc
    exact ⟨n, f, e.trans (actRemovingTo_bound h n f)⟩

/-- A command that acts under a condition has its effect where the condition says that its event can occur, and none elsewhere (log 6). -/
theorem effect_actWhen {c : Instr} {s : State} {b : Bool} {f : State → State} {occurs : Prop} {P : State → Prop}
    (he : exec c s = actWhen s b f) (hb : b = true ↔ occurs) (hP : occurs → P (s.after s.now (f s))) : Effect c s occurs P := by
  intro bound
  refine ⟨_, he.trans (actWhen_bound bound b f), fun h => ?_, fun h => ?_⟩
  · rw [if_pos (hb.2 h)]
    exact hP h
  · rw [if_neg (mt hb.1 h)]
    rfl

-- what a command's end leaves standing

theorem KeepsHost.after {s t : State} (h : KeepsHost s t) (r : State) (n : Nat) : KeepsHost s (r.after n t) := by
  simpa [KeepsHost] using h

theorem KeepsMedia.after {s t : State} (h : KeepsMedia s t) (r : State) (n : Nat) : KeepsMedia s (r.after n t) := by
  simpa [KeepsMedia] using h

theorem KeepsPower.after {s t : State} (h : KeepsPower s t) (r : State) (n : Nat) : KeepsPower s (r.after n t) := by
  simpa [KeepsPower] using h

theorem KeepsService.after {s t : State} (h : KeepsService s t) (r : State) (n : Nat) : KeepsService s (r.after n t) := by
  simpa [KeepsService] using h

/-- A command's end changes of milestone memory only since when a slot is clean. -/
theorem State.after_ms (s t : State) (n : Nat) : (s.after n t).ms = { t.ms with slots := t.settleSlots.ms.slots } := by
  simp [State.after, State.settle]
  rfl

theorem KeepsFaults.after {s t : State} (h : KeepsFaults s t) (r : State) (n : Nat) : KeepsFaults s (r.after n t) := by
  obtain ⟨hfc, hth, hms, hev⟩ := h
  refine ⟨by simpa using hfc, by simpa using hth, ?_, by simpa using hev⟩
  rw [State.after_ms]
  exact hms

theorem KeepsAll.after {s t : State} (h : KeepsAll s t) (r : State) (n : Nat) : KeepsAll s (r.after n t) := by
  obtain ⟨hh, hm, hp, hs, hf⟩ := h
  exact ⟨hh.after r n, hm.after r n, hp.after r n, hs.after r n, hf.after r n⟩

/-- Settles O46: the model's choice that a row whose conditions fail completes with no effect is log entry 6. -/
theorem everyBoundCommandCompletes : Obligations.EveryBoundCommandCompletes := by
  intro c s h
  obtain ⟨n, f, e⟩ := exec_bound c h
  exact ⟨_, e, State.after_pending s n (f s)⟩

/-- Settles O47: which commands stop, and which may remove a case, is log entry 5's choice. -/
theorem unboundStateStops : Obligations.UnboundStateStops := by
  intro c s h
  cases hc : mayRemove c with
  | false =>
    obtain ⟨f, e⟩ := exec_plain c s hc
    exact .inl (e.trans (actTo_unbound h _ f))
  | true =>
    obtain ⟨n, f, e, -⟩ := exec_removing c s hc
    rw [e]
    exact (actRemovingTo_unbound h n f).imp_right fun g => ⟨rfl, g⟩

/-- Settles O44: the queue is the model's own form of commands that come from outside (log entry 1). -/
theorem stepRunsFrontCommand : Obligations.StepRunsFrontCommand := fun _ _ _ => rfl

end Sys2Proof.Machine
end

section
/-!
SUPPORT. The state after reset (R11, R12).
-/

namespace Sys2Proof.Machine

/-- At reset every field has its Reset value, cut to its width. -/
theorem State.get_reset {f : Field} {i j : Nat} (h : f.reg.has i j = true) : State.reset.get f i j = f.reset i % 2 ^ f.width := by
  unfold State.get
  rw [if_pos h]
  rfl

theorem showsContexts_reset : ShowsContexts State.reset := by
  unfold ShowsContexts
  decide +kernel

theorem pinsLow_reset : PinsLow State.reset := fun _ => ⟨rfl, rfl, rfl, rfl⟩

theorem slotsNoted_reset : SlotsNoted State.reset := fun _ he => absurd he List.not_mem_nil

/-- Settles O50: the pins low until BOOT has ended are the model's choice (log 71, 93). -/
theorem resetMeetsTheInvariant : Obligations.ResetMeetsTheInvariant := ⟨showsContexts_reset, pinsLow_reset, slotsNoted_reset⟩

/-- R64: after reset every access bitmap is all ones. -/
theorem nsacc_reset {n w : Nat} (hn : n < 256) (hw : w < 32) : State.reset.get SLM_NSACC n w = 0xFFFFFFFF :=
  State.get_reset ((Reg.has_iff _ n w).2 ⟨Nat.zero_le _, by simpa [SLM_NSACC, rSLM_NSACC] using hn, hw⟩)

/-- After reset route class 0 alone is valid. -/
theorem route_valid_reset : ∀ c < 64, State.reset.get WPT_ROUTE_CFG_V c = if c = 0 then 1 else 0 := by decide +kernel

/-- Settles O52: fields without a Reset value of their own hold 0 (log entry 3). -/
theorem resetState : Obligations.ResetState := by
  refine ⟨fun f _ i j h => State.get_reset h, rfl, rfl, rfl, rfl, rfl, rfl, ?_, ?_, ?_, fun n hn w hw => nsacc_reset hn hw, ?_, ?_, ?_, ?_, ?_, ?_, ?_,
    route_valid_reset⟩
  all_goals decide +kernel

end Sys2Proof.Machine
end

section
/-!
SUPPORT. Reads of the control window by the host (R8, R27): which word an address gives, what a read latches, and that a read reaches
nothing else.
-/

namespace Sys2Proof.Machine

theorem keepsAll_put (s : State) (o : Out) : KeepsAll s (s.put o) := by
  simp [KeepsAll, KeepsHost, KeepsMedia, KeepsPower, KeepsService, KeepsFaults]

theorem keepsAll_set_put (s : State) (f : Field) (v i j : Nat) (o : Out) : KeepsAll s ((s.set f v i j).put o) := by
  simp [KeepsAll, KeepsHost, KeepsMedia, KeepsPower, KeepsService, KeepsFaults]

/-- What is no TLP is put out in any state (R385). -/
theorem State.out_put {s : State} {o : Out} (h : o.isTlp = false) : (s.put o).out = o :: s.out := by
  unfold State.put
  simp [h]

-- the word an address gives

/-- The registers whose value is that of other state now, in the order of `State.liveWords`. -/
def liveRegs : List Reg := State.reset.liveWords.map (·.1)

theorem State.liveWords_regs (s : State) : s.liveWords.map (·.1) = liveRegs := by
  unfold liveRegs State.liveWords
  simp only [List.map_cons, List.map_nil]

theorem findSome_locate_none {α β : Type} {l : List (Reg × α)} {a : Nat} (g : α → Nat × Nat → β)
    (h : ∀ r ∈ l.map (·.1), r.locate a = none) : (l.findSome? fun e => (e.1.locate a).map (g e.2)) = none :=
  List.findSome?_eq_none_iff.2 fun e he => by rw [h e.1 (List.mem_map_of_mem he), Option.map_none]

/-- A register among those with live values reads as its word there, if none before it lies at the address. -/
theorem State.viewWord_live {s : State} {n a i j : Nat} {r : Reg} {w : Nat → Nat → Nat} (hn : s.liveWords[n]? = some (r, w))
    (ha : r.locate a = some (i, j)) (h : ∀ q ∈ liveRegs.take n, q.locate a = none) : s.viewWord a = w i j := by
  obtain ⟨hlt, he⟩ := List.getElem?_eq_some_iff.1 hn
  have hbefore : ∀ q ∈ (s.liveWords.take n).map (·.1), q.locate a = none := by
    rw [List.map_take, s.liveWords_regs]
    exact h
  have hsplit : s.liveWords = s.liveWords.take n ++ (r, w) :: s.liveWords.drop (n + 1) := by
    rw [← he, ← List.drop_eq_getElem_cons hlt, List.take_append_drop]
  unfold State.viewWord
  rw [hsplit, List.findSome?_append, findSome_locate_none (fun v x => v x.1 x.2) hbefore, Option.none_or, List.findSome?_cons]
  simp only [ha, Option.map_some]

/-- A register with no live value reads as its fields hold it. -/
theorem State.viewWord_plain {s : State} {a : Nat} (h : ∀ q ∈ liveRegs, q.locate a = none) :
    s.viewWord a = s.wordOf ((fieldsAt a).map (·.1)) a := by
  unfold State.viewWord
  have hnone : ∀ q ∈ s.liveWords.map (·.1), q.locate a = none := by rwa [s.liveWords_regs]
  rw [findSome_locate_none (fun v x => v x.1 x.2) hnone]

theorem State.viewWord_uptimeLo (s : State) : s.viewWord (rGLB_UPTIME_LO.at 0 0) = s.now % 2 ^ 32 :=
  State.viewWord_live (n := 2) (i := 0) (j := 0) rfl rfl (by decide +kernel)

theorem State.viewWord_recTotalLo (s : State) : s.viewWord (rTLG_REC_TOTAL_LO.at 0 0) = s.lateTotal % 2 ^ 32 :=
  State.viewWord_live (n := 5) (i := 0) (j := 0) rfl rfl (by decide +kernel)

theorem State.viewWord_ckptNumLo (s : State) : s.viewWord (rXLT_CKPT_NUM_LO.at 0 0) = s.xl.last.num % 2 ^ 32 :=
  State.viewWord_live (n := 20) (i := 0) (j := 0) rfl rfl (by decide +kernel)

theorem State.viewWord_cfgSeqLo {s : State} {c : CfgCopy} (h : s.cfgInUse = some c) :
    s.viewWord (rFWC_CFG_SEQ_LO.at 0 0) = c.seq % 2 ^ 32 := by
  rw [State.viewWord_live (n := 26) (i := 0) (j := 0) rfl rfl (by decide +kernel), h]

theorem fieldsAt_firstTsLo : fieldsAt (rFCL_FIRST_TS_LO.at 0 0) = [(FCL_FIRST_TS_LO, 0, 0)] := by decide +kernel

theorem State.viewWord_firstTsLo (s : State) : s.viewWord (rFCL_FIRST_TS_LO.at 0 0) = s.get FCL_FIRST_TS_LO := by
  rw [State.viewWord_plain (by decide +kernel), fieldsAt_firstTsLo]
  have hl : FCL_FIRST_TS_LO.reg.locate (rFCL_FIRST_TS_LO.at 0 0) = some (0, 0) := rfl
  simp only [State.wordOf, List.map_cons, List.map_nil, List.foldl_cons, List.foldl_nil, hl]
  rw [Nat.zero_add]
  exact Nat.mul_one _

-- aligned and unaligned reads

/-- The address of a register that is read as a word like any other: no port into milestone memory, no table of training results. -/
abbrev PlainRead (a : Nat) : Prop :=
  a ≠ rMSM_LOG_DATA.at 0 0 ∧ a ≠ rMSM_WIN_DATA.at 0 0 ∧ (rFSQ_DQDLY.locate a).isSome = false ∧ (rFSQ_TRAIN_LOG.locate a).isSome = false

/-- A read of a register with a latch sets the upper field. -/
theorem State.readWord_latched {s : State} {a hi : Nat} {r : Reg} {f : Field} (h : PlainRead a)
    (hl : (s.latches.find? fun e => e.1.at 0 0 == a) = some (r, f, hi)) : s.readWord a = (s.viewWord a, s.set f hi) := by
  obtain ⟨h1, h2, h3, h4⟩ := h
  unfold State.readWord
  rw [if_neg h1, if_neg h2, if_neg (by simp [h3, h4])]
  simp only [hl]

/-- A read of any other register changes nothing. -/
theorem State.readWord_unlatched {s : State} {a : Nat} (h : PlainRead a) (hl : (s.latches.find? fun e => e.1.at 0 0 == a) = none) :
    s.readWord a = (s.viewWord a, s) := by
  obtain ⟨h1, h2, h3, h4⟩ := h
  unfold State.readWord
  rw [if_neg h1, if_neg h2, if_neg (by simp [h3, h4])]
  simp only [hl]

theorem State.readAt_aligned {s : State} {size off a : Nat} (h : (size = 1 ∨ size = 2 ∨ size = 4) ∧ off < 4 ∧ off % size = 0)
    (ha : 4 ∣ a) :
    s.readAt size (a + off) = ((s.readWord a).1 / 2 ^ (8 * off) % 2 ^ (8 * size), (s.readWord a).2) := by
  obtain ⟨b, rfl⟩ := ha
  obtain ⟨hsize, hoff, hdvd⟩ := h
  have hal : (4 * b + off) % size = 0 := by rcases hsize with rfl | rfl | rfl <;> omega
  unfold State.readAt
  rw [if_pos ⟨hsize, hal⟩, show (4 * b + off) / 4 * 4 = 4 * b by omega, show (4 * b + off) % 4 = off by omega]

theorem State.readAt_unaligned {s : State} {size off a : Nat} (h : 1 ≤ size ∧ size ≤ 4 ∧ off < 4 ∧ (size = 3 ∨ off % size ≠ 0))
    (ha : 4 ∣ a) : s.readAt size (a + off) = (0, s) := by
  obtain ⟨b, rfl⟩ := ha
  unfold State.readAt
  rw [if_neg]
  rintro ⟨rfl | rfl | rfl, hal⟩ <;> omega

/-- What a host read by `size` bytes at `off` of a register puts out, once the read has given `v` and left `u`. -/
theorem effect_hostRead {c : Instr} {port size off : Nat} {r : Reg} {s u : State} {v : Nat} {P : State → Prop}
    (he : exec c s = hostRead port size off r s) (hr : s.readAt size (r.at 0 0 + off) = (v, u))
    (hP : P (s.after s.now (u.put (.readData (r.at 0 0 + off) size v)))) :
    Effect c s (s.powered = true ∧ port = s.privPort) P := by
  refine effect_actWhen he (by simp) fun _ => ?_
  rw [hr]
  exact hP

/-- A read of a word without a latch puts out its bytes and reaches nothing else. -/
theorem read_effect {s : State} (a size v : Nat) (t : State) (ht : t = s.after s.now (s.put (.readData a size v))) :
    t.out = .readData a size v :: s.out ∧ OnlyRegs [] s t ∧ KeepsAll s t := by
  subst ht
  refine ⟨?_, (onlyRegs_of_eq _ ?_).after, (keepsAll_put s _).after s s.now⟩
  · rw [State.after_out, State.out_put rfl]
  · simp

/-- A read of a word with a latch puts out its bytes, sets the upper field, and reaches nothing else. -/
theorem latch_effect {s : State} (a size v : Nat) (f : Field) (hi : Nat) (t : State)
    (ht : t = s.after s.now ((s.set f hi).put (.readData a size v))) (hf : f.reg.has 0 0 = true) (hk : f.key 0 0 ∉ shownKeys)
    (hw : hi < 2 ^ f.width) :
    t.out = .readData a size v :: s.out ∧ t.get f = hi ∧ OnlyRegs [f.key 0 0] s t ∧ KeepsAll s t := by
  subst ht
  have hregs : ((s.set f hi).put (.readData a size v)).regs = (s.set f hi).regs := State.put_regs _ _
  refine ⟨?_, ?_, OnlyRegs.after fun k hk hs => ?_, (keepsAll_set_put s f hi 0 0 _).after s s.now⟩
  · rw [State.after_out, State.out_put rfl, State.set_out]
  · rw [State.get_after _ _ _ _ _ _ hk, State.get_of_regs hregs, State.get_set _ _ _ _ _ hf, Nat.mod_eq_of_lt hw]
  · rw [hregs]
    exact onlyRegs_set s f hi 0 0 k hk hs

theorem State.readWord_uptimeLo (s : State) :
    s.readWord (rGLB_UPTIME_LO.at 0 0) = (s.now % 2 ^ 32, s.set GLB_UPTIME_HI (s.now / 2 ^ 32 % 2 ^ 32)) :=
  (State.readWord_latched (by decide +kernel) rfl).trans (by rw [s.viewWord_uptimeLo])

theorem State.readWord_recTotalLo (s : State) :
    s.readWord (rTLG_REC_TOTAL_LO.at 0 0) = (s.lateTotal % 2 ^ 32, s.set TLG_REC_TOTAL_HI (s.lateTotal / 2 ^ 32 % 2 ^ 32)) :=
  (State.readWord_latched (by decide +kernel) rfl).trans (by rw [s.viewWord_recTotalLo])

theorem State.readWord_ckptNumLo (s : State) :
    s.readWord (rXLT_CKPT_NUM_LO.at 0 0) = (s.xl.last.num % 2 ^ 32, s.set XLT_CKPT_NUM_HI (s.xl.last.num / 2 ^ 32 % 2 ^ 32)) :=
  (State.readWord_latched (by decide +kernel) rfl).trans (by rw [s.viewWord_ckptNumLo])

theorem State.readWord_cfgSeqLo {s : State} {c : CfgCopy} (h : s.cfgInUse = some c) :
    s.readWord (rFWC_CFG_SEQ_LO.at 0 0) = (c.seq % 2 ^ 32, s.set FWC_CFG_SEQ_HI (c.seq / 2 ^ 32 % 2 ^ 32)) :=
  (State.readWord_latched (by decide +kernel) rfl).trans (by rw [State.viewWord_cfgSeqLo h, h])

theorem State.readWord_firstTsLo (s : State) : s.readWord (rFCL_FIRST_TS_LO.at 0 0) = (s.get FCL_FIRST_TS_LO, s) :=
  (State.readWord_unlatched (by decide +kernel) rfl).trans (by rw [s.viewWord_firstTsLo])

-- the rows

theorem row_uptimeLoRead (port size off : Nat) (s : State) : Rows.uptimeLoRead port size off s := fun h =>
  effect_hostRead rfl ((State.readAt_aligned h (by decide)).trans (by rw [s.readWord_uptimeLo]))
    (latch_effect _ _ _ _ _ _ rfl rfl (by decide) (Nat.mod_lt _ (by decide)))

theorem row_uptimeLoRead_unaligned (port size off : Nat) (s : State) : Rows.uptimeLoRead_unaligned port size off s := fun h =>
  effect_hostRead rfl (State.readAt_unaligned h (by decide)) (read_effect _ _ _ _ rfl)

theorem row_recTotalLoRead (port size off : Nat) (s : State) : Rows.recTotalLoRead port size off s := fun h =>
  effect_hostRead rfl ((State.readAt_aligned h (by decide)).trans (by rw [s.readWord_recTotalLo]))
    (latch_effect _ _ _ _ _ _ rfl rfl (by decide) (Nat.mod_lt _ (by decide)))

theorem row_ckptNumLoRead (port size off : Nat) (s : State) : Rows.ckptNumLoRead port size off s := fun h =>
  effect_hostRead rfl ((State.readAt_aligned h (by decide)).trans (by rw [s.readWord_ckptNumLo]))
    (latch_effect _ _ _ _ _ _ rfl rfl (by decide) (Nat.mod_lt _ (by decide)))

theorem row_cfgSeqLoRead (port size off : Nat) (c : CfgCopy) (s : State) : Rows.cfgSeqLoRead port size off c s := fun ⟨h, hc⟩ =>
  effect_hostRead rfl ((State.readAt_aligned h (by decide)).trans (by rw [State.readWord_cfgSeqLo hc]))
    (latch_effect _ _ _ _ _ _ rfl rfl (by decide) (Nat.mod_lt _ (by decide)))

theorem row_firstTsLoRead (port size off : Nat) (s : State) : Rows.firstTsLoRead port size off s := fun h => by
  have hlt : s.get FCL_FIRST_TS_LO < 2 ^ 32 := State.get_lt s FCL_FIRST_TS_LO 0 0
  rw [Nat.mod_eq_of_lt hlt]
  exact effect_hostRead rfl ((State.readAt_aligned h (by decide)).trans (by rw [s.readWord_firstTsLo])) (read_effect _ _ _ _ rfl)

end Sys2Proof.Machine
end

section
/-!
SUPPORT. Writes of the control window by the host (R8 to R10, R425): which fields a write reaches, what each access code sets, when a
changed field asks for a commit, and what a write leaves standing; the write of AQA through the first BAR.
-/

namespace Sys2Proof.Machine

-- the fields at an address

theorem mem_fieldsAt {f : Field} {i j a : Nat} :
    (f, i, j) ∈ fieldsAt a ↔ f ∈ allFields ∧ f.reg.has i j = true ∧ f.reg.at i j = a := by
  simp only [fieldsAt, List.mem_filterMap, Option.map_eq_some_iff, Prod.mk.injEq, Prod.exists]
  constructor
  · rintro ⟨g, hg, k, l, hl, rfl, rfl, rfl⟩
    exact ⟨hg, Reg.locate_sound hl⟩
  · rintro ⟨hf, hi, rfl⟩
    exact ⟨f, hf, i, j, (allFields_tidy f hf).1.locate_at hi, rfl, rfl, rfl⟩

theorem allFields_nodup : allFields.Nodup := by
  refine allFields_apart.imp_of_mem fun {f g} hf _ h => ?_
  rintro rfl
  have hw := (allFields_tidy f hf).2.1
  rcases h with h | ⟨-, h⟩
  · unfold Reg.Apart Reg.spanEnd Reg.laneEnd at h
    omega
  · omega

theorem fieldsAt_nodup (a : Nat) : (fieldsAt a).Nodup := by
  refine allFields_nodup.filterMap fun f g x hf hg => ?_
  obtain ⟨_, -, rfl⟩ := Option.map_eq_some_iff.1 hf
  obtain ⟨_, -, e⟩ := Option.map_eq_some_iff.1 hg
  exact (congrArg Prod.fst e).symm

-- one field

/-- What a write of the word `w` makes of the value `old` of a field, by its access code (R9). -/
def Field.afterWrite (f : Field) (i w old : Nat) : Nat :=
  match f.acc with
  | .rw => f.part w
  | .rwx => if i = 0 then old else f.part w
  | .rw1c => old - (old &&& f.part w)
  | .rw1s => old ||| f.part w
  | .ro | .wo | .cnt | .rwv => old

theorem Field.part_lt (f : Field) (w : Nat) : f.part w < 2 ^ f.width := Nat.mod_lt _ (Nat.two_pow_pos _)

theorem State.get_writeField (s : State) {f : Field} {i j : Nat} (w : Nat) (h : f.reg.has i j = true) :
    (s.writeField f i j w).get f i j = f.afterWrite i w (s.get f i j) := by
  have hp := f.part_lt w
  have hg := State.get_lt s f i j
  have hset (v : Nat) (hv : v < 2 ^ f.width) : (s.set f v i j).get f i j = v := (State.get_set s f v i j h).trans (Nat.mod_eq_of_lt hv)
  unfold State.writeField Field.afterWrite
  cases f.acc with
  | rw => exact hset _ hp
  | rwx =>
    simp only
    split
    · rfl
    · exact hset _ hp
  | rw1c => exact hset _ (Nat.lt_of_le_of_lt (Nat.sub_le _ _) hg)
  | rw1s => exact hset _ (Nat.or_lt_two_pow hg hp)
  | ro | wo | cnt | rwv => rfl

/-- A write of a field sets that field or nothing. -/
theorem State.writeField_cases (s : State) (f : Field) (i j w : Nat) :
    s.writeField f i j w = s ∨ ∃ v, s.writeField f i j w = s.set f v i j := by
  unfold State.writeField
  cases f.acc with
  | rw => exact .inr ⟨_, rfl⟩
  | rwx =>
    simp only
    split
    · exact .inl rfl
    · exact .inr ⟨_, rfl⟩
  | rw1c => exact .inr ⟨_, rfl⟩
  | rw1s => exact .inr ⟨_, rfl⟩
  | ro | wo | cnt | rwv => exact .inl rfl

theorem State.get_writeField_ne (s : State) {f g : Field} {i j k l : Nat} (w : Nat) (h : f.key i j ≠ g.key k l) :
    (s.writeField f i j w).get g k l = s.get g k l := by
  rcases s.writeField_cases f i j w with e | ⟨v, e⟩
  · rw [e]
  · rw [e, State.get_set_ne _ _ _ _ _ _ _ _ h]

-- the fields of a word

/-- Each field of a list is written, in order. -/
abbrev State.writeFields (s : State) (l : List (Field × Nat × Nat)) (w : Nat) : State :=
  s.each l fun x t => t.writeField x.1 x.2.1 x.2.2 w

/-- Of the fields of a list, each written once, every one has what its access code makes of its value before; no other changes. -/
theorem State.get_writeFields {f : Field} {i j : Nat} (w : Nat) (hf : f ∈ allFields) (hi : f.reg.has i j = true)
    (l : List (Field × Nat × Nat)) (hl : l.Nodup) (hx : ∀ x ∈ l, x.1 ∈ allFields ∧ x.1.reg.has x.2.1 x.2.2 = true) (s : State) :
    (s.writeFields l w).get f i j = if (f, i, j) ∈ l then f.afterWrite i w (s.get f i j) else s.get f i j := by
  induction l generalizing s with
  | nil => rfl
  | cons x t ih =>
    obtain ⟨hxt, ht⟩ := List.nodup_cons.1 hl
    have hrest : ((s.writeField x.1 x.2.1 x.2.2 w).writeFields t w).get f i j = _ :=
      ih ht (fun y hy => hx y (List.mem_cons_of_mem _ hy)) (s.writeField x.1 x.2.1 x.2.2 w)
    refine Eq.trans hrest ?_
    by_cases e : x = (f, i, j)
    · subst e
      rw [if_neg hxt, if_pos List.mem_cons_self, State.get_writeField s w hi]
    · have hk : x.1.key x.2.1 x.2.2 ≠ f.key i j :=
        Field.key_ne (hx x List.mem_cons_self).1 hf (hx x List.mem_cons_self).2 hi e
      rw [State.get_writeField_ne s w hk]
      have : ((f, i, j) ∈ x :: t) ↔ (f, i, j) ∈ t := by simp [Ne.symm e]
      simp only [this]

-- what a write leaves standing

/-- Nothing but registers, unchecked host errors and the firmware store's own state has changed. -/
def WindowOnly (s t : State) : Prop := ∃ r u w, t = { s with regs := r, unbound := u, fw := w }

theorem WindowOnly.refl (s : State) : WindowOnly s s := ⟨_, _, _, rfl⟩

theorem WindowOnly.trans {s t u : State} (h : WindowOnly s t) (g : WindowOnly t u) : WindowOnly s u := by
  obtain ⟨_, _, _, rfl⟩ := h
  obtain ⟨_, _, _, rfl⟩ := g
  exact ⟨_, _, _, rfl⟩

theorem windowOnly_set (s : State) (f : Field) (v i j : Nat) : WindowOnly s (s.set f v i j) := by
  unfold State.set
  split
  · exact ⟨_, _, _, rfl⟩
  · exact .refl s

theorem windowOnly_setUnbound (s : State) (u : Unbound) (c : Bool) : WindowOnly s (s.setUnbound u c) := by
  unfold State.setUnbound State.unbind
  split
  · split
    · exact .refl s
    · exact ⟨_, _, _, rfl⟩
  · exact ⟨_, _, _, rfl⟩

theorem windowOnly_judgeRsv (s : State) (a : Nat) (fs : List (Field × Nat × Nat)) (w : Nat) : WindowOnly s (s.judgeRsv a fs w) := by
  unfold State.judgeRsv
  split
  · split
    · exact windowOnly_setUnbound s _ true
    · exact .refl s
  · exact windowOnly_setUnbound s _ _

theorem windowOnly_writeField (s : State) (f : Field) (i j w : Nat) : WindowOnly s (s.writeField f i j w) := by
  rcases s.writeField_cases f i j w with e | ⟨v, e⟩ <;> rw [e]
  · exact .refl s
  · exact windowOnly_set s f v i j

theorem windowOnly_writeFields (l : List (Field × Nat × Nat)) (w : Nat) (s : State) : WindowOnly s (s.writeFields l w) := by
  induction l generalizing s with
  | nil => exact .refl s
  | cons x t ih => exact (windowOnly_writeField s x.1 x.2.1 x.2.2 w).trans (ih _)

theorem windowOnly_askCommit (s : State) : WindowOnly s s.askCommit :=
  WindowOnly.trans ⟨_, _, _, rfl⟩ (windowOnly_set _ FWC_CFGREC_PEND 1 0 0)

theorem WindowOnly.keeps {s t : State} (h : WindowOnly s t) :
    KeepsHost s t ∧ KeepsMedia s t ∧ KeepsPower s t ∧ KeepsFaults s t ∧ t.mm = s.mm ∧ t.mg = s.mg ∧ t.fb = s.fb ∧ t.tp = s.tp := by
  obtain ⟨_, _, _, rfl⟩ := h
  simp [KeepsHost, KeepsMedia, KeepsPower, KeepsFaults]

-- a whole word

/-- The state once a written word has been judged and its fields are set, before a commit is asked for. -/
def State.wordSet (s : State) (a w : Nat) : State := (s.judgeRsv a (fieldsAt a) w).writeFields (fieldsAt a) w

theorem windowOnly_wordSet (s : State) (a w : Nat) : WindowOnly s (s.wordSet a w) :=
  (windowOnly_judgeRsv s a _ w).trans (windowOnly_writeFields _ w _)

/-- The address of a register, no delay-table word, whose write sets nothing in motion. -/
abbrev PlainWrite (a : Nat) : Prop := (∀ e ∈ writeActs, e.1.locate a = none) ∧ rFSQ_DQDLY.locate a = none

theorem State.writeWord_plain {s : State} {a w : Nat} (h : PlainWrite a) (hne : fieldsAt a ≠ []) (hw : w < 2 ^ 32) :
    s.writeWord a w =
      if (s.wordSet a w).heldIn (fieldsAt a) = s.heldIn (fieldsAt a) then s.wordSet a w else (s.wordSet a w).askCommit := by
  obtain ⟨hact, hq⟩ := h
  have hnone : (writeActs.findSome? fun e => (e.1.locate a).map fun x => (e.2, x.1)) = none :=
    findSome_locate_none (fun v x => (v, x.1)) fun r hr => by
      obtain ⟨e, he, rfl⟩ := List.mem_map.1 hr
      exact hact e he
  unfold State.writeWord
  simp only [hq, Option.isSome_none, Bool.false_eq_true, if_false, List.isEmpty_iff, hne, Nat.mod_eq_of_lt hw, hnone]
  rfl

theorem State.writeWord_noRegister {s : State} {a w : Nat} (h : fieldsAt a = []) (hq : rFSQ_DQDLY.locate a = none) :
    s.writeWord a w = s := by
  unfold State.writeWord
  simp only [hq, h, Option.isSome_none, Bool.false_eq_true, if_false, List.isEmpty_nil, if_true]

/-- A property of the state that asking for a commit keeps holds after a write if it holds once the fields are set. -/
theorem State.writeWord_of_wordSet {s : State} {a w : Nat} (h : PlainWrite a) (hne : fieldsAt a ≠ []) (hw : w < 2 ^ 32)
    (P : State → Prop) (hp : P (s.wordSet a w)) (hc : ∀ t, P t → P t.askCommit) : P (s.writeWord a w) := by
  rw [State.writeWord_plain h hne hw]
  split
  · exact hp
  · exact hc _ hp

theorem windowOnly_writeWord {s : State} {a w : Nat} (h : PlainWrite a) (hne : fieldsAt a ≠ []) (hw : w < 2 ^ 32) :
    WindowOnly s (s.writeWord a w) :=
  State.writeWord_of_wordSet h hne hw (WindowOnly s) (windowOnly_wordSet s a w) fun t ht => ht.trans (windowOnly_askCommit t)

/-- A write leaves the unchecked host errors that judging its RSV bits leaves. -/
theorem State.writeWord_unbound {s : State} {a w : Nat} (h : PlainWrite a) (hne : fieldsAt a ≠ []) (hw : w < 2 ^ 32) :
    (s.writeWord a w).unbound = (s.judgeRsv a (fieldsAt a) w).unbound := by
  have hset : (s.wordSet a w).unbound = (s.judgeRsv a (fieldsAt a) w).unbound :=
    State.each_keeps (·.unbound) _ (fun x t => by
      rcases t.writeField_cases x.1 x.2.1 x.2.2 w with e | ⟨v, e⟩
      · rw [e]
      · rw [e, State.set_unbound]) _ _
  exact State.writeWord_of_wordSet h hne hw (·.unbound = _) hset fun t ht => by simpa [State.askCommit] using ht

theorem State.get_judgeRsv (s : State) (a : Nat) (fs : List (Field × Nat × Nat)) (w : Nat) (f : Field) (i j : Nat) :
    (s.judgeRsv a fs w).get f i j = s.get f i j := by
  refine State.get_of_regs ?_ f i j
  unfold State.judgeRsv
  split
  · split
    · exact State.unbind_regs s _
    · rfl
  · exact State.setUnbound_regs s _ _

theorem State.get_wordSet (s : State) {f : Field} {i j : Nat} (w : Nat) (hf : f ∈ allFields) (hi : f.reg.has i j = true) :
    (s.wordSet (f.reg.at i j) w).get f i j = f.afterWrite i w (s.get f i j) := by
  unfold State.wordSet
  rw [State.get_writeFields w hf hi _ (fieldsAt_nodup _) fun x hx => ?_, if_pos (mem_fieldsAt.2 ⟨hf, hi, rfl⟩), State.get_judgeRsv]
  obtain ⟨hx, hk, -⟩ := mem_fieldsAt.1 hx
  exact ⟨hx, hk⟩

theorem State.get_askCommit_ne (s : State) {f : Field} {i j : Nat} (h : f.key i j ≠ FWC_CFGREC_PEND.key 0 0) :
    s.askCommit.get f i j = s.get f i j :=
  (State.get_set_ne _ _ _ _ _ _ _ _ h.symm).trans (State.get_of_regs rfl f i j)

/-- A field reads after a write as its access code has it, but for the two fields a command's end shows anew and the one that a commit
asked for sets. -/
theorem State.get_writeWord {s : State} {f : Field} {i j w : Nat} (h : PlainField f i j) (hw : w < 2 ^ 32)
    (hs : f.key i j ∉ shownKeys) (hp : f.key i j ≠ FWC_CFGREC_PEND.key 0 0) :
    (s.after s.now (s.writeWord (f.reg.at i j) w)).get f i j = f.afterWrite i w (s.get f i j) := by
  obtain ⟨hf, hi, hact, hq⟩ := h
  have hne : fieldsAt (f.reg.at i j) ≠ [] := List.ne_nil_of_mem (mem_fieldsAt.2 ⟨hf, hi, rfl⟩)
  rw [State.get_after _ _ _ _ _ _ hs]
  exact State.writeWord_of_wordSet ⟨hact, hq⟩ hne hw (·.get f i j = _) (State.get_wordSet s w hf hi) fun t ht =>
    (State.get_askCommit_ne t hp).trans ht

theorem shown_and_pend_mem_allFields : QEN_CTX_USED ∈ allFields ∧ QEN_CTX_PEAK ∈ allFields ∧ FWC_CFGREC_PEND ∈ allFields := by decide +kernel

/-- The fields that a command's end or a commit asked for sets are RO. -/
theorem Field.key_unshared {f : Field} {i j : Nat} (hf : f ∈ allFields) (hi : f.reg.has i j = true) (ha : f.acc ≠ .ro) :
    f.key i j ∉ shownKeys ∧ f.key i j ≠ FWC_CFGREC_PEND.key 0 0 := by
  obtain ⟨hu, hp, hc⟩ := shown_and_pend_mem_allFields
  have key (g : Field) (hg : g ∈ allFields) (hk : g.reg.has 0 0 = true) (hro : g.acc = .ro) : f.key i j ≠ g.key 0 0 := by
    refine Field.key_ne hf hg hi hk fun e => ha ?_
    rw [(Prod.mk.inj e).1, hro]
  refine ⟨?_, key _ hc rfl rfl⟩
  simp only [shownKeys, List.mem_cons, List.not_mem_nil, or_false, not_or]
  exact ⟨key _ hu rfl rfl, key _ hp rfl rfl⟩

/-- A write that changes a field of the configuration record asks for a commit (R425). -/
theorem State.writeWord_again {s : State} {f : Field} {i j w : Nat} (h : PlainField f i j) (hw : w < 2 ^ 32) (hr : inRecord f = true)
    (hc : f.afterWrite i w (s.get f i j) ≠ s.get f i j) : (s.writeWord (f.reg.at i j) w).fw.again = true := by
  obtain ⟨hf, hi, hact, hq⟩ := h
  have hmem : (f, i, j) ∈ fieldsAt (f.reg.at i j) := mem_fieldsAt.2 ⟨hf, hi, rfl⟩
  rw [State.writeWord_plain ⟨hact, hq⟩ (List.ne_nil_of_mem hmem) hw, if_neg]
  · simp [State.askCommit]
  · intro e
    have := List.map_inj_left.1 e (f, i, j) (List.mem_filter.2 ⟨hmem, hr⟩)
    rw [State.get_wordSet s w hf hi] at this
    exact hc this

-- the command

/-- A register write through the window in a bound state. -/
theorem exec_registerWrite_window {s : State} (bound : Bound s) (port size addr value : Nat) :
    exec (.registerWrite port .window size addr value) s =
      .next (s.after s.now (if s.reaches port .window then (if size = 4 ∧ addr % 4 = 0 then s.writeWord addr value else s) else s)) :=
  actRemovingWhen_bound bound _ _

theorem exec_registerWrite_word {s : State} (bound : Bound s) {port addr : Nat} (value : Nat) (hr : s.reaches port .window = true)
    (ha : 4 ∣ addr) : exec (.registerWrite port .window 4 addr value) s = .next (s.after s.now (s.writeWord addr value)) := by
  rw [exec_registerWrite_window bound, if_pos hr, if_pos ⟨rfl, Nat.mod_eq_zero_of_dvd ha⟩]

/-- R8, R33: which writes have no effect is read off the condition; log 6 names the model's part in it. -/
theorem row_registerWrite_discarded (port size addr value : Nat) (s : State) :
    Rows.registerWrite_discarded port size addr value s := by
  intro bound h
  refine ⟨_, exec_registerWrite_window bound port size addr value, ?_⟩
  unfold NoEffect
  congr 1
  rcases h with h | h | h | ⟨h, hq⟩
  · rw [if_neg (by simp [h])]
  · rw [if_neg (c := size = 4 ∧ addr % 4 = 0) (fun g => h g.1), ite_self]
  · rw [if_neg (c := size = 4 ∧ addr % 4 = 0) (fun g => h g.2), ite_self]
  · rw [State.writeWord_noRegister h hq, ite_self, ite_self]

theorem row_registerWrite_field (f : Field) (port i j value : Nat) (s : State) : Rows.registerWrite_field f port i j value s := by
  rintro bound ⟨hr, hplain, hw⟩
  have ⟨hf, hi, hact, hq⟩ := hplain
  have hne : fieldsAt (f.reg.at i j) ≠ [] := List.ne_nil_of_mem (mem_fieldsAt.2 ⟨hf, hi, rfl⟩)
  refine ⟨_, exec_registerWrite_word bound value hr ((allFields_tidy f hf).1.dvd_at i j), ?_⟩
  have hget (ha : f.acc ≠ .ro) : (s.after s.now (s.writeWord (f.reg.at i j) value)).get f i j = f.afterWrite i value (s.get f i j) :=
    have ⟨hs, hp⟩ := Field.key_unshared hf hi ha
    State.get_writeWord hplain hw hs hp
  obtain ⟨hhost, hmedia, hpower, hfaults, hmm, hmg, hfb, htp⟩ :=
    (windowOnly_writeWord (s := s) ⟨hact, hq⟩ hne hw).keeps
  refine ⟨fun ha => ?_, fun ha => ?_, fun ha => ?_, fun ha hs hp => ?_, fun ha _ hrec hc => ?_, hhost.after s s.now, hmedia.after s s.now,
    hpower.after s s.now, hfaults.after s s.now, by simpa using hmm, by simpa using hmg, by simpa using hfb, by simpa using htp⟩
  · rw [hget (by simp [ha])]
    simp [Field.afterWrite, ha, Field.part]
  · rw [hget (by simp [ha])]
    simp [Field.afterWrite, ha, Field.part]
  · rw [hget (by simp [ha])]
    simp [Field.afterWrite, ha, Field.part]
  · rw [State.get_writeWord hplain hw hs hp]
    simp [Field.afterWrite, ha]
  · rw [State.after_fw]
    rw [hget (by simp [ha])] at hc
    exact State.writeWord_again hplain hw hrec hc

-- MGI.CFG

theorem fieldsAt_mgiCfg :
    fieldsAt (rMGI_CFG.at 0 0) = [(MGI_CFG_SMB_EN, 0, 0), (MGI_CFG_I3C_EN, 0, 0), (MGI_CFG_SMB_ADDR, 0, 0)] := by decide +kernel

theorem plainWrite_mgiCfg : PlainWrite (rMGI_CFG.at 0 0) := by decide +kernel

theorem fieldsAt_mgiCfg_ne : fieldsAt (rMGI_CFG.at 0 0) ≠ [] := by simp [fieldsAt_mgiCfg]

/-- Bits 9 to 31 of MGI.CFG are RSV. -/
theorem rsvHit_mgiCfg {w : Nat} (hw : w < 2 ^ 32) : rsvHit (fieldsAt (rMGI_CFG.at 0 0)) w = decide (2 ^ 9 ≤ w) := by
  have hcover : ∀ b < 32, ((fieldsAt (rMGI_CFG.at 0 0)).any fun x => x.1.lsb ≤ b && b < x.1.lsb + x.1.width) = decide (b < 9) := by
    rw [fieldsAt_mgiCfg]
    decide
  rw [Bool.eq_iff_iff, decide_eq_true_iff]
  unfold rsvHit
  rw [List.any_eq_true]
  constructor
  · rintro ⟨b, hb, h⟩
    rw [hcover b (List.mem_range.1 hb), bit_eq_testBit] at h
    by_contra hlt
    have h9 : 9 ≤ b := by simpa using (Bool.and_eq_true_iff.1 h).2
    rw [Nat.testBit_lt_two_pow (Nat.lt_of_lt_of_le (Nat.lt_of_not_le hlt) (Nat.pow_le_pow_right (by decide) h9))] at h
    simp at h
  · intro h
    obtain ⟨b, hb, ht⟩ := Nat.exists_ge_and_testBit_of_ge_two_pow h
    have hlt : b < 32 := by
      by_contra hge
      rw [Nat.testBit_lt_two_pow (Nat.lt_of_lt_of_le hw (Nat.pow_le_pow_right (by decide) (Nat.le_of_not_lt hge)))] at ht
      cases ht
    refine ⟨b, List.mem_range.2 hlt, ?_⟩
    rw [hcover b hlt, bit_eq_testBit, ht]
    simpa using hb

/-- Recording or removing a case in a bound state leaves that one case or none. -/
theorem State.setUnbound_of_bound {s : State} (bound : Bound s) (u : Unbound) (c : Bool) :
    (s.setUnbound u c).unbound = if c then [u] else [] := by
  have hnil : s.unbound = [] := bound
  cases c <;> simp [State.setUnbound, State.unbind, State.bind, hnil]

/-- After a write of MGI.CFG in a bound state the one case present, if any, is that of its RSV bits. -/
theorem State.unbound_mgiCfg {s : State} (bound : Bound s) {w : Nat} (hw : w < 2 ^ 32) :
    (s.writeWord (rMGI_CFG.at 0 0) w).unbound = if 2 ^ 9 ≤ w then [.rsv (rMGI_CFG.at 0 0)] else [] := by
  have hwo : woOnly (fieldsAt (rMGI_CFG.at 0 0)) = false := by rw [fieldsAt_mgiCfg]; decide
  rw [State.writeWord_unbound plainWrite_mgiCfg fieldsAt_mgiCfg_ne hw]
  unfold State.judgeRsv
  rw [hwo, if_neg Bool.false_ne_true, rsvHit_mgiCfg hw, State.setUnbound_of_bound bound]
  simp only [decide_eq_true_eq]

theorem plainField_mgiCfg : ∀ x ∈ fieldsAt (rMGI_CFG.at 0 0), PlainField x.1 x.2.1 x.2.2 := by
  rw [fieldsAt_mgiCfg]
  decide +kernel

theorem row_registerWrite_taken (port value : Nat) (s : State) : Rows.registerWrite_taken port value s := by
  rintro bound ⟨hr, hv⟩
  have hw : value < 2 ^ 32 := by omega
  have hplain := plainField_mgiCfg
  rw [fieldsAt_mgiCfg] at hplain
  obtain ⟨hsmb, hi3c, haddr⟩ : PlainField MGI_CFG_SMB_EN 0 0 ∧ PlainField MGI_CFG_I3C_EN 0 0 ∧ PlainField MGI_CFG_SMB_ADDR 0 0 := by
    simpa using hplain
  have hget (f : Field) (hf : PlainField f 0 0) (ha : f.acc = .rw) :
      (s.after s.now (s.writeWord (f.reg.at 0 0) value)).get f = value / 2 ^ f.lsb % 2 ^ f.width := by
    have ⟨hmem, hhas, _⟩ := hf
    obtain ⟨hs, hp⟩ := Field.key_unshared hmem hhas (by simp [ha])
    rw [State.get_writeWord hf hw hs hp]
    simp [Field.afterWrite, ha, Field.part]
  obtain ⟨hhost, hmedia, hpower, -⟩ := (windowOnly_writeWord (s := s) plainWrite_mgiCfg fieldsAt_mgiCfg_ne hw).keeps
  refine ⟨_, exec_registerWrite_word bound value hr (by decide), ?_, ?_, ?_, ?_, hhost.after s s.now, hmedia.after s s.now,
    hpower.after s s.now⟩
  · exact (hget _ hsmb rfl).trans (by simp [MGI_CFG_SMB_EN])
  · exact (hget _ hi3c rfl).trans (by simp [MGI_CFG_I3C_EN])
  · exact (hget _ haddr rfl).trans (by simp [MGI_CFG_SMB_ADDR])
  · unfold Bound
    rw [State.after_unbound, State.unbound_mgiCfg bound hw, if_neg (by omega)]

theorem row_registerWrite_reserved (port value : Nat) (s : State) : Rows.registerWrite_reserved port value s := by
  rintro bound ⟨hr, hv, hw⟩
  have hu : (s.after s.now (s.writeWord (rMGI_CFG.at 0 0) value)).unbound = [.rsv (rMGI_CFG.at 0 0)] := by
    rw [State.after_unbound, State.unbound_mgiCfg bound hw, if_pos hv]
  refine ⟨_, exec_registerWrite_word bound value hr (by decide), hu, fun h => ?_⟩
  rw [Bound, hu] at h
  cases h

-- AQA

theorem State.port_modPort (s : State) (p : Nat) (g : Port → Port) : (s.modPort p g).port p = g (s.port p) := by
  unfold State.modPort State.port
  split <;> rfl

theorem State.port_after (s t : State) (n p : Nat) : (s.after n t).port p = t.port p := by
  simp [State.port]

theorem exec_registerWrite_aqa {s : State} (bound : Bound s) {port value : Nat} (hr : s.reaches port .bar0 = true) (hv : value < 2 ^ 32) :
    exec (.registerWrite port .bar0 4 0x24 value) s = .next (s.after s.now (s.modPort port fun pt => { pt with aqa := value })) := by
  refine (actRemovingWhen_bound bound _ _).trans ?_
  rw [if_pos hr, Nat.mod_eq_of_lt hv]
  rfl

theorem row_registerWrite_aqa (port value : Nat) (s : State) : Rows.registerWrite_aqa port value s := by
  rintro bound ⟨hr, hv⟩
  refine ⟨_, exec_registerWrite_aqa bound hr hv, ?_, OnlyRegs.after (onlyRegs_of_eq _ (State.modPort_regs s port _)), ?_, ?_, ?_, ?_,
    KeepsMedia.after ?_ s s.now, KeepsPower.after ?_ s s.now, KeepsService.after ?_ s s.now, KeepsFaults.after ?_ s s.now⟩
  · rw [State.port_after, State.port_modPort]
  all_goals simp [KeepsMedia, KeepsPower, KeepsService, KeepsFaults]

/-- Settles O1: the order of the latches rests on log 13, the write that has no effect on log 6. -/
theorem controlWindowReadsAndWrites : Obligations.ControlWindowReadsAndWrites :=
  ⟨row_uptimeLoRead, row_uptimeLoRead_unaligned, row_recTotalLoRead, row_ckptNumLoRead, row_firstTsLoRead, row_cfgSeqLoRead,
   row_registerWrite_discarded, row_registerWrite_taken, row_registerWrite_reserved, row_registerWrite_aqa, row_registerWrite_field⟩

end Sys2Proof.Machine
end

section
/-!
SUPPORT. When the always-on counter moves: a command leaves it where its form says, and an empty queue counts one while AO is powered
(R27, R290). That a command takes no time, and a step without one takes a count, is the model's choice (log 1).
-/

namespace Sys2Proof.Machine

/-- A command that ends has left the always-on counter at the value of its form. -/
theorem now_of_actTo {n : Nat} {s t : State} {f : State → State} (h : actTo n s f = .next t) : t.now = n := by
  unfold actTo at h
  split at h
  · cases h
    exact State.after_now s n (f s)
  · cases h

theorem now_of_actRemovingTo {n : Nat} {s t : State} {f : State → State} (h : actRemovingTo n s f = .next t) : t.now = n := by
  unfold actRemovingTo at h
  split at h
  · cases h
    exact State.after_now s n (f s)
  · cases h

/-- Settles O49: every form but that of the AO power-on reset puts the counter back to where it stood (log 1). -/
theorem onlyIdlingMovesTime : Obligations.OnlyIdlingMovesTime := by
  intro c s t h
  by_cases hc : c = .aoPowerOnReset
  · subst hc
    obtain ⟨f, e⟩ := form_aoPowerOnReset s
    rw [if_pos rfl]
    exact now_of_actRemovingTo (e.symm.trans h)
  · rw [if_neg hc]
    cases hm : mayRemove c with
    | false =>
      obtain ⟨f, e⟩ := exec_plain c s hm
      exact now_of_actTo (e.symm.trans h)
    | true =>
      obtain ⟨n, f, e, hn⟩ := exec_removing c s hm
      exact (now_of_actRemovingTo (e.symm.trans h)).trans (hn.resolve_right hc)

-- idling

theorem step_of_empty {s : State} (h : s.pending = []) : step s = .next (idle s) := by
  unfold step
  rw [h]

/-- While AO is not powered, idling changes nothing. -/
theorem idle_unpowered {s : State} (h : s.pw.ao = false) : idle s = s := by
  simp [idle, h]

/-- While AO is powered, idling ends as a command does, with the counter one further. -/
theorem idle_powered {s : State} (h : s.pw.ao = true) :
    ∃ r u : State, r.pending = s.pending ∧ idle s = r.after (s.now + 1) u := by
  unfold idle
  rw [if_neg (by simp [h])]
  refine ⟨_, _, ?_, rfl⟩
  split <;> rfl

theorem idle_now {s : State} (h : s.pw.ao = true) : (idle s).now = s.now + 1 := by
  obtain ⟨r, u, -, e⟩ := idle_powered h
  rw [e, State.after_now]

/-- Idling leaves the queue as it was. -/
theorem idle_pending (s : State) : (idle s).pending = s.pending := by
  cases h : s.pw.ao with
  | false => rw [idle_unpowered h]
  | true =>
    obtain ⟨r, u, hr, e⟩ := idle_powered h
    rw [e, State.after_pending, hr]

/-- Settles O45: that a step with no command waiting is one count of the counter is log 1. -/
theorem emptyQueueIdles : Obligations.EmptyQueueIdles := fun s h =>
  ⟨idle s, step_of_empty h, (idle_pending s).trans h, idle_now, idle_unpowered⟩

end Sys2Proof.Machine
end

section
/-!
SUPPORT. Slice resets and packets of the sideband in states that the statements about them leave in: a reset held by a Detour (R75), an
allocation and a write that wait for buffers (R139). Each statement says more there than the model does, and fails.
-/

namespace Sys2Proof.Machine

-- One proof at a time, as in Tests/Witnesses: each kernel evaluation on a thread of its own would take its stack beside the others'.
set_option Elab.async false

-- slice resets

/-- The end of a slice reset that a Detour holds cannot occur (R75): the command has no effect (log 6). -/
theorem exec_sliceResetComplete_held {s : State} (bound : Bound s) {slice : Nat} (held : s.flag SLM_RSTAT_HELD slice = true) :
    exec (.sliceResetComplete slice) s = .next (s.after s.now s) := by
  show execSliceResetComplete slice s = _
  unfold execSliceResetComplete
  rw [act_bound bound]
  cases s.resets.look slice with
  | none => rfl
  | some r => simp [held]

/-- A reset of slice 0 asked for in SERVICE. -/
def serviceReset : SliceReset := { oldGen := 1, newGen := 2, ranNs := 0, since := none, budget := [] }

/-- In SERVICE with that reset held: a Detour began in SERVICE and was superseded, and only an entry to RUN lets the reset go on (R75). -/
def heldReset : State :=
  { State.reset with pw := { PowerState.reset with ao := true }, md := { ModeState.reset with mode := .service },
                     resets := [(0, serviceReset)] }.set SLM_RSTAT_HELD 1 0

/-- Nothing of the old generation runs in `heldReset`, so that the hold alone keeps the reset from its end. -/
theorem heldReset_drained :
    Bound heldReset ∧ heldReset.inModes [.run, .service] = true ∧ heldReset.resetDrained 0 = true ∧ heldReset.flag SLM_RSTAT_HELD 0 = true := by
  decide +kernel

/-- Refutes O42: its second clause lets every drained reset end in RUN or SERVICE, but one that a Detour holds does not (R75), so no commit
is asked for. -/
theorem not_sliceGenerationsAdvance : ¬ Obligations.SliceGenerationsAdvance := by
  rintro ⟨-, h⟩
  obtain ⟨bound, modes, drained, held⟩ := heldReset_drained
  obtain ⟨t, e, occurs, -⟩ := h 0 serviceReset heldReset (by decide +kernel) bound
  obtain rfl := Host.Outcome.next.inj ((exec_sliceResetComplete_held bound held).symm.trans e)
  obtain ⟨-, -, again, -⟩ := occurs ⟨modes, drained⟩
  rw [State.after_fw] at again
  exact absurd again (by decide +kernel)

-- packets over the sideband

/-- A packet of this node (R430) over the sideband, with tag 1. -/
def sidebandPacket (opc : Nat) (params : List Nat) : Packet :=
  { carrier := 1, origin := 0, bytes := packetOf opc 1 params, replyMax := 0 }

/-- In RUN with the SMBus binding of the sideband enabled. -/
def sidebandRun : State :=
  { State.reset with pw := { PowerState.reset with ao := true }, md := { ModeState.reset with mode := .run } }.set MGI_CFG_SMB_EN 1

theorem exec_resetSlice {s : State} (bound : Bound s) (p : Packet) :
    exec (.resetSlice p) s = .next (s.after s.now (s.packetRow 0x0303 p none none)) :=
  show execResetSlice p s = _ from actRemoving_bound bound fun s => s.packetRow 0x0303 p none none

theorem exec_setSliceBudgets {s : State} (bound : Bound s) (p : Packet) :
    exec (.setSliceBudgets p) s = .next (s.after s.now (s.packetRow 0x0304 p none none)) :=
  show execSetSliceBudgets p s = _ from actRemoving_bound bound fun s => s.packetRow 0x0304 p none none

/-- An allocation of a DRAM buffer for slice 0, in the generation the slice has after reset. -/
def waitingAlloc : BufWait :=
  { pool := 1, owner := ownerWcu, unit := unitOf ownerWcu, slice := 0, internal := false, gen := 1, seq := 0 }

/-- The pool has no buffers, and that allocation waits (R139), as BUFFER_ALLOCATE leaves it. -/
def allocWaits : State := { sidebandRun with pool := { PoolState.reset with waiters := [waitingAlloc] } }

/-- Reset Slice for slice 0. -/
def resetSlice0 : Packet := sidebandPacket 0x0303 [0, 0, 0, 0]

theorem resetSlice0_runs : PacketRuns resetSlice0 0x0303 allocWaits := by decide +kernel

/-- What waits for a buffer in the old generation is withdrawn with the reset. -/
theorem resetSlice0_withdraws_allocation : (allocWaits.packetRow 0x0303 resetSlice0 none none).pool.waiters = [] := by decide +kernel

/-- Refutes O37: its clause on Reset Slice keeps the buffer pool, but the reset withdraws an allocation of the slice's old generation that
waits there. -/
theorem not_packetsThatWait : ¬ Obligations.PacketsThatWait := by
  rintro ⟨-, h, -⟩
  have bound : Bound allocWaits := rfl
  obtain ⟨t, e, -, -, -, -, -, media, -⟩ := h resetSlice0 allocWaits bound ⟨resetSlice0_runs, by decide +kernel⟩
  obtain rfl := Host.Outcome.next.inj ((exec_resetSlice bound resetSlice0).symm.trans e)
  obtain ⟨-, -, -, pool, -⟩ := media
  rw [State.after_pool] at pool
  exact List.cons_ne_nil waitingAlloc [] ((congrArg PoolState.waiters pool).symm.trans resetSlice0_withdraws_allocation)

/-- A write of LBA 0 of namespace 1 for slice 0, admitted at the write cache, that has neither dirty share nor buffers yet. -/
def waitingWrite : Adm :=
  { id := 0, ctx := none, nsid := 1, kind := .write, lba := 0, len := 1, slice := 0, gen := 1, hint := 0, opc := 0, data := [7],
    found := some (0, false), stage := .buffers, why := .share, pairs := [] }

/-- Two DRAM channels with 16 free buffers each and a dirty limit of 1 GiB, and that write waits, since slice 0's budgets are 0. -/
def writeUnbudgeted : State :=
  { sidebandRun with
    ns := [(1, { zoned := false, nsze := zoneSpan, attach0 := true, attach1 := false, writeProtect := false, deleting := none })],
    zn := { ZoneState.reset with adm := [waitingWrite], nextAdm := 1 },
    pool := { PoolState.reset with chans := [0, 1], per := 16 } }
  |>.set DMC_CH_STAT_POP 1 0 |>.set DMC_CH_STAT_POP 1 1 |>.set BPL_SRES 32 1 |>.set WCU_LIMIT_L 1

/-- Set Slice Budgets for slice 0: word 5, the dirty share, 64; word 7, the DRAM buffers, 32; the others 0. -/
def budgets0 : Packet := sidebandPacket 0x0304 ([0, 0, 0, 0] ++ zeros 20 ++ le 4 64 ++ zeros 4 ++ le 4 32 ++ zeros 4)

theorem budgets0_runs : PacketRuns budgets0 0x0304 writeUnbudgeted := by decide +kernel

/-- With the share and the buffers given (R69), the write goes on: its data is queued at both DRAM channels, which held nothing. -/
theorem budgets0_queues_write :
    writeUnbudgeted.mm.chans = [] ∧ ((writeUnbudgeted.packetRow 0x0304 budgets0 none none).mm.chans.map fun e => (e.1, e.2.writes.length)) = [(0, 1), (1, 1)] := by
  decide +kernel

/-- Refutes O36: its clause on Set Slice Budgets keeps the memories, but larger budgets let a write go on that waits for them, and its data
goes to the DRAM channels. -/
theorem not_packetsThatWriteRegisters : ¬ Obligations.PacketsThatWriteRegisters := by
  rintro ⟨-, -, -, -, h, -⟩
  have bound : Bound writeUnbudgeted := by decide +kernel
  obtain ⟨t, e, -, -, -, -, mm, -⟩ := h budgets0 writeUnbudgeted bound budgets0_runs
  obtain rfl := Host.Outcome.next.inj ((exec_setSliceBudgets bound budgets0).symm.trans e)
  rw [State.after_mm] at mm
  obtain ⟨empty, queued⟩ := budgets0_queues_write
  rw [mm, empty] at queued
  exact absurd queued (by decide)

end Sys2Proof.Machine
end

section
/-!
SUPPORT. States in which the waypoint table, the zone engine and the packets do more than the statements about them say: a row that an
earlier soft error hides (R111), a journal record that a rebuild's end lets out while a flush to empty runs (R136, R484), a dump die whose
role goes over to the spare (R253).
-/

namespace Sys2Proof.Machine

-- One proof at a time, as in Tests/Witnesses: each kernel evaluation on a thread of its own would take its stack beside the others'.
set_option Elab.async false

/-- The effect of a command in a bound state in which its event can occur holds of the state it ends in. -/
theorem Effect.of_exec {c : Instr} {s t : State} {occurs : Prop} {P : State → Prop} (h : Effect c s occurs P) (bound : Bound s)
    (he : exec c s = .next t) (ho : occurs) : P t := by
  obtain ⟨u, e, hP, -⟩ := h bound
  obtain rfl := Host.Outcome.next.inj (he.symm.trans e)
  exact hP ho

/-- What is said of a command that completes holds of the state it ends in. -/
theorem Completes.of_exec {c : Instr} {s t : State} {P : State → Prop} (h : Completes c s P) (he : exec c s = .next t) : P t := by
  obtain ⟨u, e, hP⟩ := h
  obtain rfl := Host.Outcome.next.inj (he.symm.trans e)
  exact hP

/-- What a command that acts under a condition comes to, in a bound state that meets it. -/
theorem actWhen_true {s : State} {b : Bool} (bound : Bound s) (hb : b = true) (f : State → State) :
    actWhen s b f = .next (s.after s.now (f s)) := by
  rw [actWhen_bound bound, if_pos hb]

-- the scrub of the waypoint table

theorem exec_wptScrubTick {s : State} (bound : Bound s) (upset : Bool)
    (h : (s.powered && s.mode != .rest && s.flag WPT_CTRL_SCRUB_EN) = true) :
    exec (.wptScrubTick upset) s = .next (s.after s.now (s.wptScrub upset)) :=
  show execWptScrubTick upset s = _ from actWhen_true bound h fun s => s.wptScrub upset

/-- A valid entry that matches every key and names route 1. -/
def openEntry : WptEntry := { key := 0, mask := 0, res := 1, valid := true }

/-- That entry stands in row 0 and in its shadow copy, and a search has met a soft error that keeps row 0 from matching (R111). -/
def hiddenRow : State :=
  { sidebandRun with wpt := { WptState.reset with rows := [(0, openEntry)], shadows := [(0, openEntry)], hidden := [0] } }

/-- The scrub of `hiddenRow` can occur, and no repair has been counted. -/
theorem hiddenRow_scrubs :
    Bound hiddenRow ∧ hiddenRow.powered = true ∧ hiddenRow.mode ≠ .rest ∧ hiddenRow.flag WPT_CTRL_SCRUB_EN = true
      ∧ hiddenRow.get WPT_SCRUB_FIX = 0 := by
  decide +kernel

/-- The scrub writes row 0 anew and counts the repair, though it meets no upset itself. -/
theorem hiddenRow_counts : (hiddenRow.wptScrub false).get WPT_SCRUB_FIX = 1 := by decide +kernel

/-- Refutes O16: its clause on the scrub counts no repair where row and shadow copy hold one entry and no new upset is met, but a row that an
earlier soft error hides from searches is repaired and counted (R111). -/
theorem not_waypointTable : ¬ Obligations.WaypointTable := by
  rintro ⟨-, -, -, -, -, h⟩
  obtain ⟨bound, powered, awake, enabled, before⟩ := hiddenRow_scrubs
  obtain ⟨-, -, -, -, agrees, -⟩ := (h false hiddenRow rfl).of_exec bound
    (exec_wptScrubTick bound false (by simp [powered, awake, enabled])) ⟨powered, awake, enabled⟩
  have same := agrees rfl rfl
  rw [State.get_after _ _ _ _ _ _ (by decide), hiddenRow_counts, before] at same
  exact absurd same (by decide)

-- the end of a rebuild of partial parity

theorem exec_partialParityRebuildEnd {s : State} (bound : Bound s) (found : List (Nat × Nat × NMap Nat))
    (h : (s.flag ZNE_STATUS_RECOMP && s.inModes [.run, .service]) = true) :
    exec (.partialParityRebuildEnd found) s = .next (s.after s.now (s.recompEnd found)) :=
  show execPartialParityRebuildEnd found s = _ from actWhen_true bound h fun s => s.recompEnd found

/-- The member of a stripe on die 1 of a channel, with `n` wordlines programmed. -/
def memberOn (ch n : Nat) : Member :=
  { ch := ch, die := 1, block := 0, issued := n, verified := n, moved := false, rebuilt := none, old := none }

/-- An open zone of QLC on channels 0 to 15, parity on channel 0: its first member wordline of 64 LBAs is programmed, 8 LBAs more are
committed. -/
def partZone : Zone :=
  { nsid := 1, z := 0, state := .implicitOpen, wp := 72, ap := 72, zcap := zoneSpan, ctx := some 0, slice := 0, gen := 1, route := 0, prio := 0,
    fn := 0, media := .qlc, split := false, rowFlush := false,
    members := memberOn 0 0 :: memberOn 1 1 :: (List.range 14).map fun i => memberOn (i + 2) 0,
    fillFrom := none, lastProg := 0, lost := [] }

/-- A dirty pair of that zone: LBA 64, with a copy on each of DRAM channels 0 and 1. -/
def dirtyPair : Pair :=
  { nsid := 1, conv := false, num := 0, slice := 0, gen := 1, adm := 0, a := some (0, 0), b := some (1, 0), data := [(64, 7)], held := true,
    committed := true, dirty := true, seq := 0, pins := 0, releaseHeld := false, done := [], issued := [], lost := [], journaled := [],
    badCopy := none, time := 0, internal := false, route := 0 }

/-- Die 0 of each of channels 0 to 15 is a dump die with an armed slot. -/
def withDumpDies (s : State) : State :=
  State.each { s with hu := { s.hu with
      dumpDies := (List.range 16).map fun c => (c, [0]),
      dumpBlocks := (List.range 16).map fun c => (dieKey c 0, List.range 8),
      armed := (List.range 16).map fun c => (dieKey c 0, (true, false)) } }
    (List.range 16) fun c s => s.set FSQ_DIE_STATE dieActive c 0

/-- In RUN the partial parity of that zone is being rebuilt, and a flush to empty of port 0's shutdown has not yet journaled the pair: too
few dump dies were healthy when it began (R136). -/
def rebuildInFlush : State :=
  withDumpDies { sidebandRun with
    zn := { ZoneState.reset with zones := [(zkeyOf 1 0, partZone)], recompPending := [(zkeyOf 1 0, 0)] },
    wc := { CacheState.reset with pairs := [(0, dirtyPair)], nextPair := 1, flushBy := [0] } }
  |>.set ZNE_STATUS_RECOMP 1 |>.set DMC_CH_STAT_POP 1 0 |>.set DMC_CH_STAT_POP 1 1

/-- The rebuild may end, nothing waits at the zone engine, and the journal has written no record. -/
theorem rebuildInFlush_ends :
    Bound rebuildInFlush ∧ rebuildInFlush.flag ZNE_STATUS_RECOMP = true ∧ rebuildInFlush.inModes [.run, .service] = true
      ∧ rebuildInFlush.hu.jseq = 0 := by
  decide +kernel

/-- The end of the rebuild lets the cache go on: the pair's record takes the next journal sequence number (R136, R259). -/
theorem rebuildInFlush_journals : (rebuildInFlush.recompEnd []).hu.jseq = 1 := by decide +kernel

/-- Refutes O17: its clause on the end of a rebuild keeps the hold-up pack's state, but with a flush to empty under way the cache goes on
and puts a journal record on a dump die, which takes the next journal sequence number and place (R136, R484). -/
theorem not_partialParityAndFlush : ¬ Obligations.PartialParityAndFlush := by
  rintro ⟨-, h, -⟩
  obtain ⟨bound, recomp, mode, before⟩ := rebuildInFlush_ends
  obtain ⟨-, -, -, -, -, -, hu, -⟩ := (h [] rebuildInFlush ⟨rfl, rfl⟩).of_exec bound
    (exec_partialParityRebuildEnd bound [] (by simp [recomp, mode])) ⟨recomp, mode⟩
  rw [State.after_hu] at hu
  have same := congrArg HoldState.jseq hu
  rw [rebuildInFlush_journals, before] at same
  exact absurd same (by decide)

-- a die declared failed

theorem exec_declareDieFailed {s : State} (bound : Bound s) (p : Packet) :
    exec (.declareDieFailed p) s = .next (s.after s.now (s.packetRow 0x0F04 p none none)) :=
  show execDeclareDieFailed p s = _ from actRemoving_bound bound fun s => s.packetRow 0x0F04 p none none

/-- Of the three dies of channel 0, die 0 is a dump die, die 1 a spare, and die 2 another die in service. -/
def dumpDieWithSpare : State :=
  { sidebandRun with hu := { HoldState.reset with dumpDies := [(0, [0])], dumpBlocks := [(dieKey 0 0, List.range 8)],
                                                  armed := [(dieKey 0 0, (true, false))] } }
  |>.set FSQ_DIE_STATE dieActive 0 0 |>.set FSQ_DIE_STATE dieSpare 0 1 |>.set FSQ_DIE_STATE dieActive 0 2
  |>.set FSQ_DIE_DUMP 1 0 0 |>.set FSQ_STATUS_SPARES_LEFT 1 0

/-- Declare Die Failed for that dump die. -/
def failDumpDie : Packet := sidebandPacket 0x0F04 [0, 0, 0, 0]

/-- The packet runs, and the die it names has not failed. -/
theorem failDumpDie_runs : PacketRuns failDumpDie 0x0F04 dumpDieWithSpare
    ∧ dumpDieWithSpare.get FSQ_DIE_STATE (field (pkParams failDumpDie.bytes) 0 1) (field (pkParams failDumpDie.bytes) 1 1) ≠ dieFailed := by
  decide +kernel

/-- The spare takes the dump role over (R253). -/
theorem failDumpDie_moves_dump_role : (dumpDieWithSpare.packetRow 0x0F04 failDumpDie none none).hu.dumpDies = [(0, [1])] := by
  decide +kernel

/-- Refutes O38: its clause on Declare Die Failed keeps the hold-up pack's state, but the dump role of a failed dump die goes over to the
spare that replaces it (R253). -/
theorem not_packetsThatAct : ¬ Obligations.PacketsThatAct := by
  rintro ⟨-, -, -, -, -, -, -, -, -, -, -, -, -, h⟩
  have bound : Bound dumpDieWithSpare := by decide +kernel
  obtain ⟨-, -, -, -, hu, -⟩ := (h failDumpDie dumpDieWithSpare bound failDumpDie_runs).of_exec (exec_declareDieFailed bound failDumpDie)
  rw [State.after_hu] at hu
  exact absurd (failDumpDie_moves_dump_role.symm.trans (congrArg HoldState.dumpDies hu)) (by decide)

end Sys2Proof.Machine
end

section
/-!
SUPPORT. Events raised stay raised, and which registers the report of an error reaches (R382, R383, R389, R391, R397).
-/

namespace Sys2Proof.Machine

-- events

/-- Every event of `s` stands in `t`: what had come to the event router is there, with more behind it, and no pending bit is lost. -/
def EventsKept (s t : State) : Prop :=
  Grows s t ∧ ∀ i b, bit (s.get EVR_PEND i) b = true → bit (t.get EVR_PEND i) b = true

theorem EventsKept.of_eq {s t : State} (hr : t.regs = s.regs) (he : t.ev.todo = s.ev.todo) : EventsKept s t :=
  ⟨⟨[], by simp [he]⟩, fun i _ h => by rwa [State.get_of_regs hr EVR_PEND i 0]⟩

theorem EventsKept.refl (s : State) : EventsKept s s := .of_eq rfl rfl

theorem EventsKept.trans {s t u : State} (h : EventsKept s t) (g : EventsKept t u) : EventsKept s u := by
  obtain ⟨⟨l, hl⟩, hp⟩ := h
  obtain ⟨⟨m, hm⟩, gp⟩ := g
  exact ⟨⟨l ++ m, by rw [hm, hl, List.append_assoc]⟩, fun i b x => gp i b (hp i b x)⟩

theorem pend_key_ge (i : Nat) : 8 * rEVR_PEND.addr ≤ EVR_PEND.key i 0 := by
  simp [Field.key, Reg.at, EVR_PEND]

/-- A field before the pending words is none of them. -/
theorem EventsKept.set {s t : State} (h : EventsKept s t) {f : Field} {v i j : Nat} (hf : f.key i j < 8 * rEVR_PEND.addr) :
    EventsKept s (t.set f v i j) := by
  refine h.trans ⟨⟨[], by simp⟩, fun k _ hb => ?_⟩
  have hk : f.key i j ≠ EVR_PEND.key k 0 := Nat.ne_of_lt (Nat.lt_of_lt_of_le hf (pend_key_ge k))
  rwa [State.get_set_ne _ _ _ _ _ _ _ _ hk]

theorem EventsKept.raise {s t : State} (h : EventsKept s t) (n q : Nat) : EventsKept s (t.raise n q) :=
  h.trans ⟨⟨_, State.raise_todo t n q⟩, raise_keeps_pend t n q⟩

theorem EventsKept.fired {s t : State} (h : EventsKept s t) (l : List (Nat × Nat)) : EventsKept s { t with ev := { t.ev with fired := l } } :=
  h.trans (.of_eq rfl rfl)

theorem EventsKept.saturated {s t : State} (h : EventsKept s t) {b : CntBlock} {o si : Nat} (hs : b.sat.key si 0 < 8 * rEVR_PEND.addr) :
    EventsKept s (t.saturated b o si) := by
  unfold State.saturated
  split
  · exact h
  · exact ((h.fired _).set hs).raise _ _

theorem EventsKept.bump {s t : State} (h : EventsKept s t) {b : CntBlock} {f : Field} {i n o si : Nat}
    (hf : f.key i 0 < 8 * rEVR_PEND.addr) (hs : b.sat.key si 0 < 8 * rEVR_PEND.addr) : EventsKept s (t.bump b f i n o si) := by
  unfold State.bump
  simp only
  split
  · exact (h.set hf).saturated hs
  · exact h.set hf

/-- What is raised from a state on is raised from any state before. -/
theorem Raises.since {n : Nat} {s t u : State} (h : Raises n t u) (g : EventsKept s t) : Raises n s u := by
  obtain ⟨hb, l, hl, hr⟩ := h
  obtain ⟨⟨m, hm⟩, -⟩ := g
  obtain ⟨r, hr, hn⟩ := hr
  exact ⟨hb, m ++ l, by rw [hl, hm, List.append_assoc], r, List.mem_append_right m hr, hn⟩

/-- What has been raised stays raised. -/
theorem Raises.kept {n : Nat} {s t u : State} (h : Raises n s t) (g : EventsKept t u) : Raises n s u := by
  obtain ⟨hb, l, hl, r, hr, hn⟩ := h
  obtain ⟨⟨m, hm⟩, hp⟩ := g
  exact ⟨hp _ _ hb, l ++ m, by rw [hm, hl, List.append_assoc], r, List.mem_append_left m hr, hn⟩

-- counters

/-- A counter reaches itself, its block's saturation flag and the pending word of its block's source only. -/
theorem State.look_bump (s : State) {b : CntBlock} {f : Field} {i n o si k : Nat} (hf : f.key i 0 ≠ k) (hs : b.sat.key si 0 ≠ k)
    (he : EVR_PEND.key (b.src / 32) 0 ≠ k) : (s.bump b f i n o si).regs.look k = s.regs.look k := by
  unfold State.bump State.saturated
  simp only
  split
  · split
    · exact State.look_set _ _ _ _ _ _ hf
    · exact (State.look_set _ _ _ _ _ _ he).trans ((State.look_set _ _ _ _ _ _ hs).trans (State.look_set _ _ _ _ _ _ hf))
  · exact State.look_set _ _ _ _ _ _ hf

theorem State.get_bump_ne (s : State) {b : CntBlock} {f g : Field} {i n o si k l : Nat} (hf : f.key i 0 ≠ g.key k l)
    (hs : b.sat.key si 0 ≠ g.key k l) (he : EVR_PEND.key (b.src / 32) 0 ≠ g.key k l) :
    (s.bump b f i n o si).get g k l = s.get g k l :=
  State.get_congr _ _ _ _ _ (State.look_bump s hf hs he)

-- error reports

/-- The first byte of the fault collector's registers. -/
def reportBase : Nat := rFCL_STATUS.addr

/-- No register before those of the fault collector has changed, and every event stands: all that a report of an error does to either. -/
def Reports (s t : State) : Prop :=
  (∀ k, k < 8 * reportBase → t.regs.look k = s.regs.look k) ∧ EventsKept s t

theorem Reports.of_eq {s t : State} (hr : t.regs = s.regs) (he : t.ev.todo = s.ev.todo) : Reports s t :=
  ⟨fun _ _ => by rw [hr], .of_eq hr he⟩

theorem Reports.refl (s : State) : Reports s s := .of_eq rfl rfl

theorem Reports.trans {s t u : State} (h : Reports s t) (g : Reports t u) : Reports s u :=
  ⟨fun k hk => (g.1 k hk).trans (h.1 k hk), h.2.trans g.2⟩

/-- The field lies from the fault collector's registers on, before the pending words. -/
abbrev Reported (k : Nat) : Prop := 8 * reportBase ≤ k ∧ k < 8 * rEVR_PEND.addr

theorem Reports.set {s t : State} (h : Reports s t) {f : Field} {v i j : Nat} (hf : Reported (f.key i j)) : Reports s (t.set f v i j) :=
  h.trans ⟨fun k hk => State.look_set t f v i j k (by omega), (EventsKept.refl t).set hf.2⟩

theorem Reports.raise {s t : State} (h : Reports s t) (n q : Nat) : Reports s (t.raise n q) := by
  refine h.trans ⟨fun k hk => State.look_set t _ _ _ _ k ?_, (EventsKept.refl t).raise n q⟩
  have hge := pend_key_ge (n / 32)
  have hlt : 8 * reportBase < 8 * rEVR_PEND.addr := by decide
  omega

theorem Reports.fired {s t : State} (h : Reports s t) (l : List (Nat × Nat)) : Reports s { t with ev := { t.ev with fired := l } } :=
  h.trans (.of_eq rfl rfl)

theorem Reports.ms {s t : State} (h : Reports s t) (m : MilestoneState) : Reports s { t with ms := m } := h.trans (.of_eq rfl rfl)

theorem Reports.raiseOnce {s t : State} (h : Reports s t) (n o q : Nat) : Reports s (t.raiseOnce n o q) := by
  unfold State.raiseOnce
  split
  · exact h
  · exact (h.fired _).raise n q

theorem Reports.bump {s t : State} (h : Reports s t) {b : CntBlock} {f : Field} {i n o si : Nat} (hf : Reported (f.key i 0))
    (hs : Reported (b.sat.key si 0)) : Reports s (t.bump b f i n o si) := by
  refine h.trans ⟨fun k hk => State.look_bump t (by omega) (by omega) ?_, (EventsKept.refl t).bump hf.2 hs.2⟩
  have hge := pend_key_ge (b.src / 32)
  omega

theorem Reports.logRec {s t : State} (h : Reports s t) (c p0 p1 p2 p3 fl : Nat) : Reports s (t.logRec c p0 p1 p2 p3 fl) := by
  unfold State.logRec
  simp only
  split
  · split
    · exact h.ms _
    · split
      · exact h.ms _
      · exact ((h.ms _).bump (by decide) (by decide)).raiseOnce _ _ _
  · split
    · split
      · exact h.ms _
      · exact h.ms _
    · exact h.ms _

theorem Reports.capture {s t : State} (h : Reports s t) (a m ty cls sp : Nat) : Reports s (t.capture a m ty cls sp) := by
  unfold State.capture
  simp only
  split
  · refine Reports.set ?_ (by decide)
    split
    · exact (h.set (by decide)).raiseOnce _ _ _
    · exact h.set (by decide)
  · refine Reports.logRec ?_ _ _ _ _ _ _
    iterate 11 refine Reports.set ?_ (by decide)
    exact h

theorem reports_reportCE (s : State) (a m ty sp : Nat) : Reports s (s.reportCE a m ty sp) :=
  (((Reports.refl s).capture a m ty _ sp).bump (by decide) (by decide)).raiseOnce _ _ _

end Sys2Proof.Machine
end

section
/-!
SUPPORT. With nothing waiting, no zone held, an empty cache and no request waiting at DRAM, the zone engine and the cache do not move (R95,
R129, R136).
-/

namespace Sys2Proof.Machine

/-- A repeated change that changes the state for no element changes it not at all. -/
theorem State.each_fixed {α : Type} (s : State) (f : α → State → State) (l : List α) (h : ∀ a ∈ l, f a s = s) : s.each l f = s := by
  induction l with
  | nil => rfl
  | cons a t ih => rw [State.each, h a List.mem_cons_self, ih fun b hb => h b (List.mem_cons_of_mem a hb)]

theorem State.pumpLoop_quiet {s : State} (h : s.zn.adm = []) (n : Nat) : State.pumpLoop n s = s := by
  cases n with
  | zero => rfl
  | succ n => simp [State.pumpLoop, State.nextCommit, h]

theorem State.admitPass_quiet {s : State} (h : s.zn.adm = []) : s.admitPass = s := by
  simp [State.admitPass, h, State.each]

theorem State.roSettle_quiet {s : State} (h : s.zn.roPending = []) : s.roSettle = s := by
  simp [State.roSettle, h, State.each]

theorem State.journalAgain_resting {s : State} (ha : s.zn.adm = []) (hp : s.wc.pairs = []) : s.journalAgain = s := by
  simp [State.journalAgain, State.journalZones, ha, hp, State.each]

theorem State.issueParities_noZones {s : State} (h : s.zn.zones = []) : s.issueParities = s :=
  State.each_fixed s _ _ fun e _ => by simp [State.issueParity, h]

theorem State.serveDram_idle {s : State} (h : ∀ d < 4, (s.dchan d).waiting = []) : s.serveDram = s :=
  State.each_fixed s _ _ fun d hd => if_pos (.inl (by rw [h d (by simp at hd; omega)]; rfl))

theorem State.remirrorAll_resting {s : State} (hp : s.wc.pairs = []) (hd : ∀ d < 4, (s.dchan d).waiting = []) : s.remirrorAll = s := by
  unfold State.remirrorAll
  split
  · rfl
  · rw [hp]
    exact State.serveDram_idle hd

theorem State.pump_resting {s : State} (h : Resting s) : s.pump = s := by
  obtain ⟨⟨ha, hro⟩, hz, hp, hd⟩ := h
  simp only [State.pump, State.pumpLoop_quiet ha, State.admitPass_quiet ha, State.roSettle_quiet hro, State.journalAgain_resting ha hp,
    State.issueParities_noZones hz, State.remirrorAll_resting hp hd]

end Sys2Proof.Machine
end

section
/-!
SUPPORT. The buffer pool (R138 to R143): what each of its operations does where its conditions hold, and that it reaches nothing beside the
pool, its own registers and, with an error or a broken list, the event router and the fault collector.
-/

namespace Sys2Proof.Machine

-- what stays

/-- Zones, cache, map, flash, host side, supply and services are as they were. -/
abbrev KeepsUnits (s t : State) : Prop :=
  t.zn = s.zn ∧ t.wc = s.wc ∧ t.xl = s.xl ∧ t.fl = s.fl ∧ KeepsHost s t ∧ KeepsPower s t ∧ KeepsService s t

/-- So are the faults, events and milestones. -/
abbrev KeepsUnitsAndFaults (s t : State) : Prop :=
  t.zn = s.zn ∧ t.wc = s.wc ∧ t.xl = s.xl ∧ t.fl = s.fl ∧ KeepsHost s t ∧ KeepsPower s t ∧ KeepsService s t ∧ KeepsFaults s t

theorem KeepsUnits.after {s t : State} (h : KeepsUnits s t) (r : State) (n : Nat) : KeepsUnits s (r.after n t) := by
  obtain ⟨hzn, hwc, hxl, hfl, hhost, hpower, hservice⟩ := h
  exact ⟨by simpa using hzn, by simpa using hwc, by simpa using hxl, by simpa using hfl, hhost.after r n, hpower.after r n,
    hservice.after r n⟩

/-- Nothing but the pool and registers has changed. -/
def PoolOnly (s t : State) : Prop := ∃ p r, t = { s with pool := p, regs := r }

theorem PoolOnly.refl (s : State) : PoolOnly s s := ⟨_, _, rfl⟩

theorem PoolOnly.trans {s t u : State} (h : PoolOnly s t) (g : PoolOnly t u) : PoolOnly s u := by
  obtain ⟨_, _, rfl⟩ := h
  obtain ⟨_, _, rfl⟩ := g
  exact ⟨_, _, rfl⟩

theorem PoolOnly.set {s t : State} (h : PoolOnly s t) (f : Field) (v i j : Nat) : PoolOnly s (t.set f v i j) := by
  refine h.trans ?_
  unfold State.set
  split
  · exact ⟨_, _, rfl⟩
  · exact .refl t

theorem PoolOnly.pool {s t : State} (h : PoolOnly s t) (p : PoolState) : PoolOnly s { t with pool := p } := h.trans ⟨_, _, rfl⟩

theorem PoolOnly.resting {s t : State} (h : PoolOnly s t) (g : Resting s) : Resting t := by
  obtain ⟨_, _, rfl⟩ := h
  exact g

theorem PoolOnly.keeps_after {s t : State} (h : PoolOnly s t) (r : State) (n : Nat) : KeepsUnitsAndFaults s (r.after n t) := by
  obtain ⟨p, g, rfl⟩ := h
  have hunits : KeepsUnits s { s with pool := p, regs := g } := by simp [KeepsUnits, KeepsHost, KeepsPower, KeepsService]
  have hfaults : KeepsFaults s { s with pool := p, regs := g } := by simp [KeepsFaults]
  obtain ⟨hzn, hwc, hxl, hfl, hhost, hpower, hservice⟩ := hunits.after r n
  exact ⟨hzn, hwc, hxl, hfl, hhost, hpower, hservice, hfaults.after r n⟩

-- waiters

theorem State.serveWaiters_none {s : State} (h : s.pool.waiters = []) : s.serveWaiters = s := by
  unfold State.serveWaiters
  rw [h]
  rfl

-- allocation

/-- What an allocation that a requester asks for is recorded as while it waits. -/
abbrev State.bufRequest (s : State) (pool owner slice : Nat) (internal : Bool) : BufWait :=
  { pool := pool, owner := owner, unit := unitOf owner, slice := slice, internal := internal, gen := s.gen slice, seq := s.zn.nextAdm }

/-- The state with an allocation last among those that wait. -/
abbrev State.addWaiter (s : State) (w : BufWait) : State := { s with pool := { s.pool with waiters := s.pool.waiters ++ [w] } }

/-- What BUFFER_ALLOCATE does with a request. -/
def State.allocate (s : State) (w : BufWait) : State :=
  if s.behind w s.pool.waiters then s.addWaiter w
  else
    match s.alloc w 0 with
    | (some _, s) => s
    | (none, s) => s.addWaiter w

/-- The state once buffer `i` at the head of list `l` is a requester's. -/
def State.headTaken (s : State) (l i : Nat) (w : BufWait) : State :=
  { s.takeHead l i with pool := { (s.takeHead l i).pool with desc := s.pool.desc.put (bufKey w.pool i) w.desc } }.showFree l

theorem State.allocFrom_good {s : State} {l i : Nat} (hh : s.listHead l = some i) (hk : s.linkOk l i = true) (w : BufWait) :
    s.allocFrom l w = (some i, s.headTaken l i w) := by
  unfold State.allocFrom
  simp only [hh, hk, if_true]
  rfl

theorem State.allocFrom_bad {s : State} {l i : Nat} (hh : s.listHead l = some i) (hk : s.linkOk l i = false) (w : BufWait) :
    s.allocFrom l w = (none, s.breakList l) := by
  unfold State.allocFrom
  simp only [hh, hk, Bool.false_eq_true, if_false]

theorem State.alloc_from {s : State} {w : BufWait} {l : Nat} (hm : s.mayAlloc w = true) (hl : s.allocList w.pool 0 = some l) :
    s.alloc w 0 = s.allocFrom l w := by
  unfold State.alloc
  simp only [hm, if_true, hl]

theorem State.alloc_none {s : State} {w : BufWait} (h : s.mayAlloc w = false ∨ s.allocList w.pool 0 = none) : s.alloc w 0 = (none, s) := by
  unfold State.alloc
  rcases h with h | h
  · simp only [h, Bool.false_eq_true, if_false]
  · simp only [h, ite_self]

theorem State.allocate_served {s : State} {w : BufWait} {l i : Nat} (hb : s.behind w s.pool.waiters = false) (hm : s.mayAlloc w = true)
    (hl : s.allocList w.pool 0 = some l) (hh : s.listHead l = some i) (hk : s.linkOk l i = true) : s.allocate w = s.headTaken l i w := by
  unfold State.allocate
  simp only [hb, Bool.false_eq_true, if_false, State.alloc_from hm hl, State.allocFrom_good hh hk]

theorem State.allocate_breaks {s : State} {w : BufWait} {l i : Nat} (hb : s.behind w s.pool.waiters = false) (hm : s.mayAlloc w = true)
    (hl : s.allocList w.pool 0 = some l) (hh : s.listHead l = some i) (hk : s.linkOk l i = false) :
    s.allocate w = (s.breakList l).addWaiter w := by
  unfold State.allocate
  simp only [hb, Bool.false_eq_true, if_false, State.alloc_from hm hl, State.allocFrom_bad hh hk]

theorem State.allocate_waits {s : State} {w : BufWait}
    (h : s.behind w s.pool.waiters = true ∨ s.mayAlloc w = false ∨ s.allocList w.pool 0 = none) : s.allocate w = s.addWaiter w := by
  unfold State.allocate
  by_cases hb : s.behind w s.pool.waiters = true
  · rw [if_pos hb]
  · rw [if_neg hb, State.alloc_none (h.resolve_left hb)]

theorem poolOnly_headTaken (s : State) (l i : Nat) (w : BufWait) : PoolOnly s (s.headTaken l i w) :=
  PoolOnly.set (PoolOnly.pool (PoolOnly.pool (.refl s) _) _) BPL_FREE _ l 0

theorem onlyRegs_headTaken (s : State) (l i : Nat) (w : BufWait) : OnlyRegs [BPL_FREE.key l 0] s (s.headTaken l i w) :=
  fun k hk hs => onlyRegs_set _ BPL_FREE _ l 0 k hk hs

theorem State.headTaken_pool (s : State) (l i : Nat) (w : BufWait) :
    (s.headTaken l i w).pool = { (s.takeHead l i).pool with desc := s.pool.desc.put (bufKey w.pool i) w.desc } := by
  simp [State.headTaken, State.showFree]

/-- An allocation acts where the core is powered and its operands name a pool, a requester and a slice. -/
theorem effect_bufferAllocate {s : State} {pool owner slice : Nat} {internal : Bool} {P : State → Prop}
    (h : P (s.after s.now (s.allocate (s.bufRequest pool owner slice internal)))) :
    Effect (.bufferAllocate pool owner slice internal) s (s.powered = true ∧ pool < 2 ∧ owner < 256 ∧ slice < s.sliceCount) P :=
  effect_actWhen (show exec _ s = actWhen s _ fun s => s.allocate (s.bufRequest pool owner slice internal) from rfl)
    (by simp [and_assoc]) fun _ => h

theorem row_bufferAllocate (pool owner slice i l : Nat) (internal : Bool) (s : State) :
    Rows.bufferAllocate pool owner slice i l internal s := by
  rintro ⟨hb, hm, hl, hh, hk⟩
  refine effect_bufferAllocate ?_
  rw [State.allocate_served hb hm hl hh hk]
  refine ⟨?_, ?_, ?_, ?_, (onlyRegs_headTaken s l i _).after, (poolOnly_headTaken s l i _).keeps_after s s.now⟩
  all_goals rw [State.after_pool, State.headTaken_pool]; rfl

theorem row_bufferAllocate_waits (pool owner slice : Nat) (internal : Bool) (s : State) :
    Rows.bufferAllocate_waits pool owner slice internal s := by
  intro h
  refine effect_bufferAllocate ?_
  rw [State.allocate_waits h]
  exact ⟨by rw [State.after_pool], (onlyRegs_of_eq _ rfl).after, ((PoolOnly.refl s).pool _).keeps_after s s.now⟩

-- a broken list

theorem State.breakList_pool (s : State) (l : Nat) : (s.breakList l).pool = { s.pool with broken := insSorted l s.pool.broken } := by
  simp [State.breakList]

theorem keepsUnits_breakList (s : State) (l : Nat) : KeepsUnits s (s.breakList l) := by
  simp [State.breakList, KeepsUnits, KeepsHost, KeepsPower, KeepsService]

/-- The registers show the list broken, and one more broken list. -/
theorem State.get_breakList (s : State) (l : Nat) :
    (s.breakList l).get BPL_STATUS_BROKEN = 1 ∧ (s.breakList l).get BPL_STATUS_REBUILDING = 1 ∧ Counts BPL_BROKEN_CNT 0 1 s (s.breakList l) := by
  have hget (f : Field) (hf : EVR_PEND.key (285 / 32) 0 ≠ f.key 0 0) : (s.breakList l).get f =
      (((s.set BPL_STATUS_BROKEN 1).set BPL_STATUS_REBUILDING 1).bump blkBPL BPL_BROKEN_CNT 0 1 ownBPL).get f :=
    (State.get_raise_ne _ _ _ _ _ _ hf).trans (State.get_of_regs rfl f 0 0)
  refine ⟨?_, ?_, ?_⟩
  · rw [hget _ (by decide), State.get_bump_ne _ (by decide) (by decide) (by decide), State.get_set_ne _ _ _ _ _ _ _ _ (by decide),
      State.get_set _ _ _ _ _ rfl]
    rfl
  · rw [hget _ (by decide), State.get_bump_ne _ (by decide) (by decide) (by decide), State.get_set _ _ _ _ _ rfl]
    rfl
  · unfold Counts
    rw [hget _ (by decide), State.bump_get _ _ _ _ _ _ _ rfl (by decide) (by decide), State.get_set_ne _ _ _ _ _ _ _ _ (by decide),
      State.get_set_ne _ _ _ _ _ _ _ _ (by decide)]

theorem raises_breakList (s : State) (l : Nat) : Raises 285 s (s.breakList l) := by
  refine (raises_raise _ 285 0 (by decide)).since (EventsKept.trans ?_ (.of_eq rfl rfl))
  exact (((EventsKept.refl s).set (by decide)).set (by decide)).bump (by decide) (by decide)

theorem Counts.after {f : Field} {i n : Nat} {s t : State} (h : Counts f i n s t) (hf : f.key i 0 ∉ shownKeys) (r : State) (k : Nat) :
    Counts f i n s (r.after k t) :=
  (State.get_after _ _ _ _ _ _ hf).trans h

theorem row_bufferAllocate_broken (pool owner slice i l : Nat) (internal : Bool) (s : State) :
    Rows.bufferAllocate_broken pool owner slice i l internal s := by
  rintro ⟨hb, hm, hl, hh, hk⟩
  refine effect_bufferAllocate ?_
  rw [State.allocate_breaks hb hm hl hh hk]
  obtain ⟨hbroken, hrebuilding, hcounts⟩ := State.get_breakList s l
  have hunits : KeepsUnits s ((s.breakList l).addWaiter (s.bufRequest pool owner slice internal)) := keepsUnits_breakList s l
  have hraises : Raises 285 s ((s.breakList l).addWaiter (s.bufRequest pool owner slice internal)) := raises_breakList s l
  have hcounts' : Counts BPL_BROKEN_CNT 0 1 s ((s.breakList l).addWaiter (s.bufRequest pool owner slice internal)) := hcounts
  refine ⟨?_, ?_, ?_, hcounts'.after (by decide) s s.now, hraises.after, hunits.after s s.now⟩
  · rw [State.after_pool, State.addWaiter, State.breakList_pool]
  · exact (State.get_after _ _ _ _ _ _ (by decide)).trans hbroken
  · exact (State.get_after _ _ _ _ _ _ (by decide)).trans hrebuilding

-- a list rebuilt

/-- The state once a list has been threaded anew and is no longer broken. -/
def State.listRebuilt (s : State) (l : Nat) : State :=
  let s := s.rethread l
  let s := { s with pool := { s.pool with broken := s.pool.broken.filter (· != l) } }
  if s.pool.broken.isEmpty then s.set BPL_STATUS_REBUILDING 0 else s

theorem poolOnly_listRebuilt (s : State) (l : Nat) : PoolOnly s (s.listRebuilt l) := by
  have h : PoolOnly s { s.rethread l with pool := { (s.rethread l).pool with broken := (s.rethread l).pool.broken.filter (· != l) } } :=
    PoolOnly.pool (PoolOnly.pool (.refl s) _) _
  unfold State.listRebuilt
  simp only
  split
  · exact h.set _ _ _ _
  · exact h

theorem State.listRebuilt_pool (s : State) (l : Nat) :
    (s.listRebuilt l).pool = { (s.rethread l).pool with broken := s.pool.broken.filter (· != l) } := by
  unfold State.listRebuilt
  simp only
  split
  · rw [State.set_pool]
    rfl
  · rfl

theorem onlyRegs_listRebuilt (s : State) (l : Nat) : OnlyRegs [BPL_STATUS_REBUILDING.key 0 0] s (s.listRebuilt l) := by
  unfold State.listRebuilt
  simp only
  split
  · exact fun k hk hs => onlyRegs_set _ BPL_STATUS_REBUILDING 0 0 0 k hk hs
  · exact onlyRegs_of_eq _ rfl

theorem State.listRebuilt_rebuilding {s : State} {l : Nat} (h : (s.listRebuilt l).pool.broken = []) :
    (s.listRebuilt l).get BPL_STATUS_REBUILDING = 0 := by
  rw [State.listRebuilt_pool] at h
  unfold State.listRebuilt
  simp only
  split
  · rw [State.get_set _ _ _ _ _ rfl]
    rfl
  · rename_i hne
    exact absurd (List.isEmpty_iff.2 h) hne

theorem row_freeListRebuildEnd (list : Nat) (s : State) : Rows.freeListRebuildEnd list s := by
  rintro ⟨hw, hrest⟩
  refine effect_actWhen (show exec _ s = actWhen s _ fun s => (s.listRebuilt list).serveWaiters.pump from rfl) (by simp) fun _ => ?_
  have hpool := State.listRebuilt_pool s list
  have hnone : (s.listRebuilt list).pool.waiters = [] := by rw [hpool]; exact hw
  rw [State.serveWaiters_none hnone, State.pump_resting ((poolOnly_listRebuilt s list).resting hrest)]
  refine ⟨?_, fun h => ?_, ?_, ?_, (onlyRegs_listRebuilt s list).after, (poolOnly_listRebuilt s list).keeps_after s s.now⟩
  · rw [State.after_pool, hpool]
  · rw [State.get_after _ _ _ _ _ _ (by decide)]
    exact State.listRebuilt_rebuilding (by rwa [State.after_pool] at h)
  · rw [State.after_pool, hpool]
    rfl
  · rw [State.after_pool, hpool]
    exact NMap.look_put_same _ _ _

end Sys2Proof.Machine
end

section
/-!
SUPPORT. The holders of buffers (R140 to R142): release, TRANSFER, SHARE and DROP, and the errors they count and show.
-/

namespace Sys2Proof.Machine

-- errors

/-- The state with an error counted in `c`. -/
def State.errorCounted (s : State) (c : Field) : State := s.bump blkBPL c 0 1 ownBPL

/-- The state with the record of an error of kind `kind` set, and its status flag `g`. -/
def State.errorShown (s : State) (g : Field) (kind pool i owner : Nat) : State :=
  ((((s.set BPL_ERR_IDX i).set BPL_ERR_INFO_MASTER owner).set BPL_ERR_INFO_POOL pool).set BPL_ERR_INFO_KIND kind).set g 1

/-- What an error of kind `kind` does, with its counter `c` and its status flag `g`: it counts, and the first one since the flags were clear
is shown, raised and reported (R142). -/
def State.noteError (s : State) (c g : Field) (kind pool i owner : Nat) : State :=
  let s := s.errorCounted c
  if s.flag BPL_STATUS_DFREE || s.flag BPL_STATUS_OWNER then s
  else ((s.errorShown g kind pool i owner).raise 279).reportCE (i + pool * 2 ^ 20) owner 7 6

theorem State.bufError_double (s : State) (pool i owner : Nat) :
    s.bufError 1 pool i owner = s.noteError BPL_DFREE_CNT BPL_STATUS_DFREE 1 pool i owner := rfl

theorem State.bufError_owner (s : State) (pool i owner : Nat) :
    s.bufError 2 pool i owner = s.noteError BPL_OWNER_CNT BPL_STATUS_OWNER 2 pool i owner := rfl

/-- The counter and the flag are those of a double free or those of an owner error. -/
abbrev ErrorFields (c g : Field) : Prop := (c, g) ∈ [(BPL_DFREE_CNT, BPL_STATUS_DFREE), (BPL_OWNER_CNT, BPL_STATUS_OWNER)]

/-- The counters of errors are kept apart from what else an error sets, before the registers of the fault collector. -/
theorem ErrorFields.counter_apart {c g : Field} (h : ErrorFields c g) :
    c.reg.has 0 0 = true ∧ c.key 0 0 < 8 * reportBase ∧ c.key 0 0 ∉ shownKeys
      ∧ (∀ f ∈ [BPL_ERR_IDX, BPL_ERR_INFO_MASTER, BPL_ERR_INFO_POOL, BPL_ERR_INFO_KIND, g, blkBPL.sat, BPL_STATUS_DFREE, BPL_STATUS_OWNER],
          f.key 0 0 ≠ c.key 0 0) := by
  rcases List.mem_pair.1 h with h | h <;> obtain ⟨rfl, rfl⟩ := Prod.mk.inj h <;> decide

/-- The flags of errors are kept apart from their record, before the registers of the fault collector. -/
theorem ErrorFields.flag_apart {c g : Field} (h : ErrorFields c g) :
    g.key 0 0 < 8 * reportBase
      ∧ ∀ f ∈ [BPL_ERR_IDX, BPL_ERR_INFO_MASTER, BPL_ERR_INFO_POOL, BPL_ERR_INFO_KIND], g.key 0 0 ≠ f.key 0 0 := by
  rcases List.mem_pair.1 h with h | h <;> obtain ⟨rfl, rfl⟩ := Prod.mk.inj h <;> decide

/-- The fault collector's registers lie before the pending words. -/
theorem reportBase_before_pend {k : Nat} (h : k < 8 * reportBase) : k < 8 * rEVR_PEND.addr := h.trans (by decide)

theorem pend_key_ne_of_lt {k : Nat} (h : k < 8 * reportBase) (i : Nat) : EVR_PEND.key i 0 ≠ k :=
  Nat.ne_of_gt ((reportBase_before_pend h).trans_le (pend_key_ge i))

/-- A field of the pool's own registers reads after a report as before it. -/
theorem State.get_reported {f : Field} (hf : f.key 0 0 < 8 * reportBase) (t : State) (n a m ty sp : Nat) :
    ((t.raise n).reportCE a m ty sp).get f = t.get f :=
  State.get_congr _ _ _ _ _ ((((Reports.refl t).raise n 0).trans (reports_reportCE _ a m ty sp)).1 _ hf)

theorem State.get_errorCounted {c g : Field} (h : ErrorFields c g) (s : State) :
    (s.errorCounted c).get c = min (s.get c + 1) (2 ^ c.width - 1) := by
  obtain ⟨hhas, hlt, -, hne⟩ := h.counter_apart
  exact State.bump_get _ _ _ _ _ _ _ hhas (hne _ (by simp)) (pend_key_ne_of_lt hlt _)

theorem State.flag_errorCounted {c g f : Field} (h : ErrorFields c g) (s : State) (hf : f ∈ [BPL_STATUS_DFREE, BPL_STATUS_OWNER]) :
    (s.errorCounted c).flag f = s.flag f := by
  obtain ⟨-, -, -, hne⟩ := h.counter_apart
  have hsat : ∀ f ∈ [BPL_STATUS_DFREE, BPL_STATUS_OWNER], blkBPL.sat.key 0 0 ≠ f.key 0 0 ∧ f.key 0 0 < 8 * reportBase := by decide
  obtain ⟨hs, hlt⟩ := hsat f hf
  have hcf : c.key 0 0 ≠ f.key 0 0 := (hne f (by simp at hf ⊢; tauto)).symm
  simp only [State.flag, State.errorCounted, State.get_bump_ne s hcf hs (pend_key_ne_of_lt hlt _)]

theorem eventsKept_errorCounted {c g : Field} (h : ErrorFields c g) (s : State) : EventsKept s (s.errorCounted c) := by
  obtain ⟨-, hlt, -, -⟩ := h.counter_apart
  exact (EventsKept.refl s).bump (reportBase_before_pend hlt) (by decide)

theorem State.get_errorShown_counter {c g : Field} (h : ErrorFields c g) (s : State) (kind pool i owner : Nat) :
    (s.errorShown g kind pool i owner).get c = s.get c := by
  obtain ⟨-, -, -, hne⟩ := h.counter_apart
  unfold State.errorShown
  rw [State.get_set_ne _ _ _ _ _ _ _ _ (hne _ (by simp)), State.get_set_ne _ _ _ _ _ _ _ _ (hne _ (by simp)),
    State.get_set_ne _ _ _ _ _ _ _ _ (hne _ (by simp)), State.get_set_ne _ _ _ _ _ _ _ _ (hne _ (by simp)),
    State.get_set_ne _ _ _ _ _ _ _ _ (hne _ (by simp))]

/-- The record shows index, master, pool and kind. -/
theorem State.get_errorShown {c g : Field} (h : ErrorFields c g) (s : State) (kind pool i owner : Nat) :
    (s.errorShown g kind pool i owner).get BPL_ERR_IDX = i % 2 ^ 20
      ∧ (s.errorShown g kind pool i owner).get BPL_ERR_INFO_MASTER = owner % 2 ^ BPL_ERR_INFO_MASTER.width
      ∧ (s.errorShown g kind pool i owner).get BPL_ERR_INFO_KIND = kind % 4
      ∧ (s.errorShown g kind pool i owner).get BPL_ERR_INFO_POOL = pool % 2 := by
  obtain ⟨-, hne⟩ := h.flag_apart
  unfold State.errorShown
  refine ⟨?_, ?_, ?_, ?_⟩
  · rw [State.get_set_ne _ _ _ _ _ _ _ _ (hne _ (by simp)), State.get_set_ne _ _ _ _ _ _ _ _ (by decide),
      State.get_set_ne _ _ _ _ _ _ _ _ (by decide), State.get_set_ne _ _ _ _ _ _ _ _ (by decide), State.get_set _ _ _ _ _ rfl]
    rfl
  · rw [State.get_set_ne _ _ _ _ _ _ _ _ (hne _ (by simp)), State.get_set_ne _ _ _ _ _ _ _ _ (by decide),
      State.get_set_ne _ _ _ _ _ _ _ _ (by decide), State.get_set _ _ _ _ _ rfl]
  · rw [State.get_set_ne _ _ _ _ _ _ _ _ (hne _ (by simp)), State.get_set _ _ _ _ _ rfl]
    rfl
  · rw [State.get_set_ne _ _ _ _ _ _ _ _ (hne _ (by simp)), State.get_set_ne _ _ _ _ _ _ _ _ (by decide), State.get_set _ _ _ _ _ rfl]
    rfl

theorem eventsKept_errorShown {c g : Field} (h : ErrorFields c g) (s : State) (kind pool i owner : Nat) :
    EventsKept s (s.errorShown g kind pool i owner) := by
  obtain ⟨hlt, -⟩ := h.flag_apart
  exact (((((EventsKept.refl s).set (by decide)).set (by decide)).set (by decide)).set (by decide)).set (reportBase_before_pend hlt)

theorem State.noteError_pool (s : State) (c g : Field) (kind pool i owner : Nat) : (s.noteError c g kind pool i owner).pool = s.pool := by
  unfold State.noteError
  simp only
  split <;> simp [State.errorShown, State.errorCounted]

theorem keepsUnits_noteError (s : State) (c g : Field) (kind pool i owner : Nat) : KeepsUnits s (s.noteError c g kind pool i owner) := by
  unfold State.noteError
  simp only
  split <;> simp [State.errorShown, State.errorCounted, KeepsUnits, KeepsHost, KeepsPower, KeepsService]

theorem counts_noteError {c g : Field} (h : ErrorFields c g) (s : State) (kind pool i owner : Nat) :
    Counts c 0 1 s (s.noteError c g kind pool i owner) := by
  obtain ⟨-, hlt, -, -⟩ := h.counter_apart
  unfold Counts State.noteError
  simp only
  split
  · exact State.get_errorCounted h s
  · rw [State.get_reported hlt, State.get_errorShown_counter h, State.get_errorCounted h]

/-- The first error since the flags were clear is shown and raised. -/
theorem State.noteError_first {c g : Field} {s : State} (h : ErrorFields c g) (hd : s.flag BPL_STATUS_DFREE = false)
    (ho : s.flag BPL_STATUS_OWNER = false) (kind pool i owner : Nat) :
    s.noteError c g kind pool i owner =
      (((s.errorCounted c).errorShown g kind pool i owner).raise 279).reportCE (i + pool * 2 ^ 20) owner 7 6 := by
  unfold State.noteError
  simp only [State.flag_errorCounted h s (List.mem_cons_self), State.flag_errorCounted h s (List.mem_cons_of_mem _ List.mem_cons_self), hd, ho,
    Bool.or_self, Bool.false_eq_true, if_false]

theorem raises_noteError {c g : Field} {s : State} (h : ErrorFields c g) (hd : s.flag BPL_STATUS_DFREE = false)
    (ho : s.flag BPL_STATUS_OWNER = false) (kind pool i owner : Nat) : Raises 279 s (s.noteError c g kind pool i owner) := by
  rw [State.noteError_first h hd ho]
  have hkept : EventsKept s ((s.errorCounted c).errorShown g kind pool i owner) :=
    (eventsKept_errorCounted h s).trans (eventsKept_errorShown h _ kind pool i owner)
  exact ((raises_raise _ 279 0 (by decide)).since hkept).kept (reports_reportCE _ _ _ _ _).2

/-- What the first error shows (R142). -/
theorem State.get_noteError {c g : Field} {s : State} (h : ErrorFields c g) (hd : s.flag BPL_STATUS_DFREE = false)
    (ho : s.flag BPL_STATUS_OWNER = false) (kind pool i owner : Nat) :
    (s.noteError c g kind pool i owner).get BPL_ERR_IDX = i % 2 ^ 20
      ∧ (s.noteError c g kind pool i owner).get BPL_ERR_INFO_MASTER = owner % 2 ^ BPL_ERR_INFO_MASTER.width
      ∧ (s.noteError c g kind pool i owner).get BPL_ERR_INFO_KIND = kind % 4
      ∧ (s.noteError c g kind pool i owner).get BPL_ERR_INFO_POOL = pool % 2 := by
  rw [State.noteError_first h hd ho, State.get_reported (by decide), State.get_reported (by decide), State.get_reported (by decide),
    State.get_reported (by decide)]
  exact State.get_errorShown h _ kind pool i owner

/-- What every error does, as it stands when the command has ended. -/
theorem noteError_after {c g : Field} (h : ErrorFields c g) (s : State) (kind pool i owner : Nat) :
    (s.after s.now (s.noteError c g kind pool i owner)).pool = s.pool
      ∧ Counts c 0 1 s (s.after s.now (s.noteError c g kind pool i owner))
      ∧ KeepsUnits s (s.after s.now (s.noteError c g kind pool i owner)) := by
  obtain ⟨-, -, hshown, -⟩ := h.counter_apart
  exact ⟨by rw [State.after_pool, State.noteError_pool], (counts_noteError h s kind pool i owner).after hshown s s.now,
    (keepsUnits_noteError s c g kind pool i owner).after s s.now⟩

/-- What the first error shows, as it stands when the command has ended. -/
theorem noteError_shows {c g : Field} {s : State} (h : ErrorFields c g) {kind pool : Nat} (hk : kind < 4) (hp : pool < 2) (i owner : Nat) :
    s.flag BPL_STATUS_DFREE = false → s.flag BPL_STATUS_OWNER = false →
      (s.after s.now (s.noteError c g kind pool i owner)).get BPL_ERR_IDX = i % 2 ^ 20
        ∧ (s.after s.now (s.noteError c g kind pool i owner)).get BPL_ERR_INFO_MASTER = owner % 2 ^ BPL_ERR_INFO_MASTER.width
        ∧ Raises 279 s (s.after s.now (s.noteError c g kind pool i owner))
        ∧ (s.after s.now (s.noteError c g kind pool i owner)).get BPL_ERR_INFO_KIND = kind
        ∧ (s.after s.now (s.noteError c g kind pool i owner)).get BPL_ERR_INFO_POOL = pool := by
  intro hd ho
  obtain ⟨hidx, hmaster, hkind, hpool⟩ := State.get_noteError h hd ho kind pool i owner
  rw [State.get_after _ _ _ _ _ _ (by decide), State.get_after _ _ _ _ _ _ (by decide), State.get_after _ _ _ _ _ _ (by decide),
    State.get_after _ _ _ _ _ _ (by decide)]
  exact ⟨hidx, hmaster, (raises_noteError h hd ho kind pool i owner).after, hkind.trans (Nat.mod_eq_of_lt hk),
    hpool.trans (Nat.mod_eq_of_lt hp)⟩

-- buffers given back

theorem poolOnly_giveBack (s : State) (pool i : Nat) : PoolOnly s (s.giveBack pool i) :=
  PoolOnly.set (PoolOnly.pool (.refl s) _) BPL_FREE _ _ 0

theorem onlyRegs_giveBack (s : State) (pool i : Nat) : OnlyRegs [BPL_FREE.key (s.listOf pool i) 0] s (s.giveBack pool i) :=
  fun k hk hs => onlyRegs_set _ BPL_FREE _ _ 0 k hk hs

theorem State.giveBack_pool (s : State) (pool i : Nat) :
    (s.giveBack pool i).pool =
      { s.pool with desc := s.pool.desc.del (bufKey pool i), heads := s.pool.heads.put (s.listOf pool i) i,
                    links := s.pool.links.put (bufKey pool i) (linkWord i ((s.listHead (s.listOf pool i)).getD listEnd)) } := by
  simp [State.giveBack, State.showFree]

/-- With nothing waiting, a buffer given back stays free. -/
theorem State.giveBack_serve {s : State} (h : s.pool.waiters = []) (pool i : Nat) :
    (s.giveBack pool i).serveWaiters = s.giveBack pool i :=
  State.serveWaiters_none (by rw [State.giveBack_pool]; exact h)

/-- The buffer is free, the head of its list, and its link word names the former head (R138). -/
theorem State.giveBack_looks (s : State) (pool i : Nat) :
    (s.giveBack pool i).pool.desc.look (bufKey pool i) = none ∧ (s.giveBack pool i).pool.heads.look (s.listOf pool i) = some i
      ∧ (s.giveBack pool i).pool.links.look (bufKey pool i) = some (linkWord i ((s.listHead (s.listOf pool i)).getD listEnd)) := by
  rw [State.giveBack_pool]
  exact ⟨by rw [NMap.look_del, if_pos rfl], NMap.look_put_same _ _ _, NMap.look_put_same _ _ _⟩

/-- The state with another descriptor for a buffer. -/
abbrev State.setDesc (s : State) (pool i : Nat) (d : BufDesc) : State :=
  { s with pool := { s.pool with desc := s.pool.desc.put (bufKey pool i) d } }

theorem poolOnly_setDesc (s : State) (pool i : Nat) (d : BufDesc) : PoolOnly s (s.setDesc pool i d) := (PoolOnly.refl s).pool _

-- release

theorem State.release_owned {s : State} {pool i owner : Nat} {d : BufDesc} (h : s.pool.desc.look (bufKey pool i) = some d)
    (hs : d.shared = false) (ho : d.owner = owner) : s.release pool i owner = (s.giveBack pool i).serveWaiters := by
  unfold State.release
  simp only [h]
  rw [if_neg (by simp [hs, ho])]

theorem State.release_free {s : State} {pool i : Nat} (h : s.pool.desc.look (bufKey pool i) = none) (owner : Nat) :
    s.release pool i owner = s.bufError 1 pool i owner := by
  unfold State.release
  simp only [h]

theorem State.release_refused {s : State} {pool i owner : Nat} {d : BufDesc} (h : s.pool.desc.look (bufKey pool i) = some d)
    (hd : d.shared = true ∨ d.owner ≠ owner) : s.release pool i owner = s.bufError 2 pool i owner := by
  unfold State.release
  simp only [h]
  rw [if_pos (by simpa using hd)]

theorem row_bufferRelease (pool index owner : Nat) (d : BufDesc) (s : State) : Rows.bufferRelease pool index owner d s := by
  rintro ⟨hd, hs, ho, hw⟩
  refine effect_actWhen (show exec _ s = actWhen s _ fun s => s.release pool index owner from rfl) (by simp) fun _ => ?_
  rw [State.release_owned hd hs ho, State.giveBack_serve hw]
  obtain ⟨hdesc, hhead, hlink⟩ := State.giveBack_looks s pool index
  refine ⟨?_, ?_, ?_, (onlyRegs_giveBack s pool index).after, (poolOnly_giveBack s pool index).keeps_after s s.now⟩
  · rwa [State.after_pool]
  · rwa [State.after_pool]
  · rwa [State.after_pool]

theorem row_bufferRelease_error (pool index owner : Nat) (s : State) : Rows.bufferRelease_error pool index owner s := by
  intro h
  refine effect_actWhen (show exec _ s = actWhen s _ fun s => s.release pool index owner from rfl) (by simp) fun ⟨_, hp⟩ => ?_
  cases hd : s.pool.desc.look (bufKey pool index) with
  | none =>
    have hc : ErrorFields BPL_DFREE_CNT BPL_STATUS_DFREE := by simp
    rw [State.release_free hd, State.bufError_double, if_pos rfl, if_pos rfl]
    obtain ⟨hpool, hcounts, hkeeps⟩ := noteError_after hc s 1 pool index owner
    exact ⟨hpool, hcounts, noteError_shows hc (by decide) hp index owner, hkeeps⟩
  | some d =>
    have hc : ErrorFields BPL_OWNER_CNT BPL_STATUS_OWNER := by simp
    rw [State.release_refused hd (h d (by simp [hd])), State.bufError_owner, if_neg (by simp), if_neg (by simp)]
    obtain ⟨hpool, hcounts, hkeeps⟩ := noteError_after hc s 2 pool index owner
    exact ⟨hpool, hcounts, noteError_shows hc (by decide) hp index owner, hkeeps⟩

-- TRANSFER

theorem State.transferBuf_owned {s : State} {pool i owner : Nat} {d : BufDesc} (h : s.pool.desc.look (bufKey pool i) = some d)
    (hs : d.shared = false) (ho : d.owner = owner) (new : Nat) : s.transferBuf pool i owner new = s.setDesc pool i { d with owner := new } := by
  unfold State.transferBuf
  simp only [h]
  rw [if_neg (by simp [hs, ho])]

theorem State.transferBuf_refused {s : State} {pool i owner : Nat}
    (h : ∀ d ∈ (s.pool.desc.look (bufKey pool i)).toList, d.shared = true ∨ d.owner ≠ owner) (new : Nat) :
    s.transferBuf pool i owner new = s.bufError 2 pool i owner := by
  unfold State.transferBuf
  cases hd : s.pool.desc.look (bufKey pool i) with
  | none => rfl
  | some d => exact if_pos (by simpa using h d (by simp [hd]))

theorem row_bufferTransfer (pool index owner newOwner : Nat) (d : BufDesc) (s : State) :
    Rows.bufferTransfer pool index owner newOwner d s := by
  rintro ⟨hd, hs, ho⟩
  refine effect_actWhen (show exec _ s = actWhen s _ fun s => s.transferBuf pool index owner (newOwner % 256) from rfl) (by simp) fun _ => ?_
  rw [State.transferBuf_owned hd hs ho]
  exact ⟨by rw [State.after_pool], (onlyRegs_of_eq _ rfl).after, (poolOnly_setDesc s pool index _).keeps_after s s.now⟩

theorem row_bufferTransfer_error (pool index owner newOwner : Nat) (s : State) : Rows.bufferTransfer_error pool index owner newOwner s := by
  intro h
  refine effect_actWhen (show exec _ s = actWhen s _ fun s => s.transferBuf pool index owner (newOwner % 256) from rfl) (by simp) fun _ => ?_
  rw [State.transferBuf_refused h, State.bufError_owner]
  exact noteError_after (by simp) s 2 pool index owner

-- SHARE

/-- REFCNT after a SHARE(n) (R141). -/
abbrev BufDesc.sharedBy (d : BufDesc) (n : Nat) : Nat := if d.shared = true then d.refcnt + n else n + 1

/-- What a SHARE of an allocated buffer does, with R141's conditions side by side. -/
theorem State.shareBuf_eq {s : State} {pool i : Nat} {d : BufDesc} (h : s.pool.desc.look (bufKey pool i) = some d) (owner n : Nat) :
    s.shareBuf pool i owner n =
      if mayShare owner = false ∨ (d.shared = false ∧ d.owner ≠ owner) ∨ 15 < d.sharedBy n ∨ n = 0 ∨ 14 < n then s.bufError 2 pool i owner
      else s.setDesc pool i { d with shared := true, refcnt := d.sharedBy n, owner := 0 } := by
  unfold State.shareBuf
  simp [h, or_assoc]

theorem row_bufferShare (pool index owner n : Nat) (d : BufDesc) (s : State) : Rows.bufferShare pool index owner n d s := by
  rintro ⟨hd, ho, hm, hn, hn', hr⟩
  refine effect_actWhen (show exec _ s = actWhen s _ fun s => s.shareBuf pool index owner n from rfl) (by simp) fun _ => ?_
  rw [State.shareBuf_eq hd, if_neg]
  · exact ⟨by rw [State.after_pool], (onlyRegs_of_eq _ rfl).after, (poolOnly_setDesc s pool index _).keeps_after s s.now⟩
  · rintro (h | ⟨h, h'⟩ | h | h | h)
    · simp [hm] at h
    · exact h' (ho h)
    · exact Nat.not_lt.2 hr h
    · omega
    · omega

theorem row_bufferShare_error (pool index owner n : Nat) (d : BufDesc) (s : State) : Rows.bufferShare_error pool index owner n d s := by
  rintro ⟨hd, h⟩
  refine effect_actWhen (show exec _ s = actWhen s _ fun s => s.shareBuf pool index owner n from rfl) (by simp) fun _ => ?_
  rw [State.shareBuf_eq hd, if_pos (by tauto), State.bufError_owner]
  exact noteError_after (by simp) s 2 pool index owner

-- DROP

theorem State.dropBuf_shared {s : State} {pool i : Nat} {d : BufDesc} (h : s.pool.desc.look (bufKey pool i) = some d) (hs : d.shared = true)
    (owner : Nat) :
    s.dropBuf pool i owner =
      if d.refcnt ≤ 1 then (s.giveBack pool i).serveWaiters else s.setDesc pool i { d with refcnt := d.refcnt - 1 } := by
  unfold State.dropBuf
  simp only [h, hs, Bool.not_true, Bool.false_eq_true, if_false]

theorem State.dropBuf_free {s : State} {pool i : Nat} (h : s.pool.desc.look (bufKey pool i) = none) (owner : Nat) :
    s.dropBuf pool i owner = s.bufError 1 pool i owner := by
  unfold State.dropBuf
  simp only [h]

theorem State.dropBuf_unshared {s : State} {pool i : Nat} {d : BufDesc} (h : s.pool.desc.look (bufKey pool i) = some d)
    (hs : d.shared = false) (owner : Nat) : s.dropBuf pool i owner = s.bufError 2 pool i owner := by
  unfold State.dropBuf
  simp only [h, hs, Bool.not_false, if_true]

theorem row_bufferDrop (pool index owner : Nat) (d : BufDesc) (s : State) : Rows.bufferDrop pool index owner d s := by
  rintro ⟨hd, hs, hw⟩
  refine effect_actWhen (show exec _ s = actWhen s _ fun s => s.dropBuf pool index owner from rfl) (by simp) fun _ => ?_
  rw [State.dropBuf_shared hd hs, State.giveBack_serve hw]
  by_cases hr : d.refcnt ≤ 1
  · rw [if_pos hr, if_pos hr, State.after_pool]
    exact ⟨State.giveBack_looks s pool index, (onlyRegs_giveBack s pool index).after, (poolOnly_giveBack s pool index).keeps_after s s.now⟩
  · rw [if_neg hr, if_neg hr, State.after_pool]
    exact ⟨rfl, (onlyRegs_of_eq _ rfl).after, (poolOnly_setDesc s pool index _).keeps_after s s.now⟩

theorem row_bufferDrop_error (pool index owner : Nat) (s : State) : Rows.bufferDrop_error pool index owner s := by
  intro h
  refine effect_actWhen (show exec _ s = actWhen s _ fun s => s.dropBuf pool index owner from rfl) (by simp) fun _ => ?_
  cases hd : s.pool.desc.look (bufKey pool index) with
  | none =>
    rw [State.dropBuf_free hd, State.bufError_double, if_pos rfl]
    exact noteError_after (by simp) s 1 pool index owner
  | some d =>
    rw [State.dropBuf_unshared hd (h d (by simp [hd])), State.bufError_owner, if_neg (by simp)]
    exact noteError_after (by simp) s 2 pool index owner

/-- Settles O19: the lowest free index at the head of a list rebuilt is log 29's choice, the owner errors of TRANSFER and SHARE log 77's, the
commands without effect log 6's. -/
theorem bufferPool : Obligations.BufferPool :=
  ⟨row_bufferAllocate, row_bufferAllocate_broken, row_bufferAllocate_waits, row_freeListRebuildEnd, row_bufferRelease, row_bufferRelease_error,
   row_bufferTransfer, row_bufferTransfer_error, row_bufferShare, row_bufferShare_error, row_bufferDrop, row_bufferDrop_error⟩

end Sys2Proof.Machine
end

section
/-!
SUPPORT. A limit that rises while a slice is being reset: the new share replaces word 5 of the budget written during the reset (R66, R75, R132).
-/

namespace Sys2Proof.Machine

-- One proof at a time, as in Tests/Witnesses: each kernel evaluation on a thread of its own would take its stack beside the others'.
set_option Elab.async false

/-- What DIRTY_LIMIT_RAISE makes of the state when it brings the limit to `l`. -/
def State.limitRaised (s : State) (l : Nat) : State := ({ s with wc := { s.wc with raise := none } }.applyLimit l).pump

theorem exec_dirtyLimitRaise {s : State} (bound : Bound s) {l k : Nat} (hr : s.wc.raise = some (l, k))
    (h : (s.powered && s.past (s.wc.raise.map (·.2)) 1000000000) = true) :
    exec .dirtyLimitRaise s = .next (s.after s.now (s.limitRaised l)) := by
  show execDirtyLimitRaise s = _
  unfold execDirtyLimitRaise
  rw [actWhen_true bound h]
  simp only [hr]
  rfl

/-- The reset of slice 0 with word 5 of its budget, a share of 64, written since it began, to act after the reset's step 5 (R75). -/
def resetWithShare : SliceReset := { serviceReset with budget := [(5, 64)] }

/-- In RUN with that reset under way, an empty cache, and a limit of 2 GiB that has waited 1 s. -/
def raiseInReset : State :=
  { sidebandRun with now := 1000000000, wc := { CacheState.reset with started := true, raise := some (32, 0) }, resets := [(0, resetWithShare)] }

/-- The raise may take effect, nothing waits, and nothing is held. -/
theorem raiseInReset_due :
    Bound raiseInReset ∧ Resting raiseInReset ∧ raiseInReset.powered = true
      ∧ raiseInReset.past (raiseInReset.wc.raise.map (·.2)) 1000000000 = true := by
  decide +kernel

/-- The new limit's share takes the place of the word written during the reset. -/
theorem raiseInReset_drops_word : (raiseInReset.limitRaised 32).resets = [(0, serviceReset)] := by
  decide +kernel

/-- Refutes O18: its clause on DIRTY_LIMIT_RAISE keeps the slice resets among the host's state, but the share that the new limit gives (R66,
R132) replaces word 5 of a budget written during a reset (R75), which that reset no longer holds then. -/
theorem not_dirtyLimitAndWriteThrough : ¬ Obligations.DirtyLimitAndWriteThrough := by
  rintro ⟨-, h, -⟩
  obtain ⟨bound, resting, powered, due⟩ := raiseInReset_due
  obtain ⟨-, -, -, host⟩ := (h 32 0 raiseInReset ⟨rfl, by decide, resting.1⟩).of_exec bound
    (exec_dirtyLimitRaise bound rfl (by simp [powered, due])) ⟨powered, due⟩
  obtain ⟨⟨-, -, -, -, -, -, -, -, -, -, resets⟩, -⟩ := host resting
  rw [State.after_resets, raiseInReset_drops_word] at resets
  exact absurd resets (by decide)

end Sys2Proof.Machine
end

section
/-!
SUPPORT. A dump die whose erase ends with a failure or does not end at all: a spare block of the dump area takes the block's place (R254), or a
spare die takes the die's (R176, R253). Both change the hold-up controller's state, which the statements about the die scheduler keep.
-/

namespace Sys2Proof.Machine

-- One proof at a time, as in Tests/Witnesses: each kernel evaluation on a thread of its own would take its stack beside the others'.
set_option Elab.async false

/-- An erase of block 0, slot 0 of a dump die, since the counter stood at 0. -/
def slotErase : Running :=
  { op := { DieOp.base with kind := .erase, owner := .eraseDump 0 }, since := 0, busy := 0, suspends := 0, window := none, suspending := false }

/-- The dump die of `dumpDieWithSpare` runs that erase, one second on. -/
def dumpDieErasing : State := { dumpDieWithSpare with now := 1000000000 }.modDie 0 0 fun di => { di with run := some slotErase }

/-- The erase may end, and the die, in service, has had longer than TIMEOUT_MS. -/
theorem dumpDieErasing_ends :
    Bound dumpDieErasing ∧ dumpDieErasing.flashOn = true ∧ dumpDieErasing.busFree 0 = true
      ∧ dumpDieErasing.arrayEnds 0 0 .erase = some slotErase ∧ dumpDieErasing.dieOverdue 0 0 = true ∧ dumpDieErasing.inService 0 0 = true := by
  decide +kernel

-- an erase that fails

/-- What ERASE_COMPLETE makes of the state when the erase `r` of a die has failed. -/
def State.eraseEndsFailed (s : State) (c d : Nat) (r : Running) : State :=
  (((((s.arrayIdle c d r).bumpFsq FSQ_EFAIL_CNT c).fsqEvt FSQ_EVT_ERASE_FAIL c).eraseFailed c d r.op).checkDies.showDie c d).pump

theorem exec_eraseComplete_failed {s : State} (bound : Bound s) {c d : Nat} {r : Running} (hr : s.arrayEnds c d .erase = some r)
    (h : (dieOk c d && s.flashOn && s.busFree c) = true) :
    exec (.eraseComplete c d false) s = .next (s.after s.now (s.eraseEndsFailed c d r)) := by
  show execEraseComplete c d false s = _
  unfold execEraseComplete
  rw [actRemovingWhen_bound bound, if_pos (by simp [h, hr])]
  simp only [hr, Bool.false_eq_true, if_false]
  rfl

/-- Block 6, a spare of the dump area, becomes slot 0 in place of block 0 (R254). -/
theorem dumpDieErasing_replaces_block :
    (dumpDieErasing.eraseEndsFailed 0 0 slotErase).hu.dumpBlocks = [(dieKey 0 0, [6, 1, 2, 3, 4, 5, 7])] := by
  decide +kernel

/-- Refutes O12: its clause on an erase that fails keeps the hold-up pack's state, but where the block is one of the dump area, a spare block of
that area takes its place in the hold-up controller's list (R254). -/
theorem not_dieOperations : ¬ Obligations.DieOperations := by
  rintro ⟨-, -, -, -, -, -, -, h, -⟩
  obtain ⟨bound, flash, free, ends, -, -⟩ := dumpDieErasing_ends
  obtain ⟨-, -, -, -, hu, -⟩ := (h 0 0 slotErase dumpDieErasing ends).of_exec bound
    (exec_eraseComplete_failed bound ends (by simp [dieOk, flash, free])) ⟨by decide, by decide, flash, free⟩
  rw [State.after_hu] at hu
  exact absurd (dumpDieErasing_replaces_block.symm.trans (congrArg HoldState.dumpBlocks hu)) (by decide)

-- a die that does not answer

theorem exec_dieReadyTimeout_noAnswer {s : State} (bound : Bound s) {c d : Nat} (h : (dieOk c d && s.flashOn && s.dieOverdue c d) = true) :
    exec (.dieReadyTimeout c d false) s = .next (s.after s.now (s.failDie c d)) :=
  show execDieReadyTimeout c d false s = _ from actWhen_true bound h _

/-- The spare takes the dump role over (R253). -/
theorem dumpDieErasing_moves_dump_role : (dumpDieErasing.failDie 0 0).hu.dumpDies = [(0, [1])] := by decide +kernel

/-- Refutes O13: its clause on DIE_READY_TIMEOUT keeps the hold-up pack's state, but a dump die that does not give its ID fails, and its dump
role goes over to the spare that replaces it (R174, R176, R253). -/
theorem not_dieFailureAndRetraining : ¬ Obligations.DieFailureAndRetraining := by
  rintro ⟨h, -⟩
  obtain ⟨bound, flash, -, -, overdue, -⟩ := dumpDieErasing_ends
  obtain ⟨-, -, -, -, hu, -⟩ := (h 0 0 false dumpDieErasing).of_exec bound
    (exec_dieReadyTimeout_noAnswer bound (by simp [dieOk, flash, overdue])) ⟨by decide, by decide, flash, overdue⟩
  rw [State.after_hu] at hu
  exact absurd (dumpDieErasing_moves_dump_role.symm.trans (congrArg HoldState.dumpDies hu)) (by decide)

end Sys2Proof.Machine
end

section
/-!
SUPPORT. A raw erase where the table of dies lists one die twice. A state is plain data, and nothing in the statement on raw media commands asks
for the canonical form of its tables (keys strictly rising), in which a die is listed once.
-/

namespace Sys2Proof.Machine

-- One proof at a time, as in Tests/Witnesses: each kernel evaluation on a thread of its own would take its stack beside the others'.
set_option Elab.async false

theorem exec_rawErase {s : State} (bound : Bound s) (p : Packet) :
    exec (.rawErase p) s = .next (s.after s.now (s.packetRow 0x0F02 p none none)) :=
  show execRawErase p s = _ from actRemoving_bound bound fun s => s.packetRow 0x0F02 p none none

/-- A die whose block 9 is full. -/
def dieWithFullBlock : Die := { Die.fresh with blocks := [(9, { Block.fresh with st := .full, npp := 1024 })] }

/-- In SERVICE, die 1 of channel 2 is listed with that block, and once more as a die whose blocks were never used. -/
def dieListedTwice : State :=
  { sidebandRun with md := { ModeState.reset with mode := .service },
                     fl := { FlashState.reset with dies := [(dieKey 2 1, dieWithFullBlock), (dieKey 2 1, Die.fresh)] } }
  |>.set FSQ_DIE_STATE dieActive 2 1

/-- Raw Erase of block 9 of that die. -/
def rawErase9 : Packet := sidebandPacket 0x0F02 [2, 1, 9, 0]

theorem rawErase9_runs : PacketRuns rawErase9 0x0F02 dieListedTwice := by decide +kernel

/-- The command leaves the blocks of both entries as they were (R158). -/
theorem rawErase9_keeps_blocks :
    ((dieListedTwice.packetRow 0x0F02 rawErase9 none none).fl.dies.map fun e => (e.1, e.2.blocks))
      = [(dieKey 2 1, dieWithFullBlock.blocks), (dieKey 2 1, [])] := by
  decide +kernel

/-- Refutes O43: its clause on Raw Erase compares every entry of a die in the table after the command with every entry of that die before it, and
does not ask that the table list a die once. Where it lists one twice with different blocks, the clause fails though the command changes no
block. -/
theorem not_rawMediaCommandsUnbind : ¬ Obligations.RawMediaCommandsUnbind := by
  rintro ⟨h, -⟩
  have bound : Bound dieListedTwice := by decide +kernel
  obtain ⟨same, -⟩ := (h rawErase9 dieListedTwice bound ⟨rawErase9_runs, by decide +kernel⟩).of_exec (exec_rawErase bound rawErase9)
  rw [State.after_fl] at same
  have listed : (dieKey 2 1, dieWithFullBlock.blocks) ∈
      (dieListedTwice.packetRow 0x0F02 rawErase9 none none).fl.dies.map fun e => (e.1, e.2.blocks) := by
    rw [rawErase9_keeps_blocks]
    exact List.mem_cons_self
  obtain ⟨d, hd, e⟩ := List.mem_map.1 listed
  obtain ⟨key, blocks⟩ := Prod.mk.inj e
  have twice : (dieKey 2 1, Die.fresh) ∈ dieListedTwice.fl.dies := by decide +kernel
  exact absurd (blocks.symm.trans (same d hd _ twice key)) (by decide)

end Sys2Proof.Machine
end

section
/-!
SUPPORT. A read that ends while the safe state of host DMA is forced (R385): its data goes to no host, since no TLP is issued on either port.
-/

namespace Sys2Proof.Machine

-- One proof at a time, as in Tests/Witnesses: each kernel evaluation on a thread of its own would take its stack beside the others'.
set_option Elab.async false

/-- What CODEWORD_DECODED makes of the state when the check unit confirms the word of codeword `c`, number `id`. -/
def State.wordConfirmed (s : State) (id word : Nat) (c : Cw) : State :=
  (s.decoded id ((c.input.map (·.corrected word)).getD 36864) (userData word c.seed)).feed

theorem exec_codewordDecoded {s : State} (bound : Bound s) {id iters word : Nat} {c : Cw} (hc : s.cw id = some c)
    (hd : s.decoding id = true) (hi : iters ≤ s.iterLimit c) (hw : syndromeZero word = true) :
    exec (.codewordDecoded id iters word true) s = .next (s.after s.now (s.wordConfirmed id word c)) := by
  show execCodewordDecoded id iters word true s = _
  unfold execCodewordDecoded
  rw [actWhen_true bound (by simp [hd, hc, hi])]
  simp only [hc, hw, Bool.and_self, if_true]
  rfl

/-- Codeword 4, the last of the read in context 0, at decoder 0. -/
def lastOfRead : Cw :=
  { Cw.base with id := 4, owner := .host 0 3, internal := false, stage := .decoding, input := some (.hard 0 1), inst := some 0 }

/-- That read, of LBA 3 by port 0. -/
def readOfOne : Ctx :=
  { Ctx.base with e := { opc := 2, cid := 7, nsid := 1, dw10 := 3, dw11 := 0, dw12 := 0, dw13 := 0, dw14 := 0, dw15 := 0 }, stage := .issued,
                  remaining := 1 }

/-- In RUN with that read, and with host DMA in its safe state, in which a fatal error in RETURN leaves it until OFF (R385, R386). -/
def readInSafeState : State :=
  { sidebandRun with ctxs := [readOfOne], nextCtx := 1, cd := { CodecState.reset with cws := [(4, lastOfRead)], nextCw := 5 },
                     fc := { sidebandRun.fc with fatal := true, anyFatal := true, safe := (false, true, false) } }

/-- The codeword may decode, and its word goes to the read. -/
theorem readInSafeState_decodes :
    Bound readInSafeState ∧ readInSafeState.decoding 4 = true ∧ 0 ≤ readInSafeState.iterLimit lastOfRead
      ∧ readInSafeState.ctx 0 = some readOfOne ∧ readInSafeState.stale lastOfRead = false := by
  decide +kernel

/-- No data is put out. -/
theorem readInSafeState_puts_nothing : (readInSafeState.wordConfirmed 4 0 lastOfRead).out = [] := by decide +kernel

/-- Refutes O15: its clause on a word that the check unit confirms has the data put out in every state, but while the safe state of host DMA is
forced no TLP is issued (R385), and the read ends without its data going out. The clause does not ask that host DMA be free. -/
theorem not_decoderCluster : ¬ Obligations.DecoderCluster := by
  rintro ⟨h, -⟩
  obtain ⟨bound, decoding, iters, ctx, fresh⟩ := readInSafeState_decodes
  obtain ⟨out, -⟩ := (h 4 0 0 lastOfRead readOfOne 3 readInSafeState
      ⟨rfl, rfl, ctx, rfl, rfl, rfl, rfl, fresh, rfl, by decide, syndromeZero_zero⟩).of_exec bound
    (exec_codewordDecoded bound rfl decoding iters syndromeZero_zero) ⟨decoding, iters⟩
  rw [State.after_out, readInSafeState_puts_nothing] at out
  exact List.cons_ne_nil _ _ out.symm

end Sys2Proof.Machine
end

section
/-!
SUPPORT. Bursts of a Sample Out (R191 to R196, R204 to R211): a burst is counted, framed and detected, and what that reaches.
-/

namespace Sys2Proof.Machine

/-- What relates a state to every single change of it relates it to a repeated change, if it can be chained. -/
theorem State.each_rel {α : Type} {R : State → State → Prop} (refl : ∀ s, R s s) (trans : ∀ {s t u}, R s t → R t u → R s u)
    {f : α → State → State} (h : ∀ a s, R s (f a s)) (l : List α) (s : State) : R s (s.each l f) := by
  induction l generalizing s with
  | nil => exact refl s
  | cons a t ih => exact trans (h a s) (ih (f a s))

/-- Nothing but the sample readout, registers, the event router, what is put out and the counter of free values has changed. -/
def SampleOnly (s t : State) : Prop :=
  ∃ sd regs todo fired out n, t = { s with sd := sd, regs := regs, ev := { s.ev with todo := todo, fired := fired }, out := out, freeCtr := n }

variable {k c : Nat} {s t u : State}

theorem SampleOnly.refl (s : State) : SampleOnly s s := ⟨_, _, _, _, _, _, rfl⟩

theorem SampleOnly.trans (h : SampleOnly s t) (g : SampleOnly t u) : SampleOnly s u := by
  obtain ⟨_, _, _, _, _, _, rfl⟩ := h
  obtain ⟨_, _, _, _, _, _, rfl⟩ := g
  exact ⟨_, _, _, _, _, _, rfl⟩

theorem SampleOnly.set (s : State) (f : Field) (v i j : Nat) : SampleOnly s (s.set f v i j) := by
  unfold State.set
  split
  · exact ⟨_, _, _, _, _, _, rfl⟩
  · exact .refl s

theorem SampleOnly.raise (s : State) (n q : Nat) : SampleOnly s (s.raise n q) :=
  (SampleOnly.set s EVR_PEND _ _ 0).trans ⟨_, _, _, _, _, _, rfl⟩

/-- So it is, and the register field at bit address `k` is as it was. -/
def Detects (k : Nat) (s t : State) : Prop := SampleOnly s t ∧ t.regs.look k = s.regs.look k

theorem Detects.refl (k : Nat) (s : State) : Detects k s s := ⟨.refl s, rfl⟩

theorem Detects.trans (h : Detects k s t) (g : Detects k t u) : Detects k s u := ⟨h.1.trans g.1, g.2.trans h.2⟩

theorem Detects.sd (h : Detects k s t) (d : SampleState) : Detects k s { t with sd := d } := h.trans ⟨⟨_, _, _, _, _, _, rfl⟩, rfl⟩

theorem Detects.fired (h : Detects k s t) (l : List (Nat × Nat)) : Detects k s { t with ev := { t.ev with fired := l } } :=
  h.trans ⟨⟨_, _, _, _, _, _, rfl⟩, rfl⟩

theorem Detects.put (h : Detects k s t) (o : Out) : Detects k s (t.put o) := by
  refine h.trans ⟨?_, by rw [State.put_regs]⟩
  unfold State.put
  split
  · exact .refl t
  · exact ⟨_, _, _, _, _, _, rfl⟩

theorem Detects.set (h : Detects k s t) {f : Field} {v i j : Nat} (hf : f.key i j ≠ k) : Detects k s (t.set f v i j) :=
  h.trans ⟨.set t f v i j, State.look_set _ _ _ _ _ _ hf⟩

theorem Detects.raise (h : Detects k s t) (hk : k < 8 * rEVR_PEND.addr) (n q : Nat) : Detects k s (t.raise n q) :=
  h.trans ⟨.raise t n q, State.look_set _ _ _ _ _ _ (Nat.ne_of_gt (Nat.lt_of_lt_of_le hk (pend_key_ge _)))⟩

theorem Detects.evt (h : Detects k s t) (hk : k < 8 * rEVR_PEND.addr) {f : Field} {n i : Nat} {l : List Field} (hf : f.key i 0 ≠ k) :
    Detects k s (t.evt f n l i) := by
  unfold State.evt
  split
  · exact h
  · exact (h.set hf).raise hk _ _

theorem Detects.saturated (h : Detects k s t) (hk : k < 8 * rEVR_PEND.addr) {b : CntBlock} {o si : Nat} (hf : b.sat.key si 0 ≠ k) :
    Detects k s (t.saturated b o si) := by
  unfold State.saturated
  split
  · exact h
  · exact ((h.fired _).set hf).raise hk _ _

theorem Detects.bumpSdf (h : Detects k s t) (hk : k < 8 * rEVR_PEND.addr) {f : Field} {c : Nat} (hf : f.key c 0 ≠ k)
    (hs : SDF_STATUS_SAT.key c 0 ≠ k) (he : SDF_EVT_SAT.key c 0 ≠ k) : Detects k s (t.bumpSdf f c) := by
  unfold State.bumpSdf
  simp only
  split
  · split
    · exact h.set hf
    · exact ((h.set hf).saturated hk hs).evt hk he
  · exact h.set hf

-- the registers of a channel

/-- A field whose register lies behind those that show the contexts is neither of them. -/
theorem key_not_shown {f : Field} (h : ∀ k ∈ shownKeys, k < 8 * f.reg.addr) (i j : Nat) : f.key i j ∉ shownKeys := by
  intro hk
  have := h _ hk
  unfold Field.key Reg.at at this
  omega

/-- Where a channel's count of bursts is kept. -/
abbrev burstKey (c : Nat) : Nat := SDF_BURST_CNT.key c 0

/-- What detection sets of a channel's registers, beside the count of bursts. -/
def detectFields : List Field :=
  [SDF_STATUS_SAT, SDF_EVT_SAT, SDF_FALSE_MARK, SDF_MARK_MISS, SDF_EVT_MARK_MISS, SDF_FALLBACK, SDF_EVT_FALLBACK, SDF_BURST_LOST,
   SDF_EVT_BURST_LOST, SDF_FROZEN, SDF_CLAMP_CNT, SDF_EVT_CLAMP]

theorem detectFields_layout : ∀ f ∈ detectFields, f.reg.first = 0 ∧ f.reg.stride = 8192 ∧ f.key 0 0 ≠ SDF_BURST_CNT.key 0 0 := by decide

theorem burstKey_eq (c : Nat) : burstKey c = burstKey 0 + 65536 * c := by
  show 8 * (rSDF_BURST_CNT.addr + (c - 0) * 8192 + 0) + 0 = 8 * (rSDF_BURST_CNT.addr + (0 - 0) * 8192 + 0) + 0 + 65536 * c
  omega

theorem burstKey_apart {f : Field} (h : f ∈ detectFields) (c : Nat) : f.key c 0 ≠ burstKey c := by
  obtain ⟨hfirst, hstride, hne⟩ := detectFields_layout f h
  have hf : f.key c 0 = f.key 0 0 + 65536 * c := by
    unfold Field.key Reg.at
    rw [hfirst, hstride]
    omega
  have hb := burstKey_eq c
  unfold burstKey at hb ⊢
  omega

theorem burstKey_lt (h : c < 64) : burstKey c < 8 * rEVR_PEND.addr := by
  simp only [Field.key, Reg.at, burstKey, SDF_BURST_CNT, rSDF_BURST_CNT, rEVR_PEND]
  omega

theorem Detects.counter (h : Detects (burstKey c) s t) (hc : c < 64) {f : Field} (hf : f ∈ detectFields := by decide) :
    Detects (burstKey c) s (t.bumpSdf f c) :=
  h.bumpSdf (burstKey_lt hc) (burstKey_apart hf c) (burstKey_apart (by decide) c) (burstKey_apart (by decide) c)

theorem Detects.event (h : Detects (burstKey c) s t) (hc : c < 64) {f : Field} (hf : f ∈ detectFields := by decide) :
    Detects (burstKey c) s (t.sdfEvt f c) :=
  h.evt (burstKey_lt hc) (burstKey_apart hf c)

theorem Detects.twoSigma2 (h : Detects k s t) (c : Nat) : Detects k s (t.twoSigma2 c).2 := by
  unfold State.twoSigma2
  split
  · exact h.trans ⟨⟨_, _, _, _, _, _, rfl⟩, rfl⟩
  · exact h

theorem Detects.counters (h : Detects (burstKey c) s t) (hc : c < 64) (n : Nat) {f : Field} (hf : f ∈ detectFields := by decide) :
    Detects (burstKey c) s (t.each (List.range n) fun _ s => s.bumpSdf f c) :=
  h.trans (State.each_rel (.refl _) .trans (fun _ s => (Detects.refl _ s).counter hc hf) _ t)

/-- Loop values held at their limits are counted, and raise an event (R204). -/
theorem Detects.clamped (h : Detects (burstKey c) s t) (hc : c < 64) (n : Nat) :
    Detects (burstKey c) s
      (if n = 0 then t else ((t.each (List.range n) fun _ s => s.bumpSdf SDF_CLAMP_CNT c).sdfEvt SDF_EVT_CLAMP c).raise 77) := by
  split
  · exact h
  · exact ((h.counters hc n).event hc).raise (burstKey_lt hc) _ _

-- the steps of a readout

/-- The same operation of the same die, with the same burst expected. -/
def Readout.Same (r x : Readout) : Prop := x.die = r.die ∧ x.op = r.op ∧ x.burst = r.burst

theorem Readout.Same.refl (r : Readout) : r.Same r := ⟨rfl, rfl, rfl⟩

/-- A step of a readout on channel `c` leaves a readout and a state: the readout is of the same operation and burst, and only detection's state has
changed. -/
def ReadoutStep (c : Nat) (r : Readout) (s : State) (p : Readout × State) : Prop := r.Same p.1 ∧ Detects (burstKey c) s p.2

theorem readoutStep_detectBurst (hc : c < 64) (b e : Nat) (r : Readout) (s : State) : ReadoutStep c r s (s.detectBurst c b e r) := by
  unfold State.detectBurst
  extract_lets
  split
  extract_lets
  split
  rename_i heq
  have hs := (Detects.refl (burstKey c) s).twoSigma2 c
  rw [heq] at hs
  extract_lets gray llr s1 r1
  have h1 : Detects (burstKey c) s s1 := hs.put _
  split
  · exact ⟨.refl r, h1.counter hc⟩
  · split
    exact ⟨.refl r, (h1.sd _).clamped hc _⟩

theorem Readout.same_takeCells (r : Readout) (cells : List Nat) (e : Nat) : r.Same (r.takeCells cells e) := by
  unfold Readout.takeCells
  split
  · exact .refl r
  · exact ⟨rfl, rfl, rfl⟩

theorem readoutStep_missBurst (hc : c < 64) (r : Readout) (s : State) : ReadoutStep c r s (s.missBurst c r) := by
  have h := Detects.refl (burstKey c) s
  unfold State.missBurst
  split
  · exact ⟨⟨rfl, rfl, rfl⟩, (((h.counter hc).event hc).counter hc).put _⟩
  · exact ⟨⟨rfl, rfl, rfl⟩, (h.counter hc).event hc⟩

theorem State.detectTodo_none (s : State) (c : Nat) {r : Readout} (h : r.todo = none) : s.detectTodo c r = (r, s) := by
  unfold State.detectTodo
  rw [h]

theorem readoutStep_detectTodo (hc : c < 64) (r : Readout) (s : State) : ReadoutStep c r s (s.detectTodo c r) := by
  unfold State.detectTodo
  split
  · exact readoutStep_detectBurst hc _ _ { r with todo := none } s
  · exact ⟨.refl r, .refl _ s⟩

/-- What comes of a burst once the framer has looked for its mark (R193, R194): the readout, and where the burst began. -/
def State.takeFrame (s : State) (c : Nat) (r : Readout) (cells : Nat → List Nat) : Framed → Readout × State × Int
  | .primary t => (r.takeCells (cells t) 0, s, (t : Int) - 8)
  | .fallback t part1 =>
    (r.takeCells (cells t) (if part1 then 0 else (32768 + r.op.res - 1) / r.op.res),
      (s.bumpSdf SDF_FALLBACK c).sdfEvt SDF_EVT_FALLBACK c, (t : Int) - 8)
  | .missed =>
    let p := if r.cells.has r.burst then (r, s) else s.missBurst c r
    (p.1, p.2, 0)

theorem readoutStep_takeFrame (hc : c < 64) (r : Readout) (s : State) (cells : Nat → List Nat) (f : Framed) :
    ReadoutStep c r s ((s.takeFrame c r cells f).1, (s.takeFrame c r cells f).2.1) := by
  have h := Detects.refl (burstKey c) s
  cases f with
  | primary t => exact ⟨r.same_takeCells _ _, h⟩
  | fallback t part1 => exact ⟨r.same_takeCells _ _, (h.counter hc).event hc⟩
  | missed =>
    dsimp only [State.takeFrame]
    split
    · exact ⟨.refl r, h⟩
    · exact readoutStep_missBurst hc r s

/-- A burst is counted with the false marks in it, and framed (R191). -/
def State.frameBurst (s : State) (c : Nat) (r : Readout) (bytes : List Nat) : Readout × State × Int :=
  let s := s.bumpSdf SDF_BURST_CNT c
  let f := frame (s.markTol c) (s.wantHeader c r) bytes
  (s.each (List.range f.2) fun _ s => s.bumpSdf SDF_FALSE_MARK c).takeFrame c r
    (fun t => unpack r.op.res 16384 (payloadBits (payloadOf r.op.res r.dual bytes t))) f.1

/-- The burst before it is detected with the cells that have now come (R210). -/
def State.detectBefore (s : State) (c : Nat) (r : Readout) (bytes : List Nat) : Readout × State :=
  (s.frameBurst c r bytes).2.1.detectTodo c { (s.frameBurst c r bytes).1 with todo := r.todo }

/-- The next burst is expected where the readout's own ends (R191). -/
theorem State.takeBurst_eq {r : Readout} (h : s.sd.readouts.look c = some r) (bytes : List Nat) :
    ∃ todo start, s.takeBurst c bytes =
      { (s.detectBefore c r bytes).2 with sd := { (s.detectBefore c r bytes).2.sd with
          readouts := (s.detectBefore c r bytes).2.sd.readouts.put c
            { (s.detectBefore c r bytes).1 with todo := todo, burst := (s.detectBefore c r bytes).1.burst + 1, start := start } } } := by
  unfold State.takeBurst
  rw [h]
  exact ⟨_, _, rfl⟩

theorem readoutStep_detectBefore (hc : c < 64) (r : Readout) (s : State) (bytes : List Nat) :
    ReadoutStep c r (s.bumpSdf SDF_BURST_CNT c) (s.detectBefore c r bytes) := by
  obtain ⟨⟨hdie, hop, hburst⟩, hf⟩ : ReadoutStep c r (s.bumpSdf SDF_BURST_CNT c)
      ((s.frameBurst c r bytes).1, (s.frameBurst c r bytes).2.1) := by
    obtain ⟨hsame, hf⟩ := readoutStep_takeFrame hc r
      ((s.bumpSdf SDF_BURST_CNT c).each (List.range (frame ((s.bumpSdf SDF_BURST_CNT c).markTol c)
        ((s.bumpSdf SDF_BURST_CNT c).wantHeader c r) bytes).2) fun _ s => s.bumpSdf SDF_FALSE_MARK c)
      (fun t => unpack r.op.res 16384 (payloadBits (payloadOf r.op.res r.dual bytes t)))
      (frame ((s.bumpSdf SDF_BURST_CNT c).markTol c) ((s.bumpSdf SDF_BURST_CNT c).wantHeader c r) bytes).1
    exact ⟨hsame, ((Detects.refl _ _).counters hc _).trans hf⟩
  obtain ⟨⟨hdie', hop', hburst'⟩, hd⟩ :=
    readoutStep_detectTodo hc { (s.frameBurst c r bytes).1 with todo := r.todo } (s.frameBurst c r bytes).2.1
  exact ⟨⟨hdie'.trans hdie, hop'.trans hop, hburst'.trans hburst⟩, hf.trans hd⟩

theorem counts_bumpSdf_burstCnt (hc : c < 64) (s : State) : Counts SDF_BURST_CNT c 1 s (s.bumpSdf SDF_BURST_CNT c) := by
  have hhas : SDF_BURST_CNT.reg.has c 0 = true :=
    (Reg.has_iff _ c 0).2 ⟨Nat.zero_le _, by simpa [SDF_BURST_CNT, rSDF_BURST_CNT] using hc, by decide⟩
  have hw : SDF_BURST_CNT.width = 32 := rfl
  have hset (v : Nat) : (s.set SDF_BURST_CNT v c).get SDF_BURST_CNT c = v % 2 ^ 32 := State.get_set _ _ _ _ _ hhas
  have hfull : Detects (burstKey c) (s.set SDF_BURST_CNT (2 ^ 32 - 1) c)
      (((s.set SDF_BURST_CNT (2 ^ 32 - 1) c).saturated blkSDF (ownSDF + c) c).sdfEvt SDF_EVT_SAT c) :=
    ((Detects.refl _ _).saturated (burstKey_lt hc) (burstKey_apart (f := SDF_STATUS_SAT) (by decide) c)).event hc
  have hlt := State.get_lt s SDF_BURST_CNT c 0
  rw [hw] at hlt
  unfold Counts State.bumpSdf
  simp only [hw]
  split
  · split
    · rw [hset]
      omega
    · rw [State.get_congr _ _ _ _ _ hfull.2, hset]
      omega
  · rw [hset]
    omega

theorem sampleOnly_burstCounted (s : State) (c : Nat) : SampleOnly s (s.bumpSdf SDF_BURST_CNT c) := by
  -- no field of the channel lies at bit address 0
  have hne : ∀ f ∈ [SDF_BURST_CNT, SDF_STATUS_SAT, SDF_EVT_SAT], f.key c 0 ≠ 0 := by
    have haddr : ∀ f ∈ [SDF_BURST_CNT, SDF_STATUS_SAT, SDF_EVT_SAT], 0 < f.reg.addr := by decide
    intro f hf
    have := haddr f hf
    unfold Field.key Reg.at
    omega
  exact ((Detects.refl 0 s).bumpSdf (by decide) (hne _ (by decide)) (hne _ (by decide)) (hne _ (by decide))).1

theorem SampleOnly.keeps_after (h : SampleOnly s t) (r : State) (n : Nat) :
    (r.after n t).cd = s.cd ∧ (r.after n t).zn = s.zn ∧ (r.after n t).wc = s.wc ∧ (r.after n t).xl = s.xl ∧ (r.after n t).fl = s.fl
      ∧ KeepsHost s (r.after n t) ∧ KeepsPower s (r.after n t) ∧ KeepsService s (r.after n t) := by
  obtain ⟨_, _, _, _, _, _, rfl⟩ := h
  simp [KeepsHost, KeepsPower, KeepsService]

theorem row_burstReceived (ch : Nat) (bytes : List Nat) (r : Readout) (s : State) : Rows.burstReceived ch bytes r s := by
  intro h
  refine effect_actWhen (show exec _ s = actWhen s _ fun s => s.takeBurst ch bytes from rfl) (by simp [h, and_assoc]) fun ⟨hc, _, _⟩ => ?_
  obtain ⟨⟨hdie, hop, hburst⟩, hdet⟩ := readoutStep_detectBefore hc r s bytes
  obtain ⟨todo, start, e⟩ := State.takeBurst_eq h bytes
  rw [e]
  refine ⟨?_, ?_, (((sampleOnly_burstCounted s ch).trans hdet.1).trans ⟨_, _, _, _, _, _, rfl⟩).keeps_after s s.now⟩
  · rw [State.after_sd, NMap.look_put_same, Option.map_some, hdie, hop, hburst]
  · refine Counts.after ((State.get_congr _ _ _ _ _ (hdet.sd _).2).trans (counts_bumpSdf_burstCnt hc s)) (key_not_shown (by decide) ch 0) s s.now

end Sys2Proof.Machine
end

section
/-!
SUPPORT. Sample Outs (R185, R186, R193, R207): which one a channel runs, what is left when it ends, and the class records and bad columns of a
channel (R202, R207).
-/

namespace Sys2Proof

variable {V : Type}

theorem NMap.look_modify_same (m : NMap V) (k : Nat) (f : V → V) : (m.modify k f).look k = (m.look k).map f := by
  unfold NMap.modify
  split
  · rename_i v h
    rw [NMap.look_put_same, h, Option.map_some]
  · rename_i h
    rw [h, Option.map_none]

theorem NMap.look_modify_ne (m : NMap V) (f : V → V) {k k' : Nat} (h : k ≠ k') : (m.modify k f).look k' = m.look k' := by
  unfold NMap.modify
  split
  · exact NMap.look_put_ne _ _ _ _ h
  · rfl

end Sys2Proof

namespace Sys2Proof.Machine

variable {s t u : State}

theorem leastBy_isSome {α : Type} (key : α → Nat) {l : List α} (h : l ≠ []) : (leastBy key l).isSome = true := by
  cases l with
  | nil => exact absurd rfl h
  | cons a t =>
    unfold leastBy
    split
    · rfl
    · split <;> rfl

/-- Nothing but flash and registers has changed. -/
def FlashOnly (s t : State) : Prop := ∃ fl regs, t = { s with fl := fl, regs := regs }

theorem FlashOnly.refl (s : State) : FlashOnly s s := ⟨_, _, rfl⟩

theorem FlashOnly.trans (h : FlashOnly s t) (g : FlashOnly t u) : FlashOnly s u := by
  obtain ⟨_, _, rfl⟩ := h
  obtain ⟨_, _, rfl⟩ := g
  exact ⟨_, _, rfl⟩

theorem FlashOnly.set (h : FlashOnly s t) (f : Field) (v i j : Nat) : FlashOnly s (t.set f v i j) := by
  refine h.trans ?_
  unfold State.set
  split
  · exact ⟨_, _, rfl⟩
  · exact .refl t

theorem FlashOnly.modDie (h : FlashOnly s t) (c d : Nat) (f : Die → Die) : FlashOnly s (t.modDie c d f) := h.trans ⟨_, _, rfl⟩

theorem FlashOnly.showDie (h : FlashOnly s t) (c d : Nat) : FlashOnly s (t.showDie c d) := ((h.set _ _ _ _).set _ _ _ _).set _ _ _ _

theorem FlashOnly.showDual (h : FlashOnly s t) (c : Nat) : FlashOnly s (t.showDual c) := h.set _ _ _ _

theorem FlashOnly.debit (h : FlashOnly s t) (c d : Nat) (o : DieOp) (ns : Nat) : FlashOnly s (t.debit c d o ns) := by
  have charged : FlashOnly t (t.each (o.charges (ns * 16 / 1000)) fun e s => s.setTokens c d e.1 (s.tokens c d e.1 - e.2)) :=
    State.each_rel .refl .trans (fun _ _ => ⟨_, _, rfl⟩) _ _
  unfold State.debit
  split
  · exact h
  · split
    · exact (h.trans charged).trans ⟨_, _, rfl⟩
    · exact h.trans charged

theorem FlashOnly.readIdle (h : FlashOnly s t) (c d : Nat) (o : DieOp) (n : Nat) : FlashOnly s (t.readIdle c d o n) :=
  ((h.debit _ _ _ _).modDie _ _ _).showDie _ _

/-- Nothing but flash, registers and the Sample Outs with what they have learned has changed. -/
def ReadoutOnly (s t : State) : Prop :=
  ∃ fl regs classes readouts again upper,
    t = { s with fl := fl, regs := regs, sd := { s.sd with classes := classes, readouts := readouts, again := again, upper := upper } }

theorem ReadoutOnly.refl (s : State) : ReadoutOnly s s := ⟨_, _, _, _, _, _, rfl⟩

theorem ReadoutOnly.trans (h : ReadoutOnly s t) (g : ReadoutOnly t u) : ReadoutOnly s u := by
  obtain ⟨_, _, _, _, _, _, rfl⟩ := h
  obtain ⟨_, _, _, _, _, _, rfl⟩ := g
  exact ⟨_, _, _, _, _, _, rfl⟩

theorem FlashOnly.readout (h : FlashOnly s t) : ReadoutOnly s t := by
  obtain ⟨_, _, rfl⟩ := h
  exact ⟨_, _, _, _, _, _, rfl⟩

theorem readoutOnly_startReadout (s : State) (c d : Nat) (o : DieOp) (dual : Bool) : ReadoutOnly s (s.startReadout c d o dual) :=
  (ReadoutOnly.trans ⟨_, _, _, _, _, _, rfl⟩ ((FlashOnly.refl _).showDual c).readout)

theorem readoutOnly_nextSampleOut (s : State) (c : Nat) : ReadoutOnly s (s.nextSampleOut c) := by
  unfold State.nextSampleOut
  split
  · exact .refl s
  · split
    · exact readoutOnly_startReadout s c _ _ _
    · exact .refl s

/-- Zones, cache, host side, supply and services are as they were. -/
def KeepsOutside (s t : State) : Prop := t.zn = s.zn ∧ t.wc = s.wc ∧ KeepsHost s t ∧ KeepsPower s t ∧ KeepsService s t

theorem ReadoutOnly.keepsOutside (h : ReadoutOnly s t) : KeepsOutside s t := by
  obtain ⟨_, _, _, _, _, _, rfl⟩ := h
  simp [KeepsOutside, KeepsHost, KeepsPower, KeepsService]

theorem ReadoutOnly.keepsFaults (h : ReadoutOnly s t) : KeepsFaults s t := by
  obtain ⟨_, _, _, _, _, _, rfl⟩ := h
  simp [KeepsFaults]

theorem KeepsOutside.trans (h : KeepsOutside s t) (g : KeepsOutside t u) : KeepsOutside s u := by
  simp only [KeepsOutside, KeepsHost, KeepsPower, KeepsService] at h g ⊢
  simp only [g, h, and_self]

theorem KeepsOutside.after (h : KeepsOutside s t) (r : State) (n : Nat) : KeepsOutside s (r.after n t) := by
  obtain ⟨zn, wc, host, power, service⟩ := h
  exact ⟨by rwa [State.after_zn], by rwa [State.after_wc], host.after r n, power.after r n, service.after r n⟩

theorem keepsOutside_modWear (s : State) (set : Bool) (key : Nat) (f : Wear → Wear) : KeepsOutside s (s.modWear set key f) := by
  unfold State.modWear
  dsimp only
  split <;> split <;> split <;> simp [KeepsOutside, KeepsHost, KeepsPower, KeepsService]

@[simp] theorem State.modWear_fl (s : State) (set : Bool) (key : Nat) (f : Wear → Wear) : (s.modWear set key f).fl = s.fl := by
  unfold State.modWear
  dsimp only
  split <;> split <;> split <;> simp

@[simp] theorem State.modWear_sd (s : State) (set : Bool) (key : Nat) (f : Wear → Wear) : (s.modWear set key f).sd = s.sd := by
  unfold State.modWear
  dsimp only
  split <;> split <;> split <;> simp

@[simp] theorem State.modWear_cd (s : State) (set : Bool) (key : Nat) (f : Wear → Wear) : (s.modWear set key f).cd = s.cd := by
  unfold State.modWear
  dsimp only
  split <;> split <;> split <;> simp

-- a die's state

theorem State.die_of_fl (h : t.fl = s.fl) (c d : Nat) : t.die c d = s.die c d := by
  unfold State.die
  rw [h]

theorem State.debit_die (s : State) (c d : Nat) (o : DieOp) (ns c' d' : Nat) : (s.debit c d o ns).die c' d' = s.die c' d' := by
  have charged : (s.each (o.charges (ns * 16 / 1000)) fun e s => s.setTokens c d e.1 (s.tokens c d e.1 - e.2)).die c' d' = s.die c' d' :=
    State.each_keeps (fun s => s.die c' d') (fun (e : Nat × Nat) s => s.setTokens c d e.1 (s.tokens c d e.1 - e.2)) (fun _ _ => rfl) _ s
  unfold State.debit
  split
  · rfl
  · split
    · exact charged
    · exact charged

theorem State.showDie_fl (s : State) (c d : Nat) : (s.showDie c d).fl = s.fl := by simp [State.showDie]

theorem State.readIdle_die (s : State) (c d : Nat) (o : DieOp) (n : Nat) :
    (s.readIdle c d o n).die c d =
      if (s.die c d).winRead.isSome then { s.die c d with winRead := none } else { s.die c d with run := none } := by
  unfold State.readIdle
  rw [State.die_of_fl (State.showDie_fl _ _ _), State.modDie_die, State.debit_die]

theorem dieKey_inj {c d d' : Nat} (h : dieKey c d = dieKey c d') : d = d' := by
  unfold dieKey at h
  omega

theorem State.showDual_fl (s : State) (c : Nat) : (s.showDual c).fl = s.fl := by simp [State.showDual]
theorem State.showDual_sd (s : State) (c : Nat) : (s.showDual c).sd = s.sd := by simp [State.showDual]

/-- A Sample Out sets resolution and framing of its die, and becomes the channel's. -/
theorem State.startReadout_eq (s : State) (c d : Nat) (o : DieOp) (dual : Bool) :
    ∃ res framing r again, s.startReadout c d o dual =
      { s.modDie c d fun di => { di with res := res, dual := framing } with
          sd := { s.sd with readouts := s.sd.readouts.put c r, again := again } }.showDual c := ⟨_, _, _, _, rfl⟩

/-- Of a die's state, no more than these two change. -/
theorem State.startReadout_die (s : State) (c d : Nat) (o : DieOp) (dual : Bool) (d' : Nat) :
    ∃ res framing, (s.startReadout c d o dual).die c d' = { s.die c d' with res := res, dual := framing } := by
  obtain ⟨res, framing, r, again, e⟩ := s.startReadout_eq c d o dual
  have hfl : (s.startReadout c d o dual).fl = (s.modDie c d fun di => { di with res := res, dual := framing }).fl := by
    rw [e, State.showDual_fl]
  rw [State.die_of_fl hfl]
  by_cases h : d = d'
  · subst h
    exact ⟨res, framing, s.modDie_die c d _⟩
  · exact ⟨_, _, s.modDie_die_ne c d c d' _ (fun e => h (dieKey_inj e))⟩

theorem State.nextSampleOut_die (s : State) (c d : Nat) :
    ∃ res framing, (s.nextSampleOut c).die c d = { s.die c d with res := res, dual := framing } := by
  unfold State.nextSampleOut
  split
  · exact ⟨_, _, rfl⟩
  · split
    · exact State.startReadout_die s c _ _ _ d
    · exact ⟨_, _, rfl⟩

theorem State.nextSampleOut_running {s : State} {c : Nat} (h : s.sd.readouts.has c = true) : s.nextSampleOut c = s := if_pos h

theorem State.startReadout_has (s : State) (c d : Nat) (o : DieOp) (dual : Bool) : (s.startReadout c d o dual).sd.readouts.has c = true := by
  obtain ⟨res, framing, r, again, e⟩ := s.startReadout_eq c d o dual
  rw [e, State.showDual_sd, NMap.has, NMap.look_put_same]
  rfl

/-- With samples in a die of the channel, one Sample Out runs on it (R165). -/
theorem State.nextSampleOut_has {s : State} {c d : Nat} {o : DieOp} (hd : d < 32) (h : (s.die c d).samples = some o) :
    (s.nextSampleOut c).sd.readouts.has c = true := by
  have hmem : (d, o) ∈ (List.range 32).filterMap fun d => (s.die c d).samples.map fun o => (d, o) :=
    List.mem_filterMap.2 ⟨d, List.mem_range.2 hd, by rw [h, Option.map_some]⟩
  have hleast := leastBy_isSome (fun (e : Nat × DieOp) => e.2.readKey) (List.ne_nil_of_mem hmem)
  unfold State.nextSampleOut
  split
  · assumption
  · split
    · exact State.startReadout_has s c _ _ _
    · rename_i e
      rw [e] at hleast
      cases hleast

theorem ReadoutOnly.cd_xl (h : ReadoutOnly s t) : t.cd = s.cd ∧ t.xl = s.xl := by
  obtain ⟨_, _, _, _, _, _, rfl⟩ := h
  exact ⟨rfl, rfl⟩

theorem ReadoutOnly.badCols (h : ReadoutOnly s t) : t.sd.badCols = s.sd.badCols := by
  obtain ⟨_, _, _, _, _, _, rfl⟩ := h
  rfl

theorem FlashOnly.sd (h : FlashOnly s t) : t.sd = s.sd := by
  obtain ⟨_, _, rfl⟩ := h
  rfl

/-- A read that has ended leaves its window, or else the die, free. -/
theorem State.readIdle_free (s : State) (c d : Nat) (o : DieOp) (n : Nat) :
    ((s.readIdle c d o n).die c d).winRead = none ∧ ((s.die c d).winRead = none → ((s.readIdle c d o n).die c d).run = none) := by
  rw [State.readIdle_die]
  cases hw : (s.die c d).winRead with
  | none => simp [hw]
  | some w => simp

-- samples ready

/-- The read has ended, and the wordline stands in the die's sample registers (R185). -/
def State.samplesReady (s : State) (c d : Nat) (o : DieOp) (n : Nat) : State :=
  (s.readIdle c d o n).modDie c d fun di => { di with samples := some o }

theorem flashOnly_samplesReady (s : State) (c d : Nat) (o : DieOp) (n : Nat) : FlashOnly s (s.samplesReady c d o n) :=
  ((FlashOnly.refl s).readIdle _ _ _ _).modDie _ _ _

theorem State.samplesReady_die (s : State) (c d : Nat) (o : DieOp) (n : Nat) :
    (s.samplesReady c d o n).die c d = { (s.readIdle c d o n).die c d with samples := some o } := State.modDie_die _ _ _ _

theorem exec_sampleReadComplete {s : State} {c d n : Nat} {o : DieOp} (h : s.readEnds c d .sampleRead = some (o, n)) :
    exec (.sampleReadComplete c d) s =
      actWhen s (dieOk c d && s.flashOn && s.busFree c && (s.readEnds c d .sampleRead).isSome) fun _ =>
        (s.samplesReady c d o n).nextSampleOut c := by
  show execSampleReadComplete c d s = _
  unfold execSampleReadComplete actWhen act actTo
  simp only [h]
  rfl

theorem row_sampleReadComplete (ch die : Nat) (o : DieOp) (since : Nat) (s : State) : Rows.sampleReadComplete ch die o since s := by
  intro h
  refine effect_actWhen (exec_sampleReadComplete h) (by simp [dieOk, h, and_assoc]) fun ⟨_, hd, _⟩ => ?_
  have flash := flashOnly_samplesReady s ch die o since
  have readout := flash.readout.trans (readoutOnly_nextSampleOut _ ch)
  obtain ⟨res, framing, hdie⟩ := (s.samplesReady ch die o since).nextSampleOut_die ch die
  rw [State.samplesReady_die] at hdie
  obtain ⟨hwin, hrun⟩ := s.readIdle_free ch die o since
  obtain ⟨hzn, hwc, hhost, hpower, hservice⟩ := readout.keepsOutside.after s s.now
  obtain ⟨hcd, hxl⟩ := readout.cd_xl
  have hafter := State.die_of_fl (State.after_fl s s.now ((s.samplesReady ch die o since).nextSampleOut ch)) ch die
  rw [hafter, hdie, State.after_sd, State.after_cd, State.after_xl]
  refine ⟨rfl, hwin, hrun, ?_, fun hr => ?_, hcd, hzn, hwc, hxl, hhost, hpower, hservice, readout.keepsFaults.after s s.now⟩
  · exact State.nextSampleOut_has hd (congrArg Die.samples (s.samplesReady_die ch die o since))
  · rw [State.nextSampleOut_running (by rwa [flash.sd]), flash.sd]

-- the end of a Sample Out

/-- A second Sample Out in dual-mark framing, from burst `b` on (R193). -/
def State.sampleOutAgain (s : State) (c : Nat) (r : Readout) (b : Nat) : State :=
  { s.modDie c r.die fun di => { di with dual := true } with
      sd := { s.sd with readouts := s.sd.readouts.put c { r with dual := true, second := true, since := s.now, burst := b, start := 0 } } }.showDual c

/-- What SAMPLE_OUT_END makes of the state when every burst has been detected. -/
def State.sampleOutEnds (s : State) (c : Nat) (r : Readout) : State :=
  match r.unframed with
  | b :: _ => if ((s.die c r.die).samples.map (·.id)) = some r.op.id then s.sampleOutAgain c r b else (s.resample c r).nextSampleOut c
  | [] => s.readoutDone c r

theorem effect_sampleOutEnd {s : State} {c : Nat} {r : Readout} {P : State → Prop} (h : s.sd.readouts.look c = some r) (ht : r.todo = none)
    {u : State} (hu : s.sampleOutEnds c r = u) (hP : c < 64 → P (s.after s.now u)) :
    Effect (.sampleOutEnd c) s (c < 64 ∧ s.flashOn = true ∧ 9 ≤ r.burst) P := by
  have he : exec (.sampleOutEnd c) s = actWhen s (decide (c < 64) && s.flashOn && decide (9 ≤ r.burst)) fun _ => s.sampleOutEnds c r := by
    show execSampleOutEnd c s = _
    unfold execSampleOutEnd actWhen act actTo
    simp only [h, State.detectTodo_none s c ht]
    rfl
  refine effect_actWhen he (by simp [and_assoc]) fun ⟨hc, _⟩ => ?_
  rw [hu]
  exact hP hc

/-- A channel shows a die in dual-mark framing (Table 07.8). -/
theorem State.showDual_get {s : State} {c d : Nat} (hc : c < 64) (hd : d < 32) (hst : s.get FSQ_DIE_STATE c d ≠ dieAbsent)
    (h : (s.die c d).dual = true) : (s.showDual c).get SDF_STATUS_DUAL c = 1 := by
  have hhas : SDF_STATUS_DUAL.reg.has c 0 = true :=
    (Reg.has_iff _ c 0).2 ⟨Nat.zero_le _, by simpa [SDF_STATUS_DUAL, rSDF_STATUS] using hc, by decide⟩
  have hany : ((List.range 32).any fun d => s.get FSQ_DIE_STATE c d != dieAbsent && (s.die c d).dual) = true :=
    List.any_eq_true.2 ⟨d, List.mem_range.2 hd, by simp [hst, h]⟩
  unfold State.showDual State.setB
  rw [hany, State.get_set _ _ _ _ _ hhas]
  rfl

theorem onlyRegs_sampleOutAgain (s : State) (c : Nat) (r : Readout) (b : Nat) :
    OnlyRegs [SDF_STATUS_DUAL.key c 0] s (s.sampleOutAgain c r b) := fun k hk hs => onlyRegs_set _ SDF_STATUS_DUAL _ c 0 k hk hs

theorem readoutOnly_sampleOutAgain (s : State) (c : Nat) (r : Readout) (b : Nat) : ReadoutOnly s (s.sampleOutAgain c r b) :=
  ReadoutOnly.trans ⟨_, _, _, _, _, _, rfl⟩ ((FlashOnly.refl _).showDual c).readout

theorem State.sampleOutAgain_die (s : State) (c : Nat) (r : Readout) (b : Nat) :
    (s.sampleOutAgain c r b).die c r.die = { s.die c r.die with dual := true } := by
  have hfl : (s.sampleOutAgain c r b).fl = (s.modDie c r.die fun di => { di with dual := true }).fl := State.showDual_fl _ c
  rw [State.die_of_fl hfl, State.modDie_die]

theorem State.sampleOutAgain_get {s : State} {c : Nat} {r : Readout} (hc : c < 64) (hd : r.die < 32)
    (hst : s.get FSQ_DIE_STATE c r.die ≠ dieAbsent) (b : Nat) : (s.sampleOutAgain c r b).get SDF_STATUS_DUAL c = 1 := by
  refine State.showDual_get hc hd hst ?_
  exact congrArg Die.dual (s.modDie_die c r.die fun di => { di with dual := true })

theorem row_sampleOutEnd_again (ch : Nat) (r : Readout) (b : Nat) (l : List Nat) (s : State) : Rows.sampleOutEnd_again ch r b l s := by
  rintro ⟨h, hb, ht, hs, hd, hst⟩
  have hu : s.sampleOutEnds ch r = s.sampleOutAgain ch r b := by
    unfold State.sampleOutEnds
    rw [hb]
    exact if_pos hs
  refine effect_sampleOutEnd h ht hu fun hc => ?_
  have readout := readoutOnly_sampleOutAgain s ch r b
  obtain ⟨hzn, hwc, hhost, hpower, hservice⟩ := readout.keepsOutside.after s s.now
  obtain ⟨hcd, hxl⟩ := readout.cd_xl
  rw [State.die_of_fl (State.after_fl s s.now _) ch r.die, s.sampleOutAgain_die, State.get_after _ _ _ _ _ _ (key_not_shown (by decide) ch 0),
    State.after_sd, State.after_cd, State.after_xl]
  exact ⟨State.showDual_sd _ ch, hcd, hzn, hwc, hxl, rfl, rfl, State.sampleOutAgain_get hc hd hst b, (onlyRegs_sampleOutAgain s ch r b).after,
    hhost, hpower, hservice, readout.keepsFaults.after s s.now⟩

-- a new Sample Read

theorem Die.enqueue_queued (di : Die) (o : DieOp) : o ∈ (di.enqueue o).queued := by
  unfold Die.enqueue
  cases o.kind <;> dsimp only <;> split <;> simp [Die.queued]

/-- The unframed bursts wait for a new Sample Read, which is queued (R193). -/
def State.samplesLost (s : State) (c : Nat) (r : Readout) : State :=
  { s with sd := { s.sd with readouts := s.sd.readouts.del c, again := s.sd.again.put (dieKey c r.die) { r with
      unframed := (List.range 9).filter fun b => !r.cells.has b, op := { r.op with dual := true } } } }.modDie c r.die
    fun di => ({ di with samples := none } : Die).enqueue { r.op with dual := true }

/-- So does its codeword. -/
def State.senseAgain (s : State) (c : Nat) (r : Readout) (id : Nat) : State := (s.samplesLost c r).modCw' id fun x => { x with stage := .queued }

theorem State.resample_eq {s : State} {c id : Nat} {r : Readout} (h : r.op.cws = [id]) :
    s.resample c r = s.senseAgain c r id := by
  have he : s.resample c r = (s.samplesLost c r).each r.op.cws fun i s => s.modCw' i fun x => { x with stage := .queued } := rfl
  rw [he, h]
  rfl

theorem readoutOnly_samplesLost (s : State) (c : Nat) (r : Readout) : ReadoutOnly s (s.samplesLost c r) := ⟨_, _, _, _, _, _, rfl⟩

theorem State.modCw'_cw (s : State) (id : Nat) (f : Cw → Cw) : (s.modCw' id f).cw id = (s.cw id).map f := NMap.look_modify_same _ _ _

theorem State.modCw'_cw_ne (s : State) (f : Cw → Cw) {id i : Nat} (h : id ≠ i) : (s.modCw' id f).cw i = s.cw i :=
  NMap.look_modify_ne _ f h

theorem State.samplesLost_queued (s : State) (c : Nat) (r : Readout) :
    { r.op with dual := true } ∈ ((s.samplesLost c r).die c r.die).queued := by
  unfold State.samplesLost
  rw [State.modDie_die]
  exact Die.enqueue_queued _ _

/-- Nothing but decoding has changed. -/
def CodecOnly (s t : State) : Prop := ∃ cd, t = { s with cd := cd }

theorem CodecOnly.refl (s : State) : CodecOnly s s := ⟨_, rfl⟩

theorem CodecOnly.trans (h : CodecOnly s t) (g : CodecOnly t u) : CodecOnly s u := by
  obtain ⟨_, rfl⟩ := h
  obtain ⟨_, rfl⟩ := g
  exact ⟨_, rfl⟩

theorem CodecOnly.keepsOutside (h : CodecOnly s t) : KeepsOutside s t := by
  obtain ⟨_, rfl⟩ := h
  simp [KeepsOutside, KeepsHost, KeepsPower, KeepsService]

theorem CodecOnly.fl_sd (h : CodecOnly s t) : t.fl = s.fl ∧ t.sd = s.sd := by
  obtain ⟨_, rfl⟩ := h
  exact ⟨rfl, rfl⟩

theorem State.cw_of_cd (h : t.cd = s.cd) (id : Nat) : t.cw id = s.cw id := by
  unfold State.cw
  rw [h]

theorem row_sampleOutEnd_resample (ch : Nat) (r : Readout) (b id : Nat) (l : List Nat) (s : State) :
    Rows.sampleOutEnd_resample ch r b id l s := by
  rintro ⟨h, hb, ht, hs, hd, hcw⟩
  have hu : s.sampleOutEnds ch r = (s.senseAgain ch r id).nextSampleOut ch := by
    unfold State.sampleOutEnds
    rw [hb, hs, State.resample_eq hcw]
    exact if_neg (by simp)
  refine effect_sampleOutEnd h ht hu fun _ => ?_
  have lost := readoutOnly_samplesLost s ch r
  have queued : CodecOnly (s.samplesLost ch r) (s.senseAgain ch r id) := ⟨_, rfl⟩
  have next := readoutOnly_nextSampleOut (s.senseAgain ch r id) ch
  obtain ⟨hzn, hwc, hhost, hpower, hservice⟩ := ((lost.keepsOutside.trans queued.keepsOutside).trans next.keepsOutside).after s s.now
  obtain ⟨hcd, hxl⟩ := next.cd_xl
  obtain ⟨res, framing, hdie⟩ := (s.senseAgain ch r id).nextSampleOut_die ch r.die
  refine ⟨?_, ?_, hzn, hwc, ?_, hhost, hpower, hservice⟩
  · rw [State.cw_of_cd ((State.after_cd _ _ _).trans hcd), State.senseAgain, State.modCw'_cw, State.cw_of_cd lost.cd_xl.1, Option.map_map]
    rfl
  · rw [State.die_of_fl (State.after_fl s s.now _), hdie]
    exact List.any_eq_true.2 ⟨_, s.samplesLost_queued ch r, beq_self_eq_true _⟩
  · rw [State.after_xl, hxl]
    rfl

-- the end of a readout

/-- The Sample Out is over: a second one is charged, the loops are learned, and the die's registers are free (R207). -/
def State.readoutTaken (s : State) (c : Nat) (r : Readout) : State :=
  let s := if r.second then s.debit c r.die r.op (s.now - r.since) else s
  let s := s.learn c r
  { s with sd := { s.sd with readouts := s.sd.readouts.del c } }.modDie c r.die fun di => { di with samples := none }

/-- The decided means of a WL + 1 that was read for another wordline are kept (R212). -/
def State.readoutLearned (s : State) (c : Nat) (r : Readout) : State :=
  let s := s.readoutTaken c r
  if r.op.owner = .upper then
    { s with sd := { s.sd with upper := s.sd.upper.put (planeKey c r.die r.op.block r.op.wl r.op.plane) r.levels } }
  else s

/-- The drift of the class is noted in the wear record of the block's owner (R223). -/
def State.driftCounted (s : State) (c : Nat) (r : Readout) : State :=
  match s.ownerOf c r.die r.op.block with
  | some (set, key, _) =>
    s.modWear set key fun w => w.drift (s.classRec c (s.classOf c r.die r.op.block r.op.wl r.op.media)).driftOf
  | none => s

/-- The readout is over, but for its codewords. -/
def State.readoutOver (s : State) (c : Nat) (r : Readout) : State := (s.readoutLearned c r).driftCounted c r

/-- A codeword goes to the decoders with its ratios (R211, R214). -/
def State.softCw (s : State) (r : Readout) (i : Nat) : State :=
  match s.cw i with
  | some x => s.toDecoder i (.soft (r.llrOfCw x.page x.pos))
  | none => s

theorem State.readoutDone_eq (s : State) (c : Nat) (r : Readout) :
    s.readoutDone c r =
      ((s.readoutOver c r).each r.op.cws fun i s => s.softCw r i).feed.nextSampleOut c := rfl

theorem readoutOnly_learn (s : State) (c : Nat) (r : Readout) : ReadoutOnly s (s.learn c r) := by
  unfold State.learn
  split
  · exact ⟨_, _, _, _, _, _, rfl⟩
  · exact .refl s

theorem ReadoutOnly.when (h : ReadoutOnly s t) (b : Prop) [Decidable b] : ReadoutOnly s (if b then t else s) := by
  split
  · exact h
  · exact .refl s

theorem readoutOnly_readoutLearned (s : State) (c : Nat) (r : Readout) : ReadoutOnly s (s.readoutLearned c r) := by
  have debited := ((FlashOnly.refl s).debit c r.die r.op (s.now - r.since)).readout.when (r.second = true)
  have taken : ReadoutOnly s (s.readoutTaken c r) := (debited.trans (readoutOnly_learn _ c r)).trans ⟨_, _, _, _, _, _, rfl⟩
  unfold State.readoutLearned
  dsimp only
  split
  · exact taken.trans ⟨_, _, _, _, _, _, rfl⟩
  · exact taken

theorem State.readoutLearned_samples (s : State) (c : Nat) (r : Readout) : ((s.readoutLearned c r).die c r.die).samples = none := by
  have hfl : (s.readoutLearned c r).fl = (s.readoutTaken c r).fl := by
    unfold State.readoutLearned
    dsimp only
    split
    · rfl
    · rfl
  rw [State.die_of_fl hfl]
  exact congrArg Die.samples (State.modDie_die _ _ _ _)

theorem driftCounted_keeps (s : State) (c : Nat) (r : Readout) :
    KeepsOutside s (s.driftCounted c r) ∧ (s.driftCounted c r).fl = s.fl ∧ (s.driftCounted c r).sd = s.sd ∧ (s.driftCounted c r).cd = s.cd := by
  unfold State.driftCounted
  split
  · exact ⟨keepsOutside_modWear _ _ _ _, State.modWear_fl _ _ _ _, State.modWear_sd _ _ _ _, State.modWear_cd _ _ _ _⟩
  · exact ⟨(CodecOnly.refl s).keepsOutside, rfl, rfl, rfl⟩

theorem codecOnly_softCw (s : State) (r : Readout) (i : Nat) : CodecOnly s (s.softCw r i) := by
  unfold State.softCw
  split
  · exact ⟨_, rfl⟩
  · exact .refl s

theorem State.softCw_cw (s : State) (r : Readout) (i : Nat) :
    ((s.softCw r i).cw i).map (fun x => (x.stage, x.step, x.owner)) = (s.cw i).map fun x => (.decoding, x.step, x.owner) := by
  unfold State.softCw
  split
  · rename_i x hx
    have he : (s.toDecoder i (.soft (r.llrOfCw x.page x.pos))).cw i =
        (s.cw i).map fun y => { y with stage := .decoding, input := some (.soft (r.llrOfCw x.page x.pos)), inst := none } := s.modCw'_cw i _
    rw [he, Option.map_map]
    rfl
  · rename_i hx
    rw [hx]
    rfl

/-- The decoders' feed gives a codeword the decoder it runs on, and nothing else. -/
theorem feedOne_keeps {α : Type} {g : Cw → α} (hg : ∀ x k, g { x with inst := some k } = g x) (s : State) (i : Nat) :
    CodecOnly s s.feedOne ∧ (s.feedOne.cw i).map g = (s.cw i).map g := by
  unfold State.feedOne
  split
  · rename_i id rest k _ _
    refine ⟨⟨_, rfl⟩, ?_⟩
    by_cases hi : id = i
    · subst hi
      rw [State.modCw'_cw, Option.map_map]
      exact congrArg (fun h => (s.cw id).map h) (funext fun x => hg x k)
    · rw [State.modCw'_cw_ne _ _ hi]
      rfl
  · exact ⟨.refl s, rfl⟩

theorem feed_keeps {α : Type} {g : Cw → α} (hg : ∀ x k, g { x with inst := some k } = g x) (s : State) (i : Nat) :
    CodecOnly s s.feed ∧ (s.feed.cw i).map g = (s.cw i).map g := by
  unfold State.feed
  generalize s.cd.decodeQ.length = n
  induction n generalizing s with
  | zero => exact ⟨.refl s, rfl⟩
  | succ n ih =>
    obtain ⟨hone, hcw⟩ := feedOne_keeps hg s i
    obtain ⟨hrest, hcw'⟩ := ih s.feedOne
    exact ⟨hone.trans hrest, hcw'.trans hcw⟩

/-- With its readout over, the die's registers are free and the bad columns and the codewords are as they were. -/
theorem readoutOver_keeps (s : State) (c : Nat) (r : Readout) :
    KeepsOutside s (s.readoutOver c r) ∧ ((s.readoutOver c r).die c r.die).samples = none
      ∧ (s.readoutOver c r).sd.badCols = s.sd.badCols ∧ (s.readoutOver c r).cd = s.cd := by
  have learned := readoutOnly_readoutLearned s c r
  obtain ⟨hkeeps, hfl, hsd, hcd⟩ := driftCounted_keeps (s.readoutLearned c r) c r
  unfold State.readoutOver
  rw [State.die_of_fl hfl, hsd, hcd]
  exact ⟨learned.keepsOutside.trans hkeeps, s.readoutLearned_samples c r, learned.badCols, learned.cd_xl.1⟩

theorem row_sampleOutEnd (ch : Nat) (r : Readout) (id : Nat) (s : State) : Rows.sampleOutEnd ch r id s := by
  rintro ⟨h, hb, ht, hcw, hd, -⟩
  have hu : s.sampleOutEnds ch r = ((s.readoutOver ch r).softCw r id).feed.nextSampleOut ch := by
    unfold State.sampleOutEnds
    rw [hb]
    dsimp only
    rw [State.readoutDone_eq, hcw]
    rfl
  refine effect_sampleOutEnd h ht hu fun _ => ?_
  obtain ⟨kept, hsamples, hbad, hcd⟩ := readoutOver_keeps s ch r
  have soft := codecOnly_softCw (s.readoutOver ch r) r id
  obtain ⟨fed, hfed⟩ := feed_keeps (g := fun x => (x.stage, x.step, x.owner)) (fun _ _ => rfl) ((s.readoutOver ch r).softCw r id) id
  have next := readoutOnly_nextSampleOut ((s.readoutOver ch r).softCw r id).feed ch
  obtain ⟨hfl, hsd⟩ := (soft.trans fed).fl_sd
  obtain ⟨hzn, hwc, hhost, hpower, hservice⟩ := ((kept.trans (soft.trans fed).keepsOutside).trans next.keepsOutside).after s s.now
  obtain ⟨res, framing, hdie⟩ := ((s.readoutOver ch r).softCw r id).feed.nextSampleOut_die ch r.die
  refine ⟨?_, ?_, ?_, hzn, hwc, hhost, hpower, hservice⟩
  · rw [State.cw_of_cd ((State.after_cd _ _ _).trans next.cd_xl.1), hfed, State.softCw_cw, State.cw_of_cd hcd]
  · rw [State.die_of_fl (State.after_fl s s.now _), hdie, State.die_of_fl hfl]
    exact hsamples
  · rw [State.after_sd, next.badCols, hsd, hbad]

-- class records and bad columns

theorem row_sdfClassClr (ch : Nat) (s : State) : Rows.sdfClassClr ch s := by
  have only : ReadoutOnly s { s with sd := { s.sd with classes := s.sd.classes.del ch } } := ⟨_, _, _, _, _, _, rfl⟩
  refine effect_actWhen (show exec _ s = actWhen s _ fun s => { s with sd := { s.sd with classes := s.sd.classes.del ch } } from rfl)
    (by simp) fun _ => ?_
  obtain ⟨hzn, hwc, hhost, hpower, hservice⟩ := only.keepsOutside.after s s.now
  exact ⟨State.after_sd _ _ _, State.after_cd _ _ _, hzn, hwc, State.after_xl _ _ _, State.after_fl _ _ _,
    (onlyRegs_of_eq [] rfl).after, hhost, hpower, hservice, only.keepsFaults.after s s.now⟩

/-- A command that may remove a case has, in a bound state, its effect where its event can occur, and none elsewhere (log 6). -/
theorem effect_actRemovingWhen {c : Instr} {s : State} {b : Bool} {f : State → State} {occurs : Prop} {P : State → Prop}
    (he : exec c s = actRemovingWhen s b f) (hb : b = true ↔ occurs) (hP : P (s.after s.now (f s))) : Effect c s occurs P := by
  intro bound
  refine ⟨_, he.trans (actRemovingWhen_bound bound b f), fun h => ?_, fun h => ?_⟩
  · rw [if_pos (hb.2 h)]
    exact hP
  · rw [if_neg (mt hb.1 h)]
    rfl

/-- What SDF_BADCOL_WRITE makes of the state (R207): reserved bits and overlapping ranges are unchecked host errors (R448). -/
def State.badColWritten (s : State) (c value : Nat) : State :=
  let s := s.setUnbound (.rsv (rSDF_BADCOL_DATA.at c 0)) (bits value 30 24 != 0)
  s.putBadCol c (s.get SDF_BADCOL_SEL_DIE c) (s.get SDF_BADCOL_SEL_PLANE c) (s.get SDF_BADCOL_SEL_INDEX c) (bits value 17 0) (bits value 23 18 + 1)
    (bit value 31)

theorem State.badColWritten_sd (s : State) (c value : Nat) :
    (s.badColWritten c value).sd =
      { s.sd with
          badCols := s.sd.badCols.put
            (((c * 32 + s.get SDF_BADCOL_SEL_DIE c) * 4 + s.get SDF_BADCOL_SEL_PLANE c) * 256 + s.get SDF_BADCOL_SEL_INDEX c)
            (bits value 17 0, bits value 23 18 + 1, bit value 31) } := by
  have hsel (f : Field) : (s.setUnbound (.rsv (rSDF_BADCOL_DATA.at c 0)) (bits value 30 24 != 0)).get f c = s.get f c :=
    State.get_of_regs (State.setUnbound_regs _ _ _) f c 0
  simp [State.badColWritten, State.putBadCol, hsel]

theorem keeps_badColWritten (s : State) (c value : Nat) :
    (s.badColWritten c value).regs = s.regs ∧ KeepsHost s (s.badColWritten c value) ∧ KeepsPower s (s.badColWritten c value)
      ∧ KeepsService s (s.badColWritten c value) ∧ KeepsFaults s (s.badColWritten c value) := by
  simp [State.badColWritten, State.putBadCol, KeepsHost, KeepsPower, KeepsService, KeepsFaults]

theorem row_sdfBadcolWrite (ch value : Nat) (s : State) : Rows.sdfBadcolWrite ch value s := by
  intro _
  refine effect_actRemovingWhen (show exec _ s = actRemovingWhen s _ fun s => s.badColWritten ch value from rfl) (by simp) ?_
  obtain ⟨hregs, hhost, hpower, hservice, hfaults⟩ := keeps_badColWritten s ch value
  rw [State.after_sd, s.badColWritten_sd]
  exact ⟨rfl, (onlyRegs_of_eq [] hregs).after, hhost.after s s.now, hpower.after s s.now, hservice.after s s.now, hfaults.after s s.now⟩

/-- Settles O14: that a command whose event cannot occur completes with no effect is log 6. -/
theorem sampleDetection : Obligations.SampleDetection :=
  ⟨row_sampleReadComplete, row_burstReceived, row_sampleOutEnd, row_sampleOutEnd_again, row_sampleOutEnd_resample, row_sdfClassClr,
   row_sdfBadcolWrite⟩

end Sys2Proof.Machine
end

section
/-!
SUPPORT. A relocation step whose victim has a live slot on a failed die: the slot is read by reconstruction, so the step begins reads of the
slot's stripe peers too (R171, R239).
-/

namespace Sys2Proof.Machine

-- One proof at a time, as in Tests/Witnesses: each kernel evaluation on a thread of its own would take its stack beside the others'.
set_option Elab.async false

/-- What RELOCATION_STEP makes of the state. -/
def State.relocationStepped (s : State) : State := s.relocate.showReloc.pump

theorem exec_relocationStep {s : State} (bound : Bound s) (h : s.mayRelocate = true) :
    exec .relocationStep s = .next (s.after s.now s.relocationStepped) :=
  show execRelocationStep s = _ from actWhen_true bound h State.relocationStepped

/-- The slot at which LBA 4 of namespace 2 stands: the first of row 0, in stripe slot 1, slot 0 holding the parity (R88, R227). -/
def keptKey : FootKey := { slot := 0, nsid := 2, lba := 4, seq := 1, reloc := none }

/-- A full set on die 1 of channels 0 to 15 that holds one valid LBA; every wordline of it has passed verify. -/
def fullSet : BlockSet :=
  { fn := 0, split := false, route := 0, prio := 0, nextRow := 1024, closed := true, unprotected := false, valid := 1, firstProg := 0,
    keys := [keptKey], parityRows := 1024, retire := none,
    members := (List.range 16).map fun ch =>
      { ch := ch, die := 1, block := 9, issued := 1024, verified := 1024, moved := false, rebuilt := none, old := none } }

/-- In RUN with two DRAM channels live, that set is to be relocated; its dies are in service but for that of channel 1, which has failed. -/
def victimOnFailedDie : State :=
  { sidebandRun with pool := { PoolState.reset with chans := [0, 1], per := 16 },
                     ns := [(2, { zoned := false, nsze := granuleLbas, attach0 := true, attach1 := false, writeProtect := false, deleting := none })],
                     xl := { MapState.reset with victims := [3], sets := [(3, fullSet)], granules := [(2, [0])], map := [(2, [(4, .flash 3 0)])] } }
  |>.set DMC_CH_STAT_POP 1 0 |>.set DMC_CH_STAT_POP 1 1
  |>.each (List.range 16) fun ch s => s.set FSQ_DIE_STATE (if ch = 1 then dieFailed else dieActive) ch 1

/-- The set is the next victim of a relocation that may run, and nothing waits. -/
theorem victimOnFailedDie_relocates :
    Bound victimOnFailedDie ∧ victimOnFailedDie.mayRelocate = true ∧ Quiet victimOnFailedDie ∧ victimOnFailedDie.victim = some 3
      ∧ victimOnFailedDie.xl.sets.look 3 = some fullSet ∧ victimOnFailedDie.liveSlots 3 = [keptKey] := by
  decide +kernel

/-- Codeword 0 reads the live slot, and codewords 1 to 15 read its peers at the other 15 slots of the stripe. -/
theorem victimOnFailedDie_reads_peers :
    (victimOnFailedDie.relocationStepped.cd.cws.map fun e => (e.1, e.2.owner))
      = (0, .reloc 3 0) :: (1, .peer 0 0) :: (List.range 14).map fun i => (i + 2, .peer 0 (i + 2)) := by
  decide +kernel

/-- Refutes O20: its clause on RELOCATION_STEP has every codeword that the step begins read a live slot of the victim, but a live slot on a failed
die is served by reconstruction (R171), and the codewords of its peers are begun with it. The clause does not ask that the victim's dies be in
service. -/
theorem not_checkpointsAndRelocation : ¬ Obligations.CheckpointsAndRelocation := by
  rintro ⟨-, -, -, -, -, -, -, -, reads, -⟩
  obtain ⟨bound, may, quiet, victim, set, -⟩ := victimOnFailedDie_relocates
  obtain ⟨-, -, only, -⟩ := (reads 3 fullSet victimOnFailedDie ⟨quiet, victim, set, by decide⟩).of_exec bound
    (exec_relocationStep bound may) may
  have peer : (1, CwFor.peer 0 0) ∈ victimOnFailedDie.relocationStepped.cd.cws.map fun e => (e.1, e.2.owner) := by
    rw [victimOnFailedDie_reads_peers]
    simp
  obtain ⟨e, he, owner⟩ := List.mem_map.1 peer
  rw [State.after_cd] at only
  obtain ⟨k, -, reloc⟩ := only e he (Nat.zero_le _)
  exact absurd ((Prod.mk.inj owner).2.symm.trans reloc) CwFor.noConfusion

end Sys2Proof.Machine
end

section
/-!
SUPPORT. A limit that falls while a slice is being reset, with the energy that the gauge gives or with the dump dies that a commit uses up: the
new share replaces word 5 of the budget written during the reset (R66, R75, R132).
-/

namespace Sys2Proof.Machine

-- One proof at a time, as in Tests/Witnesses: each kernel evaluation on a thread of its own would take its stack beside the others'.
set_option Elab.async false

-- the commit of a dump

theorem exec_dumpCommit {s : State} (bound : Bound s) {d : Dump} (hd : s.hu.dump = some d) (hm : s.inModes [.detour] = true)
    (hc : d.mayCommit = true) : exec .dumpCommit s = .next (s.after s.now s.commitDump) := by
  have hnone : d.committedAt.isNone = true := by
    obtain ⟨h, -⟩ := Bool.and_eq_true_iff.1 hc
    exact h
  show execDumpCommit s = _
  unfold execDumpCommit
  rw [hd]
  exact actWhen_true bound (by simp [hm, hc, hnone]) State.commitDump

/-- The keys of die 0 of channels 0 to 15. -/
def sixteenDies : List Nat := (List.range 16).map fun c => dieKey c 0

/-- A dump on slot 0 of those dies, begun in RUN: each holds one unit, and its directory is verified. -/
def writtenDump : Dump :=
  { record := { dseq := 1, slot := 0, superseded := false, thermal := false, interrupted := false, released := false, isPartial := false,
                nDies := 16, units := 16, lossNs := 0, durUs := 0, eStart := 0, eEnd := 0, dies := sixteenDies, committed := false },
    left := Mode.run.code, queue := [], busy := [], written := sixteenDies.map fun k => (k, [k]), used := sixteenDies, failed := [],
    suspect := [], dirBusy := [], dirs := sixteenDies, empty := false, fault := false, thermal := false,
    image := { pairs := [], missing := [], seq := 0, recs := [] }, committedAt := none }

/-- In DETOUR with that dump and the input valid again, a slice reset held over it; the limit of 1 GiB stands on 60 J and those 16 dump dies, of
which slot 0 alone is armed. -/
def commitInReset : State :=
  withDumpDies { sidebandRun with md := { ModeState.reset with mode := .detour }, wc := { CacheState.reset with started := true },
                                  hu := { HoldState.reset with validSince := some 0, dump := some writtenDump },
                                  resets := [(0, resetWithShare)] }
  |>.set SLM_RSTAT_HELD 1 0 |>.set HUC_DUMP_N_H 16 |>.set WCU_LIMIT_IN_N_H 16 |>.set WCU_LIMIT_IN_EU (32 * 60)
  |>.set WCU_DIRTY_CFG_CEIL_MAX 256 |>.set WCU_LIMIT_L 16

/-- The dump may commit, its units stand on dies, and nothing of it is thermal, a fault's or an off request's; the limit is below what 60 J and
16 dies give. -/
theorem commitInReset_commits :
    Bound commitInReset ∧ commitInReset.inModes [.detour] = true ∧ writtenDump.mayCommit = true ∧ commitInReset.hu.dump = some writtenDump
      ∧ writtenDump.dirDies ≠ [] ∧ commitInReset.md.offDetour = false ∧ commitInReset.hu.validSince ≠ none
      ∧ commitInReset.get WCU_LIMIT_L ≤ commitInReset.newLimit := by
  decide +kernel

/-- With the slots it has used no dump die is healthy any more (R255): the limit falls to 0, and the new share takes the place of the word
written during the reset. -/
theorem commitInReset_drops_word :
    commitInReset.commitDump.get WCU_LIMIT_L = 0 ∧ commitInReset.commitDump.resets = [(0, serviceReset)] := by
  decide +kernel

/-- Refutes O21: its clause on DUMP_COMMIT keeps the slice resets among the host's state, but the commit uses up the armed slots, N_h and with it
the dirty limit fall (R131, R255), and the share that the new limit gives (R66) replaces word 5 of a budget written during a reset (R75), which
that reset no longer holds then. -/
theorem not_holdUpDetourAndReturn : ¬ Obligations.HoldUpDetourAndReturn := by
  rintro ⟨-, -, -, -, -, -, -, -, -, -, commits, -⟩
  obtain ⟨bound, mode, may, dump, dies, off, valid, -⟩ := commitInReset_commits
  obtain ⟨-, -, -, -, -, -, -, -, -, -, host, -⟩ := (commits writtenDump commitInReset ⟨dump, dies, rfl, rfl, rfl, off, valid⟩).of_exec
    bound (exec_dumpCommit bound dump mode may) ⟨mode, may⟩
  obtain ⟨-, -, -, -, -, -, -, -, -, -, resets⟩ := host
  obtain ⟨-, dropped⟩ := commitInReset_drops_word
  rw [State.after_resets, dropped] at resets
  exact absurd resets (by decide)

-- the gauge's estimates

/-- What GAUGE_RECOMPUTE makes of the gauge: the estimates are recomputed, and E_u and N_h go to the write cache; in REST a limit that would fall
wakes the device instead. -/
def State.recomputed (s : State) : State :=
  let s := s.estimate.readyEval.showGauge
  let t := s.supply (to32 s.eU) (s.get HUC_DUMP_N_H)
  if s.mode == .rest then (if t.newLimit < s.get WCU_LIMIT_L then s.wakeSource 7 else s) else t

theorem exec_gaugeRecompute {s : State} (bound : Bound s) (h : s.powered = true) :
    exec .gaugeRecompute s = .next (s.after s.now (s.gauged State.recomputed)) :=
  show execGaugeRecompute s = _ from actWhen_true bound h fun s => s.gauged State.recomputed

/-- In RUN without a pack, so that no energy is usable, with a slice reset under way, an empty cache, and a limit of 1 GiB still in force. -/
def recomputeInReset : State :=
  { sidebandRun with wc := { CacheState.reset with started := true }, resets := [(0, resetWithShare)] }.set WCU_LIMIT_L 16

theorem recomputeInReset_rests :
    Bound recomputeInReset ∧ Resting recomputeInReset ∧ recomputeInReset.powered = true ∧ recomputeInReset.md.mode ≠ .rest := by
  decide +kernel

/-- The limit falls to 0, and the new share takes the place of the word written during the reset. -/
theorem recomputeInReset_drops_word :
    (recomputeInReset.gauged State.recomputed).get WCU_LIMIT_L = 0
      ∧ (recomputeInReset.gauged State.recomputed).resets = [(0, serviceReset)] := by
  decide +kernel

/-- Refutes O22: its clause on GAUGE_RECOMPUTE keeps the slice resets among the host's state where nothing waits and the cache is empty, but with
the new E_u the dirty limit falls (R131, R268), and the share that it gives (R66) replaces word 5 of a budget written during a reset (R75), which
that reset no longer holds then. -/
theorem not_packGaugeAndCharger : ¬ Obligations.PackGaugeAndCharger := by
  rintro ⟨-, recomputes, -⟩
  obtain ⟨bound, resting, powered, mode⟩ := recomputeInReset_rests
  obtain ⟨-, -, -, -, -, -, keeps⟩ := (recomputes recomputeInReset mode).of_exec bound (exec_gaugeRecompute bound powered) powered
  obtain ⟨⟨-, -, -, -, -, -, -, -, -, -, resets⟩, -⟩ := keeps resting
  obtain ⟨-, dropped⟩ := recomputeInReset_drops_word
  rw [State.after_resets, dropped] at resets
  exact absurd resets (by decide)

end Sys2Proof.Machine
end

section
/-!
SUPPORT. The operations of the hold-up pack's gauge and charger (R268 to R281): what each of them leaves alone, what it shows of the pack, and
that no event raised is lost.
-/

namespace Sys2Proof.Machine

variable {K L : List Field} {s t u : State}

-- register fields and events

/-- The field lies before the pending words. -/
abbrev BeforePend (f : Field) : Prop := f.key 0 0 < 8 * rEVR_PEND.addr

/-- The fields of `K` before the pending words read in `t` as in `s`, and every event of `s` stands. -/
def FieldsKept (K : List Field) (s t : State) : Prop := (∀ f ∈ K, BeforePend f → t.get f = s.get f) ∧ EventsKept s t

theorem FieldsKept.of_eq (hr : t.regs = s.regs) (he : t.ev.todo = s.ev.todo) : FieldsKept K s t :=
  ⟨fun f _ _ => State.get_of_regs hr f 0 0, .of_eq hr he⟩

theorem FieldsKept.trans (h : FieldsKept K s t) (g : FieldsKept K t u) : FieldsKept K s u :=
  ⟨fun f hf hp => (g.1 f hf hp).trans (h.1 f hf hp), h.2.trans g.2⟩

theorem FieldsKept.mono (h : FieldsKept K s t) (hl : ∀ f ∈ L, f ∈ K) : FieldsKept L s t := ⟨fun f hf => h.1 f (hl f hf), h.2⟩

/-- None of the fields `K` is kept at the bit address, nor is a pending word. -/
abbrev Beside (K : List Field) (k : Nat) : Prop := k < 8 * rEVR_PEND.addr ∧ ∀ f ∈ K, k ≠ f.key 0 0

theorem fieldsKept_set (s : State) {f : Field} (v i j : Nat) (h : Beside K (f.key i j)) : FieldsKept K s (s.set f v i j) :=
  ⟨fun g hg _ => State.get_set_ne _ _ _ _ _ _ _ _ (h.2 g hg), (EventsKept.refl s).set h.1⟩

theorem fieldsKept_raise (s : State) (n q : Nat) : FieldsKept K s (s.raise n q) :=
  ⟨fun f _ hp => State.get_set_ne s EVR_PEND f _ _ _ _ _ (Nat.ne_of_gt (hp.trans_le (pend_key_ge _))),
   (EventsKept.refl s).raise n q⟩

theorem fieldsKept_bump (s : State) {b : CntBlock} {f : Field} (i n o si : Nat) (h : Beside K (f.key i 0))
    (hs : Beside K (b.sat.key si 0)) : FieldsKept K s (s.bump b f i n o si) :=
  ⟨fun g hg hp => State.get_bump_ne s (h.2 g hg) (hs.2 g hg) (Nat.ne_of_gt (hp.trans_le (pend_key_ge _))),
   (EventsKept.refl s).bump h.1 hs.1⟩

/-- A source raised from a state in which every event of an earlier one stands, and kept from then on, is raised from the earlier one. -/
theorem Raises.between {n q : Nat} {a : State} (h : FieldsKept K s a) (hn : n < 288) (g : FieldsKept L (a.raise n q) t) : Raises n s t :=
  ((raises_raise a n q hn).since h.2).kept g.2

-- the pack's books

/-- The fields that show what is known of the pack, and the counters of its rests and learning cycles. -/
def packFields : List Field :=
  [HUC_STATUS_PRESENT, HUC_STATUS_GSTATE, HUC_STATUS_READY, HUC_STATUS_CHARGE, HUC_FORCED_REST_CNT, HUC_LEARN_OK_CNT, HUC_LEARN_DQ_CNT,
   PSC_STATUS_HOLD_NOCFG]

/-- The state without what the gauge books as it goes: registers, events, output and free values, tickets, the pack's life record and history,
its estimates, the charge timer, the next learning cycle after a disqualified one, the converter, and the readiness that the cache sees. -/
def State.offBooks (s : State) : State :=
  { s with
    regs := [], out := [], freeCtr := 0, ev := { s.ev with todo := [], fired := [] }, mg := { s.mg with tickets := [] },
    wc := { s.wc with packReady := false, firstBefore := 0 }, pw := { s.pw with hubOn := false },
    hu := { s.hu with
      life := none, nextB := false, outAcc := 0, inAcc := 0, efcAcc := 0, svcMs := 0, hotMs := 0, detours := 0, history := [], histSeq := 0,
      histSlot := 0, ev := 0, epess := 0, empty := false, disagreeSince := none, chgSince := none, learnRetry := none } }

/-- Only the pack's books have changed, and of the fields `K` none. -/
def BooksOnly (K : List Field) (s t : State) : Prop := t.offBooks = s.offBooks ∧ FieldsKept K s t

theorem BooksOnly.refl (K : List Field) (s : State) : BooksOnly K s s := ⟨rfl, .of_eq rfl rfl⟩

theorem BooksOnly.trans (h : BooksOnly K s t) (g : BooksOnly K t u) : BooksOnly K s u := ⟨g.1.trans h.1, h.2.trans g.2⟩

theorem BooksOnly.mono (h : BooksOnly K s t) (hl : ∀ f ∈ L, f ∈ K) : BooksOnly L s t := ⟨h.1, h.2.mono hl⟩

/-- Of one change after another, the fields stay that both leave. -/
theorem BooksOnly.inter (h : BooksOnly K s t) (g : BooksOnly L t u) : BooksOnly (K ∩ L) s u :=
  (h.mono fun _ hf => (List.mem_inter_iff.1 hf).1).trans (g.mono fun _ hf => (List.mem_inter_iff.1 hf).2)

/-- A change of the books that reaches neither registers nor the event router. -/
theorem booksOnly_of_eq (ho : t.offBooks = s.offBooks) (hr : t.regs = s.regs) (he : t.ev.todo = s.ev.todo) : BooksOnly K s t :=
  ⟨ho, .of_eq hr he⟩

theorem State.offBooks_set (s : State) (f : Field) (v i j : Nat) : (s.set f v i j).offBooks = s.offBooks := by
  unfold State.set
  split <;> rfl

theorem State.offBooks_raise (s : State) (n q : Nat) : (s.raise n q).offBooks = s.offBooks := s.offBooks_set EVR_PEND _ _ 0

theorem State.offBooks_saturated (s : State) (b : CntBlock) (o si : Nat) : (s.saturated b o si).offBooks = s.offBooks := by
  unfold State.saturated
  split
  · rfl
  · exact (State.offBooks_raise _ _ _).trans (State.offBooks_set _ _ _ _ _)

theorem State.offBooks_bump (s : State) (b : CntBlock) (f : Field) (i n o si : Nat) : (s.bump b f i n o si).offBooks = s.offBooks := by
  unfold State.bump
  simp only
  split
  · exact (State.offBooks_saturated _ _ _ _).trans (State.offBooks_set _ _ _ _ _)
  · exact State.offBooks_set _ _ _ _ _

theorem State.offBooks_put (s : State) (o : Out) : (s.put o).offBooks = s.offBooks := by
  unfold State.put
  split <;> rfl

theorem State.offBooks_ticketEnd (s : State) (n : Option Nat) (st r0 : Nat) : (s.ticketEnd n st r0).offBooks = s.offBooks := by
  cases n <;> rfl

theorem BooksOnly.set (h : BooksOnly K s t) {f : Field} {v i j : Nat} (hb : Beside K (f.key i j)) : BooksOnly K s (t.set f v i j) :=
  h.trans ⟨t.offBooks_set f v i j, fieldsKept_set t v i j hb⟩

theorem BooksOnly.raise (h : BooksOnly K s t) {n q : Nat} : BooksOnly K s (t.raise n q) :=
  h.trans ⟨t.offBooks_raise n q, fieldsKept_raise t n q⟩

theorem BooksOnly.bump (h : BooksOnly K s t) {b : CntBlock} {f : Field} {i n o si : Nat} (hf : Beside K (f.key i 0))
    (hs : Beside K (b.sat.key si 0)) : BooksOnly K s (t.bump b f i n o si) :=
  h.trans ⟨t.offBooks_bump b f i n o si, fieldsKept_bump t i n o si hf hs⟩

theorem BooksOnly.put (h : BooksOnly K s t) (o : Out) : BooksOnly K s (t.put o) :=
  h.trans (booksOnly_of_eq (t.offBooks_put o) (State.put_regs t o) (by rw [State.put_ev]))

theorem BooksOnly.ticketEnd (h : BooksOnly K s t) (n : Option Nat) (st r0 : Nat) : BooksOnly K s (t.ticketEnd n st r0) := by
  refine h.trans (booksOnly_of_eq (t.offBooks_ticketEnd n st r0) ?_ ?_) <;> cases n <;> rfl

/-- What is no part of the books is as it was. -/
theorem BooksOnly.same {α : Type} (h : BooksOnly K s t) (g : State → α) : g t.offBooks = g s.offBooks := congrArg g h.1

/-- The host's side, what the zones, the flash and the map hold, and the mode are no part of the books. -/
theorem BooksOnly.keeps (h : BooksOnly K s t) : KeepsHost s t ∧ t.zn = s.zn ∧ t.fl = s.fl ∧ t.xl = s.xl ∧ t.md = s.md :=
  ⟨⟨h.same State.port0, h.same State.port1, h.same State.sqs, h.same State.cqs, h.same State.ctxs, h.same State.nextCtx, h.same State.doneQ,
    h.same State.ns, h.same State.late, h.same State.lateTotal, h.same State.resets⟩,
   h.same State.zn, h.same State.fl, h.same State.xl, h.same State.md⟩

theorem BooksOnly.get (h : BooksOnly K s t) {f : Field} (hf : f ∈ K ∧ BeforePend f) : t.get f = s.get f := h.2.1 f hf.1 hf.2

theorem BooksOnly.gauge (h : BooksOnly K s t) (hf : HUC_STATUS_GSTATE ∈ K) : t.gauge = s.gauge := h.get ⟨hf, by decide⟩

-- the history and the life record

theorem booksOnly_history (s : State) (n : Nat) : BooksOnly packFields s (s.history n) := by
  unfold State.history
  split
  · exact .refl _ s
  · exact (BooksOnly.put (booksOnly_of_eq rfl rfl rfl) _).put _

theorem booksOnly_writeLife (s : State) : BooksOnly packFields s s.writeLife := by
  unfold State.writeLife
  split
  · exact .refl _ s
  · exact ((BooksOnly.refl _ s).put _).trans (booksOnly_of_eq rfl rfl rfl)

/-- A life record leaves the history as it is. -/
theorem State.writeLife_history (s : State) : s.writeLife.hu.history = s.hu.history := by
  unfold State.writeLife
  split
  · rfl
  · simp

/-- An entry stands at the head of the history, unless the configuration is missing. -/
theorem State.history_head {s : State} (h : s.flag PSC_STATUS_HOLD_NOCFG = false) (n : Nat) :
    (s.history n).hu.history.head?.map (·.type) = some n := by
  unfold State.history
  simp [h]

-- what is shown

theorem booksOnly_estimate (s : State) : BooksOnly packFields s s.estimate := booksOnly_of_eq rfl rfl rfl

theorem booksOnly_showGauge (s : State) : BooksOnly packFields s s.showGauge := by
  unfold State.showGauge
  iterate 12 refine BooksOnly.set ?_ (by decide)
  exact .refl _ s

-- charger and gauge state

theorem State.chargeEval_stops {s : State} (h : s.chargeAllowed = false) :
    s.chargeEval = ({ s with hu := { s.hu with chgSince := none } }).set HUC_STATUS_CHARGE 0 := by
  simp [State.chargeEval, h]

/-- Where the charger may not run, it does not. -/
theorem State.charge_chargeEval {s : State} (h : s.chargeAllowed = false) : s.chargeEval.get HUC_STATUS_CHARGE = 0 := by
  rw [State.chargeEval_stops h, State.get_set _ _ _ _ _ rfl]
  rfl

/-- Every field of the pack but that of the charger. -/
def chargerFields : List Field := packFields.erase HUC_STATUS_CHARGE

theorem booksOnly_chargeEval (s : State) : BooksOnly chargerFields s s.chargeEval := by
  unfold State.chargeEval
  split
  · exact BooksOnly.set (booksOnly_of_eq rfl rfl rfl) (by decide)
  · split
    · exact BooksOnly.set (booksOnly_of_eq rfl rfl rfl) (by decide)
    · exact .refl _ s

/-- Every field of the pack but those of charger and gauge state. -/
def gaugeFields : List Field := chargerFields.erase HUC_STATUS_GSTATE

theorem booksOnly_setGauge (s : State) (g : Nat) : BooksOnly gaugeFields s (s.setGauge g) :=
  have set : BooksOnly gaugeFields s (s.set HUC_STATUS_GSTATE g) := (BooksOnly.refl _ s).set (by decide)
  (set.inter (booksOnly_chargeEval _)).mono (by decide)

theorem State.gauge_setGauge (s : State) {g : Nat} (h : g < 16) : (s.setGauge g).gauge = g := by
  rw [State.setGauge, (booksOnly_chargeEval (s.set HUC_STATUS_GSTATE g)).gauge (by decide), State.gauge, State.get_set _ _ _ _ _ rfl]
  exact Nat.mod_eq_of_lt h

/-- The charger stands in the gauge states that rest, learn or have failed. -/
theorem State.charge_setGauge (s : State) {g : Nat} (h : g ∈ [gsRest, gsForced, gsLearn, gsHibernate, gsFailed]) :
    (s.setGauge g).get HUC_STATUS_CHARGE = 0 := by
  have hlt : g < 16 := by revert g; decide
  have hg : (s.set HUC_STATUS_GSTATE g).gauge = g := (State.get_set _ _ _ _ _ rfl).trans (Nat.mod_eq_of_lt hlt)
  refine State.charge_chargeEval ?_
  unfold State.chargeAllowed
  simp only [hg]
  simp only [List.mem_cons, List.not_mem_nil, or_false] at h
  rcases h with rfl | rfl | rfl | rfl | rfl <;> simp [gsRest, gsForced, gsLearn, gsHibernate, gsFailed]

-- the converter and readiness

theorem booksOnly_hubEval (s : State) : BooksOnly packFields s s.hubEval := by
  unfold State.hubEval
  simp only
  split
  · exact booksOnly_of_eq rfl rfl rfl
  · exact BooksOnly.set (booksOnly_of_eq rfl rfl rfl) (by decide)

theorem State.hubEval_hubOn (s : State) : s.hubEval.pw.hubOn = (s.mode == .detour || (s.coreOn && s.hu.pack.isSome && s.gauge != gsFailed)) := by
  unfold State.hubEval
  simp only
  split <;> simp

theorem State.hubEval_hu (s : State) : s.hubEval.hu = s.hu := by
  unfold State.hubEval
  simp only
  split <;> simp

/-- The state in which the causes of write-through are `c`, and WT shows whether there is one. -/
def State.causesShown (s : State) (c : Nat) : State :=
  ((s.set WCU_STATUS_WT_CAUSE c).setB WCU_STATUS_WT (c != 0)).setB GLB_MODE_STATUS_WRITE_THROUGH (c != 0)

/-- The state in which write-through begins. -/
def State.throughBegun (s : State) : State := { s with wc := { s.wc with firstBefore := s.wc.commitSeq } }.bump blkWCU WCU_WT_ENTRY 0 1 ownWCU

/-- A change of causes shows them, and write-through that begins or ends raises an event (R135). -/
theorem State.setCause_cases (s : State) (k : Nat) (on : Bool) :
    ∃ c, s.setCause k on = (s.causesShown c).throughBegun.raise 275 ∨ s.setCause k on = (s.causesShown c).raise 276
      ∨ s.setCause k on = s.causesShown c := by
  refine ⟨putBit (s.get WCU_STATUS_WT_CAUSE) k on, ?_⟩
  unfold State.setCause
  simp only
  split
  · exact .inl rfl
  · split
    · exact .inr (.inl rfl)
    · exact .inr (.inr rfl)

theorem booksOnly_setCause (s : State) (k : Nat) (on : Bool) : BooksOnly packFields s (s.setCause k on) := by
  obtain ⟨c, h⟩ := s.setCause_cases k on
  have shown : BooksOnly packFields s (s.causesShown c) :=
    (((BooksOnly.refl _ s).set (by decide)).set (by decide)).set (by decide)
  have begun : BooksOnly packFields (s.causesShown c) (s.causesShown c).throughBegun :=
    BooksOnly.bump (t := { s.causesShown c with wc := { (s.causesShown c).wc with firstBefore := (s.causesShown c).wc.commitSeq } })
      (booksOnly_of_eq rfl rfl rfl) (by decide) (by decide)
  rcases h with e | e | e <;> rw [e]
  · exact (shown.trans begun).raise
  · exact shown.raise
  · exact shown

theorem State.setCause_hu (s : State) (k : Nat) (on : Bool) : (s.setCause k on).hu = s.hu ∧ (s.setCause k on).pw = s.pw := by
  obtain ⟨c, e | e | e⟩ := s.setCause_cases k on <;> rw [e] <;> simp [State.throughBegun, State.causesShown]

/-- Every field of the pack but that of readiness. -/
def readyFields : List Field := packFields.erase HUC_STATUS_READY

/-- The state in which READY and the cache show readiness. -/
def State.readyShown (s : State) : State :=
  { s.setB HUC_STATUS_READY s.packReady with wc := { (s.setB HUC_STATUS_READY s.packReady).wc with packReady := s.packReady } }

theorem booksOnly_readyShown (s : State) : BooksOnly readyFields s s.readyShown :=
  ((BooksOnly.refl _ s).set (by decide)).trans (booksOnly_of_eq rfl rfl rfl)

theorem State.readyEval_eq (s : State) :
    s.readyEval = if s.packReady = s.flag HUC_STATUS_READY then s.readyShown
      else (s.readyShown.setCause 1 (!s.packReady)).raise (if s.packReady then 184 else 183) := rfl

/-- From READY and the cache showing readiness on, an evaluation only enters or leaves write-through and raises events. -/
theorem booksOnly_readyShown_readyEval (s : State) : BooksOnly packFields s.readyShown s.readyEval := by
  rw [State.readyEval_eq]
  split
  · exact .refl _ _
  · exact (booksOnly_setCause _ _ _).raise

theorem booksOnly_readyEval (s : State) : BooksOnly readyFields s s.readyEval :=
  ((booksOnly_readyShown s).inter (booksOnly_readyShown_readyEval s)).mono (by decide)

theorem State.ready_readyEval (s : State) : s.readyEval.get HUC_STATUS_READY = bNat s.packReady := by
  rw [(booksOnly_readyShown_readyEval s).get (by decide)]
  refine (State.get_set s HUC_STATUS_READY _ 0 0 rfl).trans ?_
  cases s.packReady <;> rfl

theorem State.readyEval_hu (s : State) : s.readyEval.hu = s.hu ∧ s.readyEval.pw = s.pw := by
  have h : s.readyShown.hu = s.hu ∧ s.readyShown.pw = s.pw := by simp [State.readyShown]
  rw [State.readyEval_eq]
  split
  · exact h
  · obtain ⟨hhu, hpw⟩ := s.readyShown.setCause_hu 1 (!s.packReady)
    rw [State.raise_hu, State.raise_pw, hhu, hpw]
    exact h

end Sys2Proof.Machine
end

section
/-!
SUPPORT. A learning cycle without result, the failure of the pack and its end of life (R276, R279, R280), the wake from REST that a change of the
gauge may start, and the rows of PACK_HOT_TIMEOUT and CHARGE_TIMEOUT.
-/

namespace Sys2Proof.Machine

variable {K L : List Field} {s t u : State}

-- a learning cycle without result

/-- The state without a learning cycle. -/
def State.learnDropped (s : State) : State := { s with hu := { s.hu with learn := none } }

theorem State.learnDropped_none (h : s.hu.learn = none) : s.learnDropped = s := by
  unfold State.learnDropped
  rw [← h]

/-- The state in which a disqualified cycle has ended, and is counted nowhere but in the life record. -/
def State.learnEnded (s : State) : State :=
  { s.free.2 with hu := { s.hu with learn := none, learnRetry := some (s.ms.opMs + 86400000),
                                    life := s.hu.life.map fun r => { r with learnDq := satW 16 (r.learnDq + 1) } } }

/-- The state in which its end is counted. -/
def State.dqCounted (s : State) : State := s.learnEnded.bump blkHUC HUC_LEARN_DQ_CNT

/-- The state in which its end is known to the host and to its ticket, and booked. -/
def State.dqBooked (s : State) (l : Learn) : State :=
  (((s.dqCounted.raise 187).ticketEnd l.ticket 4 (Config.freeValue s.freeCtr % 2 ^ 32)).history 4).writeLife

theorem State.learnDq_none (h : s.hu.learn = none) : s.learnDq = s := by
  unfold State.learnDq
  rw [h]

theorem State.learnDq_some {l : Learn} (h : s.hu.learn = some l) :
    s.learnDq = if (s.dqBooked l).gauge = gsLearn then (s.dqBooked l).setGauge (s.dqBooked l).gaugeBase else (s.dqBooked l).chargeEval := by
  unfold State.learnDq
  rw [h]
  rfl

/-- Every field of the pack but those that the end of a learning cycle changes. -/
def dqFields : List Field := gaugeFields.erase HUC_LEARN_DQ_CNT

theorem booksOnly_dqCounted (s : State) : BooksOnly dqFields s.learnDropped s.dqCounted :=
  BooksOnly.bump (t := s.learnEnded) (booksOnly_of_eq rfl rfl rfl) (by decide) (by decide)

/-- From the count on, the end of a cycle without result changes gauge state and charger alone of the fields of the pack. -/
theorem booksOnly_dqCounted_learnDq {l : Learn} (h : s.hu.learn = some l) : BooksOnly gaugeFields (s.dqCounted.raise 187) s.learnDq := by
  have booked : BooksOnly packFields (s.dqCounted.raise 187) (s.dqBooked l) :=
    (((BooksOnly.refl _ _).ticketEnd _ _ _).trans (booksOnly_history _ 4)).trans (booksOnly_writeLife _)
  rw [State.learnDq_some h]
  split
  · exact (booked.inter (booksOnly_setGauge _ _)).mono (by decide)
  · exact (booked.inter (booksOnly_chargeEval _)).mono (by decide)

theorem booksOnly_learnDq (s : State) : BooksOnly dqFields s.learnDropped s.learnDq := by
  cases h : s.hu.learn with
  | none =>
    rw [State.learnDq_none h, State.learnDropped_none h]
    exact .refl _ s
  | some l => exact ((booksOnly_dqCounted s).raise.inter (booksOnly_dqCounted_learnDq h)).mono (by decide)

-- the failure of the pack

/-- The state of a pack that has failed, with no cycle, step or rest under way. -/
def State.packFailed (s : State) : State :=
  State.setGauge { s.learnDq with hu := { s.learnDq.hu with zStep := none, restSince := none } } gsFailed

/-- The state in which the failure stands in the history. -/
def State.failureNoted (s : State) : State := (s.packFailed.raise 188).history 6

theorem State.packFail_eq (h : s.gauge ≠ gsFailed) : s.packFail = s.failureNoted.writeLife.hubEval.readyEval := by
  unfold State.packFail
  rw [if_neg h]
  rfl

/-- The state with no learning cycle, impedance step or rest. -/
def State.workDropped (s : State) : State := { s with hu := { s.hu with learn := none, zStep := none, restSince := none } }

theorem booksOnly_packFailed (s : State) : BooksOnly dqFields s.workDropped s.packFailed := by
  obtain ⟨ho, hf⟩ := booksOnly_learnDq s
  have dropped : BooksOnly dqFields s.workDropped { s.learnDq with hu := { s.learnDq.hu with zStep := none, restSince := none } } :=
    ⟨congrArg (fun u : State => { u with hu := { u.hu with zStep := none, restSince := none } }) ho, hf⟩
  exact (dropped.inter (booksOnly_setGauge _ gsFailed)).mono (by decide)

theorem booksOnly_failureNoted (s : State) : BooksOnly packFields (s.packFailed.raise 188) s.failureNoted := booksOnly_history _ 6

theorem booksOnly_failureNoted_packFail (h : s.gauge ≠ gsFailed) : BooksOnly readyFields s.failureNoted s.packFail := by
  rw [State.packFail_eq h]
  exact (((booksOnly_writeLife _).trans (booksOnly_hubEval _)).inter (booksOnly_readyEval _)).mono (by decide)

/-- From the failure on, only readiness changes of the fields of the pack. -/
theorem booksOnly_packFailed_packFail (h : s.gauge ≠ gsFailed) : BooksOnly readyFields (s.packFailed.raise 188) s.packFail :=
  ((booksOnly_failureNoted s).inter (booksOnly_failureNoted_packFail h)).mono (by decide)

/-- Every field of the pack but those that its failure changes. -/
def failFields : List Field := dqFields.erase HUC_STATUS_READY

theorem booksOnly_packFail (h : s.gauge ≠ gsFailed) : BooksOnly failFields s.workDropped s.packFail :=
  ((booksOnly_packFailed s).raise.inter (booksOnly_packFailed_packFail h)).mono (by decide)

theorem raises_packFail (h : s.gauge ≠ gsFailed) : Raises 188 s s.packFail :=
  Raises.between (FieldsKept.trans (FieldsKept.of_eq rfl rfl) (booksOnly_packFailed s).2) (by decide) (booksOnly_packFailed_packFail h).2

theorem State.gauge_packFail (s : State) : s.packFail.gauge = gsFailed := by
  by_cases h : s.gauge = gsFailed
  · rw [State.packFail, if_pos h, h]
  · rw [(booksOnly_packFailed_packFail h).gauge (by decide), (BooksOnly.refl packFields _).raise.gauge (by decide)]
    exact State.gauge_setGauge _ (by decide)

theorem State.charge_packFail (h : s.gauge ≠ gsFailed) : s.packFail.get HUC_STATUS_CHARGE = 0 := by
  rw [(booksOnly_packFailed_packFail h).get (by decide), (BooksOnly.refl packFields _).raise.get (by decide)]
  exact State.charge_setGauge _ (by decide)

/-- A pack that has failed is not sound, and so not ready. -/
theorem State.packReady_of_failed (h : s.gauge = gsFailed) : s.packReady = false := by
  simp [State.packReady, State.packSound, h]

theorem State.ready_packFail (h : s.gauge ≠ gsFailed) : s.packFail.get HUC_STATUS_READY = 0 := by
  have hg : s.failureNoted.writeLife.hubEval.gauge = gsFailed := by
    have := s.gauge_packFail
    rw [State.packFail_eq h, (booksOnly_readyEval _).gauge (by decide)] at this
    exact this
  rw [State.packFail_eq h, State.ready_readyEval, State.packReady_of_failed hg]
  rfl

/-- The failure stands at the head of the history (R276). -/
theorem State.history_packFail (h : s.gauge ≠ gsFailed) (hc : s.flag PSC_STATUS_HOLD_NOCFG = false) :
    s.packFail.hu.history.head?.map (·.type) = some 6 := by
  have kept : s.packFail.hu.history = s.failureNoted.hu.history := by
    rw [State.packFail_eq h, (State.readyEval_hu _).1, State.hubEval_hu, State.writeLife_history]
  have nocfg : (s.packFailed.raise 188).flag PSC_STATUS_HOLD_NOCFG = s.flag PSC_STATUS_HOLD_NOCFG :=
    congrArg (· != 0) ((booksOnly_packFailed s).raise.get (by decide))
  rw [kept]
  exact State.history_head (nocfg.trans hc) 6

-- the wake that a change of the gauge may start

/-- The device may be on its way out of REST: all else that the pack's commands speak of is as it was. -/
def Wakes (s t : State) : Prop :=
  t.hu = s.hu ∧ t.pw.hubOn = s.pw.hubOn ∧ (KeepsHost s t ∧ t.zn = s.zn ∧ t.fl = s.fl ∧ t.xl = s.xl) ∧ FieldsKept packFields s t

theorem fieldsKept_fired (s : State) (l : List (Nat × Nat)) : FieldsKept K s { s with ev := { s.ev with fired := l } } := .of_eq rfl rfl

theorem fieldsKept_md (s : State) (m : ModeState) : FieldsKept K s { s with md := m } := .of_eq rfl rfl

theorem fieldsKept_enableRail (s : State) (r : Nat) : FieldsKept K s (s.enableRail r) := .of_eq rfl rfl

theorem fieldsKept_pscEvt (s : State) {f : Field} (hf : Beside packFields (f.key 0 0)) : FieldsKept packFields s (s.pscEvt f) := by
  unfold State.pscEvt State.evt
  split
  · exact .of_eq rfl rfl
  · exact (fieldsKept_set s 1 0 0 hf).trans (fieldsKept_raise _ _ _)

theorem fieldsKept_bumpPsc (s : State) {f : Field} (n : Nat) (hf : Beside packFields (f.key 0 0)) : FieldsKept packFields s (s.bumpPsc f n) := by
  unfold State.bumpPsc
  simp only
  split
  · have full := fieldsKept_set s (2 ^ f.width - 1) 0 0 hf
    split
    · exact full
    · exact ((full.trans (fieldsKept_fired _ _)).trans (fieldsKept_set _ 1 0 0 (by decide))).trans (fieldsKept_pscEvt _ (by decide))
  · exact fieldsKept_set s _ 0 0 hf

theorem fieldsKept_showClocks (s : State) (n : Nat) : FieldsKept packFields s (s.showClocks n) := by
  show FieldsKept packFields s (((s.set CRU_PLL_STAT (Config.cruBits 0 n)).set CRU_CLK_STAT (Config.cruBits 1 n)).set CRU_RST_STAT
    (Config.cruBits 2 n))
  exact ((fieldsKept_set s _ 0 0 (by decide)).trans (fieldsKept_set _ _ 0 0 (by decide))).trans (fieldsKept_set _ _ 0 0 (by decide))

theorem fieldsKept_wakeBit (s : State) (b : Nat) : FieldsKept packFields s (s.wakeBit b) := fieldsKept_set s _ 0 0 (by decide)

theorem fieldsKept_startWake (s : State) : FieldsKept packFields s s.startWake := by
  have counted : FieldsKept packFields s (s.bumpPsc PSC_WAKE_CNT) := fieldsKept_bumpPsc s 1 (by decide)
  exact ((((counted.trans (fieldsKept_md _ _)).trans (fieldsKept_set _ 0 1 0 (by decide))).trans (fieldsKept_set _ 0 2 0 (by decide))).trans
    (fieldsKept_showClocks _ 2)).trans (fieldsKept_enableRail _ 1)

theorem wakes_wakeSource (s : State) (b : Nat) : Wakes s (s.wakeSource b) := by
  have same : Wakes s s := ⟨rfl, rfl, by simp [KeepsHost], .of_eq rfl rfl⟩
  unfold State.wakeSource
  split
  · exact same
  · split
    · refine ⟨?_, ?_, ?_, (fieldsKept_wakeBit s b).trans (fieldsKept_startWake _)⟩ <;>
        simp [State.startWake, State.wakeBit, State.showClocks, State.each, State.enableRail, State.setRail, KeepsHost]
    · split
      · exact ⟨by simp [State.wakeBit], by simp [State.wakeBit], by simp [State.wakeBit, KeepsHost],
          (fieldsKept_wakeBit s b).trans (fieldsKept_md _ _)⟩
      · exact same

/-- A change of the gauge ends as it does, but for the wake that it may start in REST (Table 11.5). -/
theorem State.gauged_wakes (s : State) (f : State → State) : Wakes (f s) (s.gauged f) ∧ (s.md.mode ≠ .rest → s.gauged f = f s) := by
  unfold State.gauged
  simp only
  split
  · rename_i h
    exact ⟨wakes_wakeSource _ 7, fun hm => absurd h (by simp [State.mode, hm])⟩
  · exact ⟨⟨rfl, rfl, by simp [KeepsHost], .of_eq rfl rfl⟩, fun _ => rfl⟩

-- how a command that changes the gauge ends

theorem KeepsHost.trans (h : KeepsHost s t) (g : KeepsHost t u) : KeepsHost s u := by
  obtain ⟨h0, h1, hsqs, hcqs, hctxs, hnext, hdone, hns, hlate, htotal, hresets⟩ := h
  obtain ⟨g0, g1, gsqs, gcqs, gctxs, gnext, gdone, gns, glate, gtotal, gresets⟩ := g
  exact ⟨g0.trans h0, g1.trans h1, gsqs.trans hsqs, gcqs.trans hcqs, gctxs.trans hctxs, gnext.trans hnext, gdone.trans hdone, gns.trans hns,
    glate.trans hlate, gtotal.trans htotal, gresets.trans hresets⟩

/-- What the rows of the pack's commands say of the rest of the device. -/
abbrev PackFrame (s t : State) : Prop := KeepsHost s t ∧ t.zn = s.zn ∧ t.fl = s.fl ∧ t.xl = s.xl ∧ (s.md.mode ≠ .rest → t.md = s.md)

/-- A command that changes the gauge through the books alone, from a state with another hold-up pack on, leaves the rest of the device. -/
theorem packFrame_gauged {f : State → State} {h : HoldState} (hb : BooksOnly K { s with hu := h } (f s)) :
    PackFrame s (s.after s.now (s.gauged f)) := by
  obtain ⟨⟨-, -, ⟨host, hzn, hfl, hxl⟩, -⟩, quiet⟩ := s.gauged_wakes f
  obtain ⟨host', hzn', hfl', hxl', hmd⟩ := hb.keeps
  refine ⟨KeepsHost.after ?_ s s.now, ?_, ?_, ?_, fun hm => ?_⟩
  · exact host'.trans host
  · rw [State.after_zn, hzn, hzn']
  · rw [State.after_fl, hfl, hfl']
  · rw [State.after_xl, hxl, hxl']
  · rw [State.after_md, quiet hm, hmd]

theorem packFields_apart : ∀ f ∈ packFields, f.key 0 0 ∉ shownKeys ∧ BeforePend f := by decide

/-- The fields of the pack, the pack itself and the converter are, when the command has ended, as its change of the gauge left them. -/
theorem State.gauged_get (s : State) (f : State → State) {g : Field} (hg : g ∈ packFields) :
    (s.after s.now (s.gauged f)).get g = (f s).get g := by
  obtain ⟨⟨-, -, -, hf⟩, -⟩ := s.gauged_wakes f
  obtain ⟨hs, hp⟩ := packFields_apart g hg
  rw [State.get_after _ _ _ _ _ _ hs, hf.1 g hg hp]

theorem State.gauged_gauge (s : State) (f : State → State) : (s.after s.now (s.gauged f)).gauge = (f s).gauge :=
  s.gauged_get f (by decide)

theorem State.gauged_hu (s : State) (f : State → State) : (s.after s.now (s.gauged f)).hu = (f s).hu := by
  obtain ⟨⟨hhu, -⟩, -⟩ := s.gauged_wakes f
  rw [State.after_hu, hhu]

theorem Raises.gauged {f : State → State} {n : Nat} (h : Raises n s (f s)) : Raises n s (s.after s.now (s.gauged f)) := by
  obtain ⟨⟨-, -, -, hf⟩, -⟩ := s.gauged_wakes f
  exact (h.kept hf.2).after

-- the rows

/-- What becomes of a pack that fails and had not failed before (R276). -/
theorem packFail_ends (h : s.gauge ≠ gsFailed) :
    (s.after s.now (s.gauged State.packFail)).gauge = gsFailed ∧ Raises 188 s (s.after s.now (s.gauged State.packFail))
      ∧ (s.after s.now (s.gauged State.packFail)).get HUC_STATUS_READY = 0 ∧ (s.after s.now (s.gauged State.packFail)).get HUC_STATUS_CHARGE = 0
      ∧ (s.after s.now (s.gauged State.packFail)).hu.learn = none ∧ (s.after s.now (s.gauged State.packFail)).hu.zStep = none
      ∧ (s.flag PSC_STATUS_HOLD_NOCFG = false →
          ((s.after s.now (s.gauged State.packFail)).hu.history.head?).map (·.type) = some 6)
      ∧ PackFrame s (s.after s.now (s.gauged State.packFail)) := by
  have books := booksOnly_packFail h
  rw [State.gauged_gauge, State.gauged_get _ _ (by decide), State.gauged_get _ _ (by decide), State.gauged_hu]
  exact ⟨s.gauge_packFail, (raises_packFail h).gauged, State.ready_packFail h, State.charge_packFail h, books.same (·.hu.learn),
    books.same (·.hu.zStep), State.history_packFail h, packFrame_gauged books⟩

/-- A pack that has failed stays as it is. -/
theorem State.gauged_packFail_failed (h : s.gauge = gsFailed) : s.gauged State.packFail = s := by
  have same : s.packFail = s := by rw [State.packFail, if_pos h]
  simp [State.gauged, same]

theorem packFailed_stays (h : s.gauge = gsFailed) :
    (s.after s.now (s.gauged State.packFail)).hu = s.hu ∧ (s.after s.now (s.gauged State.packFail)).gauge = gsFailed
      ∧ OnlyRegs [] s (s.after s.now (s.gauged State.packFail)) ∧ KeepsHost s (s.after s.now (s.gauged State.packFail))
      ∧ KeepsMedia s (s.after s.now (s.gauged State.packFail)) ∧ KeepsFaults s (s.after s.now (s.gauged State.packFail)) := by
  rw [State.gauged_packFail_failed h]
  refine ⟨by rw [State.after_hu], ?_, onlyRegs_after s s s.now, KeepsHost.after ?_ s s.now, KeepsMedia.after ?_ s s.now,
    KeepsFaults.after ?_ s s.now⟩
  · exact (State.get_after _ _ _ _ _ _ (by decide)).trans h
  all_goals simp [KeepsHost, KeepsMedia, KeepsFaults]

theorem exec_packHotTimeout (s : State) :
    exec .packHotTimeout s = actWhen s (s.gaugeOn && s.past s.hu.hotSince 3600000000000) fun s => s.gauged State.packFail := rfl

theorem exec_chargeTimeout (s : State) :
    exec .chargeTimeout s = actWhen s (s.powered && s.past s.hu.chgSince 14400000000000) fun s => s.gauged State.packFail := rfl

theorem row_packHotTimeout (s : State) : Rows.packHotTimeout s := fun h =>
  effect_actWhen (exec_packHotTimeout s) Bool.and_eq_true_iff fun _ => packFail_ends h

theorem row_packHotTimeout_failed (s : State) : Rows.packHotTimeout_failed s := fun h =>
  effect_actWhen (exec_packHotTimeout s) Bool.and_eq_true_iff fun _ => packFailed_stays h

theorem row_chargeTimeout (s : State) : Rows.chargeTimeout s := fun h =>
  effect_actWhen (exec_chargeTimeout s) Bool.and_eq_true_iff fun _ => packFail_ends h

theorem row_chargeTimeout_failed (s : State) : Rows.chargeTimeout_failed s := fun h =>
  effect_actWhen (exec_chargeTimeout s) Bool.and_eq_true_iff fun _ => packFailed_stays h

end Sys2Proof.Machine
end

section
/-!
SUPPORT. A pack inserted, identified or not, and a pack removed (R269, R277): the rows of PACK_INSERT and PACK_REMOVE.
-/

namespace Sys2Proof.Machine

variable {K L : List Field} {s t u : State}

/-- The books are the same beside another hold-up controller. -/
theorem BooksOnly.withHu {h : HoldState} (b : BooksOnly K { s with hu := h } t) (g : HoldState) :
    BooksOnly K { s with hu := g } { t with hu := g } :=
  ⟨congrArg (fun u : State => { u with hu := { s with hu := g }.offBooks.hu }) b.1, b.2⟩

-- end of life

/-- The state of a pack at its end of life (R280). -/
def State.lifeEnded (s : State) : State := ((((s.setGauge gsEol).raise 188).history 5).writeLife).readyEval

theorem State.eolCheck_cases (s : State) : s.eolCheck = s.lifeEnded ∨ s.eolCheck = s := by
  unfold State.eolCheck
  split
  · exact .inl rfl
  · exact .inr rfl

theorem booksOnly_lifeEnded (s : State) : BooksOnly readyFields ((s.setGauge gsEol).raise 188) s.lifeEnded :=
  (((booksOnly_history _ 5).trans (booksOnly_writeLife _)).inter (booksOnly_readyEval _)).mono (by decide)

theorem booksOnly_eolCheck (s : State) : BooksOnly failFields s s.eolCheck := by
  rcases s.eolCheck_cases with e | e <;> rw [e]
  · exact ((booksOnly_setGauge s gsEol).raise.inter (booksOnly_lifeEnded s)).mono (by decide)
  · exact .refl _ s

/-- The check leaves the gauge in its state, or at the end of life. -/
theorem State.gauge_eolCheck (s : State) : s.eolCheck.gauge = s.gauge ∨ s.eolCheck.gauge = gsEol := by
  rcases s.eolCheck_cases with e | e <;> rw [e]
  · right
    rw [(booksOnly_lifeEnded s).gauge (by decide), (BooksOnly.refl packFields _).raise.gauge (by decide)]
    exact State.gauge_setGauge _ (by decide)
  · exact .inl rfl

-- what is shown once a pack has come or gone

/-- Charger, converter, readiness and figures as they are shown. -/
def State.packShown (s : State) : State := s.chargeEval.hubEval.readyEval.showGauge

theorem booksOnly_packShown (s : State) : BooksOnly (chargerFields.erase HUC_STATUS_READY) s s.packShown :=
  ((((booksOnly_chargeEval s).inter (booksOnly_hubEval _)).inter (booksOnly_readyEval _)).inter (booksOnly_showGauge _)).mono (by decide)

/-- The pack is not ready whose impedance is not measured. -/
theorem State.ready_packShown (h : s.hu.zMade = false) : s.packShown.get HUC_STATUS_READY = 0 := by
  have kept : s.chargeEval.hubEval.hu.zMade = s.hu.zMade := ((booksOnly_chargeEval s).inter (booksOnly_hubEval _)).same (·.hu.zMade)
  rw [State.packShown, (booksOnly_showGauge _).get (by decide), State.ready_readyEval]
  simp [State.packReady, kept, h, bNat]

theorem State.charge_packShown (h : s.chargeAllowed = false) : s.packShown.get HUC_STATUS_CHARGE = 0 := by
  rw [State.packShown, (booksOnly_showGauge _).get (by decide), (booksOnly_readyEval _).get (by decide), (booksOnly_hubEval _).get (by decide)]
  exact State.charge_chargeEval h

theorem State.showGauge_pw (s : State) : s.showGauge.pw = s.pw := by simp [State.showGauge]

-- a pack inserted

/-- The state with another hold-up controller, its presence and gauge state as they are shown. -/
def State.presence (s : State) (h : HoldState) (p g : Nat) : State := ({ s with hu := h }.set HUC_STATUS_PRESENT p).set HUC_STATUS_GSTATE g

/-- Every field of the pack but those of presence and gauge state. -/
def presenceFields : List Field := (packFields.erase HUC_STATUS_PRESENT).erase HUC_STATUS_GSTATE

theorem booksOnly_presence (s : State) (h : HoldState) (p g : Nat) : BooksOnly presenceFields { s with hu := h } (s.presence h p g) :=
  ((BooksOnly.refl _ _).set (by decide)).set (by decide)

theorem State.present_presence (s : State) (h : HoldState) (p g : Nat) : (s.presence h p g).get HUC_STATUS_PRESENT = p % 2 :=
  (State.get_set_ne _ _ _ _ _ _ _ _ (by decide)).trans (State.get_set _ _ _ _ _ rfl)

theorem State.gauge_presence (s : State) (h : HoldState) (p : Nat) {g : Nat} (hg : g < 16) : (s.presence h p g).gauge = g :=
  (State.get_set _ _ _ _ _ rfl).trans (Nat.mod_eq_of_lt hg)

/-- The source raised once presence is shown is raised from the state before, whatever the books take from then on. -/
theorem raises_presence {h : HoldState} {p g n : Nat} (hn : n < 288) (b : BooksOnly K ((s.presence h p g).raise n) t) : Raises n s t :=
  Raises.between ((FieldsKept.of_eq rfl rfl).trans (booksOnly_presence s h p g).2) hn b.2

/-- The state in which a pack is present and being identified, with another hold-up controller, and its insertion is known and booked. -/
def State.packPresent (s : State) (h : HoldState) : State := (((s.presence h 1 gsIdentify).raise 189).history 1).estimate

/-- What the areas of the EEPROM give (R277): the identity, and with blank life records a new pack's figures (log 42). -/
theorem State.insertPack_eq (s : State) (f : PackFound) : ∃ (h : HoldState) (bad : Bool),
    s.insertPack f true = (if bad then (s.packPresent h).packFail else (s.packPresent h).eolCheck).packShown
      ∧ h.identOk = (parseIdent f.ident).isSome ∧ h.learn = none ∧ h.zMade = false ∧ (parseIdent f.ident = none → bad = true)
      ∧ ∀ p, parseIdent f.ident = some p → f.lifeA = [] → f.lifeB = [] →
          bad = false ∧ h.pack = some p ∧ h.c = p.cRated * qJ * 4 / 5 ∧ h.z = p.zMax ∧ h.ectr = energyAt h.c p.ocv (ocvOf f.volts)
            ∧ h.u = h.c / 10 := by
  refine ⟨_, _, rfl, rfl, rfl, rfl, fun h => ?_, fun p hp ha hb => ?_⟩
  · simp [h]
  · have blank : parseLife [] = none := rfl
    simp [hp, ha, hb, blank, blankCopy]

theorem booksOnly_presence_packPresent (s : State) (h : HoldState) :
    BooksOnly packFields ((s.presence h 1 gsIdentify).raise 189) (s.packPresent h) :=
  (booksOnly_history _ 1).trans (booksOnly_estimate _)

theorem booksOnly_packPresent (s : State) (h : HoldState) : BooksOnly presenceFields { s with hu := h } (s.packPresent h) :=
  ((booksOnly_presence s h 1 gsIdentify).raise.inter (booksOnly_presence_packPresent s h)).mono (by decide)

theorem State.present_packPresent (s : State) (h : HoldState) : (s.packPresent h).get HUC_STATUS_PRESENT = 1 := by
  rw [(booksOnly_presence_packPresent s h).get (by decide), (BooksOnly.refl packFields _).raise.get (by decide), State.present_presence]

theorem State.gauge_packPresent (s : State) (h : HoldState) : (s.packPresent h).gauge = gsIdentify := by
  rw [(booksOnly_presence_packPresent s h).gauge (by decide), (BooksOnly.refl packFields _).raise.gauge (by decide)]
  exact s.gauge_presence h 1 (by decide)

/-- What the books leave of the pack: the pack itself, its identity, capacity, impedance and the estimates that a rest sets. -/
theorem BooksOnly.figures (b : BooksOnly K s t) :
    t.hu.pack = s.hu.pack ∧ t.hu.identOk = s.hu.identOk ∧ t.hu.c = s.hu.c ∧ t.hu.z = s.hu.z ∧ t.hu.zMade = s.hu.zMade ∧ t.hu.ectr = s.hu.ectr
      ∧ t.hu.u = s.hu.u :=
  ⟨b.same (·.hu.pack), b.same (·.hu.identOk), b.same (·.hu.c), b.same (·.hu.z), b.same (·.hu.zMade), b.same (·.hu.ectr), b.same (·.hu.u)⟩

theorem exec_packInsert (f : PackFound) (s : State) :
    exec (.packInsert f) s = actWhen s (s.powered && s.hu.pack.isNone) fun s => s.insertPack f true := rfl

/-- A pack is inserted with the device powered and no pack in it. -/
theorem packInsert_occurs (s : State) : (s.powered && s.hu.pack.isNone) = true ↔ s.powered = true ∧ s.hu.pack = none := by simp

/-- A command that changes the hold-up controller through the books alone leaves the rest of the device. -/
theorem packFrame_after {h : HoldState} (hb : BooksOnly K { s with hu := h } t) :
    KeepsHost s (s.after s.now t) ∧ (s.after s.now t).zn = s.zn ∧ (s.after s.now t).fl = s.fl ∧ (s.after s.now t).xl = s.xl
      ∧ (s.after s.now t).md = s.md := by
  obtain ⟨host, hzn, hfl, hxl, hmd⟩ := hb.keeps
  refine ⟨KeepsHost.after host s s.now, ?_, ?_, ?_, ?_⟩
  · rw [State.after_zn, hzn]
  · rw [State.after_fl, hfl]
  · rw [State.after_xl, hxl]
  · rw [State.after_md, hmd]

theorem State.after_get (s t : State) {f : Field} (hf : f ∈ packFields) : (s.after s.now t).get f = t.get f :=
  State.get_after _ _ _ _ _ _ (packFields_apart f hf).1

/-- The fields are kept from the state with any other hold-up controller. -/
theorem BooksOnly.fieldsKept {g : HoldState} (b : BooksOnly K { s with hu := g } t) : FieldsKept K s t := b.2

/-- A state is itself with its own hold-up controller. -/
theorem BooksOnly.own (b : BooksOnly K s t) : BooksOnly K { s with hu := s.hu } t := b

/-- What is shown once a pack is inserted, identified or not, whose impedance is not measured. -/
theorem packInsert_ends {h g : HoldState} (b : BooksOnly failFields { s.packPresent h with hu := g } u) (hz : u.hu.zMade = false) :
    (s.after s.now u.packShown).get HUC_STATUS_PRESENT = 1 ∧ (s.after s.now u.packShown).gauge = u.packShown.gauge
      ∧ (s.after s.now u.packShown).get HUC_STATUS_READY = 0 ∧ Raises 189 s (s.after s.now u.packShown)
      ∧ KeepsHost s (s.after s.now u.packShown) ∧ (s.after s.now u.packShown).zn = s.zn ∧ (s.after s.now u.packShown).fl = s.fl
      ∧ (s.after s.now u.packShown).xl = s.xl ∧ (s.after s.now u.packShown).md = s.md := by
  have shown : BooksOnly (failFields.erase HUC_STATUS_CHARGE) { s.packPresent h with hu := g } u.packShown :=
    (b.inter (booksOnly_packShown u)).mono (by decide)
  obtain ⟨fields, events⟩ := shown.fieldsKept
  have present : u.packShown.get HUC_STATUS_PRESENT = 1 := (fields _ (by decide) (by decide)).trans (s.present_packPresent h)
  have raised : Raises 189 s u.packShown := (raises_presence (by decide) (booksOnly_presence_packPresent s h)).kept events
  have books := ((booksOnly_packPresent s h).withHu g).inter shown
  rw [State.after_get _ _ (by decide), State.after_get _ _ (by decide)]
  exact ⟨present, State.after_get _ _ (by decide), State.ready_packShown hz, raised.after, packFrame_after books⟩

theorem row_packInsert (f : PackFound) (p : PackId) (s : State) : Rows.packInsert f p s := by
  rintro ⟨hp, ha, hb⟩
  refine effect_actWhen (exec_packInsert f s) (packInsert_occurs s) fun _ => ?_
  obtain ⟨h, bad, e, hid, -, hzm, -, fresh⟩ := s.insertPack_eq f
  obtain ⟨rfl, hpack, hc, hz, hectr, hu⟩ := fresh p hp ha hb
  rw [if_neg Bool.false_ne_true] at e
  have checked : BooksOnly failFields (s.packPresent h) (s.packPresent h).eolCheck := booksOnly_eolCheck _
  have present := (booksOnly_packPresent s h).inter checked
  have books := present.inter (booksOnly_packShown _)
  obtain ⟨-, -, -, -, hmade, -⟩ := present.figures
  have hgauge : (s.packPresent h).eolCheck.packShown.gauge = gsIdentify ∨ (s.packPresent h).eolCheck.packShown.gauge = gsEol := by
    rw [(booksOnly_packShown _).gauge (by decide), ← s.gauge_packPresent h]
    exact (s.packPresent h).gauge_eolCheck
  obtain ⟨ends, gauge, ready, raised, frame⟩ := packInsert_ends checked.own (hmade.trans hzm)
  rw [← gauge] at hgauge
  obtain ⟨bpack, bid, bc, bz, bzm, bectr, bu⟩ := books.figures
  rw [e, State.after_hu]
  refine ⟨bpack.trans hpack, bid.trans ?_, bc.trans hc, bz.trans hz, bzm.trans hzm, ?_, ?_, ends, hgauge, ready, raised, frame⟩
  · rw [hid, hp]
    rfl
  · rw [bectr, bc, hectr]
  · rw [bu, bc, hu]

theorem row_packInsert_unidentified (f : PackFound) (s : State) : Rows.packInsert_unidentified f s := by
  intro hf
  refine effect_actWhen (exec_packInsert f s) (packInsert_occurs s) fun _ => ?_
  obtain ⟨h, bad, e, hid, -, hzm, hbad, -⟩ := s.insertPack_eq f
  rw [if_pos (hbad hf)] at e
  have sound : (s.packPresent h).gauge ≠ gsFailed := by
    rw [s.gauge_packPresent h]
    decide
  have present := booksOnly_packPresent s h
  have failed : BooksOnly failFields (s.packPresent h).workDropped (s.packPresent h).packFail := booksOnly_packFail sound
  have shown := booksOnly_packShown (s.packPresent h).packFail
  obtain ⟨-, hshown, -⟩ := shown.figures
  obtain ⟨-, hfailed, -, -, hmade, -⟩ := failed.figures
  obtain ⟨-, hpresent, -, -, hunmade, -⟩ := present.figures
  obtain ⟨ends, gauge, ready, raised, frame⟩ :=
    packInsert_ends (g := (s.packPresent h).workDropped.hu) failed (hmade.trans (hunmade.trans hzm))
  have identity : (s.packPresent h).packFail.packShown.hu.identOk = false := by
    rw [hshown, hfailed, State.workDropped, hpresent, hid, hf]
    rfl
  have fails : Raises 188 s (s.packPresent h).packFail.packShown :=
    ((raises_packFail sound).since present.fieldsKept.2).kept shown.2.2
  rw [e]
  refine ⟨by rw [State.after_hu, identity], ends, ?_, fails.after, raised, ready, frame⟩
  rw [gauge, shown.gauge (by decide), State.gauge_packFail]

-- a pack removed

/-- Without a pack, the converter runs in DETOUR only. -/
theorem State.hubOn_packShown (h : s.hu.pack = none) : s.packShown.pw.hubOn = decide (s.md.mode = .detour) := by
  have b : BooksOnly chargerFields s s.chargeEval := booksOnly_chargeEval s
  have hmode : s.chargeEval.mode = s.md.mode := b.same (·.md.mode)
  have hpack : s.chargeEval.hu.pack = none := (b.same (·.hu.pack)).trans h
  rw [State.packShown, State.showGauge_pw, (State.readyEval_hu _).2, State.hubEval_hubOn, hpack, hmode]
  cases s.md.mode <;> simp

/-- The hold-up controller without a pack. -/
def HoldState.packGone (h : HoldState) : HoldState :=
  { h with pack := none, identOk := false, life := none, history := [], zMade := false, zStep := none, restSince := none, restMade := false,
           volts := 0, amps := 0, c := 0, ectr := 0, ev := 0, u := 0, through := 0, epess := 0, hot := false, hotSince := none,
           lowSince := none, disagreeSince := none }

/-- The state in which no pack is present, once a learning cycle has ended without result. -/
def State.packAbsent (s : State) : State := s.learnDq.presence s.learnDq.hu.packGone 0 gsAbsent

theorem State.removePack_eq (s : State) : s.removePack true = (s.packAbsent.raise 189).packShown := rfl

theorem booksOnly_packAbsent (s : State) : BooksOnly [] { s with hu := s.learnDq.hu.packGone } (s.packAbsent.raise 189) := by
  have ended : BooksOnly dqFields { s with hu := s.learnDropped.hu } s.learnDq := booksOnly_learnDq s
  exact (((ended.withHu s.learnDq.hu.packGone).inter (booksOnly_presence s.learnDq _ 0 gsAbsent)).mono (by decide)).raise

theorem booksOnly_packAbsent_removePack (s : State) :
    BooksOnly (chargerFields.erase HUC_STATUS_READY) (s.packAbsent.raise 189) (s.removePack true) :=
  booksOnly_packShown _

theorem State.packAbsent_hu (s : State) : (s.packAbsent.raise 189).hu = s.learnDq.hu.packGone := by
  rw [State.raise_hu]
  simp [State.packAbsent, State.presence]

/-- What is known and shown once the pack is gone (R269). -/
theorem removePack_ends (s : State) :
    (s.removePack true).hu.pack = none ∧ (s.removePack true).hu.learn = none ∧ (s.removePack true).get HUC_STATUS_PRESENT = 0
      ∧ (s.removePack true).gauge = gsAbsent ∧ (s.removePack true).get HUC_STATUS_READY = 0 ∧ (s.removePack true).get HUC_STATUS_CHARGE = 0
      ∧ (s.removePack true).pw.hubOn = decide (s.md.mode = .detour) := by
  have shown : BooksOnly (chargerFields.erase HUC_STATUS_READY) (s.packAbsent.raise 189) (s.packAbsent.raise 189).packShown :=
    booksOnly_packShown _
  have told : BooksOnly packFields s.packAbsent (s.packAbsent.raise 189) := (BooksOnly.refl _ _).raise
  have hpack : (s.packAbsent.raise 189).hu.pack = none := by rw [s.packAbsent_hu, HoldState.packGone]
  have hlearn : (s.packAbsent.raise 189).hu.learn = none := by
    rw [s.packAbsent_hu]
    exact (booksOnly_learnDq s).same (·.hu.learn)
  have hmade : (s.packAbsent.raise 189).hu.zMade = false := by rw [s.packAbsent_hu, HoldState.packGone]
  have hmode : (s.packAbsent.raise 189).md.mode = s.md.mode := (booksOnly_packAbsent s).same (·.md.mode)
  rw [s.removePack_eq]
  refine ⟨(shown.same (·.hu.pack)).trans hpack, (shown.same (·.hu.learn)).trans hlearn, ?_, ?_, State.ready_packShown hmade,
    State.charge_packShown ?_, (State.hubOn_packShown hpack).trans (by rw [hmode])⟩
  · rw [shown.get (by decide), told.get (by decide)]
    exact State.present_presence _ _ _ _
  · rw [shown.gauge (by decide), told.gauge (by decide)]
    exact State.gauge_presence _ _ _ (by decide)
  · rw [State.chargeAllowed, hpack]
    simp

theorem exec_packRemove (s : State) :
    exec .packRemove s = actWhen s (s.powered && s.hu.pack.isSome) fun s => s.gauged fun s => s.removePack true := rfl

theorem row_packRemove (s : State) : Rows.packRemove s := by
  refine effect_actWhen (exec_packRemove s) (by simp [Option.isSome_iff_ne_none]) fun _ => ?_
  obtain ⟨hpack, hlearn, present, gauge, ready, charge, hub⟩ := removePack_ends s
  have raised : Raises 189 s (s.removePack true) :=
    (raises_presence (by decide) (booksOnly_packAbsent_removePack s)).since ((FieldsKept.of_eq rfl rfl).trans (booksOnly_learnDq s).2).2
  have books := (booksOnly_packAbsent s).inter (booksOnly_packAbsent_removePack s)
  obtain ⟨⟨-, hhub, -, -⟩, -⟩ := s.gauged_wakes fun s => s.removePack true
  rw [State.gauged_hu, State.gauged_get _ _ (by decide), State.gauged_gauge, State.gauged_get _ _ (by decide), State.gauged_get _ _ (by decide),
    State.after_pw, hhub]
  exact ⟨hpack, hlearn, present, gauge, ready, charge, raised.gauged, hub, packFrame_gauged books⟩

end Sys2Proof.Machine
end

section
/-!
SUPPORT. A learning cycle from its first step to the rest that ends it (R279), and the life record that is written by the day (R281): the rows of
HUC_LEARN_NOW, LEARN_START, LEARN_REST_END and LIFE_RECORD_PERIOD, and with them the pack's failure, life and learning.
-/

namespace Sys2Proof.Machine

variable {K L : List Field} {s t u : State}

-- counters

/-- A counter counts once from a state with the same registers. -/
theorem counts_of_bump {f : Field} {b : CntBlock} (hr : t.regs = s.regs) (hi : f.reg.has 0 0 = true) (hs : b.sat.key 0 0 ≠ f.key 0 0)
    (he : EVR_PEND.key (b.src / 32) 0 ≠ f.key 0 0) : Counts f 0 1 s (t.bump b f) := by
  rw [Counts, State.bump_get _ _ _ _ _ _ _ hi hs he]
  exact congrArg (fun n => min (n + 1) _) (State.get_of_regs hr _ 0 0)

-- a learning cycle begins

/-- The state with a learning cycle in its first step, a rest, and its ticket running. -/
def State.learnBegun (s : State) : State :=
  State.ticketRun
    { s with hu := { s.hu with
        learn := some { step := 1, f1 := (0, 1), out := 0, since := s.now, avg := [], ticket := s.hu.learnTicket }, learnTicket := none,
        learnHeld := false, learnAt := s.ms.opMs, learnRetry := none, restSince := some s.now } } s.hu.learnTicket

/-- The state in which the first step's rest is counted. -/
def State.learnCounted (s : State) : State := s.learnBegun.bump blkHUC HUC_FORCED_REST_CNT

/-- The state in which the gauge learns and the charger stands. -/
def State.learnShown (s : State) : State :=
  ({ s.set HUC_STATUS_GSTATE gsLearn with hu := { s.hu with chgSince := none } }).set HUC_STATUS_CHARGE 0

theorem State.setGauge_learn (s : State) : s.setGauge gsLearn = s.learnShown := by
  have hg : (s.set HUC_STATUS_GSTATE gsLearn).gauge = gsLearn := State.get_set _ _ _ _ _ rfl
  have stands : (s.set HUC_STATUS_GSTATE gsLearn).chargeAllowed = false := by simp [State.chargeAllowed, hg]
  rw [State.setGauge, State.chargeEval_stops stands, State.set_hu]
  rfl

theorem State.startLearn_eq (s : State) : s.startLearn = s.learnCounted.learnShown := State.setGauge_learn _

theorem State.learnBegun_hu (s : State) : s.learnBegun.hu = { s.hu with
    learn := some { step := 1, f1 := (0, 1), out := 0, since := s.now, avg := [], ticket := s.hu.learnTicket }, learnTicket := none,
    learnHeld := false, learnAt := s.ms.opMs, learnRetry := none, restSince := some s.now } := by
  unfold State.learnBegun
  cases s.hu.learnTicket <;> rfl

theorem State.learnBegun_regs (s : State) : s.learnBegun.regs = s.regs := by
  unfold State.learnBegun
  cases s.hu.learnTicket <;> rfl

/-- Faults, thermal state and milestones are no part of the books, and of the event router only what an event raised leaves. -/
theorem BooksOnly.keepsFaults (h : BooksOnly K s t) : KeepsFaults s t := by
  have hms : t.ms = s.ms := h.same State.ms
  refine ⟨h.same State.fc, h.same State.th, by rw [hms], ?_⟩
  exact congrArg (fun u : State => { u.ev with todo := s.ev.todo, fired := s.ev.fired }) h.1

theorem booksOnly_learnBegun (s : State) : BooksOnly [] { s with hu := s.learnBegun.hu } s.learnBegun := by
  refine booksOnly_of_eq ?_ s.learnBegun_regs ?_ <;> unfold State.learnBegun <;> cases s.hu.learnTicket <;> rfl

/-- What is no part of the gauge's own state, its registers or its tickets is as it was when a cycle begins. -/
theorem startLearn_keeps (s : State) :
    KeepsHost s s.startLearn ∧ KeepsMedia s s.startLearn ∧ KeepsFaults s s.startLearn ∧ s.startLearn.md = s.md ∧ s.startLearn.pw = s.pw := by
  have books : BooksOnly [] { s with hu := s.learnBegun.hu } s.startLearn := 
    (((booksOnly_learnBegun s).bump (by decide) (by decide)).inter (booksOnly_setGauge _ _)).mono (by decide)
  have rest : KeepsMedia s s.startLearn ∧ s.startLearn.pw = s.pw := by
    rw [State.startLearn_eq]
    unfold State.learnShown State.learnCounted State.learnBegun
    cases s.hu.learnTicket <;> simp [KeepsMedia, State.ticketRun, State.modTicket]
  obtain ⟨host, -, -, -, hmd⟩ := books.keeps
  obtain ⟨media, hpw⟩ := rest
  exact ⟨host, media, books.keepsFaults, hmd, hpw⟩

/-- What begins with a learning cycle, and what is shown of it (R279). -/
theorem startLearn_ends (s : State) :
    (s.after s.now s.startLearn).hu.learn.map (·.step) = some 1 ∧ (s.after s.now s.startLearn).gauge = gsLearn
      ∧ (s.after s.now s.startLearn).hu.learnHeld = false ∧ (s.after s.now s.startLearn).hu.restSince = some s.now
      ∧ (s.after s.now s.startLearn).get HUC_STATUS_CHARGE = 0 ∧ Counts HUC_FORCED_REST_CNT 0 1 s (s.after s.now s.startLearn) := by
  have hhu : s.startLearn.hu = { s.learnBegun.hu with chgSince := none } := by
    rw [State.startLearn_eq]
    simp [State.learnShown, State.learnCounted]
  have count : Counts HUC_FORCED_REST_CNT 0 1 s s.startLearn := by
    rw [Counts, State.startLearn_eq, ← State.setGauge_learn, (booksOnly_setGauge _ _).get (by decide)]
    exact counts_of_bump s.learnBegun_regs rfl (by decide) (by decide)
  have hgauge : (s.after s.now s.startLearn).gauge = gsLearn := (State.after_get _ _ (by decide)).trans (State.gauge_setGauge _ (by decide))
  rw [State.after_hu, State.after_get _ _ (by decide), hhu, s.learnBegun_hu]
  exact ⟨rfl, hgauge, rfl, rfl, State.charge_setGauge _ (by decide), count.after (by decide) _ _⟩

theorem startLearn_keeps_after (s : State) :
    KeepsHost s (s.after s.now s.startLearn) ∧ KeepsMedia s (s.after s.now s.startLearn) ∧ KeepsFaults s (s.after s.now s.startLearn)
      ∧ (s.after s.now s.startLearn).md = s.md ∧ (s.after s.now s.startLearn).pw = s.pw := by
  obtain ⟨host, media, faults, hmd, hpw⟩ := startLearn_keeps s
  rw [State.after_md, State.after_pw]
  exact ⟨host.after s s.now, media.after s s.now, faults.after s s.now, hmd, hpw⟩

theorem exec_hucLearnNow (s : State) :
    exec .hucLearnNow s = actWhen s (s.powered && s.packSound && s.hu.learn.isNone) fun s =>
      if s.learnOk then s.startLearn else { s with hu := { s.hu with learnHeld := true } } := rfl

theorem exec_learnStart (s : State) :
    exec .learnStart s = actWhen s (s.powered && s.learnOk && s.learnDue) fun s => s.startLearn := rfl

theorem row_hucLearnNow (s : State) : Rows.hucLearnNow s := by
  refine effect_actWhen (exec_hucLearnNow s) (by simp [and_assoc]) fun _ => ?_
  cases hok : s.learnOk
  · rw [if_neg Bool.false_ne_true, State.after_hu, State.after_md, State.after_pw]
    refine ⟨nofun, fun _ => rfl, KeepsHost.after ?_ s s.now, KeepsMedia.after ?_ s s.now, KeepsFaults.after ?_ s s.now, rfl, rfl⟩ <;>
      simp [KeepsHost, KeepsMedia, KeepsFaults]
  · obtain ⟨learn, gauge, held, rest, charge, -⟩ := startLearn_ends s
    rw [if_pos rfl]
    exact ⟨fun _ => ⟨learn, gauge, held, rest, charge⟩, nofun, startLearn_keeps_after s⟩

theorem row_learnStart (s : State) : Rows.learnStart s := by
  refine effect_actWhen (exec_learnStart s) (by simp [and_assoc]) fun _ => ?_
  obtain ⟨learn, gauge, held, rest, charge, count⟩ := startLearn_ends s
  exact ⟨learn, gauge, held, rest, charge, count, startLearn_keeps_after s⟩

-- a learning cycle ends

/-- The state in which a cycle that counts has ended with the energy it measured. -/
def State.learnMade (s : State) (c : Int) : State :=
  { s with hu := { s.hu with c := c, learn := none, ectr := min c s.hu.ectr,
                             life := s.hu.life.map fun r => { r with learnOk := satW 16 (r.learnOk + 1) } } }

/-- The state in which it is counted. -/
def State.okCounted (s : State) (c : Int) : State := (s.learnMade c).bump blkHUC HUC_LEARN_OK_CNT

/-- The state in which it is known to the host and to its ticket, and booked. -/
def State.okBooked (s : State) (l : Learn) (c : Int) : State := (((s.okCounted c).raise 187).ticketEnd l.ticket 3 (to32 c)).history 3

/-- The state in which what it gives is shown. -/
def State.okShown (s : State) (l : Learn) (c : Int) : State :=
  (((s.okBooked l c).setGauge (s.okBooked l c).gaugeBase).writeLife.estimate.eolCheck).readyEval.showGauge

/-- The last rest ends a cycle disqualified, or with the energy that it gives (R279). -/
theorem State.endLearn_cases {l : Learn} (h : s.hu.learn = some l) (counts : Nat) :
    s.endLearn counts = s.learnDq ∨ ∃ c, s.endLearn counts = s.okShown l c := by
  unfold State.endLearn
  rw [h]
  simp only
  split
  · exact .inl rfl
  · split
    · exact .inl rfl
    · exact .inr ⟨_, rfl⟩

theorem booksOnly_okCounted (s : State) (c : Int) : BooksOnly (failFields.erase HUC_LEARN_OK_CNT) (s.learnMade c) (s.okCounted c) :=
  (BooksOnly.refl _ _).bump (by decide) (by decide)

theorem booksOnly_okShown (s : State) (l : Learn) (c : Int) : BooksOnly failFields ((s.okCounted c).raise 187) (s.okShown l c) := by
  have booked : BooksOnly failFields ((s.okCounted c).raise 187) (s.okBooked l c) :=
    (((BooksOnly.refl failFields _).ticketEnd _ _ _).inter (booksOnly_history _ 3)).mono (by decide)
  have written : BooksOnly failFields (s.okBooked l c) ((s.okBooked l c).setGauge (s.okBooked l c).gaugeBase).writeLife.estimate :=
    (((booksOnly_setGauge _ _).inter (booksOnly_writeLife _)).inter (booksOnly_estimate _)).mono (by decide)
  exact ((((booked.trans written).trans (booksOnly_eolCheck _)).inter (booksOnly_readyEval _)).inter (booksOnly_showGauge _)).mono (by decide)

/-- What a cycle that ends disqualified leaves (R279). -/
theorem learnDq_ends {l : Learn} (h : s.hu.learn = some l) :
    s.learnDq.hu.learn = none ∧ Raises 187 s s.learnDq ∧ Counts HUC_LEARN_DQ_CNT 0 1 s s.learnDq ∧ s.learnDq.hu.c = s.hu.c := by
  have books := booksOnly_learnDq s
  have ended := booksOnly_dqCounted_learnDq h
  refine ⟨books.same (·.hu.learn), ?_, ?_, books.same (·.hu.c)⟩
  · exact Raises.between ((FieldsKept.of_eq rfl rfl).trans (booksOnly_dqCounted s).2) (by decide) ended.2
  · rw [Counts, ended.get (by decide), (BooksOnly.refl gaugeFields _).raise.get (by decide)]
    exact counts_of_bump (t := s.learnEnded) rfl rfl (by decide) (by decide)

/-- What a cycle that counts leaves (R279). -/
theorem okShown_ends (s : State) (l : Learn) (c : Int) :
    (s.okShown l c).hu.learn = none ∧ Raises 187 s (s.okShown l c) ∧ Counts HUC_LEARN_OK_CNT 0 1 s (s.okShown l c)
      ∧ BooksOnly [] (s.learnMade c) (s.okShown l c) := by
  have counted := booksOnly_okCounted s c
  have shown := booksOnly_okShown s l c
  have books : BooksOnly [] (s.learnMade c) (s.okShown l c) := (counted.raise.inter shown).mono (by decide)
  refine ⟨books.same (·.hu.learn), ?_, ?_, books⟩
  · exact Raises.between ((FieldsKept.of_eq rfl rfl).trans counted.2) (by decide) shown.2
  · rw [Counts, shown.get (by decide), (BooksOnly.refl failFields _).raise.get (by decide)]
    exact counts_of_bump (t := s.learnMade c) rfl rfl (by decide) (by decide)

theorem exec_learnRestEnd (ocv : Nat) (s : State) :
    exec (.learnRestEnd ocv) s =
      actWhen s (s.powered && (match s.hu.learn with | some l => l.step == 3 && decide (l.since + 1800000000000 ≤ s.now) | none => false))
        fun s => s.gauged fun s => s.endLearn ocv := rfl

theorem row_learnRestEnd (ocv : Nat) (l : Learn) (s : State) : Rows.learnRestEnd ocv l s := by
  intro h
  refine effect_actWhen (exec_learnRestEnd ocv s) (by simp [h]) fun _ => ?_
  rw [State.gauged_hu, Counts, Counts, State.gauged_get _ _ (by decide), State.gauged_get _ _ (by decide)]
  rcases State.endLearn_cases h ocv with e | ⟨c, e⟩
  · obtain ⟨learn, raised, count, hc⟩ := learnDq_ends h
    have books : BooksOnly dqFields { s with hu := s.learnDropped.hu } (s.endLearn ocv) := by
      rw [e]
      exact booksOnly_learnDq s
    rw [← e] at learn raised count hc
    exact ⟨learn, Raises.gauged (f := fun s => s.endLearn ocv) raised, .inr ⟨count, hc⟩, packFrame_gauged (f := fun s => s.endLearn ocv) books⟩
  · obtain ⟨learn, raised, count, books⟩ := okShown_ends s l c
    rw [← e] at learn raised count books
    have books : BooksOnly [] { s with hu := (s.learnMade c).hu } (s.endLearn ocv) := books
    exact ⟨learn, Raises.gauged (f := fun s => s.endLearn ocv) raised, .inl count, packFrame_gauged (f := fun s => s.endLearn ocv) books⟩

-- the life record

/-- A record that may be written has the next number, C and this device as last, and goes to the copy that is not the last written (R281). -/
theorem State.writeLife_written (hp : s.hu.pack ≠ none) (hi : s.hu.identOk = true) (hc : s.flag PSC_STATUS_HOLD_NOCFG = false) :
    ∃ (r : LifeRec) (h : HoldState), s.writeLife = { s.put (.eeprom (if s.hu.nextB = true then 0x140 else 0x100) (lifeBytes r)) with hu := h }
      ∧ (r.seq, r.c, r.lastDev) = ((s.hu.life.getD LifeRec.fresh).seq + 1, to32 s.hu.c, Config.serial % 2 ^ 64) ∧ h.life = some r
      ∧ h.detours = 0 ∧ h.lifeAt = s.hu.lifeAt ∧ h.nextB = !s.hu.nextB := by
  have writes : ¬(s.hu.pack.isNone = true ∨ (!s.hu.identOk) = true ∨ s.flag PSC_STATUS_HOLD_NOCFG = true) := by simp [hp, hi, hc]
  unfold State.writeLife
  rw [if_neg writes]
  exact ⟨_, _, rfl, rfl, rfl, rfl, by simp, by simp⟩

theorem exec_lifeRecordPeriod (s : State) :
    exec .lifeRecordPeriod s = actWhen s (s.powered && s.hu.pack.isSome && decide (s.hu.lifeAt + 86400000 ≤ s.ms.opMs)) fun s =>
      { s with hu := { s.hu with lifeAt := s.ms.opMs } }.writeLife := rfl

theorem row_lifeRecordPeriod (s : State) : Rows.lifeRecordPeriod s := by
  rintro ⟨hi, hc⟩
  refine effect_actWhen (exec_lifeRecordPeriod s) (by simp [Option.isSome_iff_ne_none, and_assoc]) fun ⟨_, hp, _⟩ => ?_
  obtain ⟨r, h, e, figures, hlife, hdetours, hat, hnext⟩ :=
    State.writeLife_written (s := { s with hu := { s.hu with lifeAt := s.ms.opMs } }) hp hi hc
  rw [e, State.after_hu, State.after_out, State.after_md, State.after_pw]
  refine ⟨?_, hdetours, hat, hnext, ⟨r, ?_, State.out_put rfl⟩, (onlyRegs_of_eq [] ?_).after, KeepsHost.after ?_ s s.now,
    KeepsMedia.after ?_ s s.now, KeepsService.after ?_ s s.now, KeepsFaults.after ?_ s s.now, ?_, ?_⟩
  · exact (congrArg _ hlife).trans (congrArg some figures)
  · simp [hlife]
  all_goals simp [KeepsHost, KeepsMedia, KeepsService, KeepsFaults]

/-- Settles O23: that blank life records mean a new pack is log 42's choice, that a command whose event cannot occur completes with no effect
log 6. -/
theorem packFailureLifeAndLearning : Obligations.PackFailureLifeAndLearning :=
  ⟨row_packHotTimeout, row_packHotTimeout_failed, row_chargeTimeout, row_chargeTimeout_failed, row_packInsert, row_packInsert_unidentified,
    row_packRemove, row_hucLearnNow, row_learnStart, row_learnRestEnd, row_lifeRecordPeriod⟩

end Sys2Proof.Machine
end

section
/-!
SUPPORT. DRAM traffic of HOLD and of BOOT that the statements about the power sequencer leave out: power-down drains the write queues before
the DDR5 reset (R335), and at the end of BOOT a request that waits for the scrub class's share is admitted (R332).
-/

namespace Sys2Proof.Machine

-- One proof at a time, as in Tests/Witnesses: each kernel evaluation on a thread of its own would take its stack beside the others'.
set_option Elab.async false

/-- In a mode with every rail of Table 10.1 up, DRAM channels 0 and 1 live, and channel 0 as given. -/
def dramIn (m : Mode) (c : DChan) : State :=
  { State.reset with
      pw := { PowerState.reset with
                ao := true
                rails := (List.range 11).map fun r =>
                  (r, { enabled := decide (1 ≤ r ∧ r ≤ 9), waiting := false, armed := true, inWindow := true, since := 0 }) },
      md := { ModeState.reset with mode := m },
      mm := { MemState.reset with chans := [(0, c)] } }
  |>.set DMC_CH_STAT_POP 1 0 |>.set DMC_CH_STAT_POP 1 1

theorem State.dchan_of_mm {s t : State} (h : t.mm = s.mm) (d : Nat) : t.dchan d = s.dchan d := by unfold State.dchan; rw [h]

-- an off request in HOLD

theorem exec_psqOff {s : State} (bound : Bound s) (h : s.powered = true) : exec .psqOff s = .next (s.after s.now s.offRequest) :=
  show execPsqOff s = _ from actWhen_true bound h State.offRequest

/-- A write of one burst by a data mover, held in the write queue of its channel. -/
def queuedWrite : DReq :=
  { id := 0, req := { cls := 1, source := 7, user := .dma 9 none, write := true, addr := 64, len := 64 }, at_ := 0, use := none }

/-- In HOLD that write, younger than WR_AGE, stands in the write queue of DRAM channel 0 (R333), as a DRAM_REQUEST leaves it. -/
def writeInHold : State := dramIn .hold { DChan.fresh with nextId := 1, writes := [queuedWrite] }

theorem writeInHold_meets :
    Bound writeInHold ∧ writeInHold.powered = true ∧ (writeInHold.md.mode = .boot ∨ writeInHold.md.mode = .hold) ∧ writeInHold.pw.seq = .idle
      ∧ (writeInHold.rail 8).enabled = true ∧ (writeInHold.rail 7).enabled = true ∧ (writeInHold.dchan 0).writes = [queuedWrite] := by
  decide +kernel

/-- Power-down begins with the drain of the write queue. -/
theorem writeInHold_drains : (writeInHold.offRequest.dchan 0).writes = [] := by decide +kernel

/-- Refutes O25: its clause on PSQ_OFF in HOLD keeps the memories, but power-down drains the write queues to the DRAM before the DDR5 reset
(R335), and the clause does not ask that they be empty. -/
theorem not_powerDown : ¬ Obligations.PowerDown := by
  rintro ⟨-, hold, -⟩
  obtain ⟨bound, powered, mode, idle, vcc, vccq, held⟩ := writeInHold_meets
  obtain ⟨-, -, -, -, -, -, -, -, -, ⟨mm, -⟩, -⟩ := (hold writeInHold ⟨mode, idle, vcc, vccq⟩).of_exec bound (exec_psqOff bound powered) powered
  rw [State.after_mm] at mm
  have same := congrArg DChan.writes (State.dchan_of_mm mm 0)
  rw [writeInHold_drains, held] at same
  exact absurd same (List.cons_ne_nil queuedWrite []).symm

-- the end of BOOT

theorem exec_bootEnd {s : State} (bound : Bound s) (hm : s.inModes [.boot] = true) (hr : s.fw.bootRom = false) (hb : s.fw.boot ≠ none) :
    exec .bootEnd s = .next (s.after s.now s.bootEnd) :=
  show execBootEnd s = _ from actWhen_true bound (by simp [hm, hr, Option.isSome_iff_ne_none, hb]) State.bootEnd

/-- A boot that finds no flash, no pack and nothing to repair. -/
def bareBoot : BootEnv :=
  { dies := [], rates := [], failed := [], training := [], dramLost := [], dramPop := [1, 1], dramRate := [], raaimt := 0, raammt := 0,
    dramHard := [], fusedSpares := [], descr := [], opcodes := [], badCols := [], looks := [], goodSlots := [1], coresFailed := [], pack := none }

/-- A read of the scrub class that waits for admission (R332). -/
def waitingScrub : DReq :=
  { id := 0, req := { cls := 4, source := 7, user := .dma 9 none, write := false, addr := 64, len := 64 }, at_ := 0, use := none }

/-- At the end of BOOT that read waits at DRAM channel 0, whose scrub class had used its share until now, as a DRAM_REQUEST at time 0 leaves it. -/
def scrubWaitsInBoot : State :=
  { dramIn .boot { DChan.fresh with nextId := 1, waiting := [waitingScrub], scrubUntil := 1000 } with
      now := 1000, fw := { FwState.reset with boot := some bareBoot } }

theorem scrubWaitsInBoot_meets :
    Bound scrubWaitsInBoot ∧ (scrubWaitsInBoot.inModes [.boot] = true ∧ scrubWaitsInBoot.fw.bootRom = false ∧ scrubWaitsInBoot.fw.boot ≠ none)
      ∧ (scrubWaitsInBoot.recordSlot = none ∧ scrubWaitsInBoot.hu.live = [] ∧ scrubWaitsInBoot.md.undecoded = []
        ∧ scrubWaitsInBoot.wc.pairs = [] ∧ scrubWaitsInBoot.md.offHeld = false ∧ scrubWaitsInBoot.md.holdWrite = false
        ∧ scrubWaitsInBoot.md.holdWait = false ∧ scrubWaitsInBoot.md.stopped = false ∧ scrubWaitsInBoot.pw.seq = .idle)
      ∧ (scrubWaitsInBoot.dchan 0).waiting = [waitingScrub] := by
  decide +kernel

/-- The state with an entry for a register field, at a value cut to the field's width, or with none. -/
def State.setEntry (s : State) (f : Field) (v : Nat) (entry : Bool) : State :=
  { s with regs := if entry then s.regs.put (f.key 0 0) (v % 2 ^ f.width) else s.regs.del (f.key 0 0) }

/-- A write leaves an entry unless it comes to the Reset value. -/
theorem State.set_eq_setEntry (s : State) {f : Field} (v : Nat) (h : f.reg.has 0 0 = true) : ∃ entry, s.set f v = s.setEntry f v entry := by
  unfold State.set NMap.putD
  rw [if_pos h]
  by_cases hv : v % 2 ^ f.width = f.reset 0
  · exact ⟨false, by rw [if_pos hv]; rfl⟩
  · exact ⟨true, by rw [if_neg hv]; rfl⟩

/-- The free bits of the three clock registers after step 8, with or without an entry for each: once that is told, what follows BOOT can be
evaluated, for it looks at no clock register. -/
def State.clocksShown (s : State) (pll clk rst : Bool) : State :=
  ((s.setEntry CRU_PLL_STAT (Config.cruBits 0 8) pll).setEntry CRU_CLK_STAT (Config.cruBits 1 8) clk).setEntry CRU_RST_STAT (Config.cruBits 2 8) rst

theorem State.showClocks_eq_clocksShown (s : State) : ∃ pll clk rst, s.showClocks 8 = s.clocksShown pll clk rst := by
  obtain ⟨pll, hpll⟩ := s.set_eq_setEntry (f := CRU_PLL_STAT) (Config.cruBits 0 8) (by decide)
  obtain ⟨clk, hclk⟩ := (s.setEntry CRU_PLL_STAT (Config.cruBits 0 8) pll).set_eq_setEntry (f := CRU_CLK_STAT) (Config.cruBits 1 8) (by decide)
  obtain ⟨rst, hrst⟩ := ((s.setEntry CRU_PLL_STAT (Config.cruBits 0 8) pll).setEntry CRU_CLK_STAT (Config.cruBits 1 8) clk).set_eq_setEntry
    (f := CRU_RST_STAT) (Config.cruBits 2 8) (by decide)
  refine ⟨pll, clk, rst, ?_⟩
  simp only [State.showClocks, State.each, hpll, hclk, hrst, State.clocksShown]

/-- What BOOT_END does once the clocks are shown. -/
def State.bootLeft (s : State) : State :=
  { s with md := { s.md with fresh := true }, fw := { s.fw with boot := none } }.showHold.afterBoot.afterTransition

theorem State.bootEnd_eq_bootLeft (s : State) : s.bootEnd = (s.firstLimit.showClocks 8).bootLeft := rfl

/-- Whatever the clock registers hold, the entry to RUN has the channels serve what waits. -/
theorem scrubWaitsInBoot_admits_clocksShown :
    ∀ pll clk rst, ((scrubWaitsInBoot.firstLimit.clocksShown pll clk rst).bootLeft.dchan 0).waiting = [] := by
  decide +kernel

theorem scrubWaitsInBoot_admits : (scrubWaitsInBoot.bootEnd.dchan 0).waiting = [] := by
  obtain ⟨pll, clk, rst, shown⟩ := scrubWaitsInBoot.firstLimit.showClocks_eq_clocksShown
  rw [State.bootEnd_eq_bootLeft, shown]
  exact scrubWaitsInBoot_admits_clocksShown pll clk rst

/-- Refutes O24: its clause on BOOT_END with nothing to restore keeps the memories, but the entry to RUN has the DRAM channels admit what waits
there (R332), and the clause does not ask that nothing wait. -/
theorem not_railsAndPowerUp : ¬ Obligations.RailsAndPowerUp := by
  rintro ⟨-, -, -, -, -, -, -, -, -, -, -, -, -, -, -, -, -, -, -, -, -, -, -, ends, -⟩
  obtain ⟨bound, occurs, quiet, held⟩ := scrubWaitsInBoot_meets
  have ⟨mode, rom, boot⟩ := occurs
  obtain ⟨-, -, -, -, -, mm, -⟩ := (ends scrubWaitsInBoot quiet).of_exec bound (exec_bootEnd bound mode rom boot) occurs
  rw [State.after_mm] at mm
  have same := congrArg DChan.waiting (State.dchan_of_mm mm 0)
  rw [scrubWaitsInBoot_admits, held] at same
  exact absurd same (List.cons_ne_nil waitingScrub []).symm

end Sys2Proof.Machine
end

section
/-!
SUPPORT. No command is refused; how a counter saturates (R391) and what a raised source leaves standing (R389).
-/

namespace Sys2Proof.Machine

theorem actTo_not_refused (n : Nat) (s : State) (f : State → State) (r : Refusal) : actTo n s f ≠ .refused r := by
  unfold actTo
  split <;> simp

theorem actRemovingTo_not_refused (n : Nat) (s : State) (f : State → State) (r : Refusal) : actRemovingTo n s f ≠ .refused r := by
  unfold actRemovingTo
  split <;> simp

/-- Settles O48: no form of a command ends in a refusal; that unmet conditions give no effect is log 6's choice, the stops are log 5's. -/
theorem noCommandIsRefused : Obligations.NoCommandIsRefused := by
  intro c s r
  cases hc : mayRemove c with
  | false =>
    obtain ⟨f, e⟩ := exec_plain c s hc
    rw [e]
    exact actTo_not_refused _ _ _ _
  | true =>
    obtain ⟨n, f, e, -⟩ := exec_removing c s hc
    rw [e]
    exact actRemovingTo_not_refused _ _ _ _

-- counters

theorem State.hasFired_iff (s : State) (n o : Nat) : s.hasFired n o = true ↔ (n, o) ∈ s.ev.fired := by
  simp [State.hasFired]

/-- Below its greatest value a counter adds and raises nothing. -/
theorem State.bump_below {s : State} {b : CntBlock} {f : Field} {i n o si : Nat} (h : s.get f i + n < 2 ^ f.width) :
    s.bump b f i n o si = s.set f (s.get f i + n) i := by
  unfold State.bump
  exact if_neg (Nat.not_le.2 h)

/-- Beyond its greatest value a counter holds all ones, and its block has saturated. -/
theorem State.bump_beyond {s : State} {b : CntBlock} {f : Field} {i n o si : Nat} (h : 2 ^ f.width ≤ s.get f i + n) :
    s.bump b f i n o si = (s.set f (2 ^ f.width - 1) i).saturated b o si := by
  unfold State.bump
  exact if_pos h

/-- A block that has saturated since it was last cleared does not do so again (R391). -/
theorem State.saturated_again {s : State} {b : CntBlock} {o si : Nat} (h : (b.src, o + 0x100) ∈ s.ev.fired) : s.saturated b o si = s := by
  unfold State.saturated
  exact if_pos ((s.hasFired_iff _ _).2 h)

/-- Once a block has saturated, its counters count, or stop, and do nothing else. -/
theorem State.bump_again {s : State} {b : CntBlock} {f : Field} {i n o si : Nat} (h : (b.src, o + 0x100) ∈ s.ev.fired) :
    ∃ v, s.bump b f i n o si = s.set f v i := by
  rcases Nat.lt_or_ge (s.get f i + n) (2 ^ f.width) with hv | hv
  · exact ⟨_, State.bump_below hv⟩
  · exact ⟨_, (State.bump_beyond hv).trans (State.saturated_again (by simpa using h))⟩

/-- The first saturation of a block sets its flag, raises its event and notes that it did (R391). -/
theorem State.saturated_first {s : State} {b : CntBlock} {o si : Nat} (h : (b.src, o + 0x100) ∉ s.ev.fired) (hi : b.sat.reg.has si 0 = true)
    (hw : b.sat.width = 1) (hsrc : b.src < 288) (hp : ∀ k, b.sat.key si 0 ≠ EVR_PEND.key k 0) :
    (s.saturated b o si).get b.sat si = 1 ∧ Raises b.src s (s.saturated b o si) ∧ (b.src, o + 0x100) ∈ (s.saturated b o si).ev.fired := by
  unfold State.saturated
  rw [if_neg (mt (s.hasFired_iff _ _).1 h)]
  refine ⟨?_, ?_, by simp [State.raise]⟩
  · rw [State.get_raise_ne _ _ _ _ _ _ (hp _).symm, State.get_set _ _ _ _ _ hi, hw]
    rfl
  · obtain ⟨hbit, l, hl, hr⟩ := raises_raise (({ s with ev := { s.ev with fired := (b.src, o + 0x100) :: s.ev.fired } } : State).set b.sat 1 si) b.src 0 hsrc
    exact ⟨hbit, l, by simpa using hl, hr⟩

/-- Settles O55: the three ways a counter goes, below its greatest value, beyond it for the first time, and again. -/
theorem countersSaturate : Obligations.CountersSaturate := by
  intro s b f i n owner si hf hsat hw hsrc hne hfp hsp
  refine ⟨State.bump_get s b f i n owner si hf hne.symm (hfp _).symm, fun h => ?_, fun h first => ?_, fun again => ?_⟩
  · rw [State.bump_below h]
    exact ⟨State.set_ev s f _ i 0, onlyRegs_set s f _ i 0⟩
  · rw [State.bump_beyond h]
    obtain ⟨hflag, ⟨hbit, l, hl, hr⟩, hfired⟩ := State.saturated_first (s := s.set f (2 ^ f.width - 1) i) (by simpa using first) hsat hw hsrc hsp
    exact ⟨hflag, ⟨hbit, l, by simpa using hl, hr⟩, hfired⟩
  · obtain ⟨v, e⟩ := State.bump_again (f := f) (i := i) (n := n) (si := si) again
    rw [e]
    exact ⟨State.set_ev s f v i 0, onlyRegs_set s f v i 0⟩

-- sources

theorem onlyRegs_raise (s : State) (n q : Nat) : OnlyRegs [EVR_PEND.key (n / 32) 0] s (s.raise n q) :=
  onlyRegs_set s EVR_PEND (setBit (s.get EVR_PEND (n / 32)) (n % 32)) (n / 32) 0

/-- Outside the registers and the event router a raised source changes nothing. -/
theorem keepsAll_raise (s : State) (n q : Nat) : KeepsAll s { s.raise n q with ev := s.ev } := by
  simp [KeepsAll, KeepsHost, KeepsMedia, KeepsPower, KeepsService, KeepsFaults]

/-- The pending bits after a source is raised: its own, and those of before (R389). -/
theorem bit_pend_raise (s : State) {n : Nat} (hn : n < 288) (q w b : Nat) :
    bit ((s.raise n q).get EVR_PEND w) b = (decide (w = n / 32 ∧ b = n % 32) || bit (s.get EVR_PEND w) b) := by
  by_cases hw : w = n / 32
  · subst hw
    rw [State.raise_pend s n q hn, bit_setBit]
    simp
  · rw [State.get_raise_ne _ _ _ _ _ _ (pend_key_ne _ _ (Ne.symm hw))]
    simp [hw]

/-- Settles O56: by the word of the source and what setting a bit leaves of a word. -/
theorem raisedSourcesPend : Obligations.RaisedSourcesPend := fun s n q hn =>
  ⟨raises_raise s n q hn, onlyRegs_raise s n q, keepsAll_raise s n q, fun w _ b _ => bit_pend_raise s hn q w b⟩

end Sys2Proof.Machine
end

section
/-!
SUPPORT. Packets and replies as bytes (R430 to R432, Tables 16.1 and 16.2): where each field of the layout stands, and that its two CRCs agree.
-/

namespace Sys2Proof.Machine

/-- Bytes followed by a number of `n` bytes: the number reads back after them. -/
theorem field_le_end (a : List Nat) (n v : Nat) : field (a ++ le n v) a.length n = v % 256 ^ n := by
  simpa using field_le a [] n v a.length rfl

/-- A CRC laid out behind some bytes reads back. -/
theorem field_crc (l a b : List Nat) (o : Nat) (h : o = a.length) : field (a ++ (le 4 (crc32 l) ++ b)) o 4 = crc32 l := by
  rw [field_le a b 4 _ o h]
  exact Nat.mod_eq_of_lt (crc32_lt l)

/-- A header of 12 bytes with its HCRC, parameters, and the CRC over both: the layout of packets and replies. -/
def framed (h body : List Nat) : List Nat := withHcrc h ++ body ++ le 4 (crc32 (withHcrc h ++ body))

/-- The header of a reply other than Header CRC Error. -/
def replyHeader (p : List Nat) (st : Nat) (body : List Nat) : List Nat :=
  [1, 1 + pkFlags p / 4 % 2 * 4] ++ (le 2 (pkOpcode p) ++ le 2 (pkTag p)) ++ le 2 st ++ le 2 body.length ++ [pkSlice p, 0]

theorem replyBytes_eq_framed (p body : List Nat) {st : Nat} (h : st ≠ 0x10) : replyBytes p st body = framed (replyHeader p st body) body := by
  unfold replyBytes
  rw [if_neg h]
  rfl

section

variable {h body : List Nat} (hh : h.length = 12)

include hh

theorem length_withHcrc : (withHcrc h).length = 16 := by simp [withHcrc, hh]

theorem length_framed : (framed h body).length = 20 + body.length := by
  simp [framed, length_withHcrc hh]
  omega

/-- What lies in the header is read from it. -/
theorem field_framed {o n : Nat} (ho : o + n ≤ 12) : field (framed h body) o n = field h o n := by
  simp only [framed, withHcrc, List.append_assoc]
  exact field_left _ _ _ _ (by omega)

theorem take_header_framed : (framed h body).take 12 = h := by
  simp only [framed, withHcrc, List.append_assoc, ← hh, List.take_left]

theorem hcrc_framed : field (framed h body) 12 4 = crc32 ((framed h body).take 12) := by
  rw [take_header_framed hh]
  simp only [framed, withHcrc, List.append_assoc]
  exact field_crc h h _ 12 hh.symm

theorem take_body_framed : ((framed h body).drop 16).take body.length = body := by
  have e : (framed h body).drop 16 = body ++ le 4 (crc32 (withHcrc h ++ body)) := by
    rw [framed, List.append_assoc, ← length_withHcrc hh, List.drop_left]
  rw [e, List.take_left]

theorem crc_framed : field (framed h body) (16 + body.length) 4 = crc32 ((framed h body).take (16 + body.length)) := by
  have e : 16 + body.length = (withHcrc h ++ body).length := by simp [length_withHcrc hh]
  rw [e, framed, List.take_left, field_le_end]
  exact Nat.mod_eq_of_lt (crc32_lt _)

end

section

variable (p body : List Nat) (st : Nat)

theorem length_replyHeader : (replyHeader p st body).length = 12 := by simp [replyHeader]

theorem replyHeader_opcode : field (replyHeader p st body) 2 2 = pkOpcode p % 65536 := by
  simp [replyHeader, field, le, unle]
  omega

theorem replyHeader_tag : field (replyHeader p st body) 4 2 = pkTag p % 65536 := by
  simp [replyHeader, field, le, unle]
  omega

theorem replyHeader_status : field (replyHeader p st body) 6 2 = st % 65536 := by
  simp [replyHeader, field, le, unle]
  omega

theorem replyHeader_length : field (replyHeader p st body) 8 2 = body.length % 65536 := by
  simp [replyHeader, field, le, unle]
  omega

/-- The first flag marks a reply, whatever the packet's flags are. -/
theorem replyHeader_isReply : bit (field (replyHeader p st body) 1 1) 0 = true := by
  simp [replyHeader, field, unle, bit, bits]
  omega

end

/-- Settles O57: a reply is a header of 12 bytes framed by its two CRCs. The statement leaves out the slice byte. -/
theorem replyLayout : Obligations.ReplyLayout := by
  intro p body st hst hne hbody
  rw [replyBytes_eq_framed p body hne]
  have hh := length_replyHeader p body st
  refine ⟨length_framed hh, field_framed hh (by decide), ?_, ?_, ?_, ?_, ?_, take_body_framed hh, hcrc_framed hh, crc_framed hh⟩
  · rw [field_framed hh (by decide)]
    exact replyHeader_isReply p body st
  · rw [field_framed hh (by decide), replyHeader_opcode]
  · rw [field_framed hh (by decide), replyHeader_tag]
  · rw [field_framed hh (by decide), replyHeader_status, Nat.mod_eq_of_lt hst]
  · rw [field_framed hh (by decide), replyHeader_length, Nat.mod_eq_of_lt hbody]

-- packets

/-- The header of a packet that acts for no slice. -/
def packetHeader (opc tag len : Nat) : List Nat := [1, 4] ++ le 2 opc ++ le 2 tag ++ le 2 len ++ zeros 4

section

variable (opc tag : Nat) (params : List Nat)

theorem packetOf_eq_framed : packetOf opc tag params = framed (packetHeader opc tag params.length) params := rfl

theorem length_packetHeader (len : Nat) : (packetHeader opc tag len).length = 12 := by simp [packetHeader, zeros]

/-- What lies in the header is read from it. -/
theorem field_packetOf {o n : Nat} (h : o + n ≤ 12) :
    field (packetOf opc tag params) o n = field (packetHeader opc tag params.length) o n :=
  field_framed (length_packetHeader _ _ _) h

theorem length_packetOf : (packetOf opc tag params).length = 20 + params.length := length_framed (length_packetHeader _ _ _)

@[simp] theorem pkVer_packetOf : pkVer (packetOf opc tag params) = 1 := field_packetOf _ _ _ (by decide)

@[simp] theorem pkFlags_packetOf : pkFlags (packetOf opc tag params) = 4 := field_packetOf _ _ _ (by decide)

theorem pkOpcode_packetOf : pkOpcode (packetOf opc tag params) = opc % 65536 := by
  rw [pkOpcode, field_packetOf _ _ _ (by decide)]
  simp [packetHeader, field, le, unle]
  omega

theorem pkTag_packetOf : pkTag (packetOf opc tag params) = tag % 65536 := by
  rw [pkTag, field_packetOf _ _ _ (by decide)]
  simp [packetHeader, field, le, unle]
  omega

theorem pkLen_packetOf : pkLen (packetOf opc tag params) = params.length % 65536 := by
  rw [pkLen, field_packetOf _ _ _ (by decide)]
  simp [packetHeader, field, le, unle]
  omega

theorem pkParams_packetOf (h : params.length < 65536) : pkParams (packetOf opc tag params) = params := by
  rw [pkParams, pkLen_packetOf, Nat.mod_eq_of_lt h]
  exact take_body_framed (length_packetHeader _ _ _)

/-- A packet of this node passes the checks of length, CRCs, version and flags (R432); what is left is whether its tag is in use. -/
theorem formatFault_packetOf (s : State) (origin m : Nat) (h : params.length ≤ 4160)
    (free : s.tagInUse { carrier := 1, origin := origin, bytes := packetOf opc tag params, replyMax := m } = false) :
    s.formatFault { carrier := 1, origin := origin, bytes := packetOf opc tag params, replyMax := m } = none := by
  have hlen := length_packetOf opc tag params
  have hpk : pkLen (packetOf opc tag params) = params.length := by rw [pkLen_packetOf, Nat.mod_eq_of_lt (by omega)]
  have hcrc : field (packetOf opc tag params) 12 4 = crc32 ((packetOf opc tag params).take 12) := hcrc_framed (length_packetHeader _ _ _)
  have crc : field (packetOf opc tag params) (16 + params.length) 4 = crc32 ((packetOf opc tag params).take (16 + params.length)) :=
    crc_framed (length_packetHeader _ _ _)
  have hend : 20 + params.length - 4 = 16 + params.length := by omega
  have hshort : ¬ 4160 < params.length := by omega
  simp [State.formatFault, hlen, hpk, hcrc, crc, hend, hshort, free]

end

/-- Settles O58: a packet is a header of 12 bytes framed by its two CRCs; carrier 1 alone limits the parameters to 4,160 bytes. -/
theorem packetsBuiltPassTheFormatChecks : Obligations.PacketsBuiltPassTheFormatChecks := fun opc tag params s origin m ho ht hp =>
  ⟨(pkOpcode_packetOf opc tag params).trans (Nat.mod_eq_of_lt ho), (pkTag_packetOf opc tag params).trans (Nat.mod_eq_of_lt ht),
   pkParams_packetOf opc tag params (by omega), formatFault_packetOf opc tag params s origin m hp⟩

end Sys2Proof.Machine
end

section
/-!
SUPPORT. States in which modes, fabric, memories and the firmware store do more than the statements about them say: a slice reset that counts
its time in RUN when the mode changes (R73).
-/

namespace Sys2Proof.Machine

-- One proof at a time, as in Tests/Witnesses: each kernel evaluation on a thread of its own would take its stack beside the others'.
set_option Elab.async false

-- mode requests

theorem exec_modeTargetService {s : State} (bound : Bound s) (h : s.powered = true) :
    exec .modeTargetService s = .next (s.after s.now s.targetService) :=
  show execModeTargetService s = _ from actWhen_true bound h fun s => s.targetService

/-- In RUN since the counter stood at 0, with a reset of slice 0 under way that counts its time in RUN from then on. -/
def resetInRun : State := { sidebandRun with resets := [(0, { serviceReset with since := some 0 })] }

/-- MODE_TARGET_SERVICE can occur in `resetInRun`, and no transition is under way. -/
theorem resetInRun_meets : Bound resetInRun ∧ resetInRun.powered = true ∧ resetInRun.md.mode = .run ∧ resetInRun.inTransition = false := by
  decide +kernel

/-- On leaving RUN the reset counts its time there up to now, and no further (Table 03.2). -/
theorem resetInRun_stops_counting : resetInRun.targetService.resets = [(0, serviceReset)] := by decide +kernel

/-- Refutes O26: its clause on MODE_TARGET_SERVICE in RUN keeps the host side, slice resets among it, but a reset under way stops counting
its time in RUN when the mode is left (R73, Table 03.2). -/
theorem not_modesHoldAndThermalAck : ¬ Obligations.ModesHoldAndThermalAck := by
  rintro ⟨-, -, -, service, -⟩
  obtain ⟨bound, powered, mode, still⟩ := resetInRun_meets
  obtain ⟨-, -, -, -, -, -, host, -⟩ :=
    (service resetInRun ⟨mode, still⟩).of_exec bound (exec_modeTargetService bound powered) powered
  obtain ⟨-, -, -, -, -, -, -, -, -, -, resets⟩ := host
  rw [State.after_resets, resetInRun_stops_counting] at resets
  exact absurd resets (by decide +kernel)

-- REST entry

theorem exec_restEntryComplete {s : State} (bound : Bound s) (h : (s.md.restStep.isSome && !s.md.stopped) = true) (awake : s.md.wakeNext = false) :
    exec .restEntryComplete s = .next (s.after s.now s.restEntered) := by
  show execRestEntryComplete s = _
  unfold execRestEntryComplete
  rw [actWhen_true bound h]
  simp [awake]

/-- REST entry is at step 5 when that reset has been asked for: until CORE is down, the mode is RUN. -/
def resetInRestEntry : State := { resetInRun with md := { ModeState.reset with mode := .run, restStep := some 5 } }

theorem resetInRestEntry_meets :
    Bound resetInRestEntry ∧ resetInRestEntry.md.restStep ≠ none ∧ resetInRestEntry.md.stopped = false ∧ resetInRestEntry.md.wakeNext = false := by
  decide +kernel

/-- The end of the entry leaves RUN, and with it the reset's time in RUN stops counting. -/
theorem resetInRestEntry_stops_counting : resetInRestEntry.restEntered.resets = [(0, serviceReset)] := by decide +kernel

/-- Refutes O27: its clause on the end of REST entry keeps the host side, slice resets among it, but a reset asked for during the entry stops
counting its time in RUN when REST is reached (R73, Table 03.2). -/
theorem not_restWakeAndWatch : ¬ Obligations.RestWakeAndWatch := by
  rintro ⟨-, -, -, complete, -⟩
  obtain ⟨bound, entering, running, awake⟩ := resetInRestEntry_meets
  obtain ⟨-, -, -, -, -, -, -, host, -⟩ := (complete resetInRestEntry).of_exec bound
    (exec_restEntryComplete bound (by simp [running, Option.isSome_iff_ne_none, entering]) awake) ⟨entering, running⟩
  obtain ⟨-, -, -, -, -, -, -, -, -, -, resets⟩ := host
  rw [State.after_resets, resetInRestEntry_stops_counting] at resets
  exact absurd resets (by decide +kernel)

end Sys2Proof.Machine
end

section
/-!
SUPPORT. States in which the DRAM, the fabric, the event router and the thermal monitor answer otherwise than the statements about them say:
a scrub read that waits for its share (R332), the safe state of host DMA (R385), and readings that a 16-bit field does not hold (R403).
-/

namespace Sys2Proof.Machine

set_option Elab.async false

-- a scrub read before its share is due

theorem exec_dramRequest {s : State} (bound : Bound s) (d : Nat) (r : DramReq)
    (h : (s.powered && d < 4 && s.chLive d && !s.flag DMC_CH_STAT_SREF d) = true) :
    exec (.dramRequest d r) s = .next (s.after s.now (((s.queueDram d r none).dramService d).takeAnswered d)) :=
  show execDramRequest d r s = _ from actWhen_true bound h fun s => ((s.queueDram d r none).dramService d).takeAnswered d

theorem after_dchan (s : State) (n : Nat) (t : State) (d : Nat) : (s.after n t).dchan d = t.dchan d := by
  unfold State.dchan; rw [State.after_mm]

/-- A read of one burst by the scrub class. -/
def scrubRead : DramReq := { cls := 4, source := 7, user := .dma 9 none, write := false, addr := 64, len := 64 }

/-- DRAM channel 0 is live in RUN, with nothing queued; its scrubs have used their share of the bus until later. -/
def scrubPaidAhead : State :=
  { sidebandRun with mm := { sidebandRun.mm with chans := [(0, { DChan.fresh with scrubUntil := 10 })] } }.set DMC_CH_STAT_POP 1 0

theorem scrubPaidAhead_meets :
    Bound scrubPaidAhead ∧ (scrubPaidAhead.powered && (0 : Nat) < 4 && scrubPaidAhead.chLive 0 && !scrubPaidAhead.flag DMC_CH_STAT_SREF 0) = true ∧
      scrubPaidAhead.dchan 0 = { DChan.fresh with scrubUntil := 10 } := by decide +kernel

/-- The read stays unadmitted until its share is due. -/
theorem scrubPaidAhead_waits :
    ((((scrubPaidAhead.queueDram 0 scrubRead none).dramService 0).takeAnswered 0).dchan 0).issued = [] := by decide +kernel

/-- Refutes O28: its clause on DRAM_REQUEST puts every read on the bus at once where the queues are empty, but a read of the scrub class waits
until the scrubs' share of the data rate allows it (R332). -/
theorem not_dramRequestsRefreshAndReplay : ¬ Obligations.DramRequestsRefreshAndReplay := by
  rintro ⟨request, -⟩
  obtain ⟨bound, goes, queues⟩ := scrubPaidAhead_meets
  obtain ⟨-, issued, -⟩ := (request 0 scrubRead scrubPaidAhead (by rw [queues]; exact ⟨rfl, rfl, rfl, rfl, rfl, rfl, rfl, rfl, rfl⟩)).of_exec bound
    (exec_dramRequest bound 0 scrubRead goes) (by simpa [and_assoc] using goes)
  rw [after_dchan, scrubPaidAhead_waits] at issued
  exact absurd issued (by simp)

-- host DMA in its safe state

/-- `sidebandRun` with host DMA in its safe state, in which a fatal error in RETURN leaves it until OFF (R385, R386). -/
def dmaSafe : State := { sidebandRun with fc := { sidebandRun.fc with fatal := true, anyFatal := true, safe := (false, true, false) } }

/-- The request that has sent the read in context 0, pooled, to node 6. -/
def remoteReadOfOne : Remote :=
  { for_ := .pooled 0, dst := 6, type := 0x10, entry := readOfOne.e, data := [], attempts := 1, since := 0 }

/-- In that state, with port 0 of the fabric UP and that request sent under tag 1. -/
def pooledReadInSafeState : State :=
  { dmaSafe with ctxs := [readOfOne], nextCtx := 1, fb := { FabricState.reset with reqs := [(1, remoteReadOfOne)] } }.set CWP_PSTAT_STATE cwUp 0

/-- Its data. -/
def rdataOfOne : Frame :=
  { type := 0x31, flags := 3, dst := pooledReadInSafeState.nodeId, src := 6, hops := 3, vc := 2, tag := 1, seq := 0, offset := 0, domain := 0,
    payload := [], trailerOk := true }

/-- Accepted read data of a pooled read goes to host memory. -/
theorem exec_rdataReceived {s u : State} {p id : Nat} {f : Frame} {r : Remote} {x : Ctx} (bound : Bound s)
    (arrives : (decide (p < 4) && s.portsRun && f.type == 0x31) = true) (taken : s.acceptLocal p f = (true, u)) (hr : u.fb.reqs.look f.tag = some r)
    (pooled : r.for_ = .pooled id) (hx : u.ctx id = some x) :
    exec (.rdataReceived p f) s = .next (s.after s.now
      (u.put (.hostData x.port x.e.cid (x.e.dw10 + x.e.dw11 * 2 ^ 32 + f.offset / 4096) (unle f.payload) (u.tag x.port x.pasid)))) := by
  show execRdataReceived p f s = _
  unfold execRdataReceived
  rw [actWhen_true bound arrives]
  obtain ⟨for_⟩ := r
  obtain rfl : for_ = .pooled id := pooled
  simp only [taken, hr, hx]

/-- No TLP is put out in the safe state of host DMA. -/
theorem State.put_of_safe {s : State} {o : Out} (h : s.fc.safe.2.1 = true) (tlp : o.isTlp = true) : s.put o = s := by
  simp [State.put, h, tlp]

theorem pooledReadInSafeState_meets :
    Bound pooledReadInSafeState ∧ (decide (0 < 4) && pooledReadInSafeState.portsRun && rdataOfOne.type == 0x31) = true
      ∧ Accepts 0 rdataOfOne pooledReadInSafeState ∧ pooledReadInSafeState.ctx 0 = some readOfOne := by decide +kernel

/-- The state in which that frame has been accepted. -/
def rdataAccepted : State := (pooledReadInSafeState.acceptLocal 0 rdataOfOne).2

theorem rdataAccepted_meets :
    pooledReadInSafeState.acceptLocal 0 rdataOfOne = (true, rdataAccepted) ∧ rdataAccepted.fb.reqs.look 1 = some remoteReadOfOne
      ∧ rdataAccepted.ctx 0 = some readOfOne ∧ rdataAccepted.fc.safe.2.1 = true ∧ rdataAccepted.out.all (fun o => !o.isTlp) = true := by
  refine ⟨Prod.ext ?_ rfl, ?_⟩ <;> decide +kernel

/-- Refutes O31: its clause on RDATA_RECEIVED has the data put out to the host in every state, but while the safe state of host DMA is forced no
TLP is issued (R385). -/
theorem not_fabricFramesAndRemoteRequests : ¬ Obligations.FabricFramesAndRemoteRequests := by
  rintro ⟨-, -, -, -, -, -, -, -, -, -, -, -, -, -, -, -, -, -, -, -, -, -, -, rdata, -⟩
  obtain ⟨bound, arrives, accepts, ctx⟩ := pooledReadInSafeState_meets
  obtain ⟨taken, req, ctx', safe, quiet⟩ := rdataAccepted_meets
  obtain ⟨out, -⟩ := (rdata 0 rdataOfOne remoteReadOfOne 0 readOfOne pooledReadInSafeState ⟨accepts, rfl, rfl, ctx⟩).of_exec bound
    (exec_rdataReceived bound arrives taken req rfl ctx') (by simpa [and_assoc] using arrives)
  rw [State.after_out, State.put_of_safe safe rfl] at out
  exact absurd (List.all_eq_true.1 quiet _ (List.mem_of_head? out)) (by simp [Out.isTlp])

-- an event's interrupt in that state

theorem exec_eventDispatch {s : State} (bound : Bound s) (h : s.coreOn = true) : exec .eventDispatch s = .next (s.after s.now s.dispatch) :=
  show execEventDispatch s = _ from actWhen_true bound h fun s => s.dispatch

/-- Source 0, raised and not yet pending. -/
def freshRaise : EvReq := { src := 0, fresh := true, param := 0 }

/-- `dmaSafe` with vector 0 of port 0 enabled and open, and source 0, routed to an interrupt, waiting. -/
def raisedInSafeState : State :=
  ({ dmaSafe with port0 := { Port.reset 0 false with cfg := { (Port.reset 0 false).cfg with msixEnable := true, msixFMask := false }, msixOpen := [0] },
                  ev := { dmaSafe.ev with todo := [freshRaise] } }.set EVR_HOST_EN 0 0).set EVR_IRQ_EN 1 0 |>.set EVR_CTRL_IRQ 1

theorem raisedInSafeState_meets :
    Bound raisedInSafeState ∧ raisedInSafeState.coreOn = true ∧ leastBy (·.src) raisedInSafeState.ev.todo = some freshRaise
      ∧ bit (raisedInSafeState.get EVR_HOST_EN 0) 0 = false ∧ bit (raisedInSafeState.get EVR_IRQ_EN 0) 0 = true
      ∧ raisedInSafeState.flag EVR_CTRL_IRQ = true ∧ raisedInSafeState.privPort = 0 := by
  decide +kernel

/-- No MSI-X message is put out. -/
theorem raisedInSafeState_puts_nothing : raisedInSafeState.dispatch.out = [] := by decide +kernel

/-- Refutes O32: its clause on the interrupt of a raised source has the message put out in every state, but while the safe state of host DMA is
forced no TLP is issued (R385). -/
theorem not_faultsAndEvents : ¬ Obligations.FaultsAndEvents := by
  rintro ⟨-, -, -, -, -, -, -, -, -, -, -, -, -, interrupt, -⟩
  obtain ⟨bound, on, least, host, irq, enabled, priv⟩ := raisedInSafeState_meets
  have port : raisedInSafeState.port raisedInSafeState.privPort = raisedInSafeState.port0 := by rw [priv]; rfl
  obtain ⟨sent, -⟩ := (interrupt freshRaise raisedInSafeState ⟨least, rfl, host, irq, enabled, by rw [port]; rfl⟩).of_exec bound
    (exec_eventDispatch bound on) on
  have out := sent (by rw [port]; rfl) (by rw [port]; exact List.mem_singleton.2 rfl)
  rw [State.after_out, raisedInSafeState_puts_nothing] at out
  exact absurd out (by simp)

-- readings below what a 16-bit field holds

/-- What HOUSEKEEPING_ROUND makes of the state when the round is due. -/
def State.takeRound (s : State) (r : Round) : State := State.houseRound { s with th := { s.th with roundAt := s.now } } r

theorem exec_housekeepingRound {s : State} (bound : Bound s) (r : Round) (h : (s.coreOn && decide (s.th.roundAt + 10000000 ≤ s.now)) = true) :
    exec (.housekeepingRound r) s = .next (s.after s.now (s.takeRound r)) :=
  show execHousekeepingRound r s = _ from actWhen_true bound h fun s => s.takeRound r

/-- Readings far below what the 16 bits of SENSE_READING hold in two's complement. -/
def beyondField : Round := { die := List.replicate 12 (-60000), ext := [], railMv := [], powerMw := 0 }

/-- In HOLD, a round being due. -/
def roundDueInHold : State := { sidebandRun with md := { ModeState.reset with mode := .hold }, now := 10000000 }

theorem roundDueInHold_meets :
    Bound roundDueInHold ∧ (roundDueInHold.coreOn && decide (roundDueInHold.th.roundAt + 10000000 ≤ roundDueInHold.now)) = true
      ∧ roundDueInHold.flag THM_STATUS_WR_FORBID = false := by
  decide +kernel

/-- The field shows those readings as more than 125 °C, for which HOLD is left (R408). -/
theorem roundDueInHold_goes_off : (roundDueInHold.takeRound beyondField).md.mode = .off := by decide +kernel

/-- Refutes O33: its clause on HOUSEKEEPING_ROUND bounds the readings from above alone and keeps the mode, but JMAX is what its 16-bit field shows
(R403), and a reading below what the field holds shows as one at which thermal shutdown is declared (R408). -/
theorem not_milestoneMemoryAndHousekeeping : ¬ Obligations.MilestoneMemoryAndHousekeeping := by
  rintro ⟨-, -, -, -, -, -, -, -, -, -, -, -, -, -, -, -, -, round, -⟩
  obtain ⟨bound, due, allowed⟩ := roundDueInHold_meets
  obtain ⟨-, -, -, -, mode, -⟩ := (round beyondField roundDueInHold ⟨rfl, rfl, rfl, allowed, by decide, by decide⟩).of_exec bound
    (exec_housekeepingRound bound beyondField due) (by simpa using due)
  rw [State.after_md] at mode
  exact absurd (roundDueInHold_goes_off.symm.trans mode) (by decide)

end Sys2Proof.Machine
end

section
/-!
SUPPORT. The prefetch buffer of the firmware store drops a line it has been asked for (R412), and a management packet brought by a command whose
partner has failed (R377).
-/

namespace Sys2Proof.Machine

set_option Elab.async false

-- the prefetch buffer

theorem exec_firmwareStoreRead {s : State} (bound : Bound s) (line bits : Nat) (core branch : Option Nat)
    (h : (s.coreOn && decide (line < 2 ^ 19) && (core.all fun k => decide (k ≤ 17)) && branch.all fun a => a / 256 == line) = true) :
    exec (.firmwareStoreRead line bits core branch) s = .next (s.after s.now (s.lineRead line bits core branch)) :=
  show execFirmwareStoreRead line bits core branch s = _ from actWhen_true bound h fun s => s.lineRead line bits core branch

/-- The prefetch buffer is on and full, with line 6 the oldest it holds. -/
def prefetchFull : State := { sidebandRun with fw := { sidebandRun.fw with prefetch := [20, 21, 22, 6] } }.set FWS_CFG_PF_EN 1

theorem prefetchFull_meets :
    Bound prefetchFull ∧ prefetchFull.coreOn = true ∧ prefetchFull.flag FWS_CFG_PF_EN = true ∧ 0 < prefetchFull.cbitTh := by decide +kernel

/-- A fetch of line 5 has line 7 held in the place of line 6. -/
theorem prefetchFull_drops : (prefetchFull.lineRead 5 0 none none).fw.prefetch = [7, 20, 21, 22] := by decide +kernel

/-- Refutes O34: its clause on a line read from the array has both next lines held after it, but where the first of them is the oldest line of a
full prefetch buffer, the second takes its place (R412). -/
theorem not_firmwareStoreAndActivation : ¬ Obligations.FirmwareStoreAndActivation := by
  rintro ⟨read, -⟩
  obtain ⟨bound, on, enabled, th⟩ := prefetchFull_meets
  obtain ⟨-, -, -, held, -⟩ := (read 5 0 none none prefetchFull ⟨.inr (by decide), .inr (by simp), th⟩).of_exec bound
    (exec_firmwareStoreRead bound 5 0 none none (by simp [on])) ⟨on, by decide, by simp, by simp⟩
  have next := (held enabled).1
  rw [State.after_fw, prefetchFull_drops] at next
  exact absurd next (by decide)

-- a carrier command whose partner has failed

/-- GET_IDENTITY, tag 1. -/
def identityBytes : List Nat := packetOf 0x0100 1 []

/-- The admin command 0xC1 of port 0 that brings that packet, in a context marked as one whose partner's response has failed. -/
def carrierOfIdentity : Ctx :=
  { Ctx.base with e := { opc := 0xC1, cid := 7, nsid := 0, dw10 := 20, dw11 := 52, dw12 := 0, dw13 := 0, dw14 := 0, dw15 := 0 }, replFailed := true }

def carrierWaits : State := { sidebandRun with ctxs := [carrierOfIdentity], nextCtx := 1 }

def packetOfCarrier : Packet := { carrier := 0, origin := 0, bytes := padTo identityBytes 20, replyMax := 52 }

theorem carrierWaits_meets : Bound carrierWaits ∧ carrierWaits.adminCtx 0 0xC1 (fun c => c.port == carrierWaits.privPort) = some carrierOfIdentity := by
  decide +kernel

theorem carrierWaits_runs : PacketRuns packetOfCarrier 0x0100 carrierWaits := by decide +kernel

theorem exec_mgmtPacketCarrier {s : State} (bound : Bound s) {ctx : Nat} {x : Ctx} (hx : s.adminCtx ctx 0xC1 (fun c => c.port == s.privPort) = some x)
    (fetched : Option (List Nat)) (replyOk : Bool) :
    exec (.mgmtPacketCarrier ctx fetched replyOk) s = .next (s.after s.now (s.carrierCommand x fetched replyOk)) := by
  show execMgmtPacketCarrier ctx fetched replyOk s = _
  unfold execMgmtPacketCarrier
  rw [actRemoving_bound bound]
  simp only [hx]

/-- The command ends with Internal Path Error. -/
theorem carrierWaits_ends :
    ((carrierWaits.carrierCommand carrierOfIdentity (some identityBytes) true).ctx 0).map (·.status) = some .internalPathError := by decide +kernel

/-- Refutes O39: its clause on the admin command 0xC1 has it end with Success whenever the reply goes out, and does not ask that the context be
free of a failed replica, with which every command ends with Internal Path Error (R377). -/
theorem not_carriersNvmeMiAndTestPort : ¬ Obligations.CarriersNvmeMiAndTestPort := by
  rintro ⟨carrier, -⟩
  obtain ⟨bound, waits⟩ := carrierWaits_meets
  obtain ⟨replied, -⟩ := (carrier 0 identityBytes true carrierOfIdentity carrierWaits bound
      ⟨waits, by decide, by decide, by decide, by decide, by decide, carrierWaits_runs⟩).of_exec
    (exec_mgmtPacketCarrier bound waits (some identityBytes) true)
  obtain ⟨-, ⟨ended, -⟩, -⟩ := replied rfl
  unfold State.ctx at ended
  rw [State.after_ctxs] at ended
  have status := congrArg (Option.map fun e : Stage × NvmeStatus × Nat => e.2.1) ended
  rw [Option.map_map] at status
  exact absurd (carrierWaits_ends.symm.trans status) (by decide)

end Sys2Proof.Machine
end

section
/-!
SUPPORT. What a management packet may read does not depend on the contexts, of which the Admin carrier marks one (R436).
-/

namespace Sys2Proof.Machine

variable (s : State) (c : List Ctx)

/-- The state with other contexts. -/
def State.withCtxs (s : State) (c : List Ctx) : State := { s with ctxs := c }

theorem State.takeMembers_withCtxs (act : List Member) (l : List Nat) (s : State) :
    State.takeMembers act l (s.withCtxs c) = ((State.takeMembers act l s).1, (State.takeMembers act l s).2.withCtxs c) := by
  induction l generalizing s with
  | nil => rfl
  | cons ch t ih =>
    have die : (s.withCtxs c).memberDie ch act = s.memberDie ch act := rfl
    simp only [State.takeMembers, die]
    cases s.memberDie ch act with
    | none => rfl
    | some d =>
      have block : (s.withCtxs c).freeBlock ch d = s.freeBlock ch d := rfl
      simp only [block]
      cases s.freeBlock ch d with
      | none => rfl
      | some b =>
        have owned (f : Block → Block) : (s.withCtxs c).modBlock ch d b f = (s.modBlock ch d b f).withCtxs c := rfl
        simp only [owned, ih]

theorem State.formable_withCtxs (r n : Nat) (s : State) : State.formable r n (s.withCtxs c) = State.formable r n s := by
  induction n generalizing s with
  | zero => rfl
  | succ n ih =>
    have act : (s.withCtxs c).activeMembers = s.activeMembers := rfl
    have chans : (s.withCtxs c).stripeChannels r s.activeMembers = s.stripeChannels r s.activeMembers := rfl
    simp only [State.formable, act, chans]
    cases s.stripeChannels r s.activeMembers with
    | none => rfl
    | some l => simp only [takeMembers_withCtxs, ih]

theorem State.liveWords_withCtxs : (s.withCtxs c).liveWords = s.liveWords := by
  simp only [State.liveWords, formable_withCtxs]
  rfl

theorem State.viewWord_withCtxs (a : Nat) : (s.withCtxs c).viewWord a = s.viewWord a := by
  unfold State.viewWord
  rw [liveWords_withCtxs]
  rfl

end Sys2Proof.Machine
end

section
/-!
SUPPORT. What frames of this node, link-layer frames and counters of the fabric reach: the fabric's own state, registers, the event router and what
is put out (R358 to R361, R372, R381).
-/

namespace Sys2Proof.Machine

/-- Outside the fabric, registers and the event router nothing has changed, and more may have been put out. -/
def FabricOnly (s t : State) : Prop :=
  ∃ fb regs todo fired l, t = { s with fb := fb, regs := regs, ev := { s.ev with todo := todo, fired := fired }, out := l ++ s.out }

variable {s t u : State}

theorem FabricOnly.refl (s : State) : FabricOnly s s := ⟨_, _, _, _, [], rfl⟩

theorem FabricOnly.trans (h : FabricOnly s t) (g : FabricOnly t u) : FabricOnly s u := by
  obtain ⟨_, _, _, _, l, rfl⟩ := h
  obtain ⟨_, _, _, _, m, rfl⟩ := g
  exact ⟨_, _, _, _, m ++ l, by rw [List.append_assoc]⟩

theorem FabricOnly.fabric (h : FabricOnly s t) (f : FabricState) : FabricOnly s { t with fb := f } := h.trans ⟨_, _, _, _, [], rfl⟩

theorem FabricOnly.modCw (h : FabricOnly s t) (p : Nat) (f : CwPort → CwPort) : FabricOnly s (t.modCw p f) := h.fabric _

theorem FabricOnly.set (h : FabricOnly s t) (f : Field) (v i j : Nat) : FabricOnly s (t.set f v i j) := by
  refine h.trans ?_
  unfold State.set
  split
  · exact ⟨_, _, _, _, [], rfl⟩
  · exact .refl t

theorem FabricOnly.raise (h : FabricOnly s t) (n q : Nat) : FabricOnly s (t.raise n q) :=
  (h.set EVR_PEND _ _ 0).trans ⟨_, _, _, _, [], rfl⟩

theorem FabricOnly.bump (h : FabricOnly s t) (b : CntBlock) (f : Field) (i n o si : Nat) : FabricOnly s (t.bump b f i n o si) := by
  unfold State.bump State.saturated
  simp only
  split
  · split
    · exact h.set _ _ _ _
    · refine FabricOnly.raise (FabricOnly.set ?_ _ _ _ _) _ _
      exact (h.set _ _ _ _).trans ⟨_, _, _, _, [], rfl⟩
  · exact h.set _ _ _ _

theorem FabricOnly.put (h : FabricOnly s t) (o : Out) : FabricOnly s (t.put o) := by
  refine h.trans ?_
  unfold State.put
  split
  · exact .refl t
  · exact ⟨_, _, _, _, [o], rfl⟩

theorem FabricOnly.each (h : FabricOnly s t) {α : Type} {f : α → State → State} (hf : ∀ a s, FabricOnly s (f a s)) (l : List α) :
    FabricOnly s (t.each l f) := h.trans (State.each_rel .refl .trans hf l t)

theorem FabricOnly.sendLink (h : FabricOnly s t) (p type seq : Nat) (b : List Nat) : FabricOnly s (t.sendLink p type seq b) :=
  (h.put _).bump _ _ _ _ _ _

theorem FabricOnly.freeUnits (h : FabricOnly s t) (p vc n : Nat) : FabricOnly s (t.freeUnits p vc n) := by
  unfold State.freeUnits
  simp only
  split
  · split
    · exact ((h.modCw _ _).modCw _ _).sendLink _ _ _ _
    · exact h.modCw _ _
  · exact h

theorem FabricOnly.transmit (p n : Nat) (h : FabricOnly s t) : FabricOnly s (State.transmit p n t) := by
  induction n generalizing t with
  | zero => exact h
  | succ n ih =>
    unfold State.transmit
    split
    · exact h
    · split
      · exact h
      · exact ih ((((h.modCw _ _).put _).bump _ _ _ _ _ _).freeUnits _ _ _)

theorem FabricOnly.enqueueFrame (h : FabricOnly s t) (p i : Nat) (f : Frame) : FabricOnly s (t.enqueueFrame p i f) := (h.modCw _ _).transmit _ _

theorem FabricOnly.sendFrame (h : FabricOnly s t) (f : Frame) : FabricOnly s (t.sendFrame f) := by
  unfold State.sendFrame
  split
  · split
    · exact h.enqueueFrame _ _ _
    · exact h.fabric _
  · exact h

theorem FabricOnly.sendReplyFrames (h : FabricOnly s t) (node tag : Nat) (b : List Nat) : FabricOnly s (t.sendReplyFrames node tag b) :=
  h.each (fun _ s => (FabricOnly.refl s).sendFrame _) _

theorem FabricOnly.keepAnswer (h : FabricOnly s t) (d : DupEntry) : FabricOnly s (t.keepAnswer d) := by
  unfold State.keepAnswer
  simp only
  split
  · exact ((h.fabric _).bump _ _ _ _ _ _).fabric _
  · exact h.fabric _

theorem FabricOnly.respond (h : FabricOnly s t) (node tag : Nat) (st : NvmeStatus) (dw0 dw1 cid : Nat) :
    FabricOnly s (t.respond node tag st dw0 dw1 cid) := (h.keepAnswer _).sendFrame _

end Sys2Proof.Machine
end

section
/-!
SUPPORT. The answer of a packet over each carrier (R431, R436 to R438), and what brings one reaches.
-/

namespace Sys2Proof.Machine

/-- Outside the contexts, the order in which they completed, the fabric, registers and the event router nothing has changed, and more may have
been put out. -/
def AnswerOnly (s t : State) : Prop :=
  ∃ ctxs done fb regs todo fired l,
    t = { s with ctxs := ctxs, doneQ := done, fb := fb, regs := regs, ev := { s.ev with todo := todo, fired := fired }, out := l ++ s.out }

variable {s t u : State}

theorem AnswerOnly.refl (s : State) : AnswerOnly s s := ⟨_, _, _, _, _, _, [], rfl⟩

theorem AnswerOnly.trans (h : AnswerOnly s t) (g : AnswerOnly t u) : AnswerOnly s u := by
  obtain ⟨_, _, _, _, _, _, l, rfl⟩ := h
  obtain ⟨_, _, _, _, _, _, m, rfl⟩ := g
  exact ⟨_, _, _, _, _, _, m ++ l, by rw [List.append_assoc]⟩

theorem FabricOnly.answer (h : FabricOnly s t) : AnswerOnly s t := by
  obtain ⟨_, _, _, _, _, rfl⟩ := h
  exact ⟨_, _, _, _, _, _, _, rfl⟩

theorem answerOnly_complete (s : State) (id : Nat) (st : NvmeStatus) (dw0 dw1 : Nat) : AnswerOnly s (s.complete id st dw0 dw1) := by
  have contexts (c : List Ctx) (d : List Nat) : AnswerOnly s { s with ctxs := c, doneQ := d } := ⟨_, _, _, _, _, _, [], rfl⟩
  unfold State.complete
  split
  · exact .refl s
  · split
    · exact .refl s
    · split
      · exact contexts _ _
      · simp only
        split
        · exact (contexts _ _).trans (FabricOnly.answer ((FabricOnly.refl _).respond _ _ _ _ _ _))
        · exact contexts _ _

/-- A packet's reply as it is put out, its header not having failed the HCRC (R431). -/
def replyOut (p : Packet) (st : Nat) (body : List Nat) : Out := .reply p.carrier p.origin (pkTag p.bytes) (pkOpcode p.bytes) st body

theorem State.put_reply (s : State) (p : Packet) (st : Nat) (body : List Nat) :
    s.put (replyOut p st body) = { s with out := replyOut p st body :: s.out } := by
  simp [State.put, replyOut, Out.isTlp]

/-- What an answer comes to: its reply, then what its carrier needs. -/
theorem answer_eq (s : State) (i : MgIn) {st : Nat} (body : List Nat) (hst : st ≠ 0x10)
    (ctx : i.p.carrier = 0 → (s.ctx i.p.origin).isSome = true ∧ i.replyOk = true) :
    AnswerOnly (s.put (replyOut i.p st body)) (s.answer i st body)
      ∧ (i.p.carrier = 1 → s.answer i st body = s.put (replyOut i.p st body)) := by
  unfold State.answer
  simp only [if_neg hst]
  by_cases h0 : i.p.carrier = 0
  · obtain ⟨some, ok⟩ := ctx h0
    rw [if_pos h0, if_neg (by simpa [Option.isSome_iff_ne_none] using some), ok]
    exact ⟨answerOnly_complete _ _ _ _ _, fun h1 => absurd (h0.symm.trans h1) (by decide)⟩
  · rw [if_neg h0]
    by_cases h1 : i.p.carrier = 1
    · rw [if_pos h1]
      exact ⟨.refl _, fun _ => rfl⟩
    · rw [if_neg h1]
      exact ⟨FabricOnly.answer (((FabricOnly.refl _).keepAnswer _).sendReplyFrames _ _ _), fun h => absurd h h1⟩

end Sys2Proof.Machine
end
section
/-!
SUPPORT. A packet that runs at once and whose action is complete at once (R432, R434): what is left is its reply.
-/

namespace Sys2Proof.Machine

variable {s : State} {p : Packet} {opc : Nat}

/-- The state in which a packet's action runs: on the Admin carrier the command that brings it has been passed on (R436). -/
def State.brought (s : State) (p : Packet) : State := s.withCtxs (if p.carrier = 0 then (s.issue p.origin).ctxs else s.ctxs)

/-- A packet given as a command of its own. -/
def MgIn.alone (p : Packet) (raw : Option (List Nat)) (hdr : Option ImageHeader) : MgIn := { p := p, replyOk := true, raw := raw, hdr := hdr }

theorem adminCtx_ctx {id op : Nat} {q : Ctx → Bool} {c : Ctx} (h : s.adminCtx id op q = some c) : s.ctx id = some c ∧ c.id = id := by
  have found : s.ctx id = some c := by
    unfold State.adminCtx at h
    split at h
    · exact absurd h (by simp)
    · split at h
      · exact absurd h (by simp)
      · next x hx => rw [hx]; split at h <;> simp_all
  exact ⟨found, by simpa using List.find?_some found⟩

theorem State.ctx_issue (s : State) {id : Nat} {c : Ctx} (h : s.ctx id = some c) : ((s.issue id).ctx id).isSome = true := by
  have ids : ((fun c : Ctx => c.id == id) ∘ fun c : Ctx => if c.id = id then (if c.stage = .fetched then { c with stage := .issued } else c) else c)
      = fun c => c.id == id := by
    funext c
    dsimp only [Function.comp]
    split <;> [split; skip] <;> rfl
  simp only [State.ctx, State.issue, State.modCtx, List.find?_map, ids, Option.isSome_map]
  exact Option.isSome_iff_exists.2 ⟨c, h⟩

theorem packetFault_brought (o : MgOp) (ho : mgOp (pkOpcode p.bytes) = some o)
    (hok : o.ok (s.brought p) (pkParams p.bytes) = o.ok s (pkParams p.bytes)) : (s.brought p).packetFault p = s.packetFault p := by
  have op : (s.brought p).opFault o p = s.opFault o p := by
    unfold State.opFault
    simp only [hok]
    rfl
  unfold State.packetFault
  simp only [ho, op]
  rfl

/-- A packet that passes its checks is admitted by the mode. -/
theorem admits_of_packetFault {o : MgOp} (ho : mgOp (pkOpcode p.bytes) = some o) (h : s.packetFault p = none) :
    s.admits p.carrier o.code = .yes := by
  unfold State.packetFault at h
  split at h
  · exact absurd h (by simp)
  · simp only [ho] at h
    unfold State.opFault at h
    simp only at h
    split at h
    · exact absurd h (by simp)
    · split at h
      · exact absurd h (by simp)
      · exact absurd h (by simp)
      · assumption

/-- A packet's command brings it, in the state `brought` names. -/
theorem packetRow_eq_arrives (runs : PacketRuns p opc s) (raw : Option (List Nat)) (hdr : Option ImageHeader) :
    s.packetRow opc p raw hdr = (s.brought p).packetArrives (.alone p raw hdr)
      ∧ (p.carrier = 0 → ((s.brought p).ctx p.origin).isSome = true) := by
  obtain ⟨carrier, hopc, -⟩ := runs
  unfold State.packetRow
  simp only [hopc, bne_self_eq_false, Bool.false_eq_true, if_false]
  rcases carrier with h | ⟨h, found⟩ | ⟨h, ports, en⟩
  · have same : s.brought p = s := by simp [State.brought, State.withCtxs, h]
    rw [same]
    simp [h, MgIn.alone]
  · obtain ⟨c, hc⟩ := Option.isSome_iff_exists.1 found
    obtain ⟨hctx, hid⟩ := adminCtx_ctx hc
    have issued : s.brought p = s.issue p.origin := by simp [State.brought, State.withCtxs, h, State.issue, State.modCtx]
    rw [issued]
    refine ⟨by simp [h, hc, hid, MgIn.alone], fun _ => s.ctx_issue hctx⟩
  · have same : s.brought p = s := by simp [State.brought, State.withCtxs, h]
    rw [same]
    simp [h, ports, en, MgIn.alone]

/-- A packet whose action is complete at once is answered when it starts, if no other runs. -/
theorem startPacket_done {i : MgIn} {o : MgOp} {u : State} {st : Nat} {body : List Nat} (ho : mgOp (pkOpcode i.p.bytes) = some o)
    (admits : s.admits i.p.carrier o.code = .yes) (commit : bit (pkFlags i.p.bytes) 1 = false)
    (run : o.run i (pkParams i.p.bytes) (pkSlice i.p.bytes) s = (.done st body, u)) (idle : u.mg.running = []) :
    s.startPacket i = ({ u with mg := { u.mg with nextRun := u.mg.nextRun + 1 } } : State).answer i st body := by
  simp [State.startPacket, ho, admits, run, State.goOnRun, State.finish, commit, idle, NMap.put, NMap.look, NMap.del]

/-- The one packet that waits starts. -/
theorem mgi_starts (i : MgIn) (running : s.mg.running = []) (waiting : s.mg.waiting = [i]) (mode : s.md.mode ≠ .rest) :
    s.mgi = ({ s with mg := { s.mg with waiting := [] } } : State).startPacket i := by
  have next : s.nextPacket = some i := by simp [State.nextPacket, running, waiting, State.mode, mode, State.changeRunning]
  simp [State.mgi, running, waiting, State.each, State.startPackets, next]

/-- A packet with no other running or waiting, whose action is complete at once, is answered at once. -/
theorem packetArrives_done {i : MgIn} {o : MgOp} {u : State} {st : Nat} {body : List Nat} (ho : mgOp (pkOpcode i.p.bytes) = some o)
    (hears : s.hears i.p.carrier = true) (passes : s.packetFault i.p = none) (running : s.mg.running = []) (waiting : s.mg.waiting = [])
    (mode : s.md.mode ≠ .rest) (entry : s.md.restStep = none) (commit : bit (pkFlags i.p.bytes) 1 = false)
    (run : o.run i (pkParams i.p.bytes) (pkSlice i.p.bytes) s = (.done st body, u)) (idle : u.mg.running = []) :
    s.packetArrives i = ({ u with mg := { u.mg with nextRun := u.mg.nextRun + 1 } } : State).answer i st body := by
  have awake (b : Nat) : s.wakeSource b = s := by
    have rest : s.restIdle = false := by simp [State.restIdle, State.mode, mode]
    simp [State.wakeSource, entry, rest]
  have queued : ({ s with mg := { s.mg with waiting := s.mg.waiting ++ [i] } } : State).mgi = s.startPacket i := by
    refine (mgi_starts (s := { s with mg := { s.mg with waiting := s.mg.waiting ++ [i] } }) i running (by simp [waiting]) mode).trans ?_
    have emptied : ({ s.mg with waiting := [] } : MgmtState) = s.mg := by rw [← waiting]
    exact congrArg (fun m => ({ s with mg := m } : State).startPacket i) emptied
  unfold State.packetArrives
  simp only [hears, awake, passes, Bool.not_true, Bool.false_eq_true, if_false, ite_self]
  rw [queued, startPacket_done ho (admits_of_packetFault ho passes) commit run idle]

/-- What a packet comes to that runs at once and whose action is complete at once. -/
theorem packetRow_done {o : MgOp} {u : State} {st : Nat} {body : List Nat} {raw : Option (List Nat)} {hdr : Option ImageHeader}
    (runs : PacketRuns p opc s) (ho : mgOp opc = some o) (hok : o.ok (s.brought p) (pkParams p.bytes) = o.ok s (pkParams p.bytes))
    (run : o.run (.alone p raw hdr) (pkParams p.bytes) (pkSlice p.bytes) (s.brought p) = (.done st body, u)) (idle : u.mg.running = []) :
    s.packetRow opc p raw hdr = ({ u with mg := { u.mg with nextRun := u.mg.nextRun + 1 } } : State).answer (.alone p raw hdr) st body := by
  rw [(packetRow_eq_arrives runs raw hdr).1]
  obtain ⟨-, hopc, hears, passes, running, waiting, mode, entry, commit⟩ := runs
  rw [← hopc] at ho
  exact packetArrives_done (i := .alone p raw hdr) ho hears ((packetFault_brought o ho hok).trans passes) running waiting mode entry commit run idle

end Sys2Proof.Machine
end
section
/-!
SUPPORT. Packets that read (Table 16.4): the reply carries what the state shows, and nothing else of the device changes.
-/

namespace Sys2Proof.Machine

variable {s t u v w : State} {p : Packet} {opc st : Nat} {body : List Nat} {raw : Option (List Nat)} {hdr : Option ImageHeader}

theorem AnswerOnly.media (h : AnswerOnly s t) : KeepsMedia s t := by
  obtain ⟨_, _, _, _, _, _, _, rfl⟩ := h
  exact ⟨rfl, rfl, rfl, rfl, rfl, rfl, rfl, rfl⟩

theorem AnswerOnly.power (h : AnswerOnly s t) : KeepsPower s t := by
  obtain ⟨_, _, _, _, _, _, _, rfl⟩ := h
  exact ⟨rfl, rfl, rfl⟩

theorem AnswerOnly.units (h : AnswerOnly s t) : t.mm = s.mm ∧ t.mg = s.mg ∧ t.fw = s.fw ∧ t.tp = s.tp := by
  obtain ⟨_, _, _, _, _, _, _, rfl⟩ := h
  exact ⟨rfl, rfl, rfl, rfl⟩

theorem AnswerOnly.out (h : AnswerOnly s t) : ∃ l, t.out = l ++ s.out := by
  obtain ⟨_, _, _, _, _, _, l, rfl⟩ := h
  exact ⟨l, rfl⟩

/-- A reply put out after what the packet itself put out, with what its carrier needs after it. -/
theorem replied_of_answer {i : MgIn} (hp : i.p = p) (opcode : pkOpcode p.bytes = opc) {m : List Out} (out : v.out = m ++ s.out)
    (h : AnswerOnly (v.put (replyOut i.p st body)) w) (n : Nat) : Replied p opc st body s (s.after n w) := by
  obtain ⟨l, hl⟩ := h.out
  refine ⟨l, m, ?_⟩
  rw [State.after_out, hl, State.put_reply, out, hp]
  simp [replyOut, opcode]

/-- The answer of a packet that runs at once: its reply, and what that reaches. -/
theorem answered (runs : PacketRuns p opc s) (hst : st ≠ 0x10) (raw : Option (List Nat)) (hdr : Option ImageHeader) (body : List Nat)
    {m : List Out} (out : v.out = m ++ s.out) (ctxs : v.ctxs = (s.brought p).ctxs) :
    Replied p opc st body s (s.after s.now (v.answer (.alone p raw hdr) st body))
      ∧ AnswerOnly (v.put (replyOut p st body)) (v.answer (.alone p raw hdr) st body)
      ∧ (p.carrier = 1 → v.answer (.alone p raw hdr) st body = v.put (replyOut p st body)) := by
  have ctx (h : p.carrier = 0) : (v.ctx p.origin).isSome = true := by
    unfold State.ctx
    rw [ctxs]
    exact (packetRow_eq_arrives runs raw hdr).2 h
  obtain ⟨only, sideband⟩ := answer_eq v (.alone p raw hdr) body hst fun h => ⟨ctx h, rfl⟩
  exact ⟨replied_of_answer rfl runs.2.1 out only _, only, sideband⟩

theorem brought_sideband (h : p.carrier = 1) : s.brought p = s := by simp [State.brought, State.withCtxs, h]

/-- A packet that has taken free values at most is answered, and leaves all else as it was (R434). -/
theorem answered_calm (runs : PacketRuns p opc s) (hst : st ≠ 0x10) (raw : Option (List Nat)) (hdr : Option ImageHeader) (body : List Nat) (n k : Nat) :
    let v : State := { s.brought p with freeCtr := n, mg := { s.mg with nextRun := k } }
    Replied p opc st body s (s.after s.now (v.answer (.alone p raw hdr) st body))
      ∧ PacketCalm [] p s (s.after s.now (v.answer (.alone p raw hdr) st body)) := by
  intro v
  obtain ⟨replied, only, sideband⟩ := answered (v := v) runs hst raw hdr body (m := []) rfl rfl
  rw [State.put_reply] at only sideband
  refine ⟨replied, KeepsMedia.after only.media _ _, KeepsPower.after only.power _ _, ?_, ?_, ?_, fun h => ?_⟩
  · exact (State.after_mm _ _ _).trans only.units.1
  · exact (State.after_fw _ _ _).trans only.units.2.2.1
  · exact (State.after_tp _ _ _).trans only.units.2.2.2
  · rw [sideband h]
    have same : v = { s with freeCtr := n, mg := { s.mg with nextRun := k } } := by rw [← brought_sideband (s := s) h]; rfl
    rw [same]
    exact ⟨OnlyRegs.after fun _ _ _ => rfl, KeepsHost.after ⟨rfl, rfl, rfl, rfl, rfl, rfl, rfl, rfl, rfl, rfl, rfl⟩ _ _,
      KeepsFaults.after ⟨rfl, rfl, rfl, rfl⟩ _ _, by simp, by simp⟩

/-- A packet whose action only reads, but for free values it may take. -/
theorem completes_read {c : Instr} {o : MgOp} (he : exec c s = .next (s.after s.now (s.packetRow opc p raw hdr))) (runs : PacketRuns p opc s)
    (ho : mgOp opc = some o) (hok : o.ok (s.brought p) (pkParams p.bytes) = o.ok s (pkParams p.bytes)) (n : Nat) (hst : st ≠ 0x10)
    (run : o.run (.alone p raw hdr) (pkParams p.bytes) (pkSlice p.bytes) (s.brought p) = (.done st body, { s.brought p with freeCtr := n })) :
    Completes c s fun t => Replied p opc st body s t ∧ PacketCalm [] p s t := by
  obtain ⟨-, -, -, -, running, -⟩ := id runs
  refine completes_of_next (he.trans ?_) (answered_calm runs hst raw hdr body n (s.mg.nextRun + 1))
  rw [packetRow_done runs ho hok run running]
  rfl

/-- An opcode that only reads, with no parameters. -/
theorem completes_readOp {c : Instr} {fab : Bool} {k : Nat} {f : State → List Nat}
    (he : exec c s = .next (s.after s.now (s.packetRow opc p raw hdr))) (runs : PacketRuns p opc s) (ho : mgOp opc = some (readOp opc fab k f))
    (blind : f (s.brought p) = body) : Completes c s fun t => Replied p opc 0 body s t ∧ PacketCalm [] p s t :=
  completes_read he runs ho rfl (s.brought p).freeCtr (by decide) (by simp [readOp, blind])

end Sys2Proof.Machine
end
section
/-!
SUPPORT. The clauses on packets that read (R434, R439 to R445, Table 16.4).
-/

namespace Sys2Proof.Machine

variable {s : State} {p : Packet}

theorem State.viewWord_brought (s : State) (p : Packet) (a : Nat) : (s.brought p).viewWord a = s.viewWord a := State.viewWord_withCtxs s _ a

theorem State.words_brought (s : State) (p : Packet) (l : List Nat) : (s.brought p).words l = s.words l := by
  simp only [State.words, State.viewWord_brought]

theorem getIdentity_reads : Rows.getIdentity p s := fun bound runs =>
  completes_readOp (show execGetIdentity p s = _ from actRemoving_bound bound fun s => s.packetRow 0x0100 p none none) runs rfl
    (by unfold State.identityBody; rw [State.viewWord_brought]; rfl)

theorem getConfigurationReport_reads : Rows.getConfigurationReport p s := fun bound runs =>
  completes_readOp (show execGetConfigurationReport p s = _ from actRemoving_bound bound fun s => s.packetRow 0x0101 p none none) runs rfl
    (by unfold State.configReport; simp only [State.viewWord_brought]; rfl)

theorem getRecordStatus_reads (c : CfgCopy) : Rows.getRecordStatus p c s := fun bound ⟨runs, used⟩ =>
  completes_readOp (show execGetRecordStatus p s = _ from actRemoving_bound bound fun s => s.packetRow 0x0201 p none none) runs rfl
    (by have same : (s.brought p).cfgInUse = some c := used; simp only [same, State.viewWord_brought]; rfl)

theorem getRecordStatus_none_reads : Rows.getRecordStatus_none p s := fun bound ⟨runs, used⟩ =>
  completes_readOp (show execGetRecordStatus p s = _ from actRemoving_bound bound fun s => s.packetRow 0x0201 p none none) runs rfl
    (by have same : (s.brought p).cfgInUse = none := used; simp only [same, State.viewWord_brought]; rfl)

theorem getPackStatus_reads : Rows.getPackStatus p s := fun bound runs =>
  completes_readOp (show execGetPackStatus p s = _ from actRemoving_bound bound fun s => s.packetRow 0x0500 p none none) runs rfl
    (State.words_brought s p _)

theorem getFabricStatus_reads : Rows.getFabricStatus p s := fun bound runs =>
  completes_readOp (show execGetFabricStatus p s = _ from actRemoving_bound bound fun s => s.packetRow 0x0805 p none none) runs rfl
    ((State.words_brought s p _).trans (by simp [State.words, Reg.one, Function.comp_def]))

theorem getSlotInfo_reads : Rows.getSlotInfo p s := fun bound runs =>
  completes_readOp (show execGetSlotInfo p s = _ from actRemoving_bound bound fun s => s.packetRow 0x0902 p none none) runs rfl
    (by rw [State.words_brought]; rfl)

theorem getThermalAndPower_reads : Rows.getThermalAndPower p s := fun bound runs =>
  completes_readOp (show execGetThermalAndPower p s = _ from actRemoving_bound bound fun s => s.packetRow 0x0A03 p none none) runs rfl
    (State.words_brought s p _)

theorem getSliceStatus_reads : Rows.getSliceStatus p s := fun bound runs =>
  completes_read (show execGetSliceStatus p s = _ from actRemoving_bound bound fun s => s.packetRow 0x0305 p none none) runs
    (o := opGetSliceStatus) rfl rfl _ (by decide) (by rw [opGetSliceStatus]; simp only [State.words_brought]; rfl)

theorem readLog_reads : Rows.readLog p s := fun bound runs =>
  completes_read (show execReadLog p s = _ from actRemoving_bound bound fun s => s.packetRow 0x0700 p none none) runs
    (o := opReadLog) rfl rfl _ (by decide) (by rw [opReadLog]; simp only [State.words_brought]; rfl)

theorem readDirtyEpochReport_reads : Rows.readDirtyEpochReport p s := fun bound runs =>
  completes_read (show execReadDirtyEpochReport p s = _ from actRemoving_bound bound fun s => s.packetRow 0x0703 p none none) runs
    (o := opReadDirtyEpochReport) rfl rfl _ (by decide) rfl

theorem readLateFaultRecords_reads : Rows.readLateFaultRecords p s := fun bound runs =>
  completes_read (show execReadLateFaultRecords p s = _ from actRemoving_bound bound fun s => s.packetRow 0x0705 p none none) runs
    (o := opReadLateFaultRecords) rfl rfl _ (by decide) rfl

theorem rawRead_reads (data : List Nat) : Rows.rawRead p data s := fun bound runs =>
  completes_read (show execRawRead p data s = _ from actRemoving_bound bound fun s => s.packetRow 0x0F00 p (some data) none) runs
    (o := opRawRead) rfl rfl _ (by decide) rfl

end Sys2Proof.Machine
end
section
/-!
SUPPORT. Identify data, registers, tickets and the event queue, read by a packet: what the read reaches (R390, R392, R399, R445).
-/

namespace Sys2Proof.Machine

variable {s : State} {p : Packet}

-- Identify data

/-- What a read answers does not depend on the contexts, and it takes free values at most. -/
def OpenRead {α : Type} (f : State → α × State) : Prop :=
  ∀ (s : State) (c : List Ctx), f (s.withCtxs c) = ((f s).1, { s.withCtxs c with freeCtr := (f s).2.freeCtr })

theorem openRead_pure {α : Type} (x : α) : OpenRead fun s => (x, s) := fun _ _ => rfl

theorem openRead_openPage (n : Nat) (parts : List (Nat × List Nat)) : OpenRead fun s => s.openPage n parts := fun _ _ => rfl

theorem openRead_page {α : Type} (g : List Nat → α) (n : Nat) (parts : List (Nat × List Nat)) :
    OpenRead fun s => (g (s.openPage n parts).1, (s.openPage n parts).2) := fun _ _ => rfl

theorem OpenRead.ite {α : Type} {b : Prop} [Decidable b] {f g : State → α × State} (hf : OpenRead f) (hg : OpenRead g) :
    OpenRead fun s => if b then f s else g s := by
  by_cases h : b
  · simpa only [h, if_true] using hf
  · simpa only [h, if_false] using hg

theorem openRead_identOf (port nsid : Nat) (all : Bool) {f : State → Namespace → List Nat × State} (hf : ∀ n, OpenRead fun s => f s n) :
    OpenRead fun s => s.identOf port nsid all f := by
  intro s c
  have remote : (s.withCtxs c).remoteIdent nsid = s.remoteIdent nsid := rfl
  have space : (s.withCtxs c).nspace nsid = s.nspace nsid := rfl
  simp only [State.identOf, remote, space]
  split
  · rfl
  · cases s.remoteIdent nsid with
    | some b => rfl
    | none =>
      cases s.nspace nsid with
      | none => rfl
      | some n =>
        simp only [hf n s c]
        split <;> rfl

theorem openRead_identify (port cns csi nsid : Nat) : OpenRead fun s => s.identify port cns csi nsid := by
  unfold State.identify
  dsimp only
  have listed : OpenRead fun s => match s.nspace nsid with
      | some n => (Ident.page (ctrlList (s.portList.filter n.attached)), s)
      | none => (.error .invalidNamespaceOrFormat, s) := by
    intro s c
    have space : (s.withCtxs c).nspace nsid = s.nspace nsid := rfl
    simp only [space]
    cases s.nspace nsid <;> rfl
  have ids (all : Bool) : OpenRead fun s => (Ident.page (idList ((s.nsList port all).filter fun n => decide (nsid < n))), s) := by
    intro s c
    have list : (s.withCtxs c).nsList port all = s.nsList port all := rfl
    simp only [list]
    rfl
  have zoned (n : Namespace) : OpenRead fun s => if n.zoned then s.identZns else (zeros 4096, s) :=
    .ite (openRead_openPage _ _) (openRead_pure _)
  have ports : OpenRead fun s => (Ident.page (ctrlList s.portList), s) := by
    intro s c
    have list : (s.withCtxs c).portList = s.portList := rfl
    simp only [list]
    rfl
  have err (st : NvmeStatus) : OpenRead fun s => (Ident.error st, s) := openRead_pure _
  have space (n : Namespace) : OpenRead fun s => s.identNs nsid n := by
    intro s c
    exact openRead_openPage _ _ s c
  refine .ite (.ite (openRead_page Ident.page _ _) (openRead_identOf _ _ _ space)) (.ite (openRead_page Ident.page _ _) (.ite (ids false) (.ite (ids true)
    (.ite (openRead_identOf _ _ _ fun n =>
      openRead_page (fun b => padTo (b ++ [4, 1, 0, 0, if n.zoned then 2 else 0]) 4096) _ _) (.ite (.ite (openRead_identOf _ _ _ zoned) (.ite (openRead_identOf _ _ _ fun _ => openRead_openPage _ _)
      (err _))) (.ite (.ite (openRead_page Ident.page _ _) (.ite (openRead_page Ident.page _ _) (err _))) (.ite (openRead_identOf _ _ _ fun _ => openRead_openPage _ _)
        (.ite listed (.ite ports (.ite (openRead_pure _) (err _)))))))))))

end Sys2Proof.Machine
end
section
/-!
SUPPORT. The clauses on Identify data, registers, tickets and the event queue.
-/

namespace Sys2Proof.Machine

variable {s t u : State} {p : Packet}

/-- A packet that passes its checks has parameters of its opcode. -/
theorem ok_of_packetFault {o : MgOp} (ho : mgOp (pkOpcode p.bytes) = some o) (h : s.packetFault p = none) : o.ok s (pkParams p.bytes) = true := by
  unfold State.packetFault at h
  split at h
  · exact absurd h (by simp)
  · simp only [ho] at h
    by_contra bad
    have bad : (!o.ok s (pkParams p.bytes)) = true := by simpa using bad
    unfold State.opFault at h
    simp only [bad, if_true] at h
    split at h
    · cases h
    · split at h
      · cases h
      · cases h
      · exact absurd h (by rw [ite_eq_iff]; simp)

theorem packetIdentify_brought (s : State) (p : Packet) :
    (s.brought p).packetIdentify (pkParams p.bytes) = ((s.packetIdentify (pkParams p.bytes)).1,
      { s.brought p with freeCtr := (s.packetIdentify (pkParams p.bytes)).2.freeCtr }) :=
  openRead_identify s.privPort _ _ _ s _

/-- An answer with data. -/
def Ident.isPage : Ident → Bool
  | .page _ => true
  | .error _ => false

theorem opGetNamespaceIdentify_ok (s : State) (l : List Nat) :
    opGetNamespaceIdentify.ok s l = (l.length == 8 && rsv l 6 2 && (s.packetIdentify l).1.isPage) := by
  unfold opGetNamespaceIdentify
  dsimp only
  generalize s.packetIdentify l = r
  obtain ⟨_ | _, _⟩ := r <;> rfl

theorem opGetNamespaceIdentify_run {i : MgIn} {l b : List Nat} {k : Nat} (h : s.packetIdentify l = (.page b, u)) :
    opGetNamespaceIdentify.run i l k s = (.done 0 b, u) := by
  unfold opGetNamespaceIdentify
  dsimp only
  rw [h]

theorem Ident.page_of_isPage {r : Ident} (h : r.isPage = true) : r = .page (identPage r) := by
  cases r with
  | page b => rfl
  | error st => exact absurd h (by simp [isPage])

theorem getNamespaceIdentify_reads : Rows.getNamespaceIdentify p s := by
  intro bound runs
  have ok := ok_of_packetFault (o := opGetNamespaceIdentify) (by rw [runs.2.1]; rfl) runs.2.2.2.1
  simp only [opGetNamespaceIdentify_ok, Bool.and_eq_true] at ok
  have seen := packetIdentify_brought s p
  rw [Ident.page_of_isPage ok.2] at seen
  refine completes_read (show execGetNamespaceIdentify p s = _ from actRemoving_bound bound fun s => s.packetRow 0x0102 p none none) runs
    (o := opGetNamespaceIdentify) rfl ?_ (s.packetIdentify (pkParams p.bytes)).2.freeCtr (by decide) (opGetNamespaceIdentify_run seen)
  rw [opGetNamespaceIdentify_ok, opGetNamespaceIdentify_ok, packetIdentify_brought]

theorem readPackHistory_reads : Rows.readPackHistory p s := by
  intro bound runs
  have he : exec (.readPackHistory p) s = .next (s.after s.now (s.packetRow 0x0501 p none none)) :=
    actRemoving_bound bound fun s => s.packetRow 0x0501 p none none
  by_cases present : s.flag HUC_STATUS_PRESENT = true
  · have same : (s.brought p).flag HUC_STATUS_PRESENT = true := present
    obtain ⟨t, e, replied, calm⟩ := completes_read (st := 0) (body := s.packPage) he runs (o := opReadPackHistory) rfl rfl _ (by decide)
      (by simp only [opReadPackHistory, same]; rfl)
    exact ⟨t, e, fun _ => replied, fun h => absurd (present.symm.trans h) (by decide), calm⟩
  · have same : (s.brought p).flag HUC_STATUS_PRESENT = false := Bool.eq_false_iff.2 present
    obtain ⟨t, e, replied, calm⟩ := completes_read (st := 0x21) (body := []) he runs (o := opReadPackHistory) rfl rfl _ (by decide)
      (by simp only [opReadPackHistory, same]; rfl)
    exact ⟨t, e, fun h => absurd h present, fun _ => replied, calm⟩

-- tickets

theorem queryTicket_reads (k : Ticket) : Rows.queryTicket p k s := by
  rintro bound ⟨runs, ticket⟩
  have he : exec (.queryTicket p) s = .next (s.after s.now (s.packetRow 0x0601 p none none)) :=
    actRemoving_bound bound fun s => s.packetRow 0x0601 p none none
  obtain ⟨-, -, -, -, running, -⟩ := id runs
  let m : MgmtState := { s.mg with tickets := if k.state ≤ 2 then s.mg.tickets else s.mg.tickets.del (field (pkParams p.bytes) 0 2) }
  have run : opQueryTicket.run (.alone p none none) (pkParams p.bytes) (pkSlice p.bytes) (s.brought p)
      = (.done (if k.state = 6 then 4 else 0) (ticketBytes (field (pkParams p.bytes) 0 2) k), { s.brought p with mg := m }) := by
    have found : (s.brought p).mg.tickets.look (field (pkParams p.bytes) 0 2) = some k := ticket
    have ended : k.over = !decide (k.state ≤ 2) := by
      by_cases h : k.state ≤ 2 <;> simp [Ticket.over, h] <;> omega
    simp only [opQueryTicket, found, ended, m]
    by_cases h : k.state ≤ 2 <;> simp only [h, decide_true, decide_false, Bool.not_true, Bool.not_false, if_true, if_false] <;> rfl
  have hst : (if k.state = 6 then 4 else 0) ≠ 0x10 := by split <;> decide
  have row := packetRow_done (o := opQueryTicket) runs rfl rfl run running
  obtain ⟨replied, only, sideband⟩ := answered (v := { s.brought p with mg := { m with nextRun := m.nextRun + 1 } }) runs hst none none
    (ticketBytes (field (pkParams p.bytes) 0 2) k) (m := []) rfl rfl
  rw [State.put_reply] at only sideband
  obtain ⟨mm, mg, fw, tp⟩ := only.units
  refine completes_of_next (he.trans (by rw [row])) ⟨replied, ?_, KeepsMedia.after only.media _ _, KeepsPower.after only.power _ _,
    (State.after_mm _ _ _).trans mm, (State.after_fw _ _ _).trans fw, (State.after_tp _ _ _).trans tp, fun h => ?_⟩
  · rw [State.after_mg]
    exact congrArg MgmtState.tickets mg
  · have same : ({ s.brought p with mg := { m with nextRun := m.nextRun + 1 } } : State) = { s with mg := { m with nextRun := m.nextRun + 1 } } := by
      rw [brought_sideband h]
    rw [sideband h, same]
    exact ⟨OnlyRegs.after fun _ _ _ => rfl, KeepsHost.after ⟨rfl, rfl, rfl, rfl, rfl, rfl, rfl, rfl, rfl, rfl, rfl⟩ _ _,
      KeepsFaults.after ⟨rfl, rfl, rfl, rfl⟩ _ _, by simp⟩

end Sys2Proof.Machine
end
section
/-!
SUPPORT. The event queue and registers read by a packet (R390, R392, R399).
-/

namespace Sys2Proof.Machine

variable {s t u : State} {p : Packet}

-- the event queue

theorem length_recBytes (r : LogRec) : (recBytes r).length = 32 := by
  simp only [recBytes, zeros, List.length_append, length_le, List.length_replicate, List.length_cons, List.length_nil]

theorem length_eventPage (s : State) : s.eventPage.length = 16 + 32 * s.ev.queue.length := by
  simp only [State.eventPage, zeros, List.length_append, length_le, List.length_replicate, List.length_cons, List.length_nil,
    List.length_flatten, List.map_map, Function.comp_def, length_recBytes, List.map_const', List.sum_replicate, smul_eq_mul]
  omega

/-- Outside the ports' reported events, the event queue and registers nothing has changed. -/
def QueueRead (s t : State) : Prop := ∃ port0 port1 ev regs, t = { s with port0 := port0, port1 := port1, ev := ev, regs := regs }

theorem QueueRead.set (h : QueueRead s t) (f : Field) (v i j : Nat) : QueueRead s (t.set f v i j) := by
  obtain ⟨_, _, _, _, rfl⟩ := h
  unfold State.set
  split
  · exact ⟨_, _, _, _, rfl⟩
  · exact ⟨_, _, _, _, rfl⟩

theorem QueueRead.events (h : QueueRead s t) (e : EventState) : QueueRead s { t with ev := e } := by
  obtain ⟨_, _, _, _, rfl⟩ := h
  exact ⟨_, _, _, _, rfl⟩

theorem queueRead_modPort (s : State) (q : Nat) (f : Port → Port) : QueueRead s (s.modPort q f) := by
  unfold State.modPort
  split
  · exact ⟨_, _, _, _, rfl⟩
  · exact ⟨_, _, _, _, rfl⟩

theorem QueueRead.takeReturned (h : QueueRead s t) (first n : Nat) : QueueRead s (t.takeReturned first n) := by
  unfold State.takeReturned State.takeEvents State.showQueueCount
  exact ((h.events _).events _).set _ _ _ _

theorem State.takeReturned_ev (s : State) (first n : Nat) :
    (s.takeReturned first n).ev.queue = s.ev.queue.take ((first + 31 - 16) / 32)
        ++ s.ev.queue.drop (max ((first + 31 - 16) / 32) (min s.ev.queue.length ((first + n - 16) / 32)))
      ∧ (s.takeReturned first n).ev.reported = false := by
  simp only [State.takeReturned, State.takeEvents, State.showQueueCount, State.set_ev]
  exact ⟨rfl, trivial⟩

/-- A read of the whole event page takes the entries it returns (R390). -/
theorem pageRead_eventPage (s : State) (q : Nat) :
    QueueRead s (s.pageRead q 0xC0 0 0 s.eventPage.length) ∧ (s.pageRead q 0xC0 0 0 s.eventPage.length).ev.queue = []
      ∧ (s.pageRead q 0xC0 0 0 s.eventPage.length).ev.reported = false := by
  let told := s.modPort q fun x => { x with aenMasked := x.aenMasked.filter (· != 7) }
  have read : s.pageRead q 0xC0 0 0 s.eventPage.length = told.takeReturned 0 s.eventPage.length := rfl
  have queue : told.ev = s.ev := by
    unfold told State.modPort
    split <;> rfl
  have all : max ((0 + 31 - 16) / 32) (min s.ev.queue.length ((0 + s.eventPage.length - 16) / 32)) = s.ev.queue.length := by
    rw [length_eventPage]
    omega
  obtain ⟨rest, reported⟩ := told.takeReturned_ev 0 s.eventPage.length
  rw [read]
  refine ⟨(queueRead_modPort s q _).takeReturned _ _, ?_, reported⟩
  rw [rest, queue, all]
  simp

theorem readEventQueue_reads : Rows.readEventQueue p s := by
  intro bound runs
  have he : exec (.readEventQueue p) s = .next (s.after s.now (s.packetRow 0x0702 p none none)) :=
    actRemoving_bound bound fun s => s.packetRow 0x0702 p none none
  obtain ⟨-, -, -, -, running, -⟩ := id runs
  by_cases retain : field (pkParams p.bytes) 0 1 = 1
  · obtain ⟨t, e, replied, calm⟩ := completes_read (st := 0) (body := s.eventPage) he runs (o := opReadEventQueue) rfl rfl _ (by decide)
      (by simp only [opReadEventQueue, retain, if_true]; rfl)
    exact ⟨t, e, replied, fun _ => calm, fun h => absurd (retain.symm.trans h) (by decide), calm.1, calm.2.1⟩
  · obtain ⟨⟨port0, port1, ev, regs, hu⟩, empty, rearmed⟩ := pageRead_eventPage (s.brought p) s.privPort
    generalize hr : (s.brought p).pageRead s.privPort 0xC0 0 0 (s.brought p).eventPage.length = u at hu empty rearmed
    have run : opReadEventQueue.run (.alone p none none) (pkParams p.bytes) (pkSlice p.bytes) (s.brought p) = (.done 0 s.eventPage, u) := by
      rw [← hr]
      simp only [opReadEventQueue, retain, if_false]
      rfl
    have row := packetRow_done (o := opReadEventQueue) runs rfl rfl run (by rw [hu]; exact running)
    obtain ⟨replied, only, sideband⟩ := answered (v := { u with mg := { u.mg with nextRun := u.mg.nextRun + 1 } }) runs (st := 0) (by decide) none none
      s.eventPage (m := []) (by rw [hu]; rfl) (by rw [hu])
    rw [State.put_reply] at only sideband
    refine completes_of_next (he.trans (by rw [row])) ⟨replied, fun h => absurd h retain, fun _ h => ?_, KeepsMedia.after ?_ _ _, KeepsPower.after ?_ _ _⟩
    · rw [State.after_ev, sideband h]
      exact ⟨empty, rearmed⟩
    · subst hu
      exact only.media
    · subst hu
      exact only.power

end Sys2Proof.Machine
end
section
/-!
SUPPORT. Registers read by a packet, one after another, with the side effects of each read (R8, R392, R399, R434).
-/

namespace Sys2Proof.Machine

variable {s t u : State} {p : Packet}

/-- Outside registers, the read positions of milestone memory, values the flash manual leaves open and the counter of free values nothing has changed. -/
def RegisterRead (s t : State) : Prop := ∃ regs ms fl n, t = { s with regs := regs, ms := ms, fl := fl, freeCtr := n }

theorem RegisterRead.refl (s : State) : RegisterRead s s := ⟨_, _, _, _, rfl⟩

theorem RegisterRead.trans (h : RegisterRead s t) (g : RegisterRead t u) : RegisterRead s u := by
  obtain ⟨_, _, _, _, rfl⟩ := h
  obtain ⟨_, _, _, _, rfl⟩ := g
  exact ⟨_, _, _, _, rfl⟩

/-- What a read answers does not depend on the contexts, which it leaves as they are, and it reaches no more than a read of registers may. -/
def CtxFreeRead (f : State → Nat × State) : Prop :=
  ∀ s, (∀ c, f (s.withCtxs c) = ((f s).1, (f s).2.withCtxs c)) ∧ RegisterRead s (f s).2

theorem State.set_withCtxs (s : State) (c : List Ctx) (f : Field) (v i j : Nat) : (s.withCtxs c).set f v i j = (s.set f v i j).withCtxs c := by
  unfold State.set
  split <;> rfl

theorem RegisterRead.set (h : RegisterRead s t) (f : Field) (v i j : Nat) : RegisterRead s (t.set f v i j) := by
  obtain ⟨_, _, _, _, rfl⟩ := h
  unfold State.set
  split
  · exact ⟨_, _, _, _, rfl⟩
  · exact ⟨_, _, _, _, rfl⟩

theorem ctxFreeRead_logData : CtxFreeRead State.logDataRead := by
  intro s
  refine ⟨fun c => ?_, ?_⟩
  · have cursor : (s.withCtxs c).get MSM_LOG_CUR_WORD = s.get MSM_LOG_CUR_WORD := rfl
    simp only [State.logDataRead, cursor]
    by_cases first : s.get MSM_LOG_CUR_WORD % 8 = 0 <;> simp only [first, if_true, if_false]
    · exact congrArg (Prod.mk _) (State.set_withCtxs { s with ms := { s.ms with latch := s.ms.ring.look (s.get MSM_LOG_CUR_WORD / 8) } } c _ _ _ _)
    · exact congrArg (Prod.mk _) (State.set_withCtxs _ c _ _ _ _)
  · simp only [State.logDataRead]
    by_cases first : s.get MSM_LOG_CUR_WORD % 8 = 0 <;> simp only [first, if_true, if_false]
    · exact RegisterRead.set ⟨_, _, _, _, rfl⟩ _ _ _ _
    · exact RegisterRead.set (.refl s) _ _ _ _

theorem ctxFreeRead_winData : CtxFreeRead State.winDataRead := by
  intro s
  have line (c : List Ctx) : (s.withCtxs c).shownLine ((s.withCtxs c).get MSM_WIN_ADDR_LINE) = s.shownLine (s.get MSM_WIN_ADDR_LINE) := rfl
  simp only [State.winDataRead, State.windowWord, line]
  cases s.shownLine (s.get MSM_WIN_ADDR_LINE) with
  | some b => exact ⟨fun _ => rfl, _, _, _, _, rfl⟩
  | none => exact ⟨fun _ => rfl, _, _, _, _, rfl⟩

theorem ctxFreeRead_partB (a : Nat) : CtxFreeRead fun s => s.partBWord a := by
  intro s
  have held (c : List Ctx) : (s.withCtxs c).fl.partB.look a = s.fl.partB.look a := rfl
  simp only [State.partBWord, held]
  cases s.fl.partB.look a with
  | some v => exact ⟨fun _ => rfl, .refl s⟩
  | none => exact ⟨fun _ => rfl, _, _, _, _, rfl⟩

theorem ctxFreeRead_word (a : Nat) : CtxFreeRead fun s => s.readWord a := by
  intro s
  unfold State.readWord
  split
  · exact ctxFreeRead_logData s
  · split
    · exact ctxFreeRead_winData s
    · split
      · exact ctxFreeRead_partB a s
      · have latches (c : List Ctx) : (s.withCtxs c).latches = s.latches := rfl
        simp only [latches, State.viewWord_withCtxs]
        cases s.latches.find? fun e => e.1.at 0 0 == a with
        | none => exact ⟨fun _ => rfl, .refl s⟩
        | some e => exact ⟨fun c => Prod.ext rfl (State.set_withCtxs _ _ _ _ _ _), RegisterRead.set (.refl s) _ _ _ _⟩

theorem ctxFreeRead_at (size a : Nat) : CtxFreeRead fun s => s.readAt size a := by
  intro s
  obtain ⟨blind, only⟩ := ctxFreeRead_word (a / 4 * 4) s
  unfold State.readAt
  split
  · exact ⟨fun c => by simp only [blind], only⟩
  · exact ⟨fun _ => rfl, .refl s⟩

/-- Registers read one after another: neither values nor side effects depend on the contexts. -/
theorem readMany_plain (a n : Nat) (s : State) :
    (∀ c, (s.withCtxs c).readMany a n = ((s.readMany a n).1, (s.readMany a n).2.withCtxs c)) ∧ RegisterRead s (s.readMany a n).2 := by
  induction n generalizing a s with
  | zero => exact ⟨fun _ => rfl, .refl s⟩
  | succ n ih =>
    obtain ⟨blind, only⟩ := ctxFreeRead_at 4 a s
    obtain ⟨blind', only'⟩ := ih (a + 4) (s.readAt 4 a).2
    refine ⟨fun c => ?_, only.trans only'⟩
    simp only [State.readMany, blind c, blind' c]

theorem readRegisters_reads : Rows.readRegisters p s := by
  intro bound runs
  have he : exec (.readRegisters p) s = .next (s.after s.now (s.packetRow 0x0103 p none none)) :=
    actRemoving_bound bound fun s => s.packetRow 0x0103 p none none
  obtain ⟨-, -, -, -, running, -⟩ := id runs
  obtain ⟨blind, regs, ms, fl, n, hu⟩ := readMany_plain (field (pkParams p.bytes) 0 4) (field (pkParams p.bytes) 4 2) s
  let v : State := { s with regs := regs, ms := ms, fl := fl, freeCtr := n }
  have run : opReadRegisters.run (.alone p none none) (pkParams p.bytes) (pkSlice p.bytes) (s.brought p)
      = (.done 0 (s.readMany (field (pkParams p.bytes) 0 4) (field (pkParams p.bytes) 4 2)).1, v.withCtxs (s.brought p).ctxs) :=
    (congrArg (fun x : List Nat × State => (MgWait.done 0 x.1, x.2)) (blind (s.brought p).ctxs)).trans (by rw [hu])
  have row := packetRow_done (o := opReadRegisters) runs rfl rfl run running
  obtain ⟨replied, only, sideband⟩ := answered
    (v := { v.withCtxs (s.brought p).ctxs with mg := { s.mg with nextRun := s.mg.nextRun + 1 } }) runs (st := 0) (by decide) none none
    (s.readMany (field (pkParams p.bytes) 0 4) (field (pkParams p.bytes) 4 2)).1 (m := []) rfl rfl
  rw [State.put_reply] at only sideband
  have ctxs (h : p.carrier = 1) : (s.brought p).ctxs = s.ctxs := by rw [brought_sideband h]
  obtain ⟨zn, wpt, wc, pool, -, sd, cd, xl⟩ := only.media
  obtain ⟨mm, -, fw, tp⟩ := only.units
  refine completes_of_next (he.trans (by rw [row]; rfl)) ⟨replied, KeepsPower.after only.power _ _, ?_⟩
  simp only [State.after_zn, State.after_wpt, State.after_wc, State.after_pool, State.after_sd, State.after_cd, State.after_xl, State.after_mm,
    State.after_fw, State.after_tp, State.after_fb]
  refine ⟨zn, wpt, wc, pool, sd, cd, xl, mm, fw, tp, fun h => ?_⟩
  rw [sideband h]
  refine ⟨KeepsHost.after ?_ _ _, rfl⟩
  exact ⟨rfl, rfl, rfl, rfl, ctxs h, rfl, rfl, rfl, rfl, rfl, rfl⟩

/-- A packet that fails a check has no effect but its answer (R432). -/
theorem readRegisters_refused_answers (st : Nat) : Rows.readRegisters_refused p st s := by
  rintro bound ⟨carrier, opcode, hears, fault, mode, entry⟩
  have he : exec (.readRegisters p) s = .next (s.after s.now (s.packetRow 0x0103 p none none)) :=
    actRemoving_bound bound fun s => s.packetRow 0x0103 p none none
  have rest : s.restIdle = false := by simp [State.restIdle, State.mode, mode]
  have row : s.packetRow 0x0103 p none none
      = s.put (.reply 1 p.origin (if st = 0x10 then 0 else pkTag p.bytes) (if st = 0x10 then 0 else 0x0103) st []) := by
    simp [State.packetRow, opcode, carrier, State.packetArrives, hears, fault, State.wakeSource, rest, entry, State.answer]
  refine completes_of_next (he.trans (by rw [row])) ⟨?_, ?_, KeepsAll.after (keepsAll_put _ _) _ _⟩
  · rw [State.after_out, State.out_put rfl]
  · exact OnlyRegs.after fun _ _ _ => by rw [State.put_regs]

theorem readRegisters_unheard_ignored : Rows.readRegisters_unheard p s := by
  rintro bound ⟨carrier, deaf⟩
  have he : exec (.readRegisters p) s = .next (s.after s.now (s.packetRow 0x0103 p none none)) :=
    actRemoving_bound bound fun s => s.packetRow 0x0103 p none none
  have row : s.packetRow 0x0103 p none none = s := by simp [State.packetRow, carrier, State.packetArrives, deaf]
  exact completes_of_next (he.trans (by rw [row])) rfl

/-- Settles O35: a packet that runs at once is answered at once, from a state that differs from the present one in the contexts at most, on which
nothing read depends. -/
theorem packetsThatOnlyRead : Obligations.PacketsThatOnlyRead :=
  ⟨fun _ _ => getIdentity_reads, fun _ _ => getConfigurationReport_reads, fun _ _ => getNamespaceIdentify_reads, fun _ _ => readRegisters_reads,
    fun _ c _ => getRecordStatus_reads c, fun _ _ => getRecordStatus_none_reads, fun _ _ => getSliceStatus_reads, fun _ _ => getPackStatus_reads,
    fun _ _ => readPackHistory_reads, fun _ k _ => queryTicket_reads k, fun _ _ => readLog_reads, fun _ _ => readEventQueue_reads,
    fun _ _ => readDirtyEpochReport_reads, fun _ _ => readLateFaultRecords_reads, fun _ _ => getFabricStatus_reads, fun _ _ => getSlotInfo_reads,
    fun _ _ => getThermalAndPower_reads, fun _ data _ => rawRead_reads data, fun _ st _ => readRegisters_refused_answers st,
    fun _ _ => readRegisters_unheard_ignored⟩

end Sys2Proof.Machine
end

section
/-!
SUPPORT. The memory controllers and their protection (chapter 12): which part of the state their operations reach, which register fields below the
fault collector, and that no event raised is lost.
-/

namespace Sys2Proof.Machine

variable {L M : List Nat} {s t u : State}

/-- Nothing but the memories, registers, the configuration commit asked for, the records queued for the log, the event router and what is put out has
changed. -/
def MemoryOnly (s t : State) : Prop :=
  ∃ mm regs fw logQ dropped rep since todo fired out, t =
    { s with mm := mm, regs := regs, fw := fw, ms := { s.ms with logQ := logQ, dropped := dropped, foldRep := rep, foldSince := since },
             ev := { s.ev with todo := todo, fired := fired }, out := out }

/-- The bit address lies in the tables of repair candidates and of fences of a DRAM channel (Table 12.2). -/
abbrev RowTable (k : Nat) : Prop := rDMC_CH_STAT.addr ≤ k / 8 ∧ k / 8 < rDMC_CH_STAT.addr + 4 * 65536 ∧ 256 ≤ k / 8 % 65536

/-- So it is; below the fault collector's registers no field has changed but those at the bit addresses `L` and in the tables of rows; and no event is
lost. -/
def Protects (L : List Nat) (s t : State) : Prop :=
  MemoryOnly s t ∧ (∀ k, k < 8 * reportBase ∧ ¬ RowTable k ∧ k ∉ L → t.regs.look k = s.regs.look k) ∧ EventsKept s t

theorem MemoryOnly.refl (s : State) : MemoryOnly s s := ⟨_, _, _, _, _, _, _, _, _, _, rfl⟩

theorem MemoryOnly.trans (h : MemoryOnly s t) (g : MemoryOnly t u) : MemoryOnly s u := by
  obtain ⟨_, _, _, _, _, _, _, _, _, _, rfl⟩ := h
  obtain ⟨_, _, _, _, _, _, _, _, _, _, rfl⟩ := g
  exact ⟨_, _, _, _, _, _, _, _, _, _, rfl⟩

theorem memoryOnly_set (s : State) (f : Field) (v i j : Nat) : MemoryOnly s (s.set f v i j) := by
  unfold State.set
  split
  · exact ⟨_, _, _, _, _, _, _, _, _, _, rfl⟩
  · exact .refl s

theorem MemoryOnly.keeps (h : MemoryOnly s t) : KeepsHost s t ∧ KeepsMedia s t ∧ KeepsPower s t := by
  obtain ⟨_, _, _, _, _, _, _, _, _, _, rfl⟩ := h
  simp [KeepsHost, KeepsMedia, KeepsPower]

theorem MemoryOnly.units (h : MemoryOnly s t) : t.mg = s.mg ∧ t.fb = s.fb ∧ t.tp = s.tp ∧ t.fc = s.fc ∧ t.now = s.now ∧ t.unbound = s.unbound
    ∧ t.ms.opMs = s.ms.opMs := by
  obtain ⟨_, _, _, _, _, _, _, _, _, _, rfl⟩ := h
  simp

theorem Protects.refl (L : List Nat) (s : State) : Protects L s s := ⟨.refl s, fun _ _ => rfl, .refl s⟩

theorem Protects.trans (h : Protects L s t) (g : Protects L t u) : Protects L s u :=
  ⟨h.1.trans g.1, fun k hk => (g.2.1 k hk).trans (h.2.1 k hk), h.2.2.trans g.2.2⟩

theorem Protects.mono (h : Protects L s t) (hm : ∀ k ∈ L, k ∈ M) : Protects M s t :=
  ⟨h.1, fun k ⟨hb, hr, hk⟩ => h.2.1 k ⟨hb, hr, fun hl => hk (hm k hl)⟩, h.2.2⟩

/-- A change that reaches neither registers nor the event router. -/
theorem protects_of_eq (hm : MemoryOnly s t) (hr : t.regs = s.regs) (he : t.ev.todo = s.ev.todo) : Protects L s t :=
  ⟨hm, fun _ _ => by rw [hr], .of_eq hr he⟩

theorem Protects.mem (h : Protects L s t) (m : MemState) : Protects L s { t with mm := m } :=
  h.trans (protects_of_eq ⟨_, _, _, _, _, _, _, _, _, _, rfl⟩ rfl rfl)

theorem Protects.modDchan (h : Protects L s t) (d : Nat) (f : DChan → DChan) : Protects L s (t.modDchan d f) := h.mem _

theorem Protects.put (h : Protects L s t) (o : Out) : Protects L s (t.put o) := by
  refine h.trans (protects_of_eq ?_ (State.put_regs t o) (by rw [State.put_ev]))
  unfold State.put
  split
  · exact .refl t
  · exact ⟨_, _, _, _, _, _, _, _, _, _, rfl⟩

/-- A field before the pending words that lies in `L`, in the tables of rows, or from the fault collector on. -/
theorem Protects.set' (h : Protects L s t) {f : Field} {v i j : Nat} (hp : f.key i j < 8 * rEVR_PEND.addr)
    (hl : f.key i j ∈ L ∨ RowTable (f.key i j) ∨ 8 * reportBase ≤ f.key i j) : Protects L s (t.set f v i j) := by
  refine h.trans ⟨memoryOnly_set t f v i j, fun k ⟨hb, hr, hk⟩ => State.look_set t f v i j k fun e => ?_, (EventsKept.refl t).set hp⟩
  subst e
  exact hl.elim hk (Or.elim · hr (Nat.not_le.2 hb))

theorem Protects.set (h : Protects L s t) {f : Field} {v i j : Nat} (hl : f.key i j ∈ L) (hp : f.key i j < 8 * rEVR_PEND.addr) :
    Protects L s (t.set f v i j) := h.set' hp (.inl hl)

theorem reportBase_lt_pend (n : Nat) : 8 * reportBase ≤ EVR_PEND.key n 0 :=
  (show 8 * reportBase ≤ 8 * rEVR_PEND.addr by decide).trans (pend_key_ge n)

theorem Protects.raise (h : Protects L s t) (n q : Nat) : Protects L s (t.raise n q) :=
  h.trans ⟨(memoryOnly_set t EVR_PEND _ _ 0).trans ⟨_, _, _, _, _, _, _, _, _, _, rfl⟩,
    fun k ⟨hb, _, _⟩ => State.look_set t EVR_PEND _ _ 0 k (Nat.ne_of_gt (hb.trans_le (reportBase_lt_pend _))), (EventsKept.refl t).raise n q⟩

theorem Protects.fired (h : Protects L s t) (l : List (Nat × Nat)) : Protects L s { t with ev := { t.ev with fired := l } } :=
  h.trans (protects_of_eq ⟨_, _, _, _, _, _, _, _, _, _, rfl⟩ rfl rfl)

theorem Protects.raiseOnce (h : Protects L s t) (n o q : Nat) : Protects L s (t.raiseOnce n o q) := by
  unfold State.raiseOnce
  split
  · exact h
  · exact (h.fired _).raise n q

theorem Protects.bump (h : Protects L s t) {b : CntBlock} {f : Field} {i n o si : Nat} (hf : f.key i 0 ∈ L) (hs : b.sat.key si 0 ∈ L)
    (hfp : f.key i 0 < 8 * rEVR_PEND.addr) (hsp : b.sat.key si 0 < 8 * rEVR_PEND.addr) : Protects L s (t.bump b f i n o si) := by
  unfold State.bump State.saturated
  dsimp only
  split
  · split
    · exact h.set hf hfp
    · exact (((h.set hf hfp).fired _).set hs hsp).raise _ _
  · exact h.set hf hfp

-- the report of an error

theorem memoryOnly_raise (s : State) (n q : Nat) : MemoryOnly s (s.raise n q) := ((Protects.refl [] s).raise n q).1

theorem memoryOnly_raiseOnce (s : State) (n o q : Nat) : MemoryOnly s (s.raiseOnce n o q) := ((Protects.refl [] s).raiseOnce n o q).1

theorem memoryOnly_bump (s : State) (b : CntBlock) (f : Field) (i n o si : Nat) : MemoryOnly s (s.bump b f i n o si) := by
  unfold State.bump State.saturated
  dsimp only
  split
  · split
    · exact memoryOnly_set _ _ _ _ _
    · exact (memoryOnly_set s f _ i 0).trans (MemoryOnly.trans ⟨_, _, _, _, _, _, _, _, _, _, rfl⟩ ((memoryOnly_set _ b.sat 1 si 0).trans (memoryOnly_raise _ _ _)))
  · exact memoryOnly_set _ _ _ _ _

theorem memoryOnly_logRec (s : State) (c p0 p1 p2 p3 fl : Nat) : MemoryOnly s (s.logRec c p0 p1 p2 p3 fl) := by
  have ms (q : List LogRec) (d : Bool) (n : Nat) (l : Option Nat) :
      MemoryOnly s { s with ms := { s.ms with logQ := q, dropped := d, foldRep := n, foldSince := l } } := ⟨_, _, _, _, _, _, _, _, _, _, rfl⟩
  unfold State.logRec
  simp only
  split
  · split
    · exact ms _ _ _ _
    · split
      · exact ms _ _ _ _
      · exact ((ms _ _ _ _).trans (memoryOnly_bump _ _ _ _ _ _ _)).trans (memoryOnly_raiseOnce _ _ _ _)
  · split
    · split
      · exact ms _ _ _ _
      · exact ms _ _ _ _
    · exact ms _ _ _ _

theorem memoryOnly_capture (s : State) (a m ty cls sp : Nat) : MemoryOnly s (s.capture a m ty cls sp) := by
  unfold State.capture
  simp only
  split
  · refine MemoryOnly.trans ?_ (memoryOnly_set _ _ _ _ _)
    split
    · exact (memoryOnly_set _ _ _ _ _).trans (memoryOnly_raiseOnce _ _ _ _)
    · exact memoryOnly_set _ _ _ _ _
  · refine MemoryOnly.trans ?_ (memoryOnly_logRec _ _ _ _ _ _ _)
    iterate 11 refine MemoryOnly.trans ?_ (memoryOnly_set _ _ _ _ _)
    exact .refl s

theorem protects_of_reports (hm : MemoryOnly s t) (h : Reports s t) : Protects L s t := ⟨hm, fun k hk => h.1 k hk.1, h.2⟩

theorem reports_reportUE (s : State) (a m ty sp : Nat) : Reports s (s.reportUE a m ty sp) :=
  (((Reports.refl s).capture a m ty _ sp).bump (by decide) (by decide)).raiseOnce _ _ _

theorem Protects.reportCE (h : Protects L s t) (a m ty sp : Nat) : Protects L s (t.reportCE a m ty sp) :=
  h.trans (protects_of_reports (((memoryOnly_capture t a m ty _ sp).trans (memoryOnly_bump _ _ _ _ _ _ _)).trans (memoryOnly_raiseOnce _ _ _ _))
    (reports_reportCE t a m ty sp))

theorem Protects.reportUE (h : Protects L s t) (a m ty sp : Nat) : Protects L s (t.reportUE a m ty sp) :=
  h.trans (protects_of_reports (((memoryOnly_capture t a m ty _ sp).trans (memoryOnly_bump _ _ _ _ _ _ _)).trans (memoryOnly_raiseOnce _ _ _ _))
    (reports_reportUE t a m ty sp))

-- what is read of them

theorem Protects.get (h : Protects L s t) {f : Field} {i j : Nat} (hf : f.key i j < 8 * reportBase ∧ ¬ RowTable (f.key i j) ∧ f.key i j ∉ L) :
    t.get f i j = s.get f i j := State.get_congr _ _ _ _ _ (h.2.1 _ hf)

theorem Protects.keeps_after (h : Protects L s t) (r : State) (n : Nat) :
    KeepsHost s (r.after n t) ∧ KeepsMedia s (r.after n t) ∧ KeepsPower s (r.after n t) := by
  obtain ⟨hh, hm, hp⟩ := h.1.keeps
  exact ⟨hh.after r n, hm.after r n, hp.after r n⟩

/-- A field from the memory controllers' registers on shows no number of contexts. -/
theorem not_shown {f : Field} (hf : rDMC_CTRL.addr ≤ f.reg.addr) (i j : Nat) : f.key i j ∉ shownKeys := by
  refine key_not_shown (fun k hk => ?_) i j
  have : k < 8 * rDMC_CTRL.addr := (show ∀ k ∈ shownKeys, k < 8 * rDMC_CTRL.addr by decide) k hk
  omega

theorem get_after_memory (s t : State) (n : Nat) {f : Field} (hf : rDMC_CTRL.addr ≤ f.reg.addr) (i j : Nat) :
    (s.after n t).get f i j = t.get f i j := State.get_after _ _ _ _ _ _ (not_shown hf i j)

theorem Counts.after_memory {f : Field} {i n : Nat} (h : Counts f i n s t) (hf : rDMC_CTRL.addr ≤ f.reg.addr) (r : State) (k : Nat) :
    Counts f i n s (r.after k t) := h.after (not_shown hf i 0) r k

/-- A counter reads as before until it counts, and as then afterwards. -/
theorem Counts.between {f : Field} {i n : Nat} (h : Counts f i n s t) {s' t' : State} (hs : s.get f i = s'.get f i) (ht : t'.get f i = t.get f i) :
    Counts f i n s' t' := by
  unfold Counts
  rw [ht, h, hs]

theorem counts_bump (s : State) {b : CntBlock} {f : Field} {i n o si : Nat} (hi : f.reg.has i 0 = true) (hs : b.sat.key si 0 ≠ f.key i 0)
    (hp : f.key i 0 < 8 * rEVR_PEND.addr) : Counts f i n s (s.bump b f i n o si) :=
  State.bump_get s b f i n o si hi hs (Nat.ne_of_gt (hp.trans_le (pend_key_ge _)))

/-- A capture reaches neither counter of reported errors. -/
theorem State.get_capture_counts (s : State) (a m ty cls sp : Nat) {f : Field} (hf : f = FCL_CE_CNT ∨ f = FCL_UE_CNT) :
    (s.capture a m ty cls sp).get f = s.get f := by
  have set (s : State) {g : Field} (v : Nat) (h : g.key 0 0 ≠ FCL_CE_CNT.key 0 0 ∧ g.key 0 0 ≠ FCL_UE_CNT.key 0 0) : (s.set g v).get f = s.get f :=
    State.get_set_ne s g f v 0 0 0 0 (by rcases hf with rfl | rfl; exacts [h.1, h.2])
  have raise (s : State) (n o q : Nat) : (s.raiseOnce n o q).get f = s.get f := by
    unfold State.raiseOnce
    split
    · rfl
    · refine State.get_raise_ne _ _ _ _ _ _ (Nat.ne_of_gt (Nat.lt_of_lt_of_le ?_ (pend_key_ge _)))
      rcases hf with rfl | rfl <;> decide
  have log (s : State) (c p0 p1 p2 p3 fl : Nat) : (s.logRec c p0 p1 p2 p3 fl).get f = s.get f := by
    have drop (s : State) : (s.bump blkMSM MSM_LOG_DROP).get f = s.get f := by
      rcases hf with rfl | rfl <;> exact State.get_bump_ne s (by decide) (by decide) (by decide)
    unfold State.logRec
    simp only
    split
    · split
      · rfl
      · split
        · rfl
        · exact (raise _ _ _ _).trans (drop _)
    · split
      · split <;> rfl
      · rfl
  unfold State.capture
  simp only
  split
  · rw [set _ _ (by decide)]
    split
    · rw [raise, set _ _ (by decide)]
    · exact set _ _ (by decide)
  · rw [log]
    iterate 11 rw [set _ _ (by decide)]

theorem State.get_raiseOnce_ne (s : State) (n o q : Nat) {f : Field} {i j : Nat} (hf : f.key i j < 8 * rEVR_PEND.addr) :
    (s.raiseOnce n o q).get f i j = s.get f i j := by
  unfold State.raiseOnce
  split
  · rfl
  · exact State.get_raise_ne _ _ _ _ _ _ (Nat.ne_of_gt (hf.trans_le (pend_key_ge _)))

theorem counts_reportCE (s : State) (a m ty sp : Nat) : Counts FCL_CE_CNT 0 1 s (s.reportCE a m ty sp) :=
  (counts_bump _ (by decide) (by decide) (by decide)).between (State.get_capture_counts s a m ty _ sp (.inl rfl))
    (State.get_raiseOnce_ne _ _ _ _ (by decide))

theorem counts_reportUE (s : State) (a m ty sp : Nat) : Counts FCL_UE_CNT 0 1 s (s.reportUE a m ty sp) :=
  (counts_bump _ (by decide) (by decide) (by decide)).between (State.get_capture_counts s a m ty _ sp (.inr rfl))
    (State.get_raiseOnce_ne _ _ _ _ (by decide))

end Sys2Proof.Machine
end

section
/-!
SUPPORT. SRAM words read with an error, the rearming of DMA channels and the SRAM scrub (R349 to R354).
-/

namespace Sys2Proof.Machine

variable {L : List Nat} {s t u : State}

/-- Of the memories a write to an SRAM word reaches the words alone. -/
theorem State.sramWrites_eq (s : State) (w : List SramWrite) : ∃ m, s.sramWrites w = { s with mm := { s.mm with sram := m } } := by
  refine State.each_rel (R := fun s t => ∃ m, t = { s with mm := { s.mm with sram := m } }) (fun s => ⟨_, rfl⟩) ?_ (fun _ _ => ⟨_, rfl⟩) _ s
  rintro s t u ⟨m, rfl⟩ ⟨m', rfl⟩
  exact ⟨m', rfl⟩

theorem State.sramWrites_mm (s : State) (w : List SramWrite) : ∃ m, (s.sramWrites w).mm = { s.mm with sram := m } := by
  obtain ⟨m, e⟩ := s.sramWrites_eq w
  exact ⟨m, by rw [e]⟩

theorem protects_sramWrites (s : State) (w : List SramWrite) : Protects L s (s.sramWrites w) := by
  obtain ⟨m, e⟩ := s.sramWrites_eq w
  rw [e]
  exact (Protects.refl L s).mem _

theorem State.sramWrites_regs (s : State) (w : List SramWrite) : (s.sramWrites w).regs = s.regs := by
  obtain ⟨m, e⟩ := s.sramWrites_eq w
  rw [e]

/-- The registers of the SRAM protection that its operations write. -/
def mpuKeys : List Nat :=
  [MPU_CE_CNT.key 0 0, MPU_UE_CNT.key 0 0, MPU_TRAP_CNT.key 0 0, MPU_HALT_CNT.key 0 0, MPU_STATUS_SAT.key 0 0, MPU_ERR_ADDR_MACRO.key 0 0,
   MPU_ERR_ADDR_WORD.key 0 0, MPU_ERR_INFO_MASTER.key 0 0, MPU_ERR_INFO_TYPE.key 0 0, MPU_ERR_INFO_VALID.key 0 0, MPU_PROPOSE_ROW.key 0 0,
   MPU_PROPOSE_MACRO.key 0 0]

theorem Protects.bumpMpu (h : Protects L s t) {f : Field} {o : Nat} (hf : f.key 0 0 ∈ L) (hs : MPU_STATUS_SAT.key 0 0 ∈ L)
    (hp : f.key 0 0 < 8 * rEVR_PEND.addr) : Protects L s (t.bump blkMPU f 0 1 o 0) := h.bump hf hs hp (by decide)

-- a corrected word

/-- A word read with a corrected error is put out, written back, counted and reported (R350). -/
def State.sramCorrected (s : State) (mac word : Nat) (scrub : Bool) : State :=
  let k := sramKey mac word
  let s := s.put (.sramWord mac word (s.sramRead k))
  let s := s.sramWrite k 255 (s.sramRead k)
  ((s.bump blkMPU MPU_CE_CNT).raiseOnce 216).reportCE (word + mac * 2 ^ 15) (if scrub then 0x30 else 0) (if scrub then 5 else 4) 1

/-- Corrections are noted for the row, which is proposed with the CE_TH-th of 24 operating hours (R350). -/
def State.sramRowNoted (s : State) (mac word : Nat) : State :=
  let key := 2048 * mac + word / 16
  let l := ((s.mm.sramRows.lookD key []).filter fun t => s.ms.opMs < t + 86400000) ++ [s.ms.opMs]
  let th := s.get MPU_CFG_CE_TH
  if 0 < th ∧ th ≤ l.length then
    let s := { s with mm := { s.mm with sramRows := s.mm.sramRows.del key } }
    ((s.set MPU_PROPOSE_ROW (word / 16)).set MPU_PROPOSE_MACRO mac).raise 221
  else { s with mm := { s.mm with sramRows := s.mm.sramRows.put key l } }

def State.scrubCorrected (s : State) : State :=
  { s with mm := { s.mm with scrub := s.mm.scrub.map fun r => { r with corrected := r.corrected + 1 } } }

/-- A scrub counts what it has corrected. -/
def State.sramCounted (s : State) (mac word : Nat) (scrub : Bool) : State :=
  if scrub then (s.sramCorrected mac word scrub).scrubCorrected else s.sramCorrected mac word scrub

theorem exec_sramCorrectedWord (mac word : Nat) (scrub : Bool) (w : List SramWrite) (s : State) :
    exec (.sramCorrectedWord mac word scrub w) s = actWhen s (s.powered && mac < 352 && word < 32768) fun s =>
      if ((s.sramWrites w).mm.sram.look (sramKey mac word)).isNone then
        (s.sramWrites w).put (.sramWord mac word ((s.sramWrites w).sramRead (sramKey mac word)))
      else ((s.sramWrites w).sramCounted mac word scrub).sramRowNoted mac word := by
  show execSramCorrectedWord mac word scrub w s = _
  unfold execSramCorrectedWord
  simp only [State.put_mm]
  cases scrub <;> simp only [State.sramCounted, State.sramCorrected, State.sramRowNoted, State.scrubCorrected, Bool.false_eq_true, if_false, if_true]

theorem State.sramCorrected_mm (s : State) (mac word : Nat) (scrub : Bool) :
    (s.sramCorrected mac word scrub).mm = (s.sramWrite (sramKey mac word) 255 (s.sramRead (sramKey mac word))).mm := by
  simp [State.sramCorrected, State.sramWrite, State.sramRead]

theorem State.sramCorrected_out (s : State) (mac word : Nat) (scrub : Bool) :
    (s.sramCorrected mac word scrub).out = .sramWord mac word (s.sramRead (sramKey mac word)) :: s.out := by
  simp [State.sramCorrected, State.sramWrite, State.out_put (o := .sramWord mac word (s.sramRead (sramKey mac word))) rfl]

/-- The state with the word put out and written back, in which it is counted and reported. -/
def State.sramRestored (s : State) (mac word : Nat) : State :=
  let s := s.put (.sramWord mac word (s.sramRead (sramKey mac word)))
  s.sramWrite (sramKey mac word) 255 (s.sramRead (sramKey mac word))

theorem State.sramRestored_regs (s : State) (mac word : Nat) : (s.sramRestored mac word).regs = s.regs := State.put_regs _ _

theorem protects_sramRestored (s : State) (mac word : Nat) : Protects L s (s.sramRestored mac word) := ((Protects.refl L s).put _).mem _

theorem protects_sramCorrected (s : State) (mac word : Nat) (scrub : Bool) :
    Protects [MPU_CE_CNT.key 0 0, MPU_STATUS_SAT.key 0 0] s (s.sramCorrected mac word scrub) :=
  ((((protects_sramRestored s mac word).bumpMpu (by simp) (by simp) (by decide)).raiseOnce 216 0 0).reportCE _ _ _ _)

theorem counts_sramCorrected (s : State) (mac word : Nat) (scrub : Bool) :
    Counts MPU_CE_CNT 0 1 s (s.sramCorrected mac word scrub) ∧ Counts FCL_CE_CNT 0 1 s (s.sramCorrected mac word scrub) := by
  have regs := s.sramRestored_regs mac word
  have report : Protects [] ((s.sramRestored mac word).bump blkMPU MPU_CE_CNT) (s.sramCorrected mac word scrub) :=
    ((Protects.refl [] _).raiseOnce 216 0 0).reportCE _ _ _ _
  refine ⟨(counts_bump (s.sramRestored mac word) (by decide) (by decide) (by decide)).between (State.get_of_regs regs _ _ _) (report.get (by decide)),
    (counts_reportCE (((s.sramRestored mac word).bump blkMPU MPU_CE_CNT).raiseOnce 216) (word + mac * 2 ^ 15) (if scrub then 0x30 else 0)
      (if scrub then 5 else 4) 1).between ?_ rfl⟩
  rw [State.get_raiseOnce_ne _ _ _ _ (by decide), State.get_bump_ne _ (by decide) (by decide) (by decide)]
  exact State.get_of_regs regs _ _ _

theorem State.sramRowNoted_first {s : State} {mac word : Nat} (row : s.mm.sramRows.lookD (2048 * mac + word / 16) [] = [])
    (th : 1 ≠ s.get MPU_CFG_CE_TH) :
    s.sramRowNoted mac word = { s with mm := { s.mm with sramRows := s.mm.sramRows.put (2048 * mac + word / 16) [s.ms.opMs] } } := by
  unfold State.sramRowNoted
  simp only [row, List.filter_nil, List.nil_append, List.length_singleton]
  exact if_neg (by omega)

theorem State.sramRowNoted_proposes {s : State} (mac word : Nat) (th : 1 = s.get MPU_CFG_CE_TH) :
    s.sramRowNoted mac word =
      ((({ s with mm := { s.mm with sramRows := s.mm.sramRows.del (2048 * mac + word / 16) } }.set MPU_PROPOSE_ROW (word / 16)).set
        MPU_PROPOSE_MACRO mac).raise 221) := by
  unfold State.sramRowNoted
  simp only [← th, List.length_append, List.length_singleton]
  exact if_pos (by omega)

/-- A row with no corrections before and a threshold of more than one has its first noted. -/
theorem sramRowNoted_first_kept {s : State} {mac word : Nat} (row : s.mm.sramRows.lookD (2048 * mac + word / 16) [] = [])
    (th : 1 ≠ s.get MPU_CFG_CE_TH) :
    (s.sramRowNoted mac word).regs = s.regs ∧ (s.sramRowNoted mac word).out = s.out
      ∧ (s.sramRowNoted mac word).mm = { s.mm with sramRows := s.mm.sramRows.put (2048 * mac + word / 16) [s.ms.opMs] } := by
  rw [State.sramRowNoted_first row th]
  exact ⟨rfl, rfl, rfl⟩

/-- With a threshold of one, the row is proposed (R350). -/
theorem sramRowNoted_proposed {s : State} {mac word : Nat} (hm : mac < 352) (hw : word < 32768) (th : 1 = s.get MPU_CFG_CE_TH) :
    (s.sramRowNoted mac word).get MPU_PROPOSE_ROW = word / 16 ∧ (s.sramRowNoted mac word).get MPU_PROPOSE_MACRO = mac
      ∧ Raises 221 s (s.sramRowNoted mac word) ∧ (s.sramRowNoted mac word).mm.sramRows.look (2048 * mac + word / 16) = none := by
  rw [State.sramRowNoted_proposes mac word th]
  refine ⟨?_, ?_, (raises_raise _ 221 0 (by decide)).since (((EventsKept.of_eq rfl rfl).set (by decide)).set (by decide)), ?_⟩
  · rw [State.get_raise_ne _ _ _ _ _ _ (by decide), State.get_set_ne _ _ _ _ _ _ _ _ (by decide), State.get_set _ _ _ _ _ (by decide)]
    exact Nat.mod_eq_of_lt (by simp only [MPU_PROPOSE_ROW]; omega)
  · rw [State.get_raise_ne _ _ _ _ _ _ (by decide), State.get_set _ _ _ _ _ (by decide)]
    exact Nat.mod_eq_of_lt (by simp only [MPU_PROPOSE_MACRO]; omega)
  · simp [NMap.look_del]

theorem Counts.of_regs {f : Field} {i n : Nat} (h : Counts f i n s t) (hr : u.regs = t.regs) : Counts f i n s u :=
  (State.get_of_regs hr f i 0).trans h

theorem protects_sramRowNoted (s : State) (mac word : Nat) :
    Protects [MPU_PROPOSE_ROW.key 0 0, MPU_PROPOSE_MACRO.key 0 0] s (s.sramRowNoted mac word) := by
  unfold State.sramRowNoted
  dsimp only
  split
  · exact ((((Protects.refl _ s).mem _).set (by simp) (by decide)).set (by simp) (by decide)).raise _ _
  · exact (Protects.refl _ s).mem _

theorem State.sramCounted_read (s : State) (mac word : Nat) : s.sramCounted mac word false = s.sramCorrected mac word false := by
  simp [State.sramCounted]

theorem protects_sramCounted (s : State) (mac word : Nat) (scrub : Bool) : Protects L (s.sramCorrected mac word scrub) (s.sramCounted mac word scrub) := by
  unfold State.sramCounted
  split
  · exact (Protects.refl L _).mem _
  · exact .refl L _

section
variable {mac word : Nat} {w : List SramWrite} {P : State → Prop}

/-- A command on a word of SRAM that is valid (R349, R350). -/
theorem effect_sramCorrectedWord {scrub : Bool} (valid : ((s.sramWrites w).mm.sram.look (sramKey mac word)).isSome = true)
    (h : mac < 352 → word < 32768 → P (s.after s.now (((s.sramWrites w).sramCounted mac word scrub).sramRowNoted mac word))) :
    Effect (.sramCorrectedWord mac word scrub w) s (s.powered = true ∧ mac < 352 ∧ word < 32768) P := by
  refine effect_actWhen (exec_sramCorrectedWord mac word scrub w s) (by simp [and_assoc]) fun ⟨_, hm, hw⟩ => ?_
  rw [if_neg (by simpa using Option.isSome_iff_ne_none.1 valid)]
  exact h hm hw

/-- The threshold that proposes a row stays while the word is corrected. -/
theorem get_threshold (s : State) (mac word : Nat) (w : List SramWrite) (scrub : Bool) :
    ((s.sramWrites w).sramCounted mac word scrub).get MPU_CFG_CE_TH = s.get MPU_CFG_CE_TH :=
  (((protects_sramCorrected _ mac word scrub).trans (protects_sramCounted _ mac word scrub)).get (by decide)).trans
    (State.get_of_regs (s.sramWrites_regs w) _ _ _)

theorem Counts.of_sramWrites {f : Field} {i n : Nat} (h : Counts f i n (s.sramWrites w) t) : Counts f i n s t :=
  h.between (State.get_of_regs (s.sramWrites_regs w) _ _ _) rfl

/-- Counting, reporting and noting all change the SRAM protection alone. -/
theorem protects_correctedWord (s : State) (mac word : Nat) (w : List SramWrite) (scrub : Bool) :
    Protects mpuKeys s (((s.sramWrites w).sramCounted mac word scrub).sramRowNoted mac word) :=
  (((protects_sramWrites s w).trans ((protects_sramCorrected _ mac word scrub).mono (by decide))).trans (protects_sramCounted _ mac word scrub)).trans
    ((protects_sramRowNoted _ mac word).mono (by decide))

/-- Whatever is noted of the row, the count stands. -/
theorem counts_correctedWord (s : State) (mac word : Nat) (w : List SramWrite) (scrub : Bool) :
    Counts MPU_CE_CNT 0 1 s (((s.sramWrites w).sramCounted mac word scrub).sramRowNoted mac word) :=
  (counts_sramCorrected (s.sramWrites w) mac word scrub).1.of_sramWrites.between rfl
    (((protects_sramCounted (L := _) _ mac word scrub).trans (protects_sramRowNoted _ mac word)).get (by decide))

theorem State.sramCounted_mm (s : State) (mac word : Nat) : (s.sramCounted mac word false).mm = (s.sramWrite (sramKey mac word) 255
    (s.sramRead (sramKey mac word))).mm := by
  rw [State.sramCounted_read, State.sramCorrected_mm]

/-- The corrections of a row noted before, and the row's operating time, are those of before. -/
theorem State.sramCounted_row (s : State) (mac word : Nat) (w : List SramWrite) :
    ((s.sramWrites w).sramCounted mac word false).mm.sramRows = s.mm.sramRows ∧ ((s.sramWrites w).sramCounted mac word false).ms.opMs = s.ms.opMs := by
  obtain ⟨m, hm⟩ := s.sramWrites_mm w
  refine ⟨by rw [State.sramCounted_mm]; simp [State.sramWrite, hm], ?_⟩
  obtain ⟨-, -, -, -, -, -, opMs⟩ := ((protects_sramWrites (L := mpuKeys) s w).trans
    (((protects_sramCorrected _ mac word false).mono (by decide)).trans (protects_sramCounted _ mac word false))).1.units
  exact opMs

theorem row_sramCorrectedWord (mac word : Nat) (scrub : Bool) (w : List SramWrite) (s : State) : Rows.sramCorrectedWord mac word scrub w s := by
  rintro ⟨rfl, valid, row, th⟩
  refine effect_sramCorrectedWord valid fun _ _ => ?_
  obtain ⟨host, media, power⟩ := (protects_correctedWord s mac word w false).keeps_after s s.now
  obtain ⟨-, -, -, fc, -⟩ := (protects_correctedWord s mac word w false).1.units
  obtain ⟨rows, opMs⟩ := s.sramCounted_row mac word w
  obtain ⟨m, hm⟩ := s.sramWrites_mm w
  obtain ⟨regs, out, mm⟩ := sramRowNoted_first_kept (s := (s.sramWrites w).sramCounted mac word false) (mac := mac) (word := word) (by rw [rows, row])
    (by rw [get_threshold]; exact th)
  have fcl := (counts_sramCorrected (s.sramWrites w) mac word false).2.of_sramWrites
  rw [← State.sramCounted_read] at fcl
  refine ⟨(counts_correctedWord s mac word w false).after_memory (by decide) _ _, (fcl.of_regs regs).after_memory (by decide) _ _, ?_, ?_, ?_, ?_, ?_,
    host, media, power, by rw [State.after_fc]; exact fc⟩
  all_goals simp only [State.after_mm, State.after_out, mm, out]
  · rw [rows, opMs]
  · rw [State.sramCounted_read, State.sramCorrected_out]
    obtain ⟨m, e⟩ := s.sramWrites_eq w
    rw [e]
  · simp [State.sramCounted_mm, State.sramWrite, State.sramRead]
  · simp [State.sramCounted_mm, State.sramWrite, hm]
  · simp [State.sramCounted_mm, State.sramWrite, hm]

theorem row_sramCorrectedWord_proposes (mac word : Nat) (scrub : Bool) (w : List SramWrite) (s : State) :
    Rows.sramCorrectedWord_proposes mac word scrub w s := by
  rintro ⟨rfl, valid, th⟩
  refine effect_sramCorrectedWord valid fun hm hw => ?_
  obtain ⟨host, media, power⟩ := (protects_correctedWord s mac word w false).keeps_after s s.now
  have kept : EventsKept s ((s.sramWrites w).sramCounted mac word false) :=
    ((protects_sramWrites (L := mpuKeys) s w).trans (((protects_sramCorrected _ mac word false).mono (by decide)).trans
      (protects_sramCounted _ mac word false))).2.2
  obtain ⟨row, proposed, raises, forgotten⟩ := sramRowNoted_proposed (s := (s.sramWrites w).sramCounted mac word false) hm hw
    (by rw [get_threshold]; exact th)
  refine ⟨(counts_correctedWord s mac word w false).after_memory (by decide) _ _, ?_, ?_, (raises.since kept).after, by rw [State.after_mm]; exact forgotten, host, media,
    power⟩
  · rw [get_after_memory _ _ _ (by decide)]; exact row
  · rw [get_after_memory _ _ _ (by decide)]; exact proposed

theorem row_sramCorrectedWord_scrub (mac word : Nat) (w : List SramWrite) (r : SScrub) (s : State) : Rows.sramCorrectedWord_scrub mac word w r s := by
  rintro ⟨running, valid⟩
  refine effect_sramCorrectedWord valid fun _ _ => ?_
  obtain ⟨host, media, power⟩ := (protects_correctedWord s mac word w true).keeps_after s s.now
  obtain ⟨m, hm⟩ := s.sramWrites_mm w
  refine ⟨?_, (counts_correctedWord s mac word w true).after_memory (by decide) _ _, host, media, power⟩
  have counted : ((s.sramWrites w).sramCounted mac word true).mm.scrub = some { r with corrected := r.corrected + 1 } := by
    simp [State.sramCounted, State.scrubCorrected, State.sramCorrected_mm, State.sramWrite, hm, running]
  rw [State.after_mm, ← counted]
  unfold State.sramRowNoted
  dsimp only
  split <;> simp

/-- A word that is not valid reads as 0, and nothing else comes of it (R349). -/
theorem readInvalid {mac word : Nat} {w : List SramWrite} (s : State) (r : State) (n : Nat) :
    (r.after n ((s.sramWrites w).put (.sramWord mac word 0))).out = .sramWord mac word 0 :: s.out
      ∧ (r.after n ((s.sramWrites w).put (.sramWord mac word 0))).mm = (s.sramWrites w).mm
      ∧ OnlyRegs [] s (r.after n ((s.sramWrites w).put (.sramWord mac word 0)))
      ∧ KeepsHost s (r.after n ((s.sramWrites w).put (.sramWord mac word 0)))
      ∧ KeepsMedia s (r.after n ((s.sramWrites w).put (.sramWord mac word 0)))
      ∧ KeepsPower s (r.after n ((s.sramWrites w).put (.sramWord mac word 0)))
      ∧ KeepsFaults s (r.after n ((s.sramWrites w).put (.sramWord mac word 0))) := by
  obtain ⟨m, e⟩ := s.sramWrites_eq w
  rw [e]
  obtain ⟨host, media, power, -, faults⟩ := keepsAll_put { s with mm := { s.mm with sram := m } } (.sramWord mac word 0)
  refine ⟨?_, ?_, OnlyRegs.after (onlyRegs_of_eq [] (State.put_regs _ _)), KeepsHost.after host r n, KeepsMedia.after media r n,
    KeepsPower.after power r n, KeepsFaults.after faults r n⟩
  · rw [State.after_out, State.out_put rfl]
  · rw [State.after_mm, State.put_mm]

theorem row_sramCorrectedWord_invalid (mac word : Nat) (scrub : Bool) (w : List SramWrite) (s : State) :
    Rows.sramCorrectedWord_invalid mac word scrub w s := by
  intro invalid
  refine effect_actWhen (exec_sramCorrectedWord mac word scrub w s) (by simp [and_assoc]) fun _ => ?_
  have zero : (s.sramWrites w).sramRead (sramKey mac word) = 0 := by simp [State.sramRead, invalid]
  rw [if_pos (by simp [invalid]), zero]
  exact readInvalid s s s.now

end

end Sys2Proof.Machine
end

section
/-!
SUPPORT. SRAM words read with an error that cannot be corrected, the rearming of a DMA channel and the SRAM scrub (R351, R352, R354).
-/

namespace Sys2Proof.Machine

variable {L : List Nat} {s t u : State} {mac word kind master : Nat} {w : List SramWrite}

/-- An uncorrectable word is counted, recorded where it is the first, and raised (R351, Table 12.17). -/
def State.sramFailed (s : State) (mac word master kind : Nat) : State := (s.sramRecord mac word master kind).raise 217

/-- So it is, and reported as a contained error. -/
def State.sramReported (s : State) (mac word master kind : Nat) : State :=
  (s.sramFailed mac word master kind).reportUE (word + mac * 2 ^ 15) master kind 1

/-- The registers that record it. -/
def recordKeys : List Nat :=
  [MPU_UE_CNT.key 0 0, MPU_STATUS_SAT.key 0 0, MPU_ERR_ADDR_MACRO.key 0 0, MPU_ERR_ADDR_WORD.key 0 0, MPU_ERR_INFO_MASTER.key 0 0,
   MPU_ERR_INFO_TYPE.key 0 0, MPU_ERR_INFO_VALID.key 0 0]

theorem protects_sramFailed (s : State) (mac word master kind : Nat) : Protects recordKeys s (s.sramFailed mac word master kind) := by
  have counted : Protects recordKeys s (s.bump blkMPU MPU_UE_CNT) := (Protects.refl _ s).bumpMpu (by decide) (by decide) (by decide)
  unfold State.sramFailed State.sramRecord
  dsimp only
  split
  · exact counted.raise _ _
  · exact (((((counted.set (by decide) (by decide)).set (by decide) (by decide)).set (by decide) (by decide)).set (by decide) (by decide)).set
      (by decide) (by decide)).raise _ _

theorem protects_sramReported (s : State) (mac word master kind : Nat) : Protects recordKeys s (s.sramReported mac word master kind) :=
  (protects_sramFailed s mac word master kind).reportUE _ _ _ _

theorem sramFailed_counts (s : State) (mac word master kind : Nat) : Counts MPU_UE_CNT 0 1 s (s.sramFailed mac word master kind) := by
  have bump : Counts MPU_UE_CNT 0 1 s (s.bump blkMPU MPU_UE_CNT) := counts_bump s (by decide) (by decide) (by decide)
  refine bump.between rfl ?_
  unfold State.sramFailed State.sramRecord
  dsimp only
  rw [State.get_raise_ne _ _ _ _ _ _ (by decide)]
  split
  · rfl
  · iterate 5 rw [State.get_set_ne _ _ _ _ _ _ _ _ (by decide)]

theorem sramFailed_raises (s : State) (mac word master kind : Nat) : Raises 217 s (s.sramFailed mac word master kind) := by
  have counted : EventsKept s (s.bump blkMPU MPU_UE_CNT) := (EventsKept.refl s).bump (by decide) (by decide)
  refine (raises_raise _ 217 0 (by decide)).since ?_
  unfold State.sramRecord
  dsimp only
  split
  · exact counted
  · exact ((((counted.set (by decide)).set (by decide)).set (by decide)).set (by decide)).set (by decide)

/-- The first error since ERR_INFO was clear is recorded (Table 12.17). -/
theorem sramFailed_records {s : State} (clear : s.flag MPU_ERR_INFO_VALID = false) (hm : mac < 352) (hw : word < 32768) (hk : kind < 8) (master : Nat) :
    (s.sramFailed mac word master kind).get MPU_ERR_ADDR_MACRO = mac ∧ (s.sramFailed mac word master kind).get MPU_ERR_ADDR_WORD = word
      ∧ (s.sramFailed mac word master kind).get MPU_ERR_INFO_TYPE = kind ∧ (s.sramFailed mac word master kind).get MPU_ERR_INFO_VALID = 1 := by
  have valid : (s.bump blkMPU MPU_UE_CNT).flag MPU_ERR_INFO_VALID = false := by
    unfold State.flag at clear ⊢
    rwa [State.get_bump_ne s (by decide) (by decide) (by decide)]
  unfold State.sramFailed State.sramRecord
  simp only [valid, Bool.false_eq_true, if_false]
  refine ⟨?_, ?_, ?_, ?_⟩ <;> rw [State.get_raise_ne _ _ _ _ _ _ (by decide)]
  · iterate 4 rw [State.get_set_ne _ _ _ _ _ _ _ _ (by decide)]
    rw [State.get_set _ _ _ _ _ (by decide)]
    exact Nat.mod_eq_of_lt (by simp only [MPU_ERR_ADDR_MACRO]; omega)
  · iterate 3 rw [State.get_set_ne _ _ _ _ _ _ _ _ (by decide)]
    rw [State.get_set _ _ _ _ _ (by decide)]
    exact Nat.mod_eq_of_lt (by simp only [MPU_ERR_ADDR_WORD]; omega)
  · rw [State.get_set_ne _ _ _ _ _ _ _ _ (by decide), State.get_set _ _ _ _ _ (by decide)]
    exact Nat.mod_eq_of_lt (by simp only [MPU_ERR_INFO_TYPE]; omega)
  · exact State.get_set _ _ _ _ _ (by decide)

theorem State.sramReported_mm (s : State) (mac word master kind : Nat) : (s.sramReported mac word master kind).mm = s.mm := by
  unfold State.sramReported State.sramFailed State.sramRecord
  simp only [State.reportUE_mm, State.raise_mm]
  split <;> simp

theorem State.sramReported_fw (s : State) (mac word master kind : Nat) : (s.sramReported mac word master kind).fw = s.fw := by
  unfold State.sramReported State.sramFailed State.sramRecord
  simp only [State.reportUE_fw, State.raise_fw]
  split <;> simp

/-- What an uncorrectable word leaves for its reader: counted, raised, reported, recorded. -/
theorem sramReported_effect (s : State) (w : List SramWrite) (mac word master kind : Nat) :
    Counts MPU_UE_CNT 0 1 s ((s.sramWrites w).sramReported mac word master kind)
      ∧ Counts FCL_UE_CNT 0 1 s ((s.sramWrites w).sramReported mac word master kind)
      ∧ Raises 217 s ((s.sramWrites w).sramReported mac word master kind)
      ∧ Protects recordKeys s ((s.sramWrites w).sramReported mac word master kind) := by
  have report : Protects [] ((s.sramWrites w).sramFailed mac word master kind) ((s.sramWrites w).sramReported mac word master kind) :=
    (Protects.refl [] _).reportUE _ _ _ _
  have kept : EventsKept s (s.sramWrites w) := (protects_sramWrites (L := []) s w).2.2
  have fcl : ((s.sramWrites w).sramFailed mac word master kind).get FCL_UE_CNT = s.get FCL_UE_CNT := by
    unfold State.sramFailed State.sramRecord
    dsimp only
    rw [State.get_raise_ne _ _ _ _ _ _ (by decide)]
    have bump : ((s.sramWrites w).bump blkMPU MPU_UE_CNT).get FCL_UE_CNT = s.get FCL_UE_CNT :=
      (State.get_bump_ne _ (by decide) (by decide) (by decide)).trans (State.get_of_regs (s.sramWrites_regs w) _ _ _)
    split
    · exact bump
    · iterate 5 rw [State.get_set_ne _ _ _ _ _ _ _ _ (by decide)]
      exact bump
  exact ⟨(sramFailed_counts (s.sramWrites w) mac word master kind).of_sramWrites.between rfl (report.get (by decide)),
    (counts_reportUE _ _ _ _ _).between fcl rfl, ((sramFailed_raises _ mac word master kind).since kept).kept report.2.2,
    (protects_sramWrites s w).trans (protects_sramReported _ mac word master kind)⟩

-- the reader's reaction (Table 12.4)

/-- Where the word is not valid it reads as 0; otherwise its reader acts as `f` says (R349, R351). -/
theorem effect_sramUncorrectableWord {inHandler : Bool} {table : SramTable} {ctx : Option Nat} {P : State → Prop} {f : State → State} {occurs : Prop}
    (hk : 1 ≤ kind ∧ kind ≤ 5) (ho : occurs ↔ s.powered = true ∧ mac < 352 ∧ word < 32768 ∧ (kind = 3 → s.dmaHalted master = false))
    (valid : ((s.sramWrites w).mm.sram.look (sramKey mac word)).isSome = true)
    (hf : execSramUncorrectableWord mac word kind master inHandler table ctx w s =
      actWhen s (s.powered && mac < 352 && word < 32768 && 1 ≤ kind && kind ≤ 5 && !(kind == 3 && s.dmaHalted master)) fun s =>
        if ((s.sramWrites w).mm.sram.look (sramKey mac word)).isNone then (s.sramWrites w).put (.sramWord mac word 0) else f (s.sramWrites w))
    (h : mac < 352 → word < 32768 → P (s.after s.now (f (s.sramWrites w)))) :
    Effect (.sramUncorrectableWord mac word kind master inHandler table ctx w) s occurs P := by
  refine effect_actWhen (show exec _ s = _ from hf) (by simp [ho, hk.1, hk.2, and_assoc, imp_iff_not_or]) fun occurs => ?_
  obtain ⟨-, hm, hw, -⟩ := ho.1 occurs
  rw [if_neg (by simpa using Option.isSome_iff_ne_none.1 valid)]
  exact h hm hw

/-- A trap leaves the counts and the record of the error (R413). -/
theorem preciseTrap_keeps (s : State) (core cause addr : Nat) :
    Protects [MPU_TRAP_CNT.key 0 0, MPU_STATUS_SAT.key 0 0] s (s.preciseTrap core cause addr) :=
  (((Protects.refl _ s).mem _).bumpMpu (by decide) (by decide) (by decide)).raise _ _

theorem preciseTrap_traps (s : State) (core cause addr : Nat) :
    (s.preciseTrap core cause addr).mm = { s.mm with traps := s.mm.traps.put core (cause, addr) } ∧ (s.preciseTrap core cause addr).fw = s.fw
      ∧ Counts MPU_TRAP_CNT 0 1 s (s.preciseTrap core cause addr) ∧ Raises 218 s (s.preciseTrap core cause addr)
      ∧ (s.preciseTrap core cause addr).get FCL_UE_CNT = s.get FCL_UE_CNT := by
  have counted : EventsKept s ({ s with mm := { s.mm with traps := s.mm.traps.put core (cause, addr) } }.bump blkMPU MPU_TRAP_CNT) :=
    (EventsKept.of_eq rfl rfl).bump (by decide) (by decide)
  unfold State.preciseTrap
  refine ⟨by simp, by simp, ?_, (raises_raise _ 218 0 (by decide)).since counted, ?_⟩
  · exact (counts_bump { s with mm := { s.mm with traps := s.mm.traps.put core (cause, addr) } } (by decide) (by decide) (by decide)).between rfl
      (State.get_raise_ne _ _ _ _ _ _ (by decide))
  · rw [State.get_raise_ne _ _ _ _ _ _ (by decide), State.get_bump_ne _ (by decide) (by decide) (by decide)]
    exact State.get_of_regs rfl _ _ _

theorem row_sramUncorrectableWord (mac word kind master : Nat) (table : SramTable) (ctx : Option Nat) (w : List SramWrite) (s : State) :
    Rows.sramUncorrectableWord mac word kind master table ctx w s := by
  rintro ⟨hk, valid⟩
  refine effect_sramUncorrectableWord (f := fun s => (s.sramReported mac word master kind).preciseTrap (master - 1) (0x20 + kind) (word + mac * 2 ^ 15))
    (by omega) (by simp; omega) valid ?_ fun hm hw => ?_
  · unfold execSramUncorrectableWord State.sramReported State.sramFailed
    simp only [hk, if_true, Bool.false_eq_true, if_false]
  obtain ⟨ue, fcl, raises, protects⟩ := sramReported_effect s w mac word master kind
  obtain ⟨m, hmm⟩ := s.sramWrites_mm w
  have fw : ((s.sramWrites w).sramReported mac word master kind).fw = s.fw := by
    rw [State.sramReported_fw]
    obtain ⟨m, e⟩ := s.sramWrites_eq w
    rw [e]
  have mm := (s.sramWrites w).sramReported_mm mac word master kind
  have record (clear : s.flag MPU_ERR_INFO_VALID = false) := sramFailed_records (s := s.sramWrites w) (kind := kind)
    (by unfold State.flag at clear ⊢; rwa [State.get_of_regs (s.sramWrites_regs w)]) hm hw (by omega) master
  have report : Protects [] ((s.sramWrites w).sramFailed mac word master kind) ((s.sramWrites w).sramReported mac word master kind) :=
    (Protects.refl [] _).reportUE _ _ _ _
  generalize (s.sramWrites w).sramReported mac word master kind = u at *
  have trap := preciseTrap_keeps u (master - 1) (0x20 + kind) (word + mac * 2 ^ 15)
  obtain ⟨traps, tfw, counts, traises, tfcl⟩ := preciseTrap_traps u (master - 1) (0x20 + kind) (word + mac * 2 ^ 15)
  obtain ⟨host, media, power⟩ := ((protects.mono (M := mpuKeys) (by decide)).trans (trap.mono (by decide))).keeps_after s s.now
  generalize u.preciseTrap (master - 1) (0x20 + kind) (word + mac * 2 ^ 15) = v at *
  refine ⟨?_, ?_, Counts.after_memory ?_ (by decide) _ _, Counts.after_memory ?_ (by decide) _ _, (raises.kept trap.2.2).after,
    (traises.since protects.2.2).after, Counts.after_memory ?_ (by decide) _ _, fun clear => ?_, host, media, power, ?_⟩
  · rw [State.after_mm, traps, mm, hmm]
  · rw [State.after_mm, traps, mm, hmm]
  · exact ue.between rfl (trap.get (by decide))
  · exact counts.between (protects.get (by decide)) rfl
  · exact fcl.between rfl tfcl
  · obtain ⟨macroRead, wordRead, type, valid'⟩ := record clear
    have all {f : Field} (hf : f.key 0 0 < 8 * reportBase ∧ ¬ RowTable (f.key 0 0) ∧ f.key 0 0 ∉ [MPU_TRAP_CNT.key 0 0, MPU_STATUS_SAT.key 0 0])
        (ha : rDMC_CTRL.addr ≤ f.reg.addr) : (s.after s.now v).get f = ((s.sramWrites w).sramFailed mac word master kind).get f :=
      (get_after_memory _ _ _ ha _ _).trans ((trap.get hf).trans (report.get ⟨hf.1, hf.2.1, List.not_mem_nil⟩))
    rw [all (by decide) (by decide), all (by decide) (by decide), all (by decide) (by decide), all (by decide) (by decide)]
    exact ⟨macroRead, wordRead, type, valid'⟩
  · rw [State.after_fw, tfw, fw]

/-- Where the halt of a DMA channel is shown, and that it is shown there alone. -/
theorem haltedKey_apart : ∀ i < 8, MPU_DMA_HALTED.reg.has i 0 = true ∧ MPU_DMA_HALTED.key i 0 < 8 * reportBase
    ∧ ¬ RowTable (MPU_DMA_HALTED.key i 0) ∧ MPU_DMA_HALTED.key i 0 ∉ recordKeys
    ∧ MPU_DMA_HALTED.key i 0 ∉ [MPU_HALT_CNT.key 0 0, MPU_STATUS_SAT.key 0 0] ∧ MPU_DMA_HALTED.key i 0 ≠ FCL_UE_CNT.key 0 0 := by decide

/-- The registers that a DMA channel's halt reaches (R352). -/
def haltKeys (m : Nat) : List Nat := [MPU_DMA_HALTED.key (m / 32) 0, MPU_HALT_CNT.key 0 0, MPU_STATUS_SAT.key 0 0]

theorem haltDma_keeps (s : State) {m : Nat} (hm : m < 256) : Protects (haltKeys m) s (s.haltDma m) := by
  obtain ⟨-, below, -⟩ := haltedKey_apart (m / 32) (by omega)
  exact (((Protects.refl _ s).set (by simp [haltKeys]) (below.trans (by decide))).bumpMpu (by simp [haltKeys]) (by simp [haltKeys])
    (by decide)).raise _ _

theorem haltDma_halts (s : State) {m : Nat} (hm : m < 256) :
    (s.haltDma m).dmaHalted m = true ∧ Counts MPU_HALT_CNT 0 1 s (s.haltDma m) ∧ Raises 219 s (s.haltDma m) ∧ (s.haltDma m).mm = s.mm
      ∧ (s.haltDma m).fw = s.fw := by
  obtain ⟨has, below, -, -, apart, -⟩ := haltedKey_apart (m / 32) (by omega)
  simp only [List.mem_cons, List.not_mem_nil, or_false, not_or] at apart
  have pend : MPU_DMA_HALTED.key (m / 32) 0 < 8 * rEVR_PEND.addr := below.trans (by decide)
  have apartPend : EVR_PEND.key (219 / 32) 0 ≠ MPU_DMA_HALTED.key (m / 32) 0 := Nat.ne_of_gt (pend.trans_le (pend_key_ge _))
  have value : setBit (s.get MPU_DMA_HALTED (m / 32)) (m % 32) < 2 ^ MPU_DMA_HALTED.width :=
    setBit_lt _ _ _ (State.get_lt _ _ _ _) (by simp only [MPU_DMA_HALTED]; omega)
  unfold State.haltDma
  refine ⟨?_, ?_, (raises_raise _ 219 0 (by decide)).since (((EventsKept.refl s).set pend).bump (by decide) (by decide)), by simp, by simp⟩
  · unfold State.dmaHalted
    rw [State.get_raise_ne _ _ _ _ _ _ apartPend, State.get_bump_ne _ (Ne.symm apart.1) (Ne.symm apart.2)
      (Nat.ne_of_gt (pend.trans_le (pend_key_ge _))), State.get_set _ _ _ _ _ has, Nat.mod_eq_of_lt value, bit_setBit]
    simp
  · exact (counts_bump _ (by decide) (by decide) (by decide)).between (State.get_set_ne _ _ _ _ _ _ _ _ apart.1)
      (State.get_raise_ne _ _ _ _ _ _ (by decide))

theorem State.sramWrites_fw (s : State) (w : List SramWrite) : (s.sramWrites w).fw = s.fw := by
  obtain ⟨m, e⟩ := s.sramWrites_eq w
  rw [e]

theorem row_sramUncorrectableWord_dma (mac word master : Nat) (inHandler : Bool) (table : SramTable) (w : List SramWrite) (s : State) :
    Rows.sramUncorrectableWord_dma mac word master inHandler table w s := by
  rintro ⟨hmaster, valid⟩
  refine effect_sramUncorrectableWord (f := fun s => (s.sramReported mac word master 3).haltDma master) (by omega) (by simp) valid ?_ fun hm hw => ?_
  · unfold execSramUncorrectableWord State.sramReported State.sramFailed State.dmaFailed
    simp
  obtain ⟨ue, -, raises, protects⟩ := sramReported_effect s w mac word master 3
  have mm := (s.sramWrites w).sramReported_mm mac word master 3
  have fw := ((s.sramWrites w).sramReported_fw mac word master 3).trans (s.sramWrites_fw w)
  generalize (s.sramWrites w).sramReported mac word master 3 = u at *
  have halt := haltDma_keeps u hmaster
  obtain ⟨halted, counts, hraises, hmm, hfw⟩ := haltDma_halts u hmaster
  obtain ⟨host, media, power⟩ := ((protects.mono (M := recordKeys ++ haltKeys master) fun _ h => List.mem_append_left _ h).trans
    (halt.mono fun _ h => List.mem_append_right _ h)).keeps_after s s.now
  obtain ⟨-, -, -, apart, -⟩ := haltedKey_apart (master / 32) (by omega)
  have ueKey : MPU_UE_CNT.key 0 0 ∉ haltKeys master := by
    intro h
    simp only [haltKeys, List.mem_cons, List.not_mem_nil, or_false] at h
    rcases h with h | h
    · exact apart (h ▸ by decide)
    · exact absurd h (by decide)
  generalize u.haltDma master = v at *
  refine ⟨?_, (ue.between rfl (halt.get ⟨by decide, by decide, ueKey⟩)).after_memory (by decide) _ _, Counts.after_memory ?_ (by decide) _ _,
    (raises.kept halt.2.2).after, (hraises.since protects.2.2).after, ?_, host, media, power, ?_⟩
  · unfold State.dmaHalted at halted ⊢
    rwa [get_after_memory _ _ _ (by decide)]
  · exact counts.between (protects.get (by decide)) rfl
  · rw [State.after_mm, hmm, mm]
  · rw [State.after_fw, hfw, fw]

-- tables

/-- A scrub counts the words that it could not correct. -/
def State.scrubFailed (s : State) (kind : Nat) : State :=
  { s with mm := { s.mm with scrub := s.mm.scrub.map fun r => if kind = 5 then { r with bad := r.bad + 1 } else r } }

theorem State.scrubFailed_read (s : State) : s.scrubFailed 4 = s := by simp [State.scrubFailed]

theorem State.scrubFailed_scrub (s : State) :
    s.scrubFailed 5 = { s with mm := { s.mm with scrub := s.mm.scrub.map fun r => { r with bad := r.bad + 1 } } } := rfl

theorem mem_insSorted (k : Nat) (l : List Nat) : k ∈ insSorted k l := by
  induction l with
  | nil => simp [insSorted]
  | cons a t ih =>
    unfold insSorted
    split
    · exact List.mem_cons_self
    · split
      · simp_all
      · exact List.mem_cons_of_mem a ih

/-- The rule of the table's own chapter (Table 12.4). -/
def State.tableFailed (s : State) : SramTable → State
  | .shadow i => s.shadowLost i
  | .link i => s.badLinkWord i
  | _ => s

theorem State.tableFailed_keeps (s : State) (table : SramTable) :
    (s.tableFailed table).regs = s.regs ∧ (s.tableFailed table).ev = s.ev ∧ (s.tableFailed table).mm = s.mm ∧ (s.tableFailed table).fw = s.fw
      ∧ (s.tableFailed table).zn = s.zn ∧ (s.tableFailed table).wc = s.wc ∧ (s.tableFailed table).fl = s.fl ∧ (s.tableFailed table).xl = s.xl
      ∧ KeepsHost s (s.tableFailed table) ∧ KeepsPower s (s.tableFailed table) := by
  cases table <;> simp only [State.tableFailed, State.shadowLost, State.badLinkWord]
  case link i => split <;> simp [KeepsHost, KeepsPower]
  all_goals simp [KeepsHost, KeepsPower]

theorem State.tableFailed_tables (s : State) {table : SramTable} {i : Nat} (ht : table = .data ∨ table = .shadow i ∨ table = .link i) :
    (table = .shadow i → i ∈ (s.tableFailed table).wpt.shadowBad)
      ∧ (table = .link i → s.pool.desc.has (bufKey 0 i) = false → (s.tableFailed table).pool.links.look (bufKey 0 i) = some 0)
      ∧ (table ≠ .shadow i → (s.tableFailed table).wpt = s.wpt) ∧ (table ≠ .link i → (s.tableFailed table).pool = s.pool) := by
  rcases ht with rfl | rfl | rfl <;> simp only [State.tableFailed, State.shadowLost, State.badLinkWord]
  · simp
  · simp [mem_insSorted]
  · refine ⟨by simp, fun _ free => by simp [free], fun _ => ?_, by simp⟩
    split <;> rfl

theorem row_sramUncorrectableWord_table (mac word kind master i : Nat) (inHandler : Bool) (table : SramTable) (ctx : Option Nat) (w : List SramWrite)
    (s : State) : Rows.sramUncorrectableWord_table mac word kind master i inHandler table ctx w s := by
  rintro ⟨hk, ht, valid⟩
  refine effect_sramUncorrectableWord (f := fun s => ((((s.sramFailed mac word master kind).scrubFailed kind).reportUE (word + mac * 2 ^ 15) master kind
    1)).tableFailed table) (by omega) (by simp; omega) valid ?_ fun _ _ => ?_
  · unfold execSramUncorrectableWord State.sramFailed
    rcases hk with rfl | rfl
    · simp only [State.scrubFailed_read]
      rcases ht with rfl | rfl | rfl <;> simp [State.tableFailed]
    · simp only [State.scrubFailed_scrub]
      rcases ht with rfl | rfl | rfl <;> simp [State.tableFailed]
  have failed := sramFailed_counts (s.sramWrites w) mac word master kind
  have raised := sramFailed_raises (s.sramWrites w) mac word master kind
  have protects := (protects_sramWrites s w).trans (protects_sramFailed (s.sramWrites w) mac word master kind)
  have writes := (protects_sramWrites (L := []) s w).2.2
  obtain ⟨m, hm⟩ := s.sramWrites_mm w
  have mm : ((s.sramWrites w).sramFailed mac word master kind).mm = { s.mm with sram := m } := by
    rw [← hm]
    exact (State.reportUE_mm _ _ _ _ _).symm.trans (State.sramReported_mm _ mac word master kind)
  have fw : ((s.sramWrites w).sramFailed mac word master kind).fw = s.fw := by
    rw [← s.sramWrites_fw w]
    exact (State.reportUE_fw _ _ _ _ _).symm.trans (State.sramReported_fw _ mac word master kind)
  generalize (s.sramWrites w).sramFailed mac word master kind = u at *
  have scrubbed : Protects [] u ((u.scrubFailed kind).reportUE (word + mac * 2 ^ 15) master kind 1) :=
    ((Protects.refl [] u).mem _).reportUE _ _ _ _
  have scrub : ((u.scrubFailed kind).reportUE (word + mac * 2 ^ 15) master kind 1).mm.scrub =
        s.mm.scrub.map (fun r => if kind = 5 then { r with bad := r.bad + 1 } else r)
      ∧ ((u.scrubFailed kind).reportUE (word + mac * 2 ^ 15) master kind 1).mm.traps = s.mm.traps := by
    simp [State.scrubFailed, mm]
  have fw' : ((u.scrubFailed kind).reportUE (word + mac * 2 ^ 15) master kind 1).fw = s.fw := by simp [State.scrubFailed, fw]
  have ue := (failed.between (State.get_of_regs (s.sramWrites_regs w) _ _ _) rfl).between rfl (scrubbed.get (f := MPU_UE_CNT) (by decide))
  have raises := (raised.since writes).kept scrubbed.2.2
  obtain ⟨host, media, power⟩ := (protects.trans (scrubbed.mono (by decide))).1.keeps
  generalize (u.scrubFailed kind).reportUE (word + mac * 2 ^ 15) master kind 1 = v at *
  obtain ⟨regs, ev, vmm, vfw, zn, wc, fl, xl, vhost, vpower⟩ := v.tableFailed_keeps table
  obtain ⟨hzn, hwpt, hwc, hpool, hfl, -, -, hxl⟩ := media
  obtain ⟨shadow, link, wpt, pool⟩ := v.tableFailed_tables ht
  have keepsPower : KeepsPower s (v.tableFailed table) := ⟨vpower.1.trans power.1, vpower.2.1.trans power.2.1, vpower.2.2.trans power.2.2⟩
  refine ⟨(ue.of_regs regs).after_memory (by decide) _ _, (raises.kept (.of_eq regs (by rw [ev]))).after, ?_, ?_, ?_, ?_, ?_, ?_,
    (host.trans vhost).after _ _, ?_, ?_, ?_, ?_, keepsPower.after _ _, ?_⟩
  all_goals simp only [State.after_wpt, State.after_pool, State.after_mm, State.after_zn, State.after_wc, State.after_fl, State.after_xl, State.after_fw]
  · exact shadow
  · rwa [hpool] at link
  · exact fun h => (wpt h).trans hwpt
  · exact fun h => (pool h).trans hpool
  · rw [vmm, scrub.1]
  · rw [vmm, scrub.2]
  · rw [zn, hzn]
  · rw [wc, hwc]
  · rw [fl, hfl]
  · rw [xl, hxl]
  · rw [vfw, fw']

theorem row_sramUncorrectableWord_invalid (mac word kind master : Nat) (inHandler : Bool) (table : SramTable) (ctx : Option Nat) (w : List SramWrite)
    (s : State) : Rows.sramUncorrectableWord_invalid mac word kind master inHandler table ctx w s := by
  intro invalid
  refine effect_actWhen (b := s.powered && mac < 352 && word < 32768 && 1 ≤ kind && kind ≤ 5 && !(kind == 3 && s.dmaHalted master))
    (f := fun s => (s.sramWrites w).put (.sramWord mac word 0)) ?_ (by simp [and_assoc, imp_iff_not_or]) fun _ => readInvalid s s s.now
  show execSramUncorrectableWord mac word kind master inHandler table ctx w s = _
  unfold execSramUncorrectableWord actWhen act actTo
  simp [invalid]

end Sys2Proof.Machine
end

section
/-!
SUPPORT. The DRAM channels (R329 to R344): the counters of a channel, the service of its queues, its candidates for repair and its bursts read with
errors; what each reaches.
-/

namespace Sys2Proof.Machine

variable {L : List Nat} {s t u : State} {d : Nat} {f : Field}

-- counters

/-- The registers that a count of a channel reaches (R355). -/
def countKeys (f : Field) (d : Nat) : List Nat := [f.key d 0, DMC_STATUS_SAT.key 0 0, DMC_EVT_SAT.key d 0]

theorem dmcCounters_layout : ∀ d < 4, ∀ f ∈ dmcCounters, f.reg.has d 0 = true ∧ f.key d 0 < 8 * reportBase ∧ ¬ RowTable (f.key d 0)
    ∧ f.key d 0 ≠ DMC_STATUS_SAT.key 0 0 ∧ f.key d 0 ≠ DMC_EVT_SAT.key d 0 ∧ DMC_EVT_SAT.key d 0 < 8 * reportBase := by decide

theorem below_pend {k : Nat} (h : k < 8 * reportBase) : k < 8 * rEVR_PEND.addr := h.trans (by decide)

theorem protects_bumpDmc (hd : d < 4) (hf : f ∈ dmcCounters) (s : State) (n : Nat) : Protects (countKeys f d) s (s.bumpDmc f d n) := by
  obtain ⟨-, below, -, -, -, sat⟩ := dmcCounters_layout d hd f hf
  have counted (v : Nat) : Protects (countKeys f d) s (s.set f v d) := (Protects.refl _ s).set (by simp [countKeys]) (below_pend below)
  unfold State.bumpDmc
  dsimp only
  split
  · split
    · exact counted _
    · exact (((counted _).raiseOnce _ _ _).set (by simp [countKeys]) (by decide)).set (by simp [countKeys]) (below_pend sat)
  · exact counted _

theorem counts_bumpDmc (hd : d < 4) (hf : f ∈ dmcCounters) (s : State) (n : Nat) : Counts f d n s (s.bumpDmc f d n) := by
  obtain ⟨has, below, -, apart, apart', -⟩ := dmcCounters_layout d hd f hf
  have positive := Nat.two_pow_pos f.width
  unfold Counts State.bumpDmc
  dsimp only
  split
  · split
    · rw [State.get_set _ _ _ _ _ has, Nat.mod_eq_of_lt (by omega)]
      omega
    · rw [State.get_set_ne _ _ _ _ _ _ _ _ apart'.symm, State.get_set_ne _ _ _ _ _ _ _ _ apart.symm, State.get_raiseOnce_ne _ _ _ _ (below_pend below),
        State.get_set _ _ _ _ _ has, Nat.mod_eq_of_lt (by omega)]
      omega
  · rw [State.get_set _ _ _ _ _ has, Nat.mod_eq_of_lt (by omega)]
    omega

theorem State.bumpDmc_mm (s : State) (f : Field) (d n : Nat) : (s.bumpDmc f d n).mm = s.mm := by
  unfold State.bumpDmc
  dsimp only
  split
  · split <;> simp
  · simp

theorem State.bumpDmc_fw (s : State) (f : Field) (d n : Nat) : (s.bumpDmc f d n).fw = s.fw := by
  unfold State.bumpDmc
  dsimp only
  split
  · split <;> simp
  · simp

-- what an operation on one channel leaves of the memories

/-- Of the memories only channel `d` has changed. -/
def ChanOnly (d : Nat) (s t : State) : Prop := OtherChans d s t ∧ { t.mm with chans := s.mm.chans } = s.mm

theorem ChanOnly.of_mm (h : t.mm = s.mm) : ChanOnly d s t := ⟨fun k _ => by unfold State.dchan; rw [h], by rw [h]⟩

theorem ChanOnly.trans (h : ChanOnly d s t) (g : ChanOnly d t u) : ChanOnly d s u := by
  refine ⟨fun k hk => (g.1 k hk).trans (h.1 k hk), ?_⟩
  have := congrArg (fun m : MemState => { m with chans := s.mm.chans }) g.2
  exact this.trans h.2

theorem chanOnly_modDchan (s : State) (d : Nat) (g : DChan → DChan) : ChanOnly d s (s.modDchan d g) :=
  ⟨fun k hk => State.modDchan_dchan_ne s d k g (Ne.symm hk), rfl⟩

-- the service of a channel

/-- The candidates, the rows repaired and the row being repaired are those of before. -/
def DChan.KeepsRepairs (c c' : DChan) : Prop := c'.cands = c.cands ∧ c'.soft = c.soft ∧ c'.repairing = c.repairing

theorem DChan.KeepsRepairs.trans {c c' c'' : DChan} (h : c.KeepsRepairs c') (g : c'.KeepsRepairs c'') : c.KeepsRepairs c'' :=
  ⟨g.1.trans h.1, g.2.1.trans h.2.1, g.2.2.trans h.2.2⟩

/-- The bus of a channel has been served: nothing but that channel's queues, rows and poisoned bursts, its count of RFM commands, the event router and
what is put out has changed. -/
def Serves (d : Nat) (s t : State) : Prop :=
  Protects (countKeys DMC_RFM_CNT d) s t ∧ ChanOnly d s t ∧ t.fw = s.fw ∧ (s.dchan d).KeepsRepairs (t.dchan d)

theorem Serves.refl (d : Nat) (s : State) : Serves d s s := ⟨.refl _ s, .of_mm rfl, rfl, rfl, rfl, rfl⟩

theorem Serves.trans (h : Serves d s t) (g : Serves d t u) : Serves d s u := by
  obtain ⟨hp, hc, hf, hr⟩ := h
  obtain ⟨gp, gc, gf, gr⟩ := g
  exact ⟨hp.trans gp, hc.trans gc, gf.trans hf, hr.trans gr⟩

theorem serves_modDchan (s : State) {g : DChan → DChan} (h : (s.dchan d).KeepsRepairs (g (s.dchan d))) : Serves d s (s.modDchan d g) :=
  ⟨(Protects.refl _ s).modDchan d g, chanOnly_modDchan s d g, rfl, by rwa [State.modDchan_dchan]⟩

theorem DChan.keepsRepairs_activate (c : DChan) (row th now : Nat) : c.KeepsRepairs (c.activate row th now).2 := by
  unfold DChan.activate
  extract_lets
  split
  split <;> exact ⟨rfl, rfl, rfl⟩

theorem DChan.keepsRepairs_letIn (g : Gate) (n : Nat) (c : DChan) : c.KeepsRepairs (DChan.letIn g n c) := by
  induction n generalizing c with
  | zero => exact ⟨rfl, rfl, rfl⟩
  | succ n ih =>
    unfold DChan.letIn
    split
    · exact ⟨rfl, rfl, rfl⟩
    · extract_lets taken paid admitted
      have hpaid : c.KeepsRepairs paid := by
        dsimp only [paid]
        split <;> exact ⟨rfl, rfl, rfl⟩
      refine (hpaid.trans ?_).trans (ih admitted)
      dsimp only [admitted]
      split
      · exact ⟨rfl, rfl, rfl⟩
      · split <;> exact ⟨rfl, rfl, rfl⟩

/-- The row of a request is opened, or hit. -/
def State.openRow (s : State) (d : Nat) (q : DReq) (c : DChan) : Bool × DChan :=
  let row := dramRow (s.pop d) q.req.addr
  match c.rowOpen.look (bankOf row) with
  | some (r, h) => if r = row then (false, { c with rowOpen := c.rowOpen.put (bankOf row) (row, h + 1) }) else c.activate row (s.get DMC_RH_CFG_TH) s.now
  | none => c.activate row (s.get DMC_RH_CFG_TH) s.now

theorem State.keepsRepairs_openRow (s : State) (d : Nat) (q : DReq) (c : DChan) : c.KeepsRepairs (s.openRow d q c).2 := by
  unfold State.openRow
  dsimp only
  split
  · split
    · exact ⟨rfl, rfl, rfl⟩
    · exact c.keepsRepairs_activate _ _ _
  · exact c.keepsRepairs_activate _ _ _

/-- A request leaves its queue for the bus, or, a write of whole bursts, for the components. -/
def DChan.sent (c : DChan) (q : DReq) : DChan :=
  let c := { c with reads := c.reads.filter (·.id != q.id), writes := c.writes.filter (·.id != q.id) }
  if q.req.write then
    if dreqPartial q.req then { c with issued := c.issued ++ [q] }
    else { c with poison := c.poison.filter fun a => !(decide (q.req.addr ≤ a) && decide (a < q.req.addr + q.req.len)) }
  else { c with issued := c.issued ++ [q] }

theorem DChan.keepsRepairs_sent (c : DChan) (q : DReq) : c.KeepsRepairs (c.sent q) := by
  unfold DChan.sent
  dsimp only
  split
  · split <;> exact ⟨rfl, rfl, rfl⟩
  · exact ⟨rfl, rfl, rfl⟩

/-- A channel that notes the command in its replay window. -/
def State.noted (s : State) (d : Nat) (q : DReq) : DChan :=
  { s.dchan d with recent := ((s.dchan d).recent.filter fun e : Nat × DReq => decide (s.now - s.replayNs d ≤ e.1)) ++ [(s.now, q)] }

theorem State.dramIssue_eq (s : State) (d : Nat) (q : DReq) :
    s.dramIssue d q =
      if (s.openRow d q (s.noted d q)).1 then (s.modDchan d fun _ => (s.openRow d q (s.noted d q)).2.sent q).bumpDmc DMC_RFM_CNT d
      else s.modDchan d fun _ => (s.openRow d q (s.noted d q)).2.sent q := rfl

theorem serves_dramIssue (hd : d < 4) (s : State) (q : DReq) : Serves d s (s.dramIssue d q) := by
  have moved : Serves d s (s.modDchan d fun _ => (s.openRow d q (s.noted d q)).2.sent q) :=
    serves_modDchan s ((DChan.KeepsRepairs.trans (c' := s.noted d q) ⟨rfl, rfl, rfl⟩ (s.keepsRepairs_openRow d q _)).trans
      (DChan.keepsRepairs_sent _ q))
  rw [State.dramIssue_eq]
  split
  · refine moved.trans ⟨protects_bumpDmc hd (by decide) _ 1, .of_mm (State.bumpDmc_mm _ _ _ _), State.bumpDmc_fw _ _ _ _, ?_⟩
    rw [State.dchan_of_mm (State.bumpDmc_mm _ _ _ _)]
    exact ⟨rfl, rfl, rfl⟩
  · exact moved

theorem serves_drain (hd : d < 4) (limit n : Nat) (s : State) : Serves d s (State.drain d limit n s) := by
  induction n generalizing s with
  | zero => exact .refl d s
  | succ n ih =>
    unfold State.drain
    split
    · split
      · exact (serves_dramIssue hd s _).trans (ih _)
      · exact .refl d s
    · exact .refl d s

theorem serves_dramDrain (hd : d < 4) (s : State) : Serves d s (s.dramDrain d) := by
  unfold State.dramDrain
  dsimp only
  split
  · exact .refl d s
  · split
    · exact serves_drain hd _ _ s
    · exact .refl d s

theorem serves_dramRead (hd : d < 4) (s : State) : Serves d s (s.dramRead d) := by
  unfold State.dramRead
  split
  · exact .refl d s
  · split
    · exact serves_dramIssue hd s _
    · exact .refl d s

theorem serves_dramFill (hd : d < 4) (n : Nat) (s : State) : Serves d s (State.dramFill d n s) := by
  induction n generalizing s with
  | zero => exact .refl d s
  | succ n ih =>
    have admitted : Serves d s ((s.modDchan d fun c => DChan.letIn (s.gate d) c.waiting.length c).dramDrain d) :=
      (serves_modDchan s (DChan.keepsRepairs_letIn _ _ _)).trans (serves_dramDrain hd _)
    unfold State.dramFill
    dsimp only
    split
    · exact admitted
    · exact admitted.trans (ih _)

theorem serves_put (s : State) (o : Out) : Serves d s (s.put o) :=
  ⟨(Protects.refl _ s).put o, .of_mm (State.put_mm s o), State.put_fw s o, by rw [State.dchan_of_mm (State.put_mm s o)]; exact ⟨rfl, rfl, rfl⟩⟩

theorem serves_dramFences (s : State) : Serves d s (s.dramFences d) := by
  unfold State.dramFences
  exact (serves_modDchan s (by exact ⟨rfl, rfl, rfl⟩)).trans (State.each_rel (.refl d) .trans (fun _ s => serves_put s _) _ _)

theorem serves_dramService (hd : d < 4) (s : State) : Serves d s (s.dramService d) :=
  ((serves_dramFill hd _ s).trans (serves_dramRead hd _)).trans (serves_dramFences _)

end Sys2Proof.Machine
end

section
/-!
SUPPORT. DMA channels that go on, and the SRAM scrub from its start to its end (R352, R354).
-/

namespace Sys2Proof.Machine

variable {s t u : State}

theorem bit_clrBit_same (v b : Nat) : bit (clrBit v b) b = false := by
  unfold clrBit
  split
  · rename_i h
    rw [bit_eq_testBit, Nat.testBit_eq_decide_div_mod_eq, decide_eq_true_eq] at h
    have hd : (v - 2 ^ b) / 2 ^ b = v / 2 ^ b - 1 := by
      simpa using Nat.sub_mul_div v (2 ^ b) 1
    rw [bit_eq_testBit, Nat.testBit_eq_decide_div_mod_eq, hd]
    have : (v / 2 ^ b - 1) % 2 = 0 := by omega
    simp [this]
  · simp_all

theorem clrBit_le (v b : Nat) : clrBit v b ≤ v := by
  unfold clrBit
  split
  · exact Nat.sub_le _ _
  · exact Nat.le_refl v

/-- The case that a write of undefined bits leaves (R448). -/
def undefinedCase (b : Bool) (u : Unbound) : List Unbound := if b then [u] else []

theorem State.when_unbind (bound : Bound s) (b : Bool) (u : Unbound) :
    (s.when b fun s => s.unbind u) = { s with unbound := undefinedCase b u } := by
  have empty : s.unbound = [] := bound
  cases b
  · simp [State.when, undefinedCase, ← empty]
  · simp [State.when, undefinedCase, State.unbind, empty]

/-- The service of all channels at which requests wait reaches counts of RFM commands alone. -/
theorem protects_serveDram (s : State) : Protects ((List.range 4).flatMap (countKeys DMC_RFM_CNT)) s s.serveDram := by
  have serve (d : Nat) (hd : d < 4) (s : State) : Protects ((List.range 4).flatMap (countKeys DMC_RFM_CNT)) s
      (if (s.dchan d).waiting.isEmpty ∨ !s.chLive d ∨ s.flag DMC_CH_STAT_SREF d then s else s.dramService d) := by
    split
    · exact .refl _ s
    · exact (serves_dramService hd s).1.mono fun k hk => List.mem_flatMap.2 ⟨d, List.mem_range.2 hd, hk⟩
  exact (((serve 0 (by decide) s).trans (serve 1 (by decide) _)).trans (serve 2 (by decide) _)).trans (serve 3 (by decide) _)

theorem haltedKey_unserved : ∀ i < 8, MPU_DMA_HALTED.key i 0 ∉ (List.range 4).flatMap (countKeys DMC_RFM_CNT) := by decide

theorem row_mpuDmaRearm (value : Nat) (s : State) : Rows.mpuDmaRearm value s := by
  intro bound
  refine effect_actWhen (c := .mpuDmaRearm value) (b := s.powered) (f := fun s => State.serveDram
    ((s.when (decide (256 ≤ value % 2 ^ 32)) fun s => s.unbind (.wo (rMPU_DMA_REARM.at 0 0))).set MPU_DMA_HALTED
      (clrBit ((s.when (decide (256 ≤ value % 2 ^ 32)) fun s => s.unbind (.wo (rMPU_DMA_REARM.at 0 0))).get MPU_DMA_HALTED (value % 256 / 32))
        (value % 256 % 32)) (value % 256 / 32))) rfl Iff.rfl (fun _ => ?_) bound
  rw [State.when_unbind bound]
  obtain ⟨has, below, rows, -⟩ := haltedKey_apart (value % 256 / 32) (by omega)
  generalize hv : ({ s with unbound := undefinedCase (decide (256 ≤ value % 2 ^ 32)) (.wo (rMPU_DMA_REARM.at 0 0)) } : State) = v
  have written : clrBit (v.get MPU_DMA_HALTED (value % 256 / 32)) (value % 256 % 32) < 2 ^ MPU_DMA_HALTED.width := by
    exact lt_of_le_of_lt (clrBit_le _ _) (State.get_lt v MPU_DMA_HALTED (value % 256 / 32) 0)
  have cleared : (v.set MPU_DMA_HALTED (clrBit (v.get MPU_DMA_HALTED (value % 256 / 32)) (value % 256 % 32)) (value % 256 / 32)).dmaHalted (value % 256)
      = false := by
    unfold State.dmaHalted
    rw [State.get_set _ _ _ _ _ has, Nat.mod_eq_of_lt written, bit_clrBit_same]
  have served := protects_serveDram
    (v.set MPU_DMA_HALTED (clrBit (v.get MPU_DMA_HALTED (value % 256 / 32)) (value % 256 % 32)) (value % 256 / 32))
  obtain ⟨-, -, -, -, -, unbound, -⟩ := served.1.units
  refine ⟨?_, ?_, fun idle => ?_⟩
  · unfold State.dmaHalted at cleared ⊢
    rwa [get_after_memory _ _ _ (by decide), served.get ⟨below, rows, haltedKey_unserved _ (by omega)⟩]
  · rw [State.after_unbound, unbound, State.set_unbound, ← hv]
    simp [undefinedCase]
  · have idle' : ∀ d < 4, ((v.set MPU_DMA_HALTED (clrBit (v.get MPU_DMA_HALTED (value % 256 / 32)) (value % 256 % 32)) (value % 256 / 32)).dchan d).waiting
        = [] := by
      intro d hd
      rw [State.dchan_of_mm (State.set_mm _ _ _ _ _), ← hv]
      exact idle d hd
    rw [State.serveDram_idle idle']
    refine ⟨OnlyRegs.after ?_, KeepsAll.after ?_ _ _⟩
    · rw [← hv]
      exact onlyRegs_set _ _ _ _ _
    · simp [KeepsAll, KeepsHost, KeepsMedia, KeepsPower, KeepsService, KeepsFaults, ← hv]

-- the SRAM scrub

/-- The scrub that a write of MPU.SCRUB_CMD asks for. -/
def scrubAsked (value since : Nat) : SScrub :=
  { first := (scrubMacros value).1, last := (scrubMacros value).2, corrected := 0, bad := 0, since := since, ticket := none }

theorem State.askSramScrub_starts {r : SScrub} (idle : s.mm.scrub = none) (ticket : r.ticket = none) :
    s.askSramScrub r = { s with mm := { s.mm with scrub := some { r with since := s.now } } }.set MPU_STATUS_SCRUB_BUSY 1 := by
  simp [State.askSramScrub, idle, State.sramScrubStart, State.ticketRun, ticket]

theorem State.askSramScrub_queues {r : SScrub} (busy : s.mm.scrub ≠ none) (room : s.mm.scrubQ = none) :
    s.askSramScrub r = { s with mm := { s.mm with scrubQ := some r } }.set MPU_STATUS_SCRUB_Q 1 := by
  simp [State.askSramScrub, Option.isNone_iff_eq_none, busy, room]

theorem State.askSramScrub_rejects {r : SScrub} (busy : s.mm.scrub ≠ none) (full : s.mm.scrubQ ≠ none) :
    s.askSramScrub r = s.set MPU_STATUS_REJ 1 := by
  simp [State.askSramScrub, Option.isNone_iff_eq_none, busy, full]

/-- A request for a scrub changes no memory but the scrubs, and beside them registers alone. -/
theorem State.askSramScrub_keeps {r : SScrub} (ticket : r.ticket = none) (s : State) :
    ∃ q q' regs, s.askSramScrub r = { s with mm := { s.mm with scrub := q, scrubQ := q' }, regs := regs } := by
  have set (s : State) (f : Field) (v : Nat) : s.set f v = { s with regs := (s.set f v).regs } := by
    unfold State.set
    split <;> rfl
  by_cases idle : s.mm.scrub = none
  · rw [State.askSramScrub_starts idle ticket, set]
    exact ⟨_, _, _, rfl⟩
  · by_cases room : s.mm.scrubQ = none
    · rw [State.askSramScrub_queues idle room, set]
      exact ⟨_, _, _, rfl⟩
    · rw [State.askSramScrub_rejects idle room, set]
      exact ⟨_, _, _, rfl⟩

theorem row_mpuScrubGo (value : Nat) (s : State) : Rows.mpuScrubGo value s := by
  intro bound
  refine effect_actWhen (c := .mpuScrubGo value) (b := s.powered && bit value 20) (f := fun s =>
    (s.when (decide (2 ^ 21 ≤ value % 2 ^ 32)) fun s => s.unbind (.wo (rMPU_SCRUB_CMD.at 0 0))).askSramScrub (scrubAsked value 0)) rfl (by simp)
    (fun _ => ?_) bound
  rw [State.when_unbind bound]
  generalize hv : ({ s with unbound := undefinedCase (decide (2 ^ 21 ≤ value % 2 ^ 32)) (.wo (rMPU_SCRUB_CMD.at 0 0)) } : State) = v
  have mm : v.mm = s.mm := by rw [← hv]
  have now : v.now = s.now := by rw [← hv]
  refine ⟨fun idle => ?_, fun busy room => ?_, fun busy full => ?_, ?_⟩
  · rw [State.askSramScrub_starts (r := scrubAsked value 0) (by rwa [mm]) rfl, State.after_mm, get_after_memory _ _ _ (by decide),
      State.get_set _ _ _ _ _ (by decide)]
    exact ⟨by simp [scrubAsked, now], rfl⟩
  · rw [State.askSramScrub_queues (by rwa [mm]) (by rwa [mm]), State.after_mm, get_after_memory _ _ _ (by decide), State.get_set _ _ _ _ _ (by decide)]
    exact ⟨by simp [scrubAsked], rfl, by simp [mm]⟩
  · rw [State.askSramScrub_rejects (by rwa [mm]) (by rwa [mm]), State.after_mm, get_after_memory _ _ _ (by decide), State.get_set _ _ _ _ _ (by decide)]
    exact ⟨rfl, by simp [mm]⟩
  · obtain ⟨_, _, _, e⟩ := State.askSramScrub_keeps (r := scrubAsked value 0) rfl v
    rw [e]
    refine ⟨?_, ?_, ?_, KeepsHost.after ?_ _ _, KeepsMedia.after ?_ _ _, KeepsPower.after ?_ _ _, KeepsFaults.after ?_ _ _⟩
    · simp [undefinedCase, ← hv]
    · simp [mm]
    · simp [mm]
    · simp [KeepsHost, ← hv]
    · simp [KeepsMedia, ← hv]
    · simp [KeepsPower, ← hv]
    · simp [KeepsFaults, ← hv]

/-- The scrub's summary is shown, and its end (R354). -/
def State.scrubSummed (s : State) (words skipped corrected bad : Nat) : State :=
  (((((((s.set MPU_SCRUB_SUM words 0).set MPU_SCRUB_SUM skipped 1).set MPU_SCRUB_SUM corrected 2).set MPU_SCRUB_SUM bad 3).set
    MPU_STATUS_SCRUB_DONE 1).set MPU_STATUS_SCRUB_BUSY 0).raise 220)

/-- What a scrub's end writes. -/
def sumKeys : List Nat :=
  [MPU_SCRUB_SUM.key 0 0, MPU_SCRUB_SUM.key 1 0, MPU_SCRUB_SUM.key 2 0, MPU_SCRUB_SUM.key 3 0, MPU_STATUS_SCRUB_DONE.key 0 0,
   MPU_STATUS_SCRUB_BUSY.key 0 0, MPU_STATUS_SCRUB_Q.key 0 0]

theorem protects_scrubSummed (s : State) (a b c d : Nat) : Protects sumKeys s (s.scrubSummed a b c d) :=
  (((((((Protects.refl _ s).set (by decide) (by decide)).set (by decide) (by decide)).set (by decide) (by decide)).set (by decide) (by decide)).set
    (by decide) (by decide)).set (by decide) (by decide)).raise _ _

theorem scrubSummed_shows (s : State) (a b c d : Nat) :
    (s.scrubSummed a b c d).get MPU_SCRUB_SUM 0 = a % 2 ^ 32 ∧ (s.scrubSummed a b c d).get MPU_SCRUB_SUM 1 = b % 2 ^ 32
      ∧ (s.scrubSummed a b c d).get MPU_SCRUB_SUM 2 = c % 2 ^ 32 ∧ (s.scrubSummed a b c d).get MPU_SCRUB_SUM 3 = d % 2 ^ 32
      ∧ (s.scrubSummed a b c d).get MPU_STATUS_SCRUB_DONE = 1 ∧ (s.scrubSummed a b c d).get MPU_STATUS_SCRUB_BUSY = 0
      ∧ Raises 220 s (s.scrubSummed a b c d) ∧ (s.scrubSummed a b c d).mm = s.mm ∧ (s.scrubSummed a b c d).fw = s.fw := by
  unfold State.scrubSummed
  refine ⟨?_, ?_, ?_, ?_, ?_, ?_, (raises_raise _ 220 0 (by decide)).since ?_, by simp, by simp⟩
  all_goals try rw [State.get_raise_ne _ _ _ _ _ _ (by decide)]
  · iterate 5 rw [State.get_set_ne _ _ _ _ _ _ _ _ (by decide)]
    exact State.get_set _ _ _ _ _ (by decide)
  · iterate 4 rw [State.get_set_ne _ _ _ _ _ _ _ _ (by decide)]
    exact State.get_set _ _ _ _ _ (by decide)
  · iterate 3 rw [State.get_set_ne _ _ _ _ _ _ _ _ (by decide)]
    exact State.get_set _ _ _ _ _ (by decide)
  · iterate 2 rw [State.get_set_ne _ _ _ _ _ _ _ _ (by decide)]
    exact State.get_set _ _ _ _ _ (by decide)
  · rw [State.get_set_ne _ _ _ _ _ _ _ _ (by decide)]
    exact State.get_set _ _ _ _ _ (by decide)
  · exact State.get_set _ _ _ _ _ (by decide)
  · exact ((((((EventsKept.refl s).set (by decide)).set (by decide)).set (by decide)).set (by decide)).set (by decide)).set (by decide)

theorem row_sramScrubEnd (w : List SramWrite) (r : SScrub) (s : State) : Rows.sramScrubEnd w r s := by
  rintro ⟨running, queue, ticket⟩
  refine effect_actWhen (b := s.inModes [.boot, .hold, .run, .ret, .service] && decide (r.since + (r.last + 1 - r.first) * 104857 ≤ s.now))
    (f := fun s =>
      let u := (s.sramWrites w).scrubSummed ((s.sramWrites w).sramValid r.first r.last)
        ((r.last + 1 - r.first) * 32768 - (s.sramWrites w).sramValid r.first r.last) r.corrected r.bad
      { u with mm := { u.mm with scrub := none, scrubQ := none } }.set MPU_STATUS_SCRUB_Q 0) ?_ (by simp) fun _ => ?_
  · obtain ⟨m, hm⟩ := s.sramWrites_mm w
    show execSramScrubEnd w s = _
    unfold execSramScrubEnd actWhen act actTo
    simp only [running, ticket, State.ticketEnd, State.scrubSummed]
    simp [hm, queue]
  · obtain ⟨m, hm⟩ := s.sramWrites_mm w
    have writes := protects_sramWrites (L := sumKeys) s w
    have wfw := s.sramWrites_fw w
    dsimp only
    generalize (s.sramWrites w).sramValid r.first r.last = words
    generalize s.sramWrites w = u at *
    have summed := protects_scrubSummed u words ((r.last + 1 - r.first) * 32768 - words) r.corrected r.bad
    obtain ⟨words', skipped, corrected, bad, done, busy, raises, mm, fw⟩ :=
      scrubSummed_shows u words ((r.last + 1 - r.first) * 32768 - words) r.corrected r.bad
    generalize u.scrubSummed words ((r.last + 1 - r.first) * 32768 - words) r.corrected r.bad = v at *
    have idle := (writes.trans summed).mem { v.mm with scrub := none, scrubQ := none }
    have ended := idle.set (f := MPU_STATUS_SCRUB_Q) (v := 0) (i := 0) (j := 0) (by decide) (by decide)
    have kept : EventsKept v ({ v with mm := { v.mm with scrub := none, scrubQ := none } }.set MPU_STATUS_SCRUB_Q 0) :=
      (EventsKept.of_eq rfl rfl : EventsKept v { v with mm := { v.mm with scrub := none, scrubQ := none } }).set (by decide)
    obtain ⟨mg, -⟩ := ended.1.units
    obtain ⟨host, media, power⟩ := ended.keeps_after s s.now
    have shown {f : Field} {i : Nat} (hf : MPU_STATUS_SCRUB_Q.key 0 0 ≠ f.key i 0) (ha : rDMC_CTRL.addr ≤ f.reg.addr) :
        (s.after s.now ({ v with mm := { v.mm with scrub := none, scrubQ := none } }.set MPU_STATUS_SCRUB_Q 0)).get f i = v.get f i :=
      (get_after_memory _ _ _ ha _ _).trans ((State.get_set_ne _ _ _ _ _ _ _ _ hf).trans (State.get_of_regs rfl _ _ _))
    refine ⟨?_, ?_, ?_, ?_, ?_, ?_, ?_, ?_, ?_, by rwa [State.after_mg], ?_, host, media, power⟩
    · rw [State.after_mm, State.set_mm]
      simp [mm, hm, queue]
    · rw [shown (by decide) (by decide), words']
    · rw [shown (by decide) (by decide), skipped]
    · rw [shown (by decide) (by decide), corrected]
    · rw [shown (by decide) (by decide), bad]
    · rw [shown (by decide) (by decide), done]
    · rw [shown (by decide) (by decide), busy]
    · rw [get_after_memory _ _ _ (by decide), State.get_set _ _ _ _ _ (by decide)]
      rfl
    · exact ((raises.since writes.2.2).kept kept).after
    · rw [State.after_fw, State.set_fw]
      exact fw.trans wfw

end Sys2Proof.Machine
end

section
/-!
SUPPORT. Candidates for repair and fenced rows of a DRAM channel, and its bursts read with errors (R330, R341, R343).
-/

namespace Sys2Proof.Machine

variable {L : List Nat} {s t u : State} {d : Nat} {f : Field}

-- the tables of rows

theorem protects_rowField (hr : f.reg = rDMC_CAND ∨ f.reg = rDMC_FENCE) (hl : f.lsb < 32) (h : Protects L s t) (v d k : Nat) :
    Protects L s (t.set f v d k) := by
  by_cases has : f.reg.has d k = true
  · have bounds : RowTable (f.key d k) ∧ f.key d k < 8 * rEVR_PEND.addr := by
      rw [Reg.has_iff] at has
      unfold RowTable Field.key Reg.at
      rcases hr with e | e <;> rw [e] at has ⊢ <;> simp only [rDMC_CAND, rDMC_FENCE, rDMC_CH_STAT, rEVR_PEND] at has ⊢ <;> omega
    exact h.set' bounds.2 (.inr (.inl bounds.1))
  · have : t.set f v d k = t := by simp [State.set, has]
    rwa [this]

theorem protects_askCommit (h : Protects L s t) : Protects L s t.askCommit := by
  have asked : Protects L s { t with fw := { t.fw with again := true, pendAt := t.fw.pendAt.or (some t.now) } } :=
    h.trans (protects_of_eq ⟨_, _, _, _, _, _, _, _, _, _, rfl⟩ rfl rfl)
  exact asked.set' (f := FWC_CFGREC_PEND) (v := 1) (i := 0) (j := 0) (by decide) (.inr (.inr (by decide)))

theorem State.askCommit_again (s : State) : s.askCommit.fw.again = true := by simp [State.askCommit]

theorem protects_setRow (fence : Bool) (s : State) (d k row : Nat) : Protects L s (s.setRow fence d k row) := by
  unfold State.setRow
  split
  · exact protects_askCommit (protects_rowField (by decide) (by decide) (protects_rowField (by decide) (by decide) (protects_rowField (by decide)
      (by decide) (protects_rowField (by decide) (by decide) (protects_rowField (by decide) (by decide) (.refl L s) _ _ _) _ _ _) _ _ _) _ _ _) _ _ _)
  · exact protects_askCommit (protects_rowField (by decide) (by decide) (protects_rowField (by decide) (by decide) (protects_rowField (by decide)
      (by decide) (protects_rowField (by decide) (by decide) (protects_rowField (by decide) (by decide) (.refl L s) _ _ _) _ _ _) _ _ _) _ _ _) _ _ _)

theorem State.setRow_mm (fence : Bool) (s : State) (d k row : Nat) : (s.setRow fence d k row).mm = s.mm := by
  unfold State.setRow State.askCommit
  split <;> simp

theorem State.setRow_again (fence : Bool) (s : State) (d k row : Nat) : (s.setRow fence d k row).fw.again = true := by
  unfold State.setRow
  split <;> exact State.askCommit_again _

-- candidates

theorem dropCand_facts (s : State) (d k : Nat) :
    Protects L s (s.dropCand d k) ∧ ChanOnly d s (s.dropCand d k) ∧ (s.dropCand d k).fw.again = true
      ∧ (s.dropCand d k).dchan d = { s.dchan d with cands := (s.dchan d).cands.del k } := by
  refine ⟨((Protects.refl L s).modDchan _ _).trans (protects_setRow _ _ _ _ _), ?_, State.setRow_again _ _ _ _ _, ?_⟩
  · exact (chanOnly_modDchan s d _).trans (.of_mm (State.setRow_mm _ _ _ _ _))
  · exact (State.dchan_of_mm (State.setRow_mm _ _ _ _ _) d).trans (State.modDchan_dchan s d _)

theorem addCand_facts (s : State) (d row n : Nat) :
    Protects L s (s.addCand d row n) ∧ ChanOnly d s (s.addCand d row n) ∧ ∃ m, (s.addCand d row n).dchan d = { s.dchan d with cands := m } := by
  unfold State.addCand
  dsimp only
  split
  · exact ⟨(Protects.refl L s).modDchan _ _, chanOnly_modDchan s d _, _, State.modDchan_dchan s d _⟩
  · exact ⟨((Protects.refl L s).modDchan _ _).trans (protects_setRow _ _ _ _ _),
      (chanOnly_modDchan s d _).trans (.of_mm (State.setRow_mm _ _ _ _ _)), _,
      (State.dchan_of_mm (State.setRow_mm _ _ _ _ _) d).trans (State.modDchan_dchan s d _)⟩

-- a corrected burst

/-- A corrected burst is counted, its write back queued, and the time noted for its row (R330, R343). -/
def State.burstCorrected (s : State) (d addr : Nat) : State :=
  let s := (s.bumpDmc DMC_CE_CNT d).rewriteBurst d addr 4 0
  let row := dramRow (s.pop d) addr
  let l := ((s.dchan d).ceRows.lookD row []).filter (fun t => s.ms.opMs < t + 86400000) ++ [s.ms.opMs]
  s.modDchan d fun c => { c with ceRows := c.ceRows.put row l }

theorem burstCorrected_facts (hd : d < 4) (s : State) (addr : Nat) :
    Protects (countKeys DMC_CE_CNT d) s (s.burstCorrected d addr) ∧ Counts DMC_CE_CNT d 1 s (s.burstCorrected d addr)
      ∧ ChanOnly d s (s.burstCorrected d addr) ∧ (s.burstCorrected d addr).fw = s.fw
      ∧ ∃ w r, (s.burstCorrected d addr).dchan d = { s.dchan d with nextId := (s.dchan d).nextId + 1, waiting := w, ceRows := r } := by
  have mm := State.bumpDmc_mm s DMC_CE_CNT d 1
  have counted := counts_bumpDmc (f := DMC_CE_CNT) hd (by decide) s 1
  unfold State.burstCorrected State.rewriteBurst State.queueDram
  dsimp only
  refine ⟨((protects_bumpDmc (f := DMC_CE_CNT) hd (by decide) s 1).modDchan _ _).modDchan _ _, counted.of_regs rfl, ?_, State.bumpDmc_fw s _ _ _, ?_⟩
  · exact ((ChanOnly.of_mm mm).trans (chanOnly_modDchan _ d _)).trans (chanOnly_modDchan _ d _)
  · simp only [State.modDchan_dchan, State.dchan_of_mm mm]
    exact ⟨_, _, rfl⟩

/-- With fewer than 16 corrections of its row noted nothing more comes of it (R343). -/
theorem State.dramCorrected_first (s : State) (d addr : Nat) (none : (s.dchan d).ceRows = []) : s.dramCorrected d addr = s.burstCorrected d addr := by
  have rows : (((s.bumpDmc DMC_CE_CNT d).rewriteBurst d addr 4 0).dchan d).ceRows = [] := by
    unfold State.rewriteBurst State.queueDram
    rw [State.modDchan_dchan, State.dchan_of_mm (State.bumpDmc_mm _ _ _ _)]
    exact none
  unfold State.dramCorrected State.burstCorrected
  simp [rows, NMap.lookD]

/-- Whatever is proposed of its row, a corrected burst is counted, and no unit but its channel and the registers knows of it. -/
theorem dramCorrected_facts (hd : d < 4) (s : State) (addr : Nat) :
    Protects (countKeys DMC_CE_CNT d) s (s.dramCorrected d addr) ∧ Counts DMC_CE_CNT d 1 s (s.dramCorrected d addr)
      ∧ ∃ m n w r, (s.dramCorrected d addr).dchan d = { s.dchan d with cands := m, nextId := n, waiting := w, ceRows := r } := by
  obtain ⟨protects, counts, -, -, w, r, chan⟩ := burstCorrected_facts hd s addr
  obtain ⟨-, below, rows, -⟩ := dmcCounters_layout d hd DMC_CE_CNT (by decide)
  have cases : s.dramCorrected d addr = s.burstCorrected d addr ∨ ∃ row n, s.dramCorrected d addr = (s.burstCorrected d addr).addCand d row n := by
    unfold State.dramCorrected State.burstCorrected
    dsimp only
    split
    · exact .inr ⟨_, _, rfl⟩
    · exact .inl rfl
  rcases cases with e | ⟨row, n, e⟩
  · rw [e]
    exact ⟨protects, counts, _, _, _, _, chan⟩
  · rw [e]
    obtain ⟨added, -, m, chan'⟩ := addCand_facts (L := []) (s.burstCorrected d addr) d row n
    exact ⟨protects.trans (added.mono (by simp)), counts.between rfl (added.get ⟨below, rows, List.not_mem_nil⟩), _, _, _, _, by rw [chan', chan]⟩

-- an uncorrectable burst

/-- An uncorrectable burst is counted, recorded and reported (R330). -/
def State.burstFailed (s : State) (d addr type master : Nat) : State :=
  ((((s.bumpDmc DMC_UE_CNT d).set DMC_LAST_ERR (addr / 64) d).set DMC_EVT_UE 1 d).raise (80 + 4 * d)).reportUE (addr + d * 2 ^ 46) master type 2

/-- The registers of a channel that show it. -/
def failKeys (d : Nat) : List Nat := DMC_LAST_ERR.key d 0 :: DMC_EVT_UE.key d 0 :: countKeys DMC_UE_CNT d

theorem failKeys_layout : ∀ d < 4, DMC_LAST_ERR.reg.has d 0 = true ∧ DMC_EVT_UE.reg.has d 0 = true
    ∧ DMC_LAST_ERR.key d 0 < 8 * reportBase ∧ DMC_EVT_UE.key d 0 < 8 * reportBase
    ∧ ¬ RowTable (DMC_LAST_ERR.key d 0) ∧ ¬ RowTable (DMC_EVT_UE.key d 0)
    ∧ DMC_LAST_ERR.key d 0 ≠ DMC_UE_CNT.key d 0 ∧ DMC_EVT_UE.key d 0 ≠ DMC_UE_CNT.key d 0 ∧ DMC_EVT_UE.key d 0 ≠ DMC_LAST_ERR.key d 0 := by decide

theorem State.burstFailed_mm (s : State) (d addr type master : Nat) : (s.burstFailed d addr type master).mm = s.mm := by
  simp [State.burstFailed, State.bumpDmc_mm]

theorem burstFailed_facts (hd : d < 4) (s : State) (addr type master : Nat) :
    Protects (failKeys d) s (s.burstFailed d addr type master) ∧ Counts DMC_UE_CNT d 1 s (s.burstFailed d addr type master)
      ∧ (s.burstFailed d addr type master).get DMC_LAST_ERR d = addr / 64 % 2 ^ DMC_LAST_ERR.width
      ∧ (s.burstFailed d addr type master).flag DMC_EVT_UE d = true ∧ Raises (80 + 4 * d) s (s.burstFailed d addr type master) := by
  obtain ⟨has, hasEvt, below, belowEvt, rows, rowsEvt, apart, apartEvt, apart'⟩ := failKeys_layout d hd
  obtain ⟨-, belowCnt, rowsCnt, -⟩ := dmcCounters_layout d hd DMC_UE_CNT (by decide)
  have counted := protects_bumpDmc (f := DMC_UE_CNT) hd (by decide) s 1
  have counted' : Protects (failKeys d) s (s.bumpDmc DMC_UE_CNT d) := counted.mono fun k hk => List.mem_cons_of_mem _ (List.mem_cons_of_mem _ hk)
  have set := (counted'.set (f := DMC_LAST_ERR) (v := addr / 64) (i := d) (j := 0) (by simp [failKeys]) (below_pend below)).set (f := DMC_EVT_UE) (v := 1)
    (i := d) (j := 0) (by simp [failKeys]) (below_pend belowEvt)
  have report : Protects [] (((s.bumpDmc DMC_UE_CNT d).set DMC_LAST_ERR (addr / 64) d).set DMC_EVT_UE 1 d) (s.burstFailed d addr type master) :=
    ((Protects.refl [] _).raise _ _).reportUE _ _ _ _
  have shown {f : Field} (h : f.key d 0 < 8 * reportBase) (hr : ¬ RowTable (f.key d 0)) :
      (s.burstFailed d addr type master).get f d = (((s.bumpDmc DMC_UE_CNT d).set DMC_LAST_ERR (addr / 64) d).set DMC_EVT_UE 1 d).get f d :=
    report.get ⟨h, hr, List.not_mem_nil⟩
  refine ⟨(set.raise _ _).reportUE _ _ _ _, (counts_bumpDmc (f := DMC_UE_CNT) hd (by decide) s 1).between rfl ?_, ?_, ?_, ?_⟩
  · rw [shown belowCnt rowsCnt, State.get_set_ne _ _ _ _ _ _ _ _ apartEvt, State.get_set_ne _ _ _ _ _ _ _ _ apart]
  · rw [shown below rows, State.get_set_ne _ _ _ _ _ _ _ _ apart', State.get_set _ _ _ _ _ has]
  · unfold State.flag
    rw [shown belowEvt rowsEvt, State.get_set _ _ _ _ _ hasEvt]
    rfl
  · exact ((raises_raise _ _ _ (by omega)).since set.2.2).kept ((Protects.refl [] _).reportUE _ _ _ _).2.2

/-- The bits of a channel's status that say whether it is live lie beside all that an error of a burst writes. -/
theorem liveKeys_apart : ∀ d < 4, ∀ f ∈ [DMC_CH_STAT_LOST, DMC_CH_STAT_POP], f.key d 0 < 8 * reportBase ∧ ¬ RowTable (f.key d 0)
    ∧ f.key d 0 ∉ failKeys d ∧ f.key d 0 ∉ countKeys DMC_CE_CNT d := by decide

/-- The time of an uncorrectable burst is noted, and a channel with more than UE_LOSS of them within 1 s is lost (R341). -/
def State.failTimed (s : State) (d : Nat) : State :=
  let l := ((s.dchan d).ueTimes.filter fun t => s.now < t + 1000000000) ++ [s.now]
  let s := s.modDchan d fun c => { c with ueTimes := l }
  let lim := s.get DMC_CTRL_UE_LOSS
  if 0 < lim ∧ lim < l.length then s.loseDram d else s

theorem State.dramUncorrectable_eq (s : State) (d addr type master : Nat) :
    s.dramUncorrectable d addr type master =
      ((s.burstFailed d addr type master).addCand d (dramRow ((s.burstFailed d addr type master).pop d) addr) 1).failTimed d := rfl

theorem State.failTimed_first {s : State} (first : (s.dchan d).ueTimes = []) (limit : s.get DMC_CTRL_UE_LOSS ≠ 0) :
    s.failTimed d = s.modDchan d fun c => { c with ueTimes := [s.now] } := by
  unfold State.failTimed
  simp only [first, List.filter_nil, List.nil_append, List.length_singleton]
  exact if_neg fun h => limit (Nat.lt_one_iff.1 h.2)

/-- The first uncorrectable burst within the time of R341 makes its row a candidate and loses no channel. -/
theorem State.dramUncorrectable_first (hd : d < 4) {s : State} (first : (s.dchan d).ueTimes = []) (limit : s.get DMC_CTRL_UE_LOSS ≠ 0)
    (addr type master : Nat) :
    s.dramUncorrectable d addr type master =
      ((s.burstFailed d addr type master).addCand d (dramRow ((s.burstFailed d addr type master).pop d) addr) 1).modDchan d fun c =>
        { c with ueTimes := [s.now] } := by
  obtain ⟨failed, -⟩ := burstFailed_facts hd s addr type master
  obtain ⟨added, -, m, chan⟩ := addCand_facts (L := []) (s.burstFailed d addr type master) d
    (dramRow ((s.burstFailed d addr type master).pop d) addr) 1
  rw [State.dchan_of_mm (s.burstFailed_mm d addr type master)] at chan
  have now := (failed.1.trans added.1).units.2.2.2.2.1
  have lim : ((s.burstFailed d addr type master).addCand d (dramRow ((s.burstFailed d addr type master).pop d) addr) 1).get DMC_CTRL_UE_LOSS ≠ 0 := by
    rw [added.get (by decide), failed.get ⟨by decide, by decide, ?_⟩]
    · exact limit
    · exact (show ∀ d < 4, DMC_CTRL_UE_LOSS.key 0 0 ∉ failKeys d by decide) d hd
  rw [State.dramUncorrectable_eq, State.failTimed_first (by rw [chan]; exact first) lim, now]

/-- What the first uncorrectable burst leaves. -/
theorem dramUncorrectable_facts (hd : d < 4) {s : State} (first : (s.dchan d).ueTimes = []) (limit : s.get DMC_CTRL_UE_LOSS ≠ 0)
    (addr type master : Nat) :
    Protects (failKeys d) s (s.dramUncorrectable d addr type master) ∧ Counts DMC_UE_CNT d 1 s (s.dramUncorrectable d addr type master)
      ∧ (s.dramUncorrectable d addr type master).get DMC_LAST_ERR d = addr / 64 % 2 ^ DMC_LAST_ERR.width
      ∧ (s.dramUncorrectable d addr type master).flag DMC_EVT_UE d = true ∧ Raises (80 + 4 * d) s (s.dramUncorrectable d addr type master)
      ∧ ∃ m, (s.dramUncorrectable d addr type master).dchan d = { s.dchan d with cands := m, ueTimes := [s.now] } := by
  obtain ⟨-, -, below, belowEvt, rows, rowsEvt, -⟩ := failKeys_layout d hd
  obtain ⟨-, belowCnt, rowsCnt, -⟩ := dmcCounters_layout d hd DMC_UE_CNT (by decide)
  obtain ⟨failed, counts, last, evt, raises⟩ := burstFailed_facts hd s addr type master
  have mm := s.burstFailed_mm d addr type master
  rw [State.dramUncorrectable_first hd first limit]
  generalize s.burstFailed d addr type master = u at *
  obtain ⟨added, -, m, chan⟩ := addCand_facts (L := []) u d (dramRow (u.pop d) addr) 1
  generalize u.addCand d (dramRow (u.pop d) addr) 1 = v at *
  have timed : Protects [] u (v.modDchan d fun c => { c with ueTimes := [s.now] }) := added.modDchan _ _
  refine ⟨failed.trans (timed.mono (by simp)), counts.between rfl (timed.get ⟨belowCnt, rowsCnt, List.not_mem_nil⟩), ?_, ?_, raises.kept timed.2.2, m, ?_⟩
  · rw [timed.get ⟨below, rows, List.not_mem_nil⟩, last]
  · unfold State.flag at evt ⊢
    rwa [timed.get ⟨belowEvt, rowsEvt, List.not_mem_nil⟩]
  · rw [State.modDchan_dchan, chan, State.dchan_of_mm mm]

theorem Protects.chLive (h : Protects L s t) (hd : d < 4) (hl : ∀ f ∈ [DMC_CH_STAT_LOST, DMC_CH_STAT_POP], f.key d 0 ∉ L) : t.chLive d = s.chLive d := by
  have same (f : Field) (hf : f ∈ [DMC_CH_STAT_LOST, DMC_CH_STAT_POP]) : t.get f d = s.get f d := by
    obtain ⟨below, rows, -⟩ := liveKeys_apart d hd f hf
    exact h.get ⟨below, rows, hl f hf⟩
  unfold State.chLive State.flag
  rw [same DMC_CH_STAT_LOST (by decide), same DMC_CH_STAT_POP (by decide)]

end Sys2Proof.Machine
end

section
/-!
SUPPORT. Soft repairs, patrol scrubs and range scrubs of a DRAM channel (R344 to R348).
-/

namespace Sys2Proof.Machine

variable {L : List Nat} {s t u : State} {d : Nat} {f : Field}

/-- The registers of a channel that its repairs and scrubs set. -/
theorem repairKeys_layout : ∀ d < 4, ∀ f ∈ [DMC_CH_STAT_REPAIR, DMC_CH_STAT_FENCED, DMC_EVT_FENCE, DMC_EVT_REPAIRED],
    f.reg.has d 0 = true ∧ f.key d 0 < 8 * reportBase ∧ ¬ RowTable (f.key d 0) ∧ f.key d 0 ∉ countKeys DMC_RFM_CNT d
      ∧ f.key d 0 ∉ countKeys DMC_PPR_CNT d := by decide

-- the start of a repair

theorem row_dramSoftRepair (ch index : Nat) (resource : Bool) (s : State) : Rows.dramSoftRepair ch index resource s := by
  rintro rfl
  refine effect_actWhen (b := s.inModes [.run, .service] && ch < 4 && s.chLive ch && (s.dchan ch).repairing.isNone && (s.dchan ch).cands.has index)
    (f := fun s => (s.modDchan ch fun c => { c with repairing := some index }).set DMC_CH_STAT_REPAIR 1 ch) rfl (by simp [and_assoc])
    fun ⟨_, hd, _⟩ => ?_
  obtain ⟨has, -⟩ := repairKeys_layout ch hd DMC_CH_STAT_REPAIR (by decide)
  have mm : ((s.modDchan ch fun c => { c with repairing := some index }).set DMC_CH_STAT_REPAIR 1 ch).mm
      = (s.modDchan ch fun c => { c with repairing := some index }).mm := State.set_mm _ _ _ _ _
  refine ⟨?_, ?_, OnlyRegs.after (onlyRegs_set _ _ _ _ _), ⟨fun k hk => ?_, ?_⟩, KeepsHost.after ?_ _ _, KeepsMedia.after ?_ _ _, KeepsPower.after ?_ _ _,
    KeepsFaults.after ?_ _ _⟩
  · rw [after_dchan, State.dchan_of_mm mm, State.modDchan_dchan]
  · rw [get_after_memory _ _ _ (by decide), State.get_set _ _ _ _ _ has]
    rfl
  · rw [after_dchan, State.dchan_of_mm mm, State.modDchan_dchan_ne _ _ _ _ (Ne.symm hk)]
  · simp only [State.after_mm, State.after_mg, State.after_fb, State.after_fw, State.after_tp, mm]
    simp [State.modDchan]
  · simp [KeepsHost]
  · simp [KeepsMedia]
  · simp [KeepsPower]
  · simp [KeepsFaults]

/-- The row of a candidate. -/
def State.candRow (s : State) (d k : Nat) : Nat := match (s.dchan d).cands.look k with | some e => e.1 | none => 0

theorem State.candRow_look {k row n : Nat} (h : (s.dchan d).cands.look k = some (row, n)) : s.candRow d k = row := by simp [State.candRow, h]

/-- The row of a candidate that has no resource is fenced (R346). -/
def State.rowFenced (s : State) (d k : Nat) : State :=
  ((((s.dropCand d k).setRow true d (s.get DMC_CH_STAT_FENCED d) (s.candRow d k)).set DMC_CH_STAT_FENCED (s.get DMC_CH_STAT_FENCED d + 1) d).set
    DMC_EVT_FENCE 1 d).raise (82 + 4 * d)

theorem exec_dramSoftRepair_fence (ch index : Nat) (s : State) :
    exec (.dramSoftRepair ch index false) s = actWhen s (s.inModes [.run, .service] && ch < 4 && s.chLive ch && (s.dchan ch).repairing.isNone
      && (s.dchan ch).cands.has index) fun s =>
        if s.get DMC_CH_STAT_FENCED ch < 64 then s.rowFenced ch index else (s.dropCand ch index).modDchan ch fun c => { c with fenceOver := true } := rfl

/-- What the fence of a row sets. -/
def fenceKeys (d : Nat) : List Nat := [DMC_CH_STAT_FENCED.key d 0, DMC_EVT_FENCE.key d 0]

theorem rowFenced_facts (hd : d < 4) (s : State) (k : Nat) (room : s.get DMC_CH_STAT_FENCED d < 64) :
    Protects (fenceKeys d) s (s.rowFenced d k) ∧ (s.rowFenced d k).mm = (s.dropCand d k).mm ∧ (s.rowFenced d k).fw.again = true
      ∧ (s.rowFenced d k).get DMC_CH_STAT_FENCED d = s.get DMC_CH_STAT_FENCED d + 1 ∧ (s.rowFenced d k).flag DMC_EVT_FENCE d = true
      ∧ Raises (82 + 4 * d) s (s.rowFenced d k) := by
  obtain ⟨hasF, belowF, -⟩ := repairKeys_layout d hd DMC_CH_STAT_FENCED (by decide)
  obtain ⟨hasE, belowE, -⟩ := repairKeys_layout d hd DMC_EVT_FENCE (by decide)
  have apart : DMC_EVT_FENCE.key d 0 ≠ DMC_CH_STAT_FENCED.key d 0 := (show ∀ d < 4, DMC_EVT_FENCE.key d 0 ≠ DMC_CH_STAT_FENCED.key d 0 by decide) d hd
  have pend {f : Field} (h : f.key d 0 < 8 * reportBase) : EVR_PEND.key ((82 + 4 * d) / 32) 0 ≠ f.key d 0 :=
    Nat.ne_of_gt ((below_pend h).trans_le (pend_key_ge _))
  have rows : Protects (fenceKeys d) s ((s.dropCand d k).setRow true d (s.get DMC_CH_STAT_FENCED d) (s.candRow d k)) :=
    (dropCand_facts s d k).1.trans (protects_setRow _ _ _ _ _)
  have set := (rows.set (f := DMC_CH_STAT_FENCED) (v := s.get DMC_CH_STAT_FENCED d + 1) (i := d) (j := 0) (by simp [fenceKeys]) (below_pend belowF)).set
    (f := DMC_EVT_FENCE) (v := 1) (i := d) (j := 0) (by simp [fenceKeys]) (below_pend belowE)
  refine ⟨set.raise _ _, ?_, ?_, ?_, ?_, (raises_raise _ _ _ (by omega)).since set.2.2⟩
  · simp [State.rowFenced, State.setRow_mm]
  · simp [State.rowFenced, State.setRow_again]
  · unfold State.rowFenced
    rw [State.get_raise_ne _ _ _ _ _ _ (pend belowF), State.get_set_ne _ _ _ _ _ _ _ _ apart, State.get_set _ _ _ _ _ hasF]
    exact Nat.mod_eq_of_lt (show _ < 2 ^ 7 by omega)
  · unfold State.rowFenced State.flag
    rw [State.get_raise_ne _ _ _ _ _ _ (pend belowE), State.get_set _ _ _ _ _ hasE]
    rfl

theorem NMap.look_del_same {V : Type} (m : NMap V) (k : Nat) : (m.del k).look k = none := by simp [NMap.look_del]

theorem ChanOnly.after (h : ChanOnly d s t) (r : State) (n : Nat) : OtherChans d s (r.after n t) ∧ { (r.after n t).mm with chans := s.mm.chans } = s.mm :=
  ⟨fun k hk => (after_dchan r n t k).trans (h.1 k hk), by rw [State.after_mm]; exact h.2⟩

theorem row_dramSoftRepair_fences (ch index : Nat) (resource : Bool) (s : State) : Rows.dramSoftRepair_fences ch index resource s := by
  rintro ⟨rfl, room⟩
  refine effect_actWhen (exec_dramSoftRepair_fence ch index s) (by simp [and_assoc]) fun ⟨_, hd, _, free, _⟩ => ?_
  rw [if_pos room]
  obtain ⟨-, only, -, chan⟩ := dropCand_facts (L := []) s ch index
  obtain ⟨protects, mm, again, fenced, evt, raises⟩ := rowFenced_facts hd s index room
  obtain ⟨mg, fb, tp, -⟩ := protects.1.units
  obtain ⟨host, media, power⟩ := protects.keeps_after s s.now
  obtain ⟨others, rest⟩ := (only.trans (ChanOnly.of_mm mm)).after s s.now
  rw [← State.dchan_of_mm mm] at chan
  refine ⟨?_, ?_, ?_, raises.after, ?_, others, rest, by rwa [State.after_mg], by rwa [State.after_fb], by rwa [State.after_tp], by rwa [State.after_fw],
    host, media, power⟩
  · rw [after_dchan, chan]
    exact NMap.look_del_same _ _
  · rw [get_after_memory _ _ _ (by decide), fenced]
  · unfold State.flag at evt ⊢
    rwa [get_after_memory _ _ _ (by decide)]
  · rw [after_dchan, chan]
    exact free

theorem row_dramSoftRepair_noFence (ch index : Nat) (resource : Bool) (s : State) : Rows.dramSoftRepair_noFence ch index resource s := by
  rintro ⟨rfl, full⟩
  refine effect_actWhen (exec_dramSoftRepair_fence ch index s) (by simp [and_assoc]) fun ⟨_, hd, _, _, _⟩ => ?_
  rw [if_neg (Nat.not_lt.2 full)]
  obtain ⟨-, belowF, rows, -⟩ := repairKeys_layout ch hd DMC_CH_STAT_FENCED (by decide)
  obtain ⟨dropped, only, -, chan⟩ := dropCand_facts (L := []) s ch index
  have protects : Protects [] s ((s.dropCand ch index).modDchan ch fun c => { c with fenceOver := true }) := dropped.modDchan _ _
  obtain ⟨mg, fb, tp, -⟩ := protects.1.units
  obtain ⟨host, media, power⟩ := protects.keeps_after s s.now
  obtain ⟨others, rest⟩ := (only.trans (chanOnly_modDchan _ ch fun c => { c with fenceOver := true })).after s s.now
  refine ⟨?_, ?_, ?_, others, rest, by rwa [State.after_mg], by rwa [State.after_fb], by rwa [State.after_tp], host, media, power⟩
  · rw [after_dchan, State.modDchan_dchan, chan]
    exact NMap.look_del_same _ _
  · rw [after_dchan, State.modDchan_dchan]
  · rw [get_after_memory _ _ _ (by decide), protects.get ⟨belowF, rows, List.not_mem_nil⟩]

-- the end of a repair

/-- A repaired row is a candidate no more; its bank group goes on (R344). -/
def State.rowRepaired (s : State) (d k row : Nat) : State :=
  (((((s.modDchan d fun c => { c with repairing := none, soft := insSorted row c.soft }).dropCand d k).set DMC_CH_STAT_REPAIR 0 d).bumpDmc DMC_PPR_CNT d).set
    DMC_EVT_REPAIRED 1 d).raise (82 + 4 * d)

def repairedKeys (d : Nat) : List Nat := DMC_CH_STAT_REPAIR.key d 0 :: DMC_EVT_REPAIRED.key d 0 :: countKeys DMC_PPR_CNT d

theorem rowRepaired_facts (hd : d < 4) (s : State) (k row : Nat) :
    Protects (repairedKeys d) s (s.rowRepaired d k row) ∧ ChanOnly d s (s.rowRepaired d k row) ∧ (s.rowRepaired d k row).fw.again = true
      ∧ (s.rowRepaired d k row).get DMC_CH_STAT_REPAIR d = 0 ∧ Counts DMC_PPR_CNT d 1 s (s.rowRepaired d k row)
      ∧ (s.rowRepaired d k row).flag DMC_EVT_REPAIRED d = true ∧ Raises (82 + 4 * d) s (s.rowRepaired d k row)
      ∧ (s.rowRepaired d k row).dchan d =
        { s.dchan d with repairing := none, soft := insSorted row (s.dchan d).soft, cands := (s.dchan d).cands.del k } := by
  obtain ⟨hasR, belowR, rowsR, -, apartR⟩ := repairKeys_layout d hd DMC_CH_STAT_REPAIR (by decide)
  obtain ⟨hasE, belowE, -, -, apartE⟩ := repairKeys_layout d hd DMC_EVT_REPAIRED (by decide)
  obtain ⟨-, belowC, rowsC, -⟩ := dmcCounters_layout d hd DMC_PPR_CNT (by decide)
  have apart : DMC_EVT_REPAIRED.key d 0 ≠ DMC_CH_STAT_REPAIR.key d 0 :=
    (show ∀ d < 4, DMC_EVT_REPAIRED.key d 0 ≠ DMC_CH_STAT_REPAIR.key d 0 by decide) d hd
  have pend {f : Field} (h : f.key d 0 < 8 * reportBase) : EVR_PEND.key ((82 + 4 * d) / 32) 0 ≠ f.key d 0 :=
    Nat.ne_of_gt ((below_pend h).trans_le (pend_key_ge _))
  obtain ⟨dropped, only, again, chan⟩ := dropCand_facts (L := []) (s.modDchan d fun c => { c with repairing := none, soft := insSorted row c.soft }) d k
  have dropped' : Protects [] s ((s.modDchan d fun c => { c with repairing := none, soft := insSorted row c.soft }).dropCand d k) :=
    ((Protects.refl [] s).modDchan _ _).trans dropped
  have only' := (chanOnly_modDchan s d fun c => { c with repairing := none, soft := insSorted row c.soft }).trans only
  rw [State.modDchan_dchan] at chan
  unfold State.rowRepaired
  generalize (s.modDchan d fun c => { c with repairing := none, soft := insSorted row c.soft }).dropCand d k = v at *
  have shown := (dropped'.mono (M := repairedKeys d) (by simp)).set (f := DMC_CH_STAT_REPAIR) (v := 0) (i := d) (j := 0) (by simp [repairedKeys])
    (below_pend belowR)
  have counted := shown.trans ((protects_bumpDmc (f := DMC_PPR_CNT) hd (by decide) (v.set DMC_CH_STAT_REPAIR 0 d) 1).mono
    fun k hk => List.mem_cons_of_mem _ (List.mem_cons_of_mem _ hk))
  have set := counted.set (f := DMC_EVT_REPAIRED) (v := 1) (i := d) (j := 0) (by simp [repairedKeys]) (below_pend belowE)
  have mm : ((((v.set DMC_CH_STAT_REPAIR 0 d).bumpDmc DMC_PPR_CNT d).set DMC_EVT_REPAIRED 1 d).raise (82 + 4 * d)).mm = v.mm := by
    simp [State.bumpDmc_mm]
  have apartC : DMC_CH_STAT_REPAIR.key d 0 ≠ DMC_PPR_CNT.key d 0 ∧ DMC_EVT_REPAIRED.key d 0 ≠ DMC_PPR_CNT.key d 0 := by
    simp only [countKeys, List.mem_cons, not_or] at apartR apartE
    exact ⟨apartR.1, apartE.1⟩
  refine ⟨set.raise _ _, only'.trans (.of_mm mm), ?_, ?_, ?_, ?_, (raises_raise _ _ _ (by omega)).since set.2.2, (State.dchan_of_mm mm d).trans chan⟩
  · simp [State.bumpDmc_fw, again]
  · rw [State.get_raise_ne _ _ _ _ _ _ (pend belowR), State.get_set_ne _ _ _ _ _ _ _ _ apart,
      (protects_bumpDmc hd (by decide) _ 1).get ⟨belowR, rowsR, apartR⟩, State.get_set _ _ _ _ _ hasR]
    rfl
  · refine (counts_bumpDmc (f := DMC_PPR_CNT) hd (by decide) (v.set DMC_CH_STAT_REPAIR 0 d) 1).between ?_ ?_
    · rw [State.get_set_ne _ _ _ _ _ _ _ _ apartC.1, dropped'.get ⟨belowC, rowsC, List.not_mem_nil⟩]
    · rw [State.get_raise_ne _ _ _ _ _ _ (pend belowC), State.get_set_ne _ _ _ _ _ _ _ _ apartC.2]
  · unfold State.flag
    rw [State.get_raise_ne _ _ _ _ _ _ (pend belowE), State.get_set _ _ _ _ _ hasE]
    rfl

/-- The end of a repair poisons what was uncorrectable in the row, and unless the channel is lost by that, the row is repaired and the queues go on. -/
theorem exec_dramRepairEnd (ch : Nat) (bad : List Nat) (s : State) :
    exec (.dramRepairEnd ch bad) s = actWhen s (s.powered && ch < 4 && s.chLive ch && (s.dchan ch).repairing.isSome) fun s =>
      let u := s.repairPoison ch (s.candRow ch ((s.dchan ch).repairing.getD 0)) bad
      if !u.chLive ch then u
      else (u.rowRepaired ch ((s.dchan ch).repairing.getD 0) (s.candRow ch ((s.dchan ch).repairing.getD 0))).dramService ch := rfl

theorem effect_dramRepairEnd {ch k : Nat} {bad : List Nat} {P : State → Prop} (running : (s.dchan ch).repairing = some k)
    (live : ch < 4 → (s.repairPoison ch (s.candRow ch k) bad).chLive ch = s.chLive ch)
    (h : ch < 4 → P (s.after s.now (((s.repairPoison ch (s.candRow ch k) bad).rowRepaired ch k (s.candRow ch k)).dramService ch))) :
    Effect (.dramRepairEnd ch bad) s (s.powered = true ∧ ch < 4 ∧ s.chLive ch = true) P := by
  refine effect_actWhen (exec_dramRepairEnd ch bad s) (by simp [and_assoc, running]) fun ⟨_, hd, on⟩ => ?_
  simp only [running, Option.getD_some]
  rw [if_neg (by rw [live hd, on]; decide)]
  exact h hd

theorem row_dramRepairEnd (ch k row n : Nat) (bad : List Nat) (s : State) : Rows.dramRepairEnd ch k row n bad s := by
  rintro ⟨running, cand, good, -, -⟩
  have poison : s.repairPoison ch row bad = s := by
    unfold State.repairPoison
    rw [List.filter_eq_nil_iff.2 (by simpa using good)]
    rfl
  have row' := State.candRow_look cand
  refine effect_dramRepairEnd running (by rw [row', poison]; exact fun _ => rfl) fun hd => ?_
  rw [row', poison]
  obtain ⟨protects, only, again, repair, counts, evt, raises, chan⟩ := rowRepaired_facts hd s k row
  generalize s.rowRepaired ch k row = u at *
  obtain ⟨served, only', fw, cands, soft, repairing⟩ := serves_dramService hd u
  generalize u.dramService ch = v at *
  obtain ⟨-, belowR, rowsR, apartR, -⟩ := repairKeys_layout ch hd DMC_CH_STAT_REPAIR (by decide)
  obtain ⟨-, belowE, rowsE, apartE, -⟩ := repairKeys_layout ch hd DMC_EVT_REPAIRED (by decide)
  obtain ⟨-, belowC, rowsC, -⟩ := dmcCounters_layout ch hd DMC_PPR_CNT (by decide)
  have apartC : DMC_PPR_CNT.key ch 0 ∉ countKeys DMC_RFM_CNT ch := (show ∀ d < 4, DMC_PPR_CNT.key d 0 ∉ countKeys DMC_RFM_CNT d by decide) ch hd
  have all : Protects (repairedKeys ch ++ countKeys DMC_RFM_CNT ch) s v :=
    (protects.mono fun _ h => List.mem_append_left _ h).trans (served.mono fun _ h => List.mem_append_right _ h)
  obtain ⟨mg, fb, tp, -⟩ := all.1.units
  obtain ⟨host, media, power⟩ := all.keeps_after s s.now
  obtain ⟨others, rest⟩ := (only.trans only').after s s.now
  refine ⟨?_, ?_, ?_, ?_, ?_, ?_, (raises.kept served.2.2).after, ?_, others, rest, by rwa [State.after_mg], by rwa [State.after_fb],
    by rwa [State.after_tp], host, media, power⟩
  · rw [after_dchan, repairing, chan]
  · rw [after_dchan, soft, chan]
    exact mem_insSorted _ _
  · rw [after_dchan, cands, chan]
    exact NMap.look_del_same _ _
  · rw [get_after_memory _ _ _ (by decide), served.get ⟨belowR, rowsR, apartR⟩, repair]
  · exact (counts.between rfl (served.get ⟨belowC, rowsC, apartC⟩)).after_memory (by decide) _ _
  · unfold State.flag at evt ⊢
    rwa [get_after_memory _ _ _ (by decide), served.get ⟨belowE, rowsE, apartE⟩]
  · rw [State.after_fw, fw, again]

-- a repaired row with a burst that is lost

theorem State.repairPoison_one (s : State) (d a : Nat) :
    s.repairPoison d (dramRow (s.pop d) a) [a] =
      (s.dramUncorrectable d a 5 0x31).modDchan d fun c => { c with poison := insSorted (a / 64 * 64) c.poison } := by
  simp [State.repairPoison, State.each, State.scrubbed]

/-- With nothing in its queues the bus of a channel has nothing to do, and its poisoned bursts stay. -/
theorem dramService_idle_poison {s : State} (waiting : (s.dchan d).waiting = []) (reads : (s.dchan d).reads = []) (writes : (s.dchan d).writes = []) :
    ((s.dramService d).dchan d).poison = (s.dchan d).poison := by
  have quiet (u : State) (hw : (u.dchan d).writes = []) (n : Nat) : u.drainDue d n = false := by simp [State.drainDue, hw, queueUse]
  have drained : (s.modDchan d fun c => DChan.letIn (s.gate d) c.waiting.length c).dramDrain d
      = s.modDchan d fun c => DChan.letIn (s.gate d) c.waiting.length c := by
    unfold State.dramDrain
    simp [quiet, State.modDchan_dchan, waiting, DChan.letIn, writes]
  have filled : State.dramFill d 1 s = s.modDchan d fun c => DChan.letIn (s.gate d) c.waiting.length c := by
    unfold State.dramFill
    simp [drained, waiting, DChan.letIn]
  have chan : (State.dramFill d 1 s).dchan d = s.dchan d := by
    rw [filled, State.modDchan_dchan, waiting]
    rfl
  have read : (State.dramFill d 1 s).dramRead d = State.dramFill d 1 s := by
    unfold State.dramRead
    simp [chan, reads, DChan.pick]
  have fences (u : State) : ((u.dramFences d).dchan d).poison = (u.dchan d).poison := by
    unfold State.dramFences
    dsimp only
    rw [State.each_keeps (fun s => (s.dchan d).poison) _ (fun f s => by rw [State.dchan_of_mm (State.put_mm _ _)]), State.modDchan_dchan]
  unfold State.dramService
  rw [waiting, List.length_nil, read, fences, chan]

theorem row_dramRepairEnd_poison (ch k n a : Nat) (s : State) : Rows.dramRepairEnd_poison ch k n a s := by
  rintro ⟨running, cand, first, limit, idle, reads, writes⟩
  have row := State.candRow_look cand
  have failed (hd : ch < 4) := dramUncorrectable_facts hd first limit a 5 0x31
  have live (hd : ch < 4) : (s.repairPoison ch (s.candRow ch k) [a]).chLive ch = s.chLive ch := by
    rw [row, State.repairPoison_one]
    exact ((failed hd).1.modDchan _ _).chLive hd fun f hf => (liveKeys_apart ch hd f hf).2.2.1
  refine effect_dramRepairEnd running live fun hd => ?_
  rw [row, State.repairPoison_one]
  obtain ⟨fails, ue, -, -, -, m, chan⟩ := failed hd
  generalize s.dramUncorrectable ch a 5 0x31 = p at *
  have poisoned := fails.modDchan ch fun c => { c with poison := insSorted (a / 64 * 64) c.poison }
  have chan' : (p.modDchan ch fun c => { c with poison := insSorted (a / 64 * 64) c.poison }).dchan ch
      = { p.dchan ch with poison := insSorted (a / 64 * 64) (p.dchan ch).poison } := State.modDchan_dchan _ _ _
  have ue' : Counts DMC_UE_CNT ch 1 s (p.modDchan ch fun c => { c with poison := insSorted (a / 64 * 64) c.poison }) := ue.of_regs rfl
  generalize p.modDchan ch (fun c => { c with poison := insSorted (a / 64 * 64) c.poison }) = q at *
  rw [chan] at chan'
  obtain ⟨repairs, -, -, -, counts, -, -, chan''⟩ := rowRepaired_facts hd q k (dramRow (s.pop ch) a)
  generalize q.rowRepaired ch k (dramRow (s.pop ch) a) = u at *
  rw [chan'] at chan''
  have stays := dramService_idle_poison (s := u) (d := ch) (by rw [chan'']; exact (idle ch hd).1) (by rw [chan'']; exact reads) (by rw [chan'']; exact writes)
  obtain ⟨served, -, -, -, soft, repairing⟩ := serves_dramService hd u
  generalize u.dramService ch = v at *
  have apart := (show ∀ d < 4, DMC_UE_CNT.key d 0 ∉ repairedKeys d ∧ DMC_UE_CNT.key d 0 ∉ countKeys DMC_RFM_CNT d ∧ DMC_PPR_CNT.key d 0 ∉ failKeys d
    ∧ DMC_PPR_CNT.key d 0 ∉ countKeys DMC_RFM_CNT d by decide) ch hd
  obtain ⟨-, belowU, rowsU, -⟩ := dmcCounters_layout ch hd DMC_UE_CNT (by decide)
  obtain ⟨-, belowC, rowsC, -⟩ := dmcCounters_layout ch hd DMC_PPR_CNT (by decide)
  obtain ⟨-, -, power⟩ := ((poisoned.mono (M := failKeys ch ++ repairedKeys ch ++ countKeys DMC_RFM_CNT ch) (by simp; tauto)).trans
    ((repairs.mono (by simp; tauto)).trans (served.mono (by simp; tauto)))).keeps_after s s.now
  refine ⟨?_, ?_, Counts.after_memory ?_ (by decide) _ _, Counts.after_memory ?_ (by decide) _ _, ?_, power⟩
  · rw [after_dchan, repairing, chan'']
  · rw [after_dchan, stays, chan'']
    exact mem_insSorted _ _
  · exact ue'.between rfl ((served.get ⟨belowU, rowsU, apart.2.1⟩).trans (repairs.get ⟨belowU, rowsU, apart.1⟩))
  · exact counts.between (poisoned.get ⟨belowC, rowsC, apart.2.2.1⟩) (served.get ⟨belowC, rowsC, apart.2.2.2⟩)
  · rw [after_dchan, soft, chan'']
    exact mem_insSorted _ _

end Sys2Proof.Machine
end

section
/-!
SUPPORT. The patrol scrub and the range scrubs of a DRAM channel (R347, R348).
-/

namespace Sys2Proof.Machine

variable {L : List Nat} {s t u : State} {d : Nat} {f : Field}

-- the patrol

/-- The patrol steps to its next burst, and waits until the scrub class has used its share (R332, R347). -/
def State.patrolled (s : State) (d : Nat) : State :=
  s.modDchan d fun c => { c.scrubPaid (s.gate d) 64 with patrol := (c.patrol + 1) % ([16, 16, 32, 32].getD (s.pop d) 16 * 2 ^ 24) }

theorem exec_dramPatrolScrub (ch : Nat) (o : DramOutcome) (s : State) :
    exec (.dramPatrolScrub ch o) s = actWhen s (s.inModes [.boot, .hold, .run, .service] && ch < 4 && s.chLive ch && (s.dchan ch).scrub.isNone
      && s.get DMC_SCRUB_CFG_PATROL_H != 0 && decide ((s.dchan ch).scrubUntil ≤ s.now) && decide (o.addr / 64 = (s.dchan ch).patrol))
      fun s => (s.patrolled ch).scrubbed ch o.addr ((s.patrolled ch).eccError o.symbols) := rfl

theorem State.patrolled_chan (due : (s.dchan d).scrubUntil ≤ s.now) :
    (s.patrolled d).dchan d = { s.dchan d with
      scrubUntil := s.now + s.scrubNs d 64
      patrol := ((s.dchan d).patrol + 1) % ([16, 16, 32, 32].getD (s.pop d) 16 * 2 ^ 24) } := by
  unfold State.patrolled
  rw [State.modDchan_dchan]
  simp [DChan.scrubPaid, State.gate, due]

theorem State.scrubbed_good (s : State) (d a : Nat) : s.scrubbed d a 0 = s := by simp [State.scrubbed]
theorem State.scrubbed_corrected (s : State) (d a : Nat) : s.scrubbed d a 1 = s.dramCorrected d a := by simp [State.scrubbed]
theorem State.scrubbed_failed (s : State) (d a : Nat) : s.scrubbed d a 2 = s.dramUncorrectable d a 5 0x31 := by
  simp [State.scrubbed]

theorem effect_dramPatrolScrub {ch : Nat} {o : DramOutcome} {P : State → Prop}
    (h : ch < 4 → (s.dchan ch).scrubUntil ≤ s.now → P (s.after s.now ((s.patrolled ch).scrubbed ch o.addr (s.eccError o.symbols)))) :
    Effect (.dramPatrolScrub ch o) s (s.inModes [.boot, .hold, .run, .service] = true ∧ ch < 4 ∧ s.chLive ch = true ∧ (s.dchan ch).scrub = none
      ∧ s.get DMC_SCRUB_CFG_PATROL_H ≠ 0 ∧ (s.dchan ch).scrubUntil ≤ s.now ∧ o.addr / 64 = (s.dchan ch).patrol) P :=
  effect_actWhen (exec_dramPatrolScrub ch o s) (by simp [and_assoc]) fun ⟨_, hd, _, _, _, due, _⟩ => h hd due

theorem row_dramPatrolScrub (ch : Nat) (o : DramOutcome) (s : State) : Rows.dramPatrolScrub ch o s := by
  rintro ⟨few, fresh⟩
  refine effect_dramPatrolScrub fun hd due => ?_
  have chan := State.patrolled_chan due
  have moved : ChanOnly ch s (s.patrolled ch) := chanOnly_modDchan s ch _
  by_cases good : o.symbols = 0
  · have err : s.eccError o.symbols = 0 := by simp [State.eccError, good]
    rw [err, State.scrubbed_good]
    have others := moved.after s s.now
    refine ⟨?_, ?_, fun _ => ⟨?_, ?_, ?_⟩, fun bad => absurd good bad, ⟨others.1, others.2, ?_⟩, ?_, ?_, ?_⟩
    · rw [after_dchan, chan]
    · rw [after_dchan, chan]
    · exact OnlyRegs.after (onlyRegs_of_eq [] rfl)
    · exact KeepsFaults.after (by simp [KeepsFaults, State.patrolled]) _ _
    · rw [after_dchan, chan]
    · simp [State.patrolled]
    · exact KeepsHost.after (by simp [KeepsHost, State.patrolled]) _ _
    · exact KeepsMedia.after (by simp [KeepsMedia, State.patrolled]) _ _
    · exact KeepsPower.after (by simp [KeepsPower, State.patrolled]) _ _
  · have err : s.eccError o.symbols = 1 := by simp [State.eccError, good, few]
    rw [err, State.scrubbed_corrected, State.dramCorrected_first _ _ _ (by rw [chan]; exact fresh)]
    obtain ⟨protects, counts, only, fw, w, r, chan'⟩ := burstCorrected_facts hd (s.patrolled ch) o.addr
    have all : Protects (countKeys DMC_CE_CNT ch) s ((s.patrolled ch).burstCorrected ch o.addr) := ((Protects.refl _ s).modDchan _ _).trans protects
    have counts' : Counts DMC_CE_CNT ch 1 s ((s.patrolled ch).burstCorrected ch o.addr) := counts.between (State.get_of_regs rfl _ _ _) rfl
    have fw' : ((s.patrolled ch).burstCorrected ch o.addr).fw = s.fw := fw
    have others := (moved.trans only).after s s.now
    generalize (s.patrolled ch).burstCorrected ch o.addr = v at *
    rw [chan] at chan'
    obtain ⟨mg, fb, tp, -⟩ := all.1.units
    obtain ⟨host, media, power⟩ := all.keeps_after s s.now
    refine ⟨?_, ?_, fun h => absurd h good, fun _ => ⟨counts'.after_memory (by decide) _ _, ?_⟩, ⟨others.1, others.2, ?_⟩, host, media, power⟩
    · rw [after_dchan, chan']
    · rw [after_dchan, chan']
    · rw [after_dchan, chan']
    · simp only [State.after_mg, State.after_fb, State.after_fw, State.after_tp]
      exact ⟨mg, fb, fw', tp⟩

theorem row_dramPatrolScrub_uncorrectable (ch : Nat) (o : DramOutcome) (s : State) : Rows.dramPatrolScrub_uncorrectable ch o s := by
  rintro ⟨many, first, limit⟩
  refine effect_dramPatrolScrub fun hd due => ?_
  have chan := State.patrolled_chan due
  have err : s.eccError o.symbols = 2 := by
    unfold State.eccError
    rw [if_neg (by omega), if_neg (by omega)]
  rw [err, State.scrubbed_failed]
  obtain ⟨protects, counts, last, evt, raises, m, chan'⟩ :=
    dramUncorrectable_facts hd (s := s.patrolled ch) (by rw [chan]; exact first) limit o.addr 5 0x31
  have all : Protects (failKeys ch) s ((s.patrolled ch).dramUncorrectable ch o.addr 5 0x31) := ((Protects.refl _ s).modDchan _ _).trans protects
  have counts' : Counts DMC_UE_CNT ch 1 s ((s.patrolled ch).dramUncorrectable ch o.addr 5 0x31) := counts.between (State.get_of_regs rfl _ _ _) rfl
  have raises' := raises.since (s := s) (.of_eq rfl rfl)
  generalize (s.patrolled ch).dramUncorrectable ch o.addr 5 0x31 = v at *
  obtain ⟨host, media, power⟩ := all.keeps_after s s.now
  refine ⟨counts'.after_memory (by decide) _ _, ?_, raises'.after, ?_, ?_, host, media, power⟩
  · unfold State.flag at evt ⊢
    rwa [get_after_memory _ _ _ (by decide)]
  · rw [after_dchan, chan']
    rfl
  · rw [get_after_memory _ _ _ (by decide), last]

-- scrubs of a range

/-- The range that a write of DMC.SCRUB_CMD asks for (Table 12.10). -/
def State.rangeAsked (s : State) (since : Nat) : DScrub :=
  { start := s.get DMC_SCRUB_START_LO + s.get DMC_SCRUB_START_HI * 2 ^ 32, len := s.get DMC_SCRUB_LEN, since := since, ticket := none }

theorem exec_dmcScrubGo (value : Nat) (s : State) :
    exec (.dmcScrubGo value) s = actWhen s (s.powered && bit value 2) fun s =>
      let u := s.when (decide (8 ≤ value % 2 ^ 32)) fun s => s.unbind (.wo (rDMC_SCRUB_CMD.at 0 0))
      u.askScrub (bits value 1 0) (u.rangeAsked 0) := rfl

/-- Where no scrub runs and none waits the range is begun at once. -/
theorem State.askScrub_starts {r : DScrub} (idle : (s.dchan d).scrub = none) (empty : (s.dchan d).scrubQ = []) (ticket : r.ticket = none) :
    s.askScrub d r = ((s.modDchan d fun c => { c with scrubQ := c.scrubQ ++ [r] }).modDchan d fun c =>
      { c with scrub := some { r with since := s.now }, scrubQ := [] }).set DMC_STATUS_SCRUB_BUSY (setBit (s.get DMC_STATUS_SCRUB_BUSY) d) := by
  unfold State.askScrub State.scrubNext
  simp [idle, empty, ticket, State.ticketRun]
  rfl

/-- Where one runs it is queued, up to three. -/
theorem State.askScrub_queues {r q : DScrub} (busy : (s.dchan d).scrub = some q) :
    s.askScrub d r = if (s.dchan d).scrubQ.length < 3 then s.modDchan d fun c => { c with scrubQ := c.scrubQ ++ [r] } else s := by
  unfold State.askScrub State.scrubNext
  by_cases room : (s.dchan d).scrubQ.length < 3
  · simp [busy, room, Nat.not_le.2 room]
  · simp [busy, room, Nat.not_lt.1 room]

theorem bits_low_lt (value : Nat) : bits value 1 0 < 4 := by
  unfold bits
  omega

/-- A command on one channel's scrubs reaches nothing else. -/
theorem scrubAsked_keeps {t : State} (mm : ChanOnly d s t) (mg : t.mg = s.mg ∧ t.fb = s.fb ∧ t.fw = s.fw ∧ t.tp = s.tp) (r : State) (n : Nat) :
    OnlyChan d s (r.after n t) := by
  obtain ⟨others, rest⟩ := mm.after r n
  refine ⟨others, rest, ?_⟩
  simp only [State.after_mg, State.after_fb, State.after_fw, State.after_tp]
  exact mg

theorem row_dmcScrubGo (value d : Nat) (s : State) : Rows.dmcScrubGo value d s := by
  rintro ⟨rfl, idle, empty⟩ bound
  refine effect_actWhen (exec_dmcScrubGo value s) (by simp) (fun _ => ?_) bound
  have hd := bits_low_lt value
  dsimp only
  rw [State.when_unbind bound]
  generalize hv : ({ s with unbound := undefinedCase (decide (8 ≤ value % 2 ^ 32)) (.wo (rDMC_SCRUB_CMD.at 0 0)) } : State) = v
  have mm : v.mm = s.mm := by rw [← hv]
  have asked : v.rangeAsked 0 = s.rangeAsked 0 := by
    rw [← hv]
    rfl
  have chan := State.dchan_of_mm mm (bits value 1 0)
  have regs : v.regs = s.regs := by rw [← hv]
  have value' : setBit (v.get DMC_STATUS_SCRUB_BUSY) (bits value 1 0) < 2 ^ DMC_STATUS_SCRUB_BUSY.width := setBit_lt _ _ _ (State.get_lt _ _ _ _) hd
  rw [asked, State.askScrub_starts (by rw [chan]; exact idle) (by rw [chan]; exact empty) rfl]
  refine ⟨?_, ?_, ?_, OnlyRegs.after ?_, ?_, scrubAsked_keeps ?_ ?_ _ _, KeepsHost.after ?_ _ _, KeepsMedia.after ?_ _ _,
    KeepsPower.after ?_ _ _, KeepsFaults.after ?_ _ _⟩
  · rw [after_dchan, State.dchan_of_mm (State.set_mm _ _ _ _ _), State.modDchan_dchan]
    simp [State.rangeAsked, ← hv]
  · rw [after_dchan, State.dchan_of_mm (State.set_mm _ _ _ _ _), State.modDchan_dchan]
  · rw [get_after_memory _ _ _ (by decide), State.get_set _ _ _ _ _ (by decide)]
    refine (congrArg (bit · (bits value 1 0)) (Nat.mod_eq_of_lt value')).trans ?_
    rw [bit_setBit]
    simp
  · exact fun k hk hs => (onlyRegs_set _ _ _ _ _ k hk hs).trans (by rw [State.modDchan_regs, State.modDchan_regs, regs])
  · simp [undefinedCase, ← hv]
  · refine ChanOnly.trans ?_ (.of_mm (State.set_mm _ _ _ _ _))
    exact (ChanOnly.of_mm mm).trans ((chanOnly_modDchan _ _ _).trans (chanOnly_modDchan _ _ _))
  · simp [← hv]
  · simp [KeepsHost, ← hv]
  · simp [KeepsMedia, ← hv]
  · simp [KeepsPower, ← hv]
  · simp [KeepsFaults, ← hv]

theorem row_dmcScrubGo_queued (value d : Nat) (r : DScrub) (s : State) : Rows.dmcScrubGo_queued value d r s := by
  rintro ⟨rfl, busy⟩ bound
  refine effect_actWhen (exec_dmcScrubGo value s) (by simp) (fun _ => ?_) bound
  dsimp only
  rw [State.when_unbind bound]
  generalize hv : ({ s with unbound := undefinedCase (decide (8 ≤ value % 2 ^ 32)) (.wo (rDMC_SCRUB_CMD.at 0 0)) } : State) = v
  have mm : v.mm = s.mm := by rw [← hv]
  have asked : v.rangeAsked 0 = s.rangeAsked 0 := by
    rw [← hv]
    rfl
  have chan := State.dchan_of_mm mm (bits value 1 0)
  rw [asked, State.askScrub_queues (by rw [chan]; exact busy), chan]
  have all : ∃ w, (if (s.dchan (bits value 1 0)).scrubQ.length < 3 then v.modDchan (bits value 1 0) fun c => { c with scrubQ := c.scrubQ ++ [s.rangeAsked 0] }
      else v) = w ∧ ChanOnly (bits value 1 0) s w ∧ w.dchan (bits value 1 0) = { s.dchan (bits value 1 0) with
        scrubQ := if (s.dchan (bits value 1 0)).scrubQ.length < 3 then (s.dchan (bits value 1 0)).scrubQ ++ [s.rangeAsked 0]
          else (s.dchan (bits value 1 0)).scrubQ } ∧ ∃ m, w = { v with mm := m } := by
    split
    · exact ⟨_, rfl, (ChanOnly.of_mm mm).trans (chanOnly_modDchan v _ _), by rw [← chan]; exact State.modDchan_dchan v _ _, _, rfl⟩
    · exact ⟨v, rfl, .of_mm mm, chan, _, rfl⟩
  obtain ⟨_, e, only, chan', m, rfl⟩ := all
  rw [e]
  refine ⟨?_, ?_, OnlyRegs.after (onlyRegs_of_eq [] (by rw [← hv])), ?_, scrubAsked_keeps only ?_ _ _, KeepsHost.after ?_ _ _, KeepsMedia.after ?_ _ _,
    KeepsPower.after ?_ _ _, KeepsFaults.after ?_ _ _⟩
  · rw [after_dchan, chan']
    exact busy
  · rw [after_dchan, chan']
    rfl
  · simp [undefinedCase, ← hv]
  · simp [← hv]
  · simp [KeepsHost, ← hv]
  · simp [KeepsMedia, ← hv]
  · simp [KeepsPower, ← hv]
  · simp [KeepsFaults, ← hv]

-- the end of a range

theorem Counts.trans {i m n : Nat} (h : Counts f i m s t) (g : Counts f i n t u) : Counts f i (m + n) s u := by
  unfold Counts at *
  rw [g, h]
  omega

theorem Counts.zero (i : Nat) (s : State) : Counts f i 0 s s := by
  have := State.get_lt s f i 0
  unfold Counts
  omega

/-- Corrected bursts are counted one by one; of the channel they reach its candidates, its write backs and the corrections of its rows. -/
theorem dramCorrected_each (hd : d < 4) (l : List Nat) (s : State) :
    Protects (countKeys DMC_CE_CNT d) s (s.each l fun a s => s.scrubbed d a 1)
      ∧ Counts DMC_CE_CNT d l.length s (s.each l fun a s => s.scrubbed d a 1)
      ∧ ∃ m n w r, (s.each l fun a s => s.scrubbed d a 1).dchan d = { s.dchan d with cands := m, nextId := n, waiting := w, ceRows := r } := by
  induction l generalizing s with
  | nil => exact ⟨.refl _ s, .zero d s, _, _, _, _, rfl⟩
  | cons a l ih =>
    obtain ⟨protects, counts, m, n, w, r, chan⟩ := dramCorrected_facts hd s a
    obtain ⟨protects', counts', m', n', w', r', chan'⟩ := ih (s.dramCorrected d a)
    rw [State.each, State.scrubbed_corrected]
    refine ⟨protects.trans protects', ?_, m', n', w', r', by rw [chan', chan]⟩
    rw [List.length_cons, Nat.add_comm]
    exact counts.trans counts'

/-- The summary of a range is shown and its end raised, and the channel scrubs no more (R348). -/
def State.rangeEnded (s : State) (d bursts corrected failed first : Nat) : State :=
  let s := (s.set DMC_SCRUB_SUM bursts 0).set DMC_SCRUB_SUM corrected 1
  let s := (s.set DMC_SCRUB_SUM failed 2).set DMC_SCRUB_SUM first 3
  let s := s.set DMC_STATUS_SCRUB_DONE (setBit (s.get DMC_STATUS_SCRUB_DONE) d)
  let s := s.set DMC_STATUS_SCRUB_BUSY (clrBit (s.get DMC_STATUS_SCRUB_BUSY) d)
  (s.raise (82 + 4 * d)).modDchan d fun c => { c with scrub := none }

def rangeKeys : List Nat :=
  [DMC_SCRUB_SUM.key 0 0, DMC_SCRUB_SUM.key 1 0, DMC_SCRUB_SUM.key 2 0, DMC_SCRUB_SUM.key 3 0, DMC_STATUS_SCRUB_DONE.key 0 0,
   DMC_STATUS_SCRUB_BUSY.key 0 0]

theorem rangeEnded_facts (hd : d < 4) (s : State) (a b c e : Nat) :
    Protects rangeKeys s (s.rangeEnded d a b c e) ∧ ChanOnly d s (s.rangeEnded d a b c e) ∧ (s.rangeEnded d a b c e).fw = s.fw
      ∧ (s.rangeEnded d a b c e).dchan d = { s.dchan d with scrub := none }
      ∧ ((s.rangeEnded d a b c e).get DMC_SCRUB_SUM 0 = a % 2 ^ 32 ∧ (s.rangeEnded d a b c e).get DMC_SCRUB_SUM 1 = b % 2 ^ 32
        ∧ (s.rangeEnded d a b c e).get DMC_SCRUB_SUM 2 = c % 2 ^ 32 ∧ (s.rangeEnded d a b c e).get DMC_SCRUB_SUM 3 = e % 2 ^ 32)
      ∧ bit ((s.rangeEnded d a b c e).get DMC_STATUS_SCRUB_DONE) d = true ∧ bit ((s.rangeEnded d a b c e).get DMC_STATUS_SCRUB_BUSY) d = false
      ∧ Raises (82 + 4 * d) s (s.rangeEnded d a b c e) := by
  have pend {f : Field} {i : Nat} (h : f.key i 0 < 8 * reportBase) : EVR_PEND.key ((82 + 4 * d) / 32) 0 ≠ f.key i 0 :=
    Nat.ne_of_gt ((below_pend h).trans_le (pend_key_ge _))
  unfold State.rangeEnded
  extract_lets s1 s2 s3 s4
  have sums : Protects rangeKeys s s2 :=
    ((((Protects.refl _ s).set (by decide) (by decide)).set (by decide) (by decide)).set (by decide) (by decide)).set (by decide) (by decide)
  have set : Protects rangeKeys s s4 := (sums.set (by decide) (by decide)).set (by decide) (by decide)
  have mm : (s4.raise (82 + 4 * d)).mm = s.mm := by simp [s1, s2, s3, s4]
  have shown {f : Field} {i : Nat} (h : f.key i 0 < 8 * reportBase) : ((s4.raise (82 + 4 * d)).modDchan d fun c => { c with scrub := none }).get f i
      = s4.get f i := (State.get_of_regs rfl _ _ _).trans (State.get_raise_ne s4 (82 + 4 * d) 0 f i 0 (pend h))
  have sum {i : Nat} (h : DMC_STATUS_SCRUB_BUSY.key 0 0 ≠ DMC_SCRUB_SUM.key i 0 ∧ DMC_STATUS_SCRUB_DONE.key 0 0 ≠ DMC_SCRUB_SUM.key i 0) :
      s4.get DMC_SCRUB_SUM i = s2.get DMC_SCRUB_SUM i :=
    (State.get_set_ne _ _ _ _ _ _ _ _ h.1).trans (State.get_set_ne _ _ _ _ _ _ _ _ h.2)
  have done : setBit (s2.get DMC_STATUS_SCRUB_DONE) d < 2 ^ DMC_STATUS_SCRUB_DONE.width := setBit_lt _ _ _ (State.get_lt _ _ _ _) hd
  have busy : clrBit (s3.get DMC_STATUS_SCRUB_BUSY) d < 2 ^ DMC_STATUS_SCRUB_BUSY.width := lt_of_le_of_lt (clrBit_le _ _) (State.get_lt _ _ _ _)
  refine ⟨(set.raise _ _).modDchan _ _, (ChanOnly.of_mm mm).trans (chanOnly_modDchan _ d _), ?_, ?_, ⟨?_, ?_, ?_, ?_⟩, ?_, ?_, ?_⟩
  · simp [s1, s2, s3, s4]
  · rw [State.modDchan_dchan, State.dchan_of_mm mm]
  · rw [shown (by decide), sum (by decide)]
    iterate 3 refine (State.get_set_ne _ _ _ _ _ _ _ _ (by decide)).trans ?_
    exact State.get_set _ _ _ _ _ (by decide)
  · rw [shown (by decide), sum (by decide)]
    iterate 2 refine (State.get_set_ne _ _ _ _ _ _ _ _ (by decide)).trans ?_
    exact State.get_set _ _ _ _ _ (by decide)
  · rw [shown (by decide), sum (by decide)]
    refine (State.get_set_ne _ _ _ _ _ _ _ _ (by decide)).trans ?_
    exact State.get_set _ _ _ _ _ (by decide)
  · rw [shown (by decide), sum (by decide)]
    exact State.get_set _ _ _ _ _ (by decide)
  · rw [shown (by decide), State.get_set_ne _ _ _ _ _ _ _ _ (by decide), State.get_set _ _ _ _ _ (by decide), Nat.mod_eq_of_lt done, bit_setBit]
    simp
  · rw [shown (by decide), State.get_set _ _ _ _ _ (by decide), Nat.mod_eq_of_lt busy, bit_clrBit_same]
  · exact ((raises_raise _ _ _ (by omega)).since set.2.2).kept (.of_eq rfl rfl)

/-- What the bursts of a range gave: those corrected, then those lost. -/
def State.rangeRead (s : State) (d : Nat) (corrected failed : List Nat) : State :=
  (s.each corrected fun a s => s.scrubbed d a 1).each failed fun a s => s.scrubbed d a 2

/-- Where the first burst lost lies (Table 12.10). -/
def firstFailed (l : List Nat) : Nat := match l with | [] => 0 | a :: _ => a / 64 % 2 ^ 29

theorem effect_dramScrubRangeEnd {ch : Nat} {corrected failed : List Nat} {r : DScrub} {P : State → Prop} (running : (s.dchan ch).scrub = some r)
    (ticket : r.ticket = none) (inside : ∀ a ∈ corrected ++ failed, r.start ≤ a ∧ a < r.start + 65536 * r.len)
    (last : ch < 4 → ((s.rangeRead ch corrected failed).dchan ch).scrubQ = [])
    (h : ch < 4 → P (s.after s.now ((s.rangeRead ch corrected failed).rangeEnded ch (r.len * 1024) corrected.length failed.length (firstFailed failed)))) :
    Effect (.dramScrubRangeEnd ch corrected failed) s (s.inModes [.boot, .hold, .run, .service] = true ∧ ch < 4 ∧ s.chLive ch = true
      ∧ r.since + s.scrubNs ch (65536 * r.len) ≤ s.now) P := by
  have keepC : corrected.filter (fun a => decide (r.start ≤ a) && decide (a < r.start + 65536 * r.len)) = corrected :=
    List.filter_eq_self.2 fun a ha => by simpa using inside a (List.mem_append_left _ ha)
  have keepF : failed.filter (fun a => decide (r.start ≤ a) && decide (a < r.start + 65536 * r.len)) = failed :=
    List.filter_eq_self.2 fun a ha => by simpa using inside a (List.mem_append_right _ ha)
  refine effect_actWhen (b := s.inModes [.boot, .hold, .run, .service] && ch < 4 && decide (r.since + s.scrubNs ch (65536 * r.len) ≤ s.now) && s.chLive ch)
    (f := fun s => ((s.rangeRead ch corrected failed).rangeEnded ch (r.len * 1024) corrected.length failed.length (firstFailed failed)).scrubNext ch)
    ?_ (by simp; tauto) fun ⟨_, hd, _⟩ => ?_
  · show execDramScrubRangeEnd ch corrected failed s = _
    unfold execDramScrubRangeEnd actWhen act actTo
    simp only [running, keepC, keepF, ticket, State.ticketEnd]
    rfl
  · obtain ⟨-, -, -, chan, -⟩ := rangeEnded_facts hd (s.rangeRead ch corrected failed) (r.len * 1024) corrected.length failed.length (firstFailed failed)
    have over' := h hd
    generalize (s.rangeRead ch corrected failed).rangeEnded ch (r.len * 1024) corrected.length failed.length (firstFailed failed) = v at *
    have none : v.scrubNext ch = v := by
      unfold State.scrubNext
      simp [chan, last hd]
    rwa [none]

theorem row_dramScrubRangeEnd (ch : Nat) (r : DScrub) (s : State) : Rows.dramScrubRangeEnd ch r s := by
  rintro ⟨running, ticket, empty⟩
  refine effect_dramScrubRangeEnd running ticket (by simp) (fun _ => empty) fun hd => ?_
  have read : s.rangeRead ch [] [] = s := rfl
  rw [read]
  obtain ⟨protects, only, fw, chan, ⟨sum0, sum1, sum2, sum3⟩, done, busy, raises⟩ :=
    rangeEnded_facts hd s (r.len * 1024) ([] : List Nat).length ([] : List Nat).length (firstFailed [])
  generalize s.rangeEnded ch (r.len * 1024) ([] : List Nat).length ([] : List Nat).length (firstFailed []) = v at *
  obtain ⟨mg, fb, tp, -⟩ := protects.1.units
  obtain ⟨host, media, power⟩ := protects.keeps_after s s.now
  refine ⟨?_, ?_, ?_, ?_, ?_, ?_, ?_, raises.after, scrubAsked_keeps only ⟨mg, fb, fw, tp⟩ _ _, host, media, power⟩
  · rw [after_dchan, chan]
  · rw [get_after_memory _ _ _ (by decide), sum0]
  · rw [get_after_memory _ _ _ (by decide), sum1]
    rfl
  · rw [get_after_memory _ _ _ (by decide), sum2]
    rfl
  · rw [get_after_memory _ _ _ (by decide), sum3]
    rfl
  · rwa [get_after_memory _ _ _ (by decide)]
  · rwa [get_after_memory _ _ _ (by decide)]

/-- Of at most one burst lost, the count, and that the channel goes on (R341). -/
theorem rangeRead_facts (hd : d < 4) {s : State} (first : (s.dchan d).ueTimes = []) (limit : s.get DMC_CTRL_UE_LOSS ≠ 0) (corrected : List Nat)
    {failed : List Nat} (single : failed.length ≤ 1) :
    Protects (countKeys DMC_CE_CNT d ++ failKeys d) s (s.rangeRead d corrected failed)
      ∧ Counts DMC_CE_CNT d corrected.length s (s.rangeRead d corrected failed) ∧ Counts DMC_UE_CNT d failed.length s (s.rangeRead d corrected failed)
      ∧ ((s.rangeRead d corrected failed).dchan d).scrubQ = (s.dchan d).scrubQ := by
  obtain ⟨protects, counts, m, n, w, r, chan⟩ := dramCorrected_each hd corrected s
  obtain ⟨-, belowU, rowsU, -⟩ := dmcCounters_layout d hd DMC_UE_CNT (by decide)
  obtain ⟨-, belowC, rowsC, -⟩ := dmcCounters_layout d hd DMC_CE_CNT (by decide)
  have apart := (show ∀ d < 4, DMC_UE_CNT.key d 0 ∉ countKeys DMC_CE_CNT d ∧ DMC_CE_CNT.key d 0 ∉ failKeys d
    ∧ DMC_CTRL_UE_LOSS.key 0 0 ∉ countKeys DMC_CE_CNT d by decide) d hd
  unfold State.rangeRead
  generalize (s.each corrected fun a s => s.scrubbed d a 1) = u at *
  have still : Counts DMC_UE_CNT d 0 s u := (Counts.zero d s).between rfl (protects.get ⟨belowU, rowsU, apart.1⟩)
  have protects' := protects.mono (M := countKeys DMC_CE_CNT d ++ failKeys d) fun _ h => List.mem_append_left _ h
  match failed, single with
  | [], _ => exact ⟨protects', counts, still, by rw [State.each, chan]⟩
  | [a], _ =>
    obtain ⟨fails, ue, -, -, -, m', chan'⟩ := dramUncorrectable_facts hd (s := u) (by rw [chan]; exact first)
      (by rw [protects.get ⟨by decide, by decide, apart.2.2⟩]; exact limit) a 5 0x31
    rw [State.each, State.each, State.scrubbed_failed]
    exact ⟨protects'.trans (fails.mono fun _ h => List.mem_append_right _ h), counts.between rfl (fails.get ⟨belowC, rowsC, apart.2.1⟩),
      Counts.trans still ue, by rw [chan', chan]⟩

theorem row_dramScrubRangeEnd_found (ch : Nat) (corrected failed : List Nat) (r : DScrub) (s : State) :
    Rows.dramScrubRangeEnd_found ch corrected failed r s := by
  rintro ⟨running, ticket, empty, inside, single, first, limit⟩
  refine effect_dramScrubRangeEnd running ticket inside (fun hd => ?_) fun hd => ?_
  · rw [(rangeRead_facts hd first limit corrected single).2.2.2, empty]
  obtain ⟨reads, ce, ue, -⟩ := rangeRead_facts hd first limit corrected single
  generalize s.rangeRead ch corrected failed = u at *
  obtain ⟨ends, -, -, chan, ⟨-, sum1, sum2, sum3⟩, done, busy, -⟩ :=
    rangeEnded_facts hd u (r.len * 1024) corrected.length failed.length (firstFailed failed)
  generalize u.rangeEnded ch (r.len * 1024) corrected.length failed.length (firstFailed failed) = v at *
  obtain ⟨-, belowU, rowsU, -⟩ := dmcCounters_layout ch hd DMC_UE_CNT (by decide)
  obtain ⟨-, belowC, rowsC, -⟩ := dmcCounters_layout ch hd DMC_CE_CNT (by decide)
  have apart := (show ∀ d < 4, DMC_UE_CNT.key d 0 ∉ rangeKeys ∧ DMC_CE_CNT.key d 0 ∉ rangeKeys by decide) ch hd
  obtain ⟨host, media, power⟩ := ((reads.mono (M := countKeys DMC_CE_CNT ch ++ failKeys ch ++ rangeKeys) fun _ h => List.mem_append_left _ h).trans
    (ends.mono fun _ h => List.mem_append_right _ h)).keeps_after s s.now
  refine ⟨?_, ?_, ?_, ?_, Counts.after_memory ?_ (by decide) _ _, Counts.after_memory ?_ (by decide) _ _, ?_, ?_, host, media, power⟩
  · rw [after_dchan, chan]
  · rw [get_after_memory _ _ _ (by decide), sum1]
  · rw [get_after_memory _ _ _ (by decide), sum2]
    exact Nat.mod_eq_of_lt (by omega)
  · rw [get_after_memory _ _ _ (by decide), sum3]
    cases failed with
    | nil => rfl
    | cons a l => exact Nat.mod_eq_of_lt ((Nat.mod_lt _ (by decide)).trans (by decide))
  · exact ce.between rfl (ends.get ⟨belowC, rowsC, apart.2⟩)
  · exact ue.between rfl (ends.get ⟨belowU, rowsU, apart.1⟩)
  · rwa [get_after_memory _ _ _ (by decide)]
  · rwa [get_after_memory _ _ _ (by decide)]

/-- Settles O29: every operation of the memory controllers changes the memories, registers, the log's queue and the event router alone, and each row
follows from what its operations set. -/
theorem memoryRepairAndScrub : Obligations.MemoryRepairAndScrub :=
  ⟨row_dramSoftRepair, row_dramSoftRepair_fences, row_dramSoftRepair_noFence, row_dramRepairEnd, row_dramRepairEnd_poison, row_dramPatrolScrub,
    row_dramPatrolScrub_uncorrectable, row_dmcScrubGo, row_dmcScrubGo_queued, row_dramScrubRangeEnd, row_dramScrubRangeEnd_found,
    row_sramCorrectedWord, row_sramCorrectedWord_proposes, row_sramCorrectedWord_invalid, row_sramCorrectedWord_scrub, row_sramUncorrectableWord,
    row_sramUncorrectableWord_dma, row_sramUncorrectableWord_table, row_sramUncorrectableWord_invalid, row_mpuDmaRearm, row_mpuScrubGo, row_sramScrubEnd⟩

end Sys2Proof.Machine
end

section
/-!
SUPPORT. The links of the causeway (chapter 13): what sending on them and changing a port's state reach, below the event router's pending words and in
the fabric's own state (R358 to R365, R369).
-/

namespace Sys2Proof.Machine

variable {L M : List Nat} {s t u : State}

-- the state of a port

theorem State.cwPort_modCw (s : State) (p q : Nat) (f : CwPort → CwPort) :
    (s.modCw p f).cwPort q = if p = q then f (s.cwPort p) else s.cwPort q := by
  unfold State.modCw State.cwPort NMap.lookD
  simp only [NMap.look_put]
  split <;> rfl

@[simp] theorem State.cwPort_modCw_same (s : State) (p : Nat) (f : CwPort → CwPort) : (s.modCw p f).cwPort p = f (s.cwPort p) := by
  rw [State.cwPort_modCw, if_pos rfl]

theorem State.cwPort_of_fb (h : t.fb = s.fb) (p : Nat) : t.cwPort p = s.cwPort p := by
  unfold State.cwPort
  rw [h]

@[simp] theorem State.cwPort_after (s : State) (n : Nat) (t : State) (p : Nat) : (s.after n t).cwPort p = t.cwPort p := State.cwPort_of_fb (by simp) p

theorem State.cwState_after (s : State) (n : Nat) (t : State) (p : Nat) : (s.after n t).cwState p = t.cwState p :=
  get_after_memory s t n (by decide) p 0

theorem State.cwState_of_regs (h : t.regs = s.regs) (p : Nat) : t.cwState p = s.cwState p := State.get_of_regs h _ _ _

@[simp] theorem State.cwState_modCw (s : State) (p q : Nat) (f : CwPort → CwPort) : (s.modCw p f).cwState q = s.cwState q := rfl

/-- A register of the four causeway ports has no fifth place. -/
theorem cwp_lt {f : Field} {p : Nat} (hf : f.reg.first = 0 ∧ f.reg.count = 4) (h : f.reg.has p 0 = true) : p < 4 := by
  obtain ⟨first, count⟩ := hf
  simp [Reg.has, first, count] at h
  omega

-- which parts of the state are reached

/-- Nothing but the fabric, registers, the event router and what is put out has changed; before the pending words no field has changed but those at the
bit addresses `L`; and no event is lost. -/
def Carries (L : List Nat) (s t : State) : Prop :=
  FabricOnly s t ∧ (∀ k, k < 8 * rEVR_PEND.addr → k ∉ L → t.regs.look k = s.regs.look k) ∧ EventsKept s t

theorem Carries.refl (L : List Nat) (s : State) : Carries L s s := ⟨.refl s, fun _ _ _ => rfl, .refl s⟩

theorem Carries.trans (h : Carries L s t) (g : Carries L t u) : Carries L s u :=
  ⟨h.1.trans g.1, fun k hk hl => (g.2.1 k hk hl).trans (h.2.1 k hk hl), h.2.2.trans g.2.2⟩

theorem Carries.mono (h : Carries L s t) (hm : ∀ k ∈ L, k ∈ M) : Carries M s t :=
  ⟨h.1, fun k hk hl => h.2.1 k hk fun g => hl (hm k g), h.2.2⟩

theorem Carries.fabric (h : Carries L s t) (f : FabricState) : Carries L s { t with fb := f } :=
  h.trans ⟨(FabricOnly.refl t).fabric f, fun _ _ _ => rfl, .of_eq rfl rfl⟩

theorem Carries.modCw (h : Carries L s t) (p : Nat) (f : CwPort → CwPort) : Carries L s (t.modCw p f) := h.fabric _

theorem Carries.put (h : Carries L s t) (o : Out) : Carries L s (t.put o) :=
  h.trans ⟨(FabricOnly.refl t).put o, fun _ _ _ => by rw [State.put_regs], .of_eq (State.put_regs t o) (by rw [State.put_ev])⟩

/-- A field that lies in `L`, where its register has that place. -/
theorem Carries.set (h : Carries L s t) {f : Field} {i j : Nat} (hf : f.reg.has i j = true → f.key i j ∈ L ∧ f.key i j < 8 * rEVR_PEND.addr) (v : Nat) :
    Carries L s (t.set f v i j) := by
  by_cases has : f.reg.has i j = true
  · obtain ⟨mem, pend⟩ := hf has
    exact h.trans ⟨(FabricOnly.refl t).set f v i j, fun k _ hl => State.look_set t f v i j k fun e => hl (e ▸ mem), (EventsKept.refl t).set pend⟩
  · rw [show t.set f v i j = t from if_neg has]
    exact h

theorem Carries.raise (h : Carries L s t) (n q : Nat) : Carries L s (t.raise n q) :=
  h.trans ⟨(FabricOnly.refl t).raise n q,
    fun _ hk _ => State.look_set t EVR_PEND _ _ 0 _ (Nat.ne_of_gt (hk.trans_le (pend_key_ge _))), (EventsKept.refl t).raise n q⟩

theorem Carries.fired (h : Carries L s t) (l : List (Nat × Nat)) : Carries L s { t with ev := { t.ev with fired := l } } :=
  h.trans ⟨⟨_, _, _, _, [], rfl⟩, fun _ _ _ => rfl, .of_eq rfl rfl⟩

theorem Carries.bump (h : Carries L s t) {b : CntBlock} {f : Field} {i si : Nat}
    (hf : f.reg.has i 0 = true → f.key i 0 ∈ L ∧ f.key i 0 < 8 * rEVR_PEND.addr)
    (hs : b.sat.reg.has si 0 = true → b.sat.key si 0 ∈ L ∧ b.sat.key si 0 < 8 * rEVR_PEND.addr) (n o : Nat) : Carries L s (t.bump b f i n o si) := by
  unfold State.bump State.saturated
  dsimp only
  split
  · split
    · exact h.set hf _
    · exact (((h.set hf _).fired _).set hs _).raise _ _
  · exact h.set hf _

theorem Carries.each (h : Carries L s t) {α : Type} {f : α → State → State} (hf : ∀ a s, Carries L s (f a s)) (l : List α) : Carries L s (t.each l f) :=
  h.trans (State.each_rel (Carries.refl L) .trans hf l t)

theorem Carries.get (h : Carries L s t) {f : Field} {i j : Nat} (hf : f.key i j ∉ L ∧ f.key i j < 8 * rEVR_PEND.addr) : t.get f i j = s.get f i j :=
  State.get_congr _ _ _ _ _ (h.2.1 _ hf.2 hf.1)

theorem FabricOnly.keeps_after (h : FabricOnly s t) (r : State) (n : Nat) :
    KeepsHost s (r.after n t) ∧ KeepsMedia s (r.after n t) ∧ KeepsPower s (r.after n t) := by
  obtain ⟨_, _, _, _, _, rfl⟩ := h
  exact ⟨KeepsHost.after (by simp [KeepsHost]) r n, KeepsMedia.after (by simp [KeepsMedia]) r n, KeepsPower.after (by simp [KeepsPower]) r n⟩

theorem FabricOnly.faults_after (h : FabricOnly s t) (r : State) (n : Nat) : KeepsFaults s (r.after n t) := by
  obtain ⟨_, _, _, _, _, rfl⟩ := h
  exact KeepsFaults.after (by simp [KeepsFaults]) r n

theorem FabricOnly.now (h : FabricOnly s t) : t.now = s.now := by
  obtain ⟨_, _, _, _, _, rfl⟩ := h
  rfl

-- sending

/-- What sending leaves of a port: its retry buffer has grown at the end, and beside it only sequence number, queue, credits, units freed and the
turn of the inputs have changed. -/
def PortSends (c d : CwPort) : Prop :=
  ∃ tx l q cr fr li, d = { c with txSeq := tx, sent := c.sent ++ l, outQ := q, credits := cr, freed := fr, lastIn := li }

theorem PortSends.refl (c : CwPort) : PortSends c c := ⟨_, [], _, _, _, _, by rw [List.append_nil]⟩

theorem PortSends.trans {c d e : CwPort} (h : PortSends c d) (g : PortSends d e) : PortSends c e := by
  obtain ⟨_, l, _, _, _, _, rfl⟩ := h
  obtain ⟨_, m, _, _, _, _, rfl⟩ := g
  exact ⟨_, l ++ m, _, _, _, _, by rw [List.append_assoc]⟩

/-- The registers that sending reaches: the frames sent by each port, and the mark that a counter of it is full (R381). -/
def trafficKeys : List Nat := [0, 1, 2, 3].flatMap fun p => [CWP_TX_FRAMES.key p 0, CWP_PSTAT_SAT.key p 0]

/-- Frames have been sent or queued, and nothing else has happened. -/
def Sends (s t : State) : Prop :=
  Carries trafficKeys s t ∧ (∃ ports, t.fb = { s.fb with ports := ports }) ∧ ∀ p, PortSends (s.cwPort p) (t.cwPort p)

theorem Sends.refl (s : State) : Sends s s := ⟨.refl _ s, ⟨_, rfl⟩, fun _ => .refl _⟩

theorem Sends.trans (h : Sends s t) (g : Sends t u) : Sends s u := by
  obtain ⟨hc, ⟨_, hf⟩, hp⟩ := h
  obtain ⟨gc, ⟨_, gf⟩, gp⟩ := g
  exact ⟨hc.trans gc, ⟨_, by rw [gf, hf]⟩, fun p => (hp p).trans (gp p)⟩

theorem Sends.modCw (h : Sends s t) (p : Nat) {f : CwPort → CwPort} (hf : ∀ c, PortSends c (f c)) : Sends s (t.modCw p f) := by
  refine h.trans ⟨(Carries.refl _ t).modCw p f, ⟨_, rfl⟩, fun q => ?_⟩
  rw [State.cwPort_modCw]
  split
  · next e => exact e ▸ hf _
  · exact .refl _

/-- A change of registers and of what is put out. -/
theorem Sends.of_carries (h : Sends s t) (c : Carries trafficKeys t u) (e : u.fb = t.fb) : Sends s u :=
  h.trans ⟨c, ⟨_, e⟩, fun p => by rw [State.cwPort_of_fb e]; exact .refl _⟩

theorem carries_bumpCwp (s : State) {f : Field} (hf : f.reg.first = 0 ∧ f.reg.count = 4)
    (hl : ∀ p < 4, f.key p 0 ∈ L ∧ f.key p 0 < 8 * rEVR_PEND.addr) (hs : ∀ p < 4, CWP_PSTAT_SAT.key p 0 ∈ L) (p : Nat) :
    Carries L s (s.bumpCwp f p) :=
  (Carries.refl L s).bump (fun h => hl p (cwp_lt hf h))
    (fun h => have lt : p < 4 := cwp_lt (f := CWP_PSTAT_SAT) (by decide) h
      ⟨hs p lt, (show ∀ p < 4, CWP_PSTAT_SAT.key p 0 < 8 * rEVR_PEND.addr by decide) p lt⟩) _ _

theorem sends_frame (s : State) (p : Nat) (b : List Nat) : Sends s ((s.put (.frame p b)).bumpCwp CWP_TX_FRAMES p) :=
  (Sends.refl s).of_carries (((Carries.refl _ s).put _).trans (carries_bumpCwp _ (by decide) (by decide) (by decide) p))
    (by simp [State.bumpCwp])

theorem sends_sendLink (s : State) (p type seq : Nat) (b : List Nat) : Sends s (s.sendLink p type seq b) := sends_frame s p _

theorem sends_freeUnits (s : State) (p vc n : Nat) : Sends s (s.freeUnits p vc n) := by
  have freed (s : State) (f : CwPort → List Nat) : Sends s (s.modCw p fun c => { c with freed := f c }) :=
    (Sends.refl s).modCw p fun c => ⟨_, [], _, _, _, _, by rw [List.append_nil]⟩
  unfold State.freeUnits
  simp only
  split
  · split
    · exact ((freed s _).trans (freed _ _)).trans (sends_sendLink _ _ _ _ _)
    · exact freed s _
  · exact .refl s

theorem sends_transmit (p n : Nat) (s : State) : Sends s (State.transmit p n s) := by
  induction n generalizing s with
  | zero => exact .refl s
  | succ n ih =>
    unfold State.transmit
    split
    · exact .refl s
    · split
      · exact .refl s
      · exact ((((Sends.refl s).modCw p fun c => ⟨_, _, _, _, _, _, rfl⟩).trans (sends_frame _ p _)).trans (sends_freeUnits _ _ _ _)).trans (ih _)

theorem sends_enqueueFrame (s : State) (p i : Nat) (f : Frame) : Sends s (s.enqueueFrame p i f) :=
  ((Sends.refl s).modCw p fun c => ⟨_, [], _, _, _, _, by rw [List.append_nil]⟩).trans (sends_transmit _ _ _)

theorem sends_flood (s : State) (l : Lsa) (except : Nat) : Sends s (s.flood l except) :=
  State.each_rel Sends.refl .trans (fun _ s => sends_enqueueFrame s _ _ _) _ s

-- a port's change of state

/-- The registers that the paths' recomputation being asked for, and frames dropped, reach beside: the junction's (R367, R381). -/
def junctionKeys : List Nat :=
  trafficKeys ++ [JNR_HOP_DROP.key 0 0, JNR_STATUS_SAT.key 0 0, JNR_STATUS_JOINED.key 0 0, JNR_STATUS_NODES.key 0 0, JNR_STATUS_RECOMP.key 0 0]

/-- Frames have been sent, queued or set aside, and the node may have advertised itself. -/
def Moves (L : List Nat) (s t : State) : Prop :=
  Carries L s t ∧ (∃ ports q n a nodes, t.fb = { s.fb with ports := ports, localQ := q, ownSeq := n, ownAt := a, nodes := nodes })
    ∧ ∀ p, PortSends (s.cwPort p) (t.cwPort p)

theorem Moves.refl (L : List Nat) (s : State) : Moves L s s := ⟨.refl _ s, ⟨_, _, _, _, _, rfl⟩, fun _ => .refl _⟩

theorem Moves.trans (h : Moves L s t) (g : Moves L t u) : Moves L s u := by
  obtain ⟨hc, ⟨_, _, _, _, _, hf⟩, hp⟩ := h
  obtain ⟨gc, ⟨_, _, _, _, _, gf⟩, gp⟩ := g
  exact ⟨hc.trans gc, ⟨_, _, _, _, _, by rw [gf, hf]⟩, fun p => (hp p).trans (gp p)⟩

theorem Moves.mono (h : Moves L s t) (hm : ∀ k ∈ L, k ∈ M) : Moves M s t := ⟨h.1.mono hm, h.2⟩

theorem Sends.moves (h : Sends s t) (hm : ∀ k ∈ trafficKeys, k ∈ L) : Moves L s t := by
  obtain ⟨hc, ⟨_, hf⟩, hp⟩ := h
  exact ⟨hc.mono hm, ⟨_, _, _, _, _, hf⟩, hp⟩

theorem Moves.of_carries (h : Moves L s t) (c : Carries L t u) (e : u.fb = t.fb) : Moves L s u :=
  h.trans ⟨c, ⟨_, _, _, _, _, e⟩, fun p => by rw [State.cwPort_of_fb e]; exact .refl _⟩

/-- Frames set aside for new paths, and the node's own advertisement. -/
theorem Moves.network (h : Moves L s t) (q : List Frame) (n a : Nat) (nodes : NMap Lsa) :
    Moves L s { t with fb := { t.fb with localQ := q, ownSeq := n, ownAt := a, nodes := nodes } } :=
  h.trans ⟨(Carries.refl _ t).fabric _, ⟨_, _, _, _, _, rfl⟩, fun _ => .refl _⟩

theorem carries_askPaths (s : State) :
    Carries [JNR_STATUS_JOINED.key 0 0, JNR_STATUS_NODES.key 0 0, JNR_STATUS_RECOMP.key 0 0] s s.askPaths :=
  (((Carries.refl _ s).set (fun _ => by decide) _).set (fun _ => by decide) _).set (fun _ => by decide) _

theorem State.askPaths_fb (s : State) : s.askPaths.fb = s.fb := by simp [State.askPaths, State.showJnr]

theorem State.get_askPaths (s : State) : s.askPaths.get JNR_STATUS_RECOMP = 1 := State.get_set _ JNR_STATUS_RECOMP 1 0 0 (by decide)

theorem Moves.askPaths (h : Moves junctionKeys s t) : Moves junctionKeys s t.askPaths :=
  h.of_carries ((carries_askPaths t).mono (by decide)) t.askPaths_fb

theorem moves_originate (s : State) : Moves junctionKeys s s.originate := by
  unfold State.originate
  split
  · exact (((Moves.refl _ s).network s.fb.localQ _ _ _).askPaths).trans ((sends_flood _ _ _).moves (by decide))
  · exact .refl _ s

/-- After the state shown has changed, the frames of a port that leaves UP are dropped or set aside and the node advertises itself (R363, R369). -/
theorem moves_setCw (s : State) (p st : Nat) : Moves junctionKeys (s.set CWP_PSTAT_STATE st p) (s.setCw p st) := by
  have raised (t : State) : Moves junctionKeys t (t.raise (128 + 4 * p)) :=
    (Moves.refl _ t).of_carries ((Carries.refl _ t).raise _ _) (by simp)
  have dropped (t : State) : Moves junctionKeys t (t.bumpJnr JNR_HOP_DROP) :=
    (Moves.refl _ t).of_carries ((Carries.refl _ t).bump (fun _ => by decide) (fun _ => by decide) _ _) (by simp [State.bumpJnr])
  have emptied (t : State) : Moves junctionKeys t (t.modCw p fun c => { c with outQ := [] }) :=
    ((Sends.refl t).modCw p fun c => ⟨_, [], _, _, _, _, by rw [List.append_nil]⟩).moves (by decide)
  unfold State.setCw
  simp only
  split
  · exact .refl _ _
  · refine Moves.askPaths (Moves.trans ?_ (moves_originate _))
    split
    · exact (((raised _).trans (emptied _)).trans (State.each_rel (Moves.refl _) .trans (fun _ t => dropped t) _ _)).network _ _ _ _
    · exact raised _

theorem Carries.setCw (h : Carries L s t) {p : Nat} (hj : ∀ k ∈ junctionKeys, k ∈ L) (hp : ∀ p < 4, CWP_PSTAT_STATE.key p 0 ∈ L) (st : Nat) :
    Carries L s (t.setCw p st) :=
  (h.set (fun has => have lt : p < 4 := cwp_lt (by decide) has
    ⟨hp p lt, (show ∀ p < 4, CWP_PSTAT_STATE.key p 0 < 8 * rEVR_PEND.addr by decide) p lt⟩) st).trans ((moves_setCw t p st).1.mono hj)

theorem portSends_setCw (s : State) (p st q : Nat) : PortSends (s.cwPort q) ((s.setCw p st).cwPort q) := by
  have h := (moves_setCw s p st).2.2 q
  rwa [State.cwPort_of_fb (State.set_fb _ _ _ _ _)] at h

theorem State.setCw_fb (s : State) (p st : Nat) :
    ∃ ports q n a nodes, (s.setCw p st).fb = { s.fb with ports := ports, localQ := q, ownSeq := n, ownAt := a, nodes := nodes } := by
  have h := (moves_setCw s p st).2.1
  rwa [State.set_fb] at h

theorem State.cwState_setCw_set (s : State) (p st : Nat) {q : Nat} (hq : q < 4) : (s.setCw p st).cwState q = (s.set CWP_PSTAT_STATE st p).cwState q :=
  (moves_setCw s p st).1.get
    ((show ∀ q < 4, CWP_PSTAT_STATE.key q 0 ∉ junctionKeys ∧ CWP_PSTAT_STATE.key q 0 < 8 * rEVR_PEND.addr by decide) q hq)

theorem State.cwState_setCw (s : State) {p st : Nat} (hp : p < 4) (hst : st < 8) : (s.setCw p st).cwState p = st := by
  rw [State.cwState_setCw_set s p st hp]
  refine (State.get_set s CWP_PSTAT_STATE st p 0 ((show ∀ p < 4, CWP_PSTAT_STATE.reg.has p 0 = true by decide) p hp)).trans ?_
  exact Nat.mod_eq_of_lt hst

theorem State.cwState_setCw_ne (s : State) {p q : Nat} (st : Nat) (hq : q < 4) (hne : p ≠ q) : (s.setCw p st).cwState q = s.cwState q := by
  rw [State.cwState_setCw_set s p st hq]
  by_cases has : CWP_PSTAT_STATE.reg.has p 0 = true
  · have hp : p < 4 := cwp_lt (by decide) has
    exact State.get_set_ne s _ _ _ _ _ _ _ ((show ∀ p < 4, ∀ q < 4, p ≠ q → CWP_PSTAT_STATE.key p 0 ≠ CWP_PSTAT_STATE.key q 0 by decide) p hp q hq hne)
  · rw [show s.set CWP_PSTAT_STATE st p = s from if_neg has]

/-- A port that enters or leaves UP raises its event, and new paths are asked for (R363, R367). -/
theorem State.setCw_raises (s : State) {p st : Nat} (hp : p < 4) (h : s.cwState p = cwUp ↔ st ≠ cwUp) :
    Raises (128 + 4 * p) s (s.setCw p st) ∧ (s.setCw p st).get JNR_STATUS_RECOMP = 1 := by
  have changed : ¬ (s.cwState p = cwUp) = (st = cwUp) := by
    intro e
    rw [e] at h
    exact iff_not_self h
  have stateSet : EventsKept s (s.set CWP_PSTAT_STATE st p) :=
    (EventsKept.refl s).set ((show ∀ p < 4, CWP_PSTAT_STATE.key p 0 < 8 * rEVR_PEND.addr by decide) p hp)
  have raised : Raises (128 + 4 * p) s ((s.set CWP_PSTAT_STATE st p).raise (128 + 4 * p)) := (raises_raise _ _ _ (by omega)).since stateSet
  unfold State.setCw
  simp only [if_neg changed]
  refine ⟨raised.kept (EventsKept.trans ?_ (carries_askPaths _).2.2), State.get_askPaths _⟩
  refine EventsKept.trans ?_ (moves_originate _).1.2.2
  split
  · refine EventsKept.trans ?_ (.of_eq rfl rfl)
    refine EventsKept.trans (.of_eq rfl rfl) (State.each_rel EventsKept.refl .trans (fun _ t => ?_) _ _)
    exact (EventsKept.refl t).bump (by decide) (by decide)
  · exact .refl _

/-- One that neither enters nor leaves UP shows its new state, and nothing more happens. -/
theorem State.setCw_quiet (s : State) {p st : Nat} (h : s.cwState p = cwUp ↔ st = cwUp) : s.setCw p st = s.set CWP_PSTAT_STATE st p :=
  if_pos (propext h)

end Sys2Proof.Machine
end

section
/-!
SUPPORT. The rows of a causeway port's link layer (R356, R360 to R363).
-/

namespace Sys2Proof.Machine

variable {L : List Nat} {s t u : State} {p : Nat}

@[simp] theorem State.bumpCwp_fb (s : State) (f : Field) (p : Nat) : (s.bumpCwp f p).fb = s.fb := State.bump_fb ..

@[simp] theorem State.bumpCwp_out (s : State) (f : Field) (p : Nat) : (s.bumpCwp f p).out = s.out := State.bump_out ..

@[simp] theorem State.bumpCwp_now (s : State) (f : Field) (p : Nat) : (s.bumpCwp f p).now = s.now := State.bump_now ..

@[simp] theorem State.cwPort_bumpCwp (s : State) (f : Field) (p q : Nat) : (s.bumpCwp f p).cwPort q = s.cwPort q := State.cwPort_of_fb (by simp) q

theorem counts_bumpCwp (s : State) {f : Field} (hf : f ∈ cwpCounters) (hp : p < 4) : Counts f p 1 s (s.bumpCwp f p) := by
  obtain ⟨has, sat, pend⟩ := (show ∀ f ∈ cwpCounters, ∀ p < 4, f.reg.has p 0 = true ∧ CWP_PSTAT_SAT.key p 0 ≠ f.key p 0
    ∧ f.key p 0 < 8 * rEVR_PEND.addr by decide) f hf p hp
  exact counts_bump s has sat pend

theorem counts_after_cwp {f : Field} {n : Nat} (hf : f ∈ cwpCounters) (h : Counts f p n s t) (r : State) (k : Nat) : Counts f p n s (r.after k t) :=
  h.after_memory ((show ∀ f ∈ cwpCounters, rDMC_CTRL.addr ≤ f.reg.addr by decide) f hf) r k

@[simp] theorem State.sendLink_fb (s : State) (p type seq : Nat) (b : List Nat) : (s.sendLink p type seq b).fb = s.fb := by simp [State.sendLink]

/-- A frame of the link layer (Table 13.1, Table 13.2). -/
def State.linkFrame (s : State) (type seq : Nat) (payload : List Nat) : Frame :=
  { type := type, flags := 3, dst := 0, src := s.nodeId, hops := s.hopMax, vc := 0, tag := 0, seq := seq, offset := 0, domain := s.get JNR_CFG_DOMAIN,
    payload := payload, trailerOk := true }

theorem State.linkFrame_modCw (s : State) (p : Nat) (f : CwPort → CwPort) (type seq : Nat) (b : List Nat) :
    (s.modCw p f).linkFrame type seq b = s.linkFrame type seq b := rfl

theorem State.sendLink_out (s : State) (p type seq : Nat) (b : List Nat) :
    (s.sendLink p type seq b).out = .frame p (frameBytes (s.linkFrame type seq b)) :: s.out := by
  unfold State.sendLink
  rw [State.bumpCwp_out, State.out_put rfl]
  rfl

theorem counts_sendLink (s : State) (type seq : Nat) (b : List Nat) (hp : p < 4) : Counts CWP_TX_FRAMES p 1 s (s.sendLink p type seq b) :=
  (counts_bumpCwp (s.put _) (by decide) hp).between (State.get_of_regs (State.put_regs _ _) _ _ _) rfl

/-- A locked port is one of the four, and ports run. -/
theorem State.cwLocked_iff (s : State) (p : Nat) : s.cwLocked p = true ↔ p < 4 ∧ 3 ≤ s.cwState p ∧ s.portsRun = true := by
  simp [State.cwLocked, and_assoc]

-- timers of the link

/-- A port's note of a time or count changes and a frame of the link goes out. -/
theorem linkFrame_sent (s : State) (hp : p < 4) (f : CwPort → CwPort) (type seq : Nat) (b : List Nat) :
    let t := (s.modCw p f).sendLink p type seq b
    t.cwPort p = f (s.cwPort p) ∧ t.fb = { s.fb with ports := s.fb.ports.put p (f (s.cwPort p)) } ∧ t.out.length = s.out.length + 1
      ∧ Counts CWP_TX_FRAMES p 1 s t ∧ FabricOnly s t := by
  refine ⟨(State.cwPort_of_fb (State.sendLink_fb ..) p).trans (by simp), by simp [State.modCw], ?_, ?_, ((FabricOnly.refl s).modCw p f).sendLink _ _ _ _⟩
  · rw [State.sendLink_out]
    rfl
  · exact (counts_sendLink (s.modCw p f) type seq b hp).between rfl rfl

/-- The payload of a HELLO (Table 13.2). -/
def State.helloPayload (s : State) (p : Nat) : List Nat :=
  le 8 deviceSerial ++ le 2 s.nodeId ++ le 2 (s.get JNR_CFG_DOMAIN) ++ [p, s.cwState p] ++ zeros 18

theorem exec_helloTimer (p : Nat) (s : State) : exec (.helloTimer p) s =
    actWhen s (s.cwLocked p && decide ((s.cwPort p).helloAt + s.helloNs ≤ s.now)) fun s =>
      (s.modCw p fun c => { c with helloAt := s.now }).sendLink p 0x01 0 (s.helloPayload p) := rfl

theorem row_helloTimer (port : Nat) (s : State) : Rows.helloTimer port s := by
  refine effect_actWhen (exec_helloTimer port s) (by simp) fun ⟨locked, _⟩ => ?_
  obtain ⟨hp, -, -⟩ := (s.cwLocked_iff port).1 locked
  obtain ⟨-, fb, out, tx, only⟩ := linkFrame_sent s hp (fun c => { c with helloAt := s.now }) 0x01 0 (s.helloPayload port)
  refine ⟨by rw [State.after_out, out], by rw [State.after_fb, fb], counts_after_cwp (by decide) tx s _, ?_, only.keeps_after s _⟩
  rw [State.after_out, State.sendLink_out, State.linkFrame_modCw, List.head?_cons]
  intro b hb
  rw [← Option.mem_some_iff.1 hb]
  unfold State.linkFrame State.helloPayload
  rfl

/-- The sequence number of the last frame accepted. -/
def CwPort.lastSeq (c : CwPort) : Nat := (c.rxSeq + 2 ^ 32 - 1) % 2 ^ 32

theorem exec_ackTimer (p : Nat) (s : State) : exec (.ackTimer p) s =
    actWhen s (decide (p < 4) && s.cwState p == cwUp && (s.cwPort p).sinceAck != 0) fun s =>
      (s.modCw p fun c => { c with sinceAck := 0 }).sendLink p 0x03 (s.cwPort p).lastSeq [] := rfl

theorem row_ackTimer (port : Nat) (s : State) : Rows.ackTimer port s := by
  refine effect_actWhen (exec_ackTimer port s) (by simp [and_assoc]) fun ⟨hp, _⟩ => ?_
  obtain ⟨cw, fb, out, tx, only⟩ := linkFrame_sent s hp (fun c => { c with sinceAck := 0 }) 0x03 (s.cwPort port).lastSeq []
  exact ⟨(State.cwPort_after ..).trans cw, by rw [State.after_out, out], counts_after_cwp (by decide) tx s _, by rw [State.after_fb, fb],
    only.keeps_after s _⟩

/-- The payload of a CREDIT frame: the units freed of each virtual channel (Table 13.2). -/
def CwPort.creditPayload (c : CwPort) : List Nat := le 2 (c.freed.getD 0 0) ++ le 2 (c.freed.getD 1 0) ++ le 2 (c.freed.getD 2 0)

theorem exec_creditReturnTimer (p : Nat) (s : State) : exec (.creditReturnTimer p) s =
    actWhen s (decide (p < 4) && s.cwState p == cwUp && (s.cwPort p).freed.any (· != 0)) fun s =>
      (s.modCw p fun c => { c with freed := [0, 0, 0] }).sendLink p 0x05 0 (s.cwPort p).creditPayload := rfl

theorem row_creditReturnTimer (port : Nat) (s : State) : Rows.creditReturnTimer port s := by
  refine effect_actWhen (exec_creditReturnTimer port s) (by simp [and_assoc]) fun ⟨hp, _⟩ => ?_
  obtain ⟨cw, fb, out, tx, only⟩ := linkFrame_sent s hp (fun c => { c with freed := [0, 0, 0] }) 0x05 0 (s.cwPort port).creditPayload
  exact ⟨(State.cwPort_after ..).trans cw, by rw [State.after_out, out], counts_after_cwp (by decide) tx s _, by rw [State.after_fb, fb],
    only.keeps_after s _⟩

-- acknowledgements and credits

/-- A frame that changes a port's account lets frames that waited go out. -/
theorem accounted (s : State) (hp : p < 4) (f : CwPort → CwPort) (n : Nat) :
    let t := State.transmit p n ((s.bumpCwp CWP_RX_FRAMES p).modCw p f)
    (∃ tx l q cr fr li, t.cwPort p = { f (s.cwPort p) with txSeq := tx, sent := (f (s.cwPort p)).sent ++ l, outQ := q, credits := cr, freed := fr, lastIn := li })
      ∧ (n = 0 → t.cwPort p = f (s.cwPort p) ∧ t.out = s.out) ∧ Counts CWP_RX_FRAMES p 1 s t ∧ { t.fb with ports := s.fb.ports } = s.fb
      ∧ FabricOnly s t := by
  obtain ⟨carries, ⟨_, fb⟩, ports⟩ := sends_transmit p n ((s.bumpCwp CWP_RX_FRAMES p).modCw p f)
  have port := ports p
  rw [State.cwPort_modCw_same, State.cwPort_bumpCwp] at port
  refine ⟨port, ?_, ?_, ?_, FabricOnly.transmit p n (((FabricOnly.refl s).bump _ _ _ _ _ _).modCw p f)⟩
  · rintro rfl
    exact ⟨by simp [State.transmit], by simp [State.transmit, State.modCw]⟩
  · refine (counts_bumpCwp s (by decide) hp).between rfl (carries.get ?_)
    exact (show ∀ p < 4, CWP_RX_FRAMES.key p 0 ∉ trafficKeys ∧ CWP_RX_FRAMES.key p 0 < 8 * rEVR_PEND.addr by decide) p hp
  · rw [fb]
    simp [State.modCw]

theorem row_ackReceived (port seq : Nat) (s : State) : Rows.ackReceived port seq s := by
  let acked (c : CwPort) : CwPort := { c with sent := c.sent.filter (seqAfter ·.seq seq), naks := 0 }
  refine effect_actWhen (f := fun s => State.transmit port (((s.bumpCwp CWP_RX_FRAMES port).modCw port acked).cwPort port).outQ.length
    ((s.bumpCwp CWP_RX_FRAMES port).modCw port acked)) rfl (by simp) fun ⟨hp, _⟩ => ?_
  obtain ⟨⟨_, l, _, _, _, _, cw⟩, still, rx, fb, only⟩ := accounted s hp acked (((s.bumpCwp CWP_RX_FRAMES port).modCw port acked).cwPort port).outQ.length
  refine ⟨by rw [State.cwPort_after, cw], ?_, fun empty => ?_, counts_after_cwp (by decide) rx s _, by simpa using fb, only.keeps_after s _⟩
  · rw [State.cwPort_after, cw]
    exact List.prefix_append _ l
  · obtain ⟨same, out⟩ := still (by simp [acked, empty])
    exact ⟨by rw [State.cwPort_after, same], by rw [State.after_out, out]⟩

theorem row_creditReceived (port vc credits : Nat) (s : State) : Rows.creditReceived port vc credits s := by
  let credited (c : CwPort) : CwPort := { c with credits := c.credits.set vc (c.credits.getD vc 0 + credits) }
  refine effect_actWhen (f := fun s => State.transmit port (((s.bumpCwp CWP_RX_FRAMES port).modCw port credited).cwPort port).outQ.length
    ((s.bumpCwp CWP_RX_FRAMES port).modCw port credited)) rfl (by simp [and_assoc]) fun ⟨hp, _⟩ => ?_
  obtain ⟨⟨_, l, _, _, _, _, cw⟩, still, rx, fb, only⟩ :=
    accounted s hp credited (((s.bumpCwp CWP_RX_FRAMES port).modCw port credited).cwPort port).outQ.length
  refine ⟨fun empty => ?_, ?_, counts_after_cwp (by decide) rx s _, by simpa using fb, only.keeps_after s _⟩
  · obtain ⟨same, out⟩ := still (by simp [credited, empty])
    exact ⟨by rw [State.cwPort_after, same], by rw [State.after_out, out]⟩
  · rw [State.cwPort_after, cw]
    exact List.prefix_append _ l

-- a port goes down

theorem carries_cwGoDown (s : State) (p st : Nat) :
    Carries (junctionKeys ++ [0, 1, 2, 3].map (CWP_PSTAT_STATE.key · 0)) s (s.cwGoDown p st) :=
  ((Carries.refl _ s).setCw (by decide) (by decide) st).modCw _ _

/-- A port that goes down is fresh, and requests and duplicates stay (R362, R363). -/
theorem cwGoDown_effect (s : State) (hp : p < 4) :
    let t := s.cwGoDown p cwDown
    t.cwState p = cwDown ∧ t.cwPort p = CwPort.fresh ∧ (s.cwState p = cwUp → Raises (128 + 4 * p) s t) ∧ t.fb.reqs = s.fb.reqs ∧ t.fb.dups = s.fb.dups := by
  obtain ⟨_, _, _, _, _, fb⟩ := s.setCw_fb p cwDown
  refine ⟨State.cwState_setCw s hp (by decide), State.cwPort_modCw_same .., fun up => ?_, ?_, ?_⟩
  · exact (s.setCw_raises hp (iff_of_true up (by decide))).1.kept (.of_eq rfl rfl)
  · show (s.setCw p cwDown).fb.reqs = _
    rw [fb]
  · show (s.setCw p cwDown).fb.dups = _
    rw [fb]

theorem goneDown (s : State) (hp : p < 4) : let t := s.after s.now (s.cwGoDown p cwDown)
    t.cwState p = cwDown ∧ t.cwPort p = CwPort.fresh ∧ (s.cwState p = cwUp → Raises (128 + 4 * p) s t) ∧ t.fb.reqs = s.fb.reqs ∧ t.fb.dups = s.fb.dups
      ∧ KeepsHost s t ∧ KeepsMedia s t ∧ KeepsPower s t := by
  obtain ⟨state, cw, raises, reqs, dups⟩ := cwGoDown_effect s hp
  exact ⟨(State.cwState_after ..).trans state, (State.cwPort_after ..).trans cw, fun up => (raises up).after, by rw [State.after_fb, reqs],
    by rw [State.after_fb, dups], (carries_cwGoDown s p cwDown).1.keeps_after s _⟩

theorem row_helloDeadTimeout (port : Nat) (s : State) : Rows.helloDeadTimeout port s :=
  effect_actWhen (f := fun s => s.cwGoDown port cwDown) rfl (by simp) fun ⟨locked, _⟩ => goneDown s ((s.cwLocked_iff port).1 locked).1

theorem row_blockLockLoss (port : Nat) (s : State) : Rows.blockLockLoss port s :=
  effect_actWhen (f := fun s => s.cwGoDown port cwDown) rfl Iff.rfl fun locked => goneDown s ((s.cwLocked_iff port).1 locked).1

-- training

theorem State.wakeOut_eq (s : State) (p : Nat) : (s.wakeOut p).regs = s.regs ∧ (s.wakeOut p).fb = s.fb ∧ FabricOnly s (s.wakeOut p) := by
  unfold State.wakeOut
  split
  · exact ⟨State.put_regs .., State.put_fb .., (FabricOnly.refl s).put _⟩
  · exact ⟨rfl, rfl, .refl s⟩

/-- A port that is down enters TRAIN, the wake pattern first (R380). -/
def State.trains (s : State) (p : Nat) : State := if s.cwState p = cwDown then (s.wakeOut p).setCw p cwTrain else s

theorem trains_effect (hp : p < 4) (h : s.cwState p = cwDown ∨ s.cwState p = cwTrain) :
    let t := s.trains p
    t.cwState p = cwTrain ∧ OnlyRegs [CWP_PSTAT_STATE.key p 0] s t ∧ t.fb = s.fb ∧ FabricOnly s t := by
  obtain ⟨regs, fb, only⟩ := s.wakeOut_eq p
  unfold State.trains
  by_cases down : s.cwState p = cwDown
  · have quiet : (s.wakeOut p).setCw p cwTrain = (s.wakeOut p).set CWP_PSTAT_STATE cwTrain p :=
      State.setCw_quiet _ (by rw [State.cwState_of_regs regs, down]; decide)
    rw [if_pos down]
    refine ⟨State.cwState_setCw _ hp (by decide), fun k hk _ => ?_, ?_, ?_⟩
    · rw [quiet, State.look_set _ _ _ _ _ _ (by simpa using Ne.symm (List.ne_of_not_mem_cons hk)), regs]
    · rw [quiet, State.set_fb, fb]
    · rw [quiet]
      exact only.set _ _ _ _
  · rw [if_neg down]
    exact ⟨h.resolve_left down, fun _ _ _ => rfl, rfl, .refl s⟩

/-- A port trained at the rate set says HELLO. -/
def State.saysHello (s : State) (p : Nat) : State :=
  ((s.modCw p fun _ => { CwPort.fresh with helloAt := s.now, heardAt := s.now }).setCw p cwHello).set CWP_PSTAT_RATE_IN (s.get CWP_PCFG_RATE p) p

theorem exec_causewayTrained (p rate : Nat) (s : State) : exec (.causewayTrained p rate) s =
    actWhen s (decide (p < 4) && s.portsRun && s.flag CWP_PCFG_EN p && (s.cwState p == cwDown || s.cwState p == cwTrain)) fun s =>
      if rate != (s.trains p).get CWP_PCFG_RATE p then s.trains p else (s.trains p).saysHello p := rfl

theorem State.get_rate_trains (hp : p < 4) (only : OnlyRegs [CWP_PSTAT_STATE.key p 0] s t) : t.get CWP_PCFG_RATE p = s.get CWP_PCFG_RATE p :=
  State.get_congr _ _ _ _ _ (only _ ((show ∀ p < 4, CWP_PCFG_RATE.key p 0 ∉ [CWP_PSTAT_STATE.key p 0] by decide) p hp) (not_shown (by decide) p 0))

theorem row_causewayTrained (port rate : Nat) (s : State) : Rows.causewayTrained port rate s := by
  intro hrate
  refine effect_actWhen (exec_causewayTrained port rate s) (by simp [and_assoc]) fun ⟨hp, _, _, state⟩ => ?_
  obtain ⟨trains, regs, fb, only⟩ := trains_effect hp state
  have rate' := State.get_rate_trains hp regs
  simp only [rate', hrate, bne_self_eq_false, Bool.false_eq_true, if_false]
  have now : (s.trains port).now = s.now := only.now
  have apart : CWP_PSTAT_RATE_IN.key port 0 ≠ CWP_PSTAT_STATE.key port 0 :=
    (show ∀ p < 4, CWP_PSTAT_RATE_IN.key p 0 ≠ CWP_PSTAT_STATE.key p 0 by decide) port hp
  have quiet (c : CwPort → CwPort) : ((s.trains port).modCw port c).setCw port cwHello = ((s.trains port).modCw port c).set CWP_PSTAT_STATE cwHello port :=
    State.setCw_quiet _ (by rw [State.cwState_modCw, trains]; decide)
  have hello : FabricOnly s ((s.trains port).saysHello port) := by
    unfold State.saysHello
    rw [quiet]
    exact ((only.modCw _ _).set _ _ _ _).set _ _ _ _
  have shown : OnlyRegs [CWP_PSTAT_STATE.key port 0, CWP_PSTAT_RATE_IN.key port 0] s ((s.trains port).saysHello port) := by
    unfold State.saysHello
    rw [quiet]
    have said := (onlyRegs_of_eq (t := (s.trains port).modCw port fun _ => { CwPort.fresh with helloAt := (s.trains port).now, heardAt := (s.trains port).now })
      [] rfl).trans ((onlyRegs_set _ CWP_PSTAT_STATE cwHello port 0).trans (onlyRegs_set _ CWP_PSTAT_RATE_IN ((s.trains port).get CWP_PCFG_RATE port) port 0))
    exact (regs.trans said).mono (by simp)
  refine ⟨?_, ?_, ?_, shown.after, ?_, ?_⟩
  · rw [State.cwState_after]
    exact (State.get_set_ne _ _ _ _ _ _ _ _ apart).trans (State.cwState_setCw _ hp (by decide))
  · rw [State.cwPort_after, State.saysHello, quiet, State.cwPort_of_fb (State.set_fb ..), State.cwPort_of_fb (State.set_fb ..),
      State.cwPort_modCw_same, now]
  · rw [get_after_memory _ _ _ (by decide)]
    refine (State.get_set _ CWP_PSTAT_RATE_IN _ _ _ ((show ∀ p < 4, CWP_PSTAT_RATE_IN.reg.has p 0 = true by decide) port hp)).trans ?_
    rw [rate']
    exact Nat.mod_eq_of_lt (State.get_lt s CWP_PCFG_RATE port 0)
  · rw [State.after_fb, State.saysHello, quiet]
    simp [State.modCw, fb]
  · obtain ⟨h, m, w⟩ := hello.keeps_after s s.now
    exact ⟨h, m, w, hello.faults_after s _⟩

theorem row_causewayTrained_rate (port rate : Nat) (s : State) : Rows.causewayTrained_rate port rate s := by
  intro hrate
  refine effect_actWhen (exec_causewayTrained port rate s) (by simp [and_assoc]) fun ⟨hp, _, _, state⟩ => ?_
  obtain ⟨trains, regs, fb, only⟩ := trains_effect hp state
  have rate' := State.get_rate_trains hp regs
  rw [if_pos (by simpa [rate'] using hrate)]
  refine ⟨(State.cwState_after ..).trans trains, ?_, by simp [fb], regs.after, ?_⟩
  · rw [get_after_memory _ _ _ (by decide)]
    exact State.get_congr _ _ _ _ _ (regs _ ((show ∀ p < 4, CWP_PSTAT_RATE_IN.key p 0 ∉ [CWP_PSTAT_STATE.key p 0] by decide) port hp)
      (not_shown (by decide) port 0))
  · obtain ⟨h, m, w⟩ := only.keeps_after s s.now
    exact ⟨h, m, w, only.faults_after s _⟩

end Sys2Proof.Machine
end

section
/-!
SUPPORT. The rows of refused frames: a NAK of the neighbour, and a frame discarded (R359 to R361, R370).
-/

namespace Sys2Proof.Machine

variable {L : List Nat} {s t u : State} {p : Nat}

/-- The registers that a port's change of state reaches. -/
def heldKeys : List Nat := junctionKeys ++ [0, 1, 2, 3].map (CWP_PSTAT_STATE.key · 0)

theorem rxKey_apart (hp : p < 4) : CWP_RX_FRAMES.key p 0 ∉ heldKeys ∧ CWP_RX_FRAMES.key p 0 < 8 * rEVR_PEND.addr :=
  (show ∀ p < 4, CWP_RX_FRAMES.key p 0 ∉ heldKeys ∧ CWP_RX_FRAMES.key p 0 < 8 * rEVR_PEND.addr by decide) p hp

theorem trafficKeys_held : ∀ k ∈ trafficKeys, k ∈ heldKeys := by decide

/-- A frame that has come is counted, whatever a port's change of state or the frames sent then reach. -/
theorem Counts.rx_kept (h : Counts CWP_RX_FRAMES p 1 s t) (hp : p < 4) (c : Carries heldKeys t u) : Counts CWP_RX_FRAMES p 1 s u :=
  h.between rfl (c.get (rxKey_apart hp))

theorem counts_rx (s : State) (hp : p < 4) : Counts CWP_RX_FRAMES p 1 s (s.bumpCwp CWP_RX_FRAMES p) := counts_bumpCwp s (by decide) hp

theorem fabricOnly_bumpCwp (s : State) (f : Field) (p : Nat) : FabricOnly s (s.bumpCwp f p) := (FabricOnly.refl s).bump _ _ _ _ _ _

theorem eventsKept_bumpCwp (s : State) {f : Field} (hf : f ∈ cwpCounters) (hp : p < 4) : EventsKept s (s.bumpCwp f p) := by
  obtain ⟨pend, sat⟩ := (show ∀ f ∈ cwpCounters, ∀ p < 4, f.key p 0 < 8 * rEVR_PEND.addr ∧ CWP_PSTAT_SAT.key p 0 < 8 * rEVR_PEND.addr by decide) f hf p hp
  exact (EventsKept.refl s).bump pend sat

theorem State.cwState_bumpCwp (s : State) {f : Field} (hf : f ∈ cwpCounters) {p q : Nat} (hp : p < 4) (hq : q < 4) :
    (s.bumpCwp f p).cwState q = s.cwState q := by
  obtain ⟨counter, sat, pend⟩ := (show ∀ f ∈ cwpCounters, ∀ p < 4, ∀ q < 4, f.key p 0 ≠ CWP_PSTAT_STATE.key q 0
    ∧ CWP_PSTAT_SAT.key p 0 ≠ CWP_PSTAT_STATE.key q 0 ∧ EVR_PEND.key (143 / 32) 0 ≠ CWP_PSTAT_STATE.key q 0 by decide) f hf p hp q hq
  exact State.get_bump_ne s counter sat pend

-- a NAK of the neighbour

/-- A port's account of a NAK for the frame `seq`. -/
def CwPort.nakked (c : CwPort) (seq : Nat) : CwPort :=
  { c with naks := if c.naks != 0 ∧ c.nakSeq = seq then c.naks + 1 else 1, nakSeq := seq,
           sent := c.sent.filter fun f => f.seq == seq || seqAfter f.seq seq }

/-- The frames held for it are sent again. -/
def State.resends (s : State) (p : Nat) (l : List Frame) : State :=
  s.each l fun f s => (s.put (.frame p (frameBytes f))).bumpCwp CWP_TX_FRAMES p

theorem exec_nakReceived (p seq : Nat) (s : State) : exec (.nakReceived p seq) s =
    actWhen s (decide (p < 4) && s.cwState p == cwUp) fun s =>
      let t := (s.bumpCwp CWP_RX_FRAMES p).modCw p (·.nakked seq)
      if 8 ≤ (((s.bumpCwp CWP_RX_FRAMES p).cwPort p).nakked seq).naks then ((t.cwGoDown p cwDown).wakeOut p).setCw p cwTrain
      else t.resends p (t.cwPort p).sent := rfl

theorem resends_effect (p : Nat) (l : List Frame) (s : State) :
    (s.resends p l).fb = s.fb ∧ (s.resends p l).out.length = s.out.length + l.length ∧ Sends s (s.resends p l) := by
  induction l generalizing s with
  | nil => exact ⟨rfl, rfl, .refl s⟩
  | cons f l ih =>
    obtain ⟨fb, out, sends⟩ := ih ((s.put (.frame p (frameBytes f))).bumpCwp CWP_TX_FRAMES p)
    have put : ((s.put (.frame p (frameBytes f))).bumpCwp CWP_TX_FRAMES p).out.length = s.out.length + 1 := by
      rw [State.bumpCwp_out, State.out_put rfl]
      rfl
    refine ⟨?_, ?_, (sends_frame s p _).trans sends⟩
    · exact fb.trans (by simp)
    · rw [List.length_cons]
      exact out.trans (by omega)

theorem row_nakReceived (port seq : Nat) (s : State) : Rows.nakReceived port seq s := by
  intro few
  refine effect_actWhen (exec_nakReceived port seq s) (by simp) fun ⟨hp, up⟩ => ?_
  have below : ¬ 8 ≤ (((s.bumpCwp CWP_RX_FRAMES port).cwPort port).nakked seq).naks := by
    simp only [CwPort.nakked, State.cwPort_bumpCwp, bne_iff_ne]
    split <;> omega
  simp only [if_neg below]
  obtain ⟨fb, out, sends⟩ := resends_effect port (((s.bumpCwp CWP_RX_FRAMES port).modCw port (·.nakked seq)).cwPort port).sent
    ((s.bumpCwp CWP_RX_FRAMES port).modCw port (·.nakked seq))
  have kept := sends.1.mono trafficKeys_held
  refine ⟨?_, ?_, ?_, ?_, ?_, (((fabricOnly_bumpCwp s _ _).modCw _ _).trans kept.1).keeps_after s _⟩
  · rw [State.cwPort_after, State.cwPort_of_fb fb, State.cwPort_modCw_same, State.cwPort_bumpCwp]
    simp [CwPort.nakked]
  · have state := (show ∀ q < 4, CWP_PSTAT_STATE.key q 0 ∉ trafficKeys ∧ CWP_PSTAT_STATE.key q 0 < 8 * rEVR_PEND.addr by decide) port hp
    rw [State.cwState_after]
    exact (sends.1.get state).trans ((State.cwState_bumpCwp s (by decide) hp hp).trans up)
  · rw [State.after_out, out, State.cwPort_modCw_same, State.cwPort_bumpCwp]
    simp [State.modCw, CwPort.nakked]
  · exact counts_after_cwp (by decide) (Counts.rx_kept (t := (s.bumpCwp CWP_RX_FRAMES port).modCw port (·.nakked seq)) (counts_rx s hp) hp kept) s _
  · rw [State.after_fb, fb]
    simp [State.modCw]

theorem row_nakReceived_eighth (port seq : Nat) (s : State) : Rows.nakReceived_eighth port seq s := by
  rintro ⟨same, seven⟩
  refine effect_actWhen (exec_nakReceived port seq s) (by simp) fun ⟨hp, up⟩ => ?_
  have eighth : 8 ≤ (((s.bumpCwp CWP_RX_FRAMES port).cwPort port).nakked seq).naks := by
    simp [CwPort.nakked, same, seven]
  simp only [if_pos eighth]
  have counted : Counts CWP_RX_FRAMES port 1 s ((s.bumpCwp CWP_RX_FRAMES port).modCw port (·.nakked seq)) := counts_rx s hp
  have events : EventsKept s ((s.bumpCwp CWP_RX_FRAMES port).modCw port (·.nakked seq)) :=
    (eventsKept_bumpCwp s (by decide) hp).trans (.of_eq rfl rfl)
  have only : FabricOnly s ((s.bumpCwp CWP_RX_FRAMES port).modCw port (·.nakked seq)) := (fabricOnly_bumpCwp s _ _).modCw _ _
  have stillUp : ((s.bumpCwp CWP_RX_FRAMES port).modCw port (·.nakked seq)).cwState port = cwUp :=
    (State.cwState_bumpCwp s (by decide) hp hp).trans up
  generalize (s.bumpCwp CWP_RX_FRAMES port).modCw port (·.nakked seq) = v at *
  obtain ⟨down, fresh, raises, -⟩ := cwGoDown_effect v hp
  obtain ⟨regs, fb, woke⟩ := (v.cwGoDown port cwDown).wakeOut_eq port
  have trains : ((v.cwGoDown port cwDown).wakeOut port).setCw port cwTrain = ((v.cwGoDown port cwDown).wakeOut port).set CWP_PSTAT_STATE cwTrain port :=
    State.setCw_quiet _ (by rw [State.cwState_of_regs regs, down]; decide)
  have wake : Carries heldKeys (v.cwGoDown port cwDown) ((v.cwGoDown port cwDown).wakeOut port) := by
    unfold State.wakeOut
    split
    · exact (Carries.refl _ _).put _
    · exact .refl _ _
  have moved : Carries heldKeys (v.cwGoDown port cwDown) (((v.cwGoDown port cwDown).wakeOut port).setCw port cwTrain) :=
    wake.setCw (by decide) (by decide) cwTrain
  have all := (carries_cwGoDown v port cwDown).trans moved
  refine ⟨?_, ?_, ?_, counts_after_cwp (by decide) (counted.rx_kept hp all) s _, (only.trans all.1).keeps_after s _⟩
  · rw [State.cwState_after, State.cwState_setCw _ hp (by decide)]
  · rw [State.cwPort_after, trains, State.cwPort_of_fb (State.set_fb ..), State.cwPort_of_fb fb, fresh]
  · exact (((raises stillUp).since events).kept moved.2.2).after

-- a frame discarded

theorem linkError_effect (s : State) (p : Nat) :
    ∃ l, (s.linkError p).fb = (s.modCw p fun c => { c with errors := l }).fb ∧ (s.linkError p).out = s.out ∧ Carries [] s (s.linkError p) := by
  unfold State.linkError
  simp only
  split
  · exact ⟨_, State.raise_fb .., State.raise_out .., ((Carries.refl _ s).modCw _ _).raise _ _⟩
  · exact ⟨_, rfl, rfl, (Carries.refl _ s).modCw _ _⟩

theorem discardFrame_unexpected (s : State) (p : Nat) : s.discardFrame p 3 = s := by simp [State.discardFrame]

/-- What is done with a frame discarded, once it is counted as received. -/
def State.frameDiscards (s : State) (p reason seq vc units : Nat) : State :=
  if 2 ≤ reason ∧ seq != (s.cwPort p).rxSeq then s.discardFrame p 3
  else if reason = 2 ∨ 4 ≤ reason then s.discardWhole p reason vc units
  else s.discardFrame p reason

theorem exec_frameDiscarded (p reason seq vc units : Nat) (s : State) : exec (.frameDiscarded p reason seq vc units) s =
    actWhen s (decide (p < 4) && s.cwState p == cwUp && decide (reason ≤ 5)) fun s =>
      (s.bumpCwp CWP_RX_FRAMES p).frameDiscards p reason seq vc units := rfl

theorem row_frameDiscarded_unexpected (port reason seq vc units : Nat) (s : State) : Rows.frameDiscarded_unexpected port reason seq vc units s := by
  rintro ⟨two, h⟩
  refine effect_actWhen (exec_frameDiscarded port reason seq vc units s) (by simp [and_assoc]) fun ⟨hp, _, _⟩ => ?_
  have discards : (s.bumpCwp CWP_RX_FRAMES port).frameDiscards port reason seq vc units = s.bumpCwp CWP_RX_FRAMES port := by
    unfold State.frameDiscards
    split
    · exact discardFrame_unexpected _ _
    · next expected =>
      have three : reason = 3 := h.resolve_right fun ne => expected ⟨two, by simpa using ne⟩
      rw [if_neg (by omega), three, discardFrame_unexpected]
  rw [discards]
  exact ⟨by simp, by simp, counts_after_cwp (by decide) (counts_rx s hp) s _, (fabricOnly_bumpCwp s _ _).keeps_after s _⟩

/-- A frame with a wrong HCRC or trailer: the link error is noted, and a NAK sent unless one has been (R360). -/
theorem frameDiscards_damaged (s : State) {p reason : Nat} (hr : reason ≤ 1) (seq vc units : Nat) :
    s.frameDiscards p reason seq vc units = if ((s.linkError p).cwPort p).resync = true then s.linkError p else
      (((s.linkError p).modCw p fun c => { c with resync := true }).sendLink p 0x04
        (((s.linkError p).modCw p fun c => { c with resync := true }).cwPort p).rxSeq []).bumpCwp CWP_NAK_CNT p := by
  unfold State.frameDiscards State.discardFrame
  rw [if_neg (by omega), if_neg (by omega), if_neg (show reason ≠ 3 by omega), if_pos hr, State.cwPort_modCw_same]

theorem linkError_port (s : State) (p : Nat) : ∃ l, (s.linkError p).cwPort p = { s.cwPort p with errors := l } := by
  obtain ⟨l, fb, -⟩ := linkError_effect s p
  exact ⟨l, (State.cwPort_of_fb fb p).trans (State.cwPort_modCw_same ..)⟩

/-- After a link error of a frame counted as received. -/
theorem linkError_counted (s : State) (hp : p < 4) :
    let t := (s.bumpCwp CWP_RX_FRAMES p).linkError p
    (∃ l, t.cwPort p = { s.cwPort p with errors := l }) ∧ { t.fb with ports := s.fb.ports } = s.fb ∧ t.out = s.out
      ∧ Counts CWP_RX_FRAMES p 1 s t ∧ (∀ f ∈ cwpCounters, f ≠ CWP_RX_FRAMES → t.get f p = s.get f p) ∧ FabricOnly s t := by
  obtain ⟨l, port⟩ := linkError_port (s.bumpCwp CWP_RX_FRAMES p) p
  obtain ⟨m, fb, out, carries⟩ := linkError_effect (s.bumpCwp CWP_RX_FRAMES p) p
  refine ⟨⟨l, by rw [port, State.cwPort_bumpCwp]⟩, ?_, by rw [out, State.bumpCwp_out], ?_, fun f hf ne => ?_, (fabricOnly_bumpCwp s _ _).trans carries.1⟩
  · rw [fb]
    simp [State.modCw]
  · exact (counts_rx s hp).between rfl (carries.get ⟨by simp, (rxKey_apart hp).2⟩)
  · obtain ⟨apart, sat, pend, before⟩ := (show ∀ f ∈ cwpCounters, f ≠ CWP_RX_FRAMES → ∀ p < 4, CWP_RX_FRAMES.key p 0 ≠ f.key p 0
      ∧ CWP_PSTAT_SAT.key p 0 ≠ f.key p 0 ∧ EVR_PEND.key (143 / 32) 0 ≠ f.key p 0 ∧ f.key p 0 < 8 * rEVR_PEND.addr by decide) f hf ne p hp
    exact (carries.get ⟨by simp, before⟩).trans (State.get_bump_ne s apart sat pend)

theorem row_frameDiscarded_again (port reason seq vc units : Nat) (s : State) : Rows.frameDiscarded_again port reason seq vc units s := by
  rintro ⟨hr, resync⟩
  refine effect_actWhen (exec_frameDiscarded port reason seq vc units s) (by simp [and_assoc]) fun ⟨hp, _, _⟩ => ?_
  obtain ⟨⟨l, cw⟩, fb, out, rx, others, only⟩ := linkError_counted s hp
  rw [frameDiscards_damaged _ hr, if_pos (by rw [cw]; exact resync)]
  refine ⟨?_, ?_, ?_, counts_after_cwp (by decide) rx s _, by simpa using out, by simpa using fb, only.keeps_after s _⟩
  · rw [State.cwPort_after, cw]
    exact resync
  · rw [State.cwPort_after, cw]
  · rw [get_after_memory _ _ _ (by decide)]
    exact others CWP_NAK_CNT (by decide) (by decide)

theorem row_frameDiscarded (port reason seq vc units : Nat) (s : State) : Rows.frameDiscarded port reason seq vc units s := by
  rintro ⟨hr, resync⟩
  refine effect_actWhen (exec_frameDiscarded port reason seq vc units s) (by simp [and_assoc]) fun ⟨hp, _, _⟩ => ?_
  obtain ⟨⟨l, cw⟩, fb, out, rx, others, only⟩ := linkError_counted s hp
  rw [frameDiscards_damaged _ hr, if_neg (by rw [cw]; simpa using resync)]
  generalize (s.bumpCwp CWP_RX_FRAMES port).linkError port = v at *
  obtain ⟨sent, sentFb, sentOut, -, sentOnly⟩ := linkFrame_sent v hp (fun c => { c with resync := true }) 0x04
    ((v.modCw port fun c => { c with resync := true }).cwPort port).rxSeq []
  have carries : Carries trafficKeys v ((v.modCw port fun c => { c with resync := true }).sendLink port 0x04
      ((v.modCw port fun c => { c with resync := true }).cwPort port).rxSeq []) :=
    ((Carries.refl _ v).modCw _ _).trans (sends_sendLink _ _ _ _ _).1
  generalize (v.modCw port fun c => { c with resync := true }).sendLink port 0x04
    ((v.modCw port fun c => { c with resync := true }).cwPort port).rxSeq [] = w at *
  have nakApart := (show ∀ p < 4, CWP_NAK_CNT.key p 0 ∉ trafficKeys ∧ CWP_NAK_CNT.key p 0 < 8 * rEVR_PEND.addr by decide) port hp
  have counted : Carries [CWP_NAK_CNT.key port 0, CWP_PSTAT_SAT.key port 0] w (w.bumpCwp CWP_NAK_CNT port) :=
    (Carries.refl _ w).bump (fun _ => ⟨by simp, nakApart.2⟩)
      (fun _ => ⟨by simp [blkCWP], (show ∀ p < 4, CWP_PSTAT_SAT.key p 0 < 8 * rEVR_PEND.addr by decide) port hp⟩) _ _
  have rxApart := (show ∀ p < 4, CWP_RX_FRAMES.key p 0 ∉ trafficKeys ∧ CWP_RX_FRAMES.key p 0 ∉ [CWP_NAK_CNT.key p 0, CWP_PSTAT_SAT.key p 0] by decide) port hp
  refine ⟨?_, ?_, ?_, ?_, ?_, ?_, ((only.trans sentOnly).trans counted.1).keeps_after s _⟩
  · rw [State.cwPort_after, State.cwPort_bumpCwp, sent]
  · rw [State.cwPort_after, State.cwPort_bumpCwp, sent, cw]
  · have before : w.get CWP_NAK_CNT port = s.get CWP_NAK_CNT port := (carries.get nakApart).trans (others CWP_NAK_CNT (by decide) (by decide))
    exact counts_after_cwp (by decide) ((counts_bumpCwp w (by decide) hp).between before rfl) s _
  · have kept : (w.bumpCwp CWP_NAK_CNT port).get CWP_RX_FRAMES port = v.get CWP_RX_FRAMES port :=
      (counted.get ⟨rxApart.2, (rxKey_apart hp).2⟩).trans (carries.get ⟨rxApart.1, (rxKey_apart hp).2⟩)
    exact counts_after_cwp (by decide) (rx.between rfl kept) s _
  · rw [State.after_out, State.bumpCwp_out, sentOut, out]
  · rw [State.after_fb, State.bumpCwp_fb, sentFb]
    exact fb

/-- Units freed gather, and go back as credits once they come to 4 KiB (R361). -/
theorem freeUnits_effect (s : State) (hp : p < 4) (vc n : Nat) :
    let fr := (s.cwPort p).freed.set vc ((s.cwPort p).freed.getD vc 0 + n)
    ((s.freeUnits p vc n).cwPort p).freed = (if 64 ≤ fr.foldl (· + ·) 0 then [0, 0, 0] else fr)
      ∧ ((s.freeUnits p vc n).cwPort p).rxSeq = (s.cwPort p).rxSeq ∧ (fr.foldl (· + ·) 0 < 64 → (s.freeUnits p vc n).out = s.out) := by
  unfold State.freeUnits
  simp only [if_pos hp, State.cwPort_modCw_same]
  split
  · next full =>
    rw [State.cwPort_of_fb (State.sendLink_fb ..), State.cwPort_modCw_same, State.cwPort_modCw_same]
    exact ⟨rfl, rfl, fun h => absurd full (by omega)⟩
  · rw [State.cwPort_modCw_same]
    exact ⟨rfl, rfl, fun _ => rfl⟩

/-- The port passes over a frame that its link has delivered (R359). -/
def CwPort.skips (c : CwPort) : CwPort := { c with rxSeq := (c.rxSeq + 1) % 2 ^ 32, resync := false }

/-- A frame refused although its link has delivered it: one that was stomped, or of an unknown type or another domain (R359, R370). -/
theorem frameDiscards_delivered (s : State) {p reason seq : Nat} (hr : 2 ≤ reason ∧ reason ≠ 3) (hs : seq = (s.cwPort p).rxSeq) (vc units : Nat) :
    s.frameDiscards p reason seq vc units = (((s.linkError p).modCw p CwPort.skips).bumpCwp
      (if reason = 2 then CWP_STOMP_CNT else CWP_DROP_CNT) p).freeUnits p vc units := by
  unfold State.frameDiscards State.discardWhole State.discardFrame
  rw [if_neg (by simp [hs]), if_pos (by omega), if_neg hr.2, if_neg (show ¬ reason ≤ 1 by omega), if_neg hr.2]
  rfl

theorem skipped_effect (s : State) {f : Field} (hf : f ∈ cwpCounters) (notRx : f ≠ CWP_RX_FRAMES) (hp : p < 4) :
    let t := (s.modCw p CwPort.skips).bumpCwp f p
    t.cwPort p = (s.cwPort p).skips ∧ t.out = s.out ∧ (∃ ports, t.fb = { s.fb with ports := ports }) ∧ Counts f p 1 s t
      ∧ t.get CWP_RX_FRAMES p = s.get CWP_RX_FRAMES p ∧ FabricOnly s t := by
  obtain ⟨apart, sat, pend⟩ := (show ∀ f ∈ cwpCounters, f ≠ CWP_RX_FRAMES → ∀ p < 4, f.key p 0 ≠ CWP_RX_FRAMES.key p 0
    ∧ CWP_PSTAT_SAT.key p 0 ≠ CWP_RX_FRAMES.key p 0 ∧ EVR_PEND.key (143 / 32) 0 ≠ CWP_RX_FRAMES.key p 0 by decide) f hf notRx p hp
  exact ⟨by simp, by rw [State.bumpCwp_out]; rfl, ⟨_, State.bumpCwp_fb ..⟩, (counts_bumpCwp (s.modCw p CwPort.skips) hf hp).between rfl rfl,
    State.get_bump_ne (s.modCw p CwPort.skips) apart sat pend, ((FabricOnly.refl s).modCw _ _).bump _ _ _ _ _ _⟩

theorem row_frameDiscarded_counted (port reason seq vc units : Nat) (s : State) : Rows.frameDiscarded_counted port reason seq vc units s := by
  rintro ⟨two, three, hseq⟩
  refine effect_actWhen (exec_frameDiscarded port reason seq vc units s) (by simp [and_assoc]) fun ⟨hp, _, _⟩ => ?_
  obtain ⟨⟨l, cw⟩, fb, out, rx, others, only⟩ := linkError_counted s hp
  rw [frameDiscards_delivered _ ⟨two, three⟩ (by simpa using hseq)]
  have counter : (if reason = 2 then CWP_STOMP_CNT else CWP_DROP_CNT) ∈ cwpCounters
      ∧ (if reason = 2 then CWP_STOMP_CNT else CWP_DROP_CNT) ≠ CWP_RX_FRAMES ∧ (if reason = 2 then CWP_STOMP_CNT else CWP_DROP_CNT) ≠ CWP_TX_FRAMES := by
    split <;> decide
  have named : (reason = 2 → (if reason = 2 then CWP_STOMP_CNT else CWP_DROP_CNT) = CWP_STOMP_CNT)
      ∧ (4 ≤ reason → (if reason = 2 then CWP_STOMP_CNT else CWP_DROP_CNT) = CWP_DROP_CNT) :=
    ⟨fun h => if_pos h, fun h => if_neg (by omega)⟩
  generalize (if reason = 2 then CWP_STOMP_CNT else CWP_DROP_CNT) = f at *
  obtain ⟨hf, notRx, notTx⟩ := counter
  generalize (s.bumpCwp CWP_RX_FRAMES port).linkError port = v at *
  obtain ⟨skips, outKept, ⟨_, fbKept⟩, counted, rxKept, onlyKept⟩ := skipped_effect v hf notRx hp
  generalize (v.modCw port CwPort.skips).bumpCwp f port = w at *
  obtain ⟨freed, rxSeq, still⟩ := freeUnits_effect w hp vc units
  obtain ⟨carries, ⟨_, freedFb⟩, -⟩ := sends_freeUnits w port vc units
  have apart := (show ∀ f ∈ cwpCounters, f ≠ CWP_TX_FRAMES → ∀ p < 4, f.key p 0 ∉ trafficKeys ∧ f.key p 0 < 8 * rEVR_PEND.addr by decide) f hf notTx port hp
  have countedNow : Counts f port 1 s (s.after s.now (w.freeUnits port vc units)) :=
    counts_after_cwp hf (counted.between (others f hf notRx) (carries.get apart)) s _
  have rxNow : (w.freeUnits port vc units).get CWP_RX_FRAMES port = v.get CWP_RX_FRAMES port :=
    ((carries.mono trafficKeys_held).get (rxKey_apart hp)).trans rxKept
  have before : (w.cwPort port).freed = (s.cwPort port).freed := by rw [skips, cw, CwPort.skips]
  rw [before] at freed still
  refine ⟨?_, fun h => named.1 h ▸ countedNow, fun h => named.2 h ▸ countedNow, counts_after_cwp (by decide) (rx.between rfl rxNow) s _, ?_,
    fun h => ?_, ?_, ((only.trans onlyKept).trans carries.1).keeps_after s _⟩
  · rw [State.cwPort_after, rxSeq, skips, cw, CwPort.skips]
  · rw [State.cwPort_after]
    exact freed
  · rw [State.after_out, still h, outKept, out]
  · rw [State.after_fb, freedFb, fbKept]
    exact fb

end Sys2Proof.Machine
end

section
/-!
SUPPORT. The rows of HELLO: neighbours noted, ports that enter UP, FOREIGN or REFUSED, and a node that withdraws (R363, R364).
-/

namespace Sys2Proof.Machine

variable {L : List Nat} {s t u : State} {p : Nat}

theorem carries_setCw (s : State) (p st : Nat) : Carries heldKeys s (s.setCw p st) := (Carries.refl _ s).setCw (by decide) (by decide) st

theorem Counts.modCw {f : Field} {i n : Nat} (h : Counts f i n s t) (p : Nat) (g : CwPort → CwPort) : Counts f i n s (t.modCw p g) := h

theorem PortSends.helloOk {c d : CwPort} (h : PortSends c d) : d.helloOk = c.helloOk := by
  obtain ⟨_, _, _, _, _, _, rfl⟩ := h
  rfl

-- ports held and nodes that withdraw

/-- A port that is held says so, forgets its HELLOs, and raises its event when it was not held before (R363). -/
theorem holdPort_effect (s : State) (hp : p < 4) {st : Nat} (hst : st < 8) :
    let t := s.holdPort p st
    t.cwState p = st ∧ (t.cwPort p).helloOk = 0 ∧ (s.cwState p ≠ st → Raises (130 + 4 * p) s t) ∧ t.fb.dupId = s.fb.dupId ∧ Carries heldKeys s t := by
  have forgets : Carries heldKeys s (s.modCw p fun c => { c with helloOk := 0 }) := (Carries.refl _ s).modCw _ _
  have state : (s.modCw p fun c => { c with helloOk := 0 }).cwState p = s.cwState p := rfl
  have forgot : ((s.modCw p fun c => { c with helloOk := 0 }).cwPort p).helloOk = 0 := by rw [State.cwPort_modCw_same]
  have dup : (s.modCw p fun c => { c with helloOk := 0 }).fb.dupId = s.fb.dupId := rfl
  unfold State.holdPort
  simp only [state]
  generalize (s.modCw p fun c => { c with helloOk := 0 }) = v at *
  split
  · next same => exact ⟨state.trans same, forgot, fun ne => absurd same ne, dup, forgets⟩
  · obtain ⟨_, _, _, _, _, fb⟩ := v.setCw_fb p st
    have moved := forgets.trans (carries_setCw v p st)
    refine ⟨?_, ?_, fun _ => (raises_raise _ _ _ (by omega)).since moved.2.2, ?_, moved.raise _ _⟩
    · exact (((Carries.refl [] _).raise _ _).get ⟨by simp, (show ∀ p < 4, CWP_PSTAT_STATE.key p 0 < 8 * rEVR_PEND.addr by decide) p hp⟩).trans
        (v.cwState_setCw hp hst)
    · rw [State.cwPort_of_fb (State.raise_fb ..), (portSends_setCw v p st p).helloOk, forgot]
    · rw [State.raise_fb, fb]
      exact dup

/-- Whichever of the ports named are refused in turn, a port that is named or refused already is refused at the end. -/
theorem each_refused (l : List Nat) (s : State) (hp : p < 4) (h : p ∈ l ∨ s.cwState p = cwRefused) :
    (s.each l fun q s => s.setCw q cwRefused).cwState p = cwRefused := by
  induction l generalizing s with
  | nil => exact h.resolve_left (by simp)
  | cons q l ih =>
    refine ih (s.setCw q cwRefused) ?_
    by_cases e : q = p
    · exact .inr (e ▸ s.cwState_setCw (e ▸ hp) (by decide))
    · rcases h with h | h
      · exact .inl (List.mem_of_ne_of_mem (Ne.symm e) h)
      · exact .inr ((s.cwState_setCw_ne _ hp e).trans h)

theorem each_refused_keeps (l : List Nat) (s : State) :
    Carries heldKeys s (s.each l fun q s => s.setCw q cwRefused) ∧ (s.each l fun q s => s.setCw q cwRefused).fb.dupId = s.fb.dupId := by
  refine State.each_rel (R := fun s t => Carries heldKeys s t ∧ t.fb.dupId = s.fb.dupId) (fun s => ⟨.refl _ s, rfl⟩)
    (fun h g => ⟨h.1.trans g.1, g.2.trans h.2⟩) (fun q s => ⟨carries_setCw s q _, ?_⟩) l s
  obtain ⟨_, _, _, _, _, fb⟩ := s.setCw_fb q cwRefused
  rw [fb]

/-- The node knows of its duplicate ID and has raised the event of the port on which it was seen. -/
def State.sawDuplicate (s : State) (p : Nat) : State :=
  ({ s with fb := { s.fb with dupId := true } }.set JNR_STATUS_DUP_ID 1).raise (130 + 4 * p)

/-- A node that withdraws has its locked ports REFUSED and is no longer joined (R364). -/
theorem withdraw_effect (s : State) (hp : p < 4) (locked : 3 ≤ s.cwState p) :
    let t := s.withdraw p
    t.fb.dupId = true ∧ t.get JNR_STATUS_DUP_ID = 1 ∧ t.get JNR_STATUS_JOINED = 0 ∧ t.cwState p = cwRefused ∧ Raises (130 + 4 * p) s t
      ∧ Carries (JNR_STATUS_DUP_ID.key 0 0 :: heldKeys) s t := by
  have noted : Carries [JNR_STATUS_DUP_ID.key 0 0] s ({ s with fb := { s.fb with dupId := true } }.set JNR_STATUS_DUP_ID 1) :=
    ((Carries.refl _ s).fabric _).set (fun _ => by decide) _
  have raises : Raises (130 + 4 * p) s (s.sawDuplicate p) := (raises_raise _ _ _ (by omega)).since noted.2.2
  have saw : Carries [JNR_STATUS_DUP_ID.key 0 0] s (s.sawDuplicate p) := noted.raise _ _
  have dup : (s.sawDuplicate p).fb.dupId = true := by simp [State.sawDuplicate]
  have shown : (s.sawDuplicate p).get JNR_STATUS_DUP_ID = 1 :=
    (State.get_raise_ne _ _ _ _ _ _ (Nat.ne_of_gt (Nat.lt_of_lt_of_le (by decide) (pend_key_ge _)))).trans
      (State.get_set _ JNR_STATUS_DUP_ID 1 0 0 (by decide))
  have lockedStill : 3 ≤ (s.sawDuplicate p).cwState p := by
    have state := (show ∀ p < 4, CWP_PSTAT_STATE.key p 0 ∉ [JNR_STATUS_DUP_ID.key 0 0] ∧ CWP_PSTAT_STATE.key p 0 < 8 * rEVR_PEND.addr by decide) p hp
    exact locked.trans_eq (saw.get state).symm
  have same : s.withdraw p
      = ((s.sawDuplicate p).each ([0, 1, 2, 3].filter fun q => 3 ≤ (s.sawDuplicate p).cwState q) fun q s => s.setCw q cwRefused).showJnr := rfl
  rw [same]
  generalize s.sawDuplicate p = v at *
  have refused := each_refused ([0, 1, 2, 3].filter fun q => 3 ≤ v.cwState q) v hp
    (.inl (List.mem_filter.2 ⟨by simp; omega, by simpa using lockedStill⟩))
  obtain ⟨moved, dupKept⟩ := each_refused_keeps ([0, 1, 2, 3].filter fun q => 3 ≤ v.cwState q) v
  generalize (v.each ([0, 1, 2, 3].filter fun q => 3 ≤ v.cwState q) fun q s => s.setCw q cwRefused) = w at *
  have out : w.joined = false := by simp [State.joined, State.withdrawn, dupKept, dup]
  have shows : Carries [JNR_STATUS_JOINED.key 0 0, JNR_STATUS_NODES.key 0 0] w w.showJnr :=
    ((Carries.refl _ w).set (fun _ => by decide) _).set (fun _ => by decide) _
  have state := (show ∀ p < 4, CWP_PSTAT_STATE.key p 0 ∉ [JNR_STATUS_JOINED.key 0 0, JNR_STATUS_NODES.key 0 0]
    ∧ CWP_PSTAT_STATE.key p 0 < 8 * rEVR_PEND.addr by decide) p hp
  refine ⟨?_, ?_, ?_, (shows.get state).trans refused, (raises.kept moved.2.2).kept shows.2.2, ?_⟩
  · simp [State.showJnr, dupKept, dup]
  · exact ((shows.get (by decide)).trans (moved.get (by decide))).trans shown
  · unfold State.showJnr State.setB
    rw [State.get_set_ne _ _ _ _ _ _ _ _ (by decide), State.get_set _ _ _ _ _ (by decide), out]
    rfl
  · have all : ∀ k ∈ heldKeys, k ∈ JNR_STATUS_DUP_ID.key 0 0 :: heldKeys := fun k => List.mem_cons_of_mem _
    exact ((saw.mono (by simp)).trans (moved.mono all)).trans (shows.mono (by decide))

-- a HELLO received

/-- A HELLO is counted and the neighbour shown. -/
def State.heard (s : State) (p : Nat) (h : Hello) : State :=
  ((s.bumpCwp CWP_RX_FRAMES p).set CWP_PSTAT_NBR_ID h.node p).set CWP_PSTAT_NBR_PORT h.port p

/-- So it is, and the time noted (R363). -/
def State.greeted (s : State) (p : Nat) (h : Hello) : State :=
  (s.heard p h).modCw p fun c => { c with heardAt := (s.heard p h).now }

/-- A good HELLO brings its port nearer to UP. -/
def State.helloGood (s : State) (p : Nat) : State :=
  let s := s.modCw p fun c => { c with helloOk := c.helloOk + 1 }
  let s := if s.cwState p = cwForeign ∨ s.cwState p = cwRefused then s.setCw p cwHello else s
  if s.cwState p = cwHello ∧ 2 ≤ (s.cwPort p).helloOk then s.setCw p cwUp else s

/-- What a HELLO noted brings about. -/
def State.helloJudged (s : State) (p : Nat) (h : Hello) : State :=
  if s.withdrawn then s.holdPort p cwRefused
  else if h.domain != s.get JNR_CFG_DOMAIN then s.holdPort p cwForeign
  else if h.node = 0 ∨ h.node = 0xFFF then s.holdPort p cwRefused
  else if h.node = s.nodeId ∧ h.serial != deviceSerial then
    if h.serial < deviceSerial then s.withdraw p else s.holdPort p cwRefused
  else if h.portState = cwDisabled then s.modCw p fun c => { c with helloOk := 0 }
  else s.helloGood p

theorem carries_helloGood (s : State) (p : Nat) : Carries heldKeys s (s.helloGood p) := by
  have nearer : Carries heldKeys s (s.modCw p fun c => { c with helloOk := c.helloOk + 1 }) := (Carries.refl _ s).modCw _ _
  unfold State.helloGood
  simp only
  generalize (s.modCw p fun c => { c with helloOk := c.helloOk + 1 }) = v at *
  have again : Carries heldKeys s (if v.cwState p = cwForeign ∨ v.cwState p = cwRefused then v.setCw p cwHello else v) := by
    split
    · exact nearer.trans (carries_setCw v p _)
    · exact nearer
  generalize (if v.cwState p = cwForeign ∨ v.cwState p = cwRefused then v.setCw p cwHello else v) = w at *
  split
  · exact again.trans (carries_setCw _ p _)
  · exact again

theorem exec_helloReceived (p : Nat) (h : Hello) (s : State) :
    exec (.helloReceived p h) s = actWhen s (s.cwLocked p) fun s => (s.greeted p h).helloJudged p h := rfl

/-- What a HELLO noted has left: it is counted and shown, and no port has changed its state. -/
structure Greeted (p : Nat) (h : Hello) (s t : State) : Prop where
  port : t.cwPort p = { s.cwPort p with heardAt := s.now }
  state : t.cwState p = s.cwState p
  counted : Counts CWP_RX_FRAMES p 1 s t
  neighbour : t.get CWP_PSTAT_NBR_ID p = h.node % 2 ^ CWP_PSTAT_NBR_ID.width
  neighbourPort : t.get CWP_PSTAT_NBR_PORT p = h.port % 2 ^ CWP_PSTAT_NBR_PORT.width
  dupId : t.fb.dupId = s.fb.dupId
  nodeId : t.nodeId = s.nodeId
  domain : t.get JNR_CFG_DOMAIN = s.get JNR_CFG_DOMAIN
  only : FabricOnly s t
  events : EventsKept s t

/-- The registers that a HELLO noted reaches. -/
def helloKeys (p : Nat) : List Nat := [CWP_RX_FRAMES.key p 0, CWP_PSTAT_SAT.key p 0, CWP_PSTAT_NBR_ID.key p 0, CWP_PSTAT_NBR_PORT.key p 0]

theorem helloKeys_before_pend : ∀ p < 4, ∀ k ∈ helloKeys p, k < 8 * rEVR_PEND.addr := by decide

theorem greeted (s : State) (hp : p < 4) (h : Hello) : Greeted p h s (s.greeted p h) := by
  have pend := helloKeys_before_pend p hp
  simp only [helloKeys, List.forall_mem_cons] at pend
  obtain ⟨rxPend, satPend, idPend, portPend, -⟩ := pend
  have counted : Carries (helloKeys p) s (s.bumpCwp CWP_RX_FRAMES p) :=
    (Carries.refl _ s).bump (fun _ => ⟨by simp [helloKeys], rxPend⟩) (fun _ => ⟨by simp [helloKeys, blkCWP], satPend⟩) _ _
  have shows : Carries [CWP_PSTAT_NBR_ID.key p 0, CWP_PSTAT_NBR_PORT.key p 0] (s.bumpCwp CWP_RX_FRAMES p) (s.greeted p h) :=
    (((Carries.refl _ _).set (fun _ => ⟨by simp, idPend⟩) _).set (fun _ => ⟨by simp, portPend⟩) _).modCw _ _
  have all : Carries (helloKeys p) s (s.greeted p h) := counted.trans (shows.mono (by simp [helloKeys]))
  have rxApart := (show ∀ p < 4, CWP_RX_FRAMES.key p 0 ∉ [CWP_PSTAT_NBR_ID.key p 0, CWP_PSTAT_NBR_PORT.key p 0] by decide) p hp
  have stateApart := (show ∀ p < 4, CWP_PSTAT_STATE.key p 0 ∉ helloKeys p ∧ CWP_PSTAT_STATE.key p 0 < 8 * rEVR_PEND.addr by decide) p hp
  obtain ⟨nodeApart, domainApart⟩ := (show ∀ p < 4, (JNR_CFG_NODE_ID.key 0 0 ∉ helloKeys p ∧ JNR_CFG_NODE_ID.key 0 0 < 8 * rEVR_PEND.addr)
    ∧ JNR_CFG_DOMAIN.key 0 0 ∉ helloKeys p ∧ JNR_CFG_DOMAIN.key 0 0 < 8 * rEVR_PEND.addr by decide) p hp
  obtain ⟨apart, hasId, hasPort⟩ := (show ∀ p < 4, CWP_PSTAT_NBR_PORT.key p 0 ≠ CWP_PSTAT_NBR_ID.key p 0 ∧ CWP_PSTAT_NBR_ID.reg.has p 0 = true
    ∧ CWP_PSTAT_NBR_PORT.reg.has p 0 = true by decide) p hp
  have fb : (s.heard p h).fb = s.fb := by simp [State.heard]
  have now : (s.heard p h).now = s.now := by simp [State.heard]
  exact {
    port := by rw [State.greeted, State.cwPort_modCw_same, State.cwPort_of_fb fb, now]
    state := all.get stateApart
    counted := (counts_rx s hp).between rfl (shows.get ⟨rxApart, rxPend⟩)
    neighbour := (State.get_set_ne _ _ _ _ _ _ _ _ apart).trans (State.get_set _ CWP_PSTAT_NBR_ID _ _ _ hasId)
    neighbourPort := State.get_set _ CWP_PSTAT_NBR_PORT _ _ _ hasPort
    dupId := (show (s.greeted p h).fb.dupId = (s.heard p h).fb.dupId from rfl).trans (by rw [fb])
    nodeId := by rw [State.nodeId, State.nodeId, all.get nodeApart]
    domain := all.get domainApart
    only := all.1
    events := all.2.2 }

theorem effect_helloReceived {h : Hello} {P : State → Prop}
    (hP : p < 4 → 3 ≤ s.cwState p → ∀ v, Greeted p h s v → P (s.after s.now (v.helloJudged p h))) : Effect (.helloReceived p h) s (s.cwLocked p = true) P := by
  refine effect_actWhen (exec_helloReceived p h s) Iff.rfl fun locked => ?_
  obtain ⟨hp, state, -⟩ := (s.cwLocked_iff p).1 locked
  exact hP hp state _ (greeted s hp h)

/-- The port of a noted HELLO is held (R363). -/
theorem Greeted.held {h : Hello} {v : State} (g : Greeted p h s v) (hp : p < 4) {st : Nat} (hst : st < 8) :
    let t := s.after s.now (v.holdPort p st)
    t.cwState p = st ∧ (t.cwPort p).helloOk = 0 ∧ Counts CWP_RX_FRAMES p 1 s t ∧ (s.cwState p ≠ st → Raises (130 + 4 * p) s t) ∧ t.fb.dupId = s.fb.dupId
      ∧ KeepsHost s t ∧ KeepsMedia s t ∧ KeepsPower s t := by
  obtain ⟨state, ok, raises, dup, carries⟩ := holdPort_effect v hp hst
  refine ⟨(State.cwState_after ..).trans state, by rw [State.cwPort_after, ok], ?_, fun ne => ?_, by rw [State.after_fb, dup, g.dupId],
    (g.only.trans carries.1).keeps_after s _⟩
  · exact counts_after_cwp (by decide) (g.counted.rx_kept hp carries) s _
  · exact ((raises (g.state.trans_ne ne)).since g.events).after

theorem row_helloReceived_foreign (port : Nat) (hello : Hello) (s : State) : Rows.helloReceived_foreign port hello s := by
  rintro ⟨joined, domain⟩
  refine effect_helloReceived fun hp _ v g => ?_
  have judged : v.helloJudged port hello = v.holdPort port cwForeign := by
    have notWithdrawn : v.withdrawn = false := g.dupId.trans joined
    simp [State.helloJudged, notWithdrawn, g.domain, domain]
  rw [judged]
  obtain ⟨state, ok, rx, raises, -, keeps⟩ := g.held hp (st := cwForeign) (by decide)
  exact ⟨state, ok, rx, raises, keeps⟩

theorem row_helloReceived_refused (port : Nat) (hello : Hello) (s : State) : Rows.helloReceived_refused port hello s := by
  intro refused
  refine effect_helloReceived fun hp _ v g => ?_
  have judged : v.helloJudged port hello = v.holdPort port cwRefused := by
    by_cases withdrawn : s.withdrawn = true
    · have now : v.withdrawn = true := g.dupId.trans withdrawn
      simp [State.helloJudged, now]
    · obtain ⟨domain, node⟩ := refused.resolve_left withdrawn
      have now : v.withdrawn = false := g.dupId.trans (by simpa [State.withdrawn] using withdrawn)
      simp [State.helloJudged, now, g.domain, domain, node]
  rw [judged]
  obtain ⟨state, ok, rx, raises, -, keeps⟩ := g.held hp (st := cwRefused) (by decide)
  exact ⟨state, ok, rx, raises, keeps⟩

/-- A HELLO of the node's own domain with the ID of a node, to a node that has not withdrawn. -/
theorem Greeted.judged_joined {h : Hello} {v : State} (g : Greeted p h s v) (joined : s.withdrawn = false) (domain : h.domain = s.get JNR_CFG_DOMAIN) (pos : 0 < h.node)
    (lt : h.node < 0xFFF) : v.helloJudged p h = if h.node = s.nodeId ∧ h.serial ≠ deviceSerial then
        if h.serial < deviceSerial then v.withdraw p else v.holdPort p cwRefused
      else if h.portState = cwDisabled then v.modCw p fun c => { c with helloOk := 0 } else v.helloGood p := by
  have now : v.withdrawn = false := g.dupId.trans joined
  have node : ¬ (h.node = 0 ∨ h.node = 0xFFF) := by omega
  simp [State.helloJudged, now, g.domain, domain, node, g.nodeId]

theorem row_helloReceived_duplicate (port : Nat) (hello : Hello) (s : State) : Rows.helloReceived_duplicate port hello s := by
  rintro ⟨joined, domain, pos, lt, own⟩
  refine effect_helloReceived fun hp locked v g => ?_
  rw [g.judged_joined joined domain pos lt]
  rcases Nat.lt_trichotomy hello.serial deviceSerial with less | same | greater
  · rw [if_pos ⟨own, Nat.ne_of_lt less⟩, if_pos less]
    obtain ⟨dup, shown, out, refused, raises, carries⟩ := withdraw_effect v hp (locked.trans_eq g.state.symm)
    have rxApart := (show ∀ p < 4, CWP_RX_FRAMES.key p 0 ∉ JNR_STATUS_DUP_ID.key 0 0 :: heldKeys by decide) port hp
    refine ⟨fun _ => ⟨by rw [State.after_fb, dup], ?_, ?_, (State.cwState_after ..).trans refused, (raises.since g.events).after⟩,
      fun more => absurd less (Nat.lt_asymm more), ?_, (g.only.trans carries.1).keeps_after s _⟩
    · rw [get_after_memory _ _ _ (by decide), shown]
    · rw [get_after_memory _ _ _ (by decide), out]
    · exact counts_after_cwp (by decide) (g.counted.between rfl (carries.get ⟨rxApart, (rxKey_apart hp).2⟩)) s _
  · rw [if_neg (by simp [same])]
    refine ⟨fun less => absurd same (Nat.ne_of_lt less), fun more => absurd same (Nat.ne_of_gt more), ?_⟩
    have carries : Carries heldKeys v (if hello.portState = cwDisabled then v.modCw port fun c => { c with helloOk := 0 } else v.helloGood port) := by
      split
      · exact (Carries.refl _ v).modCw _ _
      · exact carries_helloGood v port
    exact ⟨counts_after_cwp (by decide) (g.counted.rx_kept hp carries) s _, (g.only.trans carries.1).keeps_after s _⟩
  · rw [if_pos ⟨own, Nat.ne_of_gt greater⟩, if_neg (Nat.lt_asymm greater)]
    obtain ⟨state, ok, rx, raises, dup, keeps⟩ := g.held hp (st := cwRefused) (by decide)
    exact ⟨fun less => absurd less (Nat.lt_asymm greater), fun _ => ⟨state, ok, dup⟩, rx, keeps⟩

theorem row_helloReceived_disabled (port : Nat) (hello : Hello) (s : State) : Rows.helloReceived_disabled port hello s := by
  rintro ⟨joined, domain, pos, lt, other, disabled⟩
  refine effect_helloReceived fun hp _ v g => ?_
  rw [g.judged_joined joined domain pos lt, if_neg (by simp [other]), if_pos disabled]
  exact ⟨(State.cwState_after ..).trans g.state, by rw [State.cwPort_after, State.cwPort_modCw_same, g.port],
    counts_after_cwp (by decide) (g.counted.modCw _ _) s _, (g.only.modCw _ _).keeps_after s _⟩

theorem row_helloReceived_first (port : Nat) (hello : Hello) (s : State) : Rows.helloReceived_first port hello s := by
  rintro ⟨joined, domain, pos, lt, other, enabled, state, first⟩
  refine effect_helloReceived fun hp _ v g => ?_
  rw [g.judged_joined joined domain pos lt, if_neg (by simp [other]), if_neg enabled]
  have inHello : v.cwState port = cwHello := g.state.trans state
  have good : v.helloGood port = v.modCw port fun c => { c with helloOk := c.helloOk + 1 } := by
    simp [State.helloGood, inHello, g.port, first, cwHello, cwForeign, cwRefused]
  rw [good]
  refine ⟨(State.cwState_after ..).trans inHello, by rw [State.cwPort_after, State.cwPort_modCw_same, g.port, first],
    counts_after_cwp (by decide) (g.counted.modCw _ _) s _, ?_, (g.only.modCw _ _).keeps_after s _⟩
  rw [get_after_memory _ _ _ (by decide)]
  exact g.neighbour.trans (Nat.mod_eq_of_lt (lt.trans (by decide)))

theorem row_helloReceived (port : Nat) (hello : Hello) (s : State) : Rows.helloReceived port hello s := by
  rintro ⟨joined, domain, pos, lt, other, enabled, state, again⟩
  refine effect_helloReceived fun hp _ v g => ?_
  rw [g.judged_joined joined domain pos lt, if_neg (by simp [other]), if_neg enabled]
  have inHello : v.cwState port = cwHello := g.state.trans state
  have good : v.helloGood port = (v.modCw port fun c => { c with helloOk := c.helloOk + 1 }).setCw port cwUp := by
    have free : ¬ (cwHello = cwForeign ∨ cwHello = cwRefused) := by decide
    have twice : 2 ≤ (s.cwPort port).helloOk + 1 := Nat.succ_le_succ again
    simp only [State.helloGood, State.cwState_modCw, inHello, if_neg free, State.cwPort_modCw_same, g.port, twice, and_self, if_true]
  rw [good]
  have nearer : FabricOnly s (v.modCw port fun c => { c with helloOk := c.helloOk + 1 }) := g.only.modCw _ _
  have inHello' : (v.modCw port fun c => { c with helloOk := c.helloOk + 1 }).cwState port = cwHello := inHello
  have neighbour : (v.modCw port fun c => { c with helloOk := c.helloOk + 1 }).get CWP_PSTAT_NBR_ID port = _ := g.neighbour
  have neighbourPort : (v.modCw port fun c => { c with helloOk := c.helloOk + 1 }).get CWP_PSTAT_NBR_PORT port = _ := g.neighbourPort
  have counted : Counts CWP_RX_FRAMES port 1 s (v.modCw port fun c => { c with helloOk := c.helloOk + 1 }) := g.counted.modCw _ _
  have events : EventsKept s (v.modCw port fun c => { c with helloOk := c.helloOk + 1 }) := g.events.trans (.of_eq rfl rfl)
  generalize (v.modCw port fun c => { c with helloOk := c.helloOk + 1 }) = w at *
  obtain ⟨raises, recomp⟩ := w.setCw_raises (st := cwUp) hp (iff_of_false (by rw [inHello']; decide) (by decide))
  have moved := carries_setCw w port cwUp
  obtain ⟨idApart, portApart⟩ := (show ∀ p < 4, (CWP_PSTAT_NBR_ID.key p 0 ∉ heldKeys ∧ CWP_PSTAT_NBR_ID.key p 0 < 8 * rEVR_PEND.addr)
    ∧ CWP_PSTAT_NBR_PORT.key p 0 ∉ heldKeys ∧ CWP_PSTAT_NBR_PORT.key p 0 < 8 * rEVR_PEND.addr by decide) port hp
  refine ⟨(State.cwState_after ..).trans (w.cwState_setCw hp (by decide)), ?_, ?_, counts_after_cwp (by decide) (counted.rx_kept hp moved) s _,
    (raises.since events).after, ?_, (nearer.trans moved.1).keeps_after s _⟩
  · rw [get_after_memory _ _ _ (by decide), moved.get idApart, neighbour]
    exact Nat.mod_eq_of_lt (lt.trans (by decide))
  · rw [get_after_memory _ _ _ (by decide), moved.get portApart, neighbourPort]
  · rw [get_after_memory _ _ _ (by decide), recomp]

end Sys2Proof.Machine
end

section
/-!
SUPPORT. The rows of advertisements and paths (R364 to R367).
-/

namespace Sys2Proof.Machine

variable {L : List Nat} {s t u : State} {p : Nat}

-- an advertisement received

/-- The credit units of an advertisement's frame. -/
def lsaUnits (l : Lsa) : Nat := (36 + 16 + 4 * l.links.length + 63) / 64

/-- What an advertisement accepted brings about. -/
def State.lsaJudged (s : State) (p : Nat) (l : Lsa) : State :=
  if s.withdrawn then s
  else if l.node = s.nodeId ∧ l.serial != deviceSerial then
    if l.serial < deviceSerial then s.withdraw p else s.raise (130 + 4 * p)
  else
    match s.fb.nodes.look l.node with
    | some old => if old.seq < l.seq then (s.storeLsa l).flood l p else s
    | none => if 256 ≤ s.fb.nodes.length then (s.set JNR_STATUS_FULL 1).raise (130 + 4 * p) else (s.storeLsa l).flood l p

theorem lsaJudged_known {l old : Lsa} (joined : s.withdrawn = false) (other : l.node ≠ s.nodeId) (known : s.fb.nodes.look l.node = some old) :
    s.lsaJudged p l = if old.seq < l.seq then (s.storeLsa l).flood l p else s := by
  unfold State.lsaJudged
  rw [joined, if_neg (by simp), if_neg (fun h => other h.1), known]

theorem lsaJudged_new {l : Lsa} (joined : s.withdrawn = false) (other : l.node ≠ s.nodeId) (new : s.fb.nodes.look l.node = none) :
    s.lsaJudged p l = if 256 ≤ s.fb.nodes.length then (s.set JNR_STATUS_FULL 1).raise (130 + 4 * p) else (s.storeLsa l).flood l p := by
  unfold State.lsaJudged
  rw [joined, if_neg (by simp), if_neg (fun h => other h.1), new]

theorem lsaJudged_own {l : Lsa} (joined : s.withdrawn = false) (own : l.node = s.nodeId) (ne : l.serial ≠ deviceSerial) :
    s.lsaJudged p l = if l.serial < deviceSerial then s.withdraw p else s.raise (130 + 4 * p) := by
  unfold State.lsaJudged
  rw [joined, if_neg (by simp), if_pos ⟨own, by simpa using ne⟩]

/-- The frame of an advertisement is taken, if it is the one expected. -/
def State.lsaTaken (s : State) (p : Nat) (l : Lsa) : Bool × State := s.acceptFrame p l.linkSeq 0x02 (s.get JNR_CFG_DOMAIN) 0 (lsaUnits l)

theorem exec_lsaReceived (p : Nat) (l : Lsa) (s : State) : exec (.lsaReceived p l) s =
    actWhen s (decide (p < 4) && s.portsRun && s.cwState p == cwUp) fun s =>
      if (s.lsaTaken p l).1 then ((s.lsaTaken p l).2.freeUnits p 0 (lsaUnits l)).lsaJudged p l else (s.lsaTaken p l).2 := by
  show execLsaReceived p l s = _
  refine congrArg (actWhen s _) (funext fun v => ?_)
  show (match v.lsaTaken p l with
    | (false, s) => s
    | (true, s) => (s.freeUnits p 0 (lsaUnits l)).lsaJudged p l) = _
  obtain ⟨ok, w⟩ := v.lsaTaken p l
  cases ok
  · rfl
  · rfl

/-- A frame other than the one expected is only counted (R360). -/
theorem lsaTaken_unexpected {l : Lsa} (up : s.cwState p = cwUp) (ne : l.linkSeq ≠ (s.cwPort p).rxSeq) :
    s.lsaTaken p l = (false, s.bumpCwp CWP_RX_FRAMES p) := by
  unfold State.lsaTaken State.acceptFrame
  rw [if_neg (by simp [up])]
  simp only [State.cwPort_bumpCwp]
  rw [if_pos (by simpa using ne), discardFrame_unexpected]

/-- What a frame accepted has left: it is counted, the next one is expected, and nothing else but the ports' accounts has changed. -/
structure Taken (p : Nat) (s t : State) : Prop where
  rxSeq : (t.cwPort p).rxSeq = ((s.cwPort p).rxSeq + 1) % 2 ^ 32
  counted : Counts CWP_RX_FRAMES p 1 s t
  fabric : ∃ ports, t.fb = { s.fb with ports := ports }
  state : t.cwState p = s.cwState p
  nodeId : t.nodeId = s.nodeId
  only : FabricOnly s t
  events : EventsKept s t

/-- The port's account of a frame accepted. -/
def CwPort.accepts (c : CwPort) : CwPort := { c with rxSeq := (c.rxSeq + 1) % 2 ^ 32, resync := false, sinceAck := c.sinceAck + 1 }

theorem lsaTaken_expected {l : Lsa} (hp : p < 4) (up : s.cwState p = cwUp) (expected : l.linkSeq = (s.cwPort p).rxSeq) :
    (s.lsaTaken p l).1 = true ∧ ((s.lsaTaken p l).2.cwPort p).rxSeq = ((s.cwPort p).rxSeq + 1) % 2 ^ 32
      ∧ (∃ ports, (s.lsaTaken p l).2.fb = { s.fb with ports := ports }) ∧ Carries trafficKeys (s.bumpCwp CWP_RX_FRAMES p) (s.lsaTaken p l).2 := by
  have apart := (show ∀ p < 4, CWP_RX_FRAMES.key p 0 ≠ JNR_CFG_DOMAIN.key 0 0 ∧ CWP_PSTAT_SAT.key p 0 ≠ JNR_CFG_DOMAIN.key 0 0 by decide) p hp
  have domain : (s.bumpCwp CWP_RX_FRAMES p).get JNR_CFG_DOMAIN = s.get JNR_CFG_DOMAIN := State.get_bump_ne s apart.1 apart.2 (by decide)
  have taken : s.lsaTaken p l = if 16 ≤ (s.cwPort p).accepts.sinceAck then
      (true, (((s.bumpCwp CWP_RX_FRAMES p).modCw p CwPort.accepts).modCw p fun c => { c with sinceAck := 0 }).sendLink p 0x03 l.linkSeq [])
      else (true, (s.bumpCwp CWP_RX_FRAMES p).modCw p CwPort.accepts) := by
    have known : (!knownType 0x02) = false := by decide
    have seq : (l.linkSeq != (s.cwPort p).rxSeq) = false := by simpa using expected
    have own : (s.get JNR_CFG_DOMAIN != (s.bumpCwp CWP_RX_FRAMES p).get JNR_CFG_DOMAIN) = false := by simp [domain]
    unfold State.lsaTaken State.acceptFrame
    simp only [up, bne_self_eq_false, State.cwPort_bumpCwp, seq, known, own, Bool.false_eq_true, if_false, State.cwPort_modCw_same]
    rfl
  rw [taken]
  have port : ((s.bumpCwp CWP_RX_FRAMES p).modCw p CwPort.accepts).cwPort p = (s.cwPort p).accepts := by
    rw [State.cwPort_modCw_same, State.cwPort_bumpCwp]
  have fb : ∃ ports, ((s.bumpCwp CWP_RX_FRAMES p).modCw p CwPort.accepts).fb = { s.fb with ports := ports } := ⟨_, by
    rw [← State.bumpCwp_fb s CWP_RX_FRAMES p]
    rfl⟩
  have carries : Carries trafficKeys (s.bumpCwp CWP_RX_FRAMES p) ((s.bumpCwp CWP_RX_FRAMES p).modCw p CwPort.accepts) := (Carries.refl _ _).modCw _ _
  generalize (s.bumpCwp CWP_RX_FRAMES p).modCw p CwPort.accepts = v at *
  obtain ⟨_, fb⟩ := fb
  split
  · refine ⟨rfl, ?_, ⟨v.fb.ports.put p { v.cwPort p with sinceAck := 0 }, ?_⟩, (carries.modCw _ _).trans (sends_sendLink _ _ _ _ _).1⟩
    · rw [State.cwPort_of_fb (State.sendLink_fb ..), State.cwPort_modCw_same, port]
      rfl
    · rw [State.sendLink_fb]
      show ({ v.fb with ports := v.fb.ports.put p { v.cwPort p with sinceAck := 0 } } : FabricState) = _
      rw [fb]
  · exact ⟨rfl, by rw [port]; rfl, ⟨_, fb⟩, carries⟩

/-- The advertisement expected is taken, and its units freed (R360, R361). -/
theorem taken_lsa {l : Lsa} (hp : p < 4) (up : s.cwState p = cwUp) (expected : l.linkSeq = (s.cwPort p).rxSeq) :
    Taken p s ((s.lsaTaken p l).2.freeUnits p 0 (lsaUnits l)) := by
  obtain ⟨-, rxSeq, ⟨_, fb⟩, carries⟩ := lsaTaken_expected hp up expected
  obtain ⟨freed, ⟨_, freedFb⟩, ports⟩ := sends_freeUnits (s.lsaTaken p l).2 p 0 (lsaUnits l)
  have all := carries.trans freed
  obtain ⟨_, _, _, _, _, _, port⟩ := ports p
  have keys := (show ∀ p < 4, (CWP_PSTAT_STATE.key p 0 ∉ trafficKeys ∧ CWP_PSTAT_STATE.key p 0 < 8 * rEVR_PEND.addr)
    ∧ (JNR_CFG_NODE_ID.key 0 0 ∉ trafficKeys ∧ JNR_CFG_NODE_ID.key 0 0 < 8 * rEVR_PEND.addr)
    ∧ CWP_RX_FRAMES.key p 0 ≠ JNR_CFG_NODE_ID.key 0 0 ∧ CWP_PSTAT_SAT.key p 0 ≠ JNR_CFG_NODE_ID.key 0 0 by decide) p hp
  obtain ⟨state, node, rxApart, satApart⟩ := keys
  exact {
    rxSeq := by rw [port]; exact rxSeq
    counted := (counts_rx s hp).rx_kept hp (all.mono trafficKeys_held)
    fabric := ⟨_, by rw [freedFb, fb]⟩
    state := (all.get state).trans (State.cwState_bumpCwp s (by decide) hp hp)
    nodeId := by
      have same : (s.bumpCwp CWP_RX_FRAMES p).get JNR_CFG_NODE_ID = s.get JNR_CFG_NODE_ID := State.get_bump_ne s rxApart satApart (by decide)
      rw [State.nodeId, State.nodeId, all.get node, same]
    only := (fabricOnly_bumpCwp s _ _).trans all.1
    events := (eventsKept_bumpCwp s (by decide) hp).trans all.2.2 }

theorem effect_lsaReceived {l : Lsa} {P : State → Prop} (expected : l.linkSeq = (s.cwPort p).rxSeq)
    (hP : p < 4 → s.cwState p = cwUp → ∀ v, Taken p s v → P (s.after s.now (v.lsaJudged p l))) :
    Effect (.lsaReceived p l) s (p < 4 ∧ s.portsRun = true ∧ s.cwState p = cwUp) P := by
  refine effect_actWhen (exec_lsaReceived p l s) (by simp [and_assoc]) fun ⟨hp, _, up⟩ => ?_
  rw [if_pos (lsaTaken_expected hp up expected).1]
  exact hP hp up _ (taken_lsa hp up expected)

/-- What is accepted stays so, whatever is sent or shown after it. -/
theorem Taken.accepted {v w : State} (g : Taken p s v) (hp : p < 4) (c : Carries L v w) (hl : CWP_RX_FRAMES.key p 0 ∉ L)
    (rxSeq : (w.cwPort p).rxSeq = (v.cwPort p).rxSeq) : Accepted p s (s.after s.now w) := by
  refine ⟨by rw [State.cwPort_after, rxSeq, g.rxSeq], ?_⟩
  exact counts_after_cwp (by decide) (g.counted.between rfl (c.get ⟨hl, (rxKey_apart hp).2⟩)) s _

/-- Storing an advertisement and passing it on (R365). -/
theorem storeLsa_flood_effect (s : State) (l : Lsa) (p : Nat) :
    let t := (s.storeLsa l).flood l p
    (∃ ports, t.fb = { s.fb with ports := ports, nodes := s.fb.nodes.put l.node l, heard := s.fb.heard.put l.node s.now })
      ∧ t.get JNR_STATUS_RECOMP = 1 ∧ (t.cwPort p).rxSeq = (s.cwPort p).rxSeq ∧ Carries junctionKeys s t := by
  obtain ⟨sends, ⟨_, fb⟩, ports⟩ := sends_flood (s.storeLsa l) l p
  obtain ⟨_, _, _, _, _, _, port⟩ := ports p
  have stored : (s.storeLsa l).fb = { s.fb with nodes := s.fb.nodes.put l.node l, heard := s.fb.heard.put l.node s.now } := State.askPaths_fb _
  have samePort : (s.storeLsa l).cwPort p = s.cwPort p := by
    unfold State.cwPort
    rw [stored]
  refine ⟨⟨_, by rw [fb, stored]⟩, (sends.get (by decide)).trans (State.get_askPaths _), by rw [port, samePort], ?_⟩
  exact ((((Carries.refl _ s).fabric _).trans (carries_askPaths _)).mono (by decide)).trans (sends.mono (by decide))

theorem rxKey_junction (hp : p < 4) : CWP_RX_FRAMES.key p 0 ∉ junctionKeys := (show ∀ p < 4, CWP_RX_FRAMES.key p 0 ∉ junctionKeys by decide) p hp

theorem row_lsaReceived (port : Nat) (lsa : Lsa) (s : State) : Rows.lsaReceived port lsa s := by
  rintro ⟨expected, joined, other, new, room⟩
  refine effect_lsaReceived expected fun hp _ v g => ?_
  obtain ⟨_, fb⟩ := g.fabric
  have now := g.only.now
  have joined' : v.withdrawn = false := by rw [State.withdrawn, fb]; exact joined
  rw [lsaJudged_new joined' (by rwa [g.nodeId]) (by rw [fb]; exact new), if_neg (by rw [fb]; exact Nat.not_le.2 room)]
  obtain ⟨⟨_, stored⟩, recomp, rxSeq, carries⟩ := storeLsa_flood_effect v lsa port
  rw [fb, now] at stored
  refine ⟨by rw [State.after_fb, stored], by rw [State.after_fb, stored], ?_, g.accepted hp carries (rxKey_junction hp) rxSeq,
    by rw [State.after_fb, stored], by rw [State.after_fb, stored], (g.only.trans carries.1).keeps_after s _⟩
  rw [get_after_memory _ _ _ (by decide), recomp]

theorem row_lsaReceived_known (port : Nat) (lsa old : Lsa) (s : State) : Rows.lsaReceived_known port lsa old s := by
  rintro ⟨expected, joined, other, known⟩
  refine effect_lsaReceived expected fun hp _ v g => ?_
  obtain ⟨_, fb⟩ := g.fabric
  have joined' : v.withdrawn = false := by rw [State.withdrawn, fb]; exact joined
  rw [lsaJudged_known joined' (by rwa [g.nodeId]) (by rw [fb]; exact known)]
  by_cases newer : old.seq < lsa.seq
  · obtain ⟨⟨_, stored⟩, recomp, rxSeq, carries⟩ := storeLsa_flood_effect v lsa port
    rw [fb] at stored
    rw [if_pos newer, if_pos newer]
    refine ⟨by rw [State.after_fb, stored], fun _ => ?_, g.accepted hp carries (rxKey_junction hp) rxSeq, by rw [State.after_fb, stored],
      (g.only.trans carries.1).keeps_after s _⟩
    rw [get_after_memory _ _ _ (by decide), recomp]
  · rw [if_neg newer, if_neg newer]
    exact ⟨by rw [State.after_fb, fb], fun h => absurd h newer, g.accepted hp (.refl [] v) (by simp) rfl, by rw [State.after_fb, fb],
      g.only.keeps_after s _⟩

theorem row_lsaReceived_full (port : Nat) (lsa : Lsa) (s : State) : Rows.lsaReceived_full port lsa s := by
  rintro ⟨expected, joined, other, new, full⟩
  refine effect_lsaReceived expected fun hp _ v g => ?_
  obtain ⟨_, fb⟩ := g.fabric
  have joined' : v.withdrawn = false := by rw [State.withdrawn, fb]; exact joined
  rw [lsaJudged_new joined' (by rwa [g.nodeId]) (by rw [fb]; exact new), if_pos (by rw [fb]; exact full)]
  have shows : Carries [JNR_STATUS_FULL.key 0 0] v (v.set JNR_STATUS_FULL 1) := (Carries.refl _ v).set (fun _ => by decide) _
  have raised : (v.set JNR_STATUS_FULL 1).get JNR_STATUS_FULL = 1 := State.get_set v JNR_STATUS_FULL 1 0 0 (by decide)
  have same : ((v.set JNR_STATUS_FULL 1).raise (130 + 4 * port)).fb = v.fb := by simp
  have apart := (show ∀ p < 4, CWP_RX_FRAMES.key p 0 ∉ [JNR_STATUS_FULL.key 0 0] by decide) port hp
  refine ⟨by rw [State.after_fb, same, fb], ?_, ((raises_raise _ _ _ (by omega)).since (g.events.trans shows.2.2)).after,
    g.accepted hp (shows.raise _ _) apart (by rw [State.cwPort_of_fb same]), by rw [State.after_fb, same, fb],
    (g.only.trans (shows.raise _ _).1).keeps_after s _⟩
  rw [get_after_memory _ _ _ (by decide)]
  exact (((Carries.refl [] _).raise _ _).get (by decide)).trans raised

theorem fabricOnly_lsaJudged (s : State) (hp : p < 4) (locked : 3 ≤ s.cwState p) (l : Lsa) : FabricOnly s (s.lsaJudged p l) := by
  have stored : FabricOnly s ((s.storeLsa l).flood l p) := (storeLsa_flood_effect s l p).2.2.2.1
  obtain ⟨-, -, -, -, -, withdrawn⟩ := withdraw_effect s hp locked
  unfold State.lsaJudged
  split
  · exact .refl s
  · split
    · split
      · exact withdrawn.1
      · exact (FabricOnly.refl s).raise _ _
    · split
      · split
        · exact stored
        · exact .refl s
      · split
        · exact ((FabricOnly.refl s).set _ _ _ _).raise _ _
        · exact stored

theorem row_lsaReceived_duplicate (port : Nat) (lsa : Lsa) (s : State) : Rows.lsaReceived_duplicate port lsa s := by
  rintro ⟨expected, joined, own⟩
  refine effect_lsaReceived expected fun hp up v g => ?_
  obtain ⟨_, fb⟩ := g.fabric
  have joined' : v.withdrawn = false := by rw [State.withdrawn, fb]; exact joined
  rcases Nat.lt_trichotomy lsa.serial deviceSerial with less | same | greater
  · rw [lsaJudged_own joined' (by rw [g.nodeId, own]) (Nat.ne_of_lt less), if_pos less]
    obtain ⟨dup, shown, -, refused, raises, carries⟩ := withdraw_effect v hp (by rw [g.state, up]; decide)
    refine ⟨fun _ => ⟨by rw [State.after_fb, dup], ?_, (State.cwState_after ..).trans refused, (raises.since g.events).after⟩,
      fun more => absurd less (Nat.lt_asymm more), (g.only.trans carries.1).keeps_after s _⟩
    rw [get_after_memory _ _ _ (by decide), shown]
  · refine ⟨fun less => absurd same (Nat.ne_of_lt less), fun more => absurd same (Nat.ne_of_gt more), ?_⟩
    exact (g.only.trans (fabricOnly_lsaJudged v hp (by rw [g.state, up]; decide) lsa)).keeps_after s _
  · rw [lsaJudged_own joined' (by rw [g.nodeId, own]) (Nat.ne_of_gt greater), if_neg (Nat.lt_asymm greater)]
    refine ⟨fun less => absurd less (Nat.lt_asymm greater), fun _ => ⟨((raises_raise _ _ _ (by omega)).since g.events).after, ?_, ?_⟩,
      (g.only.raise _ _).keeps_after s _⟩
    · rw [State.after_fb, State.raise_fb, fb]
    · rw [State.after_fb, State.raise_fb]
      exact joined'

theorem row_lsaReceived_unexpected (port : Nat) (lsa : Lsa) (s : State) : Rows.lsaReceived_unexpected port lsa s := by
  intro unexpected
  refine effect_actWhen (exec_lsaReceived port lsa s) (by simp [and_assoc]) fun ⟨hp, _, up⟩ => ?_
  rw [lsaTaken_unexpected up unexpected]
  exact ⟨by simp, by simp, counts_after_cwp (by decide) (counts_rx s hp) s _, (fabricOnly_bumpCwp s _ _).keeps_after s _⟩

-- the node's own advertisement, and nodes forgotten

/-- The advertisement that the node originates (R365). -/
def State.ownLsa (s : State) : Lsa := { linkSeq := 0, node := s.nodeId, seq := s.fb.ownSeq + 1, serial := deviceSerial, links := s.ownLinks }

theorem originate_effect (h : s.joined = true) :
    (∃ ports, s.originate.fb = { s.fb with ports := ports, ownSeq := s.fb.ownSeq + 1, ownAt := s.now, nodes := s.fb.nodes.put s.nodeId s.ownLsa })
      ∧ s.originate.get JNR_STATUS_RECOMP = 1 := by
  have originates : s.originate =
      ({ s with fb := { s.fb with ownSeq := s.fb.ownSeq + 1, ownAt := s.now, nodes := s.fb.nodes.put s.nodeId s.ownLsa } }.askPaths).flood s.ownLsa 9 :=
    if_pos h
  rw [originates]
  obtain ⟨sends, ⟨_, fb⟩, -⟩ := sends_flood
    ({ s with fb := { s.fb with ownSeq := s.fb.ownSeq + 1, ownAt := s.now, nodes := s.fb.nodes.put s.nodeId s.ownLsa } }.askPaths) s.ownLsa 9
  exact ⟨⟨_, by rw [fb, State.askPaths_fb]⟩, (sends.get (by decide)).trans (State.get_askPaths _)⟩

theorem row_lsaRefreshTimer (s : State) : Rows.lsaRefreshTimer s := by
  refine effect_actWhen (f := State.originate) rfl (by simp [and_assoc]) fun ⟨_, joined, _⟩ => ?_
  obtain ⟨⟨_, fb⟩, recomp⟩ := originate_effect joined
  refine ⟨by rw [State.after_fb, fb], by rw [State.after_fb, fb], ?_, ?_, by rw [State.after_fb, fb], by rw [State.after_fb, fb],
    (moves_originate s).1.1.keeps_after s _⟩
  · rw [State.after_fb, fb, NMap.look_put_same]
    rfl
  · rw [get_after_memory _ _ _ (by decide), recomp]

theorem onlyRegs_askPaths (s : State) : OnlyRegs [JNR_STATUS_RECOMP.key 0 0, JNR_STATUS_JOINED.key 0 0, JNR_STATUS_NODES.key 0 0] s s.askPaths :=
  ((onlyRegs_set s JNR_STATUS_JOINED _ 0 0).trans ((onlyRegs_set _ JNR_STATUS_NODES _ 0 0).trans (onlyRegs_set _ JNR_STATUS_RECOMP 1 0 0))).mono (by decide)

/-- A node is forgotten. -/
def State.forgets (s : State) (node : Nat) : State := { s with fb := { s.fb with nodes := s.fb.nodes.del node, heard := s.fb.heard.del node } }

theorem exec_lsaAgeOut (node : Nat) (s : State) : exec (.lsaAgeOut node) s =
    actWhen s (s.portsRun && s.fb.nodes.has node && node != s.nodeId && decide (s.fb.heard.lookD node 0 + 40000000000 ≤ s.now))
      fun s => (s.forgets node).askPaths := rfl

theorem row_lsaAgeOut (node : Nat) (s : State) : Rows.lsaAgeOut node s := by
  refine effect_actWhen (exec_lsaAgeOut node s) (by simp [and_assoc]) fun _ => ?_
  have forgotten : FabricOnly s (s.forgets node) := (FabricOnly.refl s).fabric _
  have regs : OnlyRegs [] s (s.forgets node) := onlyRegs_of_eq _ rfl
  have only := forgotten.trans (carries_askPaths (s.forgets node)).1
  obtain ⟨host, media, power⟩ := only.keeps_after s s.now
  refine ⟨by rw [State.after_fb, State.askPaths_fb, State.forgets], ?_, (regs.trans (onlyRegs_askPaths _)).after, host, media, power, only.faults_after s _⟩
  rw [get_after_memory _ _ _ (by decide), State.get_askPaths]

-- the path table

theorem moves_sendFrame (s : State) (f : Frame) : Moves trafficKeys s (s.sendFrame f) := by
  unfold State.sendFrame
  split
  · split
    · exact (sends_enqueueFrame s _ _ f).moves fun _ h => h
    · exact (Moves.refl _ s).network _ _ _ _
  · exact .refl _ s

/-- The path table is shown; no event is lost (R367). -/
theorem showPaths_effect (s : State) : s.showPaths.fb = s.fb ∧ FabricOnly s s.showPaths ∧ EventsKept s s.showPaths := by
  have set (s : State) (f : Field) (hf : f ∈ [JNR_PATH_NODE, JNR_PATH_PORT, JNR_PATH_HOPS, JNR_PATH_V]) (v n : Nat) : EventsKept s (s.set f v n) := by
    by_cases has : f.reg.has n 0 = true
    · refine (EventsKept.refl s).set ?_
      have place : n < 256 := by
        have shape := (show ∀ f ∈ [JNR_PATH_NODE, JNR_PATH_PORT, JNR_PATH_HOPS, JNR_PATH_V], f.reg.first = 0 ∧ f.reg.count = 256 by decide) f hf
        simp [Reg.has, shape.1, shape.2] at has
        omega
      have start := (show ∀ f ∈ [JNR_PATH_NODE, JNR_PATH_PORT, JNR_PATH_HOPS, JNR_PATH_V],
        f.reg.first = 0 ∧ f.reg.stride = 4 ∧ f.reg.addr + 1024 < rEVR_PEND.addr ∧ f.lsb < 32 by decide) f hf
      simp only [Field.key, Reg.at, start.1, start.2.1]
      omega
    · rw [show s.set f v n = s from if_neg has]
      exact .refl s
  have shown (s : State) (n a b c d : Nat) (u : State)
      (hu : u = (((s.set JNR_PATH_NODE a n).set JNR_PATH_PORT b n).set JNR_PATH_HOPS c n).set JNR_PATH_V d n) :
      u.fb = s.fb ∧ FabricOnly s u ∧ EventsKept s u := by
    subst hu
    exact ⟨by simp, ((((FabricOnly.refl s).set _ _ _ _).set _ _ _ _).set _ _ _ _).set _ _ _ _,
      (((set s _ (by simp) _ _).trans (set _ _ (by simp) _ _)).trans (set _ _ (by simp) _ _)).trans (set _ _ (by simp) _ _)⟩
  refine State.each_rel (R := fun s t => t.fb = s.fb ∧ FabricOnly s t ∧ EventsKept s t) (fun s => ⟨rfl, .refl s, .refl s⟩)
    (fun h g => ⟨g.1.trans h.1, h.2.1.trans g.2.1, h.2.2.trans g.2.2⟩) (fun n t => ?_) _ s
  split
  · exact shown t n _ _ _ 1 _ rfl
  · exact shown t n 0 0 0 0 _ rfl

/-- A path table is in force. -/
def State.withPaths (s : State) (m : NMap (Nat × Nat)) : State := { s with fb := { s.fb with paths := m } }

/-- The path table as computed is in force, and its change an event. -/
def State.repathed (s : State) : State := if s.newPaths = s.fb.paths then s else (s.withPaths s.newPaths).showPaths.raise 131

theorem repathed_effect (s : State) :
    s.repathed.fb = { s.fb with paths := s.newPaths } ∧ (s.newPaths ≠ s.fb.paths → Raises 131 s s.repathed) ∧ FabricOnly s s.repathed := by
  unfold State.repathed
  split
  · next same => exact ⟨by rw [same], fun ne => absurd same ne, .refl s⟩
  · obtain ⟨fb, only, events⟩ := showPaths_effect (s.withPaths s.newPaths)
    have replaced : FabricOnly s (s.withPaths s.newPaths) := (FabricOnly.refl s).fabric _
    have kept : EventsKept s (s.withPaths s.newPaths) := .of_eq rfl rfl
    refine ⟨?_, fun _ => (raises_raise _ 131 0 (by decide)).since (kept.trans events), (replaced.trans only).raise _ _⟩
    rw [State.raise_fb, fb, State.withPaths]

/-- Frames that waited for new paths are taken out of their queue. -/
def State.localTaken (s : State) : State := { s with fb := { s.fb with localQ := [] } }

/-- The recomputation is done with. -/
def State.pathsDone (s : State) : State := s.repathed.set JNR_STATUS_RECOMP 0

theorem exec_pathRecomputeDone (s : State) : exec .pathRecomputeDone s =
    actWhen s (s.flag JNR_STATUS_RECOMP) fun s => s.pathsDone.localTaken.each s.pathsDone.fb.localQ fun f s => s.sendFrame f := rfl

theorem row_pathRecomputeDone (s : State) : Rows.pathRecomputeDone s := by
  refine effect_actWhen (exec_pathRecomputeDone s) Iff.rfl fun _ => ?_
  obtain ⟨fb, raises, only⟩ := repathed_effect s
  have queue : s.pathsDone.fb.localQ = s.fb.localQ := by rw [State.pathsDone, State.set_fb, fb]
  have paths : s.pathsDone.localTaken.fb = { s.fb with paths := s.newPaths, localQ := [] } := by
    rw [State.localTaken, State.pathsDone, State.set_fb, fb]
  have shown : s.pathsDone.localTaken.get JNR_STATUS_RECOMP = 0 := State.get_set s.repathed JNR_STATUS_RECOMP 0 0 0 (by decide)
  have done : Carries [JNR_STATUS_RECOMP.key 0 0] s.repathed s.pathsDone.localTaken :=
    ((Carries.refl _ s.repathed).set (f := JNR_STATUS_RECOMP) (fun _ => by decide) 0).fabric _
  rw [queue]
  have moves : Moves trafficKeys s.pathsDone.localTaken (s.pathsDone.localTaken.each s.fb.localQ fun f s => s.sendFrame f) :=
    State.each_rel (Moves.refl _) .trans (fun f s => moves_sendFrame s f) _ _
  have all := done.2.2.trans moves.1.2.2
  obtain ⟨carries, ⟨_, _, _, _, _, sent⟩, -⟩ := moves
  refine ⟨by rw [State.after_fb, sent, paths], fun empty => ?_, ?_, fun ne => ((raises ne).kept all).after,
    ((only.trans done.1).trans carries.1).keeps_after s _⟩
  · rw [State.after_fb, empty]
    exact paths.trans (by rw [← empty])
  · rw [get_after_memory _ _ _ (by decide), carries.get (by decide), shown]

/-- Settles O30: every row of the causeway's links, advertisements and paths does what the statement says of it. -/
theorem causewayLinkAndPaths : Obligations.CausewayLinkAndPaths :=
  ⟨row_causewayTrained, row_causewayTrained_rate, row_helloTimer, row_helloReceived, row_helloReceived_first, row_helloReceived_foreign,
    row_helloReceived_refused, row_helloReceived_duplicate, row_helloReceived_disabled, row_helloDeadTimeout, row_blockLockLoss, row_lsaReceived,
    row_lsaReceived_known, row_lsaReceived_full, row_lsaReceived_duplicate, row_lsaReceived_unexpected, row_lsaRefreshTimer, row_lsaAgeOut,
    row_pathRecomputeDone, row_ackTimer, row_ackReceived, row_nakReceived, row_nakReceived_eighth, row_creditReceived, row_creditReturnTimer,
    row_frameDiscarded, row_frameDiscarded_counted, row_frameDiscarded_again, row_frameDiscarded_unexpected⟩

end Sys2Proof.Machine
end
